-- ==== Sys2Proof/Word.lean ====
section
/-!
DEFINITION. The bit vectors of the device: bytes, 32-bit registers and 64-bit Larder words.
-/

namespace Sys2Proof

/-- One byte of memory, of a packet or of a bus transaction. -/
abbrev Byte := BitVec 8

/-- One 32-bit register of BAR0. -/
abbrev Word := BitVec 32

/-- One 8-byte word of a Larder queue, or a 64-bit register. -/
abbrev DWord := BitVec 64

end Sys2Proof
end

