-- ==== Sys2Proof/Syntax.lean ====
section
/-!
DEFINITION. The commands that the device takes, one constructor for each row of
spec/opcode_table.json. The table gives its rows no operand bits; the operands below are what the
rule of each row says that the step depends on and that comes from outside the model: values written,
bytes received, and outcomes of tests, of analogue hardware or of a bus that only the silicon decides.
-/

namespace Sys2Proof

/-- The supply rails of R26. -/
inductive Rail where
  | vddAon | vddioAon | vddaAdc | vddFlash
  | vddHub | vddTile
  | vdd1Mem | vdd2Mem | vddqMem
  | sphyG (g : Nat) | ioG (g : Nat) | vddioLp | vddPcie | vddaPcie | vddLane | vddaLane
  deriving DecidableEq, Repr

/-- What the checks of R51 and R523 found in one Attic bank. -/
structure BankFound where
  headerOk : Bool
  imageOk : Bool
  seq : Nat
  major : Nat
  minor : Nat
  patch : Nat
  libMajor : Nat
  libMinor : Nat
  libPatch : Nat
  deriving DecidableEq, Repr

/-- The outcome of a converter's self-calibration (R474). -/
structure CalResult where
  ok : Bool
  offset : Int
  gain : Nat
  deriving DecidableEq, Repr

/-- The outcome of a self-test of SECDED-protected memory. -/
inductive CheckResult where
  | clean | corrected | failed
  deriving DecidableEq, Repr

/-- One error that the memory scrub met: where, whether SECDED corrected it, and the address. -/
structure ScrubHit where
  place : Nat
  corrected : Bool
  index : Nat
  addr : Nat
  deriving DecidableEq, Repr

/-- The three requester paths to the registers (R554). -/
inductive Requester where
  | host | mgt | island
  deriving DecidableEq, Repr

/-- Who waits for a HOST read: a channel of the Hoist, or a request of the fabric (R450). -/
inductive ReadOwner where
  | hoist (c : Nat)
  | fabric (key : Nat)
  deriving DecidableEq, Repr

/-- What the bus check of R129 finds: SDA high, perhaps after clock pulses, or a stuck line. -/
inductive BusCheck where
  | free | stuckSda | stuckScl
  deriving DecidableEq, Repr

/-- How a read of host memory ends. -/
inductive HostData where
  | data (bytes : List Byte)
  | failed | poisoned
  deriving DecidableEq, Repr

/-- How a request that the device completes ends. -/
inductive RStatus where
  | none | success | unsupported | abort | retry | noAck | held | poisoned
  deriving DecidableEq, Repr

/-- What the checks of R311 to R313 find when a word is read from a queue: nothing, a corrected word, a word
that SECDED cannot correct (with the data and END bit as stored), a parity error in the next-cell pointer,
an uncorrectable queue descriptor, or a parity error in the owner tag of the cell released. -/
inductive LarderErr where
  | none | corrected
  | uncorrectable (data : Nat) (last : Bool)
  | link | descriptor | owner
  deriving DecidableEq, Repr

/-- What the header check of R71 finds: good, corrected, or not correctable. -/
inductive Header where
  | good | corrected | bad
  deriving DecidableEq, Repr

/-- How a piece ends on a wheel: passed, failed by its residue check, or failed by an uncorrectable drawer error. -/
inductive PieceFate where
  | good | residue | drawer
  deriving DecidableEq, Repr

/-- What a wheel reports at the end of a piece (R188, R288, R292): its fate, corrected drawer and shelf errors, an
uncorrectable shelf error, and whether the tally of the samples read differs from the port's. -/
structure PieceEnd where
  fate : PieceFate
  drawerCorr : Bool
  shelfCorr : Bool
  shelfBad : Bool
  ingestBad : Bool
  deriving DecidableEq, Repr

/-- A request or response of the fabric (R437). -/
structure FabPacket where
  vc : Nat
  typ : Nat
  dst : Nat
  src : Nat
  len : Nat
  poison : Bool
  tag : Nat
  hops : Nat
  status : Nat
  addr : Nat
  data : List Byte
  deriving DecidableEq, Repr

/-- A HELLO (R443): serial, priority and ID of the sender, the best root key that it knows and its hops to that root,
the last authentication step that it has passed, and its hops to each fabric ID (0xFF where it has no route). -/
structure Hello where
  serial : Nat
  prio : Nat
  id : Option Nat
  rootPrio : Nat
  rootSerial : Nat
  rootHops : Nat
  step : Nat
  hops : List Nat
  deriving DecidableEq, Repr

/-- An AUTH message as its checks find it (R444): the START fields; whether the chain ends at the Rostoant root and
names a VKL-8832, with the leaf's serial; whether the signature is good; whether the MAC is good. -/
inductive AuthMsg where
  | start (version serial : Nat)
  | cert (chainOk : Bool) (serial : Nat)
  | key (signOk : Bool)
  | fin (macOk : Bool)
  deriving DecidableEq, Repr

/-- What a port sends: packets above the flits, and link control. -/
inductive FabMsg where
  | packet (p : FabPacket)
  | hello (h : Hello)
  | auth (step : Nat)
  | claim (serial seq req : Nat)
  | grant (root seq serial id : Nat)
  | timeReq
  | timeRsp (t2 t3 : Nat) (est : Int) (valid : Bool)
  | ack (fseq : Nat)
  | nak (fseq : Nat)
  | sleep (state : Nat)
  | wake
  deriving DecidableEq, Repr

/-- What a lane's checker counted: symbols compared, symbols that differed, and differing bits (R426). -/
structure ChkCount where
  symbols : Nat
  symErr : Nat
  bitErr : Nat
  deriving DecidableEq, Repr

/-- A completion that arrives: data, or a status other than success. -/
inductive CplPiece where
  | data (bytes : List Byte) (poisoned : Bool)
  | unsupported
  | abort
  deriving DecidableEq, Repr

/-- An error on the received link (R390). -/
inductive LinkError where
  | receiver | badTlp | badDllp | replayRollover | replayTimeout
  | corrected
  | uncorrectable (header : Bool)
  | malformed | flowControl | overflow | dataLink
  deriving DecidableEq, Repr

/-- A transaction with the management target (R134, R138): how many bytes the controller reads, the bytes that it sends
after the command byte, or one that a START or STOP in the wrong place breaks off. -/
inductive MgtIo where
  | read (len : Nat)
  | write (bytes : List Byte)
  | broken
  deriving DecidableEq, Repr

set_option maxRecDepth 8000

/-- The commands, by the rows of spec/opcode_table.json. -/
inductive Instr where
  /-- VDD_AON and VDDIO_AON enter tolerance; the whole device resets, and the power controller compares the rail order with R43. (R48) `order` is every rail in the order in which it came within tolerance; `porst` and `perst` are the levels on the two reset balls. -/
  | powerOn (order : List Rail) (porst perst : Bool)
  /-- Within 100 ms of finding a sequence error, the power controller commits the sequence-error record to the Attic event log. (R44) -/
  | seqErrorRecordCommit
  /-- VDDIO_AON or a VDDIO_G[g] leaves tolerance, and the outputs it supplies become high-impedance. (R39) `r` is the rail. -/
  | supplyLeavesTolerance (r : Rail)
  /-- PORST_N goes low; a whole-device reset starts, and any strap sampling in progress is abandoned. (R48) -/
  | porstNFall
  /-- PORST_N rises; on the first rise the straps are sampled by majority vote, and the boot starts. (R36) The strap samples 400 ns, 200 ns and 0 ns before the edge: TILES in bits 1:0, MGT_A in bits 4:2. -/
  | porstNRise (s400 s200 s0 : Nat)
  /-- A brown-out on VDD_AON, VDD_HUB or VDDIO_AON resets the device as PORST_N does. (R48) `r` is the rail that browned out. -/
  | brownout (r : Rail)
  /-- A write of DEV_RESET with KEY 0xC10C to GLB.RESET_CTRL requests a device reset, which takes effect 1 µs later. (R50) `v` is the word written to GLB.RESET_CTRL. -/
  | devReset (v : Word)
  /-- The software device reset takes effect: the PCIe link goes down and the device holds itself in reset for 1 ms. (R50) -/
  | deviceResetEffect
  /-- 1 ms after a software reset or a brown-out recovery, the device releases itself and starts the boot while PORST_N is high. (R50) -/
  | internalRelease
  /-- PERST_N goes low and resets the endpoint, DBELL, RING and the host side of BRIDGE; Hoist channels that target host memory halt. (R48) -/
  | perstNFall
  /-- PERST_N rises; PCIE powers up if it was off, and link training begins. (R46) -/
  | perstNRise
  /-- PERST_N has been low for more than 10 ms, and the PCIE domain is powered down. (R535) -/
  | pcieDomainPerstTimeout
  /-- A PCIe hot reset, or a link down from DL_Active, resets the PERST_N scope. (R48) -/
  | hotReset
  /-- A Function Level Reset resets the PERST_N scope while the link stays up. (R48) -/
  | functionLevelReset
  /-- TRST_N goes low and resets the test access logic only. (R48) -/
  | trstNLow
  /-- The hub clocks lock during boot; dial time starts at 0, and MGT begins to answer. (R52) -/
  | hubClocksLocked
  /-- The power controller records each optional rail as present or absent, and blocks without their rails become absent. (R27) Outcomes of the boot calibrations: bit n of `sportCal` for SPORT[n], bit m of `laneCal` for LANE[m], `pcieCal` for PCIE_CAL; `fref`: FREF_P/N runs. -/
  | optionalRailsRecorded (sportCal laneCal : Nat) (pcieCal fref : Bool)
  /-- The Attic bank headers and images are checked, and the valid bank with the newer sequence number is chosen for boot. (R51) What the checks of R51 found in each firmware bank. -/
  | atticBankChosen (b0 b1 : BankFound)
  /-- The safety island firmware passes its check and starts running. (R52) What the island found in the Attic: the CONFIG banks, the identity copies, whether the key pair passed its self-test, and of the event log the largest BOOT, the last record number, the readable records and the newest code; and the challenge that it drew. -/
  | islandFirmwareRunning (cfg0 cfg1 : BankFound) (idA idB keyOk : Bool) (lastBoot lastSeq held newestCode challenge : Nat)
  /-- The PCIe controller becomes ready to enter Detect, and PCIE is powered up if PERST_N allows. (R53) -/
  | pcieControllerReady
  /-- The Larder pool is tested and initialised, and cells with stuck bits are retired. (R55) `hubOk`: the hub tests passed; `stuck`: the cells with a stuck bit. -/
  | larderPoolInitialised (hubOk : Bool) (stuck : List Nat)
  /-- The safety island start-up test ends, and ISLAND_OK is set or the boot fails. (R52) `ok`: the island's start-up test passed. -/
  | startupTestPassed (ok : Bool)
  /-- MADC[A], MADC[B] and AADC end their boot self-calibration. (R474) The self-calibrations of MADC[A], MADC[B] and AADC. -/
  | convertersCalibrated (a b aon : CalResult)
  /-- Training of both LP5X stacks ends, and a stack that failed is fenced. (R55) Whether training of each stack passed. -/
  | lp5xStacksTrained (ok0 ok1 : Bool)
  /-- The next active tile is powered during boot. (R52) -/
  | tilePowered
  /-- A tile's test and its TADC calibration end; failing wheels are fenced, or the whole tile is fenced by fault. (R55) The outcome of the test of TILE[n]: the wheels that failed, the dispatcher and shelf tests and the calibration of TADC[n]. -/
  | tileTestDone (n : Nat) (failed : List Nat) (dispatcherOk shelfOk : Bool) (tadc : CalResult)
  /-- The kernel library is checked and loaded into every tile in service. (R52) `ok`: the library passed its check; `kernels`: the kernel IDs that it holds. -/
  | kernelLibraryLoaded (ok : Bool) (kernels : List Nat)
  /-- The minimum service set is evaluated; READY, and DEGRADED where it applies, are set, or the boot fails. (R56) -/
  | serviceSetEvaluated
  /-- The LTSSM enters Detect and link training begins. (R53) -/
  | ltssmDetect
  /-- The PCIe link reaches DL_Active. (R53) The link's rate code (R410), lanes and flit mode. -/
  | linkDlActive (rate width : Nat) (flit : Bool)
  /-- The change to the highest common link rate completes. (R53) The new rate code and flit mode. -/
  | rateChangeComplete (rate : Nat) (flit : Bool)
  /-- Configuration requests begin to complete normally, and BAR0 and the Inventory table become readable. (R54) -/
  | configReady
  /-- A configuration request is received; before CONFIG_READY it completes with Request Retry Status. (R54) A configuration read or write of the 4 bytes at `off`, with byte enables `be`. -/
  | configurationRequest (write : Bool) (off : Nat) (v : Word) (be : Nat)
  /-- A write of CTRL.EN of a SPORT enables or disables the port, after the check of LINK_RATE and LANES. (R67) The port and the word written to its CTRL. -/
  | sportEnable (n : Nat) (v : Word)
  /-- A write of SOFT_RESET resets the receiver, closes open frames TRUNCATED and clears EN. (R97) The port and the word written to its CTRL. -/
  | sportSoftReset (n : Nat) (v : Word)
  /-- The lanes of a port leave stop state or ULPS, and DESKEW_DONE clears. (R66) The port, and whether its byte clock then runs. -/
  | stopStateExit (n : Nat) (clock : Bool)
  /-- The lanes of a port enter ULPS. (R64) The port. -/
  | ulpsEntry (n : Nat)
  /-- An initial deskew sequence is received, and DESKEW_DONE is set. (R66) The port. -/
  | deskewSequence (n : Nat)
  /-- A frame start short packet is accepted as a new frame and takes an FSN and a stamp, or it is counted and dropped. (R80) The port, virtual channel, frame number and header check. -/
  | frameStartPacket (n vc num : Nat) (hdr : Header)
  /-- A line start packet is received, and its line number is taken for placing the next line. (R81) The port, virtual channel, line number and header check. -/
  | lineStartPacket (n vc num : Nat) (hdr : Header)
  /-- A long packet is received whole; it is sorted as an image line, an embedded line or a dropped packet, and it is unpacked to the shelf. (R81) The port, virtual channel, data type, payload, header and payload checks, and whether the shelf input of the pipeline overflows. -/
  | longPacket (n vc dt : Nat) (bytes : List Byte) (hdr : Header) (crcOk overflow : Bool)
  /-- A generic short packet is counted in DT_DROP and discarded. (R72) The port and the header check. -/
  | genericShortPacket (n : Nat) (hdr : Header)
  /-- A frame end packet closes the open frame; missing lines are appended as damaged, and the frame is judged CORRUPT or not. (R82) The port, virtual channel and header check. -/
  | frameEndPacket (n vc : Nat) (hdr : Header)
  /-- The byte clock is lost, or the lanes leave HS mid-packet; the packet is dropped and counted. (R82) The port, and whether its byte clock still runs. -/
  | phyLinkLost (n : Nat) (clock : Bool)
  /-- No frame end arrives within FRAME_TIMEOUT_MS; the frame is closed TRUNCATED. (R82) The port (32 to 35 an LPORT) and the channel. -/
  | frameTimeout (n k : Nat)
  /-- The active edge of VSYNC on an LPORT starts a frame under R80. (R87) The port. -/
  | lportVsyncActive (m : Nat)
  /-- An LPORT line, a run of DE or WIDTH pixels after HSYNC, is captured. (R87) The port, the words on D[15:0] at the sampling edges from the start of DE or the active edge of HSYNC, and whether the shelf input overflows. -/
  | lportLine (m : Nat) (words : List Nat) (overflow : Bool)
  /-- The inactive edge of VSYNC ends the LPORT frame. (R87) The port. -/
  | lportVsyncInactive (m : Nat)
  /-- A write of the MCLK register starts, stops or retunes the sensor clock, or is discarded when out of range. (R91) The port and the word. -/
  | mclkWrite (n : Nat) (v : Word)
  /-- A write of XRST.PULSE drives XRST_N low for PULSE_US, or restarts a pulse already running. (R93) The port and the word written to XRST. -/
  | xrstPulse (n : Nat) (v : Word)
  /-- The reset pulse timer expires, and XRST_N returns to LEVEL. (R93) The port. -/
  | xrstPulseEnd (n : Nat)
  /-- ILS[j] is sampled 20 µs after an ILL[j] edge, or every 10 ms while ILL[j] is low, and its check is made. (R96) The input, and the code of the held value. -/
  | ilsSample (j code : Nat)
  /-- A write of CTRL.SET steps dial time to DIAL_SET, or is refused while streams are active. (R103) `v` is the word written to REGU.CTRL, with SET at 1. -/
  | dialSet (v : Word)
  /-- A write of RATE_TRIM changes the dial-time rate, or is discarded when out of range. (R102) `v` is the word written. -/
  | rateTrimWrite (v : Word)
  /-- A write of REGU.CTRL.SRC selects local or fabric time; fabric time enters ACQUIRING. (R115) `v` is the word written to REGU.CTRL. -/
  | dialSourceWrite (v : Word)
  /-- No valid root-time estimate arrives for HOLD_MS, and the Regulator enters HOLDOVER. (R115) -/
  | followHoldTimeout
  /-- A write that sets RUN from 0 to 1 copies the staged schedule to the active set and starts it. (R107) The schedule and the word written to its SCHED_CTRL, with RUN at 1. -/
  | trigRun (p : Nat) (v : Word)
  /-- A write that clears RUN stops the schedule at once and ends any pulse or window. (R107) The schedule and the word written to its SCHED_CTRL, with RUN at 0. -/
  | trigRunClear (p : Nat) (v : Word)
  /-- A write of APPLY while running sets APPLY_PENDING for the next period boundary. (R107) The schedule and the word written to its SCHED_CTRL, with APPLY at 1. -/
  | trigApply (p : Nat) (v : Word)
  /-- A period boundary with APPLY_PENDING set copies the staged set into the active set. (R107) The schedule. -/
  | trigPeriodBoundary (p : Nat)
  /-- The Regulator computes the next edge at least 2 µs ahead, and skips a pulse that is too close. (R108) The schedule. -/
  | trigEdgeCompute (p : Nat)
  /-- A scheduled rising edge drives TRIG, and PULSE_COUNT advances. (R105) The schedule. -/
  | trigRisingEdge (p : Nat)
  /-- The falling edge of a pulse comes WIDTH after its rising edge. (R105) The schedule. -/
  | trigFallingEdge (p : Nat)
  /-- An illumination window opens, and the ILL outputs it lights go high. (R110) The schedule. -/
  | illWindowOpen (p : Nat)
  /-- An illumination window closes. (R110) The schedule. -/
  | illWindowClose (p : Nat)
  /-- A window open longer than ILL_MAX is closed, and ILL_LIMIT is set. (R111) The schedule. -/
  | illMaxExpiry (p : Nat)
  /-- A write of GROUP_CMD.START sets the epoch of the masked schedules to GROUP_AT and starts them. (R109) -/
  | groupStart
  /-- A write of GROUP_CMD.STOP clears RUN of every masked schedule in one cycle. (R109) -/
  | groupStop
  /-- An edge on SYNC_IN[m] is taken by its follower, which tracks, locks or gates it. (R113) The input and the edge. -/
  | syncInEdge (m : Nat) (rising : Bool)
  /-- No edge is accepted by the expected edge plus the gate; the follower extrapolates, enters holdover, or is lost. (R113) The input. -/
  | syncEdgeMissed (m : Nat)
  /-- A write that sets SCC CTRL.EN from 0 to 1 starts the bus check. (R129) The controller, the word written to its CTRL, and what the bus check finds. -/
  | sccEnable (n : Nat) (v : Word) (check : BusCheck)
  /-- A write that clears SCC CTRL.EN aborts any transaction in progress, with the result ABORTED. (R120) The controller, the word written to its CTRL, and whether the first data byte of the transaction in progress had begun. -/
  | sccDisable (n : Nat) (v : Word) (begun : Bool)
  /-- A write of SOFT_RESET aborts, releases the lines and then checks the bus. (R129) As SCC_DISABLE, and what the bus check finds. -/
  | sccSoftReset (n : Nat) (v : Word) (begun : Bool) (check : BusCheck)
  /-- A write of RECOVER runs the bus check once no transaction is running, in IDLE or in FAULT. (R129) The controller, the word written to its CTRL, and what the bus check finds. -/
  | sccRecover (n : Nat) (v : Word) (check : BusCheck)
  /-- WAIT_US after the recovery reset pulse ends, the check is repeated once; a second failure sets FAULT. (R129) The controller and what the repeated check finds. -/
  | sccRecoveryWaitEnd (n : Nat) (check : BusCheck)
  /-- A due transaction starts once the bus is free. (R119) The controller. -/
  | sccTransactionStart (n : Nat)
  /-- A transaction ends with its result, which is returned, counted and reported. (R120) The controller, the byte of the transaction that was not acknowledged (0 is the address), and the byte that a read returned. -/
  | sccTransactionEnd (n : Nat) (nackAt : Option Nat) (byte : Byte)
  /-- The SCC reads 0 where it released SDA; it stops driving and waits to restart, or ends ARB_LOST. (R122) The controller, and whether the first data byte had begun. -/
  | arbitrationLost (n : Nat) (begun : Bool)
  /-- A START or STOP that the SCC did not place ends the transaction BUS_ERROR. (R120) The controller, and whether the first data byte had begun. -/
  | busErrorDetected (n : Nat) (begun : Bool)
  /-- SCL is held low by another device for longer than STRETCH_MS; the transaction ends SCL_TIMEOUT. (R120) The controller, and whether the first data byte had begun. -/
  | sclStretchTimeout (n : Nat) (begun : Bool)
  /-- The bus is not free within BUSY_MS of a transaction becoming due; the transaction ends BUSY_TIMEOUT. (R121) The controller. -/
  | busyTimeout (n : Nat)
  /-- A write of 1 to LOCK.ACTIVE requests a lock, which is not granted while the SCC is in FAULT. (R127) The controller. -/
  | lockRequest (n : Nat)
  /-- A write of 0 to LOCK.ACTIVE ends the lock with a STOP and clears HELD, EXPIRED and BROKEN. (R127) The controller. -/
  | lockEnd (n : Nat)
  /-- The lock expires 10 ms after it took effect; STOP is issued and the Escapement is released. (R128) The controller. -/
  | lockExpiry (n : Nat)
  /-- The MGT STATUS command returns the summary status byte. (R134) The transaction. -/
  | mgtStatus (io : MgtIo)
  /-- The MGT IDENTIFY command returns 18 bytes of identity and versions. (R135) The transaction. -/
  | mgtIdentify (io : MgtIo)
  /-- The MGT BOOT_STATUS command returns GLB.BOOT_STATUS. (R134) The transaction. -/
  | mgtBootStatus (io : MgtIo)
  /-- The MGT BOOT_FAULT command returns GLB.BOOT_FAULT. (R134) The transaction. -/
  | mgtBootFault (io : MgtIo)
  /-- The MGT RESET_CAUSE read returns GLB.RESET_CAUSE. (R134) The bytes read, and whether the transaction breaks off. -/
  | mgtResetCauseRead (len : Nat) (broken : Bool)
  /-- The MGT RESET_CAUSE write clears GLB.RESET_CAUSE bits with W1C effect. (R134) The bytes after the command byte, and whether the transaction breaks off. -/
  | mgtResetCauseWrite (bytes : List Byte) (broken : Bool)
  /-- The MGT TILE_WHEELS command returns GLB.TILE_WHEELS[0] to [7]. (R134) The transaction. -/
  | mgtTileWheels (io : MgtIo)
  /-- The MGT ALERT_STATUS command returns the pending alert causes. (R134) The transaction. -/
  | mgtAlertStatus (io : MgtIo)
  /-- The MGT ALERT_CLEAR command clears ALERT_STATUS bits. (R134) The bytes after the command byte, and whether the transaction breaks off. -/
  | mgtAlertClear (bytes : List Byte) (broken : Bool)
  /-- The MGT ALERT_MASK read returns the alert mask. (R134) The bytes read, and whether the transaction breaks off. -/
  | mgtAlertMaskRead (len : Nat) (broken : Bool)
  /-- The MGT ALERT_MASK write sets the alert mask. (R134) The bytes after the command byte, and whether the transaction breaks off. -/
  | mgtAlertMaskWrite (bytes : List Byte) (broken : Bool)
  /-- The MGT MIRROR_ADDR read returns the mirror offset. (R134) The bytes read, and whether the transaction breaks off. -/
  | mgtMirrorAddrRead (len : Nat) (broken : Bool)
  /-- The MGT MIRROR_ADDR write sets the BAR0 offset of the mirror. (R134) The bytes after the command byte, and whether the transaction breaks off. -/
  | mgtMirrorAddrWrite (bytes : List Byte) (broken : Bool)
  /-- The MGT MIRROR_READ command reads the register at MIRROR_ADDR without clearing it and advances the offset by 4. (R136) The transaction. -/
  | mgtMirrorRead (io : MgtIo)
  /-- The MGT MIRROR_WRITE command writes GLB.RESET_CTRL or GLB.RESET_CAUSE; any other offset is denied. (R136) The bytes after the command byte, and whether the transaction breaks off. -/
  | mgtMirrorWrite (bytes : List Byte) (broken : Bool)
  /-- The MGT LAST_ERROR command returns LAST_ERROR and clears it. (R134) The transaction. -/
  | mgtLastError (io : MgtIo)
  /-- The MGT COUNTERS command returns the five MGT counters and clears them. (R134) The transaction. -/
  | mgtCounters (io : MgtIo)
  /-- The MGT CONFIG read returns MGT.CFG. (R134) The bytes read, and whether the transaction breaks off. -/
  | mgtConfigRead (len : Nat) (broken : Bool)
  /-- The MGT CONFIG write sets MGT.CFG. (R134) The bytes after the command byte, and whether the transaction breaks off. -/
  | mgtConfigWrite (bytes : List Byte) (broken : Bool)
  /-- An SMBus transaction with an unsupported command code is not acknowledged and is counted as a PROTOCOL error. (R138) -/
  | mgtUnsupportedCommand
  /-- A read of the Alert Response Address is answered by MGT, which releases MGT_ALERT_N when it wins. (R139) Whether no lower address answers. -/
  | alertResponseRead (wins : Bool)
  /-- SCL is low for 25 ms; the MGT interface is reset and the lines are released. (R138) -/
  | mgtSclTimeout
  /-- A write of ESC CTRL.LOAD checks the staged profile and loads it as the working profile, or makes the profile unusable. (R142) The pipeline. -/
  | escProfileLoad (p : Nat)
  /-- A write of ESC CTRL.FLUSH fails every pending entry of the pipeline with 0x23. (R154) The pipeline. -/
  | escFlush (p : Nat)
  /-- The write window of a frame opens, and the frame's burst falls due. (R152) The pipeline. -/
  | writeWindowOpen (p : Nat)
  /-- A due burst starts on its SCC once the bus is free and no lock is held. (R157) The controller. -/
  | burstStart (n : Nat)
  /-- A burst has not started by its latest start; it is late and sends nothing. (R153) The pipeline. -/
  | burstLatestStartPassed (p : Nat)
  /-- A fetched commit is checked in turn against the committed view, and it is rejected, armed or takes effect at once. (R175) -/
  | commitCheck
  /-- The PLATE_LOAD command checks a configuration plate whole, and then writes its records into the shadow set. (R173) -/
  | plateLoad
  /-- The age of a view exceeds BUDGET_MS; the view becomes STALE, VIOLATED is set and the violation is reported. (R192) The stream. -/
  | freshnessBudgetExpiry (stream : Nat)
  /-- The last write of a frame completes, so the frame is delivered and freshness counts it. (R191) The stream whose oldest written frame or statistics packet is delivered. -/
  | frameDelivered (stream : Nat)
  /-- A write that sets CV_ENABLE.EN starts canvas frames; a write that clears it ends the frame in progress TRUNCATED. (R242) The canvas and the word written to its CV_ENABLE. -/
  | canvasEnable (c : Nat) (v : Word)
  /-- A canvas frame starts, or is deferred, and each enabled view latches its newest good buffer. (R242) The canvas. -/
  | canvasFrameStart (c : Nat)
  /-- A canvas slice is released, its hatching is decided, and its composition job starts. (R242) The canvas, and the pieces into which the dispatcher cuts the job. -/
  | canvasSliceRelease (c pieces : Nat)
  /-- A slice job is released at its effective release, with its deadline, and its first pieces become runnable. (R277) The pipeline, the dewarped output (none for a front-end job), whether the copy on the twin tile is released, and the pieces into which the dispatcher cuts each stage. -/
  | jobRelease (p : Nat) (out : Option Nat) (twin : Bool) (pieces : List Nat)
  /-- An idle healthy wheel takes the runnable piece with the earliest deadline and starts its timer. (R279) The tile and the wheel. -/
  | pieceStart (n w : Nat)
  /-- A piece ends on a wheel; a fault is retried, later pieces become runnable, or the job ends. (R279) The tile, the wheel and what it reports. -/
  | pieceEnd (n w : Nat) (e : PieceEnd)
  /-- A piece timer expires at twice its piece limit, and the piece counts as failed. (R279) The tile and the wheel. -/
  | pieceTimeout (n w : Nat)
  /-- A twin tally arrives and is compared with the host tally, setting TWIN or BAD. (R291) The stream whose next twin tally arrives. -/
  | twinTallyArrival (stream : Nat)
  /-- No twin tally has come by the deadline + 24 µs; the hallmark is enqueued without TWIN. (R291) The stream. -/
  | twinTallyDeadline (stream : Nat)
  /-- A write of TILE CTRL.FENCE with KEY 0xFE9C fences the tile. (R292) The tile and the word written to its CTRL. -/
  | tileFenceSoftware (n : Nat) (v : Word)
  /-- A fence cause fences a tile: its lines stop, its frames end TRUNCATED, and re-admission begins. (R292) The tile and the cause as STATUS.CAUSE codes it: 2 dispatcher, 3 link; 1 wheels, 4 shelf and 5 safety island where the state holds that cause. -/
  | tileFence (n cause : Nat)
  /-- Re-admission places the next affected pipeline, stops its stream, or leaves it unplaced or without a twin. (R294) -/
  | readmissionPlacement
  /-- A producer word is stored in a queue, taking a new cell within credit when it needs one. (R306) The producer stream, whose next word is written. -/
  | larderWordWrite (stream : Nat)
  /-- An 8-byte write to PUSH[q].DATA adds a word with END 0 to a software queue, or is refused. (R308) The queue and the word. -/
  | pushData (q : Nat) (v : BitVec 64)
  /-- An 8-byte write to PUSH[q].DATA_END adds a word with END 1 and completes a packet, or is refused. (R308) The queue and the word. -/
  | pushDataEnd (q : Nat) (v : BitVec 64)
  /-- An 8-byte read of POP[g] delivers the next word of the group's open packet, or underruns. (R309) The group, the bytes read, and what the Larder's checks find. -/
  | popRead (g size : Nat) (err : LarderErr)
  /-- The owner-tag audit of a broken queue ends; its cells are returned and AUDIT clears. (R312) The queue, and the cells whose owner tags have a parity error. -/
  | larderAuditDone (q : Nat) (bad : List Nat)
  /-- A write of FLUSH, or the clearing of EN, flushes a software queue. (R314) The queue, whether its CFG is written (CTRL otherwise), and the word written. -/
  | queueFlush (q : Nat) (cfg : Bool) (v : Word)
  /-- A flush completes and its cells are returned, which releases a reservation that is pending release. (R317) The queue. -/
  | larderFlushDone (q : Nat)
  /-- A write that sets Q[q].CFG.EN of a software queue enables it with its reservation, or is refused. (R315) The queue and the word written to its CFG, with EN at 1. -/
  | queueEnable (q : Nat) (v : Word)
  /-- A write of CTRL.START runs a software channel from ENTRY. (R330) The channel and the word written to its CTRL, with START at 1. -/
  | hoistStart (c : Nat) (v : Word)
  /-- A write of CTRL.STOP stops the channel at the next beat, WAIT or instruction end. (R331) The channel and the word written to its CTRL, with STOP at 1. -/
  | hoistStop (c : Nat) (v : Word)
  /-- The last operation in flight of a stopped channel completes, and the channel enters IDLE. (R331) The channel. -/
  | hoistStopDone (c : Nat)
  /-- The END instruction stops the channel in DONE, setting END_IRQ when IRQ is 1. (R322) The channel, whose current instruction is an END. -/
  | hoistEnd (c : Nat)
  /-- The MOVE instruction checks its spaces and alignment and starts to copy LEN bytes. (R324) The channel, whose current instruction is a MOVE. -/
  | hoistMove (c : Nat)
  /-- The LOOP instruction branches, or counts down and branches, with an optional interrupt at zero. (R328) The channel, whose current instruction is a LOOP. -/
  | hoistLoop (c : Nat)
  /-- The WAIT instruction holds the channel on a fill level, a credit or a time, with pacing. (R327) The channel, whose current instruction is a WAIT. -/
  | hoistWait (c : Nat)
  /-- The SIGNAL instruction waits for earlier writes, then writes a register value, raises an interrupt, or both. (R329) The channel, whose current instruction is a SIGNAL. -/
  | hoistSignal (c : Nat)
  /-- The LOAD instruction loads a register from IMM, from memory or from status. (R323) The channel, whose current instruction is a LOAD. -/
  | hoistLoad (c : Nat)
  /-- The ADD instruction adds a register or IMM to a register. (R323) The channel, whose current instruction is an ADD. -/
  | hoistAdd (c : Nat)
  /-- An instruction with an unknown opcode or a non-zero reserved bit halts the channel with ILLEGAL. (R322) The channel, whose current instruction is illegal. -/
  | hoistIllegalInstruction (c : Nat)
  /-- A waiting condition becomes true, and the channel goes on. (R327) The channel. -/
  | hoistWaitPass (c : Nat)
  /-- A channel is WAITING for longer than WAIT_LIMIT_MS and halts. (R339) The channel. -/
  | hoistWaitLimit (c : Nat)
  /-- A target arbiter grants a 64-byte beat to the highest-priority ready channel; a MOVE ends at its last write. (R332) The target port, 0 HOST writes, 1 HOST read requests, 2 LP5X, 3 FABRIC, 4 the LARDER write port, and what the Larder's checks find on the words read for the beat. -/
  | hoistBeat (port : Nat) (errs : List LarderErr)
  /-- The completion of a read arrives and frees its tag. (R333) The tag of the operation. -/
  | hoistReadCompletion (tag : Nat)
  /-- The acknowledgement of an LP5X or FABRIC write arrives and frees its tag. (R333) The tag of the operation. -/
  | hoistWriteAck (tag : Nat)
  /-- A bus error response arrives; a retry is scheduled, or the channel halts with BUS_ERROR. (R334) The tag of the operation. -/
  | hoistErrorResponse (tag : Nat)
  /-- 1 µs to 2 µs after a bus error, the failed operation is issued again. (R334) The tag of the operation. -/
  | hoistRetry (tag : Nat)
  /-- A read has not completed within its timeout, and the channel halts with COMPLETION_TIMEOUT. (R335) The tag of the operation. -/
  | hoistCompletionTimeout (tag : Nat)
  /-- A device channel moves a slice, full hallmark or statistics packet to its destination and checks the egress tally. (R340) The stream, what the read of the next descriptor of its stream ring returned, and what the Larder's checks find on the words of the packet. -/
  | streamMoverPacket (stream : Nat) (desc : HostData) (errs : List LarderErr)
  /-- A write of a command ring tail doorbell is taken as the new tail when valid. (R346) The ring and the word written. -/
  | crTail (i : Nat) (v : Word)
  /-- A write of a completion ring head doorbell frees slots, and held entries are written. (R346) The ring and the word written. -/
  | cqHead (j : Nat) (v : Word)
  /-- A write of a stream ring tail doorbell posts buffer descriptors. (R346) The ring and the word written. -/
  | srTail (k : Nat) (v : Word)
  /-- A write of DBELL.KICK makes the device read the shadow area within 2 µs. (R349) The word written. -/
  | kick (v : Word)
  /-- The POLL_US timer expires, and the shadow area is read. (R349) -/
  | shadowPoll
  /-- A shadow area read returns, and each value acts as a doorbell write, or the read is discarded. (R349) What the read returned. -/
  | shadowReadDone (r : HostData)
  /-- A write of a ring's CFG.EN enables or disables the ring, after the checks of base, size and CQ. (R347) The ring, 0 to 15 CR, 16 to 79 CQ and 80 to 591 SR, and the word written to its CFG. -/
  | ringEnable (n : Nat) (v : Word)
  /-- The device fetches the next command and its payload from the CR with the highest priority. (R352) What the reads of the entry and of its payload returned. -/
  | commandFetch (entry payload : HostData)
  /-- The NOP command completes at once. (R357) -/
  | nop
  /-- The QUERY command writes register values to host memory without clearing them, then completes. (R358) -/
  | query
  /-- The STREAM_BIND command binds a stream to a stream ring. (R359) -/
  | streamBind
  /-- STREAM_BIND with UNBIND set releases a stream's binding. (R359) -/
  | streamUnbind
  /-- The STREAM_START command enables the pipeline's queues and channels and starts FSN, ledger and freshness. (R360) -/
  | streamStart
  /-- The STREAM_STOP command refuses further frame starts, closes the open frame, and waits for delivery. (R361) -/
  | streamStop
  /-- Delivery ends, or 5 ms pass; the queues are flushed, pending work fails, and STREAM_STOP completes. (R361) The pipeline. -/
  | streamStopDrained (p : Nat)
  /-- The SETTINGS command is checked and rejected, or becomes a ledger entry with its target. (R147) -/
  | settings
  /-- The COMMIT command makes its target busy and queues it for checking, or completes COMMIT_BUSY. (R174) -/
  | commit
  /-- The WINDING command's response is judged against the challenge and the window, and the winding state advances. (R502) -/
  | winding
  /-- The DISPLAYED command's tally and display time are checked against a held frame, which may be confirmed. (R505) -/
  | displayed
  /-- The device stops a stream by itself, flushes it and writes a STREAM_STOPPED asynchronous entry. (R362) -/
  | asyncStreamStop
  /-- TIME_US passes since the first unsignalled entry, and a CQ message is sent. (R373) The completion ring. -/
  | coalesceTimeout (j : Nat)
  /-- A write of INT_ROUTE sets a source's vector and enable; enabling a pending source sends a message. (R372) The source and the word written. -/
  | intRouteWrite (src : Nat) (v : Word)
  /-- The host unmasks an MSI-X vector, and a message that was masked when due is sent. (R370) The vector. -/
  | msixUnmask (vec : Nat)
  /-- A host read through BAR4 reaches LP5X, or completes with Unsupported Request. (R384) The offset in BAR4 and the length in bytes. -/
  | bar4Read (x len : Nat)
  /-- A host write through BAR4 reaches LP5X, or is discarded. (R384) The offset in BAR4, the bytes, and whether the TLP has EP set. -/
  | bar4Write (x : Nat) (bytes : List Byte) (poison : Bool)
  /-- A write to BAR2 is discarded and sets BAR2_WRITE. (R385) -/
  | bar2Write
  /-- An I/O, Type 1 or atomic request, or an over-long BAR0 access, completes with Unsupported Request. (R389) Whether the request is a write, which has no completion. -/
  | unsupportedRequest (write : Bool)
  /-- A completion piece arrives and is placed by its tag and byte count. (R386) The tag, as the number of the read, and the piece. -/
  | pcieCompletionReceived (k : Nat) (p : CplPiece)
  /-- After 1 µs with nothing to send, the transmitter enters L0s. (R394) -/
  | l0sEntry
  /-- A TLP or DLLP to send takes the transmitter out of L0s. (R395) -/
  | l0sExit
  /-- The link has been idle for L1_IDLE_US, and the device requests L1. (R394) -/
  | l1Entry
  /-- A request to send, or the link partner, takes the link out of L1. (R395) -/
  | l1Exit
  /-- CLKREQ_N is released in L1 for L1.1 or L1.2, or asserted by either side to leave them. (R380) Whether CLKREQ_N is asserted. -/
  | clkreqChange (asserted : Bool)
  /-- Low traffic over 1 ms narrows the link in L0p. (R394) The new width. -/
  | l0pNarrow (w : Nat)
  /-- Egress above 50 % of x4, or a host stream start, widens the link. (R394) The new width. -/
  | l0pWiden (w : Nat)
  /-- The host sets D3hot; requests stop, and HOST instructions halt. (R382) -/
  | d3hotEntry
  /-- The host returns the function to D0, and the configuration, rings and bindings are kept. (R382) -/
  | d0Return
  /-- A write to a posted sensor window queues its bytes, or is refused QUEUE_FULL. (R397) The port, the offset in its window and the bytes. -/
  | postedAliasWrite (n a : Nat) (bytes : List Byte)
  /-- A 4-byte read of a posted sensor window returns a ticket and queues a split read. (R398) The port, the offset in its window and the size in bytes. -/
  | postedAliasRead (n a size : Nat)
  /-- The last byte of a split read ends, and the result is placed in COLLECT[t]. (R398) The ticket. -/
  | splitReadDone (t : Nat)
  /-- An 8-byte read of COLLECT[t] in DONE returns the result and frees the ticket. (R398) The ticket. -/
  | collectRead (t : Nat)
  /-- A result not collected within DISCARD_MS is discarded, and its ticket is freed. (R398) The ticket. -/
  | ticketDiscard (t : Nat)
  /-- A write to a synced sensor window queues its bytes; a failure sets SYNC_ERR. (R399) The port, the offset in its window and the bytes. -/
  | syncedAliasWrite (n a : Nat) (bytes : List Byte)
  /-- A read of a synced sensor window is held open behind every earlier access of the port. (R399) The port, the offset in its window and the size in bytes. -/
  | syncedAliasRead (n a size : Nat)
  /-- A held read's bytes end, and it completes with data or Completer Abort and clears SYNC_ERR. (R399) The port. -/
  | syncedReadDone (n : Nat)
  /-- A held read has not ended within HOLD_MS, and it completes with Completer Abort. (R400) The port. -/
  | syncedReadHoldExpired (n : Nat)
  /-- A write to an outbound fabric window is sent as a posted WRITE, or is discarded and logged. (R403) The window, the offset in it and the bytes. -/
  | fabricWindowWrite (w x : Nat) (bytes : List Byte)
  /-- A read of an outbound fabric window is sent and held open, or is refused. (R403) The window, the offset in it and the length in bytes. -/
  | fabricWindowRead (w x len : Nat)
  /-- The response to a held fabric window read arrives, and the read completes. (R403) The fabric tag of the request. -/
  | fabricWindowResponse (tag : Nat)
  /-- A held fabric window read reaches HOLD_MS and completes with Completer Abort. (R403) The fabric tag of the request. -/
  | fabricWindowHoldExpired (tag : Nat)
  /-- A write of OUT_WIN CTRL enables or disables a fabric window; rewrites while EN is 1 are ignored. (R404) The window and the word written. -/
  | outWinCtrlWrite (w : Nat) (v : Word)
  /-- A write of LANE CTRL.EN starts or stops the transmit PLL and the receiver of a lane. (R420) The lane and the word written to its CTRL. -/
  | laneEnable (m : Nat) (v : Word)
  /-- The transmit PLL locks, and TX is ON. (R422) The lane. -/
  | lanePllLocked (m : Nat)
  /-- Signal detect asserts on an ON receiver, and initial adaptation starts. (R419) The lane. -/
  | signalDetectAssert (m : Nat)
  /-- The received swing falls below the threshold, and signal detect deasserts. (R413) The lane. -/
  | signalDetectDeassert (m : Nat)
  /-- Initial adaptation ends, and CDR_LOCK and ADAPT_DONE are set. (R419) The lane, and the CTLE step, gain code and first DFE tap that adaptation found. -/
  | adaptationDone (m ctle gain : Nat) (dfe1 : Int)
  /-- Adaptation does not end within 30 ms; ADAPT_FAIL is set and adaptation restarts. (R419) The lane. -/
  | adaptationTimeout (m : Nat)
  /-- An ON receiver loses clock recovery, which clears CDR_LOCK and starts relocking. (R423) The lane. -/
  | cdrLockLost (m : Nat)
  /-- A receiver relocks from its held coefficients. (R423) The lane. -/
  | cdrRelock (m : Nat)
  /-- FREF is declared lost; transmitters go idle and receivers drop lock. (R416) -/
  | frefLost
  /-- FREF has been within limits for 100 µs, and the lanes restart. (R416) -/
  | frefRestored
  /-- A write of TX_EQ takes effect at the next 64-symbol boundary, or is discarded when out of range. (R418) The lane and the word written. -/
  | txEqWrite (m : Nat) (v : Word)
  /-- The fabric controller, or the forced state, requests a new sleep state for a lane direction. (R421) The lane and the direction, transmit where `tx`, whose requested state is acted on. -/
  | laneStateRequest (m : Nat) (tx : Bool)
  /-- A lane direction reaches ON after a wake. (R422) The lane and the direction. -/
  | laneWakeDone (m : Nat) (tx : Bool)
  /-- A write of CTRL.FABRIC_EN offers the lane to the fabric, or is discarded while a test runs. (R424) The lane and the word written to its CTRL. -/
  | laneFabricEn (m : Nat) (v : Word)
  /-- A write of PATGEN starts or stops the pattern generator. (R425) The lane and the word written to PATGEN. -/
  | patgenEnable (m : Nat) (v : Word)
  /-- A write of PATCHK.EN starts or stops the checker. (R426) The lane, the word written to PATCHK, and what the checker counted since the last command that said so. -/
  | patchkEnable (m : Nat) (v : Word) (c : ChkCount)
  /-- A write of PATCHK.CLEAR zeroes the checker counters. (R426) As PATCHK_ENABLE. -/
  | patchkClear (m : Nat) (v : Word) (c : ChkCount)
  /-- A write of PATCHK.SNAP copies the checker counters of one instant into the snapshot registers. (R427) As PATCHK_ENABLE. -/
  | patchkSnap (m : Nat) (v : Word) (c : ChkCount)
  /-- The checker declares sync after the required run of matching symbols. (R426) The lane. -/
  | checkerSync (m : Nat)
  /-- More than 32 errors in 1,024 symbols clear SYNC. (R426) The lane, and what the checker counted since the last command that said so. -/
  | checkerSyncLoss (m : Nat) (c : ChkCount)
  /-- A write of INJECT.ONE changes the next symbol into its Gray neighbour. (R428) The lane and the word written to INJECT. -/
  | injectOne (m : Nat) (v : Word)
  /-- The rate injector's count reaches 2^RATE_LOG2 symbols, and one symbol is changed. (R428) The lane. -/
  | injectRate (m : Nat)
  /-- A write of LOOPBACK.MODE selects a loopback path within 1 µs. (R429) The lane and the word written. -/
  | loopbackWrite (m : Nat) (v : Word)
  /-- A write of FABRIC CFG.EN starts the fabric, or takes every port DOWN when it is cleared. (R433) The word written to FABRIC.CFG. -/
  | fabricEnable (v : Word)
  /-- A port locks to the codeword boundary and enters AUTH. (R434) The port. -/
  | portTrained (k : Nat)
  /-- Training does not end within 50 ms, and the port goes DOWN. (R434) The port. -/
  | portTrainingTimeout (k : Nat)
  /-- A lane stays unlocked for more than 1 ms, and the port retrains. (R433) The port. -/
  | portRetrain (k : Nat)
  /-- The 1 ms timer sends a HELLO on a port in AUTH or UP. (R443) The port. -/
  | helloSend (k : Nat)
  /-- A HELLO updates the neighbour, the root key and the routes. (R443) The port and the HELLO. -/
  | helloReceived (k : Nat) (h : Hello)
  /-- No HELLO arrives for 3 ms, and the port goes DOWN. (R443) The port. -/
  | helloTimeout (k : Nat)
  /-- An AUTH packet is checked and advances authentication; a failure holds the port. (R444) The port and the message, as its checks find it. -/
  | authMessage (k : Nat) (m : AuthMsg)
  /-- Authentication takes more than 100 ms, and the port enters HELD. (R444) The port. -/
  | authTimeout (k : Nat)
  /-- 1 s in HELD passes, and the port goes DOWN and trains again. (R434) The port. -/
  | heldExpiry (k : Nat)
  /-- A codeword is decoded and its flit is taken, or the flit and all later ones are discarded and a negative acknowledgement is sent. (R435) The port, whether the decoder can correct the codeword, the flit's kind and sequence number, and how many packets of unknown type end in it. -/
  | flitReceived (k : Nat) (ok : Bool) (kind fseq unknown : Nat)
  /-- After 16 data flits or 1 µs, the receiver acknowledges the last good FSEQ. (R436) The port. -/
  | ackSend (k : Nat)
  /-- An acknowledgement frees flits from the replay store. (R436) The port and the sequence number acknowledged. -/
  | ackReceived (k fseq : Nat)
  /-- A negative acknowledgement makes the sender replay, or takes the port DOWN at the limit. (R436) The port and the sequence number that the receiver expects. -/
  | nakReceived (k fseq : Nat)
  /-- Data flits wait 1 ms without any acknowledgement, and the port goes DOWN. (R436) The port. -/
  | ackTimeout (k : Nat)
  /-- The best root key has not changed for 10 ms, so the root is stable. (R445) -/
  | rootStable
  /-- An ID_CLAIM is passed on, or at the root is answered with an ID_GRANT. (R446) The port, the claimant's serial, the sequence number and the ID requested (64 for any). -/
  | idClaim (k serial seq req : Nat)
  /-- An ID_GRANT is passed on, or taken as this device's fabric ID, or refused under ID_STRICT. (R446) The port, the root's serial, the sequence number, the serial that the grant is for, and the ID. -/
  | idGrant (k root seq serial id : Nat)
  /-- A packet for another device is forwarded by its route, or answered HOP_LIMIT or UNREACHABLE. (R449) The port and the packet. -/
  | fabricPacketForward (k : Nat) (p : FabPacket)
  /-- A request for this device is served through an inbound window, or answered with an error. (R450) The port, the packet, and whether the memory controller answers a request to LP5X with an error. -/
  | fabricRequestReceived (k : Nat) (p : FabPacket) (targetError : Bool)
  /-- A READ_DATA or WRITE_ACK response reaches its requester. (R439) The port and the packet. -/
  | fabricResponseReceived (k : Nat) (p : FabPacket)
  /-- A request gets no response within TIMEOUT_US and has timed out. (R439) The tag of the request. -/
  | fabricRequestTimeout (tag : Nat)
  /-- A write of IN_WIN CTRL enables a window after its checks, or disables it. (R452) The window and the word written to its CTRL. -/
  | inWinCtrlWrite (w : Nat) (v : Word)
  /-- The sending device reads the peer control block or its TAIL to find descriptors. (R454) The peer stream, and what the reads of its control block and of the descriptor at HEAD returned. -/
  | peerTailPoll (stream : Nat) (block desc : HostData)
  /-- Every SYNC_PERIOD_US a device sends TIME_REQ on its parent port. (R455) -/
  | timeSyncExchange
  /-- The parent stamps a TIME_REQ and answers with TIME_RSP. (R455) The port, and the nanoseconds from the arrival of TIME_REQ to the codeword that carries the answer. -/
  | timeReq (k turn : Nat)
  /-- A TIME_RSP gives an estimate of root time, which goes to the Regulator or is discarded. (R456) The port, the parent's stamps, its estimate of root time minus its dial time, and its VALID flag. -/
  | timeRsp (k t2 t3 : Nat) (est : Int) (valid : Bool)
  /-- After IDLE_US, or 100 times it, with no data flit, the controller sends a sleep notice and puts the lanes to sleep. (R457) The port. -/
  | portIdleSleep (k : Nat)
  /-- A sleep notice puts the receiving lanes into the named state. (R457) The port and the state named, 2 SLEEP or 3 DEEP. -/
  | sleepNotice (k state : Nat)
  /-- A flit to send wakes the transmitters and sends the wake sequence. (R457) The port. -/
  | portWake (k : Nat)
  /-- A write of CTRL.START copies the staged parameters and loads STATE with INIT. (R463) The unit and the word written to its CTRL. -/
  | tallyStart (u : Nat) (v : Word)
  /-- A write to the DATA window feeds its bytes into the CRC. (R464) The unit and the enabled bytes of the write, in ascending address order. -/
  | tallyDataWrite (u : Nat) (bytes : List Byte)
  /-- A parity error in a tally unit zeroes STATE and is reported. (R469) The unit. -/
  | tallyParityError (u : Nat)
  /-- A write of CTRL.CAL_START starts converter self-calibration, or is discarded while the pair calibrates. (R474) The converter (0 MADC[A], 1 MADC[B], 2 + n TADC[n], 10 AADC) and the word written to its CTRL. -/
  | calStart (c : Nat) (v : Word)
  /-- Self-calibration ends, and its factors are taken or the calibration fails. (R474) The converter and what the calibration found. -/
  | adcCalibrationDone (c : Nat) (r : CalResult)
  /-- A conversion ends, and its result is written and checked against the window and the plausibility pair. (R476) The converter and the raw code. -/
  | adcConversionEnd (c raw : Nat)
  /-- A write of CTRL.GO triggers the injected sequence. (R478) The converter and the word written to its CTRL. -/
  | go (c : Nat) (v : Word)
  /-- A delayed TRIG edge, or the INJ_TIME timer, triggers the injected sequence. (R478) The converter. -/
  | adcUrgentTrigger (c : Nat)
  /-- A conversion has not ended within 5 µs and is abandoned; a second within 10 ms fails the converter. (R480) The converter. -/
  | adcConversionStuck (c : Nat)
  /-- The AADC rest period ends, and the converter powers up for its next pass. (R472) -/
  | aadcPowerUp
  /-- A write of 1 to an ILS_LATCH bit clears the overcurrent latch. (R484) The word written. -/
  | ilsLatchClear (v : Word)
  /-- The SOK_A half-period ends; SOK_A toggles, SOK_B follows inverted, and the generators check each other. (R491) The half-period that the SOK_B generator measured, and whether SOK_B followed within 1 µs. -/
  | sokHalfPeriod (measuredUs : Nat) (followed : Bool)
  /-- A generator check, the lockstep comparator or the island watchdog forces both SOK outputs low. (R492) The SAFE class code of the check that acted: 0x000B lockstep, 0x0009 watchdog, 0x000C generator. -/
  | hardwareForcedLow (code : Nat)
  /-- The periodic island self-test runs every 5 ms. (R497) What the self-test found in the island memories. -/
  | islandSelfTest (result : CheckResult)
  /-- The residue checker self-test of each wheel runs every 8 ms. (R497) The tile, the wheel and whether the residue checker passed. -/
  | residueCheckerSelfTest (n w : Nat) (ok : Bool)
  /-- The scrub of drawers, shelves and LP5X runs every 1,000 ms. (R497) The errors that the scrub found. -/
  | memoryScrub (found : List ScrubHit)
  /-- The island receives a fault code and applies its reaction: SAFE, FENCE, VIEW or LOG. (R497) The fault code (R558) and its detail. -/
  | faultCodeReceived (code detail : Nat)
  /-- After reset, once READY, RUNNING winding and no cause hold, the heartbeat starts. (R493) -/
  | heartbeatStart
  /-- A write of SAFE CTRL.RELEASE with KEY 0xB0C5 restarts the heartbeat, or is refused. (R495) `v` is the word written to SAFE.CTRL. -/
  | release (v : Word)
  /-- The winding deadline passes in RUNNING, and WIND_LAPSE is set. (R503) -/
  | windingDeadline
  /-- The displayed age of a display-confirmed view exceeds its budget, and DISPLAY_STALE is set. (R506) The stream. -/
  | displayBudgetExpiry (stream : Nat)
  /-- Every channel has been 5 °C below WARN_C for 100 ms, and the temperature warning rearms. (R499) -/
  | tempWarnRearm
  /-- A write of SAFETY_VIEWS or DISPLAY_REQ sets bits, or is discarded when it would clear the bit of a running stream. (R500) Whether DISPLAY_REQ is written in place of SAFETY_VIEWS, the register index and the word written. -/
  | safetyViewsWrite (displayReq : Bool) (i : Nat) (v : Word)
  /-- Island log records are committed to the Attic event log within their deadline. (R507) -/
  | logCommit
  /-- A write of LOG_INDEX loads the chosen record into LOG_DATA. (R509) `v` is the word written. -/
  | logIndex (v : Word)
  /-- The SPDM GET_VERSION request is answered. (R516) -/
  | getVersion
  /-- The SPDM GET_CAPABILITIES request is answered. (R516) -/
  | getCapabilities
  /-- The SPDM NEGOTIATE_ALGORITHMS request is answered. (R516) -/
  | negotiateAlgorithms
  /-- The SPDM GET_DIGESTS request is answered with the digest of slot 0. (R516) -/
  | getDigests
  /-- The SPDM GET_CERTIFICATE request returns the certificate chain. (R515) The slot, the offset in the chain and the length. -/
  | getCertificate (slot off len : Nat)
  /-- The SPDM CHALLENGE request is answered with a signature by the device key. (R516) The slot. -/
  | challenge (slot : Nat)
  /-- The SPDM GET_MEASUREMENTS request returns the measurement blocks. (R517) The block, 255 for all or 0 for none, and whether a signature is asked for. -/
  | getMeasurements (i : Nat) (signed : Bool)
  /-- The SPDM KEY_EXCHANGE request starts a session. (R516) -/
  | keyExchange
  /-- The SPDM FINISH request completes a session. (R516) The session, and whether the request verifies. -/
  | finish (id : Nat) (ok : Bool)
  /-- The SPDM HEARTBEAT request is answered. (R516) The session. -/
  | heartbeat (id : Nat)
  /-- The SPDM KEY_UPDATE request updates the session keys. (R516) The session. -/
  | keyUpdate (id : Nat)
  /-- The SPDM END_SESSION request ends a session. (R516) The session. -/
  | endSession (id : Nat)
  /-- Any other SPDM request is answered with ERROR UnsupportedRequest. (R516) -/
  | unsupportedSpdmRequest
  /-- A write of GMAC_CTRL.BIND derives a new hallmark key from a finished session, or is refused. (R518) The word written to GMAC_CTRL. -/
  | gmacBind (v : Word)
  /-- A write of GMAC_CTRL.EN enables hallmark tags; clearing it discards both keys. (R520) The word written to GMAC_CTRL. -/
  | gmacEnable (v : Word)
  /-- A write of UPD_CTRL.START with KEY 0xA771 starts a bank update, or is refused. (R527) The word written to UPD_CTRL. -/
  | atticUpdateStart (v : Word)
  /-- The step-1 image check ends; the update erases its target, or ends REFUSED. (R527) Whether the signature of a firmware image verifies. -/
  | atticImageChecked (sigOk : Bool)
  /-- A sector erase of the target bank completes. (R530) -/
  | atticSectorErased
  /-- A page program completes, and the next page, the read-back or the header follows. (R527) -/
  | atticPageProgrammed
  /-- The body read-back is compared with BODY_CRC; the header is written, or the update ends VERIFY_FAILED. (R527) Whether the flash holds what was programmed. -/
  | atticReadbackDone (held : Bool)
  /-- A write of ATTIC READ_ADDR loads 256 Attic bytes into READ_DATA. (R530) The word written. -/
  | readAddr (v : Word)
  /-- A write of DOM REQ ON starts the power-up of a domain, or is refused. (R540) The domain. -/
  | domainOnRequest (d : Nat)
  /-- A write of DOM REQ SELF_REFRESH starts draining a MEM domain, or is refused. (R538) The domain. -/
  | domainSelfRefreshRequest (d : Nat)
  /-- A write of DOM REQ OFF starts draining a domain, or is refused. (R538) The domain. -/
  | domainOffRequest (d : Nat)
  /-- No operation to a draining domain is left in flight; its outputs are clamped and its clocks stopped. (R539) The domain. -/
  | domainDrained (d : Nat)
  /-- A domain has not drained in 2 ms; its channels halt with DOMAIN_OFF and it is forced down. (R539) The domain. -/
  | domainForced (d : Nat)
  /-- The clamped domain reaches OFF or SELF_REFRESH, and DOMAIN_DONE is set. (R539) The domain. -/
  | domainOffDone (d : Nat)
  /-- A domain reaches ON, and HELD Hoist channels resume. (R540) The domain. -/
  | domainPowerUpDone (d : Nat)
  /-- A write of PWR.STANDBY.ENTER with KEY 0x5AB1 starts standby entry, or is refused. (R537) `v` is the word written to PWR.STANDBY. -/
  | standbyEnter (v : Word)
  /-- Every domain but AON is down, and the state becomes STANDBY. (R537) -/
  | standbyReached
  /-- A 4 µs count window ends, and each monitored clock is compared with its references. (R545) The clock of R543, and its frequency as counted against REFCLK25 and against the ring oscillator. -/
  | clockMonitorWindow (i khz ringKhz : Nat)
  /-- A write to a register with no row of its own takes effect by its access codes, range checks and shadow lock. (R555) The path, the BAR0 offset, the bytes, whether the TLP is poisoned, and, for a register whose write depends on them, whether a bus transaction has begun, what the check of the bus finds, and what the lane's checker counted. -/
  | registerWrite (req : Requester) (off : Nat) (bytes : List Byte) (poison begun : Bool) (check : BusCheck) (c : ChkCount)
  /-- A whole-register read of an RC field returns it and clears it. (R8) The path, the BAR0 offset and the bytes read. -/
  | counterReadClear (req : Requester) (off size : Nat)
  /-- A 4-byte read of the lower half of a _LO/_HI pair latches the upper half of the same instant, together with the pair's identity, in the requester path's latch. (R101) The path and the BAR0 offset. -/
  | lowerHalfRead (req : Requester) (off : Nat)
  /-- The lanes of an enabled SPORT are seen in stop state, and STATUS.PHY_READY is set so that the port starts receiving packets. (R97) The port, and whether its byte clock then runs. -/
  | stopStateEntry (n : Nat) (clock : Bool)
  /-- The PCIe LTSSM enters Recovery, and CNT_C.RECOVERY counts it. (R410) -/
  | ltssmRecoveryEntry
  /-- A receiver error, bad TLP, bad DLLP, replay error or malformed TLP arrives on the link and is reported through AER. (R390) What happened. -/
  | badTlpReceived (e : LinkError)
  /-- A DOE Discovery request is answered with the data objects that the device supports. (R381) The index of the request. -/
  | doeDiscovery (index : Nat)
  deriving DecidableEq, Repr

end Sys2Proof
end

