-- ==== Sys2Proof/WellFormed.lean ====
section
/-!
DEFINITION. Well-formed commands: each operand that numbers a port, pipeline, queue, register or other instance lies in
its range. A command that is not well-formed acts as the one whose number is reduced modulo the range.
-/

namespace Sys2Proof

/-- SYNC_IN[m]. -/
def okSyncIn (n : Nat) : Bool := decide (n < 4)
/-- LPORT[m]. -/
def okLport (n : Nat) : Bool := decide (n < 4)
/-- A fabric port. -/
def okFabPort (n : Nat) : Bool := decide (n < 4)
/-- CANVAS[c]. -/
def okCanvas (n : Nat) : Bool := decide (n < 4)
/-- A port of the Hoist (R334). -/
def okMoverPort (n : Nat) : Bool := decide (n < 5)
/-- A SAFETY_VIEWS or DISPLAY_REQ register. -/
def okViewReg (n : Nat) : Bool := decide (n < 5)
/-- TILE[n]. -/
def okTile (n : Nat) : Bool := decide (n < 8)
/-- LANE[m]. -/
def okLane (n : Nat) : Bool := decide (n < 8)
/-- A converter: A, B, TADC[0] to [7], AADC. -/
def okConv (n : Nat) : Bool := decide (n < 11)
/-- TALLY[u]. -/
def okTally (n : Nat) : Bool := decide (n < 16)
/-- ILL[j]. -/
def okIll (n : Nat) : Bool := decide (n < 16)
/-- CR[i]. -/
def okCr (n : Nat) : Bool := decide (n < 16)
/-- OUT_WIN[w]. -/
def okOutWin (n : Nat) : Bool := decide (n < 16)
/-- A monitored clock (R543). -/
def okClock (n : Nat) : Bool := decide (n < 16)
/-- A virtual channel of a port. -/
def okChan (n : Nat) : Bool := decide (n < 16)
/-- The byte enables of a dword. -/
def okBe (n : Nat) : Bool := decide (n < 16)
/-- A CTLE step. -/
def okCtle (n : Nat) : Bool := decide (n < 16)
/-- A power domain (R533). -/
def okDomain (n : Nat) : Bool := decide (n < 18)
/-- A sensor port, its controller, pipeline or trigger. -/
def okPort (n : Nat) : Bool := decide (n < 32)
/-- A SPORT, or 32 + m for LPORT[m]. -/
def okAnyPort (n : Nat) : Bool := decide (n < 36)
/-- CQ[j]. -/
def okCq (n : Nat) : Bool := decide (n < 64)
/-- A ticket. -/
def okTicket (n : Nat) : Bool := decide (n < 64)
/-- IN_WIN[w]. -/
def okInWin (n : Nat) : Bool := decide (n < 64)
/-- A wheel of a tile. -/
def okWheel (n : Nat) : Bool := decide (n < 128)
/-- An output stream. -/
def okOutput (n : Nat) : Bool := decide (n < 128)
/-- An output or canvas stream. -/
def okView (n : Nat) : Bool := decide (n < 132)
/-- The queue of a stream (R304). -/
def okQueueStream (n : Nat) : Bool := decide (n < 192)
/-- A gain code. -/
def okGain (n : Nat) : Bool := decide (n < 256)
/-- A Larder group. -/
def okGroup (n : Nat) : Bool := decide (n < 256)
/-- A Hoist channel. -/
def okHoist (n : Nat) : Bool := decide (n < 256)
/-- An interrupt source. -/
def okSource (n : Nat) : Bool := decide (n < 512)
/-- SR[k]. -/
def okSr (n : Nat) : Bool := decide (n < 512)
/-- A ring: 0 to 15 CR, 16 to 79 CQ, 80 to 591 SR. -/
def okRing (n : Nat) : Bool := decide (n < 592)
/-- An MSI-X vector. -/
def okVector (n : Nat) : Bool := decide (n < 2048)
/-- A Larder queue. -/
def okQueue (n : Nat) : Bool := decide (n < 4096)
/-- A converter code. -/
def okCode12 (n : Nat) : Bool := decide (n < 4096)
/-- A configuration offset. -/
def okConfig (n : Nat) : Bool := decide (n < 0x1000)
/-- A sensor register address. -/
def okSensor (n : Nat) : Bool := decide (n < 65536)
/-- A fault code without class and instance. -/
def okCode (n : Nat) : Bool := decide (n < 2 ^ 16)
/-- An offset in a fabric window. -/
def okWindow (n : Nat) : Bool := decide (n < 0x100000)
/-- A BAR0 offset of a register. -/
def okBar0 (n : Nat) : Bool := decide (n < 0x2000000)

/-- A command whose operands lie in their ranges. -/
def Instr.wf : Instr → Bool
  | .powerOn _ _ _ => true
  | .seqErrorRecordCommit => true
  | .supplyLeavesTolerance _ => true
  | .porstNFall => true
  | .porstNRise _ _ _ => true
  | .brownout _ => true
  | .devReset _ => true
  | .deviceResetEffect => true
  | .internalRelease => true
  | .perstNFall => true
  | .perstNRise => true
  | .pcieDomainPerstTimeout => true
  | .hotReset => true
  | .functionLevelReset => true
  | .trstNLow => true
  | .hubClocksLocked => true
  | .optionalRailsRecorded _ _ _ _ => true
  | .atticBankChosen _ _ => true
  | .islandFirmwareRunning _ _ _ _ _ _ _ _ _ _ => true
  | .pcieControllerReady => true
  | .larderPoolInitialised _ _ => true
  | .startupTestPassed _ => true
  | .convertersCalibrated _ _ _ => true
  | .lp5xStacksTrained _ _ => true
  | .tilePowered => true
  | .tileTestDone n _ _ _ _ => okTile n
  | .kernelLibraryLoaded _ _ => true
  | .serviceSetEvaluated => true
  | .ltssmDetect => true
  | .linkDlActive _ _ _ => true
  | .rateChangeComplete _ _ => true
  | .configReady => true
  | .configurationRequest _ off _ be => okConfig off && okBe be
  | .sportEnable n _ => okPort n
  | .sportSoftReset n _ => okPort n
  | .stopStateExit n _ => okPort n
  | .ulpsEntry n => okPort n
  | .deskewSequence n => okPort n
  | .frameStartPacket n _ _ _ => okPort n
  | .lineStartPacket n _ _ _ => okPort n
  | .longPacket n _ _ _ _ _ _ => okPort n
  | .genericShortPacket n _ => okPort n
  | .frameEndPacket n _ _ => okPort n
  | .phyLinkLost n _ => okPort n
  | .frameTimeout n k => okAnyPort n && okChan k
  | .lportVsyncActive m => okLport m
  | .lportLine m _ _ => okLport m
  | .lportVsyncInactive m => okLport m
  | .mclkWrite n _ => okPort n
  | .xrstPulse n _ => okPort n
  | .xrstPulseEnd n => okPort n
  | .ilsSample j code => okIll j && okCode12 code
  | .dialSet _ => true
  | .rateTrimWrite _ => true
  | .dialSourceWrite _ => true
  | .followHoldTimeout => true
  | .trigRun p _ => okPort p
  | .trigRunClear p _ => okPort p
  | .trigApply p _ => okPort p
  | .trigPeriodBoundary p => okPort p
  | .trigEdgeCompute p => okPort p
  | .trigRisingEdge p => okPort p
  | .trigFallingEdge p => okPort p
  | .illWindowOpen p => okPort p
  | .illWindowClose p => okPort p
  | .illMaxExpiry p => okPort p
  | .groupStart => true
  | .groupStop => true
  | .syncInEdge m _ => okSyncIn m
  | .syncEdgeMissed m => okSyncIn m
  | .sccEnable n _ _ => okPort n
  | .sccDisable n _ _ => okPort n
  | .sccSoftReset n _ _ _ => okPort n
  | .sccRecover n _ _ => okPort n
  | .sccRecoveryWaitEnd n _ => okPort n
  | .sccTransactionStart n => okPort n
  | .sccTransactionEnd n _ _ => okPort n
  | .arbitrationLost n _ => okPort n
  | .busErrorDetected n _ => okPort n
  | .sclStretchTimeout n _ => okPort n
  | .busyTimeout n => okPort n
  | .lockRequest n => okPort n
  | .lockEnd n => okPort n
  | .lockExpiry n => okPort n
  | .mgtStatus _ => true
  | .mgtIdentify _ => true
  | .mgtBootStatus _ => true
  | .mgtBootFault _ => true
  | .mgtResetCauseRead _ _ => true
  | .mgtResetCauseWrite _ _ => true
  | .mgtTileWheels _ => true
  | .mgtAlertStatus _ => true
  | .mgtAlertClear _ _ => true
  | .mgtAlertMaskRead _ _ => true
  | .mgtAlertMaskWrite _ _ => true
  | .mgtMirrorAddrRead _ _ => true
  | .mgtMirrorAddrWrite _ _ => true
  | .mgtMirrorRead _ => true
  | .mgtMirrorWrite _ _ => true
  | .mgtLastError _ => true
  | .mgtCounters _ => true
  | .mgtConfigRead _ _ => true
  | .mgtConfigWrite _ _ => true
  | .mgtUnsupportedCommand => true
  | .alertResponseRead _ => true
  | .mgtSclTimeout => true
  | .escProfileLoad p => okPort p
  | .escFlush p => okPort p
  | .writeWindowOpen p => okPort p
  | .burstStart n => okPort n
  | .burstLatestStartPassed p => okPort p
  | .commitCheck => true
  | .plateLoad => true
  | .freshnessBudgetExpiry stream => okView stream
  | .frameDelivered stream => okQueueStream stream
  | .canvasEnable c _ => okCanvas c
  | .canvasFrameStart c => okCanvas c
  | .canvasSliceRelease c _ => okCanvas c
  | .jobRelease p _ _ _ => okPort p
  | .pieceStart n w => okTile n && okWheel w
  | .pieceEnd n w _ => okTile n && okWheel w
  | .pieceTimeout n w => okTile n && okWheel w
  | .twinTallyArrival stream => okOutput stream
  | .twinTallyDeadline stream => okOutput stream
  | .tileFenceSoftware n _ => okTile n
  | .tileFence n _ => okTile n
  | .readmissionPlacement => true
  | .larderWordWrite stream => okQueueStream stream
  | .pushData q _ => okQueue q
  | .pushDataEnd q _ => okQueue q
  | .popRead g _ _ => okGroup g
  | .larderAuditDone q _ => okQueue q
  | .queueFlush q _ _ => okQueue q
  | .larderFlushDone q => okQueue q
  | .queueEnable q _ => okQueue q
  | .hoistStart c _ => okHoist c
  | .hoistStop c _ => okHoist c
  | .hoistStopDone c => okHoist c
  | .hoistEnd c => okHoist c
  | .hoistMove c => okHoist c
  | .hoistLoop c => okHoist c
  | .hoistWait c => okHoist c
  | .hoistSignal c => okHoist c
  | .hoistLoad c => okHoist c
  | .hoistAdd c => okHoist c
  | .hoistIllegalInstruction c => okHoist c
  | .hoistWaitPass c => okHoist c
  | .hoistWaitLimit c => okHoist c
  | .hoistBeat port _ => okMoverPort port
  | .hoistReadCompletion _ => true
  | .hoistWriteAck _ => true
  | .hoistErrorResponse _ => true
  | .hoistRetry _ => true
  | .hoistCompletionTimeout _ => true
  | .streamMoverPacket stream _ _ => okQueueStream stream
  | .crTail i _ => okCr i
  | .cqHead j _ => okCq j
  | .srTail k _ => okSr k
  | .kick _ => true
  | .shadowPoll => true
  | .shadowReadDone _ => true
  | .ringEnable n _ => okRing n
  | .commandFetch _ _ => true
  | .nop => true
  | .query => true
  | .streamBind => true
  | .streamUnbind => true
  | .streamStart => true
  | .streamStop => true
  | .streamStopDrained p => okPort p
  | .settings => true
  | .commit => true
  | .winding => true
  | .displayed => true
  | .asyncStreamStop => true
  | .coalesceTimeout j => okCq j
  | .intRouteWrite src _ => okSource src
  | .msixUnmask vec => okVector vec
  | .bar4Read _ _ => true
  | .bar4Write _ _ _ => true
  | .bar2Write => true
  | .unsupportedRequest _ => true
  | .pcieCompletionReceived _ _ => true
  | .l0sEntry => true
  | .l0sExit => true
  | .l1Entry => true
  | .l1Exit => true
  | .clkreqChange _ => true
  | .l0pNarrow _ => true
  | .l0pWiden _ => true
  | .d3hotEntry => true
  | .d0Return => true
  | .postedAliasWrite n a _ => okPort n && okSensor a
  | .postedAliasRead n a _ => okPort n && okSensor a
  | .splitReadDone t => okTicket t
  | .collectRead t => okTicket t
  | .ticketDiscard t => okTicket t
  | .syncedAliasWrite n a _ => okPort n && okSensor a
  | .syncedAliasRead n a _ => okPort n && okSensor a
  | .syncedReadDone n => okPort n
  | .syncedReadHoldExpired n => okPort n
  | .fabricWindowWrite w x _ => okOutWin w && okWindow x
  | .fabricWindowRead w x _ => okOutWin w && okWindow x
  | .fabricWindowResponse _ => true
  | .fabricWindowHoldExpired _ => true
  | .outWinCtrlWrite w _ => okOutWin w
  | .laneEnable m _ => okLane m
  | .lanePllLocked m => okLane m
  | .signalDetectAssert m => okLane m
  | .signalDetectDeassert m => okLane m
  | .adaptationDone m ctle gain _ => okLane m && okCtle ctle && okGain gain
  | .adaptationTimeout m => okLane m
  | .cdrLockLost m => okLane m
  | .cdrRelock m => okLane m
  | .frefLost => true
  | .frefRestored => true
  | .txEqWrite m _ => okLane m
  | .laneStateRequest m _ => okLane m
  | .laneWakeDone m _ => okLane m
  | .laneFabricEn m _ => okLane m
  | .patgenEnable m _ => okLane m
  | .patchkEnable m _ _ => okLane m
  | .patchkClear m _ _ => okLane m
  | .patchkSnap m _ _ => okLane m
  | .checkerSync m => okLane m
  | .checkerSyncLoss m _ => okLane m
  | .injectOne m _ => okLane m
  | .injectRate m => okLane m
  | .loopbackWrite m _ => okLane m
  | .fabricEnable _ => true
  | .portTrained k => okFabPort k
  | .portTrainingTimeout k => okFabPort k
  | .portRetrain k => okFabPort k
  | .helloSend k => okFabPort k
  | .helloReceived k _ => okFabPort k
  | .helloTimeout k => okFabPort k
  | .authMessage k _ => okFabPort k
  | .authTimeout k => okFabPort k
  | .heldExpiry k => okFabPort k
  | .flitReceived k _ _ _ _ => okFabPort k
  | .ackSend k => okFabPort k
  | .ackReceived k _ => okFabPort k
  | .nakReceived k _ => okFabPort k
  | .ackTimeout k => okFabPort k
  | .rootStable => true
  | .idClaim k _ _ _ => okFabPort k
  | .idGrant k _ _ _ _ => okFabPort k
  | .fabricPacketForward k _ => okFabPort k
  | .fabricRequestReceived k _ _ => okFabPort k
  | .fabricResponseReceived k _ => okFabPort k
  | .fabricRequestTimeout _ => true
  | .inWinCtrlWrite w _ => okInWin w
  | .peerTailPoll stream _ _ => okView stream
  | .timeSyncExchange => true
  | .timeReq k _ => okFabPort k
  | .timeRsp k _ _ _ _ => okFabPort k
  | .portIdleSleep k => okFabPort k
  | .sleepNotice k _ => okFabPort k
  | .portWake k => okFabPort k
  | .tallyStart u _ => okTally u
  | .tallyDataWrite u _ => okTally u
  | .tallyParityError u => okTally u
  | .calStart c _ => okConv c
  | .adcCalibrationDone c _ => okConv c
  | .adcConversionEnd c _ => okConv c
  | .go c _ => okConv c
  | .adcUrgentTrigger c => okConv c
  | .adcConversionStuck c => okConv c
  | .aadcPowerUp => true
  | .ilsLatchClear _ => true
  | .sokHalfPeriod _ _ => true
  | .hardwareForcedLow code => okCode code
  | .islandSelfTest _ => true
  | .residueCheckerSelfTest n w _ => okTile n && okWheel w
  | .memoryScrub _ => true
  | .faultCodeReceived _ _ => true
  | .heartbeatStart => true
  | .release _ => true
  | .windingDeadline => true
  | .displayBudgetExpiry stream => okView stream
  | .tempWarnRearm => true
  | .safetyViewsWrite _ i _ => okViewReg i
  | .logCommit => true
  | .logIndex _ => true
  | .getVersion => true
  | .getCapabilities => true
  | .negotiateAlgorithms => true
  | .getDigests => true
  | .getCertificate _ _ _ => true
  | .challenge _ => true
  | .getMeasurements _ _ => true
  | .keyExchange => true
  | .finish _ _ => true
  | .heartbeat _ => true
  | .keyUpdate _ => true
  | .endSession _ => true
  | .unsupportedSpdmRequest => true
  | .gmacBind _ => true
  | .gmacEnable _ => true
  | .atticUpdateStart _ => true
  | .atticImageChecked _ => true
  | .atticSectorErased => true
  | .atticPageProgrammed => true
  | .atticReadbackDone _ => true
  | .readAddr _ => true
  | .domainOnRequest d => okDomain d
  | .domainSelfRefreshRequest d => okDomain d
  | .domainOffRequest d => okDomain d
  | .domainDrained d => okDomain d
  | .domainForced d => okDomain d
  | .domainOffDone d => okDomain d
  | .domainPowerUpDone d => okDomain d
  | .standbyEnter _ => true
  | .standbyReached => true
  | .clockMonitorWindow i _ _ => okClock i
  | .registerWrite _ off _ _ _ _ _ => okBar0 off
  | .counterReadClear _ off _ => okBar0 off
  | .lowerHalfRead _ off => okBar0 off
  | .stopStateEntry n _ => okPort n
  | .ltssmRecoveryEntry => true
  | .badTlpReceived _ => true
  | .doeDiscovery _ => true

end Sys2Proof
end

