-- ==== Sys2Proof/Decode.lean ====
section
/-!
DEFINITION. The decoder of the opcode table. Every row of spec/opcode_table.json gives its command no bits, so no word
spells a command.
-/

namespace Sys2Proof

/-- The command that the table's bits spell: none, for the table has no bits. -/
def decodeTableWord (_nbits _w : Nat) : Option Instr := none

end Sys2Proof
end

