-- ==== Sys2Proof/Config.lean ====
section
/-!
DEFINITION. The values that the manual leaves open, each a constant with no body: nothing can be
proved of one, so a statement that holds, holds whatever the part does. notes/assumptions lists them.
-/

namespace Sys2Proof

/-- A number that the manual does not fix; `n` is the count of such numbers taken before it. -/
opaque Config.freeNat : Nat → Nat

/-- The byte of the Attic at an address that nothing has written since the model began: firmware,
identity and configuration bodies are not in the manual. -/
opaque Config.atticByte : Nat → BitVec 8

/-- Byte `i` of the GMAC tag that the key of handle `key` gives a hallmark (R519); the keys come from sessions whose
secrets are not in the manual. -/
opaque Config.gmacByte : Nat → List (BitVec 8) → Nat → BitVec 8

/-- SHA-384 of a byte string as a number (R517): the encoding of what is measured is not in the manual. -/
opaque Config.digest : List (BitVec 8) → Nat

/-- The event log record, in the order of the partition, that the first commit of this model writes (R529). -/
opaque Config.logBase : Nat

/-- What manufacture draws the serial number from. -/
opaque Config.serialSeed : Nat

/-- The serial number (R514): any 64-bit value but all zeros and all ones. -/
def Config.serialNumber : Nat := 1 + Config.serialSeed % (2 ^ 64 - 2)

/-- The rollback floor that manufacture sets (R524, R531). -/
opaque Config.rollback : BitVec 32

end Sys2Proof
end

