-- ==== Sys2Proof/Machine/Bits.lean ====
section
/-!
DEFINITION. Bit fields, byte order, sparse maps, CRC-32C and the integer rounding that several chapters
share. Every multi-byte value is little-endian (spec/00_scope.md R5).
-/

namespace Sys2Proof.Machine

/-! ### Bit fields of a number -/

/-- Bits `[lsb + width - 1 : lsb]` of `v`. -/
def bitsOf (v lsb width : Nat) : Nat := v / 2 ^ lsb % 2 ^ width

/-- `v` with bits `[lsb + width - 1 : lsb]` replaced by `x`. -/
def putBits (v lsb width x : Nat) : Nat :=
  v - bitsOf v lsb width * 2 ^ lsb + x % 2 ^ width * 2 ^ lsb

/-- Bit `k` of `v`. -/
def bitAt (v k : Nat) : Bool := v / 2 ^ k % 2 == 1

/-- One bit as a number. -/
def b2n (b : Bool) : Nat := if b then 1 else 0

/-- The number whose bit `k` is the truth of `p k`, over `k` below `n`. -/
def maskOf (n : Nat) (p : Nat → Bool) : Nat :=
  (List.range n).foldl (fun m k => m + b2n (p k) * 2 ^ k) 0

/-- How many of the `n` lowest bits of `v` are 1. -/
def popCount (n v : Nat) : Nat :=
  (List.range n).foldl (fun m k => m + b2n (bitAt v k)) 0

/-- `v` limited to `hi`. -/
def satTo (hi v : Nat) : Nat := if v < hi then v else hi

/-- The signed value of the `w` lowest bits of `v` in two's complement. -/
def signedOf (w v : Nat) : Int :=
  let u := v % 2 ^ w
  if u < 2 ^ (w - 1) then Int.ofNat u else Int.ofNat u - Int.ofNat (2 ^ w)

/-- The `w`-bit two's complement word of an integer. -/
def wordOfInt (w : Nat) (x : Int) : Nat := (x % Int.ofNat (2 ^ w)).toNat

/-- `x` limited to `lo` to `hi`. -/
def clampInt (lo hi x : Int) : Int := if x < lo then lo else if hi < x then hi else x

/-- `a / b` rounded up; 0 when `b` is 0. -/
def ceilDiv (a b : Nat) : Nat := if b = 0 then 0 else (a + b - 1) / b

/-! ### Byte order (R5) -/

/-- The `n` little-endian bytes of `v`. -/
def leBytes : Nat → Nat → List Byte
  | 0, _ => []
  | n + 1, v => BitVec.ofNat 8 v :: leBytes n (v / 256)

/-- The number whose little-endian bytes are `bs`. -/
def leNat : List Byte → Nat
  | [] => 0
  | b :: bs => b.toNat + 256 * leNat bs

/-- The number at `off` of `n` little-endian bytes of a byte string; bytes beyond its end are 0. -/
def leAt (bs : List Byte) (off n : Nat) : Nat := leNat ((bs.drop off).take n)

/-- `bs` padded with zeros, or cut, to `n` bytes. -/
def padTo (n : Nat) (bs : List Byte) : List Byte :=
  bs.take n ++ List.replicate (n - bs.length) 0

/-- `bs` followed by the zeros that make its length a multiple of `n`. -/
def padMul (n : Nat) (bs : List Byte) : List Byte :=
  bs ++ List.replicate (if n = 0 then 0 else (n - bs.length % n) % n) 0

/-- `bs` with the bytes from `off` replaced by `new`. -/
def patchBytes (bs : List Byte) (off : Nat) (new : List Byte) : List Byte :=
  bs.take off ++ new ++ bs.drop (off + new.length)

/-! ### Sparse maps -/

/-- A finite map from numbers, as pairs with strictly rising keys. -/
abbrev KMap (α : Type) := List (Nat × α)

/-- The entry of a map at `k`. -/
def kget {α : Type} (k : Nat) : KMap α → Option α
  | [] => none
  | (j, v) :: m => if k = j then some v else kget k m

/-- The map with entry `k` set to `v`. -/
def kput {α : Type} (k : Nat) (v : α) : KMap α → KMap α
  | [] => [(k, v)]
  | (j, u) :: m =>
    if k < j then (k, v) :: (j, u) :: m
    else if k = j then (k, v) :: m
    else (j, u) :: kput k v m

/-- The map without entry `k`. -/
def kdel {α : Type} (k : Nat) : KMap α → KMap α
  | [] => []
  | (j, u) :: m => if k = j then kdel k m else (j, u) :: kdel k m

/-- The entry of a map at `k`, or `d` where the map has none. -/
def kgetD {α : Type} (d : α) (k : Nat) (m : KMap α) : α := (kget k m).getD d

/-- The map with entry `k` set to `v`, listed only where `v` differs from the default `d`. -/
def kputD {α : Type} [DecidableEq α] (d : α) (k : Nat) (v : α) (m : KMap α) : KMap α :=
  if v = d then kdel k m else kput k v m

/-- The entries of a map whose key satisfies `p`. -/
def kfilter {α : Type} (p : Nat → Bool) : KMap α → KMap α
  | [] => []
  | (j, u) :: m => if p j then (j, u) :: kfilter p m else kfilter p m

/-- The keys rise strictly and all are above `k`. -/
def ksortedFrom {α : Type} (k : Nat) : KMap α → Bool
  | [] => true
  | (j, _) :: m => decide (k < j) && ksortedFrom j m

/-- The keys of a map rise strictly. -/
def ksorted {α : Type} : KMap α → Bool
  | [] => true
  | (j, _) :: m => ksortedFrom j m

/-- No entry of a map equals the default `d`. -/
def knoDefault {α : Type} [DecidableEq α] (d : α) : KMap α → Bool
  | [] => true
  | (_, v) :: m => !decide (v = d) && knoDefault d m

/-! ### Lists -/

/-- `l` with position `i` replaced by `x`; `l` itself where there is no such position. -/
def setAt {α : Type} (l : List α) (i : Nat) (x : α) : List α := l.set i x

/-- `l` with the element at `i` changed by `f`. -/
def updAt {α : Type} (l : List α) (i : Nat) (f : α → α) : List α :=
  match l[i]? with
  | some x => l.set i (f x)
  | none => l

/-- The sum of a list of numbers. -/
def sumList : List Nat → Nat
  | [] => 0
  | x :: xs => x + sumList xs

/-- The largest number of a list; 0 for the empty list. -/
def maxList : List Nat → Nat
  | [] => 0
  | x :: xs => max x (maxList xs)

/-- Pieces of `n` elements, `fuel` of them at most. -/
def chunksAux {α : Type} (n : Nat) : Nat → List α → List (List α)
  | 0, _ => []
  | _ + 1, [] => []
  | k + 1, x :: xs => (x :: xs).take n :: chunksAux n k ((x :: xs).drop n)

/-- A list cut into pieces of `n` elements, the last one shorter where `n` does not divide its length. -/
def chunks {α : Type} (n : Nat) (l : List α) : List (List α) := chunksAux n l.length l

/-! ### CRC-32C (R461, ALGO 0): polynomial 0x1EDC6F41 reflected, initial value and final XOR all ones -/

/-- One bit of the reflected CRC-32C register. -/
def crc32cBit (c : Word) : Word :=
  if c.getLsbD 0 then (c >>> 1) ^^^ 0x82F63B78#32 else c >>> 1

/-- `n` bits of the reflected register. -/
def crc32cBits : Nat → Word → Word
  | 0, c => c
  | n + 1, c => crc32cBits n (crc32cBit c)

/-- The register after one byte. -/
def crc32cByte (c : Word) (b : Byte) : Word := crc32cBits 8 (c ^^^ b.setWidth 32)

/-- The register after a byte string, from register value `c`. -/
def crc32cFrom (c : Word) (bs : List Byte) : Word := bs.foldl crc32cByte c

/-- CRC-32C of a byte string. -/
def crc32c (bs : List Byte) : Word := ~~~ (crc32cFrom 0xFFFFFFFF#32 bs)

/-! ### Rounding (R201): the chapters of the pixel path name these -/

/-- `a / b` rounded to the nearest integer, ties away from zero upward by R201's floor form. -/
def floorDiv (a b : Int) : Int := if b = 0 then 0 else a / b

/-- `x` shifted right arithmetically by `n`. -/
def sar (x : Int) (n : Nat) : Int := x / Int.ofNat (2 ^ n)

end Sys2Proof.Machine
end

