-- ==== Sys2Proof/Machine/RegMap.lean ====
section
/-!
DEFINITION. The register map of BAR0: every register of spec/24_register_map.md R549 and of the field
tables of the owning chapters, with the access code of R6, the reset value and, where the chapter
gives one, the range of each field (R555). A row stands for `n1 * n2` registers at
`base + s1 * i + s2 * j`. Bits that no field of a row names behave as RSV (R555).
-/

namespace Sys2Proof.Machine

/-- The access codes of R6; RSV is the code of every bit that no field names. -/
inductive Access where
  | ro | rw | wo | w1c | w1s | rc
  deriving DecidableEq, Repr

/-- One field of a register: its place, its access code, its reset value (`rst + rstIdx * i` for the
instance `i`), and the values a write may give it: `lo` to `hi`, or `alt`. -/
structure RegField where
  lsb : Nat
  width : Nat
  acc : Access
  rst : Nat
  lo : Nat
  hi : Nat
  alt : Nat
  rstIdx : Nat
  deriving DecidableEq, Repr

/-- Registers of one layout; `ev`, `evs` and `evBit` name the CFG_INVALID bit that a write outside a
field's range sets (R555), `sh` says that the register is shadowed (R167). -/
structure RegRow where
  base : Nat
  s1 : Nat
  n1 : Nat
  s2 : Nat
  n2 : Nat
  ev : Nat
  evs : Nat
  evBit : Nat
  sh : Bool
  flds : List RegField
  deriving DecidableEq, Repr

def ro (l w r : Nat) : RegField := ⟨l, w, .ro, r, 0, 2 ^ w - 1, 0, 0⟩
/-- A read-only field whose reset value is the instance number. -/
def roI (l w : Nat) : RegField := ⟨l, w, .ro, 0, 0, 2 ^ w - 1, 0, 1⟩
def rc (l w r : Nat) : RegField := ⟨l, w, .rc, r, 0, 2 ^ w - 1, 0, 0⟩
def w1c (l w r : Nat) : RegField := ⟨l, w, .w1c, r, 0, 2 ^ w - 1, 0, 0⟩
def w1s (l w r : Nat) : RegField := ⟨l, w, .w1s, r, 0, 2 ^ w - 1, 0, 0⟩
def wo (l w : Nat) : RegField := ⟨l, w, .wo, 0, 0, 2 ^ w - 1, 0, 0⟩
def rw (l w r : Nat) : RegField := ⟨l, w, .rw, r, 0, 2 ^ w - 1, 0, 0⟩
/-- A read-write field with the range `lo` to `hi`. -/
def rwr (l w r lo hi : Nat) : RegField := ⟨l, w, .rw, r, lo, hi, lo, 0⟩
/-- A read-write field with the range `lo` to `hi` and one more legal value. -/
def rwz (l w r lo hi alt : Nat) : RegField := ⟨l, w, .rw, r, lo, hi, alt, 0⟩

/-- The rows of the GLB block (03_start_up.md, 24_register_map.md). -/
def rowsGLB : List RegRow := [
  -- GLB_ID
  ⟨0, 0, 1, 0, 1, 0x30, 0, 2, false, [ro 0 16 0x7a9c, ro 16 16 0x8832]⟩,
  -- GLB_REVISION
  ⟨4, 0, 1, 0, 1, 0x30, 0, 2, false, [ro 0 8 0x11, ro 8 8 1]⟩,
  -- GLB_FW_VERSION
  ⟨8, 0, 1, 0, 1, 0x30, 0, 2, false, [ro 0 16 0, ro 16 16 0]⟩,
  -- GLB_FW_PATCH
  ⟨0xc, 0, 1, 0, 1, 0x30, 0, 2, false, [ro 0 16 0]⟩,
  -- GLB_LIB_VERSION
  ⟨0x10, 0, 1, 0, 1, 0x30, 0, 2, false, [ro 0 16 0, ro 16 16 0]⟩,
  -- GLB_LIB_PATCH
  ⟨0x14, 0, 1, 0, 1, 0x30, 0, 2, false, [ro 0 16 0]⟩,
  -- GLB_STRAPS
  ⟨0x20, 0, 1, 0, 1, 0x30, 0, 2, false, [ro 0 2 0, ro 2 3 0, ro 8 4 0, ro 16 7 0]⟩,
  -- GLB_EVENT
  ⟨0x30, 0, 1, 0, 1, 0x30, 0, 2, false, [w1c 0 1 0, w1c 1 1 0, w1c 2 1 0]⟩,
  -- GLB_EVENT_EN
  ⟨0x34, 0, 1, 0, 1, 0x30, 0, 2, false, [rw 0 3 0]⟩,
  -- GLB_ACCESS_ADDR
  ⟨0x38, 0, 1, 0, 1, 0x30, 0, 2, false, [ro 0 26 0, ro 26 2 0]⟩,
  -- GLB_SCRATCH
  ⟨0x3c, 0, 1, 0, 1, 0x30, 0, 2, false, [rw 0 32 0]⟩,
  -- GLB_INT_SUMMARY
  ⟨0x40, 0, 1, 4, 16, 0x30, 0, 2, false, [ro 0 32 0]⟩,
  -- GLB_BOOT_STATUS
  ⟨0x100, 0, 1, 0, 1, 0x30, 0, 2, false, [ro 0 1 0, ro 1 1 0, ro 2 1 0, ro 3 1 0, ro 4 1 0, ro 5 1 0, ro 6 1 0, ro 7 1 0, ro 8 1 0, ro 12 4 0, ro 16 8 0, ro 24 2 0]⟩,
  -- GLB_BOOT_FAULT
  ⟨0x104, 0, 1, 0, 1, 0x30, 0, 2, false, [ro 24 8 0, ro 16 8 0, ro 0 16 0]⟩,
  -- GLB_RESET_CAUSE
  ⟨0x108, 0, 1, 0, 1, 0x30, 0, 2, false, [w1c 0 1 1, w1c 1 1 0, w1c 2 1 0, w1c 3 1 0, w1c 4 1 0, w1c 5 1 0, w1c 6 1 0, w1c 7 1 0, w1c 8 1 0]⟩,
  -- GLB_RESET_CTRL
  ⟨0x10c, 0, 1, 0, 1, 0x30, 0, 2, false, [wo 0 16, wo 16 1]⟩,
  -- GLB_TILE_WHEELS
  ⟨0x120, 0, 1, 4, 8, 0x30, 0, 2, false, [ro 0 8 0, ro 8 1 0, ro 9 1 0]⟩]

/-- The rows of the DBELL block (15_host_rings.md). -/
def rowsDBELL : List RegRow := [
  -- DBELL_CR_TAIL
  ⟨0x10000, 0, 1, 4, 16, 0x30, 0, 2, false, [wo 0 16]⟩,
  -- DBELL_CQ_HEAD
  ⟨0x10100, 0, 1, 4, 64, 0x30, 0, 2, false, [wo 0 16]⟩,
  -- DBELL_SR_TAIL
  ⟨0x11000, 0, 1, 4, 512, 0x30, 0, 2, false, [wo 0 16]⟩,
  -- DBELL_KICK
  ⟨0x12000, 0, 1, 0, 1, 0x30, 0, 2, false, [wo 0 1]⟩]

/-- The rows of the RING block (15_host_rings.md). -/
def rowsRING : List RegRow := [
  -- RING_SHADOW_BASE_LO
  ⟨0x25000, 0, 1, 0, 1, 0x25018, 0, 8, false, [rw 12 20 0]⟩,
  -- RING_SHADOW_BASE_HI
  ⟨0x25004, 0, 1, 0, 1, 0x25018, 0, 8, false, [rw 0 32 0]⟩,
  -- RING_SHADOW_CFG
  ⟨0x25008, 0, 1, 0, 1, 0x25018, 0, 8, false, [rw 0 1 0, rwr 1 10 0xa 1 1000, ro 31 1 0]⟩,
  -- RING_ASYNC_CFG
  ⟨0x25010, 0, 1, 0, 1, 0x25018, 0, 8, false, [rw 0 6 0, rw 8 1 0]⟩,
  -- RING_INT_MODE
  ⟨0x25014, 0, 1, 0, 1, 0x25018, 0, 8, false, [ro 0 1 0, ro 1 1 0, ro 8 6 0]⟩,
  -- RING_EVENT
  ⟨0x25018, 0, 1, 0, 1, 0x25018, 0, 8, false, [w1c 0 1 0, w1c 1 1 0, w1c 2 1 0, w1c 3 1 0, w1c 4 1 0, w1c 5 1 0, w1c 6 1 0, w1c 7 1 0, w1c 8 1 0, w1c 9 1 0]⟩,
  -- RING_EVENT_EN
  ⟨0x2501c, 0, 1, 0, 1, 0x25018, 0, 8, false, [rw 0 10 0]⟩,
  -- RING_STOPPED_PIPES
  ⟨0x25020, 0, 1, 0, 1, 0x25018, 0, 8, false, [w1c 0 32 0]⟩,
  -- RING_STOPPED_CANVASES
  ⟨0x25024, 0, 1, 0, 1, 0x25018, 0, 8, false, [w1c 0 4 0]⟩,
  -- RING_INT_ROUTE
  ⟨0x26000, 0, 1, 4, 512, 0x25018, 0, 8, false, [rw 0 11 0, rw 15 1 0, ro 16 1 0]⟩,
  -- CR_BASE_LO
  ⟨0x20000, 0x20, 16, 0, 1, 0x25018, 0, 8, false, [rw 12 20 0]⟩,
  -- CR_BASE_HI
  ⟨0x20004, 0x20, 16, 0, 1, 0x25018, 0, 8, false, [rw 0 32 0]⟩,
  -- CR_CFG
  ⟨0x20008, 0x20, 16, 0, 1, 0x25018, 0, 8, false, [rw 0 1 0, rwr 1 4 4 4 12, rw 8 6 0, rw 16 2 0]⟩,
  -- CR_HEAD
  ⟨0x2000c, 0x20, 16, 0, 1, 0x25018, 0, 8, false, [ro 0 16 0]⟩,
  -- CR_STATUS
  ⟨0x20010, 0x20, 16, 0, 1, 0x25018, 0, 8, false, [ro 0 2 0]⟩,
  -- CQ_BASE_LO
  ⟨0x20400, 0x20, 64, 0, 1, 0x25018, 0, 8, false, [rw 12 20 0]⟩,
  -- CQ_BASE_HI
  ⟨0x20404, 0x20, 64, 0, 1, 0x25018, 0, 8, false, [rw 0 32 0]⟩,
  -- CQ_CFG
  ⟨0x20408, 0x20, 64, 0, 1, 0x25018, 0, 8, false, [rw 0 1 0, rwr 1 4 4 4 12]⟩,
  -- CQ_TAIL
  ⟨0x2040c, 0x20, 64, 0, 1, 0x25018, 0, 8, false, [ro 0 16 0, ro 16 1 1]⟩,
  -- CQ_COALESCE
  ⟨0x20410, 0x20, 64, 0, 1, 0x25018, 0, 8, false, [rwr 0 8 1 1 255, rw 8 16 0]⟩,
  -- CQ_STATUS
  ⟨0x20414, 0x20, 64, 0, 1, 0x25018, 0, 8, false, [ro 0 1 0, ro 1 7 0]⟩,
  -- SR_BASE_LO
  ⟨0x21000, 0x20, 512, 0, 1, 0x25018, 0, 8, false, [rw 12 20 0]⟩,
  -- SR_BASE_HI
  ⟨0x21004, 0x20, 512, 0, 1, 0x25018, 0, 8, false, [rw 0 32 0]⟩,
  -- SR_CFG
  ⟨0x21008, 0x20, 512, 0, 1, 0x25018, 0, 8, false, [rw 0 1 0, rwr 1 4 4 4 12, rw 8 6 0]⟩,
  -- SR_HEAD
  ⟨0x2100c, 0x20, 512, 0, 1, 0x25018, 0, 8, false, [ro 0 16 0]⟩,
  -- SR_STATUS
  ⟨0x21010, 0x20, 512, 0, 1, 0x25018, 0, 8, false, [ro 0 1 0, ro 1 8 0, ro 9 1 0]⟩,
  -- SR_CNT
  ⟨0x21014, 0x20, 512, 0, 1, 0x25018, 0, 8, false, [rc 0 16 0, rc 16 16 0]⟩]

/-- The rows of the PCIE block (16_pcie_and_bridges.md). -/
def rowsPCIE : List RegRow := [
  -- PCIE_LINK_STATUS
  ⟨0x40000, 0, 1, 0, 1, 0x40014, 0, 8, false, [ro 0 3 0, ro 3 5 0, ro 8 1 0, ro 9 1 0, ro 10 3 0, ro 13 4 0, ro 17 1 0]⟩,
  -- PCIE_POISON_CFG
  ⟨0x40004, 0, 1, 0, 1, 0x40014, 0, 8, false, [rw 0 1 0]⟩,
  -- PCIE_LP5X_WIN_LO
  ⟨0x40008, 0, 1, 0, 1, 0x40014, 0, 8, false, [rw 28 4 0]⟩,
  -- PCIE_LP5X_WIN_HI
  ⟨0x4000c, 0, 1, 0, 1, 0x40014, 0, 8, false, [rw 0 2 0]⟩,
  -- PCIE_ASPM_CFG
  ⟨0x40010, 0, 1, 0, 1, 0x40014, 0, 8, false, [rwr 0 10 0x64 10 1000, rw 10 1 1]⟩,
  -- PCIE_EVENT
  ⟨0x40014, 0, 1, 0, 1, 0x40014, 0, 8, false, [w1c 0 1 0, w1c 1 1 0, w1c 2 1 0, w1c 3 1 0, w1c 4 1 0, w1c 5 1 0, w1c 6 1 0, w1c 7 1 0, w1c 8 1 0]⟩,
  -- PCIE_EVENT_EN
  ⟨0x40018, 0, 1, 0, 1, 0x40014, 0, 8, false, [rw 0 9 0]⟩,
  -- PCIE_CNT_A
  ⟨0x4001c, 0, 1, 0, 1, 0x40014, 0, 8, false, [rc 0 16 0, rc 16 16 0]⟩,
  -- PCIE_CNT_B
  ⟨0x40020, 0, 1, 0, 1, 0x40014, 0, 8, false, [rc 0 16 0, rc 16 16 0]⟩,
  -- PCIE_CNT_C
  ⟨0x40024, 0, 1, 0, 1, 0x40014, 0, 8, false, [rc 0 16 0, rc 16 16 0]⟩,
  -- MSIX_ADDR_LO
  ⟨0x48000, 0x10, 2048, 0, 1, 0x40014, 0, 8, false, [rw 2 30 0]⟩,
  -- MSIX_ADDR_HI
  ⟨0x48004, 0x10, 2048, 0, 1, 0x40014, 0, 8, false, [rw 0 32 0]⟩,
  -- MSIX_DATA
  ⟨0x48008, 0x10, 2048, 0, 1, 0x40014, 0, 8, false, [rw 0 32 0]⟩,
  -- MSIX_CTRL
  ⟨0x4800c, 0x10, 2048, 0, 1, 0x40014, 0, 8, false, [rw 0 1 1]⟩,
  -- PBA_PENDING
  ⟨0x50000, 0, 1, 4, 64, 0x40014, 0, 8, false, [ro 0 32 0]⟩]

/-- The rows of the SAFE block (21_safety.md). -/
def rowsSAFE : List RegRow := [
  -- SAFE_STATUS
  ⟨0x80000, 0, 1, 0, 1, 0x80038, 0, 7, false, [ro 0 2 0, ro 2 1 0, ro 3 1 0, ro 4 3 0]⟩,
  -- SAFE_CAUSE
  ⟨0x80004, 0, 1, 0, 1, 0x80038, 0, 7, false, [ro 0 9 1]⟩,
  -- SAFE_CAUSE_SEEN
  ⟨0x80008, 0, 1, 0, 1, 0x80038, 0, 7, false, [w1c 0 9 1]⟩,
  -- SAFE_CTRL
  ⟨0x8000c, 0, 1, 0, 1, 0x80038, 0, 7, false, [wo 0 16, wo 16 1]⟩,
  -- SAFE_WIND_CFG
  ⟨0x80010, 0, 1, 0, 1, 0x80038, 0, 7, false, [rwr 0 8 0x32 10 200]⟩,
  -- SAFE_WIND_STATUS
  ⟨0x80014, 0, 1, 0, 1, 0x80038, 0, 7, false, [ro 0 32 1]⟩,
  -- SAFE_WIND_CHAL_LO
  ⟨0x80018, 0, 1, 0, 1, 0x80038, 0, 7, false, [ro 0 32 0]⟩,
  -- SAFE_WIND_CHAL_HI
  ⟨0x8001c, 0, 1, 0, 1, 0x80038, 0, 7, false, [ro 0 32 0]⟩,
  -- SAFE_WIND_DUE_LO
  ⟨0x80020, 0, 1, 0, 1, 0x80038, 0, 7, false, [ro 0 32 0]⟩,
  -- SAFE_WIND_DUE_HI
  ⟨0x80024, 0, 1, 0, 1, 0x80038, 0, 7, false, [ro 0 32 0]⟩,
  -- SAFE_TEMP_CFG
  ⟨0x80028, 0, 1, 0, 1, 0x80038, 0, 7, false, [rwr 0 7 0x64 60 105]⟩,
  -- SAFE_FIRST_FAULT
  ⟨0x8002c, 0, 1, 0, 1, 0x80038, 0, 7, false, [ro 0 32 0]⟩,
  -- SAFE_FIRST_TIME_LO
  ⟨0x80030, 0, 1, 0, 1, 0x80038, 0, 7, false, [ro 0 32 0]⟩,
  -- SAFE_FIRST_TIME_HI
  ⟨0x80034, 0, 1, 0, 1, 0x80038, 0, 7, false, [ro 0 32 0]⟩,
  -- SAFE_EVENT
  ⟨0x80038, 0, 1, 0, 1, 0x80038, 0, 7, false, [w1c 0 1 0, w1c 1 1 0, w1c 2 1 0, w1c 3 1 0, w1c 4 1 0, w1c 5 1 0, w1c 6 1 0, w1c 7 1 0]⟩,
  -- SAFE_EVENT_EN
  ⟨0x8003c, 0, 1, 0, 1, 0x80038, 0, 7, false, [rw 0 8 0]⟩,
  -- SAFE_SAFETY_VIEWS
  ⟨0x80040, 0, 1, 4, 4, 0x80038, 0, 7, false, [rw 0 32 0]⟩,
  -- SAFE_SAFETY_CV
  ⟨0x80050, 0, 1, 0, 1, 0x80038, 0, 7, false, [rw 0 4 0]⟩,
  -- SAFE_DISPLAY_REQ
  ⟨0x80060, 0, 1, 4, 4, 0x80038, 0, 7, false, [rw 0 32 0]⟩,
  -- SAFE_DISPLAY_CV
  ⟨0x80070, 0, 1, 0, 1, 0x80038, 0, 7, false, [rw 0 4 0]⟩,
  -- SAFE_LOG_STATUS
  ⟨0x80080, 0, 1, 0, 1, 0x80038, 0, 7, false, [ro 0 16 0, ro 16 1 0]⟩,
  -- SAFE_LOG_INDEX
  ⟨0x80084, 0, 1, 0, 1, 0x80038, 0, 7, false, [rw 0 16 0]⟩,
  -- SAFE_CNT
  ⟨0x80090, 0, 1, 0, 1, 0x80038, 0, 7, false, [rc 0 16 0, rc 16 16 0]⟩,
  -- SAFE_LOG_DATA
  ⟨0x800a0, 0, 1, 4, 8, 0x80038, 0, 7, false, [ro 0 32 0]⟩,
  -- SAFE_DISP_STATUS
  ⟨0x80200, 0, 1, 4, 132, 0x80038, 0, 7, false, [ro 0 16 0xffff, ro 16 1 0, ro 17 1 0]⟩]

/-- The rows of the MADC block (20_monitor_adc.md). -/
def rowsMADC : List RegRow := [
  -- MADC_CTRL
  ⟨0x90000, 0x1000, 11, 0, 1, 0x9000c, 0x1000, 6, false, [rw 0 6 0, rw 6 2 0, wo 8 1, wo 9 1, rwr 16 16 0x3e8 1 65535]⟩,
  -- MADC_STATUS
  ⟨0x90004, 0x1000, 11, 0, 1, 0x9000c, 0x1000, 6, false, [ro 0 2 0, ro 2 1 0, ro 3 2 0, ro 16 16 0]⟩,
  -- MADC_CAL
  ⟨0x90008, 0x1000, 11, 0, 1, 0x9000c, 0x1000, 6, false, [ro 0 8 0, ro 16 16 0x4000]⟩,
  -- MADC_EVENT
  ⟨0x9000c, 0x1000, 11, 0, 1, 0x9000c, 0x1000, 6, false, [w1c 0 1 0, w1c 1 1 0, w1c 2 1 0, w1c 3 1 0, w1c 4 1 0, w1c 5 1 0, w1c 6 1 0]⟩,
  -- MADC_EVENT_EN
  ⟨0x90010, 0x1000, 11, 0, 1, 0x9000c, 0x1000, 6, false, [rw 0 7 0]⟩,
  -- MADC_CNT
  ⟨0x90014, 0x1000, 11, 0, 1, 0x9000c, 0x1000, 6, false, [rc 0 16 0, rc 16 16 0]⟩,
  -- MADC_PERIOD
  ⟨0x90018, 0x1000, 10, 0, 1, 0x9000c, 0x1000, 6, false, []⟩,
  -- MADC_PERIOD
  ⟨0x9a018, 0x1000, 1, 0, 1, 0x9000c, 0x1000, 6, false, [rwr 0 16 0x3e8 10 65535]⟩,
  -- MADC_SEQ
  ⟨0x90040, 0x1000, 11, 4, 12, 0x9000c, 0x1000, 6, false, [ro 0 6 0, ro 6 1 0, ro 7 12 0, ro 19 12 0xfff]⟩,
  -- MADC_SEQHI
  ⟨0x90070, 0x1000, 11, 4, 4, 0x9000c, 0x1000, 6, false, [rwr 0 6 0 0 34, rw 6 1 0, rw 7 12 0, rw 19 12 0xfff]⟩,
  -- MADC_RESULT
  ⟨0x90080, 0x1000, 11, 4, 16, 0x9000c, 0x1000, 6, false, [ro 0 12 0, ro 12 1 0, ro 13 1 0, ro 14 1 0, ro 16 16 0]⟩,
  -- MADC_INJ_SEQ
  ⟨0x900c0, 0x1000, 11, 4, 4, 0x9000c, 0x1000, 6, false, [rwr 0 6 0 0 34, rw 6 1 0, rw 7 12 0, rw 19 12 0xfff]⟩,
  -- MADC_INJ_RESULT
  ⟨0x900d0, 0x1000, 11, 4, 4, 0x9000c, 0x1000, 6, false, [ro 0 12 0, ro 12 1 0, ro 13 1 0, ro 14 1 0, ro 16 16 0]⟩,
  -- MADCC_ILS_THR_ON
  ⟨0x9c000, 0, 1, 8, 16, 0x30, 0, 2, false, [rw 0 12 0, rw 16 12 0xfff]⟩,
  -- MADCC_ILS_THR_OFF
  ⟨0x9c004, 0, 1, 8, 16, 0x30, 0, 2, false, [rw 0 12 0xfff, rw 16 1 0]⟩,
  -- MADCC_ILS_LATCH
  ⟨0x9c080, 0, 1, 0, 1, 0x30, 0, 2, false, [w1c 0 16 0]⟩,
  -- MADCC_PLAUS
  ⟨0x9c084, 0, 1, 0, 1, 0x30, 0, 2, false, [ro 0 6 0x15, ro 6 1 1, ro 8 8 0x10, ro 16 4 3]⟩,
  -- MADCC_PLAUS_STATUS
  ⟨0x9c088, 0, 1, 0, 1, 0x30, 0, 2, false, [ro 0 12 0, ro 16 12 0, ro 28 1 0]⟩,
  -- MADCC_C_EVENT
  ⟨0x9c08c, 0, 1, 0, 1, 0x30, 0, 2, false, [w1c 0 1 0, w1c 1 1 0, w1c 2 1 0, w1c 3 1 0]⟩,
  -- MADCC_C_EVENT_EN
  ⟨0x9c090, 0, 1, 0, 1, 0x30, 0, 2, false, [rw 0 4 0]⟩]

/-- The rows of the TALLY block (19_tally_units.md). -/
def rowsTALLY : List RegRow := [
  -- TALLY_CTRL
  ⟨0xa0000, 0x80, 16, 0, 1, 0xa0020, 0x80, 1, false, [rwr 0 3 0 0 4, rw 3 1 0, rw 4 1 0, rw 5 5 0x1f, wo 16 1, ro 20 1 0]⟩,
  -- TALLY_POLY
  ⟨0xa0004, 0x80, 16, 0, 1, 0xa0020, 0x80, 1, false, [rw 0 32 0x1edc6f41]⟩,
  -- TALLY_INIT
  ⟨0xa0008, 0x80, 16, 0, 1, 0xa0020, 0x80, 1, false, [rw 0 32 0xffffffff]⟩,
  -- TALLY_XOROUT
  ⟨0xa000c, 0x80, 16, 0, 1, 0xa0020, 0x80, 1, false, [rw 0 32 0xffffffff]⟩,
  -- TALLY_STATE
  ⟨0xa0010, 0x80, 16, 0, 1, 0xa0020, 0x80, 1, false, [rw 0 32 0xffffffff]⟩,
  -- TALLY_RESULT
  ⟨0xa0014, 0x80, 16, 0, 1, 0xa0020, 0x80, 1, false, [ro 0 32 0]⟩,
  -- TALLY_COUNT_LO
  ⟨0xa0018, 0x80, 16, 0, 1, 0xa0020, 0x80, 1, false, [rw 0 32 0]⟩,
  -- TALLY_COUNT_HI
  ⟨0xa001c, 0x80, 16, 0, 1, 0xa0020, 0x80, 1, false, [rw 0 32 0]⟩,
  -- TALLY_EVENT
  ⟨0xa0020, 0x80, 16, 0, 1, 0xa0020, 0x80, 1, false, [w1c 0 1 0, w1c 1 1 0]⟩,
  -- TALLY_EVENT_EN
  ⟨0xa0024, 0x80, 16, 0, 1, 0xa0020, 0x80, 1, false, [rw 0 2 0]⟩,
  -- TALLY_DATA
  ⟨0xa0040, 0x80, 16, 4, 16, 0xa0020, 0x80, 1, false, [wo 0 32]⟩]

/-- The rows of the ATTIC block (22_identity_attic.md). -/
def rowsATTIC : List RegRow := [
  -- ATTIC_STATUS
  ⟨0xb0000, 0, 1, 0, 1, 0xb0034, 0, 5, false, [ro 0 4 0, ro 4 1 0, ro 5 1 0, ro 6 2 0]⟩,
  -- ATTIC_SEQ
  ⟨0xb0004, 0, 1, 4, 4, 0xb0034, 0, 5, false, [ro 0 32 0]⟩,
  -- ATTIC_UPD_CTRL
  ⟨0xb0020, 0, 1, 0, 1, 0xb0034, 0, 5, false, [wo 0 16, wo 16 1, wo 17 1]⟩,
  -- ATTIC_UPD_SRC_LO
  ⟨0xb0024, 0, 1, 0, 1, 0xb0034, 0, 5, false, [rw 6 26 0]⟩,
  -- ATTIC_UPD_SRC_HI
  ⟨0xb0028, 0, 1, 0, 1, 0xb0034, 0, 5, false, [rw 0 2 0]⟩,
  -- ATTIC_UPD_LEN
  ⟨0xb002c, 0, 1, 0, 1, 0xb0034, 0, 5, false, [rw 0 25 0]⟩,
  -- ATTIC_UPD_STATUS
  ⟨0xb0030, 0, 1, 0, 1, 0xb0034, 0, 5, false, [ro 0 2 0, ro 2 2 0, ro 4 1 0, ro 16 16 0]⟩,
  -- ATTIC_EVENT
  ⟨0xb0034, 0, 1, 0, 1, 0xb0034, 0, 5, false, [w1c 0 1 0, w1c 1 1 0, w1c 2 1 0, w1c 3 1 0, w1c 4 1 0, w1c 5 1 0]⟩,
  -- ATTIC_EVENT_EN
  ⟨0xb0038, 0, 1, 0, 1, 0xb0034, 0, 5, false, [rw 0 6 0]⟩,
  -- ATTIC_READ_ADDR
  ⟨0xb0040, 0, 1, 0, 1, 0xb0034, 0, 5, false, [rw 8 18 0]⟩,
  -- ATTIC_READ_DATA
  ⟨0xb0100, 0, 1, 4, 64, 0xb0034, 0, 5, false, [ro 0 32 0]⟩]

/-- The rows of the IDENT block (22_identity_attic.md). -/
def rowsIDENT : List RegRow := [
  -- IDENT_SERIAL_LO
  ⟨0xc0000, 0, 1, 0, 1, 0x30, 0, 2, false, [ro 0 32 0]⟩,
  -- IDENT_SERIAL_HI
  ⟨0xc0004, 0, 1, 0, 1, 0x30, 0, 2, false, [ro 0 32 0]⟩,
  -- IDENT_STATUS
  ⟨0xc0008, 0, 1, 0, 1, 0x30, 0, 2, false, [ro 0 1 0, ro 1 1 0, ro 2 1 0]⟩,
  -- IDENT_ROLLBACK
  ⟨0xc000c, 0, 1, 0, 1, 0x30, 0, 2, false, [ro 0 16 0, ro 16 16 0]⟩,
  -- IDENT_GMAC_CTRL
  ⟨0xc0010, 0, 1, 0, 1, 0x30, 0, 2, false, [rw 0 1 0, wo 1 1]⟩,
  -- IDENT_GMAC_SESSION
  ⟨0xc0014, 0, 1, 0, 1, 0x30, 0, 2, false, [rw 0 32 0]⟩,
  -- IDENT_GMAC_STATUS
  ⟨0xc0018, 0, 1, 0, 1, 0x30, 0, 2, false, [ro 0 1 0, ro 1 1 0, ro 16 16 0]⟩,
  -- IDENT_GMAC_FROM_LO
  ⟨0xc0020, 0, 1, 0, 1, 0x30, 0, 2, false, [ro 0 32 0]⟩,
  -- IDENT_GMAC_FROM_HI
  ⟨0xc0024, 0, 1, 0, 1, 0x30, 0, 2, false, [ro 0 32 0]⟩,
  -- IDENT_SPDM_STATUS
  ⟨0xc0028, 0, 1, 0, 1, 0x30, 0, 2, false, [ro 0 3 0]⟩]

/-- The rows of the PWR block (23_power_clocks.md). -/
def rowsPWR : List RegRow := [
  -- PWR_STATE
  ⟨0xd0000, 0, 1, 0, 1, 0xd0008, 0, 7, false, [ro 0 3 0]⟩,
  -- PWR_STANDBY
  ⟨0xd0004, 0, 1, 0, 1, 0xd0008, 0, 7, false, [wo 0 16, wo 16 1]⟩,
  -- PWR_EVENT
  ⟨0xd0008, 0, 1, 0, 1, 0xd0008, 0, 7, false, [w1c 0 1 0, w1c 1 1 0, w1c 2 1 0, w1c 3 1 0, w1c 4 1 0, w1c 5 1 0, w1c 6 1 0, w1c 7 1 0]⟩,
  -- PWR_EVENT_EN
  ⟨0xd000c, 0, 1, 0, 1, 0xd0008, 0, 7, false, [rw 0 8 0]⟩,
  -- PWR_CLK_STATUS
  ⟨0xd0010, 0, 1, 0, 1, 0xd0008, 0, 7, false, [ro 0 16 0]⟩,
  -- PWR_MEM_ECC
  ⟨0xd0018, 0, 1, 4, 2, 0xd0008, 0, 7, false, [rc 0 16 0, rc 16 16 0]⟩,
  -- PWR_DOM
  ⟨0xd0040, 0, 1, 4, 18, 0xd0008, 0, 7, false, [wo 0 2, ro 2 3 0, ro 5 3 0, ro 8 1 0]⟩,
  -- PWR_CLK_MEAS
  ⟨0xd00a0, 0, 1, 4, 16, 0xd0008, 0, 7, false, [ro 0 21 0]⟩]

/-- The rows of the REGU block (05_regulator.md). -/
def rowsREGU : List RegRow := [
  -- REGU_DIAL_LO
  ⟨0x100000, 0, 1, 0, 1, 0x100028, 0, 9, false, [ro 0 32 0]⟩,
  -- REGU_DIAL_HI
  ⟨0x100004, 0, 1, 0, 1, 0x100028, 0, 9, false, [ro 0 32 0]⟩,
  -- REGU_CTRL
  ⟨0x100008, 0, 1, 0, 1, 0x100028, 0, 9, false, [rw 0 2 0, wo 2 1, rw 3 1 0]⟩,
  -- REGU_STATUS
  ⟨0x10000c, 0, 1, 0, 1, 0x100028, 0, 9, false, [ro 0 3 0, ro 3 1 0]⟩,
  -- REGU_RATE_TRIM
  ⟨0x100010, 0, 1, 0, 1, 0x100028, 0, 9, false, [rw 0 32 0]⟩,
  -- REGU_DIAL_SET_LO
  ⟨0x100018, 0, 1, 0, 1, 0x100028, 0, 9, false, [rw 0 32 0]⟩,
  -- REGU_DIAL_SET_HI
  ⟨0x10001c, 0, 1, 0, 1, 0x100028, 0, 9, false, [rw 0 32 0]⟩,
  -- REGU_FOLLOW_CFG
  ⟨0x100020, 0, 1, 0, 1, 0x100028, 0, 9, false, [rwr 0 10 0x14 1 1000, rwr 10 10 0xc8 10 500]⟩,
  -- REGU_FOLLOW_OFFSET
  ⟨0x100024, 0, 1, 0, 1, 0x100028, 0, 9, false, [ro 0 32 0]⟩,
  -- REGU_EVENT
  ⟨0x100028, 0, 1, 0, 1, 0x100028, 0, 9, false, [w1c 0 1 0, w1c 1 1 0, w1c 2 1 0, w1c 3 1 0, w1c 4 1 0, w1c 5 1 0, w1c 6 1 0, w1c 7 1 0, w1c 8 1 0, w1c 9 1 0, w1c 10 1 0]⟩,
  -- REGU_EVENT_EN
  ⟨0x10002c, 0, 1, 0, 1, 0x100028, 0, 9, false, [rw 0 11 0]⟩,
  -- REGU_GROUP_MASK
  ⟨0x1000c0, 0, 1, 0, 1, 0x100028, 0, 9, false, [rw 0 32 0]⟩,
  -- REGU_GROUP_AT_LO
  ⟨0x1000c4, 0, 1, 0, 1, 0x100028, 0, 9, false, [rw 0 32 0]⟩,
  -- REGU_GROUP_AT_HI
  ⟨0x1000c8, 0, 1, 0, 1, 0x100028, 0, 9, false, [rw 0 32 0]⟩,
  -- REGU_GROUP_CMD
  ⟨0x1000cc, 0, 1, 0, 1, 0x100028, 0, 9, false, [wo 0 1, wo 1 1]⟩,
  -- SYNC_CFG
  ⟨0x100040, 0x20, 4, 0, 1, 0x100028, 0, 9, false, [rw 0 1 0, rw 1 1 0, rw 2 1 0, rwr 3 8 8 1 255, rwr 11 8 0xa 1 255]⟩,
  -- SYNC_NOM
  ⟨0x100044, 0x20, 4, 0, 1, 0x100028, 0, 9, false, [rwr 0 30 0xfe502b 100000 1000000000]⟩,
  -- SYNC_COMP
  ⟨0x100048, 0x20, 4, 0, 1, 0x100028, 0, 9, false, [rw 0 16 0]⟩,
  -- SYNC_STATUS
  ⟨0x10004c, 0x20, 4, 0, 1, 0x100028, 0, 9, false, [ro 0 3 0, ro 8 8 0, rc 16 16 0]⟩,
  -- SYNC_PERIOD
  ⟨0x100050, 0x20, 4, 0, 1, 0x100028, 0, 9, false, [ro 0 32 0]⟩,
  -- SYNC_EDGE_LO
  ⟨0x100054, 0x20, 4, 0, 1, 0x100028, 0, 9, false, [ro 0 32 0]⟩,
  -- SYNC_EDGE_HI
  ⟨0x100058, 0x20, 4, 0, 1, 0x100028, 0, 9, false, [ro 0 32 0]⟩,
  -- SYNC_PHASE_ERR
  ⟨0x10005c, 0x20, 4, 0, 1, 0x100028, 0, 9, false, [ro 0 32 0]⟩,
  -- TRIG_SCHED_CTRL
  ⟨0x100200, 0x40, 32, 0, 1, 0x100028, 0, 9, false, [rw 0 1 0, rw 1 3 0, wo 4 1, ro 5 1 0, ro 6 1 0, rw 8 4 0, rw 12 4 0]⟩,
  -- TRIG_PERIOD
  ⟨0x100204, 0x40, 32, 0, 1, 0x100028, 0, 9, false, [rw 0 32 0xfe502b]⟩,
  -- TRIG_PHASE
  ⟨0x100208, 0x40, 32, 0, 1, 0x100028, 0, 9, false, [rw 0 32 0]⟩,
  -- TRIG_WIDTH
  ⟨0x10020c, 0x40, 32, 0, 1, 0x100028, 0, 9, false, [rw 0 32 0xf4240]⟩,
  -- TRIG_BURST
  ⟨0x100210, 0x40, 32, 0, 1, 0x100028, 0, 9, false, [rw 0 4 0]⟩,
  -- TRIG_BURST_GAP
  ⟨0x100214, 0x40, 32, 0, 1, 0x100028, 0, 9, false, [rw 0 32 0]⟩,
  -- TRIG_START_AT_LO
  ⟨0x100218, 0x40, 32, 0, 1, 0x100028, 0, 9, false, [rw 0 32 0]⟩] ++ [
  -- TRIG_START_AT_HI
  ⟨0x10021c, 0x40, 32, 0, 1, 0x100028, 0, 9, false, [rw 0 32 0]⟩,
  -- TRIG_ILL_CFG
  ⟨0x100220, 0x40, 32, 0, 1, 0x100028, 0, 9, false, [rw 0 2 0]⟩,
  -- TRIG_ILL_OPEN
  ⟨0x100224, 0x40, 32, 0, 1, 0x100028, 0, 9, false, [rw 0 32 0]⟩,
  -- TRIG_ILL_CLOSE
  ⟨0x100228, 0x40, 32, 0, 1, 0x100028, 0, 9, false, [rw 0 32 0]⟩,
  -- TRIG_ILL_MAX
  ⟨0x10022c, 0x40, 32, 0, 1, 0x100028, 0, 9, false, [rwr 0 20 0x2710 1 1000000]⟩,
  -- TRIG_PULSE_COUNT
  ⟨0x100230, 0x40, 32, 0, 1, 0x100028, 0, 9, false, [ro 0 32 0]⟩,
  -- TRIG_NEXT_EDGE_LO
  ⟨0x100234, 0x40, 32, 0, 1, 0x100028, 0, 9, false, [ro 0 32 0]⟩,
  -- TRIG_NEXT_EDGE_HI
  ⟨0x100238, 0x40, 32, 0, 1, 0x100028, 0, 9, false, [ro 0 32 0]⟩,
  -- TS_FS_LO
  ⟨0x101000, 0x20, 36, 0, 1, 0x100028, 0, 9, false, [ro 0 32 0]⟩,
  -- TS_FS_HI
  ⟨0x101004, 0x20, 36, 0, 1, 0x100028, 0, 9, false, [ro 0 32 0]⟩,
  -- TS_FS_INFO
  ⟨0x101008, 0x20, 36, 0, 1, 0x100028, 0, 9, false, [ro 0 4 0, ro 4 5 0]⟩,
  -- TS_LINE_EVT
  ⟨0x10100c, 0x20, 36, 0, 1, 0x100028, 0, 9, false, [rw 0 16 0, rw 16 4 0, rw 20 1 0]⟩,
  -- TS_LE_LO
  ⟨0x101010, 0x20, 36, 0, 1, 0x100028, 0, 9, false, [ro 0 32 0]⟩,
  -- TS_LE_HI
  ⟨0x101014, 0x20, 36, 0, 1, 0x100028, 0, 9, false, [ro 0 32 0]⟩,
  -- TS_FE_LO
  ⟨0x101018, 0x20, 36, 0, 1, 0x100028, 0, 9, false, [ro 0 32 0]⟩,
  -- TS_FE_HI
  ⟨0x10101c, 0x20, 36, 0, 1, 0x100028, 0, 9, false, [ro 0 32 0]⟩,
  -- ILL_TS_RISE_LO
  ⟨0x101800, 0x10, 16, 0, 1, 0x100028, 0, 9, false, [ro 0 32 0]⟩,
  -- ILL_TS_RISE_HI
  ⟨0x101804, 0x10, 16, 0, 1, 0x100028, 0, 9, false, [ro 0 32 0]⟩,
  -- ILL_TS_FALL_LO
  ⟨0x101808, 0x10, 16, 0, 1, 0x100028, 0, 9, false, [ro 0 32 0]⟩,
  -- ILL_TS_FALL_HI
  ⟨0x10180c, 0x10, 16, 0, 1, 0x100028, 0, 9, false, [ro 0 32 0]⟩]

/-- The rows of the SPORT block (04_sensor_ports.md). -/
def rowsSPORT : List RegRow := [
  -- SPORT_CTRL
  ⟨0x200000, 0x1000, 32, 0, 1, 0x200018, 0x1000, 12, false, [rw 0 1 0, rw 1 1 0, rw 2 2 3, rw 4 1 0, rw 5 1 0, wo 6 1]⟩,
  -- SPORT_PHY_CFG
  ⟨0x200004, 0x1000, 32, 0, 1, 0x200018, 0x1000, 12, false, [rw 0 8 0xe4, rw 8 5 0, rw 13 9 0, rw 22 3 3, rw 25 7 0]⟩,
  -- SPORT_LINK_RATE
  ⟨0x200008, 0x1000, 32, 0, 1, 0x200018, 0x1000, 12, false, [rw 0 13 0x5dc]⟩,
  -- SPORT_STATUS
  ⟨0x20000c, 0x1000, 32, 0, 1, 0x200018, 0x1000, 12, false, [ro 0 1 0, ro 1 1 0, ro 2 1 0, ro 3 1 0, ro 4 1 0, ro 5 1 0, ro 16 16 0]⟩,
  -- SPORT_FRAME_CFG
  ⟨0x200010, 0x1000, 32, 0, 1, 0x200018, 0x1000, 12, false, [rw 0 8 2, rwr 8 10 0xc8 1 1000, rw 18 1 0, rw 19 1 0]⟩,
  -- SPORT_FILL_VALUE
  ⟨0x200014, 0x1000, 32, 0, 1, 0x200018, 0x1000, 12, false, [rw 0 16 0]⟩,
  -- SPORT_EVENT
  ⟨0x200018, 0x1000, 32, 0, 1, 0x200018, 0x1000, 12, false, [w1c 0 1 0, w1c 1 1 0, w1c 2 1 0, w1c 3 1 0, w1c 4 1 0, w1c 5 1 0, w1c 6 1 0, w1c 7 1 0, w1c 8 1 0, w1c 9 1 0, w1c 10 1 0, w1c 11 1 0, w1c 12 1 0, w1c 13 1 0, w1c 14 1 0, w1c 15 1 0]⟩,
  -- SPORT_EVENT_EN
  ⟨0x20001c, 0x1000, 32, 0, 1, 0x200018, 0x1000, 12, false, [rw 0 16 0]⟩,
  -- SPORT_MCLK
  ⟨0x200020, 0x1000, 32, 0, 1, 0x200018, 0x1000, 12, false, [rwr 0 16 0x5dc0 6000 54000, rw 16 1 0, rw 17 1 0]⟩,
  -- SPORT_XRST
  ⟨0x200024, 0x1000, 32, 0, 1, 0x200018, 0x1000, 12, false, [rw 0 1 0, wo 1 1, ro 2 1 0, rwr 16 16 0x3e8 1 65535]⟩,
  -- SPORT_TRIG_CTRL
  ⟨0x200028, 0x1000, 32, 0, 1, 0x200018, 0x1000, 12, false, [rw 0 2 0, rw 2 1 0, rw 3 1 0]⟩,
  -- SPORT_ILL_MASK
  ⟨0x20002c, 0x1000, 32, 0, 1, 0x200018, 0x1000, 12, false, [rw 0 16 0]⟩,
  -- SPORT_VC_MAP
  ⟨0x200040, 0x1000, 32, 8, 16, 0x200018, 0x1000, 12, true, [rw 0 1 0, rw 1 5 0, rw 6 6 0, rw 12 3 0, rw 15 3 0]⟩,
  -- SPORT_VC_GEOM
  ⟨0x200044, 0x1000, 32, 8, 16, 0x200018, 0x1000, 12, true, [rw 0 16 0, rw 16 16 0]⟩,
  -- SPORT_CNT
  ⟨0x200100, 0x1000, 32, 4, 16, 0x200018, 0x1000, 12, false, [rc 0 16 0]⟩]

/-- The rows of the LPORT block (04_sensor_ports.md). -/
def rowsLPORT : List RegRow := [
  -- LPORT_CTRL
  ⟨0x220000, 0x1000, 4, 0, 1, 0x220018, 0x1000, 12, false, [rw 0 1 0, rwr 1 3 0 0 4, rwr 4 2 0 0 2, rw 6 1 0, rw 7 1 0, rw 8 1 0, rw 9 1 0]⟩,
  -- LPORT_STATUS
  ⟨0x220004, 0x1000, 4, 0, 1, 0x220018, 0x1000, 12, false, [ro 0 1 0, ro 1 1 0, ro 2 1 0]⟩,
  -- LPORT_MAP
  ⟨0x220008, 0x1000, 4, 0, 1, 0x220018, 0x1000, 12, true, [rw 0 1 0, rw 1 5 0, rw 6 3 0]⟩,
  -- LPORT_GEOM
  ⟨0x22000c, 0x1000, 4, 0, 1, 0x220018, 0x1000, 12, true, [rw 0 16 0, rw 16 16 0]⟩,
  -- LPORT_START
  ⟨0x220010, 0x1000, 4, 0, 1, 0x220018, 0x1000, 12, false, [rw 0 16 0, rw 16 16 0]⟩,
  -- LPORT_FRAME_CFG
  ⟨0x220014, 0x1000, 4, 0, 1, 0x220018, 0x1000, 12, false, [rw 0 8 2, rwr 8 10 0xc8 1 1000]⟩,
  -- LPORT_EVENT
  ⟨0x220018, 0x1000, 4, 0, 1, 0x220018, 0x1000, 12, false, [w1c 0 16 0]⟩,
  -- LPORT_EVENT_EN
  ⟨0x22001c, 0x1000, 4, 0, 1, 0x220018, 0x1000, 12, false, [rw 0 16 0]⟩,
  -- LPORT_CNT
  ⟨0x220020, 0x1000, 4, 4, 16, 0x220018, 0x1000, 12, false, [rc 0 16 0]⟩]

/-- The rows of the SCC block (06_two_wire_buses.md). -/
def rowsSCC : List RegRow := [
  -- SCC_CTRL
  ⟨0x300000, 0x1000, 32, 0, 1, 0x300020, 0x1000, 11, false, [rw 0 1 0, rwr 1 2 1 0 2, wo 3 1, wo 4 1, rw 5 4 3]⟩,
  -- SCC_TARGET
  ⟨0x300004, 0x1000, 32, 0, 1, 0x300020, 0x1000, 11, false, [rw 0 7 0, rw 8 1 1]⟩,
  -- SCC_TIMING_A
  ⟨0x300008, 0x1000, 32, 0, 1, 0x300020, 0x1000, 11, false, [rwr 0 10 0x82 1 1023, rwr 10 10 0x3c 1 1023, rw 20 10 5]⟩,
  -- SCC_TIMING_B
  ⟨0x30000c, 0x1000, 32, 0, 1, 0x300020, 0x1000, 11, false, [rwr 0 10 0x3c 1 1023, rwr 10 10 0x3c 1 1023, rwr 20 10 0x3c 1 1023]⟩,
  -- SCC_TIMING_C
  ⟨0x300010, 0x1000, 32, 0, 1, 0x300020, 0x1000, 11, false, [rwr 0 10 0x82 1 1023, rwr 10 8 0x19 1 255, rwr 18 8 0x32 1 255]⟩,
  -- SCC_RECOVERY
  ⟨0x300014, 0x1000, 32, 0, 1, 0x300020, 0x1000, 11, false, [rwr 0 16 0x3e8 1 65535, rwr 16 16 0x2710 1 65535]⟩,
  -- SCC_LOCK
  ⟨0x300018, 0x1000, 32, 0, 1, 0x300020, 0x1000, 11, false, [rw 0 1 0, ro 1 1 0, ro 2 1 0, ro 3 1 0]⟩,
  -- SCC_STATUS
  ⟨0x30001c, 0x1000, 32, 0, 1, 0x300020, 0x1000, 11, false, [ro 0 3 0, ro 3 1 1, ro 4 1 1, ro 5 1 0, ro 6 1 0, ro 8 4 0]⟩,
  -- SCC_EVENT
  ⟨0x300020, 0x1000, 32, 0, 1, 0x300020, 0x1000, 11, false, [w1c 0 1 0, w1c 1 1 0, w1c 2 1 0, w1c 3 1 0, w1c 4 1 0, w1c 5 1 0, w1c 6 1 0, w1c 7 1 0, w1c 8 1 0, w1c 9 1 0, w1c 10 1 0, w1c 11 1 0]⟩,
  -- SCC_EVENT_EN
  ⟨0x300024, 0x1000, 32, 0, 1, 0x300020, 0x1000, 11, false, [rw 0 12 0]⟩,
  -- SCC_CNT
  ⟨0x300040, 0x1000, 32, 4, 8, 0x300020, 0x1000, 11, false, [rc 0 16 0]⟩]

/-- The rows of the MGT block (06_two_wire_buses.md). -/
def rowsMGT : List RegRow := [
  -- MGT_CFG
  ⟨0x320000, 0, 1, 0, 1, 0x30, 0, 2, false, [rw 0 1 0]⟩,
  -- MGT_STATUS
  ⟨0x320004, 0, 1, 0, 1, 0x30, 0, 2, false, [ro 0 7 0x58, ro 7 1 0]⟩,
  -- MGT_ALERT_STATUS
  ⟨0x320008, 0, 1, 0, 1, 0x30, 0, 2, false, [w1c 0 1 0, w1c 1 1 0, w1c 2 1 0, w1c 3 1 0, w1c 4 1 0, w1c 5 1 0]⟩,
  -- MGT_ALERT_MASK
  ⟨0x32000c, 0, 1, 0, 1, 0x30, 0, 2, false, [rw 0 6 0x3f]⟩,
  -- MGT_LAST_ERROR
  ⟨0x320010, 0, 1, 0, 1, 0x30, 0, 2, false, [rc 0 8 0]⟩,
  -- MGT_CNT
  ⟨0x320020, 0, 1, 4, 5, 0x30, 0, 2, false, [rc 0 16 0]⟩]

/-- The rows of the ESC block (07_escapement.md). -/
def rowsESC : List RegRow := [
  -- ESC_SUMMARY
  ⟨0x340000, 0, 1, 0, 1, 0x30, 0, 2, false, [ro 0 32 0]⟩,
  -- ESCP_CTRL
  ⟨0x340100, 0x20, 32, 0, 1, 0x30, 0, 2, false, [wo 0 1, wo 1 1]⟩,
  -- ESCP_STATUS
  ⟨0x340104, 0x20, 32, 0, 1, 0x30, 0, 2, false, [ro 0 1 0, ro 1 5 0, ro 8 8 0]⟩,
  -- ESCP_EVENT
  ⟨0x340108, 0x20, 32, 0, 1, 0x30, 0, 2, false, [w1c 0 1 0, w1c 1 1 0, w1c 2 1 0, w1c 3 1 0, w1c 4 1 0, w1c 5 1 0, w1c 6 1 0]⟩,
  -- ESCP_EVENT_EN
  ⟨0x34010c, 0x20, 32, 0, 1, 0x30, 0, 2, false, [rw 0 7 0]⟩,
  -- ESCP_LAST_ENTRY
  ⟨0x340110, 0x20, 32, 0, 1, 0x30, 0, 2, false, [ro 0 32 0]⟩,
  -- ESCP_LAST_FSN
  ⟨0x340114, 0x20, 32, 0, 1, 0x30, 0, 2, false, [ro 0 32 0]⟩,
  -- ESCP_CNT
  ⟨0x340118, 0x20, 32, 0, 1, 0x30, 0, 2, false, [rc 0 16 0, rc 16 16 0]⟩,
  -- ESC_PROFILE_WORD
  ⟨0x341000, 0x100, 32, 4, 64, 0x30, 0, 2, false, [rw 0 32 0]⟩]

/-- The rows of the PIPE block (08_frames_commits_hallmarks.md, 09_front_end.md, 10_outputs_canvases.md, 11_statistics.md, 12_wheels.md). -/
def rowsPIPE : List RegRow := [
  -- FE_CTRL
  ⟨0x400000, 0x10000, 32, 0, 1, 0x400010, 0x10000, 4, true, [rw 0 1 0, rw 1 1 0, rw 2 1 0, rw 3 1 0, rw 4 1 0, rw 5 1 0, rw 6 1 0, rw 7 1 0, rw 8 1 0, rw 9 1 0, rw 10 1 0]⟩,
  -- FE_STATUS
  ⟨0x400004, 0x10000, 32, 0, 1, 0x400010, 0x10000, 4, false, [ro 0 4 0xf, ro 4 4 0xf, ro 8 3 0, ro 11 2 0, ro 13 5 0]⟩,
  -- FE_CFA_MAP_LO
  ⟨0x400008, 0x10000, 32, 0, 1, 0x400010, 0x10000, 4, true, [rw 0 30 0x8451208]⟩,
  -- FE_CFA_MAP_HI
  ⟨0x40000c, 0x10000, 32, 0, 1, 0x400010, 0x10000, 4, true, [rw 0 18 0x11448]⟩,
  -- FE_EVENT
  ⟨0x400010, 0x10000, 32, 0, 1, 0x400010, 0x10000, 4, false, [w1c 0 1 0, w1c 1 1 0, w1c 2 1 0, w1c 3 1 0, w1c 4 1 0]⟩,
  -- FE_EVENT_EN
  ⟨0x400014, 0x10000, 32, 0, 1, 0x400010, 0x10000, 4, false, [rw 0 5 0]⟩,
  -- FE_TABLE_WRITTEN
  ⟨0x400018, 0x10000, 32, 0, 1, 0x400010, 0x10000, 4, false, [ro 0 5 0]⟩,
  -- FE_DEFECT_STATS
  ⟨0x40001c, 0x10000, 32, 0, 1, 0x400010, 0x10000, 4, false, [ro 0 16 0, ro 16 16 0]⟩,
  -- FE_EMB_FIELD_CFG
  ⟨0x400020, 0x10000, 32, 4, 8, 0x400010, 0x10000, 4, true, [rw 0 16 0, rw 16 3 0, rw 19 2 0, rw 21 1 0, rw 22 1 1, rw 23 1 0]⟩,
  -- FE_EMB_FIELD_VAL
  ⟨0x400040, 0x10000, 32, 4, 8, 0x400010, 0x10000, 4, false, [ro 0 32 0]⟩,
  -- FE_EMB_STATUS
  ⟨0x400060, 0x10000, 32, 0, 1, 0x400010, 0x10000, 4, false, [ro 0 8 0]⟩,
  -- FE_EMB_FSN
  ⟨0x400064, 0x10000, 32, 0, 1, 0x400010, 0x10000, 4, false, [ro 0 32 0xffffffff]⟩,
  -- FE_BL_BASE
  ⟨0x400080, 0x10000, 32, 4, 6, 0x400010, 0x10000, 4, true, [rw 0 24 0]⟩,
  -- FE_BL_CFG
  ⟨0x400098, 0x10000, 32, 0, 1, 0x400010, 0x10000, 4, true, [rwr 0 2 0 0 2, rwr 2 9 0x10 1 256, rw 11 3 0, rw 14 18 0x1000]⟩,
  -- FE_OB_REGION
  ⟨0x40009c, 0x10000, 32, 0, 1, 0x400010, 0x10000, 4, true, [rwr 0 8 0 0 64, rwr 8 9 0 0 256]⟩,
  -- FE_BL_LEVEL
  ⟨0x4000a0, 0x10000, 32, 4, 6, 0x400010, 0x10000, 4, false, [ro 0 24 0]⟩,
  -- FE_DEFECT_CFG
  ⟨0x4000c0, 0x10000, 32, 0, 1, 0x400010, 0x10000, 4, true, [rwr 0 13 0 0 4096, rw 16 16 0x3e8]⟩,
  -- FE_DYN_HOT
  ⟨0x4000c4, 0x10000, 32, 0, 1, 0x400010, 0x10000, 4, true, [rw 0 24 0x100]⟩,
  -- FE_DYN_COLD
  ⟨0x4000c8, 0x10000, 32, 0, 1, 0x400010, 0x10000, 4, true, [rw 0 24 0x100]⟩,
  -- FE_SHADING_GRID
  ⟨0x4000d0, 0x10000, 32, 0, 1, 0x400010, 0x10000, 4, true, [rwr 0 6 0x11 2 33, rwr 8 6 0x11 2 33, rwr 16 4 7 3 9, rwr 20 4 7 3 9]⟩,
  -- FE_WB_GAIN
  ⟨0x4000e0, 0x10000, 32, 4, 6, 0x400010, 0x10000, 4, true, [rw 0 16 0x1000]⟩,
  -- FE_IRSUB_A
  ⟨0x400100, 0x10000, 32, 0, 1, 0x400010, 0x10000, 4, true, [rw 0 12 0, rw 16 12 0]⟩,
  -- FE_IRSUB_B
  ⟨0x400104, 0x10000, 32, 0, 1, 0x400010, 0x10000, 4, true, [rw 0 12 0]⟩,
  -- FE_MATRIX
  ⟨0x400110, 0x10000, 32, 0, 1, 0x400010, 0x10000, 4, true, [rw 0 16 0x1000, rw 16 16 0]⟩,
  -- FE_MATRIX
  ⟨0x400114, 0x10000, 32, 0, 1, 0x400010, 0x10000, 4, true, [rw 0 16 0, rw 16 16 0]⟩,
  -- FE_MATRIX
  ⟨0x400118, 0x10000, 32, 0, 1, 0x400010, 0x10000, 4, true, [rw 0 16 0, rw 16 16 0x1000]⟩,
  -- FE_MATRIX
  ⟨0x40011c, 0x10000, 32, 0, 1, 0x400010, 0x10000, 4, true, [rw 0 16 0, rw 16 16 0]⟩,
  -- FE_MATRIX
  ⟨0x400120, 0x10000, 32, 0, 1, 0x400010, 0x10000, 4, true, [rw 0 16 0, rw 16 16 0]⟩,
  -- FE_MATRIX
  ⟨0x400124, 0x10000, 32, 0, 1, 0x400010, 0x10000, 4, true, [rw 0 16 0x1000, rw 16 16 0]⟩,
  -- FE_MATRIX
  ⟨0x400128, 0x10000, 32, 0, 1, 0x400010, 0x10000, 4, true, [rw 0 16 0, rw 16 16 0]⟩] ++ [
  -- FE_MATRIX
  ⟨0x40012c, 0x10000, 32, 0, 1, 0x400010, 0x10000, 4, true, [rw 0 16 0, rw 16 16 0x1000]⟩,
  -- FE_MATRIX_OFF
  ⟨0x400130, 0x10000, 32, 4, 4, 0x400010, 0x10000, 4, true, [rw 0 21 0]⟩,
  -- FE_NR_SIGMA
  ⟨0x400140, 0x10000, 32, 4, 8, 0x400010, 0x10000, 4, true, [rw 0 16 0x100, rw 16 16 0x100]⟩,
  -- FE_NR_CFG
  ⟨0x400160, 0x10000, 32, 0, 1, 0x400010, 0x10000, 4, true, [rw 0 8 0x10, rwr 8 9 0x100 0 256]⟩,
  -- FE_OUT_TABLES_WRITTEN
  ⟨0x400180, 0x10000, 32, 0, 1, 0x400010, 0x10000, 4, false, [ro 0 10 0]⟩,
  -- FE_COEF
  ⟨0x401000, 0x10000, 32, 4, 1024, 0x400010, 0x10000, 4, true, [rw 0 32 0]⟩,
  -- FE_DEFECT
  ⟨0x404000, 0x10000, 32, 4, 4096, 0x400010, 0x10000, 4, true, [rw 0 32 0]⟩,
  -- FE_DECOMP
  ⟨0x408000, 0x10000, 32, 4, 34, 0x400010, 0x10000, 4, true, [rw 0 32 0]⟩,
  -- FE_TONE
  ⟨0x408400, 0x10000, 32, 4, 513, 0x400010, 0x10000, 4, true, [rw 0 32 0]⟩,
  -- FE_TONE_IR
  ⟨0x409000, 0x10000, 32, 4, 513, 0x400010, 0x10000, 4, true, [rw 0 32 0]⟩,
  -- FE_SHADING
  ⟨0x40a000, 0x10000, 32, 4, 2178, 0x400010, 0x10000, 4, true, [rw 0 32 0]⟩,
  -- FE_MESH0
  ⟨0x40c400, 0x10000, 32, 4, 1089, 0x400010, 0x10000, 4, true, [rw 0 32 0]⟩,
  -- FE_MESH1
  ⟨0x40d800, 0x10000, 32, 4, 1089, 0x400010, 0x10000, 4, true, [rw 0 32 0]⟩,
  -- OUT_CTRL
  ⟨0x400200, 0x10000, 32, 0x80, 2, 0x400010, 0x10000, 4, true, [rw 0 1 0, rwr 2 2 0 0 2, rwr 4 4 0 0 11, rw 8 1 0, rw 9 1 0]⟩,
  -- OUT_CTRL
  ⟨0x400300, 0x10000, 32, 0x80, 2, 0x400010, 0x10000, 4, true, [rw 0 1 0, rw 1 1 0, rwr 2 2 0 0 2, rwr 4 4 0 0 11, rw 8 1 0]⟩,
  -- OUT_CROP_XY
  ⟨0x400204, 0x10000, 32, 0x80, 4, 0x400010, 0x10000, 4, true, [rw 0 16 0, rw 16 16 0]⟩,
  -- OUT_CROP_SIZE
  ⟨0x400208, 0x10000, 32, 0x80, 4, 0x400010, 0x10000, 4, true, [rw 0 16 0, rw 16 16 0]⟩,
  -- OUT_SIZE
  ⟨0x40020c, 0x10000, 32, 0x80, 4, 0x400010, 0x10000, 4, true, [rw 0 16 0, rw 16 16 0]⟩,
  -- OUT_STRIDE0
  ⟨0x400210, 0x10000, 32, 0x80, 4, 0x400010, 0x10000, 4, true, [rw 0 24 0]⟩,
  -- OUT_STRIDE1
  ⟨0x400214, 0x10000, 32, 0x80, 4, 0x400010, 0x10000, 4, true, [rw 0 24 0]⟩,
  -- OUT_PLANE1_OFF
  ⟨0x400218, 0x10000, 32, 0x80, 4, 0x400010, 0x10000, 4, true, [rw 0 32 0]⟩,
  -- OUT_DECIM
  ⟨0x40021c, 0x10000, 32, 0x80, 4, 0x400010, 0x10000, 4, true, [rw 0 1 0, rw 1 6 0, rw 8 20 0]⟩,
  -- OUT_FS_BASE_LO
  ⟨0x400220, 0x10000, 32, 0x80, 4, 0x400010, 0x10000, 4, true, [rw 12 20 0]⟩,
  -- OUT_FS_BASE_HI
  ⟨0x400224, 0x10000, 32, 0x80, 4, 0x400010, 0x10000, 4, true, [rw 0 2 0]⟩,
  -- OUT_FS_CFG
  ⟨0x400228, 0x10000, 32, 0x80, 4, 0x400010, 0x10000, 4, true, [rw 0 20 0, rwr 20 3 3 3 6]⟩,
  -- OUT_PEER
  ⟨0x40022c, 0x10000, 32, 0x80, 4, 0x400010, 0x10000, 4, true, [rw 0 6 0]⟩,
  -- OUT_PEER_ADDR_LO
  ⟨0x400230, 0x10000, 32, 0x80, 4, 0x400010, 0x10000, 4, true, [rw 6 26 0]⟩,
  -- OUT_PEER_ADDR_HI
  ⟨0x400234, 0x10000, 32, 0x80, 4, 0x400010, 0x10000, 4, true, [rw 0 32 0]⟩,
  -- OUT_DW_BASE_LO
  ⟨0x400238, 0x10000, 32, 0x80, 2, 0x400010, 0x10000, 4, true, [rw 12 20 0]⟩,
  -- OUT_DW_BASE_LO
  ⟨0x400338, 0x10000, 32, 0x80, 2, 0x400010, 0x10000, 4, true, []⟩] ++ [
  -- OUT_DW_BASE_HI
  ⟨0x40023c, 0x10000, 32, 0x80, 2, 0x400010, 0x10000, 4, true, [rw 0 2 0]⟩,
  -- OUT_DW_BASE_HI
  ⟨0x40033c, 0x10000, 32, 0x80, 2, 0x400010, 0x10000, 4, true, []⟩,
  -- OUT_DW_MESH
  ⟨0x400240, 0x10000, 32, 0x80, 2, 0x400010, 0x10000, 4, true, [rwr 0 6 0x11 2 33, rwr 8 6 0x11 2 33, rwr 16 4 7 3 9, rwr 20 4 7 3 9]⟩,
  -- OUT_DW_MESH
  ⟨0x400340, 0x10000, 32, 0x80, 2, 0x400010, 0x10000, 4, true, []⟩,
  -- OUT_DW_FILL
  ⟨0x400244, 0x10000, 32, 0x80, 2, 0x400010, 0x10000, 4, true, [rw 0 16 0]⟩,
  -- OUT_DW_FILL
  ⟨0x400344, 0x10000, 32, 0x80, 2, 0x400010, 0x10000, 4, true, []⟩,
  -- OUT_STATUS
  ⟨0x400248, 0x10000, 32, 0x80, 4, 0x400010, 0x10000, 4, false, [ro 0 7 0]⟩,
  -- OUT_CNT
  ⟨0x40024c, 0x10000, 32, 0x80, 4, 0x400010, 0x10000, 4, false, [rc 0 16 0, rc 16 16 0]⟩,
  -- OUT_FS_STATE
  ⟨0x400250, 0x10000, 32, 0x80, 4, 0x400010, 0x10000, 4, false, [ro 0 3 7, ro 3 3 7, ro 8 6 0]⟩,
  -- STATS_CTRL
  ⟨0x400800, 0x10000, 32, 0, 1, 0x400010, 0x10000, 4, true, [rw 0 1 0, rw 1 1 0, rw 2 1 0, rwr 3 2 2 0 2, rw 5 1 0, rw 6 6 0]⟩,
  -- STATS_WIN_XY
  ⟨0x400804, 0x10000, 32, 0, 1, 0x400010, 0x10000, 4, true, [rwr 0 16 0 0 8191, rwr 16 16 0 0 8191]⟩,
  -- STATS_WIN_SIZE
  ⟨0x400808, 0x10000, 32, 0, 1, 0x400010, 0x10000, 4, true, [rwr 0 16 0 0 8192, rwr 16 16 0 0 8192]⟩,
  -- STATS_CH_SEL
  ⟨0x40080c, 0x10000, 32, 0, 1, 0x400010, 0x10000, 4, true, [rwz 0 4 0 0 5 15, rwz 8 4 1 0 5 15, rwz 16 4 2 0 5 15, rwz 24 4 4 0 5 15]⟩,
  -- STATS_ZONE_GRID
  ⟨0x400810, 0x10000, 32, 0, 1, 0x400010, 0x10000, 4, true, [rwr 0 6 0x10 1 32, rwr 8 6 0x10 1 32]⟩,
  -- STATS_ZONE_SIZE
  ⟨0x400814, 0x10000, 32, 0, 1, 0x400010, 0x10000, 4, true, [rwr 0 16 0x40 8 1024, rwr 16 16 0x40 2 1024]⟩,
  -- STATS_CLIP
  ⟨0x400818, 0x10000, 32, 0, 1, 0x400010, 0x10000, 4, true, [rw 0 20 0xff000]⟩,
  -- STATS_FLK_CFG
  ⟨0x40081c, 0x10000, 32, 0, 1, 0x400010, 0x10000, 4, true, [rw 0 2 3, rw 2 2 2, rwr 4 9 0x40 1 256, rw 16 16 0xcd]⟩,
  -- STATS_FLK_LINE
  ⟨0x400820, 0x10000, 32, 0, 1, 0x400010, 0x10000, 4, true, [rw 0 20 0]⟩,
  -- STATS_FLK_MIN
  ⟨0x400824, 0x10000, 32, 0, 1, 0x400010, 0x10000, 4, true, [rw 0 20 0x1000]⟩,
  -- STATS_FLK_FREQ
  ⟨0x400840, 0x10000, 32, 4, 1, 0x400010, 0x10000, 4, true, [rwz 0 16 0x3e8 500 40000 0]⟩,
  -- STATS_FLK_FREQ
  ⟨0x400844, 0x10000, 32, 4, 1, 0x400010, 0x10000, 4, true, [rwz 0 16 0x4b0 500 40000 0]⟩,
  -- STATS_FLK_FREQ
  ⟨0x400848, 0x10000, 32, 4, 14, 0x400010, 0x10000, 4, true, [rwz 0 16 0 500 40000 0]⟩,
  -- STATS_STATUS
  ⟨0x400880, 0x10000, 32, 0, 1, 0x400010, 0x10000, 4, false, [ro 0 16 0, ro 16 8 0xff, ro 24 1 0]⟩,
  -- STATS_FSN
  ⟨0x400884, 0x10000, 32, 0, 1, 0x400010, 0x10000, 4, false, [ro 0 32 0xffffffff]⟩,
  -- STATS_CNT
  ⟨0x400888, 0x10000, 32, 0, 1, 0x400010, 0x10000, 4, false, [rc 0 16 0, rc 16 16 0]⟩,
  -- STATS_EVENT
  ⟨0x40088c, 0x10000, 32, 0, 1, 0x400010, 0x10000, 4, false, [w1c 0 1 0, w1c 1 1 0]⟩,
  -- STATS_EVENT_EN
  ⟨0x400890, 0x10000, 32, 0, 1, 0x400010, 0x10000, 4, false, [rw 0 2 0]⟩,
  -- KSCHED_CTRL
  ⟨0x400a00, 0x10000, 32, 0, 1, 0x400a18, 0x10000, 7, true, [rw 0 3 4, rwr 4 4 8 0 8, rw 8 4 0, rw 12 1 0, rw 16 4 0]⟩,
  -- KSCHED_FRAME
  ⟨0x400a04, 0x10000, 32, 0, 1, 0x400a18, 0x10000, 7, true, [rwr 0 32 0xfe502b 1000000 1000000000]⟩,
  -- KSCHED_LINE
  ⟨0x400a08, 0x10000, 32, 0, 1, 0x400a18, 0x10000, 7, true, [rwr 0 24 0x27100 16000 16000000]⟩] ++ [
  -- KSCHED_STATUS
  ⟨0x400a0c, 0x10000, 32, 0, 1, 0x400a18, 0x10000, 7, false, [ro 0 2 0, ro 4 3 0, ro 7 1 0, ro 8 3 0]⟩,
  -- KSCHED_CNT
  ⟨0x400a10, 0x10000, 32, 0, 1, 0x400a18, 0x10000, 7, false, [rc 0 16 0, rc 16 16 0]⟩,
  -- KSCHED_CNT2
  ⟨0x400a14, 0x10000, 32, 0, 1, 0x400a18, 0x10000, 7, false, [rc 0 16 0, rc 16 16 0]⟩,
  -- KSCHED_EVENT
  ⟨0x400a18, 0x10000, 32, 0, 1, 0x400a18, 0x10000, 7, false, [w1c 0 1 0, w1c 1 1 0, w1c 2 1 0, w1c 3 1 0, w1c 4 1 0, w1c 5 1 0, w1c 6 1 0, w1c 7 1 0]⟩,
  -- KSCHED_EVENT_EN
  ⟨0x400a1c, 0x10000, 32, 0, 1, 0x400a18, 0x10000, 7, false, [rw 0 8 0]⟩,
  -- KSLOT_KID
  ⟨0x400b00, 0x10000, 32, 0x10, 16, 0x400a18, 0x10000, 7, true, [rw 0 16 0]⟩,
  -- KSLOT_PARAM
  ⟨0x400b04, 0x10000, 32, 0x10, 16, 0x400a18, 0x10000, 7, true, [rw 0 32 4]⟩,
  -- CMT_COMMIT_STATUS
  ⟨0x40f000, 0x10000, 36, 0, 1, 0x30, 0, 2, false, [ro 0 2 0, ro 2 1 0, ro 8 8 0]⟩,
  -- CMT_COMMIT_TARGET
  ⟨0x40f004, 0x10000, 36, 0, 1, 0x30, 0, 2, false, [ro 0 32 0]⟩,
  -- CMT_CONFIG_GEN
  ⟨0x40f008, 0x10000, 36, 0, 1, 0x30, 0, 2, false, [ro 0 32 0]⟩,
  -- CMT_FSN
  ⟨0x40f00c, 0x10000, 36, 0, 1, 0x30, 0, 2, false, [ro 0 32 0xffffffff]⟩,
  -- CMT_REJECT
  ⟨0x40f010, 0x10000, 36, 0, 1, 0x30, 0, 2, false, [ro 0 16 0, ro 16 8 0, ro 24 8 0]⟩,
  -- CMT_ADMIT_PLACE
  ⟨0x40f014, 0x10000, 36, 0, 1, 0x30, 0, 2, false, [ro 0 3 0, ro 3 1 0, ro 4 3 0]⟩,
  -- CMT_ADMIT_OPS
  ⟨0x40f018, 0x10000, 36, 0, 1, 0x30, 0, 2, false, [ro 0 32 0]⟩,
  -- CMT_ADMIT_LOAD
  ⟨0x40f01c, 0x10000, 36, 0, 1, 0x30, 0, 2, false, [ro 0 11 0]⟩,
  -- CMT_ADMIT_INTAKE
  ⟨0x40f020, 0x10000, 36, 0, 1, 0x30, 0, 2, false, [ro 0 32 0]⟩,
  -- CMT_ADMIT_CELLS
  ⟨0x40f024, 0x10000, 36, 0, 1, 0x30, 0, 2, false, [ro 0 19 0]⟩,
  -- CMT_ADMIT_LP5X
  ⟨0x40f028, 0x10000, 36, 0, 1, 0x30, 0, 2, false, [ro 0 32 0]⟩,
  -- CMT_ADMIT_LATENCY
  ⟨0x40f030, 0x10000, 36, 4, 4, 0x30, 0, 2, false, [ro 0 32 0]⟩,
  -- CMT_FRESH_CFG
  ⟨0x40f040, 0x10000, 32, 4, 4, 0x30, 0, 2, true, [rw 0 10 0x64, rwr 10 4 2 1 15]⟩,
  -- CMT_FRESH_CFG
  ⟨0x60f040, 0x10000, 4, 4, 4, 0x30, 0, 2, false, []⟩,
  -- CMT_FRESH_STATUS
  ⟨0x40f050, 0x10000, 32, 4, 4, 0x30, 0, 2, false, [ro 0 1 1, ro 1 1 0, w1c 2 1 0, ro 16 16 0xffff]⟩,
  -- CMT_FRESH_STATUS
  ⟨0x60f050, 0x10000, 4, 4, 4, 0x30, 0, 2, false, []⟩,
  -- CMT_EVENT
  ⟨0x40f060, 0x10000, 36, 0, 1, 0x30, 0, 2, false, [w1c 0 1 0, w1c 1 1 0, w1c 2 1 0, w1c 3 1 0, w1c 4 4 0, w1c 8 4 0]⟩,
  -- CMT_EVENT_EN
  ⟨0x40f064, 0x10000, 36, 0, 1, 0x30, 0, 2, false, [rw 0 12 0]⟩]

/-- The rows of the CANVAS block (10_outputs_canvases.md). -/
def rowsCANVAS : List RegRow := [
  -- CV_ENABLE
  ⟨0x600000, 0x10000, 4, 0, 1, 0x600030, 0x10000, 2, false, [rw 0 1 0]⟩,
  -- CV_CFG
  ⟨0x600004, 0x10000, 4, 0, 1, 0x600030, 0x10000, 2, true, [rw 0 3 0, rw 3 1 0, rw 4 2 1, rwr 6 3 0 0 4]⟩,
  -- CV_SIZE
  ⟨0x600008, 0x10000, 4, 0, 1, 0x600030, 0x10000, 2, true, [rwr 0 16 0x780 16 3840, rwr 16 16 0x438 128 2160]⟩,
  -- CV_PERIOD
  ⟨0x60000c, 0x10000, 4, 0, 1, 0x600030, 0x10000, 2, true, [rwr 0 32 0xfe502b 0 1000000000]⟩,
  -- CV_PHASE
  ⟨0x600010, 0x10000, 4, 0, 1, 0x600030, 0x10000, 2, true, [rwr 0 32 0 0 999999999]⟩,
  -- CV_STRIDE
  ⟨0x600014, 0x10000, 4, 0, 1, 0x600030, 0x10000, 2, true, [rw 0 24 0]⟩,
  -- CV_BACKGROUND
  ⟨0x600018, 0x10000, 4, 0, 1, 0x600030, 0x10000, 2, true, [rw 0 24 0]⟩,
  -- CV_HATCH_A
  ⟨0x60001c, 0x10000, 4, 0, 1, 0x600030, 0x10000, 2, true, [rw 0 24 0]⟩,
  -- CV_HATCH_B
  ⟨0x600020, 0x10000, 4, 0, 1, 0x600030, 0x10000, 2, true, [rw 0 24 0xffd000]⟩,
  -- CV_PEER
  ⟨0x600024, 0x10000, 4, 0, 1, 0x600030, 0x10000, 2, true, [rw 0 6 0]⟩,
  -- CV_PEER_ADDR_LO
  ⟨0x600028, 0x10000, 4, 0, 1, 0x600030, 0x10000, 2, true, [rw 6 26 0]⟩,
  -- CV_PEER_ADDR_HI
  ⟨0x60002c, 0x10000, 4, 0, 1, 0x600030, 0x10000, 2, true, [rw 0 32 0]⟩,
  -- CV_EVENT
  ⟨0x600030, 0x10000, 4, 0, 1, 0x600030, 0x10000, 2, false, [w1c 0 1 0, w1c 1 1 0, w1c 2 1 0]⟩,
  -- CV_EVENT_EN
  ⟨0x600034, 0x10000, 4, 0, 1, 0x600030, 0x10000, 2, false, [rw 0 3 0]⟩,
  -- CV_LAST_FRAME
  ⟨0x600038, 0x10000, 4, 0, 1, 0x600030, 0x10000, 2, false, [ro 0 32 0xffffffff]⟩,
  -- CV_CNT
  ⟨0x60003c, 0x10000, 4, 0, 1, 0x600030, 0x10000, 2, false, [rc 0 16 0]⟩,
  -- CV_VIEW_CTRL
  ⟨0x600100, 0x10000, 4, 0x20, 16, 0x600030, 0x10000, 2, true, [rw 0 1 0, rw 1 7 0]⟩,
  -- CV_VIEW_SRC_XY
  ⟨0x600104, 0x10000, 4, 0x20, 16, 0x600030, 0x10000, 2, true, [rw 0 16 0, rw 16 16 0]⟩,
  -- CV_VIEW_SIZE
  ⟨0x600108, 0x10000, 4, 0x20, 16, 0x600030, 0x10000, 2, true, [rw 0 16 0, rw 16 16 0]⟩,
  -- CV_VIEW_DST_XY
  ⟨0x60010c, 0x10000, 4, 0x20, 16, 0x600030, 0x10000, 2, true, [rw 0 16 0, rw 16 16 0]⟩,
  -- CV_VIEW_BLEND
  ⟨0x600110, 0x10000, 4, 0x20, 16, 0x600030, 0x10000, 2, true, [rwr 0 9 0x100 0 256, rwz 16 10 0 10 1000 0]⟩,
  -- CV_VIEW_STATUS
  ⟨0x600114, 0x10000, 4, 0x20, 16, 0x600030, 0x10000, 2, false, [ro 0 5 0, ro 16 16 0xffff]⟩,
  -- CV_VIEW_FSN
  ⟨0x600118, 0x10000, 4, 0x20, 16, 0x600030, 0x10000, 2, false, [ro 0 32 0xffffffff]⟩,
  -- CV_KSLOT_KID
  ⟨0x600400, 0x10000, 4, 0, 1, 0x600030, 0x10000, 2, true, [rw 0 16 0]⟩,
  -- CV_KSLOT_PARAM
  ⟨0x600404, 0x10000, 4, 0, 1, 0x600030, 0x10000, 2, true, [rw 0 32 4]⟩]

/-- The rows of the TILE block (12_wheels.md). -/
def rowsTILE : List RegRow := [
  -- TILE_CTRL
  ⟨0x800000, 0x100000, 8, 0, 1, 0x30, 0, 2, false, [wo 0 16, wo 16 1]⟩,
  -- TILE_STATUS
  ⟨0x800004, 0x100000, 8, 0, 1, 0x30, 0, 2, false, [ro 0 2 0, ro 8 8 0, ro 16 4 0]⟩,
  -- TILE_LOAD
  ⟨0x800008, 0x100000, 8, 0, 1, 0x30, 0, 2, false, [ro 0 32 0]⟩,
  -- TILE_CAPACITY
  ⟨0x80000c, 0x100000, 8, 0, 1, 0x30, 0, 2, false, [ro 0 32 0]⟩,
  -- TILE_INTAKE
  ⟨0x800010, 0x100000, 8, 0, 1, 0x30, 0, 2, false, [ro 0 32 0]⟩,
  -- TILE_SHELF_USED
  ⟨0x800014, 0x100000, 8, 0, 1, 0x30, 0, 2, false, [ro 0 32 0]⟩,
  -- TILE_HOSTED
  ⟨0x800018, 0x100000, 8, 0, 1, 0x30, 0, 2, false, [ro 0 32 0]⟩,
  -- TILE_TWINNED
  ⟨0x80001c, 0x100000, 8, 0, 1, 0x30, 0, 2, false, [ro 0 32 0]⟩,
  -- TILE_EVENT
  ⟨0x800020, 0x100000, 8, 0, 1, 0x30, 0, 2, false, [w1c 0 1 0, w1c 1 1 0, w1c 2 1 0, w1c 3 1 0, w1c 4 1 0]⟩,
  -- TILE_EVENT_EN
  ⟨0x800024, 0x100000, 8, 0, 1, 0x30, 0, 2, false, [rw 0 5 0]⟩,
  -- TILE_CNT_A
  ⟨0x800028, 0x100000, 8, 0, 1, 0x30, 0, 2, false, [rc 0 16 0, rc 16 16 0]⟩,
  -- TILE_CNT_B
  ⟨0x80002c, 0x100000, 8, 0, 1, 0x30, 0, 2, false, [rc 0 16 0, rc 16 16 0]⟩,
  -- TILE_CNT_C
  ⟨0x800030, 0x100000, 8, 0, 1, 0x30, 0, 2, false, [rc 0 16 0, rc 16 16 0]⟩,
  -- TILE_LAST_FENCED
  ⟨0x800034, 0x100000, 8, 0, 1, 0x30, 0, 2, false, [ro 0 7 0, ro 7 1 0]⟩,
  -- TILE_WHEEL_FENCED
  ⟨0x800040, 0x100000, 8, 4, 4, 0x30, 0, 2, false, [ro 0 32 0]⟩]

/-- The rows of the LARDER block (13_larder.md). -/
def rowsLARDER : List RegRow := [
  -- LARDER_POOL_LIMIT
  ⟨0x1000000, 0, 1, 0, 1, 0x1000010, 0, 8, false, [ro 0 19 0x5f000]⟩,
  -- LARDER_POOL_RESERVED
  ⟨0x1000004, 0, 1, 0, 1, 0x1000010, 0, 8, false, [ro 0 19 0]⟩,
  -- LARDER_POOL_FREE
  ⟨0x1000008, 0, 1, 0, 1, 0x1000010, 0, 8, false, [ro 0 19 0x60000]⟩,
  -- LARDER_RETIRED
  ⟨0x100000c, 0, 1, 0, 1, 0x1000010, 0, 8, false, [ro 0 16 0, ro 16 16 0]⟩,
  -- LARDER_EVENT
  ⟨0x1000010, 0, 1, 0, 1, 0x1000010, 0, 8, false, [w1c 0 1 0, w1c 1 1 0, w1c 2 1 0, w1c 3 1 0, w1c 4 1 0, w1c 5 1 0, w1c 6 1 0, w1c 7 1 0, w1c 8 1 0, w1c 9 1 0]⟩,
  -- LARDER_EVENT_EN
  ⟨0x1000014, 0, 1, 0, 1, 0x1000010, 0, 8, false, [rw 0 10 0]⟩,
  -- LARDER_CNT_ECC
  ⟨0x1000018, 0, 1, 0, 1, 0x1000010, 0, 8, false, [rc 0 16 0, rc 16 16 0]⟩,
  -- LARDER_CNT_ERR
  ⟨0x100001c, 0, 1, 0, 1, 0x1000010, 0, 8, false, [rc 0 16 0, rc 16 16 0]⟩,
  -- LARDER_CNT_FLOW
  ⟨0x1000020, 0, 1, 0, 1, 0x1000010, 0, 8, false, [rc 0 16 0, rc 16 16 0]⟩,
  -- LARDER_DEPTH
  ⟨0x1001000, 0, 1, 4, 192, 0x1000010, 0, 8, true, [rwr 0 7 4 2 64]⟩,
  -- LARDER_G_CFG
  ⟨0x1004000, 0, 1, 0x10, 192, 0x1000010, 0, 8, false, [ro 0 1 0]⟩,
  -- LARDER_G_CFG
  ⟨0x1004c00, 0, 1, 0x10, 64, 0x1000010, 0, 8, false, [rw 0 1 0]⟩,
  -- LARDER_G_STATUS
  ⟨0x1004004, 0, 1, 0x10, 256, 0x1000010, 0, 8, false, [ro 0 1 1, ro 1 1 0, w1c 2 1 0, ro 4 12 0, ro 16 5 0]⟩,
  -- LARDER_POP_LO
  ⟨0x1008000, 0, 1, 0x10, 256, 0x1000010, 0, 8, false, [ro 0 32 0]⟩,
  -- LARDER_POP_HI
  ⟨0x1008004, 0, 1, 0x10, 256, 0x1000010, 0, 8, false, [ro 0 32 0]⟩,
  -- LARDER_POP_TAG
  ⟨0x1008008, 0, 1, 0x10, 256, 0x1000010, 0, 8, false, [ro 0 1 0, ro 1 1 0, ro 2 1 0, ro 4 12 0]⟩,
  -- LQ_CFG
  ⟨0x1020000, 0x20, 192, 0, 1, 0x1000010, 0, 8, false, [ro 0 1 0, ro 1 1 1, roI 2 8, ro 10 3 7]⟩,
  -- LQ_CFG
  ⟨0x1021800, 0x20, 3904, 0, 1, 0x1000010, 0, 8, false, [rw 0 1 0, ro 1 1 0, rw 2 8 0xc0, rw 10 3 7]⟩,
  -- LQ_RESERVE
  ⟨0x1020004, 0x20, 192, 0, 1, 0x1000010, 0, 8, false, [ro 0 19 0]⟩,
  -- LQ_RESERVE
  ⟨0x1021804, 0x20, 3904, 0, 1, 0x1000010, 0, 8, false, [rw 0 19 0]⟩,
  -- LQ_CREDIT
  ⟨0x1020008, 0x20, 4096, 0, 1, 0x1000010, 0, 8, false, [ro 0 19 0]⟩,
  -- LQ_WORDS
  ⟨0x102000c, 0x20, 4096, 0, 1, 0x1000010, 0, 8, false, [ro 0 24 0]⟩,
  -- LQ_PKTS
  ⟨0x1020010, 0x20, 4096, 0, 1, 0x1000010, 0, 8, false, [ro 0 24 0]⟩,
  -- LQ_HEAD
  ⟨0x1020014, 0x20, 4096, 0, 1, 0x1000010, 0, 8, false, [ro 0 19 0, ro 19 5 0]⟩,
  -- LQ_TAIL
  ⟨0x1020018, 0x20, 4096, 0, 1, 0x1000010, 0, 8, false, [ro 0 19 0, ro 19 5 0, ro 24 1 0, ro 25 1 0]⟩,
  -- LQ_CTRL
  ⟨0x102001c, 0x20, 4096, 0, 1, 0x1000010, 0, 8, false, [wo 0 1, w1c 1 1 0, ro 2 1 0]⟩]

/-- The rows of the HOIST block (14_hoist.md). -/
def rowsHOIST : List RegRow := [
  -- HOIST_CTRL
  ⟨0x1100000, 0x400, 256, 0, 1, 0x1100020, 0x400, 7, false, [wo 0 1, wo 1 1, rwr 8 6 0 0 47]⟩,
  -- HOIST_CFG
  ⟨0x1100004, 0x400, 192, 0, 1, 0x1100020, 0x400, 7, false, [ro 0 2 3, ro 2 4 3, ro 8 8 0]⟩,
  -- HOIST_CFG
  ⟨0x1130004, 0x400, 64, 0, 1, 0x1100020, 0x400, 7, false, [rwr 0 2 0 0 2, rw 2 4 3, rw 8 8 0]⟩,
  -- HOIST_STATUS
  ⟨0x1100008, 0x400, 192, 0, 1, 0x1100020, 0x400, 7, false, [ro 0 3 0, ro 3 1 1, ro 4 1 0, ro 8 6 0, ro 16 13 0]⟩,
  -- HOIST_STATUS
  ⟨0x1130008, 0x400, 64, 0, 1, 0x1100020, 0x400, 7, false, [ro 0 3 0, ro 3 1 0, ro 4 1 0, ro 8 6 0, ro 16 13 0]⟩,
  -- HOIST_FAULT
  ⟨0x110000c, 0x400, 256, 0, 1, 0x1100020, 0x400, 7, false, [ro 0 32 0]⟩,
  -- HOIST_FAULT_INFO
  ⟨0x1100010, 0x400, 256, 0, 1, 0x1100020, 0x400, 7, false, [ro 0 6 0, ro 6 2 0, ro 8 4 0]⟩,
  -- HOIST_FAULT_ADDR_LO
  ⟨0x1100014, 0x400, 256, 0, 1, 0x1100020, 0x400, 7, false, [ro 0 32 0]⟩,
  -- HOIST_FAULT_ADDR_HI
  ⟨0x1100018, 0x400, 256, 0, 1, 0x1100020, 0x400, 7, false, [ro 0 32 0]⟩,
  -- HOIST_MOVED
  ⟨0x110001c, 0x400, 256, 0, 1, 0x1100020, 0x400, 7, false, [ro 0 32 0]⟩,
  -- HOIST_EVENT
  ⟨0x1100020, 0x400, 256, 0, 1, 0x1100020, 0x400, 7, false, [w1c 0 1 0, w1c 1 1 0, w1c 2 1 0, w1c 3 1 0, w1c 4 1 0, w1c 5 1 0, w1c 6 1 0, w1c 7 1 0]⟩,
  -- HOIST_EVENT_EN
  ⟨0x1100024, 0x400, 256, 0, 1, 0x1100020, 0x400, 7, false, [rw 0 8 0]⟩,
  -- HOIST_CNT
  ⟨0x1100028, 0x400, 256, 0, 1, 0x1100020, 0x400, 7, false, [rc 0 16 0, rc 16 16 0]⟩,
  -- HOIST_X
  ⟨0x1100040, 0x400, 192, 4, 16, 0x1100020, 0x400, 7, false, [ro 0 32 0]⟩,
  -- HOIST_X
  ⟨0x1130040, 0x400, 64, 4, 16, 0x1100020, 0x400, 7, false, [rw 0 32 0]⟩,
  -- HOIST_INSTR
  ⟨0x1100100, 0x400, 192, 4, 192, 0x1100020, 0x400, 7, false, [ro 0 32 0]⟩,
  -- HOIST_INSTR
  ⟨0x1130100, 0x400, 64, 4, 192, 0x1100020, 0x400, 7, false, [rw 0 32 0]⟩,
  -- HOISTG_TAGS
  ⟨0x1140000, 0, 1, 0, 1, 0x30, 0, 2, false, [ro 0 13 0, rc 16 13 0]⟩,
  -- HOISTG_HALTED
  ⟨0x1140020, 0, 1, 4, 8, 0x30, 0, 2, false, [ro 0 32 0]⟩,
  -- HOISTG_PENDING
  ⟨0x1140040, 0, 1, 4, 8, 0x30, 0, 2, false, [ro 0 32 0]⟩]

/-- The rows of the BRIDGE block (16_pcie_and_bridges.md). -/
def rowsBRIDGE : List RegRow := [
  -- BRIDGE_CFG
  ⟨0x1200000, 0, 1, 0, 1, 0x1200008, 0, 7, false, [rwr 0 6 0x14 1 40, rwr 6 10 0x28 1 1000]⟩,
  -- BRIDGE_STATUS
  ⟨0x1200004, 0, 1, 0, 1, 0x1200008, 0, 7, false, [ro 0 7 0, ro 8 4 0, w1c 12 1 0]⟩,
  -- BRIDGE_EVENT
  ⟨0x1200008, 0, 1, 0, 1, 0x1200008, 0, 7, false, [w1c 0 1 0, w1c 1 1 0, w1c 2 1 0, w1c 3 1 0, w1c 4 1 0, w1c 5 1 0, w1c 6 1 0, w1c 7 1 0]⟩,
  -- BRIDGE_EVENT_EN
  ⟨0x120000c, 0, 1, 0, 1, 0x1200008, 0, 7, false, [rw 0 8 0]⟩,
  -- BRIDGE_CNT_A
  ⟨0x1200010, 0, 1, 0, 1, 0x1200008, 0, 7, false, [rc 0 16 0, rc 16 16 0]⟩,
  -- BRIDGE_CNT_B
  ⟨0x1200014, 0, 1, 0, 1, 0x1200008, 0, 7, false, [rc 0 16 0, rc 16 16 0]⟩,
  -- BRIDGE_PORT
  ⟨0x1200040, 0, 1, 4, 32, 0x1200008, 0, 7, false, [ro 0 7 0, ro 8 1 0]⟩,
  -- BRIDGE_ERRLOG_ADDR_LO
  ⟨0x1200100, 0, 1, 0x20, 16, 0x1200008, 0, 7, false, [ro 0 32 0]⟩,
  -- BRIDGE_ERRLOG_ADDR_HI
  ⟨0x1200104, 0, 1, 0x20, 16, 0x1200008, 0, 7, false, [ro 0 32 0]⟩,
  -- BRIDGE_ERRLOG_DATA_LO
  ⟨0x1200108, 0, 1, 0x20, 16, 0x1200008, 0, 7, false, [ro 0 32 0]⟩,
  -- BRIDGE_ERRLOG_DATA_HI
  ⟨0x120010c, 0, 1, 0x20, 16, 0x1200008, 0, 7, false, [ro 0 32 0]⟩,
  -- BRIDGE_ERRLOG_INFO
  ⟨0x1200110, 0, 1, 0x20, 16, 0x1200008, 0, 7, false, [ro 0 2 0, ro 2 1 0, ro 8 8 0, ro 16 4 0, ro 20 4 0]⟩,
  -- BRIDGE_ERRLOG_TIME_LO
  ⟨0x1200114, 0, 1, 0x20, 16, 0x1200008, 0, 7, false, [ro 0 32 0]⟩,
  -- BRIDGE_ERRLOG_TIME_HI
  ⟨0x1200118, 0, 1, 0x20, 16, 0x1200008, 0, 7, false, [ro 0 32 0]⟩,
  -- BRIDGE_COLLECT_LO
  ⟨0x1200400, 0, 1, 8, 64, 0x1200008, 0, 7, false, [ro 0 32 0]⟩,
  -- BRIDGE_COLLECT_HI
  ⟨0x1200404, 0, 1, 8, 64, 0x1200008, 0, 7, false, [ro 0 4 0, ro 4 2 0, ro 6 5 0]⟩,
  -- BRIDGE_OUT_WIN_CTRL
  ⟨0x1200800, 0, 1, 0x20, 16, 0x1200008, 0, 7, false, [rw 0 1 0, rw 1 6 0]⟩,
  -- BRIDGE_OUT_WIN_STATUS
  ⟨0x1200804, 0, 1, 0x20, 16, 0x1200008, 0, 7, false, [ro 0 1 1, ro 16 16 0]⟩,
  -- BRIDGE_OUT_WIN_TARGET_LO
  ⟨0x1200808, 0, 1, 0x20, 16, 0x1200008, 0, 7, false, [rw 20 12 0]⟩,
  -- BRIDGE_OUT_WIN_TARGET_HI
  ⟨0x120080c, 0, 1, 0x20, 16, 0x1200008, 0, 7, false, [rw 0 32 0]⟩]

/-- The rows of the LANE block (17_fabric_lanes.md). -/
def rowsLANE : List RegRow := [
  -- LANE_CTRL
  ⟨0x1300000, 0x10000, 8, 0, 1, 0x1300018, 0x10000, 5, false, [rw 0 1 0, rw 1 1 0, rw 2 1 0, rw 3 1 0, rw 4 1 0, rw 5 1 0]⟩,
  -- LANE_STATUS
  ⟨0x1300004, 0x10000, 8, 0, 1, 0x1300018, 0x10000, 5, false, [ro 0 2 0, ro 2 2 0, ro 4 1 0, ro 5 1 0, ro 6 1 0, ro 7 1 0, ro 8 1 0, ro 9 1 0]⟩,
  -- LANE_TX_EQ
  ⟨0x1300008, 0x10000, 8, 0, 1, 0x1300018, 0x10000, 5, false, [rwr 0 5 0 0 16, rwr 8 5 8 0 24, rw 16 4 8]⟩,
  -- LANE_RX_EQ
  ⟨0x130000c, 0x10000, 8, 0, 1, 0x1300018, 0x10000, 5, false, [rwr 0 2 0 0 2, rw 4 4 8]⟩,
  -- LANE_RX_EQ_STATUS
  ⟨0x1300010, 0x10000, 8, 0, 1, 0x1300018, 0x10000, 5, false, [ro 0 4 0, ro 4 8 0, ro 12 8 0]⟩,
  -- LANE_PWR
  ⟨0x1300014, 0x10000, 8, 0, 1, 0x1300018, 0x10000, 5, false, [rw 0 2 3, rw 2 2 3, rw 4 2 0, rw 6 2 0]⟩,
  -- LANE_EVENT
  ⟨0x1300018, 0x10000, 8, 0, 1, 0x1300018, 0x10000, 5, false, [w1c 0 1 0, w1c 1 1 0, w1c 2 1 0, w1c 3 1 0, w1c 4 1 0, w1c 5 1 0, w1c 6 1 0]⟩,
  -- LANE_EVENT_EN
  ⟨0x130001c, 0x10000, 8, 0, 1, 0x1300018, 0x10000, 5, false, [rw 0 7 0]⟩,
  -- LANE_PATGEN
  ⟨0x1300020, 0x10000, 8, 0, 1, 0x1300018, 0x10000, 5, false, [rw 0 1 0, rwr 1 3 1 0 4]⟩,
  -- LANE_PATCHK
  ⟨0x1300024, 0x10000, 8, 0, 1, 0x1300018, 0x10000, 5, false, [rw 0 1 0, rwr 1 3 1 0 4, wo 4 1, wo 5 1]⟩,
  -- LANE_INJECT
  ⟨0x1300028, 0x10000, 8, 0, 1, 0x1300018, 0x10000, 5, false, [wo 0 1, rw 1 1 0, rwr 2 6 0x1e 10 40]⟩,
  -- LANE_USER_PAT_LO
  ⟨0x130002c, 0x10000, 8, 0, 1, 0x1300018, 0x10000, 5, false, [rw 0 32 0xcccccccc]⟩,
  -- LANE_USER_PAT_HI
  ⟨0x1300030, 0x10000, 8, 0, 1, 0x1300018, 0x10000, 5, false, [rw 0 32 0xcccccccc]⟩,
  -- LANE_CHK_STATUS
  ⟨0x1300034, 0x10000, 8, 0, 1, 0x1300018, 0x10000, 5, false, [ro 0 1 0, ro 16 16 0]⟩,
  -- LANE_INJ_COUNT
  ⟨0x1300038, 0x10000, 8, 0, 1, 0x1300018, 0x10000, 5, false, [rc 0 32 0]⟩,
  -- LANE_SNAP_BITS_LO
  ⟨0x1300040, 0x10000, 8, 0, 1, 0x1300018, 0x10000, 5, false, [ro 0 32 0]⟩,
  -- LANE_SNAP_BITS_HI
  ⟨0x1300044, 0x10000, 8, 0, 1, 0x1300018, 0x10000, 5, false, [ro 0 16 0]⟩,
  -- LANE_SNAP_SYM
  ⟨0x1300048, 0x10000, 8, 0, 1, 0x1300018, 0x10000, 5, false, [ro 0 32 0]⟩,
  -- LANE_SNAP_BIT
  ⟨0x130004c, 0x10000, 8, 0, 1, 0x1300018, 0x10000, 5, false, [ro 0 32 0]⟩,
  -- LANE_LOOPBACK
  ⟨0x1300100, 0x10000, 8, 0, 1, 0x1300018, 0x10000, 5, false, [rw 0 2 0, rw 4 1 0]⟩]

/-- The rows of the FABRIC block (18_troreind_fabric.md). -/
def rowsFABRIC : List RegRow := [
  -- FABRIC_CFG
  ⟨0x1400000, 0, 1, 0, 1, 0x140000c, 0, 11, false, [rwr 0 2 0 0 2, rw 2 1 0, rw 3 1 0, rw 4 1 0, rw 8 8 0x80, rwr 16 7 0x40 0 64]⟩,
  -- FABRIC_STATUS
  ⟨0x1400004, 0, 1, 0, 1, 0x140000c, 0, 11, false, [ro 0 3 0, ro 3 1 0, ro 4 6 0, ro 10 1 0, ro 11 6 0, ro 17 7 0]⟩,
  -- FABRIC_TIMING
  ⟨0x1400008, 0, 1, 0, 1, 0x140000c, 0, 11, false, [rwr 0 14 0x7d0 100 10000, rwr 14 14 0x3e8 100 10000]⟩,
  -- FABRIC_EVENT
  ⟨0x140000c, 0, 1, 0, 1, 0x140000c, 0, 11, false, [w1c 0 1 0, w1c 1 1 0, w1c 2 1 0, w1c 3 1 0, w1c 4 1 0, w1c 5 1 0, w1c 6 1 0, w1c 7 1 0, w1c 8 1 0, w1c 9 1 0, w1c 10 1 0, w1c 11 1 0, w1c 12 1 0]⟩,
  -- FABRIC_EVENT_EN
  ⟨0x1400010, 0, 1, 0, 1, 0x140000c, 0, 11, false, [rw 0 13 0]⟩,
  -- FABRIC_CNT_A
  ⟨0x1400014, 0, 1, 0, 1, 0x140000c, 0, 11, false, [rc 0 16 0, rc 16 16 0]⟩,
  -- FABRIC_CNT_B
  ⟨0x1400018, 0, 1, 0, 1, 0x140000c, 0, 11, false, [rc 0 16 0, rc 16 16 0]⟩,
  -- FABRIC_CNT_C
  ⟨0x140001c, 0, 1, 0, 1, 0x140000c, 0, 11, false, [rc 0 16 0, rc 16 16 0]⟩,
  -- FABRIC_ROOT_SERIAL_LO
  ⟨0x1400020, 0, 1, 0, 1, 0x140000c, 0, 11, false, [ro 0 32 0]⟩,
  -- FABRIC_ROOT_SERIAL_HI
  ⟨0x1400024, 0, 1, 0, 1, 0x140000c, 0, 11, false, [ro 0 32 0]⟩,
  -- FABRIC_PORT_CTRL
  ⟨0x1400040, 0, 1, 0x20, 4, 0x140000c, 0, 11, false, [rw 0 1 1, rw 1 1 0, rwr 2 10 0x14 1 1000]⟩,
  -- FABRIC_PORT_STATUS
  ⟨0x1400044, 0, 1, 0x20, 4, 0x140000c, 0, 11, false, [ro 0 3 0, ro 3 4 0, ro 7 6 0, ro 13 1 0, ro 14 1 0]⟩,
  -- FABRIC_PORT_ASYM
  ⟨0x1400048, 0, 1, 0x20, 4, 0x140000c, 0, 11, false, [rw 0 16 0]⟩,
  -- FABRIC_PORT_CNT
  ⟨0x140004c, 0, 1, 0x20, 4, 0x140000c, 0, 11, false, [rc 0 16 0, rc 16 16 0]⟩,
  -- FABRIC_PORT_NB_SERIAL_LO
  ⟨0x1400050, 0, 1, 0x20, 4, 0x140000c, 0, 11, false, [ro 0 32 0]⟩,
  -- FABRIC_PORT_NB_SERIAL_HI
  ⟨0x1400054, 0, 1, 0x20, 4, 0x140000c, 0, 11, false, [ro 0 32 0]⟩,
  -- FABRIC_PORT_AUTH
  ⟨0x1400058, 0, 1, 0x20, 4, 0x140000c, 0, 11, false, [ro 0 2 0, ro 2 4 0]⟩,
  -- FABRIC_ALLOW_LO
  ⟨0x1400100, 0, 1, 8, 16, 0x140000c, 0, 11, false, [rw 0 32 0]⟩,
  -- FABRIC_ALLOW_HI
  ⟨0x1400104, 0, 1, 8, 16, 0x140000c, 0, 11, false, [rw 0 32 0]⟩,
  -- FABRIC_ROUTE
  ⟨0x1400200, 0, 1, 4, 64, 0x140000c, 0, 11, false, [rw 0 2 0, rw 2 1 0, ro 3 4 0, rw 7 2 0, rw 9 1 0, ro 10 4 0, ro 14 1 0, rw 15 1 0, ro 16 1 0]⟩,
  -- FABRIC_IN_WIN_CTRL
  ⟨0x1400400, 0, 1, 0x40, 64, 0x140000c, 0, 11, false, [rw 0 1 0, rwr 1 2 0 0 1, rw 3 1 1, rw 4 1 1, rw 5 1 0]⟩,
  -- FABRIC_IN_WIN_STATUS
  ⟨0x1400404, 0, 1, 0x40, 64, 0x140000c, 0, 11, false, [ro 0 1 1, ro 16 16 0]⟩,
  -- FABRIC_IN_WIN_BASE_LO
  ⟨0x1400408, 0, 1, 0x40, 64, 0x140000c, 0, 11, false, [rw 12 20 0]⟩,
  -- FABRIC_IN_WIN_BASE_HI
  ⟨0x140040c, 0, 1, 0x40, 64, 0x140000c, 0, 11, false, [rw 0 32 0]⟩,
  -- FABRIC_IN_WIN_LIMIT_LO
  ⟨0x1400410, 0, 1, 0x40, 64, 0x140000c, 0, 11, false, [ro 0 12 0xfff, rw 12 20 0]⟩,
  -- FABRIC_IN_WIN_LIMIT_HI
  ⟨0x1400414, 0, 1, 0x40, 64, 0x140000c, 0, 11, false, [rw 0 32 0]⟩,
  -- FABRIC_IN_WIN_TARGET_LO
  ⟨0x1400418, 0, 1, 0x40, 64, 0x140000c, 0, 11, false, [rw 12 20 0]⟩,
  -- FABRIC_IN_WIN_TARGET_HI
  ⟨0x140041c, 0, 1, 0x40, 64, 0x140000c, 0, 11, false, [rw 0 32 0]⟩,
  -- FABRIC_IN_WIN_SRC_LO
  ⟨0x1400420, 0, 1, 0x40, 64, 0x140000c, 0, 11, false, [rw 0 32 0xffffffff]⟩,
  -- FABRIC_IN_WIN_SRC_HI
  ⟨0x1400424, 0, 1, 0x40, 64, 0x140000c, 0, 11, false, [rw 0 32 0xffffffff]⟩] ++ [
  -- FABRIC_WIN_EVENT
  ⟨0x1401400, 0, 1, 4, 2, 0x140000c, 0, 11, false, [w1c 0 32 0]⟩]

/-- The blocks of R549: first offset, end (exclusive) and rows. -/
def regBlocks : List (Nat × Nat × List RegRow) := [
  (0, 0x10000, rowsGLB),
  (0x10000, 0x20000, rowsDBELL),
  (0x20000, 0x40000, rowsRING),
  (0x40000, 0x80000, rowsPCIE),
  (0x80000, 0x90000, rowsSAFE),
  (0x90000, 0xa0000, rowsMADC),
  (0xa0000, 0xb0000, rowsTALLY),
  (0xb0000, 0xc0000, rowsATTIC),
  (0xc0000, 0xd0000, rowsIDENT),
  (0xd0000, 0xe0000, rowsPWR),
  (0x100000, 0x110000, rowsREGU),
  (0x200000, 0x220000, rowsSPORT),
  (0x220000, 0x224000, rowsLPORT),
  (0x300000, 0x320000, rowsSCC),
  (0x320000, 0x321000, rowsMGT),
  (0x340000, 0x350000, rowsESC),
  (0x400000, 0x600000, rowsPIPE),
  (0x600000, 0x640000, rowsCANVAS ++ rowsPIPE),
  (0x800000, 0x1000000, rowsTILE),
  (0x1000000, 0x1100000, rowsLARDER),
  (0x1100000, 0x1140100, rowsHOIST),
  (0x1200000, 0x1201000, rowsBRIDGE),
  (0x1300000, 0x1380000, rowsLANE),
  (0x1400000, 0x1410000, rowsFABRIC)]

/-- The instance numbers of a register of the row at `off`, or none. -/
def RegRow.index (r : RegRow) (off : Nat) : Option (Nat × Nat) :=
  if off < r.base then none else
    let d := off - r.base
    let i := if r.s1 = 0 then 0 else d / r.s1
    let e := if r.s1 = 0 then d else d % r.s1
    let j := if r.s2 = 0 then 0 else e / r.s2
    let z := if r.s2 = 0 then e else e % r.s2
    if z = 0 && decide (i < r.n1) && decide (j < r.n2) then some (i, j) else none

/-- The first row of a list that decodes `off`. -/
def findRow (off : Nat) : List RegRow → Option (RegRow × Nat × Nat)
  | [] => none
  | r :: rs => match r.index off with
    | some (i, j) => some (r, i, j)
    | none => findRow off rs

/-- The rows of the block whose span holds `off`. -/
def blockRows (off : Nat) : List (Nat × Nat × List RegRow) → List RegRow
  | [] => []
  | (lo, hi, rows) :: bs => if lo ≤ off && off < hi then rows else blockRows off bs

/-- The row and instance that BAR0 offset `off` decodes to (R549, R555), or none (R551). -/
def regAt (off : Nat) : Option (RegRow × Nat × Nat) := findRow off (blockRows off regBlocks)

/-- The reset word of the fields of a row for instance `i`. -/
def resetOf (i : Nat) : List RegField → Nat
  | [] => 0
  | f :: fs => ((f.rst + f.rstIdx * i) % 2 ^ f.width) * 2 ^ f.lsb + resetOf i fs

/-- What the register at `off` reads after a device reset; 0 at an offset that is not decoded. -/
def resetWord (off : Nat) : BitVec 32 :=
  match regAt off with
  | some (r, i, _) => BitVec.ofNat 32 (resetOf i r.flds)
  | none => 0

end Sys2Proof.Machine
end

