-- ==== Sys2Proof/Machine/RegNames.lean ====
section
/-!
DEFINITION. Names for the registers and fields of BAR0, one definition each, from the offset and field
tables of the owning chapters: `rBLOCK_REGISTER` is a BAR0 offset, `fBLOCK_REGISTER_FIELD` a field.
-/

namespace Sys2Proof.Machine

/-- A field of a register: the register's BAR0 offset, the field's lowest bit and its width. -/
structure Fld where
  off : Nat
  lsb : Nat
  width : Nat
  deriving DecidableEq, Repr

abbrev rGLB_ID : Nat := 0
abbrev fGLB_ID_VENDOR : Fld := ⟨rGLB_ID, 0, 16⟩
abbrev fGLB_ID_DEVICE : Fld := ⟨rGLB_ID, 16, 16⟩
abbrev rGLB_REVISION : Nat := 4
abbrev fGLB_REVISION_REV : Fld := ⟨rGLB_REVISION, 0, 8⟩
abbrev fGLB_REVISION_IF_VERSION : Fld := ⟨rGLB_REVISION, 8, 8⟩
abbrev rGLB_FW_VERSION : Nat := 8
abbrev fGLB_FW_VERSION_MINOR : Fld := ⟨rGLB_FW_VERSION, 0, 16⟩
abbrev fGLB_FW_VERSION_MAJOR : Fld := ⟨rGLB_FW_VERSION, 16, 16⟩
abbrev rGLB_FW_PATCH : Nat := 0xc
abbrev fGLB_FW_PATCH_PATCH : Fld := ⟨rGLB_FW_PATCH, 0, 16⟩
abbrev rGLB_LIB_VERSION : Nat := 0x10
abbrev fGLB_LIB_VERSION_MINOR : Fld := ⟨rGLB_LIB_VERSION, 0, 16⟩
abbrev fGLB_LIB_VERSION_MAJOR : Fld := ⟨rGLB_LIB_VERSION, 16, 16⟩
abbrev rGLB_LIB_PATCH : Nat := 0x14
abbrev fGLB_LIB_PATCH_PATCH : Fld := ⟨rGLB_LIB_PATCH, 0, 16⟩
abbrev rGLB_STRAPS : Nat := 0x20
abbrev fGLB_STRAPS_TILES : Fld := ⟨rGLB_STRAPS, 0, 2⟩
abbrev fGLB_STRAPS_MGT_A : Fld := ⟨rGLB_STRAPS, 2, 3⟩
abbrev fGLB_STRAPS_ACTIVE_TILES : Fld := ⟨rGLB_STRAPS, 8, 4⟩
abbrev fGLB_STRAPS_RAILS : Fld := ⟨rGLB_STRAPS, 16, 7⟩
abbrev rGLB_EVENT : Nat := 0x30
abbrev fGLB_EVENT_UNMAPPED : Fld := ⟨rGLB_EVENT, 0, 1⟩
abbrev fGLB_EVENT_SIZE_ERR : Fld := ⟨rGLB_EVENT, 1, 1⟩
abbrev fGLB_EVENT_CFG_INVALID : Fld := ⟨rGLB_EVENT, 2, 1⟩
abbrev rGLB_EVENT_EN : Nat := 0x34
abbrev fGLB_EVENT_EN_EN : Fld := ⟨rGLB_EVENT_EN, 0, 3⟩
abbrev rGLB_ACCESS_ADDR : Nat := 0x38
abbrev fGLB_ACCESS_ADDR_OFFSET : Fld := ⟨rGLB_ACCESS_ADDR, 0, 26⟩
abbrev fGLB_ACCESS_ADDR_REQUESTER : Fld := ⟨rGLB_ACCESS_ADDR, 26, 2⟩
abbrev rGLB_SCRATCH : Nat := 0x3c
abbrev rGLB_INT_SUMMARY (j : Nat) : Nat := 0x40 + 4 * j
abbrev rGLB_BOOT_STATUS : Nat := 0x100
abbrev fGLB_BOOT_STATUS_READY : Fld := ⟨rGLB_BOOT_STATUS, 0, 1⟩
abbrev fGLB_BOOT_STATUS_DEGRADED : Fld := ⟨rGLB_BOOT_STATUS, 1, 1⟩
abbrev fGLB_BOOT_STATUS_BANK : Fld := ⟨rGLB_BOOT_STATUS, 2, 1⟩
abbrev fGLB_BOOT_STATUS_ONE_BANK : Fld := ⟨rGLB_BOOT_STATUS, 3, 1⟩
abbrev fGLB_BOOT_STATUS_ISLAND_OK : Fld := ⟨rGLB_BOOT_STATUS, 4, 1⟩
abbrev fGLB_BOOT_STATUS_ADC_CAL : Fld := ⟨rGLB_BOOT_STATUS, 5, 1⟩
abbrev fGLB_BOOT_STATUS_KERNELS : Fld := ⟨rGLB_BOOT_STATUS, 6, 1⟩
abbrev fGLB_BOOT_STATUS_EGRESS_PCIE : Fld := ⟨rGLB_BOOT_STATUS, 7, 1⟩
abbrev fGLB_BOOT_STATUS_EGRESS_FABRIC : Fld := ⟨rGLB_BOOT_STATUS, 8, 1⟩
abbrev fGLB_BOOT_STATUS_STAGE : Fld := ⟨rGLB_BOOT_STATUS, 12, 4⟩
abbrev fGLB_BOOT_STATUS_TILES_IN_SERVICE : Fld := ⟨rGLB_BOOT_STATUS, 16, 8⟩
abbrev fGLB_BOOT_STATUS_MEM_IN_SERVICE : Fld := ⟨rGLB_BOOT_STATUS, 24, 2⟩
abbrev rGLB_BOOT_FAULT : Nat := 0x104
abbrev fGLB_BOOT_FAULT_CLASS : Fld := ⟨rGLB_BOOT_FAULT, 24, 8⟩
abbrev fGLB_BOOT_FAULT_INSTANCE : Fld := ⟨rGLB_BOOT_FAULT, 16, 8⟩
abbrev fGLB_BOOT_FAULT_CODE : Fld := ⟨rGLB_BOOT_FAULT, 0, 16⟩
abbrev rGLB_RESET_CAUSE : Nat := 0x108
abbrev fGLB_RESET_CAUSE_POWER_ON : Fld := ⟨rGLB_RESET_CAUSE, 0, 1⟩
abbrev fGLB_RESET_CAUSE_PORST : Fld := ⟨rGLB_RESET_CAUSE, 1, 1⟩
abbrev fGLB_RESET_CAUSE_BROWNOUT : Fld := ⟨rGLB_RESET_CAUSE, 2, 1⟩
abbrev fGLB_RESET_CAUSE_SW_RESET : Fld := ⟨rGLB_RESET_CAUSE, 3, 1⟩
abbrev fGLB_RESET_CAUSE_PERST : Fld := ⟨rGLB_RESET_CAUSE, 4, 1⟩
abbrev fGLB_RESET_CAUSE_HOT_RESET : Fld := ⟨rGLB_RESET_CAUSE, 5, 1⟩
abbrev fGLB_RESET_CAUSE_FLR : Fld := ⟨rGLB_RESET_CAUSE, 6, 1⟩
abbrev fGLB_RESET_CAUSE_SEQ_ERROR : Fld := ⟨rGLB_RESET_CAUSE, 7, 1⟩
abbrev fGLB_RESET_CAUSE_BOOT_FAILED : Fld := ⟨rGLB_RESET_CAUSE, 8, 1⟩
abbrev rGLB_RESET_CTRL : Nat := 0x10c
abbrev fGLB_RESET_CTRL_KEY : Fld := ⟨rGLB_RESET_CTRL, 0, 16⟩
abbrev fGLB_RESET_CTRL_DEV_RESET : Fld := ⟨rGLB_RESET_CTRL, 16, 1⟩
abbrev rGLB_TILE_WHEELS (j : Nat) : Nat := 0x120 + 4 * j
abbrev fGLB_TILE_WHEELS_HEALTHY (j : Nat) : Fld := ⟨rGLB_TILE_WHEELS j, 0, 8⟩
abbrev fGLB_TILE_WHEELS_FENCED_FAULT (j : Nat) : Fld := ⟨rGLB_TILE_WHEELS j, 8, 1⟩
abbrev fGLB_TILE_WHEELS_NOT_SELECTED (j : Nat) : Fld := ⟨rGLB_TILE_WHEELS j, 9, 1⟩
abbrev rDBELL_CR_TAIL (j : Nat) : Nat := 0x10000 + 4 * j
abbrev fDBELL_CR_TAIL_INDEX (j : Nat) : Fld := ⟨rDBELL_CR_TAIL j, 0, 16⟩
abbrev rDBELL_CQ_HEAD (j : Nat) : Nat := 0x10100 + 4 * j
abbrev fDBELL_CQ_HEAD_INDEX (j : Nat) : Fld := ⟨rDBELL_CQ_HEAD j, 0, 16⟩
abbrev rDBELL_SR_TAIL (j : Nat) : Nat := 0x11000 + 4 * j
abbrev fDBELL_SR_TAIL_INDEX (j : Nat) : Fld := ⟨rDBELL_SR_TAIL j, 0, 16⟩
abbrev rDBELL_KICK : Nat := 0x12000
abbrev fDBELL_KICK_READ : Fld := ⟨rDBELL_KICK, 0, 1⟩
abbrev rRING_SHADOW_BASE_LO : Nat := 0x25000
abbrev fRING_SHADOW_BASE_LO_ADDR : Fld := ⟨rRING_SHADOW_BASE_LO, 12, 20⟩
abbrev rRING_SHADOW_BASE_HI : Nat := 0x25004
abbrev rRING_SHADOW_CFG : Nat := 0x25008
abbrev fRING_SHADOW_CFG_EN : Fld := ⟨rRING_SHADOW_CFG, 0, 1⟩
abbrev fRING_SHADOW_CFG_POLL_US : Fld := ⟨rRING_SHADOW_CFG, 1, 10⟩
abbrev fRING_SHADOW_CFG_LOCKED : Fld := ⟨rRING_SHADOW_CFG, 31, 1⟩
abbrev rRING_ASYNC_CFG : Nat := 0x25010
abbrev fRING_ASYNC_CFG_CQ : Fld := ⟨rRING_ASYNC_CFG, 0, 6⟩
abbrev fRING_ASYNC_CFG_EN : Fld := ⟨rRING_ASYNC_CFG, 8, 1⟩
abbrev rRING_INT_MODE : Nat := 0x25014
abbrev fRING_INT_MODE_MSIX : Fld := ⟨rRING_INT_MODE, 0, 1⟩
abbrev fRING_INT_MODE_MSI : Fld := ⟨rRING_INT_MODE, 1, 1⟩
abbrev fRING_INT_MODE_MSI_VECTORS : Fld := ⟨rRING_INT_MODE, 8, 6⟩
abbrev rRING_EVENT : Nat := 0x25018
abbrev fRING_EVENT_DB_INVALID : Fld := ⟨rRING_EVENT, 0, 1⟩
abbrev fRING_EVENT_DB_IGNORED : Fld := ⟨rRING_EVENT, 1, 1⟩
abbrev fRING_EVENT_SHADOW_ERR : Fld := ⟨rRING_EVENT, 2, 1⟩
abbrev fRING_EVENT_CQ_OVERFLOW : Fld := ⟨rRING_EVENT, 3, 1⟩
abbrev fRING_EVENT_CR_HALTED : Fld := ⟨rRING_EVENT, 4, 1⟩
abbrev fRING_EVENT_NO_BUFFER : Fld := ⟨rRING_EVENT, 5, 1⟩
abbrev fRING_EVENT_BUFFER_SMALL : Fld := ⟨rRING_EVENT, 6, 1⟩
abbrev fRING_EVENT_ASYNC_LOST : Fld := ⟨rRING_EVENT, 7, 1⟩
abbrev fRING_EVENT_CFG_INVALID : Fld := ⟨rRING_EVENT, 8, 1⟩
abbrev fRING_EVENT_CFG_IGNORED : Fld := ⟨rRING_EVENT, 9, 1⟩
abbrev rRING_EVENT_EN : Nat := 0x2501c
abbrev fRING_EVENT_EN_EN : Fld := ⟨rRING_EVENT_EN, 0, 10⟩
abbrev rRING_STOPPED_PIPES : Nat := 0x25020
abbrev rRING_STOPPED_CANVASES : Nat := 0x25024
abbrev fRING_STOPPED_CANVASES_CANVASES : Fld := ⟨rRING_STOPPED_CANVASES, 0, 4⟩
abbrev rRING_INT_ROUTE (j : Nat) : Nat := 0x26000 + 4 * j
abbrev fRING_INT_ROUTE_VECTOR (j : Nat) : Fld := ⟨rRING_INT_ROUTE j, 0, 11⟩
abbrev fRING_INT_ROUTE_EN (j : Nat) : Fld := ⟨rRING_INT_ROUTE j, 15, 1⟩
abbrev fRING_INT_ROUTE_PENDING (j : Nat) : Fld := ⟨rRING_INT_ROUTE j, 16, 1⟩
abbrev rCR_BASE_LO (i : Nat) : Nat := 0x20000 + 0x20 * i
abbrev fCR_BASE_LO_ADDR (i : Nat) : Fld := ⟨rCR_BASE_LO i, 12, 20⟩
abbrev rCR_BASE_HI (i : Nat) : Nat := 0x20004 + 0x20 * i
abbrev rCR_CFG (i : Nat) : Nat := 0x20008 + 0x20 * i
abbrev fCR_CFG_EN (i : Nat) : Fld := ⟨rCR_CFG i, 0, 1⟩
abbrev fCR_CFG_SIZE_LOG2 (i : Nat) : Fld := ⟨rCR_CFG i, 1, 4⟩
abbrev fCR_CFG_CQ (i : Nat) : Fld := ⟨rCR_CFG i, 8, 6⟩
abbrev fCR_CFG_PRIO (i : Nat) : Fld := ⟨rCR_CFG i, 16, 2⟩
abbrev rCR_HEAD (i : Nat) : Nat := 0x2000c + 0x20 * i
abbrev fCR_HEAD_INDEX (i : Nat) : Fld := ⟨rCR_HEAD i, 0, 16⟩
abbrev rCR_STATUS (i : Nat) : Nat := 0x20010 + 0x20 * i
abbrev fCR_STATUS_STATE (i : Nat) : Fld := ⟨rCR_STATUS i, 0, 2⟩
abbrev rCQ_BASE_LO (i : Nat) : Nat := 0x20400 + 0x20 * i
abbrev fCQ_BASE_LO_ADDR (i : Nat) : Fld := ⟨rCQ_BASE_LO i, 12, 20⟩
abbrev rCQ_BASE_HI (i : Nat) : Nat := 0x20404 + 0x20 * i
abbrev rCQ_CFG (i : Nat) : Nat := 0x20408 + 0x20 * i
abbrev fCQ_CFG_EN (i : Nat) : Fld := ⟨rCQ_CFG i, 0, 1⟩
abbrev fCQ_CFG_SIZE_LOG2 (i : Nat) : Fld := ⟨rCQ_CFG i, 1, 4⟩
abbrev rCQ_TAIL (i : Nat) : Nat := 0x2040c + 0x20 * i
abbrev fCQ_TAIL_INDEX (i : Nat) : Fld := ⟨rCQ_TAIL i, 0, 16⟩
abbrev fCQ_TAIL_PHASE (i : Nat) : Fld := ⟨rCQ_TAIL i, 16, 1⟩
abbrev rCQ_COALESCE (i : Nat) : Nat := 0x20410 + 0x20 * i
abbrev fCQ_COALESCE_COUNT (i : Nat) : Fld := ⟨rCQ_COALESCE i, 0, 8⟩
abbrev fCQ_COALESCE_TIME_US (i : Nat) : Fld := ⟨rCQ_COALESCE i, 8, 16⟩
abbrev rCQ_STATUS (i : Nat) : Nat := 0x20414 + 0x20 * i
abbrev fCQ_STATUS_OVERFLOW (i : Nat) : Fld := ⟨rCQ_STATUS i, 0, 1⟩
abbrev fCQ_STATUS_HELD (i : Nat) : Fld := ⟨rCQ_STATUS i, 1, 7⟩
abbrev rSR_BASE_LO (i : Nat) : Nat := 0x21000 + 0x20 * i
abbrev fSR_BASE_LO_ADDR (i : Nat) : Fld := ⟨rSR_BASE_LO i, 12, 20⟩
abbrev rSR_BASE_HI (i : Nat) : Nat := 0x21004 + 0x20 * i
abbrev rSR_CFG (i : Nat) : Nat := 0x21008 + 0x20 * i
abbrev fSR_CFG_EN (i : Nat) : Fld := ⟨rSR_CFG i, 0, 1⟩
abbrev fSR_CFG_SIZE_LOG2 (i : Nat) : Fld := ⟨rSR_CFG i, 1, 4⟩
abbrev fSR_CFG_CQ (i : Nat) : Fld := ⟨rSR_CFG i, 8, 6⟩
abbrev rSR_HEAD (i : Nat) : Nat := 0x2100c + 0x20 * i
abbrev fSR_HEAD_INDEX (i : Nat) : Fld := ⟨rSR_HEAD i, 0, 16⟩
abbrev rSR_STATUS (i : Nat) : Nat := 0x21010 + 0x20 * i
abbrev fSR_STATUS_BOUND (i : Nat) : Fld := ⟨rSR_STATUS i, 0, 1⟩
abbrev fSR_STATUS_STREAM (i : Nat) : Fld := ⟨rSR_STATUS i, 1, 8⟩
abbrev fSR_STATUS_SLICE_CPL (i : Nat) : Fld := ⟨rSR_STATUS i, 9, 1⟩
abbrev rSR_CNT (i : Nat) : Nat := 0x21014 + 0x20 * i
abbrev fSR_CNT_NO_BUFFER (i : Nat) : Fld := ⟨rSR_CNT i, 0, 16⟩
abbrev fSR_CNT_BUFFER_SMALL (i : Nat) : Fld := ⟨rSR_CNT i, 16, 16⟩
abbrev rPCIE_LINK_STATUS : Nat := 0x40000
abbrev fPCIE_LINK_STATUS_RATE : Fld := ⟨rPCIE_LINK_STATUS, 0, 3⟩
abbrev fPCIE_LINK_STATUS_WIDTH : Fld := ⟨rPCIE_LINK_STATUS, 3, 5⟩
abbrev fPCIE_LINK_STATUS_FLIT : Fld := ⟨rPCIE_LINK_STATUS, 8, 1⟩
abbrev fPCIE_LINK_STATUS_DL_ACTIVE : Fld := ⟨rPCIE_LINK_STATUS, 9, 1⟩
abbrev fPCIE_LINK_STATUS_POWER : Fld := ⟨rPCIE_LINK_STATUS, 10, 3⟩
abbrev fPCIE_LINK_STATUS_L0P_WIDTH : Fld := ⟨rPCIE_LINK_STATUS, 13, 4⟩
abbrev fPCIE_LINK_STATUS_DEGRADED : Fld := ⟨rPCIE_LINK_STATUS, 17, 1⟩
abbrev rPCIE_POISON_CFG : Nat := 0x40004
abbrev fPCIE_POISON_CFG_DROP : Fld := ⟨rPCIE_POISON_CFG, 0, 1⟩
abbrev rPCIE_LP5X_WIN_LO : Nat := 0x40008
abbrev fPCIE_LP5X_WIN_LO_ADDR : Fld := ⟨rPCIE_LP5X_WIN_LO, 28, 4⟩
abbrev rPCIE_LP5X_WIN_HI : Nat := 0x4000c
abbrev fPCIE_LP5X_WIN_HI_ADDR : Fld := ⟨rPCIE_LP5X_WIN_HI, 0, 2⟩
abbrev rPCIE_ASPM_CFG : Nat := 0x40010
abbrev fPCIE_ASPM_CFG_L1_IDLE_US : Fld := ⟨rPCIE_ASPM_CFG, 0, 10⟩
abbrev fPCIE_ASPM_CFG_L0P_EN : Fld := ⟨rPCIE_ASPM_CFG, 10, 1⟩
abbrev rPCIE_EVENT : Nat := 0x40014
abbrev fPCIE_EVENT_LINK_DOWN : Fld := ⟨rPCIE_EVENT, 0, 1⟩
abbrev fPCIE_EVENT_LINK_DEGRADED : Fld := ⟨rPCIE_EVENT, 1, 1⟩
abbrev fPCIE_EVENT_UNEXPECTED_CPL : Fld := ⟨rPCIE_EVENT, 2, 1⟩
abbrev fPCIE_EVENT_POISON_RX : Fld := ⟨rPCIE_EVENT, 3, 1⟩
abbrev fPCIE_EVENT_POISON_DROP : Fld := ⟨rPCIE_EVENT, 4, 1⟩
abbrev fPCIE_EVENT_CORR_INTERNAL : Fld := ⟨rPCIE_EVENT, 5, 1⟩
abbrev fPCIE_EVENT_UNCORR_INTERNAL : Fld := ⟨rPCIE_EVENT, 6, 1⟩
abbrev fPCIE_EVENT_BAR2_WRITE : Fld := ⟨rPCIE_EVENT, 7, 1⟩
abbrev fPCIE_EVENT_CFG_INVALID : Fld := ⟨rPCIE_EVENT, 8, 1⟩
abbrev rPCIE_EVENT_EN : Nat := 0x40018
abbrev fPCIE_EVENT_EN_EN : Fld := ⟨rPCIE_EVENT_EN, 0, 9⟩
abbrev rPCIE_CNT_A : Nat := 0x4001c
abbrev fPCIE_CNT_A_UNEXPECTED : Fld := ⟨rPCIE_CNT_A, 0, 16⟩
abbrev fPCIE_CNT_A_POISON_RX : Fld := ⟨rPCIE_CNT_A, 16, 16⟩
abbrev rPCIE_CNT_B : Nat := 0x40020
abbrev fPCIE_CNT_B_POISON_DROP : Fld := ⟨rPCIE_CNT_B, 0, 16⟩
abbrev fPCIE_CNT_B_CORR_INTERNAL : Fld := ⟨rPCIE_CNT_B, 16, 16⟩
abbrev rPCIE_CNT_C : Nat := 0x40024
abbrev fPCIE_CNT_C_RECOVERY : Fld := ⟨rPCIE_CNT_C, 0, 16⟩
abbrev fPCIE_CNT_C_L0P_CHANGES : Fld := ⟨rPCIE_CNT_C, 16, 16⟩
abbrev rMSIX_ADDR_LO (i : Nat) : Nat := 0x48000 + 0x10 * i
abbrev fMSIX_ADDR_LO_ADDR (i : Nat) : Fld := ⟨rMSIX_ADDR_LO i, 2, 30⟩
abbrev rMSIX_ADDR_HI (i : Nat) : Nat := 0x48004 + 0x10 * i
abbrev rMSIX_DATA (i : Nat) : Nat := 0x48008 + 0x10 * i
abbrev rMSIX_CTRL (i : Nat) : Nat := 0x4800c + 0x10 * i
abbrev fMSIX_CTRL_MASK (i : Nat) : Fld := ⟨rMSIX_CTRL i, 0, 1⟩
abbrev rPBA_PENDING (j : Nat) : Nat := 0x50000 + 4 * j
abbrev rSAFE_STATUS : Nat := 0x80000
abbrev fSAFE_STATUS_SOK : Fld := ⟨rSAFE_STATUS, 0, 2⟩
abbrev fSAFE_STATUS_LATCHED : Fld := ⟨rSAFE_STATUS, 2, 1⟩
abbrev fSAFE_STATUS_RELEASE_NEEDED : Fld := ⟨rSAFE_STATUS, 3, 1⟩
abbrev fSAFE_STATUS_WIND_STATE : Fld := ⟨rSAFE_STATUS, 4, 3⟩
abbrev rSAFE_CAUSE : Nat := 0x80004
abbrev fSAFE_CAUSE_CAUSES : Fld := ⟨rSAFE_CAUSE, 0, 9⟩
abbrev rSAFE_CAUSE_SEEN : Nat := 0x80008
abbrev fSAFE_CAUSE_SEEN_CAUSES : Fld := ⟨rSAFE_CAUSE_SEEN, 0, 9⟩
abbrev rSAFE_CTRL : Nat := 0x8000c
abbrev fSAFE_CTRL_KEY : Fld := ⟨rSAFE_CTRL, 0, 16⟩
abbrev fSAFE_CTRL_RELEASE : Fld := ⟨rSAFE_CTRL, 16, 1⟩
abbrev rSAFE_WIND_CFG : Nat := 0x80010
abbrev fSAFE_WIND_CFG_PERIOD_MS : Fld := ⟨rSAFE_WIND_CFG, 0, 8⟩
abbrev rSAFE_WIND_STATUS : Nat := 0x80014
abbrev rSAFE_WIND_CHAL_LO : Nat := 0x80018
abbrev rSAFE_WIND_CHAL_HI : Nat := 0x8001c
abbrev rSAFE_WIND_DUE_LO : Nat := 0x80020
abbrev rSAFE_WIND_DUE_HI : Nat := 0x80024
abbrev rSAFE_TEMP_CFG : Nat := 0x80028
abbrev fSAFE_TEMP_CFG_WARN_C : Fld := ⟨rSAFE_TEMP_CFG, 0, 7⟩
abbrev rSAFE_FIRST_FAULT : Nat := 0x8002c
abbrev rSAFE_FIRST_TIME_LO : Nat := 0x80030
abbrev rSAFE_FIRST_TIME_HI : Nat := 0x80034
abbrev rSAFE_EVENT : Nat := 0x80038
abbrev fSAFE_EVENT_CAUSE_SET : Fld := ⟨rSAFE_EVENT, 0, 1⟩
abbrev fSAFE_EVENT_CAUSE_CLEARED : Fld := ⟨rSAFE_EVENT, 1, 1⟩
abbrev fSAFE_EVENT_RELEASE_REFUSED : Fld := ⟨rSAFE_EVENT, 2, 1⟩
abbrev fSAFE_EVENT_WIND_REJECTED : Fld := ⟨rSAFE_EVENT, 3, 1⟩
abbrev fSAFE_EVENT_DISPLAY_MISMATCH : Fld := ⟨rSAFE_EVENT, 4, 1⟩
abbrev fSAFE_EVENT_TEMP_WARN : Fld := ⟨rSAFE_EVENT, 5, 1⟩
abbrev fSAFE_EVENT_CFG_IGNORED : Fld := ⟨rSAFE_EVENT, 6, 1⟩
abbrev fSAFE_EVENT_CFG_INVALID : Fld := ⟨rSAFE_EVENT, 7, 1⟩
abbrev rSAFE_EVENT_EN : Nat := 0x8003c
abbrev fSAFE_EVENT_EN_EN : Fld := ⟨rSAFE_EVENT_EN, 0, 8⟩
abbrev rSAFE_SAFETY_VIEWS (j : Nat) : Nat := 0x80040 + 4 * j
abbrev rSAFE_SAFETY_CV : Nat := 0x80050
abbrev fSAFE_SAFETY_CV_CANVASES : Fld := ⟨rSAFE_SAFETY_CV, 0, 4⟩
abbrev rSAFE_DISPLAY_REQ (j : Nat) : Nat := 0x80060 + 4 * j
abbrev rSAFE_DISPLAY_CV : Nat := 0x80070
abbrev fSAFE_DISPLAY_CV_CANVASES : Fld := ⟨rSAFE_DISPLAY_CV, 0, 4⟩
abbrev rSAFE_LOG_STATUS : Nat := 0x80080
abbrev fSAFE_LOG_STATUS_HELD : Fld := ⟨rSAFE_LOG_STATUS, 0, 16⟩
abbrev fSAFE_LOG_STATUS_BUSY : Fld := ⟨rSAFE_LOG_STATUS, 16, 1⟩
abbrev rSAFE_LOG_INDEX : Nat := 0x80084
abbrev fSAFE_LOG_INDEX_INDEX : Fld := ⟨rSAFE_LOG_INDEX, 0, 16⟩
abbrev rSAFE_CNT : Nat := 0x80090
abbrev fSAFE_CNT_WIND_REJECTED : Fld := ⟨rSAFE_CNT, 0, 16⟩
abbrev fSAFE_CNT_DISPLAY_MISMATCH : Fld := ⟨rSAFE_CNT, 16, 16⟩
abbrev rSAFE_LOG_DATA (j : Nat) : Nat := 0x800a0 + 4 * j
abbrev rSAFE_DISP_STATUS (j : Nat) : Nat := 0x80200 + 4 * j
abbrev fSAFE_DISP_STATUS_AGE_MS (j : Nat) : Fld := ⟨rSAFE_DISP_STATUS j, 0, 16⟩
abbrev fSAFE_DISP_STATUS_CONFIRMED (j : Nat) : Fld := ⟨rSAFE_DISP_STATUS j, 16, 1⟩
abbrev fSAFE_DISP_STATUS_MISMATCH (j : Nat) : Fld := ⟨rSAFE_DISP_STATUS j, 17, 1⟩
abbrev rMADC_CTRL (i : Nat) : Nat := 0x90000 + 0x1000 * i
abbrev fMADC_CTRL_INJ_TRIG (i : Nat) : Fld := ⟨rMADC_CTRL i, 0, 6⟩
abbrev fMADC_CTRL_INJ_LEN (i : Nat) : Fld := ⟨rMADC_CTRL i, 6, 2⟩
abbrev fMADC_CTRL_GO (i : Nat) : Fld := ⟨rMADC_CTRL i, 8, 1⟩
abbrev fMADC_CTRL_CAL_START (i : Nat) : Fld := ⟨rMADC_CTRL i, 9, 1⟩
abbrev fMADC_CTRL_INJ_TIME (i : Nat) : Fld := ⟨rMADC_CTRL i, 16, 16⟩
abbrev rMADC_STATUS (i : Nat) : Nat := 0x90004 + 0x1000 * i
abbrev fMADC_STATUS_STATE (i : Nat) : Fld := ⟨rMADC_STATUS i, 0, 2⟩
abbrev fMADC_STATUS_CAL_OK (i : Nat) : Fld := ⟨rMADC_STATUS i, 2, 1⟩
abbrev fMADC_STATUS_MODE (i : Nat) : Fld := ⟨rMADC_STATUS i, 3, 2⟩
abbrev fMADC_STATUS_PASS (i : Nat) : Fld := ⟨rMADC_STATUS i, 16, 16⟩
abbrev rMADC_CAL (i : Nat) : Nat := 0x90008 + 0x1000 * i
abbrev fMADC_CAL_OFFSET (i : Nat) : Fld := ⟨rMADC_CAL i, 0, 8⟩
abbrev fMADC_CAL_GAIN (i : Nat) : Fld := ⟨rMADC_CAL i, 16, 16⟩
abbrev rMADC_EVENT (i : Nat) : Nat := 0x9000c + 0x1000 * i
abbrev fMADC_EVENT_CAL_DONE (i : Nat) : Fld := ⟨rMADC_EVENT i, 0, 1⟩
abbrev fMADC_EVENT_CAL_FAIL (i : Nat) : Fld := ⟨rMADC_EVENT i, 1, 1⟩
abbrev fMADC_EVENT_LIMIT (i : Nat) : Fld := ⟨rMADC_EVENT i, 2, 1⟩
abbrev fMADC_EVENT_INJ_DONE (i : Nat) : Fld := ⟨rMADC_EVENT i, 3, 1⟩
abbrev fMADC_EVENT_INJ_OVERRUN (i : Nat) : Fld := ⟨rMADC_EVENT i, 4, 1⟩
abbrev fMADC_EVENT_STUCK (i : Nat) : Fld := ⟨rMADC_EVENT i, 5, 1⟩
abbrev fMADC_EVENT_CFG_INVALID (i : Nat) : Fld := ⟨rMADC_EVENT i, 6, 1⟩
abbrev rMADC_EVENT_EN (i : Nat) : Nat := 0x90010 + 0x1000 * i
abbrev fMADC_EVENT_EN_EN (i : Nat) : Fld := ⟨rMADC_EVENT_EN i, 0, 7⟩
abbrev rMADC_CNT (i : Nat) : Nat := 0x90014 + 0x1000 * i
abbrev fMADC_CNT_LIMIT (i : Nat) : Fld := ⟨rMADC_CNT i, 0, 16⟩
abbrev fMADC_CNT_INJ_OVERRUN (i : Nat) : Fld := ⟨rMADC_CNT i, 16, 16⟩
abbrev rMADC_PERIOD (i : Nat) : Nat := 0x90018 + 0x1000 * i
abbrev fMADC_PERIOD_PERIOD_US (i : Nat) : Fld := ⟨rMADC_PERIOD i, 0, 16⟩
abbrev rMADC_SEQ (i j : Nat) : Nat := 0x90040 + 0x1000 * i + 4 * j
abbrev fMADC_SEQ_CH (i j : Nat) : Fld := ⟨rMADC_SEQ i j, 0, 6⟩
abbrev fMADC_SEQ_EN (i j : Nat) : Fld := ⟨rMADC_SEQ i j, 6, 1⟩
abbrev fMADC_SEQ_LOW (i j : Nat) : Fld := ⟨rMADC_SEQ i j, 7, 12⟩
abbrev fMADC_SEQ_HIGH (i j : Nat) : Fld := ⟨rMADC_SEQ i j, 19, 12⟩
abbrev rMADC_SEQHI (i j : Nat) : Nat := 0x90070 + 0x1000 * i + 4 * j
abbrev fMADC_SEQHI_CH (i j : Nat) : Fld := ⟨rMADC_SEQHI i j, 0, 6⟩
abbrev fMADC_SEQHI_EN (i j : Nat) : Fld := ⟨rMADC_SEQHI i j, 6, 1⟩
abbrev fMADC_SEQHI_LOW (i j : Nat) : Fld := ⟨rMADC_SEQHI i j, 7, 12⟩
abbrev fMADC_SEQHI_HIGH (i j : Nat) : Fld := ⟨rMADC_SEQHI i j, 19, 12⟩
abbrev rMADC_RESULT (i j : Nat) : Nat := 0x90080 + 0x1000 * i + 4 * j
abbrev fMADC_RESULT_CODE (i j : Nat) : Fld := ⟨rMADC_RESULT i j, 0, 12⟩
abbrev fMADC_RESULT_VALID (i j : Nat) : Fld := ⟨rMADC_RESULT i j, 12, 1⟩
abbrev fMADC_RESULT_OUT_LOW (i j : Nat) : Fld := ⟨rMADC_RESULT i j, 13, 1⟩
abbrev fMADC_RESULT_OUT_HIGH (i j : Nat) : Fld := ⟨rMADC_RESULT i j, 14, 1⟩
abbrev fMADC_RESULT_SEQ (i j : Nat) : Fld := ⟨rMADC_RESULT i j, 16, 16⟩
abbrev rMADC_INJ_SEQ (i j : Nat) : Nat := 0x900c0 + 0x1000 * i + 4 * j
abbrev fMADC_INJ_SEQ_CH (i j : Nat) : Fld := ⟨rMADC_INJ_SEQ i j, 0, 6⟩
abbrev fMADC_INJ_SEQ_EN (i j : Nat) : Fld := ⟨rMADC_INJ_SEQ i j, 6, 1⟩
abbrev fMADC_INJ_SEQ_LOW (i j : Nat) : Fld := ⟨rMADC_INJ_SEQ i j, 7, 12⟩
abbrev fMADC_INJ_SEQ_HIGH (i j : Nat) : Fld := ⟨rMADC_INJ_SEQ i j, 19, 12⟩
abbrev rMADC_INJ_RESULT (i j : Nat) : Nat := 0x900d0 + 0x1000 * i + 4 * j
abbrev fMADC_INJ_RESULT_CODE (i j : Nat) : Fld := ⟨rMADC_INJ_RESULT i j, 0, 12⟩
abbrev fMADC_INJ_RESULT_VALID (i j : Nat) : Fld := ⟨rMADC_INJ_RESULT i j, 12, 1⟩
abbrev fMADC_INJ_RESULT_OUT_LOW (i j : Nat) : Fld := ⟨rMADC_INJ_RESULT i j, 13, 1⟩
abbrev fMADC_INJ_RESULT_OUT_HIGH (i j : Nat) : Fld := ⟨rMADC_INJ_RESULT i j, 14, 1⟩
abbrev fMADC_INJ_RESULT_SEQ (i j : Nat) : Fld := ⟨rMADC_INJ_RESULT i j, 16, 16⟩
abbrev rMADCC_ILS_THR_ON (j : Nat) : Nat := 0x9c000 + 8 * j
abbrev fMADCC_ILS_THR_ON_ON_MIN (j : Nat) : Fld := ⟨rMADCC_ILS_THR_ON j, 0, 12⟩
abbrev fMADCC_ILS_THR_ON_ON_MAX (j : Nat) : Fld := ⟨rMADCC_ILS_THR_ON j, 16, 12⟩
abbrev rMADCC_ILS_THR_OFF (j : Nat) : Nat := 0x9c004 + 8 * j
abbrev fMADCC_ILS_THR_OFF_OFF_MAX (j : Nat) : Fld := ⟨rMADCC_ILS_THR_OFF j, 0, 12⟩
abbrev fMADCC_ILS_THR_OFF_CHECK_EN (j : Nat) : Fld := ⟨rMADCC_ILS_THR_OFF j, 16, 1⟩
abbrev rMADCC_ILS_LATCH : Nat := 0x9c080
abbrev fMADCC_ILS_LATCH_OVER : Fld := ⟨rMADCC_ILS_LATCH, 0, 16⟩
abbrev rMADCC_PLAUS : Nat := 0x9c084
abbrev fMADCC_PLAUS_CH : Fld := ⟨rMADCC_PLAUS, 0, 6⟩
abbrev fMADCC_PLAUS_EN : Fld := ⟨rMADCC_PLAUS, 6, 1⟩
abbrev fMADCC_PLAUS_TOL : Fld := ⟨rMADCC_PLAUS, 8, 8⟩
abbrev fMADCC_PLAUS_CONSEC : Fld := ⟨rMADCC_PLAUS, 16, 4⟩
abbrev rMADCC_PLAUS_STATUS : Nat := 0x9c088
abbrev fMADCC_PLAUS_STATUS_LAST_A : Fld := ⟨rMADCC_PLAUS_STATUS, 0, 12⟩
abbrev fMADCC_PLAUS_STATUS_LAST_B : Fld := ⟨rMADCC_PLAUS_STATUS, 16, 12⟩
abbrev fMADCC_PLAUS_STATUS_FAIL : Fld := ⟨rMADCC_PLAUS_STATUS, 28, 1⟩
abbrev rMADCC_C_EVENT : Nat := 0x9c08c
abbrev fMADCC_C_EVENT_PLAUS_FAIL : Fld := ⟨rMADCC_C_EVENT, 0, 1⟩
abbrev fMADCC_C_EVENT_ILS_OPEN : Fld := ⟨rMADCC_C_EVENT, 1, 1⟩
abbrev fMADCC_C_EVENT_ILS_OVER : Fld := ⟨rMADCC_C_EVENT, 2, 1⟩
abbrev fMADCC_C_EVENT_ILS_STUCK_ON : Fld := ⟨rMADCC_C_EVENT, 3, 1⟩
abbrev rMADCC_C_EVENT_EN : Nat := 0x9c090
abbrev fMADCC_C_EVENT_EN_EN : Fld := ⟨rMADCC_C_EVENT_EN, 0, 4⟩
abbrev rTALLY_CTRL (i : Nat) : Nat := 0xa0000 + 0x80 * i
abbrev fTALLY_CTRL_ALGO (i : Nat) : Fld := ⟨rTALLY_CTRL i, 0, 3⟩
abbrev fTALLY_CTRL_REFIN (i : Nat) : Fld := ⟨rTALLY_CTRL i, 3, 1⟩
abbrev fTALLY_CTRL_REFOUT (i : Nat) : Fld := ⟨rTALLY_CTRL i, 4, 1⟩
abbrev fTALLY_CTRL_WIDTH_M1 (i : Nat) : Fld := ⟨rTALLY_CTRL i, 5, 5⟩
abbrev fTALLY_CTRL_START (i : Nat) : Fld := ⟨rTALLY_CTRL i, 16, 1⟩
abbrev fTALLY_CTRL_STARTED (i : Nat) : Fld := ⟨rTALLY_CTRL i, 20, 1⟩
abbrev rTALLY_POLY (i : Nat) : Nat := 0xa0004 + 0x80 * i
abbrev rTALLY_INIT (i : Nat) : Nat := 0xa0008 + 0x80 * i
abbrev rTALLY_XOROUT (i : Nat) : Nat := 0xa000c + 0x80 * i
abbrev rTALLY_STATE (i : Nat) : Nat := 0xa0010 + 0x80 * i
abbrev rTALLY_RESULT (i : Nat) : Nat := 0xa0014 + 0x80 * i
abbrev rTALLY_COUNT_LO (i : Nat) : Nat := 0xa0018 + 0x80 * i
abbrev rTALLY_COUNT_HI (i : Nat) : Nat := 0xa001c + 0x80 * i
abbrev rTALLY_EVENT (i : Nat) : Nat := 0xa0020 + 0x80 * i
abbrev fTALLY_EVENT_PARITY (i : Nat) : Fld := ⟨rTALLY_EVENT i, 0, 1⟩
abbrev fTALLY_EVENT_CFG_INVALID (i : Nat) : Fld := ⟨rTALLY_EVENT i, 1, 1⟩
abbrev rTALLY_EVENT_EN (i : Nat) : Nat := 0xa0024 + 0x80 * i
abbrev fTALLY_EVENT_EN_EN (i : Nat) : Fld := ⟨rTALLY_EVENT_EN i, 0, 2⟩
abbrev rTALLY_DATA (i j : Nat) : Nat := 0xa0040 + 0x80 * i + 4 * j
abbrev rATTIC_STATUS : Nat := 0xb0000
abbrev fATTIC_STATUS_VALID : Fld := ⟨rATTIC_STATUS, 0, 4⟩
abbrev fATTIC_STATUS_CFG_BANK : Fld := ⟨rATTIC_STATUS, 4, 1⟩
abbrev fATTIC_STATUS_CONFIG_EMPTY : Fld := ⟨rATTIC_STATUS, 5, 1⟩
abbrev fATTIC_STATUS_ID_OK : Fld := ⟨rATTIC_STATUS, 6, 2⟩
abbrev rATTIC_SEQ (j : Nat) : Nat := 0xb0004 + 4 * j
abbrev rATTIC_UPD_CTRL : Nat := 0xb0020
abbrev fATTIC_UPD_CTRL_KEY : Fld := ⟨rATTIC_UPD_CTRL, 0, 16⟩
abbrev fATTIC_UPD_CTRL_START : Fld := ⟨rATTIC_UPD_CTRL, 16, 1⟩
abbrev fATTIC_UPD_CTRL_PART : Fld := ⟨rATTIC_UPD_CTRL, 17, 1⟩
abbrev rATTIC_UPD_SRC_LO : Nat := 0xb0024
abbrev fATTIC_UPD_SRC_LO_ADDR : Fld := ⟨rATTIC_UPD_SRC_LO, 6, 26⟩
abbrev rATTIC_UPD_SRC_HI : Nat := 0xb0028
abbrev fATTIC_UPD_SRC_HI_ADDR : Fld := ⟨rATTIC_UPD_SRC_HI, 0, 2⟩
abbrev rATTIC_UPD_LEN : Nat := 0xb002c
abbrev fATTIC_UPD_LEN_BYTES : Fld := ⟨rATTIC_UPD_LEN, 0, 25⟩
abbrev rATTIC_UPD_STATUS : Nat := 0xb0030
abbrev fATTIC_UPD_STATUS_STATE : Fld := ⟨rATTIC_UPD_STATUS, 0, 2⟩
abbrev fATTIC_UPD_STATUS_RESULT : Fld := ⟨rATTIC_UPD_STATUS, 2, 2⟩
abbrev fATTIC_UPD_STATUS_BANK : Fld := ⟨rATTIC_UPD_STATUS, 4, 1⟩
abbrev fATTIC_UPD_STATUS_PAGES : Fld := ⟨rATTIC_UPD_STATUS, 16, 16⟩
abbrev rATTIC_EVENT : Nat := 0xb0034
abbrev fATTIC_EVENT_UPD_DONE : Fld := ⟨rATTIC_EVENT, 0, 1⟩
abbrev fATTIC_EVENT_BANK_INVALID : Fld := ⟨rATTIC_EVENT, 1, 1⟩
abbrev fATTIC_EVENT_SEQ_AMBIGUOUS : Fld := ⟨rATTIC_EVENT, 2, 1⟩
abbrev fATTIC_EVENT_GMAC_REFUSED : Fld := ⟨rATTIC_EVENT, 3, 1⟩
abbrev fATTIC_EVENT_GMAC_DISCARDED : Fld := ⟨rATTIC_EVENT, 4, 1⟩
abbrev fATTIC_EVENT_CFG_INVALID : Fld := ⟨rATTIC_EVENT, 5, 1⟩
abbrev rATTIC_EVENT_EN : Nat := 0xb0038
abbrev fATTIC_EVENT_EN_EN : Fld := ⟨rATTIC_EVENT_EN, 0, 6⟩
abbrev rATTIC_READ_ADDR : Nat := 0xb0040
abbrev fATTIC_READ_ADDR_ADDR : Fld := ⟨rATTIC_READ_ADDR, 8, 18⟩
abbrev rATTIC_READ_DATA (j : Nat) : Nat := 0xb0100 + 4 * j
abbrev rIDENT_SERIAL_LO : Nat := 0xc0000
abbrev rIDENT_SERIAL_HI : Nat := 0xc0004
abbrev rIDENT_STATUS : Nat := 0xc0008
abbrev fIDENT_STATUS_KEY_OK : Fld := ⟨rIDENT_STATUS, 0, 1⟩
abbrev fIDENT_STATUS_CHAIN_OK : Fld := ⟨rIDENT_STATUS, 1, 1⟩
abbrev fIDENT_STATUS_CHAIN_COPY : Fld := ⟨rIDENT_STATUS, 2, 1⟩
abbrev rIDENT_ROLLBACK : Nat := 0xc000c
abbrev fIDENT_ROLLBACK_MINOR : Fld := ⟨rIDENT_ROLLBACK, 0, 16⟩
abbrev fIDENT_ROLLBACK_MAJOR : Fld := ⟨rIDENT_ROLLBACK, 16, 16⟩
abbrev rIDENT_GMAC_CTRL : Nat := 0xc0010
abbrev fIDENT_GMAC_CTRL_EN : Fld := ⟨rIDENT_GMAC_CTRL, 0, 1⟩
abbrev fIDENT_GMAC_CTRL_BIND : Fld := ⟨rIDENT_GMAC_CTRL, 1, 1⟩
abbrev rIDENT_GMAC_SESSION : Nat := 0xc0014
abbrev rIDENT_GMAC_STATUS : Nat := 0xc0018
abbrev fIDENT_GMAC_STATUS_ACTIVE : Fld := ⟨rIDENT_GMAC_STATUS, 0, 1⟩
abbrev fIDENT_GMAC_STATUS_PREV_VALID : Fld := ⟨rIDENT_GMAC_STATUS, 1, 1⟩
abbrev fIDENT_GMAC_STATUS_EPOCH : Fld := ⟨rIDENT_GMAC_STATUS, 16, 16⟩
abbrev rIDENT_GMAC_FROM_LO : Nat := 0xc0020
abbrev rIDENT_GMAC_FROM_HI : Nat := 0xc0024
abbrev rIDENT_SPDM_STATUS : Nat := 0xc0028
abbrev fIDENT_SPDM_STATUS_SESSIONS : Fld := ⟨rIDENT_SPDM_STATUS, 0, 3⟩
abbrev rPWR_STATE : Nat := 0xd0000
abbrev fPWR_STATE_STATE : Fld := ⟨rPWR_STATE, 0, 3⟩
abbrev rPWR_STANDBY : Nat := 0xd0004
abbrev fPWR_STANDBY_KEY : Fld := ⟨rPWR_STANDBY, 0, 16⟩
abbrev fPWR_STANDBY_ENTER : Fld := ⟨rPWR_STANDBY, 16, 1⟩
abbrev rPWR_EVENT : Nat := 0xd0008
abbrev fPWR_EVENT_DOMAIN_DONE : Fld := ⟨rPWR_EVENT, 0, 1⟩
abbrev fPWR_EVENT_DOMAIN_REFUSED : Fld := ⟨rPWR_EVENT, 1, 1⟩
abbrev fPWR_EVENT_DOMAIN_FORCED : Fld := ⟨rPWR_EVENT, 2, 1⟩
abbrev fPWR_EVENT_CLOCK_FAIL : Fld := ⟨rPWR_EVENT, 3, 1⟩
abbrev fPWR_EVENT_LP5X_CORR : Fld := ⟨rPWR_EVENT, 4, 1⟩
abbrev fPWR_EVENT_LP5X_UNCORR : Fld := ⟨rPWR_EVENT, 5, 1⟩
abbrev fPWR_EVENT_STANDBY_REFUSED : Fld := ⟨rPWR_EVENT, 6, 1⟩
abbrev fPWR_EVENT_CFG_INVALID : Fld := ⟨rPWR_EVENT, 7, 1⟩
abbrev rPWR_EVENT_EN : Nat := 0xd000c
abbrev fPWR_EVENT_EN_EN : Fld := ⟨rPWR_EVENT_EN, 0, 8⟩
abbrev rPWR_CLK_STATUS : Nat := 0xd0010
abbrev fPWR_CLK_STATUS_FAIL : Fld := ⟨rPWR_CLK_STATUS, 0, 16⟩
abbrev rPWR_MEM_ECC (j : Nat) : Nat := 0xd0018 + 4 * j
abbrev fPWR_MEM_ECC_CORR (j : Nat) : Fld := ⟨rPWR_MEM_ECC j, 0, 16⟩
abbrev fPWR_MEM_ECC_UNCORR (j : Nat) : Fld := ⟨rPWR_MEM_ECC j, 16, 16⟩
abbrev rPWR_DOM (j : Nat) : Nat := 0xd0040 + 4 * j
abbrev fPWR_DOM_REQ (j : Nat) : Fld := ⟨rPWR_DOM j, 0, 2⟩
abbrev fPWR_DOM_STATE (j : Nat) : Fld := ⟨rPWR_DOM j, 2, 3⟩
abbrev fPWR_DOM_RESULT (j : Nat) : Fld := ⟨rPWR_DOM j, 5, 3⟩
abbrev fPWR_DOM_FORCED (j : Nat) : Fld := ⟨rPWR_DOM j, 8, 1⟩
abbrev rPWR_CLK_MEAS (j : Nat) : Nat := 0xd00a0 + 4 * j
abbrev fPWR_CLK_MEAS_KHZ (j : Nat) : Fld := ⟨rPWR_CLK_MEAS j, 0, 21⟩
abbrev rREGU_DIAL_LO : Nat := 0x100000
abbrev rREGU_DIAL_HI : Nat := 0x100004
abbrev rREGU_CTRL : Nat := 0x100008
abbrev fREGU_CTRL_SRC : Fld := ⟨rREGU_CTRL, 0, 2⟩
abbrev fREGU_CTRL_SET : Fld := ⟨rREGU_CTRL, 2, 1⟩
abbrev fREGU_CTRL_TRIM_EN : Fld := ⟨rREGU_CTRL, 3, 1⟩
abbrev rREGU_STATUS : Nat := 0x10000c
abbrev fREGU_STATUS_STATE : Fld := ⟨rREGU_STATUS, 0, 3⟩
abbrev fREGU_STATUS_STREAMS_ACTIVE : Fld := ⟨rREGU_STATUS, 3, 1⟩
abbrev rREGU_RATE_TRIM : Nat := 0x100010
abbrev rREGU_DIAL_SET_LO : Nat := 0x100018
abbrev rREGU_DIAL_SET_HI : Nat := 0x10001c
abbrev rREGU_FOLLOW_CFG : Nat := 0x100020
abbrev fREGU_FOLLOW_CFG_HOLD_MS : Fld := ⟨rREGU_FOLLOW_CFG, 0, 10⟩
abbrev fREGU_FOLLOW_CFG_SLEW_PPM : Fld := ⟨rREGU_FOLLOW_CFG, 10, 10⟩
abbrev rREGU_FOLLOW_OFFSET : Nat := 0x100024
abbrev rREGU_EVENT : Nat := 0x100028
abbrev fREGU_EVENT_LOCKED : Fld := ⟨rREGU_EVENT, 0, 1⟩
abbrev fREGU_EVENT_HOLDOVER : Fld := ⟨rREGU_EVENT, 1, 1⟩
abbrev fREGU_EVENT_CONFLICT : Fld := ⟨rREGU_EVENT, 2, 1⟩
abbrev fREGU_EVENT_STEPPED : Fld := ⟨rREGU_EVENT, 3, 1⟩
abbrev fREGU_EVENT_STEP_REFUSED : Fld := ⟨rREGU_EVENT, 4, 1⟩
abbrev fREGU_EVENT_SYNC_LOCK : Fld := ⟨rREGU_EVENT, 5, 1⟩
abbrev fREGU_EVENT_SYNC_LOST : Fld := ⟨rREGU_EVENT, 6, 1⟩
abbrev fREGU_EVENT_SYNC_GATED : Fld := ⟨rREGU_EVENT, 7, 1⟩
abbrev fREGU_EVENT_SCHED_SKIP : Fld := ⟨rREGU_EVENT, 8, 1⟩
abbrev fREGU_EVENT_CFG_INVALID : Fld := ⟨rREGU_EVENT, 9, 1⟩
abbrev fREGU_EVENT_ILL_LIMIT : Fld := ⟨rREGU_EVENT, 10, 1⟩
abbrev rREGU_EVENT_EN : Nat := 0x10002c
abbrev fREGU_EVENT_EN_EN : Fld := ⟨rREGU_EVENT_EN, 0, 11⟩
abbrev rREGU_GROUP_MASK : Nat := 0x1000c0
abbrev rREGU_GROUP_AT_LO : Nat := 0x1000c4
abbrev rREGU_GROUP_AT_HI : Nat := 0x1000c8
abbrev rREGU_GROUP_CMD : Nat := 0x1000cc
abbrev fREGU_GROUP_CMD_START : Fld := ⟨rREGU_GROUP_CMD, 0, 1⟩
abbrev fREGU_GROUP_CMD_STOP : Fld := ⟨rREGU_GROUP_CMD, 1, 1⟩
abbrev rSYNC_CFG (i : Nat) : Nat := 0x100040 + 0x20 * i
abbrev fSYNC_CFG_EN (i : Nat) : Fld := ⟨rSYNC_CFG i, 0, 1⟩
abbrev fSYNC_CFG_EDGE (i : Nat) : Fld := ⟨rSYNC_CFG i, 1, 1⟩
abbrev fSYNC_CFG_BW (i : Nat) : Fld := ⟨rSYNC_CFG i, 2, 1⟩
abbrev fSYNC_CFG_HOLD_EDGES (i : Nat) : Fld := ⟨rSYNC_CFG i, 3, 8⟩
abbrev fSYNC_CFG_LOCK_WIN (i : Nat) : Fld := ⟨rSYNC_CFG i, 11, 8⟩
abbrev rSYNC_NOM (i : Nat) : Nat := 0x100044 + 0x20 * i
abbrev fSYNC_NOM_NS (i : Nat) : Fld := ⟨rSYNC_NOM i, 0, 30⟩
abbrev rSYNC_COMP (i : Nat) : Nat := 0x100048 + 0x20 * i
abbrev fSYNC_COMP_NS (i : Nat) : Fld := ⟨rSYNC_COMP i, 0, 16⟩
abbrev rSYNC_STATUS (i : Nat) : Nat := 0x10004c + 0x20 * i
abbrev fSYNC_STATUS_STATE (i : Nat) : Fld := ⟨rSYNC_STATUS i, 0, 3⟩
abbrev fSYNC_STATUS_MISSED (i : Nat) : Fld := ⟨rSYNC_STATUS i, 8, 8⟩
abbrev fSYNC_STATUS_GATED (i : Nat) : Fld := ⟨rSYNC_STATUS i, 16, 16⟩
abbrev rSYNC_PERIOD (i : Nat) : Nat := 0x100050 + 0x20 * i
abbrev rSYNC_EDGE_LO (i : Nat) : Nat := 0x100054 + 0x20 * i
abbrev rSYNC_EDGE_HI (i : Nat) : Nat := 0x100058 + 0x20 * i
abbrev rSYNC_PHASE_ERR (i : Nat) : Nat := 0x10005c + 0x20 * i
abbrev rTRIG_SCHED_CTRL (i : Nat) : Nat := 0x100200 + 0x40 * i
abbrev fTRIG_SCHED_CTRL_RUN (i : Nat) : Fld := ⟨rTRIG_SCHED_CTRL i, 0, 1⟩
abbrev fTRIG_SCHED_CTRL_SRC (i : Nat) : Fld := ⟨rTRIG_SCHED_CTRL i, 1, 3⟩
abbrev fTRIG_SCHED_CTRL_APPLY (i : Nat) : Fld := ⟨rTRIG_SCHED_CTRL i, 4, 1⟩
abbrev fTRIG_SCHED_CTRL_APPLY_PENDING (i : Nat) : Fld := ⟨rTRIG_SCHED_CTRL i, 5, 1⟩
abbrev fTRIG_SCHED_CTRL_ARMED (i : Nat) : Fld := ⟨rTRIG_SCHED_CTRL i, 6, 1⟩
abbrev fTRIG_SCHED_CTRL_MUL (i : Nat) : Fld := ⟨rTRIG_SCHED_CTRL i, 8, 4⟩
abbrev fTRIG_SCHED_CTRL_DIV (i : Nat) : Fld := ⟨rTRIG_SCHED_CTRL i, 12, 4⟩
abbrev rTRIG_PERIOD (i : Nat) : Nat := 0x100204 + 0x40 * i
abbrev rTRIG_PHASE (i : Nat) : Nat := 0x100208 + 0x40 * i
abbrev rTRIG_WIDTH (i : Nat) : Nat := 0x10020c + 0x40 * i
abbrev rTRIG_BURST (i : Nat) : Nat := 0x100210 + 0x40 * i
abbrev fTRIG_BURST_COUNT (i : Nat) : Fld := ⟨rTRIG_BURST i, 0, 4⟩
abbrev rTRIG_BURST_GAP (i : Nat) : Nat := 0x100214 + 0x40 * i
abbrev rTRIG_START_AT_LO (i : Nat) : Nat := 0x100218 + 0x40 * i
abbrev rTRIG_START_AT_HI (i : Nat) : Nat := 0x10021c + 0x40 * i
abbrev rTRIG_ILL_CFG (i : Nat) : Nat := 0x100220 + 0x40 * i
abbrev fTRIG_ILL_CFG_SRC (i : Nat) : Fld := ⟨rTRIG_ILL_CFG i, 0, 2⟩
abbrev rTRIG_ILL_OPEN (i : Nat) : Nat := 0x100224 + 0x40 * i
abbrev rTRIG_ILL_CLOSE (i : Nat) : Nat := 0x100228 + 0x40 * i
abbrev rTRIG_ILL_MAX (i : Nat) : Nat := 0x10022c + 0x40 * i
abbrev fTRIG_ILL_MAX_US (i : Nat) : Fld := ⟨rTRIG_ILL_MAX i, 0, 20⟩
abbrev rTRIG_PULSE_COUNT (i : Nat) : Nat := 0x100230 + 0x40 * i
abbrev rTRIG_NEXT_EDGE_LO (i : Nat) : Nat := 0x100234 + 0x40 * i
abbrev rTRIG_NEXT_EDGE_HI (i : Nat) : Nat := 0x100238 + 0x40 * i
abbrev rTS_FS_LO (i : Nat) : Nat := 0x101000 + 0x20 * i
abbrev rTS_FS_HI (i : Nat) : Nat := 0x101004 + 0x20 * i
abbrev rTS_FS_INFO (i : Nat) : Nat := 0x101008 + 0x20 * i
abbrev fTS_FS_INFO_VC (i : Nat) : Fld := ⟨rTS_FS_INFO i, 0, 4⟩
abbrev fTS_FS_INFO_PIPE (i : Nat) : Fld := ⟨rTS_FS_INFO i, 4, 5⟩
abbrev rTS_LINE_EVT (i : Nat) : Nat := 0x10100c + 0x20 * i
abbrev fTS_LINE_EVT_LINE (i : Nat) : Fld := ⟨rTS_LINE_EVT i, 0, 16⟩
abbrev fTS_LINE_EVT_VC (i : Nat) : Fld := ⟨rTS_LINE_EVT i, 16, 4⟩
abbrev fTS_LINE_EVT_EN (i : Nat) : Fld := ⟨rTS_LINE_EVT i, 20, 1⟩
abbrev rTS_LE_LO (i : Nat) : Nat := 0x101010 + 0x20 * i
abbrev rTS_LE_HI (i : Nat) : Nat := 0x101014 + 0x20 * i
abbrev rTS_FE_LO (i : Nat) : Nat := 0x101018 + 0x20 * i
abbrev rTS_FE_HI (i : Nat) : Nat := 0x10101c + 0x20 * i
abbrev rILL_TS_RISE_LO (i : Nat) : Nat := 0x101800 + 0x10 * i
abbrev rILL_TS_RISE_HI (i : Nat) : Nat := 0x101804 + 0x10 * i
abbrev rILL_TS_FALL_LO (i : Nat) : Nat := 0x101808 + 0x10 * i
abbrev rILL_TS_FALL_HI (i : Nat) : Nat := 0x10180c + 0x10 * i
abbrev rSPORT_CTRL (i : Nat) : Nat := 0x200000 + 0x1000 * i
abbrev fSPORT_CTRL_EN (i : Nat) : Fld := ⟨rSPORT_CTRL i, 0, 1⟩
abbrev fSPORT_CTRL_PHY_MODE (i : Nat) : Fld := ⟨rSPORT_CTRL i, 1, 1⟩
abbrev fSPORT_CTRL_LANES (i : Nat) : Fld := ⟨rSPORT_CTRL i, 2, 2⟩
abbrev fSPORT_CTRL_VCX (i : Nat) : Fld := ⟨rSPORT_CTRL i, 4, 1⟩
abbrev fSPORT_CTRL_SCRAMBLE (i : Nat) : Fld := ⟨rSPORT_CTRL i, 5, 1⟩
abbrev fSPORT_CTRL_SOFT_RESET (i : Nat) : Fld := ⟨rSPORT_CTRL i, 6, 1⟩
abbrev rSPORT_PHY_CFG (i : Nat) : Nat := 0x200004 + 0x1000 * i
abbrev fSPORT_PHY_CFG_LANE_ORDER (i : Nat) : Fld := ⟨rSPORT_PHY_CFG i, 0, 8⟩
abbrev fSPORT_PHY_CFG_POL_SWAP (i : Nat) : Fld := ⟨rSPORT_PHY_CFG i, 8, 5⟩
abbrev fSPORT_PHY_CFG_TRIO_WIRE (i : Nat) : Fld := ⟨rSPORT_PHY_CFG i, 13, 9⟩
abbrev fSPORT_PHY_CFG_CTLE (i : Nat) : Fld := ⟨rSPORT_PHY_CFG i, 22, 3⟩
abbrev fSPORT_PHY_CFG_SETTLE (i : Nat) : Fld := ⟨rSPORT_PHY_CFG i, 25, 7⟩
abbrev rSPORT_LINK_RATE (i : Nat) : Nat := 0x200008 + 0x1000 * i
abbrev fSPORT_LINK_RATE_RATE (i : Nat) : Fld := ⟨rSPORT_LINK_RATE i, 0, 13⟩
abbrev rSPORT_STATUS (i : Nat) : Nat := 0x20000c + 0x1000 * i
abbrev fSPORT_STATUS_PHY_READY (i : Nat) : Fld := ⟨rSPORT_STATUS i, 0, 1⟩
abbrev fSPORT_STATUS_DESKEW_DONE (i : Nat) : Fld := ⟨rSPORT_STATUS i, 1, 1⟩
abbrev fSPORT_STATUS_ULPS (i : Nat) : Fld := ⟨rSPORT_STATUS i, 2, 1⟩
abbrev fSPORT_STATUS_CLK_PRESENT (i : Nat) : Fld := ⟨rSPORT_STATUS i, 3, 1⟩
abbrev fSPORT_STATUS_CAL_OK (i : Nat) : Fld := ⟨rSPORT_STATUS i, 4, 1⟩
abbrev fSPORT_STATUS_ABSENT (i : Nat) : Fld := ⟨rSPORT_STATUS i, 5, 1⟩
abbrev fSPORT_STATUS_FRAME_OPEN (i : Nat) : Fld := ⟨rSPORT_STATUS i, 16, 16⟩
abbrev rSPORT_FRAME_CFG (i : Nat) : Nat := 0x200010 + 0x1000 * i
abbrev fSPORT_FRAME_CFG_DAMAGE_LIMIT (i : Nat) : Fld := ⟨rSPORT_FRAME_CFG i, 0, 8⟩
abbrev fSPORT_FRAME_CFG_FRAME_TIMEOUT_MS (i : Nat) : Fld := ⟨rSPORT_FRAME_CFG i, 8, 10⟩
abbrev fSPORT_FRAME_CFG_LINE_NUM (i : Nat) : Fld := ⟨rSPORT_FRAME_CFG i, 18, 1⟩
abbrev fSPORT_FRAME_CFG_FN_CHECK (i : Nat) : Fld := ⟨rSPORT_FRAME_CFG i, 19, 1⟩
abbrev rSPORT_FILL_VALUE (i : Nat) : Nat := 0x200014 + 0x1000 * i
abbrev fSPORT_FILL_VALUE_VALUE (i : Nat) : Fld := ⟨rSPORT_FILL_VALUE i, 0, 16⟩
abbrev rSPORT_EVENT (i : Nat) : Nat := 0x200018 + 0x1000 * i
abbrev fSPORT_EVENT_ECC_DROP (i : Nat) : Fld := ⟨rSPORT_EVENT i, 0, 1⟩
abbrev fSPORT_EVENT_CRC_ERR (i : Nat) : Fld := ⟨rSPORT_EVENT i, 1, 1⟩
abbrev fSPORT_EVENT_DAMAGED (i : Nat) : Fld := ⟨rSPORT_EVENT i, 2, 1⟩
abbrev fSPORT_EVENT_CORRUPT (i : Nat) : Fld := ⟨rSPORT_EVENT i, 3, 1⟩
abbrev fSPORT_EVENT_TRUNCATED (i : Nat) : Fld := ⟨rSPORT_EVENT i, 4, 1⟩
abbrev fSPORT_EVENT_OVERFLOW (i : Nat) : Fld := ⟨rSPORT_EVENT i, 5, 1⟩
abbrev fSPORT_EVENT_UNMAPPED (i : Nat) : Fld := ⟨rSPORT_EVENT i, 6, 1⟩
abbrev fSPORT_EVENT_ORPHAN (i : Nat) : Fld := ⟨rSPORT_EVENT i, 7, 1⟩
abbrev fSPORT_EVENT_FN_GAP (i : Nat) : Fld := ⟨rSPORT_EVENT i, 8, 1⟩
abbrev fSPORT_EVENT_PHY_LOST (i : Nat) : Fld := ⟨rSPORT_EVENT i, 9, 1⟩
abbrev fSPORT_EVENT_DESKEW_MISSING (i : Nat) : Fld := ⟨rSPORT_EVENT i, 10, 1⟩
abbrev fSPORT_EVENT_EMB_BAD (i : Nat) : Fld := ⟨rSPORT_EVENT i, 11, 1⟩
abbrev fSPORT_EVENT_CFG_INVALID (i : Nat) : Fld := ⟨rSPORT_EVENT i, 12, 1⟩
abbrev fSPORT_EVENT_CFG_IGNORED (i : Nat) : Fld := ⟨rSPORT_EVENT i, 13, 1⟩
abbrev fSPORT_EVENT_NOT_STARTED (i : Nat) : Fld := ⟨rSPORT_EVENT i, 14, 1⟩
abbrev fSPORT_EVENT_ILL_FAULT (i : Nat) : Fld := ⟨rSPORT_EVENT i, 15, 1⟩
abbrev rSPORT_EVENT_EN (i : Nat) : Nat := 0x20001c + 0x1000 * i
abbrev fSPORT_EVENT_EN_EN (i : Nat) : Fld := ⟨rSPORT_EVENT_EN i, 0, 16⟩
abbrev rSPORT_MCLK (i : Nat) : Nat := 0x200020 + 0x1000 * i
abbrev fSPORT_MCLK_KHZ (i : Nat) : Fld := ⟨rSPORT_MCLK i, 0, 16⟩
abbrev fSPORT_MCLK_EN (i : Nat) : Fld := ⟨rSPORT_MCLK i, 16, 1⟩
abbrev fSPORT_MCLK_DRIVE (i : Nat) : Fld := ⟨rSPORT_MCLK i, 17, 1⟩
abbrev rSPORT_XRST (i : Nat) : Nat := 0x200024 + 0x1000 * i
abbrev fSPORT_XRST_LEVEL (i : Nat) : Fld := ⟨rSPORT_XRST i, 0, 1⟩
abbrev fSPORT_XRST_PULSE (i : Nat) : Fld := ⟨rSPORT_XRST i, 1, 1⟩
abbrev fSPORT_XRST_PULSE_BUSY (i : Nat) : Fld := ⟨rSPORT_XRST i, 2, 1⟩
abbrev fSPORT_XRST_PULSE_US (i : Nat) : Fld := ⟨rSPORT_XRST i, 16, 16⟩
abbrev rSPORT_TRIG_CTRL (i : Nat) : Nat := 0x200028 + 0x1000 * i
abbrev fSPORT_TRIG_CTRL_MODE (i : Nat) : Fld := ⟨rSPORT_TRIG_CTRL i, 0, 2⟩
abbrev fSPORT_TRIG_CTRL_POLARITY (i : Nat) : Fld := ⟨rSPORT_TRIG_CTRL i, 2, 1⟩
abbrev fSPORT_TRIG_CTRL_LEVEL (i : Nat) : Fld := ⟨rSPORT_TRIG_CTRL i, 3, 1⟩
abbrev rSPORT_ILL_MASK (i : Nat) : Nat := 0x20002c + 0x1000 * i
abbrev fSPORT_ILL_MASK_MASK (i : Nat) : Fld := ⟨rSPORT_ILL_MASK i, 0, 16⟩
abbrev rSPORT_VC_MAP (i j : Nat) : Nat := 0x200040 + 0x1000 * i + 8 * j
abbrev fSPORT_VC_MAP_EN (i j : Nat) : Fld := ⟨rSPORT_VC_MAP i j, 0, 1⟩
abbrev fSPORT_VC_MAP_PIPE (i j : Nat) : Fld := ⟨rSPORT_VC_MAP i j, 1, 5⟩
abbrev fSPORT_VC_MAP_DT (i j : Nat) : Fld := ⟨rSPORT_VC_MAP i j, 6, 6⟩
abbrev fSPORT_VC_MAP_EMB_TOP (i j : Nat) : Fld := ⟨rSPORT_VC_MAP i j, 12, 3⟩
abbrev fSPORT_VC_MAP_EMB_BOTTOM (i j : Nat) : Fld := ⟨rSPORT_VC_MAP i j, 15, 3⟩
abbrev rSPORT_VC_GEOM (i j : Nat) : Nat := 0x200044 + 0x1000 * i + 8 * j
abbrev fSPORT_VC_GEOM_WIDTH (i j : Nat) : Fld := ⟨rSPORT_VC_GEOM i j, 0, 16⟩
abbrev fSPORT_VC_GEOM_HEIGHT (i j : Nat) : Fld := ⟨rSPORT_VC_GEOM i j, 16, 16⟩
abbrev rSPORT_CNT (i j : Nat) : Nat := 0x200100 + 0x1000 * i + 4 * j
abbrev fSPORT_CNT_COUNT (i j : Nat) : Fld := ⟨rSPORT_CNT i j, 0, 16⟩
abbrev rLPORT_CTRL (i : Nat) : Nat := 0x220000 + 0x1000 * i
abbrev fLPORT_CTRL_EN (i : Nat) : Fld := ⟨rLPORT_CTRL i, 0, 1⟩
abbrev fLPORT_CTRL_BITS (i : Nat) : Fld := ⟨rLPORT_CTRL i, 1, 3⟩
abbrev fLPORT_CTRL_FORMAT (i : Nat) : Fld := ⟨rLPORT_CTRL i, 4, 2⟩
abbrev fLPORT_CTRL_PCLK_EDGE (i : Nat) : Fld := ⟨rLPORT_CTRL i, 6, 1⟩
abbrev fLPORT_CTRL_VS_POL (i : Nat) : Fld := ⟨rLPORT_CTRL i, 7, 1⟩
abbrev fLPORT_CTRL_HS_POL (i : Nat) : Fld := ⟨rLPORT_CTRL i, 8, 1⟩
abbrev fLPORT_CTRL_LINE_MODE (i : Nat) : Fld := ⟨rLPORT_CTRL i, 9, 1⟩
abbrev rLPORT_STATUS (i : Nat) : Nat := 0x220004 + 0x1000 * i
abbrev fLPORT_STATUS_PCLK_PRESENT (i : Nat) : Fld := ⟨rLPORT_STATUS i, 0, 1⟩
abbrev fLPORT_STATUS_FRAME_OPEN (i : Nat) : Fld := ⟨rLPORT_STATUS i, 1, 1⟩
abbrev fLPORT_STATUS_ABSENT (i : Nat) : Fld := ⟨rLPORT_STATUS i, 2, 1⟩
abbrev rLPORT_MAP (i : Nat) : Nat := 0x220008 + 0x1000 * i
abbrev fLPORT_MAP_EN (i : Nat) : Fld := ⟨rLPORT_MAP i, 0, 1⟩
abbrev fLPORT_MAP_PIPE (i : Nat) : Fld := ⟨rLPORT_MAP i, 1, 5⟩
abbrev fLPORT_MAP_EMB_TOP (i : Nat) : Fld := ⟨rLPORT_MAP i, 6, 3⟩
abbrev rLPORT_GEOM (i : Nat) : Nat := 0x22000c + 0x1000 * i
abbrev fLPORT_GEOM_WIDTH (i : Nat) : Fld := ⟨rLPORT_GEOM i, 0, 16⟩
abbrev fLPORT_GEOM_HEIGHT (i : Nat) : Fld := ⟨rLPORT_GEOM i, 16, 16⟩
abbrev rLPORT_START (i : Nat) : Nat := 0x220010 + 0x1000 * i
abbrev fLPORT_START_HSTART (i : Nat) : Fld := ⟨rLPORT_START i, 0, 16⟩
abbrev fLPORT_START_VSTART (i : Nat) : Fld := ⟨rLPORT_START i, 16, 16⟩
abbrev rLPORT_FRAME_CFG (i : Nat) : Nat := 0x220014 + 0x1000 * i
abbrev fLPORT_FRAME_CFG_DAMAGE_LIMIT (i : Nat) : Fld := ⟨rLPORT_FRAME_CFG i, 0, 8⟩
abbrev fLPORT_FRAME_CFG_FRAME_TIMEOUT_MS (i : Nat) : Fld := ⟨rLPORT_FRAME_CFG i, 8, 10⟩
abbrev rLPORT_EVENT (i : Nat) : Nat := 0x220018 + 0x1000 * i
abbrev fLPORT_EVENT_BITS (i : Nat) : Fld := ⟨rLPORT_EVENT i, 0, 16⟩
abbrev rLPORT_EVENT_EN (i : Nat) : Nat := 0x22001c + 0x1000 * i
abbrev fLPORT_EVENT_EN_EN (i : Nat) : Fld := ⟨rLPORT_EVENT_EN i, 0, 16⟩
abbrev rLPORT_CNT (i j : Nat) : Nat := 0x220020 + 0x1000 * i + 4 * j
abbrev fLPORT_CNT_COUNT (i j : Nat) : Fld := ⟨rLPORT_CNT i j, 0, 16⟩
abbrev rSCC_CTRL (i : Nat) : Nat := 0x300000 + 0x1000 * i
abbrev fSCC_CTRL_EN (i : Nat) : Fld := ⟨rSCC_CTRL i, 0, 1⟩
abbrev fSCC_CTRL_SPEED (i : Nat) : Fld := ⟨rSCC_CTRL i, 1, 2⟩
abbrev fSCC_CTRL_SOFT_RESET (i : Nat) : Fld := ⟨rSCC_CTRL i, 3, 1⟩
abbrev fSCC_CTRL_RECOVER (i : Nat) : Fld := ⟨rSCC_CTRL i, 4, 1⟩
abbrev fSCC_CTRL_ARB_RETRY (i : Nat) : Fld := ⟨rSCC_CTRL i, 5, 4⟩
abbrev rSCC_TARGET (i : Nat) : Nat := 0x300004 + 0x1000 * i
abbrev fSCC_TARGET_ADDR (i : Nat) : Fld := ⟨rSCC_TARGET i, 0, 7⟩
abbrev fSCC_TARGET_ADDR_WIDTH (i : Nat) : Fld := ⟨rSCC_TARGET i, 8, 1⟩
abbrev rSCC_TIMING_A (i : Nat) : Nat := 0x300008 + 0x1000 * i
abbrev fSCC_TIMING_A_SCL_LOW (i : Nat) : Fld := ⟨rSCC_TIMING_A i, 0, 10⟩
abbrev fSCC_TIMING_A_SCL_HIGH (i : Nat) : Fld := ⟨rSCC_TIMING_A i, 10, 10⟩
abbrev fSCC_TIMING_A_HD_DAT (i : Nat) : Fld := ⟨rSCC_TIMING_A i, 20, 10⟩
abbrev rSCC_TIMING_B (i : Nat) : Nat := 0x30000c + 0x1000 * i
abbrev fSCC_TIMING_B_SU_STA (i : Nat) : Fld := ⟨rSCC_TIMING_B i, 0, 10⟩
abbrev fSCC_TIMING_B_HD_STA (i : Nat) : Fld := ⟨rSCC_TIMING_B i, 10, 10⟩
abbrev fSCC_TIMING_B_SU_STO (i : Nat) : Fld := ⟨rSCC_TIMING_B i, 20, 10⟩
abbrev rSCC_TIMING_C (i : Nat) : Nat := 0x300010 + 0x1000 * i
abbrev fSCC_TIMING_C_BUF (i : Nat) : Fld := ⟨rSCC_TIMING_C i, 0, 10⟩
abbrev fSCC_TIMING_C_STRETCH_MS (i : Nat) : Fld := ⟨rSCC_TIMING_C i, 10, 8⟩
abbrev fSCC_TIMING_C_BUSY_MS (i : Nat) : Fld := ⟨rSCC_TIMING_C i, 18, 8⟩
abbrev rSCC_RECOVERY (i : Nat) : Nat := 0x300014 + 0x1000 * i
abbrev fSCC_RECOVERY_XRST_US (i : Nat) : Fld := ⟨rSCC_RECOVERY i, 0, 16⟩
abbrev fSCC_RECOVERY_WAIT_US (i : Nat) : Fld := ⟨rSCC_RECOVERY i, 16, 16⟩
abbrev rSCC_LOCK (i : Nat) : Nat := 0x300018 + 0x1000 * i
abbrev fSCC_LOCK_ACTIVE (i : Nat) : Fld := ⟨rSCC_LOCK i, 0, 1⟩
abbrev fSCC_LOCK_HELD (i : Nat) : Fld := ⟨rSCC_LOCK i, 1, 1⟩
abbrev fSCC_LOCK_EXPIRED (i : Nat) : Fld := ⟨rSCC_LOCK i, 2, 1⟩
abbrev fSCC_LOCK_BROKEN (i : Nat) : Fld := ⟨rSCC_LOCK i, 3, 1⟩
abbrev rSCC_STATUS (i : Nat) : Nat := 0x30001c + 0x1000 * i
abbrev fSCC_STATUS_STATE (i : Nat) : Fld := ⟨rSCC_STATUS i, 0, 3⟩
abbrev fSCC_STATUS_SCL (i : Nat) : Fld := ⟨rSCC_STATUS i, 3, 1⟩
abbrev fSCC_STATUS_SDA (i : Nat) : Fld := ⟨rSCC_STATUS i, 4, 1⟩
abbrev fSCC_STATUS_BUS_BUSY (i : Nat) : Fld := ⟨rSCC_STATUS i, 5, 1⟩
abbrev fSCC_STATUS_ABSENT (i : Nat) : Fld := ⟨rSCC_STATUS i, 6, 1⟩
abbrev fSCC_STATUS_LAST_RESULT (i : Nat) : Fld := ⟨rSCC_STATUS i, 8, 4⟩
abbrev rSCC_EVENT (i : Nat) : Nat := 0x300020 + 0x1000 * i
abbrev fSCC_EVENT_NACK (i : Nat) : Fld := ⟨rSCC_EVENT i, 0, 1⟩
abbrev fSCC_EVENT_ARB_LOST (i : Nat) : Fld := ⟨rSCC_EVENT i, 1, 1⟩
abbrev fSCC_EVENT_BUS_ERROR (i : Nat) : Fld := ⟨rSCC_EVENT i, 2, 1⟩
abbrev fSCC_EVENT_SCL_TIMEOUT (i : Nat) : Fld := ⟨rSCC_EVENT i, 3, 1⟩
abbrev fSCC_EVENT_BUSY_TIMEOUT (i : Nat) : Fld := ⟨rSCC_EVENT i, 4, 1⟩
abbrev fSCC_EVENT_STUCK_SDA (i : Nat) : Fld := ⟨rSCC_EVENT i, 5, 1⟩
abbrev fSCC_EVENT_STUCK_SCL (i : Nat) : Fld := ⟨rSCC_EVENT i, 6, 1⟩
abbrev fSCC_EVENT_FAULT (i : Nat) : Fld := ⟨rSCC_EVENT i, 7, 1⟩
abbrev fSCC_EVENT_LOCK_EXPIRED (i : Nat) : Fld := ⟨rSCC_EVENT i, 8, 1⟩
abbrev fSCC_EVENT_LOCK_BROKEN (i : Nat) : Fld := ⟨rSCC_EVENT i, 9, 1⟩
abbrev fSCC_EVENT_CFG_IGNORED (i : Nat) : Fld := ⟨rSCC_EVENT i, 10, 1⟩
abbrev fSCC_EVENT_CFG_INVALID (i : Nat) : Fld := ⟨rSCC_EVENT i, 11, 1⟩
abbrev rSCC_EVENT_EN (i : Nat) : Nat := 0x300024 + 0x1000 * i
abbrev fSCC_EVENT_EN_EN (i : Nat) : Fld := ⟨rSCC_EVENT_EN i, 0, 12⟩
abbrev rSCC_CNT (i j : Nat) : Nat := 0x300040 + 0x1000 * i + 4 * j
abbrev fSCC_CNT_COUNT (i j : Nat) : Fld := ⟨rSCC_CNT i j, 0, 16⟩
abbrev rMGT_CFG : Nat := 0x320000
abbrev fMGT_CFG_PEC_REQUIRED : Fld := ⟨rMGT_CFG, 0, 1⟩
abbrev rMGT_STATUS : Nat := 0x320004
abbrev fMGT_STATUS_ADDR : Fld := ⟨rMGT_STATUS, 0, 7⟩
abbrev fMGT_STATUS_ACTIVE : Fld := ⟨rMGT_STATUS, 7, 1⟩
abbrev rMGT_ALERT_STATUS : Nat := 0x320008
abbrev fMGT_ALERT_STATUS_READY : Fld := ⟨rMGT_ALERT_STATUS, 0, 1⟩
abbrev fMGT_ALERT_STATUS_DEGRADED : Fld := ⟨rMGT_ALERT_STATUS, 1, 1⟩
abbrev fMGT_ALERT_STATUS_SAFE_STATE : Fld := ⟨rMGT_ALERT_STATUS, 2, 1⟩
abbrev fMGT_ALERT_STATUS_TEMP_WARN : Fld := ⟨rMGT_ALERT_STATUS, 3, 1⟩
abbrev fMGT_ALERT_STATUS_TILE_FENCED : Fld := ⟨rMGT_ALERT_STATUS, 4, 1⟩
abbrev fMGT_ALERT_STATUS_ERROR : Fld := ⟨rMGT_ALERT_STATUS, 5, 1⟩
abbrev rMGT_ALERT_MASK : Nat := 0x32000c
abbrev fMGT_ALERT_MASK_MASK : Fld := ⟨rMGT_ALERT_MASK, 0, 6⟩
abbrev rMGT_LAST_ERROR : Nat := 0x320010
abbrev fMGT_LAST_ERROR_CODE : Fld := ⟨rMGT_LAST_ERROR, 0, 8⟩
abbrev rMGT_CNT (j : Nat) : Nat := 0x320020 + 4 * j
abbrev fMGT_CNT_COUNT (j : Nat) : Fld := ⟨rMGT_CNT j, 0, 16⟩
abbrev rESC_SUMMARY : Nat := 0x340000
abbrev rESCP_CTRL (i : Nat) : Nat := 0x340100 + 0x20 * i
abbrev fESCP_CTRL_LOAD (i : Nat) : Fld := ⟨rESCP_CTRL i, 0, 1⟩
abbrev fESCP_CTRL_FLUSH (i : Nat) : Fld := ⟨rESCP_CTRL i, 1, 1⟩
abbrev rESCP_STATUS (i : Nat) : Nat := 0x340104 + 0x20 * i
abbrev fESCP_STATUS_PROFILE_VALID (i : Nat) : Fld := ⟨rESCP_STATUS i, 0, 1⟩
abbrev fESCP_STATUS_PENDING (i : Nat) : Fld := ⟨rESCP_STATUS i, 1, 5⟩
abbrev fESCP_STATUS_PROFILE_ERR (i : Nat) : Fld := ⟨rESCP_STATUS i, 8, 8⟩
abbrev rESCP_EVENT (i : Nat) : Nat := 0x340108 + 0x20 * i
abbrev fESCP_EVENT_LATE (i : Nat) : Fld := ⟨rESCP_EVENT i, 0, 1⟩
abbrev fESCP_EVENT_FAILED (i : Nat) : Fld := ⟨rESCP_EVENT i, 1, 1⟩
abbrev fESCP_EVENT_MISMATCH (i : Nat) : Fld := ⟨rESCP_EVENT i, 2, 1⟩
abbrev fESCP_EVENT_LAG (i : Nat) : Fld := ⟨rESCP_EVENT i, 3, 1⟩
abbrev fESCP_EVENT_UNVERIFIED (i : Nat) : Fld := ⟨rESCP_EVENT i, 4, 1⟩
abbrev fESCP_EVENT_PROFILE_INVALID (i : Nat) : Fld := ⟨rESCP_EVENT i, 5, 1⟩
abbrev fESCP_EVENT_CFG_IGNORED (i : Nat) : Fld := ⟨rESCP_EVENT i, 6, 1⟩
abbrev rESCP_EVENT_EN (i : Nat) : Nat := 0x34010c + 0x20 * i
abbrev fESCP_EVENT_EN_EN (i : Nat) : Fld := ⟨rESCP_EVENT_EN i, 0, 7⟩
abbrev rESCP_LAST_ENTRY (i : Nat) : Nat := 0x340110 + 0x20 * i
abbrev rESCP_LAST_FSN (i : Nat) : Nat := 0x340114 + 0x20 * i
abbrev rESCP_CNT (i : Nat) : Nat := 0x340118 + 0x20 * i
abbrev fESCP_CNT_LATE (i : Nat) : Fld := ⟨rESCP_CNT i, 0, 16⟩
abbrev fESCP_CNT_VERIFY_FAIL (i : Nat) : Fld := ⟨rESCP_CNT i, 16, 16⟩
abbrev rESC_PROFILE_WORD (i j : Nat) : Nat := 0x341000 + 0x100 * i + 4 * j
abbrev rFE_CTRL (i : Nat) : Nat := 0x400000 + 0x10000 * i
abbrev fFE_CTRL_BL_EN (i : Nat) : Fld := ⟨rFE_CTRL i, 0, 1⟩
abbrev fFE_CTRL_DEF_STATIC_EN (i : Nat) : Fld := ⟨rFE_CTRL i, 1, 1⟩
abbrev fFE_CTRL_DEF_DYN_EN (i : Nat) : Fld := ⟨rFE_CTRL i, 2, 1⟩
abbrev fFE_CTRL_DECOMP_EN (i : Nat) : Fld := ⟨rFE_CTRL i, 3, 1⟩
abbrev fFE_CTRL_SHADING_EN (i : Nat) : Fld := ⟨rFE_CTRL i, 4, 1⟩
abbrev fFE_CTRL_WB_EN (i : Nat) : Fld := ⟨rFE_CTRL i, 5, 1⟩
abbrev fFE_CTRL_IRSUB_EN (i : Nat) : Fld := ⟨rFE_CTRL i, 6, 1⟩
abbrev fFE_CTRL_MATRIX_EN (i : Nat) : Fld := ⟨rFE_CTRL i, 7, 1⟩
abbrev fFE_CTRL_TONE_EN (i : Nat) : Fld := ⟨rFE_CTRL i, 8, 1⟩
abbrev fFE_CTRL_TONE_IR_EN (i : Nat) : Fld := ⟨rFE_CTRL i, 9, 1⟩
abbrev fFE_CTRL_NR_EN (i : Nat) : Fld := ⟨rFE_CTRL i, 10, 1⟩
abbrev rFE_STATUS (i : Nat) : Nat := 0x400004 + 0x10000 * i
abbrev fFE_STATUS_CLASS (i : Nat) : Fld := ⟨rFE_STATUS i, 0, 4⟩
abbrev fFE_STATUS_SHADOW_CLASS (i : Nat) : Fld := ⟨rFE_STATUS i, 4, 4⟩
abbrev fFE_STATUS_CTX (i : Nat) : Fld := ⟨rFE_STATUS i, 8, 3⟩
abbrev fFE_STATUS_COMPONENTS (i : Nat) : Fld := ⟨rFE_STATUS i, 11, 2⟩
abbrev fFE_STATUS_BITS (i : Nat) : Fld := ⟨rFE_STATUS i, 13, 5⟩
abbrev rFE_CFA_MAP_LO (i : Nat) : Nat := 0x400008 + 0x10000 * i
abbrev fFE_CFA_MAP_LO_POS_0_9 (i : Nat) : Fld := ⟨rFE_CFA_MAP_LO i, 0, 30⟩
abbrev rFE_CFA_MAP_HI (i : Nat) : Nat := 0x40000c + 0x10000 * i
abbrev fFE_CFA_MAP_HI_POS_10_15 (i : Nat) : Fld := ⟨rFE_CFA_MAP_HI i, 0, 18⟩
abbrev rFE_EVENT (i : Nat) : Nat := 0x400010 + 0x10000 * i
abbrev fFE_EVENT_OB_RANGE (i : Nat) : Fld := ⟨rFE_EVENT i, 0, 1⟩
abbrev fFE_EVENT_DEFECT_LIMIT (i : Nat) : Fld := ⟨rFE_EVENT i, 1, 1⟩
abbrev fFE_EVENT_DEFECT_LIST (i : Nat) : Fld := ⟨rFE_EVENT i, 2, 1⟩
abbrev fFE_EVENT_EMB_FIELD_BAD (i : Nat) : Fld := ⟨rFE_EVENT i, 3, 1⟩
abbrev fFE_EVENT_CFG_INVALID (i : Nat) : Fld := ⟨rFE_EVENT i, 4, 1⟩
abbrev rFE_EVENT_EN (i : Nat) : Nat := 0x400014 + 0x10000 * i
abbrev fFE_EVENT_EN_EN (i : Nat) : Fld := ⟨rFE_EVENT_EN i, 0, 5⟩
abbrev rFE_TABLE_WRITTEN (i : Nat) : Nat := 0x400018 + 0x10000 * i
abbrev fFE_TABLE_WRITTEN_TABLES (i : Nat) : Fld := ⟨rFE_TABLE_WRITTEN i, 0, 5⟩
abbrev rFE_DEFECT_STATS (i : Nat) : Nat := 0x40001c + 0x10000 * i
abbrev fFE_DEFECT_STATS_DYN_CORRECTED (i : Nat) : Fld := ⟨rFE_DEFECT_STATS i, 0, 16⟩
abbrev fFE_DEFECT_STATS_LIST_IGNORED (i : Nat) : Fld := ⟨rFE_DEFECT_STATS i, 16, 16⟩
abbrev rFE_EMB_FIELD_CFG (i j : Nat) : Nat := 0x400020 + 0x10000 * i + 4 * j
abbrev fFE_EMB_FIELD_CFG_OFFSET (i j : Nat) : Fld := ⟨rFE_EMB_FIELD_CFG i j, 0, 16⟩
abbrev fFE_EMB_FIELD_CFG_LINE (i j : Nat) : Fld := ⟨rFE_EMB_FIELD_CFG i j, 16, 3⟩
abbrev fFE_EMB_FIELD_CFG_BYTES (i j : Nat) : Fld := ⟨rFE_EMB_FIELD_CFG i j, 19, 2⟩
abbrev fFE_EMB_FIELD_CFG_TAGGED (i j : Nat) : Fld := ⟨rFE_EMB_FIELD_CFG i j, 21, 1⟩
abbrev fFE_EMB_FIELD_CFG_MSB_FIRST (i j : Nat) : Fld := ⟨rFE_EMB_FIELD_CFG i j, 22, 1⟩
abbrev fFE_EMB_FIELD_CFG_EN (i j : Nat) : Fld := ⟨rFE_EMB_FIELD_CFG i j, 23, 1⟩
abbrev rFE_EMB_FIELD_VAL (i j : Nat) : Nat := 0x400040 + 0x10000 * i + 4 * j
abbrev rFE_EMB_STATUS (i : Nat) : Nat := 0x400060 + 0x10000 * i
abbrev fFE_EMB_STATUS_VALID (i : Nat) : Fld := ⟨rFE_EMB_STATUS i, 0, 8⟩
abbrev rFE_EMB_FSN (i : Nat) : Nat := 0x400064 + 0x10000 * i
abbrev rFE_BL_BASE (i j : Nat) : Nat := 0x400080 + 0x10000 * i + 4 * j
abbrev fFE_BL_BASE_LEVEL (i j : Nat) : Fld := ⟨rFE_BL_BASE i j, 0, 24⟩
abbrev rFE_BL_CFG (i : Nat) : Nat := 0x400098 + 0x10000 * i
abbrev fFE_BL_CFG_SRC (i : Nat) : Fld := ⟨rFE_BL_CFG i, 0, 2⟩
abbrev fFE_BL_CFG_ALPHA (i : Nat) : Fld := ⟨rFE_BL_CFG i, 2, 9⟩
abbrev fFE_BL_CFG_FIELD (i : Nat) : Fld := ⟨rFE_BL_CFG i, 11, 3⟩
abbrev fFE_BL_CFG_RANGE (i : Nat) : Fld := ⟨rFE_BL_CFG i, 14, 18⟩
abbrev rFE_OB_REGION (i : Nat) : Nat := 0x40009c + 0x10000 * i
abbrev fFE_OB_REGION_OB_LINES (i : Nat) : Fld := ⟨rFE_OB_REGION i, 0, 8⟩
abbrev fFE_OB_REGION_OB_COLS (i : Nat) : Fld := ⟨rFE_OB_REGION i, 8, 9⟩
abbrev rFE_BL_LEVEL (i j : Nat) : Nat := 0x4000a0 + 0x10000 * i + 4 * j
abbrev fFE_BL_LEVEL_LEVEL (i j : Nat) : Fld := ⟨rFE_BL_LEVEL i j, 0, 24⟩
abbrev rFE_DEFECT_CFG (i : Nat) : Nat := 0x4000c0 + 0x10000 * i
abbrev fFE_DEFECT_CFG_STATIC_COUNT (i : Nat) : Fld := ⟨rFE_DEFECT_CFG i, 0, 13⟩
abbrev fFE_DEFECT_CFG_DYN_LIMIT (i : Nat) : Fld := ⟨rFE_DEFECT_CFG i, 16, 16⟩
abbrev rFE_DYN_HOT (i : Nat) : Nat := 0x4000c4 + 0x10000 * i
abbrev fFE_DYN_HOT_THR (i : Nat) : Fld := ⟨rFE_DYN_HOT i, 0, 24⟩
abbrev rFE_DYN_COLD (i : Nat) : Nat := 0x4000c8 + 0x10000 * i
abbrev fFE_DYN_COLD_THR (i : Nat) : Fld := ⟨rFE_DYN_COLD i, 0, 24⟩
abbrev rFE_SHADING_GRID (i : Nat) : Nat := 0x4000d0 + 0x10000 * i
abbrev fFE_SHADING_GRID_NX (i : Nat) : Fld := ⟨rFE_SHADING_GRID i, 0, 6⟩
abbrev fFE_SHADING_GRID_NY (i : Nat) : Fld := ⟨rFE_SHADING_GRID i, 8, 6⟩
abbrev fFE_SHADING_GRID_LOG_W (i : Nat) : Fld := ⟨rFE_SHADING_GRID i, 16, 4⟩
abbrev fFE_SHADING_GRID_LOG_H (i : Nat) : Fld := ⟨rFE_SHADING_GRID i, 20, 4⟩
abbrev rFE_WB_GAIN (i j : Nat) : Nat := 0x4000e0 + 0x10000 * i + 4 * j
abbrev fFE_WB_GAIN_GAIN (i j : Nat) : Fld := ⟨rFE_WB_GAIN i j, 0, 16⟩
abbrev rFE_IRSUB_A (i : Nat) : Nat := 0x400100 + 0x10000 * i
abbrev fFE_IRSUB_A_K_R (i : Nat) : Fld := ⟨rFE_IRSUB_A i, 0, 12⟩
abbrev fFE_IRSUB_A_K_G (i : Nat) : Fld := ⟨rFE_IRSUB_A i, 16, 12⟩
abbrev rFE_IRSUB_B (i : Nat) : Nat := 0x400104 + 0x10000 * i
abbrev fFE_IRSUB_B_K_B (i : Nat) : Fld := ⟨rFE_IRSUB_B i, 0, 12⟩
abbrev rFE_MATRIX (i j : Nat) : Nat := 0x400110 + 0x10000 * i + 4 * j
abbrev fFE_MATRIX_M_LO (i j : Nat) : Fld := ⟨rFE_MATRIX i j, 0, 16⟩
abbrev fFE_MATRIX_M_HI (i j : Nat) : Fld := ⟨rFE_MATRIX i j, 16, 16⟩
abbrev rFE_MATRIX_OFF (i j : Nat) : Nat := 0x400130 + 0x10000 * i + 4 * j
abbrev fFE_MATRIX_OFF_OFF (i j : Nat) : Fld := ⟨rFE_MATRIX_OFF i j, 0, 21⟩
abbrev rFE_NR_SIGMA (i j : Nat) : Nat := 0x400140 + 0x10000 * i + 4 * j
abbrev fFE_NR_SIGMA_SIGMA_LO (i j : Nat) : Fld := ⟨rFE_NR_SIGMA i j, 0, 16⟩
abbrev fFE_NR_SIGMA_SIGMA_HI (i j : Nat) : Fld := ⟨rFE_NR_SIGMA i j, 16, 16⟩
abbrev rFE_NR_CFG (i : Nat) : Nat := 0x400160 + 0x10000 * i
abbrev fFE_NR_CFG_STRENGTH (i : Nat) : Fld := ⟨rFE_NR_CFG i, 0, 8⟩
abbrev fFE_NR_CFG_BLEND (i : Nat) : Fld := ⟨rFE_NR_CFG i, 8, 9⟩
abbrev rFE_OUT_TABLES_WRITTEN (i : Nat) : Nat := 0x400180 + 0x10000 * i
abbrev fFE_OUT_TABLES_WRITTEN_TABLES (i : Nat) : Fld := ⟨rFE_OUT_TABLES_WRITTEN i, 0, 10⟩
abbrev rFE_COEF (i j : Nat) : Nat := 0x401000 + 0x10000 * i + 4 * j
abbrev rFE_DEFECT (i j : Nat) : Nat := 0x404000 + 0x10000 * i + 4 * j
abbrev rFE_DECOMP (i j : Nat) : Nat := 0x408000 + 0x10000 * i + 4 * j
abbrev rFE_TONE (i j : Nat) : Nat := 0x408400 + 0x10000 * i + 4 * j
abbrev rFE_TONE_IR (i j : Nat) : Nat := 0x409000 + 0x10000 * i + 4 * j
abbrev rFE_SHADING (i j : Nat) : Nat := 0x40a000 + 0x10000 * i + 4 * j
abbrev rFE_MESH0 (i j : Nat) : Nat := 0x40c400 + 0x10000 * i + 4 * j
abbrev rFE_MESH1 (i j : Nat) : Nat := 0x40d800 + 0x10000 * i + 4 * j
abbrev rOUT_CTRL (i j : Nat) : Nat := 0x400200 + 0x10000 * i + 0x80 * j
abbrev fOUT_CTRL_EN (i j : Nat) : Fld := ⟨rOUT_CTRL i j, 0, 1⟩
abbrev fOUT_CTRL_PICTURE (i j : Nat) : Fld := ⟨rOUT_CTRL i j, 1, 1⟩
abbrev fOUT_CTRL_DEST (i j : Nat) : Fld := ⟨rOUT_CTRL i j, 2, 2⟩
abbrev fOUT_CTRL_FORMAT (i j : Nat) : Fld := ⟨rOUT_CTRL i j, 4, 4⟩
abbrev fOUT_CTRL_CSC (i j : Nat) : Fld := ⟨rOUT_CTRL i j, 8, 1⟩
abbrev fOUT_CTRL_DEWARP_EN (i j : Nat) : Fld := ⟨rOUT_CTRL i j, 9, 1⟩
abbrev rOUT_CROP_XY (i j : Nat) : Nat := 0x400204 + 0x10000 * i + 0x80 * j
abbrev fOUT_CROP_XY_X (i j : Nat) : Fld := ⟨rOUT_CROP_XY i j, 0, 16⟩
abbrev fOUT_CROP_XY_Y (i j : Nat) : Fld := ⟨rOUT_CROP_XY i j, 16, 16⟩
abbrev rOUT_CROP_SIZE (i j : Nat) : Nat := 0x400208 + 0x10000 * i + 0x80 * j
abbrev fOUT_CROP_SIZE_W (i j : Nat) : Fld := ⟨rOUT_CROP_SIZE i j, 0, 16⟩
abbrev fOUT_CROP_SIZE_H (i j : Nat) : Fld := ⟨rOUT_CROP_SIZE i j, 16, 16⟩
abbrev rOUT_SIZE (i j : Nat) : Nat := 0x40020c + 0x10000 * i + 0x80 * j
abbrev fOUT_SIZE_W (i j : Nat) : Fld := ⟨rOUT_SIZE i j, 0, 16⟩
abbrev fOUT_SIZE_H (i j : Nat) : Fld := ⟨rOUT_SIZE i j, 16, 16⟩
abbrev rOUT_STRIDE0 (i j : Nat) : Nat := 0x400210 + 0x10000 * i + 0x80 * j
abbrev fOUT_STRIDE0_BYTES (i j : Nat) : Fld := ⟨rOUT_STRIDE0 i j, 0, 24⟩
abbrev rOUT_STRIDE1 (i j : Nat) : Nat := 0x400214 + 0x10000 * i + 0x80 * j
abbrev fOUT_STRIDE1_BYTES (i j : Nat) : Fld := ⟨rOUT_STRIDE1 i j, 0, 24⟩
abbrev rOUT_PLANE1_OFF (i j : Nat) : Nat := 0x400218 + 0x10000 * i + 0x80 * j
abbrev rOUT_DECIM (i j : Nat) : Nat := 0x40021c + 0x10000 * i + 0x80 * j
abbrev fOUT_DECIM_MODE (i j : Nat) : Fld := ⟨rOUT_DECIM i j, 0, 1⟩
abbrev fOUT_DECIM_N_M1 (i j : Nat) : Fld := ⟨rOUT_DECIM i j, 1, 6⟩
abbrev fOUT_DECIM_INTERVAL_US (i j : Nat) : Fld := ⟨rOUT_DECIM i j, 8, 20⟩
abbrev rOUT_FS_BASE_LO (i j : Nat) : Nat := 0x400220 + 0x10000 * i + 0x80 * j
abbrev fOUT_FS_BASE_LO_ADDR (i j : Nat) : Fld := ⟨rOUT_FS_BASE_LO i j, 12, 20⟩
abbrev rOUT_FS_BASE_HI (i j : Nat) : Nat := 0x400224 + 0x10000 * i + 0x80 * j
abbrev fOUT_FS_BASE_HI_ADDR (i j : Nat) : Fld := ⟨rOUT_FS_BASE_HI i j, 0, 2⟩
abbrev rOUT_FS_CFG (i j : Nat) : Nat := 0x400228 + 0x10000 * i + 0x80 * j
abbrev fOUT_FS_CFG_PAGES (i j : Nat) : Fld := ⟨rOUT_FS_CFG i j, 0, 20⟩
abbrev fOUT_FS_CFG_COUNT (i j : Nat) : Fld := ⟨rOUT_FS_CFG i j, 20, 3⟩
abbrev rOUT_PEER (i j : Nat) : Nat := 0x40022c + 0x10000 * i + 0x80 * j
abbrev fOUT_PEER_DEV (i j : Nat) : Fld := ⟨rOUT_PEER i j, 0, 6⟩
abbrev rOUT_PEER_ADDR_LO (i j : Nat) : Nat := 0x400230 + 0x10000 * i + 0x80 * j
abbrev fOUT_PEER_ADDR_LO_ADDR (i j : Nat) : Fld := ⟨rOUT_PEER_ADDR_LO i j, 6, 26⟩
abbrev rOUT_PEER_ADDR_HI (i j : Nat) : Nat := 0x400234 + 0x10000 * i + 0x80 * j
abbrev rOUT_DW_BASE_LO (i j : Nat) : Nat := 0x400238 + 0x10000 * i + 0x80 * j
abbrev fOUT_DW_BASE_LO_ADDR (i j : Nat) : Fld := ⟨rOUT_DW_BASE_LO i j, 12, 20⟩
abbrev rOUT_DW_BASE_HI (i j : Nat) : Nat := 0x40023c + 0x10000 * i + 0x80 * j
abbrev fOUT_DW_BASE_HI_ADDR (i j : Nat) : Fld := ⟨rOUT_DW_BASE_HI i j, 0, 2⟩
abbrev rOUT_DW_MESH (i j : Nat) : Nat := 0x400240 + 0x10000 * i + 0x80 * j
abbrev fOUT_DW_MESH_MX (i j : Nat) : Fld := ⟨rOUT_DW_MESH i j, 0, 6⟩
abbrev fOUT_DW_MESH_MY (i j : Nat) : Fld := ⟨rOUT_DW_MESH i j, 8, 6⟩
abbrev fOUT_DW_MESH_LOG_W (i j : Nat) : Fld := ⟨rOUT_DW_MESH i j, 16, 4⟩
abbrev fOUT_DW_MESH_LOG_H (i j : Nat) : Fld := ⟨rOUT_DW_MESH i j, 20, 4⟩
abbrev rOUT_DW_FILL (i j : Nat) : Nat := 0x400244 + 0x10000 * i + 0x80 * j
abbrev fOUT_DW_FILL_VALUE (i j : Nat) : Fld := ⟨rOUT_DW_FILL i j, 0, 16⟩
abbrev rOUT_STATUS (i j : Nat) : Nat := 0x400248 + 0x10000 * i + 0x80 * j
abbrev fOUT_STATUS_LOOKAHEAD (i j : Nat) : Fld := ⟨rOUT_STATUS i j, 0, 7⟩
abbrev rOUT_CNT (i j : Nat) : Nat := 0x40024c + 0x10000 * i + 0x80 * j
abbrev fOUT_CNT_DECIMATED (i j : Nat) : Fld := ⟨rOUT_CNT i j, 0, 16⟩
abbrev fOUT_CNT_STORE_SKIP (i j : Nat) : Fld := ⟨rOUT_CNT i j, 16, 16⟩
abbrev rOUT_FS_STATE (i j : Nat) : Nat := 0x400250 + 0x10000 * i + 0x80 * j
abbrev fOUT_FS_STATE_NEWEST_GOOD (i j : Nat) : Fld := ⟨rOUT_FS_STATE i j, 0, 3⟩
abbrev fOUT_FS_STATE_WRITING (i j : Nat) : Fld := ⟨rOUT_FS_STATE i j, 3, 3⟩
abbrev fOUT_FS_STATE_HELD (i j : Nat) : Fld := ⟨rOUT_FS_STATE i j, 8, 6⟩
abbrev rSTATS_CTRL (i : Nat) : Nat := 0x400800 + 0x10000 * i
abbrev fSTATS_CTRL_HIST_EN (i : Nat) : Fld := ⟨rSTATS_CTRL i, 0, 1⟩
abbrev fSTATS_CTRL_ZONE_EN (i : Nat) : Fld := ⟨rSTATS_CTRL i, 1, 1⟩
abbrev fSTATS_CTRL_FLK_EN (i : Nat) : Fld := ⟨rSTATS_CTRL i, 2, 1⟩
abbrev fSTATS_CTRL_TAP (i : Nat) : Fld := ⟨rSTATS_CTRL i, 3, 2⟩
abbrev fSTATS_CTRL_HIST_LOG (i : Nat) : Fld := ⟨rSTATS_CTRL i, 5, 1⟩
abbrev fSTATS_CTRL_N_M1 (i : Nat) : Fld := ⟨rSTATS_CTRL i, 6, 6⟩
abbrev rSTATS_WIN_XY (i : Nat) : Nat := 0x400804 + 0x10000 * i
abbrev fSTATS_WIN_XY_X (i : Nat) : Fld := ⟨rSTATS_WIN_XY i, 0, 16⟩
abbrev fSTATS_WIN_XY_Y (i : Nat) : Fld := ⟨rSTATS_WIN_XY i, 16, 16⟩
abbrev rSTATS_WIN_SIZE (i : Nat) : Nat := 0x400808 + 0x10000 * i
abbrev fSTATS_WIN_SIZE_W (i : Nat) : Fld := ⟨rSTATS_WIN_SIZE i, 0, 16⟩
abbrev fSTATS_WIN_SIZE_H (i : Nat) : Fld := ⟨rSTATS_WIN_SIZE i, 16, 16⟩
abbrev rSTATS_CH_SEL (i : Nat) : Nat := 0x40080c + 0x10000 * i
abbrev fSTATS_CH_SEL_CH0 (i : Nat) : Fld := ⟨rSTATS_CH_SEL i, 0, 4⟩
abbrev fSTATS_CH_SEL_CH1 (i : Nat) : Fld := ⟨rSTATS_CH_SEL i, 8, 4⟩
abbrev fSTATS_CH_SEL_CH2 (i : Nat) : Fld := ⟨rSTATS_CH_SEL i, 16, 4⟩
abbrev fSTATS_CH_SEL_CH3 (i : Nat) : Fld := ⟨rSTATS_CH_SEL i, 24, 4⟩
abbrev rSTATS_ZONE_GRID (i : Nat) : Nat := 0x400810 + 0x10000 * i
abbrev fSTATS_ZONE_GRID_ZX (i : Nat) : Fld := ⟨rSTATS_ZONE_GRID i, 0, 6⟩
abbrev fSTATS_ZONE_GRID_ZY (i : Nat) : Fld := ⟨rSTATS_ZONE_GRID i, 8, 6⟩
abbrev rSTATS_ZONE_SIZE (i : Nat) : Nat := 0x400814 + 0x10000 * i
abbrev fSTATS_ZONE_SIZE_ZW (i : Nat) : Fld := ⟨rSTATS_ZONE_SIZE i, 0, 16⟩
abbrev fSTATS_ZONE_SIZE_ZH (i : Nat) : Fld := ⟨rSTATS_ZONE_SIZE i, 16, 16⟩
abbrev rSTATS_CLIP (i : Nat) : Nat := 0x400818 + 0x10000 * i
abbrev fSTATS_CLIP_THR (i : Nat) : Fld := ⟨rSTATS_CLIP i, 0, 20⟩
abbrev rSTATS_FLK_CFG (i : Nat) : Nat := 0x40081c + 0x10000 * i
abbrev fSTATS_FLK_CFG_CH (i : Nat) : Fld := ⟨rSTATS_FLK_CFG i, 0, 2⟩
abbrev fSTATS_FLK_CFG_ROWS_LOG2 (i : Nat) : Fld := ⟨rSTATS_FLK_CFG i, 2, 2⟩
abbrev fSTATS_FLK_CFG_ALPHA (i : Nat) : Fld := ⟨rSTATS_FLK_CFG i, 4, 9⟩
abbrev fSTATS_FLK_CFG_THR (i : Nat) : Fld := ⟨rSTATS_FLK_CFG i, 16, 16⟩
abbrev rSTATS_FLK_LINE (i : Nat) : Nat := 0x400820 + 0x10000 * i
abbrev fSTATS_FLK_LINE_LINE_NS (i : Nat) : Fld := ⟨rSTATS_FLK_LINE i, 0, 20⟩
abbrev rSTATS_FLK_MIN (i : Nat) : Nat := 0x400824 + 0x10000 * i
abbrev fSTATS_FLK_MIN_MEAN (i : Nat) : Fld := ⟨rSTATS_FLK_MIN i, 0, 20⟩
abbrev rSTATS_FLK_FREQ (i j : Nat) : Nat := 0x400840 + 0x10000 * i + 4 * j
abbrev fSTATS_FLK_FREQ_DHZ (i j : Nat) : Fld := ⟨rSTATS_FLK_FREQ i j, 0, 16⟩
abbrev rSTATS_STATUS (i : Nat) : Nat := 0x400880 + 0x10000 * i
abbrev fSTATS_STATUS_DETECT (i : Nat) : Fld := ⟨rSTATS_STATUS i, 0, 16⟩
abbrev fSTATS_STATUS_BEST (i : Nat) : Fld := ⟨rSTATS_STATUS i, 16, 8⟩
abbrev fSTATS_STATUS_REF_HELD (i : Nat) : Fld := ⟨rSTATS_STATUS i, 24, 1⟩
abbrev rSTATS_FSN (i : Nat) : Nat := 0x400884 + 0x10000 * i
abbrev rSTATS_CNT (i : Nat) : Nat := 0x400888 + 0x10000 * i
abbrev fSTATS_CNT_NO_RESULT (i : Nat) : Fld := ⟨rSTATS_CNT i, 0, 16⟩
abbrev fSTATS_CNT_DECIMATED (i : Nat) : Fld := ⟨rSTATS_CNT i, 16, 16⟩
abbrev rSTATS_EVENT (i : Nat) : Nat := 0x40088c + 0x10000 * i
abbrev fSTATS_EVENT_FLICKER (i : Nat) : Fld := ⟨rSTATS_EVENT i, 0, 1⟩
abbrev fSTATS_EVENT_FLICKER_GONE (i : Nat) : Fld := ⟨rSTATS_EVENT i, 1, 1⟩
abbrev rSTATS_EVENT_EN (i : Nat) : Nat := 0x400890 + 0x10000 * i
abbrev fSTATS_EVENT_EN_EN (i : Nat) : Fld := ⟨rSTATS_EVENT_EN i, 0, 2⟩
abbrev rKSCHED_CTRL (i : Nat) : Nat := 0x400a00 + 0x10000 * i
abbrev fKSCHED_CTRL_SLICE_LOG2 (i : Nat) : Fld := ⟨rKSCHED_CTRL i, 0, 3⟩
abbrev fKSCHED_CTRL_TILE_REQ (i : Nat) : Fld := ⟨rKSCHED_CTRL i, 4, 4⟩
abbrev fKSCHED_CTRL_TWIN_MASK (i : Nat) : Fld := ⟨rKSCHED_CTRL i, 8, 4⟩
abbrev fKSCHED_CTRL_TWIN_REQUIRED (i : Nat) : Fld := ⟨rKSCHED_CTRL i, 12, 1⟩
abbrev fKSCHED_CTRL_PRIORITY (i : Nat) : Fld := ⟨rKSCHED_CTRL i, 16, 4⟩
abbrev rKSCHED_FRAME (i : Nat) : Nat := 0x400a04 + 0x10000 * i
abbrev rKSCHED_LINE (i : Nat) : Nat := 0x400a08 + 0x10000 * i
abbrev fKSCHED_LINE_T16 (i : Nat) : Fld := ⟨rKSCHED_LINE i, 0, 24⟩
abbrev rKSCHED_STATUS (i : Nat) : Nat := 0x400a0c + 0x10000 * i
abbrev fKSCHED_STATUS_STATE (i : Nat) : Fld := ⟨rKSCHED_STATUS i, 0, 2⟩
abbrev fKSCHED_STATUS_TILE (i : Nat) : Fld := ⟨rKSCHED_STATUS i, 4, 3⟩
abbrev fKSCHED_STATUS_TWIN_ACTIVE (i : Nat) : Fld := ⟨rKSCHED_STATUS i, 7, 1⟩
abbrev fKSCHED_STATUS_TWIN_TILE (i : Nat) : Fld := ⟨rKSCHED_STATUS i, 8, 3⟩
abbrev rKSCHED_CNT (i : Nat) : Nat := 0x400a10 + 0x10000 * i
abbrev fKSCHED_CNT_DEADLINE_MISS (i : Nat) : Fld := ⟨rKSCHED_CNT i, 0, 16⟩
abbrev fKSCHED_CNT_EARLY_FRAME (i : Nat) : Fld := ⟨rKSCHED_CNT i, 16, 16⟩
abbrev rKSCHED_CNT2 (i : Nat) : Nat := 0x400a14 + 0x10000 * i
abbrev fKSCHED_CNT2_TWIN_MISMATCH (i : Nat) : Fld := ⟨rKSCHED_CNT2 i, 0, 16⟩
abbrev fKSCHED_CNT2_TWIN_LATE (i : Nat) : Fld := ⟨rKSCHED_CNT2 i, 16, 16⟩
abbrev rKSCHED_EVENT (i : Nat) : Nat := 0x400a18 + 0x10000 * i
abbrev fKSCHED_EVENT_DEADLINE_MISS (i : Nat) : Fld := ⟨rKSCHED_EVENT i, 0, 1⟩
abbrev fKSCHED_EVENT_EARLY_FRAME (i : Nat) : Fld := ⟨rKSCHED_EVENT i, 1, 1⟩
abbrev fKSCHED_EVENT_TWIN_MISMATCH (i : Nat) : Fld := ⟨rKSCHED_EVENT i, 2, 1⟩
abbrev fKSCHED_EVENT_TWIN_LATE (i : Nat) : Fld := ⟨rKSCHED_EVENT i, 3, 1⟩
abbrev fKSCHED_EVENT_TWIN_LOST (i : Nat) : Fld := ⟨rKSCHED_EVENT i, 4, 1⟩
abbrev fKSCHED_EVENT_MOVED (i : Nat) : Fld := ⟨rKSCHED_EVENT i, 5, 1⟩
abbrev fKSCHED_EVENT_STOPPED (i : Nat) : Fld := ⟨rKSCHED_EVENT i, 6, 1⟩
abbrev fKSCHED_EVENT_CFG_INVALID (i : Nat) : Fld := ⟨rKSCHED_EVENT i, 7, 1⟩
abbrev rKSCHED_EVENT_EN (i : Nat) : Nat := 0x400a1c + 0x10000 * i
abbrev fKSCHED_EVENT_EN_EN (i : Nat) : Fld := ⟨rKSCHED_EVENT_EN i, 0, 8⟩
abbrev rKSLOT_KID (i j : Nat) : Nat := 0x400b00 + 0x10000 * i + 0x10 * j
abbrev fKSLOT_KID_ID (i j : Nat) : Fld := ⟨rKSLOT_KID i j, 0, 16⟩
abbrev rKSLOT_PARAM (i j : Nat) : Nat := 0x400b04 + 0x10000 * i + 0x10 * j
abbrev rCMT_COMMIT_STATUS (i : Nat) : Nat := 0x40f000 + 0x10000 * i
abbrev fCMT_COMMIT_STATUS_STATE (i : Nat) : Fld := ⟨rCMT_COMMIT_STATUS i, 0, 2⟩
abbrev fCMT_COMMIT_STATUS_LOCKED (i : Nat) : Fld := ⟨rCMT_COMMIT_STATUS i, 2, 1⟩
abbrev fCMT_COMMIT_STATUS_LAST_STATUS (i : Nat) : Fld := ⟨rCMT_COMMIT_STATUS i, 8, 8⟩
abbrev rCMT_COMMIT_TARGET (i : Nat) : Nat := 0x40f004 + 0x10000 * i
abbrev rCMT_CONFIG_GEN (i : Nat) : Nat := 0x40f008 + 0x10000 * i
abbrev rCMT_FSN (i : Nat) : Nat := 0x40f00c + 0x10000 * i
abbrev rCMT_REJECT (i : Nat) : Nat := 0x40f010 + 0x10000 * i
abbrev fCMT_REJECT_RULE (i : Nat) : Fld := ⟨rCMT_REJECT i, 0, 16⟩
abbrev fCMT_REJECT_DETAIL (i : Nat) : Fld := ⟨rCMT_REJECT i, 16, 8⟩
abbrev fCMT_REJECT_SOURCE (i : Nat) : Fld := ⟨rCMT_REJECT i, 24, 8⟩
abbrev rCMT_ADMIT_PLACE (i : Nat) : Nat := 0x40f014 + 0x10000 * i
abbrev fCMT_ADMIT_PLACE_TILE (i : Nat) : Fld := ⟨rCMT_ADMIT_PLACE i, 0, 3⟩
abbrev fCMT_ADMIT_PLACE_TWIN_EN (i : Nat) : Fld := ⟨rCMT_ADMIT_PLACE i, 3, 1⟩
abbrev fCMT_ADMIT_PLACE_TWIN_TILE (i : Nat) : Fld := ⟨rCMT_ADMIT_PLACE i, 4, 3⟩
abbrev rCMT_ADMIT_OPS (i : Nat) : Nat := 0x40f018 + 0x10000 * i
abbrev rCMT_ADMIT_LOAD (i : Nat) : Nat := 0x40f01c + 0x10000 * i
abbrev fCMT_ADMIT_LOAD_PERMILLE (i : Nat) : Fld := ⟨rCMT_ADMIT_LOAD i, 0, 11⟩
abbrev rCMT_ADMIT_INTAKE (i : Nat) : Nat := 0x40f020 + 0x10000 * i
abbrev rCMT_ADMIT_CELLS (i : Nat) : Nat := 0x40f024 + 0x10000 * i
abbrev fCMT_ADMIT_CELLS_CELLS (i : Nat) : Fld := ⟨rCMT_ADMIT_CELLS i, 0, 19⟩
abbrev rCMT_ADMIT_LP5X (i : Nat) : Nat := 0x40f028 + 0x10000 * i
abbrev rCMT_ADMIT_LATENCY (i j : Nat) : Nat := 0x40f030 + 0x10000 * i + 4 * j
abbrev rCMT_FRESH_CFG (i j : Nat) : Nat := 0x40f040 + 0x10000 * i + 4 * j
abbrev fCMT_FRESH_CFG_BUDGET_MS (i j : Nat) : Fld := ⟨rCMT_FRESH_CFG i j, 0, 10⟩
abbrev fCMT_FRESH_CFG_RECOVER (i j : Nat) : Fld := ⟨rCMT_FRESH_CFG i j, 10, 4⟩
abbrev rCMT_FRESH_STATUS (i j : Nat) : Nat := 0x40f050 + 0x10000 * i + 4 * j
abbrev fCMT_FRESH_STATUS_STALE (i j : Nat) : Fld := ⟨rCMT_FRESH_STATUS i j, 0, 1⟩
abbrev fCMT_FRESH_STATUS_EVER_FRESH (i j : Nat) : Fld := ⟨rCMT_FRESH_STATUS i j, 1, 1⟩
abbrev fCMT_FRESH_STATUS_VIOLATED (i j : Nat) : Fld := ⟨rCMT_FRESH_STATUS i j, 2, 1⟩
abbrev fCMT_FRESH_STATUS_AGE_MS (i j : Nat) : Fld := ⟨rCMT_FRESH_STATUS i j, 16, 16⟩
abbrev rCMT_EVENT (i : Nat) : Nat := 0x40f060 + 0x10000 * i
abbrev fCMT_EVENT_COMMIT_DONE (i : Nat) : Fld := ⟨rCMT_EVENT i, 0, 1⟩
abbrev fCMT_EVENT_COMMIT_REJECT (i : Nat) : Fld := ⟨rCMT_EVENT i, 1, 1⟩
abbrev fCMT_EVENT_COMMIT_LATE (i : Nat) : Fld := ⟨rCMT_EVENT i, 2, 1⟩
abbrev fCMT_EVENT_SHADOW_LOCKED (i : Nat) : Fld := ⟨rCMT_EVENT i, 3, 1⟩
abbrev fCMT_EVENT_STALE (i : Nat) : Fld := ⟨rCMT_EVENT i, 4, 4⟩
abbrev fCMT_EVENT_FRESH (i : Nat) : Fld := ⟨rCMT_EVENT i, 8, 4⟩
abbrev rCMT_EVENT_EN (i : Nat) : Nat := 0x40f064 + 0x10000 * i
abbrev fCMT_EVENT_EN_EN (i : Nat) : Fld := ⟨rCMT_EVENT_EN i, 0, 12⟩
abbrev rCV_ENABLE (i : Nat) : Nat := 0x600000 + 0x10000 * i
abbrev fCV_ENABLE_EN (i : Nat) : Fld := ⟨rCV_ENABLE i, 0, 1⟩
abbrev rCV_CFG (i : Nat) : Nat := 0x600004 + 0x10000 * i
abbrev fCV_CFG_TILE (i : Nat) : Fld := ⟨rCV_CFG i, 0, 3⟩
abbrev fCV_CFG_DEST (i : Nat) : Fld := ⟨rCV_CFG i, 3, 1⟩
abbrev fCV_CFG_SLICE (i : Nat) : Fld := ⟨rCV_CFG i, 4, 2⟩
abbrev fCV_CFG_SRC (i : Nat) : Fld := ⟨rCV_CFG i, 6, 3⟩
abbrev rCV_SIZE (i : Nat) : Nat := 0x600008 + 0x10000 * i
abbrev fCV_SIZE_W (i : Nat) : Fld := ⟨rCV_SIZE i, 0, 16⟩
abbrev fCV_SIZE_H (i : Nat) : Fld := ⟨rCV_SIZE i, 16, 16⟩
abbrev rCV_PERIOD (i : Nat) : Nat := 0x60000c + 0x10000 * i
abbrev rCV_PHASE (i : Nat) : Nat := 0x600010 + 0x10000 * i
abbrev rCV_STRIDE (i : Nat) : Nat := 0x600014 + 0x10000 * i
abbrev fCV_STRIDE_BYTES (i : Nat) : Fld := ⟨rCV_STRIDE i, 0, 24⟩
abbrev rCV_BACKGROUND (i : Nat) : Nat := 0x600018 + 0x10000 * i
abbrev fCV_BACKGROUND_RGB (i : Nat) : Fld := ⟨rCV_BACKGROUND i, 0, 24⟩
abbrev rCV_HATCH_A (i : Nat) : Nat := 0x60001c + 0x10000 * i
abbrev fCV_HATCH_A_RGB (i : Nat) : Fld := ⟨rCV_HATCH_A i, 0, 24⟩
abbrev rCV_HATCH_B (i : Nat) : Nat := 0x600020 + 0x10000 * i
abbrev fCV_HATCH_B_RGB (i : Nat) : Fld := ⟨rCV_HATCH_B i, 0, 24⟩
abbrev rCV_PEER (i : Nat) : Nat := 0x600024 + 0x10000 * i
abbrev fCV_PEER_DEV (i : Nat) : Fld := ⟨rCV_PEER i, 0, 6⟩
abbrev rCV_PEER_ADDR_LO (i : Nat) : Nat := 0x600028 + 0x10000 * i
abbrev fCV_PEER_ADDR_LO_ADDR (i : Nat) : Fld := ⟨rCV_PEER_ADDR_LO i, 6, 26⟩
abbrev rCV_PEER_ADDR_HI (i : Nat) : Nat := 0x60002c + 0x10000 * i
abbrev rCV_EVENT (i : Nat) : Nat := 0x600030 + 0x10000 * i
abbrev fCV_EVENT_DEFERRED (i : Nat) : Fld := ⟨rCV_EVENT i, 0, 1⟩
abbrev fCV_EVENT_HATCHED (i : Nat) : Fld := ⟨rCV_EVENT i, 1, 1⟩
abbrev fCV_EVENT_CFG_INVALID (i : Nat) : Fld := ⟨rCV_EVENT i, 2, 1⟩
abbrev rCV_EVENT_EN (i : Nat) : Nat := 0x600034 + 0x10000 * i
abbrev fCV_EVENT_EN_EN (i : Nat) : Fld := ⟨rCV_EVENT_EN i, 0, 3⟩
abbrev rCV_LAST_FRAME (i : Nat) : Nat := 0x600038 + 0x10000 * i
abbrev rCV_CNT (i : Nat) : Nat := 0x60003c + 0x10000 * i
abbrev fCV_CNT_DEFERRED (i : Nat) : Fld := ⟨rCV_CNT i, 0, 16⟩
abbrev rCV_VIEW_CTRL (i j : Nat) : Nat := 0x600100 + 0x10000 * i + 0x20 * j
abbrev fCV_VIEW_CTRL_EN (i j : Nat) : Fld := ⟨rCV_VIEW_CTRL i j, 0, 1⟩
abbrev fCV_VIEW_CTRL_STREAM (i j : Nat) : Fld := ⟨rCV_VIEW_CTRL i j, 1, 7⟩
abbrev rCV_VIEW_SRC_XY (i j : Nat) : Nat := 0x600104 + 0x10000 * i + 0x20 * j
abbrev fCV_VIEW_SRC_XY_XW (i j : Nat) : Fld := ⟨rCV_VIEW_SRC_XY i j, 0, 16⟩
abbrev fCV_VIEW_SRC_XY_YH (i j : Nat) : Fld := ⟨rCV_VIEW_SRC_XY i j, 16, 16⟩
abbrev rCV_VIEW_SIZE (i j : Nat) : Nat := 0x600108 + 0x10000 * i + 0x20 * j
abbrev fCV_VIEW_SIZE_XW (i j : Nat) : Fld := ⟨rCV_VIEW_SIZE i j, 0, 16⟩
abbrev fCV_VIEW_SIZE_YH (i j : Nat) : Fld := ⟨rCV_VIEW_SIZE i j, 16, 16⟩
abbrev rCV_VIEW_DST_XY (i j : Nat) : Nat := 0x60010c + 0x10000 * i + 0x20 * j
abbrev fCV_VIEW_DST_XY_XW (i j : Nat) : Fld := ⟨rCV_VIEW_DST_XY i j, 0, 16⟩
abbrev fCV_VIEW_DST_XY_YH (i j : Nat) : Fld := ⟨rCV_VIEW_DST_XY i j, 16, 16⟩
abbrev rCV_VIEW_BLEND (i j : Nat) : Nat := 0x600110 + 0x10000 * i + 0x20 * j
abbrev fCV_VIEW_BLEND_ALPHA (i j : Nat) : Fld := ⟨rCV_VIEW_BLEND i j, 0, 9⟩
abbrev fCV_VIEW_BLEND_BUDGET_MS (i j : Nat) : Fld := ⟨rCV_VIEW_BLEND i j, 16, 10⟩
abbrev rCV_VIEW_STATUS (i j : Nat) : Nat := 0x600114 + 0x10000 * i + 0x20 * j
abbrev fCV_VIEW_STATUS_HATCHED (i j : Nat) : Fld := ⟨rCV_VIEW_STATUS i j, 0, 5⟩
abbrev fCV_VIEW_STATUS_AGE_MS (i j : Nat) : Fld := ⟨rCV_VIEW_STATUS i j, 16, 16⟩
abbrev rCV_VIEW_FSN (i j : Nat) : Nat := 0x600118 + 0x10000 * i + 0x20 * j
abbrev rCV_KSLOT_KID (i : Nat) : Nat := 0x600400 + 0x10000 * i
abbrev fCV_KSLOT_KID_ID (i : Nat) : Fld := ⟨rCV_KSLOT_KID i, 0, 16⟩
abbrev rCV_KSLOT_PARAM (i : Nat) : Nat := 0x600404 + 0x10000 * i
abbrev rTILE_CTRL (i : Nat) : Nat := 0x800000 + 0x100000 * i
abbrev fTILE_CTRL_KEY (i : Nat) : Fld := ⟨rTILE_CTRL i, 0, 16⟩
abbrev fTILE_CTRL_FENCE (i : Nat) : Fld := ⟨rTILE_CTRL i, 16, 1⟩
abbrev rTILE_STATUS (i : Nat) : Nat := 0x800004 + 0x100000 * i
abbrev fTILE_STATUS_STATE (i : Nat) : Fld := ⟨rTILE_STATUS i, 0, 2⟩
abbrev fTILE_STATUS_HEALTHY (i : Nat) : Fld := ⟨rTILE_STATUS i, 8, 8⟩
abbrev fTILE_STATUS_CAUSE (i : Nat) : Fld := ⟨rTILE_STATUS i, 16, 4⟩
abbrev rTILE_LOAD (i : Nat) : Nat := 0x800008 + 0x100000 * i
abbrev rTILE_CAPACITY (i : Nat) : Nat := 0x80000c + 0x100000 * i
abbrev rTILE_INTAKE (i : Nat) : Nat := 0x800010 + 0x100000 * i
abbrev rTILE_SHELF_USED (i : Nat) : Nat := 0x800014 + 0x100000 * i
abbrev rTILE_HOSTED (i : Nat) : Nat := 0x800018 + 0x100000 * i
abbrev rTILE_TWINNED (i : Nat) : Nat := 0x80001c + 0x100000 * i
abbrev rTILE_EVENT (i : Nat) : Nat := 0x800020 + 0x100000 * i
abbrev fTILE_EVENT_RETRY (i : Nat) : Fld := ⟨rTILE_EVENT i, 0, 1⟩
abbrev fTILE_EVENT_UNRESOLVED (i : Nat) : Fld := ⟨rTILE_EVENT i, 1, 1⟩
abbrev fTILE_EVENT_WHEEL_FENCED (i : Nat) : Fld := ⟨rTILE_EVENT i, 2, 1⟩
abbrev fTILE_EVENT_DEADLINE_MISS (i : Nat) : Fld := ⟨rTILE_EVENT i, 3, 1⟩
abbrev fTILE_EVENT_READMITTED (i : Nat) : Fld := ⟨rTILE_EVENT i, 4, 1⟩
abbrev rTILE_EVENT_EN (i : Nat) : Nat := 0x800024 + 0x100000 * i
abbrev fTILE_EVENT_EN_EN (i : Nat) : Fld := ⟨rTILE_EVENT_EN i, 0, 5⟩
abbrev rTILE_CNT_A (i : Nat) : Nat := 0x800028 + 0x100000 * i
abbrev fTILE_CNT_A_RETRY_OK (i : Nat) : Fld := ⟨rTILE_CNT_A i, 0, 16⟩
abbrev fTILE_CNT_A_UNRESOLVED (i : Nat) : Fld := ⟨rTILE_CNT_A i, 16, 16⟩
abbrev rTILE_CNT_B (i : Nat) : Nat := 0x80002c + 0x100000 * i
abbrev fTILE_CNT_B_TIMEOUT (i : Nat) : Fld := ⟨rTILE_CNT_B i, 0, 16⟩
abbrev fTILE_CNT_B_DEADLINE_MISS (i : Nat) : Fld := ⟨rTILE_CNT_B i, 16, 16⟩
abbrev rTILE_CNT_C (i : Nat) : Nat := 0x800030 + 0x100000 * i
abbrev fTILE_CNT_C_DRAWER_CORR (i : Nat) : Fld := ⟨rTILE_CNT_C i, 0, 16⟩
abbrev fTILE_CNT_C_SHELF_CORR (i : Nat) : Fld := ⟨rTILE_CNT_C i, 16, 16⟩
abbrev rTILE_LAST_FENCED (i : Nat) : Nat := 0x800034 + 0x100000 * i
abbrev fTILE_LAST_FENCED_WHEEL (i : Nat) : Fld := ⟨rTILE_LAST_FENCED i, 0, 7⟩
abbrev fTILE_LAST_FENCED_VALID (i : Nat) : Fld := ⟨rTILE_LAST_FENCED i, 7, 1⟩
abbrev rTILE_WHEEL_FENCED (i j : Nat) : Nat := 0x800040 + 0x100000 * i + 4 * j
abbrev rLARDER_POOL_LIMIT : Nat := 0x1000000
abbrev fLARDER_POOL_LIMIT_CELLS : Fld := ⟨rLARDER_POOL_LIMIT, 0, 19⟩
abbrev rLARDER_POOL_RESERVED : Nat := 0x1000004
abbrev fLARDER_POOL_RESERVED_CELLS : Fld := ⟨rLARDER_POOL_RESERVED, 0, 19⟩
abbrev rLARDER_POOL_FREE : Nat := 0x1000008
abbrev fLARDER_POOL_FREE_CELLS : Fld := ⟨rLARDER_POOL_FREE, 0, 19⟩
abbrev rLARDER_RETIRED : Nat := 0x100000c
abbrev fLARDER_RETIRED_BOOT : Fld := ⟨rLARDER_RETIRED, 0, 16⟩
abbrev fLARDER_RETIRED_SERVICE : Fld := ⟨rLARDER_RETIRED, 16, 16⟩
abbrev rLARDER_EVENT : Nat := 0x1000010
abbrev fLARDER_EVENT_CORRECTED : Fld := ⟨rLARDER_EVENT, 0, 1⟩
abbrev fLARDER_EVENT_POISON : Fld := ⟨rLARDER_EVENT, 1, 1⟩
abbrev fLARDER_EVENT_LINK_PARITY : Fld := ⟨rLARDER_EVENT, 2, 1⟩
abbrev fLARDER_EVENT_OWNER_PARITY : Fld := ⟨rLARDER_EVENT, 3, 1⟩
abbrev fLARDER_EVENT_STARVED : Fld := ⟨rLARDER_EVENT, 4, 1⟩
abbrev fLARDER_EVENT_UNDERRUN : Fld := ⟨rLARDER_EVENT, 5, 1⟩
abbrev fLARDER_EVENT_PUSH_REFUSED : Fld := ⟨rLARDER_EVENT, 6, 1⟩
abbrev fLARDER_EVENT_RESERVE_REFUSED : Fld := ⟨rLARDER_EVENT, 7, 1⟩
abbrev fLARDER_EVENT_CFG_INVALID : Fld := ⟨rLARDER_EVENT, 8, 1⟩
abbrev fLARDER_EVENT_RETIRE_LIMIT : Fld := ⟨rLARDER_EVENT, 9, 1⟩
abbrev rLARDER_EVENT_EN : Nat := 0x1000014
abbrev fLARDER_EVENT_EN_EN : Fld := ⟨rLARDER_EVENT_EN, 0, 10⟩
abbrev rLARDER_CNT_ECC : Nat := 0x1000018
abbrev fLARDER_CNT_ECC_CORR : Fld := ⟨rLARDER_CNT_ECC, 0, 16⟩
abbrev fLARDER_CNT_ECC_UNCORR : Fld := ⟨rLARDER_CNT_ECC, 16, 16⟩
abbrev rLARDER_CNT_ERR : Nat := 0x100001c
abbrev fLARDER_CNT_ERR_PARITY : Fld := ⟨rLARDER_CNT_ERR, 0, 16⟩
abbrev fLARDER_CNT_ERR_STARVED : Fld := ⟨rLARDER_CNT_ERR, 16, 16⟩
abbrev rLARDER_CNT_FLOW : Nat := 0x1000020
abbrev fLARDER_CNT_FLOW_UNDERRUN : Fld := ⟨rLARDER_CNT_FLOW, 0, 16⟩
abbrev fLARDER_CNT_FLOW_PUSH_REFUSED : Fld := ⟨rLARDER_CNT_FLOW, 16, 16⟩
abbrev rLARDER_DEPTH (j : Nat) : Nat := 0x1001000 + 4 * j
abbrev fLARDER_DEPTH_SLICES (j : Nat) : Fld := ⟨rLARDER_DEPTH j, 0, 7⟩
abbrev rLARDER_G_CFG (j : Nat) : Nat := 0x1004000 + 0x10 * j
abbrev fLARDER_G_CFG_CONSUMER (j : Nat) : Fld := ⟨rLARDER_G_CFG j, 0, 1⟩
abbrev rLARDER_G_STATUS (j : Nat) : Nat := 0x1004004 + 0x10 * j
abbrev fLARDER_G_STATUS_EMPTY (j : Nat) : Fld := ⟨rLARDER_G_STATUS j, 0, 1⟩
abbrev fLARDER_G_STATUS_OPEN (j : Nat) : Fld := ⟨rLARDER_G_STATUS j, 1, 1⟩
abbrev fLARDER_G_STATUS_UNDERRUN (j : Nat) : Fld := ⟨rLARDER_G_STATUS j, 2, 1⟩
abbrev fLARDER_G_STATUS_OPEN_QUEUE (j : Nat) : Fld := ⟨rLARDER_G_STATUS j, 4, 12⟩
abbrev fLARDER_G_STATUS_MEMBERS (j : Nat) : Fld := ⟨rLARDER_G_STATUS j, 16, 5⟩
abbrev rLARDER_POP_LO (j : Nat) : Nat := 0x1008000 + 0x10 * j
abbrev rLARDER_POP_HI (j : Nat) : Nat := 0x1008004 + 0x10 * j
abbrev rLARDER_POP_TAG (j : Nat) : Nat := 0x1008008 + 0x10 * j
abbrev fLARDER_POP_TAG_END (j : Nat) : Fld := ⟨rLARDER_POP_TAG j, 0, 1⟩
abbrev fLARDER_POP_TAG_POISON (j : Nat) : Fld := ⟨rLARDER_POP_TAG j, 1, 1⟩
abbrev fLARDER_POP_TAG_UNDERRUN (j : Nat) : Fld := ⟨rLARDER_POP_TAG j, 2, 1⟩
abbrev fLARDER_POP_TAG_QUEUE (j : Nat) : Fld := ⟨rLARDER_POP_TAG j, 4, 12⟩
abbrev rLQ_CFG (i : Nat) : Nat := 0x1020000 + 0x20 * i
abbrev fLQ_CFG_EN (i : Nat) : Fld := ⟨rLQ_CFG i, 0, 1⟩
abbrev fLQ_CFG_DEVICE (i : Nat) : Fld := ⟨rLQ_CFG i, 1, 1⟩
abbrev fLQ_CFG_GROUP (i : Nat) : Fld := ⟨rLQ_CFG i, 2, 8⟩
abbrev fLQ_CFG_LEVEL (i : Nat) : Fld := ⟨rLQ_CFG i, 10, 3⟩
abbrev rLQ_RESERVE (i : Nat) : Nat := 0x1020004 + 0x20 * i
abbrev fLQ_RESERVE_CELLS (i : Nat) : Fld := ⟨rLQ_RESERVE i, 0, 19⟩
abbrev rLQ_CREDIT (i : Nat) : Nat := 0x1020008 + 0x20 * i
abbrev fLQ_CREDIT_CELLS (i : Nat) : Fld := ⟨rLQ_CREDIT i, 0, 19⟩
abbrev rLQ_WORDS (i : Nat) : Nat := 0x102000c + 0x20 * i
abbrev fLQ_WORDS_COUNT (i : Nat) : Fld := ⟨rLQ_WORDS i, 0, 24⟩
abbrev rLQ_PKTS (i : Nat) : Nat := 0x1020010 + 0x20 * i
abbrev fLQ_PKTS_COUNT (i : Nat) : Fld := ⟨rLQ_PKTS i, 0, 24⟩
abbrev rLQ_HEAD (i : Nat) : Nat := 0x1020014 + 0x20 * i
abbrev fLQ_HEAD_CELL (i : Nat) : Fld := ⟨rLQ_HEAD i, 0, 19⟩
abbrev fLQ_HEAD_WORD (i : Nat) : Fld := ⟨rLQ_HEAD i, 19, 5⟩
abbrev rLQ_TAIL (i : Nat) : Nat := 0x1020018 + 0x20 * i
abbrev fLQ_TAIL_CELL (i : Nat) : Fld := ⟨rLQ_TAIL i, 0, 19⟩
abbrev fLQ_TAIL_WORD (i : Nat) : Fld := ⟨rLQ_TAIL i, 19, 5⟩
abbrev fLQ_TAIL_IN_PACKET (i : Nat) : Fld := ⟨rLQ_TAIL i, 24, 1⟩
abbrev fLQ_TAIL_DISCARDING (i : Nat) : Fld := ⟨rLQ_TAIL i, 25, 1⟩
abbrev rLQ_CTRL (i : Nat) : Nat := 0x102001c + 0x20 * i
abbrev fLQ_CTRL_FLUSH (i : Nat) : Fld := ⟨rLQ_CTRL i, 0, 1⟩
abbrev fLQ_CTRL_BROKEN (i : Nat) : Fld := ⟨rLQ_CTRL i, 1, 1⟩
abbrev fLQ_CTRL_AUDIT (i : Nat) : Fld := ⟨rLQ_CTRL i, 2, 1⟩
abbrev rHOIST_CTRL (i : Nat) : Nat := 0x1100000 + 0x400 * i
abbrev fHOIST_CTRL_START (i : Nat) : Fld := ⟨rHOIST_CTRL i, 0, 1⟩
abbrev fHOIST_CTRL_STOP (i : Nat) : Fld := ⟨rHOIST_CTRL i, 1, 1⟩
abbrev fHOIST_CTRL_ENTRY (i : Nat) : Fld := ⟨rHOIST_CTRL i, 8, 6⟩
abbrev rHOIST_CFG (i : Nat) : Nat := 0x1100004 + 0x400 * i
abbrev fHOIST_CFG_PRIO (i : Nat) : Fld := ⟨rHOIST_CFG i, 0, 2⟩
abbrev fHOIST_CFG_RETRY (i : Nat) : Fld := ⟨rHOIST_CFG i, 2, 4⟩
abbrev fHOIST_CFG_WAIT_LIMIT_MS (i : Nat) : Fld := ⟨rHOIST_CFG i, 8, 8⟩
abbrev rHOIST_STATUS (i : Nat) : Nat := 0x1100008 + 0x400 * i
abbrev fHOIST_STATUS_STATE (i : Nat) : Fld := ⟨rHOIST_STATUS i, 0, 3⟩
abbrev fHOIST_STATUS_DEVICE (i : Nat) : Fld := ⟨rHOIST_STATUS i, 3, 1⟩
abbrev fHOIST_STATUS_PACE (i : Nat) : Fld := ⟨rHOIST_STATUS i, 4, 1⟩
abbrev fHOIST_STATUS_PC (i : Nat) : Fld := ⟨rHOIST_STATUS i, 8, 6⟩
abbrev fHOIST_STATUS_INFLIGHT (i : Nat) : Fld := ⟨rHOIST_STATUS i, 16, 13⟩
abbrev rHOIST_FAULT (i : Nat) : Nat := 0x110000c + 0x400 * i
abbrev rHOIST_FAULT_INFO (i : Nat) : Nat := 0x1100010 + 0x400 * i
abbrev fHOIST_FAULT_INFO_INSTR (i : Nat) : Fld := ⟨rHOIST_FAULT_INFO i, 0, 6⟩
abbrev fHOIST_FAULT_INFO_SPACE (i : Nat) : Fld := ⟨rHOIST_FAULT_INFO i, 6, 2⟩
abbrev fHOIST_FAULT_INFO_ATTEMPTS (i : Nat) : Fld := ⟨rHOIST_FAULT_INFO i, 8, 4⟩
abbrev rHOIST_FAULT_ADDR_LO (i : Nat) : Nat := 0x1100014 + 0x400 * i
abbrev rHOIST_FAULT_ADDR_HI (i : Nat) : Nat := 0x1100018 + 0x400 * i
abbrev rHOIST_MOVED (i : Nat) : Nat := 0x110001c + 0x400 * i
abbrev rHOIST_EVENT (i : Nat) : Nat := 0x1100020 + 0x400 * i
abbrev fHOIST_EVENT_END_IRQ (i : Nat) : Fld := ⟨rHOIST_EVENT i, 0, 1⟩
abbrev fHOIST_EVENT_HALTED (i : Nat) : Fld := ⟨rHOIST_EVENT i, 1, 1⟩
abbrev fHOIST_EVENT_COUNT_IRQ (i : Nat) : Fld := ⟨rHOIST_EVENT i, 2, 1⟩
abbrev fHOIST_EVENT_SIGNAL_IRQ (i : Nat) : Fld := ⟨rHOIST_EVENT i, 3, 1⟩
abbrev fHOIST_EVENT_RETRIED (i : Nat) : Fld := ⟨rHOIST_EVENT i, 4, 1⟩
abbrev fHOIST_EVENT_POISON (i : Nat) : Fld := ⟨rHOIST_EVENT i, 5, 1⟩
abbrev fHOIST_EVENT_CFG_IGNORED (i : Nat) : Fld := ⟨rHOIST_EVENT i, 6, 1⟩
abbrev fHOIST_EVENT_CFG_INVALID (i : Nat) : Fld := ⟨rHOIST_EVENT i, 7, 1⟩
abbrev rHOIST_EVENT_EN (i : Nat) : Nat := 0x1100024 + 0x400 * i
abbrev fHOIST_EVENT_EN_EN (i : Nat) : Fld := ⟨rHOIST_EVENT_EN i, 0, 8⟩
abbrev rHOIST_CNT (i : Nat) : Nat := 0x1100028 + 0x400 * i
abbrev fHOIST_CNT_RETRIED (i : Nat) : Fld := ⟨rHOIST_CNT i, 0, 16⟩
abbrev fHOIST_CNT_STALLS (i : Nat) : Fld := ⟨rHOIST_CNT i, 16, 16⟩
abbrev rHOIST_X (i j : Nat) : Nat := 0x1100040 + 0x400 * i + 4 * j
abbrev rHOIST_INSTR (i j : Nat) : Nat := 0x1100100 + 0x400 * i + 4 * j
abbrev rHOISTG_TAGS : Nat := 0x1140000
abbrev fHOISTG_TAGS_IN_USE : Fld := ⟨rHOISTG_TAGS, 0, 13⟩
abbrev fHOISTG_TAGS_PEAK : Fld := ⟨rHOISTG_TAGS, 16, 13⟩
abbrev rHOISTG_HALTED (j : Nat) : Nat := 0x1140020 + 4 * j
abbrev rHOISTG_PENDING (j : Nat) : Nat := 0x1140040 + 4 * j
abbrev rBRIDGE_CFG : Nat := 0x1200000
abbrev fBRIDGE_CFG_HOLD_MS : Fld := ⟨rBRIDGE_CFG, 0, 6⟩
abbrev fBRIDGE_CFG_DISCARD_MS : Fld := ⟨rBRIDGE_CFG, 6, 10⟩
abbrev rBRIDGE_STATUS : Nat := 0x1200004
abbrev fBRIDGE_STATUS_TICKETS : Fld := ⟨rBRIDGE_STATUS, 0, 7⟩
abbrev fBRIDGE_STATUS_ERRLOG_NEXT : Fld := ⟨rBRIDGE_STATUS, 8, 4⟩
abbrev fBRIDGE_STATUS_WRAPPED : Fld := ⟨rBRIDGE_STATUS, 12, 1⟩
abbrev rBRIDGE_EVENT : Nat := 0x1200008
abbrev fBRIDGE_EVENT_POSTED_FAIL : Fld := ⟨rBRIDGE_EVENT, 0, 1⟩
abbrev fBRIDGE_EVENT_SYNC_FAIL : Fld := ⟨rBRIDGE_EVENT, 1, 1⟩
abbrev fBRIDGE_EVENT_HOLD_EXPIRED : Fld := ⟨rBRIDGE_EVENT, 2, 1⟩
abbrev fBRIDGE_EVENT_DISCARDED : Fld := ⟨rBRIDGE_EVENT, 3, 1⟩
abbrev fBRIDGE_EVENT_QUEUE_FULL : Fld := ⟨rBRIDGE_EVENT, 4, 1⟩
abbrev fBRIDGE_EVENT_WIN_IGNORED : Fld := ⟨rBRIDGE_EVENT, 5, 1⟩
abbrev fBRIDGE_EVENT_LATE_RESPONSE : Fld := ⟨rBRIDGE_EVENT, 6, 1⟩
abbrev fBRIDGE_EVENT_CFG_INVALID : Fld := ⟨rBRIDGE_EVENT, 7, 1⟩
abbrev rBRIDGE_EVENT_EN : Nat := 0x120000c
abbrev fBRIDGE_EVENT_EN_EN : Fld := ⟨rBRIDGE_EVENT_EN, 0, 8⟩
abbrev rBRIDGE_CNT_A : Nat := 0x1200010
abbrev fBRIDGE_CNT_A_FAILED : Fld := ⟨rBRIDGE_CNT_A, 0, 16⟩
abbrev fBRIDGE_CNT_A_DISCARDED : Fld := ⟨rBRIDGE_CNT_A, 16, 16⟩
abbrev rBRIDGE_CNT_B : Nat := 0x1200014
abbrev fBRIDGE_CNT_B_HOLD_EXPIRED : Fld := ⟨rBRIDGE_CNT_B, 0, 16⟩
abbrev fBRIDGE_CNT_B_QUEUE_FULL : Fld := ⟨rBRIDGE_CNT_B, 16, 16⟩
abbrev rBRIDGE_PORT (j : Nat) : Nat := 0x1200040 + 4 * j
abbrev fBRIDGE_PORT_QUEUED (j : Nat) : Fld := ⟨rBRIDGE_PORT j, 0, 7⟩
abbrev fBRIDGE_PORT_SYNC_ERR (j : Nat) : Fld := ⟨rBRIDGE_PORT j, 8, 1⟩
abbrev rBRIDGE_ERRLOG_ADDR_LO (j : Nat) : Nat := 0x1200100 + 0x20 * j
abbrev rBRIDGE_ERRLOG_ADDR_HI (j : Nat) : Nat := 0x1200104 + 0x20 * j
abbrev rBRIDGE_ERRLOG_DATA_LO (j : Nat) : Nat := 0x1200108 + 0x20 * j
abbrev rBRIDGE_ERRLOG_DATA_HI (j : Nat) : Nat := 0x120010c + 0x20 * j
abbrev rBRIDGE_ERRLOG_INFO (j : Nat) : Nat := 0x1200110 + 0x20 * j
abbrev fBRIDGE_ERRLOG_INFO_KIND (j : Nat) : Fld := ⟨rBRIDGE_ERRLOG_INFO j, 0, 2⟩
abbrev fBRIDGE_ERRLOG_INFO_VALID (j : Nat) : Fld := ⟨rBRIDGE_ERRLOG_INFO j, 2, 1⟩
abbrev fBRIDGE_ERRLOG_INFO_PORT (j : Nat) : Fld := ⟨rBRIDGE_ERRLOG_INFO j, 8, 8⟩
abbrev fBRIDGE_ERRLOG_INFO_RESULT (j : Nat) : Fld := ⟨rBRIDGE_ERRLOG_INFO j, 16, 4⟩
abbrev fBRIDGE_ERRLOG_INFO_CAUSE (j : Nat) : Fld := ⟨rBRIDGE_ERRLOG_INFO j, 20, 4⟩
abbrev rBRIDGE_ERRLOG_TIME_LO (j : Nat) : Nat := 0x1200114 + 0x20 * j
abbrev rBRIDGE_ERRLOG_TIME_HI (j : Nat) : Nat := 0x1200118 + 0x20 * j
abbrev rBRIDGE_COLLECT_LO (j : Nat) : Nat := 0x1200400 + 8 * j
abbrev rBRIDGE_COLLECT_HI (j : Nat) : Nat := 0x1200404 + 8 * j
abbrev fBRIDGE_COLLECT_HI_RESULT (j : Nat) : Fld := ⟨rBRIDGE_COLLECT_HI j, 0, 4⟩
abbrev fBRIDGE_COLLECT_HI_STATE (j : Nat) : Fld := ⟨rBRIDGE_COLLECT_HI j, 4, 2⟩
abbrev fBRIDGE_COLLECT_HI_PORT (j : Nat) : Fld := ⟨rBRIDGE_COLLECT_HI j, 6, 5⟩
abbrev rBRIDGE_OUT_WIN_CTRL (j : Nat) : Nat := 0x1200800 + 0x20 * j
abbrev fBRIDGE_OUT_WIN_CTRL_EN (j : Nat) : Fld := ⟨rBRIDGE_OUT_WIN_CTRL j, 0, 1⟩
abbrev fBRIDGE_OUT_WIN_CTRL_PEER (j : Nat) : Fld := ⟨rBRIDGE_OUT_WIN_CTRL j, 1, 6⟩
abbrev rBRIDGE_OUT_WIN_STATUS (j : Nat) : Nat := 0x1200804 + 0x20 * j
abbrev fBRIDGE_OUT_WIN_STATUS_IDLE (j : Nat) : Fld := ⟨rBRIDGE_OUT_WIN_STATUS j, 0, 1⟩
abbrev fBRIDGE_OUT_WIN_STATUS_INFLIGHT (j : Nat) : Fld := ⟨rBRIDGE_OUT_WIN_STATUS j, 16, 16⟩
abbrev rBRIDGE_OUT_WIN_TARGET_LO (j : Nat) : Nat := 0x1200808 + 0x20 * j
abbrev fBRIDGE_OUT_WIN_TARGET_LO_ADDR (j : Nat) : Fld := ⟨rBRIDGE_OUT_WIN_TARGET_LO j, 20, 12⟩
abbrev rBRIDGE_OUT_WIN_TARGET_HI (j : Nat) : Nat := 0x120080c + 0x20 * j
abbrev rLANE_CTRL (i : Nat) : Nat := 0x1300000 + 0x10000 * i
abbrev fLANE_CTRL_EN (i : Nat) : Fld := ⟨rLANE_CTRL i, 0, 1⟩
abbrev fLANE_CTRL_FABRIC_EN (i : Nat) : Fld := ⟨rLANE_CTRL i, 1, 1⟩
abbrev fLANE_CTRL_RATE (i : Nat) : Fld := ⟨rLANE_CTRL i, 2, 1⟩
abbrev fLANE_CTRL_PRECODE (i : Nat) : Fld := ⟨rLANE_CTRL i, 3, 1⟩
abbrev fLANE_CTRL_TX_POL (i : Nat) : Fld := ⟨rLANE_CTRL i, 4, 1⟩
abbrev fLANE_CTRL_RX_POL (i : Nat) : Fld := ⟨rLANE_CTRL i, 5, 1⟩
abbrev rLANE_STATUS (i : Nat) : Nat := 0x1300004 + 0x10000 * i
abbrev fLANE_STATUS_TX_STATE (i : Nat) : Fld := ⟨rLANE_STATUS i, 0, 2⟩
abbrev fLANE_STATUS_RX_STATE (i : Nat) : Fld := ⟨rLANE_STATUS i, 2, 2⟩
abbrev fLANE_STATUS_SIGNAL (i : Nat) : Fld := ⟨rLANE_STATUS i, 4, 1⟩
abbrev fLANE_STATUS_CDR_LOCK (i : Nat) : Fld := ⟨rLANE_STATUS i, 5, 1⟩
abbrev fLANE_STATUS_ADAPT_DONE (i : Nat) : Fld := ⟨rLANE_STATUS i, 6, 1⟩
abbrev fLANE_STATUS_FREF_OK (i : Nat) : Fld := ⟨rLANE_STATUS i, 7, 1⟩
abbrev fLANE_STATUS_CAL_OK (i : Nat) : Fld := ⟨rLANE_STATUS i, 8, 1⟩
abbrev fLANE_STATUS_ABSENT (i : Nat) : Fld := ⟨rLANE_STATUS i, 9, 1⟩
abbrev rLANE_TX_EQ (i : Nat) : Nat := 0x1300008 + 0x10000 * i
abbrev fLANE_TX_EQ_PRE (i : Nat) : Fld := ⟨rLANE_TX_EQ i, 0, 5⟩
abbrev fLANE_TX_EQ_POST (i : Nat) : Fld := ⟨rLANE_TX_EQ i, 8, 5⟩
abbrev fLANE_TX_EQ_SWING (i : Nat) : Fld := ⟨rLANE_TX_EQ i, 16, 4⟩
abbrev rLANE_RX_EQ (i : Nat) : Nat := 0x130000c + 0x10000 * i
abbrev fLANE_RX_EQ_MODE (i : Nat) : Fld := ⟨rLANE_RX_EQ i, 0, 2⟩
abbrev fLANE_RX_EQ_CTLE (i : Nat) : Fld := ⟨rLANE_RX_EQ i, 4, 4⟩
abbrev rLANE_RX_EQ_STATUS (i : Nat) : Nat := 0x1300010 + 0x10000 * i
abbrev fLANE_RX_EQ_STATUS_CTLE (i : Nat) : Fld := ⟨rLANE_RX_EQ_STATUS i, 0, 4⟩
abbrev fLANE_RX_EQ_STATUS_GAIN (i : Nat) : Fld := ⟨rLANE_RX_EQ_STATUS i, 4, 8⟩
abbrev fLANE_RX_EQ_STATUS_DFE1 (i : Nat) : Fld := ⟨rLANE_RX_EQ_STATUS i, 12, 8⟩
abbrev rLANE_PWR (i : Nat) : Nat := 0x1300014 + 0x10000 * i
abbrev fLANE_PWR_TX_SLEEP_MAX (i : Nat) : Fld := ⟨rLANE_PWR i, 0, 2⟩
abbrev fLANE_PWR_RX_SLEEP_MAX (i : Nat) : Fld := ⟨rLANE_PWR i, 2, 2⟩
abbrev fLANE_PWR_TX_FORCE (i : Nat) : Fld := ⟨rLANE_PWR i, 4, 2⟩
abbrev fLANE_PWR_RX_FORCE (i : Nat) : Fld := ⟨rLANE_PWR i, 6, 2⟩
abbrev rLANE_EVENT (i : Nat) : Nat := 0x1300018 + 0x10000 * i
abbrev fLANE_EVENT_FREF_LOST (i : Nat) : Fld := ⟨rLANE_EVENT i, 0, 1⟩
abbrev fLANE_EVENT_LOCK_LOST (i : Nat) : Fld := ⟨rLANE_EVENT i, 1, 1⟩
abbrev fLANE_EVENT_ADAPT_FAIL (i : Nat) : Fld := ⟨rLANE_EVENT i, 2, 1⟩
abbrev fLANE_EVENT_SYNC_LOST (i : Nat) : Fld := ⟨rLANE_EVENT i, 3, 1⟩
abbrev fLANE_EVENT_INJECT_MISSION (i : Nat) : Fld := ⟨rLANE_EVENT i, 4, 1⟩
abbrev fLANE_EVENT_CFG_INVALID (i : Nat) : Fld := ⟨rLANE_EVENT i, 5, 1⟩
abbrev fLANE_EVENT_CFG_IGNORED (i : Nat) : Fld := ⟨rLANE_EVENT i, 6, 1⟩
abbrev rLANE_EVENT_EN (i : Nat) : Nat := 0x130001c + 0x10000 * i
abbrev fLANE_EVENT_EN_EN (i : Nat) : Fld := ⟨rLANE_EVENT_EN i, 0, 7⟩
abbrev rLANE_PATGEN (i : Nat) : Nat := 0x1300020 + 0x10000 * i
abbrev fLANE_PATGEN_EN (i : Nat) : Fld := ⟨rLANE_PATGEN i, 0, 1⟩
abbrev fLANE_PATGEN_PATTERN (i : Nat) : Fld := ⟨rLANE_PATGEN i, 1, 3⟩
abbrev rLANE_PATCHK (i : Nat) : Nat := 0x1300024 + 0x10000 * i
abbrev fLANE_PATCHK_EN (i : Nat) : Fld := ⟨rLANE_PATCHK i, 0, 1⟩
abbrev fLANE_PATCHK_PATTERN (i : Nat) : Fld := ⟨rLANE_PATCHK i, 1, 3⟩
abbrev fLANE_PATCHK_CLEAR (i : Nat) : Fld := ⟨rLANE_PATCHK i, 4, 1⟩
abbrev fLANE_PATCHK_SNAP (i : Nat) : Fld := ⟨rLANE_PATCHK i, 5, 1⟩
abbrev rLANE_INJECT (i : Nat) : Nat := 0x1300028 + 0x10000 * i
abbrev fLANE_INJECT_ONE (i : Nat) : Fld := ⟨rLANE_INJECT i, 0, 1⟩
abbrev fLANE_INJECT_RATE_EN (i : Nat) : Fld := ⟨rLANE_INJECT i, 1, 1⟩
abbrev fLANE_INJECT_RATE_LOG2 (i : Nat) : Fld := ⟨rLANE_INJECT i, 2, 6⟩
abbrev rLANE_USER_PAT_LO (i : Nat) : Nat := 0x130002c + 0x10000 * i
abbrev rLANE_USER_PAT_HI (i : Nat) : Nat := 0x1300030 + 0x10000 * i
abbrev rLANE_CHK_STATUS (i : Nat) : Nat := 0x1300034 + 0x10000 * i
abbrev fLANE_CHK_STATUS_SYNC (i : Nat) : Fld := ⟨rLANE_CHK_STATUS i, 0, 1⟩
abbrev fLANE_CHK_STATUS_SYNC_LOSS (i : Nat) : Fld := ⟨rLANE_CHK_STATUS i, 16, 16⟩
abbrev rLANE_INJ_COUNT (i : Nat) : Nat := 0x1300038 + 0x10000 * i
abbrev rLANE_SNAP_BITS_LO (i : Nat) : Nat := 0x1300040 + 0x10000 * i
abbrev rLANE_SNAP_BITS_HI (i : Nat) : Nat := 0x1300044 + 0x10000 * i
abbrev fLANE_SNAP_BITS_HI_BITS (i : Nat) : Fld := ⟨rLANE_SNAP_BITS_HI i, 0, 16⟩
abbrev rLANE_SNAP_SYM (i : Nat) : Nat := 0x1300048 + 0x10000 * i
abbrev rLANE_SNAP_BIT (i : Nat) : Nat := 0x130004c + 0x10000 * i
abbrev rLANE_LOOPBACK (i : Nat) : Nat := 0x1300100 + 0x10000 * i
abbrev fLANE_LOOPBACK_MODE (i : Nat) : Fld := ⟨rLANE_LOOPBACK i, 0, 2⟩
abbrev fLANE_LOOPBACK_TX_DRIVE (i : Nat) : Fld := ⟨rLANE_LOOPBACK i, 4, 1⟩
abbrev rFABRIC_CFG : Nat := 0x1400000
abbrev fFABRIC_CFG_LAYOUT : Fld := ⟨rFABRIC_CFG, 0, 2⟩
abbrev fFABRIC_CFG_EN : Fld := ⟨rFABRIC_CFG, 2, 1⟩
abbrev fFABRIC_CFG_AUTH_MODE : Fld := ⟨rFABRIC_CFG, 3, 1⟩
abbrev fFABRIC_CFG_ID_STRICT : Fld := ⟨rFABRIC_CFG, 4, 1⟩
abbrev fFABRIC_CFG_PRIORITY : Fld := ⟨rFABRIC_CFG, 8, 8⟩
abbrev fFABRIC_CFG_ID_REQ : Fld := ⟨rFABRIC_CFG, 16, 7⟩
abbrev rFABRIC_STATUS : Nat := 0x1400004
abbrev fFABRIC_STATUS_STATE : Fld := ⟨rFABRIC_STATUS, 0, 3⟩
abbrev fFABRIC_STATUS_IS_ROOT : Fld := ⟨rFABRIC_STATUS, 3, 1⟩
abbrev fFABRIC_STATUS_ID : Fld := ⟨rFABRIC_STATUS, 4, 6⟩
abbrev fFABRIC_STATUS_ID_VALID : Fld := ⟨rFABRIC_STATUS, 10, 1⟩
abbrev fFABRIC_STATUS_ROOT_ID : Fld := ⟨rFABRIC_STATUS, 11, 6⟩
abbrev fFABRIC_STATUS_DEVICES : Fld := ⟨rFABRIC_STATUS, 17, 7⟩
abbrev rFABRIC_TIMING : Nat := 0x1400008
abbrev fFABRIC_TIMING_TIMEOUT_US : Fld := ⟨rFABRIC_TIMING, 0, 14⟩
abbrev fFABRIC_TIMING_SYNC_PERIOD_US : Fld := ⟨rFABRIC_TIMING, 14, 14⟩
abbrev rFABRIC_EVENT : Nat := 0x140000c
abbrev fFABRIC_EVENT_PORT_UP : Fld := ⟨rFABRIC_EVENT, 0, 1⟩
abbrev fFABRIC_EVENT_PORT_DOWN : Fld := ⟨rFABRIC_EVENT, 1, 1⟩
abbrev fFABRIC_EVENT_AUTH_FAIL : Fld := ⟨rFABRIC_EVENT, 2, 1⟩
abbrev fFABRIC_EVENT_ROOT_CHANGED : Fld := ⟨rFABRIC_EVENT, 3, 1⟩
abbrev fFABRIC_EVENT_ID_CHANGED : Fld := ⟨rFABRIC_EVENT, 4, 1⟩
abbrev fFABRIC_EVENT_ROUTE_FAILOVER : Fld := ⟨rFABRIC_EVENT, 5, 1⟩
abbrev fFABRIC_EVENT_UNREACHABLE : Fld := ⟨rFABRIC_EVENT, 6, 1⟩
abbrev fFABRIC_EVENT_WIN_IGNORED : Fld := ⟨rFABRIC_EVENT, 7, 1⟩
abbrev fFABRIC_EVENT_PEER_BLOCK_BAD : Fld := ⟨rFABRIC_EVENT, 8, 1⟩
abbrev fFABRIC_EVENT_TIMEOUT : Fld := ⟨rFABRIC_EVENT, 9, 1⟩
abbrev fFABRIC_EVENT_DOORBELL : Fld := ⟨rFABRIC_EVENT, 10, 1⟩
abbrev fFABRIC_EVENT_CFG_INVALID : Fld := ⟨rFABRIC_EVENT, 11, 1⟩
abbrev fFABRIC_EVENT_CFG_IGNORED : Fld := ⟨rFABRIC_EVENT, 12, 1⟩
abbrev rFABRIC_EVENT_EN : Nat := 0x1400010
abbrev fFABRIC_EVENT_EN_EN : Fld := ⟨rFABRIC_EVENT_EN, 0, 13⟩
abbrev rFABRIC_CNT_A : Nat := 0x1400014
abbrev fFABRIC_CNT_A_REPLAYS : Fld := ⟨rFABRIC_CNT_A, 0, 16⟩
abbrev fFABRIC_CNT_A_FEC_UNCORR : Fld := ⟨rFABRIC_CNT_A, 16, 16⟩
abbrev rFABRIC_CNT_B : Nat := 0x1400018
abbrev fFABRIC_CNT_B_NO_WINDOW : Fld := ⟨rFABRIC_CNT_B, 0, 16⟩
abbrev fFABRIC_CNT_B_DENIED : Fld := ⟨rFABRIC_CNT_B, 16, 16⟩
abbrev rFABRIC_CNT_C : Nat := 0x140001c
abbrev fFABRIC_CNT_C_TIMEOUT : Fld := ⟨rFABRIC_CNT_C, 0, 16⟩
abbrev fFABRIC_CNT_C_PEER_NO_BUFFER : Fld := ⟨rFABRIC_CNT_C, 16, 16⟩
abbrev rFABRIC_ROOT_SERIAL_LO : Nat := 0x1400020
abbrev rFABRIC_ROOT_SERIAL_HI : Nat := 0x1400024
abbrev rFABRIC_PORT_CTRL (j : Nat) : Nat := 0x1400040 + 0x20 * j
abbrev fFABRIC_PORT_CTRL_SLEEP_EN (j : Nat) : Fld := ⟨rFABRIC_PORT_CTRL j, 0, 1⟩
abbrev fFABRIC_PORT_CTRL_DEEP_EN (j : Nat) : Fld := ⟨rFABRIC_PORT_CTRL j, 1, 1⟩
abbrev fFABRIC_PORT_CTRL_IDLE_US (j : Nat) : Fld := ⟨rFABRIC_PORT_CTRL j, 2, 10⟩
abbrev rFABRIC_PORT_STATUS (j : Nat) : Nat := 0x1400044 + 0x20 * j
abbrev fFABRIC_PORT_STATUS_STATE (j : Nat) : Fld := ⟨rFABRIC_PORT_STATUS j, 0, 3⟩
abbrev fFABRIC_PORT_STATUS_WIDTH (j : Nat) : Fld := ⟨rFABRIC_PORT_STATUS j, 3, 4⟩
abbrev fFABRIC_PORT_STATUS_NB_ID (j : Nat) : Fld := ⟨rFABRIC_PORT_STATUS j, 7, 6⟩
abbrev fFABRIC_PORT_STATUS_NB_ID_VALID (j : Nat) : Fld := ⟨rFABRIC_PORT_STATUS j, 13, 1⟩
abbrev fFABRIC_PORT_STATUS_PARENT (j : Nat) : Fld := ⟨rFABRIC_PORT_STATUS j, 14, 1⟩
abbrev rFABRIC_PORT_ASYM (j : Nat) : Nat := 0x1400048 + 0x20 * j
abbrev fFABRIC_PORT_ASYM_PS (j : Nat) : Fld := ⟨rFABRIC_PORT_ASYM j, 0, 16⟩
abbrev rFABRIC_PORT_CNT (j : Nat) : Nat := 0x140004c + 0x20 * j
abbrev fFABRIC_PORT_CNT_REPLAYS (j : Nat) : Fld := ⟨rFABRIC_PORT_CNT j, 0, 16⟩
abbrev fFABRIC_PORT_CNT_DOWN (j : Nat) : Fld := ⟨rFABRIC_PORT_CNT j, 16, 16⟩
abbrev rFABRIC_PORT_NB_SERIAL_LO (j : Nat) : Nat := 0x1400050 + 0x20 * j
abbrev rFABRIC_PORT_NB_SERIAL_HI (j : Nat) : Nat := 0x1400054 + 0x20 * j
abbrev rFABRIC_PORT_AUTH (j : Nat) : Nat := 0x1400058 + 0x20 * j
abbrev fFABRIC_PORT_AUTH_RESULT (j : Nat) : Fld := ⟨rFABRIC_PORT_AUTH j, 0, 2⟩
abbrev fFABRIC_PORT_AUTH_REASON (j : Nat) : Fld := ⟨rFABRIC_PORT_AUTH j, 2, 4⟩
abbrev rFABRIC_ALLOW_LO (j : Nat) : Nat := 0x1400100 + 8 * j
abbrev rFABRIC_ALLOW_HI (j : Nat) : Nat := 0x1400104 + 8 * j
abbrev rFABRIC_ROUTE (j : Nat) : Nat := 0x1400200 + 4 * j
abbrev fFABRIC_ROUTE_PRI_PORT (j : Nat) : Fld := ⟨rFABRIC_ROUTE j, 0, 2⟩
abbrev fFABRIC_ROUTE_PRI_VALID (j : Nat) : Fld := ⟨rFABRIC_ROUTE j, 2, 1⟩
abbrev fFABRIC_ROUTE_PRI_HOPS (j : Nat) : Fld := ⟨rFABRIC_ROUTE j, 3, 4⟩
abbrev fFABRIC_ROUTE_ALT_PORT (j : Nat) : Fld := ⟨rFABRIC_ROUTE j, 7, 2⟩
abbrev fFABRIC_ROUTE_ALT_VALID (j : Nat) : Fld := ⟨rFABRIC_ROUTE j, 9, 1⟩
abbrev fFABRIC_ROUTE_ALT_HOPS (j : Nat) : Fld := ⟨rFABRIC_ROUTE j, 10, 4⟩
abbrev fFABRIC_ROUTE_USING_ALT (j : Nat) : Fld := ⟨rFABRIC_ROUTE j, 14, 1⟩
abbrev fFABRIC_ROUTE_PINNED (j : Nat) : Fld := ⟨rFABRIC_ROUTE j, 15, 1⟩
abbrev fFABRIC_ROUTE_LOCAL (j : Nat) : Fld := ⟨rFABRIC_ROUTE j, 16, 1⟩
abbrev rFABRIC_IN_WIN_CTRL (j : Nat) : Nat := 0x1400400 + 0x40 * j
abbrev fFABRIC_IN_WIN_CTRL_EN (j : Nat) : Fld := ⟨rFABRIC_IN_WIN_CTRL j, 0, 1⟩
abbrev fFABRIC_IN_WIN_CTRL_SPACE (j : Nat) : Fld := ⟨rFABRIC_IN_WIN_CTRL j, 1, 2⟩
abbrev fFABRIC_IN_WIN_CTRL_READ_OK (j : Nat) : Fld := ⟨rFABRIC_IN_WIN_CTRL j, 3, 1⟩
abbrev fFABRIC_IN_WIN_CTRL_WRITE_OK (j : Nat) : Fld := ⟨rFABRIC_IN_WIN_CTRL j, 4, 1⟩
abbrev fFABRIC_IN_WIN_CTRL_DOORBELL (j : Nat) : Fld := ⟨rFABRIC_IN_WIN_CTRL j, 5, 1⟩
abbrev rFABRIC_IN_WIN_STATUS (j : Nat) : Nat := 0x1400404 + 0x40 * j
abbrev fFABRIC_IN_WIN_STATUS_IDLE (j : Nat) : Fld := ⟨rFABRIC_IN_WIN_STATUS j, 0, 1⟩
abbrev fFABRIC_IN_WIN_STATUS_INFLIGHT (j : Nat) : Fld := ⟨rFABRIC_IN_WIN_STATUS j, 16, 16⟩
abbrev rFABRIC_IN_WIN_BASE_LO (j : Nat) : Nat := 0x1400408 + 0x40 * j
abbrev fFABRIC_IN_WIN_BASE_LO_ADDR (j : Nat) : Fld := ⟨rFABRIC_IN_WIN_BASE_LO j, 12, 20⟩
abbrev rFABRIC_IN_WIN_BASE_HI (j : Nat) : Nat := 0x140040c + 0x40 * j
abbrev rFABRIC_IN_WIN_LIMIT_LO (j : Nat) : Nat := 0x1400410 + 0x40 * j
abbrev fFABRIC_IN_WIN_LIMIT_LO_LOW (j : Nat) : Fld := ⟨rFABRIC_IN_WIN_LIMIT_LO j, 0, 12⟩
abbrev fFABRIC_IN_WIN_LIMIT_LO_ADDR (j : Nat) : Fld := ⟨rFABRIC_IN_WIN_LIMIT_LO j, 12, 20⟩
abbrev rFABRIC_IN_WIN_LIMIT_HI (j : Nat) : Nat := 0x1400414 + 0x40 * j
abbrev rFABRIC_IN_WIN_TARGET_LO (j : Nat) : Nat := 0x1400418 + 0x40 * j
abbrev fFABRIC_IN_WIN_TARGET_LO_ADDR (j : Nat) : Fld := ⟨rFABRIC_IN_WIN_TARGET_LO j, 12, 20⟩
abbrev rFABRIC_IN_WIN_TARGET_HI (j : Nat) : Nat := 0x140041c + 0x40 * j
abbrev rFABRIC_IN_WIN_SRC_LO (j : Nat) : Nat := 0x1400420 + 0x40 * j
abbrev rFABRIC_IN_WIN_SRC_HI (j : Nat) : Nat := 0x1400424 + 0x40 * j
abbrev rFABRIC_WIN_EVENT (j : Nat) : Nat := 0x1401400 + 4 * j

end Sys2Proof.Machine
end

