-- ==== Sys2Proof/Machine/State.lean ====
section
/-!
DEFINITION. The state of the device: the registers of BAR0, the active copies of the shadowed ones,
and everything that the manual gives each block beside its registers. Plain data throughout.
-/

namespace Sys2Proof.Machine

/-- No command of this device ends in a fault: the manual gives every step an effect, a refusal that is
itself an effect (an event bit, a status), or nothing to do. No command raises one, so this type is empty. -/
inductive Fault where
  deriving DecidableEq, Repr

/-- Why a command is refused. -/
inductive Refusal where
  /-- The command has no meaning in this model; raised by exec's arm alone. Safe: nothing is claimed of it. -/
  | notModelled (mnemonic : String)
  deriving DecidableEq, Repr

/-! ### Power, reset and boot (spec/02, spec/03, spec/23) -/

/-- Where the device stands between reset and service (R36, R52, R57, R536). -/
inductive Phase where
  | inReset | booting | ready | failed | standbyEntry | standby
  deriving DecidableEq, Repr

/-- The events of the boot table (R52) that have taken place in this boot, and what they found; `library` holds
the loaded kernel library's major version above 16 bits of minor version. -/
structure BootDone where
  hubLocked : Bool := false
  rails : Bool := false
  bank : Bool := false
  island : Bool := false
  pcie : Bool := false
  larder : Bool := false
  startup : Bool := false
  convCal : Bool := false
  lp5x : Bool := false
  powered : Nat := 0
  tested : Nat := 0
  kernels : Bool := false
  sportCal : Nat := 0
  laneCal : Nat := 0
  pcieCal : Bool := false
  fref : Bool := false
  memOk : Nat := 0
  tadcCal : Nat := 0
  reduced : Bool := false
  kernelIds : List Nat := []
  library : Nat := 0
  deriving DecidableEq, Repr

/-- Supplies, reset inputs, straps, the power state and the domains' handshakes. `rails` has a bit for each optional rail in
the order of GLB.STRAPS (R557), and bit 7 for the mandatory ones together; `sawLow` says that PORST_N has been low (R36). -/
structure Pow where
  powered : Bool := true
  rails : Nat := 0xFF
  ioG : Nat := 0xF
  porst : Bool := false
  perst : Bool := false
  sawLow : Bool := true
  lowAt : Nat := 0
  perstLowAt : Nat := 0
  sampled : Bool := false
  sampledAt : Nat := 0
  straps : Nat := 0
  seqError : Bool := false
  seqLogged : Bool := false
  phase : Phase := .inReset
  selfRelease : Bool := false
  releaseAt : Nat := 0
  devReset : Bool := false
  resetAt : Nat := 0
  hubOn : Bool := false
  boot : BootDone := {}
  domTarget : KMap Nat := []
  drainAt : KMap Nat := []
  clamped : KMap Bool := []
  clkBad : KMap Bool := []
  deriving DecidableEq, Repr

/-! ### The Regulator (spec/05) -/

/-- A SYNC_IN follower; `period` and `epoch` count 1/256 ns (R113). -/
structure Follower where
  period : Int := 0
  epoch : Int := 0
  hasEpoch : Bool := false
  hits : Nat := 0
  everLocked : Bool := false
  deriving DecidableEq, Repr

/-- One set of schedule parameters (R106, R107). -/
structure SchedSet where
  src : Nat := 0
  mul : Nat := 0
  div : Nat := 0
  period : Nat := 0
  phase : Nat := 0
  width : Nat := 0
  burst : Nat := 0
  gap : Nat := 0
  illSrc : Nat := 0
  illOpen : Int := 0
  illClose : Int := 0
  illMax : Nat := 0
  deriving DecidableEq, Repr

/-- A trigger schedule: its active set, its epoch and the pulse it is at; times count 1/256 ns. -/
structure Sched where
  set : SchedSet := {}
  hasEpoch : Bool := false
  notBefore : Nat := 0
  epoch : Int := 0
  period : Int := 0
  k : Nat := 0
  i : Nat := 0
  next : Option Int := none
  high : Bool := false
  lastFall : Option Int := none
  windows : Nat := 0
  openAt : Nat := 0
  fsAt : Nat := 0
  deriving DecidableEq, Repr

/-- The latch of one requester path (R101): the pair whose lower half was read last and its upper half. -/
structure PairLatch where
  pair : Option Nat := none
  hi : Word := 0
  deriving DecidableEq, Repr

/-- Dial time, its steering, the followers, the schedules and the requester latches. -/
structure Regu where
  dial : Nat := 0
  frac : Int := 0
  steer : Int := 0
  slewLeft : Int := 0
  inBand : Nat := 0
  first : Bool := true
  follow : KMap Follower := []
  sched : KMap Sched := []
  ill : Nat := 0
  latchHost : PairLatch := {}
  latchMgt : PairLatch := {}
  latchIsl : PairLatch := {}
  deriving DecidableEq, Repr

/-! ### The safety island (spec/21) -/

/-- An event log record (R508), `committed` once it stands in the Attic. -/
structure LogRec where
  seq : Nat
  code : Nat
  time : Nat
  boot : Nat
  rep : Nat
  kind : Nat
  detail : Nat
  committed : Bool
  deriving DecidableEq, Repr

/-- A good delivered frame that the island holds for display confirmation (R505). -/
structure HeldFrame where
  fsn : Nat
  tally : Nat
  capture : Nat
  delivered : Nat
  budget : Nat
  deriving DecidableEq, Repr

/-- The safety island: the codes on their way to it, its log, the winding and the displayed views. -/
structure Isl where
  running : Bool := false
  inbox : List (Nat × Nat) := []
  log : List LogRec := []
  nextSeq : Nat := 1
  boot : Nat := 0
  windAt : Nat := 0
  windCount : Nat := 0
  windPeriod : Nat := 50
  forced : Bool := false
  fenceReq : Nat := 0
  sokA : Bool := false
  staleViews : List Nat := []
  mismatched : List Nat := []
  frames : KMap (List HeldFrame) := []
  confirmed : KMap Nat := []
  streamAt : KMap Nat := []
  ueTimes : KMap (List Nat) := []
  tempRun : KMap Nat := []
  warned : Bool := false
  hotAt : Nat := 0
  deriving DecidableEq, Repr

/-! ### PCI Express and the bridges (spec/16) -/

/-- A HOST read: who waits for it, the bytes that have arrived (R386), and whether it has failed. -/
structure HostRead where
  owner : ReadOwner
  addr : Nat
  size : Nat
  got : List Byte := []
  poison : Bool := false
  failed : Bool := false
  deriving DecidableEq, Repr

/-- The endpoint: the configuration space (its dwords that differ from their reset values), the
Inventory table, pending messages, outstanding reads, and the error messages sent (0 correctable, 1 non-fatal, 2 fatal). -/
structure Pcie where
  training : Bool := false
  configReady : Bool := false
  cfg : KMap Word := []
  inventory : List Byte := []
  clkreq : Bool := false
  msiPending : Nat := 0
  reads : KMap HostRead := []
  nextTag : Nat := 0
  errMsgs : List Nat := []
  deriving DecidableEq, Repr

/-- An access to a sensor window: 0 posted write, 1 synced write, 2 split read, 3 held read (R397 to
R400). `got` holds the bytes that have ended, `fail` the result of the first failing one, `lost` says that
nobody waits for it any more, `since` when it arrived. -/
structure BridgeAcc where
  kind : Nat
  port : Nat
  addr : Nat
  size : Nat
  data : List Byte
  ticket : Nat
  got : List Byte
  fail : Nat
  abort : Bool
  lost : Bool
  since : Nat := 0
  deriving DecidableEq, Repr

/-- A held read, or a posted write, of a fabric window (R403), keyed by its fabric tag. -/
structure HeldWin where
  win : Nat
  addr : Nat
  size : Nat
  expired : Bool
  since : Nat := 0
  data : List Byte := []
  deriving DecidableEq, Repr

/-- The sensor and fabric bridges. A queue holds pairs of an access and a byte number; `doneAt` says when a ticket reached
DONE. -/
structure Bridge where
  accs : KMap BridgeAcc := []
  nextAcc : Nat := 0
  queue : KMap (List (Nat × Nat)) := []
  wins : KMap HeldWin := []
  writes : KMap HeldWin := []
  doneAt : KMap Nat := []
  deriving DecidableEq, Repr

/-- What the device last answered to the requester of a read or of a bus command. -/
structure Reply where
  status : RStatus := .none
  data : List Byte := []
  deriving DecidableEq, Repr

/-- The freshness of one view (R192): `start` is the stream start, `newest` the capture time of the newest
good delivered frame, `run` the run count, `expired` that the budget has passed since `start` without a good frame. -/
structure Fresh where
  on : Bool := false
  start : Nat := 0
  newest : Option Nat := none
  run : Nat := 0
  stale : Bool := true
  budget : Nat := 100
  expired : Bool := false
  deriving DecidableEq, Repr

/-- The identity block: handles of the current and previous hallmark keys (R518), and the digests of measurement blocks 1 to 3,
fixed at boot (R517). -/
structure Ident where
  cur : Option Nat := none
  prev : Option Nat := none
  digests : List Nat := []
  deriving DecidableEq, Repr

/-! ### Rings (spec/15) -/

/-- A fetched command that has not completed: its ring, its fields and its payload. -/
structure Cmd where
  id : Nat
  ring : Nat
  opcode : Nat
  flags : Nat
  cid : Nat
  target : Nat
  arg0 : Nat
  arg1 : Nat
  addr : Nat
  len : Nat
  reserved : Bool
  payload : List Byte
  deriving DecidableEq, Repr

/-- A completion entry before its RING_HEAD and PHASE are known (R354); `irq` asks for a message. -/
structure CqEntry where
  cid : Nat
  kind : Nat
  idx : Nat
  status : Nat
  opcode : Nat
  r0 : Nat := 0
  r1 : Nat := 0
  r2 : Nat := 0
  detail : Nat := 0
  flags : Nat := 0
  irq : Bool := false
  deriving DecidableEq, Repr

/-- A completion ring beside its registers: its consumer index, its hold, and its coalescing. -/
structure Cq where
  head : Nat := 0
  hold : List CqEntry := []
  discarded : Nat := 0
  since : Nat := 0
  firstAt : Option Nat := none
  due : Bool := false
  deriving DecidableEq, Repr

/-- The rings: tails, the commands on their way, and the bindings of R359. `waiting` holds the fetched
commands that have not started, `open` every fetched command that has not completed. -/
structure Ring where
  crTail : KMap Nat := []
  srTail : KMap Nat := []
  cq : KMap Cq := []
  lastFetched : Nat := 15
  nextId : Nat := 0
  waiting : List Cmd := []
  opened : List Cmd := []
  bind : KMap Nat := []
  shadowReads : Nat := 0
  deriving DecidableEq, Repr

/-- One posted write on the PCIe link. -/
structure HostWrite where
  addr : Nat
  data : List Byte
  poisoned : Bool
  deriving DecidableEq, Repr

/-! ### Two-wire buses (spec/06) -/

/-- Who waits for a transaction of an SCC: the burst of a pipeline, or a byte of the bridge. -/
inductive SccWho where
  | esc (p : Nat)
  | bridge (acc byte : Nat)
  deriving DecidableEq, Repr

/-- The transaction that an SCC runs (R119). -/
structure SccTxn where
  who : SccWho
  write : Bool
  target : Nat
  addr16 : Bool
  addr : Nat
  data : List Byte
  deriving DecidableEq, Repr

/-- An SCC beside its registers: the transaction, its restarts after lost arbitration, whether it waits for a
free bus to restart, a lock asked for, how the lock ends after the transaction (1 by ACTIVE, 2 by
expiry), the recovery pass that waits for its repeat, and a RECOVER that waits. -/
structure Scc where
  cur : Option SccTxn := none
  restarts : Nat := 0
  again : Bool := false
  asked : Bool := false
  ending : Nat := 0
  waiting : Bool := false
  recover : Option BusCheck := none
  deriving DecidableEq, Repr

/-- MGT beside its registers: the mirror offset and whether the alert has been acknowledged. -/
structure Mgt where
  addr : Nat := 0
  ackedBits : Nat := 0
  deriving DecidableEq, Repr

/-! ### The Escapement (spec/07) -/

/-- A group descriptor (R144). -/
structure EscGroup where
  addr : Nat
  len : Nat
  delay : Nat
  embOff : Nat
  embFmt : Nat
  embLine : Nat
  deriving DecidableEq, Repr

/-- A working profile (R143). -/
structure EscProfile where
  addr16 : Bool
  hold : Bool
  verify : Bool
  target : Nat
  winOpen : Nat
  winClose : Nat
  holdAddr : Nat
  holdOn : Byte
  holdOff : Byte
  byteNs : Nat
  scc : Nat
  groups : List EscGroup
  deriving DecidableEq, Repr

/-- A pending ledger entry: `goal` is the target it was first given, `target` the one in force; `written`
lists the groups that a burst judged in time has written for that target (R146 to R155). -/
structure EscEntry where
  id : Nat
  cmd : Cmd
  tag : Nat
  submitted : Nat
  goal : Int
  target : Int
  noRetarget : Bool
  data : KMap (List Byte)
  nacks : Nat
  written : List Nat
  reached : Bool
  deriving DecidableEq, Repr

/-- One transaction of a burst: the hold writes, or a group of an entry. -/
inductive BurstTxn where
  | holdOn | holdOff
  | group (entry g : Nat)
  deriving DecidableEq, Repr

/-- A burst of frame `frame` (R148, R561). `next` is the transaction it is at, `sent` the groups that R156
counts as sent, `failed` the result that made it late. -/
structure Burst where
  frame : Int
  txns : List BurstTxn
  predicted : Nat
  latest : Int
  close : Int
  due : Bool
  running : Bool
  next : Nat
  sent : List (Nat × Nat)
  holdSent : Bool
  failed : Option Nat
  nacked : List Nat
  deriving DecidableEq, Repr

/-- The ledger's record of a frame (R158): its entry, its settings state, whether R156 left it
uncertain, and the group values of the planned entry and of the one before it. -/
structure LedgerRec where
  frame : Int
  entry : Nat
  state : Nat
  uncertain : Bool
  verified : Bool
  plan : KMap (List Byte)
  before : KMap (List Byte)
  beforeId : Nat
  deriving DecidableEq, Repr

/-- Frames `first` to `last` carry entry `entry` UNCERTAIN (R156). -/
structure Doubt where
  first : Int
  last : Int
  entry : Nat
  plan : KMap (List Byte)
  deriving DecidableEq, Repr

/-- The Escapement of one pipeline: `effect` and `values` are the entry in effect and the values last
written by entries in effect; `doubt` lists the frames that R156 leaves uncertain. -/
structure Esc where
  profile : Option EscProfile := none
  nextId : Nat := 1
  entries : List EscEntry := []
  effect : Nat := 0
  values : KMap (List Byte) := []
  bursts : List Burst := []
  doubt : List Doubt := []
  ledger : List LedgerRec := []
  deriving DecidableEq, Repr

/-! ### Commits and placement (spec/08, spec/12) -/

/-- The tiles on which a set is placed (R286). -/
structure Place where
  host : Option Nat := none
  twin : Option Nat := none
  deriving DecidableEq, Repr

/-- A commit that has not completed, in the order of fetch: `target` is 0 to 31 for a pipeline and 32 to 35
for a canvas, `fsn` its target frame; once armed, `goal` is the frame number it waits for and `place` the
placement of the armed set (R174 to R180). -/
structure CommitRec where
  cmd : Cmd
  target : Nat
  fsn : Nat
  next : Bool
  noRetarget : Bool
  armed : Bool := false
  late : Bool := false
  goal : Int := 0
  place : Place := {}
  deriving DecidableEq, Repr

/-! ### Frames, jobs and slices (spec/04, spec/08 to spec/12) -/

/-- What an output has made of a frame: slices written to its queue, the running content CRC, the flags of its
slice hallmarks ORed, whether every slice was twinned, DETAIL bits, whether a starved slice cut it, whether its
full hallmark has been handed to its queue, and whether the frame is done with. -/
structure OutFrame where
  sent : Nat := 0
  crc : Word := 0xFFFFFFFF#32
  flags : Nat := 0
  twin : Bool := true
  detail : Nat := 0
  cut : Bool := false
  ended : Bool := false
  delivered : Bool := false
  deriving DecidableEq, Repr

/-- An accepted frame of a pipeline. `cfg` is the active set that it uses, `lines` the image lines on the
shelf, `bad` the damaged ones, `seen` whether an image line (1) and line HEIGHT - 1 (2) arrived, `first` the first line number (R81),
`began` whether the top lines have been parsed, `fe` the time of its
end or truncation, `released` the front-end slices whose jobs have been released, `rel` the jobs of its other job
streams that have been, `dw` the dewarp buffer of each output; `halted` says that no more jobs are released; `feFlags` holds for each
front-end slice the FLAGS, and above them the DETAIL bits, that its lines bring to what is made from them. -/
structure Frame where
  n : Int
  fs : Nat
  port : Nat
  chan : Nat
  dt : Nat
  width : Nat
  height : Nat
  cfg : KMap Word
  gen : Nat
  kept : List Nat
  stats : Bool
  noSlices : Bool
  lines : List (List Nat) := []
  bad : List Nat := []
  damaged : Nat := 0
  seen : Nat := 0
  first : Option Nat := none
  began : Bool := false
  top : List (List Byte) := []
  bottom : List (List Byte) := []
  embBad : Bool := false
  embSkipped : Bool := false
  levels : Option (List Nat) := none
  vals : KMap Nat := []
  ignore : Bool := false
  truncated : Bool := false
  corrupt : Bool := false
  fe : Option Nat := none
  released : Nat := 0
  rel : KMap Nat := []
  dw : KMap Nat := []
  halted : Bool := false
  feFlags : KMap Nat := []
  outs : KMap OutFrame := []
  statsDone : Bool := false
  statsBad : Bool := false
  statsPoison : Bool := false
  deriving DecidableEq, Repr

/-- A channel of a port: the pipeline and number of its open frame, whether its lines are dropped until its
next frame start, the last frame number, and the line number that a line start packet gave. -/
structure PortChan where
  frame : Option (Nat × Int) := none
  skip : Bool := false
  skipEnd : Bool := false
  fn : Option Nat := none
  ls : Option Nat := none
  deriving DecidableEq, Repr

/-- A port beside its registers: its channels; whether its lanes have left stop state with no packet and no
deskew sequence since; how many lines of an LPORT frame have passed; and when PCLK was last seen. -/
structure Port where
  chan : KMap PortChan := []
  exited : Bool := false
  passed : Nat := 0
  pclk : Option Nat := none
  deriving DecidableEq, Repr

/-- A flicker reference (R259): the profile of the last accepted frame; none where a sample is unusable. -/
structure FlickRef where
  profile : List (Option Nat)
  fs : Nat
  usable : Bool
  deriving DecidableEq, Repr

/-- A pipeline beside its registers: its frames, oldest first, tracked black levels (U24.8), the parse fields
that have succeeded in this stream, decimation counters and last kept frame starts by output, the frame start of
the last accepted frame, the end of a moved pipeline's hold, the last effective releases by job
stream in 1/16 ns, the dewarp buffers written last, and the flicker state. -/
structure Pipe where
  frames : List Frame := []
  track : List Int := []
  parsed : List Nat := []
  decim : KMap Nat := []
  lastKept : KMap Nat := []
  force : List Nat := []
  statCnt : Nat := 0
  prevFs : Option Nat := none
  moved : Option Nat := none
  rEff : KMap Nat := []
  dwBuf : KMap Nat := []
  flick : Option FlickRef := none
  avg : KMap Nat := []
  refuse : Bool := false
  stopCmd : Option Cmd := none
  stopAt : Nat := 0
  deriving DecidableEq, Repr

/-- One stage of a job: its kernel slot, the output it serves (4 for none), the columns of its result, the window of
columns that it reads of the stage before with its context, that stage's position, the pieces it is cut into, and
their PIECE_LIMIT. -/
structure Stage where
  slot : Nat
  out : Nat
  width : Nat
  inAt : Nat
  inLen : Nat
  ctx : Nat
  prev : Option Nat
  pieces : Nat
  limit : Nat
  deriving DecidableEq, Repr

/-- A piece of a stage (R279); `failedOn` is the wheel that its first attempt failed on, `start` when it was
started. -/
structure Piece where
  job : Nat
  stage : Nat
  idx : Nat
  failedOn : Option Nat := none
  start : Nat := 0
  deriving DecidableEq, Repr

/-- A slice job: of front-end slice `k` of a pipeline (`kind` 0), of a dewarped output slice (1) or of a
canvas slice (2). `src` is the pipeline or canvas, `twin` marks the copy that runs on the twin tile.
`rEff` and `deadline` count 1/16 ns. `issued` lists the pieces made runnable so far, by stage and place, `ready`
those that wait for a wheel, `ended` those that have ended.
`spoilt` lists the stages with an unresolved piece, `poisoned` those reached by an uncorrectable error,
`retried` those with a piece whose retry passed; `twinned` says that a twin tally is awaited, `left` how many pieces
have not ended. `hatch` lists the views that are hatched in a canvas slice, `stale` those hatched for a cause other
than SOK. -/
structure Job where
  id : Nat
  kind : Nat
  src : Nat
  out : Nat
  frame : Int
  k : Nat
  tile : Nat
  twin : Bool
  rEff : Nat
  deadline : Nat
  stages : List Stage
  issued : List (Nat × Nat)
  ready : List Piece
  ended : List (Nat × Nat) := []
  spoilt : List Nat := []
  poisoned : List Nat := []
  retried : List Nat := []
  ingestBad : Bool := false
  twinned : Bool := false
  left : Nat := 0
  hatch : List Nat := []
  stale : List Nat := []
  deriving DecidableEq, Repr

/-- A tile beside its registers: the piece on each busy wheel, the times of the faults recorded against
each wheel, and the times of uncorrectable shelf errors. -/
structure TileSt where
  running : KMap Piece := []
  faults : KMap (List Nat) := []
  shelfUe : List Nat := []
  draining : List Nat := []
  deriving DecidableEq, Repr

/-- One line of an output slice: its number in the frame and its pixel bytes in each plane. -/
structure OutLine where
  y : Nat
  plane0 : List Byte
  plane1 : List Byte
  deriving DecidableEq, Repr

/-- A slice of output `o` (of stream `stream`) on its way to its queue. `flags` holds the POISONED, BAD,
TWIN and HATCHED bits decided so far; `deadline` counts 1/16 ns; `wait` says that its twin tally is awaited. -/
structure OutSlice where
  stream : Nat
  frame : Int
  lines : List OutLine
  tally : Word
  flags : Nat
  detail : Nat
  last : Bool
  deadline : Nat
  staleViews : Bool := false
  wait : Bool := false
  deriving DecidableEq, Repr

/-- A content tally that the twin tile has made, and whether it has arrived at the hub. -/
structure TwinTally where
  stream : Nat
  frame : Int
  firstLine : Nat
  tally : Word
  arrived : Bool := false
  deriving DecidableEq, Repr

/-- A packet that a producer writes into its queue (R304). `words` are those to be written, `sent` counts the words
written, and `tailed` says that the hallmark of a slice is among them. -/
inductive PktBody where
  | slice (x : OutSlice)
  | full (frame : Int)
  | stats (frame : Int) (bytes : List Byte) (poison : Bool)
  deriving DecidableEq, Repr

structure Pkt where
  body : PktBody
  words : List Nat := []
  sent : Nat := 0
  tailed : Bool := false
  deriving DecidableEq, Repr

/-! ### Canvases (spec/10) -/

/-- A buffer that a canvas view holds: its stream, buffer, base address, frame start stamp and FSN. -/
structure Latch where
  stream : Nat
  buf : Nat
  base : Nat
  fs : Nat
  fsn : Nat
  cfg : KMap Word
  deriving DecidableEq, Repr

/-- A pipeline that waits for re-admission (R294): `excl` is the tile concerned, `host` whether it needs a new
host tile. -/
structure Readmit where
  p : Nat
  excl : Nat
  host : Bool
  deriving DecidableEq, Repr

/-- A canvas frame; `hatched` lists the views hatched in any slice. -/
structure CvFrame where
  n : Nat
  start : Nat
  cfg : KMap Word
  gen : Nat
  latch : KMap Latch := []
  released : Nat := 0
  truncated : Bool := false
  ended : Bool := false
  fe : Nat := 0
  hatched : List Nat := []
  out : OutFrame := {}
  deriving DecidableEq, Repr

/-- A canvas beside its registers: its next frame number, frames oldest first, the views hatched in the last
released slice and those hatched for age. -/
structure Canvas where
  enabledAt : Nat := 0
  next : Nat := 0
  frames : List CvFrame := []
  hatchedNow : List Nat := []
  agedNow : List Nat := []
  lastRelease : Nat := 0
  deferred : Bool := false
  deriving DecidableEq, Repr

/-- The buffers of a frame store (R239, R240): those used, the one used longest ago first, the frame that the
newest good buffer holds, and whether old buffers still block a new layout. -/
structure FsStore where
  used : List Nat := []
  newest : Option Latch := none
  blocked : Bool := false
  deriving DecidableEq, Repr

/-! ### The Larder (spec/13) -/

/-- What a device packet is: its kind (0 slice, 1 full hallmark, 2 statistics), frame, first line and
content. -/
structure PktMeta where
  kind : Nat
  frame : Int
  first : Nat
  lines : List (Nat × Nat × Nat)
  deriving DecidableEq, Repr

/-- A stored word: its data, its END and POISON bits, the cell that holds it and its place there; `tag` says
what device packet begins with it. -/
structure LWord where
  data : Nat
  last : Bool
  poison : Bool
  cell : Nat
  pos : Nat
  tag : Option PktMeta := none
  deriving DecidableEq, Repr

/-- A queue beside its registers: its words, oldest first; its cells, head first, and how many words of the
tail cell are taken; the completion orders of its whole packets; the cells that a flush has still to give
back; whether its reservation is being released; and whether its producer is part-way through a packet or
its words are being discarded. -/
structure LQueue where
  words : List LWord := []
  cells : List Nat := []
  tailUsed : Nat := 0
  orders : List Nat := []
  flushing : Bool := false
  back : List Nat := []
  releasing : Bool := false
  inPkt : Bool := false
  discarding : Bool := false
  deriving DecidableEq, Repr

/-- A group: its open packet's queue, whether that packet was cut, and the last word delivered. -/
structure LGroup where
  opened : Option Nat := none
  cut : Bool := false
  lastWord : Nat := 0
  deriving DecidableEq, Repr

/-- The Larder: cells retired at boot and in service, cells to retire when they empty, and the completion
order of the next packet. -/
structure Larder where
  queue : KMap LQueue := []
  group : KMap LGroup := []
  stuck : List Nat := []
  retired : List Nat := []
  retire : List Nat := []
  order : Nat := 0
  deriving DecidableEq, Repr

/-! ### The Hoist (spec/14) -/

/-- An operation in flight, or one that waits to be issued again: `kind` 0 read of a MOVE, 1 write of a MOVE, 2 write of
a SIGNAL, 3 read of a LOAD, 4 write of a stream mover; `off` is its place in the MOVE, or the number of the mover's
frame; `ext` is its key at the endpoint or on the fabric, `since` when it was issued, or may be issued again. -/
structure HoistOp where
  tag : Nat
  kind : Nat
  space : Nat
  peer : Nat
  addr : Nat
  len : Nat
  off : Nat
  attempts : Nat
  data : List Byte := []
  poison : Bool := false
  ext : Nat := 0
  since : Nat := 0
  deriving DecidableEq, Repr

/-- The MOVE that a channel executes: its spaces and addresses, bytes whose reads have been issued, beats read by place
and which of them are poisoned, the words of a partly filled beat from the Larder with their poison, bytes written,
whether the END word of its packet has been read, and whether it waits for credit. -/
structure HoistMove where
  w0 : Nat
  len : Nat
  src : Nat
  dst : Nat
  asked : Nat := 0
  staged : KMap (List Byte) := []
  poisoned : List Nat := []
  part : List (Nat × Bool) := []
  written : Nat := 0
  ended : Bool := false
  stalled : Bool := false
  deriving DecidableEq, Repr

/-- A channel beside its registers: the index of the last WAIT, its MOVE, the register that a LOAD in flight loads, its
operations, those that wait for a retry, a STOP in progress, since when it waits, and the domain it is held for. -/
structure HChan where
  lastWait : Option Nat := none
  move : Option HoistMove := none
  load : Option Nat := none
  ops : List HoistOp := []
  retry : List HoistOp := []
  stopping : Bool := false
  since : Nat := 0
  heldFor : Nat := 0
  deriving DecidableEq, Repr

/-- The destination of a stream mover's frame: none, a stream ring buffer (`small` where it takes nothing), a frame
store buffer, or a peer's buffer. -/
inductive Dest where
  | none
  | host (ring base hm bufId : Nat) (irq small : Bool)
  | store (buf base : Nat)
  | peer (dev base hm bufId : Nat) (small : Bool)
  deriving DecidableEq, Repr

/-- A frame or statistics packet whose full hallmark or header has been written, and whose last write may still wait for
its acknowledgement; `kind` is 1 for a frame and 2 for statistics. -/
structure MoverDone where
  seq : Nat
  kind : Nat
  frame : Int
  fsn : Nat
  fs : Nat
  flags : Nat
  budget : Nat
  tally : Nat
  slices : Nat
  bytes : Nat
  dest : Dest
  deriving DecidableEq, Repr

/-- The stream mover of a device channel: the frame it is at and its destination, whether an egress tally differed or a
word was poisoned, the bytes and slices written, how many frames it has ended, and those not yet delivered. -/
structure Mover where
  frame : Option Int := none
  dest : Dest := .none
  marked : Bool := false
  poisoned : Bool := false
  bytes : Nat := 0
  slices : Nat := 0
  seq : Nat := 0
  done : List MoverDone := []
  deriving DecidableEq, Repr

/-- The Hoist: channels, stream movers, the channel last granted by each target port, and whether HOST waits for the
link after a PERST_N-scope reset (R338). -/
structure Hoist where
  chan : KMap HChan := []
  mover : KMap Mover := []
  turn : KMap Nat := []
  nextTag : Nat := 0
  waitHost : Bool := true
  deriving DecidableEq, Repr

/-! ### Fabric lanes (spec/17) -/

/-- A lane beside its registers: the rate and precoding in force since EN was set, whether the transmit PLL has
locked, the state that the fabric controller requests of each direction, whether a direction is waking, when its
initial adaptation began, since when its receiver is unlocked, and the live counters of its checker. -/
structure Lane where
  rate : Nat := 0
  precode : Nat := 0
  pll : Bool := false
  reqTx : Nat := 0
  reqRx : Nat := 0
  wakeTx : Bool := false
  wakeRx : Bool := false
  adapting : Option Nat := none
  unlockedAt : Option Nat := none
  bits : Nat := 0
  sym : Nat := 0
  bit : Nat := 0
  deriving DecidableEq, Repr

/-! ### The fabric (spec/18) -/

/-- Who waits for a request: a channel of the Hoist, or a fabric window of the bridge. -/
inductive FabOwner where
  | hoist (c : Nat)
  | window
  deriving DecidableEq, Repr

/-- A request that has not ended, keyed by its tag; `port` is the port that it left by, none while it is held back
(R442). -/
structure FabReq where
  owner : FabOwner
  pkt : FabPacket
  port : Option Nat
  sentAt : Nat
  deriving DecidableEq, Repr

/-- How a request has ended: `status` by R438, or 256 where it has timed out. -/
structure FabDone where
  owner : FabOwner
  dst : Nat
  write : Bool
  status : Nat
  data : List Byte
  poison : Bool
  deriving DecidableEq, Repr

/-- A port beside its registers: when it entered its state, the lanes in use, its neighbour's last HELLO, the
authentication steps sent and passed, and the link: sequence numbers, the replay store, packets that wait for a
flit, and what acknowledgements have said. -/
structure FabPort where
  since : Nat := 0
  lanes : List Nat := []
  hello : Option Hello := none
  helloAt : Nat := 0
  sentAt : Option Nat := none
  authSent : Nat := 0
  authStep : Nat := 0
  peer : Nat := 0
  seq : Nat := 0
  store : List (Nat × FabMsg) := []
  waiting : List FabMsg := []
  sinceReq : Nat := 0
  naks : Nat := 0
  ackAt : Nat := 0
  expect : Nat := 0
  gap : Bool := false
  unacked : Nat := 0
  unackedAt : Nat := 0
  dataAt : Nat := 0
  replayed : Bool := false
  asleep : Nat := 0
  deriving DecidableEq, Repr

/-- The peer control block of a peer stream as the device knows it (R453), and its next descriptor. -/
structure Peer where
  valid : Bool := false
  descBase : Nat := 0
  cplBase : Nat := 0
  size : Nat := 0
  tail : Nat := 0
  head : Nat := 0
  cplTail : Nat := 0
  notify : Nat := 0
  desc : Option (List Byte) := none
  polledAt : Nat := 0
  deriving DecidableEq, Repr

/-- The fabric controller: its ports, requests, and what it has sent by port, oldest first; when the best root key
last changed and whether it is stable; claims and grants passed on, by serial and sequence; the serials that hold the
IDs it has granted; the inbound reads that wait for the host; and the stamp t1 of the exchange in progress. -/
structure Fabric where
  port : KMap FabPort := []
  sent : List (Nat × FabMsg) := []
  reqs : KMap FabReq := []
  done : KMap FabDone := []
  nextTag : Nat := 0
  rootPrio : Nat := 0
  rootAt : Nat := 0
  stable : Bool := false
  seen : List (Nat × Nat) := []
  granted : KMap Nat := []
  seqNo : Nat := 0
  inbound : KMap (Nat × FabPacket) := []
  t1 : Option Nat := none
  syncAt : Nat := 0
  peer : KMap Peer := []
  deriving DecidableEq, Repr

/-! ### Tally units (spec/19) -/

/-- The active set of a tally unit (R463). -/
structure TallySet where
  width : Nat := 32
  poly : Nat := 0x1EDC6F41
  init : Nat := 0xFFFFFFFF
  refin : Bool := true
  refout : Bool := true
  xorout : Nat := 0xFFFFFFFF
  deriving DecidableEq, Repr

/-! ### The monitor converters (spec/20) -/

/-- A converter beside its registers: the regular entries of its pass, the regular conversion that it is at (0 the
plausibility conversion, 1 + i entry i), when its conversion starts, the injected entry that it is at, its injected runs,
the urgent triggers to come, when its calibration began and last ended, its last stuck conversion, whether it has failed
for good, and when its rest ends. -/
structure Conv where
  seq : List Nat := []
  cur : Option Nat := none
  start : Nat := 0
  inj : Option Nat := none
  injRun : Nat := 0
  due : List Nat := []
  calAt : Nat := 0
  calEnd : Nat := 0
  stuckAt : Option Nat := none
  dead : Bool := false
  rest : Option Nat := none
  deriving DecidableEq, Repr

/-- The converters, the plausibility results that wait for their pair, disagreements in a row, and when each ILS input
was last checked. -/
structure Madc where
  conv : KMap Conv := []
  plausA : Option Nat := none
  plausB : Option Nat := none
  disagree : Nat := 0
  ilsAt : KMap Nat := []
  deriving DecidableEq, Repr

/-! ### Identity and the Attic (spec/22) -/

/-- A session: its identifier and whether FINISH has completed it. -/
structure SpdmSession where
  id : Nat
  finished : Bool
  deriving DecidableEq, Repr

/-- A measurement block (R517): a digest, or the values that a raw block holds. -/
inductive Measure where
  | digest (index : Nat) (value : Nat)
  | raw (index : Nat) (values : List Nat)
  deriving DecidableEq, Repr

/-- An answer of the SPDM responder (R516): what it says, without the encoding of the SPDM specification. A signature, a
digest and a key are numbers that the manual does not give. -/
inductive SpdmAnswer where
  | version (minor : Nat)
  | capabilities (flags : List String)
  | algorithms (names : List String)
  | digests (slots : List Nat) (digest : Nat)
  | certificate (offset : Nat) (bytes : List Byte) (remainder : Nat)
  | challengeAuth (slot signature : Nat)
  | measurements (blocks : List Measure) (signature : Option Nat)
  | keyExchange (session : Nat)
  | finished (session : Nat)
  | heartbeat (session : Nat)
  | keyUpdated (session : Nat)
  | ended (session : Nat)
  | error (name : String)
  deriving DecidableEq, Repr

/-- The responder: how far the negotiation has come (1 version, 2 capabilities, 3 algorithms), its sessions and its last
answer. -/
structure Spdm where
  phase : Nat := 0
  sessions : List SpdmSession := []
  answer : Option SpdmAnswer := none
  deriving DecidableEq, Repr

/-- A bank update (R527): its partition (1 FIRMWARE), target bank, source, LENGTH, what it is at (0 the image check, 1
erasing, 2 programming the body, 3 reading back, 4 the header), the next sector or page, and the image's header and BODY_CRC
as the check read them. -/
structure AtticUpd where
  part : Nat
  bank : Nat
  src : Nat
  length : Nat
  step : Nat
  next : Nat
  crc : Nat
  header : List Byte
  deriving DecidableEq, Repr

/-- The Attic: bytes written since the model began, sectors erased since then, records that have been committed to the
event log, and the update in progress. -/
structure Attic where
  bytes : KMap Byte := []
  erased : List Nat := []
  logged : Nat := 0
  upd : Option AtticUpd := none
  deriving DecidableEq, Repr

/-- The device.

`pending` holds the commands that wait, first in first out, `now` the ns since the model began, and `taken` how many free
values have been used. `regs` lists the registers of BAR0 that differ from their reset values (R549, R555), `act` the active
copies of the shadowed ones (R167), and `written` the table words written since the last device reset (R222).

Then the blocks: `pow` (spec/02, 03, 23), `regu` (05), `isl` (21), `pcie`, `bridge` (16), `ident` (22), `scc` by bus and `mgt`
(06), `esc` by pipeline (07). `frameNo` and `frameAt` are the number and the dial time of the last accepted frame start of each
target (R80, R278), `started` the pipelines whose streams run (R360), `fresh` the freshness of each stream and view (R191).
`msgs` are the interrupt vectors sent (R370), `reply` the answer to the last request, `ring` the rings (15), `wire` the writes
sent to host memory. `place` is the placement of each target (R286), `commits` the commits in progress (R177), `port` the
sensor ports (04), `pipe` the pipelines (08 to 12), `jobs` and `nextJob` the released jobs (R276), `tile` the tiles (12),
`readmit` and `stops` the re-admissions and stops that wait (R294, R362), `twinWait` and `tallies` the slices and tallies of
twins (R291), `prod` the packets that producers are writing (R301), `canvas` the canvases and `fstore` the frame stores (10),
`larder` (13), `hoist` (14), `lane` (17), `fabric` (18), `mem` and `memPoison` LP5X memory and its poisoned beats (R336),
`tally` the tally units' active sets (R463), `madc` (20), `spdm` and `attic` (22). -/
structure State where
  pending : List Instr := []
  now : Nat := 0
  taken : Nat := 0
  regs : KMap Word := []
  act : KMap Word := []
  written : List Nat := []
  pow : Pow := {}
  regu : Regu := {}
  isl : Isl := {}
  pcie : Pcie := {}
  bridge : Bridge := {}
  ident : Ident := {}
  scc : KMap Scc := []
  mgt : Mgt := {}
  esc : KMap Esc := []
  frameNo : KMap Int := []
  frameAt : KMap Nat := []
  started : List Nat := []
  fresh : KMap Fresh := []
  msgs : List Nat := []
  reply : Reply := {}
  ring : Ring := {}
  wire : List HostWrite := []
  place : KMap Place := []
  commits : List CommitRec := []
  port : KMap Port := []
  pipe : KMap Pipe := []
  jobs : List Job := []
  nextJob : Nat := 0
  tile : KMap TileSt := []
  readmit : List Readmit := []
  stops : List (Nat × Nat) := []
  twinWait : List OutSlice := []
  tallies : List TwinTally := []
  prod : KMap (List Pkt) := []
  canvas : KMap Canvas := []
  fstore : KMap FsStore := []
  larder : Larder := {}
  hoist : Hoist := {}
  lane : KMap Lane := []
  fabric : Fabric := {}
  mem : List Host.Cell := []
  memPoison : List Nat := []
  tally : KMap TallySet := []
  madc : Madc := {}
  spdm : Spdm := {}
  attic : Attic := {}
  deriving DecidableEq, Repr

/-- The device right after reset (R48, R536): supplied, held by PORST_N low, every register at the reset value of its
chapter. Listed are the registers that manufacture sets (R514, R531) and the domains outside AON, which are OFF (R533). -/
def State.reset : State :=
  { regs := [(rIDENT_SERIAL_LO, BitVec.ofNat 32 Config.serialNumber),
      (rIDENT_SERIAL_HI, BitVec.ofNat 32 (Config.serialNumber / 2 ^ 32)), (rIDENT_ROLLBACK, Config.rollback)]
      ++ (List.range 17).map (fun d => (rPWR_DOM (d + 1), 12#32)) }

end Sys2Proof.Machine
end

