-- ==== Sys2Proof/Machine/Ops.lean ====
section
/-!
DEFINITION. The operations that every family shares: register fields, events and the interrupt
messages they send (R371, R372), saturating counters, fault codes on their way to the safety island
(R558) and free values.
-/

namespace Sys2Proof.Machine

/-- What a command answers when it does not stop. -/
abbrev Out := Host.Outcome State Fault Refusal

/-! ### Registers -/

/-- The word that the register at BAR0 offset `off` holds. -/
def State.reg (s : State) (off : Nat) : Word := (kget off s.regs).getD (resetWord off)

/-- The state with the register at `off` holding `w`. -/
def State.setReg (s : State) (off : Nat) (w : Word) : State :=
  { s with regs := kputD (resetWord off) off w s.regs }

/-- The register at `off` as a number. -/
def State.rn (s : State) (off : Nat) : Nat := (s.reg off).toNat

/-- The state with the register at `off` holding `v` modulo 2^32. -/
def State.setRn (s : State) (off v : Nat) : State := s.setReg off (BitVec.ofNat 32 v)

/-- The value of a field. -/
def State.fv (s : State) (f : Fld) : Nat := bitsOf (s.rn f.off) f.lsb f.width

/-- The state with a field holding `v`. -/
def State.setF (s : State) (f : Fld) (v : Nat) : State :=
  s.setRn f.off (putBits (s.rn f.off) f.lsb f.width v)

/-- Whether a field is not zero. -/
def State.on (s : State) (f : Fld) : Bool := s.fv f != 0

/-- The 64-bit value of a pair of registers. -/
def State.pair (s : State) (lo hi : Nat) : Nat := s.rn lo + s.rn hi * 2 ^ 32

/-- The state with a 64-bit value in a pair of registers. -/
def State.setPair (s : State) (lo hi v : Nat) : State :=
  (s.setRn lo v).setRn hi (v / 2 ^ 32)

/-- The state with a counter field one higher, saturating at its width. -/
def State.bump (s : State) (f : Fld) : State :=
  s.setF f (satTo (2 ^ f.width - 1) (s.fv f + 1))

/-- The state with a counter field `n` higher, saturating at its width. -/
def State.bumpBy (s : State) (f : Fld) (n : Nat) : State :=
  s.setF f (satTo (2 ^ f.width - 1) (s.fv f + n))

/-- The state with every register of offsets `lo` to `hi - 1` at its reset value. -/
def State.resetRegs (s : State) (lo hi : Nat) : State :=
  { s with regs := kfilter (fun o => !(decide (lo ≤ o) && decide (o < hi))) s.regs }

/-! ### Active sets (R167) -/

/-- The active copy of the shadowed register at `off`. -/
def State.areg (s : State) (off : Nat) : Word := (kget off s.act).getD (resetWord off)

/-- The active copy as a number. -/
def State.arn (s : State) (off : Nat) : Nat := (s.areg off).toNat

/-- A field of the active copy. -/
def State.av (s : State) (f : Fld) : Nat := bitsOf (s.arn f.off) f.lsb f.width

/-- Whether a field of the active copy is not zero. -/
def State.aon (s : State) (f : Fld) : Bool := s.av f != 0

/-- The enabled map entries, by port (0 to 31 SPORT, 32 to 35 LPORT) and channel, that name pipeline
`p` in a copy of the registers read by `rd` (R75, R98). -/
def mapEntries (rd : Nat → Nat) (p : Nat) : List (Nat × Nat) :=
  let hit (n k : Nat) : Bool :=
    let w := rd (rSPORT_VC_MAP n k)
    bitAt w 0 && bitsOf w 1 5 == p
  let sp := (List.range 32).flatMap (fun n =>
    ((List.range 16).filter (hit n)).map (fun k => (n, k)))
  let lp := (List.range 4).filter (fun m =>
    let w := rd (rLPORT_MAP m)
    bitAt w 0 && bitsOf w 1 5 == p)
  sp ++ lp.map (fun m => (32 + m, 0))

/-- The map entry of the active set that names pipeline `p`. -/
def mapOf (s : State) (p : Nat) : Option (Nat × Nat) := (mapEntries s.arn p).head?

/-! ### Domains and time -/

/-- Hub logic acts only while the HUB domain is up and its clocks have locked (R52, R533). -/
def hub (s t : State) : State := if s.pow.hubOn then t else s

/-- Logic of the always-on domain acts only while its supplies are within tolerance. -/
def aon (s t : State) : State := if s.pow.powered then t else s

/-- Dial time (R99). -/
def State.dial (s : State) : Nat := s.regu.dial

/-- The state of domain `d` (R533, R538): 0 is ON. -/
def domOn (s : State) (d : Nat) : Bool := s.fv (fPWR_DOM_STATE d) == 0

/-- The state with one more free value taken, and that value. -/
def takeFree (s : State) : Nat × State :=
  (Config.freeNat s.taken, { s with taken := s.taken + 1 })

/-! ### Interrupt sources (R371) -/

/-- The interrupt source of the block whose register lies at `off`. -/
def srcOf (off : Nat) : Option Nat :=
  if off < 0x10000 then some 225
  else if off < 0x20000 then none
  else if off < 0x40000 then some 226
  else if off < 0x80000 then some 227
  else if off < 0x90000 then some 220
  else if off < 0xA0000 then some 221
  else if off < 0xB0000 then some 222
  else if off < 0xC0000 then some 223
  else if off < 0xD0000 then none
  else if off < 0xE0000 then some 224
  else if off < 0x100000 then none
  else if off < 0x110000 then some 132
  else if off < 0x200000 then none
  else if off < 0x220000 then some (64 + (off - 0x200000) / 0x1000)
  else if off < 0x224000 then some (96 + (off - 0x220000) / 0x1000)
  else if off < 0x300000 then none
  else if off < 0x320000 then some (100 + (off - 0x300000) / 0x1000)
  else if off < 0x340100 then none
  else if off < 0x340500 then some (133 + (off - 0x340100) / 0x20)
  else if off < 0x400000 then none
  else if off < 0x600000 then some (165 + (off - 0x400000) / 0x10000)
  else if off < 0x640000 then some (197 + (off - 0x600000) / 0x10000)
  else if off < 0x800000 then none
  else if off < 0x1000000 then some (201 + (off - 0x800000) / 0x100000)
  else if off < 0x1100000 then some 209
  else if off < 0x1140000 then some (256 + (off - 0x1100000) / 0x400)
  else if off < 0x1200000 then none
  else if off < 0x1201000 then some 210
  else if off < 0x1300000 then none
  else if off < 0x1380000 then some (212 + (off - 0x1300000) / 0x10000)
  else if off < 0x1400000 then none
  else if off < 0x1410000 then some 211
  else none

/-- The EVENT and EVENT_EN registers whose AND makes source `src` pending. -/
def srcRegs (src : Nat) : List (Nat × Nat) :=
  if src < 64 then []
  else if src < 96 then [(rSPORT_EVENT (src - 64), rSPORT_EVENT_EN (src - 64))]
  else if src < 100 then [(rLPORT_EVENT (src - 96), rLPORT_EVENT_EN (src - 96))]
  else if src < 132 then [(rSCC_EVENT (src - 100), rSCC_EVENT_EN (src - 100))]
  else if src = 132 then [(rREGU_EVENT, rREGU_EVENT_EN)]
  else if src < 165 then [(rESCP_EVENT (src - 133), rESCP_EVENT_EN (src - 133))]
  else if src < 197 then
    let p := src - 165
    [(rFE_EVENT p, rFE_EVENT_EN p), (rSTATS_EVENT p, rSTATS_EVENT_EN p),
     (rKSCHED_EVENT p, rKSCHED_EVENT_EN p), (rCMT_EVENT p, rCMT_EVENT_EN p)]
  else if src < 201 then
    let c := src - 197
    [(rCV_EVENT c, rCV_EVENT_EN c), (rCMT_EVENT (32 + c), rCMT_EVENT_EN (32 + c))]
  else if src < 209 then [(rTILE_EVENT (src - 201), rTILE_EVENT_EN (src - 201))]
  else if src = 209 then [(rLARDER_EVENT, rLARDER_EVENT_EN)]
  else if src = 210 then [(rBRIDGE_EVENT, rBRIDGE_EVENT_EN)]
  else if src = 211 then [(rFABRIC_EVENT, rFABRIC_EVENT_EN)]
  else if src < 220 then [(rLANE_EVENT (src - 212), rLANE_EVENT_EN (src - 212))]
  else if src = 220 then [(rSAFE_EVENT, rSAFE_EVENT_EN)]
  else if src = 221 then
    (rMADCC_C_EVENT, rMADCC_C_EVENT_EN)
      :: (List.range 11).map (fun n => (rMADC_EVENT n, rMADC_EVENT_EN n))
  else if src = 222 then (List.range 16).map (fun u => (rTALLY_EVENT u, rTALLY_EVENT_EN u))
  else if src = 223 then [(rATTIC_EVENT, rATTIC_EVENT_EN)]
  else if src = 224 then [(rPWR_EVENT, rPWR_EVENT_EN)]
  else if src = 225 then [(rGLB_EVENT, rGLB_EVENT_EN)]
  else if src = 226 then [(rRING_EVENT, rRING_EVENT_EN)]
  else if src = 227 then [(rPCIE_EVENT, rPCIE_EVENT_EN)]
  else if src < 256 then []
  else if src < 512 then [(rHOIST_EVENT (src - 256), rHOIST_EVENT_EN (src - 256))]
  else []

/-- Whether the condition of source `src` holds (R371). -/
def srcPending (s : State) (src : Nat) : Bool :=
  if src < 64 then (kgetD {} src s.ring.cq).due
  else (srcRegs src).any (fun r => decide (s.reg r.1 &&& s.reg r.2 ≠ 0))

/-! ### Interrupt messages (R370) -/

/-- What the writable bits of a configuration dword hold at reset: the error severities and masks, and Device Control,
by the PCI Express Base Specification, and the size of BAR4. -/
def cfgInit (off : Nat) : Word :=
  if off = 0x078 then 0x2810 else if off = 0x108 then 0x400000 else if off = 0x10C then 0x462030
  else if off = 0x114 then 0x6000 else if off = 0x228 then 0x800 else 0

/-- The writable bits of a configuration dword. -/
def cfgWord (s : State) (off : Nat) : Word := kgetD (cfgInit off) off s.pcie.cfg

/-- Bus Master Enable. -/
def busMaster (s : State) : Bool := bitAt (cfgWord s 0x004).toNat 2

/-- The link carries requests of the device: DL_Active, D0 and Bus Master Enable (R338). -/
def hostUp (s : State) : Bool :=
  s.on fPCIE_LINK_STATUS_DL_ACTIVE && busMaster s
    && !(bitsOf (cfgWord s 0x044).toNat 0 2 == 3) && s.pow.hubOn

def msixOn (s : State) : Bool := bitAt (cfgWord s 0x0B0).toNat 31
def msiOn (s : State) : Bool := bitAt (cfgWord s 0x050).toNat 16
/-- The number of MSI vectors that the host enabled (Multiple Message Enable). -/
def msiVectors (s : State) : Nat := 2 ^ min 5 (bitsOf (cfgWord s 0x050).toNat 20 3)

/-- A message of vector `v` is sent, or is kept pending while it is masked (R370). -/
def sendVector (s : State) (v : Nat) : State :=
  if msixOn s then
    if bitAt (cfgWord s 0x0B0).toNat 30 || s.on (fMSIX_CTRL_MASK v) then
      s.setF ⟨rPBA_PENDING (v / 32), v % 32, 1⟩ 1
    else if hostUp s then { s with msgs := s.msgs ++ [v] } else s
  else if msiOn s then
    let u := v % msiVectors s
    if bitAt (cfgWord s 0x060).toNat u then
      { s with pcie := { s.pcie with msiPending := putBits s.pcie.msiPending u 1 1 } }
    else if hostUp s then { s with msgs := s.msgs ++ [u] } else s
  else s

/-- The message of interrupt source `src`, by its routing register. -/
def sendMsg (s : State) (src : Nat) : State := sendVector s (s.fv (fRING_INT_ROUTE_VECTOR src))

/-- The pending state of a source follows its condition; a change to pending sends a message when
the source is enabled (R372). -/
def irqEval (s : State) (src : Nat) : State :=
  let was := s.on (fRING_INT_ROUTE_PENDING src)
  let now := srcPending s src
  let t := s.setF (fRING_INT_ROUTE_PENDING src) (b2n now)
  if now && !was && s.on (fRING_INT_ROUTE_EN src) then sendMsg t src else t

/-- The source is evaluated after a write that cleared an event bit: a source still pending sends one
more message (R372). -/
def irqAgain (s : State) (src : Nat) : State :=
  let now := srcPending s src
  let t := s.setF (fRING_INT_ROUTE_PENDING src) (b2n now)
  if now && s.on (fRING_INT_ROUTE_EN src) then sendMsg t src else t

/-- The block of the register at `off` has a changed event register. -/
def irqOff (s : State) (off : Nat) : State :=
  match srcOf off with
  | some src => irqEval s src
  | none => s

/-- An event bit is set. -/
def State.ev (s : State) (f : Fld) : State := irqOff (s.setF f 1) f.off

/-- An event bit is set when `c` holds. -/
def State.evIf (s : State) (c : Bool) (f : Fld) : State := if c then s.ev f else s

/-! ### Fault codes (R558) -/

/-- A fault code: class, instance and code. -/
def faultCode (cls inst code : Nat) : Nat := cls * 2 ^ 24 + inst % 256 * 2 ^ 16 + code % 2 ^ 16

/-- A block reports a fault code; the safety island receives it in a step of its own
(FAULT_CODE_RECEIVED). -/
def State.report (s : State) (cls inst code : Nat) (detail : Nat := 0) : State :=
  { s with isl := { s.isl with inbox := s.isl.inbox ++ [(faultCode cls inst code, detail)] } }

/-- A block reports a fault code when `c` holds. -/
def State.reportIf (s : State) (c : Bool) (cls inst code : Nat) (detail : Nat := 0) : State :=
  if c then s.report cls inst code detail else s

/-! ### Answers -/

/-- What the device answers to the requester. -/
def State.answer (s : State) (st : RStatus) (bs : List Byte) : State :=
  { s with reply := ⟨st, bs⟩ }

end Sys2Proof.Machine
end

