-- ==== Sys2Proof/Machine/FrontEnd.lean ====
section
/-!
DEFINITION. The front end (spec/09_front_end.md): input conversion, black level, defects, decompanding,
lens shading, white balance, colour reconstruction, the colour/IR matrix, the tone curve and noise
reduction, as functions of a picture and of the configuration that its frame uses (R202).
-/

namespace Sys2Proof.Machine

/-- What a configuration holds in the register at a BAR0 offset. -/
abbrev Cfg := Nat → Nat

/-- The value of a field in a configuration. -/
def Cfg.f (rd : Cfg) (f : Fld) : Nat := bitsOf (rd f.off) f.lsb f.width
/-- Whether a field of a configuration is not zero. -/
def Cfg.on (rd : Cfg) (f : Fld) : Bool := rd.f f != 0

/-- A picture of one value per pixel, line by line. -/
abbrev Plane := List (List Nat)
/-- A picture of several components per pixel. -/
abbrev Pic := List (List (List Nat))

/-! ### Definitions of R198 -/

/-- `rnd(a, n)`. -/
def rnd (a n : Int) : Int := (a + n / 2) / n
def clamp20 (a : Int) : Nat := (clampInt 0 1048575 a).toNat
def clamp16 (a : Int) : Nat := (clampInt 0 65535 a).toNat

def sumInt : List Int → Int
  | [] => 0
  | x :: xs => x + sumInt xs

/-- `f` over a list with the position of each element, from position `i`. -/
def mapFrom {α β : Type} (f : Nat → α → β) : Nat → List α → List β
  | _, [] => []
  | i, x :: xs => f i x :: mapFrom f (i + 1) xs

/-- `f` over every pixel, with its column and line. -/
def mapPix {α β : Type} (f : Nat → Nat → α → β) (img : List (List α)) : List (List β) :=
  mapFrom (fun y row => mapFrom (fun x v => f x y v) 0 row) 0 img

/-- The sample at a column and a line; none outside the picture (R198). -/
def pixAt {α : Type} (img : List (List α)) (x y : Int) : Option α :=
  if x < 0 || y < 0 then none else (img[y.toNat]?).bind (fun row => row[x.toNat]?)

/-- The positions of the square window of `2 r + 1` around a pixel, line by line. -/
def window (r : Nat) (x y : Int) : List (Int × Int) :=
  let ds := (List.range (2 * r + 1)).map (fun i => Int.ofNat i - Int.ofNat r)
  ds.flatMap (fun dy => ds.map (fun dx => (x + dx, y + dy)))

def fourAround (x y : Int) : List (Int × Int) := [(x - 1, y), (x + 1, y), (x, y - 1), (x, y + 1)]

/-! ### Input (R73, R88, R196, R197) -/

/-- What arrives on a pipeline: raw samples, YUV422, or RGB; the width N (or the component width of
YUV), shelf samples per pixel, and pixels per group. -/
structure InFmt where
  kind : Nat
  bits : Nat
  per : Nat
  group : Nat
  deriving DecidableEq, Repr

def InFmt.raw (f : InFmt) : Bool := f.kind == 0

/-- The image data types of R73; kind 0 raw, 1 YUV422, 2 RGB565, 3 RGB888. -/
def dtFmt (dt : Nat) : Option InFmt :=
  if dt = 0x28 then some ⟨0, 6, 1, 4⟩ else if dt = 0x29 then some ⟨0, 7, 1, 8⟩
  else if dt = 0x2A then some ⟨0, 8, 1, 1⟩ else if dt = 0x2B then some ⟨0, 10, 1, 4⟩
  else if dt = 0x2C then some ⟨0, 12, 1, 2⟩ else if dt = 0x2D then some ⟨0, 14, 1, 4⟩
  else if dt = 0x2E then some ⟨0, 16, 1, 1⟩ else if dt = 0x2F then some ⟨0, 20, 2, 2⟩
  else if dt = 0x27 then some ⟨0, 24, 2, 1⟩ else if dt = 0x1E then some ⟨1, 8, 2, 2⟩
  else if dt = 0x1F then some ⟨1, 10, 2, 2⟩ else if dt = 0x22 then some ⟨2, 6, 3, 1⟩
  else if dt = 0x24 then some ⟨3, 8, 3, 1⟩ else none

/-- The width that LPORT CTRL.BITS selects. -/
def lportBits (b : Nat) : Nat := match b with | 0 => 8 | 1 => 10 | 2 => 12 | 3 => 14 | _ => 16

/-- The formats of R88. -/
def lportFmt (rd : Cfg) (m : Nat) : InFmt :=
  if rd.f (fLPORT_CTRL_FORMAT m) = 0 then ⟨0, lportBits (rd.f (fLPORT_CTRL_BITS m)), 1, 1⟩
  else ⟨1, 8, 2, 2⟩

/-- What the map entry of port `n` (32 and above an LPORT) and channel `k` declares. -/
def entryFmt (rd : Cfg) (n k : Nat) : Option InFmt :=
  if n < 32 then dtFmt (rd.f (fSPORT_VC_MAP_DT n k)) else some (lportFmt rd (n - 32))

/-- WIDTH and HEIGHT that a map entry declares (R77). -/
def entryGeom (rd : Cfg) (n k : Nat) : Nat × Nat :=
  if n < 32 then (rd.f (fSPORT_VC_GEOM_WIDTH n k), rd.f (fSPORT_VC_GEOM_HEIGHT n k))
  else (rd.f (fLPORT_GEOM_WIDTH (n - 32)), rd.f (fLPORT_GEOM_HEIGHT (n - 32)))

/-- EMB_TOP and EMB_BOTTOM of a map entry (R78). -/
def entryEmb (rd : Cfg) (n k : Nat) : Nat × Nat :=
  if n < 32 then (rd.f (fSPORT_VC_MAP_EMB_TOP n k), rd.f (fSPORT_VC_MAP_EMB_BOTTOM n k))
  else (rd.f (fLPORT_MAP_EMB_TOP (n - 32)), 0)

/-- The codes of a raw line (R196). -/
def rawLine (f : InFmt) (samples : List Nat) : List Nat :=
  if f.per = 2 then (chunks 2 samples).map (fun g => g.headD 0 + (g.tail.headD 0) * 65536) else samples

/-- Step 1 for YUV and RGB inputs: U20 components (R197). -/
def compLine (f : InFmt) (samples : List Nat) : List (List Nat) :=
  let w (i : Nat) : Nat := if f.kind = 2 then (if i = 1 then 6 else 5) else f.bits
  (chunks f.per samples).map (fun g => mapFrom (fun i v => v * 2 ^ (20 - w i)) 0 g)

/-! ### The CFA map and the classes (R213, R214) -/

/-- The code of position `q` of the 4 × 4 tile. -/
def cfaCode (rd : Cfg) (p q : Nat) : Nat :=
  if q < 10 then bitsOf (rd (rFE_CFA_MAP_LO p)) (3 * q) 3
  else bitsOf (rd (rFE_CFA_MAP_HI p)) (3 * (q - 10)) 3

/-- The code of the pixel at (x, y). -/
def cfaAt (codes : List Nat) (x y : Nat) : Nat := codes.getD (4 * (y % 4) + x % 4) 0

def cfaCodes (rd : Cfg) (p : Nat) : List Nat := (List.range 16).map (cfaCode rd p)

def cfaCount (codes : List Nat) (c : Nat) : Nat := (codes.filter (fun d => d == c)).length

/-- Positions (x, y) of the tile. -/
def tilePos : List (Nat × Nat) := (List.range 16).map (fun q => (q % 4, q / 4))

def cfaPeriod2 (codes : List Nat) : Bool := tilePos.all (fun t =>
  cfaAt codes t.1 t.2 == cfaAt codes (t.1 + 2) t.2 && cfaAt codes t.1 t.2 == cfaAt codes t.1 (t.2 + 2))

def cfaChecker (codes : List Nat) (c : Nat) : Bool :=
  tilePos.all (fun t => (cfaAt codes t.1 t.2 == c) == ((t.1 + t.2) % 2 == 0))
    || tilePos.all (fun t => (cfaAt codes t.1 t.2 == c) == ((t.1 + t.2) % 2 == 1))

/-- The class of a map; none where no row matches. -/
def rawClass (codes : List Nat) : Option Nat :=
  let n := cfaCount codes
  let p2 := cfaPeriod2 codes
  if n 6 + n 7 ≠ 0 then none
  else if n 3 = 16 || n 5 = 16 then some 0
  else if p2 && n 0 == 4 && n 1 == 8 && cfaChecker codes 1 && n 2 == 4 then some 1
  else if p2 && n 0 == 4 && n 3 == 8 && cfaChecker codes 3 && n 2 == 4 then some 2
  else if p2 && n 0 == 4 && n 3 == 12 then some 3
  else if p2 && n 0 == 4 && n 1 == 4 && n 2 == 4 && n 4 == 4 then some 4
  else if !p2 && n 1 == 8 && cfaChecker codes 1 && n 0 == 2 && n 2 == 2 && n 4 == 4 then some 5
  else if !p2 && n 3 == 8 && cfaChecker codes 3 && n 0 == 2 && n 1 == 4 && n 2 == 2 then some 6
  else none

/-- The class of a configuration with input `f` (R214). -/
def classOf (rd : Cfg) (p : Nat) (f : InFmt) : Option Nat :=
  if f.kind = 0 then rawClass (cfaCodes rd p) else if f.kind = 1 then some 7 else some 8

/-- The classes of the directional method. -/
def directional (cls : Nat) : Bool := cls == 1 || cls == 2 || cls == 3 || cls == 5 || cls == 6
/-- The guide code of a directional class. -/
def guideOf (cls : Nat) : Nat := if cls == 1 || cls == 5 then 1 else 3
/-- The context of the reconstruction. -/
def reconCtx (cls : Nat) : Nat := if directional cls then 3 else if cls = 4 then 1 else 0
/-- The CFA codes of the matrix inputs of a raw class, in order (R218). -/
def classCodes (cls : Nat) : List Nat :=
  if cls = 1 then [0, 1, 2] else if cls = 2 then [0, 3, 2] else if cls = 3 then [0, 3]
  else if cls = 4 || cls = 5 then [0, 1, 2, 4] else if cls = 6 then [0, 1, 2, 3] else []
/-- The components of the processed picture (R219): 1 MONO, 3 RGB, 4 RGB+IR. -/
def classComps (cls : Nat) : Nat := if cls = 0 then 1 else if cls = 4 || cls = 5 then 4 else 3

/-- The front-end context CTX (R199). -/
def ctxOf (rd : Cfg) (p cls : Nat) : Nat :=
  (if rd.on (fFE_CTRL_DEF_STATIC_EN p) || rd.on (fFE_CTRL_DEF_DYN_EN p) then 2 else 0)
    + reconCtx cls + (if rd.on (fFE_CTRL_NR_EN p) then 2 else 0)

/-! ### Slices (R200) -/

/-- The index K of the last front-end slice. -/
def lastSlice (h sl ctx : Nat) : Nat := min 1023 ((h - 1 + ctx) / sl)
/-- The first line of front-end slice `k`. -/
def sliceFirst (sl ctx k : Nat) : Nat := k * sl - ctx
/-- The last line of front-end slice `k`. -/
def sliceLast (h sl ctx k : Nat) : Nat :=
  if lastSlice h sl ctx ≤ k then h - 1 else min (h - 1) (k * sl + sl - 1 - ctx)
/-- The input line whose arrival makes slice `k` ready. -/
def sliceReady (h sl k : Nat) (last : Bool) : Nat := if last then h - 1 else min (h - 1) (k * sl + sl - 1)

/-! ### Steps 3 to 7 -/

/-- Black level (R205), with one level per code. -/
def blackLevel (codes levels : List Nat) (img : Plane) : Plane :=
  mapPix (fun x y c => c - levels.getD (cfaAt codes x y) 0) img

/-- The static list (R209): the entries used, as Y × 8,192 + X, and how many were ignored. -/
def defectList (w h : Nat) : Nat → List Nat → List Nat × Nat
  | _, [] => ([], 0)
  | least, e :: es =>
    let k := bitsOf e 13 13 * 8192 + bitsOf e 0 13
    if bitsOf e 26 6 ≠ 0 || k < least || w ≤ bitsOf e 0 13 || h ≤ bitsOf e 13 13 then
      let (l, n) := defectList w h least es
      (l, n + 1)
    else
      let (l, n) := defectList w h (k + 1) es
      (k :: l, n)

/-- Defect correction of one pixel (R208); the Bool says that it was a dynamic correction. -/
def defectPix (codes : List Nat) (list : List Nat) (static dynamic : Bool) (hot cold : Nat) (img : Plane)
    (x y c : Nat) : Nat × Bool :=
  let listed (u v : Int) : Bool := static && list.contains (v.toNat * 8192 + u.toNat)
  let code := cfaAt codes x y
  let same := (window 2 x y).filterMap (fun t =>
    if t.1 = Int.ofNat x && t.2 = Int.ofNat y then none
    else match pixAt img t.1 t.2 with
      | some v => if cfaAt codes t.1.toNat t.2.toNat = code && !listed t.1 t.2 then some v else none
      | none => none)
  let n := same.length
  let mean (l : List Nat) : Nat := (rnd (Int.ofNat (sumList l)) (Int.ofNat l.length)).toNat
  if listed x y then
    if 2 ≤ n then (mean same, false)
    else
      let near := (fourAround x y).filterMap (fun t =>
        if listed t.1 t.2 then none else pixAt img t.1 t.2)
      if near.isEmpty then (c, false) else (mean near, false)
  else if dynamic && decide (2 ≤ n) then
    let hi := maxList same
    let lo := same.foldl min hi
    if hi + hot < c then (hi, true)
    else if c + cold < lo then (lo, true)
    else (c, false)
  else (c, false)

/-- Knee `k` of table DECOMP. -/
def kneeX (rd : Cfg) (p k : Nat) : Nat := bitsOf (rd (rFE_DECOMP p (2 * k))) 0 24
def kneeY (rd : Cfg) (p k : Nat) : Nat := bitsOf (rd (rFE_DECOMP p (2 * k + 1))) 0 20

/-- Decompanding (R210). -/
def decompand (rd : Cfg) (p bits x : Nat) : Nat :=
  if rd.on (fFE_CTRL_DECOMP_EN p) then
    match ((List.range 17).filter (fun k => decide (kneeX rd p k ≤ x))).getLast? with
    | none => kneeY rd p 0
    | some k =>
      if k = 16 then kneeY rd p 16
      else
        let y := Int.ofNat (kneeY rd p k)
        clamp20 (y + rnd ((Int.ofNat (kneeY rd p (k + 1)) - y) * (Int.ofNat x - Int.ofNat (kneeX rd p k)))
          (Int.ofNat (kneeX rd p (k + 1)) - Int.ofNat (kneeX rd p k)))
  else if bits ≤ 20 then x * 2 ^ (20 - bits) else x / 2 ^ (bits - 20)

/-- The interpolation of R211 over a grid of `nx` × `ny` nodes `2^lw` × `2^lh` pixels apart. -/
def gridAt (nx ny lw lh : Nat) (node : Nat → Nat → Nat) (x y : Nat) : Nat :=
  let cw := 2 ^ lw
  let ch := 2 ^ lh
  let xc := min x ((nx - 1) * cw)
  let yc := min y ((ny - 1) * ch)
  let i := min (xc / cw) (nx - 2)
  let j := min (yc / ch) (ny - 2)
  let fx := xc - i * cw
  let fy := yc - j * ch
  (rnd (Int.ofNat (node i j * (cw - fx) * (ch - fy) + node (i + 1) j * fx * (ch - fy)
    + node i (j + 1) * (cw - fx) * fy + node (i + 1) (j + 1) * fx * fy)) (Int.ofNat (cw * ch))).toNat

/-- The shading channel of a code. -/
def shadeChan (code : Nat) : Nat := if code < 3 then code else 3

/-- A 16-bit entry of a table that holds two per word. -/
def half16 (w i : Nat) : Nat := bitsOf w (16 * (i % 2)) 16

/-- Lens shading (R211). -/
def shade (rd : Cfg) (p code x y v : Nat) : Nat :=
  if rd.on (fFE_CTRL_SHADING_EN p) then
    let nx := rd.f (fFE_SHADING_GRID_NX p)
    let node (i j : Nat) : Nat :=
      let k := (j * nx + i) * 4 + shadeChan code
      half16 (rd (rFE_SHADING p (k / 2))) k
    let g := gridAt nx (rd.f (fFE_SHADING_GRID_NY p)) (rd.f (fFE_SHADING_GRID_LOG_W p))
      (rd.f (fFE_SHADING_GRID_LOG_H p)) node x y
    min 1048575 ((v * g + 2048) / 4096)
  else v

/-- White balance (R212). -/
def whiteBalance (rd : Cfg) (p code v : Nat) : Nat :=
  if rd.on (fFE_CTRL_WB_EN p) then min 1048575 ((v * rd.f (fFE_WB_GAIN_GAIN p code) + 2048) / 4096) else v

/-- The static list of a configuration. -/
def staticList (rd : Cfg) (p w h : Nat) : List Nat × Nat :=
  if rd.on (fFE_CTRL_DEF_STATIC_EN p) then
    defectList w h 0 ((List.range (rd.f (fFE_DEFECT_CFG_STATIC_COUNT p))).map (fun i => rd (rFE_DEFECT p i)))
  else ([], 0)

/-- Step 4, with the dynamic corrections marked. -/
def defectStep (rd : Cfg) (p w h : Nat) (img : Plane) : List (List (Nat × Bool)) :=
  let st := rd.on (fFE_CTRL_DEF_STATIC_EN p)
  let dy := rd.on (fFE_CTRL_DEF_DYN_EN p)
  if st || dy then
    mapPix (defectPix (cfaCodes rd p) (staticList rd p w h).1 st dy (rd.f (fFE_DYN_HOT_THR p))
      (rd.f (fFE_DYN_COLD_THR p)) img) img
  else img.map (fun row => row.map (fun v => (v, false)))

/-- The dynamic corrections of a frame. -/
def dynCount (img : List (List (Nat × Bool))) : Nat :=
  sumList (img.map (fun row => (row.filter (fun v => v.2)).length))

/-- Steps 3 and 4 of a raw picture. -/
def afterDefects (rd : Cfg) (p w h : Nat) (levels : List Nat) (img : Plane) : List (List (Nat × Bool)) :=
  defectStep rd p w h
    (if rd.on (fFE_CTRL_BL_EN p) then blackLevel (cfaCodes rd p) levels img else img)

/-- The mosaic picture (steps 3 to 7). -/
def mosaic (rd : Cfg) (p w h bits : Nat) (levels : List Nat) (img : Plane) : Plane :=
  mapPix (fun x y v =>
    let c := cfaAt (cfaCodes rd p) x y
    whiteBalance rd p c (shade rd p c x y (decompand rd p bits v.1))) (afterDefects rd p w h levels img)

/-! ### Reconstruction (R215 to R217) -/

/-- The sample of code `c` at a position; none where the pixel has another code or is absent. -/
def sampleOf (codes : List Nat) (img : Plane) (c : Nat) (t : Int × Int) : Option Int :=
  match pixAt img t.1 t.2 with
  | some v => if cfaAt codes t.1.toNat t.2.toNat = c then some (Int.ofNat v) else none
  | none => none

/-- The guide value P̂ at a pixel (R215). -/
def guideAt (codes : List Nat) (img : Plane) (g : Nat) (x y : Int) : Int :=
  match sampleOf codes img g (x, y) with
  | some v => v
  | none =>
    let s := sampleOf codes img g
    let hz := match s (x - 1, y), s (x + 1, y) with | some a, some b => some (a, b) | _, _ => none
    let vt := match s (x, y - 1), s (x, y + 1) with | some a, some b => some (a, b) | _, _ => none
    match hz, vt with
    | some (a, b), some (c, d) =>
      if (a - b).natAbs < (c - d).natAbs then rnd (a + b) 2
      else if (c - d).natAbs < (a - b).natAbs then rnd (c + d) 2
      else rnd (a + b + c + d) 4
    | some (a, b), none => rnd (a + b) 2
    | none, some (c, d) => rnd (c + d) 2
    | none, none =>
      let l := (fourAround x y).filterMap s
      if l.isEmpty then 0 else rnd (sumInt l) (Int.ofNat l.length)

/-- A channel at a pixel by the directional method. -/
def directionalAt (codes : List Nat) (img : Plane) (g c x y : Nat) : Nat :=
  match sampleOf codes img c (x, y) with
  | some v => v.toNat
  | none =>
    let ph := guideAt codes img g x y
    if c = g then clamp20 ph
    else
      let l := (window 2 x y).filterMap (fun t =>
        (sampleOf codes img c t).map (fun v => v - guideAt codes img g t.1 t.2))
      if l.isEmpty then clamp20 ph else clamp20 (ph + rnd (sumInt l) (Int.ofNat l.length))

/-- A channel at a pixel by the bilinear method (R216). -/
def bilinearAt (codes : List Nat) (img : Plane) (c x y : Nat) : Nat :=
  match sampleOf codes img c (x, y) with
  | some v => v.toNat
  | none =>
    let l := (window 1 x y).filterMap (sampleOf codes img c)
    if l.isEmpty then 0 else (rnd (sumInt l) (Int.ofNat l.length)).toNat

/-- Step 8 of a raw picture: the components of the class. -/
def reconstruct (codes : List Nat) (cls : Nat) (img : Plane) : Pic :=
  if cls = 0 then mapPix (fun _ _ v => [v]) img
  else if directional cls then
    mapPix (fun x y _ => (classCodes cls).map (fun c => directionalAt codes img (guideOf cls) c x y)) img
  else mapPix (fun x y _ => (classCodes cls).map (fun c => bilinearAt codes img c x y)) img

/-- Step 8 of a YUV422 line: every pixel gets the chroma of its pair, or the mean of two pairs (R216). -/
def chromaLine (row : List (List Nat)) : List (List Nat) :=
  let y (x : Nat) : Nat := (row.getD x []).headD 0
  let c (x : Nat) : Option Nat := (row[x]?).map (fun v => v.getD 1 0)
  mapFrom (fun x _ =>
    let m := x / 2
    let u := (c (2 * m)).getD 0
    let v := (c (2 * m + 1)).getD 0
    if x % 2 = 0 then [y x, u, v]
    else
      let mean (a : Nat) : Option Nat → Nat
        | some b => (rnd (Int.ofNat (a + b)) 2).toNat
        | none => a
      [y x, mean u (c (2 * m + 2)), mean v (c (2 * m + 3))]) 0 row

/-- IR subtraction (R217). -/
def irSub (rd : Cfg) (p cls : Nat) (v : List Nat) : List Nat :=
  if (cls = 4 || cls = 5) && rd.on (fFE_CTRL_IRSUB_EN p) then
    let ir := v.getD 3 0
    let k (i : Nat) : Nat := if i = 0 then rd.f (fFE_IRSUB_A_K_R p) else if i = 1 then rd.f (fFE_IRSUB_A_K_G p)
      else rd.f (fFE_IRSUB_B_K_B p)
    mapFrom (fun i c => if i = 3 then c else c - (k i * ir + 1024) / 2048) 0 v
  else v

/-! ### Matrix, tone and noise (R218 to R221) -/

/-- Coefficient M(r, k). -/
def matrixAt (rd : Cfg) (p r k : Nat) : Int :=
  signedOf 16 (half16 (rd (rFE_MATRIX p (2 * r + k / 2))) k)

/-- Step 9 of one pixel. -/
def colourMatrix (rd : Cfg) (p cls : Nat) (v : List Nat) : List Nat :=
  if cls = 0 then v
  else
    let ins : List Int := mapFrom (fun i c =>
      if cls = 7 && decide (i ≠ 0) then Int.ofNat c - 524288 else Int.ofNat c) 0 v
    let row (r : Nat) : Nat :=
      if rd.on (fFE_CTRL_MATRIX_EN p) then
        clamp20 (sar (sumInt (mapFrom (fun k x => matrixAt rd p r k * x) 0 ins) + 2048) 12
          + signedOf 21 (rd.f (fFE_MATRIX_OFF_OFF p r)))
      else clamp20 (ins.getD r 0)
    (List.range (classComps cls)).map row

/-- Step 10 of one component; `ir` says that it is the IR component. -/
def toneAt (rd : Cfg) (p : Nat) (ir : Bool) (v : Nat) : Nat :=
  let en := if ir then rd.on (fFE_CTRL_TONE_IR_EN p) else rd.on (fFE_CTRL_TONE_EN p)
  if en then
    let t (i : Nat) : Int := Int.ofNat (half16 (rd (if ir then rFE_TONE_IR p (i / 2) else rFE_TONE p (i / 2))) i)
    let i := v / 1024
    let f := Int.ofNat (v % 1024)
    clamp16 (t i + sar ((t (i + 1) - t i) * f + 512) 10)
  else v / 16

/-- Step 11 of one component plane. -/
def noiseStep (rd : Cfg) (p : Nat) (img : Plane) : Plane :=
  let strength := rd.f (fFE_NR_CFG_STRENGTH p)
  let blend := rd.f (fFE_NR_CFG_BLEND p)
  mapPix (fun x y v =>
    let i := v / 4096
    let tau := (half16 (rd (rFE_NR_SIGMA p (i / 2))) i * strength + 8) / 16
    let l := ((window 2 x y).filterMap (fun t => pixAt img t.1 t.2)).filter (fun n =>
      decide ((Int.ofNat n - Int.ofNat v).natAbs ≤ tau))
    let m := rnd (Int.ofNat (sumList l)) (Int.ofNat l.length)
    clamp16 (Int.ofNat v + sar ((m - Int.ofNat v) * Int.ofNat blend + 128) 8)) img

/-- The plane of component `i`. -/
def planeOf (i : Nat) (img : Pic) : Plane := img.map (fun row => row.map (fun v => v.getD i 0))

/-- The components of a picture of `n` planes, pixel by pixel. -/
def joinPlanes (ps : List Plane) (img : Pic) : Pic :=
  mapPix (fun x y _ => ps.map (fun q => ((q.getD y []).getD x 0))) img

/-- The colour/IR matrix output (steps 1 to 9) from the lines on the shelf. -/
def afterMatrix (rd : Cfg) (p w h cls : Nat) (f : InFmt) (levels : List Nat) (lines : Plane) : Pic :=
  let lin : Pic :=
    if f.raw then reconstruct (cfaCodes rd p) cls (mosaic rd p w h f.bits levels (lines.map (rawLine f)))
    else if cls = 7 then lines.map (fun l => chromaLine (compLine f l)) else lines.map (compLine f)
  lin.map (fun row => row.map (fun v => colourMatrix rd p cls (irSub rd p cls v)))

/-- The processed picture of a configuration from the lines on the shelf. -/
def processed (rd : Cfg) (p w h cls : Nat) (f : InFmt) (levels : List Nat) (lines : Plane) : Pic :=
  let ton := (afterMatrix rd p w h cls f levels lines).map (fun row =>
    row.map (fun v => mapFrom (fun i c => toneAt rd p (i == 3) c) 0 v))
  if rd.on (fFE_CTRL_NR_EN p) then
    joinPlanes ((List.range (classComps cls)).map (fun i => noiseStep rd p (planeOf i ton))) ton
  else ton

/-- The mosaic picture of a raw input, one component per pixel. -/
def mosaicPic (rd : Cfg) (p w h : Nat) (f : InFmt) (levels : List Nat) (lines : Plane) : Pic :=
  mapPix (fun _ _ v => [v]) (mosaic rd p w h f.bits levels (lines.map (rawLine f)))

/-! ### Embedded fields (R203) -/

/-- The value of parse field `i`; none where the parse fails (R204). -/
def parseField (rd : Cfg) (p i : Nat) (top bottom : List (List Byte)) (invalid : Bool) : Option Nat :=
  let line := rd.f (fFE_EMB_FIELD_CFG_LINE p i)
  let n := rd.f (fFE_EMB_FIELD_CFG_BYTES p i) + 1
  let off := rd.f (fFE_EMB_FIELD_CFG_OFFSET p i)
  let tagged := rd.on (fFE_EMB_FIELD_CFG_TAGGED p i)
  if invalid then none
  else match (if line < 4 then top[line]? else bottom[line - 4]?) with
    | none => none
    | some bs =>
      if off + (if tagged then 2 * n else n) ≤ bs.length then
        let v := (List.range n).map (fun k => bs.getD (if tagged then off + 1 + 2 * k else off + k) 0)
        some (leNat (if rd.on (fFE_EMB_FIELD_CFG_MSB_FIRST p i) then v.reverse else v))
      else none

/-! ### Table memories (R222) -/

/-- Table `id` of pipeline `p`: its first word's offset and its length in words. -/
def tableWin (p id : Nat) : Option (Nat × Nat) :=
  if id = 1 then some (rFE_DEFECT p 0, 4096) else if id = 2 then some (rFE_DECOMP p 0, 34)
  else if id = 3 then some (rFE_TONE p 0, 513) else if id = 4 then some (rFE_TONE_IR p 0, 513)
  else if id = 5 then some (rFE_SHADING p 0, 2178)
  else if 0x10 ≤ id && id < 0x18 then some (rFE_COEF p 0 + 0x200 * (id - 0x10), 128)
  else if id = 0x20 then some (rFE_MESH0 p 0, 1089) else if id = 0x21 then some (rFE_MESH1 p 0, 1089)
  else none

/-- How many words of table `id` the configuration needs. -/
def tableNeeds (rd : Cfg) (p id : Nat) : Nat :=
  if id = 1 then (if rd.on (fFE_CTRL_DEF_STATIC_EN p) then rd.f (fFE_DEFECT_CFG_STATIC_COUNT p) else 0)
  else if id = 5 then rd.f (fFE_SHADING_GRID_NX p) * rd.f (fFE_SHADING_GRID_NY p) * 2
  else if id = 0x20 || id = 0x21 then
    rd.f (fOUT_DW_MESH_MX p (id - 0x20)) * rd.f (fOUT_DW_MESH_MY p (id - 0x20))
  else ((tableWin p id).map (fun t => t.2)).getD 0

/-- Every needed word of table `id` has been written since the device reset. -/
def tableDone (s : State) (p id : Nat) : Bool :=
  match tableWin p id with
  | none => false
  | some (base, _) =>
    (List.range (tableNeeds s.rn p id)).all (fun i => s.written.contains (base + 4 * i))

/-- TABLE_WRITTEN: a table of which words are needed and all of them have been written. -/
def tablesMask (s : State) (p : Nat) : Nat :=
  maskOf 5 (fun t => decide (0 < tableNeeds s.rn p (t + 1)) && tableDone s p (t + 1))
/-- OUT_TABLES_WRITTEN (R250). -/
def outTablesMask (s : State) (p : Nat) : Nat :=
  maskOf 10 (fun b => if b < 8 then tableDone s p (0x10 + b) else tableDone s p (0x20 + (b - 8)))

end Sys2Proof.Machine
end

