-- ==== Sys2Proof/Machine/OutputOps.lean ====
section
/-!
DEFINITION. The output chain (spec/10_outputs_canvases.md): crop, scaler, dewarp, output slices, pixel
formats, layouts and rate decimation, as functions of a picture and a configuration.
-/

namespace Sys2Proof.Machine

/-! ### Geometry of an output -/

/-- The crop window. -/
structure Crop where
  x : Nat
  y : Nat
  w : Nat
  h : Nat
  deriving DecidableEq, Repr

def cropOf (rd : Cfg) (p o : Nat) : Crop :=
  ⟨rd.f (fOUT_CROP_XY_X p o), rd.f (fOUT_CROP_XY_Y p o), rd.f (fOUT_CROP_SIZE_W p o),
   rd.f (fOUT_CROP_SIZE_H p o)⟩

def outW (rd : Cfg) (p o : Nat) : Nat := rd.f (fOUT_SIZE_W p o)
def outH (rd : Cfg) (p o : Nat) : Nat := rd.f (fOUT_SIZE_H p o)
def outEn (rd : Cfg) (p o : Nat) : Bool := rd.on (fOUT_CTRL_EN p o)
def outDest (rd : Cfg) (p o : Nat) : Nat := rd.f (fOUT_CTRL_DEST p o)
def outFormat (rd : Cfg) (p o : Nat) : Nat := rd.f (fOUT_CTRL_FORMAT p o)
/-- O0 and O1 always take the processed picture (R225). -/
def outMosaic (rd : Cfg) (p o : Nat) : Bool := decide (2 ≤ o) && rd.on (fOUT_CTRL_PICTURE p o)
/-- O2 and O3 never dewarp (R225). -/
def outDewarp (rd : Cfg) (p o : Nat) : Bool := decide (o < 2) && rd.on (fOUT_CTRL_DEWARP_EN p o)

/-! ### Scaling (R229 to R231) -/

/-- The position of output sample `i` of a direction, in 1/65,536 of a sample. -/
def scalePos (crop out i : Nat) : Int :=
  sar (Int.ofNat ((2 * i + 1) * (crop * 65536 / out))) 1 - 32768

def scaleBase (crop out i : Nat) : Int := sar (scalePos crop out i) 16
def scalePhase (crop out i : Nat) : Nat := (sar (scalePos crop out i) 11 % 32).toNat

/-- Coefficient `t` of phase `ph` of output `o` in direction `d`. -/
def coefAt (rd : Cfg) (p o d ph t : Nat) : Int :=
  let i := 8 * ph + t
  signedOf 16 (half16 (rd (rFE_COEF p ((2 * o + d) * 128 + i / 2))) i)

/-- One filtered sample; `get` reads the sample at an index of the direction. -/
def scaleAt (coef : Nat → Nat → Int) (crop out i : Nat) (get : Nat → Nat) : Nat :=
  let ph := scalePhase crop out i
  let tap (t : Nat) : Int :=
    let k := clampInt 0 (Int.ofNat crop - 1) (scaleBase crop out i - 3 + Int.ofNat t)
    coef ph t * Int.ofNat (get k.toNat)
  clamp16 (sar (sumInt ((List.range 8).map tap) + 2048) 12)

/-- A line scaled from `crop` to `out` samples; equal sizes copy it (R230). -/
def scaleLine (coef : Nat → Nat → Int) (crop out : Nat) (row : List (List Nat)) : List (List Nat) :=
  if crop = out then row
  else (List.range out).map (fun i =>
    (List.range (row.headD []).length).map (fun c =>
      scaleAt coef crop out i (fun k => (row.getD k []).getD c 0)))

/-- The crop window of a picture. -/
def cropPic (c : Crop) (img : Pic) : Pic :=
  ((img.drop c.y).take c.h).map (fun row => (row.drop c.x).take c.w)

/-- Output line `j` of a scaled output, from the horizontally scaled lines of its crop window. -/
def scaledLine (rd : Cfg) (p o : Nat) (c : Crop) (hl : Pic) (j : Nat) : List (List Nat) :=
  let oh := outH rd p o
  if c.h = oh then hl.getD j []
  else
    mapFrom (fun x v => mapFrom (fun k _ =>
      scaleAt (coefAt rd p o 1) c.h oh j (fun y => (((hl.getD y []).getD x []).getD k 0))) 0 v) 0
      (hl.headD [])

/-- The highest front-end line that output line `j` needs (R232). -/
def needLine (rd : Cfg) (p o j : Nat) : Nat :=
  let c := cropOf rd p o
  let oh := outH rd p o
  if c.h = oh then c.y + j
  else c.y + (clampInt 0 (Int.ofNat c.h - 1) (scaleBase c.h oh j + 4)).toNat

/-! ### Dewarp (R233, R234) -/

def meshTable (p o : Nat) : Nat := if o = 0 then rFE_MESH0 p 0 else rFE_MESH1 p 0

/-- The source position of output pixel (x, y), in eighths of a pixel. -/
def meshAt (rd : Cfg) (p o x y : Nat) : Nat × Nat :=
  let mx := rd.f (fOUT_DW_MESH_MX p o)
  let my := rd.f (fOUT_DW_MESH_MY p o)
  let lw := rd.f (fOUT_DW_MESH_LOG_W p o)
  let lh := rd.f (fOUT_DW_MESH_LOG_H p o)
  let node (lsb i j : Nat) : Nat := bitsOf (rd (meshTable p o + 4 * (j * mx + i))) lsb 16
  (gridAt mx my lw lh (node 0) x y, gridAt mx my lw lh (node 16) x y)

/-- The position lies in the crop window. -/
def meshIn (c : Crop) (q : Nat × Nat) : Bool :=
  decide (q.1 ≤ 8 * (c.w - 1)) && decide (q.2 ≤ 8 * (c.h - 1))

/-- One component of a dewarped pixel; `get` reads a sample of the dewarp store by column and line. -/
def dewarpAt (c : Crop) (q : Nat × Nat) (get : Nat → Nat → Nat) : Nat :=
  let ix := q.1 / 8
  let fx := q.1 % 8
  let iy := q.2 / 8
  let fy := q.2 % 8
  let v (a b : Nat) : Nat := get (min (c.w - 1) (ix + a)) (min (c.h - 1) (iy + b))
  (rnd (Int.ofNat (v 0 0 * (8 - fx) * (8 - fy) + v 1 0 * fx * (8 - fy) + v 0 1 * (8 - fx) * fy
    + v 1 1 * fx * fy)) 64).toNat

/-- The highest front-end line that a dewarped output line needs; none where no pixel of it lies in the
window. -/
def meshNeed (rd : Cfg) (p o y : Nat) : Option Nat :=
  let c := cropOf rd p o
  let l := (List.range (outW rd p o)).filterMap (fun x =>
    let q := meshAt rd p o x y
    if meshIn c q then some (c.y + min (c.h - 1) (q.2 / 8 + 1)) else none)
  if l.isEmpty then none else some (maxList l)

/-- Lines `a` to `b` of dewarped output slice `k`. -/
def dwLines (rd : Cfg) (p o sl k : Nat) : List Nat :=
  (List.range sl).map (fun i => k * sl + i) |>.filter (fun j => decide (j < outH rd p o))

/-- need_k of a dewarped slice; 0 where none of its samples lies in the window. -/
def dwNeed (rd : Cfg) (p o sl k : Nat) : Nat :=
  maxList ((dwLines rd p o sl k).filterMap (meshNeed rd p o))

/-- The number of dewarped slices. -/
def dwSlices (rd : Cfg) (p o sl : Nat) : Nat := ceilDiv (outH rd p o) sl

/-- The look-ahead LA of a configuration (R234). -/
def lookAhead (rd : Cfg) (p o h sl ctx : Nat) : Nat :=
  maxList ((List.range (dwSlices rd p o sl)).map (fun k => dwNeed rd p o sl k - sliceLast h sl ctx k))

/-- The front-end slice that holds a line. -/
def sliceOfLine (h sl ctx y : Nat) : Nat := min (lastSlice h sl ctx) ((min y (h - 1) + ctx) / sl)

/-! ### Output slices (R232, R234) -/

/-- The lines that output `o` makes when front-end slice `k` is ready, cut into output slices: one for a
cropped or scaled output, and every dewarped slice whose needed line lies in slice `k`. -/
def outSlices (rd : Cfg) (p o h sl ctx k : Nat) : List (List Nat) :=
  if outDewarp rd p o then
    ((List.range (dwSlices rd p o sl)).filter (fun n =>
      sliceOfLine h sl ctx (maxList ((List.range (n + 1)).map (dwNeed rd p o sl))) == k)).map
        (dwLines rd p o sl)
  else
    let hi := sliceLast h sl ctx k
    let lo := sliceLast h sl ctx (k - 1)
    let ls := (List.range (outH rd p o)).filter (fun j =>
      let n := needLine rd p o j
      decide (n ≤ hi) && (k == 0 || decide (lo < n)))
    if ls.isEmpty then [] else [ls]

/-! ### Formats (R235, R236) -/

/-- Bytes per pixel of planes 0 and 1. -/
def fmtBytes (f : Nat) : Nat × Nat :=
  match f with
  | 0 => (2, 0) | 1 => (4, 0) | 2 => (1, 0) | 3 => (2, 0) | 4 => (4, 0) | 5 => (8, 0) | 6 => (2, 0)
  | 7 => (1, 1) | 8 => (2, 2) | 9 => (1, 0) | 10 => (2, 0) | 11 => (4, 0) | _ => (0, 0)

/-- A format of two planes. -/
def fmtTwo (f : Nat) : Bool := f == 7 || f == 8
/-- A format whose width is even. -/
def fmtEven (f : Nat) : Bool := f == 6 || f == 7 || f == 8

/-- Whether a picture and its components serve a format. -/
def fmtOk (f : Nat) (mosaic : Bool) (comps : Nat) : Bool :=
  if f < 2 then mosaic
  else if mosaic then false
  else if f = 2 || f = 3 then comps == 1 || comps == 3
  else if f = 9 || f = 10 || f = 11 then comps == 4
  else decide (f < 12) && comps == 3

def n8 (v : Nat) : Nat := min 255 ((v + 128) / 256)

/-- The coefficients of R236, by CSC: rows y, u, v. -/
def cscRow (csc r : Nat) : Int × Int × Int :=
  match csc, r with
  | 0, 0 => (871, 2929, 296)
  | 0, 1 => (-469, -1579, 2048)
  | 0, _ => (2048, -1860, -188)
  | _, 0 => (1225, 2404, 467)
  | _, 1 => (-691, -1357, 2048)
  | _, _ => (2048, -1715, -333)

def csc (c r : Nat) (v : List Nat) : Nat :=
  let (a, b, d) := cscRow c r
  let x := sar (a * Int.ofNat (v.getD 0 0) + b * Int.ofNat (v.getD 1 0) + d * Int.ofNat (v.getD 2 0) + 2048) 12
  clamp16 (if r = 0 then x else x + 32768)

/-- Luma of a pixel: Y of MONO, else by R236. -/
def lumaOf (c : Nat) (v : List Nat) : Nat := if v.length = 1 then v.headD 0 else csc c 0 v

/-- The mean of U or V over a pair. -/
def pairMean (a b : Nat) : Nat := (rnd (Int.ofNat (a + b)) 2).toNat

/-- The chroma values of the pairs of a line. -/
def pairChroma (c : Nat) (row : List (List Nat)) : List (Nat × Nat) :=
  (chunks 2 row).map (fun g =>
    let a := g.headD []
    let b := g.getD 1 []
    (pairMean (csc c 1 a) (csc c 1 b), pairMean (csc c 2 a) (csc c 2 b)))

/-- The pixel bytes of a line in planes 0 and 1. -/
def lineBytes (f c : Nat) (row : List (List Nat)) : List Byte × List Byte :=
  let b1 (v : Nat) : List Byte := leBytes 1 v
  let b2 (v : Nat) : List Byte := leBytes 2 v
  let each (g : List Nat → List Byte) : List Byte := row.flatMap g
  let i (v : List Nat) (k : Nat) : Nat := v.getD k 0
  match f with
  | 0 => (each (fun v => b2 (i v 0 / 16)), [])
  | 1 => (each (fun v => leBytes 4 (i v 0)), [])
  | 2 => (each (fun v => b1 (n8 (lumaOf c v))), [])
  | 3 => (each (fun v => b2 (lumaOf c v)), [])
  | 4 => (each (fun v => b1 (n8 (i v 0)) ++ b1 (n8 (i v 1)) ++ b1 (n8 (i v 2)) ++ b1 255), [])
  | 5 => (each (fun v => b2 (i v 0) ++ b2 (i v 1) ++ b2 (i v 2) ++ b2 65535), [])
  | 6 => (((chunks 2 row).zip (pairChroma c row)).flatMap (fun g =>
      b1 (n8 (csc c 0 (g.1.headD []))) ++ b1 (n8 g.2.1) ++ b1 (n8 (csc c 0 (g.1.getD 1 [])))
        ++ b1 (n8 g.2.2)), [])
  | 7 => (each (fun v => b1 (n8 (csc c 0 v))),
      (pairChroma c row).flatMap (fun g => b1 (n8 g.1) ++ b1 (n8 g.2)))
  | 8 => (each (fun v => b2 (csc c 0 v)), (pairChroma c row).flatMap (fun g => b2 g.1 ++ b2 g.2))
  | 9 => (each (fun v => b1 (n8 (i v 3))), [])
  | 10 => (each (fun v => b2 (i v 3)), [])
  | 11 => (each (fun v => b1 (n8 (i v 0)) ++ b1 (n8 (i v 1)) ++ b1 (n8 (i v 2)) ++ b1 (n8 (i v 3))), [])
  | _ => ([], [])

/-- The bytes that the content tally covers, in the order in which they are stored and moved (R188, R340). -/
def tallyBytes (l : List OutLine) : List Byte := l.flatMap (fun x => x.plane0) ++ l.flatMap (fun x => x.plane1)

/-- `n` rounded up to a multiple of 64. -/
def ceil64 (n : Nat) : Nat := ceilDiv n 64 * 64

/-- The bytes that a frame occupies, FB (R237). -/
def frameBytes (rd : Cfg) (p o : Nat) : Nat :=
  if fmtTwo (outFormat rd p o) then rd (rOUT_PLANE1_OFF p o) + rd.f (fOUT_STRIDE1_BYTES p o) * outH rd p o
  else rd.f (fOUT_STRIDE0_BYTES p o) * outH rd p o

/-! ### Frame stores and dewarp stores (R234, R239) -/

def fsBase (rd : Cfg) (p o : Nat) : Nat :=
  rd.f (fOUT_FS_BASE_LO_ADDR p o) * 4096 + rd.f (fOUT_FS_BASE_HI_ADDR p o) * 2 ^ 32
def fsPitch (rd : Cfg) (p o : Nat) : Nat := rd.f (fOUT_FS_CFG_PAGES p o) * 4096
def fsCount (rd : Cfg) (p o : Nat) : Nat := rd.f (fOUT_FS_CFG_COUNT p o)
def dwBase (rd : Cfg) (p o : Nat) : Nat :=
  rd.f (fOUT_DW_BASE_LO_ADDR p o) * 4096 + rd.f (fOUT_DW_BASE_HI_ADDR p o) * 2 ^ 32
/-- A line of the dewarp store. -/
def dwPitch (c : Crop) (comps : Nat) : Nat := ceil64 (c.w * 2 * comps)
def dwBuf (c : Crop) (comps : Nat) : Nat := c.h * dwPitch c comps

/-! ### Rate decimation (R227, R228) -/

/-- Whether an output keeps a frame, from its counter, the frame start of the last kept frame, and the
frame's own start; and the counter after the frame. -/
def decimKeep (rd : Cfg) (p o : Nat) (cnt : Nat) (last : Option Nat) (fs : Nat) : Bool × Nat :=
  if rd.f (fOUT_DECIM_MODE p o) = 0 then
    let n := rd.f (fOUT_DECIM_N_M1 p o) + 1
    (cnt % n == 0, (cnt + 1) % n)
  else
    (match last with
     | none => true
     | some t => decide (rd.f (fOUT_DECIM_INTERVAL_US p o) * 1000 * 15 ≤ (fs - t) * 16), cnt)

/-- The output frame period in MODE 0 or 1 (R228), with declared frame period `td`. -/
def outPeriod (rd : Cfg) (p o td : Nat) : Nat :=
  if rd.f (fOUT_DECIM_MODE p o) = 0 then (rd.f (fOUT_DECIM_N_M1 p o) + 1) * td
  else td * max 1 (ceilDiv (rd.f (fOUT_DECIM_INTERVAL_US p o) * 1000 * 15) (16 * td))

end Sys2Proof.Machine
end

