-- ==== Sys2Proof/Machine/Demand.lean ====
section
/-!
DEFINITION. The kernel library and the demand of a configuration (spec/12_wheels.md R271 to R287,
spec/13_larder.md R305, spec/10_outputs_canvases.md R241): what admission charges.
-/

namespace Sys2Proof.Machine

/-! ### Fractions -/

/-- A non-negative fraction; `den` is not 0. -/
structure Fr where
  num : Nat
  den : Nat
  deriving DecidableEq, Repr

def Fr.ofNat (n : Nat) : Fr := ⟨n, 1⟩
def Fr.zero : Fr := ⟨0, 1⟩
/-- `n / d`; 0 where `d` is 0. -/
def Fr.mk' (n d : Nat) : Fr := if d = 0 then ⟨0, 1⟩ else ⟨n, d⟩
def Fr.add (a b : Fr) : Fr := if a.num = 0 then b else if b.num = 0 then a else
  ⟨a.num * b.den + b.num * a.den, a.den * b.den⟩
def Fr.scale (k : Nat) (a : Fr) : Fr := ⟨k * a.num, a.den⟩
def Fr.le (a b : Fr) : Bool := decide (a.num * b.den ≤ b.num * a.den)
def Fr.lt (a b : Fr) : Bool := !Fr.le b a
def Fr.max (a b : Fr) : Fr := if Fr.le a b then b else a
def Fr.ceil (a : Fr) : Nat := ceilDiv a.num a.den
def Fr.sum : List Fr → Fr
  | [] => Fr.zero
  | x :: xs => Fr.add x (Fr.sum xs)

/-! ### Configurations -/

/-- The active sets; LPORT CTRL, which the input format depends on, exists once (R98). -/
def actCfg (s : State) : Cfg := fun off =>
  if 0x220000 ≤ off && off < 0x224000 && off % 0x1000 == rLPORT_CTRL 0 % 0x1000 then s.rn off else s.arn off

/-- The port and channel of a map or geometry entry at `off`. -/
def mapIndex (off : Nat) : Option (Nat × Nat) :=
  if 0x200000 ≤ off && off < 0x220000 then
    let n := (off - 0x200000) / 0x1000
    let k := (List.range 16).find? (fun k => off == rSPORT_VC_MAP n k || off == rSPORT_VC_GEOM n k)
    k.map (fun k => (n, k))
  else if 0x220000 ≤ off && off < 0x224000 then
    let m := (off - 0x220000) / 0x1000
    if off == rLPORT_MAP m || off == rLPORT_GEOM m then some (32 + m, 0) else none
  else none

/-- PIPE of a map entry in a configuration. -/
def entryPipe (rd : Cfg) (e : Nat × Nat) : Nat :=
  if e.1 < 32 then rd.f (fSPORT_VC_MAP_PIPE e.1 e.2) else rd.f (fLPORT_MAP_PIPE (e.1 - 32))
/-- EN of a map entry in a configuration. -/
def entryOn (rd : Cfg) (e : Nat × Nat) : Bool :=
  if e.1 < 32 then rd.on (fSPORT_VC_MAP_EN e.1 e.2) else rd.on (fLPORT_MAP_EN (e.1 - 32))

/-- What the active set of pipeline `p` becomes at its swap: its shadow set, and the map entries that
stay where they are (R76). -/
def swapCfg (s : State) (p : Nat) : Cfg := fun off =>
  match mapIndex off with
  | some e => if entryPipe s.rn e = p then s.rn off else s.arn off
  | none => s.rn off

/-- The map entry of pipeline `p` in a configuration, with its declared format. -/
def inputOf (rd : Cfg) (p : Nat) : Option ((Nat × Nat) × InFmt) :=
  (mapEntries rd p).head?.bind (fun e => (entryFmt rd e.1 e.2).map (fun f => (e, f)))

/-- The slice height S. -/
def sliceH (rd : Cfg) (p : Nat) : Nat := 2 ^ rd.f (fKSCHED_CTRL_SLICE_LOG2 p)
/-- LINE_TIME in 1/16 ns and FRAME_NS. -/
def lineT16 (rd : Cfg) (p : Nat) : Nat := rd.f (fKSCHED_LINE_T16 p)
def frameNs (rd : Cfg) (p : Nat) : Nat := rd (rKSCHED_FRAME p)

/-! ### The kernel library (R271 to R275) -/

/-- The library kernels of R274: ID and slot; slot 16 is the canvas slot. -/
def library : List (Nat × Nat) :=
  [(0x0101, 0), (0x0102, 1), (0x0103, 2), (0x0104, 3), (0x0105, 4), (0x0106, 5), (0x0107, 6), (0x0108, 7),
   (0x0109, 7), (0x010A, 7), (0x010B, 7), (0x010C, 8), (0x010D, 9), (0x010E, 10), (0x0110, 11),
   (0x0111, 12), (0x0120, 13), (0x0121, 14), (0x0122, 15), (0x0130, 16)]

/-- The method of a class: 0 directional, 1 bilinear, 2 none. -/
def methodOf (cls : Nat) : Nat := if directional cls then 0 else if cls = 4 then 1 else 2
/-- The method that a CFA kernel serves. -/
def methodKid (kid : Nat) : Nat := if kid = 0x0108 || kid = 0x0109 then 0 else if kid = 0x010A then 1 else 2

/-- The kernel of a slot: its KID, or the default of the role (R272). -/
def slotKernel (rd : Cfg) (p cls slot : Nat) : Nat :=
  let kid := rd.f (fKSLOT_KID_ID p slot)
  if kid ≠ 0 then kid
  else if slot = 7 then (match methodOf cls with | 0 => 0x0108 | 1 => 0x010A | _ => 0x010B)
  else ((library.find? (fun x => x.2 == slot)).map (fun x => x.1)).getD 0

/-- PIECE_LIMIT of a slot. -/
def pieceLimit (rd : Cfg) (p slot : Nat) : Nat := bitsOf (rd (rKSLOT_PARAM p slot)) 0 4

def unpackCost (lport : Bool) (f : InFmt) : Nat :=
  if f.kind = 2 || f.kind = 3 then 10
  else if f.kind = 1 || f.per = 2 then 8
  else if !lport && (f.bits = 8 || f.bits = 16) then 4 else 6

/-- The cost per input pixel of the kernels of slots 0 and 2 to 10 that run. -/
def pixelCosts (rd : Cfg) (p cls : Nat) (lport : Bool) (f : InFmt) : KMap Nat :=
  let on (b : Bool) (slot c : Nat) : KMap Nat := if b then [(slot, c)] else []
  let comps := classComps cls
  let irs := (cls = 4 || cls = 5) && rd.on (fFE_CTRL_IRSUB_EN p)
  let dyn := rd.on (fFE_CTRL_DEF_DYN_EN p)
  let cfa := match slotKernel rd p cls 7 with
    | 0x0108 => if irs then 240 else 228
    | 0x0109 => if irs then 276 else 264
    | 0x010A => if irs then 108 else 96
    | _ => if cls = 7 then 14 else 2
  [(0, unpackCost lport f)]
    ++ on (rd.on (fFE_CTRL_BL_EN p)) 2 (if rd.f (fFE_BL_CFG_SRC p) = 1 then 6 else 4)
    ++ on (rd.on (fFE_CTRL_DEF_STATIC_EN p) || dyn) 3 (if dyn then 96 else 20)
    ++ on (rd.on (fFE_CTRL_DECOMP_EN p)) 4 24
    ++ on (rd.on (fFE_CTRL_SHADING_EN p)) 5 30
    ++ on (rd.on (fFE_CTRL_WB_EN p)) 6 4
    ++ [(7, cfa)]
    ++ on (rd.on (fFE_CTRL_MATRIX_EN p) && cls != 0) 8 (12 * comps)
    ++ on (rd.on (fFE_CTRL_TONE_EN p) || rd.on (fFE_CTRL_TONE_IR_EN p)) 9 (10 * comps)
    ++ on (rd.on (fFE_CTRL_NR_EN p)) 10 (100 * comps)

def anyParse (rd : Cfg) (p : Nat) : Bool := (List.range 8).any (fun i => rd.on (fFE_EMB_FIELD_CFG_EN p i))
def statsOn (rd : Cfg) (p : Nat) : Bool := rd.on (fSTATS_CTRL_HIST_EN p) || rd.on (fSTATS_CTRL_ZONE_EN p)
def flickOn (rd : Cfg) (p : Nat) : Bool := rd.on (fSTATS_CTRL_FLK_EN p)
/-- The pipeline delivers statistics packets (R265). -/
def anyStats (rd : Cfg) (p : Nat) : Bool := statsOn rd p || flickOn rd p

/-- The drawer that a kernel needs, in KiB. -/
def drawerKiB (kid sl : Nat) : Nat :=
  match kid with
  | 0x0101 => 8 | 0x0102 => 4 | 0x0103 => 6 | 0x0104 => 8 + sl / 2 | 0x0105 => 6 | 0x0106 => 10
  | 0x0107 => 6 | 0x0108 => 8 + sl | 0x0109 => 8 + sl / 2 | 0x010A => 8 + sl / 4 | 0x010B => 8
  | 0x010C => 8 | 0x010D => 12 | 0x010E => 8 + sl / 2 | 0x0110 => 40 | 0x0111 => 12 | 0x0120 => 16
  | 0x0121 => 24 | 0x0122 => 8 | 0x0130 => 16 | _ => 0

/-- The components of an output's picture. -/
def outComps (rd : Cfg) (p o cls : Nat) : Nat := if outMosaic rd p o then 1 else classComps cls

/-- The enabled outputs. -/
def outsOn (rd : Cfg) (p : Nat) : List Nat := (List.range 4).filter (outEn rd p)

/-- The cost per kept frame of an output: SCALE or DEWARP, and FORMAT. -/
def outCost (rd : Cfg) (p o cls : Nat) : Nat :=
  let c := cropOf rd p o
  let ow := outW rd p o
  let oh := outH rd p o
  let k := outComps rd p o cls
  (if outDewarp rd p o then 4 * c.w * c.h + 24 * k * ow * oh
   else 2 * c.w * c.h + (if ow = c.w then 0 else 16 * k * ow * c.h)
     + (if oh = c.h then 0 else 16 * k * ow * oh)) + 12 * ow * oh

/-- The slots of the longest chain of a pipeline's jobs (R276, R283). -/
def chainOf (rd : Cfg) (p : Nat) (pix : KMap Nat) : List Nat :=
  let fe := pix.map (fun x => x.1)
  let outs := outsOn rd p
  let time (l : List Nat) : Nat := sumList (l.map (pieceLimit rd p))
  let cands := [fe] ++ (outs.filter (fun o => !outDewarp rd p o)).map (fun o =>
      (if outMosaic rd p o then fe.filter (fun n => decide (n ≤ 6)) else fe) ++ [13, 15])
    ++ (if outs.any (outDewarp rd p) then [[14, 15]] else [])
  cands.foldl (fun a b => if time a < time b then b else a) []

/-- The slot with the largest PIECE_LIMIT, the lowest among equals (R283). -/
def worstSlot (rd : Cfg) (p : Nat) (l : List Nat) : Nat :=
  let m := maxList (l.map (pieceLimit rd p))
  l.foldl (fun a n => if pieceLimit rd p n = m && n < a then n else a) 16

/-- The kernels that run on a pipeline, by slot. -/
def runSlots (rd : Cfg) (p : Nat) (pix : KMap Nat) : List Nat :=
  let outs := outsOn rd p
  pix.map (fun x => x.1) ++ (if anyParse rd p then [1] else []) ++ (if statsOn rd p then [11] else [])
    ++ (if flickOn rd p then [12] else [])
    ++ (if outs.any (fun o => !outDewarp rd p o) then [13] else [])
    ++ (if outs.any (outDewarp rd p) then [14] else []) ++ (if outs.isEmpty then [] else [15])

/-! ### Larder and LP5X (R305, R241) -/

/-- The statistics packet's LENGTH (R266). -/
def statsLen (rd : Cfg) (p : Nat) : Nat :=
  0x1140 + (if rd.on (fSTATS_CTRL_ZONE_EN p) then
    16 * rd.f (fSTATS_ZONE_GRID_ZX p) * rd.f (fSTATS_ZONE_GRID_ZY p) else 0)

/-- The bytes of one line of an output slice packet (R304). -/
def lineSpan (rd : Cfg) (p o : Nat) : Nat :=
  let b := fmtBytes (outFormat rd p o)
  ceil64 (outW rd p o * b.1) + ceil64 (outW rd p o * b.2)

/-- All slices of an output, by front-end slice. -/
def allSlices (rd : Cfg) (p o h sl ctx : Nat) : List (List Nat) :=
  (List.range (lastSlice h sl ctx + 1)).flatMap (fun k => outSlices rd p o h sl ctx k)

/-- B_s: the largest byte count of any slice of an output. -/
def maxSliceBytes (rd : Cfg) (p o h sl ctx : Nat) : Nat :=
  maxList ((allSlices rd p o h sl ctx).map List.length) * lineSpan rd p o

def depthOf (rd : Cfg) (st : Nat) : Nat := rd.f (fLARDER_DEPTH_SLICES st)

/-- The cells of a slice stream with `bs` bytes in its largest slice (R305). -/
def sliceCells (depth bs : Nat) : Nat := depth * (ceilDiv (bs / 8 + 2) 32 + 1) + 1

/-- The cells of each stream of a pipeline. -/
def pipeCells (rd : Cfg) (p h sl ctx : Nat) : KMap Nat :=
  (outsOn rd p).map (fun o => (4 * p + o, sliceCells (depthOf rd (4 * p + o)) (maxSliceBytes rd p o h sl ctx)))
    ++ (if anyStats rd p then
      [(0xA0 + p, depthOf rd (0xA0 + p) * (ceilDiv (statsLen rd p) 256 + 1) + 1)] else [])

/-- Bytes per second of an output's stores (R241); a twinned dewarped output writes a second store
(R290). -/
def outLp5x (rd : Cfg) (p o cls : Nat) (twin : Bool) : Fr :=
  let t := outPeriod rd p o (frameNs rd p)
  let c := cropOf rd p o
  let fs := if outDest rd p o = 1 then frameBytes rd p o else 0
  let dw := if outDewarp rd p o then
    (c.w * c.h + 2 * outW rd p o * outH rd p o) * 2 * outComps rd p o cls * (if twin then 2 else 1) else 0
  Fr.mk' ((fs + dw) * 10 ^ 9) t

/-! ### Demand of a target (R282 to R287) -/

/-- What admission charges for a configuration; `slice16` is the slice time in 1/16 ns times
`sliceDen`. -/
structure Demand where
  intake : Fr
  host : Fr
  twin : Fr
  twinOn : Bool
  chainNs : Nat
  chainSlot : Nat
  slice : Fr
  shelf : Nat
  drawer : Nat
  drawerSlot : Nat
  cells : KMap Nat
  lp5x : Fr
  latency : List Fr
  latencyMax : Nat
  tileReq : Nat
  pipe : Bool
  deriving DecidableEq, Repr

def Demand.allCells (d : Demand) : Nat := sumList (d.cells.map (fun x => x.2))

/-- The demand of pipeline `p` under a configuration. -/
def pipeDemand (rd : Cfg) (p : Nat) : Demand :=
  let inp := inputOf rd p
  let e := (inp.map (fun x => x.1)).getD (0, 0)
  let f := (inp.map (fun x => x.2)).getD ⟨0, 0, 0, 1⟩
  let (w, h) := if inp.isSome then entryGeom rd e.1 e.2 else (0, 0)
  let cls := (classOf rd p f).getD 15
  let sl := sliceH rd p
  let ctx := ctxOf rd p cls
  let fns := frameNs rd p
  let intake := Fr.mk' (w * h * 10 ^ 9) fns
  let pix := pixelCosts rd p cls (decide (32 ≤ e.1)) f
  let kin := sumList (pix.map (fun x => x.2))
  let emb := if anyParse rd p then 40000 else 0
  let frame := emb + (if flickOn rd p then 200000 else 0)
  let extra := (if statsOn rd p then 40 else 0) + (if flickOn rd p then 6 else 0)
  let outs := outsOn rd p
  let tmask := rd.f (fKSCHED_CTRL_TWIN_MASK p)
  let touts := outs.filter (fun o => bitAt tmask o)
  let term (o : Nat) : Fr := Fr.mk' (outCost rd p o cls * 10 ^ 9) (outPeriod rd p o fns)
  let run := runSlots rd p pix
  let dr (n : Nat) : Nat := drawerKiB (slotKernel rd p cls n) sl
  let dmax := maxList (run.map dr)
  let chain := chainOf rd p pix
  { intake := intake
    host := Fr.sum (Fr.scale (kin + extra) intake :: Fr.mk' (frame * 10 ^ 9) fns :: outs.map term)
    twin := if touts.isEmpty then Fr.zero
      else Fr.sum (Fr.scale kin intake :: Fr.mk' (emb * 10 ^ 9) fns :: touts.map term)
    twinOn := !touts.isEmpty
    chainNs := sumList (chain.map (pieceLimit rd p)) * 500 + 8000
    chainSlot := worstSlot rd p chain
    slice := ⟨sl * lineT16 rd p, 16⟩
    shelf := 3 * sl * w * f.per * 2 + 2 * (sl + 8) * w * 16 + 65536
    drawer := dmax
    drawerSlot := (run.find? (fun n => dr n == dmax)).getD 0
    cells := pipeCells rd p h sl ctx
    lp5x := Fr.sum (outs.map (fun o => outLp5x rd p o cls (bitAt tmask o)))
    latency := (List.range 4).map (fun o =>
      if outEn rd p o then
        let la := if outDewarp rd p o then lookAhead rd p o h sl ctx else 0
        ⟨(la + 2 * sl) * lineT16 rd p + 80000 * 16, 16⟩
      else Fr.zero)
    latencyMax := 100000000
    tileReq := rd.f (fKSCHED_CTRL_TILE_REQ p)
    pipe := true }

/-! ### Canvases (R242, R247) -/

def cvSlice (rd : Cfg) (c : Nat) : Nat := 8 * 2 ^ rd.f (fCV_CFG_SLICE c)
def cvW (rd : Cfg) (c : Nat) : Nat := rd.f (fCV_SIZE_W c)
def cvH (rd : Cfg) (c : Nat) : Nat := rd.f (fCV_SIZE_H c)

/-- The canvas period P in ns: PERIOD, or the follower's tracked period, or SYNC NOM before the first. -/
def cvPeriod (s : State) (rd : Cfg) (c : Nat) : Fr :=
  let src := rd.f (fCV_CFG_SRC c)
  if src = 0 then Fr.ofNat (rd (rCV_PERIOD c))
  else
    let f := kgetD {} (src - 1) s.regu.follow
    if 0 < f.period then ⟨f.period.toNat, 256⟩ else Fr.ofNat (s.rn (rSYNC_NOM (src - 1)))

/-- The canvas slice time t_cs = P × CS / CH. -/
def cvSliceTime (s : State) (rd : Cfg) (c : Nat) : Fr :=
  let p := cvPeriod s rd c
  ⟨p.num * cvSlice rd c, p.den * max 1 (cvH rd c)⟩

/-- The enabled views of a canvas. -/
def viewsOn (rd : Cfg) (c : Nat) : List Nat := (List.range 16).filter (fun v => rd.on (fCV_VIEW_CTRL_EN c v))
/-- The source pipeline and output of a view. -/
def viewSrc (rd : Cfg) (c v : Nat) : Nat × Nat :=
  (rd.f (fCV_VIEW_CTRL_STREAM c v) / 4, rd.f (fCV_VIEW_CTRL_STREAM c v) % 4)

/-- The rectangle that a view copies after clipping (R243): width and height. -/
def viewClip (rd : Cfg) (srcs : Nat → Nat → Cfg) (c v : Nat) : Nat × Nat :=
  let (p, o) := viewSrc rd c v
  let src := srcs p o
  let len (size at1 lim1 at2 lim2 : Nat) : Nat := min size (min (lim1 - at1) (lim2 - at2))
  (len (rd.f (fCV_VIEW_SIZE_XW c v)) (rd.f (fCV_VIEW_SRC_XY_XW c v)) (outW src p o)
     (rd.f (fCV_VIEW_DST_XY_XW c v)) (cvW rd c),
   len (rd.f (fCV_VIEW_SIZE_YH c v)) (rd.f (fCV_VIEW_SRC_XY_YH c v)) (outH src p o)
     (rd.f (fCV_VIEW_DST_XY_YH c v)) (cvH rd c))

/-- The demand of canvas `c` under a configuration; `srcs` gives the configuration of each source. -/
def canvasDemand (s : State) (rd : Cfg) (srcs : Nat → Nat → Cfg) (c : Nat) : Demand :=
  let per := cvPeriod s rd c
  let drawn := sumList ((viewsOn rd c).map (fun v =>
    let (w, h) := viewClip rd srcs c v
    w * h))
  let bytes := sumList ((viewsOn rd c).map (fun v =>
    let (p, o) := viewSrc rd c v
    let b := fmtBytes (outFormat (srcs p o) p o)
    rd.f (fCV_VIEW_SIZE_XW c v) * rd.f (fCV_VIEW_SIZE_YH c v) * (b.1 + b.2)))
  let t := cvSliceTime s rd c
  let pl := bitsOf (rd (rCV_KSLOT_PARAM c)) 0 4
  { intake := Fr.zero
    host := Fr.mk' ((8 * cvW rd c * cvH rd c + 20 * drawn) * 10 ^ 9 * per.den) per.num
    twin := Fr.zero
    twinOn := false
    chainNs := pl * 500 + 8000
    chainSlot := 0
    slice := t
    shelf := 2 * cvSlice rd c * cvW rd c * 4 + 65536
    drawer := drawerKiB 0x0130 (cvSlice rd c)
    drawerSlot := 0
    cells := [(0x80 + c, sliceCells (depthOf rd (0x80 + c)) (cvSlice rd c * rd.f (fCV_STRIDE_BYTES c)))]
    lp5x := Fr.mk' (bytes * 10 ^ 9 * per.den) per.num
    latency := [Fr.add t (Fr.ofNat 80000)]
    latencyMax := 10000000
    tileReq := rd.f (fCV_CFG_TILE c)
    pipe := false }

end Sys2Proof.Machine
end

