-- ==== Sys2Proof/Machine/Admission.lean ====
section
/-!
DEFINITION. Admission (spec/12_wheels.md R283 to R287) and the consistency rules
(spec/08_frames_commits_hallmarks.md R182) in the committed view of R175.
-/

namespace Sys2Proof.Machine

/-! ### Resources -/

def tileUp (s : State) (t : Nat) : Bool := s.fv (fTILE_STATUS_STATE t) == 1
def tilesUp (s : State) : List Nat := (List.range 8).filter (tileUp s)
/-- C_t in lane-operations per second (R283). -/
def tileCap (s : State) (t : Nat) : Nat :=
  if tileUp s t then s.fv (fTILE_STATUS_HEALTHY t) * 25600000000 else 0
/-- A memory stack counts only while its domain is ON (R534). -/
def stackUp (s : State) (m : Nat) : Bool := domOn s (10 + m)
def stacksUp (s : State) : Nat := b2n (stackUp s 0) + b2n (stackUp s 1)
/-- A range of LP5X addresses lies wholly in stacks in service. -/
def lpRange (s : State) (addr len : Nat) : Bool :=
  decide (addr + len ≤ 2 ^ 34)
    && (!decide (addr < 2 ^ 33) || len == 0 || stackUp s 0)
    && (!decide (2 ^ 33 < addr + len) || stackUp s 1)

/-- A of R300. -/
def poolLimit (s : State) : Nat :=
  393216 - 4096 - (s.fv fLARDER_RETIRED_BOOT + s.larder.retired.length)

/-- Software queue `q` is enabled: CFG.EN of `q`, 0 at reset and so 0 where nothing lists the register. The scans over
all 3,904 software queues read it this way. -/
def softEn (s : State) (q : Nat) : Bool := (kget (rLQ_CFG q) s.regs).any (fun w => bitAt w.toNat 0)

/-- RESERVE of software queues that are enabled or still releasing it (R305, R315). -/
def softReserve (s : State) : Nat :=
  sumList ((List.range 3904).map (fun i =>
    let q := 192 + i
    if softEn s q || (kgetD {} q s.larder.queue).releasing then s.fv (fLQ_RESERVE_CELLS q) else 0))

/-! ### Sets of the committed view (R175) -/

def placeOf (s : State) (t : Nat) : Place := kgetD {} t s.place

/-- The armed commit of a target. -/
def armedOf (s : State) (t : Nat) : Option CommitRec := s.commits.find? (fun c => c.target == t && c.armed)

/-- The set that a commit of target `t` would make active. -/
def newCfg (s : State) (t : Nat) : Cfg := if t < 32 then swapCfg s t else s.rn

/-- The configuration of a canvas source: its active set, or the armed one where only that makes a frame
store. -/
def sourceCfg (s : State) (p o : Nat) : Cfg :=
  let a := actCfg s
  if outEn a p o && outDest a p o == 1 then a
  else if (armedOf s p).isSome then swapCfg s p else a

def demandOf (s : State) (rd : Cfg) (t : Nat) : Demand :=
  if t < 32 then pipeDemand rd t else canvasDemand s rd (sourceCfg s) (t - 32)

def activeSet (s : State) (t : Nat) : List (Demand × Place) :=
  if (placeOf s t).host.isSome then [(demandOf s (actCfg s) t, placeOf s t)] else []
def armedSet (s : State) (t : Nat) : List (Demand × Place) :=
  match armedOf s t with
  | some c => [(demandOf s (newCfg s t) t, c.place)]
  | none => []

/-- The sets of every other target. -/
def otherSets (s : State) (t : Nat) : List (List (Demand × Place)) :=
  ((List.range 36).filter (fun u => u != t)).map (fun u => activeSet s u ++ armedSet s u)

/-- The largest of what the sets of a target charge. -/
def frMax (f : Demand × Place → Fr) (l : List (Demand × Place)) : Fr :=
  l.foldl (fun a x => Fr.max a (f x)) Fr.zero
def natMax (f : Demand × Place → Nat) (l : List (Demand × Place)) : Nat := maxList (l.map f)

def loadOn (tile : Nat) (x : Demand × Place) : Fr :=
  Fr.add (if x.2.host = some tile then x.1.host else Fr.zero) (if x.2.twin = some tile then x.1.twin else Fr.zero)
def onTile (tile : Nat) (x : Demand × Place) : Bool := x.2.host == some tile || x.2.twin == some tile
def intakeOn (tile : Nat) (x : Demand × Place) : Fr := if onTile tile x then x.1.intake else Fr.zero
def shelfOn (tile : Nat) (x : Demand × Place) : Nat := if onTile tile x then x.1.shelf else 0

def sumFr (f : Demand × Place → Fr) (l : List (List (Demand × Place))) : Fr := Fr.sum (l.map (frMax f))
def sumNat (f : Demand × Place → Nat) (l : List (List (Demand × Place))) : Nat := sumList (l.map (natMax f))

/-! ### The rules of admission (R183, R283 to R286) -/

/-- What admission found; figures behind the failing rule are 0 (R184). -/
structure Admit where
  rule : Nat := 0
  detail : Nat := 0
  place : Place := {}
  ops : Nat := 0
  permille : Nat := 0
  intake : Nat := 0
  cells : Nat := 0
  lp5x : Nat := 0
  latency : List Nat := []
  deriving DecidableEq, Repr

/-- Load as a fraction of capacity. -/
def ratio (load : Fr) (cap : Nat) : Fr := ⟨load.num, load.den * max 1 cap⟩

/-- A tile goes into an order of rising load, the lower index first on a tie. -/
def insTile (k : Nat → Fr) (t : Nat) : List Nat → List Nat
  | [] => [t]
  | u :: us => if Fr.lt (k t) (k u) || (Fr.le (k t) (k u) && decide (t < u)) then t :: u :: us else u :: insTile k t us
def sortTiles (k : Nat → Fr) (l : List Nat) : List Nat := l.foldl (fun a t => insTile k t a) []

/-- The twin tile for a demand whose host is `host` (R286). -/
def findTwin (s : State) (others : List (List (Demand × Place))) (own : List (Demand × Place)) (d : Demand)
    (host : Nat) (excl : List Nat) : Option Nat :=
  let after (t : Nat) : List (List (Demand × Place)) :=
    (own ++ [(d, { host := some host, twin := some t })]) :: others
  let cand := (tilesUp s).filter (fun t => t != host && !excl.contains t)
  (sortTiles (fun t => ratio (sumFr (loadOn t) (after t)) (tileCap s t)) cand).find? (fun t =>
    Fr.le (sumFr (loadOn t) (after t)) (Fr.ofNat (tileCap s t))
      && Fr.le (sumFr (intakeOn t) (after t)) (Fr.ofNat 2000000000)
      && decide (sumNat (shelfOn t) (after t) ≤ 24117248))

/-- The rules on one candidate host tile. -/
def admitOn (s : State) (others : List (List (Demand × Place))) (own : List (Demand × Place)) (d : Demand)
    (excl : List Nat) (tile : Nat) : Admit :=
  let new : Demand × Place := (d, { host := some tile })
  let all := (own ++ [new]) :: others
  let load := sumFr (loadOn tile) all
  let cap := tileCap s tile
  let r : Admit := {
    place := { host := some tile }
    ops := ceilDiv (Fr.add d.host d.twin).num ((Fr.add d.host d.twin).den * 1000000)
    permille := if cap = 0 then (if load.num = 0 then 0 else 2047)
      else min 2047 (ceilDiv (load.num * 1000) (load.den * cap)) }
  if !Fr.le load (Fr.ofNat cap) then { r with rule := 0x0701 }
  else if !Fr.le (Fr.ofNat d.chainNs) d.slice then { r with rule := 0x0701, detail := d.chainSlot }
  else
    let r := { r with intake := ceilDiv d.intake.num (d.intake.den * 1000) }
    if !Fr.le (sumFr (intakeOn tile) all) (Fr.ofNat 2000000000) then { r with rule := 0x0702 }
    else if !Fr.le d.intake (Fr.ofNat 640000000) then { r with rule := 0x0703 }
    else if !Fr.le (sumFr (fun x => x.1.intake) all) (Fr.ofNat (2000000000 * (tilesUp s).length)) then
      { r with rule := 0x0704 }
    else
      let r := { r with cells := d.allCells }
      if poolLimit s < sumNat (fun x => x.1.allCells) all + softReserve s then { r with rule := 0x0705 }
      else
        let r := { r with lp5x := ceilDiv d.lp5x.num (d.lp5x.den * 1000000) }
        if !Fr.le (sumFr (fun x => x.1.lp5x) all) (Fr.ofNat (54600000000 * stacksUp s)) then
          { r with rule := 0x0706 }
        else
          let r := { r with latency := d.latency.map Fr.ceil }
          match (List.range d.latency.length).find? (fun o =>
            !Fr.le (d.latency.getD o Fr.zero) (Fr.ofNat d.latencyMax)) with
          | some o => { r with rule := 0x0707, detail := o }
          | none =>
            let tw := if d.twinOn then findTwin s others own d tile excl else none
            if d.twinOn && tw.isNone then { r with rule := 0x0708 }
            else
              let r := { r with place := { host := some tile, twin := tw } }
              if 56 < d.drawer then { r with rule := 0x0709, detail := d.drawerSlot }
              else if 24117248 < sumNat (shelfOn tile) all then { r with rule := 0x0709 }
              else r

/-- The first candidate that qualifies, else what the first candidate failed. -/
def firstOk (f : Nat → Admit) : List Nat → Option Admit → Option Admit
  | [], seen => seen
  | t :: ts, seen =>
    let r := f t
    if r.rule = 0 then some r else firstOk f ts (some (seen.getD r))

/-- Placement of target `t` with demand `d` (R286). `own` are its sets that stay charged, `keep` the host
that a started pipeline keeps, `req` the tile named (8 none), `excl` the tiles excluded. -/
def admitTile (s : State) (t : Nat) (d : Demand) (own : List (Demand × Place)) (keep : Option Nat) (req : Nat)
    (excl : List Nat) : Admit :=
  let others := otherSets s t
  let f := admitOn s others own d excl
  if req < 8 then f req
  else
    let key (u : Nat) : Fr := ratio (sumFr (loadOn u) ((own ++ [(d, { host := some u })]) :: others)) (tileCap s u)
    let cand := sortTiles key ((tilesUp s).filter (fun u => !excl.contains u))
    let cand := match keep with
      | some h => if cand.contains h then h :: cand.filter (fun u => u != h) else cand
      | none => cand
    match firstOk f cand none with
    | some r => r
    | none => { rule := 0x0701 }

/-- Admission of a commit of target `t`. -/
def admitCommit (s : State) (t : Nat) : Admit :=
  let d := demandOf s (newCfg s t) t
  let running := if t < 32 then s.started.contains t else s.on (fCV_ENABLE_EN (t - 32))
  admitTile s t d (if running then activeSet s t else []) (if running then (placeOf s t).host else none) d.tileReq []

/-! ### Consistency rules (R182) -/

/-- A failing rule: its code, DETAIL and SOURCE. -/
abbrev Broken := Nat × Nat × Nat

def rule (bad : Bool) (code detail source : Nat) : List Broken := if bad then [(code, detail, source)] else []

/-- Port `n` (32 and above an LPORT) is absent, or its CTRL.EN is 0. -/
def portDown (s : State) (n : Nat) : Bool :=
  if n < 32 then s.on (fSPORT_STATUS_ABSENT n) || !s.on (fSPORT_CTRL_EN n)
  else s.on (fLPORT_STATUS_ABSENT (n - 32)) || !s.on (fLPORT_CTRL_EN (n - 32))

/-- Rule 0x0107: the entries' ports. -/
def portRule (s : State) (es : List (Nat × Nat)) : List Broken :=
  es.flatMap (fun e => rule (portDown s e.1) 0x0107 e.2 e.1)

/-- Rule 0x010A: the first entry that would leave another started pipeline for `p`. -/
def moveRule (s : State) (p : Nat) : List Broken :=
  let all := (List.range 32).flatMap (fun n => (List.range 16).map (fun k => (n, k)))
    ++ (List.range 4).map (fun m => (32 + m, 0))
  all.flatMap (fun e =>
    rule (entryPipe s.rn e == p && entryOn s.arn e && entryPipe s.arn e != p
      && s.started.contains (entryPipe s.arn e)) 0x010A e.2 e.1)

/-- Rules 0x0101 to 0x010A for pipeline `p` under its new set. -/
def mapRules (s : State) (rd : Cfg) (p : Nat) : List Broken :=
  let es := mapEntries rd p
  let each (f : Nat × Nat → Bool) (code : Nat) : List Broken :=
    es.flatMap (fun e => rule (f e) code e.2 e.1)
  let fmt (e : Nat × Nat) : Option InFmt := entryFmt rd e.1 e.2
  let h := (es.head?.map (fun e => (entryGeom rd e.1 e.2).2)).getD 0
  let lg := rd.f (fKSCHED_CTRL_SLICE_LOG2 p)
  (match es[1]? with | some e => [(0x0101, e.2, e.1)] | none => [])
    ++ each (fun e => decide (e.1 < 32) && decide (4 ≤ e.2) && !s.on (fSPORT_CTRL_VCX e.1)) 0x0102
    ++ each (fun e => (fmt e).isNone) 0x0103
    ++ each (fun e =>
      let w := (entryGeom rd e.1 e.2).1
      decide (w < 16) || decide (8192 < w) || (match fmt e with | some f => w % f.group != 0 | none => false)) 0x0104
    ++ each (fun e =>
      let h := (entryGeom rd e.1 e.2).2
      decide (h < 2) || decide (8192 < h)) 0x0105
    ++ each (fun e => decide (4 < (entryEmb rd e.1 e.2).1) || decide (4 < (entryEmb rd e.1 e.2).2)) 0x0106
    ++ portRule s es
    ++ rule (es.isEmpty && !(outsOn rd p).isEmpty) 0x0108 ((outsOn rd p).headD 0) 0
    ++ rule (lg < 3 || 6 < lg || (!es.isEmpty && h < 2 * 2 ^ lg)) 0x0109 0 ((es.head?.map (fun e => e.1)).getD 0)
    ++ moveRule s p

/-- Rules 0x0201 and 0x0202. -/
def frontRules (s : State) (rd : Cfg) (p : Nat) (f : InFmt) (cls : Option Nat) : List Broken :=
  let on (x : Nat → Fld) : Bool := rd.on (x p)
  let rawOnly := on fFE_CTRL_BL_EN || on fFE_CTRL_DEF_STATIC_EN || on fFE_CTRL_DEF_DYN_EN
    || on fFE_CTRL_DECOMP_EN || on fFE_CTRL_SHADING_EN || on fFE_CTRL_WB_EN
    || (anyStats rd p && rd.f (fSTATS_CTRL_TAP p) == 0)
  let tab (u : Bool) (id : Nat) : List Broken := rule (u && !tableDone s p id) 0x0202 id 0
  rule (cls.isNone || (!f.raw && rawOnly)) 0x0201 0 0
    ++ tab (on fFE_CTRL_DEF_STATIC_EN) 1 ++ tab (on fFE_CTRL_DECOMP_EN) 2 ++ tab (on fFE_CTRL_TONE_EN) 3
    ++ tab (on fFE_CTRL_TONE_IR_EN && classComps (cls.getD 0) == 4) 4 ++ tab (on fFE_CTRL_SHADING_EN) 5

/-- The layout of output `o` breaks R237, R239 or R234. -/
def layoutBad (s : State) (rd : Cfg) (p o cls : Nat) : Bool :=
  let fm := outFormat rd p o
  let ow := outW rd p o
  let oh := outH rd p o
  let s0 := rd.f (fOUT_STRIDE0_BYTES p o)
  let s1 := rd.f (fOUT_STRIDE1_BYTES p o)
  let p1 := rd (rOUT_PLANE1_OFF p o)
  let b := fmtBytes fm
  let pitch := fsPitch rd p o
  let buf := dwBuf (cropOf rd p o) (outComps rd p o cls)
  let copies := if bitAt (rd.f (fKSCHED_CTRL_TWIN_MASK p)) o then 4 else 2
  (fmtEven fm && ow % 2 != 0) || s0 % 64 != 0 || decide (s0 < ow * b.1)
    || (fmtTwo fm && (s1 % 64 != 0 || p1 % 64 != 0 || decide (s1 < ow * b.2) || decide (p1 < s0 * oh)))
    || (outDest rd p o == 1 && (decide (pitch < frameBytes rd p o + 64)
      || !lpRange s (fsBase rd p o) (fsCount rd p o * pitch)))
    || (outDewarp rd p o && !lpRange s (dwBase rd p o) (copies * buf))

/-- Rules 0x0301 to 0x0307 of one output. -/
def outRules (s : State) (rd : Cfg) (p o w h cls ctx : Nat) (raw : Bool) : List Broken :=
  let c := cropOf rd p o
  let ow := outW rd p o
  let oh := outH rd p o
  let dw := outDewarp rd p o
  let mo := outMosaic rd p o
  let out (v lo hi : Nat) : Bool := decide (v < lo) || decide (hi < v)
  rule (out c.w 16 8192 || out c.h 2 8192 || decide (w < c.x + c.w) || decide (h < c.y + c.h)) 0x0301 o 0
    ++ rule (if mo then ow != c.w || oh != c.h
      else if dw then out ow 16 8192 || out oh 2 8192
      else out ow (max 16 (ceilDiv c.w 8)) (min 8192 (4 * c.w)) || out oh (max 2 (ceilDiv c.h 8)) (min 8192 (4 * c.h)))
      0x0302 o 0
    ++ rule (decide (2 ≤ o) && rd.on (fOUT_CTRL_DEWARP_EN p o)) 0x0303 o 0
    ++ rule (dw && (!tableDone s p (0x20 + o) || decide (64 < lookAhead rd p o h (sliceH rd p) ctx))) 0x0304 o 0
    ++ rule ((mo && !raw) || !fmtOk (outFormat rd p o) mo (classComps cls)) 0x0305 o 0
    ++ rule (layoutBad s rd p o cls) 0x0306 o 0
    ++ rule (rd.on (fOUT_DECIM_MODE p o) && decide (1000000 < rd.f (fOUT_DECIM_INTERVAL_US p o))) 0x0307 o 0

/-- Rules 0x0501 to 0x0503 of a slot with kernel ID `kid` and parameter word `param`. -/
def slotRules (s : State) (slot role kid param : Nat) (meth : Option Nat) : List Broken :=
  let known := library.any (fun x => x.1 == kid && x.2 == role) && s.pow.boot.kernelIds.contains kid
  let serves := match meth with | some m => methodKid kid == m | none => true
  rule (kid != 0 && !(known && serves)) 0x0501 slot 0
    ++ rule (decide (param < 1) || decide (8 < param)) 0x0503 slot 0

def pipeSlotRules (s : State) (rd : Cfg) (p cls : Nat) : List Broken :=
  (List.range 16).flatMap (fun n =>
    slotRules s n n (rd.f (fKSLOT_KID_ID p n)) (rd (rKSLOT_PARAM p n)) (if n = 7 then some (methodOf cls) else none))

/-- Rules 0x0601 and 0x0602. -/
def freshRules (rd : Cfg) (p : Nat) (d : Demand) : List Broken :=
  (outsOn rd p).flatMap (fun o =>
    let b := rd.f (fCMT_FRESH_CFG_BUDGET_MS p o)
    rule (decide (b < 10) || decide (1000 < b)) 0x0601 o 0
      ++ rule (Fr.lt (Fr.ofNat (b * 1000000))
        (Fr.add (Fr.ofNat (outPeriod rd p o (frameNs rd p))) (d.latency.getD o Fr.zero))) 0x0602 o 0)

/-- The rule with the lowest code; the first found among equals (R176). -/
def firstRule (l : List Broken) : Option Broken :=
  l.foldl (fun a b => match a with
    | none => some b
    | some x => if b.1 < x.1 then some b else some x) none

/-- Every broken rule of a pipeline's new set. -/
def pipeRules (s : State) (rd : Cfg) (p : Nat) : List Broken :=
  let inp := inputOf rd p
  let e := (inp.map (fun x => x.1)).getD (0, 0)
  let f := (inp.map (fun x => x.2)).getD ⟨0, 0, 0, 1⟩
  let (w, h) := if inp.isSome then entryGeom rd e.1 e.2 else (0, 0)
  let cls := classOf rd p f
  let ctx := ctxOf rd p (cls.getD 0)
  mapRules s rd p ++ frontRules s rd p f cls
    ++ (outsOn rd p).flatMap (fun o => outRules s rd p o w h (cls.getD 0) ctx f.raw)
    ++ pipeSlotRules s rd p (cls.getD 0) ++ freshRules rd p (pipeDemand rd p)

/-- An output feeds a frame store in the active or the armed set of its pipeline. -/
def feedsStore (s : State) (p o : Nat) : Bool :=
  let ok (rd : Cfg) : Bool := outEn rd p o && outDest rd p o == 1
  ok (actCfg s) || ((armedOf s p).isSome && ok (swapCfg s p))

/-- Every broken rule of a canvas's new set. -/
def canvasRules (s : State) (rd : Cfg) (c : Nat) : List Broken :=
  let st := rd.f (fCV_STRIDE_BYTES c)
  let src := rd.f (fCV_CFG_SRC c)
  let per := if src = 0 then rd (rCV_PERIOD c) else s.rn (rSYNC_NOM (src - 1))
  rule (st % 64 != 0 || decide (st < 4 * cvW rd c)) 0x0306 0 0
    ++ (viewsOn rd c).flatMap (fun v =>
      let (p, o) := viewSrc rd c v
      rule (!feedsStore s p o) 0x0401 v 0)
    ++ rule (decide (3840 < cvW rd c) || decide (2160 < cvH rd c) || decide (per < 16666667)) 0x0402 0 0
    ++ rule (!tileUp s (rd.f (fCV_CFG_TILE c))) 0x0403 0 0
    ++ slotRules s 0 16 (rd.f (fCV_KSLOT_KID_ID c)) (rd (rCV_KSLOT_PARAM c)) none

/-- The consistency check of target `t`. -/
def consistency (s : State) (t : Nat) : Option Broken :=
  firstRule (if t < 32 then pipeRules s (swapCfg s t) t else canvasRules s s.rn (t - 32))

end Sys2Proof.Machine
end

