-- ==== Sys2Proof/Machine/IslandOps.lean ====
section
/-!
DEFINITION. What other blocks share with the safety island (spec/21_safety.md): the event log, the
causes, the heartbeat and the freshness of the views it watches.
-/

namespace Sys2Proof.Machine

/-! ### The event log (R507, R508) -/

/-- The records that a full buffer drops first: the oldest uncommitted one that is not a latched cause. -/
def dropOldest : List LogRec → List LogRec
  | [] => []
  | r :: rs =>
    if (rs.any (fun x => !x.committed && x.kind != 2)) then r :: dropOldest rs
    else if !r.committed && r.kind != 2 then rs else r :: rs

/-- A repeat of a code within 1,000 ms of its last record adds 1 to that record's REPEAT. -/
def mergeLog (code now : Nat) : List LogRec → Option (List LogRec)
  | [] => none
  | r :: rs =>
    if r.code = code && (r.kind ≤ 2) then
      if now ≤ r.time + 1000000000 then
        some ({ r with rep := satTo 0xFFFF (r.rep + 1), committed := false } :: rs)
      else none
    else (mergeLog code now rs).map (fun l => r :: l)

/-- A record enters the log, newest first. -/
def logRec (s : State) (code kind detail : Nat) : State :=
  match (if kind ≤ 2 && code != 0 then mergeLog code s.dial s.isl.log else none) with
  | some l => { s with isl := { s.isl with log := l } }
  | none =>
    let r : LogRec := ⟨s.isl.nextSeq % 2 ^ 32, code, s.dial, s.isl.boot, 0, kind, detail, false⟩
    let full := 256 ≤ (s.isl.log.filter (fun x => !x.committed)).length
    let l := if full then dropOldest s.isl.log else s.isl.log
    let gone := s.isl.log.length - l.length
    let t := { s with isl := { s.isl with log := r :: l, nextSeq := s.isl.nextSeq + 1 } }
    t.setF fSAFE_LOG_STATUS_HELD (satTo 0xFFFF (s.fv fSAFE_LOG_STATUS_HELD + 1 - gone))

/-- The 32 bytes of a record (R508). -/
def logBytes (r : LogRec) : List Byte :=
  let b := leBytes 4 r.seq ++ leBytes 4 r.code ++ leBytes 8 r.time ++ leBytes 4 r.boot
    ++ leBytes 2 r.rep ++ leBytes 1 r.kind ++ [0] ++ leBytes 4 r.detail
  b ++ leBytes 4 (crc32c b).toNat

/-! ### Heartbeat and causes (R490 to R494) -/

/-- SAFE.STATUS.SOK: 0 NOT_STARTED, 1 RUNNING, 2 STATIC. -/
def sok (s : State) : Nat := s.fv fSAFE_STATUS_SOK
/-- The device is in its safe state (R490). -/
def sokStatic (s : State) : Bool := sok s != 1
/-- SAFE.STATUS.WIND_STATE: 0 NOT_STARTED, 1 STARTING, 2 RUNNING, 3 LAPSED. -/
def windState (s : State) : Nat := s.fv fSAFE_STATUS_WIND_STATE

/-- The heartbeat stops: both outputs are static low. A recoverable cause asks for a release. -/
def stopSok (s : State) (release : Bool) : State :=
  if sok s = 1 then
    let t := (s.setF fSAFE_STATUS_SOK 2).setF fMGT_ALERT_STATUS_SAFE_STATE 1
    let t := { t with isl := { t.isl with sokA := false } }
    if release then t.setF fSAFE_STATUS_RELEASE_NEEDED 1 else t
  else s

/-- Cause `k` is set (R494). -/
def setCause (s : State) (k : Nat) : State :=
  let was := bitAt (s.fv fSAFE_CAUSE_CAUSES) k
  let t := s.setF ⟨rSAFE_CAUSE, k, 1⟩ 1
  let t := t.setF ⟨rSAFE_CAUSE_SEEN, k, 1⟩ 1
  let t := if k = 8 then t.setF fSAFE_STATUS_LATCHED 1 else t
  let t := stopSok t (k != 8 && k != 0)
  if was then t else t.ev fSAFE_EVENT_CAUSE_SET

/-- Cause `k` is cleared; the clearing is recorded (R507). -/
def clearCause (s : State) (k : Nat) : State :=
  if bitAt (s.fv fSAFE_CAUSE_CAUSES) k then
    logRec ((s.setF ⟨rSAFE_CAUSE, k, 1⟩ 0).ev fSAFE_EVENT_CAUSE_CLEARED) 0 3 k
  else s

/-- HW_FAULT is set by fault code `code`: the first one is kept with its dial time (R494). -/
def hwFault (s : State) (code : Nat) : State :=
  let t := if s.fv ⟨rSAFE_CAUSE, 8, 1⟩ = 0 then
    (s.setRn rSAFE_FIRST_FAULT code).setPair rSAFE_FIRST_TIME_LO rSAFE_FIRST_TIME_HI s.dial else s
  setCause t 8

/-! ### Views -/

/-- Whether stream `st` is a safety view (R488). -/
def isSafety (s : State) (st : Nat) : Bool :=
  if st < 128 then bitAt (s.rn (rSAFE_SAFETY_VIEWS (st / 32))) (st % 32)
  else bitAt (s.rn rSAFE_SAFETY_CV) (st - 128)

/-- Whether stream `st` is a display-confirmed view (R488, R500). -/
def isDisplay (s : State) (st : Nat) : Bool :=
  isSafety s st && (if st < 128 then bitAt (s.rn (rSAFE_DISPLAY_REQ (st / 32))) (st % 32)
  else bitAt (s.rn rSAFE_DISPLAY_CV) (st - 128))

/-- The freshness record of a view. -/
def fresh (s : State) (st : Nat) : Fresh := kgetD {} st s.fresh
def setFresh (s : State) (st : Nat) (f : Fresh) : State := { s with fresh := kput st f s.fresh }

/-- STALE of a view: its register, or the island's own record for a canvas (R194, R500). -/
def viewStale (s : State) (st : Nat) : Bool :=
  if st < 128 then s.on (fCMT_FRESH_STATUS_STALE (st / 4) (st % 4)) else (fresh s st).stale

/-- STALE of a view is written. -/
def setStale (s : State) (st : Nat) (b : Bool) : State :=
  let t := setFresh s st { fresh s st with stale := b }
  if st < 128 then t.setF (fCMT_FRESH_STATUS_STALE (st / 4) (st % 4)) (b2n b) else t

/-- A safety view went stale or was stopped: VIEW_STALE is set (R494). -/
def viewLost (s : State) (st : Nat) : State :=
  if isSafety s st then
    let l := if s.isl.staleViews.contains st then s.isl.staleViews else s.isl.staleViews ++ [st]
    setCause { s with isl := { s.isl with staleViews := l } } 3
  else s

/-- VIEW_STALE clears when every view that caused it has STALE at 0 (R494). -/
def viewFound (s : State) : State :=
  if bitAt (s.fv fSAFE_CAUSE_CAUSES) 3 && s.isl.staleViews.all (fun st => !viewStale s st) then
    clearCause { s with isl := { s.isl with staleViews := [] } } 3
  else s

/-- The budget of a view in milliseconds (R192, R505). -/
def budgetMs (s : State) (st : Nat) : Nat := (fresh s st).budget

/-! ### Hallmark keys (R520) -/

/-- Both hallmark keys are discarded. -/
def gmacDiscard (s : State) : State :=
  if s.ident.cur.isSome || s.ident.prev.isSome then
    let t := { s with ident := { s.ident with cur := none, prev := none } }
    let t := (t.setF fIDENT_GMAC_STATUS_ACTIVE 0).setF fIDENT_GMAC_STATUS_PREV_VALID 0
    (t.ev fATTIC_EVENT_GMAC_DISCARDED).report 0x08 0 0x0008
  else s

end Sys2Proof.Machine
end

