-- ==== Sys2Proof/Machine/MemOps.lean ====
section
/-!
DEFINITION. LP5X memory (spec/16_pcie_and_bridges.md R384, spec/23_power_clocks.md R534): bytes by address, a byte
that nothing has written reading as zero (R540), and the bytes that are poisoned.
-/

namespace Sys2Proof.Machine

/-- The byte at an LP5X address. -/
def memByte (s : State) (a : Nat) : Byte := (kget a s.mem).getD 0

/-- The memory with the bytes `bs` from address `a`. -/
def memPut : Nat → List Byte → List Host.Cell → List Host.Cell
  | _, [], m => m
  | a, b :: bs, m => memPut (a + 1) bs (kputD 0 a b m)

/-- `n` bytes from address `a`. -/
def memRead (s : State) (a n : Nat) : List Byte := (List.range n).map (fun i => memByte s (a + i))

/-- A byte of `n` from address `a` is poisoned. -/
def memBad (s : State) (a n : Nat) : Bool := s.memPoison.any (fun x => decide (a ≤ x) && decide (x < a + n))

/-- `bs` is written at `a`; the bytes are poisoned, or their poison goes. -/
def memWrite (s : State) (a : Nat) (bs : List Byte) (poison : Bool := false) : State :=
  let keep := s.memPoison.filter (fun x => !(decide (a ≤ x) && decide (x < a + bs.length)))
  { s with mem := memPut a bs s.mem,
           memPoison := if poison then keep ++ (List.range bs.length).map (fun i => a + i) else keep }

/-- Stack `m` loses its contents: every word zero with valid ECC (R540). -/
def memClear (s : State) (m : Nat) : State :=
  let out (x : Nat) : Bool := x / 2 ^ 33 != m
  { s with mem := kfilter out s.mem, memPoison := s.memPoison.filter out }

/-- The form of memory: addresses strictly rising, and no entry equal to what an unlisted address reads as. -/
abbrev Memory.wf (m : List Host.Cell) : Prop := ksorted m = true ∧ knoDefault 0 m = true

end Sys2Proof.Machine
end

