-- ==== Sys2Proof/Machine/AtticOps.lean ====
section
/-!
DEFINITION. The Attic (spec/22_identity_attic.md R522 to R530): its partitions, reading it, and programming and erasing it.
-/

namespace Sys2Proof.Machine

/-! ### Reading and writing (R522) -/

/-- The address lies in a Reserved range. -/
def atticReserved (a : Nat) : Bool :=
  (decide (0x220000 ≤ a) && decide (a < 0x400000)) || decide (0x3400000 ≤ a)

/-- The byte at an Attic address. -/
def atticByte (s : State) (a : Nat) : Byte :=
  if atticReserved a then 0xFF
  else match kget a s.attic.bytes with
    | some b => b
    | none => if s.attic.erased.contains (a / 65536) then 0xFF else Config.atticByte a

def atticRead (s : State) (a n : Nat) : List Byte := (List.range n).map (fun i => atticByte s (a + i))

/-- A sector is erased. -/
def atticErase (s : State) (sector : Nat) : State :=
  { s with attic := { s.attic with
    bytes := kfilter (fun a => a / 65536 != sector) s.attic.bytes,
    erased := sector :: s.attic.erased.filter (fun x => x != sector) } }

/-- The bytes `bs` stand from address `a`. -/
def atticPut : Nat → List Byte → KMap Byte → KMap Byte
  | _, [], m => m
  | a, b :: bs, m => atticPut (a + 1) bs (kput a b m)

/-- Bytes are programmed from address `a`. -/
def atticProgram (s : State) (a : Nat) (bs : List Byte) : State :=
  { s with attic := { s.attic with bytes := atticPut a bs s.attic.bytes } }

/-! ### Banks (R522 to R525) -/

/-- The address of a bank: PART 0 CONFIG, 1 FIRMWARE. -/
def bankBase (part bank : Nat) : Nat :=
  if part = 1 then 0x400000 + bank * 0x1000000 else 0x20000 + bank * 0x100000
def bankSize (part : Nat) : Nat := if part = 1 then 0x1000000 else 0x100000
/-- The index of a bank in STATUS.VALID and SEQ. -/
def bankIdx (part bank : Nat) : Nat := (if part = 1 then 0 else 2) + bank

def bankValid (s : State) (part bank : Nat) : Bool := bitAt (s.fv fATTIC_STATUS_VALID) (bankIdx part bank)
def bankSeq (s : State) (part bank : Nat) : Nat := s.rn (rATTIC_SEQ (bankIdx part bank))

/-- SEQ `a` is newer than SEQ `b` (R525). -/
def seqNewer (a b : Nat) : Bool :=
  let d := (a + 2 ^ 32 - b % 2 ^ 32) % 2 ^ 32
  decide (1 ≤ d) && decide (d < 2 ^ 31)

/-- A bank's validity and SEQ are known to be as given. -/
def setBank (s : State) (part bank : Nat) (valid : Bool) (seq : Nat) : State :=
  (s.setF ⟨rATTIC_STATUS, bankIdx part bank, 1⟩ (b2n valid)).setRn (rATTIC_SEQ (bankIdx part bank)) (if valid then seq else 0)

/-- The newest valid bank of a partition; bank 0 where neither is newer. -/
def newestBank (s : State) (part : Nat) : Option Nat :=
  match bankValid s part 0, bankValid s part 1 with
  | true, true => some (if seqNewer (bankSeq s part 1) (bankSeq s part 0) then 1 else 0)
  | true, false => some 0
  | false, true => some 1
  | false, false => none

/-- STATUS.CFG_BANK and CONFIG_EMPTY follow the CONFIG banks (R526). -/
def configBank (s : State) : State :=
  match newestBank s 0 with
  | some b => (s.setF fATTIC_STATUS_CFG_BANK b).setF fATTIC_STATUS_CONFIG_EMPTY 0
  | none => (s.setF fATTIC_STATUS_CFG_BANK 0).setF fATTIC_STATUS_CONFIG_EMPTY 1

/-- The bank that an update writes (R527). -/
def updTarget (s : State) (part : Nat) : Nat :=
  if part = 1 then 1 - s.fv fGLB_BOOT_STATUS_BANK
  else if s.on fATTIC_STATUS_CONFIG_EMPTY then 0 else 1 - s.fv fATTIC_STATUS_CFG_BANK

/-- The SEQ of a new bank (R525). -/
def updSeq (s : State) (part : Nat) : Nat :=
  match newestBank s part with
  | some b => (bankSeq s part b + 1) % 2 ^ 32
  | none => 1

/-! ### The event log (R507, R529) -/

/-- The address of the `k`-th record that this model commits. -/
def logAddr (k : Nat) : Nat := 0x2400000 + (Config.logBase + k) * 32 % 0x1000000

/-- A record is committed; the sector after the one that it begins is erased ahead. -/
def commitRec (s : State) (r : LogRec) : State :=
  let a := logAddr s.attic.logged
  let next := 0x240 + (a / 65536 - 0x240 + 1) % 256
  let s := if a % 65536 = 0 then atticErase s next else s
  let s := atticProgram s a (logBytes r)
  { s with attic := { s.attic with logged := s.attic.logged + 1 } }

/-- Every record not yet committed is committed, the oldest first. -/
def commitLog (s : State) : State :=
  let s := (s.isl.log.reverse.filter (fun r => !r.committed)).foldl commitRec s
  { s with isl := { s.isl with log := s.isl.log.map (fun r => { r with committed := true }) } }

end Sys2Proof.Machine
end

