-- ==== Sys2Proof/Machine/Attic.lean ====
section
/-!
DEFINITION. Writing and reading the Attic (spec/22_identity_attic.md R527 to R532), the commits of the event log
(spec/21_safety.md R507), and the memory scrub (R497).
-/

namespace Sys2Proof.Machine

/-! ### A bank update (R527, R528) -/

def updEnd (s : State) (result : Nat) : State :=
  let s := (s.setF fATTIC_UPD_STATUS_STATE 2).setF fATTIC_UPD_STATUS_RESULT result
  ({ s with attic := { s.attic with upd := none } }).ev fATTIC_EVENT_UPD_DONE

def setUpd (s : State) (u : AtticUpd) : State := { s with attic := { s.attic with upd := some u } }

def updSrc (s : State) : Nat := s.pair rATTIC_UPD_SRC_LO rATTIC_UPD_SRC_HI

/-- `n` rounded up to a multiple of 256. -/
def round256 (n : Nat) : Nat := ceilDiv n 256 * 256

/-- A write of UPD_CTRL. -/
def updCtrl (s : State) (v : Word) : State :=
  if !bitAt v.toNat 16 then s
  else
    let part := bitsOf v.toNat 17 1
    let src := updSrc s
    let len := s.fv fATTIC_UPD_LEN_BYTES
    let refused := s.report 0x08 0 0x0004
    if s.fv fATTIC_UPD_STATUS_STATE = 1 then refused.setF fATTIC_UPD_STATUS_RESULT 1
    else if bitsOf v.toNat 0 16 ≠ 0xA771 || !lpRange s src len then updEnd refused 1
    else
      let body := leNat (memRead s (src + 0x0C) 4)
      if bankSize part < body || len ≠ round256 (64 + body) then updEnd refused 1
      else
        let bank := updTarget s part
        let s := s.setRn rATTIC_UPD_STATUS 0
        let s := (s.setF fATTIC_UPD_STATUS_STATE 1).setF fATTIC_UPD_STATUS_BANK bank
        setUpd s { part := part, bank := bank, src := src, length := body, step := 0, next := 0, crc := 0, header := [] }
def execAtticUpdateStart (v : Word) (s : State) : Out := .next (hub s (updCtrl s v))

/-- The image in LP5X passes R524, with SEQ, BANK and HDR_CRC ignored; `sigOk` is the outcome of the signature check. -/
def imageOk (s : State) (u : AtticUpd) (sigOk : Bool) : Bool :=
  let h := memRead s u.src 64
  let major := leAt h 0x10 2
  let minor := leAt h 0x12 2
  let floorMajor := s.fv fIDENT_ROLLBACK_MAJOR
  leAt h 0 4 == 0x43545441 && leAt h 4 1 == 1 && leAt h 5 1 == (if u.part = 1 then 1 else 2)
    && leAt h 0x0C 4 == u.length && decide (64 ≤ u.length) && decide (u.length ≤ bankSize u.part - 64)
    && !memBad s u.src (64 + u.length)
    && leAt h 0x1C 4 == (crc32c (memRead s (u.src + 64) u.length)).toNat
    && (u.part == 0 || (sigOk && major == 3
      && (decide (floorMajor < major) || (floorMajor == major && decide (s.fv fIDENT_ROLLBACK_MINOR ≤ minor)))))

/-- Step 1 ends. -/
def imageChecked (s : State) (sigOk : Bool) : State :=
  match s.attic.upd with
  | some u =>
    if u.step ≠ 0 then s
    else if imageOk s u sigOk then
      let h := memRead s u.src 64
      setUpd s { u with step := 1, header := h, crc := leAt h 0x1C 4 }
    else updEnd (s.report 0x08 0 0x0004) 1
  | none => s
def execAtticImageChecked (sigOk : Bool) (s : State) : Out := .next (hub s (imageChecked s sigOk))

/-- A sector of the target has been erased; its first sector holds the header, so the bank is no longer valid. -/
def sectorErased (s : State) : State :=
  match s.attic.upd with
  | some u =>
    if u.step ≠ 1 then s
    else
      let s := atticErase s (bankBase u.part u.bank / 65536 + u.next)
      let s := if u.next = 0 then setBank s u.part u.bank false 0 else s
      if u.next + 1 < ceilDiv (64 + u.length) 65536 then setUpd s { u with next := u.next + 1 }
      else setUpd s { u with step := 2, next := 0 }
  | none => s
def execAtticSectorErased (s : State) : Out := .next (hub s (sectorErased s))

/-- The header that step 5 programs. -/
def newHeader (s : State) (u : AtticUpd) : List Byte :=
  let h := patchBytes (patchBytes (u.header.take 60) 6 (leBytes 1 u.bank)) 8 (leBytes 4 (updSeq s u.part))
  h ++ leBytes 4 (crc32c h).toNat

/-- A page has been programmed: the next one of the body, or the header, which completes the bank. -/
def pageProgrammed (s : State) : State :=
  match s.attic.upd with
  | some u =>
    let base := bankBase u.part u.bank
    if u.step = 2 then
      let lo := max 64 (256 * u.next)
      let hi := min (64 + u.length) (256 * (u.next + 1))
      let s := atticProgram s (base + lo) (memRead s (u.src + lo) (hi - lo))
      let s := s.bump fATTIC_UPD_STATUS_PAGES
      if u.next + 1 < ceilDiv (64 + u.length) 256 then setUpd s { u with next := u.next + 1 }
      else setUpd s { u with step := 3, next := 0 }
    else if u.step = 4 then
      let seq := updSeq s u.part
      let s := (atticProgram s base (newHeader s u)).bump fATTIC_UPD_STATUS_PAGES
      let s := setBank s u.part u.bank true seq
      updEnd (if u.part = 0 then configBank s else s) 0
    else s
  | none => s
def execAtticPageProgrammed (s : State) : Out := .next (hub s (pageProgrammed s))

/-- The body has been read back; `held` says that the flash holds what was programmed. -/
def readbackDone (s : State) (held : Bool) : State :=
  match s.attic.upd with
  | some u =>
    if u.step ≠ 3 then s
    else if held && (crc32c (atticRead s (bankBase u.part u.bank + 64) u.length)).toNat == u.crc then
      setUpd s { u with step := 4 }
    else updEnd (s.report 0x08 0 0x0005) 2
  | none => s
def execAtticReadbackDone (held : Bool) (s : State) : Out := .next (hub s (readbackDone s held))

/-- A write of READ_ADDR (R532). -/
def readAddr (s : State) (v : Word) : State :=
  let a := bitsOf v.toNat 8 18
  let s := s.setF fATTIC_READ_ADDR_ADDR a
  let bs := atticRead s (a * 256) 256
  (List.range 64).foldl (fun s i => s.setRn (rATTIC_READ_DATA i) (leAt bs (4 * i) 4)) s
def execReadAddr (v : Word) (s : State) : Out := .next (hub s (readAddr s v))

/-! ### The event log and the scrub -/

def execLogCommit (s : State) : Out := .next (if s.pow.powered && s.isl.running then commitLog s else s)

/-- An error that the scrub met: 0 a drawer or 1 a shelf of TILE[index], 2 LP5X. -/
def scrubHit (s : State) (h : ScrubHit) : State :=
  let n := h.index % 8
  match h.place with
  | 0 => if h.corrected && tileUp s n then s.bump (fTILE_CNT_C_DRAWER_CORR n) else s
  | 1 =>
    if !tileUp s n then s
    else if h.corrected then s.bump (fTILE_CNT_C_SHELF_CORR n)
    else
      let x := kgetD {} n s.tile
      { s with tile := kput n { x with
        shelfUe := s.now :: x.shelfUe.filter (fun t => s.now ≤ t + 1000000000) } s.tile }
  | _ =>
    let a := h.addr % 2 ^ 34
    let m := a / 2 ^ 33
    if !stackUp s m then s
    else if h.corrected then ((s.bump (fPWR_MEM_ECC_CORR m)).ev fPWR_EVENT_LP5X_CORR).report 0x0A m 0x0010
    else
      let s := { s with memPoison := if s.memPoison.contains a then s.memPoison else s.memPoison ++ [a] }
      ((s.bump (fPWR_MEM_ECC_UNCORR m)).ev fPWR_EVENT_LP5X_UNCORR).report 0x0A m 0x0011
def execMemoryScrub (found : List ScrubHit) (s : State) : Out := .next (hub s (found.foldl scrubHit s))

end Sys2Proof.Machine
end

