-- ==== Sys2Proof/Machine/MadcOps.lean ====
section
/-!
DEFINITION. The monitor converters' shared operations (spec/20_monitor_adc.md): their state, their passes and the
urgent triggers that a trigger schedule causes. Converters 0 and 1 are MADC[A] and MADC[B], 2 + n is TADC[n], 10 AADC.
-/

namespace Sys2Proof.Machine

def convOf (s : State) (c : Nat) : Conv := kgetD {} c s.madc.conv
def setConv (s : State) (c : Nat) (x : Conv) : State :=
  { s with madc := { s.madc with conv := kputD {} c x s.madc.conv } }
def updConv (s : State) (c : Nat) (g : Conv → Conv) : State := setConv s c (g (convOf s c))

/-- STATUS.STATE: 0 OFF, 1 CALIBRATING, 2 RUNNING, 3 FAILED. -/
def convState (s : State) (c : Nat) : Nat := s.fv (fMADC_STATUS_STATE c)
def isTadc (c : Nat) : Bool := decide (2 ≤ c) && decide (c ≤ 9)
/-- The wait from the end of a conversion to the start of the next one in ns (R472). -/
def convGap (c : Nat) : Nat := if c < 2 then 0 else if c = 10 then 5000 else 9000

/-! ### Passes (R476, R481) -/

/-- Entry `i` of the sequence registers: 0 to 11 are the island's, 12 to 15 the software's. -/
def seqReg (s : State) (c i : Nat) : Nat := if i < 12 then s.rn (rMADC_SEQ c i) else s.rn (rMADC_SEQHI c (i - 12))

/-- The next enabled entry of the pass from entry `i` on. -/
def nextEntry (x : Conv) (i : Nat) : Option Nat :=
  (List.range 16).find? (fun k => decide (i ≤ k) && bitAt ((x.seq[k]?).getD 0) 6)

/-- A pass begins at time `t`: the sequence registers are read now. -/
def passStart (s : State) (c t : Nat) : State :=
  let x := { convOf s c with seq := (List.range 16).map (seqReg s c), start := t, rest := none }
  let first := if c < 2 && s.on fMADCC_PLAUS_EN then some 0 else (nextEntry x 0).map (fun i => i + 1)
  setConv s c { x with cur := first }

/-- A converter waits for its next pass. -/
def passIdle (s : State) (c : Nat) : Bool := convState s c == 2 && (convOf s c).cur.isNone && (convOf s c).rest.isNone

/-- The next pass of converter `c` begins where it may: MADC[A] and MADC[B] begin together. -/
def passBegin (s : State) (c t : Nat) : State :=
  if !passIdle s c then s
  else if c < 2 then
    let d := 1 - c
    if convState s d != 2 then passStart s c t
    else if passIdle s d then passStart (passStart s c t) d t
    else s
  else passStart s c t

/-- The regular pass of converter `c` ends: it counts, and AADC rests for PERIOD_US. -/
def passEnd (s : State) (c : Nat) : State :=
  let s := s.setF (fMADC_STATUS_PASS c) ((s.fv (fMADC_STATUS_PASS c) + 1) % 2 ^ 16)
  let rest := if c = 10 then some (s.now + s.fv (fMADC_PERIOD_PERIOD_US 10) * 1000) else none
  passBegin (updConv s c (fun x => { x with cur := none, rest := rest })) c (s.now + convGap c)

/-- The regular sequence goes on after the conversion it was at. -/
def passNext (s : State) (c : Nat) : State :=
  let x := convOf s c
  match x.cur with
  | none => s
  | some k =>
    match nextEntry x k with
    | some i => setConv s c { x with cur := some (i + 1), start := s.now + convGap c }
    | none => passEnd s c

/-! ### Urgent triggers (R478) -/

/-- The injected sequence is triggered, or the trigger counts as an overrun. -/
def urgent (s : State) (c : Nat) : State :=
  let x := convOf s c
  if convState s c = 1 || (convState s c = 2 && x.inj.isSome) then
    ((s.bump (fMADC_CNT_INJ_OVERRUN c)).ev (fMADC_EVENT_INJ_OVERRUN c)).report 0x06 c 0x0005
  else if convState s c = 2 then
    let up := c != 10 || (x.rest.isNone && x.cur.isSome && decide (x.start ≤ s.now))
    setConv s c { x with inj := some 0, start := if up then s.now else s.now + 5000 }
  else s

/-- A rising edge of the trigger of port `p`: the converters that it triggers follow after INJ_TIME. -/
def trigRose (s : State) (p : Nat) : State :=
  (List.range 11).foldl (fun s c =>
    if s.fv (fMADC_CTRL_INJ_TRIG c) = p + 2 then
      updConv s c (fun x => { x with due := x.due ++ [s.now + s.fv (fMADC_CTRL_INJ_TIME c) * 1000] })
    else s) s

end Sys2Proof.Machine
end

