-- ==== Sys2Proof/Machine/Regulator.lean ====
section
/-!
DEFINITION. The Regulator (spec/05_regulator.md): dial time and its source, the trigger schedules, the
illumination windows and the SYNC_IN followers. Times inside a schedule or a follower count 1/256 ns.
-/

namespace Sys2Proof.Machine

/-! ### Streams active (R100) -/

/-- STREAMS_ACTIVE (R100): a stream is started, a schedule runs or a canvas is enabled. -/
def streamsActive (s : State) : Bool :=
  !s.started.isEmpty || (List.range 32).any (fun p => s.on (fTRIG_SCHED_CTRL_RUN p))
    || (List.range 4).any (fun c => s.on (fCV_ENABLE_EN c))

/-! ### Rate of dial time (R102, R115) -/

/-- The departure of the dial-time rate from the REFCLK25 rate, in parts per billion. -/
def dialRate (s : State) : Int :=
  if s.fv fREGU_CTRL_SRC = 1 then
    let slew : Int :=
      if s.regu.slewLeft = 0 then 0
      else
        let r := Int.ofNat (s.fv fREGU_FOLLOW_CFG_SLEW_PPM) * 1000
        if s.regu.slewLeft < 0 then -r else r
    clampInt (-500000) 500000 (s.regu.steer + slew)
  else if s.on fREGU_CTRL_TRIM_EN then signedOf 32 (s.rn rREGU_RATE_TRIM)
  else 0

/-- One nanosecond of REFCLK25 passes: dial time advances at its rate, and a slew consumes its offset. -/
def dialTick (r : Regu) (rate : Int) : Regu :=
  let f := r.frac + rate
  if f ≥ 1000000000 then
    { r with dial := (r.dial + 2) % 2 ^ 64, frac := f - 1000000000,
             slewLeft := if r.slewLeft > 0 then r.slewLeft - 1 else r.slewLeft }
  else if f ≤ -1000000000 then
    { r with frac := f + 1000000000,
             slewLeft := if r.slewLeft < 0 then r.slewLeft + 1 else r.slewLeft }
  else { r with dial := (r.dial + 1) % 2 ^ 64, frac := f }

/-! ### Dial time commands (R102, R103, R115) -/

/-- Dial time steps to `t`: EVENT.STEPPED is set, and no keys survive a step (R520). -/
def stepDial (s : State) (t : Nat) : State :=
  ({ s with regu := { s.regu with dial := t % 2 ^ 64, frac := 0 } }).ev fREGU_EVENT_STEPPED

/-- R103. The other fields of the word are written with it. -/
def dialSet (s : State) (v : Word) : State :=
  if streamsActive s || s.fv fREGU_CTRL_SRC == 1 then s.ev fREGU_EVENT_STEP_REFUSED
  else
    let t := s.setF fREGU_CTRL_TRIM_EN (b2n (bitAt v.toNat 3))
    gmacDiscard (stepDial t (s.pair rREGU_DIAL_SET_LO rREGU_DIAL_SET_HI))

/-- R102: a trim within ±500,000 ppb is taken. -/
def rateTrimWrite (s : State) (v : Word) : State :=
  let x := signedOf 32 v.toNat
  if x < -500000 || x > 500000 then s.ev fREGU_EVENT_CFG_INVALID else s.setReg rREGU_RATE_TRIM v

/-- R115: SRC 1 enters ACQUIRING; SRC 0 is FREE at the local rate. -/
def dialSource (s : State) (v : Word) : State :=
  let src := bitsOf v.toNat 0 2
  let was := s.fv fREGU_CTRL_SRC
  let t := (s.setF fREGU_CTRL_SRC src).setF fREGU_CTRL_TRIM_EN (b2n (bitAt v.toNat 3))
  if src = 1 then
    if was = 1 then t
    else
      let t := { t with regu := { t.regu with steer := 0, slewLeft := 0, inBand := 0, first := true } }
      if s.on fFABRIC_STATUS_IS_ROOT then (t.setF fREGU_STATUS_STATE 2)
      else t.setF fREGU_STATUS_STATE 1
  else
    { t.setF fREGU_STATUS_STATE 0 with regu := { t.regu with steer := 0, slewLeft := 0, inBand := 0, first := true } }

/-- R115: no valid estimate for HOLD_MS. -/
def followHold (s : State) : State :=
  if s.fv fREGU_CTRL_SRC = 1 && (s.fv fREGU_STATUS_STATE = 1 || s.fv fREGU_STATUS_STATE = 2) then
    (((s.setF fREGU_STATUS_STATE 3).ev fREGU_EVENT_HOLDOVER).report 0x0B 0 0x0001)
  else s

/-- R115: the Regulator acts on an estimate `d` of root time minus dial time, in nanoseconds. The law
that steers the rate is not in the manual: the steered rate is a free value within the limits of R100. -/
def timeEstimate (s : State) (d : Int) : State :=
  if s.fv fREGU_CTRL_SRC ≠ 1 then s
  else
    let s := s.setRn rREGU_FOLLOW_OFFSET (wordOfInt 32 (clampInt (-2147483648) 2147483647 d))
    let a := d.natAbs
    let st := s.fv fREGU_STATUS_STATE
    let active := streamsActive s
    if s.regu.first || st = 4 then
      -- the first estimate after ACQUIRING or CONFLICT
      if a ≤ 1000 then
        { s.setF fREGU_STATUS_STATE 1 with
          regu := { s.regu with slewLeft := d, first := false, inBand := b2n (a ≤ 50) } }
      else if !active then
        let t := s.setF fREGU_STATUS_STATE 1
        let t := { t with regu := { t.regu with first := false, slewLeft := 0, inBand := 0 } }
        gmacDiscard (stepDial t (Int.toNat (Int.ofNat s.dial + d)))
      else if a ≤ 100000000 then
        { s.setF fREGU_STATUS_STATE 1 with
          regu := { s.regu with slewLeft := d, first := false, inBand := 0 } }
      else if st = 4 then s
      else
        let t := { s with regu := { s.regu with slewLeft := 0, steer := 0, inBand := 0 } }
        (((t.setF fREGU_STATUS_STATE 4).ev fREGU_EVENT_CONFLICT).report 0x0B 0 0x0002)
    else
      let n := if a ≤ 50 then s.regu.inBand + 1 else 0
      let (x, s) := takeFree s
      let steer := clampInt (-500000) 500000 (signedOf 32 x)
      let t := { s with regu := { s.regu with steer := steer, inBand := satTo 16 n } }
      if st = 2 && a > 200 then
        if active && a > 100000000 then
          let t := { t with regu := { t.regu with slewLeft := 0, steer := 0 } }
          (((t.setF fREGU_STATUS_STATE 4).ev fREGU_EVENT_CONFLICT).report 0x0B 0 0x0002)
        else { t.setF fREGU_STATUS_STATE 1 with regu := { t.regu with first := true } }
      else if n ≥ 16 then
        if st = 2 then t else (t.setF fREGU_STATUS_STATE 2).ev fREGU_EVENT_LOCKED
      else if st = 3 then t.setF fREGU_STATUS_STATE 1
      else t

def execDialSet (v : Word) (s : State) : Out := .next (hub s (dialSet s v))
def execRateTrimWrite (v : Word) (s : State) : Out := .next (hub s (rateTrimWrite s v))
def execDialSourceWrite (v : Word) (s : State) : Out := .next (hub s (dialSource s v))
def execFollowHoldTimeout (s : State) : Out := .next (hub s (followHold s))

/-! ### Trigger schedules (R105 to R109) -/

/-- The staged set of schedule `p`. -/
def staged (s : State) (p : Nat) : SchedSet where
  src := s.fv (fTRIG_SCHED_CTRL_SRC p)
  mul := s.fv (fTRIG_SCHED_CTRL_MUL p) + 1
  div := s.fv (fTRIG_SCHED_CTRL_DIV p) + 1
  period := s.rn (rTRIG_PERIOD p)
  phase := s.rn (rTRIG_PHASE p)
  width := s.rn (rTRIG_WIDTH p)
  burst := s.fv (fTRIG_BURST_COUNT p)
  gap := s.rn (rTRIG_BURST_GAP p)
  illSrc := let x := s.fv (fTRIG_ILL_CFG_SRC p); if x = 3 then 0 else x
  illOpen := signedOf 32 (s.rn (rTRIG_ILL_OPEN p))
  illClose := signedOf 32 (s.rn (rTRIG_ILL_CLOSE p))
  illMax := s.fv (fTRIG_ILL_MAX_US p)

/-- The validity of a set (R106), with its period compared exactly as `T = n / d`. -/
def SchedSet.valid (x : SchedSet) (s : State) : Bool :=
  let n := if x.src = 0 then x.period else s.fv (fSYNC_NOM_NS (x.src - 1)) * x.div
  let d := if x.src = 0 then 1 else x.mul
  decide (1000 ≤ x.width) && decide ((x.width + 1000) * d ≤ n)
    && (x.burst == 0 || decide (x.width + 1000 ≤ x.gap))
    && decide ((x.phase + x.burst * x.gap + x.width + 1000) * d ≤ n)
    && decide (10000 ≤ x.period) && decide (x.period ≤ 4294967295)
    && decide (x.src ≤ 4)
    && decide (-1000000 ≤ x.illOpen) && decide (x.illOpen ≤ 1000000)
    && decide (-1000000 ≤ x.illClose) && decide (x.illClose ≤ 1000000)
    && decide (1 ≤ x.illMax) && decide (x.illMax ≤ 1000000)
    && (x.illSrc != 2 || (decide (2000 ≤ x.illOpen) && decide (1000 ≤ x.illClose)))

def follower (s : State) (m : Nat) : Follower := kgetD {} m s.regu.follow
def sched (s : State) (p : Nat) : Sched := kgetD {} p s.regu.sched
def setSched (s : State) (p : Nat) (x : Sched) : State :=
  { s with regu := { s.regu with sched := kput p x s.regu.sched } }

/-- The period of a set in 1/256 ns: PERIOD, or the tracked period × DIV / MUL (R105). -/
def setPeriod (s : State) (x : SchedSet) : Int :=
  if x.src = 0 then Int.ofNat x.period * 256
  else floorDiv ((follower s (x.src - 1)).period * Int.ofNat x.div) (Int.ofNat (max 1 x.mul))

/-- Schedule `p` starts under its staged set, which becomes the active set, with epoch `at` (R107,
R109): SRC 0 has its epoch at once; the others wait, ARMED, for the first locked edge from `at` on. -/
def schedStart (s : State) (p : Nat) (t0 : Nat) : State :=
  let x := staged s p
  if x.valid s then
    let e : Sched := if x.src = 0
      then { set := x, hasEpoch := true, epoch := Int.ofNat t0 * 256, period := setPeriod s x }
      else { set := x, notBefore := t0, period := setPeriod s x }
    let t := (setSched s p e).setF (fTRIG_SCHED_CTRL_RUN p) 1
    t.setF (fTRIG_SCHED_CTRL_ARMED p) (b2n (x.src != 0 || decide (s.dial < t0)))
  else s.ev fREGU_EVENT_CFG_INVALID

/-- ILL[j] is inside the window of an enabled SPORT, and no overcurrent is latched on it (R95). -/
def illLevel (s : State) (j : Nat) : Bool :=
  (List.range 32).any (fun p =>
    decide (0 < (sched s p).windows) && s.on (fSPORT_CTRL_EN p) && bitAt (s.rn (rSPORT_ILL_MASK p)) j)
    && !bitAt (s.rn rMADCC_ILS_LATCH) j

/-- The ILL outputs follow their windows; each edge is stamped (R104). -/
def illUpdate (s : State) : State :=
  (List.range 16).foldl (fun s j =>
    let was := bitAt s.regu.ill j
    let now := illLevel s j
    if was == now then s
    else
      let t := { s with regu := { s.regu with ill := putBits s.regu.ill j 1 (b2n now) } }
      if now then t.setPair (rILL_TS_RISE_LO j) (rILL_TS_RISE_HI j) s.dial
      else t.setPair (rILL_TS_FALL_LO j) (rILL_TS_FALL_HI j) s.dial) s

/-- Schedule `p` stops at once: a pulse ends and its windows close (R107). -/
def schedStop (s : State) (p : Nat) : State :=
  let t := (s.setF (fTRIG_SCHED_CTRL_RUN p) 0).setF (fTRIG_SCHED_CTRL_ARMED p) 0
  let t := t.setF (fTRIG_SCHED_CTRL_APPLY_PENDING p) 0
  illUpdate { t with regu := { t.regu with sched := kdel p t.regu.sched } }

/-- The staged fields that a write of SCHED_CTRL carries. -/
def schedFields (s : State) (p : Nat) (v : Word) : State :=
  ((s.setF (fTRIG_SCHED_CTRL_SRC p) (bitsOf v.toNat 1 3)).setF (fTRIG_SCHED_CTRL_MUL p)
    (bitsOf v.toNat 8 4)).setF (fTRIG_SCHED_CTRL_DIV p) (bitsOf v.toNat 12 4)

/-- APPLY of a valid set while RUN is 1 waits for the period boundary (R107). -/
def schedApply (s : State) (p : Nat) : State :=
  if s.on (fTRIG_SCHED_CTRL_RUN p) then
    if (staged s p).valid s then s.setF (fTRIG_SCHED_CTRL_APPLY_PENDING p) 1
    else s.ev fREGU_EVENT_CFG_INVALID
  else s

/-- A write of SCHED_CTRL: the staged fields, then RUN and APPLY (R107). -/
def schedCtrl (s : State) (p : Nat) (v : Word) : State :=
  let t := schedFields s p v
  let was := s.on (fTRIG_SCHED_CTRL_RUN p)
  let run := bitAt v.toNat 0
  if run && !was then schedStart t p (t.pair (rTRIG_START_AT_LO p) (rTRIG_START_AT_HI p))
  else if !run && was then schedStop t p
  else if bitAt v.toNat 4 then schedApply t p
  else t

/-- The time of the rising edge that schedule `x` is at, in 1/256 ns (R105). -/
def edgeTime (x : Sched) : Int :=
  x.epoch + Int.ofNat x.k * x.period + Int.ofNat (x.set.phase + x.i * x.set.gap) * 256

/-- The pulse after the one that `x` is at. -/
def nextPulse (x : Sched) : Sched :=
  if x.i < x.set.burst then { x with i := x.i + 1 } else { x with i := 0, k := x.k + 1 }

/-- At a period boundary with APPLY_PENDING, the staged set becomes the active set (R107). The epoch
moves to the boundary, so that the new period counts from it. -/
def schedBoundary (s : State) (p : Nat) : State :=
  let x := sched s p
  if s.on (fTRIG_SCHED_CTRL_RUN p) && s.on (fTRIG_SCHED_CTRL_APPLY_PENDING p) && x.hasEpoch then
    let s := s.setF (fTRIG_SCHED_CTRL_APPLY_PENDING p) 0
    let n := staged s p
    if n.valid s then
      let k := if x.i = 0 then x.k else x.k + 1
      setSched s p { x with set := n, epoch := x.epoch + Int.ofNat k * x.period,
                            period := setPeriod s n, k := 0, i := 0, next := none }
    else s.ev fREGU_EVENT_CFG_INVALID
  else s

/-- The next edge is computed; an edge less than 1 µs ahead, or less than 1,000 ns after the previous
falling edge, is skipped with its pulse and window (R108). -/
def schedCompute (s : State) (p : Nat) : State :=
  let x := sched s p
  if s.on (fTRIG_SCHED_CTRL_RUN p) && x.hasEpoch && x.next.isNone then
    let t := edgeTime x
    let late := decide (t - Int.ofNat s.dial * 256 < 256000)
    let close := match x.lastFall with
      | some f => decide (t - f < 256000)
      | none => false
    if late || close then (setSched s p (nextPulse x)).ev fREGU_EVENT_SCHED_SKIP
    else
      (setSched s p { x with next := some t }).setPair (rTRIG_NEXT_EDGE_LO p) (rTRIG_NEXT_EDGE_HI p)
        (Int.toNat (floorDiv t 256))
  else s

/-- A computed rising edge falls due: the output is active, and the pulse counts (R105). -/
def schedRise (s : State) (p : Nat) : State :=
  let x := sched s p
  match x.next with
  | some t =>
    let s := s.setF (fTRIG_SCHED_CTRL_ARMED p) 0
    let s := trigRose (s.setRn (rTRIG_PULSE_COUNT p) (s.rn (rTRIG_PULSE_COUNT p) + 1)) p
    setSched s p { nextPulse x with next := none, high := true,
                                    lastFall := some (t + Int.ofNat x.set.width * 256) }
  | none => s

/-- The falling edge of the pulse. -/
def schedFall (s : State) (p : Nat) : State :=
  let x := sched s p
  if x.high then setSched s p { x with high := false } else s

/-- A window opens; one that would close before it opens is not opened (R110). -/
def windowOpen (s : State) (p : Nat) : State :=
  let x := sched s p
  let len : Int := if x.set.illSrc = 1
    then Int.ofNat x.set.width + x.set.illClose - x.set.illOpen else x.set.illClose
  if s.on (fTRIG_SCHED_CTRL_RUN p) && x.set.illSrc != 0 && decide (0 < len) then
    illUpdate (setSched s p { x with windows := x.windows + 1,
                                     openAt := if x.windows = 0 then s.dial else x.openAt })
  else s

/-- One of the overlapping windows of the port closes. -/
def windowClose (s : State) (p : Nat) : State :=
  let x := sched s p
  if 0 < x.windows then illUpdate (setSched s p { x with windows := x.windows - 1 }) else s

/-- A window open longer than ILL_MAX is closed (R111). -/
def windowMax (s : State) (p : Nat) : State :=
  let x := sched s p
  if 0 < x.windows then
    (illUpdate (setSched s p { x with windows := 0 })).ev fREGU_EVENT_ILL_LIMIT
  else s

/-- R109: the masked ports start with epoch GROUP_AT. -/
def groupStart (s : State) : State :=
  (List.range 32).foldl (fun s p =>
    if bitAt (s.rn rREGU_GROUP_MASK) p then
      if s.on (fTRIG_SCHED_CTRL_RUN p) then
        let x := sched s p
        let t0 := s.pair rREGU_GROUP_AT_LO rREGU_GROUP_AT_HI
        if x.set.src = 0 then
          setSched s p { x with epoch := Int.ofNat t0 * 256, k := 0, i := 0, next := none }
        else setSched s p { x with notBefore := t0, hasEpoch := false, k := 0, i := 0, next := none }
      else schedStart s p (s.pair rREGU_GROUP_AT_LO rREGU_GROUP_AT_HI)
    else s) s

/-- R109: RUN of every masked port is cleared. -/
def groupStop (s : State) : State :=
  (List.range 32).foldl (fun s p =>
    if bitAt (s.rn rREGU_GROUP_MASK) p && s.on (fTRIG_SCHED_CTRL_RUN p) then schedStop s p else s) s

def execTrigRun (p : Nat) (v : Word) (s : State) : Out :=
  .next (hub s (schedCtrl s (p % 32) (v ||| 1#32)))
def execTrigRunClear (p : Nat) (v : Word) (s : State) : Out :=
  .next (hub s (schedCtrl s (p % 32) (v &&& 0xFFFFFFFE#32)))
def execTrigApply (p : Nat) (v : Word) (s : State) : Out :=
  .next (hub s (schedApply (schedFields s (p % 32) v) (p % 32)))
def execTrigPeriodBoundary (p : Nat) (s : State) : Out := .next (hub s (schedBoundary s (p % 32)))
def execTrigEdgeCompute (p : Nat) (s : State) : Out := .next (hub s (schedCompute s (p % 32)))
def execTrigRisingEdge (p : Nat) (s : State) : Out := .next (hub s (schedRise s (p % 32)))
def execTrigFallingEdge (p : Nat) (s : State) : Out := .next (hub s (schedFall s (p % 32)))
def execIllWindowOpen (p : Nat) (s : State) : Out := .next (hub s (windowOpen s (p % 32)))
def execIllWindowClose (p : Nat) (s : State) : Out := .next (hub s (windowClose s (p % 32)))
def execIllMaxExpiry (p : Nat) (s : State) : Out := .next (hub s (windowMax s (p % 32)))
def execGroupStart (s : State) : Out := .next (hub s (groupStart s))
def execGroupStop (s : State) : Out := .next (hub s (groupStop s))

/-! ### SYNC_IN followers (R112 to R114) -/

/-- The state of follower `m`, by its STATUS field: 0 OFF, 1 ACQUIRING, 2 LOCKED, 3 HOLDOVER, 4 LOST. -/
def syncState (s : State) (m : Nat) : Nat := s.fv (fSYNC_STATUS_STATE m)

/-- The follower enters acquiring: its period is NOM and it has no epoch. -/
def syncAcquire (s : State) (m : Nat) : State :=
  let f := follower s m
  let f := { f with period := Int.ofNat (s.fv (fSYNC_NOM_NS m)) * 256, hasEpoch := false, hits := 0 }
  let t := { s with regu := { s.regu with follow := kput m f s.regu.follow } }
  (t.setF (fSYNC_STATUS_STATE m) 1).setF (fSYNC_STATUS_MISSED m) 0

/-- The follower is lost: the schedules on it run free, the loss is reported, and it acquires anew. -/
def syncLose (s : State) (m : Nat) : State :=
  syncAcquire (((s.setF (fSYNC_STATUS_STATE m) 4).ev fREGU_EVENT_SYNC_LOST).report 0x0B m 0x0003) m

/-- The schedules on input `m` take the follower's new epoch: one that waits takes its first, the others
re-anchor (R105); after a loss the period moves toward the tracked one by at most 1 % (R114). -/
def syncAnchor (s : State) (m : Nat) : State :=
  (List.range 32).foldl (fun s p =>
    let x := sched s p
    if s.on (fTRIG_SCHED_CTRL_RUN p) && x.set.src == m + 1 then
      let f := follower s m
      let want := setPeriod s x.set
      if x.hasEpoch then
        let one := floorDiv x.period 100
        let per := if x.period = 0 then want else clampInt (x.period - one) (x.period + one) want
        let drift := f.epoch - (x.epoch + Int.ofNat x.k * x.period)
        let ok := decide (drift.natAbs ≤ one.natAbs)
        setSched s p { x with period := per, next := if x.i = 0 then none else x.next,
                              epoch := if ok then f.epoch else x.epoch, k := if ok then 0 else x.k }
      else if decide (Int.ofNat x.notBefore * 256 ≤ f.epoch) then
        (setSched s p { x with hasEpoch := true, epoch := f.epoch, period := want, k := 0, i := 0 }).setF
          (fTRIG_SCHED_CTRL_ARMED p) 0
      else s
    else s) s

/-- An edge of SYNC_IN[m] at dial time, by the table of R113. -/
def syncEdge (s : State) (m : Nat) (rising : Bool) : State :=
  if !s.on (fSYNC_CFG_EN m) || (s.on (fSYNC_CFG_EDGE m) == rising) then s
  else
    let f := follower s m
    let t : Int := (Int.ofNat s.dial - signedOf 16 (s.fv (fSYNC_COMP_NS m))) * 256
    let stamp (s : State) : State :=
      s.setPair (rSYNC_EDGE_LO m) (rSYNC_EDGE_HI m) (Int.toNat (floorDiv t 256))
    let put (s : State) (f : Follower) : State :=
      ({ s with regu := { s.regu with follow := kput m f s.regu.follow } }).setRn (rSYNC_PERIOD m)
        (Int.toNat (floorDiv f.period 256))
    if syncState s m = 1 then
      if !f.hasEpoch then stamp (put s { f with epoch := t, hasEpoch := true })
      else
        let p := t - f.epoch
        let nom := Int.ofNat (s.fv (fSYNC_NOM_NS m)) * 256
        let win := Int.ofNat (s.fv (fSYNC_CFG_LOCK_WIN m)) * 25600
        let hits :=
          if decide ((p - nom).natAbs * 50 > nom.natAbs) then 0
          else if decide ((t - (f.epoch + f.period)).natAbs ≤ win.natAbs) then f.hits + 1
          else 0
        let s := stamp (put s { f with period := p, epoch := t, hits := hits,
                                       everLocked := f.everLocked || hits == 8 })
        if hits = 8 then
          syncAnchor ((s.setF (fSYNC_STATUS_STATE m) 2).ev fREGU_EVENT_SYNC_LOCK) m
        else s
    else if syncState s m = 2 || syncState s m = 3 then
      let err := t - (f.epoch + f.period)
      let s := s.setRn (rSYNC_PHASE_ERR m) (wordOfInt 32 (floorDiv err 256))
      if decide (err.natAbs * 20 > f.period.natAbs) then
        (s.bump (fSYNC_STATUS_GATED m)).ev fREGU_EVENT_SYNC_GATED
      else
        let k1 : Int := if s.on (fSYNC_CFG_BW m) then 4 else 16
        let k2 : Int := if s.on (fSYNC_CFG_BW m) then 16 else 256
        let f := { f with epoch := f.epoch + f.period + floorDiv err k1,
                          period := f.period + floorDiv err k2 }
        let nom := Int.ofNat (s.fv (fSYNC_NOM_NS m)) * 256
        let s := (stamp (put s f)).setF (fSYNC_STATUS_MISSED m) 0
        if decide ((f.period - nom).natAbs * 10 > nom.natAbs) then syncLose s m
        else
          let s := if syncState s m = 2 then s
            else (s.setF (fSYNC_STATUS_STATE m) 2).ev fREGU_EVENT_SYNC_LOCK
          syncAnchor s m
    else s

/-- No edge by the expected one plus the gate (R113). -/
def syncMissed (s : State) (m : Nat) : State :=
  if syncState s m = 2 || syncState s m = 3 then
    let f := follower s m
    let n := s.fv (fSYNC_STATUS_MISSED m) + 1
    let f := { f with epoch := f.epoch + f.period }
    let s := { s with regu := { s.regu with follow := kput m f s.regu.follow } }
    let s := (s.setF (fSYNC_STATUS_MISSED m) (satTo 255 n)).setF (fSYNC_STATUS_STATE m) 3
    if decide (n > s.fv (fSYNC_CFG_HOLD_EDGES m)) then syncLose s m else syncAnchor s m
  else s

/-- A write of SYNC[m].CFG turns the follower on or off (R113). -/
def syncCfg (s : State) (m : Nat) (v : Word) : State :=
  let was := s.on (fSYNC_CFG_EN m)
  if bitsOf v.toNat 3 8 = 0 || bitsOf v.toNat 11 8 = 0 then s.ev fREGU_EVENT_CFG_INVALID
  else
  let s := s.setF ⟨rSYNC_CFG m, 0, 19⟩ (bitsOf v.toNat 0 19)
  if bitAt v.toNat 0 && !was then syncAcquire s m
  else if !bitAt v.toNat 0 && was then
    (s.setF (fSYNC_STATUS_STATE m) 0).setF (fSYNC_STATUS_MISSED m) 0
  else s

def execSyncInEdge (m : Nat) (rising : Bool) (s : State) : Out :=
  .next (hub s (syncEdge s (m % 4) rising))
def execSyncEdgeMissed (m : Nat) (s : State) : Out := .next (hub s (syncMissed s (m % 4)))

end Sys2Proof.Machine
end

