-- ==== Sys2Proof/Machine/Madc.lean ====
section
/-!
DEFINITION. The monitor converters (spec/20_monitor_adc.md), the temperature limits (spec/21_safety.md R499) and the
illuminator current checks (spec/04_sensor_ports.md R96).
-/

namespace Sys2Proof.Machine

/-- The converter is powered: the pair with the hub, TADC[n] with its tile, AADC always (R472, R533). -/
def convIn (s : State) (c : Nat) : Bool :=
  if c < 2 then s.pow.hubOn else if isTadc c then tileUp s (c - 2) else c == 10

/-! ### Calibration (R474, R475) -/

/-- The factors that a calibration may find. -/
def calGood (r : CalResult) : Bool :=
  r.ok && decide (-128 ≤ r.offset) && decide (r.offset ≤ 127) && decide (14336 ≤ r.gain) && decide (r.gain ≤ 18432)

/-- A calibration begins: no conversion runs. -/
def calBegin (s : State) (c : Nat) : State :=
  updConv (s.setF (fMADC_STATUS_STATE c) 1) c (fun x => { x with cur := none, inj := none, rest := none, calAt := s.now })

/-- The results of a converter are not valid any more. -/
def clearValid (s : State) (c : Nat) : State :=
  let s := (List.range 16).foldl (fun s i => s.setF (fMADC_RESULT_VALID c i) 0) s
  (List.range 4).foldl (fun s i => s.setF (fMADC_INJ_RESULT_VALID c i) 0) s

/-- A calibration has ended. -/
def calEnded (s : State) (c : Nat) (r : CalResult) : State :=
  let s := updConv s c (fun x => { x with calEnd := s.now })
  let go (s : State) : State :=
    let s := passBegin (s.setF (fMADC_STATUS_STATE c) 2) c (s.now + convGap c)
    if c < 2 then passBegin s (1 - c) s.now else s
  if calGood r then
    let s := (s.setF (fMADC_CAL_OFFSET c) (wordOfInt 8 r.offset)).setF (fMADC_CAL_GAIN c) r.gain
    go ((clearValid (s.setF (fMADC_STATUS_CAL_OK c) 1) c).ev (fMADC_EVENT_CAL_DONE c))
  else
    let s := (s.ev (fMADC_EVENT_CAL_FAIL c)).report 0x06 c 0x0001
    if s.on (fMADC_STATUS_CAL_OK c) then go s else s.setF (fMADC_STATUS_STATE c) 3

def calDone (s : State) (c : Nat) (r : CalResult) : State :=
  if convIn s c && convState s c = 1 && (convOf s c).calAt + 2400000 ≤ s.now then calEnded s c r else s
def execAdcCalibrationDone (c : Nat) (r : CalResult) (s : State) : Out := .next (aon s (calDone s (c % 11) r))

/-- The calibration that a write of CAL_START asks for. -/
def calStart (s : State) (c : Nat) : State :=
  if convState s c = 1 || (convOf s c).dead then s
  else if c < 2 && convState s (1 - c) = 1 then s.ev (fMADC_EVENT_CFG_INVALID c)
  else calBegin s c

/-! ### CTRL (R474, R478, R487) -/

/-- A write of CTRL: its fields, then CAL_START, then GO. -/
def madcCtrl (s : State) (c : Nat) (v : Word) : State :=
  let n := v.toNat
  if !convIn s c then s
  else if 34 < bitsOf n 0 6 || bitsOf n 16 16 = 0 then s.ev (fMADC_EVENT_CFG_INVALID c)
  else
    let timer := bitsOf n 0 6 = 34 && (s.fv (fMADC_CTRL_INJ_TRIG c) != 34 || s.fv (fMADC_CTRL_INJ_TIME c) != bitsOf n 16 16)
    let moved := s.fv (fMADC_CTRL_INJ_TRIG c) != bitsOf n 0 6
    let s := (s.setF ⟨rMADC_CTRL c, 0, 8⟩ (bitsOf n 0 8)).setF (fMADC_CTRL_INJ_TIME c) (bitsOf n 16 16)
    let s := if timer then updConv s c (fun x => { x with due := [s.now + bitsOf n 16 16 * 1000] })
      else if moved then updConv s c (fun x => { x with due := [] }) else s
    let s := if bitAt n 9 then calStart s c else s
    if bitAt n 8 && bitsOf n 0 6 != 0 then urgent s c else s
def execCalStart (c : Nat) (v : Word) (s : State) : Out := .next (hub s (madcCtrl s (c % 11) v))
def execGo (c : Nat) (v : Word) (s : State) : Out := .next (hub s (madcCtrl s (c % 11) v))

/-- The oldest trigger of a schedule or of the INJ_TIME timer falls due. -/
def urgentDue (s : State) (c : Nat) : State :=
  match (convOf s c).due with
  | t :: l =>
    if t ≤ s.now && convIn s c then
      let l := if s.fv (fMADC_CTRL_INJ_TRIG c) = 34 then l ++ [t + s.fv (fMADC_CTRL_INJ_TIME c) * 1000] else l
      urgent (updConv s c (fun x => { x with due := l })) c
    else s
  | [] => s
def execAdcUrgentTrigger (c : Nat) (s : State) : Out := .next (aon s (urgentDue s (c % 11)))

/-! ### Temperatures (R499) -/

/-- The temperature channels of a converter (R473). -/
def isTemp (c ch : Nat) : Bool :=
  if c < 2 then decide (16 ≤ ch) && decide (ch ≤ 20) else if c = 10 then ch == 3 else decide (2 ≤ ch) && decide (ch ≤ 5)

/-- The island looks at a temperature result. -/
def tempResult (s : State) (c ch code : Nat) : State :=
  let key := 64 * c + ch
  let beyond := decide (2728 < code) || decide (code < 1488)
  let run := if beyond then kgetD 0 key s.isl.tempRun + 1 else 0
  let warn := (s.fv fSAFE_TEMP_CFG_WARN_C : Int) * 8 - 200 + 2048
  let hot := decide (warn ≤ (code : Int))
  let s := { s with isl := { s.isl with
    tempRun := kput key run s.isl.tempRun,
    hotAt := if warn - 40 < (code : Int) then s.now else s.isl.hotAt } }
  let s := if run = 3 then s.report 0x05 0 0x0008 else s
  if hot && !s.isl.warned then
    (((({ s with isl := { s.isl with warned := true } }).setF fMGT_ALERT_STATUS_TEMP_WARN 1).ev
      fSAFE_EVENT_TEMP_WARN)).report 0x05 0 0x0007
  else s

/-- The warning rearms when every channel has been 5 °C below WARN_C for 100 ms. -/
def tempRearm (s : State) : State :=
  if s.isl.hotAt + 100000000 ≤ s.now then { s with isl := { s.isl with warned := false } } else s
def execTempWarnRearm (s : State) : Out :=
  .next (if s.pow.powered && s.isl.running then tempRearm s else s)

/-! ### Conversions (R471, R476 to R481) -/

/-- A raw code after calibration. -/
def calibrated (s : State) (c raw : Nat) : Nat :=
  (clampInt 0 4095 (sar ((Int.ofNat (raw % 4096) - signedOf 8 (s.fv (fMADC_CAL_OFFSET c)))
    * Int.ofNat (s.fv (fMADC_CAL_GAIN c)) + 8192) 14)).toNat

/-- The result of regular entry `i`. -/
def entryResult (s : State) (c i e code : Nat) : State :=
  let low := decide (code < bitsOf e 7 12)
  let high := decide (bitsOf e 19 12 < code)
  let was := s.on (fMADC_RESULT_OUT_LOW c i) || s.on (fMADC_RESULT_OUT_HIGH c i)
  let s := s.setRn (rMADC_RESULT c i)
    (code + 2 ^ 12 + b2n low * 2 ^ 13 + b2n high * 2 ^ 14 + s.fv (fMADC_STATUS_PASS c) * 2 ^ 16)
  let s := if low || high then s.bump (fMADC_CNT_LIMIT c) else s
  let s := if (low || high) && !was then
      (s.ev (fMADC_EVENT_LIMIT c)).report 0x06 c (if i < 12 then 3 else 4) (if i < 12 then bitsOf e 0 6 * 4096 + code else 0)
    else s
  if i < 12 && isTemp c (bitsOf e 0 6) && s.isl.running then tempResult s c (bitsOf e 0 6) code else s

/-- Both results of the plausibility channel are there: they are compared. -/
def plausible (s : State) : State :=
  match s.madc.plausA, s.madc.plausB with
  | some a, some b =>
    let s := { s with madc := { s.madc with plausA := none, plausB := none } }
    let off := [0, 1].any (fun c => convState s c != 2 || decide (s.now < (convOf s c).calEnd + 1000000 ∧ 0 < (convOf s c).calEnd))
    if off then s
    else
      let s := (s.setF fMADCC_PLAUS_STATUS_LAST_A a).setF fMADCC_PLAUS_STATUS_LAST_B b
      let apart := decide (s.fv fMADCC_PLAUS_TOL < (a - b) + (b - a))
      let n := if apart then s.madc.disagree + 1 else 0
      let s := { s with madc := { s.madc with disagree := n } }
      if apart && n = s.fv fMADCC_PLAUS_CONSEC then
        ((s.setF fMADCC_PLAUS_STATUS_FAIL 1).ev fMADCC_C_EVENT_PLAUS_FAIL).report 0x06 0 0x0002
      else s
  | _, _ => s

/-- The plausibility conversion of converter `c` has ended. -/
def plausResult (s : State) (c code : Nat) : State :=
  plausible { s with madc := if c = 0 then { s.madc with plausA := some code } else { s.madc with plausB := some code } }

/-- The injected sequence goes on, or the regular one resumes with the conversion that was abandoned. -/
def injNext (s : State) (c i : Nat) : State :=
  if i < s.fv (fMADC_CTRL_INJ_LEN c) then
    updConv s c (fun x => { x with inj := some (i + 1), start := s.now + convGap c })
  else
    let s := updConv s c (fun x => { x with inj := none, injRun := x.injRun + 1, start := s.now + convGap c })
    passBegin (s.ev (fMADC_EVENT_INJ_DONE c)) c (s.now + convGap c)

/-- A conversion is running. -/
def converting (s : State) (c : Nat) : Bool :=
  convIn s c && convState s c == 2 && ((convOf s c).inj.isSome || (convOf s c).cur.isSome)

/-- A conversion ends with the code that calibration gives. -/
def conversionEnd (s : State) (c raw : Nat) : State :=
  let x := convOf s c
  let code := calibrated s c raw
  if !converting s c then passBegin s c (s.now + convGap c)
  else if s.now < x.start + 1000 || x.start + 5000 < s.now then s
  else match x.inj, x.cur with
    | some i, _ =>
      injNext (s.setRn (rMADC_INJ_RESULT c i) (code + 2 ^ 12 + x.injRun % 2 ^ 16 * 2 ^ 16)) c i
    | none, some 0 => passNext (plausResult s c code) c
    | none, some (i + 1) => passNext (entryResult s c i ((x.seq[i]?).getD 0) code) c
    | none, none => s
def execAdcConversionEnd (c raw : Nat) (s : State) : Out := .next (aon s (conversionEnd s (c % 11) raw))

/-- A conversion has not ended within 5 µs (R480). -/
def conversionStuck (s : State) (c : Nat) : State :=
  let x := convOf s c
  if !converting s c || s.now ≤ x.start + 5000 then s
  else
    let s := (s.ev (fMADC_EVENT_STUCK c)).report 0x06 c 0x0006
    let again := (x.stuckAt.map (fun t => decide (s.now ≤ t + 10000000))).getD false
    let s := updConv s c (fun y => { y with stuckAt := some s.now })
    if again then
      let s := updConv (s.setF (fMADC_STATUS_STATE c) 3) c (fun y => { y with dead := true, cur := none, inj := none })
      if c < 2 then passBegin s (1 - c) s.now else s
    else match x.inj with
      | some i => injNext s c i
      | none => passNext s c
def execAdcConversionStuck (c : Nat) (s : State) : Out := .next (aon s (conversionStuck s (c % 11)))

/-- The rest of AADC ends (R472). -/
def aadcUp (s : State) : State :=
  match (convOf s 10).rest with
  | some t => if t ≤ s.now && convState s 10 = 2 then passStart s 10 (s.now + 5000) else s
  | none => s
def execAadcPowerUp (s : State) : Out := .next (aon s (aadcUp s))

/-! ### Illuminator currents (R96, R482 to R484) -/

/-- When ILL[j] last had an edge. -/
def illEdge (s : State) (j : Nat) : Nat :=
  if bitAt s.regu.ill j then s.pair (rILL_TS_RISE_LO j) (rILL_TS_RISE_HI j)
  else s.pair (rILL_TS_FALL_LO j) (rILL_TS_FALL_HI j)

/-- A check of ILS[j] is due: 20 µs after an edge, or every 10 ms while ILL[j] is low. -/
def ilsDue (s : State) (j : Nat) : Bool :=
  let t := illEdge s j
  match kget j s.madc.ilsAt with
  | some a => (decide (a < t + 19000) && decide (t + 19000 ≤ s.dial)) || (!bitAt s.regu.ill j && decide (a + 10000000 ≤ s.dial))
  | none => decide (t + 19000 ≤ s.dial)

/-- The held value of ILS[j] is checked. -/
def ilsCheck (s : State) (j code : Nat) : State :=
  let c := if j < 8 then 0 else 1
  if convState s c != 2 || !s.on (fMADCC_ILS_THR_OFF_CHECK_EN j) || !ilsDue s j then s
  else
    let s := { s with madc := { s.madc with ilsAt := kput j s.dial s.madc.ilsAt } }
    if bitAt s.regu.ill j then
      if code < s.fv (fMADCC_ILS_THR_ON_ON_MIN j) then (s.ev fMADCC_C_EVENT_ILS_OPEN).report 0x0C j 0x0010
      else if s.fv (fMADCC_ILS_THR_ON_ON_MAX j) < code then
        (illUpdate ((s.setF ⟨rMADCC_ILS_LATCH, j, 1⟩ 1).ev fMADCC_C_EVENT_ILS_OVER)).report 0x0C j 0x0011
      else s
    else if s.fv (fMADCC_ILS_THR_OFF_OFF_MAX j) < code then (s.ev fMADCC_C_EVENT_ILS_STUCK_ON).report 0x0C j 0x0012
    else s
def execIlsSample (j code : Nat) (s : State) : Out := .next (hub s (ilsCheck s (j % 16) (code % 4096)))

/-- Ones written to ILS_LATCH clear its bits, and ILL follows (R484). -/
def ilsClear (s : State) (v : Word) : State := illUpdate (s.setReg rMADCC_ILS_LATCH (s.reg rMADCC_ILS_LATCH &&& ~~~ v))
def execIlsLatchClear (v : Word) (s : State) : Out := .next (hub s (ilsClear s v))

end Sys2Proof.Machine
end

