-- ==== Sys2Proof/Machine/PowerOps.lean ====
section
/-!
DEFINITION. The start of a domain's power-down (spec/23_power_clocks.md R539), which a request, a fence and standby share.
-/

namespace Sys2Proof.Machine

/-- Domain `d` starts draining towards state `target` (2 SELF_REFRESH, 3 OFF). -/
def domDrain (s : State) (d target : Nat) : State :=
  let s := (s.setF (fPWR_DOM_STATE d) 1).setF (fPWR_DOM_FORCED d) 0
  { s with pow := { s.pow with
    domTarget := kput d target s.pow.domTarget, clamped := kdel d s.pow.clamped,
    drainAt := kput d s.now s.pow.drainAt } }

end Sys2Proof.Machine
end

