-- ==== Sys2Proof/Machine/Island.lean ====
section
/-!
DEFINITION. The safety island (spec/21_safety.md): the heartbeat, the reactions to fault codes, winding,
display confirmation, the safety views and the event log.
-/

namespace Sys2Proof.Machine

/-! ### The heartbeat (R491 to R495) -/

/-- The island acts once its firmware runs, while the always-on domain is powered. -/
def isl (s t : State) : State := if s.pow.powered && s.isl.running then t else s

/-- A hardware forced-low: both outputs are low and HW_FAULT is set (R492, R494). -/
def forcedLow (s : State) (code : Nat) : State :=
  let t := { s with isl := { s.isl with forced := true, sokA := false } }
  (hwFault t (faultCode 0x05 0 code)).report 0x05 0 code

/-- A half-period of SOK_A ends (R491): SOK_A toggles, unless a generator check fails (R492). -/
def sokHalf (s : State) (measuredUs : Nat) (followed : Bool) : State :=
  if sok s = 1 then
    if measuredUs < 400 || 600 < measuredUs || !followed then forcedLow s 0x000C
    else { s with isl := { s.isl with sokA := !s.isl.sokA } }
  else s

/-- The heartbeat runs, with SOK_A rising first. -/
def startSok (s : State) : State :=
  let t := { s with isl := { s.isl with sokA := true } }
  t.setF fSAFE_STATUS_SOK 1

/-- R493: READY, a running winding and no cause in force; no release is needed after a reset. -/
def heartbeatStart (s : State) : State :=
  if sok s == 0 && s.on fGLB_BOOT_STATUS_READY && windState s == 2
    && s.fv fSAFE_CAUSE_CAUSES == 0 && !s.isl.forced then startSok s
  else s

/-- R495. -/
def release (s : State) (v : Word) : State :=
  if bitAt v.toNat 16 && bitsOf v.toNat 0 16 == 0xB0C5 && s.fv fSAFE_CAUSE_CAUSES == 0
    && windState s == 2 && s.on fSAFE_STATUS_RELEASE_NEEDED then
    logRec (startSok (s.setF fSAFE_STATUS_RELEASE_NEEDED 0)) 0 4 0
  else
    let t := s.ev fSAFE_EVENT_RELEASE_REFUSED
    logRec t (faultCode 0x05 0 0x0004) 4 0

def execSokHalfPeriod (measuredUs : Nat) (followed : Bool) (s : State) : Out :=
  .next (aon s (sokHalf s measuredUs followed))
def execHardwareForcedLow (code : Nat) (s : State) : Out := .next (aon s (forcedLow s (code % 2 ^ 16)))
def execHeartbeatStart (s : State) : Out := .next (isl s (heartbeatStart s))
def execRelease (v : Word) (s : State) : Out := .next (hub s (release s v))

/-! ### Reactions (R497, R498) -/

/-- A code whose reaction is SAFE. `detail` says, for SAFE 0x000A, 1 where the error was uncorrectable;
for a rail window it holds the channel above 12 bits of window code. -/
def safeReaction (cls inst code detail : Nat) : Bool :=
  (cls == 0x05 && (code == 0x9 || code == 0xB || code == 0xC || code == 0x8 || code == 0xD
      || (code == 0xA && detail == 1)))
    || (cls == 0x14 && code == 0x9)
    || (cls == 0x06 && (code == 0x2
      || (code == 0x3 && ((inst ≤ 1 && detail / 4096 ≤ 7) || inst == 10))
      || ((code == 0x1 || code == 0x6) && (inst ≤ 1 || inst == 10))))
    || (cls == 0x0A && (code == 1 || code == 2 || code == 3))

/-- The tile for which the island requests a fence (R498). -/
def fenceReaction (cls inst code detail : Nat) : Option Nat :=
  if cls == 0x06 && 2 ≤ inst && inst ≤ 9 && (code == 0x1 || code == 0x6
      || (code == 0x3 && detail / 4096 ≤ 1)) then some (inst - 2)
  else if cls == 0x0A && code == 4 then some inst
  else none

/-- A code that belongs to a recoverable cause, which its own step has set: the reporter gave the
cause's bit as its detail. -/
def causeOfCode (cls code detail : Nat) : Bool :=
  (cls == 0x05 && code == 0x5 && (detail == 1 || detail == 2))
    || (cls == 0x05 && code == 0x6 && (detail == 4 || detail == 5))
    || (detail == 3 && ((cls == 0x11 && ((0x100 ≤ code && code ≤ 0x103) || code == 0x118))
      || cls == 0x12 || cls == 0x15))

/-- Uncorrectable LP5X errors of one stack within 1,000 ms (R497). -/
def memUncorr (s : State) (m : Nat) : State :=
  let ts := s.dial :: (kgetD [] m s.isl.ueTimes).filter (fun t => s.dial ≤ t + 1000000000)
  { s with isl := { s.isl with ueTimes := kput m ts s.isl.ueTimes } }

/-- The island receives a code: it logs it and reacts. -/
def faultReceived (s : State) (code detail : Nat) : State :=
  if s.isl.inbox.contains (code, detail) then
    let s := { s with isl := { s.isl with inbox := s.isl.inbox.erase (code, detail) } }
    let cls := bitsOf code 24 8
    let inst := bitsOf code 16 8
    let c := bitsOf code 0 16
    let s := if cls == 0x0A && c == 0x11 then memUncorr s inst else s
    let burst := cls == 0x0A && c == 0x11 && decide (16 < (kgetD [] inst s.isl.ueTimes).length)
    if safeReaction cls inst c detail || burst then logRec (hwFault s code) code 2 8
    else if causeOfCode cls c detail then logRec s code 1 detail
    else
      let d := if cls == 0x06 && c == 0x3 then detail % 4096 else detail
      let t := logRec s code 0 d
      match fenceReaction cls inst c detail with
      | some n => { t with isl := { t.isl with fenceReq := putBits t.isl.fenceReq n 1 1 } }
      | none => t
  else s

def execFaultCodeReceived (code detail : Nat) (s : State) : Out :=
  .next (isl s (faultReceived s code detail))

/-- The periodic self-test of the island memories (R497): codes 0x000A and 0x000D. -/
def islandSelfTest (s : State) (r : CheckResult) : State :=
  match r with
  | .clean => s
  | .corrected => s.report 0x05 0 0x000A 0
  | .failed => s.report 0x05 0 0x000D 0

def execIslandSelfTest (result : CheckResult) (s : State) : Out :=
  .next (isl s (islandSelfTest s result))

/-! ### Winding (R501 to R504) -/

/-- The challenge in force. -/
def challenge (s : State) : Nat := s.pair rSAFE_WIND_CHAL_LO rSAFE_WIND_CHAL_HI

/-- The response to challenge `c` with sequence number `n` (R501). -/
def windResponse (c n : Nat) : Nat :=
  let r := (crc32c (leBytes 8 c ++ leBytes 8 n)).toNat
  r + (0xFFFFFFFF - r) * 2 ^ 32

/-- The winding state is `w`; the deadline reads 0 outside RUNNING (R512). -/
def setWind (s : State) (w : Nat) : State :=
  let t := s.setF fSAFE_STATUS_WIND_STATE w
  t.setPair rSAFE_WIND_DUE_LO rSAFE_WIND_DUE_HI
    (if w = 2 then s.isl.windAt + s.isl.windPeriod * 1000000 else 0)

/-- The winding reaches RUNNING: STARTUP, WIND_LAPSE and WIND_FAULT clear (R494). -/
def windRunning (s : State) : State :=
  clearCause (clearCause (clearCause (setWind s 2) 0) 1) 2

/-- An accepted response: a new challenge, the next sequence number, and the state of R503. -/
def windAccept (s : State) : State :=
  let inWindow := decide (s.isl.windAt + s.isl.windPeriod * 500000 ≤ s.dial)
    && decide (s.dial ≤ s.isl.windAt + s.isl.windPeriod * 1000000)
  let n := if windState s == 1 && s.isl.windCount == 1 && inWindow then 2 else 1
  let (c, s) := takeFree s
  let w := windState s
  let s := s.setPair rSAFE_WIND_CHAL_LO rSAFE_WIND_CHAL_HI (c % 2 ^ 64)
  let s := s.setRn rSAFE_WIND_STATUS (s.rn rSAFE_WIND_STATUS + 1)
  let s := { s with isl := { s.isl with windAt := s.dial, windCount := n,
                                        windPeriod := s.fv fSAFE_WIND_CFG_PERIOD_MS } }
  if w == 2 || n == 2 then windRunning s else setWind s 1

/-- A rejected response (R502, R503). -/
def windReject (s : State) : State :=
  let s := (s.bump fSAFE_CNT_WIND_REJECTED).ev fSAFE_EVENT_WIND_REJECTED
  if windState s == 2 then (setCause (setWind s 3) 2).report 0x05 0 0x0005 2
  else
    let t := s.report 0x05 0 0x0005 0
    if windState s == 1 then { t with isl := { t.isl with windCount := 0 } } else t

/-- WINDING, judged at its fetch: the completion code, RESULT0 and RESULT1, and the new state. -/
def windJudge (s : State) (arg0 arg1 : Nat) : (Nat × Nat × Nat) × State :=
  if arg1 / 2 ^ 32 ≠ 0 then ((0x04, 0, 0), windReject s)
  else
    let right := arg0 == windResponse (challenge s) arg1 && arg1 == s.rn rSAFE_WIND_STATUS
    let timely := windState s != 2 || (decide (s.isl.windAt + s.isl.windPeriod * 500000 ≤ s.dial)
      && decide (s.dial ≤ s.isl.windAt + s.isl.windPeriod * 1000000))
    if right && timely then
      let t := windAccept s
      ((0x00, challenge t, t.isl.windAt + t.isl.windPeriod * 1000000), t)
    else
      let t := windReject s
      ((0x60, challenge t, t.pair rSAFE_WIND_DUE_LO rSAFE_WIND_DUE_HI), t)

/-- The deadline passes (R503). -/
def windDeadline (s : State) : State :=
  if decide (s.isl.windAt + s.isl.windPeriod * 1000000 ≤ s.dial) then
    if windState s == 2 then (setCause (setWind s 3) 1).report 0x05 0 0x0005 1
    else if windState s == 1 then { s with isl := { s.isl with windCount := 0 } }
    else s
  else s

def execWindingDeadline (s : State) : Out := .next (isl s (windDeadline s))

/-! ### Display confirmation (R505, R506) -/

/-- The streams that may be safety views: 0 to 127, and 128 to 131 for the canvases. -/
def allStreams : List Nat := List.range 132

/-- The displayed age of a stream at dial time `t` (R506), in nanoseconds. -/
def displayedAge (s : State) (st t : Nat) : Nat :=
  match kget st s.isl.confirmed with
  | some c => t - c
  | none => t - (fresh s st).start

/-- A display-confirmed view that is started and whose displayed age exceeds its budget. -/
def displayLate (s : State) (st : Nat) : Bool :=
  isDisplay s st && (fresh s st).on
    && decide (budgetMs s st * 1000000 < displayedAge s st s.dial)

/-- The displayed age passes the budget (R506). -/
def displayExpiry (s : State) (st : Nat) : State :=
  if displayLate s st then
    if bitAt (s.fv fSAFE_CAUSE_CAUSES) 4 then s
    else (setCause s 4).report 0x05 0 0x0006 4
  else s

def execDisplayBudgetExpiry (stream : Nat) (s : State) : Out :=
  .next (isl s (displayExpiry s (stream % 132)))

/-- A frame of view `st` is confirmed: the causes of display confirmation clear where every view
agrees (R506). -/
def displayConfirm (s : State) (st : Nat) (f : HeldFrame) : State :=
  let s := { s with isl := { s.isl with confirmed := kput st f.capture s.isl.confirmed,
                                        mismatched := s.isl.mismatched.filter (fun x => x != st) } }
  let s := (s.setF (fSAFE_DISP_STATUS_CONFIRMED st) 1).setF (fSAFE_DISP_STATUS_MISMATCH st) 0
  let s := if allStreams.all (fun x => !displayLate s x) then clearCause s 4 else s
  if s.isl.mismatched.all (fun x => !isDisplay s x) then clearCause s 5 else s

/-- The stream `st` is one whose display has mismatched (R505). -/
def addMismatch (s : State) (st : Nat) : State :=
  if s.isl.mismatched.contains st then s
  else { s with isl := { s.isl with mismatched := s.isl.mismatched ++ [st] } }

/-- The stream `st` showed a frame whose tally differs (R505). -/
def mismatchShown (s : State) (st : Nat) : State :=
  let t := (s.bump fSAFE_CNT_DISPLAY_MISMATCH).ev fSAFE_EVENT_DISPLAY_MISMATCH
  let t := t.setF (fSAFE_DISP_STATUS_MISMATCH st) 1
  if isDisplay s st then (setCause (addMismatch t st) 5).report 0x05 0 0x0006 5
  else t.report 0x05 0 0x0006 0

/-- The frame with number `fsn` that the island holds of a safety view's stream. -/
def heldFrame (s : State) (st fsn : Nat) : Option HeldFrame :=
  if isSafety s st then (kgetD [] st s.isl.frames).find? (fun f => f.fsn == fsn) else none

/-- A stream number of a command: outputs 0 to 127, canvases 0x80 + c. -/
def displayedJudge (s : State) (st fsn tally shown : Nat) : (Nat × Nat × Nat) × State :=
  match heldFrame s st fsn with
  | none => ((0x62, 0, 0), logRec s 0 0 0x62)
  | some f =>
    if decide (shown < f.delivered) || decide (s.dial < shown) then ((0x04, 0, 0), s)
    else if tally ≠ f.tally then ((0x61, 0, 0), mismatchShown s st)
    else if decide (f.budget * 1000000 < shown - f.capture) then ((0x00, 1, shown - f.capture), s)
    else ((0x00, 0, shown - f.capture), displayConfirm s st f)

/-- A good delivered frame of a safety view joins the 16 that the island holds (R505). -/
def holdFrame (s : State) (st : Nat) (f : HeldFrame) : State :=
  if isSafety s st then
    { s with isl := { s.isl with
        frames := kput st ((f :: kgetD [] st s.isl.frames).take 16) s.isl.frames } }
  else s

/-! ### Safety views and the log (R500, R509) -/

/-- The streams of register `i` that run: their pipeline is started, or their canvas is enabled. -/
def runningMask (s : State) (i : Nat) : Nat :=
  if i < 4 then maskOf 32 (fun b => s.started.contains ((32 * i + b) / 4))
  else maskOf 4 (fun c => s.on (fCV_ENABLE_EN c))

/-- A write of SAFETY_VIEWS[i] or DISPLAY_REQ[i] (R500). -/
def viewsWrite (s : State) (displayReq : Bool) (i : Nat) (v : Word) : State :=
  let off := if i < 4 then (if displayReq then rSAFE_DISPLAY_REQ i else rSAFE_SAFETY_VIEWS i)
    else (if displayReq then rSAFE_DISPLAY_CV else rSAFE_SAFETY_CV)
  let old := s.reg off
  if old &&& ~~~ v &&& BitVec.ofNat 32 (runningMask s i) ≠ 0 then s.ev fSAFE_EVENT_CFG_IGNORED
  else s.setReg off (if i < 4 then v else v &&& 0xF#32)

def execSafetyViewsWrite (displayReq : Bool) (i : Nat) (v : Word) (s : State) : Out :=
  .next (hub s (viewsWrite s displayReq (i % 5) v))

/-- A write of LOG_INDEX loads the i-th newest record (R509). -/
def logIndex (s : State) (v : Word) : State :=
  let i := bitsOf v.toNat 0 16
  let s := s.setRn rSAFE_LOG_INDEX i
  let bs := if i < s.fv fSAFE_LOG_STATUS_HELD then
    match s.isl.log[i]? with
    | some r => logBytes r
    | none =>
      let pos := s.fv fSAFE_LOG_STATUS_HELD - 1 - i
      (List.range 32).map (fun k => Config.atticByte (2 ^ 32 + 32 * pos + k))
    else []
  (List.range 8).foldl (fun s k => s.setRn (rSAFE_LOG_DATA k) (leAt bs (4 * k) 4)) s

def execLogIndex (v : Word) (s : State) : Out := .next (hub s (logIndex s v))

end Sys2Proof.Machine
end

