-- ==== Sys2Proof/Machine/RingOps.lean ====
section
/-!
DEFINITION. Completion rings (spec/15_host_rings.md): entries, the hold, coalescing, asynchronous
entries and the completion of commands; posted writes to the host.
-/

namespace Sys2Proof.Machine

/-- A posted write leaves on the link (R387); while the link carries no request it goes nowhere. -/
def hostWrite (s : State) (addr : Nat) (bs : List Byte) (poisoned : Bool := false) : State :=
  if hostUp s then { s with wire := s.wire ++ [⟨addr, bs, poisoned⟩] } else s

def cqOf (s : State) (j : Nat) : Cq := kgetD {} j s.ring.cq
def setCq (s : State) (j : Nat) (q : Cq) : State :=
  { s with ring := { s.ring with cq := kput j q s.ring.cq } }

/-- The size of completion ring `j`. -/
def cqSize (s : State) (j : Nat) : Nat := 2 ^ s.fv (fCQ_CFG_SIZE_LOG2 j)
def cqBase (s : State) (j : Nat) : Nat := s.pair (rCQ_BASE_LO j) (rCQ_BASE_HI j)

/-- The 32 bytes of an entry (R354). -/
def cqBytes (e : CqEntry) (head phase : Nat) : List Byte :=
  leBytes 2 e.cid ++ leBytes 2 (e.kind * 4096 + e.idx) ++ leBytes 1 e.status ++ leBytes 1 e.opcode
    ++ leBytes 2 head ++ leBytes 8 e.r0 ++ leBytes 8 e.r1 ++ leBytes 4 e.r2 ++ leBytes 2 e.detail
    ++ leBytes 1 e.flags ++ leBytes 1 phase

/-- A message of completion ring `j` is due: it is sent where the source is enabled, which ends the due
state (R372, R373). -/
def cqSignal (s : State) (j : Nat) : State :=
  let t := irqEval (setCq s j { cqOf s j with due := true }) j
  if t.on (fRING_INT_ROUTE_EN j) then
    (setCq t j { cqOf t j with due := false, since := 0, firstAt := none }).setF
      (fRING_INT_ROUTE_PENDING j) 0
  else t

/-- An entry is written at the tail of ring `j` (R355), and counts toward its message (R373). -/
def cqWrite (s : State) (j : Nat) (e : CqEntry) : State :=
  let t := s.fv (fCQ_TAIL_INDEX j)
  let size := cqSize s j
  let head := if e.kind = 0 then s.fv (fCR_HEAD_INDEX e.idx)
    else if e.kind = 3 then 0 else s.fv (fSR_HEAD_INDEX e.idx)
  let phase := b2n (t / size % 2 == 0)
  let s := hostWrite s (cqBase s j + t % size * 32) (cqBytes e head phase)
  let u := (t + 1) % 2 ^ 16
  let s := (s.setF (fCQ_TAIL_INDEX j) u).setF (fCQ_TAIL_PHASE j) (b2n (u / size % 2 == 0))
  let q := cqOf s j
  let q := { q with since := q.since + 1, firstAt := some (q.firstAt.getD s.dial) }
  let s := setCq s j q
  if decide (s.fv (fCQ_COALESCE_COUNT j) ≤ q.since) || e.irq || e.kind == 3 then cqSignal s j else s

/-- Completion ring `j` is full (R345). -/
def cqFull (s : State) (j : Nat) : Bool :=
  (s.fv (fCQ_TAIL_INDEX j) + 2 ^ 16 - (cqOf s j).head) % 2 ^ 16 == cqSize s j

/-- An entry for a ring that takes it: written, held, or one too many for the hold (R356). The Bool says
that the hold overflowed. -/
def cqTake (s : State) (j : Nat) (e : CqEntry) : Bool × State :=
  let q := cqOf s j
  if q.hold.isEmpty && !cqFull s j && hostUp s then (false, cqWrite s j e)
  else if q.hold.length < 64 then
    let t := setCq s j { q with hold := q.hold ++ [e] }
    (false, t.setF (fCQ_STATUS_HELD j) (q.hold.length + 1))
  else
    let t := setCq s j { q with hold := [], discarded := q.discarded + 65 }
    let t := (t.setF (fCQ_STATUS_HELD j) 0).setF (fCQ_STATUS_OVERFLOW j) 1
    (true, t.ev fRING_EVENT_CQ_OVERFLOW)

/-- Ring `j` takes entries. -/
def cqTakes (s : State) (j : Nat) : Bool := s.on (fCQ_CFG_EN j) && !s.on (fCQ_STATUS_OVERFLOW j)

/-- An asynchronous entry (R363) that cannot itself cause another. -/
def asyncLast (s : State) (e : CqEntry) : State :=
  let j := s.fv fRING_ASYNC_CFG_CQ
  if s.on fRING_ASYNC_CFG_EN && cqTakes s j then (cqTake s j e).2 else s.ev fRING_EVENT_ASYNC_LOST

/-- The CQ_OVERFLOW entry of ring `j` (R356, R363). -/
def cqOverflowed (s : State) (j : Nat) : State :=
  if s.fv fRING_ASYNC_CFG_CQ = j then s
  else asyncLast s { cid := 0, kind := 3, idx := 0, status := 0x82, opcode := 0x82, r0 := j,
                     r1 := (cqOf s j).discarded }

/-- An entry goes to ring `j`. -/
def cqPost (s : State) (j : Nat) (e : CqEntry) : State :=
  if cqTakes s j then
    let (past, t) := cqTake s j e
    if past then cqOverflowed t j else t
  else if s.on (fCQ_STATUS_OVERFLOW j) then
    setCq s j { cqOf s j with discarded := (cqOf s j).discarded + 1 }
  else s

/-- An asynchronous entry (R363). -/
def asyncPost (s : State) (cause r0 r1 : Nat) (r2 : Nat := 0) (detail : Nat := 0) : State :=
  let j := s.fv fRING_ASYNC_CFG_CQ
  if s.on fRING_ASYNC_CFG_EN && cqTakes s j then
    cqPost s j { cid := 0, kind := 3, idx := 0, status := cause, opcode := cause, r0 := r0, r1 := r1,
                 r2 := r2, detail := detail }
  else s.ev fRING_EVENT_ASYNC_LOST

/-- Held entries are written while the ring has free slots. -/
def cqFlush : Nat → State → Nat → State
  | 0, s, _ => s
  | n + 1, s, j =>
    match (cqOf s j).hold with
    | [] => s
    | e :: es =>
      if cqFull s j || !hostUp s then s
      else
        let t := setCq s j { cqOf s j with hold := es }
        cqFlush n (cqWrite (t.setF (fCQ_STATUS_HELD j) es.length) j e) j

/-- The completion of a fetched command (R354, R357); a command that a reset discarded has none. -/
def complete (s : State) (c : Cmd) (status : Nat) (r0 : Nat := 0) (r1 : Nat := 0) (r2 : Nat := 0)
    (detail : Nat := 0) : State :=
  if s.ring.opened.any (fun x => x.id == c.id) then
    let t := { s with ring := { s.ring with
      opened := s.ring.opened.filter (fun x => x.id != c.id),
      waiting := s.ring.waiting.filter (fun x => x.id != c.id) } }
    cqPost t (t.fv (fCR_CFG_CQ c.ring))
      { cid := c.cid, kind := 0, idx := c.ring, status := status, opcode := c.opcode, r0 := r0, r1 := r1,
        r2 := r2, detail := detail, irq := bitAt c.flags 0 }
  else s

/-- Whether a fetched command may start: a FENCE waits for every earlier command of its ring, and
commands of that ring wait behind it (R351, R352). -/
def startable (s : State) (c : Cmd) : Bool :=
  (!bitAt c.flags 1 || s.ring.opened.all (fun x => x.ring != c.ring || decide (c.id ≤ x.id)))
    && s.ring.waiting.all (fun x => x.ring != c.ring || decide (c.id ≤ x.id))

/-- The command that starts next: the first fetched one that may start. -/
def nextCmd (s : State) : Option Cmd := s.ring.waiting.find? (fun c => startable s c)

/-- The command that starts next runs `f` when its opcode is `op`; it no longer waits. -/
def onCmd (s : State) (op : Nat) (f : State → Cmd → State) : State :=
  match nextCmd s with
  | some c =>
    if c.opcode = op then
      f { s with ring := { s.ring with waiting := s.ring.waiting.filter (fun x => x.id != c.id) } } c
    else s
  | none => s

/-! ### Streams (R185, R359) -/

/-- The stream numbers of R359. -/
def streamOk (st : Nat) : Bool :=
  decide (st < 128) || (decide (0x80 ≤ st) && decide (st ≤ 0x83)) || (decide (0xA0 ≤ st) && decide (st ≤ 0xBF))

/-- The pipeline or canvas of a stream runs. -/
def streamRuns (s : State) (st : Nat) : Bool :=
  if st < 128 then s.started.contains (st / 4)
  else if 0xA0 ≤ st then s.started.contains (st - 0xA0)
  else s.on (fCV_ENABLE_EN (st - 0x80))

/-- The pipeline's stream is started. -/
def started (s : State) (p : Nat) : Bool := s.started.contains p

end Sys2Proof.Machine
end

