-- ==== Sys2Proof/Machine/BridgeOps.lean ====
section
/-!
DEFINITION. The sensor bridge (spec/16_pcie_and_bridges.md R396 to R401, R406): the byte transactions of
the sensor windows and the error log.
-/

namespace Sys2Proof.Machine

/-! ### The error log (R406) -/

/-- A failure enters the log: kind, port or window, address, written data, result and cause. -/
def errLog (s : State) (kind port addr data result cause : Nat) : State :=
  let e := s.fv fBRIDGE_STATUS_ERRLOG_NEXT
  let s := if s.on (fBRIDGE_ERRLOG_INFO_VALID e) then s.setF fBRIDGE_STATUS_WRAPPED 1 else s
  let s := s.setPair (rBRIDGE_ERRLOG_ADDR_LO e) (rBRIDGE_ERRLOG_ADDR_HI e) addr
  let s := s.setPair (rBRIDGE_ERRLOG_DATA_LO e) (rBRIDGE_ERRLOG_DATA_HI e) data
  let s := s.setPair (rBRIDGE_ERRLOG_TIME_LO e) (rBRIDGE_ERRLOG_TIME_HI e) s.dial
  let s := s.setRn (rBRIDGE_ERRLOG_INFO e)
    (kind + 4 + port % 256 * 2 ^ 8 + result % 16 * 2 ^ 16 + cause % 16 * 2 ^ 20)
  let s := s.setF fBRIDGE_STATUS_ERRLOG_NEXT ((e + 1) % 16)
  let s := s.bump fBRIDGE_CNT_A_FAILED
  if kind = 0 then
    asyncPost ((s.ev fBRIDGE_EVENT_POSTED_FAIL).report 0x16 port 0x0001) 0x81 addr s.dial e port
  else if kind = 2 then
    asyncPost ((s.ev fBRIDGE_EVENT_POSTED_FAIL).report 0x16 port 0x0003) 0x81 addr s.dial e (0x100 + port)
  else s

/-! ### Byte transactions (R396 to R401) -/

def queueOf (s : State) (n : Nat) : List (Nat × Nat) := kgetD [] n s.bridge.queue

/-- The queue of port `n`; PORT[n].QUEUED counts the 64 that it holds, the bytes of a waiting read
standing behind them. -/
def setQueue (s : State) (n : Nat) (q : List (Nat × Nat)) : State :=
  let t := { s with bridge := { s.bridge with queue := kput n q s.bridge.queue } }
  t.setF (fBRIDGE_PORT_QUEUED n) (satTo 64 q.length)

def setAcc (s : State) (id : Nat) (a : BridgeAcc) : State :=
  { s with bridge := { s.bridge with accs := kput id a s.bridge.accs } }

def dropAcc (s : State) (id : Nat) : State :=
  { s with bridge := { s.bridge with accs := kdel id s.bridge.accs } }

/-- An access enters the queue of its port, byte by byte in address order. -/
def queueAccess (s : State) (a : BridgeAcc) : State :=
  let id := s.bridge.nextAcc
  let t := setAcc { s with bridge := { s.bridge with nextAcc := id + 1 } } id a
  setQueue t a.port (queueOf t a.port ++ (List.range a.size).map (fun i => (id, i)))

/-- A failed write is logged and reported by its alias (R399, R406). -/
def writeFailed (s : State) (a : BridgeAcc) (result cause : Nat) : State :=
  let t := errLog s a.kind a.port a.addr (leNat a.data) result cause
  if a.kind = 1 then
    ((t.setF (fBRIDGE_PORT_SYNC_ERR a.port) 1).ev fBRIDGE_EVENT_SYNC_FAIL).report 0x16 a.port 0x0002
  else t

/-- The access is one that fails at once (R396). -/
def accessFails (s : State) (n a k : Nat) : Bool :=
  (!s.on (fSCC_TARGET_ADDR_WIDTH n) && decide (0x100 < a + k))
    || s.on (fSCC_STATUS_ABSENT n) || !s.on (fSCC_CTRL_EN n)

/-- A byte transaction of access `id` has ended with `result` (R120). -/
def byteEnded (s : State) (id result : Nat) (b : Byte) : State :=
  match kget id s.bridge.accs with
  | none => s
  | some a =>
    let first := a.got.isEmpty
    let s := setQueue s a.port ((queueOf s a.port).tail)
    let a := { a with got := a.got ++ [b], fail := if a.fail = 0 then result else a.fail }
    let whole := a.got.length == a.size
    if a.kind ≤ 1 then
      let s := if result ≠ 0 && a.kind = 1 && !a.lost then s.setF (fBRIDGE_PORT_SYNC_ERR a.port) 1 else s
      if whole then
        let s := dropAcc s id
        if a.fail ≠ 0 && !a.lost then writeFailed s a a.fail 0 else s
      else setAcc s id a
    else if a.kind = 3 then
      if first && result = 8 && !a.lost then
        -- the first byte is refused under a lost lock: the read completes at once (R401)
        let s := setAcc s id { a with lost := true }
        let s := if whole then dropAcc s id else s
        (s.setF (fBRIDGE_PORT_SYNC_ERR a.port) 0).answer .abort []
      else if whole && a.lost then dropAcc s id
      else setAcc s id a
    else if whole && a.lost then dropAcc s id
    else setAcc s id a

/-- The next byte of port `n` begins: a held read that finds SYNC_ERR set will be aborted (R399). -/
def byteBegins (s : State) (id : Nat) : State :=
  match kget id s.bridge.accs with
  | some a =>
    if a.kind = 3 && a.got.isEmpty then
      setAcc s id { a with abort := s.on (fBRIDGE_PORT_SYNC_ERR a.port) }
    else s
  | none => s

end Sys2Proof.Machine
end

