-- ==== Sys2Proof/Machine/RegWrite.lean ====
section
/-!
DEFINITION. A write of one 32-bit register by its access codes and ranges (spec/24_register_map.md R6,
R555), the lock of a shadow set (spec/08 R169), and the writes of shadowed registers and tables.
-/

namespace Sys2Proof.Machine

/-- A write may not give field `f` the value that `v` holds for it. -/
def fieldBad (v : Nat) (f : RegField) : Bool :=
  f.acc == .rw && (let x := bitsOf v f.lsb f.width
    (decide (x < f.lo) || decide (f.hi < x)) && x != f.alt)

/-- The word after a write of `v` to a register that held `old` (R6). -/
def writeWord (old v : Nat) : List RegField → Nat
  | [] => old
  | f :: fs =>
    let x := bitsOf v f.lsb f.width
    let o := bitsOf old f.lsb f.width
    let n := match f.acc with
      | .rw => x
      | .w1c => o - bitsOf (maskOf f.width (fun k => bitAt o k && bitAt x k)) 0 f.width
      | .w1s => maskOf f.width (fun k => bitAt o k || bitAt x k)
      | _ => o
    writeWord (putBits old f.lsb f.width n) v fs

/-- A write cleared an event bit of the register. -/
def clearsEvent (old v : Nat) (fs : List RegField) : Bool :=
  fs.any (fun f => f.acc == .w1c && (List.range f.width).any (fun k =>
    bitAt (bitsOf old f.lsb f.width) k && bitAt (bitsOf v f.lsb f.width) k))

/-- The interrupt source of which the register at `off` is an EVENT or EVENT_EN register (R371). -/
def evSrc (off : Nat) : Option Nat :=
  (srcOf off).filter (fun n => (srcRegs n).any (fun r => r.1 == off || r.2 == off))

/-- CFG_INVALID of the block of a register is set (R555). -/
def cfgInvalid (s : State) (r : RegRow) (i : Nat) : State :=
  if r.ev = 0 then s.ev fGLB_EVENT_CFG_INVALID else s.ev ⟨r.ev + r.evs * i, r.evBit, 1⟩

/-- A 4-byte write by access codes and ranges alone. -/
def plainWrite (s : State) (off : Nat) (v : Word) : State :=
  match regAt off with
  | none => s
  | some (r, i, _) =>
    if r.flds.any (fieldBad v.toNat) then cfgInvalid s r i
    else
      let old := s.rn off
      let t := s.setRn off (writeWord old v.toNat r.flds)
      match evSrc off with
      | some n => if clearsEvent old v.toNat r.flds then irqAgain t n else irqEval t n
      | none => t

/-! ### Shadow sets (R167, R169) -/

/-- The register at `off` is shadowed. -/
def shadowedAt (off : Nat) : Bool := match regAt off with | some (r, _, _) => r.sh | none => false

/-- The target whose configuration holds the shadowed register at `off`, map entries apart. -/
def ownerOf (off : Nat) : Option Nat :=
  if 0x400000 ≤ off && off < 0x600000 then some ((off - 0x400000) / 0x10000)
  else if 0x600000 ≤ off && off < 0x640000 then some (32 + (off - 0x600000) / 0x10000)
  else if rLARDER_DEPTH 0 ≤ off && off < rLARDER_DEPTH 192 then
    let st := (off - rLARDER_DEPTH 0) / 4
    if st < 128 then some (st / 4) else if st < 132 then some (32 + (st - 128))
    else if 160 ≤ st then some (st - 160) else none
  else none

def lockedTarget (s : State) (t : Nat) : Bool := s.on (fCMT_COMMIT_STATUS_LOCKED t)

/-- The locked target that a write of `v` to the shadowed register at `off` would change (R169). -/
def lockOf (s : State) (off : Nat) (v : Word) : Option Nat :=
  match mapIndex off with
  | some e =>
    let p := entryPipe s.rn e
    let isMap := if e.1 < 32 then off == rSPORT_VC_MAP e.1 e.2 else off == rLPORT_MAP (e.1 - 32)
    let q := entryPipe (fun _ => v.toNat) e
    if lockedTarget s p then some p else if isMap && lockedTarget s q then some q else none
  | none => (ownerOf off).filter (lockedTarget s)

/-- The table windows of a PIPE block (R222, R250). -/
def isTable (off : Nat) : Bool :=
  decide (0x400000 ≤ off) && decide (off < 0x600000)
    && (let o := off % 0x10000
        (decide (0x1000 ≤ o) && decide (o < 0x2000)) || (decide (0x4000 ≤ o) && decide (o < 0xF000)))

/-- A 4-byte write of a shadowed register or table word. -/
def shadowWrite (s : State) (off : Nat) (v : Word) : State :=
  match lockOf s off v with
  | some t => s.ev (fCMT_EVENT_SHADOW_LOCKED t)
  | none =>
    let t := plainWrite s off v
    if isTable off && !t.written.contains off then { t with written := off :: t.written } else t

/-- The shadowed registers that the swap of target `t` copies (R167, R170). -/
def swapCopies (s : State) (t off : Nat) : Bool :=
  match mapIndex off with
  | some e => decide (t < 32) && entryPipe s.rn e == t
  | none => ownerOf off == some t && shadowedAt off

/-- The active set of target `t` becomes its shadow set. -/
def copySet (s : State) (t : Nat) : State :=
  let kept := kfilter (fun off => !swapCopies s t off) s.act
  let new := kfilter (fun off => swapCopies s t off) s.regs
  { s with act := new.foldl (fun m x => kput x.1 x.2 m) kept }

/-- What a frame takes with it of the active set (R202): its pipeline's or canvas's block, its map entry
and the input format of an LPORT. -/
def frameCfg (s : State) (t : Nat) (e : Option (Nat × Nat)) : KMap Word :=
  let mine := kfilter (fun off => ownerOf off == some t || (mapIndex off).isSome && mapIndex off == e) s.act
  match e with
  | some (n, _) => if 32 ≤ n then kput (rLPORT_CTRL (n - 32)) (s.reg (rLPORT_CTRL (n - 32))) mine else mine
  | none => mine

/-- The configuration that a snapshot stands for. -/
def snapCfg (m : KMap Word) : Cfg := fun off => ((kget off m).getD (resetWord off)).toNat

end Sys2Proof.Machine
end

