-- ==== Sys2Proof/Machine/LaneOps.lean ====
section
/-!
DEFINITION. The fabric lanes (spec/17_fabric_lanes.md): enabling, states and sleep, receive adaptation, and the test
machinery.
-/

namespace Sys2Proof.Machine

def laneOf (s : State) (m : Nat) : Lane := kgetD {} m s.lane
def setLane (s : State) (m : Nat) (x : Lane) : State := { s with lane := kputD {} m x s.lane }
def updLane (s : State) (m : Nat) (g : Lane → Lane) : State := setLane s m (g (laneOf s m))

def laneEn (s : State) (m : Nat) : Bool := s.on (fLANE_CTRL_EN m)
/-- Code `code` of the LANE class. -/
def laneReport (s : State) (m code : Nat) : State := s.report 0x17 m code

/-! ### States (R420, R421) -/

/-- The state that is asked of a direction: the controller's request, or the forced state while FABRIC_EN is 0, no
deeper than SLEEP_MAX; a receiver takes IDLE as ON. -/
def laneTarget (s : State) (m : Nat) (tx : Bool) : Nat :=
  let x := laneOf s m
  let fab := s.on (fLANE_CTRL_FABRIC_EN m)
  let want := if tx then (if fab then x.reqTx else s.fv (fLANE_PWR_TX_FORCE m))
    else (if fab then x.reqRx else s.fv (fLANE_PWR_RX_FORCE m))
  let t := min want (s.fv (if tx then fLANE_PWR_TX_SLEEP_MAX m else fLANE_PWR_RX_SLEEP_MAX m))
  if !tx && t == 1 then 0 else t

/-- The field of the state in force. -/
def laneStateF (m : Nat) (tx : Bool) : Fld := if tx then fLANE_STATUS_TX_STATE m else fLANE_STATUS_RX_STATE m

/-- The direction runs: its lane is enabled, its PLL has locked, and it is ON. -/
def laneOn (s : State) (m : Nat) (tx : Bool) : Bool :=
  laneEn s m && (laneOf s m).pll && s.fv (laneStateF m tx) == 0 && s.on (fLANE_STATUS_FREF_OK m)

/-- A receiver loses its lock. -/
def laneUnlock (s : State) (m : Nat) : State :=
  let s := s.setF (fLANE_STATUS_CDR_LOCK m) 0
  updLane s m (fun x => { x with unlockedAt := some (x.unlockedAt.getD s.now) })

/-- Initial adaptation starts on an ON receiver with a signal (R419). -/
def laneAdapt (s : State) (m : Nat) : State :=
  if laneOn s m false && s.on (fLANE_STATUS_SIGNAL m) then
    updLane (s.setF (fLANE_STATUS_ADAPT_DONE m) 0) m (fun x => { x with adapting := some s.now })
  else s

/-- A receiver has recovered its clock. -/
def laneLock (s : State) (m : Nat) : State :=
  updLane ((s.setF (fLANE_STATUS_CDR_LOCK m) 1).setF (fLANE_STATUS_ADAPT_DONE m) 1) m
    (fun x => { x with adapting := none, unlockedAt := none })

/-- The requested state of a direction is acted on: a deeper one is in force at once, a lighter one after the wake of
R422. -/
def laneApply (s : State) (m : Nat) (tx : Bool) : State :=
  if !laneEn s m || !(laneOf s m).pll then s
  else
    let t := laneTarget s m tx
    let now := s.fv (laneStateF m tx)
    if t < now then updLane s m (fun x => if tx then { x with wakeTx := true } else { x with wakeRx := true })
    else if now < t then
      let s := s.setF (laneStateF m tx) t
      let s := updLane s m (fun x => if tx then { x with wakeTx := false } else { x with wakeRx := false })
      if tx then s
      else
        let s := laneUnlock s m
        let s := if t = 3 then s.setF (fLANE_STATUS_ADAPT_DONE m) 0 else s
        updLane s m (fun x => { x with adapting := none })
    else s

/-- A direction reaches its requested state after a wake (R422). -/
def laneAwake (s : State) (m : Nat) (tx : Bool) : State :=
  let x := laneOf s m
  if laneEn s m && (if tx then x.wakeTx else x.wakeRx) then
    let s := s.setF (laneStateF m tx) (laneTarget s m tx)
    let s := updLane s m (fun x => if tx then { x with wakeTx := false } else { x with wakeRx := false })
    if !tx && laneOn s m false && s.on (fLANE_STATUS_SIGNAL m) then laneLock s m else s
  else s

/-! ### Enabling (R412, R420) -/

/-- EN goes to 1: the PLL starts, and the rate and precoding that the registers hold come into force. -/
def laneStart (s : State) (m : Nat) : State :=
  let s := (s.setF (fLANE_STATUS_TX_STATE m) 3).setF (fLANE_STATUS_RX_STATE m) 3
  updLane s m (fun x => { x with
    rate := s.fv (fLANE_CTRL_RATE m), precode := s.fv (fLANE_CTRL_PRECODE m), pll := false, wakeTx := false,
    wakeRx := false, adapting := none, unlockedAt := some s.now })

/-- EN goes to 0: both directions are off, adaptation stops, and the coefficients stay. -/
def laneStop (s : State) (m : Nat) : State :=
  let s := (s.setF (fLANE_STATUS_SIGNAL m) 0).setF (fLANE_STATUS_CDR_LOCK m) 0
  updLane (s.setF (fLANE_STATUS_ADAPT_DONE m) 0) m (fun x => { x with
    pll := false, wakeTx := false, wakeRx := false, reqTx := 0, reqRx := 0, adapting := none, unlockedAt := none })

/-- A test uses the lane (R424). -/
def laneTested (s : State) (m : Nat) : Bool :=
  s.on (fLANE_PATGEN_EN m) || s.on (fLANE_PATCHK_EN m) || s.fv (fLANE_LOOPBACK_MODE m) != 0

/-- A write of CTRL. -/
def laneCtrl (s : State) (m : Nat) (v : Word) : State :=
  if s.on (fLANE_STATUS_ABSENT m) || !domOn s 12 then s
  else if bitAt v.toNat 1 && laneTested s m then s.ev (fLANE_EVENT_CFG_IGNORED m)
  else
    let was := laneEn s m
    let s := plainWrite s (rLANE_CTRL m) v
    let s := updLane s m (fun x => if bitAt v.toNat 1 then x else { x with reqTx := 0, reqRx := 0 })
    if laneEn s m && !was then laneStart s m else if !laneEn s m && was then laneStop s m else s

/-- The transmit PLL locks, and both directions come up (R422). -/
def lanePll (s : State) (m : Nat) : State :=
  if laneEn s m && !(laneOf s m).pll && s.on (fLANE_STATUS_FREF_OK m) then
    let s := updLane s m (fun x => { x with pll := true })
    let s := s.setF (fLANE_STATUS_TX_STATE m) (laneTarget s m true)
    laneAdapt (s.setF (fLANE_STATUS_RX_STATE m) (laneTarget s m false)) m
  else s

/-- Signal detect works in every state of an enabled receiver (R421). -/
def laneSignal (s : State) (m : Nat) (on : Bool) : State :=
  if !laneEn s m || !(laneOf s m).pll || s.on (fLANE_STATUS_SIGNAL m) == on then s
  else
    let s := s.setF (fLANE_STATUS_SIGNAL m) (b2n on)
    if on then (if s.on (fLANE_STATUS_CDR_LOCK m) then s else laneAdapt s m)
    else updLane s m (fun x => { x with adapting := none })

/-! ### Adaptation (R419, R423) -/

def adaptDone (s : State) (m ctle gain : Nat) (dfe1 : Int) : State :=
  if (laneOf s m).adapting.isNone || !laneOn s m false then s
  else
    let manual := s.fv (fLANE_RX_EQ_MODE m) = 2
    let s := s.setF (fLANE_RX_EQ_STATUS_CTLE m) (if manual then s.fv (fLANE_RX_EQ_CTLE m) else ctle)
    let s := s.setF (fLANE_RX_EQ_STATUS_GAIN m) gain
    laneLock (s.setF (fLANE_RX_EQ_STATUS_DFE1 m) (if manual then 0 else wordOfInt 8 (clampInt (-128) 127 dfe1))) m

def adaptTimeout (s : State) (m : Nat) : State :=
  match (laneOf s m).adapting with
  | some t =>
    if t + 30000000 ≤ s.now then
      laneAdapt (laneReport (s.ev (fLANE_EVENT_ADAPT_FAIL m)) m 0x0003) m
    else s
  | none => s

def cdrLost (s : State) (m : Nat) : State :=
  if s.on (fLANE_STATUS_CDR_LOCK m) && laneOn s m false then
    laneReport ((laneUnlock s m).ev (fLANE_EVENT_LOCK_LOST m)) m 0x0002
  else s

def cdrRelock (s : State) (m : Nat) : State :=
  if !s.on (fLANE_STATUS_CDR_LOCK m) && laneOn s m false && s.on (fLANE_STATUS_SIGNAL m)
      && (laneOf s m).adapting.isNone then laneLock s m
  else s

/-! ### The reference clock (R416) -/

def lanes8 : List Nat := List.range 8

def frefLost (s : State) : State :=
  if lanes8.any (fun m => s.on (fLANE_STATUS_FREF_OK m)) then
    let s := lanes8.foldl (fun s m =>
      let s := (s.setF (fLANE_STATUS_FREF_OK m) 0).ev (fLANE_EVENT_FREF_LOST m)
      if laneEn s m then
        updLane (laneUnlock (s.setF (fLANE_STATUS_TX_STATE m) 1) m) m (fun x => { x with pll := false, adapting := none })
      else s) s
    laneReport s 0 0x0001
  else s

def frefBack (s : State) : State :=
  if domOn s 12 && lanes8.all (fun m => !s.on (fLANE_STATUS_FREF_OK m)) then
    lanes8.foldl (fun s m =>
      let s := s.setF (fLANE_STATUS_FREF_OK m) 1
      if laneEn s m then laneStart s m else s) s
  else s

/-! ### Test machinery (R424 to R429) -/

/-- A write that a lane offered to the fabric refuses (R424). -/
def laneTestWrite (s : State) (m off : Nat) (v : Word) (sets : Bool) (f : State → State) : State :=
  if !domOn s 12 then s
  else if sets && s.on (fLANE_CTRL_FABRIC_EN m) then s.ev (fLANE_EVENT_CFG_IGNORED m)
  else match regAt off with
    | some (r, _, _) => if r.flds.any (fieldBad v.toNat) then plainWrite s off v else f (plainWrite s off v)
    | none => s

/-- The checker's counters go on (R426). -/
def chkCount (s : State) (m : Nat) (c : ChkCount) : State :=
  if s.on (fLANE_CHK_STATUS_SYNC m) && laneOn s m false then
    updLane s m (fun x => { x with
      bits := satTo (2 ^ 48 - 1) (x.bits + 2 * c.symbols), sym := satTo (2 ^ 32 - 1) (x.sym + c.symErr),
      bit := satTo (2 ^ 32 - 1) (x.bit + c.bitErr) })
  else s

/-- The snapshot (R427). -/
def chkSnap (s : State) (m : Nat) : State :=
  let x := laneOf s m
  ((s.setPair (rLANE_SNAP_BITS_LO m) (rLANE_SNAP_BITS_HI m) x.bits).setRn (rLANE_SNAP_SYM m) x.sym).setRn
    (rLANE_SNAP_BIT m) x.bit

/-- A write of PATCHK: the snapshot is taken before the counters are cleared (R430). -/
def patchkWrite (s : State) (m : Nat) (v : Word) (c : ChkCount) : State :=
  laneTestWrite (chkCount s m c) m (rLANE_PATCHK m) v (bitAt v.toNat 0) (fun s =>
    let s := if bitAt v.toNat 0 then s else s.setF (fLANE_CHK_STATUS_SYNC m) 0
    let s := if bitAt v.toNat 5 then chkSnap s m else s
    if bitAt v.toNat 4 then
      updLane (s.setF (fLANE_CHK_STATUS_SYNC_LOSS m) 0) m (fun x => { x with bits := 0, sym := 0, bit := 0 })
    else s)

def chkSync (s : State) (m : Nat) : State :=
  if s.on (fLANE_PATCHK_EN m) && laneOn s m false then s.setF (fLANE_CHK_STATUS_SYNC m) 1 else s

def chkLoss (s : State) (m : Nat) (c : ChkCount) : State :=
  if s.on (fLANE_CHK_STATUS_SYNC m) then
    let s := (chkCount s m c).setF (fLANE_CHK_STATUS_SYNC m) 0
    (s.bump (fLANE_CHK_STATUS_SYNC_LOSS m)).ev (fLANE_EVENT_SYNC_LOST m)
  else s

/-- One transmitted symbol is changed. -/
def injected (s : State) (m : Nat) : State :=
  s.setRn (rLANE_INJ_COUNT m) (satTo (2 ^ 32 - 1) (s.rn (rLANE_INJ_COUNT m) + 1))

/-- A write of INJECT (R428). -/
def injectWrite (s : State) (m : Nat) (v : Word) : State :=
  laneTestWrite s m (rLANE_INJECT m) v false (fun s =>
    let one := bitAt v.toNat 0
    let s := if one && laneOn s m true then injected s m else s
    s.evIf (s.on (fLANE_CTRL_FABRIC_EN m) && (one || bitAt v.toNat 1)) (fLANE_EVENT_INJECT_MISSION m))

def injectRate (s : State) (m : Nat) : State :=
  if s.on (fLANE_INJECT_RATE_EN m) && laneOn s m true then injected s m else s

/-- A write of LOOPBACK: after a change to MODE 1 the receiver adapts to the internal path (R429). -/
def loopbackWrite (s : State) (m : Nat) (v : Word) : State :=
  let was := s.fv (fLANE_LOOPBACK_MODE m)
  laneTestWrite s m (rLANE_LOOPBACK m) v (bitsOf v.toNat 0 2 != 0) (fun s =>
    if s.fv (fLANE_LOOPBACK_MODE m) = 1 && was != 1 then laneAdapt (laneUnlock s m) m else s)

/-- A write of PWR: a direction deeper than its new limit wakes (R430), and forced states are acted on when the
request is (LANE_STATE_REQUEST). -/
def lanePwrWrite (s : State) (m : Nat) (v : Word) : State :=
  if !domOn s 12 then s
  else
    let s := plainWrite s (rLANE_PWR m) v
    [true, false].foldl (fun s tx =>
      let hi := s.fv (if tx then fLANE_PWR_TX_SLEEP_MAX m else fLANE_PWR_RX_SLEEP_MAX m)
      if hi < s.fv (laneStateF m tx) then laneApply s m tx else s) s

end Sys2Proof.Machine
end

