-- ==== Sys2Proof/Machine/PcieOps.lean ====
section
/-!
DEFINITION. The endpoint (spec/16_pcie_and_bridges.md R386 to R393): the reads that it issues, and what it reports
through Advanced Error Reporting. The bit numbers of the error registers are those of the PCI Express Base
Specification, which R381 and R390 name.
-/

namespace Sys2Proof.Machine

/-- A request of the host reaches the device: the link is DL_Active, and CONFIG_READY has passed (R54). -/
def hostReq (s t : State) : State :=
  hub s (if s.pcie.configReady && s.on fPCIE_LINK_STATUS_DL_ACTIVE then t else s)

/-! ### Reads (R378, R386) -/

/-- The tags that the host enables: 10-bit tags, else 8-bit tags. -/
def hostTags (s : State) : Nat := if bitAt (cfgWord s 0x098).toNat 12 then 768 else 256

/-- A read can be issued. -/
def canRead (s : State) : Bool := hostUp s && decide (s.pcie.reads.length < hostTags s)

/-- A HOST read is issued; its key, and the state. -/
def issueRead (s : State) (owner : ReadOwner) (addr size : Nat) : Nat × State :=
  let k := s.pcie.nextTag
  (k, { s with pcie := { s.pcie with
    reads := kput k { owner := owner, addr := addr, size := size } s.pcie.reads, nextTag := k + 1 } })

def dropRead (s : State) (k : Nat) : State := { s with pcie := { s.pcie with reads := kdel k s.pcie.reads } }

/-- Every byte of a read has arrived. -/
def HostRead.whole (r : HostRead) : Bool := !r.failed && decide (r.size ≤ r.got.length)

/-! ### Error reporting (R390) -/

def setCfg (s : State) (off v : Nat) : State :=
  { s with pcie := { s.pcie with cfg := kputD (cfgInit off) off (BitVec.ofNat 32 v) s.pcie.cfg } }
def cfgN (s : State) (off : Nat) : Nat := (cfgWord s off).toNat
def cfgSet (s : State) (off bit : Nat) : State := setCfg s off (putBits (cfgN s off) bit 1 1)

/-- The severity of an uncorrectable error: fatal. -/
def aerFatal (s : State) (bit : Nat) : Bool := bitAt (cfgN s 0x10C) bit

/-- An error message of the device, where the host enables it in Device Control. -/
def errMsg (s : State) (kind : Nat) : State :=
  if bitAt (cfgN s 0x078) kind then { s with pcie := { s.pcie with errMsgs := s.pcie.errMsgs ++ [kind] } } else s

/-- A correctable error of bit `bit`. -/
def aerCorr (s : State) (bit : Nat) : State :=
  let s := cfgSet (cfgSet s 0x110 bit) 0x078 16
  if bitAt (cfgN s 0x114) bit then s else errMsg s 0

/-- The first error pointer and the header of an uncorrectable error; the model is given no headers. -/
def aerFirst (s : State) (bit : Nat) : State :=
  if cfgN s 0x104 = 0 then
    let s := setCfg s 0x118 (putBits (cfgN s 0x118) 0 5 bit)
    [0x11C, 0x120, 0x124, 0x128].foldl (fun s off =>
      let (v, s) := takeFree s
      setCfg s off v) s
  else s

/-- An uncorrectable error; an advisory one is reported as a correctable error while its severity is non-fatal. -/
def aerUncorr (s : State) (bit : Nat) (advisory : Bool) : State :=
  let s := cfgSet (aerFirst s bit) 0x104 bit
  if advisory && !aerFatal s bit then aerCorr s 13
  else
    let s := cfgSet s 0x078 (if aerFatal s bit then 18 else 17)
    if bitAt (cfgN s 0x108) bit then s else errMsg s (if aerFatal s bit then 2 else 1)

/-- A request is refused with Unsupported Request. -/
def aerUnsupported (s : State) : State := cfgSet (aerUncorr s 20 true) 0x078 19

/-- The device answers Unsupported Request to a read, and discards a write. -/
def refuseUr (s : State) (write : Bool) : State :=
  (aerUnsupported s).answer (if write then .none else .unsupported) []

/-- The device answers Completer Abort. -/
def refuseCa (s : State) : State := (aerUncorr s 15 true).answer .abort []

/-! ### Poison (R392, R393) -/

/-- A poisoned TLP has arrived (R393). -/
def poisonRx (s : State) : State :=
  ((aerUncorr (s.bump fPCIE_CNT_A_POISON_RX) 12 true).ev fPCIE_EVENT_POISON_RX).report 0x04 0 0x0005

/-- Data that is moved to HOST: poisoned data is issued with EP set, or not issued where DROP is 1. -/
def hostData (s : State) (addr : Nat) (bs : List Byte) (poisoned : Bool) : State :=
  if poisoned && s.on fPCIE_POISON_CFG_DROP then
    ((s.bumpBy fPCIE_CNT_B_POISON_DROP (ceilDiv bs.length 64)).ev fPCIE_EVENT_POISON_DROP).report 0x04 0 0x0006
  else hostWrite s addr bs poisoned

/-! ### The state of the link (R394) -/

/-- A host stream is started: a started pipeline, or an enabled canvas, delivers to the host. -/
def hostStream (s : State) : Bool :=
  s.started.any (fun p => (List.range 4).any (fun o =>
      s.aon (fOUT_CTRL_EN p o) && s.av (fOUT_CTRL_DEST p o) == 0))
    || (List.range 4).any (fun c => s.on (fCV_ENABLE_EN c) && s.av (fCV_CFG_DEST c) == 0)

def linkPower (s : State) : Nat := s.fv fPCIE_LINK_STATUS_POWER

end Sys2Proof.Machine
end

