-- ==== Sys2Proof/Machine/Rings.lean ====
section
/-!
DEFINITION. Doorbells, the shadow area, ring enabling, command fetch and the commands that concern
rings alone (spec/15_host_rings.md).
-/

namespace Sys2Proof.Machine

/-! ### Doorbells (R346, R348) -/

def crSize (s : State) (i : Nat) : Nat := 2 ^ s.fv (fCR_CFG_SIZE_LOG2 i)
def srSize (s : State) (k : Nat) : Nat := 2 ^ s.fv (fSR_CFG_SIZE_LOG2 k)

def crTail (s : State) (i v : Nat) : State :=
  if decide ((v + 2 ^ 16 - s.fv (fCR_HEAD_INDEX i)) % 2 ^ 16 ≤ crSize s i) then
    { s with ring := { s.ring with crTail := kput i v s.ring.crTail } }
  else s.ev fRING_EVENT_DB_INVALID

def srTail (s : State) (k v : Nat) : State :=
  if decide ((v + 2 ^ 16 - s.fv (fSR_HEAD_INDEX k)) % 2 ^ 16 ≤ srSize s k) then
    { s with ring := { s.ring with srTail := kput k v s.ring.srTail } }
  else s.ev fRING_EVENT_DB_INVALID

/-- A head doorbell frees slots, and held entries are written (R356). -/
def cqHead (s : State) (j v : Nat) : State :=
  if decide ((s.fv (fCQ_TAIL_INDEX j) + 2 ^ 16 - v) % 2 ^ 16 ≤ cqSize s j) then
    cqFlush 64 (setCq s j { cqOf s j with head := v }) j
  else s.ev fRING_EVENT_DB_INVALID

/-- A register doorbell is discarded while the shadow area is used (R349). -/
def doorbell (s : State) (f : State → State) : State :=
  if s.on fRING_SHADOW_CFG_EN then s.ev fRING_EVENT_DB_IGNORED else f s

def execCrTail (i : Nat) (v : Word) (s : State) : Out :=
  .next (hub s (doorbell s (fun s => crTail s (i % 16) (bitsOf v.toNat 0 16))))
def execCqHead (j : Nat) (v : Word) (s : State) : Out :=
  .next (hub s (doorbell s (fun s => cqHead s (j % 64) (bitsOf v.toNat 0 16))))
def execSrTail (k : Nat) (v : Word) (s : State) : Out :=
  .next (hub s (doorbell s (fun s => srTail s (k % 512) (bitsOf v.toNat 0 16))))

/-! ### The shadow area (R349) -/

/-- A read of the shadow area is issued. -/
def shadowRead (s : State) : State :=
  if s.on fRING_SHADOW_CFG_EN && hostUp s then
    { s with ring := { s.ring with shadowReads := s.ring.shadowReads + 1 } }
  else s

def execKick (v : Word) (s : State) : Out :=
  .next (hub s (if bitAt v.toNat 0 then shadowRead s else s))
def execShadowPoll (s : State) : Out := .next (hub s (shadowRead s))

/-- The values of a shadow read act as doorbell writes. -/
def shadowApply (s : State) (bs : List Byte) : State :=
  let s := (List.range 16).foldl (fun s i => crTail s i (leAt bs (4 * i) 2)) s
  let s := (List.range 64).foldl (fun s j => cqHead s j (leAt bs (0x40 + 4 * j) 2)) s
  (List.range 512).foldl (fun s k => srTail s k (leAt bs (0x140 + 4 * k) 2)) s

def shadowDone (s : State) (r : HostData) : State :=
  if s.ring.shadowReads = 0 then s
  else
    let s := { s with ring := { s.ring with shadowReads := s.ring.shadowReads - 1 } }
    match r with
    | .data bs => if s.on fRING_SHADOW_CFG_EN then shadowApply s bs else s
    | .failed => s.ev fRING_EVENT_SHADOW_ERR
    | .poisoned => (poisonRx s).ev fRING_EVENT_SHADOW_ERR

def execShadowReadDone (r : HostData) (s : State) : Out := .next (hub s (shadowDone s r))

/-! ### Enabling rings (R347) -/

/-- The three kinds of ring. -/
inductive RingKind where
  | cr | cq | sr
  deriving DecidableEq, Repr

/-- Whether base and size of a ring agree with R344. -/
def ringShapeOk (base sizeLog2 entry : Nat) : Bool :=
  decide (4 ≤ sizeLog2) && decide (sizeLog2 ≤ 12) && base % max 4096 (2 ^ sizeLog2 * entry) == 0

/-- The sizes of the enabled command and stream rings that name completion ring `j`. -/
def cqLoad (s : State) (j : Nat) : Nat :=
  sumList ((List.range 16).map (fun i =>
      if s.on (fCR_CFG_EN i) && s.fv (fCR_CFG_CQ i) == j then crSize s i else 0))
    + sumList ((List.range 512).map (fun k =>
      if s.on (fSR_CFG_EN k) && s.fv (fSR_CFG_CQ k) == j then srSize s k else 0))

/-- The stream of a stream ring runs. -/
def srBusy (s : State) (k : Nat) : Bool :=
  s.on (fSR_STATUS_BOUND k) && streamRuns s (s.fv (fSR_STATUS_STREAM k))

/-- A binding is released (R359). -/
def unbind (s : State) (k : Nat) : State :=
  if s.on (fSR_STATUS_BOUND k) then
    let t := { s with ring := { s.ring with bind := kdel (s.fv (fSR_STATUS_STREAM k)) s.ring.bind } }
    t.setRn (rSR_STATUS k) 0
  else s

/-- A write of CFG of CR[i]. -/
def crCfg (s : State) (i : Nat) (v : Word) : State :=
  let n := v.toNat
  let en := bitAt n 0
  let lg := bitsOf n 1 4
  let q := bitsOf n 8 6
  let bad := s.ev fRING_EVENT_CFG_INVALID
  if s.on (fCR_CFG_EN i) then
    if lg ≠ s.fv (fCR_CFG_SIZE_LOG2 i) || q ≠ s.fv (fCR_CFG_CQ i)
        || bitsOf n 16 2 ≠ s.fv (fCR_CFG_PRIO i) then bad
    else if en then s
    else (s.setF (fCR_CFG_EN i) 0).setF (fCR_STATUS_STATE i) 0
  else if lg < 4 || 12 < lg then bad
  else
    let t := (((s.setF (fCR_CFG_SIZE_LOG2 i) lg).setF (fCR_CFG_CQ i) q).setF (fCR_CFG_PRIO i)
      (bitsOf n 16 2))
    if en then
      if ringShapeOk (s.pair (rCR_BASE_LO i) (rCR_BASE_HI i)) lg 64 && s.on (fCQ_CFG_EN q)
          && decide (cqLoad s q + 2 ^ lg + 16 ≤ cqSize s q) then
        let t := (t.setF (fCR_CFG_EN i) 1).setRn (rCR_HEAD i) 0
        let t := t.setF (fCR_STATUS_STATE i) 1
        { t with ring := { t.ring with crTail := kput i 0 t.ring.crTail } }
      else t.ev fRING_EVENT_CFG_INVALID
    else t

/-- A write of CFG of SR[k]. -/
def srCfg (s : State) (k : Nat) (v : Word) : State :=
  let n := v.toNat
  let en := bitAt n 0
  let lg := bitsOf n 1 4
  let q := bitsOf n 8 6
  let bad := s.ev fRING_EVENT_CFG_INVALID
  if s.on (fSR_CFG_EN k) then
    if lg ≠ s.fv (fSR_CFG_SIZE_LOG2 k) || q ≠ s.fv (fSR_CFG_CQ k) then bad
    else if en then s
    else if srBusy s k then bad else (unbind s k).setF (fSR_CFG_EN k) 0
  else if lg < 4 || 12 < lg then bad
  else
    let t := (s.setF (fSR_CFG_SIZE_LOG2 k) lg).setF (fSR_CFG_CQ k) q
    if en then
      if ringShapeOk (s.pair (rSR_BASE_LO k) (rSR_BASE_HI k)) lg 32 && s.on (fCQ_CFG_EN q)
          && decide (cqLoad s q + 2 ^ lg + 16 ≤ cqSize s q) then
        let t := (t.setF (fSR_CFG_EN k) 1).setRn (rSR_HEAD k) 0
        { t with ring := { t.ring with srTail := kput k 0 t.ring.srTail } }
      else t.ev fRING_EVENT_CFG_INVALID
    else t

/-- Whether an enabled ring names completion ring `j`. -/
def cqNamed (s : State) (j : Nat) : Bool := cqLoad s j != 0

/-- A write of CFG of CQ[j]. -/
def cqCfg (s : State) (j : Nat) (v : Word) : State :=
  let n := v.toNat
  let en := bitAt n 0
  let lg := bitsOf n 1 4
  let bad := s.ev fRING_EVENT_CFG_INVALID
  if s.on (fCQ_CFG_EN j) then
    if lg ≠ s.fv (fCQ_CFG_SIZE_LOG2 j) then bad
    else if en then s
    else if cqNamed s j && !s.on (fCQ_STATUS_OVERFLOW j) then bad
    else irqEval (setCq ((s.setF (fCQ_CFG_EN j) 0).setRn (rCQ_STATUS j) 0) j {}) j
  else if lg < 4 || 12 < lg then bad
  else
    let t := s.setF (fCQ_CFG_SIZE_LOG2 j) lg
    if en then
      if ringShapeOk (cqBase s j) lg 32 then
        let t := ((t.setF (fCQ_CFG_EN j) 1).setF (fCQ_TAIL_INDEX j) 0).setF (fCQ_TAIL_PHASE j) 1
        setCq (t.setRn (rCQ_STATUS j) 0) j {}
      else t.ev fRING_EVENT_CFG_INVALID
    else t

/-- A write of the CFG register at ring number `n`: 0 to 15 command rings, 16 to 79 completion rings,
80 to 591 stream rings. -/
def ringEnable (s : State) (n : Nat) (v : Word) : State :=
  if n < 16 then crCfg s n v
  else if n < 80 then cqCfg s (n - 16) v
  else srCfg s (n - 80) v

def execRingEnable (n : Nat) (v : Word) (s : State) : Out := .next (hub s (ringEnable s (n % 592) v))

/-! ### Command fetch (R352, R353) -/

/-- Command ring `i` has an entry to fetch. -/
def crReady (s : State) (i : Nat) : Bool :=
  s.on (fCR_CFG_EN i) && s.fv (fCR_STATUS_STATE i) == 1
    && kgetD 0 i s.ring.crTail != s.fv (fCR_HEAD_INDEX i)
    && decide ((kgetD 0 i s.ring.crTail + 2 ^ 16 - s.fv (fCR_HEAD_INDEX i)) % 2 ^ 16 ≤ crSize s i)

/-- The ring that is fetched from next: the highest PRIO, in turn among equals. -/
def fetchRing (s : State) : Option Nat :=
  let turn := (List.range 16).map (fun k => (s.ring.lastFetched + 1 + k) % 16)
  let ready := turn.filter (crReady s)
  let top := maxList (ready.map (fun i => s.fv (fCR_CFG_PRIO i)))
  ready.find? (fun i => s.fv (fCR_CFG_PRIO i) == top)

/-- The opcodes of R357. -/
def knownOp (op : Nat) : Bool :=
  [0x01, 0x02, 0x10, 0x11, 0x12, 0x20, 0x21, 0x22, 0x30, 0x31].contains op

/-- The opcodes whose command has a payload. -/
def hasPayload (op : Nat) : Bool := op == 0x20 || op == 0x22

/-- A command from its 64 bytes (R351); `reserved` says that a reserved byte or flag is set. -/
def parseCmd (id ring : Nat) (bs : List Byte) : Cmd where
  id := id
  ring := ring
  opcode := leAt bs 0 1
  flags := leAt bs 1 1
  cid := leAt bs 2 2
  target := leAt bs 4 4
  arg0 := leAt bs 8 8
  arg1 := leAt bs 0x10 8
  addr := leAt bs 0x18 8
  len := leAt bs 0x20 4
  reserved := leAt bs 0x24 28 != 0 || decide (3 < leAt bs 1 1)
  payload := []

/-- The device fetches one command and its payload. -/
def fetch (s : State) (entry payload : HostData) : State :=
  if !(s.on fGLB_BOOT_STATUS_READY && hostUp s) then s
  else
    match fetchRing s with
    | none => s
    | some i =>
      let s := { s with ring := { s.ring with lastFetched := i } }
      let head := s.fv (fCR_HEAD_INDEX i)
      let at_ := s.pair (rCR_BASE_LO i) (rCR_BASE_HI i) + head % crSize s i * 64
      let halt (s : State) : State :=
        asyncPost ((s.setF (fCR_STATUS_STATE i) 2).ev fRING_EVENT_CR_HALTED) 0x83 i at_
      match entry with
      | .failed => halt s
      | .poisoned => halt (poisonRx s)
      | .data bs =>
        let c := parseCmd s.ring.nextId i (padTo 64 bs)
        let s := s.setF (fCR_HEAD_INDEX i) ((head + 1) % 2 ^ 16)
        let s := { s with ring := { s.ring with nextId := c.id + 1, opened := s.ring.opened ++ [c] } }
        let wait (s : State) (c : Cmd) : State :=
          let s := { s with ring := { s.ring with waiting := s.ring.waiting ++ [c] } }
          if c.opcode = 0x21 then s.setF fRING_SHADOW_CFG_LOCKED 1 else s
        if !knownOp c.opcode then complete s c 0x03
        else if !hasPayload c.opcode || c.len == 0 || c.addr % 8 != 0
            || decide (1048576 < c.len) then wait s c
        else match payload with
          | .data p => wait s { c with payload := padTo c.len p }
          | .failed => complete s c 0x05
          | .poisoned => complete (poisonRx s) c 0x05

def execCommandFetch (entry payload : HostData) (s : State) : Out :=
  .next (hub s (fetch s entry payload))

/-! ### Commands on rings alone (R357, R359) -/

/-- The fields that the command does not use are zero. -/
def unusedZero (c : Cmd) (target arg0 arg1 data : Bool) : Bool :=
  !c.reserved && (target || c.target == 0) && (arg0 || c.arg0 == 0) && (arg1 || c.arg1 == 0)
    && (data || (c.addr == 0 && c.len == 0))

def cmdNop (s : State) (c : Cmd) : State :=
  complete s c (if unusedZero c false false false false then 0x00 else 0x04)

def execNop (s : State) : Out := .next (hub s (onCmd s 0x01 cmdNop))

/-- STREAM_BIND with UNBIND at 0 (R359). -/
def cmdBind (s : State) (c : Cmd) : State :=
  let st := bitsOf c.target 0 8
  let k := bitsOf c.arg0 0 9
  if !unusedZero c true true false false || decide (256 ≤ c.target)
      || bitsOf c.arg0 9 7 != 0 || decide (2 ^ 18 ≤ c.arg0) || !streamOk st then complete s c 0x04
  else if streamRuns s st then complete s c 0x50
  else if !s.on (fSR_CFG_EN k) || (s.on (fSR_STATUS_BOUND k) && s.fv (fSR_STATUS_STREAM k) != st) then
    complete s c 0x53
  else
    let s := match kget st s.ring.bind with
      | some old => if old = k then s else s.setRn (rSR_STATUS old) 0
      | none => s
    let s := { s with ring := { s.ring with bind := kput st k s.ring.bind } }
    let s := ((s.setF (fSR_STATUS_BOUND k) 1).setF (fSR_STATUS_STREAM k) st).setF
      (fSR_STATUS_SLICE_CPL k) (b2n (bitAt c.arg0 17))
    complete s c 0x00

/-- STREAM_BIND with UNBIND at 1. -/
def cmdUnbind (s : State) (c : Cmd) : State :=
  let st := bitsOf c.target 0 8
  let k := bitsOf c.arg0 0 9
  if !unusedZero c true true false false || decide (256 ≤ c.target)
      || bitsOf c.arg0 9 7 != 0 || decide (2 ^ 18 ≤ c.arg0) || !streamOk st then complete s c 0x04
  else if streamRuns s st then complete s c 0x50
  else if !s.on (fSR_CFG_EN k) || (s.on (fSR_STATUS_BOUND k) && s.fv (fSR_STATUS_STREAM k) != st) then
    complete s c 0x53
  else match kget st s.ring.bind with
    | none => complete s c 0x54
    | some old => complete (unbind s old) c 0x00

/-- The command that starts next is a STREAM_BIND whose UNBIND bit is `u`. -/
def bindCmd (s : State) (u : Bool) : Bool :=
  match nextCmd s with
  | some c => bitAt c.arg0 16 == u
  | none => false

def execStreamBind (s : State) : Out :=
  .next (hub s (if bindCmd s false then onCmd s 0x10 cmdBind else s))
def execStreamUnbind (s : State) : Out :=
  .next (hub s (if bindCmd s true then onCmd s 0x10 cmdUnbind else s))

/-! ### Messages (R370 to R373) -/

/-- TIME_US has passed since the first entry after the last message. -/
def coalesce (s : State) (j : Nat) : State :=
  if s.fv (fCQ_COALESCE_TIME_US j) ≠ 0 && (cqOf s j).firstAt.isSome then cqSignal s j else s

def execCoalesceTimeout (j : Nat) (s : State) : Out := .next (hub s (coalesce s (j % 64)))

/-- A write of INT_ROUTE: setting EN while the source is pending sends one message (R372). -/
def intRoute (s : State) (src : Nat) (v : Word) : State :=
  let was := s.on (fRING_INT_ROUTE_EN src)
  let t := (s.setF (fRING_INT_ROUTE_VECTOR src) (bitsOf v.toNat 0 11)).setF (fRING_INT_ROUTE_EN src)
    (bitsOf v.toNat 15 1)
  if bitAt v.toNat 15 && !was && srcPending t src then
    if src < 64 then cqSignal (t.setF (fRING_INT_ROUTE_PENDING src) 0) src else sendMsg t src
  else t

def execIntRouteWrite (src : Nat) (v : Word) (s : State) : Out := .next (hub s (intRoute s (src % 512) v))

/-- The host unmasks MSI-X vector `v`: a message that was masked when due is sent (R370). -/
def msixUnmask (s : State) (v : Nat) : State :=
  let t := s.setF (fMSIX_CTRL_MASK v) 0
  let f : Fld := ⟨rPBA_PENDING (v / 32), v % 32, 1⟩
  if msixOn t && !bitAt (cfgWord t 0x0B0).toNat 30 && t.on f then sendVector (t.setF f 0) v else t

def execMsixUnmask (vec : Nat) (s : State) : Out := .next (hub s (msixUnmask s (vec % 2048)))

end Sys2Proof.Machine
end

