-- ==== Sys2Proof/Machine/FabricOps.lean ====
section
/-!
DEFINITION. The fabric (spec/18_troreind_fabric.md): ports, the link with its replay store, routes, the election, and
requests.
-/

namespace Sys2Proof.Machine

def fabPort (s : State) (k : Nat) : FabPort := kgetD {} k s.fabric.port
def setFabPort (s : State) (k : Nat) (x : FabPort) : State :=
  { s with fabric := { s.fabric with port := kputD {} k x s.fabric.port } }
def updFabPort (s : State) (k : Nat) (g : FabPort → FabPort) : State := setFabPort s k (g (fabPort s k))

def ports4 : List Nat := List.range 4
/-- PORT[k].STATUS.STATE: 0 DOWN, 1 TRAINING, 2 AUTH, 3 UP, 4 HELD. -/
def portSt (s : State) (k : Nat) : Nat := s.fv (fFABRIC_PORT_STATUS_STATE k)
def portUp (s : State) (k : Nat) : Bool := decide (k < 4) && portSt s k == 3
/-- The port carries HELLO and AUTH packets (R434). -/
def portTalks (s : State) (k : Nat) : Bool := decide (k < 4) && (portSt s k == 2 || portSt s k == 3)
/-- Code `code` of the FABRIC class. -/
def fabReport (s : State) (inst code : Nat) : State := s.report 0x18 inst code
def serialOf (s : State) : Nat := s.pair rIDENT_SERIAL_LO rIDENT_SERIAL_HI
def fabId (s : State) : Option Nat :=
  if s.on fFABRIC_STATUS_ID_VALID then some (s.fv fFABRIC_STATUS_ID) else none

/-- The lanes of PORT[k] (R432). -/
def portLanes (s : State) (k : Nat) : List Nat :=
  match s.fv fFABRIC_CFG_LAYOUT with
  | 0 => if k < 4 then [2 * k, 2 * k + 1] else []
  | 1 => if k < 2 then [4 * k, 4 * k + 1, 4 * k + 2, 4 * k + 3] else []
  | 2 => if k = 0 then List.range 8 else []
  | _ => []

/-- The conditions under which a port trains (R433). -/
def portWants (s : State) (k : Nat) : Bool :=
  let l := portLanes s k
  s.on fFABRIC_CFG_EN && domOn s 12 && !l.isEmpty
    && l.all (fun m => laneEn s m && s.on (fLANE_CTRL_FABRIC_EN m) && s.on (fLANE_STATUS_FREF_OK m)
      && (laneOf s m).rate == (laneOf s (l.headD 0)).rate && (laneOf s m).precode == (laneOf s (l.headD 0)).precode)

def laneHealthy (s : State) (m : Nat) : Bool :=
  (laneOf s m).pll && s.on (fLANE_STATUS_CDR_LOCK m) && s.on (fLANE_STATUS_ADAPT_DONE m)

/-- The largest group of 8, 4 or 2 healthy lanes that starts at a multiple of its size (R433). -/
def healthyGroup (s : State) (k : Nat) : List Nat :=
  let l := portLanes s k
  let groups (n : Nat) : List (List Nat) :=
    (l.filter (fun m => m % n == 0)).map (fun m => (List.range n).map (fun i => m + i))
  let good (g : List Nat) : Bool := g.all (fun m => l.contains m && laneHealthy s m)
  (((groups 8 ++ groups 4 ++ groups 2).find? good).getD [])

/-! ### The link (R435, R436, R440) -/

/-- The virtual channel of a message and the 64-byte units that it takes. -/
def msgVc : FabMsg → Nat
  | .packet p => p.vc
  | .timeReq | .timeRsp _ _ _ _ => 3
  | _ => 0
def msgUnits : FabMsg → Nat
  | .packet p => ceilDiv (16 + ceilDiv p.data.length 16 * 16) 64
  | _ => 1
def vcUnits (vc : Nat) : Nat := if vc = 2 then 512 else if vc = 3 then 8 else 256

/-- The units of a channel that unacknowledged flits hold. -/
def vcUsed (x : FabPort) (vc : Nat) : Nat :=
  sumList (x.store.map (fun f => if msgVc f.2 = vc then msgUnits f.2 else 0))

/-- A message that may be sent at all in the port's state. -/
def msgAllowed (s : State) (k : Nat) : FabMsg → Bool
  | .hello _ | .auth _ => portTalks s k
  | _ => portUp s k

/-- The first message of channel `vc` in the queue. -/
def firstOf (l : List FabMsg) (vc : Nat) : Option FabMsg := l.find? (fun m => msgVc m == vc)

/-- The message that fills the next flit: in the order TIME, RSP, STREAM, REQ, a waiting REQ packet taking one flit
in every 16. -/
def nextMsg (s : State) (k : Nat) : Option FabMsg :=
  let x := fabPort s k
  let ok (vc : Nat) : Option FabMsg := (firstOf x.waiting vc).filter (fun m =>
    msgAllowed s k m && decide (vcUsed x vc + msgUnits m ≤ vcUnits vc))
  let order := if 15 ≤ x.sinceReq then [0, 3, 1, 2] else [3, 1, 2, 0]
  order.findSome? ok

/-- Every lane in use of a port transmits. -/
def portAwake (s : State) (k : Nat) : Bool := (fabPort s k).lanes.all (fun m => laneOn s m true)

/-- Waiting messages go out, one to a data flit, while the replay store, the credits and the lanes allow. -/
def pump : Nat → State → Nat → State
  | 0, s, _ => s
  | n + 1, s, k =>
    let x := fabPort s k
    if !portAwake s k || x.asleep != 0 || 256 ≤ x.store.length then s
    else match nextMsg s k with
      | none => s
      | some m =>
        let x := { x with
          waiting := x.waiting.erase m, store := x.store ++ [(x.seq, m)], seq := (x.seq + 1) % 4096,
          sinceReq := if msgVc m = 0 then 0 else x.sinceReq + 1,
          ackAt := if x.store.isEmpty then s.now else x.ackAt, dataAt := s.now }
        let s := setFabPort s k x
        pump n { s with fabric := { s.fabric with sent := s.fabric.sent ++ [(k, m)] } } k

def pumpPort (s : State) (k : Nat) : State := pump ((fabPort s k).waiting.length) s k

/-- A message is given to port `k`. -/
def portSend (s : State) (k : Nat) (m : FabMsg) : State :=
  pumpPort (updFabPort s k (fun x => { x with waiting := x.waiting ++ [m] })) k

/-- A link control flit leaves port `k`; it does not advance the sequence number. -/
def portCtl (s : State) (k : Nat) (m : FabMsg) : State :=
  { s with fabric := { s.fabric with sent := s.fabric.sent ++ [(k, m)] } }

/-- A message goes to every UP port but `not`. -/
def sendUp (s : State) (m : FabMsg) (but : Nat) : State :=
  ports4.foldl (fun s k => if portUp s k && k != but then portSend s k m else s) s

/-! ### Routes (R448) -/

/-- The port that ROUTE[d] gives now. -/
def routePort (s : State) (d : Nat) : Option Nat :=
  let a := s.fv (fFABRIC_ROUTE_PRI_PORT d)
  let b := s.fv (fFABRIC_ROUTE_ALT_PORT d)
  if 64 ≤ d then none
  else if s.on (fFABRIC_ROUTE_PRI_VALID d) && portUp s a && !s.on (fFABRIC_ROUTE_USING_ALT d) then some a
  else if s.on (fFABRIC_ROUTE_ALT_VALID d) && portUp s b then some b
  else none

def reachable (s : State) (d : Nat) : Bool := (routePort s d).isSome && fabId s != some d

/-- The hops by the route in use. -/
def routeHops (s : State) (d : Nat) : Nat :=
  if routePort s d == some (s.fv (fFABRIC_ROUTE_PRI_PORT d)) && !s.on (fFABRIC_ROUTE_USING_ALT d) then
    s.fv (fFABRIC_ROUTE_PRI_HOPS d) else s.fv (fFABRIC_ROUTE_ALT_HOPS d)

/-- The hops to `d` through each UP port whose neighbour announces it, best first. -/
def routeChoices (s : State) (d : Nat) : List (Nat × Nat) :=
  let l := ports4.filterMap (fun k =>
    if portUp s k then
      match (fabPort s k).hello with
      | some h =>
        let n := h.hops.getD d 255 + 1
        if n ≤ 8 then some (n, k) else none
      | none => none
    else none)
  (List.range 9).flatMap (fun n => l.filter (fun x => x.1 == n))

/-- ROUTE[d] is filled from the HELLOs; a pinned entry stays as written. -/
def fillRoute (s : State) (d : Nat) : State :=
  let here := b2n (fabId s == some d)
  let s := s.setF (fFABRIC_ROUTE_LOCAL d) here
  if s.on (fFABRIC_ROUTE_PINNED d) then
    if portUp s (s.fv (fFABRIC_ROUTE_PRI_PORT d)) then s.setF (fFABRIC_ROUTE_USING_ALT d) 0 else s
  else
    let l := if here = 1 then [] else routeChoices s d
    let (a, b) := ((l[0]?).getD (0, 0), (l[1]?).getD (0, 0))
    s.setRn (rFABRIC_ROUTE d) (a.2 + b2n (1 ≤ l.length) * 4 + a.1 * 8 + b.2 * 2 ^ 7 + b2n (2 ≤ l.length) * 2 ^ 9
      + b.1 * 2 ^ 10 + here * 2 ^ 16)

/-- STATUS.DEVICES and the parent port (R455). -/
def fabStatus (s : State) : State :=
  let s := s.setF fFABRIC_STATUS_DEVICES (1 + ((List.range 64).filter (reachable s)).length)
  let root := s.pair rFABRIC_ROOT_SERIAL_LO rFABRIC_ROOT_SERIAL_HI
  let c := ports4.filterMap (fun k =>
    match (fabPort s k).hello with
    | some h => if portUp s k && h.rootSerial = root then some (h.rootHops, k) else none
    | none => none)
  let best := c.foldl (fun (a : Option (Nat × Nat)) x => match a with
    | none => some x
    | some y => if x.1 < y.1 then some x else some y) none
  let parent (k : Nat) : Bool :=
    s.on fFABRIC_STATUS_ID_VALID && !s.on fFABRIC_STATUS_IS_ROOT && best.any (fun x => x.2 == k)
  ports4.foldl (fun s k => s.setF (fFABRIC_PORT_STATUS_PARENT k) (b2n (parent k))) s

def fillRoutes (s : State) : State := fabStatus ((List.range 64).foldl fillRoute s)

/-- The primary port `k` of some routes is no longer UP: they use their alternates (R448). -/
def failover (s : State) (k : Nat) : State :=
  (List.range 64).foldl (fun s d =>
    if s.on (fFABRIC_ROUTE_PRI_VALID d) && s.fv (fFABRIC_ROUTE_PRI_PORT d) == k && !s.on (fFABRIC_ROUTE_USING_ALT d)
        && s.on (fFABRIC_ROUTE_ALT_VALID d) && portUp s (s.fv (fFABRIC_ROUTE_ALT_PORT d)) then
      fabReport ((s.setF (fFABRIC_ROUTE_USING_ALT d) 1).ev fFABRIC_EVENT_ROUTE_FAILOVER) d 0x0005
    else s) s

/-! ### The election (R445) -/

/-- The better of two keys: the higher priority, then the lower serial. -/
def keyBetter (a b : Nat × Nat) : Bool := decide (b.1 < a.1) || (a.1 == b.1 && decide (a.2 < b.2))

def ownKey (s : State) : Nat × Nat := (s.fv fFABRIC_CFG_PRIORITY, serialOf s)

def bestKey (s : State) : Nat × Nat :=
  ports4.foldl (fun a k =>
    match (fabPort s k).hello with
    | some h => if portTalks s k && keyBetter (h.rootPrio, h.rootSerial) a then (h.rootPrio, h.rootSerial) else a
    | none => a) (ownKey s)

/-- The hops to the root by the HELLOs. -/
def rootHops (s : State) : Nat :=
  if bestKey s = ownKey s then 0
  else 1 + ((ports4.filterMap (fun k => ((fabPort s k).hello).bind (fun h =>
    if portTalks s k && (h.rootPrio, h.rootSerial) = bestKey s then some h.rootHops else none))).min?.getD 254)

/-- The ID of a root that is this device or a neighbour; of another root the manual does not say how it is
learned. -/
def rootIdOf (s : State) (serial : Nat) : Option Nat :=
  if serial = serialOf s then some ((fabId s).getD 0)
  else ports4.findSome? (fun k => ((fabPort s k).hello).bind (fun h => if h.serial = serial then h.id else none))

/-- The best root key is looked at again. -/
def electRoot (s : State) : State :=
  let b := bestKey s
  let old := (s.fabric.rootPrio, s.pair rFABRIC_ROOT_SERIAL_LO rFABRIC_ROOT_SERIAL_HI)
  let (id, s) := match rootIdOf s b.2 with
    | some d => (d, s)
    | none => if b = old then (s.fv fFABRIC_STATUS_ROOT_ID, s) else
      let (v, s) := takeFree s
      (v % 64, s)
  let s := s.setF fFABRIC_STATUS_ROOT_ID id
  if b = old then s
  else
    let s := (s.setPair rFABRIC_ROOT_SERIAL_LO rFABRIC_ROOT_SERIAL_HI b.2).setF fFABRIC_STATUS_IS_ROOT 0
    let s := { s with fabric := { s.fabric with rootPrio := b.1, rootAt := s.now, stable := false } }
    fabReport (s.ev fFABRIC_EVENT_ROOT_CHANGED) id 0x0009

/-- STATUS.STATE. -/
def fabState (s : State) : State :=
  s.setF fFABRIC_STATUS_STATE (if !s.on fFABRIC_CFG_EN then 0 else if s.on fFABRIC_STATUS_ID_VALID then 4
    else if s.fabric.stable then 3 else if ports4.any (fun k => (fabPort s k).hello.isSome) then 2 else 1)

/-! ### Port states (R434) -/

/-- A port enters state `st`. -/
def enterPort (s : State) (k st : Nat) : State :=
  updFabPort (s.setF (fFABRIC_PORT_STATUS_STATE k) st) k (fun x => { x with since := s.now })

/-- A port that is DOWN trains while the conditions hold. -/
def trainPorts (s : State) : State :=
  ports4.foldl (fun s k => if portSt s k = 0 && portWants s k then enterPort s k 1 else s) s

/-- Packets that waited for a port take the route that is left (R459). -/
def rerouted (s : State) (l : List FabMsg) : State :=
  l.foldl (fun s m =>
    match m with
    | .packet p =>
      match routePort s p.dst with
      | some k => portSend s k m
      | none => s
    | _ => s) s

/-- Port `k` goes DOWN; its neighbour, its authentication and its link are forgotten. -/
def portDrop (s : State) (k : Nat) : State :=
  if portSt s k = 0 then s
  else
    let was := portSt s k
    let l := (fabPort s k).waiting
    let s := (s.setF (fFABRIC_PORT_STATUS_STATE k) 0).setF (fFABRIC_PORT_STATUS_WIDTH k) 0
    let s := (s.setF (fFABRIC_PORT_STATUS_NB_ID k) 0).setF (fFABRIC_PORT_STATUS_NB_ID_VALID k) 0
    let s := s.setPair (rFABRIC_PORT_NB_SERIAL_LO k) (rFABRIC_PORT_NB_SERIAL_HI k) 0
    let s := setFabPort s k {}
    let s := fabReport ((s.bump (fFABRIC_PORT_CNT_DOWN k)).ev fFABRIC_EVENT_PORT_DOWN) k 0x0001
    let s := if was = 3 then rerouted (failover s k) l else s
    fabState (fabStatus (electRoot s))

def fabDown (s : State) (k : Nat) : State := trainPorts (portDrop s k)

/-- Ports whose conditions no longer hold go DOWN; those whose conditions hold train. -/
def evalPorts (s : State) : State :=
  trainPorts (ports4.foldl (fun s k => if !portWants s k && portSt s k != 0 then portDrop s k else s) s)

/-! ### Requests (R439, R441, R442) -/

/-- A tag that no request uses. -/
def pickTag (used : Nat → Bool) : Nat → Nat → Nat
  | 0, k => k % 65536
  | n + 1, k => if used (k % 65536) then pickTag used n (k + 1) else k % 65536

/-- Requests to `dst` that left by another port than `k` have not ended. -/
def otherPort (s : State) (dst k : Nat) : Bool :=
  s.fabric.reqs.any (fun r => r.2.pkt.dst == dst && (match r.2.port with
    | some j => j != k
    | none => false))

/-- A request goes to its port, or is held back until those on the old port have ended (R442). -/
def launchReq (s : State) (tag : Nat) : State :=
  match kget tag s.fabric.reqs with
  | some r =>
    match r.port, routePort s r.pkt.dst with
    | none, some k =>
      if otherPort s r.pkt.dst k then s
      else portSend { s with fabric := { s.fabric with reqs := kput tag { r with port := some k } s.fabric.reqs } } k
        (.packet r.pkt)
    | _, _ => s
  | none => s

/-- Requests held back are tried again, oldest tag first. -/
def launchHeld (s : State) : State :=
  (s.fabric.reqs.filterMap (fun r => if r.2.port.isNone then some r.1 else none)).foldl launchReq s

/-- A READ or WRITE leaves for fabric ID `dst`: its tag, and the state. -/
def fabRequest (s : State) (owner : FabOwner) (vc : Nat) (write : Bool) (dst addr len : Nat) (data : List Byte)
    (poison : Bool) : Nat × State :=
  let tag := pickTag (fun t => (kget t s.fabric.reqs).isSome || (kget t s.fabric.done).isSome) 65536 s.fabric.nextTag
  let p : FabPacket := ⟨vc, if write then 1 else 2, dst, (fabId s).getD 0, len, poison, tag, 8, 0, addr, data⟩
  let r : FabReq := ⟨owner, p, none, s.now⟩
  (tag, launchReq { s with fabric := { s.fabric with reqs := kput tag r s.fabric.reqs, nextTag := (tag + 1) % 65536 } } tag)

/-- A request ends: what its requester will find. -/
def endReq (s : State) (tag status : Nat) (data : List Byte) (poison : Bool) : State :=
  match kget tag s.fabric.reqs with
  | some r =>
    let d : FabDone := ⟨r.owner, r.pkt.dst, r.pkt.typ == 1, status, data, poison⟩
    launchHeld { s with fabric := { s.fabric with
      reqs := kdel tag s.fabric.reqs, done := kput tag d s.fabric.done } }
  | none => s

/-- The requester takes what it found. -/
def takeDone (s : State) (tag : Nat) : State :=
  { s with fabric := { s.fabric with done := kdel tag s.fabric.done } }

/-- An answer goes to the source of a request (R438). -/
def fabAnswer (s : State) (q : FabPacket) (status : Nat) (data : List Byte) (poison : Bool) : State :=
  let p : FabPacket := ⟨1, if q.typ = 1 then 9 else 8, q.src, (fabId s).getD 0,
    if status = 0 && q.typ ≠ 1 then q.len else 0, poison, q.tag, 8, status, 0, if status = 0 then data else []⟩
  match routePort s q.src with
  | some k => portSend s k (.packet p)
  | none => s

/-- The fabric stops: every port is DOWN, and the ID and the routes are lost (R459). -/
def fabOff (s : State) : State :=
  let s := ports4.foldl portDrop s
  let s := (s.setRn rFABRIC_STATUS 0).setPair rFABRIC_ROOT_SERIAL_LO rFABRIC_ROOT_SERIAL_HI 0
  let s := (List.range 64).foldl (fun s d =>
    if s.on (fFABRIC_ROUTE_PINNED d) then s.setF (fFABRIC_ROUTE_LOCAL d) 0 else s.setRn (rFABRIC_ROUTE d) 0) s
  { s with fabric := { s.fabric with
    rootPrio := 0, stable := false, seen := [], granted := [], t1 := none } }

/-- The fabric starts: this device is the best root that it knows (R445). -/
def fabOn (s : State) : State :=
  let s := s.setPair rFABRIC_ROOT_SERIAL_LO rFABRIC_ROOT_SERIAL_HI (serialOf s)
  let s := { s with fabric := { s.fabric with rootPrio := s.fv fFABRIC_CFG_PRIORITY, rootAt := s.now, stable := false } }
  fabState (fabStatus (trainPorts s))

end Sys2Proof.Machine
end

