-- ==== Sys2Proof/Machine/Bridge.lean ====
section
/-!
DEFINITION. The sensor windows and the fabric windows (spec/16_pcie_and_bridges.md R396 to R408).
-/

namespace Sys2Proof.Machine

/-! ### Sensor windows (R396 to R401) -/

/-- A write of the posted (`kind` 0) or the synced alias (`kind` 1). -/
def aliasWrite (s : State) (kind n a : Nat) (bytes : List Byte) : State :=
  let acc : BridgeAcc := { kind := kind, port := n, addr := a, size := bytes.length, data := bytes, ticket := 0,
                           got := [], fail := 0, abort := false, lost := false, since := s.now }
  if bytes.isEmpty then s
  else if accessFails s n a bytes.length then writeFailed s acc 0 0
  else if 64 < (queueOf s n).length + bytes.length then
    let s := ((s.bump fBRIDGE_CNT_B_QUEUE_FULL).ev fBRIDGE_EVENT_QUEUE_FULL).report 0x16 n 0x0006
    writeFailed s acc 0 1
  else queueAccess s acc
def execPostedAliasWrite (n a : Nat) (bytes : List Byte) (s : State) : Out :=
  .next (hostReq s (aliasWrite s 0 (n % 32) (a % 65536) bytes))
def execSyncedAliasWrite (n a : Nat) (bytes : List Byte) (s : State) : Out :=
  .next (hostReq s (aliasWrite s 1 (n % 32) (a % 65536) bytes))

/-- The tickets that no split read holds. -/
def freeTickets (s : State) : List Nat := (List.range 64).filter (fun t => s.fv (fBRIDGE_COLLECT_HI_STATE t) == 0)

/-- A ticket's state, with STATUS.TICKETS. -/
def setTicket (s : State) (t st : Nat) : State :=
  let s := s.setF (fBRIDGE_COLLECT_HI_STATE t) st
  s.setF fBRIDGE_STATUS_TICKETS (64 - (freeTickets s).length)

/-- A split read (R398); which free ticket it takes is open. -/
def splitRead (s : State) (n a size : Nat) : State :=
  if size ≠ 4 then refuseUr s false
  else if accessFails s n a 4 then refuseCa s
  else match freeTickets s with
    | [] => s.answer .success (leBytes 4 0)
    | t0 :: ts =>
      let (v, s) := takeFree s
      let t := (t0 :: ts).getD (v % (ts.length + 1)) t0
      let s := queueAccess s { kind := 2, port := n, addr := a, size := 4, data := [], ticket := t, got := [],
                               fail := 0, abort := false, lost := false, since := s.now }
      let s := (s.setRn (rBRIDGE_COLLECT_LO t) 0).setRn (rBRIDGE_COLLECT_HI t) 0
      let s := (setTicket s t 1).setF (fBRIDGE_COLLECT_HI_PORT t) n
      s.answer .success (leBytes 4 (1 + 2 * t))
def execPostedAliasRead (n a size : Nat) (s : State) : Out :=
  .next (hostReq s (splitRead s (n % 32) (a % 65536) size))

/-- The first access that satisfies `p`. -/
def findAcc (s : State) (p : BridgeAcc → Bool) : Option (Nat × BridgeAcc) := s.bridge.accs.find? (fun x => p x.2)

def setDoneAt (s : State) (m : KMap Nat) : State := { s with bridge := { s.bridge with doneAt := m } }

/-- The last byte of the split read of ticket `t` has ended (R398). -/
def splitDone (s : State) (t : Nat) : State :=
  match findAcc s (fun a => a.kind == 2 && a.ticket == t && !a.lost && a.got.length == a.size) with
  | some (id, a) =>
    let s := setTicket (dropAcc s id) t 2
    let s := (s.setRn (rBRIDGE_COLLECT_LO t) (leNat a.got)).setF (fBRIDGE_COLLECT_HI_RESULT t) a.fail
    setDoneAt s (kput t s.now s.bridge.doneAt)
  | none => s
def execSplitReadDone (t : Nat) (s : State) : Out := .next (hub s (splitDone s (t % 64)))

/-- A ticket becomes free. -/
def freeTicket (s : State) (t : Nat) : State :=
  let s := (s.setRn (rBRIDGE_COLLECT_LO t) 0).setRn (rBRIDGE_COLLECT_HI t) 0
  setTicket (setDoneAt s (kdel t s.bridge.doneAt)) t 0

/-- An 8-byte read of COLLECT[t] (R398). -/
def collectRead (s : State) (t : Nat) : State :=
  let bs := leBytes 8 (s.pair (rBRIDGE_COLLECT_LO t) (rBRIDGE_COLLECT_HI t))
  let s := s.answer .success bs
  if s.fv (fBRIDGE_COLLECT_HI_STATE t) = 2 then freeTicket s t else s
def execCollectRead (t : Nat) (s : State) : Out := .next (hostReq s (collectRead s (t % 64)))

def ticketDiscard (s : State) (t : Nat) : State :=
  match kget t s.bridge.doneAt with
  | some at0 =>
    if at0 + s.fv fBRIDGE_CFG_DISCARD_MS * 1000000 ≤ s.now then
      (((freeTicket s t).bump fBRIDGE_CNT_A_DISCARDED).ev fBRIDGE_EVENT_DISCARDED).report 0x16 0 0x0005
    else s
  | none => s
def execTicketDiscard (t : Nat) (s : State) : Out := .next (hub s (ticketDiscard s (t % 64)))

/-- A held read (R399). -/
def heldRead (s : State) (n a size : Nat) : State :=
  if !(size == 1 || size == 2 || size == 4 || size == 8) then refuseUr s false
  else if accessFails s n a size then refuseCa s
  else (queueAccess s { kind := 3, port := n, addr := a, size := size, data := [], ticket := 0, got := [],
                        fail := 0, abort := false, lost := false, since := s.now }).answer .held []
def execSyncedAliasRead (n a size : Nat) (s : State) : Out :=
  .next (hostReq s (heldRead s (n % 32) (a % 65536) size))

/-- The bytes of the first held read of port `n` have ended (R399). -/
def heldDone (s : State) (n : Nat) : State :=
  match findAcc s (fun a => a.kind == 3 && a.port == n && !a.lost && a.got.length == a.size) with
  | some (id, a) =>
    let s := (dropAcc s id).setF (fBRIDGE_PORT_SYNC_ERR n) 0
    if a.abort || a.fail != 0 then refuseCa s else s.answer .success a.got
  | none => s
def execSyncedReadDone (n : Nat) (s : State) : Out := .next (hub s (heldDone s (n % 32)))

/-- A held read of port `n` has not ended in HOLD_MS (R400); its bytes still go. -/
def heldExpired (s : State) (n : Nat) : State :=
  match findAcc s (fun a => a.kind == 3 && a.port == n && !a.lost && decide (a.got.length < a.size)) with
  | some (id, a) =>
    if a.since + s.fv fBRIDGE_CFG_HOLD_MS * 1000000 ≤ s.now then
      let s := setAcc s id { a with lost := true }
      let s := errLog s 1 n a.addr 0 0 3
      let s := ((s.bump fBRIDGE_CNT_B_HOLD_EXPIRED).ev fBRIDGE_EVENT_HOLD_EXPIRED).report 0x16 n 0x0004
      refuseCa s
    else s
  | none => s
def execSyncedReadHoldExpired (n : Nat) (s : State) : Out := .next (hub s (heldExpired s (n % 32)))

/-! ### Fabric windows (R402 to R404) -/

def setWins (s : State) (m : KMap HeldWin) : State := { s with bridge := { s.bridge with wins := m } }
def setWinWrites (s : State) (m : KMap HeldWin) : State := { s with bridge := { s.bridge with writes := m } }

/-- The access is not one that a fabric window takes. -/
def winShapeBad (x len : Nat) : Bool := len == 0 || decide (64 < x % 64 + len)
/-- The address at the peer. -/
def outTarget (s : State) (w x : Nat) : Nat := s.pair (rBRIDGE_OUT_WIN_TARGET_LO w) (rBRIDGE_OUT_WIN_TARGET_HI w) + x
def winPeer (s : State) (w : Nat) : Nat := s.fv (fBRIDGE_OUT_WIN_CTRL_PEER w)
/-- The peer of window `w` can be reached from inside the fabric. -/
def winReach (s : State) (w : Nat) : Bool := (fabId s).isSome && reachable s (winPeer s w)

/-- The status of window `w` (R404). -/
def winIdle (s : State) (w : Nat) : Bool :=
  s.bridge.wins.all (fun h => h.2.win != w || h.2.expired)
    && s.bridge.writes.all (fun h => h.2.win != w || (match kget h.1 s.fabric.reqs with
      | some r => r.port.isSome
      | none => true))
def winInflight (s : State) (w : Nat) : Nat :=
  ((s.bridge.wins ++ s.bridge.writes).filter (fun h => h.2.win == w)).length

/-- A write that goes no further is discarded and logged. -/
def winDiscard (s : State) (w addr : Nat) (bytes : List Byte) (result cause : Nat) : State :=
  errLog s 2 w addr (leNat (bytes.take 8)) result cause

def winWrite (s : State) (w x : Nat) (bytes : List Byte) : State :=
  if winShapeBad x bytes.length then refuseUr s true
  else if !s.on (fBRIDGE_OUT_WIN_CTRL_EN w) then winDiscard (refuseUr s true) w (outTarget s w x) bytes 2 2
  else if !winReach s w then winDiscard s w (outTarget s w x) bytes 3 4
  else
    let a := outTarget s w x
    let (tag, s) := fabRequest s .window 0 true (winPeer s w) a bytes.length bytes false
    setWinWrites s (kput tag { win := w, addr := a, size := bytes.length, expired := false, since := s.now, data := bytes }
      s.bridge.writes)
def execFabricWindowWrite (w x : Nat) (bytes : List Byte) (s : State) : Out :=
  .next (hostReq s (winWrite s (w % 16) (x % 0x100000) bytes))

def winRead (s : State) (w x len : Nat) : State :=
  if winShapeBad x len then refuseUr s false
  else if !s.on (fBRIDGE_OUT_WIN_CTRL_EN w) then refuseUr s false
  else if !winReach s w then refuseCa s
  else
    let a := outTarget s w x
    let (tag, s) := fabRequest s .window 0 false (winPeer s w) a len [] false
    (setWins s (kput tag { win := w, addr := a, size := len, expired := false, since := s.now }
      s.bridge.wins)).answer .held []
def execFabricWindowRead (w x len : Nat) (s : State) : Out :=
  .next (hostReq s (winRead s (w % 16) (x % 0x100000) len))

/-- The response to a request of a window has arrived: `tag` is its fabric tag. -/
def winResponse (s : State) (tag : Nat) : State :=
  match kget tag s.fabric.done with
  | none => s
  | some d =>
    match kget tag s.bridge.wins, kget tag s.bridge.writes with
    | some h, _ =>
      let s := setWins (takeDone s tag) (kdel tag s.bridge.wins)
      if h.expired then
        let s := errLog s 3 h.win h.addr 0 (if d.status = 0 then 0 else 1) 0
        (s.ev fBRIDGE_EVENT_LATE_RESPONSE).report 0x16 h.win 0x0008
      else if d.status ≠ 0 then refuseCa s
      else s.answer (if d.poison then .poisoned else .success) (padTo h.size d.data)
    | none, some h =>
      let s := setWinWrites (takeDone s tag) (kdel tag s.bridge.writes)
      if d.status = 0 then s
      else if d.status = 256 then winDiscard s h.win h.addr h.data 3 4
      else winDiscard s h.win h.addr h.data 1 0
    | none, none => s
def execFabricWindowResponse (tag : Nat) (s : State) : Out := .next (hub s (winResponse s tag))

/-- A held read of a window reaches HOLD_MS (R403). -/
def winExpired (s : State) (tag : Nat) : State :=
  match kget tag s.bridge.wins with
  | some h =>
    if !h.expired && (kget tag s.fabric.done).isNone && decide (h.since + s.fv fBRIDGE_CFG_HOLD_MS * 1000000 ≤ s.now) then
      let s := setWins s (kput tag { h with expired := true } s.bridge.wins)
      let s := errLog s 3 h.win h.addr 0 0 3
      refuseCa ((s.bump fBRIDGE_CNT_B_HOLD_EXPIRED).ev fBRIDGE_EVENT_HOLD_EXPIRED)
    else s
  | none => s
def execFabricWindowHoldExpired (tag : Nat) (s : State) : Out := .next (hub s (winExpired s tag))

/-- A rewrite of an enabled window is ignored (R404). -/
def outWinIgnored (s : State) (w : Nat) : State := (s.ev fBRIDGE_EVENT_WIN_IGNORED).report 0x16 w 0x0007

/-- A write of OUT_WIN[w].CTRL: while EN is 1 the peer stays. -/
def outWinCtrl (s : State) (w : Nat) (v : Word) : State :=
  let en := bitsOf v.toNat 0 1
  let peer := bitsOf v.toNat 1 6
  if s.on (fBRIDGE_OUT_WIN_CTRL_EN w) then
    let s := if peer ≠ winPeer s w then outWinIgnored s w else s
    s.setF (fBRIDGE_OUT_WIN_CTRL_EN w) en
  else (s.setF (fBRIDGE_OUT_WIN_CTRL_EN w) en).setF (fBRIDGE_OUT_WIN_CTRL_PEER w) peer
def execOutWinCtrlWrite (w : Nat) (v : Word) (s : State) : Out := .next (hub s (outWinCtrl s (w % 16) v))

/-- A write of OUT_WIN[w].TARGET_LO or TARGET_HI. -/
def outWinTarget (s : State) (w : Nat) (hi : Bool) (v : Word) : State :=
  if s.on (fBRIDGE_OUT_WIN_CTRL_EN w) then outWinIgnored s w
  else if hi then s.setReg (rBRIDGE_OUT_WIN_TARGET_HI w) v
  else s.setF (fBRIDGE_OUT_WIN_TARGET_LO_ADDR w) (v.toNat / 2 ^ 20)

/-! ### A reset of the host side (R407) -/

/-- Held reads, tickets, results and the error log are cleared; queued bytes are still sent. -/
def bridgeHostReset (s : State) : State :=
  let s := s.resetRegs (rBRIDGE_ERRLOG_ADDR_LO 0) (rBRIDGE_OUT_WIN_CTRL 16)
  let s := s.setRn rBRIDGE_STATUS 0
  let accs := (s.bridge.accs.filter (fun x => decide (x.2.got.length < x.2.size))).map
    (fun x => (x.1, { x.2 with lost := true }))
  { s with bridge := { s.bridge with
    accs := accs, doneAt := [], wins := s.bridge.wins.map (fun h => (h.1, { h.2 with expired := true })) } }

end Sys2Proof.Machine
end

