-- ==== Sys2Proof/Machine/EscOps.lean ====
section
/-!
DEFINITION. The Escapement (spec/07_escapement.md): profiles, settings packets, bursts, late entries, the
ledger and its verification.
-/

namespace Sys2Proof.Machine

def escOf (s : State) (p : Nat) : Esc := kgetD {} p s.esc
def setEsc (s : State) (p : Nat) (e : Esc) : State := { s with esc := kput p e s.esc }

/-- STATUS.PENDING follows the pending entries. -/
def setEntries (s : State) (p : Nat) (l : List EscEntry) : State :=
  (setEsc s p { escOf s p with entries := l }).setF (fESCP_STATUS_PENDING p) l.length

/-- The number of the last accepted frame, counted without wrapping; -1 before the first (R150). -/
def frameNo (s : State) (p : Nat) : Int := kgetD (-1) p s.frameNo
/-- The frame start stamp of that frame. -/
def frameAt (s : State) (p : Nat) : Nat := kgetD 0 p s.frameAt

/-- The frame number that an FSN names, by serial arithmetic (R165). -/
def unwrap (s : State) (p fsn : Nat) : Int :=
  let f := frameNo s p
  f + signedOf 32 (wordOfInt 32 (Int.ofNat fsn - f))

/-- An FSN register value of a frame number. -/
def fsnOf (f : Int) : Nat := wordOfInt 32 f

/-! ### Profiles (R142 to R144) -/

/-- The staged profile bytes. -/
def stagedProfile (s : State) (p : Nat) : List Byte :=
  (List.range 64).flatMap (fun k => leBytes 4 (s.rn (rESC_PROFILE_WORD p k)))

def groupOf (bs : List Byte) (g : Nat) : EscGroup where
  addr := leAt bs (0x10 + 8 * g) 2
  len := leAt bs (0x12 + 8 * g) 1
  delay := leAt bs (0x13 + 8 * g) 1
  embOff := leAt bs (0x14 + 8 * g) 2
  embFmt := leAt bs (0x16 + 8 * g) 1
  embLine := leAt bs (0x17 + 8 * g) 1

/-- The offset of the first field of a group descriptor that is not valid. -/
def groupErr (addr16 : Bool) (bs : List Byte) (g : Nat) : Option Nat :=
  let d := groupOf bs g
  let o := 0x10 + 8 * g
  if !addr16 && decide (0x100 ≤ d.addr) then some o
  else if d.len < 1 || 16 < d.len then some (o + 2)
  else if 7 < d.delay then some (o + 3)
  else if 2 < d.embFmt then some (o + 6)
  else if 7 < d.embLine then some (o + 7)
  else none

/-- The offset of the first field of a profile that is not valid; `lport` says that the pipeline is
mapped from an LPORT. -/
def profileErr (bs : List Byte) (lport : Bool) : Option Nat :=
  let flags := leAt bs 1 1
  let target := leAt bs 2 1
  let n := leAt bs 3 1
  let wo := leAt bs 4 2
  let wc := leAt bs 6 2
  let scc := leAt bs 0xE 1
  if leAt bs 0 1 ≠ 1 then some 0
  else if 7 < flags then some 1
  else if target < 0x08 || 0x77 < target then some 2
  else if n < 1 || 16 < n then some 3
  else if 65534 < wo then some 4
  else if wc < wo + 100 then some 6
  else if !bitAt flags 0 && bitAt flags 1 && decide (0x100 ≤ leAt bs 8 2) then some 8
  else if leAt bs 0xC 2 < 1000 then some 0xC
  else if (31 < scc && scc ≠ 0xFF) || (scc = 0xFF && lport) then some 0xE
  else if leAt bs 0xF 1 ≠ 0 then some 0xF
  else (List.range n).findSome? (fun g => groupErr (bitAt flags 0) bs g)

/-- The working profile that valid bytes give. -/
def profileOf (bs : List Byte) : EscProfile where
  addr16 := bitAt (leAt bs 1 1) 0
  hold := bitAt (leAt bs 1 1) 1
  verify := bitAt (leAt bs 1 1) 2
  target := leAt bs 2 1
  winOpen := leAt bs 4 2
  winClose := leAt bs 6 2
  holdAddr := leAt bs 8 2
  holdOn := BitVec.ofNat 8 (leAt bs 0xA 1)
  holdOff := BitVec.ofNat 8 (leAt bs 0xB 1)
  byteNs := leAt bs 0xC 2
  scc := leAt bs 0xE 1
  groups := (List.range (leAt bs 3 1)).map (groupOf bs)

/-- LOAD (R142). -/
def profileLoad (s : State) (p : Nat) : State :=
  if started s p then s.ev (fESCP_EVENT_CFG_IGNORED p)
  else
    let bs := stagedProfile s p
    let lport := (mapEntries s.arn p).any (fun e => decide (32 ≤ e.1))
    match profileErr bs lport with
    | some o =>
      ((setEsc s p { escOf s p with profile := none }).setF (fESCP_STATUS_PROFILE_VALID p) 0).setF
        (fESCP_STATUS_PROFILE_ERR p) o |>.ev (fESCP_EVENT_PROFILE_INVALID p)
    | none =>
      (setEsc s p { escOf s p with profile := some (profileOf bs) }).setF
        (fESCP_STATUS_PROFILE_VALID p) 1

/-- The controller that a profile uses: its own, or that of the SPORT that maps the pipeline. -/
def sccOf (s : State) (p : Nat) : Option Nat :=
  match (escOf s p).profile with
  | none => none
  | some pr =>
    if pr.scc = 0xFF then
      match mapOf s p with
      | some (n, _) => if n < 32 then some n else none
      | none => none
    else some pr.scc

/-- The pipelines whose settings go over controller `n`. -/
def pipesOn (s : State) (n : Nat) : List Nat :=
  (List.range 32).filter (fun p => sccOf s p == some n)

def delayOf (pr : EscProfile) (g : Nat) : Nat :=
  match pr.groups[g]? with
  | some d => d.delay
  | none => 0

/-- The longest delay of an entry's groups. -/
def maxDelay (pr : EscProfile) (gs : List Nat) : Nat := maxList (gs.map (delayOf pr))

def EscEntry.groups (e : EscEntry) : List Nat := e.data.map (fun x => x.1)

/-! ### Completion of entries (R155) -/

/-- The completion of a settings command: TAG, entry ID, target as submitted and FSN reached. -/
def settingsDone (s : State) (c : Cmd) (status tag id submitted reached : Nat) : State :=
  complete s c status (tag + id * 2 ^ 32) (submitted + reached * 2 ^ 32)

/-- A pending entry fails (R154). -/
def failEntry (s : State) (p id status : Nat) : State :=
  match (escOf s p).entries.find? (fun e => e.id == id) with
  | none => s
  | some e =>
    let s := setEntries s p ((escOf s p).entries.filter (fun x => x.id != id))
    let s := (s.ev (fESCP_EVENT_FAILED p)).report 0x10 p 0x0002
    settingsDone s e.cmd status e.tag e.id e.submitted (s.rn (rCMT_FSN p))

/-- A transaction of a group of entry `id`. -/
def BurstTxn.ofEntry (id : Nat) : BurstTxn → Bool
  | .group e _ => e == id
  | _ => false

/-- The groups of entry `id` leave the bursts that have not started. -/
def unburst (s : State) (p id : Nat) : State :=
  let f (b : Burst) : Option Burst :=
    if b.running then some b
    else
      let l := b.txns.filter (fun t => !t.ofEntry id)
      if l.any (fun t => match t with | .group _ _ => true | _ => false) then some { b with txns := l }
      else none
  setEsc s p { escOf s p with bursts := (escOf s p).bursts.filterMap f }

/-- Every pending entry of the pipeline fails; its bursts end, a running one with its HOLD_OFF. -/
def failAll (s : State) (p status : Nat) : State :=
  let s := (escOf s p).entries.foldl (fun s e => failEntry s p e.id status) s
  let f (b : Burst) : Option Burst :=
    if b.running then
      some { b with txns := b.txns.take (b.next + 1) ++ (if b.holdSent then [.holdOff] else []) }
    else none
  setEsc s p { escOf s p with bursts := (escOf s p).bursts.filterMap f }

/-- Every pending entry of every pipeline on controller `n` fails with 0x22 (R154). -/
def failBus (s : State) (n : Nat) : State :=
  (pipesOn s n).foldl (fun s p =>
    let s := failAll s p 0x22
    setEsc s p { escOf s p with bursts := [] }) s

/-- The entries after the one with `id`. -/
def entriesAfter (id : Nat) : List EscEntry → List EscEntry
  | [] => []
  | e :: es => if e.id = id then es else entriesAfter id es

/-- Entry `id` is late: it is retargeted, and later entries below its new target move with it, each
late in turn where a group would fall too early (R154). -/
def lateEntry : Nat → State → Nat → EscProfile → Nat → State
  | 0, s, _, _, _ => s
  | n + 1, s, p, pr, id =>
    match (escOf s p).entries.find? (fun e => e.id == id) with
    | none => s
    | some e =>
      let s := (s.ev (fESCP_EVENT_LATE p)).report 0x10 p 0x0001
      if e.noRetarget then unburst (failEntry s p id 0x20) p id
      else if 3 ≤ e.nacks then unburst (failEntry s p id 0x21) p id
      else
        let f := frameNo s p
        let t := max (e.target + 1) (f + 1 + Int.ofNat (maxDelay pr e.groups))
        let later := (entriesAfter id (escOf s p).entries).filter (fun x => decide (x.target < t))
        let move (x : EscEntry) : EscEntry :=
          if x.id == id || later.any (fun y => y.id == x.id) then
            { x with target := t, written := [], reached := false } else x
        let s := unburst (setEsc s p { escOf s p with entries := (escOf s p).entries.map move }) p id
        later.foldl (fun s x =>
          let s := unburst s p x.id
          if decide (t - Int.ofNat (maxDelay pr x.groups) < f + 1) then lateEntry n s p pr x.id else s) s

/-! ### Bursts (R148, R149, R561) -/

/-- The bytes on the bus of a transaction, address and register bytes included. -/
def txnBytes (pr : EscProfile) : BurstTxn → Nat
  | .group _ g => 1 + (if pr.addr16 then 2 else 1) + (match pr.groups[g]? with | some d => d.len | none => 0)
  | _ => 1 + (if pr.addr16 then 2 else 1) + 1

/-- The predicted duration of a burst in nanoseconds (R149). -/
def predicted (pr : EscProfile) (l : List BurstTxn) : Nat :=
  sumList (l.map (fun t => (txnBytes pr t + 1) * pr.byteNs))

/-- The transactions that write a list of groups, with the hold writes where the profile has them. -/
def burstTxns (pr : EscProfile) (l : List BurstTxn) : List BurstTxn :=
  if pr.hold then [.holdOn] ++ l ++ [.holdOff] else l

/-- The groups of the pending entries that frame `w` writes; of two entries with one target, the later one
writes a group that both hold (R148, R155). -/
def frameGroups (pr : EscProfile) (l : List EscEntry) (w : Int) : List BurstTxn :=
  l.flatMap (fun e =>
    (e.groups.filter (fun g => decide (e.target - Int.ofNat (delayOf pr g) = w)
        && !e.written.contains g
        && !((entriesAfter e.id l).any (fun x => decide (x.target = e.target) && x.groups.contains g)))).map
      (fun g => .group e.id g))

/-- The time that bursts of frame `w` still to run will take. -/
def pendingTime (bs : List Burst) (w : Int) : Nat :=
  sumList (bs.map (fun b => if decide (b.frame = w) then b.predicted else 0))

/-- The latest start of a burst of frame F with transactions `l` that joins it now (R561). -/
def latestStart (s : State) (p : Nat) (pr : EscProfile) (l : List BurstTxn) : Int :=
  Int.ofNat (frameAt s p + pr.winClose * 1000) - Int.ofNat (predicted pr l)
    - Int.ofNat (pendingTime (escOf s p).bursts (frameNo s p))

/-- A burst of frame F with the groups `l` joins the bursts of the pipeline. -/
def addBurst (s : State) (p : Nat) (pr : EscProfile) (l : List BurstTxn) : State :=
  if l.isEmpty then s
  else
    let txns := burstTxns pr l
    let b : Burst := ⟨frameNo s p, txns, predicted pr txns, latestStart s p pr txns,
      Int.ofNat (frameAt s p + pr.winClose * 1000),
      decide (frameAt s p + pr.winOpen * 1000 ≤ s.dial), false, 0, [], false, none, []⟩
    setEsc s p { escOf s p with bursts := (escOf s p).bursts ++ [b] }

/-! ### Settings packets (R145 to R151) -/

/-- The values of the groups of a packet, in ascending group order. -/
def packetData (pr : EscProfile) : List Nat → List Byte → KMap (List Byte)
  | [], _ => []
  | g :: gs, bs =>
    let n := match pr.groups[g]? with | some d => d.len | none => 0
    (g, bs.take n) :: packetData pr gs (bs.drop n)

/-- The first check of R147 that a packet fails. -/
def settingsReject (s : State) (bs : List Byte) (len : Nat) : Option Nat :=
  let p := leAt bs 0 1
  let mask := leAt bs 2 2
  let dl := leAt bs 0xC 2
  if 31 < p || 3 < leAt bs 1 1 || leAt bs 0xE 2 ≠ 0 || mask = 0 || len ≠ 16 + (dl + 7) / 8 * 8 then
    some 0x10
  else
    let e := escOf s p
    match e.profile with
    | none => some 0x11
    | some pr =>
      let gs := (List.range 16).filter (fun g => bitAt mask g)
      if gs.any (fun g => decide (pr.groups.length ≤ g))
          || dl ≠ sumList (gs.map (fun g => match pr.groups[g]? with | some d => d.len | none => 0)) then
        some 0x10
      else
        let newest := e.entries.getLast?
        let below := match newest with
          | some x => !bitAt (leAt bs 1 1) 0 && decide (unwrap s p (leAt bs 4 4) < x.target)
          | none => false
        if below then some 0x12
        else if 16 ≤ e.entries.length then some 0x13
        else if !started s p then some 0x14
        else none

/-- The target of an EARLIEST packet with groups `gs` (R150). -/
def earliest (s : State) (p : Nat) (pr : EscProfile) (gs : List Nat) : Int :=
  let f := frameNo s p
  let base := match (escOf s p).entries.getLast? with
    | some x => x.target
    | none => f
  let d := Int.ofNat (maxDelay pr gs)
  let t := max base (f + d)
  if decide (t - d = f) then
    let joins := gs.filter (fun g => decide (t - Int.ofNat (delayOf pr g) = f))
    let l := burstTxns pr (joins.map (fun g => .group 0 g))
    if decide (0 ≤ f) && decide (Int.ofNat s.dial ≤ latestStart s p pr l) then t else max (t + 1) base
  else t

/-- An accepted packet becomes a ledger entry, joins frame F's writes where it can, or is late at once
(R150, R151, R561). -/
def acceptSettings (s : State) (c : Cmd) (p : Nat) (pr : EscProfile) (bs : List Byte) : State :=
  let e := escOf s p
  let gs := (List.range 16).filter (fun g => bitAt (leAt bs 2 2) g)
  let early := bitAt (leAt bs 1 1) 0
  let t := if early then earliest s p pr gs else unwrap s p (leAt bs 4 4)
  let x : EscEntry := ⟨e.nextId, c, leAt bs 8 4, leAt bs 4 4, t, t, bitAt (leAt bs 1 1) 1,
    packetData pr gs (bs.drop 16), 0, [], false⟩
  let s := setEsc s p { e with nextId := if e.nextId = 0xFFFFFFFF then 1 else e.nextId + 1 }
  let s := setEntries s p (e.entries ++ [x])
  let f := frameNo s p
  let joins := gs.filter (fun g => decide (t - Int.ofNat (delayOf pr g) = f))
  let l := joins.map (fun g => BurstTxn.group x.id g)
  let below := gs.any (fun g => decide (t - Int.ofNat (delayOf pr g) < max f 0)
    && !decide (t - Int.ofNat (delayOf pr g) = f && 0 ≤ f))
  let tooLate := !l.isEmpty && decide (latestStart s p pr (burstTxns pr l) < Int.ofNat s.dial)
  if below || tooLate then lateEntry 17 s p pr x.id
  else if 0 ≤ f then addBurst s p pr l
  else s

/-- SETTINGS (R147, R357). -/
def cmdSettings (s : State) (c : Cmd) : State :=
  if !(unusedZero' c) then complete s c 0x04
  else
    let bs := c.payload
    match settingsReject s bs c.len with
    | some st => settingsDone s c st (leAt bs 8 4) 0 (leAt bs 4 4)
        (s.rn (rCMT_FSN (leAt bs 0 1 % 32)))
    | none =>
      let p := leAt bs 0 1
      match (escOf s p).profile with
      | some pr => acceptSettings s c p pr bs
      | none => s
where
  /-- The fields of the command entry are legal. -/
  unusedZero' (c : Cmd) : Bool :=
    !c.reserved && c.target == 0 && c.arg0 == 0 && c.arg1 == 0 && c.addr % 8 == 0
      && decide (24 ≤ c.len) && decide (c.len ≤ 272)

/-! ### Taking effect (R155) -/

/-- The values after an entry has written its groups. -/
def overlay (vals data : KMap (List Byte)) : KMap (List Byte) :=
  data.foldl (fun m x => kput x.1 x.2 m) vals

/-- The pending entries with target `t`. -/
def entriesAt (l : List EscEntry) (t : Int) : List EscEntry := l.filter (fun e => decide (e.target = t))

/-- Every group of every one of these entries is written, by itself or by a later one. -/
def allWritten : List EscEntry → Bool
  | [] => true
  | e :: es =>
    e.groups.all (fun g => e.written.contains g || es.any (fun x => x.groups.contains g)) && allWritten es

/-- The entries with target `t`, whose frame has started, take effect where every group is written: the
last one completes OK or LATE, the others MERGED. -/
def tryEffect (s : State) (p : Nat) (t : Int) : State :=
  let e := escOf s p
  let l := entriesAt e.entries t
  match l.getLast? with
  | none => s
  | some last =>
    if decide (t ≤ frameNo s p) && allWritten l then
      let vals := l.foldl (fun m x => overlay m x.data) e.values
      let s := setEsc s p { e with effect := last.id, values := vals }
      let s := setEntries s p (e.entries.filter (fun x => !decide (x.target = t)))
      l.foldl (fun s x =>
        let st := if x.id != last.id then 0x02 else if decide (x.goal = t) then 0x00 else 0x01
        settingsDone s x.cmd st x.tag x.id x.submitted (fsnOf t)) s
    else s

/-! ### The ledger (R155, R156, R158) -/

/-- A record enters the ledger, which keeps the newest 16. -/
def addLedger (s : State) (p : Nat) (r : LedgerRec) : State :=
  let s := setEsc s p { escOf s p with ledger := (r :: (escOf s p).ledger).take 16 }
  (s.setRn (rESCP_LAST_FSN p) (fsnOf r.frame)).setRn (rESCP_LAST_ENTRY p) r.entry

/-- The groups whose applied value the sensor reports and whose value is known (R159). -/
def reported (pr : EscProfile) (vals : KMap (List Byte)) : List Nat :=
  (List.range pr.groups.length).filter (fun g =>
    match pr.groups[g]? with
    | some d => d.embFmt != 0 && d.embOff != 0xFFFF && (kget g vals).isSome
    | none => false)

/-- Verification of these groups uses a bottom line (R160). -/
def usesBottom (pr : EscProfile) (gs : List Nat) : Bool :=
  gs.any (fun g => match pr.groups[g]? with | some d => decide (4 ≤ d.embLine) | none => false)

/-- The state that a frame carries until it is verified. -/
def startState (pr : Option EscProfile) (vals : KMap (List Byte)) (uncertain : Bool) : Nat :=
  match pr with
  | some pr =>
    let gs := reported pr vals
    if pr.verify && !gs.isEmpty && usesBottom pr gs then 6 else if uncertain then 2 else 0
  | none => 0

/-- At FS(f) the ledger records the frame, and the entries that reach it take effect (R155). -/
def ledgerFrame (s : State) (p : Nat) (f : Int) : State :=
  let e := escOf s p
  let l := entriesAt e.entries f
  let d := e.doubt.find? (fun d => decide (d.first ≤ f) && decide (f ≤ d.last))
  let r : LedgerRec :=
    match l.getLast?, d with
    | some last, _ =>
      let plan := l.foldl (fun m x => overlay m x.data) e.values
      ⟨f, last.id, startState e.profile plan false, false, false, plan, e.values, e.effect⟩
    | none, some d => ⟨f, d.entry, startState e.profile d.plan true, true, false, d.plan, e.values, e.effect⟩
    | none, none => ⟨f, e.effect, startState e.profile e.values false, false, false, e.values, e.values,
        e.effect⟩
  let s := addLedger s p r
  let s := setEsc s p { escOf s p with
    doubt := (escOf s p).doubt.filter (fun d => decide (f ≤ d.last)),
    entries := (escOf s p).entries.map (fun x => if decide (x.target = f) then { x with reached := true } else x) }
  tryEffect s p f

/-- The frames that a late entry leaves: UNCERTAIN from its old target where a group was sent, else as
they stood before (R156). -/
def lateLedger (s : State) (p : Nat) (id : Nat) (t0 t1 : Int) (sent : Bool) (data : KMap (List Byte)) : State :=
  let e := escOf s p
  let plan := overlay e.values data
  let fix (r : LedgerRec) : LedgerRec :=
    if decide (t0 ≤ r.frame) && decide (r.frame < t1) then
      if sent then { r with entry := id, uncertain := true, plan := plan, state := if r.state = 6 then 6 else 2 }
      else if r.entry = id then { r with entry := r.beforeId, plan := r.before }
      else r
    else r
  let doubt := if sent then ⟨t0, t1 - 1, id, plan⟩ :: e.doubt else e.doubt
  let s := setEsc s p { e with ledger := e.ledger.map fix, doubt := doubt }
  match (escOf s p).ledger.head? with
  | some r => s.setRn (rESCP_LAST_ENTRY p) r.entry
  | none => s

/-! ### Judging bursts (R153 to R156) -/

/-- The entries with a group in a burst, each once. -/
def burstEntries (b : Burst) : List Nat :=
  (b.txns.filterMap (fun t => match t with | .group e _ => some e | _ => none)).eraseDups

/-- A late burst: its entries are retargeted. -/
def judgeLate (s : State) (p : Nat) (pr : EscProfile) (b : Burst) : State :=
  let s := s.bump (fESCP_CNT_LATE p)
  (burstEntries b).foldl (fun s id =>
    match (escOf s p).entries.find? (fun e => e.id == id) with
    | none => s
    | some e =>
      let n := if b.nacked.contains id then e.nacks + 1 else e.nacks
      let s := setEsc s p { escOf s p with
        entries := (escOf s p).entries.map (fun x => if x.id == id then { x with nacks := n } else x) }
      let s := lateEntry 17 s p pr id
      let sent := b.sent.any (fun x => x.1 == id)
      match (escOf s p).entries.find? (fun e => e.id == id) with
      | some x => lateLedger s p id e.target x.target sent e.data
      | none => lateLedger s p id e.target (e.target + 1) false e.data) s

/-- A burst judged in time: its groups are written. -/
def judgeOk (s : State) (p : Nat) (pr : EscProfile) (b : Burst) : State :=
  let gs (id : Nat) : List Nat :=
    b.txns.filterMap (fun t => match t with | .group e g => if e = id then some g else none | _ => none)
  let mark (e : EscEntry) : EscEntry :=
    { e with written := e.written ++ (gs e.id).filter (fun g =>
        decide (e.target - Int.ofNat (delayOf pr g) = b.frame)) }
  let s := setEsc s p { escOf s p with entries := (escOf s p).entries.map mark }
  (burstEntries b).foldl (fun s id =>
    match (escOf s p).entries.find? (fun e => e.id == id) with
    | some e => tryEffect s p e.target
    | none => s) s

/-- The burst that runs on a pipeline. -/
def runningBurst (s : State) (p : Nat) : Option Burst := (escOf s p).bursts.find? (fun b => b.running)

def setRunning (s : State) (p : Nat) (b : Option Burst) : State :=
  let f (x : Burst) : Option Burst := if x.running then b else some x
  setEsc s p { escOf s p with bursts := (escOf s p).bursts.filterMap f }

/-- The running burst ends and is judged (R153). -/
def judge (s : State) (p : Nat) (pr : EscProfile) (b : Burst) : State :=
  let s := setRunning s p none
  if b.failed.isSome || decide (b.close < Int.ofNat s.dial) then judgeLate s p pr b else judgeOk s p pr b

/-- A transaction of the running burst has ended; `sent` says whether it counts as sent (R156). -/
def burstTxnEnd (s : State) (p n result : Nat) (sent : Bool) : State :=
  match (escOf s p).profile, runningBurst s p with
  | some pr, some b =>
    if result = 7 then failBus s n
    else
      let t := b.txns[b.next]?
      let b := match t with
        | some (.group e g) => if sent then { b with sent := b.sent ++ [(e, g)] } else b
        | some .holdOn => { b with holdSent := b.holdSent || sent }
        | _ => b
      if b.failed.isSome then judge s p pr b
      else if result = 0 then
        if b.next + 1 < b.txns.length then setRunning s p (some { b with next := b.next + 1 })
        else judge s p pr b
      else
        let bad := if result = 1 || result = 2 then
          (match t with | some (.group e _) => [e] | _ => burstEntries b) else []
        let b := { b with failed := some result, nacked := bad }
        if b.holdSent && result != 9 && t != some .holdOff then
          let l := b.txns.take (b.next + 1) ++ [.holdOff]
          setRunning s p (some { b with txns := l, next := b.next + 1 })
        else judge s p pr b
  | _, _ => s

/-! ### Verification (R159, R160) -/

/-- The value that captured lines report for a group; none where the line or its bytes are missing. -/
def embValue (d : EscGroup) (top bottom : List (List Byte)) : Option (List Byte) :=
  let line := if d.embLine < 4 then top[d.embLine]? else bottom[d.embLine - 4]?
  match line with
  | none => none
  | some bs =>
    if d.embFmt = 1 then
      if d.embOff + d.len ≤ bs.length then some ((bs.drop d.embOff).take d.len) else none
    else if d.embOff + 2 * d.len ≤ bs.length then
      some ((List.range d.len).map (fun i => (bs.drop (d.embOff + 1 + 2 * i)).headD 0))
    else none

/-- A frame's state is settled. -/
def settle (s : State) (p : Nat) (f : Int) (entry state : Nat) : State :=
  let fix (r : LedgerRec) : LedgerRec :=
    if r.frame = f then { r with entry := entry, state := state, verified := true } else r
  let s := setEsc s p { escOf s p with ledger := (escOf s p).ledger.map fix }
  let s := if s.rn (rESCP_LAST_FSN p) = fsnOf f then s.setRn (rESCP_LAST_ENTRY p) entry else s
  if state = 3 then
    ((s.bump (fESCP_CNT_VERIFY_FAIL p)).ev (fESCP_EVENT_MISMATCH p)).report 0x10 p 0x0003
  else if state = 4 then
    ((s.bump (fESCP_CNT_VERIFY_FAIL p)).ev (fESCP_EVENT_LAG p)).report 0x10 p 0x0004
  else if state = 5 then
    ((s.bump (fESCP_CNT_VERIFY_FAIL p)).ev (fESCP_EVENT_UNVERIFIED p)).report 0x10 p 0x0005
  else s

/-- The check of frame `f` against its captured lines; `final` says that the frame has ended. -/
def verifyFrame (s : State) (p : Nat) (f : Int) (top bottom : List (List Byte)) (invalid final : Bool) :
    State :=
  match (escOf s p).profile, (escOf s p).ledger.find? (fun r => decide (r.frame = f)) with
  | some pr, some r =>
    let gs := reported pr r.plan
    if !pr.verify || gs.isEmpty || r.verified || (usesBottom pr gs && !final) then s
    else
      let vals := gs.map (fun g => (g, match pr.groups[g]? with
        | some d => embValue d top bottom
        | none => none))
      if invalid || vals.any (fun x => x.2.isNone) then settle s p f r.entry 5
      else
        let plan := vals.all (fun x => x.2 == kget x.1 r.plan)
        let cand := vals.all (fun x => (kget x.1 r.before).isNone || x.2 == kget x.1 r.before)
        if plan then settle s p f r.entry 1
        else if cand then settle s p f r.beforeId (if r.uncertain then 1 else 4)
        else settle s p f r.entry 3
  | _, _ => s

/-- The entry and state that the hallmarks of frame `f` carry (R158). -/
def ledgerOf (s : State) (p : Nat) (f : Int) : Nat × Nat :=
  match (escOf s p).ledger.find? (fun r => decide (r.frame = f)) with
  | some r => (r.entry, r.state)
  | none => (0, 0)

/-! ### A stream start (R146, R163) -/

/-- Entry IDs start again at 1, and nothing is in effect. -/
def escStart (s : State) (p : Nat) : State :=
  let s := setEsc s p { profile := (escOf s p).profile }
  ((s.setF (fESCP_STATUS_PENDING p) 0).setRn (rESCP_LAST_ENTRY p) 0).setRn (rESCP_LAST_FSN p) 0

end Sys2Proof.Machine
end

