-- ==== Sys2Proof/Machine/Freshness.lean ====
section
/-!
DEFINITION. Freshness (spec/08_frames_commits_hallmarks.md R191 to R193): the views that are outputs of
pipelines, and the start times of canvas views.
-/

namespace Sys2Proof.Machine

/-- EVENT.STALE and EVENT.FRESH of stream `st`. -/
def evStale (st : Nat) : Fld := ⟨rCMT_EVENT (st / 4), 4 + st % 4, 1⟩
def evFresh (st : Nat) : Fld := ⟨rCMT_EVENT (st / 4), 8 + st % 4, 1⟩

/-- The budget of an output in its active set, in ms. -/
def activeBudget (s : State) (st : Nat) : Nat := s.av (fCMT_FRESH_CFG_BUDGET_MS (st / 4) (st % 4))

/-- Stream start or output enable: STALE is 1, EVER_FRESH is 0, the run count is 0. The island's
records of the view start again. -/
def freshStart (s : State) (st budget : Nat) : State :=
  let s := setFresh s st { on := true, start := s.dial, budget := budget }
  let s := { s with isl := { s.isl with confirmed := kdel st s.isl.confirmed, frames := kdel st s.isl.frames } }
  let s := s.setF (fSAFE_DISP_STATUS_CONFIRMED st) 0
  if st < 128 then
    (setStale s st true).setF (fCMT_FRESH_STATUS_EVER_FRESH (st / 4) (st % 4)) 0
  else s

/-- Stream stop or output disable: STALE is set at once, with no violation. -/
def freshStop (s : State) (st : Nat) : State :=
  if (fresh s st).on then
    let s := setFresh s st { fresh s st with on := false, run := 0 }
    if st < 128 then setStale s st true else s
  else s

/-- A violation (R192). The view of a canvas stream has no status register and no code of its own (R500). -/
def violate (s : State) (st : Nat) : State :=
  let s := setStale (setFresh s st { fresh s st with run := 0, expired := true }) st true
  let s := if st < 128 then
      ((s.setF (fCMT_FRESH_STATUS_VIOLATED (st / 4) (st % 4)) 1).ev (evStale st)).report 0x11 (st / 4)
        (0x0100 + st % 4) (if isSafety s st then 3 else 0)
    else s
  viewLost s st

/-- The age of a view exceeds its budget while STALE is 0, or the budget has passed since the start
without a good frame. -/
def budgetOver (s : State) (st : Nat) : Bool :=
  let f := fresh s st
  f.on && (match f.newest with
    | some t => !f.stale && decide (f.budget * 1000000 < s.dial - t)
    | none => !f.expired && decide (f.budget * 1000000 ≤ s.dial - f.start))

def budgetExpiry (s : State) (st : Nat) : State := if budgetOver s st then violate s st else s

def execFreshnessBudgetExpiry (stream : Nat) (s : State) : Out := .next (hub s (budgetExpiry s (stream % 132)))

/-- RECOVER of a view; a canvas stream has no FRESH_CFG and takes its reset value. -/
def recoverOf (s : State) (st : Nat) : Nat :=
  if st < 128 then s.av (fCMT_FRESH_CFG_RECOVER (st / 4) (st % 4)) else 2

/-- A frame of view `st` is delivered: `good` by R191, `cap` its capture time, and for a canvas the BUDGET_MS of its
hallmark (R500). -/
def freshDelivered (s : State) (st : Nat) (good : Bool) (cap budget : Nat) : State :=
  let f := fresh s st
  if !f.on then s
  else if !good then setFresh s st { f with run := 0 }
  else
    let f := if st < 128 then f else { f with budget := budget }
    let ok := decide (s.dial - cap ≤ f.budget * 1000000)
    let run := if !f.stale then f.run else if ok then f.run + 1 else 0
    let s := setFresh s st { f with newest := some cap, run := run }
    if f.stale && decide (recoverOf s st ≤ run) && ok then
      let s := setStale s st false
      viewFound (if st < 128 then (s.setF (fCMT_FRESH_STATUS_EVER_FRESH (st / 4) (st % 4)) 1).ev (evFresh st) else s)
    else s

/-- The active set of pipeline `p` has changed: outputs are enabled or disabled, and new budgets apply. -/
def freshSwap (s : State) (p : Nat) (old : Cfg) : State :=
  (List.range 4).foldl (fun s o =>
    let st := 4 * p + o
    let was := outEn old p o
    let now := s.aon (fOUT_CTRL_EN p o)
    if !s.started.contains p then s
    else if now && !was then freshStart s st (activeBudget s st)
    else if was && !now then freshStop s st
    else
      let s := setFresh s st { fresh s st with budget := activeBudget s st }
      if (fresh s st).newest.isSome then budgetExpiry s st else s) s

/-- AGE_MS of a view (R194). -/
def ageMs (s : State) (st : Nat) : Nat :=
  match (fresh s st).newest with
  | some t => satTo 0xFFFF ((s.dial - t) / 1000000)
  | none => 0xFFFF

end Sys2Proof.Machine
end

