-- ==== Sys2Proof/Machine/LarderOps.lean ====
section
/-!
DEFINITION. The Larder (spec/13_larder.md): cells, words, credits, packets, groups, flushes and broken
queues.
-/

namespace Sys2Proof.Machine

def queueOfL (s : State) (q : Nat) : LQueue := kgetD {} q s.larder.queue
def setQueueL (s : State) (q : Nat) (x : LQueue) : State :=
  { s with larder := { s.larder with queue := kputD {} q x s.larder.queue } }
def groupOfL (s : State) (g : Nat) : LGroup := kgetD {} g s.larder.group
def setGroupL (s : State) (g : Nat) (x : LGroup) : State :=
  { s with larder := { s.larder with group := kputD {} g x s.larder.group } }

def queueEn (s : State) (q : Nat) : Bool := s.on (fLQ_CFG_EN q)
def queueGroup (s : State) (q : Nat) : Nat := s.fv (fLQ_CFG_GROUP q)
def credit (s : State) (q : Nat) : Nat := s.fv (fLQ_CREDIT_CELLS q)
def setCredit (s : State) (q n : Nat) : State := s.setF (fLQ_CREDIT_CELLS q) n

/-! ### Cells (R299, R306) -/

/-- The cells that queues hold. -/
def heldCells (s : State) : List Nat := s.larder.queue.flatMap (fun x => x.2.cells ++ x.2.back)

/-- The first cell at or after `k`, going round the pool, that is not listed. -/
def pickCell (used : List Nat) : Nat → Nat → Nat
  | 0, k => k % 393216
  | n + 1, k => if used.contains (k % 393216) then pickCell used n (k + 1) else k % 393216

/-- A free cell; the manual does not fix the order in which the Larder takes them (R319). -/
def freeCell (s : State) : Nat × State :=
  let used := heldCells s ++ s.larder.stuck ++ s.larder.retired
  let (v, s) := takeFree s
  (pickCell used used.length v, s)

/-- Cells retired in service, saturating (R319), and the limit of R300. -/
def countRetired (s : State) : State :=
  let n := s.larder.retired.length
  let s := s.setF fLARDER_RETIRED_SERVICE (satTo 0xFFFF n)
  if n = 4097 then (s.ev fLARDER_EVENT_RETIRE_LIMIT).report 0x14 0 0x0009 else s

/-- A cell is retired. -/
def retireCell (s : State) (c : Nat) : State :=
  if s.larder.retired.contains c then s
  else countRetired { s with larder := { s.larder with retired := c :: s.larder.retired } }

/-- A cell goes back to the pool, or is retired where an uncorrectable error was found in it (R311). -/
def returnCell (s : State) (c : Nat) : State :=
  if s.larder.retire.contains c then
    retireCell { s with larder := { s.larder with retire := s.larder.retire.filter (fun x => x != c) } } c
  else s

def returnCells (s : State) : List Nat → State
  | [] => s
  | c :: cs => returnCells (returnCell s c) cs

/-- The cells of a queue that no longer hold a word and are not its tail. -/
def emptied (x : LQueue) : List Nat :=
  (x.cells.dropLast).filter (fun c => x.words.all (fun w => w.cell != c))

/-- Emptied cells return to the pool, and CREDIT rises by 1 for each (R306). -/
def giveBack (s : State) (q : Nat) : State :=
  let x := queueOfL s q
  let l := emptied x
  let s := setQueueL s q { x with cells := x.cells.filter (fun c => !l.contains c) }
  returnCells (setCredit s q (credit s q + l.length)) l

/-- Room for one more word at the tail of a queue: a new tail cell is taken where it is needed. -/
def roomAtTail (s : State) (q : Nat) : State :=
  let x := queueOfL s q
  if x.cells.isEmpty || 32 ≤ x.tailUsed then
    let (c, s) := freeCell s
    let x := queueOfL s q
    giveBack (setCredit (setQueueL s q { x with cells := x.cells ++ [c], tailUsed := 0 }) q (credit s q - 1)) q
  else s

/-- A word needs a new tail cell. -/
def needsCell (s : State) (q : Nat) : Bool :=
  let x := queueOfL s q
  x.cells.isEmpty || decide (32 ≤ x.tailUsed)

/-! ### Writing -/

/-- A word arrives for a queue: it is stored, or discarded under a flush or an audit (R303, R306, R312,
R314). -/
def writeWordL (s : State) (q data : Nat) (last poison : Bool) (tag : Option PktMeta := none) : State :=
  let x := queueOfL s q
  if s.on (fLQ_CTRL_AUDIT q) then setQueueL s q { x with discarding := !last, inPkt := !last }
  else if x.discarding then
    let s := if x.cells.isEmpty then s else roomAtTail s q
    let x := queueOfL s q
    setQueueL s q { x with discarding := !last, inPkt := !last, tailUsed := x.tailUsed + b2n (!x.cells.isEmpty) }
  else
    let s := roomAtTail s q
    let x := queueOfL s q
    let w : LWord := ⟨data, last, poison, x.cells.getLast?.getD 0, x.tailUsed, tag⟩
    let x := { x with words := x.words ++ [w], tailUsed := x.tailUsed + 1, inPkt := !last }
    if last then
      let s := setQueueL s q { x with orders := x.orders ++ [s.larder.order] }
      { s with larder := { s.larder with order := s.larder.order + 1 } }
    else setQueueL s q x

/-! ### Groups (R301, R309) -/

/-- The enabled member queues of a group; a device queue is the only member of its group. -/
def members (s : State) (g : Nat) : List Nat :=
  if g < 192 then (if queueEn s g then [g] else [])
  else (s.larder.queue.map (fun x => x.1)).filter (fun q => queueEn s q && queueGroup s q == g)

/-- The queue whose packet a read of an idle group opens. -/
def nextOpen (s : State) (g : Nat) : Option Nat :=
  let c := (members s g).filter (fun q => !(queueOfL s q).orders.isEmpty)
  let top := maxList (c.map (fun q => s.fv (fLQ_CFG_LEVEL q)))
  (c.filter (fun q => s.fv (fLQ_CFG_LEVEL q) == top)).foldl (fun a q =>
    match a with
    | none => some q
    | some r => if (queueOfL s q).orders.headD 0 < (queueOfL s r).orders.headD 0 then some q else some r) none

/-- G_STATUS.EMPTY. -/
def groupEmpty (s : State) (g : Nat) : Bool := (groupOfL s g).opened.isNone && (nextOpen s g).isNone

/-- What a read of a group delivers. -/
structure GWord where
  data : Nat
  last : Bool
  poison : Bool
  underrun : Bool
  queue : Nat
  tag : Option PktMeta := none
  deriving DecidableEq, Repr

/-! ### Broken queues (R312) -/

/-- Queue `q` breaks. -/
def breakQueue (s : State) (q : Nat) : State :=
  let g := queueGroup s q
  let x := queueOfL s q
  let cut := (groupOfL s g).opened == some q
  let s := if cut then setGroupL s g { groupOfL s g with cut := true } else s
  let s := setQueueL s q { x with words := [], orders := [], discarding := x.inPkt, flushing := false }
  let s := (s.setF (fLQ_CTRL_BROKEN q) 1).setF (fLQ_CTRL_AUDIT q) 1
  s.report 0x14 g 0x0003

/-- A word is delivered poisoned: it is counted and reported once. -/
def poisonedWord (s : State) (g : Nat) : State :=
  ((s.bump fLARDER_CNT_ECC_UNCORR).ev fLARDER_EVENT_POISON).report 0x14 g 0x0002

/-- The packet that is open on a group closes. -/
def closePacket (s : State) (g : Nat) : State := setGroupL s g { groupOfL s g with opened := none, cut := false }

/-- A parity error in the owner tag of a released cell (R313). -/
def ownerParity (s : State) (c : Nat) : State :=
  let s := (s.bump fLARDER_CNT_ERR_PARITY).ev fLARDER_EVENT_OWNER_PARITY
  (retireCell s c).report 0x14 0 0x0004

/-- One word of the packet that is open on group `g`, from queue `q` (R309, R311 to R313). -/
def deliver (s : State) (g q : Nat) (err : LarderErr) : GWord × State :=
  let zero : GWord := ⟨0, true, true, false, q, none⟩
  if (groupOfL s g).cut then (zero, closePacket s g)
  else
    let x := queueOfL s q
    match x.words with
    | [] => (zero, closePacket s g)
    | w :: ws =>
      if err = .link || err = .descriptor then
        let s := if err = .link then (s.bump fLARDER_CNT_ERR_PARITY).ev fLARDER_EVENT_LINK_PARITY else s
        (zero, closePacket (breakQueue s q) g)
      else
        let r : GWord := match err with
          | .uncorrectable d l => ⟨d % 2 ^ 64, l, true, false, q, w.tag⟩
          | _ => ⟨w.data, w.last, w.poison, false, q, w.tag⟩
        let s := match err with
          | .corrected =>
            ((s.bump fLARDER_CNT_ECC_CORR).ev fLARDER_EVENT_CORRECTED).report 0x14 g 0x0001
          | .uncorrectable _ _ =>
            let s := poisonedWord s g
            { s with larder := { s.larder with retire := w.cell :: s.larder.retire } }
          | _ => if w.poison then poisonedWord s g else s
        let s := setQueueL s q { x with words := ws }
        let freed := emptied (queueOfL s q)
        let s := giveBack s q
        let s := match err, freed with
          | .owner, c :: _ => ownerParity s c
          | _, _ => s
        let s := setGroupL s g { groupOfL s g with lastWord := r.data }
        if r.last then
          let y := queueOfL s q
          (r, closePacket (setQueueL s q { y with orders := y.orders.drop 1 }) g)
        else (r, s)

/-- A consumer reads group `g` (R309, R310). -/
def groupRead (s : State) (g : Nat) (err : LarderErr) : GWord × State :=
  match (groupOfL s g).opened with
  | some q => deliver s g q err
  | none =>
    match nextOpen s g with
    | some q => deliver (setGroupL s g { groupOfL s g with opened := some q }) g q err
    | none =>
      let s := ((s.setF (fLARDER_G_STATUS_UNDERRUN g) 1).bump fLARDER_CNT_FLOW_UNDERRUN).ev fLARDER_EVENT_UNDERRUN
      (⟨(groupOfL s g).lastWord, false, false, true, 0, none⟩, s.report 0x14 g 0x0006)

/-! ### Flushes (R314) -/

/-- A flush of a queue is accepted; `off` says that EN was cleared and the tail cell goes back too. -/
def flushQueue (s : State) (q : Nat) (off : Bool) : State :=
  if s.on (fLQ_CTRL_AUDIT q) then s
  else
    let x := queueOfL s q
    let g := queueGroup s q
    let s := if (groupOfL s g).opened == some q then setGroupL s g { groupOfL s g with cut := true } else s
    let keep := if off then [] else (x.cells.getLast?.map (fun c => [c])).getD []
    let gone := if off then x.cells else x.cells.dropLast
    setQueueL s q { x with words := [], orders := [], cells := keep, back := x.back ++ gone, flushing := true,
                           discarding := x.discarding || x.inPkt, tailUsed := if off then 0 else x.tailUsed }

/-- The flush ends: its cells return, and a reservation that waits is released (R315, R317). -/
def flushDone (s : State) (q : Nat) : State :=
  let x := queueOfL s q
  if x.flushing then
    let s := setQueueL s q { x with flushing := false, back := [], releasing := false }
    returnCells (setCredit s q (if x.releasing then 0 else credit s q + x.back.length)) x.back
  else s

/-! ### Device queues (R302, R361) -/

/-- A device queue is enabled with a reservation; an enabled one takes a new reservation. -/
def enableQueue (s : State) (q cells : Nat) : State :=
  if queueEn s q then
    let old := s.fv (fLQ_RESERVE_CELLS q)
    setCredit (s.setF (fLQ_RESERVE_CELLS q) cells) q (credit s q + cells - old)
  else setCredit ((s.setF (fLQ_CFG_EN q) 1).setF (fLQ_RESERVE_CELLS q) cells) q cells

/-- A device queue is flushed and disabled, and its reservation released. -/
def disableQueue (s : State) (q : Nat) : State :=
  let x := queueOfL s q
  let s := setGroupL s q {}
  let s := setQueueL s q {}
  let s := returnCells s (x.cells ++ x.back)
  ((s.setF (fLQ_CFG_EN q) 0).setF (fLQ_RESERVE_CELLS q) 0).setF (fLQ_CREDIT_CELLS q) 0

/-! ### Registers read from the queues (R319) -/

/-- Q[q].WORDS, PKTS, HEAD and TAIL. -/
def queueReg (s : State) (q k : Nat) : Nat :=
  let x := queueOfL s q
  let tail := x.cells.getLast?.getD 0 + x.tailUsed % 32 * 2 ^ 19
  match k with
  | 0 => x.words.length
  | 1 => x.orders.length
  | 2 => (match x.words with | w :: _ => w.cell + w.pos * 2 ^ 19 | [] => tail)
  | _ => tail + b2n x.inPkt * 2 ^ 24 + b2n x.discarding * 2 ^ 25

/-- G_STATUS, UNDERRUN from its register. -/
def groupReg (s : State) (g : Nat) : Nat :=
  b2n (groupEmpty s g) + b2n (groupOfL s g).opened.isSome * 2 + s.fv (fLARDER_G_STATUS_UNDERRUN g) * 4
    + ((groupOfL s g).opened.getD 0) * 2 ^ 4 + (members s g).length * 2 ^ 16

/-- POOL_FREE. -/
def poolFree (s : State) : Nat :=
  393216 - (heldCells s).length - s.fv fLARDER_RETIRED_BOOT - s.larder.retired.length

/-- POOL_RESERVED. -/
def poolReserved (s : State) : Nat :=
  sumList ((List.range 36).map (fun t => natMax (fun x => x.1.allCells) (activeSet s t ++ armedSet s t)))
    + softReserve s

end Sys2Proof.Machine
end

