-- ==== Sys2Proof/Machine/PipeOps.lean ====
section
/-!
DEFINITION. Operations on the frames of a pipeline that its chapters share: the frames in progress, the
configuration, the class and the slices of a frame (spec/09_front_end.md R195 to R202).
-/

namespace Sys2Proof.Machine

def pipeOf (s : State) (p : Nat) : Pipe := kgetD {} p s.pipe
def setPipe (s : State) (p : Nat) (x : Pipe) : State := { s with pipe := kput p x s.pipe }
def updPipe (s : State) (p : Nat) (g : Pipe → Pipe) : State := setPipe s p (g (pipeOf s p))

/-- The frame of number `n`. -/
def frameOf (s : State) (p : Nat) (n : Int) : Option Frame :=
  (pipeOf s p).frames.find? (fun f => decide (f.n = n))

/-- Frame `n` of pipeline `p` is changed by `g`. -/
def updFrame (s : State) (p : Nat) (n : Int) (g : Frame → Frame) : State :=
  updPipe s p (fun x => { x with frames := x.frames.map (fun f => if f.n = n then g f else f) })

/-- The configuration that a frame uses (R202). -/
def Frame.rd (f : Frame) : Cfg := snapCfg f.cfg

/-- The input format of a frame. -/
def Frame.fmt (f : Frame) : InFmt := (entryFmt f.rd f.port f.chan).getD ⟨0, 8, 1, 1⟩

/-- The CFA class of a frame, its context, its slice height and the number of its last slice. -/
def Frame.cls (f : Frame) (p : Nat) : Nat := (classOf f.rd p f.fmt).getD 0
def Frame.ctx (f : Frame) (p : Nat) : Nat := ctxOf f.rd p (f.cls p)
def Frame.sl (f : Frame) (p : Nat) : Nat := sliceH f.rd p
def Frame.last (f : Frame) (p : Nat) : Nat := lastSlice f.height (f.sl p) (f.ctx p)

/-- The lines of the front end's picture that the frame delivers: those of the slices released. -/
def Frame.delivers (f : Frame) (p : Nat) : Nat :=
  if f.noSlices || f.released = 0 then 0
  else sliceLast f.height (f.sl p) (f.ctx p) (f.released - 1) + 1

/-- The level of each CFA code that the frame uses (R205). -/
def Frame.lev (f : Frame) : List Nat := f.levels.getD []

/-- The registers of a pipeline's placement. -/
def setPlace (s : State) (t : Nat) (x : Place) : State :=
  let s := { s with place := kput t x s.place }
  if t < 32 then
    let s := s.setF (fKSCHED_STATUS_TILE t) (x.host.getD 0)
    (s.setF (fKSCHED_STATUS_TWIN_ACTIVE t) (b2n x.twin.isSome)).setF (fKSCHED_STATUS_TWIN_TILE t) (x.twin.getD 0)
  else s

end Sys2Proof.Machine
end

