-- ==== Sys2Proof/Machine/StatsOps.lean ====
section
/-!
DEFINITION. Statistics and flicker detection (spec/11_statistics.md): histograms, zones, the flicker
analysis in exact integers, and the statistics packet.
-/

namespace Sys2Proof.Machine

/-! ### Sines, roots and angles (R260) -/

/-- 2π × 2^160, rounded down. -/
def twoPi160 : Nat := 9182885614096437842769610399486622256908310048836

/-- The terms of the series of a sine or cosine, from term `t`, whose square of the angle is `xx`. -/
def series (xx : Nat) : Nat → Nat → Int → Int
  | 0, _, _ => 0
  | n + 1, k, t => t + series xx n (k + 2) (-(t * Int.ofNat xx / Int.ofNat (2 ^ 160) / Int.ofNat ((k + 1) * (k + 2))))

/-- The sine of `num / den` of a turn, at most a quarter, times 2^160. -/
def sinQuarter (num den : Nat) : Int :=
  let x := twoPi160 * num / den
  series (x * x / 2 ^ 160) 40 1 (Int.ofNat x)
/-- The cosine of the same. -/
def cosQuarter (num den : Nat) : Int :=
  let x := twoPi160 * num / den
  series (x * x / 2 ^ 160) 40 0 (Int.ofNat (2 ^ 160))

/-- The sine of `num / den` turns, times 2^160. -/
def sinTurn (num den : Nat) : Int :=
  let r := num % den
  let q := 4 * r / den
  let u := 4 * r - q * den
  match q with
  | 0 => sinQuarter u (4 * den)
  | 1 => cosQuarter u (4 * den)
  | 2 => -(sinQuarter u (4 * den))
  | _ => -(cosQuarter u (4 * den))

/-- Sine and cosine rounded to S1.14. -/
def sin14 (num den : Nat) : Int := sar (sinTurn num den + Int.ofNat (2 ^ 145)) 146
def cos14 (num den : Nat) : Int := sin14 (4 * num + den) (4 * den)

/-- The integer square root from bit `k` down. -/
def isqrtFrom (n : Nat) : Nat → Nat → Nat
  | 0, r => r
  | k + 1, r => isqrtFrom n k (if (r + 2 ^ k) * (r + 2 ^ k) ≤ n then r + 2 ^ k else r)
def isqrt (n : Nat) : Nat := isqrtFrom n 64 0

/-- The direction `k / 65536` of a turn, at most a quarter, is not beyond that of the vector (x, y). -/
def notBeyond (x y k : Nat) : Bool :=
  if k = 8192 then decide (x ≤ y)
  else decide (Int.ofNat x * sinQuarter k 65536 ≤ Int.ofNat y * cosQuarter k 65536)

/-- The direction of a vector of the first quadrant in 1/65536 turn, rounded down, from bit `b` down. -/
def angleFrom (x y : Nat) : Nat → Nat → Nat
  | 0, k => k
  | b + 1, k => angleFrom x y b (if notBeyond x y (k + 2 ^ b) then k + 2 ^ b else k)

/-- The direction of (x, y) in 1/65536 turn, rounded down, and whether it is exact; the vector is not 0. -/
def angle (x y : Int) : Nat × Bool :=
  let a := x.natAbs
  let b := y.natAbs
  let exact := decide (a = 0) || decide (b = 0) || decide (a = b)
  let (q, u, v) := if 0 < x && 0 ≤ y then (0, a, b) else if x ≤ 0 && 0 < y then (1, b, a)
    else if x < 0 && y ≤ 0 then (2, a, b) else (3, b, a)
  (q * 16384 + angleFrom u v 14 0, exact)

/-! ### Pictures and windows (R252 to R254) -/

/-- Selector `k` of CH_SEL. -/
def selOf (rd : Cfg) (p k : Nat) : Nat := bitsOf (rd (rSTATS_CH_SEL p)) (8 * k) 4
def tapOf (rd : Cfg) (p : Nat) : Nat := rd.f (fSTATS_CTRL_TAP p)

/-- The picture that the statistics measure: for each pixel its components as 20-bit values; with TAP 0 the
one sample. -/
def statsPic (p : Nat) (f : Frame) : Pic :=
  let rd := f.rd
  let lev := f.lev
  let img := f.lines
  match tapOf rd p with
  | 0 => mosaicPic rd p f.width f.height f.fmt lev img
  | 1 => afterMatrix rd p f.width f.height (f.cls p) f.fmt lev img
  | _ => (processed rd p f.width f.height (f.cls p) f.fmt lev img).map (fun row =>
      row.map (fun v => v.map (fun c => 16 * c)))

/-- The value that selector `sel` counts at a pixel with CFA code `code`; none where it counts nothing. -/
def chanValue (tap sel comps code : Nat) (v : List Nat) : Option Nat :=
  if sel = 0xF then none
  else if tap = 0 then (if sel = code then some (v.headD 0) else none)
  else if sel = 4 then
    (if comps = 1 then some (v.headD 0)
     else some ((871 * v.getD 0 0 + 2929 * v.getD 1 0 + 296 * v.getD 2 0 + 2048) / 4096))
  else if comps = 1 then none
  else if sel < comps then v[sel]? else none

/-- A window. -/
structure Win where
  x : Nat
  y : Nat
  w : Nat
  h : Nat
  deriving DecidableEq, Repr

/-- The window clipped to a picture. -/
def statsWin (rd : Cfg) (p w h : Nat) : Win :=
  let ww := rd.f (fSTATS_WIN_SIZE_W p)
  let wh := rd.f (fSTATS_WIN_SIZE_H p)
  if ww = 0 || wh = 0 then ⟨0, 0, w, h⟩
  else
    let x := rd.f (fSTATS_WIN_XY_X p)
    let y := rd.f (fSTATS_WIN_XY_Y p)
    ⟨x, y, min ww (w - x), min wh (h - y)⟩

/-- What the statistics of a frame count: for each measured window line, for each window column, the values of
the four channels. -/
def statsCells (p : Nat) (f : Frame) : List (List (List (Option Nat))) :=
  let rd := f.rd
  let win := statsWin rd p f.width f.height
  let tap := tapOf rd p
  let comps := classComps (f.cls p)
  let codes := cfaCodes rd p
  let pic := (statsPic p f).take (f.delivers p)
  mapFrom (fun y row => mapFrom (fun x v =>
    (List.range 4).map (fun k => chanValue tap (selOf rd p k) comps (cfaAt codes x y) v)) win.x
      ((row.drop win.x).take win.w)) win.y ((pic.drop win.y).take win.h)

/-- The values of channel `k` in a list of cells. -/
def chanOf (k : Nat) (l : List (List (Option Nat))) : List Nat := l.filterMap (fun v => (v[k]?).bind id)

/-! ### Histogram and zones (R255 to R257) -/

/-- floor(log2 w). -/
def log2Of (w : Nat) : Nat := ((List.range 20).filter (fun e => decide (2 ^ e ≤ w))).length - 1

/-- The bin of a value. -/
def histBin (logMode : Bool) (w : Nat) : Nat :=
  if logMode then
    (if w < 16 then 0
     else
      let e := log2Of w
      16 * (e - 4) + w / 2 ^ (e - 4) % 16)
  else w / 4096

/-- The 256 counts of a channel. -/
def histogram (logMode : Bool) (vs : List Nat) : List Nat :=
  let m : KMap Nat := vs.foldl (fun m w =>
    let b := histBin logMode w
    kput b (kgetD 0 b m + 1) m) []
  (List.range 256).map (fun i => kgetD 0 i m)

/-- The word of a zone and channel. -/
def zoneWord (thr : Nat) (vs : List Nat) : Nat :=
  let n := vs.length
  if n = 0 then 0xFFF00000
  else (rnd (Int.ofNat (sumList vs)) (Int.ofNat n)).toNat
    + (vs.filter (fun w => decide (thr ≤ w))).length * 4000 / n * 2 ^ 20

/-- The words of every zone, line by line of zones, four channels each. -/
def zoneWords (rd : Cfg) (p : Nat) (cells : List (List (List (Option Nat)))) : List Nat :=
  let zw := rd.f (fSTATS_ZONE_SIZE_ZW p)
  let zh := rd.f (fSTATS_ZONE_SIZE_ZH p)
  (List.range (rd.f (fSTATS_ZONE_GRID_ZY p))).flatMap (fun j =>
    (List.range (rd.f (fSTATS_ZONE_GRID_ZX p))).flatMap (fun i =>
      let l := ((cells.drop (j * zh)).take zh).flatMap (fun row => (row.drop (i * zw)).take zw)
      (List.range 4).map (fun k => zoneWord (rd.f (fSTATS_CLIP_THR p)) (chanOf k l))))

/-! ### Flicker (R258 to R261) -/

def flickRows (rd : Cfg) (p : Nat) : Nat := 2 ^ rd.f (fSTATS_FLK_CFG_ROWS_LOG2 p)

/-- The row profile. -/
def rowProfile (rd : Cfg) (p h : Nat) (cells : List (List (List (Option Nat)))) : List (Option Nat) :=
  let rows := flickRows rd p
  let k := rd.f (fSTATS_FLK_CFG_CH p)
  (List.range (h / rows)).map (fun y =>
    let vs := chanOf k ((cells.drop (y * rows)).take rows).flatten
    if vs.isEmpty then none else some (rnd (Int.ofNat (sumList vs)) (Int.ofNat vs.length)).toNat)

/-- t_line in 1/16 ns. -/
def lineUsed (rd : Cfg) (p : Nat) (f : Frame) : Nat :=
  let n := rd.f (fSTATS_FLK_LINE_LINE_NS p)
  if n ≠ 0 then n
  else
    let emb := entryEmb rd f.port f.chan
    (rnd (Int.ofNat ((f.fe.getD f.fs - f.fs) * 16)) (Int.ofNat (f.height + emb.1 + emb.2))).toNat

/-- The usable samples: number and d(y). A reference sample of 0 that FLK_MIN lets through has no stated
quotient; `free` gives its d(y). -/
def flickDiffs (free : Nat → Nat) (least : Nat) (cur ref : List (Option Nat)) : List (Nat × Int) :=
  (List.range cur.length).filterMap (fun y =>
    match (cur[y]?).bind id, (ref[y]?).bind id with
    | some a, some b =>
      if b < least then none
      else if b = 0 then some (y, signedOf 16 (free y))
      else some (y, clampInt (-32768) 32767 (rnd ((Int.ofNat a - Int.ofNat b) * 4096) (Int.ofNat b)))
    | _, _ => none)

/-- What a frame finds for a bin: 0 off, 1 above, 2 aliased, or its amplitude, depth and phase. -/
inductive BinRes where
  | off | above | aliased
  | found (ampl depth phase : Nat)
  deriving DecidableEq, Repr

/-- One bin. `t` is the frame interval in ns, `rows` times `line` the sample spacing in 1/16 ns, and `free` a
value for what the manual leaves open of the phase: its rounding, and the phase of nothing. -/
def flickBin (free freq t rows line : Nat) (ds : List (Nat × Int)) : BinRes :=
  let unit := 160000000000
  if freq = 0 then .off
  else if unit ≤ 2 * freq * rows * line then .above
  else
    let sc := (sin14 (freq * t) 20000000000).natAbs
    if sc < 4096 then .aliased
    else
      let th (y : Nat) : Nat := freq * rows * line * y
      let c := sumInt (ds.map (fun x => x.2 * cos14 (th x.1) unit))
      let sn := sumInt (ds.map (fun x => x.2 * sin14 (th x.1) unit))
      let n := ds.length
      let ampl := min 65535 (rnd (Int.ofNat (2 * isqrt (c.natAbs * c.natAbs + sn.natAbs * sn.natAbs)))
        (Int.ofNat (n * 16384))).toNat
      let depth := min 65535 (rnd (Int.ofNat (ampl * 8192)) (Int.ofNat sc)).toNat
      let phase := if c = 0 && sn = 0 then free % 65536
        else
          let (a, exact) := angle c (-sn)
          if exact then a else (a + free % 2) % 65536
      .found ampl depth phase

/-- DETECT, BEST and their events after the running levels have changed. -/
def setDetect (s : State) (p : Nat) (detect : Nat) : State :=
  let old := s.fv (fSTATS_STATUS_DETECT p)
  let avg := (pipeOf s p).avg
  let best := (List.range 16).foldl (fun (a : Option Nat) b =>
    if bitAt detect b then
      match a with
      | some x => if kgetD 0 x avg < kgetD 0 b avg then some b else a
      | none => some b
    else a) none
  let s := (s.setF (fSTATS_STATUS_DETECT p) detect).setF (fSTATS_STATUS_BEST p) (best.getD 0xFF)
  let s := s.evIf ((List.range 16).any (fun b => bitAt detect b && !bitAt old b)) (fSTATS_EVENT_FLICKER p)
  s.evIf ((List.range 16).any (fun b => !bitAt detect b && bitAt old b)) (fSTATS_EVENT_FLICKER_GONE p)

/-- The running level and the DETECT bit of bin `b` are 0. -/
def clearBins (s : State) (p : Nat) (bins : List Nat) : State :=
  let s := updPipe s p (fun x => { x with avg := kfilter (fun b => !bins.contains b) x.avg })
  setDetect s p (maskOf 16 (fun b => bitAt (s.fv (fSTATS_STATUS_DETECT p)) b && !bins.contains b))

/-- The flicker analysis starts again. -/
def flickReset (s : State) (p : Nat) : State :=
  let s := updPipe s p (fun x => { x with flick := none })
  clearBins (s.setF (fSTATS_STATUS_REF_HELD p) 0) p (List.range 16)

/-- The flicker set of a configuration (R264). -/
def flickSet (rd : Cfg) (p : Nat) : List Nat :=
  [tapOf rd p, rd (rSTATS_WIN_XY p), rd (rSTATS_WIN_SIZE p), rd.f (fSTATS_FLK_CFG_CH p),
   selOf rd p (rd.f (fSTATS_FLK_CFG_CH p)), rd.f (fSTATS_FLK_CFG_ROWS_LOG2 p), rd (rSTATS_FLK_LINE p)]

/-- A swap from `old` to `new`. -/
def flickSwap (s : State) (p : Nat) (old new : Cfg) : State :=
  if flickSet old p = flickSet new p then
    clearBins s p ((List.range 16).filter (fun b => old (rSTATS_FLK_FREQ p b) != new (rSTATS_FLK_FREQ p b)))
  else flickReset s p

/-- The flicker section of a packet. -/
structure FlickOut where
  samples : Nat := 0
  flags : Nat := 0
  line : Nat := 0
  period : Nat := 0
  bins : List (Nat × BinRes) := []
  deriving DecidableEq, Repr

/-- The new running level and DETECT bit of a bin with a result (R261). -/
def binLevel (rd : Cfg) (p avg depth : Nat) (det : Bool) : Nat × Bool :=
  let a := (Int.ofNat avg + sar ((Int.ofNat depth - Int.ofNat avg) * Int.ofNat (rd.f (fSTATS_FLK_CFG_ALPHA p))) 8).toNat
  let thr := rd.f (fSTATS_FLK_CFG_THR p)
  (a, if thr ≤ a then true else if a < thr / 2 then false else det)

/-- The flicker analysis of frame `f` (R262). -/
def flickFrame (s : State) (p : Nat) (f : Frame) (cells : List (List (List (Option Nat)))) : FlickOut × State :=
  let rd := f.rd
  let win := statsWin rd p f.width f.height
  let prof := rowProfile rd p win.h cells
  let usable := !f.truncated && (List.range f.height).all (fun y =>
    !(f.bad.contains y && decide (win.y ≤ y) && decide (y < win.y + win.h)))
  let base := s.taken
  let free (i : Nat) : Nat := Config.freeNat (base + i)
  let s := { s with taken := base + 8192 + 17 }
  let ref := (pipeOf s p).flick
  let line := lineUsed rd p f
  let t := match ref with | some r => f.fs - r.fs | none => free 8192
  let okRef := match ref with | some r => r.usable | none => false
  let ds := match ref with
    | some r => if r.usable then flickDiffs free (rd.f (fSTATS_FLK_MIN_MEAN p)) prof r.profile else []
    | none => []
  let few := decide (ds.length < 64)
  let res := okRef && !few
  let bins := if res then (List.range 16).map (fun b =>
      (b, flickBin (free (8193 + b)) (rd.f (fSTATS_FLK_FREQ_DHZ p b)) t (flickRows rd p) line ds)) else []
  let step (x : KMap Nat × Nat) (br : Nat × BinRes) : KMap Nat × Nat :=
    match br.2 with
    | .found _ depth _ =>
      let (a, d) := binLevel rd p (kgetD 0 br.1 x.1) depth (bitAt x.2 br.1)
      (kput br.1 a x.1, putBits x.2 br.1 1 (b2n d))
    | _ => x
  let (avg, det) := bins.foldl step ((pipeOf s p).avg, s.fv (fSTATS_STATUS_DETECT p))
  let s := updPipe s p (fun x => { x with avg := avg, flick := some ⟨prof, f.fs, usable⟩ })
  let s := setDetect s p det
  let s := s.setF (fSTATS_STATUS_REF_HELD p) (b2n usable)
  let s := if res then s else s.bump (fSTATS_CNT_NO_RESULT p)
  (⟨ds.length, b2n res + b2n (!okRef) * 2 + b2n (okRef && few) * 4, line, min 0xFFFFFFFF t, bins⟩, s)

/-! ### The packet (R266) -/

/-- The 8 bytes of a bin. -/
def binBytes (s : State) (p : Nat) (o : FlickOut) (b : Nat) : List Byte :=
  match o.bins.find? (fun x => x.1 == b) with
  | some (_, .found ampl depth phase) =>
    leBytes 2 ampl ++ leBytes 2 depth ++ leBytes 2 (kgetD 0 b (pipeOf s p).avg) ++ leBytes 2 phase
  | _ => leBytes 8 0

/-- The EMB_VALUE and EMB_VALID bytes. -/
def embBytes (s : State) (p : Nat) (f : Frame) : List Byte :=
  (List.range 8).flatMap (fun i => leBytes 4 (((kget i f.vals).orElse (fun _ => kget (8 + i) f.vals)).getD
    (s.rn (rFE_EMB_FIELD_VAL p i)))) ++ leBytes 1 (maskOf 8 (fun i => (kget i f.vals).isSome))

/-- Bytes 0x80 to 0x13F. -/
def flickBytes (s : State) (p : Nat) (on : Bool) (o : FlickOut) : List Byte :=
  if on then
    leBytes 2 o.samples ++ leBytes 1 (s.fv (fSTATS_STATUS_BEST p)) ++ leBytes 1 o.flags ++ leBytes 4 o.line
      ++ leBytes 4 o.period ++ leBytes 2 (s.fv (fSTATS_STATUS_DETECT p))
      ++ leBytes 2 (maskOf 16 (fun b => o.bins.contains (b, .aliased)))
      ++ leBytes 2 (maskOf 16 (fun b => o.bins.contains (b, .above))) ++ leBytes 14 0
      ++ (List.range 16).flatMap (binBytes s p o) ++ leBytes 32 0
  else leBytes 0xC0 0

/-- Bytes 0x40 to LENGTH - 1. -/
def statsBody (s : State) (p : Nat) (f : Frame) (cells : List (List (List (Option Nat)))) (o : FlickOut) :
    List Byte :=
  let rd := f.rd
  embBytes s p f ++ leBytes 31 0 ++ flickBytes s p (flickOn rd p) o
    ++ (if rd.on (fSTATS_CTRL_HIST_EN p) then
        (List.range 4).flatMap (fun k =>
          (histogram (rd.on (fSTATS_CTRL_HIST_LOG p)) (chanOf k cells.flatten)).flatMap (leBytes 4))
      else leBytes 4096 0)
    ++ (if rd.on (fSTATS_CTRL_ZONE_EN p) then (zoneWords rd p cells).flatMap (leBytes 4) else [])

/-- The bytes of a packet; `flags` holds TRUNCATED, CORRUPT, POISONED and BAD. -/
def statsPacket (s : State) (p : Nat) (f : Frame) (flags lines : Nat) (body : List Byte) : List Byte :=
  let rd := f.rd
  let zones := rd.on (fSTATS_CTRL_ZONE_EN p)
  let (entry, st) := ledgerOf s p f.n
  let z (x : Nat) : List Byte := leBytes 1 (if zones then x else 0)
  leBytes 4 0x54415453 ++ leBytes 1 1 ++ leBytes 1 p
    ++ leBytes 1 (flags + b2n (rd.on (fSTATS_CTRL_HIST_EN p)) * 16 + b2n zones * 32 + b2n (flickOn rd p) * 64)
    ++ leBytes 1 (tapOf rd p + b2n (rd.on (fSTATS_CTRL_HIST_LOG p)) * 4)
    ++ leBytes 4 (fsnOf f.n) ++ leBytes 4 entry ++ leBytes 8 f.fs ++ leBytes 8 (f.fe.getD 0)
    ++ leBytes 4 f.gen ++ leBytes 4 (statsLen rd p)
    ++ z (rd.f (fSTATS_ZONE_GRID_ZX p)) ++ z (rd.f (fSTATS_ZONE_GRID_ZY p)) ++ leBytes 1 st ++ leBytes 1 0
    ++ leBytes 4 lines ++ leBytes 12 0 ++ leBytes 4 (crc32c body).toNat ++ body

/-- `n` bytes that the manual leaves open. -/
def freeBytes (s : State) (n : Nat) : List Byte × State :=
  ((List.range n).map (fun i => BitVec.ofNat 8 (Config.freeNat (s.taken + i))), { s with taken := s.taken + n })

/-- The statistics of an ended frame: the flicker analysis runs on every frame, and the packet of a frame that
N keeps is put among the packets of stream 0xA0 + p. A residue fault that its retry did not resolve leaves the
body open. -/
def finishStats (s : State) (p : Nat) (f : Frame) : State :=
  let rd := f.rd
  if !anyStats rd p then s
  else
    let cells := statsCells p f
    let (o, s) := if flickOn rd p then flickFrame s p f cells else ({}, s)
    if !f.stats then s.bump (fSTATS_CNT_DECIMATED p)
    else
      let body := statsBody s p f cells o
      let (body, s) := if f.statsBad then freeBytes s body.length else (body, s)
      let flags := b2n f.truncated + b2n f.corrupt * 2 + b2n f.statsPoison * 4 + b2n f.statsBad * 8
      let st := 0xA0 + p
      let pk : Pkt := { body := .stats f.n (statsPacket s p f flags cells.length body) f.statsPoison }
      { s with prod := kput st (kgetD [] st s.prod ++ [pk]) s.prod }

end Sys2Proof.Machine
end

