-- ==== Sys2Proof/Machine/StreamOps.lean ====
section
/-!
DEFINITION. What a stream's start, its stop and a swap do to its queue and its device channel (R302, R320,
R360, R361), and the frame stores of its outputs (R239, R240).
-/

namespace Sys2Proof.Machine

/-! ### Device channels (R320) -/

def moverOf (s : State) (st : Nat) : Mover := kgetD {} st s.hoist.mover
def setMover (s : State) (st : Nat) (m : Mover) : State :=
  { s with hoist := { s.hoist with mover := kput st m s.hoist.mover } }

/-- Channel `st` is reset and starts. -/
def startChannel (s : State) (st : Nat) : State :=
  let s := ((s.setF (fHOIST_STATUS_STATE st) 1).setF (fHOIST_STATUS_PC st) 0).setRn (rHOIST_FAULT st) 0
  { s with hoist := { s.hoist with chan := kdel st s.hoist.chan, mover := kput st {} s.hoist.mover } }

/-- Channel `st` stops; a halted one keeps its fault. -/
def stopChannel (s : State) (st : Nat) : State :=
  let s := if s.fv (fHOIST_STATUS_STATE st) = 5 then s else s.setF (fHOIST_STATUS_STATE st) 0
  let s := s.setF (fHOIST_STATUS_INFLIGHT st) 0
  { s with hoist := { s.hoist with chan := kdel st s.hoist.chan, mover := kdel st s.hoist.mover } }

/-! ### Streams -/

/-- The queue and the channel of stream `st` start with a reservation. -/
def openStream (s : State) (st cells : Nat) : State :=
  if queueEn s st then enableQueue s st cells else startChannel (enableQueue s st cells) st

/-- The queue of stream `st` is flushed and disabled, its channel stops, and what its producer still had to
write is gone. -/
def closeStream (s : State) (st : Nat) : State :=
  let s := stopChannel (disableQueue s st) st
  { s with prod := kdel st s.prod, twinWait := s.twinWait.filter (fun x => x.stream != st),
           tallies := s.tallies.filter (fun x => x.stream != st) }

/-- The streams of a pipeline. -/
def pipeStreams (p : Nat) : List Nat := (List.range 4).map (fun o => 4 * p + o) ++ [0xA0 + p]

/-- The queues of pipeline `p` follow its active set while its stream is started. -/
def openStreams (s : State) (p : Nat) : State :=
  (pipeDemand (actCfg s) p).cells.foldl (fun s x => openStream s x.1 x.2) s

/-! ### Frame stores -/

def storeOf (s : State) (st : Nat) : FsStore := kgetD {} st s.fstore
def setStore (s : State) (st : Nat) (x : FsStore) : State := { s with fstore := kput st x s.fstore }

/-- The buffers of stream `st` that canvases hold: views of canvas frames that have not been delivered. -/
def heldBufs (s : State) (st : Nat) : List Nat :=
  s.canvas.flatMap (fun c => c.2.frames.flatMap (fun f =>
    f.latch.filterMap (fun v => if v.2.stream = st then some v.2.buf else none)))

/-- FS_STATE.HELD. -/
def updHeld (s : State) (st : Nat) : State :=
  let l := heldBufs s st
  s.setF (fOUT_FS_STATE_HELD (st / 4) (st % 4)) (maskOf 6 (fun b => l.contains b))

/-- NEWEST_GOOD becomes none. -/
def storeForget (s : State) (st : Nat) (blocked : Bool) : State :=
  let s := setStore s st { newest := none, used := [], blocked := blocked }
  s.setF (fOUT_FS_STATE_NEWEST_GOOD (st / 4) (st % 4)) 7

/-- The layout of a frame store. -/
def storeLayout (rd : Cfg) (p o : Nat) : List Nat :=
  [outFormat rd p o, rd (rOUT_SIZE p o), rd (rOUT_STRIDE0 p o), rd (rOUT_STRIDE1 p o), fsBase rd p o,
   rd (rOUT_FS_CFG p o)]

/-- A swap that changes the layout of a store forgets its newest buffer. -/
def storeSwap (s : State) (p : Nat) (old new : Cfg) : State :=
  (List.range 4).foldl (fun s o =>
    if storeLayout old p o = storeLayout new p o then s
    else storeForget s (4 * p + o) (!(heldBufs s (4 * p + o)).isEmpty)) s

/-! ### Decimation and black level at a swap (R207, R227) -/

/-- The outputs whose rate decimation starts again with the swap's frame; 4 stands for the statistics. -/
def decimChanged (p : Nat) (old new : Cfg) : List Nat :=
  (List.range 4).filter (fun o => old (rOUT_DECIM p o) != new (rOUT_DECIM p o))
    ++ (if old.f (fSTATS_CTRL_N_M1 p) = new.f (fSTATS_CTRL_N_M1 p) then [] else [4])

/-- The tracked levels at a stream start or a change of BL_CFG.SRC or BL_BASE. -/
def baseLevels (rd : Cfg) (p : Nat) : List Int :=
  (List.range 8).map (fun c => Int.ofNat (if c < 6 then rd.f (fFE_BL_BASE_LEVEL p c) * 256 else 0))

def levelsChanged (p : Nat) (old new : Cfg) : Bool :=
  old.f (fFE_BL_CFG_SRC p) != new.f (fFE_BL_CFG_SRC p) || baseLevels old p != baseLevels new p

/-- What a swap changes in a pipeline; queues and freshness only while its stream is started. -/
def pipeSwap (s : State) (p : Nat) (old new : Cfg) : State :=
  let s := updPipe s p (fun x => { x with
    track := if levelsChanged p old new then baseLevels new p else x.track,
    force := x.force ++ (decimChanged p old new).filter (fun o => !x.force.contains o) })
  let s := flickSwap (storeSwap s p old new) p old new
  if s.started.contains p then freshSwap (openStreams s p) p old else s

end Sys2Proof.Machine
end

