-- ==== Sys2Proof/Machine/Fabric.lean ====
section
/-!
DEFINITION. The commands of the fabric (spec/18_troreind_fabric.md).
-/

namespace Sys2Proof.Machine

/-- The fabric acts while its domain is ON. -/
def onFabric (s t : State) : Out := .next (hub s (if domOn s 12 then t else s))

/-! ### Configuration (R432, R433, R460) -/

/-- A write of CFG. -/
def fabricEnable (s : State) (v : Word) : State :=
  let n := v.toNat
  let en := bitAt n 2
  let differs := bitsOf n 0 2 != s.fv fFABRIC_CFG_LAYOUT || bitsOf n 3 2 != bitsOf (s.rn rFABRIC_CFG) 3 2
    || bitsOf n 8 15 != bitsOf (s.rn rFABRIC_CFG) 8 15
  if bitsOf n 0 2 = 3 || 64 < bitsOf n 16 7 then s.ev fFABRIC_EVENT_CFG_INVALID
  else if s.on fFABRIC_CFG_EN then
    let s := s.evIf differs fFABRIC_EVENT_CFG_IGNORED
    if en then s else fabOff (s.setF fFABRIC_CFG_EN 0)
  else
    let s := plainWrite s rFABRIC_CFG v
    if en then fabOn s else s

def execFabricEnable (v : Word) (s : State) : Out := onFabric s (fabricEnable s v)

/-! ### Training (R433, R434) -/

def portTrained (s : State) (k : Nat) : State :=
  let l := healthyGroup s k
  if portSt s k != 1 || l.isEmpty then s
  else
    let s := enterPort (s.setF (fFABRIC_PORT_STATUS_WIDTH k) l.length) k 2
    let s := s.setRn (rFABRIC_PORT_AUTH k) 0
    let s := updFabPort s k (fun x => { x with lanes := l, helloAt := s.now, authSent := 1 })
    portSend (fabState s) k (.auth 1)

def execPortTrained (k : Nat) (s : State) : Out := onFabric s (portTrained s (k % 4))

def trainingTimeout (s : State) (k : Nat) : State :=
  if portSt s k = 1 && (fabPort s k).since + 50000000 ≤ s.now then fabDown s k else s
def execPortTrainingTimeout (k : Nat) (s : State) : Out := onFabric s (trainingTimeout s (k % 4))

/-- A lane in use has been unlocked for more than 1 ms. -/
def portRetrain (s : State) (k : Nat) : State :=
  if portUp s k && (fabPort s k).lanes.any (fun m => match (laneOf s m).unlockedAt with
      | some t => decide (t + 1000000 < s.now)
      | none => false) then fabDown s k
  else s
def execPortRetrain (k : Nat) (s : State) : Out := onFabric s (portRetrain s (k % 4))

/-! ### Authentication (R444) -/

/-- A failed authentication: the port is HELD. -/
def authFail (s : State) (k reason : Nat) : State :=
  let s := (s.setF (fFABRIC_PORT_AUTH_RESULT k) 2).setF (fFABRIC_PORT_AUTH_REASON k) reason
  let s := enterPort (updFabPort s k (fun x => { x with hello := none, waiting := [], store := [] })) k 4
  fabState (electRoot (fabReport (s.ev fFABRIC_EVENT_AUTH_FAIL) k 0x0003))

/-- The port is UP when both sides have passed step 4. -/
def tryUp (s : State) (k : Nat) : State :=
  let x := fabPort s k
  if portSt s k = 2 && x.authStep = 4 && x.hello.any (fun h => decide (4 ≤ h.step)) then
    let s := enterPort ((s.setF (fFABRIC_PORT_AUTH_RESULT k) 1).setF (fFABRIC_PORT_AUTH_REASON k) 0) k 3
    launchHeld (pumpPort (fillRoutes (s.ev fFABRIC_EVENT_PORT_UP)) k)
  else s

/-- The serial is in ALLOW; an entry of zeros is empty. -/
def allowed (s : State) (serial : Nat) : Bool :=
  serial != 0 && (List.range 16).any (fun i => s.pair (rFABRIC_ALLOW_LO i) (rFABRIC_ALLOW_HI i) == serial)

/-- The step of a message and why it fails, 0 where it passes. -/
def authCheck (s : State) (k : Nat) : AuthMsg → Nat × Nat
  | .start v _ => (1, if v = 1 then 0 else 5)
  | .cert ok serial => (2, if ok && serial == (fabPort s k).peer then 0 else 1)
  | .key ok => (3, if !ok then 3 else if s.on fFABRIC_CFG_AUTH_MODE && !allowed s (fabPort s k).peer then 2 else 0)
  | .fin ok => (4, if ok then 0 else 5)

def authMessage (s : State) (k : Nat) (m : AuthMsg) : State :=
  if portSt s k != 2 then s
  else
    let (step, reason) := authCheck s k m
    if step ≠ (fabPort s k).authStep + 1 then authFail s k 5
    else if reason ≠ 0 then authFail s k reason
    else
      let s := updFabPort s k (fun x => { x with
        authStep := step, authSent := min 4 (step + 1),
        peer := (match m with
          | .start _ n => n
          | _ => x.peer) })
      let s := if step < 4 then portSend s k (.auth (step + 1)) else s
      tryUp s k

def execAuthMessage (k : Nat) (m : AuthMsg) (s : State) : Out := onFabric s (authMessage s (k % 4) m)

def authTimeout (s : State) (k : Nat) : State :=
  if portSt s k = 2 && (fabPort s k).since + 100000000 < s.now then authFail s k 4 else s
def execAuthTimeout (k : Nat) (s : State) : Out := onFabric s (authTimeout s (k % 4))

def heldExpiry (s : State) (k : Nat) : State :=
  if portSt s k = 4 && (fabPort s k).since + 1000000000 ≤ s.now then fabDown s k else s
def execHeldExpiry (k : Nat) (s : State) : Out := onFabric s (heldExpiry s (k % 4))

/-! ### HELLO (R443, R445, R446) -/

/-- The HELLO that leaves by port `k`. -/
def helloOf (s : State) (k : Nat) : Hello :=
  let b := bestKey s
  { serial := serialOf s, prio := s.fv fFABRIC_CFG_PRIORITY, id := fabId s, rootPrio := b.1, rootSerial := b.2,
    rootHops := rootHops s, step := (fabPort s k).authStep,
    hops := (List.range 64).map (fun d =>
      if fabId s = some d then 0
      else match routePort s d with
        | some j => if j = k then 255 else routeHops s d
        | none => 255) }

def helloSend (s : State) (k : Nat) : State :=
  if portTalks s k && (match (fabPort s k).sentAt with
      | some t => decide (t + 1000000 ≤ s.now)
      | none => true) then
    portSend (updFabPort s k (fun x => { x with sentAt := some s.now })) k (.hello (helloOf s k))
  else s
def execHelloSend (k : Nat) (s : State) : Out := onFabric s (helloSend s (k % 4))

/-- ID_CLAIM leaves on every UP port. -/
def claimId (s : State) : State :=
  let n := s.fabric.seqNo
  let s := { s with fabric := { s.fabric with seqNo := n + 1, seen := (2 * serialOf s, n) :: s.fabric.seen } }
  sendUp s (.claim (serialOf s) n (s.fv fFABRIC_CFG_ID_REQ)) 4

/-- The device takes fabric ID `d`, or refuses it under ID_STRICT (R446). -/
def takeId (s : State) (d : Nat) : State :=
  if s.on fFABRIC_CFG_ID_STRICT && s.fv fFABRIC_CFG_ID_REQ != d then
    fabReport (s.ev fFABRIC_EVENT_ID_CHANGED) d 0x0008
  else
    let s := (s.setF fFABRIC_STATUS_ID d).setF fFABRIC_STATUS_ID_VALID 1
    launchHeld (fabState (fillRoutes (electRoot s)))

/-- Another device holds this ID and has the better key: the ID is lost and claimed again. -/
def idConflict (s : State) (h : Hello) : State :=
  match fabId s with
  | some d =>
    if h.id = some d && h.serial ≠ serialOf s && keyBetter (h.prio, h.serial) (ownKey s) then
      let s := (s.setF fFABRIC_STATUS_ID_VALID 0).setF fFABRIC_STATUS_ID 0
      let s := fabReport (s.ev fFABRIC_EVENT_ID_CHANGED) d 0x0008
      if s.fabric.stable then claimId s else s
    else s
  | none => s

def helloReceived (s : State) (k : Nat) (h : Hello) : State :=
  if !portTalks s k then s
  else
    let s := updFabPort s k (fun x => { x with hello := some h, helloAt := s.now })
    let s := s.setPair (rFABRIC_PORT_NB_SERIAL_LO k) (rFABRIC_PORT_NB_SERIAL_HI k) h.serial
    let s := (s.setF (fFABRIC_PORT_STATUS_NB_ID k) (h.id.getD 0)).setF (fFABRIC_PORT_STATUS_NB_ID_VALID k) (b2n h.id.isSome)
    let s := tryUp (electRoot (idConflict s h)) k
    launchHeld (fabState (fillRoutes s))
def execHelloReceived (k : Nat) (h : Hello) (s : State) : Out := onFabric s (helloReceived s (k % 4) h)

def helloTimeout (s : State) (k : Nat) : State :=
  if portTalks s k && (fabPort s k).helloAt + 3000000 ≤ s.now then fabDown (fabReport s k 0x0002) k else s
def execHelloTimeout (k : Nat) (s : State) : Out := onFabric s (helloTimeout s (k % 4))

/-! ### IDs (R445, R446) -/

/-- The IDs that the root knows to be held, by another device than `serial`. -/
def idHeld (s : State) (serial d : Nat) : Bool :=
  (match kget d s.fabric.granted with
    | some x => x != serial
    | none => false)
    || (fabId s == some d && serial != serialOf s)
    || ((kget d s.fabric.granted).isNone && (routePort s d).isSome)

/-- The ID that the root grants for a request. -/
def grantFor (s : State) (serial req : Nat) : Option Nat :=
  if req < 64 && !idHeld s serial req then some req else (List.range 64).find? (fun d => !idHeld s serial d)

/-- The root grants an ID to `serial`. -/
def grantId (s : State) (serial req : Nat) : State :=
  match grantFor s serial req with
  | none => s
  | some d =>
    let held := s.fabric.granted.filter (fun x => x.2 != serial)
    let s := { s with fabric := { s.fabric with granted := kput d serial held } }
    if serial = serialOf s then takeId s d
    else
      let n := s.fabric.seqNo
      let s := { s with fabric := { s.fabric with seqNo := n + 1, seen := (2 * serialOf s + 1, n) :: s.fabric.seen } }
      sendUp s (.grant (serialOf s) n serial d) 4

/-- The best root key has not changed for 10 ms. -/
def rootStable (s : State) : State :=
  if !s.on fFABRIC_CFG_EN || s.fabric.stable || s.now < s.fabric.rootAt + 10000000 then s
  else
    let s := { s with fabric := { s.fabric with stable := true } }
    let own := decide (bestKey s = ownKey s)
    let s := s.setF fFABRIC_STATUS_IS_ROOT (b2n own)
    let s := if own && s.fv fREGU_CTRL_SRC = 1 then s.setF fREGU_STATUS_STATE 2 else s
    let s := if s.on fFABRIC_STATUS_ID_VALID then s
      else if own then grantId s (serialOf s) (s.fv fFABRIC_CFG_ID_REQ) else claimId s
    fabState (fabStatus s)
def execRootStable (s : State) : Out := onFabric s (rootStable s)

def idClaim (s : State) (k serial seq req : Nat) : State :=
  if !portUp s k || s.fabric.seen.contains (2 * serial, seq) then s
  else
    let s := { s with fabric := { s.fabric with seen := (2 * serial, seq) :: s.fabric.seen } }
    if s.on fFABRIC_STATUS_IS_ROOT then grantId s serial req else sendUp s (.claim serial seq req) k
def execIdClaim (k serial seq req : Nat) (s : State) : Out := onFabric s (idClaim s (k % 4) serial seq req)

def idGrant (s : State) (k root seq serial d : Nat) : State :=
  if !portUp s k || s.fabric.seen.contains (2 * root + 1, seq) then s
  else
    let s := { s with fabric := { s.fabric with seen := (2 * root + 1, seq) :: s.fabric.seen } }
    if serial = serialOf s then (if s.on fFABRIC_STATUS_ID_VALID then s else takeId s (d % 64))
    else sendUp s (.grant root seq serial d) k
def execIdGrant (k root seq serial id : Nat) (s : State) : Out := onFabric s (idGrant s (k % 4) root seq serial id)

/-! ### Flits (R435, R436) -/

/-- The receiver discards a flit and every later one, and asks once for the one that it expects. -/
def flitBad (s : State) (k : Nat) : State :=
  let x := fabPort s k
  if x.gap then s else portCtl (setFabPort s k { x with gap := true }) k (.nak x.expect)

def flitReceived (s : State) (k : Nat) (ok : Bool) (kind fseq unknown : Nat) : State :=
  if !portTalks s k then s
  else if !ok then flitBad (s.bump fFABRIC_CNT_A_FEC_UNCORR) k
  else if kind ≠ 0 then s
  else
    let x := fabPort s k
    if fseq ≠ x.expect then flitBad s k
    else
      let x := { x with
        expect := (x.expect + 1) % 4096, gap := false, dataAt := s.now, unacked := x.unacked + 1,
        unackedAt := if x.unacked = 0 then s.now else x.unackedAt }
      (setFabPort s k x).bumpBy fFABRIC_CNT_B_DENIED unknown
def execFlitReceived (k : Nat) (ok : Bool) (kind fseq unknown : Nat) (s : State) : Out :=
  onFabric s (flitReceived s (k % 4) ok kind fseq unknown)

/-- After 16 data flits, or 1 µs. -/
def ackSend (s : State) (k : Nat) : State :=
  let x := fabPort s k
  if portTalks s k && 0 < x.unacked && (16 ≤ x.unacked || x.unackedAt + 1000 ≤ s.now) then
    portCtl (setFabPort s k { x with unacked := 0 }) k (.ack ((x.expect + 4095) % 4096))
  else s
def execAckSend (k : Nat) (s : State) : Out := onFabric s (ackSend s (k % 4))

def ackReceived (s : State) (k fseq : Nat) : State :=
  let x := fabPort s k
  if x.store.any (fun f => f.1 == fseq) then
    let rest := (x.store.dropWhile (fun f => f.1 != fseq)).drop 1
    pumpPort (setFabPort s k { x with store := rest, naks := 0, ackAt := s.now }) k
  else s
def execAckReceived (k fseq : Nat) (s : State) : Out := onFabric s (ackReceived s (k % 4) fseq)

/-- The retry limit is reached. -/
def retryLimit (s : State) (k : Nat) : State := fabDown (fabReport s k 0x0004) k

def nakReceived (s : State) (k fseq : Nat) : State :=
  let x := fabPort s k
  if x.store.any (fun f => f.1 == fseq) then
    if 8 ≤ x.naks + 1 then retryLimit s k
    else
      let s := setFabPort s k { x with naks := x.naks + 1, replayed := true, dataAt := s.now }
      let s := (s.bump (fFABRIC_PORT_CNT_REPLAYS k)).bump fFABRIC_CNT_A_REPLAYS
      (x.store.dropWhile (fun f => f.1 != fseq)).foldl (fun s f => portCtl s k f.2) s
  else s
def execNakReceived (k fseq : Nat) (s : State) : Out := onFabric s (nakReceived s (k % 4) fseq)

def ackTimeout (s : State) (k : Nat) : State :=
  let x := fabPort s k
  if portTalks s k && !x.store.isEmpty && x.ackAt + 1000000 ≤ s.now then retryLimit s k else s
def execAckTimeout (k : Nat) (s : State) : Out := onFabric s (ackTimeout s (k % 4))

/-! ### Packets (R437 to R439, R449, R450) -/

/-- A packet for another device (R449). -/
def packetForward (s : State) (k : Nat) (p : FabPacket) : State :=
  if !portUp s k || fabId s = some p.dst then s
  else
    let ask := p.typ = 1 || p.typ = 2
    if p.hops = 0 then
      let s := fabReport s p.dst 0x0007
      if ask then fabAnswer s p 5 [] false else s
    else match routePort s p.dst with
      | some j => portSend s j (.packet { p with hops := p.hops - 1 })
      | none =>
        let s := fabReport (s.ev fFABRIC_EVENT_UNREACHABLE) p.dst 0x0006
        if ask then fabAnswer s p 3 [] false else s
def execFabricPacketForward (k : Nat) (p : FabPacket) (s : State) : Out := onFabric s (packetForward s (k % 4) p)

def winBase (s : State) (w : Nat) : Nat := s.pair (rFABRIC_IN_WIN_BASE_LO w) (rFABRIC_IN_WIN_BASE_HI w)
def winLimit (s : State) (w : Nat) : Nat := s.pair (rFABRIC_IN_WIN_LIMIT_LO w) (rFABRIC_IN_WIN_LIMIT_HI w)
def winTarget (s : State) (w : Nat) : Nat := s.pair (rFABRIC_IN_WIN_TARGET_LO w) (rFABRIC_IN_WIN_TARGET_HI w)
def winEn (s : State) (w : Nat) : Bool := s.on (fFABRIC_IN_WIN_CTRL_EN w)

/-- The enabled window that holds every byte of a request. -/
def winFor (s : State) (addr len : Nat) : Option Nat :=
  (List.range 64).find? (fun w => winEn s w && decide (winBase s w ≤ addr) && decide (addr + len ≤ winLimit s w + 1))

/-- INFLIGHT and IDLE of a window. -/
def winCount (s : State) (w : Nat) : State :=
  let n := (s.fabric.inbound.filter (fun x => x.2.1 == w)).length
  (s.setF (fFABRIC_IN_WIN_STATUS_INFLIGHT w) n).setF (fFABRIC_IN_WIN_STATUS_IDLE w) (b2n (n == 0))

/-- A write whose last byte is the last byte of a doorbell window. -/
def doorbellHit (s : State) (w : Nat) (p : FabPacket) : State :=
  if s.on (fFABRIC_IN_WIN_CTRL_DOORBELL w) && p.addr + p.len == winLimit s w + 1 then
    (s.setF ⟨rFABRIC_WIN_EVENT (w / 32), w % 32, 1⟩ 1).ev fFABRIC_EVENT_DOORBELL
  else s

/-- The request is served through window `w` (R450). -/
def serveReq (s : State) (w : Nat) (p : FabPacket) (targetError : Bool) : State :=
  let write := p.typ = 1
  let a := winTarget s w + (p.addr - winBase s w)
  if s.fv (fFABRIC_IN_WIN_CTRL_SPACE w) = 0 then
    if 2 ^ 34 < a + p.len then fabAnswer s p 4 [] false
    else if !lpRange s a p.len then fabAnswer s p 6 [] false
    else if targetError then fabAnswer s p 4 [] false
    else if write then fabAnswer (doorbellHit (memWrite s a (p.data.take p.len) p.poison) w p) p 0 [] false
    else fabAnswer s p 0 (memRead s a p.len) (memBad s a p.len)
  else if !domOn s 13 then fabAnswer s p 6 [] false
  else if !hostUp s then fabAnswer s p 4 [] false
  else if write then fabAnswer (doorbellHit (hostData s a (p.data.take p.len) p.poison) w p) p 0 [] false
  else
    let key := s.pcie.nextTag
    let (_, s) := issueRead s (.fabric key) a p.len
    winCount { s with fabric := { s.fabric with inbound := kput key (w, p) s.fabric.inbound } } w

def requestReceived (s : State) (k : Nat) (p : FabPacket) (targetError : Bool) : State :=
  if !portUp s k || fabId s != some p.dst || (p.typ != 1 && p.typ != 2) then s
  else match winFor s p.addr p.len with
    | none => fabAnswer (s.bump fFABRIC_CNT_B_NO_WINDOW) p 1 [] false
    | some w =>
      let src := if p.src < 32 then bitAt (s.rn (rFABRIC_IN_WIN_SRC_LO w)) p.src
        else bitAt (s.rn (rFABRIC_IN_WIN_SRC_HI w)) (p.src - 32)
      let dir := s.on (if p.typ = 1 then fFABRIC_IN_WIN_CTRL_WRITE_OK w else fFABRIC_IN_WIN_CTRL_READ_OK w)
      if src && dir then serveReq s w p targetError else fabAnswer (s.bump fFABRIC_CNT_B_DENIED) p 2 [] false
def execFabricRequestReceived (k : Nat) (p : FabPacket) (targetError : Bool) (s : State) : Out :=
  onFabric s (requestReceived s (k % 4) p targetError)

/-- The host has answered an inbound read, or it has failed. -/
def inboundDone (s : State) (key : Nat) (bytes : Option (List Byte)) (poison : Bool) : State :=
  match kget key s.fabric.inbound with
  | some (w, p) =>
    let s := winCount { s with fabric := { s.fabric with inbound := kdel key s.fabric.inbound } } w
    match bytes with
    | some bs => fabAnswer s p 0 bs poison
    | none => fabAnswer s p 4 [] false
  | none => s

def responseReceived (s : State) (k : Nat) (p : FabPacket) : State :=
  if !portUp s k || fabId s != some p.dst || (p.typ != 8 && p.typ != 9) then s
  else match kget p.tag s.fabric.reqs with
    | some r =>
      if r.pkt.dst = p.src && (p.typ == 9) == (r.pkt.typ == 1) then endReq s p.tag p.status p.data p.poison
      else fabReport s p.src 0x000C
    | none => fabReport s p.src 0x000C
def execFabricResponseReceived (k : Nat) (p : FabPacket) (s : State) : Out := onFabric s (responseReceived s (k % 4) p)

def requestTimeout (s : State) (tag : Nat) : State :=
  match kget tag s.fabric.reqs with
  | some r =>
    if r.sentAt + s.fv fFABRIC_TIMING_TIMEOUT_US * 1000 ≤ s.now then
      endReq (fabReport ((s.bump fFABRIC_CNT_C_TIMEOUT).ev fFABRIC_EVENT_TIMEOUT) r.pkt.dst 0x000C) tag 256 [] false
    else s
  | none => s
def execFabricRequestTimeout (tag : Nat) (s : State) : Out := onFabric s (requestTimeout s tag)

/-! ### Inbound windows (R451, R452) -/

/-- A window that may not be enabled as it stands, with SPACE `space`. -/
def winRefused (s : State) (w space : Nat) : Bool :=
  let b := winBase s w
  let l := winLimit s w
  decide (l < b)
    || (List.range 64).any (fun v => v != w && winEn s v && decide (winBase s v ≤ l) && decide (b ≤ winLimit s v))
    || (space == 0 && !lpRange s (winTarget s w) (l - b + 1))

/-- A write that EN at 1 forbids. -/
def winIgnored (s : State) (w : Nat) : State := fabReport (s.ev fFABRIC_EVENT_WIN_IGNORED) w 0x000A

def inWinCtrl (s : State) (w : Nat) (v : Word) : State :=
  let n := v.toNat
  let en := bitAt n 0
  if 2 ≤ bitsOf n 1 2 then s.ev fFABRIC_EVENT_CFG_INVALID
  else if winEn s w then
    let s := if bitsOf n 1 5 != bitsOf (s.rn (rFABRIC_IN_WIN_CTRL w)) 1 5 then winIgnored s w else s
    if en then s else s.setF (fFABRIC_IN_WIN_CTRL_EN w) 0
  else if en && winRefused s w (bitsOf n 1 2) then s.ev fFABRIC_EVENT_CFG_INVALID
  else plainWrite s (rFABRIC_IN_WIN_CTRL w) v
def execInWinCtrlWrite (w : Nat) (v : Word) (s : State) : Out := onFabric s (inWinCtrl s (w % 64) v)

/-! ### Peer streams (R453, R454) -/

def peerOf (s : State) (st : Nat) : Peer := kgetD {} st s.fabric.peer
def setPeer (s : State) (st : Nat) (x : Peer) : State :=
  { s with fabric := { s.fabric with peer := kputD {} st x s.fabric.peer } }

/-- The fields of a control block keep to R453. -/
def blockOk (b : List Byte) : Bool :=
  b.length == 64 && leAt b 0 8 % 4096 == 0 && leAt b 8 8 % 4096 == 0 && decide (4 ≤ leAt b 16 1)
    && decide (leAt b 16 1 ≤ 12) && leAt b 17 1 == 0 && leAt b 0x20 32 == 0

/-- Descriptors are outstanding. -/
def Peer.waiting (x : Peer) : Nat := (x.tail + 2 ^ 16 - x.head) % 2 ^ 16

/-- A stream of a started pipeline, or of an enabled canvas, that goes to a peer. -/
def peerStream (s : State) (st : Nat) : Bool :=
  streamRuns s st && (if st < 128 then s.aon (fOUT_CTRL_EN (st / 4) (st % 4)) && s.av (fOUT_CTRL_DEST (st / 4) (st % 4)) == 2
    else decide (st < 132) && s.av (fCV_CFG_DEST (st - 128)) == 1)

/-- The first read takes the whole block, and later ones take TAIL. -/
def peerBlock (s : State) (st : Nat) (b : List Byte) : State :=
  let x := peerOf s st
  if !blockOk b then fabReport ((setPeer s st { polledAt := s.now }).ev fFABRIC_EVENT_PEER_BLOCK_BAD) st 0x000B
  else if x.valid then setPeer s st { x with tail := leAt b 0x12 2, polledAt := s.now }
  else
    setPeer s st {
      valid := true, descBase := leAt b 0 8, cplBase := leAt b 8 8, size := 2 ^ leAt b 16 1, tail := leAt b 0x12 2,
      head := leAt b 0x14 2, cplTail := leAt b 0x16 2, notify := leAt b 0x18 8, polledAt := s.now }

def peerPoll (s : State) (st : Nat) (block desc : HostData) : State :=
  let x := peerOf s st
  if !peerStream s st || (x.valid && x.waiting = 0 && s.now < x.polledAt + 100000) then s
  else
    let s := match block with
      | .data b => peerBlock s st b
      | _ => setPeer s st { x with polledAt := s.now }
    let x := peerOf s st
    match desc with
    | .data d => if x.valid && 0 < x.waiting && x.desc.isNone then setPeer s st { x with desc := some (padTo 32 d) } else s
    | _ => s
def execPeerTailPoll (stream : Nat) (block desc : HostData) (s : State) : Out :=
  onFabric s (peerPoll s (stream % 132) block desc)

/-! ### Time (R455, R456) -/

def parentPort (s : State) : Option Nat := ports4.find? (fun k => s.on (fFABRIC_PORT_STATUS_PARENT k))

def timeExchange (s : State) : State :=
  match parentPort s with
  | some k =>
    if portUp s k && s.fabric.syncAt + s.fv fFABRIC_TIMING_SYNC_PERIOD_US * 1000 ≤ s.now then
      let s := updFabPort s k (fun x => { x with replayed := false })
      portSend { s with fabric := { s.fabric with t1 := some s.dial, syncAt := s.now } } k .timeReq
    else s
  | none => s
def execTimeSyncExchange (s : State) : Out := onFabric s (timeExchange s)

/-- The VALID flag that this device gives as a parent. -/
def timeValid (s : State) : Bool :=
  s.fv fREGU_CTRL_SRC == 1
    && (s.on fFABRIC_STATUS_IS_ROOT || s.fv fREGU_STATUS_STATE == 2 || s.fv fREGU_STATUS_STATE == 3)

def timeReq (s : State) (k turn : Nat) : State :=
  if portUp s k then
    let est := if s.on fFABRIC_STATUS_IS_ROOT then 0 else signedOf 32 (s.rn rREGU_FOLLOW_OFFSET)
    portSend s k (.timeRsp s.dial (s.dial + turn) est (timeValid s))
  else s
def execTimeReq (k turn : Nat) (s : State) : Out := onFabric s (timeReq s (k % 4) turn)

/-- The estimate of R456; the manual does not say how a fraction of a nanosecond is rounded. -/
def timeRsp (s : State) (k t2 t3 : Nat) (est : Int) (valid : Bool) : State :=
  match s.fabric.t1 with
  | none => s
  | some t1 =>
    if parentPort s != some k then s
    else
      let s := { s with fabric := { s.fabric with t1 := none } }
      let i (n : Nat) : Int := Int.ofNat n
      let t4 := s.dial
      let rtt := (i t4 - i t1) - (i t3 - i t2)
      if !valid || rtt < 0 || 2000 < rtt || (fabPort s k).replayed then s
      else
        let n := ((i t2 - i t1) - (i t4 - i t3)) * 1000 - signedOf 16 (s.fv (fFABRIC_PORT_ASYM_PS k))
        let (up, s) := if n % 2000 = 0 then (0, s) else
          let (v, s) := takeFree s
          (v % 2, s)
        timeEstimate s (n / 2000 + i up + est)
def execTimeRsp (k t2 t3 : Nat) (est : Int) (valid : Bool) (s : State) : Out :=
  onFabric s (timeRsp s (k % 4) t2 t3 est valid)

/-! ### Sleep (R457) -/

/-- A started peer stream is routed by port `k`. -/
def peerUses (s : State) (k : Nat) : Bool :=
  (List.range 132).any (fun st => peerStream s st
    && routePort s (if st < 128 then s.av (fOUT_PEER_DEV (st / 4) (st % 4)) else s.av (fCV_PEER_DEV (st - 128))) == some k)

/-- The transmit or receive lanes of a port are asked for a state. -/
def portLanesReq (s : State) (k st : Nat) (tx : Bool) : State :=
  (fabPort s k).lanes.foldl (fun s m => updLane s m (fun x => if tx then { x with reqTx := st } else { x with reqRx := st })) s

def idleSleep (s : State) (k : Nat) : State :=
  let x := fabPort s k
  let idle := s.fv (fFABRIC_PORT_CTRL_IDLE_US k) * 1000
  let st := if s.on (fFABRIC_PORT_CTRL_DEEP_EN k) && x.dataAt + 100 * idle ≤ s.now && !peerUses s k then 3
    else if s.on (fFABRIC_PORT_CTRL_SLEEP_EN k) && x.dataAt + idle ≤ s.now then 2 else 0
  if portUp s k && x.waiting.isEmpty && x.asleep < st then
    portLanesReq (portCtl (setFabPort s k { x with asleep := st }) k (.sleep st)) k st true
  else s
def execPortIdleSleep (k : Nat) (s : State) : Out := onFabric s (idleSleep s (k % 4))

def sleepNotice (s : State) (k st : Nat) : State :=
  if portUp s k && (st = 2 || st = 3) then portLanesReq s k st false else s
def execSleepNotice (k state : Nat) (s : State) : Out := onFabric s (sleepNotice s (k % 4) state)

def portWake (s : State) (k : Nat) : State :=
  let x := fabPort s k
  if x.asleep ≠ 0 && !x.waiting.isEmpty then
    pumpPort (portLanesReq (portCtl (setFabPort s k { x with asleep := 0 }) k .wake) k 0 true) k
  else s
def execPortWake (k : Nat) (s : State) : Out := onFabric s (portWake s (k % 4))

end Sys2Proof.Machine
end

