-- ==== Sys2Proof/Machine/HoistOps.lean ====
section
/-!
DEFINITION. The Hoist's shared operations (spec/14_hoist.md R320 to R338): address spaces, halts, tags, and reads and
writes of the spaces.
-/

namespace Sys2Proof.Machine

def hchan (s : State) (c : Nat) : HChan := kgetD {} c s.hoist.chan
def setHchan (s : State) (c : Nat) (x : HChan) : State :=
  { s with hoist := { s.hoist with chan := kputD {} c x s.hoist.chan } }
def updHchan (s : State) (c : Nat) (g : HChan → HChan) : State := setHchan s c (g (hchan s c))

/-- STATUS.STATE: 0 IDLE, 1 RUNNING, 2 WAITING, 3 HELD, 4 DONE, 5 HALTED. -/
def hState (s : State) (c : Nat) : Nat := s.fv (fHOIST_STATUS_STATE c)
def setHState (s : State) (c st : Nat) : State := s.setF (fHOIST_STATUS_STATE c) st
def hPc (s : State) (c : Nat) : Nat := s.fv (fHOIST_STATUS_PC c)
/-- The next instruction; execution wraps after INSTR[47] (R323). -/
def hNext (s : State) (c : Nat) : State := s.setF (fHOIST_STATUS_PC c) ((hPc s c + 1) % 48)
/-- The channel runs, waits or is held. -/
def hActive (s : State) (c : Nat) : Bool := decide (1 ≤ hState s c) && decide (hState s c ≤ 3)
/-- Xi. -/
def hX (s : State) (c i : Nat) : Nat := s.pair (rHOIST_X c (2 * i)) (rHOIST_X c (2 * i + 1))
def setHX (s : State) (c i v : Nat) : State := s.setPair (rHOIST_X c (2 * i)) (rHOIST_X c (2 * i + 1)) v

/-! ### Streams that stop by themselves (R339, R362) -/

/-- The pipeline or canvas of a stream, as STREAM_STOPPED names it. -/
def stopTarget (st : Nat) : Nat := if st < 128 then st / 4 else if st < 0xA0 then st else st - 0xA0

/-- The device will stop what stream `st` belongs to, because of fault code `code`. -/
def stopLater (s : State) (st code : Nat) : State :=
  let t := stopTarget st
  let s := if t < 32 then updPipe s t (fun x => { x with refuse := true }) else s
  { s with stops := s.stops ++ [(t, code)] }

/-! ### Tags (R333) -/

/-- TAGS and INFLIGHT of channel `c`. -/
def countTags (s : State) (c : Nat) : State :=
  let s := s.setF (fHOIST_STATUS_INFLIGHT c) (satTo 4096 (hchan s c).ops.length)
  let n := satTo 4096 (sumList (s.hoist.chan.map (fun x => x.2.ops.length)))
  let s := s.setF fHOISTG_TAGS_IN_USE n
  if s.fv fHOISTG_TAGS_PEAK < n then s.setF fHOISTG_TAGS_PEAK n else s

/-- Channel `c` may take a tag. -/
def tagFree (s : State) (c : Nat) : Bool :=
  let n := s.fv fHOISTG_TAGS_IN_USE
  if c < 192 then decide (n < 4096) else decide (1024 < 4096 - n)

/-- An operation is in flight. -/
def addOp (s : State) (c : Nat) (o : HoistOp) : State :=
  let s := updHchan s c (fun x => { x with ops := x.ops ++ [{ o with tag := s.hoist.nextTag, since := s.now }] })
  countTags { s with hoist := { s.hoist with nextTag := s.hoist.nextTag + 1 } } c

/-- The channel and the operation of a tag. -/
def opOf (s : State) (tag : Nat) : Option (Nat × HoistOp) :=
  s.hoist.chan.findSome? (fun x => (x.2.ops.find? (fun o => o.tag == tag)).map (fun o => (x.1, o)))
def retryOf (s : State) (tag : Nat) : Option (Nat × HoistOp) :=
  s.hoist.chan.findSome? (fun x => (x.2.retry.find? (fun o => o.tag == tag)).map (fun o => (x.1, o)))

/-- The tag of an operation is free again, and what the endpoint or the fabric holds of it is taken. -/
def freeOp (s : State) (c : Nat) (o : HoistOp) : State :=
  let s := if o.space = 0 then dropRead s o.ext else if o.space = 3 then takeDone s o.ext else s
  countTags (updHchan s c (fun x => { x with ops := x.ops.filter (fun y => y.tag != o.tag) })) c

/-! ### Halts (R339) -/

/-- HALTED[i]. -/
def setHalted (s : State) (c : Nat) (b : Bool) : State := s.setF ⟨rHOISTG_HALTED (c / 32), c % 32, 1⟩ (b2n b)

/-- Channel `c` halts with `code`; `attempts` beyond the field are not representable, and the manual does not say what
it then holds. A device channel stops its stream. -/
def haltChan (s : State) (c code space addr attempts : Nat) : State :=
  let (a, s) := if attempts < 16 then (attempts, s) else
    let (v, s) := takeFree s
    (v % 16, s)
  let f := faultCode 0x15 c code
  let s := (setHState s c 5).setRn (rHOIST_FAULT c) f
  let s := s.setRn (rHOIST_FAULT_INFO c) (hPc s c + space % 4 * 2 ^ 6 + a * 2 ^ 8)
  let s := s.setPair (rHOIST_FAULT_ADDR_LO c) (rHOIST_FAULT_ADDR_HI c) addr
  let s := setHalted (s.ev (fHOIST_EVENT_HALTED c)) c true
  let s := updHchan s c (fun x => { x with move := none, load := none, retry := [], stopping := false })
  let s := s.report 0x15 c code (if c < 192 && isSafety s c then 3 else 0)
  if c < 192 then stopLater s c f else s

/-! ### The spaces (R321, R337, R338) -/

/-- What an operation on a space meets: nothing, a domain that is powering down, or a halt. -/
inductive SpaceUse where
  | fine
  | hold (d : Nat)
  | halt (code : Nat)
  deriving DecidableEq, Repr

/-- The use of domain `d`: draining, or not ON. -/
def domUse (s : State) (d : Nat) (k : SpaceUse) : SpaceUse :=
  if domOn s d then k else if s.fv (fPWR_DOM_STATE d) = 1 then .hold d else .halt 7

/-- HOST. -/
def hostUse (s : State) : SpaceUse :=
  domUse s 13 (if s.hoist.waitHost || linkPower s == 6 || !s.on fPCIE_LINK_STATUS_DL_ACTIVE then .halt 9
    else if !busMaster s then .halt 4 else .fine)

/-- A stack that is absent is not in service; one that is switched off is a domain that is down. -/
def stackUse (s : State) (m : Nat) (k : SpaceUse) : SpaceUse :=
  if s.fv (fPWR_DOM_STATE (10 + m)) = 5 then .halt 4 else domUse s (10 + m) k

/-- LP5X addresses `a` to `a + n - 1`. -/
def lpUse (s : State) (a n : Nat) : SpaceUse :=
  if 2 ^ 34 < a + n then .halt 4
  else
    let hi := if 2 ^ 33 < a + n then stackUse s 1 .fine else .fine
    if a < 2 ^ 33 then stackUse s 0 hi else hi

/-- Fabric ID `d`. -/
def peerUse (s : State) (d : Nat) : SpaceUse :=
  domUse s 12 (if (fabId s).isNone || !reachable s d then .halt 4 else .fine)

/-- The Larder: the channel's own group as a source, queue `a` as a destination. -/
def larderUse (s : State) (c : Nat) (dst : Bool) (a : Nat) : SpaceUse :=
  if dst then (if a < 192 || 4096 ≤ a || !queueEn s a then .halt 4 else .fine)
  else if c < 192 || s.on (fLARDER_G_CFG_CONSUMER c) then .halt 4 else .fine

def spaceUse (s : State) (c space peer addr len : Nat) (dst : Bool) : SpaceUse :=
  match space with
  | 0 => hostUse s
  | 1 => lpUse s addr len
  | 2 => larderUse s c dst addr
  | _ => peerUse s peer

/-- The domain that an operation uses. -/
def opDomain (o : HoistOp) : Nat :=
  if o.space = 0 then 13 else if o.space = 3 then 12 else 10 + o.addr / 2 ^ 33

/-- No operation to domain `d` is in flight. -/
def opsIdle (s : State) (d : Nat) : Bool :=
  s.hoist.chan.all (fun x => (x.2.ops ++ x.2.retry).all (fun o => opDomain o != d))

/-- Channels that still hold operations to domain `d` halt, and the operations are discarded (R337). -/
def opsForced (s : State) (d : Nat) : State :=
  (s.hoist.chan.filterMap (fun x => if (x.2.ops ++ x.2.retry).any (fun o => opDomain o == d) then some x.1 else none)).foldl
    (fun s c =>
      let gone := (hchan s c).ops.filter (fun o => opDomain o == d)
      let s := gone.foldl (fun s o => freeOp s c o) s
      if hActive s c then haltChan s c 0x0007 (((gone.head?).map (fun o => o.space)).getD 0)
        (((gone.head?).map (fun o => o.addr)).getD 0) 0 else s) s

/-- Held channels go on when their domain is up again. -/
def hoistResume (s : State) (d : Nat) : State :=
  (s.hoist.chan.filterMap (fun x => if hState s x.1 = 3 && x.2.heldFor = d then some x.1 else none)).foldl
    (fun s c => setHState s c 1) s

/-! ### Issue (R333, R334) -/

/-- A read operation is issued. -/
def issueOpRead (s : State) (c : Nat) (o : HoistOp) : State :=
  if o.space = 0 then
    let (k, s) := issueRead s (.hoist c) o.addr o.len
    addOp s c { o with ext := k }
  else if o.space = 3 then
    let (k, s) := fabRequest s (.hoist c) 0 false o.peer o.addr o.len [] false
    addOp s c { o with ext := k }
  else addOp s c o

/-- The pieces of at most 512 bytes that cross no 4 KiB boundary (R437). -/
def fabPieces : Nat → Nat → List Byte → List (Nat × List Byte)
  | 0, _, _ => []
  | _ + 1, _, [] => []
  | n + 1, a, b :: bs =>
    let k := min 512 (4096 - a % 4096)
    (a, (b :: bs).take k) :: fabPieces n (a + k) ((b :: bs).drop k)

/-- A write operation is issued: a posted write to HOST holds no tag; the others wait for their acknowledgement. -/
def issueOpWrite (s : State) (c : Nat) (o : HoistOp) : State :=
  if o.space = 0 then hostData s o.addr o.data o.poison
  else if o.space = 3 then
    (fabPieces o.data.length o.addr o.data).foldl (fun s x =>
      let (k, s) := fabRequest s (.hoist c) (if c < 192 then 2 else 0) true o.peer x.1 x.2.length x.2 o.poison
      addOp s c { o with ext := k, addr := x.1, len := x.2.length, data := x.2 }) s
  else addOp (memWrite s o.addr o.data o.poison) c o

/-- A beat of poisoned data is moved (R336). -/
def poisonBeat (s : State) (c : Nat) : State := (s.ev (fHOIST_EVENT_POISON c)).report 0x15 c 0x0011

/-- Every earlier write of the channel has completed (R329). -/
def writesDone (s : State) (c : Nat) : Bool :=
  ((hchan s c).ops ++ (hchan s c).retry).all (fun o => o.kind == 0 || o.kind == 3)

end Sys2Proof.Machine
end

