-- ==== Sys2Proof/Machine/Hoist.lean ====
section
/-!
DEFINITION. The software channels of the Hoist (spec/14_hoist.md R322 to R335): their instructions, beats, completions
and errors.
-/

namespace Sys2Proof.Machine

/-! ### START and STOP (R330, R331) -/

/-- The channel runs from ENTRY. -/
def hoistRun (s : State) (c : Nat) : State :=
  let s := (s.setF (fHOIST_STATUS_PC c) (s.fv (fHOIST_CTRL_ENTRY c))).setRn (rHOIST_FAULT c) 0
  let s := setHalted (setHState (s.setF (fHOIST_STATUS_PACE c) 0) c 1) c false
  updHchan s c (fun x => { ops := x.ops })

/-- The channel issues nothing more; it is IDLE when its operations have completed. -/
def hoistHalt (s : State) (c : Nat) : State :=
  updHchan (setHState s c 1) c (fun x => { x with stopping := true, move := none, retry := [] })

/-- A write of CTRL. -/
def hoistCtrl (s : State) (c : Nat) (v : Word) : State :=
  let n := v.toNat
  if c < 192 then s.ev (fHOIST_EVENT_CFG_IGNORED c)
  else if 47 < bitsOf n 8 6 then s.ev (fHOIST_EVENT_CFG_INVALID c)
  else
    let was := hActive s c
    let s := s.setF (fHOIST_CTRL_ENTRY c) (bitsOf n 8 6)
    let s := if bitAt n 0 then (if was then s.ev (fHOIST_EVENT_CFG_IGNORED c) else hoistRun s c) else s
    if bitAt n 1 && was then hoistHalt s c else s

def execHoistStart (c : Nat) (v : Word) (s : State) : Out := .next (hub s (hoistCtrl s (c % 256) v))
def execHoistStop (c : Nat) (v : Word) (s : State) : Out := .next (hub s (hoistCtrl s (c % 256) v))

/-- The last operation of a stopped channel has completed. -/
def stopDone (s : State) (c : Nat) : State :=
  if (hchan s c).stopping && (hchan s c).ops.isEmpty then
    setHchan (setHState s c 0) c {}
  else s
def execHoistStopDone (c : Nat) (s : State) : Out := .next (hub s (stopDone s (c % 256)))

/-! ### Instructions (R322, R323) -/

def instr0 (s : State) (c : Nat) : Nat := s.pair (rHOIST_INSTR c (4 * hPc s c)) (rHOIST_INSTR c (4 * hPc s c + 1))
def instr1 (s : State) (c : Nat) : Nat := s.pair (rHOIST_INSTR c (4 * hPc s c + 2)) (rHOIST_INSTR c (4 * hPc s c + 3))

/-- The number of low bits of word 0 that the fields of an operation take. -/
def opBits : Nat → Nat
  | 0 => 5 | 1 => 28 | 2 => 15 | 3 => 21 | 4 => 20 | 5 => 24 | 6 => 11 | _ => 0

/-- The values that R323 refuses. -/
def instrBad (op a b : Nat) : Bool :=
  let low := bitsOf b 32 32
  let high := bitsOf b 0 32
  match op with
  | 0 => b != 0
  | 1 => low != 0
  | 2 => b != 0 || 47 < bitsOf a 7 6
  | 3 => (match bitsOf a 4 2 with
    | 2 => low != 0
    | 3 => b != 0
    | _ => high == 0 || decide (high ≤ low))
  | 4 => b != 0 || bitsOf a 6 2 == 2 || bitsOf a 4 2 == 0
  | 5 => bitsOf a 9 2 == 2 || bitsOf a 7 2 == 3 || decide (5 ≤ bitsOf a 20 4)
  | 6 => false
  | _ => true

/-- The current instruction is legal. -/
def instrOk (s : State) (c : Nat) : Bool :=
  let a := instr0 s c
  let op := bitsOf a 0 4
  decide (op ≤ 6) && a / 2 ^ opBits op == 0 && !instrBad op a (instr1 s c)

/-- The channel is about to execute an instruction. -/
def instrReady (s : State) (c : Nat) : Bool :=
  decide (192 ≤ c) && hState s c == 1 && !(hchan s c).stopping && (hchan s c).move.isNone && (hchan s c).load.isNone

/-- The channel is about to execute a legal instruction of operation `op`: `f` of its two words. -/
def onInstr (s : State) (c op : Nat) (f : Nat → Nat → State) : State :=
  if instrReady s c && instrOk s c && bitsOf (instr0 s c) 0 4 == op then f (instr0 s c) (instr1 s c) else s

/-- The checks of an operation on a space: it goes on, the channel is held, or it halts. -/
def onSpace (s : State) (c space addr : Nat) (u : SpaceUse) (f : State) : State :=
  match u with
  | .fine => f
  | .hold d => updHchan (setHState s c 3) c (fun x => { x with heldFor := d })
  | .halt code => haltChan s c code space addr 0

def hoistIllegal (s : State) (c : Nat) : State :=
  if instrReady s c && !instrOk s c then haltChan s c 0x0001 0 0 0 else s
def execHoistIllegalInstruction (c : Nat) (s : State) : Out := .next (hub s (hoistIllegal s (c % 256)))

/-- END (R322, R329). -/
def hoistEnd (s : State) (c : Nat) : State :=
  onInstr s c 0 (fun a _ =>
    if bitAt a 4 then (if writesDone s c then setHState (s.ev (fHOIST_EVENT_END_IRQ c)) c 4 else s)
    else setHState s c 4)
def execHoistEnd (c : Nat) (s : State) : Out := .next (hub s (hoistEnd s (c % 256)))

/-- LOOP (R328). -/
def hoistLoop (s : State) (c : Nat) : State :=
  onInstr s c 2 (fun a _ =>
    let go (s : State) : State := s.setF (fHOIST_STATUS_PC c) (bitsOf a 7 6)
    if bitAt a 13 then go s
    else
      let n := (hX s c (bitsOf a 4 3) + (2 ^ 64 - 1)) % 2 ^ 64
      let t := setHX s c (bitsOf a 4 3) n
      if n ≠ 0 then go t
      else if bitAt a 14 then (if writesDone s c then hNext (t.ev (fHOIST_EVENT_COUNT_IRQ c)) c else s)
      else hNext t c)
def execHoistLoop (c : Nat) (s : State) : Out := .next (hub s (hoistLoop s (c % 256)))

/-- WORDS, PKTS and CREDIT of a queue; a disabled one reads 0. -/
def queueItem (s : State) (q k : Nat) : Nat :=
  if !queueEn s q then 0 else if k = 2 then credit s q else queueReg s q k

/-- The measure of a WAIT, and whether its condition holds while waiting. -/
def waitValue (s : State) (a : Nat) : Nat := queueItem s (bitsOf a 6 12) (bitsOf a 4 2)
def waitTrue (s : State) (c a b : Nat) : Bool :=
  match bitsOf a 4 2 with
  | 2 => decide (bitsOf b 0 32 ≤ waitValue s a)
  | 3 => decide (hX s c (bitsOf a 18 3) ≤ s.dial)
  | _ => decide (bitsOf b 0 32 ≤ waitValue s a)

/-- A WAIT whose condition holds passes; one of KIND 0 or 1 sets the pace flag. -/
def waitPass (s : State) (c a : Nat) : State :=
  let s := if bitsOf a 4 2 < 2 then s.setF (fHOIST_STATUS_PACE c) 1 else s
  hNext (setHState s c 1) c

/-- WAIT (R327). -/
def hoistWait (s : State) (c : Nat) : State :=
  onInstr s c 3 (fun a b =>
    let s := if (hchan s c).lastWait == some (hPc s c) then s else s.setF (fHOIST_STATUS_PACE c) 0
    let s := updHchan s c (fun x => { x with lastWait := some (hPc s c) })
    let paced := bitsOf a 4 2 < 2 && s.on (fHOIST_STATUS_PACE c)
    if paced && bitsOf b 32 32 < waitValue s a then hNext s c
    else
      let s := if paced then s.setF (fHOIST_STATUS_PACE c) 0 else s
      if waitTrue s c a b then waitPass s c a
      else updHchan (setHState s c 2) c (fun x => { x with since := s.now }))
def execHoistWait (c : Nat) (s : State) : Out := .next (hub s (hoistWait s (c % 256)))

/-- A WAIT, a credit stall or a wait for a packet ends. -/
def hoistPass (s : State) (c : Nat) : State :=
  if hState s c ≠ 2 || (hchan s c).stopping then s
  else match (hchan s c).move with
    | some m =>
      if (if m.stalled then decide (0 < credit s m.dst) else !groupEmpty s c) then
        updHchan (setHState s c 1) c (fun x => { x with move := some { m with stalled := false } })
      else s
    | none => if waitTrue s c (instr0 s c) (instr1 s c) then waitPass s c (instr0 s c) else s
def execHoistWaitPass (c : Nat) (s : State) : Out := .next (hub s (hoistPass s (c % 256)))

/-- WAITING for longer than WAIT_LIMIT_MS (R339). -/
def hoistLimit (s : State) (c : Nat) : State :=
  let n := s.fv (fHOIST_CFG_WAIT_LIMIT_MS c)
  if hState s c = 2 && 0 < n && (hchan s c).since + n * 1000000 < s.now then haltChan s c 0x0008 0 0 0 else s
def execHoistWaitLimit (c : Nat) (s : State) : Out := .next (hub s (hoistLimit s (c % 256)))

/-- SIGNAL (R329). -/
def hoistSignal (s : State) (c : Nat) : State :=
  onInstr s c 4 (fun a _ =>
    let space := bitsOf a 6 2
    let addr := hX s c (bitsOf a 8 3)
    let peer := bitsOf a 14 6
    let bytes := leBytes 8 (hX s c (bitsOf a 11 3))
    let irq (s : State) : State := hNext (s.evIf (bitAt a 5) (fHOIST_EVENT_SIGNAL_IRQ c)) c
    if !bitAt a 4 then (if writesDone s c then irq s else s)
    else if addr % 8 ≠ 0 then haltChan s c 0x0002 space addr 0
    else onSpace s c space addr (spaceUse s c space peer addr 8 true)
      (if !writesDone s c || (space != 0 && !tagFree s c) then s
       else irq (issueOpWrite s c { tag := 0, kind := 2, space := space, peer := peer, addr := addr, len := 8, off := 0,
                                    attempts := 1, data := bytes })))
def execHoistSignal (c : Nat) (s : State) : Out := .next (hub s (hoistSignal s (c % 256)))

/-- LOAD (R323, R329). -/
def hoistLoad (s : State) (c : Nat) : State :=
  onInstr s c 5 (fun a b =>
    let d := bitsOf a 4 3
    let space := bitsOf a 9 2
    let addr := hX s c (bitsOf a 11 3)
    let peer := bitsOf a 14 6
    let q := bitsOf b 0 12
    let item := match bitsOf a 20 4 with
      | 0 => s.rn (rHOIST_MOVED c)
      | 1 => queueItem s q 0
      | 2 => queueItem s q 1
      | 3 => queueItem s q 2
      | _ => s.dial
    match bitsOf a 7 2 with
    | 0 => hNext (setHX s c d b) c
    | 2 => hNext (setHX s c d item) c
    | _ =>
      if addr % 8 ≠ 0 then haltChan s c 0x0002 space addr 0
      else onSpace s c space addr (spaceUse s c space peer addr 8 false)
        (if !writesDone s c || !tagFree s c || (space == 0 && !canRead s) then s
         else updHchan (issueOpRead s c { tag := 0, kind := 3, space := space, peer := peer, addr := addr, len := 8,
                                          off := 0, attempts := 1 }) c (fun x => { x with load := some d })))
def execHoistLoad (c : Nat) (s : State) : Out := .next (hub s (hoistLoad s (c % 256)))

/-- ADD (R323). -/
def hoistAdd (s : State) (c : Nat) : State :=
  onInstr s c 6 (fun a b =>
    let d := bitsOf a 4 3
    let v := if bitAt a 10 then hX s c (bitsOf a 7 3) else b
    hNext (setHX s c d ((hX s c d + v) % 2 ^ 64)) c)
def execHoistAdd (c : Nat) (s : State) : Out := .next (hub s (hoistAdd s (c % 256)))

/-! ### MOVE (R324 to R326) -/

def moveSrc (m : HoistMove) : Nat := bitsOf m.w0 4 2
def moveDst (m : HoistMove) : Nat := bitsOf m.w0 6 2
def movePeer (m : HoistMove) : Nat := bitsOf m.w0 22 6

/-- The MOVE ends: its registers change, and the next instruction follows. -/
def moveEnd (s : State) (c : Nat) (m : HoistMove) : State :=
  let n := ceilDiv m.written 64 * 64
  let inc (s : State) (bit x : Nat) : State :=
    if bitAt m.w0 bit then setHX s c (bitsOf m.w0 x 3) ((hX s c (bitsOf m.w0 x 3) + n) % 2 ^ 64) else s
  hNext (updHchan (inc (inc s 14 8) 15 11) c (fun x => { x with move := none })) c

/-- The ranges of a MOVE within one space share a byte, or its queue belongs to its own group. -/
def moveOverlap (s : State) (c : Nat) (m : HoistMove) : Bool :=
  (moveSrc m == moveDst m && moveSrc m != 2 && decide (m.src < m.dst + m.len) && decide (m.dst < m.src + m.len))
    || (moveDst m == 2 && queueGroup s (m.dst % 4096) == c)

def moveMisaligned (m : HoistMove) : Bool :=
  m.len % 64 != 0 || (moveSrc m != 2 && m.src % 64 != 0) || (moveDst m != 2 && m.dst % 64 != 0)

/-- MOVE begins: every check is made before its first operation. -/
def hoistMove (s : State) (c : Nat) : State :=
  onInstr s c 1 (fun a b =>
    let lenX := hX s c (bitsOf a 17 3)
    let len := if bitAt a 16 then lenX % 2 ^ 32 else bitsOf b 0 32
    let m : HoistMove := { w0 := a, len := len, src := hX s c (bitsOf a 8 3), dst := hX s c (bitsOf a 11 3) }
    if moveMisaligned m || (bitAt a 16 && 2 ^ 32 ≤ lenX) then haltChan s c 0x0002 (moveSrc m) m.src 0
    else if moveOverlap s c m then haltChan s c 0x0003 (moveDst m) m.dst 0
    else
      onSpace s c (moveSrc m) m.src (spaceUse s c (moveSrc m) (movePeer m) m.src len false)
        (onSpace s c (moveDst m) m.dst (spaceUse s c (moveDst m) (movePeer m) m.dst len true)
          (let s := s.setRn (rHOIST_MOVED c) 0
           if len = 0 then moveEnd s c m
           else updHchan s c (fun x => { x with move := some m }))))
def execHoistMove (c : Nat) (s : State) : Out := .next (hub s (hoistMove s (c % 256)))

/-! ### Beats (R332) -/

/-- The target port of reads, and of writes, of a space. -/
def readPort (space : Nat) : Nat := match space with | 0 => 1 | 1 => 2 | 3 => 3 | _ => 5
def writePort (space : Nat) : Nat := match space with | 0 => 0 | 1 => 2 | 3 => 3 | _ => 4

/-- A channel has a write beat ready. -/
def writeReady (s : State) (c : Nat) (m : HoistMove) : Bool :=
  (if moveSrc m = 2 then m.ended || decide (8 ≤ m.part.length) || !m.part.isEmpty || !groupEmpty s c
   else (kget m.written m.staged).isSome || !m.part.isEmpty)
    && (moveDst m == 0 || moveDst m == 2 || tagFree s c)

def readReady (s : State) (c : Nat) (m : HoistMove) : Bool :=
  moveSrc m != 2 && decide (m.asked < m.len) && tagFree s c && (moveSrc m != 0 || canRead s)

/-- Channel `c` has a beat ready for `port`. -/
def beatReady (s : State) (port c : Nat) : Bool :=
  hState s c == 1 && (match (hchan s c).move with
    | some m => (writePort (moveDst m) == port && writeReady s c m) || (readPort (moveSrc m) == port && readReady s c m)
    | none => false)

/-- The channel that the arbiter of `port` grants: the highest priority, then in turn. -/
def grantOf (s : State) (port : Nat) : Option Nat :=
  let l := ((List.range 64).map (fun i => 192 + i)).filter (beatReady s port)
  let top := maxList (l.map (fun c => s.fv (fHOIST_CFG_PRIO c)))
  let l := l.filter (fun c => s.fv (fHOIST_CFG_PRIO c) == top)
  let last := kgetD 0 port s.hoist.turn
  match l.find? (fun c => decide (last < c)) with
  | some c => some c
  | none => l.head?

/-- A read request of 64 bytes. -/
def readBeat (s : State) (c : Nat) (m : HoistMove) : State :=
  let s := updHchan s c (fun x => { x with move := some { m with asked := m.asked + 64 } })
  issueOpRead s c { tag := 0, kind := 0, space := moveSrc m, peer := movePeer m, addr := m.src + m.asked, len := 64,
                    off := m.asked, attempts := 1 }

/-- Words of the channel's group fill the beat, as far as whole packets are offered (R325). -/
def fillPart : Nat → State → Nat → HoistMove → List LarderErr → HoistMove × State
  | 0, s, _, m, _ => (m, s)
  | n + 1, s, c, m, errs =>
    if m.ended || 8 ≤ m.part.length || m.len ≤ m.written + 8 * m.part.length || groupEmpty s c then (m, s)
    else
      let (r, s) := groupRead s c (errs.headD .none)
      fillPart n s c { m with
        part := m.part ++ [(r.data, r.poison)], ended := bitAt m.w0 20 && r.last } (errs.drop 1)

/-- The words of the beat at hand. -/
def beatWords (m : HoistMove) : List (Nat × Bool) :=
  match kget m.written m.staged with
  | some bs => (chunks 8 bs).map (fun w => (leNat w, m.poisoned.contains m.written))
  | none => m.part

/-- Words go into the destination queue within its credit; the ones that are left wait (R325). -/
def pushWords (s : State) (q : Nat) (lastAt : Bool) : List (Nat × Bool) → List (Nat × Bool) × State
  | [] => ([], s)
  | w :: ws =>
    if !queueEn s q then ([], s)
    else if needsCell s q && credit s q == 0 && !s.on (fLQ_CTRL_AUDIT q) then (w :: ws, s)
    else pushWords (writeWordL s q w.1 (lastAt && ws.isEmpty) w.2) q lastAt ws

/-- `n` more bytes have been written; the MOVE ends with its last write. -/
def moved (s : State) (c : Nat) (m : HoistMove) (n : Nat) : State :=
  let m := { m with written := m.written + n }
  let s := s.setRn (rHOIST_MOVED c) m.written
  if m.len ≤ m.written || (m.ended && m.part.isEmpty) then moveEnd s c m
  else updHchan s c (fun x => { x with move := some m })

/-- One write beat. -/
def writeBeat (s : State) (c : Nat) (m : HoistMove) (errs : List LarderErr) : State :=
  let (m, s) := if moveSrc m = 2 then fillPart 8 s c m errs
    else ({ m with part := (if m.part.isEmpty then beatWords m else m.part), staged := kdel m.written m.staged }, s)
  let n := 8 * m.part.length
  if moveSrc m = 2 && !m.ended && m.part.length < 8 && m.written + n < m.len then
    -- no packet is offered: the partly filled beat waits
    updHchan (setHState s c 2) c (fun x => { x with move := some m, since := s.now })
  else
    let bad := m.part.any (fun w => w.2)
    if moveDst m = 2 then
      let final := decide (m.len ≤ m.written + n) || m.ended
      let (rest, s) := pushWords s m.dst (final && bitAt m.w0 21) m.part
      let s := if bad && rest.isEmpty then poisonBeat s c else s
      let k := n - 8 * rest.length
      if rest.isEmpty then moved s c { m with part := [] } k
      else
        let s := setHState (s.bump (fHOIST_CNT_STALLS c)) c 2
        let s := s.setRn (rHOIST_MOVED c) (m.written + k)
        updHchan s c (fun x => { x with
          move := some { m with part := rest, written := m.written + k, stalled := true }, since := s.now })
    else
      let s := if bad then poisonBeat s c else s
      let s := issueOpWrite s c { tag := 0, kind := 1, space := moveDst m, peer := movePeer m, addr := m.dst + m.written,
                                  len := n, off := m.written, attempts := 1,
                                  data := m.part.flatMap (fun w => leBytes 8 w.1), poison := bad }
      moved s c { m with part := [] } n

/-- The arbiter of a target port grants one beat. -/
def hoistBeat (s : State) (port : Nat) (errs : List LarderErr) : State :=
  match grantOf s port with
  | none => s
  | some c =>
    let s := { s with hoist := { s.hoist with turn := kput port c s.hoist.turn } }
    match (hchan s c).move with
    | some m =>
      if writePort (moveDst m) = port && writeReady s c m then writeBeat s c m errs
      else readBeat s c m
    | none => s
def execHoistBeat (port : Nat) (errs : List LarderErr) (s : State) : Out := .next (hub s (hoistBeat s (port % 5) errs))

/-! ### Completions (R333 to R336) -/

/-- The bytes that a read has brought, with their poison; none while it is not complete. -/
def readData (s : State) (o : HoistOp) : Option (List Byte × Bool) :=
  match o.space with
  | 0 => (kget o.ext s.pcie.reads).bind (fun r => if r.whole then some (r.got.take o.len, r.poison) else none)
  | 1 => some (memRead s o.addr o.len, memBad s o.addr o.len)
  | 3 => (kget o.ext s.fabric.done).bind (fun d => if d.status = 0 then some (padTo o.len d.data, d.poison) else none)
  | _ => none

def isRead (o : HoistOp) : Bool := o.kind == 0 || o.kind == 3

/-- The data of a read arrives at its channel. -/
def opData (s : State) (c : Nat) (o : HoistOp) (bs : List Byte) (bad : Bool) : State :=
  if o.kind = 3 then
    match (hchan s c).load with
    | some d => hNext (updHchan (setHX s c d (leNat bs)) c (fun x => { x with load := none })) c
    | none => s
  else updHchan s c (fun x => { x with move := x.move.map (fun m => { m with
    staged := kput o.off bs m.staged, poisoned := if bad then o.off :: m.poisoned else m.poisoned }) })

def readCompletion (s : State) (tag : Nat) : State :=
  match opOf s tag with
  | some (c, o) =>
    if !isRead o then s
    else match readData s o with
      | some (bs, bad) => opData (freeOp s c o) c o bs bad
      | none => s
  | none => s
def execHoistReadCompletion (tag : Nat) (s : State) : Out := .next (hub s (readCompletion s tag))

def writeAck (s : State) (tag : Nat) : State :=
  match opOf s tag with
  | some (c, o) =>
    if !isRead o && (o.space = 1 || (o.space = 3 && (kget o.ext s.fabric.done).any (fun d => d.status == 0))) then
      freeOp s c o
    else s
  | none => s
def execHoistWriteAck (tag : Nat) (s : State) : Out := .next (hub s (writeAck s tag))

/-- The target has answered an operation with an error (R334, R439). -/
def opFailed (s : State) (o : HoistOp) : Bool :=
  match o.space with
  | 0 => isRead o && (kget o.ext s.pcie.reads).any (fun r => r.failed)
  | 1 => true
  | 3 => (kget o.ext s.fabric.done).any (fun d => d.status != 0 && (d.status != 256 || d.write))
  | _ => false

/-- CFG.RETRY; a device channel has 3 (R343). -/
def retries (s : State) (c : Nat) : Nat := if c < 192 then 3 else s.fv (fHOIST_CFG_RETRY c)

def errorResponse (s : State) (tag : Nat) : State :=
  match opOf s tag with
  | some (c, o) =>
    if !opFailed s o then s
    else
      let s := freeOp s c o
      if !hActive s c || (hchan s c).stopping then s
      else if retries s c < o.attempts then haltChan s c 0x0005 o.space o.addr o.attempts
      else
        let (v, s) := takeFree s
        updHchan s c (fun x => { x with retry := x.retry ++ [{ o with since := s.now + 1000 + v % 1001 }] })
  | none => s
def execHoistErrorResponse (tag : Nat) (s : State) : Out := .next (hub s (errorResponse s tag))

def hoistRetry (s : State) (tag : Nat) : State :=
  match retryOf s tag with
  | some (c, o) =>
    if s.now < o.since || !tagFree s c || (o.space = 0 && !canRead s) then s
    else
      let s := updHchan s c (fun x => { x with retry := x.retry.filter (fun y => y.tag != o.tag) })
      let s := ((s.bump (fHOIST_CNT_RETRIED c)).ev (fHOIST_EVENT_RETRIED c)).report 0x15 c 0x0010
      let o := { o with attempts := o.attempts + 1 }
      if isRead o then issueOpRead s c o else issueOpWrite s c o
  | none => s
def execHoistRetry (tag : Nat) (s : State) : Out := .next (hub s (hoistRetry s tag))

/-- A read has timed out (R335, R439): 1 ms for LP5X, TIMEOUT_US for FABRIC, and for HOST the completion timeout, which
the host may disable and whose length its setting fixes outside this model. -/
def readTimedOut (s : State) (o : HoistOp) : Bool :=
  isRead o && (match o.space with
    | 0 => !bitAt (cfgN s 0x098) 4 && (kget o.ext s.pcie.reads).any (fun r => !r.whole && !r.failed)
    | 1 => decide (o.since + 1000000 ≤ s.now)
    | 3 => (kget o.ext s.fabric.done).any (fun d => d.status == 256)
    | _ => false)

def completionTimeout (s : State) (tag : Nat) : State :=
  match opOf s tag with
  | some (c, o) =>
    if !readTimedOut s o then s
    else
      let s := if o.space = 0 then aerUncorr s 14 false else s
      let s := freeOp s c o
      if hActive s c then haltChan s c 0x0006 o.space o.addr o.attempts else s
  | none => s
def execHoistCompletionTimeout (tag : Nat) (s : State) : Out := .next (hub s (completionTimeout s tag))

/-! ### Registers (R320, R330, R332) -/

/-- A write of CFG, X or INSTR. -/
def hoistReg (s : State) (c off : Nat) (v : Word) : State :=
  if c < 192 || hActive s c then s.ev (fHOIST_EVENT_CFG_IGNORED c)
  else if off = rHOIST_CFG c && bitsOf v.toNat 0 2 = 3 then s.ev (fHOIST_EVENT_CFG_INVALID c)
  else plainWrite s off v

/-- The host side of the Hoist after a PERST_N-scope reset: channels that use HOST halt (R338). -/
def hoistHostReset (s : State) : State :=
  let s := { s with hoist := { s.hoist with waitHost := true } }
  let uses (c : Nat) : Bool :=
    let x := hchan s c
    x.ops.any (fun o => o.space == 0) || x.retry.any (fun o => o.space == 0)
      || (match x.move with
        | some m => moveSrc m == 0 || moveDst m == 0
        | none => false)
      || (match (moverOf s c).dest with
        | .host _ _ _ _ _ _ => (moverOf s c).frame.isSome
        | _ => false)
  ((s.hoist.chan.map (fun x => x.1)) ++ (s.hoist.mover.map (fun x => x.1)).filter (fun c =>
      (kget c s.hoist.chan).isNone)).foldl (fun s c =>
    if hActive s c && uses c then
      let s := ((hchan s c).ops.filter (fun o => o.space == 0)).foldl (fun s o => freeOp s c o) s
      haltChan s c 0x0009 0 0 0
    else s) s

end Sys2Proof.Machine
end

