-- ==== Sys2Proof/Machine/LinkOps.lean ====
section
/-!
DEFINITION. The configuration space, the Inventory table and the PERST_N-scope reset (spec/16_pcie_and_bridges.md R381 to
R385, spec/03_start_up.md R48). The layouts inside the structures of R381 are those of the PCI Express Base
Specification 6.0, which R381 names.
-/

namespace Sys2Proof.Machine

/-! ### Configuration space (R381) -/

/-- The fixed bits of a configuration dword. -/
def cfgFixed : Nat → Nat
  | 0x000 => 0x88327A9C | 0x004 => 0x00100000 | 0x008 => 0x04800011
  | 0x010 => 0x4 | 0x018 => 0x4 | 0x020 => 0xC | 0x02C => 0x00017A9C | 0x034 => 0x40
  | 0x040 => 0x00035001 | 0x044 => 0x8
  | 0x050 => 0x018A7005
  | 0x070 => 0x8002B010 | 0x074 => 0x10008022 | 0x07C => 0x00463C86
  | 0x094 => 0x0003081F | 0x09C => 0x7E
  | 0x0B0 => 0x07FF0011 | 0x0B4 => 0x00048000 | 0x0B8 => 0x00050000
  | 0x100 => 0x14820001 | 0x148 => 0x15810003 | 0x158 => 0x17810019 | 0x178 => 0x18410025 | 0x17C => 0x80000001
  | 0x184 => 0x1B010026 | 0x1B0 => 0x1D810027 | 0x1D8 => 0x2001002A | 0x200 => 0x22010031
  | 0x220 => 0x23010015 | 0x224 => 0x0007F000 | 0x228 => 0x24
  | 0x230 => 0x23810018 | 0x238 => 0x2481001E | 0x23C => 0x00390A1F | 0x248 => 0x0001002E
  | _ => 0

/-- The bits of a configuration dword that the host writes. -/
def cfgWritable : Nat → Nat
  | 0x004 => 0x0546 | 0x00C => 0xFF
  | 0x010 => 0xFC000000 | 0x014 => 0xFFFFFFFF | 0x018 => 0xFFFF0000 | 0x01C => 0xFFFFFFFF | 0x024 => 0xFFFFFFFF
  | 0x03C => 0xFF | 0x044 => 0x3
  | 0x050 => 0x00710000 | 0x054 => 0xFFFFFFFC | 0x058 => 0xFFFFFFFF | 0x05C => 0xFFFF | 0x060 => 0xFFFFFFFF
  | 0x078 => 0x79FF | 0x080 => 0x03CB | 0x098 => 0x141F | 0x0A0 => 0x00FF
  | 0x0B0 => 0xC0000000
  | 0x108 => 0x01FFF030 | 0x10C => 0x01FFF030 | 0x114 => 0xF1C1
  | 0x228 => 0x3F00 | 0x234 => 0xFFFFFFFF | 0x240 => 0xE3FFFF0F | 0x244 => 0xFB
  | _ => 0

/-- The bits that a write of 1 clears. -/
def cfgW1c : Nat → Nat
  | 0x004 => 0xF9000000 | 0x078 => 0x000F0000 | 0x104 => 0xFFFFFFFF | 0x110 => 0xFFFFFFFF | 0x160 => 0xFF
  | _ => 0

/-- The size of BAR4 by the Resizable BAR control: 2^28 to 2^34 bytes. -/
def bar4Log (s : State) : Nat := 20 + min 14 (max 8 (bitsOf (cfgN s 0x228) 8 6))

/-- The state of the link in Link Status (R410). -/
def cfgLink (s : State) : Nat :=
  s.fv fPCIE_LINK_STATUS_RATE * 2 ^ 16 + s.fv fPCIE_LINK_STATUS_WIDTH * 2 ^ 20

/-- What a configuration read of the dword at `off` returns. -/
def cfgRead (s : State) (off : Nat) : Nat :=
  if off = 0x020 then 0xC + (if bar4Log s < 32 then cfgN s off / 2 ^ bar4Log s * 2 ^ bar4Log s else 0)
  else if off = 0x064 then s.pcie.msiPending
  else if off = 0x080 then cfgN s off ||| cfgLink s
  else if off = 0x14C then s.rn rIDENT_SERIAL_LO
  else if off = 0x150 then s.rn rIDENT_SERIAL_HI
  else cfgFixed off ||| cfgN s off

/-- The mask of the enabled bytes. -/
def beMask (be : Nat) : Nat := (List.range 4).foldl (fun m i => m + b2n (bitAt be i) * (255 * 2 ^ (8 * i))) 0

/-- The MSI messages that a mask has held back and no longer holds are sent (R370). -/
def msiUnmask (s : State) : State :=
  (List.range 32).foldl (fun s u =>
    if msiOn s && bitAt s.pcie.msiPending u && !bitAt (cfgN s 0x060) u then
      sendVector { s with pcie := { s.pcie with msiPending := putBits s.pcie.msiPending u 1 0 } } u
    else s) s

/-- The MSI-X messages that the function mask has held back are sent (R370). -/
def msixRelease (s : State) : State :=
  (kfilter (fun o => decide (rPBA_PENDING 0 ≤ o) && decide (o < rPBA_PENDING 64)) s.regs).foldl (fun s x =>
    (List.range 32).foldl (fun s b =>
      let v := (x.1 - rPBA_PENDING 0) / 4 * 32 + b
      if bitAt x.2.toNat b && msixOn s && !bitAt (cfgN s 0x0B0) 30 && !s.on (fMSIX_CTRL_MASK v) then
        sendVector (s.setF ⟨x.1, b, 1⟩ 0) v
      else s) s) s

/-- Completion rings write what they held while the link carried no request. -/
def flushRings (s : State) : State := (List.range 64).foldl (fun s j => cqFlush 64 s j) s

/-! ### The Inventory table (R385) -/

/-- The table as the device writes it with STATE `st`. -/
def inventoryBytes (s : State) (st : Nat) : List Byte :=
  let ks := if st = 2 then s.pow.boot.kernelIds else []
  let len := 64 + 8 * ks.length
  let head := leBytes 4 0x54564E49 ++ leBytes 1 1 ++ leBytes 1 st ++ leBytes 2 len
    ++ leBytes 2 0x7A9C ++ leBytes 2 0x8832 ++ leBytes 1 0x11 ++ leBytes 1 (s.fv fGLB_STRAPS_ACTIVE_TILES)
    ++ leBytes 1 (s.fv fMGT_STATUS_ADDR) ++ leBytes 1 (s.fv fGLB_BOOT_STATUS_BANK)
    ++ leBytes 4 (s.rn rGLB_FW_VERSION) ++ leBytes 4 (s.rn rGLB_FW_PATCH)
    ++ leBytes 4 (s.rn rGLB_LIB_VERSION) ++ leBytes 4 (s.rn rGLB_LIB_PATCH)
    ++ leBytes 8 (s.pair rIDENT_SERIAL_LO rIDENT_SERIAL_HI) ++ leBytes 4 (s.rn rGLB_BOOT_STATUS)
  let slotOf (id : Nat) : Nat := match library.find? (fun x => x.1 == id) with
    | some x => if x.2 = 16 then 0x80 else x.2
    | none => 0
  let tail := leBytes 2 ks.length ++ List.replicate 14 0
    ++ ks.flatMap (fun id => leBytes 2 id ++ leBytes 1 (slotOf id) ++ List.replicate 5 0)
  let check := crc32c (head ++ leBytes 4 0 ++ tail)
  head ++ leBytes 4 check.toNat ++ tail

def writeInventory (s : State) (st : Nat) : State :=
  { s with pcie := { s.pcie with inventory := inventoryBytes s st } }

/-! ### The PERST_N scope (R48) -/

/-- Inbound reads that wait for the host fail: the target cannot answer. -/
def failInbound (s : State) : State :=
  s.pcie.reads.foldl (fun s r => match r.2.owner with
    | .fabric key => inboundDone s key none false
    | _ => s) s

/-- The endpoint, its configuration space, DBELL, RING and the host side of BRIDGE are reset; Hoist channels that use
HOST halt. The device's record of asynchronous stops stays (R377). The link goes down, unless `linkStays`. -/
def hostScope (s : State) (linkStays : Bool) : State :=
  let wasUp := s.on fPCIE_LINK_STATUS_DL_ACTIVE
  let link := s.rn rPCIE_LINK_STATUS
  let pipes := s.rn rRING_STOPPED_PIPES
  let canvases := s.rn rRING_STOPPED_CANVASES
  let s := bridgeHostReset (hoistHostReset (failInbound s))
  let s := s.resetRegs 0x10000 0x80000
  let s := (s.setRn rRING_STOPPED_PIPES pipes).setRn rRING_STOPPED_CANVASES canvases
  let p := s.pcie
  let s := { s with ring := { nextId := s.ring.nextId }, spdm := {}, pcie := if linkStays
    then { clkreq := p.clkreq, configReady := p.configReady, inventory := p.inventory, nextTag := p.nextTag, errMsgs := p.errMsgs }
    else { nextTag := p.nextTag, errMsgs := p.errMsgs } }
  let s := s.setF fIDENT_SPDM_STATUS_SESSIONS 0
  if linkStays then
    let s := s.setRn rPCIE_LINK_STATUS link
    if linkPower s = 6 then s.setF fPCIE_LINK_STATUS_POWER 0 else s
  else if wasUp then (s.ev fPCIE_EVENT_LINK_DOWN).report 0x04 0 0x0001
  else s

/-- A source of resets is recorded (R62). -/
def resetCause (s : State) (f : Fld) : State := s.setF f 1

/-- A Function Level Reset: the PERST_N scope, while the link stays up. -/
def functionReset (s : State) : State := resetCause (hostScope s true) fGLB_RESET_CAUSE_FLR

/-! ### D3hot (R382) -/

/-- The channels whose operation or current instruction uses HOST halt, as though the link were down. -/
def d3Entry (s : State) : State :=
  let w := s.hoist.waitHost
  let s := (setCfg s 0x044 3).setF fPCIE_LINK_STATUS_POWER 6
  let s := hoistHostReset s
  { s with hoist := { s.hoist with waitHost := w } }

/-- The function returns to D0 with everything kept. -/
def d0Return (s : State) : State :=
  flushRings ((setCfg s 0x044 0).setF fPCIE_LINK_STATUS_POWER 0)

/-! ### Configuration writes -/

/-- What a write of a configuration dword does beside changing its bits. -/
def cfgEffect (s : State) (off old v : Nat) : State :=
  if off = 0x004 then
    if bitAt v 2 then
      let s := if s.on fPCIE_LINK_STATUS_DL_ACTIVE then { s with hoist := { s.hoist with waitHost := false } } else s
      if bitAt old 2 then s else flushRings s
    else s
  else if off = 0x060 || off = 0x050 then msiUnmask s
  else if off = 0x0B0 then msixRelease s
  else if off = 0x044 then
    if bitsOf v 0 2 = 3 then (if bitsOf old 0 2 = 3 then s else d3Entry s)
    else if bitsOf old 0 2 = 3 then d0Return s else s
  else s

/-- A configuration write of the enabled bytes. -/
def cfgWrite (s : State) (off : Nat) (v : Word) (be : Nat) : State :=
  let en := beMask be
  let old := cfgN s off
  let w := v.toNat &&& en
  let rwm := cfgWritable off &&& en
  let new := ((old ^^^ (old &&& rwm)) ||| (w &&& rwm))
  let new := new ^^^ (new &&& (w &&& cfgW1c off))
  if off = 0x078 && bitAt w 15 then functionReset s
  else cfgEffect (setCfg s off new) off old new

end Sys2Proof.Machine
end

