-- ==== Sys2Proof/Machine/ResetOps.lean ====
section
/-!
DEFINITION. The device-scope reset and the failure of a boot (spec/02_package_supplies_pins.md R36 to R39,
spec/03_start_up.md R44, R48 to R50, R57).
-/

namespace Sys2Proof.Machine

/-! ### Device-scope resets (R48) -/

/-- The straps that the device keeps (R12, R36): TILES in bits 1:0, MGT_A in bits 4:2. -/
def strapRegs (s : State) : State :=
  let w := s.pow.straps
  let s := (List.range 8).foldl (fun s n =>
    s.setF (fGLB_TILE_WHEELS_NOT_SELECTED n) (b2n (decide (2 * (bitsOf w 0 2 + 1) ≤ n)))) s
  let s := (s.setF fGLB_STRAPS_TILES (bitsOf w 0 2)).setF fGLB_STRAPS_MGT_A (bitsOf w 2 3)
  (s.setF fGLB_STRAPS_ACTIVE_TILES (2 * (bitsOf w 0 2 + 1))).setF fMGT_STATUS_ADDR (0x58 + bitsOf w 2 3)

/-- The device in reset with power state `pow`: what stays is the Attic and what stands outside the device. -/
def blankDevice (s : State) (pow : Pow) : State :=
  { State.reset with
    pending := s.pending, now := s.now, taken := s.taken, msgs := s.msgs, reply := s.reply, wire := s.wire,
    pow := pow, attic := { s.attic with upd := none },
    isl := { log := s.isl.log.filter (fun r => r.committed) },
    pcie := { errMsgs := s.pcie.errMsgs }, fabric := { sent := s.fabric.sent } }

/-- A device-scope reset: the straps, GLB.RESET_CAUSE and GLB.BOOT_FAULT survive it. Hallmark keys are discarded, which is
reported (R520). -/
def deviceReset (s : State) : State :=
  let keys := s.ident.cur.isSome || s.ident.prev.isSome
  let pow := { s.pow with
    phase := .inReset, devReset := false, hubOn := false, boot := {}, domTarget := [], drainAt := [], clamped := [],
    clkBad := [] }
  let t := blankDevice s pow
  let t := (t.setRn rGLB_RESET_CAUSE (s.rn rGLB_RESET_CAUSE)).setRn rGLB_BOOT_FAULT (s.rn rGLB_BOOT_FAULT)
  let t := if s.pow.sampled then strapRegs t else t
  t.reportIf keys 0x08 0 0x0008

/-- The supplies of the always-on domain have gone: nothing is left but the Attic. -/
def powerLost (s : State) : State :=
  let t := blankDevice s { powered := false, rails := 0, ioG := 0, porst := s.pow.porst, perst := s.pow.perst }
  { t with regs := [] }

/-! ### Failed boots (R57, R560) -/

/-- The fault is written to GLB.BOOT_FAULT and, where an Attic bank is valid, to the event log; every output is held in its
reset state, and MGT does not answer (R133). -/
def bootFail (s : State) (code : Nat) : State :=
  let s := resetCause (s.setRn rGLB_BOOT_FAULT code) fGLB_RESET_CAUSE_BOOT_FAILED
  let s := if bitsOf (s.fv fATTIC_STATUS_VALID) 0 2 = 0 then s else commitLog (logRec s code 0 0)
  let s := hostScope s false
  let s := { s.setF fMGT_STATUS_ACTIVE 0 with isl := { s.isl with inbox := [] } }
  { s with pow := { s.pow with phase := .failed, hubOn := false } }

/-- The boot starts. -/
def bootStart (s : State) : State := { s with pow := { s.pow with phase := .booting, boot := {} } }

end Sys2Proof.Machine
end

