-- ==== Sys2Proof/Machine/Reset.lean ====
section
/-!
DEFINITION. Supplies, reset inputs and resets (spec/02_package_supplies_pins.md R26, R27, R36, R39;
spec/03_start_up.md R43, R44, R48 to R50; spec/23_power_clocks.md R535).
-/

namespace Sys2Proof.Machine

/-! ### Supplies (R43, R44) -/

def stageA : List Rail := [.vddAon, .vddioAon, .vddaAdc, .vddFlash]
/-- The place of a rail in the order; the length of the order where it is not there. -/
def railAt (order : List Rail) (r : Rail) : Nat := order.findIdx (fun x => decide (x = r))

/-- The order breaks R43 as the power controller compares it (R44). -/
def orderBad (order : List Rail) : Bool :=
  let doneA := maxList (stageA.map (railAt order))
  let early (r : Rail) : Bool := decide (railAt order r < doneA)
  [Rail.vddHub, .vddTile, .vdd1Mem, .vdd2Mem, .vddqMem].any early
    || decide (railAt order .vdd2Mem < railAt order .vdd1Mem) || decide (railAt order .vddqMem < railAt order .vdd2Mem)

/-- The rails that are within tolerance (R27). -/
def railMask (order : List Rail) : Nat :=
  let has (r : Rail) : Bool := order.contains r
  maskOf 8 (fun k =>
    if k < 4 then has (.sphyG k) && has (.ioG k)
    else if k = 4 then has .vddioLp
    else if k = 5 then has .vddLane && has .vddaLane
    else if k = 6 then has .vddPcie && has .vddaPcie
    else (stageA ++ [Rail.vddHub, .vddTile, .vdd1Mem, .vdd2Mem, .vddqMem]).all has)

def powerOn (s : State) (order : List Rail) (porst perst : Bool) : State :=
  if s.pow.powered || !order.contains .vddAon || !order.contains .vddioAon then s
  else blankDevice s
    { rails := railMask order, ioG := maskOf 4 (fun g => order.contains (.ioG g)), porst := porst, perst := perst,
      sawLow := !porst, lowAt := s.now, perstLowAt := s.now, seqError := orderBad order }
def execPowerOn (order : List Rail) (porst perst : Bool) (s : State) : Out := .next (powerOn s order porst perst)

/-- The record of a sequence error (R44); its number and boot count are open while the model knows no record. -/
def seqRecord (s : State) : State :=
  if s.pow.powered && s.pow.seqError && !s.pow.seqLogged then
    let boots := s.isl.log.map (fun r => r.boot)
    let (boot, s) := if boots.isEmpty then takeFree s else (maxList boots, s)
    let (seq, s) := match s.isl.log with
      | r :: _ => (r.seq + 1, s)
      | [] => takeFree s
    let r : LogRec := ⟨seq % 2 ^ 32, 0x0A000108, 0, boot % 2 ^ 32, 0, 2, 0, true⟩
    let s := commitRec s r
    { s with isl := { s.isl with log := r :: s.isl.log }, pow := { s.pow with seqLogged := true } }
  else s
def execSeqErrorRecordCommit (s : State) : Out := .next (seqRecord s)

def supplyLeaves (s : State) (r : Rail) : State :=
  if !s.pow.powered then s
  else match r with
    | .vddAon | .vddioAon => powerLost s
    | .ioG g => { s with pow := { s.pow with ioG := putBits s.pow.ioG (g % 4) 1 0 } }
    | _ => s
def execSupplyLeavesTolerance (r : Rail) (s : State) : Out := .next (supplyLeaves s r)

/-! ### PORST_N and internal releases (R36, R48, R50) -/

def porstFall (s : State) : State :=
  if s.pow.powered && s.pow.porst then
    let s := resetCause (deviceReset s) fGLB_RESET_CAUSE_PORST
    { s with pow := { s.pow with porst := false, lowAt := s.now } }
  else s
def execPorstNFall (s : State) : Out := .next (porstFall s)

/-- The boot starts, unless a sequence error or an internal hold keeps the device in reset. -/
def leaveReset (s : State) : State :=
  if s.pow.porst && s.pow.sampled && !s.pow.seqError && !s.pow.selfRelease && s.pow.phase == .inReset then bootStart s
  else s

/-- PORST_N rises; the first rise counts only after PORST_N has been low for 1 µs (R36). -/
def porstRise (s : State) (s400 s200 s0 : Nat) : State :=
  if !s.pow.powered || s.pow.porst then s
  else
    let s := { s with pow := { s.pow with porst := true } }
    if s.pow.sawLow || decide (s.pow.lowAt + 1000 ≤ s.now) then
      let major := maskOf 5 (fun k => decide (2 ≤ b2n (bitAt s400 k) + b2n (bitAt s200 k) + b2n (bitAt s0 k)))
      let s := if s.pow.sampled then s
        else strapRegs { s with pow := { s.pow with sampled := true, sampledAt := s.now, straps := major } }
      leaveReset { s with pow := { s.pow with sawLow := true } }
    else s
def execPorstNRise (s400 s200 s0 : Nat) (s : State) : Out := .next (porstRise s s400 s200 s0)

/-- The device holds itself in reset for 1 ms. -/
def holdReset (s : State) (cause : Fld) : State :=
  let s := resetCause (deviceReset s) cause
  { s with pow := { s.pow with selfRelease := true, releaseAt := s.now + 1000000 } }

/-- A brown-out; the detector of VDD_HUB is disarmed in standby (R537). -/
def brownout (s : State) (r : Rail) : State :=
  let armed := match r with
    | .vddAon | .vddioAon => true
    | .vddHub => s.pow.phase != .standby
    | _ => false
  if s.pow.powered && armed then holdReset s fGLB_RESET_CAUSE_BROWNOUT else s
def execBrownout (r : Rail) (s : State) : Out := .next (brownout s r)

/-- A write of GLB.RESET_CTRL (R50). -/
def devReset (s : State) (v : Word) : State :=
  if s.pow.powered && s.pow.phase != .inReset && bitAt v.toNat 16 && bitsOf v.toNat 0 16 == 0xC10C then
    { s with pow := { s.pow with devReset := true, resetAt := s.now + 1000 } }
  else s
def execDevReset (v : Word) (s : State) : Out := .next (devReset s v)

def resetEffect (s : State) : State :=
  if s.pow.devReset && decide (s.pow.resetAt ≤ s.now) then holdReset s fGLB_RESET_CAUSE_SW_RESET else s
def execDeviceResetEffect (s : State) : Out := .next (resetEffect s)

def internalRelease (s : State) : State :=
  if s.pow.powered && s.pow.selfRelease && decide (s.pow.releaseAt ≤ s.now) then
    leaveReset { s with pow := { s.pow with selfRelease := false } }
  else s
def execInternalRelease (s : State) : Out := .next (internalRelease s)

/-! ### The PERST_N scope (R46, R48, R535) -/

def perstFall (s : State) : State :=
  if s.pow.powered && s.pow.perst then
    let s := resetCause (hostScope s false) fGLB_RESET_CAUSE_PERST
    { s with pow := { s.pow with perst := false, perstLowAt := s.now } }
  else s
def execPerstNFall (s : State) : Out := .next (perstFall s)

/-- PCIE powers up where the boot has passed "PCIe controller ready" and the domain is OFF. -/
def pcieWake (s : State) : State :=
  if s.pow.boot.pcie && s.pow.perst && s.fv (fPWR_DOM_STATE 13) == 3 then s.setF (fPWR_DOM_STATE 13) 4 else s

def perstRise (s : State) : State :=
  if s.pow.powered && !s.pow.perst then pcieWake { s with pow := { s.pow with perst := true } } else s
def execPerstNRise (s : State) : Out := .next (perstRise s)

def perstTimeout (s : State) : State :=
  if !s.pow.perst && domOn s 13 && decide (s.pow.perstLowAt + 10000000 < s.now) then domDrain s 13 3 else s
def execPcieDomainPerstTimeout (s : State) : Out := .next (hub s (perstTimeout s))

def execHotReset (s : State) : Out :=
  .next (hub s (if s.on fPCIE_LINK_STATUS_DL_ACTIVE then
    resetCause (hostScope s false) fGLB_RESET_CAUSE_HOT_RESET else s))

def execFunctionLevelReset (s : State) : Out :=
  .next (hub s (if s.on fPCIE_LINK_STATUS_DL_ACTIVE then functionReset s else s))

/-- TRST_N resets the test access logic, which holds no state of this model. -/
def execTrstNLow (s : State) : Out := .next s

end Sys2Proof.Machine
end

