-- ==== Sys2Proof/Machine/Boot.lean ====
section
/-!
DEFINITION. The boot (spec/03_start_up.md R51 to R63, spec/22_identity_attic.md R524 to R526): each event of the boot table,
in the order that it takes place.
-/

namespace Sys2Proof.Machine

/-- An event of the boot table takes place while the device boots and `c`, what it follows, has taken place. -/
def bootEv (s : State) (c : Bool) (t : State) : State :=
  if s.pow.powered && s.pow.phase == .booting && c then t else s

def setBoot (s : State) (f : BootDone → BootDone) : State := { s with pow := { s.pow with boot := f s.pow.boot } }
def bootStage (s : State) (n : Nat) : State := s.setF fGLB_BOOT_STATUS_STAGE n
/-- Rail bit `k` of R557. -/
def railUp (s : State) (k : Nat) : Bool := bitAt s.pow.rails k

/-! ### Clocks and rails -/

/-- The hub clocks lock: dial time starts at 0 and MGT answers (R99, R133). -/
def clocksLocked (s : State) : State :=
  let s := setBoot { s with pow := { s.pow with hubOn := true } } (fun b => { b with hubLocked := true })
  (s.setF (fPWR_DOM_STATE 1) 0).setF fMGT_STATUS_ACTIVE 1
def execHubClocksLocked (s : State) : Out :=
  .next (bootEv s (!s.pow.boot.hubLocked && railUp s 7) (clocksLocked s))

/-- A domain is ON where its rails are present, and ABSENT otherwise. -/
def railDomain (s : State) (d k : Nat) : State := s.setF (fPWR_DOM_STATE d) (if railUp s k then 0 else 5)

def railsRecorded (s : State) (sportCal laneCal : Nat) (pcieCal fref : Bool) : State :=
  let s := setBoot s (fun b => { b with
    rails := true, sportCal := sportCal, laneCal := laneCal, pcieCal := pcieCal, fref := fref })
  let s := s.setF fGLB_STRAPS_RAILS (bitsOf s.pow.rails 0 7)
  let s := [0, 1, 2, 3].foldl (fun s g => railDomain s (14 + g) g) s
  let s := railDomain s 12 5
  let s := if railUp s 6 then s else s.setF (fPWR_DOM_STATE 13) 5
  let s := (List.range 32).foldl (fun s n =>
    let gone := !railUp s (n / 8)
    let s := (s.setF (fSPORT_STATUS_ABSENT n) (b2n gone)).setF (fSCC_STATUS_ABSENT n) (b2n gone)
    s.setF (fSPORT_STATUS_CAL_OK n) (b2n (!gone && bitAt sportCal n))) s
  let s := (List.range 4).foldl (fun s m => s.setF (fLPORT_STATUS_ABSENT m) (b2n (!railUp s 4))) s
  let s := (List.range 8).foldl (fun s m =>
    let gone := !railUp s 5
    let s := (s.setF (fLANE_STATUS_ABSENT m) (b2n gone)).setF (fLANE_STATUS_CAL_OK m) (b2n (!gone && bitAt laneCal m))
    s.setF (fLANE_STATUS_FREF_OK m) (b2n (!gone && fref))) s
  bootStage s 1
def execOptionalRailsRecorded (sportCal laneCal : Nat) (pcieCal fref : Bool) (s : State) : Out :=
  .next (bootEv s (s.pow.boot.hubLocked && !s.pow.boot.rails) (railsRecorded s sportCal laneCal pcieCal fref))

/-! ### The boot bank (R51, R525, R526) -/

def bankGood (b : BankFound) : Bool := b.headerOk && b.imageOk

/-- A bank is found valid or invalid at boot. -/
def bankFound (s : State) (part i : Nat) (b : BankFound) : State :=
  if bankGood b then setBank s part i true b.seq
  else ((setBank s part i false 0).ev fATTIC_EVENT_BANK_INVALID).report 0x08 (bankIdx part i) 0x0001

/-- Both banks are valid and neither is newer (R525). -/
def seqAmbiguous (s : State) (b0 b1 : BankFound) : State :=
  if bankGood b0 && bankGood b1 && !seqNewer b0.seq b1.seq && !seqNewer b1.seq b0.seq then
    (s.ev fATTIC_EVENT_SEQ_AMBIGUOUS).report 0x08 0 0x0006
  else s

def bankChosen (s : State) (b0 b1 : BankFound) : State :=
  let s := setBoot s (fun b => { b with bank := true })
  let s := seqAmbiguous (bankFound (bankFound s 1 0 b0) 1 1 b1) b0 b1
  match newestBank s 1 with
  | none => bootFail s 0x08000102
  | some k =>
    let b := if k = 0 then b0 else b1
    let s := (s.setF fGLB_BOOT_STATUS_BANK k).setF fGLB_BOOT_STATUS_ONE_BANK (b2n (!(bankGood b0 && bankGood b1)))
    let s := (s.setF fGLB_FW_VERSION_MAJOR b.major).setF fGLB_FW_VERSION_MINOR b.minor
    let s := (s.setF fGLB_FW_PATCH_PATCH b.patch).setF fGLB_LIB_PATCH_PATCH b.libPatch
    (s.setF fGLB_LIB_VERSION_MAJOR b.libMajor).setF fGLB_LIB_VERSION_MINOR b.libMinor
def execAtticBankChosen (b0 b1 : BankFound) (s : State) : Out :=
  .next (bootEv s (s.pow.boot.rails && !s.pow.boot.bank) (bankChosen s b0 b1))

/-! ### The safety island (R52, R508, R526, R529) -/

/-- The identity copies (R526). -/
def identityFound (s : State) (idA idB keyOk : Bool) : State :=
  let s := if idA then s else (s.ev fATTIC_EVENT_BANK_INVALID).report 0x08 4 0x0001
  let s := if idB then s else (s.ev fATTIC_EVENT_BANK_INVALID).report 0x08 5 0x0001
  let s := (s.setF fATTIC_STATUS_ID_OK (b2n idA + 2 * b2n idB)).setF fIDENT_STATUS_KEY_OK (b2n keyOk)
  let s := (s.setF fIDENT_STATUS_CHAIN_OK (b2n (idA || idB))).setF fIDENT_STATUS_CHAIN_COPY (b2n (!idA && idB))
  s.reportIf (!idA && !idB) 0x08 0 0x0003

/-- The CONFIG banks (R526). -/
def configFound (s : State) (c0 c1 : BankFound) : State :=
  let s := configBank (seqAmbiguous (bankFound (bankFound s 0 0 c0) 0 1 c1) c0 c1)
  s.reportIf (s.on fATTIC_STATUS_CONFIG_EMPTY) 0x08 0 0x0002

/-- What the log holds: the records that this model knows stand before what was found (R508, R529). -/
def logFound (s : State) (lastBoot lastSeq held newestCode : Nat) : State :=
  let l := s.isl.log
  let boot := if l.isEmpty then lastBoot else maxList (l.map (fun r => r.boot))
  let (seq, code) := match l with
    | r :: _ => (r.seq, r.code)
    | [] => (lastSeq, newestCode)
  let s := if code = 0x0A000108 then resetCause s fGLB_RESET_CAUSE_SEQ_ERROR else s
  let s := s.setF fSAFE_LOG_STATUS_HELD (satTo 0xFFFF (max held l.length))
  { s with isl := { s.isl with running := true, boot := (boot + 1) % 2 ^ 32, nextSeq := (seq + 1) % 2 ^ 32 } }

/-- The firmware sets the fixed entries of each converter, which the manual does not list (R476). -/
def fixedEntries (s : State) : State :=
  (List.range 11).foldl (fun s c => (List.range 12).foldl (fun s i =>
    let (v, s) := takeFree s
    s.setRn (rMADC_SEQ c i) (v % 2 ^ 31)) s) s

/-- The digests of measurement blocks 1 to 3 (R517). -/
def bootDigests (s : State) : State :=
  let (a, s) := takeFree s
  let (b, s) := takeFree s
  let (c, s) := takeFree s
  { s with ident := { s.ident with digests := [a, b, c] } }

def islandRunning (s : State) (c0 c1 : BankFound) (idA idB keyOk : Bool)
    (lastBoot lastSeq held newestCode challenge : Nat) : State :=
  let s := setBoot s (fun b => { b with island := true })
  let s := logFound s lastBoot lastSeq held newestCode
  let s := bootDigests (fixedEntries (identityFound (configFound s c0 c1) idA idB keyOk))
  bootStage (s.setPair rSAFE_WIND_CHAL_LO rSAFE_WIND_CHAL_HI (challenge % 2 ^ 64)) 2
def execIslandFirmwareRunning (cfg0 cfg1 : BankFound) (idA idB keyOk : Bool)
    (lastBoot lastSeq held newestCode challenge : Nat) (s : State) : Out :=
  .next (bootEv s (s.pow.boot.bank && !s.pow.boot.island)
    (islandRunning s cfg0 cfg1 idA idB keyOk lastBoot lastSeq held newestCode challenge))

def startupTest (s : State) (ok : Bool) : State :=
  let s := setBoot s (fun b => { b with startup := true })
  if ok then
    let s := bootStage (s.setF fGLB_BOOT_STATUS_ISLAND_OK 1) 3
    calBegin (calBegin (calBegin s 0) 1) 10
  else bootFail s 0x05000104
def execStartupTestPassed (ok : Bool) (s : State) : Out :=
  .next (bootEv s (s.pow.boot.island && !s.pow.boot.startup) (startupTest s ok))

/-- MADC[A], MADC[B] and AADC (R474); the manual names no boot fault for the calibrations of R57, so MADC's is that of the
island's line of R56, and AADC's is open. -/
def convertersCal (s : State) (a b aon : CalResult) : State :=
  let s := setBoot s (fun x => { x with convCal := true })
  let s := calEnded (calEnded (calEnded s 0 a) 1 b) 10 aon
  if !calGood a || !calGood b then bootFail s 0x05000104
  else if !calGood aon then
    let (v, s) := takeFree s
    bootFail s (v % 2 ^ 32)
  else s
def execConvertersCalibrated (a b aon : CalResult) (s : State) : Out :=
  .next (bootEv s (s.pow.boot.startup && !s.pow.boot.convCal) (convertersCal s a b aon))

/-! ### PCIe, Larder and LP5X -/

def pcieReady (s : State) : State :=
  let s := setBoot s (fun b => { b with pcie := true })
  if railUp s 6 && (s.pow.perst || decide (s.now ≤ s.pow.perstLowAt + 10000000)) then s.setF (fPWR_DOM_STATE 13) 0 else s
def execPcieControllerReady (s : State) : Out :=
  .next (bootEv s (s.pow.boot.island && !s.pow.boot.pcie) (pcieReady s))

def larderPool (s : State) (hubOk : Bool) (stuck : List Nat) : State :=
  let cells := (stuck.map (fun c => c % 393216)).eraseDups
  let s := setBoot s (fun b => { b with larder := true })
  let s := { s.setF fLARDER_RETIRED_BOOT cells.length with larder := { s.larder with stuck := cells } }
  if hubOk && decide (cells.length ≤ 3932) then s else bootFail s 0x01000101
def execLarderPoolInitialised (hubOk : Bool) (stuck : List Nat) (s : State) : Out :=
  .next (bootEv s (s.pow.boot.island && !s.pow.boot.larder) (larderPool s hubOk stuck))

def stacksTrained (s : State) (ok0 ok1 : Bool) : State :=
  let s := setBoot s (fun b => { b with lp5x := true, memOk := b2n ok0 + 2 * b2n ok1 })
  (s.setF (fPWR_DOM_STATE 10) (if ok0 then 0 else 5)).setF (fPWR_DOM_STATE 11) (if ok1 then 0 else 5)
def execLp5xStacksTrained (ok0 ok1 : Bool) (s : State) : Out :=
  .next (bootEv s (s.pow.boot.island && !s.pow.boot.lp5x) (stacksTrained s ok0 ok1))

/-! ### Tiles and the kernel library (R55) -/

def activeTiles (s : State) : Nat := s.fv fGLB_STRAPS_ACTIVE_TILES
/-- The tile that is powered next. -/
def nextTile (s : State) : Option Nat := (List.range (activeTiles s)).find? (fun n => !bitAt s.pow.boot.powered n)

def tilePowered (s : State) : State :=
  match nextTile s with
  | some n =>
    let s := setBoot s (fun b => { b with powered := putBits b.powered n 1 1 })
    let s := calBegin (s.setF (fPWR_DOM_STATE (2 + n)) 0) (2 + n)
    bootStage s 4
  | none => s
def execTilePowered (s : State) : Out := .next (bootEv s s.pow.boot.startup (tilePowered s))

def tileTest (s : State) (n : Nat) (failed : List Nat) (dispatcherOk shelfOk : Bool) (tadc : CalResult) : State :=
  let bad := (failed.map (fun w => w % 128)).eraseDups
  let healthy := 128 - bad.length
  let good := calGood tadc
  let fence := !dispatcherOk || !shelfOk || !good || decide (healthy < 64)
  let s := setBoot s (fun b => { b with
    tested := putBits b.tested n 1 1, tadcCal := putBits b.tadcCal n 1 (b2n good),
    reduced := b.reduced || fence || !bad.isEmpty })
  let s := bad.foldl (fun s w => s.setF ⟨rTILE_WHEEL_FENCED n (w / 32), w % 32, 1⟩ 1) s
  let s := (s.setF (fTILE_STATUS_HEALTHY n) healthy).setF (fGLB_TILE_WHEELS_HEALTHY n) healthy
  let s := calEnded s (2 + n) tadc
  if fence then
    let s := (s.setF (fTILE_STATUS_STATE n) 2).setF (fTILE_STATUS_CAUSE n) 7
    domDrain (s.setF (fGLB_TILE_WHEELS_FENCED_FAULT n) 1) (2 + n) 3
  else s.setF (fTILE_STATUS_STATE n) 1
def execTileTestDone (n : Nat) (failed : List Nat) (dispatcherOk shelfOk : Bool) (tadc : CalResult) (s : State) : Out :=
  .next (bootEv s (bitAt s.pow.boot.powered (n % 8) && !bitAt s.pow.boot.tested (n % 8))
    (tileTest s (n % 8) failed dispatcherOk shelfOk tadc))

/-- Every active tile has been tested. -/
def tilesTested (s : State) : Bool := (List.range (activeTiles s)).all (fun n => bitAt s.pow.boot.tested n)

def kernelsLoaded (s : State) (ok : Bool) (kernels : List Nat) : State :=
  let lib := s.rn rGLB_LIB_VERSION
  let s := bootStage s 5
  if ok then
    let s := setBoot s (fun b => { b with kernels := true, kernelIds := kernels.eraseDups, library := lib })
    bootStage (s.setF fGLB_BOOT_STATUS_KERNELS 1) 6
  else bootFail s (0x08000103 + s.fv fGLB_BOOT_STATUS_BANK * 2 ^ 16)
def execKernelLibraryLoaded (ok : Bool) (kernels : List Nat) (s : State) : Out :=
  .next (bootEv s (s.pow.boot.startup && tilesTested s && !s.pow.boot.kernels) (kernelsLoaded s ok kernels))

/-! ### The service set (R56, R58) -/

def pcieEgress (s : State) : Bool := railUp s 6 && s.pow.boot.pcieCal
def fabricEgress (s : State) : Bool :=
  railUp s 5 && s.pow.boot.fref
    && (List.range 4).any (fun k => bitAt s.pow.boot.laneCal (2 * k) && bitAt s.pow.boot.laneCal (2 * k + 1))
def sensorPort (s : State) : Bool :=
  railUp s 4 || (List.range 32).any (fun n => railUp s (n / 8) && bitAt s.pow.boot.sportCal n)

/-- READY is set, with DEGRADED where R58 says so. -/
def bootReady (s : State) : State :=
  let b := s.pow.boot
  let up := maskOf 8 (tileUp s)
  let degraded := b.reduced || s.on fGLB_BOOT_STATUS_ONE_BANK || !s.larder.stuck.isEmpty || b.memOk != 3
  let adc := (List.range (activeTiles s)).all (fun n => bitAt b.tadcCal n)
  let s := (s.setF fGLB_BOOT_STATUS_READY 1).setF fGLB_BOOT_STATUS_DEGRADED (b2n degraded)
  let s := (s.setF fGLB_BOOT_STATUS_ADC_CAL (b2n adc)).setF fGLB_BOOT_STATUS_TILES_IN_SERVICE up
  let s := (s.setF fGLB_BOOT_STATUS_MEM_IN_SERVICE b.memOk).setF fGLB_BOOT_STATUS_EGRESS_PCIE (b2n (pcieEgress s))
  let s := bootStage (s.setF fGLB_BOOT_STATUS_EGRESS_FABRIC (b2n (fabricEgress s))) 15
  let s := s.setF fMGT_ALERT_STATUS_READY 1
  let s := if degraded then s.setF fMGT_ALERT_STATUS_DEGRADED 1 else s
  let s := { s with pow := { s.pow with phase := .ready } }
  if s.pcie.configReady then writeInventory s 2 else s

def serviceSet (s : State) : State :=
  if (List.range 8).all (fun n => !tileUp s n) then bootFail s 0x13000105
  else if !sensorPort s then bootFail s 0x0C000106
  else if !pcieEgress s && !fabricEgress s then bootFail s 0x04000107
  else bootReady s
def execServiceSetEvaluated (s : State) : Out :=
  .next (bootEv s (s.pow.boot.kernels && s.pow.boot.convCal && s.pow.boot.larder && s.pow.boot.lp5x && s.pow.boot.pcie)
    (serviceSet s))

end Sys2Proof.Machine
end

