-- ==== Sys2Proof/Machine/Commit.lean ====
section
/-!
DEFINITION. Commits (spec/08_frames_commits_hallmarks.md R174 to R184): the lock, the check, arming, the swap
at a frame start, late commits, and the commits that a stop or a fence ends.
-/

namespace Sys2Proof.Machine

/-! ### The outcome of a commit -/

/-- The commit leaves the queue; its target is IDLE and unlocked. -/
def dropCommit (s : State) (c : CommitRec) (status : Nat) : State :=
  let s := { s with commits := s.commits.filter (fun x => x.cmd.id != c.cmd.id) }
  let s := (s.setF (fCMT_COMMIT_STATUS_STATE c.target) 0).setF (fCMT_COMMIT_STATUS_LOCKED c.target) 0
  s.setF (fCMT_COMMIT_STATUS_LAST_STATUS c.target) status

/-- A commit ends with `status`; `fsn` is the FSN reached where it took effect (R357, R194). -/
def endCommit (s : State) (c : CommitRec) (status fsn : Nat) : State :=
  let t := c.target
  let s := dropCommit s c status
  let s := s.evIf (status == 0x00 || status == 0x01) (fCMT_EVENT_COMMIT_DONE t)
  let s := s.evIf (status == 0x40 || status == 0x41) (fCMT_EVENT_COMMIT_REJECT t)
  let s := s.evIf (status == 0x01 || status == 0x43) (fCMT_EVENT_COMMIT_LATE t)
  complete s c.cmd status ((if status ≤ 0x01 then fsn else 0) + s.rn (rCMT_CONFIG_GEN t) * 2 ^ 32) (s.rn (rCMT_REJECT t))

/-- The ADMIT registers (R184, R287). -/
def setAdmit (s : State) (t : Nat) (a : Admit) : State :=
  let s := s.setRn (rCMT_ADMIT_PLACE t)
    (a.place.host.getD 0 + b2n a.place.twin.isSome * 8 + a.place.twin.getD 0 * 16)
  let s := ((s.setRn (rCMT_ADMIT_OPS t) a.ops).setRn (rCMT_ADMIT_LOAD t) a.permille).setRn
    (rCMT_ADMIT_INTAKE t) a.intake
  let s := (s.setRn (rCMT_ADMIT_CELLS t) a.cells).setRn (rCMT_ADMIT_LP5X t) a.lp5x
  (List.range 4).foldl (fun s o => s.setRn (rCMT_ADMIT_LATENCY t o) (a.latency.getD o 0)) s

/-- REJECT. -/
def setReject (s : State) (t rule detail source : Nat) : State :=
  s.setRn (rCMT_REJECT t) (rule % 65536 + detail % 256 * 65536 + source % 256 * 2 ^ 24)

/-! ### The swap (R170) -/

/-- The shadow set of target `t` becomes active on the tiles of `x`. -/
def swapSet (s : State) (t : Nat) (x : Place) : State :=
  let old := actCfg s
  let s := setPlace (copySet s t) t x
  let s := s.setRn (rCMT_CONFIG_GEN t) (s.rn (rCMT_CONFIG_GEN t) + 1)
  if t < 32 then
    let s := if !s.started.contains t && s.fv (fKSCHED_STATUS_STATE t) = 3 then s.setF (fKSCHED_STATUS_STATE t) 0
      else s
    pipeSwap s t old (actCfg s)
  else s

/-- The target runs: its stream is started, or its canvas is enabled. -/
def targetRuns (s : State) (t : Nat) : Bool :=
  if t < 32 then s.started.contains t else s.on (fCV_ENABLE_EN (t - 32))

/-! ### COMMIT (R174) -/

/-- The target of a COMMIT; none where a field is out of its range. -/
def commitTarget (c : Cmd) : Option Nat :=
  let i := bitsOf c.target 0 5
  let canvas := bitAt c.target 8
  if c.reserved || c.addr != 0 || c.len != 0 || c.target != i + b2n canvas * 256 || decide (2 ^ 32 ≤ c.arg0)
      || decide (4 ≤ c.arg1) || (canvas && decide (4 ≤ i)) then none
  else some (if canvas then 32 + i else i)

/-- A commit becomes the outstanding one of its target, and locks the shadow set. -/
def cmdCommit (s : State) (c : Cmd) : State :=
  match commitTarget c with
  | none => complete s c 0x04
  | some t =>
    if s.commits.any (fun x => x.target == t) then complete s c 0x42
    else
      let r : CommitRec := { cmd := c, target := t, fsn := c.arg0, next := bitAt c.arg1 0,
                             noRetarget := bitAt c.arg1 1 }
      let s := { s with commits := s.commits ++ [r] }
      (s.setF (fCMT_COMMIT_STATUS_STATE t) 1).setF (fCMT_COMMIT_STATUS_LOCKED t) 1

def execCommit (s : State) : Out := .next (hub s (onCmd s 0x21 cmdCommit))

/-! ### The check (R175 to R179) -/

/-- A commit that passed is armed for its target frame, or is late (R178, R179). -/
def armCommit (s : State) (c : CommitRec) (a : Admit) : State :=
  let t := c.target
  let f := frameNo s t
  let goal : Int := if c.next then f + 1 else unwrap s t c.fsn
  let late := decide (goal ≤ f)
  if late && c.noRetarget then endCommit s c 0x43 (fsnOf f)
  else
    let goal := if late then f + 1 else goal
    let c' := { c with armed := true, late := late, goal := goal, place := a.place }
    let s := { s with commits := s.commits.map (fun (x : CommitRec) => if x.cmd.id = c.cmd.id then c' else x) }
    (s.setF (fCMT_COMMIT_STATUS_STATE t) 2).setRn (rCMT_COMMIT_TARGET t) (fsnOf goal)

/-- The commit that is checked next: the first fetched one that is not armed (R175). -/
def checkNext (s : State) : Option CommitRec := s.commits.find? (fun c => !c.armed)

/-- One commit is checked. -/
def commitCheck (s : State) : State :=
  match checkNext s with
  | none => s
  | some c =>
    let t := c.target
    match consistency s t with
    | some (code, detail, source) =>
      endCommit (setAdmit (setReject s t code detail source) t {}) c 0x40 0
    | none =>
      let a := admitCommit s t
      let s := setAdmit s t a
      if a.rule ≠ 0 then endCommit (setReject s t a.rule a.detail 0) c 0x41 0
      else
        let s := setReject s t 0 0 0
        if targetRuns s t then armCommit s c a else endCommit (swapSet s t a.place) c 0x00 0

def execCommitCheck (s : State) : Out := .next (hub s (commitCheck s))

/-! ### At a frame start (R178, R179) -/

/-- The rules that are evaluated again at the swap: 0x0107 and 0x010A. -/
def swapRules (s : State) (t : Nat) : Option Broken :=
  if t < 32 then firstRule (portRule s (mapEntries (swapCfg s t) t) ++ moveRule s t) else none

/-- The frame start of frame `f` of target `t` has been accepted: an armed commit whose frame it is takes
effect. -/
def commitAtFrame (s : State) (t : Nat) (f : Int) : State :=
  match armedOf s t with
  | none => s
  | some c =>
    if c.goal ≤ f then
      match swapRules s t with
      | some (code, detail, source) => endCommit (setReject s t code detail source) c 0x40 (fsnOf f)
      | none => endCommit (swapSet s t c.place) c (if c.late then 0x01 else 0x00) (fsnOf f)
    else s

/-! ### Stops and fences (R180) -/

/-- The stream or canvas of target `t` stops: its armed commit ends. A commit that is still being checked goes
on. -/
def stopCommit (s : State) (t : Nat) : State :=
  match armedOf s t with
  | some c => endCommit s c 0x44 (fsnOf (frameNo s t))
  | none => s

/-- Re-admission checks the armed set of target `t` again, without the tiles of `excl`. -/
def recheckArmed (s : State) (t : Nat) (excl : List Nat) : State :=
  match armedOf s t with
  | none => s
  | some c =>
    let d := demandOf s (newCfg s t) t
    let own := activeSet s t
    let a := admitTile s t d own (placeOf s t).host d.tileReq excl
    let s := setAdmit s t a
    if a.rule = 0 then
      { s with commits := s.commits.map (fun (x : CommitRec) => if x.cmd.id = c.cmd.id then { c with place := a.place } else x) }
    else endCommit (setReject s t 0x0701 a.detail 0) c 0x41 (fsnOf (frameNo s t))

end Sys2Proof.Machine
end

