-- ==== Sys2Proof/Machine/Frames.lean ====
section
/-!
DEFINITION. A frame of a pipeline from its acceptance to its end: FSN and stamps (R104, R163), the swap, early
and moved frames (R278, R294), decimation (R227), embedded-data parsing (R203), black levels (R205, R206)
and defect statistics (R209).
-/

namespace Sys2Proof.Machine

/-! ### Acceptance -/

/-- Whether output `o` keeps the frame: a swap that changed its decimation keeps the swap's frame and restarts
the count from it. -/
def keepOut (rd : Cfg) (x : Pipe) (p o fs : Nat) : Bool × Pipe :=
  let cnt := kgetD 0 o x.decim
  let (k, c) := if x.force.contains o then
      (true, if rd.f (fOUT_DECIM_MODE p o) = 0 then 1 % (rd.f (fOUT_DECIM_N_M1 p o) + 1) else 0)
    else decimKeep rd p o cnt (kget o x.lastKept) fs
  (k, { x with decim := kput o c x.decim, lastKept := if k then kput o fs x.lastKept else x.lastKept })

/-- The statistics keep the frame (R265). -/
def keepStats (rd : Cfg) (x : Pipe) (p : Nat) : Bool × Pipe :=
  let n := rd.f (fSTATS_CTRL_N_M1 p) + 1
  let c := if x.force.contains 4 then 0 else x.statCnt
  (c % n == 0, { x with statCnt := (c + 1) % n })

/-- Every output's decision; the skipped enabled ones are counted. -/
def decimate (s : State) (rd : Cfg) (p fs : Nat) : List Nat × Bool × State :=
  let step (a : List Nat × State) (o : Nat) : List Nat × State :=
    let (k, x) := keepOut rd (pipeOf a.2 p) p o fs
    let s := setPipe a.2 p x
    if !outEn rd p o then (a.1, s)
    else if k then (a.1 ++ [o], s)
    else (a.1, s.bump (fOUT_CNT_DECIMATED p o))
  let (kept, s) := (List.range 4).foldl step ([], s)
  let (st, x) := keepStats rd (pipeOf s p) p
  (kept, st && anyStats rd p, setPipe s p { x with force := [] })

/-- The groups that the frame's window writes become its burst (R148). -/
def assembleBurst (s : State) (p : Nat) (f : Int) : State :=
  match (escOf s p).profile with
  | some pr => addBurst s p pr (frameGroups pr (escOf s p).entries f)
  | none => s

/-- The stamps of a frame start (R104). -/
def stampFs (s : State) (n k p : Nat) : State :=
  let s := s.setPair (rTS_FS_LO n) (rTS_FS_HI n) s.dial
  let s := (s.setF (fTS_FS_INFO_VC n) k).setF (fTS_FS_INFO_PIPE n) p
  if n < 32 && (kget n s.regu.sched).isSome then setSched s n { sched s n with fsAt := s.dial } else s

/-- A frame start is accepted on channel `k` of port `n` for pipeline `p`. -/
def acceptFrame (s : State) (n k p : Nat) : State :=
  let fs := s.dial
  let f := frameNo s p + 1
  let s := stampFs { s with frameNo := kput p f s.frameNo, frameAt := kput p fs s.frameAt } n k p
  let s := s.setRn (rCMT_FSN p) (fsnOf f)
  let s := assembleBurst (ledgerFrame (commitAtFrame s p f) p f) p f
  let cfg := frameCfg s p (some (n, k))
  let rd := snapCfg cfg
  let x := pipeOf s p
  let early := match x.prevFs with
    | some t => decide ((fs - t) * 16 < frameNs rd p * 15)
    | none => false
  let held := match x.moved with
    | some t => decide (fs < t)
    | none => false
  let s := setPipe s p { x with prevFs := some fs, moved := if held then x.moved else none }
  let s := if x.moved.isSome && !held then s.setF (fKSCHED_STATUS_STATE p) 1 else s
  let s := if early then
      ((s.bump (fKSCHED_CNT_EARLY_FRAME p)).ev (fKSCHED_EVENT_EARLY_FRAME p)).report 0x11 p 0x0116
    else s
  let (kept, st, s) := decimate s rd p fs
  let (w, h) := entryGeom rd n k
  let fr : Frame := {
    n := f, fs := fs, port := n, chan := k, dt := rd.f (fSPORT_VC_MAP_DT n k), width := w, height := h, cfg := cfg,
    gen := s.rn (rCMT_CONFIG_GEN p), kept := kept, stats := st, noSlices := early || held,
    truncated := early || held, outs := kept.map (fun o => (o, {})) }
  let dw := (kept.filter (outDewarp rd p)).map (fun o => (o, 1 - kgetD 1 o (pipeOf s p).dwBuf))
  updPipe s p (fun x => { x with
    frames := x.frames ++ [{ fr with dw := dw }], dwBuf := dw.foldl (fun m y => kput y.1 y.2 m) x.dwBuf })

/-! ### Embedded fields and levels -/

/-- Parse field `i` of frame `f`. -/
def parseOne (s : State) (p : Nat) (f : Frame) (i : Nat) : State :=
  let rd := f.rd
  match parseField rd p i f.top f.bottom f.embBad with
  | some v =>
    let s := (s.setRn (rFE_EMB_FIELD_VAL p i) v).setF ⟨rFE_EMB_STATUS p, i, 1⟩ 1
    let s := s.setRn (rFE_EMB_FSN p) (fsnOf f.n)
    let s := updPipe s p (fun x => { x with parsed := if x.parsed.contains i then x.parsed else i :: x.parsed })
    updFrame s p f.n (fun x => { x with vals := kput i v x.vals })
  | none =>
    let s := (s.setF ⟨rFE_EMB_STATUS p, i, 1⟩ 0).ev (fFE_EVENT_EMB_FIELD_BAD p)
    let s := s.report 0x11 p 0x0123
    updFrame s p f.n (fun x => { x with vals := kput (8 + i) (s.rn (rFE_EMB_FIELD_VAL p i)) x.vals })

/-- The enabled fields of top (or bottom) lines are parsed. -/
def parseFields (s : State) (p : Nat) (f : Frame) (bottom : Bool) : State :=
  let rd := f.rd
  (List.range 8).foldl (fun s i =>
    if rd.on (fFE_EMB_FIELD_CFG_EN p i) && decide (4 ≤ rd.f (fFE_EMB_FIELD_CFG_LINE p i)) == bottom then
      parseOne s p f i
    else s) s

/-- A level limited to BL_BASE ± RANGE and to no less than 0; whether the limit acts. -/
def limitLevel (base range : Nat) (v : Int) : Nat × Bool :=
  let l := clampInt 0 (Int.ofNat (base + range)) (clampInt (Int.ofNat base - Int.ofNat range) (Int.ofNat (base + range)) v)
  (l.toNat, !decide (l = v))

/-- The level of each code for the frame in progress (R205). -/
def levelsOf (s : State) (rd : Cfg) (p : Nat) : List (Nat × Bool) :=
  let src := rd.f (fFE_BL_CFG_SRC p)
  let fld := rd.f (fFE_BL_CFG_FIELD p)
  (List.range 6).map (fun c =>
    let base := rd.f (fFE_BL_BASE_LEVEL p c)
    let range := rd.f (fFE_BL_CFG_RANGE p)
    if src = 1 then limitLevel base range (sar (((pipeOf s p).track.getD c (Int.ofNat base * 256)) + 128) 8)
    else if src = 2 && (pipeOf s p).parsed.contains fld then
      limitLevel base range (Int.ofNat (s.rn (rFE_EMB_FIELD_VAL p fld)))
    else (base, false))

/-- The first image line is about to enter the front end: top lines are parsed and verified, and the frame's
levels are fixed (R203, R160, R205). -/
def beginImage (s : State) (p : Nat) (n : Int) : State :=
  match frameOf s p n with
  | none => s
  | some f =>
    if f.began then s
    else
      let rd := f.rd
      let s := parseFields s p f false
      let s := verifyFrame s p n f.top f.bottom f.embBad false
      let use := rd.on (fFE_CTRL_BL_EN p) && f.fmt.raw
      let ls := levelsOf s rd p
      let s := if use then
          let s := (List.range 6).foldl (fun s c => s.setF (fFE_BL_LEVEL_LEVEL p c) ((ls.getD c (0, false)).1)) s
          if ls.any (fun x => x.2) then (s.ev (fFE_EVENT_OB_RANGE p)).report 0x11 p 0x0120 else s
        else s
      updFrame s p n (fun x => { x with began := true, levels := some (ls.map (fun x => x.1) ++ [0, 0]) })

/-! ### Lines -/

/-- An image line reaches the shelf; a damaged one is marked. -/
def addLine (s : State) (p : Nat) (n : Int) (samples : List Nat) (damaged : Bool) : State :=
  let s := beginImage s p n
  updFrame s p n (fun f => { f with
    lines := f.lines ++ [samples],
    bad := if damaged then f.lines.length :: f.bad else f.bad,
    damaged := f.damaged + b2n damaged })

/-- The line that replaces a damaged one (R81). -/
def replacement (s : State) (p : Nat) (n : Int) (fill : Nat) : List Nat :=
  match frameOf s p n with
  | none => []
  | some f => (f.lines.getLast?).getD (List.replicate (f.width * f.fmt.per) fill)

/-! ### The end of a frame -/

/-- The samples of code `c` in the optical-black region (R206). -/
def obSamples (rd : Cfg) (p c : Nat) (lines : Plane) : List Nat :=
  let codes := cfaCodes rd p
  let nl := rd.f (fFE_OB_REGION_OB_LINES p)
  let nc := rd.f (fFE_OB_REGION_OB_COLS p)
  (mapPix (fun x y v => if (decide (y < nl) || decide (x < nc)) && cfaAt codes x y == c then some v else none)
    lines).flatten.filterMap id

/-- The tracked levels after a frame. -/
def trackLevels (s : State) (p : Nat) (f : Frame) : State :=
  let rd := f.rd
  let nl := rd.f (fFE_OB_REGION_OB_LINES p)
  let nc := rd.f (fFE_OB_REGION_OB_COLS p)
  let need := if nc = 0 then nl else f.height
  if !(rd.on (fFE_CTRL_BL_EN p) && f.fmt.raw) || rd.f (fFE_BL_CFG_SRC p) ≠ 1 || f.noSlices
      || (f.truncated && f.lines.length < need) || f.bad.any (fun y => decide (y < need)) then s
  else
    let raw := f.lines.map (rawLine f.fmt)
    let upd (c : Nat) (t : Int) : Int :=
      let l := obSamples rd p c raw
      if l.length < 16 then t
      else t + sar ((Int.ofNat (sumList l / l.length * 256) - t) * Int.ofNat (rd.f (fFE_BL_CFG_ALPHA p))) 8
    updPipe s p (fun x => { x with track := mapFrom upd 0 x.track })

/-- The defect statistics of a frame (R209). -/
def defectStats (s : State) (p : Nat) (f : Frame) : State :=
  let rd := f.rd
  if !f.fmt.raw || !(rd.on (fFE_CTRL_DEF_STATIC_EN p) || rd.on (fFE_CTRL_DEF_DYN_EN p)) then s
  else
    let n := dynCount ((afterDefects rd p f.width f.height f.lev (f.lines.map (rawLine f.fmt))).take (f.delivers p))
    let g := (staticList rd p f.width f.height).2
    let s := (s.setF (fFE_DEFECT_STATS_DYN_CORRECTED p) (satTo 0xFFFF n)).setF (fFE_DEFECT_STATS_LIST_IGNORED p)
      (satTo 0xFFFF g)
    let s := if 0 < g then (s.ev (fFE_EVENT_DEFECT_LIST p)).report 0x11 p 0x0122 else s
    if rd.f (fFE_DEFECT_CFG_DYN_LIMIT p) < n then (s.ev (fFE_EVENT_DEFECT_LIMIT p)).report 0x11 p 0x0121 else s

/-- A frame ends, by its frame end or by a truncation. -/
def endFrame (s : State) (p : Nat) (n : Int) (truncated corrupt : Bool) : State :=
  let s := beginImage s p n
  let s := updFrame s p n (fun f => { f with
    truncated := f.truncated || truncated, corrupt := f.corrupt || corrupt, fe := some s.dial })
  match frameOf s p n with
  | none => s
  | some f =>
    let s := parseFields s p f true
    let s := verifyFrame s p n f.top f.bottom f.embBad true
    trackLevels s p f

/-- How many front-end slices of a frame have their input on the shelf (R200, R201). -/
def slicesReady (p : Nat) (f : Frame) : Nat :=
  if f.halted then f.released
  else if f.noSlices then 0
  else ((List.range (f.last p + 1)).filter (fun k =>
    decide (sliceReady f.height (f.sl p) k (k == f.last p) < f.lines.length))).length

end Sys2Proof.Machine
end

