-- ==== Sys2Proof/Machine/SliceOps.lean ====
section
/-!
DEFINITION. The content of output slices (spec/10_outputs_canvases.md R225 to R237): the lines of cropped, scaled,
mosaic and dewarped outputs, and the dewarp stores.
-/

namespace Sys2Proof.Machine

/-- The picture that output `o` takes, from the lines on the shelf. -/
def outPicture (p o : Nat) (f : Frame) : Pic :=
  let rd := f.rd
  if outMosaic rd p o then mosaicPic rd p f.width f.height f.fmt f.lev f.lines
  else processed rd p f.width f.height (f.cls p) f.fmt f.lev f.lines

/-- The line `j` of an output in its format. -/
def outLine (rd : Cfg) (p o j : Nat) (row : List (List Nat)) : OutLine :=
  let (a, b) := lineBytes (outFormat rd p o) (rd.f (fOUT_CTRL_CSC p o)) row
  ⟨j, a, b⟩

/-- The lines `js` of an output that does not dewarp. -/
def plainLines (p o : Nat) (f : Frame) (js : List Nat) : List OutLine :=
  let rd := f.rd
  let c := cropOf rd p o
  let hl := (cropPic c (outPicture p o f)).map (scaleLine (coefAt rd p o 0) c.w (outW rd p o))
  js.map (fun j => outLine rd p o j (scaledLine rd p o c hl j))

/-! ### Dewarp stores (R234, R290) -/

/-- The components of the frame's processed picture. -/
def Frame.comps (f : Frame) (p : Nat) : Nat := classComps (f.cls p)

/-- The base of the buffer that a frame's output `o` writes; the twin tile has its own two. -/
def dwAt (p o : Nat) (f : Frame) (twin : Bool) : Nat :=
  let rd := f.rd
  dwBase rd p o + (kgetD 0 o f.dw + 2 * b2n twin) * dwBuf (cropOf rd p o) (f.comps p)

/-- The crop lines that front-end slice `k` holds are written to the store. -/
def storeCrop (s : State) (p o : Nat) (f : Frame) (k : Nat) (twin : Bool) : State :=
  let rd := f.rd
  let c := cropOf rd p o
  let a := sliceFirst (f.sl p) (f.ctx p) k
  let b := sliceLast f.height (f.sl p) (f.ctx p) k
  let pic := outPicture p o f
  let pitch := dwPitch c (f.comps p)
  ((List.range c.h).filter (fun y => decide (a ≤ c.y + y) && decide (c.y + y ≤ b))).foldl (fun s y =>
    let row := ((pic.getD (c.y + y) []).drop c.x).take c.w
    memWrite s (dwAt p o f twin + y * pitch) (padMul 64 (row.flatMap (fun v => v.flatMap (leBytes 2))))) s

/-- The address of a component in the store. -/
def dwAddr (p o : Nat) (f : Frame) (twin : Bool) (col line comp : Nat) : Nat :=
  dwAt p o f twin + line * dwPitch (cropOf f.rd p o) (f.comps p) + (col * f.comps p + comp) * 2

/-- One dewarped pixel. -/
def dewarpPix (s : State) (p o : Nat) (f : Frame) (twin : Bool) (x y : Nat) : List Nat :=
  let rd := f.rd
  let c := cropOf rd p o
  let q := meshAt rd p o x y
  (List.range (f.comps p)).map (fun k =>
    if meshIn c q then dewarpAt c q (fun col line => leNat (memRead s (dwAddr p o f twin col line k) 2))
    else rd.f (fOUT_DW_FILL_VALUE p o))

/-- A sample that a dewarped pixel reads is poisoned. -/
def dewarpBad (s : State) (p o : Nat) (f : Frame) (twin : Bool) (x y : Nat) : Bool :=
  let c := cropOf f.rd p o
  let q := meshAt f.rd p o x y
  meshIn c q && [0, 1].any (fun a => [0, 1].any (fun b =>
    memBad s (dwAddr p o f twin (min (c.w - 1) (q.1 / 8 + a)) (min (c.h - 1) (q.2 / 8 + b)) 0) (2 * f.comps p)))

/-- The lines `js` of a dewarped output, and whether a poisoned read reached them. -/
def dewarpLines (s : State) (p o : Nat) (f : Frame) (twin : Bool) (js : List Nat) : List OutLine × Bool :=
  let xs := List.range (outW f.rd p o)
  (js.map (fun y => outLine f.rd p o y (xs.map (fun x => dewarpPix s p o f twin x y))),
   !s.memPoison.isEmpty && js.any (fun y => xs.any (fun x => dewarpBad s p o f twin x y)))

/-- Lines whose bytes the manual leaves open: what a fault that no retry resolved has made of them. -/
def openLines (s : State) : List OutLine → List OutLine × State
  | [] => ([], s)
  | l :: ls =>
    let (a, s) := freeBytes s l.plane0.length
    let (b, s) := freeBytes s l.plane1.length
    let (rest, s) := openLines s ls
    (⟨l.y, a, b⟩ :: rest, s)

end Sys2Proof.Machine
end

