-- ==== Sys2Proof/Machine/Hallmarks.lean ====
section
/-!
DEFINITION. Hallmarks (spec/08_frames_commits_hallmarks.md R185 to R190, spec/10_outputs_canvases.md R248): what an
output knows of a frame, and the slice hallmarks and full hallmarks that it makes.
-/

namespace Sys2Proof.Machine

/-! ### Canvas frames -/

def canvasOf (s : State) (c : Nat) : Canvas := kgetD {} c s.canvas
def setCanvas (s : State) (c : Nat) (x : Canvas) : State := { s with canvas := kput c x s.canvas }
def cvFrameOf (s : State) (c n : Nat) : Option CvFrame := (canvasOf s c).frames.find? (fun f => f.n == n)
def updCvFrame (s : State) (c n : Nat) (g : CvFrame → CvFrame) : State :=
  let x := canvasOf s c
  setCanvas s c { x with frames := x.frames.map (fun f => if f.n = n then g f else f) }
def CvFrame.rd (f : CvFrame) : Cfg := snapCfg f.cfg

/-- The budget of a view of a canvas in ms (R245). -/
def viewBudget (s : State) (rd : Cfg) (c v : Nat) : Nat :=
  let b := rd.f (fCV_VIEW_BLEND_BUDGET_MS c v)
  if b = 0 then activeBudget s (rd.f (fCV_VIEW_CTRL_STREAM c v)) else b

/-- The smallest budget among the enabled views; 0 where there is none. -/
def canvasBudget (s : State) (rd : Cfg) (c : Nat) : Nat :=
  ((viewsOn rd c).map (viewBudget s rd c)).foldl (fun a b => if a = 0 || b < a then b else a) 0

/-! ### What an output has made of a frame -/

/-- The record of stream `st` for frame `n`. -/
def outOf (s : State) (st : Nat) (n : Int) : Option OutFrame :=
  if st < 128 then (frameOf s (st / 4) n).bind (fun f => kget (st % 4) f.outs)
  else (cvFrameOf s (st - 128) n.toNat).map (fun f => f.out)

def updOut (s : State) (st : Nat) (n : Int) (g : OutFrame → OutFrame) : State :=
  if st < 128 then updFrame s (st / 4) n (fun f =>
    { f with outs := f.outs.map (fun x => if x.1 = st % 4 then (x.1, g x.2) else x) })
  else updCvFrame s (st - 128) n.toNat (fun f => { f with out := g f.out })

/-- What the hallmarks of a frame of stream `st` say of the frame itself. -/
structure MarkInfo where
  fsn : Nat
  fs : Nat
  fe : Nat := 0
  entry : Nat := 0
  settings : Nat := 0
  source : Nat := 0
  damaged : Nat := 0
  budget : Nat := 0
  gen : Nat := 0
  ingest : Word := 0
  truncated : Bool
  corrupt : Bool := false
  last : Nat := 0
  deriving DecidableEq, Repr

/-- The ingest tally of a frame: the CRC over its image samples as 16-bit little-endian values (R188). -/
def ingestTally (f : Frame) : Word := crc32c (f.lines.flatMap (fun l => l.flatMap (leBytes 2)))

def markInfo (s : State) (st : Nat) (n : Int) : MarkInfo :=
  if st < 128 then
    match frameOf s (st / 4) n with
    | some f =>
      let (e, m) := ledgerOf s (st / 4) n
      { fsn := fsnOf n, fs := f.fs, fe := f.fe.getD 0, entry := e, settings := m, source := f.port + f.chan * 64,
        damaged := f.damaged, budget := (fresh s st).budget, gen := f.gen, ingest := ingestTally f,
        truncated := f.truncated, corrupt := f.corrupt, last := outH f.rd (st / 4) (st % 4) }
    | none => { fsn := fsnOf n, fs := 0, truncated := true }
  else
    match cvFrameOf s (st - 128) n.toNat with
    | some f => { fsn := fsnOf n, fs := f.start, fe := f.fe, budget := canvasBudget s f.rd (st - 128), gen := f.gen,
                  truncated := f.truncated, last := cvH f.rd (st - 128) }
    | none => { fsn := fsnOf n, fs := 0, truncated := true }

/-- STALE and SAFE_STATE as they stand now (R189). -/
def nowFlags (s : State) (st : Nat) (stale : Bool) : Nat :=
  8 * b2n (if st < 128 then viewStale s st else stale) + 64 * b2n (sokStatic s)

/-- The FLAGS of the slice hallmark of slice `x` (R189, R248). -/
def sliceFlags (s : State) (x : OutSlice) (i : MarkInfo) : Nat :=
  b2n i.truncated + 2 * b2n i.corrupt + x.flags + nowFlags s x.stream x.staleViews

/-- The two words of the slice hallmark of slice `x`, of index `k` in its frame (R186). -/
def sliceMark (x : OutSlice) (i : MarkInfo) (flags k : Nat) : List Nat :=
  let w2 := bitsOf i.fs 10 22 + (k % 1024) * 2 ^ 22
  let w3 := x.stream + flags % 256 * 256 + i.settings % 8 * 2 ^ 16 + b2n (x.last && !i.truncated) * 2 ^ 19
    + bitsOf i.entry 0 12 * 2 ^ 20
  [x.tally.toNat + i.fsn * 2 ^ 32, w2 + w3 * 2 ^ 32]

/-- The FLAGS of a full hallmark. -/
def fullFlags (s : State) (st : Nat) (n : Int) (o : OutFrame) (i : MarkInfo) : Nat :=
  let hatched := match cvFrameOf s (st - 128) n.toNat with
    | some f => 128 ≤ st && !f.hatched.isEmpty
    | none => false
  let bits (k : Nat) : Nat := b2n (bitAt o.flags k) * 2 ^ k
  let staleViews := bitAt o.flags 3
  b2n (i.truncated || o.cut) + 2 * b2n i.corrupt + bits 2 + bits 4 + 32 * b2n (o.twin && 0 < o.sent && st < 128)
    + nowFlags s st staleViews + 128 * b2n hatched

/-- The full hallmark of frame `n` of stream `st`, without its GMAC tag (R187, R248). -/
def fullMark (s : State) (st : Nat) (n : Int) : List Byte :=
  let o := (outOf s st n).getD {}
  let i := markInfo s st n
  let dev := if s.on fFABRIC_STATUS_ID_VALID then s.fv fFABRIC_STATUS_ID else 0
  let detail := match cvFrameOf s (st - 128) n.toNat with
    | some f => if 128 ≤ st then maskOf 16 (fun v => f.hatched.contains v) else o.detail
    | none => o.detail
  leBytes 1 (if st < 128 then 1 else 2) ++ leBytes 1 1 ++ leBytes 1 st ++ leBytes 1 (fullFlags s st n o i)
    ++ leBytes 4 i.fsn ++ leBytes 8 i.fs ++ leBytes 8 i.fe ++ leBytes 4 i.entry ++ leBytes 1 i.settings
    ++ leBytes 1 dev ++ leBytes 2 i.source ++ leBytes 2 (satTo 0xFFFF o.sent) ++ leBytes 2 (satTo 0xFFFF i.damaged)
    ++ leBytes 2 i.budget ++ leBytes 2 detail ++ leBytes 4 i.gen ++ leBytes 4 i.ingest.toNat
    ++ leBytes 4 (~~~ o.crc).toNat ++ leBytes 12 0

end Sys2Proof.Machine
end

