-- ==== Sys2Proof/Machine/Producer.lean ====
section
/-!
DEFINITION. The producers (spec/13_larder.md R304, R306, R307): output slices in the order of their frames, full
hallmarks, statistics packets, and the words that go into the queues.
-/

namespace Sys2Proof.Machine

/-! ### Packets -/

def addPkt (s : State) (st : Nat) (b : PktBody) : State :=
  { s with prod := kput st (kgetD [] st s.prod ++ [{ body := b }]) s.prod }

/-- A starved producer (R307). -/
def starve (s : State) (st : Nat) : State :=
  ((s.bump fLARDER_CNT_ERR_STARVED).ev fLARDER_EVENT_STARVED).report 0x14 st 0x0005

/-- Little-endian 8-byte words. -/
def toWords (bs : List Byte) : List Nat := (chunks 8 bs).map leNat

/-- The data words of a slice: its plane 0 lines, then its plane 1 lines, each padded to 64 bytes. -/
def sliceWords (x : OutSlice) : List Nat :=
  toWords (x.lines.flatMap (fun l => padMul 64 l.plane0) ++ x.lines.flatMap (fun l => padMul 64 l.plane1))

/-- What the mover must know of a packet. -/
def pktMeta : PktBody → PktMeta
  | .slice x => ⟨0, x.frame, 0, x.lines.map (fun l => (l.y, l.plane0.length, l.plane1.length))⟩
  | .full n => ⟨1, n, 0, []⟩
  | .stats n _ _ => ⟨2, n, 0, []⟩

/-- The packet at the front of stream `st` is gone. -/
def dropPkt (s : State) (st : Nat) : State := { s with prod := kput st ((kgetD [] st s.prod).drop 1) s.prod }

def setPkt (s : State) (st : Nat) (k : Pkt) : State :=
  { s with prod := kput st (k :: (kgetD [] st s.prod).drop 1) s.prod }

/-- Writing of the packet at the front begins: its credit is checked (R307). None where the packet is dropped. -/
def beginPkt (s : State) (st : Nat) (k : Pkt) : Option Pkt × State :=
  match k.body with
  | .slice x =>
    match outOf s st x.frame with
    | none => (none, s)
    | some o =>
      let ws := sliceWords x
      if o.cut then (none, s)
      else if credit s st < ceilDiv (ws.length + 2) 32 + 2 then
        (none, updOut (starve s st) st x.frame (fun o => { o with cut := true }))
      else
        (some { k with words := ws },
         updOut s st x.frame (fun o => { o with crc := crc32cFrom o.crc (tallyBytes x.lines) }))
  | .full n => (some { k with words := toWords (fullMark s st n) }, s)
  | .stats _ bs _ =>
    if credit s st < ceilDiv bs.length 256 + 1 then (none, starve s st) else (some { k with words := toWords bs }, s)

/-- The data of a slice has been written: its hallmark is made now. -/
def tailPkt (s : State) (st : Nat) (k : Pkt) : Pkt × State :=
  match k.body with
  | .slice x =>
    if k.words.isEmpty && !k.tailed then
      let i := markInfo s st x.frame
      let o := (outOf s st x.frame).getD {}
      let fl := sliceFlags s x i
      ({ k with words := sliceMark x i fl o.sent, tailed := true },
       updOut s st x.frame (fun o => { o with
         sent := o.sent + 1, flags := bitsOf (maskOf 8 (fun b => bitAt o.flags b || bitAt fl b)) 0 8,
         twin := o.twin && bitAt fl 5, detail := maskOf 16 (fun b => bitAt o.detail b || bitAt x.detail b) }))
    else (k, s)
  | _ => (k, s)

/-- One word of a packet is written into the queue. -/
def putWord (s : State) (st : Nat) (k : Pkt) : State :=
  let (k, s) := tailPkt s st k
  match k.words with
  | [] => dropPkt s st
  | w :: ws =>
    let last := ws.isEmpty && (k.tailed || (match k.body with
      | .slice _ => false
      | _ => true))
    let tag := if k.sent = 0 then some (pktMeta k.body) else none
    let s := writeWordL s st w last false tag
    if last then dropPkt s st else setPkt s st { k with words := ws, sent := k.sent + 1 }

/-- The next word of producer stream `st` (R306, R307). -/
def producerWord (s : State) (st : Nat) : State :=
  match kgetD [] st s.prod with
  | [] => s
  | k :: _ =>
    if !queueEn s st then dropPkt s st
    else if k.sent = 0 then
      match beginPkt s st k with
      | (none, s) => dropPkt s st
      | (some k, s) => putWord s st k
    else putWord s st k

def execLarderWordWrite (stream : Nat) (s : State) : Out := .next (hub s (producerWord s (stream % 192)))

/-! ### Slices in order -/

/-- A job of stream `st` for frame `n` has not ended. -/
def jobsOpen (s : State) (st : Nat) (n : Int) (dewarp : Bool) : Bool :=
  s.jobs.any (fun j => !j.twin && j.src == st / 4 && decide (j.frame = n)
    && (j.kind == 0 || (dewarp && j.kind == 1 && j.out == st % 4)))

/-- The first front-end slice that must be in the dewarp store before slice `k` of output `o` is made (R234). -/
def dwAfter (p o : Nat) (f : Frame) (k : Nat) : Nat :=
  sliceOfLine f.height (f.sl p) (f.ctx p) (maxList ((List.range (k + 1)).map (dwNeed f.rd p o (f.sl p))))

/-- The dewarped slices that `n` front-end slices allow. -/
def dwAllowed (p o : Nat) (f : Frame) (n : Nat) : Nat :=
  ((List.range (dwSlices f.rd p o (f.sl p))).filter (fun k => decide (dwAfter p o f k < n))).length

/-- No further slice of stream `st` comes from frame `f`. -/
def outDone (s : State) (st : Nat) (f : Frame) : Bool :=
  let p := st / 4
  let dw := outDewarp f.rd p (st % 4)
  f.fe.isSome && f.released == slicesReady p f && !jobsOpen s st f.n dw
    && (f.halted || !dw || kgetD 0 (st % 4) f.rel == dwAllowed p (st % 4) f f.released)

/-- The frame that stream `st` is at: the first kept one whose full hallmark has not been handed over. -/
def frameAtOut (s : State) (st : Nat) : Option Frame :=
  (pipeOf s (st / 4)).frames.find? (fun f => f.kept.contains (st % 4) && !((outOf s st f.n).map (fun o => o.ended)).getD true)

/-- The full hallmark of a frame goes to its queue; its twin tallies are not needed any more. -/
def endOut (s : State) (st : Nat) (n : Int) : State :=
  let s := { s with tallies := s.tallies.filter (fun t => t.stream != st || !decide (t.frame = n)) }
  updOut (addPkt s st (.full n)) st n (fun o => { o with ended := true })

/-- The next thing that stream `st` hands to its queue: a slice of the frame it is at, or that frame's full
hallmark. -/
def settleStep (s : State) (st : Nat) : Option State :=
  match frameAtOut s st with
  | none => none
  | some f =>
    match s.twinWait.find? (fun x => x.stream == st) with
    | some x =>
      if x.frame = f.n then
        if x.wait then none
        else some { addPkt s st (.slice x) with twinWait := s.twinWait.erase x }
      else if outDone s st f then some (endOut s st f.n) else none
    | none => if outDone s st f then some (endOut s st f.n) else none

def settleLoop : Nat → State → Nat → State
  | 0, s, _ => s
  | n + 1, s, st =>
    match settleStep s st with
    | some t => settleLoop n t st
    | none => s

def settleOut (s : State) (st : Nat) : State :=
  settleLoop (s.twinWait.length + (pipeOf s (st / 4)).frames.length + 1) s st

/-! ### The end of a frame -/

/-- Every front-end slice that the frame makes has been made. -/
def frontDone (s : State) (p : Nat) (f : Frame) : Bool :=
  f.fe.isSome && f.released == slicesReady p f
    && !s.jobs.any (fun j => !j.twin && j.src == p && decide (j.frame = f.n) && j.kind == 0)

/-- The statistics of the first frame whose front-end slices have all been made, and of those after it. -/
def finishFrames (s : State) (p : Nat) : State :=
  ((pipeOf s p).frames.map (fun f => f.n)).foldl (fun s n =>
    match frameOf s p n with
    | some f =>
      if !f.statsDone && frontDone s p f then
        updFrame (finishStats (defectStats s p f) p f) p n (fun f => { f with statsDone := true })
      else s
    | none => s) s

/-- A port still has the frame open. -/
def portHolds (s : State) (p : Nat) (n : Int) : Bool :=
  s.port.any (fun x => x.2.chan.any (fun c => decide (c.2.frame = some (p, n))))

/-- Frames that nothing needs any more are forgotten. -/
def forgetFrames (s : State) (p : Nat) : State :=
  updPipe s p (fun x => { x with frames := x.frames.filter (fun f =>
    !(f.statsDone && f.outs.all (fun o => o.2.delivered) && !portHolds s p f.n)) })

/-- A pipeline's frames go on as far as they can. -/
def settlePipe (s : State) (p : Nat) : State :=
  let s := (List.range 4).foldl (fun s o => settleOut s (4 * p + o)) (finishFrames s p)
  forgetFrames s p

/-- The frames of every pipeline go on. -/
def settleAll (s : State) : State := (s.pipe.map (fun x => x.1)).foldl settlePipe s

end Sys2Proof.Machine
end

