-- ==== Sys2Proof/Machine/JobOps.lean ====
section
/-!
DEFINITION. Slice jobs (spec/12_wheels.md R276 to R281, R288): their stages and pieces, what becomes runnable when, and
what a front-end or dewarp job hands on when it ends.
-/

namespace Sys2Proof.Machine

def tileOf (s : State) (n : Nat) : TileSt := kgetD {} n s.tile
def setTile (s : State) (n : Nat) (x : TileSt) : State := { s with tile := kput n x s.tile }
def jobOf (s : State) (id : Nat) : Option Job := s.jobs.find? (fun j => j.id == id)
def updJob (s : State) (id : Nat) (g : Job → Job) : State :=
  { s with jobs := s.jobs.map (fun j => if j.id = id then g j else j) }

/-! ### Stages (R276) -/

/-- The context of a front-end kernel, in pixels each side. -/
def slotCtx (rd : Cfg) (p cls slot : Nat) : Nat :=
  if slot = 3 then 2 else if slot = 7 then (if cls = 7 then 1 else reconCtx cls)
  else if slot = 10 then (if rd.on (fFE_CTRL_NR_EN p) then 2 else 0) else 0

/-- The front-end stages of a frame: one after the other. -/
def frontStages (p : Nat) (f : Frame) : List Stage :=
  let rd := f.rd
  mapFrom (fun i (x : Nat × Nat) =>
    { slot := x.1, out := 4, width := f.width, inAt := 0, inLen := f.width, ctx := slotCtx rd p (f.cls p) x.1,
      prev := if i = 0 then none else some (i - 1), pieces := 1, limit := pieceLimit rd p x.1 })
    0 (pixelCosts rd p (f.cls p) (decide (32 ≤ f.port)) f.fmt)

/-- The place of the last front-end stage whose slot is at most `slot`. -/
def lastStage (l : List Stage) (slot : Nat) : Option Nat :=
  let n := (l.filter (fun x => decide (x.slot ≤ slot))).length
  if n = 0 then none else some (n - 1)

/-- SCALE and FORMAT of output `o`, from place `at_` of the list of stages. -/
def outStages (p o : Nat) (f : Frame) (front : List Stage) (at_ : Nat) : List Stage :=
  let rd := f.rd
  let c := cropOf rd p o
  let w := outW rd p o
  [{ slot := 13, out := o, width := w, inAt := c.x, inLen := c.w, ctx := 4,
     prev := lastStage front (if outMosaic rd p o then 6 else 10), pieces := 1, limit := pieceLimit rd p 13 },
   { slot := 15, out := o, width := w, inAt := 0, inLen := w, ctx := 1, prev := some at_, pieces := 1,
     limit := pieceLimit rd p 15 }]

/-- The outputs of a frame's front-end job: the kept ones that do not dewarp; on the twin tile, those in
TWIN_MASK. -/
def jobOuts (p : Nat) (f : Frame) (twin : Bool) : List Nat :=
  f.kept.filter (fun o => !outDewarp f.rd p o && (!twin || bitAt (f.rd.f (fKSCHED_CTRL_TWIN_MASK p)) o))

/-- The stages of a front-end job. -/
def feStages (p : Nat) (f : Frame) (twin : Bool) : List Stage :=
  let rd := f.rd
  let front := frontStages p f
  let tap := lastStage front (if tapOf rd p = 0 then 6 else if tapOf rd p = 1 then 8 else 10)
  let side (b : Bool) (slot : Nat) : List Stage :=
    if b && !twin then
      [{ slot := slot, out := 4, width := f.width, inAt := 0, inLen := f.width, ctx := 0, prev := tap, pieces := 1,
         limit := pieceLimit rd p slot }]
    else []
  let base := front ++ side (statsOn rd p && f.stats) 11 ++ side (flickOn rd p) 12
  (jobOuts p f twin).foldl (fun l o => l ++ outStages p o f front l.length) base

/-- The stages of a dewarp job. -/
def dwStages (p o : Nat) (f : Frame) : List Stage :=
  let rd := f.rd
  let w := outW rd p o
  [{ slot := 14, out := o, width := w, inAt := 0, inLen := w, ctx := 0, prev := none, pieces := 1,
     limit := pieceLimit rd p 14 },
   { slot := 15, out := o, width := w, inAt := 0, inLen := w, ctx := 1, prev := some 0, pieces := 1,
     limit := pieceLimit rd p 15 }]

/-- The stages with the piece counts that the dispatcher cuts them into. -/
def cutStages (l : List Stage) (pieces : List Nat) : List Stage :=
  mapFrom (fun i (x : Stage) => { x with pieces := max 1 (pieces.getD i 1) }) 0 l

/-! ### Runnable pieces (R279) -/

/-- The first and last column of piece `i` of a stage cut into equal bands. -/
def band (x : Stage) (i : Nat) : Nat × Nat :=
  (i * x.width / x.pieces, (i + 1) * x.width / x.pieces - 1)

/-- The pieces of the stage before that cover the input columns of piece `i`. -/
def needsOf (x y : Stage) (i : Nat) : List Nat :=
  let (a, b) := band x i
  let w := max 1 x.width
  let lo := x.inAt + a * x.inLen / w - x.ctx
  let hi := x.inAt + (b * x.inLen + x.inLen - 1) / w + x.ctx
  (List.range y.pieces).filter (fun j =>
    let (c, d) := band y j
    decide (lo ≤ d) && decide (c ≤ hi))

/-- Whether piece `i` of stage `t` may run. -/
def canRun (j : Job) (t i : Nat) : Bool :=
  match j.stages[t]? with
  | none => false
  | some x =>
    match x.prev with
    | none => true
    | some u =>
      match j.stages[u]? with
      | none => true
      | some y => (needsOf x y i).all (fun k => j.ended.contains (u, k))

/-- All pieces of a job, by stage and place. -/
def allPieces (j : Job) : List (Nat × Nat) :=
  (mapFrom (fun t (x : Stage) => (List.range x.pieces).map (fun i => (t, i))) 0 j.stages).flatten

/-- The pieces whose input is now complete become runnable. -/
def issuePieces (j : Job) : Job :=
  let new := (allPieces j).filter (fun q => !j.issued.contains q && canRun j q.1 q.2)
  { j with issued := j.issued ++ new, ready := j.ready ++ new.map (fun q => ⟨j.id, q.1, q.2, none, 0⟩) }

/-- A job is released. -/
def addJob (s : State) (j : Job) : State :=
  let j := { j with id := s.nextJob }
  let j := issuePieces { j with left := (allPieces j).length }
  { s with jobs := s.jobs ++ [j], nextJob := s.nextJob + 1 }

/-- The key of a job stream of a pipeline among its releases: 4 the front end, else the dewarped output; 8 higher on
the twin tile. -/
def jobKey (out : Option Nat) (twin : Bool) : Nat := out.getD 4 + 8 * b2n twin

/-- How many jobs of a stream a frame has released. -/
def relOf (f : Frame) (key : Nat) : Nat := if key = 4 then f.released else kgetD 0 key f.rel

/-- The slice can be released: its input is on the shelf, or in the dewarp store. -/
def canRelease (s : State) (p : Nat) (out : Option Nat) (twin : Bool) (f : Frame) : Bool :=
  let k := relOf f (jobKey out twin)
  match out with
  | none => decide (k < slicesReady p f) && (!twin || !f.halted)
  | some o =>
    !f.halted && f.kept.contains o && outDewarp f.rd p o
      && (!twin || bitAt (f.rd.f (fKSCHED_CTRL_TWIN_MASK p)) o)
      && decide (k < dwSlices f.rd p o (f.sl p))
      && (let a := dwAfter p o f k
        decide (a < relOf f (jobKey none twin))
          && !s.jobs.any (fun j => j.twin == twin && j.src == p && decide (j.frame = f.n) && j.kind == 0 && decide (j.k ≤ a)))

/-- The next job of a stream is released now on its tile (R277). -/
def releaseJob (s : State) (p : Nat) (out : Option Nat) (twin : Bool) (pieces : List Nat) : State :=
  let pl := placeOf s p
  match (pipeOf s p).frames.find? (canRelease s p out twin), if twin then pl.twin else pl.host with
  | some f, some tile =>
    let rd := f.rd
    let key := jobKey out twin
    let k := relOf f key
    let step := f.sl p * lineT16 rd p
    let paced := if k = 0 then 0 else kgetD 0 key (pipeOf s p).rEff + step
    if !tileUp s tile || (s.dial + 1) * 16 ≤ paced then s
    else
      let r := if paced + 16 ≤ s.dial * 16 then s.dial * 16 else max paced (if k = 0 then s.dial * 16 else 0)
      let stages := match out with
        | none => feStages p f twin
        | some o => dwStages p o f
      let j : Job := {
        id := 0, kind := b2n out.isSome, src := p, out := out.getD 4, frame := f.n, k := k, tile := tile, twin := twin,
        rEff := r, deadline := r + step, stages := cutStages stages pieces, issued := [], ready := [],
        twinned := !twin && pl.twin.isSome }
      let s := updPipe s p (fun x => { x with rEff := kput key r x.rEff })
      let s := updFrame s p f.n (fun f =>
        if key = 4 then { f with released := k + 1 } else { f with rel := kput key (k + 1) f.rel })
      addJob s j
  | _, _ => s

/-! ### What a job hands on -/

/-- The front-end lines that output line `y` of output `o` reads. -/
def readsLines (rd : Cfg) (p o y : Nat) : List Nat :=
  let c := cropOf rd p o
  if outDewarp rd p o then
    (List.range (outW rd p o)).flatMap (fun x =>
      let q := meshAt rd p o x y
      if meshIn c q then [c.y + q.2 / 8, c.y + min (c.h - 1) (q.2 / 8 + 1)] else [])
  else if c.h = outH rd p o then [c.y + y]
  else
    let lim (v : Int) : Nat := (clampInt 0 (Int.ofNat c.h - 1) v).toNat
    let b := scaleBase c.h (outH rd p o) y
    (List.range 8).map (fun t => c.y + lim (b - 3 + Int.ofNat t))

/-- The FLAGS and DETAIL that the front-end slices bring to the lines `js` of an output. -/
def frontFlags (p o : Nat) (f : Frame) (js : List Nat) : Nat :=
  let ks := (js.flatMap (readsLines f.rd p o)).map (sliceOfLine f.height (f.sl p) (f.ctx p))
  let vs := f.feFlags.filterMap (fun x => if ks.contains x.1 then some x.2 else none)
  maskOf 24 (fun b => vs.any (fun v => bitAt v b))

/-- FLAGS, and DETAIL above them, that stages satisfying `mine` bring to what they make (R188, R288). -/
def stageFlags (j : Job) (mine : Nat → Bool) : Nat :=
  let hit (l : List Nat) : Bool := l.any mine
  4 * b2n (hit j.poisoned) + 16 * b2n (hit j.spoilt) + 256 * b2n (hit j.retried) + 512 * b2n (hit j.spoilt)

/-- Place `t` of a job's stages belongs to output `o` (4 for none). -/
def stageOut (j : Job) (o t : Nat) : Bool :=
  match j.stages[t]? with
  | some x => x.out == o && (o != 4 || decide (x.slot ≤ 10))
  | none => false
/-- Place `t` is a statistics stage. -/
def stageStats (j : Job) (t : Nat) : Bool :=
  match j.stages[t]? with
  | some x => x.slot == 11 || x.slot == 12
  | none => false

/-- The first line of a list of lines. -/
def firstLine (l : List OutLine) : Nat := ((l.head?).map (fun x => x.y)).getD 0

/-- The lines of one output slice by the stages, and whether bytes of the frame store that they read were poisoned. -/
def stageLines (s : State) (j : Job) (o : Nat) (f : Frame) (js : List Nat) : List OutLine × Bool :=
  if j.kind = 1 then dewarpLines s j.src o f j.twin js else (plainLines j.src o f js, false)

/-- The flags of an output slice whose lines read the lines `js`: those of the front end, of the stages that made it, and
bit 2 where the store's bytes were poisoned. -/
def madeFlags (s : State) (j : Job) (o : Nat) (f : Frame) (js : List Nat) : Nat :=
  let fl := frontFlags j.src o f js
  let fl2 := stageFlags j (stageOut j o)
  let fl3 := if j.twin then stageFlags j (stageOut j 4) else 0
  let bad := (stageLines s j o f js).2
  maskOf 24 (fun b => bitAt fl b || bitAt fl2 b || bitAt fl3 b || (b == 2 && bad))

/-- Flags that leave the content of the lines open: a residue fault, or an uncorrectable error. -/
def spoilFlags (fl : Nat) : Bool := bitAt fl 2 || bitAt fl 9

/-- Lines whose content is open where `free`. -/
def spoilLines (s : State) (free : Bool) (ls : List OutLine) : List OutLine × State :=
  if free then openLines s ls else (ls, s)

/-- Lines and their flags. -/
def withFlags (x : List OutLine × State) (fl : Nat) : List OutLine × Nat × State := (x.1, fl, x.2)

/-- The lines of one output slice as the job made them: open where a fault that no retry resolved, or an
uncorrectable error, reached them. -/
def madeLines (s : State) (j : Job) (o : Nat) (f : Frame) (js : List Nat) : List OutLine × Nat × State :=
  withFlags (spoilLines s (spoilFlags (madeFlags s j o f js)) (stageLines s j o f js).1) (madeFlags s j o f js)

/-- A twin tally that has arrived for a slice. -/
def tallyFor (s : State) (x : OutSlice) : Option TwinTally :=
  s.tallies.find? (fun t => t.arrived && t.stream == x.stream && decide (t.frame = x.frame)
    && t.firstLine == firstLine x.lines)

/-- The host and twin tallies are compared (R291). -/
def compareTally (s : State) (x : OutSlice) (t : TwinTally) : OutSlice × State :=
  let p := x.stream / 4
  let s := { s with tallies := s.tallies.erase t }
  if t.tally = x.tally then ({ x with wait := false, flags := x.flags + 32 }, s)
  else
    let s := ((s.bump (fKSCHED_CNT2_TWIN_MISMATCH p)).ev (fKSCHED_EVENT_TWIN_MISMATCH p)).report 0x11 p 0x0113
    ({ x with wait := false, flags := putBits x.flags 4 1 1, detail := putBits x.detail 2 1 1 }, s)

/-- An output slice is handed over; a twinned one waits for its twin tally. -/
def handSlice (s : State) (x : OutSlice) : State :=
  let (x, s) := if x.wait then
      (match tallyFor s x with
       | some t => compareTally s x t
       | none => (x, s))
    else (x, s)
  { s with twinWait := s.twinWait ++ [x] }

/-- A slice that has been made goes to its queue, or as a twin gives its tally. -/
def placeSlice (m : List OutLine × Nat × State) (j : Job) (f : Frame) (o : Nat) (js : List Nat) : State :=
  let s := m.2.2
  let st := 4 * j.src + o
  let tally := crc32c (tallyBytes m.1)
  if j.twin then { s with tallies := s.tallies ++ [⟨st, f.n, firstLine m.1, tally, false⟩] }
  else
    let mask := bitAt (f.rd.f (fKSCHED_CTRL_TWIN_MASK j.src)) o
    handSlice s {
      stream := st, frame := f.n, lines := m.1, tally := tally, flags := bitsOf m.2.1 0 8, detail := bitsOf m.2.1 8 16,
      last := js.getLast? == some (outH f.rd j.src o - 1), deadline := j.deadline,
      wait := j.twinned && mask && (placeOf s j.src).twin.isSome }

/-- One output slice of a job that has ended: on the host tile it is handed over, on the twin tile only its tally
is. -/
def makeSlice (s : State) (j : Job) (f : Frame) (o : Nat) (js : List Nat) : State :=
  placeSlice (madeLines s j o f js) j f o js

/-- What a front-end slice brings to whatever is made of its lines. -/
def noteFront (s : State) (j : Job) (f : Frame) : State :=
  let fl := stageFlags j (stageOut j 4)
  let fl := if j.ingestBad then maskOf 24 (fun b => bitAt fl b || b == 4 || b == 11) else fl
  let st := stageFlags j (stageStats j)
  updFrame s j.src f.n (fun f => { f with
    feFlags := if fl = 0 then f.feFlags else kput j.k fl f.feFlags,
    statsBad := f.statsBad || bitAt fl 9 || bitAt st 9 || bitAt fl 11,
    statsPoison := f.statsPoison || bitAt fl 2 || bitAt st 2 })

/-- A front-end or dewarp job has ended, and every earlier one of its stream. -/
def handJob (s : State) (j : Job) : State :=
  match frameOf s j.src j.frame with
  | none => s
  | some f =>
    if j.kind = 1 then makeSlice s j f j.out (dwLines f.rd j.src j.out (f.sl j.src) j.k)
    else
      let s := if j.twin then s else noteFront s j f
      let s := (f.kept.filter (fun o => outDewarp f.rd j.src o
          && (!j.twin || bitAt (f.rd.f (fKSCHED_CTRL_TWIN_MASK j.src)) o))).foldl
        (fun s o => storeCrop s j.src o f j.k j.twin) s
      match frameOf s j.src j.frame with
      | none => s
      | some f =>
        (jobOuts j.src f j.twin).foldl (fun s o =>
          (outSlices f.rd j.src o f.height (f.sl j.src) (f.ctx j.src) j.k).foldl (fun s js => makeSlice s j f o js) s) s

end Sys2Proof.Machine
end

