-- ==== Sys2Proof/Machine/CanvasOps.lean ====
section
/-!
DEFINITION. Composition (spec/10_outputs_canvases.md R243 to R248): the pixels of views, hatching, the slices of a canvas
frame, and its end.
-/

namespace Sys2Proof.Machine

/-! ### Source pixels (R244) -/

/-- The inverse coefficients of R236: kr_v, kg_u, kg_v and kb_u. -/
def cscInv (c : Nat) : Int × Int × Int × Int :=
  if c = 0 then (6450, 767, 1917, 7601) else (5743, 1410, 2925, 7258)

def yuvRgb (c y u v : Nat) : List Nat :=
  let (rv, gu, gv, bu) := cscInv c
  let y := Int.ofNat y
  let u := Int.ofNat u - 32768
  let v := Int.ofNat v - 32768
  [n8 (clamp16 (y + sar (rv * v + 2048) 12)), n8 (clamp16 (y - sar (gu * u + gv * v + 2048) 12)),
   n8 (clamp16 (y + sar (bu * u + 2048) 12))]

/-- The number of `n` bytes at address `a`. -/
def memNat (s : State) (a n : Nat) : Nat := leNat (memRead s a n)

/-- The bytes that hold pixel (x, y) of a frame at `base`, as address and length pairs. -/
def pixAddrs (rd : Cfg) (p o base x y : Nat) : List (Nat × Nat) :=
  let f := outFormat rd p o
  let (b0, b1) := fmtBytes f
  let a0 := base + y * rd.f (fOUT_STRIDE0_BYTES p o)
  let a1 := base + rd (rOUT_PLANE1_OFF p o) + y * rd.f (fOUT_STRIDE1_BYTES p o)
  if f = 6 then [(a0 + x / 2 * 4, 4)]
  else if fmtTwo f then [(a0 + x * b0, b0), (a1 + x / 2 * 2 * b1, 2 * b1)]
  else [(a0 + x * b0, b0)]

/-- Pixel (x, y) of a frame at `base` as 8-bit R, G and B. -/
def srcPixel (s : State) (rd : Cfg) (p o base x y : Nat) : List Nat :=
  let f := outFormat rd p o
  let c := rd.f (fOUT_CTRL_CSC p o)
  let l := pixAddrs rd p o base x y
  let a0 := ((l.head?).getD (0, 0)).1
  let a1 := ((l[1]?).getD (0, 0)).1
  let all (v : Nat) : List Nat := [v, v, v]
  match f with
  | 0 | 3 | 10 => all (n8 (memNat s a0 2))
  | 1 => all (min 255 ((memNat s a0 4 + 2048) / 4096))
  | 2 | 9 => all (memNat s a0 1)
  | 4 | 11 => [memNat s a0 1, memNat s (a0 + 1) 1, memNat s (a0 + 2) 1]
  | 5 => [n8 (memNat s a0 2), n8 (memNat s (a0 + 2) 2), n8 (memNat s (a0 + 4) 2)]
  | 6 => yuvRgb c (memNat s (a0 + 2 * (x % 2)) 1 * 256) (memNat s (a0 + 1) 1 * 256) (memNat s (a0 + 3) 1 * 256)
  | 7 => yuvRgb c (memNat s a0 1 * 256) (memNat s a1 1 * 256) (memNat s (a1 + 1) 1 * 256)
  | 8 => yuvRgb c (memNat s a0 2) (memNat s a1 2) (memNat s (a1 + 2) 2)
  | _ => [0, 0, 0]

/-! ### Composition (R243) -/

/-- The configuration of the source of view `v`: that of the latched frame, or of the source's active set. -/
def viewCfg (s : State) (f : CvFrame) (v : Nat) : Cfg :=
  match kget v f.latch with
  | some l => snapCfg l.cfg
  | none => actCfg s

/-- Canvas pixel (x, y) lies in view `v` after clipping: the source pixel that it takes. -/
def viewHit (s : State) (f : CvFrame) (c v x y : Nat) : Option (Nat × Nat) :=
  let rd := f.rd
  let (p, o) := viewSrc rd c v
  let src := viewCfg s f v
  let dx := rd.f (fCV_VIEW_DST_XY_XW c v)
  let dy := rd.f (fCV_VIEW_DST_XY_YH c v)
  let sx := rd.f (fCV_VIEW_SRC_XY_XW c v) + (x - dx)
  let sy := rd.f (fCV_VIEW_SRC_XY_YH c v) + (y - dy)
  if dx ≤ x && dy ≤ y && x - dx < rd.f (fCV_VIEW_SIZE_XW c v) && y - dy < rd.f (fCV_VIEW_SIZE_YH c v)
      && sx < outW src p o && sy < outH src p o then some (sx, sy) else none

def rgbOf (w : Nat) : List Nat := [bitsOf w 16 8, bitsOf w 8 8, bitsOf w 0 8]

/-- The hatch colour of a canvas pixel (R245). -/
def hatchAt (rd : Cfg) (c x y : Nat) : List Nat :=
  rgbOf (if (x + y) / 8 % 2 = 0 then rd (rCV_HATCH_A c) else rd (rCV_HATCH_B c))

/-- View `v` drawn over the colour `below`. -/
def drawView (s : State) (f : CvFrame) (c : Nat) (hatch : List Nat) (x y : Nat) (below : List Nat) (v : Nat) :
    List Nat :=
  let rd := f.rd
  match viewHit s f c v x y with
  | none => below
  | some (sx, sy) =>
    if hatch.contains v then hatchAt rd c x y
    else match kget v f.latch with
      | none => below
      | some l =>
        let a := rd.f (fCV_VIEW_BLEND_ALPHA c v)
        let (p, o) := viewSrc rd c v
        mapFrom (fun i b => ((srcPixel s (snapCfg l.cfg) p o l.base sx sy).getD i 0 * a + b * (256 - a) + 128) / 256) 0
          below

/-- One pixel of a canvas slice. -/
def canvasPix (s : State) (f : CvFrame) (c : Nat) (hatch : List Nat) (x y : Nat) : List Nat :=
  (viewsOn f.rd c).foldl (drawView s f c hatch x y) (rgbOf (f.rd (rCV_BACKGROUND c)))

/-- A poisoned source read reaches the slice. -/
def canvasBad (s : State) (f : CvFrame) (c : Nat) (hatch : List Nat) (xs ys : List Nat) : Bool :=
  !s.memPoison.isEmpty && ys.any (fun y => xs.any (fun x => ((viewsOn f.rd c).filter (fun v => !hatch.contains v)).any
    (fun v => match viewHit s f c v x y, kget v f.latch with
      | some (sx, sy), some l =>
        let (p, o) := viewSrc f.rd c v
        (pixAddrs (snapCfg l.cfg) p o l.base sx sy).any (fun a => memBad s a.1 a.2)
      | _, _ => false)))

/-- A view shows in the lines `ys`. -/
def viewIn (s : State) (f : CvFrame) (c : Nat) (xs ys : List Nat) (v : Nat) : Bool :=
  ys.any (fun y => xs.any (fun x => (viewHit s f c v x y).isSome))

/-- The lines of slice `k` of a canvas frame. -/
def cvLines (f : CvFrame) (c k : Nat) : List Nat :=
  let n := cvSlice f.rd c
  ((List.range n).map (fun i => k * n + i)).filter (fun y => decide (y < cvH f.rd c))

def cvSlices (f : CvFrame) (c : Nat) : Nat := ceilDiv (cvH f.rd c) (cvSlice f.rd c)

/-- A canvas frame that has handed over every slice, or has been truncated and has none on the way, ends with its
full hallmark. -/
def endCanvas (s : State) (c n : Nat) : State :=
  match cvFrameOf s c n with
  | some f =>
    if !f.ended && (f.truncated || f.released == cvSlices f c)
        && !s.jobs.any (fun j => j.kind == 2 && j.src == c && decide (j.frame = Int.ofNat n)) then
      addPkt (updCvFrame s c n (fun f => { f with ended := true, fe := s.dial, out := { f.out with ended := true } }))
        (0x80 + c) (.full (Int.ofNat n))
    else s
  | none => s

/-- A composition job has ended (R243, R248). -/
def handCanvas (s : State) (j : Job) : State :=
  let c := j.src
  match cvFrameOf s c j.frame.toNat with
  | none => s
  | some f =>
    let xs := List.range (cvW f.rd c)
    let ys := cvLines f c j.k
    let row (y : Nat) : List Byte :=
      xs.flatMap (fun x => (canvasPix s f c j.hatch x y ++ [255]).flatMap (leBytes 1))
    let ls := ys.map (fun y => (⟨y, row y, []⟩ : OutLine))
    let bad := canvasBad s f c j.hatch xs ys || !j.poisoned.isEmpty
    let (ls, s) := if j.spoilt.isEmpty && j.poisoned.isEmpty then (ls, s) else openLines s ls
    let x : OutSlice := {
      stream := 0x80 + c, frame := j.frame, lines := ls, tally := crc32c (tallyBytes ls),
      flags := 4 * b2n bad + 16 * b2n (!j.spoilt.isEmpty) + 128 * b2n (j.hatch.any (viewIn s f c xs ys)),
      detail := 0, last := j.k + 1 == cvSlices f c, deadline := j.deadline,
      staleViews := j.stale.any (viewIn s f c xs ys) }
    addPkt s (0x80 + c) (.slice x)

/-- The frame in progress of canvas `c` ends TRUNCATED (R242, R293). -/
def cutCanvas (s : State) (c : Nat) : State :=
  let s := { s with jobs := s.jobs.filter (fun j => !(j.kind == 2 && j.src == c)) }
  ((canvasOf s c).frames.map (fun f => f.n)).foldl (fun s n =>
    match cvFrameOf s c n with
    | some f => if f.ended then s else endCanvas (updCvFrame s c n (fun f => { f with truncated := true })) c n
    | none => s) s

/-- Canvas `c` stops: EN is cleared, its frame ends TRUNCATED, and an armed commit ends. -/
def canvasOff (s : State) (c : Nat) : State :=
  let s := cutCanvas (s.setF (fCV_ENABLE_EN c) 0) c
  stopCommit (freshStop s (0x80 + c)) (32 + c)

end Sys2Proof.Machine
end

