-- ==== Sys2Proof/Machine/Unpack.lean ====
section
/-!
DEFINITION. The unpacker (spec/04_sensor_ports.md R73, R88): shelf samples from the payload of an image line.
The positions that R73 leaves to the MIPI CSI-2 specification are PRESUMED from it, but for the worked RAW10.
-/

namespace Sys2Proof.Machine

/-- Values of `bits` bits from the lowest bit upward. -/
def lowFirst (bits n v : Nat) : List Nat := (List.range n).map (fun k => bitsOf v (k * bits) bits)

/-- One byte of high bits for each of `n` values, then their low bits packed from bit 0 upward. -/
def splitGroup (bits n : Nat) (g : List Byte) : List Nat :=
  let low := leNat (g.drop n)
  (List.range n).map (fun k => (g.getD k 0).toNat * 2 ^ (bits - 8) + bitsOf low (k * (bits - 8)) (bits - 8))

/-- The shelf samples of one group of a data type. -/
def unpackGroup (dt : Nat) (g : List Byte) : List Nat :=
  let b (i : Nat) : Nat := (g.getD i 0).toNat
  if dt = 0x28 then lowFirst 6 4 (leNat g)
  else if dt = 0x29 then lowFirst 7 8 (leNat g)
  else if dt = 0x2A then [b 0]
  else if dt = 0x2B then splitGroup 10 4 g
  else if dt = 0x2C then splitGroup 12 2 g
  else if dt = 0x2D then splitGroup 14 4 g
  else if dt = 0x2E then [b 0 * 256 + b 1]
  else if dt = 0x2F then
    let q := splitGroup 10 4 g
    let px (i : Nat) : Nat := q.getD i 0 * 1024 + q.getD (i + 1) 0
    [px 0 % 65536, px 0 / 65536, px 2 % 65536, px 2 / 65536]
  else if dt = 0x27 then [b 1 * 256 + b 2, b 0]
  else if dt = 0x1E then [b 1, b 0, b 3, b 2]
  else if dt = 0x1F then
    let q := splitGroup 10 4 g
    [q.getD 1 0, q.getD 0 0, q.getD 3 0, q.getD 2 0]
  else if dt = 0x22 then
    let w := b 0 + b 1 * 256
    [w / 2048, w / 32 % 64, w % 32]
  else [b 2, b 1, b 0]

/-- Pixels and bytes of a group. -/
def groupSize (dt : Nat) : Nat × Nat :=
  if dt = 0x28 then (4, 3) else if dt = 0x29 then (8, 7) else if dt = 0x2B then (4, 5)
  else if dt = 0x2C then (2, 3) else if dt = 0x2D then (4, 7) else if dt = 0x2E then (1, 2)
  else if dt = 0x2F then (2, 5) else if dt = 0x27 then (1, 3) else if dt = 0x1E then (2, 4)
  else if dt = 0x1F then (2, 5) else if dt = 0x22 then (1, 2) else if dt = 0x24 then (1, 3) else (1, 1)

/-- The samples of a line of `width` pixels, none where it is shorter or not whole groups; and whether it is
longer (R82). -/
def unpackLine (dt width : Nat) (bytes : List Byte) : Option (List Nat) × Bool :=
  let (px, by_) := groupSize dt
  let need := ceilDiv width px * by_
  if bytes.length % by_ ≠ 0 || bytes.length < need then (none, false)
  else (some ((chunks by_ (bytes.take need)).flatMap (unpackGroup dt)), decide (need < bytes.length))

/-- The samples of an LPORT line from its words (R88), with the same two answers. -/
def lportSamples (rd : Cfg) (m width : Nat) (words : List Nat) : Option (List Nat) × Bool :=
  let fmt := rd.f (fLPORT_CTRL_FORMAT m)
  let per := if fmt = 1 then 2 else 1
  if words.length < per * width then (none, false)
  else
    let ws := words.take (per * width)
    let samples :=
      if fmt = 0 then ws.map (fun w => w % 2 ^ lportBits (rd.f (fLPORT_CTRL_BITS m)))
      else if fmt = 1 then (chunks 2 ws).flatMap (fun g => [g.getD 1 0 % 256, g.getD 0 0 % 256])
      else ws.flatMap (fun w => [w % 256, w / 256 % 256])
    (some samples, decide (per * width < words.length))

end Sys2Proof.Machine
end

