-- ==== Sys2Proof/Machine/PortOps.lean ====
section
/-!
DEFINITION. The ports (spec/04_sensor_ports.md R66 to R90): events and counters, the open frame of a channel,
image and embedded lines, and the ends of a frame. Ports 0 to 31 are SPORTs, 32 to 35 LPORTs.
-/

namespace Sys2Proof.Machine

def portOf (s : State) (n : Nat) : Port := kgetD {} n s.port
def setPort (s : State) (n : Nat) (x : Port) : State := { s with port := kput n x s.port }
def chanSt (s : State) (n k : Nat) : PortChan := kgetD {} k (portOf s n).chan
def setChan (s : State) (n k : Nat) (c : PortChan) : State :=
  setPort s n { portOf s n with chan := kput k c (portOf s n).chan }

/-- Bit `b` of a port's EVENT. -/
def portEvent (n b : Nat) : Fld := if n < 32 then ⟨rSPORT_EVENT n, b, 1⟩ else ⟨rLPORT_EVENT (n - 32), b, 1⟩
/-- Counter `i` of a port. -/
def portCnt (n i : Nat) : Fld := if n < 32 then fSPORT_CNT_COUNT n i else fLPORT_CNT_COUNT (n - 32) i
/-- FRAME_OPEN of a channel. -/
def portOpen (n k : Nat) : Fld := if n < 32 then ⟨rSPORT_STATUS n, 16 + k, 1⟩ else fLPORT_STATUS_FRAME_OPEN (n - 32)

/-- A port reports a code to the safety island (R85). -/
def portCode (s : State) (n code : Nat) : State :=
  if n < 32 then s.report 0x0C n code else s.report 0x0D (n - 32) code

def portLimit (s : State) (n : Nat) : Nat :=
  if n < 32 then s.fv (fSPORT_FRAME_CFG_DAMAGE_LIMIT n) else s.fv (fLPORT_FRAME_CFG_DAMAGE_LIMIT (n - 32))
def portTimeoutMs (s : State) (n : Nat) : Nat :=
  if n < 32 then s.fv (fSPORT_FRAME_CFG_FRAME_TIMEOUT_MS n) else s.fv (fLPORT_FRAME_CFG_FRAME_TIMEOUT_MS (n - 32))
def portFill (s : State) (n : Nat) : Nat := if n < 32 then s.fv (fSPORT_FILL_VALUE_VALUE n) else 0
def portLineNum (s : State) (n : Nat) : Bool := decide (n < 32) && s.on (fSPORT_FRAME_CFG_LINE_NUM n)

/-- The group domain of a SPORT is ON (R533). -/
def sportUp (s : State) (n : Nat) : Bool := domOn s (14 + n / 8)

/-! ### Closing and cutting (R82, R83) -/

/-- CORRUPT of an ending frame: its event and code. -/
def judgeCorrupt (s : State) (n damaged : Nat) : Bool × State :=
  if portLimit s n < damaged then (true, portCode (s.ev (portEvent n 3)) n 0x0004) else (false, s)

/-- Frame `f` of pipeline `p` is truncated now, unless it has been cut before. -/
def cutFrame (s : State) (p : Nat) (f : Int) : State :=
  match frameOf s p f with
  | none => s
  | some x =>
    if x.fe.isSome then s
    else
      let s := s.ev (portEvent x.port 4)
      let (c, s) := judgeCorrupt s x.port x.damaged
      updFrame (endFrame s p f true c) p f (fun y => { y with ignore := true })

/-- Channel `k` has no open frame any more. -/
def closeChan (s : State) (n k : Nat) : State :=
  (setChan s n k { chanSt s n k with frame := none, ls := none }).setF (portOpen n k) 0

/-- The open frame of a channel is truncated and closed. -/
def truncateChan (s : State) (n k : Nat) : State :=
  match (chanSt s n k).frame with
  | some (p, f) => closeChan (cutFrame s p f) n k
  | none => s

/-- The channels of the ports, with an open frame of pipeline `p`. -/
def openChans (s : State) (p : Nat) : List (Nat × Nat) :=
  s.port.flatMap (fun x => x.2.chan.filterMap (fun c =>
    match c.2.frame with
    | some (q, _) => if q = p then some (x.1, c.1) else none
    | none => none))

/-- The stream of pipeline `p` stops while its frame is open (R82): the frame's later lines and its frame end
are dropped uncounted. -/
def truncateOpen (s : State) (p : Nat) : State :=
  (openChans s p).foldl (fun s x =>
    let s := truncateChan s x.1 x.2
    setChan s x.1 x.2 { chanSt s x.1 x.2 with skip := true, skipEnd := true }) s

/-! ### Frame starts (R80, R82) -/

/-- Pipeline `p` accepts frame starts. -/
def accepts (s : State) (p : Nat) : Bool := s.started.contains p && !(pipeOf s p).refuse

/-- A frame start on channel `k`, mapped to pipeline `p`. -/
def frameStart (s : State) (n k p : Nat) : State :=
  let s := if (chanSt s n k).frame.isSome then
      truncateChan (portCode (s.bump (portCnt n 10)) n 0x0005) n k
    else s
  let s := setChan s n k { chanSt s n k with skip := false, skipEnd := false, ls := none }
  if accepts s p then
    let s := acceptFrame s n k p
    (setChan s n k { chanSt s n k with frame := some (p, frameNo s p) }).setF (portOpen n k) 1
  else
    let s := (s.bump (portCnt n 13)).ev (portEvent n 14)
    setChan s n k { chanSt s n k with skip := true, skipEnd := true }

/-! ### Image lines (R81, R82) -/

/-- The stamp of a selected image line (R104). -/
def stampLine (s : State) (n k y : Nat) : State :=
  if s.on (fTS_LINE_EVT_EN n) && s.fv (fTS_LINE_EVT_LINE n) == y && s.fv (fTS_LINE_EVT_VC n) == k then
    s.setPair (rTS_LE_LO n) (rTS_LE_HI n) s.dial
  else s

/-- A damaged line is replaced. -/
def damagedLine (s : State) (n p : Nat) (f : Int) : State :=
  addLine (s.ev (portEvent n 2)) p f (replacement s p f (portFill s n)) true

/-- `m` damaged lines in a row. -/
def damagedLines (s : State) (n p : Nat) (f : Int) : Nat → State
  | 0 => s
  | m + 1 => damagedLines (damagedLine s n p f) n p f m

/-- The shelf input overflows: the rest of the frame is dropped (R82). -/
def overflowFrame (s : State) (n p : Nat) (f : Int) : State :=
  let s := portCode ((s.bump (portCnt n 12)).ev (portEvent n 5)) n 0x0007
  cutFrame s p f

/-- An image line of the open frame `x`; `crcOk` is the payload check, `line` the samples and whether the line was
too long, and `num` its line number where a line start packet gave one. -/
def imageLine (s : State) (n k p : Nat) (x : Frame) (crcOk : Bool) (line : Option (List Nat) × Bool)
    (num : Option Nat) (overflow : Bool) : State :=
  let f := x.n
  let s := updFrame s p f (fun y => { y with seen := max 1 y.seen })
  let first := x.first.orElse (fun _ => num)
  let s := updFrame s p f (fun y => { y with first := first })
  let at_ := x.lines.length
  let y : Int := match num, first with
    | some a, some b => if portLineNum s n then Int.ofNat a - Int.ofNat b else Int.ofNat at_
    | _, _ => Int.ofNat at_
  if y < Int.ofNat at_ then s.bump (portCnt n 6)
  else if Int.ofNat x.height ≤ y then s.bump (portCnt n 5)
  else if overflow then overflowFrame s n p f
  else
    let gap := y.toNat - at_
    let s := if 0 < gap then damagedLines (s.bump (portCnt n 6)) n p f gap else s
    let s := stampLine s n k y.toNat
    let s := if y.toNat + 1 = x.height then updFrame s p f (fun y => { y with seen := 2 }) else s
    if !crcOk then damagedLine ((s.bump (portCnt n 2)).ev (portEvent n 1)) n p f
    else match line with
      | (none, _) => damagedLine (s.bump (portCnt n 3)) n p f
      | (some l, long) => addLine (if long then s.bump (portCnt n 4) else s) p f l false

/-! ### Embedded lines (R78, R79) -/

/-- An embedded line of the open frame `x`. -/
def embLine (s : State) (n p : Nat) (x : Frame) (bytes : List Byte) (crcOk : Bool) : State :=
  let (top, bottom) := entryEmb x.rd x.port x.chan
  let cut := decide (4096 < bytes.length)
  let bytes := bytes.take 4096
  let (kept, s) :=
    if x.seen = 0 && x.top.length < top then
      (true, updFrame s p x.n (fun y => { y with top := y.top ++ [bytes] }))
    else if x.seen = 2 && x.bottom.length < bottom then
      (true, updFrame s p x.n (fun y => { y with bottom := y.bottom ++ [bytes] }))
    else (false, s.bump (portCnt n 8))
  if !crcOk || (kept && cut) then
    updFrame ((s.bump (portCnt n 15)).ev (portEvent n 11)) p x.n (fun y => { y with embBad := true })
  else s

/-! ### Frame ends -/

/-- An orphan: a line or frame end with no open frame. -/
def orphan (s : State) (n : Nat) : State := (s.bump (portCnt n 9)).ev (portEvent n 7)

/-- A frame end on channel `k`. -/
def frameEnd (s : State) (n k : Nat) : State :=
  let c := chanSt s n k
  match c.frame with
  | none => if c.skipEnd then s else orphan s n
  | some (p, f) =>
    let s := s.setPair (rTS_FE_LO n) (rTS_FE_HI n) s.dial
    match frameOf s p f with
    | none => closeChan s n k
    | some x =>
      if x.fe.isSome then closeChan s n k
      else
        let miss := x.height - x.lines.length
        let s := if 0 < miss then damagedLines (s.bump (portCnt n 3)) n p f miss else s
        let d := ((frameOf s p f).map (fun y => y.damaged)).getD 0
        let (bad, s) := judgeCorrupt s n d
        closeChan (endFrame s p f false bad) n k

/-- FRAME_TIMEOUT_MS has passed since the frame start. -/
def frameTimeout (s : State) (n k : Nat) : State :=
  match (chanSt s n k).frame with
  | none => s
  | some (p, f) =>
    match frameOf s p f with
    | none => s
    | some x =>
      if s.dial < x.fs + portTimeoutMs s n * 1000000 then s
      else
        let s := truncateChan (portCode (s.bump (portCnt n 11)) n 0x0006) n k
        setChan s n k { chanSt s n k with skip := true }

end Sys2Proof.Machine
end

