-- ==== Sys2Proof/Machine/Wheels.lean ====
section
/-!
DEFINITION. The wheels (spec/12_wheels.md R276 to R296): the dispatcher, residue and drawer faults, twin tallies, tile
fences and re-admission.
-/

namespace Sys2Proof.Machine

/-! ### The end of jobs -/

/-- A job that has ended after its deadline + 24 µs (R296). -/
def judgeDeadline (s : State) (j : Job) : State :=
  if j.deadline + 384000 < s.dial * 16 then
    let s := ((s.bump (fTILE_CNT_B_DEADLINE_MISS j.tile)).ev (fTILE_EVENT_DEADLINE_MISS j.tile)).report 0x13 j.tile 0x0007
    if j.kind = 2 then s
    else (s.bump (fKSCHED_CNT_DEADLINE_MISS j.src)).ev (fKSCHED_EVENT_DEADLINE_MISS j.src)
  else s

/-- Two jobs belong to one stream, whose results go out in order. -/
def sameStream (a b : Job) : Bool := a.kind == b.kind && a.src == b.src && a.out == b.out && a.twin == b.twin

/-- The first ended job that no earlier job of its stream holds back. -/
def nextHand : List Job → List Job → Option Job
  | _, [] => none
  | seen, j :: js => if j.left = 0 && !seen.any (sameStream j) then some j else nextHand (seen ++ [j]) js

/-- Ended jobs hand on what they made. -/
def handLoop : Nat → State → State
  | 0, s => s
  | n + 1, s =>
    match nextHand [] s.jobs with
    | none => s
    | some j =>
      let s := { s with jobs := s.jobs.filter (fun x => x.id != j.id) }
      handLoop n (if j.kind = 2 then endCanvas (handCanvas s j) j.src j.frame.toNat else settlePipe (handJob s j) j.src)

def handAll (s : State) : State := handLoop s.jobs.length s

def execJobRelease (p : Nat) (out : Option Nat) (twin : Bool) (pieces : List Nat) (s : State) : Out :=
  .next (hub s (releaseJob s (p % 32) (out.map (fun o => o % 2)) twin pieces))

/-! ### Wheels (R279, R288, R289) -/

def wheelFenced (s : State) (n w : Nat) : Bool := bitAt (s.rn (rTILE_WHEEL_FENCED n (w / 32))) (w % 32)

/-- The order in which pieces are taken: deadline, effective release, pipelines before canvases, lower index, earlier
stage, leftmost columns. -/
def pieceKey (j : Job) (q : Piece) : List Nat :=
  [j.deadline, j.rEff, b2n (j.kind == 2), j.src, q.stage, q.idx, j.id]

def keyLt : List Nat → List Nat → Bool
  | x :: xs, y :: ys => decide (x < y) || (x == y && keyLt xs ys)
  | _, _ => false

/-- The piece that wheel `w` of tile `n` takes. -/
def nextPiece (s : State) (n w : Nat) : Option (Job × Piece) :=
  let l := (s.jobs.filter (fun j => j.tile == n)).flatMap (fun j => j.ready.map (fun q => (j, q)))
  (l.filter (fun x => x.2.failedOn != some w)).foldl (fun a x =>
    match a with
    | none => some x
    | some y => if keyLt (pieceKey x.1 x.2) (pieceKey y.1 y.2) then some x else some y) none

/-- An idle healthy wheel takes a piece. -/
def pieceStart (s : State) (n w : Nat) : State :=
  if tileUp s n && !wheelFenced s n w && (kget w (tileOf s n).running).isNone then
    match nextPiece s n w with
    | some (j, q) =>
      let s := updJob s j.id (fun j => { j with ready := j.ready.erase q })
      setTile s n { tileOf s n with running := kput w { q with start := s.now } (tileOf s n).running }
    | none => s
  else s

def execPieceStart (n w : Nat) (s : State) : Out := .next (hub s (pieceStart s (n % 8) (w % 128)))

/-- What is placed on a tile no longer passes R283 to R285. -/
def tileOver (s : State) (n : Nat) (sets : List (List (Demand × Place))) : Bool :=
  !Fr.le (sumFr (loadOn n) sets) (Fr.ofNat (tileCap s n)) || decide (24117248 < sumNat (shelfOn n) sets)

def targetSets (s : State) (skip : List Nat) : List (List (Demand × Place)) :=
  ((List.range 36).filter (fun t => !skip.contains t)).map (fun t => activeSet s t ++ armedSet s t)

def priorityOf (s : State) (p : Nat) : Nat := s.av (fKSCHED_CTRL_PRIORITY p)

/-- Pipelines in descending PRIORITY, the lower index first among equals. -/
def insPrio (s : State) (p : Nat) : List Nat → List Nat
  | [] => [p]
  | q :: qs =>
    if priorityOf s q < priorityOf s p || (priorityOf s q == priorityOf s p && p < q) then p :: q :: qs
    else q :: insPrio s p qs
def byPriority (s : State) (l : List Nat) : List Nat := l.foldl (fun a p => insPrio s p a) []

/-- The pipelines that a capacity re-admission takes from tile `n`: the last of the order first, until the rest
pass. -/
def takeOff (s : State) (n : Nat) : List Nat → List Nat → List Nat
  | [], taken => taken
  | p :: ps, taken => if tileOver s n (targetSets s taken) then takeOff s n ps (taken ++ [p]) else taken

/-- Pipelines are queued for re-admission. -/
def queueReadmit (s : State) (l : List Readmit) : State :=
  let old := s.readmit.filter (fun r => !l.any (fun x => x.p == r.p))
  { s with readmit := old ++ l }

/-- A capacity re-admission of tile `n` begins (R294). -/
def capacityReadmit (s : State) (n : Nat) : State :=
  if tileOver s n (targetSets s []) then
    let hosted := (List.range 32).filter (fun p => (placeOf s p).host == some n)
    let taken := takeOff s n (byPriority s hosted).reverse []
    let s := (s.ev (fTILE_EVENT_READMITTED n)).report 0x13 n 0x0008
    queueReadmit s ((byPriority s taken).map (fun p => ⟨p, n, true⟩))
  else s

/-- A wheel is fenced (R289). -/
def fenceWheel (s : State) (n w : Nat) : State :=
  if wheelFenced s n w then s
  else
    let s := s.setF ⟨rTILE_WHEEL_FENCED n (w / 32), w % 32, 1⟩ 1
    let h := s.fv (fTILE_STATUS_HEALTHY n) - 1
    let s := (s.setF (fTILE_STATUS_HEALTHY n) h).setF (fGLB_TILE_WHEELS_HEALTHY n) h
    let s := (s.setF (fTILE_LAST_FENCED_WHEEL n) w).setF (fTILE_LAST_FENCED_VALID n) 1
    let s := (s.ev (fTILE_EVENT_WHEEL_FENCED n)).report 0x13 n 0x0005
    if 64 ≤ h then capacityReadmit s n else s

/-- A fault is recorded against a wheel; the second within 1,000 ms fences it, at the end of its piece. -/
def wheelFault (s : State) (n w : Nat) : State :=
  let x := tileOf s n
  let l := s.now :: (kgetD [] w x.faults).filter (fun t => s.now ≤ t + 1000000000)
  let s := setTile s n { x with faults := kput w l x.faults }
  if l.length < 2 || wheelFenced s n w then s
  else if (kget w x.running).isSome then setTile s n { tileOf s n with draining := w :: (tileOf s n).draining }
  else fenceWheel s n w

/-- The wheel has no piece any more; a fence that waited for it takes effect. -/
def wheelFree (s : State) (n w : Nat) : State :=
  let x := tileOf s n
  let s := setTile s n { x with running := kdel w x.running, draining := x.draining.filter (fun v => v != w) }
  if x.draining.contains w then fenceWheel s n w else s

/-- A piece has ended for good. -/
def pieceDone (s : State) (q : Piece) : State :=
  let s := updJob s q.job (fun j => issuePieces { j with ended := j.ended ++ [(q.stage, q.idx)], left := j.left - 1 })
  match jobOf s q.job with
  | some j => if j.left = 0 then handAll (judgeDeadline s j) else s
  | none => s

/-- A piece failed: it is retried once, or its retry's result stands (R288). -/
def pieceFail (s : State) (n w : Nat) (q : Piece) (fate : PieceFate) (timeout : Bool) : State :=
  let s := if timeout then s.bump (fTILE_CNT_B_TIMEOUT n) else s
  match q.failedOn with
  | none =>
    let s := wheelFault (if timeout then s.report 0x13 n 0x0003 else s) n w
    updJob s q.job (fun j => { j with ready := j.ready ++ [{ q with failedOn := some w, start := 0 }] })
  | some _ =>
    let s := (s.bump (fTILE_CNT_A_UNRESOLVED n)).ev (fTILE_EVENT_UNRESOLVED n)
    let drawer := fate == .drawer && !timeout
    let s := wheelFault (s.report 0x13 n (if drawer then 0x0004 else 0x0002)) n w
    pieceDone (updJob s q.job (fun j =>
      if drawer then { j with poisoned := q.stage :: j.poisoned } else { j with spoilt := q.stage :: j.spoilt })) q

/-- Errors that the wheel met on its way. -/
def pieceErrors (s : State) (n : Nat) (q : Piece) (e : PieceEnd) : State :=
  let s := if e.drawerCorr then s.bump (fTILE_CNT_C_DRAWER_CORR n) else s
  let s := if e.shelfCorr then s.bump (fTILE_CNT_C_SHELF_CORR n) else s
  let s := if e.shelfBad then
      let x := tileOf s n
      let s := setTile s n { x with shelfUe := s.now :: x.shelfUe.filter (fun t => s.now ≤ t + 1000000000) }
      updJob s q.job (fun j => { j with poisoned := q.stage :: j.poisoned })
    else s
  match jobOf s q.job with
  | some j =>
    if e.ingestBad && j.kind == 0 && q.stage == 0 then
      updJob (if j.ingestBad then s else s.report 0x11 j.src 0x0110) q.job (fun j => { j with ingestBad := true })
    else s
  | none => s

/-- A piece ends on a wheel. -/
def pieceEnd (s : State) (n w : Nat) (e : PieceEnd) : State :=
  match kget w (tileOf s n).running with
  | none => s
  | some q =>
    let s := pieceErrors (wheelFree s n w) n q e
    match e.fate with
    | .good =>
      let s := if q.failedOn.isSome then
          let s := ((s.bump (fTILE_CNT_A_RETRY_OK n)).ev (fTILE_EVENT_RETRY n)).report 0x13 n 0x0001
          updJob s q.job (fun j => { j with retried := q.stage :: j.retried })
        else s
      pieceDone s q
    | f => pieceFail s n w q f false

def execPieceEnd (n w : Nat) (e : PieceEnd) (s : State) : Out := .next (hub s (pieceEnd s (n % 8) (w % 128) e))

/-- The timer of a piece expires at twice its limit. -/
def pieceTimeout (s : State) (n w : Nat) : State :=
  match kget w (tileOf s n).running with
  | none => s
  | some q =>
    let limit := ((jobOf s q.job).bind (fun j => j.stages[q.stage]?)).map (fun x => x.limit)
    if s.now < q.start + limit.getD 8 * 1000 then s
    else pieceFail (wheelFree s n w) n w q .residue true

def execPieceTimeout (n w : Nat) (s : State) : Out := .next (hub s (pieceTimeout s (n % 8) (w % 128)))

/-- The self-test of a residue checker: a failure counts as a wheel fault (R497). -/
def residueSelfTest (s : State) (n w : Nat) (ok : Bool) : State :=
  if ok || !tileUp s n then s else wheelFault (s.report 0x05 n 0x000E) n w

def execResidueCheckerSelfTest (n w : Nat) (ok : Bool) (s : State) : Out :=
  .next (hub s (residueSelfTest s (n % 8) (w % 128) ok))

/-! ### Twin tallies (R291) -/

/-- The slice that waits for a tally. -/
def waitsFor (t : TwinTally) (x : OutSlice) : Bool :=
  x.wait && x.stream == t.stream && decide (x.frame = t.frame) && firstLine x.lines == t.firstLine

def tallyArrives (s : State) (st : Nat) : State :=
  match s.tallies.find? (fun t => !t.arrived && t.stream == st) with
  | none => s
  | some t =>
    match s.twinWait.find? (waitsFor t) with
    | some x =>
      let (y, s) := compareTally s x t
      settlePipe { s with twinWait := s.twinWait.map (fun z => if z = x then y else z) } (st / 4)
    | none =>
      let more := match frameOf s (st / 4) t.frame with
        | some f => !outDone s st f
        | none => false
      let rest := s.tallies.erase t
      { s with tallies := if more then rest ++ [{ t with arrived := true }] else rest }

def execTwinTallyArrival (stream : Nat) (s : State) : Out := .next (hub s (tallyArrives s (stream % 128)))

/-- A slice goes out without its twin tally. -/
def tallyLate (s : State) (st : Nat) : State :=
  match s.twinWait.find? (fun x => x.wait && x.stream == st) with
  | none => s
  | some x =>
    if s.dial * 16 ≤ x.deadline + 384000 then s
    else
      let p := st / 4
      let s := ((s.bump (fKSCHED_CNT2_TWIN_LATE p)).ev (fKSCHED_EVENT_TWIN_LATE p)).report 0x11 p 0x0114
      settlePipe { s with twinWait := s.twinWait.map (fun z => if z = x then { z with wait := false } else z) } p

def execTwinTallyDeadline (stream : Nat) (s : State) : Out := .next (hub s (tallyLate s (stream % 128)))

/-! ### Fences (R292, R293) -/

/-- A frame that its fenced host tile has not finished ends. -/
def fenceFrame (s : State) (p : Nat) (n : Int) : State :=
  match frameOf s p n with
  | none => s
  | some f =>
    if f.statsDone && f.outs.all (fun o => o.2.ended) then s
    else
      let s := updFrame s p n (fun f => { f with halted := true, ignore := true })
      if f.fe.isSome then updFrame s p n (fun f => { f with truncated := true })
      else
        let (c, s) := judgeCorrupt s f.port f.damaged
        endFrame s p n true c

/-- The pipeline has lost its twin tile: its slices carry no TWIN. -/
def dropTwin (s : State) (p : Nat) : State :=
  let s := setPlace s p { placeOf s p with twin := none }
  let mine (st : Nat) : Bool := st < 128 && st / 4 == p
  settlePipe { s with
    twinWait := s.twinWait.map (fun x => if mine x.stream then { x with wait := false } else x),
    tallies := s.tallies.filter (fun t => !mine t.stream) } p

/-- Tile `n` is fenced for `cause`. -/
def fenceTile (s : State) (n cause : Nat) : State :=
  if !tileUp s n then s
  else
    let hosted := (List.range 32).filter (fun p => (placeOf s p).host == some n)
    let twinned := (List.range 32).filter (fun p => (placeOf s p).twin == some n)
    let canvases := (List.range 4).filter (fun c => (placeOf s (32 + c)).host == some n && s.on (fCV_ENABLE_EN c))
    let s := (s.setF (fTILE_STATUS_STATE n) 2).setF (fTILE_STATUS_CAUSE n) cause
    let s := (s.setF (fGLB_TILE_WHEELS_FENCED_FAULT n) 1).setF fMGT_ALERT_STATUS_TILE_FENCED 1
    let s := domDrain (s.report 0x13 n 0x0006) (2 + n) 3
    let s := { s with jobs := s.jobs.filter (fun j => j.tile != n), tile := kdel n s.tile,
                      isl := { s.isl with fenceReq := putBits s.isl.fenceReq n 1 0 } }
    let s := hosted.foldl (fun s p =>
      settlePipe (((pipeOf s p).frames.map (fun f => f.n)).foldl (fun s k => fenceFrame s p k) s) p) s
    let s := twinned.foldl dropTwin s
    let s := canvases.foldl (fun s c =>
      let st := 0x80 + c
      viewLost (canvasOff (s.report 0x12 c 0x0200 (if isSafety s st then 3 else 0)) c) st) s
    let all := (List.range 32).filter (fun p => hosted.contains p || twinned.contains p)
    queueReadmit s ((byPriority s all).map (fun p => ⟨p, n, hosted.contains p⟩))

/-- A write of TILE[n].CTRL (R292). -/
def tileCtrl (s : State) (n : Nat) (v : Word) : State :=
  if bitAt v.toNat 16 && bitsOf v.toNat 0 16 == 0xFE9C then fenceTile s n 6 else s

def execTileFenceSoftware (n : Nat) (v : Word) (s : State) : Out := .next (hub s (tileCtrl s (n % 8) v))

/-- A cause of R292 fences the tile: those of the tile's own checks come from outside, the others stand in the
state. -/
def fenceCause (s : State) (n cause : Nat) : State :=
  let on := match cause with
    | 1 => decide (s.fv (fTILE_STATUS_HEALTHY n) < 64)
    | 2 | 3 => true
    | 4 => decide (16 < (tileOf s n).shelfUe.length)
    | 5 => bitAt s.isl.fenceReq n
    | _ => false
  if on then fenceTile s n cause else s

def execTileFence (n cause : Nat) (s : State) : Out := .next (hub s (fenceCause s (n % 8) cause))

/-! ### Re-admission (R294, R562) -/

/-- No tile qualifies: the stream stops, or the pipeline is left unplaced. -/
def readmitFails (s : State) (p : Nat) : State :=
  let s := setPlace s p {}
  if s.started.contains p then
    let safety := (List.range 4).any (fun o => outEn (actCfg s) p o && isSafety s (4 * p + o))
    let s := (s.ev (fKSCHED_EVENT_STOPPED p)).report 0x11 p 0x0118 (if safety then 3 else 0)
    let s := updPipe (s.setF (fKSCHED_STATUS_STATE p) 3) p (fun x => { x with refuse := true })
    { s with stops := s.stops ++ [(p, faultCode 0x11 p 0x0118)] }
  else s.setF (fKSCHED_STATUS_STATE p) 3

/-- The pipeline runs on host tile `h` from now on. -/
def movedTo (s : State) (p h : Nat) : State :=
  let s := setPlace s p { host := some h, twin := (placeOf s p).twin }
  let s := (s.ev (fKSCHED_EVENT_MOVED p)).report 0x11 p 0x0117
  if s.started.contains p then
    updPipe (s.setF (fKSCHED_STATUS_STATE p) 2) p (fun x => { x with moved := some (s.dial + 100000) })
  else s

/-- The twin tile of a pipeline that has none, or whose twin is now its host. -/
def readmitTwin (s : State) (p : Nat) (d : Demand) : State :=
  let pl := placeOf s p
  let has := match pl.twin with
    | some t => tileUp s t && pl.twin != pl.host
    | none => false
  match pl.host with
  | none => s
  | some h =>
    if !d.twinOn then (if pl.twin.isSome then setPlace s p { host := some h } else s)
    else if has then s
    else match findTwin s (otherSets s p) [] d h [] with
      | some t => setPlace s p { host := some h, twin := some t }
      | none =>
        if s.aon (fKSCHED_CTRL_TWIN_REQUIRED p) then readmitFails s p
        else ((setPlace s p { host := some h }).ev (fKSCHED_EVENT_TWIN_LOST p)).report 0x11 p 0x0115

/-- The frames of a pipeline taken from a tile that still runs end there. -/
def leaveTile (s : State) (p : Nat) : State :=
  let s := { s with jobs := s.jobs.filter (fun j => j.twin || j.kind == 2 || j.src != p) }
  settlePipe (((pipeOf s p).frames.map (fun f => f.n)).foldl (fun s k => fenceFrame s p k) s) p

/-- After the last placement the armed commits are checked again (R180). -/
def recheckAll (s : State) : State := (List.range 36).foldl (fun s t => recheckArmed s t []) s

/-- The next affected pipeline is placed, stopped, or left without a twin. -/
def readmitNext (s : State) : State :=
  match s.readmit with
  | [] => s
  | r :: rest =>
    let s := { s with readmit := rest }
    let p := r.p
    let d := demandOf s (actCfg s) p
    let lost := match (placeOf s p).host with
      | some h => r.host || !tileUp s h
      | none => true
    let s := if lost then
        let s := leaveTile s p
        let a := admitTile s p { d with twinOn := false } [] none 8 [r.excl]
        match a.rule, a.place.host with
        | 0, some h => readmitTwin (movedTo s p h) p d
        | _, _ => readmitFails s p
      else readmitTwin s p d
    if rest.isEmpty then recheckAll s else s

def execReadmissionPlacement (s : State) : Out := .next (hub s (readmitNext s))

end Sys2Proof.Machine
end

