-- ==== Sys2Proof/Machine/Canvas.lean ====
section
/-!
DEFINITION. The commands of the canvases (spec/10_outputs_canvases.md R242 to R246): enabling, frame starts with their
latches, and the release of slices with their hatching.
-/

namespace Sys2Proof.Machine

/-! ### CV_ENABLE (R242, R302, R320) -/

/-- Canvas `c` is enabled: its queue and channel start, and its frame numbers begin at 0. -/
def canvasOn (s : State) (c : Nat) : State :=
  let st := 0x80 + c
  let d := canvasDemand s (actCfg s) (sourceCfg s) c
  let s := s.setF (fCV_ENABLE_EN c) 1
  let s := d.cells.foldl (fun s x => startChannel (enableQueue s x.1 x.2) x.1) s
  let s := { s with frameNo := kdel (32 + c) s.frameNo }
  let s := (s.setRn (rCMT_FSN (32 + c)) 0xFFFFFFFF).setRn (rCV_LAST_FRAME c) 0xFFFFFFFF
  let old := (canvasOf s c).frames.filter (fun f => f.ended)
  freshStart (setCanvas s c { enabledAt := s.dial, frames := old }) st (canvasBudget s (actCfg s) c)

/-- A write of CV_ENABLE. -/
def canvasEnable (s : State) (c : Nat) (v : Word) : State :=
  let was := s.on (fCV_ENABLE_EN c)
  let on := bitAt v.toNat 0
  if on && !was then canvasOn s c else if !on && was then canvasOff s c else s

def execCanvasEnable (c : Nat) (v : Word) (s : State) : Out := .next (hub s (canvasEnable s (c % 4) v))

/-! ### Frame starts (R242, R243) -/

/-- A frame start is due now. -/
def canvasDue (s : State) (c : Nat) : Bool :=
  let rd := actCfg s
  let t : Int := Int.ofNat s.dial - Int.ofNat (rd (rCV_PHASE c))
  let src := rd.f (fCV_CFG_SRC c)
  if src = 0 then
    let p := Int.ofNat (rd (rCV_PERIOD c))
    decide (0 ≤ t) && decide (0 < p) && decide (t % p = 0) && decide ((canvasOf s c).enabledAt + 10000 ≤ s.dial)
  else
    let f := kgetD {} (src - 1) s.regu.follow
    if f.everLocked && f.hasEpoch && 0 < f.period then
      let k := (t * 256 - f.epoch + f.period - 1) / f.period
      decide (f.epoch + k * f.period < (t + 1) * 256)
    else false

/-- Every slice of the frames so far has been released. -/
def canvasIdle (s : State) (c : Nat) : Bool :=
  (canvasOf s c).frames.all (fun f => f.truncated || f.released == cvSlices f c)

/-- View `v` latches the newest good buffer of its source. -/
def latchOf (s : State) (rd : Cfg) (c v : Nat) : Option Latch := (storeOf s (rd.f (fCV_VIEW_CTRL_STREAM c v))).newest

/-- A canvas frame starts. -/
def canvasBegin (s : State) (c : Nat) : State :=
  let t := 32 + c
  let n := (canvasOf s c).next
  let s := { s with frameNo := kput t (Int.ofNat n) s.frameNo, frameAt := kput t s.dial s.frameAt }
  let s := commitAtFrame (s.setRn (rCMT_FSN t) n) t (Int.ofNat n)
  let cfg := frameCfg s t none
  let rd := snapCfg cfg
  let vs := viewsOn rd c
  let latch := vs.foldl (fun m v =>
    match latchOf s rd c v with
    | some l => kput v l m
    | none => m) []
  let f : CvFrame := { n := n, start := s.dial, cfg := cfg, gen := s.rn (rCMT_CONFIG_GEN t), latch := latch }
  let x := canvasOf s c
  let s := setCanvas s c { x with next := (n + 1) % 2 ^ 32, frames := x.frames ++ [f], deferred := false }
  (latch.map (fun l => l.2.stream)).foldl updHeld s

/-- A frame start, or its deferral to 1 µs after the previous frame's last release. -/
def canvasStart (s : State) (c : Nat) : State :=
  let x := canvasOf s c
  if !s.on (fCV_ENABLE_EN c) || (placeOf s (32 + c)).host.isNone then s
  else if x.deferred then
    (if canvasIdle s c && x.lastRelease + 1000 ≤ s.dial then canvasBegin s c else s)
  else if !canvasDue s c then s
  else if canvasIdle s c then canvasBegin s c
  else ((setCanvas s c { x with deferred := true }).bump (fCV_CNT_DEFERRED c)).ev (fCV_EVENT_DEFERRED c)

def execCanvasFrameStart (c : Nat) (s : State) : Out := .next (hub s (canvasStart s (c % 4)))

/-! ### Slices (R242, R245) -/

/-- The causes that hatch a view: SAFE, STALE, NO_FRAME and AGE. -/
def hatchCauses (s : State) (f : CvFrame) (c v : Nat) : Bool × Bool × Bool × Bool :=
  let l := kget v f.latch
  (sokStatic s, viewStale s (f.rd.f (fCV_VIEW_CTRL_STREAM c v)), l.isNone,
   match l with
   | some l => decide (viewBudget s f.rd c v * 1000000 < s.dial - l.fs)
   | none => false)

/-- The hatching of view `v` in a slice: its status, its event and the code of the age cause. -/
def hatchView (s : State) (f : CvFrame) (c v : Nat) : State :=
  let (safe, stale, none_, age) := hatchCauses s f c v
  let any := safe || stale || none_ || age
  let x := canvasOf s c
  let s := s.setF (fCV_VIEW_STATUS_HATCHED c v)
    (b2n any + 2 * b2n safe + 4 * b2n stale + 8 * b2n none_ + 16 * b2n age)
  let s := s.setF (fCV_VIEW_STATUS_AGE_MS c v) (match kget v f.latch with
    | some l => satTo 0xFFFF ((s.dial - l.fs) / 1000000)
    | none => 0xFFFF)
  let s := s.evIf (any && !x.hatchedNow.contains v) (fCV_EVENT_HATCHED c)
  let st := 0x80 + c
  let s := if age && !x.agedNow.contains v then
      viewLost (s.report 0x12 c (0x0100 + v) (if isSafety s st then 3 else 0)) st
    else s
  let put (b : Bool) (l : List Nat) : List Nat := if b then (if l.contains v then l else v :: l) else l.filter (fun u => u != v)
  let s := setCanvas s c { canvasOf s c with hatchedNow := put any x.hatchedNow, agedNow := put age x.agedNow }
  updCvFrame s c f.n (fun f => { f with hatched := if any && !f.hatched.contains v then v :: f.hatched else f.hatched })

/-- The next slice of canvas `c` is released. -/
def sliceRelease (s : State) (c pieces : Nat) : State :=
  match (canvasOf s c).frames.find? (fun f => !f.truncated && f.released < cvSlices f c), (placeOf s (32 + c)).host with
  | some f, some tile =>
    let k := f.released
    let t := cvSliceTime s f.rd c
    if !tileUp s tile || (s.dial - f.start + 1) * t.den ≤ k * t.num then s
    else
      let vs := viewsOn f.rd c
      let why := vs.map (fun v => (v, hatchCauses s f c v))
      let hatch := why.filterMap (fun x => if x.2.1 || x.2.2.1 || x.2.2.2.1 || x.2.2.2.2 then some x.1 else none)
      let stale := why.filterMap (fun x => if x.2.2.1 || x.2.2.2.1 || x.2.2.2.2 then some x.1 else none)
      let s := vs.foldl (fun s v => hatchView s f c v) s
      let s := updCvFrame s c f.n (fun f => { f with released := k + 1 })
      let s := setCanvas s c { canvasOf s c with lastRelease := s.dial }
      let st : Stage := { slot := 0, out := 4, width := cvW f.rd c, inAt := 0, inLen := cvW f.rd c, ctx := 0, prev := none,
                          pieces := max 1 pieces, limit := bitsOf (f.rd (rCV_KSLOT_PARAM c)) 0 4 }
      addJob s { id := 0, kind := 2, src := c, out := 4, frame := Int.ofNat f.n, k := k, tile := tile, twin := false,
                 rEff := s.dial * 16, deadline := s.dial * 16 + t.num * 16 / t.den, stages := [st], issued := [],
                 ready := [], hatch := hatch, stale := stale }
  | _, _ => s

def execCanvasSliceRelease (c pieces : Nat) (s : State) : Out := .next (hub s (sliceRelease s (c % 4) pieces))

end Sys2Proof.Machine
end

