-- ==== Sys2Proof/Machine/Domains.lean ====
section
/-!
DEFINITION. Power domains, standby and clock monitors (spec/23_power_clocks.md R533 to R546).
-/

namespace Sys2Proof.Machine

/-! ### Requests (R538) -/

/-- A range of LP5X addresses has a byte on stack `m`. -/
def onStack (m base len : Nat) : Bool :=
  len != 0 && decide (base < (m + 1) * 2 ^ 33) && decide (m * 2 ^ 33 < base + len)

/-- A configuration of pipeline `p` places a frame store or a dewarp store on stack `m`. -/
def storesOn (rd : Cfg) (p m : Nat) : Bool :=
  let cls := ((mapEntries rd p).head?.bind (fun e => (entryFmt rd e.1 e.2).bind (fun f => classOf rd p f))).getD 0
  (outsOn rd p).any (fun o =>
    (outDest rd p o == 1 && onStack m (fsBase rd p o) (fsCount rd p o * fsPitch rd p o))
      || (outDewarp rd p o && onStack m (dwBase rd p o)
        ((if bitAt (rd.f (fKSCHED_CTRL_TWIN_MASK p)) o then 4 else 2)
          * dwBuf (cropOf rd p o) (outComps rd p o cls))))

/-- The domain is in use. -/
def domInUse (s : State) (d : Nat) : Bool :=
  if d = 10 || d = 11 then
    (List.range 32).any (fun p => storesOn (actCfg s) p (d - 10)
      || ((armedOf s p).isSome && storesOn (swapCfg s p) p (d - 10)))
  else if 14 ≤ d then
    (List.range 8).any (fun i =>
      let n := 8 * (d - 14) + i
      s.on (fSPORT_CTRL_EN n) || s.on (fSPORT_MCLK_EN n) || s.on (fSCC_CTRL_EN n))
  else false

/-- The RESULT of a request for state `req` (1 ON, 2 SELF_REFRESH, 3 OFF), and whether it changes anything. -/
def domJudge (s : State) (d req : Nat) : Nat × Bool :=
  let st := s.fv (fPWR_DOM_STATE d)
  if d < 10 || d == 13 || 18 ≤ d || (req == 2 && !(d == 10 || d == 11)) then (4, false)
  else if st = 5 then (2, false)
  else if st = 1 || st = 4 || s.pow.phase == .standbyEntry then (3, false)
  else if st = (if req = 1 then 0 else req) then (0, false)
  else if req ≠ 1 && domInUse s d then (1, false)
  else (0, true)

def domRequest (s : State) (d req : Nat) : State :=
  let (r, go) := domJudge s d req
  let s := s.setF (fPWR_DOM_RESULT d) r
  if r ≠ 0 then s.ev fPWR_EVENT_DOMAIN_REFUSED
  else if !go then s
  else if req = 1 then s.setF (fPWR_DOM_STATE d) 4
  else
    let s := domDrain s d req
    if d = 12 then evalPorts s else s
def execDomainOnRequest (d : Nat) (s : State) : Out := .next (hub s (domRequest s (d % 18) 1))
def execDomainSelfRefreshRequest (d : Nat) (s : State) : Out := .next (hub s (domRequest s (d % 18) 2))
def execDomainOffRequest (d : Nat) (s : State) : Out := .next (hub s (domRequest s (d % 18) 3))

/-! ### The handshake (R539, R540) -/

def draining (s : State) (d : Nat) : Bool := s.fv (fPWR_DOM_STATE d) == 1 && (kget d s.pow.clamped).isNone

def clamp (s : State) (d : Nat) : State :=
  { s with pow := { s.pow with clamped := kput d true s.pow.clamped } }

/-- Pieces of a fenced tile are abandoned, so it has nothing to wait for. -/
def domIdle (s : State) (d : Nat) : Bool := decide (d < 10) || opsIdle s d

def domDrained (s : State) (d : Nat) : State := if draining s d && domIdle s d then clamp s d else s
def execDomainDrained (d : Nat) (s : State) : Out := .next (hub s (domDrained s (d % 18)))

def domForced (s : State) (d : Nat) : State :=
  if draining s d && !domIdle s d && decide ((kget d s.pow.drainAt).getD 0 + 2000000 ≤ s.now) then
    let s := clamp (opsForced s d) d
    ((s.setF (fPWR_DOM_FORCED d) 1).ev fPWR_EVENT_DOMAIN_FORCED).report 0x0A d 0x0020
  else s
def execDomainForced (d : Nat) (s : State) : Out := .next (hub s (domForced s (d % 18)))

/-- The monitored clock of a domain outside AON and HUB. -/
def domClock (d : Nat) : Option Nat :=
  if 2 ≤ d && d < 10 then some (d + 6) else if d = 10 then some 6 else if d = 11 then some 7
  else if d = 12 then some 5 else if d = 13 then some 4 else none

/-- The clamped domain reaches its state: a stack that is switched off loses its contents, and a PCIE domain whose PERST_N
has risen powers up at once (R542). -/
def domOff (s : State) (d : Nat) : State :=
  if s.fv (fPWR_DOM_STATE d) = 1 && (kget d s.pow.clamped).isSome then
    let goal := (kget d s.pow.domTarget).getD 3
    let s := { s.setF (fPWR_DOM_STATE d) goal with pow := { s.pow with
      clamped := kdel d s.pow.clamped, domTarget := kdel d s.pow.domTarget, drainAt := kdel d s.pow.drainAt } }
    let s := match domClock d with
      | some i => s.setRn (rPWR_CLK_MEAS i) 0
      | none => s
    let s := if (d = 10 || d = 11) && goal = 3 then memClear s (d - 10) else s
    let s := if d = 12 then lanes8.foldl (fun s m => laneStop s m) s else s
    let s := if d = 13 then pcieWake s else s
    s.ev fPWR_EVENT_DOMAIN_DONE
  else s
def execDomainOffDone (d : Nat) (s : State) : Out := .next (hub s (domOff s (d % 18)))

def domUp (s : State) (d : Nat) : State :=
  if s.fv (fPWR_DOM_STATE d) = 4 then
    let s := s.setF (fPWR_DOM_STATE d) 0
    let s := if d = 12 then
        evalPorts (lanes8.foldl (fun s m => if laneEn s m then laneStart s m else s) s)
      else s
    (hoistResume s d).ev fPWR_EVENT_DOMAIN_DONE
  else s
def execDomainPowerUpDone (d : Nat) (s : State) : Out := .next (hub s (domUp s (d % 18)))

/-! ### Standby (R537) -/

def standbyRefused (s : State) : Bool :=
  !s.started.isEmpty || (List.range 4).any (fun c => s.on (fCV_ENABLE_EN c))
    || (List.range 64).any (fun i => hActive s (192 + i)) || s.fv fATTIC_UPD_STATUS_STATE == 1
    || (List.range 18).any (fun d => s.fv (fPWR_DOM_STATE d) == 1 || s.fv (fPWR_DOM_STATE d) == 4)

/-- Standby is accepted: the heartbeat stops, the log is committed, and every domain but AON starts down. -/
def standbyEnter (s : State) : State :=
  let s := commitLog (logRec (stopSok s false) 0 0 0)
  let s := (List.range 17).foldl (fun s d =>
    if domOn s (d + 1) then s.setF (fPWR_DOM_STATE (d + 1)) 1 else s) s
  let s := s.setRn rPCIE_LINK_STATUS 0
  let s := s.setF fPWR_STATE_STATE 1
  { s with pow := { s.pow with phase := .standbyEntry, hubOn := false }, pcie := { errMsgs := s.pcie.errMsgs } }

def standbyWrite (s : State) (v : Word) : State :=
  if bitAt v.toNat 16 && bitsOf v.toNat 0 16 == 0x5AB1 && s.pow.phase == .ready then
    if standbyRefused s then s.ev fPWR_EVENT_STANDBY_REFUSED else standbyEnter s
  else s
def execStandbyEnter (v : Word) (s : State) : Out := .next (hub s (standbyWrite s v))

def standbyReached (s : State) : State :=
  if s.pow.phase == .standbyEntry then
    let s := (List.range 17).foldl (fun s d =>
      if s.fv (fPWR_DOM_STATE (d + 1)) = 5 then s else s.setF (fPWR_DOM_STATE (d + 1)) 3) s
    { s.setF fPWR_STATE_STATE 2 with mem := [], memPoison := [], pow := { s.pow with phase := .standby } }
  else s
def execStandbyReached (s : State) : Out := .next (aon s (standbyReached s))

/-! ### Clock monitors (R543, R545, R546) -/

/-- The domain of a monitored clock, and its nominal frequency in kHz. -/
def clkDomain (i : Nat) : Nat :=
  if i = 0 || i = 3 then 1 else if i = 1 || i = 2 then 0 else if i = 4 then 13 else if i = 5 then 12
  else if i < 8 then i + 4 else i - 6
def clkNominal (i : Nat) : Nat :=
  if i = 0 then 1200000 else if i < 3 then 25000 else if i = 3 then 100000 else if i = 4 then 1000000
  else if i = 5 then 1400000 else if i < 8 then 1066667 else 1600000
/-- The deviation is beyond `pct` per cent. -/
def clkOff (khz nom pct : Nat) : Bool := decide (nom * pct < (max khz nom - min khz nom) * 100)

/-- The code and instance of a failed clock (R546). -/
def clkCode (i : Nat) : Nat × Nat :=
  if i < 3 then (i + 1, 0) else if i = 3 then (8, 0) else if i = 4 then (5, 0) else if i = 5 then (6, 0)
  else if i < 8 then (7, i - 6) else (4, i - 8)

/-- A window of clock `i` ends; a failure needs two bad windows in a row, or a REFCLK25 without an edge. -/
def clkWindow (s : State) (i khz ringKhz : Nat) : State :=
  if !domOn s (clkDomain i) then s
  else
    let refGone := s.on ⟨rPWR_CLK_STATUS, 2, 1⟩ || i == 2
    let bad := clkOff ringKhz (clkNominal i) 20 || (!refGone && clkOff khz (clkNominal i) 2)
    let was := (kget i s.pow.clkBad).isSome
    let s := s.setF (fPWR_CLK_MEAS_KHZ i) (satTo (2 ^ 21 - 1) (if refGone then ringKhz else khz))
    let s := { s with pow := { s.pow with clkBad := if bad then kput i true s.pow.clkBad else kdel i s.pow.clkBad } }
    let f : Fld := ⟨rPWR_CLK_STATUS, i, 1⟩
    if bad && (was || (i == 2 && ringKhz == 0)) && !s.on f then
      let (code, inst) := clkCode i
      ((s.setF f 1).ev fPWR_EVENT_CLOCK_FAIL).report 0x0A inst code
    else s
def execClockMonitorWindow (i khz ringKhz : Nat) (s : State) : Out := .next (aon s (clkWindow s (i % 16) khz ringKhz))

end Sys2Proof.Machine
end

