-- ==== Sys2Proof/Machine/Lanes.lean ====
section
/-!
DEFINITION. The commands of the fabric lanes (spec/17_fabric_lanes.md). A change of a lane is also seen by the port
that it belongs to (R433).
-/

namespace Sys2Proof.Machine

/-- A lane command, followed by the ports. -/
def onLane (s t : State) : Out := .next (hub s (if domOn s 12 then evalPorts t else s))

def execLaneEnable (m : Nat) (v : Word) (s : State) : Out := onLane s (laneCtrl s (m % 8) v)
def execLaneFabricEn (m : Nat) (v : Word) (s : State) : Out := onLane s (laneCtrl s (m % 8) v)
def execLanePllLocked (m : Nat) (s : State) : Out := onLane s (lanePll s (m % 8))

/-- The fabric controller wakes a sleeping receiver when its signal detect asserts (R457). -/
def signalOn (s : State) (m : Nat) : State :=
  let s := laneSignal s m true
  if s.on (fLANE_CTRL_FABRIC_EN m) && s.on (fLANE_STATUS_SIGNAL m) then updLane s m (fun x => { x with reqRx := 0 }) else s
def execSignalDetectAssert (m : Nat) (s : State) : Out := onLane s (signalOn s (m % 8))
def execSignalDetectDeassert (m : Nat) (s : State) : Out := onLane s (laneSignal s (m % 8) false)
def execAdaptationDone (m ctle gain : Nat) (dfe1 : Int) (s : State) : Out :=
  onLane s (adaptDone s (m % 8) (ctle % 16) (gain % 256) dfe1)
def execAdaptationTimeout (m : Nat) (s : State) : Out := onLane s (adaptTimeout s (m % 8))
def execCdrLockLost (m : Nat) (s : State) : Out := onLane s (cdrLost s (m % 8))
def execCdrRelock (m : Nat) (s : State) : Out := onLane s (cdrRelock s (m % 8))
def execFrefLost (s : State) : Out := onLane s (frefLost s)
def execFrefRestored (s : State) : Out := onLane s (frefBack s)
/-- R418: a value out of range is discarded with CFG_INVALID. -/
def execTxEqWrite (m : Nat) (v : Word) (s : State) : Out := onLane s (plainWrite s (rLANE_TX_EQ (m % 8)) v)
def execLaneStateRequest (m : Nat) (tx : Bool) (s : State) : Out := onLane s (laneApply s (m % 8) tx)

/-- A woken transmitter lets its port send. -/
def laneWakeDone (s : State) (m : Nat) (tx : Bool) : State := ports4.foldl pumpPort (laneAwake s m tx)
def execLaneWakeDone (m : Nat) (tx : Bool) (s : State) : Out := onLane s (laneWakeDone s (m % 8) tx)

def execPatgenEnable (m : Nat) (v : Word) (s : State) : Out :=
  onLane s (laneTestWrite s (m % 8) (rLANE_PATGEN (m % 8)) v (bitAt v.toNat 0) (fun s => s))
def execPatchkEnable (m : Nat) (v : Word) (c : ChkCount) (s : State) : Out := onLane s (patchkWrite s (m % 8) v c)
def execPatchkClear (m : Nat) (v : Word) (c : ChkCount) (s : State) : Out := onLane s (patchkWrite s (m % 8) v c)
def execPatchkSnap (m : Nat) (v : Word) (c : ChkCount) (s : State) : Out := onLane s (patchkWrite s (m % 8) v c)
def execCheckerSync (m : Nat) (s : State) : Out := onLane s (chkSync s (m % 8))
def execCheckerSyncLoss (m : Nat) (c : ChkCount) (s : State) : Out := onLane s (chkLoss s (m % 8) c)
def execInjectOne (m : Nat) (v : Word) (s : State) : Out := onLane s (injectWrite s (m % 8) v)
def execInjectRate (m : Nat) (s : State) : Out := onLane s (injectRate s (m % 8))
def execLoopbackWrite (m : Nat) (v : Word) (s : State) : Out := onLane s (loopbackWrite s (m % 8) v)

end Sys2Proof.Machine
end

