-- ==== Sys2Proof/Machine/Larder.lean ====
section
/-!
DEFINITION. The commands of the Larder (spec/13_larder.md): pushes, pops, flushes, audits and the enabling
of software queues.
-/

namespace Sys2Proof.Machine

/-! ### Pushes (R308) -/

/-- A push to queue `q` is refused. -/
def pushRefused (s : State) (q : Nat) : Bool :=
  q < 192 || !queueEn s q || ((queueOfL s q).discarding && !s.on (fLQ_CTRL_AUDIT q))
    || (needsCell s q && credit s q == 0 && !s.on (fLQ_CTRL_AUDIT q))

/-- A word that a flush discards still moves the queue to the end of the packet (R314). -/
def pushDiscard (s : State) (q : Nat) (last : Bool) : State :=
  if 192 ≤ q && queueEn s q && (queueOfL s q).discarding && !s.on (fLQ_CTRL_AUDIT q) then writeWordL s q 0 last false
  else s

def push (s : State) (q : Nat) (v : Nat) (last : Bool) : State :=
  if pushRefused s q then
    let s := pushDiscard s q last
    ((s.bump fLARDER_CNT_FLOW_PUSH_REFUSED).ev fLARDER_EVENT_PUSH_REFUSED).report 0x14 (q / 16) 0x0007
  else writeWordL s q v last false

def execPushData (q : Nat) (v : BitVec 64) (s : State) : Out := .next (hub s (push s (q % 4096) v.toNat false))
def execPushDataEnd (q : Nat) (v : BitVec 64) (s : State) : Out := .next (hub s (push s (q % 4096) v.toNat true))

/-! ### Pops (R309, R310) -/

/-- Group `g` is read by software: G_CFG.CONSUMER. -/
def softConsumer (s : State) (g : Nat) : Bool := decide (192 ≤ g) && s.on (fLARDER_G_CFG_CONSUMER g)

/-- POP_TAG after a read. -/
def setPopTag (s : State) (g : Nat) (r : GWord) : State :=
  s.setRn (rLARDER_POP_TAG g) (b2n r.last + b2n r.poison * 2 + b2n r.underrun * 4 + r.queue * 16)

def pop (s : State) (g size : Nat) (err : LarderErr) : State :=
  if !softConsumer s g then (s.ev fLARDER_EVENT_CFG_INVALID).answer .success (leBytes size 0)
  else if size ≠ 8 then s.answer .success (leBytes size 0)
  else
    let (r, s) := groupRead s g err
    (setPopTag s g r).answer .success (leBytes 8 r.data)

def execPopRead (g size : Nat) (err : LarderErr) (s : State) : Out := .next (hub s (pop s (g % 256) size err))

/-! ### Audits (R312, R313) -/

/-- Cell `c` has an owner tag with a parity error: it is retired, and another queue that it is still linked
to breaks. -/
def auditBad (q : Nat) (s : State) (c : Nat) : State :=
  let s := ownerParity s c
  match s.larder.queue.find? (fun x => x.1 != q && x.2.cells.contains c) with
  | some x => breakQueue s x.1
  | none => s

/-- The audit of queue `q` ends: its cells go back, CREDIT is RESERVE again, or a reservation that waits is
released. -/
def auditDone (s : State) (q : Nat) (bad : List Nat) : State :=
  if s.on (fLQ_CTRL_AUDIT q) then
    let x := queueOfL s q
    let s := bad.foldl (auditBad q) s
    let s := returnCells s ((x.cells ++ x.back).filter (fun c => !bad.contains c))
    let s := setQueueL s q { x with cells := [], back := [], tailUsed := 0, releasing := false, flushing := false }
    let s := setCredit s q (if x.releasing then 0 else s.fv (fLQ_RESERVE_CELLS q))
    s.setF (fLQ_CTRL_AUDIT q) 0
  else s

def execLarderAuditDone (q : Nat) (bad : List Nat) (s : State) : Out := .next (hub s (auditDone s (q % 4096) bad))

/-! ### Software queues (R314, R315, R319) -/

/-- Writes to CFG, other than EN, and RESERVE of queue `q` are discarded. -/
def queueBusy (s : State) (q : Nat) : Bool := queueEn s q || (queueOfL s q).releasing

/-- A group has a member that is enabled or still releasing. -/
def groupBusy (s : State) (g : Nat) : Bool :=
  s.larder.queue.any (fun x => x.2.releasing && queueGroup s x.1 == g)
    || (List.range 3904).any (fun i => softEn s (192 + i) && queueGroup s (192 + i) == g)

/-- The fields of CFG that a write of `v` would change, EN and the reserved bits apart. -/
def cfgDiffers (s : State) (q : Nat) (v : Word) : Bool :=
  bitsOf v.toNat 2 11 != bitsOf (s.rn (rLQ_CFG q)) 2 11

/-- GROUP and LEVEL are written. -/
def setQueueCfg (s : State) (q : Nat) (v : Word) : State :=
  (s.setF (fLQ_CFG_GROUP q) (bitsOf v.toNat 2 8)).setF (fLQ_CFG_LEVEL q) (bitsOf v.toNat 10 3)

/-- A write of CFG with EN at 0: it clears EN and flushes an enabled queue, else sets GROUP and LEVEL. -/
def writeCfgOff (s : State) (q : Nat) (v : Word) : State :=
  let t := s.evIf (queueBusy s q && cfgDiffers s q v) fLARDER_EVENT_CFG_INVALID
  if queueEn s q then
    let t := t.setF (fLQ_CFG_EN q) 0
    let t := setQueueL t q { queueOfL t q with releasing := true }
    flushQueue t q true
  else if queueBusy s q then t
  else setQueueCfg t q v

/-- A write of CTRL: FLUSH, and BROKEN cleared by 1. -/
def writeQueueCtrl (s : State) (q : Nat) (v : Word) : State :=
  let s := if bitAt v.toNat 1 then s.setF (fLQ_CTRL_BROKEN q) 0 else s
  if bitAt v.toNat 0 then flushQueue s q false else s

def queueFlush (s : State) (q : Nat) (cfg : Bool) (v : Word) : State :=
  if q < 192 then s
  else if cfg then (if bitAt v.toNat 0 then s else writeCfgOff s q v)
  else writeQueueCtrl s q v

def execQueueFlush (q : Nat) (cfg : Bool) (v : Word) (s : State) : Out :=
  .next (hub s (queueFlush s (q % 4096) cfg v))

def execLarderFlushDone (q : Nat) (s : State) : Out := .next (hub s (flushDone s (q % 4096)))

/-- The enabled members of group `g`. -/
def memberCount (s : State) (g : Nat) : Nat :=
  ((List.range 3904).filter (fun i => softEn s (192 + i) && queueGroup s (192 + i) == g)).length

/-- A write of CFG with EN at 1. -/
def queueEnable (s : State) (q : Nat) (v : Word) : State :=
  if q < 192 || !bitAt v.toNat 0 then s
  else if queueEn s q then s.evIf (cfgDiffers s q v) fLARDER_EVENT_CFG_INVALID
  else
    let g := bitsOf v.toNat 2 8
    let res := s.fv (fLQ_RESERVE_CELLS q)
    if queueBusy s q || g < 192 || 16 ≤ memberCount s g || res = 0 then s.ev fLARDER_EVENT_CFG_INVALID
    else if poolLimit s < poolReserved s + res then s.ev fLARDER_EVENT_RESERVE_REFUSED
    else
      let t := (setQueueCfg s q v).setF (fLQ_CFG_EN q) 1
      setCredit t q res

def execQueueEnable (q : Nat) (v : Word) (s : State) : Out := .next (hub s (queueEnable s (q % 4096) v))

end Sys2Proof.Machine
end

