-- ==== Sys2Proof/Machine/Scc.lean ====
section
/-!
DEFINITION. The two-wire controllers (spec/06_two_wire_buses.md R119 to R132) and the commands of the
Escapement that run on them (spec/07_escapement.md).
-/

namespace Sys2Proof.Machine

def sccSt (s : State) (n : Nat) : Scc := kgetD {} n s.scc
def setScc (s : State) (n : Nat) (x : Scc) : State := { s with scc := kput n x s.scc }

/-- STATUS.STATE: 0 OFF, 1 CHECKING, 2 IDLE, 3 BUSY, 4 LOCKED, 5 FAULT. -/
def sccState (s : State) (n : Nat) : Nat := s.fv (fSCC_STATUS_STATE n)

/-- A controller that runs is BUSY during a transaction, LOCKED between those of a lock, else IDLE. -/
def sccRest (s : State) (n : Nat) : State :=
  if 2 ≤ sccState s n && sccState s n ≤ 4 then
    let st := if (sccSt s n).cur.isSome then 3 else if s.on (fSCC_LOCK_HELD n) then 4 else 2
    (s.setF (fSCC_STATUS_STATE n) st).setF (fSCC_STATUS_SCL n) (b2n (st != 4))
  else s

/-- A lock that was asked for takes effect (R127). -/
def grantLock (s : State) (n : Nat) : State :=
  if (sccSt s n).asked && (sccState s n == 2) then
    sccRest ((setScc s n { sccSt s n with asked := false }).setF (fSCC_LOCK_HELD n) 1) n
  else s

/-- The lock is lost: by expiry, or broken by a result (R128). -/
def loseLock (s : State) (n : Nat) (broken : Bool) : State :=
  let s := (setScc s n { sccSt s n with ending := 0 }).setF (fSCC_LOCK_HELD n) 0
  let s := s.bump (fSCC_CNT_COUNT n 6)
  sccRest (if broken then (s.setF (fSCC_LOCK_BROKEN n) 1).ev (fSCC_EVENT_LOCK_BROKEN n)
    else (s.setF (fSCC_LOCK_EXPIRED n) 1).ev (fSCC_EVENT_LOCK_EXPIRED n)) n

/-- The lock ends by a write of 0 to ACTIVE. -/
def endLock (s : State) (n : Nat) : State :=
  sccRest ((setScc s n { sccSt s n with ending := 0, asked := false }).setRn (rSCC_LOCK n) 0) n

/-- A pulse request on XRST_N of SPORT[n] (R93). -/
def xrstPulse (s : State) (n : Nat) : State := s.setF (fSPORT_XRST_PULSE_BUSY n) 1

/-! ### The bus check (R129) -/

/-- Steps 1 to 6 of R129: `again` is the repeat. -/
def busCheck (s : State) (n : Nat) (c : BusCheck) (again : Bool) : State :=
  match c with
  | .free =>
    let s := (s.setF (fSCC_STATUS_SCL n) 1).setF (fSCC_STATUS_SDA n) 1
    let s := (setScc s n { sccSt s n with waiting := false }).setF (fSCC_STATUS_STATE n) 2
    let s := s.reportIf again 0x0E n 0x0005
    grantLock s n
  | _ =>
    let sda := c == .stuckSda
    let s := (s.setF (fSCC_STATUS_SCL n) (b2n sda)).setF (fSCC_STATUS_SDA n) (b2n (!sda))
    if again then
      let s := setScc s n { sccSt s n with waiting := false, asked := false }
      let s := (s.setF (fSCC_STATUS_STATE n) 5).ev (fSCC_EVENT_FAULT n)
      let s := if s.on (fSCC_LOCK_HELD n) then s else s.setF (fSCC_LOCK_ACTIVE n) 0
      s.report 0x0E n (if sda then 0x0006 else 0x0007)
    else
      let s := if sda then s.ev (fSCC_EVENT_STUCK_SDA n) else s.ev (fSCC_EVENT_STUCK_SCL n)
      let s := xrstPulse (s.bump (fSCC_CNT_COUNT n 5)) n
      (setScc s n { sccSt s n with waiting := true }).setF (fSCC_STATUS_STATE n) 1

/-- The check begins anew. -/
def startCheck (s : State) (n : Nat) (c : BusCheck) : State :=
  busCheck ((setScc s n { sccSt s n with waiting := false, recover := none }).setF
    (fSCC_STATUS_STATE n) 1) n c false

/-! ### Results (R120) -/

/-- The counters, events and codes of a result. -/
def sccResult (s : State) (n r : Nat) : State :=
  let s := s.setF (fSCC_STATUS_LAST_RESULT n) r
  if r = 0 then s.bump (fSCC_CNT_COUNT n 0)
  else if r = 1 || r = 2 then (s.bump (fSCC_CNT_COUNT n 1)).ev (fSCC_EVENT_NACK n)
  else if r = 3 then (s.ev (fSCC_EVENT_ARB_LOST n)).report 0x0E n 0x0002
  else if r = 4 then ((s.bump (fSCC_CNT_COUNT n 3)).ev (fSCC_EVENT_BUS_ERROR n)).report 0x0E n 0x0001
  else if r = 5 then ((s.bump (fSCC_CNT_COUNT n 4)).ev (fSCC_EVENT_SCL_TIMEOUT n)).report 0x0E n 0x0003
  else if r = 6 then ((s.bump (fSCC_CNT_COUNT n 4)).ev (fSCC_EVENT_BUSY_TIMEOUT n)).report 0x0E n 0x0004
  else if r = 7 || r = 8 then s.bump (fSCC_CNT_COUNT n 7)
  else s

/-- The requester gets the result. -/
def returnResult (s : State) (n : Nat) (who : SccWho) (r : Nat) (sent : Bool) (b : Byte) : State :=
  match who with
  | .esc p => burstTxnEnd s p n r sent
  | .bridge acc _ => byteEnded s acc r b

/-- The transaction of controller `n` ends with result `r`. -/
def endTxn (s : State) (n r : Nat) (sent : Bool) (b : Byte) : State :=
  match (sccSt s n).cur with
  | none => s
  | some t =>
    let x := sccSt s n
    let s := setScc s n { x with cur := none, restarts := 0, again := false }
    let s := (sccResult s n r).setF (fSCC_STATUS_BUS_BUSY n) 0
    let s := sccRest s n
    let s := if s.on (fSCC_LOCK_HELD n) then
        if r = 4 || r = 5 || r = 9 then loseLock s n true
        else if x.ending = 1 then endLock s n
        else if x.ending = 2 then loseLock s n false
        else s
      else s
    let s := returnResult s n t.who r sent b
    let s := match x.recover with
      | some c => if 2 ≤ sccState s n && sccState s n ≤ 4 then startCheck s n c else s
      | none => s
    grantLock s n

/-- The first data byte of a write follows its address and register bytes. -/
def firstData (t : SccTxn) : Nat := 1 + (if t.addr16 then 2 else 1)

/-- A transaction ends by itself: every byte acknowledged, or byte `k` not (R120, R156). -/
def txnEnd (s : State) (n : Nat) (nackAt : Option Nat) (b : Byte) : State :=
  match (sccSt s n).cur with
  | none => s
  | some t =>
    if (sccSt s n).again then s
    else match nackAt with
      | none => endTxn s n 0 true b
      | some k =>
        let addr := k == 0 || (!t.write && k == firstData t)
        endTxn s n (if addr then 1 else 2) (t.write && decide (firstData t < k)) 0

/-! ### Starting (R119, R157) -/

/-- The transaction that a burst is at. -/
def burstTxn (s : State) (p : Nat) : Option SccTxn :=
  match (escOf s p).profile, runningBurst s p with
  | some pr, some b =>
    match b.txns[b.next]? with
    | some .holdOn => some ⟨.esc p, true, pr.target, pr.addr16, pr.holdAddr, [pr.holdOn]⟩
    | some .holdOff => some ⟨.esc p, true, pr.target, pr.addr16, pr.holdAddr, [pr.holdOff]⟩
    | some (.group e g) =>
      match pr.groups[g]?, (escOf s p).entries.find? (fun x => x.id == e) with
      | some d, some x => some ⟨.esc p, true, pr.target, pr.addr16, d.addr, kgetD [] g x.data⟩
      | _, _ => none
    | none => none
  | _, _ => none

/-- The transaction of a byte of the bridge. -/
def bridgeTxn (s : State) (n : Nat) : Option SccTxn :=
  match queueOf s n with
  | [] => none
  | (id, i) :: _ =>
    match kget id s.bridge.accs with
    | none => none
    | some a =>
      some ⟨.bridge id i, decide (a.kind ≤ 1), s.fv (fSCC_TARGET_ADDR n),
        s.on (fSCC_TARGET_ADDR_WIDTH n), a.addr + i,
        if a.kind ≤ 1 then (a.data.drop i).take 1 else []⟩

/-- The controller begins a transaction. -/
def beginTxn (s : State) (n : Nat) (t : SccTxn) : State :=
  sccRest (setScc s n { sccSt s n with cur := some t, restarts := 0, again := false }) n

/-- The pipeline whose burst runs on controller `n`. -/
def burstOn (s : State) (n : Nat) : Option Nat :=
  (pipesOn s n).find? (fun p => (runningBurst s p).isSome)

/-- The pipeline's next burst that is due and not running. -/
def dueBurst (s : State) (p : Nat) : Option Burst :=
  match (escOf s p).bursts.head? with
  | some b => if b.due && !b.running then some b else none
  | none => none

/-- A bridge transaction that is refused after a lock was lost (R128), or because of a FAULT. -/
def refuseBridge (s : State) (n r : Nat) : State :=
  match bridgeTxn s n with
  | some t => returnResult (sccResult s n r) n t.who r false 0
  | none => s

def lockLost (s : State) (n : Nat) : Bool := s.on (fSCC_LOCK_EXPIRED n) || s.on (fSCC_LOCK_BROKEN n)

/-- SCC_TRANSACTION_START: a restart after lost arbitration, the next transaction of the running burst, or
a bridge transaction where no burst is due. -/
def txnStart (s : State) (n : Nat) : State :=
  let x := sccSt s n
  let st := sccState s n
  if x.cur.isSome then
    if x.again then (setScc s n { x with again := false }).setF (fSCC_STATUS_BUS_BUSY n) 0 else s
  else if st = 5 then refuseBridge s n 7
  else if st = 2 || st = 4 then
    let held := s.on (fSCC_LOCK_HELD n)
    match burstOn s n with
    | some p =>
      if held then
        match bridgeTxn s n with
        | some t => (match t.who with | .bridge id _ => beginTxn (byteBegins s id) n t | _ => s)
        | none => s
      else match burstTxn s p with
        | some t => beginTxn s n t
        | none => s
    | none =>
      if lockLost s n then refuseBridge s n 8
      else if !held && (pipesOn s n).any (fun p => (dueBurst s p).isSome) then s
      else match bridgeTxn s n with
        | some t => (match t.who with | .bridge id _ => beginTxn (byteBegins s id) n t | _ => s)
        | none => s
  else s

/-- BURST_START: among the due bursts, the one with the earliest latest start (R157). -/
def burstStart (s : State) (n : Nat) : State :=
  if sccState s n = 2 && (burstOn s n).isNone then
    let due := (pipesOn s n).filterMap (fun p => (dueBurst s p).map (fun b => (p, b)))
    let best := due.foldl (fun (m : Option (Nat × Burst)) x =>
      match m with
      | none => some x
      | some y => if decide (x.2.latest < y.2.latest) then some x else some y) none
    match best with
    | some (p, b) =>
      if decide (Int.ofNat s.dial ≤ b.latest) then
        let l := { b with running := true } :: (escOf s p).bursts.tail
        let s := setEsc s p { escOf s p with bursts := l }
        match burstTxn s p with
        | some t => beginTxn s n t
        | none => s
      else s
    | none => s
  else s

/-- Arbitration is lost (R122): the transaction waits to restart, or ends ARB_LOST. -/
def arbLost (s : State) (n : Nat) (begun : Bool) : State :=
  let x := sccSt s n
  if x.cur.isSome && !x.again then
    let s := s.bump (fSCC_CNT_COUNT n 2)
    if x.restarts < s.fv (fSCC_CTRL_ARB_RETRY n) then
      (setScc s n { x with restarts := x.restarts + 1, again := true }).setF (fSCC_STATUS_BUS_BUSY n) 1
    else endTxn s n 3 begun 0
  else s

/-- The bus was not free within BUSY_MS of a transaction becoming due (R121, R122). -/
def busyTimeout (s : State) (n : Nat) : State :=
  let x := sccSt s n
  if x.cur.isSome then (if x.again then endTxn s n 6 false 0 else s)
  else
    let t := txnStart (burstStart s n) n
    if (sccSt t n).cur.isSome then endTxn t n 6 false 0 else t

/-! ### Control writes (R126, R129, R132) -/

/-- The transaction in progress is aborted and the lines are released. -/
def sccAbort (s : State) (n : Nat) (begun : Bool) : State :=
  let s := setScc s n { sccSt s n with recover := none }
  let s := endTxn s n 9 begun 0
  if s.on (fSCC_LOCK_HELD n) then loseLock s n true else s

/-- A write of CTRL: `begun` and `check` say what the bus was doing and what a check finds. -/
def sccCtrl (s : State) (n : Nat) (v : Word) (begun : Bool) (check : BusCheck) : State :=
  let w := v.toNat
  let en := bitAt w 0
  if s.on (fSCC_STATUS_ABSENT n) then s
  else if bitsOf w 1 2 = 3 then s.ev (fSCC_EVENT_CFG_INVALID n)
  else if s.on (fSCC_CTRL_EN n) then
    if bitsOf w 1 2 ≠ s.fv (fSCC_CTRL_SPEED n) || bitsOf w 5 4 ≠ s.fv (fSCC_CTRL_ARB_RETRY n) then
      s.ev (fSCC_EVENT_CFG_IGNORED n)
    else if !en then
      let s := sccAbort s n begun
      let s := setScc s n { sccSt s n with waiting := false, asked := false }
      let s := (s.setF (fSCC_CTRL_EN n) 0).setF (fSCC_STATUS_STATE n) 0
      if s.on (fSCC_LOCK_BROKEN n) then s else s.setF (fSCC_LOCK_ACTIVE n) 0
    else if bitAt w 3 then startCheck (sccAbort s n begun) n check
    else if bitAt w 4 then
      if (sccSt s n).cur.isSome then setScc s n { sccSt s n with recover := some check }
      else if sccState s n = 1 then s
      else if sccState s n = 5 then
        -- a failing check leaves the controller in FAULT after its repeat
        startCheck s n check
      else startCheck s n check
    else s
  else
    if en && !domOn s (14 + n / 8) then s.ev (fSCC_EVENT_CFG_INVALID n)
    else
    let s := (s.setF (fSCC_CTRL_SPEED n) (bitsOf w 1 2)).setF (fSCC_CTRL_ARB_RETRY n) (bitsOf w 5 4)
    if en then startCheck (s.setF (fSCC_CTRL_EN n) 1) n check else s

/-- The word with EN set, as a write that enables. -/
def execSccEnable (n : Nat) (v : Word) (check : BusCheck) (s : State) : Out :=
  .next (hub s (sccCtrl s (n % 32) (v ||| 1#32) false check))
def execSccDisable (n : Nat) (v : Word) (begun : Bool) (s : State) : Out :=
  .next (hub s (sccCtrl s (n % 32) (v &&& 0xFFFFFFFE#32) begun .free))
def execSccSoftReset (n : Nat) (v : Word) (begun : Bool) (check : BusCheck) (s : State) : Out :=
  .next (hub s (sccCtrl s (n % 32) (v ||| 8#32) begun check))
def execSccRecover (n : Nat) (v : Word) (check : BusCheck) (s : State) : Out :=
  .next (hub s (sccCtrl s (n % 32) ((v &&& 0xFFFFFFF7#32) ||| 0x10#32) false check))

/-- The wait after the recovery pulse ends: the check is repeated once. -/
def recoveryEnd (s : State) (n : Nat) (c : BusCheck) : State :=
  if (sccSt s n).waiting then busCheck s n c true else s

def execSccRecoveryWaitEnd (n : Nat) (check : BusCheck) (s : State) : Out :=
  .next (hub s (recoveryEnd s (n % 32) check))
def execSccTransactionStart (n : Nat) (s : State) : Out := .next (hub s (txnStart s (n % 32)))
def execSccTransactionEnd (n : Nat) (nackAt : Option Nat) (byte : Byte) (s : State) : Out :=
  .next (hub s (txnEnd s (n % 32) nackAt byte))
def execArbitrationLost (n : Nat) (begun : Bool) (s : State) : Out :=
  .next (hub s (arbLost s (n % 32) begun))
def execBusErrorDetected (n : Nat) (begun : Bool) (s : State) : Out :=
  .next (hub s (endTxn s (n % 32) 4 begun 0))
def execSclStretchTimeout (n : Nat) (begun : Bool) (s : State) : Out :=
  .next (hub s (endTxn s (n % 32) 5 begun 0))
def execBusyTimeout (n : Nat) (s : State) : Out := .next (hub s (busyTimeout s (n % 32)))

/-! ### Locks (R127, R128) -/

def lockRequest (s : State) (n : Nat) : State :=
  let st := sccState s n
  if s.on (fSCC_LOCK_ACTIVE n) then s
  else if st = 0 || st = 5 then s
  else grantLock ((setScc s n { sccSt s n with asked := true }).setF (fSCC_LOCK_ACTIVE n) 1) n

def lockEnd (s : State) (n : Nat) : State :=
  if s.on (fSCC_LOCK_HELD n) && (sccSt s n).cur.isSome then
    (setScc s n { sccSt s n with ending := 1 }).setF (fSCC_LOCK_ACTIVE n) 0
  else endLock s n

def lockExpiry (s : State) (n : Nat) : State :=
  if s.on (fSCC_LOCK_HELD n) then
    if (sccSt s n).cur.isSome then
      if (sccSt s n).ending = 1 then s else setScc s n { sccSt s n with ending := 2 }
    else loseLock s n false
  else s

def execLockRequest (n : Nat) (s : State) : Out := .next (hub s (lockRequest s (n % 32)))
def execLockEnd (n : Nat) (s : State) : Out := .next (hub s (lockEnd s (n % 32)))
def execLockExpiry (n : Nat) (s : State) : Out := .next (hub s (lockExpiry s (n % 32)))

/-! ### The Escapement (R142, R152 to R157) -/

/-- FLUSH (R154). -/
def escFlush (s : State) (p : Nat) : State := failAll s p 0x23

/-- The write window of the oldest frame with a burst that is not due opens; a FAULT fails every entry
on the controller (R152, R154). -/
def windowOpens (s : State) (p : Nat) : State :=
  match (escOf s p).bursts.find? (fun b => !b.due) with
  | none => s
  | some b =>
    match sccOf s p with
    | some n =>
      if sccState s n = 5 then failBus s n
      else
        let f (x : Burst) : Burst := if decide (x.frame = b.frame) then { x with due := true } else x
        setEsc s p { escOf s p with bursts := (escOf s p).bursts.map f }
    | none => s

/-- The pipeline's next burst cannot start in time: it sends nothing and is late (R153). -/
def latestPassed (s : State) (p : Nat) : State :=
  match (escOf s p).profile, (escOf s p).bursts.find? (fun b => !b.running) with
  | some pr, some b =>
    let run := (escOf s p).bursts.filter (fun x => x.running)
    let rest := ((escOf s p).bursts.filter (fun x => !x.running)).tail
    judgeLate (setEsc s p { escOf s p with bursts := run ++ rest }) p pr b
  | _, _ => s

def execEscProfileLoad (p : Nat) (s : State) : Out := .next (hub s (profileLoad s (p % 32)))
def execEscFlush (p : Nat) (s : State) : Out := .next (hub s (escFlush s (p % 32)))
def execWriteWindowOpen (p : Nat) (s : State) : Out := .next (hub s (windowOpens s (p % 32)))
def execBurstStart (n : Nat) (s : State) : Out := .next (hub s (burstStart s (n % 32)))
def execBurstLatestStartPassed (p : Nat) (s : State) : Out := .next (hub s (latestPassed s (p % 32)))
def execSettings (s : State) : Out := .next (hub s (onCmd s 0x20 cmdSettings))

end Sys2Proof.Machine
end

