-- ==== Sys2Proof/Machine/Ports.lean ====
section
/-!
DEFINITION. The commands of the ports (spec/04_sensor_ports.md R64 to R94): enable and reset, the PHY, CSI-2
packets, parallel lines, and the sensor clock and reset outputs.
-/

namespace Sys2Proof.Machine

/-! ### CTRL (R67, R68, R97, R541) -/

def sportAbsent (s : State) (n : Nat) : Bool := s.on (fSPORT_STATUS_ABSENT n)

/-- LINK_RATE and the lanes allow the port to be enabled with the CTRL word `v` (R67). -/
def sportCfgOk (s : State) (n v : Nat) : Bool :=
  let r := s.fv (fSPORT_LINK_RATE_RATE n)
  let c := bitAt v 1
  decide (80 ≤ r) && decide (r ≤ if c then 6000 else 4500) && !(c && bitsOf v 2 2 == 3)

/-- The fields of CTRL but EN and SOFT_RESET. -/
def sportFields (s : State) (n v : Nat) : State := s.setF ⟨rSPORT_CTRL n, 1, 5⟩ (bitsOf v 1 5)

/-- The receiver stops listening. -/
def sportOff (s : State) (n : Nat) : State :=
  illUpdate ((s.setF (fSPORT_CTRL_EN n) 0).setF (fSPORT_STATUS_PHY_READY n) 0)

/-- SOFT_RESET: open frames are truncated, the receiver is reset and EN is cleared. -/
def sportReset (s : State) (n : Nat) : State :=
  let s := (List.range 16).foldl (fun s k => truncateChan s n k) s
  let s := (s.setF (fSPORT_STATUS_DESKEW_DONE n) 0).setF (fSPORT_STATUS_ULPS n) 0
  sportOff (setPort s n {}) n

/-- A write of `v` to CTRL of SPORT[n]. -/
def sportCtrl (s : State) (n : Nat) (w : Word) : State :=
  let v := w.toNat
  let was := s.on (fSPORT_CTRL_EN n)
  if sportAbsent s n then s
  else if was && bitsOf v 1 5 != bitsOf (s.rn (rSPORT_CTRL n)) 1 5 then s.ev (fSPORT_EVENT_CFG_IGNORED n)
  else if bitAt v 6 then sportReset (sportFields s n v) n
  else if bitAt v 0 && !was then
    if !sportUp s n then s.ev (fSPORT_EVENT_CFG_INVALID n)
    else if sportCfgOk s n v then illUpdate ((sportFields s n v).setF (fSPORT_CTRL_EN n) 1)
    else (sportFields s n v).ev (fSPORT_EVENT_CFG_INVALID n)
  else if was && !bitAt v 0 then sportOff s n
  else sportFields s n v

/-- A write of PHY_CFG or LINK_RATE: discarded where it would change an enabled port (R67). -/
def sportPhyWrite (s : State) (n off : Nat) (v : Word) : State :=
  if s.on (fSPORT_CTRL_EN n) && writeWord (s.rn off) v.toNat (match regAt off with
      | some (r, _, _) => r.flds
      | none => []) != s.rn off then
    s.ev (fSPORT_EVENT_CFG_IGNORED n)
  else plainWrite s off v

def execSportEnable (n : Nat) (v : Word) (s : State) : Out := .next (hub s (settleAll (sportCtrl s (n % 32) v)))
def execSportSoftReset (n : Nat) (v : Word) (s : State) : Out := .next (hub s (settleAll (sportCtrl s (n % 32) v)))

/-! ### The PHY (R64, R66, R97) -/

/-- The port is enabled and its receiver is powered. -/
def sportOn (s : State) (n : Nat) : Bool := sportUp s n && s.on (fSPORT_CTRL_EN n)

/-- The lanes leave stop state or ULPS. -/
def stopExit (s : State) (n : Nat) (clock : Bool) : State :=
  if sportOn s n then
    let s := (s.setF (fSPORT_STATUS_DESKEW_DONE n) 0).setF (fSPORT_STATUS_ULPS n) 0
    setPort (s.setF (fSPORT_STATUS_CLK_PRESENT n) (b2n clock)) n { portOf s n with exited := true }
  else s

/-- The lanes enter ULPS. -/
def ulps (s : State) (n : Nat) : State :=
  if sportOn s n then (s.setF (fSPORT_STATUS_ULPS n) 1).setF (fSPORT_STATUS_CLK_PRESENT n) 0 else s

/-- An initial deskew sequence is received. -/
def deskew (s : State) (n : Nat) : State :=
  if sportOn s n && s.on (fSPORT_STATUS_PHY_READY n) then
    setPort (s.setF (fSPORT_STATUS_DESKEW_DONE n) 1) n { portOf s n with exited := false }
  else s

/-- The lanes are seen in stop state. -/
def stopEntry (s : State) (n : Nat) (clock : Bool) : State :=
  if sportOn s n then
    let s := (s.setF (fSPORT_STATUS_PHY_READY n) 1).setF (fSPORT_STATUS_ULPS n) 0
    s.setF (fSPORT_STATUS_CLK_PRESENT n) (b2n clock)
  else s

def execStopStateExit (n : Nat) (clock : Bool) (s : State) : Out := .next (hub s (stopExit s (n % 32) clock))
def execUlpsEntry (n : Nat) (s : State) : Out := .next (hub s (ulps s (n % 32)))
def execDeskewSequence (n : Nat) (s : State) : Out := .next (hub s (deskew s (n % 32)))
def execStopStateEntry (n : Nat) (clock : Bool) (s : State) : Out := .next (hub s (stopEntry s (n % 32) clock))

/-! ### Packets (R69 to R72, R75, R80 to R84) -/

/-- The port receives packets (R80). -/
def sportHears (s : State) (n : Nat) : Bool := sportOn s n && s.on (fSPORT_STATUS_PHY_READY n)

/-- A packet is the first after an exit from stop state that no deskew sequence preceded (R66). -/
def firstPacket (s : State) (n : Nat) : State :=
  let x := portOf s n
  if x.exited then
    let fast := !s.on (fSPORT_CTRL_PHY_MODE n) && decide (1500 < s.fv (fSPORT_LINK_RATE_RATE n))
    (setPort s n { x with exited := false }).evIf fast (fSPORT_EVENT_DESKEW_MISSING n)
  else s

/-- The header check of a packet (R71): whether the packet is used. -/
def headerIn (s : State) (n : Nat) : Header → Bool × State
  | .good => (true, s)
  | .corrected => (true, s.bump (portCnt n 0))
  | .bad => (false, (s.bump (portCnt n 1)).ev (portEvent n 0))

/-- A packet of an unmapped channel (R75). -/
def unmapped (s : State) (n : Nat) : State := (s.bump (portCnt n 7)).ev (portEvent n 6)

/-- The channel of a packet, and the pipeline that its active entry names (R70, R75). -/
def routeOf (s : State) (n vc : Nat) : Option (Nat × Nat) :=
  let k := if s.on (fSPORT_CTRL_VCX n) then vc else vc % 4
  if k < 16 && s.aon (fSPORT_VC_MAP_EN n k) then some (k, s.av (fSPORT_VC_MAP_PIPE n k)) else none

/-- A packet of SPORT[n]: it is heard, its header is judged, and `f` takes it on its channel. -/
def packetOn (s : State) (n vc : Nat) (hdr : Header) (f : State → Nat → Nat → State) : State :=
  if sportHears s n then
    let (use, s) := headerIn (firstPacket s n) n hdr
    if !use then s
    else match routeOf s n vc with
      | some (k, p) => f s k p
      | none => unmapped s n
  else s

/-- A frame start packet: its number is checked against the channel's previous one (R82). -/
def frameStartPacket (s : State) (n num k p : Nat) : State :=
  let c := chanSt s n k
  let gap := s.on (fSPORT_FRAME_CFG_FN_CHECK n) && accepts s p && (match c.fn with
    | some x => (x + 1) % 65536 != num % 65536
    | none => false)
  let s := frameStart (setChan s n k { c with fn := some num }) n k p
  if gap then (s.bump (portCnt n 14)).ev (portEvent n 8) else s

/-- A line start packet: its number stands for the line that follows (R81). -/
def lineStartPacket (s : State) (n num k : Nat) : State := setChan s n k { chanSt s n k with ls := some num }

/-- A line of the open frame `x`: an embedded line, an image line, or a line of another type (R72, R78, R81). -/
def lineIn (s : State) (n k p : Nat) (x : Frame) (dt : Nat) (bytes : List Byte) (crcOk overflow : Bool) : State :=
  if x.ignore || x.fe.isSome then s
  else if dt = 0x12 then embLine s n p x bytes crcOk
  else imageLine s n k p x crcOk (unpackLine dt x.width bytes) (chanSt s n k).ls overflow

/-- A long packet of channel `k`. -/
def longPacket (s : State) (n k dt : Nat) (bytes : List Byte) (crcOk overflow : Bool) : State :=
  if dt ≠ 0x12 && dt ≠ s.av (fSPORT_VC_MAP_DT n k) then s.bump (portCnt n 8)
  else
    let c := chanSt s n k
    if c.skip then s
    else match c.frame with
      | none => orphan s n
      | some (q, f) =>
        match frameOf s q f with
        | some x => lineIn s n k q x dt bytes crcOk overflow
        | none => s

def execFrameStartPacket (n vc num : Nat) (hdr : Header) (s : State) : Out :=
  .next (hub s (settleAll (packetOn s (n % 32) vc hdr (fun s k p => frameStartPacket s (n % 32) num k p))))
def execLineStartPacket (n vc num : Nat) (hdr : Header) (s : State) : Out :=
  .next (hub s (packetOn s (n % 32) vc hdr (fun s k _ => lineStartPacket s (n % 32) num k)))
def execFrameEndPacket (n vc : Nat) (hdr : Header) (s : State) : Out :=
  .next (hub s (settleAll (packetOn s (n % 32) vc hdr (fun s k _ => frameEnd s (n % 32) k))))

/-- A long packet; null and blanking packets are discarded uncounted. -/
def longPacketIn (s : State) (n vc dt : Nat) (bytes : List Byte) (hdr : Header) (crcOk overflow : Bool) : State :=
  if (dt = 0x10 || dt = 0x11) && hdr ≠ .bad then
    if sportHears s n then (headerIn (firstPacket s n) n hdr).2 else s
  else packetOn s n vc hdr (fun s k _ => longPacket s n k dt bytes crcOk overflow)

def execLongPacket (n vc dt : Nat) (bytes : List Byte) (hdr : Header) (crcOk overflow : Bool) (s : State) : Out :=
  .next (hub s (settleAll (longPacketIn s (n % 32) vc dt bytes hdr crcOk overflow)))

/-- A generic short packet (R72). -/
def genericShort (s : State) (n : Nat) (hdr : Header) : State :=
  if sportHears s n then
    let (use, s) := headerIn (firstPacket s n) n hdr
    if use then s.bump (portCnt n 8) else s
  else s

def execGenericShortPacket (n : Nat) (hdr : Header) (s : State) : Out := .next (hub s (genericShort s (n % 32) hdr))

/-- The byte clock is lost, or the lanes leave HS in the middle of a packet (R82). -/
def phyLost (s : State) (n : Nat) (clock : Bool) : State :=
  if sportHears s n then
    let s := firstPacket s n
    ((s.bump (portCnt n 1)).ev (portEvent n 9)).setF (fSPORT_STATUS_CLK_PRESENT n) (b2n clock)
  else s

def execPhyLinkLost (n : Nat) (clock : Bool) (s : State) : Out := .next (hub s (phyLost s (n % 32) clock))
def execFrameTimeout (n k : Nat) (s : State) : Out := .next (hub s (settleAll (frameTimeout s (n % 36) (k % 16))))

/-! ### LPORTs (R87 to R90) -/

def lportOn (s : State) (m : Nat) : Bool := s.on (fLPORT_CTRL_EN m) && !s.on (fLPORT_STATUS_ABSENT m)

/-- PCLK runs now. -/
def lportClock (s : State) (m : Nat) : State := setPort s (32 + m) { portOf s (32 + m) with pclk := some s.now }

def lportStart (s : State) (m : Nat) : State :=
  if lportOn s m then
    let s := lportClock s m
    if s.aon (fLPORT_MAP_EN m) then
      frameStart (setPort s (32 + m) { portOf s (32 + m) with passed := 0 }) (32 + m) 0 (s.av (fLPORT_MAP_PIPE m))
    else setChan s (32 + m) 0 { chanSt s (32 + m) 0 with skip := true, skipEnd := true }
  else s

/-- The words of a line from its first pixel: HSYNC lines begin HSTART pixels in and have WIDTH pixels. -/
def lportWords (s : State) (m : Nat) (x : Frame) (words : List Nat) : List Nat :=
  if s.on (fLPORT_CTRL_LINE_MODE m) then
    let per := if x.rd.f (fLPORT_CTRL_FORMAT m) = 1 then 2 else 1
    (words.drop (per * s.fv (fLPORT_START_HSTART m))).take (per * x.width)
  else words

/-- The bytes of an embedded line (R90). -/
def lportBytes (x : Frame) (m : Nat) (words : List Nat) : List Byte :=
  let f := x.rd.f (fLPORT_CTRL_FORMAT m)
  let n := if f = 1 || (f = 0 && x.rd.f (fLPORT_CTRL_BITS m) = 0) then 1 else 2
  let bits := if f = 0 then lportBits (x.rd.f (fLPORT_CTRL_BITS m)) else 8 * n
  words.flatMap (fun w => leBytes n (w % 2 ^ bits))

def lportLineIn (s : State) (m p : Nat) (x : Frame) (words : List Nat) (overflow : Bool) : State :=
  let n := 32 + m
  let passed := (portOf s n).passed
  if x.ignore || x.fe.isSome then s
  else if passed < s.fv (fLPORT_START_VSTART m) then setPort s n { portOf s n with passed := passed + 1 }
  else
    let ws := lportWords s m x words
    if x.seen = 0 && x.top.length < (entryEmb x.rd n 0).1 then embLine s n p x (lportBytes x m ws) true
    else imageLine s n 0 p x true (lportSamples x.rd m x.width ws) none overflow

def lportLine (s : State) (m : Nat) (words : List Nat) (overflow : Bool) : State :=
  if lportOn s m then
    let s := lportClock s m
    let c := chanSt s (32 + m) 0
    if c.skip then s
    else match c.frame with
      | none => if s.aon (fLPORT_MAP_EN m) then orphan s (32 + m) else s
      | some (p, f) =>
        match frameOf s p f with
        | some x => lportLineIn s m p x words overflow
        | none => s
  else s

def lportEnd (s : State) (m : Nat) : State :=
  if lportOn s m then
    let s := lportClock s m
    if s.aon (fLPORT_MAP_EN m) || (chanSt s (32 + m) 0).frame.isSome then frameEnd s (32 + m) 0 else s
  else s

def execLportVsyncActive (m : Nat) (s : State) : Out := .next (hub s (settleAll (lportStart s (m % 4))))
def execLportLine (m : Nat) (words : List Nat) (overflow : Bool) (s : State) : Out :=
  .next (hub s (settleAll (lportLine s (m % 4) words overflow)))
def execLportVsyncInactive (m : Nat) (s : State) : Out := .next (hub s (settleAll (lportEnd s (m % 4))))

/-! ### Sensor clock and reset (R91, R93, R541) -/

/-- A write of MCLK. -/
def mclkWrite (s : State) (n : Nat) (v : Word) : State :=
  if sportAbsent s n then s
  else if bitAt v.toNat 16 && !sportUp s n then s.ev (fSPORT_EVENT_CFG_INVALID n)
  else plainWrite s (rSPORT_MCLK n) v

/-- A write of XRST: a width of 0 discards the write, and PULSE starts the pulse or restarts its timer. -/
def xrstWrite (s : State) (n : Nat) (v : Word) : State :=
  if sportAbsent s n then s
  else if bitsOf v.toNat 16 16 = 0 then s.ev (fSPORT_EVENT_CFG_INVALID n)
  else
    let t := plainWrite s (rSPORT_XRST n) v
    if bitAt v.toNat 1 then xrstPulse t n else t

/-- The pulse ends. -/
def xrstEnd (s : State) (n : Nat) : State := s.setF (fSPORT_XRST_PULSE_BUSY n) 0

def execMclkWrite (n : Nat) (v : Word) (s : State) : Out := .next (hub s (mclkWrite s (n % 32) v))
def execXrstPulse (n : Nat) (v : Word) (s : State) : Out := .next (hub s (xrstWrite s (n % 32) v))
def execXrstPulseEnd (n : Nat) (s : State) : Out := .next (hub s (xrstEnd s (n % 32)))

end Sys2Proof.Machine
end

