-- ==== Sys2Proof/Machine/RegVals.lean ====
section
/-!
DEFINITION. What a register reads: the registers that follow other state, the pairs of R101, and the blocks that are
absent, not selected or powered down (spec/24_register_map.md R551, R552, and the tables of the owning chapters).
-/

namespace Sys2Proof.Machine

/-! ### Registers that follow other state -/

/-- GLB.INT_SUMMARY[i] (R557). -/
def intSummary (s : State) (i : Nat) : Nat := maskOf 32 (fun b => s.on (fRING_INT_ROUTE_PENDING (32 * i + b)))

/-- RING.INT_MODE. -/
def intMode (s : State) : Nat := b2n (msixOn s) + b2n (msiOn s) * 2 + (if msiOn s then msiVectors s else 0) * 2 ^ 8

/-- ESC.SUMMARY (R162). -/
def escSummary (s : State) : Nat :=
  maskOf 32 (fun p => decide (s.reg (rESCP_EVENT p) &&& s.reg (rESCP_EVENT_EN p) ≠ 0))

/-- Hoist PENDING[i] (R343). -/
def hoistPending (s : State) (i : Nat) : Nat :=
  maskOf 32 (fun b => decide (s.reg (rHOIST_EVENT (32 * i + b)) &&& s.reg (rHOIST_EVENT_EN (32 * i + b)) ≠ 0))

/-- FE_STATUS (R224). -/
def feStatus (s : State) (p : Nat) : Nat :=
  let shadow := ((inputOf (swapCfg s p) p).bind (fun e => classOf (swapCfg s p) p e.2)).getD 15
  let rd := actCfg s
  match inputOf rd p with
  | none => 15 + shadow * 2 ^ 4
  | some (_, f) =>
    let n := f.bits * 2 ^ 13 + shadow * 2 ^ 4
    match classOf rd p f with
    | none => 15 + n
    | some c =>
      c + n + ctxOf rd p c * 2 ^ 8 + (if classComps c = 1 then 0 else if classComps c = 3 then 1 else 2) * 2 ^ 11

/-- OUT_STATUS (R249): LA of the active set. -/
def outStatus (s : State) (p o : Nat) : Nat :=
  let rd := actCfg s
  match inputOf rd p with
  | none => 0
  | some (e, f) =>
    match classOf rd p f with
    | none => 0
    | some c =>
      if outEn rd p o && outDewarp rd p o then lookAhead rd p o (entryGeom rd e.1 e.2).2 (sliceH rd p) (ctxOf rd p c)
      else 0

/-- Every target's active and armed sets. -/
def allSets (s : State) : List (List (Demand × Place)) :=
  (List.range 36).map (fun t => activeSet s t ++ armedSet s t)

/-- TILE[n].LOAD, CAPACITY, INTAKE and SHELF_USED, rounded up (R298). -/
def tileLoad (s : State) (n : Nat) : Nat :=
  let l := sumFr (loadOn n) (allSets s)
  ceilDiv l.num (l.den * 1000000)
def tileIntake (s : State) (n : Nat) : Nat :=
  let l := sumFr (intakeOn n) (allSets s)
  ceilDiv l.num (l.den * 1000)
def tileReg (s : State) (n k : Nat) : Nat :=
  if k = 0x08 then tileLoad s n
  else if k = 0x0C then tileCap s n / 1000000
  else if k = 0x10 then tileIntake s n
  else if k = 0x14 then sumNat (shelfOn n) (allSets s)
  else if k = 0x18 then maskOf 32 (fun p => (placeOf s p).host == some n)
  else maskOf 32 (fun p => (placeOf s p).twin == some n)

/-- The bits of STATE, POLY, INIT and XOROUT that ALGO 4 uses (R462). -/
def tallyMask (s : State) (u v : Nat) : Nat :=
  if s.fv (fTALLY_CTRL_ALGO u) = 4 then v % 2 ^ (s.fv (fTALLY_CTRL_WIDTH_M1 u) + 1) else v

/-- The register at `off` of a block below 0x20_0000. -/
def hubVal (s : State) (off v : Nat) : Nat :=
  if rGLB_INT_SUMMARY 0 ≤ off && off < rGLB_INT_SUMMARY 16 then intSummary s ((off - rGLB_INT_SUMMARY 0) / 4)
  else if off = rRING_INT_MODE then intMode s
  else if rSAFE_DISP_STATUS 0 ≤ off && off < rSAFE_DISP_STATUS 132 then
    let st := (off - rSAFE_DISP_STATUS 0) / 4
    putBits v 0 16 (if (kget st s.isl.confirmed).isSome then satTo 0xFFFF (displayedAge s st s.dial / 1000000) else 0xFFFF)
  else if 0x90000 ≤ off && off < 0x9B000 && off % 0x1000 = 4 then
    let c := (off - 0x90000) / 0x1000
    putBits v 3 2 (if c < 2 then 0 else if c = 10 then 2 else 1)
  else if 0xA0000 ≤ off && off < 0xA0800 && (off % 0x80 = 4 || off % 0x80 = 8 || off % 0x80 = 0xC) then
    tallyMask s ((off - 0xA0000) / 0x80) v
  else if 0xA0000 ≤ off && off < 0xA0800 && 0x40 ≤ off % 0x80 then 0
  else if off = rREGU_DIAL_LO then s.dial % 2 ^ 32
  else if off = rREGU_DIAL_HI then s.dial / 2 ^ 32
  else if off = rREGU_STATUS then putBits v 3 1 (b2n (streamsActive s))
  else v

/-- The register at `off` of an LPORT, the ESC or a PIPE or CANVAS block. -/
def pipeVal (s : State) (off v : Nat) : Nat :=
  let p := (off - 0x400000) / 0x10000
  let o := off % 0x10000
  if off < 0x224000 then
    if off % 0x1000 = 4 && 0x220000 ≤ off then
      let seen := match (portOf s (32 + (off - 0x220000) / 0x1000)).pclk with
        | some t => decide (s.now ≤ t + 10000)
        | none => false
      putBits v 0 1 (b2n seen)
    else v
  else if off = rESC_SUMMARY then escSummary s
  else if 0x400000 ≤ off && off < 0x600000 then
    if o = 0x0004 then feStatus s p
    else if o = 0x0018 then tablesMask s p
    else if o = 0x0180 then outTablesMask s p
    else if 0x200 ≤ o && o < 0x400 && o % 0x80 = 0x48 then outStatus s p ((o - 0x200) / 0x80)
    else if 0xF050 ≤ o && o < 0xF060 then putBits v 16 16 (ageMs s (4 * p + (o - 0xF050) / 4))
    else v
  else v

/-- The register at `off` of a TILE, the Larder, the Hoist or a block above them. -/
def upperVal (s : State) (off v : Nat) : Nat :=
  if off < 0x1000000 then
    if 0x800000 ≤ off && 0x08 ≤ off % 0x100000 && off % 0x100000 < 0x20 then
      tileReg s ((off - 0x800000) / 0x100000) (off % 0x100000)
    else v
  else if off = rLARDER_POOL_LIMIT then poolLimit s
  else if off = rLARDER_POOL_RESERVED then poolReserved s
  else if off = rLARDER_POOL_FREE then poolFree s
  else if 0x1004000 ≤ off && off < 0x1005000 && off % 16 = 4 then groupReg s ((off - 0x1004000) / 16)
  else if 0x1020000 ≤ off && off < 0x1040000 && 0x0C ≤ off % 0x20 && off % 0x20 < 0x1C then
    queueReg s ((off - 0x1020000) / 0x20) ((off % 0x20 - 0x0C) / 4)
  else if rHOISTG_PENDING 0 ≤ off && off < rHOISTG_PENDING 8 then hoistPending s ((off - rHOISTG_PENDING 0) / 4)
  else if 0x1200800 ≤ off && off < 0x1200A00 && off % 0x20 = 4 then
    let w := (off - 0x1200800) / 0x20
    b2n (winIdle s w) + winInflight s w * 2 ^ 16
  else if 0x1300000 ≤ off && off < 0x1380000 && off % 0x10000 = 4 && !s.on ⟨off - 4, 0, 1⟩ then
    putBits v 0 4 15
  else v

/-! ### Absent blocks (R552) -/

/-- How a block answers: as it stands; with its status, event and counter registers alone; with its reset values;
or with zeros. -/
inductive Presence where
  | here | statusOnly | resetValues | zeros
  deriving DecidableEq, Repr

/-- LPORT without VDDIO_LP (R552), a tile not selected (R298), TADC[n] of a tile not in service (R472), the lanes and
the fabric while LANES is not ON (R541). -/
def presence (s : State) (off : Nat) : Presence :=
  if 0x220000 ≤ off && off < 0x224000 then
    if s.on (fLPORT_STATUS_ABSENT ((off - 0x220000) / 0x1000)) then .statusOnly else .here
  else if 0x800000 ≤ off && off < 0x1000000 then
    if s.fv (fTILE_STATUS_STATE ((off - 0x800000) / 0x100000)) = 0 then .zeros else .here
  else if 0x92000 ≤ off && off < 0x9A000 then
    if convIn s ((off - 0x90000) / 0x1000) then .here else .zeros
  else if 0x1300000 ≤ off && off < 0x1410000 then
    if domOn s 12 then .here else .resetValues
  else .here

/-- STATUS, EVENT, EVENT_EN and the counters of an LPORT. -/
def statusReg (off : Nat) : Bool := off % 0x1000 == 4 || decide (0x18 ≤ off % 0x1000)

/-- What a read of the register at `off` returns, side effects and latches apart. -/
def regVal (s : State) (off : Nat) : Nat :=
  match regAt off with
  | none => 0
  | some (r, i, _) =>
    let v := s.rn off
    let v := if off < 0x200000 then hubVal s off v else if off < 0x640000 then pipeVal s off v else upperVal s off v
    match presence s off with
    | .here => v
    | .statusOnly => if statusReg off then v else 0
    | .resetValues =>
      -- R420 shows an absent lane
      let d := resetOf i r.flds
      if off < 0x1380000 && off % 0x10000 = 4 then putBits d 9 1 (bitsOf (s.rn off) 9 1) else d
    | .zeros => 0

/-- The block of the register at `off` is absent or powered down (R136, R358). -/
def blockGone (s : State) (off : Nat) : Bool :=
  if 0x200000 ≤ off && off < 0x220000 then !domOn s (14 + (off - 0x200000) / 0x8000)
  else if 0x300000 ≤ off && off < 0x320000 then !domOn s (14 + (off - 0x300000) / 0x8000)
  else if 0x800000 ≤ off && off < 0x1000000 then !domOn s (2 + (off - 0x800000) / 0x100000)
  else presence s off != .here

/-- What QUERY returns (R358). -/
def queryVal (s : State) (off : Nat) : Nat := if blockGone s off then 0 else regVal s off

/-! ### Pairs (R101) -/

/-- The lower halves of the pairs that hold one 64-bit value: base, strides and counts. -/
def pairRows : List (Nat × Nat × Nat × Nat × Nat) := [
  (rRING_SHADOW_BASE_LO, 0, 1, 0, 1), (rCR_BASE_LO 0, 0x20, 16, 0, 1), (rCQ_BASE_LO 0, 0x20, 64, 0, 1),
  (rSR_BASE_LO 0, 0x20, 512, 0, 1), (rPCIE_LP5X_WIN_LO, 0, 1, 0, 1), (rMSIX_ADDR_LO 0, 0x10, 2048, 0, 1),
  (rSAFE_WIND_CHAL_LO, 0, 1, 0, 1), (rSAFE_WIND_DUE_LO, 0, 1, 0, 1), (rSAFE_FIRST_TIME_LO, 0, 1, 0, 1),
  (rTALLY_COUNT_LO 0, 0x80, 16, 0, 1), (rATTIC_UPD_SRC_LO, 0, 1, 0, 1), (rIDENT_SERIAL_LO, 0, 1, 0, 1),
  (rIDENT_GMAC_FROM_LO, 0, 1, 0, 1), (rREGU_DIAL_LO, 0, 1, 0, 1), (rREGU_DIAL_SET_LO, 0, 1, 0, 1),
  (rREGU_GROUP_AT_LO, 0, 1, 0, 1), (rSYNC_EDGE_LO 0, 0x20, 4, 0, 1), (rTRIG_START_AT_LO 0, 0x40, 32, 0, 1),
  (rTRIG_NEXT_EDGE_LO 0, 0x40, 32, 0, 1), (rTS_FS_LO 0, 0x20, 36, 0, 1), (rTS_LE_LO 0, 0x20, 36, 0, 1),
  (rTS_FE_LO 0, 0x20, 36, 0, 1), (rILL_TS_RISE_LO 0, 0x10, 16, 0, 1), (rILL_TS_FALL_LO 0, 0x10, 16, 0, 1),
  (rOUT_FS_BASE_LO 0 0, 0x10000, 32, 0x80, 4), (rOUT_PEER_ADDR_LO 0 0, 0x10000, 32, 0x80, 4),
  (rOUT_DW_BASE_LO 0 0, 0x10000, 32, 0x80, 2), (rCV_PEER_ADDR_LO 0, 0x10000, 4, 0, 1),
  (rHOIST_FAULT_ADDR_LO 0, 0x400, 256, 0, 1), (rBRIDGE_ERRLOG_ADDR_LO 0, 0, 1, 0x20, 16),
  (rBRIDGE_ERRLOG_DATA_LO 0, 0, 1, 0x20, 16), (rBRIDGE_ERRLOG_TIME_LO 0, 0, 1, 0x20, 16),
  (rBRIDGE_OUT_WIN_TARGET_LO 0, 0, 1, 0x20, 16), (rLANE_USER_PAT_LO 0, 0x10000, 8, 0, 1),
  (rLANE_SNAP_BITS_LO 0, 0x10000, 8, 0, 1), (rFABRIC_ROOT_SERIAL_LO, 0, 1, 0, 1),
  (rFABRIC_PORT_NB_SERIAL_LO 0, 0, 1, 0x20, 4), (rFABRIC_ALLOW_LO 0, 0, 1, 8, 16),
  (rFABRIC_IN_WIN_BASE_LO 0, 0, 1, 0x40, 64), (rFABRIC_IN_WIN_LIMIT_LO 0, 0, 1, 0x40, 64),
  (rFABRIC_IN_WIN_TARGET_LO 0, 0, 1, 0x40, 64), (rFABRIC_IN_WIN_SRC_LO 0, 0, 1, 0x40, 64)]

/-- The register at `off` is the lower half of a pair. -/
def pairLo (off : Nat) : Bool :=
  pairRows.any (fun r => ((⟨r.1, r.2.1, r.2.2.1, r.2.2.2.1, r.2.2.2.2, 0, 0, 0, false, []⟩ : RegRow).index off).isSome)

/-- The latch of a requester path. -/
def pathLatch (s : State) : Requester → PairLatch
  | .host => s.regu.latchHost
  | .mgt => s.regu.latchMgt
  | .island => s.regu.latchIsl
def setLatch (s : State) (q : Requester) (l : PairLatch) : State :=
  { s with regu := match q with
    | .host => { s.regu with latchHost := l }
    | .mgt => { s.regu with latchMgt := l }
    | .island => { s.regu with latchIsl := l } }

/-- A 4-byte read on path `q`: the value, and the latch after it (R101). -/
def latchedVal (s : State) (q : Requester) (off : Nat) : Nat × State :=
  if pairLo off then
    (regVal s off, setLatch s q ⟨some off, BitVec.ofNat 32 (regVal s (off + 4))⟩)
  else if 4 ≤ off && (pathLatch s q).pair == some (off - 4) then ((pathLatch s q).hi.toNat, s)
  else (regVal s off, s)

end Sys2Proof.Machine
end

