-- ==== Sys2Proof/Machine/Spdm.lean ====
section
/-!
DEFINITION. The SPDM responder and the keys of the identity block (spec/22_identity_attic.md R513 to R520, R526). An answer
is kept as what it says; its encoding, the order of the negotiation and the names of the errors are those of the SPDM 1.2
specification, which R516 names.
-/

namespace Sys2Proof.Machine

/-- The responder answers. -/
def spdmSay (s : State) (a : SpdmAnswer) : State := { s with spdm := { s.spdm with answer := some a } }
def spdmPhase (s : State) (n : Nat) : State := { s with spdm := { s.spdm with phase := n } }

/-- SPDM_STATUS.SESSIONS counts the established sessions (R531). -/
def setSessions (s : State) (l : List SpdmSession) : State :=
  ({ s with spdm := { s.spdm with sessions := l } }).setF fIDENT_SPDM_STATUS_SESSIONS
    ((l.filter (fun (x : SpdmSession) => x.finished)).length)

/-- A request that the negotiation must have prepared: `f` runs, or the request is unexpected. -/
def spdmAfter (s : State) (n : Nat) (f : State) : State :=
  if n ≤ s.spdm.phase then f else spdmSay s (.error "UnexpectedRequest")

/-- A request that needs the certificate chain (R526). -/
def spdmChain (s f : State) : State :=
  spdmAfter s 3 (if s.on fIDENT_STATUS_CHAIN_OK then f else spdmSay s (.error "Unspecified"))

def execGetVersion (s : State) : Out := .next (hostReq s (spdmSay (spdmPhase s 1) (.version 2)))

def capFlags : List String :=
  ["CERT_CAP", "CHAL_CAP", "MEAS_CAP_SIG", "MEAS_FRESH_CAP", "KEY_EX_CAP", "ENCRYPT_CAP", "MAC_CAP", "HBEAT_CAP",
   "KEY_UPD_CAP"]
def execGetCapabilities (s : State) : Out :=
  .next (hostReq s (spdmAfter s 1 (spdmSay (spdmPhase s 2) (.capabilities capFlags))))

def algNames : List String :=
  ["ECDSA P-384", "SHA-384", "secp384r1", "AES-256-GCM", "SPDM key schedule"]
def execNegotiateAlgorithms (s : State) : Out :=
  .next (hostReq s (spdmAfter s 2 (spdmSay (spdmPhase s 3) (.algorithms algNames))))

/-- The address of the certificate chain: the body of the identity copy in use. -/
def chainBase (s : State) : Nat := s.fv fIDENT_STATUS_CHAIN_COPY * 0x10000 + 0x40
/-- Byte `i` of the chain; its length is the LENGTH of the copy's header, at most 2,400. -/
def chainByte (s : State) (i : Nat) : Byte := (kget (chainBase s + i) s.attic.bytes).getD (Config.atticByte (chainBase s + i))
def chainLen (s : State) : Nat :=
  min 2400 (leNat ((List.range 4).map (fun i => Config.atticByte (s.fv fIDENT_STATUS_CHAIN_COPY * 0x10000 + 0x0C + i))))
def chainBytes (s : State) (off len : Nat) : List Byte :=
  (List.range (min len (chainLen s - off))).map (fun i => chainByte s (off + i))

def execGetDigests (s : State) : Out :=
  .next (hostReq s (spdmChain s (spdmSay s (.digests [0] (Config.digest (chainBytes s 0 (chainLen s)))))))

def getCertificate (s : State) (slot off len : Nat) : State :=
  if slot ≠ 0 || chainLen s < off then spdmSay s (.error "InvalidRequest")
  else
    let bs := chainBytes s off len
    spdmSay s (.certificate off bs (chainLen s - off - bs.length))
def execGetCertificate (slot off len : Nat) (s : State) : Out :=
  .next (hostReq s (spdmChain s (getCertificate s slot off len)))

/-- A signature by the device key: a number that the manual does not give. -/
def spdmChallenge (s : State) (slot : Nat) : State :=
  if slot ≠ 0 then spdmSay s (.error "InvalidRequest")
  else
    let (v, s) := takeFree s
    spdmSay s (.challengeAuth slot v)
def execChallenge (slot : Nat) (s : State) : Out := .next (hostReq s (spdmChain s (spdmChallenge s slot)))

/-- What block 6 covers (R517). -/
def block6 (s : State) : List Byte :=
  leBytes 1 (s.fv fFABRIC_CFG_AUTH_MODE)
    ++ (List.range 16).flatMap (fun j => leBytes 4 (s.rn (rFABRIC_ALLOW_LO j)) ++ leBytes 4 (s.rn (rFABRIC_ALLOW_HI j)))
    ++ leBytes 1 (s.fv fIDENT_GMAC_CTRL_EN)

/-- Measurement block `i` (R517). -/
def measure (s : State) (i : Nat) : Measure :=
  match i with
  | 4 => .raw 4 [s.rn rGLB_FW_VERSION, s.rn rGLB_LIB_VERSION, s.fv fGLB_BOOT_STATUS_BANK, s.rn rGLB_BOOT_STATUS]
  | 5 => .raw 5 [s.fv fGLB_REVISION_REV, s.fv fGLB_STRAPS_TILES, s.fv fGLB_BOOT_STATUS_TILES_IN_SERVICE, s.rn rIDENT_ROLLBACK]
  | 6 => .digest 6 (Config.digest (block6 s))
  | _ => .digest i (s.ident.digests.getD (i - 1) 0)

/-- GET_MEASUREMENTS of block `i`, of all blocks (255), or of their number alone (0). -/
def getMeasurements (s : State) (i : Nat) (signed : Bool) : State :=
  if 7 ≤ i && i ≠ 255 then spdmSay s (.error "InvalidRequest")
  else
    let bs := if i = 255 then [1, 2, 3, 4, 5, 6] else if i = 0 then [] else [i]
    if signed then
      let (v, s) := takeFree s
      spdmSay s (.measurements (bs.map (measure s)) (some v))
    else spdmSay s (.measurements (bs.map (measure s)) none)
def execGetMeasurements (i : Nat) (signed : Bool) (s : State) : Out :=
  .next (hostReq s (spdmAfter s 3 (getMeasurements s i signed)))

/-! ### Sessions -/

def sessionOf (s : State) (id : Nat) : Option SpdmSession := s.spdm.sessions.find? (fun x => x.id == id)

/-- A session starts; its identifier is not in the manual, but is not one in use. -/
def keyExchange (s : State) : State :=
  if 4 ≤ s.spdm.sessions.length then spdmSay s (.error "SessionLimitExceeded")
  else
    let (v, s) := takeFree s
    let id := (List.range 5).foldl (fun k _ => if (sessionOf s k).isSome then (k + 1) % 2 ^ 32 else k) (v % 2 ^ 32)
    spdmSay (setSessions s (s.spdm.sessions ++ [⟨id, false⟩])) (.keyExchange id)
def execKeyExchange (s : State) : Out := .next (hostReq s (spdmChain s (keyExchange s)))

/-- FINISH; `ok` says that the request verifies. -/
def finish (s : State) (id : Nat) (ok : Bool) : State :=
  match sessionOf s id with
  | some x =>
    if x.finished then spdmSay s (.error "UnexpectedRequest")
    else if ok then
      spdmSay (setSessions s (s.spdm.sessions.map (fun y => if y.id = id then { y with finished := true } else y))) (.finished id)
    else spdmSay s (.error "DecryptError")
  | none => spdmSay s (.error "InvalidSession")
def execFinish (id : Nat) (ok : Bool) (s : State) : Out := .next (hostReq s (spdmAfter s 3 (finish s id ok)))

/-- A request inside an established session. -/
def inSession (s : State) (id : Nat) (f : State) : State :=
  match sessionOf s id with
  | some x => if x.finished then f else spdmSay s (.error "UnexpectedRequest")
  | none => spdmSay s (.error "InvalidSession")

def execHeartbeat (id : Nat) (s : State) : Out := .next (hostReq s (inSession s id (spdmSay s (.heartbeat id))))
def execKeyUpdate (id : Nat) (s : State) : Out := .next (hostReq s (inSession s id (spdmSay s (.keyUpdated id))))
def execEndSession (id : Nat) (s : State) : Out :=
  .next (hostReq s (inSession s id
    (spdmSay (setSessions s (s.spdm.sessions.filter (fun x => x.id != id))) (.ended id))))
def execUnsupportedSpdmRequest (s : State) : Out := .next (hostReq s (spdmSay s (.error "UnsupportedRequest")))

/-! ### The hallmark GMAC (R518 to R520) -/

/-- A new key: a handle that the manual does not give stands for it. -/
def gmacBind (s : State) : State :=
  match sessionOf s (s.rn rIDENT_GMAC_SESSION) with
  | some x =>
    if x.finished then
      let (v, s) := takeFree s
      let s := { s with ident := { s.ident with cur := some v, prev := s.ident.cur } }
      let s := (s.setF fIDENT_GMAC_STATUS_ACTIVE 1).setF fIDENT_GMAC_STATUS_PREV_VALID (b2n s.ident.prev.isSome)
      let s := s.setF fIDENT_GMAC_STATUS_EPOCH (s.fv fIDENT_GMAC_STATUS_EPOCH + 1)
      s.setPair rIDENT_GMAC_FROM_LO rIDENT_GMAC_FROM_HI s.dial
    else s.ev fATTIC_EVENT_GMAC_REFUSED
  | none => s.ev fATTIC_EVENT_GMAC_REFUSED

/-- A write of GMAC_CTRL: EN written 0 discards the keys, before a BIND of the same write. -/
def gmacCtrl (s : State) (v : Word) : State :=
  let s := s.setF fIDENT_GMAC_CTRL_EN (bitsOf v.toNat 0 1)
  let s := if bitAt v.toNat 0 then s else gmacDiscard s
  if bitAt v.toNat 1 then gmacBind s else s
def execGmacBind (v : Word) (s : State) : Out := .next (hub s (gmacCtrl s v))
def execGmacEnable (v : Word) (s : State) : Out := .next (hub s (gmacCtrl s v))

end Sys2Proof.Machine
end

