-- ==== Sys2Proof/Machine/Tally.lean ====
section
/-!
DEFINITION. The software tally units (spec/19_tally_units.md).
-/

namespace Sys2Proof.Machine

/-! ### The function (R461, R462) -/

/-- The `w` low bits of `v` in reverse order. -/
def reflect : Nat → Nat → Nat
  | 0, _ => 0
  | w + 1, v => v % 2 * 2 ^ w + reflect w (v / 2)

/-- One bit under polynomial `poly`. -/
def crcBit (w poly st : Nat) (b : Bool) : Nat :=
  let top := bitAt st (w - 1) != b
  let x := st * 2 % 2 ^ w
  if top then x ^^^ (poly % 2 ^ w) else x

/-- The bits of `v` from bit `n - 1` down. -/
def crcBits (w poly : Nat) : Nat → Nat → Nat → Nat
  | 0, _, st => st
  | n + 1, v, st => crcBits w poly n v (crcBit w poly st (bitAt v n))

def TallySet.feed (x : TallySet) (st : Nat) (b : Byte) : Nat :=
  crcBits x.width x.poly 8 (if x.refin then reflect 8 b.toNat else b.toNat) st

/-- RESULT of a STATE. -/
def TallySet.result (x : TallySet) (st : Nat) : Nat :=
  ((if x.refout then reflect x.width st else st) ^^^ x.xorout) % 2 ^ x.width

/-! ### A unit -/

/-- The staged set (R461, R463). -/
def stagedTally (s : State) (u : Nat) : TallySet :=
  match s.fv (fTALLY_CTRL_ALGO u) with
  | 0 => {}
  | 1 => { poly := 0x04C11DB7 }
  | 2 => { width := 16, poly := 0x1021, init := 0xFFFF, refin := false, refout := false, xorout := 0 }
  | 3 => { width := 8, poly := 7, init := 0, refin := false, refout := false, xorout := 0 }
  | _ =>
    let w := s.fv (fTALLY_CTRL_WIDTH_M1 u) + 1
    { width := w, poly := s.rn (rTALLY_POLY u) % 2 ^ w, init := s.rn (rTALLY_INIT u) % 2 ^ w,
      refin := s.on (fTALLY_CTRL_REFIN u), refout := s.on (fTALLY_CTRL_REFOUT u),
      xorout := s.rn (rTALLY_XOROUT u) % 2 ^ w }

/-- The active set. -/
def tallySet (s : State) (u : Nat) : TallySet := kgetD {} u s.tally

/-- STATE holds `v`; RESULT follows. -/
def setTally (s : State) (u v : Nat) : State :=
  let x := tallySet s u
  let v := v % 2 ^ x.width
  (s.setRn (rTALLY_STATE u) v).setRn (rTALLY_RESULT u) (x.result v)

/-- A write of CTRL (R461, R463). -/
def tallyCtrl (s : State) (u : Nat) (v : Word) : State :=
  let n := v.toNat
  if 4 < bitsOf n 0 3 then s.ev (fTALLY_EVENT_CFG_INVALID u)
  else
    let s := s.setF ⟨rTALLY_CTRL u, 0, 10⟩ (bitsOf n 0 10)
    if bitAt n 16 then
      let x := stagedTally s u
      let s := ({ s with tally := kputD {} u x s.tally }).setF (fTALLY_CTRL_STARTED u) 1
      (setTally s u x.init).setPair (rTALLY_COUNT_LO u) (rTALLY_COUNT_HI u) 0
    else s
def execTallyStart (u : Nat) (v : Word) (s : State) : Out := .next (hub s (tallyCtrl s (u % 16) v))

/-- A write of up to 64 bytes to the DATA window (R464). -/
def tallyData (s : State) (u : Nat) (bs : List Byte) : State :=
  let n := s.pair (rTALLY_COUNT_LO u) (rTALLY_COUNT_HI u)
  let x := tallySet s u
  (setTally s u (bs.foldl x.feed (s.rn (rTALLY_STATE u)))).setPair (rTALLY_COUNT_LO u) (rTALLY_COUNT_HI u)
    (n + bs.length)
def execTallyDataWrite (u : Nat) (bytes : List Byte) (s : State) : Out :=
  .next (hub s (tallyData s (u % 16) (bytes.take 64)))

/-- A parity error in STATE or the active set (R469). -/
def tallyParity (s : State) (u : Nat) : State :=
  ((setTally s u 0).ev (fTALLY_EVENT_PARITY u)).report 0x07 u 0x0001
def execTallyParityError (u : Nat) (s : State) : Out := .next (hub s (tallyParity s (u % 16)))

end Sys2Proof.Machine
end

