-- ==== Sys2Proof/Machine/RegisterAccess.lean ====
section
/-!
DEFINITION. Accesses to BAR0 below 0x200_0000 (spec/24_register_map.md R549 to R556, spec/00_scope.md R6 to R8,
spec/05_regulator.md R101) and QUERY (spec/15_host_rings.md R358): how an access is decoded and sized, and which
operation takes the write of each register.
-/

namespace Sys2Proof.Machine

/-! ### Writes, block by block -/

def writeGlb (s : State) (off : Nat) (v : Word) : State :=
  if off = rGLB_RESET_CTRL then devReset s v else plainWrite s off v

def writeDbell (s : State) (off : Nat) (v : Word) : State :=
  let x := bitsOf v.toNat 0 16
  if off = rDBELL_KICK then (if bitAt v.toNat 0 then shadowRead s else s)
  else if off < rDBELL_CQ_HEAD 0 then doorbell s (fun s => crTail s ((off - rDBELL_CR_TAIL 0) / 4) x)
  else if off < rDBELL_SR_TAIL 0 then doorbell s (fun s => cqHead s ((off - rDBELL_CQ_HEAD 0) / 4) x)
  else doorbell s (fun s => srTail s ((off - rDBELL_SR_TAIL 0) / 4) x)

/-- The number of the ring whose registers lie at `off` (0 to 15 CR, 16 to 79 CQ, 80 to 591 SR). -/
def ringAt (off : Nat) : Nat :=
  if off < 0x20400 then (off - 0x20000) / 0x20
  else if off < 0x21000 then 16 + (off - 0x20400) / 0x20 else 80 + (off - 0x21000) / 0x20

def writeRing (s : State) (off : Nat) (v : Word) : State :=
  if off < 0x25000 then
    if off % 0x20 = 8 then ringEnable s (ringAt off) v
    else if off % 0x20 < 8 && s.on ⟨off / 0x20 * 0x20 + 8, 0, 1⟩ then s.ev fRING_EVENT_CFG_INVALID
    else plainWrite s off v
  else if off < rRING_ASYNC_CFG then
    if s.on fRING_SHADOW_CFG_LOCKED then s.ev fRING_EVENT_CFG_INVALID else plainWrite s off v
  else if rRING_INT_ROUTE 0 ≤ off then intRoute s ((off - rRING_INT_ROUTE 0) / 4) v
  else plainWrite s off v

def writePcie (s : State) (off : Nat) (v : Word) : State :=
  if rMSIX_ADDR_LO 0 ≤ off && off < rMSIX_ADDR_LO 2048 && off % 0x10 = 0xC then
    let n := (off - rMSIX_ADDR_LO 0) / 0x10
    if bitAt v.toNat 0 then s.setF (fMSIX_CTRL_MASK n) 1 else msixUnmask s n
  else plainWrite s off v

def writeSafe (s : State) (off : Nat) (v : Word) : State :=
  if off = rSAFE_CTRL then release s v
  else if off = rSAFE_LOG_INDEX then logIndex s v
  else if rSAFE_SAFETY_VIEWS 0 ≤ off && off ≤ rSAFE_SAFETY_CV then viewsWrite s false ((off - rSAFE_SAFETY_VIEWS 0) / 4) v
  else if rSAFE_DISPLAY_REQ 0 ≤ off && off ≤ rSAFE_DISPLAY_CV then viewsWrite s true ((off - rSAFE_DISPLAY_REQ 0) / 4) v
  else plainWrite s off v

def writeMadc (s : State) (off : Nat) (v : Word) : State :=
  if off < 0x9B000 && off % 0x1000 = 0 then madcCtrl s ((off - 0x90000) / 0x1000) v
  else if off = rMADCC_ILS_LATCH then ilsClear s v
  else plainWrite s off v

def writeTally (s : State) (off : Nat) (v : Word) : State :=
  let u := (off - 0xA0000) / 0x80
  if off = rTALLY_CTRL u then tallyCtrl s u v
  else if off = rTALLY_STATE u then setTally s u v.toNat
  else if 0x40 ≤ off % 0x80 then tallyData s u (leBytes 4 v.toNat)
  else plainWrite s off v

def writeAttic (s : State) (off : Nat) (v : Word) : State :=
  if off = rATTIC_UPD_CTRL then updCtrl s v
  else if off = rATTIC_READ_ADDR then readAddr s v
  else if off = rATTIC_UPD_LEN && bitsOf v.toNat 0 8 ≠ 0 then s.ev fATTIC_EVENT_CFG_INVALID
  else plainWrite s off v

def writePwr (s : State) (off : Nat) (v : Word) : State :=
  if off = rPWR_STANDBY then standbyWrite s v
  else if rPWR_DOM 0 ≤ off && off < rPWR_DOM 18 then
    if bitsOf v.toNat 0 2 = 0 then s else domRequest s ((off - rPWR_DOM 0) / 4) (bitsOf v.toNat 0 2)
  else plainWrite s off v

def writeRegu (s : State) (off : Nat) (v : Word) : State :=
  if off = rREGU_CTRL then
    if bitAt v.toNat 2 then dialSet s v else dialSource s v
  else if off = rREGU_RATE_TRIM then rateTrimWrite s v
  else if off = rREGU_GROUP_CMD then
    let s := if bitAt v.toNat 0 then groupStart s else s
    if bitAt v.toNat 1 then groupStop s else s
  else if rSYNC_CFG 0 ≤ off && off < rSYNC_CFG 4 && off % 0x20 = 0 then syncCfg s ((off - rSYNC_CFG 0) / 0x20) v
  else if rTRIG_SCHED_CTRL 0 ≤ off && off < rTRIG_SCHED_CTRL 32 && off % 0x40 = 0 then
    schedCtrl s ((off - rTRIG_SCHED_CTRL 0) / 0x40) v
  else plainWrite s off v

def writeSport (s : State) (off : Nat) (v : Word) : State :=
  let n := (off - 0x200000) / 0x1000
  let o := off % 0x1000
  if o = 0 then settleAll (sportCtrl s n v)
  else if o = 4 || o = 8 then sportPhyWrite s n off v
  else if o = 0x20 then mclkWrite s n v
  else if o = 0x24 then xrstWrite s n v
  else if o = 0x28 && sportAbsent s n then s
  else if o = 0x2C then illUpdate (plainWrite s off v)
  else if shadowedAt off then shadowWrite s off v
  else plainWrite s off v

def writeScc (s : State) (off : Nat) (v : Word) (begun : Bool) (check : BusCheck) : State :=
  let n := (off - 0x300000) / 0x1000
  let o := off % 0x1000
  if o = 0 then sccCtrl s n v begun check
  else if 8 ≤ o && o ≤ 0x10 && s.on (fSCC_CTRL_EN n) then s.ev (fSCC_EVENT_CFG_IGNORED n)
  else if o = 0x18 then (if bitAt v.toNat 0 then lockRequest s n else lockEnd s n)
  else plainWrite s off v

def writeEsc (s : State) (off : Nat) (v : Word) : State :=
  if 0x340100 ≤ off && off < 0x340500 && off % 0x20 = 0 then
    let p := (off - 0x340100) / 0x20
    let s := if bitAt v.toNat 0 then profileLoad s p else s
    if bitAt v.toNat 1 then escFlush s p else s
  else plainWrite s off v

def writePipe (s : State) (off : Nat) (v : Word) : State :=
  if shadowedAt off || isTable off then shadowWrite s off v else plainWrite s off v

def writeCanvas (s : State) (off : Nat) (v : Word) : State :=
  if off % 0x10000 = 0 then canvasEnable s ((off - 0x600000) / 0x10000) v else writePipe s off v

def writeLarder (s : State) (off : Nat) (v : Word) : State :=
  if shadowedAt off then shadowWrite s off v
  else if 0x1004000 ≤ off && off < 0x1005000 && off % 0x10 = 0 then
    let g := (off - 0x1004000) / 0x10
    if 192 ≤ g && groupBusy s g then s.ev fLARDER_EVENT_CFG_INVALID else plainWrite s off v
  else if 0x1020000 ≤ off then
    let q := (off - 0x1020000) / 0x20
    let o := off % 0x20
    if q < 192 then s
    else if o = 0 then (if bitAt v.toNat 0 then queueEnable s q v else queueFlush s q true v)
    else if o = 4 then (if queueBusy s q then s.ev fLARDER_EVENT_CFG_INVALID else plainWrite s off v)
    else if o = 0x1C then queueFlush s q false v
    else plainWrite s off v
  else plainWrite s off v

def writeHoist (s : State) (off : Nat) (v : Word) : State :=
  let c := (off - 0x1100000) / 0x400
  let o := off % 0x400
  if 0x1140000 ≤ off then plainWrite s off v
  else if o = 0 then hoistCtrl s c v
  else if o = 4 || 0x40 ≤ o then hoistReg s c off v
  else plainWrite s off v

def writeBridge (s : State) (off : Nat) (v : Word) : State :=
  if 0x1200800 ≤ off then
    let w := (off - 0x1200800) / 0x20
    if off % 0x20 = 0 then outWinCtrl s w v
    else if off % 0x20 = 8 then outWinTarget s w false v
    else if off % 0x20 = 0xC then outWinTarget s w true v
    else plainWrite s off v
  else plainWrite s off v

def writeLane (s : State) (off : Nat) (v : Word) (c : ChkCount) : State :=
  let m := (off - 0x1300000) / 0x10000
  let o := off % 0x10000
  if o = 0 then laneCtrl s m v
  else if o = 0x14 then lanePwrWrite s m v
  else if o = 0x20 then laneTestWrite s m off v (bitAt v.toNat 0) (fun s => s)
  else if o = 0x24 then patchkWrite s m v c
  else if o = 0x28 then injectWrite s m v
  else if o = 0x2C || o = 0x30 then laneTestWrite s m off v false (fun s => s)
  else if o = 0x100 then loopbackWrite s m v
  else plainWrite s off v

/-- EVENT.DOORBELL stands while a WIN_EVENT bit is set (R460). -/
def doorbellBit (s : State) : State :=
  let on := s.rn (rFABRIC_WIN_EVENT 0) != 0 || s.rn (rFABRIC_WIN_EVENT 1) != 0
  if on then s.setF fFABRIC_EVENT_DOORBELL 1
  else irqOff (s.setF fFABRIC_EVENT_DOORBELL 0) rFABRIC_EVENT

/-- A write of ROUTE[d]: while PINNED is 0 only PINNED itself is taken (R448). -/
def routeWrite (s : State) (d : Nat) (v : Word) : State :=
  let off := rFABRIC_ROUTE d
  let s := if s.on (fFABRIC_ROUTE_PINNED d) then plainWrite s off v
    else s.setF (fFABRIC_ROUTE_PINNED d) (bitsOf v.toNat 15 1)
  fabStatus (fillRoute s d)

def writeFabric (s : State) (off : Nat) (v : Word) : State :=
  if off = rFABRIC_CFG then fabricEnable s v
  else if rFABRIC_ROUTE 0 ≤ off && off < rFABRIC_ROUTE 64 then routeWrite s ((off - rFABRIC_ROUTE 0) / 4) v
  else if rFABRIC_IN_WIN_CTRL 0 ≤ off && off < rFABRIC_IN_WIN_CTRL 64 then
    let w := (off - rFABRIC_IN_WIN_CTRL 0) / 0x40
    if off % 0x40 = 0 then inWinCtrl s w v
    else if off % 0x40 ≠ 4 && s.on (fFABRIC_IN_WIN_CTRL_EN w) then winIgnored s w
    else plainWrite s off v
  else if off = rFABRIC_EVENT || rFABRIC_WIN_EVENT 0 ≤ off then doorbellBit (plainWrite s off v)
  else plainWrite s off v

/-- Ones written to MGT.ALERT_STATUS clear causes; a cleared cause is no longer acknowledged (R139). -/
def alertClear (s : State) (v : Word) : State :=
  let s := plainWrite s rMGT_ALERT_STATUS v
  { s with mgt := { s.mgt with ackedBits := s.mgt.ackedBits &&& s.rn rMGT_ALERT_STATUS } }

/-- A 4-byte write of `v` to the register at `off`. -/
def regWrite (s : State) (off : Nat) (v : Word) (begun : Bool) (check : BusCheck) (c : ChkCount) : State :=
  if off < 0x10000 then writeGlb s off v
  else if off < 0x20000 then writeDbell s off v
  else if off < 0x40000 then writeRing s off v
  else if off < 0x80000 then writePcie s off v
  else if off < 0x90000 then writeSafe s off v
  else if off < 0xA0000 then writeMadc s off v
  else if off < 0xB0000 then writeTally s off v
  else if off < 0xC0000 then writeAttic s off v
  else if off = rIDENT_GMAC_CTRL then gmacCtrl s v
  else if off < 0xD0000 then plainWrite s off v
  else if off < 0xE0000 then writePwr s off v
  else if off < 0x200000 then writeRegu s off v
  else if off < 0x220000 then writeSport s off v
  else if off < 0x224000 then (if shadowedAt off then shadowWrite s off v else plainWrite s off v)
  else if off < 0x320000 then writeScc s off v begun check
  else if off < 0x340000 then (if off = rMGT_ALERT_STATUS then alertClear s v else plainWrite s off v)
  else if off < 0x350000 then writeEsc s off v
  else if off < 0x600000 then writePipe s off v
  else if off < 0x640000 then writeCanvas s off v
  else if off < 0x1000000 then
    (if off % 0x100000 = 0 then tileCtrl s ((off - 0x800000) / 0x100000) v else plainWrite s off v)
  else if off < 0x1100000 then writeLarder s off v
  else if off < 0x1140100 then writeHoist s off v
  else if off < 0x1201000 then writeBridge s off v
  else if off < 0x1380000 then writeLane s off v c
  else writeFabric s off v

/-! ### Accesses (R551, R553) -/

def pathCode : Requester → Nat
  | .host => 0
  | .mgt => 1
  | .island => 2

/-- A refused access is recorded: event bit `f`, code `code` of the GLB class. -/
def accessEvent (s : State) (q : Requester) (off : Nat) (f : Fld) (code : Nat) : State :=
  ((s.setRn rGLB_ACCESS_ADDR (off % 2 ^ 26 + pathCode q * 2 ^ 26)).ev f).report 0x01 0 code

def unmappedReg (s : State) (q : Requester) (off : Nat) : State := accessEvent s q off fGLB_EVENT_UNMAPPED 0x0001
def sizeErr (s : State) (q : Requester) (off : Nat) : State := accessEvent s q off fGLB_EVENT_SIZE_ERR 0x0002

/-- The registers served byte by byte: ESC PROFILE, TALLY DATA, ATTIC READ_DATA. -/
def byteServed (off : Nat) : Bool :=
  (decide (0x341000 ≤ off) && decide (off < 0x343000))
    || (decide (0xA0000 ≤ off) && decide (off < 0xA0800) && decide (0x40 ≤ off % 0x80))
    || (decide (0xB0100 ≤ off) && decide (off < 0xB0200))

/-- `len` bytes from `off` lie inside one such register. -/
def byteRange (off len : Nat) : Bool :=
  byteServed off && byteServed (off + len - 1)
    && (0xA0800 ≤ off || off < 0xA0000 || off / 0x80 == (off + len - 1) / 0x80)

/-- The sizes and alignments of whole words. -/
def wordAccess (off len : Nat) : Bool :=
  off % 4 == 0 && len % 4 == 0 && !(len == 8 && off % 8 != 0)

/-- One 4-byte write. -/
def writeOne (s : State) (q : Requester) (off : Nat) (v : Word) (begun : Bool) (check : BusCheck) (c : ChkCount) :
    State :=
  if (regAt off).isNone then unmappedReg s q off
  else match presence s off with
    | .here => regWrite s off v begun check c
    | .statusOnly => if statusReg off then regWrite s off v begun check c else s
    | _ => s

/-- Consecutive 4-byte writes in ascending order. -/
def writeEach (s : State) (q : Requester) (off : Nat) (begun : Bool) (check : BusCheck) (c : ChkCount) :
    List (List Byte) → State
  | [] => s
  | w :: ws => writeEach (writeOne s q off (BitVec.ofNat 32 (leNat w)) begun check c) q (off + 4) begun check c ws

/-- Bytes written to a register served byte by byte; READ_DATA takes none. -/
def writeBytes (s : State) (off : Nat) (bytes : List Byte) : State :=
  if off < 0xB0000 then tallyData s ((off - 0xA0000) / 0x80) bytes
  else if off < 0x100000 then s
  else (List.range bytes.length).foldl (fun s i =>
    s.setF ⟨(off + i) / 4 * 4, 8 * ((off + i) % 4), 8⟩ ((bytes.getD i 0).toNat)) s

/-- A write of `bytes` at `off`. -/
def writeAccess (s : State) (q : Requester) (off : Nat) (bytes : List Byte) (begun : Bool) (check : BusCheck)
    (c : ChkCount) : State :=
  let len := bytes.length
  if len = 0 then s
  else if 0x1100000 ≤ off && off < 0x1110000 && len = 8 && off % 8 = 0 then
    push s ((off - 0x1100000) / 0x10) (leNat bytes) (off % 0x10 == 8)
  else if byteRange off len then writeBytes s off bytes
  else if wordAccess off len then writeEach s q off begun check c (chunks 4 bytes)
  else sizeErr s q off

/-- The RC fields of a register are cleared by a read that covers it. -/
def clearRc (s : State) (off : Nat) : State :=
  match regAt off with
  | none => s
  | some (r, _, _) =>
    r.flds.foldl (fun s f => if f.acc == .rc then s.setF ⟨off, f.lsb, f.width⟩ 0 else s) s

/-- One register read whole: its value, and the state after RC fields are cleared. -/
def readOne (s : State) (q : Requester) (off : Nat) (latch : Bool) : Nat × State :=
  if (regAt off).isNone then (0, unmappedReg s q off)
  else if rLARDER_POP_LO 0 ≤ off && off < rLARDER_POP_LO 256 && off % 0x10 < 8 then
    (0, pop s ((off - rLARDER_POP_LO 0) / 0x10) 4 .none)
  else
    let (v, t) := if latch then latchedVal s q off else (regVal s off, s)
    (v, match presence s off with
      | .here => clearRc t off
      | .statusOnly => if statusReg off then clearRc t off else t
      | _ => t)

/-- Consecutive 4-byte reads. -/
def readWords (s : State) (q : Requester) (off : Nat) : Nat → List Byte × State
  | 0 => ([], s)
  | n + 1 =>
    let (v, t) := readOne s q off true
    let (bs, u) := readWords t q (off + 4) n
    (leBytes 4 v ++ bs, u)

/-- An aligned 8-byte read: both halves at one instant. -/
def readPair (s : State) (q : Requester) (off : Nat) : List Byte × State :=
  let hi := regVal s (off + 4)
  let (lo, t) := readOne s q off false
  let (_, u) := readOne t q (off + 4) false
  (leBytes 4 lo ++ leBytes 4 hi, u)

/-- A read of `size` bytes at `off`. -/
def readAccess (s : State) (q : Requester) (off size : Nat) : State :=
  if size = 0 then s.answer .success []
  else if size = 8 && rLARDER_POP_LO 0 ≤ off && off < rLARDER_POP_LO 256 && off % 0x10 = 0 then
    pop s ((off - rLARDER_POP_LO 0) / 0x10) 8 .none
  else if size = 8 && rBRIDGE_COLLECT_LO 0 ≤ off && off < rBRIDGE_COLLECT_LO 64 && off % 8 = 0 then
    collectRead s ((off - rBRIDGE_COLLECT_LO 0) / 8)
  else if byteRange off size then
    s.answer .success ((List.range size).map (fun i =>
      BitVec.ofNat 8 (regVal s ((off + i) / 4 * 4) / 2 ^ (8 * ((off + i) % 4)))))
  else if !wordAccess off size then (sizeErr s q off).answer .success (List.replicate size 0)
  else if size = 8 then
    let (bs, t) := readPair s q off
    t.answer .success bs
  else
    let (bs, t) := readWords s q off (size / 4)
    t.answer .success bs

/-- A read by path `q`; a read of more than 64 bytes is an Unsupported Request (R389). -/
def readBy (s : State) (q : Requester) (off size : Nat) : State :=
  match q with
  | .host => hostReq s (if 64 < size then refuseUr s false else readAccess s q off size)
  | _ => hub s (readAccess s q off (min size 64))

/-- A write by path `q`: more than 64 bytes are an Unsupported Request, and poisoned bytes of the host are discarded
(R389, R393). -/
def writeBy (s : State) (q : Requester) (off : Nat) (bytes : List Byte) (poison begun : Bool) (check : BusCheck)
    (c : ChkCount) : State :=
  match q with
  | .host => hostReq s (if 64 < bytes.length then refuseUr s true else if poison then poisonRx s
      else writeAccess s q off bytes begun check c)
  | _ => hub s (writeAccess s q off (bytes.take 64) begun check c)

def execRegisterWrite (req : Requester) (off : Nat) (bytes : List Byte) (poison begun : Bool) (check : BusCheck)
    (c : ChkCount) (s : State) : Out :=
  .next (writeBy s req (off % 0x2000000) bytes poison begun check c)
def execCounterReadClear (req : Requester) (off size : Nat) (s : State) : Out :=
  .next (readBy s req (off % 0x2000000) size)
def execLowerHalfRead (req : Requester) (off : Nat) (s : State) : Out :=
  .next (readBy s req (off % 0x2000000 / 4 * 4) 4)

/-! ### QUERY (R358) -/

def cmdQuery (s : State) (c : Cmd) : State :=
  if !unusedZero c false true false true || c.arg0 % 4 ≠ 0 || 0x2000000 ≤ c.arg0 || c.len % 4 ≠ 0 || c.len = 0 || 4096 < c.len then complete s c 0x04
  else
    let bs := (List.range (c.len / 4)).flatMap (fun i => leBytes 4 (queryVal s (c.arg0 + 4 * i)))
    complete (hostWrite s c.addr bs) c 0 0 0 c.len

def execQuery (s : State) : Out := .next (hub s (onCmd s 0x02 cmdQuery))

end Sys2Proof.Machine
end

