-- ==== Sys2Proof/Machine/Mgt.lean ====
section
/-!
DEFINITION. The management target on its two-wire bus (spec/06_two_wire_buses.md R133 to R141): its commands, the packet
error code, the register mirror and the alert line.
-/

namespace Sys2Proof.Machine

/-! ### The packet error code (R137) -/

/-- CRC-8 with polynomial 0x07. -/
def crc8 (bs : List Byte) : Byte := BitVec.ofNat 8 (bs.foldl (fun c b => crcBits 8 7 8 b.toNat c) 0)

/-- The address byte of a write, or of a read. -/
def mgtAddr (s : State) (rd : Bool) : Byte := BitVec.ofNat 8 (s.fv fMGT_STATUS_ADDR * 2 + b2n rd)

/-! ### Errors (R138) -/

/-- Error `k` of R138 (1 PROTOCOL, 2 LENGTH, 3 PEC, 4 DENIED, 5 TIMEOUT); a denial has no fault code. -/
def mgtError (s : State) (k : Nat) : State :=
  let s := if s.fv fMGT_LAST_ERROR_CODE = 0 then s.setF fMGT_ALERT_STATUS_ERROR 1 else s
  let s := (s.setF fMGT_LAST_ERROR_CODE k).bump (fMGT_CNT_COUNT (k - 1))
  if k = 4 then s else s.report 0x0F 0 (if k = 5 then 3 else if k = 3 then 2 else 1)

/-! ### Transactions (R134, R137, R138) -/

/-- MGT answers only while it is active (R133). -/
def mgtOn (s t : State) : State := if s.on fMGT_STATUS_ACTIVE then t else s.answer .noAck []

/-- A read of command `cmd`: `len` bytes are read, `data` is the command's content with its effect. A read past the PEC
returns 0xFF and commits nothing. -/
def mgtRead (s : State) (cmd : Nat) (counted : Bool) (len : Nat) (data : State → List Byte × State) : State :=
  let (d, t) := data s
  let body := (if counted then [BitVec.ofNat 8 d.length] else []) ++ d
  let full := body ++ [crc8 ([mgtAddr s false, BitVec.ofNat 8 cmd, mgtAddr s true] ++ body)]
  if full.length < len then
    (mgtError s 2).answer .success (full ++ List.replicate (len - full.length) 0xFF#8)
  else t.answer .success (full.take len)

/-- A transaction that is abandoned by a START or STOP in the wrong place. -/
def mgtBroken (s : State) : State := (mgtError s 1).answer .none []

/-- A read of a command that a controller may read only. -/
def mgtReadOnly (s : State) (cmd : Nat) (counted : Bool) (io : MgtIo) (data : State → List Byte × State) : State :=
  mgtOn s (match io with
    | .broken => mgtBroken s
    | .write bs => if bs.isEmpty then s.answer .success [] else (mgtError s 4).answer .noAck []
    | .read len => mgtRead s cmd counted len data)

/-- A write of the `n` data bytes of command `cmd`: `bytes` are all that follow the command byte, count and PEC included. -/
def mgtWrite (s : State) (cmd : Nat) (counted : Bool) (n : Nat) (bytes : List Byte) (f : State → List Byte → State) :
    State :=
  let body := if counted then bytes.drop 1 else bytes
  let bad (k : Nat) (st : RStatus) : State := (mgtError s k).answer st []
  if counted && !bytes.isEmpty && (bytes.headD 0).toNat != n then bad 2 .noAck
  else if body.length < n then bad 2 .none
  else if n + 1 < body.length then bad 2 .noAck
  else if body.length = n then
    (if s.on fMGT_CFG_PEC_REQUIRED then bad 3 .none else (f s body).answer .success [])
  else if crc8 ([mgtAddr s false, BitVec.ofNat 8 cmd] ++ bytes.take (bytes.length - 1)) = bytes.getLastD 0 then
    (f s (body.take n)).answer .success []
  else bad 3 .noAck

/-- A read of a command that has both directions. -/
def mgtGet (s : State) (cmd : Nat) (len : Nat) (broken : Bool) (data : State → List Byte) : State :=
  mgtOn s (if broken then mgtBroken s else mgtRead s cmd false len (fun s => (data s, s)))
/-- A write of such a command. -/
def mgtPut (s : State) (cmd n : Nat) (counted : Bool) (bytes : List Byte) (broken : Bool) (f : State → Nat → State) :
    State :=
  mgtOn s (if broken then mgtBroken s else mgtWrite s cmd counted n bytes (fun s d => f s (leNat d)))

/-- The data of a command that reads a register. -/
def mgtReg (off : Nat) (s : State) : List Byte × State := (leBytes 4 (regVal s off), s)

/-! ### Alerts (R139, R141) -/

/-- Causes that pull the line. -/
def alertBits (s : State) : Nat := s.rn rMGT_ALERT_STATUS &&& s.rn rMGT_ALERT_MASK

/-- MGT_ALERT_N is low: a cause is pending that has not been acknowledged. -/
def alertLow (s : State) : Bool := alertBits s &&& s.mgt.ackedBits != alertBits s

def mgtStatusByte (s : State) : Nat :=
  s.fv fGLB_BOOT_STATUS_READY + s.fv fGLB_BOOT_STATUS_DEGRADED * 2 + b2n (sok s == 1) * 4
    + b2n (alertBits s != 0) * 8 + b2n (s.fv fMGT_LAST_ERROR_CODE != 0) * 16

/-- The alert response: the lowest address wins. -/
def alertResponse (s : State) (wins : Bool) : State :=
  if !alertLow s then s.answer .noAck []
  else if wins then
    ({ s with mgt := { s.mgt with ackedBits := alertBits s } }).answer .success [mgtAddr s false]
  else s.answer .none []

/-! ### The commands that read (R134, R135) -/

def identify (s : State) : List Byte :=
  leBytes 2 (s.fv fGLB_ID_VENDOR) ++ leBytes 2 (s.fv fGLB_ID_DEVICE) ++ leBytes 1 (s.fv fGLB_REVISION_REV)
    ++ leBytes 1 (s.fv fGLB_REVISION_IF_VERSION)
    ++ leBytes 2 (s.fv fGLB_FW_VERSION_MAJOR) ++ leBytes 2 (s.fv fGLB_FW_VERSION_MINOR)
    ++ leBytes 2 (s.fv fGLB_FW_PATCH_PATCH) ++ leBytes 2 (s.fv fGLB_LIB_VERSION_MAJOR)
    ++ leBytes 2 (s.fv fGLB_LIB_VERSION_MINOR) ++ leBytes 2 (s.fv fGLB_LIB_PATCH_PATCH)

def execMgtStatus (io : MgtIo) (s : State) : Out :=
  .next (aon s (mgtReadOnly s 0x00 false io (fun s => (leBytes 1 (mgtStatusByte s), s))))
def execMgtIdentify (io : MgtIo) (s : State) : Out :=
  .next (aon s (mgtReadOnly s 0x01 true io (fun s => (identify s, s))))
def execMgtBootStatus (io : MgtIo) (s : State) : Out :=
  .next (aon s (mgtReadOnly s 0x02 false io (mgtReg rGLB_BOOT_STATUS)))
def execMgtBootFault (io : MgtIo) (s : State) : Out :=
  .next (aon s (mgtReadOnly s 0x03 false io (mgtReg rGLB_BOOT_FAULT)))
def execMgtResetCauseRead (len : Nat) (broken : Bool) (s : State) : Out :=
  .next (aon s (mgtGet s 0x04 len broken (fun s => leBytes 4 (s.rn rGLB_RESET_CAUSE))))
def execMgtTileWheels (io : MgtIo) (s : State) : Out :=
  .next (aon s (mgtReadOnly s 0x05 true io (fun s =>
    ((List.range 8).flatMap (fun n => leBytes 4 (s.rn (rGLB_TILE_WHEELS n))), s))))
def execMgtAlertStatus (io : MgtIo) (s : State) : Out :=
  .next (aon s (mgtReadOnly s 0x08 false io (fun s => (leBytes 2 (s.rn rMGT_ALERT_STATUS), s))))
def execMgtAlertMaskRead (len : Nat) (broken : Bool) (s : State) : Out :=
  .next (aon s (mgtGet s 0x0A len broken (fun s => leBytes 2 (s.rn rMGT_ALERT_MASK))))
def execMgtMirrorAddrRead (len : Nat) (broken : Bool) (s : State) : Out :=
  .next (aon s (mgtGet s 0x10 len broken (fun s => leBytes 4 s.mgt.addr)))
def execMgtConfigRead (len : Nat) (broken : Bool) (s : State) : Out :=
  .next (aon s (mgtGet s 0x30 len broken (fun s => leBytes 1 (s.rn rMGT_CFG))))
def execMgtLastError (io : MgtIo) (s : State) : Out :=
  .next (aon s (mgtReadOnly s 0x20 false io (fun s =>
    (leBytes 1 (s.fv fMGT_LAST_ERROR_CODE), s.setF fMGT_LAST_ERROR_CODE 0))))
def execMgtCounters (io : MgtIo) (s : State) : Out :=
  .next (aon s (mgtReadOnly s 0x21 true io (fun s =>
    ((List.range 5).flatMap (fun i => leBytes 2 (s.fv (fMGT_CNT_COUNT i))),
      (List.range 5).foldl (fun s i => s.setF (fMGT_CNT_COUNT i) 0) s))))

/-! ### The mirror (R136) -/

/-- The block of an offset is absent or powered down: in standby only GLB and PWR answer. -/
def mirrorGone (s : State) (off : Nat) : Bool :=
  if !s.pow.hubOn then !(decide (off < 0x10000) || (decide (0xD0000 ≤ off) && decide (off < 0xE0000)))
  else blockGone s off

/-- A denied read returns 0; no read clears a field. -/
def mirrorRead (s : State) : List Byte × State :=
  let a := s.mgt.addr
  if 0x2000000 ≤ a || a % 4 ≠ 0 || mirrorGone s a then (leBytes 4 0, mgtError s 4)
  else
    let (v, t) := if (regAt a).isNone then (0, unmappedReg s .mgt a) else latchedVal s .mgt a
    (leBytes 4 v, { t with mgt := { t.mgt with addr := a + 4 } })

/-- Only GLB.RESET_CTRL and GLB.RESET_CAUSE are written. -/
def mirrorWrite (s : State) (v : Nat) : State :=
  if s.mgt.addr = rGLB_RESET_CTRL then devReset s (BitVec.ofNat 32 v)
  else if s.mgt.addr = rGLB_RESET_CAUSE then plainWrite s rGLB_RESET_CAUSE (BitVec.ofNat 32 v)
  else mgtError s 4

def execMgtMirrorRead (io : MgtIo) (s : State) : Out := .next (aon s (mgtReadOnly s 0x11 true io mirrorRead))
def execMgtMirrorWrite (bytes : List Byte) (broken : Bool) (s : State) : Out :=
  .next (aon s (mgtPut s 0x12 4 true bytes broken mirrorWrite))

/-! ### The commands that write -/

def execMgtResetCauseWrite (bytes : List Byte) (broken : Bool) (s : State) : Out :=
  .next (aon s (mgtPut s 0x04 4 false bytes broken (fun s v => plainWrite s rGLB_RESET_CAUSE (BitVec.ofNat 32 v))))
def execMgtAlertClear (bytes : List Byte) (broken : Bool) (s : State) : Out :=
  .next (aon s (mgtPut s 0x09 2 false bytes broken (fun s v => alertClear s (BitVec.ofNat 32 v))))
def execMgtAlertMaskWrite (bytes : List Byte) (broken : Bool) (s : State) : Out :=
  .next (aon s (mgtPut s 0x0A 2 false bytes broken (fun s v => s.setF fMGT_ALERT_MASK_MASK v)))
def execMgtMirrorAddrWrite (bytes : List Byte) (broken : Bool) (s : State) : Out :=
  .next (aon s (mgtPut s 0x10 4 false bytes broken (fun s v => { s with mgt := { s.mgt with addr := v } })))
def execMgtConfigWrite (bytes : List Byte) (broken : Bool) (s : State) : Out :=
  .next (aon s (mgtPut s 0x30 1 false bytes broken (fun s v => s.setF fMGT_CFG_PEC_REQUIRED v)))

/-! ### The other cases of R138 and R139 -/

def execMgtUnsupportedCommand (s : State) : Out := .next (aon s (mgtOn s ((mgtError s 1).answer .noAck [])))
def execMgtSclTimeout (s : State) : Out := .next (aon s (mgtOn s ((mgtError s 5).answer .none [])))
def execAlertResponseRead (wins : Bool) (s : State) : Out := .next (aon s (mgtOn s (alertResponse s wins)))

end Sys2Proof.Machine
end

