-- ==== Sys2Proof/Machine/Mover.lean ====
section
/-!
DEFINITION. The stream movers of the device channels (spec/14_hoist.md R340) and what follows the last write of a
frame (spec/08_frames_commits_hallmarks.md R191, spec/10_outputs_canvases.md R240, R247, spec/11_statistics.md R267,
spec/15_host_rings.md R365 to R369, spec/18_troreind_fabric.md R454).
-/

namespace Sys2Proof.Machine

/-! ### Destinations -/

/-- Where the frames of a stream go: 0 host, 1 store, 2 peer; the bytes of the frame, the most slices it can have, and
the configuration it uses. -/
structure MoverNeed where
  dest : Nat
  bytes : Nat
  slices : Nat
  rd : Cfg

def moverNeed (s : State) (st : Nat) (n : Int) : Option MoverNeed :=
  if st < 128 then
    (frameOf s (st / 4) n).map (fun f =>
      let p := st / 4
      let o := st % 4
      ⟨outDest f.rd p o, frameBytes f.rd p o, if outDewarp f.rd p o then dwSlices f.rd p o (f.sl p) else f.last p + 1, f.rd⟩)
  else
    let c := st - 128
    (cvFrameOf s c n.toNat).map (fun f =>
      ⟨if f.rd.f (fCV_CFG_DEST c) = 1 then 2 else 0, cvH f.rd c * f.rd.f (fCV_STRIDE_BYTES c), cvSlices f c, f.rd⟩)

/-- The stream ring of a stream with a descriptor outstanding. -/
def ringReady (s : State) (st : Nat) : Option Nat :=
  (kget st s.ring.bind).bind (fun k =>
    if s.on (fSR_CFG_EN k) && s.fv (fSR_HEAD_INDEX k) != kgetD 0 k s.ring.srTail then some k else none)

/-- The frame gets no stream ring buffer (R367). -/
def noBuffer (s : State) (st : Nat) : State :=
  let s := match kget st s.ring.bind with
    | some k => s.bump (fSR_CNT_NO_BUFFER k)
    | none => s
  s.ev fRING_EVENT_NO_BUFFER

/-- The next stream ring buffer, from what the read of its descriptor returned; `hm` is the length of the hallmark area
that the frame needs. -/
def takeRing (s : State) (st bytes hm : Nat) (desc : HostData) : Dest × State :=
  match ringReady s st, desc with
  | some k, .data d =>
    let d := padTo 32 d
    let small := decide (leAt d 8 4 < bytes) || decide (leAt d 24 4 < hm)
    let s := s.setF (fSR_HEAD_INDEX k) ((s.fv (fSR_HEAD_INDEX k) + 1) % 2 ^ 16)
    let s := if small then (s.bump (fSR_CNT_BUFFER_SMALL k)).ev fRING_EVENT_BUFFER_SMALL else s
    (.host k (leAt d 0 8) (leAt d 16 8) (leAt d 12 4) (bitAt (leAt d 28 4) 0) small, s)
  | _, _ => (.none, noBuffer s st)

/-- The buffers that a store may write, the one unused for the longest time first (R240). -/
def freeBufs (s : State) (st : Nat) (rd : Cfg) : List Nat :=
  let x := storeOf s st
  let held := heldBufs s st
  if x.blocked && !held.isEmpty then []
  else
    let ok (b : Nat) : Bool := decide (b < fsCount rd (st / 4) (st % 4)) && !held.contains b
      && !(x.newest.map (fun l => l.buf == b)).getD false
    (List.range 6).filter (fun b => ok b && !x.used.contains b) ++ x.used.filter ok

def takeStore (s : State) (st : Nat) (rd : Cfg) : Dest × State :=
  let p := st / 4
  let o := st % 4
  match freeBufs s st rd with
  | b :: _ =>
    let x := storeOf s st
    let s := setStore s st { x with used := x.used.filter (fun y => y != b) ++ [b], blocked := false }
    (.store b (fsBase rd p o + b * fsPitch rd p o), s.setF (fOUT_FS_STATE_WRITING p o) b)
  | [] => (.none, s.bump (fOUT_CNT_STORE_SKIP p o))

def peerDev (rd : Cfg) (st : Nat) : Nat :=
  if st < 128 then rd.f (fOUT_PEER_DEV (st / 4) (st % 4)) else rd.f (fCV_PEER_DEV (st - 128))
/-- PEER_ADDR. -/
def peerAddr (rd : Cfg) (st : Nat) : Nat :=
  if st < 128 then
    rd.f (fOUT_PEER_ADDR_LO_ADDR (st / 4) (st % 4)) * 64 + rd (rOUT_PEER_ADDR_HI (st / 4) (st % 4)) * 2 ^ 32
  else rd.f (fCV_PEER_ADDR_LO_ADDR (st - 128)) * 64 + rd (rCV_PEER_ADDR_HI (st - 128)) * 2 ^ 32

/-- The peer's next buffer (R454). -/
def takePeer (s : State) (st bytes hm : Nat) (rd : Cfg) : Dest × State :=
  let x := peerOf s st
  match x.valid, x.desc with
  | true, some d =>
    let small := decide (leAt d 8 4 < bytes) || decide (leAt d 24 4 < hm)
    (.peer (peerDev rd st) (leAt d 0 8) (leAt d 16 8) (leAt d 12 4) small,
     setPeer s st { x with desc := none, head := (x.head + 1) % 2 ^ 16 })
  | true, none => (.none, s.bump fFABRIC_CNT_C_PEER_NO_BUFFER)
  | false, _ => (.none, s)

/-- What the choice of a destination meets, and the space it is in. -/
def chooseUse (s : State) (st : Nat) (q : MoverNeed) : Nat × SpaceUse :=
  match q.dest with
  | 0 => (0, if (ringReady s st).isSome then hostUse s else .fine)
  | 1 => (1, match freeBufs s st q.rd with
    | b :: _ => lpUse s (fsBase q.rd (st / 4) (st % 4) + b * fsPitch q.rd (st / 4) (st % 4)) (fsPitch q.rd (st / 4) (st % 4))
    | [] => .fine)
  | _ => (3, if (peerOf s st).valid && 0 < (peerOf s st).waiting then peerUse s (peerDev q.rd st) else .fine)

/-- The next descriptor of the peer has not been read yet. -/
def peerUnread (s : State) (st : Nat) (q : MoverNeed) : Bool :=
  q.dest == 2 && (peerOf s st).valid && decide (0 < (peerOf s st).waiting) && (peerOf s st).desc.isNone

def choose (s : State) (st : Nat) (q : MoverNeed) (desc : HostData) : Dest × State :=
  match q.dest with
  | 0 => takeRing s st q.bytes (64 + 16 * q.slices) desc
  | 1 => takeStore s st q.rd
  | _ => takePeer s st q.bytes (64 + 16 * q.slices) q.rd

/-- What a packet meets whose destination is chosen, and the space. -/
def destUse (s : State) : Dest → Nat × SpaceUse
  | .none => (0, .fine)
  | .host _ _ _ _ _ _ => (0, hostUse s)
  | .store _ b => (1, lpUse s b 64)
  | .peer d _ _ _ _ => (3, peerUse s d)

/-! ### Reading a packet -/

/-- The words of the packet that the group offers. -/
def packetWords : Nat → State → Nat → List LarderErr → List GWord × State
  | 0, s, _, _ => ([], s)
  | n + 1, s, st, errs =>
    let (r, s) := groupRead s st (errs.headD .none)
    if r.last || r.underrun then ([r], s)
    else
      let (l, s) := packetWords n s st (errs.drop 1)
      (r :: l, s)

def wordBytes (l : List GWord) : List Byte := l.flatMap (fun w => leBytes 8 w.data)
def anyPoison (l : List GWord) : Bool := l.any (fun w => w.poison)

/-- Words cut into the lines of `ls`, each given by its address and its pixel bytes, and the words left over. -/
def cutLines : List (Nat × Nat) → List GWord → List (Nat × Nat × List GWord) × List GWord
  | [], ws => ([], ws)
  | (a, n) :: ls, ws =>
    let k := ceil64 n / 8
    let (l, rest) := cutLines ls (ws.drop k)
    ((a, n, ws.take k) :: l, rest)

/-- The places of a slice's lines from base `b`, in the order in which they are moved. -/
def linePlaces (q : MoverNeed) (st b : Nat) (ls : List (Nat × Nat × Nat)) : List (Nat × Nat) :=
  if st < 128 then
    let p := st / 4
    let o := st % 4
    ls.map (fun l => (b + l.1 * q.rd.f (fOUT_STRIDE0_BYTES p o), l.2.1))
      ++ (if fmtTwo (outFormat q.rd p o) then
        ls.map (fun l => (b + q.rd (rOUT_PLANE1_OFF p o) + l.1 * q.rd.f (fOUT_STRIDE1_BYTES p o), l.2.2)) else [])
  else ls.map (fun l => (b + l.1 * q.rd.f (fCV_STRIDE_BYTES (st - 128)), l.2.1))

/-! ### Writing -/

def Dest.base : Dest → Nat
  | .none => 0 | .host _ b _ _ _ _ => b | .store _ b => b | .peer _ b _ _ _ => b
def Dest.hm : Dest → Option Nat
  | .host _ _ h _ _ _ => some h | .peer _ _ h _ _ => some h | _ => Option.none
/-- The destination takes data. -/
def Dest.takes : Dest → Bool
  | .none => false | .host _ _ _ _ _ small => !small | .store _ _ => true | .peer _ _ _ _ small => !small
def Dest.small : Dest → Bool
  | .host _ _ _ _ _ small => small | .peer _ _ _ _ small => small | _ => false

/-- One write of a stream mover. -/
def moverWrite (s : State) (st seq : Nat) (d : Dest) (addr : Nat) (bs : List Byte) (poison : Bool) : State :=
  match d with
  | .none => s
  | .host _ _ _ _ _ _ => hostData s addr bs poison
  | .store _ _ => issueOpWrite s st { tag := 0, kind := 4, space := 1, peer := 0, addr := addr, len := bs.length, off := seq,
                                      attempts := 1, data := bs, poison := poison }
  | .peer dev _ _ _ _ => issueOpWrite s st { tag := 0, kind := 4, space := 3, peer := dev, addr := addr, len := bs.length,
                                             off := seq, attempts := 1, data := bs, poison := poison }

/-- Words are written from an address, one 64-byte beat after another (R336). -/
def writeWords (s : State) (st seq : Nat) (d : Dest) (addr : Nat) (l : List GWord) : State :=
  if d.takes then
    ((chunks 8 l).foldl (fun (x : State × Nat) b =>
      let bad := anyPoison b
      let s := if bad then poisonBeat x.1 st else x.1
      (moverWrite s st seq d x.2 (wordBytes b) bad, x.2 + 8 * b.length)) (s, addr)).1
  else s

/-! ### The end of a frame's record -/

/-- Nothing needs what stream `st` made of frame `n` any more. -/
def frameGone (s : State) (st : Nat) (n : Int) : State :=
  if st < 128 then settlePipe (updOut s st n (fun o => { o with delivered := true })) (st / 4)
  else if st < 132 then
    let c := st - 128
    let held := ((cvFrameOf s c n.toNat).map (fun f => f.latch.map (fun l => l.2.stream))).getD []
    let x := canvasOf s c
    held.foldl updHeld (setCanvas s c { x with frames := x.frames.filter (fun f => f.n != n.toNat) })
  else s

/-! ### Packets (R340, R267) -/

/-- The mover is at frame `n`, with a destination that the caller has chosen. -/
def atFrame (s : State) (st : Nat) (n : Int) (d : Dest) : State :=
  setMover s st { seq := (moverOf s st).seq, done := (moverOf s st).done, frame := some n, dest := d }

/-- The mover's entry on the CQ of its stream ring. -/
def streamEntry (s : State) (d : Dest) (kind status fsn fs bytes detail flags : Nat) : State :=
  match d with
  | .host k _ _ buf irq _ =>
    cqPost s (s.fv (fSR_CFG_CQ k))
      { cid := buf % 2 ^ 16, kind := kind, idx := k, status := status, opcode := 0, r0 := buf + fsn * 2 ^ 32, r1 := fs,
        r2 := bytes, detail := detail, flags := flags, irq := irq && kind == 2 }
  | _ => s

/-- A slice packet. -/
def moveSlice (s : State) (st : Nat) (q : MoverNeed) (g : PktMeta) (errs : List LarderErr) : State :=
  let m := moverOf s st
  let (ws, s) := packetWords ((queueOfL s st).words.length + 1) s st errs
  let (ls, rest) := cutLines (linePlaces q st m.dest.base g.lines) ws
  let s := ls.foldl (fun s l => writeWords s st m.seq m.dest l.1 l.2.2) s
  let crc := crc32c (ls.flatMap (fun l => (wordBytes l.2.2).take l.2.1))
  let h := rest.take 2
  let w0 := ((h[0]?).map (fun w => w.data)).getD 0
  let w1 := ((h[1]?).map (fun w => w.data)).getD 0
  let bad := crc.toNat != w0 % 2 ^ 32
  let poison := anyPoison ws
  let s := if bad then s.report 0x11 (st / 4) 0x0111 else s
  let flag (w bit : Nat) (c : Bool) : Nat := if c then putBits w (40 + bit) 1 1 else w
  let w1 := flag (flag w1 4 bad) 2 poison
  let bytes := sumList (ls.map (fun l => 8 * l.2.2.length))
  let slice := bitsOf w1 22 10
  let s := match m.dest.hm with
    | some a =>
      if h.length = 2 then
        let h := [⟨w0, false, anyPoison h, false, st, none⟩, ⟨w1, false, false, false, st, none⟩]
        writeWords s st m.seq m.dest (a + 64 + 16 * slice) h
      else s
    | none => s
  let s := match m.dest with
    | .host k _ _ _ _ false =>
      if s.on (fSR_STATUS_SLICE_CPL k) then
        streamEntry s m.dest 1 0 (w0 / 2 ^ 32) (markInfo s st g.frame).fs (sumList (ls.map (fun l => l.2.1))) slice
          (bitsOf w1 40 8)
      else s
    | _ => s
  setMover s st { m with
    marked := m.marked || bad, poisoned := m.poisoned || poison,
    bytes := m.bytes + (if m.dest.takes then bytes else 0), slices := m.slices + 1 }

/-- The key that signs a hallmark of frame start `fs` (R519). -/
def gmacKey (s : State) (fs : Nat) : Option Nat :=
  if s.on fIDENT_GMAC_CTRL_EN && s.ident.cur.isSome then
    (if s.pair rIDENT_GMAC_FROM_LO rIDENT_GMAC_FROM_HI ≤ fs then s.ident.cur else s.ident.prev)
  else none

/-- A full hallmark with its GMAC tag. -/
def signed (s : State) (h : List Byte) : List Byte :=
  match gmacKey s (leAt h 8 8) with
  | some k => patchBytes h 0x34 ((List.range 12).map (Config.gmacByte k (h.take 0x34)))
  | none => patchBytes h 0x34 (leBytes 12 0)

/-- The full hallmark of a frame. -/
def moveFull (s : State) (st : Nat) (q : MoverNeed) (g : PktMeta) (errs : List LarderErr) : State :=
  let m := moverOf s st
  let (ws, s) := packetWords ((queueOfL s st).words.length + 1) s st errs
  let poison := m.poisoned || anyPoison ws
  let h := padTo 64 (wordBytes ws)
  let fl := leAt h 3 1
  let fl := if m.marked then putBits fl 4 1 1 else fl
  let fl := if poison then putBits fl 2 1 1 else fl
  let det := if m.marked then putBits (leAt h 0x26 2) 4 1 1 else leAt h 0x26 2
  let h := signed s (patchBytes (patchBytes h 3 (leBytes 1 fl)) 0x26 (leBytes 2 det))
  let at? := match m.dest with
    | .store _ b => some (b + fsPitch q.rd (st / 4) (st % 4) - 64)
    | d => d.hm
  let words := (chunks 8 h).map (fun b => (⟨leNat b, false, anyPoison ws, false, st, none⟩ : GWord))
  let s := match at? with
    | some a => writeWords s st m.seq m.dest a words
    | none => s
  let s := setMover s st { seq := m.seq + 1, done := m.done }
  if m.dest = .none then frameGone s st g.frame
  else
    let d : MoverDone := {
      seq := m.seq, kind := 1, frame := g.frame, fsn := leAt h 4 4, fs := leAt h 8 8, flags := fl, budget := leAt h 0x24 2,
      tally := leAt h 0x30 4, slices := leAt h 0x20 2, bytes := m.bytes, dest := m.dest }
    setMover s st { moverOf s st with done := m.done ++ [d] }

/-- A statistics packet: its body, and then its header (R267). -/
def moveStats (s : State) (st : Nat) (errs : List LarderErr) : State :=
  let m := moverOf s st
  let (ws, s) := packetWords ((queueOfL s st).words.length + 1) s st errs
  let body := ws.drop 8
  let h := padTo 64 (wordBytes (ws.take 8))
  let s := writeWords s st m.seq m.dest (m.dest.base + 64) body
  let bad := (crc32c (wordBytes body)).toNat != leAt h 0x3C 4
  let s := if bad then s.report 0x11 (st - 0xA0) 0x0112 else s
  let fl := leAt h 6 1
  let fl := if bad then putBits fl 3 1 1 else fl
  let fl := if anyPoison ws then putBits fl 2 1 1 else fl
  let h := patchBytes h 6 (leBytes 1 fl)
  let words := (chunks 8 h).map (fun b => (⟨leNat b, false, anyPoison (ws.take 8), false, st, none⟩ : GWord))
  let s := writeWords s st m.seq m.dest m.dest.base words
  let fsn := leAt h 8 4
  let s := setMover s st { seq := m.seq + 1, done := m.done }
  if m.dest = .none then s
  else
    let d : MoverDone := {
      seq := m.seq, kind := 2, frame := Int.ofNat fsn, fsn := fsn, fs := leAt h 16 8, flags := fl, budget := 0, tally := 0,
      slices := 0, bytes := if m.dest.small then 0 else 8 * ws.length, dest := m.dest }
    setMover s st { moverOf s st with done := m.done ++ [d] }

/-- A packet that the mover cannot tell apart any more: what is left of one whose queue was damaged. -/
def moveUnknown (s : State) (st : Nat) (errs : List LarderErr) : State :=
  let (_, s) := packetWords ((queueOfL s st).words.length + 1) s st errs
  setMover s st { moverOf s st with poisoned := true }

/-- The bytes of the statistics packet at the head of the queue: the LENGTH of its header. -/
def statsBytes (s : State) (st : Nat) : Nat := (((queueOfL s st).words[5]?).map (fun w => w.data / 2 ^ 32)).getD 0

/-- The mover goes on with `f` unless the space says otherwise. -/
def moverGuard (s : State) (st addr : Nat) (u : Nat × SpaceUse) (f : State) : State := onSpace s st u.1 addr u.2 f

/-- The first packet of a frame chooses its destination; a later one keeps it. -/
def withDest (s : State) (st : Nat) (n : Int) (q : MoverNeed) (desc : HostData) (f : State → State) : State :=
  let m := moverOf s st
  if m.frame = some n then moverGuard s st m.dest.base (destUse s m.dest) (f s)
  else if peerUnread s st q then s
  else
    let (d, t) := choose s st q desc
    moverGuard s st d.base (chooseUse s st q) (f (atFrame t st n d))

/-- The stream mover takes the packet that its group offers. -/
def moverPacket (s : State) (st : Nat) (desc : HostData) (errs : List LarderErr) : State :=
  if hState s st ≠ 1 || groupEmpty s st then s
  else match ((queueOfL s st).words.head?).bind (fun w => w.tag) with
    | none => moveUnknown s st errs
    | some g =>
      if g.kind = 2 then
        let q : MoverNeed := ⟨0, statsBytes s st, 0, s.rn⟩
        let (d, t) := takeRing s st q.bytes 0 desc
        moverGuard s st d.base (chooseUse s st q) (moveStats (atFrame t st g.frame d) st errs)
      else match moverNeed s st g.frame with
        | none => moveUnknown s st errs
        | some q => withDest s st g.frame q desc (fun s =>
            if g.kind = 0 then moveSlice s st q g errs else moveFull s st q g errs)
def execStreamMoverPacket (stream : Nat) (desc : HostData) (errs : List LarderErr) (s : State) : Out :=
  .next (hub s (moverPacket s (stream % 192) desc errs))

/-! ### Delivery (R191, R240, R247, R368, R454) -/

/-- Every write up to frame `seq` of a mover is acknowledged. -/
def moverAcked (s : State) (st seq : Nat) : Bool :=
  ((hchan s st).ops ++ (hchan s st).retry).all (fun o => o.kind != 4 || decide (seq < o.off))

/-- A frame is good: none of TRUNCATED, CORRUPT, POISONED and BAD. -/
def goodFlags (fl : Nat) : Bool := !bitAt fl 0 && !bitAt fl 1 && !bitAt fl 2 && !bitAt fl 4

/-- A peer's completion entry, and the indices and the notice that follow it. -/
def peerComplete (s : State) (st : Nat) (d : MoverDone) (dev buf : Nat) (small : Bool) (addr : Nat) : State :=
  let x := peerOf s st
  let phase := b2n (x.cplTail / max 1 x.size % 2 == 0)
  let e : CqEntry := { cid := buf % 2 ^ 16, kind := 2, idx := st, status := if small then 0x70 else 0, opcode := 0,
                       r0 := buf + d.fsn * 2 ^ 32, r1 := d.fs, r2 := d.bytes, detail := d.slices, flags := d.flags }
  let put (s : State) (a : Nat) (bs : List Byte) : State :=
    issueOpWrite s st { tag := 0, kind := 2, space := 3, peer := dev, addr := a, len := bs.length, off := 0, attempts := 1,
                        data := bs }
  let s := put s (x.cplBase + x.cplTail % max 1 x.size * 32) (cqBytes e x.head phase)
  let t := (x.cplTail + 1) % 2 ^ 16
  let s := setPeer s st { peerOf s st with cplTail := t }
  let s := put s (addr + 0x14) (leBytes 2 x.head ++ leBytes 2 t)
  if x.notify = 0 then s
  else put s x.notify (leBytes 8 (t + st * 2 ^ 16 + (fabId s).getD 0 * 2 ^ 24))

/-- The store's buffer of a delivered frame. -/
def storeDone (s : State) (st : Nat) (d : MoverDone) (buf base : Nat) : State :=
  let p := st / 4
  let o := st % 4
  let s := if s.fv (fOUT_FS_STATE_WRITING p o) = buf && (moverOf s st).frame.isNone then
    s.setF (fOUT_FS_STATE_WRITING p o) 7 else s
  match frameOf s p d.frame with
  | some f =>
    if goodFlags d.flags && storeLayout f.rd p o == storeLayout (actCfg s) p o then
      (setStore s st { storeOf s st with
        newest := some { stream := st, buf := buf, base := base, fs := d.fs, fsn := d.fsn, cfg := f.cfg } }).setF
        (fOUT_FS_STATE_NEWEST_GOOD p o) buf
    else s
  | none => s

/-- The registers of a canvas after a delivered frame. -/
def canvasDone (s : State) (c : Nat) (d : MoverDone) : State :=
  match cvFrameOf s c d.frame.toNat with
  | some f =>
    (List.range 16).foldl (fun s v =>
      s.setRn (rCV_VIEW_FSN c v) (((kget v f.latch).map (fun l => l.fsn)).getD 0xFFFFFFFF))
      (s.setRn (rCV_LAST_FRAME c) d.fsn)
  | none => s

/-- The views of a frame: freshness, and the frames that the island holds. -/
def viewDone (s : State) (st : Nat) (d : MoverDone) : State :=
  let good := goodFlags d.flags
  let s := freshDelivered s st good d.fs d.budget
  if good then holdFrame s st { fsn := d.fsn, tally := d.tally, capture := d.fs, delivered := s.dial, budget := d.budget }
  else s

/-- A frame, or a statistics packet, is delivered. -/
def deliverDone (s : State) (st : Nat) (d : MoverDone) : State :=
  let s := setMover s st { moverOf s st with done := (moverOf s st).done.filter (fun x => x.seq != d.seq) }
  let s := match d.dest with
    | .host _ _ _ _ _ small => streamEntry s d.dest 2 (if small then 0x70 else 0) d.fsn d.fs d.bytes d.slices d.flags
    | .store buf base => storeDone s st d buf base
    | .peer dev _ _ buf small =>
      peerComplete s st d dev buf small (((moverNeed s st d.frame).map (fun q => peerAddr q.rd st)).getD 0)
    | .none => s
  if d.kind = 2 then (if d.dest.small then s else s.setRn (rSTATS_FSN (st - 0xA0)) d.fsn)
  else
    let s := if d.dest.small then s
      else viewDone (if st < 128 then s else canvasDone s (st - 128) d) st d
    frameGone s st d.frame

/-- The last write of the mover's first finished frame has completed. -/
def frameDelivered (s : State) (st : Nat) : State :=
  match (moverOf s st).done with
  | d :: _ => if hActive s st && moverAcked s st d.seq then deliverDone s st d else s
  | [] => s
def execFrameDelivered (stream : Nat) (s : State) : Out := .next (hub s (frameDelivered s (stream % 192)))

end Sys2Proof.Machine
end

