-- ==== Sys2Proof/Machine/PcieLink.lean ====
section
/-!
DEFINITION. The endpoint's commands (spec/16_pcie_and_bridges.md R378 to R395, R410; spec/03_start_up.md R53, R54): the link,
configuration requests, BAR4 and BAR2, completions, errors and link power.
-/

namespace Sys2Proof.Machine

/-! ### The link (R53, R379) -/

/-- The endpoint can train: its domain is ON, its controller is ready (R52, R53), and PERST_N is high. -/
def canTrain (s : State) : Bool :=
  domOn s 13 && s.pow.boot.pcie && s.pow.perst && s.pow.phase != .failed && !s.on fPCIE_LINK_STATUS_DL_ACTIVE

def ltssmDetect (s : State) : State :=
  if canTrain s then { s with pcie := { s.pcie with training := true, clkreq := true } } else s
def execLtssmDetect (s : State) : Out := .next (hub s (ltssmDetect s))

/-- DEGRADED follows the rate and the width (R379). -/
def linkJudge (s : State) : State :=
  let bad := decide (s.fv fPCIE_LINK_STATUS_RATE < 6) || decide (s.fv fPCIE_LINK_STATUS_WIDTH < 8)
  let was := s.on fPCIE_LINK_STATUS_DEGRADED
  let s := s.setF fPCIE_LINK_STATUS_DEGRADED (b2n bad)
  if bad && !was then (s.ev fPCIE_EVENT_LINK_DEGRADED).report 0x04 0 0x0007 else s

def linkUp (s : State) (rate width : Nat) (flit : Bool) : State :=
  if s.pcie.training && canTrain s && decide (1 ≤ rate) && decide (rate ≤ 6) && [1, 2, 4, 8].contains width then
    let s := s.setRn rPCIE_LINK_STATUS 0
    let s := (s.setF fPCIE_LINK_STATUS_RATE rate).setF fPCIE_LINK_STATUS_WIDTH width
    let s := (s.setF fPCIE_LINK_STATUS_FLIT (b2n flit)).setF fPCIE_LINK_STATUS_DL_ACTIVE 1
    linkJudge { s with pcie := { s.pcie with training := false } }
  else s
def execLinkDlActive (rate width : Nat) (flit : Bool) (s : State) : Out := .next (hub s (linkUp s rate width flit))

def rateChange (s : State) (rate : Nat) (flit : Bool) : State :=
  if s.on fPCIE_LINK_STATUS_DL_ACTIVE && decide (1 ≤ rate) && decide (rate ≤ 6) then
    linkJudge ((s.setF fPCIE_LINK_STATUS_RATE rate).setF fPCIE_LINK_STATUS_FLIT (b2n flit))
  else s
def execRateChangeComplete (rate : Nat) (flit : Bool) (s : State) : Out := .next (hub s (rateChange s rate flit))

/-- CONFIG_READY: the later of DL_Active and the start-up test (R53); the Inventory table is written (R385). -/
def configReady (s : State) : State :=
  if s.on fPCIE_LINK_STATUS_DL_ACTIVE && s.pow.boot.startup && !s.pcie.configReady then
    let s := { s with pcie := { s.pcie with configReady := true } }
    writeInventory s (if s.on fGLB_BOOT_STATUS_READY then 2 else 1)
  else s
def execConfigReady (s : State) : Out := .next (hub s (configReady s))

/-- A configuration request (R54, R381). -/
def configRequest (s : State) (write : Bool) (off : Nat) (v : Word) (be : Nat) : State :=
  if !s.on fPCIE_LINK_STATUS_DL_ACTIVE then s
  else if !s.pcie.configReady then s.answer .retry []
  else if write then (cfgWrite s off v be).answer .success []
  else s.answer .success (leBytes 4 (cfgRead s off))
def execConfigurationRequest (write : Bool) (off : Nat) (v : Word) (be : Nat) (s : State) : Out :=
  .next (hub s (configRequest s write (off % 0x1000 / 4 * 4) v (be % 16)))

/-! ### BAR4 and BAR2 (R384, R385, R389, R393) -/

/-- The base of the BAR4 window, rounded down to the size of BAR4; a base that is not a multiple sets CFG_INVALID. -/
def bar4Base (s : State) : Nat × State :=
  let w := s.pair rPCIE_LP5X_WIN_LO rPCIE_LP5X_WIN_HI
  let n := 2 ^ bar4Log s
  (w / n * n, if w % n = 0 then s else s.ev fPCIE_EVENT_CFG_INVALID)

def bar4Read (s : State) (x len : Nat) : State :=
  let (base, s) := bar4Base s
  let a := base + x % 2 ^ bar4Log s
  if lpRange s a len then
    s.answer (if memBad s a len then .poisoned else .success) (memRead s a len)
  else refuseUr s false
def execBar4Read (x len : Nat) (s : State) : Out := .next (hostReq s (bar4Read s x len))

def bar4Write (s : State) (x : Nat) (bytes : List Byte) (poison : Bool) : State :=
  let (base, s) := bar4Base s
  let a := base + x % 2 ^ bar4Log s
  let s := if poison then poisonRx s else s
  if lpRange s a bytes.length then memWrite s a bytes poison else refuseUr s true
def execBar4Write (x : Nat) (bytes : List Byte) (poison : Bool) (s : State) : Out :=
  .next (hostReq s (bar4Write s x bytes poison))

def execBar2Write (s : State) : Out := .next (hostReq s (s.ev fPCIE_EVENT_BAR2_WRITE))

def execUnsupportedRequest (write : Bool) (s : State) : Out := .next (hostReq s (refuseUr s write))

/-! ### Completions (R386, R390, R391) -/

/-- A HOST read of an inbound fabric window has ended. -/
def readEnded (s : State) (k : Nat) : State :=
  match kget k s.pcie.reads with
  | some r =>
    (match r.owner with
    | .fabric key =>
      if r.failed then inboundDone (dropRead s k) key none false
      else if r.whole then inboundDone (dropRead s k) key (some (r.got.take r.size)) r.poison
      else s
    | .hoist _ => s)
  | none => s

/-- A piece of a completion arrives for the read of tag `k`. -/
def completion (s : State) (k : Nat) (p : CplPiece) : State :=
  let unexpected (s : State) : State :=
    ((aerUncorr (s.bump fPCIE_CNT_A_UNEXPECTED) 16 true).ev fPCIE_EVENT_UNEXPECTED_CPL).report 0x04 0 0x0004
  let put (s : State) (r : HostRead) : State :=
    readEnded { s with pcie := { s.pcie with reads := kput k r s.pcie.reads } } k
  match kget k s.pcie.reads with
  | none => unexpected s
  | some r =>
    if r.failed || r.whole then unexpected s
    else match p with
      | .data bs poisoned =>
        let s := if poisoned then poisonRx s else s
        put s { r with got := r.got ++ bs, poison := r.poison || poisoned }
      | .unsupported | .abort => put s { r with failed := true }
def execPcieCompletionReceived (k : Nat) (p : CplPiece) (s : State) : Out :=
  .next (hub s (if s.on fPCIE_LINK_STATUS_DL_ACTIVE then completion s k p else s))

/-! ### Errors of the link (R390) -/

def linkError (s : State) (e : LinkError) : State :=
  match e with
  | .receiver => aerCorr s 0
  | .badTlp => aerCorr s 6
  | .badDllp => aerCorr s 7
  | .replayRollover => aerCorr s 8
  | .replayTimeout => aerCorr s 12
  | .corrected => ((aerCorr (s.bump fPCIE_CNT_B_CORR_INTERNAL) 14).ev fPCIE_EVENT_CORR_INTERNAL).report 0x04 0 0x0003
  | .uncorrectable _ => ((aerUncorr s 22 false).ev fPCIE_EVENT_UNCORR_INTERNAL).report 0x04 0 0x0002
  | .malformed => aerUncorr s 18 false
  | .flowControl => aerUncorr s 13 false
  | .overflow => aerUncorr s 17 false
  | .dataLink => aerUncorr s 4 false
def execBadTlpReceived (e : LinkError) (s : State) : Out :=
  .next (hub s (if s.on fPCIE_LINK_STATUS_DL_ACTIVE then linkError s e else s))

def execLtssmRecoveryEntry (s : State) : Out :=
  .next (hub s (if s.on fPCIE_LINK_STATUS_DL_ACTIVE then s.bump fPCIE_CNT_C_RECOVERY else s))

/-! ### Link power (R380, R394) -/

/-- The link goes from power state `a` to `b` when `c` holds. -/
def powerMove (s : State) (a b : Nat) (c : Bool) : State :=
  if s.on fPCIE_LINK_STATUS_DL_ACTIVE && linkPower s == a && c then s.setF fPCIE_LINK_STATUS_POWER b else s

def execL0sEntry (s : State) : Out :=
  .next (hub s (powerMove s 0 1 (!s.on fPCIE_LINK_STATUS_FLIT && bitAt (cfgN s 0x080) 0)))
def execL0sExit (s : State) : Out := .next (hub s (powerMove s 1 0 true))

/-- A doorbell whose commands or buffers have not been read. -/
def doorbellOpen (s : State) : Bool :=
  s.ring.crTail.any (fun x => s.on (fCR_CFG_EN x.1) && s.fv (fCR_HEAD_INDEX x.1) != x.2)

/-- The device's own condition for L1. -/
def l1Idle (s : State) : Bool :=
  !hostStream s && s.ring.opened.isEmpty && s.ring.waiting.isEmpty && !doorbellOpen s && s.ring.shadowReads == 0
    && s.pcie.reads.isEmpty
def l1Entry (s : State) : State :=
  let ok := l1Idle s && bitAt (cfgN s 0x080) 1
  powerMove (powerMove s 1 0 ok) 0 2 ok
def execL1Entry (s : State) : Out := .next (hub s (l1Entry s))
def execL1Exit (s : State) : Out := .next (hub s (powerMove s 2 0 true))

/-- CLKREQ_N is released in L1 where the host has enabled a substate, or asserted by either side. -/
def clkreqChange (s : State) (asserted : Bool) : State :=
  if asserted then
    let s := { s with pcie := { s.pcie with clkreq := true } }
    powerMove (powerMove s 3 0 true) 4 0 true
  else
    let c := cfgN s 0x240
    let sub := if bitAt c 2 then 4 else if bitAt c 3 then 3 else 0
    if s.on fPCIE_LINK_STATUS_DL_ACTIVE && linkPower s == 2 && sub != 0 then
      { (s.setF fPCIE_LINK_STATUS_POWER sub) with pcie := { s.pcie with clkreq := false } }
    else s
def execClkreqChange (asserted : Bool) (s : State) : Out := .next (hub s (clkreqChange s asserted))

/-- Low traffic narrows the link to `w` lanes. -/
def l0pNarrow (s : State) (w : Nat) : State :=
  let now := if linkPower s = 5 then s.fv fPCIE_LINK_STATUS_L0P_WIDTH else s.fv fPCIE_LINK_STATUS_WIDTH
  if s.on fPCIE_LINK_STATUS_DL_ACTIVE && (linkPower s == 0 || linkPower s == 5) && s.on fPCIE_LINK_STATUS_FLIT
      && s.fv fPCIE_LINK_STATUS_RATE == 6 && s.on fPCIE_ASPM_CFG_L0P_EN && decide (w < now)
      && (w == 4 || ((w == 2 || w == 1) && !hostStream s)) then
    ((s.setF fPCIE_LINK_STATUS_POWER 5).setF fPCIE_LINK_STATUS_L0P_WIDTH w).bump fPCIE_CNT_C_L0P_CHANGES
  else s
def execL0pNarrow (w : Nat) (s : State) : Out := .next (hub s (l0pNarrow s w))

/-- The link widens to `w` lanes; at its full width it is in L0. -/
def l0pWiden (s : State) (w : Nat) : State :=
  if s.on fPCIE_LINK_STATUS_DL_ACTIVE && linkPower s == 5 && decide (s.fv fPCIE_LINK_STATUS_L0P_WIDTH < w)
      && decide (w ≤ s.fv fPCIE_LINK_STATUS_WIDTH) then
    let s := s.bump fPCIE_CNT_C_L0P_CHANGES
    if w = s.fv fPCIE_LINK_STATUS_WIDTH then
      (s.setF fPCIE_LINK_STATUS_POWER 0).setF fPCIE_LINK_STATUS_L0P_WIDTH 0
    else s.setF fPCIE_LINK_STATUS_L0P_WIDTH w
  else s
def execL0pWiden (w : Nat) (s : State) : Out := .next (hub s (l0pWiden s w))

def execD3hotEntry (s : State) : Out :=
  .next (hostReq s (if bitsOf (cfgN s 0x044) 0 2 = 3 then s else d3Entry s))
def execD0Return (s : State) : Out :=
  .next (hostReq s (if bitsOf (cfgN s 0x044) 0 2 = 3 then d0Return s else s))

/-! ### Data objects (R381, R516) -/

/-- A DOE Discovery request: the object of `index`, as vendor ID, object type and next index. The device supports
Discovery, and SPDM and secured SPDM messages. -/
def doeDiscovery (s : State) (index : Nat) : State :=
  let reply (typ next : Nat) : State := s.answer .success (leBytes 2 0x0001 ++ leBytes 1 typ ++ leBytes 1 next)
  if index = 0 then reply 0 1 else if index = 1 then reply 1 2 else if index = 2 then reply 2 0
  else s.answer .success (leBytes 4 0xFFFF)
def execDoeDiscovery (index : Nat) (s : State) : Out := .next (hostReq s (doeDiscovery s index))

end Sys2Proof.Machine
end

