-- ==== Sys2Proof/Machine/Plate.lean ====
section
/-!
DEFINITION. Configuration plates (spec/08_frames_commits_hallmarks.md R171 to R173): the checks, in the order
of R173, and the writing of the records into the shadow set.
-/

namespace Sys2Proof.Machine

/-- A record of a plate: where it stands, its header fields and its data words. -/
structure PlateRec where
  off : Nat
  type : Nat
  count : Nat
  addr : Nat
  words : List Nat
  deriving DecidableEq, Repr

/-- The records of a plate from offset `off`, or the offset of the one whose form is wrong. -/
def plateWalk (bs : List Byte) : Nat → Nat → List Byte → Except Nat (List PlateRec)
  | 0, off, _ => .error off
  | n + 1, off, rest =>
    let type := leAt rest 0 1
    let count := leAt rest 2 2
    let addr := leAt rest 4 4
    let size := 8 + ceilDiv (4 * count) 8 * 8
    if bs.length < off + 8 || leAt rest 1 1 ≠ 0 || bs.length < off + size then .error off
    else
      let r : PlateRec := ⟨off, type, count, addr, (chunks 4 ((rest.drop 8).take (4 * count))).map leNat⟩
      if type = 0xFF then
        (if count = 0 && addr = 0 && off + 8 = bs.length then .ok [r] else .error off)
      else if type = 1 || type = 2 || (type = 3 && addr < 2 ^ 24) then
        (plateWalk bs n (off + size) (rest.drop size)).map (fun l => r :: l)
      else .error off

/-- The target of a plate. -/
def plateTarget (bs : List Byte) : Nat := if leAt bs 5 1 = 0 then leAt bs 6 1 else 32 + leAt bs 6 1

/-- The first header field that is invalid. -/
def plateHeaderBad (bs : List Byte) : Option Nat :=
  let len := leAt bs 8 4
  if leAt bs 0 4 ≠ 0x54414C50 then some 0x00
  else if leAt bs 4 1 ≠ 1 then some 0x04
  else if 1 < leAt bs 5 1 then some 0x05
  else if (if leAt bs 5 1 = 0 then 31 else 3) < leAt bs 6 1 then some 0x06
  else if leAt bs 7 1 ≠ 0 then some 0x07
  else if len < 40 || 1048576 < len || len % 8 ≠ 0 || len ≠ bs.length then some 0x08
  else if leAt bs 0xC 4 < 1 || 65535 < leAt bs 0xC 4 then some 0x0C
  else if leAt bs 0x14 8 ≠ 0 then some 0x14
  else none

/-- The records of a plate, or the offset at which its form fails (0x30). -/
def plateRecords (bs : List Byte) : Except Nat (List PlateRec) :=
  match plateHeaderBad bs with
  | some off => .error off
  | none =>
    match plateWalk bs 131072 32 (bs.drop 32) with
    | .error off => .error off
    | .ok l => if l.length = leAt bs 0xC 4 then .ok l else .error 0x0C

/-- The writes of a record: BAR0 offsets and words. -/
def recWrites (t : Nat) (r : PlateRec) : List (Nat × Nat) :=
  match r.type with
  | 1 => mapFrom (fun i w => (r.addr + 4 * i, w)) 0 r.words
  | 2 =>
    let base := ((tableWin t (r.addr % 4096)).map (fun x => x.1)).getD 0
    mapFrom (fun i w => (base + 4 * (r.addr / 4096 + i), w)) 0 r.words
  | 3 =>
    let slot := r.addr % 256
    let (kid, par) := if t < 32 then (rKSLOT_KID t slot, rKSLOT_PARAM t slot)
      else (rCV_KSLOT_KID (t - 32), rCV_KSLOT_PARAM (t - 32))
    [(kid, r.addr / 256 % 65536), (par, r.words.headD 0)]
  | _ => []

/-- The writes are made in order. -/
def writeAll (s : State) (l : List (Nat × Nat)) : State :=
  l.foldl (fun s x => shadowWrite s x.1 (BitVec.ofNat 32 x.2)) s

/-- A REG word lies in the scope of target `t`, on the shadow set that the records before it leave. -/
def wordInScope (s : State) (t off v : Nat) : Bool :=
  match mapIndex off with
  | some e =>
    let isMap := if e.1 < 32 then off == rSPORT_VC_MAP e.1 e.2 else off == rLPORT_MAP (e.1 - 32)
    decide (t < 32) && entryPipe (if isMap then (fun _ => v) else s.rn) e == t
  | none => off % 4 == 0 && ownerOf off == some t && shadowedAt off && !isTable off

/-- A record lies in the scope of target `t`; also the shadow set after it. -/
def recInScope (s : State) (t : Nat) (r : PlateRec) : Bool × State :=
  match r.type with
  | 1 => (recWrites t r).foldl (fun x w =>
      (x.1 && wordInScope x.2 t w.1 w.2, x.2.setRn w.1 w.2)) (true, s)
  | 2 =>
    (match (if t < 32 then tableWin t (r.addr % 4096) else none) with
     | some (_, n) => (decide (r.addr / 4096 + r.count ≤ n), s)
     | none => (false, s))
  | 3 => (decide (r.addr % 256 < (if t < 32 then 16 else 1)), s)
  | _ => (true, s)

/-- The first record out of scope (0x32). -/
def scopeBad (s : State) (t : Nat) : List PlateRec → Option Nat
  | [] => none
  | r :: rs =>
    let (ok, s) := recInScope s t r
    if ok then scopeBad s t rs else some r.off

/-- The first point at which the kernel library differs (0x33). -/
def libraryBad (s : State) (bs : List Byte) (l : List PlateRec) : Option Nat :=
  let need := leAt bs 0x10 4
  if need ≠ 0 && need ≠ s.pow.boot.library then some 0x10
  else (l.find? (fun r => r.type == 3 && (r.count != 1
    || (r.addr / 256 % 65536 != 0 && !s.pow.boot.kernelIds.contains (r.addr / 256 % 65536))))).map (fun r => r.off)

/-- The first failure in the order of R173: status and offset; or the records. -/
def plateCheck (s : State) (bs : List Byte) : Except (Nat × Nat) (List PlateRec) :=
  match plateRecords bs with
  | .error off => .error (0x30, off)
  | .ok l =>
    let t := plateTarget bs
    if leAt bs 0x1C 4 ≠ (crc32c (patchBytes bs 0x1C (leBytes 4 0))).toNat then .error (0x31, 0x1C)
    else match scopeBad s t l with
      | some off => .error (0x32, off)
      | none =>
        match libraryBad s bs l with
        | some off => .error (0x33, off)
        | none => if lockedTarget s t then .error (0x34, 0x06) else .ok l

/-- The payload of a PLATE_LOAD has been fetched as far as its address and length are legal (R351). -/
def plateFieldsOk (c : Cmd) : Bool :=
  !c.reserved && c.target == 0 && c.arg0 == 0 && c.arg1 == 0 && c.addr % 8 == 0 && decide (1 ≤ c.len)
    && decide (c.len ≤ 1048576)

/-- PLATE_LOAD: the plate is checked whole, and then written. -/
def cmdPlate (s : State) (c : Cmd) : State :=
  if !plateFieldsOk c then complete s c 0x04
  else match plateCheck s c.payload with
    | .error (st, off) => complete s c st 0 0 0 (off % 65536)
    | .ok l => complete (l.foldl (fun s r => writeAll s (recWrites (plateTarget c.payload) r)) s) c 0x00

def execPlateLoad (s : State) : Out := .next (hub s (onCmd s 0x22 cmdPlate))

end Sys2Proof.Machine
end

