-- ==== Sys2Proof/Machine/Streams.lean ====
section
/-!
DEFINITION. Stream starts and stops (spec/15_host_rings.md R360 to R362), and the two commands that the safety island
judges (spec/21_safety.md R501 to R506).
-/

namespace Sys2Proof.Machine

/-! ### STREAM_START (R360) -/

/-- A stream that goes to the host has no stream ring. -/
def unbound (s : State) (p : Nat) : Bool :=
  (outsOn (actCfg s) p).any (fun o => s.av (fOUT_CTRL_DEST p o) == 0 && (kget (4 * p + o) s.ring.bind).isNone)
    || (anyStats (actCfg s) p && (kget (0xA0 + p) s.ring.bind).isNone)

/-- The stream of pipeline `p` starts. -/
def streamOn (s : State) (p : Nat) : State :=
  let s := openStreams (escStart s p) p
  let s := { s with started := s.started ++ [p], frameNo := kdel p s.frameNo }
  let s := (s.setRn (rCMT_FSN p) 0xFFFFFFFF).setF (fKSCHED_STATUS_STATE p) 1
  let s := updPipe s p (fun x => { x with
    track := baseLevels (actCfg s) p, parsed := [], decim := [], lastKept := [], force := [], statCnt := 0,
    prevFs := none, moved := none, refuse := false, stopCmd := none })
  let s := flickReset s p
  let s := (List.range 4).foldl (fun s o => storeForget s (4 * p + o) (!(heldBufs s (4 * p + o)).isEmpty)) s
  (outsOn (actCfg s) p).foldl (fun s o => freshStart s (4 * p + o) (activeBudget s (4 * p + o))) s

def cmdStart (s : State) (c : Cmd) : State :=
  let p := c.target
  if !unusedZero c true false false false || 32 ≤ p then complete s c 0x04
  else if s.started.contains p then complete s c 0x50
  else if s.rn (rCMT_CONFIG_GEN p) = 0 then complete s c 0x52
  else if unbound s p then complete s c 0x51
  else if s.fv (fKSCHED_STATUS_STATE p) = 3 then complete s c 0x55
  else complete (streamOn s p) c 0x00 (s.rn (rCMT_CONFIG_GEN p))
def execStreamStart (s : State) : Out := .next (hub s (onCmd s 0x11 cmdStart))

/-! ### STREAM_STOP (R361) -/

def cmdStop (s : State) (c : Cmd) : State :=
  let p := c.target
  if !unusedZero c true false false false || 32 ≤ p then complete s c 0x04
  else if !s.started.contains p || (pipeOf s p).stopCmd.isSome then complete s c 0x54
  else settlePipe (truncateOpen (updPipe s p (fun x => { x with refuse := true, stopCmd := some c, stopAt := s.now })) p) p
def execStreamStop (s : State) : Out := .next (hub s (onCmd s 0x12 cmdStop))

/-- Everything that the pipeline enqueued has been delivered. -/
def streamDrained (s : State) (p : Nat) : Bool :=
  (pipeOf s p).frames.all (fun f => f.statsDone && f.outs.all (fun o => o.2.delivered))
    && (pipeStreams p).all (fun st => (kgetD [] st s.prod).isEmpty && (queueOfL s st).words.isEmpty
      && (moverOf s st).done.isEmpty)

/-- Steps 3 and 4: the queues, channels, settings, commit and views of a stream that stops. -/
def streamOff (s : State) (p : Nat) : State :=
  let s := (pipeStreams p).foldl closeStream s
  let s := { s with jobs := s.jobs.filter (fun j => !(j.src == p && (j.kind == 0 || j.kind == 1))) }
  let s := stopCommit (failAll s p 0x23) p
  let s := { s with started := s.started.filter (fun q => q != p) }
  let s := (List.range 4).foldl (fun s o => (freshStop s (4 * p + o)).setF (fOUT_FS_STATE_WRITING p o) 7) s
  let s := if s.fv (fKSCHED_STATUS_STATE p) = 3 then s else s.setF (fKSCHED_STATUS_STATE p) 0
  updPipe s p (fun x => { x with frames := [], refuse := false, stopCmd := none, moved := none })

/-- Delivery has ended, or 5 ms have passed. -/
def streamDrain (s : State) (p : Nat) : State :=
  match (pipeOf s p).stopCmd with
  | some c =>
    if streamDrained s p || (pipeOf s p).stopAt + 5000000 ≤ s.now then
      complete (streamOff s p) c 0x00 (s.rn (rCMT_FSN p))
    else s
  | none => s
def execStreamStopDrained (p : Nat) (s : State) : Out := .next (hub s (streamDrain s (p % 32)))

/-! ### Asynchronous stops (R362) -/

/-- The streams of a pipeline or canvas that are safety views. -/
def stopViews (s : State) (t : Nat) : List Nat :=
  (if t < 32 then (List.range 4).map (fun o => 4 * t + o) else [t]).filter (fun st => isSafety s st && (fresh s st).on)

/-- The stream of pipeline `p` stops without waiting. -/
def pipeAbort (s : State) (p code : Nat) : State :=
  let lost := stopViews s p
  let cmd := (pipeOf s p).stopCmd
  let s := streamOff (truncateOpen (updPipe s p (fun x => { x with refuse := true })) p) p
  let s := lost.foldl viewLost (s.setF ⟨rRING_STOPPED_PIPES, p, 1⟩ 1)
  let s := asyncPost s 0x80 p code
  match cmd with
  | some c => complete s c 0x00 (s.rn (rCMT_FSN p))
  | none => s

/-- Canvas `c` stops without waiting. -/
def canvasAbort (s : State) (c code : Nat) : State :=
  let lost := stopViews s (0x80 + c)
  let s := closeStream (canvasOff s c) (0x80 + c)
  let held := (canvasOf s c).frames.flatMap (fun f => f.latch.map (fun l => l.2.stream))
  let s := held.foldl updHeld (setCanvas s c { canvasOf s c with frames := [] })
  let s := lost.foldl viewLost (s.setF ⟨rRING_STOPPED_CANVASES, c, 1⟩ 1)
  asyncPost s 0x80 (0x80 + c) code

/-- The first stop that the device owes. -/
def asyncStop (s : State) : State :=
  match s.stops with
  | [] => s
  | (t, code) :: l =>
    let s := { s with stops := l }
    if t < 32 then (if s.started.contains t then pipeAbort s t code else s)
    else if s.on (fCV_ENABLE_EN (t - 0x80)) then canvasAbort s (t - 0x80) code else s
def execAsyncStreamStop (s : State) : Out := .next (hub s (asyncStop s))

/-! ### WINDING and DISPLAYED (R501 to R506) -/

def cmdWinding (s : State) (c : Cmd) : State :=
  if !unusedZero c false true true false then complete s c 0x04
  else
    let ((code, r0, r1), t) := windJudge s c.arg0 c.arg1
    complete t c code r0 r1
def execWinding (s : State) : Out := .next (hub s (isl s (onCmd s 0x30 cmdWinding)))

def cmdDisplayed (s : State) (c : Cmd) : State :=
  if !unusedZero c true true true false || 256 ≤ c.target then complete s c 0x04
  else
    let ((code, detail, age), t) := displayedJudge s c.target (c.arg0 % 2 ^ 32) (c.arg0 / 2 ^ 32) c.arg1
    complete t c code age 0 0 detail
def execDisplayed (s : State) : Out := .next (hub s (isl s (onCmd s 0x31 cmdDisplayed)))

end Sys2Proof.Machine
end

