-- ==== Sys2Proof/Machine/Dispatch.lean ====
section
/-!
DEFINITION. What each command does: one arm for each constructor, each a call of its meaning.
-/

namespace Sys2Proof.Machine

/-- The effect of a command on everything but the queue. -/
def exec (i : Instr) (s : State) : Host.Outcome State Fault Refusal :=
  match i with
  | .powerOn order porst perst => Sys2Proof.Machine.execPowerOn order porst perst s
  | .seqErrorRecordCommit => Sys2Proof.Machine.execSeqErrorRecordCommit s
  | .supplyLeavesTolerance r => Sys2Proof.Machine.execSupplyLeavesTolerance r s
  | .porstNFall => Sys2Proof.Machine.execPorstNFall s
  | .porstNRise s400 s200 s0 => Sys2Proof.Machine.execPorstNRise s400 s200 s0 s
  | .brownout r => Sys2Proof.Machine.execBrownout r s
  | .devReset v => Sys2Proof.Machine.execDevReset v s
  | .deviceResetEffect => Sys2Proof.Machine.execDeviceResetEffect s
  | .internalRelease => Sys2Proof.Machine.execInternalRelease s
  | .perstNFall => Sys2Proof.Machine.execPerstNFall s
  | .perstNRise => Sys2Proof.Machine.execPerstNRise s
  | .pcieDomainPerstTimeout => Sys2Proof.Machine.execPcieDomainPerstTimeout s
  | .hotReset => Sys2Proof.Machine.execHotReset s
  | .functionLevelReset => Sys2Proof.Machine.execFunctionLevelReset s
  | .trstNLow => Sys2Proof.Machine.execTrstNLow s
  | .hubClocksLocked => Sys2Proof.Machine.execHubClocksLocked s
  | .optionalRailsRecorded sportCal laneCal pcieCal fref => Sys2Proof.Machine.execOptionalRailsRecorded sportCal laneCal pcieCal fref s
  | .atticBankChosen b0 b1 => Sys2Proof.Machine.execAtticBankChosen b0 b1 s
  | .islandFirmwareRunning cfg0 cfg1 idA idB keyOk lastBoot lastSeq held newestCode challenge => Sys2Proof.Machine.execIslandFirmwareRunning cfg0 cfg1 idA idB keyOk lastBoot lastSeq held newestCode challenge s
  | .pcieControllerReady => Sys2Proof.Machine.execPcieControllerReady s
  | .larderPoolInitialised hubOk stuck => Sys2Proof.Machine.execLarderPoolInitialised hubOk stuck s
  | .startupTestPassed ok => Sys2Proof.Machine.execStartupTestPassed ok s
  | .convertersCalibrated a b aon => Sys2Proof.Machine.execConvertersCalibrated a b aon s
  | .lp5xStacksTrained ok0 ok1 => Sys2Proof.Machine.execLp5xStacksTrained ok0 ok1 s
  | .tilePowered => Sys2Proof.Machine.execTilePowered s
  | .tileTestDone n failed dispatcherOk shelfOk tadc => Sys2Proof.Machine.execTileTestDone n failed dispatcherOk shelfOk tadc s
  | .kernelLibraryLoaded ok kernels => Sys2Proof.Machine.execKernelLibraryLoaded ok kernels s
  | .serviceSetEvaluated => Sys2Proof.Machine.execServiceSetEvaluated s
  | .ltssmDetect => Sys2Proof.Machine.execLtssmDetect s
  | .linkDlActive rate width flit => Sys2Proof.Machine.execLinkDlActive rate width flit s
  | .rateChangeComplete rate flit => Sys2Proof.Machine.execRateChangeComplete rate flit s
  | .configReady => Sys2Proof.Machine.execConfigReady s
  | .configurationRequest write off v be => Sys2Proof.Machine.execConfigurationRequest write off v be s
  | .sportEnable n v => Sys2Proof.Machine.execSportEnable n v s
  | .sportSoftReset n v => Sys2Proof.Machine.execSportSoftReset n v s
  | .stopStateExit n clock => Sys2Proof.Machine.execStopStateExit n clock s
  | .ulpsEntry n => Sys2Proof.Machine.execUlpsEntry n s
  | .deskewSequence n => Sys2Proof.Machine.execDeskewSequence n s
  | .frameStartPacket n vc num hdr => Sys2Proof.Machine.execFrameStartPacket n vc num hdr s
  | .lineStartPacket n vc num hdr => Sys2Proof.Machine.execLineStartPacket n vc num hdr s
  | .longPacket n vc dt bytes hdr crcOk overflow => Sys2Proof.Machine.execLongPacket n vc dt bytes hdr crcOk overflow s
  | .genericShortPacket n hdr => Sys2Proof.Machine.execGenericShortPacket n hdr s
  | .frameEndPacket n vc hdr => Sys2Proof.Machine.execFrameEndPacket n vc hdr s
  | .phyLinkLost n clock => Sys2Proof.Machine.execPhyLinkLost n clock s
  | .frameTimeout n k => Sys2Proof.Machine.execFrameTimeout n k s
  | .lportVsyncActive m => Sys2Proof.Machine.execLportVsyncActive m s
  | .lportLine m words overflow => Sys2Proof.Machine.execLportLine m words overflow s
  | .lportVsyncInactive m => Sys2Proof.Machine.execLportVsyncInactive m s
  | .mclkWrite n v => Sys2Proof.Machine.execMclkWrite n v s
  | .xrstPulse n v => Sys2Proof.Machine.execXrstPulse n v s
  | .xrstPulseEnd n => Sys2Proof.Machine.execXrstPulseEnd n s
  | .ilsSample j code => Sys2Proof.Machine.execIlsSample j code s
  | .dialSet v => Sys2Proof.Machine.execDialSet v s
  | .rateTrimWrite v => Sys2Proof.Machine.execRateTrimWrite v s
  | .dialSourceWrite v => Sys2Proof.Machine.execDialSourceWrite v s
  | .followHoldTimeout => Sys2Proof.Machine.execFollowHoldTimeout s
  | .trigRun p v => Sys2Proof.Machine.execTrigRun p v s
  | .trigRunClear p v => Sys2Proof.Machine.execTrigRunClear p v s
  | .trigApply p v => Sys2Proof.Machine.execTrigApply p v s
  | .trigPeriodBoundary p => Sys2Proof.Machine.execTrigPeriodBoundary p s
  | .trigEdgeCompute p => Sys2Proof.Machine.execTrigEdgeCompute p s
  | .trigRisingEdge p => Sys2Proof.Machine.execTrigRisingEdge p s
  | .trigFallingEdge p => Sys2Proof.Machine.execTrigFallingEdge p s
  | .illWindowOpen p => Sys2Proof.Machine.execIllWindowOpen p s
  | .illWindowClose p => Sys2Proof.Machine.execIllWindowClose p s
  | .illMaxExpiry p => Sys2Proof.Machine.execIllMaxExpiry p s
  | .groupStart => Sys2Proof.Machine.execGroupStart s
  | .groupStop => Sys2Proof.Machine.execGroupStop s
  | .syncInEdge m rising => Sys2Proof.Machine.execSyncInEdge m rising s
  | .syncEdgeMissed m => Sys2Proof.Machine.execSyncEdgeMissed m s
  | .sccEnable n v check => Sys2Proof.Machine.execSccEnable n v check s
  | .sccDisable n v begun => Sys2Proof.Machine.execSccDisable n v begun s
  | .sccSoftReset n v begun check => Sys2Proof.Machine.execSccSoftReset n v begun check s
  | .sccRecover n v check => Sys2Proof.Machine.execSccRecover n v check s
  | .sccRecoveryWaitEnd n check => Sys2Proof.Machine.execSccRecoveryWaitEnd n check s
  | .sccTransactionStart n => Sys2Proof.Machine.execSccTransactionStart n s
  | .sccTransactionEnd n nackAt byte => Sys2Proof.Machine.execSccTransactionEnd n nackAt byte s
  | .arbitrationLost n begun => Sys2Proof.Machine.execArbitrationLost n begun s
  | .busErrorDetected n begun => Sys2Proof.Machine.execBusErrorDetected n begun s
  | .sclStretchTimeout n begun => Sys2Proof.Machine.execSclStretchTimeout n begun s
  | .busyTimeout n => Sys2Proof.Machine.execBusyTimeout n s
  | .lockRequest n => Sys2Proof.Machine.execLockRequest n s
  | .lockEnd n => Sys2Proof.Machine.execLockEnd n s
  | .lockExpiry n => Sys2Proof.Machine.execLockExpiry n s
  | .mgtStatus io => Sys2Proof.Machine.execMgtStatus io s
  | .mgtIdentify io => Sys2Proof.Machine.execMgtIdentify io s
  | .mgtBootStatus io => Sys2Proof.Machine.execMgtBootStatus io s
  | .mgtBootFault io => Sys2Proof.Machine.execMgtBootFault io s
  | .mgtResetCauseRead len broken => Sys2Proof.Machine.execMgtResetCauseRead len broken s
  | .mgtResetCauseWrite bytes broken => Sys2Proof.Machine.execMgtResetCauseWrite bytes broken s
  | .mgtTileWheels io => Sys2Proof.Machine.execMgtTileWheels io s
  | .mgtAlertStatus io => Sys2Proof.Machine.execMgtAlertStatus io s
  | .mgtAlertClear bytes broken => Sys2Proof.Machine.execMgtAlertClear bytes broken s
  | .mgtAlertMaskRead len broken => Sys2Proof.Machine.execMgtAlertMaskRead len broken s
  | .mgtAlertMaskWrite bytes broken => Sys2Proof.Machine.execMgtAlertMaskWrite bytes broken s
  | .mgtMirrorAddrRead len broken => Sys2Proof.Machine.execMgtMirrorAddrRead len broken s
  | .mgtMirrorAddrWrite bytes broken => Sys2Proof.Machine.execMgtMirrorAddrWrite bytes broken s
  | .mgtMirrorRead io => Sys2Proof.Machine.execMgtMirrorRead io s
  | .mgtMirrorWrite bytes broken => Sys2Proof.Machine.execMgtMirrorWrite bytes broken s
  | .mgtLastError io => Sys2Proof.Machine.execMgtLastError io s
  | .mgtCounters io => Sys2Proof.Machine.execMgtCounters io s
  | .mgtConfigRead len broken => Sys2Proof.Machine.execMgtConfigRead len broken s
  | .mgtConfigWrite bytes broken => Sys2Proof.Machine.execMgtConfigWrite bytes broken s
  | .mgtUnsupportedCommand => Sys2Proof.Machine.execMgtUnsupportedCommand s
  | .alertResponseRead wins => Sys2Proof.Machine.execAlertResponseRead wins s
  | .mgtSclTimeout => Sys2Proof.Machine.execMgtSclTimeout s
  | .escProfileLoad p => Sys2Proof.Machine.execEscProfileLoad p s
  | .escFlush p => Sys2Proof.Machine.execEscFlush p s
  | .writeWindowOpen p => Sys2Proof.Machine.execWriteWindowOpen p s
  | .burstStart n => Sys2Proof.Machine.execBurstStart n s
  | .burstLatestStartPassed p => Sys2Proof.Machine.execBurstLatestStartPassed p s
  | .commitCheck => Sys2Proof.Machine.execCommitCheck s
  | .plateLoad => Sys2Proof.Machine.execPlateLoad s
  | .freshnessBudgetExpiry stream => Sys2Proof.Machine.execFreshnessBudgetExpiry stream s
  | .frameDelivered stream => Sys2Proof.Machine.execFrameDelivered stream s
  | .canvasEnable c v => Sys2Proof.Machine.execCanvasEnable c v s
  | .canvasFrameStart c => Sys2Proof.Machine.execCanvasFrameStart c s
  | .canvasSliceRelease c pieces => Sys2Proof.Machine.execCanvasSliceRelease c pieces s
  | .jobRelease p out twin pieces => Sys2Proof.Machine.execJobRelease p out twin pieces s
  | .pieceStart n w => Sys2Proof.Machine.execPieceStart n w s
  | .pieceEnd n w e => Sys2Proof.Machine.execPieceEnd n w e s
  | .pieceTimeout n w => Sys2Proof.Machine.execPieceTimeout n w s
  | .twinTallyArrival stream => Sys2Proof.Machine.execTwinTallyArrival stream s
  | .twinTallyDeadline stream => Sys2Proof.Machine.execTwinTallyDeadline stream s
  | .tileFenceSoftware n v => Sys2Proof.Machine.execTileFenceSoftware n v s
  | .tileFence n cause => Sys2Proof.Machine.execTileFence n cause s
  | .readmissionPlacement => Sys2Proof.Machine.execReadmissionPlacement s
  | .larderWordWrite stream => Sys2Proof.Machine.execLarderWordWrite stream s
  | .pushData q v => Sys2Proof.Machine.execPushData q v s
  | .pushDataEnd q v => Sys2Proof.Machine.execPushDataEnd q v s
  | .popRead g size err => Sys2Proof.Machine.execPopRead g size err s
  | .larderAuditDone q bad => Sys2Proof.Machine.execLarderAuditDone q bad s
  | .queueFlush q cfg v => Sys2Proof.Machine.execQueueFlush q cfg v s
  | .larderFlushDone q => Sys2Proof.Machine.execLarderFlushDone q s
  | .queueEnable q v => Sys2Proof.Machine.execQueueEnable q v s
  | .hoistStart c v => Sys2Proof.Machine.execHoistStart c v s
  | .hoistStop c v => Sys2Proof.Machine.execHoistStop c v s
  | .hoistStopDone c => Sys2Proof.Machine.execHoistStopDone c s
  | .hoistEnd c => Sys2Proof.Machine.execHoistEnd c s
  | .hoistMove c => Sys2Proof.Machine.execHoistMove c s
  | .hoistLoop c => Sys2Proof.Machine.execHoistLoop c s
  | .hoistWait c => Sys2Proof.Machine.execHoistWait c s
  | .hoistSignal c => Sys2Proof.Machine.execHoistSignal c s
  | .hoistLoad c => Sys2Proof.Machine.execHoistLoad c s
  | .hoistAdd c => Sys2Proof.Machine.execHoistAdd c s
  | .hoistIllegalInstruction c => Sys2Proof.Machine.execHoistIllegalInstruction c s
  | .hoistWaitPass c => Sys2Proof.Machine.execHoistWaitPass c s
  | .hoistWaitLimit c => Sys2Proof.Machine.execHoistWaitLimit c s
  | .hoistBeat port errs => Sys2Proof.Machine.execHoistBeat port errs s
  | .hoistReadCompletion tag => Sys2Proof.Machine.execHoistReadCompletion tag s
  | .hoistWriteAck tag => Sys2Proof.Machine.execHoistWriteAck tag s
  | .hoistErrorResponse tag => Sys2Proof.Machine.execHoistErrorResponse tag s
  | .hoistRetry tag => Sys2Proof.Machine.execHoistRetry tag s
  | .hoistCompletionTimeout tag => Sys2Proof.Machine.execHoistCompletionTimeout tag s
  | .streamMoverPacket stream desc errs => Sys2Proof.Machine.execStreamMoverPacket stream desc errs s
  | .crTail n v => Sys2Proof.Machine.execCrTail n v s
  | .cqHead j v => Sys2Proof.Machine.execCqHead j v s
  | .srTail k v => Sys2Proof.Machine.execSrTail k v s
  | .kick v => Sys2Proof.Machine.execKick v s
  | .shadowPoll => Sys2Proof.Machine.execShadowPoll s
  | .shadowReadDone r => Sys2Proof.Machine.execShadowReadDone r s
  | .ringEnable n v => Sys2Proof.Machine.execRingEnable n v s
  | .commandFetch entry payload => Sys2Proof.Machine.execCommandFetch entry payload s
  | .nop => Sys2Proof.Machine.execNop s
  | .query => Sys2Proof.Machine.execQuery s
  | .streamBind => Sys2Proof.Machine.execStreamBind s
  | .streamUnbind => Sys2Proof.Machine.execStreamUnbind s
  | .streamStart => Sys2Proof.Machine.execStreamStart s
  | .streamStop => Sys2Proof.Machine.execStreamStop s
  | .streamStopDrained p => Sys2Proof.Machine.execStreamStopDrained p s
  | .settings => Sys2Proof.Machine.execSettings s
  | .commit => Sys2Proof.Machine.execCommit s
  | .winding => Sys2Proof.Machine.execWinding s
  | .displayed => Sys2Proof.Machine.execDisplayed s
  | .asyncStreamStop => Sys2Proof.Machine.execAsyncStreamStop s
  | .coalesceTimeout j => Sys2Proof.Machine.execCoalesceTimeout j s
  | .intRouteWrite src v => Sys2Proof.Machine.execIntRouteWrite src v s
  | .msixUnmask vec => Sys2Proof.Machine.execMsixUnmask vec s
  | .bar4Read x len => Sys2Proof.Machine.execBar4Read x len s
  | .bar4Write x bytes poison => Sys2Proof.Machine.execBar4Write x bytes poison s
  | .bar2Write => Sys2Proof.Machine.execBar2Write s
  | .unsupportedRequest write => Sys2Proof.Machine.execUnsupportedRequest write s
  | .pcieCompletionReceived k p => Sys2Proof.Machine.execPcieCompletionReceived k p s
  | .l0sEntry => Sys2Proof.Machine.execL0sEntry s
  | .l0sExit => Sys2Proof.Machine.execL0sExit s
  | .l1Entry => Sys2Proof.Machine.execL1Entry s
  | .l1Exit => Sys2Proof.Machine.execL1Exit s
  | .clkreqChange asserted => Sys2Proof.Machine.execClkreqChange asserted s
  | .l0pNarrow w => Sys2Proof.Machine.execL0pNarrow w s
  | .l0pWiden w => Sys2Proof.Machine.execL0pWiden w s
  | .d3hotEntry => Sys2Proof.Machine.execD3hotEntry s
  | .d0Return => Sys2Proof.Machine.execD0Return s
  | .postedAliasWrite n a bytes => Sys2Proof.Machine.execPostedAliasWrite n a bytes s
  | .postedAliasRead n a size => Sys2Proof.Machine.execPostedAliasRead n a size s
  | .splitReadDone t => Sys2Proof.Machine.execSplitReadDone t s
  | .collectRead t => Sys2Proof.Machine.execCollectRead t s
  | .ticketDiscard t => Sys2Proof.Machine.execTicketDiscard t s
  | .syncedAliasWrite n a bytes => Sys2Proof.Machine.execSyncedAliasWrite n a bytes s
  | .syncedAliasRead n a size => Sys2Proof.Machine.execSyncedAliasRead n a size s
  | .syncedReadDone n => Sys2Proof.Machine.execSyncedReadDone n s
  | .syncedReadHoldExpired n => Sys2Proof.Machine.execSyncedReadHoldExpired n s
  | .fabricWindowWrite w x bytes => Sys2Proof.Machine.execFabricWindowWrite w x bytes s
  | .fabricWindowRead w x len => Sys2Proof.Machine.execFabricWindowRead w x len s
  | .fabricWindowResponse tag => Sys2Proof.Machine.execFabricWindowResponse tag s
  | .fabricWindowHoldExpired tag => Sys2Proof.Machine.execFabricWindowHoldExpired tag s
  | .outWinCtrlWrite w v => Sys2Proof.Machine.execOutWinCtrlWrite w v s
  | .laneEnable m v => Sys2Proof.Machine.execLaneEnable m v s
  | .lanePllLocked m => Sys2Proof.Machine.execLanePllLocked m s
  | .signalDetectAssert m => Sys2Proof.Machine.execSignalDetectAssert m s
  | .signalDetectDeassert m => Sys2Proof.Machine.execSignalDetectDeassert m s
  | .adaptationDone m ctle gain dfe1 => Sys2Proof.Machine.execAdaptationDone m ctle gain dfe1 s
  | .adaptationTimeout m => Sys2Proof.Machine.execAdaptationTimeout m s
  | .cdrLockLost m => Sys2Proof.Machine.execCdrLockLost m s
  | .cdrRelock m => Sys2Proof.Machine.execCdrRelock m s
  | .frefLost => Sys2Proof.Machine.execFrefLost s
  | .frefRestored => Sys2Proof.Machine.execFrefRestored s
  | .txEqWrite m v => Sys2Proof.Machine.execTxEqWrite m v s
  | .laneStateRequest m tx => Sys2Proof.Machine.execLaneStateRequest m tx s
  | .laneWakeDone m tx => Sys2Proof.Machine.execLaneWakeDone m tx s
  | .laneFabricEn m v => Sys2Proof.Machine.execLaneFabricEn m v s
  | .patgenEnable m v => Sys2Proof.Machine.execPatgenEnable m v s
  | .patchkEnable m v c => Sys2Proof.Machine.execPatchkEnable m v c s
  | .patchkClear m v c => Sys2Proof.Machine.execPatchkClear m v c s
  | .patchkSnap m v c => Sys2Proof.Machine.execPatchkSnap m v c s
  | .checkerSync m => Sys2Proof.Machine.execCheckerSync m s
  | .checkerSyncLoss m c => Sys2Proof.Machine.execCheckerSyncLoss m c s
  | .injectOne m v => Sys2Proof.Machine.execInjectOne m v s
  | .injectRate m => Sys2Proof.Machine.execInjectRate m s
  | .loopbackWrite m v => Sys2Proof.Machine.execLoopbackWrite m v s
  | .fabricEnable v => Sys2Proof.Machine.execFabricEnable v s
  | .portTrained k => Sys2Proof.Machine.execPortTrained k s
  | .portTrainingTimeout k => Sys2Proof.Machine.execPortTrainingTimeout k s
  | .portRetrain k => Sys2Proof.Machine.execPortRetrain k s
  | .helloSend k => Sys2Proof.Machine.execHelloSend k s
  | .helloReceived k h => Sys2Proof.Machine.execHelloReceived k h s
  | .helloTimeout k => Sys2Proof.Machine.execHelloTimeout k s
  | .authMessage k m => Sys2Proof.Machine.execAuthMessage k m s
  | .authTimeout k => Sys2Proof.Machine.execAuthTimeout k s
  | .heldExpiry k => Sys2Proof.Machine.execHeldExpiry k s
  | .flitReceived k ok kind fseq unknown => Sys2Proof.Machine.execFlitReceived k ok kind fseq unknown s
  | .ackSend k => Sys2Proof.Machine.execAckSend k s
  | .ackReceived k fseq => Sys2Proof.Machine.execAckReceived k fseq s
  | .nakReceived k fseq => Sys2Proof.Machine.execNakReceived k fseq s
  | .ackTimeout k => Sys2Proof.Machine.execAckTimeout k s
  | .rootStable => Sys2Proof.Machine.execRootStable s
  | .idClaim k serial seq req => Sys2Proof.Machine.execIdClaim k serial seq req s
  | .idGrant k root seq serial id => Sys2Proof.Machine.execIdGrant k root seq serial id s
  | .fabricPacketForward k p => Sys2Proof.Machine.execFabricPacketForward k p s
  | .fabricRequestReceived k p targetError => Sys2Proof.Machine.execFabricRequestReceived k p targetError s
  | .fabricResponseReceived k p => Sys2Proof.Machine.execFabricResponseReceived k p s
  | .fabricRequestTimeout tag => Sys2Proof.Machine.execFabricRequestTimeout tag s
  | .inWinCtrlWrite w v => Sys2Proof.Machine.execInWinCtrlWrite w v s
  | .peerTailPoll stream block desc => Sys2Proof.Machine.execPeerTailPoll stream block desc s
  | .timeSyncExchange => Sys2Proof.Machine.execTimeSyncExchange s
  | .timeReq k turn => Sys2Proof.Machine.execTimeReq k turn s
  | .timeRsp k t2 t3 est valid => Sys2Proof.Machine.execTimeRsp k t2 t3 est valid s
  | .portIdleSleep k => Sys2Proof.Machine.execPortIdleSleep k s
  | .sleepNotice k state => Sys2Proof.Machine.execSleepNotice k state s
  | .portWake k => Sys2Proof.Machine.execPortWake k s
  | .tallyStart u v => Sys2Proof.Machine.execTallyStart u v s
  | .tallyDataWrite u bytes => Sys2Proof.Machine.execTallyDataWrite u bytes s
  | .tallyParityError u => Sys2Proof.Machine.execTallyParityError u s
  | .calStart c v => Sys2Proof.Machine.execCalStart c v s
  | .adcCalibrationDone c r => Sys2Proof.Machine.execAdcCalibrationDone c r s
  | .adcConversionEnd c raw => Sys2Proof.Machine.execAdcConversionEnd c raw s
  | .go c v => Sys2Proof.Machine.execGo c v s
  | .adcUrgentTrigger c => Sys2Proof.Machine.execAdcUrgentTrigger c s
  | .adcConversionStuck c => Sys2Proof.Machine.execAdcConversionStuck c s
  | .aadcPowerUp => Sys2Proof.Machine.execAadcPowerUp s
  | .ilsLatchClear v => Sys2Proof.Machine.execIlsLatchClear v s
  | .sokHalfPeriod measuredUs followed => Sys2Proof.Machine.execSokHalfPeriod measuredUs followed s
  | .hardwareForcedLow code => Sys2Proof.Machine.execHardwareForcedLow code s
  | .islandSelfTest result => Sys2Proof.Machine.execIslandSelfTest result s
  | .residueCheckerSelfTest n w ok => Sys2Proof.Machine.execResidueCheckerSelfTest n w ok s
  | .memoryScrub found => Sys2Proof.Machine.execMemoryScrub found s
  | .faultCodeReceived code detail => Sys2Proof.Machine.execFaultCodeReceived code detail s
  | .heartbeatStart => Sys2Proof.Machine.execHeartbeatStart s
  | .release v => Sys2Proof.Machine.execRelease v s
  | .windingDeadline => Sys2Proof.Machine.execWindingDeadline s
  | .displayBudgetExpiry stream => Sys2Proof.Machine.execDisplayBudgetExpiry stream s
  | .tempWarnRearm => Sys2Proof.Machine.execTempWarnRearm s
  | .safetyViewsWrite displayReq n v => Sys2Proof.Machine.execSafetyViewsWrite displayReq n v s
  | .logCommit => Sys2Proof.Machine.execLogCommit s
  | .logIndex v => Sys2Proof.Machine.execLogIndex v s
  | .getVersion => Sys2Proof.Machine.execGetVersion s
  | .getCapabilities => Sys2Proof.Machine.execGetCapabilities s
  | .negotiateAlgorithms => Sys2Proof.Machine.execNegotiateAlgorithms s
  | .getDigests => Sys2Proof.Machine.execGetDigests s
  | .getCertificate slot off len => Sys2Proof.Machine.execGetCertificate slot off len s
  | .challenge slot => Sys2Proof.Machine.execChallenge slot s
  | .getMeasurements n signed => Sys2Proof.Machine.execGetMeasurements n signed s
  | .keyExchange => Sys2Proof.Machine.execKeyExchange s
  | .finish id ok => Sys2Proof.Machine.execFinish id ok s
  | .heartbeat id => Sys2Proof.Machine.execHeartbeat id s
  | .keyUpdate id => Sys2Proof.Machine.execKeyUpdate id s
  | .endSession id => Sys2Proof.Machine.execEndSession id s
  | .unsupportedSpdmRequest => Sys2Proof.Machine.execUnsupportedSpdmRequest s
  | .gmacBind v => Sys2Proof.Machine.execGmacBind v s
  | .gmacEnable v => Sys2Proof.Machine.execGmacEnable v s
  | .atticUpdateStart v => Sys2Proof.Machine.execAtticUpdateStart v s
  | .atticImageChecked sigOk => Sys2Proof.Machine.execAtticImageChecked sigOk s
  | .atticSectorErased => Sys2Proof.Machine.execAtticSectorErased s
  | .atticPageProgrammed => Sys2Proof.Machine.execAtticPageProgrammed s
  | .atticReadbackDone held => Sys2Proof.Machine.execAtticReadbackDone held s
  | .readAddr v => Sys2Proof.Machine.execReadAddr v s
  | .domainOnRequest d => Sys2Proof.Machine.execDomainOnRequest d s
  | .domainSelfRefreshRequest d => Sys2Proof.Machine.execDomainSelfRefreshRequest d s
  | .domainOffRequest d => Sys2Proof.Machine.execDomainOffRequest d s
  | .domainDrained d => Sys2Proof.Machine.execDomainDrained d s
  | .domainForced d => Sys2Proof.Machine.execDomainForced d s
  | .domainOffDone d => Sys2Proof.Machine.execDomainOffDone d s
  | .domainPowerUpDone d => Sys2Proof.Machine.execDomainPowerUpDone d s
  | .standbyEnter v => Sys2Proof.Machine.execStandbyEnter v s
  | .standbyReached => Sys2Proof.Machine.execStandbyReached s
  | .clockMonitorWindow n khz ringKhz => Sys2Proof.Machine.execClockMonitorWindow n khz ringKhz s
  | .registerWrite req off bytes poison begun check c => Sys2Proof.Machine.execRegisterWrite req off bytes poison begun check c s
  | .counterReadClear req off size => Sys2Proof.Machine.execCounterReadClear req off size s
  | .lowerHalfRead req off => Sys2Proof.Machine.execLowerHalfRead req off s
  | .stopStateEntry n clock => Sys2Proof.Machine.execStopStateEntry n clock s
  | .ltssmRecoveryEntry => Sys2Proof.Machine.execLtssmRecoveryEntry s
  | .badTlpReceived e => Sys2Proof.Machine.execBadTlpReceived e s
  | .doeDiscovery index => Sys2Proof.Machine.execDoeDiscovery index s

end Sys2Proof.Machine
end

