-- ==== Sys2Proof/Machine/Tick.lean ====
section
/-!
DEFINITION. The passing of time while no command waits: one nanosecond, and the dial's share of it (spec/05_regulator.md
R99, R102, R115).
-/

namespace Sys2Proof.Machine

/-- One nanosecond passes; dial time runs while the hub's clocks do. -/
def tick (s : State) : State :=
  let s := { s with now := s.now + 1 }
  hub s { s with regu := dialTick s.regu (dialRate s) }

end Sys2Proof.Machine
end

