-- ==== Sys2Proof/Machine/Step.lean ====
section
/-!
DEFINITION. One step: the command at the front of the queue takes effect; with no command waiting one nanosecond passes.
-/

namespace Sys2Proof.Machine

/-- The state with the commands `q` waiting. -/
def State.withPending (s : State) (q : List Instr) : State := { s with pending := q }

/-- The first waiting command takes effect on the state whose queue is the rest. -/
def step (s : State) : Host.Outcome State Fault Refusal :=
  match s.pending with
  | [] => .next (tick s)
  | c :: q => exec c (s.withPending q)

/-- The command that `w` spells comes to the front of the queue. -/
def State.withFetchWord (s : State) (nbits w : Nat) : State :=
  match decodeTableWord nbits w with
  | some c => s.withPending (c :: s.pending)
  | none => s

end Sys2Proof.Machine
end

