-- ==== Sys2Proof/Safety.lean ====
section
/-!
DEFINITION. What a safe run is, in the terms that statements use: a command that answers a next state, the parts of the
state, and the canonical forms of memory and of the register maps.
-/

namespace Sys2Proof

/-- A step that is neither a fault nor a refusal, to the state `t`. -/
def Steps (s t : Machine.State) : Prop := Machine.step s = .next t

/-- Command `c` on `s` answers a next state, of which `P` holds. -/
def Answers (c : Instr) (s : Machine.State) (P : Machine.State → Prop) : Prop :=
  ∃ t, Machine.exec c s = .next t ∧ P t

/-- The keys of the register maps rise strictly, and LP5X memory has its canonical form. -/
def Canonical (s : Machine.State) : Prop :=
  Machine.ksorted s.regs = true ∧ Machine.ksorted s.act = true ∧ Machine.Memory.wf s.mem

/-- Every byte of LP5X memory outside the `n` bytes from `a` reads in `t` as it read in `s`. -/
def SameMemBut (s t : Machine.State) (a n : Nat) : Prop :=
  ∀ x, x < a ∨ a + n ≤ x → Machine.memByte t x = Machine.memByte s x

/-- Every register outside the list reads in `t` as it read in `s`. -/
def SameRegsBut (s t : Machine.State) (l : List Nat) : Prop := ∀ o, o ∉ l → t.rn o = s.rn o

/-- The pending state of interrupts: INT_ROUTE and the MSI-X pending bits, which follow every event (R371, R372). -/
def interruptReg (o : Nat) : Bool :=
  (decide (Machine.rRING_INT_ROUTE 0 ≤ o) && decide (o < Machine.rRING_INT_ROUTE 512))
    || (decide (Machine.rPBA_PENDING 0 ≤ o) && decide (o < Machine.rPBA_PENDING 64))

/-- Every register outside the list reads in `t` as it read in `s`, the pending state of interrupts apart. -/
def SameButEvents (s t : Machine.State) (l : List Nat) : Prop := ∀ o, o ∉ l → interruptReg o = false → t.rn o = s.rn o

/-- The device is powered and boots. -/
def Boots (s : Machine.State) : Prop := s.pow.powered = true ∧ s.pow.phase = .booting

/-- The boot has failed with `code`: every output is held in reset, and the hub has stopped (R57). -/
def BootFailed (t : Machine.State) (code : Nat) : Prop :=
  t.pow.phase = .failed ∧ t.pow.hubOn = false ∧ t.rn Machine.rGLB_BOOT_FAULT = code
    ∧ t.fv Machine.fGLB_RESET_CAUSE_BOOT_FAILED = 1 ∧ t.fv Machine.fMGT_STATUS_ACTIVE = 0

/-- The fetched command `c` has opcode `op`, has not completed, and is the one that starts next. -/
def Starts (s : Machine.State) (c : Machine.Cmd) (op : Nat) : Prop :=
  Machine.nextCmd s = some c ∧ c.opcode = op ∧ s.ring.opened.any (fun x => x.id == c.id) = true

/-- Command `c` has completed: it is no longer open, and everything else that was open still is. -/
def Done (s t : Machine.State) (c : Machine.Cmd) : Prop :=
  t.ring.opened = s.ring.opened.filter (fun x => x.id != c.id)

/-- The completion ring of command `c` takes an entry at once (R355, R356). -/
def Room (s : Machine.State) (c : Machine.Cmd) : Prop :=
  Machine.cqTakes s (s.fv (Machine.fCR_CFG_CQ c.ring)) = true
    ∧ (Machine.cqOf s (s.fv (Machine.fCR_CFG_CQ c.ring))).hold = []
    ∧ Machine.cqFull s (s.fv (Machine.fCR_CFG_CQ c.ring)) = false ∧ Machine.hostUp s = true

/-- The last write to the host is the completion entry of command `c` with `status` and results, at the tail of its
completion ring, with the PHASE that the tail gives (R354). -/
def Wrote (s t : Machine.State) (c : Machine.Cmd) (status r0 r1 r2 detail : Nat) : Prop :=
  let j := s.fv (Machine.fCR_CFG_CQ c.ring)
  let tail := s.fv (Machine.fCQ_TAIL_INDEX j)
  t.wire.getLast? = some ⟨Machine.cqBase s j + tail % Machine.cqSize s j * 32,
    Machine.cqBytes { cid := c.cid, kind := 0, idx := c.ring, status := status, opcode := c.opcode, r0 := r0, r1 := r1,
                      r2 := r2, detail := detail, irq := Machine.bitAt c.flags 0 }
      (s.fv (Machine.fCR_HEAD_INDEX c.ring)) (Machine.b2n (tail / Machine.cqSize s j % 2 == 0)), false⟩

/-- Message `m` has been given to port `k` of the fabric: it waits there, or it has left. -/
def Given (t : Machine.State) (k : Nat) (m : FabMsg) : Prop :=
  m ∈ (Machine.fabPort t k).waiting ∨ (k, m) ∈ t.fabric.sent

/-- Window `w` admits requests of the device with fabric ID `src` (R450). -/
def srcAllowed (s : Machine.State) (w src : Nat) : Bool :=
  if src < 32 then Machine.bitAt (s.rn (Machine.rFABRIC_IN_WIN_SRC_LO w)) src
  else Machine.bitAt (s.rn (Machine.rFABRIC_IN_WIN_SRC_HI w)) (src - 32)

/-- An answer with `status` to the request `p` has been given to port `k` (R438). -/
def Answered (t : Machine.State) (k : Nat) (p : FabPacket) (status : Nat) (data : List Byte) : Prop :=
  ∃ q : FabPacket, Given t k (.packet q) ∧ q.vc = 1 ∧ q.typ = (if p.typ = 1 then 9 else 8) ∧ q.dst = p.src
    ∧ q.tag = p.tag ∧ q.status = status ∧ q.data = data

/-- Channel `c` of the Hoist is about to execute the legal instruction of operation `op` with words `a` and `b`. -/
def HoistAt (s : Machine.State) (c op a b : Nat) : Prop :=
  192 ≤ c ∧ c < 256 ∧ Machine.instrReady s c = true ∧ Machine.instrOk s c = true ∧ Machine.instr0 s c = a
    ∧ Machine.instr1 s c = b ∧ Machine.bitsOf a 0 4 = op

/-- Channel `c` has halted with `code` and fault address `addr` (R339). -/
def HoistHalted (t : Machine.State) (c code addr : Nat) : Prop :=
  Machine.hState t c = 5 ∧ t.rn (Machine.rHOIST_FAULT c) = Machine.faultCode 0x15 c code
    ∧ t.pair (Machine.rHOIST_FAULT_ADDR_LO c) (Machine.rHOIST_FAULT_ADDR_HI c) = addr
    ∧ t.fv (Machine.fHOIST_EVENT_HALTED c) = 1
    ∧ t.fv ⟨Machine.rHOISTG_HALTED (c / 32), c % 32, 1⟩ = 1

/-- A request of the host reaches the device: the hub runs, the link is DL_Active, and CONFIG_READY has passed (R54). -/
def HostAsks (s : Machine.State) : Prop :=
  s.pow.hubOn = true ∧ s.pcie.configReady = true ∧ s.on Machine.fPCIE_LINK_STATUS_DL_ACTIVE = true

/-- A failure has entered the error log at ERRLOG_NEXT: kind, port or window, address, data, result and cause (R406). -/
def Logged (s t : Machine.State) (kind port addr data result cause : Nat) : Prop :=
  let e := s.fv Machine.fBRIDGE_STATUS_ERRLOG_NEXT
  t.rn (Machine.rBRIDGE_ERRLOG_INFO e) = kind + 4 + port * 2 ^ 8 + result * 2 ^ 16 + cause * 2 ^ 20
    ∧ t.pair (Machine.rBRIDGE_ERRLOG_ADDR_LO e) (Machine.rBRIDGE_ERRLOG_ADDR_HI e) = addr % 2 ^ 64
    ∧ t.pair (Machine.rBRIDGE_ERRLOG_DATA_LO e) (Machine.rBRIDGE_ERRLOG_DATA_HI e) = data % 2 ^ 64
    ∧ t.pair (Machine.rBRIDGE_ERRLOG_TIME_LO e) (Machine.rBRIDGE_ERRLOG_TIME_HI e) = s.dial % 2 ^ 64
    ∧ t.fv Machine.fBRIDGE_STATUS_ERRLOG_NEXT = (e + 1) % 16
    ∧ (s.fv (Machine.fBRIDGE_ERRLOG_INFO_VALID e) = 1 → t.fv Machine.fBRIDGE_STATUS_WRAPPED = 1)
    ∧ t.fv Machine.fBRIDGE_CNT_A_FAILED = Machine.satTo 0xFFFF (s.fv Machine.fBRIDGE_CNT_A_FAILED + 1)

/-- An access of path `q` reaches the registers: the hub runs, and a request of the host reaches the device. -/
def Reaches (s : Machine.State) (q : Requester) : Prop := s.pow.hubOn = true ∧ (q = .host → HostAsks s)

/-- A refused access at `off` by path `q` is recorded: its offset and path in ACCESS_ADDR, and `code` of the GLB class
(R551, R553, R557). -/
def Recorded (s t : Machine.State) (q : Requester) (off code : Nat) : Prop :=
  t.fv Machine.fGLB_ACCESS_ADDR_OFFSET = off ∧ t.fv Machine.fGLB_ACCESS_ADDR_REQUESTER = Machine.pathCode q
    ∧ t.isl.inbox = s.isl.inbox ++ [(Machine.faultCode 0x01 0 code, 0)]

/-- Registers that software writes by their access codes alone. -/
def plainRegs : List Nat :=
  [Machine.rGLB_EVENT, Machine.rGLB_EVENT_EN, Machine.rRING_ASYNC_CFG, Machine.rRING_EVENT, Machine.rPCIE_POISON_CFG,
   Machine.rPCIE_ASPM_CFG, Machine.rPCIE_EVENT, Machine.rPCIE_EVENT_EN, Machine.rATTIC_EVENT, Machine.rREGU_EVENT,
   Machine.rPWR_EVENT, Machine.rBRIDGE_CFG, Machine.rBRIDGE_EVENT, Machine.rBRIDGE_EVENT_EN]

/-- What a read of `d` by command `cmd` of MGT sends: the count where it has one, the data, and the PEC (R134, R137). -/
def mgtFrame (s : Machine.State) (cmd : Nat) (counted : Bool) (d : List Byte) : List Byte :=
  let body := (if counted then [BitVec.ofNat 8 d.length] else []) ++ d
  body ++ [Machine.crc8 ([Machine.mgtAddr s false, BitVec.ofNat 8 cmd, Machine.mgtAddr s true] ++ body)]

/-- MGT answers (R133). -/
def MgtHears (s : Machine.State) : Prop := s.pow.powered = true ∧ s.on Machine.fMGT_STATUS_ACTIVE = true

/-- Error `k` of MGT has been noted, and nothing else has changed (R138): LAST_ERROR, its counter, the alert and the code. -/
def MgtFailed (s t : Machine.State) (k : Nat) : Prop :=
  t.fv Machine.fMGT_LAST_ERROR_CODE = k
    ∧ t.fv (Machine.fMGT_CNT_COUNT (k - 1)) = Machine.satTo 0xFFFF (s.fv (Machine.fMGT_CNT_COUNT (k - 1)) + 1)
    ∧ (s.fv Machine.fMGT_LAST_ERROR_CODE = 0 → t.fv Machine.fMGT_ALERT_STATUS_ERROR = 1)
    ∧ t.isl.inbox = s.isl.inbox
        ++ (if k = 4 then [] else [(Machine.faultCode 0x0F 0 (if k = 5 then 3 else if k = 3 then 2 else 1), 0)])
    ∧ t.mgt = s.mgt
    ∧ SameRegsBut s t [Machine.rMGT_LAST_ERROR, Machine.rMGT_CNT (k - 1), Machine.rMGT_ALERT_STATUS]

/-- The bytes of a write of `d` by command `cmd` of MGT, with its count and a right PEC, or without a PEC where none is
required (R137). -/
def mgtBytes (s : Machine.State) (cmd : Nat) (counted : Bool) (d bytes : List Byte) : Prop :=
  let b := (if counted then [BitVec.ofNat 8 d.length] else []) ++ d
  (bytes = b ∧ s.on Machine.fMGT_CFG_PEC_REQUIRED = false)
    ∨ bytes = b ++ [Machine.crc8 ([Machine.mgtAddr s false, BitVec.ofNat 8 cmd] ++ b)]

/-- The commands after which everything inside the device starts again: supplies, and the resets of device scope (R48). -/
def restarts (c : Instr) : Bool :=
  match c with
  | .powerOn .. | .supplyLeavesTolerance .. | .porstNFall .. | .brownout .. | .deviceResetEffect .. => true
  | _ => false

/-- A part of the device that few commands reach. -/
inductive Part where
  | mem | attic | ident | spdm | mgt | scc | esc | place | started | commits | larder | tally | madc | lane | act | tile
  deriving DecidableEq, Repr

/-- Command `c` may change part `p`, without restarting the device. -/
def reaches (p : Part) (c : Instr) : Bool :=
  match p, c with
  | .mem, .frameDelivered .. | .mem, .pieceEnd .. | .mem, .pieceTimeout .. | .mem, .hoistSignal .. | .mem, .hoistBeat ..
  | .mem, .hoistRetry .. | .mem, .streamMoverPacket .. | .mem, .bar4Write .. | .mem, .fabricRequestReceived ..
  | .mem, .memoryScrub .. | .mem, .domainOffDone .. | .mem, .standbyReached => true
  | .attic, .seqErrorRecordCommit | .attic, .atticBankChosen .. | .attic, .larderPoolInitialised ..
  | .attic, .startupTestPassed .. | .attic, .convertersCalibrated .. | .attic, .kernelLibraryLoaded ..
  | .attic, .serviceSetEvaluated | .attic, .logCommit | .attic, .atticUpdateStart .. | .attic, .atticImageChecked ..
  | .attic, .atticSectorErased | .attic, .atticPageProgrammed | .attic, .atticReadbackDone .. | .attic, .standbyEnter ..
  | .attic, .registerWrite .. => true
  | .ident, .islandFirmwareRunning .. | .ident, .dialSet .. | .ident, .timeRsp .. | .ident, .gmacBind ..
  | .ident, .gmacEnable .. | .ident, .registerWrite .. => true
  | .spdm, .perstNFall | .spdm, .hotReset | .spdm, .functionLevelReset | .spdm, .atticBankChosen ..
  | .spdm, .larderPoolInitialised .. | .spdm, .startupTestPassed .. | .spdm, .convertersCalibrated ..
  | .spdm, .kernelLibraryLoaded .. | .spdm, .serviceSetEvaluated | .spdm, .configurationRequest .. | .spdm, .getVersion
  | .spdm, .getCapabilities | .spdm, .negotiateAlgorithms | .spdm, .getDigests | .spdm, .getCertificate ..
  | .spdm, .challenge .. | .spdm, .getMeasurements .. | .spdm, .keyExchange | .spdm, .finish .. | .spdm, .heartbeat ..
  | .spdm, .keyUpdate .. | .spdm, .endSession .. | .spdm, .unsupportedSpdmRequest => true
  | .mgt, .mgtAlertClear .. | .mgt, .mgtMirrorAddrWrite .. | .mgt, .mgtMirrorRead .. | .mgt, .alertResponseRead ..
  | .mgt, .registerWrite .. => true
  | .scc, .sccEnable .. | .scc, .sccDisable .. | .scc, .sccSoftReset .. | .scc, .sccRecover ..
  | .scc, .sccRecoveryWaitEnd .. | .scc, .sccTransactionStart .. | .scc, .sccTransactionEnd ..
  | .scc, .arbitrationLost .. | .scc, .busErrorDetected .. | .scc, .sclStretchTimeout .. | .scc, .busyTimeout ..
  | .scc, .lockRequest .. | .scc, .lockEnd .. | .scc, .lockExpiry .. | .scc, .burstStart .. | .scc, .registerWrite .. => true
  | .esc, .sportEnable .. | .esc, .sportSoftReset .. | .esc, .frameStartPacket .. | .esc, .longPacket ..
  | .esc, .frameEndPacket .. | .esc, .frameTimeout .. | .esc, .lportVsyncActive .. | .esc, .lportLine ..
  | .esc, .lportVsyncInactive .. | .esc, .sccEnable .. | .esc, .sccDisable .. | .esc, .sccSoftReset ..
  | .esc, .sccRecover .. | .esc, .sccTransactionStart .. | .esc, .sccTransactionEnd .. | .esc, .arbitrationLost ..
  | .esc, .busErrorDetected .. | .esc, .sclStretchTimeout .. | .esc, .busyTimeout .. | .esc, .escProfileLoad ..
  | .esc, .escFlush .. | .esc, .writeWindowOpen .. | .esc, .burstStart .. | .esc, .burstLatestStartPassed ..
  | .esc, .tileFenceSoftware .. | .esc, .tileFence .. | .esc, .readmissionPlacement | .esc, .streamStart
  | .esc, .streamStop | .esc, .streamStopDrained .. | .esc, .settings | .esc, .asyncStreamStop | .esc, .registerWrite .. => true
  | .place, .frameStartPacket .. | .place, .lportVsyncActive .. | .place, .commitCheck | .place, .canvasFrameStart ..
  | .place, .tileFenceSoftware .. | .place, .tileFence .. | .place, .readmissionPlacement | .place, .registerWrite .. => true
  | .started, .streamStart | .started, .streamStopDrained .. | .started, .asyncStreamStop => true
  | .commits, .frameStartPacket .. | .commits, .lportVsyncActive .. | .commits, .commitCheck | .commits, .canvasEnable ..
  | .commits, .canvasFrameStart .. | .commits, .tileFenceSoftware .. | .commits, .tileFence ..
  | .commits, .readmissionPlacement | .commits, .streamStopDrained .. | .commits, .commit | .commits, .asyncStreamStop
  | .commits, .registerWrite .. => true
  | .larder, .larderPoolInitialised .. | .larder, .larderWordWrite .. | .larder, .pushData .. | .larder, .pushDataEnd ..
  | .larder, .popRead .. | .larder, .larderAuditDone .. | .larder, .queueFlush .. | .larder, .larderFlushDone ..
  | .larder, .hoistBeat .. | .larder, .streamMoverPacket .. | .larder, .streamStopDrained .. | .larder, .asyncStreamStop
  | .larder, .registerWrite .. | .larder, .counterReadClear .. | .larder, .lowerHalfRead .. => true
  | .tally, .tallyStart .. | .tally, .registerWrite .. => true
  | .madc, .startupTestPassed .. | .madc, .convertersCalibrated .. | .madc, .tilePowered | .madc, .tileTestDone ..
  | .madc, .ilsSample .. | .madc, .trigRisingEdge .. | .madc, .calStart .. | .madc, .adcCalibrationDone ..
  | .madc, .adcConversionEnd .. | .madc, .go .. | .madc, .adcUrgentTrigger .. | .madc, .adcConversionStuck ..
  | .madc, .aadcPowerUp | .madc, .registerWrite .. => true
  | .lane, .laneEnable .. | .lane, .lanePllLocked .. | .lane, .signalDetectAssert .. | .lane, .signalDetectDeassert ..
  | .lane, .adaptationDone .. | .lane, .adaptationTimeout .. | .lane, .cdrLockLost .. | .lane, .cdrRelock ..
  | .lane, .frefLost | .lane, .frefRestored | .lane, .laneStateRequest .. | .lane, .laneWakeDone ..
  | .lane, .laneFabricEn .. | .lane, .patchkEnable .. | .lane, .patchkClear .. | .lane, .patchkSnap ..
  | .lane, .checkerSyncLoss .. | .lane, .loopbackWrite .. | .lane, .portIdleSleep .. | .lane, .sleepNotice ..
  | .lane, .portWake .. | .lane, .domainOffDone .. | .lane, .domainPowerUpDone .. | .lane, .registerWrite .. => true
  | .act, .frameStartPacket .. | .act, .lportVsyncActive .. | .act, .commitCheck | .act, .canvasFrameStart .. => true
  | .tile, .pieceStart .. | .tile, .pieceEnd .. | .tile, .pieceTimeout .. | .tile, .tileFenceSoftware ..
  | .tile, .tileFence .. | .tile, .residueCheckerSelfTest .. | .tile, .memoryScrub .. | .tile, .registerWrite .. => true
  | _, _ => false

/-- Part `p` stands in `t` as it stood in `s`. -/
def Same (p : Part) (s t : Machine.State) : Prop :=
  match p with
  | .mem => t.mem = s.mem ∧ t.memPoison = s.memPoison
  | .attic => t.attic = s.attic
  | .ident => t.ident = s.ident
  | .spdm => t.spdm = s.spdm
  | .mgt => t.mgt = s.mgt
  | .scc => t.scc = s.scc
  | .esc => t.esc = s.esc
  | .place => t.place = s.place
  | .started => t.started = s.started
  | .commits => t.commits = s.commits
  | .larder => t.larder = s.larder
  | .tally => t.tally = s.tally
  | .madc => t.madc = s.madc
  | .lane => t.lane = s.lane
  | .act => t.act = s.act
  | .tile => t.tile = s.tile

/-- The commands of the management bus (R134). -/
def isMgt (c : Instr) : Bool :=
  match c with
  | .mgtStatus .. | .mgtIdentify .. | .mgtBootStatus .. | .mgtBootFault .. | .mgtResetCauseRead ..
  | .mgtResetCauseWrite .. | .mgtTileWheels .. | .mgtAlertStatus .. | .mgtAlertClear .. | .mgtAlertMaskRead ..
  | .mgtAlertMaskWrite .. | .mgtMirrorAddrRead .. | .mgtMirrorAddrWrite .. | .mgtMirrorRead .. | .mgtMirrorWrite ..
  | .mgtLastError .. | .mgtCounters .. | .mgtConfigRead .. | .mgtConfigWrite .. | .mgtUnsupportedCommand
  | .alertResponseRead .. | .mgtSclTimeout => true
  | _ => false

end Sys2Proof
end

