-- ==== Sys2Proof/Certificates/Slice0/Obligations.lean ====
section
/-!
DEFINITION. The statements for the provers.
-/

open Sys2Proof Sys2Proof.Machine

/-- POWER_ON, SEQ_ERROR_RECORD_COMMIT, SUPPLY_LEAVES_TOLERANCE and BROWNOUT (R26, R43, R44, R48): the device powers up in
reset with every register at its reset value; a sequence error is recorded; the always-on supplies take everything with
them; a brown-out holds the device in reset for 1 ms and is recorded. -/
def Obligations.Supplies : Prop :=
  (∀ s order porst perst, s.pow.powered = false → Rail.vddAon ∈ order → Rail.vddioAon ∈ order →
    Answers (.powerOn order porst perst) s (fun t =>
      t.pow.powered = true ∧ t.pow.phase = .inReset ∧ t.pow.hubOn = false ∧ t.pow.rails = railMask order
        ∧ t.pow.seqError = orderBad order ∧ t.pow.porst = porst ∧ t.pow.perst = perst
        ∧ (∀ o, t.rn o = State.reset.rn o) ∧ t.mem = [])) ∧
  (∀ s, s.pow.powered = true → s.pow.seqError = true → s.pow.seqLogged = false →
    Answers .seqErrorRecordCommit s (fun t =>
      t.pow.seqLogged = true ∧ ∃ r, t.isl.log = r :: s.isl.log ∧ r.code = 0x0A000108 ∧ r.kind = 2 ∧ r.time = 0
        ∧ r.committed = true)) ∧
  (∀ s r, s.pow.powered = true → r = .vddAon ∨ r = .vddioAon →
    Answers (.supplyLeavesTolerance r) s (fun t =>
      t.pow.powered = false ∧ t.pow.hubOn = false ∧ t.regs = [] ∧ t.mem = [] ∧ t.attic.bytes = s.attic.bytes)) ∧
  (∀ s g, s.pow.powered = true →
    Answers (.supplyLeavesTolerance (.ioG g)) s (fun t =>
      bitAt t.pow.ioG (g % 4) = false ∧ t.regs = s.regs ∧ t.mem = s.mem)) ∧
  (∀ s r, s.pow.powered = true → r = .vddAon ∨ r = .vddioAon ∨ (r = .vddHub ∧ s.pow.phase ≠ .standby) →
    Answers (.brownout r) s (fun t =>
      t.pow.phase = .inReset ∧ t.pow.hubOn = false ∧ t.pow.selfRelease = true ∧ t.pow.releaseAt = s.now + 1000000
        ∧ t.fv fGLB_RESET_CAUSE_BROWNOUT = 1 ∧ t.rn rGLB_BOOT_FAULT = s.rn rGLB_BOOT_FAULT ∧ t.mem = []))

/-- PORST_N_FALL, PORST_N_RISE, DEV_RESET, DEVICE_RESET_EFFECT, INTERNAL_RELEASE and TRST_N_LOW (R36, R48, R50): a falling
PORST_N resets the device and is recorded; the first counted rise samples the straps by majority and starts the boot; a
keyed write of RESET_CTRL takes effect 1 µs later and holds the device for 1 ms; TRST_N changes nothing of the model. -/
def Obligations.DeviceResets : Prop :=
  (∀ s, s.pow.powered = true → s.pow.porst = true →
    Answers .porstNFall s (fun t =>
      t.pow.porst = false ∧ t.pow.phase = .inReset ∧ t.pow.hubOn = false ∧ t.fv fGLB_RESET_CAUSE_PORST = 1
        ∧ t.pow.straps = s.pow.straps ∧ t.mem = [] ∧ t.attic.bytes = s.attic.bytes)) ∧
  (∀ s a b c, s.pow.powered = true → s.pow.porst = false → s.pow.sawLow = true → s.pow.sampled = false →
      s.pow.seqError = false → s.pow.selfRelease = false → s.pow.phase = .inReset →
    Answers (.porstNRise a b c) s (fun t =>
      t.pow.porst = true ∧ t.pow.sampled = true ∧ t.pow.sampledAt = s.now ∧ t.pow.phase = .booting
        ∧ (∀ k, k < 5 → bitAt t.pow.straps k = decide (2 ≤ b2n (bitAt a k) + b2n (bitAt b k) + b2n (bitAt c k))))) ∧
  (∀ s (v : Word), s.pow.powered = true → s.pow.phase ≠ .inReset → bitAt v.toNat 16 = true →
      bitsOf v.toNat 0 16 = 0xC10C →
    Answers (.devReset v) s (fun t =>
      t.pow.devReset = true ∧ t.pow.resetAt = s.now + 1000 ∧ t.regs = s.regs ∧ t.mem = s.mem)) ∧
  (∀ s, s.pow.devReset = true → s.pow.resetAt ≤ s.now →
    Answers .deviceResetEffect s (fun t =>
      t.pow.phase = .inReset ∧ t.pow.devReset = false ∧ t.pow.hubOn = false ∧ t.pow.selfRelease = true
        ∧ t.pow.releaseAt = s.now + 1000000 ∧ t.fv fGLB_RESET_CAUSE_SW_RESET = 1
        ∧ t.rn rGLB_BOOT_FAULT = s.rn rGLB_BOOT_FAULT)) ∧
  (∀ s, s.pow.powered = true → s.pow.selfRelease = true → s.pow.releaseAt ≤ s.now → s.pow.porst = true →
      s.pow.sampled = true → s.pow.seqError = false → s.pow.phase = .inReset →
    Answers .internalRelease s (fun t => t.pow.selfRelease = false ∧ t.pow.phase = .booting ∧ t.regs = s.regs)) ∧
  (∀ s, Answers .trstNLow s (fun t => t = s))

/-- PERST_N_FALL, PERST_N_RISE, PCIE_DOMAIN_PERST_TIMEOUT, HOT_RESET and FUNCTION_LEVEL_RESET (R46, R48, R535): each
reset of the host's side is recorded, resets the rings and the endpoint, and leaves LP5X memory alone; the link stays up
through a function level reset; PCIE drains after 10 ms of PERST_N low and powers up when PERST_N rises. -/
def Obligations.HostResets : Prop :=
  (∀ s, s.pow.powered = true → s.pow.perst = true →
    Answers .perstNFall s (fun t =>
      t.pow.perst = false ∧ t.pow.perstLowAt = s.now ∧ t.fv fGLB_RESET_CAUSE_PERST = 1 ∧ t.ring.crTail = []
        ∧ t.ring.bind = [] ∧ t.pcie.cfg = [] ∧ t.mem = s.mem ∧ t.larder = s.larder)) ∧
  (∀ s, s.pow.powered = true → s.pow.perst = false → s.pow.boot.pcie = true → s.fv (fPWR_DOM_STATE 13) = 3 →
    Answers .perstNRise s (fun t => t.pow.perst = true ∧ t.fv (fPWR_DOM_STATE 13) = 4)) ∧
  (∀ s, s.pow.powered = true → s.pow.perst = false → s.fv (fPWR_DOM_STATE 13) ≠ 3 →
    Answers .perstNRise s (fun t => t.pow.perst = true ∧ t.regs = s.regs)) ∧
  (∀ s, s.pow.hubOn = true → s.pow.perst = false → s.fv (fPWR_DOM_STATE 13) = 0 →
      s.pow.perstLowAt + 10000000 < s.now →
    Answers .pcieDomainPerstTimeout s (fun t =>
      t.fv (fPWR_DOM_STATE 13) = 1 ∧ kget 13 t.pow.domTarget = some 3)) ∧
  (∀ s, s.pow.hubOn = true → s.on fPCIE_LINK_STATUS_DL_ACTIVE = true →
    Answers .hotReset s (fun t =>
      t.fv fGLB_RESET_CAUSE_HOT_RESET = 1 ∧ t.fv fPCIE_LINK_STATUS_DL_ACTIVE = 0 ∧ t.ring.crTail = []
        ∧ t.pcie.cfg = [] ∧ t.pcie.configReady = false ∧ t.mem = s.mem)) ∧
  (∀ s, s.pow.hubOn = true → s.on fPCIE_LINK_STATUS_DL_ACTIVE = true →
    Answers .functionLevelReset s (fun t =>
      t.fv fGLB_RESET_CAUSE_FLR = 1 ∧ t.fv fPCIE_LINK_STATUS_DL_ACTIVE = s.fv fPCIE_LINK_STATUS_DL_ACTIVE
        ∧ t.ring.crTail = [] ∧ t.pcie.cfg = [] ∧ t.pcie.configReady = s.pcie.configReady
        ∧ t.pcie.inventory = s.pcie.inventory ∧ t.mem = s.mem))

/-- HUB_CLOCKS_LOCKED, OPTIONAL_RAILS_RECORDED, ATTIC_BANK_CHOSEN and ISLAND_FIRMWARE_RUNNING (R51, R52, R57, R508, R525):
the hub comes up with MGT active; an absent rail leaves its domains ABSENT; the newest good bank runs, and with none the
boot fails; the island's log goes on from the newest record. -/
def Obligations.BootFirstEvents : Prop :=
  (∀ s, Boots s → s.pow.boot.hubLocked = false → railUp s 7 = true →
    Answers .hubClocksLocked s (fun t =>
      t.pow.hubOn = true ∧ t.pow.boot.hubLocked = true ∧ t.fv (fPWR_DOM_STATE 1) = 0 ∧ t.fv fMGT_STATUS_ACTIVE = 1)) ∧
  (∀ s sp ln pc fr, Boots s → s.pow.boot.hubLocked = true → s.pow.boot.rails = false →
    Answers (.optionalRailsRecorded sp ln pc fr) s (fun t =>
      t.pow.boot.rails = true ∧ t.fv fGLB_BOOT_STATUS_STAGE = 1 ∧ t.fv fGLB_STRAPS_RAILS = bitsOf s.pow.rails 0 7
        ∧ (∀ g, g < 4 → t.fv (fPWR_DOM_STATE (14 + g)) = if railUp s g then 0 else 5)
        ∧ t.fv (fPWR_DOM_STATE 12) = (if railUp s 5 then 0 else 5)
        ∧ (∀ n, n < 32 → t.fv (fSPORT_STATUS_ABSENT n) = b2n (!railUp s (n / 8))))) ∧
  (∀ s b0 b1, Boots s → s.pow.boot.rails = true → s.pow.boot.bank = false → bankGood b0 = true → bankGood b1 = false →
    Answers (.atticBankChosen b0 b1) s (fun t =>
      t.pow.boot.bank = true ∧ t.pow.phase = .booting ∧ t.fv fGLB_BOOT_STATUS_BANK = 0
        ∧ t.fv fGLB_BOOT_STATUS_ONE_BANK = 1 ∧ t.fv fGLB_FW_VERSION_MAJOR = b0.major % 65536
        ∧ t.fv fATTIC_EVENT_BANK_INVALID = 1)) ∧
  (∀ s b0 b1, Boots s → s.pow.boot.rails = true → s.pow.boot.bank = false → bankGood b0 = true → bankGood b1 = true →
      b0.seq < 2 ^ 32 → b1.seq < 2 ^ 32 → seqNewer b1.seq b0.seq = true →
    Answers (.atticBankChosen b0 b1) s (fun t =>
      t.pow.boot.bank = true ∧ t.fv fGLB_BOOT_STATUS_BANK = 1 ∧ t.fv fGLB_BOOT_STATUS_ONE_BANK = 0
        ∧ t.fv fGLB_FW_VERSION_MAJOR = b1.major % 65536)) ∧
  (∀ s b0 b1, Boots s → s.pow.boot.rails = true → s.pow.boot.bank = false → bankGood b0 = false → bankGood b1 = false →
    Answers (.atticBankChosen b0 b1) s (fun t => BootFailed t 0x08000102)) ∧
  (∀ s c0 c1 a b k lb ls h nc ch, Boots s → s.pow.boot.bank = true → s.pow.boot.island = false → s.isl.log = [] →
    Answers (.islandFirmwareRunning c0 c1 a b k lb ls h nc ch) s (fun t =>
      t.isl.running = true ∧ t.pow.boot.island = true ∧ t.fv fGLB_BOOT_STATUS_STAGE = 2
        ∧ t.isl.boot = (lb + 1) % 2 ^ 32 ∧ t.isl.nextSeq = (ls + 1) % 2 ^ 32
        ∧ t.fv fIDENT_STATUS_KEY_OK = b2n k ∧ t.pair rSAFE_WIND_CHAL_LO rSAFE_WIND_CHAL_HI = ch % 2 ^ 64))

/-- PCIE_CONTROLLER_READY, LARDER_POOL_INITIALISED, STARTUP_TEST_PASSED, CONVERTERS_CALIBRATED and LP5X_STACKS_TRAINED
(R52, R56, R57, R474): each is recorded and shows its result; a failed hub or island test, or more than 3,932 stuck cells,
fails the boot; a stack that fails its training is ABSENT. -/
def Obligations.BootUnits : Prop :=
  (∀ s, Boots s → s.pow.boot.island = true → s.pow.boot.pcie = false → railUp s 6 = true → s.pow.perst = true →
    Answers .pcieControllerReady s (fun t => t.pow.boot.pcie = true ∧ t.fv (fPWR_DOM_STATE 13) = 0)) ∧
  (∀ s stuck, Boots s → s.pow.boot.island = true → s.pow.boot.larder = false →
      ((stuck.map (fun c => c % 393216)).eraseDups).length ≤ 3932 →
    Answers (.larderPoolInitialised true stuck) s (fun t =>
      t.pow.boot.larder = true ∧ t.pow.phase = .booting ∧ t.larder.stuck = (stuck.map (fun c => c % 393216)).eraseDups
        ∧ t.fv fLARDER_RETIRED_BOOT = ((stuck.map (fun c => c % 393216)).eraseDups).length)) ∧
  (∀ s hubOk stuck, Boots s → s.pow.boot.island = true → s.pow.boot.larder = false →
      hubOk = false ∨ 3932 < ((stuck.map (fun c => c % 393216)).eraseDups).length →
    Answers (.larderPoolInitialised hubOk stuck) s (fun t => BootFailed t 0x01000101)) ∧
  (∀ s, Boots s → s.pow.boot.island = true → s.pow.boot.startup = false →
    Answers (.startupTestPassed true) s (fun t =>
      t.pow.boot.startup = true ∧ t.pow.phase = .booting ∧ t.fv fGLB_BOOT_STATUS_ISLAND_OK = 1
        ∧ t.fv fGLB_BOOT_STATUS_STAGE = 3 ∧ t.fv (fMADC_STATUS_STATE 0) = 1 ∧ t.fv (fMADC_STATUS_STATE 10) = 1)) ∧
  (∀ s, Boots s → s.pow.boot.island = true → s.pow.boot.startup = false →
    Answers (.startupTestPassed false) s (fun t => BootFailed t 0x05000104)) ∧
  (∀ s a b c, Boots s → s.pow.boot.startup = true → s.pow.boot.convCal = false → calGood a = true → calGood b = true →
      calGood c = true →
    Answers (.convertersCalibrated a b c) s (fun t =>
      t.pow.boot.convCal = true ∧ t.pow.phase = .booting ∧ t.fv (fMADC_STATUS_CAL_OK 0) = 1
        ∧ t.fv (fMADC_STATUS_CAL_OK 1) = 1 ∧ t.fv (fMADC_STATUS_CAL_OK 10) = 1
        ∧ t.fv (fMADC_CAL_GAIN 0) = a.gain ∧ t.fv (fMADC_CAL_GAIN 10) = c.gain)) ∧
  (∀ s a b c, Boots s → s.pow.boot.startup = true → s.pow.boot.convCal = false → calGood a = false →
    Answers (.convertersCalibrated a b c) s (fun t => BootFailed t 0x05000104)) ∧
  (∀ s ok0 ok1, Boots s → s.pow.boot.island = true → s.pow.boot.lp5x = false →
    Answers (.lp5xStacksTrained ok0 ok1) s (fun t =>
      t.pow.boot.lp5x = true ∧ t.pow.boot.memOk = b2n ok0 + 2 * b2n ok1
        ∧ t.fv (fPWR_DOM_STATE 10) = (if ok0 then 0 else 5) ∧ t.fv (fPWR_DOM_STATE 11) = (if ok1 then 0 else 5)))

/-- TILE_POWERED, TILE_TEST_DONE, KERNEL_LIBRARY_LOADED and SERVICE_SET_EVALUATED (R52, R55 to R58): tiles come up in turn;
a good tile is in service with its healthy wheels counted, and one whose dispatcher fails is fenced and drains; READY is
set with at least one tile, a sensor port and an egress, and without a tile the boot fails. -/
def Obligations.BootTilesAndService : Prop :=
  (∀ s n, Boots s → s.pow.boot.startup = true → n < 8 → n < activeTiles s → bitAt s.pow.boot.powered n = false →
      (∀ m, m < n → bitAt s.pow.boot.powered m = true) →
    Answers .tilePowered s (fun t =>
      bitAt t.pow.boot.powered n = true ∧ t.fv (fPWR_DOM_STATE (2 + n)) = 0 ∧ t.fv fGLB_BOOT_STATUS_STAGE = 4
        ∧ t.fv (fMADC_STATUS_STATE (2 + n)) = 1)) ∧
  (∀ s n r, Boots s → n < 8 → bitAt s.pow.boot.powered n = true → bitAt s.pow.boot.tested n = false →
      calGood r = true →
    Answers (.tileTestDone n [] true true r) s (fun t =>
      bitAt t.pow.boot.tested n = true ∧ t.fv (fTILE_STATUS_STATE n) = 1 ∧ t.fv (fTILE_STATUS_HEALTHY n) = 128
        ∧ t.fv (fGLB_TILE_WHEELS_HEALTHY n) = 128)) ∧
  (∀ s n failed shelfOk r, Boots s → n < 8 → bitAt s.pow.boot.powered n = true → bitAt s.pow.boot.tested n = false →
    Answers (.tileTestDone n failed false shelfOk r) s (fun t =>
      bitAt t.pow.boot.tested n = true ∧ t.fv (fTILE_STATUS_STATE n) = 2 ∧ t.fv (fTILE_STATUS_CAUSE n) = 7
        ∧ t.fv (fPWR_DOM_STATE (2 + n)) = 1 ∧ t.fv (fGLB_TILE_WHEELS_FENCED_FAULT n) = 1
        ∧ t.pow.boot.reduced = true)) ∧
  (∀ s ks, Boots s → s.pow.boot.startup = true → tilesTested s = true → s.pow.boot.kernels = false →
    Answers (.kernelLibraryLoaded true ks) s (fun t =>
      t.pow.boot.kernels = true ∧ t.pow.boot.kernelIds = ks.eraseDups ∧ t.fv fGLB_BOOT_STATUS_KERNELS = 1
        ∧ t.fv fGLB_BOOT_STATUS_STAGE = 6)) ∧
  (∀ s ks, Boots s → s.pow.boot.startup = true → tilesTested s = true → s.pow.boot.kernels = false →
      s.fv fGLB_BOOT_STATUS_BANK = 1 →
    Answers (.kernelLibraryLoaded false ks) s (fun t => BootFailed t 0x08010103)) ∧
  (∀ s n, Boots s → s.pow.boot.kernels = true → s.pow.boot.convCal = true → s.pow.boot.larder = true →
      s.pow.boot.lp5x = true → s.pow.boot.pcie = true → n < 8 → tileUp s n = true → sensorPort s = true →
      pcieEgress s = true →
    Answers .serviceSetEvaluated s (fun t =>
      t.pow.phase = .ready ∧ t.fv fGLB_BOOT_STATUS_READY = 1 ∧ t.fv fGLB_BOOT_STATUS_STAGE = 15
        ∧ t.fv fGLB_BOOT_STATUS_EGRESS_PCIE = 1 ∧ t.fv fGLB_BOOT_STATUS_TILES_IN_SERVICE = maskOf 8 (tileUp s)
        ∧ t.fv fMGT_ALERT_STATUS_READY = 1)) ∧
  (∀ s, Boots s → s.pow.boot.kernels = true → s.pow.boot.convCal = true → s.pow.boot.larder = true →
      s.pow.boot.lp5x = true → s.pow.boot.pcie = true → (∀ n, n < 8 → tileUp s n = false) →
    Answers .serviceSetEvaluated s (fun t => BootFailed t 0x13000105))

/-- LTSSM_DETECT, LINK_DL_ACTIVE, RATE_CHANGE_COMPLETE, CONFIG_READY and CONFIGURATION_REQUEST (R53, R54, R379, R381): the
link trains and comes up, is DEGRADED below rate code 6 or below 8 lanes, and configuration requests before CONFIG_READY
are answered with a retry. -/
def Obligations.LinkAndConfiguration : Prop :=
  (∀ s, s.pow.hubOn = true → canTrain s = true →
    Answers .ltssmDetect s (fun t => t.pcie.training = true ∧ t.pcie.clkreq = true ∧ t.regs = s.regs)) ∧
  (∀ s rate width flit, s.pow.hubOn = true → s.pcie.training = true → canTrain s = true → 1 ≤ rate → rate ≤ 6 →
      [1, 2, 4, 8].contains width = true →
    Answers (.linkDlActive rate width flit) s (fun t =>
      t.fv fPCIE_LINK_STATUS_DL_ACTIVE = 1 ∧ t.fv fPCIE_LINK_STATUS_RATE = rate
        ∧ t.fv fPCIE_LINK_STATUS_WIDTH = width ∧ t.fv fPCIE_LINK_STATUS_FLIT = b2n flit
        ∧ t.fv fPCIE_LINK_STATUS_DEGRADED = b2n (decide (rate < 6) || decide (width < 8))
        ∧ t.pcie.training = false)) ∧
  (∀ s rate flit, s.pow.hubOn = true → s.on fPCIE_LINK_STATUS_DL_ACTIVE = true → 1 ≤ rate → rate ≤ 6 →
    Answers (.rateChangeComplete rate flit) s (fun t =>
      t.fv fPCIE_LINK_STATUS_RATE = rate ∧ t.fv fPCIE_LINK_STATUS_WIDTH = s.fv fPCIE_LINK_STATUS_WIDTH
        ∧ t.fv fPCIE_LINK_STATUS_DEGRADED = b2n (decide (rate < 6) || decide (s.fv fPCIE_LINK_STATUS_WIDTH < 8)))) ∧
  (∀ s, s.pow.hubOn = true → s.on fPCIE_LINK_STATUS_DL_ACTIVE = true → s.pow.boot.startup = true →
      s.pcie.configReady = false →
    Answers .configReady s (fun t =>
      t.pcie.configReady = true ∧ (t.pcie.inventory.take 4 = leBytes 4 0x54564E49) ∧ t.regs = s.regs)) ∧
  (∀ s write off v be, s.pow.hubOn = true → s.on fPCIE_LINK_STATUS_DL_ACTIVE = true → s.pcie.configReady = false →
    Answers (.configurationRequest write off v be) s (fun t => t.reply = ⟨.retry, []⟩ ∧ t.pcie.cfg = s.pcie.cfg)) ∧
  (∀ s v be, s.pow.hubOn = true → s.on fPCIE_LINK_STATUS_DL_ACTIVE = true → s.pcie.configReady = true →
    Answers (.configurationRequest false 0 v be) s (fun t =>
      t.reply = ⟨.success, leBytes 4 0x88327A9C⟩ ∧ t.regs = s.regs ∧ t.pcie = s.pcie)) ∧
  (∀ s v, s.pow.hubOn = true → s.on fPCIE_LINK_STATUS_DL_ACTIVE = true → s.pcie.configReady = true →
    Answers (.configurationRequest true 0x010 v 15) s (fun t =>
      t.reply = ⟨.success, []⟩ ∧ cfgWord t 0x010 = v &&& 0xFC000000#32))

/-- DIAL_SET, RATE_TRIM_WRITE, DIAL_SOURCE_WRITE and FOLLOW_HOLD_TIMEOUT (R102, R103, R115): dial time steps only while no
stream is active and the dial runs free; a trim beyond 500,000 ppb is refused; SRC 1 acquires, SRC 0 is FREE; without an
estimate the dial holds over. -/
def Obligations.DialCommands : Prop :=
  (∀ s v, s.pow.hubOn = true → streamsActive s = false → s.fv fREGU_CTRL_SRC ≠ 1 →
    Answers (.dialSet v) s (fun t =>
      t.dial = s.pair rREGU_DIAL_SET_LO rREGU_DIAL_SET_HI % 2 ^ 64 ∧ t.fv fREGU_EVENT_STEPPED = 1
        ∧ t.fv fREGU_CTRL_TRIM_EN = b2n (bitAt v.toNat 3) ∧ t.ident.cur = none ∧ t.ident.prev = none)) ∧
  (∀ s v, s.pow.hubOn = true → streamsActive s = true ∨ s.fv fREGU_CTRL_SRC = 1 →
    Answers (.dialSet v) s (fun t => t.dial = s.dial ∧ t.fv fREGU_EVENT_STEP_REFUSED = 1 ∧ t.ident = s.ident)) ∧
  (∀ s (v : Word), s.pow.hubOn = true → -500000 ≤ signedOf 32 v.toNat → signedOf 32 v.toNat ≤ 500000 →
    Answers (.rateTrimWrite v) s (fun t =>
      t.reg rREGU_RATE_TRIM = v ∧ SameRegsBut s t [rREGU_RATE_TRIM] ∧ t.dial = s.dial)) ∧
  (∀ s (v : Word), s.pow.hubOn = true → signedOf 32 v.toNat < -500000 ∨ 500000 < signedOf 32 v.toNat →
    Answers (.rateTrimWrite v) s (fun t =>
      t.reg rREGU_RATE_TRIM = s.reg rREGU_RATE_TRIM ∧ t.fv fREGU_EVENT_CFG_INVALID = 1)) ∧
  (∀ s (v : Word), s.pow.hubOn = true → bitsOf v.toNat 0 2 = 1 → s.fv fREGU_CTRL_SRC = 0 →
      s.on fFABRIC_STATUS_IS_ROOT = false →
    Answers (.dialSourceWrite v) s (fun t =>
      t.fv fREGU_CTRL_SRC = 1 ∧ t.fv fREGU_STATUS_STATE = 1 ∧ t.regu.first = true ∧ t.dial = s.dial)) ∧
  (∀ s (v : Word), s.pow.hubOn = true → bitsOf v.toNat 0 2 = 0 →
    Answers (.dialSourceWrite v) s (fun t =>
      t.fv fREGU_CTRL_SRC = 0 ∧ t.fv fREGU_STATUS_STATE = 0 ∧ t.regu.steer = 0 ∧ t.regu.slewLeft = 0
        ∧ t.dial = s.dial)) ∧
  (∀ s, s.pow.hubOn = true → s.fv fREGU_CTRL_SRC = 1 → s.fv fREGU_STATUS_STATE = 1 ∨ s.fv fREGU_STATUS_STATE = 2 →
    Answers .followHoldTimeout s (fun t =>
      t.fv fREGU_STATUS_STATE = 3 ∧ t.fv fREGU_EVENT_HOLDOVER = 1
        ∧ t.isl.inbox = s.isl.inbox ++ [(faultCode 0x0B 0 0x0001, 0)] ∧ t.dial = s.dial))

/-- TRIG_RUN, TRIG_RUN_CLEAR, TRIG_APPLY, TRIG_PERIOD_BOUNDARY, TRIG_EDGE_COMPUTE, TRIG_RISING_EDGE and TRIG_FALLING_EDGE
(R105 to R108): a valid set starts a schedule with its epoch at START_AT, an invalid one is refused; clearing RUN stops
the schedule; APPLY waits for the period boundary; edges are computed, counted and ended. -/
def Obligations.TriggerSchedules : Prop :=
  (∀ s p v, s.pow.hubOn = true → p < 32 → s.on (fTRIG_SCHED_CTRL_RUN p) = false → bitsOf v.toNat 1 3 = 0 →
      (staged (schedFields s p (v ||| 1#32)) p).valid (schedFields s p (v ||| 1#32)) = true →
    Answers (.trigRun p v) s (fun t =>
      t.fv (fTRIG_SCHED_CTRL_RUN p) = 1 ∧ (sched t p).hasEpoch = true
        ∧ (sched t p).epoch = Int.ofNat (s.pair (rTRIG_START_AT_LO p) (rTRIG_START_AT_HI p)) * 256
        ∧ (sched t p).set = staged (schedFields s p (v ||| 1#32)) p ∧ (sched t p).k = 0)) ∧
  (∀ s p v, s.pow.hubOn = true → p < 32 → s.on (fTRIG_SCHED_CTRL_RUN p) = false →
      (staged (schedFields s p (v ||| 1#32)) p).valid (schedFields s p (v ||| 1#32)) = false →
    Answers (.trigRun p v) s (fun t =>
      t.fv (fTRIG_SCHED_CTRL_RUN p) = 0 ∧ t.fv fREGU_EVENT_CFG_INVALID = 1 ∧ t.regu = s.regu)) ∧
  (∀ s p v, s.pow.hubOn = true → p < 32 → s.on (fTRIG_SCHED_CTRL_RUN p) = true →
    Answers (.trigRunClear p v) s (fun t =>
      t.fv (fTRIG_SCHED_CTRL_RUN p) = 0 ∧ t.fv (fTRIG_SCHED_CTRL_ARMED p) = 0
        ∧ t.fv (fTRIG_SCHED_CTRL_APPLY_PENDING p) = 0 ∧ kget p t.regu.sched = none)) ∧
  (∀ s p v, s.pow.hubOn = true → p < 32 → s.on (fTRIG_SCHED_CTRL_RUN p) = true →
      (staged (schedFields s p v) p).valid (schedFields s p v) = true →
    Answers (.trigApply p v) s (fun t =>
      t.fv (fTRIG_SCHED_CTRL_APPLY_PENDING p) = 1 ∧ t.regu = s.regu
        ∧ SameRegsBut s t [rTRIG_SCHED_CTRL p])) ∧
  (∀ s p, s.pow.hubOn = true → p < 32 → s.on (fTRIG_SCHED_CTRL_RUN p) = true →
      s.on (fTRIG_SCHED_CTRL_APPLY_PENDING p) = true → (sched s p).hasEpoch = true → (staged s p).valid s = true →
    Answers (.trigPeriodBoundary p) s (fun t =>
      t.fv (fTRIG_SCHED_CTRL_APPLY_PENDING p) = 0 ∧ (sched t p).set = staged s p ∧ (sched t p).k = 0
        ∧ (sched t p).next = none)) ∧
  (∀ s p, s.pow.hubOn = true → p < 32 → s.on (fTRIG_SCHED_CTRL_RUN p) = true → (sched s p).hasEpoch = true →
      (sched s p).next = none → 256000 ≤ edgeTime (sched s p) - Int.ofNat s.dial * 256 → (sched s p).lastFall = none →
    Answers (.trigEdgeCompute p) s (fun t =>
      (sched t p).next = some (edgeTime (sched s p))
        ∧ SameRegsBut s t [rTRIG_NEXT_EDGE_LO p, rTRIG_NEXT_EDGE_HI p])) ∧
  (∀ s p, s.pow.hubOn = true → p < 32 → s.on (fTRIG_SCHED_CTRL_RUN p) = true → (sched s p).hasEpoch = true →
      (sched s p).next = none → edgeTime (sched s p) - Int.ofNat s.dial * 256 < 256000 →
    Answers (.trigEdgeCompute p) s (fun t =>
      sched t p = nextPulse (sched s p) ∧ t.fv fREGU_EVENT_SCHED_SKIP = 1)) ∧
  (∀ s p x, s.pow.hubOn = true → p < 32 → (sched s p).next = some x →
    Answers (.trigRisingEdge p) s (fun t =>
      (sched t p).high = true ∧ (sched t p).next = none ∧ t.fv (fTRIG_SCHED_CTRL_ARMED p) = 0
        ∧ t.rn (rTRIG_PULSE_COUNT p) = (s.rn (rTRIG_PULSE_COUNT p) + 1) % 2 ^ 32)) ∧
  (∀ s p, s.pow.hubOn = true → p < 32 → (sched s p).high = true →
    Answers (.trigFallingEdge p) s (fun t =>
      (sched t p).high = false ∧ (sched t p).k = (sched s p).k ∧ t.regs = s.regs))

/-- ILL_WINDOW_OPEN, ILL_WINDOW_CLOSE, ILL_MAX_EXPIRY, GROUP_START, GROUP_STOP, SYNC_IN_EDGE and SYNC_EDGE_MISSED (R109 to
R114): windows open and close with their pulses, and one open beyond ILL_MAX is closed; a group starts and stops the
masked ports; a follower takes its first edge as its epoch and counts the edges it misses. -/
def Obligations.WindowsGroupsAndFollowers : Prop :=
  (∀ s p, s.pow.hubOn = true → p < 32 → s.on (fTRIG_SCHED_CTRL_RUN p) = true → (sched s p).set.illSrc = 2 →
      0 < (sched s p).set.illClose →
    Answers (.illWindowOpen p) s (fun t =>
      (sched t p).windows = (sched s p).windows + 1
        ∧ (sched t p).openAt = if (sched s p).windows = 0 then s.dial else (sched s p).openAt)) ∧
  (∀ s p, s.pow.hubOn = true → p < 32 → 0 < (sched s p).windows →
    Answers (.illWindowClose p) s (fun t => (sched t p).windows = (sched s p).windows - 1)) ∧
  (∀ s p, s.pow.hubOn = true → p < 32 → 0 < (sched s p).windows →
    Answers (.illMaxExpiry p) s (fun t => (sched t p).windows = 0 ∧ t.fv fREGU_EVENT_ILL_LIMIT = 1)) ∧
  (∀ s p, s.pow.hubOn = true → p < 32 → bitAt (s.rn rREGU_GROUP_MASK) p = true →
      s.on (fTRIG_SCHED_CTRL_RUN p) = true → (sched s p).set.src = 0 →
    Answers .groupStart s (fun t =>
      (sched t p).epoch = Int.ofNat (s.pair rREGU_GROUP_AT_LO rREGU_GROUP_AT_HI) * 256 ∧ (sched t p).k = 0
        ∧ (sched t p).next = none)) ∧
  (∀ s, s.pow.hubOn = true → Answers .groupStop s (fun t =>
    ∀ p, p < 32 → bitAt (s.rn rREGU_GROUP_MASK) p = true → t.fv (fTRIG_SCHED_CTRL_RUN p) = 0)) ∧
  (∀ s m, s.pow.hubOn = true → m < 4 → s.on (fSYNC_CFG_EN m) = true → s.on (fSYNC_CFG_EDGE m) = false →
      syncState s m = 1 → (follower s m).hasEpoch = false →
    Answers (.syncInEdge m true) s (fun t =>
      (follower t m).hasEpoch = true
        ∧ (follower t m).epoch = (Int.ofNat s.dial - signedOf 16 (s.fv (fSYNC_COMP_NS m))) * 256
        ∧ syncState t m = 1)) ∧
  (∀ s m, s.pow.hubOn = true → m < 4 → syncState s m = 2 →
      s.fv (fSYNC_STATUS_MISSED m) + 1 ≤ s.fv (fSYNC_CFG_HOLD_EDGES m) →
    Answers (.syncEdgeMissed m) s (fun t =>
      syncState t m = 3 ∧ t.fv (fSYNC_STATUS_MISSED m) = satTo 255 (s.fv (fSYNC_STATUS_MISSED m) + 1)
        ∧ (follower t m).epoch = (follower s m).epoch + (follower s m).period)) ∧
  (∀ s m, s.pow.hubOn = true → m < 4 → syncState s m = 3 →
      s.fv (fSYNC_CFG_HOLD_EDGES m) < s.fv (fSYNC_STATUS_MISSED m) + 1 →
    Answers (.syncEdgeMissed m) s (fun t =>
      syncState t m = 1 ∧ t.fv (fSYNC_STATUS_MISSED m) = 0 ∧ t.fv fREGU_EVENT_SYNC_LOST = 1
        ∧ (follower t m).hasEpoch = false))

/-- SOK_HALF_PERIOD, HARDWARE_FORCED_LOW, ISLAND_SELF_TEST, RESIDUE_CHECKER_SELF_TEST, MEMORY_SCRUB, FAULT_CODE_RECEIVED
and HEARTBEAT_START (R491 to R498): SOK_A toggles each half-period and a failing check forces it low; the self-tests and
the scrub report what they find; a code whose reaction is SAFE stops the heartbeat and one of a tile asks for its fence;
the heartbeat starts with a running winding and no cause. -/
def Obligations.SafetyChecks : Prop :=
  (∀ s us, s.pow.powered = true → sok s = 1 → 400 ≤ us → us ≤ 600 →
    Answers (.sokHalfPeriod us true) s (fun t => t.isl.sokA = !s.isl.sokA ∧ t.regs = s.regs)) ∧
  (∀ s us f, s.pow.powered = true → sok s = 1 → us < 400 ∨ 600 < us ∨ f = false →
    Answers (.sokHalfPeriod us f) s (fun t =>
      t.isl.forced = true ∧ t.isl.sokA = false ∧ sok t = 2 ∧ t.fv fSAFE_STATUS_LATCHED = 1
        ∧ bitAt (t.fv fSAFE_CAUSE_CAUSES) 8 = true)) ∧
  (∀ s code, s.pow.powered = true → code < 2 ^ 16 → bitAt (s.fv fSAFE_CAUSE_CAUSES) 8 = false →
    Answers (.hardwareForcedLow code) s (fun t =>
      t.isl.forced = true ∧ t.isl.sokA = false ∧ bitAt (t.fv fSAFE_CAUSE_CAUSES) 8 = true
        ∧ t.rn rSAFE_FIRST_FAULT = faultCode 0x05 0 code
        ∧ t.isl.inbox = s.isl.inbox ++ [(faultCode 0x05 0 code, 0)])) ∧
  (∀ s, s.pow.powered = true → s.isl.running = true →
    Answers (.islandSelfTest .corrected) s (fun t =>
      t.isl.inbox = s.isl.inbox ++ [(faultCode 0x05 0 0x000A, 0)] ∧ t.regs = s.regs)) ∧
  (∀ s, s.pow.powered = true → s.isl.running = true →
    Answers (.islandSelfTest .failed) s (fun t =>
      t.isl.inbox = s.isl.inbox ++ [(faultCode 0x05 0 0x000D, 0)] ∧ t.regs = s.regs)) ∧
  (∀ s, Answers (.islandSelfTest .clean) s (fun t => t = s)) ∧
  (∀ s n w, s.pow.hubOn = true → n < 8 → w < 128 → tileUp s n = true → kget w (tileOf s n).faults = none →
    Answers (.residueCheckerSelfTest n w false) s (fun t =>
      kget w (tileOf t n).faults = some [s.now] ∧ t.regs = s.regs
        ∧ t.isl.inbox = s.isl.inbox ++ [(faultCode 0x05 n 0x000E, 0)])) ∧
  (∀ s n w, Answers (.residueCheckerSelfTest n w true) s (fun t => t = s)) ∧
  (∀ s a, s.pow.hubOn = true → a < 2 ^ 34 → stackUp s (a / 2 ^ 33) = true →
    Answers (.memoryScrub [⟨2, false, 0, a⟩]) s (fun t =>
      t.memPoison.contains a = true ∧ t.mem = s.mem
        ∧ t.isl.inbox = s.isl.inbox ++ [(faultCode 0x0A (a / 2 ^ 33) 0x0011, 0)])) ∧
  (∀ s d, s.pow.powered = true → s.isl.running = true → s.isl.inbox.contains (faultCode 0x05 0 0x0009, d) = true →
    Answers (.faultCodeReceived (faultCode 0x05 0 0x0009) d) s (fun t =>
      bitAt (t.fv fSAFE_CAUSE_CAUSES) 8 = true ∧ sok t ≠ 1
        ∧ t.isl.inbox = s.isl.inbox.erase (faultCode 0x05 0 0x0009, d))) ∧
  (∀ s n d, s.pow.powered = true → s.isl.running = true → n < 8 →
      s.isl.inbox.contains (faultCode 0x06 (n + 2) 0x0001, d) = true →
    Answers (.faultCodeReceived (faultCode 0x06 (n + 2) 0x0001) d) s (fun t =>
      bitAt t.isl.fenceReq n = true ∧ sok t = sok s)) ∧
  (∀ s, s.pow.powered = true → s.isl.running = true → sok s = 0 → s.on fGLB_BOOT_STATUS_READY = true →
      windState s = 2 → s.fv fSAFE_CAUSE_CAUSES = 0 → s.isl.forced = false →
    Answers .heartbeatStart s (fun t => sok t = 1 ∧ t.isl.sokA = true))

/-- RELEASE, WINDING_DEADLINE, DISPLAY_BUDGET_EXPIRY, TEMP_WARN_REARM, SAFETY_VIEWS_WRITE, LOG_COMMIT and LOG_INDEX (R495,
R497, R500, R503, R506, R507, R509): a keyed release restarts the heartbeat only without a cause and with a running
winding; a missed deadline and a late display stop it; a running safety view is not taken out of the registers; every
record is committed and can be read back. -/
def Obligations.SafetyRegistersAndLog : Prop :=
  (∀ s (v : Word), s.pow.hubOn = true → bitAt v.toNat 16 = true → bitsOf v.toNat 0 16 = 0xB0C5 →
      s.fv fSAFE_CAUSE_CAUSES = 0 → windState s = 2 → s.on fSAFE_STATUS_RELEASE_NEEDED = true →
    Answers (.release v) s (fun t =>
      sok t = 1 ∧ t.isl.sokA = true ∧ t.fv fSAFE_STATUS_RELEASE_NEEDED = 0 ∧ windState t = 2)) ∧
  (∀ s (v : Word), s.pow.hubOn = true →
      windState s ≠ 2 ∨ s.fv fSAFE_CAUSE_CAUSES ≠ 0 ∨ bitsOf v.toNat 0 16 ≠ 0xB0C5
        ∨ s.on fSAFE_STATUS_RELEASE_NEEDED = false →
    Answers (.release v) s (fun t =>
      t.fv fSAFE_EVENT_RELEASE_REFUSED = 1 ∧ sok t = sok s ∧ t.isl.sokA = s.isl.sokA)) ∧
  (∀ s, s.pow.powered = true → s.isl.running = true → windState s = 2 →
      s.isl.windAt + s.isl.windPeriod * 1000000 ≤ s.dial →
    Answers .windingDeadline s (fun t =>
      windState t = 3 ∧ bitAt (t.fv fSAFE_CAUSE_CAUSES) 1 = true ∧ sok t ≠ 1
        ∧ t.pair rSAFE_WIND_DUE_LO rSAFE_WIND_DUE_HI = 0
        ∧ t.isl.inbox = s.isl.inbox ++ [(faultCode 0x05 0 0x0005, 1)])) ∧
  (∀ s, s.pow.powered = true → s.isl.running = true → windState s = 1 →
      s.isl.windAt + s.isl.windPeriod * 1000000 ≤ s.dial →
    Answers .windingDeadline s (fun t => t.isl.windCount = 0 ∧ t.regs = s.regs)) ∧
  (∀ s st, s.pow.powered = true → s.isl.running = true → st < 132 → displayLate s st = true →
      bitAt (s.fv fSAFE_CAUSE_CAUSES) 4 = false →
    Answers (.displayBudgetExpiry st) s (fun t =>
      bitAt (t.fv fSAFE_CAUSE_CAUSES) 4 = true ∧ sok t ≠ 1
        ∧ t.isl.inbox = s.isl.inbox ++ [(faultCode 0x05 0 0x0006, 4)])) ∧
  (∀ s, s.pow.powered = true → s.isl.running = true → s.isl.hotAt + 100000000 ≤ s.now →
    Answers .tempWarnRearm s (fun t => t.isl.warned = false ∧ t.regs = s.regs)) ∧
  (∀ s i (v : Word), s.pow.hubOn = true → i < 4 →
      s.reg (rSAFE_SAFETY_VIEWS i) &&& ~~~ v &&& BitVec.ofNat 32 (runningMask s i) = 0 →
    Answers (.safetyViewsWrite false i v) s (fun t =>
      t.reg (rSAFE_SAFETY_VIEWS i) = v ∧ SameRegsBut s t [rSAFE_SAFETY_VIEWS i])) ∧
  (∀ s i (v : Word), s.pow.hubOn = true → i < 4 →
      s.reg (rSAFE_SAFETY_VIEWS i) &&& ~~~ v &&& BitVec.ofNat 32 (runningMask s i) ≠ 0 →
    Answers (.safetyViewsWrite false i v) s (fun t =>
      t.reg (rSAFE_SAFETY_VIEWS i) = s.reg (rSAFE_SAFETY_VIEWS i) ∧ t.fv fSAFE_EVENT_CFG_IGNORED = 1)) ∧
  (∀ s (v : Word), s.pow.hubOn = true →
      s.reg rSAFE_DISPLAY_CV &&& ~~~ v &&& BitVec.ofNat 32 (runningMask s 4) = 0 →
    Answers (.safetyViewsWrite true 4 v) s (fun t =>
      t.reg rSAFE_DISPLAY_CV = v &&& 0xF#32 ∧ SameRegsBut s t [rSAFE_DISPLAY_CV])) ∧
  (∀ s, s.pow.powered = true → s.isl.running = true →
    Answers .logCommit s (fun t =>
      t.isl.log = s.isl.log.map (fun r => { r with committed := true }) ∧ t.regs = s.regs)) ∧
  (∀ s r l, s.pow.hubOn = true → s.isl.log = r :: l → 0 < s.fv fSAFE_LOG_STATUS_HELD →
    Answers (.logIndex 0#32) s (fun t =>
      t.rn (rSAFE_LOG_DATA 0) = r.seq % 2 ^ 32 ∧ t.rn (rSAFE_LOG_DATA 1) = r.code % 2 ^ 32)) ∧
  (∀ s v, s.pow.hubOn = true → s.fv fSAFE_LOG_STATUS_HELD = 0 →
    Answers (.logIndex v) s (fun t =>
      t.fv fSAFE_LOG_INDEX_INDEX = bitsOf v.toNat 0 16 ∧ ∀ k, k < 8 → t.rn (rSAFE_LOG_DATA k) = 0))

/-- DOMAIN_ON_REQUEST, DOMAIN_SELF_REFRESH_REQUEST, DOMAIN_OFF_REQUEST, DOMAIN_DRAINED, DOMAIN_FORCED, DOMAIN_OFF_DONE,
DOMAIN_POWER_UP_DONE, STANDBY_ENTER, STANDBY_REACHED and CLOCK_MONITOR_WINDOW (R537 to R543, R546): a request is judged and
starts the handshake, which drains, clamps and switches the domain; standby commits the log and loses LP5X memory; a clock
fails after two bad windows. -/
def Obligations.DomainsAndClocks : Prop :=
  (∀ s d, s.pow.hubOn = true → s.pow.phase ≠ .standbyEntry → 10 ≤ d → d < 18 → d ≠ 13 → s.fv (fPWR_DOM_STATE d) = 3 →
    Answers (.domainOnRequest d) s (fun t => t.fv (fPWR_DOM_STATE d) = 4 ∧ t.fv (fPWR_DOM_RESULT d) = 0)) ∧
  (∀ s d, s.pow.hubOn = true → d < 10 ∨ d = 13 →
    Answers (.domainOffRequest d) s (fun t =>
      t.fv (fPWR_DOM_STATE d) = s.fv (fPWR_DOM_STATE d) ∧ t.fv (fPWR_DOM_RESULT d) = 4
        ∧ t.fv fPWR_EVENT_DOMAIN_REFUSED = 1)) ∧
  (∀ s d, s.pow.hubOn = true → s.pow.phase ≠ .standbyEntry → d = 10 ∨ d = 11 → s.fv (fPWR_DOM_STATE d) = 0 →
      domInUse s d = false →
    Answers (.domainSelfRefreshRequest d) s (fun t =>
      t.fv (fPWR_DOM_STATE d) = 1 ∧ t.fv (fPWR_DOM_RESULT d) = 0 ∧ kget d t.pow.domTarget = some 2
        ∧ kget d t.pow.drainAt = some s.now ∧ t.mem = s.mem)) ∧
  (∀ s d, s.pow.hubOn = true → 12 ≤ d → d < 18 →
    Answers (.domainSelfRefreshRequest d) s (fun t =>
      t.fv (fPWR_DOM_RESULT d) = 4 ∧ t.fv (fPWR_DOM_STATE d) = s.fv (fPWR_DOM_STATE d))) ∧
  (∀ s d, s.pow.hubOn = true → s.pow.phase ≠ .standbyEntry → 10 ≤ d → d < 18 → d ≠ 13 → s.fv (fPWR_DOM_STATE d) = 0 →
      domInUse s d = false →
    Answers (.domainOffRequest d) s (fun t =>
      kget d t.pow.domTarget = some 3 ∧ kget d t.pow.drainAt = some s.now ∧ t.mem = s.mem
        ∧ (d ≠ 12 → t.fv (fPWR_DOM_STATE d) = 1 ∧ t.fv (fPWR_DOM_RESULT d) = 0))) ∧
  (∀ s d, s.pow.hubOn = true → s.pow.phase ≠ .standbyEntry → 10 ≤ d → d < 18 → d ≠ 13 → s.fv (fPWR_DOM_STATE d) = 0 →
      domInUse s d = true →
    Answers (.domainOffRequest d) s (fun t =>
      t.fv (fPWR_DOM_STATE d) = 0 ∧ t.fv (fPWR_DOM_RESULT d) = 1 ∧ t.fv fPWR_EVENT_DOMAIN_REFUSED = 1
        ∧ t.pow = s.pow)) ∧
  (∀ s d, s.pow.hubOn = true → d < 18 → s.fv (fPWR_DOM_STATE d) = 1 → kget d s.pow.clamped = none → domIdle s d = true →
    Answers (.domainDrained d) s (fun t => kget d t.pow.clamped = some true ∧ t.regs = s.regs)) ∧
  (∀ s d a, s.pow.hubOn = true → d < 18 → s.fv (fPWR_DOM_STATE d) = 1 → kget d s.pow.clamped = none →
      domIdle s d = false → kget d s.pow.drainAt = some a → a + 2000000 ≤ s.now →
    Answers (.domainForced d) s (fun t =>
      kget d t.pow.clamped = some true ∧ t.fv (fPWR_DOM_FORCED d) = 1 ∧ t.fv fPWR_EVENT_DOMAIN_FORCED = 1
        ∧ t.isl.inbox.getLast? = some (faultCode 0x0A d 0x0020, 0))) ∧
  (∀ s d x, s.pow.hubOn = true → d < 18 → s.fv (fPWR_DOM_STATE d) = 1 → kget d s.pow.clamped = some true →
      kget d s.pow.domTarget = some x → x = 2 ∨ x = 3 →
    Answers (.domainOffDone d) s (fun t =>
      kget d t.pow.clamped = none ∧ t.fv fPWR_EVENT_DOMAIN_DONE = 1
        ∧ (d ≠ 12 → d ≠ 13 → t.fv (fPWR_DOM_STATE d) = x)
        ∧ (d = 10 → x = 3 → ∀ a, memByte t a = if a < 2 ^ 33 then 0 else memByte s a)
        ∧ (d = 11 → x = 3 → ∀ a, memByte t a = if a / 2 ^ 33 = 1 then 0 else memByte s a)
        ∧ (x = 2 → t.mem = s.mem))) ∧
  (∀ s d, s.pow.hubOn = true → d < 18 → s.fv (fPWR_DOM_STATE d) = 4 →
    Answers (.domainPowerUpDone d) s (fun t =>
      t.fv fPWR_EVENT_DOMAIN_DONE = 1 ∧ (d ≠ 12 → t.fv (fPWR_DOM_STATE d) = 0) ∧ t.mem = s.mem)) ∧
  (∀ s (v : Word), s.pow.hubOn = true → s.pow.phase = .ready → bitAt v.toNat 16 = true → bitsOf v.toNat 0 16 = 0x5AB1 →
      standbyRefused s = false →
    Answers (.standbyEnter v) s (fun t =>
      t.pow.phase = .standbyEntry ∧ t.pow.hubOn = false ∧ t.fv fPWR_STATE_STATE = 1 ∧ sok t ≠ 1
        ∧ (∀ r ∈ t.isl.log, r.committed = true) ∧ t.mem = s.mem)) ∧
  (∀ s (v : Word), s.pow.hubOn = true → s.pow.phase = .ready → bitAt v.toNat 16 = true → bitsOf v.toNat 0 16 = 0x5AB1 →
      standbyRefused s = true →
    Answers (.standbyEnter v) s (fun t => t.pow = s.pow ∧ t.fv fPWR_EVENT_STANDBY_REFUSED = 1 ∧ t.isl = s.isl)) ∧
  (∀ s, s.pow.powered = true → s.pow.phase = .standbyEntry →
    Answers .standbyReached s (fun t =>
      t.pow.phase = .standby ∧ t.fv fPWR_STATE_STATE = 2 ∧ t.mem = []
        ∧ (∀ d, d < 18 → 1 ≤ d → t.fv (fPWR_DOM_STATE d) = 3 ∨ t.fv (fPWR_DOM_STATE d) = 5))) ∧
  (∀ s i khz ringKhz, s.pow.powered = true → i < 16 → i ≠ 2 → domOn s (clkDomain i) = true → khz < 2 ^ 21 →
      bitAt (s.fv fPWR_CLK_STATUS_FAIL) 2 = false → clkOff ringKhz (clkNominal i) 20 = false →
      clkOff khz (clkNominal i) 2 = false →
    Answers (.clockMonitorWindow i khz ringKhz) s (fun t =>
      t.fv (fPWR_CLK_MEAS_KHZ i) = khz ∧ kget i t.pow.clkBad = none ∧ SameRegsBut s t [rPWR_CLK_MEAS i])) ∧
  (∀ s i khz ringKhz, s.pow.powered = true → i < 16 → domOn s (clkDomain i) = true →
      clkOff ringKhz (clkNominal i) 20 = true → kget i s.pow.clkBad = some true →
      bitAt (s.fv fPWR_CLK_STATUS_FAIL) i = false →
    Answers (.clockMonitorWindow i khz ringKhz) s (fun t =>
      bitAt (t.fv fPWR_CLK_STATUS_FAIL) i = true ∧ t.fv fPWR_EVENT_CLOCK_FAIL = 1
        ∧ t.isl.inbox = s.isl.inbox ++ [(faultCode 0x0A (clkCode i).2 (clkCode i).1, 0)]))

/-- CR_TAIL, CQ_HEAD, SR_TAIL, KICK, SHADOW_POLL, SHADOW_READ_DONE, RING_ENABLE and COMMAND_FETCH (R344 to R353): a valid
doorbell moves its index, an invalid one is discarded, and register doorbells are discarded while the shadow area is used;
a valid configuration enables a ring at index 0; a fetched command waits, and a failed fetch halts its ring. -/
def Obligations.RingsAndFetch : Prop :=
  (∀ s i (v : Word), s.pow.hubOn = true → i < 16 → s.on fRING_SHADOW_CFG_EN = false →
      (bitsOf v.toNat 0 16 + 2 ^ 16 - s.fv (fCR_HEAD_INDEX i)) % 2 ^ 16 ≤ crSize s i →
    Answers (.crTail i v) s (fun t =>
      kget i t.ring.crTail = some (bitsOf v.toNat 0 16) ∧ t.regs = s.regs ∧ t.ring.srTail = s.ring.srTail)) ∧
  (∀ s i (v : Word), s.pow.hubOn = true → i < 16 → s.on fRING_SHADOW_CFG_EN = false →
      crSize s i < (bitsOf v.toNat 0 16 + 2 ^ 16 - s.fv (fCR_HEAD_INDEX i)) % 2 ^ 16 →
    Answers (.crTail i v) s (fun t => t.ring = s.ring ∧ t.fv fRING_EVENT_DB_INVALID = 1)) ∧
  (∀ s i (v : Word), s.pow.hubOn = true → s.on fRING_SHADOW_CFG_EN = true →
    Answers (.crTail i v) s (fun t => t.ring = s.ring ∧ t.fv fRING_EVENT_DB_IGNORED = 1)) ∧
  (∀ s j (v : Word), s.pow.hubOn = true → j < 64 → s.on fRING_SHADOW_CFG_EN = false →
      (s.fv (fCQ_TAIL_INDEX j) + 2 ^ 16 - bitsOf v.toNat 0 16) % 2 ^ 16 ≤ cqSize s j → (cqOf s j).hold = [] →
    Answers (.cqHead j v) s (fun t => (cqOf t j).head = bitsOf v.toNat 0 16 ∧ t.regs = s.regs)) ∧
  (∀ s k (v : Word), s.pow.hubOn = true → k < 512 → s.on fRING_SHADOW_CFG_EN = false →
      (bitsOf v.toNat 0 16 + 2 ^ 16 - s.fv (fSR_HEAD_INDEX k)) % 2 ^ 16 ≤ srSize s k →
    Answers (.srTail k v) s (fun t =>
      kget k t.ring.srTail = some (bitsOf v.toNat 0 16) ∧ t.regs = s.regs ∧ t.ring.crTail = s.ring.crTail)) ∧
  (∀ s (v : Word), s.pow.hubOn = true → bitAt v.toNat 0 = true → s.on fRING_SHADOW_CFG_EN = true → hostUp s = true →
    Answers (.kick v) s (fun t => t.ring.shadowReads = s.ring.shadowReads + 1 ∧ t.regs = s.regs)) ∧
  (∀ s, s.pow.hubOn = true → s.on fRING_SHADOW_CFG_EN = true → hostUp s = true →
    Answers .shadowPoll s (fun t => t.ring.shadowReads = s.ring.shadowReads + 1 ∧ t.regs = s.regs)) ∧
  (∀ s n bs, s.pow.hubOn = true → s.ring.shadowReads = n + 1 → s.on fRING_SHADOW_CFG_EN = true →
    Answers (.shadowReadDone (.data bs)) s (fun t =>
      t = shadowApply { s with ring := { s.ring with shadowReads := n } } bs)) ∧
  (∀ s n, s.pow.hubOn = true → s.ring.shadowReads = n + 1 →
    Answers (.shadowReadDone .failed) s (fun t =>
      t.ring = { s.ring with shadowReads := n } ∧ t.fv fRING_EVENT_SHADOW_ERR = 1)) ∧
  (∀ s i (v : Word), s.pow.hubOn = true → i < 16 → s.on (fCR_CFG_EN i) = false → bitAt v.toNat 0 = true →
      ringShapeOk (s.pair (rCR_BASE_LO i) (rCR_BASE_HI i)) (bitsOf v.toNat 1 4) 64 = true →
      s.on (fCQ_CFG_EN (bitsOf v.toNat 8 6)) = true →
      cqLoad s (bitsOf v.toNat 8 6) + 2 ^ bitsOf v.toNat 1 4 + 16 ≤ cqSize s (bitsOf v.toNat 8 6) →
    Answers (.ringEnable i v) s (fun t =>
      t.fv (fCR_CFG_EN i) = 1 ∧ t.fv (fCR_CFG_SIZE_LOG2 i) = bitsOf v.toNat 1 4
        ∧ t.fv (fCR_CFG_CQ i) = bitsOf v.toNat 8 6 ∧ t.fv (fCR_STATUS_STATE i) = 1 ∧ t.fv (fCR_HEAD_INDEX i) = 0
        ∧ kget i t.ring.crTail = some 0)) ∧
  (∀ s i (v : Word), s.pow.hubOn = true → i < 16 → s.on (fCR_CFG_EN i) = false →
      bitsOf v.toNat 1 4 < 4 ∨ 12 < bitsOf v.toNat 1 4 →
    Answers (.ringEnable i v) s (fun t =>
      t.reg (rCR_CFG i) = s.reg (rCR_CFG i) ∧ t.ring = s.ring ∧ t.fv fRING_EVENT_CFG_INVALID = 1)) ∧
  (∀ s j (v : Word), s.pow.hubOn = true → j < 64 → s.on (fCQ_CFG_EN j) = false → bitAt v.toNat 0 = true →
      ringShapeOk (cqBase s j) (bitsOf v.toNat 1 4) 32 = true →
    Answers (.ringEnable (16 + j) v) s (fun t =>
      t.fv (fCQ_CFG_EN j) = 1 ∧ t.fv (fCQ_TAIL_INDEX j) = 0 ∧ t.fv (fCQ_TAIL_PHASE j) = 1 ∧ t.rn (rCQ_STATUS j) = 0
        ∧ cqOf t j = {})) ∧
  (∀ s k (v : Word), s.pow.hubOn = true → k < 512 → s.on (fSR_CFG_EN k) = false → bitAt v.toNat 0 = true →
      ringShapeOk (s.pair (rSR_BASE_LO k) (rSR_BASE_HI k)) (bitsOf v.toNat 1 4) 32 = true →
      s.on (fCQ_CFG_EN (bitsOf v.toNat 8 6)) = true →
      cqLoad s (bitsOf v.toNat 8 6) + 2 ^ bitsOf v.toNat 1 4 + 16 ≤ cqSize s (bitsOf v.toNat 8 6) →
    Answers (.ringEnable (80 + k) v) s (fun t =>
      t.fv (fSR_CFG_EN k) = 1 ∧ t.fv (fSR_HEAD_INDEX k) = 0 ∧ kget k t.ring.srTail = some 0)) ∧
  (∀ s i bs p, s.pow.hubOn = true → s.on fGLB_BOOT_STATUS_READY = true → hostUp s = true → fetchRing s = some i →
      knownOp (parseCmd s.ring.nextId i (padTo 64 bs)).opcode = true →
      hasPayload (parseCmd s.ring.nextId i (padTo 64 bs)).opcode = false →
    Answers (.commandFetch (.data bs) p) s (fun t =>
      t.ring.waiting = s.ring.waiting ++ [parseCmd s.ring.nextId i (padTo 64 bs)]
        ∧ t.ring.opened = s.ring.opened ++ [parseCmd s.ring.nextId i (padTo 64 bs)]
        ∧ t.ring.lastFetched = i ∧ t.fv (fCR_HEAD_INDEX i) = (s.fv (fCR_HEAD_INDEX i) + 1) % 2 ^ 16)) ∧
  (∀ s i p, s.pow.hubOn = true → s.on fGLB_BOOT_STATUS_READY = true → hostUp s = true → fetchRing s = some i →
      s.on fRING_ASYNC_CFG_EN = false →
    Answers (.commandFetch .failed p) s (fun t =>
      t.fv (fCR_STATUS_STATE i) = 2 ∧ t.fv (fCR_HEAD_INDEX i) = s.fv (fCR_HEAD_INDEX i)
        ∧ t.fv fRING_EVENT_CR_HALTED = 1 ∧ t.fv fRING_EVENT_ASYNC_LOST = 1 ∧ t.ring.waiting = s.ring.waiting))

/-- NOP, QUERY, STREAM_BIND, STREAM_UNBIND, COALESCE_TIMEOUT, INT_ROUTE_WRITE and MSIX_UNMASK (R354, R357 to R359, R370 to
R373): the commands complete with their status in an entry at the tail of their completion ring; a binding is made and
released; a message is due when its time has passed, and follows the routing and the masks of its vector. -/
def Obligations.RingCommandsAndMessages : Prop :=
  (∀ s c, s.pow.hubOn = true → Starts s c 0x01 → Room s c → unusedZero c false false false false = true →
    Answers .nop s (fun t => Done s t c ∧ Wrote s t c 0x00 0 0 0 0 ∧ t.mem = s.mem)) ∧
  (∀ s c, s.pow.hubOn = true → Starts s c 0x01 → Room s c → unusedZero c false false false false = false →
    Answers .nop s (fun t => Done s t c ∧ Wrote s t c 0x04 0 0 0 0)) ∧
  (∀ s c, s.pow.hubOn = true → Starts s c 0x02 → Room s c → unusedZero c false true false true = true →
      c.arg0 % 4 = 0 → c.arg0 < 0x2000000 → c.len % 4 = 0 → 0 < c.len → c.len ≤ 4096 →
    Answers .query s (fun t =>
      Done s t c ∧ Wrote s t c 0x00 0 0 c.len 0
        ∧ t.wire.take (s.wire.length + 1) = s.wire ++ [⟨c.addr, (List.range (c.len / 4)).flatMap
            (fun i => leBytes 4 (queryVal s (c.arg0 + 4 * i))), false⟩])) ∧
  (∀ s c, s.pow.hubOn = true → Starts s c 0x10 → bitAt c.arg0 16 = false → unusedZero c true true false false = true →
      c.target < 256 → bitsOf c.arg0 9 7 = 0 → c.arg0 < 2 ^ 18 → streamOk c.target = true →
      streamRuns s c.target = false → s.on (fSR_CFG_EN (bitsOf c.arg0 0 9)) = true →
      s.on (fSR_STATUS_BOUND (bitsOf c.arg0 0 9)) = false →
    Answers .streamBind s (fun t =>
      Done s t c ∧ kget c.target t.ring.bind = some (bitsOf c.arg0 0 9)
        ∧ t.fv (fSR_STATUS_BOUND (bitsOf c.arg0 0 9)) = 1 ∧ t.fv (fSR_STATUS_STREAM (bitsOf c.arg0 0 9)) = c.target
        ∧ t.fv (fSR_STATUS_SLICE_CPL (bitsOf c.arg0 0 9)) = b2n (bitAt c.arg0 17))) ∧
  (∀ s c, s.pow.hubOn = true → Starts s c 0x10 → bitAt c.arg0 16 = true → unusedZero c true true false false = true →
      c.target < 256 → bitsOf c.arg0 9 7 = 0 → c.arg0 < 2 ^ 18 → streamOk c.target = true →
      streamRuns s c.target = false → s.on (fSR_CFG_EN (bitsOf c.arg0 0 9)) = true →
      s.on (fSR_STATUS_BOUND (bitsOf c.arg0 0 9)) = true → s.fv (fSR_STATUS_STREAM (bitsOf c.arg0 0 9)) = c.target →
      kget c.target s.ring.bind = some (bitsOf c.arg0 0 9) →
    Answers .streamUnbind s (fun t =>
      Done s t c ∧ kget c.target t.ring.bind = none ∧ t.fv (fSR_STATUS_BOUND (bitsOf c.arg0 0 9)) = 0)) ∧
  (∀ s j, s.pow.hubOn = true → j < 64 → s.fv (fCQ_COALESCE_TIME_US j) ≠ 0 → (cqOf s j).firstAt.isSome = true →
      s.on (fRING_INT_ROUTE_EN j) = true →
    Answers (.coalesceTimeout j) s (fun t =>
      (cqOf t j).due = false ∧ (cqOf t j).since = 0 ∧ (cqOf t j).firstAt = none)) ∧
  (∀ s j, s.pow.hubOn = true → j < 64 → s.fv (fCQ_COALESCE_TIME_US j) ≠ 0 → (cqOf s j).firstAt.isSome = true →
      s.on (fRING_INT_ROUTE_EN j) = false →
    Answers (.coalesceTimeout j) s (fun t =>
      (cqOf t j).due = true ∧ t.fv (fRING_INT_ROUTE_PENDING j) = 1 ∧ t.msgs = s.msgs)) ∧
  (∀ s src (v : Word), s.pow.hubOn = true → src < 512 →
    Answers (.intRouteWrite src v) s (fun t =>
      t.fv (fRING_INT_ROUTE_VECTOR src) = bitsOf v.toNat 0 11 ∧ t.fv (fRING_INT_ROUTE_EN src) = bitsOf v.toNat 15 1
        ∧ t.mem = s.mem)) ∧
  (∀ s v, s.pow.hubOn = true → v < 2048 → msixOn s = true → bitAt (cfgWord s 0x0B0).toNat 30 = false →
      s.on ⟨rPBA_PENDING (v / 32), v % 32, 1⟩ = true → hostUp s = true →
    Answers (.msixUnmask v) s (fun t =>
      t.fv (fMSIX_CTRL_MASK v) = 0 ∧ t.msgs = s.msgs ++ [v] ∧ t.fv ⟨rPBA_PENDING (v / 32), v % 32, 1⟩ = 0)) ∧
  (∀ s v, s.pow.hubOn = true → v < 2048 → s.on ⟨rPBA_PENDING (v / 32), v % 32, 1⟩ = false →
    Answers (.msixUnmask v) s (fun t =>
      t.fv (fMSIX_CTRL_MASK v) = 0 ∧ t.msgs = s.msgs ∧ SameRegsBut s t [rMSIX_CTRL v]))

/-- SCC_ENABLE, SCC_DISABLE, SCC_SOFT_RESET, SCC_RECOVER, SCC_RECOVERY_WAIT_END, SCC_TRANSACTION_START and
SCC_TRANSACTION_END (R119 to R132, R541): a controller whose bus check finds both lines high is IDLE, and a stuck line
starts a recovery, whose repeat ends IDLE or in FAULT; disabled, it is OFF; a queued byte starts a transaction, whose
result the requester gets. -/
def Obligations.BusControllers : Prop :=
  (∀ s n (v : Word), s.pow.hubOn = true → n < 32 → s.on (fSCC_STATUS_ABSENT n) = false → s.on (fSCC_CTRL_EN n) = false →
      domOn s (14 + n / 8) = true → bitsOf (v ||| 1#32).toNat 1 2 ≠ 3 → (sccSt s n).asked = false →
    Answers (.sccEnable n v .free) s (fun t =>
      t.fv (fSCC_CTRL_EN n) = 1 ∧ sccState t n = 2 ∧ t.fv (fSCC_CTRL_SPEED n) = bitsOf (v ||| 1#32).toNat 1 2
        ∧ t.fv (fSCC_CTRL_ARB_RETRY n) = bitsOf (v ||| 1#32).toNat 5 4 ∧ (sccSt t n).waiting = false)) ∧
  (∀ s n (v : Word), s.pow.hubOn = true → n < 32 → s.on (fSCC_STATUS_ABSENT n) = false → s.on (fSCC_CTRL_EN n) = false →
      domOn s (14 + n / 8) = true → bitsOf (v ||| 1#32).toNat 1 2 ≠ 3 →
    Answers (.sccEnable n v .stuckSda) s (fun t =>
      t.fv (fSCC_CTRL_EN n) = 1 ∧ sccState t n = 1 ∧ (sccSt t n).waiting = true ∧ t.fv (fSCC_EVENT_STUCK_SDA n) = 1
        ∧ t.fv (fSPORT_XRST_PULSE_BUSY n) = 1)) ∧
  (∀ s n (v : Word), s.pow.hubOn = true → n < 32 → s.on (fSCC_STATUS_ABSENT n) = false → s.on (fSCC_CTRL_EN n) = false →
      domOn s (14 + n / 8) = false → bitsOf (v ||| 1#32).toNat 1 2 ≠ 3 →
    Answers (.sccEnable n v .free) s (fun t => t.fv (fSCC_CTRL_EN n) = 0 ∧ t.fv (fSCC_EVENT_CFG_INVALID n) = 1)) ∧
  (∀ s n (v : Word) b, s.pow.hubOn = true → n < 32 → s.on (fSCC_STATUS_ABSENT n) = false →
      s.on (fSCC_CTRL_EN n) = true → bitsOf (v &&& 0xFFFFFFFE#32).toNat 1 2 ≠ 3 →
      bitsOf (v &&& 0xFFFFFFFE#32).toNat 1 2 = s.fv (fSCC_CTRL_SPEED n) →
      bitsOf (v &&& 0xFFFFFFFE#32).toNat 5 4 = s.fv (fSCC_CTRL_ARB_RETRY n) →
      (sccSt s n).cur = none → s.on (fSCC_LOCK_HELD n) = false →
    Answers (.sccDisable n v b) s (fun t =>
      t.fv (fSCC_CTRL_EN n) = 0 ∧ sccState t n = 0 ∧ (sccSt t n).cur = none ∧ (sccSt t n).asked = false)) ∧
  (∀ s n (v : Word) b, s.pow.hubOn = true → n < 32 → s.on (fSCC_STATUS_ABSENT n) = false →
      s.on (fSCC_CTRL_EN n) = true → bitAt (v ||| 8#32).toNat 0 = true → bitsOf (v ||| 8#32).toNat 1 2 ≠ 3 →
      bitsOf (v ||| 8#32).toNat 1 2 = s.fv (fSCC_CTRL_SPEED n) →
      bitsOf (v ||| 8#32).toNat 5 4 = s.fv (fSCC_CTRL_ARB_RETRY n) →
      (sccSt s n).cur = none → (sccSt s n).asked = false → s.on (fSCC_LOCK_HELD n) = false →
    Answers (.sccSoftReset n v b .free) s (fun t =>
      t.fv (fSCC_CTRL_EN n) = 1 ∧ sccState t n = 2 ∧ (sccSt t n).cur = none ∧ (sccSt t n).waiting = false)) ∧
  (∀ s n (v : Word), s.pow.hubOn = true → n < 32 → s.on (fSCC_STATUS_ABSENT n) = false →
      s.on (fSCC_CTRL_EN n) = true → bitAt ((v &&& 0xFFFFFFF7#32) ||| 0x10#32).toNat 0 = true →
      bitsOf ((v &&& 0xFFFFFFF7#32) ||| 0x10#32).toNat 1 2 ≠ 3 →
      bitsOf ((v &&& 0xFFFFFFF7#32) ||| 0x10#32).toNat 1 2 = s.fv (fSCC_CTRL_SPEED n) →
      bitsOf ((v &&& 0xFFFFFFF7#32) ||| 0x10#32).toNat 5 4 = s.fv (fSCC_CTRL_ARB_RETRY n) →
      (sccSt s n).cur = none → sccState s n = 2 →
    Answers (.sccRecover n v .stuckScl) s (fun t =>
      sccState t n = 1 ∧ (sccSt t n).waiting = true ∧ t.fv (fSCC_EVENT_STUCK_SCL n) = 1
        ∧ t.fv (fSPORT_XRST_PULSE_BUSY n) = 1)) ∧
  (∀ s n, s.pow.hubOn = true → n < 32 → (sccSt s n).waiting = true → (sccSt s n).asked = false →
    Answers (.sccRecoveryWaitEnd n .free) s (fun t =>
      sccState t n = 2 ∧ (sccSt t n).waiting = false
        ∧ t.isl.inbox = s.isl.inbox ++ [(faultCode 0x0E n 0x0005, 0)])) ∧
  (∀ s n, s.pow.hubOn = true → n < 32 → (sccSt s n).waiting = true →
    Answers (.sccRecoveryWaitEnd n .stuckScl) s (fun t =>
      sccState t n = 5 ∧ (sccSt t n).waiting = false ∧ t.fv (fSCC_EVENT_FAULT n) = 1
        ∧ t.isl.inbox = s.isl.inbox ++ [(faultCode 0x0E n 0x0007, 0)])) ∧
  (∀ s n x id i, s.pow.hubOn = true → n < 32 → (sccSt s n).cur = none → sccState s n = 2 →
      s.on (fSCC_LOCK_HELD n) = false → burstOn s n = none → lockLost s n = false →
      (∀ p ∈ pipesOn s n, dueBurst s p = none) → bridgeTxn s n = some x → x.who = .bridge id i →
    Answers (.sccTransactionStart n) s (fun t =>
      (sccSt t n).cur = some x ∧ (sccSt t n).restarts = 0 ∧ sccState t n = 3 ∧ t.mem = s.mem)) ∧
  (∀ s n p x, s.pow.hubOn = true → n < 32 → (sccSt s n).cur = none → sccState s n = 2 →
      s.on (fSCC_LOCK_HELD n) = false → burstOn s n = some p → burstTxn s p = some x →
    Answers (.sccTransactionStart n) s (fun t => (sccSt t n).cur = some x ∧ sccState t n = 3)) ∧
  (∀ s n x id i a b, s.pow.hubOn = true → n < 32 → (sccSt s n).cur = some x → (sccSt s n).again = false →
      x.who = .bridge id i → kget id s.bridge.accs = some a → a.kind = 2 → a.lost = false →
    Answers (.sccTransactionEnd n none b) s (fun t =>
      (sccSt t n).cur = none ∧ t.fv (fSCC_STATUS_LAST_RESULT n) = 0
        ∧ kget id t.bridge.accs = some { a with got := a.got ++ [b] })) ∧
  (∀ s n x id i a b, s.pow.hubOn = true → n < 32 → (sccSt s n).cur = some x → (sccSt s n).again = false →
      x.who = .bridge id i → kget id s.bridge.accs = some a → a.kind = 2 → a.lost = false → a.fail = 0 →
    Answers (.sccTransactionEnd n (some 0) b) s (fun t =>
      (sccSt t n).cur = none ∧ t.fv (fSCC_STATUS_LAST_RESULT n) = 1 ∧ t.fv (fSCC_EVENT_NACK n) = 1
        ∧ kget id t.bridge.accs = some { a with got := a.got ++ [0], fail := 1 }))

/-- ARBITRATION_LOST, BUS_ERROR_DETECTED, SCL_STRETCH_TIMEOUT, BUSY_TIMEOUT, LOCK_REQUEST, LOCK_END and LOCK_EXPIRY (R120 to
R122, R127, R128): a transaction that loses arbitration restarts while it may and then ends ARB_LOST; bus errors and
timeouts end it with their result; a lock is granted on an idle bus, ends when it is given up, and expires. -/
def Obligations.BusErrorsAndLocks : Prop :=
  (∀ s n x b, s.pow.hubOn = true → n < 32 → (sccSt s n).cur = some x → (sccSt s n).again = false →
      (sccSt s n).restarts < s.fv (fSCC_CTRL_ARB_RETRY n) →
    Answers (.arbitrationLost n b) s (fun t =>
      (sccSt t n).cur = some x ∧ (sccSt t n).restarts = (sccSt s n).restarts + 1 ∧ (sccSt t n).again = true
        ∧ t.fv (fSCC_STATUS_BUS_BUSY n) = 1
        ∧ t.fv (fSCC_CNT_COUNT n 2) = satTo 0xFFFF (s.fv (fSCC_CNT_COUNT n 2) + 1))) ∧
  (∀ s n x id i a b, s.pow.hubOn = true → n < 32 → (sccSt s n).cur = some x → (sccSt s n).again = false →
      s.fv (fSCC_CTRL_ARB_RETRY n) ≤ (sccSt s n).restarts → x.who = .bridge id i → kget id s.bridge.accs = some a →
      a.kind = 2 → a.lost = false → a.fail = 0 →
    Answers (.arbitrationLost n b) s (fun t =>
      (sccSt t n).cur = none ∧ t.fv (fSCC_STATUS_LAST_RESULT n) = 3 ∧ t.fv (fSCC_EVENT_ARB_LOST n) = 1
        ∧ kget id t.bridge.accs = some { a with got := a.got ++ [0], fail := 3 })) ∧
  (∀ s n x id i a b, s.pow.hubOn = true → n < 32 → (sccSt s n).cur = some x → x.who = .bridge id i →
      kget id s.bridge.accs = some a → a.kind = 2 → a.lost = false → a.fail = 0 →
    Answers (.busErrorDetected n b) s (fun t =>
      (sccSt t n).cur = none ∧ t.fv (fSCC_STATUS_LAST_RESULT n) = 4 ∧ t.fv (fSCC_EVENT_BUS_ERROR n) = 1
        ∧ kget id t.bridge.accs = some { a with got := a.got ++ [0], fail := 4 })) ∧
  (∀ s n x id i a b, s.pow.hubOn = true → n < 32 → (sccSt s n).cur = some x → x.who = .bridge id i →
      kget id s.bridge.accs = some a → a.kind = 2 → a.lost = false → a.fail = 0 →
    Answers (.sclStretchTimeout n b) s (fun t =>
      (sccSt t n).cur = none ∧ t.fv (fSCC_STATUS_LAST_RESULT n) = 5 ∧ t.fv (fSCC_EVENT_SCL_TIMEOUT n) = 1
        ∧ kget id t.bridge.accs = some { a with got := a.got ++ [0], fail := 5 })) ∧
  (∀ s n x id i a, s.pow.hubOn = true → n < 32 → (sccSt s n).cur = some x → (sccSt s n).again = true →
      x.who = .bridge id i → kget id s.bridge.accs = some a → a.kind = 2 → a.lost = false → a.fail = 0 →
    Answers (.busyTimeout n) s (fun t =>
      (sccSt t n).cur = none ∧ t.fv (fSCC_STATUS_LAST_RESULT n) = 6 ∧ t.fv (fSCC_EVENT_BUSY_TIMEOUT n) = 1
        ∧ kget id t.bridge.accs = some { a with got := a.got ++ [0], fail := 6 })) ∧
  (∀ s n, s.pow.hubOn = true → n < 32 → s.on (fSCC_LOCK_ACTIVE n) = false → sccState s n = 2 → (sccSt s n).cur = none →
    Answers (.lockRequest n) s (fun t =>
      t.fv (fSCC_LOCK_ACTIVE n) = 1 ∧ t.fv (fSCC_LOCK_HELD n) = 1 ∧ sccState t n = 4 ∧ t.mem = s.mem)) ∧
  (∀ s n, s.pow.hubOn = true → n < 32 → sccState s n = 0 ∨ sccState s n = 5 →
    Answers (.lockRequest n) s (fun t => t = s)) ∧
  (∀ s n, s.pow.hubOn = true → n < 32 → s.on (fSCC_LOCK_HELD n) = true → (sccSt s n).cur = none → sccState s n = 4 →
    Answers (.lockEnd n) s (fun t => t.rn (rSCC_LOCK n) = 0 ∧ sccState t n = 2 ∧ (sccSt t n).asked = false)) ∧
  (∀ s n x, s.pow.hubOn = true → n < 32 → s.on (fSCC_LOCK_HELD n) = true → (sccSt s n).cur = some x →
    Answers (.lockEnd n) s (fun t =>
      t.fv (fSCC_LOCK_ACTIVE n) = 0 ∧ t.fv (fSCC_LOCK_HELD n) = 1 ∧ (sccSt t n).ending = 1
        ∧ (sccSt t n).cur = some x)) ∧
  (∀ s n, s.pow.hubOn = true → n < 32 → s.on (fSCC_LOCK_HELD n) = true → (sccSt s n).cur = none → sccState s n = 4 →
    Answers (.lockExpiry n) s (fun t =>
      t.fv (fSCC_LOCK_HELD n) = 0 ∧ t.fv (fSCC_LOCK_EXPIRED n) = 1 ∧ t.fv (fSCC_EVENT_LOCK_EXPIRED n) = 1
        ∧ sccState t n = 2)) ∧
  (∀ s n x, s.pow.hubOn = true → n < 32 → s.on (fSCC_LOCK_HELD n) = true → (sccSt s n).cur = some x →
      (sccSt s n).ending ≠ 1 →
    Answers (.lockExpiry n) s (fun t => (sccSt t n).ending = 2 ∧ t.regs = s.regs))

/-- ESC_PROFILE_LOAD, ESC_FLUSH, WRITE_WINDOW_OPEN, BURST_START, BURST_LATEST_START_PASSED, SETTINGS and
FRESHNESS_BUDGET_EXPIRY (R142 to R157, R192): a valid staged profile is taken, and an invalid one is not; a flush fails
every entry; a burst becomes due, starts when it can still end in time, and is late otherwise, which retargets its entry;
a packet is refused with its status or becomes an entry; a view whose budget has passed is STALE. -/
def Obligations.EscapementAndFreshness : Prop :=
  (∀ s p, s.pow.hubOn = true → p < 32 → started s p = false →
      profileErr (stagedProfile s p) ((mapEntries s.arn p).any (fun e => decide (32 ≤ e.1))) = none →
    Answers (.escProfileLoad p) s (fun t =>
      (escOf t p).profile = some (profileOf (stagedProfile s p)) ∧ t.fv (fESCP_STATUS_PROFILE_VALID p) = 1)) ∧
  (∀ s p o, s.pow.hubOn = true → p < 32 → started s p = false →
      profileErr (stagedProfile s p) ((mapEntries s.arn p).any (fun e => decide (32 ≤ e.1))) = some o →
    Answers (.escProfileLoad p) s (fun t =>
      (escOf t p).profile = none ∧ t.fv (fESCP_STATUS_PROFILE_VALID p) = 0
        ∧ t.fv (fESCP_STATUS_PROFILE_ERR p) = o % 256 ∧ t.fv (fESCP_EVENT_PROFILE_INVALID p) = 1)) ∧
  (∀ s p, s.pow.hubOn = true → p < 32 → started s p = true →
    Answers (.escProfileLoad p) s (fun t => t.esc = s.esc ∧ t.fv (fESCP_EVENT_CFG_IGNORED p) = 1)) ∧
  (∀ s p, s.pow.hubOn = true → p < 32 →
    Answers (.escFlush p) s (fun t =>
      (escOf t p).entries = [] ∧ (∀ b ∈ (escOf t p).bursts, b.running = true)
        ∧ (escOf t p).profile = (escOf s p).profile)) ∧
  (∀ s p b n, s.pow.hubOn = true → p < 32 → (escOf s p).bursts.find? (fun b => !b.due) = some b → sccOf s p = some n →
      sccState s n ≠ 5 →
    Answers (.writeWindowOpen p) s (fun t =>
      (escOf t p).bursts = (escOf s p).bursts.map (fun x => if x.frame = b.frame then { x with due := true } else x)
        ∧ t.regs = s.regs)) ∧
  (∀ s n p b x, s.pow.hubOn = true → n < 32 → sccState s n = 2 → burstOn s n = none → pipesOn s n = [p] →
      dueBurst s p = some b → (s.dial : Int) ≤ b.latest →
      burstTxn (setEsc s p { escOf s p with bursts := { b with running := true } :: (escOf s p).bursts.tail }) p = some x →
    Answers (.burstStart n) s (fun t =>
      (sccSt t n).cur = some x ∧ sccState t n = 3
        ∧ (escOf t p).bursts = { b with running := true } :: (escOf s p).bursts.tail)) ∧
  (∀ s p pr b e, s.pow.hubOn = true → p < 32 → (escOf s p).profile = some pr → (escOf s p).bursts = [b] →
      b.running = false → b.nacked = [] → (escOf s p).entries = [e] → burstEntries b = [e.id] →
      e.noRetarget = false → e.nacks < 3 →
    Answers (.burstLatestStartPassed p) s (fun t =>
      (escOf t p).bursts = []
        ∧ (escOf t p).entries = [{ e with
            target := max (e.target + 1) (frameNo s p + 1 + Int.ofNat (maxDelay pr e.groups)), written := [],
            reached := false }]
        ∧ t.fv (fESCP_EVENT_LATE p) = 1
        ∧ t.fv (fESCP_CNT_LATE p) = satTo 0xFFFF (s.fv (fESCP_CNT_LATE p) + 1))) ∧
  (∀ s c st, s.pow.hubOn = true → Starts s c 0x20 → Room s c → cmdSettings.unusedZero' c = true →
      settingsReject s c.payload c.len = some st →
    Answers .settings s (fun t =>
      Done s t c ∧ t.esc = s.esc
        ∧ Wrote s t c st (leAt c.payload 8 4)
            (s.rn (rCMT_FSN (leAt c.payload 0 1 % 32)) * 2 ^ 32 + leAt c.payload 4 4) 0 0)) ∧
  (∀ s c p pr, s.pow.hubOn = true → Starts s c 0x20 → cmdSettings.unusedZero' c = true →
      settingsReject s c.payload c.len = none → leAt c.payload 0 1 = p → (escOf s p).profile = some pr →
      bitAt (leAt c.payload 1 1) 0 = false →
      (∀ g, g < 16 → frameNo s p < unwrap s p (leAt c.payload 4 4) - Int.ofNat (delayOf pr g)) → -1 ≤ frameNo s p →
    Answers .settings s (fun t =>
      (escOf t p).entries.length = (escOf s p).entries.length + 1
        ∧ (escOf t p).entries.getLast?.map (fun e => (e.id, e.target))
            = some ((escOf s p).nextId, unwrap s p (leAt c.payload 4 4))
        ∧ t.ring.opened = s.ring.opened)) ∧
  (∀ s st, s.pow.hubOn = true → st < 128 → budgetOver s st = true → isSafety s st = false →
    Answers (.freshnessBudgetExpiry st) s (fun t =>
      viewStale t st = true ∧ t.fv (fCMT_FRESH_STATUS_VIOLATED (st / 4) (st % 4)) = 1 ∧ (fresh t st).run = 0
        ∧ t.fv (evStale st) = 1
        ∧ t.isl.inbox = s.isl.inbox ++ [(faultCode 0x11 (st / 4) (0x0100 + st % 4), 0)])) ∧
  (∀ s st, s.pow.hubOn = true → st < 132 → budgetOver s st = true → isSafety s st = true →
    Answers (.freshnessBudgetExpiry st) s (fun t =>
      viewStale t st = true ∧ bitAt (t.fv fSAFE_CAUSE_CAUSES) 3 = true ∧ sok t ≠ 1))

/-- LARDER_WORD_WRITE, PUSH_DATA, PUSH_DATA_END, POP_READ, LARDER_AUDIT_DONE, QUEUE_FLUSH, LARDER_FLUSH_DONE and
QUEUE_ENABLE (R302 to R315): a producer and a push put one word at the tail of a queue, a pop takes the word at the head
of the open packet, and an idle group is an underrun; a flush and an audit empty a queue; a queue is enabled with its
reservation as credit. -/
def Obligations.Larder : Prop :=
  (∀ s st k w n bs p, s.pow.hubOn = true → st < 192 → kgetD [] st s.prod = [k] → queueEn s st = true → 0 < k.sent →
      k.body = .stats n bs p → k.words = [w] → (queueOfL s st).discarding = false → s.on (fLQ_CTRL_AUDIT st) = false →
      needsCell s st = false →
    Answers (.larderWordWrite st) s (fun t =>
      (queueOfL t st).words = (queueOfL s st).words
          ++ [⟨w, true, false, (queueOfL s st).cells.getLast?.getD 0, (queueOfL s st).tailUsed, none⟩]
        ∧ kgetD [] st t.prod = [] ∧ (queueOfL t st).orders = (queueOfL s st).orders ++ [s.larder.order]
        ∧ t.regs = s.regs)) ∧
  (∀ s st k n bs p, s.pow.hubOn = true → st < 192 → kgetD [] st s.prod = [k] → queueEn s st = true → k.sent = 0 →
      k.body = .stats n bs p → credit s st < ceilDiv bs.length 256 + 1 →
    Answers (.larderWordWrite st) s (fun t =>
      kgetD [] st t.prod = [] ∧ t.larder = s.larder ∧ t.fv fLARDER_EVENT_STARVED = 1
        ∧ t.isl.inbox = s.isl.inbox ++ [(faultCode 0x14 st 0x0005, 0)])) ∧
  (∀ s q v, s.pow.hubOn = true → 192 ≤ q → q < 4096 → pushRefused s q = false → (queueOfL s q).discarding = false →
      s.on (fLQ_CTRL_AUDIT q) = false →
    Answers (.pushData q v) s (fun t =>
      (queueOfL t q).words.map (fun w => (w.data, w.last)) = (queueOfL s q).words.map (fun w => (w.data, w.last))
          ++ [(v.toNat, false)]
        ∧ (queueOfL t q).inPkt = true ∧ (queueOfL t q).orders = (queueOfL s q).orders)) ∧
  (∀ s q v, s.pow.hubOn = true → q < 4096 → queueEn s q = false →
    Answers (.pushData q v) s (fun t =>
      t.larder = s.larder ∧ t.fv fLARDER_EVENT_PUSH_REFUSED = 1
        ∧ t.isl.inbox = s.isl.inbox ++ [(faultCode 0x14 (q / 16) 0x0007, 0)])) ∧
  (∀ s q v, s.pow.hubOn = true → 192 ≤ q → q < 4096 → pushRefused s q = false → (queueOfL s q).discarding = false →
      s.on (fLQ_CTRL_AUDIT q) = false →
    Answers (.pushDataEnd q v) s (fun t =>
      (queueOfL t q).words.map (fun w => (w.data, w.last)) = (queueOfL s q).words.map (fun w => (w.data, w.last))
          ++ [(v.toNat, true)]
        ∧ (queueOfL t q).inPkt = false ∧ (queueOfL t q).orders = (queueOfL s q).orders ++ [s.larder.order]
        ∧ t.larder.order = s.larder.order + 1)) ∧
  (∀ s g q w ws, s.pow.hubOn = true → g < 256 → softConsumer s g = true → (groupOfL s g).opened = none →
      nextOpen s g = some q → (groupOfL s g).cut = false → (queueOfL s q).words = w :: ws → w.poison = false →
    Answers (.popRead g 8 .none) s (fun t =>
      t.reply = ⟨.success, leBytes 8 w.data⟩ ∧ (queueOfL t q).words = ws
        ∧ (groupOfL t g).opened = (if w.last then none else some q) ∧ t.fv (fLARDER_POP_TAG_END g) = b2n w.last
        ∧ t.fv (fLARDER_POP_TAG_UNDERRUN g) = 0)) ∧
  (∀ s g, s.pow.hubOn = true → g < 256 → softConsumer s g = true → (groupOfL s g).opened = none → nextOpen s g = none →
    Answers (.popRead g 8 .none) s (fun t =>
      t.reply = ⟨.success, leBytes 8 (groupOfL s g).lastWord⟩ ∧ t.larder = s.larder
        ∧ t.fv (fLARDER_POP_TAG_UNDERRUN g) = 1 ∧ t.fv fLARDER_EVENT_UNDERRUN = 1
        ∧ t.isl.inbox = s.isl.inbox ++ [(faultCode 0x14 g 0x0006, 0)])) ∧
  (∀ s g size e, s.pow.hubOn = true → g < 256 → softConsumer s g = false →
    Answers (.popRead g size e) s (fun t =>
      t.reply = ⟨.success, leBytes size 0⟩ ∧ t.larder = s.larder ∧ t.fv fLARDER_EVENT_CFG_INVALID = 1)) ∧
  (∀ s q, s.pow.hubOn = true → q < 4096 → s.on (fLQ_CTRL_AUDIT q) = true → (queueOfL s q).releasing = false →
    Answers (.larderAuditDone q []) s (fun t =>
      t.fv (fLQ_CTRL_AUDIT q) = 0 ∧ (queueOfL t q).cells = [] ∧ (queueOfL t q).flushing = false
        ∧ credit t q = s.fv (fLQ_RESERVE_CELLS q))) ∧
  (∀ s q (v : Word), s.pow.hubOn = true → 192 ≤ q → q < 4096 → s.on (fLQ_CTRL_AUDIT q) = false → bitAt v.toNat 0 = true →
    Answers (.queueFlush q false v) s (fun t =>
      (queueOfL t q).words = [] ∧ (queueOfL t q).orders = [] ∧ (queueOfL t q).flushing = true
        ∧ (queueOfL t q).discarding = ((queueOfL s q).discarding || (queueOfL s q).inPkt))) ∧
  (∀ s q (v : Word), s.pow.hubOn = true → 192 ≤ q → q < 4096 → s.on (fLQ_CTRL_AUDIT q) = false → bitAt v.toNat 0 = false →
      queueEn s q = true →
    Answers (.queueFlush q true v) s (fun t =>
      queueEn t q = false ∧ (queueOfL t q).releasing = true ∧ (queueOfL t q).words = [] ∧ (queueOfL t q).cells = []
        ∧ (queueOfL t q).flushing = true)) ∧
  (∀ s q, s.pow.hubOn = true → q < 4096 → (queueOfL s q).flushing = true →
    Answers (.larderFlushDone q) s (fun t =>
      (queueOfL t q).flushing = false ∧ (queueOfL t q).back = [] ∧ (queueOfL t q).releasing = false
        ∧ (queueOfL t q).words = (queueOfL s q).words)) ∧
  (∀ s q (v : Word), s.pow.hubOn = true → 192 ≤ q → q < 4096 → bitAt v.toNat 0 = true → queueEn s q = false →
      (queueOfL s q).releasing = false → 192 ≤ bitsOf v.toNat 2 8 → memberCount s (bitsOf v.toNat 2 8) < 16 →
      0 < s.fv (fLQ_RESERVE_CELLS q) → poolReserved s + s.fv (fLQ_RESERVE_CELLS q) ≤ poolLimit s →
    Answers (.queueEnable q v) s (fun t =>
      queueEn t q = true ∧ queueGroup t q = bitsOf v.toNat 2 8 ∧ t.fv (fLQ_CFG_LEVEL q) = bitsOf v.toNat 10 3
        ∧ credit t q = s.fv (fLQ_RESERVE_CELLS q) ∧ t.larder = s.larder)) ∧
  (∀ s q (v : Word), s.pow.hubOn = true → 192 ≤ q → q < 4096 → bitAt v.toNat 0 = true → queueEn s q = false →
      (queueOfL s q).releasing = false → 192 ≤ bitsOf v.toNat 2 8 → memberCount s (bitsOf v.toNat 2 8) < 16 →
      0 < s.fv (fLQ_RESERVE_CELLS q) → poolLimit s < poolReserved s + s.fv (fLQ_RESERVE_CELLS q) →
    Answers (.queueEnable q v) s (fun t =>
      queueEn t q = false ∧ t.larder = s.larder ∧ t.fv fLARDER_EVENT_RESERVE_REFUSED = 1))

/-- SPORT_ENABLE, SPORT_SOFT_RESET, STOP_STATE_EXIT, ULPS_ENTRY, DESKEW_SEQUENCE, STOP_STATE_ENTRY, PHY_LINK_LOST,
FRAME_TIMEOUT, MCLK_WRITE, XRST_PULSE and XRST_PULSE_END (R64 to R68, R82, R91, R93, R97, R541): a port is enabled with a
valid configuration in a powered group, and a reset forgets its frames; STATUS follows the lanes; a frame that takes too
long is closed; the clock and reset outputs follow their registers. -/
def Obligations.SensorPorts : Prop :=
  (∀ s n (v : Word), s.pow.hubOn = true → n < 32 → sportAbsent s n = false → s.on (fSPORT_CTRL_EN n) = false →
      bitAt v.toNat 6 = false → bitAt v.toNat 0 = true → sportUp s n = true → sportCfgOk s n v.toNat = true →
    Answers (.sportEnable n v) s (fun t => ∃ u, t = settleAll u ∧
      u.fv (fSPORT_CTRL_EN n) = 1 ∧ u.fv (fSPORT_CTRL_PHY_MODE n) = bitsOf v.toNat 1 1
        ∧ u.fv (fSPORT_CTRL_LANES n) = bitsOf v.toNat 2 2 ∧ u.port = s.port)) ∧
  (∀ s n (v : Word), s.pow.hubOn = true → n < 32 → sportAbsent s n = false → s.on (fSPORT_CTRL_EN n) = false →
      bitAt v.toNat 6 = false → bitAt v.toNat 0 = true → sportUp s n = false →
    Answers (.sportEnable n v) s (fun t => ∃ u, t = settleAll u ∧
      u.fv (fSPORT_CTRL_EN n) = 0 ∧ u.fv (fSPORT_EVENT_CFG_INVALID n) = 1)) ∧
  (∀ s n (v : Word), s.pow.hubOn = true → n < 32 → sportAbsent s n = false → s.on (fSPORT_CTRL_EN n) = false →
      bitAt v.toNat 6 = true →
    Answers (.sportSoftReset n v) s (fun t =>
      portOf t n = {} ∧ ∃ u, t = settleAll u ∧ u.fv (fSPORT_CTRL_EN n) = 0 ∧ u.fv (fSPORT_STATUS_PHY_READY n) = 0
        ∧ u.fv (fSPORT_STATUS_DESKEW_DONE n) = 0)) ∧
  (∀ s n c, s.pow.hubOn = true → n < 32 → sportOn s n = true →
    Answers (.stopStateExit n c) s (fun t =>
      t.fv (fSPORT_STATUS_DESKEW_DONE n) = 0 ∧ t.fv (fSPORT_STATUS_ULPS n) = 0
        ∧ t.fv (fSPORT_STATUS_CLK_PRESENT n) = b2n c ∧ (portOf t n).exited = true
        ∧ SameRegsBut s t [rSPORT_STATUS n])) ∧
  (∀ s n, s.pow.hubOn = true → n < 32 → sportOn s n = true →
    Answers (.ulpsEntry n) s (fun t =>
      t.fv (fSPORT_STATUS_ULPS n) = 1 ∧ t.fv (fSPORT_STATUS_CLK_PRESENT n) = 0 ∧ t.port = s.port
        ∧ SameRegsBut s t [rSPORT_STATUS n])) ∧
  (∀ s n, s.pow.hubOn = true → n < 32 → sportHears s n = true →
    Answers (.deskewSequence n) s (fun t =>
      t.fv (fSPORT_STATUS_DESKEW_DONE n) = 1 ∧ (portOf t n).exited = false ∧ SameRegsBut s t [rSPORT_STATUS n])) ∧
  (∀ s n c, s.pow.hubOn = true → n < 32 → sportOn s n = true →
    Answers (.stopStateEntry n c) s (fun t =>
      t.fv (fSPORT_STATUS_PHY_READY n) = 1 ∧ t.fv (fSPORT_STATUS_ULPS n) = 0
        ∧ t.fv (fSPORT_STATUS_CLK_PRESENT n) = b2n c ∧ t.port = s.port ∧ SameRegsBut s t [rSPORT_STATUS n])) ∧
  (∀ s n c, s.pow.hubOn = true → n < 32 → sportHears s n = true → (portOf s n).exited = false →
    Answers (.phyLinkLost n c) s (fun t =>
      t.fv (fSPORT_EVENT_PHY_LOST n) = 1 ∧ t.fv (fSPORT_STATUS_CLK_PRESENT n) = b2n c
        ∧ t.fv (fSPORT_CNT_COUNT n 1) = satTo 0xFFFF (s.fv (fSPORT_CNT_COUNT n 1) + 1) ∧ t.port = s.port)) ∧
  (∀ s n k p f x, s.pow.hubOn = true → n < 36 → k < 16 → (chanSt s n k).frame = some (p, f) → frameOf s p f = some x →
      x.fs + portTimeoutMs s n * 1000000 ≤ s.dial →
    Answers (.frameTimeout n k) s (fun t =>
      (chanSt t n k).frame = none ∧ (chanSt t n k).skip = true
        ∧ ∃ u, t = settleAll u ∧ u.fv (portOpen n k) = 0)) ∧
  (∀ s n (v : Word), s.pow.hubOn = true → n < 32 → sportAbsent s n = false →
      bitAt v.toNat 16 = false ∨ sportUp s n = true → 6000 ≤ bitsOf v.toNat 0 16 → bitsOf v.toNat 0 16 ≤ 54000 →
    Answers (.mclkWrite n v) s (fun t =>
      t.fv (fSPORT_MCLK_KHZ n) = bitsOf v.toNat 0 16 ∧ t.fv (fSPORT_MCLK_EN n) = bitsOf v.toNat 16 1 ∧ t.port = s.port)) ∧
  (∀ s n (v : Word), s.pow.hubOn = true → n < 32 → sportAbsent s n = false → bitsOf v.toNat 16 16 ≠ 0 →
      bitAt v.toNat 1 = true →
    Answers (.xrstPulse n v) s (fun t =>
      t.fv (fSPORT_XRST_PULSE_BUSY n) = 1 ∧ t.fv (fSPORT_XRST_PULSE_US n) = bitsOf v.toNat 16 16
        ∧ t.fv (fSPORT_XRST_LEVEL n) = bitsOf v.toNat 0 1)) ∧
  (∀ s n (v : Word), s.pow.hubOn = true → n < 32 → sportAbsent s n = false → bitsOf v.toNat 16 16 = 0 →
    Answers (.xrstPulse n v) s (fun t =>
      t.reg (rSPORT_XRST n) = s.reg (rSPORT_XRST n) ∧ t.fv (fSPORT_EVENT_CFG_INVALID n) = 1)) ∧
  (∀ s n, s.pow.hubOn = true → n < 32 →
    Answers (.xrstPulseEnd n) s (fun t => t.fv (fSPORT_XRST_PULSE_BUSY n) = 0 ∧ SameRegsBut s t [rSPORT_XRST n]))

/-- FRAME_START_PACKET, LINE_START_PACKET, LONG_PACKET, GENERIC_SHORT_PACKET, FRAME_END_PACKET, LPORT_VSYNC_ACTIVE,
LPORT_LINE and LPORT_VSYNC_INACTIVE (R69 to R90): an accepted frame start takes the next frame number and its stamp, a
frame start of a stopped pipeline is dropped; an image line joins its frame; a frame end closes the frame; what has no
frame is an orphan. -/
def Obligations.PacketsAndLines : Prop :=
  (∀ s n vc num k p, s.pow.hubOn = true → n < 32 → sportHears s n = true → (portOf s n).exited = false →
      routeOf s n vc = some (k, p) → accepts s p = true → (chanSt s n k).frame = none →
    Answers (.frameStartPacket n vc num .good) s (fun t =>
      frameNo t p = frameNo s p + 1 ∧ frameAt t p = s.dial ∧ (chanSt t n k).frame = some (p, frameNo s p + 1)
        ∧ (chanSt t n k).fn = some num ∧ (chanSt t n k).skip = false)) ∧
  (∀ s n vc num k p, s.pow.hubOn = true → n < 32 → sportHears s n = true → (portOf s n).exited = false →
      routeOf s n vc = some (k, p) → accepts s p = false → (chanSt s n k).frame = none →
    Answers (.frameStartPacket n vc num .good) s (fun t =>
      t.frameNo = s.frameNo ∧ (chanSt t n k).frame = none ∧ (chanSt t n k).skip = true
        ∧ ∃ u, t = settleAll u ∧ u.fv (fSPORT_EVENT_NOT_STARTED n) = 1)) ∧
  (∀ s n vc num, s.pow.hubOn = true → n < 32 → sportHears s n = true → (portOf s n).exited = false →
    Answers (.frameStartPacket n vc num .bad) s (fun t => ∃ u, t = settleAll u ∧
      u.fv (fSPORT_EVENT_ECC_DROP n) = 1 ∧ u.frameNo = s.frameNo ∧ u.port = s.port ∧ u.pipe = s.pipe)) ∧
  (∀ s n vc num k p, s.pow.hubOn = true → n < 32 → sportHears s n = true → (portOf s n).exited = false →
      routeOf s n vc = some (k, p) →
    Answers (.lineStartPacket n vc num .good) s (fun t =>
      (chanSt t n k).ls = some num ∧ (chanSt t n k).frame = (chanSt s n k).frame ∧ t.regs = s.regs)) ∧
  (∀ s n vc dt bytes k p q f x l, s.pow.hubOn = true → n < 32 → sportHears s n = true → (portOf s n).exited = false →
      routeOf s n vc = some (k, p) → dt = s.av (fSPORT_VC_MAP_DT n k) → dt ≠ 0x10 → dt ≠ 0x11 → dt ≠ 0x12 →
      (chanSt s n k).skip = false → (chanSt s n k).frame = some (q, f) → (chanSt s n k).ls = none →
      frameOf s q f = some x → x.ignore = false → x.fe = none → x.began = true → x.lines.length < x.height →
      unpackLine dt x.width bytes = (some l, false) →
    Answers (.longPacket n vc dt bytes .good true false) s (fun t => ∃ u, t = settleAll u ∧
      (frameOf u q f).map (fun y => y.lines) = some (x.lines ++ [l])
        ∧ (frameOf u q f).map (fun y => y.damaged) = some x.damaged ∧ u.port = s.port)) ∧
  (∀ s n vc dt bytes k p, s.pow.hubOn = true → n < 32 → sportHears s n = true → (portOf s n).exited = false →
      routeOf s n vc = some (k, p) → dt = s.av (fSPORT_VC_MAP_DT n k) → dt ≠ 0x10 → dt ≠ 0x11 →
      (chanSt s n k).skip = false → (chanSt s n k).frame = none →
    Answers (.longPacket n vc dt bytes .good true false) s (fun t => ∃ u, t = settleAll u ∧
      u.fv (fSPORT_EVENT_ORPHAN n) = 1
        ∧ u.fv (fSPORT_CNT_COUNT n 9) = satTo 0xFFFF (s.fv (fSPORT_CNT_COUNT n 9) + 1) ∧ u.pipe = s.pipe)) ∧
  (∀ s n, s.pow.hubOn = true → n < 32 → sportHears s n = true → (portOf s n).exited = false →
    Answers (.genericShortPacket n .good) s (fun t =>
      t.fv (fSPORT_CNT_COUNT n 8) = satTo 0xFFFF (s.fv (fSPORT_CNT_COUNT n 8) + 1) ∧ t.port = s.port
        ∧ SameRegsBut s t [rSPORT_CNT n 8])) ∧
  (∀ s n vc k p q f x, s.pow.hubOn = true → n < 32 → sportHears s n = true → (portOf s n).exited = false →
      routeOf s n vc = some (k, p) → (chanSt s n k).frame = some (q, f) → frameOf s q f = some x →
    Answers (.frameEndPacket n vc .good) s (fun t =>
      (chanSt t n k).frame = none ∧ (chanSt t n k).ls = none ∧ t.frameNo = s.frameNo
        ∧ ∃ u, t = settleAll u ∧ u.fv (portOpen n k) = 0)) ∧
  (∀ s m, s.pow.hubOn = true → m < 4 → lportOn s m = true → s.aon (fLPORT_MAP_EN m) = true →
      accepts s (s.av (fLPORT_MAP_PIPE m)) = true → (chanSt s (32 + m) 0).frame = none →
    Answers (.lportVsyncActive m) s (fun t =>
      frameNo t (s.av (fLPORT_MAP_PIPE m)) = frameNo s (s.av (fLPORT_MAP_PIPE m)) + 1
        ∧ (chanSt t (32 + m) 0).frame = some (s.av (fLPORT_MAP_PIPE m), frameNo s (s.av (fLPORT_MAP_PIPE m)) + 1)
        ∧ (portOf t (32 + m)).passed = 0 ∧ (portOf t (32 + m)).pclk = some s.now)) ∧
  (∀ s m words p f x, s.pow.hubOn = true → m < 4 → lportOn s m = true → (chanSt s (32 + m) 0).skip = false →
      (chanSt s (32 + m) 0).frame = some (p, f) → frameOf s p f = some x → x.ignore = false → x.fe = none →
      (portOf s (32 + m)).passed < s.fv (fLPORT_START_VSTART m) →
    Answers (.lportLine m words false) s (fun t =>
      (portOf t (32 + m)).passed = (portOf s (32 + m)).passed + 1 ∧ (portOf t (32 + m)).pclk = some s.now)) ∧
  (∀ s m words p f x l, s.pow.hubOn = true → m < 4 → lportOn s m = true → (chanSt s (32 + m) 0).skip = false →
      (chanSt s (32 + m) 0).frame = some (p, f) → frameOf s p f = some x → x.ignore = false → x.fe = none →
      s.fv (fLPORT_START_VSTART m) ≤ (portOf s (32 + m)).passed → x.seen = 1 → x.began = true →
      x.lines.length < x.height → lportSamples x.rd m x.width (lportWords s m x words) = (some l, false) →
    Answers (.lportLine m words false) s (fun t => ∃ u, t = settleAll u ∧
      (frameOf u p f).map (fun y => y.lines) = some (x.lines ++ [l]))) ∧
  (∀ s m p f x, s.pow.hubOn = true → m < 4 → lportOn s m = true → (chanSt s (32 + m) 0).frame = some (p, f) →
      frameOf s p f = some x →
    Answers (.lportVsyncInactive m) s (fun t =>
      (chanSt t (32 + m) 0).frame = none ∧ t.frameNo = s.frameNo
        ∧ ∃ u, t = settleAll u ∧ u.fv (fLPORT_STATUS_FRAME_OPEN m) = 0))

/-- PLATE_LOAD, COMMIT, COMMIT_CHECK, CANVAS_ENABLE, CANVAS_FRAME_START and CANVAS_SLICE_RELEASE (R168 to R184, R242 to
R245): a plate that fails a check writes nothing and completes with the status and the offset of its first failure; a
commit locks its target until it ends; the check completes it, arms it or applies it; a canvas starts frames and releases
slices. -/
def Obligations.PlatesCommitsAndCanvases : Prop :=
  (∀ s c p r e, s.pow.hubOn = true → Starts s c 0x22 → plateFieldsOk c = true →
      plateCheck s c.payload = .ok [r, e] → r.type = 3 → e.type = 0xFF → plateTarget c.payload = p → p < 32 →
    Answers .plateLoad s (fun t =>
      Done s t c ∧ t.fv (fKSLOT_KID_ID p (r.addr % 256)) = r.addr / 256 % 65536
        ∧ t.rn (rKSLOT_PARAM p (r.addr % 256)) = r.words.headD 0 % 2 ^ 32 ∧ t.act = s.act ∧ t.commits = s.commits)) ∧
  (∀ s c st off, s.pow.hubOn = true → Starts s c 0x22 → Room s c → plateFieldsOk c = true →
      plateCheck s c.payload = .error (st, off) →
    Answers .plateLoad s (fun t =>
      Done s t c ∧ Wrote s t c st 0 0 0 (off % 65536) ∧ t.act = s.act ∧ t.written = s.written)) ∧
  (∀ s c, s.pow.hubOn = true → Starts s c 0x22 → Room s c → plateFieldsOk c = false →
    Answers .plateLoad s (fun t => Done s t c ∧ Wrote s t c 0x04 0 0 0 0 ∧ t.act = s.act)) ∧
  (∀ s c p, s.pow.hubOn = true → Starts s c 0x21 → commitTarget c = some p → (∀ x ∈ s.commits, x.target ≠ p) →
    Answers .commit s (fun t =>
      t.commits = s.commits ++ [{ cmd := c, target := p, fsn := c.arg0, next := bitAt c.arg1 0,
                                  noRetarget := bitAt c.arg1 1 }]
        ∧ t.fv (fCMT_COMMIT_STATUS_STATE p) = 1 ∧ t.fv (fCMT_COMMIT_STATUS_LOCKED p) = 1
        ∧ t.ring.opened = s.ring.opened ∧ SameRegsBut s t [rCMT_COMMIT_STATUS p])) ∧
  (∀ s c p x, s.pow.hubOn = true → Starts s c 0x21 → Room s c → commitTarget c = some p → x ∈ s.commits → x.target = p →
    Answers .commit s (fun t => Done s t c ∧ Wrote s t c 0x42 0 0 0 0 ∧ t.commits = s.commits)) ∧
  (∀ s c code detail source, s.pow.hubOn = true → checkNext s = some c → c.target < 36 →
      consistency s c.target = some (code, detail, source) →
    Answers .commitCheck s (fun t =>
      t.commits = s.commits.filter (fun x => x.cmd.id != c.cmd.id) ∧ t.act = s.act
        ∧ t.rn (rCMT_REJECT c.target) = code % 65536 + detail % 256 * 65536 + source % 256 * 2 ^ 24
        ∧ t.rn (rCMT_CONFIG_GEN c.target) = s.rn (rCMT_CONFIG_GEN c.target)
        ∧ t.fv (fCMT_COMMIT_STATUS_LOCKED c.target) = 0 ∧ t.fv (fCMT_COMMIT_STATUS_LAST_STATUS c.target) = 0x40
        ∧ t.fv (fCMT_EVENT_COMMIT_REJECT c.target) = 1)) ∧
  (∀ s c, s.pow.hubOn = true → checkNext s = some c → c.target < 36 → consistency s c.target = none →
      (admitCommit s c.target).rule ≠ 0 →
    Answers .commitCheck s (fun t =>
      t.commits = s.commits.filter (fun x => x.cmd.id != c.cmd.id) ∧ t.act = s.act
        ∧ t.rn (rCMT_REJECT c.target) = (admitCommit s c.target).rule % 65536 + (admitCommit s c.target).detail % 256 * 65536
        ∧ t.fv (fCMT_COMMIT_STATUS_LOCKED c.target) = 0 ∧ t.fv (fCMT_COMMIT_STATUS_LAST_STATUS c.target) = 0x41
        ∧ t.fv (fCMT_EVENT_COMMIT_REJECT c.target) = 1)) ∧
  (∀ s c, s.pow.hubOn = true → checkNext s = some c → 32 ≤ c.target → c.target < 36 → consistency s c.target = none →
      (admitCommit s c.target).rule = 0 → targetRuns s c.target = false →
    Answers .commitCheck s (fun t =>
      t.commits = s.commits.filter (fun x => x.cmd.id != c.cmd.id) ∧ t.rn (rCMT_REJECT c.target) = 0
        ∧ t.rn (rCMT_CONFIG_GEN c.target) = (s.rn (rCMT_CONFIG_GEN c.target) + 1) % 2 ^ 32
        ∧ placeOf t c.target = (admitCommit s c.target).place
        ∧ t.fv (fCMT_COMMIT_STATUS_LOCKED c.target) = 0 ∧ t.fv (fCMT_COMMIT_STATUS_LAST_STATUS c.target) = 0
        ∧ t.fv (fCMT_EVENT_COMMIT_DONE c.target) = 1)) ∧
  (∀ s c, s.pow.hubOn = true → checkNext s = some c → c.target < 36 → consistency s c.target = none →
      (admitCommit s c.target).rule = 0 → targetRuns s c.target = true → c.next = true →
    Answers .commitCheck s (fun t =>
      t.rn (rCMT_COMMIT_TARGET c.target) = fsnOf (frameNo s c.target + 1)
        ∧ t.fv (fCMT_COMMIT_STATUS_STATE c.target) = 2 ∧ t.act = s.act ∧ t.ring = s.ring
        ∧ t.commits = s.commits.map (fun x => if x.cmd.id = c.cmd.id then
            { c with armed := true, late := false, goal := frameNo s c.target + 1,
                     place := (admitCommit s c.target).place } else x))) ∧
  (∀ s c, s.pow.hubOn = true → checkNext s = some c → c.target < 36 → consistency s c.target = none →
      (admitCommit s c.target).rule = 0 → targetRuns s c.target = true → c.next = false → c.noRetarget = true →
      unwrap s c.target c.fsn ≤ frameNo s c.target →
    Answers .commitCheck s (fun t =>
      t.commits = s.commits.filter (fun x => x.cmd.id != c.cmd.id) ∧ t.act = s.act
        ∧ t.fv (fCMT_COMMIT_STATUS_LOCKED c.target) = 0 ∧ t.fv (fCMT_COMMIT_STATUS_LAST_STATUS c.target) = 0x43
        ∧ t.fv (fCMT_EVENT_COMMIT_LATE c.target) = 1)) ∧
  (∀ s c (v : Word), s.pow.hubOn = true → c < 4 → s.on (fCV_ENABLE_EN c) = false → bitAt v.toNat 0 = true →
    Answers (.canvasEnable c v) s (fun t =>
      t.fv (fCV_ENABLE_EN c) = 1 ∧ t.rn (rCMT_FSN (32 + c)) = 0xFFFFFFFF ∧ t.rn (rCV_LAST_FRAME c) = 0xFFFFFFFF
        ∧ kget (32 + c) t.frameNo = none ∧ (canvasOf t c).next = 0 ∧ (canvasOf t c).enabledAt = s.dial)) ∧
  (∀ s c (v : Word), s.pow.hubOn = true → c < 4 → s.on (fCV_ENABLE_EN c) = true → bitAt v.toNat 0 = false →
    Answers (.canvasEnable c v) s (fun t =>
      t.fv (fCV_ENABLE_EN c) = 0 ∧ t.jobs = s.jobs.filter (fun j => !(j.kind == 2 && j.src == c)))) ∧
  (∀ s c tile, s.pow.hubOn = true → c < 4 → s.on (fCV_ENABLE_EN c) = true → (placeOf s (32 + c)).host = some tile →
      (canvasOf s c).deferred = false → canvasDue s c = true → canvasIdle s c = true → armedOf s (32 + c) = none →
    Answers (.canvasFrameStart c) s (fun t => ∃ f,
      (canvasOf t c).frames = (canvasOf s c).frames ++ [f] ∧ f.n = (canvasOf s c).next ∧ f.start = s.dial
        ∧ f.released = 0 ∧ f.gen = s.rn (rCMT_CONFIG_GEN (32 + c))
        ∧ (∀ v ∈ viewsOn f.rd c, kget v f.latch = latchOf s f.rd c v)
        ∧ (canvasOf t c).next = ((canvasOf s c).next + 1) % 2 ^ 32
        ∧ t.rn (rCMT_FSN (32 + c)) = (canvasOf s c).next % 2 ^ 32)) ∧
  (∀ s c tile, s.pow.hubOn = true → c < 4 → s.on (fCV_ENABLE_EN c) = true → (placeOf s (32 + c)).host = some tile →
      (canvasOf s c).deferred = false → canvasDue s c = true → canvasIdle s c = false →
    Answers (.canvasFrameStart c) s (fun t =>
      (canvasOf t c).deferred = true ∧ (canvasOf t c).frames = (canvasOf s c).frames
        ∧ t.fv (fCV_CNT_DEFERRED c) = satTo 0xFFFF (s.fv (fCV_CNT_DEFERRED c) + 1)
        ∧ t.fv (fCV_EVENT_DEFERRED c) = 1)) ∧
  (∀ s c pieces f tile, s.pow.hubOn = true → c < 4 → (placeOf s (32 + c)).host = some tile →
      (canvasOf s c).frames.find? (fun f => !f.truncated && f.released < cvSlices f c) = some f → tileUp s tile = true →
      f.released * (cvSliceTime s f.rd c).num < (s.dial - f.start + 1) * (cvSliceTime s f.rd c).den →
    Answers (.canvasSliceRelease c pieces) s (fun t =>
      (canvasOf t c).lastRelease = s.dial ∧ t.nextJob = s.nextJob + 1
        ∧ ∃ j, t.jobs = s.jobs ++ [j] ∧ j.kind = 2 ∧ j.src = c ∧ j.frame = Int.ofNat f.n ∧ j.k = f.released
          ∧ j.tile = tile))

/-- JOB_RELEASE, PIECE_START, PIECE_END, PIECE_TIMEOUT, TWIN_TALLY_ARRIVAL, TWIN_TALLY_DEADLINE, TILE_FENCE_SOFTWARE,
TILE_FENCE and READMISSION_PLACEMENT (R277 to R279, R288 to R294): slices are released with their pacing and deadlines;
pieces run, are retried and fence their wheels; twin tallies are compared; a fenced tile loses its jobs and pipelines. -/
def Obligations.JobsPiecesAndTiles : Prop :=
  (∀ s p out twin pieces f tile, s.pow.hubOn = true → p < 32 → (∀ o ∈ out, o < 2) →
      (pipeOf s p).frames.find? (canRelease s p out twin) = some f →
      (if twin then (placeOf s p).twin else (placeOf s p).host) = some tile → tileUp s tile = true →
      relOf f (jobKey out twin) = 0 →
    Answers (.jobRelease p out twin pieces) s (fun t => ∃ j,
      t.jobs = s.jobs ++ [j] ∧ j.src = p ∧ j.frame = f.n ∧ j.k = 0 ∧ j.tile = tile ∧ j.twin = twin
        ∧ j.rEff = s.dial * 16 ∧ j.deadline = s.dial * 16 + f.sl p * lineT16 f.rd p
        ∧ kget (jobKey out twin) (pipeOf t p).rEff = some (s.dial * 16) ∧ t.regs = s.regs)) ∧
  (∀ s p out twin pieces f tile k before, s.pow.hubOn = true → p < 32 → (∀ o ∈ out, o < 2) →
      (pipeOf s p).frames.find? (canRelease s p out twin) = some f →
      (if twin then (placeOf s p).twin else (placeOf s p).host) = some tile → tileUp s tile = true →
      relOf f (jobKey out twin) = k + 1 → kget (jobKey out twin) (pipeOf s p).rEff = some before →
      before + f.sl p * lineT16 f.rd p < (s.dial + 1) * 16 →
    Answers (.jobRelease p out twin pieces) s (fun t => ∃ j,
      t.jobs = s.jobs ++ [j] ∧ j.src = p ∧ j.frame = f.n ∧ j.k = k + 1 ∧ j.tile = tile ∧ j.twin = twin
        ∧ j.rEff = (if before + f.sl p * lineT16 f.rd p + 16 ≤ s.dial * 16 then s.dial * 16
            else before + f.sl p * lineT16 f.rd p)
        ∧ j.deadline = j.rEff + f.sl p * lineT16 f.rd p ∧ t.regs = s.regs)) ∧
  (∀ s n w j q, s.pow.hubOn = true → n < 8 → w < 128 → tileUp s n = true → wheelFenced s n w = false →
      kget w (tileOf s n).running = none → nextPiece s n w = some (j, q) →
    Answers (.pieceStart n w) s (fun t =>
      kget w (tileOf t n).running = some { q with start := s.now } ∧ t.regs = s.regs
        ∧ t.jobs = s.jobs.map (fun x => if x.id = j.id then { x with ready := x.ready.erase q } else x))) ∧
  (∀ s n w q j, s.pow.hubOn = true → n < 8 → w < 128 → kget w (tileOf s n).running = some q → q.failedOn = none →
      (tileOf s n).draining.contains w = false → jobOf s q.job = some j → 1 < j.left →
    Answers (.pieceEnd n w ⟨.good, false, false, false, false⟩) s (fun t =>
      kget w (tileOf t n).running = none ∧ (jobOf t q.job).map (fun x => x.left) = some (j.left - 1)
        ∧ (jobOf t q.job).map (fun x => x.ended) = some (j.ended ++ [(q.stage, q.idx)]) ∧ t.regs = s.regs)) ∧
  (∀ s n w q j v, s.pow.hubOn = true → n < 8 → w < 128 → kget w (tileOf s n).running = some q → q.failedOn = some v →
      (tileOf s n).draining.contains w = false → jobOf s q.job = some j → 1 < j.left →
    Answers (.pieceEnd n w ⟨.good, false, false, false, false⟩) s (fun t =>
      t.fv (fTILE_CNT_A_RETRY_OK n) = satTo 0xFFFF (s.fv (fTILE_CNT_A_RETRY_OK n) + 1) ∧ t.fv (fTILE_EVENT_RETRY n) = 1
        ∧ (jobOf t q.job).map (fun x => x.retried) = some (q.stage :: j.retried)
        ∧ t.isl.inbox = s.isl.inbox ++ [(faultCode 0x13 n 0x0001, 0)])) ∧
  (∀ s n w q j, s.pow.hubOn = true → n < 8 → w < 128 → kget w (tileOf s n).running = some q → q.failedOn = none →
      (tileOf s n).draining.contains w = false → jobOf s q.job = some j → kget w (tileOf s n).faults = none →
    Answers (.pieceEnd n w ⟨.residue, false, false, false, false⟩) s (fun t =>
      kget w (tileOf t n).running = none ∧ kget w (tileOf t n).faults = some [s.now] ∧ t.regs = s.regs
        ∧ (jobOf t q.job).map (fun x => x.ready) = some (j.ready ++ [{ q with failedOn := some w, start := 0 }])
        ∧ (jobOf t q.job).map (fun x => x.left) = some j.left)) ∧
  (∀ s n w q before, s.pow.hubOn = true → n < 8 → w < 128 → kget w (tileOf s n).running = some q → q.failedOn = none →
      (tileOf s n).draining.contains w = false → kget w (tileOf s n).faults = some [before] →
      s.now ≤ before + 1000000000 → wheelFenced s n w = false →
    Answers (.pieceEnd n w ⟨.residue, false, false, false, false⟩) s (fun t =>
      wheelFenced t n w = true ∧ t.fv (fTILE_STATUS_HEALTHY n) = s.fv (fTILE_STATUS_HEALTHY n) - 1
        ∧ t.fv (fGLB_TILE_WHEELS_HEALTHY n) = s.fv (fTILE_STATUS_HEALTHY n) - 1
        ∧ t.fv (fTILE_LAST_FENCED_WHEEL n) = w ∧ t.fv (fTILE_EVENT_WHEEL_FENCED n) = 1)) ∧
  (∀ s n w q j v, s.pow.hubOn = true → n < 8 → w < 128 → kget w (tileOf s n).running = some q → q.failedOn = some v →
      (tileOf s n).draining.contains w = false → jobOf s q.job = some j → 1 < j.left →
      kget w (tileOf s n).faults = none →
    Answers (.pieceEnd n w ⟨.drawer, false, false, false, false⟩) s (fun t =>
      t.fv (fTILE_CNT_A_UNRESOLVED n) = satTo 0xFFFF (s.fv (fTILE_CNT_A_UNRESOLVED n) + 1)
        ∧ t.fv (fTILE_EVENT_UNRESOLVED n) = 1 ∧ (jobOf t q.job).map (fun x => x.left) = some (j.left - 1)
        ∧ (jobOf t q.job).map (fun x => x.poisoned) = some (q.stage :: j.poisoned)
        ∧ t.isl.inbox = s.isl.inbox ++ [(faultCode 0x13 n 0x0004, 0)])) ∧
  (∀ s n w q j x, s.pow.hubOn = true → n < 8 → w < 128 → kget w (tileOf s n).running = some q → q.failedOn = none →
      (tileOf s n).draining.contains w = false → jobOf s q.job = some j → j.stages[q.stage]? = some x →
      q.start + x.limit * 1000 ≤ s.now → kget w (tileOf s n).faults = none →
    Answers (.pieceTimeout n w) s (fun t =>
      kget w (tileOf t n).running = none
        ∧ t.fv (fTILE_CNT_B_TIMEOUT n) = satTo 0xFFFF (s.fv (fTILE_CNT_B_TIMEOUT n) + 1)
        ∧ (jobOf t q.job).map (fun x => x.ready) = some (j.ready ++ [{ q with failedOn := some w, start := 0 }])
        ∧ t.isl.inbox = s.isl.inbox ++ [(faultCode 0x13 n 0x0003, 0)])) ∧
  (∀ s st a f, s.pow.hubOn = true → st < 128 → s.tallies.find? (fun t => !t.arrived && t.stream == st) = some a →
      s.twinWait.find? (waitsFor a) = none → frameOf s (st / 4) a.frame = some f → outDone s st f = false →
    Answers (.twinTallyArrival st) s (fun t =>
      t.tallies = s.tallies.erase a ++ [{ a with arrived := true }] ∧ t.twinWait = s.twinWait ∧ t.regs = s.regs)) ∧
  (∀ s st a x, s.pow.hubOn = true → st < 128 → s.tallies.find? (fun t => !t.arrived && t.stream == st) = some a →
      s.twinWait.find? (waitsFor a) = some x → a.tally = x.tally →
    Answers (.twinTallyArrival st) s (fun t => ∃ u, t = settlePipe u (st / 4) ∧
      u.tallies = s.tallies.erase a ∧ u.regs = s.regs
        ∧ u.twinWait = s.twinWait.map (fun z => if z = x then { x with wait := false, flags := x.flags + 32 } else z))) ∧
  (∀ s st a x, s.pow.hubOn = true → st < 128 → s.tallies.find? (fun t => !t.arrived && t.stream == st) = some a →
      s.twinWait.find? (waitsFor a) = some x → a.tally ≠ x.tally →
    Answers (.twinTallyArrival st) s (fun t => ∃ u, t = settlePipe u (st / 4) ∧
      u.fv (fKSCHED_EVENT_TWIN_MISMATCH (st / 4)) = 1
        ∧ u.twinWait = s.twinWait.map (fun z => if z = x then
            { x with wait := false, flags := putBits x.flags 4 1 1, detail := putBits x.detail 2 1 1 } else z)
        ∧ u.isl.inbox = s.isl.inbox ++ [(faultCode 0x11 (st / 4) 0x0113, 0)])) ∧
  (∀ s st x, s.pow.hubOn = true → st < 128 → s.twinWait.find? (fun x => x.wait && x.stream == st) = some x →
      x.deadline + 384000 < s.dial * 16 →
    Answers (.twinTallyDeadline st) s (fun t => ∃ u, t = settlePipe u (st / 4) ∧
      u.fv (fKSCHED_EVENT_TWIN_LATE (st / 4)) = 1
        ∧ u.fv (fKSCHED_CNT2_TWIN_LATE (st / 4)) = satTo 0xFFFF (s.fv (fKSCHED_CNT2_TWIN_LATE (st / 4)) + 1)
        ∧ u.twinWait = s.twinWait.map (fun z => if z = x then { z with wait := false } else z))) ∧
  (∀ s n (v : Word), s.pow.hubOn = true → n < 8 → tileUp s n = true → bitAt v.toNat 16 = true →
      bitsOf v.toNat 0 16 = 0xFE9C → (∀ p < 36, (placeOf s p).host ≠ some n ∧ (placeOf s p).twin ≠ some n) →
    Answers (.tileFenceSoftware n v) s (fun t =>
      t.fv (fTILE_STATUS_STATE n) = 2 ∧ t.fv (fTILE_STATUS_CAUSE n) = 6 ∧ t.fv (fGLB_TILE_WHEELS_FENCED_FAULT n) = 1
        ∧ t.fv fMGT_ALERT_STATUS_TILE_FENCED = 1 ∧ t.jobs = s.jobs.filter (fun j => j.tile != n)
        ∧ t.isl.inbox = s.isl.inbox ++ [(faultCode 0x13 n 0x0006, 0)])) ∧
  (∀ s n (v : Word), s.pow.hubOn = true → n < 8 → bitAt v.toNat 16 = false ∨ bitsOf v.toNat 0 16 ≠ 0xFE9C →
    Answers (.tileFenceSoftware n v) s (fun t => t = s)) ∧
  (∀ s n, s.pow.hubOn = true → n < 8 → tileUp s n = true →
    Answers (.tileFence n 3) s (fun t =>
      (∀ j ∈ t.jobs, j.tile ≠ n) ∧ ∀ p < 32, (placeOf s p).host = some n → (⟨p, n, true⟩ : Readmit) ∈ t.readmit)) ∧
  (∀ s n, s.pow.hubOn = true → n < 8 → tileUp s n = true → s.fv (fTILE_STATUS_HEALTHY n) < 64 →
      (∀ p < 36, (placeOf s p).host ≠ some n ∧ (placeOf s p).twin ≠ some n) →
    Answers (.tileFence n 1) s (fun t => t.fv (fTILE_STATUS_STATE n) = 2 ∧ t.fv (fTILE_STATUS_CAUSE n) = 1)) ∧
  (∀ s r rest h, s.pow.hubOn = true → s.readmit = r :: rest → r.p < 32 → r.host = true →
      (demandOf s (actCfg s) r.p).twinOn = false → s.started.contains r.p = true →
      (admitTile (leaveTile { s with readmit := rest } r.p) r.p (demandOf s (actCfg s) r.p) [] none 8 [r.excl]).rule = 0 →
      (admitTile (leaveTile { s with readmit := rest } r.p) r.p (demandOf s (actCfg s) r.p) [] none 8 [r.excl]).place.host
        = some h →
    Answers .readmissionPlacement s (fun t =>
      t.readmit = rest ∧ (placeOf t r.p).host = some h ∧ t.fv (fKSCHED_STATUS_STATE r.p) = 2
        ∧ t.fv (fKSCHED_EVENT_MOVED r.p) = 1)) ∧
  (∀ s r rest, s.pow.hubOn = true → s.readmit = r :: rest → r.p < 32 → r.host = true →
      (demandOf s (actCfg s) r.p).twinOn = false → s.started.contains r.p = true →
      (admitTile (leaveTile { s with readmit := rest } r.p) r.p (demandOf s (actCfg s) r.p) [] none 8 [r.excl]).rule ≠ 0 →
    Answers .readmissionPlacement s (fun t =>
      t.readmit = rest ∧ placeOf t r.p = {} ∧ t.fv (fKSCHED_STATUS_STATE r.p) = 3
        ∧ t.fv (fKSCHED_EVENT_STOPPED r.p) = 1 ∧ (r.p, faultCode 0x11 r.p 0x0118) ∈ t.stops))

/-- LANE_ENABLE, LANE_PLL_LOCKED, SIGNAL_DETECT_ASSERT, SIGNAL_DETECT_DEASSERT, ADAPTATION_DONE, ADAPTATION_TIMEOUT,
CDR_LOCK_LOST, CDR_RELOCK, FREF_LOST, FREF_RESTORED, TX_EQ_WRITE, LANE_STATE_REQUEST, LANE_WAKE_DONE and LANE_FABRIC_EN
(R412, R416, R418 to R423): a lane comes up when its PLL locks, its receiver adapts while it has a signal, a deeper state
is in force at once and a lighter one after its wake. -/
def Obligations.LanesAndReceivers : Prop :=
  (∀ s m (v : Word), s.pow.hubOn = true → domOn s 12 = true → m < 8 → s.on (fLANE_STATUS_ABSENT m) = false →
      bitAt v.toNat 1 = false → laneEn s m = false → bitAt v.toNat 0 = true →
    Answers (.laneEnable m v) s (fun t => ∃ u, t = evalPorts u ∧
      laneEn u m = true ∧ (laneOf u m).pll = false ∧ u.fv (fLANE_STATUS_TX_STATE m) = 3
        ∧ u.fv (fLANE_STATUS_RX_STATE m) = 3 ∧ (laneOf u m).rate = bitsOf v.toNat 2 1
        ∧ (laneOf u m).unlockedAt = some s.now ∧ SameRegsBut s u [rLANE_CTRL m, rLANE_STATUS m])) ∧
  (∀ s m (v : Word), s.pow.hubOn = true → domOn s 12 = true → m < 8 → s.on (fLANE_STATUS_ABSENT m) = false →
      bitAt v.toNat 1 = false → laneEn s m = true → bitAt v.toNat 0 = false →
    Answers (.laneEnable m v) s (fun t => ∃ u, t = evalPorts u ∧
      laneEn u m = false ∧ (laneOf u m).pll = false ∧ u.fv (fLANE_STATUS_SIGNAL m) = 0
        ∧ u.fv (fLANE_STATUS_CDR_LOCK m) = 0 ∧ u.fv (fLANE_STATUS_ADAPT_DONE m) = 0
        ∧ SameRegsBut s u [rLANE_CTRL m, rLANE_STATUS m])) ∧
  (∀ s m (v : Word), s.pow.hubOn = true → domOn s 12 = true → m < 8 → s.on (fLANE_STATUS_ABSENT m) = true →
    Answers (.laneEnable m v) s (fun t => t = evalPorts s)) ∧
  (∀ s m (v : Word), s.pow.hubOn = true → domOn s 12 = true → m < 8 → s.on (fLANE_STATUS_ABSENT m) = false →
      bitAt v.toNat 1 = true → laneTested s m = false →
    Answers (.laneFabricEn m v) s (fun t => ∃ u, t = evalPorts u ∧
      u.fv (fLANE_CTRL_FABRIC_EN m) = 1 ∧ u.fv (fLANE_CTRL_EN m) = bitsOf v.toNat 0 1)) ∧
  (∀ s m (v : Word), s.pow.hubOn = true → domOn s 12 = true → m < 8 → s.on (fLANE_STATUS_ABSENT m) = false →
      bitAt v.toNat 1 = true → laneTested s m = true →
    Answers (.laneFabricEn m v) s (fun t => ∃ u, t = evalPorts u ∧
      u.fv (fLANE_EVENT_CFG_IGNORED m) = 1 ∧ u.lane = s.lane ∧ SameButEvents s u [rLANE_EVENT m])) ∧
  (∀ s m, s.pow.hubOn = true → domOn s 12 = true → m < 8 → laneEn s m = true → (laneOf s m).pll = false →
      s.on (fLANE_STATUS_FREF_OK m) = true →
    Answers (.lanePllLocked m) s (fun t => ∃ u, t = evalPorts u ∧
      (laneOf u m).pll = true ∧ u.fv (fLANE_STATUS_TX_STATE m) = laneTarget s m true % 4
        ∧ u.fv (fLANE_STATUS_RX_STATE m) = laneTarget s m false % 4 ∧ SameRegsBut s u [rLANE_STATUS m])) ∧
  (∀ s m, s.pow.hubOn = true → domOn s 12 = true → m < 8 → laneOn s m false = true →
      s.on (fLANE_STATUS_SIGNAL m) = false → s.on (fLANE_STATUS_CDR_LOCK m) = false →
    Answers (.signalDetectAssert m) s (fun t => ∃ u, t = evalPorts u ∧
      u.fv (fLANE_STATUS_SIGNAL m) = 1 ∧ (laneOf u m).adapting = some s.now ∧ u.fv (fLANE_STATUS_ADAPT_DONE m) = 0
        ∧ SameRegsBut s u [rLANE_STATUS m])) ∧
  (∀ s m, s.pow.hubOn = true → domOn s 12 = true → m < 8 → laneEn s m = true → (laneOf s m).pll = true →
      s.on (fLANE_STATUS_SIGNAL m) = true →
    Answers (.signalDetectDeassert m) s (fun t => ∃ u, t = evalPorts u ∧
      u.fv (fLANE_STATUS_SIGNAL m) = 0 ∧ (laneOf u m).adapting = none ∧ SameRegsBut s u [rLANE_STATUS m])) ∧
  (∀ s m ctle gain dfe1 since, s.pow.hubOn = true → domOn s 12 = true → m < 8 → laneOn s m false = true →
      (laneOf s m).adapting = some since → s.fv (fLANE_RX_EQ_MODE m) ≠ 2 →
    Answers (.adaptationDone m ctle gain dfe1) s (fun t => ∃ u, t = evalPorts u ∧
      u.fv (fLANE_RX_EQ_STATUS_CTLE m) = ctle % 16 ∧ u.fv (fLANE_RX_EQ_STATUS_GAIN m) = gain % 256
        ∧ u.fv (fLANE_RX_EQ_STATUS_DFE1 m) = wordOfInt 8 (clampInt (-128) 127 dfe1)
        ∧ u.fv (fLANE_STATUS_CDR_LOCK m) = 1 ∧ u.fv (fLANE_STATUS_ADAPT_DONE m) = 1
        ∧ (laneOf u m).adapting = none ∧ (laneOf u m).unlockedAt = none)) ∧
  (∀ s m ctle gain dfe1 since, s.pow.hubOn = true → domOn s 12 = true → m < 8 → laneOn s m false = true →
      (laneOf s m).adapting = some since → s.fv (fLANE_RX_EQ_MODE m) = 2 →
    Answers (.adaptationDone m ctle gain dfe1) s (fun t => ∃ u, t = evalPorts u ∧
      u.fv (fLANE_RX_EQ_STATUS_CTLE m) = s.fv (fLANE_RX_EQ_CTLE m) ∧ u.fv (fLANE_RX_EQ_STATUS_DFE1 m) = 0
        ∧ u.fv (fLANE_STATUS_CDR_LOCK m) = 1)) ∧
  (∀ s m since, s.pow.hubOn = true → domOn s 12 = true → m < 8 → (laneOf s m).adapting = some since →
      since + 30000000 ≤ s.now → laneOn s m false = true → s.on (fLANE_STATUS_SIGNAL m) = true →
    Answers (.adaptationTimeout m) s (fun t => ∃ u, t = evalPorts u ∧
      u.fv (fLANE_EVENT_ADAPT_FAIL m) = 1 ∧ (laneOf u m).adapting = some s.now
        ∧ u.isl.inbox = s.isl.inbox ++ [(faultCode 0x17 m 0x0003, 0)])) ∧
  (∀ s m, s.pow.hubOn = true → domOn s 12 = true → m < 8 → laneOn s m false = true →
      s.on (fLANE_STATUS_CDR_LOCK m) = true →
    Answers (.cdrLockLost m) s (fun t => ∃ u, t = evalPorts u ∧
      u.fv (fLANE_STATUS_CDR_LOCK m) = 0 ∧ u.fv (fLANE_EVENT_LOCK_LOST m) = 1
        ∧ u.isl.inbox = s.isl.inbox ++ [(faultCode 0x17 m 0x0002, 0)]
        ∧ SameButEvents s u [rLANE_STATUS m, rLANE_EVENT m])) ∧
  (∀ s m, s.pow.hubOn = true → domOn s 12 = true → m < 8 → laneOn s m false = true →
      s.on (fLANE_STATUS_CDR_LOCK m) = false → s.on (fLANE_STATUS_SIGNAL m) = true → (laneOf s m).adapting = none →
    Answers (.cdrRelock m) s (fun t => ∃ u, t = evalPorts u ∧
      u.fv (fLANE_STATUS_CDR_LOCK m) = 1 ∧ (laneOf u m).unlockedAt = none ∧ SameRegsBut s u [rLANE_STATUS m])) ∧
  (∀ s k, s.pow.hubOn = true → domOn s 12 = true → k < 8 → s.on (fLANE_STATUS_FREF_OK k) = true →
    Answers .frefLost s (fun t => ∃ u, t = evalPorts u ∧
      (∀ m < 8, u.fv (fLANE_STATUS_FREF_OK m) = 0 ∧ u.fv (fLANE_EVENT_FREF_LOST m) = 1) ∧
      (∀ m < 8, laneEn s m = true → u.fv (fLANE_STATUS_CDR_LOCK m) = 0 ∧ (laneOf u m).pll = false
        ∧ u.fv (fLANE_STATUS_TX_STATE m) = 1)
        ∧ u.isl.inbox = s.isl.inbox ++ [(faultCode 0x17 0 0x0001, 0)])) ∧
  (∀ s, s.pow.hubOn = true → domOn s 12 = true → (∀ m < 8, s.on (fLANE_STATUS_FREF_OK m) = false) →
    Answers .frefRestored s (fun t => ∃ u, t = evalPorts u ∧
      (∀ m < 8, u.fv (fLANE_STATUS_FREF_OK m) = 1)
        ∧ (∀ m < 8, laneEn s m = true → (laneOf u m).pll = false ∧ u.fv (fLANE_STATUS_TX_STATE m) = 3))) ∧
  (∀ s m (v : Word), s.pow.hubOn = true → domOn s 12 = true → m < 8 → bitsOf v.toNat 0 5 ≤ 16 → bitsOf v.toNat 8 5 ≤ 24 →
    Answers (.txEqWrite m v) s (fun t => ∃ u, t = evalPorts u ∧
      u.fv (fLANE_TX_EQ_PRE m) = bitsOf v.toNat 0 5 ∧ u.fv (fLANE_TX_EQ_POST m) = bitsOf v.toNat 8 5
        ∧ u.fv (fLANE_TX_EQ_SWING m) = bitsOf v.toNat 16 4 ∧ u.lane = s.lane ∧ SameRegsBut s u [rLANE_TX_EQ m])) ∧
  (∀ s m (v : Word), s.pow.hubOn = true → domOn s 12 = true → m < 8 → 16 < bitsOf v.toNat 0 5 ∨ 24 < bitsOf v.toNat 8 5 →
    Answers (.txEqWrite m v) s (fun t => ∃ u, t = evalPorts u ∧
      u.fv (fLANE_EVENT_CFG_INVALID m) = 1 ∧ u.lane = s.lane ∧ SameButEvents s u [rLANE_EVENT m])) ∧
  (∀ s m tx, s.pow.hubOn = true → domOn s 12 = true → m < 8 → laneEn s m = true → (laneOf s m).pll = true →
      s.fv (laneStateF m tx) < laneTarget s m tx →
    Answers (.laneStateRequest m tx) s (fun t => ∃ u, t = evalPorts u ∧
      u.fv (laneStateF m tx) = laneTarget s m tx % 4 ∧ (tx = false → u.fv (fLANE_STATUS_CDR_LOCK m) = 0)
        ∧ SameRegsBut s u [rLANE_STATUS m])) ∧
  (∀ s m, s.pow.hubOn = true → domOn s 12 = true → m < 8 → laneEn s m = true → (laneOf s m).pll = true →
      laneTarget s m true < s.fv (laneStateF m true) →
    Answers (.laneStateRequest m true) s (fun t => ∃ u, t = evalPorts u ∧ (laneOf u m).wakeTx = true ∧ u.regs = s.regs)) ∧
  (∀ s m, s.pow.hubOn = true → domOn s 12 = true → m < 8 → laneEn s m = true → (laneOf s m).wakeRx = true →
      (laneOf s m).pll = true → s.on (fLANE_STATUS_FREF_OK m) = true → laneTarget s m false = 0 →
      s.on (fLANE_STATUS_SIGNAL m) = true →
    Answers (.laneWakeDone m false) s (fun t => ∃ u, t = evalPorts (ports4.foldl pumpPort u) ∧
      (laneOf u m).wakeRx = false ∧ u.fv (fLANE_STATUS_RX_STATE m) = 0 ∧ u.fv (fLANE_STATUS_CDR_LOCK m) = 1
        ∧ SameRegsBut s u [rLANE_STATUS m]))

/-- PATGEN_ENABLE, PATCHK_ENABLE, PATCHK_CLEAR, PATCHK_SNAP, CHECKER_SYNC, CHECKER_SYNC_LOSS, INJECT_ONE, INJECT_RATE and
LOOPBACK_WRITE (R424 to R429): a lane of the fabric refuses the tests; the checker counts while it is in sync, a snapshot
copies its counters before a clear, and an injected error counts. -/
def Obligations.LaneTests : Prop :=
  (∀ s m (v : Word), s.pow.hubOn = true → domOn s 12 = true → m < 8 → bitAt v.toNat 0 = true →
      s.on (fLANE_CTRL_FABRIC_EN m) = true →
    Answers (.patgenEnable m v) s (fun t => ∃ u, t = evalPorts u ∧
      u.fv (fLANE_EVENT_CFG_IGNORED m) = 1 ∧ SameButEvents s u [rLANE_EVENT m])) ∧
  (∀ s m (v : Word), s.pow.hubOn = true → domOn s 12 = true → m < 8 → s.on (fLANE_CTRL_FABRIC_EN m) = false →
      bitsOf v.toNat 1 3 ≤ 4 →
    Answers (.patgenEnable m v) s (fun t => ∃ u, t = evalPorts u ∧
      u.fv (fLANE_PATGEN_EN m) = bitsOf v.toNat 0 1 ∧ u.fv (fLANE_PATGEN_PATTERN m) = bitsOf v.toNat 1 3
        ∧ SameRegsBut s u [rLANE_PATGEN m])) ∧
  (∀ s m (v : Word), s.pow.hubOn = true → domOn s 12 = true → m < 8 → 4 < bitsOf v.toNat 1 3 →
      s.on (fLANE_CTRL_FABRIC_EN m) = false →
    Answers (.patgenEnable m v) s (fun t => ∃ u, t = evalPorts u ∧
      u.fv (fLANE_EVENT_CFG_INVALID m) = 1 ∧ SameButEvents s u [rLANE_EVENT m])) ∧
  (∀ s m (v : Word) c, s.pow.hubOn = true → domOn s 12 = true → m < 8 → bitAt v.toNat 0 = true → bitAt v.toNat 4 = false →
      bitAt v.toNat 5 = false → bitsOf v.toNat 1 3 ≤ 4 → s.on (fLANE_CTRL_FABRIC_EN m) = false →
      s.on (fLANE_CHK_STATUS_SYNC m) = false →
    Answers (.patchkEnable m v c) s (fun t => ∃ u, t = evalPorts u ∧
      u.fv (fLANE_PATCHK_EN m) = 1 ∧ u.fv (fLANE_PATCHK_PATTERN m) = bitsOf v.toNat 1 3 ∧ u.lane = s.lane
        ∧ SameRegsBut s u [rLANE_PATCHK m])) ∧
  (∀ s m (v : Word) c, s.pow.hubOn = true → domOn s 12 = true → m < 8 → bitAt v.toNat 0 = false → bitAt v.toNat 4 = false →
      bitAt v.toNat 5 = false → bitsOf v.toNat 1 3 ≤ 4 →
    Answers (.patchkEnable m v c) s (fun t => ∃ u, t = evalPorts u ∧
      u.fv (fLANE_PATCHK_EN m) = 0 ∧ u.fv (fLANE_CHK_STATUS_SYNC m) = 0)) ∧
  (∀ s m (v : Word) c, s.pow.hubOn = true → domOn s 12 = true → m < 8 → bitAt v.toNat 0 = true → bitAt v.toNat 4 = true →
      bitAt v.toNat 5 = false → bitsOf v.toNat 1 3 ≤ 4 → s.on (fLANE_CTRL_FABRIC_EN m) = false →
    Answers (.patchkClear m v c) s (fun t => ∃ u, t = evalPorts u ∧
      (laneOf u m).bits = 0 ∧ (laneOf u m).sym = 0 ∧ (laneOf u m).bit = 0
        ∧ u.fv (fLANE_CHK_STATUS_SYNC_LOSS m) = 0 ∧ u.rn (rLANE_SNAP_SYM m) = s.rn (rLANE_SNAP_SYM m))) ∧
  (∀ s m (v : Word) c, s.pow.hubOn = true → domOn s 12 = true → m < 8 → bitAt v.toNat 0 = true → bitAt v.toNat 4 = true →
      bitAt v.toNat 5 = true → bitsOf v.toNat 1 3 ≤ 4 → s.on (fLANE_CTRL_FABRIC_EN m) = false →
      s.on (fLANE_CHK_STATUS_SYNC m) = true → laneOn s m false = true →
    Answers (.patchkSnap m v c) s (fun t => ∃ u, t = evalPorts u ∧
      u.pair (rLANE_SNAP_BITS_LO m) (rLANE_SNAP_BITS_HI m) = satTo (2 ^ 48 - 1) ((laneOf s m).bits + 2 * c.symbols)
        ∧ u.rn (rLANE_SNAP_SYM m) = satTo (2 ^ 32 - 1) ((laneOf s m).sym + c.symErr)
        ∧ u.rn (rLANE_SNAP_BIT m) = satTo (2 ^ 32 - 1) ((laneOf s m).bit + c.bitErr)
        ∧ (laneOf u m).bits = 0 ∧ (laneOf u m).sym = 0 ∧ (laneOf u m).bit = 0)) ∧
  (∀ s m, s.pow.hubOn = true → domOn s 12 = true → m < 8 → s.on (fLANE_PATCHK_EN m) = true → laneOn s m false = true →
    Answers (.checkerSync m) s (fun t => ∃ u, t = evalPorts u ∧
      u.fv (fLANE_CHK_STATUS_SYNC m) = 1 ∧ u.lane = s.lane ∧ SameRegsBut s u [rLANE_CHK_STATUS m])) ∧
  (∀ s m c, s.pow.hubOn = true → domOn s 12 = true → m < 8 → s.on (fLANE_CHK_STATUS_SYNC m) = true →
    Answers (.checkerSyncLoss m c) s (fun t => ∃ u, t = evalPorts u ∧
      u.fv (fLANE_CHK_STATUS_SYNC m) = 0
        ∧ u.fv (fLANE_CHK_STATUS_SYNC_LOSS m) = satTo 0xFFFF (s.fv (fLANE_CHK_STATUS_SYNC_LOSS m) + 1)
        ∧ u.fv (fLANE_EVENT_SYNC_LOST m) = 1 ∧ SameButEvents s u [rLANE_CHK_STATUS m, rLANE_EVENT m])) ∧
  (∀ s m (v : Word), s.pow.hubOn = true → domOn s 12 = true → m < 8 → bitAt v.toNat 0 = true →
      10 ≤ bitsOf v.toNat 2 6 → bitsOf v.toNat 2 6 ≤ 40 → laneOn s m true = true →
    Answers (.injectOne m v) s (fun t => ∃ u, t = evalPorts u ∧
      u.rn (rLANE_INJ_COUNT m) = satTo (2 ^ 32 - 1) (s.rn (rLANE_INJ_COUNT m) + 1)
        ∧ u.fv (fLANE_INJECT_RATE_EN m) = bitsOf v.toNat 1 1 ∧ u.fv (fLANE_INJECT_RATE_LOG2 m) = bitsOf v.toNat 2 6
        ∧ (s.on (fLANE_CTRL_FABRIC_EN m) = true → u.fv (fLANE_EVENT_INJECT_MISSION m) = 1))) ∧
  (∀ s m (v : Word), s.pow.hubOn = true → domOn s 12 = true → m < 8 → bitsOf v.toNat 2 6 < 10 ∨ 40 < bitsOf v.toNat 2 6 →
    Answers (.injectOne m v) s (fun t => ∃ u, t = evalPorts u ∧
      u.fv (fLANE_EVENT_CFG_INVALID m) = 1 ∧ SameButEvents s u [rLANE_EVENT m])) ∧
  (∀ s m, s.pow.hubOn = true → domOn s 12 = true → m < 8 → s.on (fLANE_INJECT_RATE_EN m) = true → laneOn s m true = true →
    Answers (.injectRate m) s (fun t => ∃ u, t = evalPorts u ∧
      u.rn (rLANE_INJ_COUNT m) = satTo (2 ^ 32 - 1) (s.rn (rLANE_INJ_COUNT m) + 1)
        ∧ SameRegsBut s u [rLANE_INJ_COUNT m])) ∧
  (∀ s m (v : Word), s.pow.hubOn = true → domOn s 12 = true → m < 8 → s.on (fLANE_CTRL_FABRIC_EN m) = false →
      bitsOf v.toNat 0 2 = 1 → s.fv (fLANE_LOOPBACK_MODE m) ≠ 1 → laneOn s m false = true →
      s.on (fLANE_STATUS_SIGNAL m) = true →
    Answers (.loopbackWrite m v) s (fun t => ∃ u, t = evalPorts u ∧
      u.fv (fLANE_LOOPBACK_MODE m) = 1 ∧ u.fv (fLANE_STATUS_CDR_LOCK m) = 0 ∧ (laneOf u m).adapting = some s.now)) ∧
  (∀ s m (v : Word), s.pow.hubOn = true → domOn s 12 = true → m < 8 → s.on (fLANE_CTRL_FABRIC_EN m) = true →
      bitsOf v.toNat 0 2 ≠ 0 →
    Answers (.loopbackWrite m v) s (fun t => ∃ u, t = evalPorts u ∧
      u.fv (fLANE_EVENT_CFG_IGNORED m) = 1 ∧ SameButEvents s u [rLANE_EVENT m]))

/-- FABRIC_ENABLE, PORT_TRAINED, PORT_TRAINING_TIMEOUT, PORT_RETRAIN, HELLO_SEND, HELLO_RECEIVED, HELLO_TIMEOUT,
AUTH_MESSAGE, AUTH_TIMEOUT and HELD_EXPIRY (R432 to R434, R443 to R445): the fabric starts as its own best root; a port
trains, authenticates and comes up, and whatever takes it down forgets its neighbour and counts. -/
def Obligations.FabricPorts : Prop :=
  (∀ s (v : Word), s.pow.hubOn = true → domOn s 12 = true → s.on fFABRIC_CFG_EN = false → bitAt v.toNat 2 = true →
      bitsOf v.toNat 0 2 ≠ 3 → bitsOf v.toNat 16 7 ≤ 64 →
    Answers (.fabricEnable v) s (fun t =>
      t.fv fFABRIC_CFG_EN = 1 ∧ t.fv fFABRIC_CFG_LAYOUT = bitsOf v.toNat 0 2
        ∧ t.fv fFABRIC_CFG_PRIORITY = bitsOf v.toNat 8 8 ∧ t.fv fFABRIC_CFG_ID_REQ = bitsOf v.toNat 16 7
        ∧ t.pair rFABRIC_ROOT_SERIAL_LO rFABRIC_ROOT_SERIAL_HI = serialOf s ∧ t.fabric.rootPrio = bitsOf v.toNat 8 8
        ∧ t.fabric.rootAt = s.now ∧ t.fabric.stable = false)) ∧
  (∀ s (v : Word), s.pow.hubOn = true → domOn s 12 = true → bitsOf v.toNat 0 2 = 3 ∨ 64 < bitsOf v.toNat 16 7 →
    Answers (.fabricEnable v) s (fun t =>
      t.fv fFABRIC_EVENT_CFG_INVALID = 1 ∧ t.fabric = s.fabric ∧ SameButEvents s t [rFABRIC_EVENT])) ∧
  (∀ s (v : Word), s.pow.hubOn = true → domOn s 12 = true → s.on fFABRIC_CFG_EN = true → bitAt v.toNat 2 = true →
      bitsOf v.toNat 0 2 ≠ 3 → bitsOf v.toNat 16 7 ≤ 64 → bitsOf v.toNat 8 8 ≠ s.fv fFABRIC_CFG_PRIORITY →
    Answers (.fabricEnable v) s (fun t =>
      t.fv fFABRIC_EVENT_CFG_IGNORED = 1 ∧ t.fabric = s.fabric ∧ SameButEvents s t [rFABRIC_EVENT])) ∧
  (∀ s (v : Word), s.pow.hubOn = true → domOn s 12 = true → s.on fFABRIC_CFG_EN = true → bitAt v.toNat 2 = false →
      bitsOf v.toNat 0 2 ≠ 3 → bitsOf v.toNat 16 7 ≤ 64 →
    Answers (.fabricEnable v) s (fun t =>
      t.fv fFABRIC_CFG_EN = 0 ∧ t.rn rFABRIC_STATUS = 0 ∧ (∀ k < 4, portSt t k = 0)
        ∧ t.pair rFABRIC_ROOT_SERIAL_LO rFABRIC_ROOT_SERIAL_HI = 0 ∧ t.fabric.granted = [] ∧ t.fabric.stable = false)) ∧
  (∀ s k, s.pow.hubOn = true → domOn s 12 = true → k < 4 → portSt s k = 1 → healthyGroup s k ≠ [] →
    Answers (.portTrained k) s (fun t =>
      portSt t k = 2 ∧ t.fv (fFABRIC_PORT_STATUS_WIDTH k) = (healthyGroup s k).length
        ∧ (fabPort t k).lanes = healthyGroup s k ∧ (fabPort t k).since = s.now ∧ t.rn (rFABRIC_PORT_AUTH k) = 0
        ∧ Given t k (.auth 1))) ∧
  (∀ s k, s.pow.hubOn = true → domOn s 12 = true → k < 4 → portSt s k = 1 → (fabPort s k).since + 50000000 ≤ s.now →
    Answers (.portTrainingTimeout k) s (fun t =>
      portSt t k = b2n (portWants s k) ∧ t.fv fFABRIC_EVENT_PORT_DOWN = 1
        ∧ t.fv (fFABRIC_PORT_CNT_DOWN k) = satTo 0xFFFF (s.fv (fFABRIC_PORT_CNT_DOWN k) + 1)
        ∧ (faultCode 0x18 k 0x0001, 0) ∈ t.isl.inbox)) ∧
  (∀ s k m u, s.pow.hubOn = true → domOn s 12 = true → k < 4 → portUp s k = true → m ∈ (fabPort s k).lanes →
      (laneOf s m).unlockedAt = some u → u + 1000000 < s.now →
    Answers (.portRetrain k) s (fun t =>
      portSt t k = b2n (portWants s k) ∧ t.fv fFABRIC_EVENT_PORT_DOWN = 1
        ∧ t.pair (rFABRIC_PORT_NB_SERIAL_LO k) (rFABRIC_PORT_NB_SERIAL_HI k) = 0 ∧ (fabPort t k).hello = none)) ∧
  (∀ s k, s.pow.hubOn = true → domOn s 12 = true → k < 4 → portTalks s k = true → (fabPort s k).sentAt = none →
      (fabPort s k).waiting = [] → portAwake s k = true → (fabPort s k).asleep = 0 → (fabPort s k).store = [] →
    Answers (.helloSend k) s (fun t =>
      t.fabric.sent = s.fabric.sent ++ [(k, .hello (helloOf s k))] ∧ (fabPort t k).sentAt = some s.now
        ∧ (fabPort t k).seq = ((fabPort s k).seq + 1) % 4096
        ∧ (fabPort t k).store = [((fabPort s k).seq, .hello (helloOf s k))] ∧ t.regs = s.regs)) ∧
  (∀ s k h, s.pow.hubOn = true → domOn s 12 = true → k < 4 → portTalks s k = true →
    Answers (.helloReceived k h) s (fun t =>
      (fabPort t k).hello = some h ∧ (fabPort t k).helloAt = s.now
        ∧ t.pair (rFABRIC_PORT_NB_SERIAL_LO k) (rFABRIC_PORT_NB_SERIAL_HI k) = h.serial % 2 ^ 64
        ∧ t.fv (fFABRIC_PORT_STATUS_NB_ID k) = h.id.getD 0 % 64
        ∧ t.fv (fFABRIC_PORT_STATUS_NB_ID_VALID k) = b2n h.id.isSome)) ∧
  (∀ s k h, s.pow.hubOn = true → domOn s 12 = true → k < 4 → portSt s k = 2 → (fabPort s k).authStep = 4 → 4 ≤ h.step →
    Answers (.helloReceived k h) s (fun t =>
      portSt t k = 3 ∧ t.fv fFABRIC_EVENT_PORT_UP = 1 ∧ t.fv (fFABRIC_PORT_AUTH_RESULT k) = 1)) ∧
  (∀ s k, s.pow.hubOn = true → domOn s 12 = true → k < 4 → portTalks s k = true →
      (fabPort s k).helloAt + 3000000 ≤ s.now →
    Answers (.helloTimeout k) s (fun t =>
      portSt t k = b2n (portWants s k) ∧ (fabPort t k).hello = none ∧ (faultCode 0x18 k 0x0002, 0) ∈ t.isl.inbox
        ∧ (faultCode 0x18 k 0x0001, 0) ∈ t.isl.inbox)) ∧
  (∀ s k m step, s.pow.hubOn = true → domOn s 12 = true → k < 4 → portSt s k = 2 → authCheck s k m = (step, 0) →
      step = (fabPort s k).authStep + 1 → step < 4 →
    Answers (.authMessage k m) s (fun t =>
      portSt t k = 2 ∧ (fabPort t k).authStep = step ∧ Given t k (.auth (step + 1)))) ∧
  (∀ s k m step reason, s.pow.hubOn = true → domOn s 12 = true → k < 4 → portSt s k = 2 →
      authCheck s k m = (step, reason) → reason ≠ 0 → reason < 16 → step = (fabPort s k).authStep + 1 →
    Answers (.authMessage k m) s (fun t =>
      portSt t k = 4 ∧ t.fv (fFABRIC_PORT_AUTH_RESULT k) = 2 ∧ t.fv (fFABRIC_PORT_AUTH_REASON k) = reason
        ∧ t.fv fFABRIC_EVENT_AUTH_FAIL = 1 ∧ (fabPort t k).hello = none
        ∧ (faultCode 0x18 k 0x0003, 0) ∈ t.isl.inbox)) ∧
  (∀ s k h, s.pow.hubOn = true → domOn s 12 = true → k < 4 → portSt s k = 2 → (fabPort s k).authStep = 3 →
      (fabPort s k).hello = some h → 4 ≤ h.step →
    Answers (.authMessage k (.fin true)) s (fun t =>
      portSt t k = 3 ∧ t.fv (fFABRIC_PORT_AUTH_RESULT k) = 1 ∧ t.fv fFABRIC_EVENT_PORT_UP = 1)) ∧
  (∀ s k, s.pow.hubOn = true → domOn s 12 = true → k < 4 → portSt s k = 2 → (fabPort s k).since + 100000000 < s.now →
    Answers (.authTimeout k) s (fun t =>
      portSt t k = 4 ∧ t.fv (fFABRIC_PORT_AUTH_RESULT k) = 2 ∧ t.fv (fFABRIC_PORT_AUTH_REASON k) = 4)) ∧
  (∀ s k, s.pow.hubOn = true → domOn s 12 = true → k < 4 → portSt s k = 4 → (fabPort s k).since + 1000000000 ≤ s.now →
    Answers (.heldExpiry k) s (fun t =>
      portSt t k = b2n (portWants s k) ∧ t.fv fFABRIC_EVENT_PORT_DOWN = 1))

/-- FLIT_RECEIVED, ACK_SEND, ACK_RECEIVED, NAK_RECEIVED, ACK_TIMEOUT, ROOT_STABLE, ID_CLAIM and ID_GRANT (R435, R436, R445,
R446): flits are accepted in sequence only, a gap is asked for once, acknowledged flits leave the replay store, and eight
refusals or a silent neighbour take the port down; a stable root grants IDs, and the others pass claims and grants on. -/
def Obligations.FabricLinkAndElection : Prop :=
  (∀ s k fseq unknown, s.pow.hubOn = true → domOn s 12 = true → k < 4 → portTalks s k = true →
      fseq = (fabPort s k).expect →
    Answers (.flitReceived k true 0 fseq unknown) s (fun t =>
      (fabPort t k).expect = (fseq + 1) % 4096 ∧ (fabPort t k).gap = false
        ∧ (fabPort t k).unacked = (fabPort s k).unacked + 1
        ∧ t.fv fFABRIC_CNT_B_DENIED = satTo 0xFFFF (s.fv fFABRIC_CNT_B_DENIED + unknown)
        ∧ t.fabric.sent = s.fabric.sent)) ∧
  (∀ s k fseq unknown, s.pow.hubOn = true → domOn s 12 = true → k < 4 → portTalks s k = true →
      fseq ≠ (fabPort s k).expect → (fabPort s k).gap = false →
    Answers (.flitReceived k true 0 fseq unknown) s (fun t =>
      (fabPort t k).gap = true ∧ (fabPort t k).expect = (fabPort s k).expect ∧ t.regs = s.regs
        ∧ t.fabric.sent = s.fabric.sent ++ [(k, .nak (fabPort s k).expect)])) ∧
  (∀ s k fseq unknown, s.pow.hubOn = true → domOn s 12 = true → k < 4 → portTalks s k = true →
      fseq ≠ (fabPort s k).expect → (fabPort s k).gap = true →
    Answers (.flitReceived k true 0 fseq unknown) s (fun t => t = s)) ∧
  (∀ s k kind fseq unknown, s.pow.hubOn = true → domOn s 12 = true → k < 4 → portTalks s k = true →
    Answers (.flitReceived k false kind fseq unknown) s (fun t =>
      t.fv fFABRIC_CNT_A_FEC_UNCORR = satTo 0xFFFF (s.fv fFABRIC_CNT_A_FEC_UNCORR + 1)
        ∧ (fabPort t k).gap = true ∧ (fabPort t k).expect = (fabPort s k).expect)) ∧
  (∀ s k, s.pow.hubOn = true → domOn s 12 = true → k < 4 → portTalks s k = true → 16 ≤ (fabPort s k).unacked →
    Answers (.ackSend k) s (fun t =>
      (fabPort t k).unacked = 0 ∧ t.fabric.sent = s.fabric.sent ++ [(k, .ack (((fabPort s k).expect + 4095) % 4096))]
        ∧ t.regs = s.regs)) ∧
  (∀ s k, s.pow.hubOn = true → domOn s 12 = true → k < 4 → portTalks s k = true → (fabPort s k).unacked = 1 →
      (fabPort s k).unackedAt + 1000 ≤ s.now →
    Answers (.ackSend k) s (fun t =>
      (fabPort t k).unacked = 0
        ∧ t.fabric.sent = s.fabric.sent ++ [(k, .ack (((fabPort s k).expect + 4095) % 4096))])) ∧
  (∀ s k fseq pre m post, s.pow.hubOn = true → domOn s 12 = true → k < 4 → (fabPort s k).waiting = [] →
      (fabPort s k).store = pre ++ [(fseq, m)] ++ post → (∀ x ∈ pre, x.1 ≠ fseq) →
    Answers (.ackReceived k fseq) s (fun t =>
      (fabPort t k).store = post ∧ (fabPort t k).naks = 0 ∧ (fabPort t k).ackAt = s.now ∧ t.regs = s.regs)) ∧
  (∀ s k fseq pre m post, s.pow.hubOn = true → domOn s 12 = true → k < 4 → (fabPort s k).naks < 7 →
      (fabPort s k).store = pre ++ [(fseq, m)] ++ post → (∀ x ∈ pre, x.1 ≠ fseq) →
    Answers (.nakReceived k fseq) s (fun t =>
      t.fabric.sent = s.fabric.sent ++ (((fseq, m) :: post).map (fun f => (k, f.2)))
        ∧ (fabPort t k).naks = (fabPort s k).naks + 1
        ∧ (fabPort t k).store = (fabPort s k).store
        ∧ t.fv (fFABRIC_PORT_CNT_REPLAYS k) = satTo 0xFFFF (s.fv (fFABRIC_PORT_CNT_REPLAYS k) + 1)
        ∧ t.fv fFABRIC_CNT_A_REPLAYS = satTo 0xFFFF (s.fv fFABRIC_CNT_A_REPLAYS + 1))) ∧
  (∀ s k fseq, s.pow.hubOn = true → domOn s 12 = true → k < 4 → portSt s k ≠ 0 → 7 ≤ (fabPort s k).naks →
      (fabPort s k).store.any (fun f => f.1 == fseq) = true →
    Answers (.nakReceived k fseq) s (fun t =>
      portSt t k = b2n (portWants s k) ∧ (faultCode 0x18 k 0x0004, 0) ∈ t.isl.inbox
        ∧ t.fv fFABRIC_EVENT_PORT_DOWN = 1)) ∧
  (∀ s k, s.pow.hubOn = true → domOn s 12 = true → k < 4 → portTalks s k = true → (fabPort s k).store ≠ [] →
      (fabPort s k).ackAt + 1000000 ≤ s.now →
    Answers (.ackTimeout k) s (fun t =>
      portSt t k = b2n (portWants s k) ∧ (faultCode 0x18 k 0x0004, 0) ∈ t.isl.inbox
        ∧ t.fv fFABRIC_EVENT_PORT_DOWN = 1)) ∧
  (∀ s, s.pow.hubOn = true → domOn s 12 = true → s.on fFABRIC_CFG_EN = true → s.fabric.stable = false →
      s.fabric.rootAt + 10000000 ≤ s.now → bestKey s = ownKey s →
      ownKey s = (s.fabric.rootPrio, s.pair rFABRIC_ROOT_SERIAL_LO rFABRIC_ROOT_SERIAL_HI) →
      s.on fFABRIC_STATUS_ID_VALID = false → s.fv fFABRIC_CFG_ID_REQ < 64 →
      idHeld s (serialOf s) (s.fv fFABRIC_CFG_ID_REQ) = false →
    Answers .rootStable s (fun t =>
      t.fabric.stable = true ∧ t.fv fFABRIC_STATUS_IS_ROOT = 1 ∧ t.fv fFABRIC_STATUS_ID_VALID = 1
        ∧ t.fv fFABRIC_STATUS_ID = s.fv fFABRIC_CFG_ID_REQ ∧ t.fv fFABRIC_STATUS_STATE = 4
        ∧ kget (s.fv fFABRIC_CFG_ID_REQ) t.fabric.granted = some (serialOf s))) ∧
  (∀ s j, s.pow.hubOn = true → domOn s 12 = true → s.on fFABRIC_CFG_EN = true → s.fabric.stable = false →
      s.fabric.rootAt + 10000000 ≤ s.now → bestKey s ≠ ownKey s → s.on fFABRIC_STATUS_ID_VALID = false →
      portUp s j = true →
    Answers .rootStable s (fun t =>
      t.fabric.stable = true ∧ t.fv fFABRIC_STATUS_IS_ROOT = 0 ∧ t.fabric.seqNo = s.fabric.seqNo + 1
        ∧ Given t j (.claim (serialOf s) s.fabric.seqNo (s.fv fFABRIC_CFG_ID_REQ)))) ∧
  (∀ s k j serial seq req, s.pow.hubOn = true → domOn s 12 = true → k < 4 → portUp s k = true →
      s.fabric.seen.contains (2 * serial, seq) = false → s.on fFABRIC_STATUS_IS_ROOT = false → portUp s j = true → j ≠ k →
    Answers (.idClaim k serial seq req) s (fun t =>
      Given t j (.claim serial seq req) ∧ (2 * serial, seq) ∈ t.fabric.seen ∧ t.fabric.granted = s.fabric.granted
        ∧ t.regs = s.regs)) ∧
  (∀ s k j serial seq req d, s.pow.hubOn = true → domOn s 12 = true → k < 4 → portUp s k = true →
      s.fabric.seen.contains (2 * serial, seq) = false → s.on fFABRIC_STATUS_IS_ROOT = true → serial ≠ serialOf s →
      grantFor s serial req = some d → portUp s j = true →
    Answers (.idClaim k serial seq req) s (fun t =>
      kget d t.fabric.granted = some serial ∧ Given t j (.grant (serialOf s) s.fabric.seqNo serial d)
        ∧ t.fabric.seqNo = s.fabric.seqNo + 1)) ∧
  (∀ s k serial seq req, s.pow.hubOn = true → domOn s 12 = true → k < 4 →
      s.fabric.seen.contains (2 * serial, seq) = true →
    Answers (.idClaim k serial seq req) s (fun t => t = s)) ∧
  (∀ s k root seq d, s.pow.hubOn = true → domOn s 12 = true → k < 4 → portUp s k = true →
      s.fabric.seen.contains (2 * root + 1, seq) = false → s.on fFABRIC_STATUS_ID_VALID = false → d < 64 →
      s.on fFABRIC_CFG_ID_STRICT = false →
    Answers (.idGrant k root seq (serialOf s) d) s (fun t =>
      t.fv fFABRIC_STATUS_ID = d ∧ t.fv fFABRIC_STATUS_ID_VALID = 1 ∧ t.fv fFABRIC_STATUS_STATE =
        (if s.on fFABRIC_CFG_EN then 4 else 0))) ∧
  (∀ s k root seq d, s.pow.hubOn = true → domOn s 12 = true → k < 4 → portUp s k = true →
      s.fabric.seen.contains (2 * root + 1, seq) = false → s.on fFABRIC_STATUS_ID_VALID = false → d < 64 →
      s.on fFABRIC_CFG_ID_STRICT = true → s.fv fFABRIC_CFG_ID_REQ ≠ d →
    Answers (.idGrant k root seq (serialOf s) d) s (fun t =>
      t.fv fFABRIC_STATUS_ID_VALID = 0 ∧ t.fv fFABRIC_EVENT_ID_CHANGED = 1
        ∧ t.isl.inbox = s.isl.inbox ++ [(faultCode 0x18 d 0x0008, 0)])) ∧
  (∀ s k j root seq serial d, s.pow.hubOn = true → domOn s 12 = true → k < 4 → portUp s k = true →
      s.fabric.seen.contains (2 * root + 1, seq) = false → serial ≠ serialOf s → portUp s j = true → j ≠ k →
    Answers (.idGrant k root seq serial d) s (fun t => Given t j (.grant root seq serial d) ∧ t.regs = s.regs))

/-- FABRIC_PACKET_FORWARD, FABRIC_REQUEST_RECEIVED, FABRIC_RESPONSE_RECEIVED, FABRIC_REQUEST_TIMEOUT, IN_WIN_CTRL_WRITE,
PEER_TAIL_POLL, TIME_SYNC_EXCHANGE, TIME_REQ, TIME_RSP, PORT_IDLE_SLEEP, SLEEP_NOTICE and PORT_WAKE (R438, R439, R441, R442,
R449 to R457): packets are passed on with one hop less; a request is served only through a window that allows it, and a
write changes exactly its bytes; responses end their requests; windows, peers, time and sleep follow their rules. -/
def Obligations.FabricPacketsAndWindows : Prop :=
  (∀ s k j p, s.pow.hubOn = true → domOn s 12 = true → k < 4 → portUp s k = true → fabId s ≠ some p.dst → p.hops ≠ 0 →
      routePort s p.dst = some j →
    Answers (.fabricPacketForward k p) s (fun t =>
      Given t j (.packet { p with hops := p.hops - 1 }) ∧ t.regs = s.regs ∧ t.mem = s.mem)) ∧
  (∀ s k p, s.pow.hubOn = true → domOn s 12 = true → k < 4 → portUp s k = true → fabId s ≠ some p.dst → p.hops ≠ 0 →
      routePort s p.dst = none →
    Answers (.fabricPacketForward k p) s (fun t =>
      t.fv fFABRIC_EVENT_UNREACHABLE = 1 ∧ t.isl.inbox = s.isl.inbox ++ [(faultCode 0x18 p.dst 0x0006, 0)]
        ∧ ∀ j < 4, p.typ = 1 ∨ p.typ = 2 → routePort s p.src = some j → Answered t j p 3 [])) ∧
  (∀ s k p, s.pow.hubOn = true → domOn s 12 = true → k < 4 → portUp s k = true → fabId s ≠ some p.dst → p.hops = 0 →
    Answers (.fabricPacketForward k p) s (fun t =>
      t.regs = s.regs ∧ t.isl.inbox = s.isl.inbox ++ [(faultCode 0x18 p.dst 0x0007, 0)]
        ∧ ∀ j < 4, p.typ = 1 ∨ p.typ = 2 → routePort s p.src = some j → Answered t j p 5 [])) ∧
  (∀ s k p w a j, s.pow.hubOn = true → domOn s 12 = true → k < 4 → portUp s k = true → fabId s = some p.dst → p.typ = 1 →
      winFor s p.addr p.len = some w → srcAllowed s w p.src = true → s.on (fFABRIC_IN_WIN_CTRL_WRITE_OK w) = true →
      s.fv (fFABRIC_IN_WIN_CTRL_SPACE w) = 0 → a = winTarget s w + (p.addr - winBase s w) → a + p.len ≤ 2 ^ 34 →
      lpRange s a p.len = true → p.data.length = p.len → routePort s p.src = some j →
    Answers (.fabricRequestReceived k p false) s (fun t =>
      (∀ i, i < p.len → memByte t (a + i) = p.data.getD i 0) ∧ SameMemBut s t a p.len ∧ Answered t j p 0 []
        ∧ (s.on (fFABRIC_IN_WIN_CTRL_DOORBELL w) = true → p.addr + p.len = winLimit s w + 1 →
            t.fv ⟨rFABRIC_WIN_EVENT (w / 32), w % 32, 1⟩ = 1 ∧ t.fv fFABRIC_EVENT_DOORBELL = 1))) ∧
  (∀ s k p w a j, s.pow.hubOn = true → domOn s 12 = true → k < 4 → portUp s k = true → fabId s = some p.dst → p.typ = 2 →
      winFor s p.addr p.len = some w → srcAllowed s w p.src = true → s.on (fFABRIC_IN_WIN_CTRL_READ_OK w) = true →
      s.fv (fFABRIC_IN_WIN_CTRL_SPACE w) = 0 → a = winTarget s w + (p.addr - winBase s w) → a + p.len ≤ 2 ^ 34 →
      lpRange s a p.len = true → routePort s p.src = some j →
    Answers (.fabricRequestReceived k p false) s (fun t =>
      Answered t j p 0 (memRead s a p.len) ∧ t.mem = s.mem ∧ t.regs = s.regs)) ∧
  (∀ s k p w a j, s.pow.hubOn = true → domOn s 12 = true → k < 4 → portUp s k = true → fabId s = some p.dst → p.typ = 1 →
      winFor s p.addr p.len = some w → srcAllowed s w p.src = true → s.on (fFABRIC_IN_WIN_CTRL_WRITE_OK w) = true →
      s.fv (fFABRIC_IN_WIN_CTRL_SPACE w) = 0 → a = winTarget s w + (p.addr - winBase s w) → a + p.len ≤ 2 ^ 34 →
      lpRange s a p.len = true → routePort s p.src = some j →
    Answers (.fabricRequestReceived k p true) s (fun t => Answered t j p 4 [] ∧ t.mem = s.mem ∧ t.regs = s.regs)) ∧
  (∀ s k p w a j e, s.pow.hubOn = true → domOn s 12 = true → k < 4 → portUp s k = true → fabId s = some p.dst → p.typ = 1 →
      winFor s p.addr p.len = some w → srcAllowed s w p.src = true → s.on (fFABRIC_IN_WIN_CTRL_WRITE_OK w) = true →
      s.fv (fFABRIC_IN_WIN_CTRL_SPACE w) = 1 → a = winTarget s w + (p.addr - winBase s w) → domOn s 13 = true →
      hostUp s = true → p.poison = false → p.data.length = p.len → routePort s p.src = some j →
    Answers (.fabricRequestReceived k p e) s (fun t =>
      Answered t j p 0 [] ∧ t.mem = s.mem ∧ t.wire = s.wire ++ [⟨a, p.data, false⟩])) ∧
  (∀ s k p e j, s.pow.hubOn = true → domOn s 12 = true → k < 4 → portUp s k = true → fabId s = some p.dst →
      p.typ = 1 ∨ p.typ = 2 → winFor s p.addr p.len = none → routePort s p.src = some j →
    Answers (.fabricRequestReceived k p e) s (fun t =>
      t.fv fFABRIC_CNT_B_NO_WINDOW = satTo 0xFFFF (s.fv fFABRIC_CNT_B_NO_WINDOW + 1) ∧ Answered t j p 1 []
        ∧ t.mem = s.mem ∧ SameRegsBut s t [rFABRIC_CNT_B])) ∧
  (∀ s k p e w j, s.pow.hubOn = true → domOn s 12 = true → k < 4 → portUp s k = true → fabId s = some p.dst →
      p.typ = 1 ∨ p.typ = 2 → winFor s p.addr p.len = some w →
      srcAllowed s w p.src = false ∨ s.on (if p.typ = 1 then fFABRIC_IN_WIN_CTRL_WRITE_OK w
        else fFABRIC_IN_WIN_CTRL_READ_OK w) = false → routePort s p.src = some j →
    Answers (.fabricRequestReceived k p e) s (fun t =>
      t.fv fFABRIC_CNT_B_DENIED = satTo 0xFFFF (s.fv fFABRIC_CNT_B_DENIED + 1) ∧ Answered t j p 2 []
        ∧ t.mem = s.mem ∧ SameRegsBut s t [rFABRIC_CNT_B])) ∧
  (∀ s k p r, s.pow.hubOn = true → domOn s 12 = true → k < 4 → portUp s k = true → fabId s = some p.dst →
      p.typ = 8 ∨ p.typ = 9 → kget p.tag s.fabric.reqs = some r → r.pkt.dst = p.src → (p.typ = 9 ↔ r.pkt.typ = 1) →
    Answers (.fabricResponseReceived k p) s (fun t =>
      kget p.tag t.fabric.done = some ⟨r.owner, p.src, r.pkt.typ == 1, p.status, p.data, p.poison⟩ ∧ t.regs = s.regs
        ∧ t.isl = s.isl)) ∧
  (∀ s k p, s.pow.hubOn = true → domOn s 12 = true → k < 4 → portUp s k = true → fabId s = some p.dst →
      p.typ = 8 ∨ p.typ = 9 → kget p.tag s.fabric.reqs = none →
    Answers (.fabricResponseReceived k p) s (fun t =>
      t.fabric = s.fabric ∧ t.isl.inbox = s.isl.inbox ++ [(faultCode 0x18 p.src 0x000C, 0)])) ∧
  (∀ s tag r, s.pow.hubOn = true → domOn s 12 = true → kget tag s.fabric.reqs = some r →
      r.sentAt + s.fv fFABRIC_TIMING_TIMEOUT_US * 1000 ≤ s.now →
    Answers (.fabricRequestTimeout tag) s (fun t =>
      (kget tag t.fabric.done).map (fun d => d.status) = some 256 ∧ t.fv fFABRIC_EVENT_TIMEOUT = 1
        ∧ t.fv fFABRIC_CNT_C_TIMEOUT = satTo 0xFFFF (s.fv fFABRIC_CNT_C_TIMEOUT + 1)
        ∧ t.isl.inbox = s.isl.inbox ++ [(faultCode 0x18 r.pkt.dst 0x000C, 0)])) ∧
  (∀ s w (v : Word), s.pow.hubOn = true → domOn s 12 = true → w < 64 → bitsOf v.toNat 1 2 < 2 → winEn s w = false →
      bitAt v.toNat 0 = true → winRefused s w (bitsOf v.toNat 1 2) = false →
    Answers (.inWinCtrlWrite w v) s (fun t =>
      winEn t w = true ∧ t.fv (fFABRIC_IN_WIN_CTRL_SPACE w) = bitsOf v.toNat 1 2
        ∧ t.fv (fFABRIC_IN_WIN_CTRL_READ_OK w) = bitsOf v.toNat 3 1
        ∧ t.fv (fFABRIC_IN_WIN_CTRL_WRITE_OK w) = bitsOf v.toNat 4 1
        ∧ t.fv (fFABRIC_IN_WIN_CTRL_DOORBELL w) = bitsOf v.toNat 5 1 ∧ SameRegsBut s t [rFABRIC_IN_WIN_CTRL w])) ∧
  (∀ s w (v : Word), s.pow.hubOn = true → domOn s 12 = true → w < 64 → bitsOf v.toNat 1 2 < 2 → winEn s w = false →
      bitAt v.toNat 0 = true → winRefused s w (bitsOf v.toNat 1 2) = true →
    Answers (.inWinCtrlWrite w v) s (fun t =>
      t.fv fFABRIC_EVENT_CFG_INVALID = 1 ∧ SameButEvents s t [rFABRIC_EVENT])) ∧
  (∀ s w (v : Word), s.pow.hubOn = true → domOn s 12 = true → w < 64 → bitsOf v.toNat 1 2 < 2 → winEn s w = true →
      bitAt v.toNat 0 = false → bitsOf v.toNat 1 5 = bitsOf (s.rn (rFABRIC_IN_WIN_CTRL w)) 1 5 →
    Answers (.inWinCtrlWrite w v) s (fun t => winEn t w = false ∧ SameRegsBut s t [rFABRIC_IN_WIN_CTRL w])) ∧
  (∀ s w (v : Word), s.pow.hubOn = true → domOn s 12 = true → w < 64 → bitsOf v.toNat 1 2 < 2 → winEn s w = true →
      bitAt v.toNat 0 = true → bitsOf v.toNat 1 5 ≠ bitsOf (s.rn (rFABRIC_IN_WIN_CTRL w)) 1 5 →
    Answers (.inWinCtrlWrite w v) s (fun t =>
      t.fv fFABRIC_EVENT_WIN_IGNORED = 1 ∧ SameButEvents s t [rFABRIC_EVENT]
        ∧ t.isl.inbox = s.isl.inbox ++ [(faultCode 0x18 w 0x000A, 0)])) ∧
  (∀ s st b, s.pow.hubOn = true → domOn s 12 = true → st < 132 → peerStream s st = true → blockOk b = true →
      (peerOf s st).valid = false →
    Answers (.peerTailPoll st (.data b) .failed) s (fun t =>
      peerOf t st = { valid := true, descBase := leAt b 0 8, cplBase := leAt b 8 8, size := 2 ^ leAt b 16 1,
                      tail := leAt b 0x12 2, head := leAt b 0x14 2, cplTail := leAt b 0x16 2, notify := leAt b 0x18 8,
                      polledAt := s.now } ∧ t.regs = s.regs)) ∧
  (∀ s st b, s.pow.hubOn = true → domOn s 12 = true → st < 132 → peerStream s st = true → blockOk b = true →
      (peerOf s st).valid = true → (peerOf s st).waiting ≠ 0 →
    Answers (.peerTailPoll st (.data b) .failed) s (fun t =>
      peerOf t st = { peerOf s st with tail := leAt b 0x12 2, polledAt := s.now } ∧ t.regs = s.regs)) ∧
  (∀ s st b, s.pow.hubOn = true → domOn s 12 = true → st < 132 → peerStream s st = true → blockOk b = false →
      (peerOf s st).valid = false →
    Answers (.peerTailPoll st (.data b) .failed) s (fun t =>
      (peerOf t st).valid = false ∧ t.fv fFABRIC_EVENT_PEER_BLOCK_BAD = 1
        ∧ t.isl.inbox = s.isl.inbox ++ [(faultCode 0x18 st 0x000B, 0)])) ∧
  (∀ s k, s.pow.hubOn = true → domOn s 12 = true → parentPort s = some k → portUp s k = true →
      s.fabric.syncAt + s.fv fFABRIC_TIMING_SYNC_PERIOD_US * 1000 ≤ s.now →
    Answers .timeSyncExchange s (fun t =>
      t.fabric.t1 = some s.dial ∧ t.fabric.syncAt = s.now ∧ Given t k .timeReq ∧ t.regs = s.regs)) ∧
  (∀ s k turn, s.pow.hubOn = true → domOn s 12 = true → k < 4 → portUp s k = true →
      s.on fFABRIC_STATUS_IS_ROOT = true →
    Answers (.timeReq k turn) s (fun t =>
      Given t k (.timeRsp s.dial (s.dial + turn) 0 (s.fv fREGU_CTRL_SRC == 1)) ∧ t.regs = s.regs)) ∧
  (∀ s k t1 t2 t3 est n, s.pow.hubOn = true → domOn s 12 = true → k < 4 → s.fabric.t1 = some t1 → parentPort s = some k →
      0 ≤ (Int.ofNat s.dial - Int.ofNat t1) - (Int.ofNat t3 - Int.ofNat t2) →
      (Int.ofNat s.dial - Int.ofNat t1) - (Int.ofNat t3 - Int.ofNat t2) ≤ 2000 → (fabPort s k).replayed = false →
      ((Int.ofNat t2 - Int.ofNat t1) - (Int.ofNat s.dial - Int.ofNat t3)) * 1000
        - signedOf 16 (s.fv (fFABRIC_PORT_ASYM_PS k)) = 2000 * n →
    Answers (.timeRsp k t2 t3 est true) s (fun t =>
      t = timeEstimate { s with fabric := { s.fabric with t1 := none } } (n + est))) ∧
  (∀ s k t1 t2 t3 est, s.pow.hubOn = true → domOn s 12 = true → k < 4 → s.fabric.t1 = some t1 → parentPort s = some k →
      2000 < (Int.ofNat s.dial - Int.ofNat t1) - (Int.ofNat t3 - Int.ofNat t2) →
    Answers (.timeRsp k t2 t3 est true) s (fun t =>
      t.regu = s.regu ∧ t.regs = s.regs ∧ t.fabric.t1 = none)) ∧
  (∀ s k, s.pow.hubOn = true → domOn s 12 = true → k < 4 → portUp s k = true → (fabPort s k).waiting = [] →
      (fabPort s k).asleep = 0 → s.on (fFABRIC_PORT_CTRL_SLEEP_EN k) = true →
      s.on (fFABRIC_PORT_CTRL_DEEP_EN k) = false →
      (fabPort s k).dataAt + s.fv (fFABRIC_PORT_CTRL_IDLE_US k) * 1000 ≤ s.now →
    Answers (.portIdleSleep k) s (fun t =>
      (fabPort t k).asleep = 2 ∧ t.fabric.sent = s.fabric.sent ++ [(k, .sleep 2)]
        ∧ (∀ m ∈ (fabPort s k).lanes, (laneOf t m).reqTx = 2) ∧ t.regs = s.regs)) ∧
  (∀ s k st, s.pow.hubOn = true → domOn s 12 = true → k < 4 → portUp s k = true → st = 2 ∨ st = 3 →
    Answers (.sleepNotice k st) s (fun t =>
      (∀ m ∈ (fabPort s k).lanes, (laneOf t m).reqRx = st) ∧ t.fabric = s.fabric ∧ t.regs = s.regs)) ∧
  (∀ s k, s.pow.hubOn = true → domOn s 12 = true → k < 4 → (fabPort s k).asleep ≠ 0 → (fabPort s k).waiting ≠ [] →
    Answers (.portWake k) s (fun t =>
      (fabPort t k).asleep = 0 ∧ (k, .wake) ∈ t.fabric.sent
        ∧ (∀ m ∈ (fabPort s k).lanes, (laneOf t m).reqTx = 0) ∧ t.regs = s.regs))

/-- HOIST_START, HOIST_STOP, HOIST_STOP_DONE, HOIST_END, HOIST_MOVE, HOIST_LOOP, HOIST_WAIT, HOIST_SIGNAL, HOIST_LOAD,
HOIST_ADD, HOIST_ILLEGAL_INSTRUCTION, HOIST_WAIT_PASS and HOIST_WAIT_LIMIT (R322 to R331, R339): a software channel starts at
ENTRY, each instruction has its effect and moves on, and what is illegal, misaligned, overlapping or too slow halts it. -/
def Obligations.HoistInstructions : Prop :=
  (∀ s c (v : Word), s.pow.hubOn = true → 192 ≤ c → c < 256 → bitsOf v.toNat 8 6 ≤ 47 → bitAt v.toNat 0 = true →
      bitAt v.toNat 1 = false → hActive s c = false →
    Answers (.hoistStart c v) s (fun t =>
      hState t c = 1 ∧ hPc t c = bitsOf v.toNat 8 6 ∧ t.rn (rHOIST_FAULT c) = 0 ∧ t.fv (fHOIST_STATUS_PACE c) = 0
        ∧ t.fv ⟨rHOISTG_HALTED (c / 32), c % 32, 1⟩ = 0 ∧ hchan t c = { ops := (hchan s c).ops }
        ∧ SameRegsBut s t [rHOIST_CTRL c, rHOIST_STATUS c, rHOIST_FAULT c, rHOISTG_HALTED (c / 32)])) ∧
  (∀ s c (v : Word), s.pow.hubOn = true → 192 ≤ c → c < 256 → bitsOf v.toNat 8 6 ≤ 47 → bitAt v.toNat 0 = true →
      bitAt v.toNat 1 = false → hActive s c = true →
    Answers (.hoistStart c v) s (fun t =>
      t.fv (fHOIST_EVENT_CFG_IGNORED c) = 1 ∧ hState t c = hState s c ∧ hPc t c = hPc s c ∧ t.hoist = s.hoist)) ∧
  (∀ s c (v : Word), s.pow.hubOn = true → c < 192 →
    Answers (.hoistStart c v) s (fun t =>
      t.fv (fHOIST_EVENT_CFG_IGNORED c) = 1 ∧ t.hoist = s.hoist ∧ SameButEvents s t [rHOIST_EVENT c])) ∧
  (∀ s c (v : Word), s.pow.hubOn = true → 192 ≤ c → c < 256 → 47 < bitsOf v.toNat 8 6 →
    Answers (.hoistStart c v) s (fun t =>
      t.fv (fHOIST_EVENT_CFG_INVALID c) = 1 ∧ t.hoist = s.hoist ∧ SameButEvents s t [rHOIST_EVENT c])) ∧
  (∀ s c (v : Word), s.pow.hubOn = true → 192 ≤ c → c < 256 → bitsOf v.toNat 8 6 ≤ 47 → bitAt v.toNat 0 = false →
      bitAt v.toNat 1 = true → hActive s c = true →
    Answers (.hoistStop c v) s (fun t =>
      (hchan t c).stopping = true ∧ (hchan t c).move = none ∧ (hchan t c).retry = [] ∧ (hchan t c).ops = (hchan s c).ops
        ∧ hState t c = 1)) ∧
  (∀ s c, s.pow.hubOn = true → c < 256 → (hchan s c).stopping = true → (hchan s c).ops = [] →
    Answers (.hoistStopDone c) s (fun t => hState t c = 0 ∧ hchan t c = {} ∧ SameRegsBut s t [rHOIST_STATUS c])) ∧
  (∀ s c a b, s.pow.hubOn = true → HoistAt s c 0 a b → bitAt a 4 = false →
    Answers (.hoistEnd c) s (fun t => hState t c = 4 ∧ hPc t c = hPc s c ∧ SameRegsBut s t [rHOIST_STATUS c])) ∧
  (∀ s c a b, s.pow.hubOn = true → HoistAt s c 0 a b → bitAt a 4 = true → writesDone s c = true →
    Answers (.hoistEnd c) s (fun t =>
      hState t c = 4 ∧ t.fv (fHOIST_EVENT_END_IRQ c) = 1 ∧ SameButEvents s t [rHOIST_STATUS c, rHOIST_EVENT c])) ∧
  (∀ s c a b m, s.pow.hubOn = true → HoistAt s c 1 a b →
      m = { w0 := a, len := if bitAt a 16 then hX s c (bitsOf a 17 3) else bitsOf b 0 32, src := hX s c (bitsOf a 8 3),
            dst := hX s c (bitsOf a 11 3) } → m.len < 2 ^ 32 → moveMisaligned m = false → moveOverlap s c m = false →
      spaceUse s c (moveSrc m) (movePeer m) m.src m.len false = .fine →
      spaceUse s c (moveDst m) (movePeer m) m.dst m.len true = .fine → m.len ≠ 0 →
    Answers (.hoistMove c) s (fun t =>
      (hchan t c).move = some m ∧ t.rn (rHOIST_MOVED c) = 0 ∧ hPc t c = hPc s c ∧ t.mem = s.mem
        ∧ SameRegsBut s t [rHOIST_MOVED c])) ∧
  (∀ s c a b, s.pow.hubOn = true → HoistAt s c 1 a b → bitAt a 16 = false → bitsOf b 0 32 % 64 ≠ 0 →
    Answers (.hoistMove c) s (fun t =>
      HoistHalted t c 0x0002 (hX s c (bitsOf a 8 3)) ∧ (hchan t c).move = none ∧ t.mem = s.mem)) ∧
  (∀ s c a b m, s.pow.hubOn = true → HoistAt s c 1 a b →
      m = { w0 := a, len := bitsOf b 0 32, src := hX s c (bitsOf a 8 3), dst := hX s c (bitsOf a 11 3) } →
      bitAt a 16 = false → moveMisaligned m = false → moveOverlap s c m = true →
    Answers (.hoistMove c) s (fun t => HoistHalted t c 0x0003 m.dst ∧ t.mem = s.mem)) ∧
  (∀ s c a b, s.pow.hubOn = true → HoistAt s c 2 a b → bitAt a 13 = true →
    Answers (.hoistLoop c) s (fun t => hPc t c = bitsOf a 7 6 ∧ SameRegsBut s t [rHOIST_STATUS c])) ∧
  (∀ s c a b n, s.pow.hubOn = true → HoistAt s c 2 a b → bitAt a 13 = false → hX s c (bitsOf a 4 3) = n + 2 →
    Answers (.hoistLoop c) s (fun t =>
      hX t c (bitsOf a 4 3) = n + 1 ∧ hPc t c = bitsOf a 7 6)) ∧
  (∀ s c a b, s.pow.hubOn = true → HoistAt s c 2 a b → bitAt a 13 = false → hX s c (bitsOf a 4 3) = 0 →
    Answers (.hoistLoop c) s (fun t =>
      hX t c (bitsOf a 4 3) = 2 ^ 64 - 1 ∧ hPc t c = bitsOf a 7 6)) ∧
  (∀ s c a b, s.pow.hubOn = true → HoistAt s c 2 a b → bitAt a 13 = false → hX s c (bitsOf a 4 3) = 1 →
      bitAt a 14 = false →
    Answers (.hoistLoop c) s (fun t => hX t c (bitsOf a 4 3) = 0 ∧ hPc t c = (hPc s c + 1) % 48)) ∧
  (∀ s c a b, s.pow.hubOn = true → HoistAt s c 3 a b → 2 ≤ bitsOf a 4 2 → waitTrue s c a b = true →
    Answers (.hoistWait c) s (fun t =>
      hPc t c = (hPc s c + 1) % 48 ∧ hState t c = 1 ∧ (hchan t c).lastWait = some (hPc s c))) ∧
  (∀ s c a b, s.pow.hubOn = true → HoistAt s c 3 a b → 2 ≤ bitsOf a 4 2 → waitTrue s c a b = false →
    Answers (.hoistWait c) s (fun t => hPc t c = hPc s c ∧ hState t c = 2 ∧ (hchan t c).since = s.now)) ∧
  (∀ s c a b, s.pow.hubOn = true → HoistAt s c 3 a b → bitsOf a 4 2 < 2 → (hchan s c).lastWait ≠ some (hPc s c) →
      waitTrue s c a b = true →
    Answers (.hoistWait c) s (fun t =>
      hPc t c = (hPc s c + 1) % 48 ∧ hState t c = 1 ∧ t.fv (fHOIST_STATUS_PACE c) = 1)) ∧
  (∀ s c a b, s.pow.hubOn = true → HoistAt s c 3 a b → bitsOf a 4 2 < 2 → (hchan s c).lastWait = some (hPc s c) →
      s.on (fHOIST_STATUS_PACE c) = true → bitsOf b 32 32 < waitValue s a →
    Answers (.hoistWait c) s (fun t => hPc t c = (hPc s c + 1) % 48 ∧ t.fv (fHOIST_STATUS_PACE c) = 1)) ∧
  (∀ s c a b, s.pow.hubOn = true → HoistAt s c 3 a b → bitsOf a 4 2 < 2 → (hchan s c).lastWait = some (hPc s c) →
      s.on (fHOIST_STATUS_PACE c) = true → waitValue s a ≤ bitsOf b 32 32 → waitTrue s c a b = false →
    Answers (.hoistWait c) s (fun t =>
      hPc t c = hPc s c ∧ hState t c = 2 ∧ t.fv (fHOIST_STATUS_PACE c) = 0)) ∧
  (∀ s c a b, s.pow.hubOn = true → HoistAt s c 4 a b → bitAt a 4 = false → writesDone s c = true →
    Answers (.hoistSignal c) s (fun t =>
      t.fv (fHOIST_EVENT_SIGNAL_IRQ c) = 1 ∧ hPc t c = (hPc s c + 1) % 48 ∧ t.mem = s.mem
        ∧ SameButEvents s t [rHOIST_STATUS c, rHOIST_EVENT c])) ∧
  (∀ s c a b addr, s.pow.hubOn = true → HoistAt s c 4 a b → bitAt a 4 = true → bitsOf a 6 2 = 1 →
      addr = hX s c (bitsOf a 8 3) → addr % 8 = 0 → lpUse s addr 8 = .fine → writesDone s c = true → tagFree s c = true →
    Answers (.hoistSignal c) s (fun t =>
      (∀ i, i < 8 → memByte t (addr + i) = (leBytes 8 (hX s c (bitsOf a 11 3))).getD i 0) ∧ SameMemBut s t addr 8
        ∧ hPc t c = (hPc s c + 1) % 48 ∧ (bitAt a 5 = true → t.fv (fHOIST_EVENT_SIGNAL_IRQ c) = 1))) ∧
  (∀ s c a b, s.pow.hubOn = true → HoistAt s c 4 a b → bitAt a 4 = true → hX s c (bitsOf a 8 3) % 8 ≠ 0 →
    Answers (.hoistSignal c) s (fun t => HoistHalted t c 0x0002 (hX s c (bitsOf a 8 3)) ∧ t.mem = s.mem)) ∧
  (∀ s c a b, s.pow.hubOn = true → HoistAt s c 5 a b → bitsOf a 7 2 = 0 →
    Answers (.hoistLoad c) s (fun t => hX t c (bitsOf a 4 3) = b ∧ hPc t c = (hPc s c + 1) % 48 ∧ t.hoist = s.hoist)) ∧
  (∀ s c a b, s.pow.hubOn = true → HoistAt s c 5 a b → bitsOf a 7 2 = 2 → bitsOf a 20 4 = 4 →
    Answers (.hoistLoad c) s (fun t => hX t c (bitsOf a 4 3) = s.dial % 2 ^ 64 ∧ hPc t c = (hPc s c + 1) % 48)) ∧
  (∀ s c a b addr, s.pow.hubOn = true → HoistAt s c 5 a b → bitsOf a 7 2 = 1 → bitsOf a 9 2 = 1 →
      addr = hX s c (bitsOf a 11 3) → addr % 8 = 0 → lpUse s addr 8 = .fine → writesDone s c = true → tagFree s c = true →
    Answers (.hoistLoad c) s (fun t =>
      (hchan t c).load = some (bitsOf a 4 3) ∧ hPc t c = hPc s c ∧ t.hoist.nextTag = s.hoist.nextTag + 1
        ∧ t.mem = s.mem ∧ ((hchan t c).ops.getLast?).map (fun o => (o.addr, o.len, o.space)) = some (addr, 8, 1))) ∧
  (∀ s c a b, s.pow.hubOn = true → HoistAt s c 6 a b → bitAt a 10 = false →
    Answers (.hoistAdd c) s (fun t =>
      hX t c (bitsOf a 4 3) = (hX s c (bitsOf a 4 3) + b) % 2 ^ 64 ∧ hPc t c = (hPc s c + 1) % 48
        ∧ SameRegsBut s t [rHOIST_STATUS c, rHOIST_X c (2 * bitsOf a 4 3), rHOIST_X c (2 * bitsOf a 4 3 + 1)])) ∧
  (∀ s c a b, s.pow.hubOn = true → HoistAt s c 6 a b → bitAt a 10 = true →
    Answers (.hoistAdd c) s (fun t =>
      hX t c (bitsOf a 4 3) = (hX s c (bitsOf a 4 3) + hX s c (bitsOf a 7 3)) % 2 ^ 64
        ∧ hPc t c = (hPc s c + 1) % 48)) ∧
  (∀ s c, s.pow.hubOn = true → c < 256 → instrReady s c = true → instrOk s c = false →
    Answers (.hoistIllegalInstruction c) s (fun t => HoistHalted t c 0x0001 0 ∧ hPc t c = hPc s c ∧ t.mem = s.mem)) ∧
  (∀ s c, s.pow.hubOn = true → c < 256 → hState s c = 2 → (hchan s c).stopping = false → (hchan s c).move = none →
      waitTrue s c (instr0 s c) (instr1 s c) = true →
    Answers (.hoistWaitPass c) s (fun t => hPc t c = (hPc s c + 1) % 48 ∧ hState t c = 1)) ∧
  (∀ s c m, s.pow.hubOn = true → c < 256 → hState s c = 2 → (hchan s c).stopping = false → (hchan s c).move = some m →
      m.stalled = true → 0 < credit s m.dst →
    Answers (.hoistWaitPass c) s (fun t =>
      hState t c = 1 ∧ (hchan t c).move = some { m with stalled := false } ∧ hPc t c = hPc s c)) ∧
  (∀ s c, s.pow.hubOn = true → c < 256 → hState s c = 2 → 0 < s.fv (fHOIST_CFG_WAIT_LIMIT_MS c) →
      (hchan s c).since + s.fv (fHOIST_CFG_WAIT_LIMIT_MS c) * 1000000 < s.now →
    Answers (.hoistWaitLimit c) s (fun t => HoistHalted t c 0x0008 0))

/-- HOIST_BEAT, HOIST_READ_COMPLETION, HOIST_WRITE_ACK, HOIST_ERROR_RESPONSE, HOIST_RETRY, HOIST_COMPLETION_TIMEOUT,
STREAM_MOVER_PACKET and FRAME_DELIVERED (R191, R240, R267, R332 to R336, R340): the arbiter's channel moves one beat, which
changes exactly its 64 bytes; reads bring their data, failures are retried or halt, and stream movers place slices and
hallmarks in their buffers. -/
def Obligations.HoistBeatsAndMovers : Prop :=
  (∀ s port errs c m, s.pow.hubOn = true → port < 5 → grantOf s port = some c → (hchan s c).move = some m →
      writePort (moveDst m) ≠ port → port = 2 → moveSrc m = 1 →
    Answers (.hoistBeat port errs) s (fun t =>
      (hchan t c).move = some { m with asked := m.asked + 64 } ∧ kget port t.hoist.turn = some c ∧ t.mem = s.mem
        ∧ t.hoist.nextTag = s.hoist.nextTag + 1
        ∧ ((hchan t c).ops.getLast?).map (fun o => (o.kind, o.space, o.addr, o.len, o.off, o.attempts))
          = some (0, 1, m.src + m.asked, 64, m.asked, 1))) ∧
  (∀ s errs c m bs, s.pow.hubOn = true → grantOf s 2 = some c → (hchan s c).move = some m → moveDst m = 1 →
      moveSrc m ≠ 2 → writeReady s c m = true → m.part = [] → kget m.written m.staged = some bs → bs.length = 64 →
      m.poisoned.contains m.written = false → m.ended = false → m.written + 64 < m.len → m.len < 2 ^ 32 →
    Answers (.hoistBeat 2 errs) s (fun t =>
      (∀ i, i < 64 → memByte t (m.dst + m.written + i) = bs.getD i 0) ∧ SameMemBut s t (m.dst + m.written) 64
        ∧ t.rn (rHOIST_MOVED c) = m.written + 64 ∧ (hchan t c).move.map (fun x => x.written) = some (m.written + 64)
        ∧ hPc t c = hPc s c)) ∧
  (∀ s errs c m bs, s.pow.hubOn = true → grantOf s 2 = some c → (hchan s c).move = some m → moveDst m = 1 →
      moveSrc m ≠ 2 → writeReady s c m = true → m.part = [] → kget m.written m.staged = some bs → bs.length = 64 →
      m.poisoned.contains m.written = false → m.written + 64 = m.len → m.len % 64 = 0 → m.len < 2 ^ 32 → bitAt m.w0 14 = false →
      bitAt m.w0 15 = true →
    Answers (.hoistBeat 2 errs) s (fun t =>
      (∀ i, i < 64 → memByte t (m.dst + m.written + i) = bs.getD i 0) ∧ SameMemBut s t (m.dst + m.written) 64
        ∧ t.rn (rHOIST_MOVED c) = m.len ∧ (hchan t c).move = none ∧ hPc t c = (hPc s c + 1) % 48
        ∧ hX t c (bitsOf m.w0 11 3) = (hX s c (bitsOf m.w0 11 3) + m.len) % 2 ^ 64)) ∧
  (∀ s port errs, s.pow.hubOn = true → port < 5 → grantOf s port = none →
    Answers (.hoistBeat port errs) s (fun t => t = s)) ∧
  (∀ s tag c o d, s.pow.hubOn = true → opOf s tag = some (c, o) → c < 256 → o.kind = 3 → o.space = 1 →
      (hchan s c).load = some d → d < 8 → o.len = 8 →
    Answers (.hoistReadCompletion tag) s (fun t =>
      hX t c d = leNat (memRead s o.addr 8) ∧ (hchan t c).load = none ∧ hPc t c = (hPc s c + 1) % 48
        ∧ (hchan t c).ops = (hchan s c).ops.filter (fun y => y.tag != o.tag) ∧ t.mem = s.mem)) ∧
  (∀ s tag c o m, s.pow.hubOn = true → opOf s tag = some (c, o) → c < 256 → o.kind = 0 → o.space = 1 →
      (hchan s c).move = some m → memBad s o.addr o.len = false →
    Answers (.hoistReadCompletion tag) s (fun t =>
      (hchan t c).move = some { m with staged := kput o.off (memRead s o.addr o.len) m.staged }
        ∧ (hchan t c).ops = (hchan s c).ops.filter (fun y => y.tag != o.tag) ∧ t.mem = s.mem)) ∧
  (∀ s tag c o, s.pow.hubOn = true → opOf s tag = some (c, o) → c < 256 → isRead o = false → o.space = 1 →
    Answers (.hoistWriteAck tag) s (fun t =>
      (hchan t c).ops = (hchan s c).ops.filter (fun y => y.tag != o.tag) ∧ (hchan t c).move = (hchan s c).move
        ∧ t.mem = s.mem ∧ SameRegsBut s t [rHOIST_STATUS c, rHOISTG_TAGS])) ∧
  (∀ s tag c o, s.pow.hubOn = true → opOf s tag = some (c, o) → c < 256 → o.space = 1 → hActive s c = true →
      (hchan s c).stopping = false → o.attempts ≤ retries s c →
    Answers (.hoistErrorResponse tag) s (fun t =>
      (hchan t c).ops = (hchan s c).ops.filter (fun y => y.tag != o.tag)
        ∧ (∃ since, (hchan t c).retry = (hchan s c).retry ++ [{ o with since := since }]
            ∧ s.now + 1000 ≤ since ∧ since ≤ s.now + 2000)
        ∧ hState t c = hState s c)) ∧
  (∀ s tag c o, s.pow.hubOn = true → opOf s tag = some (c, o) → c < 256 → o.space = 1 → hActive s c = true →
      (hchan s c).stopping = false → retries s c < o.attempts → o.attempts < 16 → o.addr < 2 ^ 64 →
    Answers (.hoistErrorResponse tag) s (fun t =>
      HoistHalted t c 0x0005 o.addr ∧ t.fv (fHOIST_FAULT_INFO_ATTEMPTS c) = o.attempts
        ∧ t.fv (fHOIST_FAULT_INFO_SPACE c) = 1)) ∧
  (∀ s tag c o, s.pow.hubOn = true → retryOf s tag = some (c, o) → c < 256 → o.since ≤ s.now → tagFree s c = true →
      o.space = 1 → isRead o = true →
    Answers (.hoistRetry tag) s (fun t =>
      t.fv (fHOIST_CNT_RETRIED c) = satTo 0xFFFF (s.fv (fHOIST_CNT_RETRIED c) + 1) ∧ t.fv (fHOIST_EVENT_RETRIED c) = 1
        ∧ ((hchan t c).ops.getLast?).map (fun x => x.attempts) = some (o.attempts + 1)
        ∧ (hchan t c).retry = (hchan s c).retry.filter (fun y => y.tag != o.tag) ∧ t.mem = s.mem)) ∧
  (∀ s tag c o, s.pow.hubOn = true → opOf s tag = some (c, o) → c < 256 → isRead o = true → o.space = 1 →
      o.since + 1000000 ≤ s.now → hActive s c = true → o.attempts < 16 → o.addr < 2 ^ 64 →
    Answers (.hoistCompletionTimeout tag) s (fun t =>
      HoistHalted t c 0x0006 o.addr ∧ (hchan t c).ops = (hchan s c).ops.filter (fun y => y.tag != o.tag))) ∧
  (∀ s st desc errs w ws g q buf b u a n l rest words, s.pow.hubOn = true → st < 128 → hState s st = 1 →
      groupEmpty s st = false → (queueOfL s st).words = w :: ws → w.tag = some g → g.kind = 0 →
      moverNeed s st g.frame = some q → (moverOf s st).frame = some g.frame → (moverOf s st).dest = .store buf b →
      lpUse s b 64 = .fine → packetWords (ws.length + 2) s st errs = (words, u) →
      cutLines (linePlaces q st b g.lines) words = ([(a, n, l)], rest) →
    Answers (.streamMoverPacket st desc errs) s (fun t =>
      (∀ i, i < 8 * l.length → memByte t (a + i) = (wordBytes l).getD i 0) ∧ SameMemBut s t a (8 * l.length)
        ∧ (moverOf t st).slices = (moverOf s st).slices + 1
        ∧ (moverOf t st).bytes = (moverOf s st).bytes + 8 * l.length)) ∧
  (∀ s st desc errs w ws g q buf b, s.pow.hubOn = true → st < 128 → hState s st = 1 →
      groupEmpty s st = false → (queueOfL s st).words = w :: ws → w.tag = some g → g.kind = 1 →
      moverNeed s st g.frame = some q → (moverOf s st).frame = some g.frame → (moverOf s st).dest = .store buf b →
      lpUse s b 64 = .fine →
    Answers (.streamMoverPacket st desc errs) s (fun t =>
      SameMemBut s t (b + fsPitch q.rd (st / 4) (st % 4) - 64) 64 ∧ (moverOf t st).seq = (moverOf s st).seq + 1
        ∧ (moverOf t st).frame = none
        ∧ ((moverOf t st).done.getLast?).map (fun d => (d.frame, d.dest)) = some (g.frame, .store buf b)
        ∧ (moverOf t st).done.length = (moverOf s st).done.length + 1)) ∧
  (∀ s st desc errs w ws g, s.pow.hubOn = true → 160 ≤ st → st < 192 → hState s st = 1 → groupEmpty s st = false →
      (queueOfL s st).words = w :: ws → w.tag = some g → g.kind = 2 → ringReady s st = none →
    Answers (.streamMoverPacket st desc errs) s (fun t =>
      t.fv fRING_EVENT_NO_BUFFER = 1 ∧ (moverOf t st).seq = (moverOf s st).seq + 1
        ∧ (moverOf t st).done = (moverOf s st).done ∧ t.mem = s.mem)) ∧
  (∀ s st desc errs, s.pow.hubOn = true → st < 192 → groupEmpty s st = true →
    Answers (.streamMoverPacket st desc errs) s (fun t => t = s)) ∧
  (∀ s st d rest k base hm buf irq, s.pow.hubOn = true → 160 ≤ st → st < 192 → (moverOf s st).done = d :: rest → d.kind = 2 →
      d.dest = .host k base hm buf irq false → hActive s st = true → moverAcked s st d.seq = true → d.fsn < 2 ^ 32 →
    Answers (.frameDelivered st) s (fun t =>
      t.rn (rSTATS_FSN (st - 0xA0)) = d.fsn
        ∧ (moverOf t st).done = (moverOf s st).done.filter (fun x => x.seq != d.seq))) ∧
  (∀ s st d rest buf b f, s.pow.hubOn = true → st < 128 → (moverOf s st).done = d :: rest → d.kind = 1 →
      d.dest = .store buf b → hActive s st = true → moverAcked s st d.seq = true →
      frameOf s (st / 4) d.frame = some f → goodFlags d.flags = true →
      storeLayout f.rd (st / 4) (st % 4) = storeLayout (actCfg s) (st / 4) (st % 4) →
    Answers (.frameDelivered st) s (fun t =>
      (storeOf t st).newest = some { stream := st, buf := buf, base := b, fs := d.fs, fsn := d.fsn, cfg := f.cfg }
        ∧ (moverOf t st).done = (moverOf s st).done.filter (fun x => x.seq != d.seq))) ∧
  (∀ s st d rest buf b, s.pow.hubOn = true → st < 128 → (moverOf s st).done = d :: rest → d.kind = 1 →
      d.dest = .store buf b → hActive s st = true → moverAcked s st d.seq = true → goodFlags d.flags = false →
    Answers (.frameDelivered st) s (fun t =>
      storeOf t st = storeOf s st
        ∧ (moverOf t st).done = (moverOf s st).done.filter (fun x => x.seq != d.seq)))

/-- STREAM_START, STREAM_STOP, STREAM_STOP_DRAINED, ASYNC_STREAM_STOP, WINDING and DISPLAYED (R360 to R362, R501 to R506): a
stream starts or its command is refused with its status, stops when it has drained or after 5 ms, and a response or a
confirmation is judged by the island. -/
def Obligations.StreamsAndIslandCommands : Prop :=
  (∀ s c p, s.pow.hubOn = true → Starts s c 0x11 → Room s c → c.target = p → p < 32 →
      unusedZero c true false false false = true → s.started.contains p = false → s.rn (rCMT_CONFIG_GEN p) ≠ 0 →
      unbound s p = false → s.fv (fKSCHED_STATUS_STATE p) ≠ 3 →
    Answers .streamStart s (fun t =>
      Done s t c ∧ Wrote s t c 0x00 (s.rn (rCMT_CONFIG_GEN p)) 0 0 0 ∧ t.started = s.started ++ [p]
        ∧ t.rn (rCMT_FSN p) = 0xFFFFFFFF ∧ t.fv (fKSCHED_STATUS_STATE p) = 1 ∧ kget p t.frameNo = none)) ∧
  (∀ s c p, s.pow.hubOn = true → Starts s c 0x11 → Room s c → c.target = p → p < 32 →
      unusedZero c true false false false = true → s.started.contains p = true →
    Answers .streamStart s (fun t => Done s t c ∧ Wrote s t c 0x50 0 0 0 0 ∧ t.started = s.started)) ∧
  (∀ s c p, s.pow.hubOn = true → Starts s c 0x11 → Room s c → c.target = p → p < 32 →
      unusedZero c true false false false = true → s.started.contains p = false → s.rn (rCMT_CONFIG_GEN p) = 0 →
    Answers .streamStart s (fun t => Done s t c ∧ Wrote s t c 0x52 0 0 0 0 ∧ t.started = s.started)) ∧
  (∀ s c p, s.pow.hubOn = true → Starts s c 0x11 → Room s c → c.target = p → p < 32 →
      unusedZero c true false false false = true → s.started.contains p = false → s.rn (rCMT_CONFIG_GEN p) ≠ 0 →
      unbound s p = true →
    Answers .streamStart s (fun t => Done s t c ∧ Wrote s t c 0x51 0 0 0 0 ∧ t.started = s.started)) ∧
  (∀ s c p, s.pow.hubOn = true → Starts s c 0x11 → Room s c → c.target = p → p < 32 →
      unusedZero c true false false false = true → s.started.contains p = false → s.rn (rCMT_CONFIG_GEN p) ≠ 0 →
      unbound s p = false → s.fv (fKSCHED_STATUS_STATE p) = 3 →
    Answers .streamStart s (fun t => Done s t c ∧ Wrote s t c 0x55 0 0 0 0 ∧ t.started = s.started)) ∧
  (∀ s c p, s.pow.hubOn = true → Starts s c 0x12 → c.target = p → p < 32 → unusedZero c true false false false = true →
      s.started.contains p = true → (pipeOf s p).stopCmd = none →
    Answers .streamStop s (fun t => ∃ u, t = settlePipe u p ∧
      (pipeOf u p).stopCmd = some c ∧ (pipeOf u p).refuse = true ∧ (pipeOf u p).stopAt = s.now
        ∧ u.ring.opened = s.ring.opened ∧ u.started = s.started)) ∧
  (∀ s c p, s.pow.hubOn = true → Starts s c 0x12 → Room s c → c.target = p → p < 32 →
      unusedZero c true false false false = true → s.started.contains p = false →
    Answers .streamStop s (fun t => Done s t c ∧ Wrote s t c 0x54 0 0 0 0 ∧ t.started = s.started)) ∧
  (∀ s p c, s.pow.hubOn = true → p < 32 → (pipeOf s p).stopCmd = some c → (pipeOf s p).stopAt + 5000000 ≤ s.now →
    Answers (.streamStopDrained p) s (fun t =>
      t.started = s.started.filter (fun q => q != p) ∧ (pipeOf t p).frames = [] ∧ (pipeOf t p).stopCmd = none
        ∧ (∀ x ∈ t.ring.opened, x.id ≠ c.id)
        ∧ t.fv (fKSCHED_STATUS_STATE p) = (if s.fv (fKSCHED_STATUS_STATE p) = 3 then 3 else 0))) ∧
  (∀ s p c, s.pow.hubOn = true → p < 32 → (pipeOf s p).stopCmd = some c → streamDrained s p = true →
      (escOf s p).entries = [] → armedOf s p = none → Room s c → s.ring.opened.any (fun x => x.id == c.id) = true →
    Answers (.streamStopDrained p) s (fun t => Done s t c ∧ Wrote s t c 0x00 (s.rn (rCMT_FSN p)) 0 0 0)) ∧
  (∀ s p code l, s.pow.hubOn = true → s.stops = (p, code) :: l → p < 32 → s.started.contains p = true →
    Answers .asyncStreamStop s (fun t =>
      t.started = s.started.filter (fun q => q != p) ∧ t.fv ⟨rRING_STOPPED_PIPES, p, 1⟩ = 1
        ∧ (pipeOf t p).frames = [])) ∧
  (∀ s c code l, s.pow.hubOn = true → s.stops = (0x80 + c, code) :: l → c < 4 → s.on (fCV_ENABLE_EN c) = true →
    Answers .asyncStreamStop s (fun t =>
      t.fv (fCV_ENABLE_EN c) = 0 ∧ t.fv ⟨rRING_STOPPED_CANVASES, c, 1⟩ = 1 ∧ (canvasOf t c).frames = [])) ∧
  (∀ s p code l, s.pow.hubOn = true → s.stops = (p, code) :: l → p < 32 → s.started.contains p = false →
    Answers .asyncStreamStop s (fun t => t = { s with stops := l })) ∧
  (∀ s c, s.pow.hubOn = true → s.pow.powered = true → s.isl.running = true → Starts s c 0x30 → Room s c →
      unusedZero c false true true false = true → c.arg0 = windResponse (challenge s) c.arg1 →
      c.arg1 = s.rn rSAFE_WIND_STATUS → windState s = 2 → s.isl.windAt + s.isl.windPeriod * 500000 ≤ s.dial →
      s.dial ≤ s.isl.windAt + s.isl.windPeriod * 1000000 →
    Answers .winding s (fun t =>
      Done s t c ∧ windState t = 2 ∧ t.isl.windAt = s.dial ∧ t.isl.windPeriod = s.fv fSAFE_WIND_CFG_PERIOD_MS
        ∧ t.rn rSAFE_WIND_STATUS = (s.rn rSAFE_WIND_STATUS + 1) % 2 ^ 32
        ∧ Wrote s t c 0x00 (challenge t) (s.dial + s.fv fSAFE_WIND_CFG_PERIOD_MS * 1000000) 0 0)) ∧
  (∀ s c, s.pow.hubOn = true → s.pow.powered = true → s.isl.running = true → Starts s c 0x30 →
      unusedZero c false true true false = true → c.arg0 = windResponse (challenge s) c.arg1 →
      c.arg1 = s.rn rSAFE_WIND_STATUS → windState s ≠ 2 → s.isl.windCount = 0 →
    Answers .winding s (fun t => Done s t c ∧ windState t = 1 ∧ t.isl.windCount = 1 ∧ t.isl.windAt = s.dial)) ∧
  (∀ s c, s.pow.hubOn = true → s.pow.powered = true → s.isl.running = true → Starts s c 0x30 →
      unusedZero c false true true false = true → c.arg0 = windResponse (challenge s) c.arg1 →
      c.arg1 = s.rn rSAFE_WIND_STATUS → windState s = 1 → s.isl.windCount = 1 →
      s.isl.windAt + s.isl.windPeriod * 500000 ≤ s.dial → s.dial ≤ s.isl.windAt + s.isl.windPeriod * 1000000 →
    Answers .winding s (fun t => Done s t c ∧ windState t = 2)) ∧
  (∀ s c, s.pow.hubOn = true → s.pow.powered = true → s.isl.running = true → Starts s c 0x30 → Room s c →
      unusedZero c false true true false = true → c.arg1 < 2 ^ 32 →
      c.arg0 ≠ windResponse (challenge s) c.arg1 ∨ c.arg1 ≠ s.rn rSAFE_WIND_STATUS → windState s = 2 →
    Answers .winding s (fun t =>
      Done s t c ∧ windState t = 3 ∧ Wrote s t c 0x60 (challenge s) 0 0 0 ∧ t.fv fSAFE_EVENT_WIND_REJECTED = 1)) ∧
  (∀ s c, s.pow.hubOn = true → s.pow.powered = true → s.isl.running = true → Starts s c 0x31 → Room s c →
      unusedZero c true true true false = true → c.target < 256 →
      heldFrame s c.target (c.arg0 % 2 ^ 32) = none →
    Answers .displayed s (fun t => Done s t c ∧ Wrote s t c 0x62 0 0 0 0)) ∧
  (∀ s c f, s.pow.hubOn = true → s.pow.powered = true → s.isl.running = true → Starts s c 0x31 → Room s c →
      unusedZero c true true true false = true → c.target < 256 →
      heldFrame s c.target (c.arg0 % 2 ^ 32) = some f → f.delivered ≤ c.arg1 → c.arg1 ≤ s.dial →
      c.arg0 / 2 ^ 32 ≠ f.tally →
    Answers .displayed s (fun t => Done s t c ∧ Wrote s t c 0x61 0 0 0 0)) ∧
  (∀ s c f, s.pow.hubOn = true → s.pow.powered = true → s.isl.running = true → Starts s c 0x31 → Room s c →
      unusedZero c true true true false = true → c.target < 256 →
      heldFrame s c.target (c.arg0 % 2 ^ 32) = some f → f.delivered ≤ c.arg1 → c.arg1 ≤ s.dial →
      c.arg0 / 2 ^ 32 = f.tally → f.budget * 1000000 < c.arg1 - f.capture →
    Answers .displayed s (fun t => Done s t c ∧ Wrote s t c 0x00 (c.arg1 - f.capture) 0 0 1)) ∧
  (∀ s c f, s.pow.hubOn = true → s.pow.powered = true → s.isl.running = true → Starts s c 0x31 → Room s c →
      unusedZero c true true true false = true → c.target < 256 →
      heldFrame s c.target (c.arg0 % 2 ^ 32) = some f → f.delivered ≤ c.arg1 → c.arg1 ≤ s.dial →
      c.arg0 / 2 ^ 32 = f.tally → c.arg1 - f.capture ≤ f.budget * 1000000 →
    Answers .displayed s (fun t => Done s t c ∧ Wrote s t c 0x00 (c.arg1 - f.capture) 0 0 0))

/-- TALLY_START, TALLY_DATA_WRITE, TALLY_PARITY_ERROR, CAL_START, ADC_CALIBRATION_DONE, ADC_CONVERSION_END, GO,
ADC_URGENT_TRIGGER, ADC_CONVERSION_STUCK, AADC_POWER_UP, ILS_LATCH_CLEAR and ILS_SAMPLE (R461 to R464, R469, R474 to R484):
a tally unit takes its staged set at START and feeds every byte; a conversion writes its calibrated result and judges its
window, and a current out of range is reported and latched. -/
def Obligations.TalliesAndConverters : Prop :=
  (∀ s u (v : Word) x, s.pow.hubOn = true → u < 16 → bitsOf v.toNat 0 3 ≤ 4 → bitAt v.toNat 16 = true →
      x = stagedTally (s.setF ⟨rTALLY_CTRL u, 0, 10⟩ (bitsOf v.toNat 0 10)) u →
    Answers (.tallyStart u v) s (fun t =>
      tallySet t u = x ∧ t.rn (rTALLY_STATE u) = x.init % 2 ^ x.width
        ∧ t.rn (rTALLY_RESULT u) = x.result (x.init % 2 ^ x.width) ∧ t.pair (rTALLY_COUNT_LO u) (rTALLY_COUNT_HI u) = 0
        ∧ t.fv (fTALLY_CTRL_STARTED u) = 1 ∧ t.fv (fTALLY_CTRL_ALGO u) = bitsOf v.toNat 0 3
        ∧ SameRegsBut s t [rTALLY_CTRL u, rTALLY_STATE u, rTALLY_RESULT u, rTALLY_COUNT_LO u, rTALLY_COUNT_HI u])) ∧
  (∀ s u (v : Word), s.pow.hubOn = true → u < 16 → bitsOf v.toNat 0 3 ≤ 4 → bitAt v.toNat 16 = false →
    Answers (.tallyStart u v) s (fun t => t.tally = s.tally ∧ SameRegsBut s t [rTALLY_CTRL u])) ∧
  (∀ s u (v : Word), s.pow.hubOn = true → u < 16 → 4 < bitsOf v.toNat 0 3 →
    Answers (.tallyStart u v) s (fun t =>
      t.fv (fTALLY_EVENT_CFG_INVALID u) = 1 ∧ t.tally = s.tally ∧ SameButEvents s t [rTALLY_EVENT u])) ∧
  (∀ s u (bytes : List Byte), s.pow.hubOn = true → u < 16 → bytes.length ≤ 64 → (tallySet s u).width ≤ 32 →
    Answers (.tallyDataWrite u bytes) s (fun t =>
      t.rn (rTALLY_STATE u) = bytes.foldl (tallySet s u).feed (s.rn (rTALLY_STATE u)) % 2 ^ (tallySet s u).width
        ∧ t.rn (rTALLY_RESULT u) = (tallySet s u).result (t.rn (rTALLY_STATE u))
        ∧ t.pair (rTALLY_COUNT_LO u) (rTALLY_COUNT_HI u)
          = (s.pair (rTALLY_COUNT_LO u) (rTALLY_COUNT_HI u) + bytes.length) % 2 ^ 64
        ∧ SameRegsBut s t [rTALLY_STATE u, rTALLY_RESULT u, rTALLY_COUNT_LO u, rTALLY_COUNT_HI u])) ∧
  (∀ s u, s.pow.hubOn = true → u < 16 →
    Answers (.tallyParityError u) s (fun t =>
      t.rn (rTALLY_STATE u) = 0 ∧ t.fv (fTALLY_EVENT_PARITY u) = 1 ∧ t.tally = s.tally
        ∧ t.isl.inbox = s.isl.inbox ++ [(faultCode 0x07 u 0x0001, 0)])) ∧
  (∀ s c (v : Word), s.pow.hubOn = true → c < 11 → convIn s c = true → bitsOf v.toNat 0 6 ≤ 34 → bitsOf v.toNat 16 16 ≠ 0 →
      bitAt v.toNat 8 = false → bitAt v.toNat 9 = true → convState s c ≠ 1 → (convOf s c).dead = false →
      (c < 2 → convState s (1 - c) ≠ 1) →
    Answers (.calStart c v) s (fun t =>
      convState t c = 1 ∧ (convOf t c).cur = none ∧ (convOf t c).inj = none ∧ (convOf t c).calAt = s.now
        ∧ t.fv (fMADC_CTRL_INJ_TRIG c) = bitsOf v.toNat 0 6 ∧ t.fv (fMADC_CTRL_INJ_LEN c) = bitsOf v.toNat 6 2
        ∧ t.fv (fMADC_CTRL_INJ_TIME c) = bitsOf v.toNat 16 16 ∧ SameRegsBut s t [rMADC_CTRL c, rMADC_STATUS c])) ∧
  (∀ s c (v : Word), s.pow.hubOn = true → c < 2 → bitsOf v.toNat 0 6 ≤ 34 → bitsOf v.toNat 16 16 ≠ 0 →
      bitAt v.toNat 8 = false → bitAt v.toNat 9 = true → convState s c ≠ 1 → (convOf s c).dead = false →
      convState s (1 - c) = 1 →
    Answers (.calStart c v) s (fun t =>
      t.fv (fMADC_EVENT_CFG_INVALID c) = 1 ∧ convState t c = convState s c
        ∧ SameButEvents s t [rMADC_CTRL c, rMADC_EVENT c])) ∧
  (∀ s c (v : Word), s.pow.hubOn = true → c < 11 → convIn s c = true → 34 < bitsOf v.toNat 0 6 ∨ bitsOf v.toNat 16 16 = 0 →
    Answers (.calStart c v) s (fun t =>
      t.fv (fMADC_EVENT_CFG_INVALID c) = 1 ∧ t.madc = s.madc ∧ SameButEvents s t [rMADC_EVENT c])) ∧
  (∀ s c (v : Word), s.pow.hubOn = true → c < 10 → convIn s c = true → 0 < bitsOf v.toNat 0 6 → bitsOf v.toNat 0 6 ≤ 34 →
      bitsOf v.toNat 16 16 ≠ 0 → bitAt v.toNat 8 = true → bitAt v.toNat 9 = false → convState s c = 2 →
      (convOf s c).inj = none →
    Answers (.go c v) s (fun t =>
      (convOf t c).inj = some 0 ∧ (convOf t c).start = s.now ∧ (convOf t c).cur = (convOf s c).cur
        ∧ SameRegsBut s t [rMADC_CTRL c])) ∧
  (∀ s c (v : Word) i, s.pow.hubOn = true → c < 11 → convIn s c = true → 0 < bitsOf v.toNat 0 6 → bitsOf v.toNat 0 6 ≤ 34 →
      bitsOf v.toNat 16 16 ≠ 0 → bitAt v.toNat 8 = true → bitAt v.toNat 9 = false → convState s c = 2 →
      (convOf s c).inj = some i →
    Answers (.go c v) s (fun t =>
      (convOf t c).inj = some i ∧ t.fv (fMADC_EVENT_INJ_OVERRUN c) = 1
        ∧ t.fv (fMADC_CNT_INJ_OVERRUN c) = satTo 0xFFFF (s.fv (fMADC_CNT_INJ_OVERRUN c) + 1)
        ∧ t.isl.inbox = s.isl.inbox ++ [(faultCode 0x06 c 0x0005, 0)])) ∧
  (∀ s c r, s.pow.powered = true → c < 11 → convIn s c = true → convState s c = 1 →
      (convOf s c).calAt + 2400000 ≤ s.now → calGood r = true →
    Answers (.adcCalibrationDone c r) s (fun t =>
      convState t c = 2 ∧ t.fv (fMADC_STATUS_CAL_OK c) = 1 ∧ t.fv (fMADC_CAL_OFFSET c) = wordOfInt 8 r.offset
        ∧ t.fv (fMADC_CAL_GAIN c) = r.gain ∧ t.fv (fMADC_EVENT_CAL_DONE c) = 1
        ∧ (∀ i < 16, t.fv (fMADC_RESULT_VALID c i) = 0) ∧ (convOf t c).calEnd = s.now)) ∧
  (∀ s c r, s.pow.powered = true → c < 11 → convIn s c = true → convState s c = 1 →
      (convOf s c).calAt + 2400000 ≤ s.now → calGood r = false → s.on (fMADC_STATUS_CAL_OK c) = false →
    Answers (.adcCalibrationDone c r) s (fun t =>
      convState t c = 3 ∧ t.fv (fMADC_EVENT_CAL_FAIL c) = 1 ∧ t.rn (rMADC_CAL c) = s.rn (rMADC_CAL c)
        ∧ t.isl.inbox = s.isl.inbox ++ [(faultCode 0x06 c 0x0001, 0)])) ∧
  (∀ s c raw i e code, s.pow.powered = true → c < 11 → convIn s c = true → convState s c = 2 → (convOf s c).inj = none →
      (convOf s c).cur = some (i + 1) → i < 16 → (convOf s c).seq[i]? = some e → (convOf s c).start + 1000 ≤ s.now →
      s.now ≤ (convOf s c).start + 5000 → code = calibrated s c raw →
    Answers (.adcConversionEnd c raw) s (fun t =>
      t.rn (rMADC_RESULT c i) = code + 2 ^ 12 + b2n (decide (code < bitsOf e 7 12)) * 2 ^ 13
          + b2n (decide (bitsOf e 19 12 < code)) * 2 ^ 14 + s.fv (fMADC_STATUS_PASS c) * 2 ^ 16
        ∧ (code < bitsOf e 7 12 ∨ bitsOf e 19 12 < code → s.on (fMADC_RESULT_OUT_LOW c i) = false →
            s.on (fMADC_RESULT_OUT_HIGH c i) = false → t.fv (fMADC_EVENT_LIMIT c) = 1))) ∧
  (∀ s c raw i, s.pow.powered = true → c < 11 → convIn s c = true → convState s c = 2 → (convOf s c).inj = some i → i < 4 →
      (convOf s c).start + 1000 ≤ s.now → s.now ≤ (convOf s c).start + 5000 →
    Answers (.adcConversionEnd c raw) s (fun t =>
      t.rn (rMADC_INJ_RESULT c i) = calibrated s c raw + 2 ^ 12 + (convOf s c).injRun % 2 ^ 16 * 2 ^ 16
        ∧ (if i < s.fv (fMADC_CTRL_INJ_LEN c) then (convOf t c).inj = some (i + 1)
           else (convOf t c).inj = none ∧ t.fv (fMADC_EVENT_INJ_DONE c) = 1
             ∧ (convOf t c).injRun = (convOf s c).injRun + 1))) ∧
  (∀ s raw b, s.pow.powered = true → s.pow.hubOn = true → convState s 0 = 2 → convState s 1 = 2 → (convOf s 0).inj = none →
      (convOf s 0).cur = some 0 → (convOf s 0).start + 1000 ≤ s.now → s.now ≤ (convOf s 0).start + 5000 →
      (convOf s 0).calEnd + 1000000 ≤ s.now → (convOf s 1).calEnd + 1000000 ≤ s.now → s.madc.plausB = some b →
      s.fv fMADCC_PLAUS_TOL < (calibrated s 0 raw - b) + (b - calibrated s 0 raw) →
      s.madc.disagree + 1 = s.fv fMADCC_PLAUS_CONSEC →
    Answers (.adcConversionEnd 0 raw) s (fun t =>
      t.fv fMADCC_PLAUS_STATUS_FAIL = 1 ∧ t.fv fMADCC_C_EVENT_PLAUS_FAIL = 1
        ∧ t.isl.inbox = s.isl.inbox ++ [(faultCode 0x06 0 0x0002, 0)])) ∧
  (∀ s c due l, s.pow.powered = true → c < 10 → convIn s c = true → (convOf s c).due = due :: l → due ≤ s.now →
      convState s c = 2 → (convOf s c).inj = none → s.fv (fMADC_CTRL_INJ_TRIG c) ≠ 34 →
    Answers (.adcUrgentTrigger c) s (fun t =>
      (convOf t c).inj = some 0 ∧ (convOf t c).start = s.now ∧ (convOf t c).due = l ∧ t.regs = s.regs)) ∧
  (∀ s c, s.pow.powered = true → c < 11 → converting s c = true → (convOf s c).start + 5000 < s.now →
      (convOf s c).stuckAt = none →
    Answers (.adcConversionStuck c) s (fun t =>
      t.fv (fMADC_EVENT_STUCK c) = 1 ∧ convState t c = 2 ∧ (convOf t c).stuckAt = some s.now
        ∧ t.isl.inbox = s.isl.inbox ++ [(faultCode 0x06 c 0x0006, 0)])) ∧
  (∀ s c before, s.pow.powered = true → c < 11 → converting s c = true → (convOf s c).start + 5000 < s.now →
      (convOf s c).stuckAt = some before → s.now ≤ before + 10000000 →
    Answers (.adcConversionStuck c) s (fun t =>
      convState t c = 3 ∧ (convOf t c).dead = true ∧ (convOf t c).cur = none ∧ t.fv (fMADC_EVENT_STUCK c) = 1)) ∧
  (∀ s due, s.pow.powered = true → (convOf s 10).rest = some due → due ≤ s.now → convState s 10 = 2 →
    Answers .aadcPowerUp s (fun t =>
      (convOf t 10).rest = none ∧ (convOf t 10).start = s.now + 5000
        ∧ (convOf t 10).seq = (List.range 16).map (seqReg s 10) ∧ t.regs = s.regs)) ∧
  (∀ s (v : Word), s.pow.hubOn = true →
    Answers (.ilsLatchClear v) s (fun t => t.reg rMADCC_ILS_LATCH = s.reg rMADCC_ILS_LATCH &&& ~~~ v)) ∧
  (∀ s j code, s.pow.hubOn = true → j < 16 → code < 4096 → convState s (if j < 8 then 0 else 1) = 2 →
      s.on (fMADCC_ILS_THR_OFF_CHECK_EN j) = true → ilsDue s j = true → bitAt s.regu.ill j = true →
      s.fv (fMADCC_ILS_THR_ON_ON_MIN j) ≤ code → s.fv (fMADCC_ILS_THR_ON_ON_MAX j) < code →
    Answers (.ilsSample j code) s (fun t =>
      t.fv ⟨rMADCC_ILS_LATCH, j, 1⟩ = 1 ∧ t.fv fMADCC_C_EVENT_ILS_OVER = 1
        ∧ (faultCode 0x0C j 0x0011, 0) ∈ t.isl.inbox ∧ kget j t.madc.ilsAt = some s.dial)) ∧
  (∀ s j code, s.pow.hubOn = true → j < 16 → code < 4096 → convState s (if j < 8 then 0 else 1) = 2 →
      s.on (fMADCC_ILS_THR_OFF_CHECK_EN j) = true → ilsDue s j = true → bitAt s.regu.ill j = true →
      code < s.fv (fMADCC_ILS_THR_ON_ON_MIN j) →
    Answers (.ilsSample j code) s (fun t =>
      t.fv fMADCC_C_EVENT_ILS_OPEN = 1 ∧ t.isl.inbox = s.isl.inbox ++ [(faultCode 0x0C j 0x0010, 0)]
        ∧ t.rn rMADCC_ILS_LATCH = s.rn rMADCC_ILS_LATCH)) ∧
  (∀ s j code, s.pow.hubOn = true → j < 16 → code < 4096 → convState s (if j < 8 then 0 else 1) = 2 →
      s.on (fMADCC_ILS_THR_OFF_CHECK_EN j) = true → ilsDue s j = true → bitAt s.regu.ill j = false →
      s.fv (fMADCC_ILS_THR_OFF_OFF_MAX j) < code →
    Answers (.ilsSample j code) s (fun t =>
      t.fv fMADCC_C_EVENT_ILS_STUCK_ON = 1 ∧ t.isl.inbox = s.isl.inbox ++ [(faultCode 0x0C j 0x0012, 0)]))

/-- POSTED_ALIAS_WRITE, SYNCED_ALIAS_WRITE, POSTED_ALIAS_READ, SPLIT_READ_DONE, COLLECT_READ, TICKET_DISCARD,
SYNCED_ALIAS_READ, SYNCED_READ_DONE and SYNCED_READ_HOLD_EXPIRED (R396 to R400, R406): an access enters the queue of its
port byte by byte, and one that fails at once or does not fit is logged; a split read takes a ticket, whose result one
8-byte read takes or a discard drops; a held read ends with its data, or with Completer Abort. -/
def Obligations.SensorWindows : Prop :=
  (∀ s n a (bytes : List Byte), HostAsks s → n < 32 → a < 65536 → bytes ≠ [] → accessFails s n a bytes.length = false →
      (queueOf s n).length + bytes.length ≤ 64 →
    Answers (.postedAliasWrite n a bytes) s (fun t =>
      kget s.bridge.nextAcc t.bridge.accs = some
          { kind := 0, port := n, addr := a, size := bytes.length, data := bytes, ticket := 0, got := [], fail := 0, abort := false,
            lost := false, since := s.now }
        ∧ queueOf t n = queueOf s n ++ (List.range bytes.length).map (fun i => (s.bridge.nextAcc, i))
        ∧ t.fv (fBRIDGE_PORT_QUEUED n) = (queueOf s n).length + bytes.length
        ∧ SameRegsBut s t [rBRIDGE_PORT n])) ∧
  (∀ s n a (bytes : List Byte), HostAsks s → n < 32 → a < 65536 → bytes ≠ [] → accessFails s n a bytes.length = false →
      64 < (queueOf s n).length + bytes.length →
    Answers (.postedAliasWrite n a bytes) s (fun t =>
      t.bridge = s.bridge ∧ Logged s t 0 n a (leNat bytes) 0 1 ∧ t.fv fBRIDGE_EVENT_QUEUE_FULL = 1
        ∧ t.fv fBRIDGE_CNT_B_QUEUE_FULL = satTo 0xFFFF (s.fv fBRIDGE_CNT_B_QUEUE_FULL + 1)
        ∧ t.fv fBRIDGE_EVENT_POSTED_FAIL = 1 ∧ (faultCode 0x16 n 0x0006, 0) ∈ t.isl.inbox
        ∧ (faultCode 0x16 n 0x0001, 0) ∈ t.isl.inbox)) ∧
  (∀ s n a (bytes : List Byte), HostAsks s → n < 32 → a < 65536 → bytes ≠ [] → accessFails s n a bytes.length = true →
    Answers (.postedAliasWrite n a bytes) s (fun t =>
      t.bridge = s.bridge ∧ Logged s t 0 n a (leNat bytes) 0 0 ∧ t.fv fBRIDGE_EVENT_POSTED_FAIL = 1
        ∧ (faultCode 0x16 n 0x0001, 0) ∈ t.isl.inbox)) ∧
  (∀ s n a (bytes : List Byte), HostAsks s → n < 32 → a < 65536 → bytes ≠ [] → accessFails s n a bytes.length = false →
      (queueOf s n).length + bytes.length ≤ 64 →
    Answers (.syncedAliasWrite n a bytes) s (fun t =>
      kget s.bridge.nextAcc t.bridge.accs = some
          { kind := 1, port := n, addr := a, size := bytes.length, data := bytes, ticket := 0, got := [], fail := 0, abort := false,
            lost := false, since := s.now }
        ∧ queueOf t n = queueOf s n ++ (List.range bytes.length).map (fun i => (s.bridge.nextAcc, i))
        ∧ t.fv (fBRIDGE_PORT_QUEUED n) = (queueOf s n).length + bytes.length
        ∧ SameRegsBut s t [rBRIDGE_PORT n])) ∧
  (∀ s n a (bytes : List Byte), HostAsks s → n < 32 → a < 65536 → bytes ≠ [] → accessFails s n a bytes.length = true →
    Answers (.syncedAliasWrite n a bytes) s (fun t =>
      t.bridge = s.bridge ∧ Logged s t 1 n a (leNat bytes) 0 0 ∧ t.fv (fBRIDGE_PORT_SYNC_ERR n) = 1
        ∧ t.fv fBRIDGE_EVENT_SYNC_FAIL = 1 ∧ t.fv fBRIDGE_EVENT_POSTED_FAIL = s.fv fBRIDGE_EVENT_POSTED_FAIL
        ∧ t.isl.inbox = s.isl.inbox ++ [(faultCode 0x16 n 0x0002, 0)])) ∧
  (∀ s n a, HostAsks s → n < 32 → a < 65536 → accessFails s n a 4 = false → freeTickets s ≠ [] →
    Answers (.postedAliasRead n a 4) s (fun t => ∃ k, k ∈ freeTickets s
      ∧ t.reply = ⟨.success, leBytes 4 (1 + 2 * k)⟩ ∧ t.fv (fBRIDGE_COLLECT_HI_STATE k) = 1
      ∧ t.fv (fBRIDGE_COLLECT_HI_PORT k) = n
      ∧ queueOf t n = queueOf s n ++ (List.range 4).map (fun i => (s.bridge.nextAcc, i)))) ∧
  (∀ s n a, HostAsks s → n < 32 → a < 65536 → accessFails s n a 4 = false → freeTickets s = [] →
    Answers (.postedAliasRead n a 4) s (fun t =>
      t.reply = ⟨.success, leBytes 4 0⟩ ∧ t.bridge = s.bridge ∧ SameRegsBut s t [])) ∧
  (∀ s n a, HostAsks s → n < 32 → a < 65536 → accessFails s n a 4 = true →
    Answers (.postedAliasRead n a 4) s (fun t =>
      t.reply = ⟨.abort, []⟩ ∧ t.bridge = s.bridge ∧ SameRegsBut s t [])) ∧
  (∀ s n a size, HostAsks s → n < 32 → a < 65536 → size ≠ 4 →
    Answers (.postedAliasRead n a size) s (fun t =>
      t.reply = ⟨.unsupported, []⟩ ∧ t.bridge = s.bridge ∧ SameRegsBut s t [])) ∧
  (∀ s k id (a : BridgeAcc), s.pow.hubOn = true → k < 64 →
      findAcc s (fun a => a.kind == 2 && a.ticket == k && !a.lost && a.got.length == a.size) = some (id, a) → a.fail < 16 →
    Answers (.splitReadDone k) s (fun t =>
      t.fv (fBRIDGE_COLLECT_HI_STATE k) = 2 ∧ t.rn (rBRIDGE_COLLECT_LO k) = leNat a.got % 2 ^ 32
        ∧ t.fv (fBRIDGE_COLLECT_HI_RESULT k) = a.fail ∧ kget k t.bridge.doneAt = some s.now
        ∧ SameRegsBut s t [rBRIDGE_COLLECT_LO k, rBRIDGE_COLLECT_HI k, rBRIDGE_STATUS])) ∧
  (∀ s k, HostAsks s → k < 64 → s.fv (fBRIDGE_COLLECT_HI_STATE k) = 2 →
    Answers (.collectRead k) s (fun t =>
      t.reply = ⟨.success, leBytes 8 (s.pair (rBRIDGE_COLLECT_LO k) (rBRIDGE_COLLECT_HI k))⟩
        ∧ t.rn (rBRIDGE_COLLECT_LO k) = 0 ∧ t.rn (rBRIDGE_COLLECT_HI k) = 0 ∧ kget k t.bridge.doneAt = none
        ∧ t.fv fBRIDGE_STATUS_TICKETS = 64 - (freeTickets t).length
        ∧ SameRegsBut s t [rBRIDGE_COLLECT_LO k, rBRIDGE_COLLECT_HI k, rBRIDGE_STATUS])) ∧
  (∀ s k, HostAsks s → k < 64 → s.fv (fBRIDGE_COLLECT_HI_STATE k) ≠ 2 →
    Answers (.collectRead k) s (fun t =>
      t.reply = ⟨.success, leBytes 8 (s.pair (rBRIDGE_COLLECT_LO k) (rBRIDGE_COLLECT_HI k))⟩
        ∧ t.bridge = s.bridge ∧ SameRegsBut s t [])) ∧
  (∀ s k at0, s.pow.hubOn = true → k < 64 → kget k s.bridge.doneAt = some at0 →
      at0 + s.fv fBRIDGE_CFG_DISCARD_MS * 1000000 ≤ s.now →
    Answers (.ticketDiscard k) s (fun t =>
      t.fv (fBRIDGE_COLLECT_HI_STATE k) = 0 ∧ t.rn (rBRIDGE_COLLECT_LO k) = 0 ∧ kget k t.bridge.doneAt = none
        ∧ t.fv fBRIDGE_CNT_A_DISCARDED = satTo 0xFFFF (s.fv fBRIDGE_CNT_A_DISCARDED + 1)
        ∧ t.fv fBRIDGE_EVENT_DISCARDED = 1 ∧ t.isl.inbox = s.isl.inbox ++ [(faultCode 0x16 0 0x0005, 0)])) ∧
  (∀ s n a size, HostAsks s → n < 32 → a < 65536 → size ∈ [1, 2, 4, 8] → accessFails s n a size = false →
    Answers (.syncedAliasRead n a size) s (fun t =>
      t.reply = ⟨.held, []⟩
        ∧ queueOf t n = queueOf s n ++ (List.range size).map (fun i => (s.bridge.nextAcc, i))
        ∧ kget s.bridge.nextAcc t.bridge.accs = some
          { kind := 3, port := n, addr := a, size := size, data := [], ticket := 0, got := [], fail := 0, abort := false,
            lost := false, since := s.now }
        ∧ SameRegsBut s t [rBRIDGE_PORT n])) ∧
  (∀ s n a size, HostAsks s → n < 32 → a < 65536 → size ∈ [1, 2, 4, 8] → accessFails s n a size = true →
    Answers (.syncedAliasRead n a size) s (fun t =>
      t.reply = ⟨.abort, []⟩ ∧ t.bridge = s.bridge ∧ SameRegsBut s t [])) ∧
  (∀ s n id (a : BridgeAcc), s.pow.hubOn = true → n < 32 →
      findAcc s (fun a => a.kind == 3 && a.port == n && !a.lost && a.got.length == a.size) = some (id, a) →
    Answers (.syncedReadDone n) s (fun t =>
      t.reply = (if a.abort = true ∨ a.fail ≠ 0 then ⟨.abort, []⟩ else ⟨.success, a.got⟩)
        ∧ t.fv (fBRIDGE_PORT_SYNC_ERR n) = 0 ∧ t.bridge.accs = kdel id s.bridge.accs
        ∧ SameRegsBut s t [rBRIDGE_PORT n])) ∧
  (∀ s n id (a : BridgeAcc), s.pow.hubOn = true → n < 32 →
      findAcc s (fun a => a.kind == 3 && a.port == n && !a.lost && decide (a.got.length < a.size)) = some (id, a) →
      a.since + s.fv fBRIDGE_CFG_HOLD_MS * 1000000 ≤ s.now →
    Answers (.syncedReadHoldExpired n) s (fun t =>
      t.reply = ⟨.abort, []⟩ ∧ kget id t.bridge.accs = some { a with lost := true } ∧ Logged s t 1 n a.addr 0 0 3
        ∧ t.fv fBRIDGE_EVENT_HOLD_EXPIRED = 1 ∧ t.bridge.queue = s.bridge.queue
        ∧ t.fv fBRIDGE_CNT_B_HOLD_EXPIRED = satTo 0xFFFF (s.fv fBRIDGE_CNT_B_HOLD_EXPIRED + 1)
        ∧ t.isl.inbox = s.isl.inbox ++ [(faultCode 0x16 n 0x0004, 0)]))

/-- FABRIC_WINDOW_WRITE, FABRIC_WINDOW_READ, FABRIC_WINDOW_RESPONSE, FABRIC_WINDOW_HOLD_EXPIRED, OUT_WIN_CTRL_WRITE,
BAR4_READ, BAR4_WRITE, BAR2_WRITE, UNSUPPORTED_REQUEST and PCIE_COMPLETION_RECEIVED (R384, R386, R390 to R393, R402 to R404):
a window sends each request to the peer's address, and its failures are answered or logged; an enabled window keeps its
peer; BAR4 reads and writes exactly the bytes of its window; a completion ends the read of its tag. Which AER bit is
which is PRESUMED (log entry 30). -/
def Obligations.WindowsAndCompletions : Prop :=
  (∀ s w x (bytes : List Byte), HostAsks s → w < 16 → x < 0x100000 → bytes ≠ [] → x % 64 + bytes.length ≤ 64 →
      s.fv (fBRIDGE_OUT_WIN_CTRL_EN w) = 1 → winReach s w = true → s.fabric.nextTag < 65536 →
      kget s.fabric.nextTag s.fabric.reqs = none → kget s.fabric.nextTag s.fabric.done = none →
    Answers (.fabricWindowWrite w x bytes) s (fun t =>
      (kget s.fabric.nextTag t.fabric.reqs).map (fun r => r.pkt)
          = some ⟨0, 1, winPeer s w, (fabId s).getD 0, bytes.length, false, s.fabric.nextTag, 8, 0, outTarget s w x, bytes⟩
        ∧ kget s.fabric.nextTag t.bridge.writes = some
            { win := w, addr := outTarget s w x, size := bytes.length, expired := false, since := s.now, data := bytes } ∧ t.reply = s.reply ∧ t.isl = s.isl)) ∧
  (∀ s w x (bytes : List Byte), HostAsks s → w < 16 → x < 0x100000 → bytes ≠ [] → x % 64 + bytes.length ≤ 64 →
      s.fv (fBRIDGE_OUT_WIN_CTRL_EN w) = 1 → winReach s w = false →
    Answers (.fabricWindowWrite w x bytes) s (fun t =>
      Logged s t 2 w (outTarget s w x) (leNat (bytes.take 8)) 3 4 ∧ t.fabric = s.fabric
        ∧ t.fv fBRIDGE_EVENT_POSTED_FAIL = 1 ∧ (faultCode 0x16 w 0x0003, 0) ∈ t.isl.inbox)) ∧
  (∀ s w x (bytes : List Byte), HostAsks s → w < 16 → x < 0x100000 → bytes ≠ [] → x % 64 + bytes.length ≤ 64 →
      s.fv (fBRIDGE_OUT_WIN_CTRL_EN w) = 0 →
    Answers (.fabricWindowWrite w x bytes) s (fun t =>
      Logged s t 2 w (outTarget s w x) (leNat (bytes.take 8)) 2 2 ∧ t.fabric = s.fabric
        ∧ (faultCode 0x16 w 0x0003, 0) ∈ t.isl.inbox)) ∧
  (∀ s w x (bytes : List Byte), HostAsks s → w < 16 → x < 0x100000 → bytes = [] ∨ 64 < x % 64 + bytes.length →
    Answers (.fabricWindowWrite w x bytes) s (fun t =>
      t.reply = ⟨.none, []⟩ ∧ bitAt (cfgN t 0x104) 20 = true ∧ t.fabric = s.fabric ∧ SameRegsBut s t [])) ∧
  (∀ s w x len, HostAsks s → w < 16 → x < 0x100000 → 0 < len → x % 64 + len ≤ 64 →
      s.fv (fBRIDGE_OUT_WIN_CTRL_EN w) = 1 → winReach s w = true → s.fabric.nextTag < 65536 →
      kget s.fabric.nextTag s.fabric.reqs = none → kget s.fabric.nextTag s.fabric.done = none →
    Answers (.fabricWindowRead w x len) s (fun t =>
      (kget s.fabric.nextTag t.fabric.reqs).map (fun r => r.pkt)
          = some ⟨0, 2, winPeer s w, (fabId s).getD 0, len, false, s.fabric.nextTag, 8, 0, outTarget s w x, []⟩
        ∧ kget s.fabric.nextTag t.bridge.wins = some
            { win := w, addr := outTarget s w x, size := len, expired := false, since := s.now } ∧ t.reply = ⟨.held, []⟩)) ∧
  (∀ s w x len, HostAsks s → w < 16 → x < 0x100000 → 0 < len → x % 64 + len ≤ 64 →
      s.fv (fBRIDGE_OUT_WIN_CTRL_EN w) = 1 → winReach s w = false →
    Answers (.fabricWindowRead w x len) s (fun t =>
      t.reply = ⟨.abort, []⟩ ∧ t.fabric = s.fabric ∧ SameRegsBut s t [])) ∧
  (∀ s w x len, HostAsks s → w < 16 → x < 0x100000 → len = 0 ∨ 64 < x % 64 + len ∨ s.fv (fBRIDGE_OUT_WIN_CTRL_EN w) = 0 →
    Answers (.fabricWindowRead w x len) s (fun t =>
      t.reply = ⟨.unsupported, []⟩ ∧ t.fabric = s.fabric ∧ SameRegsBut s t [])) ∧
  (∀ s tag (h : HeldWin) (d : FabDone), s.pow.hubOn = true → kget tag s.bridge.wins = some h → h.expired = false →
      kget tag s.fabric.done = some d → d.status = 0 → d.data.length = h.size →
    Answers (.fabricWindowResponse tag) s (fun t =>
      t.reply = ⟨if d.poison then .poisoned else .success, d.data⟩ ∧ t.bridge.wins = kdel tag s.bridge.wins
        ∧ t.fabric.done = kdel tag s.fabric.done ∧ SameRegsBut s t [])) ∧
  (∀ s tag (h : HeldWin) (d : FabDone), s.pow.hubOn = true → kget tag s.bridge.wins = some h → h.expired = false →
      kget tag s.fabric.done = some d → d.status ≠ 0 →
    Answers (.fabricWindowResponse tag) s (fun t =>
      t.reply = ⟨.abort, []⟩ ∧ t.bridge.wins = kdel tag s.bridge.wins ∧ SameRegsBut s t [])) ∧
  (∀ s tag (h : HeldWin) (d : FabDone), s.pow.hubOn = true → kget tag s.bridge.wins = some h → h.expired = true →
      h.win < 16 → kget tag s.fabric.done = some d →
    Answers (.fabricWindowResponse tag) s (fun t =>
      Logged s t 3 h.win h.addr 0 (if d.status = 0 then 0 else 1) 0 ∧ t.fv fBRIDGE_EVENT_LATE_RESPONSE = 1
        ∧ t.reply = s.reply ∧ t.isl.inbox = s.isl.inbox ++ [(faultCode 0x16 h.win 0x0008, 0)])) ∧
  (∀ s tag (h : HeldWin) (d : FabDone), s.pow.hubOn = true → kget tag s.bridge.wins = none →
      kget tag s.bridge.writes = some h → h.win < 16 → kget tag s.fabric.done = some d →
      d.status ≠ 0 → d.status ≠ 256 →
    Answers (.fabricWindowResponse tag) s (fun t =>
      Logged s t 2 h.win h.addr (leNat (h.data.take 8)) 1 0 ∧ (faultCode 0x16 h.win 0x0003, 0) ∈ t.isl.inbox
        ∧ t.bridge.writes = kdel tag s.bridge.writes)) ∧
  (∀ s tag (h : HeldWin), s.pow.hubOn = true → kget tag s.bridge.wins = some h → h.expired = false → h.win < 16 →
      kget tag s.fabric.done = none → h.since + s.fv fBRIDGE_CFG_HOLD_MS * 1000000 ≤ s.now →
    Answers (.fabricWindowHoldExpired tag) s (fun t =>
      t.reply = ⟨.abort, []⟩ ∧ kget tag t.bridge.wins = some { h with expired := true }
        ∧ Logged s t 3 h.win h.addr 0 0 3 ∧ t.fv fBRIDGE_EVENT_HOLD_EXPIRED = 1 ∧ t.isl.inbox = s.isl.inbox)) ∧
  (∀ s w (v : Word), s.pow.hubOn = true → w < 16 → s.fv (fBRIDGE_OUT_WIN_CTRL_EN w) = 1 → bitsOf v.toNat 1 6 ≠ winPeer s w →
    Answers (.outWinCtrlWrite w v) s (fun t =>
      winPeer t w = winPeer s w ∧ t.fv (fBRIDGE_OUT_WIN_CTRL_EN w) = bitsOf v.toNat 0 1 ∧ t.fv fBRIDGE_EVENT_WIN_IGNORED = 1
        ∧ t.isl.inbox = s.isl.inbox ++ [(faultCode 0x16 w 0x0007, 0)])) ∧
  (∀ s w (v : Word), s.pow.hubOn = true → w < 16 → s.fv (fBRIDGE_OUT_WIN_CTRL_EN w) = 0 ∨ bitsOf v.toNat 1 6 = winPeer s w →
    Answers (.outWinCtrlWrite w v) s (fun t =>
      winPeer t w = bitsOf v.toNat 1 6 ∧ t.fv (fBRIDGE_OUT_WIN_CTRL_EN w) = bitsOf v.toNat 0 1
        ∧ SameRegsBut s t [rBRIDGE_OUT_WIN_CTRL w] ∧ t.isl = s.isl)) ∧
  (∀ s x len a, HostAsks s → s.pair rPCIE_LP5X_WIN_LO rPCIE_LP5X_WIN_HI % 2 ^ bar4Log s = 0 →
      a = s.pair rPCIE_LP5X_WIN_LO rPCIE_LP5X_WIN_HI + x % 2 ^ bar4Log s → lpRange s a len = true →
    Answers (.bar4Read x len) s (fun t =>
      t.reply = ⟨if memBad s a len then .poisoned else .success, memRead s a len⟩ ∧ t.mem = s.mem ∧ SameRegsBut s t [])) ∧
  (∀ s x len a, HostAsks s → s.pair rPCIE_LP5X_WIN_LO rPCIE_LP5X_WIN_HI % 2 ^ bar4Log s ≠ 0 →
      a = s.pair rPCIE_LP5X_WIN_LO rPCIE_LP5X_WIN_HI / 2 ^ bar4Log s * 2 ^ bar4Log s + x % 2 ^ bar4Log s →
      lpRange s a len = true →
    Answers (.bar4Read x len) s (fun t =>
      t.reply = ⟨if memBad s a len then .poisoned else .success, memRead s a len⟩ ∧ t.mem = s.mem
        ∧ t.fv fPCIE_EVENT_CFG_INVALID = 1)) ∧
  (∀ s x (bytes : List Byte) a, HostAsks s → s.pair rPCIE_LP5X_WIN_LO rPCIE_LP5X_WIN_HI % 2 ^ bar4Log s = 0 →
      a = s.pair rPCIE_LP5X_WIN_LO rPCIE_LP5X_WIN_HI + x % 2 ^ bar4Log s → lpRange s a bytes.length = true →
    Answers (.bar4Write x bytes false) s (fun t =>
      (∀ i, i < bytes.length → memByte t (a + i) = bytes.getD i 0) ∧ SameMemBut s t a bytes.length
        ∧ memBad t a bytes.length = false ∧ SameRegsBut s t [])) ∧
  (∀ s x (bytes : List Byte) a, HostAsks s → s.pair rPCIE_LP5X_WIN_LO rPCIE_LP5X_WIN_HI % 2 ^ bar4Log s = 0 →
      a = s.pair rPCIE_LP5X_WIN_LO rPCIE_LP5X_WIN_HI + x % 2 ^ bar4Log s → lpRange s a bytes.length = true → bytes ≠ [] →
    Answers (.bar4Write x bytes true) s (fun t =>
      (∀ i, i < bytes.length → memByte t (a + i) = bytes.getD i 0) ∧ SameMemBut s t a bytes.length
        ∧ memBad t a bytes.length = true ∧ t.fv fPCIE_EVENT_POISON_RX = 1
        ∧ t.fv fPCIE_CNT_A_POISON_RX = satTo 0xFFFF (s.fv fPCIE_CNT_A_POISON_RX + 1)
        ∧ t.isl.inbox = s.isl.inbox ++ [(faultCode 0x04 0 0x0005, 0)])) ∧
  (∀ s x (bytes : List Byte) a, HostAsks s → s.pair rPCIE_LP5X_WIN_LO rPCIE_LP5X_WIN_HI % 2 ^ bar4Log s = 0 →
      a = s.pair rPCIE_LP5X_WIN_LO rPCIE_LP5X_WIN_HI + x % 2 ^ bar4Log s → lpRange s a bytes.length = false →
    Answers (.bar4Write x bytes false) s (fun t => t.mem = s.mem ∧ bitAt (cfgN t 0x104) 20 = true ∧ SameRegsBut s t [])) ∧
  (∀ s, HostAsks s → Answers .bar2Write s (fun t => t.fv fPCIE_EVENT_BAR2_WRITE = 1 ∧ t.mem = s.mem ∧ t.ring = s.ring)) ∧
  (∀ s write, HostAsks s →
    Answers (.unsupportedRequest write) s (fun t =>
      t.reply = ⟨if write then .none else .unsupported, []⟩ ∧ bitAt (cfgN t 0x104) 20 = true
        ∧ bitAt (cfgN t 0x078) 19 = true ∧ SameRegsBut s t [])) ∧
  (∀ s k p, s.pow.hubOn = true → s.on fPCIE_LINK_STATUS_DL_ACTIVE = true → kget k s.pcie.reads = none →
    Answers (.pcieCompletionReceived k p) s (fun t =>
      t.fv fPCIE_EVENT_UNEXPECTED_CPL = 1 ∧ t.fv fPCIE_CNT_A_UNEXPECTED = satTo 0xFFFF (s.fv fPCIE_CNT_A_UNEXPECTED + 1)
        ∧ t.isl.inbox = s.isl.inbox ++ [(faultCode 0x04 0 0x0004, 0)] ∧ t.pcie.reads = s.pcie.reads)) ∧
  (∀ s k (r : HostRead) (bs : List Byte), s.pow.hubOn = true → s.on fPCIE_LINK_STATUS_DL_ACTIVE = true →
      kget k s.pcie.reads = some r → r.failed = false → r.got.length + bs.length < r.size →
    Answers (.pcieCompletionReceived k (.data bs false)) s (fun t =>
      kget k t.pcie.reads = some { r with got := r.got ++ bs } ∧ t.regs = s.regs ∧ t.mem = s.mem)) ∧
  (∀ s k (r : HostRead) c, s.pow.hubOn = true → s.on fPCIE_LINK_STATUS_DL_ACTIVE = true →
      kget k s.pcie.reads = some r → r.owner = .hoist c → r.failed = false → r.got.length < r.size →
    Answers (.pcieCompletionReceived k .unsupported) s (fun t =>
      kget k t.pcie.reads = some { r with failed := true } ∧ t.regs = s.regs ∧ t.mem = s.mem))

/-- L0S_ENTRY, L0S_EXIT, L1_ENTRY, L1_EXIT, CLKREQ_CHANGE, L0P_NARROW, L0P_WIDEN, D3HOT_ENTRY, D0_RETURN,
LTSSM_RECOVERY_ENTRY and BAD_TLP_RECEIVED (R380, R382, R390, R394): the link's power states and widths are entered only as
the mode allows, and L1 only with no host work outstanding; an error of the link is reported by its AER bit. Which AER
bit is which is PRESUMED (log entry 30). -/
def Obligations.LinkPowerAndErrors : Prop :=
  (∀ s, s.pow.hubOn = true → s.on fPCIE_LINK_STATUS_DL_ACTIVE = true → linkPower s = 0 →
      s.on fPCIE_LINK_STATUS_FLIT = false → bitAt (cfgN s 0x080) 0 = true →
    Answers .l0sEntry s (fun t => linkPower t = 1 ∧ SameRegsBut s t [rPCIE_LINK_STATUS])) ∧
  (∀ s, s.pow.hubOn = true → s.on fPCIE_LINK_STATUS_FLIT = true → Answers .l0sEntry s (fun t => t = s)) ∧
  (∀ s, s.pow.hubOn = true → s.on fPCIE_LINK_STATUS_DL_ACTIVE = true → linkPower s = 1 →
    Answers .l0sExit s (fun t => linkPower t = 0 ∧ SameRegsBut s t [rPCIE_LINK_STATUS])) ∧
  (∀ s, s.pow.hubOn = true → s.on fPCIE_LINK_STATUS_DL_ACTIVE = true → linkPower s ≤ 1 → bitAt (cfgN s 0x080) 1 = true →
      hostStream s = false → s.ring.opened = [] → s.ring.waiting = [] → doorbellOpen s = false → s.ring.shadowReads = 0 →
      s.pcie.reads = [] →
    Answers .l1Entry s (fun t => linkPower t = 2 ∧ SameRegsBut s t [rPCIE_LINK_STATUS])) ∧
  (∀ s, s.pow.hubOn = true → hostStream s = true ∨ s.ring.opened ≠ [] ∨ s.ring.waiting ≠ [] ∨ doorbellOpen s = true
        ∨ s.pcie.reads ≠ [] →
    Answers .l1Entry s (fun t => t = s)) ∧
  (∀ s, s.pow.hubOn = true → s.on fPCIE_LINK_STATUS_DL_ACTIVE = true → linkPower s = 2 →
    Answers .l1Exit s (fun t => linkPower t = 0 ∧ SameRegsBut s t [rPCIE_LINK_STATUS])) ∧
  (∀ s, s.pow.hubOn = true → s.on fPCIE_LINK_STATUS_DL_ACTIVE = true → linkPower s = 2 →
      bitAt (cfgN s 0x240) 2 = true ∨ bitAt (cfgN s 0x240) 3 = true →
    Answers (.clkreqChange false) s (fun t =>
      linkPower t = (if bitAt (cfgN s 0x240) 2 then 4 else 3) ∧ t.pcie.clkreq = false
        ∧ SameRegsBut s t [rPCIE_LINK_STATUS])) ∧
  (∀ s, s.pow.hubOn = true → s.on fPCIE_LINK_STATUS_DL_ACTIVE = true → linkPower s = 3 ∨ linkPower s = 4 →
    Answers (.clkreqChange true) s (fun t =>
      linkPower t = 0 ∧ t.pcie.clkreq = true ∧ SameRegsBut s t [rPCIE_LINK_STATUS])) ∧
  (∀ s w, s.pow.hubOn = true → s.on fPCIE_LINK_STATUS_DL_ACTIVE = true → linkPower s = 0 →
      s.on fPCIE_LINK_STATUS_FLIT = true → s.fv fPCIE_LINK_STATUS_RATE = 6 → s.on fPCIE_ASPM_CFG_L0P_EN = true →
      w < s.fv fPCIE_LINK_STATUS_WIDTH → w = 4 ∨ (w ∈ [1, 2] ∧ hostStream s = false) →
    Answers (.l0pNarrow w) s (fun t =>
      linkPower t = 5 ∧ t.fv fPCIE_LINK_STATUS_L0P_WIDTH = w
        ∧ t.fv fPCIE_CNT_C_L0P_CHANGES = satTo 0xFFFF (s.fv fPCIE_CNT_C_L0P_CHANGES + 1)
        ∧ SameRegsBut s t [rPCIE_LINK_STATUS, rPCIE_CNT_C])) ∧
  (∀ s w, s.pow.hubOn = true → s.on fPCIE_LINK_STATUS_FLIT = false ∨ s.on fPCIE_ASPM_CFG_L0P_EN = false
        ∨ (w < 4 ∧ hostStream s = true) →
    Answers (.l0pNarrow w) s (fun t => t = s)) ∧
  (∀ s w, s.pow.hubOn = true → s.on fPCIE_LINK_STATUS_DL_ACTIVE = true → linkPower s = 5 →
      s.fv fPCIE_LINK_STATUS_L0P_WIDTH < w → w ≤ s.fv fPCIE_LINK_STATUS_WIDTH → w < 16 →
    Answers (.l0pWiden w) s (fun t =>
      linkPower t = (if w = s.fv fPCIE_LINK_STATUS_WIDTH then 0 else 5)
        ∧ t.fv fPCIE_LINK_STATUS_L0P_WIDTH = (if w = s.fv fPCIE_LINK_STATUS_WIDTH then 0 else w)
        ∧ t.fv fPCIE_CNT_C_L0P_CHANGES = satTo 0xFFFF (s.fv fPCIE_CNT_C_L0P_CHANGES + 1)
        ∧ SameRegsBut s t [rPCIE_LINK_STATUS, rPCIE_CNT_C])) ∧
  (∀ s, HostAsks s → bitsOf (cfgN s 0x044) 0 2 ≠ 3 →
    Answers .d3hotEntry s (fun t =>
      bitsOf (cfgN t 0x044) 0 2 = 3 ∧ linkPower t = 6 ∧ hostUp t = false ∧ t.mem = s.mem ∧ t.ring = s.ring)) ∧
  (∀ s, HostAsks s → bitsOf (cfgN s 0x044) 0 2 = 3 →
    Answers .d0Return s (fun t => bitsOf (cfgN t 0x044) 0 2 = 0 ∧ linkPower t = 0 ∧ t.mem = s.mem)) ∧
  (∀ s, s.pow.hubOn = true → s.on fPCIE_LINK_STATUS_DL_ACTIVE = true →
    Answers .ltssmRecoveryEntry s (fun t =>
      t.fv fPCIE_CNT_C_RECOVERY = satTo 0xFFFF (s.fv fPCIE_CNT_C_RECOVERY + 1) ∧ SameRegsBut s t [rPCIE_CNT_C])) ∧
  (∀ s e b, s.pow.hubOn = true → s.on fPCIE_LINK_STATUS_DL_ACTIVE = true →
      (e, b) ∈ [(LinkError.receiver, 0), (.badTlp, 6), (.badDllp, 7), (.replayRollover, 8), (.replayTimeout, 12)] →
    Answers (.badTlpReceived e) s (fun t =>
      bitAt (cfgN t 0x110) b = true ∧ bitAt (cfgN t 0x078) 16 = true ∧ SameRegsBut s t [] ∧ t.isl = s.isl)) ∧
  (∀ s, s.pow.hubOn = true → s.on fPCIE_LINK_STATUS_DL_ACTIVE = true →
    Answers (.badTlpReceived .corrected) s (fun t =>
      bitAt (cfgN t 0x110) 14 = true ∧ t.fv fPCIE_EVENT_CORR_INTERNAL = 1
        ∧ t.fv fPCIE_CNT_B_CORR_INTERNAL = satTo 0xFFFF (s.fv fPCIE_CNT_B_CORR_INTERNAL + 1)
        ∧ t.isl.inbox = s.isl.inbox ++ [(faultCode 0x04 0 0x0003, 0)])) ∧
  (∀ s m, s.pow.hubOn = true → s.on fPCIE_LINK_STATUS_DL_ACTIVE = true →
    Answers (.badTlpReceived (.uncorrectable m)) s (fun t =>
      bitAt (cfgN t 0x104) 22 = true ∧ t.fv fPCIE_EVENT_UNCORR_INTERNAL = 1
        ∧ t.isl.inbox = s.isl.inbox ++ [(faultCode 0x04 0 0x0002, 0)])) ∧
  (∀ s e b, s.pow.hubOn = true → s.on fPCIE_LINK_STATUS_DL_ACTIVE = true →
      (e, b) ∈ [(LinkError.malformed, 18), (.flowControl, 13), (.overflow, 17), (.dataLink, 4)] →
    Answers (.badTlpReceived e) s (fun t => bitAt (cfgN t 0x104) b = true ∧ SameRegsBut s t []))

/-- DOE_DISCOVERY, GET_VERSION, GET_CAPABILITIES, NEGOTIATE_ALGORITHMS, GET_DIGESTS, GET_CERTIFICATE, CHALLENGE,
GET_MEASUREMENTS, KEY_EXCHANGE, FINISH, HEARTBEAT, KEY_UPDATE, END_SESSION and UNSUPPORTED_SPDM_REQUEST (R516, R517, R526,
R531): each request is answered with what it asks for, requests on the chain with an error while no identity copy is
valid, and sessions, at most four, are made, finished and ended. The order of the negotiation and the names of the errors
other than UnsupportedRequest and Unspecified are PRESUMED (log entry 31); signatures, keys and session numbers are free
values. -/
def Obligations.Attestation : Prop :=
  (∀ s i v, HostAsks s → (i, v) ∈ [(0, 0x01000001), (1, 0x02010001), (2, 0x00020001)] →
    Answers (.doeDiscovery i) s (fun t => t.reply = ⟨.success, leBytes 4 v⟩ ∧ t.regs = s.regs)) ∧
  (∀ s, HostAsks s →
    Answers .getVersion s (fun t => t.spdm.answer = some (.version 2) ∧ t.spdm.phase = 1 ∧ t.regs = s.regs)) ∧
  (∀ s, HostAsks s → 1 ≤ s.spdm.phase →
    Answers .getCapabilities s (fun t =>
      t.spdm.answer = some (.capabilities ["CERT_CAP", "CHAL_CAP", "MEAS_CAP_SIG", "MEAS_FRESH_CAP", "KEY_EX_CAP",
        "ENCRYPT_CAP", "MAC_CAP", "HBEAT_CAP", "KEY_UPD_CAP"]) ∧ t.spdm.phase = 2 ∧ t.regs = s.regs)) ∧
  (∀ s, HostAsks s → 2 ≤ s.spdm.phase →
    Answers .negotiateAlgorithms s (fun t =>
      t.spdm.answer = some (.algorithms ["ECDSA P-384", "SHA-384", "secp384r1", "AES-256-GCM", "SPDM key schedule"])
        ∧ t.spdm.phase = 3 ∧ t.regs = s.regs)) ∧
  (∀ s, HostAsks s → s.spdm.phase = 0 →
    Answers .getCapabilities s (fun t => t.spdm = { s.spdm with answer := some (.error "UnexpectedRequest") })) ∧
  (∀ s, HostAsks s → 3 ≤ s.spdm.phase → s.fv fIDENT_STATUS_CHAIN_OK = 1 →
    Answers .getDigests s (fun t =>
      t.spdm.answer = some (.digests [0] (Config.digest (chainBytes s 0 (chainLen s)))) ∧ t.regs = s.regs)) ∧
  (∀ s, HostAsks s → 3 ≤ s.spdm.phase → s.fv fIDENT_STATUS_CHAIN_OK = 0 →
    Answers .getDigests s (fun t => t.spdm = { s.spdm with answer := some (.error "Unspecified") })) ∧
  (∀ s off len, HostAsks s → 3 ≤ s.spdm.phase → s.fv fIDENT_STATUS_CHAIN_OK = 1 → off ≤ chainLen s →
    Answers (.getCertificate 0 off len) s (fun t =>
      t.spdm.answer = some (.certificate off (chainBytes s off len) (chainLen s - off - (chainBytes s off len).length))
        ∧ t.regs = s.regs)) ∧
  (∀ s slot off len, HostAsks s → 3 ≤ s.spdm.phase → s.fv fIDENT_STATUS_CHAIN_OK = 1 → slot ≠ 0 →
    Answers (.getCertificate slot off len) s (fun t =>
      t.spdm = { s.spdm with answer := some (.error "InvalidRequest") } ∧ t.regs = s.regs)) ∧
  (∀ s, HostAsks s → 3 ≤ s.spdm.phase → s.fv fIDENT_STATUS_CHAIN_OK = 1 →
    Answers (.challenge 0) s (fun t => (∃ v, t.spdm.answer = some (.challengeAuth 0 v)) ∧ t.regs = s.regs)) ∧
  (∀ s, HostAsks s → 3 ≤ s.spdm.phase → s.fv fIDENT_STATUS_CHAIN_OK = 0 →
    Answers (.challenge 0) s (fun t => t.spdm = { s.spdm with answer := some (.error "Unspecified") })) ∧
  (∀ s, HostAsks s → 3 ≤ s.spdm.phase →
    Answers (.getMeasurements 4 false) s (fun t =>
      t.spdm.answer = some (.measurements [.raw 4 [s.rn rGLB_FW_VERSION, s.rn rGLB_LIB_VERSION, s.fv fGLB_BOOT_STATUS_BANK,
        s.rn rGLB_BOOT_STATUS]] none) ∧ t.regs = s.regs)) ∧
  (∀ s, HostAsks s → 3 ≤ s.spdm.phase →
    Answers (.getMeasurements 5 false) s (fun t =>
      t.spdm.answer = some (.measurements [.raw 5 [s.fv fGLB_REVISION_REV, s.fv fGLB_STRAPS_TILES,
        s.fv fGLB_BOOT_STATUS_TILES_IN_SERVICE, s.rn rIDENT_ROLLBACK]] none) ∧ t.regs = s.regs)) ∧
  (∀ s, HostAsks s → 3 ≤ s.spdm.phase →
    Answers (.getMeasurements 6 true) s (fun t =>
      (∃ v, t.spdm.answer = some (.measurements [.digest 6 (Config.digest (block6 s))] (some v))) ∧ t.regs = s.regs)) ∧
  (∀ s i, HostAsks s → 3 ≤ s.spdm.phase → i ∈ [1, 2, 3] →
    Answers (.getMeasurements i false) s (fun t =>
      t.spdm.answer = some (.measurements [.digest i (s.ident.digests.getD (i - 1) 0)] none) ∧ t.regs = s.regs)) ∧
  (∀ s, HostAsks s → 3 ≤ s.spdm.phase → s.fv fIDENT_STATUS_CHAIN_OK = 1 → s.spdm.sessions.length < 4 →
    Answers .keyExchange s (fun t => ∃ k, sessionOf s k = none ∧ t.spdm.answer = some (.keyExchange k)
      ∧ t.spdm.sessions = s.spdm.sessions ++ [⟨k, false⟩] ∧ SameRegsBut s t [rIDENT_SPDM_STATUS])) ∧
  (∀ s, HostAsks s → 3 ≤ s.spdm.phase → s.fv fIDENT_STATUS_CHAIN_OK = 1 → 4 ≤ s.spdm.sessions.length →
    Answers .keyExchange s (fun t =>
      t.spdm.sessions = s.spdm.sessions ∧ t.spdm.answer = some (.error "SessionLimitExceeded") ∧ t.regs = s.regs)) ∧
  (∀ s k x, HostAsks s → 3 ≤ s.spdm.phase → sessionOf s k = some x → x.finished = false → s.spdm.sessions.length ≤ 4 →
    Answers (.finish k true) s (fun t =>
      t.spdm.answer = some (.finished k)
        ∧ t.spdm.sessions = s.spdm.sessions.map (fun y => if y.id = k then ⟨y.id, true⟩ else y)
        ∧ t.fv fIDENT_SPDM_STATUS_SESSIONS = (t.spdm.sessions.filter (fun y => y.finished)).length
        ∧ SameRegsBut s t [rIDENT_SPDM_STATUS])) ∧
  (∀ s k x, HostAsks s → 3 ≤ s.spdm.phase → sessionOf s k = some x → x.finished = false →
    Answers (.finish k false) s (fun t =>
      t.spdm = { s.spdm with answer := some (.error "DecryptError") } ∧ t.regs = s.regs)) ∧
  (∀ s k x, HostAsks s → sessionOf s k = some x → x.finished = true →
    Answers (.heartbeat k) s (fun t => t.spdm = { s.spdm with answer := some (.heartbeat k) } ∧ t.regs = s.regs)) ∧
  (∀ s k, HostAsks s → sessionOf s k = none →
    Answers (.heartbeat k) s (fun t => t.spdm = { s.spdm with answer := some (.error "InvalidSession") })) ∧
  (∀ s k x, HostAsks s → sessionOf s k = some x → x.finished = true →
    Answers (.keyUpdate k) s (fun t => t.spdm = { s.spdm with answer := some (.keyUpdated k) } ∧ t.regs = s.regs)) ∧
  (∀ s k x, HostAsks s → sessionOf s k = some x → x.finished = true → s.spdm.sessions.length ≤ 4 →
    Answers (.endSession k) s (fun t =>
      t.spdm.answer = some (.ended k) ∧ sessionOf t k = none
        ∧ t.spdm.sessions = s.spdm.sessions.filter (fun y => y.id != k)
        ∧ t.fv fIDENT_SPDM_STATUS_SESSIONS = (t.spdm.sessions.filter (fun y => y.finished)).length
        ∧ t.ident = s.ident ∧ SameRegsBut s t [rIDENT_SPDM_STATUS])) ∧
  (∀ s, HostAsks s →
    Answers .unsupportedSpdmRequest s (fun t =>
      t.spdm = { s.spdm with answer := some (.error "UnsupportedRequest") } ∧ t.regs = s.regs))

/-- GMAC_BIND, GMAC_ENABLE, ATTIC_UPDATE_START, ATTIC_IMAGE_CHECKED, ATTIC_SECTOR_ERASED, ATTIC_PAGE_PROGRAMMED,
ATTIC_READBACK_DONE and READ_ADDR (R518, R520, R525, R527, R528, R532): a bind to a finished session makes a key, EN 0
discards the keys; an update checks, erases, programs the body, reads it back and writes the header last, with the next SEQ;
the bytes read are those of the Attic. -/
def Obligations.KeysAndBanks : Prop :=
  (∀ s x (v : Word), s.pow.hubOn = true → bitAt v.toNat 0 = true → bitAt v.toNat 1 = true →
      sessionOf s (s.rn rIDENT_GMAC_SESSION) = some x → x.finished = true → s.dial < 2 ^ 64 →
    Answers (.gmacBind v) s (fun t =>
      t.ident.cur.isSome = true ∧ t.ident.prev = s.ident.cur ∧ t.fv fIDENT_GMAC_STATUS_ACTIVE = 1
        ∧ t.fv fIDENT_GMAC_STATUS_PREV_VALID = b2n s.ident.cur.isSome
        ∧ t.fv fIDENT_GMAC_STATUS_EPOCH = (s.fv fIDENT_GMAC_STATUS_EPOCH + 1) % 2 ^ 16
        ∧ t.pair rIDENT_GMAC_FROM_LO rIDENT_GMAC_FROM_HI = s.dial ∧ t.fv fIDENT_GMAC_CTRL_EN = 1
        ∧ SameRegsBut s t [rIDENT_GMAC_CTRL, rIDENT_GMAC_STATUS, rIDENT_GMAC_FROM_LO, rIDENT_GMAC_FROM_HI])) ∧
  (∀ s (v : Word), s.pow.hubOn = true → bitAt v.toNat 0 = true → bitAt v.toNat 1 = true →
      (∀ x, sessionOf s (s.rn rIDENT_GMAC_SESSION) = some x → x.finished = false) →
    Answers (.gmacBind v) s (fun t =>
      t.ident = s.ident ∧ t.fv fATTIC_EVENT_GMAC_REFUSED = 1
        ∧ t.rn rIDENT_GMAC_STATUS = s.rn rIDENT_GMAC_STATUS)) ∧
  (∀ s (v : Word), s.pow.hubOn = true → bitAt v.toNat 0 = true → bitAt v.toNat 1 = false →
    Answers (.gmacEnable v) s (fun t =>
      t.fv fIDENT_GMAC_CTRL_EN = 1 ∧ t.ident = s.ident ∧ SameRegsBut s t [rIDENT_GMAC_CTRL])) ∧
  (∀ s (v : Word) k, s.pow.hubOn = true → bitAt v.toNat 0 = false → bitAt v.toNat 1 = false → s.ident.cur = some k →
    Answers (.gmacEnable v) s (fun t =>
      t.fv fIDENT_GMAC_CTRL_EN = 0 ∧ t.ident.cur = none ∧ t.ident.prev = none ∧ t.fv fIDENT_GMAC_STATUS_ACTIVE = 0
        ∧ t.isl.inbox = s.isl.inbox ++ [(faultCode 0x08 0 0x0008, 0)])) ∧
  (∀ s (v : Word) part body, s.pow.hubOn = true → bitAt v.toNat 16 = true → part = bitsOf v.toNat 17 1 →
      bitsOf v.toNat 0 16 = 0xA771 → s.fv fATTIC_UPD_STATUS_STATE ≠ 1 →
      lpRange s (updSrc s) (s.fv fATTIC_UPD_LEN_BYTES) = true → body = leNat (memRead s (updSrc s + 0x0C) 4) →
      body ≤ bankSize part → s.fv fATTIC_UPD_LEN_BYTES = round256 (64 + body) → s.fv fATTIC_STATUS_CONFIG_EMPTY = 0 →
    Answers (.atticUpdateStart v) s (fun t =>
      t.fv fATTIC_UPD_STATUS_STATE = 1 ∧ t.fv fATTIC_UPD_STATUS_RESULT = 0 ∧ t.fv fATTIC_UPD_STATUS_PAGES = 0
        ∧ t.fv fATTIC_UPD_STATUS_BANK
          = (if part = 1 then 1 - s.fv fGLB_BOOT_STATUS_BANK else 1 - s.fv fATTIC_STATUS_CFG_BANK)
        ∧ t.attic.upd.map (fun u => (u.part, u.src, u.length, u.step)) = some (part, updSrc s, body, 0)
        ∧ t.attic.bytes = s.attic.bytes ∧ SameRegsBut s t [rATTIC_UPD_STATUS])) ∧
  (∀ s (v : Word), s.pow.hubOn = true → bitAt v.toNat 16 = true → s.fv fATTIC_UPD_STATUS_STATE ≠ 1 →
      bitsOf v.toNat 0 16 ≠ 0xA771 ∨ lpRange s (updSrc s) (s.fv fATTIC_UPD_LEN_BYTES) = false
        ∨ bankSize (bitsOf v.toNat 17 1) < leNat (memRead s (updSrc s + 0x0C) 4)
        ∨ s.fv fATTIC_UPD_LEN_BYTES ≠ round256 (64 + leNat (memRead s (updSrc s + 0x0C) 4)) →
    Answers (.atticUpdateStart v) s (fun t =>
      t.fv fATTIC_UPD_STATUS_RESULT = 1 ∧ t.attic.upd = none ∧ t.attic.bytes = s.attic.bytes
        ∧ t.attic.erased = s.attic.erased ∧ t.fv fATTIC_EVENT_UPD_DONE = 1
        ∧ t.isl.inbox = s.isl.inbox ++ [(faultCode 0x08 0 0x0004, 0)])) ∧
  (∀ s (v : Word), s.pow.hubOn = true → bitAt v.toNat 16 = true → s.fv fATTIC_UPD_STATUS_STATE = 1 →
    Answers (.atticUpdateStart v) s (fun t =>
      t.fv fATTIC_UPD_STATUS_RESULT = 1 ∧ t.attic = s.attic ∧ t.fv fATTIC_UPD_STATUS_STATE = 1
        ∧ t.isl.inbox = s.isl.inbox ++ [(faultCode 0x08 0 0x0004, 0)] ∧ SameRegsBut s t [rATTIC_UPD_STATUS])) ∧
  (∀ s u sigOk, s.pow.hubOn = true → s.attic.upd = some u → u.step = 0 → imageOk s u sigOk = true →
    Answers (.atticImageChecked sigOk) s (fun t =>
      t.attic.upd = some { u with step := 1, header := memRead s u.src 64, crc := leAt (memRead s u.src 64) 0x1C 4 }
        ∧ t.regs = s.regs ∧ t.attic.bytes = s.attic.bytes)) ∧
  (∀ s u sigOk, s.pow.hubOn = true → s.attic.upd = some u → u.step = 0 → imageOk s u sigOk = false →
    Answers (.atticImageChecked sigOk) s (fun t =>
      t.attic.upd = none ∧ t.fv fATTIC_UPD_STATUS_RESULT = 1 ∧ t.attic.bytes = s.attic.bytes
        ∧ t.attic.erased = s.attic.erased ∧ t.fv fATTIC_EVENT_UPD_DONE = 1
        ∧ t.isl.inbox = s.isl.inbox ++ [(faultCode 0x08 0 0x0004, 0)])) ∧
  (∀ s u k, s.pow.hubOn = true → s.attic.upd = some u → u.step = 1 → u.part ≤ 1 → u.bank ≤ 1 →
      u.next < ceilDiv (64 + u.length) 65536 → u.length ≤ bankSize u.part - 64 →
      k = bankBase u.part u.bank / 65536 + u.next →
    Answers .atticSectorErased s (fun t =>
      (∀ i, i < 65536 → atticByte t (k * 65536 + i) = 0xFF)
        ∧ (u.next = 0 → bankValid t u.part u.bank = false)
        ∧ t.attic.upd = some (if u.next + 1 < ceilDiv (64 + u.length) 65536 then { u with next := u.next + 1 }
            else { u with step := 2, next := 0 }))) ∧
  (∀ s u lo hi, s.pow.hubOn = true → s.attic.upd = some u → u.step = 2 → lo = max 64 (256 * u.next) →
      hi = min (64 + u.length) (256 * (u.next + 1)) →
    Answers .atticPageProgrammed s (fun t =>
      t.attic.bytes = atticPut (bankBase u.part u.bank + lo) (memRead s (u.src + lo) (hi - lo)) s.attic.bytes
        ∧ t.fv fATTIC_UPD_STATUS_PAGES
          = satTo (2 ^ fATTIC_UPD_STATUS_PAGES.width - 1) (s.fv fATTIC_UPD_STATUS_PAGES + 1)
        ∧ t.attic.upd = some (if u.next + 1 < ceilDiv (64 + u.length) 256 then { u with next := u.next + 1 }
            else { u with step := 3, next := 0 })
        ∧ SameRegsBut s t [rATTIC_UPD_STATUS])) ∧
  (∀ s u, s.pow.hubOn = true → s.attic.upd = some u → u.step = 4 → u.part ≤ 1 → u.bank ≤ 1 →
    Answers .atticPageProgrammed s (fun t =>
      t.attic.bytes = atticPut (bankBase u.part u.bank) (newHeader s u) s.attic.bytes ∧ t.attic.upd = none
        ∧ bankValid t u.part u.bank = true ∧ bankSeq t u.part u.bank = updSeq s u.part
        ∧ t.fv fATTIC_UPD_STATUS_RESULT = 0 ∧ t.fv fATTIC_UPD_STATUS_STATE = 2 ∧ t.fv fATTIC_EVENT_UPD_DONE = 1)) ∧
  (∀ s u, s.pow.hubOn = true → s.attic.upd = some u → u.step = 3 →
      (crc32c (atticRead s (bankBase u.part u.bank + 64) u.length)).toNat = u.crc →
    Answers (.atticReadbackDone true) s (fun t => t.attic.upd = some { u with step := 4 } ∧ t.regs = s.regs)) ∧
  (∀ s u held, s.pow.hubOn = true → s.attic.upd = some u → u.step = 3 →
      held = false ∨ (crc32c (atticRead s (bankBase u.part u.bank + 64) u.length)).toNat ≠ u.crc →
    Answers (.atticReadbackDone held) s (fun t =>
      t.attic.upd = none ∧ t.fv fATTIC_UPD_STATUS_RESULT = 2 ∧ t.attic.bytes = s.attic.bytes
        ∧ t.isl.inbox = s.isl.inbox ++ [(faultCode 0x08 0 0x0005, 0)])) ∧
  (∀ s (v : Word), s.pow.hubOn = true →
    Answers (.readAddr v) s (fun t =>
      t.fv fATTIC_READ_ADDR_ADDR = bitsOf v.toNat 8 18 ∧ t.attic = s.attic
        ∧ ∀ i < 64, t.rn (rATTIC_READ_DATA i) = leNat (atticRead s (bitsOf v.toNat 8 18 * 256 + 4 * i) 4)))

/-- REGISTER_WRITE, COUNTER_READ_CLEAR and LOWER_HALF_READ (R6, R8, R101, R389, R393, R551, R553 to R555): a write acts on
each field by its access code, and one outside a field's range is discarded; a counter is cleared by the read that covers
it; the halves of a pair are read at one instant; an access that no block decodes, or of the wrong size, is recorded and
has no other effect. Registers with a meaning of their own have it stated with the command that writes them. -/
def Obligations.RegisterAccess : Prop :=
  (∀ s q off (v : Word) r i j chk c, Reaches s q → off ∈ plainRegs → regAt off = some (r, i, j) →
      r.flds.any (fieldBad v.toNat) = false →
    Answers (.registerWrite q off (leBytes 4 v.toNat) false false chk c) s (fun t => ∀ f ∈ r.flds,
      (f.acc = .rw → bitsOf (t.rn off) f.lsb f.width = bitsOf v.toNat f.lsb f.width)
        ∧ (f.acc = .w1c → ∀ k < 32, k < f.width → bitAt (t.rn off) (f.lsb + k)
            = (bitAt (s.rn off) (f.lsb + k) && !bitAt v.toNat (f.lsb + k)))
        ∧ (f.acc = .ro ∨ f.acc = .rc → bitsOf (t.rn off) f.lsb f.width = bitsOf (s.rn off) f.lsb f.width))) ∧
  (∀ s q (v : Word) chk c, Reaches s q → bitsOf v.toNat 0 6 = 0 ∨ 40 < bitsOf v.toNat 0 6 →
    Answers (.registerWrite q rBRIDGE_CFG (leBytes 4 v.toNat) false false chk c) s (fun t =>
      t.rn rBRIDGE_CFG = s.rn rBRIDGE_CFG ∧ t.fv fBRIDGE_EVENT_CFG_INVALID = 1)) ∧
  (∀ s q (v w : Word) chk c, Reaches s q →
    Answers (.registerWrite q rGLB_ACCESS_ADDR (leBytes 4 v.toNat ++ leBytes 4 w.toNat) false false chk c) s (fun t =>
      t.reg rGLB_SCRATCH = w ∧ SameRegsBut s t [rGLB_SCRATCH])) ∧
  (∀ s q off (v : Word) chk c, Reaches s q → off < 0x2000000 → off % 4 = 0 → regAt off = none → byteServed off = false →
    Answers (.registerWrite q off (leBytes 4 v.toNat) false false chk c) s (fun t =>
      Recorded s t q off 0x0001 ∧ t.fv fGLB_EVENT_UNMAPPED = 1 ∧ t.rn off = s.rn off ∧ t.mem = s.mem)) ∧
  (∀ s q off (bytes : List Byte) chk c, Reaches s q → off < 0x2000000 → bytes ≠ [] → bytes.length ≤ 64 →
      byteRange off bytes.length = false → wordAccess off bytes.length = false →
    Answers (.registerWrite q off bytes false false chk c) s (fun t =>
      Recorded s t q off 0x0002 ∧ t.fv fGLB_EVENT_SIZE_ERR = 1 ∧ t.mem = s.mem)) ∧
  (∀ s off (bytes : List Byte) poison begun chk c, HostAsks s → off < 0x2000000 → 64 < bytes.length →
    Answers (.registerWrite .host off bytes poison begun chk c) s (fun t =>
      t.reply = ⟨.none, []⟩ ∧ bitAt (cfgN t 0x104) 20 = true ∧ SameRegsBut s t [])) ∧
  (∀ s off (bytes : List Byte) begun chk c, HostAsks s → off < 0x2000000 → bytes.length ≤ 64 →
    Answers (.registerWrite .host off bytes true begun chk c) s (fun t =>
      t.fv fPCIE_EVENT_POISON_RX = 1 ∧ t.isl.inbox = s.isl.inbox ++ [(faultCode 0x04 0 0x0005, 0)]
        ∧ t.ring.waiting = s.ring.waiting ∧ t.larder = s.larder)) ∧
  (∀ s q off, Reaches s q → off ∈ [rPCIE_CNT_A, rPCIE_CNT_B, rPCIE_CNT_C, rBRIDGE_CNT_A, rBRIDGE_CNT_B] →
    Answers (.counterReadClear q off 4) s (fun t =>
      t.reply = ⟨.success, leBytes 4 (s.rn off)⟩ ∧ t.rn off = 0 ∧ SameRegsBut s t [off])) ∧
  (∀ s q lo hi, Reaches s q → (lo, hi) ∈ [(rIDENT_SERIAL_LO, rIDENT_SERIAL_HI), (rATTIC_UPD_SRC_LO, rATTIC_UPD_SRC_HI),
        (rIDENT_GMAC_FROM_LO, rIDENT_GMAC_FROM_HI)] → lo % 8 = 0 →
    Answers (.counterReadClear q lo 8) s (fun t =>
      t.reply = ⟨.success, leBytes 4 (s.rn lo) ++ leBytes 4 (s.rn hi)⟩ ∧ SameRegsBut s t [])) ∧
  (∀ s q off, Reaches s q → off < 0x2000000 → off % 4 = 0 → regAt off = none → byteServed off = false →
    Answers (.counterReadClear q off 4) s (fun t =>
      t.reply = ⟨.success, leBytes 4 0⟩ ∧ Recorded s t q off 0x0001 ∧ t.fv fGLB_EVENT_UNMAPPED = 1)) ∧
  (∀ s q off size, Reaches s q → off < 0x2000000 → 0 < size → size ≤ 64 → byteRange off size = false →
      wordAccess off size = false →
    Answers (.counterReadClear q off size) s (fun t =>
      t.reply = ⟨.success, List.replicate size 0⟩ ∧ Recorded s t q off 0x0002 ∧ t.fv fGLB_EVENT_SIZE_ERR = 1)) ∧
  (∀ s off size, HostAsks s → 64 < size →
    Answers (.counterReadClear .host off size) s (fun t => t.reply = ⟨.unsupported, []⟩ ∧ SameRegsBut s t [])) ∧
  (∀ s q, Reaches s q → s.dial < 2 ^ 64 →
    Answers (.lowerHalfRead q rREGU_DIAL_LO) s (fun t =>
      t.reply = ⟨.success, leBytes 4 (s.dial % 2 ^ 32)⟩ ∧ (pathLatch t q).pair = some rREGU_DIAL_LO
        ∧ (pathLatch t q).hi.toNat = s.dial / 2 ^ 32 ∧ SameRegsBut s t [])) ∧
  (∀ s q lo, Reaches s q → (pathLatch s q).pair = some lo → lo ∈ [rREGU_DIAL_LO, rIDENT_SERIAL_LO, rATTIC_UPD_SRC_LO] →
    Answers (.lowerHalfRead q (lo + 4)) s (fun t =>
      t.reply = ⟨.success, leBytes 4 (pathLatch s q).hi.toNat⟩ ∧ SameRegsBut s t []))

/-- MGT_STATUS, MGT_IDENTIFY, MGT_BOOT_STATUS, MGT_BOOT_FAULT, MGT_TILE_WHEELS, MGT_ALERT_STATUS, MGT_MIRROR_READ,
MGT_LAST_ERROR, MGT_COUNTERS, MGT_RESET_CAUSE_READ, MGT_ALERT_MASK_READ, MGT_MIRROR_ADDR_READ and MGT_CONFIG_READ (R133 to
R138): a read sends the command's data with its count and PEC and changes nothing else, but that the mirror address moves on
and the last error and the counters are cleared; a read too long, a write to a command that is only read and a broken
transaction are errors. That bit 3 of STATUS is ALERT_STATUS under its mask is DEDUCED (log entry 27). -/
def Obligations.ManagementReads : Prop :=
  (∀ s len, MgtHears s → len ≤ 2 →
    Answers (.mgtStatus (.read len)) s (fun t =>
      t.reply = ⟨.success, (mgtFrame s 0x00 false (leBytes 1 (mgtStatusByte s))).take len⟩
        ∧ SameRegsBut s t [] ∧ t.mgt = s.mgt)) ∧
  (∀ s len, MgtHears s → len ≤ 20 →
    Answers (.mgtIdentify (.read len)) s (fun t =>
      t.reply = ⟨.success, (mgtFrame s 0x01 true (leBytes 2 (s.fv fGLB_ID_VENDOR) ++ leBytes 2 (s.fv fGLB_ID_DEVICE) ++ leBytes 1 (s.fv fGLB_REVISION_REV)
          ++ leBytes 1 (s.fv fGLB_REVISION_IF_VERSION) ++ leBytes 2 (s.fv fGLB_FW_VERSION_MAJOR)
          ++ leBytes 2 (s.fv fGLB_FW_VERSION_MINOR) ++ leBytes 2 (s.fv fGLB_FW_PATCH_PATCH)
          ++ leBytes 2 (s.fv fGLB_LIB_VERSION_MAJOR) ++ leBytes 2 (s.fv fGLB_LIB_VERSION_MINOR)
          ++ leBytes 2 (s.fv fGLB_LIB_PATCH_PATCH))).take len⟩
        ∧ SameRegsBut s t [] ∧ t.mgt = s.mgt)) ∧
  (∀ s len, MgtHears s → len ≤ 5 →
    Answers (.mgtBootStatus (.read len)) s (fun t =>
      t.reply = ⟨.success, (mgtFrame s 0x02 false (leBytes 4 (s.rn rGLB_BOOT_STATUS))).take len⟩
        ∧ SameRegsBut s t [] ∧ t.mgt = s.mgt)) ∧
  (∀ s len, MgtHears s → len ≤ 5 →
    Answers (.mgtBootFault (.read len)) s (fun t =>
      t.reply = ⟨.success, (mgtFrame s 0x03 false (leBytes 4 (s.rn rGLB_BOOT_FAULT))).take len⟩
        ∧ SameRegsBut s t [] ∧ t.mgt = s.mgt)) ∧
  (∀ s len, MgtHears s → len ≤ 34 →
    Answers (.mgtTileWheels (.read len)) s (fun t =>
      t.reply = ⟨.success, (mgtFrame s 0x05 true ((List.range 8).flatMap (fun n => leBytes 4 (s.rn (rGLB_TILE_WHEELS n))))).take len⟩
        ∧ SameRegsBut s t [] ∧ t.mgt = s.mgt)) ∧
  (∀ s len, MgtHears s → len ≤ 3 →
    Answers (.mgtAlertStatus (.read len)) s (fun t =>
      t.reply = ⟨.success, (mgtFrame s 0x08 false (leBytes 2 (s.rn rMGT_ALERT_STATUS))).take len⟩
        ∧ SameRegsBut s t [] ∧ t.mgt = s.mgt)) ∧
  (∀ s len, MgtHears s → len ≤ 5 →
    Answers (.mgtResetCauseRead len false) s (fun t =>
      t.reply = ⟨.success, (mgtFrame s 0x04 false (leBytes 4 (s.rn rGLB_RESET_CAUSE))).take len⟩
        ∧ SameRegsBut s t [] ∧ t.mgt = s.mgt)) ∧
  (∀ s len, MgtHears s → len ≤ 3 →
    Answers (.mgtAlertMaskRead len false) s (fun t =>
      t.reply = ⟨.success, (mgtFrame s 0x0A false (leBytes 2 (s.rn rMGT_ALERT_MASK))).take len⟩
        ∧ SameRegsBut s t [] ∧ t.mgt = s.mgt)) ∧
  (∀ s len, MgtHears s → len ≤ 5 →
    Answers (.mgtMirrorAddrRead len false) s (fun t =>
      t.reply = ⟨.success, (mgtFrame s 0x10 false (leBytes 4 s.mgt.addr)).take len⟩
        ∧ SameRegsBut s t [] ∧ t.mgt = s.mgt)) ∧
  (∀ s len, MgtHears s → len ≤ 2 →
    Answers (.mgtConfigRead len false) s (fun t =>
      t.reply = ⟨.success, (mgtFrame s 0x30 false (leBytes 1 (s.rn rMGT_CFG))).take len⟩
        ∧ SameRegsBut s t [] ∧ t.mgt = s.mgt)) ∧
  (∀ s len, MgtHears s → len ≤ 2 →
    Answers (.mgtLastError (.read len)) s (fun t =>
      t.reply = ⟨.success, (mgtFrame s 0x20 false (leBytes 1 (s.fv fMGT_LAST_ERROR_CODE))).take len⟩
        ∧ t.fv fMGT_LAST_ERROR_CODE = 0 ∧ SameRegsBut s t [rMGT_LAST_ERROR])) ∧
  (∀ s len, MgtHears s → len ≤ 12 →
    Answers (.mgtCounters (.read len)) s (fun t =>
      t.reply = ⟨.success, (mgtFrame s 0x21 true ((List.range 5).flatMap (fun i => leBytes 2 (s.fv (fMGT_CNT_COUNT i))))).take
          len⟩
        ∧ (∀ i < 5, t.fv (fMGT_CNT_COUNT i) = 0)
        ∧ SameRegsBut s t [rMGT_CNT 0, rMGT_CNT 1, rMGT_CNT 2, rMGT_CNT 3, rMGT_CNT 4])) ∧
  (∀ s len a, MgtHears s → len ≤ 6 → s.mgt.addr = a →
      a ∈ [rGLB_BOOT_STATUS, rGLB_RESET_CAUSE, rGLB_TILE_WHEELS 7, rPWR_DOM 17] →
    Answers (.mgtMirrorRead (.read len)) s (fun t =>
      t.reply = ⟨.success, (mgtFrame s 0x11 true (leBytes 4 (s.rn a))).take len⟩ ∧ t.mgt.addr = a + 4 ∧ SameRegsBut s t [])) ∧
  (∀ s len, MgtHears s → len ≤ 6 → 0x2000000 ≤ s.mgt.addr ∨ s.mgt.addr % 4 ≠ 0 ∨ mirrorGone s s.mgt.addr = true →
    Answers (.mgtMirrorRead (.read len)) s (fun t =>
      t.reply = ⟨.success, (mgtFrame s 0x11 true (leBytes 4 0)).take len⟩ ∧ MgtFailed s t 4)) ∧
  (∀ s len, MgtHears s → 5 < len →
    Answers (.mgtBootStatus (.read len)) s (fun t =>
      t.reply = ⟨.success, mgtFrame s 0x02 false (leBytes 4 (s.rn rGLB_BOOT_STATUS)) ++ List.replicate (len - 5) 0xFF⟩
        ∧ MgtFailed s t 2)) ∧
  (∀ s len, MgtHears s → 2 < len →
    Answers (.mgtLastError (.read len)) s (fun t => MgtFailed s t 2)) ∧
  (∀ s (bytes : List Byte), MgtHears s → bytes ≠ [] →
    Answers (.mgtBootStatus (.write bytes)) s (fun t => t.reply = ⟨.noAck, []⟩ ∧ MgtFailed s t 4)) ∧
  (∀ s, MgtHears s → Answers (.mgtBootStatus .broken) s (fun t => t.reply = ⟨.none, []⟩ ∧ MgtFailed s t 1)) ∧
  (∀ s io, s.pow.powered = true → s.on fMGT_STATUS_ACTIVE = false →
    Answers (.mgtStatus io) s (fun t => t.reply = ⟨.noAck, []⟩ ∧ SameRegsBut s t [] ∧ t.mgt = s.mgt))

/-- MGT_RESET_CAUSE_WRITE, MGT_ALERT_CLEAR, MGT_ALERT_MASK_WRITE, MGT_MIRROR_ADDR_WRITE, MGT_MIRROR_WRITE, MGT_CONFIG_WRITE,
MGT_UNSUPPORTED_COMMAND, MGT_SCL_TIMEOUT and ALERT_RESPONSE_READ (R133, R134, R136 to R139): a write of the right length, with
a right PEC or none where none is required, commits; every other one commits nothing and is an error; an alert is answered
with the address of the target that wins. -/
def Obligations.ManagementWrites : Prop :=
  (∀ s (v : Word) bytes, MgtHears s → mgtBytes s 0x04 false (leBytes 4 v.toNat) bytes →
    Answers (.mgtResetCauseWrite bytes false) s (fun t =>
      t.reply = ⟨.success, []⟩ ∧ SameRegsBut s t [rGLB_RESET_CAUSE]
        ∧ ∀ k < 9, bitAt (t.rn rGLB_RESET_CAUSE) k = (bitAt (s.rn rGLB_RESET_CAUSE) k && !bitAt v.toNat k))) ∧
  (∀ s v bytes, MgtHears s → v < 2 ^ 16 → mgtBytes s 0x09 false (leBytes 2 v) bytes →
    Answers (.mgtAlertClear bytes false) s (fun t =>
      t.reply = ⟨.success, []⟩
        ∧ (∀ k < 6, bitAt (t.rn rMGT_ALERT_STATUS) k = (bitAt (s.rn rMGT_ALERT_STATUS) k && !bitAt v k))
        ∧ (∀ k < 6, bitAt t.mgt.ackedBits k = (bitAt s.mgt.ackedBits k && bitAt (t.rn rMGT_ALERT_STATUS) k)))) ∧
  (∀ s v bytes, MgtHears s → v < 2 ^ 16 → mgtBytes s 0x0A false (leBytes 2 v) bytes →
    Answers (.mgtAlertMaskWrite bytes false) s (fun t =>
      t.reply = ⟨.success, []⟩ ∧ t.fv fMGT_ALERT_MASK_MASK = v % 64 ∧ SameRegsBut s t [rMGT_ALERT_MASK])) ∧
  (∀ s (v : Word) bytes, MgtHears s → mgtBytes s 0x10 false (leBytes 4 v.toNat) bytes →
    Answers (.mgtMirrorAddrWrite bytes false) s (fun t =>
      t.reply = ⟨.success, []⟩ ∧ t.mgt.addr = v.toNat ∧ SameRegsBut s t [])) ∧
  (∀ s (v : Word) bytes, MgtHears s → mgtBytes s 0x12 true (leBytes 4 v.toNat) bytes → s.mgt.addr = rGLB_RESET_CAUSE →
    Answers (.mgtMirrorWrite bytes false) s (fun t =>
      t.reply = ⟨.success, []⟩ ∧ SameRegsBut s t [rGLB_RESET_CAUSE]
        ∧ ∀ k < 9, bitAt (t.rn rGLB_RESET_CAUSE) k = (bitAt (s.rn rGLB_RESET_CAUSE) k && !bitAt v.toNat k))) ∧
  (∀ s (v : Word) bytes, MgtHears s → mgtBytes s 0x12 true (leBytes 4 v.toNat) bytes → s.mgt.addr ≠ rGLB_RESET_CAUSE →
      s.mgt.addr ≠ rGLB_RESET_CTRL →
    Answers (.mgtMirrorWrite bytes false) s (fun t => t.reply = ⟨.success, []⟩ ∧ MgtFailed s t 4)) ∧
  (∀ s (v : Word) bytes, MgtHears s → mgtBytes s 0x12 true (leBytes 4 v.toNat) bytes → s.mgt.addr = rGLB_RESET_CTRL →
    Answers (.mgtMirrorWrite bytes false) s (fun t => t = (devReset s v).answer .success [])) ∧
  (∀ s v bytes, MgtHears s → v < 256 → mgtBytes s 0x30 false (leBytes 1 v) bytes →
    Answers (.mgtConfigWrite bytes false) s (fun t =>
      t.reply = ⟨.success, []⟩ ∧ t.fv fMGT_CFG_PEC_REQUIRED = v % 2 ∧ SameRegsBut s t [rMGT_CFG])) ∧
  (∀ s bytes, MgtHears s → bytes.length < 2 →
    Answers (.mgtAlertMaskWrite bytes false) s (fun t => t.reply = ⟨.none, []⟩ ∧ MgtFailed s t 2)) ∧
  (∀ s bytes, MgtHears s → 3 < bytes.length →
    Answers (.mgtAlertMaskWrite bytes false) s (fun t => t.reply = ⟨.noAck, []⟩ ∧ MgtFailed s t 2)) ∧
  (∀ s bytes, MgtHears s → bytes.length = 2 → s.on fMGT_CFG_PEC_REQUIRED = true →
    Answers (.mgtAlertMaskWrite bytes false) s (fun t => t.reply = ⟨.none, []⟩ ∧ MgtFailed s t 3)) ∧
  (∀ s d pec, MgtHears s → d.length = 2 → pec ≠ crc8 ([mgtAddr s false, 0x0A] ++ d) →
    Answers (.mgtAlertMaskWrite (d ++ [pec]) false) s (fun t => t.reply = ⟨.noAck, []⟩ ∧ MgtFailed s t 3)) ∧
  (∀ s (bytes : List Byte), MgtHears s → bytes ≠ [] → (bytes.headD 0).toNat ≠ 4 →
    Answers (.mgtMirrorWrite bytes false) s (fun t => t.reply = ⟨.noAck, []⟩ ∧ MgtFailed s t 2)) ∧
  (∀ s bytes, MgtHears s →
    Answers (.mgtConfigWrite bytes true) s (fun t => t.reply = ⟨.none, []⟩ ∧ MgtFailed s t 1)) ∧
  (∀ s, MgtHears s → Answers .mgtUnsupportedCommand s (fun t => t.reply = ⟨.noAck, []⟩ ∧ MgtFailed s t 1)) ∧
  (∀ s, MgtHears s → Answers .mgtSclTimeout s (fun t => t.reply = ⟨.none, []⟩ ∧ MgtFailed s t 5)) ∧
  (∀ s, MgtHears s → alertLow s = true →
    Answers (.alertResponseRead true) s (fun t =>
      t.reply = ⟨.success, [BitVec.ofNat 8 (s.fv fMGT_STATUS_ADDR * 2)]⟩ ∧ alertLow t = false ∧ SameRegsBut s t [])) ∧
  (∀ s, MgtHears s → alertLow s = true →
    Answers (.alertResponseRead false) s (fun t => t.reply = ⟨.none, []⟩ ∧ alertLow t = true ∧ SameRegsBut s t [])) ∧
  (∀ s wins, MgtHears s → alertLow s = false →
    Answers (.alertResponseRead wins) s (fun t => t.reply = ⟨.noAck, []⟩ ∧ t.mgt = s.mgt ∧ SameRegsBut s t []))

/-- A step takes the command at the front of the queue and runs it on the state whose queue is the rest (the model's queue of
waiting commands is a DESIGN CHOICE, log entry 1). -/
def Obligations.StepRunsTheFrontCommand : Prop :=
  ∀ s c q, s.pending = c :: q → step s = exec c (s.withPending q)

/-- With no command waiting, one nanosecond passes: nothing else changes but the dial, which advances by one tick at a rate
trim of zero while the hub's clocks run (R99, R102; that an empty queue lets time pass is a DESIGN CHOICE, log entry 1). -/
def Obligations.EmptyQueueIsOneNanosecond : Prop :=
  (∀ s, s.pending = [] →
    ∃ t, step s = .next t ∧ t.now = s.now + 1 ∧ t.pending = [] ∧ t.regs = s.regs ∧ t.act = s.act ∧ t.mem = s.mem
      ∧ t.pow = s.pow ∧ t.isl = s.isl ∧ t.pcie = s.pcie ∧ t.esc = s.esc ∧ t.hoist = s.hoist ∧ t.fabric = s.fabric) ∧
  (∀ s, s.pending = [] → s.pow.hubOn = true → s.fv fREGU_CTRL_SRC = 0 → s.fv fREGU_CTRL_TRIM_EN = 0 → s.regu.frac = 0 →
      s.regu.slewLeft = 0 → s.dial + 1 < 2 ^ 64 →
    ∃ t, step s = .next t ∧ t.dial = s.dial + 1) ∧
  (∀ s, s.pending = [] → s.pow.hubOn = false → ∃ t, step s = .next t ∧ t.dial = s.dial)

/-- The device right after reset: every register reads its reset value, but those that manufacture sets, and the domains
outside AON, which are OFF; no command waits, the hub is not clocked, PORST_N is low, memory and every table list nothing
(R48, R531, R533, R536; a register whose reset value the spec leaves open reads as log entries 3 and 4 say). -/
def Obligations.ResetLeavesResetValues : Prop :=
  (∀ off r i j, regAt off = some (r, i, j) → off ∉ [rIDENT_SERIAL_LO, rIDENT_SERIAL_HI, rIDENT_ROLLBACK] →
      (∀ d, 1 ≤ d → d ≤ 17 → off ≠ rPWR_DOM d) →
    State.reset.rn off = resetOf i r.flds % 2 ^ 32) ∧
  (∀ d, 1 ≤ d → d ≤ 17 → State.reset.fv (fPWR_DOM_STATE d) = 3) ∧
  (State.reset.fv (fPWR_DOM_STATE 0) = 0) ∧
  (State.reset.pending = [] ∧ State.reset.mem = [] ∧ State.reset.pow.hubOn = false ∧ State.reset.pow.porst = false
    ∧ State.reset.pow.phase = .inReset ∧ State.reset.dial = 0 ∧ State.reset.ring = {} ∧ State.reset.started = [])

/-- The state right after reset has the canonical forms: the register maps rise strictly, and LP5X memory lists no address
twice and no byte that an unlisted address reads as. -/
def Obligations.ResetIsCanonical : Prop := Canonical State.reset

/-- Every step keeps the canonical forms, from every state that has them: a command of the device, whatever it is, and the
passing of time. Equal registers and equal memories are therefore equal data. -/
def Obligations.EveryStepKeepsCanonicalForms : Prop :=
  ∀ s t, Canonical s → Steps s t → Canonical t

/-- Every command answers a next state in every state: none faults, and none is refused. -/
def Obligations.EveryCommandAnswers : Prop :=
  ∀ c s, ∃ t, exec c s = .next t

/-- A command neither takes nor adds waiting commands, and takes no time of its own (the model's choice, log entry 1). -/
def Obligations.CommandsKeepTheQueueAndTheClock : Prop :=
  ∀ c s t, exec c s = .next t → t.pending = s.pending ∧ t.now = s.now

/-- Each part of the device changes only through the commands that `reaches` names for it and through a restart: LP5X memory
only by what writes it, the Attic only by an update or a commit of the log, the keys and the SPDM sessions only by their own
requests, the sensor buses, the settings, the lanes, the converters, placement and the started streams likewise. -/
def Obligations.OnlyTheirCommandsReachAPart : Prop :=
  ∀ (p : Part) c s t, exec c s = .next t → restarts c = false → reaches p c = false → Same p s t

/-- A write of any register, by access codes alone (R6): an RW field takes the written value, a W1C bit clears where 1 is
written, a W1S bit sets where 1 is written, an RO, RC or WO field keeps its value, and so does every bit that no field
names. A register for which a command has a meaning of its own has it stated with that command. -/
def Obligations.WritesFollowAccessCodes : Prop :=
  ∀ s off (v : Word) r i j, regAt off = some (r, i, j) → r.flds.any (fieldBad v.toNat) = false →
    (∀ f ∈ r.flds,
      (f.acc = .rw → bitsOf ((plainWrite s off v).rn off) f.lsb f.width = bitsOf v.toNat f.lsb f.width)
        ∧ (f.acc = .w1c → ∀ k, k < f.width → bitAt ((plainWrite s off v).rn off) (f.lsb + k)
            = (bitAt (s.rn off) (f.lsb + k) && !bitAt v.toNat (f.lsb + k)))
        ∧ (f.acc = .w1s → ∀ k, k < f.width → bitAt ((plainWrite s off v).rn off) (f.lsb + k)
            = (bitAt (s.rn off) (f.lsb + k) || bitAt v.toNat (f.lsb + k)))
        ∧ (f.acc = .ro ∨ f.acc = .rc ∨ f.acc = .wo →
            bitsOf ((plainWrite s off v).rn off) f.lsb f.width = bitsOf (s.rn off) f.lsb f.width))
      ∧ ∀ k, k < 32 → (∀ f ∈ r.flds, k < f.lsb ∨ f.lsb + f.width ≤ k) →
          bitAt ((plainWrite s off v).rn off) k = bitAt (s.rn off) k

/-- An access to an offset that no block decodes completes normally (R551), on every path: the read returns zero and the
write is discarded; UNMAPPED, ACCESS_ADDR and the code record it. -/
def Obligations.UnmappedAccesses : Prop :=
  (∀ s q off, Reaches s q → off < 0x2000000 → off % 4 = 0 → regAt off = none →
    Answers (.counterReadClear q off 4) s (fun t =>
      t.reply = ⟨.success, [0, 0, 0, 0]⟩ ∧ t.fv fGLB_EVENT_UNMAPPED = 1 ∧ t.fv fGLB_ACCESS_ADDR_OFFSET = off
        ∧ t.isl.inbox = s.isl.inbox ++ [(0x01000001, 0)])) ∧
  (∀ s q off n, Reaches s q → 1 ≤ n → n ≤ 16 → off + 4 * n ≤ 0x2000000 → off % 4 = 0 → n ≠ 2 ∨ off % 8 = 0 →
      (∀ k < 16, k < n → regAt (off + 4 * k) = none) →
    Answers (.counterReadClear q off (4 * n)) s (fun t =>
      t.reply = ⟨.success, List.replicate (4 * n) 0⟩ ∧ t.fv fGLB_EVENT_UNMAPPED = 1
        ∧ t.fv fGLB_ACCESS_ADDR_OFFSET = off + 4 * (n - 1))) ∧
  (∀ s q off (v : Word) poison begun chk c, Reaches s q → off < 0x2000000 → off % 4 = 0 → regAt off = none →
      poison = false →
    Answers (.registerWrite q off (leBytes 4 v.toNat) poison begun chk c) s (fun t =>
      t.reg off = s.reg off ∧ t.fv fGLB_EVENT_UNMAPPED = 1 ∧ t.fv fGLB_ACCESS_ADDR_OFFSET = off
        ∧ t.isl.inbox = s.isl.inbox ++ [(0x01000001, 0)] ∧ t.mem = s.mem ∧ t.larder = s.larder ∧ t.tally = s.tally))

/-- Every pair of registers that holds one 64-bit value (R101), in every block: an aligned 8-byte read returns both halves of
one instant; a 4-byte read of the lower half latches the upper half of that instant, with the pair, for its requester; a
later 4-byte read of that upper half returns the latched value, and of another one the current value; the latch of another
requester stays as it is. -/
def Obligations.PairsReadAtOneInstant : Prop :=
  (∀ s q lo, Reaches s q → pairLo lo = true → lo < 0x2000000 → lo % 8 = 0 →
    Answers (.counterReadClear q lo 8) s (fun t =>
      t.reply = ⟨.success, leBytes 4 (regVal s lo) ++ leBytes 4 (regVal s (lo + 4))⟩)) ∧
  (∀ s q lo, Reaches s q → pairLo lo = true → lo < 0x2000000 → lo % 4 = 0 →
    Answers (.lowerHalfRead q lo) s (fun t =>
      t.reply = ⟨.success, leBytes 4 (regVal s lo)⟩
        ∧ pathLatch t q = ⟨some lo, BitVec.ofNat 32 (regVal s (lo + 4))⟩
        ∧ ∀ q' ∈ [Requester.host, .mgt, .island], q' ≠ q → pathLatch t q' = pathLatch s q')) ∧
  (∀ s q lo, Reaches s q → pairLo lo = true → lo < 0x2000000 → lo % 4 = 0 →
      (pathLatch s q).pair = some lo →
    Answers (.lowerHalfRead q (lo + 4)) s (fun t =>
      t.reply = ⟨.success, leBytes 4 (pathLatch s q).hi.toNat⟩
        ∧ ∀ q' ∈ [Requester.host, .mgt, .island], pathLatch t q' = pathLatch s q')) ∧
  (∀ s q lo, Reaches s q → pairLo lo = true → lo < 0x2000000 → lo % 4 = 0 → (pathLatch s q).pair ≠ some lo →
    Answers (.lowerHalfRead q (lo + 4)) s (fun t =>
      t.reply = ⟨.success, leBytes 4 (regVal s (lo + 4))⟩
        ∧ ∀ q' ∈ [Requester.host, .mgt, .island], pathLatch t q' = pathLatch s q'))

/-- An Unexpected Completion, for a tag that no read holds or for one whose read has failed or is whole, is discarded whole
and recorded (R391): it is counted, the event is set, code 0x0004 of the PCIE class goes to the log, and neither a read nor
a channel gets anything from it. -/
def Obligations.UnexpectedCompletionsAreDiscarded : Prop :=
  (∀ s k p, s.pow.hubOn = true → s.on fPCIE_LINK_STATUS_DL_ACTIVE = true →
      (∀ r, kget k s.pcie.reads = some r → r.failed = true ∨ r.whole = true) →
    Answers (.pcieCompletionReceived k p) s (fun t =>
      t.fv fPCIE_CNT_A_UNEXPECTED = satTo 0xFFFF (s.fv fPCIE_CNT_A_UNEXPECTED + 1) ∧ t.fv fPCIE_EVENT_UNEXPECTED_CPL = 1
        ∧ t.isl.inbox = s.isl.inbox ++ [(0x04000004, 0)] ∧ t.pcie.reads = s.pcie.reads ∧ t.hoist = s.hoist
        ∧ t.mem = s.mem ∧ t.larder = s.larder ∧ t.fabric = s.fabric))

/-- A write of 1 to CTRL.SET sets dial time to DIAL_SET only while no stream is active and SRC is 0 (R103); otherwise the write
is discarded. The step takes effect with the command. -/
def Obligations.DialSteps : Prop :=
  (∀ s q (v : Word) begun chk c, Reaches s q → bitAt v.toNat 2 = true → streamsActive s = false → s.fv fREGU_CTRL_SRC = 0 →
    Answers (.registerWrite q rREGU_CTRL (leBytes 4 v.toNat) false begun chk c) s (fun t =>
      t.dial = s.pair rREGU_DIAL_SET_LO rREGU_DIAL_SET_HI % 2 ^ 64 ∧ t.fv fREGU_EVENT_STEPPED = 1)) ∧
  (∀ s q (v : Word) begun chk c, Reaches s q → bitAt v.toNat 2 = true →
      streamsActive s = true ∨ s.fv fREGU_CTRL_SRC = 1 →
    Answers (.registerWrite q rREGU_CTRL (leBytes 4 v.toNat) false begun chk c) s (fun t =>
      t.dial = s.dial ∧ t.fv fREGU_EVENT_STEP_REFUSED = 1 ∧ t.rn rREGU_CTRL = s.rn rREGU_CTRL ∧ t.ident = s.ident))

/-- A write of GLB.RESET_CTRL starts a device reset only with DEV_RESET 1 and KEY 0xC10C in the same write; any other write is
ignored; the reset takes effect 1 µs later, and the link goes down with it; the device, as after a brown-out, holds itself in reset
for 1 ms and then releases itself, which starts the boot only while PORST_N is high, and samples no strap; otherwise the next
rise of PORST_N starts it (R50). -/
def Obligations.KeyedDeviceReset : Prop :=
  (∀ s q (v : Word) begun chk c, Reaches s q → s.pow.powered = true → s.pow.phase ≠ .inReset → bitAt v.toNat 16 = true →
      bitsOf v.toNat 0 16 = 0xC10C →
    Answers (.registerWrite q rGLB_RESET_CTRL (leBytes 4 v.toNat) false begun chk c) s (fun t =>
      t.pow.devReset = true ∧ t.pow.resetAt = s.now + 1000 ∧ t.regs = s.regs)) ∧
  (∀ s q (v : Word) begun chk c, Reaches s q → bitAt v.toNat 16 = false ∨ bitsOf v.toNat 0 16 ≠ 0xC10C →
    Answers (.registerWrite q rGLB_RESET_CTRL (leBytes 4 v.toNat) false begun chk c) s (fun t => t = s)) ∧
  (∀ s, s.pow.devReset = true → s.now < s.pow.resetAt → Answers .deviceResetEffect s (fun t => t = s)) ∧
  (∀ s, s.pow.devReset = true → s.pow.resetAt ≤ s.now →
    Answers .deviceResetEffect s (fun t =>
      t.pow.phase = .inReset ∧ t.pow.hubOn = false ∧ t.fv fPCIE_LINK_STATUS_DL_ACTIVE = 0 ∧ t.pcie.cfg = []
        ∧ t.pow.selfRelease = true ∧ t.pow.releaseAt = s.now + 1000000)) ∧
  (∀ s, s.pow.phase ≠ .standby → s.pow.powered = true →
    Answers (.brownout .vddHub) s (fun t =>
      t.pow.phase = .inReset ∧ t.pow.hubOn = false ∧ t.pow.selfRelease = true ∧ t.pow.releaseAt = s.now + 1000000)) ∧
  (∀ s, s.pow.selfRelease = true → s.now < s.pow.releaseAt → Answers .internalRelease s (fun t => t = s)) ∧
  (∀ s, s.pow.powered = true → s.pow.selfRelease = true → s.pow.releaseAt ≤ s.now → s.pow.porst = true →
      s.pow.sampled = true → s.pow.seqError = false → s.pow.phase = .inReset →
    Answers .internalRelease s (fun t =>
      t.pow.selfRelease = false ∧ t.pow.phase = .booting ∧ t.pow.straps = s.pow.straps ∧ t.regs = s.regs)) ∧
  (∀ s, s.pow.powered = true → s.pow.selfRelease = true → s.pow.releaseAt ≤ s.now → s.pow.porst = false →
      s.pow.phase = .inReset →
    Answers .internalRelease s (fun t =>
      t.pow.selfRelease = false ∧ t.pow.phase = .inReset ∧ t.pow.straps = s.pow.straps ∧ t.regs = s.regs)) ∧
  (∀ s a b c, s.pow.powered = true → s.pow.porst = false → s.pow.sawLow = true → s.pow.sampled = true →
      s.pow.seqError = false → s.pow.selfRelease = false → s.pow.phase = .inReset →
    Answers (.porstNRise a b c) s (fun t =>
      t.pow.phase = .booting ∧ t.pow.porst = true ∧ t.pow.straps = s.pow.straps ∧ t.regs = s.regs))

/-- The DATA window of a tally unit (R464): a write of 1 to 64 bytes anywhere in it feeds the bytes of the write in ascending
address order, whatever the offset, and each byte adds 1 to COUNT; reads return 0 and feed nothing. -/
def Obligations.TallyDataWindow : Prop :=
  (∀ s q u x (bytes : List Byte) begun chk c, Reaches s q → u < 16 → bytes ≠ [] → x + bytes.length ≤ 64 →
      (tallySet s u).width ≤ 32 →
    Answers (.registerWrite q (0xA0040 + 0x80 * u + x) bytes false begun chk c) s (fun t =>
      t.rn (rTALLY_STATE u) = bytes.foldl (tallySet s u).feed (s.rn (rTALLY_STATE u)) % 2 ^ (tallySet s u).width
        ∧ t.pair (rTALLY_COUNT_LO u) (rTALLY_COUNT_HI u)
          = (s.pair (rTALLY_COUNT_LO u) (rTALLY_COUNT_HI u) + bytes.length) % 2 ^ 64
        ∧ SameRegsBut s t [rTALLY_STATE u, rTALLY_RESULT u, rTALLY_COUNT_LO u, rTALLY_COUNT_HI u])) ∧
  (∀ s q u x size, Reaches s q → u < 16 → 0 < size → x + size ≤ 64 →
    Answers (.counterReadClear q (0xA0040 + 0x80 * u + x) size) s (fun t =>
      t.reply = ⟨.success, List.replicate size 0⟩ ∧ SameRegsBut s t [])) ∧
  (∀ s u, s.pow.hubOn = true → u < 16 → (tallySet s u).width ≤ 32 →
    Answers (.tallyDataWrite u (leBytes 4 0x34333231)) s (fun t => t.rn (rTALLY_STATE u)
      = [0x31#8, 0x32#8, 0x33#8, 0x34#8].foldl (tallySet s u).feed (s.rn (rTALLY_STATE u)) % 2 ^ (tallySet s u).width))

/-- The requests that the device does not support (R389): I/O requests, Type 1 configuration requests, AtomicOps and memory
reads of BAR2 longer than 64 bytes, which all come as UNSUPPORTED_REQUEST, and memory reads of BAR0 longer than 64 bytes: each
is completed with Unsupported Request. Memory writes of BAR0 longer than 64 bytes are discarded and handled as one. -/
def Obligations.UnsupportedRequests : Prop :=
  (∀ s, HostAsks s → Answers (.unsupportedRequest false) s (fun t =>
    t.reply = ⟨.unsupported, []⟩ ∧ bitAt (cfgN t 0x104) 20 = true ∧ bitAt (cfgN t 0x078) 19 = true ∧ t.regs = s.regs)) ∧
  (∀ s off size, HostAsks s → 64 < size → Answers (.counterReadClear .host off size) s (fun t =>
    t.reply = ⟨.unsupported, []⟩ ∧ bitAt (cfgN t 0x104) 20 = true ∧ bitAt (cfgN t 0x078) 19 = true ∧ t.regs = s.regs)) ∧
  (∀ s off (bytes : List Byte) poison begun chk c, HostAsks s → 64 < bytes.length →
    Answers (.registerWrite .host off bytes poison begun chk c) s (fun t =>
      t.reply = ⟨.none, []⟩ ∧ bitAt (cfgN t 0x104) 20 = true ∧ bitAt (cfgN t 0x078) 19 = true ∧ t.regs = s.regs
        ∧ t.mem = s.mem ∧ t.larder = s.larder ∧ t.tally = s.tally))

/-- The management controller reaches nothing but the registers of GLB and MGT, the interrupt state and, by RESET_CTRL, a
device reset: it can neither steer a pipeline nor reach a sensor bus (R136). -/
def Obligations.ManagementReachesNothingElse : Prop :=
  ∀ c s t, isMgt c = true → exec c s = .next t →
    (∀ o, 0x80000 ≤ o → o < 0x320000 ∨ 0x330000 ≤ o → t.rn o = s.rn o)
      ∧ t.act = s.act ∧ t.mem = s.mem ∧ t.dial = s.dial ∧ t.pcie.cfg = s.pcie.cfg ∧ t.ring = s.ring
      ∧ t.bridge = s.bridge ∧ t.scc = s.scc ∧ t.esc = s.esc ∧ t.started = s.started ∧ t.port = s.port ∧ t.pipe = s.pipe
      ∧ t.canvas = s.canvas ∧ t.place = s.place ∧ t.tile = s.tile ∧ t.larder = s.larder ∧ t.hoist = s.hoist
      ∧ t.lane = s.lane ∧ t.fabric = s.fabric ∧ t.tally = s.tally ∧ t.madc = s.madc ∧ t.ident = s.ident ∧ t.spdm = s.spdm
      ∧ t.attic = s.attic ∧ t.pow.rails = s.pow.rails ∧ t.pow.phase = s.pow.phase

/-- Interrupts (R370 to R372): an event bit that is enabled makes its source pending; a source that becomes pending and is
enabled sends one message with its vector, under MSI-X, and one that is pending already, or is not enabled, sends none. -/
def Obligations.EventsRaiseOneMessage : Prop :=
  (∀ (s : State) src ev en k, src < 512 → (ev, en) ∈ srcRegs src → k < 32 → s.on ⟨en, k, 1⟩ = true →
      s.on (fRING_INT_ROUTE_PENDING src) = false → s.on (fRING_INT_ROUTE_EN src) = true → msixOn s = true →
      bitAt (cfgWord s 0x0B0).toNat 30 = false → s.on (fMSIX_CTRL_MASK (s.fv (fRING_INT_ROUTE_VECTOR src))) = false →
      hostUp s = true →
    (s.ev ⟨ev, k, 1⟩).msgs = s.msgs ++ [s.fv (fRING_INT_ROUTE_VECTOR src)]
      ∧ (s.ev ⟨ev, k, 1⟩).on (fRING_INT_ROUTE_PENDING src) = true ∧ (s.ev ⟨ev, k, 1⟩).on ⟨ev, k, 1⟩ = true) ∧
  (∀ (s : State) src ev en k, src < 512 → (ev, en) ∈ srcRegs src → k < 32 →
      s.on (fRING_INT_ROUTE_PENDING src) = true ∨ s.on (fRING_INT_ROUTE_EN src) = false →
    (s.ev ⟨ev, k, 1⟩).msgs = s.msgs ∧ (s.ev ⟨ev, k, 1⟩).on ⟨ev, k, 1⟩ = true) ∧
  (∀ (s : State) src ev en k, src < 512 → (ev, en) ∈ srcRegs src → k < 32 → s.on ⟨en, k, 1⟩ = true →
      s.on (fRING_INT_ROUTE_PENDING src) = false → s.on (fRING_INT_ROUTE_EN src) = true → msixOn s = true →
      s.on (fMSIX_CTRL_MASK (s.fv (fRING_INT_ROUTE_VECTOR src))) = true →
    (s.ev ⟨ev, k, 1⟩).msgs = s.msgs
      ∧ (s.ev ⟨ev, k, 1⟩).on ⟨rPBA_PENDING (s.fv (fRING_INT_ROUTE_VECTOR src) / 32),
          s.fv (fRING_INT_ROUTE_VECTOR src) % 32, 1⟩ = true)
end

