-- ==== Sys2Proof/Laws/Maps.lean ====
section
/-!
SUPPORT. The sparse maps: an entry after an update, and the order of the keys.
-/

namespace Sys2Proof.Machine

variable {α : Type}

@[simp] theorem kget_kput_same (k : Nat) (v : α) (m : KMap α) : kget k (kput k v m) = some v := by
  induction m with
  | nil => simp [kput, kget]
  | cons x m ih =>
    obtain ⟨j, u⟩ := x
    simp only [kput]
    split
    · simp [kget]
    · split
      · simp [kget]
      · rename_i h1 h2; simp [kget, h2, ih]

theorem kget_kput_other {k j : Nat} (h : j ≠ k) (v : α) (m : KMap α) : kget j (kput k v m) = kget j m := by
  induction m with
  | nil => simp [kput, kget, h]
  | cons x m ih =>
    obtain ⟨i, u⟩ := x
    simp only [kput]
    split
    · simp [kget, h]
    · split
      · rename_i h1 h2; subst h2; simp [kget, h]
      · simp [kget, ih]

@[simp] theorem kget_kdel_same (k : Nat) (m : KMap α) : kget k (kdel k m) = none := by
  induction m with
  | nil => rfl
  | cons x m ih =>
    obtain ⟨j, u⟩ := x
    simp only [kdel]
    split
    · exact ih
    · rename_i h; simp [kget, h, ih]

theorem kget_kdel_other {k j : Nat} (h : j ≠ k) (m : KMap α) : kget j (kdel k m) = kget j m := by
  induction m with
  | nil => rfl
  | cons x m ih =>
    obtain ⟨i, u⟩ := x
    simp only [kdel]
    split
    · rename_i h2; subst h2; simp [kget, h, ih]
    · simp [kget, ih]

@[simp] theorem kgetD_kputD_same [DecidableEq α] (d : α) (k : Nat) (v : α) (m : KMap α) :
    kgetD d k (kputD d k v m) = v := by
  unfold kgetD kputD
  split
  · rename_i h; simp [h]
  · simp

theorem kgetD_kputD_other [DecidableEq α] {k j : Nat} (h : j ≠ k) (d e : α) (v : α) (m : KMap α) :
    kgetD e j (kputD d k v m) = kgetD e j m := by
  unfold kgetD kputD
  split
  · rw [kget_kdel_other h]
  · rw [kget_kput_other h]

theorem kget_kfilter (p : Nat → Bool) (k : Nat) (m : KMap α) :
    kget k (kfilter p m) = if p k then kget k m else none := by
  induction m with
  | nil => simp [kfilter, kget]
  | cons x m ih =>
    obtain ⟨j, u⟩ := x
    simp only [kfilter]
    by_cases hj : p j
    · by_cases hk : k = j
      · subst hk; simp [hj, kget]
      · simp [hj, kget, hk, ih]
    · by_cases hk : k = j
      · subst hk; simp [hj, ih]
      · simp [hj, kget, hk, ih]

/-! ### The order of the keys -/

theorem ksortedFrom_kput {m : KMap α} {b k : Nat} {v : α} (hb : b < k) (h : ksortedFrom b m = true) :
    ksortedFrom b (kput k v m) = true := by
  induction m generalizing b with
  | nil => simp [kput, ksortedFrom, hb]
  | cons x m ih =>
    obtain ⟨j, u⟩ := x
    simp only [ksortedFrom, Bool.and_eq_true, decide_eq_true_eq] at h
    simp only [kput]
    split
    · rename_i hk; simp [ksortedFrom, hb, hk, h.2]
    · split
      · rename_i hk; subst hk; simp [ksortedFrom, hb, h.2]
      · rename_i h1 h2
        simp only [ksortedFrom, Bool.and_eq_true, decide_eq_true_eq]
        exact ⟨h.1, ih (by omega) h.2⟩

theorem ksortedFrom_mono {m : KMap α} {a b : Nat} (hab : a ≤ b) (h : ksortedFrom b m = true) :
    ksortedFrom a m = true := by
  cases m with
  | nil => rfl
  | cons x m =>
    simp only [ksortedFrom, Bool.and_eq_true, decide_eq_true_eq] at h ⊢
    exact ⟨by omega, h.2⟩

theorem ksorted_of_from {m : KMap α} {b : Nat} (h : ksortedFrom b m = true) : ksorted m = true := by
  cases m with
  | nil => rfl
  | cons x m =>
    simp only [ksortedFrom, Bool.and_eq_true] at h
    exact h.2

theorem ksorted_kput {m : KMap α} {k : Nat} {v : α} (h : ksorted m = true) : ksorted (kput k v m) = true := by
  cases m with
  | nil => rfl
  | cons x m =>
    obtain ⟨j, u⟩ := x
    simp only [ksorted] at h
    simp only [kput]
    split
    · rename_i hk; simp [ksorted, ksortedFrom, hk, h]
    · split
      · rename_i hk; subst hk; simpa [ksorted] using h
      · rename_i h1 h2; simp only [ksorted]; exact ksortedFrom_kput (by omega) h

theorem ksortedFrom_kdel {m : KMap α} {b k : Nat} (h : ksortedFrom b m = true) : ksortedFrom b (kdel k m) = true := by
  induction m generalizing b with
  | nil => rfl
  | cons x m ih =>
    obtain ⟨j, u⟩ := x
    simp only [ksortedFrom, Bool.and_eq_true, decide_eq_true_eq] at h
    simp only [kdel]
    split
    · exact ih (ksortedFrom_mono (by omega) h.2)
    · simp only [ksortedFrom, Bool.and_eq_true, decide_eq_true_eq]; exact ⟨h.1, ih h.2⟩

theorem ksorted_kdel {m : KMap α} {k : Nat} (h : ksorted m = true) : ksorted (kdel k m) = true := by
  cases m with
  | nil => rfl
  | cons x m =>
    obtain ⟨j, u⟩ := x
    simp only [ksorted] at h
    simp only [kdel]
    split
    · exact ksorted_of_from (ksortedFrom_kdel h)
    · exact ksortedFrom_kdel h

theorem ksortedFrom_kfilter {m : KMap α} {b : Nat} {p : Nat → Bool} (h : ksortedFrom b m = true) :
    ksortedFrom b (kfilter p m) = true := by
  induction m generalizing b with
  | nil => rfl
  | cons x m ih =>
    obtain ⟨j, u⟩ := x
    simp only [ksortedFrom, Bool.and_eq_true, decide_eq_true_eq] at h
    simp only [kfilter]
    split
    · simp only [ksortedFrom, Bool.and_eq_true, decide_eq_true_eq]; exact ⟨h.1, ih h.2⟩
    · exact ih (ksortedFrom_mono (by omega) h.2)

theorem ksorted_kfilter {m : KMap α} {p : Nat → Bool} (h : ksorted m = true) : ksorted (kfilter p m) = true := by
  cases m with
  | nil => rfl
  | cons x m =>
    obtain ⟨j, u⟩ := x
    simp only [ksorted] at h
    simp only [kfilter]
    split
    · exact ksortedFrom_kfilter h
    · exact ksorted_of_from (ksortedFrom_kfilter h)

theorem ksorted_kputD [DecidableEq α] {m : KMap α} {d v : α} {k : Nat} (h : ksorted m = true) :
    ksorted (kputD d k v m) = true := by
  unfold kputD
  split
  · exact ksorted_kdel h
  · exact ksorted_kput h

/-! ### No entry at its default -/

theorem knoDefault_kput [DecidableEq α] {m : KMap α} {d v : α} {k : Nat} (hv : v ≠ d) (h : knoDefault d m = true) :
    knoDefault d (kput k v m) = true := by
  induction m with
  | nil => simp [kput, knoDefault, hv]
  | cons x m ih =>
    obtain ⟨j, u⟩ := x
    simp only [knoDefault, Bool.and_eq_true, Bool.not_eq_true', decide_eq_false_iff_not] at h
    simp only [kput]
    split
    · simp [knoDefault, hv, h.1, h.2]
    · split
      · simp [knoDefault, hv, h.2]
      · simp [knoDefault, h.1, ih h.2]

theorem knoDefault_kdel [DecidableEq α] {m : KMap α} {d : α} {k : Nat} (h : knoDefault d m = true) :
    knoDefault d (kdel k m) = true := by
  induction m with
  | nil => rfl
  | cons x m ih =>
    obtain ⟨j, u⟩ := x
    simp only [knoDefault, Bool.and_eq_true, Bool.not_eq_true', decide_eq_false_iff_not] at h
    simp only [kdel]
    split
    · exact ih h.2
    · simp [knoDefault, h.1, ih h.2]

theorem knoDefault_kfilter [DecidableEq α] {m : KMap α} {d : α} {p : Nat → Bool} (h : knoDefault d m = true) :
    knoDefault d (kfilter p m) = true := by
  induction m with
  | nil => rfl
  | cons x m ih =>
    obtain ⟨j, u⟩ := x
    simp only [knoDefault, Bool.and_eq_true, Bool.not_eq_true', decide_eq_false_iff_not] at h
    simp only [kfilter]
    split
    · simp [knoDefault, h.1, ih h.2]
    · exact ih h.2

theorem knoDefault_kputD [DecidableEq α] {m : KMap α} {d v : α} {k : Nat} (h : knoDefault d m = true) :
    knoDefault d (kputD d k v m) = true := by
  unfold kputD
  split
  · exact knoDefault_kdel h
  · exact knoDefault_kput (by assumption) h

end Sys2Proof.Machine
end

