-- ==== Sys2Proof/Laws/Memory.lean ====
section
/-!
SUPPORT. LP5X memory: a read after a write, the bytes that a write leaves alone, and the canonical form.
-/

namespace Sys2Proof.Machine

theorem kget_memPut_before {a x : Nat} (bs : List Byte) (m : List Host.Cell) (h : x < a) :
    kget x (memPut a bs m) = kget x m := by
  induction bs generalizing a m with
  | nil => rfl
  | cons b bs ih =>
    rw [memPut, ih _ (by omega)]
    unfold kputD
    split
    · exact kget_kdel_other (by omega) m
    · exact kget_kput_other (by omega) b m

theorem kget_memPut_after {a x : Nat} (bs : List Byte) (m : List Host.Cell) (h : a + bs.length ≤ x) :
    kget x (memPut a bs m) = kget x m := by
  induction bs generalizing a m with
  | nil => rfl
  | cons b bs ih =>
    simp only [List.length_cons] at h
    rw [memPut, ih _ (by omega)]
    unfold kputD
    split
    · exact kget_kdel_other (by omega) m
    · exact kget_kput_other (by omega) b m

theorem kgetD_memPut_at {a i : Nat} (bs : List Byte) (m : List Host.Cell) (h : i < bs.length) :
    kgetD 0 (a + i) (memPut a bs m) = bs[i] := by
  induction bs generalizing a i m with
  | nil => simp at h
  | cons b bs ih =>
    cases i with
    | zero =>
      simp only [memPut, Nat.add_zero, List.getElem_cons_zero]
      unfold kgetD
      rw [kget_memPut_before bs _ (by omega)]
      exact kgetD_kputD_same 0 a b m
    | succ i =>
      simp only [memPut, List.getElem_cons_succ]
      have h' : i < bs.length := by simpa using h
      have := ih (a := a + 1) (m := kputD 0 a b m) h'
      rw [show a + (i + 1) = a + 1 + i by omega]
      exact this

/-- A byte that a write does not reach reads as before. -/
theorem memByte_memWrite_other {s : State} {a x : Nat} {bs : List Byte} {p : Bool} (h : x < a ∨ a + bs.length ≤ x) :
    memByte (memWrite s a bs p) x = memByte s x := by
  unfold memByte memWrite
  rcases h with h | h
  · simp only [kget_memPut_before bs s.mem h]
  · simp only [kget_memPut_after bs s.mem h]

/-- A byte that a write reaches reads as written. -/
theorem memByte_memWrite_at {s : State} {a i : Nat} {bs : List Byte} {p : Bool} (h : i < bs.length) :
    memByte (memWrite s a bs p) (a + i) = bs[i] :=
  kgetD_memPut_at bs s.mem h

theorem memory_wf_memPut {m : List Host.Cell} (bs : List Byte) (a : Nat) (h : Memory.wf m) : Memory.wf (memPut a bs m) := by
  induction bs generalizing a m with
  | nil => exact h
  | cons b bs ih => exact ih (a + 1) ⟨ksorted_kputD h.1, knoDefault_kputD h.2⟩

/-- A write keeps the canonical form. -/
theorem memory_wf_memWrite {s : State} {a : Nat} {bs : List Byte} {p : Bool} (h : Memory.wf s.mem) :
    Memory.wf (memWrite s a bs p).mem :=
  memory_wf_memPut bs a h

/-- A stack that loses its contents keeps it. -/
theorem memory_wf_memClear {s : State} {m : Nat} (h : Memory.wf s.mem) : Memory.wf (memClear s m).mem :=
  ⟨ksorted_kfilter h.1, knoDefault_kfilter h.2⟩

/-- After a clear the bytes of the stack read as zero, and the other bytes as before. -/
theorem memByte_memClear (s : State) (m x : Nat) :
    memByte (memClear s m) x = if x / 2 ^ 33 = m then 0 else memByte s x := by
  unfold memByte memClear
  simp only [kget_kfilter]
  generalize x / 2 ^ 33 = y
  by_cases h : y = m <;> simp [h]

theorem memory_wf_reset : Memory.wf State.reset.mem := ⟨rfl, rfl⟩

end Sys2Proof.Machine
end

