-- ==== Sys2Proof/Laws/Keeps.lean ====
section
/-!
SUPPORT. What every operation of the device keeps: the queue, the clock of the model, the canonical forms of LP5X
    memory
and of the register maps, and each part of the state that it has no business with. A number stands for a set of parts:
bit n for the n-th field of State. The lemmas of one operation cite those of the operations that it calls.
-/

namespace Sys2Proof.Machine

/-- From `a` to `t` the queue and the time are as they were, each canonical form that holds in `a` holds in `t`, and
    every
part outside `W` is as it was. -/
structure Keeps (W : Nat) (a t : State) : Prop where
  pending : t.pending = a.pending
  now : t.now = a.now
  memForm : Memory.wf a.mem → Memory.wf t.mem
  regsForm : ksorted a.regs = true → ksorted t.regs = true
  actForm : ksorted a.act = true → ksorted t.act = true
  taken : W.testBit 2 = false → t.taken = a.taken
  regs : W.testBit 3 = false → t.regs = a.regs
  act : W.testBit 4 = false → t.act = a.act
  written : W.testBit 5 = false → t.written = a.written
  pow : W.testBit 6 = false → t.pow = a.pow
  regu : W.testBit 7 = false → t.regu = a.regu
  isl : W.testBit 8 = false → t.isl = a.isl
  pcie : W.testBit 9 = false → t.pcie = a.pcie
  bridge : W.testBit 10 = false → t.bridge = a.bridge
  ident : W.testBit 11 = false → t.ident = a.ident
  scc : W.testBit 12 = false → t.scc = a.scc
  mgt : W.testBit 13 = false → t.mgt = a.mgt
  esc : W.testBit 14 = false → t.esc = a.esc
  frameNo : W.testBit 15 = false → t.frameNo = a.frameNo
  frameAt : W.testBit 16 = false → t.frameAt = a.frameAt
  started : W.testBit 17 = false → t.started = a.started
  fresh : W.testBit 18 = false → t.fresh = a.fresh
  msgs : W.testBit 19 = false → t.msgs = a.msgs
  reply : W.testBit 20 = false → t.reply = a.reply
  ring : W.testBit 21 = false → t.ring = a.ring
  wire : W.testBit 22 = false → t.wire = a.wire
  place : W.testBit 23 = false → t.place = a.place
  commits : W.testBit 24 = false → t.commits = a.commits
  port : W.testBit 25 = false → t.port = a.port
  pipe : W.testBit 26 = false → t.pipe = a.pipe
  jobs : W.testBit 27 = false → t.jobs = a.jobs
  nextJob : W.testBit 28 = false → t.nextJob = a.nextJob
  tile : W.testBit 29 = false → t.tile = a.tile
  readmit : W.testBit 30 = false → t.readmit = a.readmit
  stops : W.testBit 31 = false → t.stops = a.stops
  twinWait : W.testBit 32 = false → t.twinWait = a.twinWait
  tallies : W.testBit 33 = false → t.tallies = a.tallies
  prod : W.testBit 34 = false → t.prod = a.prod
  canvas : W.testBit 35 = false → t.canvas = a.canvas
  fstore : W.testBit 36 = false → t.fstore = a.fstore
  larder : W.testBit 37 = false → t.larder = a.larder
  hoist : W.testBit 38 = false → t.hoist = a.hoist
  lane : W.testBit 39 = false → t.lane = a.lane
  fabric : W.testBit 40 = false → t.fabric = a.fabric
  mem : W.testBit 41 = false → t.mem = a.mem
  memPoison : W.testBit 42 = false → t.memPoison = a.memPoison
  tally : W.testBit 43 = false → t.tally = a.tally
  madc : W.testBit 44 = false → t.madc = a.madc
  spdm : W.testBit 45 = false → t.spdm = a.spdm
  attic : W.testBit 46 = false → t.attic = a.attic

theorem Keeps.refl (W : Nat) (a : State) : Keeps W a a :=
  ⟨rfl, rfl, id, id, id, fun _ => rfl, fun _ => rfl, fun _ => rfl, fun _ => rfl, fun _ => rfl, fun _ => rfl, fun _ =>
    rfl, fun _ => rfl, fun _ => rfl, fun _ => rfl, fun _ => rfl, fun _ => rfl, fun _ => rfl, fun _ => rfl, fun _ =>
    rfl, fun _ => rfl, fun _ => rfl, fun _ => rfl, fun _ => rfl, fun _ => rfl, fun _ => rfl, fun _ => rfl, fun _ =>
    rfl, fun _ => rfl, fun _ => rfl, fun _ => rfl, fun _ => rfl, fun _ => rfl, fun _ => rfl, fun _ => rfl, fun _ =>
    rfl, fun _ => rfl, fun _ => rfl, fun _ => rfl, fun _ => rfl, fun _ => rfl, fun _ => rfl, fun _ => rfl, fun _ =>
    rfl, fun _ => rfl, fun _ => rfl, fun _ => rfl, fun _ => rfl, fun _ => rfl, fun _ => rfl⟩

theorem part_sub {u v W : Nat} (h : u &&& v = u) (k : v &&& W = v) : u &&& W = u := by
  rw [← h, Nat.and_assoc, k]

theorem part_clash {u W i : Nat} (hw : u &&& W = u) (hu : u.testBit i = true) (k : W.testBit i = false) : False := by
  have h := congrArg (fun x => x.testBit i) hw
  simp [Nat.testBit_and, hu, k] at h

theorem part_out {u W i : Nat} (hw : u &&& W = u) (k : W.testBit i = false) : u.testBit i = false := by
  cases hu : u.testBit i
  · rfl
  · exact (part_clash hw hu k).elim

theorem Keeps.set_taken {W : Nat} {a x : State} {taken : Nat} (h : Keeps W a x) (hw : 0x4 &&& W = 0x4) : Keeps W a
    ⟨x.pending, x.now, taken, x.regs, x.act, x.written, x.pow, x.regu, x.isl, x.pcie, x.bridge, x.ident, x.scc, x.mgt,
    x.esc, x.frameNo, x.frameAt, x.started, x.fresh, x.msgs, x.reply, x.ring, x.wire, x.place, x.commits, x.port,
    x.pipe, x.jobs, x.nextJob, x.tile, x.readmit, x.stops, x.twinWait, x.tallies, x.prod, x.canvas, x.fstore,
    x.larder, x.hoist, x.lane, x.fabric, x.mem, x.memPoison, x.tally, x.madc, x.spdm, x.attic⟩ :=
  ⟨h.pending, h.now, h.memForm, h.regsForm, h.actForm, fun k => (part_clash hw rfl k).elim, h.regs, h.act, h.written,
    h.pow, h.regu, h.isl, h.pcie, h.bridge, h.ident, h.scc, h.mgt, h.esc, h.frameNo, h.frameAt, h.started, h.fresh,
    h.msgs, h.reply, h.ring, h.wire, h.place, h.commits, h.port, h.pipe, h.jobs, h.nextJob, h.tile, h.readmit,
    h.stops, h.twinWait, h.tallies, h.prod, h.canvas, h.fstore, h.larder, h.hoist, h.lane, h.fabric, h.mem,
    h.memPoison, h.tally, h.madc, h.spdm, h.attic⟩

theorem Keeps.set_regs {W : Nat} {a x : State} {regs : KMap Word} (h : Keeps W a x) (hw : 0x8 &&& W = 0x8) (hregs :
    ksorted x.regs = true → ksorted regs = true) : Keeps W a ⟨x.pending, x.now, x.taken, regs, x.act, x.written,
    x.pow, x.regu, x.isl, x.pcie, x.bridge, x.ident, x.scc, x.mgt, x.esc, x.frameNo, x.frameAt, x.started, x.fresh,
    x.msgs, x.reply, x.ring, x.wire, x.place, x.commits, x.port, x.pipe, x.jobs, x.nextJob, x.tile, x.readmit,
    x.stops, x.twinWait, x.tallies, x.prod, x.canvas, x.fstore, x.larder, x.hoist, x.lane, x.fabric, x.mem,
    x.memPoison, x.tally, x.madc, x.spdm, x.attic⟩ :=
  ⟨h.pending, h.now, h.memForm, hregs ∘ h.regsForm, h.actForm, h.taken, fun k => (part_clash hw rfl k).elim, h.act,
    h.written, h.pow, h.regu, h.isl, h.pcie, h.bridge, h.ident, h.scc, h.mgt, h.esc, h.frameNo, h.frameAt, h.started,
    h.fresh, h.msgs, h.reply, h.ring, h.wire, h.place, h.commits, h.port, h.pipe, h.jobs, h.nextJob, h.tile,
    h.readmit, h.stops, h.twinWait, h.tallies, h.prod, h.canvas, h.fstore, h.larder, h.hoist, h.lane, h.fabric, h.mem,
    h.memPoison, h.tally, h.madc, h.spdm, h.attic⟩

theorem Keeps.set_act {W : Nat} {a x : State} {act : KMap Word} (h : Keeps W a x) (hw : 0x10 &&& W = 0x10) (hact :
    ksorted x.act = true → ksorted act = true) : Keeps W a ⟨x.pending, x.now, x.taken, x.regs, act, x.written, x.pow,
    x.regu, x.isl, x.pcie, x.bridge, x.ident, x.scc, x.mgt, x.esc, x.frameNo, x.frameAt, x.started, x.fresh, x.msgs,
    x.reply, x.ring, x.wire, x.place, x.commits, x.port, x.pipe, x.jobs, x.nextJob, x.tile, x.readmit, x.stops,
    x.twinWait, x.tallies, x.prod, x.canvas, x.fstore, x.larder, x.hoist, x.lane, x.fabric, x.mem, x.memPoison,
    x.tally, x.madc, x.spdm, x.attic⟩ :=
  ⟨h.pending, h.now, h.memForm, h.regsForm, hact ∘ h.actForm, h.taken, h.regs, fun k => (part_clash hw rfl k).elim,
    h.written, h.pow, h.regu, h.isl, h.pcie, h.bridge, h.ident, h.scc, h.mgt, h.esc, h.frameNo, h.frameAt, h.started,
    h.fresh, h.msgs, h.reply, h.ring, h.wire, h.place, h.commits, h.port, h.pipe, h.jobs, h.nextJob, h.tile,
    h.readmit, h.stops, h.twinWait, h.tallies, h.prod, h.canvas, h.fstore, h.larder, h.hoist, h.lane, h.fabric, h.mem,
    h.memPoison, h.tally, h.madc, h.spdm, h.attic⟩

theorem Keeps.set_written {W : Nat} {a x : State} {written : List Nat} (h : Keeps W a x) (hw : 0x20 &&& W = 0x20) :
    Keeps W a ⟨x.pending, x.now, x.taken, x.regs, x.act, written, x.pow, x.regu, x.isl, x.pcie, x.bridge, x.ident,
    x.scc, x.mgt, x.esc, x.frameNo, x.frameAt, x.started, x.fresh, x.msgs, x.reply, x.ring, x.wire, x.place,
    x.commits, x.port, x.pipe, x.jobs, x.nextJob, x.tile, x.readmit, x.stops, x.twinWait, x.tallies, x.prod, x.canvas,
    x.fstore, x.larder, x.hoist, x.lane, x.fabric, x.mem, x.memPoison, x.tally, x.madc, x.spdm, x.attic⟩ :=
  ⟨h.pending, h.now, h.memForm, h.regsForm, h.actForm, h.taken, h.regs, h.act, fun k => (part_clash hw rfl k).elim,
    h.pow, h.regu, h.isl, h.pcie, h.bridge, h.ident, h.scc, h.mgt, h.esc, h.frameNo, h.frameAt, h.started, h.fresh,
    h.msgs, h.reply, h.ring, h.wire, h.place, h.commits, h.port, h.pipe, h.jobs, h.nextJob, h.tile, h.readmit,
    h.stops, h.twinWait, h.tallies, h.prod, h.canvas, h.fstore, h.larder, h.hoist, h.lane, h.fabric, h.mem,
    h.memPoison, h.tally, h.madc, h.spdm, h.attic⟩

theorem Keeps.set_pow {W : Nat} {a x : State} {pow : Pow} (h : Keeps W a x) (hw : 0x40 &&& W = 0x40) : Keeps W a
    ⟨x.pending, x.now, x.taken, x.regs, x.act, x.written, pow, x.regu, x.isl, x.pcie, x.bridge, x.ident, x.scc, x.mgt,
    x.esc, x.frameNo, x.frameAt, x.started, x.fresh, x.msgs, x.reply, x.ring, x.wire, x.place, x.commits, x.port,
    x.pipe, x.jobs, x.nextJob, x.tile, x.readmit, x.stops, x.twinWait, x.tallies, x.prod, x.canvas, x.fstore,
    x.larder, x.hoist, x.lane, x.fabric, x.mem, x.memPoison, x.tally, x.madc, x.spdm, x.attic⟩ :=
  ⟨h.pending, h.now, h.memForm, h.regsForm, h.actForm, h.taken, h.regs, h.act, h.written, fun k => (part_clash hw rfl
    k).elim, h.regu, h.isl, h.pcie, h.bridge, h.ident, h.scc, h.mgt, h.esc, h.frameNo, h.frameAt, h.started, h.fresh,
    h.msgs, h.reply, h.ring, h.wire, h.place, h.commits, h.port, h.pipe, h.jobs, h.nextJob, h.tile, h.readmit,
    h.stops, h.twinWait, h.tallies, h.prod, h.canvas, h.fstore, h.larder, h.hoist, h.lane, h.fabric, h.mem,
    h.memPoison, h.tally, h.madc, h.spdm, h.attic⟩

theorem Keeps.set_regu {W : Nat} {a x : State} {regu : Regu} (h : Keeps W a x) (hw : 0x80 &&& W = 0x80) : Keeps W a
    ⟨x.pending, x.now, x.taken, x.regs, x.act, x.written, x.pow, regu, x.isl, x.pcie, x.bridge, x.ident, x.scc, x.mgt,
    x.esc, x.frameNo, x.frameAt, x.started, x.fresh, x.msgs, x.reply, x.ring, x.wire, x.place, x.commits, x.port,
    x.pipe, x.jobs, x.nextJob, x.tile, x.readmit, x.stops, x.twinWait, x.tallies, x.prod, x.canvas, x.fstore,
    x.larder, x.hoist, x.lane, x.fabric, x.mem, x.memPoison, x.tally, x.madc, x.spdm, x.attic⟩ :=
  ⟨h.pending, h.now, h.memForm, h.regsForm, h.actForm, h.taken, h.regs, h.act, h.written, h.pow, fun k => (part_clash
    hw rfl k).elim, h.isl, h.pcie, h.bridge, h.ident, h.scc, h.mgt, h.esc, h.frameNo, h.frameAt, h.started, h.fresh,
    h.msgs, h.reply, h.ring, h.wire, h.place, h.commits, h.port, h.pipe, h.jobs, h.nextJob, h.tile, h.readmit,
    h.stops, h.twinWait, h.tallies, h.prod, h.canvas, h.fstore, h.larder, h.hoist, h.lane, h.fabric, h.mem,
    h.memPoison, h.tally, h.madc, h.spdm, h.attic⟩

theorem Keeps.set_isl {W : Nat} {a x : State} {isl : Isl} (h : Keeps W a x) (hw : 0x100 &&& W = 0x100) : Keeps W a
    ⟨x.pending, x.now, x.taken, x.regs, x.act, x.written, x.pow, x.regu, isl, x.pcie, x.bridge, x.ident, x.scc, x.mgt,
    x.esc, x.frameNo, x.frameAt, x.started, x.fresh, x.msgs, x.reply, x.ring, x.wire, x.place, x.commits, x.port,
    x.pipe, x.jobs, x.nextJob, x.tile, x.readmit, x.stops, x.twinWait, x.tallies, x.prod, x.canvas, x.fstore,
    x.larder, x.hoist, x.lane, x.fabric, x.mem, x.memPoison, x.tally, x.madc, x.spdm, x.attic⟩ :=
  ⟨h.pending, h.now, h.memForm, h.regsForm, h.actForm, h.taken, h.regs, h.act, h.written, h.pow, h.regu, fun k =>
    (part_clash hw rfl k).elim, h.pcie, h.bridge, h.ident, h.scc, h.mgt, h.esc, h.frameNo, h.frameAt, h.started,
    h.fresh, h.msgs, h.reply, h.ring, h.wire, h.place, h.commits, h.port, h.pipe, h.jobs, h.nextJob, h.tile,
    h.readmit, h.stops, h.twinWait, h.tallies, h.prod, h.canvas, h.fstore, h.larder, h.hoist, h.lane, h.fabric, h.mem,
    h.memPoison, h.tally, h.madc, h.spdm, h.attic⟩

theorem Keeps.set_pow_isl {W : Nat} {a x : State} {pow : Pow} {isl : Isl} (h : Keeps W a x) (hw : 0x140 &&& W = 0x140)
    : Keeps W a ⟨x.pending, x.now, x.taken, x.regs, x.act, x.written, pow, x.regu, isl, x.pcie, x.bridge, x.ident,
    x.scc, x.mgt, x.esc, x.frameNo, x.frameAt, x.started, x.fresh, x.msgs, x.reply, x.ring, x.wire, x.place,
    x.commits, x.port, x.pipe, x.jobs, x.nextJob, x.tile, x.readmit, x.stops, x.twinWait, x.tallies, x.prod, x.canvas,
    x.fstore, x.larder, x.hoist, x.lane, x.fabric, x.mem, x.memPoison, x.tally, x.madc, x.spdm, x.attic⟩ :=
  ⟨h.pending, h.now, h.memForm, h.regsForm, h.actForm, h.taken, h.regs, h.act, h.written, fun k => (part_clash hw rfl
    k).elim, h.regu, fun k => (part_clash hw rfl k).elim, h.pcie, h.bridge, h.ident, h.scc, h.mgt, h.esc, h.frameNo,
    h.frameAt, h.started, h.fresh, h.msgs, h.reply, h.ring, h.wire, h.place, h.commits, h.port, h.pipe, h.jobs,
    h.nextJob, h.tile, h.readmit, h.stops, h.twinWait, h.tallies, h.prod, h.canvas, h.fstore, h.larder, h.hoist,
    h.lane, h.fabric, h.mem, h.memPoison, h.tally, h.madc, h.spdm, h.attic⟩

theorem Keeps.set_pcie {W : Nat} {a x : State} {pcie : Pcie} (h : Keeps W a x) (hw : 0x200 &&& W = 0x200) : Keeps W a
    ⟨x.pending, x.now, x.taken, x.regs, x.act, x.written, x.pow, x.regu, x.isl, pcie, x.bridge, x.ident, x.scc, x.mgt,
    x.esc, x.frameNo, x.frameAt, x.started, x.fresh, x.msgs, x.reply, x.ring, x.wire, x.place, x.commits, x.port,
    x.pipe, x.jobs, x.nextJob, x.tile, x.readmit, x.stops, x.twinWait, x.tallies, x.prod, x.canvas, x.fstore,
    x.larder, x.hoist, x.lane, x.fabric, x.mem, x.memPoison, x.tally, x.madc, x.spdm, x.attic⟩ :=
  ⟨h.pending, h.now, h.memForm, h.regsForm, h.actForm, h.taken, h.regs, h.act, h.written, h.pow, h.regu, h.isl, fun k
    => (part_clash hw rfl k).elim, h.bridge, h.ident, h.scc, h.mgt, h.esc, h.frameNo, h.frameAt, h.started, h.fresh,
    h.msgs, h.reply, h.ring, h.wire, h.place, h.commits, h.port, h.pipe, h.jobs, h.nextJob, h.tile, h.readmit,
    h.stops, h.twinWait, h.tallies, h.prod, h.canvas, h.fstore, h.larder, h.hoist, h.lane, h.fabric, h.mem,
    h.memPoison, h.tally, h.madc, h.spdm, h.attic⟩

theorem Keeps.set_pow_pcie {W : Nat} {a x : State} {pow : Pow} {pcie : Pcie} (h : Keeps W a x) (hw : 0x240 &&& W =
    0x240) : Keeps W a ⟨x.pending, x.now, x.taken, x.regs, x.act, x.written, pow, x.regu, x.isl, pcie, x.bridge,
    x.ident, x.scc, x.mgt, x.esc, x.frameNo, x.frameAt, x.started, x.fresh, x.msgs, x.reply, x.ring, x.wire, x.place,
    x.commits, x.port, x.pipe, x.jobs, x.nextJob, x.tile, x.readmit, x.stops, x.twinWait, x.tallies, x.prod, x.canvas,
    x.fstore, x.larder, x.hoist, x.lane, x.fabric, x.mem, x.memPoison, x.tally, x.madc, x.spdm, x.attic⟩ :=
  ⟨h.pending, h.now, h.memForm, h.regsForm, h.actForm, h.taken, h.regs, h.act, h.written, fun k => (part_clash hw rfl
    k).elim, h.regu, h.isl, fun k => (part_clash hw rfl k).elim, h.bridge, h.ident, h.scc, h.mgt, h.esc, h.frameNo,
    h.frameAt, h.started, h.fresh, h.msgs, h.reply, h.ring, h.wire, h.place, h.commits, h.port, h.pipe, h.jobs,
    h.nextJob, h.tile, h.readmit, h.stops, h.twinWait, h.tallies, h.prod, h.canvas, h.fstore, h.larder, h.hoist,
    h.lane, h.fabric, h.mem, h.memPoison, h.tally, h.madc, h.spdm, h.attic⟩

theorem Keeps.set_bridge {W : Nat} {a x : State} {bridge : Bridge} (h : Keeps W a x) (hw : 0x400 &&& W = 0x400) :
    Keeps W a ⟨x.pending, x.now, x.taken, x.regs, x.act, x.written, x.pow, x.regu, x.isl, x.pcie, bridge, x.ident,
    x.scc, x.mgt, x.esc, x.frameNo, x.frameAt, x.started, x.fresh, x.msgs, x.reply, x.ring, x.wire, x.place,
    x.commits, x.port, x.pipe, x.jobs, x.nextJob, x.tile, x.readmit, x.stops, x.twinWait, x.tallies, x.prod, x.canvas,
    x.fstore, x.larder, x.hoist, x.lane, x.fabric, x.mem, x.memPoison, x.tally, x.madc, x.spdm, x.attic⟩ :=
  ⟨h.pending, h.now, h.memForm, h.regsForm, h.actForm, h.taken, h.regs, h.act, h.written, h.pow, h.regu, h.isl,
    h.pcie, fun k => (part_clash hw rfl k).elim, h.ident, h.scc, h.mgt, h.esc, h.frameNo, h.frameAt, h.started,
    h.fresh, h.msgs, h.reply, h.ring, h.wire, h.place, h.commits, h.port, h.pipe, h.jobs, h.nextJob, h.tile,
    h.readmit, h.stops, h.twinWait, h.tallies, h.prod, h.canvas, h.fstore, h.larder, h.hoist, h.lane, h.fabric, h.mem,
    h.memPoison, h.tally, h.madc, h.spdm, h.attic⟩

theorem Keeps.set_ident {W : Nat} {a x : State} {ident : Ident} (h : Keeps W a x) (hw : 0x800 &&& W = 0x800) : Keeps W
    a ⟨x.pending, x.now, x.taken, x.regs, x.act, x.written, x.pow, x.regu, x.isl, x.pcie, x.bridge, ident, x.scc,
    x.mgt, x.esc, x.frameNo, x.frameAt, x.started, x.fresh, x.msgs, x.reply, x.ring, x.wire, x.place, x.commits,
    x.port, x.pipe, x.jobs, x.nextJob, x.tile, x.readmit, x.stops, x.twinWait, x.tallies, x.prod, x.canvas, x.fstore,
    x.larder, x.hoist, x.lane, x.fabric, x.mem, x.memPoison, x.tally, x.madc, x.spdm, x.attic⟩ :=
  ⟨h.pending, h.now, h.memForm, h.regsForm, h.actForm, h.taken, h.regs, h.act, h.written, h.pow, h.regu, h.isl,
    h.pcie, h.bridge, fun k => (part_clash hw rfl k).elim, h.scc, h.mgt, h.esc, h.frameNo, h.frameAt, h.started,
    h.fresh, h.msgs, h.reply, h.ring, h.wire, h.place, h.commits, h.port, h.pipe, h.jobs, h.nextJob, h.tile,
    h.readmit, h.stops, h.twinWait, h.tallies, h.prod, h.canvas, h.fstore, h.larder, h.hoist, h.lane, h.fabric, h.mem,
    h.memPoison, h.tally, h.madc, h.spdm, h.attic⟩

theorem Keeps.set_scc {W : Nat} {a x : State} {scc : KMap Scc} (h : Keeps W a x) (hw : 0x1000 &&& W = 0x1000) : Keeps
    W a ⟨x.pending, x.now, x.taken, x.regs, x.act, x.written, x.pow, x.regu, x.isl, x.pcie, x.bridge, x.ident, scc,
    x.mgt, x.esc, x.frameNo, x.frameAt, x.started, x.fresh, x.msgs, x.reply, x.ring, x.wire, x.place, x.commits,
    x.port, x.pipe, x.jobs, x.nextJob, x.tile, x.readmit, x.stops, x.twinWait, x.tallies, x.prod, x.canvas, x.fstore,
    x.larder, x.hoist, x.lane, x.fabric, x.mem, x.memPoison, x.tally, x.madc, x.spdm, x.attic⟩ :=
  ⟨h.pending, h.now, h.memForm, h.regsForm, h.actForm, h.taken, h.regs, h.act, h.written, h.pow, h.regu, h.isl,
    h.pcie, h.bridge, h.ident, fun k => (part_clash hw rfl k).elim, h.mgt, h.esc, h.frameNo, h.frameAt, h.started,
    h.fresh, h.msgs, h.reply, h.ring, h.wire, h.place, h.commits, h.port, h.pipe, h.jobs, h.nextJob, h.tile,
    h.readmit, h.stops, h.twinWait, h.tallies, h.prod, h.canvas, h.fstore, h.larder, h.hoist, h.lane, h.fabric, h.mem,
    h.memPoison, h.tally, h.madc, h.spdm, h.attic⟩

theorem Keeps.set_mgt {W : Nat} {a x : State} {mgt : Mgt} (h : Keeps W a x) (hw : 0x2000 &&& W = 0x2000) : Keeps W a
    ⟨x.pending, x.now, x.taken, x.regs, x.act, x.written, x.pow, x.regu, x.isl, x.pcie, x.bridge, x.ident, x.scc, mgt,
    x.esc, x.frameNo, x.frameAt, x.started, x.fresh, x.msgs, x.reply, x.ring, x.wire, x.place, x.commits, x.port,
    x.pipe, x.jobs, x.nextJob, x.tile, x.readmit, x.stops, x.twinWait, x.tallies, x.prod, x.canvas, x.fstore,
    x.larder, x.hoist, x.lane, x.fabric, x.mem, x.memPoison, x.tally, x.madc, x.spdm, x.attic⟩ :=
  ⟨h.pending, h.now, h.memForm, h.regsForm, h.actForm, h.taken, h.regs, h.act, h.written, h.pow, h.regu, h.isl,
    h.pcie, h.bridge, h.ident, h.scc, fun k => (part_clash hw rfl k).elim, h.esc, h.frameNo, h.frameAt, h.started,
    h.fresh, h.msgs, h.reply, h.ring, h.wire, h.place, h.commits, h.port, h.pipe, h.jobs, h.nextJob, h.tile,
    h.readmit, h.stops, h.twinWait, h.tallies, h.prod, h.canvas, h.fstore, h.larder, h.hoist, h.lane, h.fabric, h.mem,
    h.memPoison, h.tally, h.madc, h.spdm, h.attic⟩

theorem Keeps.set_esc {W : Nat} {a x : State} {esc : KMap Esc} (h : Keeps W a x) (hw : 0x4000 &&& W = 0x4000) : Keeps
    W a ⟨x.pending, x.now, x.taken, x.regs, x.act, x.written, x.pow, x.regu, x.isl, x.pcie, x.bridge, x.ident, x.scc,
    x.mgt, esc, x.frameNo, x.frameAt, x.started, x.fresh, x.msgs, x.reply, x.ring, x.wire, x.place, x.commits, x.port,
    x.pipe, x.jobs, x.nextJob, x.tile, x.readmit, x.stops, x.twinWait, x.tallies, x.prod, x.canvas, x.fstore,
    x.larder, x.hoist, x.lane, x.fabric, x.mem, x.memPoison, x.tally, x.madc, x.spdm, x.attic⟩ :=
  ⟨h.pending, h.now, h.memForm, h.regsForm, h.actForm, h.taken, h.regs, h.act, h.written, h.pow, h.regu, h.isl,
    h.pcie, h.bridge, h.ident, h.scc, h.mgt, fun k => (part_clash hw rfl k).elim, h.frameNo, h.frameAt, h.started,
    h.fresh, h.msgs, h.reply, h.ring, h.wire, h.place, h.commits, h.port, h.pipe, h.jobs, h.nextJob, h.tile,
    h.readmit, h.stops, h.twinWait, h.tallies, h.prod, h.canvas, h.fstore, h.larder, h.hoist, h.lane, h.fabric, h.mem,
    h.memPoison, h.tally, h.madc, h.spdm, h.attic⟩

theorem Keeps.set_frameNo {W : Nat} {a x : State} {frameNo : KMap Int} (h : Keeps W a x) (hw : 0x8000 &&& W = 0x8000)
    : Keeps W a ⟨x.pending, x.now, x.taken, x.regs, x.act, x.written, x.pow, x.regu, x.isl, x.pcie, x.bridge, x.ident,
    x.scc, x.mgt, x.esc, frameNo, x.frameAt, x.started, x.fresh, x.msgs, x.reply, x.ring, x.wire, x.place, x.commits,
    x.port, x.pipe, x.jobs, x.nextJob, x.tile, x.readmit, x.stops, x.twinWait, x.tallies, x.prod, x.canvas, x.fstore,
    x.larder, x.hoist, x.lane, x.fabric, x.mem, x.memPoison, x.tally, x.madc, x.spdm, x.attic⟩ :=
  ⟨h.pending, h.now, h.memForm, h.regsForm, h.actForm, h.taken, h.regs, h.act, h.written, h.pow, h.regu, h.isl,
    h.pcie, h.bridge, h.ident, h.scc, h.mgt, h.esc, fun k => (part_clash hw rfl k).elim, h.frameAt, h.started,
    h.fresh, h.msgs, h.reply, h.ring, h.wire, h.place, h.commits, h.port, h.pipe, h.jobs, h.nextJob, h.tile,
    h.readmit, h.stops, h.twinWait, h.tallies, h.prod, h.canvas, h.fstore, h.larder, h.hoist, h.lane, h.fabric, h.mem,
    h.memPoison, h.tally, h.madc, h.spdm, h.attic⟩

theorem Keeps.set_frameNo_frameAt {W : Nat} {a x : State} {frameNo : KMap Int} {frameAt : KMap Nat} (h : Keeps W a x)
    (hw : 0x18000 &&& W = 0x18000) : Keeps W a ⟨x.pending, x.now, x.taken, x.regs, x.act, x.written, x.pow, x.regu,
    x.isl, x.pcie, x.bridge, x.ident, x.scc, x.mgt, x.esc, frameNo, frameAt, x.started, x.fresh, x.msgs, x.reply,
    x.ring, x.wire, x.place, x.commits, x.port, x.pipe, x.jobs, x.nextJob, x.tile, x.readmit, x.stops, x.twinWait,
    x.tallies, x.prod, x.canvas, x.fstore, x.larder, x.hoist, x.lane, x.fabric, x.mem, x.memPoison, x.tally, x.madc,
    x.spdm, x.attic⟩ :=
  ⟨h.pending, h.now, h.memForm, h.regsForm, h.actForm, h.taken, h.regs, h.act, h.written, h.pow, h.regu, h.isl,
    h.pcie, h.bridge, h.ident, h.scc, h.mgt, h.esc, fun k => (part_clash hw rfl k).elim, fun k => (part_clash hw rfl
    k).elim, h.started, h.fresh, h.msgs, h.reply, h.ring, h.wire, h.place, h.commits, h.port, h.pipe, h.jobs,
    h.nextJob, h.tile, h.readmit, h.stops, h.twinWait, h.tallies, h.prod, h.canvas, h.fstore, h.larder, h.hoist,
    h.lane, h.fabric, h.mem, h.memPoison, h.tally, h.madc, h.spdm, h.attic⟩

theorem Keeps.set_started {W : Nat} {a x : State} {started : List Nat} (h : Keeps W a x) (hw : 0x20000 &&& W =
    0x20000) : Keeps W a ⟨x.pending, x.now, x.taken, x.regs, x.act, x.written, x.pow, x.regu, x.isl, x.pcie, x.bridge,
    x.ident, x.scc, x.mgt, x.esc, x.frameNo, x.frameAt, started, x.fresh, x.msgs, x.reply, x.ring, x.wire, x.place,
    x.commits, x.port, x.pipe, x.jobs, x.nextJob, x.tile, x.readmit, x.stops, x.twinWait, x.tallies, x.prod, x.canvas,
    x.fstore, x.larder, x.hoist, x.lane, x.fabric, x.mem, x.memPoison, x.tally, x.madc, x.spdm, x.attic⟩ :=
  ⟨h.pending, h.now, h.memForm, h.regsForm, h.actForm, h.taken, h.regs, h.act, h.written, h.pow, h.regu, h.isl,
    h.pcie, h.bridge, h.ident, h.scc, h.mgt, h.esc, h.frameNo, h.frameAt, fun k => (part_clash hw rfl k).elim,
    h.fresh, h.msgs, h.reply, h.ring, h.wire, h.place, h.commits, h.port, h.pipe, h.jobs, h.nextJob, h.tile,
    h.readmit, h.stops, h.twinWait, h.tallies, h.prod, h.canvas, h.fstore, h.larder, h.hoist, h.lane, h.fabric, h.mem,
    h.memPoison, h.tally, h.madc, h.spdm, h.attic⟩

theorem Keeps.set_frameNo_started {W : Nat} {a x : State} {frameNo : KMap Int} {started : List Nat} (h : Keeps W a x)
    (hw : 0x28000 &&& W = 0x28000) : Keeps W a ⟨x.pending, x.now, x.taken, x.regs, x.act, x.written, x.pow, x.regu,
    x.isl, x.pcie, x.bridge, x.ident, x.scc, x.mgt, x.esc, frameNo, x.frameAt, started, x.fresh, x.msgs, x.reply,
    x.ring, x.wire, x.place, x.commits, x.port, x.pipe, x.jobs, x.nextJob, x.tile, x.readmit, x.stops, x.twinWait,
    x.tallies, x.prod, x.canvas, x.fstore, x.larder, x.hoist, x.lane, x.fabric, x.mem, x.memPoison, x.tally, x.madc,
    x.spdm, x.attic⟩ :=
  ⟨h.pending, h.now, h.memForm, h.regsForm, h.actForm, h.taken, h.regs, h.act, h.written, h.pow, h.regu, h.isl,
    h.pcie, h.bridge, h.ident, h.scc, h.mgt, h.esc, fun k => (part_clash hw rfl k).elim, h.frameAt, fun k =>
    (part_clash hw rfl k).elim, h.fresh, h.msgs, h.reply, h.ring, h.wire, h.place, h.commits, h.port, h.pipe, h.jobs,
    h.nextJob, h.tile, h.readmit, h.stops, h.twinWait, h.tallies, h.prod, h.canvas, h.fstore, h.larder, h.hoist,
    h.lane, h.fabric, h.mem, h.memPoison, h.tally, h.madc, h.spdm, h.attic⟩

theorem Keeps.set_fresh {W : Nat} {a x : State} {fresh : KMap Fresh} (h : Keeps W a x) (hw : 0x40000 &&& W = 0x40000)
    : Keeps W a ⟨x.pending, x.now, x.taken, x.regs, x.act, x.written, x.pow, x.regu, x.isl, x.pcie, x.bridge, x.ident,
    x.scc, x.mgt, x.esc, x.frameNo, x.frameAt, x.started, fresh, x.msgs, x.reply, x.ring, x.wire, x.place, x.commits,
    x.port, x.pipe, x.jobs, x.nextJob, x.tile, x.readmit, x.stops, x.twinWait, x.tallies, x.prod, x.canvas, x.fstore,
    x.larder, x.hoist, x.lane, x.fabric, x.mem, x.memPoison, x.tally, x.madc, x.spdm, x.attic⟩ :=
  ⟨h.pending, h.now, h.memForm, h.regsForm, h.actForm, h.taken, h.regs, h.act, h.written, h.pow, h.regu, h.isl,
    h.pcie, h.bridge, h.ident, h.scc, h.mgt, h.esc, h.frameNo, h.frameAt, h.started, fun k => (part_clash hw rfl
    k).elim, h.msgs, h.reply, h.ring, h.wire, h.place, h.commits, h.port, h.pipe, h.jobs, h.nextJob, h.tile,
    h.readmit, h.stops, h.twinWait, h.tallies, h.prod, h.canvas, h.fstore, h.larder, h.hoist, h.lane, h.fabric, h.mem,
    h.memPoison, h.tally, h.madc, h.spdm, h.attic⟩

theorem Keeps.set_msgs {W : Nat} {a x : State} {msgs : List Nat} (h : Keeps W a x) (hw : 0x80000 &&& W = 0x80000) :
    Keeps W a ⟨x.pending, x.now, x.taken, x.regs, x.act, x.written, x.pow, x.regu, x.isl, x.pcie, x.bridge, x.ident,
    x.scc, x.mgt, x.esc, x.frameNo, x.frameAt, x.started, x.fresh, msgs, x.reply, x.ring, x.wire, x.place, x.commits,
    x.port, x.pipe, x.jobs, x.nextJob, x.tile, x.readmit, x.stops, x.twinWait, x.tallies, x.prod, x.canvas, x.fstore,
    x.larder, x.hoist, x.lane, x.fabric, x.mem, x.memPoison, x.tally, x.madc, x.spdm, x.attic⟩ :=
  ⟨h.pending, h.now, h.memForm, h.regsForm, h.actForm, h.taken, h.regs, h.act, h.written, h.pow, h.regu, h.isl,
    h.pcie, h.bridge, h.ident, h.scc, h.mgt, h.esc, h.frameNo, h.frameAt, h.started, h.fresh, fun k => (part_clash hw
    rfl k).elim, h.reply, h.ring, h.wire, h.place, h.commits, h.port, h.pipe, h.jobs, h.nextJob, h.tile, h.readmit,
    h.stops, h.twinWait, h.tallies, h.prod, h.canvas, h.fstore, h.larder, h.hoist, h.lane, h.fabric, h.mem,
    h.memPoison, h.tally, h.madc, h.spdm, h.attic⟩

theorem Keeps.set_reply {W : Nat} {a x : State} {reply : Reply} (h : Keeps W a x) (hw : 0x100000 &&& W = 0x100000) :
    Keeps W a ⟨x.pending, x.now, x.taken, x.regs, x.act, x.written, x.pow, x.regu, x.isl, x.pcie, x.bridge, x.ident,
    x.scc, x.mgt, x.esc, x.frameNo, x.frameAt, x.started, x.fresh, x.msgs, reply, x.ring, x.wire, x.place, x.commits,
    x.port, x.pipe, x.jobs, x.nextJob, x.tile, x.readmit, x.stops, x.twinWait, x.tallies, x.prod, x.canvas, x.fstore,
    x.larder, x.hoist, x.lane, x.fabric, x.mem, x.memPoison, x.tally, x.madc, x.spdm, x.attic⟩ :=
  ⟨h.pending, h.now, h.memForm, h.regsForm, h.actForm, h.taken, h.regs, h.act, h.written, h.pow, h.regu, h.isl,
    h.pcie, h.bridge, h.ident, h.scc, h.mgt, h.esc, h.frameNo, h.frameAt, h.started, h.fresh, h.msgs, fun k =>
    (part_clash hw rfl k).elim, h.ring, h.wire, h.place, h.commits, h.port, h.pipe, h.jobs, h.nextJob, h.tile,
    h.readmit, h.stops, h.twinWait, h.tallies, h.prod, h.canvas, h.fstore, h.larder, h.hoist, h.lane, h.fabric, h.mem,
    h.memPoison, h.tally, h.madc, h.spdm, h.attic⟩

theorem Keeps.set_ring {W : Nat} {a x : State} {ring : Ring} (h : Keeps W a x) (hw : 0x200000 &&& W = 0x200000) :
    Keeps W a ⟨x.pending, x.now, x.taken, x.regs, x.act, x.written, x.pow, x.regu, x.isl, x.pcie, x.bridge, x.ident,
    x.scc, x.mgt, x.esc, x.frameNo, x.frameAt, x.started, x.fresh, x.msgs, x.reply, ring, x.wire, x.place, x.commits,
    x.port, x.pipe, x.jobs, x.nextJob, x.tile, x.readmit, x.stops, x.twinWait, x.tallies, x.prod, x.canvas, x.fstore,
    x.larder, x.hoist, x.lane, x.fabric, x.mem, x.memPoison, x.tally, x.madc, x.spdm, x.attic⟩ :=
  ⟨h.pending, h.now, h.memForm, h.regsForm, h.actForm, h.taken, h.regs, h.act, h.written, h.pow, h.regu, h.isl,
    h.pcie, h.bridge, h.ident, h.scc, h.mgt, h.esc, h.frameNo, h.frameAt, h.started, h.fresh, h.msgs, h.reply, fun k
    => (part_clash hw rfl k).elim, h.wire, h.place, h.commits, h.port, h.pipe, h.jobs, h.nextJob, h.tile, h.readmit,
    h.stops, h.twinWait, h.tallies, h.prod, h.canvas, h.fstore, h.larder, h.hoist, h.lane, h.fabric, h.mem,
    h.memPoison, h.tally, h.madc, h.spdm, h.attic⟩

theorem Keeps.set_wire {W : Nat} {a x : State} {wire : List HostWrite} (h : Keeps W a x) (hw : 0x400000 &&& W =
    0x400000) : Keeps W a ⟨x.pending, x.now, x.taken, x.regs, x.act, x.written, x.pow, x.regu, x.isl, x.pcie,
    x.bridge, x.ident, x.scc, x.mgt, x.esc, x.frameNo, x.frameAt, x.started, x.fresh, x.msgs, x.reply, x.ring, wire,
    x.place, x.commits, x.port, x.pipe, x.jobs, x.nextJob, x.tile, x.readmit, x.stops, x.twinWait, x.tallies, x.prod,
    x.canvas, x.fstore, x.larder, x.hoist, x.lane, x.fabric, x.mem, x.memPoison, x.tally, x.madc, x.spdm, x.attic⟩ :=
  ⟨h.pending, h.now, h.memForm, h.regsForm, h.actForm, h.taken, h.regs, h.act, h.written, h.pow, h.regu, h.isl,
    h.pcie, h.bridge, h.ident, h.scc, h.mgt, h.esc, h.frameNo, h.frameAt, h.started, h.fresh, h.msgs, h.reply, h.ring,
    fun k => (part_clash hw rfl k).elim, h.place, h.commits, h.port, h.pipe, h.jobs, h.nextJob, h.tile, h.readmit,
    h.stops, h.twinWait, h.tallies, h.prod, h.canvas, h.fstore, h.larder, h.hoist, h.lane, h.fabric, h.mem,
    h.memPoison, h.tally, h.madc, h.spdm, h.attic⟩

theorem Keeps.set_place {W : Nat} {a x : State} {place : KMap Place} (h : Keeps W a x) (hw : 0x800000 &&& W =
    0x800000) : Keeps W a ⟨x.pending, x.now, x.taken, x.regs, x.act, x.written, x.pow, x.regu, x.isl, x.pcie,
    x.bridge, x.ident, x.scc, x.mgt, x.esc, x.frameNo, x.frameAt, x.started, x.fresh, x.msgs, x.reply, x.ring, x.wire,
    place, x.commits, x.port, x.pipe, x.jobs, x.nextJob, x.tile, x.readmit, x.stops, x.twinWait, x.tallies, x.prod,
    x.canvas, x.fstore, x.larder, x.hoist, x.lane, x.fabric, x.mem, x.memPoison, x.tally, x.madc, x.spdm, x.attic⟩ :=
  ⟨h.pending, h.now, h.memForm, h.regsForm, h.actForm, h.taken, h.regs, h.act, h.written, h.pow, h.regu, h.isl,
    h.pcie, h.bridge, h.ident, h.scc, h.mgt, h.esc, h.frameNo, h.frameAt, h.started, h.fresh, h.msgs, h.reply, h.ring,
    h.wire, fun k => (part_clash hw rfl k).elim, h.commits, h.port, h.pipe, h.jobs, h.nextJob, h.tile, h.readmit,
    h.stops, h.twinWait, h.tallies, h.prod, h.canvas, h.fstore, h.larder, h.hoist, h.lane, h.fabric, h.mem,
    h.memPoison, h.tally, h.madc, h.spdm, h.attic⟩

theorem Keeps.set_commits {W : Nat} {a x : State} {commits : List CommitRec} (h : Keeps W a x) (hw : 0x1000000 &&& W =
    0x1000000) : Keeps W a ⟨x.pending, x.now, x.taken, x.regs, x.act, x.written, x.pow, x.regu, x.isl, x.pcie,
    x.bridge, x.ident, x.scc, x.mgt, x.esc, x.frameNo, x.frameAt, x.started, x.fresh, x.msgs, x.reply, x.ring, x.wire,
    x.place, commits, x.port, x.pipe, x.jobs, x.nextJob, x.tile, x.readmit, x.stops, x.twinWait, x.tallies, x.prod,
    x.canvas, x.fstore, x.larder, x.hoist, x.lane, x.fabric, x.mem, x.memPoison, x.tally, x.madc, x.spdm, x.attic⟩ :=
  ⟨h.pending, h.now, h.memForm, h.regsForm, h.actForm, h.taken, h.regs, h.act, h.written, h.pow, h.regu, h.isl,
    h.pcie, h.bridge, h.ident, h.scc, h.mgt, h.esc, h.frameNo, h.frameAt, h.started, h.fresh, h.msgs, h.reply, h.ring,
    h.wire, h.place, fun k => (part_clash hw rfl k).elim, h.port, h.pipe, h.jobs, h.nextJob, h.tile, h.readmit,
    h.stops, h.twinWait, h.tallies, h.prod, h.canvas, h.fstore, h.larder, h.hoist, h.lane, h.fabric, h.mem,
    h.memPoison, h.tally, h.madc, h.spdm, h.attic⟩

theorem Keeps.set_port {W : Nat} {a x : State} {port : KMap Port} (h : Keeps W a x) (hw : 0x2000000 &&& W = 0x2000000)
    : Keeps W a ⟨x.pending, x.now, x.taken, x.regs, x.act, x.written, x.pow, x.regu, x.isl, x.pcie, x.bridge, x.ident,
    x.scc, x.mgt, x.esc, x.frameNo, x.frameAt, x.started, x.fresh, x.msgs, x.reply, x.ring, x.wire, x.place,
    x.commits, port, x.pipe, x.jobs, x.nextJob, x.tile, x.readmit, x.stops, x.twinWait, x.tallies, x.prod, x.canvas,
    x.fstore, x.larder, x.hoist, x.lane, x.fabric, x.mem, x.memPoison, x.tally, x.madc, x.spdm, x.attic⟩ :=
  ⟨h.pending, h.now, h.memForm, h.regsForm, h.actForm, h.taken, h.regs, h.act, h.written, h.pow, h.regu, h.isl,
    h.pcie, h.bridge, h.ident, h.scc, h.mgt, h.esc, h.frameNo, h.frameAt, h.started, h.fresh, h.msgs, h.reply, h.ring,
    h.wire, h.place, h.commits, fun k => (part_clash hw rfl k).elim, h.pipe, h.jobs, h.nextJob, h.tile, h.readmit,
    h.stops, h.twinWait, h.tallies, h.prod, h.canvas, h.fstore, h.larder, h.hoist, h.lane, h.fabric, h.mem,
    h.memPoison, h.tally, h.madc, h.spdm, h.attic⟩

theorem Keeps.set_pipe {W : Nat} {a x : State} {pipe : KMap Pipe} (h : Keeps W a x) (hw : 0x4000000 &&& W = 0x4000000)
    : Keeps W a ⟨x.pending, x.now, x.taken, x.regs, x.act, x.written, x.pow, x.regu, x.isl, x.pcie, x.bridge, x.ident,
    x.scc, x.mgt, x.esc, x.frameNo, x.frameAt, x.started, x.fresh, x.msgs, x.reply, x.ring, x.wire, x.place,
    x.commits, x.port, pipe, x.jobs, x.nextJob, x.tile, x.readmit, x.stops, x.twinWait, x.tallies, x.prod, x.canvas,
    x.fstore, x.larder, x.hoist, x.lane, x.fabric, x.mem, x.memPoison, x.tally, x.madc, x.spdm, x.attic⟩ :=
  ⟨h.pending, h.now, h.memForm, h.regsForm, h.actForm, h.taken, h.regs, h.act, h.written, h.pow, h.regu, h.isl,
    h.pcie, h.bridge, h.ident, h.scc, h.mgt, h.esc, h.frameNo, h.frameAt, h.started, h.fresh, h.msgs, h.reply, h.ring,
    h.wire, h.place, h.commits, h.port, fun k => (part_clash hw rfl k).elim, h.jobs, h.nextJob, h.tile, h.readmit,
    h.stops, h.twinWait, h.tallies, h.prod, h.canvas, h.fstore, h.larder, h.hoist, h.lane, h.fabric, h.mem,
    h.memPoison, h.tally, h.madc, h.spdm, h.attic⟩

theorem Keeps.set_jobs {W : Nat} {a x : State} {jobs : List Job} (h : Keeps W a x) (hw : 0x8000000 &&& W = 0x8000000)
    : Keeps W a ⟨x.pending, x.now, x.taken, x.regs, x.act, x.written, x.pow, x.regu, x.isl, x.pcie, x.bridge, x.ident,
    x.scc, x.mgt, x.esc, x.frameNo, x.frameAt, x.started, x.fresh, x.msgs, x.reply, x.ring, x.wire, x.place,
    x.commits, x.port, x.pipe, jobs, x.nextJob, x.tile, x.readmit, x.stops, x.twinWait, x.tallies, x.prod, x.canvas,
    x.fstore, x.larder, x.hoist, x.lane, x.fabric, x.mem, x.memPoison, x.tally, x.madc, x.spdm, x.attic⟩ :=
  ⟨h.pending, h.now, h.memForm, h.regsForm, h.actForm, h.taken, h.regs, h.act, h.written, h.pow, h.regu, h.isl,
    h.pcie, h.bridge, h.ident, h.scc, h.mgt, h.esc, h.frameNo, h.frameAt, h.started, h.fresh, h.msgs, h.reply, h.ring,
    h.wire, h.place, h.commits, h.port, h.pipe, fun k => (part_clash hw rfl k).elim, h.nextJob, h.tile, h.readmit,
    h.stops, h.twinWait, h.tallies, h.prod, h.canvas, h.fstore, h.larder, h.hoist, h.lane, h.fabric, h.mem,
    h.memPoison, h.tally, h.madc, h.spdm, h.attic⟩

theorem Keeps.set_jobs_nextJob {W : Nat} {a x : State} {jobs : List Job} {nextJob : Nat} (h : Keeps W a x) (hw :
    0x18000000 &&& W = 0x18000000) : Keeps W a ⟨x.pending, x.now, x.taken, x.regs, x.act, x.written, x.pow, x.regu,
    x.isl, x.pcie, x.bridge, x.ident, x.scc, x.mgt, x.esc, x.frameNo, x.frameAt, x.started, x.fresh, x.msgs, x.reply,
    x.ring, x.wire, x.place, x.commits, x.port, x.pipe, jobs, nextJob, x.tile, x.readmit, x.stops, x.twinWait,
    x.tallies, x.prod, x.canvas, x.fstore, x.larder, x.hoist, x.lane, x.fabric, x.mem, x.memPoison, x.tally, x.madc,
    x.spdm, x.attic⟩ :=
  ⟨h.pending, h.now, h.memForm, h.regsForm, h.actForm, h.taken, h.regs, h.act, h.written, h.pow, h.regu, h.isl,
    h.pcie, h.bridge, h.ident, h.scc, h.mgt, h.esc, h.frameNo, h.frameAt, h.started, h.fresh, h.msgs, h.reply, h.ring,
    h.wire, h.place, h.commits, h.port, h.pipe, fun k => (part_clash hw rfl k).elim, fun k => (part_clash hw rfl
    k).elim, h.tile, h.readmit, h.stops, h.twinWait, h.tallies, h.prod, h.canvas, h.fstore, h.larder, h.hoist, h.lane,
    h.fabric, h.mem, h.memPoison, h.tally, h.madc, h.spdm, h.attic⟩

theorem Keeps.set_tile {W : Nat} {a x : State} {tile : KMap TileSt} (h : Keeps W a x) (hw : 0x20000000 &&& W =
    0x20000000) : Keeps W a ⟨x.pending, x.now, x.taken, x.regs, x.act, x.written, x.pow, x.regu, x.isl, x.pcie,
    x.bridge, x.ident, x.scc, x.mgt, x.esc, x.frameNo, x.frameAt, x.started, x.fresh, x.msgs, x.reply, x.ring, x.wire,
    x.place, x.commits, x.port, x.pipe, x.jobs, x.nextJob, tile, x.readmit, x.stops, x.twinWait, x.tallies, x.prod,
    x.canvas, x.fstore, x.larder, x.hoist, x.lane, x.fabric, x.mem, x.memPoison, x.tally, x.madc, x.spdm, x.attic⟩ :=
  ⟨h.pending, h.now, h.memForm, h.regsForm, h.actForm, h.taken, h.regs, h.act, h.written, h.pow, h.regu, h.isl,
    h.pcie, h.bridge, h.ident, h.scc, h.mgt, h.esc, h.frameNo, h.frameAt, h.started, h.fresh, h.msgs, h.reply, h.ring,
    h.wire, h.place, h.commits, h.port, h.pipe, h.jobs, h.nextJob, fun k => (part_clash hw rfl k).elim, h.readmit,
    h.stops, h.twinWait, h.tallies, h.prod, h.canvas, h.fstore, h.larder, h.hoist, h.lane, h.fabric, h.mem,
    h.memPoison, h.tally, h.madc, h.spdm, h.attic⟩

theorem Keeps.set_isl_jobs_tile {W : Nat} {a x : State} {isl : Isl} {jobs : List Job} {tile : KMap TileSt} (h : Keeps
    W a x) (hw : 0x28000100 &&& W = 0x28000100) : Keeps W a ⟨x.pending, x.now, x.taken, x.regs, x.act, x.written,
    x.pow, x.regu, isl, x.pcie, x.bridge, x.ident, x.scc, x.mgt, x.esc, x.frameNo, x.frameAt, x.started, x.fresh,
    x.msgs, x.reply, x.ring, x.wire, x.place, x.commits, x.port, x.pipe, jobs, x.nextJob, tile, x.readmit, x.stops,
    x.twinWait, x.tallies, x.prod, x.canvas, x.fstore, x.larder, x.hoist, x.lane, x.fabric, x.mem, x.memPoison,
    x.tally, x.madc, x.spdm, x.attic⟩ :=
  ⟨h.pending, h.now, h.memForm, h.regsForm, h.actForm, h.taken, h.regs, h.act, h.written, h.pow, h.regu, fun k =>
    (part_clash hw rfl k).elim, h.pcie, h.bridge, h.ident, h.scc, h.mgt, h.esc, h.frameNo, h.frameAt, h.started,
    h.fresh, h.msgs, h.reply, h.ring, h.wire, h.place, h.commits, h.port, h.pipe, fun k => (part_clash hw rfl k).elim,
    h.nextJob, fun k => (part_clash hw rfl k).elim, h.readmit, h.stops, h.twinWait, h.tallies, h.prod, h.canvas,
    h.fstore, h.larder, h.hoist, h.lane, h.fabric, h.mem, h.memPoison, h.tally, h.madc, h.spdm, h.attic⟩

theorem Keeps.set_readmit {W : Nat} {a x : State} {readmit : List Readmit} (h : Keeps W a x) (hw : 0x40000000 &&& W =
    0x40000000) : Keeps W a ⟨x.pending, x.now, x.taken, x.regs, x.act, x.written, x.pow, x.regu, x.isl, x.pcie,
    x.bridge, x.ident, x.scc, x.mgt, x.esc, x.frameNo, x.frameAt, x.started, x.fresh, x.msgs, x.reply, x.ring, x.wire,
    x.place, x.commits, x.port, x.pipe, x.jobs, x.nextJob, x.tile, readmit, x.stops, x.twinWait, x.tallies, x.prod,
    x.canvas, x.fstore, x.larder, x.hoist, x.lane, x.fabric, x.mem, x.memPoison, x.tally, x.madc, x.spdm, x.attic⟩ :=
  ⟨h.pending, h.now, h.memForm, h.regsForm, h.actForm, h.taken, h.regs, h.act, h.written, h.pow, h.regu, h.isl,
    h.pcie, h.bridge, h.ident, h.scc, h.mgt, h.esc, h.frameNo, h.frameAt, h.started, h.fresh, h.msgs, h.reply, h.ring,
    h.wire, h.place, h.commits, h.port, h.pipe, h.jobs, h.nextJob, h.tile, fun k => (part_clash hw rfl k).elim,
    h.stops, h.twinWait, h.tallies, h.prod, h.canvas, h.fstore, h.larder, h.hoist, h.lane, h.fabric, h.mem,
    h.memPoison, h.tally, h.madc, h.spdm, h.attic⟩

theorem Keeps.set_stops {W : Nat} {a x : State} {stops : List (Nat × Nat)} (h : Keeps W a x) (hw : 0x80000000 &&& W =
    0x80000000) : Keeps W a ⟨x.pending, x.now, x.taken, x.regs, x.act, x.written, x.pow, x.regu, x.isl, x.pcie,
    x.bridge, x.ident, x.scc, x.mgt, x.esc, x.frameNo, x.frameAt, x.started, x.fresh, x.msgs, x.reply, x.ring, x.wire,
    x.place, x.commits, x.port, x.pipe, x.jobs, x.nextJob, x.tile, x.readmit, stops, x.twinWait, x.tallies, x.prod,
    x.canvas, x.fstore, x.larder, x.hoist, x.lane, x.fabric, x.mem, x.memPoison, x.tally, x.madc, x.spdm, x.attic⟩ :=
  ⟨h.pending, h.now, h.memForm, h.regsForm, h.actForm, h.taken, h.regs, h.act, h.written, h.pow, h.regu, h.isl,
    h.pcie, h.bridge, h.ident, h.scc, h.mgt, h.esc, h.frameNo, h.frameAt, h.started, h.fresh, h.msgs, h.reply, h.ring,
    h.wire, h.place, h.commits, h.port, h.pipe, h.jobs, h.nextJob, h.tile, h.readmit, fun k => (part_clash hw rfl
    k).elim, h.twinWait, h.tallies, h.prod, h.canvas, h.fstore, h.larder, h.hoist, h.lane, h.fabric, h.mem,
    h.memPoison, h.tally, h.madc, h.spdm, h.attic⟩

theorem Keeps.set_twinWait {W : Nat} {a x : State} {twinWait : List OutSlice} (h : Keeps W a x) (hw : 0x100000000 &&&
    W = 0x100000000) : Keeps W a ⟨x.pending, x.now, x.taken, x.regs, x.act, x.written, x.pow, x.regu, x.isl, x.pcie,
    x.bridge, x.ident, x.scc, x.mgt, x.esc, x.frameNo, x.frameAt, x.started, x.fresh, x.msgs, x.reply, x.ring, x.wire,
    x.place, x.commits, x.port, x.pipe, x.jobs, x.nextJob, x.tile, x.readmit, x.stops, twinWait, x.tallies, x.prod,
    x.canvas, x.fstore, x.larder, x.hoist, x.lane, x.fabric, x.mem, x.memPoison, x.tally, x.madc, x.spdm, x.attic⟩ :=
  ⟨h.pending, h.now, h.memForm, h.regsForm, h.actForm, h.taken, h.regs, h.act, h.written, h.pow, h.regu, h.isl,
    h.pcie, h.bridge, h.ident, h.scc, h.mgt, h.esc, h.frameNo, h.frameAt, h.started, h.fresh, h.msgs, h.reply, h.ring,
    h.wire, h.place, h.commits, h.port, h.pipe, h.jobs, h.nextJob, h.tile, h.readmit, h.stops, fun k => (part_clash hw
    rfl k).elim, h.tallies, h.prod, h.canvas, h.fstore, h.larder, h.hoist, h.lane, h.fabric, h.mem, h.memPoison,
    h.tally, h.madc, h.spdm, h.attic⟩

theorem Keeps.set_tallies {W : Nat} {a x : State} {tallies : List TwinTally} (h : Keeps W a x) (hw : 0x200000000 &&& W
    = 0x200000000) : Keeps W a ⟨x.pending, x.now, x.taken, x.regs, x.act, x.written, x.pow, x.regu, x.isl, x.pcie,
    x.bridge, x.ident, x.scc, x.mgt, x.esc, x.frameNo, x.frameAt, x.started, x.fresh, x.msgs, x.reply, x.ring, x.wire,
    x.place, x.commits, x.port, x.pipe, x.jobs, x.nextJob, x.tile, x.readmit, x.stops, x.twinWait, tallies, x.prod,
    x.canvas, x.fstore, x.larder, x.hoist, x.lane, x.fabric, x.mem, x.memPoison, x.tally, x.madc, x.spdm, x.attic⟩ :=
  ⟨h.pending, h.now, h.memForm, h.regsForm, h.actForm, h.taken, h.regs, h.act, h.written, h.pow, h.regu, h.isl,
    h.pcie, h.bridge, h.ident, h.scc, h.mgt, h.esc, h.frameNo, h.frameAt, h.started, h.fresh, h.msgs, h.reply, h.ring,
    h.wire, h.place, h.commits, h.port, h.pipe, h.jobs, h.nextJob, h.tile, h.readmit, h.stops, h.twinWait, fun k =>
    (part_clash hw rfl k).elim, h.prod, h.canvas, h.fstore, h.larder, h.hoist, h.lane, h.fabric, h.mem, h.memPoison,
    h.tally, h.madc, h.spdm, h.attic⟩

theorem Keeps.set_twinWait_tallies {W : Nat} {a x : State} {twinWait : List OutSlice} {tallies : List TwinTally} (h :
    Keeps W a x) (hw : 0x300000000 &&& W = 0x300000000) : Keeps W a ⟨x.pending, x.now, x.taken, x.regs, x.act,
    x.written, x.pow, x.regu, x.isl, x.pcie, x.bridge, x.ident, x.scc, x.mgt, x.esc, x.frameNo, x.frameAt, x.started,
    x.fresh, x.msgs, x.reply, x.ring, x.wire, x.place, x.commits, x.port, x.pipe, x.jobs, x.nextJob, x.tile,
    x.readmit, x.stops, twinWait, tallies, x.prod, x.canvas, x.fstore, x.larder, x.hoist, x.lane, x.fabric, x.mem,
    x.memPoison, x.tally, x.madc, x.spdm, x.attic⟩ :=
  ⟨h.pending, h.now, h.memForm, h.regsForm, h.actForm, h.taken, h.regs, h.act, h.written, h.pow, h.regu, h.isl,
    h.pcie, h.bridge, h.ident, h.scc, h.mgt, h.esc, h.frameNo, h.frameAt, h.started, h.fresh, h.msgs, h.reply, h.ring,
    h.wire, h.place, h.commits, h.port, h.pipe, h.jobs, h.nextJob, h.tile, h.readmit, h.stops, fun k => (part_clash hw
    rfl k).elim, fun k => (part_clash hw rfl k).elim, h.prod, h.canvas, h.fstore, h.larder, h.hoist, h.lane, h.fabric,
    h.mem, h.memPoison, h.tally, h.madc, h.spdm, h.attic⟩

theorem Keeps.set_prod {W : Nat} {a x : State} {prod : KMap (List Pkt)} (h : Keeps W a x) (hw : 0x400000000 &&& W =
    0x400000000) : Keeps W a ⟨x.pending, x.now, x.taken, x.regs, x.act, x.written, x.pow, x.regu, x.isl, x.pcie,
    x.bridge, x.ident, x.scc, x.mgt, x.esc, x.frameNo, x.frameAt, x.started, x.fresh, x.msgs, x.reply, x.ring, x.wire,
    x.place, x.commits, x.port, x.pipe, x.jobs, x.nextJob, x.tile, x.readmit, x.stops, x.twinWait, x.tallies, prod,
    x.canvas, x.fstore, x.larder, x.hoist, x.lane, x.fabric, x.mem, x.memPoison, x.tally, x.madc, x.spdm, x.attic⟩ :=
  ⟨h.pending, h.now, h.memForm, h.regsForm, h.actForm, h.taken, h.regs, h.act, h.written, h.pow, h.regu, h.isl,
    h.pcie, h.bridge, h.ident, h.scc, h.mgt, h.esc, h.frameNo, h.frameAt, h.started, h.fresh, h.msgs, h.reply, h.ring,
    h.wire, h.place, h.commits, h.port, h.pipe, h.jobs, h.nextJob, h.tile, h.readmit, h.stops, h.twinWait, h.tallies,
    fun k => (part_clash hw rfl k).elim, h.canvas, h.fstore, h.larder, h.hoist, h.lane, h.fabric, h.mem, h.memPoison,
    h.tally, h.madc, h.spdm, h.attic⟩

theorem Keeps.set_twinWait_tallies_prod {W : Nat} {a x : State} {twinWait : List OutSlice} {tallies : List TwinTally}
    {prod : KMap (List Pkt)} (h : Keeps W a x) (hw : 0x700000000 &&& W = 0x700000000) : Keeps W a ⟨x.pending, x.now,
    x.taken, x.regs, x.act, x.written, x.pow, x.regu, x.isl, x.pcie, x.bridge, x.ident, x.scc, x.mgt, x.esc,
    x.frameNo, x.frameAt, x.started, x.fresh, x.msgs, x.reply, x.ring, x.wire, x.place, x.commits, x.port, x.pipe,
    x.jobs, x.nextJob, x.tile, x.readmit, x.stops, twinWait, tallies, prod, x.canvas, x.fstore, x.larder, x.hoist,
    x.lane, x.fabric, x.mem, x.memPoison, x.tally, x.madc, x.spdm, x.attic⟩ :=
  ⟨h.pending, h.now, h.memForm, h.regsForm, h.actForm, h.taken, h.regs, h.act, h.written, h.pow, h.regu, h.isl,
    h.pcie, h.bridge, h.ident, h.scc, h.mgt, h.esc, h.frameNo, h.frameAt, h.started, h.fresh, h.msgs, h.reply, h.ring,
    h.wire, h.place, h.commits, h.port, h.pipe, h.jobs, h.nextJob, h.tile, h.readmit, h.stops, fun k => (part_clash hw
    rfl k).elim, fun k => (part_clash hw rfl k).elim, fun k => (part_clash hw rfl k).elim, h.canvas, h.fstore,
    h.larder, h.hoist, h.lane, h.fabric, h.mem, h.memPoison, h.tally, h.madc, h.spdm, h.attic⟩

theorem Keeps.set_canvas {W : Nat} {a x : State} {canvas : KMap Canvas} (h : Keeps W a x) (hw : 0x800000000 &&& W =
    0x800000000) : Keeps W a ⟨x.pending, x.now, x.taken, x.regs, x.act, x.written, x.pow, x.regu, x.isl, x.pcie,
    x.bridge, x.ident, x.scc, x.mgt, x.esc, x.frameNo, x.frameAt, x.started, x.fresh, x.msgs, x.reply, x.ring, x.wire,
    x.place, x.commits, x.port, x.pipe, x.jobs, x.nextJob, x.tile, x.readmit, x.stops, x.twinWait, x.tallies, x.prod,
    canvas, x.fstore, x.larder, x.hoist, x.lane, x.fabric, x.mem, x.memPoison, x.tally, x.madc, x.spdm, x.attic⟩ :=
  ⟨h.pending, h.now, h.memForm, h.regsForm, h.actForm, h.taken, h.regs, h.act, h.written, h.pow, h.regu, h.isl,
    h.pcie, h.bridge, h.ident, h.scc, h.mgt, h.esc, h.frameNo, h.frameAt, h.started, h.fresh, h.msgs, h.reply, h.ring,
    h.wire, h.place, h.commits, h.port, h.pipe, h.jobs, h.nextJob, h.tile, h.readmit, h.stops, h.twinWait, h.tallies,
    h.prod, fun k => (part_clash hw rfl k).elim, h.fstore, h.larder, h.hoist, h.lane, h.fabric, h.mem, h.memPoison,
    h.tally, h.madc, h.spdm, h.attic⟩

theorem Keeps.set_fstore {W : Nat} {a x : State} {fstore : KMap FsStore} (h : Keeps W a x) (hw : 0x1000000000 &&& W =
    0x1000000000) : Keeps W a ⟨x.pending, x.now, x.taken, x.regs, x.act, x.written, x.pow, x.regu, x.isl, x.pcie,
    x.bridge, x.ident, x.scc, x.mgt, x.esc, x.frameNo, x.frameAt, x.started, x.fresh, x.msgs, x.reply, x.ring, x.wire,
    x.place, x.commits, x.port, x.pipe, x.jobs, x.nextJob, x.tile, x.readmit, x.stops, x.twinWait, x.tallies, x.prod,
    x.canvas, fstore, x.larder, x.hoist, x.lane, x.fabric, x.mem, x.memPoison, x.tally, x.madc, x.spdm, x.attic⟩ :=
  ⟨h.pending, h.now, h.memForm, h.regsForm, h.actForm, h.taken, h.regs, h.act, h.written, h.pow, h.regu, h.isl,
    h.pcie, h.bridge, h.ident, h.scc, h.mgt, h.esc, h.frameNo, h.frameAt, h.started, h.fresh, h.msgs, h.reply, h.ring,
    h.wire, h.place, h.commits, h.port, h.pipe, h.jobs, h.nextJob, h.tile, h.readmit, h.stops, h.twinWait, h.tallies,
    h.prod, h.canvas, fun k => (part_clash hw rfl k).elim, h.larder, h.hoist, h.lane, h.fabric, h.mem, h.memPoison,
    h.tally, h.madc, h.spdm, h.attic⟩

theorem Keeps.set_larder {W : Nat} {a x : State} {larder : Larder} (h : Keeps W a x) (hw : 0x2000000000 &&& W =
    0x2000000000) : Keeps W a ⟨x.pending, x.now, x.taken, x.regs, x.act, x.written, x.pow, x.regu, x.isl, x.pcie,
    x.bridge, x.ident, x.scc, x.mgt, x.esc, x.frameNo, x.frameAt, x.started, x.fresh, x.msgs, x.reply, x.ring, x.wire,
    x.place, x.commits, x.port, x.pipe, x.jobs, x.nextJob, x.tile, x.readmit, x.stops, x.twinWait, x.tallies, x.prod,
    x.canvas, x.fstore, larder, x.hoist, x.lane, x.fabric, x.mem, x.memPoison, x.tally, x.madc, x.spdm, x.attic⟩ :=
  ⟨h.pending, h.now, h.memForm, h.regsForm, h.actForm, h.taken, h.regs, h.act, h.written, h.pow, h.regu, h.isl,
    h.pcie, h.bridge, h.ident, h.scc, h.mgt, h.esc, h.frameNo, h.frameAt, h.started, h.fresh, h.msgs, h.reply, h.ring,
    h.wire, h.place, h.commits, h.port, h.pipe, h.jobs, h.nextJob, h.tile, h.readmit, h.stops, h.twinWait, h.tallies,
    h.prod, h.canvas, h.fstore, fun k => (part_clash hw rfl k).elim, h.hoist, h.lane, h.fabric, h.mem, h.memPoison,
    h.tally, h.madc, h.spdm, h.attic⟩

theorem Keeps.set_hoist {W : Nat} {a x : State} {hoist : Hoist} (h : Keeps W a x) (hw : 0x4000000000 &&& W =
    0x4000000000) : Keeps W a ⟨x.pending, x.now, x.taken, x.regs, x.act, x.written, x.pow, x.regu, x.isl, x.pcie,
    x.bridge, x.ident, x.scc, x.mgt, x.esc, x.frameNo, x.frameAt, x.started, x.fresh, x.msgs, x.reply, x.ring, x.wire,
    x.place, x.commits, x.port, x.pipe, x.jobs, x.nextJob, x.tile, x.readmit, x.stops, x.twinWait, x.tallies, x.prod,
    x.canvas, x.fstore, x.larder, hoist, x.lane, x.fabric, x.mem, x.memPoison, x.tally, x.madc, x.spdm, x.attic⟩ :=
  ⟨h.pending, h.now, h.memForm, h.regsForm, h.actForm, h.taken, h.regs, h.act, h.written, h.pow, h.regu, h.isl,
    h.pcie, h.bridge, h.ident, h.scc, h.mgt, h.esc, h.frameNo, h.frameAt, h.started, h.fresh, h.msgs, h.reply, h.ring,
    h.wire, h.place, h.commits, h.port, h.pipe, h.jobs, h.nextJob, h.tile, h.readmit, h.stops, h.twinWait, h.tallies,
    h.prod, h.canvas, h.fstore, h.larder, fun k => (part_clash hw rfl k).elim, h.lane, h.fabric, h.mem, h.memPoison,
    h.tally, h.madc, h.spdm, h.attic⟩

theorem Keeps.set_lane {W : Nat} {a x : State} {lane : KMap Lane} (h : Keeps W a x) (hw : 0x8000000000 &&& W =
    0x8000000000) : Keeps W a ⟨x.pending, x.now, x.taken, x.regs, x.act, x.written, x.pow, x.regu, x.isl, x.pcie,
    x.bridge, x.ident, x.scc, x.mgt, x.esc, x.frameNo, x.frameAt, x.started, x.fresh, x.msgs, x.reply, x.ring, x.wire,
    x.place, x.commits, x.port, x.pipe, x.jobs, x.nextJob, x.tile, x.readmit, x.stops, x.twinWait, x.tallies, x.prod,
    x.canvas, x.fstore, x.larder, x.hoist, lane, x.fabric, x.mem, x.memPoison, x.tally, x.madc, x.spdm, x.attic⟩ :=
  ⟨h.pending, h.now, h.memForm, h.regsForm, h.actForm, h.taken, h.regs, h.act, h.written, h.pow, h.regu, h.isl,
    h.pcie, h.bridge, h.ident, h.scc, h.mgt, h.esc, h.frameNo, h.frameAt, h.started, h.fresh, h.msgs, h.reply, h.ring,
    h.wire, h.place, h.commits, h.port, h.pipe, h.jobs, h.nextJob, h.tile, h.readmit, h.stops, h.twinWait, h.tallies,
    h.prod, h.canvas, h.fstore, h.larder, h.hoist, fun k => (part_clash hw rfl k).elim, h.fabric, h.mem, h.memPoison,
    h.tally, h.madc, h.spdm, h.attic⟩

theorem Keeps.set_fabric {W : Nat} {a x : State} {fabric : Fabric} (h : Keeps W a x) (hw : 0x10000000000 &&& W =
    0x10000000000) : Keeps W a ⟨x.pending, x.now, x.taken, x.regs, x.act, x.written, x.pow, x.regu, x.isl, x.pcie,
    x.bridge, x.ident, x.scc, x.mgt, x.esc, x.frameNo, x.frameAt, x.started, x.fresh, x.msgs, x.reply, x.ring, x.wire,
    x.place, x.commits, x.port, x.pipe, x.jobs, x.nextJob, x.tile, x.readmit, x.stops, x.twinWait, x.tallies, x.prod,
    x.canvas, x.fstore, x.larder, x.hoist, x.lane, fabric, x.mem, x.memPoison, x.tally, x.madc, x.spdm, x.attic⟩ :=
  ⟨h.pending, h.now, h.memForm, h.regsForm, h.actForm, h.taken, h.regs, h.act, h.written, h.pow, h.regu, h.isl,
    h.pcie, h.bridge, h.ident, h.scc, h.mgt, h.esc, h.frameNo, h.frameAt, h.started, h.fresh, h.msgs, h.reply, h.ring,
    h.wire, h.place, h.commits, h.port, h.pipe, h.jobs, h.nextJob, h.tile, h.readmit, h.stops, h.twinWait, h.tallies,
    h.prod, h.canvas, h.fstore, h.larder, h.hoist, h.lane, fun k => (part_clash hw rfl k).elim, h.mem, h.memPoison,
    h.tally, h.madc, h.spdm, h.attic⟩

theorem Keeps.set_memPoison {W : Nat} {a x : State} {memPoison : List Nat} (h : Keeps W a x) (hw : 0x40000000000 &&& W
    = 0x40000000000) : Keeps W a ⟨x.pending, x.now, x.taken, x.regs, x.act, x.written, x.pow, x.regu, x.isl, x.pcie,
    x.bridge, x.ident, x.scc, x.mgt, x.esc, x.frameNo, x.frameAt, x.started, x.fresh, x.msgs, x.reply, x.ring, x.wire,
    x.place, x.commits, x.port, x.pipe, x.jobs, x.nextJob, x.tile, x.readmit, x.stops, x.twinWait, x.tallies, x.prod,
    x.canvas, x.fstore, x.larder, x.hoist, x.lane, x.fabric, x.mem, memPoison, x.tally, x.madc, x.spdm, x.attic⟩ :=
  ⟨h.pending, h.now, h.memForm, h.regsForm, h.actForm, h.taken, h.regs, h.act, h.written, h.pow, h.regu, h.isl,
    h.pcie, h.bridge, h.ident, h.scc, h.mgt, h.esc, h.frameNo, h.frameAt, h.started, h.fresh, h.msgs, h.reply, h.ring,
    h.wire, h.place, h.commits, h.port, h.pipe, h.jobs, h.nextJob, h.tile, h.readmit, h.stops, h.twinWait, h.tallies,
    h.prod, h.canvas, h.fstore, h.larder, h.hoist, h.lane, h.fabric, h.mem, fun k => (part_clash hw rfl k).elim,
    h.tally, h.madc, h.spdm, h.attic⟩

theorem Keeps.set_mem_memPoison {W : Nat} {a x : State} {mem : List Host.Cell} {memPoison : List Nat} (h : Keeps W a
    x) (hw : 0x60000000000 &&& W = 0x60000000000) (hmem : Memory.wf x.mem → Memory.wf mem) : Keeps W a ⟨x.pending,
    x.now, x.taken, x.regs, x.act, x.written, x.pow, x.regu, x.isl, x.pcie, x.bridge, x.ident, x.scc, x.mgt, x.esc,
    x.frameNo, x.frameAt, x.started, x.fresh, x.msgs, x.reply, x.ring, x.wire, x.place, x.commits, x.port, x.pipe,
    x.jobs, x.nextJob, x.tile, x.readmit, x.stops, x.twinWait, x.tallies, x.prod, x.canvas, x.fstore, x.larder,
    x.hoist, x.lane, x.fabric, mem, memPoison, x.tally, x.madc, x.spdm, x.attic⟩ :=
  ⟨h.pending, h.now, hmem ∘ h.memForm, h.regsForm, h.actForm, h.taken, h.regs, h.act, h.written, h.pow, h.regu, h.isl,
    h.pcie, h.bridge, h.ident, h.scc, h.mgt, h.esc, h.frameNo, h.frameAt, h.started, h.fresh, h.msgs, h.reply, h.ring,
    h.wire, h.place, h.commits, h.port, h.pipe, h.jobs, h.nextJob, h.tile, h.readmit, h.stops, h.twinWait, h.tallies,
    h.prod, h.canvas, h.fstore, h.larder, h.hoist, h.lane, h.fabric, fun k => (part_clash hw rfl k).elim, fun k =>
    (part_clash hw rfl k).elim, h.tally, h.madc, h.spdm, h.attic⟩

theorem Keeps.set_pow_mem_memPoison {W : Nat} {a x : State} {pow : Pow} {mem : List Host.Cell} {memPoison : List Nat}
    (h : Keeps W a x) (hw : 0x60000000040 &&& W = 0x60000000040) (hmem : Memory.wf x.mem → Memory.wf mem) : Keeps W a
    ⟨x.pending, x.now, x.taken, x.regs, x.act, x.written, pow, x.regu, x.isl, x.pcie, x.bridge, x.ident, x.scc, x.mgt,
    x.esc, x.frameNo, x.frameAt, x.started, x.fresh, x.msgs, x.reply, x.ring, x.wire, x.place, x.commits, x.port,
    x.pipe, x.jobs, x.nextJob, x.tile, x.readmit, x.stops, x.twinWait, x.tallies, x.prod, x.canvas, x.fstore,
    x.larder, x.hoist, x.lane, x.fabric, mem, memPoison, x.tally, x.madc, x.spdm, x.attic⟩ :=
  ⟨h.pending, h.now, hmem ∘ h.memForm, h.regsForm, h.actForm, h.taken, h.regs, h.act, h.written, fun k => (part_clash
    hw rfl k).elim, h.regu, h.isl, h.pcie, h.bridge, h.ident, h.scc, h.mgt, h.esc, h.frameNo, h.frameAt, h.started,
    h.fresh, h.msgs, h.reply, h.ring, h.wire, h.place, h.commits, h.port, h.pipe, h.jobs, h.nextJob, h.tile,
    h.readmit, h.stops, h.twinWait, h.tallies, h.prod, h.canvas, h.fstore, h.larder, h.hoist, h.lane, h.fabric, fun k
    => (part_clash hw rfl k).elim, fun k => (part_clash hw rfl k).elim, h.tally, h.madc, h.spdm, h.attic⟩

theorem Keeps.set_tally {W : Nat} {a x : State} {tally : KMap TallySet} (h : Keeps W a x) (hw : 0x80000000000 &&& W =
    0x80000000000) : Keeps W a ⟨x.pending, x.now, x.taken, x.regs, x.act, x.written, x.pow, x.regu, x.isl, x.pcie,
    x.bridge, x.ident, x.scc, x.mgt, x.esc, x.frameNo, x.frameAt, x.started, x.fresh, x.msgs, x.reply, x.ring, x.wire,
    x.place, x.commits, x.port, x.pipe, x.jobs, x.nextJob, x.tile, x.readmit, x.stops, x.twinWait, x.tallies, x.prod,
    x.canvas, x.fstore, x.larder, x.hoist, x.lane, x.fabric, x.mem, x.memPoison, tally, x.madc, x.spdm, x.attic⟩ :=
  ⟨h.pending, h.now, h.memForm, h.regsForm, h.actForm, h.taken, h.regs, h.act, h.written, h.pow, h.regu, h.isl,
    h.pcie, h.bridge, h.ident, h.scc, h.mgt, h.esc, h.frameNo, h.frameAt, h.started, h.fresh, h.msgs, h.reply, h.ring,
    h.wire, h.place, h.commits, h.port, h.pipe, h.jobs, h.nextJob, h.tile, h.readmit, h.stops, h.twinWait, h.tallies,
    h.prod, h.canvas, h.fstore, h.larder, h.hoist, h.lane, h.fabric, h.mem, h.memPoison, fun k => (part_clash hw rfl
    k).elim, h.madc, h.spdm, h.attic⟩

theorem Keeps.set_madc {W : Nat} {a x : State} {madc : Madc} (h : Keeps W a x) (hw : 0x100000000000 &&& W =
    0x100000000000) : Keeps W a ⟨x.pending, x.now, x.taken, x.regs, x.act, x.written, x.pow, x.regu, x.isl, x.pcie,
    x.bridge, x.ident, x.scc, x.mgt, x.esc, x.frameNo, x.frameAt, x.started, x.fresh, x.msgs, x.reply, x.ring, x.wire,
    x.place, x.commits, x.port, x.pipe, x.jobs, x.nextJob, x.tile, x.readmit, x.stops, x.twinWait, x.tallies, x.prod,
    x.canvas, x.fstore, x.larder, x.hoist, x.lane, x.fabric, x.mem, x.memPoison, x.tally, madc, x.spdm, x.attic⟩ :=
  ⟨h.pending, h.now, h.memForm, h.regsForm, h.actForm, h.taken, h.regs, h.act, h.written, h.pow, h.regu, h.isl,
    h.pcie, h.bridge, h.ident, h.scc, h.mgt, h.esc, h.frameNo, h.frameAt, h.started, h.fresh, h.msgs, h.reply, h.ring,
    h.wire, h.place, h.commits, h.port, h.pipe, h.jobs, h.nextJob, h.tile, h.readmit, h.stops, h.twinWait, h.tallies,
    h.prod, h.canvas, h.fstore, h.larder, h.hoist, h.lane, h.fabric, h.mem, h.memPoison, h.tally, fun k => (part_clash
    hw rfl k).elim, h.spdm, h.attic⟩

theorem Keeps.set_spdm {W : Nat} {a x : State} {spdm : Spdm} (h : Keeps W a x) (hw : 0x200000000000 &&& W =
    0x200000000000) : Keeps W a ⟨x.pending, x.now, x.taken, x.regs, x.act, x.written, x.pow, x.regu, x.isl, x.pcie,
    x.bridge, x.ident, x.scc, x.mgt, x.esc, x.frameNo, x.frameAt, x.started, x.fresh, x.msgs, x.reply, x.ring, x.wire,
    x.place, x.commits, x.port, x.pipe, x.jobs, x.nextJob, x.tile, x.readmit, x.stops, x.twinWait, x.tallies, x.prod,
    x.canvas, x.fstore, x.larder, x.hoist, x.lane, x.fabric, x.mem, x.memPoison, x.tally, x.madc, spdm, x.attic⟩ :=
  ⟨h.pending, h.now, h.memForm, h.regsForm, h.actForm, h.taken, h.regs, h.act, h.written, h.pow, h.regu, h.isl,
    h.pcie, h.bridge, h.ident, h.scc, h.mgt, h.esc, h.frameNo, h.frameAt, h.started, h.fresh, h.msgs, h.reply, h.ring,
    h.wire, h.place, h.commits, h.port, h.pipe, h.jobs, h.nextJob, h.tile, h.readmit, h.stops, h.twinWait, h.tallies,
    h.prod, h.canvas, h.fstore, h.larder, h.hoist, h.lane, h.fabric, h.mem, h.memPoison, h.tally, h.madc, fun k =>
    (part_clash hw rfl k).elim, h.attic⟩

theorem Keeps.set_pcie_ring_spdm {W : Nat} {a x : State} {pcie : Pcie} {ring : Ring} {spdm : Spdm} (h : Keeps W a x)
    (hw : 0x200000200200 &&& W = 0x200000200200) : Keeps W a ⟨x.pending, x.now, x.taken, x.regs, x.act, x.written,
    x.pow, x.regu, x.isl, pcie, x.bridge, x.ident, x.scc, x.mgt, x.esc, x.frameNo, x.frameAt, x.started, x.fresh,
    x.msgs, x.reply, ring, x.wire, x.place, x.commits, x.port, x.pipe, x.jobs, x.nextJob, x.tile, x.readmit, x.stops,
    x.twinWait, x.tallies, x.prod, x.canvas, x.fstore, x.larder, x.hoist, x.lane, x.fabric, x.mem, x.memPoison,
    x.tally, x.madc, spdm, x.attic⟩ :=
  ⟨h.pending, h.now, h.memForm, h.regsForm, h.actForm, h.taken, h.regs, h.act, h.written, h.pow, h.regu, h.isl, fun k
    => (part_clash hw rfl k).elim, h.bridge, h.ident, h.scc, h.mgt, h.esc, h.frameNo, h.frameAt, h.started, h.fresh,
    h.msgs, h.reply, fun k => (part_clash hw rfl k).elim, h.wire, h.place, h.commits, h.port, h.pipe, h.jobs,
    h.nextJob, h.tile, h.readmit, h.stops, h.twinWait, h.tallies, h.prod, h.canvas, h.fstore, h.larder, h.hoist,
    h.lane, h.fabric, h.mem, h.memPoison, h.tally, h.madc, fun k => (part_clash hw rfl k).elim, h.attic⟩

theorem Keeps.set_attic {W : Nat} {a x : State} {attic : Attic} (h : Keeps W a x) (hw : 0x400000000000 &&& W =
    0x400000000000) : Keeps W a ⟨x.pending, x.now, x.taken, x.regs, x.act, x.written, x.pow, x.regu, x.isl, x.pcie,
    x.bridge, x.ident, x.scc, x.mgt, x.esc, x.frameNo, x.frameAt, x.started, x.fresh, x.msgs, x.reply, x.ring, x.wire,
    x.place, x.commits, x.port, x.pipe, x.jobs, x.nextJob, x.tile, x.readmit, x.stops, x.twinWait, x.tallies, x.prod,
    x.canvas, x.fstore, x.larder, x.hoist, x.lane, x.fabric, x.mem, x.memPoison, x.tally, x.madc, x.spdm, attic⟩ :=
  ⟨h.pending, h.now, h.memForm, h.regsForm, h.actForm, h.taken, h.regs, h.act, h.written, h.pow, h.regu, h.isl,
    h.pcie, h.bridge, h.ident, h.scc, h.mgt, h.esc, h.frameNo, h.frameAt, h.started, h.fresh, h.msgs, h.reply, h.ring,
    h.wire, h.place, h.commits, h.port, h.pipe, h.jobs, h.nextJob, h.tile, h.readmit, h.stops, h.twinWait, h.tallies,
    h.prod, h.canvas, h.fstore, h.larder, h.hoist, h.lane, h.fabric, h.mem, h.memPoison, h.tally, h.madc, h.spdm, fun
    k => (part_clash hw rfl k).elim⟩

theorem keeps_of_pair {α : Type} {W : Nat} {a t : State} {p : α × State} {x : α} (e : p = (x, t)) (h : Keeps W a p.2) : Keeps W a t := by
  rw [e] at h; exact h

theorem keeps_of_pair_first {α : Type} {W : Nat} {a t : State} {p : State × α} {x : α} (e : p = (t, x)) (h : Keeps W a p.1) :
    Keeps W a t := by
  rw [e] at h; exact h

theorem keeps_of_triple {α β : Type} {W : Nat} {a t : State} {p : α × β × State} {x : α} {y : β} (e : p = (x, y, t))
    (h : Keeps W a p.2.2) : Keeps W a t := by
  rw [e] at h; exact h

theorem keeps_ite {c : Prop} [Decidable c] {W : Nat} {a s t : State} (h : Keeps W a s) (k : Keeps W a t) :
    Keeps W a (if c then s else t) := by
  split
  · exact h
  · exact k

theorem keeps_ite_second {α : Type} {c : Prop} [Decidable c] {W : Nat} {a : State} {p q : α × State} (h : Keeps W a p.2)
    (k : Keeps W a q.2) : Keeps W a (if c then p else q).2 := by
  split
  · exact h
  · exact k

theorem keeps_foldl_first {α β : Type} {W : Nat} {a : State} {f : State × β → α → State × β} {l : List α} {p : State × β}
    (h : Keeps W a p.1) (hf : ∀ (x : State × β) (y : α), Keeps W a x.1 → Keeps W a (f x y).1) :
    Keeps W a (l.foldl f p).1 := by
  induction l generalizing p with
  | nil => exact h
  | cons y l ih => exact ih (hf p y h)

theorem keeps_foldl_second {α β : Type} {W : Nat} {a : State} {f : β × State → α → β × State} {l : List α} {p : β × State}
    (h : Keeps W a p.2) (hf : ∀ (x : β × State) (y : α), Keeps W a x.2 → Keeps W a (f x y).2) :
    Keeps W a (l.foldl f p).2 := by
  induction l generalizing p with
  | nil => exact h
  | cons y l ih => exact ih (hf p y h)

theorem ksorted_foldl_kput {l m : KMap Word} (h : ksorted m = true) :
    ksorted (l.foldl (fun m x => kput x.1 x.2 m) m) = true := by
  induction l generalizing m with
  | nil => exact h
  | cons y l ih => exact ih (ksorted_kput h)

theorem keeps_foldl {α : Type} {W : Nat} {a : State} {f : State → α → State} {l : List α} {s : State} (h : Keeps W a s)
    (hf : ∀ (x : State) (y : α), Keeps W a x → Keeps W a (f x y)) : Keeps W a (l.foldl f s) := by
  induction l generalizing s with
  | nil => exact h
  | cons y l ih => exact ih (hf s y h)

theorem keeps_foldr {α : Type} {W : Nat} {a : State} {f : α → State → State} {l : List α} {s : State} (h : Keeps W a s)
    (hf : ∀ (y : α) (x : State), Keeps W a x → Keeps W a (f y x)) : Keeps W a (l.foldr f s) := by
  induction l with
  | nil => exact h
  | cons y l ih => exact hf y _ ih

/-- What a meaning keeps where it answers a next state. -/
def KeepsOut (W : Nat) (a : State) (o : Out) : Prop := ∀ t, o = .next t → Keeps W a t

theorem KeepsOut.next {W : Nat} {a t : State} (h : Keeps W a t) : KeepsOut W a (.next t) := by
  intro u e
  cases e
  exact h

end Sys2Proof.Machine
end

