-- ==== Sys2Proof/Laws/KeepsA.lean ====
section
/-!
SUPPORT. What each operation keeps, part 1 of 6: one lemma for each function that answers a state, after those that it
calls (State.setReg to endCanvas).
-/

namespace Sys2Proof.Machine

theorem keeps_State_setReg {W : Nat} {a₀ : State} (s : State) (off : Nat) (w : Word) (hw : 0x8 &&& W = 0x8) (hs :
    Keeps W a₀ s) :
    Keeps W a₀ (State.setReg s off w) := by
  unfold State.setReg
  try dsimp only
  with_reducible repeat' first
    | assumption | exact part_sub rfl hw | exact id | exact ksorted_kputD | intro _ | apply Keeps.set_regs

theorem keeps_State_setRn {W : Nat} {a₀ : State} (s : State) (off : Nat) (v : Nat) (hw : 0x8 &&& W = 0x8) (hs : Keeps
    W a₀ s) :
    Keeps W a₀ (State.setRn s off v) := by
  unfold State.setRn
  try dsimp only
  with_reducible repeat' first
    | assumption | exact part_sub rfl hw | apply keeps_State_setReg

theorem keeps_State_setF {W : Nat} {a₀ : State} (s : State) (f : Fld) (v : Nat) (hw : 0x8 &&& W = 0x8) (hs : Keeps W
    a₀ s) :
    Keeps W a₀ (State.setF s f v) := by
  unfold State.setF
  try dsimp only
  with_reducible repeat' first
    | assumption | exact part_sub rfl hw | apply keeps_State_setRn

theorem keeps_sendVector {W : Nat} {a₀ : State} (s : State) (v : Nat) (hw : 0x80208 &&& W = 0x80208) (hs : Keeps W a₀
    s) :
    Keeps W a₀ (sendVector s v) := by
  unfold sendVector
  try dsimp only
  with_reducible repeat' first
    | assumption | exact part_sub rfl hw | exact id | intro _ | apply keeps_State_setF | apply keeps_ite | split
    | apply Keeps.set_pcie | apply Keeps.set_msgs

theorem keeps_sendMsg {W : Nat} {a₀ : State} (s : State) (src : Nat) (hw : 0x80208 &&& W = 0x80208) (hs : Keeps W a₀
    s) :
    Keeps W a₀ (sendMsg s src) := by
  unfold sendMsg
  try dsimp only
  with_reducible repeat' first
    | assumption | exact part_sub rfl hw | apply keeps_sendVector

theorem keeps_irqEval {W : Nat} {a₀ : State} (s : State) (src : Nat) (hw : 0x80208 &&& W = 0x80208) (hs : Keeps W a₀
    s) :
    Keeps W a₀ (irqEval s src) := by
  unfold irqEval
  try dsimp only
  with_reducible repeat' first
    | assumption | exact part_sub rfl hw | apply keeps_State_setF | apply keeps_sendMsg | apply keeps_ite | split

theorem keeps_irqOff {W : Nat} {a₀ : State} (s : State) (off : Nat) (hw : 0x80208 &&& W = 0x80208) (hs : Keeps W a₀ s) :
    Keeps W a₀ (irqOff s off) := by
  unfold irqOff
  try dsimp only
  with_reducible repeat' first
    | assumption | exact part_sub rfl hw | apply keeps_irqEval | dsimp only | split

theorem keeps_State_ev {W : Nat} {a₀ : State} (s : State) (f : Fld) (hw : 0x80208 &&& W = 0x80208) (hs : Keeps W a₀ s) :
    Keeps W a₀ (State.ev s f) := by
  unfold State.ev
  try dsimp only
  with_reducible repeat' first
    | assumption | exact part_sub rfl hw | apply keeps_State_setF | apply keeps_irqOff

theorem keeps_updEnd {W : Nat} {a₀ : State} (s : State) (result : Nat) (hw : 0x400000080208 &&& W = 0x400000080208)
    (hs : Keeps W a₀ s) :
    Keeps W a₀ (updEnd s result) := by
  unfold updEnd
  try dsimp only
  with_reducible repeat' first
    | assumption | exact part_sub rfl hw | exact id | intro _ | apply keeps_State_ev | apply keeps_State_setF
    | apply Keeps.set_attic

theorem keeps_setUpd {W : Nat} {a₀ : State} (s : State) (u : AtticUpd) (hw : 0x400000000000 &&& W = 0x400000000000)
    (hs : Keeps W a₀ s) :
    Keeps W a₀ (setUpd s u) := by
  unfold setUpd
  try dsimp only
  with_reducible repeat' first
    | assumption | exact part_sub rfl hw | exact id | intro _ | apply Keeps.set_attic

theorem keeps_State_report {W : Nat} {a₀ : State} (s : State) (cls : Nat) (inst : Nat) (code : Nat) (detail : optParam
    Nat 0) (hw : 0x100 &&& W = 0x100) (hs : Keeps W a₀ s) :
    Keeps W a₀ (State.report s cls inst code detail) := by
  unfold State.report
  try dsimp only
  with_reducible repeat' first
    | assumption | exact part_sub rfl hw | exact id | intro _ | apply Keeps.set_isl

theorem keeps_updCtrl {W : Nat} {a₀ : State} (s : State) (v : Word) (hw : 0x400000080308 &&& W = 0x400000080308) (hs :
    Keeps W a₀ s) :
    Keeps W a₀ (updCtrl s v) := by
  unfold updCtrl
  try dsimp only
  with_reducible repeat' first
    | assumption | exact part_sub rfl hw | apply keeps_State_report | apply keeps_State_setF
    | apply keeps_State_setRn | apply keeps_setUpd | apply keeps_updEnd | apply keeps_ite | split

theorem keeps_hub {W : Nat} {a₀ : State} (s : State) (t : State) (hs : Keeps W a₀ s) (ht : Keeps W a₀ t) :
    Keeps W a₀ (hub s t) := by
  unfold hub
  try dsimp only
  with_reducible repeat' first
    | assumption | apply keeps_ite | split

theorem keeps_execAtticUpdateStart {W : Nat} {a₀ : State} (v : Word) (s : State) (hw : 0x400000080308 &&& W =
    0x400000080308) (hs : Keeps W a₀ s) :
    KeepsOut W a₀ (execAtticUpdateStart v s) := by
  unfold execAtticUpdateStart
  try dsimp only
  with_reducible apply KeepsOut.next
  with_reducible repeat' first
    | assumption | exact part_sub rfl hw | apply keeps_hub | apply keeps_updCtrl

theorem keeps_imageChecked {W : Nat} {a₀ : State} (s : State) (sigOk : Bool) (hw : 0x400000080308 &&& W =
    0x400000080308) (hs : Keeps W a₀ s) :
    Keeps W a₀ (imageChecked s sigOk) := by
  unfold imageChecked
  try dsimp only
  with_reducible repeat' first
    | assumption | exact part_sub rfl hw | apply keeps_State_report | apply keeps_setUpd | apply keeps_updEnd
    | apply keeps_ite | dsimp only | split

theorem keeps_execAtticImageChecked {W : Nat} {a₀ : State} (sigOk : Bool) (s : State) (hw : 0x400000080308 &&& W =
    0x400000080308) (hs : Keeps W a₀ s) :
    KeepsOut W a₀ (execAtticImageChecked sigOk s) := by
  unfold execAtticImageChecked
  try dsimp only
  with_reducible apply KeepsOut.next
  with_reducible repeat' first
    | assumption | exact part_sub rfl hw | apply keeps_hub | apply keeps_imageChecked

theorem keeps_atticErase {W : Nat} {a₀ : State} (s : State) (sector : Nat) (hw : 0x400000000000 &&& W =
    0x400000000000) (hs : Keeps W a₀ s) :
    Keeps W a₀ (atticErase s sector) := by
  unfold atticErase
  try dsimp only
  with_reducible repeat' first
    | assumption | exact part_sub rfl hw | exact id | exact ksorted_kfilter | intro _ | apply Keeps.set_attic

theorem keeps_setBank {W : Nat} {a₀ : State} (s : State) (part : Nat) (bank : Nat) (valid : Bool) (seq : Nat) (hw :
    0x8 &&& W = 0x8) (hs : Keeps W a₀ s) :
    Keeps W a₀ (setBank s part bank valid seq) := by
  unfold setBank
  try dsimp only
  with_reducible repeat' first
    | assumption | exact part_sub rfl hw | apply keeps_State_setF | apply keeps_State_setRn | apply keeps_ite | split

theorem keeps_sectorErased {W : Nat} {a₀ : State} (s : State) (hw : 0x400000000008 &&& W = 0x400000000008) (hs : Keeps
    W a₀ s) :
    Keeps W a₀ (sectorErased s) := by
  unfold sectorErased
  try dsimp only
  with_reducible repeat' first
    | assumption | exact part_sub rfl hw | apply keeps_atticErase | apply keeps_setBank | apply keeps_setUpd
    | apply keeps_ite | dsimp only | split

theorem keeps_execAtticSectorErased {W : Nat} {a₀ : State} (s : State) (hw : 0x400000000008 &&& W = 0x400000000008)
    (hs : Keeps W a₀ s) :
    KeepsOut W a₀ (execAtticSectorErased s) := by
  unfold execAtticSectorErased
  try dsimp only
  with_reducible apply KeepsOut.next
  with_reducible repeat' first
    | assumption | exact part_sub rfl hw | apply keeps_hub | apply keeps_sectorErased

theorem keeps_State_bump {W : Nat} {a₀ : State} (s : State) (f : Fld) (hw : 0x8 &&& W = 0x8) (hs : Keeps W a₀ s) :
    Keeps W a₀ (State.bump s f) := by
  unfold State.bump
  try dsimp only
  with_reducible repeat' first
    | assumption | exact part_sub rfl hw | apply keeps_State_setF

theorem keeps_atticProgram {W : Nat} {a₀ : State} (s : State) (a : Nat) (bs : List Byte) (hw : 0x400000000000 &&& W =
    0x400000000000) (hs : Keeps W a₀ s) :
    Keeps W a₀ (atticProgram s a bs) := by
  unfold atticProgram
  try dsimp only
  with_reducible repeat' first
    | assumption | exact part_sub rfl hw | exact id | intro _ | apply Keeps.set_attic

theorem keeps_configBank {W : Nat} {a₀ : State} (s : State) (hw : 0x8 &&& W = 0x8) (hs : Keeps W a₀ s) :
    Keeps W a₀ (configBank s) := by
  unfold configBank
  try dsimp only
  with_reducible repeat' first
    | assumption | exact part_sub rfl hw | apply keeps_State_setF | dsimp only | split

theorem keeps_pageProgrammed {W : Nat} {a₀ : State} (s : State) (hw : 0x400000080208 &&& W = 0x400000080208) (hs :
    Keeps W a₀ s) :
    Keeps W a₀ (pageProgrammed s) := by
  unfold pageProgrammed
  try dsimp only
  with_reducible repeat' first
    | assumption | exact part_sub rfl hw | apply keeps_State_bump | apply keeps_atticProgram | apply keeps_configBank
    | apply keeps_setBank | apply keeps_setUpd | apply keeps_updEnd | apply keeps_ite | dsimp only | split

theorem keeps_execAtticPageProgrammed {W : Nat} {a₀ : State} (s : State) (hw : 0x400000080208 &&& W = 0x400000080208)
    (hs : Keeps W a₀ s) :
    KeepsOut W a₀ (execAtticPageProgrammed s) := by
  unfold execAtticPageProgrammed
  try dsimp only
  with_reducible apply KeepsOut.next
  with_reducible repeat' first
    | assumption | exact part_sub rfl hw | apply keeps_hub | apply keeps_pageProgrammed

theorem keeps_readbackDone {W : Nat} {a₀ : State} (s : State) (held : Bool) (hw : 0x400000080308 &&& W =
    0x400000080308) (hs : Keeps W a₀ s) :
    Keeps W a₀ (readbackDone s held) := by
  unfold readbackDone
  try dsimp only
  with_reducible repeat' first
    | assumption | exact part_sub rfl hw | apply keeps_State_report | apply keeps_setUpd | apply keeps_updEnd
    | apply keeps_ite | dsimp only | split

theorem keeps_execAtticReadbackDone {W : Nat} {a₀ : State} (held : Bool) (s : State) (hw : 0x400000080308 &&& W =
    0x400000080308) (hs : Keeps W a₀ s) :
    KeepsOut W a₀ (execAtticReadbackDone held s) := by
  unfold execAtticReadbackDone
  try dsimp only
  with_reducible apply KeepsOut.next
  with_reducible repeat' first
    | assumption | exact part_sub rfl hw | apply keeps_hub | apply keeps_readbackDone

theorem keeps_readAddr {W : Nat} {a₀ : State} (s : State) (v : Word) (hw : 0x8 &&& W = 0x8) (hs : Keeps W a₀ s) :
    Keeps W a₀ (readAddr s v) := by
  unfold readAddr
  try dsimp only
  with_reducible repeat' first
    | assumption | exact part_sub rfl hw | intro _ | apply keeps_State_setF | apply keeps_State_setRn
    | apply keeps_foldl | apply keeps_foldl_first | dsimp only

theorem keeps_execReadAddr {W : Nat} {a₀ : State} (v : Word) (s : State) (hw : 0x8 &&& W = 0x8) (hs : Keeps W a₀ s) :
    KeepsOut W a₀ (execReadAddr v s) := by
  unfold execReadAddr
  try dsimp only
  with_reducible apply KeepsOut.next
  with_reducible repeat' first
    | assumption | exact part_sub rfl hw | apply keeps_hub | apply keeps_readAddr

theorem keeps_commitRec {W : Nat} {a₀ : State} (s : State) (r : LogRec) (hw : 0x400000000000 &&& W = 0x400000000000)
    (hs : Keeps W a₀ s) :
    Keeps W a₀ (commitRec s r) := by
  unfold commitRec
  try dsimp only
  with_reducible repeat' first
    | assumption | exact part_sub rfl hw | exact id | intro _ | apply keeps_atticErase | apply keeps_atticProgram
    | apply keeps_ite | split | apply Keeps.set_attic

theorem keeps_commitLog {W : Nat} {a₀ : State} (s : State) (hw : 0x400000000100 &&& W = 0x400000000100) (hs : Keeps W
    a₀ s) :
    Keeps W a₀ (commitLog s) := by
  unfold commitLog
  try dsimp only
  with_reducible repeat' first
    | assumption | exact part_sub rfl hw | exact id | intro _ | apply keeps_commitRec | apply keeps_foldl
    | apply keeps_foldl_first | dsimp only | apply Keeps.set_isl

theorem keeps_execLogCommit {W : Nat} {a₀ : State} (s : State) (hw : 0x400000000100 &&& W = 0x400000000100) (hs :
    Keeps W a₀ s) :
    KeepsOut W a₀ (execLogCommit s) := by
  unfold execLogCommit
  try dsimp only
  with_reducible apply KeepsOut.next
  with_reducible repeat' first
    | assumption | exact part_sub rfl hw | apply keeps_commitLog | apply keeps_ite | split

theorem keeps_scrubHit {W : Nat} {a₀ : State} (s : State) (h : ScrubHit) (hw : 0x40020080308 &&& W = 0x40020080308)
    (hs : Keeps W a₀ s) :
    Keeps W a₀ (scrubHit s h) := by
  unfold scrubHit
  try dsimp only
  with_reducible repeat' first
    | assumption | exact part_sub rfl hw | exact id | intro _ | apply keeps_State_bump | apply keeps_State_ev
    | apply keeps_State_report | apply keeps_ite | dsimp only | split | apply Keeps.set_tile
    | apply Keeps.set_memPoison

theorem keeps_execMemoryScrub {W : Nat} {a₀ : State} (found : List ScrubHit) (s : State) (hw : 0x40020080308 &&& W =
    0x40020080308) (hs : Keeps W a₀ s) :
    KeepsOut W a₀ (execMemoryScrub found s) := by
  unfold execMemoryScrub
  try dsimp only
  with_reducible apply KeepsOut.next
  with_reducible repeat' first
    | assumption | exact part_sub rfl hw | intro _ | apply keeps_hub | apply keeps_scrubHit | apply keeps_foldl
    | apply keeps_foldl_first | dsimp only

theorem keeps_bootEv {W : Nat} {a₀ : State} (s : State) (c : Bool) (t : State) (hs : Keeps W a₀ s) (ht : Keeps W a₀ t) :
    Keeps W a₀ (bootEv s c t) := by
  unfold bootEv
  try dsimp only
  with_reducible repeat' first
    | assumption | apply keeps_ite | split

theorem keeps_setBoot {W : Nat} {a₀ : State} (s : State) (f : BootDone → BootDone) (hw : 0x40 &&& W = 0x40) (hs :
    Keeps W a₀ s) :
    Keeps W a₀ (setBoot s f) := by
  unfold setBoot
  try dsimp only
  with_reducible repeat' first
    | assumption | exact part_sub rfl hw | exact id | intro _ | apply Keeps.set_pow

theorem keeps_bootStage {W : Nat} {a₀ : State} (s : State) (n : Nat) (hw : 0x8 &&& W = 0x8) (hs : Keeps W a₀ s) :
    Keeps W a₀ (bootStage s n) := by
  unfold bootStage
  try dsimp only
  with_reducible repeat' first
    | assumption | exact part_sub rfl hw | apply keeps_State_setF

theorem keeps_clocksLocked {W : Nat} {a₀ : State} (s : State) (hw : 0x48 &&& W = 0x48) (hs : Keeps W a₀ s) :
    Keeps W a₀ (clocksLocked s) := by
  unfold clocksLocked
  try dsimp only
  with_reducible repeat' first
    | assumption | exact part_sub rfl hw | exact id | intro _ | apply keeps_State_setF | apply keeps_setBoot
    | apply Keeps.set_pow

theorem keeps_execHubClocksLocked {W : Nat} {a₀ : State} (s : State) (hw : 0x48 &&& W = 0x48) (hs : Keeps W a₀ s) :
    KeepsOut W a₀ (execHubClocksLocked s) := by
  unfold execHubClocksLocked
  try dsimp only
  with_reducible apply KeepsOut.next
  with_reducible repeat' first
    | assumption | exact part_sub rfl hw | apply keeps_bootEv | apply keeps_clocksLocked

theorem keeps_railDomain {W : Nat} {a₀ : State} (s : State) (d : Nat) (k : Nat) (hw : 0x8 &&& W = 0x8) (hs : Keeps W
    a₀ s) :
    Keeps W a₀ (railDomain s d k) := by
  unfold railDomain
  try dsimp only
  with_reducible repeat' first
    | assumption | exact part_sub rfl hw | apply keeps_State_setF | apply keeps_ite | split

theorem keeps_railsRecorded {W : Nat} {a₀ : State} (s : State) (sportCal : Nat) (laneCal : Nat) (pcieCal : Bool) (fref
    : Bool) (hw : 0x48 &&& W = 0x48) (hs : Keeps W a₀ s) :
    Keeps W a₀ (railsRecorded s sportCal laneCal pcieCal fref) := by
  unfold railsRecorded
  try dsimp only
  with_reducible repeat' first
    | assumption | exact part_sub rfl hw | intro _ | apply keeps_State_setF | apply keeps_bootStage
    | apply keeps_railDomain | apply keeps_setBoot | apply keeps_ite | apply keeps_foldl | apply keeps_foldl_first
    | dsimp only | split

theorem keeps_execOptionalRailsRecorded {W : Nat} {a₀ : State} (sportCal : Nat) (laneCal : Nat) (pcieCal : Bool) (fref
    : Bool) (s : State) (hw : 0x48 &&& W = 0x48) (hs : Keeps W a₀ s) :
    KeepsOut W a₀ (execOptionalRailsRecorded sportCal laneCal pcieCal fref s) := by
  unfold execOptionalRailsRecorded
  try dsimp only
  with_reducible apply KeepsOut.next
  with_reducible repeat' first
    | assumption | exact part_sub rfl hw | apply keeps_bootEv | apply keeps_railsRecorded

theorem keeps_bankFound {W : Nat} {a₀ : State} (s : State) (part : Nat) (i : Nat) (b : BankFound) (hw : 0x80308 &&& W
    = 0x80308) (hs : Keeps W a₀ s) :
    Keeps W a₀ (bankFound s part i b) := by
  unfold bankFound
  try dsimp only
  with_reducible repeat' first
    | assumption | exact part_sub rfl hw | apply keeps_State_ev | apply keeps_State_report | apply keeps_setBank
    | apply keeps_ite | split

theorem keeps_seqAmbiguous {W : Nat} {a₀ : State} (s : State) (b0 : BankFound) (b1 : BankFound) (hw : 0x80308 &&& W =
    0x80308) (hs : Keeps W a₀ s) :
    Keeps W a₀ (seqAmbiguous s b0 b1) := by
  unfold seqAmbiguous
  try dsimp only
  with_reducible repeat' first
    | assumption | exact part_sub rfl hw | apply keeps_State_ev | apply keeps_State_report | apply keeps_ite | split

theorem keeps_State_resetRegs {W : Nat} {a₀ : State} (s : State) (lo : Nat) (hi : Nat) (hw : 0x8 &&& W = 0x8) (hs :
    Keeps W a₀ s) :
    Keeps W a₀ (State.resetRegs s lo hi) := by
  unfold State.resetRegs
  try dsimp only
  with_reducible repeat' first
    | assumption | exact part_sub rfl hw | exact id | exact ksorted_kfilter | intro _ | apply Keeps.set_regs

theorem keeps_bridgeHostReset {W : Nat} {a₀ : State} (s : State) (hw : 0x408 &&& W = 0x408) (hs : Keeps W a₀ s) :
    Keeps W a₀ (bridgeHostReset s) := by
  unfold bridgeHostReset
  try dsimp only
  with_reducible repeat' first
    | assumption | exact part_sub rfl hw | exact id | intro _ | apply keeps_State_resetRegs | apply keeps_State_setRn
    | apply Keeps.set_bridge

theorem keeps_setFabPort {W : Nat} {a₀ : State} (s : State) (k : Nat) (x : FabPort) (hw : 0x10000000000 &&& W =
    0x10000000000) (hs : Keeps W a₀ s) :
    Keeps W a₀ (setFabPort s k x) := by
  unfold setFabPort
  try dsimp only
  with_reducible repeat' first
    | assumption | exact part_sub rfl hw | exact id | exact ksorted_kputD | intro _ | apply Keeps.set_fabric

theorem keeps_pump {W : Nat} {a₀ : State} (x0 : Nat) (x1 : State) (x2 : Nat) (hw : 0x10000000000 &&& W =
    0x10000000000) (hx1 : Keeps W a₀ x1) :
    Keeps W a₀ (pump x0 x1 x2) := by
  induction x0 generalizing x1 x2 with
  | zero =>
    unfold pump
    with_reducible assumption
  | succ n ih =>
    unfold pump
    try dsimp only
    with_reducible repeat' first
      | assumption | exact part_sub rfl hw | exact id | intro _ | apply ih | apply keeps_setFabPort | apply keeps_ite
      | dsimp only | split | apply Keeps.set_fabric

theorem keeps_pumpPort {W : Nat} {a₀ : State} (s : State) (k : Nat) (hw : 0x10000000000 &&& W = 0x10000000000) (hs :
    Keeps W a₀ s) :
    Keeps W a₀ (pumpPort s k) := by
  unfold pumpPort
  try dsimp only
  with_reducible repeat' first
    | assumption | exact part_sub rfl hw | apply keeps_pump

theorem keeps_updFabPort {W : Nat} {a₀ : State} (s : State) (k : Nat) (g : FabPort → FabPort) (hw : 0x10000000000 &&&
    W = 0x10000000000) (hs : Keeps W a₀ s) :
    Keeps W a₀ (updFabPort s k g) := by
  unfold updFabPort
  try dsimp only
  with_reducible repeat' first
    | assumption | exact part_sub rfl hw | apply keeps_setFabPort

theorem keeps_portSend {W : Nat} {a₀ : State} (s : State) (k : Nat) (m : FabMsg) (hw : 0x10000000000 &&& W =
    0x10000000000) (hs : Keeps W a₀ s) :
    Keeps W a₀ (portSend s k m) := by
  unfold portSend
  try dsimp only
  with_reducible repeat' first
    | assumption | exact part_sub rfl hw | apply keeps_pumpPort | apply keeps_updFabPort

theorem keeps_fabAnswer {W : Nat} {a₀ : State} (s : State) (q : FabPacket) (status : Nat) (data : List Byte) (poison :
    Bool) (hw : 0x10000000000 &&& W = 0x10000000000) (hs : Keeps W a₀ s) :
    Keeps W a₀ (fabAnswer s q status data poison) := by
  unfold fabAnswer
  try dsimp only
  with_reducible repeat' first
    | assumption | exact part_sub rfl hw | apply keeps_portSend | apply keeps_ite | dsimp only | split

theorem keeps_winCount {W : Nat} {a₀ : State} (s : State) (w : Nat) (hw : 0x8 &&& W = 0x8) (hs : Keeps W a₀ s) :
    Keeps W a₀ (winCount s w) := by
  unfold winCount
  try dsimp only
  with_reducible repeat' first
    | assumption | exact part_sub rfl hw | apply keeps_State_setF

theorem keeps_inboundDone {W : Nat} {a₀ : State} (s : State) (key : Nat) (bytes : Option (List Byte)) (poison : Bool)
    (hw : 0x10000000008 &&& W = 0x10000000008) (hs : Keeps W a₀ s) :
    Keeps W a₀ (inboundDone s key bytes poison) := by
  unfold inboundDone
  try dsimp only
  with_reducible repeat' first
    | assumption | exact part_sub rfl hw | exact id | intro _ | apply keeps_fabAnswer | apply keeps_winCount
    | dsimp only | split | apply Keeps.set_fabric

theorem keeps_failInbound {W : Nat} {a₀ : State} (s : State) (hw : 0x10000000008 &&& W = 0x10000000008) (hs : Keeps W
    a₀ s) :
    Keeps W a₀ (failInbound s) := by
  unfold failInbound
  try dsimp only
  with_reducible repeat' first
    | assumption | exact part_sub rfl hw | intro _ | apply keeps_inboundDone | apply keeps_foldl
    | apply keeps_foldl_first | dsimp only | split

theorem keeps_countTags {W : Nat} {a₀ : State} (s : State) (c : Nat) (hw : 0x8 &&& W = 0x8) (hs : Keeps W a₀ s) :
    Keeps W a₀ (countTags s c) := by
  unfold countTags
  try dsimp only
  with_reducible repeat' first
    | assumption | exact part_sub rfl hw | apply keeps_State_setF | apply keeps_ite | split

theorem keeps_dropRead {W : Nat} {a₀ : State} (s : State) (k : Nat) (hw : 0x200 &&& W = 0x200) (hs : Keeps W a₀ s) :
    Keeps W a₀ (dropRead s k) := by
  unfold dropRead
  try dsimp only
  with_reducible repeat' first
    | assumption | exact part_sub rfl hw | exact id | intro _ | apply Keeps.set_pcie

theorem keeps_takeDone {W : Nat} {a₀ : State} (s : State) (tag : Nat) (hw : 0x10000000000 &&& W = 0x10000000000) (hs :
    Keeps W a₀ s) :
    Keeps W a₀ (takeDone s tag) := by
  unfold takeDone
  try dsimp only
  with_reducible repeat' first
    | assumption | exact part_sub rfl hw | exact id | intro _ | apply Keeps.set_fabric

theorem keeps_setHchan {W : Nat} {a₀ : State} (s : State) (c : Nat) (x : HChan) (hw : 0x4000000000 &&& W =
    0x4000000000) (hs : Keeps W a₀ s) :
    Keeps W a₀ (setHchan s c x) := by
  unfold setHchan
  try dsimp only
  with_reducible repeat' first
    | assumption | exact part_sub rfl hw | exact id | exact ksorted_kputD | intro _ | apply Keeps.set_hoist

theorem keeps_updHchan {W : Nat} {a₀ : State} (s : State) (c : Nat) (g : HChan → HChan) (hw : 0x4000000000 &&& W =
    0x4000000000) (hs : Keeps W a₀ s) :
    Keeps W a₀ (updHchan s c g) := by
  unfold updHchan
  try dsimp only
  with_reducible repeat' first
    | assumption | exact part_sub rfl hw | apply keeps_setHchan

theorem keeps_freeOp {W : Nat} {a₀ : State} (s : State) (c : Nat) (o : HoistOp) (hw : 0x14000000208 &&& W =
    0x14000000208) (hs : Keeps W a₀ s) :
    Keeps W a₀ (freeOp s c o) := by
  unfold freeOp
  try dsimp only
  with_reducible repeat' first
    | assumption | exact part_sub rfl hw | apply keeps_countTags | apply keeps_dropRead | apply keeps_takeDone
    | apply keeps_updHchan | apply keeps_ite | split

theorem keeps_State_setPair {W : Nat} {a₀ : State} (s : State) (lo : Nat) (hi : Nat) (v : Nat) (hw : 0x8 &&& W = 0x8)
    (hs : Keeps W a₀ s) :
    Keeps W a₀ (State.setPair s lo hi v) := by
  unfold State.setPair
  try dsimp only
  with_reducible repeat' first
    | assumption | exact part_sub rfl hw | apply keeps_State_setRn

theorem keeps_setHState {W : Nat} {a₀ : State} (s : State) (c : Nat) (st : Nat) (hw : 0x8 &&& W = 0x8) (hs : Keeps W
    a₀ s) :
    Keeps W a₀ (setHState s c st) := by
  unfold setHState
  try dsimp only
  with_reducible repeat' first
    | assumption | exact part_sub rfl hw | apply keeps_State_setF

theorem keeps_setHalted {W : Nat} {a₀ : State} (s : State) (c : Nat) (b : Bool) (hw : 0x8 &&& W = 0x8) (hs : Keeps W
    a₀ s) :
    Keeps W a₀ (setHalted s c b) := by
  unfold setHalted
  try dsimp only
  with_reducible repeat' first
    | assumption | exact part_sub rfl hw | apply keeps_State_setF

theorem keeps_setPipe {W : Nat} {a₀ : State} (s : State) (p : Nat) (x : Pipe) (hw : 0x4000000 &&& W = 0x4000000) (hs :
    Keeps W a₀ s) :
    Keeps W a₀ (setPipe s p x) := by
  unfold setPipe
  try dsimp only
  with_reducible repeat' first
    | assumption | exact part_sub rfl hw | exact id | intro _ | apply Keeps.set_pipe

theorem keeps_updPipe {W : Nat} {a₀ : State} (s : State) (p : Nat) (g : Pipe → Pipe) (hw : 0x4000000 &&& W =
    0x4000000) (hs : Keeps W a₀ s) :
    Keeps W a₀ (updPipe s p g) := by
  unfold updPipe
  try dsimp only
  with_reducible repeat' first
    | assumption | exact part_sub rfl hw | apply keeps_setPipe

theorem keeps_stopLater {W : Nat} {a₀ : State} (s : State) (st : Nat) (code : Nat) (hw : 0x84000000 &&& W =
    0x84000000) (hs : Keeps W a₀ s) :
    Keeps W a₀ (stopLater s st code) := by
  unfold stopLater
  try dsimp only
  with_reducible repeat' first
    | assumption | exact part_sub rfl hw | exact id | intro _ | apply keeps_updPipe | apply keeps_ite | split
    | apply Keeps.set_stops

theorem keeps_takeFree {W : Nat} {a₀ : State} (s : State) (hw : 0x4 &&& W = 0x4) (hs : Keeps W a₀ s) :
    Keeps W a₀ (takeFree s).2 := by
  unfold takeFree
  try dsimp only
  with_reducible repeat' first
    | assumption | exact part_sub rfl hw | exact id | intro _ | apply Keeps.set_taken

theorem keeps_haltChan {W : Nat} {a₀ : State} (s : State) (c : Nat) (code : Nat) (space : Nat) (addr : Nat) (attempts
    : Nat) (hw : 0x408408030c &&& W = 0x408408030c) (hs : Keeps W a₀ s) :
    Keeps W a₀ (haltChan s c code space addr attempts) := by
  unfold haltChan
  try dsimp only
  with_reducible repeat' first
    | assumption | exact part_sub rfl hw | apply keeps_State_ev | apply keeps_State_report
    | apply keeps_State_setPair | apply keeps_State_setRn | apply keeps_setHState | apply keeps_setHalted
    | apply keeps_stopLater | apply keeps_takeFree | apply keeps_updHchan | apply keeps_ite
    | refine keeps_of_pair (by assumption) ?_ | refine keeps_of_pair_first (by assumption) ?_
    | refine keeps_of_triple (by assumption) ?_ | dsimp only | split

theorem keeps_hoistHostReset {W : Nat} {a₀ : State} (s : State) (hw : 0x1408408030c &&& W = 0x1408408030c) (hs : Keeps
    W a₀ s) :
    Keeps W a₀ (hoistHostReset s) := by
  unfold hoistHostReset
  try dsimp only
  with_reducible repeat' first
    | assumption | exact part_sub rfl hw | exact id | intro _ | apply keeps_freeOp | apply keeps_haltChan
    | apply keeps_ite | apply keeps_foldl | apply keeps_foldl_first | dsimp only | split | apply Keeps.set_hoist

theorem keeps_hostScope {W : Nat} {a₀ : State} (s : State) (linkStays : Bool) (hw : 0x21408428070c &&& W =
    0x21408428070c) (hs : Keeps W a₀ s) :
    Keeps W a₀ (hostScope s linkStays) := by
  unfold hostScope
  try dsimp only
  with_reducible repeat' first
    | assumption | exact part_sub rfl hw | exact id | intro _ | apply keeps_State_ev | apply keeps_State_report
    | apply keeps_State_resetRegs | apply keeps_State_setF | apply keeps_State_setRn | apply keeps_bridgeHostReset
    | apply keeps_failInbound | apply keeps_hoistHostReset | apply keeps_ite | split | apply Keeps.set_pcie_ring_spdm

theorem keeps_logRec {W : Nat} {a₀ : State} (s : State) (code : Nat) (kind : Nat) (detail : Nat) (hw : 0x108 &&& W =
    0x108) (hs : Keeps W a₀ s) :
    Keeps W a₀ (logRec s code kind detail) := by
  unfold logRec
  try dsimp only
  with_reducible repeat' first
    | assumption | exact part_sub rfl hw | exact id | intro _ | apply keeps_State_setF | apply keeps_ite | dsimp only
    | split | apply Keeps.set_isl

theorem keeps_resetCause {W : Nat} {a₀ : State} (s : State) (f : Fld) (hw : 0x8 &&& W = 0x8) (hs : Keeps W a₀ s) :
    Keeps W a₀ (resetCause s f) := by
  unfold resetCause
  try dsimp only
  with_reducible repeat' first
    | assumption | exact part_sub rfl hw | apply keeps_State_setF

theorem keeps_bootFail {W : Nat} {a₀ : State} (s : State) (code : Nat) (hw : 0x61408428074c &&& W = 0x61408428074c)
    (hs : Keeps W a₀ s) :
    Keeps W a₀ (bootFail s code) := by
  unfold bootFail
  try dsimp only
  with_reducible repeat' first
    | assumption | exact part_sub rfl hw | exact id | intro _ | apply keeps_State_setF | apply keeps_State_setRn
    | apply keeps_commitLog | apply keeps_hostScope | apply keeps_logRec | apply keeps_resetCause | apply keeps_ite
    | split | apply Keeps.set_pow | apply Keeps.set_isl | apply Keeps.set_pow_isl

theorem keeps_bankChosen {W : Nat} {a₀ : State} (s : State) (b0 : BankFound) (b1 : BankFound) (hw : 0x61408428074c &&&
    W = 0x61408428074c) (hs : Keeps W a₀ s) :
    Keeps W a₀ (bankChosen s b0 b1) := by
  unfold bankChosen
  try dsimp only
  with_reducible repeat' first
    | assumption | exact part_sub rfl hw | apply keeps_State_setF | apply keeps_bankFound | apply keeps_bootFail
    | apply keeps_seqAmbiguous | apply keeps_setBoot | apply keeps_ite | dsimp only | split

theorem keeps_execAtticBankChosen {W : Nat} {a₀ : State} (b0 : BankFound) (b1 : BankFound) (s : State) (hw :
    0x61408428074c &&& W = 0x61408428074c) (hs : Keeps W a₀ s) :
    KeepsOut W a₀ (execAtticBankChosen b0 b1 s) := by
  unfold execAtticBankChosen
  try dsimp only
  with_reducible apply KeepsOut.next
  with_reducible repeat' first
    | assumption | exact part_sub rfl hw | apply keeps_bankChosen | apply keeps_bootEv

theorem keeps_State_reportIf {W : Nat} {a₀ : State} (s : State) (c : Bool) (cls : Nat) (inst : Nat) (code : Nat)
    (detail : optParam Nat 0) (hw : 0x100 &&& W = 0x100) (hs : Keeps W a₀ s) :
    Keeps W a₀ (State.reportIf s c cls inst code detail) := by
  unfold State.reportIf
  try dsimp only
  with_reducible repeat' first
    | assumption | exact part_sub rfl hw | apply keeps_State_report | apply keeps_ite | split

theorem keeps_identityFound {W : Nat} {a₀ : State} (s : State) (idA : Bool) (idB : Bool) (keyOk : Bool) (hw : 0x80308
    &&& W = 0x80308) (hs : Keeps W a₀ s) :
    Keeps W a₀ (identityFound s idA idB keyOk) := by
  unfold identityFound
  try dsimp only
  with_reducible repeat' first
    | assumption | exact part_sub rfl hw | apply keeps_State_ev | apply keeps_State_report
    | apply keeps_State_reportIf | apply keeps_State_setF | apply keeps_ite | split

theorem keeps_configFound {W : Nat} {a₀ : State} (s : State) (c0 : BankFound) (c1 : BankFound) (hw : 0x80308 &&& W =
    0x80308) (hs : Keeps W a₀ s) :
    Keeps W a₀ (configFound s c0 c1) := by
  unfold configFound
  try dsimp only
  with_reducible repeat' first
    | assumption | exact part_sub rfl hw | apply keeps_State_reportIf | apply keeps_bankFound
    | apply keeps_configBank | apply keeps_seqAmbiguous

theorem keeps_logFound {W : Nat} {a₀ : State} (s : State) (lastBoot : Nat) (lastSeq : Nat) (held : Nat) (newestCode :
    Nat) (hw : 0x108 &&& W = 0x108) (hs : Keeps W a₀ s) :
    Keeps W a₀ (logFound s lastBoot lastSeq held newestCode) := by
  unfold logFound
  try dsimp only
  with_reducible repeat' first
    | assumption | exact part_sub rfl hw | exact id | intro _ | apply keeps_State_setF | apply keeps_resetCause
    | apply keeps_ite | dsimp only | split | apply Keeps.set_isl

theorem keeps_fixedEntries {W : Nat} {a₀ : State} (s : State) (hw : 0xc &&& W = 0xc) (hs : Keeps W a₀ s) :
    Keeps W a₀ (fixedEntries s) := by
  unfold fixedEntries
  try dsimp only
  with_reducible repeat' first
    | assumption | exact part_sub rfl hw | intro _ | apply keeps_State_setRn | apply keeps_takeFree
    | refine keeps_of_pair (by assumption) ?_ | refine keeps_of_pair_first (by assumption) ?_
    | refine keeps_of_triple (by assumption) ?_ | apply keeps_foldl | apply keeps_foldl_first | dsimp only | split

theorem keeps_bootDigests {W : Nat} {a₀ : State} (s : State) (hw : 0x804 &&& W = 0x804) (hs : Keeps W a₀ s) :
    Keeps W a₀ (bootDigests s) := by
  unfold bootDigests
  try dsimp only
  with_reducible repeat' first
    | assumption | exact part_sub rfl hw | exact id | intro _ | apply keeps_takeFree
    | refine keeps_of_pair (by assumption) ?_ | refine keeps_of_pair_first (by assumption) ?_
    | refine keeps_of_triple (by assumption) ?_ | dsimp only | split | apply Keeps.set_ident

theorem keeps_islandRunning {W : Nat} {a₀ : State} (s : State) (c0 : BankFound) (c1 : BankFound) (idA : Bool) (idB :
    Bool) (keyOk : Bool) (lastBoot : Nat) (lastSeq : Nat) (held : Nat) (newestCode : Nat) (challenge : Nat) (hw :
    0x80b4c &&& W = 0x80b4c) (hs : Keeps W a₀ s) :
    Keeps W a₀ (islandRunning s c0 c1 idA idB keyOk lastBoot lastSeq held newestCode challenge) := by
  unfold islandRunning
  try dsimp only
  with_reducible repeat' first
    | assumption | exact part_sub rfl hw | apply keeps_State_setPair | apply keeps_bootDigests
    | apply keeps_bootStage | apply keeps_configFound | apply keeps_fixedEntries | apply keeps_identityFound
    | apply keeps_logFound | apply keeps_setBoot

theorem keeps_execIslandFirmwareRunning {W : Nat} {a₀ : State} (cfg0 : BankFound) (cfg1 : BankFound) (idA : Bool) (idB
    : Bool) (keyOk : Bool) (lastBoot : Nat) (lastSeq : Nat) (held : Nat) (newestCode : Nat) (challenge : Nat) (s :
    State) (hw : 0x80b4c &&& W = 0x80b4c) (hs : Keeps W a₀ s) :
    KeepsOut W a₀ (execIslandFirmwareRunning cfg0 cfg1 idA idB keyOk lastBoot lastSeq held newestCode challenge s) := by
  unfold execIslandFirmwareRunning
  try dsimp only
  with_reducible apply KeepsOut.next
  with_reducible repeat' first
    | assumption | exact part_sub rfl hw | apply keeps_bootEv | apply keeps_islandRunning

theorem keeps_setConv {W : Nat} {a₀ : State} (s : State) (c : Nat) (x : Conv) (hw : 0x100000000000 &&& W =
    0x100000000000) (hs : Keeps W a₀ s) :
    Keeps W a₀ (setConv s c x) := by
  unfold setConv
  try dsimp only
  with_reducible repeat' first
    | assumption | exact part_sub rfl hw | exact id | exact ksorted_kputD | intro _ | apply Keeps.set_madc

theorem keeps_updConv {W : Nat} {a₀ : State} (s : State) (c : Nat) (g : Conv → Conv) (hw : 0x100000000000 &&& W =
    0x100000000000) (hs : Keeps W a₀ s) :
    Keeps W a₀ (updConv s c g) := by
  unfold updConv
  try dsimp only
  with_reducible repeat' first
    | assumption | exact part_sub rfl hw | apply keeps_setConv

theorem keeps_calBegin {W : Nat} {a₀ : State} (s : State) (c : Nat) (hw : 0x100000000008 &&& W = 0x100000000008) (hs :
    Keeps W a₀ s) :
    Keeps W a₀ (calBegin s c) := by
  unfold calBegin
  try dsimp only
  with_reducible repeat' first
    | assumption | exact part_sub rfl hw | apply keeps_State_setF | apply keeps_updConv

theorem keeps_startupTest {W : Nat} {a₀ : State} (s : State) (ok : Bool) (hw : 0x71408428074c &&& W = 0x71408428074c)
    (hs : Keeps W a₀ s) :
    Keeps W a₀ (startupTest s ok) := by
  unfold startupTest
  try dsimp only
  with_reducible repeat' first
    | assumption | exact part_sub rfl hw | apply keeps_State_setF | apply keeps_bootFail | apply keeps_bootStage
    | apply keeps_calBegin | apply keeps_setBoot | apply keeps_ite | split

theorem keeps_execStartupTestPassed {W : Nat} {a₀ : State} (ok : Bool) (s : State) (hw : 0x71408428074c &&& W =
    0x71408428074c) (hs : Keeps W a₀ s) :
    KeepsOut W a₀ (execStartupTestPassed ok s) := by
  unfold execStartupTestPassed
  try dsimp only
  with_reducible apply KeepsOut.next
  with_reducible repeat' first
    | assumption | exact part_sub rfl hw | apply keeps_bootEv | apply keeps_startupTest

theorem keeps_clearValid {W : Nat} {a₀ : State} (s : State) (c : Nat) (hw : 0x8 &&& W = 0x8) (hs : Keeps W a₀ s) :
    Keeps W a₀ (clearValid s c) := by
  unfold clearValid
  try dsimp only
  with_reducible repeat' first
    | assumption | exact part_sub rfl hw | intro _ | apply keeps_State_setF | apply keeps_foldl
    | apply keeps_foldl_first | dsimp only

theorem keeps_passStart {W : Nat} {a₀ : State} (s : State) (c : Nat) (t : Nat) (hw : 0x100000000000 &&& W =
    0x100000000000) (hs : Keeps W a₀ s) :
    Keeps W a₀ (passStart s c t) := by
  unfold passStart
  try dsimp only
  with_reducible repeat' first
    | assumption | exact part_sub rfl hw | apply keeps_setConv | apply keeps_ite | split

theorem keeps_passBegin {W : Nat} {a₀ : State} (s : State) (c : Nat) (t : Nat) (hw : 0x100000000000 &&& W =
    0x100000000000) (hs : Keeps W a₀ s) :
    Keeps W a₀ (passBegin s c t) := by
  unfold passBegin
  try dsimp only
  with_reducible repeat' first
    | assumption | exact part_sub rfl hw | apply keeps_passStart | apply keeps_ite | split

theorem keeps_calEnded {W : Nat} {a₀ : State} (s : State) (c : Nat) (r : CalResult) (hw : 0x100000080308 &&& W =
    0x100000080308) (hs : Keeps W a₀ s) :
    Keeps W a₀ (calEnded s c r) := by
  unfold calEnded
  try dsimp only
  with_reducible repeat' first
    | assumption | exact part_sub rfl hw | apply keeps_State_ev | apply keeps_State_report | apply keeps_State_setF
    | apply keeps_clearValid | apply keeps_passBegin | apply keeps_updConv | apply keeps_ite | split

theorem keeps_convertersCal {W : Nat} {a₀ : State} (s : State) (a : CalResult) (b : CalResult) (aon : CalResult) (hw :
    0x71408428074c &&& W = 0x71408428074c) (hs : Keeps W a₀ s) :
    Keeps W a₀ (convertersCal s a b aon) := by
  unfold convertersCal
  try dsimp only
  with_reducible repeat' first
    | assumption | exact part_sub rfl hw | apply keeps_bootFail | apply keeps_calEnded | apply keeps_setBoot
    | apply keeps_takeFree | apply keeps_ite | refine keeps_of_pair (by assumption) ?_
    | refine keeps_of_pair_first (by assumption) ?_ | refine keeps_of_triple (by assumption) ?_ | dsimp only | split

theorem keeps_execConvertersCalibrated {W : Nat} {a₀ : State} (a : CalResult) (b : CalResult) (aon : CalResult) (s :
    State) (hw : 0x71408428074c &&& W = 0x71408428074c) (hs : Keeps W a₀ s) :
    KeepsOut W a₀ (execConvertersCalibrated a b aon s) := by
  unfold execConvertersCalibrated
  try dsimp only
  with_reducible apply KeepsOut.next
  with_reducible repeat' first
    | assumption | exact part_sub rfl hw | apply keeps_bootEv | apply keeps_convertersCal

theorem keeps_pcieReady {W : Nat} {a₀ : State} (s : State) (hw : 0x48 &&& W = 0x48) (hs : Keeps W a₀ s) :
    Keeps W a₀ (pcieReady s) := by
  unfold pcieReady
  try dsimp only
  with_reducible repeat' first
    | assumption | exact part_sub rfl hw | apply keeps_State_setF | apply keeps_setBoot | apply keeps_ite | split

theorem keeps_execPcieControllerReady {W : Nat} {a₀ : State} (s : State) (hw : 0x48 &&& W = 0x48) (hs : Keeps W a₀ s) :
    KeepsOut W a₀ (execPcieControllerReady s) := by
  unfold execPcieControllerReady
  try dsimp only
  with_reducible apply KeepsOut.next
  with_reducible repeat' first
    | assumption | exact part_sub rfl hw | apply keeps_bootEv | apply keeps_pcieReady

theorem keeps_larderPool {W : Nat} {a₀ : State} (s : State) (hubOk : Bool) (stuck : List Nat) (hw : 0x61608428074c &&&
    W = 0x61608428074c) (hs : Keeps W a₀ s) :
    Keeps W a₀ (larderPool s hubOk stuck) := by
  unfold larderPool
  try dsimp only
  with_reducible repeat' first
    | assumption | exact part_sub rfl hw | exact id | intro _ | apply keeps_State_setF | apply keeps_bootFail
    | apply keeps_setBoot | apply keeps_ite | split | apply Keeps.set_larder

theorem keeps_execLarderPoolInitialised {W : Nat} {a₀ : State} (hubOk : Bool) (stuck : List Nat) (s : State) (hw :
    0x61608428074c &&& W = 0x61608428074c) (hs : Keeps W a₀ s) :
    KeepsOut W a₀ (execLarderPoolInitialised hubOk stuck s) := by
  unfold execLarderPoolInitialised
  try dsimp only
  with_reducible apply KeepsOut.next
  with_reducible repeat' first
    | assumption | exact part_sub rfl hw | apply keeps_bootEv | apply keeps_larderPool

theorem keeps_stacksTrained {W : Nat} {a₀ : State} (s : State) (ok0 : Bool) (ok1 : Bool) (hw : 0x48 &&& W = 0x48) (hs
    : Keeps W a₀ s) :
    Keeps W a₀ (stacksTrained s ok0 ok1) := by
  unfold stacksTrained
  try dsimp only
  with_reducible repeat' first
    | assumption | exact part_sub rfl hw | apply keeps_State_setF | apply keeps_setBoot | apply keeps_ite | split

theorem keeps_execLp5xStacksTrained {W : Nat} {a₀ : State} (ok0 : Bool) (ok1 : Bool) (s : State) (hw : 0x48 &&& W =
    0x48) (hs : Keeps W a₀ s) :
    KeepsOut W a₀ (execLp5xStacksTrained ok0 ok1 s) := by
  unfold execLp5xStacksTrained
  try dsimp only
  with_reducible apply KeepsOut.next
  with_reducible repeat' first
    | assumption | exact part_sub rfl hw | apply keeps_bootEv | apply keeps_stacksTrained

theorem keeps_tilePowered {W : Nat} {a₀ : State} (s : State) (hw : 0x100000000048 &&& W = 0x100000000048) (hs : Keeps
    W a₀ s) :
    Keeps W a₀ (tilePowered s) := by
  unfold tilePowered
  try dsimp only
  with_reducible repeat' first
    | assumption | exact part_sub rfl hw | apply keeps_State_setF | apply keeps_bootStage | apply keeps_calBegin
    | apply keeps_setBoot | dsimp only | split

theorem keeps_execTilePowered {W : Nat} {a₀ : State} (s : State) (hw : 0x100000000048 &&& W = 0x100000000048) (hs :
    Keeps W a₀ s) :
    KeepsOut W a₀ (execTilePowered s) := by
  unfold execTilePowered
  try dsimp only
  with_reducible apply KeepsOut.next
  with_reducible repeat' first
    | assumption | exact part_sub rfl hw | apply keeps_bootEv | apply keeps_tilePowered

theorem keeps_domDrain {W : Nat} {a₀ : State} (s : State) (d : Nat) (target : Nat) (hw : 0x48 &&& W = 0x48) (hs :
    Keeps W a₀ s) :
    Keeps W a₀ (domDrain s d target) := by
  unfold domDrain
  try dsimp only
  with_reducible repeat' first
    | assumption | exact part_sub rfl hw | exact id | intro _ | apply keeps_State_setF | apply Keeps.set_pow

theorem keeps_tileTest {W : Nat} {a₀ : State} (s : State) (n : Nat) (failed : List Nat) (dispatcherOk : Bool) (shelfOk
    : Bool) (tadc : CalResult) (hw : 0x100000080348 &&& W = 0x100000080348) (hs : Keeps W a₀ s) :
    Keeps W a₀ (tileTest s n failed dispatcherOk shelfOk tadc) := by
  unfold tileTest
  try dsimp only
  with_reducible repeat' first
    | assumption | exact part_sub rfl hw | intro _ | apply keeps_State_setF | apply keeps_calEnded
    | apply keeps_domDrain | apply keeps_setBoot | apply keeps_ite | apply keeps_foldl | apply keeps_foldl_first
    | dsimp only | split

theorem keeps_execTileTestDone {W : Nat} {a₀ : State} (n : Nat) (failed : List Nat) (dispatcherOk : Bool) (shelfOk :
    Bool) (tadc : CalResult) (s : State) (hw : 0x100000080348 &&& W = 0x100000080348) (hs : Keeps W a₀ s) :
    KeepsOut W a₀ (execTileTestDone n failed dispatcherOk shelfOk tadc s) := by
  unfold execTileTestDone
  try dsimp only
  with_reducible apply KeepsOut.next
  with_reducible repeat' first
    | assumption | exact part_sub rfl hw | apply keeps_bootEv | apply keeps_tileTest

theorem keeps_kernelsLoaded {W : Nat} {a₀ : State} (s : State) (ok : Bool) (kernels : List Nat) (hw : 0x61408428074c
    &&& W = 0x61408428074c) (hs : Keeps W a₀ s) :
    Keeps W a₀ (kernelsLoaded s ok kernels) := by
  unfold kernelsLoaded
  try dsimp only
  with_reducible repeat' first
    | assumption | exact part_sub rfl hw | apply keeps_State_setF | apply keeps_bootFail | apply keeps_bootStage
    | apply keeps_setBoot | apply keeps_ite | split

theorem keeps_execKernelLibraryLoaded {W : Nat} {a₀ : State} (ok : Bool) (kernels : List Nat) (s : State) (hw :
    0x61408428074c &&& W = 0x61408428074c) (hs : Keeps W a₀ s) :
    KeepsOut W a₀ (execKernelLibraryLoaded ok kernels s) := by
  unfold execKernelLibraryLoaded
  try dsimp only
  with_reducible apply KeepsOut.next
  with_reducible repeat' first
    | assumption | exact part_sub rfl hw | apply keeps_bootEv | apply keeps_kernelsLoaded

theorem keeps_writeInventory {W : Nat} {a₀ : State} (s : State) (st : Nat) (hw : 0x200 &&& W = 0x200) (hs : Keeps W a₀
    s) :
    Keeps W a₀ (writeInventory s st) := by
  unfold writeInventory
  try dsimp only
  with_reducible repeat' first
    | assumption | exact part_sub rfl hw | exact id | intro _ | apply Keeps.set_pcie

theorem keeps_bootReady {W : Nat} {a₀ : State} (s : State) (hw : 0x248 &&& W = 0x248) (hs : Keeps W a₀ s) :
    Keeps W a₀ (bootReady s) := by
  unfold bootReady
  try dsimp only
  with_reducible repeat' first
    | assumption | exact part_sub rfl hw | exact id | intro _ | apply keeps_State_setF | apply keeps_bootStage
    | apply keeps_writeInventory | apply keeps_ite | split | apply Keeps.set_pow

theorem keeps_serviceSet {W : Nat} {a₀ : State} (s : State) (hw : 0x61408428074c &&& W = 0x61408428074c) (hs : Keeps W
    a₀ s) :
    Keeps W a₀ (serviceSet s) := by
  unfold serviceSet
  try dsimp only
  with_reducible repeat' first
    | assumption | exact part_sub rfl hw | apply keeps_bootFail | apply keeps_bootReady | apply keeps_ite | split

theorem keeps_execServiceSetEvaluated {W : Nat} {a₀ : State} (s : State) (hw : 0x61408428074c &&& W = 0x61408428074c)
    (hs : Keeps W a₀ s) :
    KeepsOut W a₀ (execServiceSetEvaluated s) := by
  unfold execServiceSetEvaluated
  try dsimp only
  with_reducible apply KeepsOut.next
  with_reducible repeat' first
    | assumption | exact part_sub rfl hw | apply keeps_bootEv | apply keeps_serviceSet

theorem keeps_setAcc {W : Nat} {a₀ : State} (s : State) (id : Nat) (a : BridgeAcc) (hw : 0x400 &&& W = 0x400) (hs :
    Keeps W a₀ s) :
    Keeps W a₀ (setAcc s id a) := by
  unfold setAcc
  try dsimp only
  with_reducible repeat' first
    | assumption | exact part_sub rfl hw | exact id | intro _ | apply Keeps.set_bridge

theorem keeps_setQueue {W : Nat} {a₀ : State} (s : State) (n : Nat) (q : List (Nat × Nat)) (hw : 0x408 &&& W = 0x408)
    (hs : Keeps W a₀ s) :
    Keeps W a₀ (setQueue s n q) := by
  unfold setQueue
  try dsimp only
  with_reducible repeat' first
    | assumption | exact part_sub rfl hw | exact id | intro _ | apply keeps_State_setF | apply Keeps.set_bridge

theorem keeps_queueAccess {W : Nat} {a₀ : State} (s : State) (a : BridgeAcc) (hw : 0x408 &&& W = 0x408) (hs : Keeps W
    a₀ s) :
    Keeps W a₀ (queueAccess s a) := by
  unfold queueAccess
  try dsimp only
  with_reducible repeat' first
    | assumption | exact part_sub rfl hw | exact id | intro _ | apply keeps_setAcc | apply keeps_setQueue
    | apply Keeps.set_bridge

theorem keeps_setCq {W : Nat} {a₀ : State} (s : State) (j : Nat) (q : Cq) (hw : 0x200000 &&& W = 0x200000) (hs : Keeps
    W a₀ s) :
    Keeps W a₀ (setCq s j q) := by
  unfold setCq
  try dsimp only
  with_reducible repeat' first
    | assumption | exact part_sub rfl hw | exact id | intro _ | apply Keeps.set_ring

theorem keeps_cqSignal {W : Nat} {a₀ : State} (s : State) (j : Nat) (hw : 0x280208 &&& W = 0x280208) (hs : Keeps W a₀
    s) :
    Keeps W a₀ (cqSignal s j) := by
  unfold cqSignal
  try dsimp only
  with_reducible repeat' first
    | assumption | exact part_sub rfl hw | apply keeps_State_setF | apply keeps_irqEval | apply keeps_setCq
    | apply keeps_ite | split

theorem keeps_hostWrite {W : Nat} {a₀ : State} (s : State) (addr : Nat) (bs : List Byte) (poisoned : optParam Bool
    false) (hw : 0x400000 &&& W = 0x400000) (hs : Keeps W a₀ s) :
    Keeps W a₀ (hostWrite s addr bs poisoned) := by
  unfold hostWrite
  try dsimp only
  with_reducible repeat' first
    | assumption | exact part_sub rfl hw | exact id | intro _ | apply keeps_ite | split | apply Keeps.set_wire

theorem keeps_cqWrite {W : Nat} {a₀ : State} (s : State) (j : Nat) (e : CqEntry) (hw : 0x680208 &&& W = 0x680208) (hs
    : Keeps W a₀ s) :
    Keeps W a₀ (cqWrite s j e) := by
  unfold cqWrite
  try dsimp only
  with_reducible repeat' first
    | assumption | exact part_sub rfl hw | apply keeps_State_setF | apply keeps_cqSignal | apply keeps_hostWrite
    | apply keeps_setCq | apply keeps_ite | split

theorem keeps_cqTake {W : Nat} {a₀ : State} (s : State) (j : Nat) (e : CqEntry) (hw : 0x680208 &&& W = 0x680208) (hs :
    Keeps W a₀ s) :
    Keeps W a₀ (cqTake s j e).2 := by
  unfold cqTake
  try dsimp only
  with_reducible repeat' first
    | assumption | exact part_sub rfl hw | apply keeps_State_ev | apply keeps_State_setF | apply keeps_cqWrite
    | apply keeps_setCq | apply keeps_ite | split

theorem keeps_asyncLast {W : Nat} {a₀ : State} (s : State) (e : CqEntry) (hw : 0x680208 &&& W = 0x680208) (hs : Keeps
    W a₀ s) :
    Keeps W a₀ (asyncLast s e) := by
  unfold asyncLast
  try dsimp only
  with_reducible repeat' first
    | assumption | exact part_sub rfl hw | apply keeps_State_ev | apply keeps_cqTake | apply keeps_ite
    | refine keeps_of_pair (by assumption) ?_ | refine keeps_of_pair_first (by assumption) ?_
    | refine keeps_of_triple (by assumption) ?_ | split

theorem keeps_cqOverflowed {W : Nat} {a₀ : State} (s : State) (j : Nat) (hw : 0x680208 &&& W = 0x680208) (hs : Keeps W
    a₀ s) :
    Keeps W a₀ (cqOverflowed s j) := by
  unfold cqOverflowed
  try dsimp only
  with_reducible repeat' first
    | assumption | exact part_sub rfl hw | apply keeps_asyncLast | apply keeps_ite | split

theorem keeps_cqPost {W : Nat} {a₀ : State} (s : State) (j : Nat) (e : CqEntry) (hw : 0x680208 &&& W = 0x680208) (hs :
    Keeps W a₀ s) :
    Keeps W a₀ (cqPost s j e) := by
  unfold cqPost
  try dsimp only
  with_reducible repeat' first
    | assumption | exact part_sub rfl hw | apply keeps_cqOverflowed | apply keeps_cqTake | apply keeps_setCq
    | apply keeps_ite | refine keeps_of_pair (by assumption) ?_ | refine keeps_of_pair_first (by assumption) ?_
    | refine keeps_of_triple (by assumption) ?_ | dsimp only | split

theorem keeps_asyncPost {W : Nat} {a₀ : State} (s : State) (cause : Nat) (r0 : Nat) (r1 : Nat) (r2 : optParam Nat 0)
    (detail : optParam Nat 0) (hw : 0x680208 &&& W = 0x680208) (hs : Keeps W a₀ s) :
    Keeps W a₀ (asyncPost s cause r0 r1 r2 detail) := by
  unfold asyncPost
  try dsimp only
  with_reducible repeat' first
    | assumption | exact part_sub rfl hw | apply keeps_State_ev | apply keeps_cqPost | apply keeps_ite | split

theorem keeps_errLog {W : Nat} {a₀ : State} (s : State) (kind : Nat) (port : Nat) (addr : Nat) (data : Nat) (result :
    Nat) (cause : Nat) (hw : 0x680308 &&& W = 0x680308) (hs : Keeps W a₀ s) :
    Keeps W a₀ (errLog s kind port addr data result cause) := by
  unfold errLog
  try dsimp only
  with_reducible repeat' first
    | assumption | exact part_sub rfl hw | apply keeps_State_bump | apply keeps_State_ev | apply keeps_State_report
    | apply keeps_State_setF | apply keeps_State_setPair | apply keeps_State_setRn | apply keeps_asyncPost
    | apply keeps_ite | split

theorem keeps_writeFailed {W : Nat} {a₀ : State} (s : State) (a : BridgeAcc) (result : Nat) (cause : Nat) (hw :
    0x680308 &&& W = 0x680308) (hs : Keeps W a₀ s) :
    Keeps W a₀ (writeFailed s a result cause) := by
  unfold writeFailed
  try dsimp only
  with_reducible repeat' first
    | assumption | exact part_sub rfl hw | apply keeps_State_ev | apply keeps_State_report | apply keeps_State_setF
    | apply keeps_errLog | apply keeps_ite | split

theorem keeps_aliasWrite {W : Nat} {a₀ : State} (s : State) (kind : Nat) (n : Nat) (a : Nat) (bytes : List Byte) (hw :
    0x680708 &&& W = 0x680708) (hs : Keeps W a₀ s) :
    Keeps W a₀ (aliasWrite s kind n a bytes) := by
  unfold aliasWrite
  try dsimp only
  with_reducible repeat' first
    | assumption | exact part_sub rfl hw | apply keeps_State_bump | apply keeps_State_ev | apply keeps_State_report
    | apply keeps_queueAccess | apply keeps_writeFailed | apply keeps_ite | split

theorem keeps_hostReq {W : Nat} {a₀ : State} (s : State) (t : State) (hs : Keeps W a₀ s) (ht : Keeps W a₀ t) :
    Keeps W a₀ (hostReq s t) := by
  unfold hostReq
  try dsimp only
  with_reducible repeat' first
    | assumption | apply keeps_hub | apply keeps_ite | split

theorem keeps_execPostedAliasWrite {W : Nat} {a₀ : State} (n : Nat) (a : Nat) (bytes : List Byte) (s : State) (hw :
    0x680708 &&& W = 0x680708) (hs : Keeps W a₀ s) :
    KeepsOut W a₀ (execPostedAliasWrite n a bytes s) := by
  unfold execPostedAliasWrite
  try dsimp only
  with_reducible apply KeepsOut.next
  with_reducible repeat' first
    | assumption | exact part_sub rfl hw | apply keeps_aliasWrite | apply keeps_hostReq

theorem keeps_execSyncedAliasWrite {W : Nat} {a₀ : State} (n : Nat) (a : Nat) (bytes : List Byte) (s : State) (hw :
    0x680708 &&& W = 0x680708) (hs : Keeps W a₀ s) :
    KeepsOut W a₀ (execSyncedAliasWrite n a bytes s) := by
  unfold execSyncedAliasWrite
  try dsimp only
  with_reducible apply KeepsOut.next
  with_reducible repeat' first
    | assumption | exact part_sub rfl hw | apply keeps_aliasWrite | apply keeps_hostReq

theorem keeps_setTicket {W : Nat} {a₀ : State} (s : State) (t : Nat) (st : Nat) (hw : 0x8 &&& W = 0x8) (hs : Keeps W
    a₀ s) :
    Keeps W a₀ (setTicket s t st) := by
  unfold setTicket
  try dsimp only
  with_reducible repeat' first
    | assumption | exact part_sub rfl hw | apply keeps_State_setF

theorem keeps_State_answer {W : Nat} {a₀ : State} (s : State) (st : RStatus) (bs : List Byte) (hw : 0x100000 &&& W =
    0x100000) (hs : Keeps W a₀ s) :
    Keeps W a₀ (State.answer s st bs) := by
  unfold State.answer
  try dsimp only
  with_reducible repeat' first
    | assumption | exact part_sub rfl hw | exact id | intro _ | apply Keeps.set_reply

theorem keeps_setCfg {W : Nat} {a₀ : State} (s : State) (off : Nat) (v : Nat) (hw : 0x200 &&& W = 0x200) (hs : Keeps W
    a₀ s) :
    Keeps W a₀ (setCfg s off v) := by
  unfold setCfg
  try dsimp only
  with_reducible repeat' first
    | assumption | exact part_sub rfl hw | exact id | exact ksorted_kputD | intro _ | apply Keeps.set_pcie

theorem keeps_cfgSet {W : Nat} {a₀ : State} (s : State) (off : Nat) (bit : Nat) (hw : 0x200 &&& W = 0x200) (hs : Keeps
    W a₀ s) :
    Keeps W a₀ (cfgSet s off bit) := by
  unfold cfgSet
  try dsimp only
  with_reducible repeat' first
    | assumption | exact part_sub rfl hw | apply keeps_setCfg

theorem keeps_errMsg {W : Nat} {a₀ : State} (s : State) (kind : Nat) (hw : 0x200 &&& W = 0x200) (hs : Keeps W a₀ s) :
    Keeps W a₀ (errMsg s kind) := by
  unfold errMsg
  try dsimp only
  with_reducible repeat' first
    | assumption | exact part_sub rfl hw | exact id | intro _ | apply keeps_ite | split | apply Keeps.set_pcie

theorem keeps_aerCorr {W : Nat} {a₀ : State} (s : State) (bit : Nat) (hw : 0x200 &&& W = 0x200) (hs : Keeps W a₀ s) :
    Keeps W a₀ (aerCorr s bit) := by
  unfold aerCorr
  try dsimp only
  with_reducible repeat' first
    | assumption | exact part_sub rfl hw | apply keeps_cfgSet | apply keeps_errMsg | apply keeps_ite | split

theorem keeps_aerFirst {W : Nat} {a₀ : State} (s : State) (bit : Nat) (hw : 0x204 &&& W = 0x204) (hs : Keeps W a₀ s) :
    Keeps W a₀ (aerFirst s bit) := by
  unfold aerFirst
  try dsimp only
  with_reducible repeat' first
    | assumption | exact part_sub rfl hw | intro _ | apply keeps_setCfg | apply keeps_takeFree | apply keeps_ite
    | refine keeps_of_pair (by assumption) ?_ | refine keeps_of_pair_first (by assumption) ?_
    | refine keeps_of_triple (by assumption) ?_ | apply keeps_foldl | apply keeps_foldl_first | dsimp only | split

theorem keeps_aerUncorr {W : Nat} {a₀ : State} (s : State) (bit : Nat) (advisory : Bool) (hw : 0x204 &&& W = 0x204)
    (hs : Keeps W a₀ s) :
    Keeps W a₀ (aerUncorr s bit advisory) := by
  unfold aerUncorr
  try dsimp only
  with_reducible repeat' first
    | assumption | exact part_sub rfl hw | apply keeps_aerCorr | apply keeps_aerFirst | apply keeps_cfgSet
    | apply keeps_errMsg | apply keeps_ite | split

theorem keeps_refuseCa {W : Nat} {a₀ : State} (s : State) (hw : 0x100204 &&& W = 0x100204) (hs : Keeps W a₀ s) :
    Keeps W a₀ (refuseCa s) := by
  unfold refuseCa
  try dsimp only
  with_reducible repeat' first
    | assumption | exact part_sub rfl hw | apply keeps_State_answer | apply keeps_aerUncorr

theorem keeps_aerUnsupported {W : Nat} {a₀ : State} (s : State) (hw : 0x204 &&& W = 0x204) (hs : Keeps W a₀ s) :
    Keeps W a₀ (aerUnsupported s) := by
  unfold aerUnsupported
  try dsimp only
  with_reducible repeat' first
    | assumption | exact part_sub rfl hw | apply keeps_aerUncorr | apply keeps_cfgSet

theorem keeps_refuseUr {W : Nat} {a₀ : State} (s : State) (write : Bool) (hw : 0x100204 &&& W = 0x100204) (hs : Keeps
    W a₀ s) :
    Keeps W a₀ (refuseUr s write) := by
  unfold refuseUr
  try dsimp only
  with_reducible repeat' first
    | assumption | exact part_sub rfl hw | apply keeps_State_answer | apply keeps_aerUnsupported | apply keeps_ite
    | split

theorem keeps_splitRead {W : Nat} {a₀ : State} (s : State) (n : Nat) (a : Nat) (size : Nat) (hw : 0x10060c &&& W =
    0x10060c) (hs : Keeps W a₀ s) :
    Keeps W a₀ (splitRead s n a size) := by
  unfold splitRead
  try dsimp only
  with_reducible repeat' first
    | assumption | exact part_sub rfl hw | apply keeps_State_answer | apply keeps_State_setF
    | apply keeps_State_setRn | apply keeps_queueAccess | apply keeps_refuseCa | apply keeps_refuseUr
    | apply keeps_setTicket | apply keeps_takeFree | apply keeps_ite | refine keeps_of_pair (by assumption) ?_
    | refine keeps_of_pair_first (by assumption) ?_ | refine keeps_of_triple (by assumption) ?_ | dsimp only | split

theorem keeps_execPostedAliasRead {W : Nat} {a₀ : State} (n : Nat) (a : Nat) (size : Nat) (s : State) (hw : 0x10060c
    &&& W = 0x10060c) (hs : Keeps W a₀ s) :
    KeepsOut W a₀ (execPostedAliasRead n a size s) := by
  unfold execPostedAliasRead
  try dsimp only
  with_reducible apply KeepsOut.next
  with_reducible repeat' first
    | assumption | exact part_sub rfl hw | apply keeps_hostReq | apply keeps_splitRead

theorem keeps_setDoneAt {W : Nat} {a₀ : State} (s : State) (m : KMap Nat) (hw : 0x400 &&& W = 0x400) (hs : Keeps W a₀
    s) :
    Keeps W a₀ (setDoneAt s m) := by
  unfold setDoneAt
  try dsimp only
  with_reducible repeat' first
    | assumption | exact part_sub rfl hw | exact id | intro _ | apply Keeps.set_bridge

theorem keeps_dropAcc {W : Nat} {a₀ : State} (s : State) (id : Nat) (hw : 0x400 &&& W = 0x400) (hs : Keeps W a₀ s) :
    Keeps W a₀ (dropAcc s id) := by
  unfold dropAcc
  try dsimp only
  with_reducible repeat' first
    | assumption | exact part_sub rfl hw | exact id | intro _ | apply Keeps.set_bridge

theorem keeps_splitDone {W : Nat} {a₀ : State} (s : State) (t : Nat) (hw : 0x408 &&& W = 0x408) (hs : Keeps W a₀ s) :
    Keeps W a₀ (splitDone s t) := by
  unfold splitDone
  try dsimp only
  with_reducible repeat' first
    | assumption | exact part_sub rfl hw | apply keeps_State_setF | apply keeps_State_setRn | apply keeps_dropAcc
    | apply keeps_setDoneAt | apply keeps_setTicket | dsimp only | split

theorem keeps_execSplitReadDone {W : Nat} {a₀ : State} (t : Nat) (s : State) (hw : 0x408 &&& W = 0x408) (hs : Keeps W
    a₀ s) :
    KeepsOut W a₀ (execSplitReadDone t s) := by
  unfold execSplitReadDone
  try dsimp only
  with_reducible apply KeepsOut.next
  with_reducible repeat' first
    | assumption | exact part_sub rfl hw | apply keeps_hub | apply keeps_splitDone

theorem keeps_freeTicket {W : Nat} {a₀ : State} (s : State) (t : Nat) (hw : 0x408 &&& W = 0x408) (hs : Keeps W a₀ s) :
    Keeps W a₀ (freeTicket s t) := by
  unfold freeTicket
  try dsimp only
  with_reducible repeat' first
    | assumption | exact part_sub rfl hw | apply keeps_State_setRn | apply keeps_setDoneAt | apply keeps_setTicket

theorem keeps_collectRead {W : Nat} {a₀ : State} (s : State) (t : Nat) (hw : 0x100408 &&& W = 0x100408) (hs : Keeps W
    a₀ s) :
    Keeps W a₀ (collectRead s t) := by
  unfold collectRead
  try dsimp only
  with_reducible repeat' first
    | assumption | exact part_sub rfl hw | apply keeps_State_answer | apply keeps_freeTicket | apply keeps_ite
    | split

theorem keeps_execCollectRead {W : Nat} {a₀ : State} (t : Nat) (s : State) (hw : 0x100408 &&& W = 0x100408) (hs :
    Keeps W a₀ s) :
    KeepsOut W a₀ (execCollectRead t s) := by
  unfold execCollectRead
  try dsimp only
  with_reducible apply KeepsOut.next
  with_reducible repeat' first
    | assumption | exact part_sub rfl hw | apply keeps_collectRead | apply keeps_hostReq

theorem keeps_ticketDiscard {W : Nat} {a₀ : State} (s : State) (t : Nat) (hw : 0x80708 &&& W = 0x80708) (hs : Keeps W
    a₀ s) :
    Keeps W a₀ (ticketDiscard s t) := by
  unfold ticketDiscard
  try dsimp only
  with_reducible repeat' first
    | assumption | exact part_sub rfl hw | apply keeps_State_bump | apply keeps_State_ev | apply keeps_State_report
    | apply keeps_freeTicket | apply keeps_ite | dsimp only | split

theorem keeps_execTicketDiscard {W : Nat} {a₀ : State} (t : Nat) (s : State) (hw : 0x80708 &&& W = 0x80708) (hs :
    Keeps W a₀ s) :
    KeepsOut W a₀ (execTicketDiscard t s) := by
  unfold execTicketDiscard
  try dsimp only
  with_reducible apply KeepsOut.next
  with_reducible repeat' first
    | assumption | exact part_sub rfl hw | apply keeps_hub | apply keeps_ticketDiscard

theorem keeps_heldRead {W : Nat} {a₀ : State} (s : State) (n : Nat) (a : Nat) (size : Nat) (hw : 0x10060c &&& W =
    0x10060c) (hs : Keeps W a₀ s) :
    Keeps W a₀ (heldRead s n a size) := by
  unfold heldRead
  try dsimp only
  with_reducible repeat' first
    | assumption | exact part_sub rfl hw | apply keeps_State_answer | apply keeps_queueAccess | apply keeps_refuseCa
    | apply keeps_refuseUr | apply keeps_ite | split

theorem keeps_execSyncedAliasRead {W : Nat} {a₀ : State} (n : Nat) (a : Nat) (size : Nat) (s : State) (hw : 0x10060c
    &&& W = 0x10060c) (hs : Keeps W a₀ s) :
    KeepsOut W a₀ (execSyncedAliasRead n a size s) := by
  unfold execSyncedAliasRead
  try dsimp only
  with_reducible apply KeepsOut.next
  with_reducible repeat' first
    | assumption | exact part_sub rfl hw | apply keeps_heldRead | apply keeps_hostReq

theorem keeps_heldDone {W : Nat} {a₀ : State} (s : State) (n : Nat) (hw : 0x10060c &&& W = 0x10060c) (hs : Keeps W a₀
    s) :
    Keeps W a₀ (heldDone s n) := by
  unfold heldDone
  try dsimp only
  with_reducible repeat' first
    | assumption | exact part_sub rfl hw | apply keeps_State_answer | apply keeps_State_setF | apply keeps_dropAcc
    | apply keeps_refuseCa | apply keeps_ite | dsimp only | split

theorem keeps_execSyncedReadDone {W : Nat} {a₀ : State} (n : Nat) (s : State) (hw : 0x10060c &&& W = 0x10060c) (hs :
    Keeps W a₀ s) :
    KeepsOut W a₀ (execSyncedReadDone n s) := by
  unfold execSyncedReadDone
  try dsimp only
  with_reducible apply KeepsOut.next
  with_reducible repeat' first
    | assumption | exact part_sub rfl hw | apply keeps_heldDone | apply keeps_hub

theorem keeps_heldExpired {W : Nat} {a₀ : State} (s : State) (n : Nat) (hw : 0x78070c &&& W = 0x78070c) (hs : Keeps W
    a₀ s) :
    Keeps W a₀ (heldExpired s n) := by
  unfold heldExpired
  try dsimp only
  with_reducible repeat' first
    | assumption | exact part_sub rfl hw | apply keeps_State_bump | apply keeps_State_ev | apply keeps_State_report
    | apply keeps_errLog | apply keeps_refuseCa | apply keeps_setAcc | apply keeps_ite | dsimp only | split

theorem keeps_execSyncedReadHoldExpired {W : Nat} {a₀ : State} (n : Nat) (s : State) (hw : 0x78070c &&& W = 0x78070c)
    (hs : Keeps W a₀ s) :
    KeepsOut W a₀ (execSyncedReadHoldExpired n s) := by
  unfold execSyncedReadHoldExpired
  try dsimp only
  with_reducible apply KeepsOut.next
  with_reducible repeat' first
    | assumption | exact part_sub rfl hw | apply keeps_heldExpired | apply keeps_hub

theorem keeps_setWins {W : Nat} {a₀ : State} (s : State) (m : KMap HeldWin) (hw : 0x400 &&& W = 0x400) (hs : Keeps W
    a₀ s) :
    Keeps W a₀ (setWins s m) := by
  unfold setWins
  try dsimp only
  with_reducible repeat' first
    | assumption | exact part_sub rfl hw | exact id | intro _ | apply Keeps.set_bridge

theorem keeps_setWinWrites {W : Nat} {a₀ : State} (s : State) (m : KMap HeldWin) (hw : 0x400 &&& W = 0x400) (hs :
    Keeps W a₀ s) :
    Keeps W a₀ (setWinWrites s m) := by
  unfold setWinWrites
  try dsimp only
  with_reducible repeat' first
    | assumption | exact part_sub rfl hw | exact id | intro _ | apply Keeps.set_bridge

theorem keeps_winDiscard {W : Nat} {a₀ : State} (s : State) (w : Nat) (addr : Nat) (bytes : List Byte) (result : Nat)
    (cause : Nat) (hw : 0x680308 &&& W = 0x680308) (hs : Keeps W a₀ s) :
    Keeps W a₀ (winDiscard s w addr bytes result cause) := by
  unfold winDiscard
  try dsimp only
  with_reducible repeat' first
    | assumption | exact part_sub rfl hw | apply keeps_errLog

theorem keeps_launchReq {W : Nat} {a₀ : State} (s : State) (tag : Nat) (hw : 0x10000000000 &&& W = 0x10000000000) (hs
    : Keeps W a₀ s) :
    Keeps W a₀ (launchReq s tag) := by
  unfold launchReq
  try dsimp only
  with_reducible repeat' first
    | assumption | exact part_sub rfl hw | exact id | intro _ | apply keeps_portSend | apply keeps_ite | dsimp only
    | split | apply Keeps.set_fabric

theorem keeps_fabRequest {W : Nat} {a₀ : State} (s : State) (owner : FabOwner) (vc : Nat) (write : Bool) (dst : Nat)
    (addr : Nat) (len : Nat) (data : List Byte) (poison : Bool) (hw : 0x10000000000 &&& W = 0x10000000000) (hs : Keeps
    W a₀ s) :
    Keeps W a₀ (fabRequest s owner vc write dst addr len data poison).2 := by
  unfold fabRequest
  try dsimp only
  with_reducible repeat' first
    | assumption | exact part_sub rfl hw | exact id | intro _ | apply keeps_launchReq | apply keeps_ite | split
    | apply Keeps.set_fabric

theorem keeps_winWrite {W : Nat} {a₀ : State} (s : State) (w : Nat) (x : Nat) (bytes : List Byte) (hw : 0x1000078070c
    &&& W = 0x1000078070c) (hs : Keeps W a₀ s) :
    Keeps W a₀ (winWrite s w x bytes) := by
  unfold winWrite
  try dsimp only
  with_reducible repeat' first
    | assumption | exact part_sub rfl hw | apply keeps_fabRequest | apply keeps_refuseUr | apply keeps_setWinWrites
    | apply keeps_winDiscard | apply keeps_ite | refine keeps_of_pair (by assumption) ?_
    | refine keeps_of_pair_first (by assumption) ?_ | refine keeps_of_triple (by assumption) ?_ | dsimp only | split

theorem keeps_execFabricWindowWrite {W : Nat} {a₀ : State} (w : Nat) (x : Nat) (bytes : List Byte) (s : State) (hw :
    0x1000078070c &&& W = 0x1000078070c) (hs : Keeps W a₀ s) :
    KeepsOut W a₀ (execFabricWindowWrite w x bytes s) := by
  unfold execFabricWindowWrite
  try dsimp only
  with_reducible apply KeepsOut.next
  with_reducible repeat' first
    | assumption | exact part_sub rfl hw | apply keeps_hostReq | apply keeps_winWrite

theorem keeps_winRead {W : Nat} {a₀ : State} (s : State) (w : Nat) (x : Nat) (len : Nat) (hw : 0x10000100604 &&& W =
    0x10000100604) (hs : Keeps W a₀ s) :
    Keeps W a₀ (winRead s w x len) := by
  unfold winRead
  try dsimp only
  with_reducible repeat' first
    | assumption | exact part_sub rfl hw | apply keeps_State_answer | apply keeps_fabRequest | apply keeps_refuseCa
    | apply keeps_refuseUr | apply keeps_setWins | apply keeps_ite | refine keeps_of_pair (by assumption) ?_
    | refine keeps_of_pair_first (by assumption) ?_ | refine keeps_of_triple (by assumption) ?_ | dsimp only | split

theorem keeps_execFabricWindowRead {W : Nat} {a₀ : State} (w : Nat) (x : Nat) (len : Nat) (s : State) (hw :
    0x10000100604 &&& W = 0x10000100604) (hs : Keeps W a₀ s) :
    KeepsOut W a₀ (execFabricWindowRead w x len s) := by
  unfold execFabricWindowRead
  try dsimp only
  with_reducible apply KeepsOut.next
  with_reducible repeat' first
    | assumption | exact part_sub rfl hw | apply keeps_hostReq | apply keeps_winRead

theorem keeps_winResponse {W : Nat} {a₀ : State} (s : State) (tag : Nat) (hw : 0x1000078070c &&& W = 0x1000078070c)
    (hs : Keeps W a₀ s) :
    Keeps W a₀ (winResponse s tag) := by
  unfold winResponse
  try dsimp only
  with_reducible repeat' first
    | assumption | exact part_sub rfl hw | apply keeps_State_answer | apply keeps_State_ev | apply keeps_State_report
    | apply keeps_errLog | apply keeps_refuseCa | apply keeps_setWinWrites | apply keeps_setWins
    | apply keeps_takeDone | apply keeps_winDiscard | apply keeps_ite | dsimp only | split

theorem keeps_execFabricWindowResponse {W : Nat} {a₀ : State} (tag : Nat) (s : State) (hw : 0x1000078070c &&& W =
    0x1000078070c) (hs : Keeps W a₀ s) :
    KeepsOut W a₀ (execFabricWindowResponse tag s) := by
  unfold execFabricWindowResponse
  try dsimp only
  with_reducible apply KeepsOut.next
  with_reducible repeat' first
    | assumption | exact part_sub rfl hw | apply keeps_hub | apply keeps_winResponse

theorem keeps_winExpired {W : Nat} {a₀ : State} (s : State) (tag : Nat) (hw : 0x78070c &&& W = 0x78070c) (hs : Keeps W
    a₀ s) :
    Keeps W a₀ (winExpired s tag) := by
  unfold winExpired
  try dsimp only
  with_reducible repeat' first
    | assumption | exact part_sub rfl hw | apply keeps_State_bump | apply keeps_State_ev | apply keeps_errLog
    | apply keeps_refuseCa | apply keeps_setWins | apply keeps_ite | dsimp only | split

theorem keeps_execFabricWindowHoldExpired {W : Nat} {a₀ : State} (tag : Nat) (s : State) (hw : 0x78070c &&& W =
    0x78070c) (hs : Keeps W a₀ s) :
    KeepsOut W a₀ (execFabricWindowHoldExpired tag s) := by
  unfold execFabricWindowHoldExpired
  try dsimp only
  with_reducible apply KeepsOut.next
  with_reducible repeat' first
    | assumption | exact part_sub rfl hw | apply keeps_hub | apply keeps_winExpired

theorem keeps_outWinIgnored {W : Nat} {a₀ : State} (s : State) (w : Nat) (hw : 0x80308 &&& W = 0x80308) (hs : Keeps W
    a₀ s) :
    Keeps W a₀ (outWinIgnored s w) := by
  unfold outWinIgnored
  try dsimp only
  with_reducible repeat' first
    | assumption | exact part_sub rfl hw | apply keeps_State_ev | apply keeps_State_report

theorem keeps_outWinCtrl {W : Nat} {a₀ : State} (s : State) (w : Nat) (v : Word) (hw : 0x80308 &&& W = 0x80308) (hs :
    Keeps W a₀ s) :
    Keeps W a₀ (outWinCtrl s w v) := by
  unfold outWinCtrl
  try dsimp only
  with_reducible repeat' first
    | assumption | exact part_sub rfl hw | apply keeps_State_setF | apply keeps_outWinIgnored | apply keeps_ite
    | split

theorem keeps_execOutWinCtrlWrite {W : Nat} {a₀ : State} (w : Nat) (v : Word) (s : State) (hw : 0x80308 &&& W =
    0x80308) (hs : Keeps W a₀ s) :
    KeepsOut W a₀ (execOutWinCtrlWrite w v s) := by
  unfold execOutWinCtrlWrite
  try dsimp only
  with_reducible apply KeepsOut.next
  with_reducible repeat' first
    | assumption | exact part_sub rfl hw | apply keeps_hub | apply keeps_outWinCtrl

theorem keeps_outWinTarget {W : Nat} {a₀ : State} (s : State) (w : Nat) (hi : Bool) (v : Word) (hw : 0x80308 &&& W =
    0x80308) (hs : Keeps W a₀ s) :
    Keeps W a₀ (outWinTarget s w hi v) := by
  unfold outWinTarget
  try dsimp only
  with_reducible repeat' first
    | assumption | exact part_sub rfl hw | apply keeps_State_setF | apply keeps_State_setReg
    | apply keeps_outWinIgnored | apply keeps_ite | split

theorem keeps_byteEnded {W : Nat} {a₀ : State} (s : State) (id : Nat) (result : Nat) (b : Byte) (hw : 0x780708 &&& W =
    0x780708) (hs : Keeps W a₀ s) :
    Keeps W a₀ (byteEnded s id result b) := by
  unfold byteEnded
  try dsimp only
  with_reducible repeat' first
    | assumption | exact part_sub rfl hw | apply keeps_State_answer | apply keeps_State_setF | apply keeps_dropAcc
    | apply keeps_setAcc | apply keeps_setQueue | apply keeps_writeFailed | apply keeps_ite | dsimp only | split

theorem keeps_byteBegins {W : Nat} {a₀ : State} (s : State) (id : Nat) (hw : 0x400 &&& W = 0x400) (hs : Keeps W a₀ s) :
    Keeps W a₀ (byteBegins s id) := by
  unfold byteBegins
  try dsimp only
  with_reducible repeat' first
    | assumption | exact part_sub rfl hw | apply keeps_setAcc | apply keeps_ite | dsimp only | split

theorem keeps_setCredit {W : Nat} {a₀ : State} (s : State) (q : Nat) (n : Nat) (hw : 0x8 &&& W = 0x8) (hs : Keeps W a₀
    s) :
    Keeps W a₀ (setCredit s q n) := by
  unfold setCredit
  try dsimp only
  with_reducible repeat' first
    | assumption | exact part_sub rfl hw | apply keeps_State_setF

theorem keeps_enableQueue {W : Nat} {a₀ : State} (s : State) (q : Nat) (cells : Nat) (hw : 0x8 &&& W = 0x8) (hs :
    Keeps W a₀ s) :
    Keeps W a₀ (enableQueue s q cells) := by
  unfold enableQueue
  try dsimp only
  with_reducible repeat' first
    | assumption | exact part_sub rfl hw | apply keeps_State_setF | apply keeps_setCredit | apply keeps_ite | split

theorem keeps_setFresh {W : Nat} {a₀ : State} (s : State) (st : Nat) (f : Fresh) (hw : 0x40000 &&& W = 0x40000) (hs :
    Keeps W a₀ s) :
    Keeps W a₀ (setFresh s st f) := by
  unfold setFresh
  try dsimp only
  with_reducible repeat' first
    | assumption | exact part_sub rfl hw | exact id | intro _ | apply Keeps.set_fresh

theorem keeps_setStale {W : Nat} {a₀ : State} (s : State) (st : Nat) (b : Bool) (hw : 0x40008 &&& W = 0x40008) (hs :
    Keeps W a₀ s) :
    Keeps W a₀ (setStale s st b) := by
  unfold setStale
  try dsimp only
  with_reducible repeat' first
    | assumption | exact part_sub rfl hw | apply keeps_State_setF | apply keeps_setFresh | apply keeps_ite | split

theorem keeps_freshStart {W : Nat} {a₀ : State} (s : State) (st : Nat) (budget : Nat) (hw : 0x40108 &&& W = 0x40108)
    (hs : Keeps W a₀ s) :
    Keeps W a₀ (freshStart s st budget) := by
  unfold freshStart
  try dsimp only
  with_reducible repeat' first
    | assumption | exact part_sub rfl hw | exact id | intro _ | apply keeps_State_setF | apply keeps_setFresh
    | apply keeps_setStale | apply keeps_ite | split | apply Keeps.set_isl

theorem keeps_setCanvas {W : Nat} {a₀ : State} (s : State) (c : Nat) (x : Canvas) (hw : 0x800000000 &&& W =
    0x800000000) (hs : Keeps W a₀ s) :
    Keeps W a₀ (setCanvas s c x) := by
  unfold setCanvas
  try dsimp only
  with_reducible repeat' first
    | assumption | exact part_sub rfl hw | exact id | intro _ | apply Keeps.set_canvas

theorem keeps_startChannel {W : Nat} {a₀ : State} (s : State) (st : Nat) (hw : 0x4000000008 &&& W = 0x4000000008) (hs
    : Keeps W a₀ s) :
    Keeps W a₀ (startChannel s st) := by
  unfold startChannel
  try dsimp only
  with_reducible repeat' first
    | assumption | exact part_sub rfl hw | exact id | intro _ | apply keeps_State_setF | apply keeps_State_setRn
    | apply Keeps.set_hoist

theorem keeps_canvasOn {W : Nat} {a₀ : State} (s : State) (c : Nat) (hw : 0x4800048108 &&& W = 0x4800048108) (hs :
    Keeps W a₀ s) :
    Keeps W a₀ (canvasOn s c) := by
  unfold canvasOn
  try dsimp only
  with_reducible repeat' first
    | assumption | exact part_sub rfl hw | exact id | intro _ | apply keeps_State_setF | apply keeps_State_setRn
    | apply keeps_enableQueue | apply keeps_freshStart | apply keeps_setCanvas | apply keeps_startChannel
    | apply keeps_foldl | apply keeps_foldl_first | dsimp only | apply Keeps.set_frameNo

theorem keeps_addPkt {W : Nat} {a₀ : State} (s : State) (st : Nat) (b : PktBody) (hw : 0x400000000 &&& W =
    0x400000000) (hs : Keeps W a₀ s) :
    Keeps W a₀ (addPkt s st b) := by
  unfold addPkt
  try dsimp only
  with_reducible repeat' first
    | assumption | exact part_sub rfl hw | exact id | intro _ | apply Keeps.set_prod

theorem keeps_updCvFrame {W : Nat} {a₀ : State} (s : State) (c : Nat) (n : Nat) (g : CvFrame → CvFrame) (hw :
    0x800000000 &&& W = 0x800000000) (hs : Keeps W a₀ s) :
    Keeps W a₀ (updCvFrame s c n g) := by
  unfold updCvFrame
  try dsimp only
  with_reducible repeat' first
    | assumption | exact part_sub rfl hw | apply keeps_setCanvas | apply keeps_ite | split

theorem keeps_endCanvas {W : Nat} {a₀ : State} (s : State) (c : Nat) (n : Nat) (hw : 0xc00000000 &&& W = 0xc00000000)
    (hs : Keeps W a₀ s) :
    Keeps W a₀ (endCanvas s c n) := by
  unfold endCanvas
  try dsimp only
  with_reducible repeat' first
    | assumption | exact part_sub rfl hw | apply keeps_addPkt | apply keeps_updCvFrame | apply keeps_ite | dsimp only
    | split

end Sys2Proof.Machine
end

