-- ==== Sys2Proof/Laws/KeepsB.lean ====
section
/-!
SUPPORT. What each operation keeps, part 2 of 6: one lemma for each function that answers a state, after those that it
calls (cutCanvas to setPeer).
-/

namespace Sys2Proof.Machine

theorem keeps_cutCanvas {W : Nat} {a₀ : State} (s : State) (c : Nat) (hw : 0xc08000000 &&& W = 0xc08000000) (hs :
    Keeps W a₀ s) :
    Keeps W a₀ (cutCanvas s c) := by
  unfold cutCanvas
  try dsimp only
  with_reducible repeat' first
    | assumption | exact part_sub rfl hw | exact id | intro _ | apply keeps_endCanvas | apply keeps_updCvFrame
    | apply keeps_ite | apply keeps_foldl | apply keeps_foldl_first | dsimp only | split | apply Keeps.set_jobs

theorem keeps_freshStop {W : Nat} {a₀ : State} (s : State) (st : Nat) (hw : 0x40008 &&& W = 0x40008) (hs : Keeps W a₀
    s) :
    Keeps W a₀ (freshStop s st) := by
  unfold freshStop
  try dsimp only
  with_reducible repeat' first
    | assumption | exact part_sub rfl hw | apply keeps_setFresh | apply keeps_setStale | apply keeps_ite | split

theorem keeps_State_evIf {W : Nat} {a₀ : State} (s : State) (c : Bool) (f : Fld) (hw : 0x80208 &&& W = 0x80208) (hs :
    Keeps W a₀ s) :
    Keeps W a₀ (State.evIf s c f) := by
  unfold State.evIf
  try dsimp only
  with_reducible repeat' first
    | assumption | exact part_sub rfl hw | apply keeps_State_ev | apply keeps_ite | split

theorem keeps_complete {W : Nat} {a₀ : State} (s : State) (c : Cmd) (status : Nat) (r0 : optParam Nat 0) (r1 :
    optParam Nat 0) (r2 : optParam Nat 0) (detail : optParam Nat 0) (hw : 0x680208 &&& W = 0x680208) (hs : Keeps W a₀
    s) :
    Keeps W a₀ (complete s c status r0 r1 r2 detail) := by
  unfold complete
  try dsimp only
  with_reducible repeat' first
    | assumption | exact part_sub rfl hw | exact id | intro _ | apply keeps_cqPost | apply keeps_ite | split
    | apply Keeps.set_ring

theorem keeps_dropCommit {W : Nat} {a₀ : State} (s : State) (c : CommitRec) (status : Nat) (hw : 0x1000008 &&& W =
    0x1000008) (hs : Keeps W a₀ s) :
    Keeps W a₀ (dropCommit s c status) := by
  unfold dropCommit
  try dsimp only
  with_reducible repeat' first
    | assumption | exact part_sub rfl hw | exact id | intro _ | apply keeps_State_setF | apply Keeps.set_commits

theorem keeps_endCommit {W : Nat} {a₀ : State} (s : State) (c : CommitRec) (status : Nat) (fsn : Nat) (hw : 0x1680208
    &&& W = 0x1680208) (hs : Keeps W a₀ s) :
    Keeps W a₀ (endCommit s c status fsn) := by
  unfold endCommit
  try dsimp only
  with_reducible repeat' first
    | assumption | exact part_sub rfl hw | apply keeps_State_evIf | apply keeps_complete | apply keeps_dropCommit
    | apply keeps_ite | split

theorem keeps_stopCommit {W : Nat} {a₀ : State} (s : State) (t : Nat) (hw : 0x1680208 &&& W = 0x1680208) (hs : Keeps W
    a₀ s) :
    Keeps W a₀ (stopCommit s t) := by
  unfold stopCommit
  try dsimp only
  with_reducible repeat' first
    | assumption | exact part_sub rfl hw | apply keeps_endCommit | dsimp only | split

theorem keeps_canvasOff {W : Nat} {a₀ : State} (s : State) (c : Nat) (hw : 0xc096c0208 &&& W = 0xc096c0208) (hs :
    Keeps W a₀ s) :
    Keeps W a₀ (canvasOff s c) := by
  unfold canvasOff
  try dsimp only
  with_reducible repeat' first
    | assumption | exact part_sub rfl hw | apply keeps_State_setF | apply keeps_cutCanvas | apply keeps_freshStop
    | apply keeps_stopCommit

theorem keeps_canvasEnable {W : Nat} {a₀ : State} (s : State) (c : Nat) (v : Word) (hw : 0x4c096c8308 &&& W =
    0x4c096c8308) (hs : Keeps W a₀ s) :
    Keeps W a₀ (canvasEnable s c v) := by
  unfold canvasEnable
  try dsimp only
  with_reducible repeat' first
    | assumption | exact part_sub rfl hw | apply keeps_canvasOff | apply keeps_canvasOn | apply keeps_ite | split

theorem keeps_execCanvasEnable {W : Nat} {a₀ : State} (c : Nat) (v : Word) (s : State) (hw : 0x4c096c8308 &&& W =
    0x4c096c8308) (hs : Keeps W a₀ s) :
    KeepsOut W a₀ (execCanvasEnable c v s) := by
  unfold execCanvasEnable
  try dsimp only
  with_reducible apply KeepsOut.next
  with_reducible repeat' first
    | assumption | exact part_sub rfl hw | apply keeps_canvasEnable | apply keeps_hub

theorem keeps_setReject {W : Nat} {a₀ : State} (s : State) (t : Nat) (rule : Nat) (detail : Nat) (source : Nat) (hw :
    0x8 &&& W = 0x8) (hs : Keeps W a₀ s) :
    Keeps W a₀ (setReject s t rule detail source) := by
  unfold setReject
  try dsimp only
  with_reducible repeat' first
    | assumption | exact part_sub rfl hw | apply keeps_State_setRn

theorem keeps_copySet {W : Nat} {a₀ : State} (s : State) (t : Nat) (hw : 0x10 &&& W = 0x10) (hs : Keeps W a₀ s) :
    Keeps W a₀ (copySet s t) := by
  unfold copySet
  exact Keeps.set_act hs hw (fun h => ksorted_foldl_kput (ksorted_kfilter h))

theorem keeps_setDetect {W : Nat} {a₀ : State} (s : State) (p : Nat) (detect : Nat) (hw : 0x80208 &&& W = 0x80208) (hs
    : Keeps W a₀ s) :
    Keeps W a₀ (setDetect s p detect) := by
  unfold setDetect
  try dsimp only
  with_reducible repeat' first
    | assumption | exact part_sub rfl hw | intro _ | apply keeps_State_evIf | apply keeps_State_setF
    | apply keeps_ite | apply keeps_foldl | apply keeps_foldl_first | dsimp only | split

theorem keeps_clearBins {W : Nat} {a₀ : State} (s : State) (p : Nat) (bins : List Nat) (hw : 0x4080208 &&& W =
    0x4080208) (hs : Keeps W a₀ s) :
    Keeps W a₀ (clearBins s p bins) := by
  unfold clearBins
  try dsimp only
  with_reducible repeat' first
    | assumption | exact part_sub rfl hw | apply keeps_setDetect | apply keeps_updPipe

theorem keeps_flickReset {W : Nat} {a₀ : State} (s : State) (p : Nat) (hw : 0x4080208 &&& W = 0x4080208) (hs : Keeps W
    a₀ s) :
    Keeps W a₀ (flickReset s p) := by
  unfold flickReset
  try dsimp only
  with_reducible repeat' first
    | assumption | exact part_sub rfl hw | apply keeps_State_setF | apply keeps_clearBins | apply keeps_updPipe

theorem keeps_flickSwap {W : Nat} {a₀ : State} (s : State) (p : Nat) (old : Cfg) (new : Cfg) (hw : 0x4080208 &&& W =
    0x4080208) (hs : Keeps W a₀ s) :
    Keeps W a₀ (flickSwap s p old new) := by
  unfold flickSwap
  try dsimp only
  with_reducible repeat' first
    | assumption | exact part_sub rfl hw | apply keeps_clearBins | apply keeps_flickReset | apply keeps_ite | split

theorem keeps_stopSok {W : Nat} {a₀ : State} (s : State) (release : Bool) (hw : 0x108 &&& W = 0x108) (hs : Keeps W a₀
    s) :
    Keeps W a₀ (stopSok s release) := by
  unfold stopSok
  try dsimp only
  with_reducible repeat' first
    | assumption | exact part_sub rfl hw | exact id | intro _ | apply keeps_State_setF | apply keeps_ite | split
    | apply Keeps.set_isl

theorem keeps_setCause {W : Nat} {a₀ : State} (s : State) (k : Nat) (hw : 0x80308 &&& W = 0x80308) (hs : Keeps W a₀ s) :
    Keeps W a₀ (setCause s k) := by
  unfold setCause
  try dsimp only
  with_reducible repeat' first
    | assumption | exact part_sub rfl hw | apply keeps_State_ev | apply keeps_State_setF | apply keeps_stopSok
    | apply keeps_ite | split

theorem keeps_viewLost {W : Nat} {a₀ : State} (s : State) (st : Nat) (hw : 0x80308 &&& W = 0x80308) (hs : Keeps W a₀
    s) :
    Keeps W a₀ (viewLost s st) := by
  unfold viewLost
  try dsimp only
  with_reducible repeat' first
    | assumption | exact part_sub rfl hw | exact id | intro _ | apply keeps_setCause | apply keeps_ite | split
    | apply Keeps.set_isl

theorem keeps_violate {W : Nat} {a₀ : State} (s : State) (st : Nat) (hw : 0xc0308 &&& W = 0xc0308) (hs : Keeps W a₀ s) :
    Keeps W a₀ (violate s st) := by
  unfold violate
  try dsimp only
  with_reducible repeat' first
    | assumption | exact part_sub rfl hw | apply keeps_State_ev | apply keeps_State_report | apply keeps_State_setF
    | apply keeps_setFresh | apply keeps_setStale | apply keeps_viewLost | apply keeps_ite | split

theorem keeps_budgetExpiry {W : Nat} {a₀ : State} (s : State) (st : Nat) (hw : 0xc0308 &&& W = 0xc0308) (hs : Keeps W
    a₀ s) :
    Keeps W a₀ (budgetExpiry s st) := by
  unfold budgetExpiry
  try dsimp only
  with_reducible repeat' first
    | assumption | exact part_sub rfl hw | apply keeps_violate | apply keeps_ite | split

theorem keeps_freshSwap {W : Nat} {a₀ : State} (s : State) (p : Nat) (old : Cfg) (hw : 0xc0308 &&& W = 0xc0308) (hs :
    Keeps W a₀ s) :
    Keeps W a₀ (freshSwap s p old) := by
  unfold freshSwap
  try dsimp only
  with_reducible repeat' first
    | assumption | exact part_sub rfl hw | intro _ | apply keeps_budgetExpiry | apply keeps_freshStart
    | apply keeps_freshStop | apply keeps_setFresh | apply keeps_ite | apply keeps_foldl | apply keeps_foldl_first
    | dsimp only | split

theorem keeps_openStream {W : Nat} {a₀ : State} (s : State) (st : Nat) (cells : Nat) (hw : 0x4000000008 &&& W =
    0x4000000008) (hs : Keeps W a₀ s) :
    Keeps W a₀ (openStream s st cells) := by
  unfold openStream
  try dsimp only
  with_reducible repeat' first
    | assumption | exact part_sub rfl hw | apply keeps_enableQueue | apply keeps_startChannel | apply keeps_ite
    | split

theorem keeps_openStreams {W : Nat} {a₀ : State} (s : State) (p : Nat) (hw : 0x4000000008 &&& W = 0x4000000008) (hs :
    Keeps W a₀ s) :
    Keeps W a₀ (openStreams s p) := by
  unfold openStreams
  try dsimp only
  with_reducible repeat' first
    | assumption | exact part_sub rfl hw | intro _ | apply keeps_openStream | apply keeps_foldl
    | apply keeps_foldl_first | dsimp only

theorem keeps_setStore {W : Nat} {a₀ : State} (s : State) (st : Nat) (x : FsStore) (hw : 0x1000000000 &&& W =
    0x1000000000) (hs : Keeps W a₀ s) :
    Keeps W a₀ (setStore s st x) := by
  unfold setStore
  try dsimp only
  with_reducible repeat' first
    | assumption | exact part_sub rfl hw | exact id | intro _ | apply Keeps.set_fstore

theorem keeps_storeForget {W : Nat} {a₀ : State} (s : State) (st : Nat) (blocked : Bool) (hw : 0x1000000008 &&& W =
    0x1000000008) (hs : Keeps W a₀ s) :
    Keeps W a₀ (storeForget s st blocked) := by
  unfold storeForget
  try dsimp only
  with_reducible repeat' first
    | assumption | exact part_sub rfl hw | apply keeps_State_setF | apply keeps_setStore

theorem keeps_storeSwap {W : Nat} {a₀ : State} (s : State) (p : Nat) (old : Cfg) (new : Cfg) (hw : 0x1000000008 &&& W
    = 0x1000000008) (hs : Keeps W a₀ s) :
    Keeps W a₀ (storeSwap s p old new) := by
  unfold storeSwap
  try dsimp only
  with_reducible repeat' first
    | assumption | exact part_sub rfl hw | intro _ | apply keeps_storeForget | apply keeps_ite | apply keeps_foldl
    | apply keeps_foldl_first | dsimp only | split

theorem keeps_pipeSwap {W : Nat} {a₀ : State} (s : State) (p : Nat) (old : Cfg) (new : Cfg) (hw : 0x50040c0308 &&& W =
    0x50040c0308) (hs : Keeps W a₀ s) :
    Keeps W a₀ (pipeSwap s p old new) := by
  unfold pipeSwap
  try dsimp only
  with_reducible repeat' first
    | assumption | exact part_sub rfl hw | apply keeps_flickSwap | apply keeps_freshSwap | apply keeps_openStreams
    | apply keeps_storeSwap | apply keeps_updPipe | apply keeps_ite | split

theorem keeps_setPlace {W : Nat} {a₀ : State} (s : State) (t : Nat) (x : Place) (hw : 0x800008 &&& W = 0x800008) (hs :
    Keeps W a₀ s) :
    Keeps W a₀ (setPlace s t x) := by
  unfold setPlace
  try dsimp only
  with_reducible repeat' first
    | assumption | exact part_sub rfl hw | exact id | intro _ | apply keeps_State_setF | apply keeps_ite | split
    | apply Keeps.set_place

theorem keeps_swapSet {W : Nat} {a₀ : State} (s : State) (t : Nat) (x : Place) (hw : 0x50048c0318 &&& W =
    0x50048c0318) (hs : Keeps W a₀ s) :
    Keeps W a₀ (swapSet s t x) := by
  unfold swapSet
  try dsimp only
  with_reducible repeat' first
    | assumption | exact part_sub rfl hw | apply keeps_State_setF | apply keeps_State_setRn | apply keeps_copySet
    | apply keeps_pipeSwap | apply keeps_setPlace | apply keeps_ite | split

theorem keeps_commitAtFrame {W : Nat} {a₀ : State} (s : State) (t : Nat) (f : Int) (hw : 0x5005ec0318 &&& W =
    0x5005ec0318) (hs : Keeps W a₀ s) :
    Keeps W a₀ (commitAtFrame s t f) := by
  unfold commitAtFrame
  try dsimp only
  with_reducible repeat' first
    | assumption | exact part_sub rfl hw | apply keeps_endCommit | apply keeps_setReject | apply keeps_swapSet
    | apply keeps_ite | dsimp only | split

theorem keeps_updHeld {W : Nat} {a₀ : State} (s : State) (st : Nat) (hw : 0x8 &&& W = 0x8) (hs : Keeps W a₀ s) :
    Keeps W a₀ (updHeld s st) := by
  unfold updHeld
  try dsimp only
  with_reducible repeat' first
    | assumption | exact part_sub rfl hw | apply keeps_State_setF

theorem keeps_canvasBegin {W : Nat} {a₀ : State} (s : State) (c : Nat) (hw : 0x5805ed8318 &&& W = 0x5805ed8318) (hs :
    Keeps W a₀ s) :
    Keeps W a₀ (canvasBegin s c) := by
  unfold canvasBegin
  try dsimp only
  with_reducible repeat' first
    | assumption | exact part_sub rfl hw | exact id | intro _ | apply keeps_State_setRn | apply keeps_commitAtFrame
    | apply keeps_setCanvas | apply keeps_updHeld | apply keeps_foldl | apply keeps_foldl_first | dsimp only | split
    | apply Keeps.set_frameNo_frameAt

theorem keeps_canvasStart {W : Nat} {a₀ : State} (s : State) (c : Nat) (hw : 0x5805ed8318 &&& W = 0x5805ed8318) (hs :
    Keeps W a₀ s) :
    Keeps W a₀ (canvasStart s c) := by
  unfold canvasStart
  try dsimp only
  with_reducible repeat' first
    | assumption | exact part_sub rfl hw | apply keeps_State_bump | apply keeps_State_ev | apply keeps_canvasBegin
    | apply keeps_setCanvas | apply keeps_ite | split

theorem keeps_execCanvasFrameStart {W : Nat} {a₀ : State} (c : Nat) (s : State) (hw : 0x5805ed8318 &&& W =
    0x5805ed8318) (hs : Keeps W a₀ s) :
    KeepsOut W a₀ (execCanvasFrameStart c s) := by
  unfold execCanvasFrameStart
  try dsimp only
  with_reducible apply KeepsOut.next
  with_reducible repeat' first
    | assumption | exact part_sub rfl hw | apply keeps_canvasStart | apply keeps_hub

theorem keeps_hatchView {W : Nat} {a₀ : State} (s : State) (f : CvFrame) (c : Nat) (v : Nat) (hw : 0x800080308 &&& W =
    0x800080308) (hs : Keeps W a₀ s) :
    Keeps W a₀ (hatchView s f c v) := by
  unfold hatchView
  try dsimp only
  with_reducible repeat' first
    | assumption | exact part_sub rfl hw | apply keeps_State_evIf | apply keeps_State_report | apply keeps_State_setF
    | apply keeps_setCanvas | apply keeps_updCvFrame | apply keeps_viewLost | apply keeps_ite | dsimp only | split

theorem keeps_addJob {W : Nat} {a₀ : State} (s : State) (j : Job) (hw : 0x18000000 &&& W = 0x18000000) (hs : Keeps W
    a₀ s) :
    Keeps W a₀ (addJob s j) := by
  unfold addJob
  try dsimp only
  with_reducible repeat' first
    | assumption | exact part_sub rfl hw | exact id | intro _ | apply Keeps.set_jobs_nextJob

theorem keeps_sliceRelease {W : Nat} {a₀ : State} (s : State) (c : Nat) (pieces : Nat) (hw : 0x818080308 &&& W =
    0x818080308) (hs : Keeps W a₀ s) :
    Keeps W a₀ (sliceRelease s c pieces) := by
  unfold sliceRelease
  try dsimp only
  with_reducible repeat' first
    | assumption | exact part_sub rfl hw | intro _ | apply keeps_addJob | apply keeps_hatchView
    | apply keeps_setCanvas | apply keeps_updCvFrame | apply keeps_ite | apply keeps_foldl | apply keeps_foldl_first
    | dsimp only | split

theorem keeps_execCanvasSliceRelease {W : Nat} {a₀ : State} (c : Nat) (pieces : Nat) (s : State) (hw : 0x818080308 &&&
    W = 0x818080308) (hs : Keeps W a₀ s) :
    KeepsOut W a₀ (execCanvasSliceRelease c pieces s) := by
  unfold execCanvasSliceRelease
  try dsimp only
  with_reducible apply KeepsOut.next
  with_reducible repeat' first
    | assumption | exact part_sub rfl hw | apply keeps_hub | apply keeps_sliceRelease

theorem keeps_freeBytes {W : Nat} {a₀ : State} (s : State) (n : Nat) (hw : 0x4 &&& W = 0x4) (hs : Keeps W a₀ s) :
    Keeps W a₀ (freeBytes s n).2 := by
  unfold freeBytes
  try dsimp only
  with_reducible repeat' first
    | assumption | exact part_sub rfl hw | exact id | intro _ | apply Keeps.set_taken

theorem keeps_openLines {W : Nat} {a₀ : State} (s : State) (x1 : List OutLine) (hw : 0x4 &&& W = 0x4) (hs : Keeps W a₀
    s) :
    Keeps W a₀ (openLines s x1).2 := by
  induction x1 generalizing s with
  | nil =>
    unfold openLines
    with_reducible assumption
  | cons w ws ih =>
    unfold openLines
    try dsimp only
    with_reducible repeat' first
      | assumption | exact part_sub rfl hw | apply ih | apply keeps_freeBytes
      | refine keeps_of_pair (by assumption) ?_ | refine keeps_of_pair_first (by assumption) ?_
      | refine keeps_of_triple (by assumption) ?_ | dsimp only | split

theorem keeps_handCanvas {W : Nat} {a₀ : State} (s : State) (j : Job) (hw : 0x400000004 &&& W = 0x400000004) (hs :
    Keeps W a₀ s) :
    Keeps W a₀ (handCanvas s j) := by
  unfold handCanvas
  try dsimp only
  with_reducible repeat' first
    | assumption | exact part_sub rfl hw | apply keeps_addPkt | apply keeps_openLines | apply keeps_ite
    | refine keeps_of_pair (by assumption) ?_ | refine keeps_of_pair_first (by assumption) ?_
    | refine keeps_of_triple (by assumption) ?_ | dsimp only | split

theorem keeps_setAdmit {W : Nat} {a₀ : State} (s : State) (t : Nat) (a : Admit) (hw : 0x8 &&& W = 0x8) (hs : Keeps W
    a₀ s) :
    Keeps W a₀ (setAdmit s t a) := by
  unfold setAdmit
  try dsimp only
  with_reducible repeat' first
    | assumption | exact part_sub rfl hw | intro _ | apply keeps_State_setRn | apply keeps_foldl
    | apply keeps_foldl_first | dsimp only

theorem keeps_cmdCommit {W : Nat} {a₀ : State} (s : State) (c : Cmd) (hw : 0x1680208 &&& W = 0x1680208) (hs : Keeps W
    a₀ s) :
    Keeps W a₀ (cmdCommit s c) := by
  unfold cmdCommit
  try dsimp only
  with_reducible repeat' first
    | assumption | exact part_sub rfl hw | exact id | intro _ | apply keeps_State_setF | apply keeps_complete
    | apply keeps_ite | dsimp only | split | apply Keeps.set_commits

theorem keeps_onCmd {W : Nat} {a₀ : State} (s : State) (op : Nat) (f : State → Cmd → State) (hw : 0x200000 &&& W =
    0x200000) (hs : Keeps W a₀ s) (hf : ∀ (y0 : State) (y1 : Cmd), Keeps W a₀ y0 → Keeps W a₀ (f y0 y1)) :
    Keeps W a₀ (onCmd s op f) := by
  unfold onCmd
  try dsimp only
  with_reducible repeat' first
    | assumption | exact part_sub rfl hw | exact id | intro _ | apply hf | apply keeps_ite
    | refine keeps_of_pair (by assumption) ?_ | refine keeps_of_pair_first (by assumption) ?_
    | refine keeps_of_triple (by assumption) ?_ | dsimp only | split | apply Keeps.set_ring

theorem keeps_execCommit {W : Nat} {a₀ : State} (s : State) (hw : 0x1680208 &&& W = 0x1680208) (hs : Keeps W a₀ s) :
    KeepsOut W a₀ (execCommit s) := by
  unfold execCommit
  try dsimp only
  with_reducible apply KeepsOut.next
  with_reducible repeat' first
    | assumption | exact part_sub rfl hw | intro _ | apply keeps_cmdCommit | apply keeps_hub | apply keeps_onCmd
    | refine keeps_of_pair (by assumption) ?_ | refine keeps_of_pair_first (by assumption) ?_
    | refine keeps_of_triple (by assumption) ?_ | dsimp only

theorem keeps_armCommit {W : Nat} {a₀ : State} (s : State) (c : CommitRec) (a : Admit) (hw : 0x1680208 &&& W =
    0x1680208) (hs : Keeps W a₀ s) :
    Keeps W a₀ (armCommit s c a) := by
  unfold armCommit
  try dsimp only
  with_reducible repeat' first
    | assumption | exact part_sub rfl hw | exact id | intro _ | apply keeps_State_setF | apply keeps_State_setRn
    | apply keeps_endCommit | apply keeps_ite | split | apply Keeps.set_commits

theorem keeps_commitCheck {W : Nat} {a₀ : State} (s : State) (hw : 0x5005ec0318 &&& W = 0x5005ec0318) (hs : Keeps W a₀
    s) :
    Keeps W a₀ (commitCheck s) := by
  unfold commitCheck
  try dsimp only
  with_reducible repeat' first
    | assumption | exact part_sub rfl hw | apply keeps_armCommit | apply keeps_endCommit | apply keeps_setAdmit
    | apply keeps_setReject | apply keeps_swapSet | apply keeps_ite | dsimp only | split

theorem keeps_execCommitCheck {W : Nat} {a₀ : State} (s : State) (hw : 0x5005ec0318 &&& W = 0x5005ec0318) (hs : Keeps
    W a₀ s) :
    KeepsOut W a₀ (execCommitCheck s) := by
  unfold execCommitCheck
  try dsimp only
  with_reducible apply KeepsOut.next
  with_reducible repeat' first
    | assumption | exact part_sub rfl hw | apply keeps_commitCheck | apply keeps_hub

theorem keeps_recheckArmed {W : Nat} {a₀ : State} (s : State) (t : Nat) (excl : List Nat) (hw : 0x1680208 &&& W =
    0x1680208) (hs : Keeps W a₀ s) :
    Keeps W a₀ (recheckArmed s t excl) := by
  unfold recheckArmed
  try dsimp only
  with_reducible repeat' first
    | assumption | exact part_sub rfl hw | exact id | intro _ | apply keeps_endCommit | apply keeps_setAdmit
    | apply keeps_setReject | apply keeps_ite | dsimp only | split | apply Keeps.set_commits

theorem keeps_fabReport {W : Nat} {a₀ : State} (s : State) (inst : Nat) (code : Nat) (hw : 0x100 &&& W = 0x100) (hs :
    Keeps W a₀ s) :
    Keeps W a₀ (fabReport s inst code) := by
  unfold fabReport
  try dsimp only
  with_reducible repeat' first
    | assumption | exact part_sub rfl hw | apply keeps_State_report

theorem keeps_electRoot {W : Nat} {a₀ : State} (s : State) (hw : 0x1000008030c &&& W = 0x1000008030c) (hs : Keeps W a₀
    s) :
    Keeps W a₀ (electRoot s) := by
  unfold electRoot
  try dsimp only
  with_reducible repeat' first
    | assumption | exact part_sub rfl hw | exact id | intro _ | apply keeps_State_ev | apply keeps_State_setF
    | apply keeps_State_setPair | apply keeps_fabReport | apply keeps_takeFree | apply keeps_ite
    | refine keeps_of_pair (by assumption) ?_ | refine keeps_of_pair_first (by assumption) ?_
    | refine keeps_of_triple (by assumption) ?_ | dsimp only | split | apply Keeps.set_fabric

theorem keeps_fabState {W : Nat} {a₀ : State} (s : State) (hw : 0x8 &&& W = 0x8) (hs : Keeps W a₀ s) :
    Keeps W a₀ (fabState s) := by
  unfold fabState
  try dsimp only
  with_reducible repeat' first
    | assumption | exact part_sub rfl hw | apply keeps_State_setF | apply keeps_ite | split

theorem keeps_fabStatus {W : Nat} {a₀ : State} (s : State) (hw : 0x8 &&& W = 0x8) (hs : Keeps W a₀ s) :
    Keeps W a₀ (fabStatus s) := by
  unfold fabStatus
  try dsimp only
  with_reducible repeat' first
    | assumption | exact part_sub rfl hw | intro _ | apply keeps_State_setF | apply keeps_ite | apply keeps_foldl
    | apply keeps_foldl_first | dsimp only | split

theorem keeps_failover {W : Nat} {a₀ : State} (s : State) (k : Nat) (hw : 0x80308 &&& W = 0x80308) (hs : Keeps W a₀ s) :
    Keeps W a₀ (failover s k) := by
  unfold failover
  try dsimp only
  with_reducible repeat' first
    | assumption | exact part_sub rfl hw | intro _ | apply keeps_State_ev | apply keeps_State_setF
    | apply keeps_fabReport | apply keeps_ite | apply keeps_foldl | apply keeps_foldl_first | dsimp only | split

theorem keeps_rerouted {W : Nat} {a₀ : State} (s : State) (l : List FabMsg) (hw : 0x10000000000 &&& W = 0x10000000000)
    (hs : Keeps W a₀ s) :
    Keeps W a₀ (rerouted s l) := by
  unfold rerouted
  try dsimp only
  with_reducible repeat' first
    | assumption | exact part_sub rfl hw | intro _ | apply keeps_portSend | apply keeps_foldl
    | apply keeps_foldl_first | dsimp only | split

theorem keeps_portDrop {W : Nat} {a₀ : State} (s : State) (k : Nat) (hw : 0x1000008030c &&& W = 0x1000008030c) (hs :
    Keeps W a₀ s) :
    Keeps W a₀ (portDrop s k) := by
  unfold portDrop
  try dsimp only
  with_reducible repeat' first
    | assumption | exact part_sub rfl hw | apply keeps_State_bump | apply keeps_State_ev | apply keeps_State_setF
    | apply keeps_State_setPair | apply keeps_electRoot | apply keeps_fabReport | apply keeps_fabState
    | apply keeps_fabStatus | apply keeps_failover | apply keeps_rerouted | apply keeps_setFabPort | apply keeps_ite
    | split

theorem keeps_enterPort {W : Nat} {a₀ : State} (s : State) (k : Nat) (st : Nat) (hw : 0x10000000008 &&& W =
    0x10000000008) (hs : Keeps W a₀ s) :
    Keeps W a₀ (enterPort s k st) := by
  unfold enterPort
  try dsimp only
  with_reducible repeat' first
    | assumption | exact part_sub rfl hw | apply keeps_State_setF | apply keeps_updFabPort

theorem keeps_trainPorts {W : Nat} {a₀ : State} (s : State) (hw : 0x10000000008 &&& W = 0x10000000008) (hs : Keeps W
    a₀ s) :
    Keeps W a₀ (trainPorts s) := by
  unfold trainPorts
  try dsimp only
  with_reducible repeat' first
    | assumption | exact part_sub rfl hw | intro _ | apply keeps_enterPort | apply keeps_ite | apply keeps_foldl
    | apply keeps_foldl_first | dsimp only | split

theorem keeps_evalPorts {W : Nat} {a₀ : State} (s : State) (hw : 0x1000008030c &&& W = 0x1000008030c) (hs : Keeps W a₀
    s) :
    Keeps W a₀ (evalPorts s) := by
  unfold evalPorts
  try dsimp only
  with_reducible repeat' first
    | assumption | exact part_sub rfl hw | intro _ | apply keeps_portDrop | apply keeps_trainPorts | apply keeps_ite
    | apply keeps_foldl | apply keeps_foldl_first | dsimp only | split

theorem keeps_domRequest {W : Nat} {a₀ : State} (s : State) (d : Nat) (req : Nat) (hw : 0x1000008034c &&& W =
    0x1000008034c) (hs : Keeps W a₀ s) :
    Keeps W a₀ (domRequest s d req) := by
  unfold domRequest
  try dsimp only
  with_reducible repeat' first
    | assumption | exact part_sub rfl hw | apply keeps_State_ev | apply keeps_State_setF | apply keeps_domDrain
    | apply keeps_evalPorts | apply keeps_ite | dsimp only | split

theorem keeps_execDomainOnRequest {W : Nat} {a₀ : State} (d : Nat) (s : State) (hw : 0x1000008034c &&& W =
    0x1000008034c) (hs : Keeps W a₀ s) :
    KeepsOut W a₀ (execDomainOnRequest d s) := by
  unfold execDomainOnRequest
  try dsimp only
  with_reducible apply KeepsOut.next
  with_reducible repeat' first
    | assumption | exact part_sub rfl hw | apply keeps_domRequest | apply keeps_hub

theorem keeps_execDomainSelfRefreshRequest {W : Nat} {a₀ : State} (d : Nat) (s : State) (hw : 0x1000008034c &&& W =
    0x1000008034c) (hs : Keeps W a₀ s) :
    KeepsOut W a₀ (execDomainSelfRefreshRequest d s) := by
  unfold execDomainSelfRefreshRequest
  try dsimp only
  with_reducible apply KeepsOut.next
  with_reducible repeat' first
    | assumption | exact part_sub rfl hw | apply keeps_domRequest | apply keeps_hub

theorem keeps_execDomainOffRequest {W : Nat} {a₀ : State} (d : Nat) (s : State) (hw : 0x1000008034c &&& W =
    0x1000008034c) (hs : Keeps W a₀ s) :
    KeepsOut W a₀ (execDomainOffRequest d s) := by
  unfold execDomainOffRequest
  try dsimp only
  with_reducible apply KeepsOut.next
  with_reducible repeat' first
    | assumption | exact part_sub rfl hw | apply keeps_domRequest | apply keeps_hub

theorem keeps_clamp {W : Nat} {a₀ : State} (s : State) (d : Nat) (hw : 0x40 &&& W = 0x40) (hs : Keeps W a₀ s) :
    Keeps W a₀ (clamp s d) := by
  unfold clamp
  try dsimp only
  with_reducible repeat' first
    | assumption | exact part_sub rfl hw | exact id | intro _ | apply Keeps.set_pow

theorem keeps_domDrained {W : Nat} {a₀ : State} (s : State) (d : Nat) (hw : 0x40 &&& W = 0x40) (hs : Keeps W a₀ s) :
    Keeps W a₀ (domDrained s d) := by
  unfold domDrained
  try dsimp only
  with_reducible repeat' first
    | assumption | exact part_sub rfl hw | apply keeps_clamp | apply keeps_ite | split

theorem keeps_execDomainDrained {W : Nat} {a₀ : State} (d : Nat) (s : State) (hw : 0x40 &&& W = 0x40) (hs : Keeps W a₀
    s) :
    KeepsOut W a₀ (execDomainDrained d s) := by
  unfold execDomainDrained
  try dsimp only
  with_reducible apply KeepsOut.next
  with_reducible repeat' first
    | assumption | exact part_sub rfl hw | apply keeps_domDrained | apply keeps_hub

theorem keeps_opsForced {W : Nat} {a₀ : State} (s : State) (d : Nat) (hw : 0x1408408030c &&& W = 0x1408408030c) (hs :
    Keeps W a₀ s) :
    Keeps W a₀ (opsForced s d) := by
  unfold opsForced
  try dsimp only
  with_reducible repeat' first
    | assumption | exact part_sub rfl hw | intro _ | apply keeps_freeOp | apply keeps_haltChan | apply keeps_ite
    | apply keeps_foldl | apply keeps_foldl_first | dsimp only | split

theorem keeps_domForced {W : Nat} {a₀ : State} (s : State) (d : Nat) (hw : 0x1408408034c &&& W = 0x1408408034c) (hs :
    Keeps W a₀ s) :
    Keeps W a₀ (domForced s d) := by
  unfold domForced
  try dsimp only
  with_reducible repeat' first
    | assumption | exact part_sub rfl hw | apply keeps_State_ev | apply keeps_State_report | apply keeps_State_setF
    | apply keeps_clamp | apply keeps_opsForced | apply keeps_ite | split

theorem keeps_execDomainForced {W : Nat} {a₀ : State} (d : Nat) (s : State) (hw : 0x1408408034c &&& W = 0x1408408034c)
    (hs : Keeps W a₀ s) :
    KeepsOut W a₀ (execDomainForced d s) := by
  unfold execDomainForced
  try dsimp only
  with_reducible apply KeepsOut.next
  with_reducible repeat' first
    | assumption | exact part_sub rfl hw | apply keeps_domForced | apply keeps_hub

theorem keeps_setLane {W : Nat} {a₀ : State} (s : State) (m : Nat) (x : Lane) (hw : 0x8000000000 &&& W = 0x8000000000)
    (hs : Keeps W a₀ s) :
    Keeps W a₀ (setLane s m x) := by
  unfold setLane
  try dsimp only
  with_reducible repeat' first
    | assumption | exact part_sub rfl hw | exact id | exact ksorted_kputD | intro _ | apply Keeps.set_lane

theorem keeps_updLane {W : Nat} {a₀ : State} (s : State) (m : Nat) (g : Lane → Lane) (hw : 0x8000000000 &&& W =
    0x8000000000) (hs : Keeps W a₀ s) :
    Keeps W a₀ (updLane s m g) := by
  unfold updLane
  try dsimp only
  with_reducible repeat' first
    | assumption | exact part_sub rfl hw | apply keeps_setLane

theorem keeps_laneStop {W : Nat} {a₀ : State} (s : State) (m : Nat) (hw : 0x8000000008 &&& W = 0x8000000008) (hs :
    Keeps W a₀ s) :
    Keeps W a₀ (laneStop s m) := by
  unfold laneStop
  try dsimp only
  with_reducible repeat' first
    | assumption | exact part_sub rfl hw | apply keeps_State_setF | apply keeps_updLane

theorem keeps_memClear {W : Nat} {a₀ : State} (s : State) (m : Nat) (hw : 0x60000000000 &&& W = 0x60000000000) (hs :
    Keeps W a₀ s) :
    Keeps W a₀ (memClear s m) := by
  unfold memClear
  exact Keeps.set_mem_memPoison hs hw (fun h => ⟨ksorted_kfilter h.1, knoDefault_kfilter h.2⟩)

theorem keeps_pcieWake {W : Nat} {a₀ : State} (s : State) (hw : 0x8 &&& W = 0x8) (hs : Keeps W a₀ s) :
    Keeps W a₀ (pcieWake s) := by
  unfold pcieWake
  try dsimp only
  with_reducible repeat' first
    | assumption | exact part_sub rfl hw | apply keeps_State_setF | apply keeps_ite | split

theorem keeps_domOff {W : Nat} {a₀ : State} (s : State) (d : Nat) (hw : 0x68000080248 &&& W = 0x68000080248) (hs :
    Keeps W a₀ s) :
    Keeps W a₀ (domOff s d) := by
  unfold domOff
  try dsimp only
  with_reducible repeat' first
    | assumption | exact part_sub rfl hw | exact id | intro _ | apply keeps_State_ev | apply keeps_State_setF
    | apply keeps_State_setRn | apply keeps_laneStop | apply keeps_memClear | apply keeps_pcieWake | apply keeps_ite
    | apply keeps_foldl | apply keeps_foldl_first | dsimp only | split | apply Keeps.set_pow

theorem keeps_execDomainOffDone {W : Nat} {a₀ : State} (d : Nat) (s : State) (hw : 0x68000080248 &&& W =
    0x68000080248) (hs : Keeps W a₀ s) :
    KeepsOut W a₀ (execDomainOffDone d s) := by
  unfold execDomainOffDone
  try dsimp only
  with_reducible apply KeepsOut.next
  with_reducible repeat' first
    | assumption | exact part_sub rfl hw | apply keeps_domOff | apply keeps_hub

theorem keeps_hoistResume {W : Nat} {a₀ : State} (s : State) (d : Nat) (hw : 0x8 &&& W = 0x8) (hs : Keeps W a₀ s) :
    Keeps W a₀ (hoistResume s d) := by
  unfold hoistResume
  try dsimp only
  with_reducible repeat' first
    | assumption | exact part_sub rfl hw | intro _ | apply keeps_setHState | apply keeps_ite | apply keeps_foldl
    | apply keeps_foldl_first | dsimp only | split

theorem keeps_laneStart {W : Nat} {a₀ : State} (s : State) (m : Nat) (hw : 0x8000000008 &&& W = 0x8000000008) (hs :
    Keeps W a₀ s) :
    Keeps W a₀ (laneStart s m) := by
  unfold laneStart
  try dsimp only
  with_reducible repeat' first
    | assumption | exact part_sub rfl hw | apply keeps_State_setF | apply keeps_updLane

theorem keeps_domUp {W : Nat} {a₀ : State} (s : State) (d : Nat) (hw : 0x1800008030c &&& W = 0x1800008030c) (hs :
    Keeps W a₀ s) :
    Keeps W a₀ (domUp s d) := by
  unfold domUp
  try dsimp only
  with_reducible repeat' first
    | assumption | exact part_sub rfl hw | intro _ | apply keeps_State_ev | apply keeps_State_setF
    | apply keeps_evalPorts | apply keeps_hoistResume | apply keeps_laneStart | apply keeps_ite | apply keeps_foldl
    | apply keeps_foldl_first | dsimp only | split

theorem keeps_execDomainPowerUpDone {W : Nat} {a₀ : State} (d : Nat) (s : State) (hw : 0x1800008030c &&& W =
    0x1800008030c) (hs : Keeps W a₀ s) :
    KeepsOut W a₀ (execDomainPowerUpDone d s) := by
  unfold execDomainPowerUpDone
  try dsimp only
  with_reducible apply KeepsOut.next
  with_reducible repeat' first
    | assumption | exact part_sub rfl hw | apply keeps_domUp | apply keeps_hub

theorem keeps_standbyEnter {W : Nat} {a₀ : State} (s : State) (hw : 0x400000000348 &&& W = 0x400000000348) (hs : Keeps
    W a₀ s) :
    Keeps W a₀ (standbyEnter s) := by
  unfold standbyEnter
  try dsimp only
  with_reducible repeat' first
    | assumption | exact part_sub rfl hw | exact id | intro _ | apply keeps_State_setF | apply keeps_State_setRn
    | apply keeps_commitLog | apply keeps_logRec | apply keeps_stopSok | apply keeps_ite | apply keeps_foldl
    | apply keeps_foldl_first | dsimp only | split | apply Keeps.set_pow_pcie

theorem keeps_standbyWrite {W : Nat} {a₀ : State} (s : State) (v : Word) (hw : 0x400000080348 &&& W = 0x400000080348)
    (hs : Keeps W a₀ s) :
    Keeps W a₀ (standbyWrite s v) := by
  unfold standbyWrite
  try dsimp only
  with_reducible repeat' first
    | assumption | exact part_sub rfl hw | apply keeps_State_ev | apply keeps_standbyEnter | apply keeps_ite | split

theorem keeps_execStandbyEnter {W : Nat} {a₀ : State} (v : Word) (s : State) (hw : 0x400000080348 &&& W =
    0x400000080348) (hs : Keeps W a₀ s) :
    KeepsOut W a₀ (execStandbyEnter v s) := by
  unfold execStandbyEnter
  try dsimp only
  with_reducible apply KeepsOut.next
  with_reducible repeat' first
    | assumption | exact part_sub rfl hw | apply keeps_hub | apply keeps_standbyWrite

theorem keeps_standbyReached {W : Nat} {a₀ : State} (s : State) (hw : 0x60000000048 &&& W = 0x60000000048) (hs : Keeps
    W a₀ s) :
    Keeps W a₀ (standbyReached s) := by
  have hp : 0x8 &&& W = 0x8 := part_sub rfl hw
  unfold standbyReached
  refine keeps_ite ?_ hs
  refine Keeps.set_pow_mem_memPoison ?_ (part_sub rfl hw) (fun _ => memory_wf_reset)
  refine keeps_State_setF _ _ _ hp (keeps_foldl hs (fun x y h => ?_))
  exact keeps_ite h (keeps_State_setF _ _ _ hp h)

theorem keeps_aon {W : Nat} {a₀ : State} (s : State) (t : State) (hs : Keeps W a₀ s) (ht : Keeps W a₀ t) :
    Keeps W a₀ (aon s t) := by
  unfold aon
  try dsimp only
  with_reducible repeat' first
    | assumption | apply keeps_ite | split

theorem keeps_execStandbyReached {W : Nat} {a₀ : State} (s : State) (hw : 0x60000000048 &&& W = 0x60000000048) (hs :
    Keeps W a₀ s) :
    KeepsOut W a₀ (execStandbyReached s) := by
  unfold execStandbyReached
  try dsimp only
  with_reducible apply KeepsOut.next
  with_reducible repeat' first
    | assumption | exact part_sub rfl hw | apply keeps_aon | apply keeps_standbyReached

theorem keeps_clkWindow {W : Nat} {a₀ : State} (s : State) (i : Nat) (khz : Nat) (ringKhz : Nat) (hw : 0x80348 &&& W =
    0x80348) (hs : Keeps W a₀ s) :
    Keeps W a₀ (clkWindow s i khz ringKhz) := by
  unfold clkWindow
  try dsimp only
  with_reducible repeat' first
    | assumption | exact part_sub rfl hw | exact id | intro _ | apply keeps_State_ev | apply keeps_State_report
    | apply keeps_State_setF | apply keeps_ite | dsimp only | split | apply Keeps.set_pow

theorem keeps_execClockMonitorWindow {W : Nat} {a₀ : State} (i : Nat) (khz : Nat) (ringKhz : Nat) (s : State) (hw :
    0x80348 &&& W = 0x80348) (hs : Keeps W a₀ s) :
    KeepsOut W a₀ (execClockMonitorWindow i khz ringKhz s) := by
  unfold execClockMonitorWindow
  try dsimp only
  with_reducible apply KeepsOut.next
  with_reducible repeat' first
    | assumption | exact part_sub rfl hw | apply keeps_aon | apply keeps_clkWindow

theorem keeps_setEsc {W : Nat} {a₀ : State} (s : State) (p : Nat) (e : Esc) (hw : 0x4000 &&& W = 0x4000) (hs : Keeps W
    a₀ s) :
    Keeps W a₀ (setEsc s p e) := by
  unfold setEsc
  try dsimp only
  with_reducible repeat' first
    | assumption | exact part_sub rfl hw | exact id | intro _ | apply Keeps.set_esc

theorem keeps_setEntries {W : Nat} {a₀ : State} (s : State) (p : Nat) (l : List EscEntry) (hw : 0x4008 &&& W = 0x4008)
    (hs : Keeps W a₀ s) :
    Keeps W a₀ (setEntries s p l) := by
  unfold setEntries
  try dsimp only
  with_reducible repeat' first
    | assumption | exact part_sub rfl hw | apply keeps_State_setF | apply keeps_setEsc

theorem keeps_profileLoad {W : Nat} {a₀ : State} (s : State) (p : Nat) (hw : 0x84208 &&& W = 0x84208) (hs : Keeps W a₀
    s) :
    Keeps W a₀ (profileLoad s p) := by
  unfold profileLoad
  try dsimp only
  with_reducible repeat' first
    | assumption | exact part_sub rfl hw | apply keeps_State_ev | apply keeps_State_setF | apply keeps_setEsc
    | apply keeps_ite | dsimp only | split

theorem keeps_settingsDone {W : Nat} {a₀ : State} (s : State) (c : Cmd) (status : Nat) (tag : Nat) (id : Nat)
    (submitted : Nat) (reached : Nat) (hw : 0x680208 &&& W = 0x680208) (hs : Keeps W a₀ s) :
    Keeps W a₀ (settingsDone s c status tag id submitted reached) := by
  unfold settingsDone
  try dsimp only
  with_reducible repeat' first
    | assumption | exact part_sub rfl hw | apply keeps_complete

theorem keeps_failEntry {W : Nat} {a₀ : State} (s : State) (p : Nat) (id : Nat) (status : Nat) (hw : 0x684308 &&& W =
    0x684308) (hs : Keeps W a₀ s) :
    Keeps W a₀ (failEntry s p id status) := by
  unfold failEntry
  try dsimp only
  with_reducible repeat' first
    | assumption | exact part_sub rfl hw | apply keeps_State_ev | apply keeps_State_report | apply keeps_setEntries
    | apply keeps_settingsDone | dsimp only | split

theorem keeps_unburst {W : Nat} {a₀ : State} (s : State) (p : Nat) (id : Nat) (hw : 0x4000 &&& W = 0x4000) (hs : Keeps
    W a₀ s) :
    Keeps W a₀ (unburst s p id) := by
  unfold unburst
  try dsimp only
  with_reducible repeat' first
    | assumption | exact part_sub rfl hw | apply keeps_setEsc | apply keeps_ite | dsimp only | split

theorem keeps_failAll {W : Nat} {a₀ : State} (s : State) (p : Nat) (status : Nat) (hw : 0x684308 &&& W = 0x684308) (hs
    : Keeps W a₀ s) :
    Keeps W a₀ (failAll s p status) := by
  unfold failAll
  try dsimp only
  with_reducible repeat' first
    | assumption | exact part_sub rfl hw | intro _ | apply keeps_failEntry | apply keeps_setEsc | apply keeps_ite
    | apply keeps_foldl | apply keeps_foldl_first | dsimp only | split

theorem keeps_failBus {W : Nat} {a₀ : State} (s : State) (n : Nat) (hw : 0x684308 &&& W = 0x684308) (hs : Keeps W a₀
    s) :
    Keeps W a₀ (failBus s n) := by
  unfold failBus
  try dsimp only
  with_reducible repeat' first
    | assumption | exact part_sub rfl hw | intro _ | apply keeps_failAll | apply keeps_setEsc | apply keeps_foldl
    | apply keeps_foldl_first | dsimp only

theorem keeps_lateEntry {W : Nat} {a₀ : State} (x0 : Nat) (x1 : State) (x2 : Nat) (x3 : EscProfile) (x4 : Nat) (hw :
    0x684308 &&& W = 0x684308) (hx1 : Keeps W a₀ x1) :
    Keeps W a₀ (lateEntry x0 x1 x2 x3 x4) := by
  induction x0 generalizing x1 x2 x3 x4 with
  | zero =>
    unfold lateEntry
    with_reducible assumption
  | succ n ih =>
    unfold lateEntry
    try dsimp only
    with_reducible repeat' first
      | assumption | exact part_sub rfl hw | intro _ | apply ih | apply keeps_State_ev | apply keeps_State_report
      | apply keeps_failEntry | apply keeps_setEsc | apply keeps_unburst | apply keeps_ite | apply keeps_foldl
      | apply keeps_foldl_first | dsimp only | split

theorem keeps_addBurst {W : Nat} {a₀ : State} (s : State) (p : Nat) (pr : EscProfile) (l : List BurstTxn) (hw : 0x4000
    &&& W = 0x4000) (hs : Keeps W a₀ s) :
    Keeps W a₀ (addBurst s p pr l) := by
  unfold addBurst
  try dsimp only
  with_reducible repeat' first
    | assumption | exact part_sub rfl hw | apply keeps_setEsc | apply keeps_ite | split

theorem keeps_acceptSettings {W : Nat} {a₀ : State} (s : State) (c : Cmd) (p : Nat) (pr : EscProfile) (bs : List Byte)
    (hw : 0x684308 &&& W = 0x684308) (hs : Keeps W a₀ s) :
    Keeps W a₀ (acceptSettings s c p pr bs) := by
  unfold acceptSettings
  try dsimp only
  with_reducible repeat' first
    | assumption | exact part_sub rfl hw | apply keeps_addBurst | apply keeps_lateEntry | apply keeps_setEntries
    | apply keeps_setEsc | apply keeps_ite | split

theorem keeps_cmdSettings {W : Nat} {a₀ : State} (s : State) (c : Cmd) (hw : 0x684308 &&& W = 0x684308) (hs : Keeps W
    a₀ s) :
    Keeps W a₀ (cmdSettings s c) := by
  unfold cmdSettings
  try dsimp only
  with_reducible repeat' first
    | assumption | exact part_sub rfl hw | apply keeps_acceptSettings | apply keeps_complete
    | apply keeps_settingsDone | apply keeps_ite | dsimp only | split

theorem keeps_tryEffect {W : Nat} {a₀ : State} (s : State) (p : Nat) (t : Int) (hw : 0x684208 &&& W = 0x684208) (hs :
    Keeps W a₀ s) :
    Keeps W a₀ (tryEffect s p t) := by
  unfold tryEffect
  try dsimp only
  with_reducible repeat' first
    | assumption | exact part_sub rfl hw | intro _ | apply keeps_setEntries | apply keeps_setEsc
    | apply keeps_settingsDone | apply keeps_ite | apply keeps_foldl | apply keeps_foldl_first | dsimp only | split

theorem keeps_addLedger {W : Nat} {a₀ : State} (s : State) (p : Nat) (r : LedgerRec) (hw : 0x4008 &&& W = 0x4008) (hs
    : Keeps W a₀ s) :
    Keeps W a₀ (addLedger s p r) := by
  unfold addLedger
  try dsimp only
  with_reducible repeat' first
    | assumption | exact part_sub rfl hw | apply keeps_State_setRn | apply keeps_setEsc

theorem keeps_ledgerFrame {W : Nat} {a₀ : State} (s : State) (p : Nat) (f : Int) (hw : 0x684208 &&& W = 0x684208) (hs
    : Keeps W a₀ s) :
    Keeps W a₀ (ledgerFrame s p f) := by
  unfold ledgerFrame
  try dsimp only
  with_reducible repeat' first
    | assumption | exact part_sub rfl hw | intro _ | apply keeps_addLedger | apply keeps_setEsc
    | apply keeps_tryEffect | apply keeps_ite | apply keeps_foldl | apply keeps_foldl_first | dsimp only | split

theorem keeps_lateLedger {W : Nat} {a₀ : State} (s : State) (p : Nat) (id : Nat) (t0 : Int) (t1 : Int) (sent : Bool)
    (data : KMap (List Byte)) (hw : 0x4008 &&& W = 0x4008) (hs : Keeps W a₀ s) :
    Keeps W a₀ (lateLedger s p id t0 t1 sent data) := by
  unfold lateLedger
  try dsimp only
  with_reducible repeat' first
    | assumption | exact part_sub rfl hw | apply keeps_State_setRn | apply keeps_setEsc | apply keeps_ite
    | dsimp only | split

theorem keeps_judgeLate {W : Nat} {a₀ : State} (s : State) (p : Nat) (pr : EscProfile) (b : Burst) (hw : 0x684308 &&&
    W = 0x684308) (hs : Keeps W a₀ s) :
    Keeps W a₀ (judgeLate s p pr b) := by
  unfold judgeLate
  try dsimp only
  with_reducible repeat' first
    | assumption | exact part_sub rfl hw | intro _ | apply keeps_State_bump | apply keeps_lateEntry
    | apply keeps_lateLedger | apply keeps_setEsc | apply keeps_ite | apply keeps_foldl | apply keeps_foldl_first
    | dsimp only | split

theorem keeps_judgeOk {W : Nat} {a₀ : State} (s : State) (p : Nat) (pr : EscProfile) (b : Burst) (hw : 0x684208 &&& W
    = 0x684208) (hs : Keeps W a₀ s) :
    Keeps W a₀ (judgeOk s p pr b) := by
  unfold judgeOk
  try dsimp only
  with_reducible repeat' first
    | assumption | exact part_sub rfl hw | intro _ | apply keeps_setEsc | apply keeps_tryEffect | apply keeps_ite
    | apply keeps_foldl | apply keeps_foldl_first | dsimp only | split

theorem keeps_setRunning {W : Nat} {a₀ : State} (s : State) (p : Nat) (b : Option Burst) (hw : 0x4000 &&& W = 0x4000)
    (hs : Keeps W a₀ s) :
    Keeps W a₀ (setRunning s p b) := by
  unfold setRunning
  try dsimp only
  with_reducible repeat' first
    | assumption | exact part_sub rfl hw | apply keeps_setEsc | apply keeps_ite | split

theorem keeps_judge {W : Nat} {a₀ : State} (s : State) (p : Nat) (pr : EscProfile) (b : Burst) (hw : 0x684308 &&& W =
    0x684308) (hs : Keeps W a₀ s) :
    Keeps W a₀ (judge s p pr b) := by
  unfold judge
  try dsimp only
  with_reducible repeat' first
    | assumption | exact part_sub rfl hw | apply keeps_judgeLate | apply keeps_judgeOk | apply keeps_setRunning
    | apply keeps_ite | split

theorem keeps_burstTxnEnd {W : Nat} {a₀ : State} (s : State) (p : Nat) (n : Nat) (result : Nat) (sent : Bool) (hw :
    0x684308 &&& W = 0x684308) (hs : Keeps W a₀ s) :
    Keeps W a₀ (burstTxnEnd s p n result sent) := by
  unfold burstTxnEnd
  try dsimp only
  with_reducible repeat' first
    | assumption | exact part_sub rfl hw | apply keeps_failBus | apply keeps_judge | apply keeps_setRunning
    | apply keeps_ite | dsimp only | split

theorem keeps_settle {W : Nat} {a₀ : State} (s : State) (p : Nat) (f : Int) (entry : Nat) (state : Nat) (hw : 0x84308
    &&& W = 0x84308) (hs : Keeps W a₀ s) :
    Keeps W a₀ (settle s p f entry state) := by
  unfold settle
  try dsimp only
  with_reducible repeat' first
    | assumption | exact part_sub rfl hw | apply keeps_State_bump | apply keeps_State_ev | apply keeps_State_report
    | apply keeps_State_setRn | apply keeps_setEsc | apply keeps_ite | split

theorem keeps_verifyFrame {W : Nat} {a₀ : State} (s : State) (p : Nat) (f : Int) (top : List (List Byte)) (bottom :
    List (List Byte)) (invalid : Bool) (final : Bool) (hw : 0x84308 &&& W = 0x84308) (hs : Keeps W a₀ s) :
    Keeps W a₀ (verifyFrame s p f top bottom invalid final) := by
  unfold verifyFrame
  try dsimp only
  with_reducible repeat' first
    | assumption | exact part_sub rfl hw | apply keeps_settle | apply keeps_ite | dsimp only | split

theorem keeps_escStart {W : Nat} {a₀ : State} (s : State) (p : Nat) (hw : 0x4008 &&& W = 0x4008) (hs : Keeps W a₀ s) :
    Keeps W a₀ (escStart s p) := by
  unfold escStart
  try dsimp only
  with_reducible repeat' first
    | assumption | exact part_sub rfl hw | apply keeps_State_setF | apply keeps_State_setRn | apply keeps_setEsc

theorem keeps_onFabric {W : Nat} {a₀ : State} (s : State) (t : State) (hs : Keeps W a₀ s) (ht : Keeps W a₀ t) :
    KeepsOut W a₀ (onFabric s t) := by
  unfold onFabric
  try dsimp only
  with_reducible apply KeepsOut.next
  with_reducible repeat' first
    | assumption | apply keeps_hub | apply keeps_ite | split

theorem keeps_fabOff {W : Nat} {a₀ : State} (s : State) (hw : 0x1000008030c &&& W = 0x1000008030c) (hs : Keeps W a₀ s) :
    Keeps W a₀ (fabOff s) := by
  unfold fabOff
  try dsimp only
  with_reducible repeat' first
    | assumption | exact part_sub rfl hw | exact id | intro _ | apply keeps_State_setF | apply keeps_State_setPair
    | apply keeps_State_setRn | apply keeps_portDrop | apply keeps_ite | apply keeps_foldl | apply keeps_foldl_first
    | dsimp only | split | apply Keeps.set_fabric

theorem keeps_fabOn {W : Nat} {a₀ : State} (s : State) (hw : 0x10000000008 &&& W = 0x10000000008) (hs : Keeps W a₀ s) :
    Keeps W a₀ (fabOn s) := by
  unfold fabOn
  try dsimp only
  with_reducible repeat' first
    | assumption | exact part_sub rfl hw | exact id | intro _ | apply keeps_State_setPair | apply keeps_fabState
    | apply keeps_fabStatus | apply keeps_trainPorts | apply Keeps.set_fabric

theorem keeps_cfgInvalid {W : Nat} {a₀ : State} (s : State) (r : RegRow) (i : Nat) (hw : 0x80208 &&& W = 0x80208) (hs
    : Keeps W a₀ s) :
    Keeps W a₀ (cfgInvalid s r i) := by
  unfold cfgInvalid
  try dsimp only
  with_reducible repeat' first
    | assumption | exact part_sub rfl hw | apply keeps_State_ev | apply keeps_ite | split

theorem keeps_irqAgain {W : Nat} {a₀ : State} (s : State) (src : Nat) (hw : 0x80208 &&& W = 0x80208) (hs : Keeps W a₀
    s) :
    Keeps W a₀ (irqAgain s src) := by
  unfold irqAgain
  try dsimp only
  with_reducible repeat' first
    | assumption | exact part_sub rfl hw | apply keeps_State_setF | apply keeps_sendMsg | apply keeps_ite | split

theorem keeps_plainWrite {W : Nat} {a₀ : State} (s : State) (off : Nat) (v : Word) (hw : 0x80208 &&& W = 0x80208) (hs
    : Keeps W a₀ s) :
    Keeps W a₀ (plainWrite s off v) := by
  unfold plainWrite
  try dsimp only
  with_reducible repeat' first
    | assumption | exact part_sub rfl hw | apply keeps_State_setRn | apply keeps_cfgInvalid | apply keeps_irqAgain
    | apply keeps_irqEval | apply keeps_ite | dsimp only | split

theorem keeps_fabricEnable {W : Nat} {a₀ : State} (s : State) (v : Word) (hw : 0x1000008030c &&& W = 0x1000008030c)
    (hs : Keeps W a₀ s) :
    Keeps W a₀ (fabricEnable s v) := by
  unfold fabricEnable
  try dsimp only
  with_reducible repeat' first
    | assumption | exact part_sub rfl hw | apply keeps_State_ev | apply keeps_State_evIf | apply keeps_State_setF
    | apply keeps_fabOff | apply keeps_fabOn | apply keeps_plainWrite | apply keeps_ite | split

theorem keeps_execFabricEnable {W : Nat} {a₀ : State} (v : Word) (s : State) (hw : 0x1000008030c &&& W =
    0x1000008030c) (hs : Keeps W a₀ s) :
    KeepsOut W a₀ (execFabricEnable v s) := by
  unfold execFabricEnable
  try dsimp only
  with_reducible apply keeps_onFabric
  with_reducible repeat' first
    | assumption | exact part_sub rfl hw | apply keeps_fabricEnable

theorem keeps_portTrained {W : Nat} {a₀ : State} (s : State) (k : Nat) (hw : 0x10000000008 &&& W = 0x10000000008) (hs
    : Keeps W a₀ s) :
    Keeps W a₀ (portTrained s k) := by
  unfold portTrained
  try dsimp only
  with_reducible repeat' first
    | assumption | exact part_sub rfl hw | apply keeps_State_setF | apply keeps_State_setRn | apply keeps_enterPort
    | apply keeps_fabState | apply keeps_portSend | apply keeps_updFabPort | apply keeps_ite | split

theorem keeps_execPortTrained {W : Nat} {a₀ : State} (k : Nat) (s : State) (hw : 0x10000000008 &&& W = 0x10000000008)
    (hs : Keeps W a₀ s) :
    KeepsOut W a₀ (execPortTrained k s) := by
  unfold execPortTrained
  try dsimp only
  with_reducible apply keeps_onFabric
  with_reducible repeat' first
    | assumption | exact part_sub rfl hw | apply keeps_portTrained

theorem keeps_fabDown {W : Nat} {a₀ : State} (s : State) (k : Nat) (hw : 0x1000008030c &&& W = 0x1000008030c) (hs :
    Keeps W a₀ s) :
    Keeps W a₀ (fabDown s k) := by
  unfold fabDown
  try dsimp only
  with_reducible repeat' first
    | assumption | exact part_sub rfl hw | apply keeps_portDrop | apply keeps_trainPorts

theorem keeps_trainingTimeout {W : Nat} {a₀ : State} (s : State) (k : Nat) (hw : 0x1000008030c &&& W = 0x1000008030c)
    (hs : Keeps W a₀ s) :
    Keeps W a₀ (trainingTimeout s k) := by
  unfold trainingTimeout
  try dsimp only
  with_reducible repeat' first
    | assumption | exact part_sub rfl hw | apply keeps_fabDown | apply keeps_ite | split

theorem keeps_execPortTrainingTimeout {W : Nat} {a₀ : State} (k : Nat) (s : State) (hw : 0x1000008030c &&& W =
    0x1000008030c) (hs : Keeps W a₀ s) :
    KeepsOut W a₀ (execPortTrainingTimeout k s) := by
  unfold execPortTrainingTimeout
  try dsimp only
  with_reducible apply keeps_onFabric
  with_reducible repeat' first
    | assumption | exact part_sub rfl hw | apply keeps_trainingTimeout

theorem keeps_portRetrain {W : Nat} {a₀ : State} (s : State) (k : Nat) (hw : 0x1000008030c &&& W = 0x1000008030c) (hs
    : Keeps W a₀ s) :
    Keeps W a₀ (portRetrain s k) := by
  unfold portRetrain
  try dsimp only
  with_reducible repeat' first
    | assumption | exact part_sub rfl hw | apply keeps_fabDown | apply keeps_ite | dsimp only | split

theorem keeps_execPortRetrain {W : Nat} {a₀ : State} (k : Nat) (s : State) (hw : 0x1000008030c &&& W = 0x1000008030c)
    (hs : Keeps W a₀ s) :
    KeepsOut W a₀ (execPortRetrain k s) := by
  unfold execPortRetrain
  try dsimp only
  with_reducible apply keeps_onFabric
  with_reducible repeat' first
    | assumption | exact part_sub rfl hw | apply keeps_portRetrain

theorem keeps_authFail {W : Nat} {a₀ : State} (s : State) (k : Nat) (reason : Nat) (hw : 0x1000008030c &&& W =
    0x1000008030c) (hs : Keeps W a₀ s) :
    Keeps W a₀ (authFail s k reason) := by
  unfold authFail
  try dsimp only
  with_reducible repeat' first
    | assumption | exact part_sub rfl hw | apply keeps_State_ev | apply keeps_State_setF | apply keeps_electRoot
    | apply keeps_enterPort | apply keeps_fabReport | apply keeps_fabState | apply keeps_updFabPort

theorem keeps_fillRoute {W : Nat} {a₀ : State} (s : State) (d : Nat) (hw : 0x8 &&& W = 0x8) (hs : Keeps W a₀ s) :
    Keeps W a₀ (fillRoute s d) := by
  unfold fillRoute
  try dsimp only
  with_reducible repeat' first
    | assumption | exact part_sub rfl hw | apply keeps_State_setF | apply keeps_State_setRn | apply keeps_ite
    | dsimp only | split

theorem keeps_fillRoutes {W : Nat} {a₀ : State} (s : State) (hw : 0x8 &&& W = 0x8) (hs : Keeps W a₀ s) :
    Keeps W a₀ (fillRoutes s) := by
  unfold fillRoutes
  try dsimp only
  with_reducible repeat' first
    | assumption | exact part_sub rfl hw | intro _ | apply keeps_fabStatus | apply keeps_fillRoute
    | apply keeps_foldl | apply keeps_foldl_first | dsimp only

theorem keeps_launchHeld {W : Nat} {a₀ : State} (s : State) (hw : 0x10000000000 &&& W = 0x10000000000) (hs : Keeps W
    a₀ s) :
    Keeps W a₀ (launchHeld s) := by
  unfold launchHeld
  try dsimp only
  with_reducible repeat' first
    | assumption | exact part_sub rfl hw | intro _ | apply keeps_launchReq | apply keeps_ite | apply keeps_foldl
    | apply keeps_foldl_first | dsimp only | split

theorem keeps_tryUp {W : Nat} {a₀ : State} (s : State) (k : Nat) (hw : 0x10000080208 &&& W = 0x10000080208) (hs :
    Keeps W a₀ s) :
    Keeps W a₀ (tryUp s k) := by
  unfold tryUp
  try dsimp only
  with_reducible repeat' first
    | assumption | exact part_sub rfl hw | apply keeps_State_ev | apply keeps_State_setF | apply keeps_enterPort
    | apply keeps_fillRoutes | apply keeps_launchHeld | apply keeps_pumpPort | apply keeps_ite | split

theorem keeps_authMessage {W : Nat} {a₀ : State} (s : State) (k : Nat) (m : AuthMsg) (hw : 0x1000008030c &&& W =
    0x1000008030c) (hs : Keeps W a₀ s) :
    Keeps W a₀ (authMessage s k m) := by
  unfold authMessage
  try dsimp only
  with_reducible repeat' first
    | assumption | exact part_sub rfl hw | apply keeps_authFail | apply keeps_portSend | apply keeps_tryUp
    | apply keeps_updFabPort | apply keeps_ite | dsimp only | split

theorem keeps_execAuthMessage {W : Nat} {a₀ : State} (k : Nat) (m : AuthMsg) (s : State) (hw : 0x1000008030c &&& W =
    0x1000008030c) (hs : Keeps W a₀ s) :
    KeepsOut W a₀ (execAuthMessage k m s) := by
  unfold execAuthMessage
  try dsimp only
  with_reducible apply keeps_onFabric
  with_reducible repeat' first
    | assumption | exact part_sub rfl hw | apply keeps_authMessage

theorem keeps_authTimeout {W : Nat} {a₀ : State} (s : State) (k : Nat) (hw : 0x1000008030c &&& W = 0x1000008030c) (hs
    : Keeps W a₀ s) :
    Keeps W a₀ (authTimeout s k) := by
  unfold authTimeout
  try dsimp only
  with_reducible repeat' first
    | assumption | exact part_sub rfl hw | apply keeps_authFail | apply keeps_ite | split

theorem keeps_execAuthTimeout {W : Nat} {a₀ : State} (k : Nat) (s : State) (hw : 0x1000008030c &&& W = 0x1000008030c)
    (hs : Keeps W a₀ s) :
    KeepsOut W a₀ (execAuthTimeout k s) := by
  unfold execAuthTimeout
  try dsimp only
  with_reducible apply keeps_onFabric
  with_reducible repeat' first
    | assumption | exact part_sub rfl hw | apply keeps_authTimeout

theorem keeps_heldExpiry {W : Nat} {a₀ : State} (s : State) (k : Nat) (hw : 0x1000008030c &&& W = 0x1000008030c) (hs :
    Keeps W a₀ s) :
    Keeps W a₀ (heldExpiry s k) := by
  unfold heldExpiry
  try dsimp only
  with_reducible repeat' first
    | assumption | exact part_sub rfl hw | apply keeps_fabDown | apply keeps_ite | split

theorem keeps_execHeldExpiry {W : Nat} {a₀ : State} (k : Nat) (s : State) (hw : 0x1000008030c &&& W = 0x1000008030c)
    (hs : Keeps W a₀ s) :
    KeepsOut W a₀ (execHeldExpiry k s) := by
  unfold execHeldExpiry
  try dsimp only
  with_reducible apply keeps_onFabric
  with_reducible repeat' first
    | assumption | exact part_sub rfl hw | apply keeps_heldExpiry

theorem keeps_helloSend {W : Nat} {a₀ : State} (s : State) (k : Nat) (hw : 0x10000000000 &&& W = 0x10000000000) (hs :
    Keeps W a₀ s) :
    Keeps W a₀ (helloSend s k) := by
  unfold helloSend
  try dsimp only
  with_reducible repeat' first
    | assumption | exact part_sub rfl hw | apply keeps_portSend | apply keeps_updFabPort | apply keeps_ite
    | dsimp only | split

theorem keeps_execHelloSend {W : Nat} {a₀ : State} (k : Nat) (s : State) (hw : 0x10000000000 &&& W = 0x10000000000)
    (hs : Keeps W a₀ s) :
    KeepsOut W a₀ (execHelloSend k s) := by
  unfold execHelloSend
  try dsimp only
  with_reducible apply keeps_onFabric
  with_reducible repeat' first
    | assumption | exact part_sub rfl hw | apply keeps_helloSend

theorem keeps_sendUp {W : Nat} {a₀ : State} (s : State) (m : FabMsg) (but : Nat) (hw : 0x10000000000 &&& W =
    0x10000000000) (hs : Keeps W a₀ s) :
    Keeps W a₀ (sendUp s m but) := by
  unfold sendUp
  try dsimp only
  with_reducible repeat' first
    | assumption | exact part_sub rfl hw | intro _ | apply keeps_portSend | apply keeps_ite | apply keeps_foldl
    | apply keeps_foldl_first | dsimp only | split

theorem keeps_claimId {W : Nat} {a₀ : State} (s : State) (hw : 0x10000000000 &&& W = 0x10000000000) (hs : Keeps W a₀
    s) :
    Keeps W a₀ (claimId s) := by
  unfold claimId
  try dsimp only
  with_reducible repeat' first
    | assumption | exact part_sub rfl hw | exact id | intro _ | apply keeps_sendUp | apply Keeps.set_fabric

theorem keeps_takeId {W : Nat} {a₀ : State} (s : State) (d : Nat) (hw : 0x1000008030c &&& W = 0x1000008030c) (hs :
    Keeps W a₀ s) :
    Keeps W a₀ (takeId s d) := by
  unfold takeId
  try dsimp only
  with_reducible repeat' first
    | assumption | exact part_sub rfl hw | apply keeps_State_ev | apply keeps_State_setF | apply keeps_electRoot
    | apply keeps_fabReport | apply keeps_fabState | apply keeps_fillRoutes | apply keeps_launchHeld
    | apply keeps_ite | split

theorem keeps_idConflict {W : Nat} {a₀ : State} (s : State) (h : Hello) (hw : 0x10000080308 &&& W = 0x10000080308) (hs
    : Keeps W a₀ s) :
    Keeps W a₀ (idConflict s h) := by
  unfold idConflict
  try dsimp only
  with_reducible repeat' first
    | assumption | exact part_sub rfl hw | apply keeps_State_ev | apply keeps_State_setF | apply keeps_claimId
    | apply keeps_fabReport | apply keeps_ite | dsimp only | split

theorem keeps_helloReceived {W : Nat} {a₀ : State} (s : State) (k : Nat) (h : Hello) (hw : 0x1000008030c &&& W =
    0x1000008030c) (hs : Keeps W a₀ s) :
    Keeps W a₀ (helloReceived s k h) := by
  unfold helloReceived
  try dsimp only
  with_reducible repeat' first
    | assumption | exact part_sub rfl hw | apply keeps_State_setF | apply keeps_State_setPair | apply keeps_electRoot
    | apply keeps_fabState | apply keeps_fillRoutes | apply keeps_idConflict | apply keeps_launchHeld
    | apply keeps_tryUp | apply keeps_updFabPort | apply keeps_ite | split

theorem keeps_execHelloReceived {W : Nat} {a₀ : State} (k : Nat) (h : Hello) (s : State) (hw : 0x1000008030c &&& W =
    0x1000008030c) (hs : Keeps W a₀ s) :
    KeepsOut W a₀ (execHelloReceived k h s) := by
  unfold execHelloReceived
  try dsimp only
  with_reducible apply keeps_onFabric
  with_reducible repeat' first
    | assumption | exact part_sub rfl hw | apply keeps_helloReceived

theorem keeps_helloTimeout {W : Nat} {a₀ : State} (s : State) (k : Nat) (hw : 0x1000008030c &&& W = 0x1000008030c) (hs
    : Keeps W a₀ s) :
    Keeps W a₀ (helloTimeout s k) := by
  unfold helloTimeout
  try dsimp only
  with_reducible repeat' first
    | assumption | exact part_sub rfl hw | apply keeps_fabDown | apply keeps_fabReport | apply keeps_ite | split

theorem keeps_execHelloTimeout {W : Nat} {a₀ : State} (k : Nat) (s : State) (hw : 0x1000008030c &&& W = 0x1000008030c)
    (hs : Keeps W a₀ s) :
    KeepsOut W a₀ (execHelloTimeout k s) := by
  unfold execHelloTimeout
  try dsimp only
  with_reducible apply keeps_onFabric
  with_reducible repeat' first
    | assumption | exact part_sub rfl hw | apply keeps_helloTimeout

theorem keeps_grantId {W : Nat} {a₀ : State} (s : State) (serial : Nat) (req : Nat) (hw : 0x1000008030c &&& W =
    0x1000008030c) (hs : Keeps W a₀ s) :
    Keeps W a₀ (grantId s serial req) := by
  unfold grantId
  try dsimp only
  with_reducible repeat' first
    | assumption | exact part_sub rfl hw | exact id | intro _ | apply keeps_sendUp | apply keeps_takeId
    | apply keeps_ite | dsimp only | split | apply Keeps.set_fabric

theorem keeps_rootStable {W : Nat} {a₀ : State} (s : State) (hw : 0x1000008030c &&& W = 0x1000008030c) (hs : Keeps W
    a₀ s) :
    Keeps W a₀ (rootStable s) := by
  unfold rootStable
  try dsimp only
  with_reducible repeat' first
    | assumption | exact part_sub rfl hw | exact id | intro _ | apply keeps_State_setF | apply keeps_claimId
    | apply keeps_fabState | apply keeps_fabStatus | apply keeps_grantId | apply keeps_ite | split
    | apply Keeps.set_fabric

theorem keeps_execRootStable {W : Nat} {a₀ : State} (s : State) (hw : 0x1000008030c &&& W = 0x1000008030c) (hs : Keeps
    W a₀ s) :
    KeepsOut W a₀ (execRootStable s) := by
  unfold execRootStable
  try dsimp only
  with_reducible apply keeps_onFabric
  with_reducible repeat' first
    | assumption | exact part_sub rfl hw | apply keeps_rootStable

theorem keeps_idClaim {W : Nat} {a₀ : State} (s : State) (k : Nat) (serial : Nat) (seq : Nat) (req : Nat) (hw :
    0x1000008030c &&& W = 0x1000008030c) (hs : Keeps W a₀ s) :
    Keeps W a₀ (idClaim s k serial seq req) := by
  unfold idClaim
  try dsimp only
  with_reducible repeat' first
    | assumption | exact part_sub rfl hw | exact id | intro _ | apply keeps_grantId | apply keeps_sendUp
    | apply keeps_ite | split | apply Keeps.set_fabric

theorem keeps_execIdClaim {W : Nat} {a₀ : State} (k : Nat) (serial : Nat) (seq : Nat) (req : Nat) (s : State) (hw :
    0x1000008030c &&& W = 0x1000008030c) (hs : Keeps W a₀ s) :
    KeepsOut W a₀ (execIdClaim k serial seq req s) := by
  unfold execIdClaim
  try dsimp only
  with_reducible apply keeps_onFabric
  with_reducible repeat' first
    | assumption | exact part_sub rfl hw | apply keeps_idClaim

theorem keeps_idGrant {W : Nat} {a₀ : State} (s : State) (k : Nat) (root : Nat) (seq : Nat) (serial : Nat) (d : Nat)
    (hw : 0x1000008030c &&& W = 0x1000008030c) (hs : Keeps W a₀ s) :
    Keeps W a₀ (idGrant s k root seq serial d) := by
  unfold idGrant
  try dsimp only
  with_reducible repeat' first
    | assumption | exact part_sub rfl hw | exact id | intro _ | apply keeps_sendUp | apply keeps_takeId
    | apply keeps_ite | split | apply Keeps.set_fabric

theorem keeps_execIdGrant {W : Nat} {a₀ : State} (k : Nat) (root : Nat) (seq : Nat) (serial : Nat) (id : Nat) (s :
    State) (hw : 0x1000008030c &&& W = 0x1000008030c) (hs : Keeps W a₀ s) :
    KeepsOut W a₀ (execIdGrant k root seq serial id s) := by
  unfold execIdGrant
  try dsimp only
  with_reducible apply keeps_onFabric
  with_reducible repeat' first
    | assumption | exact part_sub rfl hw | apply keeps_idGrant

theorem keeps_portCtl {W : Nat} {a₀ : State} (s : State) (k : Nat) (m : FabMsg) (hw : 0x10000000000 &&& W =
    0x10000000000) (hs : Keeps W a₀ s) :
    Keeps W a₀ (portCtl s k m) := by
  unfold portCtl
  try dsimp only
  with_reducible repeat' first
    | assumption | exact part_sub rfl hw | exact id | intro _ | apply Keeps.set_fabric

theorem keeps_flitBad {W : Nat} {a₀ : State} (s : State) (k : Nat) (hw : 0x10000000000 &&& W = 0x10000000000) (hs :
    Keeps W a₀ s) :
    Keeps W a₀ (flitBad s k) := by
  unfold flitBad
  try dsimp only
  with_reducible repeat' first
    | assumption | exact part_sub rfl hw | apply keeps_portCtl | apply keeps_setFabPort | apply keeps_ite | split

theorem keeps_State_bumpBy {W : Nat} {a₀ : State} (s : State) (f : Fld) (n : Nat) (hw : 0x8 &&& W = 0x8) (hs : Keeps W
    a₀ s) :
    Keeps W a₀ (State.bumpBy s f n) := by
  unfold State.bumpBy
  try dsimp only
  with_reducible repeat' first
    | assumption | exact part_sub rfl hw | apply keeps_State_setF

theorem keeps_flitReceived {W : Nat} {a₀ : State} (s : State) (k : Nat) (ok : Bool) (kind : Nat) (fseq : Nat) (unknown
    : Nat) (hw : 0x10000000008 &&& W = 0x10000000008) (hs : Keeps W a₀ s) :
    Keeps W a₀ (flitReceived s k ok kind fseq unknown) := by
  unfold flitReceived
  try dsimp only
  with_reducible repeat' first
    | assumption | exact part_sub rfl hw | apply keeps_State_bump | apply keeps_State_bumpBy | apply keeps_flitBad
    | apply keeps_setFabPort | apply keeps_ite | split

theorem keeps_execFlitReceived {W : Nat} {a₀ : State} (k : Nat) (ok : Bool) (kind : Nat) (fseq : Nat) (unknown : Nat)
    (s : State) (hw : 0x10000000008 &&& W = 0x10000000008) (hs : Keeps W a₀ s) :
    KeepsOut W a₀ (execFlitReceived k ok kind fseq unknown s) := by
  unfold execFlitReceived
  try dsimp only
  with_reducible apply keeps_onFabric
  with_reducible repeat' first
    | assumption | exact part_sub rfl hw | apply keeps_flitReceived

theorem keeps_ackSend {W : Nat} {a₀ : State} (s : State) (k : Nat) (hw : 0x10000000000 &&& W = 0x10000000000) (hs :
    Keeps W a₀ s) :
    Keeps W a₀ (ackSend s k) := by
  unfold ackSend
  try dsimp only
  with_reducible repeat' first
    | assumption | exact part_sub rfl hw | apply keeps_portCtl | apply keeps_setFabPort | apply keeps_ite | split

theorem keeps_execAckSend {W : Nat} {a₀ : State} (k : Nat) (s : State) (hw : 0x10000000000 &&& W = 0x10000000000) (hs
    : Keeps W a₀ s) :
    KeepsOut W a₀ (execAckSend k s) := by
  unfold execAckSend
  try dsimp only
  with_reducible apply keeps_onFabric
  with_reducible repeat' first
    | assumption | exact part_sub rfl hw | apply keeps_ackSend

theorem keeps_ackReceived {W : Nat} {a₀ : State} (s : State) (k : Nat) (fseq : Nat) (hw : 0x10000000000 &&& W =
    0x10000000000) (hs : Keeps W a₀ s) :
    Keeps W a₀ (ackReceived s k fseq) := by
  unfold ackReceived
  try dsimp only
  with_reducible repeat' first
    | assumption | exact part_sub rfl hw | apply keeps_pumpPort | apply keeps_setFabPort | apply keeps_ite | split

theorem keeps_execAckReceived {W : Nat} {a₀ : State} (k : Nat) (fseq : Nat) (s : State) (hw : 0x10000000000 &&& W =
    0x10000000000) (hs : Keeps W a₀ s) :
    KeepsOut W a₀ (execAckReceived k fseq s) := by
  unfold execAckReceived
  try dsimp only
  with_reducible apply keeps_onFabric
  with_reducible repeat' first
    | assumption | exact part_sub rfl hw | apply keeps_ackReceived

theorem keeps_retryLimit {W : Nat} {a₀ : State} (s : State) (k : Nat) (hw : 0x1000008030c &&& W = 0x1000008030c) (hs :
    Keeps W a₀ s) :
    Keeps W a₀ (retryLimit s k) := by
  unfold retryLimit
  try dsimp only
  with_reducible repeat' first
    | assumption | exact part_sub rfl hw | apply keeps_fabDown | apply keeps_fabReport

theorem keeps_nakReceived {W : Nat} {a₀ : State} (s : State) (k : Nat) (fseq : Nat) (hw : 0x1000008030c &&& W =
    0x1000008030c) (hs : Keeps W a₀ s) :
    Keeps W a₀ (nakReceived s k fseq) := by
  unfold nakReceived
  try dsimp only
  with_reducible repeat' first
    | assumption | exact part_sub rfl hw | intro _ | apply keeps_State_bump | apply keeps_portCtl
    | apply keeps_retryLimit | apply keeps_setFabPort | apply keeps_ite | apply keeps_foldl | apply keeps_foldl_first
    | dsimp only | split

theorem keeps_execNakReceived {W : Nat} {a₀ : State} (k : Nat) (fseq : Nat) (s : State) (hw : 0x1000008030c &&& W =
    0x1000008030c) (hs : Keeps W a₀ s) :
    KeepsOut W a₀ (execNakReceived k fseq s) := by
  unfold execNakReceived
  try dsimp only
  with_reducible apply keeps_onFabric
  with_reducible repeat' first
    | assumption | exact part_sub rfl hw | apply keeps_nakReceived

theorem keeps_ackTimeout {W : Nat} {a₀ : State} (s : State) (k : Nat) (hw : 0x1000008030c &&& W = 0x1000008030c) (hs :
    Keeps W a₀ s) :
    Keeps W a₀ (ackTimeout s k) := by
  unfold ackTimeout
  try dsimp only
  with_reducible repeat' first
    | assumption | exact part_sub rfl hw | apply keeps_retryLimit | apply keeps_ite | split

theorem keeps_execAckTimeout {W : Nat} {a₀ : State} (k : Nat) (s : State) (hw : 0x1000008030c &&& W = 0x1000008030c)
    (hs : Keeps W a₀ s) :
    KeepsOut W a₀ (execAckTimeout k s) := by
  unfold execAckTimeout
  try dsimp only
  with_reducible apply keeps_onFabric
  with_reducible repeat' first
    | assumption | exact part_sub rfl hw | apply keeps_ackTimeout

theorem keeps_packetForward {W : Nat} {a₀ : State} (s : State) (k : Nat) (p : FabPacket) (hw : 0x10000080308 &&& W =
    0x10000080308) (hs : Keeps W a₀ s) :
    Keeps W a₀ (packetForward s k p) := by
  unfold packetForward
  try dsimp only
  with_reducible repeat' first
    | assumption | exact part_sub rfl hw | apply keeps_State_ev | apply keeps_fabAnswer | apply keeps_fabReport
    | apply keeps_portSend | apply keeps_ite | dsimp only | split

theorem keeps_execFabricPacketForward {W : Nat} {a₀ : State} (k : Nat) (p : FabPacket) (s : State) (hw : 0x10000080308
    &&& W = 0x10000080308) (hs : Keeps W a₀ s) :
    KeepsOut W a₀ (execFabricPacketForward k p s) := by
  unfold execFabricPacketForward
  try dsimp only
  with_reducible apply keeps_onFabric
  with_reducible repeat' first
    | assumption | exact part_sub rfl hw | apply keeps_packetForward

theorem keeps_doorbellHit {W : Nat} {a₀ : State} (s : State) (w : Nat) (p : FabPacket) (hw : 0x80208 &&& W = 0x80208)
    (hs : Keeps W a₀ s) :
    Keeps W a₀ (doorbellHit s w p) := by
  unfold doorbellHit
  try dsimp only
  with_reducible repeat' first
    | assumption | exact part_sub rfl hw | apply keeps_State_ev | apply keeps_State_setF | apply keeps_ite | split

theorem keeps_hostData {W : Nat} {a₀ : State} (s : State) (addr : Nat) (bs : List Byte) (poisoned : Bool) (hw :
    0x480308 &&& W = 0x480308) (hs : Keeps W a₀ s) :
    Keeps W a₀ (hostData s addr bs poisoned) := by
  unfold hostData
  try dsimp only
  with_reducible repeat' first
    | assumption | exact part_sub rfl hw | apply keeps_State_bumpBy | apply keeps_State_ev | apply keeps_State_report
    | apply keeps_hostWrite | apply keeps_ite | split

theorem keeps_issueRead {W : Nat} {a₀ : State} (s : State) (owner : ReadOwner) (addr : Nat) (size : Nat) (hw : 0x200
    &&& W = 0x200) (hs : Keeps W a₀ s) :
    Keeps W a₀ (issueRead s owner addr size).2 := by
  unfold issueRead
  try dsimp only
  with_reducible repeat' first
    | assumption | exact part_sub rfl hw | exact id | intro _ | apply Keeps.set_pcie

theorem keeps_memWrite {W : Nat} {a₀ : State} (s : State) (a : Nat) (bs : List Byte) (poison : optParam Bool false)
    (hw : 0x60000000000 &&& W = 0x60000000000) (hs : Keeps W a₀ s) :
    Keeps W a₀ (memWrite s a bs poison) := by
  unfold memWrite
  exact Keeps.set_mem_memPoison hs hw (memory_wf_memPut _ _)

theorem keeps_serveReq {W : Nat} {a₀ : State} (s : State) (w : Nat) (p : FabPacket) (targetError : Bool) (hw :
    0x70000480308 &&& W = 0x70000480308) (hs : Keeps W a₀ s) :
    Keeps W a₀ (serveReq s w p targetError) := by
  unfold serveReq
  try dsimp only
  with_reducible repeat' first
    | assumption | exact part_sub rfl hw | exact id | intro _ | apply keeps_doorbellHit | apply keeps_fabAnswer
    | apply keeps_hostData | apply keeps_issueRead | apply keeps_memWrite | apply keeps_winCount | apply keeps_ite
    | refine keeps_of_pair (by assumption) ?_ | refine keeps_of_pair_first (by assumption) ?_
    | refine keeps_of_triple (by assumption) ?_ | dsimp only | split | apply Keeps.set_fabric

theorem keeps_requestReceived {W : Nat} {a₀ : State} (s : State) (k : Nat) (p : FabPacket) (targetError : Bool) (hw :
    0x70000480308 &&& W = 0x70000480308) (hs : Keeps W a₀ s) :
    Keeps W a₀ (requestReceived s k p targetError) := by
  unfold requestReceived
  try dsimp only
  with_reducible repeat' first
    | assumption | exact part_sub rfl hw | apply keeps_State_bump | apply keeps_fabAnswer | apply keeps_serveReq
    | apply keeps_ite | dsimp only | split

theorem keeps_execFabricRequestReceived {W : Nat} {a₀ : State} (k : Nat) (p : FabPacket) (targetError : Bool) (s :
    State) (hw : 0x70000480308 &&& W = 0x70000480308) (hs : Keeps W a₀ s) :
    KeepsOut W a₀ (execFabricRequestReceived k p targetError s) := by
  unfold execFabricRequestReceived
  try dsimp only
  with_reducible apply keeps_onFabric
  with_reducible repeat' first
    | assumption | exact part_sub rfl hw | apply keeps_requestReceived

theorem keeps_endReq {W : Nat} {a₀ : State} (s : State) (tag : Nat) (status : Nat) (data : List Byte) (poison : Bool)
    (hw : 0x10000000000 &&& W = 0x10000000000) (hs : Keeps W a₀ s) :
    Keeps W a₀ (endReq s tag status data poison) := by
  unfold endReq
  try dsimp only
  with_reducible repeat' first
    | assumption | exact part_sub rfl hw | exact id | intro _ | apply keeps_launchHeld | dsimp only | split
    | apply Keeps.set_fabric

theorem keeps_responseReceived {W : Nat} {a₀ : State} (s : State) (k : Nat) (p : FabPacket) (hw : 0x10000000100 &&& W
    = 0x10000000100) (hs : Keeps W a₀ s) :
    Keeps W a₀ (responseReceived s k p) := by
  unfold responseReceived
  try dsimp only
  with_reducible repeat' first
    | assumption | exact part_sub rfl hw | apply keeps_endReq | apply keeps_fabReport | apply keeps_ite | dsimp only
    | split

theorem keeps_execFabricResponseReceived {W : Nat} {a₀ : State} (k : Nat) (p : FabPacket) (s : State) (hw :
    0x10000000100 &&& W = 0x10000000100) (hs : Keeps W a₀ s) :
    KeepsOut W a₀ (execFabricResponseReceived k p s) := by
  unfold execFabricResponseReceived
  try dsimp only
  with_reducible apply keeps_onFabric
  with_reducible repeat' first
    | assumption | exact part_sub rfl hw | apply keeps_responseReceived

theorem keeps_requestTimeout {W : Nat} {a₀ : State} (s : State) (tag : Nat) (hw : 0x10000080308 &&& W = 0x10000080308)
    (hs : Keeps W a₀ s) :
    Keeps W a₀ (requestTimeout s tag) := by
  unfold requestTimeout
  try dsimp only
  with_reducible repeat' first
    | assumption | exact part_sub rfl hw | apply keeps_State_bump | apply keeps_State_ev | apply keeps_endReq
    | apply keeps_fabReport | apply keeps_ite | dsimp only | split

theorem keeps_execFabricRequestTimeout {W : Nat} {a₀ : State} (tag : Nat) (s : State) (hw : 0x10000080308 &&& W =
    0x10000080308) (hs : Keeps W a₀ s) :
    KeepsOut W a₀ (execFabricRequestTimeout tag s) := by
  unfold execFabricRequestTimeout
  try dsimp only
  with_reducible apply keeps_onFabric
  with_reducible repeat' first
    | assumption | exact part_sub rfl hw | apply keeps_requestTimeout

theorem keeps_winIgnored {W : Nat} {a₀ : State} (s : State) (w : Nat) (hw : 0x80308 &&& W = 0x80308) (hs : Keeps W a₀
    s) :
    Keeps W a₀ (winIgnored s w) := by
  unfold winIgnored
  try dsimp only
  with_reducible repeat' first
    | assumption | exact part_sub rfl hw | apply keeps_State_ev | apply keeps_fabReport

theorem keeps_inWinCtrl {W : Nat} {a₀ : State} (s : State) (w : Nat) (v : Word) (hw : 0x80308 &&& W = 0x80308) (hs :
    Keeps W a₀ s) :
    Keeps W a₀ (inWinCtrl s w v) := by
  unfold inWinCtrl
  try dsimp only
  with_reducible repeat' first
    | assumption | exact part_sub rfl hw | apply keeps_State_ev | apply keeps_State_setF | apply keeps_plainWrite
    | apply keeps_winIgnored | apply keeps_ite | split

theorem keeps_execInWinCtrlWrite {W : Nat} {a₀ : State} (w : Nat) (v : Word) (s : State) (hw : 0x80308 &&& W =
    0x80308) (hs : Keeps W a₀ s) :
    KeepsOut W a₀ (execInWinCtrlWrite w v s) := by
  unfold execInWinCtrlWrite
  try dsimp only
  with_reducible apply keeps_onFabric
  with_reducible repeat' first
    | assumption | exact part_sub rfl hw | apply keeps_inWinCtrl

theorem keeps_setPeer {W : Nat} {a₀ : State} (s : State) (st : Nat) (x : Peer) (hw : 0x10000000000 &&& W =
    0x10000000000) (hs : Keeps W a₀ s) :
    Keeps W a₀ (setPeer s st x) := by
  unfold setPeer
  try dsimp only
  with_reducible repeat' first
    | assumption | exact part_sub rfl hw | exact id | exact ksorted_kputD | intro _ | apply Keeps.set_fabric

end Sys2Proof.Machine
end

