-- ==== Sys2Proof/Laws/Registers.lean ====
section
/-!
SUPPORT. Registers and fields: what is read after a write.
-/

namespace Sys2Proof.Machine

/-! ### Bits of a number -/

theorem bitsOf_lt (v l w : Nat) : bitsOf v l w < 2 ^ w := Nat.mod_lt _ (Nat.two_pow_pos w)

theorem bitsOf_le (v l w : Nat) : bitsOf v l w * 2 ^ l ≤ v := by
  unfold bitsOf
  calc v / 2 ^ l % 2 ^ w * 2 ^ l ≤ v / 2 ^ l * 2 ^ l := Nat.mul_le_mul_right _ (Nat.mod_le _ _)
    _ ≤ v := Nat.div_mul_le_self _ _

/-- The parts of a number around a field. -/
theorem split_field (v l w : Nat) :
    v = v % 2 ^ l + bitsOf v l w * 2 ^ l + v / 2 ^ (l + w) * 2 ^ (l + w) := by
  unfold bitsOf
  have h1 := Nat.div_add_mod v (2 ^ l)
  have h2 := Nat.div_add_mod (v / 2 ^ l) (2 ^ w)
  rw [Nat.div_div_eq_div_mul, ← Nat.pow_add] at h2
  have h3 : v / 2 ^ (l + w) * 2 ^ (l + w) = 2 ^ l * (2 ^ w * (v / 2 ^ (l + w))) := by
    rw [← Nat.mul_assoc, ← Nat.pow_add, Nat.mul_comm]
  have h4 : v / 2 ^ l % 2 ^ w * 2 ^ l = 2 ^ l * (v / 2 ^ l % 2 ^ w) := Nat.mul_comm _ _
  rw [h3, h4]
  have h5 : 2 ^ l * (v / 2 ^ l) = 2 ^ l * (2 ^ w * (v / 2 ^ (l + w))) + 2 ^ l * (v / 2 ^ l % 2 ^ w) := by
    rw [← Nat.mul_add, h2]
  omega

theorem putBits_eq (v l w x : Nat) :
    putBits v l w x = v % 2 ^ l + x % 2 ^ w * 2 ^ l + v / 2 ^ (l + w) * 2 ^ (l + w) := by
  have h := split_field v l w
  unfold putBits
  omega

theorem bitsOf_putBits_same (v l w x : Nat) : bitsOf (putBits v l w x) l w = x % 2 ^ w := by
  rw [putBits_eq]
  unfold bitsOf
  have h : v % 2 ^ l + x % 2 ^ w * 2 ^ l + v / 2 ^ (l + w) * 2 ^ (l + w)
      = v % 2 ^ l + 2 ^ l * (x % 2 ^ w + 2 ^ w * (v / 2 ^ (l + w))) := by
    rw [Nat.mul_add, ← Nat.mul_assoc, ← Nat.pow_add, Nat.add_assoc, Nat.mul_comm (x % 2 ^ w),
      Nat.mul_comm (v / 2 ^ (l + w))]
  rw [h, Nat.add_mul_div_left _ _ (Nat.two_pow_pos l), Nat.div_eq_of_lt (Nat.mod_lt _ (Nat.two_pow_pos l)), Nat.zero_add,
    Nat.add_mul_mod_self_left, Nat.mod_mod]

/-- A field apart from the one that was written is as it was. -/
theorem bitsOf_putBits_apart {v l w x l' w' : Nat} (h : l + w ≤ l' ∨ l' + w' ≤ l) :
    bitsOf (putBits v l w x) l' w' = bitsOf v l' w' := by
  rw [putBits_eq]
  have hx : x % 2 ^ w < 2 ^ w := Nat.mod_lt _ (Nat.two_pow_pos w)
  have hl : v % 2 ^ l < 2 ^ l := Nat.mod_lt _ (Nat.two_pow_pos l)
  rcases h with h | h
  · -- above
    obtain ⟨d, rfl⟩ := Nat.exists_eq_add_of_le h
    have hlow : v % 2 ^ l + x % 2 ^ w * 2 ^ l < 2 ^ (l + w) := by
      have := Nat.mul_le_mul_right (2 ^ l) (Nat.succ_le_of_lt hx)
      rw [Nat.succ_mul, ← Nat.pow_add, Nat.add_comm w l] at this
      omega
    unfold bitsOf
    rw [Nat.pow_add 2 (l + w) d, ← Nat.div_div_eq_div_mul, ← Nat.div_div_eq_div_mul,
      Nat.add_mul_div_right _ _ (Nat.two_pow_pos _), Nat.div_eq_of_lt hlow, Nat.zero_add]
  · -- below
    obtain ⟨d, rfl⟩ := Nat.exists_eq_add_of_le h
    have hsplit : v % 2 ^ (l' + w' + d) + x % 2 ^ w * 2 ^ (l' + w' + d)
          + v / 2 ^ (l' + w' + d + w) * 2 ^ (l' + w' + d + w)
        = v % 2 ^ (l' + w' + d) + 2 ^ (l' + w') * (2 ^ d * (x % 2 ^ w)
          + 2 ^ (d + w) * (v / 2 ^ (l' + w' + d + w))) := by
      rw [Nat.mul_add, ← Nat.mul_assoc, ← Nat.mul_assoc, ← Nat.pow_add, ← Nat.pow_add, Nat.add_assoc (l' + w') d w,
        Nat.add_assoc, Nat.mul_comm (x % 2 ^ w), Nat.mul_comm (v / _)]
    rw [hsplit]
    have key : ∀ a b : Nat, bitsOf (a + 2 ^ (l' + w') * b) l' w' = bitsOf a l' w' := by
      intro a b
      unfold bitsOf
      rw [Nat.pow_add, Nat.mul_assoc, Nat.add_mul_div_left _ _ (Nat.two_pow_pos l'), Nat.add_mul_mod_self_left]
    rw [key]
    have hv := key (v % 2 ^ (l' + w' + d)) (2 ^ d * (v / 2 ^ (l' + w' + d)))
    rw [← Nat.mul_assoc, ← Nat.pow_add, Nat.mod_add_div] at hv
    exact hv.symm

theorem putBits_lt {v l w x : Nat} (h : v < 2 ^ 32) (hw : l + w ≤ 32) : putBits v l w x < 2 ^ 32 := by
  rw [putBits_eq]
  have hv : v / 2 ^ (l + w) < 2 ^ (32 - (l + w)) := by
    rw [Nat.div_lt_iff_lt_mul (Nat.two_pow_pos _), ← Nat.pow_add]
    rwa [show 32 - (l + w) + (l + w) = 32 by omega]
  have h1 : v % 2 ^ l < 2 ^ l := Nat.mod_lt _ (Nat.two_pow_pos l)
  have h2 : x % 2 ^ w < 2 ^ w := Nat.mod_lt _ (Nat.two_pow_pos w)
  have h3 : x % 2 ^ w * 2 ^ l + 2 ^ l ≤ 2 ^ (l + w) := by
    rw [Nat.pow_add, ← Nat.succ_mul, Nat.mul_comm (2 ^ l)]
    exact Nat.mul_le_mul_right _ h2
  have h4 : v / 2 ^ (l + w) * 2 ^ (l + w) + 2 ^ (l + w) ≤ 2 ^ 32 := by
    have h := Nat.mul_le_mul_right (2 ^ (l + w)) (Nat.succ_le_of_lt hv)
    rw [← Nat.pow_add, Nat.sub_add_cancel hw, Nat.succ_mul] at h
    exact h
  omega

/-! ### Registers -/

@[simp] theorem State.reg_setReg_same (s : State) (off : Nat) (w : Word) : (s.setReg off w).reg off = w := by
  unfold State.reg State.setReg
  exact kgetD_kputD_same (resetWord off) off w s.regs

theorem State.reg_setReg_other {off o : Nat} (h : o ≠ off) (s : State) (w : Word) :
    (s.setReg off w).reg o = s.reg o := by
  unfold State.reg State.setReg
  exact kgetD_kputD_other h (resetWord off) (resetWord o) w s.regs

theorem State.rn_lt (s : State) (off : Nat) : s.rn off < 2 ^ 32 := (s.reg off).isLt

theorem State.rn_setRn_same (s : State) (off v : Nat) : (s.setRn off v).rn off = v % 2 ^ 32 := by
  simp [State.setRn, State.rn]

theorem State.rn_setRn_other {off o : Nat} (h : o ≠ off) (s : State) (v : Nat) : (s.setRn off v).rn o = s.rn o := by
  unfold State.rn State.setRn
  rw [State.reg_setReg_other h]

/-- A field holds what was put into it. -/
theorem State.fv_setF_same (s : State) (f : Fld) (v : Nat) (h : f.lsb + f.width ≤ 32) :
    (s.setF f v).fv f = v % 2 ^ f.width := by
  unfold State.fv State.setF
  rw [State.rn_setRn_same, Nat.mod_eq_of_lt (putBits_lt (s.rn_lt f.off) h), bitsOf_putBits_same]

/-- A field of another register is as it was. -/
theorem State.fv_setF_other {f g : Fld} (h : g.off ≠ f.off) (s : State) (v : Nat) : (s.setF f v).fv g = s.fv g := by
  unfold State.fv State.setF
  rw [State.rn_setRn_other h]

/-- Another field of the same register is as it was. -/
theorem State.fv_setF_apart {f g : Fld} (s : State) (v : Nat) (h : f.lsb + f.width ≤ 32)
    (hg : f.lsb + f.width ≤ g.lsb ∨ g.lsb + g.width ≤ f.lsb) : (s.setF f v).fv g = s.fv g := by
  by_cases ho : g.off = f.off
  · unfold State.fv State.setF
    rw [ho, State.rn_setRn_same, Nat.mod_eq_of_lt (putBits_lt (s.rn_lt f.off) h), bitsOf_putBits_apart hg]
  · exact State.fv_setF_other ho s v

/-- A register that an update of the register file reaches is the only one that changes. -/
theorem State.reg_setF_other {f : Fld} {o : Nat} (h : o ≠ f.off) (s : State) (v : Nat) :
    (s.setF f v).reg o = s.reg o := by
  unfold State.setF State.setRn
  exact State.reg_setReg_other h s _

/-- Every update of a register keeps the keys in order. -/
theorem ksorted_setReg {s : State} {off : Nat} {w : Word} (h : ksorted s.regs = true) :
    ksorted (s.setReg off w).regs = true :=
  ksorted_kputD h

end Sys2Proof.Machine
end

