-- ==== Sys2Proof/Laws/Events.lean ====
section
/-!
SUPPORT. What setting an event bit changes: the event register, the pending bits of interrupt sources and of MSI-X
vectors, and the messages sent.
-/

namespace Sys2Proof.Machine

/-- The registers that hold which interrupt sources and which MSI-X vectors are pending. -/
def irqReg (o : Nat) : Prop := (0x26000 ≤ o ∧ o < 0x26800) ∨ (0x50000 ≤ o ∧ o < 0x50100)

theorem rn_sendVector {s : State} {v o : Nat} (hv : v < 2048) (ho : ¬ irqReg o) : (sendVector s v).rn o = s.rn o := by
  unfold irqReg at ho
  unfold sendVector
  dsimp only
  split
  · split
    · unfold State.setF
      refine State.rn_setRn_other ?_ _ _
      show o ≠ 0x50000 + 4 * (v / 32)
      omega
    · split <;> rfl
  · split
    · split
      · rfl
      · split <;> rfl
    · rfl

theorem vector_lt (s : State) (src : Nat) : s.fv (fRING_INT_ROUTE_VECTOR src) < 2048 := bitsOf_lt _ _ _

theorem rn_sendMsg {s : State} {src o : Nat} (ho : ¬ irqReg o) : (sendMsg s src).rn o = s.rn o :=
  rn_sendVector (vector_lt s src) ho

theorem rn_setF_other {s : State} {f : Fld} {v o : Nat} (h : o ≠ f.off) : (s.setF f v).rn o = s.rn o := by
  unfold State.setF
  exact State.rn_setRn_other h s _

theorem rn_pending {s : State} {src v o : Nat} (hs : src < 512) (ho : ¬ irqReg o) :
    (s.setF (fRING_INT_ROUTE_PENDING src) v).rn o = s.rn o := by
  unfold irqReg at ho
  refine rn_setF_other ?_
  show o ≠ 0x26000 + 4 * src
  omega

theorem rn_irqEval {s : State} {src o : Nat} (hs : src < 512) (ho : ¬ irqReg o) : (irqEval s src).rn o = s.rn o := by
  unfold irqEval
  dsimp only
  split
  · rw [rn_sendMsg ho, rn_pending hs ho]
  · rw [rn_pending hs ho]

theorem below_ite {c : Prop} [Decidable c] {a b : Option Nat} {n : Nat} (ha : c → ∀ x, a = some x → x < n)
    (hb : ¬ c → ∀ x, b = some x → x < n) : ∀ x, (if c then a else b) = some x → x < n := by
  intro x h
  by_cases k : c
  · rw [if_pos k] at h; exact ha k x h
  · rw [if_neg k] at h; exact hb k x h

theorem srcOf_lt {off src : Nat} (h : srcOf off = some src) : src < 512 := by
  have key : ∀ x, srcOf off = some x → x < 512 := by
    unfold srcOf
    repeat' (refine below_ite (fun _ => ?_) (fun _ => ?_))
    all_goals
      intro x h
      first
      | (have h := Option.some.inj h; omega)
      | cases h
  exact key src h

theorem rn_irqOff {s : State} {off o : Nat} (ho : ¬ irqReg o) : (irqOff s off).rn o = s.rn o := by
  unfold irqOff
  split
  · rename_i src e
    exact rn_irqEval (srcOf_lt e) ho
  · rfl

/-- A register that holds no pending bits changes only where the event stands. -/
theorem rn_ev {s : State} {f : Fld} {o : Nat} (h : o ≠ f.off) (ho : ¬ irqReg o) : (s.ev f).rn o = s.rn o := by
  unfold State.ev
  rw [rn_irqOff ho, rn_setF_other h]

theorem fv_ev_other {s : State} {f g : Fld} (h : g.off ≠ f.off) (ho : ¬ irqReg g.off) : (s.ev f).fv g = s.fv g := by
  unfold State.fv
  rw [rn_ev h ho]

/-- The event is set. -/
theorem fv_ev_same {s : State} {f : Fld} (ho : ¬ irqReg f.off) (h : f.lsb + f.width ≤ 32) :
    (s.ev f).fv f = 1 % 2 ^ f.width := by
  have e : (s.ev f).fv f = (s.setF f 1).fv f := by
    unfold State.ev State.fv
    rw [rn_irqOff ho]
  rw [e, State.fv_setF_same s f 1 h]

/-- The other fields of the event register are as they were. -/
theorem fv_ev_apart {s : State} {f g : Fld} (ho : ¬ irqReg g.off) (h : f.lsb + f.width ≤ 32)
    (hg : f.lsb + f.width ≤ g.lsb ∨ g.lsb + g.width ≤ f.lsb) : (s.ev f).fv g = s.fv g := by
  have e : (s.ev f).fv g = (s.setF f 1).fv g := by
    unfold State.ev State.fv
    rw [rn_irqOff ho]
  rw [e, State.fv_setF_apart s 1 h hg]

/-! ### The parts that an event leaves as they were -/

@[simp] theorem State.ev_pending (s : State) (f : Fld) : (s.ev f).pending = s.pending :=
  (keeps_State_ev s f rfl (Keeps.refl 0x80208 s)).pending
@[simp] theorem State.ev_now (s : State) (f : Fld) : (s.ev f).now = s.now :=
  (keeps_State_ev s f rfl (Keeps.refl 0x80208 s)).now
@[simp] theorem State.ev_taken (s : State) (f : Fld) : (s.ev f).taken = s.taken :=
  (keeps_State_ev s f rfl (Keeps.refl 0x80208 s)).taken rfl
@[simp] theorem State.ev_act (s : State) (f : Fld) : (s.ev f).act = s.act :=
  (keeps_State_ev s f rfl (Keeps.refl 0x80208 s)).act rfl
@[simp] theorem State.ev_written (s : State) (f : Fld) : (s.ev f).written = s.written :=
  (keeps_State_ev s f rfl (Keeps.refl 0x80208 s)).written rfl
@[simp] theorem State.ev_pow (s : State) (f : Fld) : (s.ev f).pow = s.pow :=
  (keeps_State_ev s f rfl (Keeps.refl 0x80208 s)).pow rfl
@[simp] theorem State.ev_regu (s : State) (f : Fld) : (s.ev f).regu = s.regu :=
  (keeps_State_ev s f rfl (Keeps.refl 0x80208 s)).regu rfl
@[simp] theorem State.ev_isl (s : State) (f : Fld) : (s.ev f).isl = s.isl :=
  (keeps_State_ev s f rfl (Keeps.refl 0x80208 s)).isl rfl
@[simp] theorem State.ev_bridge (s : State) (f : Fld) : (s.ev f).bridge = s.bridge :=
  (keeps_State_ev s f rfl (Keeps.refl 0x80208 s)).bridge rfl
@[simp] theorem State.ev_ident (s : State) (f : Fld) : (s.ev f).ident = s.ident :=
  (keeps_State_ev s f rfl (Keeps.refl 0x80208 s)).ident rfl
@[simp] theorem State.ev_scc (s : State) (f : Fld) : (s.ev f).scc = s.scc :=
  (keeps_State_ev s f rfl (Keeps.refl 0x80208 s)).scc rfl
@[simp] theorem State.ev_mgt (s : State) (f : Fld) : (s.ev f).mgt = s.mgt :=
  (keeps_State_ev s f rfl (Keeps.refl 0x80208 s)).mgt rfl
@[simp] theorem State.ev_esc (s : State) (f : Fld) : (s.ev f).esc = s.esc :=
  (keeps_State_ev s f rfl (Keeps.refl 0x80208 s)).esc rfl
@[simp] theorem State.ev_frameNo (s : State) (f : Fld) : (s.ev f).frameNo = s.frameNo :=
  (keeps_State_ev s f rfl (Keeps.refl 0x80208 s)).frameNo rfl
@[simp] theorem State.ev_frameAt (s : State) (f : Fld) : (s.ev f).frameAt = s.frameAt :=
  (keeps_State_ev s f rfl (Keeps.refl 0x80208 s)).frameAt rfl
@[simp] theorem State.ev_started (s : State) (f : Fld) : (s.ev f).started = s.started :=
  (keeps_State_ev s f rfl (Keeps.refl 0x80208 s)).started rfl
@[simp] theorem State.ev_fresh (s : State) (f : Fld) : (s.ev f).fresh = s.fresh :=
  (keeps_State_ev s f rfl (Keeps.refl 0x80208 s)).fresh rfl
@[simp] theorem State.ev_reply (s : State) (f : Fld) : (s.ev f).reply = s.reply :=
  (keeps_State_ev s f rfl (Keeps.refl 0x80208 s)).reply rfl
@[simp] theorem State.ev_ring (s : State) (f : Fld) : (s.ev f).ring = s.ring :=
  (keeps_State_ev s f rfl (Keeps.refl 0x80208 s)).ring rfl
@[simp] theorem State.ev_wire (s : State) (f : Fld) : (s.ev f).wire = s.wire :=
  (keeps_State_ev s f rfl (Keeps.refl 0x80208 s)).wire rfl
@[simp] theorem State.ev_place (s : State) (f : Fld) : (s.ev f).place = s.place :=
  (keeps_State_ev s f rfl (Keeps.refl 0x80208 s)).place rfl
@[simp] theorem State.ev_commits (s : State) (f : Fld) : (s.ev f).commits = s.commits :=
  (keeps_State_ev s f rfl (Keeps.refl 0x80208 s)).commits rfl
@[simp] theorem State.ev_port (s : State) (f : Fld) : (s.ev f).port = s.port :=
  (keeps_State_ev s f rfl (Keeps.refl 0x80208 s)).port rfl
@[simp] theorem State.ev_pipe (s : State) (f : Fld) : (s.ev f).pipe = s.pipe :=
  (keeps_State_ev s f rfl (Keeps.refl 0x80208 s)).pipe rfl
@[simp] theorem State.ev_jobs (s : State) (f : Fld) : (s.ev f).jobs = s.jobs :=
  (keeps_State_ev s f rfl (Keeps.refl 0x80208 s)).jobs rfl
@[simp] theorem State.ev_nextJob (s : State) (f : Fld) : (s.ev f).nextJob = s.nextJob :=
  (keeps_State_ev s f rfl (Keeps.refl 0x80208 s)).nextJob rfl
@[simp] theorem State.ev_tile (s : State) (f : Fld) : (s.ev f).tile = s.tile :=
  (keeps_State_ev s f rfl (Keeps.refl 0x80208 s)).tile rfl
@[simp] theorem State.ev_readmit (s : State) (f : Fld) : (s.ev f).readmit = s.readmit :=
  (keeps_State_ev s f rfl (Keeps.refl 0x80208 s)).readmit rfl
@[simp] theorem State.ev_stops (s : State) (f : Fld) : (s.ev f).stops = s.stops :=
  (keeps_State_ev s f rfl (Keeps.refl 0x80208 s)).stops rfl
@[simp] theorem State.ev_twinWait (s : State) (f : Fld) : (s.ev f).twinWait = s.twinWait :=
  (keeps_State_ev s f rfl (Keeps.refl 0x80208 s)).twinWait rfl
@[simp] theorem State.ev_tallies (s : State) (f : Fld) : (s.ev f).tallies = s.tallies :=
  (keeps_State_ev s f rfl (Keeps.refl 0x80208 s)).tallies rfl
@[simp] theorem State.ev_prod (s : State) (f : Fld) : (s.ev f).prod = s.prod :=
  (keeps_State_ev s f rfl (Keeps.refl 0x80208 s)).prod rfl
@[simp] theorem State.ev_canvas (s : State) (f : Fld) : (s.ev f).canvas = s.canvas :=
  (keeps_State_ev s f rfl (Keeps.refl 0x80208 s)).canvas rfl
@[simp] theorem State.ev_fstore (s : State) (f : Fld) : (s.ev f).fstore = s.fstore :=
  (keeps_State_ev s f rfl (Keeps.refl 0x80208 s)).fstore rfl
@[simp] theorem State.ev_larder (s : State) (f : Fld) : (s.ev f).larder = s.larder :=
  (keeps_State_ev s f rfl (Keeps.refl 0x80208 s)).larder rfl
@[simp] theorem State.ev_hoist (s : State) (f : Fld) : (s.ev f).hoist = s.hoist :=
  (keeps_State_ev s f rfl (Keeps.refl 0x80208 s)).hoist rfl
@[simp] theorem State.ev_lane (s : State) (f : Fld) : (s.ev f).lane = s.lane :=
  (keeps_State_ev s f rfl (Keeps.refl 0x80208 s)).lane rfl
@[simp] theorem State.ev_fabric (s : State) (f : Fld) : (s.ev f).fabric = s.fabric :=
  (keeps_State_ev s f rfl (Keeps.refl 0x80208 s)).fabric rfl
@[simp] theorem State.ev_mem (s : State) (f : Fld) : (s.ev f).mem = s.mem :=
  (keeps_State_ev s f rfl (Keeps.refl 0x80208 s)).mem rfl
@[simp] theorem State.ev_memPoison (s : State) (f : Fld) : (s.ev f).memPoison = s.memPoison :=
  (keeps_State_ev s f rfl (Keeps.refl 0x80208 s)).memPoison rfl
@[simp] theorem State.ev_tally (s : State) (f : Fld) : (s.ev f).tally = s.tally :=
  (keeps_State_ev s f rfl (Keeps.refl 0x80208 s)).tally rfl
@[simp] theorem State.ev_madc (s : State) (f : Fld) : (s.ev f).madc = s.madc :=
  (keeps_State_ev s f rfl (Keeps.refl 0x80208 s)).madc rfl
@[simp] theorem State.ev_spdm (s : State) (f : Fld) : (s.ev f).spdm = s.spdm :=
  (keeps_State_ev s f rfl (Keeps.refl 0x80208 s)).spdm rfl
@[simp] theorem State.ev_attic (s : State) (f : Fld) : (s.ev f).attic = s.attic :=
  (keeps_State_ev s f rfl (Keeps.refl 0x80208 s)).attic rfl

end Sys2Proof.Machine
end

