-- ==== Sys2Proof/Laws/KeepsC.lean ====
section
/-!
SUPPORT. What each operation keeps, part 3 of 6: one lemma for each function that answers a state, after those that it
calls (peerBlock to execAdaptationDone).
-/

namespace Sys2Proof.Machine

theorem keeps_peerBlock {W : Nat} {a₀ : State} (s : State) (st : Nat) (b : List Byte) (hw : 0x10000080308 &&& W =
    0x10000080308) (hs : Keeps W a₀ s) :
    Keeps W a₀ (peerBlock s st b) := by
  unfold peerBlock
  try dsimp only
  with_reducible repeat' first
    | assumption | exact part_sub rfl hw | apply keeps_State_ev | apply keeps_fabReport | apply keeps_setPeer
    | apply keeps_ite | split

theorem keeps_peerPoll {W : Nat} {a₀ : State} (s : State) (st : Nat) (block : HostData) (desc : HostData) (hw :
    0x10000080308 &&& W = 0x10000080308) (hs : Keeps W a₀ s) :
    Keeps W a₀ (peerPoll s st block desc) := by
  unfold peerPoll
  try dsimp only
  with_reducible repeat' first
    | assumption | exact part_sub rfl hw | apply keeps_peerBlock | apply keeps_setPeer | apply keeps_ite | dsimp only
    | split

theorem keeps_execPeerTailPoll {W : Nat} {a₀ : State} (stream : Nat) (block : HostData) (desc : HostData) (s : State)
    (hw : 0x10000080308 &&& W = 0x10000080308) (hs : Keeps W a₀ s) :
    KeepsOut W a₀ (execPeerTailPoll stream block desc s) := by
  unfold execPeerTailPoll
  try dsimp only
  with_reducible apply keeps_onFabric
  with_reducible repeat' first
    | assumption | exact part_sub rfl hw | apply keeps_peerPoll

theorem keeps_timeExchange {W : Nat} {a₀ : State} (s : State) (hw : 0x10000000000 &&& W = 0x10000000000) (hs : Keeps W
    a₀ s) :
    Keeps W a₀ (timeExchange s) := by
  unfold timeExchange
  try dsimp only
  with_reducible repeat' first
    | assumption | exact part_sub rfl hw | exact id | intro _ | apply keeps_portSend | apply keeps_updFabPort
    | apply keeps_ite | dsimp only | split | apply Keeps.set_fabric

theorem keeps_execTimeSyncExchange {W : Nat} {a₀ : State} (s : State) (hw : 0x10000000000 &&& W = 0x10000000000) (hs :
    Keeps W a₀ s) :
    KeepsOut W a₀ (execTimeSyncExchange s) := by
  unfold execTimeSyncExchange
  try dsimp only
  with_reducible apply keeps_onFabric
  with_reducible repeat' first
    | assumption | exact part_sub rfl hw | apply keeps_timeExchange

theorem keeps_timeReq {W : Nat} {a₀ : State} (s : State) (k : Nat) (turn : Nat) (hw : 0x10000000000 &&& W =
    0x10000000000) (hs : Keeps W a₀ s) :
    Keeps W a₀ (timeReq s k turn) := by
  unfold timeReq
  try dsimp only
  with_reducible repeat' first
    | assumption | exact part_sub rfl hw | apply keeps_portSend | apply keeps_ite | split

theorem keeps_execTimeReq {W : Nat} {a₀ : State} (k : Nat) (turn : Nat) (s : State) (hw : 0x10000000000 &&& W =
    0x10000000000) (hs : Keeps W a₀ s) :
    KeepsOut W a₀ (execTimeReq k turn s) := by
  unfold execTimeReq
  try dsimp only
  with_reducible apply keeps_onFabric
  with_reducible repeat' first
    | assumption | exact part_sub rfl hw | apply keeps_timeReq

theorem keeps_gmacDiscard {W : Nat} {a₀ : State} (s : State) (hw : 0x80b08 &&& W = 0x80b08) (hs : Keeps W a₀ s) :
    Keeps W a₀ (gmacDiscard s) := by
  unfold gmacDiscard
  try dsimp only
  with_reducible repeat' first
    | assumption | exact part_sub rfl hw | exact id | intro _ | apply keeps_State_ev | apply keeps_State_report
    | apply keeps_State_setF | apply keeps_ite | split | apply Keeps.set_ident

theorem keeps_stepDial {W : Nat} {a₀ : State} (s : State) (t : Nat) (hw : 0x80288 &&& W = 0x80288) (hs : Keeps W a₀ s) :
    Keeps W a₀ (stepDial s t) := by
  unfold stepDial
  try dsimp only
  with_reducible repeat' first
    | assumption | exact part_sub rfl hw | exact id | intro _ | apply keeps_State_ev | apply Keeps.set_regu

theorem keeps_timeEstimate {W : Nat} {a₀ : State} (s : State) (d : Int) (hw : 0x80b8c &&& W = 0x80b8c) (hs : Keeps W
    a₀ s) :
    Keeps W a₀ (timeEstimate s d) := by
  unfold timeEstimate
  try dsimp only
  with_reducible repeat' first
    | assumption | exact part_sub rfl hw | exact id | intro _ | apply keeps_State_ev | apply keeps_State_report
    | apply keeps_State_setF | apply keeps_State_setRn | apply keeps_gmacDiscard | apply keeps_stepDial
    | apply keeps_takeFree | apply keeps_ite | refine keeps_of_pair (by assumption) ?_
    | refine keeps_of_pair_first (by assumption) ?_ | refine keeps_of_triple (by assumption) ?_ | dsimp only | split
    | apply Keeps.set_regu

theorem keeps_timeRsp {W : Nat} {a₀ : State} (s : State) (k : Nat) (t2 : Nat) (t3 : Nat) (est : Int) (valid : Bool)
    (hw : 0x10000080b8c &&& W = 0x10000080b8c) (hs : Keeps W a₀ s) :
    Keeps W a₀ (timeRsp s k t2 t3 est valid) := by
  unfold timeRsp
  try dsimp only
  with_reducible repeat' first
    | assumption | exact part_sub rfl hw | exact id | intro _ | apply keeps_takeFree | apply keeps_timeEstimate
    | apply keeps_ite | refine keeps_of_pair (by assumption) ?_ | refine keeps_of_pair_first (by assumption) ?_
    | refine keeps_of_triple (by assumption) ?_ | dsimp only | split | apply Keeps.set_fabric

theorem keeps_execTimeRsp {W : Nat} {a₀ : State} (k : Nat) (t2 : Nat) (t3 : Nat) (est : Int) (valid : Bool) (s :
    State) (hw : 0x10000080b8c &&& W = 0x10000080b8c) (hs : Keeps W a₀ s) :
    KeepsOut W a₀ (execTimeRsp k t2 t3 est valid s) := by
  unfold execTimeRsp
  try dsimp only
  with_reducible apply keeps_onFabric
  with_reducible repeat' first
    | assumption | exact part_sub rfl hw | apply keeps_timeRsp

theorem keeps_portLanesReq {W : Nat} {a₀ : State} (s : State) (k : Nat) (st : Nat) (tx : Bool) (hw : 0x8000000000 &&&
    W = 0x8000000000) (hs : Keeps W a₀ s) :
    Keeps W a₀ (portLanesReq s k st tx) := by
  unfold portLanesReq
  try dsimp only
  with_reducible repeat' first
    | assumption | exact part_sub rfl hw | intro _ | apply keeps_updLane | apply keeps_ite | apply keeps_foldl
    | apply keeps_foldl_first | dsimp only | split

theorem keeps_idleSleep {W : Nat} {a₀ : State} (s : State) (k : Nat) (hw : 0x18000000000 &&& W = 0x18000000000) (hs :
    Keeps W a₀ s) :
    Keeps W a₀ (idleSleep s k) := by
  unfold idleSleep
  try dsimp only
  with_reducible repeat' first
    | assumption | exact part_sub rfl hw | apply keeps_portCtl | apply keeps_portLanesReq | apply keeps_setFabPort
    | apply keeps_ite | split

theorem keeps_execPortIdleSleep {W : Nat} {a₀ : State} (k : Nat) (s : State) (hw : 0x18000000000 &&& W =
    0x18000000000) (hs : Keeps W a₀ s) :
    KeepsOut W a₀ (execPortIdleSleep k s) := by
  unfold execPortIdleSleep
  try dsimp only
  with_reducible apply keeps_onFabric
  with_reducible repeat' first
    | assumption | exact part_sub rfl hw | apply keeps_idleSleep

theorem keeps_sleepNotice {W : Nat} {a₀ : State} (s : State) (k : Nat) (st : Nat) (hw : 0x8000000000 &&& W =
    0x8000000000) (hs : Keeps W a₀ s) :
    Keeps W a₀ (sleepNotice s k st) := by
  unfold sleepNotice
  try dsimp only
  with_reducible repeat' first
    | assumption | exact part_sub rfl hw | apply keeps_portLanesReq | apply keeps_ite | split

theorem keeps_execSleepNotice {W : Nat} {a₀ : State} (k : Nat) (state : Nat) (s : State) (hw : 0x8000000000 &&& W =
    0x8000000000) (hs : Keeps W a₀ s) :
    KeepsOut W a₀ (execSleepNotice k state s) := by
  unfold execSleepNotice
  try dsimp only
  with_reducible apply keeps_onFabric
  with_reducible repeat' first
    | assumption | exact part_sub rfl hw | apply keeps_sleepNotice

theorem keeps_portWake {W : Nat} {a₀ : State} (s : State) (k : Nat) (hw : 0x18000000000 &&& W = 0x18000000000) (hs :
    Keeps W a₀ s) :
    Keeps W a₀ (portWake s k) := by
  unfold portWake
  try dsimp only
  with_reducible repeat' first
    | assumption | exact part_sub rfl hw | apply keeps_portCtl | apply keeps_portLanesReq | apply keeps_pumpPort
    | apply keeps_setFabPort | apply keeps_ite | split

theorem keeps_execPortWake {W : Nat} {a₀ : State} (k : Nat) (s : State) (hw : 0x18000000000 &&& W = 0x18000000000) (hs
    : Keeps W a₀ s) :
    KeepsOut W a₀ (execPortWake k s) := by
  unfold execPortWake
  try dsimp only
  with_reducible apply keeps_onFabric
  with_reducible repeat' first
    | assumption | exact part_sub rfl hw | apply keeps_portWake

theorem keeps_decimate {W : Nat} {a₀ : State} (s : State) (rd : Cfg) (p : Nat) (fs : Nat) (hw : 0x4000008 &&& W =
    0x4000008) (hs : Keeps W a₀ s) :
    Keeps W a₀ (decimate s rd p fs).2.2 := by
  unfold decimate
  dsimp only
  refine keeps_setPipe _ _ _ (part_sub rfl hw) (keeps_foldl_second hs ?_)
  intro x y h
  split
  · exact keeps_setPipe _ _ _ (part_sub rfl hw) h
  · split
    · exact keeps_setPipe _ _ _ (part_sub rfl hw) h
    · exact keeps_State_bump _ _ (part_sub rfl hw) (keeps_setPipe _ _ _ (part_sub rfl hw) h)

theorem keeps_assembleBurst {W : Nat} {a₀ : State} (s : State) (p : Nat) (f : Int) (hw : 0x4000 &&& W = 0x4000) (hs :
    Keeps W a₀ s) :
    Keeps W a₀ (assembleBurst s p f) := by
  unfold assembleBurst
  try dsimp only
  with_reducible repeat' first
    | assumption | exact part_sub rfl hw | apply keeps_addBurst | dsimp only | split

theorem keeps_setSched {W : Nat} {a₀ : State} (s : State) (p : Nat) (x : Sched) (hw : 0x80 &&& W = 0x80) (hs : Keeps W
    a₀ s) :
    Keeps W a₀ (setSched s p x) := by
  unfold setSched
  try dsimp only
  with_reducible repeat' first
    | assumption | exact part_sub rfl hw | exact id | intro _ | apply Keeps.set_regu

theorem keeps_stampFs {W : Nat} {a₀ : State} (s : State) (n : Nat) (k : Nat) (p : Nat) (hw : 0x88 &&& W = 0x88) (hs :
    Keeps W a₀ s) :
    Keeps W a₀ (stampFs s n k p) := by
  unfold stampFs
  try dsimp only
  with_reducible repeat' first
    | assumption | exact part_sub rfl hw | apply keeps_State_setF | apply keeps_State_setPair | apply keeps_setSched
    | apply keeps_ite | split

theorem keeps_acceptFrame {W : Nat} {a₀ : State} (s : State) (n : Nat) (k : Nat) (p : Nat) (hw : 0x5005edc398 &&& W =
    0x5005edc398) (hs : Keeps W a₀ s) :
    Keeps W a₀ (acceptFrame s n k p) := by
  unfold acceptFrame
  try dsimp only
  with_reducible repeat' first
    | assumption | exact part_sub rfl hw | exact id | intro _ | apply keeps_State_bump | apply keeps_State_ev
    | apply keeps_State_report | apply keeps_State_setF | apply keeps_State_setRn | apply keeps_assembleBurst
    | apply keeps_commitAtFrame | apply keeps_decimate | apply keeps_ledgerFrame | apply keeps_setPipe
    | apply keeps_stampFs | apply keeps_updPipe | apply keeps_ite | refine keeps_of_pair (by assumption) ?_
    | refine keeps_of_pair_first (by assumption) ?_ | refine keeps_of_triple (by assumption) ?_ | apply keeps_foldl
    | apply keeps_foldl_first | dsimp only | split | apply Keeps.set_frameNo_frameAt

theorem keeps_updFrame {W : Nat} {a₀ : State} (s : State) (p : Nat) (n : Int) (g : Frame → Frame) (hw : 0x4000000 &&&
    W = 0x4000000) (hs : Keeps W a₀ s) :
    Keeps W a₀ (updFrame s p n g) := by
  unfold updFrame
  try dsimp only
  with_reducible repeat' first
    | assumption | exact part_sub rfl hw | apply keeps_updPipe | apply keeps_ite | split

theorem keeps_parseOne {W : Nat} {a₀ : State} (s : State) (p : Nat) (f : Frame) (i : Nat) (hw : 0x4080308 &&& W =
    0x4080308) (hs : Keeps W a₀ s) :
    Keeps W a₀ (parseOne s p f i) := by
  unfold parseOne
  try dsimp only
  with_reducible repeat' first
    | assumption | exact part_sub rfl hw | apply keeps_State_ev | apply keeps_State_report | apply keeps_State_setF
    | apply keeps_State_setRn | apply keeps_updFrame | apply keeps_updPipe | apply keeps_ite | dsimp only | split

theorem keeps_parseFields {W : Nat} {a₀ : State} (s : State) (p : Nat) (f : Frame) (bottom : Bool) (hw : 0x4080308 &&&
    W = 0x4080308) (hs : Keeps W a₀ s) :
    Keeps W a₀ (parseFields s p f bottom) := by
  unfold parseFields
  try dsimp only
  with_reducible repeat' first
    | assumption | exact part_sub rfl hw | intro _ | apply keeps_parseOne | apply keeps_ite | apply keeps_foldl
    | apply keeps_foldl_first | dsimp only | split

theorem keeps_beginImage {W : Nat} {a₀ : State} (s : State) (p : Nat) (n : Int) (hw : 0x4084308 &&& W = 0x4084308) (hs
    : Keeps W a₀ s) :
    Keeps W a₀ (beginImage s p n) := by
  unfold beginImage
  try dsimp only
  with_reducible repeat' first
    | assumption | exact part_sub rfl hw | intro _ | apply keeps_State_ev | apply keeps_State_report
    | apply keeps_State_setF | apply keeps_parseFields | apply keeps_updFrame | apply keeps_verifyFrame
    | apply keeps_ite | apply keeps_foldl | apply keeps_foldl_first | dsimp only | split

theorem keeps_addLine {W : Nat} {a₀ : State} (s : State) (p : Nat) (n : Int) (samples : List Nat) (damaged : Bool) (hw
    : 0x4084308 &&& W = 0x4084308) (hs : Keeps W a₀ s) :
    Keeps W a₀ (addLine s p n samples damaged) := by
  unfold addLine
  try dsimp only
  with_reducible repeat' first
    | assumption | exact part_sub rfl hw | apply keeps_beginImage | apply keeps_updFrame | apply keeps_ite | split

theorem keeps_trackLevels {W : Nat} {a₀ : State} (s : State) (p : Nat) (f : Frame) (hw : 0x4000000 &&& W = 0x4000000)
    (hs : Keeps W a₀ s) :
    Keeps W a₀ (trackLevels s p f) := by
  unfold trackLevels
  try dsimp only
  with_reducible repeat' first
    | assumption | exact part_sub rfl hw | apply keeps_updPipe | apply keeps_ite | split

theorem keeps_defectStats {W : Nat} {a₀ : State} (s : State) (p : Nat) (f : Frame) (hw : 0x80308 &&& W = 0x80308) (hs
    : Keeps W a₀ s) :
    Keeps W a₀ (defectStats s p f) := by
  unfold defectStats
  try dsimp only
  with_reducible repeat' first
    | assumption | exact part_sub rfl hw | apply keeps_State_ev | apply keeps_State_report | apply keeps_State_setF
    | apply keeps_ite | split

theorem keeps_endFrame {W : Nat} {a₀ : State} (s : State) (p : Nat) (n : Int) (truncated : Bool) (corrupt : Bool) (hw
    : 0x4084308 &&& W = 0x4084308) (hs : Keeps W a₀ s) :
    Keeps W a₀ (endFrame s p n truncated corrupt) := by
  unfold endFrame
  try dsimp only
  with_reducible repeat' first
    | assumption | exact part_sub rfl hw | apply keeps_beginImage | apply keeps_parseFields | apply keeps_trackLevels
    | apply keeps_updFrame | apply keeps_verifyFrame | dsimp only | split

theorem keeps_execFreshnessBudgetExpiry {W : Nat} {a₀ : State} (stream : Nat) (s : State) (hw : 0xc0308 &&& W =
    0xc0308) (hs : Keeps W a₀ s) :
    KeepsOut W a₀ (execFreshnessBudgetExpiry stream s) := by
  unfold execFreshnessBudgetExpiry
  try dsimp only
  with_reducible apply KeepsOut.next
  with_reducible repeat' first
    | assumption | exact part_sub rfl hw | apply keeps_budgetExpiry | apply keeps_hub

theorem keeps_clearCause {W : Nat} {a₀ : State} (s : State) (k : Nat) (hw : 0x80308 &&& W = 0x80308) (hs : Keeps W a₀
    s) :
    Keeps W a₀ (clearCause s k) := by
  unfold clearCause
  try dsimp only
  with_reducible repeat' first
    | assumption | exact part_sub rfl hw | apply keeps_State_ev | apply keeps_State_setF | apply keeps_logRec
    | apply keeps_ite | split

theorem keeps_viewFound {W : Nat} {a₀ : State} (s : State) (hw : 0x80308 &&& W = 0x80308) (hs : Keeps W a₀ s) :
    Keeps W a₀ (viewFound s) := by
  unfold viewFound
  try dsimp only
  with_reducible repeat' first
    | assumption | exact part_sub rfl hw | exact id | intro _ | apply keeps_clearCause | apply keeps_ite | split
    | apply Keeps.set_isl

theorem keeps_freshDelivered {W : Nat} {a₀ : State} (s : State) (st : Nat) (good : Bool) (cap : Nat) (budget : Nat)
    (hw : 0xc0308 &&& W = 0xc0308) (hs : Keeps W a₀ s) :
    Keeps W a₀ (freshDelivered s st good cap budget) := by
  unfold freshDelivered
  try dsimp only
  with_reducible repeat' first
    | assumption | exact part_sub rfl hw | apply keeps_State_ev | apply keeps_State_setF | apply keeps_setFresh
    | apply keeps_setStale | apply keeps_viewFound | apply keeps_ite | split

theorem keeps_updOut {W : Nat} {a₀ : State} (s : State) (st : Nat) (n : Int) (g : OutFrame → OutFrame) (hw :
    0x804000000 &&& W = 0x804000000) (hs : Keeps W a₀ s) :
    Keeps W a₀ (updOut s st n g) := by
  unfold updOut
  try dsimp only
  with_reducible repeat' first
    | assumption | exact part_sub rfl hw | apply keeps_updCvFrame | apply keeps_updFrame | apply keeps_ite | split

theorem keeps_hoistRun {W : Nat} {a₀ : State} (s : State) (c : Nat) (hw : 0x4000000008 &&& W = 0x4000000008) (hs :
    Keeps W a₀ s) :
    Keeps W a₀ (hoistRun s c) := by
  unfold hoistRun
  try dsimp only
  with_reducible repeat' first
    | assumption | exact part_sub rfl hw | apply keeps_State_setF | apply keeps_State_setRn | apply keeps_setHState
    | apply keeps_setHalted | apply keeps_updHchan

theorem keeps_hoistHalt {W : Nat} {a₀ : State} (s : State) (c : Nat) (hw : 0x4000000008 &&& W = 0x4000000008) (hs :
    Keeps W a₀ s) :
    Keeps W a₀ (hoistHalt s c) := by
  unfold hoistHalt
  try dsimp only
  with_reducible repeat' first
    | assumption | exact part_sub rfl hw | apply keeps_setHState | apply keeps_updHchan

theorem keeps_hoistCtrl {W : Nat} {a₀ : State} (s : State) (c : Nat) (v : Word) (hw : 0x4000080208 &&& W =
    0x4000080208) (hs : Keeps W a₀ s) :
    Keeps W a₀ (hoistCtrl s c v) := by
  unfold hoistCtrl
  try dsimp only
  with_reducible repeat' first
    | assumption | exact part_sub rfl hw | apply keeps_State_ev | apply keeps_State_setF | apply keeps_hoistHalt
    | apply keeps_hoistRun | apply keeps_ite | split

theorem keeps_execHoistStart {W : Nat} {a₀ : State} (c : Nat) (v : Word) (s : State) (hw : 0x4000080208 &&& W =
    0x4000080208) (hs : Keeps W a₀ s) :
    KeepsOut W a₀ (execHoistStart c v s) := by
  unfold execHoistStart
  try dsimp only
  with_reducible apply KeepsOut.next
  with_reducible repeat' first
    | assumption | exact part_sub rfl hw | apply keeps_hoistCtrl | apply keeps_hub

theorem keeps_execHoistStop {W : Nat} {a₀ : State} (c : Nat) (v : Word) (s : State) (hw : 0x4000080208 &&& W =
    0x4000080208) (hs : Keeps W a₀ s) :
    KeepsOut W a₀ (execHoistStop c v s) := by
  unfold execHoistStop
  try dsimp only
  with_reducible apply KeepsOut.next
  with_reducible repeat' first
    | assumption | exact part_sub rfl hw | apply keeps_hoistCtrl | apply keeps_hub

theorem keeps_stopDone {W : Nat} {a₀ : State} (s : State) (c : Nat) (hw : 0x4000000008 &&& W = 0x4000000008) (hs :
    Keeps W a₀ s) :
    Keeps W a₀ (stopDone s c) := by
  unfold stopDone
  try dsimp only
  with_reducible repeat' first
    | assumption | exact part_sub rfl hw | apply keeps_setHState | apply keeps_setHchan | apply keeps_ite | split

theorem keeps_execHoistStopDone {W : Nat} {a₀ : State} (c : Nat) (s : State) (hw : 0x4000000008 &&& W = 0x4000000008)
    (hs : Keeps W a₀ s) :
    KeepsOut W a₀ (execHoistStopDone c s) := by
  unfold execHoistStopDone
  try dsimp only
  with_reducible apply KeepsOut.next
  with_reducible repeat' first
    | assumption | exact part_sub rfl hw | apply keeps_hub | apply keeps_stopDone

theorem keeps_onInstr {W : Nat} {a₀ : State} (s : State) (c : Nat) (op : Nat) (f : Nat → Nat → State) (hs : Keeps W a₀
    s) (hf : ∀ (y0 : Nat) (y1 : Nat), Keeps W a₀ (f y0 y1)) :
    Keeps W a₀ (onInstr s c op f) := by
  unfold onInstr
  try dsimp only
  with_reducible repeat' first
    | assumption | intro _ | apply hf | apply keeps_ite | refine keeps_of_pair (by assumption) ?_
    | refine keeps_of_pair_first (by assumption) ?_ | refine keeps_of_triple (by assumption) ?_ | dsimp only | split

theorem keeps_onSpace {W : Nat} {a₀ : State} (s : State) (c : Nat) (space : Nat) (addr : Nat) (u : SpaceUse) (f :
    State) (hw : 0x408408030c &&& W = 0x408408030c) (hs : Keeps W a₀ s) (hf : Keeps W a₀ f) :
    Keeps W a₀ (onSpace s c space addr u f) := by
  unfold onSpace
  try dsimp only
  with_reducible repeat' first
    | assumption | exact part_sub rfl hw | apply keeps_haltChan | apply keeps_setHState | apply keeps_updHchan
    | dsimp only | split

theorem keeps_hoistIllegal {W : Nat} {a₀ : State} (s : State) (c : Nat) (hw : 0x408408030c &&& W = 0x408408030c) (hs :
    Keeps W a₀ s) :
    Keeps W a₀ (hoistIllegal s c) := by
  unfold hoistIllegal
  try dsimp only
  with_reducible repeat' first
    | assumption | exact part_sub rfl hw | apply keeps_haltChan | apply keeps_ite | split

theorem keeps_execHoistIllegalInstruction {W : Nat} {a₀ : State} (c : Nat) (s : State) (hw : 0x408408030c &&& W =
    0x408408030c) (hs : Keeps W a₀ s) :
    KeepsOut W a₀ (execHoistIllegalInstruction c s) := by
  unfold execHoistIllegalInstruction
  try dsimp only
  with_reducible apply KeepsOut.next
  with_reducible repeat' first
    | assumption | exact part_sub rfl hw | apply keeps_hoistIllegal | apply keeps_hub

theorem keeps_hoistEnd {W : Nat} {a₀ : State} (s : State) (c : Nat) (hw : 0x80208 &&& W = 0x80208) (hs : Keeps W a₀ s) :
    Keeps W a₀ (hoistEnd s c) := by
  unfold hoistEnd
  try dsimp only
  with_reducible repeat' first
    | assumption | exact part_sub rfl hw | intro _ | apply keeps_State_ev | apply keeps_onInstr
    | apply keeps_setHState | apply keeps_ite | refine keeps_of_pair (by assumption) ?_
    | refine keeps_of_pair_first (by assumption) ?_ | refine keeps_of_triple (by assumption) ?_ | dsimp only | split

theorem keeps_execHoistEnd {W : Nat} {a₀ : State} (c : Nat) (s : State) (hw : 0x80208 &&& W = 0x80208) (hs : Keeps W
    a₀ s) :
    KeepsOut W a₀ (execHoistEnd c s) := by
  unfold execHoistEnd
  try dsimp only
  with_reducible apply KeepsOut.next
  with_reducible repeat' first
    | assumption | exact part_sub rfl hw | apply keeps_hoistEnd | apply keeps_hub

theorem keeps_hNext {W : Nat} {a₀ : State} (s : State) (c : Nat) (hw : 0x8 &&& W = 0x8) (hs : Keeps W a₀ s) :
    Keeps W a₀ (hNext s c) := by
  unfold hNext
  try dsimp only
  with_reducible repeat' first
    | assumption | exact part_sub rfl hw | apply keeps_State_setF

theorem keeps_setHX {W : Nat} {a₀ : State} (s : State) (c : Nat) (i : Nat) (v : Nat) (hw : 0x8 &&& W = 0x8) (hs :
    Keeps W a₀ s) :
    Keeps W a₀ (setHX s c i v) := by
  unfold setHX
  try dsimp only
  with_reducible repeat' first
    | assumption | exact part_sub rfl hw | apply keeps_State_setPair

theorem keeps_hoistLoop {W : Nat} {a₀ : State} (s : State) (c : Nat) (hw : 0x80208 &&& W = 0x80208) (hs : Keeps W a₀
    s) :
    Keeps W a₀ (hoistLoop s c) := by
  unfold hoistLoop
  try dsimp only
  with_reducible repeat' first
    | assumption | exact part_sub rfl hw | intro _ | apply keeps_State_ev | apply keeps_State_setF
    | apply keeps_hNext | apply keeps_onInstr | apply keeps_setHX | apply keeps_ite
    | refine keeps_of_pair (by assumption) ?_ | refine keeps_of_pair_first (by assumption) ?_
    | refine keeps_of_triple (by assumption) ?_ | dsimp only | split

theorem keeps_execHoistLoop {W : Nat} {a₀ : State} (c : Nat) (s : State) (hw : 0x80208 &&& W = 0x80208) (hs : Keeps W
    a₀ s) :
    KeepsOut W a₀ (execHoistLoop c s) := by
  unfold execHoistLoop
  try dsimp only
  with_reducible apply KeepsOut.next
  with_reducible repeat' first
    | assumption | exact part_sub rfl hw | apply keeps_hoistLoop | apply keeps_hub

theorem keeps_waitPass {W : Nat} {a₀ : State} (s : State) (c : Nat) (a : Nat) (hw : 0x8 &&& W = 0x8) (hs : Keeps W a₀
    s) :
    Keeps W a₀ (waitPass s c a) := by
  unfold waitPass
  try dsimp only
  with_reducible repeat' first
    | assumption | exact part_sub rfl hw | apply keeps_State_setF | apply keeps_hNext | apply keeps_setHState
    | apply keeps_ite | split

theorem keeps_hoistWait {W : Nat} {a₀ : State} (s : State) (c : Nat) (hw : 0x4000000008 &&& W = 0x4000000008) (hs :
    Keeps W a₀ s) :
    Keeps W a₀ (hoistWait s c) := by
  unfold hoistWait
  try dsimp only
  with_reducible repeat' first
    | assumption | exact part_sub rfl hw | intro _ | apply keeps_State_setF | apply keeps_hNext | apply keeps_onInstr
    | apply keeps_setHState | apply keeps_updHchan | apply keeps_waitPass | apply keeps_ite
    | refine keeps_of_pair (by assumption) ?_ | refine keeps_of_pair_first (by assumption) ?_
    | refine keeps_of_triple (by assumption) ?_ | dsimp only | split

theorem keeps_execHoistWait {W : Nat} {a₀ : State} (c : Nat) (s : State) (hw : 0x4000000008 &&& W = 0x4000000008) (hs
    : Keeps W a₀ s) :
    KeepsOut W a₀ (execHoistWait c s) := by
  unfold execHoistWait
  try dsimp only
  with_reducible apply KeepsOut.next
  with_reducible repeat' first
    | assumption | exact part_sub rfl hw | apply keeps_hoistWait | apply keeps_hub

theorem keeps_hoistPass {W : Nat} {a₀ : State} (s : State) (c : Nat) (hw : 0x4000000008 &&& W = 0x4000000008) (hs :
    Keeps W a₀ s) :
    Keeps W a₀ (hoistPass s c) := by
  unfold hoistPass
  try dsimp only
  with_reducible repeat' first
    | assumption | exact part_sub rfl hw | apply keeps_setHState | apply keeps_updHchan | apply keeps_waitPass
    | apply keeps_ite | dsimp only | split

theorem keeps_execHoistWaitPass {W : Nat} {a₀ : State} (c : Nat) (s : State) (hw : 0x4000000008 &&& W = 0x4000000008)
    (hs : Keeps W a₀ s) :
    KeepsOut W a₀ (execHoistWaitPass c s) := by
  unfold execHoistWaitPass
  try dsimp only
  with_reducible apply KeepsOut.next
  with_reducible repeat' first
    | assumption | exact part_sub rfl hw | apply keeps_hoistPass | apply keeps_hub

theorem keeps_hoistLimit {W : Nat} {a₀ : State} (s : State) (c : Nat) (hw : 0x408408030c &&& W = 0x408408030c) (hs :
    Keeps W a₀ s) :
    Keeps W a₀ (hoistLimit s c) := by
  unfold hoistLimit
  try dsimp only
  with_reducible repeat' first
    | assumption | exact part_sub rfl hw | apply keeps_haltChan | apply keeps_ite | split

theorem keeps_execHoistWaitLimit {W : Nat} {a₀ : State} (c : Nat) (s : State) (hw : 0x408408030c &&& W = 0x408408030c)
    (hs : Keeps W a₀ s) :
    KeepsOut W a₀ (execHoistWaitLimit c s) := by
  unfold execHoistWaitLimit
  try dsimp only
  with_reducible apply KeepsOut.next
  with_reducible repeat' first
    | assumption | exact part_sub rfl hw | apply keeps_hoistLimit | apply keeps_hub

theorem keeps_addOp {W : Nat} {a₀ : State} (s : State) (c : Nat) (o : HoistOp) (hw : 0x4000000008 &&& W =
    0x4000000008) (hs : Keeps W a₀ s) :
    Keeps W a₀ (addOp s c o) := by
  unfold addOp
  try dsimp only
  with_reducible repeat' first
    | assumption | exact part_sub rfl hw | exact id | intro _ | apply keeps_countTags | apply keeps_updHchan
    | apply Keeps.set_hoist

theorem keeps_issueOpWrite {W : Nat} {a₀ : State} (s : State) (c : Nat) (o : HoistOp) (hw : 0x74000480308 &&& W =
    0x74000480308) (hs : Keeps W a₀ s) :
    Keeps W a₀ (issueOpWrite s c o) := by
  unfold issueOpWrite
  try dsimp only
  with_reducible repeat' first
    | assumption | exact part_sub rfl hw | intro _ | apply keeps_addOp | apply keeps_fabRequest
    | apply keeps_hostData | apply keeps_memWrite | apply keeps_ite | refine keeps_of_pair (by assumption) ?_
    | refine keeps_of_pair_first (by assumption) ?_ | refine keeps_of_triple (by assumption) ?_ | apply keeps_foldl
    | apply keeps_foldl_first | dsimp only | split

theorem keeps_hoistSignal {W : Nat} {a₀ : State} (s : State) (c : Nat) (hw : 0x7408448030c &&& W = 0x7408448030c) (hs
    : Keeps W a₀ s) :
    Keeps W a₀ (hoistSignal s c) := by
  unfold hoistSignal
  try dsimp only
  with_reducible repeat' first
    | assumption | exact part_sub rfl hw | intro _ | apply keeps_State_evIf | apply keeps_hNext
    | apply keeps_haltChan | apply keeps_issueOpWrite | apply keeps_onInstr | apply keeps_onSpace | apply keeps_ite
    | refine keeps_of_pair (by assumption) ?_ | refine keeps_of_pair_first (by assumption) ?_
    | refine keeps_of_triple (by assumption) ?_ | dsimp only | split

theorem keeps_execHoistSignal {W : Nat} {a₀ : State} (c : Nat) (s : State) (hw : 0x7408448030c &&& W = 0x7408448030c)
    (hs : Keeps W a₀ s) :
    KeepsOut W a₀ (execHoistSignal c s) := by
  unfold execHoistSignal
  try dsimp only
  with_reducible apply KeepsOut.next
  with_reducible repeat' first
    | assumption | exact part_sub rfl hw | apply keeps_hoistSignal | apply keeps_hub

theorem keeps_issueOpRead {W : Nat} {a₀ : State} (s : State) (c : Nat) (o : HoistOp) (hw : 0x14000000208 &&& W =
    0x14000000208) (hs : Keeps W a₀ s) :
    Keeps W a₀ (issueOpRead s c o) := by
  unfold issueOpRead
  try dsimp only
  with_reducible repeat' first
    | assumption | exact part_sub rfl hw | apply keeps_addOp | apply keeps_fabRequest | apply keeps_issueRead
    | apply keeps_ite | refine keeps_of_pair (by assumption) ?_ | refine keeps_of_pair_first (by assumption) ?_
    | refine keeps_of_triple (by assumption) ?_ | dsimp only | split

theorem keeps_hoistLoad {W : Nat} {a₀ : State} (s : State) (c : Nat) (hw : 0x1408408030c &&& W = 0x1408408030c) (hs :
    Keeps W a₀ s) :
    Keeps W a₀ (hoistLoad s c) := by
  unfold hoistLoad
  try dsimp only
  with_reducible repeat' first
    | assumption | exact part_sub rfl hw | intro _ | apply keeps_hNext | apply keeps_haltChan
    | apply keeps_issueOpRead | apply keeps_onInstr | apply keeps_onSpace | apply keeps_setHX | apply keeps_updHchan
    | apply keeps_ite | refine keeps_of_pair (by assumption) ?_ | refine keeps_of_pair_first (by assumption) ?_
    | refine keeps_of_triple (by assumption) ?_ | dsimp only | split

theorem keeps_execHoistLoad {W : Nat} {a₀ : State} (c : Nat) (s : State) (hw : 0x1408408030c &&& W = 0x1408408030c)
    (hs : Keeps W a₀ s) :
    KeepsOut W a₀ (execHoistLoad c s) := by
  unfold execHoistLoad
  try dsimp only
  with_reducible apply KeepsOut.next
  with_reducible repeat' first
    | assumption | exact part_sub rfl hw | apply keeps_hoistLoad | apply keeps_hub

theorem keeps_hoistAdd {W : Nat} {a₀ : State} (s : State) (c : Nat) (hw : 0x8 &&& W = 0x8) (hs : Keeps W a₀ s) :
    Keeps W a₀ (hoistAdd s c) := by
  unfold hoistAdd
  try dsimp only
  with_reducible repeat' first
    | assumption | exact part_sub rfl hw | intro _ | apply keeps_hNext | apply keeps_onInstr | apply keeps_setHX
    | apply keeps_ite | refine keeps_of_pair (by assumption) ?_ | refine keeps_of_pair_first (by assumption) ?_
    | refine keeps_of_triple (by assumption) ?_ | dsimp only | split

theorem keeps_execHoistAdd {W : Nat} {a₀ : State} (c : Nat) (s : State) (hw : 0x8 &&& W = 0x8) (hs : Keeps W a₀ s) :
    KeepsOut W a₀ (execHoistAdd c s) := by
  unfold execHoistAdd
  try dsimp only
  with_reducible apply KeepsOut.next
  with_reducible repeat' first
    | assumption | exact part_sub rfl hw | apply keeps_hoistAdd | apply keeps_hub

theorem keeps_moveEnd {W : Nat} {a₀ : State} (s : State) (c : Nat) (m : HoistMove) (hw : 0x4000000008 &&& W =
    0x4000000008) (hs : Keeps W a₀ s) :
    Keeps W a₀ (moveEnd s c m) := by
  unfold moveEnd
  try dsimp only
  with_reducible repeat' first
    | assumption | exact part_sub rfl hw | apply keeps_hNext | apply keeps_setHX | apply keeps_updHchan
    | apply keeps_ite | split

theorem keeps_hoistMove {W : Nat} {a₀ : State} (s : State) (c : Nat) (hw : 0x408408030c &&& W = 0x408408030c) (hs :
    Keeps W a₀ s) :
    Keeps W a₀ (hoistMove s c) := by
  unfold hoistMove
  try dsimp only
  with_reducible repeat' first
    | assumption | exact part_sub rfl hw | intro _ | apply keeps_State_setRn | apply keeps_haltChan
    | apply keeps_moveEnd | apply keeps_onInstr | apply keeps_onSpace | apply keeps_updHchan | apply keeps_ite
    | refine keeps_of_pair (by assumption) ?_ | refine keeps_of_pair_first (by assumption) ?_
    | refine keeps_of_triple (by assumption) ?_ | dsimp only | split

theorem keeps_execHoistMove {W : Nat} {a₀ : State} (c : Nat) (s : State) (hw : 0x408408030c &&& W = 0x408408030c) (hs
    : Keeps W a₀ s) :
    KeepsOut W a₀ (execHoistMove c s) := by
  unfold execHoistMove
  try dsimp only
  with_reducible apply KeepsOut.next
  with_reducible repeat' first
    | assumption | exact part_sub rfl hw | apply keeps_hoistMove | apply keeps_hub

theorem keeps_readBeat {W : Nat} {a₀ : State} (s : State) (c : Nat) (m : HoistMove) (hw : 0x14000000208 &&& W =
    0x14000000208) (hs : Keeps W a₀ s) :
    Keeps W a₀ (readBeat s c m) := by
  unfold readBeat
  try dsimp only
  with_reducible repeat' first
    | assumption | exact part_sub rfl hw | apply keeps_issueOpRead | apply keeps_updHchan

theorem keeps_setGroupL {W : Nat} {a₀ : State} (s : State) (g : Nat) (x : LGroup) (hw : 0x2000000000 &&& W =
    0x2000000000) (hs : Keeps W a₀ s) :
    Keeps W a₀ (setGroupL s g x) := by
  unfold setGroupL
  try dsimp only
  with_reducible repeat' first
    | assumption | exact part_sub rfl hw | exact id | exact ksorted_kputD | intro _ | apply Keeps.set_larder

theorem keeps_setQueueL {W : Nat} {a₀ : State} (s : State) (q : Nat) (x : LQueue) (hw : 0x2000000000 &&& W =
    0x2000000000) (hs : Keeps W a₀ s) :
    Keeps W a₀ (setQueueL s q x) := by
  unfold setQueueL
  try dsimp only
  with_reducible repeat' first
    | assumption | exact part_sub rfl hw | exact id | exact ksorted_kputD | intro _ | apply Keeps.set_larder

theorem keeps_breakQueue {W : Nat} {a₀ : State} (s : State) (q : Nat) (hw : 0x2000000108 &&& W = 0x2000000108) (hs :
    Keeps W a₀ s) :
    Keeps W a₀ (breakQueue s q) := by
  unfold breakQueue
  try dsimp only
  with_reducible repeat' first
    | assumption | exact part_sub rfl hw | apply keeps_State_report | apply keeps_State_setF | apply keeps_setGroupL
    | apply keeps_setQueueL | apply keeps_ite | split

theorem keeps_closePacket {W : Nat} {a₀ : State} (s : State) (g : Nat) (hw : 0x2000000000 &&& W = 0x2000000000) (hs :
    Keeps W a₀ s) :
    Keeps W a₀ (closePacket s g) := by
  unfold closePacket
  try dsimp only
  with_reducible repeat' first
    | assumption | exact part_sub rfl hw | apply keeps_setGroupL

theorem keeps_countRetired {W : Nat} {a₀ : State} (s : State) (hw : 0x80308 &&& W = 0x80308) (hs : Keeps W a₀ s) :
    Keeps W a₀ (countRetired s) := by
  unfold countRetired
  try dsimp only
  with_reducible repeat' first
    | assumption | exact part_sub rfl hw | apply keeps_State_ev | apply keeps_State_report | apply keeps_State_setF
    | apply keeps_ite | split

theorem keeps_retireCell {W : Nat} {a₀ : State} (s : State) (c : Nat) (hw : 0x2000080308 &&& W = 0x2000080308) (hs :
    Keeps W a₀ s) :
    Keeps W a₀ (retireCell s c) := by
  unfold retireCell
  try dsimp only
  with_reducible repeat' first
    | assumption | exact part_sub rfl hw | exact id | intro _ | apply keeps_countRetired | apply keeps_ite | split
    | apply Keeps.set_larder

theorem keeps_returnCell {W : Nat} {a₀ : State} (s : State) (c : Nat) (hw : 0x2000080308 &&& W = 0x2000080308) (hs :
    Keeps W a₀ s) :
    Keeps W a₀ (returnCell s c) := by
  unfold returnCell
  try dsimp only
  with_reducible repeat' first
    | assumption | exact part_sub rfl hw | exact id | intro _ | apply keeps_retireCell | apply keeps_ite | split
    | apply Keeps.set_larder

theorem keeps_returnCells {W : Nat} {a₀ : State} (s : State) (x1 : List Nat) (hw : 0x2000080308 &&& W = 0x2000080308)
    (hs : Keeps W a₀ s) :
    Keeps W a₀ (returnCells s x1) := by
  induction x1 generalizing s with
  | nil =>
    unfold returnCells
    with_reducible assumption
  | cons w ws ih =>
    unfold returnCells
    try dsimp only
    with_reducible repeat' first
      | assumption | exact part_sub rfl hw | apply ih | apply keeps_returnCell | dsimp only | split

theorem keeps_giveBack {W : Nat} {a₀ : State} (s : State) (q : Nat) (hw : 0x2000080308 &&& W = 0x2000080308) (hs :
    Keeps W a₀ s) :
    Keeps W a₀ (giveBack s q) := by
  unfold giveBack
  try dsimp only
  with_reducible repeat' first
    | assumption | exact part_sub rfl hw | apply keeps_returnCells | apply keeps_setCredit | apply keeps_setQueueL

theorem keeps_ownerParity {W : Nat} {a₀ : State} (s : State) (c : Nat) (hw : 0x2000080308 &&& W = 0x2000080308) (hs :
    Keeps W a₀ s) :
    Keeps W a₀ (ownerParity s c) := by
  unfold ownerParity
  try dsimp only
  with_reducible repeat' first
    | assumption | exact part_sub rfl hw | apply keeps_State_bump | apply keeps_State_ev | apply keeps_State_report
    | apply keeps_retireCell

theorem keeps_poisonedWord {W : Nat} {a₀ : State} (s : State) (g : Nat) (hw : 0x80308 &&& W = 0x80308) (hs : Keeps W
    a₀ s) :
    Keeps W a₀ (poisonedWord s g) := by
  unfold poisonedWord
  try dsimp only
  with_reducible repeat' first
    | assumption | exact part_sub rfl hw | apply keeps_State_bump | apply keeps_State_ev | apply keeps_State_report

theorem keeps_deliver {W : Nat} {a₀ : State} (s : State) (g : Nat) (q : Nat) (err : LarderErr) (hw : 0x2000080308 &&&
    W = 0x2000080308) (hs : Keeps W a₀ s) :
    Keeps W a₀ (deliver s g q err).2 := by
  unfold deliver
  try dsimp only
  with_reducible repeat' first
    | assumption | exact part_sub rfl hw | exact id | intro _ | apply keeps_State_bump | apply keeps_State_ev
    | apply keeps_State_report | apply keeps_breakQueue | apply keeps_closePacket | apply keeps_giveBack
    | apply keeps_ownerParity | apply keeps_poisonedWord | apply keeps_setGroupL | apply keeps_setQueueL
    | apply keeps_ite | dsimp only | split | apply Keeps.set_larder

theorem keeps_groupRead {W : Nat} {a₀ : State} (s : State) (g : Nat) (err : LarderErr) (hw : 0x2000080308 &&& W =
    0x2000080308) (hs : Keeps W a₀ s) :
    Keeps W a₀ (groupRead s g err).2 := by
  unfold groupRead
  try dsimp only
  with_reducible repeat' first
    | assumption | exact part_sub rfl hw | apply keeps_State_bump | apply keeps_State_ev | apply keeps_State_report
    | apply keeps_State_setF | apply keeps_deliver | apply keeps_setGroupL | refine keeps_of_pair (by assumption) ?_
    | refine keeps_of_pair_first (by assumption) ?_ | refine keeps_of_triple (by assumption) ?_ | dsimp only | split

theorem keeps_fillPart {W : Nat} {a₀ : State} (x0 : Nat) (x1 : State) (x2 : Nat) (x3 : HoistMove) (x4 : List
    LarderErr) (hw : 0x2000080308 &&& W = 0x2000080308) (hx1 : Keeps W a₀ x1) :
    Keeps W a₀ (fillPart x0 x1 x2 x3 x4).2 := by
  induction x0 generalizing x1 x2 x3 x4 with
  | zero =>
    unfold fillPart
    with_reducible assumption
  | succ n ih =>
    unfold fillPart
    try dsimp only
    with_reducible repeat' first
      | assumption | exact part_sub rfl hw | apply ih | apply keeps_groupRead | apply keeps_ite
      | refine keeps_of_pair (by assumption) ?_ | refine keeps_of_pair_first (by assumption) ?_
      | refine keeps_of_triple (by assumption) ?_ | dsimp only | split

theorem keeps_freeCell {W : Nat} {a₀ : State} (s : State) (hw : 0x4 &&& W = 0x4) (hs : Keeps W a₀ s) :
    Keeps W a₀ (freeCell s).2 := by
  unfold freeCell
  try dsimp only
  with_reducible repeat' first
    | assumption | exact part_sub rfl hw | apply keeps_takeFree | refine keeps_of_pair (by assumption) ?_
    | refine keeps_of_pair_first (by assumption) ?_ | refine keeps_of_triple (by assumption) ?_ | dsimp only | split

theorem keeps_roomAtTail {W : Nat} {a₀ : State} (s : State) (q : Nat) (hw : 0x200008030c &&& W = 0x200008030c) (hs :
    Keeps W a₀ s) :
    Keeps W a₀ (roomAtTail s q) := by
  unfold roomAtTail
  try dsimp only
  with_reducible repeat' first
    | assumption | exact part_sub rfl hw | apply keeps_freeCell | apply keeps_giveBack | apply keeps_setCredit
    | apply keeps_setQueueL | apply keeps_ite | refine keeps_of_pair (by assumption) ?_
    | refine keeps_of_pair_first (by assumption) ?_ | refine keeps_of_triple (by assumption) ?_ | dsimp only | split

theorem keeps_writeWordL {W : Nat} {a₀ : State} (s : State) (q : Nat) (data : Nat) (last : Bool) (poison : Bool) (tag
    : optParam (Option PktMeta) none) (hw : 0x200008030c &&& W = 0x200008030c) (hs : Keeps W a₀ s) :
    Keeps W a₀ (writeWordL s q data last poison tag) := by
  unfold writeWordL
  try dsimp only
  with_reducible repeat' first
    | assumption | exact part_sub rfl hw | exact id | intro _ | apply keeps_roomAtTail | apply keeps_setQueueL
    | apply keeps_ite | split | apply Keeps.set_larder

theorem keeps_pushWords {W : Nat} {a₀ : State} (s : State) (q : Nat) (lastAt : Bool) (x3 : List (Nat × Bool)) (hw :
    0x200008030c &&& W = 0x200008030c) (hs : Keeps W a₀ s) :
    Keeps W a₀ (pushWords s q lastAt x3).2 := by
  induction x3 generalizing s q lastAt with
  | nil =>
    unfold pushWords
    with_reducible assumption
  | cons w ws ih =>
    unfold pushWords
    try dsimp only
    with_reducible repeat' first
      | assumption | exact part_sub rfl hw | apply ih | apply keeps_writeWordL | apply keeps_ite | dsimp only | split

theorem keeps_moved {W : Nat} {a₀ : State} (s : State) (c : Nat) (m : HoistMove) (n : Nat) (hw : 0x4000000008 &&& W =
    0x4000000008) (hs : Keeps W a₀ s) :
    Keeps W a₀ (moved s c m n) := by
  unfold moved
  try dsimp only
  with_reducible repeat' first
    | assumption | exact part_sub rfl hw | apply keeps_State_setRn | apply keeps_moveEnd | apply keeps_updHchan
    | apply keeps_ite | split

theorem keeps_poisonBeat {W : Nat} {a₀ : State} (s : State) (c : Nat) (hw : 0x80308 &&& W = 0x80308) (hs : Keeps W a₀
    s) :
    Keeps W a₀ (poisonBeat s c) := by
  unfold poisonBeat
  try dsimp only
  with_reducible repeat' first
    | assumption | exact part_sub rfl hw | apply keeps_State_ev | apply keeps_State_report

theorem keeps_writeBeat {W : Nat} {a₀ : State} (s : State) (c : Nat) (m : HoistMove) (errs : List LarderErr) (hw :
    0x7600048030c &&& W = 0x7600048030c) (hs : Keeps W a₀ s) :
    Keeps W a₀ (writeBeat s c m errs) := by
  unfold writeBeat
  try dsimp only
  with_reducible repeat' first
    | assumption | exact part_sub rfl hw | apply keeps_State_bump | apply keeps_State_setRn | apply keeps_fillPart
    | apply keeps_issueOpWrite | apply keeps_moved | apply keeps_poisonBeat | apply keeps_pushWords
    | apply keeps_setHState | apply keeps_updHchan | apply keeps_ite | refine keeps_of_pair (by assumption) ?_
    | refine keeps_of_pair_first (by assumption) ?_ | refine keeps_of_triple (by assumption) ?_ | dsimp only | split

theorem keeps_hoistBeat {W : Nat} {a₀ : State} (s : State) (port : Nat) (errs : List LarderErr) (hw : 0x7600048030c
    &&& W = 0x7600048030c) (hs : Keeps W a₀ s) :
    Keeps W a₀ (hoistBeat s port errs) := by
  unfold hoistBeat
  try dsimp only
  with_reducible repeat' first
    | assumption | exact part_sub rfl hw | exact id | intro _ | apply keeps_readBeat | apply keeps_writeBeat
    | apply keeps_ite | dsimp only | split | apply Keeps.set_hoist

theorem keeps_execHoistBeat {W : Nat} {a₀ : State} (port : Nat) (errs : List LarderErr) (s : State) (hw :
    0x7600048030c &&& W = 0x7600048030c) (hs : Keeps W a₀ s) :
    KeepsOut W a₀ (execHoistBeat port errs s) := by
  unfold execHoistBeat
  try dsimp only
  with_reducible apply KeepsOut.next
  with_reducible repeat' first
    | assumption | exact part_sub rfl hw | apply keeps_hoistBeat | apply keeps_hub

theorem keeps_opData {W : Nat} {a₀ : State} (s : State) (c : Nat) (o : HoistOp) (bs : List Byte) (bad : Bool) (hw :
    0x4000000008 &&& W = 0x4000000008) (hs : Keeps W a₀ s) :
    Keeps W a₀ (opData s c o bs bad) := by
  unfold opData
  try dsimp only
  with_reducible repeat' first
    | assumption | exact part_sub rfl hw | apply keeps_hNext | apply keeps_setHX | apply keeps_updHchan
    | apply keeps_ite | dsimp only | split

theorem keeps_readCompletion {W : Nat} {a₀ : State} (s : State) (tag : Nat) (hw : 0x14000000208 &&& W = 0x14000000208)
    (hs : Keeps W a₀ s) :
    Keeps W a₀ (readCompletion s tag) := by
  unfold readCompletion
  try dsimp only
  with_reducible repeat' first
    | assumption | exact part_sub rfl hw | apply keeps_freeOp | apply keeps_opData | apply keeps_ite | dsimp only
    | split

theorem keeps_execHoistReadCompletion {W : Nat} {a₀ : State} (tag : Nat) (s : State) (hw : 0x14000000208 &&& W =
    0x14000000208) (hs : Keeps W a₀ s) :
    KeepsOut W a₀ (execHoistReadCompletion tag s) := by
  unfold execHoistReadCompletion
  try dsimp only
  with_reducible apply KeepsOut.next
  with_reducible repeat' first
    | assumption | exact part_sub rfl hw | apply keeps_hub | apply keeps_readCompletion

theorem keeps_writeAck {W : Nat} {a₀ : State} (s : State) (tag : Nat) (hw : 0x14000000208 &&& W = 0x14000000208) (hs :
    Keeps W a₀ s) :
    Keeps W a₀ (writeAck s tag) := by
  unfold writeAck
  try dsimp only
  with_reducible repeat' first
    | assumption | exact part_sub rfl hw | apply keeps_freeOp | apply keeps_ite | dsimp only | split

theorem keeps_execHoistWriteAck {W : Nat} {a₀ : State} (tag : Nat) (s : State) (hw : 0x14000000208 &&& W =
    0x14000000208) (hs : Keeps W a₀ s) :
    KeepsOut W a₀ (execHoistWriteAck tag s) := by
  unfold execHoistWriteAck
  try dsimp only
  with_reducible apply KeepsOut.next
  with_reducible repeat' first
    | assumption | exact part_sub rfl hw | apply keeps_hub | apply keeps_writeAck

theorem keeps_errorResponse {W : Nat} {a₀ : State} (s : State) (tag : Nat) (hw : 0x1408408030c &&& W = 0x1408408030c)
    (hs : Keeps W a₀ s) :
    Keeps W a₀ (errorResponse s tag) := by
  unfold errorResponse
  try dsimp only
  with_reducible repeat' first
    | assumption | exact part_sub rfl hw | apply keeps_freeOp | apply keeps_haltChan | apply keeps_takeFree
    | apply keeps_updHchan | apply keeps_ite | refine keeps_of_pair (by assumption) ?_
    | refine keeps_of_pair_first (by assumption) ?_ | refine keeps_of_triple (by assumption) ?_ | dsimp only | split

theorem keeps_execHoistErrorResponse {W : Nat} {a₀ : State} (tag : Nat) (s : State) (hw : 0x1408408030c &&& W =
    0x1408408030c) (hs : Keeps W a₀ s) :
    KeepsOut W a₀ (execHoistErrorResponse tag s) := by
  unfold execHoistErrorResponse
  try dsimp only
  with_reducible apply KeepsOut.next
  with_reducible repeat' first
    | assumption | exact part_sub rfl hw | apply keeps_errorResponse | apply keeps_hub

theorem keeps_hoistRetry {W : Nat} {a₀ : State} (s : State) (tag : Nat) (hw : 0x74000480308 &&& W = 0x74000480308) (hs
    : Keeps W a₀ s) :
    Keeps W a₀ (hoistRetry s tag) := by
  unfold hoistRetry
  try dsimp only
  with_reducible repeat' first
    | assumption | exact part_sub rfl hw | apply keeps_State_bump | apply keeps_State_ev | apply keeps_State_report
    | apply keeps_issueOpRead | apply keeps_issueOpWrite | apply keeps_updHchan | apply keeps_ite | dsimp only
    | split

theorem keeps_execHoistRetry {W : Nat} {a₀ : State} (tag : Nat) (s : State) (hw : 0x74000480308 &&& W = 0x74000480308)
    (hs : Keeps W a₀ s) :
    KeepsOut W a₀ (execHoistRetry tag s) := by
  unfold execHoistRetry
  try dsimp only
  with_reducible apply KeepsOut.next
  with_reducible repeat' first
    | assumption | exact part_sub rfl hw | apply keeps_hoistRetry | apply keeps_hub

theorem keeps_completionTimeout {W : Nat} {a₀ : State} (s : State) (tag : Nat) (hw : 0x1408408030c &&& W =
    0x1408408030c) (hs : Keeps W a₀ s) :
    Keeps W a₀ (completionTimeout s tag) := by
  unfold completionTimeout
  try dsimp only
  with_reducible repeat' first
    | assumption | exact part_sub rfl hw | apply keeps_aerUncorr | apply keeps_freeOp | apply keeps_haltChan
    | apply keeps_ite | dsimp only | split

theorem keeps_execHoistCompletionTimeout {W : Nat} {a₀ : State} (tag : Nat) (s : State) (hw : 0x1408408030c &&& W =
    0x1408408030c) (hs : Keeps W a₀ s) :
    KeepsOut W a₀ (execHoistCompletionTimeout tag s) := by
  unfold execHoistCompletionTimeout
  try dsimp only
  with_reducible apply KeepsOut.next
  with_reducible repeat' first
    | assumption | exact part_sub rfl hw | apply keeps_completionTimeout | apply keeps_hub

theorem keeps_hoistReg {W : Nat} {a₀ : State} (s : State) (c : Nat) (off : Nat) (v : Word) (hw : 0x80208 &&& W =
    0x80208) (hs : Keeps W a₀ s) :
    Keeps W a₀ (hoistReg s c off v) := by
  unfold hoistReg
  try dsimp only
  with_reducible repeat' first
    | assumption | exact part_sub rfl hw | apply keeps_State_ev | apply keeps_plainWrite | apply keeps_ite | split

theorem keeps_isl {W : Nat} {a₀ : State} (s : State) (t : State) (hs : Keeps W a₀ s) (ht : Keeps W a₀ t) :
    Keeps W a₀ (isl s t) := by
  unfold isl
  try dsimp only
  with_reducible repeat' first
    | assumption | apply keeps_ite | split

theorem keeps_hwFault {W : Nat} {a₀ : State} (s : State) (code : Nat) (hw : 0x80308 &&& W = 0x80308) (hs : Keeps W a₀
    s) :
    Keeps W a₀ (hwFault s code) := by
  unfold hwFault
  try dsimp only
  with_reducible repeat' first
    | assumption | exact part_sub rfl hw | apply keeps_State_setPair | apply keeps_State_setRn | apply keeps_setCause
    | apply keeps_ite | split

theorem keeps_forcedLow {W : Nat} {a₀ : State} (s : State) (code : Nat) (hw : 0x80308 &&& W = 0x80308) (hs : Keeps W
    a₀ s) :
    Keeps W a₀ (forcedLow s code) := by
  unfold forcedLow
  try dsimp only
  with_reducible repeat' first
    | assumption | exact part_sub rfl hw | exact id | intro _ | apply keeps_State_report | apply keeps_hwFault
    | apply Keeps.set_isl

theorem keeps_sokHalf {W : Nat} {a₀ : State} (s : State) (measuredUs : Nat) (followed : Bool) (hw : 0x80308 &&& W =
    0x80308) (hs : Keeps W a₀ s) :
    Keeps W a₀ (sokHalf s measuredUs followed) := by
  unfold sokHalf
  try dsimp only
  with_reducible repeat' first
    | assumption | exact part_sub rfl hw | exact id | intro _ | apply keeps_forcedLow | apply keeps_ite | split
    | apply Keeps.set_isl

theorem keeps_startSok {W : Nat} {a₀ : State} (s : State) (hw : 0x108 &&& W = 0x108) (hs : Keeps W a₀ s) :
    Keeps W a₀ (startSok s) := by
  unfold startSok
  try dsimp only
  with_reducible repeat' first
    | assumption | exact part_sub rfl hw | exact id | intro _ | apply keeps_State_setF | apply Keeps.set_isl

theorem keeps_heartbeatStart {W : Nat} {a₀ : State} (s : State) (hw : 0x108 &&& W = 0x108) (hs : Keeps W a₀ s) :
    Keeps W a₀ (heartbeatStart s) := by
  unfold heartbeatStart
  try dsimp only
  with_reducible repeat' first
    | assumption | exact part_sub rfl hw | apply keeps_startSok | apply keeps_ite | split

theorem keeps_release {W : Nat} {a₀ : State} (s : State) (v : Word) (hw : 0x80308 &&& W = 0x80308) (hs : Keeps W a₀ s) :
    Keeps W a₀ (release s v) := by
  unfold release
  try dsimp only
  with_reducible repeat' first
    | assumption | exact part_sub rfl hw | apply keeps_State_ev | apply keeps_State_setF | apply keeps_logRec
    | apply keeps_startSok | apply keeps_ite | split

theorem keeps_execSokHalfPeriod {W : Nat} {a₀ : State} (measuredUs : Nat) (followed : Bool) (s : State) (hw : 0x80308
    &&& W = 0x80308) (hs : Keeps W a₀ s) :
    KeepsOut W a₀ (execSokHalfPeriod measuredUs followed s) := by
  unfold execSokHalfPeriod
  try dsimp only
  with_reducible apply KeepsOut.next
  with_reducible repeat' first
    | assumption | exact part_sub rfl hw | apply keeps_aon | apply keeps_sokHalf

theorem keeps_execHardwareForcedLow {W : Nat} {a₀ : State} (code : Nat) (s : State) (hw : 0x80308 &&& W = 0x80308) (hs
    : Keeps W a₀ s) :
    KeepsOut W a₀ (execHardwareForcedLow code s) := by
  unfold execHardwareForcedLow
  try dsimp only
  with_reducible apply KeepsOut.next
  with_reducible repeat' first
    | assumption | exact part_sub rfl hw | apply keeps_aon | apply keeps_forcedLow

theorem keeps_execHeartbeatStart {W : Nat} {a₀ : State} (s : State) (hw : 0x108 &&& W = 0x108) (hs : Keeps W a₀ s) :
    KeepsOut W a₀ (execHeartbeatStart s) := by
  unfold execHeartbeatStart
  try dsimp only
  with_reducible apply KeepsOut.next
  with_reducible repeat' first
    | assumption | exact part_sub rfl hw | apply keeps_heartbeatStart | apply keeps_isl

theorem keeps_execRelease {W : Nat} {a₀ : State} (v : Word) (s : State) (hw : 0x80308 &&& W = 0x80308) (hs : Keeps W
    a₀ s) :
    KeepsOut W a₀ (execRelease v s) := by
  unfold execRelease
  try dsimp only
  with_reducible apply KeepsOut.next
  with_reducible repeat' first
    | assumption | exact part_sub rfl hw | apply keeps_hub | apply keeps_release

theorem keeps_memUncorr {W : Nat} {a₀ : State} (s : State) (m : Nat) (hw : 0x100 &&& W = 0x100) (hs : Keeps W a₀ s) :
    Keeps W a₀ (memUncorr s m) := by
  unfold memUncorr
  try dsimp only
  with_reducible repeat' first
    | assumption | exact part_sub rfl hw | exact id | intro _ | apply Keeps.set_isl

theorem keeps_faultReceived {W : Nat} {a₀ : State} (s : State) (code : Nat) (detail : Nat) (hw : 0x80308 &&& W =
    0x80308) (hs : Keeps W a₀ s) :
    Keeps W a₀ (faultReceived s code detail) := by
  unfold faultReceived
  try dsimp only
  with_reducible repeat' first
    | assumption | exact part_sub rfl hw | exact id | intro _ | apply keeps_hwFault | apply keeps_logRec
    | apply keeps_memUncorr | apply keeps_ite | dsimp only | split | apply Keeps.set_isl

theorem keeps_execFaultCodeReceived {W : Nat} {a₀ : State} (code : Nat) (detail : Nat) (s : State) (hw : 0x80308 &&& W
    = 0x80308) (hs : Keeps W a₀ s) :
    KeepsOut W a₀ (execFaultCodeReceived code detail s) := by
  unfold execFaultCodeReceived
  try dsimp only
  with_reducible apply KeepsOut.next
  with_reducible repeat' first
    | assumption | exact part_sub rfl hw | apply keeps_faultReceived | apply keeps_isl

theorem keeps_islandSelfTest {W : Nat} {a₀ : State} (s : State) (r : CheckResult) (hw : 0x100 &&& W = 0x100) (hs :
    Keeps W a₀ s) :
    Keeps W a₀ (islandSelfTest s r) := by
  unfold islandSelfTest
  try dsimp only
  with_reducible repeat' first
    | assumption | exact part_sub rfl hw | apply keeps_State_report | dsimp only | split

theorem keeps_execIslandSelfTest {W : Nat} {a₀ : State} (result : CheckResult) (s : State) (hw : 0x100 &&& W = 0x100)
    (hs : Keeps W a₀ s) :
    KeepsOut W a₀ (execIslandSelfTest result s) := by
  unfold execIslandSelfTest
  try dsimp only
  with_reducible apply KeepsOut.next
  with_reducible repeat' first
    | assumption | exact part_sub rfl hw | apply keeps_isl | apply keeps_islandSelfTest

theorem keeps_setWind {W : Nat} {a₀ : State} (s : State) (w : Nat) (hw : 0x8 &&& W = 0x8) (hs : Keeps W a₀ s) :
    Keeps W a₀ (setWind s w) := by
  unfold setWind
  try dsimp only
  with_reducible repeat' first
    | assumption | exact part_sub rfl hw | apply keeps_State_setF | apply keeps_State_setPair | apply keeps_ite
    | split

theorem keeps_windRunning {W : Nat} {a₀ : State} (s : State) (hw : 0x80308 &&& W = 0x80308) (hs : Keeps W a₀ s) :
    Keeps W a₀ (windRunning s) := by
  unfold windRunning
  try dsimp only
  with_reducible repeat' first
    | assumption | exact part_sub rfl hw | apply keeps_clearCause | apply keeps_setWind

theorem keeps_windAccept {W : Nat} {a₀ : State} (s : State) (hw : 0x8030c &&& W = 0x8030c) (hs : Keeps W a₀ s) :
    Keeps W a₀ (windAccept s) := by
  unfold windAccept
  try dsimp only
  with_reducible repeat' first
    | assumption | exact part_sub rfl hw | exact id | intro _ | apply keeps_State_setPair | apply keeps_State_setRn
    | apply keeps_setWind | apply keeps_takeFree | apply keeps_windRunning | apply keeps_ite
    | refine keeps_of_pair (by assumption) ?_ | refine keeps_of_pair_first (by assumption) ?_
    | refine keeps_of_triple (by assumption) ?_ | dsimp only | split | apply Keeps.set_isl

theorem keeps_windReject {W : Nat} {a₀ : State} (s : State) (hw : 0x80308 &&& W = 0x80308) (hs : Keeps W a₀ s) :
    Keeps W a₀ (windReject s) := by
  unfold windReject
  try dsimp only
  with_reducible repeat' first
    | assumption | exact part_sub rfl hw | exact id | intro _ | apply keeps_State_bump | apply keeps_State_ev
    | apply keeps_State_report | apply keeps_setCause | apply keeps_setWind | apply keeps_ite | split
    | apply Keeps.set_isl

theorem keeps_windJudge {W : Nat} {a₀ : State} (s : State) (arg0 : Nat) (arg1 : Nat) (hw : 0x8030c &&& W = 0x8030c)
    (hs : Keeps W a₀ s) :
    Keeps W a₀ (windJudge s arg0 arg1).2 := by
  unfold windJudge
  try dsimp only
  with_reducible repeat' first
    | assumption | exact part_sub rfl hw | apply keeps_windAccept | apply keeps_windReject | apply keeps_ite | split

theorem keeps_windDeadline {W : Nat} {a₀ : State} (s : State) (hw : 0x80308 &&& W = 0x80308) (hs : Keeps W a₀ s) :
    Keeps W a₀ (windDeadline s) := by
  unfold windDeadline
  try dsimp only
  with_reducible repeat' first
    | assumption | exact part_sub rfl hw | exact id | intro _ | apply keeps_State_report | apply keeps_setCause
    | apply keeps_setWind | apply keeps_ite | split | apply Keeps.set_isl

theorem keeps_execWindingDeadline {W : Nat} {a₀ : State} (s : State) (hw : 0x80308 &&& W = 0x80308) (hs : Keeps W a₀
    s) :
    KeepsOut W a₀ (execWindingDeadline s) := by
  unfold execWindingDeadline
  try dsimp only
  with_reducible apply KeepsOut.next
  with_reducible repeat' first
    | assumption | exact part_sub rfl hw | apply keeps_isl | apply keeps_windDeadline

theorem keeps_displayExpiry {W : Nat} {a₀ : State} (s : State) (st : Nat) (hw : 0x80308 &&& W = 0x80308) (hs : Keeps W
    a₀ s) :
    Keeps W a₀ (displayExpiry s st) := by
  unfold displayExpiry
  try dsimp only
  with_reducible repeat' first
    | assumption | exact part_sub rfl hw | apply keeps_State_report | apply keeps_setCause | apply keeps_ite | split

theorem keeps_execDisplayBudgetExpiry {W : Nat} {a₀ : State} (stream : Nat) (s : State) (hw : 0x80308 &&& W = 0x80308)
    (hs : Keeps W a₀ s) :
    KeepsOut W a₀ (execDisplayBudgetExpiry stream s) := by
  unfold execDisplayBudgetExpiry
  try dsimp only
  with_reducible apply KeepsOut.next
  with_reducible repeat' first
    | assumption | exact part_sub rfl hw | apply keeps_displayExpiry | apply keeps_isl

theorem keeps_displayConfirm {W : Nat} {a₀ : State} (s : State) (st : Nat) (f : HeldFrame) (hw : 0x80308 &&& W =
    0x80308) (hs : Keeps W a₀ s) :
    Keeps W a₀ (displayConfirm s st f) := by
  unfold displayConfirm
  try dsimp only
  with_reducible repeat' first
    | assumption | exact part_sub rfl hw | exact id | intro _ | apply keeps_State_setF | apply keeps_clearCause
    | apply keeps_ite | split | apply Keeps.set_isl

theorem keeps_addMismatch {W : Nat} {a₀ : State} (s : State) (st : Nat) (hw : 0x100 &&& W = 0x100) (hs : Keeps W a₀ s) :
    Keeps W a₀ (addMismatch s st) := by
  unfold addMismatch
  try dsimp only
  with_reducible repeat' first
    | assumption | exact part_sub rfl hw | exact id | intro _ | apply keeps_ite | split | apply Keeps.set_isl

theorem keeps_mismatchShown {W : Nat} {a₀ : State} (s : State) (st : Nat) (hw : 0x80308 &&& W = 0x80308) (hs : Keeps W
    a₀ s) :
    Keeps W a₀ (mismatchShown s st) := by
  unfold mismatchShown
  try dsimp only
  with_reducible repeat' first
    | assumption | exact part_sub rfl hw | apply keeps_State_bump | apply keeps_State_ev | apply keeps_State_report
    | apply keeps_State_setF | apply keeps_addMismatch | apply keeps_setCause | apply keeps_ite | split

theorem keeps_displayedJudge {W : Nat} {a₀ : State} (s : State) (st : Nat) (fsn : Nat) (tally : Nat) (shown : Nat) (hw
    : 0x80308 &&& W = 0x80308) (hs : Keeps W a₀ s) :
    Keeps W a₀ (displayedJudge s st fsn tally shown).2 := by
  unfold displayedJudge
  generalize heldFrame s st fsn = o
  cases o with
  | none => exact keeps_logRec s 0 0 0x62 (part_sub rfl hw) hs
  | some f => exact keeps_ite_second hs (keeps_ite_second (keeps_mismatchShown _ _ (part_sub rfl hw) hs) (keeps_ite_second hs
      (keeps_displayConfirm _ _ _ (part_sub rfl hw) hs)))

theorem keeps_holdFrame {W : Nat} {a₀ : State} (s : State) (st : Nat) (f : HeldFrame) (hw : 0x100 &&& W = 0x100) (hs :
    Keeps W a₀ s) :
    Keeps W a₀ (holdFrame s st f) := by
  unfold holdFrame
  try dsimp only
  with_reducible repeat' first
    | assumption | exact part_sub rfl hw | exact id | intro _ | apply keeps_ite | split | apply Keeps.set_isl

theorem keeps_viewsWrite {W : Nat} {a₀ : State} (s : State) (displayReq : Bool) (i : Nat) (v : Word) (hw : 0x80208 &&&
    W = 0x80208) (hs : Keeps W a₀ s) :
    Keeps W a₀ (viewsWrite s displayReq i v) := by
  unfold viewsWrite
  try dsimp only
  with_reducible repeat' first
    | assumption | exact part_sub rfl hw | apply keeps_State_ev | apply keeps_State_setReg | apply keeps_ite | split

theorem keeps_execSafetyViewsWrite {W : Nat} {a₀ : State} (displayReq : Bool) (i : Nat) (v : Word) (s : State) (hw :
    0x80208 &&& W = 0x80208) (hs : Keeps W a₀ s) :
    KeepsOut W a₀ (execSafetyViewsWrite displayReq i v s) := by
  unfold execSafetyViewsWrite
  try dsimp only
  with_reducible apply KeepsOut.next
  with_reducible repeat' first
    | assumption | exact part_sub rfl hw | apply keeps_hub | apply keeps_viewsWrite

theorem keeps_logIndex {W : Nat} {a₀ : State} (s : State) (v : Word) (hw : 0x8 &&& W = 0x8) (hs : Keeps W a₀ s) :
    Keeps W a₀ (logIndex s v) := by
  unfold logIndex
  try dsimp only
  with_reducible repeat' first
    | assumption | exact part_sub rfl hw | intro _ | apply keeps_State_setRn | apply keeps_ite | apply keeps_foldl
    | apply keeps_foldl_first | dsimp only | split

theorem keeps_execLogIndex {W : Nat} {a₀ : State} (v : Word) (s : State) (hw : 0x8 &&& W = 0x8) (hs : Keeps W a₀ s) :
    KeepsOut W a₀ (execLogIndex v s) := by
  unfold execLogIndex
  try dsimp only
  with_reducible apply KeepsOut.next
  with_reducible repeat' first
    | assumption | exact part_sub rfl hw | apply keeps_hub | apply keeps_logIndex

theorem keeps_setTile {W : Nat} {a₀ : State} (s : State) (n : Nat) (x : TileSt) (hw : 0x20000000 &&& W = 0x20000000)
    (hs : Keeps W a₀ s) :
    Keeps W a₀ (setTile s n x) := by
  unfold setTile
  try dsimp only
  with_reducible repeat' first
    | assumption | exact part_sub rfl hw | exact id | intro _ | apply Keeps.set_tile

theorem keeps_updJob {W : Nat} {a₀ : State} (s : State) (id : Nat) (g : Job → Job) (hw : 0x8000000 &&& W = 0x8000000)
    (hs : Keeps W a₀ s) :
    Keeps W a₀ (updJob s id g) := by
  unfold updJob
  try dsimp only
  with_reducible repeat' first
    | assumption | exact part_sub rfl hw | exact id | intro _ | apply keeps_ite | split | apply Keeps.set_jobs

theorem keeps_releaseJob {W : Nat} {a₀ : State} (s : State) (p : Nat) (out : Option Nat) (twin : Bool) (pieces : List
    Nat) (hw : 0x1c000000 &&& W = 0x1c000000) (hs : Keeps W a₀ s) :
    Keeps W a₀ (releaseJob s p out twin pieces) := by
  unfold releaseJob
  try dsimp only
  with_reducible repeat' first
    | assumption | exact part_sub rfl hw | apply keeps_addJob | apply keeps_updFrame | apply keeps_updPipe
    | apply keeps_ite | dsimp only | split

theorem keeps_spoilLines {W : Nat} {a₀ : State} (s : State) (free : Bool) (ls : List OutLine) (hw : 0x4 &&& W = 0x4)
    (hs : Keeps W a₀ s) :
    Keeps W a₀ (spoilLines s free ls).2 := by
  unfold spoilLines
  try dsimp only
  with_reducible repeat' first
    | assumption | exact part_sub rfl hw | apply keeps_openLines | apply keeps_ite
    | refine keeps_of_pair (by assumption) ?_ | refine keeps_of_pair_first (by assumption) ?_
    | refine keeps_of_triple (by assumption) ?_ | split

theorem withFlags_state (x : List OutLine × State) (fl : Nat) : (withFlags x fl).2.2 = x.2 := rfl

theorem keeps_madeLines {W : Nat} {a₀ : State} (s : State) (j : Job) (o : Nat) (f : Frame) (js : List Nat) (hw : 0x4
    &&& W = 0x4) (hs : Keeps W a₀ s) :
    Keeps W a₀ (madeLines s j o f js).2.2 := by
  unfold madeLines
  rw [withFlags_state]
  exact keeps_spoilLines s _ _ (part_sub rfl hw) hs

theorem keeps_compareTally {W : Nat} {a₀ : State} (s : State) (x : OutSlice) (t : TwinTally) (hw : 0x200080308 &&& W =
    0x200080308) (hs : Keeps W a₀ s) :
    Keeps W a₀ (compareTally s x t).2 := by
  unfold compareTally
  try dsimp only
  with_reducible repeat' first
    | assumption | exact part_sub rfl hw | exact id | intro _ | apply keeps_State_bump | apply keeps_State_ev
    | apply keeps_State_report | apply keeps_ite | split | apply Keeps.set_tallies

theorem keeps_handSlice {W : Nat} {a₀ : State} (s : State) (x : OutSlice) (hw : 0x300080308 &&& W = 0x300080308) (hs :
    Keeps W a₀ s) :
    Keeps W a₀ (handSlice s x) := by
  unfold handSlice
  try dsimp only
  with_reducible repeat' first
    | assumption | exact part_sub rfl hw | exact id | intro _ | apply keeps_compareTally | apply keeps_ite
    | refine keeps_of_pair (by assumption) ?_ | refine keeps_of_pair_first (by assumption) ?_
    | refine keeps_of_triple (by assumption) ?_ | dsimp only | split | apply Keeps.set_twinWait

theorem keeps_placeSlice {W : Nat} {a₀ : State} {m : List OutLine × Nat × State} {j : Job} {f : Frame} {o : Nat} {js :
    List Nat}
    (hw : 0x30008030c &&& W = 0x30008030c) (hs : Keeps W a₀ m.2.2) : Keeps W a₀ (placeSlice m j f o js) := by
  unfold placeSlice
  exact keeps_ite (Keeps.set_tallies hs (part_sub rfl hw)) (keeps_handSlice _ _ (part_sub rfl hw) hs)

theorem keeps_makeSlice {W : Nat} {a₀ : State} (s : State) (j : Job) (f : Frame) (o : Nat) (js : List Nat) (hw :
    0x30008030c &&& W = 0x30008030c) (hs : Keeps W a₀ s) :
    Keeps W a₀ (makeSlice s j f o js) := by
  unfold makeSlice
  exact keeps_placeSlice hw (keeps_madeLines s j o f js (part_sub rfl hw) hs)

theorem keeps_noteFront {W : Nat} {a₀ : State} (s : State) (j : Job) (f : Frame) (hw : 0x4000000 &&& W = 0x4000000)
    (hs : Keeps W a₀ s) :
    Keeps W a₀ (noteFront s j f) := by
  unfold noteFront
  try dsimp only
  with_reducible repeat' first
    | assumption | exact part_sub rfl hw | apply keeps_updFrame | apply keeps_ite | split

theorem keeps_storeCrop {W : Nat} {a₀ : State} (s : State) (p : Nat) (o : Nat) (f : Frame) (k : Nat) (twin : Bool) (hw
    : 0x60000000000 &&& W = 0x60000000000) (hs : Keeps W a₀ s) :
    Keeps W a₀ (storeCrop s p o f k twin) := by
  unfold storeCrop
  try dsimp only
  with_reducible repeat' first
    | assumption | exact part_sub rfl hw | intro _ | apply keeps_memWrite | apply keeps_foldl
    | apply keeps_foldl_first | dsimp only

theorem keeps_handJob {W : Nat} {a₀ : State} (s : State) (j : Job) (hw : 0x6030408030c &&& W = 0x6030408030c) (hs :
    Keeps W a₀ s) :
    Keeps W a₀ (handJob s j) := by
  unfold handJob
  try dsimp only
  with_reducible repeat' first
    | assumption | exact part_sub rfl hw | intro _ | apply keeps_makeSlice | apply keeps_noteFront
    | apply keeps_storeCrop | apply keeps_ite | apply keeps_foldl | apply keeps_foldl_first | dsimp only | split

theorem keeps_laneReport {W : Nat} {a₀ : State} (s : State) (m : Nat) (code : Nat) (hw : 0x100 &&& W = 0x100) (hs :
    Keeps W a₀ s) :
    Keeps W a₀ (laneReport s m code) := by
  unfold laneReport
  try dsimp only
  with_reducible repeat' first
    | assumption | exact part_sub rfl hw | apply keeps_State_report

theorem keeps_laneUnlock {W : Nat} {a₀ : State} (s : State) (m : Nat) (hw : 0x8000000008 &&& W = 0x8000000008) (hs :
    Keeps W a₀ s) :
    Keeps W a₀ (laneUnlock s m) := by
  unfold laneUnlock
  try dsimp only
  with_reducible repeat' first
    | assumption | exact part_sub rfl hw | apply keeps_State_setF | apply keeps_updLane

theorem keeps_laneAdapt {W : Nat} {a₀ : State} (s : State) (m : Nat) (hw : 0x8000000008 &&& W = 0x8000000008) (hs :
    Keeps W a₀ s) :
    Keeps W a₀ (laneAdapt s m) := by
  unfold laneAdapt
  try dsimp only
  with_reducible repeat' first
    | assumption | exact part_sub rfl hw | apply keeps_State_setF | apply keeps_updLane | apply keeps_ite | split

theorem keeps_laneLock {W : Nat} {a₀ : State} (s : State) (m : Nat) (hw : 0x8000000008 &&& W = 0x8000000008) (hs :
    Keeps W a₀ s) :
    Keeps W a₀ (laneLock s m) := by
  unfold laneLock
  try dsimp only
  with_reducible repeat' first
    | assumption | exact part_sub rfl hw | apply keeps_State_setF | apply keeps_updLane

theorem keeps_laneApply {W : Nat} {a₀ : State} (s : State) (m : Nat) (tx : Bool) (hw : 0x8000000008 &&& W =
    0x8000000008) (hs : Keeps W a₀ s) :
    Keeps W a₀ (laneApply s m tx) := by
  unfold laneApply
  try dsimp only
  with_reducible repeat' first
    | assumption | exact part_sub rfl hw | apply keeps_State_setF | apply keeps_laneUnlock | apply keeps_updLane
    | apply keeps_ite | split

theorem keeps_laneAwake {W : Nat} {a₀ : State} (s : State) (m : Nat) (tx : Bool) (hw : 0x8000000008 &&& W =
    0x8000000008) (hs : Keeps W a₀ s) :
    Keeps W a₀ (laneAwake s m tx) := by
  unfold laneAwake
  try dsimp only
  with_reducible repeat' first
    | assumption | exact part_sub rfl hw | apply keeps_State_setF | apply keeps_laneLock | apply keeps_updLane
    | apply keeps_ite | split

theorem keeps_laneCtrl {W : Nat} {a₀ : State} (s : State) (m : Nat) (v : Word) (hw : 0x8000080208 &&& W =
    0x8000080208) (hs : Keeps W a₀ s) :
    Keeps W a₀ (laneCtrl s m v) := by
  unfold laneCtrl
  try dsimp only
  with_reducible repeat' first
    | assumption | exact part_sub rfl hw | apply keeps_State_ev | apply keeps_laneStart | apply keeps_laneStop
    | apply keeps_plainWrite | apply keeps_updLane | apply keeps_ite | split

theorem keeps_lanePll {W : Nat} {a₀ : State} (s : State) (m : Nat) (hw : 0x8000000008 &&& W = 0x8000000008) (hs :
    Keeps W a₀ s) :
    Keeps W a₀ (lanePll s m) := by
  unfold lanePll
  try dsimp only
  with_reducible repeat' first
    | assumption | exact part_sub rfl hw | apply keeps_State_setF | apply keeps_laneAdapt | apply keeps_updLane
    | apply keeps_ite | split

theorem keeps_laneSignal {W : Nat} {a₀ : State} (s : State) (m : Nat) (on : Bool) (hw : 0x8000000008 &&& W =
    0x8000000008) (hs : Keeps W a₀ s) :
    Keeps W a₀ (laneSignal s m on) := by
  unfold laneSignal
  try dsimp only
  with_reducible repeat' first
    | assumption | exact part_sub rfl hw | apply keeps_State_setF | apply keeps_laneAdapt | apply keeps_updLane
    | apply keeps_ite | split

theorem keeps_adaptDone {W : Nat} {a₀ : State} (s : State) (m : Nat) (ctle : Nat) (gain : Nat) (dfe1 : Int) (hw :
    0x8000000008 &&& W = 0x8000000008) (hs : Keeps W a₀ s) :
    Keeps W a₀ (adaptDone s m ctle gain dfe1) := by
  unfold adaptDone
  try dsimp only
  with_reducible repeat' first
    | assumption | exact part_sub rfl hw | apply keeps_State_setF | apply keeps_laneLock | apply keeps_ite | split

theorem keeps_adaptTimeout {W : Nat} {a₀ : State} (s : State) (m : Nat) (hw : 0x8000080308 &&& W = 0x8000080308) (hs :
    Keeps W a₀ s) :
    Keeps W a₀ (adaptTimeout s m) := by
  unfold adaptTimeout
  try dsimp only
  with_reducible repeat' first
    | assumption | exact part_sub rfl hw | apply keeps_State_ev | apply keeps_laneAdapt | apply keeps_laneReport
    | apply keeps_ite | dsimp only | split

theorem keeps_cdrLost {W : Nat} {a₀ : State} (s : State) (m : Nat) (hw : 0x8000080308 &&& W = 0x8000080308) (hs :
    Keeps W a₀ s) :
    Keeps W a₀ (cdrLost s m) := by
  unfold cdrLost
  try dsimp only
  with_reducible repeat' first
    | assumption | exact part_sub rfl hw | apply keeps_State_ev | apply keeps_laneReport | apply keeps_laneUnlock
    | apply keeps_ite | split

theorem keeps_cdrRelock {W : Nat} {a₀ : State} (s : State) (m : Nat) (hw : 0x8000000008 &&& W = 0x8000000008) (hs :
    Keeps W a₀ s) :
    Keeps W a₀ (cdrRelock s m) := by
  unfold cdrRelock
  try dsimp only
  with_reducible repeat' first
    | assumption | exact part_sub rfl hw | apply keeps_laneLock | apply keeps_ite | split

theorem keeps_frefLost {W : Nat} {a₀ : State} (s : State) (hw : 0x8000080308 &&& W = 0x8000080308) (hs : Keeps W a₀ s) :
    Keeps W a₀ (frefLost s) := by
  unfold frefLost
  try dsimp only
  with_reducible repeat' first
    | assumption | exact part_sub rfl hw | intro _ | apply keeps_State_ev | apply keeps_State_setF
    | apply keeps_laneReport | apply keeps_laneUnlock | apply keeps_updLane | apply keeps_ite | apply keeps_foldl
    | apply keeps_foldl_first | dsimp only | split

theorem keeps_frefBack {W : Nat} {a₀ : State} (s : State) (hw : 0x8000000008 &&& W = 0x8000000008) (hs : Keeps W a₀ s) :
    Keeps W a₀ (frefBack s) := by
  unfold frefBack
  try dsimp only
  with_reducible repeat' first
    | assumption | exact part_sub rfl hw | intro _ | apply keeps_State_setF | apply keeps_laneStart | apply keeps_ite
    | apply keeps_foldl | apply keeps_foldl_first | dsimp only | split

theorem keeps_laneTestWrite {W : Nat} {a₀ : State} (s : State) (m : Nat) (off : Nat) (v : Word) (sets : Bool) (f :
    State → State) (hw : 0x80208 &&& W = 0x80208) (hs : Keeps W a₀ s) (hf : ∀ (y0 : State), Keeps W a₀ y0 → Keeps W a₀
    (f y0)) :
    Keeps W a₀ (laneTestWrite s m off v sets f) := by
  unfold laneTestWrite
  try dsimp only
  with_reducible repeat' first
    | assumption | exact part_sub rfl hw | intro _ | apply hf | apply keeps_State_ev | apply keeps_plainWrite
    | apply keeps_ite | refine keeps_of_pair (by assumption) ?_ | refine keeps_of_pair_first (by assumption) ?_
    | refine keeps_of_triple (by assumption) ?_ | dsimp only | split

theorem keeps_chkCount {W : Nat} {a₀ : State} (s : State) (m : Nat) (c : ChkCount) (hw : 0x8000000000 &&& W =
    0x8000000000) (hs : Keeps W a₀ s) :
    Keeps W a₀ (chkCount s m c) := by
  unfold chkCount
  try dsimp only
  with_reducible repeat' first
    | assumption | exact part_sub rfl hw | apply keeps_updLane | apply keeps_ite | split

theorem keeps_chkSnap {W : Nat} {a₀ : State} (s : State) (m : Nat) (hw : 0x8 &&& W = 0x8) (hs : Keeps W a₀ s) :
    Keeps W a₀ (chkSnap s m) := by
  unfold chkSnap
  try dsimp only
  with_reducible repeat' first
    | assumption | exact part_sub rfl hw | apply keeps_State_setPair | apply keeps_State_setRn

theorem keeps_patchkWrite {W : Nat} {a₀ : State} (s : State) (m : Nat) (v : Word) (c : ChkCount) (hw : 0x8000080208
    &&& W = 0x8000080208) (hs : Keeps W a₀ s) :
    Keeps W a₀ (patchkWrite s m v c) := by
  unfold patchkWrite
  try dsimp only
  with_reducible repeat' first
    | assumption | exact part_sub rfl hw | intro _ | apply keeps_State_setF | apply keeps_chkCount
    | apply keeps_chkSnap | apply keeps_laneTestWrite | apply keeps_updLane | apply keeps_ite
    | refine keeps_of_pair (by assumption) ?_ | refine keeps_of_pair_first (by assumption) ?_
    | refine keeps_of_triple (by assumption) ?_ | dsimp only | split

theorem keeps_chkSync {W : Nat} {a₀ : State} (s : State) (m : Nat) (hw : 0x8 &&& W = 0x8) (hs : Keeps W a₀ s) :
    Keeps W a₀ (chkSync s m) := by
  unfold chkSync
  try dsimp only
  with_reducible repeat' first
    | assumption | exact part_sub rfl hw | apply keeps_State_setF | apply keeps_ite | split

theorem keeps_chkLoss {W : Nat} {a₀ : State} (s : State) (m : Nat) (c : ChkCount) (hw : 0x8000080208 &&& W =
    0x8000080208) (hs : Keeps W a₀ s) :
    Keeps W a₀ (chkLoss s m c) := by
  unfold chkLoss
  try dsimp only
  with_reducible repeat' first
    | assumption | exact part_sub rfl hw | apply keeps_State_bump | apply keeps_State_ev | apply keeps_State_setF
    | apply keeps_chkCount | apply keeps_ite | split

theorem keeps_injected {W : Nat} {a₀ : State} (s : State) (m : Nat) (hw : 0x8 &&& W = 0x8) (hs : Keeps W a₀ s) :
    Keeps W a₀ (injected s m) := by
  unfold injected
  try dsimp only
  with_reducible repeat' first
    | assumption | exact part_sub rfl hw | apply keeps_State_setRn

theorem keeps_injectWrite {W : Nat} {a₀ : State} (s : State) (m : Nat) (v : Word) (hw : 0x80208 &&& W = 0x80208) (hs :
    Keeps W a₀ s) :
    Keeps W a₀ (injectWrite s m v) := by
  unfold injectWrite
  try dsimp only
  with_reducible repeat' first
    | assumption | exact part_sub rfl hw | intro _ | apply keeps_State_evIf | apply keeps_injected
    | apply keeps_laneTestWrite | apply keeps_ite | refine keeps_of_pair (by assumption) ?_
    | refine keeps_of_pair_first (by assumption) ?_ | refine keeps_of_triple (by assumption) ?_ | dsimp only | split

theorem keeps_injectRate {W : Nat} {a₀ : State} (s : State) (m : Nat) (hw : 0x8 &&& W = 0x8) (hs : Keeps W a₀ s) :
    Keeps W a₀ (injectRate s m) := by
  unfold injectRate
  try dsimp only
  with_reducible repeat' first
    | assumption | exact part_sub rfl hw | apply keeps_injected | apply keeps_ite | split

theorem keeps_loopbackWrite {W : Nat} {a₀ : State} (s : State) (m : Nat) (v : Word) (hw : 0x8000080208 &&& W =
    0x8000080208) (hs : Keeps W a₀ s) :
    Keeps W a₀ (loopbackWrite s m v) := by
  unfold loopbackWrite
  try dsimp only
  with_reducible repeat' first
    | assumption | exact part_sub rfl hw | intro _ | apply keeps_laneAdapt | apply keeps_laneTestWrite
    | apply keeps_laneUnlock | apply keeps_ite | refine keeps_of_pair (by assumption) ?_
    | refine keeps_of_pair_first (by assumption) ?_ | refine keeps_of_triple (by assumption) ?_ | dsimp only | split

theorem keeps_lanePwrWrite {W : Nat} {a₀ : State} (s : State) (m : Nat) (v : Word) (hw : 0x8000080208 &&& W =
    0x8000080208) (hs : Keeps W a₀ s) :
    Keeps W a₀ (lanePwrWrite s m v) := by
  unfold lanePwrWrite
  try dsimp only
  with_reducible repeat' first
    | assumption | exact part_sub rfl hw | intro _ | apply keeps_laneApply | apply keeps_plainWrite | apply keeps_ite
    | apply keeps_foldl | apply keeps_foldl_first | dsimp only | split

theorem keeps_onLane {W : Nat} {a₀ : State} (s : State) (t : State) (hw : 0x1000008030c &&& W = 0x1000008030c) (hs :
    Keeps W a₀ s) (ht : Keeps W a₀ t) :
    KeepsOut W a₀ (onLane s t) := by
  unfold onLane
  try dsimp only
  with_reducible apply KeepsOut.next
  with_reducible repeat' first
    | assumption | exact part_sub rfl hw | apply keeps_evalPorts | apply keeps_hub | apply keeps_ite | split

theorem keeps_execLaneEnable {W : Nat} {a₀ : State} (m : Nat) (v : Word) (s : State) (hw : 0x1800008030c &&& W =
    0x1800008030c) (hs : Keeps W a₀ s) :
    KeepsOut W a₀ (execLaneEnable m v s) := by
  unfold execLaneEnable
  try dsimp only
  with_reducible apply keeps_onLane
  with_reducible repeat' first
    | assumption | exact part_sub rfl hw | apply keeps_laneCtrl

theorem keeps_execLaneFabricEn {W : Nat} {a₀ : State} (m : Nat) (v : Word) (s : State) (hw : 0x1800008030c &&& W =
    0x1800008030c) (hs : Keeps W a₀ s) :
    KeepsOut W a₀ (execLaneFabricEn m v s) := by
  unfold execLaneFabricEn
  try dsimp only
  with_reducible apply keeps_onLane
  with_reducible repeat' first
    | assumption | exact part_sub rfl hw | apply keeps_laneCtrl

theorem keeps_execLanePllLocked {W : Nat} {a₀ : State} (m : Nat) (s : State) (hw : 0x1800008030c &&& W =
    0x1800008030c) (hs : Keeps W a₀ s) :
    KeepsOut W a₀ (execLanePllLocked m s) := by
  unfold execLanePllLocked
  try dsimp only
  with_reducible apply keeps_onLane
  with_reducible repeat' first
    | assumption | exact part_sub rfl hw | apply keeps_lanePll

theorem keeps_signalOn {W : Nat} {a₀ : State} (s : State) (m : Nat) (hw : 0x8000000008 &&& W = 0x8000000008) (hs :
    Keeps W a₀ s) :
    Keeps W a₀ (signalOn s m) := by
  unfold signalOn
  try dsimp only
  with_reducible repeat' first
    | assumption | exact part_sub rfl hw | apply keeps_laneSignal | apply keeps_updLane | apply keeps_ite | split

theorem keeps_execSignalDetectAssert {W : Nat} {a₀ : State} (m : Nat) (s : State) (hw : 0x1800008030c &&& W =
    0x1800008030c) (hs : Keeps W a₀ s) :
    KeepsOut W a₀ (execSignalDetectAssert m s) := by
  unfold execSignalDetectAssert
  try dsimp only
  with_reducible apply keeps_onLane
  with_reducible repeat' first
    | assumption | exact part_sub rfl hw | apply keeps_signalOn

theorem keeps_execSignalDetectDeassert {W : Nat} {a₀ : State} (m : Nat) (s : State) (hw : 0x1800008030c &&& W =
    0x1800008030c) (hs : Keeps W a₀ s) :
    KeepsOut W a₀ (execSignalDetectDeassert m s) := by
  unfold execSignalDetectDeassert
  try dsimp only
  with_reducible apply keeps_onLane
  with_reducible repeat' first
    | assumption | exact part_sub rfl hw | apply keeps_laneSignal

theorem keeps_execAdaptationDone {W : Nat} {a₀ : State} (m : Nat) (ctle : Nat) (gain : Nat) (dfe1 : Int) (s : State)
    (hw : 0x1800008030c &&& W = 0x1800008030c) (hs : Keeps W a₀ s) :
    KeepsOut W a₀ (execAdaptationDone m ctle gain dfe1 s) := by
  unfold execAdaptationDone
  try dsimp only
  with_reducible apply keeps_onLane
  with_reducible repeat' first
    | assumption | exact part_sub rfl hw | apply keeps_adaptDone

end Sys2Proof.Machine
end

