-- ==== Sys2Proof/Laws/KeepsD.lean ====
section
/-!
SUPPORT. What each operation keeps, part 4 of 6: one lemma for each function that answers a state, after those that it
calls (execAdaptationTimeout to execL0pNarrow).
-/

namespace Sys2Proof.Machine

theorem keeps_execAdaptationTimeout {W : Nat} {a₀ : State} (m : Nat) (s : State) (hw : 0x1800008030c &&& W =
    0x1800008030c) (hs : Keeps W a₀ s) :
    KeepsOut W a₀ (execAdaptationTimeout m s) := by
  unfold execAdaptationTimeout
  try dsimp only
  with_reducible apply keeps_onLane
  with_reducible repeat' first
    | assumption | exact part_sub rfl hw | apply keeps_adaptTimeout

theorem keeps_execCdrLockLost {W : Nat} {a₀ : State} (m : Nat) (s : State) (hw : 0x1800008030c &&& W = 0x1800008030c)
    (hs : Keeps W a₀ s) :
    KeepsOut W a₀ (execCdrLockLost m s) := by
  unfold execCdrLockLost
  try dsimp only
  with_reducible apply keeps_onLane
  with_reducible repeat' first
    | assumption | exact part_sub rfl hw | apply keeps_cdrLost

theorem keeps_execCdrRelock {W : Nat} {a₀ : State} (m : Nat) (s : State) (hw : 0x1800008030c &&& W = 0x1800008030c)
    (hs : Keeps W a₀ s) :
    KeepsOut W a₀ (execCdrRelock m s) := by
  unfold execCdrRelock
  try dsimp only
  with_reducible apply keeps_onLane
  with_reducible repeat' first
    | assumption | exact part_sub rfl hw | apply keeps_cdrRelock

theorem keeps_execFrefLost {W : Nat} {a₀ : State} (s : State) (hw : 0x1800008030c &&& W = 0x1800008030c) (hs : Keeps W
    a₀ s) :
    KeepsOut W a₀ (execFrefLost s) := by
  unfold execFrefLost
  try dsimp only
  with_reducible apply keeps_onLane
  with_reducible repeat' first
    | assumption | exact part_sub rfl hw | apply keeps_frefLost

theorem keeps_execFrefRestored {W : Nat} {a₀ : State} (s : State) (hw : 0x1800008030c &&& W = 0x1800008030c) (hs :
    Keeps W a₀ s) :
    KeepsOut W a₀ (execFrefRestored s) := by
  unfold execFrefRestored
  try dsimp only
  with_reducible apply keeps_onLane
  with_reducible repeat' first
    | assumption | exact part_sub rfl hw | apply keeps_frefBack

theorem keeps_execTxEqWrite {W : Nat} {a₀ : State} (m : Nat) (v : Word) (s : State) (hw : 0x1000008030c &&& W =
    0x1000008030c) (hs : Keeps W a₀ s) :
    KeepsOut W a₀ (execTxEqWrite m v s) := by
  unfold execTxEqWrite
  try dsimp only
  with_reducible apply keeps_onLane
  with_reducible repeat' first
    | assumption | exact part_sub rfl hw | apply keeps_plainWrite

theorem keeps_execLaneStateRequest {W : Nat} {a₀ : State} (m : Nat) (tx : Bool) (s : State) (hw : 0x1800008030c &&& W
    = 0x1800008030c) (hs : Keeps W a₀ s) :
    KeepsOut W a₀ (execLaneStateRequest m tx s) := by
  unfold execLaneStateRequest
  try dsimp only
  with_reducible apply keeps_onLane
  with_reducible repeat' first
    | assumption | exact part_sub rfl hw | apply keeps_laneApply

theorem keeps_laneWakeDone {W : Nat} {a₀ : State} (s : State) (m : Nat) (tx : Bool) (hw : 0x18000000008 &&& W =
    0x18000000008) (hs : Keeps W a₀ s) :
    Keeps W a₀ (laneWakeDone s m tx) := by
  unfold laneWakeDone
  try dsimp only
  with_reducible repeat' first
    | assumption | exact part_sub rfl hw | intro _ | apply keeps_laneAwake | apply keeps_pumpPort | apply keeps_foldl
    | apply keeps_foldl_first | dsimp only

theorem keeps_execLaneWakeDone {W : Nat} {a₀ : State} (m : Nat) (tx : Bool) (s : State) (hw : 0x1800008030c &&& W =
    0x1800008030c) (hs : Keeps W a₀ s) :
    KeepsOut W a₀ (execLaneWakeDone m tx s) := by
  unfold execLaneWakeDone
  try dsimp only
  with_reducible apply keeps_onLane
  with_reducible repeat' first
    | assumption | exact part_sub rfl hw | apply keeps_laneWakeDone

theorem keeps_execPatgenEnable {W : Nat} {a₀ : State} (m : Nat) (v : Word) (s : State) (hw : 0x1000008030c &&& W =
    0x1000008030c) (hs : Keeps W a₀ s) :
    KeepsOut W a₀ (execPatgenEnable m v s) := by
  unfold execPatgenEnable
  try dsimp only
  with_reducible apply keeps_onLane
  with_reducible repeat' first
    | assumption | exact part_sub rfl hw | intro _ | apply keeps_laneTestWrite
    | refine keeps_of_pair (by assumption) ?_ | refine keeps_of_pair_first (by assumption) ?_
    | refine keeps_of_triple (by assumption) ?_ | dsimp only

theorem keeps_execPatchkEnable {W : Nat} {a₀ : State} (m : Nat) (v : Word) (c : ChkCount) (s : State) (hw :
    0x1800008030c &&& W = 0x1800008030c) (hs : Keeps W a₀ s) :
    KeepsOut W a₀ (execPatchkEnable m v c s) := by
  unfold execPatchkEnable
  try dsimp only
  with_reducible apply keeps_onLane
  with_reducible repeat' first
    | assumption | exact part_sub rfl hw | apply keeps_patchkWrite

theorem keeps_execPatchkClear {W : Nat} {a₀ : State} (m : Nat) (v : Word) (c : ChkCount) (s : State) (hw :
    0x1800008030c &&& W = 0x1800008030c) (hs : Keeps W a₀ s) :
    KeepsOut W a₀ (execPatchkClear m v c s) := by
  unfold execPatchkClear
  try dsimp only
  with_reducible apply keeps_onLane
  with_reducible repeat' first
    | assumption | exact part_sub rfl hw | apply keeps_patchkWrite

theorem keeps_execPatchkSnap {W : Nat} {a₀ : State} (m : Nat) (v : Word) (c : ChkCount) (s : State) (hw :
    0x1800008030c &&& W = 0x1800008030c) (hs : Keeps W a₀ s) :
    KeepsOut W a₀ (execPatchkSnap m v c s) := by
  unfold execPatchkSnap
  try dsimp only
  with_reducible apply keeps_onLane
  with_reducible repeat' first
    | assumption | exact part_sub rfl hw | apply keeps_patchkWrite

theorem keeps_execCheckerSync {W : Nat} {a₀ : State} (m : Nat) (s : State) (hw : 0x1000008030c &&& W = 0x1000008030c)
    (hs : Keeps W a₀ s) :
    KeepsOut W a₀ (execCheckerSync m s) := by
  unfold execCheckerSync
  try dsimp only
  with_reducible apply keeps_onLane
  with_reducible repeat' first
    | assumption | exact part_sub rfl hw | apply keeps_chkSync

theorem keeps_execCheckerSyncLoss {W : Nat} {a₀ : State} (m : Nat) (c : ChkCount) (s : State) (hw : 0x1800008030c &&&
    W = 0x1800008030c) (hs : Keeps W a₀ s) :
    KeepsOut W a₀ (execCheckerSyncLoss m c s) := by
  unfold execCheckerSyncLoss
  try dsimp only
  with_reducible apply keeps_onLane
  with_reducible repeat' first
    | assumption | exact part_sub rfl hw | apply keeps_chkLoss

theorem keeps_execInjectOne {W : Nat} {a₀ : State} (m : Nat) (v : Word) (s : State) (hw : 0x1000008030c &&& W =
    0x1000008030c) (hs : Keeps W a₀ s) :
    KeepsOut W a₀ (execInjectOne m v s) := by
  unfold execInjectOne
  try dsimp only
  with_reducible apply keeps_onLane
  with_reducible repeat' first
    | assumption | exact part_sub rfl hw | apply keeps_injectWrite

theorem keeps_execInjectRate {W : Nat} {a₀ : State} (m : Nat) (s : State) (hw : 0x1000008030c &&& W = 0x1000008030c)
    (hs : Keeps W a₀ s) :
    KeepsOut W a₀ (execInjectRate m s) := by
  unfold execInjectRate
  try dsimp only
  with_reducible apply keeps_onLane
  with_reducible repeat' first
    | assumption | exact part_sub rfl hw | apply keeps_injectRate

theorem keeps_execLoopbackWrite {W : Nat} {a₀ : State} (m : Nat) (v : Word) (s : State) (hw : 0x1800008030c &&& W =
    0x1800008030c) (hs : Keeps W a₀ s) :
    KeepsOut W a₀ (execLoopbackWrite m v s) := by
  unfold execLoopbackWrite
  try dsimp only
  with_reducible apply keeps_onLane
  with_reducible repeat' first
    | assumption | exact part_sub rfl hw | apply keeps_loopbackWrite

theorem keeps_pushDiscard {W : Nat} {a₀ : State} (s : State) (q : Nat) (last : Bool) (hw : 0x200008030c &&& W =
    0x200008030c) (hs : Keeps W a₀ s) :
    Keeps W a₀ (pushDiscard s q last) := by
  unfold pushDiscard
  try dsimp only
  with_reducible repeat' first
    | assumption | exact part_sub rfl hw | apply keeps_writeWordL | apply keeps_ite | split

theorem keeps_push {W : Nat} {a₀ : State} (s : State) (q : Nat) (v : Nat) (last : Bool) (hw : 0x200008030c &&& W =
    0x200008030c) (hs : Keeps W a₀ s) :
    Keeps W a₀ (push s q v last) := by
  unfold push
  try dsimp only
  with_reducible repeat' first
    | assumption | exact part_sub rfl hw | apply keeps_State_bump | apply keeps_State_ev | apply keeps_State_report
    | apply keeps_pushDiscard | apply keeps_writeWordL | apply keeps_ite | split

theorem keeps_execPushData {W : Nat} {a₀ : State} (q : Nat) (v : BitVec 64) (s : State) (hw : 0x200008030c &&& W =
    0x200008030c) (hs : Keeps W a₀ s) :
    KeepsOut W a₀ (execPushData q v s) := by
  unfold execPushData
  try dsimp only
  with_reducible apply KeepsOut.next
  with_reducible repeat' first
    | assumption | exact part_sub rfl hw | apply keeps_hub | apply keeps_push

theorem keeps_execPushDataEnd {W : Nat} {a₀ : State} (q : Nat) (v : BitVec 64) (s : State) (hw : 0x200008030c &&& W =
    0x200008030c) (hs : Keeps W a₀ s) :
    KeepsOut W a₀ (execPushDataEnd q v s) := by
  unfold execPushDataEnd
  try dsimp only
  with_reducible apply KeepsOut.next
  with_reducible repeat' first
    | assumption | exact part_sub rfl hw | apply keeps_hub | apply keeps_push

theorem keeps_setPopTag {W : Nat} {a₀ : State} (s : State) (g : Nat) (r : GWord) (hw : 0x8 &&& W = 0x8) (hs : Keeps W
    a₀ s) :
    Keeps W a₀ (setPopTag s g r) := by
  unfold setPopTag
  try dsimp only
  with_reducible repeat' first
    | assumption | exact part_sub rfl hw | apply keeps_State_setRn

theorem keeps_pop {W : Nat} {a₀ : State} (s : State) (g : Nat) (size : Nat) (err : LarderErr) (hw : 0x2000180308 &&& W
    = 0x2000180308) (hs : Keeps W a₀ s) :
    Keeps W a₀ (pop s g size err) := by
  unfold pop
  try dsimp only
  with_reducible repeat' first
    | assumption | exact part_sub rfl hw | apply keeps_State_answer | apply keeps_State_ev | apply keeps_groupRead
    | apply keeps_setPopTag | apply keeps_ite | refine keeps_of_pair (by assumption) ?_
    | refine keeps_of_pair_first (by assumption) ?_ | refine keeps_of_triple (by assumption) ?_ | dsimp only | split

theorem keeps_execPopRead {W : Nat} {a₀ : State} (g : Nat) (size : Nat) (err : LarderErr) (s : State) (hw :
    0x2000180308 &&& W = 0x2000180308) (hs : Keeps W a₀ s) :
    KeepsOut W a₀ (execPopRead g size err s) := by
  unfold execPopRead
  try dsimp only
  with_reducible apply KeepsOut.next
  with_reducible repeat' first
    | assumption | exact part_sub rfl hw | apply keeps_hub | apply keeps_pop

theorem keeps_auditBad {W : Nat} {a₀ : State} (q : Nat) (s : State) (c : Nat) (hw : 0x2000080308 &&& W = 0x2000080308)
    (hs : Keeps W a₀ s) :
    Keeps W a₀ (auditBad q s c) := by
  unfold auditBad
  try dsimp only
  with_reducible repeat' first
    | assumption | exact part_sub rfl hw | apply keeps_breakQueue | apply keeps_ownerParity | dsimp only | split

theorem keeps_auditDone {W : Nat} {a₀ : State} (s : State) (q : Nat) (bad : List Nat) (hw : 0x2000080308 &&& W =
    0x2000080308) (hs : Keeps W a₀ s) :
    Keeps W a₀ (auditDone s q bad) := by
  unfold auditDone
  try dsimp only
  with_reducible repeat' first
    | assumption | exact part_sub rfl hw | intro _ | apply keeps_State_setF | apply keeps_auditBad
    | apply keeps_returnCells | apply keeps_setCredit | apply keeps_setQueueL | apply keeps_ite | apply keeps_foldl
    | apply keeps_foldl_first | dsimp only | split

theorem keeps_execLarderAuditDone {W : Nat} {a₀ : State} (q : Nat) (bad : List Nat) (s : State) (hw : 0x2000080308 &&&
    W = 0x2000080308) (hs : Keeps W a₀ s) :
    KeepsOut W a₀ (execLarderAuditDone q bad s) := by
  unfold execLarderAuditDone
  try dsimp only
  with_reducible apply KeepsOut.next
  with_reducible repeat' first
    | assumption | exact part_sub rfl hw | apply keeps_auditDone | apply keeps_hub

theorem keeps_setQueueCfg {W : Nat} {a₀ : State} (s : State) (q : Nat) (v : Word) (hw : 0x8 &&& W = 0x8) (hs : Keeps W
    a₀ s) :
    Keeps W a₀ (setQueueCfg s q v) := by
  unfold setQueueCfg
  try dsimp only
  with_reducible repeat' first
    | assumption | exact part_sub rfl hw | apply keeps_State_setF

theorem keeps_flushQueue {W : Nat} {a₀ : State} (s : State) (q : Nat) (off : Bool) (hw : 0x2000000000 &&& W =
    0x2000000000) (hs : Keeps W a₀ s) :
    Keeps W a₀ (flushQueue s q off) := by
  unfold flushQueue
  try dsimp only
  with_reducible repeat' first
    | assumption | exact part_sub rfl hw | apply keeps_setGroupL | apply keeps_setQueueL | apply keeps_ite | split

theorem keeps_writeCfgOff {W : Nat} {a₀ : State} (s : State) (q : Nat) (v : Word) (hw : 0x2000080208 &&& W =
    0x2000080208) (hs : Keeps W a₀ s) :
    Keeps W a₀ (writeCfgOff s q v) := by
  unfold writeCfgOff
  try dsimp only
  with_reducible repeat' first
    | assumption | exact part_sub rfl hw | apply keeps_State_evIf | apply keeps_State_setF | apply keeps_flushQueue
    | apply keeps_setQueueCfg | apply keeps_setQueueL | apply keeps_ite | split

theorem keeps_writeQueueCtrl {W : Nat} {a₀ : State} (s : State) (q : Nat) (v : Word) (hw : 0x2000000008 &&& W =
    0x2000000008) (hs : Keeps W a₀ s) :
    Keeps W a₀ (writeQueueCtrl s q v) := by
  unfold writeQueueCtrl
  try dsimp only
  with_reducible repeat' first
    | assumption | exact part_sub rfl hw | apply keeps_State_setF | apply keeps_flushQueue | apply keeps_ite | split

theorem keeps_queueFlush {W : Nat} {a₀ : State} (s : State) (q : Nat) (cfg : Bool) (v : Word) (hw : 0x2000080208 &&& W
    = 0x2000080208) (hs : Keeps W a₀ s) :
    Keeps W a₀ (queueFlush s q cfg v) := by
  unfold queueFlush
  try dsimp only
  with_reducible repeat' first
    | assumption | exact part_sub rfl hw | apply keeps_writeCfgOff | apply keeps_writeQueueCtrl | apply keeps_ite
    | split

theorem keeps_execQueueFlush {W : Nat} {a₀ : State} (q : Nat) (cfg : Bool) (v : Word) (s : State) (hw : 0x2000080208
    &&& W = 0x2000080208) (hs : Keeps W a₀ s) :
    KeepsOut W a₀ (execQueueFlush q cfg v s) := by
  unfold execQueueFlush
  try dsimp only
  with_reducible apply KeepsOut.next
  with_reducible repeat' first
    | assumption | exact part_sub rfl hw | apply keeps_hub | apply keeps_queueFlush

theorem keeps_flushDone {W : Nat} {a₀ : State} (s : State) (q : Nat) (hw : 0x2000080308 &&& W = 0x2000080308) (hs :
    Keeps W a₀ s) :
    Keeps W a₀ (flushDone s q) := by
  unfold flushDone
  try dsimp only
  with_reducible repeat' first
    | assumption | exact part_sub rfl hw | apply keeps_returnCells | apply keeps_setCredit | apply keeps_setQueueL
    | apply keeps_ite | split

theorem keeps_execLarderFlushDone {W : Nat} {a₀ : State} (q : Nat) (s : State) (hw : 0x2000080308 &&& W =
    0x2000080308) (hs : Keeps W a₀ s) :
    KeepsOut W a₀ (execLarderFlushDone q s) := by
  unfold execLarderFlushDone
  try dsimp only
  with_reducible apply KeepsOut.next
  with_reducible repeat' first
    | assumption | exact part_sub rfl hw | apply keeps_flushDone | apply keeps_hub

theorem keeps_queueEnable {W : Nat} {a₀ : State} (s : State) (q : Nat) (v : Word) (hw : 0x80208 &&& W = 0x80208) (hs :
    Keeps W a₀ s) :
    Keeps W a₀ (queueEnable s q v) := by
  unfold queueEnable
  try dsimp only
  with_reducible repeat' first
    | assumption | exact part_sub rfl hw | apply keeps_State_ev | apply keeps_State_evIf | apply keeps_State_setF
    | apply keeps_setCredit | apply keeps_setQueueCfg | apply keeps_ite | split

theorem keeps_execQueueEnable {W : Nat} {a₀ : State} (q : Nat) (v : Word) (s : State) (hw : 0x80208 &&& W = 0x80208)
    (hs : Keeps W a₀ s) :
    KeepsOut W a₀ (execQueueEnable q v s) := by
  unfold execQueueEnable
  try dsimp only
  with_reducible apply KeepsOut.next
  with_reducible repeat' first
    | assumption | exact part_sub rfl hw | apply keeps_hub | apply keeps_queueEnable

theorem keeps_disableQueue {W : Nat} {a₀ : State} (s : State) (q : Nat) (hw : 0x2000080308 &&& W = 0x2000080308) (hs :
    Keeps W a₀ s) :
    Keeps W a₀ (disableQueue s q) := by
  unfold disableQueue
  try dsimp only
  with_reducible repeat' first
    | assumption | exact part_sub rfl hw | apply keeps_State_setF | apply keeps_returnCells | apply keeps_setGroupL
    | apply keeps_setQueueL

theorem keeps_msiUnmask {W : Nat} {a₀ : State} (s : State) (hw : 0x80208 &&& W = 0x80208) (hs : Keeps W a₀ s) :
    Keeps W a₀ (msiUnmask s) := by
  unfold msiUnmask
  try dsimp only
  with_reducible repeat' first
    | assumption | exact part_sub rfl hw | exact id | intro _ | apply keeps_sendVector | apply keeps_ite
    | apply keeps_foldl | apply keeps_foldl_first | dsimp only | split | apply Keeps.set_pcie

theorem keeps_msixRelease {W : Nat} {a₀ : State} (s : State) (hw : 0x80208 &&& W = 0x80208) (hs : Keeps W a₀ s) :
    Keeps W a₀ (msixRelease s) := by
  unfold msixRelease
  try dsimp only
  with_reducible repeat' first
    | assumption | exact part_sub rfl hw | intro _ | apply keeps_State_setF | apply keeps_sendVector
    | apply keeps_ite | apply keeps_foldl | apply keeps_foldl_first | dsimp only | split

theorem keeps_cqFlush {W : Nat} {a₀ : State} (x0 : Nat) (x1 : State) (x2 : Nat) (hw : 0x680208 &&& W = 0x680208) (hx1
    : Keeps W a₀ x1) :
    Keeps W a₀ (cqFlush x0 x1 x2) := by
  induction x0 generalizing x1 x2 with
  | zero =>
    unfold cqFlush
    with_reducible assumption
  | succ n ih =>
    unfold cqFlush
    try dsimp only
    with_reducible repeat' first
      | assumption | exact part_sub rfl hw | apply ih | apply keeps_State_setF | apply keeps_cqWrite
      | apply keeps_setCq | apply keeps_ite | dsimp only | split

theorem keeps_flushRings {W : Nat} {a₀ : State} (s : State) (hw : 0x680208 &&& W = 0x680208) (hs : Keeps W a₀ s) :
    Keeps W a₀ (flushRings s) := by
  unfold flushRings
  try dsimp only
  with_reducible repeat' first
    | assumption | exact part_sub rfl hw | intro _ | apply keeps_cqFlush | apply keeps_foldl
    | apply keeps_foldl_first | dsimp only

theorem keeps_functionReset {W : Nat} {a₀ : State} (s : State) (hw : 0x21408428070c &&& W = 0x21408428070c) (hs :
    Keeps W a₀ s) :
    Keeps W a₀ (functionReset s) := by
  unfold functionReset
  try dsimp only
  with_reducible repeat' first
    | assumption | exact part_sub rfl hw | apply keeps_hostScope | apply keeps_resetCause

theorem keeps_d3Entry {W : Nat} {a₀ : State} (s : State) (hw : 0x1408408030c &&& W = 0x1408408030c) (hs : Keeps W a₀
    s) :
    Keeps W a₀ (d3Entry s) := by
  unfold d3Entry
  try dsimp only
  with_reducible repeat' first
    | assumption | exact part_sub rfl hw | exact id | intro _ | apply keeps_State_setF | apply keeps_hoistHostReset
    | apply keeps_setCfg | apply Keeps.set_hoist

theorem keeps_d0Return {W : Nat} {a₀ : State} (s : State) (hw : 0x680208 &&& W = 0x680208) (hs : Keeps W a₀ s) :
    Keeps W a₀ (d0Return s) := by
  unfold d0Return
  try dsimp only
  with_reducible repeat' first
    | assumption | exact part_sub rfl hw | apply keeps_State_setF | apply keeps_flushRings | apply keeps_setCfg

theorem keeps_cfgEffect {W : Nat} {a₀ : State} (s : State) (off : Nat) (old : Nat) (v : Nat) (hw : 0x1408468030c &&& W
    = 0x1408468030c) (hs : Keeps W a₀ s) :
    Keeps W a₀ (cfgEffect s off old v) := by
  unfold cfgEffect
  try dsimp only
  with_reducible repeat' first
    | assumption | exact part_sub rfl hw | exact id | intro _ | apply keeps_d0Return | apply keeps_d3Entry
    | apply keeps_flushRings | apply keeps_msiUnmask | apply keeps_msixRelease | apply keeps_ite | split
    | apply Keeps.set_hoist

theorem keeps_cfgWrite {W : Nat} {a₀ : State} (s : State) (off : Nat) (v : Word) (be : Nat) (hw : 0x21408468070c &&& W
    = 0x21408468070c) (hs : Keeps W a₀ s) :
    Keeps W a₀ (cfgWrite s off v be) := by
  unfold cfgWrite
  try dsimp only
  with_reducible repeat' first
    | assumption | exact part_sub rfl hw | apply keeps_cfgEffect | apply keeps_functionReset | apply keeps_setCfg
    | apply keeps_ite | split

theorem keeps_calDone {W : Nat} {a₀ : State} (s : State) (c : Nat) (r : CalResult) (hw : 0x100000080308 &&& W =
    0x100000080308) (hs : Keeps W a₀ s) :
    Keeps W a₀ (calDone s c r) := by
  unfold calDone
  try dsimp only
  with_reducible repeat' first
    | assumption | exact part_sub rfl hw | apply keeps_calEnded | apply keeps_ite | split

theorem keeps_execAdcCalibrationDone {W : Nat} {a₀ : State} (c : Nat) (r : CalResult) (s : State) (hw : 0x100000080308
    &&& W = 0x100000080308) (hs : Keeps W a₀ s) :
    KeepsOut W a₀ (execAdcCalibrationDone c r s) := by
  unfold execAdcCalibrationDone
  try dsimp only
  with_reducible apply KeepsOut.next
  with_reducible repeat' first
    | assumption | exact part_sub rfl hw | apply keeps_aon | apply keeps_calDone

theorem keeps_calStart {W : Nat} {a₀ : State} (s : State) (c : Nat) (hw : 0x100000080208 &&& W = 0x100000080208) (hs :
    Keeps W a₀ s) :
    Keeps W a₀ (calStart s c) := by
  unfold calStart
  try dsimp only
  with_reducible repeat' first
    | assumption | exact part_sub rfl hw | apply keeps_State_ev | apply keeps_calBegin | apply keeps_ite | split

theorem keeps_urgent {W : Nat} {a₀ : State} (s : State) (c : Nat) (hw : 0x100000080308 &&& W = 0x100000080308) (hs :
    Keeps W a₀ s) :
    Keeps W a₀ (urgent s c) := by
  unfold urgent
  try dsimp only
  with_reducible repeat' first
    | assumption | exact part_sub rfl hw | apply keeps_State_bump | apply keeps_State_ev | apply keeps_State_report
    | apply keeps_setConv | apply keeps_ite | split

theorem keeps_madcCtrl {W : Nat} {a₀ : State} (s : State) (c : Nat) (v : Word) (hw : 0x100000080308 &&& W =
    0x100000080308) (hs : Keeps W a₀ s) :
    Keeps W a₀ (madcCtrl s c v) := by
  unfold madcCtrl
  try dsimp only
  with_reducible repeat' first
    | assumption | exact part_sub rfl hw | apply keeps_State_ev | apply keeps_State_setF | apply keeps_calStart
    | apply keeps_updConv | apply keeps_urgent | apply keeps_ite | split

theorem keeps_execCalStart {W : Nat} {a₀ : State} (c : Nat) (v : Word) (s : State) (hw : 0x100000080308 &&& W =
    0x100000080308) (hs : Keeps W a₀ s) :
    KeepsOut W a₀ (execCalStart c v s) := by
  unfold execCalStart
  try dsimp only
  with_reducible apply KeepsOut.next
  with_reducible repeat' first
    | assumption | exact part_sub rfl hw | apply keeps_hub | apply keeps_madcCtrl

theorem keeps_execGo {W : Nat} {a₀ : State} (c : Nat) (v : Word) (s : State) (hw : 0x100000080308 &&& W =
    0x100000080308) (hs : Keeps W a₀ s) :
    KeepsOut W a₀ (execGo c v s) := by
  unfold execGo
  try dsimp only
  with_reducible apply KeepsOut.next
  with_reducible repeat' first
    | assumption | exact part_sub rfl hw | apply keeps_hub | apply keeps_madcCtrl

theorem keeps_urgentDue {W : Nat} {a₀ : State} (s : State) (c : Nat) (hw : 0x100000080308 &&& W = 0x100000080308) (hs
    : Keeps W a₀ s) :
    Keeps W a₀ (urgentDue s c) := by
  unfold urgentDue
  try dsimp only
  with_reducible repeat' first
    | assumption | exact part_sub rfl hw | apply keeps_updConv | apply keeps_urgent | apply keeps_ite | dsimp only
    | split

theorem keeps_execAdcUrgentTrigger {W : Nat} {a₀ : State} (c : Nat) (s : State) (hw : 0x100000080308 &&& W =
    0x100000080308) (hs : Keeps W a₀ s) :
    KeepsOut W a₀ (execAdcUrgentTrigger c s) := by
  unfold execAdcUrgentTrigger
  try dsimp only
  with_reducible apply KeepsOut.next
  with_reducible repeat' first
    | assumption | exact part_sub rfl hw | apply keeps_aon | apply keeps_urgentDue

theorem keeps_tempResult {W : Nat} {a₀ : State} (s : State) (c : Nat) (ch : Nat) (code : Nat) (hw : 0x80308 &&& W =
    0x80308) (hs : Keeps W a₀ s) :
    Keeps W a₀ (tempResult s c ch code) := by
  unfold tempResult
  try dsimp only
  with_reducible repeat' first
    | assumption | exact part_sub rfl hw | exact id | intro _ | apply keeps_State_ev | apply keeps_State_report
    | apply keeps_State_setF | apply keeps_ite | split | apply Keeps.set_isl

theorem keeps_tempRearm {W : Nat} {a₀ : State} (s : State) (hw : 0x100 &&& W = 0x100) (hs : Keeps W a₀ s) :
    Keeps W a₀ (tempRearm s) := by
  unfold tempRearm
  try dsimp only
  with_reducible repeat' first
    | assumption | exact part_sub rfl hw | exact id | intro _ | apply keeps_ite | split | apply Keeps.set_isl

theorem keeps_execTempWarnRearm {W : Nat} {a₀ : State} (s : State) (hw : 0x100 &&& W = 0x100) (hs : Keeps W a₀ s) :
    KeepsOut W a₀ (execTempWarnRearm s) := by
  unfold execTempWarnRearm
  try dsimp only
  with_reducible apply KeepsOut.next
  with_reducible repeat' first
    | assumption | exact part_sub rfl hw | apply keeps_tempRearm | apply keeps_ite | split

theorem keeps_entryResult {W : Nat} {a₀ : State} (s : State) (c : Nat) (i : Nat) (e : Nat) (code : Nat) (hw : 0x80308
    &&& W = 0x80308) (hs : Keeps W a₀ s) :
    Keeps W a₀ (entryResult s c i e code) := by
  unfold entryResult
  try dsimp only
  with_reducible repeat' first
    | assumption | exact part_sub rfl hw | apply keeps_State_bump | apply keeps_State_ev | apply keeps_State_report
    | apply keeps_State_setRn | apply keeps_tempResult | apply keeps_ite | split

theorem keeps_plausible {W : Nat} {a₀ : State} (s : State) (hw : 0x100000080308 &&& W = 0x100000080308) (hs : Keeps W
    a₀ s) :
    Keeps W a₀ (plausible s) := by
  unfold plausible
  try dsimp only
  with_reducible repeat' first
    | assumption | exact part_sub rfl hw | exact id | intro _ | apply keeps_State_ev | apply keeps_State_report
    | apply keeps_State_setF | apply keeps_ite | dsimp only | split | apply Keeps.set_madc

theorem keeps_plausResult {W : Nat} {a₀ : State} (s : State) (c : Nat) (code : Nat) (hw : 0x100000080308 &&& W =
    0x100000080308) (hs : Keeps W a₀ s) :
    Keeps W a₀ (plausResult s c code) := by
  unfold plausResult
  try dsimp only
  with_reducible repeat' first
    | assumption | exact part_sub rfl hw | exact id | intro _ | apply keeps_plausible | apply keeps_ite | split
    | apply Keeps.set_madc

theorem keeps_injNext {W : Nat} {a₀ : State} (s : State) (c : Nat) (i : Nat) (hw : 0x100000080208 &&& W =
    0x100000080208) (hs : Keeps W a₀ s) :
    Keeps W a₀ (injNext s c i) := by
  unfold injNext
  try dsimp only
  with_reducible repeat' first
    | assumption | exact part_sub rfl hw | apply keeps_State_ev | apply keeps_passBegin | apply keeps_updConv
    | apply keeps_ite | split

theorem keeps_passEnd {W : Nat} {a₀ : State} (s : State) (c : Nat) (hw : 0x100000000008 &&& W = 0x100000000008) (hs :
    Keeps W a₀ s) :
    Keeps W a₀ (passEnd s c) := by
  unfold passEnd
  try dsimp only
  with_reducible repeat' first
    | assumption | exact part_sub rfl hw | apply keeps_State_setF | apply keeps_passBegin | apply keeps_updConv
    | apply keeps_ite | split

theorem keeps_passNext {W : Nat} {a₀ : State} (s : State) (c : Nat) (hw : 0x100000000008 &&& W = 0x100000000008) (hs :
    Keeps W a₀ s) :
    Keeps W a₀ (passNext s c) := by
  unfold passNext
  try dsimp only
  with_reducible repeat' first
    | assumption | exact part_sub rfl hw | apply keeps_passEnd | apply keeps_setConv | dsimp only | split

theorem keeps_conversionEnd {W : Nat} {a₀ : State} (s : State) (c : Nat) (raw : Nat) (hw : 0x100000080308 &&& W =
    0x100000080308) (hs : Keeps W a₀ s) :
    Keeps W a₀ (conversionEnd s c raw) := by
  unfold conversionEnd
  try dsimp only
  with_reducible repeat' first
    | assumption | exact part_sub rfl hw | apply keeps_State_setRn | apply keeps_entryResult | apply keeps_injNext
    | apply keeps_passBegin | apply keeps_passNext | apply keeps_plausResult | apply keeps_ite | dsimp only | split

theorem keeps_execAdcConversionEnd {W : Nat} {a₀ : State} (c : Nat) (raw : Nat) (s : State) (hw : 0x100000080308 &&& W
    = 0x100000080308) (hs : Keeps W a₀ s) :
    KeepsOut W a₀ (execAdcConversionEnd c raw s) := by
  unfold execAdcConversionEnd
  try dsimp only
  with_reducible apply KeepsOut.next
  with_reducible repeat' first
    | assumption | exact part_sub rfl hw | apply keeps_aon | apply keeps_conversionEnd

theorem keeps_conversionStuck {W : Nat} {a₀ : State} (s : State) (c : Nat) (hw : 0x100000080308 &&& W =
    0x100000080308) (hs : Keeps W a₀ s) :
    Keeps W a₀ (conversionStuck s c) := by
  unfold conversionStuck
  try dsimp only
  with_reducible repeat' first
    | assumption | exact part_sub rfl hw | apply keeps_State_ev | apply keeps_State_report | apply keeps_State_setF
    | apply keeps_injNext | apply keeps_passBegin | apply keeps_passNext | apply keeps_updConv | apply keeps_ite
    | dsimp only | split

theorem keeps_execAdcConversionStuck {W : Nat} {a₀ : State} (c : Nat) (s : State) (hw : 0x100000080308 &&& W =
    0x100000080308) (hs : Keeps W a₀ s) :
    KeepsOut W a₀ (execAdcConversionStuck c s) := by
  unfold execAdcConversionStuck
  try dsimp only
  with_reducible apply KeepsOut.next
  with_reducible repeat' first
    | assumption | exact part_sub rfl hw | apply keeps_aon | apply keeps_conversionStuck

theorem keeps_aadcUp {W : Nat} {a₀ : State} (s : State) (hw : 0x100000000000 &&& W = 0x100000000000) (hs : Keeps W a₀
    s) :
    Keeps W a₀ (aadcUp s) := by
  unfold aadcUp
  try dsimp only
  with_reducible repeat' first
    | assumption | exact part_sub rfl hw | apply keeps_passStart | apply keeps_ite | dsimp only | split

theorem keeps_execAadcPowerUp {W : Nat} {a₀ : State} (s : State) (hw : 0x100000000000 &&& W = 0x100000000000) (hs :
    Keeps W a₀ s) :
    KeepsOut W a₀ (execAadcPowerUp s) := by
  unfold execAadcPowerUp
  try dsimp only
  with_reducible apply KeepsOut.next
  with_reducible repeat' first
    | assumption | exact part_sub rfl hw | apply keeps_aadcUp | apply keeps_aon

theorem keeps_illUpdate {W : Nat} {a₀ : State} (s : State) (hw : 0x88 &&& W = 0x88) (hs : Keeps W a₀ s) :
    Keeps W a₀ (illUpdate s) := by
  unfold illUpdate
  try dsimp only
  with_reducible repeat' first
    | assumption | exact part_sub rfl hw | exact id | intro _ | apply keeps_State_setPair | apply keeps_ite
    | apply keeps_foldl | apply keeps_foldl_first | dsimp only | split | apply Keeps.set_regu

theorem keeps_ilsCheck {W : Nat} {a₀ : State} (s : State) (j : Nat) (code : Nat) (hw : 0x100000080388 &&& W =
    0x100000080388) (hs : Keeps W a₀ s) :
    Keeps W a₀ (ilsCheck s j code) := by
  unfold ilsCheck
  try dsimp only
  with_reducible repeat' first
    | assumption | exact part_sub rfl hw | exact id | intro _ | apply keeps_State_ev | apply keeps_State_report
    | apply keeps_State_setF | apply keeps_illUpdate | apply keeps_ite | split | apply Keeps.set_madc

theorem keeps_execIlsSample {W : Nat} {a₀ : State} (j : Nat) (code : Nat) (s : State) (hw : 0x100000080388 &&& W =
    0x100000080388) (hs : Keeps W a₀ s) :
    KeepsOut W a₀ (execIlsSample j code s) := by
  unfold execIlsSample
  try dsimp only
  with_reducible apply KeepsOut.next
  with_reducible repeat' first
    | assumption | exact part_sub rfl hw | apply keeps_hub | apply keeps_ilsCheck

theorem keeps_ilsClear {W : Nat} {a₀ : State} (s : State) (v : Word) (hw : 0x88 &&& W = 0x88) (hs : Keeps W a₀ s) :
    Keeps W a₀ (ilsClear s v) := by
  unfold ilsClear
  try dsimp only
  with_reducible repeat' first
    | assumption | exact part_sub rfl hw | apply keeps_State_setReg | apply keeps_illUpdate

theorem keeps_execIlsLatchClear {W : Nat} {a₀ : State} (v : Word) (s : State) (hw : 0x88 &&& W = 0x88) (hs : Keeps W
    a₀ s) :
    KeepsOut W a₀ (execIlsLatchClear v s) := by
  unfold execIlsLatchClear
  try dsimp only
  with_reducible apply KeepsOut.next
  with_reducible repeat' first
    | assumption | exact part_sub rfl hw | apply keeps_hub | apply keeps_ilsClear

theorem keeps_trigRose {W : Nat} {a₀ : State} (s : State) (p : Nat) (hw : 0x100000000000 &&& W = 0x100000000000) (hs :
    Keeps W a₀ s) :
    Keeps W a₀ (trigRose s p) := by
  unfold trigRose
  try dsimp only
  with_reducible repeat' first
    | assumption | exact part_sub rfl hw | intro _ | apply keeps_updConv | apply keeps_ite | apply keeps_foldl
    | apply keeps_foldl_first | dsimp only | split

theorem keeps_mgtError {W : Nat} {a₀ : State} (s : State) (k : Nat) (hw : 0x108 &&& W = 0x108) (hs : Keeps W a₀ s) :
    Keeps W a₀ (mgtError s k) := by
  unfold mgtError
  try dsimp only
  with_reducible repeat' first
    | assumption | exact part_sub rfl hw | apply keeps_State_bump | apply keeps_State_report | apply keeps_State_setF
    | apply keeps_ite | split

theorem keeps_mgtOn {W : Nat} {a₀ : State} (s : State) (t : State) (hw : 0x100000 &&& W = 0x100000) (hs : Keeps W a₀
    s) (ht : Keeps W a₀ t) :
    Keeps W a₀ (mgtOn s t) := by
  unfold mgtOn
  try dsimp only
  with_reducible repeat' first
    | assumption | exact part_sub rfl hw | apply keeps_State_answer | apply keeps_ite | split

theorem keeps_mgtRead {W : Nat} {a₀ : State} (s : State) (cmd : Nat) (counted : Bool) (len : Nat) (data : State → List
    Byte × State) (hw : 0x100108 &&& W = 0x100108) (hs : Keeps W a₀ s) (hdata : ∀ (y0 : State), Keeps W a₀ y0 → Keeps
    W a₀ (data y0).2) :
    Keeps W a₀ (mgtRead s cmd counted len data) := by
  unfold mgtRead
  try dsimp only
  with_reducible repeat' first
    | assumption | exact part_sub rfl hw | intro _ | apply hdata | apply keeps_State_answer | apply keeps_mgtError
    | apply keeps_ite | refine keeps_of_pair (by assumption) ?_ | refine keeps_of_pair_first (by assumption) ?_
    | refine keeps_of_triple (by assumption) ?_ | dsimp only | split

theorem keeps_mgtBroken {W : Nat} {a₀ : State} (s : State) (hw : 0x100108 &&& W = 0x100108) (hs : Keeps W a₀ s) :
    Keeps W a₀ (mgtBroken s) := by
  unfold mgtBroken
  try dsimp only
  with_reducible repeat' first
    | assumption | exact part_sub rfl hw | apply keeps_State_answer | apply keeps_mgtError

theorem keeps_mgtReadOnly {W : Nat} {a₀ : State} (s : State) (cmd : Nat) (counted : Bool) (io : MgtIo) (data : State →
    List Byte × State) (hw : 0x100108 &&& W = 0x100108) (hs : Keeps W a₀ s) (hdata : ∀ (y0 : State), Keeps W a₀ y0 →
    Keeps W a₀ (data y0).2) :
    Keeps W a₀ (mgtReadOnly s cmd counted io data) := by
  unfold mgtReadOnly
  try dsimp only
  with_reducible repeat' first
    | assumption | exact part_sub rfl hw | intro _ | apply hdata | apply keeps_State_answer | apply keeps_mgtBroken
    | apply keeps_mgtError | apply keeps_mgtOn | apply keeps_mgtRead | apply keeps_ite
    | refine keeps_of_pair (by assumption) ?_ | refine keeps_of_pair_first (by assumption) ?_
    | refine keeps_of_triple (by assumption) ?_ | dsimp only | split

theorem keeps_mgtWrite {W : Nat} {a₀ : State} (s : State) (cmd : Nat) (counted : Bool) (n : Nat) (bytes : List Byte)
    (f : State → List Byte → State) (hw : 0x100108 &&& W = 0x100108) (hs : Keeps W a₀ s) (hf : ∀ (y0 : State) (y1 :
    List Byte), Keeps W a₀ y0 → Keeps W a₀ (f y0 y1)) :
    Keeps W a₀ (mgtWrite s cmd counted n bytes f) := by
  unfold mgtWrite
  try dsimp only
  with_reducible repeat' first
    | assumption | exact part_sub rfl hw | intro _ | apply hf | apply keeps_State_answer | apply keeps_mgtError
    | apply keeps_ite | refine keeps_of_pair (by assumption) ?_ | refine keeps_of_pair_first (by assumption) ?_
    | refine keeps_of_triple (by assumption) ?_ | dsimp only | split

theorem keeps_mgtGet {W : Nat} {a₀ : State} (s : State) (cmd : Nat) (len : Nat) (broken : Bool) (data : State → List
    Byte) (hw : 0x100108 &&& W = 0x100108) (hs : Keeps W a₀ s) :
    Keeps W a₀ (mgtGet s cmd len broken data) := by
  unfold mgtGet
  try dsimp only
  with_reducible repeat' first
    | assumption | exact part_sub rfl hw | intro _ | apply hdata | apply keeps_mgtBroken | apply keeps_mgtOn
    | apply keeps_mgtRead | apply keeps_ite | refine keeps_of_pair (by assumption) ?_
    | refine keeps_of_pair_first (by assumption) ?_ | refine keeps_of_triple (by assumption) ?_ | dsimp only | split

theorem keeps_mgtPut {W : Nat} {a₀ : State} (s : State) (cmd : Nat) (n : Nat) (counted : Bool) (bytes : List Byte)
    (broken : Bool) (f : State → Nat → State) (hw : 0x100108 &&& W = 0x100108) (hs : Keeps W a₀ s) (hf : ∀ (y0 :
    State) (y1 : Nat), Keeps W a₀ y0 → Keeps W a₀ (f y0 y1)) :
    Keeps W a₀ (mgtPut s cmd n counted bytes broken f) := by
  unfold mgtPut
  try dsimp only
  with_reducible repeat' first
    | assumption | exact part_sub rfl hw | intro _ | apply hf | apply keeps_mgtBroken | apply keeps_mgtOn
    | apply keeps_mgtWrite | apply keeps_ite | refine keeps_of_pair (by assumption) ?_
    | refine keeps_of_pair_first (by assumption) ?_ | refine keeps_of_triple (by assumption) ?_ | dsimp only | split

theorem keeps_mgtReg {W : Nat} {a₀ : State} (off : Nat) (s : State) (hs : Keeps W a₀ s) :
    Keeps W a₀ (mgtReg off s).2 := by
  unfold mgtReg
  try dsimp only
  with_reducible repeat' first
    | assumption

theorem keeps_alertResponse {W : Nat} {a₀ : State} (s : State) (wins : Bool) (hw : 0x102000 &&& W = 0x102000) (hs :
    Keeps W a₀ s) :
    Keeps W a₀ (alertResponse s wins) := by
  unfold alertResponse
  try dsimp only
  with_reducible repeat' first
    | assumption | exact part_sub rfl hw | exact id | intro _ | apply keeps_State_answer | apply keeps_ite | split
    | apply Keeps.set_mgt

theorem keeps_execMgtStatus {W : Nat} {a₀ : State} (io : MgtIo) (s : State) (hw : 0x100108 &&& W = 0x100108) (hs :
    Keeps W a₀ s) :
    KeepsOut W a₀ (execMgtStatus io s) := by
  unfold execMgtStatus
  try dsimp only
  with_reducible apply KeepsOut.next
  with_reducible repeat' first
    | assumption | exact part_sub rfl hw | intro _ | apply keeps_aon | apply keeps_mgtReadOnly
    | refine keeps_of_pair (by assumption) ?_ | refine keeps_of_pair_first (by assumption) ?_
    | refine keeps_of_triple (by assumption) ?_ | dsimp only

theorem keeps_execMgtIdentify {W : Nat} {a₀ : State} (io : MgtIo) (s : State) (hw : 0x100108 &&& W = 0x100108) (hs :
    Keeps W a₀ s) :
    KeepsOut W a₀ (execMgtIdentify io s) := by
  unfold execMgtIdentify
  try dsimp only
  with_reducible apply KeepsOut.next
  with_reducible repeat' first
    | assumption | exact part_sub rfl hw | intro _ | apply keeps_aon | apply keeps_mgtReadOnly
    | refine keeps_of_pair (by assumption) ?_ | refine keeps_of_pair_first (by assumption) ?_
    | refine keeps_of_triple (by assumption) ?_ | dsimp only

theorem keeps_execMgtBootStatus {W : Nat} {a₀ : State} (io : MgtIo) (s : State) (hw : 0x100108 &&& W = 0x100108) (hs :
    Keeps W a₀ s) :
    KeepsOut W a₀ (execMgtBootStatus io s) := by
  unfold execMgtBootStatus
  try dsimp only
  with_reducible apply KeepsOut.next
  with_reducible repeat' first
    | assumption | exact part_sub rfl hw | intro _ | apply keeps_aon | apply keeps_mgtReadOnly | apply keeps_mgtReg
    | refine keeps_of_pair (by assumption) ?_ | refine keeps_of_pair_first (by assumption) ?_
    | refine keeps_of_triple (by assumption) ?_ | dsimp only

theorem keeps_execMgtBootFault {W : Nat} {a₀ : State} (io : MgtIo) (s : State) (hw : 0x100108 &&& W = 0x100108) (hs :
    Keeps W a₀ s) :
    KeepsOut W a₀ (execMgtBootFault io s) := by
  unfold execMgtBootFault
  try dsimp only
  with_reducible apply KeepsOut.next
  with_reducible repeat' first
    | assumption | exact part_sub rfl hw | intro _ | apply keeps_aon | apply keeps_mgtReadOnly | apply keeps_mgtReg
    | refine keeps_of_pair (by assumption) ?_ | refine keeps_of_pair_first (by assumption) ?_
    | refine keeps_of_triple (by assumption) ?_ | dsimp only

theorem keeps_execMgtResetCauseRead {W : Nat} {a₀ : State} (len : Nat) (broken : Bool) (s : State) (hw : 0x100108 &&&
    W = 0x100108) (hs : Keeps W a₀ s) :
    KeepsOut W a₀ (execMgtResetCauseRead len broken s) := by
  unfold execMgtResetCauseRead
  try dsimp only
  with_reducible apply KeepsOut.next
  with_reducible repeat' first
    | assumption | exact part_sub rfl hw | intro _ | apply keeps_aon | apply keeps_mgtGet
    | refine keeps_of_pair (by assumption) ?_ | refine keeps_of_pair_first (by assumption) ?_
    | refine keeps_of_triple (by assumption) ?_ | dsimp only

theorem keeps_execMgtTileWheels {W : Nat} {a₀ : State} (io : MgtIo) (s : State) (hw : 0x100108 &&& W = 0x100108) (hs :
    Keeps W a₀ s) :
    KeepsOut W a₀ (execMgtTileWheels io s) := by
  unfold execMgtTileWheels
  try dsimp only
  with_reducible apply KeepsOut.next
  with_reducible repeat' first
    | assumption | exact part_sub rfl hw | intro _ | apply keeps_aon | apply keeps_mgtReadOnly
    | refine keeps_of_pair (by assumption) ?_ | refine keeps_of_pair_first (by assumption) ?_
    | refine keeps_of_triple (by assumption) ?_ | dsimp only

theorem keeps_execMgtAlertStatus {W : Nat} {a₀ : State} (io : MgtIo) (s : State) (hw : 0x100108 &&& W = 0x100108) (hs
    : Keeps W a₀ s) :
    KeepsOut W a₀ (execMgtAlertStatus io s) := by
  unfold execMgtAlertStatus
  try dsimp only
  with_reducible apply KeepsOut.next
  with_reducible repeat' first
    | assumption | exact part_sub rfl hw | intro _ | apply keeps_aon | apply keeps_mgtReadOnly
    | refine keeps_of_pair (by assumption) ?_ | refine keeps_of_pair_first (by assumption) ?_
    | refine keeps_of_triple (by assumption) ?_ | dsimp only

theorem keeps_execMgtAlertMaskRead {W : Nat} {a₀ : State} (len : Nat) (broken : Bool) (s : State) (hw : 0x100108 &&& W
    = 0x100108) (hs : Keeps W a₀ s) :
    KeepsOut W a₀ (execMgtAlertMaskRead len broken s) := by
  unfold execMgtAlertMaskRead
  try dsimp only
  with_reducible apply KeepsOut.next
  with_reducible repeat' first
    | assumption | exact part_sub rfl hw | intro _ | apply keeps_aon | apply keeps_mgtGet
    | refine keeps_of_pair (by assumption) ?_ | refine keeps_of_pair_first (by assumption) ?_
    | refine keeps_of_triple (by assumption) ?_ | dsimp only

theorem keeps_execMgtMirrorAddrRead {W : Nat} {a₀ : State} (len : Nat) (broken : Bool) (s : State) (hw : 0x100108 &&&
    W = 0x100108) (hs : Keeps W a₀ s) :
    KeepsOut W a₀ (execMgtMirrorAddrRead len broken s) := by
  unfold execMgtMirrorAddrRead
  try dsimp only
  with_reducible apply KeepsOut.next
  with_reducible repeat' first
    | assumption | exact part_sub rfl hw | intro _ | apply keeps_aon | apply keeps_mgtGet
    | refine keeps_of_pair (by assumption) ?_ | refine keeps_of_pair_first (by assumption) ?_
    | refine keeps_of_triple (by assumption) ?_ | dsimp only

theorem keeps_execMgtConfigRead {W : Nat} {a₀ : State} (len : Nat) (broken : Bool) (s : State) (hw : 0x100108 &&& W =
    0x100108) (hs : Keeps W a₀ s) :
    KeepsOut W a₀ (execMgtConfigRead len broken s) := by
  unfold execMgtConfigRead
  try dsimp only
  with_reducible apply KeepsOut.next
  with_reducible repeat' first
    | assumption | exact part_sub rfl hw | intro _ | apply keeps_aon | apply keeps_mgtGet
    | refine keeps_of_pair (by assumption) ?_ | refine keeps_of_pair_first (by assumption) ?_
    | refine keeps_of_triple (by assumption) ?_ | dsimp only

theorem keeps_execMgtLastError {W : Nat} {a₀ : State} (io : MgtIo) (s : State) (hw : 0x100108 &&& W = 0x100108) (hs :
    Keeps W a₀ s) :
    KeepsOut W a₀ (execMgtLastError io s) := by
  unfold execMgtLastError
  try dsimp only
  with_reducible apply KeepsOut.next
  with_reducible repeat' first
    | assumption | exact part_sub rfl hw | intro _ | apply keeps_State_setF | apply keeps_aon
    | apply keeps_mgtReadOnly | refine keeps_of_pair (by assumption) ?_
    | refine keeps_of_pair_first (by assumption) ?_ | refine keeps_of_triple (by assumption) ?_ | dsimp only

theorem keeps_execMgtCounters {W : Nat} {a₀ : State} (io : MgtIo) (s : State) (hw : 0x100108 &&& W = 0x100108) (hs :
    Keeps W a₀ s) :
    KeepsOut W a₀ (execMgtCounters io s) := by
  unfold execMgtCounters
  try dsimp only
  with_reducible apply KeepsOut.next
  with_reducible repeat' first
    | assumption | exact part_sub rfl hw | intro _ | apply keeps_State_setF | apply keeps_aon
    | apply keeps_mgtReadOnly | refine keeps_of_pair (by assumption) ?_
    | refine keeps_of_pair_first (by assumption) ?_ | refine keeps_of_triple (by assumption) ?_ | apply keeps_foldl
    | apply keeps_foldl_first | dsimp only

theorem keeps_setLatch {W : Nat} {a₀ : State} (s : State) (q : Requester) (l : PairLatch) (hw : 0x80 &&& W = 0x80) (hs
    : Keeps W a₀ s) :
    Keeps W a₀ (setLatch s q l) := by
  unfold setLatch
  try dsimp only
  with_reducible repeat' first
    | assumption | exact part_sub rfl hw | exact id | intro _ | dsimp only | split | apply Keeps.set_regu

theorem keeps_latchedVal {W : Nat} {a₀ : State} (s : State) (q : Requester) (off : Nat) (hw : 0x80 &&& W = 0x80) (hs :
    Keeps W a₀ s) :
    Keeps W a₀ (latchedVal s q off).2 := by
  unfold latchedVal
  try dsimp only
  with_reducible repeat' first
    | assumption | exact part_sub rfl hw | apply keeps_setLatch | apply keeps_ite | split

theorem keeps_accessEvent {W : Nat} {a₀ : State} (s : State) (q : Requester) (off : Nat) (f : Fld) (code : Nat) (hw :
    0x80308 &&& W = 0x80308) (hs : Keeps W a₀ s) :
    Keeps W a₀ (accessEvent s q off f code) := by
  unfold accessEvent
  try dsimp only
  with_reducible repeat' first
    | assumption | exact part_sub rfl hw | apply keeps_State_ev | apply keeps_State_report | apply keeps_State_setRn

theorem keeps_unmappedReg {W : Nat} {a₀ : State} (s : State) (q : Requester) (off : Nat) (hw : 0x80308 &&& W =
    0x80308) (hs : Keeps W a₀ s) :
    Keeps W a₀ (unmappedReg s q off) := by
  unfold unmappedReg
  try dsimp only
  with_reducible repeat' first
    | assumption | exact part_sub rfl hw | apply keeps_accessEvent

theorem keeps_mirrorRead {W : Nat} {a₀ : State} (s : State) (hw : 0x82388 &&& W = 0x82388) (hs : Keeps W a₀ s) :
    Keeps W a₀ (mirrorRead s).2 := by
  unfold mirrorRead
  try dsimp only
  with_reducible repeat' first
    | assumption | exact part_sub rfl hw | exact id | intro _ | apply keeps_latchedVal | apply keeps_mgtError
    | apply keeps_unmappedReg | apply keeps_ite | refine keeps_of_pair (by assumption) ?_
    | refine keeps_of_pair_first (by assumption) ?_ | refine keeps_of_triple (by assumption) ?_ | dsimp only | split
    | apply Keeps.set_mgt

theorem keeps_devReset {W : Nat} {a₀ : State} (s : State) (v : Word) (hw : 0x40 &&& W = 0x40) (hs : Keeps W a₀ s) :
    Keeps W a₀ (devReset s v) := by
  unfold devReset
  try dsimp only
  with_reducible repeat' first
    | assumption | exact part_sub rfl hw | exact id | intro _ | apply keeps_ite | split | apply Keeps.set_pow

theorem keeps_mirrorWrite {W : Nat} {a₀ : State} (s : State) (v : Nat) (hw : 0x80348 &&& W = 0x80348) (hs : Keeps W a₀
    s) :
    Keeps W a₀ (mirrorWrite s v) := by
  unfold mirrorWrite
  try dsimp only
  with_reducible repeat' first
    | assumption | exact part_sub rfl hw | apply keeps_devReset | apply keeps_mgtError | apply keeps_plainWrite
    | apply keeps_ite | split

theorem keeps_execMgtMirrorRead {W : Nat} {a₀ : State} (io : MgtIo) (s : State) (hw : 0x182388 &&& W = 0x182388) (hs :
    Keeps W a₀ s) :
    KeepsOut W a₀ (execMgtMirrorRead io s) := by
  unfold execMgtMirrorRead
  try dsimp only
  with_reducible apply KeepsOut.next
  with_reducible repeat' first
    | assumption | exact part_sub rfl hw | intro _ | apply keeps_aon | apply keeps_mgtReadOnly
    | apply keeps_mirrorRead | refine keeps_of_pair (by assumption) ?_
    | refine keeps_of_pair_first (by assumption) ?_ | refine keeps_of_triple (by assumption) ?_ | dsimp only

theorem keeps_execMgtMirrorWrite {W : Nat} {a₀ : State} (bytes : List Byte) (broken : Bool) (s : State) (hw : 0x180348
    &&& W = 0x180348) (hs : Keeps W a₀ s) :
    KeepsOut W a₀ (execMgtMirrorWrite bytes broken s) := by
  unfold execMgtMirrorWrite
  try dsimp only
  with_reducible apply KeepsOut.next
  with_reducible repeat' first
    | assumption | exact part_sub rfl hw | intro _ | apply keeps_aon | apply keeps_mgtPut | apply keeps_mirrorWrite
    | refine keeps_of_pair (by assumption) ?_ | refine keeps_of_pair_first (by assumption) ?_
    | refine keeps_of_triple (by assumption) ?_ | dsimp only

theorem keeps_execMgtResetCauseWrite {W : Nat} {a₀ : State} (bytes : List Byte) (broken : Bool) (s : State) (hw :
    0x180308 &&& W = 0x180308) (hs : Keeps W a₀ s) :
    KeepsOut W a₀ (execMgtResetCauseWrite bytes broken s) := by
  unfold execMgtResetCauseWrite
  try dsimp only
  with_reducible apply KeepsOut.next
  with_reducible repeat' first
    | assumption | exact part_sub rfl hw | intro _ | apply keeps_aon | apply keeps_mgtPut | apply keeps_plainWrite
    | refine keeps_of_pair (by assumption) ?_ | refine keeps_of_pair_first (by assumption) ?_
    | refine keeps_of_triple (by assumption) ?_ | dsimp only

theorem keeps_alertClear {W : Nat} {a₀ : State} (s : State) (v : Word) (hw : 0x82208 &&& W = 0x82208) (hs : Keeps W a₀
    s) :
    Keeps W a₀ (alertClear s v) := by
  unfold alertClear
  try dsimp only
  with_reducible repeat' first
    | assumption | exact part_sub rfl hw | exact id | intro _ | apply keeps_plainWrite | apply Keeps.set_mgt

theorem keeps_execMgtAlertClear {W : Nat} {a₀ : State} (bytes : List Byte) (broken : Bool) (s : State) (hw : 0x182308
    &&& W = 0x182308) (hs : Keeps W a₀ s) :
    KeepsOut W a₀ (execMgtAlertClear bytes broken s) := by
  unfold execMgtAlertClear
  try dsimp only
  with_reducible apply KeepsOut.next
  with_reducible repeat' first
    | assumption | exact part_sub rfl hw | intro _ | apply keeps_alertClear | apply keeps_aon | apply keeps_mgtPut
    | refine keeps_of_pair (by assumption) ?_ | refine keeps_of_pair_first (by assumption) ?_
    | refine keeps_of_triple (by assumption) ?_ | dsimp only

theorem keeps_execMgtAlertMaskWrite {W : Nat} {a₀ : State} (bytes : List Byte) (broken : Bool) (s : State) (hw :
    0x100108 &&& W = 0x100108) (hs : Keeps W a₀ s) :
    KeepsOut W a₀ (execMgtAlertMaskWrite bytes broken s) := by
  unfold execMgtAlertMaskWrite
  try dsimp only
  with_reducible apply KeepsOut.next
  with_reducible repeat' first
    | assumption | exact part_sub rfl hw | intro _ | apply keeps_State_setF | apply keeps_aon | apply keeps_mgtPut
    | refine keeps_of_pair (by assumption) ?_ | refine keeps_of_pair_first (by assumption) ?_
    | refine keeps_of_triple (by assumption) ?_ | dsimp only

theorem keeps_execMgtMirrorAddrWrite {W : Nat} {a₀ : State} (bytes : List Byte) (broken : Bool) (s : State) (hw :
    0x102108 &&& W = 0x102108) (hs : Keeps W a₀ s) :
    KeepsOut W a₀ (execMgtMirrorAddrWrite bytes broken s) := by
  unfold execMgtMirrorAddrWrite
  try dsimp only
  with_reducible apply KeepsOut.next
  with_reducible repeat' first
    | assumption | exact part_sub rfl hw | exact id | intro _ | apply keeps_aon | apply keeps_mgtPut
    | refine keeps_of_pair (by assumption) ?_ | refine keeps_of_pair_first (by assumption) ?_
    | refine keeps_of_triple (by assumption) ?_ | dsimp only | apply Keeps.set_mgt

theorem keeps_execMgtConfigWrite {W : Nat} {a₀ : State} (bytes : List Byte) (broken : Bool) (s : State) (hw : 0x100108
    &&& W = 0x100108) (hs : Keeps W a₀ s) :
    KeepsOut W a₀ (execMgtConfigWrite bytes broken s) := by
  unfold execMgtConfigWrite
  try dsimp only
  with_reducible apply KeepsOut.next
  with_reducible repeat' first
    | assumption | exact part_sub rfl hw | intro _ | apply keeps_State_setF | apply keeps_aon | apply keeps_mgtPut
    | refine keeps_of_pair (by assumption) ?_ | refine keeps_of_pair_first (by assumption) ?_
    | refine keeps_of_triple (by assumption) ?_ | dsimp only

theorem keeps_execMgtUnsupportedCommand {W : Nat} {a₀ : State} (s : State) (hw : 0x100108 &&& W = 0x100108) (hs :
    Keeps W a₀ s) :
    KeepsOut W a₀ (execMgtUnsupportedCommand s) := by
  unfold execMgtUnsupportedCommand
  try dsimp only
  with_reducible apply KeepsOut.next
  with_reducible repeat' first
    | assumption | exact part_sub rfl hw | apply keeps_State_answer | apply keeps_aon | apply keeps_mgtError
    | apply keeps_mgtOn

theorem keeps_execMgtSclTimeout {W : Nat} {a₀ : State} (s : State) (hw : 0x100108 &&& W = 0x100108) (hs : Keeps W a₀
    s) :
    KeepsOut W a₀ (execMgtSclTimeout s) := by
  unfold execMgtSclTimeout
  try dsimp only
  with_reducible apply KeepsOut.next
  with_reducible repeat' first
    | assumption | exact part_sub rfl hw | apply keeps_State_answer | apply keeps_aon | apply keeps_mgtError
    | apply keeps_mgtOn

theorem keeps_execAlertResponseRead {W : Nat} {a₀ : State} (wins : Bool) (s : State) (hw : 0x102000 &&& W = 0x102000)
    (hs : Keeps W a₀ s) :
    KeepsOut W a₀ (execAlertResponseRead wins s) := by
  unfold execAlertResponseRead
  try dsimp only
  with_reducible apply KeepsOut.next
  with_reducible repeat' first
    | assumption | exact part_sub rfl hw | apply keeps_alertResponse | apply keeps_aon | apply keeps_mgtOn

theorem keeps_noBuffer {W : Nat} {a₀ : State} (s : State) (st : Nat) (hw : 0x80208 &&& W = 0x80208) (hs : Keeps W a₀
    s) :
    Keeps W a₀ (noBuffer s st) := by
  unfold noBuffer
  try dsimp only
  with_reducible repeat' first
    | assumption | exact part_sub rfl hw | apply keeps_State_bump | apply keeps_State_ev | dsimp only | split

theorem keeps_takeRing {W : Nat} {a₀ : State} (s : State) (st : Nat) (bytes : Nat) (hm : Nat) (desc : HostData) (hw :
    0x80208 &&& W = 0x80208) (hs : Keeps W a₀ s) :
    Keeps W a₀ (takeRing s st bytes hm desc).2 := by
  unfold takeRing
  try dsimp only
  with_reducible repeat' first
    | assumption | exact part_sub rfl hw | apply keeps_State_bump | apply keeps_State_ev | apply keeps_State_setF
    | apply keeps_noBuffer | apply keeps_ite | dsimp only | split

theorem keeps_takeStore {W : Nat} {a₀ : State} (s : State) (st : Nat) (rd : Cfg) (hw : 0x1000000008 &&& W =
    0x1000000008) (hs : Keeps W a₀ s) :
    Keeps W a₀ (takeStore s st rd).2 := by
  unfold takeStore
  try dsimp only
  with_reducible repeat' first
    | assumption | exact part_sub rfl hw | apply keeps_State_bump | apply keeps_State_setF | apply keeps_setStore
    | dsimp only | split

theorem keeps_takePeer {W : Nat} {a₀ : State} (s : State) (st : Nat) (bytes : Nat) (hm : Nat) (rd : Cfg) (hw :
    0x10000000008 &&& W = 0x10000000008) (hs : Keeps W a₀ s) :
    Keeps W a₀ (takePeer s st bytes hm rd).2 := by
  unfold takePeer
  try dsimp only
  with_reducible repeat' first
    | assumption | exact part_sub rfl hw | apply keeps_State_bump | apply keeps_setPeer | dsimp only | split

theorem keeps_choose {W : Nat} {a₀ : State} (s : State) (st : Nat) (q : MoverNeed) (desc : HostData) (hw :
    0x11000080208 &&& W = 0x11000080208) (hs : Keeps W a₀ s) :
    Keeps W a₀ (choose s st q desc).2 := by
  unfold choose
  try dsimp only
  with_reducible repeat' first
    | assumption | exact part_sub rfl hw | apply keeps_takePeer | apply keeps_takeRing | apply keeps_takeStore
    | refine keeps_of_pair (by assumption) ?_ | refine keeps_of_pair_first (by assumption) ?_
    | refine keeps_of_triple (by assumption) ?_ | dsimp only | split

theorem keeps_packetWords {W : Nat} {a₀ : State} (x0 : Nat) (x1 : State) (x2 : Nat) (x3 : List LarderErr) (hw :
    0x2000080308 &&& W = 0x2000080308) (hx1 : Keeps W a₀ x1) :
    Keeps W a₀ (packetWords x0 x1 x2 x3).2 := by
  induction x0 generalizing x1 x2 x3 with
  | zero =>
    unfold packetWords
    with_reducible assumption
  | succ n ih =>
    unfold packetWords
    try dsimp only
    with_reducible repeat' first
      | assumption | exact part_sub rfl hw | apply ih | apply keeps_groupRead | apply keeps_ite
      | refine keeps_of_pair (by assumption) ?_ | refine keeps_of_pair_first (by assumption) ?_
      | refine keeps_of_triple (by assumption) ?_ | dsimp only | split

theorem keeps_moverWrite {W : Nat} {a₀ : State} (s : State) (st : Nat) (seq : Nat) (d : Dest) (addr : Nat) (bs : List
    Byte) (poison : Bool) (hw : 0x74000480308 &&& W = 0x74000480308) (hs : Keeps W a₀ s) :
    Keeps W a₀ (moverWrite s st seq d addr bs poison) := by
  unfold moverWrite
  try dsimp only
  with_reducible repeat' first
    | assumption | exact part_sub rfl hw | apply keeps_hostData | apply keeps_issueOpWrite | dsimp only | split

theorem keeps_writeWords {W : Nat} {a₀ : State} (s : State) (st : Nat) (seq : Nat) (d : Dest) (addr : Nat) (l : List
    GWord) (hw : 0x74000480308 &&& W = 0x74000480308) (hs : Keeps W a₀ s) :
    Keeps W a₀ (writeWords s st seq d addr l) := by
  unfold writeWords
  try dsimp only
  with_reducible repeat' first
    | assumption | exact part_sub rfl hw | intro _ | apply keeps_moverWrite | apply keeps_poisonBeat
    | apply keeps_ite | apply keeps_foldl | apply keeps_foldl_first | dsimp only | split

theorem keeps_flickFrame {W : Nat} {a₀ : State} (s : State) (p : Nat) (f : Frame) (cells : List (List (List (Option
    Nat)))) (hw : 0x408020c &&& W = 0x408020c) (hs : Keeps W a₀ s) :
    Keeps W a₀ (flickFrame s p f cells).2 := by
  unfold flickFrame
  try dsimp only
  with_reducible repeat' first
    | assumption | exact part_sub rfl hw | exact id | intro _ | apply keeps_State_bump | apply keeps_State_setF
    | apply keeps_setDetect | apply keeps_updPipe | apply keeps_ite | apply keeps_foldl | apply keeps_foldl_first
    | dsimp only | split | apply Keeps.set_taken

theorem keeps_finishStats {W : Nat} {a₀ : State} (s : State) (p : Nat) (f : Frame) (hw : 0x40408020c &&& W =
    0x40408020c) (hs : Keeps W a₀ s) :
    Keeps W a₀ (finishStats s p f) := by
  unfold finishStats
  try dsimp only
  with_reducible repeat' first
    | assumption | exact part_sub rfl hw | exact id | intro _ | apply keeps_State_bump | apply keeps_flickFrame
    | apply keeps_freeBytes | apply keeps_ite | refine keeps_of_pair (by assumption) ?_
    | refine keeps_of_pair_first (by assumption) ?_ | refine keeps_of_triple (by assumption) ?_ | dsimp only | split
    | apply Keeps.set_prod

theorem keeps_finishFrames {W : Nat} {a₀ : State} (s : State) (p : Nat) (hw : 0x40408030c &&& W = 0x40408030c) (hs :
    Keeps W a₀ s) :
    Keeps W a₀ (finishFrames s p) := by
  unfold finishFrames
  try dsimp only
  with_reducible repeat' first
    | assumption | exact part_sub rfl hw | intro _ | apply keeps_defectStats | apply keeps_finishStats
    | apply keeps_updFrame | apply keeps_ite | apply keeps_foldl | apply keeps_foldl_first | dsimp only | split

theorem keeps_forgetFrames {W : Nat} {a₀ : State} (s : State) (p : Nat) (hw : 0x4000000 &&& W = 0x4000000) (hs : Keeps
    W a₀ s) :
    Keeps W a₀ (forgetFrames s p) := by
  unfold forgetFrames
  try dsimp only
  with_reducible repeat' first
    | assumption | exact part_sub rfl hw | apply keeps_updPipe

theorem keeps_endOut {W : Nat} {a₀ : State} (s : State) (st : Nat) (n : Int) (hw : 0xe04000000 &&& W = 0xe04000000)
    (hs : Keeps W a₀ s) :
    Keeps W a₀ (endOut s st n) := by
  unfold endOut
  try dsimp only
  with_reducible repeat' first
    | assumption | exact part_sub rfl hw | exact id | intro _ | apply keeps_addPkt | apply keeps_updOut
    | apply Keeps.set_tallies

theorem keeps_settleStep {W : Nat} {a₀ : State} {s t : State} {st : Nat} (e : settleStep s st = some t)
    (hw : 0xf04000000 &&& W = 0xf04000000) (hs : Keeps W a₀ s) :
    Keeps W a₀ t := by
  unfold settleStep at e
  split at e
  · cases e
  · split at e
    · split at e
      · split at e
        · cases e
        · cases e
          exact Keeps.set_twinWait (keeps_addPkt _ _ _ (part_sub rfl hw) hs) (part_sub rfl hw)
      · split at e
        · cases e
          exact keeps_endOut _ _ _ (part_sub rfl hw) hs
        · cases e
    · split at e
      · cases e
        exact keeps_endOut _ _ _ (part_sub rfl hw) hs
      · cases e
theorem keeps_settleLoop {W : Nat} {a₀ : State} (x0 : Nat) (x1 : State) (x2 : Nat) (hw : 0xf04000000 &&& W =
    0xf04000000) (hx1 : Keeps W a₀ x1) :
    Keeps W a₀ (settleLoop x0 x1 x2) := by
  induction x0 generalizing x1 x2 with
  | zero => exact hx1
  | succ n ih =>
    unfold settleLoop
    split
    · with_reducible apply ih
      exact keeps_settleStep ‹_› (part_sub rfl hw) hx1
    · exact hx1

theorem keeps_settleOut {W : Nat} {a₀ : State} (s : State) (st : Nat) (hw : 0xf04000000 &&& W = 0xf04000000) (hs :
    Keeps W a₀ s) :
    Keeps W a₀ (settleOut s st) := by
  unfold settleOut
  try dsimp only
  with_reducible repeat' first
    | assumption | exact part_sub rfl hw | apply keeps_settleLoop

theorem keeps_settlePipe {W : Nat} {a₀ : State} (s : State) (p : Nat) (hw : 0xf0408030c &&& W = 0xf0408030c) (hs :
    Keeps W a₀ s) :
    Keeps W a₀ (settlePipe s p) := by
  unfold settlePipe
  try dsimp only
  with_reducible repeat' first
    | assumption | exact part_sub rfl hw | intro _ | apply keeps_finishFrames | apply keeps_forgetFrames
    | apply keeps_settleOut | apply keeps_foldl | apply keeps_foldl_first | dsimp only

theorem keeps_frameGone {W : Nat} {a₀ : State} (s : State) (st : Nat) (n : Int) (hw : 0xf0408030c &&& W = 0xf0408030c)
    (hs : Keeps W a₀ s) :
    Keeps W a₀ (frameGone s st n) := by
  unfold frameGone
  try dsimp only
  with_reducible repeat' first
    | assumption | exact part_sub rfl hw | intro _ | apply keeps_setCanvas | apply keeps_settlePipe
    | apply keeps_updHeld | apply keeps_updOut | apply keeps_ite | apply keeps_foldl | apply keeps_foldl_first
    | dsimp only | split

theorem keeps_setMover {W : Nat} {a₀ : State} (s : State) (st : Nat) (m : Mover) (hw : 0x4000000000 &&& W =
    0x4000000000) (hs : Keeps W a₀ s) :
    Keeps W a₀ (setMover s st m) := by
  unfold setMover
  try dsimp only
  with_reducible repeat' first
    | assumption | exact part_sub rfl hw | exact id | intro _ | apply Keeps.set_hoist

theorem keeps_atFrame {W : Nat} {a₀ : State} (s : State) (st : Nat) (n : Int) (d : Dest) (hw : 0x4000000000 &&& W =
    0x4000000000) (hs : Keeps W a₀ s) :
    Keeps W a₀ (atFrame s st n d) := by
  unfold atFrame
  try dsimp only
  with_reducible repeat' first
    | assumption | exact part_sub rfl hw | apply keeps_setMover

theorem keeps_streamEntry {W : Nat} {a₀ : State} (s : State) (d : Dest) (kind : Nat) (status : Nat) (fsn : Nat) (fs :
    Nat) (bytes : Nat) (detail : Nat) (flags : Nat) (hw : 0x680208 &&& W = 0x680208) (hs : Keeps W a₀ s) :
    Keeps W a₀ (streamEntry s d kind status fsn fs bytes detail flags) := by
  unfold streamEntry
  try dsimp only
  with_reducible repeat' first
    | assumption | exact part_sub rfl hw | apply keeps_cqPost | dsimp only | split

theorem keeps_moveSlice {W : Nat} {a₀ : State} (s : State) (st : Nat) (q : MoverNeed) (g : PktMeta) (errs : List
    LarderErr) (hw : 0x76000680308 &&& W = 0x76000680308) (hs : Keeps W a₀ s) :
    Keeps W a₀ (moveSlice s st q g errs) := by
  unfold moveSlice
  try dsimp only
  with_reducible repeat' first
    | assumption | exact part_sub rfl hw | intro _ | apply keeps_State_report | apply keeps_packetWords
    | apply keeps_setMover | apply keeps_streamEntry | apply keeps_writeWords | apply keeps_ite
    | refine keeps_of_pair (by assumption) ?_ | refine keeps_of_pair_first (by assumption) ?_
    | refine keeps_of_triple (by assumption) ?_ | apply keeps_foldl | apply keeps_foldl_first | dsimp only | split

theorem keeps_moveFull {W : Nat} {a₀ : State} (s : State) (st : Nat) (q : MoverNeed) (g : PktMeta) (errs : List
    LarderErr) (hw : 0x76f0448030c &&& W = 0x76f0448030c) (hs : Keeps W a₀ s) :
    Keeps W a₀ (moveFull s st q g errs) := by
  unfold moveFull
  try dsimp only
  with_reducible repeat' first
    | assumption | exact part_sub rfl hw | apply keeps_frameGone | apply keeps_packetWords | apply keeps_setMover
    | apply keeps_writeWords | apply keeps_ite | refine keeps_of_pair (by assumption) ?_
    | refine keeps_of_pair_first (by assumption) ?_ | refine keeps_of_triple (by assumption) ?_ | dsimp only | split

theorem keeps_moveStats {W : Nat} {a₀ : State} (s : State) (st : Nat) (errs : List LarderErr) (hw : 0x76000480308 &&&
    W = 0x76000480308) (hs : Keeps W a₀ s) :
    Keeps W a₀ (moveStats s st errs) := by
  unfold moveStats
  try dsimp only
  with_reducible repeat' first
    | assumption | exact part_sub rfl hw | apply keeps_State_report | apply keeps_packetWords | apply keeps_setMover
    | apply keeps_writeWords | apply keeps_ite | refine keeps_of_pair (by assumption) ?_
    | refine keeps_of_pair_first (by assumption) ?_ | refine keeps_of_triple (by assumption) ?_ | dsimp only | split

theorem keeps_moveUnknown {W : Nat} {a₀ : State} (s : State) (st : Nat) (errs : List LarderErr) (hw : 0x6000080308 &&&
    W = 0x6000080308) (hs : Keeps W a₀ s) :
    Keeps W a₀ (moveUnknown s st errs) := by
  unfold moveUnknown
  try dsimp only
  with_reducible repeat' first
    | assumption | exact part_sub rfl hw | apply keeps_packetWords | apply keeps_setMover
    | refine keeps_of_pair (by assumption) ?_ | refine keeps_of_pair_first (by assumption) ?_
    | refine keeps_of_triple (by assumption) ?_ | dsimp only | split

theorem keeps_moverGuard {W : Nat} {a₀ : State} (s : State) (st : Nat) (addr : Nat) (u : Nat × SpaceUse) (f : State)
    (hw : 0x408408030c &&& W = 0x408408030c) (hs : Keeps W a₀ s) (hf : Keeps W a₀ f) :
    Keeps W a₀ (moverGuard s st addr u f) := by
  unfold moverGuard
  try dsimp only
  with_reducible repeat' first
    | assumption | exact part_sub rfl hw | apply keeps_onSpace

theorem keeps_withDest {W : Nat} {a₀ : State} (s : State) (st : Nat) (n : Int) (q : MoverNeed) (desc : HostData) (f :
    State → State) (hw : 0x1508408030c &&& W = 0x1508408030c) (hs : Keeps W a₀ s) (hf : ∀ (y0 : State), Keeps W a₀ y0
    → Keeps W a₀ (f y0)) :
    Keeps W a₀ (withDest s st n q desc f) := by
  unfold withDest
  try dsimp only
  with_reducible repeat' first
    | assumption | exact part_sub rfl hw | intro _ | apply hf | apply keeps_atFrame | apply keeps_choose
    | apply keeps_moverGuard | apply keeps_ite | refine keeps_of_pair (by assumption) ?_
    | refine keeps_of_pair_first (by assumption) ?_ | refine keeps_of_triple (by assumption) ?_ | dsimp only | split

theorem keeps_moverPacket {W : Nat} {a₀ : State} (s : State) (st : Nat) (desc : HostData) (errs : List LarderErr) (hw
    : 0x77f8468030c &&& W = 0x77f8468030c) (hs : Keeps W a₀ s) :
    Keeps W a₀ (moverPacket s st desc errs) := by
  unfold moverPacket
  try dsimp only
  with_reducible repeat' first
    | assumption | exact part_sub rfl hw | intro _ | apply keeps_atFrame | apply keeps_moveFull
    | apply keeps_moveSlice | apply keeps_moveStats | apply keeps_moveUnknown | apply keeps_moverGuard
    | apply keeps_takeRing | apply keeps_withDest | apply keeps_ite | refine keeps_of_pair (by assumption) ?_
    | refine keeps_of_pair_first (by assumption) ?_ | refine keeps_of_triple (by assumption) ?_ | dsimp only | split

theorem keeps_execStreamMoverPacket {W : Nat} {a₀ : State} (stream : Nat) (desc : HostData) (errs : List LarderErr) (s
    : State) (hw : 0x77f8468030c &&& W = 0x77f8468030c) (hs : Keeps W a₀ s) :
    KeepsOut W a₀ (execStreamMoverPacket stream desc errs s) := by
  unfold execStreamMoverPacket
  try dsimp only
  with_reducible apply KeepsOut.next
  with_reducible repeat' first
    | assumption | exact part_sub rfl hw | apply keeps_hub | apply keeps_moverPacket

theorem keeps_peerComplete {W : Nat} {a₀ : State} (s : State) (st : Nat) (d : MoverDone) (dev : Nat) (buf : Nat)
    (small : Bool) (addr : Nat) (hw : 0x74000480308 &&& W = 0x74000480308) (hs : Keeps W a₀ s) :
    Keeps W a₀ (peerComplete s st d dev buf small addr) := by
  unfold peerComplete
  try dsimp only
  with_reducible repeat' first
    | assumption | exact part_sub rfl hw | apply keeps_issueOpWrite | apply keeps_setPeer | apply keeps_ite | split

theorem keeps_storeDone {W : Nat} {a₀ : State} (s : State) (st : Nat) (d : MoverDone) (buf : Nat) (base : Nat) (hw :
    0x1000000008 &&& W = 0x1000000008) (hs : Keeps W a₀ s) :
    Keeps W a₀ (storeDone s st d buf base) := by
  unfold storeDone
  try dsimp only
  with_reducible repeat' first
    | assumption | exact part_sub rfl hw | apply keeps_State_setF | apply keeps_setStore | apply keeps_ite
    | dsimp only | split

theorem keeps_canvasDone {W : Nat} {a₀ : State} (s : State) (c : Nat) (d : MoverDone) (hw : 0x8 &&& W = 0x8) (hs :
    Keeps W a₀ s) :
    Keeps W a₀ (canvasDone s c d) := by
  unfold canvasDone
  try dsimp only
  with_reducible repeat' first
    | assumption | exact part_sub rfl hw | intro _ | apply keeps_State_setRn | apply keeps_foldl
    | apply keeps_foldl_first | dsimp only | split

theorem keeps_viewDone {W : Nat} {a₀ : State} (s : State) (st : Nat) (d : MoverDone) (hw : 0xc0308 &&& W = 0xc0308)
    (hs : Keeps W a₀ s) :
    Keeps W a₀ (viewDone s st d) := by
  unfold viewDone
  try dsimp only
  with_reducible repeat' first
    | assumption | exact part_sub rfl hw | apply keeps_freshDelivered | apply keeps_holdFrame | apply keeps_ite
    | split

theorem keeps_deliverDone {W : Nat} {a₀ : State} (s : State) (st : Nat) (d : MoverDone) (hw : 0x75f046c030c &&& W =
    0x75f046c030c) (hs : Keeps W a₀ s) :
    Keeps W a₀ (deliverDone s st d) := by
  unfold deliverDone
  try dsimp only
  with_reducible repeat' first
    | assumption | exact part_sub rfl hw | apply keeps_State_setRn | apply keeps_canvasDone | apply keeps_frameGone
    | apply keeps_peerComplete | apply keeps_setMover | apply keeps_storeDone | apply keeps_streamEntry
    | apply keeps_viewDone | apply keeps_ite | dsimp only | split

theorem keeps_frameDelivered {W : Nat} {a₀ : State} (s : State) (st : Nat) (hw : 0x75f046c030c &&& W = 0x75f046c030c)
    (hs : Keeps W a₀ s) :
    Keeps W a₀ (frameDelivered s st) := by
  unfold frameDelivered
  try dsimp only
  with_reducible repeat' first
    | assumption | exact part_sub rfl hw | apply keeps_deliverDone | apply keeps_ite | dsimp only | split

theorem keeps_execFrameDelivered {W : Nat} {a₀ : State} (stream : Nat) (s : State) (hw : 0x75f046c030c &&& W =
    0x75f046c030c) (hs : Keeps W a₀ s) :
    KeepsOut W a₀ (execFrameDelivered stream s) := by
  unfold execFrameDelivered
  try dsimp only
  with_reducible apply KeepsOut.next
  with_reducible repeat' first
    | assumption | exact part_sub rfl hw | apply keeps_frameDelivered | apply keeps_hub

theorem keeps_ltssmDetect {W : Nat} {a₀ : State} (s : State) (hw : 0x200 &&& W = 0x200) (hs : Keeps W a₀ s) :
    Keeps W a₀ (ltssmDetect s) := by
  unfold ltssmDetect
  try dsimp only
  with_reducible repeat' first
    | assumption | exact part_sub rfl hw | exact id | intro _ | apply keeps_ite | split | apply Keeps.set_pcie

theorem keeps_execLtssmDetect {W : Nat} {a₀ : State} (s : State) (hw : 0x200 &&& W = 0x200) (hs : Keeps W a₀ s) :
    KeepsOut W a₀ (execLtssmDetect s) := by
  unfold execLtssmDetect
  try dsimp only
  with_reducible apply KeepsOut.next
  with_reducible repeat' first
    | assumption | exact part_sub rfl hw | apply keeps_hub | apply keeps_ltssmDetect

theorem keeps_linkJudge {W : Nat} {a₀ : State} (s : State) (hw : 0x80308 &&& W = 0x80308) (hs : Keeps W a₀ s) :
    Keeps W a₀ (linkJudge s) := by
  unfold linkJudge
  try dsimp only
  with_reducible repeat' first
    | assumption | exact part_sub rfl hw | apply keeps_State_ev | apply keeps_State_report | apply keeps_State_setF
    | apply keeps_ite | split

theorem keeps_linkUp {W : Nat} {a₀ : State} (s : State) (rate : Nat) (width : Nat) (flit : Bool) (hw : 0x80308 &&& W =
    0x80308) (hs : Keeps W a₀ s) :
    Keeps W a₀ (linkUp s rate width flit) := by
  unfold linkUp
  try dsimp only
  with_reducible repeat' first
    | assumption | exact part_sub rfl hw | exact id | intro _ | apply keeps_State_setF | apply keeps_State_setRn
    | apply keeps_linkJudge | apply keeps_ite | split | apply Keeps.set_pcie

theorem keeps_execLinkDlActive {W : Nat} {a₀ : State} (rate : Nat) (width : Nat) (flit : Bool) (s : State) (hw :
    0x80308 &&& W = 0x80308) (hs : Keeps W a₀ s) :
    KeepsOut W a₀ (execLinkDlActive rate width flit s) := by
  unfold execLinkDlActive
  try dsimp only
  with_reducible apply KeepsOut.next
  with_reducible repeat' first
    | assumption | exact part_sub rfl hw | apply keeps_hub | apply keeps_linkUp

theorem keeps_rateChange {W : Nat} {a₀ : State} (s : State) (rate : Nat) (flit : Bool) (hw : 0x80308 &&& W = 0x80308)
    (hs : Keeps W a₀ s) :
    Keeps W a₀ (rateChange s rate flit) := by
  unfold rateChange
  try dsimp only
  with_reducible repeat' first
    | assumption | exact part_sub rfl hw | apply keeps_State_setF | apply keeps_linkJudge | apply keeps_ite | split

theorem keeps_execRateChangeComplete {W : Nat} {a₀ : State} (rate : Nat) (flit : Bool) (s : State) (hw : 0x80308 &&& W
    = 0x80308) (hs : Keeps W a₀ s) :
    KeepsOut W a₀ (execRateChangeComplete rate flit s) := by
  unfold execRateChangeComplete
  try dsimp only
  with_reducible apply KeepsOut.next
  with_reducible repeat' first
    | assumption | exact part_sub rfl hw | apply keeps_hub | apply keeps_rateChange

theorem keeps_configReady {W : Nat} {a₀ : State} (s : State) (hw : 0x200 &&& W = 0x200) (hs : Keeps W a₀ s) :
    Keeps W a₀ (configReady s) := by
  unfold configReady
  try dsimp only
  with_reducible repeat' first
    | assumption | exact part_sub rfl hw | exact id | intro _ | apply keeps_writeInventory | apply keeps_ite | split
    | apply Keeps.set_pcie

theorem keeps_execConfigReady {W : Nat} {a₀ : State} (s : State) (hw : 0x200 &&& W = 0x200) (hs : Keeps W a₀ s) :
    KeepsOut W a₀ (execConfigReady s) := by
  unfold execConfigReady
  try dsimp only
  with_reducible apply KeepsOut.next
  with_reducible repeat' first
    | assumption | exact part_sub rfl hw | apply keeps_configReady | apply keeps_hub

theorem keeps_configRequest {W : Nat} {a₀ : State} (s : State) (write : Bool) (off : Nat) (v : Word) (be : Nat) (hw :
    0x21408478070c &&& W = 0x21408478070c) (hs : Keeps W a₀ s) :
    Keeps W a₀ (configRequest s write off v be) := by
  unfold configRequest
  try dsimp only
  with_reducible repeat' first
    | assumption | exact part_sub rfl hw | apply keeps_State_answer | apply keeps_cfgWrite | apply keeps_ite | split

theorem keeps_execConfigurationRequest {W : Nat} {a₀ : State} (write : Bool) (off : Nat) (v : Word) (be : Nat) (s :
    State) (hw : 0x21408478070c &&& W = 0x21408478070c) (hs : Keeps W a₀ s) :
    KeepsOut W a₀ (execConfigurationRequest write off v be s) := by
  unfold execConfigurationRequest
  try dsimp only
  with_reducible apply KeepsOut.next
  with_reducible repeat' first
    | assumption | exact part_sub rfl hw | apply keeps_configRequest | apply keeps_hub

theorem keeps_bar4Base {W : Nat} {a₀ : State} (s : State) (hw : 0x80208 &&& W = 0x80208) (hs : Keeps W a₀ s) :
    Keeps W a₀ (bar4Base s).2 := by
  unfold bar4Base
  try dsimp only
  with_reducible repeat' first
    | assumption | exact part_sub rfl hw | apply keeps_State_ev | apply keeps_ite | split

theorem keeps_bar4Read {W : Nat} {a₀ : State} (s : State) (x : Nat) (len : Nat) (hw : 0x18020c &&& W = 0x18020c) (hs :
    Keeps W a₀ s) :
    Keeps W a₀ (bar4Read s x len) := by
  unfold bar4Read
  try dsimp only
  with_reducible repeat' first
    | assumption | exact part_sub rfl hw | apply keeps_State_answer | apply keeps_bar4Base | apply keeps_refuseUr
    | apply keeps_ite | refine keeps_of_pair (by assumption) ?_ | refine keeps_of_pair_first (by assumption) ?_
    | refine keeps_of_triple (by assumption) ?_ | dsimp only | split

theorem keeps_execBar4Read {W : Nat} {a₀ : State} (x : Nat) (len : Nat) (s : State) (hw : 0x18020c &&& W = 0x18020c)
    (hs : Keeps W a₀ s) :
    KeepsOut W a₀ (execBar4Read x len s) := by
  unfold execBar4Read
  try dsimp only
  with_reducible apply KeepsOut.next
  with_reducible repeat' first
    | assumption | exact part_sub rfl hw | apply keeps_bar4Read | apply keeps_hostReq

theorem keeps_poisonRx {W : Nat} {a₀ : State} (s : State) (hw : 0x8030c &&& W = 0x8030c) (hs : Keeps W a₀ s) :
    Keeps W a₀ (poisonRx s) := by
  unfold poisonRx
  try dsimp only
  with_reducible repeat' first
    | assumption | exact part_sub rfl hw | apply keeps_State_bump | apply keeps_State_ev | apply keeps_State_report
    | apply keeps_aerUncorr

theorem keeps_bar4Write {W : Nat} {a₀ : State} (s : State) (x : Nat) (bytes : List Byte) (poison : Bool) (hw :
    0x6000018030c &&& W = 0x6000018030c) (hs : Keeps W a₀ s) :
    Keeps W a₀ (bar4Write s x bytes poison) := by
  unfold bar4Write
  try dsimp only
  with_reducible repeat' first
    | assumption | exact part_sub rfl hw | apply keeps_bar4Base | apply keeps_memWrite | apply keeps_poisonRx
    | apply keeps_refuseUr | apply keeps_ite | refine keeps_of_pair (by assumption) ?_
    | refine keeps_of_pair_first (by assumption) ?_ | refine keeps_of_triple (by assumption) ?_ | dsimp only | split

theorem keeps_execBar4Write {W : Nat} {a₀ : State} (x : Nat) (bytes : List Byte) (poison : Bool) (s : State) (hw :
    0x6000018030c &&& W = 0x6000018030c) (hs : Keeps W a₀ s) :
    KeepsOut W a₀ (execBar4Write x bytes poison s) := by
  unfold execBar4Write
  try dsimp only
  with_reducible apply KeepsOut.next
  with_reducible repeat' first
    | assumption | exact part_sub rfl hw | apply keeps_bar4Write | apply keeps_hostReq

theorem keeps_execBar2Write {W : Nat} {a₀ : State} (s : State) (hw : 0x80208 &&& W = 0x80208) (hs : Keeps W a₀ s) :
    KeepsOut W a₀ (execBar2Write s) := by
  unfold execBar2Write
  try dsimp only
  with_reducible apply KeepsOut.next
  with_reducible repeat' first
    | assumption | exact part_sub rfl hw | apply keeps_State_ev | apply keeps_hostReq

theorem keeps_execUnsupportedRequest {W : Nat} {a₀ : State} (write : Bool) (s : State) (hw : 0x100204 &&& W =
    0x100204) (hs : Keeps W a₀ s) :
    KeepsOut W a₀ (execUnsupportedRequest write s) := by
  unfold execUnsupportedRequest
  try dsimp only
  with_reducible apply KeepsOut.next
  with_reducible repeat' first
    | assumption | exact part_sub rfl hw | apply keeps_hostReq | apply keeps_refuseUr

theorem keeps_readEnded {W : Nat} {a₀ : State} (s : State) (k : Nat) (hw : 0x10000000208 &&& W = 0x10000000208) (hs :
    Keeps W a₀ s) :
    Keeps W a₀ (readEnded s k) := by
  unfold readEnded
  try dsimp only
  with_reducible repeat' first
    | assumption | exact part_sub rfl hw | apply keeps_dropRead | apply keeps_inboundDone | apply keeps_ite
    | dsimp only | split

theorem keeps_completion {W : Nat} {a₀ : State} (s : State) (k : Nat) (p : CplPiece) (hw : 0x1000008030c &&& W =
    0x1000008030c) (hs : Keeps W a₀ s) :
    Keeps W a₀ (completion s k p) := by
  unfold completion
  try dsimp only
  with_reducible repeat' first
    | assumption | exact part_sub rfl hw | exact id | intro _ | apply keeps_State_bump | apply keeps_State_ev
    | apply keeps_State_report | apply keeps_aerUncorr | apply keeps_poisonRx | apply keeps_readEnded
    | apply keeps_ite | dsimp only | split | apply Keeps.set_pcie

theorem keeps_execPcieCompletionReceived {W : Nat} {a₀ : State} (k : Nat) (p : CplPiece) (s : State) (hw :
    0x1000008030c &&& W = 0x1000008030c) (hs : Keeps W a₀ s) :
    KeepsOut W a₀ (execPcieCompletionReceived k p s) := by
  unfold execPcieCompletionReceived
  try dsimp only
  with_reducible apply KeepsOut.next
  with_reducible repeat' first
    | assumption | exact part_sub rfl hw | apply keeps_completion | apply keeps_hub | apply keeps_ite | split

theorem keeps_linkError {W : Nat} {a₀ : State} (s : State) (e : LinkError) (hw : 0x8030c &&& W = 0x8030c) (hs : Keeps
    W a₀ s) :
    Keeps W a₀ (linkError s e) := by
  unfold linkError
  try dsimp only
  with_reducible repeat' first
    | assumption | exact part_sub rfl hw | apply keeps_State_bump | apply keeps_State_ev | apply keeps_State_report
    | apply keeps_aerCorr | apply keeps_aerUncorr | dsimp only | split

theorem keeps_execBadTlpReceived {W : Nat} {a₀ : State} (e : LinkError) (s : State) (hw : 0x8030c &&& W = 0x8030c) (hs
    : Keeps W a₀ s) :
    KeepsOut W a₀ (execBadTlpReceived e s) := by
  unfold execBadTlpReceived
  try dsimp only
  with_reducible apply KeepsOut.next
  with_reducible repeat' first
    | assumption | exact part_sub rfl hw | apply keeps_hub | apply keeps_linkError | apply keeps_ite | split

theorem keeps_execLtssmRecoveryEntry {W : Nat} {a₀ : State} (s : State) (hw : 0x8 &&& W = 0x8) (hs : Keeps W a₀ s) :
    KeepsOut W a₀ (execLtssmRecoveryEntry s) := by
  unfold execLtssmRecoveryEntry
  try dsimp only
  with_reducible apply KeepsOut.next
  with_reducible repeat' first
    | assumption | exact part_sub rfl hw | apply keeps_State_bump | apply keeps_hub | apply keeps_ite | split

theorem keeps_powerMove {W : Nat} {a₀ : State} (s : State) (a : Nat) (b : Nat) (c : Bool) (hw : 0x8 &&& W = 0x8) (hs :
    Keeps W a₀ s) :
    Keeps W a₀ (powerMove s a b c) := by
  unfold powerMove
  try dsimp only
  with_reducible repeat' first
    | assumption | exact part_sub rfl hw | apply keeps_State_setF | apply keeps_ite | split

theorem keeps_execL0sEntry {W : Nat} {a₀ : State} (s : State) (hw : 0x8 &&& W = 0x8) (hs : Keeps W a₀ s) :
    KeepsOut W a₀ (execL0sEntry s) := by
  unfold execL0sEntry
  try dsimp only
  with_reducible apply KeepsOut.next
  with_reducible repeat' first
    | assumption | exact part_sub rfl hw | apply keeps_hub | apply keeps_powerMove

theorem keeps_execL0sExit {W : Nat} {a₀ : State} (s : State) (hw : 0x8 &&& W = 0x8) (hs : Keeps W a₀ s) :
    KeepsOut W a₀ (execL0sExit s) := by
  unfold execL0sExit
  try dsimp only
  with_reducible apply KeepsOut.next
  with_reducible repeat' first
    | assumption | exact part_sub rfl hw | apply keeps_hub | apply keeps_powerMove

theorem keeps_l1Entry {W : Nat} {a₀ : State} (s : State) (hw : 0x8 &&& W = 0x8) (hs : Keeps W a₀ s) :
    Keeps W a₀ (l1Entry s) := by
  unfold l1Entry
  try dsimp only
  with_reducible repeat' first
    | assumption | exact part_sub rfl hw | apply keeps_powerMove

theorem keeps_execL1Entry {W : Nat} {a₀ : State} (s : State) (hw : 0x8 &&& W = 0x8) (hs : Keeps W a₀ s) :
    KeepsOut W a₀ (execL1Entry s) := by
  unfold execL1Entry
  try dsimp only
  with_reducible apply KeepsOut.next
  with_reducible repeat' first
    | assumption | exact part_sub rfl hw | apply keeps_hub | apply keeps_l1Entry

theorem keeps_execL1Exit {W : Nat} {a₀ : State} (s : State) (hw : 0x8 &&& W = 0x8) (hs : Keeps W a₀ s) :
    KeepsOut W a₀ (execL1Exit s) := by
  unfold execL1Exit
  try dsimp only
  with_reducible apply KeepsOut.next
  with_reducible repeat' first
    | assumption | exact part_sub rfl hw | apply keeps_hub | apply keeps_powerMove

theorem keeps_clkreqChange {W : Nat} {a₀ : State} (s : State) (asserted : Bool) (hw : 0x208 &&& W = 0x208) (hs : Keeps
    W a₀ s) :
    Keeps W a₀ (clkreqChange s asserted) := by
  unfold clkreqChange
  try dsimp only
  with_reducible repeat' first
    | assumption | exact part_sub rfl hw | exact id | intro _ | apply keeps_State_setF | apply keeps_powerMove
    | apply keeps_ite | split | apply Keeps.set_pcie

theorem keeps_execClkreqChange {W : Nat} {a₀ : State} (asserted : Bool) (s : State) (hw : 0x208 &&& W = 0x208) (hs :
    Keeps W a₀ s) :
    KeepsOut W a₀ (execClkreqChange asserted s) := by
  unfold execClkreqChange
  try dsimp only
  with_reducible apply KeepsOut.next
  with_reducible repeat' first
    | assumption | exact part_sub rfl hw | apply keeps_clkreqChange | apply keeps_hub

theorem keeps_l0pNarrow {W : Nat} {a₀ : State} (s : State) (w : Nat) (hw : 0x8 &&& W = 0x8) (hs : Keeps W a₀ s) :
    Keeps W a₀ (l0pNarrow s w) := by
  unfold l0pNarrow
  try dsimp only
  with_reducible repeat' first
    | assumption | exact part_sub rfl hw | apply keeps_State_bump | apply keeps_State_setF | apply keeps_ite | split

theorem keeps_execL0pNarrow {W : Nat} {a₀ : State} (w : Nat) (s : State) (hw : 0x8 &&& W = 0x8) (hs : Keeps W a₀ s) :
    KeepsOut W a₀ (execL0pNarrow w s) := by
  unfold execL0pNarrow
  try dsimp only
  with_reducible apply KeepsOut.next
  with_reducible repeat' first
    | assumption | exact part_sub rfl hw | apply keeps_hub | apply keeps_l0pNarrow

end Sys2Proof.Machine
end

