-- ==== Sys2Proof/Laws/KeepsE.lean ====
section
/-!
SUPPORT. What each operation keeps, part 5 of 6: one lemma for each function that answers a state, after those that it
calls (l0pWiden to execTrigRun).
-/

namespace Sys2Proof.Machine

theorem keeps_l0pWiden {W : Nat} {a₀ : State} (s : State) (w : Nat) (hw : 0x8 &&& W = 0x8) (hs : Keeps W a₀ s) :
    Keeps W a₀ (l0pWiden s w) := by
  unfold l0pWiden
  try dsimp only
  with_reducible repeat' first
    | assumption | exact part_sub rfl hw | apply keeps_State_bump | apply keeps_State_setF | apply keeps_ite | split

theorem keeps_execL0pWiden {W : Nat} {a₀ : State} (w : Nat) (s : State) (hw : 0x8 &&& W = 0x8) (hs : Keeps W a₀ s) :
    KeepsOut W a₀ (execL0pWiden w s) := by
  unfold execL0pWiden
  try dsimp only
  with_reducible apply KeepsOut.next
  with_reducible repeat' first
    | assumption | exact part_sub rfl hw | apply keeps_hub | apply keeps_l0pWiden

theorem keeps_execD3hotEntry {W : Nat} {a₀ : State} (s : State) (hw : 0x1408408030c &&& W = 0x1408408030c) (hs : Keeps
    W a₀ s) :
    KeepsOut W a₀ (execD3hotEntry s) := by
  unfold execD3hotEntry
  try dsimp only
  with_reducible apply KeepsOut.next
  with_reducible repeat' first
    | assumption | exact part_sub rfl hw | apply keeps_d3Entry | apply keeps_hostReq | apply keeps_ite | split

theorem keeps_execD0Return {W : Nat} {a₀ : State} (s : State) (hw : 0x680208 &&& W = 0x680208) (hs : Keeps W a₀ s) :
    KeepsOut W a₀ (execD0Return s) := by
  unfold execD0Return
  try dsimp only
  with_reducible apply KeepsOut.next
  with_reducible repeat' first
    | assumption | exact part_sub rfl hw | apply keeps_d0Return | apply keeps_hostReq | apply keeps_ite | split

theorem keeps_doeDiscovery {W : Nat} {a₀ : State} (s : State) (index : Nat) (hw : 0x100000 &&& W = 0x100000) (hs :
    Keeps W a₀ s) :
    Keeps W a₀ (doeDiscovery s index) := by
  unfold doeDiscovery
  try dsimp only
  with_reducible repeat' first
    | assumption | exact part_sub rfl hw | apply keeps_State_answer | apply keeps_ite | split

theorem keeps_execDoeDiscovery {W : Nat} {a₀ : State} (index : Nat) (s : State) (hw : 0x100000 &&& W = 0x100000) (hs :
    Keeps W a₀ s) :
    KeepsOut W a₀ (execDoeDiscovery index s) := by
  unfold execDoeDiscovery
  try dsimp only
  with_reducible apply KeepsOut.next
  with_reducible repeat' first
    | assumption | exact part_sub rfl hw | apply keeps_doeDiscovery | apply keeps_hostReq

theorem keeps_shadowWrite {W : Nat} {a₀ : State} (s : State) (off : Nat) (v : Word) (hw : 0x80228 &&& W = 0x80228) (hs
    : Keeps W a₀ s) :
    Keeps W a₀ (shadowWrite s off v) := by
  unfold shadowWrite
  try dsimp only
  with_reducible repeat' first
    | assumption | exact part_sub rfl hw | exact id | intro _ | apply keeps_State_ev | apply keeps_plainWrite
    | apply keeps_ite | dsimp only | split | apply Keeps.set_written

theorem keeps_writeAll {W : Nat} {a₀ : State} (s : State) (l : List (Nat × Nat)) (hw : 0x80228 &&& W = 0x80228) (hs :
    Keeps W a₀ s) :
    Keeps W a₀ (writeAll s l) := by
  unfold writeAll
  try dsimp only
  with_reducible repeat' first
    | assumption | exact part_sub rfl hw | intro _ | apply keeps_shadowWrite | apply keeps_foldl
    | apply keeps_foldl_first | dsimp only

theorem keeps_recInScope {W : Nat} {a₀ : State} (s : State) (t : Nat) (r : PlateRec) (hw : 0x8 &&& W = 0x8) (hs :
    Keeps W a₀ s) :
    Keeps W a₀ (recInScope s t r).2 := by
  unfold recInScope
  split
  · exact keeps_foldl_second hs (fun x y h => keeps_State_setRn _ _ _ (part_sub rfl hw) h)
  · split
    · exact hs
    · exact hs
  · exact hs
  · exact hs

theorem keeps_cmdPlate {W : Nat} {a₀ : State} (s : State) (c : Cmd) (hw : 0x680228 &&& W = 0x680228) (hs : Keeps W a₀
    s) :
    Keeps W a₀ (cmdPlate s c) := by
  unfold cmdPlate
  try dsimp only
  with_reducible repeat' first
    | assumption | exact part_sub rfl hw | intro _ | apply keeps_complete | apply keeps_writeAll | apply keeps_ite
    | apply keeps_foldl | apply keeps_foldl_first | dsimp only | split

theorem keeps_execPlateLoad {W : Nat} {a₀ : State} (s : State) (hw : 0x680228 &&& W = 0x680228) (hs : Keeps W a₀ s) :
    KeepsOut W a₀ (execPlateLoad s) := by
  unfold execPlateLoad
  try dsimp only
  with_reducible apply KeepsOut.next
  with_reducible repeat' first
    | assumption | exact part_sub rfl hw | intro _ | apply keeps_cmdPlate | apply keeps_hub | apply keeps_onCmd
    | refine keeps_of_pair (by assumption) ?_ | refine keeps_of_pair_first (by assumption) ?_
    | refine keeps_of_triple (by assumption) ?_ | dsimp only

theorem keeps_setPort {W : Nat} {a₀ : State} (s : State) (n : Nat) (x : Port) (hw : 0x2000000 &&& W = 0x2000000) (hs :
    Keeps W a₀ s) :
    Keeps W a₀ (setPort s n x) := by
  unfold setPort
  try dsimp only
  with_reducible repeat' first
    | assumption | exact part_sub rfl hw | exact id | intro _ | apply Keeps.set_port

theorem keeps_setChan {W : Nat} {a₀ : State} (s : State) (n : Nat) (k : Nat) (c : PortChan) (hw : 0x2000000 &&& W =
    0x2000000) (hs : Keeps W a₀ s) :
    Keeps W a₀ (setChan s n k c) := by
  unfold setChan
  try dsimp only
  with_reducible repeat' first
    | assumption | exact part_sub rfl hw | apply keeps_setPort

theorem keeps_portCode {W : Nat} {a₀ : State} (s : State) (n : Nat) (code : Nat) (hw : 0x100 &&& W = 0x100) (hs :
    Keeps W a₀ s) :
    Keeps W a₀ (portCode s n code) := by
  unfold portCode
  try dsimp only
  with_reducible repeat' first
    | assumption | exact part_sub rfl hw | apply keeps_State_report | apply keeps_ite | split

theorem keeps_judgeCorrupt {W : Nat} {a₀ : State} (s : State) (n : Nat) (damaged : Nat) (hw : 0x80308 &&& W = 0x80308)
    (hs : Keeps W a₀ s) :
    Keeps W a₀ (judgeCorrupt s n damaged).2 := by
  unfold judgeCorrupt
  try dsimp only
  with_reducible repeat' first
    | assumption | exact part_sub rfl hw | apply keeps_State_ev | apply keeps_portCode | apply keeps_ite | split

theorem keeps_cutFrame {W : Nat} {a₀ : State} (s : State) (p : Nat) (f : Int) (hw : 0x4084308 &&& W = 0x4084308) (hs :
    Keeps W a₀ s) :
    Keeps W a₀ (cutFrame s p f) := by
  unfold cutFrame
  try dsimp only
  with_reducible repeat' first
    | assumption | exact part_sub rfl hw | apply keeps_State_ev | apply keeps_endFrame | apply keeps_judgeCorrupt
    | apply keeps_updFrame | apply keeps_ite | refine keeps_of_pair (by assumption) ?_
    | refine keeps_of_pair_first (by assumption) ?_ | refine keeps_of_triple (by assumption) ?_ | dsimp only | split

theorem keeps_closeChan {W : Nat} {a₀ : State} (s : State) (n : Nat) (k : Nat) (hw : 0x2000008 &&& W = 0x2000008) (hs
    : Keeps W a₀ s) :
    Keeps W a₀ (closeChan s n k) := by
  unfold closeChan
  try dsimp only
  with_reducible repeat' first
    | assumption | exact part_sub rfl hw | apply keeps_State_setF | apply keeps_setChan

theorem keeps_truncateChan {W : Nat} {a₀ : State} (s : State) (n : Nat) (k : Nat) (hw : 0x6084308 &&& W = 0x6084308)
    (hs : Keeps W a₀ s) :
    Keeps W a₀ (truncateChan s n k) := by
  unfold truncateChan
  try dsimp only
  with_reducible repeat' first
    | assumption | exact part_sub rfl hw | apply keeps_closeChan | apply keeps_cutFrame | dsimp only | split

theorem keeps_truncateOpen {W : Nat} {a₀ : State} (s : State) (p : Nat) (hw : 0x6084308 &&& W = 0x6084308) (hs : Keeps
    W a₀ s) :
    Keeps W a₀ (truncateOpen s p) := by
  unfold truncateOpen
  try dsimp only
  with_reducible repeat' first
    | assumption | exact part_sub rfl hw | intro _ | apply keeps_setChan | apply keeps_truncateChan
    | apply keeps_foldl | apply keeps_foldl_first | dsimp only

theorem keeps_frameStart {W : Nat} {a₀ : State} (s : State) (n : Nat) (k : Nat) (p : Nat) (hw : 0x5007edc398 &&& W =
    0x5007edc398) (hs : Keeps W a₀ s) :
    Keeps W a₀ (frameStart s n k p) := by
  unfold frameStart
  try dsimp only
  with_reducible repeat' first
    | assumption | exact part_sub rfl hw | apply keeps_State_bump | apply keeps_State_ev | apply keeps_State_setF
    | apply keeps_acceptFrame | apply keeps_portCode | apply keeps_setChan | apply keeps_truncateChan
    | apply keeps_ite | split

theorem keeps_stampLine {W : Nat} {a₀ : State} (s : State) (n : Nat) (k : Nat) (y : Nat) (hw : 0x8 &&& W = 0x8) (hs :
    Keeps W a₀ s) :
    Keeps W a₀ (stampLine s n k y) := by
  unfold stampLine
  try dsimp only
  with_reducible repeat' first
    | assumption | exact part_sub rfl hw | apply keeps_State_setPair | apply keeps_ite | split

theorem keeps_damagedLine {W : Nat} {a₀ : State} (s : State) (n : Nat) (p : Nat) (f : Int) (hw : 0x4084308 &&& W =
    0x4084308) (hs : Keeps W a₀ s) :
    Keeps W a₀ (damagedLine s n p f) := by
  unfold damagedLine
  try dsimp only
  with_reducible repeat' first
    | assumption | exact part_sub rfl hw | apply keeps_State_ev | apply keeps_addLine

theorem keeps_damagedLines {W : Nat} {a₀ : State} (s : State) (n : Nat) (p : Nat) (f : Int) (x4 : Nat) (hw : 0x4084308
    &&& W = 0x4084308) (hs : Keeps W a₀ s) :
    Keeps W a₀ (damagedLines s n p f x4) := by
  induction x4 generalizing s n p f with
  | zero =>
    unfold damagedLines
    with_reducible assumption
  | succ n ih =>
    unfold damagedLines
    try dsimp only
    with_reducible repeat' first
      | assumption | exact part_sub rfl hw | apply ih | apply keeps_damagedLine | dsimp only | split

theorem keeps_overflowFrame {W : Nat} {a₀ : State} (s : State) (n : Nat) (p : Nat) (f : Int) (hw : 0x4084308 &&& W =
    0x4084308) (hs : Keeps W a₀ s) :
    Keeps W a₀ (overflowFrame s n p f) := by
  unfold overflowFrame
  try dsimp only
  with_reducible repeat' first
    | assumption | exact part_sub rfl hw | apply keeps_State_bump | apply keeps_State_ev | apply keeps_cutFrame
    | apply keeps_portCode

theorem keeps_imageLine {W : Nat} {a₀ : State} (s : State) (n : Nat) (k : Nat) (p : Nat) (x : Frame) (crcOk : Bool)
    (line : Option (List Nat) × Bool) (num : Option Nat) (overflow : Bool) (hw : 0x4084308 &&& W = 0x4084308) (hs :
    Keeps W a₀ s) :
    Keeps W a₀ (imageLine s n k p x crcOk line num overflow) := by
  unfold imageLine
  try dsimp only
  with_reducible repeat' first
    | assumption | exact part_sub rfl hw | apply keeps_State_bump | apply keeps_State_ev | apply keeps_addLine
    | apply keeps_damagedLine | apply keeps_damagedLines | apply keeps_overflowFrame | apply keeps_stampLine
    | apply keeps_updFrame | apply keeps_ite | dsimp only | split

theorem keeps_embLine {W : Nat} {a₀ : State} (s : State) (n : Nat) (p : Nat) (x : Frame) (bytes : List Byte) (crcOk :
    Bool) (hw : 0x4080208 &&& W = 0x4080208) (hs : Keeps W a₀ s) :
    Keeps W a₀ (embLine s n p x bytes crcOk) := by
  unfold embLine
  try dsimp only
  with_reducible repeat' first
    | assumption | exact part_sub rfl hw | apply keeps_State_bump | apply keeps_State_ev | apply keeps_updFrame
    | apply keeps_ite | dsimp only | split

theorem keeps_orphan {W : Nat} {a₀ : State} (s : State) (n : Nat) (hw : 0x80208 &&& W = 0x80208) (hs : Keeps W a₀ s) :
    Keeps W a₀ (orphan s n) := by
  unfold orphan
  try dsimp only
  with_reducible repeat' first
    | assumption | exact part_sub rfl hw | apply keeps_State_bump | apply keeps_State_ev

theorem keeps_frameEnd {W : Nat} {a₀ : State} (s : State) (n : Nat) (k : Nat) (hw : 0x6084308 &&& W = 0x6084308) (hs :
    Keeps W a₀ s) :
    Keeps W a₀ (frameEnd s n k) := by
  unfold frameEnd
  try dsimp only
  with_reducible repeat' first
    | assumption | exact part_sub rfl hw | apply keeps_State_bump | apply keeps_State_setPair | apply keeps_closeChan
    | apply keeps_damagedLines | apply keeps_endFrame | apply keeps_judgeCorrupt | apply keeps_orphan
    | apply keeps_ite | refine keeps_of_pair (by assumption) ?_ | refine keeps_of_pair_first (by assumption) ?_
    | refine keeps_of_triple (by assumption) ?_ | dsimp only | split

theorem keeps_frameTimeout {W : Nat} {a₀ : State} (s : State) (n : Nat) (k : Nat) (hw : 0x6084308 &&& W = 0x6084308)
    (hs : Keeps W a₀ s) :
    Keeps W a₀ (frameTimeout s n k) := by
  unfold frameTimeout
  try dsimp only
  with_reducible repeat' first
    | assumption | exact part_sub rfl hw | apply keeps_State_bump | apply keeps_portCode | apply keeps_setChan
    | apply keeps_truncateChan | apply keeps_ite | dsimp only | split

theorem keeps_sportFields {W : Nat} {a₀ : State} (s : State) (n : Nat) (v : Nat) (hw : 0x8 &&& W = 0x8) (hs : Keeps W
    a₀ s) :
    Keeps W a₀ (sportFields s n v) := by
  unfold sportFields
  try dsimp only
  with_reducible repeat' first
    | assumption | exact part_sub rfl hw | apply keeps_State_setF

theorem keeps_sportOff {W : Nat} {a₀ : State} (s : State) (n : Nat) (hw : 0x88 &&& W = 0x88) (hs : Keeps W a₀ s) :
    Keeps W a₀ (sportOff s n) := by
  unfold sportOff
  try dsimp only
  with_reducible repeat' first
    | assumption | exact part_sub rfl hw | apply keeps_State_setF | apply keeps_illUpdate

theorem keeps_sportReset {W : Nat} {a₀ : State} (s : State) (n : Nat) (hw : 0x6084388 &&& W = 0x6084388) (hs : Keeps W
    a₀ s) :
    Keeps W a₀ (sportReset s n) := by
  unfold sportReset
  try dsimp only
  with_reducible repeat' first
    | assumption | exact part_sub rfl hw | intro _ | apply keeps_State_setF | apply keeps_setPort
    | apply keeps_sportOff | apply keeps_truncateChan | apply keeps_foldl | apply keeps_foldl_first | dsimp only

theorem keeps_sportCtrl {W : Nat} {a₀ : State} (s : State) (n : Nat) (w : Word) (hw : 0x6084388 &&& W = 0x6084388) (hs
    : Keeps W a₀ s) :
    Keeps W a₀ (sportCtrl s n w) := by
  unfold sportCtrl
  try dsimp only
  with_reducible repeat' first
    | assumption | exact part_sub rfl hw | apply keeps_State_ev | apply keeps_State_setF | apply keeps_illUpdate
    | apply keeps_sportFields | apply keeps_sportOff | apply keeps_sportReset | apply keeps_ite | split

theorem keeps_sportPhyWrite {W : Nat} {a₀ : State} (s : State) (n : Nat) (off : Nat) (v : Word) (hw : 0x80208 &&& W =
    0x80208) (hs : Keeps W a₀ s) :
    Keeps W a₀ (sportPhyWrite s n off v) := by
  unfold sportPhyWrite
  try dsimp only
  with_reducible repeat' first
    | assumption | exact part_sub rfl hw | apply keeps_State_ev | apply keeps_plainWrite | apply keeps_ite
    | dsimp only | split

theorem keeps_settleAll {W : Nat} {a₀ : State} (s : State) (hw : 0xf0408030c &&& W = 0xf0408030c) (hs : Keeps W a₀ s) :
    Keeps W a₀ (settleAll s) := by
  unfold settleAll
  try dsimp only
  with_reducible repeat' first
    | assumption | exact part_sub rfl hw | intro _ | apply keeps_settlePipe | apply keeps_foldl
    | apply keeps_foldl_first | dsimp only

theorem keeps_execSportEnable {W : Nat} {a₀ : State} (n : Nat) (v : Word) (s : State) (hw : 0xf0608438c &&& W =
    0xf0608438c) (hs : Keeps W a₀ s) :
    KeepsOut W a₀ (execSportEnable n v s) := by
  unfold execSportEnable
  try dsimp only
  with_reducible apply KeepsOut.next
  with_reducible repeat' first
    | assumption | exact part_sub rfl hw | apply keeps_hub | apply keeps_settleAll | apply keeps_sportCtrl

theorem keeps_execSportSoftReset {W : Nat} {a₀ : State} (n : Nat) (v : Word) (s : State) (hw : 0xf0608438c &&& W =
    0xf0608438c) (hs : Keeps W a₀ s) :
    KeepsOut W a₀ (execSportSoftReset n v s) := by
  unfold execSportSoftReset
  try dsimp only
  with_reducible apply KeepsOut.next
  with_reducible repeat' first
    | assumption | exact part_sub rfl hw | apply keeps_hub | apply keeps_settleAll | apply keeps_sportCtrl

theorem keeps_stopExit {W : Nat} {a₀ : State} (s : State) (n : Nat) (clock : Bool) (hw : 0x2000008 &&& W = 0x2000008)
    (hs : Keeps W a₀ s) :
    Keeps W a₀ (stopExit s n clock) := by
  unfold stopExit
  try dsimp only
  with_reducible repeat' first
    | assumption | exact part_sub rfl hw | apply keeps_State_setF | apply keeps_setPort | apply keeps_ite | split

theorem keeps_ulps {W : Nat} {a₀ : State} (s : State) (n : Nat) (hw : 0x8 &&& W = 0x8) (hs : Keeps W a₀ s) :
    Keeps W a₀ (ulps s n) := by
  unfold ulps
  try dsimp only
  with_reducible repeat' first
    | assumption | exact part_sub rfl hw | apply keeps_State_setF | apply keeps_ite | split

theorem keeps_deskew {W : Nat} {a₀ : State} (s : State) (n : Nat) (hw : 0x2000008 &&& W = 0x2000008) (hs : Keeps W a₀
    s) :
    Keeps W a₀ (deskew s n) := by
  unfold deskew
  try dsimp only
  with_reducible repeat' first
    | assumption | exact part_sub rfl hw | apply keeps_State_setF | apply keeps_setPort | apply keeps_ite | split

theorem keeps_stopEntry {W : Nat} {a₀ : State} (s : State) (n : Nat) (clock : Bool) (hw : 0x8 &&& W = 0x8) (hs : Keeps
    W a₀ s) :
    Keeps W a₀ (stopEntry s n clock) := by
  unfold stopEntry
  try dsimp only
  with_reducible repeat' first
    | assumption | exact part_sub rfl hw | apply keeps_State_setF | apply keeps_ite | split

theorem keeps_execStopStateExit {W : Nat} {a₀ : State} (n : Nat) (clock : Bool) (s : State) (hw : 0x2000008 &&& W =
    0x2000008) (hs : Keeps W a₀ s) :
    KeepsOut W a₀ (execStopStateExit n clock s) := by
  unfold execStopStateExit
  try dsimp only
  with_reducible apply KeepsOut.next
  with_reducible repeat' first
    | assumption | exact part_sub rfl hw | apply keeps_hub | apply keeps_stopExit

theorem keeps_execUlpsEntry {W : Nat} {a₀ : State} (n : Nat) (s : State) (hw : 0x8 &&& W = 0x8) (hs : Keeps W a₀ s) :
    KeepsOut W a₀ (execUlpsEntry n s) := by
  unfold execUlpsEntry
  try dsimp only
  with_reducible apply KeepsOut.next
  with_reducible repeat' first
    | assumption | exact part_sub rfl hw | apply keeps_hub | apply keeps_ulps

theorem keeps_execDeskewSequence {W : Nat} {a₀ : State} (n : Nat) (s : State) (hw : 0x2000008 &&& W = 0x2000008) (hs :
    Keeps W a₀ s) :
    KeepsOut W a₀ (execDeskewSequence n s) := by
  unfold execDeskewSequence
  try dsimp only
  with_reducible apply KeepsOut.next
  with_reducible repeat' first
    | assumption | exact part_sub rfl hw | apply keeps_deskew | apply keeps_hub

theorem keeps_execStopStateEntry {W : Nat} {a₀ : State} (n : Nat) (clock : Bool) (s : State) (hw : 0x8 &&& W = 0x8)
    (hs : Keeps W a₀ s) :
    KeepsOut W a₀ (execStopStateEntry n clock s) := by
  unfold execStopStateEntry
  try dsimp only
  with_reducible apply KeepsOut.next
  with_reducible repeat' first
    | assumption | exact part_sub rfl hw | apply keeps_hub | apply keeps_stopEntry

theorem keeps_firstPacket {W : Nat} {a₀ : State} (s : State) (n : Nat) (hw : 0x2080208 &&& W = 0x2080208) (hs : Keeps
    W a₀ s) :
    Keeps W a₀ (firstPacket s n) := by
  unfold firstPacket
  try dsimp only
  with_reducible repeat' first
    | assumption | exact part_sub rfl hw | apply keeps_State_evIf | apply keeps_setPort | apply keeps_ite | split

theorem keeps_headerIn {W : Nat} {a₀ : State} (s : State) (n : Nat) (x2 : Header) (hw : 0x80208 &&& W = 0x80208) (hs :
    Keeps W a₀ s) :
    Keeps W a₀ (headerIn s n x2).2 := by
  unfold headerIn
  try dsimp only
  with_reducible repeat' first
    | assumption | exact part_sub rfl hw | apply keeps_State_bump | apply keeps_State_ev | dsimp only | split

theorem keeps_unmapped {W : Nat} {a₀ : State} (s : State) (n : Nat) (hw : 0x80208 &&& W = 0x80208) (hs : Keeps W a₀ s) :
    Keeps W a₀ (unmapped s n) := by
  unfold unmapped
  try dsimp only
  with_reducible repeat' first
    | assumption | exact part_sub rfl hw | apply keeps_State_bump | apply keeps_State_ev

theorem keeps_packetOn {W : Nat} {a₀ : State} (s : State) (n : Nat) (vc : Nat) (hdr : Header) (f : State → Nat → Nat →
    State) (hw : 0x2080208 &&& W = 0x2080208) (hs : Keeps W a₀ s) (hf : ∀ (y0 : State) (y1 : Nat) (y2 : Nat), Keeps W
    a₀ y0 → Keeps W a₀ (f y0 y1 y2)) :
    Keeps W a₀ (packetOn s n vc hdr f) := by
  unfold packetOn
  try dsimp only
  with_reducible repeat' first
    | assumption | exact part_sub rfl hw | intro _ | apply hf | apply keeps_firstPacket | apply keeps_headerIn
    | apply keeps_unmapped | apply keeps_ite | refine keeps_of_pair (by assumption) ?_
    | refine keeps_of_pair_first (by assumption) ?_ | refine keeps_of_triple (by assumption) ?_ | dsimp only | split

theorem keeps_frameStartPacket {W : Nat} {a₀ : State} (s : State) (n : Nat) (num : Nat) (k : Nat) (p : Nat) (hw :
    0x5007edc398 &&& W = 0x5007edc398) (hs : Keeps W a₀ s) :
    Keeps W a₀ (frameStartPacket s n num k p) := by
  unfold frameStartPacket
  try dsimp only
  with_reducible repeat' first
    | assumption | exact part_sub rfl hw | apply keeps_State_bump | apply keeps_State_ev | apply keeps_frameStart
    | apply keeps_setChan | apply keeps_ite | dsimp only | split

theorem keeps_lineStartPacket {W : Nat} {a₀ : State} (s : State) (n : Nat) (num : Nat) (k : Nat) (hw : 0x2000000 &&& W
    = 0x2000000) (hs : Keeps W a₀ s) :
    Keeps W a₀ (lineStartPacket s n num k) := by
  unfold lineStartPacket
  try dsimp only
  with_reducible repeat' first
    | assumption | exact part_sub rfl hw | apply keeps_setChan

theorem keeps_lineIn {W : Nat} {a₀ : State} (s : State) (n : Nat) (k : Nat) (p : Nat) (x : Frame) (dt : Nat) (bytes :
    List Byte) (crcOk : Bool) (overflow : Bool) (hw : 0x4084308 &&& W = 0x4084308) (hs : Keeps W a₀ s) :
    Keeps W a₀ (lineIn s n k p x dt bytes crcOk overflow) := by
  unfold lineIn
  try dsimp only
  with_reducible repeat' first
    | assumption | exact part_sub rfl hw | apply keeps_embLine | apply keeps_imageLine | apply keeps_ite | split

theorem keeps_longPacket {W : Nat} {a₀ : State} (s : State) (n : Nat) (k : Nat) (dt : Nat) (bytes : List Byte) (crcOk
    : Bool) (overflow : Bool) (hw : 0x4084308 &&& W = 0x4084308) (hs : Keeps W a₀ s) :
    Keeps W a₀ (longPacket s n k dt bytes crcOk overflow) := by
  unfold longPacket
  try dsimp only
  with_reducible repeat' first
    | assumption | exact part_sub rfl hw | apply keeps_State_bump | apply keeps_lineIn | apply keeps_orphan
    | apply keeps_ite | dsimp only | split

theorem keeps_execFrameStartPacket {W : Nat} {a₀ : State} (n : Nat) (vc : Nat) (num : Nat) (hdr : Header) (s : State)
    (hw : 0x5f07edc39c &&& W = 0x5f07edc39c) (hs : Keeps W a₀ s) :
    KeepsOut W a₀ (execFrameStartPacket n vc num hdr s) := by
  unfold execFrameStartPacket
  try dsimp only
  with_reducible apply KeepsOut.next
  with_reducible repeat' first
    | assumption | exact part_sub rfl hw | intro _ | apply keeps_frameStartPacket | apply keeps_hub
    | apply keeps_packetOn | apply keeps_settleAll | refine keeps_of_pair (by assumption) ?_
    | refine keeps_of_pair_first (by assumption) ?_ | refine keeps_of_triple (by assumption) ?_ | dsimp only

theorem keeps_execLineStartPacket {W : Nat} {a₀ : State} (n : Nat) (vc : Nat) (num : Nat) (hdr : Header) (s : State)
    (hw : 0x2080208 &&& W = 0x2080208) (hs : Keeps W a₀ s) :
    KeepsOut W a₀ (execLineStartPacket n vc num hdr s) := by
  unfold execLineStartPacket
  try dsimp only
  with_reducible apply KeepsOut.next
  with_reducible repeat' first
    | assumption | exact part_sub rfl hw | intro _ | apply keeps_hub | apply keeps_lineStartPacket
    | apply keeps_packetOn | refine keeps_of_pair (by assumption) ?_ | refine keeps_of_pair_first (by assumption) ?_
    | refine keeps_of_triple (by assumption) ?_ | dsimp only

theorem keeps_execFrameEndPacket {W : Nat} {a₀ : State} (n : Nat) (vc : Nat) (hdr : Header) (s : State) (hw :
    0xf0608430c &&& W = 0xf0608430c) (hs : Keeps W a₀ s) :
    KeepsOut W a₀ (execFrameEndPacket n vc hdr s) := by
  unfold execFrameEndPacket
  try dsimp only
  with_reducible apply KeepsOut.next
  with_reducible repeat' first
    | assumption | exact part_sub rfl hw | intro _ | apply keeps_frameEnd | apply keeps_hub | apply keeps_packetOn
    | apply keeps_settleAll | refine keeps_of_pair (by assumption) ?_ | refine keeps_of_pair_first (by assumption) ?_
    | refine keeps_of_triple (by assumption) ?_ | dsimp only

theorem keeps_longPacketIn {W : Nat} {a₀ : State} (s : State) (n : Nat) (vc : Nat) (dt : Nat) (bytes : List Byte) (hdr
    : Header) (crcOk : Bool) (overflow : Bool) (hw : 0x6084308 &&& W = 0x6084308) (hs : Keeps W a₀ s) :
    Keeps W a₀ (longPacketIn s n vc dt bytes hdr crcOk overflow) := by
  unfold longPacketIn
  try dsimp only
  with_reducible repeat' first
    | assumption | exact part_sub rfl hw | intro _ | apply keeps_firstPacket | apply keeps_headerIn
    | apply keeps_longPacket | apply keeps_packetOn | apply keeps_ite | refine keeps_of_pair (by assumption) ?_
    | refine keeps_of_pair_first (by assumption) ?_ | refine keeps_of_triple (by assumption) ?_ | dsimp only | split

theorem keeps_execLongPacket {W : Nat} {a₀ : State} (n : Nat) (vc : Nat) (dt : Nat) (bytes : List Byte) (hdr : Header)
    (crcOk : Bool) (overflow : Bool) (s : State) (hw : 0xf0608430c &&& W = 0xf0608430c) (hs : Keeps W a₀ s) :
    KeepsOut W a₀ (execLongPacket n vc dt bytes hdr crcOk overflow s) := by
  unfold execLongPacket
  try dsimp only
  with_reducible apply KeepsOut.next
  with_reducible repeat' first
    | assumption | exact part_sub rfl hw | apply keeps_hub | apply keeps_longPacketIn | apply keeps_settleAll

theorem keeps_genericShort {W : Nat} {a₀ : State} (s : State) (n : Nat) (hdr : Header) (hw : 0x2080208 &&& W =
    0x2080208) (hs : Keeps W a₀ s) :
    Keeps W a₀ (genericShort s n hdr) := by
  unfold genericShort
  try dsimp only
  with_reducible repeat' first
    | assumption | exact part_sub rfl hw | apply keeps_State_bump | apply keeps_firstPacket | apply keeps_headerIn
    | apply keeps_ite | refine keeps_of_pair (by assumption) ?_ | refine keeps_of_pair_first (by assumption) ?_
    | refine keeps_of_triple (by assumption) ?_ | dsimp only | split

theorem keeps_execGenericShortPacket {W : Nat} {a₀ : State} (n : Nat) (hdr : Header) (s : State) (hw : 0x2080208 &&& W
    = 0x2080208) (hs : Keeps W a₀ s) :
    KeepsOut W a₀ (execGenericShortPacket n hdr s) := by
  unfold execGenericShortPacket
  try dsimp only
  with_reducible apply KeepsOut.next
  with_reducible repeat' first
    | assumption | exact part_sub rfl hw | apply keeps_genericShort | apply keeps_hub

theorem keeps_phyLost {W : Nat} {a₀ : State} (s : State) (n : Nat) (clock : Bool) (hw : 0x2080208 &&& W = 0x2080208)
    (hs : Keeps W a₀ s) :
    Keeps W a₀ (phyLost s n clock) := by
  unfold phyLost
  try dsimp only
  with_reducible repeat' first
    | assumption | exact part_sub rfl hw | apply keeps_State_bump | apply keeps_State_ev | apply keeps_State_setF
    | apply keeps_firstPacket | apply keeps_ite | split

theorem keeps_execPhyLinkLost {W : Nat} {a₀ : State} (n : Nat) (clock : Bool) (s : State) (hw : 0x2080208 &&& W =
    0x2080208) (hs : Keeps W a₀ s) :
    KeepsOut W a₀ (execPhyLinkLost n clock s) := by
  unfold execPhyLinkLost
  try dsimp only
  with_reducible apply KeepsOut.next
  with_reducible repeat' first
    | assumption | exact part_sub rfl hw | apply keeps_hub | apply keeps_phyLost

theorem keeps_execFrameTimeout {W : Nat} {a₀ : State} (n : Nat) (k : Nat) (s : State) (hw : 0xf0608430c &&& W =
    0xf0608430c) (hs : Keeps W a₀ s) :
    KeepsOut W a₀ (execFrameTimeout n k s) := by
  unfold execFrameTimeout
  try dsimp only
  with_reducible apply KeepsOut.next
  with_reducible repeat' first
    | assumption | exact part_sub rfl hw | apply keeps_frameTimeout | apply keeps_hub | apply keeps_settleAll

theorem keeps_lportClock {W : Nat} {a₀ : State} (s : State) (m : Nat) (hw : 0x2000000 &&& W = 0x2000000) (hs : Keeps W
    a₀ s) :
    Keeps W a₀ (lportClock s m) := by
  unfold lportClock
  try dsimp only
  with_reducible repeat' first
    | assumption | exact part_sub rfl hw | apply keeps_setPort

theorem keeps_lportStart {W : Nat} {a₀ : State} (s : State) (m : Nat) (hw : 0x5007edc398 &&& W = 0x5007edc398) (hs :
    Keeps W a₀ s) :
    Keeps W a₀ (lportStart s m) := by
  unfold lportStart
  try dsimp only
  with_reducible repeat' first
    | assumption | exact part_sub rfl hw | apply keeps_frameStart | apply keeps_lportClock | apply keeps_setChan
    | apply keeps_setPort | apply keeps_ite | split

theorem keeps_lportLineIn {W : Nat} {a₀ : State} (s : State) (m : Nat) (p : Nat) (x : Frame) (words : List Nat)
    (overflow : Bool) (hw : 0x6084308 &&& W = 0x6084308) (hs : Keeps W a₀ s) :
    Keeps W a₀ (lportLineIn s m p x words overflow) := by
  unfold lportLineIn
  try dsimp only
  with_reducible repeat' first
    | assumption | exact part_sub rfl hw | apply keeps_embLine | apply keeps_imageLine | apply keeps_setPort
    | apply keeps_ite | split

theorem keeps_lportLine {W : Nat} {a₀ : State} (s : State) (m : Nat) (words : List Nat) (overflow : Bool) (hw :
    0x6084308 &&& W = 0x6084308) (hs : Keeps W a₀ s) :
    Keeps W a₀ (lportLine s m words overflow) := by
  unfold lportLine
  try dsimp only
  with_reducible repeat' first
    | assumption | exact part_sub rfl hw | apply keeps_lportClock | apply keeps_lportLineIn | apply keeps_orphan
    | apply keeps_ite | dsimp only | split

theorem keeps_lportEnd {W : Nat} {a₀ : State} (s : State) (m : Nat) (hw : 0x6084308 &&& W = 0x6084308) (hs : Keeps W
    a₀ s) :
    Keeps W a₀ (lportEnd s m) := by
  unfold lportEnd
  try dsimp only
  with_reducible repeat' first
    | assumption | exact part_sub rfl hw | apply keeps_frameEnd | apply keeps_lportClock | apply keeps_ite | split

theorem keeps_execLportVsyncActive {W : Nat} {a₀ : State} (m : Nat) (s : State) (hw : 0x5f07edc39c &&& W =
    0x5f07edc39c) (hs : Keeps W a₀ s) :
    KeepsOut W a₀ (execLportVsyncActive m s) := by
  unfold execLportVsyncActive
  try dsimp only
  with_reducible apply KeepsOut.next
  with_reducible repeat' first
    | assumption | exact part_sub rfl hw | apply keeps_hub | apply keeps_lportStart | apply keeps_settleAll

theorem keeps_execLportLine {W : Nat} {a₀ : State} (m : Nat) (words : List Nat) (overflow : Bool) (s : State) (hw :
    0xf0608430c &&& W = 0xf0608430c) (hs : Keeps W a₀ s) :
    KeepsOut W a₀ (execLportLine m words overflow s) := by
  unfold execLportLine
  try dsimp only
  with_reducible apply KeepsOut.next
  with_reducible repeat' first
    | assumption | exact part_sub rfl hw | apply keeps_hub | apply keeps_lportLine | apply keeps_settleAll

theorem keeps_execLportVsyncInactive {W : Nat} {a₀ : State} (m : Nat) (s : State) (hw : 0xf0608430c &&& W =
    0xf0608430c) (hs : Keeps W a₀ s) :
    KeepsOut W a₀ (execLportVsyncInactive m s) := by
  unfold execLportVsyncInactive
  try dsimp only
  with_reducible apply KeepsOut.next
  with_reducible repeat' first
    | assumption | exact part_sub rfl hw | apply keeps_hub | apply keeps_lportEnd | apply keeps_settleAll

theorem keeps_mclkWrite {W : Nat} {a₀ : State} (s : State) (n : Nat) (v : Word) (hw : 0x80208 &&& W = 0x80208) (hs :
    Keeps W a₀ s) :
    Keeps W a₀ (mclkWrite s n v) := by
  unfold mclkWrite
  try dsimp only
  with_reducible repeat' first
    | assumption | exact part_sub rfl hw | apply keeps_State_ev | apply keeps_plainWrite | apply keeps_ite | split

theorem keeps_xrstPulse {W : Nat} {a₀ : State} (s : State) (n : Nat) (hw : 0x8 &&& W = 0x8) (hs : Keeps W a₀ s) :
    Keeps W a₀ (xrstPulse s n) := by
  unfold xrstPulse
  try dsimp only
  with_reducible repeat' first
    | assumption | exact part_sub rfl hw | apply keeps_State_setF

theorem keeps_xrstWrite {W : Nat} {a₀ : State} (s : State) (n : Nat) (v : Word) (hw : 0x80208 &&& W = 0x80208) (hs :
    Keeps W a₀ s) :
    Keeps W a₀ (xrstWrite s n v) := by
  unfold xrstWrite
  try dsimp only
  with_reducible repeat' first
    | assumption | exact part_sub rfl hw | apply keeps_State_ev | apply keeps_plainWrite | apply keeps_xrstPulse
    | apply keeps_ite | split

theorem keeps_xrstEnd {W : Nat} {a₀ : State} (s : State) (n : Nat) (hw : 0x8 &&& W = 0x8) (hs : Keeps W a₀ s) :
    Keeps W a₀ (xrstEnd s n) := by
  unfold xrstEnd
  try dsimp only
  with_reducible repeat' first
    | assumption | exact part_sub rfl hw | apply keeps_State_setF

theorem keeps_execMclkWrite {W : Nat} {a₀ : State} (n : Nat) (v : Word) (s : State) (hw : 0x80208 &&& W = 0x80208) (hs
    : Keeps W a₀ s) :
    KeepsOut W a₀ (execMclkWrite n v s) := by
  unfold execMclkWrite
  try dsimp only
  with_reducible apply KeepsOut.next
  with_reducible repeat' first
    | assumption | exact part_sub rfl hw | apply keeps_hub | apply keeps_mclkWrite

theorem keeps_execXrstPulse {W : Nat} {a₀ : State} (n : Nat) (v : Word) (s : State) (hw : 0x80208 &&& W = 0x80208) (hs
    : Keeps W a₀ s) :
    KeepsOut W a₀ (execXrstPulse n v s) := by
  unfold execXrstPulse
  try dsimp only
  with_reducible apply KeepsOut.next
  with_reducible repeat' first
    | assumption | exact part_sub rfl hw | apply keeps_hub | apply keeps_xrstWrite

theorem keeps_execXrstPulseEnd {W : Nat} {a₀ : State} (n : Nat) (s : State) (hw : 0x8 &&& W = 0x8) (hs : Keeps W a₀ s) :
    KeepsOut W a₀ (execXrstPulseEnd n s) := by
  unfold execXrstPulseEnd
  try dsimp only
  with_reducible apply KeepsOut.next
  with_reducible repeat' first
    | assumption | exact part_sub rfl hw | apply keeps_hub | apply keeps_xrstEnd

theorem keeps_starve {W : Nat} {a₀ : State} (s : State) (st : Nat) (hw : 0x80308 &&& W = 0x80308) (hs : Keeps W a₀ s) :
    Keeps W a₀ (starve s st) := by
  unfold starve
  try dsimp only
  with_reducible repeat' first
    | assumption | exact part_sub rfl hw | apply keeps_State_bump | apply keeps_State_ev | apply keeps_State_report

theorem keeps_dropPkt {W : Nat} {a₀ : State} (s : State) (st : Nat) (hw : 0x400000000 &&& W = 0x400000000) (hs : Keeps
    W a₀ s) :
    Keeps W a₀ (dropPkt s st) := by
  unfold dropPkt
  try dsimp only
  with_reducible repeat' first
    | assumption | exact part_sub rfl hw | exact id | intro _ | apply Keeps.set_prod

theorem keeps_setPkt {W : Nat} {a₀ : State} (s : State) (st : Nat) (k : Pkt) (hw : 0x400000000 &&& W = 0x400000000)
    (hs : Keeps W a₀ s) :
    Keeps W a₀ (setPkt s st k) := by
  unfold setPkt
  try dsimp only
  with_reducible repeat' first
    | assumption | exact part_sub rfl hw | exact id | intro _ | apply Keeps.set_prod

theorem keeps_beginPkt {W : Nat} {a₀ : State} (s : State) (st : Nat) (k : Pkt) (hw : 0x804080308 &&& W = 0x804080308)
    (hs : Keeps W a₀ s) :
    Keeps W a₀ (beginPkt s st k).2 := by
  unfold beginPkt
  try dsimp only
  with_reducible repeat' first
    | assumption | exact part_sub rfl hw | apply keeps_starve | apply keeps_updOut | apply keeps_ite | dsimp only
    | split

theorem keeps_tailPkt {W : Nat} {a₀ : State} (s : State) (st : Nat) (k : Pkt) (hw : 0x804000000 &&& W = 0x804000000)
    (hs : Keeps W a₀ s) :
    Keeps W a₀ (tailPkt s st k).2 := by
  unfold tailPkt
  try dsimp only
  with_reducible repeat' first
    | assumption | exact part_sub rfl hw | apply keeps_updOut | apply keeps_ite | dsimp only | split

theorem keeps_putWord {W : Nat} {a₀ : State} (s : State) (st : Nat) (k : Pkt) (hw : 0x2c0408030c &&& W = 0x2c0408030c)
    (hs : Keeps W a₀ s) :
    Keeps W a₀ (putWord s st k) := by
  unfold putWord
  try dsimp only
  with_reducible repeat' first
    | assumption | exact part_sub rfl hw | apply keeps_dropPkt | apply keeps_setPkt | apply keeps_tailPkt
    | apply keeps_writeWordL | apply keeps_ite | refine keeps_of_pair (by assumption) ?_
    | refine keeps_of_pair_first (by assumption) ?_ | refine keeps_of_triple (by assumption) ?_ | dsimp only | split

theorem keeps_producerWord {W : Nat} {a₀ : State} (s : State) (st : Nat) (hw : 0x2c0408030c &&& W = 0x2c0408030c) (hs
    : Keeps W a₀ s) :
    Keeps W a₀ (producerWord s st) := by
  unfold producerWord
  try dsimp only
  with_reducible repeat' first
    | assumption | exact part_sub rfl hw | apply keeps_beginPkt | apply keeps_dropPkt | apply keeps_putWord
    | apply keeps_ite | refine keeps_of_pair (by assumption) ?_ | refine keeps_of_pair_first (by assumption) ?_
    | refine keeps_of_triple (by assumption) ?_ | dsimp only | split

theorem keeps_execLarderWordWrite {W : Nat} {a₀ : State} (stream : Nat) (s : State) (hw : 0x2c0408030c &&& W =
    0x2c0408030c) (hs : Keeps W a₀ s) :
    KeepsOut W a₀ (execLarderWordWrite stream s) := by
  unfold execLarderWordWrite
  try dsimp only
  with_reducible apply KeepsOut.next
  with_reducible repeat' first
    | assumption | exact part_sub rfl hw | apply keeps_hub | apply keeps_producerWord

theorem keeps_writeGlb {W : Nat} {a₀ : State} (s : State) (off : Nat) (v : Word) (hw : 0x80248 &&& W = 0x80248) (hs :
    Keeps W a₀ s) :
    Keeps W a₀ (writeGlb s off v) := by
  unfold writeGlb
  try dsimp only
  with_reducible repeat' first
    | assumption | exact part_sub rfl hw | apply keeps_devReset | apply keeps_plainWrite | apply keeps_ite | split

theorem keeps_cqHead {W : Nat} {a₀ : State} (s : State) (j : Nat) (v : Nat) (hw : 0x680208 &&& W = 0x680208) (hs :
    Keeps W a₀ s) :
    Keeps W a₀ (cqHead s j v) := by
  unfold cqHead
  try dsimp only
  with_reducible repeat' first
    | assumption | exact part_sub rfl hw | apply keeps_State_ev | apply keeps_cqFlush | apply keeps_setCq
    | apply keeps_ite | split

theorem keeps_crTail {W : Nat} {a₀ : State} (s : State) (i : Nat) (v : Nat) (hw : 0x280208 &&& W = 0x280208) (hs :
    Keeps W a₀ s) :
    Keeps W a₀ (crTail s i v) := by
  unfold crTail
  try dsimp only
  with_reducible repeat' first
    | assumption | exact part_sub rfl hw | exact id | intro _ | apply keeps_State_ev | apply keeps_ite | split
    | apply Keeps.set_ring

theorem keeps_doorbell {W : Nat} {a₀ : State} (s : State) (f : State → State) (hw : 0x80208 &&& W = 0x80208) (hs :
    Keeps W a₀ s) (hf : ∀ (y0 : State), Keeps W a₀ y0 → Keeps W a₀ (f y0)) :
    Keeps W a₀ (doorbell s f) := by
  unfold doorbell
  try dsimp only
  with_reducible repeat' first
    | assumption | exact part_sub rfl hw | intro _ | apply hf | apply keeps_State_ev | apply keeps_ite
    | refine keeps_of_pair (by assumption) ?_ | refine keeps_of_pair_first (by assumption) ?_
    | refine keeps_of_triple (by assumption) ?_ | dsimp only | split

theorem keeps_shadowRead {W : Nat} {a₀ : State} (s : State) (hw : 0x200000 &&& W = 0x200000) (hs : Keeps W a₀ s) :
    Keeps W a₀ (shadowRead s) := by
  unfold shadowRead
  try dsimp only
  with_reducible repeat' first
    | assumption | exact part_sub rfl hw | exact id | intro _ | apply keeps_ite | split | apply Keeps.set_ring

theorem keeps_srTail {W : Nat} {a₀ : State} (s : State) (k : Nat) (v : Nat) (hw : 0x280208 &&& W = 0x280208) (hs :
    Keeps W a₀ s) :
    Keeps W a₀ (srTail s k v) := by
  unfold srTail
  try dsimp only
  with_reducible repeat' first
    | assumption | exact part_sub rfl hw | exact id | intro _ | apply keeps_State_ev | apply keeps_ite | split
    | apply Keeps.set_ring

theorem keeps_writeDbell {W : Nat} {a₀ : State} (s : State) (off : Nat) (v : Word) (hw : 0x680208 &&& W = 0x680208)
    (hs : Keeps W a₀ s) :
    Keeps W a₀ (writeDbell s off v) := by
  unfold writeDbell
  try dsimp only
  with_reducible repeat' first
    | assumption | exact part_sub rfl hw | intro _ | apply keeps_cqHead | apply keeps_crTail | apply keeps_doorbell
    | apply keeps_shadowRead | apply keeps_srTail | apply keeps_ite | refine keeps_of_pair (by assumption) ?_
    | refine keeps_of_pair_first (by assumption) ?_ | refine keeps_of_triple (by assumption) ?_ | dsimp only | split

theorem keeps_intRoute {W : Nat} {a₀ : State} (s : State) (src : Nat) (v : Word) (hw : 0x280208 &&& W = 0x280208) (hs
    : Keeps W a₀ s) :
    Keeps W a₀ (intRoute s src v) := by
  unfold intRoute
  try dsimp only
  with_reducible repeat' first
    | assumption | exact part_sub rfl hw | apply keeps_State_setF | apply keeps_cqSignal | apply keeps_sendMsg
    | apply keeps_ite | split

theorem keeps_cqCfg {W : Nat} {a₀ : State} (s : State) (j : Nat) (v : Word) (hw : 0x280208 &&& W = 0x280208) (hs :
    Keeps W a₀ s) :
    Keeps W a₀ (cqCfg s j v) := by
  unfold cqCfg
  try dsimp only
  with_reducible repeat' first
    | assumption | exact part_sub rfl hw | apply keeps_State_ev | apply keeps_State_setF | apply keeps_State_setRn
    | apply keeps_irqEval | apply keeps_setCq | apply keeps_ite | split

theorem keeps_crCfg {W : Nat} {a₀ : State} (s : State) (i : Nat) (v : Word) (hw : 0x280208 &&& W = 0x280208) (hs :
    Keeps W a₀ s) :
    Keeps W a₀ (crCfg s i v) := by
  unfold crCfg
  try dsimp only
  with_reducible repeat' first
    | assumption | exact part_sub rfl hw | exact id | intro _ | apply keeps_State_ev | apply keeps_State_setF
    | apply keeps_State_setRn | apply keeps_ite | split | apply Keeps.set_ring

theorem keeps_unbind {W : Nat} {a₀ : State} (s : State) (k : Nat) (hw : 0x200008 &&& W = 0x200008) (hs : Keeps W a₀ s) :
    Keeps W a₀ (unbind s k) := by
  unfold unbind
  try dsimp only
  with_reducible repeat' first
    | assumption | exact part_sub rfl hw | exact id | intro _ | apply keeps_State_setRn | apply keeps_ite | split
    | apply Keeps.set_ring

theorem keeps_srCfg {W : Nat} {a₀ : State} (s : State) (k : Nat) (v : Word) (hw : 0x280208 &&& W = 0x280208) (hs :
    Keeps W a₀ s) :
    Keeps W a₀ (srCfg s k v) := by
  unfold srCfg
  try dsimp only
  with_reducible repeat' first
    | assumption | exact part_sub rfl hw | exact id | intro _ | apply keeps_State_ev | apply keeps_State_setF
    | apply keeps_State_setRn | apply keeps_unbind | apply keeps_ite | split | apply Keeps.set_ring

theorem keeps_ringEnable {W : Nat} {a₀ : State} (s : State) (n : Nat) (v : Word) (hw : 0x280208 &&& W = 0x280208) (hs
    : Keeps W a₀ s) :
    Keeps W a₀ (ringEnable s n v) := by
  unfold ringEnable
  try dsimp only
  with_reducible repeat' first
    | assumption | exact part_sub rfl hw | apply keeps_cqCfg | apply keeps_crCfg | apply keeps_srCfg
    | apply keeps_ite | split

theorem keeps_writeRing {W : Nat} {a₀ : State} (s : State) (off : Nat) (v : Word) (hw : 0x280208 &&& W = 0x280208) (hs
    : Keeps W a₀ s) :
    Keeps W a₀ (writeRing s off v) := by
  unfold writeRing
  try dsimp only
  with_reducible repeat' first
    | assumption | exact part_sub rfl hw | apply keeps_State_ev | apply keeps_intRoute | apply keeps_plainWrite
    | apply keeps_ringEnable | apply keeps_ite | split

theorem keeps_msixUnmask {W : Nat} {a₀ : State} (s : State) (v : Nat) (hw : 0x80208 &&& W = 0x80208) (hs : Keeps W a₀
    s) :
    Keeps W a₀ (msixUnmask s v) := by
  unfold msixUnmask
  try dsimp only
  with_reducible repeat' first
    | assumption | exact part_sub rfl hw | apply keeps_State_setF | apply keeps_sendVector | apply keeps_ite | split

theorem keeps_writePcie {W : Nat} {a₀ : State} (s : State) (off : Nat) (v : Word) (hw : 0x80208 &&& W = 0x80208) (hs :
    Keeps W a₀ s) :
    Keeps W a₀ (writePcie s off v) := by
  unfold writePcie
  try dsimp only
  with_reducible repeat' first
    | assumption | exact part_sub rfl hw | apply keeps_State_setF | apply keeps_msixUnmask | apply keeps_plainWrite
    | apply keeps_ite | split

theorem keeps_writeSafe {W : Nat} {a₀ : State} (s : State) (off : Nat) (v : Word) (hw : 0x80308 &&& W = 0x80308) (hs :
    Keeps W a₀ s) :
    Keeps W a₀ (writeSafe s off v) := by
  unfold writeSafe
  try dsimp only
  with_reducible repeat' first
    | assumption | exact part_sub rfl hw | apply keeps_logIndex | apply keeps_plainWrite | apply keeps_release
    | apply keeps_viewsWrite | apply keeps_ite | split

theorem keeps_writeMadc {W : Nat} {a₀ : State} (s : State) (off : Nat) (v : Word) (hw : 0x100000080388 &&& W =
    0x100000080388) (hs : Keeps W a₀ s) :
    Keeps W a₀ (writeMadc s off v) := by
  unfold writeMadc
  try dsimp only
  with_reducible repeat' first
    | assumption | exact part_sub rfl hw | apply keeps_ilsClear | apply keeps_madcCtrl | apply keeps_plainWrite
    | apply keeps_ite | split

theorem keeps_setTally {W : Nat} {a₀ : State} (s : State) (u : Nat) (v : Nat) (hw : 0x8 &&& W = 0x8) (hs : Keeps W a₀
    s) :
    Keeps W a₀ (setTally s u v) := by
  unfold setTally
  try dsimp only
  with_reducible repeat' first
    | assumption | exact part_sub rfl hw | apply keeps_State_setRn

theorem keeps_tallyCtrl {W : Nat} {a₀ : State} (s : State) (u : Nat) (v : Word) (hw : 0x80000080208 &&& W =
    0x80000080208) (hs : Keeps W a₀ s) :
    Keeps W a₀ (tallyCtrl s u v) := by
  unfold tallyCtrl
  try dsimp only
  with_reducible repeat' first
    | assumption | exact part_sub rfl hw | exact id | exact ksorted_kputD | intro _ | apply keeps_State_ev
    | apply keeps_State_setF | apply keeps_State_setPair | apply keeps_setTally | apply keeps_ite | split
    | apply Keeps.set_tally

theorem keeps_tallyData {W : Nat} {a₀ : State} (s : State) (u : Nat) (bs : List Byte) (hw : 0x8 &&& W = 0x8) (hs :
    Keeps W a₀ s) :
    Keeps W a₀ (tallyData s u bs) := by
  unfold tallyData
  try dsimp only
  with_reducible repeat' first
    | assumption | exact part_sub rfl hw | intro _ | apply keeps_State_setPair | apply keeps_setTally
    | apply keeps_foldl | apply keeps_foldl_first | dsimp only

theorem keeps_writeTally {W : Nat} {a₀ : State} (s : State) (off : Nat) (v : Word) (hw : 0x80000080208 &&& W =
    0x80000080208) (hs : Keeps W a₀ s) :
    Keeps W a₀ (writeTally s off v) := by
  unfold writeTally
  try dsimp only
  with_reducible repeat' first
    | assumption | exact part_sub rfl hw | apply keeps_plainWrite | apply keeps_setTally | apply keeps_tallyCtrl
    | apply keeps_tallyData | apply keeps_ite | split

theorem keeps_writeAttic {W : Nat} {a₀ : State} (s : State) (off : Nat) (v : Word) (hw : 0x400000080308 &&& W =
    0x400000080308) (hs : Keeps W a₀ s) :
    Keeps W a₀ (writeAttic s off v) := by
  unfold writeAttic
  try dsimp only
  with_reducible repeat' first
    | assumption | exact part_sub rfl hw | apply keeps_State_ev | apply keeps_plainWrite | apply keeps_readAddr
    | apply keeps_updCtrl | apply keeps_ite | split

theorem keeps_writePwr {W : Nat} {a₀ : State} (s : State) (off : Nat) (v : Word) (hw : 0x41000008034c &&& W =
    0x41000008034c) (hs : Keeps W a₀ s) :
    Keeps W a₀ (writePwr s off v) := by
  unfold writePwr
  try dsimp only
  with_reducible repeat' first
    | assumption | exact part_sub rfl hw | apply keeps_domRequest | apply keeps_plainWrite | apply keeps_standbyWrite
    | apply keeps_ite | split

theorem keeps_dialSet {W : Nat} {a₀ : State} (s : State) (v : Word) (hw : 0x80b88 &&& W = 0x80b88) (hs : Keeps W a₀ s) :
    Keeps W a₀ (dialSet s v) := by
  unfold dialSet
  try dsimp only
  with_reducible repeat' first
    | assumption | exact part_sub rfl hw | apply keeps_State_ev | apply keeps_State_setF | apply keeps_gmacDiscard
    | apply keeps_stepDial | apply keeps_ite | split

theorem keeps_dialSource {W : Nat} {a₀ : State} (s : State) (v : Word) (hw : 0x88 &&& W = 0x88) (hs : Keeps W a₀ s) :
    Keeps W a₀ (dialSource s v) := by
  unfold dialSource
  try dsimp only
  with_reducible repeat' first
    | assumption | exact part_sub rfl hw | exact id | intro _ | apply keeps_State_setF | apply keeps_ite | split
    | apply Keeps.set_regu

theorem keeps_schedStart {W : Nat} {a₀ : State} (s : State) (p : Nat) (t0 : Nat) (hw : 0x80288 &&& W = 0x80288) (hs :
    Keeps W a₀ s) :
    Keeps W a₀ (schedStart s p t0) := by
  unfold schedStart
  try dsimp only
  with_reducible repeat' first
    | assumption | exact part_sub rfl hw | apply keeps_State_ev | apply keeps_State_setF | apply keeps_setSched
    | apply keeps_ite | split

theorem keeps_groupStart {W : Nat} {a₀ : State} (s : State) (hw : 0x80288 &&& W = 0x80288) (hs : Keeps W a₀ s) :
    Keeps W a₀ (groupStart s) := by
  unfold groupStart
  try dsimp only
  with_reducible repeat' first
    | assumption | exact part_sub rfl hw | intro _ | apply keeps_schedStart | apply keeps_setSched | apply keeps_ite
    | apply keeps_foldl | apply keeps_foldl_first | dsimp only | split

theorem keeps_schedStop {W : Nat} {a₀ : State} (s : State) (p : Nat) (hw : 0x88 &&& W = 0x88) (hs : Keeps W a₀ s) :
    Keeps W a₀ (schedStop s p) := by
  unfold schedStop
  try dsimp only
  with_reducible repeat' first
    | assumption | exact part_sub rfl hw | exact id | intro _ | apply keeps_State_setF | apply keeps_illUpdate
    | apply Keeps.set_regu

theorem keeps_groupStop {W : Nat} {a₀ : State} (s : State) (hw : 0x88 &&& W = 0x88) (hs : Keeps W a₀ s) :
    Keeps W a₀ (groupStop s) := by
  unfold groupStop
  try dsimp only
  with_reducible repeat' first
    | assumption | exact part_sub rfl hw | intro _ | apply keeps_schedStop | apply keeps_ite | apply keeps_foldl
    | apply keeps_foldl_first | dsimp only | split

theorem keeps_rateTrimWrite {W : Nat} {a₀ : State} (s : State) (v : Word) (hw : 0x80208 &&& W = 0x80208) (hs : Keeps W
    a₀ s) :
    Keeps W a₀ (rateTrimWrite s v) := by
  unfold rateTrimWrite
  try dsimp only
  with_reducible repeat' first
    | assumption | exact part_sub rfl hw | apply keeps_State_ev | apply keeps_State_setReg | apply keeps_ite | split

theorem keeps_schedApply {W : Nat} {a₀ : State} (s : State) (p : Nat) (hw : 0x80208 &&& W = 0x80208) (hs : Keeps W a₀
    s) :
    Keeps W a₀ (schedApply s p) := by
  unfold schedApply
  try dsimp only
  with_reducible repeat' first
    | assumption | exact part_sub rfl hw | apply keeps_State_ev | apply keeps_State_setF | apply keeps_ite | split

theorem keeps_schedFields {W : Nat} {a₀ : State} (s : State) (p : Nat) (v : Word) (hw : 0x8 &&& W = 0x8) (hs : Keeps W
    a₀ s) :
    Keeps W a₀ (schedFields s p v) := by
  unfold schedFields
  try dsimp only
  with_reducible repeat' first
    | assumption | exact part_sub rfl hw | apply keeps_State_setF

theorem keeps_schedCtrl {W : Nat} {a₀ : State} (s : State) (p : Nat) (v : Word) (hw : 0x80288 &&& W = 0x80288) (hs :
    Keeps W a₀ s) :
    Keeps W a₀ (schedCtrl s p v) := by
  unfold schedCtrl
  try dsimp only
  with_reducible repeat' first
    | assumption | exact part_sub rfl hw | apply keeps_schedApply | apply keeps_schedFields | apply keeps_schedStart
    | apply keeps_schedStop | apply keeps_ite | split

theorem keeps_syncAcquire {W : Nat} {a₀ : State} (s : State) (m : Nat) (hw : 0x88 &&& W = 0x88) (hs : Keeps W a₀ s) :
    Keeps W a₀ (syncAcquire s m) := by
  unfold syncAcquire
  try dsimp only
  with_reducible repeat' first
    | assumption | exact part_sub rfl hw | exact id | intro _ | apply keeps_State_setF | apply Keeps.set_regu

theorem keeps_syncCfg {W : Nat} {a₀ : State} (s : State) (m : Nat) (v : Word) (hw : 0x80288 &&& W = 0x80288) (hs :
    Keeps W a₀ s) :
    Keeps W a₀ (syncCfg s m v) := by
  unfold syncCfg
  try dsimp only
  with_reducible repeat' first
    | assumption | exact part_sub rfl hw | apply keeps_State_ev | apply keeps_State_setF | apply keeps_syncAcquire
    | apply keeps_ite | split

theorem keeps_writeRegu {W : Nat} {a₀ : State} (s : State) (off : Nat) (v : Word) (hw : 0x80b88 &&& W = 0x80b88) (hs :
    Keeps W a₀ s) :
    Keeps W a₀ (writeRegu s off v) := by
  unfold writeRegu
  try dsimp only
  with_reducible repeat' first
    | assumption | exact part_sub rfl hw | apply keeps_dialSet | apply keeps_dialSource | apply keeps_groupStart
    | apply keeps_groupStop | apply keeps_plainWrite | apply keeps_rateTrimWrite | apply keeps_schedCtrl
    | apply keeps_syncCfg | apply keeps_ite | split

theorem keeps_writeSport {W : Nat} {a₀ : State} (s : State) (off : Nat) (v : Word) (hw : 0xf060843ac &&& W =
    0xf060843ac) (hs : Keeps W a₀ s) :
    Keeps W a₀ (writeSport s off v) := by
  unfold writeSport
  try dsimp only
  with_reducible repeat' first
    | assumption | exact part_sub rfl hw | apply keeps_illUpdate | apply keeps_mclkWrite | apply keeps_plainWrite
    | apply keeps_settleAll | apply keeps_shadowWrite | apply keeps_sportCtrl | apply keeps_sportPhyWrite
    | apply keeps_xrstWrite | apply keeps_ite | split

theorem keeps_sccRest {W : Nat} {a₀ : State} (s : State) (n : Nat) (hw : 0x8 &&& W = 0x8) (hs : Keeps W a₀ s) :
    Keeps W a₀ (sccRest s n) := by
  unfold sccRest
  try dsimp only
  with_reducible repeat' first
    | assumption | exact part_sub rfl hw | apply keeps_State_setF | apply keeps_ite | split

theorem keeps_setScc {W : Nat} {a₀ : State} (s : State) (n : Nat) (x : Scc) (hw : 0x1000 &&& W = 0x1000) (hs : Keeps W
    a₀ s) :
    Keeps W a₀ (setScc s n x) := by
  unfold setScc
  try dsimp only
  with_reducible repeat' first
    | assumption | exact part_sub rfl hw | exact id | intro _ | apply Keeps.set_scc

theorem keeps_endLock {W : Nat} {a₀ : State} (s : State) (n : Nat) (hw : 0x1008 &&& W = 0x1008) (hs : Keeps W a₀ s) :
    Keeps W a₀ (endLock s n) := by
  unfold endLock
  try dsimp only
  with_reducible repeat' first
    | assumption | exact part_sub rfl hw | apply keeps_State_setRn | apply keeps_sccRest | apply keeps_setScc

theorem keeps_lockEnd {W : Nat} {a₀ : State} (s : State) (n : Nat) (hw : 0x1008 &&& W = 0x1008) (hs : Keeps W a₀ s) :
    Keeps W a₀ (lockEnd s n) := by
  unfold lockEnd
  try dsimp only
  with_reducible repeat' first
    | assumption | exact part_sub rfl hw | apply keeps_State_setF | apply keeps_endLock | apply keeps_setScc
    | apply keeps_ite | split

theorem keeps_grantLock {W : Nat} {a₀ : State} (s : State) (n : Nat) (hw : 0x1008 &&& W = 0x1008) (hs : Keeps W a₀ s) :
    Keeps W a₀ (grantLock s n) := by
  unfold grantLock
  try dsimp only
  with_reducible repeat' first
    | assumption | exact part_sub rfl hw | apply keeps_State_setF | apply keeps_sccRest | apply keeps_setScc
    | apply keeps_ite | split

theorem keeps_lockRequest {W : Nat} {a₀ : State} (s : State) (n : Nat) (hw : 0x1008 &&& W = 0x1008) (hs : Keeps W a₀
    s) :
    Keeps W a₀ (lockRequest s n) := by
  unfold lockRequest
  try dsimp only
  with_reducible repeat' first
    | assumption | exact part_sub rfl hw | apply keeps_State_setF | apply keeps_grantLock | apply keeps_setScc
    | apply keeps_ite | split

theorem keeps_loseLock {W : Nat} {a₀ : State} (s : State) (n : Nat) (broken : Bool) (hw : 0x81208 &&& W = 0x81208) (hs
    : Keeps W a₀ s) :
    Keeps W a₀ (loseLock s n broken) := by
  unfold loseLock
  try dsimp only
  with_reducible repeat' first
    | assumption | exact part_sub rfl hw | apply keeps_State_bump | apply keeps_State_ev | apply keeps_State_setF
    | apply keeps_sccRest | apply keeps_setScc | apply keeps_ite | split

theorem keeps_returnResult {W : Nat} {a₀ : State} (s : State) (n : Nat) (who : SccWho) (r : Nat) (sent : Bool) (b :
    Byte) (hw : 0x784708 &&& W = 0x784708) (hs : Keeps W a₀ s) :
    Keeps W a₀ (returnResult s n who r sent b) := by
  unfold returnResult
  try dsimp only
  with_reducible repeat' first
    | assumption | exact part_sub rfl hw | apply keeps_burstTxnEnd | apply keeps_byteEnded | dsimp only | split

theorem keeps_sccResult {W : Nat} {a₀ : State} (s : State) (n : Nat) (r : Nat) (hw : 0x80308 &&& W = 0x80308) (hs :
    Keeps W a₀ s) :
    Keeps W a₀ (sccResult s n r) := by
  unfold sccResult
  try dsimp only
  with_reducible repeat' first
    | assumption | exact part_sub rfl hw | apply keeps_State_bump | apply keeps_State_ev | apply keeps_State_report
    | apply keeps_State_setF | apply keeps_ite | split

theorem keeps_busCheck {W : Nat} {a₀ : State} (s : State) (n : Nat) (c : BusCheck) (again : Bool) (hw : 0x81308 &&& W
    = 0x81308) (hs : Keeps W a₀ s) :
    Keeps W a₀ (busCheck s n c again) := by
  unfold busCheck
  try dsimp only
  with_reducible repeat' first
    | assumption | exact part_sub rfl hw | apply keeps_State_bump | apply keeps_State_ev | apply keeps_State_report
    | apply keeps_State_reportIf | apply keeps_State_setF | apply keeps_grantLock | apply keeps_setScc
    | apply keeps_xrstPulse | apply keeps_ite | dsimp only | split

theorem keeps_startCheck {W : Nat} {a₀ : State} (s : State) (n : Nat) (c : BusCheck) (hw : 0x81308 &&& W = 0x81308)
    (hs : Keeps W a₀ s) :
    Keeps W a₀ (startCheck s n c) := by
  unfold startCheck
  try dsimp only
  with_reducible repeat' first
    | assumption | exact part_sub rfl hw | apply keeps_State_setF | apply keeps_busCheck | apply keeps_setScc

theorem keeps_endTxn {W : Nat} {a₀ : State} (s : State) (n : Nat) (r : Nat) (sent : Bool) (b : Byte) (hw : 0x785708
    &&& W = 0x785708) (hs : Keeps W a₀ s) :
    Keeps W a₀ (endTxn s n r sent b) := by
  unfold endTxn
  try dsimp only
  with_reducible repeat' first
    | assumption | exact part_sub rfl hw | apply keeps_State_setF | apply keeps_endLock | apply keeps_grantLock
    | apply keeps_loseLock | apply keeps_returnResult | apply keeps_sccRest | apply keeps_sccResult
    | apply keeps_setScc | apply keeps_startCheck | apply keeps_ite | dsimp only | split

theorem keeps_sccAbort {W : Nat} {a₀ : State} (s : State) (n : Nat) (begun : Bool) (hw : 0x785708 &&& W = 0x785708)
    (hs : Keeps W a₀ s) :
    Keeps W a₀ (sccAbort s n begun) := by
  unfold sccAbort
  try dsimp only
  with_reducible repeat' first
    | assumption | exact part_sub rfl hw | apply keeps_endTxn | apply keeps_loseLock | apply keeps_setScc
    | apply keeps_ite | split

theorem keeps_sccCtrl {W : Nat} {a₀ : State} (s : State) (n : Nat) (v : Word) (begun : Bool) (check : BusCheck) (hw :
    0x785708 &&& W = 0x785708) (hs : Keeps W a₀ s) :
    Keeps W a₀ (sccCtrl s n v begun check) := by
  unfold sccCtrl
  try dsimp only
  with_reducible repeat' first
    | assumption | exact part_sub rfl hw | apply keeps_State_ev | apply keeps_State_setF | apply keeps_sccAbort
    | apply keeps_setScc | apply keeps_startCheck | apply keeps_ite | split

theorem keeps_writeScc {W : Nat} {a₀ : State} (s : State) (off : Nat) (v : Word) (begun : Bool) (check : BusCheck) (hw
    : 0x785708 &&& W = 0x785708) (hs : Keeps W a₀ s) :
    Keeps W a₀ (writeScc s off v begun check) := by
  unfold writeScc
  try dsimp only
  with_reducible repeat' first
    | assumption | exact part_sub rfl hw | apply keeps_State_ev | apply keeps_lockEnd | apply keeps_lockRequest
    | apply keeps_plainWrite | apply keeps_sccCtrl | apply keeps_ite | split

theorem keeps_escFlush {W : Nat} {a₀ : State} (s : State) (p : Nat) (hw : 0x684308 &&& W = 0x684308) (hs : Keeps W a₀
    s) :
    Keeps W a₀ (escFlush s p) := by
  unfold escFlush
  try dsimp only
  with_reducible repeat' first
    | assumption | exact part_sub rfl hw | apply keeps_failAll

theorem keeps_writeEsc {W : Nat} {a₀ : State} (s : State) (off : Nat) (v : Word) (hw : 0x684308 &&& W = 0x684308) (hs
    : Keeps W a₀ s) :
    Keeps W a₀ (writeEsc s off v) := by
  unfold writeEsc
  try dsimp only
  with_reducible repeat' first
    | assumption | exact part_sub rfl hw | apply keeps_escFlush | apply keeps_plainWrite | apply keeps_profileLoad
    | apply keeps_ite | split

theorem keeps_writePipe {W : Nat} {a₀ : State} (s : State) (off : Nat) (v : Word) (hw : 0x80228 &&& W = 0x80228) (hs :
    Keeps W a₀ s) :
    Keeps W a₀ (writePipe s off v) := by
  unfold writePipe
  try dsimp only
  with_reducible repeat' first
    | assumption | exact part_sub rfl hw | apply keeps_plainWrite | apply keeps_shadowWrite | apply keeps_ite | split

theorem keeps_writeCanvas {W : Nat} {a₀ : State} (s : State) (off : Nat) (v : Word) (hw : 0x4c096c8328 &&& W =
    0x4c096c8328) (hs : Keeps W a₀ s) :
    Keeps W a₀ (writeCanvas s off v) := by
  unfold writeCanvas
  try dsimp only
  with_reducible repeat' first
    | assumption | exact part_sub rfl hw | apply keeps_canvasEnable | apply keeps_writePipe | apply keeps_ite | split

theorem keeps_writeLarder {W : Nat} {a₀ : State} (s : State) (off : Nat) (v : Word) (hw : 0x2000080228 &&& W =
    0x2000080228) (hs : Keeps W a₀ s) :
    Keeps W a₀ (writeLarder s off v) := by
  unfold writeLarder
  try dsimp only
  with_reducible repeat' first
    | assumption | exact part_sub rfl hw | apply keeps_State_ev | apply keeps_plainWrite | apply keeps_queueEnable
    | apply keeps_queueFlush | apply keeps_shadowWrite | apply keeps_ite | split

theorem keeps_writeHoist {W : Nat} {a₀ : State} (s : State) (off : Nat) (v : Word) (hw : 0x4000080208 &&& W =
    0x4000080208) (hs : Keeps W a₀ s) :
    Keeps W a₀ (writeHoist s off v) := by
  unfold writeHoist
  try dsimp only
  with_reducible repeat' first
    | assumption | exact part_sub rfl hw | apply keeps_hoistCtrl | apply keeps_hoistReg | apply keeps_plainWrite
    | apply keeps_ite | split

theorem keeps_writeBridge {W : Nat} {a₀ : State} (s : State) (off : Nat) (v : Word) (hw : 0x80308 &&& W = 0x80308) (hs
    : Keeps W a₀ s) :
    Keeps W a₀ (writeBridge s off v) := by
  unfold writeBridge
  try dsimp only
  with_reducible repeat' first
    | assumption | exact part_sub rfl hw | apply keeps_outWinCtrl | apply keeps_outWinTarget | apply keeps_plainWrite
    | apply keeps_ite | split

theorem keeps_writeLane {W : Nat} {a₀ : State} (s : State) (off : Nat) (v : Word) (c : ChkCount) (hw : 0x8000080208
    &&& W = 0x8000080208) (hs : Keeps W a₀ s) :
    Keeps W a₀ (writeLane s off v c) := by
  unfold writeLane
  try dsimp only
  with_reducible repeat' first
    | assumption | exact part_sub rfl hw | intro _ | apply keeps_injectWrite | apply keeps_laneCtrl
    | apply keeps_lanePwrWrite | apply keeps_laneTestWrite | apply keeps_loopbackWrite | apply keeps_patchkWrite
    | apply keeps_plainWrite | apply keeps_ite | refine keeps_of_pair (by assumption) ?_
    | refine keeps_of_pair_first (by assumption) ?_ | refine keeps_of_triple (by assumption) ?_ | dsimp only | split

theorem keeps_doorbellBit {W : Nat} {a₀ : State} (s : State) (hw : 0x80208 &&& W = 0x80208) (hs : Keeps W a₀ s) :
    Keeps W a₀ (doorbellBit s) := by
  unfold doorbellBit
  try dsimp only
  with_reducible repeat' first
    | assumption | exact part_sub rfl hw | apply keeps_State_setF | apply keeps_irqOff | apply keeps_ite | split

theorem keeps_routeWrite {W : Nat} {a₀ : State} (s : State) (d : Nat) (v : Word) (hw : 0x80208 &&& W = 0x80208) (hs :
    Keeps W a₀ s) :
    Keeps W a₀ (routeWrite s d v) := by
  unfold routeWrite
  try dsimp only
  with_reducible repeat' first
    | assumption | exact part_sub rfl hw | apply keeps_State_setF | apply keeps_fabStatus | apply keeps_fillRoute
    | apply keeps_plainWrite | apply keeps_ite | split

theorem keeps_writeFabric {W : Nat} {a₀ : State} (s : State) (off : Nat) (v : Word) (hw : 0x1000008030c &&& W =
    0x1000008030c) (hs : Keeps W a₀ s) :
    Keeps W a₀ (writeFabric s off v) := by
  unfold writeFabric
  try dsimp only
  with_reducible repeat' first
    | assumption | exact part_sub rfl hw | apply keeps_doorbellBit | apply keeps_fabricEnable | apply keeps_inWinCtrl
    | apply keeps_plainWrite | apply keeps_routeWrite | apply keeps_winIgnored | apply keeps_ite | split

theorem keeps_gmacBind {W : Nat} {a₀ : State} (s : State) (hw : 0x80a0c &&& W = 0x80a0c) (hs : Keeps W a₀ s) :
    Keeps W a₀ (gmacBind s) := by
  unfold gmacBind
  try dsimp only
  with_reducible repeat' first
    | assumption | exact part_sub rfl hw | exact id | intro _ | apply keeps_State_ev | apply keeps_State_setF
    | apply keeps_State_setPair | apply keeps_takeFree | apply keeps_ite | refine keeps_of_pair (by assumption) ?_
    | refine keeps_of_pair_first (by assumption) ?_ | refine keeps_of_triple (by assumption) ?_ | dsimp only | split
    | apply Keeps.set_ident

theorem keeps_gmacCtrl {W : Nat} {a₀ : State} (s : State) (v : Word) (hw : 0x80b0c &&& W = 0x80b0c) (hs : Keeps W a₀
    s) :
    Keeps W a₀ (gmacCtrl s v) := by
  unfold gmacCtrl
  try dsimp only
  with_reducible repeat' first
    | assumption | exact part_sub rfl hw | apply keeps_State_setF | apply keeps_gmacBind | apply keeps_gmacDiscard
    | apply keeps_ite | split

theorem keeps_dropTwin {W : Nat} {a₀ : State} (s : State) (p : Nat) (hw : 0xf0488030c &&& W = 0xf0488030c) (hs : Keeps
    W a₀ s) :
    Keeps W a₀ (dropTwin s p) := by
  unfold dropTwin
  try dsimp only
  with_reducible repeat' first
    | assumption | exact part_sub rfl hw | exact id | intro _ | apply keeps_setPlace | apply keeps_settlePipe
    | apply keeps_ite | split | apply Keeps.set_twinWait_tallies

theorem keeps_fenceFrame {W : Nat} {a₀ : State} (s : State) (p : Nat) (n : Int) (hw : 0x4084308 &&& W = 0x4084308) (hs
    : Keeps W a₀ s) :
    Keeps W a₀ (fenceFrame s p n) := by
  unfold fenceFrame
  try dsimp only
  with_reducible repeat' first
    | assumption | exact part_sub rfl hw | apply keeps_endFrame | apply keeps_judgeCorrupt | apply keeps_updFrame
    | apply keeps_ite | refine keeps_of_pair (by assumption) ?_ | refine keeps_of_pair_first (by assumption) ?_
    | refine keeps_of_triple (by assumption) ?_ | dsimp only | split

theorem keeps_queueReadmit {W : Nat} {a₀ : State} (s : State) (l : List Readmit) (hw : 0x40000000 &&& W = 0x40000000)
    (hs : Keeps W a₀ s) :
    Keeps W a₀ (queueReadmit s l) := by
  unfold queueReadmit
  try dsimp only
  with_reducible repeat' first
    | assumption | exact part_sub rfl hw | exact id | intro _ | apply Keeps.set_readmit

theorem keeps_fenceTile {W : Nat} {a₀ : State} (s : State) (n : Nat) (cause : Nat) (hw : 0xf6dec434c &&& W =
    0xf6dec434c) (hs : Keeps W a₀ s) :
    Keeps W a₀ (fenceTile s n cause) := by
  unfold fenceTile
  try dsimp only
  with_reducible repeat' first
    | assumption | exact part_sub rfl hw | exact id | intro _ | apply keeps_State_report | apply keeps_State_setF
    | apply keeps_canvasOff | apply keeps_domDrain | apply keeps_dropTwin | apply keeps_fenceFrame
    | apply keeps_queueReadmit | apply keeps_settlePipe | apply keeps_viewLost | apply keeps_ite | apply keeps_foldl
    | apply keeps_foldl_first | dsimp only | split | apply Keeps.set_isl_jobs_tile

theorem keeps_tileCtrl {W : Nat} {a₀ : State} (s : State) (n : Nat) (v : Word) (hw : 0xf6dec434c &&& W = 0xf6dec434c)
    (hs : Keeps W a₀ s) :
    Keeps W a₀ (tileCtrl s n v) := by
  unfold tileCtrl
  try dsimp only
  with_reducible repeat' first
    | assumption | exact part_sub rfl hw | apply keeps_fenceTile | apply keeps_ite | split

theorem keeps_regWrite {W : Nat} {a₀ : State} (s : State) (off : Nat) (v : Word) (begun : Bool) (check : BusCheck) (c
    : ChkCount) (hw : 0x59ef6ffcffec &&& W = 0x59ef6ffcffec) (hs : Keeps W a₀ s) :
    Keeps W a₀ (regWrite s off v begun check c) := by
  unfold regWrite
  try dsimp only
  with_reducible repeat' first
    | assumption | exact part_sub rfl hw | apply keeps_alertClear | apply keeps_gmacCtrl | apply keeps_plainWrite
    | apply keeps_shadowWrite | apply keeps_tileCtrl | apply keeps_writeAttic | apply keeps_writeBridge
    | apply keeps_writeCanvas | apply keeps_writeDbell | apply keeps_writeEsc | apply keeps_writeFabric
    | apply keeps_writeGlb | apply keeps_writeHoist | apply keeps_writeLane | apply keeps_writeLarder
    | apply keeps_writeMadc | apply keeps_writePcie | apply keeps_writePipe | apply keeps_writePwr
    | apply keeps_writeRegu | apply keeps_writeRing | apply keeps_writeSafe | apply keeps_writeScc
    | apply keeps_writeSport | apply keeps_writeTally | apply keeps_ite | split

theorem keeps_sizeErr {W : Nat} {a₀ : State} (s : State) (q : Requester) (off : Nat) (hw : 0x80308 &&& W = 0x80308)
    (hs : Keeps W a₀ s) :
    Keeps W a₀ (sizeErr s q off) := by
  unfold sizeErr
  try dsimp only
  with_reducible repeat' first
    | assumption | exact part_sub rfl hw | apply keeps_accessEvent

theorem keeps_writeOne {W : Nat} {a₀ : State} (s : State) (q : Requester) (off : Nat) (v : Word) (begun : Bool) (check
    : BusCheck) (c : ChkCount) (hw : 0x59ef6ffcffec &&& W = 0x59ef6ffcffec) (hs : Keeps W a₀ s) :
    Keeps W a₀ (writeOne s q off v begun check c) := by
  unfold writeOne
  try dsimp only
  with_reducible repeat' first
    | assumption | exact part_sub rfl hw | apply keeps_regWrite | apply keeps_unmappedReg | apply keeps_ite
    | dsimp only | split

theorem keeps_writeEach {W : Nat} {a₀ : State} (s : State) (q : Requester) (off : Nat) (begun : Bool) (check :
    BusCheck) (c : ChkCount) (x6 : List (List Byte)) (hw : 0x59ef6ffcffec &&& W = 0x59ef6ffcffec) (hs : Keeps W a₀ s)
    :
    Keeps W a₀ (writeEach s q off begun check c x6) := by
  induction x6 generalizing s q off begun check c with
  | nil =>
    unfold writeEach
    with_reducible assumption
  | cons w ws ih =>
    unfold writeEach
    try dsimp only
    with_reducible repeat' first
      | assumption | exact part_sub rfl hw | apply ih | apply keeps_writeOne | dsimp only | split

theorem keeps_writeBytes {W : Nat} {a₀ : State} (s : State) (off : Nat) (bytes : List Byte) (hw : 0x8 &&& W = 0x8) (hs
    : Keeps W a₀ s) :
    Keeps W a₀ (writeBytes s off bytes) := by
  unfold writeBytes
  try dsimp only
  with_reducible repeat' first
    | assumption | exact part_sub rfl hw | intro _ | apply keeps_State_setF | apply keeps_tallyData | apply keeps_ite
    | apply keeps_foldl | apply keeps_foldl_first | dsimp only | split

theorem keeps_writeAccess {W : Nat} {a₀ : State} (s : State) (q : Requester) (off : Nat) (bytes : List Byte) (begun :
    Bool) (check : BusCheck) (c : ChkCount) (hw : 0x59ef6ffcffec &&& W = 0x59ef6ffcffec) (hs : Keeps W a₀ s) :
    Keeps W a₀ (writeAccess s q off bytes begun check c) := by
  unfold writeAccess
  try dsimp only
  with_reducible repeat' first
    | assumption | exact part_sub rfl hw | apply keeps_push | apply keeps_sizeErr | apply keeps_writeBytes
    | apply keeps_writeEach | apply keeps_ite | split

theorem keeps_clearRc {W : Nat} {a₀ : State} (s : State) (off : Nat) (hw : 0x8 &&& W = 0x8) (hs : Keeps W a₀ s) :
    Keeps W a₀ (clearRc s off) := by
  unfold clearRc
  try dsimp only
  with_reducible repeat' first
    | assumption | exact part_sub rfl hw | intro _ | apply keeps_State_setF | apply keeps_ite | apply keeps_foldl
    | apply keeps_foldl_first | dsimp only | split

theorem keeps_readOne {W : Nat} {a₀ : State} (s : State) (q : Requester) (off : Nat) (latch : Bool) (hw : 0x2000180388
    &&& W = 0x2000180388) (hs : Keeps W a₀ s) :
    Keeps W a₀ (readOne s q off latch).2 := by
  unfold readOne
  try dsimp only
  with_reducible repeat' first
    | assumption | exact part_sub rfl hw | apply keeps_clearRc | apply keeps_latchedVal | apply keeps_pop
    | apply keeps_unmappedReg | apply keeps_ite | refine keeps_of_pair (by assumption) ?_
    | refine keeps_of_pair_first (by assumption) ?_ | refine keeps_of_triple (by assumption) ?_ | dsimp only | split

theorem keeps_readWords {W : Nat} {a₀ : State} (s : State) (q : Requester) (off : Nat) (x3 : Nat) (hw : 0x2000180388
    &&& W = 0x2000180388) (hs : Keeps W a₀ s) :
    Keeps W a₀ (readWords s q off x3).2 := by
  induction x3 generalizing s q off with
  | zero =>
    unfold readWords
    with_reducible assumption
  | succ n ih =>
    unfold readWords
    try dsimp only
    with_reducible repeat' first
      | assumption | exact part_sub rfl hw | apply ih | apply keeps_readOne | refine keeps_of_pair (by assumption) ?_
      | refine keeps_of_pair_first (by assumption) ?_ | refine keeps_of_triple (by assumption) ?_ | dsimp only
      | split

theorem keeps_readPair {W : Nat} {a₀ : State} (s : State) (q : Requester) (off : Nat) (hw : 0x2000180388 &&& W =
    0x2000180388) (hs : Keeps W a₀ s) :
    Keeps W a₀ (readPair s q off).2 := by
  unfold readPair
  try dsimp only
  with_reducible repeat' first
    | assumption | exact part_sub rfl hw | apply keeps_readOne | refine keeps_of_pair (by assumption) ?_
    | refine keeps_of_pair_first (by assumption) ?_ | refine keeps_of_triple (by assumption) ?_ | dsimp only | split

theorem keeps_readAccess {W : Nat} {a₀ : State} (s : State) (q : Requester) (off : Nat) (size : Nat) (hw :
    0x2000180788 &&& W = 0x2000180788) (hs : Keeps W a₀ s) :
    Keeps W a₀ (readAccess s q off size) := by
  unfold readAccess
  try dsimp only
  with_reducible repeat' first
    | assumption | exact part_sub rfl hw | apply keeps_State_answer | apply keeps_collectRead | apply keeps_pop
    | apply keeps_readPair | apply keeps_readWords | apply keeps_sizeErr | apply keeps_ite
    | refine keeps_of_pair (by assumption) ?_ | refine keeps_of_pair_first (by assumption) ?_
    | refine keeps_of_triple (by assumption) ?_ | dsimp only | split

theorem keeps_readBy {W : Nat} {a₀ : State} (s : State) (q : Requester) (off : Nat) (size : Nat) (hw : 0x200018078c
    &&& W = 0x200018078c) (hs : Keeps W a₀ s) :
    Keeps W a₀ (readBy s q off size) := by
  unfold readBy
  try dsimp only
  with_reducible repeat' first
    | assumption | exact part_sub rfl hw | apply keeps_hostReq | apply keeps_hub | apply keeps_readAccess
    | apply keeps_refuseUr | apply keeps_ite | dsimp only | split

theorem keeps_writeBy {W : Nat} {a₀ : State} (s : State) (q : Requester) (off : Nat) (bytes : List Byte) (poison :
    Bool) (begun : Bool) (check : BusCheck) (c : ChkCount) (hw : 0x59ef6ffcffec &&& W = 0x59ef6ffcffec) (hs : Keeps W
    a₀ s) :
    Keeps W a₀ (writeBy s q off bytes poison begun check c) := by
  unfold writeBy
  try dsimp only
  with_reducible repeat' first
    | assumption | exact part_sub rfl hw | apply keeps_hostReq | apply keeps_hub | apply keeps_poisonRx
    | apply keeps_refuseUr | apply keeps_writeAccess | apply keeps_ite | dsimp only | split

theorem keeps_execRegisterWrite {W : Nat} {a₀ : State} (req : Requester) (off : Nat) (bytes : List Byte) (poison :
    Bool) (begun : Bool) (check : BusCheck) (c : ChkCount) (s : State) (hw : 0x59ef6ffcffec &&& W = 0x59ef6ffcffec)
    (hs : Keeps W a₀ s) :
    KeepsOut W a₀ (execRegisterWrite req off bytes poison begun check c s) := by
  unfold execRegisterWrite
  try dsimp only
  with_reducible apply KeepsOut.next
  with_reducible repeat' first
    | assumption | exact part_sub rfl hw | apply keeps_writeBy

theorem keeps_execCounterReadClear {W : Nat} {a₀ : State} (req : Requester) (off : Nat) (size : Nat) (s : State) (hw :
    0x200018078c &&& W = 0x200018078c) (hs : Keeps W a₀ s) :
    KeepsOut W a₀ (execCounterReadClear req off size s) := by
  unfold execCounterReadClear
  try dsimp only
  with_reducible apply KeepsOut.next
  with_reducible repeat' first
    | assumption | exact part_sub rfl hw | apply keeps_readBy

theorem keeps_execLowerHalfRead {W : Nat} {a₀ : State} (req : Requester) (off : Nat) (s : State) (hw : 0x200018078c
    &&& W = 0x200018078c) (hs : Keeps W a₀ s) :
    KeepsOut W a₀ (execLowerHalfRead req off s) := by
  unfold execLowerHalfRead
  try dsimp only
  with_reducible apply KeepsOut.next
  with_reducible repeat' first
    | assumption | exact part_sub rfl hw | apply keeps_readBy

theorem keeps_cmdQuery {W : Nat} {a₀ : State} (s : State) (c : Cmd) (hw : 0x680208 &&& W = 0x680208) (hs : Keeps W a₀
    s) :
    Keeps W a₀ (cmdQuery s c) := by
  unfold cmdQuery
  try dsimp only
  with_reducible repeat' first
    | assumption | exact part_sub rfl hw | apply keeps_complete | apply keeps_hostWrite | apply keeps_ite | split

theorem keeps_execQuery {W : Nat} {a₀ : State} (s : State) (hw : 0x680208 &&& W = 0x680208) (hs : Keeps W a₀ s) :
    KeepsOut W a₀ (execQuery s) := by
  unfold execQuery
  try dsimp only
  with_reducible apply KeepsOut.next
  with_reducible repeat' first
    | assumption | exact part_sub rfl hw | intro _ | apply keeps_cmdQuery | apply keeps_hub | apply keeps_onCmd
    | refine keeps_of_pair (by assumption) ?_ | refine keeps_of_pair_first (by assumption) ?_
    | refine keeps_of_triple (by assumption) ?_ | dsimp only

theorem keeps_followHold {W : Nat} {a₀ : State} (s : State) (hw : 0x80308 &&& W = 0x80308) (hs : Keeps W a₀ s) :
    Keeps W a₀ (followHold s) := by
  unfold followHold
  try dsimp only
  with_reducible repeat' first
    | assumption | exact part_sub rfl hw | apply keeps_State_ev | apply keeps_State_report | apply keeps_State_setF
    | apply keeps_ite | split

theorem keeps_execDialSet {W : Nat} {a₀ : State} (v : Word) (s : State) (hw : 0x80b88 &&& W = 0x80b88) (hs : Keeps W
    a₀ s) :
    KeepsOut W a₀ (execDialSet v s) := by
  unfold execDialSet
  try dsimp only
  with_reducible apply KeepsOut.next
  with_reducible repeat' first
    | assumption | exact part_sub rfl hw | apply keeps_dialSet | apply keeps_hub

theorem keeps_execRateTrimWrite {W : Nat} {a₀ : State} (v : Word) (s : State) (hw : 0x80208 &&& W = 0x80208) (hs :
    Keeps W a₀ s) :
    KeepsOut W a₀ (execRateTrimWrite v s) := by
  unfold execRateTrimWrite
  try dsimp only
  with_reducible apply KeepsOut.next
  with_reducible repeat' first
    | assumption | exact part_sub rfl hw | apply keeps_hub | apply keeps_rateTrimWrite

theorem keeps_execDialSourceWrite {W : Nat} {a₀ : State} (v : Word) (s : State) (hw : 0x88 &&& W = 0x88) (hs : Keeps W
    a₀ s) :
    KeepsOut W a₀ (execDialSourceWrite v s) := by
  unfold execDialSourceWrite
  try dsimp only
  with_reducible apply KeepsOut.next
  with_reducible repeat' first
    | assumption | exact part_sub rfl hw | apply keeps_dialSource | apply keeps_hub

theorem keeps_execFollowHoldTimeout {W : Nat} {a₀ : State} (s : State) (hw : 0x80308 &&& W = 0x80308) (hs : Keeps W a₀
    s) :
    KeepsOut W a₀ (execFollowHoldTimeout s) := by
  unfold execFollowHoldTimeout
  try dsimp only
  with_reducible apply KeepsOut.next
  with_reducible repeat' first
    | assumption | exact part_sub rfl hw | apply keeps_followHold | apply keeps_hub

theorem keeps_schedBoundary {W : Nat} {a₀ : State} (s : State) (p : Nat) (hw : 0x80288 &&& W = 0x80288) (hs : Keeps W
    a₀ s) :
    Keeps W a₀ (schedBoundary s p) := by
  unfold schedBoundary
  try dsimp only
  with_reducible repeat' first
    | assumption | exact part_sub rfl hw | apply keeps_State_ev | apply keeps_State_setF | apply keeps_setSched
    | apply keeps_ite | split

theorem keeps_schedCompute {W : Nat} {a₀ : State} (s : State) (p : Nat) (hw : 0x80288 &&& W = 0x80288) (hs : Keeps W
    a₀ s) :
    Keeps W a₀ (schedCompute s p) := by
  unfold schedCompute
  try dsimp only
  with_reducible repeat' first
    | assumption | exact part_sub rfl hw | apply keeps_State_ev | apply keeps_State_setPair | apply keeps_setSched
    | apply keeps_ite | dsimp only | split

theorem keeps_schedRise {W : Nat} {a₀ : State} (s : State) (p : Nat) (hw : 0x100000000088 &&& W = 0x100000000088) (hs
    : Keeps W a₀ s) :
    Keeps W a₀ (schedRise s p) := by
  unfold schedRise
  try dsimp only
  with_reducible repeat' first
    | assumption | exact part_sub rfl hw | apply keeps_State_setF | apply keeps_State_setRn | apply keeps_setSched
    | apply keeps_trigRose | dsimp only | split

theorem keeps_schedFall {W : Nat} {a₀ : State} (s : State) (p : Nat) (hw : 0x80 &&& W = 0x80) (hs : Keeps W a₀ s) :
    Keeps W a₀ (schedFall s p) := by
  unfold schedFall
  try dsimp only
  with_reducible repeat' first
    | assumption | exact part_sub rfl hw | apply keeps_setSched | apply keeps_ite | split

theorem keeps_windowOpen {W : Nat} {a₀ : State} (s : State) (p : Nat) (hw : 0x88 &&& W = 0x88) (hs : Keeps W a₀ s) :
    Keeps W a₀ (windowOpen s p) := by
  unfold windowOpen
  try dsimp only
  with_reducible repeat' first
    | assumption | exact part_sub rfl hw | apply keeps_illUpdate | apply keeps_setSched | apply keeps_ite | split

theorem keeps_windowClose {W : Nat} {a₀ : State} (s : State) (p : Nat) (hw : 0x88 &&& W = 0x88) (hs : Keeps W a₀ s) :
    Keeps W a₀ (windowClose s p) := by
  unfold windowClose
  try dsimp only
  with_reducible repeat' first
    | assumption | exact part_sub rfl hw | apply keeps_illUpdate | apply keeps_setSched | apply keeps_ite | split

theorem keeps_windowMax {W : Nat} {a₀ : State} (s : State) (p : Nat) (hw : 0x80288 &&& W = 0x80288) (hs : Keeps W a₀
    s) :
    Keeps W a₀ (windowMax s p) := by
  unfold windowMax
  try dsimp only
  with_reducible repeat' first
    | assumption | exact part_sub rfl hw | apply keeps_State_ev | apply keeps_illUpdate | apply keeps_setSched
    | apply keeps_ite | split

theorem keeps_execTrigRun {W : Nat} {a₀ : State} (p : Nat) (v : Word) (s : State) (hw : 0x80288 &&& W = 0x80288) (hs :
    Keeps W a₀ s) :
    KeepsOut W a₀ (execTrigRun p v s) := by
  unfold execTrigRun
  try dsimp only
  with_reducible apply KeepsOut.next
  with_reducible repeat' first
    | assumption | exact part_sub rfl hw | apply keeps_hub | apply keeps_schedCtrl

end Sys2Proof.Machine
end

