-- ==== Sys2Proof/Laws/KeepsF.lean ====
section
/-!
SUPPORT. What each operation keeps, part 6 of 6: one lemma for each function that answers a state, after those that it
calls (execTrigRunClear to execReadmissionPlacement).
-/

namespace Sys2Proof.Machine

theorem keeps_execTrigRunClear {W : Nat} {a₀ : State} (p : Nat) (v : Word) (s : State) (hw : 0x80288 &&& W = 0x80288)
    (hs : Keeps W a₀ s) :
    KeepsOut W a₀ (execTrigRunClear p v s) := by
  unfold execTrigRunClear
  try dsimp only
  with_reducible apply KeepsOut.next
  with_reducible repeat' first
    | assumption | exact part_sub rfl hw | apply keeps_hub | apply keeps_schedCtrl

theorem keeps_execTrigApply {W : Nat} {a₀ : State} (p : Nat) (v : Word) (s : State) (hw : 0x80208 &&& W = 0x80208) (hs
    : Keeps W a₀ s) :
    KeepsOut W a₀ (execTrigApply p v s) := by
  unfold execTrigApply
  try dsimp only
  with_reducible apply KeepsOut.next
  with_reducible repeat' first
    | assumption | exact part_sub rfl hw | apply keeps_hub | apply keeps_schedApply | apply keeps_schedFields

theorem keeps_execTrigPeriodBoundary {W : Nat} {a₀ : State} (p : Nat) (s : State) (hw : 0x80288 &&& W = 0x80288) (hs :
    Keeps W a₀ s) :
    KeepsOut W a₀ (execTrigPeriodBoundary p s) := by
  unfold execTrigPeriodBoundary
  try dsimp only
  with_reducible apply KeepsOut.next
  with_reducible repeat' first
    | assumption | exact part_sub rfl hw | apply keeps_hub | apply keeps_schedBoundary

theorem keeps_execTrigEdgeCompute {W : Nat} {a₀ : State} (p : Nat) (s : State) (hw : 0x80288 &&& W = 0x80288) (hs :
    Keeps W a₀ s) :
    KeepsOut W a₀ (execTrigEdgeCompute p s) := by
  unfold execTrigEdgeCompute
  try dsimp only
  with_reducible apply KeepsOut.next
  with_reducible repeat' first
    | assumption | exact part_sub rfl hw | apply keeps_hub | apply keeps_schedCompute

theorem keeps_execTrigRisingEdge {W : Nat} {a₀ : State} (p : Nat) (s : State) (hw : 0x100000000088 &&& W =
    0x100000000088) (hs : Keeps W a₀ s) :
    KeepsOut W a₀ (execTrigRisingEdge p s) := by
  unfold execTrigRisingEdge
  try dsimp only
  with_reducible apply KeepsOut.next
  with_reducible repeat' first
    | assumption | exact part_sub rfl hw | apply keeps_hub | apply keeps_schedRise

theorem keeps_execTrigFallingEdge {W : Nat} {a₀ : State} (p : Nat) (s : State) (hw : 0x80 &&& W = 0x80) (hs : Keeps W
    a₀ s) :
    KeepsOut W a₀ (execTrigFallingEdge p s) := by
  unfold execTrigFallingEdge
  try dsimp only
  with_reducible apply KeepsOut.next
  with_reducible repeat' first
    | assumption | exact part_sub rfl hw | apply keeps_hub | apply keeps_schedFall

theorem keeps_execIllWindowOpen {W : Nat} {a₀ : State} (p : Nat) (s : State) (hw : 0x88 &&& W = 0x88) (hs : Keeps W a₀
    s) :
    KeepsOut W a₀ (execIllWindowOpen p s) := by
  unfold execIllWindowOpen
  try dsimp only
  with_reducible apply KeepsOut.next
  with_reducible repeat' first
    | assumption | exact part_sub rfl hw | apply keeps_hub | apply keeps_windowOpen

theorem keeps_execIllWindowClose {W : Nat} {a₀ : State} (p : Nat) (s : State) (hw : 0x88 &&& W = 0x88) (hs : Keeps W
    a₀ s) :
    KeepsOut W a₀ (execIllWindowClose p s) := by
  unfold execIllWindowClose
  try dsimp only
  with_reducible apply KeepsOut.next
  with_reducible repeat' first
    | assumption | exact part_sub rfl hw | apply keeps_hub | apply keeps_windowClose

theorem keeps_execIllMaxExpiry {W : Nat} {a₀ : State} (p : Nat) (s : State) (hw : 0x80288 &&& W = 0x80288) (hs : Keeps
    W a₀ s) :
    KeepsOut W a₀ (execIllMaxExpiry p s) := by
  unfold execIllMaxExpiry
  try dsimp only
  with_reducible apply KeepsOut.next
  with_reducible repeat' first
    | assumption | exact part_sub rfl hw | apply keeps_hub | apply keeps_windowMax

theorem keeps_execGroupStart {W : Nat} {a₀ : State} (s : State) (hw : 0x80288 &&& W = 0x80288) (hs : Keeps W a₀ s) :
    KeepsOut W a₀ (execGroupStart s) := by
  unfold execGroupStart
  try dsimp only
  with_reducible apply KeepsOut.next
  with_reducible repeat' first
    | assumption | exact part_sub rfl hw | apply keeps_groupStart | apply keeps_hub

theorem keeps_execGroupStop {W : Nat} {a₀ : State} (s : State) (hw : 0x88 &&& W = 0x88) (hs : Keeps W a₀ s) :
    KeepsOut W a₀ (execGroupStop s) := by
  unfold execGroupStop
  try dsimp only
  with_reducible apply KeepsOut.next
  with_reducible repeat' first
    | assumption | exact part_sub rfl hw | apply keeps_groupStop | apply keeps_hub

theorem keeps_syncLose {W : Nat} {a₀ : State} (s : State) (m : Nat) (hw : 0x80388 &&& W = 0x80388) (hs : Keeps W a₀ s) :
    Keeps W a₀ (syncLose s m) := by
  unfold syncLose
  try dsimp only
  with_reducible repeat' first
    | assumption | exact part_sub rfl hw | apply keeps_State_ev | apply keeps_State_report | apply keeps_State_setF
    | apply keeps_syncAcquire

theorem keeps_syncAnchor {W : Nat} {a₀ : State} (s : State) (m : Nat) (hw : 0x88 &&& W = 0x88) (hs : Keeps W a₀ s) :
    Keeps W a₀ (syncAnchor s m) := by
  unfold syncAnchor
  try dsimp only
  with_reducible repeat' first
    | assumption | exact part_sub rfl hw | intro _ | apply keeps_State_setF | apply keeps_setSched | apply keeps_ite
    | apply keeps_foldl | apply keeps_foldl_first | dsimp only | split

theorem keeps_syncEdge {W : Nat} {a₀ : State} (s : State) (m : Nat) (rising : Bool) (hw : 0x80388 &&& W = 0x80388) (hs
    : Keeps W a₀ s) :
    Keeps W a₀ (syncEdge s m rising) := by
  unfold syncEdge
  try dsimp only
  with_reducible repeat' first
    | assumption | exact part_sub rfl hw | exact id | intro _ | apply keeps_State_bump | apply keeps_State_ev
    | apply keeps_State_setF | apply keeps_State_setPair | apply keeps_State_setRn | apply keeps_syncAnchor
    | apply keeps_syncLose | apply keeps_ite | split | apply Keeps.set_regu

theorem keeps_syncMissed {W : Nat} {a₀ : State} (s : State) (m : Nat) (hw : 0x80388 &&& W = 0x80388) (hs : Keeps W a₀
    s) :
    Keeps W a₀ (syncMissed s m) := by
  unfold syncMissed
  try dsimp only
  with_reducible repeat' first
    | assumption | exact part_sub rfl hw | exact id | intro _ | apply keeps_State_setF | apply keeps_syncAnchor
    | apply keeps_syncLose | apply keeps_ite | split | apply Keeps.set_regu

theorem keeps_execSyncInEdge {W : Nat} {a₀ : State} (m : Nat) (rising : Bool) (s : State) (hw : 0x80388 &&& W =
    0x80388) (hs : Keeps W a₀ s) :
    KeepsOut W a₀ (execSyncInEdge m rising s) := by
  unfold execSyncInEdge
  try dsimp only
  with_reducible apply KeepsOut.next
  with_reducible repeat' first
    | assumption | exact part_sub rfl hw | apply keeps_hub | apply keeps_syncEdge

theorem keeps_execSyncEdgeMissed {W : Nat} {a₀ : State} (m : Nat) (s : State) (hw : 0x80388 &&& W = 0x80388) (hs :
    Keeps W a₀ s) :
    KeepsOut W a₀ (execSyncEdgeMissed m s) := by
  unfold execSyncEdgeMissed
  try dsimp only
  with_reducible apply KeepsOut.next
  with_reducible repeat' first
    | assumption | exact part_sub rfl hw | apply keeps_hub | apply keeps_syncMissed

theorem keeps_blankDevice {W : Nat} {a₀ : State} (s : State) (pow : Pow) (hw : 0x7fffffa7fff8 &&& W = 0x7fffffa7fff8)
    (hs : Keeps W a₀ s) :
    Keeps W a₀ (blankDevice s pow) := by
  exact ⟨hs.pending, hs.now, fun _ => memory_wf_reset, fun _ => rfl, fun _ => rfl, hs.taken, fun k => (part_clash hw
    rfl k).elim, fun k => (part_clash hw rfl k).elim, fun k => (part_clash hw rfl k).elim, fun k => (part_clash hw rfl
    k).elim, fun k => (part_clash hw rfl k).elim, fun k => (part_clash hw rfl k).elim, fun k => (part_clash hw rfl
    k).elim, fun k => (part_clash hw rfl k).elim, fun k => (part_clash hw rfl k).elim, fun k => (part_clash hw rfl
    k).elim, fun k => (part_clash hw rfl k).elim, fun k => (part_clash hw rfl k).elim, fun k => (part_clash hw rfl
    k).elim, fun k => (part_clash hw rfl k).elim, fun k => (part_clash hw rfl k).elim, fun k => (part_clash hw rfl
    k).elim, hs.msgs, hs.reply, fun k => (part_clash hw rfl k).elim, hs.wire, fun k => (part_clash hw rfl k).elim, fun
    k => (part_clash hw rfl k).elim, fun k => (part_clash hw rfl k).elim, fun k => (part_clash hw rfl k).elim, fun k
    => (part_clash hw rfl k).elim, fun k => (part_clash hw rfl k).elim, fun k => (part_clash hw rfl k).elim, fun k =>
    (part_clash hw rfl k).elim, fun k => (part_clash hw rfl k).elim, fun k => (part_clash hw rfl k).elim, fun k =>
    (part_clash hw rfl k).elim, fun k => (part_clash hw rfl k).elim, fun k => (part_clash hw rfl k).elim, fun k =>
    (part_clash hw rfl k).elim, fun k => (part_clash hw rfl k).elim, fun k => (part_clash hw rfl k).elim, fun k =>
    (part_clash hw rfl k).elim, fun k => (part_clash hw rfl k).elim, fun k => (part_clash hw rfl k).elim, fun k =>
    (part_clash hw rfl k).elim, fun k => (part_clash hw rfl k).elim, fun k => (part_clash hw rfl k).elim, fun k =>
    (part_clash hw rfl k).elim, fun k => (part_clash hw rfl k).elim⟩

theorem keeps_powerOn {W : Nat} {a₀ : State} (s : State) (order : List Rail) (porst : Bool) (perst : Bool) (hw :
    0x7fffffa7fff8 &&& W = 0x7fffffa7fff8) (hs : Keeps W a₀ s) :
    Keeps W a₀ (powerOn s order porst perst) := by
  unfold powerOn
  try dsimp only
  with_reducible repeat' first
    | assumption | exact part_sub rfl hw | apply keeps_blankDevice | apply keeps_ite | split

theorem keeps_execPowerOn {W : Nat} {a₀ : State} (order : List Rail) (porst : Bool) (perst : Bool) (s : State) (hw :
    0x7fffffa7fff8 &&& W = 0x7fffffa7fff8) (hs : Keeps W a₀ s) :
    KeepsOut W a₀ (execPowerOn order porst perst s) := by
  unfold execPowerOn
  try dsimp only
  with_reducible apply KeepsOut.next
  with_reducible repeat' first
    | assumption | exact part_sub rfl hw | apply keeps_powerOn

theorem keeps_seqRecord {W : Nat} {a₀ : State} (s : State) (hw : 0x400000000144 &&& W = 0x400000000144) (hs : Keeps W
    a₀ s) :
    Keeps W a₀ (seqRecord s) := by
  unfold seqRecord
  try dsimp only
  with_reducible repeat' first
    | assumption | exact part_sub rfl hw | exact id | intro _ | apply keeps_commitRec | apply keeps_takeFree
    | apply keeps_ite | refine keeps_of_pair (by assumption) ?_ | refine keeps_of_pair_first (by assumption) ?_
    | refine keeps_of_triple (by assumption) ?_ | dsimp only | split | apply Keeps.set_pow_isl

theorem keeps_execSeqErrorRecordCommit {W : Nat} {a₀ : State} (s : State) (hw : 0x400000000144 &&& W = 0x400000000144)
    (hs : Keeps W a₀ s) :
    KeepsOut W a₀ (execSeqErrorRecordCommit s) := by
  unfold execSeqErrorRecordCommit
  try dsimp only
  with_reducible apply KeepsOut.next
  with_reducible repeat' first
    | assumption | exact part_sub rfl hw | apply keeps_seqRecord

theorem keeps_powerLost {W : Nat} {a₀ : State} (s : State) (hw : 0x7fffffa7fff8 &&& W = 0x7fffffa7fff8) (hs : Keeps W
    a₀ s) :
    Keeps W a₀ (powerLost s) := by
  exact ⟨hs.pending, hs.now, fun _ => memory_wf_reset, fun _ => rfl, fun _ => rfl, hs.taken, fun k => (part_clash hw
    rfl k).elim, fun k => (part_clash hw rfl k).elim, fun k => (part_clash hw rfl k).elim, fun k => (part_clash hw rfl
    k).elim, fun k => (part_clash hw rfl k).elim, fun k => (part_clash hw rfl k).elim, fun k => (part_clash hw rfl
    k).elim, fun k => (part_clash hw rfl k).elim, fun k => (part_clash hw rfl k).elim, fun k => (part_clash hw rfl
    k).elim, fun k => (part_clash hw rfl k).elim, fun k => (part_clash hw rfl k).elim, fun k => (part_clash hw rfl
    k).elim, fun k => (part_clash hw rfl k).elim, fun k => (part_clash hw rfl k).elim, fun k => (part_clash hw rfl
    k).elim, hs.msgs, hs.reply, fun k => (part_clash hw rfl k).elim, hs.wire, fun k => (part_clash hw rfl k).elim, fun
    k => (part_clash hw rfl k).elim, fun k => (part_clash hw rfl k).elim, fun k => (part_clash hw rfl k).elim, fun k
    => (part_clash hw rfl k).elim, fun k => (part_clash hw rfl k).elim, fun k => (part_clash hw rfl k).elim, fun k =>
    (part_clash hw rfl k).elim, fun k => (part_clash hw rfl k).elim, fun k => (part_clash hw rfl k).elim, fun k =>
    (part_clash hw rfl k).elim, fun k => (part_clash hw rfl k).elim, fun k => (part_clash hw rfl k).elim, fun k =>
    (part_clash hw rfl k).elim, fun k => (part_clash hw rfl k).elim, fun k => (part_clash hw rfl k).elim, fun k =>
    (part_clash hw rfl k).elim, fun k => (part_clash hw rfl k).elim, fun k => (part_clash hw rfl k).elim, fun k =>
    (part_clash hw rfl k).elim, fun k => (part_clash hw rfl k).elim, fun k => (part_clash hw rfl k).elim, fun k =>
    (part_clash hw rfl k).elim, fun k => (part_clash hw rfl k).elim⟩

theorem keeps_supplyLeaves {W : Nat} {a₀ : State} (s : State) (r : Rail) (hw : 0x7fffffa7fff8 &&& W = 0x7fffffa7fff8)
    (hs : Keeps W a₀ s) :
    Keeps W a₀ (supplyLeaves s r) := by
  unfold supplyLeaves
  try dsimp only
  with_reducible repeat' first
    | assumption | exact part_sub rfl hw | exact id | intro _ | apply keeps_powerLost | apply keeps_ite | dsimp only
    | split | apply Keeps.set_pow

theorem keeps_execSupplyLeavesTolerance {W : Nat} {a₀ : State} (r : Rail) (s : State) (hw : 0x7fffffa7fff8 &&& W =
    0x7fffffa7fff8) (hs : Keeps W a₀ s) :
    KeepsOut W a₀ (execSupplyLeavesTolerance r s) := by
  unfold execSupplyLeavesTolerance
  try dsimp only
  with_reducible apply KeepsOut.next
  with_reducible repeat' first
    | assumption | exact part_sub rfl hw | apply keeps_supplyLeaves

theorem keeps_strapRegs {W : Nat} {a₀ : State} (s : State) (hw : 0x8 &&& W = 0x8) (hs : Keeps W a₀ s) :
    Keeps W a₀ (strapRegs s) := by
  unfold strapRegs
  try dsimp only
  with_reducible repeat' first
    | assumption | exact part_sub rfl hw | intro _ | apply keeps_State_setF | apply keeps_foldl
    | apply keeps_foldl_first | dsimp only

theorem keeps_deviceReset {W : Nat} {a₀ : State} (s : State) (hw : 0x7fffffa7fff8 &&& W = 0x7fffffa7fff8) (hs : Keeps
    W a₀ s) :
    Keeps W a₀ (deviceReset s) := by
  unfold deviceReset
  try dsimp only
  with_reducible repeat' first
    | assumption | exact part_sub rfl hw | apply keeps_State_reportIf | apply keeps_State_setRn
    | apply keeps_blankDevice | apply keeps_strapRegs | apply keeps_ite | split

theorem keeps_porstFall {W : Nat} {a₀ : State} (s : State) (hw : 0x7fffffa7fff8 &&& W = 0x7fffffa7fff8) (hs : Keeps W
    a₀ s) :
    Keeps W a₀ (porstFall s) := by
  unfold porstFall
  try dsimp only
  with_reducible repeat' first
    | assumption | exact part_sub rfl hw | exact id | intro _ | apply keeps_deviceReset | apply keeps_resetCause
    | apply keeps_ite | split | apply Keeps.set_pow

theorem keeps_execPorstNFall {W : Nat} {a₀ : State} (s : State) (hw : 0x7fffffa7fff8 &&& W = 0x7fffffa7fff8) (hs :
    Keeps W a₀ s) :
    KeepsOut W a₀ (execPorstNFall s) := by
  unfold execPorstNFall
  try dsimp only
  with_reducible apply KeepsOut.next
  with_reducible repeat' first
    | assumption | exact part_sub rfl hw | apply keeps_porstFall

theorem keeps_bootStart {W : Nat} {a₀ : State} (s : State) (hw : 0x40 &&& W = 0x40) (hs : Keeps W a₀ s) :
    Keeps W a₀ (bootStart s) := by
  unfold bootStart
  try dsimp only
  with_reducible repeat' first
    | assumption | exact part_sub rfl hw | exact id | intro _ | apply Keeps.set_pow

theorem keeps_leaveReset {W : Nat} {a₀ : State} (s : State) (hw : 0x40 &&& W = 0x40) (hs : Keeps W a₀ s) :
    Keeps W a₀ (leaveReset s) := by
  unfold leaveReset
  try dsimp only
  with_reducible repeat' first
    | assumption | exact part_sub rfl hw | apply keeps_bootStart | apply keeps_ite | split

theorem keeps_porstRise {W : Nat} {a₀ : State} (s : State) (s400 : Nat) (s200 : Nat) (s0 : Nat) (hw : 0x48 &&& W =
    0x48) (hs : Keeps W a₀ s) :
    Keeps W a₀ (porstRise s s400 s200 s0) := by
  unfold porstRise
  try dsimp only
  with_reducible repeat' first
    | assumption | exact part_sub rfl hw | exact id | intro _ | apply keeps_leaveReset | apply keeps_strapRegs
    | apply keeps_ite | split | apply Keeps.set_pow

theorem keeps_execPorstNRise {W : Nat} {a₀ : State} (s400 : Nat) (s200 : Nat) (s0 : Nat) (s : State) (hw : 0x48 &&& W
    = 0x48) (hs : Keeps W a₀ s) :
    KeepsOut W a₀ (execPorstNRise s400 s200 s0 s) := by
  unfold execPorstNRise
  try dsimp only
  with_reducible apply KeepsOut.next
  with_reducible repeat' first
    | assumption | exact part_sub rfl hw | apply keeps_porstRise

theorem keeps_holdReset {W : Nat} {a₀ : State} (s : State) (cause : Fld) (hw : 0x7fffffa7fff8 &&& W = 0x7fffffa7fff8)
    (hs : Keeps W a₀ s) :
    Keeps W a₀ (holdReset s cause) := by
  unfold holdReset
  try dsimp only
  with_reducible repeat' first
    | assumption | exact part_sub rfl hw | exact id | intro _ | apply keeps_deviceReset | apply keeps_resetCause
    | apply Keeps.set_pow

theorem keeps_brownout {W : Nat} {a₀ : State} (s : State) (r : Rail) (hw : 0x7fffffa7fff8 &&& W = 0x7fffffa7fff8) (hs
    : Keeps W a₀ s) :
    Keeps W a₀ (brownout s r) := by
  unfold brownout
  try dsimp only
  with_reducible repeat' first
    | assumption | exact part_sub rfl hw | apply keeps_holdReset | apply keeps_ite | dsimp only | split

theorem keeps_execBrownout {W : Nat} {a₀ : State} (r : Rail) (s : State) (hw : 0x7fffffa7fff8 &&& W = 0x7fffffa7fff8)
    (hs : Keeps W a₀ s) :
    KeepsOut W a₀ (execBrownout r s) := by
  unfold execBrownout
  try dsimp only
  with_reducible apply KeepsOut.next
  with_reducible repeat' first
    | assumption | exact part_sub rfl hw | apply keeps_brownout

theorem keeps_execDevReset {W : Nat} {a₀ : State} (v : Word) (s : State) (hw : 0x40 &&& W = 0x40) (hs : Keeps W a₀ s) :
    KeepsOut W a₀ (execDevReset v s) := by
  unfold execDevReset
  try dsimp only
  with_reducible apply KeepsOut.next
  with_reducible repeat' first
    | assumption | exact part_sub rfl hw | apply keeps_devReset

theorem keeps_resetEffect {W : Nat} {a₀ : State} (s : State) (hw : 0x7fffffa7fff8 &&& W = 0x7fffffa7fff8) (hs : Keeps
    W a₀ s) :
    Keeps W a₀ (resetEffect s) := by
  unfold resetEffect
  try dsimp only
  with_reducible repeat' first
    | assumption | exact part_sub rfl hw | apply keeps_holdReset | apply keeps_ite | split

theorem keeps_execDeviceResetEffect {W : Nat} {a₀ : State} (s : State) (hw : 0x7fffffa7fff8 &&& W = 0x7fffffa7fff8)
    (hs : Keeps W a₀ s) :
    KeepsOut W a₀ (execDeviceResetEffect s) := by
  unfold execDeviceResetEffect
  try dsimp only
  with_reducible apply KeepsOut.next
  with_reducible repeat' first
    | assumption | exact part_sub rfl hw | apply keeps_resetEffect

theorem keeps_internalRelease {W : Nat} {a₀ : State} (s : State) (hw : 0x40 &&& W = 0x40) (hs : Keeps W a₀ s) :
    Keeps W a₀ (internalRelease s) := by
  unfold internalRelease
  try dsimp only
  with_reducible repeat' first
    | assumption | exact part_sub rfl hw | exact id | intro _ | apply keeps_leaveReset | apply keeps_ite | split
    | apply Keeps.set_pow

theorem keeps_execInternalRelease {W : Nat} {a₀ : State} (s : State) (hw : 0x40 &&& W = 0x40) (hs : Keeps W a₀ s) :
    KeepsOut W a₀ (execInternalRelease s) := by
  unfold execInternalRelease
  try dsimp only
  with_reducible apply KeepsOut.next
  with_reducible repeat' first
    | assumption | exact part_sub rfl hw | apply keeps_internalRelease

theorem keeps_perstFall {W : Nat} {a₀ : State} (s : State) (hw : 0x21408428074c &&& W = 0x21408428074c) (hs : Keeps W
    a₀ s) :
    Keeps W a₀ (perstFall s) := by
  unfold perstFall
  try dsimp only
  with_reducible repeat' first
    | assumption | exact part_sub rfl hw | exact id | intro _ | apply keeps_hostScope | apply keeps_resetCause
    | apply keeps_ite | split | apply Keeps.set_pow

theorem keeps_execPerstNFall {W : Nat} {a₀ : State} (s : State) (hw : 0x21408428074c &&& W = 0x21408428074c) (hs :
    Keeps W a₀ s) :
    KeepsOut W a₀ (execPerstNFall s) := by
  unfold execPerstNFall
  try dsimp only
  with_reducible apply KeepsOut.next
  with_reducible repeat' first
    | assumption | exact part_sub rfl hw | apply keeps_perstFall

theorem keeps_perstRise {W : Nat} {a₀ : State} (s : State) (hw : 0x48 &&& W = 0x48) (hs : Keeps W a₀ s) :
    Keeps W a₀ (perstRise s) := by
  unfold perstRise
  try dsimp only
  with_reducible repeat' first
    | assumption | exact part_sub rfl hw | exact id | intro _ | apply keeps_pcieWake | apply keeps_ite | split
    | apply Keeps.set_pow

theorem keeps_execPerstNRise {W : Nat} {a₀ : State} (s : State) (hw : 0x48 &&& W = 0x48) (hs : Keeps W a₀ s) :
    KeepsOut W a₀ (execPerstNRise s) := by
  unfold execPerstNRise
  try dsimp only
  with_reducible apply KeepsOut.next
  with_reducible repeat' first
    | assumption | exact part_sub rfl hw | apply keeps_perstRise

theorem keeps_perstTimeout {W : Nat} {a₀ : State} (s : State) (hw : 0x48 &&& W = 0x48) (hs : Keeps W a₀ s) :
    Keeps W a₀ (perstTimeout s) := by
  unfold perstTimeout
  try dsimp only
  with_reducible repeat' first
    | assumption | exact part_sub rfl hw | apply keeps_domDrain | apply keeps_ite | split

theorem keeps_execPcieDomainPerstTimeout {W : Nat} {a₀ : State} (s : State) (hw : 0x48 &&& W = 0x48) (hs : Keeps W a₀
    s) :
    KeepsOut W a₀ (execPcieDomainPerstTimeout s) := by
  unfold execPcieDomainPerstTimeout
  try dsimp only
  with_reducible apply KeepsOut.next
  with_reducible repeat' first
    | assumption | exact part_sub rfl hw | apply keeps_hub | apply keeps_perstTimeout

theorem keeps_execHotReset {W : Nat} {a₀ : State} (s : State) (hw : 0x21408428070c &&& W = 0x21408428070c) (hs : Keeps
    W a₀ s) :
    KeepsOut W a₀ (execHotReset s) := by
  unfold execHotReset
  try dsimp only
  with_reducible apply KeepsOut.next
  with_reducible repeat' first
    | assumption | exact part_sub rfl hw | apply keeps_hostScope | apply keeps_hub | apply keeps_resetCause
    | apply keeps_ite | split

theorem keeps_execFunctionLevelReset {W : Nat} {a₀ : State} (s : State) (hw : 0x21408428070c &&& W = 0x21408428070c)
    (hs : Keeps W a₀ s) :
    KeepsOut W a₀ (execFunctionLevelReset s) := by
  unfold execFunctionLevelReset
  try dsimp only
  with_reducible apply KeepsOut.next
  with_reducible repeat' first
    | assumption | exact part_sub rfl hw | apply keeps_functionReset | apply keeps_hub | apply keeps_ite | split

theorem keeps_execTrstNLow {W : Nat} {a₀ : State} (s : State) (hs : Keeps W a₀ s) :
    KeepsOut W a₀ (execTrstNLow s) := by
  unfold execTrstNLow
  try dsimp only
  with_reducible apply KeepsOut.next
  with_reducible repeat' first
    | assumption

theorem keeps_execCrTail {W : Nat} {a₀ : State} (i : Nat) (v : Word) (s : State) (hw : 0x280208 &&& W = 0x280208) (hs
    : Keeps W a₀ s) :
    KeepsOut W a₀ (execCrTail i v s) := by
  unfold execCrTail
  try dsimp only
  with_reducible apply KeepsOut.next
  with_reducible repeat' first
    | assumption | exact part_sub rfl hw | intro _ | apply keeps_crTail | apply keeps_doorbell | apply keeps_hub
    | refine keeps_of_pair (by assumption) ?_ | refine keeps_of_pair_first (by assumption) ?_
    | refine keeps_of_triple (by assumption) ?_ | dsimp only

theorem keeps_execCqHead {W : Nat} {a₀ : State} (j : Nat) (v : Word) (s : State) (hw : 0x680208 &&& W = 0x680208) (hs
    : Keeps W a₀ s) :
    KeepsOut W a₀ (execCqHead j v s) := by
  unfold execCqHead
  try dsimp only
  with_reducible apply KeepsOut.next
  with_reducible repeat' first
    | assumption | exact part_sub rfl hw | intro _ | apply keeps_cqHead | apply keeps_doorbell | apply keeps_hub
    | refine keeps_of_pair (by assumption) ?_ | refine keeps_of_pair_first (by assumption) ?_
    | refine keeps_of_triple (by assumption) ?_ | dsimp only

theorem keeps_execSrTail {W : Nat} {a₀ : State} (k : Nat) (v : Word) (s : State) (hw : 0x280208 &&& W = 0x280208) (hs
    : Keeps W a₀ s) :
    KeepsOut W a₀ (execSrTail k v s) := by
  unfold execSrTail
  try dsimp only
  with_reducible apply KeepsOut.next
  with_reducible repeat' first
    | assumption | exact part_sub rfl hw | intro _ | apply keeps_doorbell | apply keeps_hub | apply keeps_srTail
    | refine keeps_of_pair (by assumption) ?_ | refine keeps_of_pair_first (by assumption) ?_
    | refine keeps_of_triple (by assumption) ?_ | dsimp only

theorem keeps_execKick {W : Nat} {a₀ : State} (v : Word) (s : State) (hw : 0x200000 &&& W = 0x200000) (hs : Keeps W a₀
    s) :
    KeepsOut W a₀ (execKick v s) := by
  unfold execKick
  try dsimp only
  with_reducible apply KeepsOut.next
  with_reducible repeat' first
    | assumption | exact part_sub rfl hw | apply keeps_hub | apply keeps_shadowRead | apply keeps_ite | split

theorem keeps_execShadowPoll {W : Nat} {a₀ : State} (s : State) (hw : 0x200000 &&& W = 0x200000) (hs : Keeps W a₀ s) :
    KeepsOut W a₀ (execShadowPoll s) := by
  unfold execShadowPoll
  try dsimp only
  with_reducible apply KeepsOut.next
  with_reducible repeat' first
    | assumption | exact part_sub rfl hw | apply keeps_hub | apply keeps_shadowRead

theorem keeps_shadowApply {W : Nat} {a₀ : State} (s : State) (bs : List Byte) (hw : 0x680208 &&& W = 0x680208) (hs :
    Keeps W a₀ s) :
    Keeps W a₀ (shadowApply s bs) := by
  unfold shadowApply
  try dsimp only
  with_reducible repeat' first
    | assumption | exact part_sub rfl hw | intro _ | apply keeps_cqHead | apply keeps_crTail | apply keeps_srTail
    | apply keeps_foldl | apply keeps_foldl_first | dsimp only

theorem keeps_shadowDone {W : Nat} {a₀ : State} (s : State) (r : HostData) (hw : 0x68030c &&& W = 0x68030c) (hs :
    Keeps W a₀ s) :
    Keeps W a₀ (shadowDone s r) := by
  unfold shadowDone
  try dsimp only
  with_reducible repeat' first
    | assumption | exact part_sub rfl hw | exact id | intro _ | apply keeps_State_ev | apply keeps_poisonRx
    | apply keeps_shadowApply | apply keeps_ite | dsimp only | split | apply Keeps.set_ring

theorem keeps_execShadowReadDone {W : Nat} {a₀ : State} (r : HostData) (s : State) (hw : 0x68030c &&& W = 0x68030c)
    (hs : Keeps W a₀ s) :
    KeepsOut W a₀ (execShadowReadDone r s) := by
  unfold execShadowReadDone
  try dsimp only
  with_reducible apply KeepsOut.next
  with_reducible repeat' first
    | assumption | exact part_sub rfl hw | apply keeps_hub | apply keeps_shadowDone

theorem keeps_execRingEnable {W : Nat} {a₀ : State} (n : Nat) (v : Word) (s : State) (hw : 0x280208 &&& W = 0x280208)
    (hs : Keeps W a₀ s) :
    KeepsOut W a₀ (execRingEnable n v s) := by
  unfold execRingEnable
  try dsimp only
  with_reducible apply KeepsOut.next
  with_reducible repeat' first
    | assumption | exact part_sub rfl hw | apply keeps_hub | apply keeps_ringEnable

theorem keeps_fetch {W : Nat} {a₀ : State} (s : State) (entry : HostData) (payload : HostData) (hw : 0x68030c &&& W =
    0x68030c) (hs : Keeps W a₀ s) :
    Keeps W a₀ (fetch s entry payload) := by
  unfold fetch
  try dsimp only
  with_reducible repeat' first
    | assumption | exact part_sub rfl hw | exact id | intro _ | apply keeps_State_ev | apply keeps_State_setF
    | apply keeps_asyncPost | apply keeps_complete | apply keeps_poisonRx | apply keeps_ite | dsimp only | split
    | apply Keeps.set_ring

theorem keeps_execCommandFetch {W : Nat} {a₀ : State} (entry : HostData) (payload : HostData) (s : State) (hw :
    0x68030c &&& W = 0x68030c) (hs : Keeps W a₀ s) :
    KeepsOut W a₀ (execCommandFetch entry payload s) := by
  unfold execCommandFetch
  try dsimp only
  with_reducible apply KeepsOut.next
  with_reducible repeat' first
    | assumption | exact part_sub rfl hw | apply keeps_fetch | apply keeps_hub

theorem keeps_cmdNop {W : Nat} {a₀ : State} (s : State) (c : Cmd) (hw : 0x680208 &&& W = 0x680208) (hs : Keeps W a₀ s) :
    Keeps W a₀ (cmdNop s c) := by
  unfold cmdNop
  try dsimp only
  with_reducible repeat' first
    | assumption | exact part_sub rfl hw | apply keeps_complete | apply keeps_ite | split

theorem keeps_execNop {W : Nat} {a₀ : State} (s : State) (hw : 0x680208 &&& W = 0x680208) (hs : Keeps W a₀ s) :
    KeepsOut W a₀ (execNop s) := by
  unfold execNop
  try dsimp only
  with_reducible apply KeepsOut.next
  with_reducible repeat' first
    | assumption | exact part_sub rfl hw | intro _ | apply keeps_cmdNop | apply keeps_hub | apply keeps_onCmd
    | refine keeps_of_pair (by assumption) ?_ | refine keeps_of_pair_first (by assumption) ?_
    | refine keeps_of_triple (by assumption) ?_ | dsimp only

theorem keeps_cmdBind {W : Nat} {a₀ : State} (s : State) (c : Cmd) (hw : 0x680208 &&& W = 0x680208) (hs : Keeps W a₀
    s) :
    Keeps W a₀ (cmdBind s c) := by
  unfold cmdBind
  try dsimp only
  with_reducible repeat' first
    | assumption | exact part_sub rfl hw | exact id | intro _ | apply keeps_State_setF | apply keeps_State_setRn
    | apply keeps_complete | apply keeps_ite | dsimp only | split | apply Keeps.set_ring

theorem keeps_cmdUnbind {W : Nat} {a₀ : State} (s : State) (c : Cmd) (hw : 0x680208 &&& W = 0x680208) (hs : Keeps W a₀
    s) :
    Keeps W a₀ (cmdUnbind s c) := by
  unfold cmdUnbind
  try dsimp only
  with_reducible repeat' first
    | assumption | exact part_sub rfl hw | apply keeps_complete | apply keeps_unbind | apply keeps_ite | dsimp only
    | split

theorem keeps_execStreamBind {W : Nat} {a₀ : State} (s : State) (hw : 0x680208 &&& W = 0x680208) (hs : Keeps W a₀ s) :
    KeepsOut W a₀ (execStreamBind s) := by
  unfold execStreamBind
  try dsimp only
  with_reducible apply KeepsOut.next
  with_reducible repeat' first
    | assumption | exact part_sub rfl hw | intro _ | apply keeps_cmdBind | apply keeps_hub | apply keeps_onCmd
    | apply keeps_ite | refine keeps_of_pair (by assumption) ?_ | refine keeps_of_pair_first (by assumption) ?_
    | refine keeps_of_triple (by assumption) ?_ | dsimp only | split

theorem keeps_execStreamUnbind {W : Nat} {a₀ : State} (s : State) (hw : 0x680208 &&& W = 0x680208) (hs : Keeps W a₀ s) :
    KeepsOut W a₀ (execStreamUnbind s) := by
  unfold execStreamUnbind
  try dsimp only
  with_reducible apply KeepsOut.next
  with_reducible repeat' first
    | assumption | exact part_sub rfl hw | intro _ | apply keeps_cmdUnbind | apply keeps_hub | apply keeps_onCmd
    | apply keeps_ite | refine keeps_of_pair (by assumption) ?_ | refine keeps_of_pair_first (by assumption) ?_
    | refine keeps_of_triple (by assumption) ?_ | dsimp only | split

theorem keeps_coalesce {W : Nat} {a₀ : State} (s : State) (j : Nat) (hw : 0x280208 &&& W = 0x280208) (hs : Keeps W a₀
    s) :
    Keeps W a₀ (coalesce s j) := by
  unfold coalesce
  try dsimp only
  with_reducible repeat' first
    | assumption | exact part_sub rfl hw | apply keeps_cqSignal | apply keeps_ite | split

theorem keeps_execCoalesceTimeout {W : Nat} {a₀ : State} (j : Nat) (s : State) (hw : 0x280208 &&& W = 0x280208) (hs :
    Keeps W a₀ s) :
    KeepsOut W a₀ (execCoalesceTimeout j s) := by
  unfold execCoalesceTimeout
  try dsimp only
  with_reducible apply KeepsOut.next
  with_reducible repeat' first
    | assumption | exact part_sub rfl hw | apply keeps_coalesce | apply keeps_hub

theorem keeps_execIntRouteWrite {W : Nat} {a₀ : State} (src : Nat) (v : Word) (s : State) (hw : 0x280208 &&& W =
    0x280208) (hs : Keeps W a₀ s) :
    KeepsOut W a₀ (execIntRouteWrite src v s) := by
  unfold execIntRouteWrite
  try dsimp only
  with_reducible apply KeepsOut.next
  with_reducible repeat' first
    | assumption | exact part_sub rfl hw | apply keeps_hub | apply keeps_intRoute

theorem keeps_execMsixUnmask {W : Nat} {a₀ : State} (vec : Nat) (s : State) (hw : 0x80208 &&& W = 0x80208) (hs : Keeps
    W a₀ s) :
    KeepsOut W a₀ (execMsixUnmask vec s) := by
  unfold execMsixUnmask
  try dsimp only
  with_reducible apply KeepsOut.next
  with_reducible repeat' first
    | assumption | exact part_sub rfl hw | apply keeps_hub | apply keeps_msixUnmask

theorem keeps_txnEnd {W : Nat} {a₀ : State} (s : State) (n : Nat) (nackAt : Option Nat) (b : Byte) (hw : 0x785708 &&&
    W = 0x785708) (hs : Keeps W a₀ s) :
    Keeps W a₀ (txnEnd s n nackAt b) := by
  unfold txnEnd
  try dsimp only
  with_reducible repeat' first
    | assumption | exact part_sub rfl hw | apply keeps_endTxn | apply keeps_ite | dsimp only | split

theorem keeps_beginTxn {W : Nat} {a₀ : State} (s : State) (n : Nat) (t : SccTxn) (hw : 0x1008 &&& W = 0x1008) (hs :
    Keeps W a₀ s) :
    Keeps W a₀ (beginTxn s n t) := by
  unfold beginTxn
  try dsimp only
  with_reducible repeat' first
    | assumption | exact part_sub rfl hw | apply keeps_sccRest | apply keeps_setScc

theorem keeps_refuseBridge {W : Nat} {a₀ : State} (s : State) (n : Nat) (r : Nat) (hw : 0x784708 &&& W = 0x784708) (hs
    : Keeps W a₀ s) :
    Keeps W a₀ (refuseBridge s n r) := by
  unfold refuseBridge
  try dsimp only
  with_reducible repeat' first
    | assumption | exact part_sub rfl hw | apply keeps_returnResult | apply keeps_sccResult | dsimp only | split

theorem keeps_txnStart {W : Nat} {a₀ : State} (s : State) (n : Nat) (hw : 0x785708 &&& W = 0x785708) (hs : Keeps W a₀
    s) :
    Keeps W a₀ (txnStart s n) := by
  unfold txnStart
  try dsimp only
  with_reducible repeat' first
    | assumption | exact part_sub rfl hw | apply keeps_State_setF | apply keeps_beginTxn | apply keeps_byteBegins
    | apply keeps_refuseBridge | apply keeps_setScc | apply keeps_ite | dsimp only | split

theorem keeps_burstStart {W : Nat} {a₀ : State} (s : State) (n : Nat) (hw : 0x5008 &&& W = 0x5008) (hs : Keeps W a₀ s) :
    Keeps W a₀ (burstStart s n) := by
  unfold burstStart
  try dsimp only
  with_reducible repeat' first
    | assumption | exact part_sub rfl hw | intro _ | apply keeps_beginTxn | apply keeps_setEsc | apply keeps_ite
    | apply keeps_foldl | apply keeps_foldl_first | dsimp only | split

theorem keeps_arbLost {W : Nat} {a₀ : State} (s : State) (n : Nat) (begun : Bool) (hw : 0x785708 &&& W = 0x785708) (hs
    : Keeps W a₀ s) :
    Keeps W a₀ (arbLost s n begun) := by
  unfold arbLost
  try dsimp only
  with_reducible repeat' first
    | assumption | exact part_sub rfl hw | apply keeps_State_bump | apply keeps_State_setF | apply keeps_endTxn
    | apply keeps_setScc | apply keeps_ite | split

theorem keeps_busyTimeout {W : Nat} {a₀ : State} (s : State) (n : Nat) (hw : 0x785708 &&& W = 0x785708) (hs : Keeps W
    a₀ s) :
    Keeps W a₀ (busyTimeout s n) := by
  unfold busyTimeout
  try dsimp only
  with_reducible repeat' first
    | assumption | exact part_sub rfl hw | apply keeps_burstStart | apply keeps_endTxn | apply keeps_txnStart
    | apply keeps_ite | split

theorem keeps_execSccEnable {W : Nat} {a₀ : State} (n : Nat) (v : Word) (check : BusCheck) (s : State) (hw : 0x785708
    &&& W = 0x785708) (hs : Keeps W a₀ s) :
    KeepsOut W a₀ (execSccEnable n v check s) := by
  unfold execSccEnable
  try dsimp only
  with_reducible apply KeepsOut.next
  with_reducible repeat' first
    | assumption | exact part_sub rfl hw | apply keeps_hub | apply keeps_sccCtrl

theorem keeps_execSccDisable {W : Nat} {a₀ : State} (n : Nat) (v : Word) (begun : Bool) (s : State) (hw : 0x785708 &&&
    W = 0x785708) (hs : Keeps W a₀ s) :
    KeepsOut W a₀ (execSccDisable n v begun s) := by
  unfold execSccDisable
  try dsimp only
  with_reducible apply KeepsOut.next
  with_reducible repeat' first
    | assumption | exact part_sub rfl hw | apply keeps_hub | apply keeps_sccCtrl

theorem keeps_execSccSoftReset {W : Nat} {a₀ : State} (n : Nat) (v : Word) (begun : Bool) (check : BusCheck) (s :
    State) (hw : 0x785708 &&& W = 0x785708) (hs : Keeps W a₀ s) :
    KeepsOut W a₀ (execSccSoftReset n v begun check s) := by
  unfold execSccSoftReset
  try dsimp only
  with_reducible apply KeepsOut.next
  with_reducible repeat' first
    | assumption | exact part_sub rfl hw | apply keeps_hub | apply keeps_sccCtrl

theorem keeps_execSccRecover {W : Nat} {a₀ : State} (n : Nat) (v : Word) (check : BusCheck) (s : State) (hw : 0x785708
    &&& W = 0x785708) (hs : Keeps W a₀ s) :
    KeepsOut W a₀ (execSccRecover n v check s) := by
  unfold execSccRecover
  try dsimp only
  with_reducible apply KeepsOut.next
  with_reducible repeat' first
    | assumption | exact part_sub rfl hw | apply keeps_hub | apply keeps_sccCtrl

theorem keeps_recoveryEnd {W : Nat} {a₀ : State} (s : State) (n : Nat) (c : BusCheck) (hw : 0x81308 &&& W = 0x81308)
    (hs : Keeps W a₀ s) :
    Keeps W a₀ (recoveryEnd s n c) := by
  unfold recoveryEnd
  try dsimp only
  with_reducible repeat' first
    | assumption | exact part_sub rfl hw | apply keeps_busCheck | apply keeps_ite | split

theorem keeps_execSccRecoveryWaitEnd {W : Nat} {a₀ : State} (n : Nat) (check : BusCheck) (s : State) (hw : 0x81308 &&&
    W = 0x81308) (hs : Keeps W a₀ s) :
    KeepsOut W a₀ (execSccRecoveryWaitEnd n check s) := by
  unfold execSccRecoveryWaitEnd
  try dsimp only
  with_reducible apply KeepsOut.next
  with_reducible repeat' first
    | assumption | exact part_sub rfl hw | apply keeps_hub | apply keeps_recoveryEnd

theorem keeps_execSccTransactionStart {W : Nat} {a₀ : State} (n : Nat) (s : State) (hw : 0x785708 &&& W = 0x785708)
    (hs : Keeps W a₀ s) :
    KeepsOut W a₀ (execSccTransactionStart n s) := by
  unfold execSccTransactionStart
  try dsimp only
  with_reducible apply KeepsOut.next
  with_reducible repeat' first
    | assumption | exact part_sub rfl hw | apply keeps_hub | apply keeps_txnStart

theorem keeps_execSccTransactionEnd {W : Nat} {a₀ : State} (n : Nat) (nackAt : Option Nat) (byte : Byte) (s : State)
    (hw : 0x785708 &&& W = 0x785708) (hs : Keeps W a₀ s) :
    KeepsOut W a₀ (execSccTransactionEnd n nackAt byte s) := by
  unfold execSccTransactionEnd
  try dsimp only
  with_reducible apply KeepsOut.next
  with_reducible repeat' first
    | assumption | exact part_sub rfl hw | apply keeps_hub | apply keeps_txnEnd

theorem keeps_execArbitrationLost {W : Nat} {a₀ : State} (n : Nat) (begun : Bool) (s : State) (hw : 0x785708 &&& W =
    0x785708) (hs : Keeps W a₀ s) :
    KeepsOut W a₀ (execArbitrationLost n begun s) := by
  unfold execArbitrationLost
  try dsimp only
  with_reducible apply KeepsOut.next
  with_reducible repeat' first
    | assumption | exact part_sub rfl hw | apply keeps_arbLost | apply keeps_hub

theorem keeps_execBusErrorDetected {W : Nat} {a₀ : State} (n : Nat) (begun : Bool) (s : State) (hw : 0x785708 &&& W =
    0x785708) (hs : Keeps W a₀ s) :
    KeepsOut W a₀ (execBusErrorDetected n begun s) := by
  unfold execBusErrorDetected
  try dsimp only
  with_reducible apply KeepsOut.next
  with_reducible repeat' first
    | assumption | exact part_sub rfl hw | apply keeps_endTxn | apply keeps_hub

theorem keeps_execSclStretchTimeout {W : Nat} {a₀ : State} (n : Nat) (begun : Bool) (s : State) (hw : 0x785708 &&& W =
    0x785708) (hs : Keeps W a₀ s) :
    KeepsOut W a₀ (execSclStretchTimeout n begun s) := by
  unfold execSclStretchTimeout
  try dsimp only
  with_reducible apply KeepsOut.next
  with_reducible repeat' first
    | assumption | exact part_sub rfl hw | apply keeps_endTxn | apply keeps_hub

theorem keeps_execBusyTimeout {W : Nat} {a₀ : State} (n : Nat) (s : State) (hw : 0x785708 &&& W = 0x785708) (hs :
    Keeps W a₀ s) :
    KeepsOut W a₀ (execBusyTimeout n s) := by
  unfold execBusyTimeout
  try dsimp only
  with_reducible apply KeepsOut.next
  with_reducible repeat' first
    | assumption | exact part_sub rfl hw | apply keeps_busyTimeout | apply keeps_hub

theorem keeps_lockExpiry {W : Nat} {a₀ : State} (s : State) (n : Nat) (hw : 0x81208 &&& W = 0x81208) (hs : Keeps W a₀
    s) :
    Keeps W a₀ (lockExpiry s n) := by
  unfold lockExpiry
  try dsimp only
  with_reducible repeat' first
    | assumption | exact part_sub rfl hw | apply keeps_loseLock | apply keeps_setScc | apply keeps_ite | split

theorem keeps_execLockRequest {W : Nat} {a₀ : State} (n : Nat) (s : State) (hw : 0x1008 &&& W = 0x1008) (hs : Keeps W
    a₀ s) :
    KeepsOut W a₀ (execLockRequest n s) := by
  unfold execLockRequest
  try dsimp only
  with_reducible apply KeepsOut.next
  with_reducible repeat' first
    | assumption | exact part_sub rfl hw | apply keeps_hub | apply keeps_lockRequest

theorem keeps_execLockEnd {W : Nat} {a₀ : State} (n : Nat) (s : State) (hw : 0x1008 &&& W = 0x1008) (hs : Keeps W a₀
    s) :
    KeepsOut W a₀ (execLockEnd n s) := by
  unfold execLockEnd
  try dsimp only
  with_reducible apply KeepsOut.next
  with_reducible repeat' first
    | assumption | exact part_sub rfl hw | apply keeps_hub | apply keeps_lockEnd

theorem keeps_execLockExpiry {W : Nat} {a₀ : State} (n : Nat) (s : State) (hw : 0x81208 &&& W = 0x81208) (hs : Keeps W
    a₀ s) :
    KeepsOut W a₀ (execLockExpiry n s) := by
  unfold execLockExpiry
  try dsimp only
  with_reducible apply KeepsOut.next
  with_reducible repeat' first
    | assumption | exact part_sub rfl hw | apply keeps_hub | apply keeps_lockExpiry

theorem keeps_windowOpens {W : Nat} {a₀ : State} (s : State) (p : Nat) (hw : 0x684308 &&& W = 0x684308) (hs : Keeps W
    a₀ s) :
    Keeps W a₀ (windowOpens s p) := by
  unfold windowOpens
  try dsimp only
  with_reducible repeat' first
    | assumption | exact part_sub rfl hw | apply keeps_failBus | apply keeps_setEsc | apply keeps_ite | dsimp only
    | split

theorem keeps_latestPassed {W : Nat} {a₀ : State} (s : State) (p : Nat) (hw : 0x684308 &&& W = 0x684308) (hs : Keeps W
    a₀ s) :
    Keeps W a₀ (latestPassed s p) := by
  unfold latestPassed
  try dsimp only
  with_reducible repeat' first
    | assumption | exact part_sub rfl hw | apply keeps_judgeLate | apply keeps_setEsc | dsimp only | split

theorem keeps_execEscProfileLoad {W : Nat} {a₀ : State} (p : Nat) (s : State) (hw : 0x84208 &&& W = 0x84208) (hs :
    Keeps W a₀ s) :
    KeepsOut W a₀ (execEscProfileLoad p s) := by
  unfold execEscProfileLoad
  try dsimp only
  with_reducible apply KeepsOut.next
  with_reducible repeat' first
    | assumption | exact part_sub rfl hw | apply keeps_hub | apply keeps_profileLoad

theorem keeps_execEscFlush {W : Nat} {a₀ : State} (p : Nat) (s : State) (hw : 0x684308 &&& W = 0x684308) (hs : Keeps W
    a₀ s) :
    KeepsOut W a₀ (execEscFlush p s) := by
  unfold execEscFlush
  try dsimp only
  with_reducible apply KeepsOut.next
  with_reducible repeat' first
    | assumption | exact part_sub rfl hw | apply keeps_escFlush | apply keeps_hub

theorem keeps_execWriteWindowOpen {W : Nat} {a₀ : State} (p : Nat) (s : State) (hw : 0x684308 &&& W = 0x684308) (hs :
    Keeps W a₀ s) :
    KeepsOut W a₀ (execWriteWindowOpen p s) := by
  unfold execWriteWindowOpen
  try dsimp only
  with_reducible apply KeepsOut.next
  with_reducible repeat' first
    | assumption | exact part_sub rfl hw | apply keeps_hub | apply keeps_windowOpens

theorem keeps_execBurstStart {W : Nat} {a₀ : State} (n : Nat) (s : State) (hw : 0x5008 &&& W = 0x5008) (hs : Keeps W
    a₀ s) :
    KeepsOut W a₀ (execBurstStart n s) := by
  unfold execBurstStart
  try dsimp only
  with_reducible apply KeepsOut.next
  with_reducible repeat' first
    | assumption | exact part_sub rfl hw | apply keeps_burstStart | apply keeps_hub

theorem keeps_execBurstLatestStartPassed {W : Nat} {a₀ : State} (p : Nat) (s : State) (hw : 0x684308 &&& W = 0x684308)
    (hs : Keeps W a₀ s) :
    KeepsOut W a₀ (execBurstLatestStartPassed p s) := by
  unfold execBurstLatestStartPassed
  try dsimp only
  with_reducible apply KeepsOut.next
  with_reducible repeat' first
    | assumption | exact part_sub rfl hw | apply keeps_hub | apply keeps_latestPassed

theorem keeps_execSettings {W : Nat} {a₀ : State} (s : State) (hw : 0x684308 &&& W = 0x684308) (hs : Keeps W a₀ s) :
    KeepsOut W a₀ (execSettings s) := by
  unfold execSettings
  try dsimp only
  with_reducible apply KeepsOut.next
  with_reducible repeat' first
    | assumption | exact part_sub rfl hw | intro _ | apply keeps_cmdSettings | apply keeps_hub | apply keeps_onCmd
    | refine keeps_of_pair (by assumption) ?_ | refine keeps_of_pair_first (by assumption) ?_
    | refine keeps_of_triple (by assumption) ?_ | dsimp only

theorem keeps_spdmSay {W : Nat} {a₀ : State} (s : State) (a : SpdmAnswer) (hw : 0x200000000000 &&& W = 0x200000000000)
    (hs : Keeps W a₀ s) :
    Keeps W a₀ (spdmSay s a) := by
  unfold spdmSay
  try dsimp only
  with_reducible repeat' first
    | assumption | exact part_sub rfl hw | exact id | intro _ | apply Keeps.set_spdm

theorem keeps_spdmPhase {W : Nat} {a₀ : State} (s : State) (n : Nat) (hw : 0x200000000000 &&& W = 0x200000000000) (hs
    : Keeps W a₀ s) :
    Keeps W a₀ (spdmPhase s n) := by
  unfold spdmPhase
  try dsimp only
  with_reducible repeat' first
    | assumption | exact part_sub rfl hw | exact id | intro _ | apply Keeps.set_spdm

theorem keeps_setSessions {W : Nat} {a₀ : State} (s : State) (l : List SpdmSession) (hw : 0x200000000008 &&& W =
    0x200000000008) (hs : Keeps W a₀ s) :
    Keeps W a₀ (setSessions s l) := by
  unfold setSessions
  try dsimp only
  with_reducible repeat' first
    | assumption | exact part_sub rfl hw | exact id | intro _ | apply keeps_State_setF | apply Keeps.set_spdm

theorem keeps_spdmAfter {W : Nat} {a₀ : State} (s : State) (n : Nat) (f : State) (hw : 0x200000000000 &&& W =
    0x200000000000) (hs : Keeps W a₀ s) (hf : Keeps W a₀ f) :
    Keeps W a₀ (spdmAfter s n f) := by
  unfold spdmAfter
  try dsimp only
  with_reducible repeat' first
    | assumption | exact part_sub rfl hw | apply keeps_spdmSay | apply keeps_ite | split

theorem keeps_spdmChain {W : Nat} {a₀ : State} (s : State) (f : State) (hw : 0x200000000000 &&& W = 0x200000000000)
    (hs : Keeps W a₀ s) (hf : Keeps W a₀ f) :
    Keeps W a₀ (spdmChain s f) := by
  unfold spdmChain
  try dsimp only
  with_reducible repeat' first
    | assumption | exact part_sub rfl hw | apply keeps_spdmAfter | apply keeps_spdmSay | apply keeps_ite | split

theorem keeps_execGetVersion {W : Nat} {a₀ : State} (s : State) (hw : 0x200000000000 &&& W = 0x200000000000) (hs :
    Keeps W a₀ s) :
    KeepsOut W a₀ (execGetVersion s) := by
  unfold execGetVersion
  try dsimp only
  with_reducible apply KeepsOut.next
  with_reducible repeat' first
    | assumption | exact part_sub rfl hw | apply keeps_hostReq | apply keeps_spdmPhase | apply keeps_spdmSay

theorem keeps_execGetCapabilities {W : Nat} {a₀ : State} (s : State) (hw : 0x200000000000 &&& W = 0x200000000000) (hs
    : Keeps W a₀ s) :
    KeepsOut W a₀ (execGetCapabilities s) := by
  unfold execGetCapabilities
  try dsimp only
  with_reducible apply KeepsOut.next
  with_reducible repeat' first
    | assumption | exact part_sub rfl hw | apply keeps_hostReq | apply keeps_spdmAfter | apply keeps_spdmPhase
    | apply keeps_spdmSay

theorem keeps_execNegotiateAlgorithms {W : Nat} {a₀ : State} (s : State) (hw : 0x200000000000 &&& W = 0x200000000000)
    (hs : Keeps W a₀ s) :
    KeepsOut W a₀ (execNegotiateAlgorithms s) := by
  unfold execNegotiateAlgorithms
  try dsimp only
  with_reducible apply KeepsOut.next
  with_reducible repeat' first
    | assumption | exact part_sub rfl hw | apply keeps_hostReq | apply keeps_spdmAfter | apply keeps_spdmPhase
    | apply keeps_spdmSay

theorem keeps_execGetDigests {W : Nat} {a₀ : State} (s : State) (hw : 0x200000000000 &&& W = 0x200000000000) (hs :
    Keeps W a₀ s) :
    KeepsOut W a₀ (execGetDigests s) := by
  unfold execGetDigests
  try dsimp only
  with_reducible apply KeepsOut.next
  with_reducible repeat' first
    | assumption | exact part_sub rfl hw | apply keeps_hostReq | apply keeps_spdmChain | apply keeps_spdmSay

theorem keeps_getCertificate {W : Nat} {a₀ : State} (s : State) (slot : Nat) (off : Nat) (len : Nat) (hw :
    0x200000000000 &&& W = 0x200000000000) (hs : Keeps W a₀ s) :
    Keeps W a₀ (getCertificate s slot off len) := by
  unfold getCertificate
  try dsimp only
  with_reducible repeat' first
    | assumption | exact part_sub rfl hw | apply keeps_spdmSay | apply keeps_ite | split

theorem keeps_execGetCertificate {W : Nat} {a₀ : State} (slot : Nat) (off : Nat) (len : Nat) (s : State) (hw :
    0x200000000000 &&& W = 0x200000000000) (hs : Keeps W a₀ s) :
    KeepsOut W a₀ (execGetCertificate slot off len s) := by
  unfold execGetCertificate
  try dsimp only
  with_reducible apply KeepsOut.next
  with_reducible repeat' first
    | assumption | exact part_sub rfl hw | apply keeps_getCertificate | apply keeps_hostReq | apply keeps_spdmChain

theorem keeps_spdmChallenge {W : Nat} {a₀ : State} (s : State) (slot : Nat) (hw : 0x200000000004 &&& W =
    0x200000000004) (hs : Keeps W a₀ s) :
    Keeps W a₀ (spdmChallenge s slot) := by
  unfold spdmChallenge
  try dsimp only
  with_reducible repeat' first
    | assumption | exact part_sub rfl hw | apply keeps_spdmSay | apply keeps_takeFree | apply keeps_ite
    | refine keeps_of_pair (by assumption) ?_ | refine keeps_of_pair_first (by assumption) ?_
    | refine keeps_of_triple (by assumption) ?_ | dsimp only | split

theorem keeps_execChallenge {W : Nat} {a₀ : State} (slot : Nat) (s : State) (hw : 0x200000000004 &&& W =
    0x200000000004) (hs : Keeps W a₀ s) :
    KeepsOut W a₀ (execChallenge slot s) := by
  unfold execChallenge
  try dsimp only
  with_reducible apply KeepsOut.next
  with_reducible repeat' first
    | assumption | exact part_sub rfl hw | apply keeps_hostReq | apply keeps_spdmChain | apply keeps_spdmChallenge

theorem keeps_getMeasurements {W : Nat} {a₀ : State} (s : State) (i : Nat) (signed : Bool) (hw : 0x200000000004 &&& W
    = 0x200000000004) (hs : Keeps W a₀ s) :
    Keeps W a₀ (getMeasurements s i signed) := by
  unfold getMeasurements
  try dsimp only
  with_reducible repeat' first
    | assumption | exact part_sub rfl hw | apply keeps_spdmSay | apply keeps_takeFree | apply keeps_ite
    | refine keeps_of_pair (by assumption) ?_ | refine keeps_of_pair_first (by assumption) ?_
    | refine keeps_of_triple (by assumption) ?_ | dsimp only | split

theorem keeps_execGetMeasurements {W : Nat} {a₀ : State} (i : Nat) (signed : Bool) (s : State) (hw : 0x200000000004
    &&& W = 0x200000000004) (hs : Keeps W a₀ s) :
    KeepsOut W a₀ (execGetMeasurements i signed s) := by
  unfold execGetMeasurements
  try dsimp only
  with_reducible apply KeepsOut.next
  with_reducible repeat' first
    | assumption | exact part_sub rfl hw | apply keeps_getMeasurements | apply keeps_hostReq | apply keeps_spdmAfter

theorem keeps_keyExchange {W : Nat} {a₀ : State} (s : State) (hw : 0x20000000000c &&& W = 0x20000000000c) (hs : Keeps
    W a₀ s) :
    Keeps W a₀ (keyExchange s) := by
  unfold keyExchange
  try dsimp only
  with_reducible repeat' first
    | assumption | exact part_sub rfl hw | intro _ | apply keeps_setSessions | apply keeps_spdmSay
    | apply keeps_takeFree | apply keeps_ite | refine keeps_of_pair (by assumption) ?_
    | refine keeps_of_pair_first (by assumption) ?_ | refine keeps_of_triple (by assumption) ?_ | apply keeps_foldl
    | apply keeps_foldl_first | dsimp only | split

theorem keeps_execKeyExchange {W : Nat} {a₀ : State} (s : State) (hw : 0x20000000000c &&& W = 0x20000000000c) (hs :
    Keeps W a₀ s) :
    KeepsOut W a₀ (execKeyExchange s) := by
  unfold execKeyExchange
  try dsimp only
  with_reducible apply KeepsOut.next
  with_reducible repeat' first
    | assumption | exact part_sub rfl hw | apply keeps_hostReq | apply keeps_keyExchange | apply keeps_spdmChain

theorem keeps_finish {W : Nat} {a₀ : State} (s : State) (id : Nat) (ok : Bool) (hw : 0x200000000008 &&& W =
    0x200000000008) (hs : Keeps W a₀ s) :
    Keeps W a₀ (finish s id ok) := by
  unfold finish
  try dsimp only
  with_reducible repeat' first
    | assumption | exact part_sub rfl hw | apply keeps_setSessions | apply keeps_spdmSay | apply keeps_ite
    | dsimp only | split

theorem keeps_execFinish {W : Nat} {a₀ : State} (id : Nat) (ok : Bool) (s : State) (hw : 0x200000000008 &&& W =
    0x200000000008) (hs : Keeps W a₀ s) :
    KeepsOut W a₀ (execFinish id ok s) := by
  unfold execFinish
  try dsimp only
  with_reducible apply KeepsOut.next
  with_reducible repeat' first
    | assumption | exact part_sub rfl hw | apply keeps_finish | apply keeps_hostReq | apply keeps_spdmAfter

theorem keeps_inSession {W : Nat} {a₀ : State} (s : State) (id : Nat) (f : State) (hw : 0x200000000000 &&& W =
    0x200000000000) (hs : Keeps W a₀ s) (hf : Keeps W a₀ f) :
    Keeps W a₀ (inSession s id f) := by
  unfold inSession
  try dsimp only
  with_reducible repeat' first
    | assumption | exact part_sub rfl hw | apply keeps_spdmSay | apply keeps_ite | dsimp only | split

theorem keeps_execHeartbeat {W : Nat} {a₀ : State} (id : Nat) (s : State) (hw : 0x200000000000 &&& W = 0x200000000000)
    (hs : Keeps W a₀ s) :
    KeepsOut W a₀ (execHeartbeat id s) := by
  unfold execHeartbeat
  try dsimp only
  with_reducible apply KeepsOut.next
  with_reducible repeat' first
    | assumption | exact part_sub rfl hw | apply keeps_hostReq | apply keeps_inSession | apply keeps_spdmSay

theorem keeps_execKeyUpdate {W : Nat} {a₀ : State} (id : Nat) (s : State) (hw : 0x200000000000 &&& W = 0x200000000000)
    (hs : Keeps W a₀ s) :
    KeepsOut W a₀ (execKeyUpdate id s) := by
  unfold execKeyUpdate
  try dsimp only
  with_reducible apply KeepsOut.next
  with_reducible repeat' first
    | assumption | exact part_sub rfl hw | apply keeps_hostReq | apply keeps_inSession | apply keeps_spdmSay

theorem keeps_execEndSession {W : Nat} {a₀ : State} (id : Nat) (s : State) (hw : 0x200000000008 &&& W =
    0x200000000008) (hs : Keeps W a₀ s) :
    KeepsOut W a₀ (execEndSession id s) := by
  unfold execEndSession
  try dsimp only
  with_reducible apply KeepsOut.next
  with_reducible repeat' first
    | assumption | exact part_sub rfl hw | apply keeps_hostReq | apply keeps_inSession | apply keeps_setSessions
    | apply keeps_spdmSay

theorem keeps_execUnsupportedSpdmRequest {W : Nat} {a₀ : State} (s : State) (hw : 0x200000000000 &&& W =
    0x200000000000) (hs : Keeps W a₀ s) :
    KeepsOut W a₀ (execUnsupportedSpdmRequest s) := by
  unfold execUnsupportedSpdmRequest
  try dsimp only
  with_reducible apply KeepsOut.next
  with_reducible repeat' first
    | assumption | exact part_sub rfl hw | apply keeps_hostReq | apply keeps_spdmSay

theorem keeps_execGmacBind {W : Nat} {a₀ : State} (v : Word) (s : State) (hw : 0x80b0c &&& W = 0x80b0c) (hs : Keeps W
    a₀ s) :
    KeepsOut W a₀ (execGmacBind v s) := by
  unfold execGmacBind
  try dsimp only
  with_reducible apply KeepsOut.next
  with_reducible repeat' first
    | assumption | exact part_sub rfl hw | apply keeps_gmacCtrl | apply keeps_hub

theorem keeps_execGmacEnable {W : Nat} {a₀ : State} (v : Word) (s : State) (hw : 0x80b0c &&& W = 0x80b0c) (hs : Keeps
    W a₀ s) :
    KeepsOut W a₀ (execGmacEnable v s) := by
  unfold execGmacEnable
  try dsimp only
  with_reducible apply KeepsOut.next
  with_reducible repeat' first
    | assumption | exact part_sub rfl hw | apply keeps_gmacCtrl | apply keeps_hub

theorem keeps_stopChannel {W : Nat} {a₀ : State} (s : State) (st : Nat) (hw : 0x4000000008 &&& W = 0x4000000008) (hs :
    Keeps W a₀ s) :
    Keeps W a₀ (stopChannel s st) := by
  unfold stopChannel
  try dsimp only
  with_reducible repeat' first
    | assumption | exact part_sub rfl hw | exact id | intro _ | apply keeps_State_setF | apply keeps_ite | split
    | apply Keeps.set_hoist

theorem keeps_closeStream {W : Nat} {a₀ : State} (s : State) (st : Nat) (hw : 0x6700080308 &&& W = 0x6700080308) (hs :
    Keeps W a₀ s) :
    Keeps W a₀ (closeStream s st) := by
  unfold closeStream
  try dsimp only
  with_reducible repeat' first
    | assumption | exact part_sub rfl hw | exact id | intro _ | apply keeps_disableQueue | apply keeps_stopChannel
    | apply Keeps.set_twinWait_tallies_prod

theorem keeps_streamOn {W : Nat} {a₀ : State} (s : State) (p : Nat) (hw : 0x50040ec308 &&& W = 0x50040ec308) (hs :
    Keeps W a₀ s) :
    Keeps W a₀ (streamOn s p) := by
  unfold streamOn
  try dsimp only
  with_reducible repeat' first
    | assumption | exact part_sub rfl hw | exact id | intro _ | apply keeps_State_setF | apply keeps_State_setRn
    | apply keeps_escStart | apply keeps_flickReset | apply keeps_freshStart | apply keeps_openStreams
    | apply keeps_storeForget | apply keeps_updPipe | apply keeps_foldl | apply keeps_foldl_first | dsimp only
    | apply Keeps.set_frameNo_started

theorem keeps_cmdStart {W : Nat} {a₀ : State} (s : State) (c : Cmd) (hw : 0x50046ec308 &&& W = 0x50046ec308) (hs :
    Keeps W a₀ s) :
    Keeps W a₀ (cmdStart s c) := by
  unfold cmdStart
  try dsimp only
  with_reducible repeat' first
    | assumption | exact part_sub rfl hw | apply keeps_complete | apply keeps_streamOn | apply keeps_ite | split

theorem keeps_execStreamStart {W : Nat} {a₀ : State} (s : State) (hw : 0x50046ec308 &&& W = 0x50046ec308) (hs : Keeps
    W a₀ s) :
    KeepsOut W a₀ (execStreamStart s) := by
  unfold execStreamStart
  try dsimp only
  with_reducible apply KeepsOut.next
  with_reducible repeat' first
    | assumption | exact part_sub rfl hw | intro _ | apply keeps_cmdStart | apply keeps_hub | apply keeps_onCmd
    | refine keeps_of_pair (by assumption) ?_ | refine keeps_of_pair_first (by assumption) ?_
    | refine keeps_of_triple (by assumption) ?_ | dsimp only

theorem keeps_cmdStop {W : Nat} {a₀ : State} (s : State) (c : Cmd) (hw : 0xf0668430c &&& W = 0xf0668430c) (hs : Keeps
    W a₀ s) :
    Keeps W a₀ (cmdStop s c) := by
  unfold cmdStop
  try dsimp only
  with_reducible repeat' first
    | assumption | exact part_sub rfl hw | apply keeps_complete | apply keeps_settlePipe | apply keeps_truncateOpen
    | apply keeps_updPipe | apply keeps_ite | split

theorem keeps_execStreamStop {W : Nat} {a₀ : State} (s : State) (hw : 0xf0668430c &&& W = 0xf0668430c) (hs : Keeps W
    a₀ s) :
    KeepsOut W a₀ (execStreamStop s) := by
  unfold execStreamStop
  try dsimp only
  with_reducible apply KeepsOut.next
  with_reducible repeat' first
    | assumption | exact part_sub rfl hw | intro _ | apply keeps_cmdStop | apply keeps_hub | apply keeps_onCmd
    | refine keeps_of_pair (by assumption) ?_ | refine keeps_of_pair_first (by assumption) ?_
    | refine keeps_of_triple (by assumption) ?_ | dsimp only

theorem keeps_streamOff {W : Nat} {a₀ : State} (s : State) (p : Nat) (hw : 0x670d6e4308 &&& W = 0x670d6e4308) (hs :
    Keeps W a₀ s) :
    Keeps W a₀ (streamOff s p) := by
  unfold streamOff
  try dsimp only
  with_reducible repeat' first
    | assumption | exact part_sub rfl hw | exact id | intro _ | apply keeps_State_setF | apply keeps_closeStream
    | apply keeps_failAll | apply keeps_freshStop | apply keeps_stopCommit | apply keeps_updPipe | apply keeps_ite
    | apply keeps_foldl | apply keeps_foldl_first | dsimp only | split | apply Keeps.set_started
    | apply Keeps.set_jobs

theorem keeps_streamDrain {W : Nat} {a₀ : State} (s : State) (p : Nat) (hw : 0x670d6e4308 &&& W = 0x670d6e4308) (hs :
    Keeps W a₀ s) :
    Keeps W a₀ (streamDrain s p) := by
  unfold streamDrain
  try dsimp only
  with_reducible repeat' first
    | assumption | exact part_sub rfl hw | apply keeps_complete | apply keeps_streamOff | apply keeps_ite
    | dsimp only | split

theorem keeps_execStreamStopDrained {W : Nat} {a₀ : State} (p : Nat) (s : State) (hw : 0x670d6e4308 &&& W =
    0x670d6e4308) (hs : Keeps W a₀ s) :
    KeepsOut W a₀ (execStreamStopDrained p s) := by
  unfold execStreamStopDrained
  try dsimp only
  with_reducible apply KeepsOut.next
  with_reducible repeat' first
    | assumption | exact part_sub rfl hw | apply keeps_hub | apply keeps_streamDrain

theorem keeps_pipeAbort {W : Nat} {a₀ : State} (s : State) (p : Nat) (code : Nat) (hw : 0x670f6e4308 &&& W =
    0x670f6e4308) (hs : Keeps W a₀ s) :
    Keeps W a₀ (pipeAbort s p code) := by
  unfold pipeAbort
  try dsimp only
  with_reducible repeat' first
    | assumption | exact part_sub rfl hw | intro _ | apply keeps_State_setF | apply keeps_asyncPost
    | apply keeps_complete | apply keeps_streamOff | apply keeps_truncateOpen | apply keeps_updPipe
    | apply keeps_viewLost | apply keeps_foldl | apply keeps_foldl_first | dsimp only | split

theorem keeps_canvasAbort {W : Nat} {a₀ : State} (s : State) (c : Nat) (code : Nat) (hw : 0x6f096c0308 &&& W =
    0x6f096c0308) (hs : Keeps W a₀ s) :
    Keeps W a₀ (canvasAbort s c code) := by
  unfold canvasAbort
  try dsimp only
  with_reducible repeat' first
    | assumption | exact part_sub rfl hw | intro _ | apply keeps_State_setF | apply keeps_asyncPost
    | apply keeps_canvasOff | apply keeps_closeStream | apply keeps_setCanvas | apply keeps_updHeld
    | apply keeps_viewLost | apply keeps_foldl | apply keeps_foldl_first | dsimp only

theorem keeps_asyncStop {W : Nat} {a₀ : State} (s : State) (hw : 0x6f8f6e4308 &&& W = 0x6f8f6e4308) (hs : Keeps W a₀
    s) :
    Keeps W a₀ (asyncStop s) := by
  unfold asyncStop
  try dsimp only
  with_reducible repeat' first
    | assumption | exact part_sub rfl hw | exact id | intro _ | apply keeps_canvasAbort | apply keeps_pipeAbort
    | apply keeps_ite | dsimp only | split | apply Keeps.set_stops

theorem keeps_execAsyncStreamStop {W : Nat} {a₀ : State} (s : State) (hw : 0x6f8f6e4308 &&& W = 0x6f8f6e4308) (hs :
    Keeps W a₀ s) :
    KeepsOut W a₀ (execAsyncStreamStop s) := by
  unfold execAsyncStreamStop
  try dsimp only
  with_reducible apply KeepsOut.next
  with_reducible repeat' first
    | assumption | exact part_sub rfl hw | apply keeps_asyncStop | apply keeps_hub

theorem keeps_cmdWinding {W : Nat} {a₀ : State} (s : State) (c : Cmd) (hw : 0x68030c &&& W = 0x68030c) (hs : Keeps W
    a₀ s) :
    Keeps W a₀ (cmdWinding s c) := by
  unfold cmdWinding
  try dsimp only
  with_reducible repeat' first
    | assumption | exact part_sub rfl hw | apply keeps_complete | apply keeps_windJudge | apply keeps_ite
    | refine keeps_of_pair (by assumption) ?_ | refine keeps_of_pair_first (by assumption) ?_
    | refine keeps_of_triple (by assumption) ?_ | dsimp only | split

theorem keeps_execWinding {W : Nat} {a₀ : State} (s : State) (hw : 0x68030c &&& W = 0x68030c) (hs : Keeps W a₀ s) :
    KeepsOut W a₀ (execWinding s) := by
  unfold execWinding
  try dsimp only
  with_reducible apply KeepsOut.next
  with_reducible repeat' first
    | assumption | exact part_sub rfl hw | intro _ | apply keeps_cmdWinding | apply keeps_hub | apply keeps_isl
    | apply keeps_onCmd | refine keeps_of_pair (by assumption) ?_ | refine keeps_of_pair_first (by assumption) ?_
    | refine keeps_of_triple (by assumption) ?_ | dsimp only

theorem keeps_cmdDisplayed {W : Nat} {a₀ : State} (s : State) (c : Cmd) (hw : 0x680308 &&& W = 0x680308) (hs : Keeps W
    a₀ s) :
    Keeps W a₀ (cmdDisplayed s c) := by
  unfold cmdDisplayed
  try dsimp only
  with_reducible repeat' first
    | assumption | exact part_sub rfl hw | apply keeps_complete | apply keeps_displayedJudge | apply keeps_ite
    | refine keeps_of_pair (by assumption) ?_ | refine keeps_of_pair_first (by assumption) ?_
    | refine keeps_of_triple (by assumption) ?_ | dsimp only | split

theorem keeps_execDisplayed {W : Nat} {a₀ : State} (s : State) (hw : 0x680308 &&& W = 0x680308) (hs : Keeps W a₀ s) :
    KeepsOut W a₀ (execDisplayed s) := by
  unfold execDisplayed
  try dsimp only
  with_reducible apply KeepsOut.next
  with_reducible repeat' first
    | assumption | exact part_sub rfl hw | intro _ | apply keeps_cmdDisplayed | apply keeps_hub | apply keeps_isl
    | apply keeps_onCmd | refine keeps_of_pair (by assumption) ?_ | refine keeps_of_pair_first (by assumption) ?_
    | refine keeps_of_triple (by assumption) ?_ | dsimp only

theorem keeps_execTallyStart {W : Nat} {a₀ : State} (u : Nat) (v : Word) (s : State) (hw : 0x80000080208 &&& W =
    0x80000080208) (hs : Keeps W a₀ s) :
    KeepsOut W a₀ (execTallyStart u v s) := by
  unfold execTallyStart
  try dsimp only
  with_reducible apply KeepsOut.next
  with_reducible repeat' first
    | assumption | exact part_sub rfl hw | apply keeps_hub | apply keeps_tallyCtrl

theorem keeps_execTallyDataWrite {W : Nat} {a₀ : State} (u : Nat) (bytes : List Byte) (s : State) (hw : 0x8 &&& W =
    0x8) (hs : Keeps W a₀ s) :
    KeepsOut W a₀ (execTallyDataWrite u bytes s) := by
  unfold execTallyDataWrite
  try dsimp only
  with_reducible apply KeepsOut.next
  with_reducible repeat' first
    | assumption | exact part_sub rfl hw | apply keeps_hub | apply keeps_tallyData

theorem keeps_tallyParity {W : Nat} {a₀ : State} (s : State) (u : Nat) (hw : 0x80308 &&& W = 0x80308) (hs : Keeps W a₀
    s) :
    Keeps W a₀ (tallyParity s u) := by
  unfold tallyParity
  try dsimp only
  with_reducible repeat' first
    | assumption | exact part_sub rfl hw | apply keeps_State_ev | apply keeps_State_report | apply keeps_setTally

theorem keeps_execTallyParityError {W : Nat} {a₀ : State} (u : Nat) (s : State) (hw : 0x80308 &&& W = 0x80308) (hs :
    Keeps W a₀ s) :
    KeepsOut W a₀ (execTallyParityError u s) := by
  unfold execTallyParityError
  try dsimp only
  with_reducible apply KeepsOut.next
  with_reducible repeat' first
    | assumption | exact part_sub rfl hw | apply keeps_hub | apply keeps_tallyParity

theorem keeps_judgeDeadline {W : Nat} {a₀ : State} (s : State) (j : Job) (hw : 0x80308 &&& W = 0x80308) (hs : Keeps W
    a₀ s) :
    Keeps W a₀ (judgeDeadline s j) := by
  unfold judgeDeadline
  try dsimp only
  with_reducible repeat' first
    | assumption | exact part_sub rfl hw | apply keeps_State_bump | apply keeps_State_ev | apply keeps_State_report
    | apply keeps_ite | split

theorem keeps_handLoop {W : Nat} {a₀ : State} (x0 : Nat) (x1 : State) (hw : 0x60f0c08030c &&& W = 0x60f0c08030c) (hx1
    : Keeps W a₀ x1) :
    Keeps W a₀ (handLoop x0 x1) := by
  induction x0 generalizing x1 with
  | zero =>
    unfold handLoop
    with_reducible assumption
  | succ n ih =>
    unfold handLoop
    try dsimp only
    with_reducible repeat' first
      | assumption | exact part_sub rfl hw | exact id | intro _ | apply ih | apply keeps_endCanvas
      | apply keeps_handCanvas | apply keeps_handJob | apply keeps_settlePipe | apply keeps_ite | dsimp only | split
      | apply Keeps.set_jobs

theorem keeps_handAll {W : Nat} {a₀ : State} (s : State) (hw : 0x60f0c08030c &&& W = 0x60f0c08030c) (hs : Keeps W a₀
    s) :
    Keeps W a₀ (handAll s) := by
  unfold handAll
  try dsimp only
  with_reducible repeat' first
    | assumption | exact part_sub rfl hw | apply keeps_handLoop

theorem keeps_execJobRelease {W : Nat} {a₀ : State} (p : Nat) (out : Option Nat) (twin : Bool) (pieces : List Nat) (s
    : State) (hw : 0x1c000000 &&& W = 0x1c000000) (hs : Keeps W a₀ s) :
    KeepsOut W a₀ (execJobRelease p out twin pieces s) := by
  unfold execJobRelease
  try dsimp only
  with_reducible apply KeepsOut.next
  with_reducible repeat' first
    | assumption | exact part_sub rfl hw | apply keeps_hub | apply keeps_releaseJob

theorem keeps_pieceStart {W : Nat} {a₀ : State} (s : State) (n : Nat) (w : Nat) (hw : 0x28000000 &&& W = 0x28000000)
    (hs : Keeps W a₀ s) :
    Keeps W a₀ (pieceStart s n w) := by
  unfold pieceStart
  try dsimp only
  with_reducible repeat' first
    | assumption | exact part_sub rfl hw | apply keeps_setTile | apply keeps_updJob | apply keeps_ite | dsimp only
    | split

theorem keeps_execPieceStart {W : Nat} {a₀ : State} (n : Nat) (w : Nat) (s : State) (hw : 0x28000000 &&& W =
    0x28000000) (hs : Keeps W a₀ s) :
    KeepsOut W a₀ (execPieceStart n w s) := by
  unfold execPieceStart
  try dsimp only
  with_reducible apply KeepsOut.next
  with_reducible repeat' first
    | assumption | exact part_sub rfl hw | apply keeps_hub | apply keeps_pieceStart

theorem keeps_capacityReadmit {W : Nat} {a₀ : State} (s : State) (n : Nat) (hw : 0x40080308 &&& W = 0x40080308) (hs :
    Keeps W a₀ s) :
    Keeps W a₀ (capacityReadmit s n) := by
  unfold capacityReadmit
  try dsimp only
  with_reducible repeat' first
    | assumption | exact part_sub rfl hw | apply keeps_State_ev | apply keeps_State_report | apply keeps_queueReadmit
    | apply keeps_ite | split

theorem keeps_fenceWheel {W : Nat} {a₀ : State} (s : State) (n : Nat) (w : Nat) (hw : 0x40080308 &&& W = 0x40080308)
    (hs : Keeps W a₀ s) :
    Keeps W a₀ (fenceWheel s n w) := by
  unfold fenceWheel
  try dsimp only
  with_reducible repeat' first
    | assumption | exact part_sub rfl hw | apply keeps_State_ev | apply keeps_State_report | apply keeps_State_setF
    | apply keeps_capacityReadmit | apply keeps_ite | split

theorem keeps_wheelFault {W : Nat} {a₀ : State} (s : State) (n : Nat) (w : Nat) (hw : 0x60080308 &&& W = 0x60080308)
    (hs : Keeps W a₀ s) :
    Keeps W a₀ (wheelFault s n w) := by
  unfold wheelFault
  try dsimp only
  with_reducible repeat' first
    | assumption | exact part_sub rfl hw | apply keeps_fenceWheel | apply keeps_setTile | apply keeps_ite | split

theorem keeps_wheelFree {W : Nat} {a₀ : State} (s : State) (n : Nat) (w : Nat) (hw : 0x60080308 &&& W = 0x60080308)
    (hs : Keeps W a₀ s) :
    Keeps W a₀ (wheelFree s n w) := by
  unfold wheelFree
  try dsimp only
  with_reducible repeat' first
    | assumption | exact part_sub rfl hw | apply keeps_fenceWheel | apply keeps_setTile | apply keeps_ite | split

theorem keeps_pieceDone {W : Nat} {a₀ : State} (s : State) (q : Piece) (hw : 0x60f0c08030c &&& W = 0x60f0c08030c) (hs
    : Keeps W a₀ s) :
    Keeps W a₀ (pieceDone s q) := by
  unfold pieceDone
  try dsimp only
  with_reducible repeat' first
    | assumption | exact part_sub rfl hw | apply keeps_handAll | apply keeps_judgeDeadline | apply keeps_updJob
    | apply keeps_ite | dsimp only | split

theorem keeps_pieceFail {W : Nat} {a₀ : State} (s : State) (n : Nat) (w : Nat) (q : Piece) (fate : PieceFate) (timeout
    : Bool) (hw : 0x60f6c08030c &&& W = 0x60f6c08030c) (hs : Keeps W a₀ s) :
    Keeps W a₀ (pieceFail s n w q fate timeout) := by
  unfold pieceFail
  try dsimp only
  with_reducible repeat' first
    | assumption | exact part_sub rfl hw | apply keeps_State_bump | apply keeps_State_ev | apply keeps_State_report
    | apply keeps_pieceDone | apply keeps_updJob | apply keeps_wheelFault | apply keeps_ite | dsimp only | split

theorem keeps_pieceErrors {W : Nat} {a₀ : State} (s : State) (n : Nat) (q : Piece) (e : PieceEnd) (hw : 0x28000108 &&&
    W = 0x28000108) (hs : Keeps W a₀ s) :
    Keeps W a₀ (pieceErrors s n q e) := by
  unfold pieceErrors
  try dsimp only
  with_reducible repeat' first
    | assumption | exact part_sub rfl hw | apply keeps_State_bump | apply keeps_State_report | apply keeps_setTile
    | apply keeps_updJob | apply keeps_ite | dsimp only | split

theorem keeps_pieceEnd {W : Nat} {a₀ : State} (s : State) (n : Nat) (w : Nat) (e : PieceEnd) (hw : 0x60f6c08030c &&& W
    = 0x60f6c08030c) (hs : Keeps W a₀ s) :
    Keeps W a₀ (pieceEnd s n w e) := by
  unfold pieceEnd
  try dsimp only
  with_reducible repeat' first
    | assumption | exact part_sub rfl hw | apply keeps_State_bump | apply keeps_State_ev | apply keeps_State_report
    | apply keeps_pieceDone | apply keeps_pieceErrors | apply keeps_pieceFail | apply keeps_updJob
    | apply keeps_wheelFree | apply keeps_ite | dsimp only | split

theorem keeps_execPieceEnd {W : Nat} {a₀ : State} (n : Nat) (w : Nat) (e : PieceEnd) (s : State) (hw : 0x60f6c08030c
    &&& W = 0x60f6c08030c) (hs : Keeps W a₀ s) :
    KeepsOut W a₀ (execPieceEnd n w e s) := by
  unfold execPieceEnd
  try dsimp only
  with_reducible apply KeepsOut.next
  with_reducible repeat' first
    | assumption | exact part_sub rfl hw | apply keeps_hub | apply keeps_pieceEnd

theorem keeps_pieceTimeout {W : Nat} {a₀ : State} (s : State) (n : Nat) (w : Nat) (hw : 0x60f6c08030c &&& W =
    0x60f6c08030c) (hs : Keeps W a₀ s) :
    Keeps W a₀ (pieceTimeout s n w) := by
  unfold pieceTimeout
  try dsimp only
  with_reducible repeat' first
    | assumption | exact part_sub rfl hw | apply keeps_pieceFail | apply keeps_wheelFree | apply keeps_ite
    | dsimp only | split

theorem keeps_execPieceTimeout {W : Nat} {a₀ : State} (n : Nat) (w : Nat) (s : State) (hw : 0x60f6c08030c &&& W =
    0x60f6c08030c) (hs : Keeps W a₀ s) :
    KeepsOut W a₀ (execPieceTimeout n w s) := by
  unfold execPieceTimeout
  try dsimp only
  with_reducible apply KeepsOut.next
  with_reducible repeat' first
    | assumption | exact part_sub rfl hw | apply keeps_hub | apply keeps_pieceTimeout

theorem keeps_residueSelfTest {W : Nat} {a₀ : State} (s : State) (n : Nat) (w : Nat) (ok : Bool) (hw : 0x60080308 &&&
    W = 0x60080308) (hs : Keeps W a₀ s) :
    Keeps W a₀ (residueSelfTest s n w ok) := by
  unfold residueSelfTest
  try dsimp only
  with_reducible repeat' first
    | assumption | exact part_sub rfl hw | apply keeps_State_report | apply keeps_wheelFault | apply keeps_ite
    | split

theorem keeps_execResidueCheckerSelfTest {W : Nat} {a₀ : State} (n : Nat) (w : Nat) (ok : Bool) (s : State) (hw :
    0x60080308 &&& W = 0x60080308) (hs : Keeps W a₀ s) :
    KeepsOut W a₀ (execResidueCheckerSelfTest n w ok s) := by
  unfold execResidueCheckerSelfTest
  try dsimp only
  with_reducible apply KeepsOut.next
  with_reducible repeat' first
    | assumption | exact part_sub rfl hw | apply keeps_hub | apply keeps_residueSelfTest

theorem keeps_tallyArrives {W : Nat} {a₀ : State} (s : State) (st : Nat) (hw : 0xf0408030c &&& W = 0xf0408030c) (hs :
    Keeps W a₀ s) :
    Keeps W a₀ (tallyArrives s st) := by
  unfold tallyArrives
  try dsimp only
  with_reducible repeat' first
    | assumption | exact part_sub rfl hw | exact id | intro _ | apply keeps_compareTally | apply keeps_settlePipe
    | apply keeps_ite | refine keeps_of_pair (by assumption) ?_ | refine keeps_of_pair_first (by assumption) ?_
    | refine keeps_of_triple (by assumption) ?_ | dsimp only | split | apply Keeps.set_twinWait
    | apply Keeps.set_tallies

theorem keeps_execTwinTallyArrival {W : Nat} {a₀ : State} (stream : Nat) (s : State) (hw : 0xf0408030c &&& W =
    0xf0408030c) (hs : Keeps W a₀ s) :
    KeepsOut W a₀ (execTwinTallyArrival stream s) := by
  unfold execTwinTallyArrival
  try dsimp only
  with_reducible apply KeepsOut.next
  with_reducible repeat' first
    | assumption | exact part_sub rfl hw | apply keeps_hub | apply keeps_tallyArrives

theorem keeps_tallyLate {W : Nat} {a₀ : State} (s : State) (st : Nat) (hw : 0xf0408030c &&& W = 0xf0408030c) (hs :
    Keeps W a₀ s) :
    Keeps W a₀ (tallyLate s st) := by
  unfold tallyLate
  try dsimp only
  with_reducible repeat' first
    | assumption | exact part_sub rfl hw | exact id | intro _ | apply keeps_State_bump | apply keeps_State_ev
    | apply keeps_State_report | apply keeps_settlePipe | apply keeps_ite | dsimp only | split
    | apply Keeps.set_twinWait

theorem keeps_execTwinTallyDeadline {W : Nat} {a₀ : State} (stream : Nat) (s : State) (hw : 0xf0408030c &&& W =
    0xf0408030c) (hs : Keeps W a₀ s) :
    KeepsOut W a₀ (execTwinTallyDeadline stream s) := by
  unfold execTwinTallyDeadline
  try dsimp only
  with_reducible apply KeepsOut.next
  with_reducible repeat' first
    | assumption | exact part_sub rfl hw | apply keeps_hub | apply keeps_tallyLate

theorem keeps_execTileFenceSoftware {W : Nat} {a₀ : State} (n : Nat) (v : Word) (s : State) (hw : 0xf6dec434c &&& W =
    0xf6dec434c) (hs : Keeps W a₀ s) :
    KeepsOut W a₀ (execTileFenceSoftware n v s) := by
  unfold execTileFenceSoftware
  try dsimp only
  with_reducible apply KeepsOut.next
  with_reducible repeat' first
    | assumption | exact part_sub rfl hw | apply keeps_hub | apply keeps_tileCtrl

theorem keeps_fenceCause {W : Nat} {a₀ : State} (s : State) (n : Nat) (cause : Nat) (hw : 0xf6dec434c &&& W =
    0xf6dec434c) (hs : Keeps W a₀ s) :
    Keeps W a₀ (fenceCause s n cause) := by
  unfold fenceCause
  try dsimp only
  with_reducible repeat' first
    | assumption | exact part_sub rfl hw | apply keeps_fenceTile | apply keeps_ite | dsimp only | split

theorem keeps_execTileFence {W : Nat} {a₀ : State} (n : Nat) (cause : Nat) (s : State) (hw : 0xf6dec434c &&& W =
    0xf6dec434c) (hs : Keeps W a₀ s) :
    KeepsOut W a₀ (execTileFence n cause s) := by
  unfold execTileFence
  try dsimp only
  with_reducible apply KeepsOut.next
  with_reducible repeat' first
    | assumption | exact part_sub rfl hw | apply keeps_fenceCause | apply keeps_hub

theorem keeps_readmitFails {W : Nat} {a₀ : State} (s : State) (p : Nat) (hw : 0x84880308 &&& W = 0x84880308) (hs :
    Keeps W a₀ s) :
    Keeps W a₀ (readmitFails s p) := by
  unfold readmitFails
  try dsimp only
  with_reducible repeat' first
    | assumption | exact part_sub rfl hw | exact id | intro _ | apply keeps_State_ev | apply keeps_State_report
    | apply keeps_State_setF | apply keeps_setPlace | apply keeps_updPipe | apply keeps_ite | split
    | apply Keeps.set_stops

theorem keeps_movedTo {W : Nat} {a₀ : State} (s : State) (p : Nat) (h : Nat) (hw : 0x4880308 &&& W = 0x4880308) (hs :
    Keeps W a₀ s) :
    Keeps W a₀ (movedTo s p h) := by
  unfold movedTo
  try dsimp only
  with_reducible repeat' first
    | assumption | exact part_sub rfl hw | apply keeps_State_ev | apply keeps_State_report | apply keeps_State_setF
    | apply keeps_setPlace | apply keeps_updPipe | apply keeps_ite | split

theorem keeps_readmitTwin {W : Nat} {a₀ : State} (s : State) (p : Nat) (d : Demand) (hw : 0x84880308 &&& W =
    0x84880308) (hs : Keeps W a₀ s) :
    Keeps W a₀ (readmitTwin s p d) := by
  unfold readmitTwin
  try dsimp only
  with_reducible repeat' first
    | assumption | exact part_sub rfl hw | apply keeps_State_ev | apply keeps_State_report | apply keeps_readmitFails
    | apply keeps_setPlace | apply keeps_ite | dsimp only | split

theorem keeps_leaveTile {W : Nat} {a₀ : State} (s : State) (p : Nat) (hw : 0xf0c08430c &&& W = 0xf0c08430c) (hs :
    Keeps W a₀ s) :
    Keeps W a₀ (leaveTile s p) := by
  unfold leaveTile
  try dsimp only
  with_reducible repeat' first
    | assumption | exact part_sub rfl hw | exact id | intro _ | apply keeps_fenceFrame | apply keeps_settlePipe
    | apply keeps_foldl | apply keeps_foldl_first | dsimp only | apply Keeps.set_jobs

theorem keeps_recheckAll {W : Nat} {a₀ : State} (s : State) (hw : 0x1680208 &&& W = 0x1680208) (hs : Keeps W a₀ s) :
    Keeps W a₀ (recheckAll s) := by
  unfold recheckAll
  try dsimp only
  with_reducible repeat' first
    | assumption | exact part_sub rfl hw | intro _ | apply keeps_recheckArmed | apply keeps_foldl
    | apply keeps_foldl_first | dsimp only

theorem keeps_readmitNext {W : Nat} {a₀ : State} (s : State) (hw : 0xfcde8430c &&& W = 0xfcde8430c) (hs : Keeps W a₀
    s) :
    Keeps W a₀ (readmitNext s) := by
  unfold readmitNext
  try dsimp only
  with_reducible repeat' first
    | assumption | exact part_sub rfl hw | exact id | intro _ | apply keeps_leaveTile | apply keeps_movedTo
    | apply keeps_readmitFails | apply keeps_readmitTwin | apply keeps_recheckAll | apply keeps_ite | dsimp only
    | split | apply Keeps.set_readmit

theorem keeps_execReadmissionPlacement {W : Nat} {a₀ : State} (s : State) (hw : 0xfcde8430c &&& W = 0xfcde8430c) (hs :
    Keeps W a₀ s) :
    KeepsOut W a₀ (execReadmissionPlacement s) := by
  unfold execReadmissionPlacement
  try dsimp only
  with_reducible apply KeepsOut.next
  with_reducible repeat' first
    | assumption | exact part_sub rfl hw | apply keeps_hub | apply keeps_readmitNext

end Sys2Proof.Machine
end

