-- ==== Sys2Proof/Laws/State.lean ====
section
/-!
SUPPORT. One lemma for each field of State and each shared update: what the update leaves as it was.
-/

namespace Sys2Proof.Machine

/-! ### setReg -/

@[simp] theorem State.setReg_pending (s : State) (off : Nat) (w : Word) : (s.setReg off w).pending = s.pending := rfl
@[simp] theorem State.setReg_now (s : State) (off : Nat) (w : Word) : (s.setReg off w).now = s.now := rfl
@[simp] theorem State.setReg_taken (s : State) (off : Nat) (w : Word) : (s.setReg off w).taken = s.taken := rfl
@[simp] theorem State.setReg_act (s : State) (off : Nat) (w : Word) : (s.setReg off w).act = s.act := rfl
@[simp] theorem State.setReg_written (s : State) (off : Nat) (w : Word) : (s.setReg off w).written = s.written := rfl
@[simp] theorem State.setReg_pow (s : State) (off : Nat) (w : Word) : (s.setReg off w).pow = s.pow := rfl
@[simp] theorem State.setReg_regu (s : State) (off : Nat) (w : Word) : (s.setReg off w).regu = s.regu := rfl
@[simp] theorem State.setReg_isl (s : State) (off : Nat) (w : Word) : (s.setReg off w).isl = s.isl := rfl
@[simp] theorem State.setReg_pcie (s : State) (off : Nat) (w : Word) : (s.setReg off w).pcie = s.pcie := rfl
@[simp] theorem State.setReg_bridge (s : State) (off : Nat) (w : Word) : (s.setReg off w).bridge = s.bridge := rfl
@[simp] theorem State.setReg_ident (s : State) (off : Nat) (w : Word) : (s.setReg off w).ident = s.ident := rfl
@[simp] theorem State.setReg_scc (s : State) (off : Nat) (w : Word) : (s.setReg off w).scc = s.scc := rfl
@[simp] theorem State.setReg_mgt (s : State) (off : Nat) (w : Word) : (s.setReg off w).mgt = s.mgt := rfl
@[simp] theorem State.setReg_esc (s : State) (off : Nat) (w : Word) : (s.setReg off w).esc = s.esc := rfl
@[simp] theorem State.setReg_frameNo (s : State) (off : Nat) (w : Word) : (s.setReg off w).frameNo = s.frameNo := rfl
@[simp] theorem State.setReg_frameAt (s : State) (off : Nat) (w : Word) : (s.setReg off w).frameAt = s.frameAt := rfl
@[simp] theorem State.setReg_started (s : State) (off : Nat) (w : Word) : (s.setReg off w).started = s.started := rfl
@[simp] theorem State.setReg_fresh (s : State) (off : Nat) (w : Word) : (s.setReg off w).fresh = s.fresh := rfl
@[simp] theorem State.setReg_msgs (s : State) (off : Nat) (w : Word) : (s.setReg off w).msgs = s.msgs := rfl
@[simp] theorem State.setReg_reply (s : State) (off : Nat) (w : Word) : (s.setReg off w).reply = s.reply := rfl
@[simp] theorem State.setReg_ring (s : State) (off : Nat) (w : Word) : (s.setReg off w).ring = s.ring := rfl
@[simp] theorem State.setReg_wire (s : State) (off : Nat) (w : Word) : (s.setReg off w).wire = s.wire := rfl
@[simp] theorem State.setReg_place (s : State) (off : Nat) (w : Word) : (s.setReg off w).place = s.place := rfl
@[simp] theorem State.setReg_commits (s : State) (off : Nat) (w : Word) : (s.setReg off w).commits = s.commits := rfl
@[simp] theorem State.setReg_port (s : State) (off : Nat) (w : Word) : (s.setReg off w).port = s.port := rfl
@[simp] theorem State.setReg_pipe (s : State) (off : Nat) (w : Word) : (s.setReg off w).pipe = s.pipe := rfl
@[simp] theorem State.setReg_jobs (s : State) (off : Nat) (w : Word) : (s.setReg off w).jobs = s.jobs := rfl
@[simp] theorem State.setReg_nextJob (s : State) (off : Nat) (w : Word) : (s.setReg off w).nextJob = s.nextJob := rfl
@[simp] theorem State.setReg_tile (s : State) (off : Nat) (w : Word) : (s.setReg off w).tile = s.tile := rfl
@[simp] theorem State.setReg_readmit (s : State) (off : Nat) (w : Word) : (s.setReg off w).readmit = s.readmit := rfl
@[simp] theorem State.setReg_stops (s : State) (off : Nat) (w : Word) : (s.setReg off w).stops = s.stops := rfl
@[simp] theorem State.setReg_twinWait (s : State) (off : Nat) (w : Word) : (s.setReg off w).twinWait = s.twinWait := rfl
@[simp] theorem State.setReg_tallies (s : State) (off : Nat) (w : Word) : (s.setReg off w).tallies = s.tallies := rfl
@[simp] theorem State.setReg_prod (s : State) (off : Nat) (w : Word) : (s.setReg off w).prod = s.prod := rfl
@[simp] theorem State.setReg_canvas (s : State) (off : Nat) (w : Word) : (s.setReg off w).canvas = s.canvas := rfl
@[simp] theorem State.setReg_fstore (s : State) (off : Nat) (w : Word) : (s.setReg off w).fstore = s.fstore := rfl
@[simp] theorem State.setReg_larder (s : State) (off : Nat) (w : Word) : (s.setReg off w).larder = s.larder := rfl
@[simp] theorem State.setReg_hoist (s : State) (off : Nat) (w : Word) : (s.setReg off w).hoist = s.hoist := rfl
@[simp] theorem State.setReg_lane (s : State) (off : Nat) (w : Word) : (s.setReg off w).lane = s.lane := rfl
@[simp] theorem State.setReg_fabric (s : State) (off : Nat) (w : Word) : (s.setReg off w).fabric = s.fabric := rfl
@[simp] theorem State.setReg_mem (s : State) (off : Nat) (w : Word) : (s.setReg off w).mem = s.mem := rfl
@[simp] theorem State.setReg_memPoison (s : State) (off : Nat) (w : Word) : (s.setReg off w).memPoison = s.memPoison := rfl
@[simp] theorem State.setReg_tally (s : State) (off : Nat) (w : Word) : (s.setReg off w).tally = s.tally := rfl
@[simp] theorem State.setReg_madc (s : State) (off : Nat) (w : Word) : (s.setReg off w).madc = s.madc := rfl
@[simp] theorem State.setReg_spdm (s : State) (off : Nat) (w : Word) : (s.setReg off w).spdm = s.spdm := rfl
@[simp] theorem State.setReg_attic (s : State) (off : Nat) (w : Word) : (s.setReg off w).attic = s.attic := rfl

/-! ### setRn -/

@[simp] theorem State.setRn_pending (s : State) (off v : Nat) : (s.setRn off v).pending = s.pending := rfl
@[simp] theorem State.setRn_now (s : State) (off v : Nat) : (s.setRn off v).now = s.now := rfl
@[simp] theorem State.setRn_taken (s : State) (off v : Nat) : (s.setRn off v).taken = s.taken := rfl
@[simp] theorem State.setRn_act (s : State) (off v : Nat) : (s.setRn off v).act = s.act := rfl
@[simp] theorem State.setRn_written (s : State) (off v : Nat) : (s.setRn off v).written = s.written := rfl
@[simp] theorem State.setRn_pow (s : State) (off v : Nat) : (s.setRn off v).pow = s.pow := rfl
@[simp] theorem State.setRn_regu (s : State) (off v : Nat) : (s.setRn off v).regu = s.regu := rfl
@[simp] theorem State.setRn_isl (s : State) (off v : Nat) : (s.setRn off v).isl = s.isl := rfl
@[simp] theorem State.setRn_pcie (s : State) (off v : Nat) : (s.setRn off v).pcie = s.pcie := rfl
@[simp] theorem State.setRn_bridge (s : State) (off v : Nat) : (s.setRn off v).bridge = s.bridge := rfl
@[simp] theorem State.setRn_ident (s : State) (off v : Nat) : (s.setRn off v).ident = s.ident := rfl
@[simp] theorem State.setRn_scc (s : State) (off v : Nat) : (s.setRn off v).scc = s.scc := rfl
@[simp] theorem State.setRn_mgt (s : State) (off v : Nat) : (s.setRn off v).mgt = s.mgt := rfl
@[simp] theorem State.setRn_esc (s : State) (off v : Nat) : (s.setRn off v).esc = s.esc := rfl
@[simp] theorem State.setRn_frameNo (s : State) (off v : Nat) : (s.setRn off v).frameNo = s.frameNo := rfl
@[simp] theorem State.setRn_frameAt (s : State) (off v : Nat) : (s.setRn off v).frameAt = s.frameAt := rfl
@[simp] theorem State.setRn_started (s : State) (off v : Nat) : (s.setRn off v).started = s.started := rfl
@[simp] theorem State.setRn_fresh (s : State) (off v : Nat) : (s.setRn off v).fresh = s.fresh := rfl
@[simp] theorem State.setRn_msgs (s : State) (off v : Nat) : (s.setRn off v).msgs = s.msgs := rfl
@[simp] theorem State.setRn_reply (s : State) (off v : Nat) : (s.setRn off v).reply = s.reply := rfl
@[simp] theorem State.setRn_ring (s : State) (off v : Nat) : (s.setRn off v).ring = s.ring := rfl
@[simp] theorem State.setRn_wire (s : State) (off v : Nat) : (s.setRn off v).wire = s.wire := rfl
@[simp] theorem State.setRn_place (s : State) (off v : Nat) : (s.setRn off v).place = s.place := rfl
@[simp] theorem State.setRn_commits (s : State) (off v : Nat) : (s.setRn off v).commits = s.commits := rfl
@[simp] theorem State.setRn_port (s : State) (off v : Nat) : (s.setRn off v).port = s.port := rfl
@[simp] theorem State.setRn_pipe (s : State) (off v : Nat) : (s.setRn off v).pipe = s.pipe := rfl
@[simp] theorem State.setRn_jobs (s : State) (off v : Nat) : (s.setRn off v).jobs = s.jobs := rfl
@[simp] theorem State.setRn_nextJob (s : State) (off v : Nat) : (s.setRn off v).nextJob = s.nextJob := rfl
@[simp] theorem State.setRn_tile (s : State) (off v : Nat) : (s.setRn off v).tile = s.tile := rfl
@[simp] theorem State.setRn_readmit (s : State) (off v : Nat) : (s.setRn off v).readmit = s.readmit := rfl
@[simp] theorem State.setRn_stops (s : State) (off v : Nat) : (s.setRn off v).stops = s.stops := rfl
@[simp] theorem State.setRn_twinWait (s : State) (off v : Nat) : (s.setRn off v).twinWait = s.twinWait := rfl
@[simp] theorem State.setRn_tallies (s : State) (off v : Nat) : (s.setRn off v).tallies = s.tallies := rfl
@[simp] theorem State.setRn_prod (s : State) (off v : Nat) : (s.setRn off v).prod = s.prod := rfl
@[simp] theorem State.setRn_canvas (s : State) (off v : Nat) : (s.setRn off v).canvas = s.canvas := rfl
@[simp] theorem State.setRn_fstore (s : State) (off v : Nat) : (s.setRn off v).fstore = s.fstore := rfl
@[simp] theorem State.setRn_larder (s : State) (off v : Nat) : (s.setRn off v).larder = s.larder := rfl
@[simp] theorem State.setRn_hoist (s : State) (off v : Nat) : (s.setRn off v).hoist = s.hoist := rfl
@[simp] theorem State.setRn_lane (s : State) (off v : Nat) : (s.setRn off v).lane = s.lane := rfl
@[simp] theorem State.setRn_fabric (s : State) (off v : Nat) : (s.setRn off v).fabric = s.fabric := rfl
@[simp] theorem State.setRn_mem (s : State) (off v : Nat) : (s.setRn off v).mem = s.mem := rfl
@[simp] theorem State.setRn_memPoison (s : State) (off v : Nat) : (s.setRn off v).memPoison = s.memPoison := rfl
@[simp] theorem State.setRn_tally (s : State) (off v : Nat) : (s.setRn off v).tally = s.tally := rfl
@[simp] theorem State.setRn_madc (s : State) (off v : Nat) : (s.setRn off v).madc = s.madc := rfl
@[simp] theorem State.setRn_spdm (s : State) (off v : Nat) : (s.setRn off v).spdm = s.spdm := rfl
@[simp] theorem State.setRn_attic (s : State) (off v : Nat) : (s.setRn off v).attic = s.attic := rfl

/-! ### setF -/

@[simp] theorem State.setF_pending (s : State) (f : Fld) (v : Nat) : (s.setF f v).pending = s.pending := rfl
@[simp] theorem State.setF_now (s : State) (f : Fld) (v : Nat) : (s.setF f v).now = s.now := rfl
@[simp] theorem State.setF_taken (s : State) (f : Fld) (v : Nat) : (s.setF f v).taken = s.taken := rfl
@[simp] theorem State.setF_act (s : State) (f : Fld) (v : Nat) : (s.setF f v).act = s.act := rfl
@[simp] theorem State.setF_written (s : State) (f : Fld) (v : Nat) : (s.setF f v).written = s.written := rfl
@[simp] theorem State.setF_pow (s : State) (f : Fld) (v : Nat) : (s.setF f v).pow = s.pow := rfl
@[simp] theorem State.setF_regu (s : State) (f : Fld) (v : Nat) : (s.setF f v).regu = s.regu := rfl
@[simp] theorem State.setF_isl (s : State) (f : Fld) (v : Nat) : (s.setF f v).isl = s.isl := rfl
@[simp] theorem State.setF_pcie (s : State) (f : Fld) (v : Nat) : (s.setF f v).pcie = s.pcie := rfl
@[simp] theorem State.setF_bridge (s : State) (f : Fld) (v : Nat) : (s.setF f v).bridge = s.bridge := rfl
@[simp] theorem State.setF_ident (s : State) (f : Fld) (v : Nat) : (s.setF f v).ident = s.ident := rfl
@[simp] theorem State.setF_scc (s : State) (f : Fld) (v : Nat) : (s.setF f v).scc = s.scc := rfl
@[simp] theorem State.setF_mgt (s : State) (f : Fld) (v : Nat) : (s.setF f v).mgt = s.mgt := rfl
@[simp] theorem State.setF_esc (s : State) (f : Fld) (v : Nat) : (s.setF f v).esc = s.esc := rfl
@[simp] theorem State.setF_frameNo (s : State) (f : Fld) (v : Nat) : (s.setF f v).frameNo = s.frameNo := rfl
@[simp] theorem State.setF_frameAt (s : State) (f : Fld) (v : Nat) : (s.setF f v).frameAt = s.frameAt := rfl
@[simp] theorem State.setF_started (s : State) (f : Fld) (v : Nat) : (s.setF f v).started = s.started := rfl
@[simp] theorem State.setF_fresh (s : State) (f : Fld) (v : Nat) : (s.setF f v).fresh = s.fresh := rfl
@[simp] theorem State.setF_msgs (s : State) (f : Fld) (v : Nat) : (s.setF f v).msgs = s.msgs := rfl
@[simp] theorem State.setF_reply (s : State) (f : Fld) (v : Nat) : (s.setF f v).reply = s.reply := rfl
@[simp] theorem State.setF_ring (s : State) (f : Fld) (v : Nat) : (s.setF f v).ring = s.ring := rfl
@[simp] theorem State.setF_wire (s : State) (f : Fld) (v : Nat) : (s.setF f v).wire = s.wire := rfl
@[simp] theorem State.setF_place (s : State) (f : Fld) (v : Nat) : (s.setF f v).place = s.place := rfl
@[simp] theorem State.setF_commits (s : State) (f : Fld) (v : Nat) : (s.setF f v).commits = s.commits := rfl
@[simp] theorem State.setF_port (s : State) (f : Fld) (v : Nat) : (s.setF f v).port = s.port := rfl
@[simp] theorem State.setF_pipe (s : State) (f : Fld) (v : Nat) : (s.setF f v).pipe = s.pipe := rfl
@[simp] theorem State.setF_jobs (s : State) (f : Fld) (v : Nat) : (s.setF f v).jobs = s.jobs := rfl
@[simp] theorem State.setF_nextJob (s : State) (f : Fld) (v : Nat) : (s.setF f v).nextJob = s.nextJob := rfl
@[simp] theorem State.setF_tile (s : State) (f : Fld) (v : Nat) : (s.setF f v).tile = s.tile := rfl
@[simp] theorem State.setF_readmit (s : State) (f : Fld) (v : Nat) : (s.setF f v).readmit = s.readmit := rfl
@[simp] theorem State.setF_stops (s : State) (f : Fld) (v : Nat) : (s.setF f v).stops = s.stops := rfl
@[simp] theorem State.setF_twinWait (s : State) (f : Fld) (v : Nat) : (s.setF f v).twinWait = s.twinWait := rfl
@[simp] theorem State.setF_tallies (s : State) (f : Fld) (v : Nat) : (s.setF f v).tallies = s.tallies := rfl
@[simp] theorem State.setF_prod (s : State) (f : Fld) (v : Nat) : (s.setF f v).prod = s.prod := rfl
@[simp] theorem State.setF_canvas (s : State) (f : Fld) (v : Nat) : (s.setF f v).canvas = s.canvas := rfl
@[simp] theorem State.setF_fstore (s : State) (f : Fld) (v : Nat) : (s.setF f v).fstore = s.fstore := rfl
@[simp] theorem State.setF_larder (s : State) (f : Fld) (v : Nat) : (s.setF f v).larder = s.larder := rfl
@[simp] theorem State.setF_hoist (s : State) (f : Fld) (v : Nat) : (s.setF f v).hoist = s.hoist := rfl
@[simp] theorem State.setF_lane (s : State) (f : Fld) (v : Nat) : (s.setF f v).lane = s.lane := rfl
@[simp] theorem State.setF_fabric (s : State) (f : Fld) (v : Nat) : (s.setF f v).fabric = s.fabric := rfl
@[simp] theorem State.setF_mem (s : State) (f : Fld) (v : Nat) : (s.setF f v).mem = s.mem := rfl
@[simp] theorem State.setF_memPoison (s : State) (f : Fld) (v : Nat) : (s.setF f v).memPoison = s.memPoison := rfl
@[simp] theorem State.setF_tally (s : State) (f : Fld) (v : Nat) : (s.setF f v).tally = s.tally := rfl
@[simp] theorem State.setF_madc (s : State) (f : Fld) (v : Nat) : (s.setF f v).madc = s.madc := rfl
@[simp] theorem State.setF_spdm (s : State) (f : Fld) (v : Nat) : (s.setF f v).spdm = s.spdm := rfl
@[simp] theorem State.setF_attic (s : State) (f : Fld) (v : Nat) : (s.setF f v).attic = s.attic := rfl

/-! ### setPair -/

@[simp] theorem State.setPair_pending (s : State) (lo hi v : Nat) : (s.setPair lo hi v).pending = s.pending := rfl
@[simp] theorem State.setPair_now (s : State) (lo hi v : Nat) : (s.setPair lo hi v).now = s.now := rfl
@[simp] theorem State.setPair_taken (s : State) (lo hi v : Nat) : (s.setPair lo hi v).taken = s.taken := rfl
@[simp] theorem State.setPair_act (s : State) (lo hi v : Nat) : (s.setPair lo hi v).act = s.act := rfl
@[simp] theorem State.setPair_written (s : State) (lo hi v : Nat) : (s.setPair lo hi v).written = s.written := rfl
@[simp] theorem State.setPair_pow (s : State) (lo hi v : Nat) : (s.setPair lo hi v).pow = s.pow := rfl
@[simp] theorem State.setPair_regu (s : State) (lo hi v : Nat) : (s.setPair lo hi v).regu = s.regu := rfl
@[simp] theorem State.setPair_isl (s : State) (lo hi v : Nat) : (s.setPair lo hi v).isl = s.isl := rfl
@[simp] theorem State.setPair_pcie (s : State) (lo hi v : Nat) : (s.setPair lo hi v).pcie = s.pcie := rfl
@[simp] theorem State.setPair_bridge (s : State) (lo hi v : Nat) : (s.setPair lo hi v).bridge = s.bridge := rfl
@[simp] theorem State.setPair_ident (s : State) (lo hi v : Nat) : (s.setPair lo hi v).ident = s.ident := rfl
@[simp] theorem State.setPair_scc (s : State) (lo hi v : Nat) : (s.setPair lo hi v).scc = s.scc := rfl
@[simp] theorem State.setPair_mgt (s : State) (lo hi v : Nat) : (s.setPair lo hi v).mgt = s.mgt := rfl
@[simp] theorem State.setPair_esc (s : State) (lo hi v : Nat) : (s.setPair lo hi v).esc = s.esc := rfl
@[simp] theorem State.setPair_frameNo (s : State) (lo hi v : Nat) : (s.setPair lo hi v).frameNo = s.frameNo := rfl
@[simp] theorem State.setPair_frameAt (s : State) (lo hi v : Nat) : (s.setPair lo hi v).frameAt = s.frameAt := rfl
@[simp] theorem State.setPair_started (s : State) (lo hi v : Nat) : (s.setPair lo hi v).started = s.started := rfl
@[simp] theorem State.setPair_fresh (s : State) (lo hi v : Nat) : (s.setPair lo hi v).fresh = s.fresh := rfl
@[simp] theorem State.setPair_msgs (s : State) (lo hi v : Nat) : (s.setPair lo hi v).msgs = s.msgs := rfl
@[simp] theorem State.setPair_reply (s : State) (lo hi v : Nat) : (s.setPair lo hi v).reply = s.reply := rfl
@[simp] theorem State.setPair_ring (s : State) (lo hi v : Nat) : (s.setPair lo hi v).ring = s.ring := rfl
@[simp] theorem State.setPair_wire (s : State) (lo hi v : Nat) : (s.setPair lo hi v).wire = s.wire := rfl
@[simp] theorem State.setPair_place (s : State) (lo hi v : Nat) : (s.setPair lo hi v).place = s.place := rfl
@[simp] theorem State.setPair_commits (s : State) (lo hi v : Nat) : (s.setPair lo hi v).commits = s.commits := rfl
@[simp] theorem State.setPair_port (s : State) (lo hi v : Nat) : (s.setPair lo hi v).port = s.port := rfl
@[simp] theorem State.setPair_pipe (s : State) (lo hi v : Nat) : (s.setPair lo hi v).pipe = s.pipe := rfl
@[simp] theorem State.setPair_jobs (s : State) (lo hi v : Nat) : (s.setPair lo hi v).jobs = s.jobs := rfl
@[simp] theorem State.setPair_nextJob (s : State) (lo hi v : Nat) : (s.setPair lo hi v).nextJob = s.nextJob := rfl
@[simp] theorem State.setPair_tile (s : State) (lo hi v : Nat) : (s.setPair lo hi v).tile = s.tile := rfl
@[simp] theorem State.setPair_readmit (s : State) (lo hi v : Nat) : (s.setPair lo hi v).readmit = s.readmit := rfl
@[simp] theorem State.setPair_stops (s : State) (lo hi v : Nat) : (s.setPair lo hi v).stops = s.stops := rfl
@[simp] theorem State.setPair_twinWait (s : State) (lo hi v : Nat) : (s.setPair lo hi v).twinWait = s.twinWait := rfl
@[simp] theorem State.setPair_tallies (s : State) (lo hi v : Nat) : (s.setPair lo hi v).tallies = s.tallies := rfl
@[simp] theorem State.setPair_prod (s : State) (lo hi v : Nat) : (s.setPair lo hi v).prod = s.prod := rfl
@[simp] theorem State.setPair_canvas (s : State) (lo hi v : Nat) : (s.setPair lo hi v).canvas = s.canvas := rfl
@[simp] theorem State.setPair_fstore (s : State) (lo hi v : Nat) : (s.setPair lo hi v).fstore = s.fstore := rfl
@[simp] theorem State.setPair_larder (s : State) (lo hi v : Nat) : (s.setPair lo hi v).larder = s.larder := rfl
@[simp] theorem State.setPair_hoist (s : State) (lo hi v : Nat) : (s.setPair lo hi v).hoist = s.hoist := rfl
@[simp] theorem State.setPair_lane (s : State) (lo hi v : Nat) : (s.setPair lo hi v).lane = s.lane := rfl
@[simp] theorem State.setPair_fabric (s : State) (lo hi v : Nat) : (s.setPair lo hi v).fabric = s.fabric := rfl
@[simp] theorem State.setPair_mem (s : State) (lo hi v : Nat) : (s.setPair lo hi v).mem = s.mem := rfl
@[simp] theorem State.setPair_memPoison (s : State) (lo hi v : Nat) : (s.setPair lo hi v).memPoison = s.memPoison := rfl
@[simp] theorem State.setPair_tally (s : State) (lo hi v : Nat) : (s.setPair lo hi v).tally = s.tally := rfl
@[simp] theorem State.setPair_madc (s : State) (lo hi v : Nat) : (s.setPair lo hi v).madc = s.madc := rfl
@[simp] theorem State.setPair_spdm (s : State) (lo hi v : Nat) : (s.setPair lo hi v).spdm = s.spdm := rfl
@[simp] theorem State.setPair_attic (s : State) (lo hi v : Nat) : (s.setPair lo hi v).attic = s.attic := rfl

/-! ### bump -/

@[simp] theorem State.bump_pending (s : State) (f : Fld) : (s.bump f).pending = s.pending := rfl
@[simp] theorem State.bump_now (s : State) (f : Fld) : (s.bump f).now = s.now := rfl
@[simp] theorem State.bump_taken (s : State) (f : Fld) : (s.bump f).taken = s.taken := rfl
@[simp] theorem State.bump_act (s : State) (f : Fld) : (s.bump f).act = s.act := rfl
@[simp] theorem State.bump_written (s : State) (f : Fld) : (s.bump f).written = s.written := rfl
@[simp] theorem State.bump_pow (s : State) (f : Fld) : (s.bump f).pow = s.pow := rfl
@[simp] theorem State.bump_regu (s : State) (f : Fld) : (s.bump f).regu = s.regu := rfl
@[simp] theorem State.bump_isl (s : State) (f : Fld) : (s.bump f).isl = s.isl := rfl
@[simp] theorem State.bump_pcie (s : State) (f : Fld) : (s.bump f).pcie = s.pcie := rfl
@[simp] theorem State.bump_bridge (s : State) (f : Fld) : (s.bump f).bridge = s.bridge := rfl
@[simp] theorem State.bump_ident (s : State) (f : Fld) : (s.bump f).ident = s.ident := rfl
@[simp] theorem State.bump_scc (s : State) (f : Fld) : (s.bump f).scc = s.scc := rfl
@[simp] theorem State.bump_mgt (s : State) (f : Fld) : (s.bump f).mgt = s.mgt := rfl
@[simp] theorem State.bump_esc (s : State) (f : Fld) : (s.bump f).esc = s.esc := rfl
@[simp] theorem State.bump_frameNo (s : State) (f : Fld) : (s.bump f).frameNo = s.frameNo := rfl
@[simp] theorem State.bump_frameAt (s : State) (f : Fld) : (s.bump f).frameAt = s.frameAt := rfl
@[simp] theorem State.bump_started (s : State) (f : Fld) : (s.bump f).started = s.started := rfl
@[simp] theorem State.bump_fresh (s : State) (f : Fld) : (s.bump f).fresh = s.fresh := rfl
@[simp] theorem State.bump_msgs (s : State) (f : Fld) : (s.bump f).msgs = s.msgs := rfl
@[simp] theorem State.bump_reply (s : State) (f : Fld) : (s.bump f).reply = s.reply := rfl
@[simp] theorem State.bump_ring (s : State) (f : Fld) : (s.bump f).ring = s.ring := rfl
@[simp] theorem State.bump_wire (s : State) (f : Fld) : (s.bump f).wire = s.wire := rfl
@[simp] theorem State.bump_place (s : State) (f : Fld) : (s.bump f).place = s.place := rfl
@[simp] theorem State.bump_commits (s : State) (f : Fld) : (s.bump f).commits = s.commits := rfl
@[simp] theorem State.bump_port (s : State) (f : Fld) : (s.bump f).port = s.port := rfl
@[simp] theorem State.bump_pipe (s : State) (f : Fld) : (s.bump f).pipe = s.pipe := rfl
@[simp] theorem State.bump_jobs (s : State) (f : Fld) : (s.bump f).jobs = s.jobs := rfl
@[simp] theorem State.bump_nextJob (s : State) (f : Fld) : (s.bump f).nextJob = s.nextJob := rfl
@[simp] theorem State.bump_tile (s : State) (f : Fld) : (s.bump f).tile = s.tile := rfl
@[simp] theorem State.bump_readmit (s : State) (f : Fld) : (s.bump f).readmit = s.readmit := rfl
@[simp] theorem State.bump_stops (s : State) (f : Fld) : (s.bump f).stops = s.stops := rfl
@[simp] theorem State.bump_twinWait (s : State) (f : Fld) : (s.bump f).twinWait = s.twinWait := rfl
@[simp] theorem State.bump_tallies (s : State) (f : Fld) : (s.bump f).tallies = s.tallies := rfl
@[simp] theorem State.bump_prod (s : State) (f : Fld) : (s.bump f).prod = s.prod := rfl
@[simp] theorem State.bump_canvas (s : State) (f : Fld) : (s.bump f).canvas = s.canvas := rfl
@[simp] theorem State.bump_fstore (s : State) (f : Fld) : (s.bump f).fstore = s.fstore := rfl
@[simp] theorem State.bump_larder (s : State) (f : Fld) : (s.bump f).larder = s.larder := rfl
@[simp] theorem State.bump_hoist (s : State) (f : Fld) : (s.bump f).hoist = s.hoist := rfl
@[simp] theorem State.bump_lane (s : State) (f : Fld) : (s.bump f).lane = s.lane := rfl
@[simp] theorem State.bump_fabric (s : State) (f : Fld) : (s.bump f).fabric = s.fabric := rfl
@[simp] theorem State.bump_mem (s : State) (f : Fld) : (s.bump f).mem = s.mem := rfl
@[simp] theorem State.bump_memPoison (s : State) (f : Fld) : (s.bump f).memPoison = s.memPoison := rfl
@[simp] theorem State.bump_tally (s : State) (f : Fld) : (s.bump f).tally = s.tally := rfl
@[simp] theorem State.bump_madc (s : State) (f : Fld) : (s.bump f).madc = s.madc := rfl
@[simp] theorem State.bump_spdm (s : State) (f : Fld) : (s.bump f).spdm = s.spdm := rfl
@[simp] theorem State.bump_attic (s : State) (f : Fld) : (s.bump f).attic = s.attic := rfl

/-! ### bumpBy -/

@[simp] theorem State.bumpBy_pending (s : State) (f : Fld) (n : Nat) : (s.bumpBy f n).pending = s.pending := rfl
@[simp] theorem State.bumpBy_now (s : State) (f : Fld) (n : Nat) : (s.bumpBy f n).now = s.now := rfl
@[simp] theorem State.bumpBy_taken (s : State) (f : Fld) (n : Nat) : (s.bumpBy f n).taken = s.taken := rfl
@[simp] theorem State.bumpBy_act (s : State) (f : Fld) (n : Nat) : (s.bumpBy f n).act = s.act := rfl
@[simp] theorem State.bumpBy_written (s : State) (f : Fld) (n : Nat) : (s.bumpBy f n).written = s.written := rfl
@[simp] theorem State.bumpBy_pow (s : State) (f : Fld) (n : Nat) : (s.bumpBy f n).pow = s.pow := rfl
@[simp] theorem State.bumpBy_regu (s : State) (f : Fld) (n : Nat) : (s.bumpBy f n).regu = s.regu := rfl
@[simp] theorem State.bumpBy_isl (s : State) (f : Fld) (n : Nat) : (s.bumpBy f n).isl = s.isl := rfl
@[simp] theorem State.bumpBy_pcie (s : State) (f : Fld) (n : Nat) : (s.bumpBy f n).pcie = s.pcie := rfl
@[simp] theorem State.bumpBy_bridge (s : State) (f : Fld) (n : Nat) : (s.bumpBy f n).bridge = s.bridge := rfl
@[simp] theorem State.bumpBy_ident (s : State) (f : Fld) (n : Nat) : (s.bumpBy f n).ident = s.ident := rfl
@[simp] theorem State.bumpBy_scc (s : State) (f : Fld) (n : Nat) : (s.bumpBy f n).scc = s.scc := rfl
@[simp] theorem State.bumpBy_mgt (s : State) (f : Fld) (n : Nat) : (s.bumpBy f n).mgt = s.mgt := rfl
@[simp] theorem State.bumpBy_esc (s : State) (f : Fld) (n : Nat) : (s.bumpBy f n).esc = s.esc := rfl
@[simp] theorem State.bumpBy_frameNo (s : State) (f : Fld) (n : Nat) : (s.bumpBy f n).frameNo = s.frameNo := rfl
@[simp] theorem State.bumpBy_frameAt (s : State) (f : Fld) (n : Nat) : (s.bumpBy f n).frameAt = s.frameAt := rfl
@[simp] theorem State.bumpBy_started (s : State) (f : Fld) (n : Nat) : (s.bumpBy f n).started = s.started := rfl
@[simp] theorem State.bumpBy_fresh (s : State) (f : Fld) (n : Nat) : (s.bumpBy f n).fresh = s.fresh := rfl
@[simp] theorem State.bumpBy_msgs (s : State) (f : Fld) (n : Nat) : (s.bumpBy f n).msgs = s.msgs := rfl
@[simp] theorem State.bumpBy_reply (s : State) (f : Fld) (n : Nat) : (s.bumpBy f n).reply = s.reply := rfl
@[simp] theorem State.bumpBy_ring (s : State) (f : Fld) (n : Nat) : (s.bumpBy f n).ring = s.ring := rfl
@[simp] theorem State.bumpBy_wire (s : State) (f : Fld) (n : Nat) : (s.bumpBy f n).wire = s.wire := rfl
@[simp] theorem State.bumpBy_place (s : State) (f : Fld) (n : Nat) : (s.bumpBy f n).place = s.place := rfl
@[simp] theorem State.bumpBy_commits (s : State) (f : Fld) (n : Nat) : (s.bumpBy f n).commits = s.commits := rfl
@[simp] theorem State.bumpBy_port (s : State) (f : Fld) (n : Nat) : (s.bumpBy f n).port = s.port := rfl
@[simp] theorem State.bumpBy_pipe (s : State) (f : Fld) (n : Nat) : (s.bumpBy f n).pipe = s.pipe := rfl
@[simp] theorem State.bumpBy_jobs (s : State) (f : Fld) (n : Nat) : (s.bumpBy f n).jobs = s.jobs := rfl
@[simp] theorem State.bumpBy_nextJob (s : State) (f : Fld) (n : Nat) : (s.bumpBy f n).nextJob = s.nextJob := rfl
@[simp] theorem State.bumpBy_tile (s : State) (f : Fld) (n : Nat) : (s.bumpBy f n).tile = s.tile := rfl
@[simp] theorem State.bumpBy_readmit (s : State) (f : Fld) (n : Nat) : (s.bumpBy f n).readmit = s.readmit := rfl
@[simp] theorem State.bumpBy_stops (s : State) (f : Fld) (n : Nat) : (s.bumpBy f n).stops = s.stops := rfl
@[simp] theorem State.bumpBy_twinWait (s : State) (f : Fld) (n : Nat) : (s.bumpBy f n).twinWait = s.twinWait := rfl
@[simp] theorem State.bumpBy_tallies (s : State) (f : Fld) (n : Nat) : (s.bumpBy f n).tallies = s.tallies := rfl
@[simp] theorem State.bumpBy_prod (s : State) (f : Fld) (n : Nat) : (s.bumpBy f n).prod = s.prod := rfl
@[simp] theorem State.bumpBy_canvas (s : State) (f : Fld) (n : Nat) : (s.bumpBy f n).canvas = s.canvas := rfl
@[simp] theorem State.bumpBy_fstore (s : State) (f : Fld) (n : Nat) : (s.bumpBy f n).fstore = s.fstore := rfl
@[simp] theorem State.bumpBy_larder (s : State) (f : Fld) (n : Nat) : (s.bumpBy f n).larder = s.larder := rfl
@[simp] theorem State.bumpBy_hoist (s : State) (f : Fld) (n : Nat) : (s.bumpBy f n).hoist = s.hoist := rfl
@[simp] theorem State.bumpBy_lane (s : State) (f : Fld) (n : Nat) : (s.bumpBy f n).lane = s.lane := rfl
@[simp] theorem State.bumpBy_fabric (s : State) (f : Fld) (n : Nat) : (s.bumpBy f n).fabric = s.fabric := rfl
@[simp] theorem State.bumpBy_mem (s : State) (f : Fld) (n : Nat) : (s.bumpBy f n).mem = s.mem := rfl
@[simp] theorem State.bumpBy_memPoison (s : State) (f : Fld) (n : Nat) : (s.bumpBy f n).memPoison = s.memPoison := rfl
@[simp] theorem State.bumpBy_tally (s : State) (f : Fld) (n : Nat) : (s.bumpBy f n).tally = s.tally := rfl
@[simp] theorem State.bumpBy_madc (s : State) (f : Fld) (n : Nat) : (s.bumpBy f n).madc = s.madc := rfl
@[simp] theorem State.bumpBy_spdm (s : State) (f : Fld) (n : Nat) : (s.bumpBy f n).spdm = s.spdm := rfl
@[simp] theorem State.bumpBy_attic (s : State) (f : Fld) (n : Nat) : (s.bumpBy f n).attic = s.attic := rfl

/-! ### resetRegs -/

@[simp] theorem State.resetRegs_pending (s : State) (lo hi : Nat) : (s.resetRegs lo hi).pending = s.pending := rfl
@[simp] theorem State.resetRegs_now (s : State) (lo hi : Nat) : (s.resetRegs lo hi).now = s.now := rfl
@[simp] theorem State.resetRegs_taken (s : State) (lo hi : Nat) : (s.resetRegs lo hi).taken = s.taken := rfl
@[simp] theorem State.resetRegs_act (s : State) (lo hi : Nat) : (s.resetRegs lo hi).act = s.act := rfl
@[simp] theorem State.resetRegs_written (s : State) (lo hi : Nat) : (s.resetRegs lo hi).written = s.written := rfl
@[simp] theorem State.resetRegs_pow (s : State) (lo hi : Nat) : (s.resetRegs lo hi).pow = s.pow := rfl
@[simp] theorem State.resetRegs_regu (s : State) (lo hi : Nat) : (s.resetRegs lo hi).regu = s.regu := rfl
@[simp] theorem State.resetRegs_isl (s : State) (lo hi : Nat) : (s.resetRegs lo hi).isl = s.isl := rfl
@[simp] theorem State.resetRegs_pcie (s : State) (lo hi : Nat) : (s.resetRegs lo hi).pcie = s.pcie := rfl
@[simp] theorem State.resetRegs_bridge (s : State) (lo hi : Nat) : (s.resetRegs lo hi).bridge = s.bridge := rfl
@[simp] theorem State.resetRegs_ident (s : State) (lo hi : Nat) : (s.resetRegs lo hi).ident = s.ident := rfl
@[simp] theorem State.resetRegs_scc (s : State) (lo hi : Nat) : (s.resetRegs lo hi).scc = s.scc := rfl
@[simp] theorem State.resetRegs_mgt (s : State) (lo hi : Nat) : (s.resetRegs lo hi).mgt = s.mgt := rfl
@[simp] theorem State.resetRegs_esc (s : State) (lo hi : Nat) : (s.resetRegs lo hi).esc = s.esc := rfl
@[simp] theorem State.resetRegs_frameNo (s : State) (lo hi : Nat) : (s.resetRegs lo hi).frameNo = s.frameNo := rfl
@[simp] theorem State.resetRegs_frameAt (s : State) (lo hi : Nat) : (s.resetRegs lo hi).frameAt = s.frameAt := rfl
@[simp] theorem State.resetRegs_started (s : State) (lo hi : Nat) : (s.resetRegs lo hi).started = s.started := rfl
@[simp] theorem State.resetRegs_fresh (s : State) (lo hi : Nat) : (s.resetRegs lo hi).fresh = s.fresh := rfl
@[simp] theorem State.resetRegs_msgs (s : State) (lo hi : Nat) : (s.resetRegs lo hi).msgs = s.msgs := rfl
@[simp] theorem State.resetRegs_reply (s : State) (lo hi : Nat) : (s.resetRegs lo hi).reply = s.reply := rfl
@[simp] theorem State.resetRegs_ring (s : State) (lo hi : Nat) : (s.resetRegs lo hi).ring = s.ring := rfl
@[simp] theorem State.resetRegs_wire (s : State) (lo hi : Nat) : (s.resetRegs lo hi).wire = s.wire := rfl
@[simp] theorem State.resetRegs_place (s : State) (lo hi : Nat) : (s.resetRegs lo hi).place = s.place := rfl
@[simp] theorem State.resetRegs_commits (s : State) (lo hi : Nat) : (s.resetRegs lo hi).commits = s.commits := rfl
@[simp] theorem State.resetRegs_port (s : State) (lo hi : Nat) : (s.resetRegs lo hi).port = s.port := rfl
@[simp] theorem State.resetRegs_pipe (s : State) (lo hi : Nat) : (s.resetRegs lo hi).pipe = s.pipe := rfl
@[simp] theorem State.resetRegs_jobs (s : State) (lo hi : Nat) : (s.resetRegs lo hi).jobs = s.jobs := rfl
@[simp] theorem State.resetRegs_nextJob (s : State) (lo hi : Nat) : (s.resetRegs lo hi).nextJob = s.nextJob := rfl
@[simp] theorem State.resetRegs_tile (s : State) (lo hi : Nat) : (s.resetRegs lo hi).tile = s.tile := rfl
@[simp] theorem State.resetRegs_readmit (s : State) (lo hi : Nat) : (s.resetRegs lo hi).readmit = s.readmit := rfl
@[simp] theorem State.resetRegs_stops (s : State) (lo hi : Nat) : (s.resetRegs lo hi).stops = s.stops := rfl
@[simp] theorem State.resetRegs_twinWait (s : State) (lo hi : Nat) : (s.resetRegs lo hi).twinWait = s.twinWait := rfl
@[simp] theorem State.resetRegs_tallies (s : State) (lo hi : Nat) : (s.resetRegs lo hi).tallies = s.tallies := rfl
@[simp] theorem State.resetRegs_prod (s : State) (lo hi : Nat) : (s.resetRegs lo hi).prod = s.prod := rfl
@[simp] theorem State.resetRegs_canvas (s : State) (lo hi : Nat) : (s.resetRegs lo hi).canvas = s.canvas := rfl
@[simp] theorem State.resetRegs_fstore (s : State) (lo hi : Nat) : (s.resetRegs lo hi).fstore = s.fstore := rfl
@[simp] theorem State.resetRegs_larder (s : State) (lo hi : Nat) : (s.resetRegs lo hi).larder = s.larder := rfl
@[simp] theorem State.resetRegs_hoist (s : State) (lo hi : Nat) : (s.resetRegs lo hi).hoist = s.hoist := rfl
@[simp] theorem State.resetRegs_lane (s : State) (lo hi : Nat) : (s.resetRegs lo hi).lane = s.lane := rfl
@[simp] theorem State.resetRegs_fabric (s : State) (lo hi : Nat) : (s.resetRegs lo hi).fabric = s.fabric := rfl
@[simp] theorem State.resetRegs_mem (s : State) (lo hi : Nat) : (s.resetRegs lo hi).mem = s.mem := rfl
@[simp] theorem State.resetRegs_memPoison (s : State) (lo hi : Nat) : (s.resetRegs lo hi).memPoison = s.memPoison := rfl
@[simp] theorem State.resetRegs_tally (s : State) (lo hi : Nat) : (s.resetRegs lo hi).tally = s.tally := rfl
@[simp] theorem State.resetRegs_madc (s : State) (lo hi : Nat) : (s.resetRegs lo hi).madc = s.madc := rfl
@[simp] theorem State.resetRegs_spdm (s : State) (lo hi : Nat) : (s.resetRegs lo hi).spdm = s.spdm := rfl
@[simp] theorem State.resetRegs_attic (s : State) (lo hi : Nat) : (s.resetRegs lo hi).attic = s.attic := rfl

/-! ### report -/

@[simp] theorem State.report_pending (s : State) (c i k d : Nat) : (s.report c i k d).pending = s.pending := rfl
@[simp] theorem State.report_now (s : State) (c i k d : Nat) : (s.report c i k d).now = s.now := rfl
@[simp] theorem State.report_taken (s : State) (c i k d : Nat) : (s.report c i k d).taken = s.taken := rfl
@[simp] theorem State.report_regs (s : State) (c i k d : Nat) : (s.report c i k d).regs = s.regs := rfl
@[simp] theorem State.report_act (s : State) (c i k d : Nat) : (s.report c i k d).act = s.act := rfl
@[simp] theorem State.report_written (s : State) (c i k d : Nat) : (s.report c i k d).written = s.written := rfl
@[simp] theorem State.report_pow (s : State) (c i k d : Nat) : (s.report c i k d).pow = s.pow := rfl
@[simp] theorem State.report_regu (s : State) (c i k d : Nat) : (s.report c i k d).regu = s.regu := rfl
@[simp] theorem State.report_pcie (s : State) (c i k d : Nat) : (s.report c i k d).pcie = s.pcie := rfl
@[simp] theorem State.report_bridge (s : State) (c i k d : Nat) : (s.report c i k d).bridge = s.bridge := rfl
@[simp] theorem State.report_ident (s : State) (c i k d : Nat) : (s.report c i k d).ident = s.ident := rfl
@[simp] theorem State.report_scc (s : State) (c i k d : Nat) : (s.report c i k d).scc = s.scc := rfl
@[simp] theorem State.report_mgt (s : State) (c i k d : Nat) : (s.report c i k d).mgt = s.mgt := rfl
@[simp] theorem State.report_esc (s : State) (c i k d : Nat) : (s.report c i k d).esc = s.esc := rfl
@[simp] theorem State.report_frameNo (s : State) (c i k d : Nat) : (s.report c i k d).frameNo = s.frameNo := rfl
@[simp] theorem State.report_frameAt (s : State) (c i k d : Nat) : (s.report c i k d).frameAt = s.frameAt := rfl
@[simp] theorem State.report_started (s : State) (c i k d : Nat) : (s.report c i k d).started = s.started := rfl
@[simp] theorem State.report_fresh (s : State) (c i k d : Nat) : (s.report c i k d).fresh = s.fresh := rfl
@[simp] theorem State.report_msgs (s : State) (c i k d : Nat) : (s.report c i k d).msgs = s.msgs := rfl
@[simp] theorem State.report_reply (s : State) (c i k d : Nat) : (s.report c i k d).reply = s.reply := rfl
@[simp] theorem State.report_ring (s : State) (c i k d : Nat) : (s.report c i k d).ring = s.ring := rfl
@[simp] theorem State.report_wire (s : State) (c i k d : Nat) : (s.report c i k d).wire = s.wire := rfl
@[simp] theorem State.report_place (s : State) (c i k d : Nat) : (s.report c i k d).place = s.place := rfl
@[simp] theorem State.report_commits (s : State) (c i k d : Nat) : (s.report c i k d).commits = s.commits := rfl
@[simp] theorem State.report_port (s : State) (c i k d : Nat) : (s.report c i k d).port = s.port := rfl
@[simp] theorem State.report_pipe (s : State) (c i k d : Nat) : (s.report c i k d).pipe = s.pipe := rfl
@[simp] theorem State.report_jobs (s : State) (c i k d : Nat) : (s.report c i k d).jobs = s.jobs := rfl
@[simp] theorem State.report_nextJob (s : State) (c i k d : Nat) : (s.report c i k d).nextJob = s.nextJob := rfl
@[simp] theorem State.report_tile (s : State) (c i k d : Nat) : (s.report c i k d).tile = s.tile := rfl
@[simp] theorem State.report_readmit (s : State) (c i k d : Nat) : (s.report c i k d).readmit = s.readmit := rfl
@[simp] theorem State.report_stops (s : State) (c i k d : Nat) : (s.report c i k d).stops = s.stops := rfl
@[simp] theorem State.report_twinWait (s : State) (c i k d : Nat) : (s.report c i k d).twinWait = s.twinWait := rfl
@[simp] theorem State.report_tallies (s : State) (c i k d : Nat) : (s.report c i k d).tallies = s.tallies := rfl
@[simp] theorem State.report_prod (s : State) (c i k d : Nat) : (s.report c i k d).prod = s.prod := rfl
@[simp] theorem State.report_canvas (s : State) (c i k d : Nat) : (s.report c i k d).canvas = s.canvas := rfl
@[simp] theorem State.report_fstore (s : State) (c i k d : Nat) : (s.report c i k d).fstore = s.fstore := rfl
@[simp] theorem State.report_larder (s : State) (c i k d : Nat) : (s.report c i k d).larder = s.larder := rfl
@[simp] theorem State.report_hoist (s : State) (c i k d : Nat) : (s.report c i k d).hoist = s.hoist := rfl
@[simp] theorem State.report_lane (s : State) (c i k d : Nat) : (s.report c i k d).lane = s.lane := rfl
@[simp] theorem State.report_fabric (s : State) (c i k d : Nat) : (s.report c i k d).fabric = s.fabric := rfl
@[simp] theorem State.report_mem (s : State) (c i k d : Nat) : (s.report c i k d).mem = s.mem := rfl
@[simp] theorem State.report_memPoison (s : State) (c i k d : Nat) : (s.report c i k d).memPoison = s.memPoison := rfl
@[simp] theorem State.report_tally (s : State) (c i k d : Nat) : (s.report c i k d).tally = s.tally := rfl
@[simp] theorem State.report_madc (s : State) (c i k d : Nat) : (s.report c i k d).madc = s.madc := rfl
@[simp] theorem State.report_spdm (s : State) (c i k d : Nat) : (s.report c i k d).spdm = s.spdm := rfl
@[simp] theorem State.report_attic (s : State) (c i k d : Nat) : (s.report c i k d).attic = s.attic := rfl

/-! ### answer -/

@[simp] theorem State.answer_pending (s : State) (r : RStatus) (bs : List Byte) : (s.answer r bs).pending = s.pending := rfl
@[simp] theorem State.answer_now (s : State) (r : RStatus) (bs : List Byte) : (s.answer r bs).now = s.now := rfl
@[simp] theorem State.answer_taken (s : State) (r : RStatus) (bs : List Byte) : (s.answer r bs).taken = s.taken := rfl
@[simp] theorem State.answer_regs (s : State) (r : RStatus) (bs : List Byte) : (s.answer r bs).regs = s.regs := rfl
@[simp] theorem State.answer_act (s : State) (r : RStatus) (bs : List Byte) : (s.answer r bs).act = s.act := rfl
@[simp] theorem State.answer_written (s : State) (r : RStatus) (bs : List Byte) : (s.answer r bs).written = s.written := rfl
@[simp] theorem State.answer_pow (s : State) (r : RStatus) (bs : List Byte) : (s.answer r bs).pow = s.pow := rfl
@[simp] theorem State.answer_regu (s : State) (r : RStatus) (bs : List Byte) : (s.answer r bs).regu = s.regu := rfl
@[simp] theorem State.answer_isl (s : State) (r : RStatus) (bs : List Byte) : (s.answer r bs).isl = s.isl := rfl
@[simp] theorem State.answer_pcie (s : State) (r : RStatus) (bs : List Byte) : (s.answer r bs).pcie = s.pcie := rfl
@[simp] theorem State.answer_bridge (s : State) (r : RStatus) (bs : List Byte) : (s.answer r bs).bridge = s.bridge := rfl
@[simp] theorem State.answer_ident (s : State) (r : RStatus) (bs : List Byte) : (s.answer r bs).ident = s.ident := rfl
@[simp] theorem State.answer_scc (s : State) (r : RStatus) (bs : List Byte) : (s.answer r bs).scc = s.scc := rfl
@[simp] theorem State.answer_mgt (s : State) (r : RStatus) (bs : List Byte) : (s.answer r bs).mgt = s.mgt := rfl
@[simp] theorem State.answer_esc (s : State) (r : RStatus) (bs : List Byte) : (s.answer r bs).esc = s.esc := rfl
@[simp] theorem State.answer_frameNo (s : State) (r : RStatus) (bs : List Byte) : (s.answer r bs).frameNo = s.frameNo := rfl
@[simp] theorem State.answer_frameAt (s : State) (r : RStatus) (bs : List Byte) : (s.answer r bs).frameAt = s.frameAt := rfl
@[simp] theorem State.answer_started (s : State) (r : RStatus) (bs : List Byte) : (s.answer r bs).started = s.started := rfl
@[simp] theorem State.answer_fresh (s : State) (r : RStatus) (bs : List Byte) : (s.answer r bs).fresh = s.fresh := rfl
@[simp] theorem State.answer_msgs (s : State) (r : RStatus) (bs : List Byte) : (s.answer r bs).msgs = s.msgs := rfl
@[simp] theorem State.answer_ring (s : State) (r : RStatus) (bs : List Byte) : (s.answer r bs).ring = s.ring := rfl
@[simp] theorem State.answer_wire (s : State) (r : RStatus) (bs : List Byte) : (s.answer r bs).wire = s.wire := rfl
@[simp] theorem State.answer_place (s : State) (r : RStatus) (bs : List Byte) : (s.answer r bs).place = s.place := rfl
@[simp] theorem State.answer_commits (s : State) (r : RStatus) (bs : List Byte) : (s.answer r bs).commits = s.commits := rfl
@[simp] theorem State.answer_port (s : State) (r : RStatus) (bs : List Byte) : (s.answer r bs).port = s.port := rfl
@[simp] theorem State.answer_pipe (s : State) (r : RStatus) (bs : List Byte) : (s.answer r bs).pipe = s.pipe := rfl
@[simp] theorem State.answer_jobs (s : State) (r : RStatus) (bs : List Byte) : (s.answer r bs).jobs = s.jobs := rfl
@[simp] theorem State.answer_nextJob (s : State) (r : RStatus) (bs : List Byte) : (s.answer r bs).nextJob = s.nextJob := rfl
@[simp] theorem State.answer_tile (s : State) (r : RStatus) (bs : List Byte) : (s.answer r bs).tile = s.tile := rfl
@[simp] theorem State.answer_readmit (s : State) (r : RStatus) (bs : List Byte) : (s.answer r bs).readmit = s.readmit := rfl
@[simp] theorem State.answer_stops (s : State) (r : RStatus) (bs : List Byte) : (s.answer r bs).stops = s.stops := rfl
@[simp] theorem State.answer_twinWait (s : State) (r : RStatus) (bs : List Byte) : (s.answer r bs).twinWait = s.twinWait := rfl
@[simp] theorem State.answer_tallies (s : State) (r : RStatus) (bs : List Byte) : (s.answer r bs).tallies = s.tallies := rfl
@[simp] theorem State.answer_prod (s : State) (r : RStatus) (bs : List Byte) : (s.answer r bs).prod = s.prod := rfl
@[simp] theorem State.answer_canvas (s : State) (r : RStatus) (bs : List Byte) : (s.answer r bs).canvas = s.canvas := rfl
@[simp] theorem State.answer_fstore (s : State) (r : RStatus) (bs : List Byte) : (s.answer r bs).fstore = s.fstore := rfl
@[simp] theorem State.answer_larder (s : State) (r : RStatus) (bs : List Byte) : (s.answer r bs).larder = s.larder := rfl
@[simp] theorem State.answer_hoist (s : State) (r : RStatus) (bs : List Byte) : (s.answer r bs).hoist = s.hoist := rfl
@[simp] theorem State.answer_lane (s : State) (r : RStatus) (bs : List Byte) : (s.answer r bs).lane = s.lane := rfl
@[simp] theorem State.answer_fabric (s : State) (r : RStatus) (bs : List Byte) : (s.answer r bs).fabric = s.fabric := rfl
@[simp] theorem State.answer_mem (s : State) (r : RStatus) (bs : List Byte) : (s.answer r bs).mem = s.mem := rfl
@[simp] theorem State.answer_memPoison (s : State) (r : RStatus) (bs : List Byte) : (s.answer r bs).memPoison = s.memPoison := rfl
@[simp] theorem State.answer_tally (s : State) (r : RStatus) (bs : List Byte) : (s.answer r bs).tally = s.tally := rfl
@[simp] theorem State.answer_madc (s : State) (r : RStatus) (bs : List Byte) : (s.answer r bs).madc = s.madc := rfl
@[simp] theorem State.answer_spdm (s : State) (r : RStatus) (bs : List Byte) : (s.answer r bs).spdm = s.spdm := rfl
@[simp] theorem State.answer_attic (s : State) (r : RStatus) (bs : List Byte) : (s.answer r bs).attic = s.attic := rfl

/-! ### withPending -/

@[simp] theorem State.withPending_now (s : State) (q : List Instr) : (s.withPending q).now = s.now := rfl
@[simp] theorem State.withPending_taken (s : State) (q : List Instr) : (s.withPending q).taken = s.taken := rfl
@[simp] theorem State.withPending_regs (s : State) (q : List Instr) : (s.withPending q).regs = s.regs := rfl
@[simp] theorem State.withPending_act (s : State) (q : List Instr) : (s.withPending q).act = s.act := rfl
@[simp] theorem State.withPending_written (s : State) (q : List Instr) : (s.withPending q).written = s.written := rfl
@[simp] theorem State.withPending_pow (s : State) (q : List Instr) : (s.withPending q).pow = s.pow := rfl
@[simp] theorem State.withPending_regu (s : State) (q : List Instr) : (s.withPending q).regu = s.regu := rfl
@[simp] theorem State.withPending_isl (s : State) (q : List Instr) : (s.withPending q).isl = s.isl := rfl
@[simp] theorem State.withPending_pcie (s : State) (q : List Instr) : (s.withPending q).pcie = s.pcie := rfl
@[simp] theorem State.withPending_bridge (s : State) (q : List Instr) : (s.withPending q).bridge = s.bridge := rfl
@[simp] theorem State.withPending_ident (s : State) (q : List Instr) : (s.withPending q).ident = s.ident := rfl
@[simp] theorem State.withPending_scc (s : State) (q : List Instr) : (s.withPending q).scc = s.scc := rfl
@[simp] theorem State.withPending_mgt (s : State) (q : List Instr) : (s.withPending q).mgt = s.mgt := rfl
@[simp] theorem State.withPending_esc (s : State) (q : List Instr) : (s.withPending q).esc = s.esc := rfl
@[simp] theorem State.withPending_frameNo (s : State) (q : List Instr) : (s.withPending q).frameNo = s.frameNo := rfl
@[simp] theorem State.withPending_frameAt (s : State) (q : List Instr) : (s.withPending q).frameAt = s.frameAt := rfl
@[simp] theorem State.withPending_started (s : State) (q : List Instr) : (s.withPending q).started = s.started := rfl
@[simp] theorem State.withPending_fresh (s : State) (q : List Instr) : (s.withPending q).fresh = s.fresh := rfl
@[simp] theorem State.withPending_msgs (s : State) (q : List Instr) : (s.withPending q).msgs = s.msgs := rfl
@[simp] theorem State.withPending_reply (s : State) (q : List Instr) : (s.withPending q).reply = s.reply := rfl
@[simp] theorem State.withPending_ring (s : State) (q : List Instr) : (s.withPending q).ring = s.ring := rfl
@[simp] theorem State.withPending_wire (s : State) (q : List Instr) : (s.withPending q).wire = s.wire := rfl
@[simp] theorem State.withPending_place (s : State) (q : List Instr) : (s.withPending q).place = s.place := rfl
@[simp] theorem State.withPending_commits (s : State) (q : List Instr) : (s.withPending q).commits = s.commits := rfl
@[simp] theorem State.withPending_port (s : State) (q : List Instr) : (s.withPending q).port = s.port := rfl
@[simp] theorem State.withPending_pipe (s : State) (q : List Instr) : (s.withPending q).pipe = s.pipe := rfl
@[simp] theorem State.withPending_jobs (s : State) (q : List Instr) : (s.withPending q).jobs = s.jobs := rfl
@[simp] theorem State.withPending_nextJob (s : State) (q : List Instr) : (s.withPending q).nextJob = s.nextJob := rfl
@[simp] theorem State.withPending_tile (s : State) (q : List Instr) : (s.withPending q).tile = s.tile := rfl
@[simp] theorem State.withPending_readmit (s : State) (q : List Instr) : (s.withPending q).readmit = s.readmit := rfl
@[simp] theorem State.withPending_stops (s : State) (q : List Instr) : (s.withPending q).stops = s.stops := rfl
@[simp] theorem State.withPending_twinWait (s : State) (q : List Instr) : (s.withPending q).twinWait = s.twinWait := rfl
@[simp] theorem State.withPending_tallies (s : State) (q : List Instr) : (s.withPending q).tallies = s.tallies := rfl
@[simp] theorem State.withPending_prod (s : State) (q : List Instr) : (s.withPending q).prod = s.prod := rfl
@[simp] theorem State.withPending_canvas (s : State) (q : List Instr) : (s.withPending q).canvas = s.canvas := rfl
@[simp] theorem State.withPending_fstore (s : State) (q : List Instr) : (s.withPending q).fstore = s.fstore := rfl
@[simp] theorem State.withPending_larder (s : State) (q : List Instr) : (s.withPending q).larder = s.larder := rfl
@[simp] theorem State.withPending_hoist (s : State) (q : List Instr) : (s.withPending q).hoist = s.hoist := rfl
@[simp] theorem State.withPending_lane (s : State) (q : List Instr) : (s.withPending q).lane = s.lane := rfl
@[simp] theorem State.withPending_fabric (s : State) (q : List Instr) : (s.withPending q).fabric = s.fabric := rfl
@[simp] theorem State.withPending_mem (s : State) (q : List Instr) : (s.withPending q).mem = s.mem := rfl
@[simp] theorem State.withPending_memPoison (s : State) (q : List Instr) : (s.withPending q).memPoison = s.memPoison := rfl
@[simp] theorem State.withPending_tally (s : State) (q : List Instr) : (s.withPending q).tally = s.tally := rfl
@[simp] theorem State.withPending_madc (s : State) (q : List Instr) : (s.withPending q).madc = s.madc := rfl
@[simp] theorem State.withPending_spdm (s : State) (q : List Instr) : (s.withPending q).spdm = s.spdm := rfl
@[simp] theorem State.withPending_attic (s : State) (q : List Instr) : (s.withPending q).attic = s.attic := rfl

@[simp] theorem State.answer_reply (s : State) (r : RStatus) (bs : List Byte) : (s.answer r bs).reply = ⟨r, bs⟩ := rfl
@[simp] theorem State.withPending_pending (s : State) (q : List Instr) : (s.withPending q).pending = q := rfl
@[simp] theorem State.report_inbox (s : State) (c i k d : Nat) :
    (s.report c i k d).isl.inbox = s.isl.inbox ++ [(faultCode c i k, d)] := rfl

end Sys2Proof.Machine
end

