-- ==== Sys2Proof/Tests/Slice0.lean ====
section
/-!
SUPPORT. Tests: ill-formed commands are refused, each statement's hypotheses are met by a concrete state and concrete
operands (one witness for each of its clauses), and the spec's own worked numbers come out.
-/

open Sys2Proof Sys2Proof.Machine

namespace Sys2Proof.Tests

-- one theorem at a time: each is a kernel evaluation, and many at once would each hold a thread
set_option Elab.async false

/-- A device in service, with nothing configured. -/
def base : State :=
  { pow := { phase := .ready, hubOn := true, porst := true, perst := true, sampled := true }, isl := { running := true } }
/-- The state `s` with the fields of the list written. -/
def S (l : List (Fld × Nat)) (s : State := base) : State := l.foldl (fun s f => s.setF f.1 f.2) s
/-- The same with the link up and Bus Master Enable set. -/
def hostBase (l : List (Fld × Nat)) : State :=
  S ((fPCIE_LINK_STATUS_DL_ACTIVE, 1) :: l) { base with pcie := { cfg := [(4, 4#32)] } }
/-- A command with opcode `op`, fetched from CR[0]. -/
def cmdOf (op : Nat) : Cmd :=
  { id := 0, ring := 0, opcode := op, flags := 0, cid := 7, target := 0, arg0 := 0, arg1 := 0, addr := 0, len := 0,
    reserved := false, payload := [] }
/-- A device whose CR[0] has fetched `c`, with room in CQ[0]. -/
def cmdBase (c : Cmd) (l : List (Fld × Nat)) : State :=
  { hostBase ((fCQ_CFG_EN 0, 1) :: (fCQ_CFG_SIZE_LOG2 0, 6) :: l) with ring := { waiting := [c], opened := [c] } }
/-- A split read of 4 bytes through port `n`, of which none has arrived. -/
def accOf (n : Nat) : BridgeAcc :=
  { kind := 2, port := n, addr := 5, size := 4, data := [], ticket := 0, got := [], fail := 0, abort := false, lost := false }
/-- The transaction of byte `i` of access `id`. -/
def txnOf (id i : Nat) : SccTxn := ⟨.bridge id i, false, 0x10, true, 5, []⟩
/-- A profile with one group of one byte, on SCC[31]. -/
def prof : EscProfile :=
  { addr16 := true, hold := false, verify := false, target := 0x10, winOpen := 0, winClose := 1000, holdAddr := 0, holdOn := 0,
    holdOff := 0, byteNs := 1000, scc := 31, groups := [⟨0, 1, 0, 0xFFFF, 0, 0⟩] }
/-- A settings command and its ledger entry, which sets that group. -/
def entryOf1 : EscEntry := ⟨1, cmdOf 0x20, 0, 5, 5, 5, false, [(0, [1])], 0, [], false⟩
def burstOfOne : Burst := ⟨5, [.group 1 0], 5000, 100, 1000000, true, false, 0, [], false, none, []⟩
/-- An open frame 0 of two lines of two pixels that came by channel `k` of port `n`; its first line is being received. -/
def frameOf1 (n k : Nat) : Frame :=
  { n := 0, fs := 0, port := n, chan := k, dt := 0x2A, width := 2, height := 2, cfg := [], gen := 0, kept := [],
    stats := false, noSlices := false, seen := 1, began := true }
/-- SPORT[31] hears packets, and its channel 15 goes to pipeline 31 as RAW8. -/
def portBase (l : List (Fld × Nat)) (r : State) : State :=
  { S ((fSPORT_CTRL_EN 31, 1) :: (fSPORT_CTRL_VCX 31, 1) :: (fSPORT_STATUS_PHY_READY 31, 1) :: l) with
    act := [(rSPORT_VC_MAP 31 15, BitVec.ofNat 32 (1 + 31 * 2 + 0x2A * 64))], started := r.started }
/-- A plate for pipeline 31 of one KSLOT record: slot 15 gets kernel ID 5 and parameter word 0x12345678. -/
def plateBytes : List Byte := [80, 76, 65, 84, 1, 0, 31, 0, 56, 0, 0, 0, 2, 0, 0, 0, 0, 0, 0, 0, 0, 0, 0, 0, 0, 0, 0, 0, 235, 194,
  87, 166, 3, 0, 1, 0, 15, 5, 0, 0, 120, 86, 52, 18, 0, 0, 0, 0, 255, 0, 0, 0, 0, 0, 0, 0]
def plateCmd (bs : List Byte) : Cmd := { cmdOf 0x22 with len := 56, payload := bs }
/-- A canvas 3 of 64 by 64 pixels whose configuration is consistent, for tile 7. -/
def cvBase (l : List (Fld × Nat)) (s : State := base) : State :=
  S ([(fTILE_STATUS_STATE 7, 1), (fTILE_STATUS_HEALTHY 7, 16), (fCV_CFG_TILE 3, 7), (fCV_SIZE_W 3, 64), (fCV_SIZE_H 3, 64),
    (fCV_STRIDE_BYTES 3, 256), (⟨rCV_PERIOD 3, 0, 32⟩, 20000000), (⟨rCV_KSLOT_PARAM 3, 0, 32⟩, 1)] ++ l) s
def commitOf (t : Nat) : CommitRec := { cmd := cmdOf 0x21, target := t, fsn := 5, next := false, noRetarget := false }
/-- Canvas 3 with the frames `fs`, hosted by tile 7. -/
def cvState (c : Canvas) (l : List (Fld × Nat)) : State :=
  let s := cvBase ((fCV_ENABLE_EN 3, 1) :: l)
  { s with act := s.regs, canvas := [(3, c)], place := [(35, { host := some 7 })] }
/-- A job of two pieces on tile 7, and its first piece. -/
def jobA : Job :=
  { id := 4, kind := 0, src := 31, out := 4, frame := 0, k := 0, tile := 7, twin := false, rEff := 0, deadline := 100,
    stages := [⟨0, 4, 8, 0, 8, 0, none, 2, 8⟩], issued := [(0, 0), (0, 1)], ready := [], left := 2 }
def pieceA (f : Option Nat) : Piece := ⟨4, 0, 0, f, 0⟩
/-- Tile 7 runs job A. -/
def tileBase (x : TileSt) (j : Job) : State :=
  { S [(fTILE_STATUS_STATE 7, 1), (fTILE_STATUS_HEALTHY 7, 128)] with jobs := [j], tile := [(7, x)] }
/-- An output slice that waits for its twin tally. -/
def sliceA : OutSlice := { stream := 127, frame := 0, lines := [], tally := 5, flags := 0, detail := 0, last := false,
                           deadline := 0, wait := true }
/-- A frame of pipeline 31 whose 64 lines have arrived. -/
def frameB (released : Nat) : Frame :=
  { frameOf1 31 15 with height := 64, lines := List.replicate 64 [5, 6], released := released }
def relBase (f : Frame) (paced : KMap Nat) : State :=
  { S [(fTILE_STATUS_STATE 7, 1)] with
    place := [(31, { host := some 7, twin := some 7 })], pipe := [(31, { frames := [f], rEff := paced })] }
/-- Lane 7 holds `x`, with its domain on and its reference clock present. -/
def laneBase (l : List (Fld × Nat)) (x : Lane) : State :=
  { S ([(fPWR_DOM_STATE 12, 0), (fLANE_STATUS_FREF_OK 7, 1)] ++ l) with lane := [(7, x)] }
/-- Port 3 of the fabric holds `x`, with the fabric's domain on. -/
def fabBase (l : List (Fld × Nat)) (x : FabPort) : State :=
  { S ((fPWR_DOM_STATE 12, 0) :: l) with fabric := { port := [(3, x)] } }
/-- Lanes 6 and 7 are ready for the fabric. -/
def lanesUp : List (Fld × Nat) :=
  [(fLANE_STATUS_CDR_LOCK 6, 1), (fLANE_STATUS_ADAPT_DONE 6, 1), (fLANE_STATUS_CDR_LOCK 7, 1), (fLANE_STATUS_ADAPT_DONE 7, 1)]
def helloA : Hello :=
  { serial := 77, prio := 1, id := some 63, rootPrio := 1, rootSerial := 77, rootHops := 0, step := 4, hops := [] }
/-- Port 3 is UP and leads to device 62; this device is 63; window 63 maps 4 KiB at address 0 to LP5X address 0x1000. -/
def winBaseS (l : List (Fld × Nat)) (x : FabPort) : State :=
  fabBase ([(fFABRIC_PORT_STATUS_STATE 3, 3), (fFABRIC_STATUS_ID_VALID, 1), (fFABRIC_STATUS_ID, 63),
    (fFABRIC_ROUTE_PRI_PORT 62, 3), (fFABRIC_ROUTE_PRI_VALID 62, 1), (fFABRIC_IN_WIN_CTRL_EN 63, 1),
    (⟨rFABRIC_IN_WIN_LIMIT_LO 63, 0, 32⟩, 0xFFF), (⟨rFABRIC_IN_WIN_TARGET_LO 63, 0, 32⟩, 0x1000),
    (⟨rFABRIC_IN_WIN_SRC_HI 63, 30, 1⟩, 1), (fPWR_DOM_STATE 10, 0)] ++ l) x
def pktOf (typ dst len hops : Nat) (data : List Byte) : FabPacket :=
  ⟨0, typ, dst, 62, len, false, 65535, hops, 0, 0xFFE, data⟩
def reqOf : FabReq := ⟨.hoist 0, { pktOf 1 62 0 8 [] with dst := 62 }, some 3, 0⟩
def blockA : List Byte := leBytes 8 0x1000 ++ leBytes 8 0x2000 ++ [12, 0, 5, 0, 6, 0, 7, 0] ++ leBytes 8 9 ++ List.replicate 32 0
def peerBase (l : List (Fld × Nat)) (x : Peer) : State :=
  let s := fabBase ([(fOUT_CTRL_EN 31 3, 1), (fOUT_CTRL_DEST 31 3, 2)] ++ l) {}
  { s with act := s.regs, started := [31], fabric := { peer := [(127, x)] } }
/-- Channel 255 runs and is at INSTR[47], which holds `a` and `b`; LP5X is in service. -/
def hoistBase (a b : Nat) (l : List (Fld × Nat)) (x : HChan) : State :=
  let w (k v : Nat) : Fld × Nat := (⟨rHOIST_INSTR 255 (188 + k), 0, 32⟩, v)
  { S ([(fHOIST_STATUS_STATE 255, 1), (fHOIST_STATUS_PC 255, 47), w 0 (a % 2 ^ 32), w 1 (a / 2 ^ 32), w 2 (b % 2 ^ 32),
      w 3 (b / 2 ^ 32), (fPWR_DOM_STATE 10, 0), (fPWR_DOM_STATE 11, 0)] ++ l) with hoist := { chan := [(255, x)] } }
/-- Register Xi of channel 255 holds `v`. -/
def xOf (i v : Nat) : List (Fld × Nat) :=
  [(⟨rHOIST_X 255 (2 * i), 0, 32⟩, v % 2 ^ 32), (⟨rHOIST_X 255 (2 * i + 1), 0, 32⟩, v / 2 ^ 32)]
/-- Queue 4095 of group 255 is enabled, has credit, and holds `n` words. -/
def withWords (n : Nat) (s : State) : State :=
  { S [(fLQ_CFG_EN 4095, 1), (fLQ_CFG_GROUP 4095, 255), (fLQ_CREDIT_CELLS 4095, 4)] s with
    larder := { queue := [(4095, { words := (List.range n).map (fun i => ⟨i + 1, false, false, 0, i, none⟩), cells := [0],
                                   tailUsed := n })] } }
/-- A MOVE of 64 bytes within LP5X whose beat has not been read, one whose beat is staged, and operations of channel 255. -/
def moveA : HoistMove := { w0 := 0x51, len := 64, src := 0x1000, dst := 0x2000 }
def bytes64 : List Byte := (List.range 64).map (fun i => BitVec.ofNat 8 (i + 1))
def moveB : HoistMove :=
  { w0 := 0x51 + 2 ^ 15 + 7 * 2 ^ 11, len := 128, src := 0x1000, dst := 0x2000, asked := 128, written := 64, staged := [(64, bytes64)] }
def opA (kind len : Nat) : HoistOp := ⟨9, kind, 1, 0, 0x1000, len, 64, 1, [], false, 0, 0⟩
/-- Device channel `st` runs, and its group offers a packet of `n` words. -/
def moverBase (st n : Nat) (g : PktMeta) (m : Mover) : State :=
  { S [(fHOIST_STATUS_STATE st, 1), (fLQ_CFG_EN st, 1), (fPWR_DOM_STATE 10, 0), (fPWR_DOM_STATE 11, 0)] with
    larder := { queue := [(st, { words := (List.range n).map (fun i =>
      ⟨i + 1, i + 1 == n, false, 0, i, if i = 0 then some g else none⟩), cells := [0], tailUsed := n, orders := [0] })] }
    hoist := { mover := [(st, m)] }
    pipe := [(31, { frames := [frameOf1 31 15] })] }
def doneA (kind : Nat) (d : Dest) (flags : Nat) : MoverDone := ⟨4, kind, 0, 7, 8, flags, 0, 5, 1, 64, d⟩
/-- A command for pipeline 31, and WINDING and DISPLAYED commands with their arguments. -/
def streamCmd (op : Nat) : Cmd := { cmdOf op with target := 31 }
def argCmd (op target a b : Nat) : Cmd := { cmdOf op with target := target, arg0 := a, arg1 := b }
def configured : List (Fld × Nat) := [(⟨rCMT_CONFIG_GEN 31, 0, 32⟩, 3)]
/-- The island has accepted a response at dial time 0 with a period of 2 ms; it is dial time `d`. -/
def windBase (c : Cmd) (l : List (Fld × Nat)) (n d : Nat) : State :=
  let s := cmdBase c l
  { s with isl := { s.isl with windCount := n, windPeriod := 2 }, regu := { dial := d } }
/-- The island holds frame 7 of canvas 3, a safety view. -/
def shownBase (c : Cmd) : State :=
  let s := cmdBase c [(⟨rSAFE_SAFETY_CV, 0, 32⟩, 8)]
  { s with isl := { s.isl with frames := [(0x83, [⟨7, 5, 10, 20, 1⟩])] }, regu := { dial := 3000000 } }
/-- Converter `c` holds `x` and is in state `st`. -/
def convBase (c st : Nat) (l : List (Fld × Nat)) (x : Conv) : State :=
  { S ((fMADC_STATUS_STATE c, st) :: l) with madc := { conv := [(c, x)] } }
/-- ILS[15] is checked against limits 100 to 200 while it is on and 50 while it is off. -/
def ilsBase (ill : Nat) : State :=
  { S [(fMADC_STATUS_STATE 1, 2), (fMADCC_ILS_THR_OFF_CHECK_EN 15, 1), (fMADCC_ILS_THR_ON_ON_MIN 15, 100),
      (fMADCC_ILS_THR_ON_ON_MAX 15, 200), (fMADCC_ILS_THR_OFF_OFF_MAX 15, 50)] with regu := { dial := 19000, ill := ill } }
/-- The host asks; SCC[31] is enabled with 8-bit addresses, and the bridge holds `b`. -/
def brBase (l : List (Fld × Nat)) (b : Bridge) : State :=
  { S ((fPCIE_LINK_STATUS_DL_ACTIVE, 1) :: (fSCC_CTRL_EN 31, 1) :: (fSCC_TARGET_ADDR_WIDTH 31, 0) :: l) with pcie := { configReady := true }, bridge := b }
def doneAcc : BridgeAcc := { accOf 31 with size := 2, ticket := 63, got := [0x34, 0x12], fail := 2 }
/-- The host asks; bridge window 15 leads to device 62, by way of PORT[3] of the fabric. -/
def wb (l : List (Fld × Nat)) (f : Fabric) (b : Bridge) : State :=
  { winBaseS ([(fPCIE_LINK_STATUS_DL_ACTIVE, 1), (fBRIDGE_OUT_WIN_CTRL_EN 15, 1), (fBRIDGE_OUT_WIN_CTRL_PEER 15, 62),
      (fBRIDGE_OUT_WIN_TARGET_LO_ADDR 15, 5), (fPWR_DOM_STATE 11, 0)] ++ l) {} with
    pcie := { configReady := true }, fabric := f, bridge := b }
def heldW : HeldWin := { win := 15, addr := 0x500000, size := 2, expired := false, since := 0, data := [3, 4] }
def doneF : FabDone := ⟨.window, 62, false, 0, [5, 6], false⟩
def hostR : HostRead := { owner := .hoist 255, addr := 0, size := 2 }
/-- The link is up; `c` lists dwords of the configuration space. -/
def lb (l : List (Fld × Nat)) (c : List (Nat × Nat)) : State :=
  { S ((fPCIE_LINK_STATUS_DL_ACTIVE, 1) :: l) with
    pcie := { configReady := true, cfg := c.map (fun x => (x.1, BitVec.ofNat 32 x.2)) } }
/-- The responder is in phase `n` of its negotiation, with sessions `l`. -/
def sp (n : Nat) (l : List SpdmSession) : State :=
  { lb [(fIDENT_STATUS_CHAIN_OK, 1)] [] with spdm := { phase := n, sessions := l } }
/-- LP5X is in service and holds at 0x3000 the image of a CONFIG bank whose body is 64 zeros; `u` is the update in progress. -/
def upd (l : List (Fld × Nat)) (u : Option AtticUpd) : State :=
  { S ([(fPWR_DOM_STATE 10, 0), (fPWR_DOM_STATE 11, 0), (⟨rATTIC_UPD_SRC_LO, 0, 32⟩, 0x3000)] ++ l) with
    mem := [(0x3000, 65), (0x3001, 84), (0x3002, 84), (0x3003, 67), (0x3004, 1), (0x3005, 2), (0x300C, 64), (0x301C, 103), (0x301D, 235), (0x301E, 200), (0x301F, 3)],
    attic := { upd := u } }
def updA : AtticUpd := { part := 0, bank := 0, src := 0x3000, length := 64, step := 0, next := 0, crc := 0, header := [] }
/-- MGT is active. -/
def base5 (l : List (Fld × Nat)) : State := S ((fMGT_STATUS_ACTIVE, 1) :: (fMGT_STATUS_ADDR, 0x5A) :: l)
/-- The device boots and has done `b`. -/
def bootBase (b : BootDone) (l : List (Fld × Nat)) : State :=
  { S l with pow := { porst := true, perst := true, sampled := true, phase := .booting, hubOn := b.hubLocked, boot := b } }
def bankA (seq : Nat) : BankFound := ⟨true, true, seq, 3, 1, 4, 2, 0, 1⟩
def calA : CalResult := ⟨true, -128, 18432⟩
def bootAll : BootDone :=
  { hubLocked := true, rails := true, bank := true, island := true, pcie := true, larder := true, startup := true,
    convCal := true, lp5x := true, powered := 255, tested := 255, kernels := true, pcieCal := true, sportCal := 1 }
/-- Schedule 31 has a pulse of 1 µs every 100 µs staged, and is at `x`. -/
def schBase (l : List (Fld × Nat)) (x : Sched) : State :=
  { S ([(⟨rTRIG_WIDTH 31, 0, 32⟩, 1000), (⟨rTRIG_PERIOD 31, 0, 32⟩, 100000)] ++ l) with regu := { sched := [(31, x)] } }
/-- Three equations whose types have no decidable equality, each from a test that decides. -/
theorem ok_of {ε α : Type} [DecidableEq α] {x : Except ε α} {a : α}
    (h : (match x with | .ok b => decide (b = a) | .error _ => false) = true) : x = .ok a := by
  cases x with
  | ok b => exact congrArg _ (of_decide_eq_true h)
  | error e => exact absurd h (by simp)
theorem error_of {ε α : Type} [DecidableEq ε] {x : Except ε α} {a : ε}
    (h : (match x with | .error b => decide (b = a) | .ok _ => false) = true) : x = .error a := by
  cases x with
  | error b => exact congrArg _ (of_decide_eq_true h)
  | ok e => exact absurd h (by simp)
theorem some_of {α : Type} {x : Option α} {d : α} (h : x.isSome = true) : x = some (x.getD d) := by
  cases x with
  | some a => rfl
  | none => exact absurd h (by simp)

/-! ### Ill-formed commands -/

theorem test_wf_tile : (Instr.tileTestDone 8 [] false false ⟨true, 0, 0⟩).wf = false := by decide
theorem test_wf_config : (Instr.configurationRequest false 4096 0 0).wf = false := by decide
theorem test_wf_be : (Instr.configurationRequest false 0 0 16).wf = false := by decide
theorem test_wf_port : (Instr.sportEnable 32 0).wf = false := by decide
theorem test_wf_anyPort : (Instr.frameTimeout 36 0).wf = false := by decide
theorem test_wf_chan : (Instr.frameTimeout 0 16).wf = false := by decide
theorem test_wf_lport : (Instr.lportVsyncActive 4).wf = false := by decide
theorem test_wf_ill : (Instr.ilsSample 16 0).wf = false := by decide
theorem test_wf_code12 : (Instr.ilsSample 0 4096).wf = false := by decide
theorem test_wf_syncIn : (Instr.syncInEdge 4 false).wf = false := by decide
theorem test_wf_view : (Instr.freshnessBudgetExpiry 132).wf = false := by decide
theorem test_wf_queueStream : (Instr.frameDelivered 192).wf = false := by decide
theorem test_wf_canvas : (Instr.canvasEnable 4 0).wf = false := by decide
theorem test_wf_wheel : (Instr.pieceStart 0 128).wf = false := by decide
theorem test_wf_output : (Instr.twinTallyArrival 128).wf = false := by decide
theorem test_wf_queue : (Instr.pushData 4096 0).wf = false := by decide
theorem test_wf_group : (Instr.popRead 256 0 .none).wf = false := by decide
theorem test_wf_hoist : (Instr.hoistStart 256 0).wf = false := by decide
theorem test_wf_moverPort : (Instr.hoistBeat 5 []).wf = false := by decide
theorem test_wf_cr : (Instr.crTail 16 0).wf = false := by decide
theorem test_wf_cq : (Instr.cqHead 64 0).wf = false := by decide
theorem test_wf_sr : (Instr.srTail 512 0).wf = false := by decide
theorem test_wf_ring : (Instr.ringEnable 592 0).wf = false := by decide
theorem test_wf_source : (Instr.intRouteWrite 512 0).wf = false := by decide
theorem test_wf_vector : (Instr.msixUnmask 2048).wf = false := by decide
theorem test_wf_sensor : (Instr.postedAliasWrite 0 65536 []).wf = false := by decide
theorem test_wf_ticket : (Instr.splitReadDone 64).wf = false := by decide
theorem test_wf_outWin : (Instr.fabricWindowWrite 16 0 []).wf = false := by decide
theorem test_wf_window : (Instr.fabricWindowWrite 0 1048576 []).wf = false := by decide
theorem test_wf_lane : (Instr.laneEnable 8 0).wf = false := by decide
theorem test_wf_ctle : (Instr.adaptationDone 0 16 0 0).wf = false := by decide
theorem test_wf_gain : (Instr.adaptationDone 0 0 256 0).wf = false := by decide
theorem test_wf_fabPort : (Instr.portTrained 4).wf = false := by decide
theorem test_wf_inWin : (Instr.inWinCtrlWrite 64 0).wf = false := by decide
theorem test_wf_tally : (Instr.tallyStart 16 0).wf = false := by decide
theorem test_wf_conv : (Instr.calStart 11 0).wf = false := by decide
theorem test_wf_code : (Instr.hardwareForcedLow 65536).wf = false := by decide
theorem test_wf_viewReg : (Instr.safetyViewsWrite false 5 0).wf = false := by decide
theorem test_wf_domain : (Instr.domainOnRequest 18).wf = false := by decide
theorem test_wf_clock : (Instr.clockMonitorWindow 16 0 0).wf = false := by decide
theorem test_wf_bar0 : (Instr.registerWrite .host 33554432 [] false false .free ⟨0, 0, 0⟩).wf = false := by decide

/-! ### Witnesses of the statements, clause by clause -/

theorem witness_Supplies :
    (∃ (s : State) (order : List Rail),
      s.pow.powered = false ∧ Rail.vddAon ∈ order ∧ Rail.vddioAon ∈ order) ∧
    (∃ (s : State),
      s.pow.powered = true ∧ s.pow.seqError = true ∧ s.pow.seqLogged = false) ∧
    (∃ (s : State) (r : Rail),
      s.pow.powered = true ∧ (r = .vddAon ∨ r = .vddioAon)) ∧
    (∃ (s : State),
      s.pow.powered = true) ∧
    (∃ (s : State) (r : Rail),
      s.pow.powered = true ∧ (r = .vddAon ∨ r = .vddioAon ∨ (r = .vddHub ∧ s.pow.phase ≠ .standby))) :=
  ⟨⟨({ ({} : State) with pow := { powered := false } }), ([Rail.vddAon, .vddioAon]), by decide +kernel⟩,
   ⟨({ ({} : State) with pow := { seqError := true } }), by decide +kernel⟩,
   ⟨base, .vddioAon, by decide +kernel⟩,
   ⟨base, by decide +kernel⟩,
   ⟨base, .vddHub, by decide +kernel⟩⟩

theorem witness_DeviceResets :
    (∃ (s : State),
      s.pow.powered = true ∧ s.pow.porst = true) ∧
    (∃ (s : State),
      s.pow.powered = true ∧ s.pow.porst = false ∧ s.pow.sawLow = true ∧ s.pow.sampled = false ∧ s.pow.seqError = false ∧ s.pow.selfRelease = false ∧ s.pow.phase = .inReset) ∧
    (∃ (s : State) (v : Word),
      s.pow.powered = true ∧ s.pow.phase ≠ .inReset ∧ bitAt v.toNat 16 = true ∧ bitsOf v.toNat 0 16 = 0xC10C) ∧
    (∃ (s : State),
      s.pow.devReset = true ∧ s.pow.resetAt ≤ s.now) ∧
    (∃ (s : State),
      s.pow.powered = true ∧ s.pow.selfRelease = true ∧ s.pow.releaseAt ≤ s.now ∧ s.pow.porst = true ∧ s.pow.sampled = true ∧ s.pow.seqError = false ∧ s.pow.phase = .inReset) :=
  ⟨⟨base, by decide +kernel⟩,
   ⟨({ ({} : State) with now := 9 }), by decide +kernel⟩,
   ⟨base, 0x1C10C#32, by decide +kernel⟩,
   ⟨({ base with pow := { devReset := true, resetAt := 0 } }), by decide +kernel⟩,
   ⟨({ base with pow := { selfRelease := true, porst := true, sampled := true } }), by decide +kernel⟩⟩

theorem witness_HostResets :
    (∃ (s : State),
      s.pow.powered = true ∧ s.pow.perst = true) ∧
    (∃ (s : State),
      s.pow.powered = true ∧ s.pow.perst = false ∧ s.pow.boot.pcie = true ∧ s.fv (fPWR_DOM_STATE 13) = 3) ∧
    (∃ (s : State),
      s.pow.powered = true ∧ s.pow.perst = false ∧ s.fv (fPWR_DOM_STATE 13) ≠ 3) ∧
    (∃ (s : State),
      s.pow.hubOn = true ∧ s.pow.perst = false ∧ s.fv (fPWR_DOM_STATE 13) = 0 ∧ s.pow.perstLowAt + 10000000 < s.now) ∧
    (∃ (s : State),
      s.pow.hubOn = true ∧ s.on fPCIE_LINK_STATUS_DL_ACTIVE = true) ∧
    (∃ (s : State),
      s.pow.hubOn = true ∧ s.on fPCIE_LINK_STATUS_DL_ACTIVE = true) :=
  ⟨⟨base, by decide +kernel⟩,
   ⟨({ S [(fPWR_DOM_STATE 13, 3)] with pow := { phase := .ready, hubOn := true, porst := true, boot := { pcie := true } } }), by decide +kernel⟩,
   ⟨({ base with pow := { phase := .ready, hubOn := true, porst := true } }), by decide +kernel⟩,
   ⟨({ S [(fPWR_DOM_STATE 13, 0)] with pow := { phase := .ready, hubOn := true, porst := true }, now := 10000001 }), by decide +kernel⟩,
   ⟨(lb [] [(0x004, 6)]), by decide +kernel⟩,
   ⟨(lb [] [(0x004, 6)]), by decide +kernel⟩⟩

theorem witness_BootFirstEvents :
    (∃ (s : State),
      Boots s ∧ s.pow.boot.hubLocked = false ∧ railUp s 7 = true) ∧
    (∃ (s : State),
      Boots s ∧ s.pow.boot.hubLocked = true ∧ s.pow.boot.rails = false) ∧
    (∃ (s : State) (b0 : BankFound) (b1 : BankFound),
      Boots s ∧ s.pow.boot.rails = true ∧ s.pow.boot.bank = false ∧ bankGood b0 = true ∧ bankGood b1 = false) ∧
    (∃ (s : State) (b0 : BankFound) (b1 : BankFound),
      Boots s ∧ s.pow.boot.rails = true ∧ s.pow.boot.bank = false ∧ bankGood b0 = true ∧ bankGood b1 = true ∧ b0.seq < 2 ^ 32 ∧ b1.seq < 2 ^ 32 ∧ seqNewer b1.seq b0.seq = true) ∧
    (∃ (s : State) (b0 : BankFound) (b1 : BankFound),
      Boots s ∧ s.pow.boot.rails = true ∧ s.pow.boot.bank = false ∧ bankGood b0 = false ∧ bankGood b1 = false) ∧
    (∃ (s : State),
      Boots s ∧ s.pow.boot.bank = true ∧ s.pow.boot.island = false ∧ s.isl.log = []) :=
  ⟨⟨(bootBase {} []), by unfold Boots; decide +kernel⟩,
   ⟨(bootBase { hubLocked := true } []), by unfold Boots; decide +kernel⟩,
   ⟨(bootBase { hubLocked := true, rails := true } []), (bankA 5), ({ bankA 6 with imageOk := false }), by unfold Boots; decide +kernel⟩,
   ⟨(bootBase { hubLocked := true, rails := true } []), (bankA 0xFFFFFFFF), (bankA 0), by unfold Boots; decide +kernel⟩,
   ⟨(bootBase { hubLocked := true, rails := true } []), ({ bankA 5 with headerOk := false }), ({ bankA 6 with imageOk := false }), by unfold Boots; decide +kernel⟩,
   ⟨(bootBase { hubLocked := true, rails := true, bank := true } []), by unfold Boots; decide +kernel⟩⟩

theorem witness_BootUnits :
    (∃ (s : State),
      Boots s ∧ s.pow.boot.island = true ∧ s.pow.boot.pcie = false ∧ railUp s 6 = true ∧ s.pow.perst = true) ∧
    (∃ (s : State) (stuck : List Nat),
      Boots s ∧ s.pow.boot.island = true ∧ s.pow.boot.larder = false ∧ ((stuck.map (fun c => c % 393216)).eraseDups).length ≤ 3932) ∧
    (∃ (s : State) (hubOk : Bool) (stuck : List Nat),
      Boots s ∧ s.pow.boot.island = true ∧ s.pow.boot.larder = false ∧ (hubOk = false ∨ 3932 < ((stuck.map (fun c => c % 393216)).eraseDups).length)) ∧
    (∃ (s : State),
      Boots s ∧ s.pow.boot.island = true ∧ s.pow.boot.startup = false) ∧
    (∃ (s : State),
      Boots s ∧ s.pow.boot.island = true ∧ s.pow.boot.startup = false) ∧
    (∃ (s : State) (a : CalResult) (b : CalResult) (c : CalResult),
      Boots s ∧ s.pow.boot.startup = true ∧ s.pow.boot.convCal = false ∧ calGood a = true ∧ calGood b = true ∧ calGood c = true) ∧
    (∃ (s : State) (a : CalResult),
      Boots s ∧ s.pow.boot.startup = true ∧ s.pow.boot.convCal = false ∧ calGood a = false) ∧
    (∃ (s : State),
      Boots s ∧ s.pow.boot.island = true ∧ s.pow.boot.lp5x = false) :=
  ⟨⟨(bootBase { island := true } []), by unfold Boots; decide +kernel⟩,
   ⟨(bootBase { island := true } []), ([393215, 5]), by unfold Boots; decide +kernel⟩,
   ⟨(bootBase { island := true } []), false, [], by unfold Boots; decide +kernel⟩,
   ⟨(bootBase { island := true } []), by unfold Boots; decide +kernel⟩,
   ⟨(bootBase { island := true } []), by unfold Boots; decide +kernel⟩,
   ⟨(bootBase { startup := true } []), calA, calA, calA, by unfold Boots; decide +kernel⟩,
   ⟨(bootBase { startup := true } []), ({ calA with ok := false }), by unfold Boots; decide +kernel⟩,
   ⟨(bootBase { island := true } []), by unfold Boots; decide +kernel⟩⟩

theorem witness_BootTilesAndService :
    (∃ (s : State) (n : Nat),
      Boots s ∧ s.pow.boot.startup = true ∧ n < 8 ∧ n < activeTiles s ∧ bitAt s.pow.boot.powered n = false ∧ ((∀ m, m < n → bitAt s.pow.boot.powered m = true))) ∧
    (∃ (s : State) (n : Nat) (r : CalResult),
      Boots s ∧ n < 8 ∧ bitAt s.pow.boot.powered n = true ∧ bitAt s.pow.boot.tested n = false ∧ calGood r = true) ∧
    (∃ (s : State) (n : Nat),
      Boots s ∧ n < 8 ∧ bitAt s.pow.boot.powered n = true ∧ bitAt s.pow.boot.tested n = false) ∧
    (∃ (s : State),
      Boots s ∧ s.pow.boot.startup = true ∧ tilesTested s = true ∧ s.pow.boot.kernels = false) ∧
    (∃ (s : State),
      Boots s ∧ s.pow.boot.startup = true ∧ tilesTested s = true ∧ s.pow.boot.kernels = false ∧ s.fv fGLB_BOOT_STATUS_BANK = 1) ∧
    (∃ (s : State) (n : Nat),
      Boots s ∧ s.pow.boot.kernels = true ∧ s.pow.boot.convCal = true ∧ s.pow.boot.larder = true ∧ s.pow.boot.lp5x = true ∧ s.pow.boot.pcie = true ∧ n < 8 ∧ tileUp s n = true ∧ sensorPort s = true ∧ pcieEgress s = true) ∧
    (∃ (s : State),
      Boots s ∧ s.pow.boot.kernels = true ∧ s.pow.boot.convCal = true ∧ s.pow.boot.larder = true ∧ s.pow.boot.lp5x = true ∧ s.pow.boot.pcie = true ∧ ((∀ n, n < 8 → tileUp s n = false))) :=
  ⟨⟨(bootBase { startup := true, powered := 0x7F } [(fGLB_STRAPS_ACTIVE_TILES, 8)]), 7, by unfold Boots; decide +kernel⟩,
   ⟨(bootBase { startup := true, powered := 0xFF } [(fGLB_STRAPS_ACTIVE_TILES, 8)]), 7, calA, by unfold Boots; decide +kernel⟩,
   ⟨(bootBase { startup := true, powered := 0xFF } [(fGLB_STRAPS_ACTIVE_TILES, 8)]), 7, by unfold Boots; decide +kernel⟩,
   ⟨(bootBase { startup := true, tested := 0xFF } [(fGLB_STRAPS_ACTIVE_TILES, 8)]), by unfold Boots; decide +kernel⟩,
   ⟨(bootBase { startup := true, tested := 0xFF } [(fGLB_STRAPS_ACTIVE_TILES, 8), (fGLB_BOOT_STATUS_BANK, 1)]), by unfold Boots; decide +kernel⟩,
   ⟨(bootBase bootAll [(fGLB_STRAPS_ACTIVE_TILES, 8), (fPWR_DOM_STATE 9, 0), (fTILE_STATUS_STATE 7, 1), (fTILE_STATUS_HEALTHY 7, 128)]), 7, by unfold Boots; decide +kernel⟩,
   ⟨(bootBase bootAll []), by unfold Boots; decide +kernel⟩⟩

theorem witness_LinkAndConfiguration :
    (∃ (s : State),
      s.pow.hubOn = true ∧ canTrain s = true) ∧
    (∃ (s : State) (rate : Nat) (width : Nat),
      s.pow.hubOn = true ∧ s.pcie.training = true ∧ canTrain s = true ∧ 1 ≤ rate ∧ rate ≤ 6 ∧ [1, 2, 4, 8].contains width = true) ∧
    (∃ (s : State) (rate : Nat),
      s.pow.hubOn = true ∧ s.on fPCIE_LINK_STATUS_DL_ACTIVE = true ∧ 1 ≤ rate ∧ rate ≤ 6) ∧
    (∃ (s : State),
      s.pow.hubOn = true ∧ s.on fPCIE_LINK_STATUS_DL_ACTIVE = true ∧ s.pow.boot.startup = true ∧ s.pcie.configReady = false) ∧
    (∃ (s : State),
      s.pow.hubOn = true ∧ s.on fPCIE_LINK_STATUS_DL_ACTIVE = true ∧ s.pcie.configReady = false) ∧
    (∃ (s : State),
      s.pow.hubOn = true ∧ s.on fPCIE_LINK_STATUS_DL_ACTIVE = true ∧ s.pcie.configReady = true) ∧
    (∃ (s : State),
      s.pow.hubOn = true ∧ s.on fPCIE_LINK_STATUS_DL_ACTIVE = true ∧ s.pcie.configReady = true) :=
  ⟨⟨({ S [(fPWR_DOM_STATE 13, 0)] with pow := { hubOn := true, perst := true, boot := { pcie := true } } }), by decide +kernel⟩,
   ⟨({ S [(fPWR_DOM_STATE 13, 0)] with pow := { hubOn := true, perst := true, boot := { pcie := true } }, pcie := { training := true } }), 6, 8, by decide +kernel⟩,
   ⟨(lb [] []), 6, by decide +kernel⟩,
   ⟨({ lb [] [] with pow := { hubOn := true, boot := { startup := true } }, pcie := {} }), by decide +kernel⟩,
   ⟨({ lb [] [] with pcie := {} }), by decide +kernel⟩,
   ⟨(lb [] []), by decide +kernel⟩,
   ⟨(lb [] []), by decide +kernel⟩⟩

theorem witness_DialCommands :
    (∃ (s : State),
      s.pow.hubOn = true ∧ streamsActive s = false ∧ s.fv fREGU_CTRL_SRC ≠ 1) ∧
    (∃ (s : State),
      s.pow.hubOn = true ∧ (streamsActive s = true ∨ s.fv fREGU_CTRL_SRC = 1)) ∧
    (∃ (s : State) (v : Word),
      s.pow.hubOn = true ∧ -500000 ≤ signedOf 32 v.toNat ∧ signedOf 32 v.toNat ≤ 500000) ∧
    (∃ (s : State) (v : Word),
      s.pow.hubOn = true ∧ (signedOf 32 v.toNat < -500000 ∨ 500000 < signedOf 32 v.toNat)) ∧
    (∃ (s : State) (v : Word),
      s.pow.hubOn = true ∧ bitsOf v.toNat 0 2 = 1 ∧ s.fv fREGU_CTRL_SRC = 0 ∧ s.on fFABRIC_STATUS_IS_ROOT = false) ∧
    (∃ (s : State) (v : Word),
      s.pow.hubOn = true ∧ bitsOf v.toNat 0 2 = 0) ∧
    (∃ (s : State),
      s.pow.hubOn = true ∧ s.fv fREGU_CTRL_SRC = 1 ∧ (s.fv fREGU_STATUS_STATE = 1 ∨ s.fv fREGU_STATUS_STATE = 2)) :=
  ⟨⟨base, by decide +kernel⟩,
   ⟨(S [(fREGU_CTRL_SRC, 1)]), by decide +kernel⟩,
   ⟨base, 500000#32, by decide +kernel⟩,
   ⟨base, 500001#32, by decide +kernel⟩,
   ⟨base, 1#32, by decide +kernel⟩,
   ⟨(S [(fREGU_CTRL_SRC, 1)]), 0#32, by decide +kernel⟩,
   ⟨(S [(fREGU_CTRL_SRC, 1), (fREGU_STATUS_STATE, 1)]), by decide +kernel⟩⟩

theorem witness_TriggerSchedules :
    (∃ (s : State) (p : Nat) (v : Word),
      s.pow.hubOn = true ∧ p < 32 ∧ s.on (fTRIG_SCHED_CTRL_RUN p) = false ∧ bitsOf v.toNat 1 3 = 0 ∧ (staged (schedFields s p (v ||| 1#32)) p).valid (schedFields s p (v ||| 1#32)) = true) ∧
    (∃ (s : State) (p : Nat) (v : Word),
      s.pow.hubOn = true ∧ p < 32 ∧ s.on (fTRIG_SCHED_CTRL_RUN p) = false ∧ (staged (schedFields s p (v ||| 1#32)) p).valid (schedFields s p (v ||| 1#32)) = false) ∧
    (∃ (s : State) (p : Nat),
      s.pow.hubOn = true ∧ p < 32 ∧ s.on (fTRIG_SCHED_CTRL_RUN p) = true) ∧
    (∃ (s : State) (p : Nat) (v : Word),
      s.pow.hubOn = true ∧ p < 32 ∧ s.on (fTRIG_SCHED_CTRL_RUN p) = true ∧ (staged (schedFields s p v) p).valid (schedFields s p v) = true) ∧
    (∃ (s : State) (p : Nat),
      s.pow.hubOn = true ∧ p < 32 ∧ s.on (fTRIG_SCHED_CTRL_RUN p) = true ∧ s.on (fTRIG_SCHED_CTRL_APPLY_PENDING p) = true ∧ (sched s p).hasEpoch = true ∧ (staged s p).valid s = true) ∧
    (∃ (s : State) (p : Nat),
      s.pow.hubOn = true ∧ p < 32 ∧ s.on (fTRIG_SCHED_CTRL_RUN p) = true ∧ (sched s p).hasEpoch = true ∧ (sched s p).next = none ∧ 256000 ≤ edgeTime (sched s p) - Int.ofNat s.dial * 256 ∧ (sched s p).lastFall = none) ∧
    (∃ (s : State) (p : Nat),
      s.pow.hubOn = true ∧ p < 32 ∧ s.on (fTRIG_SCHED_CTRL_RUN p) = true ∧ (sched s p).hasEpoch = true ∧ (sched s p).next = none ∧ edgeTime (sched s p) - Int.ofNat s.dial * 256 < 256000) ∧
    (∃ (s : State) (p : Nat) (x : Int),
      s.pow.hubOn = true ∧ p < 32 ∧ (sched s p).next = some x) ∧
    (∃ (s : State) (p : Nat),
      s.pow.hubOn = true ∧ p < 32 ∧ (sched s p).high = true) :=
  ⟨⟨(schBase [] {}), 31, 1#32, by decide +kernel⟩,
   ⟨(schBase [(⟨rTRIG_WIDTH 31, 0, 32⟩, 999)] {}), 31, 1#32, by decide +kernel⟩,
   ⟨(schBase [(fTRIG_SCHED_CTRL_RUN 31, 1)] {}), 31, by decide +kernel⟩,
   ⟨(schBase [(fTRIG_SCHED_CTRL_RUN 31, 1)] {}), 31, 3#32, by decide +kernel⟩,
   ⟨(schBase [(fTRIG_SCHED_CTRL_RUN 31, 1), (fTRIG_SCHED_CTRL_APPLY_PENDING 31, 1)] { hasEpoch := true }), 31, by decide +kernel⟩,
   ⟨(schBase [(fTRIG_SCHED_CTRL_RUN 31, 1)] { hasEpoch := true, epoch := 256000 }), 31, by decide +kernel⟩,
   ⟨(schBase [(fTRIG_SCHED_CTRL_RUN 31, 1)] { hasEpoch := true, epoch := 255999, period := 25600000 }), 31, by decide +kernel⟩,
   ⟨(schBase [(fTRIG_SCHED_CTRL_RUN 31, 1)] { hasEpoch := true, next := some 5 }), 31, 5, by decide +kernel⟩,
   ⟨(schBase [(fTRIG_SCHED_CTRL_RUN 31, 1)] { hasEpoch := true, high := true }), 31, by decide +kernel⟩⟩

theorem witness_WindowsGroupsAndFollowers :
    (∃ (s : State) (p : Nat),
      s.pow.hubOn = true ∧ p < 32 ∧ s.on (fTRIG_SCHED_CTRL_RUN p) = true ∧ (sched s p).set.illSrc = 2 ∧ 0 < (sched s p).set.illClose) ∧
    (∃ (s : State) (p : Nat),
      s.pow.hubOn = true ∧ p < 32 ∧ 0 < (sched s p).windows) ∧
    (∃ (s : State) (p : Nat),
      s.pow.hubOn = true ∧ p < 32 ∧ 0 < (sched s p).windows) ∧
    (∃ (s : State) (p : Nat),
      s.pow.hubOn = true ∧ p < 32 ∧ bitAt (s.rn rREGU_GROUP_MASK) p = true ∧ s.on (fTRIG_SCHED_CTRL_RUN p) = true ∧ (sched s p).set.src = 0) ∧
    (∃ (s : State),
      s.pow.hubOn = true) ∧
    (∃ (s : State) (m : Nat),
      s.pow.hubOn = true ∧ m < 4 ∧ s.on (fSYNC_CFG_EN m) = true ∧ s.on (fSYNC_CFG_EDGE m) = false ∧ syncState s m = 1 ∧ (follower s m).hasEpoch = false) ∧
    (∃ (s : State) (m : Nat),
      s.pow.hubOn = true ∧ m < 4 ∧ syncState s m = 2 ∧ s.fv (fSYNC_STATUS_MISSED m) + 1 ≤ s.fv (fSYNC_CFG_HOLD_EDGES m)) ∧
    (∃ (s : State) (m : Nat),
      s.pow.hubOn = true ∧ m < 4 ∧ syncState s m = 3 ∧ s.fv (fSYNC_CFG_HOLD_EDGES m) < s.fv (fSYNC_STATUS_MISSED m) + 1) :=
  ⟨⟨(schBase [(fTRIG_SCHED_CTRL_RUN 31, 1)] { set := { illSrc := 2, illClose := 1 } }), 31, by decide +kernel⟩,
   ⟨(schBase [] { windows := 1 }), 31, by decide +kernel⟩,
   ⟨(schBase [] { windows := 1 }), 31, by decide +kernel⟩,
   ⟨(schBase [(fTRIG_SCHED_CTRL_RUN 31, 1), (⟨rREGU_GROUP_MASK, 31, 1⟩, 1)] {}), 31, by decide +kernel⟩,
   ⟨(schBase [(fTRIG_SCHED_CTRL_RUN 31, 1), (⟨rREGU_GROUP_MASK, 31, 1⟩, 1)] {}), by decide +kernel⟩,
   ⟨(S [(fSYNC_CFG_EN 3, 1), (fSYNC_STATUS_STATE 3, 1)]), 3, by decide +kernel⟩,
   ⟨(S [(fSYNC_CFG_EN 3, 1), (fSYNC_STATUS_STATE 3, 2), (fSYNC_CFG_HOLD_EDGES 3, 1)]), 3, by decide +kernel⟩,
   ⟨(S [(fSYNC_CFG_EN 3, 1), (fSYNC_STATUS_STATE 3, 3), (fSYNC_CFG_HOLD_EDGES 3, 1), (fSYNC_STATUS_MISSED 3, 1)]), 3, by decide +kernel⟩⟩

theorem witness_SafetyChecks :
    (∃ (s : State) (us : Nat),
      s.pow.powered = true ∧ sok s = 1 ∧ 400 ≤ us ∧ us ≤ 600) ∧
    (∃ (s : State) (us : Nat) (f : Bool),
      s.pow.powered = true ∧ sok s = 1 ∧ (us < 400 ∨ 600 < us ∨ f = false)) ∧
    (∃ (s : State) (code : Nat),
      s.pow.powered = true ∧ code < 2 ^ 16 ∧ bitAt (s.fv fSAFE_CAUSE_CAUSES) 8 = false) ∧
    (∃ (s : State),
      s.pow.powered = true ∧ s.isl.running = true) ∧
    (∃ (s : State),
      s.pow.powered = true ∧ s.isl.running = true) ∧
    (∃ (s : State) (n : Nat) (w : Nat),
      s.pow.hubOn = true ∧ n < 8 ∧ w < 128 ∧ tileUp s n = true ∧ kget w (tileOf s n).faults = none) ∧
    (∃ (s : State) (a : Nat),
      s.pow.hubOn = true ∧ a < 2 ^ 34 ∧ stackUp s (a / 2 ^ 33) = true) ∧
    (∃ (s : State) (d : Nat),
      s.pow.powered = true ∧ s.isl.running = true ∧ s.isl.inbox.contains (faultCode 0x05 0 0x0009, d) = true) ∧
    (∃ (s : State) (n : Nat) (d : Nat),
      s.pow.powered = true ∧ s.isl.running = true ∧ n < 8 ∧ s.isl.inbox.contains (faultCode 0x06 (n + 2) 0x0001, d) = true) ∧
    (∃ (s : State),
      s.pow.powered = true ∧ s.isl.running = true ∧ sok s = 0 ∧ s.on fGLB_BOOT_STATUS_READY = true ∧ windState s = 2 ∧ s.fv fSAFE_CAUSE_CAUSES = 0 ∧ s.isl.forced = false) :=
  ⟨⟨({ S [(fSAFE_STATUS_SOK, 1)] with taken := 0 }), 400, by decide +kernel⟩,
   ⟨(S [(fSAFE_STATUS_SOK, 1)]), 601, true, by decide +kernel⟩,
   ⟨(S []), 0x000B, by decide +kernel⟩,
   ⟨(S []), by decide +kernel⟩,
   ⟨(S []), by decide +kernel⟩,
   ⟨(S [(fTILE_STATUS_STATE 7, 1)]), 7, 127, by decide +kernel⟩,
   ⟨(S []), 2^33, by decide +kernel⟩,
   ⟨({ S [(fSAFE_STATUS_SOK, 1)] with isl := { running := true, inbox := [(faultCode 5 0 9, 0)] } }), 0, by decide +kernel⟩,
   ⟨({ S [] with isl := { running := true, inbox := [(faultCode 6 9 1, 0)] } }), 7, 0, by decide +kernel⟩,
   ⟨(S [(fGLB_BOOT_STATUS_READY, 1), (fSAFE_STATUS_WIND_STATE, 2), (fSAFE_CAUSE_CAUSES, 0)]), by decide +kernel⟩⟩

theorem witness_SafetyRegistersAndLog :
    (∃ (s : State) (v : Word),
      s.pow.hubOn = true ∧ bitAt v.toNat 16 = true ∧ bitsOf v.toNat 0 16 = 0xB0C5 ∧ s.fv fSAFE_CAUSE_CAUSES = 0 ∧ windState s = 2 ∧ s.on fSAFE_STATUS_RELEASE_NEEDED = true) ∧
    (∃ (s : State) (v : Word),
      s.pow.hubOn = true ∧ (windState s ≠ 2 ∨ s.fv fSAFE_CAUSE_CAUSES ≠ 0 ∨ bitsOf v.toNat 0 16 ≠ 0xB0C5 ∨ s.on fSAFE_STATUS_RELEASE_NEEDED = false)) ∧
    (∃ (s : State),
      s.pow.powered = true ∧ s.isl.running = true ∧ windState s = 2 ∧ s.isl.windAt + s.isl.windPeriod * 1000000 ≤ s.dial) ∧
    (∃ (s : State),
      s.pow.powered = true ∧ s.isl.running = true ∧ windState s = 1 ∧ s.isl.windAt + s.isl.windPeriod * 1000000 ≤ s.dial) ∧
    (∃ (s : State) (st : Nat),
      s.pow.powered = true ∧ s.isl.running = true ∧ st < 132 ∧ displayLate s st = true ∧ bitAt (s.fv fSAFE_CAUSE_CAUSES) 4 = false) ∧
    (∃ (s : State),
      s.pow.powered = true ∧ s.isl.running = true ∧ s.isl.hotAt + 100000000 ≤ s.now) ∧
    (∃ (s : State) (i : Nat) (v : Word),
      s.pow.hubOn = true ∧ i < 4 ∧ s.reg (rSAFE_SAFETY_VIEWS i) &&& ~~~ v &&& BitVec.ofNat 32 (runningMask s i) = 0) ∧
    (∃ (s : State) (i : Nat) (v : Word),
      s.pow.hubOn = true ∧ i < 4 ∧ s.reg (rSAFE_SAFETY_VIEWS i) &&& ~~~ v &&& BitVec.ofNat 32 (runningMask s i) ≠ 0) ∧
    (∃ (s : State) (v : Word),
      s.pow.hubOn = true ∧ s.reg rSAFE_DISPLAY_CV &&& ~~~ v &&& BitVec.ofNat 32 (runningMask s 4) = 0) ∧
    (∃ (s : State),
      s.pow.powered = true ∧ s.isl.running = true) ∧
    (∃ (s : State) (r : LogRec) (l : List LogRec),
      s.pow.hubOn = true ∧ s.isl.log = r :: l ∧ 0 < s.fv fSAFE_LOG_STATUS_HELD) ∧
    (∃ (s : State),
      s.pow.hubOn = true ∧ s.fv fSAFE_LOG_STATUS_HELD = 0) :=
  ⟨⟨(S [(fSAFE_STATUS_WIND_STATE, 2), (fSAFE_CAUSE_CAUSES, 0), (fSAFE_STATUS_RELEASE_NEEDED, 1)]), 0x1B0C5#32, by decide +kernel⟩,
   ⟨(S [(fSAFE_STATUS_WIND_STATE, 2), (fSAFE_CAUSE_CAUSES, 0), (fSAFE_STATUS_RELEASE_NEEDED, 1)]), 0x1B0C4#32, by decide +kernel⟩,
   ⟨({ S [(fSAFE_STATUS_WIND_STATE, 2), (fSAFE_STATUS_SOK, 1)] with regu := { dial := 50000000 } }), by decide +kernel⟩,
   ⟨({ S [(fSAFE_STATUS_WIND_STATE, 1)] with regu := { dial := 50000000 } }), by decide +kernel⟩,
   ⟨({ S [(⟨rSAFE_SAFETY_CV, 3, 1⟩, 1), (⟨rSAFE_DISPLAY_CV, 3, 1⟩, 1), (fSAFE_CAUSE_CAUSES, 0)] with fresh := [(131, { on := true })], regu := { dial := 100000001 } }), 131, by decide +kernel⟩,
   ⟨({ S [] with now := 100000000 }), by decide +kernel⟩,
   ⟨(S []), 3, 0x80000000#32, by decide +kernel⟩,
   ⟨({ S [(⟨rSAFE_SAFETY_VIEWS 3, 31, 1⟩, 1)] with started := [31] }), 3, 0#32, by decide +kernel⟩,
   ⟨(S []), 0x1F#32, by decide +kernel⟩,
   ⟨({ S [] with isl := { running := true, log := [⟨1, 2, 3, 4, 5, 6, 7, false⟩] } }), by decide +kernel⟩,
   ⟨({ S [(fSAFE_LOG_STATUS_HELD, 1)] with isl := { running := true, log := [⟨1, 2, 3, 4, 5, 6, 7, false⟩] } }), (⟨1, 2, 3, 4, 5, 6, 7, false⟩), [], by decide +kernel⟩,
   ⟨(S []), by decide +kernel⟩⟩

theorem witness_DomainsAndClocks :
    (∃ (s : State) (d : Nat),
      s.pow.hubOn = true ∧ s.pow.phase ≠ .standbyEntry ∧ 10 ≤ d ∧ d < 18 ∧ d ≠ 13 ∧ s.fv (fPWR_DOM_STATE d) = 3) ∧
    (∃ (s : State) (d : Nat),
      s.pow.hubOn = true ∧ (d < 10 ∨ d = 13)) ∧
    (∃ (s : State) (d : Nat),
      s.pow.hubOn = true ∧ s.pow.phase ≠ .standbyEntry ∧ (d = 10 ∨ d = 11) ∧ s.fv (fPWR_DOM_STATE d) = 0 ∧ domInUse s d = false) ∧
    (∃ (s : State) (d : Nat),
      s.pow.hubOn = true ∧ 12 ≤ d ∧ d < 18) ∧
    (∃ (s : State) (d : Nat),
      s.pow.hubOn = true ∧ s.pow.phase ≠ .standbyEntry ∧ 10 ≤ d ∧ d < 18 ∧ d ≠ 13 ∧ s.fv (fPWR_DOM_STATE d) = 0 ∧ domInUse s d = false) ∧
    (∃ (s : State) (d : Nat),
      s.pow.hubOn = true ∧ s.pow.phase ≠ .standbyEntry ∧ 10 ≤ d ∧ d < 18 ∧ d ≠ 13 ∧ s.fv (fPWR_DOM_STATE d) = 0 ∧ domInUse s d = true) ∧
    (∃ (s : State) (d : Nat),
      s.pow.hubOn = true ∧ d < 18 ∧ s.fv (fPWR_DOM_STATE d) = 1 ∧ kget d s.pow.clamped = none ∧ domIdle s d = true) ∧
    (∃ (s : State) (d : Nat) (a : Nat),
      s.pow.hubOn = true ∧ d < 18 ∧ s.fv (fPWR_DOM_STATE d) = 1 ∧ kget d s.pow.clamped = none ∧ domIdle s d = false ∧ kget d s.pow.drainAt = some a ∧ a + 2000000 ≤ s.now) ∧
    (∃ (s : State) (d : Nat) (x : Nat),
      s.pow.hubOn = true ∧ d < 18 ∧ s.fv (fPWR_DOM_STATE d) = 1 ∧ kget d s.pow.clamped = some true ∧ kget d s.pow.domTarget = some x ∧ (x = 2 ∨ x = 3)) ∧
    (∃ (s : State) (d : Nat),
      s.pow.hubOn = true ∧ d < 18 ∧ s.fv (fPWR_DOM_STATE d) = 4) ∧
    (∃ (s : State) (v : Word),
      s.pow.hubOn = true ∧ s.pow.phase = .ready ∧ bitAt v.toNat 16 = true ∧ bitsOf v.toNat 0 16 = 0x5AB1 ∧ standbyRefused s = false) ∧
    (∃ (s : State) (v : Word),
      s.pow.hubOn = true ∧ s.pow.phase = .ready ∧ bitAt v.toNat 16 = true ∧ bitsOf v.toNat 0 16 = 0x5AB1 ∧ standbyRefused s = true) ∧
    (∃ (s : State),
      s.pow.powered = true ∧ s.pow.phase = .standbyEntry) ∧
    (∃ (s : State) (i : Nat) (khz : Nat) (ringKhz : Nat),
      s.pow.powered = true ∧ i < 16 ∧ i ≠ 2 ∧ domOn s (clkDomain i) = true ∧ khz < 2 ^ 21 ∧ bitAt (s.fv fPWR_CLK_STATUS_FAIL) 2 = false ∧ clkOff ringKhz (clkNominal i) 20 = false ∧ clkOff khz (clkNominal i) 2 = false) ∧
    (∃ (s : State) (i : Nat) (ringKhz : Nat),
      s.pow.powered = true ∧ i < 16 ∧ domOn s (clkDomain i) = true ∧ clkOff ringKhz (clkNominal i) 20 = true ∧ kget i s.pow.clkBad = some true ∧ bitAt (s.fv fPWR_CLK_STATUS_FAIL) i = false) :=
  ⟨⟨(S [(fPWR_DOM_STATE 17, 3)]), 17, by decide +kernel⟩,
   ⟨(S [(fPWR_DOM_STATE 13, 3)]), 13, by decide +kernel⟩,
   ⟨(S []), 11, by decide +kernel⟩,
   ⟨(S []), 17, by decide +kernel⟩,
   ⟨(S []), 17, by decide +kernel⟩,
   ⟨(S [(fSPORT_CTRL_EN 31, 1)]), 17, by decide +kernel⟩,
   ⟨(S [(fPWR_DOM_STATE 17, 1)]), 17, by decide +kernel⟩,
   ⟨({ S [(fPWR_DOM_STATE 10, 1)] with now := 2000000, hoist := { chan := [(0, { ops := [{ tag := 0, kind := 0, space := 2, peer := 0, addr := 0, len := 64, off := 0, attempts := 1 }] })] }, pow := { phase := .ready, hubOn := true, drainAt := [(10, 0)] } }), 10, 0, by decide +kernel⟩,
   ⟨({ S [(fPWR_DOM_STATE 10, 1)] with mem := [(3, 7)], pow := { phase := .ready, hubOn := true, clamped := [(10, true)], domTarget := [(10, 3)] } }), 10, 3, by decide +kernel⟩,
   ⟨(S [(fPWR_DOM_STATE 17, 4)]), 17, by decide +kernel⟩,
   ⟨(S [(fPWR_STATE_STATE, 0)]), 0x15AB1#32, by decide +kernel⟩,
   ⟨(S [(fPWR_DOM_STATE 17, 4)]), 0x15AB1#32, by decide +kernel⟩,
   ⟨({ S [] with pow := { phase := .standbyEntry } }), by decide +kernel⟩,
   ⟨(S []), 15, 1600000, 1600000, by decide +kernel⟩,
   ⟨({ S [] with pow := { phase := .ready, hubOn := true, clkBad := [(15, true)] } }), 15, 0, by decide +kernel⟩⟩

theorem witness_RingsAndFetch :
    (∃ (s : State) (i : Nat) (v : Word),
      s.pow.hubOn = true ∧ i < 16 ∧ s.on fRING_SHADOW_CFG_EN = false ∧ (bitsOf v.toNat 0 16 + 2 ^ 16 - s.fv (fCR_HEAD_INDEX i)) % 2 ^ 16 ≤ crSize s i) ∧
    (∃ (s : State) (i : Nat) (v : Word),
      s.pow.hubOn = true ∧ i < 16 ∧ s.on fRING_SHADOW_CFG_EN = false ∧ crSize s i < (bitsOf v.toNat 0 16 + 2 ^ 16 - s.fv (fCR_HEAD_INDEX i)) % 2 ^ 16) ∧
    (∃ (s : State),
      s.pow.hubOn = true ∧ s.on fRING_SHADOW_CFG_EN = true) ∧
    (∃ (s : State) (j : Nat) (v : Word),
      s.pow.hubOn = true ∧ j < 64 ∧ s.on fRING_SHADOW_CFG_EN = false ∧ (s.fv (fCQ_TAIL_INDEX j) + 2 ^ 16 - bitsOf v.toNat 0 16) % 2 ^ 16 ≤ cqSize s j ∧ (cqOf s j).hold = []) ∧
    (∃ (s : State) (k : Nat) (v : Word),
      s.pow.hubOn = true ∧ k < 512 ∧ s.on fRING_SHADOW_CFG_EN = false ∧ (bitsOf v.toNat 0 16 + 2 ^ 16 - s.fv (fSR_HEAD_INDEX k)) % 2 ^ 16 ≤ srSize s k) ∧
    (∃ (s : State) (v : Word),
      s.pow.hubOn = true ∧ bitAt v.toNat 0 = true ∧ s.on fRING_SHADOW_CFG_EN = true ∧ hostUp s = true) ∧
    (∃ (s : State),
      s.pow.hubOn = true ∧ s.on fRING_SHADOW_CFG_EN = true ∧ hostUp s = true) ∧
    (∃ (s : State) (n : Nat),
      s.pow.hubOn = true ∧ s.ring.shadowReads = n + 1 ∧ s.on fRING_SHADOW_CFG_EN = true) ∧
    (∃ (s : State) (n : Nat),
      s.pow.hubOn = true ∧ s.ring.shadowReads = n + 1) ∧
    (∃ (s : State) (i : Nat) (v : Word),
      s.pow.hubOn = true ∧ i < 16 ∧ s.on (fCR_CFG_EN i) = false ∧ bitAt v.toNat 0 = true ∧ ringShapeOk (s.pair (rCR_BASE_LO i) (rCR_BASE_HI i)) (bitsOf v.toNat 1 4) 64 = true ∧ s.on (fCQ_CFG_EN (bitsOf v.toNat 8 6)) = true ∧ cqLoad s (bitsOf v.toNat 8 6) + 2 ^ bitsOf v.toNat 1 4 + 16 ≤ cqSize s (bitsOf v.toNat 8 6)) ∧
    (∃ (s : State) (i : Nat) (v : Word),
      s.pow.hubOn = true ∧ i < 16 ∧ s.on (fCR_CFG_EN i) = false ∧ (bitsOf v.toNat 1 4 < 4 ∨ 12 < bitsOf v.toNat 1 4)) ∧
    (∃ (s : State) (j : Nat) (v : Word),
      s.pow.hubOn = true ∧ j < 64 ∧ s.on (fCQ_CFG_EN j) = false ∧ bitAt v.toNat 0 = true ∧ ringShapeOk (cqBase s j) (bitsOf v.toNat 1 4) 32 = true) ∧
    (∃ (s : State) (k : Nat) (v : Word),
      s.pow.hubOn = true ∧ k < 512 ∧ s.on (fSR_CFG_EN k) = false ∧ bitAt v.toNat 0 = true ∧ ringShapeOk (s.pair (rSR_BASE_LO k) (rSR_BASE_HI k)) (bitsOf v.toNat 1 4) 32 = true ∧ s.on (fCQ_CFG_EN (bitsOf v.toNat 8 6)) = true ∧ cqLoad s (bitsOf v.toNat 8 6) + 2 ^ bitsOf v.toNat 1 4 + 16 ≤ cqSize s (bitsOf v.toNat 8 6)) ∧
    (∃ (s : State) (i : Nat) (bs : List Byte),
      s.pow.hubOn = true ∧ s.on fGLB_BOOT_STATUS_READY = true ∧ hostUp s = true ∧ fetchRing s = some i ∧ knownOp (parseCmd s.ring.nextId i (padTo 64 bs)).opcode = true ∧ hasPayload (parseCmd s.ring.nextId i (padTo 64 bs)).opcode = false) ∧
    (∃ (s : State) (i : Nat),
      s.pow.hubOn = true ∧ s.on fGLB_BOOT_STATUS_READY = true ∧ hostUp s = true ∧ fetchRing s = some i ∧ s.on fRING_ASYNC_CFG_EN = false) :=
  ⟨⟨(S [(fCR_CFG_SIZE_LOG2 15, 4)]), 15, 16#32, by decide +kernel⟩,
   ⟨(S [(fCR_CFG_SIZE_LOG2 15, 4)]), 15, 17#32, by decide +kernel⟩,
   ⟨(S [(fRING_SHADOW_CFG_EN, 1)]), by decide +kernel⟩,
   ⟨(S [(fCQ_CFG_SIZE_LOG2 63, 4), (fCQ_TAIL_INDEX 63, 16)]), 63, 0#32, by decide +kernel⟩,
   ⟨(S [(fSR_CFG_SIZE_LOG2 511, 4)]), 511, 16#32, by decide +kernel⟩,
   ⟨(hostBase [(fRING_SHADOW_CFG_EN, 1)]), 1#32, by decide +kernel⟩,
   ⟨(hostBase [(fRING_SHADOW_CFG_EN, 1)]), by decide +kernel⟩,
   ⟨({ S [(fRING_SHADOW_CFG_EN, 1)] with ring := { shadowReads := 1 } }), 0, by decide +kernel⟩,
   ⟨({ S [(fRING_SHADOW_CFG_EN, 1)] with ring := { shadowReads := 1 } }), 0, by decide +kernel⟩,
   ⟨(S [(fCQ_CFG_EN 63, 1), (fCQ_CFG_SIZE_LOG2 63, 5)]), 15, 0x3F09#32, by decide +kernel⟩,
   ⟨(S []), 15, 0x1B#32, by decide +kernel⟩,
   ⟨(S []), 63, 0x19#32, by decide +kernel⟩,
   ⟨(S [(fCQ_CFG_EN 63, 1), (fCQ_CFG_SIZE_LOG2 63, 5)]), 511, 0x3F09#32, by decide +kernel⟩,
   ⟨({ hostBase [(fGLB_BOOT_STATUS_READY, 1), (fCR_CFG_EN 15, 1), (fCR_STATUS_STATE 15, 1), (fCR_CFG_SIZE_LOG2 15, 4)] with ring := { crTail := [(15, 1)] } }), 15, [1], by decide +kernel⟩,
   ⟨({ hostBase [(fGLB_BOOT_STATUS_READY, 1), (fCR_CFG_EN 15, 1), (fCR_STATUS_STATE 15, 1), (fCR_CFG_SIZE_LOG2 15, 4)] with ring := { crTail := [(15, 1)] } }), 15, by decide +kernel⟩⟩

theorem witness_RingCommandsAndMessages :
    (∃ (s : State) (c : Cmd),
      s.pow.hubOn = true ∧ Starts s c 0x01 ∧ Room s c ∧ unusedZero c false false false false = true) ∧
    (∃ (s : State) (c : Cmd),
      s.pow.hubOn = true ∧ Starts s c 0x01 ∧ Room s c ∧ unusedZero c false false false false = false) ∧
    (∃ (s : State) (c : Cmd),
      s.pow.hubOn = true ∧ Starts s c 0x02 ∧ Room s c ∧ unusedZero c false true false true = true ∧ c.arg0 % 4 = 0 ∧ c.arg0 < 0x2000000 ∧ c.len % 4 = 0 ∧ 0 < c.len ∧ c.len ≤ 4096) ∧
    (∃ (s : State) (c : Cmd),
      s.pow.hubOn = true ∧ Starts s c 0x10 ∧ bitAt c.arg0 16 = false ∧ unusedZero c true true false false = true ∧ c.target < 256 ∧ bitsOf c.arg0 9 7 = 0 ∧ c.arg0 < 2 ^ 18 ∧ streamOk c.target = true ∧ streamRuns s c.target = false ∧ s.on (fSR_CFG_EN (bitsOf c.arg0 0 9)) = true ∧ s.on (fSR_STATUS_BOUND (bitsOf c.arg0 0 9)) = false) ∧
    (∃ (s : State) (c : Cmd),
      s.pow.hubOn = true ∧ Starts s c 0x10 ∧ bitAt c.arg0 16 = true ∧ unusedZero c true true false false = true ∧ c.target < 256 ∧ bitsOf c.arg0 9 7 = 0 ∧ c.arg0 < 2 ^ 18 ∧ streamOk c.target = true ∧ streamRuns s c.target = false ∧ s.on (fSR_CFG_EN (bitsOf c.arg0 0 9)) = true ∧ s.on (fSR_STATUS_BOUND (bitsOf c.arg0 0 9)) = true ∧ s.fv (fSR_STATUS_STREAM (bitsOf c.arg0 0 9)) = c.target ∧ kget c.target s.ring.bind = some (bitsOf c.arg0 0 9)) ∧
    (∃ (s : State) (j : Nat),
      s.pow.hubOn = true ∧ j < 64 ∧ s.fv (fCQ_COALESCE_TIME_US j) ≠ 0 ∧ (cqOf s j).firstAt.isSome = true ∧ s.on (fRING_INT_ROUTE_EN j) = true) ∧
    (∃ (s : State) (j : Nat),
      s.pow.hubOn = true ∧ j < 64 ∧ s.fv (fCQ_COALESCE_TIME_US j) ≠ 0 ∧ (cqOf s j).firstAt.isSome = true ∧ s.on (fRING_INT_ROUTE_EN j) = false) ∧
    (∃ (s : State) (src : Nat),
      s.pow.hubOn = true ∧ src < 512) ∧
    (∃ (s : State) (v : Nat),
      s.pow.hubOn = true ∧ v < 2048 ∧ msixOn s = true ∧ bitAt (cfgWord s 0x0B0).toNat 30 = false ∧ s.on ⟨rPBA_PENDING (v / 32), v % 32, 1⟩ = true ∧ hostUp s = true) ∧
    (∃ (s : State) (v : Nat),
      s.pow.hubOn = true ∧ v < 2048 ∧ s.on ⟨rPBA_PENDING (v / 32), v % 32, 1⟩ = false) :=
  ⟨⟨(cmdBase (cmdOf 0x01) []), (cmdOf 0x01), by unfold Starts Room; decide +kernel⟩,
   ⟨(cmdBase { cmdOf 0x01 with arg0 := 1 } []), ({ cmdOf 0x01 with arg0 := 1 }), by unfold Starts Room; decide +kernel⟩,
   ⟨(cmdBase { cmdOf 0x02 with arg0 := 0x1FFFFFC, len := 4 } []), ({ cmdOf 0x02 with arg0 := 0x1FFFFFC, len := 4 }), by unfold Starts Room; decide +kernel⟩,
   ⟨(cmdBase { cmdOf 0x10 with target := 0xBF, arg0 := 511 } [(fSR_CFG_EN 511, 1)]), ({ cmdOf 0x10 with target := 0xBF, arg0 := 511 }), by unfold Starts; decide +kernel⟩,
   ⟨((fun s : State => { s with ring := { s.ring with bind := [(0x83, 511)] } }) (cmdBase { cmdOf 0x10 with target := 0x83, arg0 := 65536 + 511 } [(fSR_CFG_EN 511, 1), (fSR_STATUS_BOUND 511, 1), (fSR_STATUS_STREAM 511, 0x83)])), ({ cmdOf 0x10 with target := 0x83, arg0 := 65536 + 511 }), by unfold Starts; decide +kernel⟩,
   ⟨({ S [(fCQ_COALESCE_TIME_US 63, 1), (fRING_INT_ROUTE_EN 63, 1)] with ring := { cq := [(63, { firstAt := some 0 })] } }), 63, by decide +kernel⟩,
   ⟨({ S [(fCQ_COALESCE_TIME_US 63, 1)] with ring := { cq := [(63, { firstAt := some 0 })] } }), 63, by decide +kernel⟩,
   ⟨(S []), 511, by decide +kernel⟩,
   ⟨({ hostBase [(⟨rPBA_PENDING 63, 31, 1⟩, 1)] with pcie := { cfg := [(4, 4#32), (0xB0, 0x80000000#32)] } }), 2047, by decide +kernel⟩,
   ⟨(S []), 2047, by decide +kernel⟩⟩

theorem witness_BusControllers :
    (∃ (s : State) (n : Nat) (v : Word),
      s.pow.hubOn = true ∧ n < 32 ∧ s.on (fSCC_STATUS_ABSENT n) = false ∧ s.on (fSCC_CTRL_EN n) = false ∧ domOn s (14 + n / 8) = true ∧ bitsOf (v ||| 1#32).toNat 1 2 ≠ 3 ∧ (sccSt s n).asked = false) ∧
    (∃ (s : State) (n : Nat) (v : Word),
      s.pow.hubOn = true ∧ n < 32 ∧ s.on (fSCC_STATUS_ABSENT n) = false ∧ s.on (fSCC_CTRL_EN n) = false ∧ domOn s (14 + n / 8) = true ∧ bitsOf (v ||| 1#32).toNat 1 2 ≠ 3) ∧
    (∃ (s : State) (n : Nat) (v : Word),
      s.pow.hubOn = true ∧ n < 32 ∧ s.on (fSCC_STATUS_ABSENT n) = false ∧ s.on (fSCC_CTRL_EN n) = false ∧ domOn s (14 + n / 8) = false ∧ bitsOf (v ||| 1#32).toNat 1 2 ≠ 3) ∧
    (∃ (s : State) (n : Nat) (v : Word),
      s.pow.hubOn = true ∧ n < 32 ∧ s.on (fSCC_STATUS_ABSENT n) = false ∧ s.on (fSCC_CTRL_EN n) = true ∧ bitsOf (v &&& 0xFFFFFFFE#32).toNat 1 2 ≠ 3 ∧ bitsOf (v &&& 0xFFFFFFFE#32).toNat 1 2 = s.fv (fSCC_CTRL_SPEED n) ∧ bitsOf (v &&& 0xFFFFFFFE#32).toNat 5 4 = s.fv (fSCC_CTRL_ARB_RETRY n) ∧ (sccSt s n).cur = none ∧ s.on (fSCC_LOCK_HELD n) = false) ∧
    (∃ (s : State) (n : Nat) (v : Word),
      s.pow.hubOn = true ∧ n < 32 ∧ s.on (fSCC_STATUS_ABSENT n) = false ∧ s.on (fSCC_CTRL_EN n) = true ∧ bitAt (v ||| 8#32).toNat 0 = true ∧ bitsOf (v ||| 8#32).toNat 1 2 ≠ 3 ∧ bitsOf (v ||| 8#32).toNat 1 2 = s.fv (fSCC_CTRL_SPEED n) ∧ bitsOf (v ||| 8#32).toNat 5 4 = s.fv (fSCC_CTRL_ARB_RETRY n) ∧ (sccSt s n).cur = none ∧ (sccSt s n).asked = false ∧ s.on (fSCC_LOCK_HELD n) = false) ∧
    (∃ (s : State) (n : Nat) (v : Word),
      s.pow.hubOn = true ∧ n < 32 ∧ s.on (fSCC_STATUS_ABSENT n) = false ∧ s.on (fSCC_CTRL_EN n) = true ∧ bitAt ((v &&& 0xFFFFFFF7#32) ||| 0x10#32).toNat 0 = true ∧ bitsOf ((v &&& 0xFFFFFFF7#32) ||| 0x10#32).toNat 1 2 ≠ 3 ∧ bitsOf ((v &&& 0xFFFFFFF7#32) ||| 0x10#32).toNat 1 2 = s.fv (fSCC_CTRL_SPEED n) ∧ bitsOf ((v &&& 0xFFFFFFF7#32) ||| 0x10#32).toNat 5 4 = s.fv (fSCC_CTRL_ARB_RETRY n) ∧ (sccSt s n).cur = none ∧ sccState s n = 2) ∧
    (∃ (s : State) (n : Nat),
      s.pow.hubOn = true ∧ n < 32 ∧ (sccSt s n).waiting = true ∧ (sccSt s n).asked = false) ∧
    (∃ (s : State) (n : Nat),
      s.pow.hubOn = true ∧ n < 32 ∧ (sccSt s n).waiting = true) ∧
    (∃ (s : State) (n : Nat) (x : SccTxn) (id : Nat) (i : Nat),
      s.pow.hubOn = true ∧ n < 32 ∧ (sccSt s n).cur = none ∧ sccState s n = 2 ∧ s.on (fSCC_LOCK_HELD n) = false ∧ burstOn s n = none ∧ lockLost s n = false ∧ ((∀ p ∈ pipesOn s n, dueBurst s p = none)) ∧ bridgeTxn s n = some x ∧ x.who = .bridge id i) ∧
    (∃ (s : State) (n : Nat) (p : Nat) (x : SccTxn),
      s.pow.hubOn = true ∧ n < 32 ∧ (sccSt s n).cur = none ∧ sccState s n = 2 ∧ s.on (fSCC_LOCK_HELD n) = false ∧ burstOn s n = some p ∧ burstTxn s p = some x) ∧
    (∃ (s : State) (n : Nat) (x : SccTxn) (id : Nat) (i : Nat) (a : BridgeAcc),
      s.pow.hubOn = true ∧ n < 32 ∧ (sccSt s n).cur = some x ∧ (sccSt s n).again = false ∧ x.who = .bridge id i ∧ kget id s.bridge.accs = some a ∧ a.kind = 2 ∧ a.lost = false) ∧
    (∃ (s : State) (n : Nat) (x : SccTxn) (id : Nat) (i : Nat) (a : BridgeAcc),
      s.pow.hubOn = true ∧ n < 32 ∧ (sccSt s n).cur = some x ∧ (sccSt s n).again = false ∧ x.who = .bridge id i ∧ kget id s.bridge.accs = some a ∧ a.kind = 2 ∧ a.lost = false ∧ a.fail = 0) :=
  ⟨⟨(S []), 31, 0x20#32, by decide +kernel⟩,
   ⟨(S []), 31, 0x20#32, by decide +kernel⟩,
   ⟨(S [(fPWR_DOM_STATE 17, 3)]), 31, 0x20#32, by decide +kernel⟩,
   ⟨(S [(fSCC_CTRL_EN 31, 1), (fSCC_CTRL_ARB_RETRY 31, 0), (fSCC_CTRL_SPEED 31, 0)]), 31, 0#32, by decide +kernel⟩,
   ⟨(S [(fSCC_CTRL_EN 31, 1), (fSCC_CTRL_ARB_RETRY 31, 0), (fSCC_CTRL_SPEED 31, 0)]), 31, 1#32, by decide +kernel⟩,
   ⟨(S [(fSCC_CTRL_EN 31, 1), (fSCC_CTRL_ARB_RETRY 31, 0), (fSCC_CTRL_SPEED 31, 0), (fSCC_STATUS_STATE 31, 2)]), 31, 1#32, by decide +kernel⟩,
   ⟨({ S [(fSCC_STATUS_STATE 31, 1)] with scc := [(31, { waiting := true })] }), 31, by decide +kernel⟩,
   ⟨({ S [(fSCC_STATUS_STATE 31, 1)] with scc := [(31, { waiting := true })] }), 31, by decide +kernel⟩,
   ⟨({ S [(fSCC_STATUS_STATE 31, 2)] with bridge := { accs := [(0, accOf 31)], queue := [(31, [(0, 0)])] } }), 31, (⟨.bridge 0 0, false, 0, (S []).on (fSCC_TARGET_ADDR_WIDTH 31), 5, []⟩), 0, 0, by decide +kernel⟩,
   ⟨({ S [(fSCC_STATUS_STATE 31, 2)] with esc := [(31, { profile := some prof, entries := [entryOf1], bursts := [{ burstOfOne with running := true }] })] }), 31, 31, (⟨.esc 31, true, 0x10, true, 0, [1]⟩), by decide +kernel⟩,
   ⟨({ S [(fSCC_STATUS_STATE 31, 3)] with scc := [(31, { cur := some (txnOf 0 0) })], bridge := { accs := [(0, accOf 31)], queue := [(31, [(0, 0)])] } }), 31, (txnOf 0 0), 0, 0, (accOf 31), by decide +kernel⟩,
   ⟨({ S [(fSCC_STATUS_STATE 31, 3)] with scc := [(31, { cur := some (txnOf 0 0) })], bridge := { accs := [(0, accOf 31)], queue := [(31, [(0, 0)])] } }), 31, (txnOf 0 0), 0, 0, (accOf 31), by decide +kernel⟩⟩

theorem witness_BusErrorsAndLocks :
    (∃ (s : State) (n : Nat) (x : SccTxn),
      s.pow.hubOn = true ∧ n < 32 ∧ (sccSt s n).cur = some x ∧ (sccSt s n).again = false ∧ (sccSt s n).restarts < s.fv (fSCC_CTRL_ARB_RETRY n)) ∧
    (∃ (s : State) (n : Nat) (x : SccTxn) (id : Nat) (i : Nat) (a : BridgeAcc),
      s.pow.hubOn = true ∧ n < 32 ∧ (sccSt s n).cur = some x ∧ (sccSt s n).again = false ∧ s.fv (fSCC_CTRL_ARB_RETRY n) ≤ (sccSt s n).restarts ∧ x.who = .bridge id i ∧ kget id s.bridge.accs = some a ∧ a.kind = 2 ∧ a.lost = false ∧ a.fail = 0) ∧
    (∃ (s : State) (n : Nat) (x : SccTxn) (id : Nat) (i : Nat) (a : BridgeAcc),
      s.pow.hubOn = true ∧ n < 32 ∧ (sccSt s n).cur = some x ∧ x.who = .bridge id i ∧ kget id s.bridge.accs = some a ∧ a.kind = 2 ∧ a.lost = false ∧ a.fail = 0) ∧
    (∃ (s : State) (n : Nat) (x : SccTxn) (id : Nat) (i : Nat) (a : BridgeAcc),
      s.pow.hubOn = true ∧ n < 32 ∧ (sccSt s n).cur = some x ∧ x.who = .bridge id i ∧ kget id s.bridge.accs = some a ∧ a.kind = 2 ∧ a.lost = false ∧ a.fail = 0) ∧
    (∃ (s : State) (n : Nat) (x : SccTxn) (id : Nat) (i : Nat) (a : BridgeAcc),
      s.pow.hubOn = true ∧ n < 32 ∧ (sccSt s n).cur = some x ∧ (sccSt s n).again = true ∧ x.who = .bridge id i ∧ kget id s.bridge.accs = some a ∧ a.kind = 2 ∧ a.lost = false ∧ a.fail = 0) ∧
    (∃ (s : State) (n : Nat),
      s.pow.hubOn = true ∧ n < 32 ∧ s.on (fSCC_LOCK_ACTIVE n) = false ∧ sccState s n = 2 ∧ (sccSt s n).cur = none) ∧
    (∃ (s : State) (n : Nat),
      s.pow.hubOn = true ∧ n < 32 ∧ (sccState s n = 0 ∨ sccState s n = 5)) ∧
    (∃ (s : State) (n : Nat),
      s.pow.hubOn = true ∧ n < 32 ∧ s.on (fSCC_LOCK_HELD n) = true ∧ (sccSt s n).cur = none ∧ sccState s n = 4) ∧
    (∃ (s : State) (n : Nat) (x : SccTxn),
      s.pow.hubOn = true ∧ n < 32 ∧ s.on (fSCC_LOCK_HELD n) = true ∧ (sccSt s n).cur = some x) ∧
    (∃ (s : State) (n : Nat),
      s.pow.hubOn = true ∧ n < 32 ∧ s.on (fSCC_LOCK_HELD n) = true ∧ (sccSt s n).cur = none ∧ sccState s n = 4) ∧
    (∃ (s : State) (n : Nat) (x : SccTxn),
      s.pow.hubOn = true ∧ n < 32 ∧ s.on (fSCC_LOCK_HELD n) = true ∧ (sccSt s n).cur = some x ∧ (sccSt s n).ending ≠ 1) :=
  ⟨⟨({ S [(fSCC_STATUS_STATE 31, 3), (fSCC_CTRL_ARB_RETRY 31, 15)] with scc := [(31, { cur := some (txnOf 0 0), restarts := 14 })] }), 31, (txnOf 0 0), by decide +kernel⟩,
   ⟨({ S [(fSCC_STATUS_STATE 31, 3), (fSCC_CTRL_ARB_RETRY 31, 0)] with scc := [(31, { cur := some (txnOf 0 0) })], bridge := { accs := [(0, accOf 31)], queue := [(31, [(0, 0)])] } }), 31, (txnOf 0 0), 0, 0, (accOf 31), by decide +kernel⟩,
   ⟨({ S [(fSCC_STATUS_STATE 31, 3)] with scc := [(31, { cur := some (txnOf 0 0) })], bridge := { accs := [(0, accOf 31)], queue := [(31, [(0, 0)])] } }), 31, (txnOf 0 0), 0, 0, (accOf 31), by decide +kernel⟩,
   ⟨({ S [(fSCC_STATUS_STATE 31, 3)] with scc := [(31, { cur := some (txnOf 0 0) })], bridge := { accs := [(0, accOf 31)], queue := [(31, [(0, 0)])] } }), 31, (txnOf 0 0), 0, 0, (accOf 31), by decide +kernel⟩,
   ⟨({ S [(fSCC_STATUS_STATE 31, 3)] with scc := [(31, { cur := some (txnOf 0 0), again := true })], bridge := { accs := [(0, accOf 31)], queue := [(31, [(0, 0)])] } }), 31, (txnOf 0 0), 0, 0, (accOf 31), by decide +kernel⟩,
   ⟨(S [(fSCC_STATUS_STATE 31, 2)]), 31, by decide +kernel⟩,
   ⟨(S [(fSCC_STATUS_STATE 31, 5)]), 31, by decide +kernel⟩,
   ⟨(S [(fSCC_STATUS_STATE 31, 4), (fSCC_LOCK_HELD 31, 1)]), 31, by decide +kernel⟩,
   ⟨({ S [(fSCC_STATUS_STATE 31, 3), (fSCC_LOCK_HELD 31, 1)] with scc := [(31, { cur := some (txnOf 0 0) })] }), 31, (txnOf 0 0), by decide +kernel⟩,
   ⟨(S [(fSCC_STATUS_STATE 31, 4), (fSCC_LOCK_HELD 31, 1)]), 31, by decide +kernel⟩,
   ⟨({ S [(fSCC_STATUS_STATE 31, 3), (fSCC_LOCK_HELD 31, 1)] with scc := [(31, { cur := some (txnOf 0 0) })] }), 31, (txnOf 0 0), by decide +kernel⟩⟩

theorem witness_EscapementAndFreshness :
    (∃ (s : State) (p : Nat),
      s.pow.hubOn = true ∧ p < 32 ∧ started s p = false ∧ profileErr (stagedProfile s p) ((mapEntries s.arn p).any (fun e => decide (32 ≤ e.1))) = none) ∧
    (∃ (s : State) (p : Nat) (o : Nat),
      s.pow.hubOn = true ∧ p < 32 ∧ started s p = false ∧ profileErr (stagedProfile s p) ((mapEntries s.arn p).any (fun e => decide (32 ≤ e.1))) = some o) ∧
    (∃ (s : State) (p : Nat),
      s.pow.hubOn = true ∧ p < 32 ∧ started s p = true) ∧
    (∃ (s : State) (p : Nat),
      s.pow.hubOn = true ∧ p < 32) ∧
    (∃ (s : State) (p : Nat) (b : Burst) (n : Nat),
      s.pow.hubOn = true ∧ p < 32 ∧ (escOf s p).bursts.find? (fun b => !b.due) = some b ∧ sccOf s p = some n ∧ sccState s n ≠ 5) ∧
    (∃ (s : State) (n : Nat) (p : Nat) (b : Burst) (x : SccTxn),
      s.pow.hubOn = true ∧ n < 32 ∧ sccState s n = 2 ∧ burstOn s n = none ∧ pipesOn s n = [p] ∧ dueBurst s p = some b ∧ (s.dial : Int) ≤ b.latest ∧ burstTxn (setEsc s p { escOf s p with bursts := { b with running := true } :: (escOf s p).bursts.tail }) p = some x) ∧
    (∃ (s : State) (p : Nat) (pr : EscProfile) (b : Burst) (e : EscEntry),
      s.pow.hubOn = true ∧ p < 32 ∧ (escOf s p).profile = some pr ∧ (escOf s p).bursts = [b] ∧ b.running = false ∧ b.nacked = [] ∧ (escOf s p).entries = [e] ∧ burstEntries b = [e.id] ∧ e.noRetarget = false ∧ e.nacks < 3) ∧
    (∃ (s : State) (c : Cmd) (st : Nat),
      s.pow.hubOn = true ∧ Starts s c 0x20 ∧ Room s c ∧ cmdSettings.unusedZero' c = true ∧ settingsReject s c.payload c.len = some st) ∧
    (∃ (s : State) (c : Cmd) (p : Nat) (pr : EscProfile),
      s.pow.hubOn = true ∧ Starts s c 0x20 ∧ cmdSettings.unusedZero' c = true ∧ settingsReject s c.payload c.len = none ∧ leAt c.payload 0 1 = p ∧ (escOf s p).profile = some pr ∧ bitAt (leAt c.payload 1 1) 0 = false ∧ ((∀ g, g < 16 → frameNo s p < unwrap s p (leAt c.payload 4 4) - Int.ofNat (delayOf pr g))) ∧ -1 ≤ frameNo s p) ∧
    (∃ (s : State) (st : Nat),
      s.pow.hubOn = true ∧ st < 128 ∧ budgetOver s st = true ∧ isSafety s st = false) ∧
    (∃ (s : State) (st : Nat),
      s.pow.hubOn = true ∧ st < 132 ∧ budgetOver s st = true ∧ isSafety s st = true) :=
  ⟨⟨(S ([(0, 0x01100001), (1, 0x03E80000), (3, 0xFF03E8), (4, 0x00010000)].map (fun x => (⟨rESC_PROFILE_WORD 31 x.1, 0, 32⟩, x.2)))), 31, by decide +kernel⟩,
   ⟨(S []), 31, 0, by decide +kernel⟩,
   ⟨({ S [] with started := [31] }), 31, by decide +kernel⟩,
   ⟨({ S [] with esc := [(31, { profile := some prof, entries := [entryOf1], bursts := [burstOfOne] })] }), 31, by decide +kernel⟩,
   ⟨({ S [] with esc := [(31, { profile := some prof, entries := [entryOf1], bursts := [{ burstOfOne with due := false }] })] }), 31, ({ burstOfOne with due := false }), 31, by decide +kernel⟩,
   ⟨({ S [(fSCC_STATUS_STATE 31, 2)] with esc := [(31, { profile := some prof, entries := [entryOf1], bursts := [burstOfOne] })] }), 31, 31, burstOfOne, (⟨.esc 31, true, 0x10, true, 0, [1]⟩), by decide +kernel⟩,
   ⟨({ S [] with esc := [(31, { profile := some prof, entries := [entryOf1], bursts := [burstOfOne] })] }), 31, prof, burstOfOne, entryOf1, by decide +kernel⟩,
   ⟨(cmdBase { cmdOf 0x20 with len := 24, payload := List.replicate 24 0 } []), ({ cmdOf 0x20 with len := 24, payload := List.replicate 24 0 }), 0x10, by unfold Starts Room; decide +kernel⟩,
   ⟨({ cmdBase { cmdOf 0x20 with len := 24, payload := [31, 0, 1, 0, 9, 0, 0, 0, 0, 0, 0, 0, 1, 0, 0, 0, 5, 0, 0, 0, 0, 0, 0, 0] } [] with started := [31], esc := [(31, { profile := some prof })] }), ({ cmdOf 0x20 with len := 24, payload := [31, 0, 1, 0, 9, 0, 0, 0, 0, 0, 0, 0, 1, 0, 0, 0, 5, 0, 0, 0, 0, 0, 0, 0] }), 31, prof, by unfold Starts; decide +kernel⟩,
   ⟨({ S [] with fresh := [(127, { on := true })], regu := { dial := 100000000 } }), 127, by decide +kernel⟩,
   ⟨({ S [(⟨rSAFE_SAFETY_CV, 3, 1⟩, 1)] with fresh := [(131, { on := true })], regu := { dial := 100000000 } }), 131, by decide +kernel⟩⟩

theorem witness_Larder :
    (∃ (s : State) (st : Nat) (k : Pkt) (w : Nat) (n : Int) (bs : List Byte) (p : Bool),
      s.pow.hubOn = true ∧ st < 192 ∧ kgetD [] st s.prod = [k] ∧ queueEn s st = true ∧ 0 < k.sent ∧ k.body = .stats n bs p ∧ k.words = [w] ∧ (queueOfL s st).discarding = false ∧ s.on (fLQ_CTRL_AUDIT st) = false ∧ needsCell s st = false) ∧
    (∃ (s : State) (st : Nat) (k : Pkt) (n : Int) (bs : List Byte) (p : Bool),
      s.pow.hubOn = true ∧ st < 192 ∧ kgetD [] st s.prod = [k] ∧ queueEn s st = true ∧ k.sent = 0 ∧ k.body = .stats n bs p ∧ credit s st < ceilDiv bs.length 256 + 1) ∧
    (∃ (s : State) (q : Nat),
      s.pow.hubOn = true ∧ 192 ≤ q ∧ q < 4096 ∧ pushRefused s q = false ∧ (queueOfL s q).discarding = false ∧ s.on (fLQ_CTRL_AUDIT q) = false) ∧
    (∃ (s : State) (q : Nat),
      s.pow.hubOn = true ∧ q < 4096 ∧ queueEn s q = false) ∧
    (∃ (s : State) (q : Nat),
      s.pow.hubOn = true ∧ 192 ≤ q ∧ q < 4096 ∧ pushRefused s q = false ∧ (queueOfL s q).discarding = false ∧ s.on (fLQ_CTRL_AUDIT q) = false) ∧
    (∃ (s : State) (g : Nat) (q : Nat) (w : LWord) (ws : List LWord),
      s.pow.hubOn = true ∧ g < 256 ∧ softConsumer s g = true ∧ (groupOfL s g).opened = none ∧ nextOpen s g = some q ∧ (groupOfL s g).cut = false ∧ (queueOfL s q).words = w :: ws ∧ w.poison = false) ∧
    (∃ (s : State) (g : Nat),
      s.pow.hubOn = true ∧ g < 256 ∧ softConsumer s g = true ∧ (groupOfL s g).opened = none ∧ nextOpen s g = none) ∧
    (∃ (s : State) (g : Nat),
      s.pow.hubOn = true ∧ g < 256 ∧ softConsumer s g = false) ∧
    (∃ (s : State) (q : Nat),
      s.pow.hubOn = true ∧ q < 4096 ∧ s.on (fLQ_CTRL_AUDIT q) = true ∧ (queueOfL s q).releasing = false) ∧
    (∃ (s : State) (q : Nat) (v : Word),
      s.pow.hubOn = true ∧ 192 ≤ q ∧ q < 4096 ∧ s.on (fLQ_CTRL_AUDIT q) = false ∧ bitAt v.toNat 0 = true) ∧
    (∃ (s : State) (q : Nat) (v : Word),
      s.pow.hubOn = true ∧ 192 ≤ q ∧ q < 4096 ∧ s.on (fLQ_CTRL_AUDIT q) = false ∧ bitAt v.toNat 0 = false ∧ queueEn s q = true) ∧
    (∃ (s : State) (q : Nat),
      s.pow.hubOn = true ∧ q < 4096 ∧ (queueOfL s q).flushing = true) ∧
    (∃ (s : State) (q : Nat) (v : Word),
      s.pow.hubOn = true ∧ 192 ≤ q ∧ q < 4096 ∧ bitAt v.toNat 0 = true ∧ queueEn s q = false ∧ (queueOfL s q).releasing = false ∧ 192 ≤ bitsOf v.toNat 2 8 ∧ memberCount s (bitsOf v.toNat 2 8) < 16 ∧ 0 < s.fv (fLQ_RESERVE_CELLS q) ∧ poolReserved s + s.fv (fLQ_RESERVE_CELLS q) ≤ poolLimit s) ∧
    (∃ (s : State) (q : Nat) (v : Word),
      s.pow.hubOn = true ∧ 192 ≤ q ∧ q < 4096 ∧ bitAt v.toNat 0 = true ∧ queueEn s q = false ∧ (queueOfL s q).releasing = false ∧ 192 ≤ bitsOf v.toNat 2 8 ∧ memberCount s (bitsOf v.toNat 2 8) < 16 ∧ 0 < s.fv (fLQ_RESERVE_CELLS q) ∧ poolLimit s < poolReserved s + s.fv (fLQ_RESERVE_CELLS q)) :=
  ⟨⟨({ S [(fLQ_CFG_EN 191, 1)] with prod := [(191, [{ body := .stats 0 [] false, words := [7], sent := 1 }])], larder := { queue := [(191, { cells := [3], tailUsed := 31 })] } }), 191, ({ body := .stats 0 [] false, words := [7], sent := 1 }), 7, 0, [], false, by decide +kernel⟩,
   ⟨({ S [(fLQ_CFG_EN 191, 1)] with prod := [(191, [{ body := .stats 0 [1] false }])] }), 191, ({ body := .stats 0 [1] false }), 0, [1], false, by decide +kernel⟩,
   ⟨(S [(fLQ_CFG_EN 192, 1), (fLQ_CREDIT_CELLS 192, 1)]), 192, by decide +kernel⟩,
   ⟨(S []), 4095, by decide +kernel⟩,
   ⟨(S [(fLQ_CFG_EN 4095, 1), (fLQ_CREDIT_CELLS 4095, 1)]), 4095, by decide +kernel⟩,
   ⟨({ S [(fLARDER_G_CFG_CONSUMER 255, 1), (fLQ_CFG_EN 4095, 1), (fLQ_CFG_GROUP 4095, 255)] with larder := { queue := [(4095, { words := [⟨9, true, false, 3, 0, none⟩], cells := [3], tailUsed := 1, orders := [0] })] } }), 255, 4095, (⟨9, true, false, 3, 0, none⟩), [], by decide +kernel⟩,
   ⟨(S [(fLARDER_G_CFG_CONSUMER 192, 1)]), 192, by decide +kernel⟩,
   ⟨(S []), 191, by decide +kernel⟩,
   ⟨({ S [(fLQ_CTRL_AUDIT 4095, 1), (fLQ_RESERVE_CELLS 4095, 7)] with larder := { queue := [(4095, { cells := [3] })] } }), 4095, by decide +kernel⟩,
   ⟨(S []), 192, 1#32, by decide +kernel⟩,
   ⟨({ S [(fLQ_CFG_EN 4095, 1)] with larder := { queue := [(4095, { cells := [3] })] } }), 4095, 0#32, by decide +kernel⟩,
   ⟨({ S [] with larder := { queue := [(4095, { flushing := true })] } }), 4095, by decide +kernel⟩,
   ⟨(S [(fLQ_RESERVE_CELLS 4095, 1), (fLARDER_POOL_LIMIT_CELLS, 100)]), 4095, 0x3FD#32, by decide +kernel⟩,
   ⟨(S [(fLQ_RESERVE_CELLS 4095, 0x7FFFF), (fLARDER_POOL_LIMIT_CELLS, 100)]), 4095, 0x3FD#32, by decide +kernel⟩⟩

theorem witness_SensorPorts :
    (∃ (s : State) (n : Nat) (v : Word),
      s.pow.hubOn = true ∧ n < 32 ∧ sportAbsent s n = false ∧ s.on (fSPORT_CTRL_EN n) = false ∧ bitAt v.toNat 6 = false ∧ bitAt v.toNat 0 = true ∧ sportUp s n = true ∧ sportCfgOk s n v.toNat = true) ∧
    (∃ (s : State) (n : Nat) (v : Word),
      s.pow.hubOn = true ∧ n < 32 ∧ sportAbsent s n = false ∧ s.on (fSPORT_CTRL_EN n) = false ∧ bitAt v.toNat 6 = false ∧ bitAt v.toNat 0 = true ∧ sportUp s n = false) ∧
    (∃ (s : State) (n : Nat) (v : Word),
      s.pow.hubOn = true ∧ n < 32 ∧ sportAbsent s n = false ∧ s.on (fSPORT_CTRL_EN n) = false ∧ bitAt v.toNat 6 = true) ∧
    (∃ (s : State) (n : Nat),
      s.pow.hubOn = true ∧ n < 32 ∧ sportOn s n = true) ∧
    (∃ (s : State) (n : Nat),
      s.pow.hubOn = true ∧ n < 32 ∧ sportOn s n = true) ∧
    (∃ (s : State) (n : Nat),
      s.pow.hubOn = true ∧ n < 32 ∧ sportHears s n = true) ∧
    (∃ (s : State) (n : Nat),
      s.pow.hubOn = true ∧ n < 32 ∧ sportOn s n = true) ∧
    (∃ (s : State) (n : Nat),
      s.pow.hubOn = true ∧ n < 32 ∧ sportHears s n = true ∧ (portOf s n).exited = false) ∧
    (∃ (s : State) (n : Nat) (k : Nat) (p : Nat) (f : Int) (x : Frame),
      s.pow.hubOn = true ∧ n < 36 ∧ k < 16 ∧ (chanSt s n k).frame = some (p, f) ∧ frameOf s p f = some x ∧ x.fs + portTimeoutMs s n * 1000000 ≤ s.dial) ∧
    (∃ (s : State) (n : Nat) (v : Word),
      s.pow.hubOn = true ∧ n < 32 ∧ sportAbsent s n = false ∧ (bitAt v.toNat 16 = false ∨ sportUp s n = true) ∧ 6000 ≤ bitsOf v.toNat 0 16 ∧ bitsOf v.toNat 0 16 ≤ 54000) ∧
    (∃ (s : State) (n : Nat) (v : Word),
      s.pow.hubOn = true ∧ n < 32 ∧ sportAbsent s n = false ∧ bitsOf v.toNat 16 16 ≠ 0 ∧ bitAt v.toNat 1 = true) ∧
    (∃ (s : State) (n : Nat) (v : Word),
      s.pow.hubOn = true ∧ n < 32 ∧ sportAbsent s n = false ∧ bitsOf v.toNat 16 16 = 0) ∧
    (∃ (s : State) (n : Nat),
      s.pow.hubOn = true ∧ n < 32) :=
  ⟨⟨(S [(fSPORT_LINK_RATE_RATE 31, 4500)]), 31, 1#32, by decide +kernel⟩,
   ⟨(S [(fPWR_DOM_STATE 17, 3)]), 31, 1#32, by decide +kernel⟩,
   ⟨({ S [] with port := [(31, { exited := true })] }), 31, 0x40#32, by decide +kernel⟩,
   ⟨(S [(fSPORT_CTRL_EN 31, 1)]), 31, by decide +kernel⟩,
   ⟨(S [(fSPORT_CTRL_EN 31, 1)]), 31, by decide +kernel⟩,
   ⟨(S [(fSPORT_CTRL_EN 31, 1), (fSPORT_STATUS_PHY_READY 31, 1)]), 31, by decide +kernel⟩,
   ⟨(S [(fSPORT_CTRL_EN 31, 1)]), 31, by decide +kernel⟩,
   ⟨(S [(fSPORT_CTRL_EN 31, 1), (fSPORT_STATUS_PHY_READY 31, 1)]), 31, by decide +kernel⟩,
   ⟨({ S [] with regu := { dial := 1000000000 }, port := [(35, { chan := [(15, { frame := some (31, 0) })] })], pipe := [(31, { frames := [frameOf1 35 15] })] }), 35, 15, 31, 0, (frameOf1 35 15), by decide +kernel⟩,
   ⟨(S []), 31, 0x1D2F0#32, by decide +kernel⟩,
   ⟨(S []), 31, 0xFFFF0002#32, by decide +kernel⟩,
   ⟨(S []), 31, 2#32, by decide +kernel⟩,
   ⟨(S []), 31, by decide +kernel⟩⟩

theorem witness_PacketsAndLines :
    (∃ (s : State) (n : Nat) (vc : Nat) (k : Nat) (p : Nat),
      s.pow.hubOn = true ∧ n < 32 ∧ sportHears s n = true ∧ (portOf s n).exited = false ∧ routeOf s n vc = some (k, p) ∧ accepts s p = true ∧ (chanSt s n k).frame = none) ∧
    (∃ (s : State) (n : Nat) (vc : Nat) (k : Nat) (p : Nat),
      s.pow.hubOn = true ∧ n < 32 ∧ sportHears s n = true ∧ (portOf s n).exited = false ∧ routeOf s n vc = some (k, p) ∧ accepts s p = false ∧ (chanSt s n k).frame = none) ∧
    (∃ (s : State) (n : Nat),
      s.pow.hubOn = true ∧ n < 32 ∧ sportHears s n = true ∧ (portOf s n).exited = false) ∧
    (∃ (s : State) (n : Nat) (vc : Nat) (k : Nat) (p : Nat),
      s.pow.hubOn = true ∧ n < 32 ∧ sportHears s n = true ∧ (portOf s n).exited = false ∧ routeOf s n vc = some (k, p)) ∧
    (∃ (s : State) (n : Nat) (vc : Nat) (dt : Nat) (bytes : List Byte) (k : Nat) (p : Nat) (q : Nat) (f : Int) (x : Frame) (l : List Nat),
      s.pow.hubOn = true ∧ n < 32 ∧ sportHears s n = true ∧ (portOf s n).exited = false ∧ routeOf s n vc = some (k, p) ∧ dt = s.av (fSPORT_VC_MAP_DT n k) ∧ dt ≠ 0x10 ∧ dt ≠ 0x11 ∧ dt ≠ 0x12 ∧ (chanSt s n k).skip = false ∧ (chanSt s n k).frame = some (q, f) ∧ (chanSt s n k).ls = none ∧ frameOf s q f = some x ∧ x.ignore = false ∧ x.fe = none ∧ x.began = true ∧ x.lines.length < x.height ∧ unpackLine dt x.width bytes = (some l, false)) ∧
    (∃ (s : State) (n : Nat) (vc : Nat) (dt : Nat) (k : Nat) (p : Nat),
      s.pow.hubOn = true ∧ n < 32 ∧ sportHears s n = true ∧ (portOf s n).exited = false ∧ routeOf s n vc = some (k, p) ∧ dt = s.av (fSPORT_VC_MAP_DT n k) ∧ dt ≠ 0x10 ∧ dt ≠ 0x11 ∧ (chanSt s n k).skip = false ∧ (chanSt s n k).frame = none) ∧
    (∃ (s : State) (n : Nat),
      s.pow.hubOn = true ∧ n < 32 ∧ sportHears s n = true ∧ (portOf s n).exited = false) ∧
    (∃ (s : State) (n : Nat) (vc : Nat) (k : Nat) (p : Nat) (q : Nat) (f : Int) (x : Frame),
      s.pow.hubOn = true ∧ n < 32 ∧ sportHears s n = true ∧ (portOf s n).exited = false ∧ routeOf s n vc = some (k, p) ∧ (chanSt s n k).frame = some (q, f) ∧ frameOf s q f = some x) ∧
    (∃ (s : State) (m : Nat),
      s.pow.hubOn = true ∧ m < 4 ∧ lportOn s m = true ∧ s.aon (fLPORT_MAP_EN m) = true ∧ accepts s (s.av (fLPORT_MAP_PIPE m)) = true ∧ (chanSt s (32 + m) 0).frame = none) ∧
    (∃ (s : State) (m : Nat) (p : Nat) (f : Int) (x : Frame),
      s.pow.hubOn = true ∧ m < 4 ∧ lportOn s m = true ∧ (chanSt s (32 + m) 0).skip = false ∧ (chanSt s (32 + m) 0).frame = some (p, f) ∧ frameOf s p f = some x ∧ x.ignore = false ∧ x.fe = none ∧ (portOf s (32 + m)).passed < s.fv (fLPORT_START_VSTART m)) ∧
    (∃ (s : State) (m : Nat) (words : List Nat) (p : Nat) (f : Int) (x : Frame) (l : List Nat),
      s.pow.hubOn = true ∧ m < 4 ∧ lportOn s m = true ∧ (chanSt s (32 + m) 0).skip = false ∧ (chanSt s (32 + m) 0).frame = some (p, f) ∧ frameOf s p f = some x ∧ x.ignore = false ∧ x.fe = none ∧ s.fv (fLPORT_START_VSTART m) ≤ (portOf s (32 + m)).passed ∧ x.seen = 1 ∧ x.began = true ∧ x.lines.length < x.height ∧ lportSamples x.rd m x.width (lportWords s m x words) = (some l, false)) ∧
    (∃ (s : State) (m : Nat) (p : Nat) (f : Int) (x : Frame),
      s.pow.hubOn = true ∧ m < 4 ∧ lportOn s m = true ∧ (chanSt s (32 + m) 0).frame = some (p, f) ∧ frameOf s p f = some x) :=
  ⟨⟨(portBase [] { started := [31] }), 31, 15, 15, 31, by decide +kernel⟩,
   ⟨(portBase [] {}), 31, 15, 15, 31, by decide +kernel⟩,
   ⟨(portBase [] {}), 31, by decide +kernel⟩,
   ⟨(portBase [] {}), 31, 15, 15, 31, by decide +kernel⟩,
   ⟨({ portBase [] {} with port := [(31, { chan := [(15, { frame := some (31, 0) })] })], pipe := [(31, { frames := [frameOf1 31 15] })] }), 31, 15, 0x2A, ([5, 6]), 15, 31, 31, 0, (frameOf1 31 15), ([5, 6]), by decide +kernel⟩,
   ⟨(portBase [] {}), 31, 15, 0x2A, 15, 31, by decide +kernel⟩,
   ⟨(portBase [] {}), 31, by decide +kernel⟩,
   ⟨({ portBase [] {} with port := [(31, { chan := [(15, { frame := some (31, 0) })] })], pipe := [(31, { frames := [frameOf1 31 15] })] }), 31, 15, 15, 31, 31, 0, (frameOf1 31 15), by decide +kernel⟩,
   ⟨({ S [(fLPORT_CTRL_EN 3, 1)] with act := [(rLPORT_MAP 3, 63)], started := [31] }), 3, by decide +kernel⟩,
   ⟨({ S [(fLPORT_CTRL_EN 3, 1), (fLPORT_START_VSTART 3, 1)] with port := [(35, { chan := [(0, { frame := some (31, 0) })] })], pipe := [(31, { frames := [frameOf1 35 0] })] }), 3, 31, 0, (frameOf1 35 0), by decide +kernel⟩,
   ⟨({ S [(fLPORT_CTRL_EN 3, 1)] with port := [(35, { chan := [(0, { frame := some (31, 0) })] })], pipe := [(31, { frames := [frameOf1 35 0] })] }), 3, ([5, 6]), 31, 0, (frameOf1 35 0), ([5, 6]), by decide +kernel⟩,
   ⟨({ S [(fLPORT_CTRL_EN 3, 1)] with port := [(35, { chan := [(0, { frame := some (31, 0) })] })], pipe := [(31, { frames := [frameOf1 35 0] })] }), 3, 31, 0, (frameOf1 35 0), by decide +kernel⟩⟩

theorem witness_PlatesCommitsAndCanvases :
    (∃ (s : State) (c : Cmd) (p : Nat) (r : PlateRec) (e : PlateRec),
      s.pow.hubOn = true ∧ Starts s c 0x22 ∧ plateFieldsOk c = true ∧ plateCheck s c.payload = .ok [r, e] ∧ r.type = 3 ∧ e.type = 0xFF ∧ plateTarget c.payload = p ∧ p < 32) ∧
    (∃ (s : State) (c : Cmd) (st : Nat) (off : Nat),
      s.pow.hubOn = true ∧ Starts s c 0x22 ∧ Room s c ∧ plateFieldsOk c = true ∧ plateCheck s c.payload = .error (st, off)) ∧
    (∃ (s : State) (c : Cmd),
      s.pow.hubOn = true ∧ Starts s c 0x22 ∧ Room s c ∧ plateFieldsOk c = false) ∧
    (∃ (s : State) (c : Cmd) (p : Nat),
      s.pow.hubOn = true ∧ Starts s c 0x21 ∧ commitTarget c = some p ∧ ((∀ x ∈ s.commits, x.target ≠ p))) ∧
    (∃ (s : State) (c : Cmd) (p : Nat) (x : CommitRec),
      s.pow.hubOn = true ∧ Starts s c 0x21 ∧ Room s c ∧ commitTarget c = some p ∧ x ∈ s.commits ∧ x.target = p) ∧
    (∃ (s : State) (c : CommitRec) (code : Nat) (detail : Nat) (source : Nat),
      s.pow.hubOn = true ∧ checkNext s = some c ∧ c.target < 36 ∧ consistency s c.target = some (code, detail, source)) ∧
    (∃ (s : State) (c : CommitRec),
      s.pow.hubOn = true ∧ checkNext s = some c ∧ c.target < 36 ∧ consistency s c.target = none ∧ (admitCommit s c.target).rule ≠ 0) ∧
    (∃ (s : State) (c : CommitRec),
      s.pow.hubOn = true ∧ checkNext s = some c ∧ 32 ≤ c.target ∧ c.target < 36 ∧ consistency s c.target = none ∧ (admitCommit s c.target).rule = 0 ∧ targetRuns s c.target = false) ∧
    (∃ (s : State) (c : CommitRec),
      s.pow.hubOn = true ∧ checkNext s = some c ∧ c.target < 36 ∧ consistency s c.target = none ∧ (admitCommit s c.target).rule = 0 ∧ targetRuns s c.target = true ∧ c.next = true) ∧
    (∃ (s : State) (c : CommitRec),
      s.pow.hubOn = true ∧ checkNext s = some c ∧ c.target < 36 ∧ consistency s c.target = none ∧ (admitCommit s c.target).rule = 0 ∧ targetRuns s c.target = true ∧ c.next = false ∧ c.noRetarget = true ∧ unwrap s c.target c.fsn ≤ frameNo s c.target) ∧
    (∃ (s : State) (c : Nat) (v : Word),
      s.pow.hubOn = true ∧ c < 4 ∧ s.on (fCV_ENABLE_EN c) = false ∧ bitAt v.toNat 0 = true) ∧
    (∃ (s : State) (c : Nat) (v : Word),
      s.pow.hubOn = true ∧ c < 4 ∧ s.on (fCV_ENABLE_EN c) = true ∧ bitAt v.toNat 0 = false) ∧
    (∃ (s : State) (c : Nat) (tile : Nat),
      s.pow.hubOn = true ∧ c < 4 ∧ s.on (fCV_ENABLE_EN c) = true ∧ (placeOf s (32 + c)).host = some tile ∧ (canvasOf s c).deferred = false ∧ canvasDue s c = true ∧ canvasIdle s c = true ∧ armedOf s (32 + c) = none) ∧
    (∃ (s : State) (c : Nat) (tile : Nat),
      s.pow.hubOn = true ∧ c < 4 ∧ s.on (fCV_ENABLE_EN c) = true ∧ (placeOf s (32 + c)).host = some tile ∧ (canvasOf s c).deferred = false ∧ canvasDue s c = true ∧ canvasIdle s c = false) ∧
    (∃ (s : State) (c : Nat) (f : CvFrame) (tile : Nat),
      s.pow.hubOn = true ∧ c < 4 ∧ (placeOf s (32 + c)).host = some tile ∧ (canvasOf s c).frames.find? (fun f => !f.truncated && f.released < cvSlices f c) = some f ∧ tileUp s tile = true ∧ f.released * (cvSliceTime s f.rd c).num < (s.dial - f.start + 1) * (cvSliceTime s f.rd c).den) :=
  ⟨⟨((fun s : State => { s with pow := { s.pow with boot := { s.pow.boot with kernelIds := [5] } } }) (cmdBase (plateCmd plateBytes) [])), (plateCmd plateBytes), 31, (⟨32, 3, 1, 0x50F, [0x12345678]⟩), (⟨48, 0xFF, 0, 0, []⟩), by unfold Starts; and_intros <;> first | decide +kernel | exact ok_of (by decide +kernel) | exact error_of (by decide +kernel) | exact some_of (by decide +kernel)⟩,
   ⟨(cmdBase (plateCmd plateBytes) []), (plateCmd plateBytes), 0x33, 32, by unfold Starts Room; and_intros <;> first | decide +kernel | exact ok_of (by decide +kernel) | exact error_of (by decide +kernel) | exact some_of (by decide +kernel)⟩,
   ⟨(cmdBase { plateCmd [] with len := 0 } []), ({ plateCmd [] with len := 0 }), by unfold Starts Room; decide +kernel⟩,
   ⟨(cmdBase { cmdOf 0x21 with target := 0x103 } []), ({ cmdOf 0x21 with target := 0x103 }), 35, by unfold Starts; decide +kernel⟩,
   ⟨({ cmdBase { cmdOf 0x21 with target := 31 } [] with commits := [commitOf 31] }), ({ cmdOf 0x21 with target := 31 }), 31, (commitOf 31), by unfold Starts Room; decide +kernel⟩,
   ⟨({ cmdBase (cmdOf 0x21) [] with commits := [commitOf 35] }), (commitOf 35), 0x0306, 0, 0, by decide +kernel⟩,
   ⟨({ cvBase [(fTILE_STATUS_HEALTHY 7, 0)] (cmdBase (cmdOf 0x21) []) with commits := [commitOf 35] }), (commitOf 35), by decide +kernel⟩,
   ⟨({ cvBase [] (cmdBase (cmdOf 0x21) []) with commits := [commitOf 35] }), (commitOf 35), by decide +kernel⟩,
   ⟨({ cvBase [(fCV_ENABLE_EN 3, 1)] (cmdBase (cmdOf 0x21) []) with commits := [{ commitOf 35 with next := true }] }), ({ commitOf 35 with next := true }), by decide +kernel⟩,
   ⟨({ cvBase [(fCV_ENABLE_EN 3, 1)] (cmdBase (cmdOf 0x21) []) with commits := [{ commitOf 35 with noRetarget := true }], frameNo := [(35, 9)] }), ({ commitOf 35 with noRetarget := true }), by decide +kernel⟩,
   ⟨(cvBase []), 3, 1#32, by decide +kernel⟩,
   ⟨(cvState { enabledAt := 0 } []), 3, 0#32, by decide +kernel⟩,
   ⟨((fun s : State => { s with regu := { s.regu with dial := 20000000 } }) (cvState { enabledAt := 0, next := 0xFFFFFFFF } [])), 3, 7, by decide +kernel⟩,
   ⟨((fun s : State => { s with regu := { s.regu with dial := 20000000 } }) (cvState { enabledAt := 0, next := 1, frames := [⟨0, 0, [], 0, [], 0, false, false, 0, [], {}⟩] } [])), 3, 7, by decide +kernel⟩,
   ⟨(cvState { enabledAt := 0, next := 1, frames := [⟨0, 0, [], 0, [], 0, false, false, 0, [], {}⟩] } []), 3, (⟨0, 0, [], 0, [], 0, false, false, 0, [], {}⟩), 7, by decide +kernel⟩⟩

theorem witness_JobsPiecesAndTiles :
    (∃ (s : State) (p : Nat) (out : Option Nat) (twin : Bool) (f : Frame) (tile : Nat),
      s.pow.hubOn = true ∧ p < 32 ∧ ((∀ o ∈ out, o < 2)) ∧ (pipeOf s p).frames.find? (canRelease s p out twin) = some f ∧ (if twin then (placeOf s p).twin else (placeOf s p).host) = some tile ∧ tileUp s tile = true ∧ relOf f (jobKey out twin) = 0) ∧
    (∃ (s : State) (p : Nat) (out : Option Nat) (twin : Bool) (f : Frame) (tile : Nat) (k : Nat) (before : Nat),
      s.pow.hubOn = true ∧ p < 32 ∧ ((∀ o ∈ out, o < 2)) ∧ (pipeOf s p).frames.find? (canRelease s p out twin) = some f ∧ (if twin then (placeOf s p).twin else (placeOf s p).host) = some tile ∧ tileUp s tile = true ∧ relOf f (jobKey out twin) = k + 1 ∧ kget (jobKey out twin) (pipeOf s p).rEff = some before ∧ before + f.sl p * lineT16 f.rd p < (s.dial + 1) * 16) ∧
    (∃ (s : State) (n : Nat) (w : Nat) (j : Job) (q : Piece),
      s.pow.hubOn = true ∧ n < 8 ∧ w < 128 ∧ tileUp s n = true ∧ wheelFenced s n w = false ∧ kget w (tileOf s n).running = none ∧ nextPiece s n w = some (j, q)) ∧
    (∃ (s : State) (n : Nat) (w : Nat) (q : Piece) (j : Job),
      s.pow.hubOn = true ∧ n < 8 ∧ w < 128 ∧ kget w (tileOf s n).running = some q ∧ q.failedOn = none ∧ (tileOf s n).draining.contains w = false ∧ jobOf s q.job = some j ∧ 1 < j.left) ∧
    (∃ (s : State) (n : Nat) (w : Nat) (q : Piece) (j : Job) (v : Nat),
      s.pow.hubOn = true ∧ n < 8 ∧ w < 128 ∧ kget w (tileOf s n).running = some q ∧ q.failedOn = some v ∧ (tileOf s n).draining.contains w = false ∧ jobOf s q.job = some j ∧ 1 < j.left) ∧
    (∃ (s : State) (n : Nat) (w : Nat) (q : Piece) (j : Job),
      s.pow.hubOn = true ∧ n < 8 ∧ w < 128 ∧ kget w (tileOf s n).running = some q ∧ q.failedOn = none ∧ (tileOf s n).draining.contains w = false ∧ jobOf s q.job = some j ∧ kget w (tileOf s n).faults = none) ∧
    (∃ (s : State) (n : Nat) (w : Nat) (q : Piece) (before : Nat),
      s.pow.hubOn = true ∧ n < 8 ∧ w < 128 ∧ kget w (tileOf s n).running = some q ∧ q.failedOn = none ∧ (tileOf s n).draining.contains w = false ∧ kget w (tileOf s n).faults = some [before] ∧ s.now ≤ before + 1000000000 ∧ wheelFenced s n w = false) ∧
    (∃ (s : State) (n : Nat) (w : Nat) (q : Piece) (j : Job) (v : Nat),
      s.pow.hubOn = true ∧ n < 8 ∧ w < 128 ∧ kget w (tileOf s n).running = some q ∧ q.failedOn = some v ∧ (tileOf s n).draining.contains w = false ∧ jobOf s q.job = some j ∧ 1 < j.left ∧ kget w (tileOf s n).faults = none) ∧
    (∃ (s : State) (n : Nat) (w : Nat) (q : Piece) (j : Job) (x : Stage),
      s.pow.hubOn = true ∧ n < 8 ∧ w < 128 ∧ kget w (tileOf s n).running = some q ∧ q.failedOn = none ∧ (tileOf s n).draining.contains w = false ∧ jobOf s q.job = some j ∧ j.stages[q.stage]? = some x ∧ q.start + x.limit * 1000 ≤ s.now ∧ kget w (tileOf s n).faults = none) ∧
    (∃ (s : State) (st : Nat) (a : TwinTally) (f : Frame),
      s.pow.hubOn = true ∧ st < 128 ∧ s.tallies.find? (fun t => !t.arrived && t.stream == st) = some a ∧ s.twinWait.find? (waitsFor a) = none ∧ frameOf s (st / 4) a.frame = some f ∧ outDone s st f = false) ∧
    (∃ (s : State) (st : Nat) (a : TwinTally) (x : OutSlice),
      s.pow.hubOn = true ∧ st < 128 ∧ s.tallies.find? (fun t => !t.arrived && t.stream == st) = some a ∧ s.twinWait.find? (waitsFor a) = some x ∧ a.tally = x.tally) ∧
    (∃ (s : State) (st : Nat) (a : TwinTally) (x : OutSlice),
      s.pow.hubOn = true ∧ st < 128 ∧ s.tallies.find? (fun t => !t.arrived && t.stream == st) = some a ∧ s.twinWait.find? (waitsFor a) = some x ∧ a.tally ≠ x.tally) ∧
    (∃ (s : State) (st : Nat) (x : OutSlice),
      s.pow.hubOn = true ∧ st < 128 ∧ s.twinWait.find? (fun x => x.wait && x.stream == st) = some x ∧ x.deadline + 384000 < s.dial * 16) ∧
    (∃ (s : State) (n : Nat) (v : Word),
      s.pow.hubOn = true ∧ n < 8 ∧ tileUp s n = true ∧ bitAt v.toNat 16 = true ∧ bitsOf v.toNat 0 16 = 0xFE9C ∧ ((∀ p < 36, (placeOf s p).host ≠ some n ∧ (placeOf s p).twin ≠ some n))) ∧
    (∃ (s : State) (n : Nat) (v : Word),
      s.pow.hubOn = true ∧ n < 8 ∧ (bitAt v.toNat 16 = false ∨ bitsOf v.toNat 0 16 ≠ 0xFE9C)) ∧
    (∃ (s : State) (n : Nat),
      s.pow.hubOn = true ∧ n < 8 ∧ tileUp s n = true) ∧
    (∃ (s : State) (n : Nat),
      s.pow.hubOn = true ∧ n < 8 ∧ tileUp s n = true ∧ s.fv (fTILE_STATUS_HEALTHY n) < 64 ∧ ((∀ p < 36, (placeOf s p).host ≠ some n ∧ (placeOf s p).twin ≠ some n))) ∧
    (∃ (s : State) (r : Readmit) (rest : List Readmit) (h : Nat),
      s.pow.hubOn = true ∧ s.readmit = r :: rest ∧ r.p < 32 ∧ r.host = true ∧ (demandOf s (actCfg s) r.p).twinOn = false ∧ s.started.contains r.p = true ∧ (admitTile (leaveTile { s with readmit := rest } r.p) r.p (demandOf s (actCfg s) r.p) [] none 8 [r.excl]).rule = 0 ∧ (admitTile (leaveTile { s with readmit := rest } r.p) r.p (demandOf s (actCfg s) r.p) [] none 8 [r.excl]).place.host = some h) ∧
    (∃ (s : State) (r : Readmit) (rest : List Readmit),
      s.pow.hubOn = true ∧ s.readmit = r :: rest ∧ r.p < 32 ∧ r.host = true ∧ (demandOf s (actCfg s) r.p).twinOn = false ∧ s.started.contains r.p = true ∧ (admitTile (leaveTile { s with readmit := rest } r.p) r.p (demandOf s (actCfg s) r.p) [] none 8 [r.excl]).rule ≠ 0) :=
  ⟨⟨(relBase (frameB 0) []), 31, none, false, (frameB 0), 7, by decide +kernel⟩,
   ⟨({ relBase (frameB 1) [(4, 0)] with regu := { dial := 160000 } }), 31, none, false, (frameB 1), 7, 0, 0, by decide +kernel⟩,
   ⟨(tileBase {} { jobA with ready := [pieceA none] }), 7, 127, ({ jobA with ready := [pieceA none] }), (pieceA none), by decide +kernel⟩,
   ⟨(tileBase { running := [(127, pieceA none)] } jobA), 7, 127, (pieceA none), jobA, by decide +kernel⟩,
   ⟨(tileBase { running := [(127, pieceA (some 126))] } jobA), 7, 127, (pieceA (some 126)), jobA, 126, by decide +kernel⟩,
   ⟨(tileBase { running := [(127, pieceA none)] } jobA), 7, 127, (pieceA none), jobA, by decide +kernel⟩,
   ⟨(tileBase { running := [(127, pieceA none)], faults := [(127, [0])] } jobA), 7, 127, (pieceA none), 0, by decide +kernel⟩,
   ⟨(tileBase { running := [(127, pieceA (some 126))] } jobA), 7, 127, (pieceA (some 126)), jobA, 126, by decide +kernel⟩,
   ⟨({ tileBase { running := [(127, pieceA none)] } jobA with now := 8000 }), 7, 127, (pieceA none), jobA, (⟨0, 4, 8, 0, 8, 0, none, 2, 8⟩), by decide +kernel⟩,
   ⟨({ S [] with tallies := [⟨127, 0, 0, 5, false⟩], pipe := [(31, { frames := [frameB 0] })] }), 127, (⟨127, 0, 0, 5, false⟩), (frameB 0), by decide +kernel⟩,
   ⟨({ S [] with tallies := [⟨127, 0, 0, 5, false⟩], twinWait := [sliceA] }), 127, (⟨127, 0, 0, 5, false⟩), sliceA, by decide +kernel⟩,
   ⟨({ S [] with tallies := [⟨127, 0, 0, 6, false⟩], twinWait := [sliceA] }), 127, (⟨127, 0, 0, 6, false⟩), sliceA, by decide +kernel⟩,
   ⟨({ S [] with twinWait := [sliceA], regu := { dial := 24001 } }), 127, sliceA, by decide +kernel⟩,
   ⟨(tileBase {} jobA), 7, 0x1FE9C#32, by decide +kernel⟩,
   ⟨(tileBase {} jobA), 7, 0xFE9C#32, by decide +kernel⟩,
   ⟨({ tileBase {} jobA with place := [(31, { host := some 7 })] }), 7, by decide +kernel⟩,
   ⟨(S [(fTILE_STATUS_HEALTHY 7, 63)] (tileBase {} jobA)), 7, by decide +kernel⟩,
   ⟨({ S [(fTILE_STATUS_STATE 7, 1), (fTILE_STATUS_HEALTHY 7, 128)] with readmit := [⟨31, 0, true⟩], started := [31], place := [(31, { host := some 0 })] }), (⟨31, 0, true⟩), [], 7, by decide +kernel⟩,
   ⟨({ S [] with readmit := [⟨31, 0, true⟩], started := [31], place := [(31, { host := some 0 })] }), (⟨31, 0, true⟩), [], by decide +kernel⟩⟩

theorem witness_LanesAndReceivers :
    (∃ (s : State) (m : Nat) (v : Word),
      s.pow.hubOn = true ∧ domOn s 12 = true ∧ m < 8 ∧ s.on (fLANE_STATUS_ABSENT m) = false ∧ bitAt v.toNat 1 = false ∧ laneEn s m = false ∧ bitAt v.toNat 0 = true) ∧
    (∃ (s : State) (m : Nat) (v : Word),
      s.pow.hubOn = true ∧ domOn s 12 = true ∧ m < 8 ∧ s.on (fLANE_STATUS_ABSENT m) = false ∧ bitAt v.toNat 1 = false ∧ laneEn s m = true ∧ bitAt v.toNat 0 = false) ∧
    (∃ (s : State) (m : Nat),
      s.pow.hubOn = true ∧ domOn s 12 = true ∧ m < 8 ∧ s.on (fLANE_STATUS_ABSENT m) = true) ∧
    (∃ (s : State) (m : Nat) (v : Word),
      s.pow.hubOn = true ∧ domOn s 12 = true ∧ m < 8 ∧ s.on (fLANE_STATUS_ABSENT m) = false ∧ bitAt v.toNat 1 = true ∧ laneTested s m = false) ∧
    (∃ (s : State) (m : Nat) (v : Word),
      s.pow.hubOn = true ∧ domOn s 12 = true ∧ m < 8 ∧ s.on (fLANE_STATUS_ABSENT m) = false ∧ bitAt v.toNat 1 = true ∧ laneTested s m = true) ∧
    (∃ (s : State) (m : Nat),
      s.pow.hubOn = true ∧ domOn s 12 = true ∧ m < 8 ∧ laneEn s m = true ∧ (laneOf s m).pll = false ∧ s.on (fLANE_STATUS_FREF_OK m) = true) ∧
    (∃ (s : State) (m : Nat),
      s.pow.hubOn = true ∧ domOn s 12 = true ∧ m < 8 ∧ laneOn s m false = true ∧ s.on (fLANE_STATUS_SIGNAL m) = false ∧ s.on (fLANE_STATUS_CDR_LOCK m) = false) ∧
    (∃ (s : State) (m : Nat),
      s.pow.hubOn = true ∧ domOn s 12 = true ∧ m < 8 ∧ laneEn s m = true ∧ (laneOf s m).pll = true ∧ s.on (fLANE_STATUS_SIGNAL m) = true) ∧
    (∃ (s : State) (m : Nat) (since : Nat),
      s.pow.hubOn = true ∧ domOn s 12 = true ∧ m < 8 ∧ laneOn s m false = true ∧ (laneOf s m).adapting = some since ∧ s.fv (fLANE_RX_EQ_MODE m) ≠ 2) ∧
    (∃ (s : State) (m : Nat) (since : Nat),
      s.pow.hubOn = true ∧ domOn s 12 = true ∧ m < 8 ∧ laneOn s m false = true ∧ (laneOf s m).adapting = some since ∧ s.fv (fLANE_RX_EQ_MODE m) = 2) ∧
    (∃ (s : State) (m : Nat) (since : Nat),
      s.pow.hubOn = true ∧ domOn s 12 = true ∧ m < 8 ∧ (laneOf s m).adapting = some since ∧ since + 30000000 ≤ s.now ∧ laneOn s m false = true ∧ s.on (fLANE_STATUS_SIGNAL m) = true) ∧
    (∃ (s : State) (m : Nat),
      s.pow.hubOn = true ∧ domOn s 12 = true ∧ m < 8 ∧ laneOn s m false = true ∧ s.on (fLANE_STATUS_CDR_LOCK m) = true) ∧
    (∃ (s : State) (m : Nat),
      s.pow.hubOn = true ∧ domOn s 12 = true ∧ m < 8 ∧ laneOn s m false = true ∧ s.on (fLANE_STATUS_CDR_LOCK m) = false ∧ s.on (fLANE_STATUS_SIGNAL m) = true ∧ (laneOf s m).adapting = none) ∧
    (∃ (s : State) (k : Nat),
      s.pow.hubOn = true ∧ domOn s 12 = true ∧ k < 8 ∧ s.on (fLANE_STATUS_FREF_OK k) = true) ∧
    (∃ (s : State),
      s.pow.hubOn = true ∧ domOn s 12 = true ∧ ((∀ m < 8, s.on (fLANE_STATUS_FREF_OK m) = false))) ∧
    (∃ (s : State) (m : Nat) (v : Word),
      s.pow.hubOn = true ∧ domOn s 12 = true ∧ m < 8 ∧ bitsOf v.toNat 0 5 ≤ 16 ∧ bitsOf v.toNat 8 5 ≤ 24) ∧
    (∃ (s : State) (m : Nat) (v : Word),
      s.pow.hubOn = true ∧ domOn s 12 = true ∧ m < 8 ∧ (16 < bitsOf v.toNat 0 5 ∨ 24 < bitsOf v.toNat 8 5)) ∧
    (∃ (s : State) (m : Nat) (tx : Bool),
      s.pow.hubOn = true ∧ domOn s 12 = true ∧ m < 8 ∧ laneEn s m = true ∧ (laneOf s m).pll = true ∧ s.fv (laneStateF m tx) < laneTarget s m tx) ∧
    (∃ (s : State) (m : Nat),
      s.pow.hubOn = true ∧ domOn s 12 = true ∧ m < 8 ∧ laneEn s m = true ∧ (laneOf s m).pll = true ∧ laneTarget s m true < s.fv (laneStateF m true)) ∧
    (∃ (s : State) (m : Nat),
      s.pow.hubOn = true ∧ domOn s 12 = true ∧ m < 8 ∧ laneEn s m = true ∧ (laneOf s m).wakeRx = true ∧ (laneOf s m).pll = true ∧ s.on (fLANE_STATUS_FREF_OK m) = true ∧ laneTarget s m false = 0 ∧ s.on (fLANE_STATUS_SIGNAL m) = true) :=
  ⟨⟨(laneBase [] {}), 7, 5#32, by decide +kernel⟩,
   ⟨(laneBase [(fLANE_CTRL_EN 7, 1)] {}), 7, 0#32, by decide +kernel⟩,
   ⟨(laneBase [(fLANE_STATUS_ABSENT 7, 1)] {}), 7, by decide +kernel⟩,
   ⟨(laneBase [] {}), 7, 3#32, by decide +kernel⟩,
   ⟨(laneBase [(fLANE_PATGEN_EN 7, 1)] {}), 7, 3#32, by decide +kernel⟩,
   ⟨(laneBase [(fLANE_CTRL_EN 7, 1)] {}), 7, by decide +kernel⟩,
   ⟨(laneBase [(fLANE_CTRL_EN 7, 1)] { pll := true }), 7, by decide +kernel⟩,
   ⟨(laneBase [(fLANE_CTRL_EN 7, 1), (fLANE_STATUS_SIGNAL 7, 1)] { pll := true, adapting := some 0 }), 7, by decide +kernel⟩,
   ⟨(laneBase [(fLANE_CTRL_EN 7, 1)] { pll := true, adapting := some 0 }), 7, 0, by decide +kernel⟩,
   ⟨(laneBase [(fLANE_CTRL_EN 7, 1), (fLANE_RX_EQ_MODE 7, 2)] { pll := true, adapting := some 0 }), 7, 0, by decide +kernel⟩,
   ⟨({ laneBase [(fLANE_CTRL_EN 7, 1), (fLANE_STATUS_SIGNAL 7, 1)] { pll := true, adapting := some 0 } with now := 30000000 }), 7, 0, by decide +kernel⟩,
   ⟨(laneBase [(fLANE_CTRL_EN 7, 1), (fLANE_STATUS_CDR_LOCK 7, 1)] { pll := true }), 7, by decide +kernel⟩,
   ⟨(laneBase [(fLANE_CTRL_EN 7, 1), (fLANE_STATUS_SIGNAL 7, 1)] { pll := true }), 7, by decide +kernel⟩,
   ⟨(laneBase [(fLANE_CTRL_EN 7, 1)] { pll := true }), 7, by decide +kernel⟩,
   ⟨(S [(fLANE_CTRL_EN 7, 1), (fPWR_DOM_STATE 12, 0)]), by decide +kernel⟩,
   ⟨(laneBase [] {}), 7, 0xF1810#32, by decide +kernel⟩,
   ⟨(laneBase [] {}), 7, 0x1900#32, by decide +kernel⟩,
   ⟨(laneBase [(fLANE_CTRL_EN 7, 1), (fLANE_PWR_RX_FORCE 7, 3), (fLANE_PWR_RX_SLEEP_MAX 7, 3)] { pll := true }), 7, false, by decide +kernel⟩,
   ⟨(laneBase [(fLANE_CTRL_EN 7, 1), (fLANE_STATUS_TX_STATE 7, 2)] { pll := true }), 7, by decide +kernel⟩,
   ⟨(laneBase [(fLANE_CTRL_EN 7, 1), (fLANE_STATUS_RX_STATE 7, 2), (fLANE_STATUS_SIGNAL 7, 1)] { pll := true, wakeRx := true }), 7, by decide +kernel⟩⟩

theorem witness_LaneTests :
    (∃ (s : State) (m : Nat) (v : Word),
      s.pow.hubOn = true ∧ domOn s 12 = true ∧ m < 8 ∧ bitAt v.toNat 0 = true ∧ s.on (fLANE_CTRL_FABRIC_EN m) = true) ∧
    (∃ (s : State) (m : Nat) (v : Word),
      s.pow.hubOn = true ∧ domOn s 12 = true ∧ m < 8 ∧ s.on (fLANE_CTRL_FABRIC_EN m) = false ∧ bitsOf v.toNat 1 3 ≤ 4) ∧
    (∃ (s : State) (m : Nat) (v : Word),
      s.pow.hubOn = true ∧ domOn s 12 = true ∧ m < 8 ∧ 4 < bitsOf v.toNat 1 3 ∧ s.on (fLANE_CTRL_FABRIC_EN m) = false) ∧
    (∃ (s : State) (m : Nat) (v : Word),
      s.pow.hubOn = true ∧ domOn s 12 = true ∧ m < 8 ∧ bitAt v.toNat 0 = true ∧ bitAt v.toNat 4 = false ∧ bitAt v.toNat 5 = false ∧ bitsOf v.toNat 1 3 ≤ 4 ∧ s.on (fLANE_CTRL_FABRIC_EN m) = false ∧ s.on (fLANE_CHK_STATUS_SYNC m) = false) ∧
    (∃ (s : State) (m : Nat) (v : Word),
      s.pow.hubOn = true ∧ domOn s 12 = true ∧ m < 8 ∧ bitAt v.toNat 0 = false ∧ bitAt v.toNat 4 = false ∧ bitAt v.toNat 5 = false ∧ bitsOf v.toNat 1 3 ≤ 4) ∧
    (∃ (s : State) (m : Nat) (v : Word),
      s.pow.hubOn = true ∧ domOn s 12 = true ∧ m < 8 ∧ bitAt v.toNat 0 = true ∧ bitAt v.toNat 4 = true ∧ bitAt v.toNat 5 = false ∧ bitsOf v.toNat 1 3 ≤ 4 ∧ s.on (fLANE_CTRL_FABRIC_EN m) = false) ∧
    (∃ (s : State) (m : Nat) (v : Word),
      s.pow.hubOn = true ∧ domOn s 12 = true ∧ m < 8 ∧ bitAt v.toNat 0 = true ∧ bitAt v.toNat 4 = true ∧ bitAt v.toNat 5 = true ∧ bitsOf v.toNat 1 3 ≤ 4 ∧ s.on (fLANE_CTRL_FABRIC_EN m) = false ∧ s.on (fLANE_CHK_STATUS_SYNC m) = true ∧ laneOn s m false = true) ∧
    (∃ (s : State) (m : Nat),
      s.pow.hubOn = true ∧ domOn s 12 = true ∧ m < 8 ∧ s.on (fLANE_PATCHK_EN m) = true ∧ laneOn s m false = true) ∧
    (∃ (s : State) (m : Nat),
      s.pow.hubOn = true ∧ domOn s 12 = true ∧ m < 8 ∧ s.on (fLANE_CHK_STATUS_SYNC m) = true) ∧
    (∃ (s : State) (m : Nat) (v : Word),
      s.pow.hubOn = true ∧ domOn s 12 = true ∧ m < 8 ∧ bitAt v.toNat 0 = true ∧ 10 ≤ bitsOf v.toNat 2 6 ∧ bitsOf v.toNat 2 6 ≤ 40 ∧ laneOn s m true = true) ∧
    (∃ (s : State) (m : Nat) (v : Word),
      s.pow.hubOn = true ∧ domOn s 12 = true ∧ m < 8 ∧ (bitsOf v.toNat 2 6 < 10 ∨ 40 < bitsOf v.toNat 2 6)) ∧
    (∃ (s : State) (m : Nat),
      s.pow.hubOn = true ∧ domOn s 12 = true ∧ m < 8 ∧ s.on (fLANE_INJECT_RATE_EN m) = true ∧ laneOn s m true = true) ∧
    (∃ (s : State) (m : Nat) (v : Word),
      s.pow.hubOn = true ∧ domOn s 12 = true ∧ m < 8 ∧ s.on (fLANE_CTRL_FABRIC_EN m) = false ∧ bitsOf v.toNat 0 2 = 1 ∧ s.fv (fLANE_LOOPBACK_MODE m) ≠ 1 ∧ laneOn s m false = true ∧ s.on (fLANE_STATUS_SIGNAL m) = true) ∧
    (∃ (s : State) (m : Nat) (v : Word),
      s.pow.hubOn = true ∧ domOn s 12 = true ∧ m < 8 ∧ s.on (fLANE_CTRL_FABRIC_EN m) = true ∧ bitsOf v.toNat 0 2 ≠ 0) :=
  ⟨⟨(laneBase [(fLANE_CTRL_FABRIC_EN 7, 1)] {}), 7, 1#32, by decide +kernel⟩,
   ⟨(laneBase [] {}), 7, 9#32, by decide +kernel⟩,
   ⟨(laneBase [] {}), 7, 10#32, by decide +kernel⟩,
   ⟨(laneBase [] {}), 7, 9#32, by decide +kernel⟩,
   ⟨(laneBase [(fLANE_PATCHK_EN 7, 1)] {}), 7, 8#32, by decide +kernel⟩,
   ⟨(laneBase [] { bits := 5 }), 7, 0x11#32, by decide +kernel⟩,
   ⟨(laneBase [(fLANE_CTRL_EN 7, 1), (fLANE_CHK_STATUS_SYNC 7, 1)] { pll := true, bits := 0xFFFFFFFFFFFF, sym := 4 }), 7, 0x31#32, by decide +kernel⟩,
   ⟨(laneBase [(fLANE_CTRL_EN 7, 1), (fLANE_PATCHK_EN 7, 1)] { pll := true }), 7, by decide +kernel⟩,
   ⟨(laneBase [(fLANE_CHK_STATUS_SYNC 7, 1), (fLANE_CHK_STATUS_SYNC_LOSS 7, 0xFFFF)] {}), 7, by decide +kernel⟩,
   ⟨(laneBase [(fLANE_CTRL_EN 7, 1), (fLANE_CTRL_FABRIC_EN 7, 1)] { pll := true }), 7, 0x29#32, by decide +kernel⟩,
   ⟨(laneBase [] {}), 7, 0x25#32, by decide +kernel⟩,
   ⟨(laneBase [(fLANE_CTRL_EN 7, 1), (fLANE_INJECT_RATE_EN 7, 1)] { pll := true }), 7, by decide +kernel⟩,
   ⟨(laneBase [(fLANE_CTRL_EN 7, 1), (fLANE_STATUS_SIGNAL 7, 1), (fLANE_STATUS_CDR_LOCK 7, 1)] { pll := true }), 7, 0x11#32, by decide +kernel⟩,
   ⟨(laneBase [(fLANE_CTRL_FABRIC_EN 7, 1)] {}), 7, 3#32, by decide +kernel⟩⟩

theorem witness_FabricPorts :
    (∃ (s : State) (v : Word),
      s.pow.hubOn = true ∧ domOn s 12 = true ∧ s.on fFABRIC_CFG_EN = false ∧ bitAt v.toNat 2 = true ∧ bitsOf v.toNat 0 2 ≠ 3 ∧ bitsOf v.toNat 16 7 ≤ 64) ∧
    (∃ (s : State) (v : Word),
      s.pow.hubOn = true ∧ domOn s 12 = true ∧ (bitsOf v.toNat 0 2 = 3 ∨ 64 < bitsOf v.toNat 16 7)) ∧
    (∃ (s : State) (v : Word),
      s.pow.hubOn = true ∧ domOn s 12 = true ∧ s.on fFABRIC_CFG_EN = true ∧ bitAt v.toNat 2 = true ∧ bitsOf v.toNat 0 2 ≠ 3 ∧ bitsOf v.toNat 16 7 ≤ 64 ∧ bitsOf v.toNat 8 8 ≠ s.fv fFABRIC_CFG_PRIORITY) ∧
    (∃ (s : State) (v : Word),
      s.pow.hubOn = true ∧ domOn s 12 = true ∧ s.on fFABRIC_CFG_EN = true ∧ bitAt v.toNat 2 = false ∧ bitsOf v.toNat 0 2 ≠ 3 ∧ bitsOf v.toNat 16 7 ≤ 64) ∧
    (∃ (s : State) (k : Nat),
      s.pow.hubOn = true ∧ domOn s 12 = true ∧ k < 4 ∧ portSt s k = 1 ∧ healthyGroup s k ≠ []) ∧
    (∃ (s : State) (k : Nat),
      s.pow.hubOn = true ∧ domOn s 12 = true ∧ k < 4 ∧ portSt s k = 1 ∧ (fabPort s k).since + 50000000 ≤ s.now) ∧
    (∃ (s : State) (k : Nat) (m : Nat) (u : Nat),
      s.pow.hubOn = true ∧ domOn s 12 = true ∧ k < 4 ∧ portUp s k = true ∧ m ∈ (fabPort s k).lanes ∧ (laneOf s m).unlockedAt = some u ∧ u + 1000000 < s.now) ∧
    (∃ (s : State) (k : Nat),
      s.pow.hubOn = true ∧ domOn s 12 = true ∧ k < 4 ∧ portTalks s k = true ∧ (fabPort s k).sentAt = none ∧ (fabPort s k).waiting = [] ∧ portAwake s k = true ∧ (fabPort s k).asleep = 0 ∧ (fabPort s k).store = []) ∧
    (∃ (s : State) (k : Nat),
      s.pow.hubOn = true ∧ domOn s 12 = true ∧ k < 4 ∧ portTalks s k = true) ∧
    (∃ (s : State) (k : Nat) (h : Hello),
      s.pow.hubOn = true ∧ domOn s 12 = true ∧ k < 4 ∧ portSt s k = 2 ∧ (fabPort s k).authStep = 4 ∧ 4 ≤ h.step) ∧
    (∃ (s : State) (k : Nat),
      s.pow.hubOn = true ∧ domOn s 12 = true ∧ k < 4 ∧ portTalks s k = true ∧ (fabPort s k).helloAt + 3000000 ≤ s.now) ∧
    (∃ (s : State) (k : Nat) (m : AuthMsg) (step : Nat),
      s.pow.hubOn = true ∧ domOn s 12 = true ∧ k < 4 ∧ portSt s k = 2 ∧ authCheck s k m = (step, 0) ∧ step = (fabPort s k).authStep + 1 ∧ step < 4) ∧
    (∃ (s : State) (k : Nat) (m : AuthMsg) (step : Nat) (reason : Nat),
      s.pow.hubOn = true ∧ domOn s 12 = true ∧ k < 4 ∧ portSt s k = 2 ∧ authCheck s k m = (step, reason) ∧ reason ≠ 0 ∧ reason < 16 ∧ step = (fabPort s k).authStep + 1) ∧
    (∃ (s : State) (k : Nat) (h : Hello),
      s.pow.hubOn = true ∧ domOn s 12 = true ∧ k < 4 ∧ portSt s k = 2 ∧ (fabPort s k).authStep = 3 ∧ (fabPort s k).hello = some h ∧ 4 ≤ h.step) ∧
    (∃ (s : State) (k : Nat),
      s.pow.hubOn = true ∧ domOn s 12 = true ∧ k < 4 ∧ portSt s k = 2 ∧ (fabPort s k).since + 100000000 < s.now) ∧
    (∃ (s : State) (k : Nat),
      s.pow.hubOn = true ∧ domOn s 12 = true ∧ k < 4 ∧ portSt s k = 4 ∧ (fabPort s k).since + 1000000000 ≤ s.now) :=
  ⟨⟨(fabBase [] {}), 0x40FF04#32, by decide +kernel⟩,
   ⟨(fabBase [] {}), 0x410007#32, by decide +kernel⟩,
   ⟨(fabBase [(fFABRIC_CFG_EN, 1)] {}), (0x100#32 + 4#32), by decide +kernel⟩,
   ⟨(fabBase [(fFABRIC_CFG_EN, 1), (fFABRIC_PORT_STATUS_STATE 3, 3)] {}), 0#32, by decide +kernel⟩,
   ⟨({ fabBase ([(fFABRIC_PORT_STATUS_STATE 3, 1)] ++ lanesUp) {} with lane := [(6, { pll := true }), (7, { pll := true })] }), 3, by decide +kernel⟩,
   ⟨({ fabBase [(fFABRIC_PORT_STATUS_STATE 3, 1)] {} with now := 50000000 }), 3, by decide +kernel⟩,
   ⟨({ fabBase [(fFABRIC_PORT_STATUS_STATE 3, 3)] { lanes := [7] } with now := 1000001, lane := [(7, { unlockedAt := some 0 })] }), 3, 7, 0, by decide +kernel⟩,
   ⟨(fabBase [(fFABRIC_PORT_STATUS_STATE 3, 3)] { seq := 4095 }), 3, by decide +kernel⟩,
   ⟨(fabBase [(fFABRIC_PORT_STATUS_STATE 3, 3)] {}), 3, by decide +kernel⟩,
   ⟨(fabBase [(fFABRIC_PORT_STATUS_STATE 3, 2)] { authStep := 4 }), 3, helloA, by decide +kernel⟩,
   ⟨({ fabBase [(fFABRIC_PORT_STATUS_STATE 3, 3)] {} with now := 3000000 }), 3, by decide +kernel⟩,
   ⟨(fabBase [(fFABRIC_PORT_STATUS_STATE 3, 2)] {}), 3, (.start 1 77), 1, by decide +kernel⟩,
   ⟨(fabBase [(fFABRIC_PORT_STATUS_STATE 3, 2)] {}), 3, (.start 2 77), 1, 5, by decide +kernel⟩,
   ⟨(fabBase [(fFABRIC_PORT_STATUS_STATE 3, 2)] { authStep := 3, hello := some helloA }), 3, helloA, by decide +kernel⟩,
   ⟨({ fabBase [(fFABRIC_PORT_STATUS_STATE 3, 2)] {} with now := 100000001 }), 3, by decide +kernel⟩,
   ⟨({ fabBase [(fFABRIC_PORT_STATUS_STATE 3, 4)] {} with now := 1000000000 }), 3, by decide +kernel⟩⟩

theorem witness_FabricLinkAndElection :
    (∃ (s : State) (k : Nat) (fseq : Nat),
      s.pow.hubOn = true ∧ domOn s 12 = true ∧ k < 4 ∧ portTalks s k = true ∧ fseq = (fabPort s k).expect) ∧
    (∃ (s : State) (k : Nat) (fseq : Nat),
      s.pow.hubOn = true ∧ domOn s 12 = true ∧ k < 4 ∧ portTalks s k = true ∧ fseq ≠ (fabPort s k).expect ∧ (fabPort s k).gap = false) ∧
    (∃ (s : State) (k : Nat) (fseq : Nat),
      s.pow.hubOn = true ∧ domOn s 12 = true ∧ k < 4 ∧ portTalks s k = true ∧ fseq ≠ (fabPort s k).expect ∧ (fabPort s k).gap = true) ∧
    (∃ (s : State) (k : Nat),
      s.pow.hubOn = true ∧ domOn s 12 = true ∧ k < 4 ∧ portTalks s k = true) ∧
    (∃ (s : State) (k : Nat),
      s.pow.hubOn = true ∧ domOn s 12 = true ∧ k < 4 ∧ portTalks s k = true ∧ 16 ≤ (fabPort s k).unacked) ∧
    (∃ (s : State) (k : Nat),
      s.pow.hubOn = true ∧ domOn s 12 = true ∧ k < 4 ∧ portTalks s k = true ∧ (fabPort s k).unacked = 1 ∧ (fabPort s k).unackedAt + 1000 ≤ s.now) ∧
    (∃ (s : State) (k : Nat) (fseq : Nat) (pre : List (Nat × FabMsg)) (m : FabMsg) (post : List (Nat × FabMsg)),
      s.pow.hubOn = true ∧ domOn s 12 = true ∧ k < 4 ∧ (fabPort s k).waiting = [] ∧ (fabPort s k).store = pre ++ [(fseq, m)] ++ post ∧ ((∀ x ∈ pre, x.1 ≠ fseq))) ∧
    (∃ (s : State) (k : Nat) (fseq : Nat) (pre : List (Nat × FabMsg)) (m : FabMsg) (post : List (Nat × FabMsg)),
      s.pow.hubOn = true ∧ domOn s 12 = true ∧ k < 4 ∧ (fabPort s k).naks < 7 ∧ (fabPort s k).store = pre ++ [(fseq, m)] ++ post ∧ ((∀ x ∈ pre, x.1 ≠ fseq))) ∧
    (∃ (s : State) (k : Nat) (fseq : Nat),
      s.pow.hubOn = true ∧ domOn s 12 = true ∧ k < 4 ∧ portSt s k ≠ 0 ∧ 7 ≤ (fabPort s k).naks ∧ (fabPort s k).store.any (fun f => f.1 == fseq) = true) ∧
    (∃ (s : State) (k : Nat),
      s.pow.hubOn = true ∧ domOn s 12 = true ∧ k < 4 ∧ portTalks s k = true ∧ (fabPort s k).store ≠ [] ∧ (fabPort s k).ackAt + 1000000 ≤ s.now) ∧
    (∃ (s : State),
      s.pow.hubOn = true ∧ domOn s 12 = true ∧ s.on fFABRIC_CFG_EN = true ∧ s.fabric.stable = false ∧ s.fabric.rootAt + 10000000 ≤ s.now ∧ bestKey s = ownKey s ∧ ownKey s = (s.fabric.rootPrio, s.pair rFABRIC_ROOT_SERIAL_LO rFABRIC_ROOT_SERIAL_HI) ∧ s.on fFABRIC_STATUS_ID_VALID = false ∧ s.fv fFABRIC_CFG_ID_REQ < 64 ∧ idHeld s (serialOf s) (s.fv fFABRIC_CFG_ID_REQ) = false) ∧
    (∃ (s : State) (j : Nat),
      s.pow.hubOn = true ∧ domOn s 12 = true ∧ s.on fFABRIC_CFG_EN = true ∧ s.fabric.stable = false ∧ s.fabric.rootAt + 10000000 ≤ s.now ∧ bestKey s ≠ ownKey s ∧ s.on fFABRIC_STATUS_ID_VALID = false ∧ portUp s j = true) ∧
    (∃ (s : State) (k : Nat) (j : Nat) (serial : Nat) (seq : Nat),
      s.pow.hubOn = true ∧ domOn s 12 = true ∧ k < 4 ∧ portUp s k = true ∧ s.fabric.seen.contains (2 * serial, seq) = false ∧ s.on fFABRIC_STATUS_IS_ROOT = false ∧ portUp s j = true ∧ j ≠ k) ∧
    (∃ (s : State) (k : Nat) (j : Nat) (serial : Nat) (seq : Nat) (req : Nat) (d : Nat),
      s.pow.hubOn = true ∧ domOn s 12 = true ∧ k < 4 ∧ portUp s k = true ∧ s.fabric.seen.contains (2 * serial, seq) = false ∧ s.on fFABRIC_STATUS_IS_ROOT = true ∧ serial ≠ serialOf s ∧ grantFor s serial req = some d ∧ portUp s j = true) ∧
    (∃ (s : State) (k : Nat) (serial : Nat) (seq : Nat),
      s.pow.hubOn = true ∧ domOn s 12 = true ∧ k < 4 ∧ s.fabric.seen.contains (2 * serial, seq) = true) ∧
    (∃ (s : State) (k : Nat) (root : Nat) (seq : Nat) (d : Nat),
      s.pow.hubOn = true ∧ domOn s 12 = true ∧ k < 4 ∧ portUp s k = true ∧ s.fabric.seen.contains (2 * root + 1, seq) = false ∧ s.on fFABRIC_STATUS_ID_VALID = false ∧ d < 64 ∧ s.on fFABRIC_CFG_ID_STRICT = false) ∧
    (∃ (s : State) (k : Nat) (root : Nat) (seq : Nat) (d : Nat),
      s.pow.hubOn = true ∧ domOn s 12 = true ∧ k < 4 ∧ portUp s k = true ∧ s.fabric.seen.contains (2 * root + 1, seq) = false ∧ s.on fFABRIC_STATUS_ID_VALID = false ∧ d < 64 ∧ s.on fFABRIC_CFG_ID_STRICT = true ∧ s.fv fFABRIC_CFG_ID_REQ ≠ d) ∧
    (∃ (s : State) (k : Nat) (j : Nat) (root : Nat) (seq : Nat) (serial : Nat),
      s.pow.hubOn = true ∧ domOn s 12 = true ∧ k < 4 ∧ portUp s k = true ∧ s.fabric.seen.contains (2 * root + 1, seq) = false ∧ serial ≠ serialOf s ∧ portUp s j = true ∧ j ≠ k) :=
  ⟨⟨(fabBase [(fFABRIC_PORT_STATUS_STATE 3, 3)] { expect := 4095, gap := true }), 3, 4095, by decide +kernel⟩,
   ⟨(fabBase [(fFABRIC_PORT_STATUS_STATE 3, 3)] { expect := 4095 }), 3, 0, by decide +kernel⟩,
   ⟨(fabBase [(fFABRIC_PORT_STATUS_STATE 3, 3)] { expect := 4095, gap := true }), 3, 0, by decide +kernel⟩,
   ⟨(fabBase [(fFABRIC_PORT_STATUS_STATE 3, 2), (fFABRIC_CNT_A_FEC_UNCORR, 0xFFFF)] {}), 3, by decide +kernel⟩,
   ⟨(fabBase [(fFABRIC_PORT_STATUS_STATE 3, 2)] { unacked := 16 }), 3, by decide +kernel⟩,
   ⟨({ fabBase [(fFABRIC_PORT_STATUS_STATE 3, 2)] { unacked := 1 } with now := 1000 }), 3, by decide +kernel⟩,
   ⟨(fabBase [(fFABRIC_PORT_STATUS_STATE 3, 3)] { store := [(4095, .timeReq), (0, .timeReq), (1, .auth 1)], naks := 3 }), 3, 0, ([(4095, .timeReq)]), .timeReq, ([(1, .auth 1)]), by decide +kernel⟩,
   ⟨(fabBase [(fFABRIC_PORT_STATUS_STATE 3, 3)] { store := [(4095, .timeReq), (0, .timeReq), (1, .auth 1)], naks := 6 }), 3, 0, ([(4095, .timeReq)]), .timeReq, ([(1, .auth 1)]), by decide +kernel⟩,
   ⟨(fabBase [(fFABRIC_PORT_STATUS_STATE 3, 3)] { store := [(4095, .timeReq)], naks := 7 }), 3, 4095, by decide +kernel⟩,
   ⟨({ fabBase [(fFABRIC_PORT_STATUS_STATE 3, 3)] { store := [(4095, .timeReq)] } with now := 1000000 }), 3, by decide +kernel⟩,
   ⟨((fun s : State => { s with now := 10000000 }) (S [(fFABRIC_CFG_EN, 1), (fFABRIC_CFG_PRIORITY, 0), (fFABRIC_CFG_ID_REQ, 63), (fPWR_DOM_STATE 12, 0)])), by decide +kernel⟩,
   ⟨({ fabBase [(fFABRIC_CFG_EN, 1), (fFABRIC_CFG_PRIORITY, 0), (fFABRIC_PORT_STATUS_STATE 3, 3)] { hello := some helloA } with now := 10000000 }), 3, by decide +kernel⟩,
   ⟨(fabBase [(fFABRIC_PORT_STATUS_STATE 3, 3), (fFABRIC_PORT_STATUS_STATE 0, 3)] {}), 3, 0, 77, 1, by decide +kernel⟩,
   ⟨(fabBase [(fFABRIC_PORT_STATUS_STATE 3, 3), (fFABRIC_STATUS_IS_ROOT, 1)] {}), 3, 3, 77, 1, 63, 63, by decide +kernel⟩,
   ⟨({ fabBase [(fFABRIC_PORT_STATUS_STATE 3, 3)] {} with fabric := { seen := [(154, 1)] } }), 3, 77, 1, by decide +kernel⟩,
   ⟨(fabBase [(fFABRIC_PORT_STATUS_STATE 3, 3), (fFABRIC_CFG_EN, 1)] {}), 3, 77, 1, 63, by decide +kernel⟩,
   ⟨(fabBase [(fFABRIC_PORT_STATUS_STATE 3, 3), (fFABRIC_CFG_ID_STRICT, 1), (fFABRIC_CFG_ID_REQ, 64)] {}), 3, 77, 1, 63, by decide +kernel⟩,
   ⟨(fabBase [(fFABRIC_PORT_STATUS_STATE 3, 3), (fFABRIC_PORT_STATUS_STATE 0, 3)] {}), 3, 0, 77, 1, 78, by decide +kernel⟩⟩

theorem witness_FabricPacketsAndWindows :
    (∃ (s : State) (k : Nat) (j : Nat) (p : FabPacket),
      s.pow.hubOn = true ∧ domOn s 12 = true ∧ k < 4 ∧ portUp s k = true ∧ fabId s ≠ some p.dst ∧ p.hops ≠ 0 ∧ routePort s p.dst = some j) ∧
    (∃ (s : State) (k : Nat) (p : FabPacket),
      s.pow.hubOn = true ∧ domOn s 12 = true ∧ k < 4 ∧ portUp s k = true ∧ fabId s ≠ some p.dst ∧ p.hops ≠ 0 ∧ routePort s p.dst = none) ∧
    (∃ (s : State) (k : Nat) (p : FabPacket),
      s.pow.hubOn = true ∧ domOn s 12 = true ∧ k < 4 ∧ portUp s k = true ∧ fabId s ≠ some p.dst ∧ p.hops = 0) ∧
    (∃ (s : State) (k : Nat) (p : FabPacket) (w : Nat) (a : Nat) (j : Nat),
      s.pow.hubOn = true ∧ domOn s 12 = true ∧ k < 4 ∧ portUp s k = true ∧ fabId s = some p.dst ∧ p.typ = 1 ∧ winFor s p.addr p.len = some w ∧ srcAllowed s w p.src = true ∧ s.on (fFABRIC_IN_WIN_CTRL_WRITE_OK w) = true ∧ s.fv (fFABRIC_IN_WIN_CTRL_SPACE w) = 0 ∧ a = winTarget s w + (p.addr - winBase s w) ∧ a + p.len ≤ 2 ^ 34 ∧ lpRange s a p.len = true ∧ p.data.length = p.len ∧ routePort s p.src = some j) ∧
    (∃ (s : State) (k : Nat) (p : FabPacket) (w : Nat) (a : Nat) (j : Nat),
      s.pow.hubOn = true ∧ domOn s 12 = true ∧ k < 4 ∧ portUp s k = true ∧ fabId s = some p.dst ∧ p.typ = 2 ∧ winFor s p.addr p.len = some w ∧ srcAllowed s w p.src = true ∧ s.on (fFABRIC_IN_WIN_CTRL_READ_OK w) = true ∧ s.fv (fFABRIC_IN_WIN_CTRL_SPACE w) = 0 ∧ a = winTarget s w + (p.addr - winBase s w) ∧ a + p.len ≤ 2 ^ 34 ∧ lpRange s a p.len = true ∧ routePort s p.src = some j) ∧
    (∃ (s : State) (k : Nat) (p : FabPacket) (w : Nat) (a : Nat) (j : Nat),
      s.pow.hubOn = true ∧ domOn s 12 = true ∧ k < 4 ∧ portUp s k = true ∧ fabId s = some p.dst ∧ p.typ = 1 ∧ winFor s p.addr p.len = some w ∧ srcAllowed s w p.src = true ∧ s.on (fFABRIC_IN_WIN_CTRL_WRITE_OK w) = true ∧ s.fv (fFABRIC_IN_WIN_CTRL_SPACE w) = 0 ∧ a = winTarget s w + (p.addr - winBase s w) ∧ a + p.len ≤ 2 ^ 34 ∧ lpRange s a p.len = true ∧ routePort s p.src = some j) ∧
    (∃ (s : State) (k : Nat) (p : FabPacket) (w : Nat) (a : Nat) (j : Nat),
      s.pow.hubOn = true ∧ domOn s 12 = true ∧ k < 4 ∧ portUp s k = true ∧ fabId s = some p.dst ∧ p.typ = 1 ∧ winFor s p.addr p.len = some w ∧ srcAllowed s w p.src = true ∧ s.on (fFABRIC_IN_WIN_CTRL_WRITE_OK w) = true ∧ s.fv (fFABRIC_IN_WIN_CTRL_SPACE w) = 1 ∧ a = winTarget s w + (p.addr - winBase s w) ∧ domOn s 13 = true ∧ hostUp s = true ∧ p.poison = false ∧ p.data.length = p.len ∧ routePort s p.src = some j) ∧
    (∃ (s : State) (k : Nat) (p : FabPacket) (j : Nat),
      s.pow.hubOn = true ∧ domOn s 12 = true ∧ k < 4 ∧ portUp s k = true ∧ fabId s = some p.dst ∧ (p.typ = 1 ∨ p.typ = 2) ∧ winFor s p.addr p.len = none ∧ routePort s p.src = some j) ∧
    (∃ (s : State) (k : Nat) (p : FabPacket) (w : Nat) (j : Nat),
      s.pow.hubOn = true ∧ domOn s 12 = true ∧ k < 4 ∧ portUp s k = true ∧ fabId s = some p.dst ∧ (p.typ = 1 ∨ p.typ = 2) ∧ winFor s p.addr p.len = some w ∧ (srcAllowed s w p.src = false ∨ s.on (if p.typ = 1 then fFABRIC_IN_WIN_CTRL_WRITE_OK w else fFABRIC_IN_WIN_CTRL_READ_OK w) = false) ∧ routePort s p.src = some j) ∧
    (∃ (s : State) (k : Nat) (p : FabPacket) (r : FabReq),
      s.pow.hubOn = true ∧ domOn s 12 = true ∧ k < 4 ∧ portUp s k = true ∧ fabId s = some p.dst ∧ (p.typ = 8 ∨ p.typ = 9) ∧ kget p.tag s.fabric.reqs = some r ∧ r.pkt.dst = p.src ∧ (p.typ = 9 ↔ r.pkt.typ = 1)) ∧
    (∃ (s : State) (k : Nat) (p : FabPacket),
      s.pow.hubOn = true ∧ domOn s 12 = true ∧ k < 4 ∧ portUp s k = true ∧ fabId s = some p.dst ∧ (p.typ = 8 ∨ p.typ = 9) ∧ kget p.tag s.fabric.reqs = none) ∧
    (∃ (s : State) (tag : Nat) (r : FabReq),
      s.pow.hubOn = true ∧ domOn s 12 = true ∧ kget tag s.fabric.reqs = some r ∧ r.sentAt + s.fv fFABRIC_TIMING_TIMEOUT_US * 1000 ≤ s.now) ∧
    (∃ (s : State) (w : Nat) (v : Word),
      s.pow.hubOn = true ∧ domOn s 12 = true ∧ w < 64 ∧ bitsOf v.toNat 1 2 < 2 ∧ winEn s w = false ∧ bitAt v.toNat 0 = true ∧ winRefused s w (bitsOf v.toNat 1 2) = false) ∧
    (∃ (s : State) (w : Nat) (v : Word),
      s.pow.hubOn = true ∧ domOn s 12 = true ∧ w < 64 ∧ bitsOf v.toNat 1 2 < 2 ∧ winEn s w = false ∧ bitAt v.toNat 0 = true ∧ winRefused s w (bitsOf v.toNat 1 2) = true) ∧
    (∃ (s : State) (w : Nat) (v : Word),
      s.pow.hubOn = true ∧ domOn s 12 = true ∧ w < 64 ∧ bitsOf v.toNat 1 2 < 2 ∧ winEn s w = true ∧ bitAt v.toNat 0 = false ∧ bitsOf v.toNat 1 5 = bitsOf (s.rn (rFABRIC_IN_WIN_CTRL w)) 1 5) ∧
    (∃ (s : State) (w : Nat) (v : Word),
      s.pow.hubOn = true ∧ domOn s 12 = true ∧ w < 64 ∧ bitsOf v.toNat 1 2 < 2 ∧ winEn s w = true ∧ bitAt v.toNat 0 = true ∧ bitsOf v.toNat 1 5 ≠ bitsOf (s.rn (rFABRIC_IN_WIN_CTRL w)) 1 5) ∧
    (∃ (s : State) (st : Nat) (b : List Byte),
      s.pow.hubOn = true ∧ domOn s 12 = true ∧ st < 132 ∧ peerStream s st = true ∧ blockOk b = true ∧ (peerOf s st).valid = false) ∧
    (∃ (s : State) (st : Nat) (b : List Byte),
      s.pow.hubOn = true ∧ domOn s 12 = true ∧ st < 132 ∧ peerStream s st = true ∧ blockOk b = true ∧ (peerOf s st).valid = true ∧ (peerOf s st).waiting ≠ 0) ∧
    (∃ (s : State) (st : Nat) (b : List Byte),
      s.pow.hubOn = true ∧ domOn s 12 = true ∧ st < 132 ∧ peerStream s st = true ∧ blockOk b = false ∧ (peerOf s st).valid = false) ∧
    (∃ (s : State) (k : Nat),
      s.pow.hubOn = true ∧ domOn s 12 = true ∧ parentPort s = some k ∧ portUp s k = true ∧ s.fabric.syncAt + s.fv fFABRIC_TIMING_SYNC_PERIOD_US * 1000 ≤ s.now) ∧
    (∃ (s : State) (k : Nat),
      s.pow.hubOn = true ∧ domOn s 12 = true ∧ k < 4 ∧ portUp s k = true ∧ s.on fFABRIC_STATUS_IS_ROOT = true) ∧
    (∃ (s : State) (k : Nat) (t1 : Nat) (t2 : Nat) (t3 : Nat) (n : Int),
      s.pow.hubOn = true ∧ domOn s 12 = true ∧ k < 4 ∧ s.fabric.t1 = some t1 ∧ parentPort s = some k ∧ 0 ≤ (Int.ofNat s.dial - Int.ofNat t1) - (Int.ofNat t3 - Int.ofNat t2) ∧ (Int.ofNat s.dial - Int.ofNat t1) - (Int.ofNat t3 - Int.ofNat t2) ≤ 2000 ∧ (fabPort s k).replayed = false ∧ ((Int.ofNat t2 - Int.ofNat t1) - (Int.ofNat s.dial - Int.ofNat t3)) * 1000 - signedOf 16 (s.fv (fFABRIC_PORT_ASYM_PS k)) = 2000 * n) ∧
    (∃ (s : State) (k : Nat) (t1 : Nat) (t2 : Nat) (t3 : Nat),
      s.pow.hubOn = true ∧ domOn s 12 = true ∧ k < 4 ∧ s.fabric.t1 = some t1 ∧ parentPort s = some k ∧ 2000 < (Int.ofNat s.dial - Int.ofNat t1) - (Int.ofNat t3 - Int.ofNat t2)) ∧
    (∃ (s : State) (k : Nat),
      s.pow.hubOn = true ∧ domOn s 12 = true ∧ k < 4 ∧ portUp s k = true ∧ (fabPort s k).waiting = [] ∧ (fabPort s k).asleep = 0 ∧ s.on (fFABRIC_PORT_CTRL_SLEEP_EN k) = true ∧ s.on (fFABRIC_PORT_CTRL_DEEP_EN k) = false ∧ (fabPort s k).dataAt + s.fv (fFABRIC_PORT_CTRL_IDLE_US k) * 1000 ≤ s.now) ∧
    (∃ (s : State) (k : Nat) (st : Nat),
      s.pow.hubOn = true ∧ domOn s 12 = true ∧ k < 4 ∧ portUp s k = true ∧ (st = 2 ∨ st = 3)) ∧
    (∃ (s : State) (k : Nat),
      s.pow.hubOn = true ∧ domOn s 12 = true ∧ k < 4 ∧ (fabPort s k).asleep ≠ 0 ∧ (fabPort s k).waiting ≠ []) :=
  ⟨⟨(winBaseS [] {}), 3, 3, (pktOf 1 62 0 1 []), by decide +kernel⟩,
   ⟨(winBaseS [] {}), 3, (pktOf 1 61 0 1 []), by decide +kernel⟩,
   ⟨(winBaseS [] {}), 3, (pktOf 2 61 0 0 []), by decide +kernel⟩,
   ⟨(winBaseS [(fFABRIC_IN_WIN_CTRL_WRITE_OK 63, 1), (fFABRIC_IN_WIN_CTRL_DOORBELL 63, 1)] {}), 3, (pktOf 1 63 2 0 [5, 6]), 63, 0x1FFE, 3, by decide +kernel⟩,
   ⟨(winBaseS [(fFABRIC_IN_WIN_CTRL_READ_OK 63, 1)] {}), 3, (pktOf 2 63 2 0 []), 63, 0x1FFE, 3, by decide +kernel⟩,
   ⟨(winBaseS [] {}), 3, (pktOf 1 63 2 0 [5, 6]), 63, 0x1FFE, 3, by decide +kernel⟩,
   ⟨((fun s : State => { s with pcie := { cfg := [(4, 4#32)] } }) (winBaseS [(fFABRIC_IN_WIN_CTRL_SPACE 63, 1), (fPWR_DOM_STATE 13, 0), (fPCIE_LINK_STATUS_DL_ACTIVE, 1)] {})), 3, (pktOf 1 63 2 0 [5, 6]), 63, 0x1FFE, 3, by decide +kernel⟩,
   ⟨(winBaseS [] {}), 3, (pktOf 1 63 3 0 [5, 6, 7]), 3, by decide +kernel⟩,
   ⟨(winBaseS [(fFABRIC_IN_WIN_CTRL_WRITE_OK 63, 0)] {}), 3, (pktOf 1 63 2 0 [5, 6]), 63, 3, by decide +kernel⟩,
   ⟨({ winBaseS [] {} with fabric := { port := [(3, {})], reqs := [(65535, reqOf)] } }), 3, (pktOf 9 63 0 0 []), reqOf, by decide +kernel⟩,
   ⟨(winBaseS [] {}), 3, (pktOf 9 63 0 0 []), by decide +kernel⟩,
   ⟨({ winBaseS [] {} with now := 16383000, fabric := { reqs := [(65535, reqOf)] } }), 65535, reqOf, by decide +kernel⟩,
   ⟨(fabBase [(⟨rFABRIC_IN_WIN_LIMIT_LO 63, 0, 32⟩, 0xFFF), (fPWR_DOM_STATE 10, 0)] {}), 63, 0x39#32, by decide +kernel⟩,
   ⟨(winBaseS [(⟨rFABRIC_IN_WIN_LIMIT_LO 62, 0, 32⟩, 0xFFF)] {}), 62, 1#32, by decide +kernel⟩,
   ⟨(winBaseS [] {}), 63, 0x18#32, by decide +kernel⟩,
   ⟨(winBaseS [] {}), 63, 9#32, by decide +kernel⟩,
   ⟨(peerBase [] {}), 127, blockA, by decide +kernel⟩,
   ⟨(peerBase [] { valid := true, tail := 1 }), 127, blockA, by decide +kernel⟩,
   ⟨(peerBase [] {}), 127, [], by decide +kernel⟩,
   ⟨({ fabBase [(fFABRIC_PORT_STATUS_STATE 3, 3), (fFABRIC_PORT_STATUS_PARENT 3, 1)] {} with now := 16383000 }), 3, by decide +kernel⟩,
   ⟨(fabBase [(fFABRIC_PORT_STATUS_STATE 3, 3), (fFABRIC_STATUS_IS_ROOT, 1)] {}), 3, by decide +kernel⟩,
   ⟨({ fabBase [(fFABRIC_PORT_STATUS_STATE 3, 3), (fFABRIC_PORT_STATUS_PARENT 3, 1)] {} with fabric := { t1 := some 0 }, regu := { dial := 2000 } }), 3, 0, 1000, 1000, 0, by decide +kernel⟩,
   ⟨({ fabBase [(fFABRIC_PORT_STATUS_STATE 3, 3), (fFABRIC_PORT_STATUS_PARENT 3, 1)] {} with fabric := { t1 := some 0 }, regu := { dial := 2001 } }), 3, 0, 1000, 1000, by decide +kernel⟩,
   ⟨({ fabBase [(fFABRIC_PORT_STATUS_STATE 3, 3), (fFABRIC_PORT_CTRL_SLEEP_EN 3, 1)] { lanes := [7] } with now := 1023000 }), 3, by decide +kernel⟩,
   ⟨(fabBase [(fFABRIC_PORT_STATUS_STATE 3, 3)] { lanes := [7] }), 3, 3, by decide +kernel⟩,
   ⟨(fabBase [(fFABRIC_PORT_STATUS_STATE 3, 3)] { lanes := [7], asleep := 3, waiting := [.timeReq] }), 3, by decide +kernel⟩⟩

theorem witness_HoistInstructions :
    (∃ (s : State) (c : Nat) (v : Word),
      s.pow.hubOn = true ∧ 192 ≤ c ∧ c < 256 ∧ bitsOf v.toNat 8 6 ≤ 47 ∧ bitAt v.toNat 0 = true ∧ bitAt v.toNat 1 = false ∧ hActive s c = false) ∧
    (∃ (s : State) (c : Nat) (v : Word),
      s.pow.hubOn = true ∧ 192 ≤ c ∧ c < 256 ∧ bitsOf v.toNat 8 6 ≤ 47 ∧ bitAt v.toNat 0 = true ∧ bitAt v.toNat 1 = false ∧ hActive s c = true) ∧
    (∃ (s : State) (c : Nat),
      s.pow.hubOn = true ∧ c < 192) ∧
    (∃ (s : State) (c : Nat) (v : Word),
      s.pow.hubOn = true ∧ 192 ≤ c ∧ c < 256 ∧ 47 < bitsOf v.toNat 8 6) ∧
    (∃ (s : State) (c : Nat) (v : Word),
      s.pow.hubOn = true ∧ 192 ≤ c ∧ c < 256 ∧ bitsOf v.toNat 8 6 ≤ 47 ∧ bitAt v.toNat 0 = false ∧ bitAt v.toNat 1 = true ∧ hActive s c = true) ∧
    (∃ (s : State) (c : Nat),
      s.pow.hubOn = true ∧ c < 256 ∧ (hchan s c).stopping = true ∧ (hchan s c).ops = []) ∧
    (∃ (s : State) (c : Nat) (a : Nat) (b : Nat),
      s.pow.hubOn = true ∧ HoistAt s c 0 a b ∧ bitAt a 4 = false) ∧
    (∃ (s : State) (c : Nat) (a : Nat) (b : Nat),
      s.pow.hubOn = true ∧ HoistAt s c 0 a b ∧ bitAt a 4 = true ∧ writesDone s c = true) ∧
    (∃ (s : State) (c : Nat) (a : Nat) (b : Nat) (m : HoistMove),
      s.pow.hubOn = true ∧ HoistAt s c 1 a b ∧ m = { w0 := a, len := if bitAt a 16 then hX s c (bitsOf a 17 3) else bitsOf b 0 32, src := hX s c (bitsOf a 8 3), dst := hX s c (bitsOf a 11 3) } ∧ m.len < 2 ^ 32 ∧ moveMisaligned m = false ∧ moveOverlap s c m = false ∧ spaceUse s c (moveSrc m) (movePeer m) m.src m.len false = .fine ∧ spaceUse s c (moveDst m) (movePeer m) m.dst m.len true = .fine ∧ m.len ≠ 0) ∧
    (∃ (s : State) (c : Nat) (a : Nat) (b : Nat),
      s.pow.hubOn = true ∧ HoistAt s c 1 a b ∧ bitAt a 16 = false ∧ bitsOf b 0 32 % 64 ≠ 0) ∧
    (∃ (s : State) (c : Nat) (a : Nat) (b : Nat) (m : HoistMove),
      s.pow.hubOn = true ∧ HoistAt s c 1 a b ∧ m = { w0 := a, len := bitsOf b 0 32, src := hX s c (bitsOf a 8 3), dst := hX s c (bitsOf a 11 3) } ∧ bitAt a 16 = false ∧ moveMisaligned m = false ∧ moveOverlap s c m = true) ∧
    (∃ (s : State) (c : Nat) (a : Nat) (b : Nat),
      s.pow.hubOn = true ∧ HoistAt s c 2 a b ∧ bitAt a 13 = true) ∧
    (∃ (s : State) (c : Nat) (a : Nat) (b : Nat) (n : Nat),
      s.pow.hubOn = true ∧ HoistAt s c 2 a b ∧ bitAt a 13 = false ∧ hX s c (bitsOf a 4 3) = n + 2) ∧
    (∃ (s : State) (c : Nat) (a : Nat) (b : Nat),
      s.pow.hubOn = true ∧ HoistAt s c 2 a b ∧ bitAt a 13 = false ∧ hX s c (bitsOf a 4 3) = 0) ∧
    (∃ (s : State) (c : Nat) (a : Nat) (b : Nat),
      s.pow.hubOn = true ∧ HoistAt s c 2 a b ∧ bitAt a 13 = false ∧ hX s c (bitsOf a 4 3) = 1 ∧ bitAt a 14 = false) ∧
    (∃ (s : State) (c : Nat) (a : Nat) (b : Nat),
      s.pow.hubOn = true ∧ HoistAt s c 3 a b ∧ 2 ≤ bitsOf a 4 2 ∧ waitTrue s c a b = true) ∧
    (∃ (s : State) (c : Nat) (a : Nat) (b : Nat),
      s.pow.hubOn = true ∧ HoistAt s c 3 a b ∧ 2 ≤ bitsOf a 4 2 ∧ waitTrue s c a b = false) ∧
    (∃ (s : State) (c : Nat) (a : Nat) (b : Nat),
      s.pow.hubOn = true ∧ HoistAt s c 3 a b ∧ bitsOf a 4 2 < 2 ∧ (hchan s c).lastWait ≠ some (hPc s c) ∧ waitTrue s c a b = true) ∧
    (∃ (s : State) (c : Nat) (a : Nat) (b : Nat),
      s.pow.hubOn = true ∧ HoistAt s c 3 a b ∧ bitsOf a 4 2 < 2 ∧ (hchan s c).lastWait = some (hPc s c) ∧ s.on (fHOIST_STATUS_PACE c) = true ∧ bitsOf b 32 32 < waitValue s a) ∧
    (∃ (s : State) (c : Nat) (a : Nat) (b : Nat),
      s.pow.hubOn = true ∧ HoistAt s c 3 a b ∧ bitsOf a 4 2 < 2 ∧ (hchan s c).lastWait = some (hPc s c) ∧ s.on (fHOIST_STATUS_PACE c) = true ∧ waitValue s a ≤ bitsOf b 32 32 ∧ waitTrue s c a b = false) ∧
    (∃ (s : State) (c : Nat) (a : Nat) (b : Nat),
      s.pow.hubOn = true ∧ HoistAt s c 4 a b ∧ bitAt a 4 = false ∧ writesDone s c = true) ∧
    (∃ (s : State) (c : Nat) (a : Nat) (b : Nat) (addr : Nat),
      s.pow.hubOn = true ∧ HoistAt s c 4 a b ∧ bitAt a 4 = true ∧ bitsOf a 6 2 = 1 ∧ addr = hX s c (bitsOf a 8 3) ∧ addr % 8 = 0 ∧ lpUse s addr 8 = .fine ∧ writesDone s c = true ∧ tagFree s c = true) ∧
    (∃ (s : State) (c : Nat) (a : Nat) (b : Nat),
      s.pow.hubOn = true ∧ HoistAt s c 4 a b ∧ bitAt a 4 = true ∧ hX s c (bitsOf a 8 3) % 8 ≠ 0) ∧
    (∃ (s : State) (c : Nat) (a : Nat) (b : Nat),
      s.pow.hubOn = true ∧ HoistAt s c 5 a b ∧ bitsOf a 7 2 = 0) ∧
    (∃ (s : State) (c : Nat) (a : Nat) (b : Nat),
      s.pow.hubOn = true ∧ HoistAt s c 5 a b ∧ bitsOf a 7 2 = 2 ∧ bitsOf a 20 4 = 4) ∧
    (∃ (s : State) (c : Nat) (a : Nat) (b : Nat) (addr : Nat),
      s.pow.hubOn = true ∧ HoistAt s c 5 a b ∧ bitsOf a 7 2 = 1 ∧ bitsOf a 9 2 = 1 ∧ addr = hX s c (bitsOf a 11 3) ∧ addr % 8 = 0 ∧ lpUse s addr 8 = .fine ∧ writesDone s c = true ∧ tagFree s c = true) ∧
    (∃ (s : State) (c : Nat) (a : Nat) (b : Nat),
      s.pow.hubOn = true ∧ HoistAt s c 6 a b ∧ bitAt a 10 = false) ∧
    (∃ (s : State) (c : Nat) (a : Nat) (b : Nat),
      s.pow.hubOn = true ∧ HoistAt s c 6 a b ∧ bitAt a 10 = true) ∧
    (∃ (s : State) (c : Nat),
      s.pow.hubOn = true ∧ c < 256 ∧ instrReady s c = true ∧ instrOk s c = false) ∧
    (∃ (s : State) (c : Nat),
      s.pow.hubOn = true ∧ c < 256 ∧ hState s c = 2 ∧ (hchan s c).stopping = false ∧ (hchan s c).move = none ∧ waitTrue s c (instr0 s c) (instr1 s c) = true) ∧
    (∃ (s : State) (c : Nat) (m : HoistMove),
      s.pow.hubOn = true ∧ c < 256 ∧ hState s c = 2 ∧ (hchan s c).stopping = false ∧ (hchan s c).move = some m ∧ m.stalled = true ∧ 0 < credit s m.dst) ∧
    (∃ (s : State) (c : Nat),
      s.pow.hubOn = true ∧ c < 256 ∧ hState s c = 2 ∧ 0 < s.fv (fHOIST_CFG_WAIT_LIMIT_MS c) ∧ (hchan s c).since + s.fv (fHOIST_CFG_WAIT_LIMIT_MS c) * 1000000 < s.now) :=
  ⟨⟨(S [(fHOIST_STATUS_STATE 255, 5), (⟨rHOIST_FAULT 255, 0, 32⟩, 9), (⟨rHOISTG_HALTED 7, 31, 1⟩, 1)]), 255, 0x2F01#32, by decide +kernel⟩,
   ⟨(hoistBase 0 0 [] {}), 255, 0x2F01#32, by decide +kernel⟩,
   ⟨(S []), 191, by decide +kernel⟩,
   ⟨(S []), 255, 0x3001#32, by decide +kernel⟩,
   ⟨(hoistBase 0 0 [] { retry := [⟨1, 0, 1, 0, 0, 8, 0, 1, [], false, 0, 0⟩] }), 255, 2#32, by decide +kernel⟩,
   ⟨(hoistBase 0 0 [] { stopping := true }), 255, by decide +kernel⟩,
   ⟨(hoistBase 0 0 [] {}), 255, 0, 0, by unfold HoistAt; decide +kernel⟩,
   ⟨(hoistBase 16 0 [] {}), 255, 16, 0, by unfold HoistAt; decide +kernel⟩,
   ⟨(hoistBase 15953 64 (xOf 7 0x2000) {}), 255, 15953, 64, ({ w0 := 15953, len := 64, src := 0, dst := 0x2000 }), by unfold HoistAt; decide +kernel⟩,
   ⟨(hoistBase 15953 63 [] {}), 255, 15953, 63, by unfold HoistAt; decide +kernel⟩,
   ⟨(hoistBase 15953 128 (xOf 7 0x40) {}), 255, 15953, 128, ({ w0 := 15953, len := 128, src := 0, dst := 0x40 }), by unfold HoistAt; decide +kernel⟩,
   ⟨(hoistBase 14194 0 [] {}), 255, 14194, 0, by unfold HoistAt; decide +kernel⟩,
   ⟨(hoistBase 6002 0 (xOf 7 0x100000000) {}), 255, 6002, 0, 4294967294, by unfold HoistAt; decide +kernel⟩,
   ⟨(hoistBase 6002 0 [] {}), 255, 6002, 0, by unfold HoistAt; decide +kernel⟩,
   ⟨(hoistBase 6002 0 (xOf 7 1) {}), 255, 6002, 0, by unfold HoistAt; decide +kernel⟩,
   ⟨(hoistBase 1835059 0 [] {}), 255, 1835059, 0, by unfold HoistAt; decide +kernel⟩,
   ⟨(hoistBase 1835059 0 (xOf 7 1) {}), 255, 1835059, 0, by unfold HoistAt; decide +kernel⟩,
   ⟨(withWords 2 (hoistBase 262083 4294967298 [] {})), 255, 262083, 4294967298, by unfold HoistAt; decide +kernel⟩,
   ⟨(withWords 2 (hoistBase 262083 4294967305 [(fHOIST_STATUS_PACE 255, 1)] { lastWait := some 47 })), 255, 262083, 4294967305, by unfold HoistAt; decide +kernel⟩,
   ⟨(withWords 2 (hoistBase 262083 8589934601 [(fHOIST_STATUS_PACE 255, 1)] { lastWait := some 47 })), 255, 262083, 8589934601, by unfold HoistAt; decide +kernel⟩,
   ⟨(hoistBase 36 0 [] {}), 255, 36, 0, by unfold HoistAt; decide +kernel⟩,
   ⟨(hoistBase 15988 0 (xOf 6 0x1FFFFFFF8 ++ xOf 7 0x1122334455667788) {}), 255, 15988, 0, 8589934584, by unfold HoistAt; decide +kernel⟩,
   ⟨(hoistBase 15988 0 (xOf 6 4) {}), 255, 15988, 0, by unfold HoistAt; decide +kernel⟩,
   ⟨(hoistBase 117 18446744073709551615 [] {}), 255, 117, 18446744073709551615, by unfold HoistAt; decide +kernel⟩,
   ⟨(hoistBase 4194677 0 [] {}), 255, 4194677, 0, by unfold HoistAt; decide +kernel⟩,
   ⟨(hoistBase 13045 0 (xOf 6 0x1FFFFFFF8) {}), 255, 13045, 0, 8589934584, by unfold HoistAt; decide +kernel⟩,
   ⟨(hoistBase 118 18446744073709551615 (xOf 7 1) {}), 255, 118, 18446744073709551615, by unfold HoistAt; decide +kernel⟩,
   ⟨(hoistBase 2038 0 (xOf 7 0x8000000000000001) {}), 255, 2038, 0, by unfold HoistAt; decide +kernel⟩,
   ⟨(hoistBase 7 0 [] {}), 255, by decide +kernel⟩,
   ⟨(hoistBase 1835059 0 ([(fHOIST_STATUS_STATE 255, 2)]) {}), 255, by decide +kernel⟩,
   ⟨(withWords 0 (hoistBase 0 0 [(fHOIST_STATUS_STATE 255, 2)] { move := some { w0 := 0, len := 64, src := 0, dst := 4095, stalled := true } })), 255, ({ w0 := 0, len := 64, src := 0, dst := 4095, stalled := true }), by decide +kernel⟩,
   ⟨({ hoistBase 0 0 [(fHOIST_STATUS_STATE 255, 2), (fHOIST_CFG_WAIT_LIMIT_MS 255, 1)] {} with now := 1000001 }), 255, by decide +kernel⟩⟩

theorem witness_HoistBeatsAndMovers :
    (∃ (s : State) (port : Nat) (c : Nat) (m : HoistMove),
      s.pow.hubOn = true ∧ port < 5 ∧ grantOf s port = some c ∧ (hchan s c).move = some m ∧ writePort (moveDst m) ≠ port ∧ port = 2 ∧ moveSrc m = 1) ∧
    (∃ (s : State) (c : Nat) (m : HoistMove) (bs : List Byte),
      s.pow.hubOn = true ∧ grantOf s 2 = some c ∧ (hchan s c).move = some m ∧ moveDst m = 1 ∧ moveSrc m ≠ 2 ∧ writeReady s c m = true ∧ m.part = [] ∧ kget m.written m.staged = some bs ∧ bs.length = 64 ∧ m.poisoned.contains m.written = false ∧ m.ended = false ∧ m.written + 64 < m.len ∧ m.len < 2 ^ 32) ∧
    (∃ (s : State) (c : Nat) (m : HoistMove) (bs : List Byte),
      s.pow.hubOn = true ∧ grantOf s 2 = some c ∧ (hchan s c).move = some m ∧ moveDst m = 1 ∧ moveSrc m ≠ 2 ∧ writeReady s c m = true ∧ m.part = [] ∧ kget m.written m.staged = some bs ∧ bs.length = 64 ∧ m.poisoned.contains m.written = false ∧ m.written + 64 = m.len ∧ m.len % 64 = 0 ∧ m.len < 2 ^ 32 ∧ bitAt m.w0 14 = false ∧ bitAt m.w0 15 = true) ∧
    (∃ (s : State) (port : Nat),
      s.pow.hubOn = true ∧ port < 5 ∧ grantOf s port = none) ∧
    (∃ (s : State) (tag : Nat) (c : Nat) (o : HoistOp) (d : Nat),
      s.pow.hubOn = true ∧ opOf s tag = some (c, o) ∧ c < 256 ∧ o.kind = 3 ∧ o.space = 1 ∧ (hchan s c).load = some d ∧ d < 8 ∧ o.len = 8) ∧
    (∃ (s : State) (tag : Nat) (c : Nat) (o : HoistOp) (m : HoistMove),
      s.pow.hubOn = true ∧ opOf s tag = some (c, o) ∧ c < 256 ∧ o.kind = 0 ∧ o.space = 1 ∧ (hchan s c).move = some m ∧ memBad s o.addr o.len = false) ∧
    (∃ (s : State) (tag : Nat) (c : Nat) (o : HoistOp),
      s.pow.hubOn = true ∧ opOf s tag = some (c, o) ∧ c < 256 ∧ isRead o = false ∧ o.space = 1) ∧
    (∃ (s : State) (tag : Nat) (c : Nat) (o : HoistOp),
      s.pow.hubOn = true ∧ opOf s tag = some (c, o) ∧ c < 256 ∧ o.space = 1 ∧ hActive s c = true ∧ (hchan s c).stopping = false ∧ o.attempts ≤ retries s c) ∧
    (∃ (s : State) (tag : Nat) (c : Nat) (o : HoistOp),
      s.pow.hubOn = true ∧ opOf s tag = some (c, o) ∧ c < 256 ∧ o.space = 1 ∧ hActive s c = true ∧ (hchan s c).stopping = false ∧ retries s c < o.attempts ∧ o.attempts < 16 ∧ o.addr < 2 ^ 64) ∧
    (∃ (s : State) (tag : Nat) (c : Nat) (o : HoistOp),
      s.pow.hubOn = true ∧ retryOf s tag = some (c, o) ∧ c < 256 ∧ o.since ≤ s.now ∧ tagFree s c = true ∧ o.space = 1 ∧ isRead o = true) ∧
    (∃ (s : State) (tag : Nat) (c : Nat) (o : HoistOp),
      s.pow.hubOn = true ∧ opOf s tag = some (c, o) ∧ c < 256 ∧ isRead o = true ∧ o.space = 1 ∧ o.since + 1000000 ≤ s.now ∧ hActive s c = true ∧ o.attempts < 16 ∧ o.addr < 2 ^ 64) ∧
    (∃ (s : State) (st : Nat) (errs : List LarderErr) (w : LWord) (ws : List LWord) (g : PktMeta) (q : MoverNeed) (buf : Nat) (b : Nat) (u : State) (a : Nat) (n : Nat) (l : List GWord) (rest : List GWord) (words : List GWord),
      s.pow.hubOn = true ∧ st < 128 ∧ hState s st = 1 ∧ groupEmpty s st = false ∧ (queueOfL s st).words = w :: ws ∧ w.tag = some g ∧ g.kind = 0 ∧ moverNeed s st g.frame = some q ∧ (moverOf s st).frame = some g.frame ∧ (moverOf s st).dest = .store buf b ∧ lpUse s b 64 = .fine ∧ packetWords (ws.length + 2) s st errs = (words, u) ∧ cutLines (linePlaces q st b g.lines) words = ([(a, n, l)], rest)) ∧
    (∃ (s : State) (st : Nat) (w : LWord) (ws : List LWord) (g : PktMeta) (q : MoverNeed) (buf : Nat) (b : Nat),
      s.pow.hubOn = true ∧ st < 128 ∧ hState s st = 1 ∧ groupEmpty s st = false ∧ (queueOfL s st).words = w :: ws ∧ w.tag = some g ∧ g.kind = 1 ∧ moverNeed s st g.frame = some q ∧ (moverOf s st).frame = some g.frame ∧ (moverOf s st).dest = .store buf b ∧ lpUse s b 64 = .fine) ∧
    (∃ (s : State) (st : Nat) (w : LWord) (ws : List LWord) (g : PktMeta),
      s.pow.hubOn = true ∧ 160 ≤ st ∧ st < 192 ∧ hState s st = 1 ∧ groupEmpty s st = false ∧ (queueOfL s st).words = w :: ws ∧ w.tag = some g ∧ g.kind = 2 ∧ ringReady s st = none) ∧
    (∃ (s : State) (st : Nat),
      s.pow.hubOn = true ∧ st < 192 ∧ groupEmpty s st = true) ∧
    (∃ (s : State) (st : Nat) (d : MoverDone) (rest : List MoverDone) (k : Nat) (base : Nat) (hm : Nat) (buf : Nat) (irq : Bool),
      s.pow.hubOn = true ∧ 160 ≤ st ∧ st < 192 ∧ (moverOf s st).done = d :: rest ∧ d.kind = 2 ∧ d.dest = .host k base hm buf irq false ∧ hActive s st = true ∧ moverAcked s st d.seq = true ∧ d.fsn < 2 ^ 32) ∧
    (∃ (s : State) (st : Nat) (d : MoverDone) (rest : List MoverDone) (buf : Nat) (b : Nat) (f : Frame),
      s.pow.hubOn = true ∧ st < 128 ∧ (moverOf s st).done = d :: rest ∧ d.kind = 1 ∧ d.dest = .store buf b ∧ hActive s st = true ∧ moverAcked s st d.seq = true ∧ frameOf s (st / 4) d.frame = some f ∧ goodFlags d.flags = true ∧ storeLayout f.rd (st / 4) (st % 4) = storeLayout (actCfg s) (st / 4) (st % 4)) ∧
    (∃ (s : State) (st : Nat) (d : MoverDone) (rest : List MoverDone) (buf : Nat) (b : Nat),
      s.pow.hubOn = true ∧ st < 128 ∧ (moverOf s st).done = d :: rest ∧ d.kind = 1 ∧ d.dest = .store buf b ∧ hActive s st = true ∧ moverAcked s st d.seq = true ∧ goodFlags d.flags = false) :=
  ⟨⟨(hoistBase 0 0 [] { move := some { moveA with len := 128, asked := 64, w0 := 0x11 } }), 2, 255, ({ moveA with len := 128, asked := 64, w0 := 0x11 }), by decide +kernel⟩,
   ⟨(hoistBase 0 0 [] { move := some { moveB with len := 192 } }), 255, ({ moveB with len := 192 }), bytes64, by decide +kernel⟩,
   ⟨(hoistBase 0 0 [] { move := some moveB }), 255, moveB, bytes64, by decide +kernel⟩,
   ⟨(hoistBase 0 0 [] {}), 2, by decide +kernel⟩,
   ⟨(hoistBase 0 0 [] { load := some 7, ops := [opA 3 8] }), 9, 255, (opA 3 8), 7, by decide +kernel⟩,
   ⟨(hoistBase 0 0 [] { move := some moveA, ops := [opA 0 64] }), 9, 255, (opA 0 64), moveA, by decide +kernel⟩,
   ⟨(hoistBase 0 0 [] { ops := [opA 1 64] }), 9, 255, (opA 1 64), by decide +kernel⟩,
   ⟨(hoistBase 0 0 [(fHOIST_CFG_RETRY 255, 1)] { ops := [opA 0 64] }), 9, 255, (opA 0 64), by decide +kernel⟩,
   ⟨(hoistBase 0 0 [(fHOIST_CFG_RETRY 255, 0)] { ops := [opA 0 64] }), 9, 255, (opA 0 64), by decide +kernel⟩,
   ⟨(hoistBase 0 0 [] { retry := [opA 0 64] }), 9, 255, (opA 0 64), by decide +kernel⟩,
   ⟨({ hoistBase 0 0 [] { ops := [opA 0 64] } with now := 1000000 }), 9, 255, (opA 0 64), by decide +kernel⟩,
   ⟨(moverBase 127 10 ⟨0, 0, 0, [(1, 2, 0)]⟩ { frame := some 0, dest := .store 5 0x2000 }), 127, [], (((queueOfL (moverBase 127 10 ⟨0, 0, 0, [(1, 2, 0)]⟩ { frame := some 0, dest := .store 5 0x2000 }) (127)).words.headD ⟨0, false, false, 0, 0, none⟩)), ((queueOfL (moverBase 127 10 ⟨0, 0, 0, [(1, 2, 0)]⟩ { frame := some 0, dest := .store 5 0x2000 }) (127)).words.tail), ((⟨0, 0, 0, [(1, 2, 0)]⟩ : PktMeta)), (((moverNeed (moverBase 127 10 ⟨0, 0, 0, [(1, 2, 0)]⟩ { frame := some 0, dest := .store 5 0x2000 }) (127) ((⟨0, 0, 0, [(1, 2, 0)]⟩ : PktMeta)).frame).getD ⟨0, 0, 0, (moverBase 127 10 ⟨0, 0, 0, [(1, 2, 0)]⟩ { frame := some 0, dest := .store 5 0x2000 }).rn⟩)), 5, 0x2000, ((packetWords (((queueOfL (moverBase 127 10 ⟨0, 0, 0, [(1, 2, 0)]⟩ { frame := some 0, dest := .store 5 0x2000 }) (127)).words.tail).length + 2) (moverBase 127 10 ⟨0, 0, 0, [(1, 2, 0)]⟩ { frame := some 0, dest := .store 5 0x2000 }) (127) ([])).2), (((cutLines (linePlaces (((moverNeed (moverBase 127 10 ⟨0, 0, 0, [(1, 2, 0)]⟩ { frame := some 0, dest := .store 5 0x2000 }) (127) ((⟨0, 0, 0, [(1, 2, 0)]⟩ : PktMeta)).frame).getD ⟨0, 0, 0, (moverBase 127 10 ⟨0, 0, 0, [(1, 2, 0)]⟩ { frame := some 0, dest := .store 5 0x2000 }).rn⟩)) (127) (0x2000) ((⟨0, 0, 0, [(1, 2, 0)]⟩ : PktMeta)).lines) (packetWords (((queueOfL (moverBase 127 10 ⟨0, 0, 0, [(1, 2, 0)]⟩ { frame := some 0, dest := .store 5 0x2000 }) (127)).words.tail).length + 2) (moverBase 127 10 ⟨0, 0, 0, [(1, 2, 0)]⟩ { frame := some 0, dest := .store 5 0x2000 }) (127) ([])).1).1.headD (0, 0, [])).1), (((cutLines (linePlaces (((moverNeed (moverBase 127 10 ⟨0, 0, 0, [(1, 2, 0)]⟩ { frame := some 0, dest := .store 5 0x2000 }) (127) ((⟨0, 0, 0, [(1, 2, 0)]⟩ : PktMeta)).frame).getD ⟨0, 0, 0, (moverBase 127 10 ⟨0, 0, 0, [(1, 2, 0)]⟩ { frame := some 0, dest := .store 5 0x2000 }).rn⟩)) (127) (0x2000) ((⟨0, 0, 0, [(1, 2, 0)]⟩ : PktMeta)).lines) (packetWords (((queueOfL (moverBase 127 10 ⟨0, 0, 0, [(1, 2, 0)]⟩ { frame := some 0, dest := .store 5 0x2000 }) (127)).words.tail).length + 2) (moverBase 127 10 ⟨0, 0, 0, [(1, 2, 0)]⟩ { frame := some 0, dest := .store 5 0x2000 }) (127) ([])).1).1.headD (0, 0, [])).2.1), (((cutLines (linePlaces (((moverNeed (moverBase 127 10 ⟨0, 0, 0, [(1, 2, 0)]⟩ { frame := some 0, dest := .store 5 0x2000 }) (127) ((⟨0, 0, 0, [(1, 2, 0)]⟩ : PktMeta)).frame).getD ⟨0, 0, 0, (moverBase 127 10 ⟨0, 0, 0, [(1, 2, 0)]⟩ { frame := some 0, dest := .store 5 0x2000 }).rn⟩)) (127) (0x2000) ((⟨0, 0, 0, [(1, 2, 0)]⟩ : PktMeta)).lines) (packetWords (((queueOfL (moverBase 127 10 ⟨0, 0, 0, [(1, 2, 0)]⟩ { frame := some 0, dest := .store 5 0x2000 }) (127)).words.tail).length + 2) (moverBase 127 10 ⟨0, 0, 0, [(1, 2, 0)]⟩ { frame := some 0, dest := .store 5 0x2000 }) (127) ([])).1).1.headD (0, 0, [])).2.2), ((cutLines (linePlaces (((moverNeed (moverBase 127 10 ⟨0, 0, 0, [(1, 2, 0)]⟩ { frame := some 0, dest := .store 5 0x2000 }) (127) ((⟨0, 0, 0, [(1, 2, 0)]⟩ : PktMeta)).frame).getD ⟨0, 0, 0, (moverBase 127 10 ⟨0, 0, 0, [(1, 2, 0)]⟩ { frame := some 0, dest := .store 5 0x2000 }).rn⟩)) (127) (0x2000) ((⟨0, 0, 0, [(1, 2, 0)]⟩ : PktMeta)).lines) (packetWords (((queueOfL (moverBase 127 10 ⟨0, 0, 0, [(1, 2, 0)]⟩ { frame := some 0, dest := .store 5 0x2000 }) (127)).words.tail).length + 2) (moverBase 127 10 ⟨0, 0, 0, [(1, 2, 0)]⟩ { frame := some 0, dest := .store 5 0x2000 }) (127) ([])).1).2), ((packetWords (((queueOfL (moverBase 127 10 ⟨0, 0, 0, [(1, 2, 0)]⟩ { frame := some 0, dest := .store 5 0x2000 }) (127)).words.tail).length + 2) (moverBase 127 10 ⟨0, 0, 0, [(1, 2, 0)]⟩ { frame := some 0, dest := .store 5 0x2000 }) (127) ([])).1), by and_intros <;> first | decide +kernel | exact ok_of (by decide +kernel) | exact error_of (by decide +kernel) | exact some_of (by decide +kernel)⟩,
   ⟨(moverBase 127 8 ⟨1, 0, 0, []⟩ { frame := some 0, dest := .store 5 0x2000 }), 127, (((queueOfL (moverBase 127 8 ⟨1, 0, 0, []⟩ { frame := some 0, dest := .store 5 0x2000 }) (127)).words.headD ⟨0, false, false, 0, 0, none⟩)), ((queueOfL (moverBase 127 8 ⟨1, 0, 0, []⟩ { frame := some 0, dest := .store 5 0x2000 }) (127)).words.tail), ((⟨1, 0, 0, []⟩ : PktMeta)), (((moverNeed (moverBase 127 8 ⟨1, 0, 0, []⟩ { frame := some 0, dest := .store 5 0x2000 }) (127) ((⟨1, 0, 0, []⟩ : PktMeta)).frame).getD ⟨0, 0, 0, (moverBase 127 8 ⟨1, 0, 0, []⟩ { frame := some 0, dest := .store 5 0x2000 }).rn⟩)), 5, 0x2000, by and_intros <;> first | decide +kernel | exact ok_of (by decide +kernel) | exact error_of (by decide +kernel) | exact some_of (by decide +kernel)⟩,
   ⟨(moverBase 191 10 ⟨2, 0, 0, []⟩ {}), 191, (((queueOfL (moverBase 191 10 ⟨2, 0, 0, []⟩ {}) (191)).words.headD ⟨0, false, false, 0, 0, none⟩)), ((queueOfL (moverBase 191 10 ⟨2, 0, 0, []⟩ {}) (191)).words.tail), ((⟨2, 0, 0, []⟩ : PktMeta)), by decide +kernel⟩,
   ⟨(S []), 191, by decide +kernel⟩,
   ⟨(moverBase 191 0 ⟨2, 0, 0, []⟩ { done := [doneA 2 (.host 3 0x1000 0 9 false false) 0] }), 191, (doneA 2 (.host 3 0x1000 0 9 false false) 0), [], 3, 0x1000, 0, 9, false, by decide +kernel⟩,
   ⟨(moverBase 127 0 ⟨2, 0, 0, []⟩ { done := [doneA 1 (.store 5 0x2000) 0] }), 127, (doneA 1 (.store 5 0x2000) 0), [], 5, 0x2000, (frameOf1 31 15), by decide +kernel⟩,
   ⟨(moverBase 127 0 ⟨2, 0, 0, []⟩ { done := [doneA 1 (.store 5 0x2000) 16] }), 127, (doneA 1 (.store 5 0x2000) 16), [], 5, 0x2000, by decide +kernel⟩⟩

theorem witness_StreamsAndIslandCommands :
    (∃ (s : State) (c : Cmd) (p : Nat),
      s.pow.hubOn = true ∧ Starts s c 0x11 ∧ Room s c ∧ c.target = p ∧ p < 32 ∧ unusedZero c true false false false = true ∧ s.started.contains p = false ∧ s.rn (rCMT_CONFIG_GEN p) ≠ 0 ∧ unbound s p = false ∧ s.fv (fKSCHED_STATUS_STATE p) ≠ 3) ∧
    (∃ (s : State) (c : Cmd) (p : Nat),
      s.pow.hubOn = true ∧ Starts s c 0x11 ∧ Room s c ∧ c.target = p ∧ p < 32 ∧ unusedZero c true false false false = true ∧ s.started.contains p = true) ∧
    (∃ (s : State) (c : Cmd) (p : Nat),
      s.pow.hubOn = true ∧ Starts s c 0x11 ∧ Room s c ∧ c.target = p ∧ p < 32 ∧ unusedZero c true false false false = true ∧ s.started.contains p = false ∧ s.rn (rCMT_CONFIG_GEN p) = 0) ∧
    (∃ (s : State) (c : Cmd) (p : Nat),
      s.pow.hubOn = true ∧ Starts s c 0x11 ∧ Room s c ∧ c.target = p ∧ p < 32 ∧ unusedZero c true false false false = true ∧ s.started.contains p = false ∧ s.rn (rCMT_CONFIG_GEN p) ≠ 0 ∧ unbound s p = true) ∧
    (∃ (s : State) (c : Cmd) (p : Nat),
      s.pow.hubOn = true ∧ Starts s c 0x11 ∧ Room s c ∧ c.target = p ∧ p < 32 ∧ unusedZero c true false false false = true ∧ s.started.contains p = false ∧ s.rn (rCMT_CONFIG_GEN p) ≠ 0 ∧ unbound s p = false ∧ s.fv (fKSCHED_STATUS_STATE p) = 3) ∧
    (∃ (s : State) (c : Cmd) (p : Nat),
      s.pow.hubOn = true ∧ Starts s c 0x12 ∧ c.target = p ∧ p < 32 ∧ unusedZero c true false false false = true ∧ s.started.contains p = true ∧ (pipeOf s p).stopCmd = none) ∧
    (∃ (s : State) (c : Cmd) (p : Nat),
      s.pow.hubOn = true ∧ Starts s c 0x12 ∧ Room s c ∧ c.target = p ∧ p < 32 ∧ unusedZero c true false false false = true ∧ s.started.contains p = false) ∧
    (∃ (s : State) (p : Nat) (c : Cmd),
      s.pow.hubOn = true ∧ p < 32 ∧ (pipeOf s p).stopCmd = some c ∧ (pipeOf s p).stopAt + 5000000 ≤ s.now) ∧
    (∃ (s : State) (p : Nat) (c : Cmd),
      s.pow.hubOn = true ∧ p < 32 ∧ (pipeOf s p).stopCmd = some c ∧ streamDrained s p = true ∧ (escOf s p).entries = [] ∧ armedOf s p = none ∧ Room s c ∧ s.ring.opened.any (fun x => x.id == c.id) = true) ∧
    (∃ (s : State) (p : Nat) (code : Nat) (l : List (Nat × Nat)),
      s.pow.hubOn = true ∧ s.stops = (p, code) :: l ∧ p < 32 ∧ s.started.contains p = true) ∧
    (∃ (s : State) (c : Nat) (code : Nat) (l : List (Nat × Nat)),
      s.pow.hubOn = true ∧ s.stops = (0x80 + c, code) :: l ∧ c < 4 ∧ s.on (fCV_ENABLE_EN c) = true) ∧
    (∃ (s : State) (p : Nat) (code : Nat) (l : List (Nat × Nat)),
      s.pow.hubOn = true ∧ s.stops = (p, code) :: l ∧ p < 32 ∧ s.started.contains p = false) ∧
    (∃ (s : State) (c : Cmd),
      s.pow.hubOn = true ∧ s.pow.powered = true ∧ s.isl.running = true ∧ Starts s c 0x30 ∧ Room s c ∧ unusedZero c false true true false = true ∧ c.arg0 = windResponse (challenge s) c.arg1 ∧ c.arg1 = s.rn rSAFE_WIND_STATUS ∧ windState s = 2 ∧ s.isl.windAt + s.isl.windPeriod * 500000 ≤ s.dial ∧ s.dial ≤ s.isl.windAt + s.isl.windPeriod * 1000000) ∧
    (∃ (s : State) (c : Cmd),
      s.pow.hubOn = true ∧ s.pow.powered = true ∧ s.isl.running = true ∧ Starts s c 0x30 ∧ unusedZero c false true true false = true ∧ c.arg0 = windResponse (challenge s) c.arg1 ∧ c.arg1 = s.rn rSAFE_WIND_STATUS ∧ windState s ≠ 2 ∧ s.isl.windCount = 0) ∧
    (∃ (s : State) (c : Cmd),
      s.pow.hubOn = true ∧ s.pow.powered = true ∧ s.isl.running = true ∧ Starts s c 0x30 ∧ unusedZero c false true true false = true ∧ c.arg0 = windResponse (challenge s) c.arg1 ∧ c.arg1 = s.rn rSAFE_WIND_STATUS ∧ windState s = 1 ∧ s.isl.windCount = 1 ∧ s.isl.windAt + s.isl.windPeriod * 500000 ≤ s.dial ∧ s.dial ≤ s.isl.windAt + s.isl.windPeriod * 1000000) ∧
    (∃ (s : State) (c : Cmd),
      s.pow.hubOn = true ∧ s.pow.powered = true ∧ s.isl.running = true ∧ Starts s c 0x30 ∧ Room s c ∧ unusedZero c false true true false = true ∧ c.arg1 < 2 ^ 32 ∧ (c.arg0 ≠ windResponse (challenge s) c.arg1 ∨ c.arg1 ≠ s.rn rSAFE_WIND_STATUS) ∧ windState s = 2) ∧
    (∃ (s : State) (c : Cmd),
      s.pow.hubOn = true ∧ s.pow.powered = true ∧ s.isl.running = true ∧ Starts s c 0x31 ∧ Room s c ∧ unusedZero c true true true false = true ∧ c.target < 256 ∧ heldFrame s c.target (c.arg0 % 2 ^ 32) = none) ∧
    (∃ (s : State) (c : Cmd) (f : HeldFrame),
      s.pow.hubOn = true ∧ s.pow.powered = true ∧ s.isl.running = true ∧ Starts s c 0x31 ∧ Room s c ∧ unusedZero c true true true false = true ∧ c.target < 256 ∧ heldFrame s c.target (c.arg0 % 2 ^ 32) = some f ∧ f.delivered ≤ c.arg1 ∧ c.arg1 ≤ s.dial ∧ c.arg0 / 2 ^ 32 ≠ f.tally) ∧
    (∃ (s : State) (c : Cmd) (f : HeldFrame),
      s.pow.hubOn = true ∧ s.pow.powered = true ∧ s.isl.running = true ∧ Starts s c 0x31 ∧ Room s c ∧ unusedZero c true true true false = true ∧ c.target < 256 ∧ heldFrame s c.target (c.arg0 % 2 ^ 32) = some f ∧ f.delivered ≤ c.arg1 ∧ c.arg1 ≤ s.dial ∧ c.arg0 / 2 ^ 32 = f.tally ∧ f.budget * 1000000 < c.arg1 - f.capture) ∧
    (∃ (s : State) (c : Cmd) (f : HeldFrame),
      s.pow.hubOn = true ∧ s.pow.powered = true ∧ s.isl.running = true ∧ Starts s c 0x31 ∧ Room s c ∧ unusedZero c true true true false = true ∧ c.target < 256 ∧ heldFrame s c.target (c.arg0 % 2 ^ 32) = some f ∧ f.delivered ≤ c.arg1 ∧ c.arg1 ≤ s.dial ∧ c.arg0 / 2 ^ 32 = f.tally ∧ c.arg1 - f.capture ≤ f.budget * 1000000) :=
  ⟨⟨(cmdBase (streamCmd 0x11) configured), (streamCmd 0x11), 31, by unfold Starts Room; decide +kernel⟩,
   ⟨({ cmdBase (streamCmd 0x11) [] with started := [31] }), (streamCmd 0x11), 31, by unfold Starts Room; decide +kernel⟩,
   ⟨(cmdBase (streamCmd 0x11) []), (streamCmd 0x11), 31, by unfold Starts Room; decide +kernel⟩,
   ⟨((fun s : State => { s with act := [(rOUT_CTRL 31 3, 1)] }) (cmdBase (streamCmd 0x11) configured)), (streamCmd 0x11), 31, by unfold Starts Room; decide +kernel⟩,
   ⟨(cmdBase (streamCmd 0x11) ((fKSCHED_STATUS_STATE 31, 3) :: configured)), (streamCmd 0x11), 31, by unfold Starts Room; decide +kernel⟩,
   ⟨({ cmdBase (streamCmd 0x12) [] with started := [31] }), (streamCmd 0x12), 31, by unfold Starts; decide +kernel⟩,
   ⟨(cmdBase (streamCmd 0x12) []), (streamCmd 0x12), 31, by unfold Starts Room; decide +kernel⟩,
   ⟨({ S [(fKSCHED_STATUS_STATE 31, 1)] with started := [31], now := 5000000, pipe := [(31, { frames := [frameOf1 31 15], stopCmd := some (streamCmd 0x12), refuse := true })] }), 31, (streamCmd 0x12), by decide +kernel⟩,
   ⟨((fun s : State => { s with ring := { s.ring with waiting := [] }, started := [31], pipe := [(31, { stopCmd := some (streamCmd 0x12), refuse := true })] }) (cmdBase (streamCmd 0x12) [])), 31, (streamCmd 0x12), by unfold Room; decide +kernel⟩,
   ⟨({ S [] with started := [31], stops := [(31, 5)] }), 31, 5, [], by decide +kernel⟩,
   ⟨({ S [(fCV_ENABLE_EN 3, 1)] with stops := [(0x83, 5)] }), 3, 5, [], by decide +kernel⟩,
   ⟨({ S [] with stops := [(31, 5)] }), 31, 5, [], by decide +kernel⟩,
   ⟨(windBase (argCmd 0x30 0 17632463569302644685 1) [(fSAFE_STATUS_WIND_STATE, 2)] 2 1000000), (argCmd 0x30 0 17632463569302644685 1), by unfold Starts Room; decide +kernel⟩,
   ⟨(windBase (argCmd 0x30 0 17632463569302644685 1) [(fSAFE_STATUS_WIND_STATE, 3)] 0 1000000), (argCmd 0x30 0 17632463569302644685 1), by unfold Starts; decide +kernel⟩,
   ⟨(windBase (argCmd 0x30 0 17632463569302644685 1) [(fSAFE_STATUS_WIND_STATE, 1)] 1 2000000), (argCmd 0x30 0 17632463569302644685 1), by unfold Starts; decide +kernel⟩,
   ⟨(windBase (argCmd 0x30 0 13659247336821398250 1) [(fSAFE_STATUS_WIND_STATE, 2)] 1 2000000), (argCmd 0x30 0 13659247336821398250 1), by unfold Starts Room; decide +kernel⟩,
   ⟨(shownBase (argCmd 0x31 0x83 (6 + 5 * 2 ^ 32) 20)), (argCmd 0x31 0x83 (6 + 5 * 2 ^ 32) 20), by unfold Starts Room; decide +kernel⟩,
   ⟨(shownBase (argCmd 0x31 0x83 (7 + 6 * 2 ^ 32) 20)), (argCmd 0x31 0x83 (7 + 6 * 2 ^ 32) 20), (⟨7, 5, 10, 20, 1⟩), by unfold Starts Room; decide +kernel⟩,
   ⟨(shownBase (argCmd 0x31 0x83 (7 + 5 * 2 ^ 32) 1000011)), (argCmd 0x31 0x83 (7 + 5 * 2 ^ 32) 1000011), (⟨7, 5, 10, 20, 1⟩), by unfold Starts Room; decide +kernel⟩,
   ⟨(shownBase (argCmd 0x31 0x83 (7 + 5 * 2 ^ 32) 1000010)), (argCmd 0x31 0x83 (7 + 5 * 2 ^ 32) 1000010), (⟨7, 5, 10, 20, 1⟩), by unfold Starts Room; decide +kernel⟩⟩

theorem witness_TalliesAndConverters :
    (∃ (s : State) (u : Nat) (v : Word) (x : TallySet),
      s.pow.hubOn = true ∧ u < 16 ∧ bitsOf v.toNat 0 3 ≤ 4 ∧ bitAt v.toNat 16 = true ∧ x = stagedTally (s.setF ⟨rTALLY_CTRL u, 0, 10⟩ (bitsOf v.toNat 0 10)) u) ∧
    (∃ (s : State) (u : Nat) (v : Word),
      s.pow.hubOn = true ∧ u < 16 ∧ bitsOf v.toNat 0 3 ≤ 4 ∧ bitAt v.toNat 16 = false) ∧
    (∃ (s : State) (u : Nat) (v : Word),
      s.pow.hubOn = true ∧ u < 16 ∧ 4 < bitsOf v.toNat 0 3) ∧
    (∃ (s : State) (u : Nat) (bytes : List Byte),
      s.pow.hubOn = true ∧ u < 16 ∧ bytes.length ≤ 64 ∧ (tallySet s u).width ≤ 32) ∧
    (∃ (s : State) (u : Nat),
      s.pow.hubOn = true ∧ u < 16) ∧
    (∃ (s : State) (c : Nat) (v : Word),
      s.pow.hubOn = true ∧ c < 11 ∧ convIn s c = true ∧ bitsOf v.toNat 0 6 ≤ 34 ∧ bitsOf v.toNat 16 16 ≠ 0 ∧ bitAt v.toNat 8 = false ∧ bitAt v.toNat 9 = true ∧ convState s c ≠ 1 ∧ (convOf s c).dead = false ∧ ((c < 2 → convState s (1 - c) ≠ 1))) ∧
    (∃ (s : State) (c : Nat) (v : Word),
      s.pow.hubOn = true ∧ c < 2 ∧ bitsOf v.toNat 0 6 ≤ 34 ∧ bitsOf v.toNat 16 16 ≠ 0 ∧ bitAt v.toNat 8 = false ∧ bitAt v.toNat 9 = true ∧ convState s c ≠ 1 ∧ (convOf s c).dead = false ∧ convState s (1 - c) = 1) ∧
    (∃ (s : State) (c : Nat) (v : Word),
      s.pow.hubOn = true ∧ c < 11 ∧ convIn s c = true ∧ (34 < bitsOf v.toNat 0 6 ∨ bitsOf v.toNat 16 16 = 0)) ∧
    (∃ (s : State) (c : Nat) (v : Word),
      s.pow.hubOn = true ∧ c < 10 ∧ convIn s c = true ∧ 0 < bitsOf v.toNat 0 6 ∧ bitsOf v.toNat 0 6 ≤ 34 ∧ bitsOf v.toNat 16 16 ≠ 0 ∧ bitAt v.toNat 8 = true ∧ bitAt v.toNat 9 = false ∧ convState s c = 2 ∧ (convOf s c).inj = none) ∧
    (∃ (s : State) (c : Nat) (v : Word) (i : Nat),
      s.pow.hubOn = true ∧ c < 11 ∧ convIn s c = true ∧ 0 < bitsOf v.toNat 0 6 ∧ bitsOf v.toNat 0 6 ≤ 34 ∧ bitsOf v.toNat 16 16 ≠ 0 ∧ bitAt v.toNat 8 = true ∧ bitAt v.toNat 9 = false ∧ convState s c = 2 ∧ (convOf s c).inj = some i) ∧
    (∃ (s : State) (c : Nat) (r : CalResult),
      s.pow.powered = true ∧ c < 11 ∧ convIn s c = true ∧ convState s c = 1 ∧ (convOf s c).calAt + 2400000 ≤ s.now ∧ calGood r = true) ∧
    (∃ (s : State) (c : Nat) (r : CalResult),
      s.pow.powered = true ∧ c < 11 ∧ convIn s c = true ∧ convState s c = 1 ∧ (convOf s c).calAt + 2400000 ≤ s.now ∧ calGood r = false ∧ s.on (fMADC_STATUS_CAL_OK c) = false) ∧
    (∃ (s : State) (c : Nat) (raw : Nat) (i : Nat) (e : Nat) (code : Nat),
      s.pow.powered = true ∧ c < 11 ∧ convIn s c = true ∧ convState s c = 2 ∧ (convOf s c).inj = none ∧ (convOf s c).cur = some (i + 1) ∧ i < 16 ∧ (convOf s c).seq[i]? = some e ∧ (convOf s c).start + 1000 ≤ s.now ∧ s.now ≤ (convOf s c).start + 5000 ∧ code = calibrated s c raw) ∧
    (∃ (s : State) (c : Nat) (i : Nat),
      s.pow.powered = true ∧ c < 11 ∧ convIn s c = true ∧ convState s c = 2 ∧ (convOf s c).inj = some i ∧ i < 4 ∧ (convOf s c).start + 1000 ≤ s.now ∧ s.now ≤ (convOf s c).start + 5000) ∧
    (∃ (s : State) (raw : Nat) (b : Nat),
      s.pow.powered = true ∧ s.pow.hubOn = true ∧ convState s 0 = 2 ∧ convState s 1 = 2 ∧ (convOf s 0).inj = none ∧ (convOf s 0).cur = some 0 ∧ (convOf s 0).start + 1000 ≤ s.now ∧ s.now ≤ (convOf s 0).start + 5000 ∧ (convOf s 0).calEnd + 1000000 ≤ s.now ∧ (convOf s 1).calEnd + 1000000 ≤ s.now ∧ s.madc.plausB = some b ∧ s.fv fMADCC_PLAUS_TOL < (calibrated s 0 raw - b) + (b - calibrated s 0 raw) ∧ s.madc.disagree + 1 = s.fv fMADCC_PLAUS_CONSEC) ∧
    (∃ (s : State) (c : Nat) (due : Nat) (l : List Nat),
      s.pow.powered = true ∧ c < 10 ∧ convIn s c = true ∧ (convOf s c).due = due :: l ∧ due ≤ s.now ∧ convState s c = 2 ∧ (convOf s c).inj = none ∧ s.fv (fMADC_CTRL_INJ_TRIG c) ≠ 34) ∧
    (∃ (s : State) (c : Nat),
      s.pow.powered = true ∧ c < 11 ∧ converting s c = true ∧ (convOf s c).start + 5000 < s.now ∧ (convOf s c).stuckAt = none) ∧
    (∃ (s : State) (c : Nat) (before : Nat),
      s.pow.powered = true ∧ c < 11 ∧ converting s c = true ∧ (convOf s c).start + 5000 < s.now ∧ (convOf s c).stuckAt = some before ∧ s.now ≤ before + 10000000) ∧
    (∃ (s : State) (due : Nat),
      s.pow.powered = true ∧ (convOf s 10).rest = some due ∧ due ≤ s.now ∧ convState s 10 = 2) ∧
    (∃ (s : State),
      s.pow.hubOn = true) ∧
    (∃ (s : State) (j : Nat) (code : Nat),
      s.pow.hubOn = true ∧ j < 16 ∧ code < 4096 ∧ convState s (if j < 8 then 0 else 1) = 2 ∧ s.on (fMADCC_ILS_THR_OFF_CHECK_EN j) = true ∧ ilsDue s j = true ∧ bitAt s.regu.ill j = true ∧ s.fv (fMADCC_ILS_THR_ON_ON_MIN j) ≤ code ∧ s.fv (fMADCC_ILS_THR_ON_ON_MAX j) < code) ∧
    (∃ (s : State) (j : Nat) (code : Nat),
      s.pow.hubOn = true ∧ j < 16 ∧ code < 4096 ∧ convState s (if j < 8 then 0 else 1) = 2 ∧ s.on (fMADCC_ILS_THR_OFF_CHECK_EN j) = true ∧ ilsDue s j = true ∧ bitAt s.regu.ill j = true ∧ code < s.fv (fMADCC_ILS_THR_ON_ON_MIN j)) ∧
    (∃ (s : State) (j : Nat) (code : Nat),
      s.pow.hubOn = true ∧ j < 16 ∧ code < 4096 ∧ convState s (if j < 8 then 0 else 1) = 2 ∧ s.on (fMADCC_ILS_THR_OFF_CHECK_EN j) = true ∧ ilsDue s j = true ∧ bitAt s.regu.ill j = false ∧ s.fv (fMADCC_ILS_THR_OFF_OFF_MAX j) < code) :=
  ⟨⟨(S []), 15, 0x10000#32, (stagedTally ((S []).setF ⟨rTALLY_CTRL 15, 0, 10⟩ 0) 15), by decide +kernel⟩,
   ⟨(S []), 15, 0x3E4#32, by decide +kernel⟩,
   ⟨(S []), 15, 5#32, by decide +kernel⟩,
   ⟨(S [(⟨rTALLY_COUNT_LO 15, 0, 32⟩, 0xFFFFFFFF), (⟨rTALLY_STATE 15, 0, 32⟩, 0xFFFFFFFF)]), 15, (List.replicate 64 0x31), by decide +kernel⟩,
   ⟨(S [(⟨rTALLY_STATE 15, 0, 32⟩, 5)]), 15, by decide +kernel⟩,
   ⟨(convBase 10 2 [] {}), 10, 0xFFFF0222#32, by decide +kernel⟩,
   ⟨(convBase 1 2 [(fMADC_STATUS_STATE 0, 1)] {}), 1, 0x00010200#32, by decide +kernel⟩,
   ⟨(convBase 10 2 [] {}), 10, 0x00010023#32, by decide +kernel⟩,
   ⟨(convBase 9 2 [(fTILE_STATUS_STATE 7, 1)] { cur := some 3 }), 9, 0x00010101#32, by decide +kernel⟩,
   ⟨(convBase 10 2 [] { inj := some 3 }), 10, 0x00010101#32, 3, by decide +kernel⟩,
   ⟨({ convBase 10 1 [] {} with now := 2400000 }), 10, (⟨true, -128, 18432⟩), by decide +kernel⟩,
   ⟨({ convBase 10 1 [] {} with now := 2400000 }), 10, (⟨true, -129, 18432⟩), by decide +kernel⟩,
   ⟨({ convBase 10 2 [(fMADC_CAL_GAIN 10, 16384)] { cur := some 16, seq := List.replicate 16 (64 + 5 * 128 + 4094 * 2 ^ 19) } with now := 1000 }), 10, 4095, 15, (64 + 5 * 128 + 4094 * 2 ^ 19), 4095, by decide +kernel⟩,
   ⟨({ convBase 10 2 [] { inj := some 3 } with now := 5000 }), 10, 3, by decide +kernel⟩,
   ⟨({ S [(fMADC_STATUS_STATE 0, 2), (fMADC_STATUS_STATE 1, 2), (fMADCC_PLAUS_TOL, 8), (fMADCC_PLAUS_CONSEC, 3)] with now := 1000000, madc := { conv := [(0, { cur := some 0, start := 999000 })], plausB := some 9, disagree := 2 } }), 0, 9, by decide +kernel⟩,
   ⟨(convBase 9 2 [(fTILE_STATUS_STATE 7, 1)] { due := [0] }), 9, 0, [], by decide +kernel⟩,
   ⟨({ convBase 10 2 [] { inj := some 3 } with now := 5001 }), 10, by decide +kernel⟩,
   ⟨({ convBase 10 2 [] { inj := some 3, stuckAt := some 0 } with now := 10000000 }), 10, 0, by decide +kernel⟩,
   ⟨({ convBase 10 2 [] { rest := some 7 } with now := 7 }), 7, by decide +kernel⟩,
   ⟨(S [(⟨rMADCC_ILS_LATCH, 0, 16⟩, 0xFFFF)]), by decide +kernel⟩,
   ⟨(ilsBase 0x8000), 15, 201, by decide +kernel⟩,
   ⟨(ilsBase 0x8000), 15, 99, by decide +kernel⟩,
   ⟨(ilsBase 0), 15, 51, by decide +kernel⟩⟩

theorem witness_SensorWindows :
    (∃ (s : State) (n : Nat) (a : Nat) (bytes : List Byte),
      HostAsks s ∧ n < 32 ∧ a < 65536 ∧ bytes ≠ [] ∧ accessFails s n a bytes.length = false ∧ (queueOf s n).length + bytes.length ≤ 64) ∧
    (∃ (s : State) (n : Nat) (a : Nat) (bytes : List Byte),
      HostAsks s ∧ n < 32 ∧ a < 65536 ∧ bytes ≠ [] ∧ accessFails s n a bytes.length = false ∧ 64 < (queueOf s n).length + bytes.length) ∧
    (∃ (s : State) (n : Nat) (a : Nat) (bytes : List Byte),
      HostAsks s ∧ n < 32 ∧ a < 65536 ∧ bytes ≠ [] ∧ accessFails s n a bytes.length = true) ∧
    (∃ (s : State) (n : Nat) (a : Nat) (bytes : List Byte),
      HostAsks s ∧ n < 32 ∧ a < 65536 ∧ bytes ≠ [] ∧ accessFails s n a bytes.length = false ∧ (queueOf s n).length + bytes.length ≤ 64) ∧
    (∃ (s : State) (n : Nat) (a : Nat) (bytes : List Byte),
      HostAsks s ∧ n < 32 ∧ a < 65536 ∧ bytes ≠ [] ∧ accessFails s n a bytes.length = true) ∧
    (∃ (s : State) (n : Nat) (a : Nat),
      HostAsks s ∧ n < 32 ∧ a < 65536 ∧ accessFails s n a 4 = false ∧ freeTickets s ≠ []) ∧
    (∃ (s : State) (n : Nat) (a : Nat),
      HostAsks s ∧ n < 32 ∧ a < 65536 ∧ accessFails s n a 4 = false ∧ freeTickets s = []) ∧
    (∃ (s : State) (n : Nat) (a : Nat),
      HostAsks s ∧ n < 32 ∧ a < 65536 ∧ accessFails s n a 4 = true) ∧
    (∃ (s : State) (n : Nat) (a : Nat) (size : Nat),
      HostAsks s ∧ n < 32 ∧ a < 65536 ∧ size ≠ 4) ∧
    (∃ (s : State) (k : Nat) (id : Nat) (a : BridgeAcc),
      s.pow.hubOn = true ∧ k < 64 ∧ findAcc s (fun a => a.kind == 2 && a.ticket == k && !a.lost && a.got.length == a.size) = some (id, a) ∧ a.fail < 16) ∧
    (∃ (s : State) (k : Nat),
      HostAsks s ∧ k < 64 ∧ s.fv (fBRIDGE_COLLECT_HI_STATE k) = 2) ∧
    (∃ (s : State) (k : Nat),
      HostAsks s ∧ k < 64 ∧ s.fv (fBRIDGE_COLLECT_HI_STATE k) ≠ 2) ∧
    (∃ (s : State) (k : Nat) (at0 : Nat),
      s.pow.hubOn = true ∧ k < 64 ∧ kget k s.bridge.doneAt = some at0 ∧ at0 + s.fv fBRIDGE_CFG_DISCARD_MS * 1000000 ≤ s.now) ∧
    (∃ (s : State) (n : Nat) (a : Nat) (size : Nat),
      HostAsks s ∧ n < 32 ∧ a < 65536 ∧ size ∈ [1, 2, 4, 8] ∧ accessFails s n a size = false) ∧
    (∃ (s : State) (n : Nat) (a : Nat) (size : Nat),
      HostAsks s ∧ n < 32 ∧ a < 65536 ∧ size ∈ [1, 2, 4, 8] ∧ accessFails s n a size = true) ∧
    (∃ (s : State) (n : Nat) (id : Nat) (a : BridgeAcc),
      s.pow.hubOn = true ∧ n < 32 ∧ findAcc s (fun a => a.kind == 3 && a.port == n && !a.lost && a.got.length == a.size) = some (id, a)) ∧
    (∃ (s : State) (n : Nat) (id : Nat) (a : BridgeAcc),
      s.pow.hubOn = true ∧ n < 32 ∧ findAcc s (fun a => a.kind == 3 && a.port == n && !a.lost && decide (a.got.length < a.size)) = some (id, a) ∧ a.since + s.fv fBRIDGE_CFG_HOLD_MS * 1000000 ≤ s.now) :=
  ⟨⟨(brBase [] {}), 31, 255, [0xAB#8], by unfold HostAsks; decide +kernel⟩,
   ⟨(brBase [] { queue := [(31, List.replicate 63 (0, 0))] }), 31, 5, ([1#8, 2#8]), by unfold HostAsks; decide +kernel⟩,
   ⟨(brBase [(fBRIDGE_STATUS_ERRLOG_NEXT, 15), (fBRIDGE_ERRLOG_INFO_VALID 15, 1)] {}), 31, 255, ([1#8, 2#8]), by unfold HostAsks; decide +kernel⟩,
   ⟨(brBase [] {}), 31, 254, ([1#8, 2#8]), by unfold HostAsks; decide +kernel⟩,
   ⟨(brBase [] {}), 30, 5, [1#8], by unfold HostAsks; decide +kernel⟩,
   ⟨(brBase [] {}), 31, 252, by unfold HostAsks; decide +kernel⟩,
   ⟨(brBase ((List.range 64).map (fun k => (fBRIDGE_COLLECT_HI_STATE k, 1))) {}), 31, 5, by unfold HostAsks; decide +kernel⟩,
   ⟨(brBase [] {}), 31, 253, by unfold HostAsks; decide +kernel⟩,
   ⟨(brBase [] {}), 31, 5, 8, by unfold HostAsks; decide +kernel⟩,
   ⟨(brBase [(fBRIDGE_COLLECT_HI_STATE 63, 1)] { accs := [(3, doneAcc)] }), 63, 3, doneAcc, by decide +kernel⟩,
   ⟨(brBase [(fBRIDGE_COLLECT_HI_STATE 63, 2), (⟨rBRIDGE_COLLECT_LO 63, 0, 32⟩, 77)] { doneAt := [(63, 5)] }), 63, by unfold HostAsks; decide +kernel⟩,
   ⟨(brBase [(fBRIDGE_COLLECT_HI_STATE 63, 1)] {}), 63, by unfold HostAsks; decide +kernel⟩,
   ⟨({ brBase [(fBRIDGE_COLLECT_HI_STATE 63, 2)] { doneAt := [(63, 5)] } with now := 40000005 }), 63, 5, by decide +kernel⟩,
   ⟨(brBase [] {}), 31, 252, 4, by unfold HostAsks; decide +kernel⟩,
   ⟨(brBase [] {}), 31, 255, 2, by unfold HostAsks; decide +kernel⟩,
   ⟨(brBase [(fBRIDGE_PORT_SYNC_ERR 31, 1)] { accs := [(3, { doneAcc with kind := 3 })] }), 31, 3, ({ doneAcc with kind := 3 }), by decide +kernel⟩,
   ⟨({ brBase [] { accs := [(3, { doneAcc with kind := 3, got := [] })] } with now := 20000000 }), 31, 3, ({ doneAcc with kind := 3, got := [] }), by decide +kernel⟩⟩

theorem witness_WindowsAndCompletions :
    (∃ (s : State) (w : Nat) (x : Nat) (bytes : List Byte),
      HostAsks s ∧ w < 16 ∧ x < 0x100000 ∧ bytes ≠ [] ∧ x % 64 + bytes.length ≤ 64 ∧ s.fv (fBRIDGE_OUT_WIN_CTRL_EN w) = 1 ∧ winReach s w = true ∧ s.fabric.nextTag < 65536 ∧ kget s.fabric.nextTag s.fabric.reqs = none ∧ kget s.fabric.nextTag s.fabric.done = none) ∧
    (∃ (s : State) (w : Nat) (x : Nat) (bytes : List Byte),
      HostAsks s ∧ w < 16 ∧ x < 0x100000 ∧ bytes ≠ [] ∧ x % 64 + bytes.length ≤ 64 ∧ s.fv (fBRIDGE_OUT_WIN_CTRL_EN w) = 1 ∧ winReach s w = false) ∧
    (∃ (s : State) (w : Nat) (x : Nat) (bytes : List Byte),
      HostAsks s ∧ w < 16 ∧ x < 0x100000 ∧ bytes ≠ [] ∧ x % 64 + bytes.length ≤ 64 ∧ s.fv (fBRIDGE_OUT_WIN_CTRL_EN w) = 0) ∧
    (∃ (s : State) (w : Nat) (x : Nat) (bytes : List Byte),
      HostAsks s ∧ w < 16 ∧ x < 0x100000 ∧ (bytes = [] ∨ 64 < x % 64 + bytes.length)) ∧
    (∃ (s : State) (w : Nat) (x : Nat) (len : Nat),
      HostAsks s ∧ w < 16 ∧ x < 0x100000 ∧ 0 < len ∧ x % 64 + len ≤ 64 ∧ s.fv (fBRIDGE_OUT_WIN_CTRL_EN w) = 1 ∧ winReach s w = true ∧ s.fabric.nextTag < 65536 ∧ kget s.fabric.nextTag s.fabric.reqs = none ∧ kget s.fabric.nextTag s.fabric.done = none) ∧
    (∃ (s : State) (w : Nat) (x : Nat) (len : Nat),
      HostAsks s ∧ w < 16 ∧ x < 0x100000 ∧ 0 < len ∧ x % 64 + len ≤ 64 ∧ s.fv (fBRIDGE_OUT_WIN_CTRL_EN w) = 1 ∧ winReach s w = false) ∧
    (∃ (s : State) (w : Nat) (x : Nat) (len : Nat),
      HostAsks s ∧ w < 16 ∧ x < 0x100000 ∧ (len = 0 ∨ 64 < x % 64 + len ∨ s.fv (fBRIDGE_OUT_WIN_CTRL_EN w) = 0)) ∧
    (∃ (s : State) (tag : Nat) (h : HeldWin) (d : FabDone),
      s.pow.hubOn = true ∧ kget tag s.bridge.wins = some h ∧ h.expired = false ∧ kget tag s.fabric.done = some d ∧ d.status = 0 ∧ d.data.length = h.size) ∧
    (∃ (s : State) (tag : Nat) (h : HeldWin) (d : FabDone),
      s.pow.hubOn = true ∧ kget tag s.bridge.wins = some h ∧ h.expired = false ∧ kget tag s.fabric.done = some d ∧ d.status ≠ 0) ∧
    (∃ (s : State) (tag : Nat) (h : HeldWin) (d : FabDone),
      s.pow.hubOn = true ∧ kget tag s.bridge.wins = some h ∧ h.expired = true ∧ h.win < 16 ∧ kget tag s.fabric.done = some d) ∧
    (∃ (s : State) (tag : Nat) (h : HeldWin) (d : FabDone),
      s.pow.hubOn = true ∧ kget tag s.bridge.wins = none ∧ kget tag s.bridge.writes = some h ∧ h.win < 16 ∧ kget tag s.fabric.done = some d ∧ d.status ≠ 0 ∧ d.status ≠ 256) ∧
    (∃ (s : State) (tag : Nat) (h : HeldWin),
      s.pow.hubOn = true ∧ kget tag s.bridge.wins = some h ∧ h.expired = false ∧ h.win < 16 ∧ kget tag s.fabric.done = none ∧ h.since + s.fv fBRIDGE_CFG_HOLD_MS * 1000000 ≤ s.now) ∧
    (∃ (s : State) (w : Nat) (v : Word),
      s.pow.hubOn = true ∧ w < 16 ∧ s.fv (fBRIDGE_OUT_WIN_CTRL_EN w) = 1 ∧ bitsOf v.toNat 1 6 ≠ winPeer s w) ∧
    (∃ (s : State) (w : Nat) (v : Word),
      s.pow.hubOn = true ∧ w < 16 ∧ (s.fv (fBRIDGE_OUT_WIN_CTRL_EN w) = 0 ∨ bitsOf v.toNat 1 6 = winPeer s w)) ∧
    (∃ (s : State) (x : Nat) (len : Nat) (a : Nat),
      HostAsks s ∧ s.pair rPCIE_LP5X_WIN_LO rPCIE_LP5X_WIN_HI % 2 ^ bar4Log s = 0 ∧ a = s.pair rPCIE_LP5X_WIN_LO rPCIE_LP5X_WIN_HI + x % 2 ^ bar4Log s ∧ lpRange s a len = true) ∧
    (∃ (s : State) (x : Nat) (len : Nat) (a : Nat),
      HostAsks s ∧ s.pair rPCIE_LP5X_WIN_LO rPCIE_LP5X_WIN_HI % 2 ^ bar4Log s ≠ 0 ∧ a = s.pair rPCIE_LP5X_WIN_LO rPCIE_LP5X_WIN_HI / 2 ^ bar4Log s * 2 ^ bar4Log s + x % 2 ^ bar4Log s ∧ lpRange s a len = true) ∧
    (∃ (s : State) (x : Nat) (bytes : List Byte) (a : Nat),
      HostAsks s ∧ s.pair rPCIE_LP5X_WIN_LO rPCIE_LP5X_WIN_HI % 2 ^ bar4Log s = 0 ∧ a = s.pair rPCIE_LP5X_WIN_LO rPCIE_LP5X_WIN_HI + x % 2 ^ bar4Log s ∧ lpRange s a bytes.length = true) ∧
    (∃ (s : State) (x : Nat) (bytes : List Byte) (a : Nat),
      HostAsks s ∧ s.pair rPCIE_LP5X_WIN_LO rPCIE_LP5X_WIN_HI % 2 ^ bar4Log s = 0 ∧ a = s.pair rPCIE_LP5X_WIN_LO rPCIE_LP5X_WIN_HI + x % 2 ^ bar4Log s ∧ lpRange s a bytes.length = true ∧ bytes ≠ []) ∧
    (∃ (s : State) (x : Nat) (bytes : List Byte) (a : Nat),
      HostAsks s ∧ s.pair rPCIE_LP5X_WIN_LO rPCIE_LP5X_WIN_HI % 2 ^ bar4Log s = 0 ∧ a = s.pair rPCIE_LP5X_WIN_LO rPCIE_LP5X_WIN_HI + x % 2 ^ bar4Log s ∧ lpRange s a bytes.length = false) ∧
    (∃ (s : State),
      HostAsks s) ∧
    (∃ (s : State),
      HostAsks s) ∧
    (∃ (s : State) (k : Nat),
      s.pow.hubOn = true ∧ s.on fPCIE_LINK_STATUS_DL_ACTIVE = true ∧ kget k s.pcie.reads = none) ∧
    (∃ (s : State) (k : Nat) (r : HostRead) (bs : List Byte),
      s.pow.hubOn = true ∧ s.on fPCIE_LINK_STATUS_DL_ACTIVE = true ∧ kget k s.pcie.reads = some r ∧ r.failed = false ∧ r.got.length + bs.length < r.size) ∧
    (∃ (s : State) (k : Nat) (r : HostRead) (c : Nat),
      s.pow.hubOn = true ∧ s.on fPCIE_LINK_STATUS_DL_ACTIVE = true ∧ kget k s.pcie.reads = some r ∧ r.owner = .hoist c ∧ r.failed = false ∧ r.got.length < r.size) :=
  ⟨⟨(wb [] {} {}), 15, 0xFFFFC, ([1#8, 2#8, 3#8, 4#8]), by unfold HostAsks; decide +kernel⟩,
   ⟨(wb [(fFABRIC_STATUS_ID_VALID, 0)] {} {}), 15, 0xFFFFC, ([1#8, 2#8, 3#8, 4#8]), by unfold HostAsks; decide +kernel⟩,
   ⟨(wb [(fBRIDGE_OUT_WIN_CTRL_EN 15, 0)] {} {}), 15, 0xFFFFC, [1#8], by unfold HostAsks; decide +kernel⟩,
   ⟨(wb [] {} {}), 15, 0xFFFFF, ([1#8, 2#8]), by unfold HostAsks; decide +kernel⟩,
   ⟨(wb [] {} {}), 15, 0xFFFFF, 1, by unfold HostAsks; decide +kernel⟩,
   ⟨(wb [(fFABRIC_PORT_STATUS_STATE 3, 0)] {} {}), 15, 0xFFFFF, 1, by unfold HostAsks; decide +kernel⟩,
   ⟨(wb [] {} {}), 15, 0xFFFFF, 2, by unfold HostAsks; decide +kernel⟩,
   ⟨(wb [] { done := [(9, doneF)] } { wins := [(9, heldW)] }), 9, heldW, doneF, by decide +kernel⟩,
   ⟨(wb [] { done := [(9, { doneF with status := 3 })] } { wins := [(9, heldW)] }), 9, heldW, ({ doneF with status := 3 }), by decide +kernel⟩,
   ⟨(wb [] { done := [(9, doneF)] } { wins := [(9, { heldW with expired := true })] }), 9, ({ heldW with expired := true }), doneF, by decide +kernel⟩,
   ⟨(wb [] { done := [(9, { doneF with status := 3 })] } { writes := [(9, heldW)] }), 9, heldW, ({ doneF with status := 3 }), by decide +kernel⟩,
   ⟨({ wb [] {} { wins := [(9, heldW)] } with now := 20000000 }), 9, heldW, by decide +kernel⟩,
   ⟨(wb [] {} {}), 15, 0x7B#32, by decide +kernel⟩,
   ⟨(wb [] {} {}), 15, 0x7D#32, by decide +kernel⟩,
   ⟨(wb [(fPCIE_LP5X_WIN_HI_ADDR, 3)] {} {}), 0xFFFFFFF, 1, 0x30FFFFFFF, by unfold HostAsks; decide +kernel⟩,
   ⟨(setCfg (wb [(fPCIE_LP5X_WIN_LO_ADDR, 3)] {} {}) 0x228 0x900), 0x1FFFFFFF, 1, 0x3FFFFFFF, by unfold HostAsks; decide +kernel⟩,
   ⟨(wb [(fPCIE_LP5X_WIN_HI_ADDR, 3)] {} {}), 0xFFFFFFE, ([1#8, 2#8]), 0x30FFFFFFE, by unfold HostAsks; decide +kernel⟩,
   ⟨(wb [(fPCIE_LP5X_WIN_HI_ADDR, 3)] {} {}), 0xFFFFFFE, ([1#8, 2#8]), 0x30FFFFFFE, by unfold HostAsks; decide +kernel⟩,
   ⟨(wb [(fPCIE_LP5X_WIN_HI_ADDR, 3), (fPWR_DOM_STATE 11, 3)] {} {}), 0xFFFFFFE, ([1#8, 2#8]), 0x30FFFFFFE, by unfold HostAsks; decide +kernel⟩,
   ⟨(wb [] {} {}), by unfold HostAsks; decide +kernel⟩,
   ⟨(wb [] {} {}), by unfold HostAsks; decide +kernel⟩,
   ⟨(wb [] {} {}), 7, by decide +kernel⟩,
   ⟨({ wb [] {} {} with pcie := { reads := [(7, hostR)] } }), 7, hostR, [1#8], by decide +kernel⟩,
   ⟨({ wb [] {} {} with pcie := { reads := [(7, hostR)] } }), 7, hostR, 255, by decide +kernel⟩⟩

theorem witness_LinkPowerAndErrors :
    (∃ (s : State),
      s.pow.hubOn = true ∧ s.on fPCIE_LINK_STATUS_DL_ACTIVE = true ∧ linkPower s = 0 ∧ s.on fPCIE_LINK_STATUS_FLIT = false ∧ bitAt (cfgN s 0x080) 0 = true) ∧
    (∃ (s : State),
      s.pow.hubOn = true ∧ s.on fPCIE_LINK_STATUS_FLIT = true) ∧
    (∃ (s : State),
      s.pow.hubOn = true ∧ s.on fPCIE_LINK_STATUS_DL_ACTIVE = true ∧ linkPower s = 1) ∧
    (∃ (s : State),
      s.pow.hubOn = true ∧ s.on fPCIE_LINK_STATUS_DL_ACTIVE = true ∧ linkPower s ≤ 1 ∧ bitAt (cfgN s 0x080) 1 = true ∧ hostStream s = false ∧ s.ring.opened = [] ∧ s.ring.waiting = [] ∧ doorbellOpen s = false ∧ s.ring.shadowReads = 0 ∧ s.pcie.reads = []) ∧
    (∃ (s : State),
      s.pow.hubOn = true ∧ (hostStream s = true ∨ s.ring.opened ≠ [] ∨ s.ring.waiting ≠ [] ∨ doorbellOpen s = true ∨ s.pcie.reads ≠ [])) ∧
    (∃ (s : State),
      s.pow.hubOn = true ∧ s.on fPCIE_LINK_STATUS_DL_ACTIVE = true ∧ linkPower s = 2) ∧
    (∃ (s : State),
      s.pow.hubOn = true ∧ s.on fPCIE_LINK_STATUS_DL_ACTIVE = true ∧ linkPower s = 2 ∧ (bitAt (cfgN s 0x240) 2 = true ∨ bitAt (cfgN s 0x240) 3 = true)) ∧
    (∃ (s : State),
      s.pow.hubOn = true ∧ s.on fPCIE_LINK_STATUS_DL_ACTIVE = true ∧ (linkPower s = 3 ∨ linkPower s = 4)) ∧
    (∃ (s : State) (w : Nat),
      s.pow.hubOn = true ∧ s.on fPCIE_LINK_STATUS_DL_ACTIVE = true ∧ linkPower s = 0 ∧ s.on fPCIE_LINK_STATUS_FLIT = true ∧ s.fv fPCIE_LINK_STATUS_RATE = 6 ∧ s.on fPCIE_ASPM_CFG_L0P_EN = true ∧ w < s.fv fPCIE_LINK_STATUS_WIDTH ∧ (w = 4 ∨ (w ∈ [1, 2] ∧ hostStream s = false))) ∧
    (∃ (s : State) (w : Nat),
      s.pow.hubOn = true ∧ (s.on fPCIE_LINK_STATUS_FLIT = false ∨ s.on fPCIE_ASPM_CFG_L0P_EN = false ∨ (w < 4 ∧ hostStream s = true))) ∧
    (∃ (s : State) (w : Nat),
      s.pow.hubOn = true ∧ s.on fPCIE_LINK_STATUS_DL_ACTIVE = true ∧ linkPower s = 5 ∧ s.fv fPCIE_LINK_STATUS_L0P_WIDTH < w ∧ w ≤ s.fv fPCIE_LINK_STATUS_WIDTH ∧ w < 16) ∧
    (∃ (s : State),
      HostAsks s ∧ bitsOf (cfgN s 0x044) 0 2 ≠ 3) ∧
    (∃ (s : State),
      HostAsks s ∧ bitsOf (cfgN s 0x044) 0 2 = 3) ∧
    (∃ (s : State),
      s.pow.hubOn = true ∧ s.on fPCIE_LINK_STATUS_DL_ACTIVE = true) ∧
    (∃ (s : State) (e : LinkError) (b : Nat),
      s.pow.hubOn = true ∧ s.on fPCIE_LINK_STATUS_DL_ACTIVE = true ∧ (e, b) ∈ [(LinkError.receiver, 0), (.badTlp, 6), (.badDllp, 7), (.replayRollover, 8), (.replayTimeout, 12)]) ∧
    (∃ (s : State),
      s.pow.hubOn = true ∧ s.on fPCIE_LINK_STATUS_DL_ACTIVE = true) ∧
    (∃ (s : State),
      s.pow.hubOn = true ∧ s.on fPCIE_LINK_STATUS_DL_ACTIVE = true) ∧
    (∃ (s : State) (e : LinkError) (b : Nat),
      s.pow.hubOn = true ∧ s.on fPCIE_LINK_STATUS_DL_ACTIVE = true ∧ (e, b) ∈ [(LinkError.malformed, 18), (.flowControl, 13), (.overflow, 17), (.dataLink, 4)]) :=
  ⟨⟨(lb [] [(0x080, 1)]), by decide +kernel⟩,
   ⟨(lb [(fPCIE_LINK_STATUS_FLIT, 1)] [(0x080, 3)]), by decide +kernel⟩,
   ⟨(lb [(fPCIE_LINK_STATUS_POWER, 1)] []), by decide +kernel⟩,
   ⟨(lb [(fPCIE_LINK_STATUS_POWER, 1)] [(0x080, 3)]), by decide +kernel⟩,
   ⟨({ lb [] [(0x080, 3)] with ring := { opened := [cmdOf 1] } }), by decide +kernel⟩,
   ⟨(lb [(fPCIE_LINK_STATUS_POWER, 2)] []), by decide +kernel⟩,
   ⟨(lb [(fPCIE_LINK_STATUS_POWER, 2)] [(0x240, 0xC)]), by decide +kernel⟩,
   ⟨(lb [(fPCIE_LINK_STATUS_POWER, 4)] []), by decide +kernel⟩,
   ⟨(lb [(fPCIE_LINK_STATUS_FLIT, 1), (fPCIE_LINK_STATUS_RATE, 6), (fPCIE_LINK_STATUS_WIDTH, 8)] []), 1, by decide +kernel⟩,
   ⟨(lb [(fPCIE_LINK_STATUS_FLIT, 1), (fPCIE_LINK_STATUS_RATE, 6), (fPCIE_LINK_STATUS_WIDTH, 8), (fPCIE_ASPM_CFG_L0P_EN, 0)] []), 4, by decide +kernel⟩,
   ⟨(lb [(fPCIE_LINK_STATUS_POWER, 5), (fPCIE_LINK_STATUS_L0P_WIDTH, 1), (fPCIE_LINK_STATUS_WIDTH, 8)] []), 8, by decide +kernel⟩,
   ⟨(lb [] []), by unfold HostAsks; decide +kernel⟩,
   ⟨(lb [(fPCIE_LINK_STATUS_POWER, 6)] [(0x044, 3)]), by unfold HostAsks; decide +kernel⟩,
   ⟨(lb [] []), by decide +kernel⟩,
   ⟨(lb [] []), .badDllp, 7, by decide +kernel⟩,
   ⟨(lb [] []), by decide +kernel⟩,
   ⟨(lb [] []), by decide +kernel⟩,
   ⟨(lb [] []), .dataLink, 4, by decide +kernel⟩⟩

theorem witness_Attestation :
    (∃ (s : State) (i : Nat) (v : Nat),
      HostAsks s ∧ (i, v) ∈ [(0, 0x01000001), (1, 0x02010001), (2, 0x00020001)]) ∧
    (∃ (s : State),
      HostAsks s) ∧
    (∃ (s : State),
      HostAsks s ∧ 1 ≤ s.spdm.phase) ∧
    (∃ (s : State),
      HostAsks s ∧ 2 ≤ s.spdm.phase) ∧
    (∃ (s : State),
      HostAsks s ∧ s.spdm.phase = 0) ∧
    (∃ (s : State),
      HostAsks s ∧ 3 ≤ s.spdm.phase ∧ s.fv fIDENT_STATUS_CHAIN_OK = 1) ∧
    (∃ (s : State),
      HostAsks s ∧ 3 ≤ s.spdm.phase ∧ s.fv fIDENT_STATUS_CHAIN_OK = 0) ∧
    (∃ (s : State) (off : Nat),
      HostAsks s ∧ 3 ≤ s.spdm.phase ∧ s.fv fIDENT_STATUS_CHAIN_OK = 1 ∧ off ≤ chainLen s) ∧
    (∃ (s : State) (slot : Nat),
      HostAsks s ∧ 3 ≤ s.spdm.phase ∧ s.fv fIDENT_STATUS_CHAIN_OK = 1 ∧ slot ≠ 0) ∧
    (∃ (s : State),
      HostAsks s ∧ 3 ≤ s.spdm.phase ∧ s.fv fIDENT_STATUS_CHAIN_OK = 1) ∧
    (∃ (s : State),
      HostAsks s ∧ 3 ≤ s.spdm.phase ∧ s.fv fIDENT_STATUS_CHAIN_OK = 0) ∧
    (∃ (s : State),
      HostAsks s ∧ 3 ≤ s.spdm.phase) ∧
    (∃ (s : State),
      HostAsks s ∧ 3 ≤ s.spdm.phase) ∧
    (∃ (s : State),
      HostAsks s ∧ 3 ≤ s.spdm.phase) ∧
    (∃ (s : State) (i : Nat),
      HostAsks s ∧ 3 ≤ s.spdm.phase ∧ i ∈ [1, 2, 3]) ∧
    (∃ (s : State),
      HostAsks s ∧ 3 ≤ s.spdm.phase ∧ s.fv fIDENT_STATUS_CHAIN_OK = 1 ∧ s.spdm.sessions.length < 4) ∧
    (∃ (s : State),
      HostAsks s ∧ 3 ≤ s.spdm.phase ∧ s.fv fIDENT_STATUS_CHAIN_OK = 1 ∧ 4 ≤ s.spdm.sessions.length) ∧
    (∃ (s : State) (k : Nat) (x : SpdmSession),
      HostAsks s ∧ 3 ≤ s.spdm.phase ∧ sessionOf s k = some x ∧ x.finished = false ∧ s.spdm.sessions.length ≤ 4) ∧
    (∃ (s : State) (k : Nat) (x : SpdmSession),
      HostAsks s ∧ 3 ≤ s.spdm.phase ∧ sessionOf s k = some x ∧ x.finished = false) ∧
    (∃ (s : State) (k : Nat) (x : SpdmSession),
      HostAsks s ∧ sessionOf s k = some x ∧ x.finished = true) ∧
    (∃ (s : State) (k : Nat),
      HostAsks s ∧ sessionOf s k = none) ∧
    (∃ (s : State) (k : Nat) (x : SpdmSession),
      HostAsks s ∧ sessionOf s k = some x ∧ x.finished = true) ∧
    (∃ (s : State) (k : Nat) (x : SpdmSession),
      HostAsks s ∧ sessionOf s k = some x ∧ x.finished = true ∧ s.spdm.sessions.length ≤ 4) ∧
    (∃ (s : State),
      HostAsks s) :=
  ⟨⟨(lb [] []), 2, 0x00020001, by unfold HostAsks; decide +kernel⟩,
   ⟨(lb [] []), by unfold HostAsks; decide +kernel⟩,
   ⟨(sp 1 []), by unfold HostAsks; decide +kernel⟩,
   ⟨(sp 2 []), by unfold HostAsks; decide +kernel⟩,
   ⟨(sp 0 []), by unfold HostAsks; decide +kernel⟩,
   ⟨(sp 3 []), by unfold HostAsks; decide +kernel⟩,
   ⟨(S [(fIDENT_STATUS_CHAIN_OK, 0)] (sp 3 [])), by unfold HostAsks; decide +kernel⟩,
   ⟨(sp 3 []), 0, by unfold HostAsks; decide +kernel⟩,
   ⟨(sp 3 []), 1, by unfold HostAsks; decide +kernel⟩,
   ⟨(sp 3 []), by unfold HostAsks; decide +kernel⟩,
   ⟨(S [(fIDENT_STATUS_CHAIN_OK, 0)] (sp 3 [])), by unfold HostAsks; decide +kernel⟩,
   ⟨(sp 3 []), by unfold HostAsks; decide +kernel⟩,
   ⟨(sp 3 []), by unfold HostAsks; decide +kernel⟩,
   ⟨(sp 3 []), by unfold HostAsks; decide +kernel⟩,
   ⟨(sp 3 []), 3, by unfold HostAsks; decide +kernel⟩,
   ⟨(sp 3 [⟨5, true⟩]), by unfold HostAsks; decide +kernel⟩,
   ⟨(sp 3 [⟨5, true⟩, ⟨6, false⟩, ⟨7, true⟩, ⟨8, true⟩]), by unfold HostAsks; decide +kernel⟩,
   ⟨(sp 3 [⟨5, true⟩, ⟨6, false⟩, ⟨7, true⟩, ⟨8, true⟩]), 6, (⟨6, false⟩), by unfold HostAsks; decide +kernel⟩,
   ⟨(sp 3 [⟨5, true⟩, ⟨6, false⟩, ⟨7, true⟩, ⟨8, true⟩]), 6, (⟨6, false⟩), by unfold HostAsks; decide +kernel⟩,
   ⟨(sp 3 [⟨5, true⟩, ⟨6, false⟩, ⟨7, true⟩, ⟨8, true⟩]), 8, (⟨8, true⟩), by unfold HostAsks; decide +kernel⟩,
   ⟨(sp 3 [⟨5, true⟩]), 6, by unfold HostAsks; decide +kernel⟩,
   ⟨(sp 3 [⟨5, true⟩]), 5, (⟨5, true⟩), by unfold HostAsks; decide +kernel⟩,
   ⟨(sp 3 [⟨5, true⟩, ⟨6, true⟩]), 6, (⟨6, true⟩), by unfold HostAsks; decide +kernel⟩,
   ⟨(sp 0 []), by unfold HostAsks; decide +kernel⟩⟩

theorem witness_KeysAndBanks :
    (∃ (s : State) (x : SpdmSession) (v : Word),
      s.pow.hubOn = true ∧ bitAt v.toNat 0 = true ∧ bitAt v.toNat 1 = true ∧ sessionOf s (s.rn rIDENT_GMAC_SESSION) = some x ∧ x.finished = true ∧ s.dial < 2 ^ 64) ∧
    (∃ (s : State) (v : Word),
      s.pow.hubOn = true ∧ bitAt v.toNat 0 = true ∧ bitAt v.toNat 1 = true ∧ ((∀ x, sessionOf s (s.rn rIDENT_GMAC_SESSION) = some x → x.finished = false))) ∧
    (∃ (s : State) (v : Word),
      s.pow.hubOn = true ∧ bitAt v.toNat 0 = true ∧ bitAt v.toNat 1 = false) ∧
    (∃ (s : State) (v : Word) (k : Nat),
      s.pow.hubOn = true ∧ bitAt v.toNat 0 = false ∧ bitAt v.toNat 1 = false ∧ s.ident.cur = some k) ∧
    (∃ (s : State) (v : Word) (part : Nat) (body : Nat),
      s.pow.hubOn = true ∧ bitAt v.toNat 16 = true ∧ part = bitsOf v.toNat 17 1 ∧ bitsOf v.toNat 0 16 = 0xA771 ∧ s.fv fATTIC_UPD_STATUS_STATE ≠ 1 ∧ lpRange s (updSrc s) (s.fv fATTIC_UPD_LEN_BYTES) = true ∧ body = leNat (memRead s (updSrc s + 0x0C) 4) ∧ body ≤ bankSize part ∧ s.fv fATTIC_UPD_LEN_BYTES = round256 (64 + body) ∧ s.fv fATTIC_STATUS_CONFIG_EMPTY = 0) ∧
    (∃ (s : State) (v : Word),
      s.pow.hubOn = true ∧ bitAt v.toNat 16 = true ∧ s.fv fATTIC_UPD_STATUS_STATE ≠ 1 ∧ (bitsOf v.toNat 0 16 ≠ 0xA771 ∨ lpRange s (updSrc s) (s.fv fATTIC_UPD_LEN_BYTES) = false ∨ bankSize (bitsOf v.toNat 17 1) < leNat (memRead s (updSrc s + 0x0C) 4) ∨ s.fv fATTIC_UPD_LEN_BYTES ≠ round256 (64 + leNat (memRead s (updSrc s + 0x0C) 4)))) ∧
    (∃ (s : State) (v : Word),
      s.pow.hubOn = true ∧ bitAt v.toNat 16 = true ∧ s.fv fATTIC_UPD_STATUS_STATE = 1) ∧
    (∃ (s : State) (u : AtticUpd) (sigOk : Bool),
      s.pow.hubOn = true ∧ s.attic.upd = some u ∧ u.step = 0 ∧ imageOk s u sigOk = true) ∧
    (∃ (s : State) (u : AtticUpd) (sigOk : Bool),
      s.pow.hubOn = true ∧ s.attic.upd = some u ∧ u.step = 0 ∧ imageOk s u sigOk = false) ∧
    (∃ (s : State) (u : AtticUpd) (k : Nat),
      s.pow.hubOn = true ∧ s.attic.upd = some u ∧ u.step = 1 ∧ u.part ≤ 1 ∧ u.bank ≤ 1 ∧ u.next < ceilDiv (64 + u.length) 65536 ∧ u.length ≤ bankSize u.part - 64 ∧ k = bankBase u.part u.bank / 65536 + u.next) ∧
    (∃ (s : State) (u : AtticUpd) (lo : Nat) (hi : Nat),
      s.pow.hubOn = true ∧ s.attic.upd = some u ∧ u.step = 2 ∧ lo = max 64 (256 * u.next) ∧ hi = min (64 + u.length) (256 * (u.next + 1))) ∧
    (∃ (s : State) (u : AtticUpd),
      s.pow.hubOn = true ∧ s.attic.upd = some u ∧ u.step = 4 ∧ u.part ≤ 1 ∧ u.bank ≤ 1) ∧
    (∃ (s : State) (u : AtticUpd),
      s.pow.hubOn = true ∧ s.attic.upd = some u ∧ u.step = 3 ∧ (crc32c (atticRead s (bankBase u.part u.bank + 64) u.length)).toNat = u.crc) ∧
    (∃ (s : State) (u : AtticUpd) (held : Bool),
      s.pow.hubOn = true ∧ s.attic.upd = some u ∧ u.step = 3 ∧ (held = false ∨ (crc32c (atticRead s (bankBase u.part u.bank + 64) u.length)).toNat ≠ u.crc)) ∧
    (∃ (s : State),
      s.pow.hubOn = true) :=
  ⟨⟨({ sp 3 [⟨5, true⟩] with regs := [(rIDENT_GMAC_SESSION, 5#32)], ident := { cur := some 4 } }), (⟨5, true⟩), 3#32, by decide +kernel⟩,
   ⟨({ sp 3 [⟨5, false⟩] with regs := [(rIDENT_GMAC_SESSION, 5#32)] }), 3#32, by decide +kernel⟩,
   ⟨base, 1#32, by decide +kernel⟩,
   ⟨({ base with ident := { cur := some 4 } }), 0#32, 4, by decide +kernel⟩,
   ⟨(upd [(fATTIC_UPD_LEN_BYTES, 256), (fATTIC_STATUS_CFG_BANK, 1), (fATTIC_STATUS_CONFIG_EMPTY, 0)] none), 0x1A771#32, 0, 64, by decide +kernel⟩,
   ⟨(upd [(fATTIC_UPD_LEN_BYTES, 512), (fATTIC_STATUS_CFG_BANK, 1)] none), 0x1A771#32, by decide +kernel⟩,
   ⟨(upd [(fATTIC_UPD_STATUS_STATE, 1)] none), 0x1A771#32, by decide +kernel⟩,
   ⟨(upd [(fATTIC_UPD_STATUS_STATE, 1)] (some updA)), updA, false, by decide +kernel⟩,
   ⟨(upd [(fATTIC_UPD_STATUS_STATE, 1)] (some { updA with part := 1 })), ({ updA with part := 1 }), false, by decide +kernel⟩,
   ⟨(upd [(fATTIC_STATUS_VALID, 15)] (some { updA with step := 1 })), ({ updA with step := 1 }), 2, by decide +kernel⟩,
   ⟨(upd [] (some { updA with step := 2 })), ({ updA with step := 2 }), 64, 128, by decide +kernel⟩,
   ⟨(upd [(fATTIC_UPD_STATUS_STATE, 1)] (some { updA with step := 4 })), ({ updA with step := 4 }), by decide +kernel⟩,
   ⟨(upd [] (some { updA with step := 3, length := 0 })), ({ updA with step := 3, length := 0 }), by decide +kernel⟩,
   ⟨(upd [] (some { updA with step := 3, length := 0 })), ({ updA with step := 3, length := 0 }), false, by decide +kernel⟩,
   ⟨base, by decide +kernel⟩⟩

theorem witness_RegisterAccess :
    (∃ (s : State) (q : Requester) (off : Nat) (v : Word) (r : RegRow) (i : Nat) (j : Nat),
      Reaches s q ∧ off ∈ plainRegs ∧ regAt off = some (r, i, j) ∧ r.flds.any (fieldBad v.toNat) = false) ∧
    (∃ (s : State) (q : Requester) (v : Word),
      Reaches s q ∧ (bitsOf v.toNat 0 6 = 0 ∨ 40 < bitsOf v.toNat 0 6)) ∧
    (∃ (s : State) (q : Requester),
      Reaches s q) ∧
    (∃ (s : State) (q : Requester) (off : Nat),
      Reaches s q ∧ off < 0x2000000 ∧ off % 4 = 0 ∧ regAt off = none ∧ byteServed off = false) ∧
    (∃ (s : State) (q : Requester) (off : Nat) (bytes : List Byte),
      Reaches s q ∧ off < 0x2000000 ∧ bytes ≠ [] ∧ bytes.length ≤ 64 ∧ byteRange off bytes.length = false ∧ wordAccess off bytes.length = false) ∧
    (∃ (s : State) (off : Nat) (bytes : List Byte),
      HostAsks s ∧ off < 0x2000000 ∧ 64 < bytes.length) ∧
    (∃ (s : State) (off : Nat) (bytes : List Byte),
      HostAsks s ∧ off < 0x2000000 ∧ bytes.length ≤ 64) ∧
    (∃ (s : State) (q : Requester) (off : Nat),
      Reaches s q ∧ off ∈ [rPCIE_CNT_A, rPCIE_CNT_B, rPCIE_CNT_C, rBRIDGE_CNT_A, rBRIDGE_CNT_B]) ∧
    (∃ (s : State) (q : Requester) (lo : Nat) (hi : Nat),
      Reaches s q ∧ (lo, hi) ∈ [(rIDENT_SERIAL_LO, rIDENT_SERIAL_HI), (rATTIC_UPD_SRC_LO, rATTIC_UPD_SRC_HI), (rIDENT_GMAC_FROM_LO, rIDENT_GMAC_FROM_HI)] ∧ lo % 8 = 0) ∧
    (∃ (s : State) (q : Requester) (off : Nat),
      Reaches s q ∧ off < 0x2000000 ∧ off % 4 = 0 ∧ regAt off = none ∧ byteServed off = false) ∧
    (∃ (s : State) (q : Requester) (off : Nat) (size : Nat),
      Reaches s q ∧ off < 0x2000000 ∧ 0 < size ∧ size ≤ 64 ∧ byteRange off size = false ∧ wordAccess off size = false) ∧
    (∃ (s : State) (size : Nat),
      HostAsks s ∧ 64 < size) ∧
    (∃ (s : State) (q : Requester),
      Reaches s q ∧ s.dial < 2 ^ 64) ∧
    (∃ (s : State) (q : Requester) (lo : Nat),
      Reaches s q ∧ (pathLatch s q).pair = some lo ∧ lo ∈ [rREGU_DIAL_LO, rIDENT_SERIAL_LO, rATTIC_UPD_SRC_LO]) :=
  ⟨⟨base, .island, rBRIDGE_CFG, 0x7D4A#32, (((regAt rBRIDGE_CFG).map (·.1)).getD ⟨0, 0, 0, 0, 0, 0, 0, 0, false, []⟩), 0, 0, by unfold Reaches HostAsks; decide +kernel⟩,
   ⟨base, .island, 0xFFFF0029#32, by unfold Reaches HostAsks; decide +kernel⟩,
   ⟨base, .island, by unfold Reaches HostAsks; decide +kernel⟩,
   ⟨base, .mgt, 0x1FFFFFC, by unfold Reaches HostAsks; decide +kernel⟩,
   ⟨base, .island, 2, ([1#8, 2#8]), by unfold Reaches HostAsks; decide +kernel⟩,
   ⟨(lb [] []), 0, (List.replicate 65 1#8), by unfold HostAsks; decide +kernel⟩,
   ⟨(lb [] []), 0, [1#8], by unfold HostAsks; decide +kernel⟩,
   ⟨(S [(fBRIDGE_CNT_B_QUEUE_FULL, 3)]), .island, rBRIDGE_CNT_B, by unfold Reaches HostAsks; decide +kernel⟩,
   ⟨base, .island, rIDENT_GMAC_FROM_LO, rIDENT_GMAC_FROM_HI, by unfold Reaches HostAsks; decide +kernel⟩,
   ⟨base, .island, 0x1FFFFFC, by unfold Reaches HostAsks; decide +kernel⟩,
   ⟨base, .island, 1, 1, by unfold Reaches HostAsks; decide +kernel⟩,
   ⟨(lb [] []), 65, by unfold HostAsks; decide +kernel⟩,
   ⟨({ base with regu := { dial := 2 ^ 33 + 5 } }), .island, by unfold Reaches HostAsks; decide +kernel⟩,
   ⟨({ base with regu := { latchIsl := ⟨some rREGU_DIAL_LO, 7#32⟩ } }), .island, rREGU_DIAL_LO, by unfold Reaches HostAsks; decide +kernel⟩⟩

theorem witness_ManagementReads :
    (∃ (s : State) (len : Nat),
      MgtHears s ∧ len ≤ 2) ∧
    (∃ (s : State) (len : Nat),
      MgtHears s ∧ len ≤ 20) ∧
    (∃ (s : State) (len : Nat),
      MgtHears s ∧ len ≤ 5) ∧
    (∃ (s : State) (len : Nat),
      MgtHears s ∧ len ≤ 5) ∧
    (∃ (s : State) (len : Nat),
      MgtHears s ∧ len ≤ 34) ∧
    (∃ (s : State) (len : Nat),
      MgtHears s ∧ len ≤ 3) ∧
    (∃ (s : State) (len : Nat),
      MgtHears s ∧ len ≤ 5) ∧
    (∃ (s : State) (len : Nat),
      MgtHears s ∧ len ≤ 3) ∧
    (∃ (s : State) (len : Nat),
      MgtHears s ∧ len ≤ 5) ∧
    (∃ (s : State) (len : Nat),
      MgtHears s ∧ len ≤ 2) ∧
    (∃ (s : State) (len : Nat),
      MgtHears s ∧ len ≤ 2) ∧
    (∃ (s : State) (len : Nat),
      MgtHears s ∧ len ≤ 12) ∧
    (∃ (s : State) (len : Nat) (a : Nat),
      MgtHears s ∧ len ≤ 6 ∧ s.mgt.addr = a ∧ a ∈ [rGLB_BOOT_STATUS, rGLB_RESET_CAUSE, rGLB_TILE_WHEELS 7, rPWR_DOM 17]) ∧
    (∃ (s : State) (len : Nat),
      MgtHears s ∧ len ≤ 6 ∧ (0x2000000 ≤ s.mgt.addr ∨ s.mgt.addr % 4 ≠ 0 ∨ mirrorGone s s.mgt.addr = true)) ∧
    (∃ (s : State) (len : Nat),
      MgtHears s ∧ 5 < len) ∧
    (∃ (s : State) (len : Nat),
      MgtHears s ∧ 2 < len) ∧
    (∃ (s : State) (bytes : List Byte),
      MgtHears s ∧ bytes ≠ []) ∧
    (∃ (s : State),
      MgtHears s) ∧
    (∃ (s : State),
      s.pow.powered = true ∧ s.on fMGT_STATUS_ACTIVE = false) :=
  ⟨⟨(base5 []), 2, by unfold MgtHears; decide +kernel⟩,
   ⟨(base5 []), 20, by unfold MgtHears; decide +kernel⟩,
   ⟨(base5 []), 5, by unfold MgtHears; decide +kernel⟩,
   ⟨(base5 []), 5, by unfold MgtHears; decide +kernel⟩,
   ⟨(base5 []), 34, by unfold MgtHears; decide +kernel⟩,
   ⟨(base5 []), 3, by unfold MgtHears; decide +kernel⟩,
   ⟨(base5 []), 5, by unfold MgtHears; decide +kernel⟩,
   ⟨(base5 []), 3, by unfold MgtHears; decide +kernel⟩,
   ⟨(base5 []), 5, by unfold MgtHears; decide +kernel⟩,
   ⟨(base5 []), 2, by unfold MgtHears; decide +kernel⟩,
   ⟨(base5 [(fMGT_LAST_ERROR_CODE, 2)]), 2, by unfold MgtHears; decide +kernel⟩,
   ⟨(base5 [(fMGT_CNT_COUNT 4, 2)]), 12, by unfold MgtHears; decide +kernel⟩,
   ⟨({ base5 [] with mgt := { addr := rPWR_DOM 17 } }), 6, (rPWR_DOM 17), by unfold MgtHears; decide +kernel⟩,
   ⟨({ base5 [] with mgt := { addr := 0x2000000 } }), 6, by unfold MgtHears; decide +kernel⟩,
   ⟨(base5 []), 6, by unfold MgtHears; decide +kernel⟩,
   ⟨(base5 [(fMGT_LAST_ERROR_CODE, 3)]), 3, by unfold MgtHears; decide +kernel⟩,
   ⟨(base5 []), [1#8], by unfold MgtHears; decide +kernel⟩,
   ⟨(base5 []), by unfold MgtHears; decide +kernel⟩,
   ⟨(base5 [(fMGT_STATUS_ACTIVE, 0)]), by decide +kernel⟩⟩

theorem witness_ManagementWrites :
    (∃ (s : State) (v : Word) (bytes : List Byte),
      MgtHears s ∧ mgtBytes s 0x04 false (leBytes 4 v.toNat) bytes) ∧
    (∃ (s : State) (v : Nat) (bytes : List Byte),
      MgtHears s ∧ v < 2 ^ 16 ∧ mgtBytes s 0x09 false (leBytes 2 v) bytes) ∧
    (∃ (s : State) (v : Nat) (bytes : List Byte),
      MgtHears s ∧ v < 2 ^ 16 ∧ mgtBytes s 0x0A false (leBytes 2 v) bytes) ∧
    (∃ (s : State) (v : Word) (bytes : List Byte),
      MgtHears s ∧ mgtBytes s 0x10 false (leBytes 4 v.toNat) bytes) ∧
    (∃ (s : State) (v : Word) (bytes : List Byte),
      MgtHears s ∧ mgtBytes s 0x12 true (leBytes 4 v.toNat) bytes ∧ s.mgt.addr = rGLB_RESET_CAUSE) ∧
    (∃ (s : State) (v : Word) (bytes : List Byte),
      MgtHears s ∧ mgtBytes s 0x12 true (leBytes 4 v.toNat) bytes ∧ s.mgt.addr ≠ rGLB_RESET_CAUSE ∧ s.mgt.addr ≠ rGLB_RESET_CTRL) ∧
    (∃ (s : State) (v : Word) (bytes : List Byte),
      MgtHears s ∧ mgtBytes s 0x12 true (leBytes 4 v.toNat) bytes ∧ s.mgt.addr = rGLB_RESET_CTRL) ∧
    (∃ (s : State) (v : Nat) (bytes : List Byte),
      MgtHears s ∧ v < 256 ∧ mgtBytes s 0x30 false (leBytes 1 v) bytes) ∧
    (∃ (s : State) (bytes : List Byte),
      MgtHears s ∧ bytes.length < 2) ∧
    (∃ (s : State) (bytes : List Byte),
      MgtHears s ∧ 3 < bytes.length) ∧
    (∃ (s : State) (bytes : List Byte),
      MgtHears s ∧ bytes.length = 2 ∧ s.on fMGT_CFG_PEC_REQUIRED = true) ∧
    (∃ (s : State) (d : List Byte) (pec : Byte),
      MgtHears s ∧ d.length = 2 ∧ pec ≠ crc8 ([mgtAddr s false, 0x0A] ++ d)) ∧
    (∃ (s : State) (bytes : List Byte),
      MgtHears s ∧ bytes ≠ [] ∧ (bytes.headD 0).toNat ≠ 4) ∧
    (∃ (s : State),
      MgtHears s) ∧
    (∃ (s : State),
      MgtHears s) ∧
    (∃ (s : State),
      MgtHears s) ∧
    (∃ (s : State),
      MgtHears s ∧ alertLow s = true) ∧
    (∃ (s : State),
      MgtHears s ∧ alertLow s = true) ∧
    (∃ (s : State),
      MgtHears s ∧ alertLow s = false) :=
  ⟨⟨(base5 [(fGLB_RESET_CAUSE_FLR, 1)]), 0xFF#32, (leBytes 4 0xFF), by unfold MgtHears mgtBytes; decide +kernel⟩,
   ⟨(base5 [(fMGT_ALERT_STATUS_ERROR, 1)]), 0x20, ([0x20#8, 0#8]), by unfold MgtHears mgtBytes; decide +kernel⟩,
   ⟨(base5 []), 0x20, ([0x20#8, 0#8]), by unfold MgtHears mgtBytes; decide +kernel⟩,
   ⟨(base5 []), 0x18#32, (leBytes 4 0x18), by unfold MgtHears mgtBytes; decide +kernel⟩,
   ⟨({ base5 [] with mgt := { addr := rGLB_RESET_CAUSE } }), 1#32, (4#8 :: leBytes 4 1), by unfold MgtHears mgtBytes; decide +kernel⟩,
   ⟨(base5 []), 1#32, (4#8 :: leBytes 4 1), by unfold MgtHears mgtBytes; decide +kernel⟩,
   ⟨({ base5 [] with mgt := { addr := rGLB_RESET_CTRL } }), 1#32, (4#8 :: leBytes 4 1), by unfold MgtHears mgtBytes; decide +kernel⟩,
   ⟨(base5 []), 255, [255#8], by unfold MgtHears mgtBytes; decide +kernel⟩,
   ⟨(base5 []), [1#8], by unfold MgtHears; decide +kernel⟩,
   ⟨(base5 []), ([1#8, 2#8, 3#8, 4#8]), by unfold MgtHears; decide +kernel⟩,
   ⟨(base5 [(fMGT_CFG_PEC_REQUIRED, 1)]), ([1#8, 2#8]), by unfold MgtHears; decide +kernel⟩,
   ⟨(base5 []), ([1#8, 2#8]), (crc8 ([mgtAddr (base5 []) false, 0x0A] ++ ([1#8, 2#8])) + 1), by unfold MgtHears; decide +kernel⟩,
   ⟨(base5 []), [5#8], by unfold MgtHears; decide +kernel⟩,
   ⟨(base5 []), by unfold MgtHears; decide +kernel⟩,
   ⟨(base5 []), by unfold MgtHears; decide +kernel⟩,
   ⟨(base5 []), by unfold MgtHears; decide +kernel⟩,
   ⟨(base5 [(fMGT_ALERT_STATUS_ERROR, 1)]), by unfold MgtHears; decide +kernel⟩,
   ⟨(base5 [(fMGT_ALERT_STATUS_ERROR, 1)]), by unfold MgtHears; decide +kernel⟩,
   ⟨(base5 []), by unfold MgtHears; decide +kernel⟩⟩

theorem witness_UnmappedAccesses :
    (∃ (s : State) (q : Requester) (off : Nat),
      Reaches s q ∧ off < 0x2000000 ∧ off % 4 = 0 ∧ regAt off = none) ∧
    (∃ (s : State) (q : Requester) (off : Nat) (n : Nat),
      Reaches s q ∧ 1 ≤ n ∧ n ≤ 16 ∧ off + 4 * n ≤ 0x2000000 ∧ off % 4 = 0 ∧ (n ≠ 2 ∨ off % 8 = 0) ∧ ((∀ k < 16, k < n → regAt (off + 4 * k) = none))) ∧
    (∃ (s : State) (q : Requester) (off : Nat) (poison : Bool),
      Reaches s q ∧ off < 0x2000000 ∧ off % 4 = 0 ∧ regAt off = none ∧ poison = false) :=
  ⟨⟨base, .mgt, 0x1FFFFFC, by unfold Reaches HostAsks; decide +kernel⟩,
   ⟨base, .mgt, 0x1FFFFC0, 16, by unfold Reaches HostAsks; decide +kernel⟩,
   ⟨base, .mgt, 0x1FFFFFC, false, by unfold Reaches HostAsks; decide +kernel⟩⟩

theorem witness_PairsReadAtOneInstant :
    (∃ (s : State) (q : Requester) (lo : Nat),
      Reaches s q ∧ pairLo lo = true ∧ lo < 0x2000000 ∧ lo % 8 = 0) ∧
    (∃ (s : State) (q : Requester) (lo : Nat),
      Reaches s q ∧ pairLo lo = true ∧ lo < 0x2000000 ∧ lo % 4 = 0) ∧
    (∃ (s : State) (q : Requester) (lo : Nat),
      Reaches s q ∧ pairLo lo = true ∧ lo < 0x2000000 ∧ lo % 4 = 0 ∧ (pathLatch s q).pair = some lo) ∧
    (∃ (s : State) (q : Requester) (lo : Nat),
      Reaches s q ∧ pairLo lo = true ∧ lo < 0x2000000 ∧ lo % 4 = 0 ∧ (pathLatch s q).pair ≠ some lo) :=
  ⟨⟨base, .island, rREGU_DIAL_LO, by unfold Reaches HostAsks; decide +kernel⟩,
   ⟨base, .island, rREGU_DIAL_LO, by unfold Reaches HostAsks; decide +kernel⟩,
   ⟨({ base with regu := { latchIsl := ⟨some rREGU_DIAL_LO, 7#32⟩ } }), .island, rREGU_DIAL_LO, by unfold Reaches HostAsks; decide +kernel⟩,
   ⟨({ base with regu := { latchIsl := ⟨some rIDENT_SERIAL_LO, 7#32⟩ } }), .island, rREGU_DIAL_LO, by unfold Reaches HostAsks; decide +kernel⟩⟩

theorem witness_UnexpectedCompletionsAreDiscarded :
    (∃ (s : State) (k : Nat),
      s.pow.hubOn = true ∧ s.on fPCIE_LINK_STATUS_DL_ACTIVE = true ∧ ((∀ r, kget k s.pcie.reads = some r → r.failed = true ∨ r.whole = true))) :=
  ⟨({ lb [] [] with pcie := { reads := [(7, { hostR with failed := true })] } }), 7, by decide +kernel⟩

theorem witness_DialSteps :
    (∃ (s : State) (q : Requester) (v : Word),
      Reaches s q ∧ bitAt v.toNat 2 = true ∧ streamsActive s = false ∧ s.fv fREGU_CTRL_SRC = 0) ∧
    (∃ (s : State) (q : Requester) (v : Word),
      Reaches s q ∧ bitAt v.toNat 2 = true ∧ (streamsActive s = true ∨ s.fv fREGU_CTRL_SRC = 1)) :=
  ⟨⟨(S [(⟨rREGU_DIAL_SET_HI, 0, 32⟩, 5)]), .island, 4#32, by unfold Reaches HostAsks; decide +kernel⟩,
   ⟨(S [(fREGU_CTRL_SRC, 1)]), .island, 5#32, by unfold Reaches HostAsks; decide +kernel⟩⟩

theorem witness_KeyedDeviceReset :
    (∃ (s : State) (q : Requester) (v : Word),
      Reaches s q ∧ s.pow.powered = true ∧ s.pow.phase ≠ .inReset ∧ bitAt v.toNat 16 = true ∧ bitsOf v.toNat 0 16 = 0xC10C) ∧
    (∃ (s : State) (q : Requester) (v : Word),
      Reaches s q ∧ (bitAt v.toNat 16 = false ∨ bitsOf v.toNat 0 16 ≠ 0xC10C)) ∧
    (∃ (s : State),
      s.pow.devReset = true ∧ s.now < s.pow.resetAt) ∧
    (∃ (s : State),
      s.pow.devReset = true ∧ s.pow.resetAt ≤ s.now) ∧
    (∃ (s : State),
      s.pow.phase ≠ .standby ∧ s.pow.powered = true) ∧
    (∃ (s : State),
      s.pow.selfRelease = true ∧ s.now < s.pow.releaseAt) ∧
    (∃ (s : State),
      s.pow.powered = true ∧ s.pow.selfRelease = true ∧ s.pow.releaseAt ≤ s.now ∧ s.pow.porst = true ∧ s.pow.sampled = true ∧ s.pow.seqError = false ∧ s.pow.phase = .inReset) ∧
    (∃ (s : State),
      s.pow.powered = true ∧ s.pow.selfRelease = true ∧ s.pow.releaseAt ≤ s.now ∧ s.pow.porst = false ∧ s.pow.phase = .inReset) ∧
    (∃ (s : State),
      s.pow.powered = true ∧ s.pow.porst = false ∧ s.pow.sawLow = true ∧ s.pow.sampled = true ∧ s.pow.seqError = false ∧ s.pow.selfRelease = false ∧ s.pow.phase = .inReset) :=
  ⟨⟨base, .island, 0x1C10C#32, by unfold Reaches HostAsks; decide +kernel⟩,
   ⟨base, .island, 0x1C10D#32, by unfold Reaches HostAsks; decide +kernel⟩,
   ⟨({ base with pow := { devReset := true, resetAt := 1 } }), by decide +kernel⟩,
   ⟨({ base with pow := { devReset := true, resetAt := 0 } }), by decide +kernel⟩,
   ⟨base, by decide +kernel⟩,
   ⟨({ ({} : State) with pow := { powered := true, selfRelease := true, releaseAt := 1 } }), by decide +kernel⟩,
   ⟨({ ({} : State) with pow := { powered := true, selfRelease := true, porst := true, sampled := true } }), by decide +kernel⟩,
   ⟨({ ({} : State) with pow := { powered := true, selfRelease := true } }), by decide +kernel⟩,
   ⟨({ ({} : State) with pow := { powered := true, sawLow := true, sampled := true, straps := 0x15 } }), by decide +kernel⟩⟩

theorem witness_TallyDataWindow :
    (∃ (s : State) (q : Requester) (u : Nat) (x : Nat) (bytes : List Byte),
      Reaches s q ∧ u < 16 ∧ bytes ≠ [] ∧ x + bytes.length ≤ 64 ∧ (tallySet s u).width ≤ 32) ∧
    (∃ (s : State) (q : Requester) (u : Nat) (x : Nat) (size : Nat),
      Reaches s q ∧ u < 16 ∧ 0 < size ∧ x + size ≤ 64) ∧
    (∃ (s : State) (u : Nat),
      s.pow.hubOn = true ∧ u < 16 ∧ (tallySet s u).width ≤ 32) :=
  ⟨⟨base, .island, 15, 63, [0x31#8], by unfold Reaches HostAsks; decide +kernel⟩,
   ⟨base, .island, 15, 61, 3, by unfold Reaches HostAsks; decide +kernel⟩,
   ⟨base, 15, by decide +kernel⟩⟩

theorem witness_UnsupportedRequests :
    (∃ (s : State),
      HostAsks s) ∧
    (∃ (s : State) (size : Nat),
      HostAsks s ∧ 64 < size) ∧
    (∃ (s : State) (bytes : List Byte),
      HostAsks s ∧ 64 < bytes.length) :=
  ⟨⟨(lb [] []), by unfold HostAsks; decide +kernel⟩,
   ⟨(lb [] []), 65, by unfold HostAsks; decide +kernel⟩,
   ⟨(lb [] []), (List.replicate 65 1#8), by unfold HostAsks; decide +kernel⟩⟩

/-! ### Witnesses of the statements about the whole device -/

theorem witness_StepRunsTheFrontCommand : ∃ (s : State) (c : Instr) (q : List Instr), s.pending = c :: q :=
  ⟨base.withPending [.trstNLow, .trstNLow], .trstNLow, [.trstNLow], rfl⟩

theorem witness_EmptyQueueIsOneNanosecond :
    (∃ s : State, s.pending = []) ∧
    (∃ s : State, s.pending = [] ∧ s.pow.hubOn = true ∧ s.fv fREGU_CTRL_SRC = 0 ∧ s.fv fREGU_CTRL_TRIM_EN = 0 ∧
      s.regu.frac = 0 ∧ s.regu.slewLeft = 0 ∧ s.dial + 1 < 2 ^ 64) ∧
    (∃ s : State, s.pending = [] ∧ s.pow.hubOn = false) :=
  ⟨⟨base, rfl⟩, ⟨{ base with regu := { dial := 2 ^ 64 - 2 } }, by decide +kernel⟩, ⟨State.reset, rfl, rfl⟩⟩

theorem witness_ResetLeavesResetValues :
    (∃ off r i j, regAt off = some (r, i, j) ∧ off ∉ [rIDENT_SERIAL_LO, rIDENT_SERIAL_HI, rIDENT_ROLLBACK] ∧
      ∀ d, 1 ≤ d → d ≤ 17 → off ≠ rPWR_DOM d) ∧ (∃ d : Nat, 1 ≤ d ∧ d ≤ 17) :=
  ⟨⟨rFABRIC_IN_WIN_LIMIT_LO 63, ((regAt (rFABRIC_IN_WIN_LIMIT_LO 63)).map (fun x => x.1)).getD ⟨0, 0, 0, 0, 0, 0, 0, 0, false, []⟩,
      0, 63, by decide +kernel, by decide +kernel, fun d h1 h2 => by
        have : rPWR_DOM d < 0x100000 := by simp only [rPWR_DOM]; omega
        intro e; rw [← e] at this; exact absurd this (by decide)⟩,
   ⟨17, by decide⟩⟩

theorem witness_EveryStepKeepsCanonicalForms : ∃ s t : State, Canonical s ∧ Steps s t :=
  ⟨base, tick base, by unfold Canonical; decide +kernel, rfl⟩

theorem witness_CommandsKeepTheQueueAndTheClock : ∃ (c : Instr) (s t : State), exec c s = .next t :=
  ⟨.trstNLow, base, base, rfl⟩

theorem witness_OnlyTheirCommandsReachAPart : ∃ (p : Part) (c : Instr) (s t : State),
    exec c s = .next t ∧ restarts c = false ∧ reaches p c = false :=
  ⟨.tile, .trstNLow, base, base, rfl, rfl, rfl⟩

theorem witness_WritesFollowAccessCodes : ∃ (off : Nat) (v : Word) (r : RegRow) (i j : Nat),
    regAt off = some (r, i, j) ∧ r.flds.any (fieldBad v.toNat) = false :=
  ⟨rFABRIC_IN_WIN_CTRL 63, 1#32, ((regAt (rFABRIC_IN_WIN_CTRL 63)).map (fun x => x.1)).getD ⟨0, 0, 0, 0, 0, 0, 0, 0, false, []⟩,
    0, 63, by decide +kernel⟩

theorem witness_ManagementReachesNothingElse : ∃ (c : Instr) (s t : State), isMgt c = true ∧ exec c s = .next t :=
  ⟨.mgtStatus (.read 64), base, (match exec (.mgtStatus (.read 64)) base with | .next t => t | _ => base), rfl, rfl⟩

/-- The regulator is source 132. Its event 0 is enabled, and its vector is 63. -/
def intBase (l : List (Fld × Nat)) (cfg : KMap Word) : State :=
  { S ([(fPCIE_LINK_STATUS_DL_ACTIVE, 1), (⟨rREGU_EVENT_EN, 0, 1⟩, 1), (fRING_INT_ROUTE_VECTOR 132, 63)] ++ l) with
    pcie := { cfg := cfg } }

theorem witness_EventsRaiseOneMessage :
    (∃ (s : State) (src ev en k : Nat), src < 512 ∧ (ev, en) ∈ srcRegs src ∧ k < 32 ∧ s.on ⟨en, k, 1⟩ = true ∧
      s.on (fRING_INT_ROUTE_PENDING src) = false ∧ s.on (fRING_INT_ROUTE_EN src) = true ∧ msixOn s = true ∧
      bitAt (cfgWord s 0x0B0).toNat 30 = false ∧ s.on (fMSIX_CTRL_MASK (s.fv (fRING_INT_ROUTE_VECTOR src))) = false ∧
      hostUp s = true) ∧
    (∃ (s : State) (src ev en k : Nat), src < 512 ∧ (ev, en) ∈ srcRegs src ∧ k < 32 ∧
      (s.on (fRING_INT_ROUTE_PENDING src) = true ∨ s.on (fRING_INT_ROUTE_EN src) = false)) ∧
    (∃ (s : State) (src ev en k : Nat), src < 512 ∧ (ev, en) ∈ srcRegs src ∧ k < 32 ∧ s.on ⟨en, k, 1⟩ = true ∧
      s.on (fRING_INT_ROUTE_PENDING src) = false ∧ s.on (fRING_INT_ROUTE_EN src) = true ∧ msixOn s = true ∧
      s.on (fMSIX_CTRL_MASK (s.fv (fRING_INT_ROUTE_VECTOR src))) = true) :=
  ⟨⟨intBase [(fRING_INT_ROUTE_EN 132, 1), (fMSIX_CTRL_MASK 63, 0)] [(4, 4#32), (0x0B0, 0x80000000#32)],
      132, rREGU_EVENT, rREGU_EVENT_EN, 0, by decide +kernel⟩,
   ⟨intBase [(fRING_INT_ROUTE_PENDING 132, 1)] [(4, 4#32)], 132, rREGU_EVENT, rREGU_EVENT_EN, 31, by decide +kernel⟩,
   ⟨intBase [(fRING_INT_ROUTE_EN 132, 1), (fMSIX_CTRL_MASK 63, 1)] [(0x0B0, 0x80000000#32)],
      132, rREGU_EVENT, rREGU_EVENT_EN, 0, by decide +kernel⟩⟩

/-! ### Checks against the spec's own numbers -/

/-- A block's commands have no words: opcode_table.json gives its rows no bits. -/
theorem test_no_words : decodeTableWord 32 0 = none := rfl

/-- After reset AON is on, and HUB is off (R533, R536). -/
theorem test_reset_domains : State.reset.fv (fPWR_DOM_STATE 0) = 0 ∧ State.reset.fv (fPWR_DOM_STATE 1) = 3 := by decide +kernel

/-- The CFA map resets to the Bayer map of the worked example (the text of R224): class 1. -/
theorem test_reset_cfa_is_bayer :
    (resetWord (rFE_CFA_MAP_HI 31)).toNat = 0x11448 ∧ rawClass (cfaCodes (fun o => (resetWord o).toNat) 31) = some 1 := by
  decide +kernel

/-- The check values of R461: each algorithm over the nine ASCII bytes 1 to 9. -/
def checkOf (algo : Nat) : Nat :=
  let x := stagedTally (S [(fTALLY_CTRL_ALGO 15, algo)]) 15
  x.result ([0x31, 0x32, 0x33, 0x34, 0x35, 0x36, 0x37, 0x38, 0x39].foldl x.feed x.init)
theorem test_tally_checks : checkOf 0 = 0xE3069283 ∧ checkOf 1 = 0xCBF43926 ∧ checkOf 2 = 0x29B1 ∧ checkOf 3 = 0xF4 := by
  decide +kernel

/-- The CRC-32C of hallmarks and plates is the same function (R188, R461). -/
theorem test_crc32c : crc32c [0x31, 0x32, 0x33, 0x34, 0x35, 0x36, 0x37, 0x38, 0x39] = 0xE3069283#32 := by decide +kernel

/-- The type P camera of the worked example (spec/25_worked_example.md): RAW12 Bayer, 2,048 by 1,536, on PIPE[0]. -/
def typeP : List (Nat × Nat) :=
  [(rSPORT_VC_MAP 0 0, 0x2B01), (rSPORT_VC_GEOM 0 0, 0x06000800), (rKSCHED_CTRL 0, 0x000C1184),
   (rKSCHED_FRAME 0, 0x01312D00), (rKSCHED_LINE 0, 0x00030D40), (rFE_CTRL 0, 0x1B3), (rSTATS_CTRL 0, 3),
   (rFE_CFA_MAP_LO 0, 0x8451208), (rFE_CFA_MAP_HI 0, 0x11448),
   (rOUT_CTRL 0 0, 0x45), (rOUT_CROP_XY 0 0, 0xC00000), (rOUT_CROP_SIZE 0 0, 0x4800800), (rOUT_SIZE 0 0, 0x21C03C0),
   (rOUT_CTRL 0 1, 0x71), (rOUT_CROP_SIZE 0 1, 0x6000800), (rOUT_SIZE 0 1, 0x6000800)]
def cfgP : Cfg := fun o => ((typeP.find? (fun x => x.1 == o)).map (fun x => x.2)).getD (resetWord o).toNat
/-- A fraction that is the whole number `n`. -/
def Fr.isNat (f : Fr) (n : Nat) : Bool := f.num == n * f.den

/-- Its host demand, its twin demand, its shelf and its chain are those that the worked example computes. -/
theorem test_worked_example_demand :
    let d := pipeDemand cfgP 0
    Fr.isNat d.host 69247334400 = true ∧ Fr.isNat d.twin 60753868800 = true ∧ d.shelf = 1835008 ∧ d.chainNs = 28000
      ∧ d.latency.map (fun f => Fr.isNat f 480000) = [true, true, false, false] := by decide +kernel

end Sys2Proof.Tests
end

namespace Sys2Proof.Machine

/-! ### Words on the register path (R5, R6) -/

theorem length_leBytes (n v : Nat) : (leBytes n v).length = n := by
  induction n generalizing v with
  | zero => rfl
  | succ n ih => simp [leBytes, ih]

theorem leNat_leBytes (n v : Nat) : leNat (leBytes n v) = v % 256 ^ n := by
  induction n generalizing v with
  | zero => simp [leBytes, leNat, Nat.mod_one]
  | succ n ih =>
    rw [Nat.pow_succ', Nat.mod_mul, leBytes, leNat, ih, BitVec.toNat_ofNat]

/-- The four bytes of a word stand for that word. -/
theorem ofNat_leNat_leBytes (v : Word) : BitVec.ofNat 32 (leNat (leBytes 4 v.toNat)) = v := by
  rw [leNat_leBytes, Nat.mod_eq_of_lt (show v.toNat < 256 ^ 4 from v.isLt), BitVec.ofNat_toNat, BitVec.setWidth_eq]

/-- Up to 64 bytes that are not poisoned reach the registers by every path that reaches them at all. -/
theorem writeBy_of_reaches {s : State} {q : Requester} {bytes : List Byte} (hs : Reaches s q) (hn : bytes.length ≤ 64)
    (off : Nat) (begun : Bool) (chk : BusCheck) (c : ChkCount) :
    writeBy s q off bytes false begun chk c = writeAccess s q off bytes begun chk c := by
  obtain ⟨hhub, hask⟩ := hs
  cases q with
  | host =>
    obtain ⟨-, hready, hlink⟩ := hask rfl
    simp [writeBy, hostReq, hub, hhub, hready, hlink, Nat.not_lt.mpr hn]
  | mgt => simp [writeBy, hub, hhub, List.take_of_length_le hn]
  | island => simp [writeBy, hub, hhub, List.take_of_length_le hn]

/-- One word written to a whole register outside the byte-served ones is one 4-byte write. -/
theorem writeAccess_word {off : Nat} (halign : off % 4 = 0) (hbyte : byteServed off = false) (s : State) (q : Requester)
    (v : Word) (begun : Bool) (chk : BusCheck) (c : ChkCount) :
    writeAccess s q off (leBytes 4 v.toNat) begun chk c = writeOne s q off v begun chk c := by
  have hrange : byteRange off 4 = false := by simp [byteRange, hbyte]
  have hword : wordAccess off 4 = true := by simp [wordAccess, halign]
  have hchunks : chunks 4 (leBytes 4 v.toNat) = [leBytes 4 v.toNat] := rfl
  simp [writeAccess, length_leBytes, hrange, hword, hchunks, writeEach, ofNat_leNat_leBytes]

/-- A register of GLB is always present, and GLB takes its write (R549). -/
theorem writeOne_glb {off : Nat} (hoff : off < 0x10000) (hreg : (regAt off).isNone = false) (s : State) (q : Requester)
    (v : Word) (begun : Bool) (chk : BusCheck) (c : ChkCount) :
    writeOne s q off v begun chk c = writeGlb s off v := by
  have hhere : presence s off = .here := by
    unfold presence
    rw [if_neg, if_neg, if_neg, if_neg] <;> simp <;> omega
  simp [writeOne, hreg, hhere, regWrite, hoff]

/-- A word that reaches GLB.RESET_CTRL is judged as a device reset request (R50). -/
theorem writeBy_resetCtrl {s : State} {q : Requester} (hs : Reaches s q) (v : Word) (begun : Bool) (chk : BusCheck)
    (c : ChkCount) :
    writeBy s q rGLB_RESET_CTRL (leBytes 4 v.toNat) false begun chk c = devReset s v := by
  rw [writeBy_of_reaches hs (by rw [length_leBytes]; decide), writeAccess_word (by decide) (by decide),
    writeOne_glb (by decide) (by decide +kernel), writeGlb, if_pos rfl]

/-! ### The request (R50) -/

theorem devReset_of_key {s : State} {v : Word} (hpow : s.pow.powered = true) (hph : s.pow.phase ≠ .inReset)
    (hbit : bitAt v.toNat 16 = true) (hkey : bitsOf v.toNat 0 16 = 0xC10C) :
    devReset s v = { s with pow := { s.pow with devReset := true, resetAt := s.now + 1000 } } := by
  simp [devReset, hpow, hph, hbit, hkey]

theorem devReset_of_no_key {s : State} {v : Word} (h : bitAt v.toNat 16 = false ∨ bitsOf v.toNat 0 16 ≠ 0xC10C) :
    devReset s v = s := by
  rcases h with hbit | hkey
  · simp [devReset, hbit]
  · simp [devReset, hkey]

/-! ### What a reset of device scope leaves (R36, R48) -/

@[simp] theorem strapRegs_pow (s : State) : (strapRegs s).pow = s.pow :=
  (keeps_strapRegs s rfl (Keeps.refl 0x8 s)).pow rfl

@[simp] theorem strapRegs_pcie (s : State) : (strapRegs s).pcie = s.pcie :=
  (keeps_strapRegs s rfl (Keeps.refl 0x8 s)).pcie rfl

/-- A fold of field updates leaves a register that none of them names. -/
theorem rn_foldl_setF {α : Type} {o : Nat} {f : α → Fld} {l : List α} (hf : ∀ a ∈ l, o ≠ (f a).off) (v : α → Nat)
    (s : State) : (l.foldl (fun s a => s.setF (f a) (v a)) s).rn o = s.rn o := by
  induction l generalizing s with
  | nil => rfl
  | cons a l ih =>
    obtain ⟨ha, hl⟩ := List.forall_mem_cons.mp hf
    rw [List.foldl_cons, ih hl, rn_setF_other ha]

/-- The straps appear in GLB and in MGT.STATUS alone. -/
theorem rn_strapRegs {o : Nat} (hglb : 0x10000 ≤ o) (hmgt : o ≠ rMGT_STATUS) (s : State) :
    (strapRegs s).rn o = s.rn o := by
  have hstraps : o ≠ rGLB_STRAPS := by unfold rGLB_STRAPS; omega
  have hwheels : ∀ n ∈ List.range 8, o ≠ rGLB_TILE_WHEELS n := by
    intro n hn
    have := List.mem_range.mp hn
    unfold rGLB_TILE_WHEELS
    omega
  unfold strapRegs
  dsimp only
  rw [rn_setF_other hmgt, rn_setF_other hstraps, rn_setF_other hstraps, rn_setF_other hstraps]
  exact rn_foldl_setF hwheels _ s

@[simp] theorem State.reportIf_pow (s : State) (b : Bool) (c i k d : Nat) : (s.reportIf b c i k d).pow = s.pow := by
  cases b <;> rfl

@[simp] theorem State.reportIf_pcie (s : State) (b : Bool) (c i k d : Nat) : (s.reportIf b c i k d).pcie = s.pcie := by
  cases b <;> rfl

@[simp] theorem State.reportIf_rn (s : State) (b : Bool) (c i k d o : Nat) : (s.reportIf b c i k d).rn o = s.rn o := by
  cases b <;> rfl

theorem deviceReset_now (s : State) : (deviceReset s).now = s.now :=
  (keeps_deviceReset s rfl (Keeps.refl 0x7fffffa7fff8 s)).now

/-- The supplies, the reset inputs and the straps survive; the device is in reset with its hub stopped. -/
theorem deviceReset_pow (s : State) :
    (deviceReset s).pow = { s.pow with
      phase := .inReset, devReset := false, hubOn := false, boot := {}, domTarget := [], drainAt := [], clamped := [],
      clkBad := [] } := by
  unfold deviceReset
  dsimp only
  split <;> simp [blankDevice]

theorem deviceReset_pcie (s : State) : (deviceReset s).pcie = { errMsgs := s.pcie.errMsgs } := by
  unfold deviceReset
  dsimp only
  split <;> simp [blankDevice]

/-- Outside GLB and MGT.STATUS every register is back at its reset value. -/
theorem rn_deviceReset {o : Nat} (hglb : 0x10000 ≤ o) (hmgt : o ≠ rMGT_STATUS) (s : State) :
    (deviceReset s).rn o = State.reset.rn o := by
  have hcause : o ≠ rGLB_RESET_CAUSE := by unfold rGLB_RESET_CAUSE; omega
  have hfault : o ≠ rGLB_BOOT_FAULT := by unfold rGLB_BOOT_FAULT; omega
  unfold deviceReset
  dsimp only
  rw [State.reportIf_rn]
  split
  · rw [rn_strapRegs hglb hmgt, State.rn_setRn_other hfault, State.rn_setRn_other hcause]
    rfl
  · rw [State.rn_setRn_other hfault, State.rn_setRn_other hcause]
    rfl

/-! ### The hold of 1 ms (R50) -/

/-- A reset that the device releases by itself holds it for 1 ms, whatever its cause. -/
theorem holdReset_pow (s : State) (cause : Fld) :
    (holdReset s cause).pow = { (deviceReset s).pow with selfRelease := true, releaseAt := s.now + 1000000 } := by
  simp [holdReset, resetCause, deviceReset_now]

theorem holdReset_pcie (s : State) (cause : Fld) : (holdReset s cause).pcie = { errMsgs := s.pcie.errMsgs } := by
  simp [holdReset, resetCause, deviceReset_pcie]

theorem rn_holdReset {o : Nat} {cause : Fld} (hglb : 0x10000 ≤ o) (hmgt : o ≠ rMGT_STATUS) (hcause : o ≠ cause.off)
    (s : State) : (holdReset s cause).rn o = State.reset.rn o :=
  (rn_setF_other hcause).trans (rn_deviceReset hglb hmgt s)

/-- A held device is in reset, its hub stopped, until 1 ms has passed. -/
theorem holdReset_held (s : State) (cause : Fld) :
    (holdReset s cause).pow.phase = .inReset ∧ (holdReset s cause).pow.hubOn = false
      ∧ (holdReset s cause).pow.selfRelease = true ∧ (holdReset s cause).pow.releaseAt = s.now + 1000000 := by
  simp [holdReset_pow, deviceReset_pow]

/-- The link is down in a held device: its state and its configuration space are those of reset. -/
theorem holdReset_linkDown {cause : Fld} (hcause : cause.off < 0x10000) (s : State) :
    (holdReset s cause).fv fPCIE_LINK_STATUS_DL_ACTIVE = 0 ∧ (holdReset s cause).pcie.cfg = [] := by
  have hlink : (holdReset s cause).rn rPCIE_LINK_STATUS = State.reset.rn rPCIE_LINK_STATUS :=
    rn_holdReset (by decide) (by decide) (by unfold rPCIE_LINK_STATUS; omega) s
  refine ⟨?_, by rw [holdReset_pcie]⟩
  rw [State.fv, hlink]
  decide +kernel

/-! ### The reset takes effect (R50) -/

theorem resetEffect_of_due {s : State} (hreq : s.pow.devReset = true) (hdue : s.pow.resetAt ≤ s.now) :
    resetEffect s = holdReset s fGLB_RESET_CAUSE_SW_RESET := by
  simp [resetEffect, hreq, hdue]

theorem resetEffect_of_early {s : State} (hearly : s.now < s.pow.resetAt) : resetEffect s = s := by
  simp [resetEffect, Nat.not_le.mpr hearly]

theorem brownout_vddHub {s : State} (hpow : s.pow.powered = true) (hph : s.pow.phase ≠ .standby) :
    brownout s .vddHub = holdReset s fGLB_RESET_CAUSE_BROWNOUT := by
  simp [brownout, hpow, hph]

/-! ### The release (R36, R50) -/

/-- Nothing keeps the device in reset: the boot starts. -/
theorem leaveReset_of_free {s : State} (hporst : s.pow.porst = true) (hsam : s.pow.sampled = true)
    (hseq : s.pow.seqError = false) (hself : s.pow.selfRelease = false) (hph : s.pow.phase = .inReset) :
    leaveReset s = bootStart s := by
  simp [leaveReset, hporst, hsam, hseq, hself, hph]

/-- PORST_N low keeps the device in reset. -/
theorem leaveReset_of_porst_low {s : State} (hporst : s.pow.porst = false) : leaveReset s = s := by
  simp [leaveReset, hporst]

theorem internalRelease_of_due {s : State} (hpow : s.pow.powered = true) (hself : s.pow.selfRelease = true)
    (hdue : s.pow.releaseAt ≤ s.now) :
    internalRelease s = leaveReset { s with pow := { s.pow with selfRelease := false } } := by
  simp [internalRelease, hpow, hself, hdue]

/-- After the hold the device boots while PORST_N is high, with every strap and register as it was. -/
theorem internalRelease_of_porst_high {s : State} (hpow : s.pow.powered = true) (hself : s.pow.selfRelease = true)
    (hdue : s.pow.releaseAt ≤ s.now) (hporst : s.pow.porst = true) (hsam : s.pow.sampled = true)
    (hseq : s.pow.seqError = false) (hph : s.pow.phase = .inReset) :
    internalRelease s = bootStart { s with pow := { s.pow with selfRelease := false } } :=
  (internalRelease_of_due hpow hself hdue).trans (leaveReset_of_free hporst hsam hseq rfl hph)

/-- After the hold the device waits while PORST_N is low. -/
theorem internalRelease_of_porst_low {s : State} (hpow : s.pow.powered = true) (hself : s.pow.selfRelease = true)
    (hdue : s.pow.releaseAt ≤ s.now) (hporst : s.pow.porst = false) :
    internalRelease s = { s with pow := { s.pow with selfRelease := false } } :=
  (internalRelease_of_due hpow hself hdue).trans (leaveReset_of_porst_low hporst)

theorem internalRelease_of_early {s : State} (hearly : s.now < s.pow.releaseAt) : internalRelease s = s := by
  simp [internalRelease, Nat.not_le.mpr hearly]

/-- A rise of PORST_N after the first counted one samples no strap, and starts the boot of a device that it alone held. -/
theorem porstRise_of_sampled {s : State} (hpow : s.pow.powered = true) (hporst : s.pow.porst = false)
    (hlow : s.pow.sawLow = true) (hsam : s.pow.sampled = true) (hseq : s.pow.seqError = false)
    (hself : s.pow.selfRelease = false) (hph : s.pow.phase = .inReset) (a b c : Nat) :
    porstRise s a b c = bootStart { s with pow := { s.pow with porst := true, sawLow := true } } := by
  have hcounted : porstRise s a b c = leaveReset { s with pow := { s.pow with porst := true, sawLow := true } } := by
    simp [porstRise, hpow, hporst, hlow, hsam]
  exact hcounted.trans (leaveReset_of_free rfl hsam hseq hself hph)

/-- Settles O54: a keyed write alone requests the reset, the reset holds the device for 1 ms, and the release or the next
rise of PORST_N starts the boot with the straps as they were. -/
theorem keyedDeviceReset : Obligations.KeyedDeviceReset := by
  refine ⟨?keyed, ?unkeyed, ?early, ?due, ?brownout, ?held, ?released, ?waits, ?rise⟩
  case keyed =>
    intro s q v begun chk c hs hpow hph hbit hkey
    refine ⟨devReset s v, congrArg Host.Outcome.next (writeBy_resetCtrl hs v begun chk c), ?_⟩
    rw [devReset_of_key hpow hph hbit hkey]
    exact ⟨rfl, rfl, rfl⟩
  case unkeyed =>
    intro s q v begun chk c hs hno
    exact ⟨devReset s v, congrArg Host.Outcome.next (writeBy_resetCtrl hs v begun chk c), devReset_of_no_key hno⟩
  case early =>
    intro s _ hearly
    exact ⟨resetEffect s, rfl, resetEffect_of_early hearly⟩
  case due =>
    intro s hreq hdue
    refine ⟨resetEffect s, rfl, ?_⟩
    rw [resetEffect_of_due hreq hdue]
    obtain ⟨hph, hhub, hself, hrel⟩ := holdReset_held s fGLB_RESET_CAUSE_SW_RESET
    obtain ⟨hlink, hcfg⟩ := holdReset_linkDown (cause := fGLB_RESET_CAUSE_SW_RESET) (by decide) s
    exact ⟨hph, hhub, hlink, hcfg, hself, hrel⟩
  case brownout =>
    intro s hph hpow
    refine ⟨brownout s .vddHub, rfl, ?_⟩
    rw [brownout_vddHub hpow hph]
    exact holdReset_held s fGLB_RESET_CAUSE_BROWNOUT
  case held =>
    intro s _ hearly
    exact ⟨internalRelease s, rfl, internalRelease_of_early hearly⟩
  case released =>
    intro s hpow hself hdue hporst hsam hseq hph
    refine ⟨internalRelease s, rfl, ?_⟩
    rw [internalRelease_of_porst_high hpow hself hdue hporst hsam hseq hph]
    exact ⟨rfl, rfl, rfl, rfl⟩
  case waits =>
    intro s hpow hself hdue hporst hph
    refine ⟨internalRelease s, rfl, ?_⟩
    rw [internalRelease_of_porst_low hpow hself hdue hporst]
    exact ⟨rfl, hph, rfl, rfl⟩
  case rise =>
    intro s a b c hpow hporst hlow hsam hseq hself hph
    refine ⟨porstRise s a b c, rfl, ?_⟩
    rw [porstRise_of_sampled hpow hporst hlow hsam hseq hself hph]
    exact ⟨rfl, rfl, rfl, rfl⟩

end Sys2Proof.Machine

namespace Sys2Proof.Machine

/-! ### Where the registers of a row lie (R549) -/

/-- The offset of the last register of a row. -/
def RegRow.last (r : RegRow) : Nat := r.base + r.s1 * (r.n1 - 1) + r.s2 * (r.n2 - 1)

/-- The grid on which the registers of a row lie, from its base on. -/
def RegRow.grid (r : RegRow) : Nat := Nat.gcd r.s1 r.s2

/-- One level of a row's decoding: `x` is a multiple of the stride and the rest, or all rest where there is no stride. -/
theorem stride_split (s x : Nat) : s * (if s = 0 then 0 else x / s) + (if s = 0 then x else x % s) = x := by
  split
  · simp
  · exact Nat.div_add_mod x s

theorem RegRow.index_eq_some {r : RegRow} {off i j : Nat} (h : r.index off = some (i, j)) :
    off = r.base + r.s1 * i + r.s2 * j ∧ i < r.n1 ∧ j < r.n2 := by
  simp only [RegRow.index, Option.ite_none_left_eq_some, Option.ite_none_right_eq_some, Bool.and_eq_true,
    decide_eq_true_eq, Option.some.injEq, Prod.mk.injEq] at h
  obtain ⟨hbase, ⟨⟨hz, hi⟩, hj⟩, rfl, rfl⟩ := h
  have h1 := stride_split r.s1 (off - r.base)
  have h2 := stride_split r.s2 (if r.s1 = 0 then off - r.base else (off - r.base) % r.s1)
  exact ⟨by omega, hi, hj⟩

/-- A register of a row lies between its first and its last. -/
theorem RegRow.span_of_index {r : RegRow} {off : Nat} (h : (r.index off).isSome = true) :
    r.base ≤ off ∧ off ≤ r.last := by
  obtain ⟨⟨i, j⟩, hij⟩ := Option.isSome_iff_exists.mp h
  obtain ⟨heq, hi, hj⟩ := RegRow.index_eq_some hij
  have h1 := Nat.mul_le_mul_left r.s1 (Nat.le_sub_one_of_lt hi)
  have h2 := Nat.mul_le_mul_left r.s2 (Nat.le_sub_one_of_lt hj)
  unfold RegRow.last
  omega

/-- A register of a row lies on its grid. -/
theorem RegRow.mod_of_index {r : RegRow} {off m : Nat} (h : (r.index off).isSome = true) (hm : m ∣ r.grid) :
    off % m = r.base % m := by
  obtain ⟨⟨i, j⟩, hij⟩ := Option.isSome_iff_exists.mp h
  obtain ⟨heq, -, -⟩ := RegRow.index_eq_some hij
  obtain ⟨a, ha⟩ := hm.trans (Nat.gcd_dvd_left r.s1 r.s2)
  obtain ⟨b, hb⟩ := hm.trans (Nat.gcd_dvd_right r.s1 r.s2)
  rw [heq, ha, hb, Nat.mul_assoc, Nat.mul_assoc, Nat.add_mul_mod_self_left, Nat.add_mul_mod_self_left]

/-- Row `r` repeats the layout of row `p`, `d` bytes above it. -/
def RegRow.Above (r : RegRow) (d : Nat) (p : RegRow) : Prop :=
  r.base = p.base + d ∧ r.s1 = p.s1 ∧ r.n1 = p.n1 ∧ r.s2 = p.s2 ∧ r.n2 = p.n2

theorem RegRow.index_above {r p : RegRow} {d : Nat} (h : r.Above d p) (off : Nat) : r.index (off + d) = p.index off := by
  obtain ⟨hb, h1, h2, h3, h4⟩ := h
  simp only [RegRow.index, hb, h1, h2, h3, h4, Nat.add_lt_add_iff_right, Nat.add_sub_add_right]

theorem findRow_isSome {off : Nat} {r : RegRow} {rows : List RegRow} (hr : r ∈ rows)
    (h : (r.index off).isSome = true) : (findRow off rows).isSome = true := by
  induction rows with
  | nil => cases hr
  | cons x xs ih =>
    rw [findRow]
    split
    · rfl
    next hx =>
      rcases List.mem_cons.mp hr with rfl | hr
      · simp [hx] at h
      · exact ih hr

/-- Of blocks in ascending order, the one that holds an offset decodes it. -/
theorem blockRows_of_mem {off : Nat} {b : Nat × Nat × List RegRow} {bs : List (Nat × Nat × List RegRow)}
    (hsort : bs.Pairwise (fun a b => a.2.1 ≤ b.1)) (hb : b ∈ bs) (hlo : b.1 ≤ off) (hhi : off < b.2.1) :
    blockRows off bs = b.2.2 := by
  induction bs with
  | nil => cases hb
  | cons x xs ih =>
    obtain ⟨hx, hxs⟩ := List.pairwise_cons.mp hsort
    rcases List.mem_cons.mp hb with rfl | hb
    · simp [blockRows, hlo, hhi]
    · have hout : ¬ off < x.2.1 := Nat.not_lt.mpr ((hx b hb).trans hlo)
      simp [blockRows, hout, ih hxs hb]

theorem regBlocks_ascending : regBlocks.Pairwise (fun a b => a.2.1 ≤ b.1) := by decide +kernel

theorem regAt_isSome {off : Nat} {b : Nat × Nat × List RegRow} {r : RegRow} (hb : b ∈ regBlocks) (hlo : b.1 ≤ off)
    (hhi : off < b.2.1) (hr : r ∈ b.2.2) (h : (r.index off).isSome = true) : (regAt off).isSome = true := by
  rw [regAt, blockRows_of_mem regBlocks_ascending hb hlo hhi]
  exact findRow_isSome hr h

/-! ### Where the pairs lie (R101) -/

/-- The lower halves of the pairs as rows of registers. -/
def lowRows : List RegRow := pairRows.map (fun r => ⟨r.1, r.2.1, r.2.2.1, r.2.2.2.1, r.2.2.2.2, 0, 0, 0, false, []⟩)

theorem pairLo_iff {off : Nat} : pairLo off = true ↔ ∃ p ∈ lowRows, (p.index off).isSome = true := by
  simp [pairLo, lowRows]

/-- In one block stand a row of the lower halves and a row of the upper halves 4 bytes above. -/
theorem lowRows_mapped : ∀ p ∈ lowRows, ∃ b ∈ regBlocks, b.1 ≤ p.base ∧ p.last + 4 < b.2.1
    ∧ (∃ r ∈ b.2.2, r.Above 0 p) ∧ ∃ r ∈ b.2.2, r.Above 4 p := by
  unfold RegRow.Above
  decide +kernel

/-- The upper halves of one row and the lower halves of another do not meet: either the rows lie one behind the other, or
they lie apart on a common grid. -/
theorem lowRows_apart : ∀ p ∈ lowRows, ∀ r ∈ lowRows, p.last + 4 < r.base ∨ r.last < p.base + 4
    ∨ (p.base + 4) % Nat.gcd p.grid r.grid ≠ r.base % Nat.gcd p.grid r.grid := by
  decide +kernel

/-- Both halves of a pair are registers. -/
theorem regAt_of_pairLo {lo : Nat} (h : pairLo lo = true) :
    (regAt lo).isSome = true ∧ (regAt (lo + 4)).isSome = true := by
  obtain ⟨p, hp, hidx⟩ := pairLo_iff.mp h
  obtain ⟨b, hb, hfirst, hlast, ⟨r, hr, hlow⟩, ⟨r', hr', hhigh⟩⟩ := lowRows_mapped p hp
  obtain ⟨h1, h2⟩ := RegRow.span_of_index hidx
  exact ⟨regAt_isSome hb (by omega) (by omega) hr ((RegRow.index_above hlow lo).symm ▸ hidx),
    regAt_isSome hb (by omega) (by omega) hr' ((RegRow.index_above hhigh lo).symm ▸ hidx)⟩

/-- An upper half is the lower half of no pair. -/
theorem pairLo_upper {lo : Nat} (h : pairLo lo = true) : pairLo (lo + 4) = false := by
  obtain ⟨p, hp, hidx⟩ := pairLo_iff.mp h
  refine Bool.eq_false_iff.mpr fun hup => ?_
  obtain ⟨r, hr, hidx'⟩ := pairLo_iff.mp hup
  obtain ⟨h1, h2⟩ := RegRow.span_of_index hidx
  obtain ⟨h1', h2'⟩ := RegRow.span_of_index hidx'
  have hmod := RegRow.mod_of_index hidx (Nat.gcd_dvd_left p.grid r.grid)
  have hmod' := RegRow.mod_of_index hidx' (Nat.gcd_dvd_right p.grid r.grid)
  rcases lowRows_apart p hp r hr with hlt | hlt | hne
  · omega
  · omega
  · exact hne ((Nat.ModEq.add_right 4 hmod).symm.trans hmod')

/-! ### Reads of single registers (R5, R551) -/

/-- A read at `off` is one of words: it is not served byte by byte, and it is not one of POP or COLLECT. -/
def PlainRead (off : Nat) : Prop :=
  byteServed off = false ∧ (off < rLARDER_POP_LO 0 ∨ rLARDER_POP_LO 256 ≤ off)
    ∧ (off < rBRIDGE_COLLECT_LO 0 ∨ rBRIDGE_COLLECT_LO 64 ≤ off)

theorem PlainRead.not_byteServed {off : Nat} (h : PlainRead off) : byteServed off = false := h.1

theorem PlainRead.not_pop {off : Nat} (h : PlainRead off) :
    (decide (rLARDER_POP_LO 0 ≤ off) && decide (off < rLARDER_POP_LO 256)) = false := by
  obtain ⟨-, hpop, -⟩ := h
  simp only [Bool.and_eq_false_iff, decide_eq_false_iff_not]
  omega

theorem PlainRead.not_collect {off : Nat} (h : PlainRead off) :
    (decide (rBRIDGE_COLLECT_LO 0 ≤ off) && decide (off < rBRIDGE_COLLECT_LO 64)) = false := by
  obtain ⟨-, -, hcollect⟩ := h
  simp only [Bool.and_eq_false_iff, decide_eq_false_iff_not]
  omega

/-- No pair lies in POP, in COLLECT or among the registers served byte by byte; those of the tally units lie below DATA. -/
theorem lowRows_plain : ∀ p ∈ lowRows,
    (p.last + 4 < rLARDER_POP_LO 0 ∨ rLARDER_POP_LO 256 ≤ p.base)
      ∧ (p.last + 4 < rBRIDGE_COLLECT_LO 0 ∨ rBRIDGE_COLLECT_LO 64 ≤ p.base)
      ∧ (p.last + 4 < 0x341000 ∨ 0x343000 ≤ p.base) ∧ (p.last + 4 < 0xB0100 ∨ 0xB0200 ≤ p.base)
      ∧ (p.last + 4 < 0xA0000 ∨ 0xA0800 ≤ p.base ∨ 0x80 ∣ p.grid ∧ p.base % 0x80 + 4 < 0x40)
      ∧ p.last + 4 < 0x2000000 := by
  decide +kernel

/-- Both halves of a pair are read as words, and BAR0 holds them. -/
theorem plainRead_of_pairLo {lo : Nat} (h : pairLo lo = true) :
    PlainRead lo ∧ PlainRead (lo + 4) ∧ lo + 4 < 0x2000000 := by
  obtain ⟨p, hp, hidx⟩ := pairLo_iff.mp h
  obtain ⟨hpop, hcollect, hprofile, hattic, htally, hbar⟩ := lowRows_plain p hp
  obtain ⟨h1, h2⟩ := RegRow.span_of_index hidx
  have hdata : lo + 4 < 0xA0000 ∨ 0xA0800 ≤ lo ∨ lo % 0x80 + 4 < 0x40 := by
    rcases htally with hlt | hle | ⟨hgrid, hlt⟩
    · omega
    · omega
    · have := RegRow.mod_of_index hidx hgrid
      omega
  simp only [PlainRead, byteServed, Bool.or_eq_false_iff, Bool.and_eq_false_iff, decide_eq_false_iff_not]
  omega

/-- Up to 64 bytes are read by every path that reaches the registers at all. -/
theorem readBy_of_reaches {s : State} {q : Requester} {size : Nat} (hs : Reaches s q) (hn : size ≤ 64) (off : Nat) :
    readBy s q off size = readAccess s q off size := by
  obtain ⟨hhub, hask⟩ := hs
  cases q with
  | host =>
    obtain ⟨-, hready, hlink⟩ := hask rfl
    simp [readBy, hostReq, hub, hhub, hready, hlink, Nat.not_lt.mpr hn]
  | mgt => simp [readBy, hub, hhub, Nat.min_eq_left hn]
  | island => simp [readBy, hub, hhub, Nat.min_eq_left hn]

theorem readAccess_word {off : Nat} (halign : off % 4 = 0) (hplain : PlainRead off) (s : State) (q : Requester) :
    readAccess s q off 4 = (readOne s q off true).2.answer .success (leBytes 4 (readOne s q off true).1) := by
  have hrange : byteRange off 4 = false := by simp [byteRange, hplain.not_byteServed]
  have hword : wordAccess off 4 = true := by simp [wordAccess, halign]
  simp [readAccess, hrange, hword, readWords]

/-- An aligned 8-byte read answers with two words; the upper one is that of the instant before the read. -/
theorem readAccess_pair_reply {off : Nat} (halign : off % 8 = 0) (hplain : PlainRead off) (s : State) (q : Requester) :
    (readAccess s q off 8).reply
      = ⟨.success, leBytes 4 (readOne s q off false).1 ++ leBytes 4 (regVal s (off + 4))⟩ := by
  have hrange : byteRange off 8 = false := by simp [byteRange, hplain.not_byteServed]
  have hword : wordAccess off 8 = true := by simp [wordAccess, halign]; omega
  simp [readAccess, hrange, hword, hplain.not_pop, hplain.not_collect, readPair]

/-- A register outside POP gives its value, latched or not, and the read leaves the Regulator as taking that value does. -/
theorem readOne_of_plain {off v : Nat} {latch : Bool} {s t : State} {q : Requester} (hreg : (regAt off).isSome = true)
    (hplain : PlainRead off) (hval : (if latch then latchedVal s q off else (regVal s off, s)) = (v, t)) :
    (readOne s q off latch).1 = v ∧ (readOne s q off latch).2.regu = t.regu := by
  have hnone : (regAt off).isNone = false := Option.isNone_eq_false_iff.mpr hreg
  have hrc : (clearRc t off).regu = t.regu := (keeps_clearRc t off rfl (Keeps.refl 0x8 t)).regu rfl
  simp only [readOne, hnone, hplain.not_pop, hval, Bool.false_and, Bool.false_eq_true, if_false, true_and]
  split
  · exact hrc
  · split
    · exact hrc
    · rfl
  · rfl

/-! ### The latches (R101) -/

theorem pathLatch_congr {s t : State} (h : t.regu = s.regu) (q : Requester) : pathLatch t q = pathLatch s q := by
  cases q <;> simp [pathLatch, h]

theorem pathLatch_setLatch_same (s : State) (q : Requester) (l : PairLatch) : pathLatch (setLatch s q l) q = l := by
  cases q <;> rfl

theorem pathLatch_setLatch_other {q q' : Requester} (h : q' ≠ q) (s : State) (l : PairLatch) :
    pathLatch (setLatch s q l) q' = pathLatch s q' := by
  cases q <;> cases q' <;> simp [pathLatch, setLatch] at h ⊢

theorem latchedVal_lower {s : State} {q : Requester} {lo : Nat} (h : pairLo lo = true) :
    latchedVal s q lo = (regVal s lo, setLatch s q ⟨some lo, BitVec.ofNat 32 (regVal s (lo + 4))⟩) := by
  simp [latchedVal, h]

theorem latchedVal_upper_of_latched {s : State} {q : Requester} {lo : Nat} (h : pairLo lo = true)
    (hl : (pathLatch s q).pair = some lo) : latchedVal s q (lo + 4) = ((pathLatch s q).hi.toNat, s) := by
  simp [latchedVal, pairLo_upper h, hl]

theorem latchedVal_upper_of_other {s : State} {q : Requester} {lo : Nat} (h : pairLo lo = true)
    (hl : (pathLatch s q).pair ≠ some lo) : latchedVal s q (lo + 4) = (regVal s (lo + 4), s) := by
  simp [latchedVal, pairLo_upper h, hl]

/-- A 4-byte read answers with the value that the latch rule gives, and leaves the latches as that rule does. -/
theorem lowerHalfRead_answers {s : State} {q : Requester} {off v : Nat} {t : State} (hs : Reaches s q)
    (halign : off % 4 = 0) (hlt : off < 0x2000000) (hreg : (regAt off).isSome = true) (hplain : PlainRead off)
    (hval : latchedVal s q off = (v, t)) :
    ∃ u, exec (.lowerHalfRead q off) s = .next u ∧ u.reply = ⟨.success, leBytes 4 v⟩
      ∧ ∀ q', pathLatch u q' = pathLatch t q' := by
  have hoff : off % 0x2000000 / 4 * 4 = off := by omega
  obtain ⟨hfst, hregu⟩ := readOne_of_plain (latch := true) hreg hplain hval
  refine ⟨readBy s q (off % 0x2000000 / 4 * 4) 4, rfl, ?_⟩
  rw [hoff, readBy_of_reaches hs (by decide), readAccess_word halign hplain, hfst]
  exact ⟨rfl, pathLatch_congr hregu⟩

/-- Settles O51: a pair is two plain registers, so an 8-byte read takes both from one state, and a 4-byte read follows the
latch rule, an upper half never being a lower half itself. -/
theorem pairsReadAtOneInstant : Obligations.PairsReadAtOneInstant := by
  refine ⟨?both, ?lower, ?latched, ?current⟩
  case both =>
    intro s q lo hs hpair hlt halign
    obtain ⟨hplain, -, -⟩ := plainRead_of_pairLo hpair
    refine ⟨readBy s q (lo % 0x2000000) 8, rfl, ?_⟩
    beta_reduce
    rw [Nat.mod_eq_of_lt hlt, readBy_of_reaches hs (by decide), readAccess_pair_reply halign hplain,
      (readOne_of_plain (latch := false) (regAt_of_pairLo hpair).1 hplain rfl).1]
  case lower =>
    intro s q lo hs hpair hlt halign
    obtain ⟨hplain, -, -⟩ := plainRead_of_pairLo hpair
    obtain ⟨u, hu, hreply, hlatch⟩ :=
      lowerHalfRead_answers hs halign hlt (regAt_of_pairLo hpair).1 hplain (latchedVal_lower hpair)
    exact ⟨u, hu, hreply, (hlatch q).trans (pathLatch_setLatch_same s q _),
      fun q' _ hq => (hlatch q').trans (pathLatch_setLatch_other hq s _)⟩
  case latched =>
    intro s q lo hs hpair _ halign hl
    obtain ⟨-, hplain, hlt⟩ := plainRead_of_pairLo hpair
    obtain ⟨u, hu, hreply, hlatch⟩ := lowerHalfRead_answers hs (by omega) hlt (regAt_of_pairLo hpair).2 hplain
      (latchedVal_upper_of_latched hpair hl)
    exact ⟨u, hu, hreply, fun q' _ => hlatch q'⟩
  case current =>
    intro s q lo hs hpair _ halign hl
    obtain ⟨-, hplain, hlt⟩ := plainRead_of_pairLo hpair
    obtain ⟨u, hu, hreply, hlatch⟩ := lowerHalfRead_answers hs (by omega) hlt (regAt_of_pairLo hpair).2 hplain
      (latchedVal_upper_of_other hpair hl)
    exact ⟨u, hu, hreply, fun q' _ => hlatch q'⟩

/-! ### Steps of dial time (R103) -/

/-- A register of the Regulator is always present, and the Regulator takes its write (R549). -/
theorem writeOne_regu {off : Nat} (hlo : 0x100000 ≤ off) (hhi : off < 0x200000) (hreg : (regAt off).isSome = true)
    (s : State) (q : Requester) (v : Word) (begun : Bool) (chk : BusCheck) (c : ChkCount) :
    writeOne s q off v begun chk c = writeRegu s off v := by
  have hnone : (regAt off).isNone = false := Option.isNone_eq_false_iff.mpr hreg
  have hhere : presence s off = .here := by
    unfold presence
    rw [if_neg, if_neg, if_neg, if_neg] <;> simp <;> omega
  have hmac : off ≠ rIDENT_GMAC_CTRL := by unfold rIDENT_GMAC_CTRL; omega
  simp only [writeOne, hnone, hhere, regWrite, hmac, hhi, Bool.false_eq_true, if_false, if_true]
  repeat rw [if_neg (by omega)]

/-- A word with SET 1 that reaches REGU.CTRL is judged as a step of dial time (R103). -/
theorem writeBy_dialSet {s : State} {q : Requester} {v : Word} (hs : Reaches s q) (hset : bitAt v.toNat 2 = true)
    (begun : Bool) (chk : BusCheck) (c : ChkCount) :
    writeBy s q rREGU_CTRL (leBytes 4 v.toNat) false begun chk c = dialSet s v := by
  rw [writeBy_of_reaches hs (by rw [length_leBytes]; decide), writeAccess_word (by decide) (by decide),
    writeOne_regu (by decide) (by decide) (by decide +kernel), writeRegu, if_pos rfl, if_pos hset]

theorem dialSet_of_idle {s : State} (hidle : streamsActive s = false) (hsrc : s.fv fREGU_CTRL_SRC = 0) (v : Word) :
    dialSet s v = gmacDiscard (stepDial (s.setF fREGU_CTRL_TRIM_EN (b2n (bitAt v.toNat 3)))
      (s.pair rREGU_DIAL_SET_LO rREGU_DIAL_SET_HI)) := by
  simp [dialSet, hidle, hsrc]

theorem dialSet_of_busy {s : State} (hbusy : streamsActive s = true ∨ s.fv fREGU_CTRL_SRC = 1) (v : Word) :
    dialSet s v = s.ev fREGU_EVENT_STEP_REFUSED := by
  rcases hbusy with h | h <;> simp [dialSet, h]

/-- The discard of the hallmark keys leaves dial time. -/
theorem gmacDiscard_dial (s : State) : (gmacDiscard s).dial = s.dial :=
  congrArg Regu.dial ((keeps_gmacDiscard s rfl (Keeps.refl 0x80b08 s)).regu rfl)

/-- The discard of the hallmark keys reaches IDENT.GMAC_STATUS, ATTIC.EVENT and the interrupt state alone. -/
theorem rn_gmacDiscard {o : Nat} (hstatus : o ≠ rIDENT_GMAC_STATUS) (hevent : o ≠ rATTIC_EVENT) (hirq : ¬ irqReg o)
    (s : State) : (gmacDiscard s).rn o = s.rn o := by
  unfold gmacDiscard
  split
  · exact (rn_ev hevent hirq).trans ((rn_setF_other hstatus).trans (rn_setF_other hstatus))
  · rfl

theorem stepDial_dial (s : State) (t : Nat) : (stepDial s t).dial = t % 2 ^ 64 := by
  simp [stepDial, State.dial]

/-- The events of the Regulator are no interrupt state. -/
theorem not_irqReg_reguEvent : ¬ irqReg rREGU_EVENT := by
  unfold irqReg
  decide

/-- A step of dial time is recorded, and the discard of the keys with it leaves the record. -/
theorem gmacDiscard_stepDial_stepped (s : State) (t : Nat) :
    (gmacDiscard (stepDial s t)).fv fREGU_EVENT_STEPPED = 1 := by
  have hkept : (gmacDiscard (stepDial s t)).fv fREGU_EVENT_STEPPED = (stepDial s t).fv fREGU_EVENT_STEPPED := by
    rw [State.fv, rn_gmacDiscard (by decide) (by decide) not_irqReg_reguEvent]
    rfl
  exact hkept.trans (fv_ev_same not_irqReg_reguEvent (by decide))

/-- Settles O53: a write with SET 1 is a step of dial time where nothing forbids it, and otherwise an event alone. -/
theorem dialSteps : Obligations.DialSteps := by
  refine ⟨?taken, ?refused⟩
  case taken =>
    intro s q v begun chk c hs hset hidle hsrc
    refine ⟨dialSet s v, congrArg Host.Outcome.next (writeBy_dialSet hs hset begun chk c), ?_⟩
    rw [dialSet_of_idle hidle hsrc]
    exact ⟨(gmacDiscard_dial _).trans (stepDial_dial _ _), gmacDiscard_stepDial_stepped _ _⟩
  case refused =>
    intro s q v begun chk c hs hset hbusy
    refine ⟨dialSet s v, congrArg Host.Outcome.next (writeBy_dialSet hs hset begun chk c), ?_⟩
    rw [dialSet_of_busy hbusy]
    refine ⟨congrArg Regu.dial (State.ev_regu s _), fv_ev_same not_irqReg_reguEvent (by decide), rn_ev (by decide) ?_,
      State.ev_ident s _⟩
    unfold irqReg
    decide

end Sys2Proof.Machine

namespace Sys2Proof.Machine

/-! ### Words of configuration space (R390) -/

theorem cfgN_setCfg_same (s : State) (off v : Nat) : cfgN (setCfg s off v) off = v % 2 ^ 32 := by
  simp [cfgN, cfgWord, setCfg]

theorem cfgN_setCfg_other {off o : Nat} (h : o ≠ off) (s : State) (v : Nat) : cfgN (setCfg s off v) o = cfgN s o := by
  simp [cfgN, cfgWord, setCfg, kgetD_kputD_other h]

/-- A bit that is set reads 1. -/
theorem bitAt_cfgSet_same {bit : Nat} (h : bit < 32) (s : State) (off : Nat) :
    bitAt (cfgN (cfgSet s off bit) off) bit = true := by
  have hbit : bitsOf (putBits (cfgN s off) bit 1 1) bit 1 = 1 := bitsOf_putBits_same _ _ _ _
  have hlt : putBits (cfgN s off) bit 1 1 < 2 ^ 32 := putBits_lt (cfgWord s off).isLt h
  rw [cfgSet, cfgN_setCfg_same, Nat.mod_eq_of_lt hlt]
  exact beq_iff_eq.mpr hbit

theorem cfgN_cfgSet_other {off o : Nat} (h : o ≠ off) (s : State) (bit : Nat) : cfgN (cfgSet s off bit) o = cfgN s o :=
  cfgN_setCfg_other h s _

@[simp] theorem cfgN_answer (s : State) (r : RStatus) (bs : List Byte) (o : Nat) :
    cfgN (s.answer r bs) o = cfgN s o := rfl

/-- An error message writes no configuration register. -/
@[simp] theorem cfgN_errMsg (s : State) (kind o : Nat) : cfgN (errMsg s kind) o = cfgN s o := by
  unfold errMsg
  split <;> rfl

/-- A correctable error stands in its own status and in Device Status, and goes out in a message unless it is masked. -/
theorem aerCorr_cases (s : State) (bit : Nat) :
    aerCorr s bit = cfgSet (cfgSet s 0x110 bit) 0x078 16
      ∨ aerCorr s bit = errMsg (cfgSet (cfgSet s 0x110 bit) 0x078 16) 0 :=
  ite_eq_or_eq _ _ _

/-- A correctable error reaches its own status and Device Status alone. -/
theorem cfgN_aerCorr {o : Nat} (hstatus : o ≠ 0x110) (hdevice : o ≠ 0x078) (s : State) (bit : Nat) :
    cfgN (aerCorr s bit) o = cfgN s o := by
  have hset : cfgN (cfgSet (cfgSet s 0x110 bit) 0x078 16) o = cfgN s o := by
    rw [cfgN_cfgSet_other hdevice, cfgN_cfgSet_other hstatus]
  obtain h | h := aerCorr_cases s bit
  · rw [h, hset]
  · rw [h, cfgN_errMsg, hset]

/-- An uncorrectable error sets its bit of the status. An advisory one is then reported as a correctable error; another
stands in Device Status, and goes out in a message unless it is masked. -/
theorem aerUncorr_cases (s : State) (bit : Nat) (advisory : Bool) :
    aerUncorr s bit advisory = aerCorr (cfgSet (aerFirst s bit) 0x104 bit) 13 ∨
    ∃ b, aerUncorr s bit advisory = cfgSet (cfgSet (aerFirst s bit) 0x104 bit) 0x078 b ∨
      ∃ kind, aerUncorr s bit advisory = errMsg (cfgSet (cfgSet (aerFirst s bit) 0x104 bit) 0x078 b) kind := by
  unfold aerUncorr
  dsimp only
  split
  · exact .inl rfl
  · exact .inr ⟨_, (ite_eq_or_eq _ _ _).imp_right fun h => ⟨_, h⟩⟩

/-- However an uncorrectable error is reported, its bit of the status stands. -/
theorem bitAt_aerUncorr {bit : Nat} (h : bit < 32) (s : State) (advisory : Bool) :
    bitAt (cfgN (aerUncorr s bit advisory) 0x104) bit = true := by
  have hset := bitAt_cfgSet_same h (aerFirst s bit) 0x104
  obtain h | ⟨b, h | ⟨kind, h⟩⟩ := aerUncorr_cases s bit advisory
  · rwa [h, cfgN_aerCorr (by decide) (by decide)]
  · rwa [h, cfgN_cfgSet_other (by decide)]
  · rwa [h, cfgN_errMsg, cfgN_cfgSet_other (by decide)]

/-! ### Requests that are not supported (R389) -/

/-- An Unsupported Request stands in the AER status and in Device Status. -/
theorem aerUnsupported_recorded (s : State) :
    bitAt (cfgN (aerUnsupported s) 0x104) 20 = true ∧ bitAt (cfgN (aerUnsupported s) 0x078) 19 = true := by
  refine ⟨?_, bitAt_cfgSet_same (by decide) _ _⟩
  rw [aerUnsupported, cfgN_cfgSet_other (by decide)]
  exact bitAt_aerUncorr (by decide) s true

/-- A refused request reads or writes nothing of the device but what error reporting writes, and the answer. -/
theorem keeps_of_refuseUr (s : State) (write : Bool) : Keeps 0x100204 s (refuseUr s write) :=
  keeps_refuseUr s write rfl (Keeps.refl 0x100204 s)

/-- A read that is not supported has an answer; a write has none. -/
theorem refuseUr_reply (s : State) (write : Bool) :
    (refuseUr s write).reply = ⟨if write then .none else .unsupported, []⟩ := rfl

theorem refuseUr_recorded (s : State) (write : Bool) :
    bitAt (cfgN (refuseUr s write) 0x104) 20 = true ∧ bitAt (cfgN (refuseUr s write) 0x078) 19 = true := by
  rw [refuseUr, cfgN_answer, cfgN_answer]
  exact aerUnsupported_recorded s

/-- A request of a host that may ask reaches the device. -/
theorem hostReq_of_asks {s : State} (hs : HostAsks s) (t : State) : hostReq s t = t := by
  obtain ⟨hhub, hready, hlink⟩ := hs
  simp [hostReq, hub, hhub, hready, hlink]

theorem readBy_host_long {s : State} {size : Nat} (hs : HostAsks s) (hlong : 64 < size) (off : Nat) :
    readBy s .host off size = refuseUr s false := by
  simp only [readBy, hostReq_of_asks hs, if_pos hlong]

theorem writeBy_host_long {s : State} {bytes : List Byte} (hs : HostAsks s) (hlong : 64 < bytes.length) (off : Nat)
    (poison begun : Bool) (chk : BusCheck) (c : ChkCount) :
    writeBy s .host off bytes poison begun chk c = refuseUr s true := by
  simp only [writeBy, hostReq_of_asks hs, if_pos hlong]

/-- Settles O56: each of these requests is refused as an Unsupported Request, which reports the error and touches nothing
else. -/
theorem unsupportedRequests : Obligations.UnsupportedRequests := by
  refine ⟨?unsupported, ?longRead, ?longWrite⟩
  case unsupported =>
    intro s hs
    obtain ⟨haer, hdevice⟩ := refuseUr_recorded s false
    exact ⟨refuseUr s false, congrArg Host.Outcome.next (hostReq_of_asks hs _), refuseUr_reply s false, haer, hdevice,
      (keeps_of_refuseUr s false).regs rfl⟩
  case longRead =>
    intro s off size hs hlong
    obtain ⟨haer, hdevice⟩ := refuseUr_recorded s false
    exact ⟨refuseUr s false, congrArg Host.Outcome.next (readBy_host_long hs hlong _), refuseUr_reply s false, haer,
      hdevice, (keeps_of_refuseUr s false).regs rfl⟩
  case longWrite =>
    intro s off bytes poison begun chk c hs hlong
    obtain ⟨haer, hdevice⟩ := refuseUr_recorded s true
    have hkeeps := keeps_of_refuseUr s true
    exact ⟨refuseUr s true, congrArg Host.Outcome.next (writeBy_host_long hs hlong _ poison begun chk c),
      refuseUr_reply s true, haer, hdevice, hkeeps.regs rfl, hkeeps.mem rfl, hkeeps.larder rfl, hkeeps.tally rfl⟩

/-! ### The reads that the device has issued (R386) -/

@[simp] theorem setCfg_reads (s : State) (off v : Nat) : (setCfg s off v).pcie.reads = s.pcie.reads := rfl

@[simp] theorem cfgSet_reads (s : State) (off bit : Nat) : (cfgSet s off bit).pcie.reads = s.pcie.reads := rfl

@[simp] theorem errMsg_reads (s : State) (kind : Nat) : (errMsg s kind).pcie.reads = s.pcie.reads := by
  unfold errMsg
  split <;> rfl

@[simp] theorem aerCorr_reads (s : State) (bit : Nat) : (aerCorr s bit).pcie.reads = s.pcie.reads := by
  have hset : (cfgSet (cfgSet s 0x110 bit) 0x078 16).pcie.reads = s.pcie.reads := by rw [cfgSet_reads, cfgSet_reads]
  obtain h | h := aerCorr_cases s bit
  · rw [h, hset]
  · rw [h, errMsg_reads, hset]

@[simp] theorem aerFirst_reads (s : State) (bit : Nat) : (aerFirst s bit).pcie.reads = s.pcie.reads := by
  unfold aerFirst
  split <;> rfl

/-- No error report touches the reads. -/
@[simp] theorem aerUncorr_reads (s : State) (bit : Nat) (advisory : Bool) :
    (aerUncorr s bit advisory).pcie.reads = s.pcie.reads := by
  obtain h | ⟨b, h | ⟨kind, h⟩⟩ := aerUncorr_cases s bit advisory <;> simp [h]

/-- Of the endpoint an interrupt message reaches the pending MSI vectors alone. -/
theorem sendVector_reads (s : State) (v : Nat) : (sendVector s v).pcie.reads = s.pcie.reads := by
  unfold sendVector
  dsimp only
  split
  · split
    · rfl
    · split <;> rfl
  · split
    · split
      · rfl
      · split <;> rfl
    · rfl

theorem irqEval_reads (s : State) (src : Nat) : (irqEval s src).pcie.reads = s.pcie.reads := by
  unfold irqEval
  dsimp only
  split
  · rw [sendMsg, sendVector_reads, State.setF_pcie]
  · rw [State.setF_pcie]

/-- No event touches the reads. -/
@[simp] theorem State.ev_reads (s : State) (f : Fld) : (s.ev f).pcie.reads = s.pcie.reads := by
  unfold State.ev irqOff
  split
  · rw [irqEval_reads, State.setF_pcie]
  · rw [State.setF_pcie]

/-! ### Unexpected Completions (R391) -/

/-- What an Unexpected Completion leaves behind: a count, an error report, an event and a fault code. -/
def recordUnexpected (s : State) : State :=
  ((aerUncorr (s.bump fPCIE_CNT_A_UNEXPECTED) 16 true).ev fPCIE_EVENT_UNEXPECTED_CPL).report 0x04 0 0x0004

/-- A completion that no open read waits for is an Unexpected Completion. -/
theorem completion_of_unexpected {s : State} {k : Nat}
    (h : ∀ r, kget k s.pcie.reads = some r → r.failed = true ∨ r.whole = true) (p : CplPiece) :
    completion s k p = recordUnexpected s := by
  unfold completion
  dsimp only
  split
  · rfl
  next r hr =>
    have hclosed : (r.failed || r.whole) = true := Bool.or_eq_true_iff.mpr (h r hr)
    rw [if_pos hclosed]
    rfl

/-- An error report keeps all but the configuration space and the free values taken. -/
theorem keeps_of_aerUncorr (s : State) (bit : Nat) (advisory : Bool) : Keeps 0x204 s (aerUncorr s bit advisory) :=
  keeps_aerUncorr s bit advisory rfl (Keeps.refl 0x204 s)

theorem rn_congr {s t : State} (h : t.regs = s.regs) (o : Nat) : t.rn o = s.rn o := by
  simp only [State.rn, State.reg, h]

/-- A count is one higher, up to its highest value. -/
theorem fv_bump_same {f : Fld} (h : f.lsb + f.width ≤ 32) (s : State) :
    (s.bump f).fv f = satTo (2 ^ f.width - 1) (s.fv f + 1) := by
  have hpos := Nat.two_pow_pos f.width
  have hle : satTo (2 ^ f.width - 1) (s.fv f + 1) < 2 ^ f.width := by
    unfold satTo
    split <;> omega
  rw [State.bump, State.fv_setF_same _ _ _ h, Nat.mod_eq_of_lt hle]

/-- The events and counters of the endpoint are no interrupt state. -/
theorem not_irqReg_pcie {o : Nat} (hlo : 0x40000 ≤ o) (hhi : o < 0x50000) : ¬ irqReg o := by
  unfold irqReg
  omega

/-- A report of a fault code reads and writes no register. -/
theorem fv_report (s : State) (c i k d : Nat) (f : Fld) : (s.report c i k d).fv f = s.fv f := by
  rw [State.fv, rn_congr (State.report_regs s c i k d), State.fv]

theorem recordUnexpected_counted (s : State) : (recordUnexpected s).fv fPCIE_CNT_A_UNEXPECTED
    = satTo 0xFFFF (s.fv fPCIE_CNT_A_UNEXPECTED + 1) := by
  have hreport := rn_congr ((keeps_of_aerUncorr (s.bump fPCIE_CNT_A_UNEXPECTED) 16 true).regs rfl) rPCIE_CNT_A
  rw [recordUnexpected, fv_report, fv_ev_other (by decide) (not_irqReg_pcie (by decide) (by decide)), State.fv, hreport]
  exact fv_bump_same (by decide) s

theorem recordUnexpected_event (s : State) : (recordUnexpected s).fv fPCIE_EVENT_UNEXPECTED_CPL = 1 := by
  rw [recordUnexpected, fv_report]
  exact fv_ev_same (not_irqReg_pcie (by decide) (by decide)) (by decide)

/-- The fault code is the only one that goes to the log. -/
theorem recordUnexpected_inbox (s : State) :
    (recordUnexpected s).isl.inbox = s.isl.inbox ++ [(0x04000004, 0)] := by
  have hisl : (aerUncorr (s.bump fPCIE_CNT_A_UNEXPECTED) 16 true).isl = s.isl :=
    (keeps_of_aerUncorr (s.bump fPCIE_CNT_A_UNEXPECTED) 16 true).isl rfl
  simp [recordUnexpected, State.report, faultCode, hisl]

theorem recordUnexpected_reads (s : State) : (recordUnexpected s).pcie.reads = s.pcie.reads := by
  rw [recordUnexpected, State.report_pcie, State.ev_reads, aerUncorr_reads, State.bump_pcie]

/-- The record is made in registers, interrupt state, messages, the fault inbox and the endpoint. -/
theorem keeps_recordUnexpected (s : State) : Keeps 0x8030c s (recordUnexpected s) :=
  keeps_State_report _ 0x04 0 0x0004 0 rfl (keeps_State_ev _ _ rfl (keeps_aerUncorr _ 16 true rfl
    (keeps_State_bump s _ rfl (Keeps.refl 0x8030c s))))

/-- Settles O52: an Unexpected Completion does nothing but make its record. -/
theorem unexpectedCompletionsAreDiscarded : Obligations.UnexpectedCompletionsAreDiscarded := by
  intro s k p hhub hlink hclosed
  have hexec : exec (.pcieCompletionReceived k p) s = .next (recordUnexpected s) := by
    refine congrArg Host.Outcome.next ?_
    rw [hub, if_pos hhub, if_pos hlink, completion_of_unexpected hclosed]
  have hkeeps := keeps_recordUnexpected s
  exact ⟨recordUnexpected s, hexec, recordUnexpected_counted s, recordUnexpected_event s, recordUnexpected_inbox s,
    recordUnexpected_reads s, hkeeps.hoist rfl, hkeeps.mem rfl, hkeeps.larder rfl, hkeeps.fabric rfl⟩

end Sys2Proof.Machine

namespace Sys2Proof.Machine

/-! ### Pairs of registers (R101) -/

theorem State.rn_setPair_other {lo hi o : Nat} (hlo : o ≠ lo) (hhi : o ≠ hi) (s : State) (v : Nat) :
    (s.setPair lo hi v).rn o = s.rn o := by
  rw [State.setPair, State.rn_setRn_other hhi, State.rn_setRn_other hlo]

/-- A pair holds the 64 low bits of what was put into it. -/
theorem State.pair_setPair_same {lo hi : Nat} (h : lo ≠ hi) (s : State) (v : Nat) :
    (s.setPair lo hi v).pair lo hi = v % 2 ^ 64 := by
  rw [State.pair, State.setPair, State.rn_setRn_other h, State.rn_setRn_same, State.rn_setRn_same]
  omega

/-! ### What a tally unit takes (R463, R464) -/

/-- STATE holds the bits of the active width. -/
theorem rn_setTally_state {s : State} {u : Nat} (hw : (tallySet s u).width ≤ 32) (v : Nat) :
    (setTally s u v).rn (rTALLY_STATE u) = v % 2 ^ (tallySet s u).width := by
  have hne : rTALLY_STATE u ≠ rTALLY_RESULT u := by simp [rTALLY_STATE, rTALLY_RESULT]
  have hfits : v % 2 ^ (tallySet s u).width < 2 ^ 32 :=
    (Nat.mod_lt v (Nat.two_pow_pos _)).trans_le (Nat.pow_le_pow_right (by decide) hw)
  rw [setTally, State.rn_setRn_other hne, State.rn_setRn_same, Nat.mod_eq_of_lt hfits]

theorem rn_setTally_other {u o : Nat} (hstate : o ≠ rTALLY_STATE u) (hresult : o ≠ rTALLY_RESULT u) (s : State)
    (v : Nat) : (setTally s u v).rn o = s.rn o := by
  rw [setTally, State.rn_setRn_other hresult, State.rn_setRn_other hstate]

/-- STATE takes the bytes of a write in their order. -/
theorem rn_tallyData_state {s : State} {u : Nat} (hw : (tallySet s u).width ≤ 32) (bytes : List Byte) :
    (tallyData s u bytes).rn (rTALLY_STATE u)
      = bytes.foldl (tallySet s u).feed (s.rn (rTALLY_STATE u)) % 2 ^ (tallySet s u).width := by
  have hlo : rTALLY_STATE u ≠ rTALLY_COUNT_LO u := by simp [rTALLY_STATE, rTALLY_COUNT_LO]
  have hhi : rTALLY_STATE u ≠ rTALLY_COUNT_HI u := by simp [rTALLY_STATE, rTALLY_COUNT_HI]
  rw [tallyData, State.rn_setPair_other hlo hhi, rn_setTally_state hw]

/-- COUNT is higher by 1 for each byte. -/
theorem pair_tallyData_count (s : State) (u : Nat) (bytes : List Byte) :
    (tallyData s u bytes).pair (rTALLY_COUNT_LO u) (rTALLY_COUNT_HI u)
      = (s.pair (rTALLY_COUNT_LO u) (rTALLY_COUNT_HI u) + bytes.length) % 2 ^ 64 :=
  State.pair_setPair_same (by simp [rTALLY_COUNT_LO, rTALLY_COUNT_HI]) _ _

theorem sameRegsBut_tallyData (s : State) (u : Nat) (bytes : List Byte) :
    SameRegsBut s (tallyData s u bytes) [rTALLY_STATE u, rTALLY_RESULT u, rTALLY_COUNT_LO u, rTALLY_COUNT_HI u] := by
  intro o ho
  simp only [List.mem_cons, List.not_mem_nil, or_false, not_or] at ho
  obtain ⟨hstate, hresult, hlo, hhi⟩ := ho
  rw [tallyData, State.rn_setPair_other hlo hhi, rn_setTally_other hstate hresult]

/-! ### Where the DATA windows lie (R464, R549) -/

/-- A byte of the DATA window of one of the 16 tally units. -/
def InTallyData (off : Nat) : Prop := 0xA0000 ≤ off ∧ off < 0xA0800 ∧ 0x40 ≤ off % 0x80

theorem inTallyData_window {u i : Nat} (hu : u < 16) (hi : i < 64) : InTallyData (0xA0040 + 0x80 * u + i) := by
  unfold InTallyData
  omega

/-- The word that holds a byte of the window lies in the window. -/
theorem InTallyData.word {off : Nat} (h : InTallyData off) : InTallyData (off / 4 * 4) := by
  unfold InTallyData at h ⊢
  omega

theorem InTallyData.byteServed {off : Nat} (h : InTallyData off) : byteServed off = true := by
  obtain ⟨hlo, hhi, hdata⟩ := h
  simp [Machine.byteServed, hlo, hhi, hdata]

/-- Bytes of one window are served byte by byte. -/
theorem byteRange_tallyData {u x n : Nat} (hu : u < 16) (hn : 0 < n) (hx : x + n ≤ 64) :
    byteRange (0xA0040 + 0x80 * u + x) n = true := by
  have hlast : 0xA0040 + 0x80 * u + x + n - 1 = 0xA0040 + 0x80 * u + (x + n - 1) := by omega
  have hunit : (0xA0040 + 0x80 * u + x) / 0x80 = (0xA0040 + 0x80 * u + (x + n - 1)) / 0x80 := by omega
  simp [byteRange, hlast, (inTallyData_window hu (show x < 64 by omega)).byteServed,
    (inTallyData_window hu (show x + n - 1 < 64 by omega)).byteServed, hunit]

/-! ### Writes of the window (R464) -/

/-- A write of bytes of a window feeds its unit, wherever in the window it starts. -/
theorem writeAccess_tallyData {u x : Nat} {bytes : List Byte} (hu : u < 16) (hne : bytes ≠ [])
    (hx : x + bytes.length ≤ 64) (s : State) (q : Requester) (begun : Bool) (chk : BusCheck) (c : ChkCount) :
    writeAccess s q (0xA0040 + 0x80 * u + x) bytes begun chk c = tallyData s u bytes := by
  have hpos : 0 < bytes.length := List.length_pos_iff.mpr hne
  have hpush : ¬ 0x1100000 ≤ 0xA0040 + 0x80 * u + x := by omega
  have hblock : 0xA0040 + 0x80 * u + x < 0xB0000 := by omega
  have hunit : (0xA0040 + 0x80 * u + x - 0xA0000) / 0x80 = u := by omega
  simp [writeAccess, writeBytes, hne, hpush, byteRange_tallyData hu hpos hx, hblock, hunit]

/-! ### Reads of the window (R464) -/

theorem presence_of_inTallyData {off : Nat} (h : InTallyData off) (s : State) : presence s off = .here := by
  obtain ⟨hlo, hhi, -⟩ := h
  unfold presence
  rw [if_neg, if_neg, if_neg, if_neg] <;> simp <;> omega

theorem hubVal_of_inTallyData {off : Nat} (h : InTallyData off) (s : State) (v : Nat) : hubVal s off v = 0 := by
  obtain ⟨hlo, hhi, hdata⟩ := h
  unfold hubVal
  rw [if_neg, if_neg, if_neg, if_neg, if_neg, if_pos] <;>
    simp [rGLB_INT_SUMMARY, rRING_INT_MODE, rSAFE_DISP_STATUS] <;> omega

/-- A word of the window reads 0. -/
theorem regVal_of_inTallyData {off : Nat} (h : InTallyData off) (s : State) : regVal s off = 0 := by
  have hhub : off < 0x200000 := by
    unfold InTallyData at h
    omega
  unfold regVal
  split
  · rfl
  · simp only [presence_of_inTallyData h, if_pos hhub, hubVal_of_inTallyData h]

/-- A read of bytes of a window answers zeros, and is nothing but that answer. -/
theorem readAccess_tallyData {u x size : Nat} (hu : u < 16) (hpos : 0 < size) (hx : x + size ≤ 64) (s : State)
    (q : Requester) :
    readAccess s q (0xA0040 + 0x80 * u + x) size = s.answer .success (List.replicate size 0) := by
  have hpop : ¬ rLARDER_POP_LO 0 ≤ 0xA0040 + 0x80 * u + x := by
    unfold rLARDER_POP_LO
    omega
  have hcollect : ¬ rBRIDGE_COLLECT_LO 0 ≤ 0xA0040 + 0x80 * u + x := by
    unfold rBRIDGE_COLLECT_LO
    omega
  have hbytes : (List.range size).map (fun i => BitVec.ofNat 8
      (regVal s ((0xA0040 + 0x80 * u + x + i) / 4 * 4) / 2 ^ (8 * ((0xA0040 + 0x80 * u + x + i) % 4))))
        = List.replicate size 0 := by
    refine (List.map_eq_replicate_iff.mpr fun i hi => ?_).trans (congrArg (List.replicate · 0) List.length_range)
    have hlast : x + i < 64 := by
      have := List.mem_range.mp hi
      omega
    rw [Nat.add_assoc _ x i, regVal_of_inTallyData (inTallyData_window hu hlast).word, Nat.zero_div]
    rfl
  simp only [readAccess, hpos.ne', hpop, hcollect, decide_false, Bool.and_false, Bool.false_and, Bool.false_eq_true,
    if_false, byteRange_tallyData hu hpos hx, if_true, hbytes]

/-- Settles O55: the window is served byte by byte, so a write at any offset of it feeds the unit its bytes in order,
and a read answers zeros and leaves every register. -/
theorem tallyDataWindow : Obligations.TallyDataWindow := by
  refine ⟨?write, ?read, ?check⟩
  case write =>
    intro s q u x bytes begun chk c hs hu hne hx hw
    have hoff : 0xA0040 + 0x80 * u + x < 0x2000000 := by omega
    have hfed : writeBy s q ((0xA0040 + 0x80 * u + x) % 0x2000000) bytes false begun chk c = tallyData s u bytes := by
      rw [Nat.mod_eq_of_lt hoff, writeBy_of_reaches hs (by omega), writeAccess_tallyData hu hne hx]
    exact ⟨tallyData s u bytes, congrArg Host.Outcome.next hfed, rn_tallyData_state hw bytes,
      pair_tallyData_count s u bytes, sameRegsBut_tallyData s u bytes⟩
  case read =>
    intro s q u x size hs hu hpos hx
    have hoff : 0xA0040 + 0x80 * u + x < 0x2000000 := by omega
    have hread : readBy s q ((0xA0040 + 0x80 * u + x) % 0x2000000) size
        = s.answer .success (List.replicate size 0) := by
      rw [Nat.mod_eq_of_lt hoff, readBy_of_reaches hs (by omega), readAccess_tallyData hu hpos hx]
    exact ⟨s.answer .success (List.replicate size 0), congrArg Host.Outcome.next hread, rfl, fun _ _ => rfl⟩
  case check =>
    intro s u hhub hu hw
    have hfed : hub s (tallyData s (u % 16) ((leBytes 4 0x34333231).take 64))
        = tallyData s u [0x31#8, 0x32#8, 0x33#8, 0x34#8] := by
      rw [hub, if_pos hhub, Nat.mod_eq_of_lt hu]
      rfl
    exact ⟨tallyData s u [0x31#8, 0x32#8, 0x33#8, 0x34#8], congrArg Host.Outcome.next hfed, rn_tallyData_state hw _⟩

end Sys2Proof.Machine

namespace Sys2Proof.Machine

/-! ### What every command keeps -/

/-- Every part, with its bit in the sets of `Keeps`. -/
def partBits : List (Part × Nat) :=
  [(.mem, 41), (.mem, 42), (.attic, 46), (.ident, 11), (.spdm, 45), (.mgt, 13), (.scc, 12), (.esc, 14), (.place, 23),
   (.started, 17), (.commits, 24), (.larder, 37), (.tally, 43), (.madc, 44), (.lane, 39), (.act, 4), (.tile, 29)]

/-- The set `W` names no part that command `c` does not reach, unless `c` restarts the device. -/
def Within (c : Instr) (W : Nat) : Bool :=
  restarts c || partBits.all (fun p => reaches p.1 c || !W.testBit p.2)

/-- What a command keeps, with a set that names only what it reaches. -/
theorem reached {c : Instr} {W : Nat} {s : State} (h : W &&& W = W → Keeps W s s → KeepsOut W s (exec c s))
    (hw : Within c W = true) : ∃ W, Within c W = true ∧ KeepsOut W s (exec c s) :=
  ⟨W, hw, h (Nat.and_self W) (Keeps.refl W s)⟩

/-- The same for a command that changes nothing that `Keeps` names. -/
theorem reached_none {c : Instr} {s : State} (h : Keeps 0 s s → KeepsOut 0 s (exec c s)) (hw : Within c 0 = true) :
    ∃ W, Within c W = true ∧ KeepsOut W s (exec c s) :=
  ⟨0, hw, h (Keeps.refl 0 s)⟩

/-- Every command keeps the canonical forms, the queue and the time, and every part that it does not reach. -/
theorem exec_keeps_unreached (c : Instr) (s : State) : ∃ W, Within c W = true ∧ KeepsOut W s (exec c s) :=
  match c with
  | .powerOn .. => reached (keeps_execPowerOn _ _ _ s) rfl
  | .seqErrorRecordCommit => reached (keeps_execSeqErrorRecordCommit s) rfl
  | .supplyLeavesTolerance .. => reached (keeps_execSupplyLeavesTolerance _ s) rfl
  | .porstNFall => reached (keeps_execPorstNFall s) rfl
  | .porstNRise .. => reached (keeps_execPorstNRise _ _ _ s) rfl
  | .brownout .. => reached (keeps_execBrownout _ s) rfl
  | .devReset .. => reached (keeps_execDevReset _ s) rfl
  | .deviceResetEffect => reached (keeps_execDeviceResetEffect s) rfl
  | .internalRelease => reached (keeps_execInternalRelease s) rfl
  | .perstNFall => reached (keeps_execPerstNFall s) rfl
  | .perstNRise => reached (keeps_execPerstNRise s) rfl
  | .pcieDomainPerstTimeout => reached (keeps_execPcieDomainPerstTimeout s) rfl
  | .hotReset => reached (keeps_execHotReset s) rfl
  | .functionLevelReset => reached (keeps_execFunctionLevelReset s) rfl
  | .trstNLow => reached_none (keeps_execTrstNLow s) rfl
  | .hubClocksLocked => reached (keeps_execHubClocksLocked s) rfl
  | .optionalRailsRecorded .. => reached (keeps_execOptionalRailsRecorded _ _ _ _ s) rfl
  | .atticBankChosen .. => reached (keeps_execAtticBankChosen _ _ s) rfl
  | .islandFirmwareRunning .. => reached (keeps_execIslandFirmwareRunning _ _ _ _ _ _ _ _ _ _ s) rfl
  | .pcieControllerReady => reached (keeps_execPcieControllerReady s) rfl
  | .larderPoolInitialised .. => reached (keeps_execLarderPoolInitialised _ _ s) rfl
  | .startupTestPassed .. => reached (keeps_execStartupTestPassed _ s) rfl
  | .convertersCalibrated .. => reached (keeps_execConvertersCalibrated _ _ _ s) rfl
  | .lp5xStacksTrained .. => reached (keeps_execLp5xStacksTrained _ _ s) rfl
  | .tilePowered => reached (keeps_execTilePowered s) rfl
  | .tileTestDone .. => reached (keeps_execTileTestDone _ _ _ _ _ s) rfl
  | .kernelLibraryLoaded .. => reached (keeps_execKernelLibraryLoaded _ _ s) rfl
  | .serviceSetEvaluated => reached (keeps_execServiceSetEvaluated s) rfl
  | .ltssmDetect => reached (keeps_execLtssmDetect s) rfl
  | .linkDlActive .. => reached (keeps_execLinkDlActive _ _ _ s) rfl
  | .rateChangeComplete .. => reached (keeps_execRateChangeComplete _ _ s) rfl
  | .configReady => reached (keeps_execConfigReady s) rfl
  | .configurationRequest .. => reached (keeps_execConfigurationRequest _ _ _ _ s) rfl
  | .sportEnable .. => reached (keeps_execSportEnable _ _ s) rfl
  | .sportSoftReset .. => reached (keeps_execSportSoftReset _ _ s) rfl
  | .stopStateExit .. => reached (keeps_execStopStateExit _ _ s) rfl
  | .ulpsEntry .. => reached (keeps_execUlpsEntry _ s) rfl
  | .deskewSequence .. => reached (keeps_execDeskewSequence _ s) rfl
  | .frameStartPacket .. => reached (keeps_execFrameStartPacket _ _ _ _ s) rfl
  | .lineStartPacket .. => reached (keeps_execLineStartPacket _ _ _ _ s) rfl
  | .longPacket .. => reached (keeps_execLongPacket _ _ _ _ _ _ _ s) rfl
  | .genericShortPacket .. => reached (keeps_execGenericShortPacket _ _ s) rfl
  | .frameEndPacket .. => reached (keeps_execFrameEndPacket _ _ _ s) rfl
  | .phyLinkLost .. => reached (keeps_execPhyLinkLost _ _ s) rfl
  | .frameTimeout .. => reached (keeps_execFrameTimeout _ _ s) rfl
  | .lportVsyncActive .. => reached (keeps_execLportVsyncActive _ s) rfl
  | .lportLine .. => reached (keeps_execLportLine _ _ _ s) rfl
  | .lportVsyncInactive .. => reached (keeps_execLportVsyncInactive _ s) rfl
  | .mclkWrite .. => reached (keeps_execMclkWrite _ _ s) rfl
  | .xrstPulse .. => reached (keeps_execXrstPulse _ _ s) rfl
  | .xrstPulseEnd .. => reached (keeps_execXrstPulseEnd _ s) rfl
  | .ilsSample .. => reached (keeps_execIlsSample _ _ s) rfl
  | .dialSet .. => reached (keeps_execDialSet _ s) rfl
  | .rateTrimWrite .. => reached (keeps_execRateTrimWrite _ s) rfl
  | .dialSourceWrite .. => reached (keeps_execDialSourceWrite _ s) rfl
  | .followHoldTimeout => reached (keeps_execFollowHoldTimeout s) rfl
  | .trigRun .. => reached (keeps_execTrigRun _ _ s) rfl
  | .trigRunClear .. => reached (keeps_execTrigRunClear _ _ s) rfl
  | .trigApply .. => reached (keeps_execTrigApply _ _ s) rfl
  | .trigPeriodBoundary .. => reached (keeps_execTrigPeriodBoundary _ s) rfl
  | .trigEdgeCompute .. => reached (keeps_execTrigEdgeCompute _ s) rfl
  | .trigRisingEdge .. => reached (keeps_execTrigRisingEdge _ s) rfl
  | .trigFallingEdge .. => reached (keeps_execTrigFallingEdge _ s) rfl
  | .illWindowOpen .. => reached (keeps_execIllWindowOpen _ s) rfl
  | .illWindowClose .. => reached (keeps_execIllWindowClose _ s) rfl
  | .illMaxExpiry .. => reached (keeps_execIllMaxExpiry _ s) rfl
  | .groupStart => reached (keeps_execGroupStart s) rfl
  | .groupStop => reached (keeps_execGroupStop s) rfl
  | .syncInEdge .. => reached (keeps_execSyncInEdge _ _ s) rfl
  | .syncEdgeMissed .. => reached (keeps_execSyncEdgeMissed _ s) rfl
  | .sccEnable .. => reached (keeps_execSccEnable _ _ _ s) rfl
  | .sccDisable .. => reached (keeps_execSccDisable _ _ _ s) rfl
  | .sccSoftReset .. => reached (keeps_execSccSoftReset _ _ _ _ s) rfl
  | .sccRecover .. => reached (keeps_execSccRecover _ _ _ s) rfl
  | .sccRecoveryWaitEnd .. => reached (keeps_execSccRecoveryWaitEnd _ _ s) rfl
  | .sccTransactionStart .. => reached (keeps_execSccTransactionStart _ s) rfl
  | .sccTransactionEnd .. => reached (keeps_execSccTransactionEnd _ _ _ s) rfl
  | .arbitrationLost .. => reached (keeps_execArbitrationLost _ _ s) rfl
  | .busErrorDetected .. => reached (keeps_execBusErrorDetected _ _ s) rfl
  | .sclStretchTimeout .. => reached (keeps_execSclStretchTimeout _ _ s) rfl
  | .busyTimeout .. => reached (keeps_execBusyTimeout _ s) rfl
  | .lockRequest .. => reached (keeps_execLockRequest _ s) rfl
  | .lockEnd .. => reached (keeps_execLockEnd _ s) rfl
  | .lockExpiry .. => reached (keeps_execLockExpiry _ s) rfl
  | .mgtStatus .. => reached (keeps_execMgtStatus _ s) rfl
  | .mgtIdentify .. => reached (keeps_execMgtIdentify _ s) rfl
  | .mgtBootStatus .. => reached (keeps_execMgtBootStatus _ s) rfl
  | .mgtBootFault .. => reached (keeps_execMgtBootFault _ s) rfl
  | .mgtResetCauseRead .. => reached (keeps_execMgtResetCauseRead _ _ s) rfl
  | .mgtResetCauseWrite .. => reached (keeps_execMgtResetCauseWrite _ _ s) rfl
  | .mgtTileWheels .. => reached (keeps_execMgtTileWheels _ s) rfl
  | .mgtAlertStatus .. => reached (keeps_execMgtAlertStatus _ s) rfl
  | .mgtAlertClear .. => reached (keeps_execMgtAlertClear _ _ s) rfl
  | .mgtAlertMaskRead .. => reached (keeps_execMgtAlertMaskRead _ _ s) rfl
  | .mgtAlertMaskWrite .. => reached (keeps_execMgtAlertMaskWrite _ _ s) rfl
  | .mgtMirrorAddrRead .. => reached (keeps_execMgtMirrorAddrRead _ _ s) rfl
  | .mgtMirrorAddrWrite .. => reached (keeps_execMgtMirrorAddrWrite _ _ s) rfl
  | .mgtMirrorRead .. => reached (keeps_execMgtMirrorRead _ s) rfl
  | .mgtMirrorWrite .. => reached (keeps_execMgtMirrorWrite _ _ s) rfl
  | .mgtLastError .. => reached (keeps_execMgtLastError _ s) rfl
  | .mgtCounters .. => reached (keeps_execMgtCounters _ s) rfl
  | .mgtConfigRead .. => reached (keeps_execMgtConfigRead _ _ s) rfl
  | .mgtConfigWrite .. => reached (keeps_execMgtConfigWrite _ _ s) rfl
  | .mgtUnsupportedCommand => reached (keeps_execMgtUnsupportedCommand s) rfl
  | .alertResponseRead .. => reached (keeps_execAlertResponseRead _ s) rfl
  | .mgtSclTimeout => reached (keeps_execMgtSclTimeout s) rfl
  | .escProfileLoad .. => reached (keeps_execEscProfileLoad _ s) rfl
  | .escFlush .. => reached (keeps_execEscFlush _ s) rfl
  | .writeWindowOpen .. => reached (keeps_execWriteWindowOpen _ s) rfl
  | .burstStart .. => reached (keeps_execBurstStart _ s) rfl
  | .burstLatestStartPassed .. => reached (keeps_execBurstLatestStartPassed _ s) rfl
  | .commitCheck => reached (keeps_execCommitCheck s) rfl
  | .plateLoad => reached (keeps_execPlateLoad s) rfl
  | .freshnessBudgetExpiry .. => reached (keeps_execFreshnessBudgetExpiry _ s) rfl
  | .frameDelivered .. => reached (keeps_execFrameDelivered _ s) rfl
  | .canvasEnable .. => reached (keeps_execCanvasEnable _ _ s) rfl
  | .canvasFrameStart .. => reached (keeps_execCanvasFrameStart _ s) rfl
  | .canvasSliceRelease .. => reached (keeps_execCanvasSliceRelease _ _ s) rfl
  | .jobRelease .. => reached (keeps_execJobRelease _ _ _ _ s) rfl
  | .pieceStart .. => reached (keeps_execPieceStart _ _ s) rfl
  | .pieceEnd .. => reached (keeps_execPieceEnd _ _ _ s) rfl
  | .pieceTimeout .. => reached (keeps_execPieceTimeout _ _ s) rfl
  | .twinTallyArrival .. => reached (keeps_execTwinTallyArrival _ s) rfl
  | .twinTallyDeadline .. => reached (keeps_execTwinTallyDeadline _ s) rfl
  | .tileFenceSoftware .. => reached (keeps_execTileFenceSoftware _ _ s) rfl
  | .tileFence .. => reached (keeps_execTileFence _ _ s) rfl
  | .readmissionPlacement => reached (keeps_execReadmissionPlacement s) rfl
  | .larderWordWrite .. => reached (keeps_execLarderWordWrite _ s) rfl
  | .pushData .. => reached (keeps_execPushData _ _ s) rfl
  | .pushDataEnd .. => reached (keeps_execPushDataEnd _ _ s) rfl
  | .popRead .. => reached (keeps_execPopRead _ _ _ s) rfl
  | .larderAuditDone .. => reached (keeps_execLarderAuditDone _ _ s) rfl
  | .queueFlush .. => reached (keeps_execQueueFlush _ _ _ s) rfl
  | .larderFlushDone .. => reached (keeps_execLarderFlushDone _ s) rfl
  | .queueEnable .. => reached (keeps_execQueueEnable _ _ s) rfl
  | .hoistStart .. => reached (keeps_execHoistStart _ _ s) rfl
  | .hoistStop .. => reached (keeps_execHoistStop _ _ s) rfl
  | .hoistStopDone .. => reached (keeps_execHoistStopDone _ s) rfl
  | .hoistEnd .. => reached (keeps_execHoistEnd _ s) rfl
  | .hoistMove .. => reached (keeps_execHoistMove _ s) rfl
  | .hoistLoop .. => reached (keeps_execHoistLoop _ s) rfl
  | .hoistWait .. => reached (keeps_execHoistWait _ s) rfl
  | .hoistSignal .. => reached (keeps_execHoistSignal _ s) rfl
  | .hoistLoad .. => reached (keeps_execHoistLoad _ s) rfl
  | .hoistAdd .. => reached (keeps_execHoistAdd _ s) rfl
  | .hoistIllegalInstruction .. => reached (keeps_execHoistIllegalInstruction _ s) rfl
  | .hoistWaitPass .. => reached (keeps_execHoistWaitPass _ s) rfl
  | .hoistWaitLimit .. => reached (keeps_execHoistWaitLimit _ s) rfl
  | .hoistBeat .. => reached (keeps_execHoistBeat _ _ s) rfl
  | .hoistReadCompletion .. => reached (keeps_execHoistReadCompletion _ s) rfl
  | .hoistWriteAck .. => reached (keeps_execHoistWriteAck _ s) rfl
  | .hoistErrorResponse .. => reached (keeps_execHoistErrorResponse _ s) rfl
  | .hoistRetry .. => reached (keeps_execHoistRetry _ s) rfl
  | .hoistCompletionTimeout .. => reached (keeps_execHoistCompletionTimeout _ s) rfl
  | .streamMoverPacket .. => reached (keeps_execStreamMoverPacket _ _ _ s) rfl
  | .crTail .. => reached (keeps_execCrTail _ _ s) rfl
  | .cqHead .. => reached (keeps_execCqHead _ _ s) rfl
  | .srTail .. => reached (keeps_execSrTail _ _ s) rfl
  | .kick .. => reached (keeps_execKick _ s) rfl
  | .shadowPoll => reached (keeps_execShadowPoll s) rfl
  | .shadowReadDone .. => reached (keeps_execShadowReadDone _ s) rfl
  | .ringEnable .. => reached (keeps_execRingEnable _ _ s) rfl
  | .commandFetch .. => reached (keeps_execCommandFetch _ _ s) rfl
  | .nop => reached (keeps_execNop s) rfl
  | .query => reached (keeps_execQuery s) rfl
  | .streamBind => reached (keeps_execStreamBind s) rfl
  | .streamUnbind => reached (keeps_execStreamUnbind s) rfl
  | .streamStart => reached (keeps_execStreamStart s) rfl
  | .streamStop => reached (keeps_execStreamStop s) rfl
  | .streamStopDrained .. => reached (keeps_execStreamStopDrained _ s) rfl
  | .settings => reached (keeps_execSettings s) rfl
  | .commit => reached (keeps_execCommit s) rfl
  | .winding => reached (keeps_execWinding s) rfl
  | .displayed => reached (keeps_execDisplayed s) rfl
  | .asyncStreamStop => reached (keeps_execAsyncStreamStop s) rfl
  | .coalesceTimeout .. => reached (keeps_execCoalesceTimeout _ s) rfl
  | .intRouteWrite .. => reached (keeps_execIntRouteWrite _ _ s) rfl
  | .msixUnmask .. => reached (keeps_execMsixUnmask _ s) rfl
  | .bar4Read .. => reached (keeps_execBar4Read _ _ s) rfl
  | .bar4Write .. => reached (keeps_execBar4Write _ _ _ s) rfl
  | .bar2Write => reached (keeps_execBar2Write s) rfl
  | .unsupportedRequest .. => reached (keeps_execUnsupportedRequest _ s) rfl
  | .pcieCompletionReceived .. => reached (keeps_execPcieCompletionReceived _ _ s) rfl
  | .l0sEntry => reached (keeps_execL0sEntry s) rfl
  | .l0sExit => reached (keeps_execL0sExit s) rfl
  | .l1Entry => reached (keeps_execL1Entry s) rfl
  | .l1Exit => reached (keeps_execL1Exit s) rfl
  | .clkreqChange .. => reached (keeps_execClkreqChange _ s) rfl
  | .l0pNarrow .. => reached (keeps_execL0pNarrow _ s) rfl
  | .l0pWiden .. => reached (keeps_execL0pWiden _ s) rfl
  | .d3hotEntry => reached (keeps_execD3hotEntry s) rfl
  | .d0Return => reached (keeps_execD0Return s) rfl
  | .postedAliasWrite .. => reached (keeps_execPostedAliasWrite _ _ _ s) rfl
  | .postedAliasRead .. => reached (keeps_execPostedAliasRead _ _ _ s) rfl
  | .splitReadDone .. => reached (keeps_execSplitReadDone _ s) rfl
  | .collectRead .. => reached (keeps_execCollectRead _ s) rfl
  | .ticketDiscard .. => reached (keeps_execTicketDiscard _ s) rfl
  | .syncedAliasWrite .. => reached (keeps_execSyncedAliasWrite _ _ _ s) rfl
  | .syncedAliasRead .. => reached (keeps_execSyncedAliasRead _ _ _ s) rfl
  | .syncedReadDone .. => reached (keeps_execSyncedReadDone _ s) rfl
  | .syncedReadHoldExpired .. => reached (keeps_execSyncedReadHoldExpired _ s) rfl
  | .fabricWindowWrite .. => reached (keeps_execFabricWindowWrite _ _ _ s) rfl
  | .fabricWindowRead .. => reached (keeps_execFabricWindowRead _ _ _ s) rfl
  | .fabricWindowResponse .. => reached (keeps_execFabricWindowResponse _ s) rfl
  | .fabricWindowHoldExpired .. => reached (keeps_execFabricWindowHoldExpired _ s) rfl
  | .outWinCtrlWrite .. => reached (keeps_execOutWinCtrlWrite _ _ s) rfl
  | .laneEnable .. => reached (keeps_execLaneEnable _ _ s) rfl
  | .lanePllLocked .. => reached (keeps_execLanePllLocked _ s) rfl
  | .signalDetectAssert .. => reached (keeps_execSignalDetectAssert _ s) rfl
  | .signalDetectDeassert .. => reached (keeps_execSignalDetectDeassert _ s) rfl
  | .adaptationDone .. => reached (keeps_execAdaptationDone _ _ _ _ s) rfl
  | .adaptationTimeout .. => reached (keeps_execAdaptationTimeout _ s) rfl
  | .cdrLockLost .. => reached (keeps_execCdrLockLost _ s) rfl
  | .cdrRelock .. => reached (keeps_execCdrRelock _ s) rfl
  | .frefLost => reached (keeps_execFrefLost s) rfl
  | .frefRestored => reached (keeps_execFrefRestored s) rfl
  | .txEqWrite .. => reached (keeps_execTxEqWrite _ _ s) rfl
  | .laneStateRequest .. => reached (keeps_execLaneStateRequest _ _ s) rfl
  | .laneWakeDone .. => reached (keeps_execLaneWakeDone _ _ s) rfl
  | .laneFabricEn .. => reached (keeps_execLaneFabricEn _ _ s) rfl
  | .patgenEnable .. => reached (keeps_execPatgenEnable _ _ s) rfl
  | .patchkEnable .. => reached (keeps_execPatchkEnable _ _ _ s) rfl
  | .patchkClear .. => reached (keeps_execPatchkClear _ _ _ s) rfl
  | .patchkSnap .. => reached (keeps_execPatchkSnap _ _ _ s) rfl
  | .checkerSync .. => reached (keeps_execCheckerSync _ s) rfl
  | .checkerSyncLoss .. => reached (keeps_execCheckerSyncLoss _ _ s) rfl
  | .injectOne .. => reached (keeps_execInjectOne _ _ s) rfl
  | .injectRate .. => reached (keeps_execInjectRate _ s) rfl
  | .loopbackWrite .. => reached (keeps_execLoopbackWrite _ _ s) rfl
  | .fabricEnable .. => reached (keeps_execFabricEnable _ s) rfl
  | .portTrained .. => reached (keeps_execPortTrained _ s) rfl
  | .portTrainingTimeout .. => reached (keeps_execPortTrainingTimeout _ s) rfl
  | .portRetrain .. => reached (keeps_execPortRetrain _ s) rfl
  | .helloSend .. => reached (keeps_execHelloSend _ s) rfl
  | .helloReceived .. => reached (keeps_execHelloReceived _ _ s) rfl
  | .helloTimeout .. => reached (keeps_execHelloTimeout _ s) rfl
  | .authMessage .. => reached (keeps_execAuthMessage _ _ s) rfl
  | .authTimeout .. => reached (keeps_execAuthTimeout _ s) rfl
  | .heldExpiry .. => reached (keeps_execHeldExpiry _ s) rfl
  | .flitReceived .. => reached (keeps_execFlitReceived _ _ _ _ _ s) rfl
  | .ackSend .. => reached (keeps_execAckSend _ s) rfl
  | .ackReceived .. => reached (keeps_execAckReceived _ _ s) rfl
  | .nakReceived .. => reached (keeps_execNakReceived _ _ s) rfl
  | .ackTimeout .. => reached (keeps_execAckTimeout _ s) rfl
  | .rootStable => reached (keeps_execRootStable s) rfl
  | .idClaim .. => reached (keeps_execIdClaim _ _ _ _ s) rfl
  | .idGrant .. => reached (keeps_execIdGrant _ _ _ _ _ s) rfl
  | .fabricPacketForward .. => reached (keeps_execFabricPacketForward _ _ s) rfl
  | .fabricRequestReceived .. => reached (keeps_execFabricRequestReceived _ _ _ s) rfl
  | .fabricResponseReceived .. => reached (keeps_execFabricResponseReceived _ _ s) rfl
  | .fabricRequestTimeout .. => reached (keeps_execFabricRequestTimeout _ s) rfl
  | .inWinCtrlWrite .. => reached (keeps_execInWinCtrlWrite _ _ s) rfl
  | .peerTailPoll .. => reached (keeps_execPeerTailPoll _ _ _ s) rfl
  | .timeSyncExchange => reached (keeps_execTimeSyncExchange s) rfl
  | .timeReq .. => reached (keeps_execTimeReq _ _ s) rfl
  | .timeRsp .. => reached (keeps_execTimeRsp _ _ _ _ _ s) rfl
  | .portIdleSleep .. => reached (keeps_execPortIdleSleep _ s) rfl
  | .sleepNotice .. => reached (keeps_execSleepNotice _ _ s) rfl
  | .portWake .. => reached (keeps_execPortWake _ s) rfl
  | .tallyStart .. => reached (keeps_execTallyStart _ _ s) rfl
  | .tallyDataWrite .. => reached (keeps_execTallyDataWrite _ _ s) rfl
  | .tallyParityError .. => reached (keeps_execTallyParityError _ s) rfl
  | .calStart .. => reached (keeps_execCalStart _ _ s) rfl
  | .adcCalibrationDone .. => reached (keeps_execAdcCalibrationDone _ _ s) rfl
  | .adcConversionEnd .. => reached (keeps_execAdcConversionEnd _ _ s) rfl
  | .go .. => reached (keeps_execGo _ _ s) rfl
  | .adcUrgentTrigger .. => reached (keeps_execAdcUrgentTrigger _ s) rfl
  | .adcConversionStuck .. => reached (keeps_execAdcConversionStuck _ s) rfl
  | .aadcPowerUp => reached (keeps_execAadcPowerUp s) rfl
  | .ilsLatchClear .. => reached (keeps_execIlsLatchClear _ s) rfl
  | .sokHalfPeriod .. => reached (keeps_execSokHalfPeriod _ _ s) rfl
  | .hardwareForcedLow .. => reached (keeps_execHardwareForcedLow _ s) rfl
  | .islandSelfTest .. => reached (keeps_execIslandSelfTest _ s) rfl
  | .residueCheckerSelfTest .. => reached (keeps_execResidueCheckerSelfTest _ _ _ s) rfl
  | .memoryScrub .. => reached (keeps_execMemoryScrub _ s) rfl
  | .faultCodeReceived .. => reached (keeps_execFaultCodeReceived _ _ s) rfl
  | .heartbeatStart => reached (keeps_execHeartbeatStart s) rfl
  | .release .. => reached (keeps_execRelease _ s) rfl
  | .windingDeadline => reached (keeps_execWindingDeadline s) rfl
  | .displayBudgetExpiry .. => reached (keeps_execDisplayBudgetExpiry _ s) rfl
  | .tempWarnRearm => reached (keeps_execTempWarnRearm s) rfl
  | .safetyViewsWrite .. => reached (keeps_execSafetyViewsWrite _ _ _ s) rfl
  | .logCommit => reached (keeps_execLogCommit s) rfl
  | .logIndex .. => reached (keeps_execLogIndex _ s) rfl
  | .getVersion => reached (keeps_execGetVersion s) rfl
  | .getCapabilities => reached (keeps_execGetCapabilities s) rfl
  | .negotiateAlgorithms => reached (keeps_execNegotiateAlgorithms s) rfl
  | .getDigests => reached (keeps_execGetDigests s) rfl
  | .getCertificate .. => reached (keeps_execGetCertificate _ _ _ s) rfl
  | .challenge .. => reached (keeps_execChallenge _ s) rfl
  | .getMeasurements .. => reached (keeps_execGetMeasurements _ _ s) rfl
  | .keyExchange => reached (keeps_execKeyExchange s) rfl
  | .finish .. => reached (keeps_execFinish _ _ s) rfl
  | .heartbeat .. => reached (keeps_execHeartbeat _ s) rfl
  | .keyUpdate .. => reached (keeps_execKeyUpdate _ s) rfl
  | .endSession .. => reached (keeps_execEndSession _ s) rfl
  | .unsupportedSpdmRequest => reached (keeps_execUnsupportedSpdmRequest s) rfl
  | .gmacBind .. => reached (keeps_execGmacBind _ s) rfl
  | .gmacEnable .. => reached (keeps_execGmacEnable _ s) rfl
  | .atticUpdateStart .. => reached (keeps_execAtticUpdateStart _ s) rfl
  | .atticImageChecked .. => reached (keeps_execAtticImageChecked _ s) rfl
  | .atticSectorErased => reached (keeps_execAtticSectorErased s) rfl
  | .atticPageProgrammed => reached (keeps_execAtticPageProgrammed s) rfl
  | .atticReadbackDone .. => reached (keeps_execAtticReadbackDone _ s) rfl
  | .readAddr .. => reached (keeps_execReadAddr _ s) rfl
  | .domainOnRequest .. => reached (keeps_execDomainOnRequest _ s) rfl
  | .domainSelfRefreshRequest .. => reached (keeps_execDomainSelfRefreshRequest _ s) rfl
  | .domainOffRequest .. => reached (keeps_execDomainOffRequest _ s) rfl
  | .domainDrained .. => reached (keeps_execDomainDrained _ s) rfl
  | .domainForced .. => reached (keeps_execDomainForced _ s) rfl
  | .domainOffDone .. => reached (keeps_execDomainOffDone _ s) rfl
  | .domainPowerUpDone .. => reached (keeps_execDomainPowerUpDone _ s) rfl
  | .standbyEnter .. => reached (keeps_execStandbyEnter _ s) rfl
  | .standbyReached => reached (keeps_execStandbyReached s) rfl
  | .clockMonitorWindow .. => reached (keeps_execClockMonitorWindow _ _ _ s) rfl
  | .registerWrite .. => reached (keeps_execRegisterWrite _ _ _ _ _ _ _ s) rfl
  | .counterReadClear .. => reached (keeps_execCounterReadClear _ _ _ s) rfl
  | .lowerHalfRead .. => reached (keeps_execLowerHalfRead _ _ s) rfl
  | .stopStateEntry .. => reached (keeps_execStopStateEntry _ _ s) rfl
  | .ltssmRecoveryEntry => reached (keeps_execLtssmRecoveryEntry s) rfl
  | .badTlpReceived .. => reached (keeps_execBadTlpReceived _ s) rfl
  | .doeDiscovery .. => reached (keeps_execDoeDiscovery _ s) rfl

/-- A part that a command does not reach is outside the set that the command may change. -/
theorem within_unreached {c : Instr} {W i : Nat} {p : Part} (hw : Within c W = true) (hr : restarts c = false)
    (hp : reaches p c = false) (hi : (p, i) ∈ partBits) : W.testBit i = false := by
  simp only [Within, hr, Bool.false_or] at hw
  simpa [hp] using List.all_eq_true.mp hw (p, i) hi

theorem same_of_keeps {p : Part} {W : Nat} {s t : State} (h : Keeps W s t)
    (hw : ∀ i, (p, i) ∈ partBits → W.testBit i = false) : Same p s t := by
  cases p with
  | mem => exact ⟨h.mem (hw 41 (by decide)), h.memPoison (hw 42 (by decide))⟩
  | attic => exact h.attic (hw 46 (by decide))
  | ident => exact h.ident (hw 11 (by decide))
  | spdm => exact h.spdm (hw 45 (by decide))
  | mgt => exact h.mgt (hw 13 (by decide))
  | scc => exact h.scc (hw 12 (by decide))
  | esc => exact h.esc (hw 14 (by decide))
  | place => exact h.place (hw 23 (by decide))
  | started => exact h.started (hw 17 (by decide))
  | commits => exact h.commits (hw 24 (by decide))
  | larder => exact h.larder (hw 37 (by decide))
  | tally => exact h.tally (hw 43 (by decide))
  | madc => exact h.madc (hw 44 (by decide))
  | lane => exact h.lane (hw 39 (by decide))
  | act => exact h.act (hw 4 (by decide))
  | tile => exact h.tile (hw 29 (by decide))

/-- Settles O48: what a command may change lies within the parts that it reaches. -/
theorem onlyTheirCommandsReachAPart : Obligations.OnlyTheirCommandsReachAPart := by
  intro p c s t hexec hr hp
  obtain ⟨W, hw, hkeeps⟩ := exec_keeps_unreached c s
  exact same_of_keeps (hkeeps t hexec) fun i hi => within_unreached hw hr hp hi

/-- Settles O47: every command keeps the waiting commands and the time. -/
theorem commandsKeepTheQueueAndTheClock : Obligations.CommandsKeepTheQueueAndTheClock := by
  intro c s t hexec
  obtain ⟨W, -, hkeeps⟩ := exec_keeps_unreached c s
  exact ⟨(hkeeps t hexec).pending, (hkeeps t hexec).now⟩

/-- Settles O46: the meaning of every command is a next state. -/
theorem everyCommandAnswers : Obligations.EveryCommandAnswers := by
  intro c s
  cases c <;> exact ⟨_, rfl⟩

/-- Settles O41: the definition of a step, for a queue that is not empty. -/
theorem stepRunsTheFrontCommand : Obligations.StepRunsTheFrontCommand := by
  intro s c q hq
  rw [step, hq]

/-! ### Canonical forms (R167, R549, R555) -/

theorem canonical_of_keeps {W : Nat} {s t : State} (h : Keeps W s t) (hs : Canonical s) : Canonical t := by
  obtain ⟨hregs, hact, hmem⟩ := hs
  exact ⟨h.regsForm hregs, h.actForm hact, h.memForm hmem⟩

/-- The passing of time touches neither registers nor memory. -/
theorem canonical_tick {s : State} (hs : Canonical s) : Canonical (tick s) := by
  unfold tick hub
  dsimp only
  split <;> exact hs

/-- Settles O45: a step is the passing of time or a command, and both keep the canonical forms. -/
theorem everyStepKeepsCanonicalForms : Obligations.EveryStepKeepsCanonicalForms := by
  intro s t hs hstep
  unfold Steps step at hstep
  split at hstep
  · cases hstep
    exact canonical_tick hs
  next c q hq =>
    obtain ⟨W, -, hkeeps⟩ := exec_keeps_unreached c (s.withPending q)
    exact canonical_of_keeps (hkeeps t hstep) hs

/-- Settles O44: the listed registers rise, and memory lists nothing. -/
theorem resetIsCanonical : Obligations.ResetIsCanonical :=
  ⟨by decide, rfl, memory_wf_reset⟩

end Sys2Proof.Machine

namespace Sys2Proof.Machine

/-! ### Fields and bits -/

/-- A bit of a number is a field of width 1. -/
theorem bitAt_eq_bitsOf (v k : Nat) : bitAt v k = (bitsOf v k 1 != 0) := by
  have h := Nat.mod_two_eq_zero_or_one (v / 2 ^ k)
  unfold bitAt bitsOf
  rcases h with h | h <;> simp [h]

/-- A part of a field is a part of the number. -/
theorem bitsOf_bitsOf {v l w k n : Nat} (h : k + n ≤ w) : bitsOf (bitsOf v l w) k n = bitsOf v (l + k) n := by
  have hw : 2 ^ w = 2 ^ k * 2 ^ (w - k) := by rw [← Nat.pow_add, Nat.add_sub_cancel' (by omega)]
  unfold bitsOf
  rw [hw, Nat.mod_mul_right_div_self, Nat.div_div_eq_div_mul, ← Nat.pow_add,
    Nat.mod_mod_of_dvd _ (Nat.pow_dvd_pow 2 (by omega))]

/-- A bit of a field is a bit of the number. -/
theorem bitAt_bitsOf {v l w k : Nat} (h : k < w) : bitAt (bitsOf v l w) k = bitAt v (l + k) := by
  rw [bitAt_eq_bitsOf, bitAt_eq_bitsOf, bitsOf_bitsOf (by omega)]

theorem bitAt_putBits_same {v k x : Nat} : bitAt (putBits v k 1 x) k = (x % 2 != 0) := by
  rw [bitAt_eq_bitsOf, bitsOf_putBits_same, Nat.pow_one]

theorem bitAt_putBits_apart {v l w x k : Nat} (h : k < l ∨ l + w ≤ k) : bitAt (putBits v l w x) k = bitAt v k := by
  rw [bitAt_eq_bitsOf, bitAt_eq_bitsOf, bitsOf_putBits_apart (by omega)]

/-- A number of 32 bits is its own lowest 32 bits. -/
theorem State.rn_mod (s : State) (o : Nat) : s.rn o % 2 ^ 32 = s.rn o := Nat.mod_eq_of_lt (s.rn_lt o)

/-- A field fits its width. -/
theorem State.fv_lt (s : State) (f : Fld) : s.fv f < 2 ^ f.width := bitsOf_lt _ _ _

/-- A bit of a field is the field of width 1 at its place. -/
theorem State.bitAt_fv {s : State} {f : Fld} {k : Nat} (h : k < f.width) :
    bitAt (s.fv f) k = s.on ⟨f.off, f.lsb + k, 1⟩ := by
  rw [State.fv, bitAt_bitsOf h, bitAt_eq_bitsOf]
  rfl

/-! ### Registers of a state whose parts are named one by one -/

/-- The number that a register map holds at `o`. -/
def regsRn (regs : KMap Word) (o : Nat) : Nat := ((kget o regs).getD (resetWord o)).toNat

@[simp] theorem regsRn_regs (s : State) (o : Nat) : regsRn s.regs o = s.rn o := rfl

/-- Only the register map counts for what a register reads. -/
@[simp] theorem State.rn_mk (pending now taken regs act written pow regu isl pcie bridge ident scc mgt esc frameNo frameAt
    started fresh msgs reply ring wire place commits port pipe jobs nextJob tile readmit stops twinWait tallies prod
    canvas fstore larder hoist lane fabric mem memPoison tally madc spdm attic) (o : Nat) :
    State.rn ⟨pending, now, taken, regs, act, written, pow, regu, isl, pcie, bridge, ident, scc, mgt, esc, frameNo,
      frameAt, started, fresh, msgs, reply, ring, wire, place, commits, port, pipe, jobs, nextJob, tile, readmit,
      stops, twinWait, tallies, prod, canvas, fstore, larder, hoist, lane, fabric, mem, memPoison, tally, madc, spdm,
      attic⟩ o = regsRn regs o := rfl

/-- The field that a register map holds at `f`. -/
def regsFv (regs : KMap Word) (f : Fld) : Nat := bitsOf (regsRn regs f.off) f.lsb f.width

@[simp] theorem regsFv_regs (s : State) (f : Fld) : regsFv s.regs f = s.fv f := rfl

@[simp] theorem State.fv_mk (pending now taken regs act written pow regu isl pcie bridge ident scc mgt esc frameNo frameAt
    started fresh msgs reply ring wire place commits port pipe jobs nextJob tile readmit stops twinWait tallies prod
    canvas fstore larder hoist lane fabric mem memPoison tally madc spdm attic) (f : Fld) :
    State.fv ⟨pending, now, taken, regs, act, written, pow, regu, isl, pcie, bridge, ident, scc, mgt, esc, frameNo,
      frameAt, started, fresh, msgs, reply, ring, wire, place, commits, port, pipe, jobs, nextJob, tile, readmit,
      stops, twinWait, tallies, prod, canvas, fstore, larder, hoist, lane, fabric, mem, memPoison, tally, madc, spdm,
      attic⟩ f = regsFv regs f := rfl

/-- A condition on a field, in terms of its value. -/
theorem State.on_eq (s : State) (f : Fld) : s.on f = (s.fv f != 0) := rfl

/-! ### Registers after an update -/

@[simp] theorem fv_setF_of_apart {f g : Fld}
    (h : g.off ≠ f.off ∨ f.lsb + f.width ≤ 32 ∧ (f.lsb + f.width ≤ g.lsb ∨ g.lsb + g.width ≤ f.lsb)) (s : State)
    (v : Nat) : (s.setF f v).fv g = s.fv g := by
  rcases h with h | ⟨hf, h⟩
  · exact State.fv_setF_other h s v
  · exact State.fv_setF_apart s v hf h

/-- The register of an update, as a number. -/
theorem State.rn_setF_same (s : State) (f : Fld) (v : Nat) (h : f.lsb + f.width ≤ 32) :
    (s.setF f v).rn f.off = putBits (s.rn f.off) f.lsb f.width v := by
  rw [State.setF, State.rn_setRn_same, Nat.mod_eq_of_lt (putBits_lt (s.rn_lt f.off) h)]

@[simp] theorem State.fv_setRn_same (s : State) (f : Fld) (v : Nat) :
    (s.setRn f.off v).fv f = bitsOf (v % 2 ^ 32) f.lsb f.width := by
  rw [State.fv, State.rn_setRn_same]

@[simp] theorem State.fv_setRn_other {o : Nat} {f : Fld} (h : f.off ≠ o) (s : State) (v : Nat) :
    (s.setRn o v).fv f = s.fv f := by
  rw [State.fv, State.rn_setRn_other h, State.fv]

@[simp] theorem State.fv_setPair_other {lo hi : Nat} {f : Fld} (h : f.off ≠ lo ∧ f.off ≠ hi) (s : State) (v : Nat) :
    (s.setPair lo hi v).fv f = s.fv f := by
  rw [State.setPair, State.fv_setRn_other h.2, State.fv_setRn_other h.1]

@[simp] theorem State.rn_setReg_same (s : State) (o : Nat) (w : Word) : (s.setReg o w).rn o = w.toNat := by
  rw [State.rn, State.reg_setReg_same]

@[simp] theorem State.rn_setReg_other {o o' : Nat} (h : o' ≠ o) (s : State) (w : Word) : (s.setReg o w).rn o' = s.rn o' := by
  rw [State.rn, State.reg_setReg_other h, State.rn]

@[simp] theorem State.fv_setReg_other {o : Nat} {f : Fld} (h : f.off ≠ o) (s : State) (w : Word) :
    (s.setReg o w).fv f = s.fv f := by
  rw [State.fv, State.rn_setReg_other h, State.fv]

@[simp] theorem fv_bump_of_apart {f g : Fld}
    (h : g.off ≠ f.off ∨ f.lsb + f.width ≤ 32 ∧ (f.lsb + f.width ≤ g.lsb ∨ g.lsb + g.width ≤ f.lsb)) (s : State) :
    (s.bump f).fv g = s.fv g :=
  fv_setF_of_apart h s _

@[simp] theorem rn_bump_other {f : Fld} {o : Nat} (h : o ≠ f.off) (s : State) : (s.bump f).rn o = s.rn o := rn_setF_other h

@[simp] theorem fv_bumpBy_of_apart {f g : Fld}
    (h : g.off ≠ f.off ∨ f.lsb + f.width ≤ 32 ∧ (f.lsb + f.width ≤ g.lsb ∨ g.lsb + g.width ≤ f.lsb)) (s : State)
    (n : Nat) : (s.bumpBy f n).fv g = s.fv g :=
  fv_setF_of_apart h s _

@[simp] theorem rn_bumpBy_other {f : Fld} {o : Nat} (h : o ≠ f.off) (s : State) (n : Nat) : (s.bumpBy f n).rn o = s.rn o :=
  rn_setF_other h

@[simp] theorem rn_report (s : State) (c i k d o : Nat) : (s.report c i k d).rn o = s.rn o := rfl
@[simp] theorem report_fv (s : State) (c i k d : Nat) (f : Fld) : (s.report c i k d).fv f = s.fv f := rfl
@[simp] theorem fv_reportIf (s : State) (b : Bool) (c i k d : Nat) (f : Fld) : (s.reportIf b c i k d).fv f = s.fv f := by
  cases b <;> rfl
@[simp] theorem rn_answer (s : State) (r : RStatus) (bs : List Byte) (o : Nat) : (s.answer r bs).rn o = s.rn o := rfl
@[simp] theorem fv_answer (s : State) (r : RStatus) (bs : List Byte) (f : Fld) : (s.answer r bs).fv f = s.fv f := rfl

@[simp] theorem State.report_isl (s : State) (c i k d : Nat) :
    (s.report c i k d).isl = { s.isl with inbox := s.isl.inbox ++ [(faultCode c i k, d)] } := rfl

/-! ### Registers after an event -/

/-- What the discharger needs to see that `o` holds no pending bits of interrupts. -/
theorem not_irqReg_iff {o : Nat} : ¬ irqReg o ↔ (o < 0x26000 ∨ 0x26800 ≤ o) ∧ (o < 0x50000 ∨ 0x50100 ≤ o) := by
  unfold irqReg
  omega

@[simp] theorem rn_ev_other {f : Fld} {o : Nat} (h : o ≠ f.off)
    (ho : (o < 0x26000 ∨ 0x26800 ≤ o) ∧ (o < 0x50000 ∨ 0x50100 ≤ o)) (s : State) : (s.ev f).rn o = s.rn o :=
  rn_ev h (not_irqReg_iff.mpr ho)

@[simp] theorem fv_ev_of_apart {f g : Fld}
    (h : g.off ≠ f.off ∨ f.lsb + f.width ≤ 32 ∧ (f.lsb + f.width ≤ g.lsb ∨ g.lsb + g.width ≤ f.lsb))
    (ho : (g.off < 0x26000 ∨ 0x26800 ≤ g.off) ∧ (g.off < 0x50000 ∨ 0x50100 ≤ g.off)) (s : State) :
    (s.ev f).fv g = s.fv g := by
  rcases h with h | ⟨hf, h⟩
  · exact fv_ev_other h (not_irqReg_iff.mpr ho)
  · exact fv_ev_apart (not_irqReg_iff.mpr ho) hf h

@[simp] theorem fv_ev_set {f : Fld} (ho : (f.off < 0x26000 ∨ 0x26800 ≤ f.off) ∧ (f.off < 0x50000 ∨ 0x50100 ≤ f.off))
    (h : f.lsb + f.width ≤ 32) (s : State) : (s.ev f).fv f = 1 % 2 ^ f.width :=
  fv_ev_same (not_irqReg_iff.mpr ho) h

/-- The register of an event holds the event and is otherwise as it was. -/
theorem rn_ev_same {f : Fld} (ho : (f.off < 0x26000 ∨ 0x26800 ≤ f.off) ∧ (f.off < 0x50000 ∨ 0x50100 ≤ f.off))
    (h : f.lsb + f.width ≤ 32) (s : State) : (s.ev f).rn f.off = putBits (s.rn f.off) f.lsb f.width 1 := by
  rw [State.ev, rn_irqOff (not_irqReg_iff.mpr ho), State.rn_setF_same s f 1 h]

/-! ### The endpoint after an event -/

/-- Of the endpoint an interrupt message reaches the pending MSI vectors alone. -/
theorem sendVector_pcie (s : State) (v : Nat) : ∃ m, (sendVector s v).pcie = { s.pcie with msiPending := m } := by
  unfold sendVector
  dsimp only
  split
  · split
    · exact ⟨_, rfl⟩
    · split <;> exact ⟨_, rfl⟩
  · split
    · split
      · exact ⟨_, rfl⟩
      · split <;> exact ⟨_, rfl⟩
    · exact ⟨_, rfl⟩

/-- Of the endpoint an event reaches the pending MSI vectors alone. -/
theorem State.ev_pcie (s : State) (f : Fld) : ∃ m, (s.ev f).pcie = { s.pcie with msiPending := m } := by
  unfold State.ev irqOff
  split
  · unfold irqEval
    dsimp only
    split
    · exact sendVector_pcie _ _
    · exact ⟨_, rfl⟩
  · exact ⟨_, rfl⟩

@[simp] theorem State.ev_cfg (s : State) (f : Fld) : (s.ev f).pcie.cfg = s.pcie.cfg := by
  obtain ⟨m, h⟩ := s.ev_pcie f
  rw [h]
@[simp] theorem State.ev_configReady (s : State) (f : Fld) : (s.ev f).pcie.configReady = s.pcie.configReady := by
  obtain ⟨m, h⟩ := s.ev_pcie f
  rw [h]
@[simp] theorem State.ev_training (s : State) (f : Fld) : (s.ev f).pcie.training = s.pcie.training := by
  obtain ⟨m, h⟩ := s.ev_pcie f
  rw [h]
@[simp] theorem State.ev_inventory (s : State) (f : Fld) : (s.ev f).pcie.inventory = s.pcie.inventory := by
  obtain ⟨m, h⟩ := s.ev_pcie f
  rw [h]
@[simp] theorem State.ev_clkreq (s : State) (f : Fld) : (s.ev f).pcie.clkreq = s.pcie.clkreq := by
  obtain ⟨m, h⟩ := s.ev_pcie f
  rw [h]
@[simp] theorem State.ev_nextTag (s : State) (f : Fld) : (s.ev f).pcie.nextTag = s.pcie.nextTag := by
  obtain ⟨m, h⟩ := s.ev_pcie f
  rw [h]
@[simp] theorem State.ev_errMsgs (s : State) (f : Fld) : (s.ev f).pcie.errMsgs = s.pcie.errMsgs := by
  obtain ⟨m, h⟩ := s.ev_pcie f
  rw [h]

/-! ### Pairs -/

@[simp] theorem State.pair_setF_other {f : Fld} {lo hi : Nat} (h : lo ≠ f.off ∧ hi ≠ f.off) (s : State) (v : Nat) :
    (s.setF f v).pair lo hi = s.pair lo hi := by
  rw [State.pair, rn_setF_other h.1, rn_setF_other h.2, State.pair]

end Sys2Proof.Machine

namespace Sys2Proof.Machine

/-- An operation keeps what its own set does not name. -/
theorem Keeps.of {W : Nat} {s t : State} (h : W &&& W = W → Keeps W s s → Keeps W s t) : Keeps W s t :=
  h (Nat.and_self W) (Keeps.refl W s)

/-! ### Registers of a state that is chosen by a condition -/

@[simp] theorem State.fv_ite (c : Prop) [Decidable c] (a b : State) (f : Fld) :
    (if c then a else b).fv f = if c then a.fv f else b.fv f := apply_ite (fun s : State => s.fv f) c a b

@[simp] theorem State.rn_ite (c : Prop) [Decidable c] (a b : State) (o : Nat) :
    (if c then a else b).rn o = if c then a.rn o else b.rn o := apply_ite (fun s : State => s.rn o) c a b

/-! ### Supplies (R26, R43, R44, R48) -/

/-- A device that was without its always-on supplies comes up with them. -/
theorem powerOn_of_supplied {s : State} {order : List Rail} (hpow : s.pow.powered = false) (haon : Rail.vddAon ∈ order)
    (hio : Rail.vddioAon ∈ order) (porst perst : Bool) :
    powerOn s order porst perst = blankDevice s
      { rails := railMask order, ioG := maskOf 4 (fun g => order.contains (.ioG g)), porst := porst, perst := perst,
        sawLow := !porst, lowAt := s.now, perstLowAt := s.now, seqError := orderBad order } := by
  simp [powerOn, hpow, haon, hio]

@[simp] theorem commitRec_isl (s : State) (r : LogRec) : (commitRec s r).isl = s.isl :=
  (Keeps.of (keeps_commitRec s r)).isl rfl

/-- The record of a sequence error is the newest one; its number and its boot count may be free values. -/
theorem seqRecord_logged {s : State} (hpow : s.pow.powered = true) (hseq : s.pow.seqError = true)
    (hnew : s.pow.seqLogged = false) :
    (seqRecord s).pow.seqLogged = true ∧ ∃ r, (seqRecord s).isl.log = r :: s.isl.log ∧ r.code = 0x0A000108 ∧ r.kind = 2
      ∧ r.time = 0 ∧ r.committed = true := by
  unfold seqRecord
  simp only [hpow, hseq, hnew, Bool.not_false, Bool.and_true, if_true, true_and, commitRec_isl]
  split <;> split <;> exact ⟨_, rfl, rfl, rfl, rfl, rfl⟩

/-- A brown-out of an armed detector holds the device in reset. -/
theorem brownout_of_armed {s : State} {r : Rail} (hpow : s.pow.powered = true)
    (hr : r = .vddAon ∨ r = .vddioAon ∨ (r = .vddHub ∧ s.pow.phase ≠ .standby)) :
    brownout s r = holdReset s fGLB_RESET_CAUSE_BROWNOUT := by
  rcases hr with rfl | rfl | ⟨rfl, hph⟩
  · simp [brownout, hpow]
  · simp [brownout, hpow]
  · exact brownout_vddHub hpow hph

/-- The straps leave the two registers that survive a reset of device scope. -/
theorem rn_strapRegs_survivor {o : Nat} (ho : o = rGLB_RESET_CAUSE ∨ o = rGLB_BOOT_FAULT) (s : State) :
    (strapRegs s).rn o = s.rn o := by
  have hwheels : ∀ n ∈ List.range 8, o ≠ rGLB_TILE_WHEELS n := by
    intro n _
    rcases ho with rfl | rfl <;> grind
  have hother : o ≠ rMGT_STATUS ∧ o ≠ rGLB_STRAPS := by rcases ho with rfl | rfl <;> decide
  unfold strapRegs
  dsimp only
  rw [rn_setF_other hother.1, rn_setF_other hother.2, rn_setF_other hother.2, rn_setF_other hother.2]
  exact rn_foldl_setF hwheels _ s

theorem rn_deviceReset_bootFault (s : State) : (deviceReset s).rn rGLB_BOOT_FAULT = s.rn rGLB_BOOT_FAULT := by
  unfold deviceReset
  dsimp only
  rw [State.reportIf_rn, State.rn_ite, rn_strapRegs_survivor (.inr rfl), ite_self, State.rn_setRn_same, State.rn_mod]

@[simp] theorem State.reportIf_mem (s : State) (b : Bool) (c i k d : Nat) : (s.reportIf b c i k d).mem = s.mem := by
  cases b <;> rfl

@[simp] theorem strapRegs_mem (s : State) : (strapRegs s).mem = s.mem := (Keeps.of (keeps_strapRegs s)).mem rfl

theorem deviceReset_mem (s : State) : (deviceReset s).mem = [] := by
  unfold deviceReset
  dsimp only
  rw [State.reportIf_mem]
  split
  · rw [strapRegs_mem]
    rfl
  · rfl

theorem rn_holdReset_bootFault {cause : Fld} (h : rGLB_BOOT_FAULT ≠ cause.off) (s : State) :
    (holdReset s cause).rn rGLB_BOOT_FAULT = s.rn rGLB_BOOT_FAULT := by
  simp only [holdReset, resetCause, State.rn_mk, regsRn_regs]
  rw [rn_setF_other h, rn_deviceReset_bootFault]

theorem fv_holdReset_cause {cause : Fld} (h : cause.lsb + cause.width ≤ 32) (hw : cause.width = 1) (s : State) :
    (holdReset s cause).fv cause = 1 := by
  simp [holdReset, resetCause, State.fv_setF_same _ _ _ h, hw]

/-- Settles O1: the definitions of the four commands, with what a hold of 1 ms leaves. -/
theorem supplies : Obligations.Supplies := by
  refine ⟨?on, ?record, ?lost, ?group, ?brownout⟩
  case on =>
    intro s order porst perst hpow haon hio
    refine ⟨_, rfl, ?_⟩
    rw [powerOn_of_supplied hpow haon hio]
    exact ⟨rfl, rfl, rfl, rfl, rfl, rfl, rfl, fun _ => rfl, rfl⟩
  case record =>
    intro s hpow hseq hnew
    exact ⟨_, rfl, seqRecord_logged hpow hseq hnew⟩
  case lost =>
    intro s r hpow hr
    refine ⟨powerLost s, congrArg Host.Outcome.next ?_, rfl, rfl, rfl, rfl, rfl⟩
    rcases hr with rfl | rfl <;> simp [supplyLeaves, hpow]
  case group =>
    intro s g hpow
    refine ⟨{ s with pow := { s.pow with ioG := putBits s.pow.ioG (g % 4) 1 0 } }, congrArg Host.Outcome.next ?_,
      bitAt_putBits_same, rfl, rfl⟩
    simp [supplyLeaves, hpow]
  case brownout =>
    intro s r hpow hr
    obtain ⟨hphase, hhub, hself, hrelease⟩ := holdReset_held s fGLB_RESET_CAUSE_BROWNOUT
    refine ⟨holdReset s fGLB_RESET_CAUSE_BROWNOUT, congrArg Host.Outcome.next (brownout_of_armed hpow hr), hphase, hhub,
      hself, hrelease, fv_holdReset_cause (by decide) rfl s, rn_holdReset_bootFault (by decide) s, deviceReset_mem s⟩

end Sys2Proof.Machine

namespace Sys2Proof.Machine

/-! ### Ranges of registers that are reset -/

theorem State.rn_resetRegs_in {lo hi o : Nat} (hlo : lo ≤ o) (hhi : o < hi) (s : State) :
    (s.resetRegs lo hi).rn o = (resetWord o).toNat := by
  simp [State.rn, State.reg, State.resetRegs, kget_kfilter, hlo, hhi]

theorem State.rn_resetRegs_out {lo hi o : Nat} (h : o < lo ∨ hi ≤ o) (s : State) :
    (s.resetRegs lo hi).rn o = s.rn o := by
  have hout : (!(decide (lo ≤ o) && decide (o < hi))) = true := by
    simp
    omega
  simp only [State.rn, State.reg, State.resetRegs, kget_kfilter, hout, if_true]

/-! ### Resets of the host side (R46, R48, R535) -/

/-- A reset of the host side clears the rings and the configuration space. -/
theorem hostScope_cleared (s : State) (stays : Bool) :
    (hostScope s stays).ring.crTail = [] ∧ (hostScope s stays).ring.bind = [] ∧ (hostScope s stays).pcie.cfg = [] := by
  unfold hostScope
  cases stays
  · simp only [Bool.false_eq_true, if_false]
    split <;> simp
  · simp only [if_true]
    split <;> simp

theorem hostScope_pow (s : State) (stays : Bool) : (hostScope s stays).pow = s.pow :=
  (Keeps.of (keeps_hostScope s stays)).pow rfl

theorem hostScope_now (s : State) (stays : Bool) : (hostScope s stays).now = s.now :=
  (Keeps.of (keeps_hostScope s stays)).now

theorem hostScope_mem (s : State) (stays : Bool) : (hostScope s stays).mem = s.mem :=
  (Keeps.of (keeps_hostScope s stays)).mem rfl

theorem hostScope_larder (s : State) (stays : Bool) : (hostScope s stays).larder = s.larder :=
  (Keeps.of (keeps_hostScope s stays)).larder rfl

/-- From `s` to `t` the endpoint keeps what a link that stays up needs: CONFIG_READY and the inventory. -/
def SameSetUp (s t : State) : Prop :=
  t.pcie.configReady = s.pcie.configReady ∧ t.pcie.inventory = s.pcie.inventory

theorem SameSetUp.trans {s t u : State} (h : SameSetUp s t) (k : SameSetUp t u) : SameSetUp s u :=
  ⟨k.1.trans h.1, k.2.trans h.2⟩

theorem sameSetUp_of_pcie {s t : State} (h : t.pcie = s.pcie) : SameSetUp s t := by
  simp [SameSetUp, h]

theorem sameSetUp_foldl {α : Type} {f : State → α → State} (hf : ∀ s a, SameSetUp s (f s a)) (l : List α) (s : State) :
    SameSetUp s (l.foldl f s) := by
  induction l generalizing s with
  | nil => exact sameSetUp_of_pcie rfl
  | cons a l ih => exact (hf s a).trans (ih (f s a))

theorem countTags_pcie (s : State) (c : Nat) : (countTags s c).pcie = s.pcie := (Keeps.of (keeps_countTags s c)).pcie rfl

theorem sameSetUp_freeOp (s : State) (c : Nat) (o : HoistOp) : SameSetUp s (freeOp s c o) := by
  unfold freeOp SameSetUp
  dsimp only
  rw [countTags_pcie]
  split
  · exact ⟨rfl, rfl⟩
  · split <;> exact ⟨rfl, rfl⟩

theorem sameSetUp_stopLater (s : State) (st code : Nat) : SameSetUp s (stopLater s st code) := by
  unfold stopLater SameSetUp
  dsimp only
  split <;> simp [updPipe, setPipe]

/-- A channel that halts sends an event, which leaves the endpoint as it is set up. -/
theorem sameSetUp_haltChan (s : State) (c code : Nat) : SameSetUp s (haltChan s c code 0 0 0) := by
  have hstop : ∀ t, SameSetUp s t → SameSetUp s (if c < 192 then stopLater t c (faultCode 0x15 c code) else t) := by
    intro t ht
    split
    · exact ht.trans (sameSetUp_stopLater t c _)
    · exact ht
  unfold haltChan
  refine hstop _ ?_
  simp [SameSetUp, setHalted, updHchan, setHchan, setHState]

theorem sameSetUp_hoistHostReset (s : State) : SameSetUp s (hoistHostReset s) := by
  unfold hoistHostReset
  refine (sameSetUp_of_pcie rfl).trans (sameSetUp_foldl (fun t c => ?_) _ _)
  dsimp only
  split
  · exact (sameSetUp_foldl (fun t o => sameSetUp_freeOp t c o) _ t).trans (sameSetUp_haltChan _ c 9)
  · exact sameSetUp_of_pcie rfl

/-- What a reset of the host's side clears of the bridge, the Hoist and the fabric leaves the endpoint as it is set up. -/
theorem sameSetUp_hostUnits (s : State) : SameSetUp s (bridgeHostReset (hoistHostReset (failInbound s))) :=
  (sameSetUp_of_pcie ((Keeps.of (keeps_failInbound s)).pcie rfl)).trans
    ((sameSetUp_hoistHostReset _).trans (sameSetUp_of_pcie ((Keeps.of (keeps_bridgeHostReset _)).pcie rfl)))

theorem resetWord_linkStatus : (resetWord rPCIE_LINK_STATUS).toNat = 0 := by decide +kernel

/-- The link goes down. -/
theorem hostScope_linkDown (s : State) :
    (hostScope s false).fv fPCIE_LINK_STATUS_DL_ACTIVE = 0 ∧ (hostScope s false).pcie.configReady = false := by
  have hlink : ∀ t : State, (t.resetRegs 0x10000 0x80000).fv fPCIE_LINK_STATUS_DL_ACTIVE = 0 := by
    intro t
    rw [State.fv, State.rn_resetRegs_in (by decide) (by decide), resetWord_linkStatus]
    rfl
  unfold hostScope
  simp only [Bool.false_eq_true, if_false]
  split <;> simp (disch := decide) [hlink]

/-- The link stays up through a Function Level Reset. -/
theorem hostScope_linkStays (s : State) :
    (hostScope s true).fv fPCIE_LINK_STATUS_DL_ACTIVE = s.fv fPCIE_LINK_STATUS_DL_ACTIVE
      ∧ (hostScope s true).pcie.configReady = s.pcie.configReady
      ∧ (hostScope s true).pcie.inventory = s.pcie.inventory := by
  have hlink : ∀ t : State, (t.setRn rPCIE_LINK_STATUS (s.rn rPCIE_LINK_STATUS)).fv fPCIE_LINK_STATUS_DL_ACTIVE
      = s.fv fPCIE_LINK_STATUS_DL_ACTIVE := by
    intro t
    rw [State.fv, State.rn_setRn_same, State.rn_mod, State.fv]
  obtain ⟨hready, hinventory⟩ := sameSetUp_hostUnits s
  unfold hostScope
  simp only [if_true]
  split <;> simp (disch := decide) [hlink, hready, hinventory]

/-- Settles O3: each reset is the common reset of the host's side with its cause recorded. -/
theorem hostResets : Obligations.HostResets := by
  refine ⟨?fall, ?wake, ?rise, ?timeout, ?hot, ?function⟩
  case fall =>
    intro s hpow hperst
    obtain ⟨htail, hbind, hcfg⟩ := hostScope_cleared s false
    refine ⟨_, rfl, ?_⟩
    simp (disch := decide) [perstFall, hpow, hperst, resetCause, State.fv_setF_same, htail, hbind, hcfg, hostScope_now,
      hostScope_mem, hostScope_larder]
  case wake =>
    intro s hpow hperst hboot hoff
    refine ⟨_, rfl, ?_⟩
    simp (disch := decide) [perstRise, pcieWake, hpow, hperst, hboot, hoff, State.fv_setF_same]
  case rise =>
    intro s hpow hperst hoff
    refine ⟨_, rfl, ?_⟩
    simp [perstRise, pcieWake, hpow, hperst, hoff]
  case timeout =>
    intro s hhub hperst hon hlate
    refine ⟨_, rfl, ?_⟩
    simp (disch := decide) [hub, hhub, perstTimeout, domOn, hperst, hon, hlate, domDrain, State.fv_setF_same]
  case hot =>
    intro s hhub hlink
    obtain ⟨htail, -, hcfg⟩ := hostScope_cleared s false
    obtain ⟨hdown, hready⟩ := hostScope_linkDown s
    refine ⟨_, rfl, ?_⟩
    simp (disch := decide) [hub, hhub, hlink, resetCause, State.fv_setF_same, htail, hcfg, hdown, hready, hostScope_mem]
  case function =>
    intro s hhub hlink
    obtain ⟨htail, -, hcfg⟩ := hostScope_cleared s true
    obtain ⟨hup, hready, hinventory⟩ := hostScope_linkStays s
    refine ⟨_, rfl, ?_⟩
    simp (disch := decide) [hub, hhub, hlink, functionReset, resetCause, State.fv_setF_same, htail, hcfg, hup, hready,
      hinventory, hostScope_mem]

end Sys2Proof.Machine

namespace Sys2Proof.Machine

/-! ### The registers that an operation leaves alone -/

/-- From `s` to `t` every register of `P` reads as it read. -/
structure RegsKept (P : Nat → Prop) (s t : State) : Prop where
  rn : ∀ o, P o → t.rn o = s.rn o

variable {P : Nat → Prop} {s t u : State}

theorem RegsKept.refl (P : Nat → Prop) (s : State) : RegsKept P s s := ⟨fun _ _ => rfl⟩

theorem RegsKept.trans (h : RegsKept P s t) (k : RegsKept P t u) : RegsKept P s u :=
  ⟨fun o ho => (k.rn o ho).trans (h.rn o ho)⟩

theorem RegsKept.of_regs (h : t.regs = s.regs) : RegsKept P s t := ⟨fun o _ => rn_congr h o⟩

theorem RegsKept.mono {Q : Nat → Prop} (h : RegsKept P s t) (hq : ∀ o, Q o → P o) : RegsKept Q s t :=
  ⟨fun o ho => h.rn o (hq o ho)⟩

theorem RegsKept.fv (h : RegsKept P s t) {f : Fld} (hf : P f.off) : t.fv f = s.fv f := by
  rw [State.fv, h.rn f.off hf, State.fv]

theorem RegsKept.on (h : RegsKept P s t) {f : Fld} (hf : P f.off) : t.on f = s.on f := by
  rw [State.on, h.fv hf, State.on]

theorem RegsKept.pair (h : RegsKept P s t) {lo hi : Nat} (hlo : P lo) (hhi : P hi) : t.pair lo hi = s.pair lo hi := by
  rw [State.pair, h.rn lo hlo, h.rn hi hhi, State.pair]

theorem RegsKept.setRn (h : RegsKept P s t) {off : Nat} (v : Nat) (hoff : ¬ P off) : RegsKept P s (t.setRn off v) :=
  ⟨fun o ho => (State.rn_setRn_other (fun e : o = off => hoff (e ▸ ho)) t v).trans (h.rn o ho)⟩

theorem RegsKept.setReg (h : RegsKept P s t) {off : Nat} (w : Word) (hoff : ¬ P off) : RegsKept P s (t.setReg off w) :=
  ⟨fun o ho => (State.rn_setReg_other (fun e : o = off => hoff (e ▸ ho)) t w).trans (h.rn o ho)⟩

theorem RegsKept.setF (h : RegsKept P s t) {f : Fld} (v : Nat) (hf : ¬ P f.off) : RegsKept P s (t.setF f v) :=
  h.setRn _ hf

theorem RegsKept.setPair (h : RegsKept P s t) {lo hi : Nat} (v : Nat) (hlo : ¬ P lo) (hhi : ¬ P hi) :
    RegsKept P s (t.setPair lo hi v) :=
  (h.setRn _ hlo).setRn _ hhi

theorem RegsKept.bump (h : RegsKept P s t) {f : Fld} (hf : ¬ P f.off) : RegsKept P s (t.bump f) := h.setF _ hf

theorem RegsKept.bumpBy (h : RegsKept P s t) {f : Fld} (n : Nat) (hf : ¬ P f.off) : RegsKept P s (t.bumpBy f n) :=
  h.setF _ hf

/-- An event keeps the registers that hold neither it nor the pending state of interrupts. -/
theorem RegsKept.ev (h : RegsKept P s t) {f : Fld} (hf : ¬ P f.off) (hirq : ∀ o, P o → ¬ irqReg o) :
    RegsKept P s (t.ev f) :=
  ⟨fun o ho => (rn_ev (fun e : o = f.off => hf (e ▸ ho)) (hirq o ho)).trans (h.rn o ho)⟩

theorem RegsKept.report (h : RegsKept P s t) (c i k d : Nat) : RegsKept P s (t.report c i k d) := ⟨h.rn⟩

theorem RegsKept.reportIf (h : RegsKept P s t) (b : Bool) (c i k d : Nat) : RegsKept P s (t.reportIf b c i k d) :=
  ⟨fun o ho => (State.reportIf_rn t b c i k d o).trans (h.rn o ho)⟩

theorem RegsKept.resetRegs (h : RegsKept P s t) {lo hi : Nat} (hout : ∀ o, P o → o < lo ∨ hi ≤ o) :
    RegsKept P s (t.resetRegs lo hi) :=
  ⟨fun o ho => (State.rn_resetRegs_out (hout o ho) t).trans (h.rn o ho)⟩

/-- Only the register map counts. -/
theorem RegsKept.withRest {pending now taken act written pow regu isl pcie bridge ident scc mgt esc frameNo frameAt started fresh
    msgs reply ring wire place commits port pipe jobs nextJob tile readmit stops twinWait tallies prod canvas fstore larder
    hoist lane fabric mem memPoison tally madc spdm attic} (h : RegsKept P s t) :
    RegsKept P s ⟨pending, now, taken, t.regs, act, written, pow, regu, isl, pcie, bridge, ident, scc, mgt, esc, frameNo,
      frameAt, started, fresh, msgs, reply, ring, wire, place, commits, port, pipe, jobs, nextJob, tile, readmit,
      stops, twinWait, tallies, prod, canvas, fstore, larder, hoist, lane, fabric, mem, memPoison, tally, madc, spdm,
      attic⟩ := ⟨h.rn⟩

/-- A change outside the registers. -/
theorem RegsKept.regs (h : RegsKept P s t) (e : u.regs = t.regs) : RegsKept P s u := h.trans (.of_regs e)

theorem RegsKept.ite {c : Prop} [Decidable c] {a b : State} (ha : c → RegsKept P s a) (hb : ¬ c → RegsKept P s b) :
    RegsKept P s (if c then a else b) := by
  split
  next hc => exact ha hc
  next hc => exact hb hc

theorem RegsKept.foldl {α : Type} {f : State → α → State} {l : List α} (h : RegsKept P s t)
    (hf : ∀ u, ∀ a ∈ l, RegsKept P u (f u a)) : RegsKept P s (l.foldl f t) := by
  induction l generalizing t with
  | nil => exact h
  | cons a l ih =>
    exact ih (h.trans (hf t a List.mem_cons_self)) fun u b hb => hf u b (List.mem_cons_of_mem a hb)

end Sys2Proof.Machine

namespace Sys2Proof.Machine

/-! ### The registers below a block -/

/-- The registers of `P` lie below `n` and hold no pending state of interrupts. -/
def Under (n : Nat) (P : Nat → Prop) : Prop := ∀ o, P o → o < n ∧ ¬ irqReg o

theorem Under.mono {m n : Nat} {P : Nat → Prop} (h : Under m P) (hmn : m ≤ n) : Under n P :=
  fun o ho => ⟨(h o ho).1.trans_le hmn, (h o ho).2⟩

theorem Under.not_irqReg {n : Nat} {P : Nat → Prop} (h : Under n P) (o : Nat) (ho : P o) : ¬ irqReg o := (h o ho).2

theorem Under.not_of_le {n o : Nat} {P : Nat → Prop} (h : Under n P) (ho : n ≤ o) : ¬ P o :=
  fun hp => Nat.not_lt.mpr ho (h o hp).1

/-- The registers of GLB. -/
abbrev InGlb (o : Nat) : Prop := o < 0x10000

theorem under_glb : Under 0x10000 InGlb := by
  intro o ho
  unfold irqReg
  omega

section
variable {P : Nat → Prop} {s t : State}

/-! ### Requests of the fabric and channels of the Hoist that fail -/

theorem fabAnswer_regs (s : State) (q : FabPacket) (status : Nat) (data : List Byte) (poison : Bool) :
    (fabAnswer s q status data poison).regs = s.regs :=
  (Keeps.of (keeps_fabAnswer s q status data poison)).regs rfl

theorem stopLater_regs (s : State) (st code : Nat) : (stopLater s st code).regs = s.regs :=
  (Keeps.of (keeps_stopLater s st code)).regs rfl

theorem updHchan_kept (h : RegsKept P s t) (c : Nat) (g : HChan → HChan) : RegsKept P s (updHchan t c g) := h.regs rfl

theorem inboundDone_kept (hP : Under 0x1400000 P) (h : RegsKept P s t) (key : Nat) (bytes : Option (List Byte))
    (poison : Bool) : RegsKept P s (inboundDone t key bytes poison) := by
  unfold inboundDone winCount
  split
  · dsimp only
    split <;> refine RegsKept.regs (.setF (.setF (.withRest h) _ (hP.not_of_le ?_)) _ (hP.not_of_le ?_))
      (fabAnswer_regs _ _ _ _ _) <;> grind
  · exact h

theorem failInbound_kept (hP : Under 0x1400000 P) (h : RegsKept P s t) : RegsKept P s (failInbound t) := by
  unfold failInbound
  refine h.foldl fun u r _ => ?_
  split
  · exact inboundDone_kept hP (.refl _ u) _ none false
  · exact .refl _ u

theorem countTags_kept (hP : Under 0x1100000 P) (h : RegsKept P s t) (c : Nat) : RegsKept P s (countTags t c) := by
  unfold countTags
  dsimp only
  refine .ite (fun _ => .setF (.setF (.setF h _ ?_) _ ?_) _ ?_) (fun _ => .setF (.setF h _ ?_) _ ?_) <;>
    exact hP.not_of_le (by grind)

theorem freeOp_kept (hP : Under 0x1100000 P) (h : RegsKept P s t) (c : Nat) (o : HoistOp) :
    RegsKept P s (freeOp t c o) := by
  unfold freeOp
  refine countTags_kept hP (h.regs ?_) c
  split
  · rfl
  · split <;> rfl

theorem haltChan_kept (hP : Under 0x1100000 P) (h : RegsKept P s t) (c code space addr attempts : Nat) :
    RegsKept P s (haltChan t c code space addr attempts) := by
  have htry : RegsKept P s (if attempts < 16 then (attempts, t) else ((takeFree t).1 % 16, (takeFree t).2)).2 := by
    split
    · exact h
    · exact h.regs rfl
  unfold haltChan setHalted setHState
  dsimp only
  with_reducible repeat' first
    | exact htry | exact hP.not_irqReg | intro _ | refine RegsKept.regs ?_ (stopLater_regs _ _ _)
    | apply RegsKept.report | apply updHchan_kept | apply RegsKept.ev | apply RegsKept.setPair
    | apply RegsKept.setRn | apply RegsKept.setF | apply RegsKept.ite
  all_goals exact hP.not_of_le (by grind)

theorem hoistHostReset_kept (hP : Under 0x1100000 P) (h : RegsKept P s t) : RegsKept P s (hoistHostReset t) := by
  unfold hoistHostReset
  refine RegsKept.foldl (h.regs rfl) fun u c _ => .ite (fun _ => ?_) fun _ => .refl _ u
  exact haltChan_kept hP ((RegsKept.refl _ u).foldl fun v o _ => freeOp_kept hP (.refl _ v) c o) c 9 0 0 0

theorem bridgeHostReset_kept (hP : Under 0x1200000 P) (h : RegsKept P s t) : RegsKept P s (bridgeHostReset t) := by
  unfold bridgeHostReset
  refine .withRest (.setRn (.resetRegs h fun o ho => ?_) 0 (hP.not_of_le (by decide)))
  have := (hP o ho).1
  grind

/-! ### A reset of the host's side leaves GLB (R48) -/

theorem hostScope_kept (h : RegsKept InGlb s t) (stays : Bool) : RegsKept InGlb s (hostScope t stays) := by
  have hunits : RegsKept InGlb s (bridgeHostReset (hoistHostReset (failInbound t))) :=
    bridgeHostReset_kept (under_glb.mono (by decide)) (hoistHostReset_kept (under_glb.mono (by decide))
      (failInbound_kept (under_glb.mono (by decide)) h))
  have hclear : ∀ p c, RegsKept InGlb s ((((bridgeHostReset (hoistHostReset (failInbound t))).resetRegs 0x10000
      0x80000).setRn rRING_STOPPED_PIPES p).setRn rRING_STOPPED_CANVASES c) :=
    fun p c => ((hunits.resetRegs fun o ho => .inl ho).setRn p (by decide)).setRn c (by decide)
  unfold hostScope
  cases stays
  · simp only [Bool.false_eq_true, if_false]
    exact .ite (fun _ => .report (.ev (.setF (.withRest (hclear _ _)) _ (by decide)) (by decide) under_glb.not_irqReg) _ _ _ _)
      fun _ => .setF (.withRest (hclear _ _)) _ (by decide)
  · simp only [if_true]
    exact .ite (fun _ => .setF (.setRn (.setF (.withRest (hclear _ _)) _ (by decide)) _ (by decide)) _ (by decide))
      fun _ => .setRn (.setF (.withRest (hclear _ _)) _ (by decide)) _ (by decide)

end
end Sys2Proof.Machine

namespace Sys2Proof.Machine

section
variable {P : Nat → Prop} {s t : State}

/-! ### The event log (R507) -/

theorem logRec_kept (hP : ¬ P rSAFE_LOG_STATUS) (h : RegsKept P s t) (code kind detail : Nat) :
    RegsKept P s (logRec t code kind detail) := by
  unfold logRec
  split
  · exact h.withRest
  · exact .setF (.withRest h) _ hP

theorem commitLog_regs (s : State) : (commitLog s).regs = s.regs := (Keeps.of (keeps_commitLog s)).regs rfl

/-! ### Failed boots (R57) -/

/-- The outcome of a boot that fails, whatever the state it fails in. -/
theorem bootFail_failed {code : Nat} (hcode : code < 2 ^ 32) (s : State) : BootFailed (bootFail s code) code := by
  have hlog : RegsKept InGlb (resetCause (s.setRn rGLB_BOOT_FAULT code) fGLB_RESET_CAUSE_BOOT_FAILED)
      (let u := resetCause (s.setRn rGLB_BOOT_FAULT code) fGLB_RESET_CAUSE_BOOT_FAILED
       hostScope (if bitsOf (u.fv fATTIC_STATUS_VALID) 0 2 = 0 then u else commitLog (logRec u code 0 0)) false) :=
    hostScope_kept (.ite (fun _ => .refl _ _) fun _ => (logRec_kept (by decide) (.refl _ _) code 0 0).regs
      (commitLog_regs _)) false
  have hfault := hlog.rn rGLB_BOOT_FAULT (by decide)
  have hcause := hlog.fv (f := fGLB_RESET_CAUSE_BOOT_FAILED) (by decide)
  simp (disch := decide) only [resetCause, rn_setF_other, State.rn_setRn_same, State.fv_setF_same, State.fv_setRn_other,
    fv_setF_of_apart] at hfault hcause
  simp (disch := decide) [BootFailed, bootFail, resetCause, rn_setF_other, State.fv_setF_same]
  exact ⟨hfault.trans (Nat.mod_eq_of_lt hcode), hcause⟩

end
end Sys2Proof.Machine

namespace Sys2Proof.Machine

/-! ### Folds over states -/

/-- What element `n` of the list brings about, from a state with invariant `I`, and every other element leaves so, holds
in the end. -/
theorem foldl_reaches {α : Type} {I Q : State → Prop} {f : State → α → State} {l : List α} {n : α} {s : State} (hn : n ∈ l)
    (hs : I s) (hI : ∀ u, ∀ a ∈ l, I u → I (f u a)) (hset : ∀ u, I u → Q (f u n))
    (hkeep : ∀ u, ∀ a ∈ l, a ≠ n → Q u → Q (f u a)) : Q (l.foldl f s) := by
  have hstay : ∀ (l' : List α) (u : State), (∀ a ∈ l', a ∈ l) → I u → Q u → Q (l'.foldl f u) := by
    intro l'
    induction l' with
    | nil => exact fun u _ _ hq => hq
    | cons a l' ih =>
      intro u hl hu hq
      refine ih _ (fun b hb => hl b (List.mem_cons_of_mem a hb)) (hI u a (hl a List.mem_cons_self) hu) ?_
      by_cases ha : a = n
      · rw [ha]
        exact hset u hu
      · exact hkeep u a (hl a List.mem_cons_self) ha hq
  have hreach : ∀ (l' : List α) (u : State), (∀ a ∈ l', a ∈ l) → n ∈ l' → I u → Q (l'.foldl f u) := by
    intro l'
    induction l' with
    | nil => exact fun u _ h _ => absurd h List.not_mem_nil
    | cons a l' ih =>
      intro u hl hmem hu
      have ha := hl a List.mem_cons_self
      have hl' : ∀ b ∈ l', b ∈ l := fun b hb => hl b (List.mem_cons_of_mem a hb)
      rcases List.mem_cons.mp hmem with rfl | hmem
      · exact hstay l' _ hl' (hI u _ ha hu) (hset u hu)
      · exact ih _ hl' hmem (hI u a ha hu)
  exact hreach l s (fun _ h => h) hn hs

/-- What every element of a list keeps, the fold keeps. -/
theorem foldl_keeps {α β : Type} {f : State → α → State} {l : List α} (g : State → β) (hf : ∀ u a, g (f u a) = g u)
    (s : State) : g (l.foldl f s) = g s := by
  induction l generalizing s with
  | nil => rfl
  | cons a l ih => rw [List.foldl_cons, ih, hf]

/-! ### Boot events (R52) -/

theorem bootEv_of_boots {s : State} {c : Bool} (hs : Boots s) (hc : c = true) (t : State) : bootEv s c t = t := by
  obtain ⟨hpow, hph⟩ := hs
  simp [bootEv, hpow, hph, hc]

/-! ### The optional rails (R26, R534), part by part -/

/-- The rails and what they were calibrated for are recorded, and STRAPS shows them. -/
def railsNoted (s : State) (sp ln : Nat) (pc fr : Bool) : State :=
  (setBoot s (fun b => { b with rails := true, sportCal := sp, laneCal := ln, pcieCal := pc, fref := fr })).setF
    fGLB_STRAPS_RAILS (bitsOf s.pow.rails 0 7)

/-- The domains of the sensor groups, of the lanes and of PCIE follow their rails. -/
def domainsRailed (s : State) : State :=
  let u := railDomain ([0, 1, 2, 3].foldl (fun s g => railDomain s (14 + g) g) s) 12 5
  if railUp u 6 then u else u.setF (fPWR_DOM_STATE 13) 5

/-- The sensor ports and their buses follow their rails. -/
def sportsRailed (sp : Nat) (s : State) : State :=
  (List.range 32).foldl (fun s n =>
    let gone := !railUp s (n / 8)
    let s := (s.setF (fSPORT_STATUS_ABSENT n) (b2n gone)).setF (fSCC_STATUS_ABSENT n) (b2n gone)
    s.setF (fSPORT_STATUS_CAL_OK n) (b2n (!gone && bitAt sp n))) s

/-- The parallel ports and the lanes follow their rails. -/
def lanesRailed (ln : Nat) (fr : Bool) (s : State) : State :=
  (List.range 8).foldl (fun s m =>
    let gone := !railUp s 5
    let s := (s.setF (fLANE_STATUS_ABSENT m) (b2n gone)).setF (fLANE_STATUS_CAL_OK m) (b2n (!gone && bitAt ln m))
    s.setF (fLANE_STATUS_FREF_OK m) (b2n (!gone && fr)))
    ((List.range 4).foldl (fun s m => s.setF (fLPORT_STATUS_ABSENT m) (b2n (!railUp s 4))) s)

theorem railsRecorded_eq (s : State) (sp ln : Nat) (pc fr : Bool) : railsRecorded s sp ln pc fr
    = bootStage (lanesRailed ln fr (sportsRailed sp (domainsRailed (railsNoted s sp ln pc fr)))) 1 := by
  unfold railsRecorded lanesRailed sportsRailed domainsRailed railsNoted
  rfl

theorem domainsRailed_pow (s : State) : (domainsRailed s).pow = s.pow := by
  unfold domainsRailed
  dsimp only
  split <;> simp [railDomain]

theorem sportsRailed_pow (sp : Nat) (s : State) : (sportsRailed sp s).pow = s.pow := by
  unfold sportsRailed
  exact foldl_keeps State.pow (fun _ _ => by simp) s

theorem lanesRailed_pow (ln : Nat) (fr : Bool) (s : State) : (lanesRailed ln fr s).pow = s.pow := by
  unfold lanesRailed
  exact (foldl_keeps State.pow (fun _ _ => by simp) _).trans (foldl_keeps State.pow (fun _ _ => by simp) s)

/-- The registers below the sensor ports. -/
theorem sportsRailed_kept (sp : Nat) (s : State) : RegsKept (· < 0x200000) s (sportsRailed sp s) := by
  unfold sportsRailed
  refine (RegsKept.refl _ s).foldl fun u n _ => .setF (.setF (.setF (.refl _ u) _ ?_) _ ?_) _ ?_ <;> grind

/-- The registers below the parallel ports. -/
theorem lanesRailed_kept (ln : Nat) (fr : Bool) (s : State) : RegsKept (· < 0x220000) s (lanesRailed ln fr s) := by
  unfold lanesRailed
  refine RegsKept.foldl (RegsKept.foldl (.refl _ s) fun u n _ => .setF (.refl _ u) _ ?_)
    fun u n _ => .setF (.setF (.setF (.refl _ u) _ ?_) _ ?_) _ ?_ <;> grind

/-- ABSENT of a sensor port is the absence of its group's rails. -/
theorem sportsRailed_absent {n : Nat} (hn : n < 32) (sp : Nat) (s : State) :
    (sportsRailed sp s).fv (fSPORT_STATUS_ABSENT n) = b2n (!railUp s (n / 8)) := by
  have hb : ∀ b : Bool, b2n b % 2 = b2n b := by decide
  unfold sportsRailed
  refine foldl_reaches (I := fun u => u.pow = s.pow) (Q := fun u => u.fv (fSPORT_STATUS_ABSENT n) = _)
    (List.mem_range.mpr hn) rfl (fun u _ _ hu => by simpa using hu) (fun u hu => ?_) fun u a _ ha hq => ?_
  · simp (disch := grind) [State.fv_setF_same, railUp, hu, hb]
  · simp (disch := grind) [hq]

/-- The registers below those of the domains. -/
theorem domainsRailed_kept (s : State) : RegsKept (· < 0xd0000) s (domainsRailed s) := by
  unfold domainsRailed railDomain
  refine .ite (fun _ => .setF (RegsKept.foldl (.refl _ s) fun u g _ => .setF (.refl _ u) _ ?_) _ ?_)
    (fun _ => .setF (.setF (RegsKept.foldl (.refl _ s) fun u g _ => .setF (.refl _ u) _ ?_) _ ?_) _ ?_) <;> grind

/-- The domains follow their rails. -/
theorem domainsRailed_states (s : State) :
    (∀ g, g < 4 → (domainsRailed s).fv (fPWR_DOM_STATE (14 + g)) = if railUp s g then 0 else 5)
      ∧ (domainsRailed s).fv (fPWR_DOM_STATE 12) = (if railUp s 5 then 0 else 5) := by
  unfold domainsRailed railDomain railUp
  constructor
  · intro g hg
    have hcases : g = 0 ∨ g = 1 ∨ g = 2 ∨ g = 3 := by omega
    rcases hcases with rfl | rfl | rfl | rfl <;> simp (disch := decide) [State.fv_setF_same] <;> grind
  · simp (disch := decide) [State.fv_setF_same]
    grind

/-- The outcome of recording the optional rails. -/
theorem railsRecorded_recorded (s : State) (sp ln : Nat) (pc fr : Bool) :
    let t := railsRecorded s sp ln pc fr
    t.pow.boot.rails = true ∧ t.fv fGLB_BOOT_STATUS_STAGE = 1 ∧ t.fv fGLB_STRAPS_RAILS = bitsOf s.pow.rails 0 7
      ∧ (∀ g, g < 4 → t.fv (fPWR_DOM_STATE (14 + g)) = if railUp s g then 0 else 5)
      ∧ t.fv (fPWR_DOM_STATE 12) = (if railUp s 5 then 0 else 5)
      ∧ (∀ n, n < 32 → t.fv (fSPORT_STATUS_ABSENT n) = b2n (!railUp s (n / 8))) := by
  rw [railsRecorded_eq]
  generalize hnoted : railsNoted s sp ln pc fr = u
  have hup : ∀ k, railUp u k = railUp s k := fun k => by simp [← hnoted, railsNoted, setBoot, railUp]
  have hdomains := domainsRailed_pow u
  have hports := (sportsRailed_kept sp (domainsRailed u)).trans
    ((lanesRailed_kept ln fr (sportsRailed sp (domainsRailed u))).mono (fun o ho => by omega))
  obtain ⟨hgroup, hlane⟩ := domainsRailed_states u
  simp only [bootStage]
  refine ⟨?pow, ?stage, ?straps, ?groups, ?lanes, ?ports⟩
  case pow =>
    rw [State.setF_pow, lanesRailed_pow, sportsRailed_pow, hdomains, ← hnoted]
    simp [railsNoted, setBoot]
  case stage => exact State.fv_setF_same _ _ _ (by decide)
  case straps =>
    rw [fv_setF_of_apart (by decide), hports.fv (by decide)]
    rw [(domainsRailed_kept u).fv (by decide), ← hnoted]
    unfold railsNoted
    exact (State.fv_setF_same _ fGLB_STRAPS_RAILS _ (by decide)).trans (Nat.mod_eq_of_lt (bitsOf_lt _ _ _))
  case groups =>
    intro g hg
    rw [fv_setF_of_apart (by grind), hports.fv (by grind), hgroup g hg, hup]
  case lanes => rw [fv_setF_of_apart (by decide), hports.fv (by decide), hlane, hup]
  case ports =>
    intro n hn
    rw [fv_setF_of_apart (by grind), (lanesRailed_kept ln fr _).fv (by grind), sportsRailed_absent hn, railUp, hdomains,
      ← railUp, hup]

/-! ### The boot bank (R51, R525, R526) -/

/-- The two banks of FIRMWARE as they are found. -/
def banksFound (s : State) (b0 b1 : BankFound) : State :=
  seqAmbiguous (bankFound (bankFound (setBoot s (fun b => { b with bank := true })) 1 0 b0) 1 1 b1) b0 b1

/-- The validity of bank `j` of the four. -/
abbrev fBankValid (j : Nat) : Fld := ⟨rATTIC_STATUS, j, 1⟩

theorem bankValid_firmware {i : Nat} (hi : i < 2) (s : State) : bankValid s 1 i = s.on (fBankValid i) := by
  have hidx : bankIdx 1 i = i := by simp [bankIdx]
  rw [bankValid, hidx, State.bitAt_fv (show i < 4 by omega), Nat.zero_add]

theorem bankSeq_firmware (i : Nat) (s : State) : bankSeq s 1 i = s.rn (rATTIC_SEQ i) := by
  simp [bankSeq, bankIdx]

theorem bankFound_at {i : Nat} (hi : i < 2) (s : State) (b : BankFound) :
    (bankFound s 1 i b).fv (fBankValid i) = b2n (bankGood b)
      ∧ (bankGood b = true → (bankFound s 1 i b).rn (rATTIC_SEQ i) = b.seq % 2 ^ 32) := by
  unfold bankFound setBank
  cases bankGood b <;> simp (disch := grind) [State.fv_setF_same, State.rn_setRn_same, bankIdx, b2n]

theorem bankFound_apart {i j : Nat} (hi : i < 2) (hj : j < 2) (hne : j ≠ i) (s : State) (b : BankFound) :
    (bankFound s 1 i b).fv (fBankValid j) = s.fv (fBankValid j)
      ∧ (bankFound s 1 i b).rn (rATTIC_SEQ j) = s.rn (rATTIC_SEQ j) := by
  unfold bankFound setBank
  cases bankGood b <;> simp (disch := grind) [State.rn_setRn_other, rn_setF_other, bankIdx]

theorem seqAmbiguous_kept (s : State) (b0 b1 : BankFound) :
    RegsKept (fun o => 0xb0000 ≤ o ∧ o < 0xb0034) s (seqAmbiguous s b0 b1) := by
  unfold seqAmbiguous
  refine .ite (fun _ => .report (.ev (.refl _ s) (by decide) ?_) _ _ _ _) fun _ => .refl _ s
  intro o ho
  unfold irqReg
  omega

/-- What is known of the two banks: whether each is valid, and its SEQ. -/
theorem banksFound_known (s : State) (b0 b1 : BankFound) :
    bankValid (banksFound s b0 b1) 1 0 = bankGood b0 ∧ bankValid (banksFound s b0 b1) 1 1 = bankGood b1
      ∧ (bankGood b0 = true → bankSeq (banksFound s b0 b1) 1 0 = b0.seq % 2 ^ 32)
      ∧ (bankGood b1 = true → bankSeq (banksFound s b0 b1) 1 1 = b1.seq % 2 ^ 32) := by
  have hb : ∀ b : Bool, (b2n b != 0) = b := by decide
  unfold banksFound
  generalize setBoot s (fun b => { b with bank := true }) = u
  have hquiet := seqAmbiguous_kept (bankFound (bankFound u 1 0 b0) 1 1 b1) b0 b1
  obtain ⟨hvalid0, hseq0⟩ := bankFound_at (by decide : 0 < 2) u b0
  obtain ⟨hvalid1, hseq1⟩ := bankFound_at (by decide : 1 < 2) (bankFound u 1 0 b0) b1
  obtain ⟨hapartv, hapart⟩ := bankFound_apart (by decide : 1 < 2) (by decide : 0 < 2) (by decide) (bankFound u 1 0 b0) b1
  refine ⟨?_, ?_, fun h => ?_, fun h => ?_⟩
  · rw [bankValid_firmware (by decide), hquiet.on (by decide), State.on, hapartv, hvalid0, hb]
  · rw [bankValid_firmware (by decide), hquiet.on (by decide), State.on, hvalid1, hb]
  · rw [bankSeq_firmware, hquiet.rn _ (by decide), hapart, hseq0 h]
  · rw [bankSeq_firmware, hquiet.rn _ (by decide), hseq1 h]

theorem banksFound_pow (s : State) (b0 b1 : BankFound) :
    (banksFound s b0 b1).pow = { s.pow with boot := { s.pow.boot with bank := true } } := by
  unfold banksFound
  rw [(Keeps.of (keeps_seqAmbiguous _ b0 b1)).pow rfl, (Keeps.of (keeps_bankFound _ 1 1 b1)).pow rfl,
    (Keeps.of (keeps_bankFound _ 1 0 b0)).pow rfl]
  rfl

/-- An invalid bank is reported. -/
theorem banksFound_event {b0 b1 : BankFound} (h1 : bankGood b1 = false) (s : State) :
    (banksFound s b0 b1).fv fATTIC_EVENT_BANK_INVALID = 1 := by
  simp (disch := decide) [banksFound, seqAmbiguous, bankFound, h1]

/-- Bank `k` runs. -/
theorem bankChosen_of_newest {s : State} {b0 b1 : BankFound} {k : Nat}
    (h : newestBank (banksFound s b0 b1) 1 = some k) (hk : k < 2) :
    let t := bankChosen s b0 b1
    t.pow = { s.pow with boot := { s.pow.boot with bank := true } } ∧ t.fv fGLB_BOOT_STATUS_BANK = k
      ∧ t.fv fGLB_BOOT_STATUS_ONE_BANK = b2n (!(bankGood b0 && bankGood b1))
      ∧ t.fv fGLB_FW_VERSION_MAJOR = (if k = 0 then b0 else b1).major % 65536
      ∧ t.fv fATTIC_EVENT_BANK_INVALID = (banksFound s b0 b1).fv fATTIC_EVENT_BANK_INVALID := by
  have hb : ∀ b : Bool, b2n b % 2 = b2n b := by decide
  have hpow := banksFound_pow s b0 b1
  unfold banksFound at h hpow ⊢
  unfold bankChosen
  dsimp only
  split
  · next hnone => exact absurd (hnone.symm.trans h) (by simp)
  · next j hj =>
    cases hj.symm.trans h
    simp -implicitDefEqProofs (disch := decide) [hpow, State.fv_setF_same, hb, hk]

/-! ### The safety island starts (R52, R508, R517, R526, R529) -/

/-- From `s` to `t` the island is as it was, but for the codes on their way to it. -/
structure IslandKept (s t : State) : Prop where
  isl : { t.isl with inbox := [] } = { s.isl with inbox := [] }

theorem IslandKept.of_isl {s t : State} (h : t.isl = s.isl) : IslandKept s t := ⟨by rw [h]⟩

theorem IslandKept.trans {s t u : State} (h : IslandKept s t) (k : IslandKept t u) : IslandKept s u :=
  ⟨k.isl.trans h.isl⟩

theorem IslandKept.report {s t : State} (h : IslandKept s t) (c i k d : Nat) : IslandKept s (t.report c i k d) := ⟨h.isl⟩

theorem IslandKept.reportIf {s t : State} (h : IslandKept s t) (b : Bool) (c i k d : Nat) :
    IslandKept s (t.reportIf b c i k d) := by
  cases b
  · exact h
  · exact h.report c i k d

theorem IslandKept.setF {s t : State} (h : IslandKept s t) (f : Fld) (v : Nat) : IslandKept s (t.setF f v) := ⟨h.isl⟩

theorem IslandKept.ev {s t : State} (h : IslandKept s t) (f : Fld) : IslandKept s (t.ev f) :=
  h.trans (.of_isl (State.ev_isl t f))

theorem IslandKept.numbers {s t : State} (h : IslandKept s t) :
    t.isl.running = s.isl.running ∧ t.isl.boot = s.isl.boot ∧ t.isl.nextSeq = s.isl.nextSeq :=
  have hisl := h.isl
  ⟨(congrArg Isl.running hisl :), (congrArg Isl.boot hisl :), (congrArg Isl.nextSeq hisl :)⟩

theorem IslandKept.setBank {s t : State} (h : IslandKept s t) (part i : Nat) (b : Bool) (q : Nat) :
    IslandKept s (setBank t part i b q) := ⟨h.isl⟩

theorem IslandKept.refl (s : State) : IslandKept s s := ⟨rfl⟩

theorem IslandKept.bankFound {s t : State} (h : IslandKept s t) (part i : Nat) (b : BankFound) :
    IslandKept s (bankFound t part i b) := by
  unfold Machine.bankFound
  split
  · exact h.setBank part i true b.seq
  · exact ((h.setBank part i false 0).ev _).report _ _ _ _

theorem IslandKept.seqAmbiguous {s t : State} (h : IslandKept s t) (b0 b1 : BankFound) :
    IslandKept s (seqAmbiguous t b0 b1) := by
  unfold Machine.seqAmbiguous
  split
  · exact (h.ev _).report _ _ _ _
  · exact h

theorem islandKept_configFound (s : State) (b0 b1 : BankFound) : IslandKept s (configFound s b0 b1) := by
  have hfound := (((IslandKept.refl s).bankFound 0 0 b0).bankFound 0 1 b1).seqAmbiguous b0 b1
  unfold configFound
  exact (hfound.trans (.of_isl ((Keeps.of (keeps_configBank _)).isl rfl))).reportIf _ _ _ _ _

theorem islandKept_identityFound (s : State) (a b k : Bool) : IslandKept s (identityFound s a b k) := by
  have hcopy : ∀ (u : State) (good : Bool) (n : Nat), IslandKept s u →
      IslandKept s (if good then u else (u.ev fATTIC_EVENT_BANK_INVALID).report 0x08 n 0x0001) := by
    intro u good n hu
    split
    · exact hu
    · exact (hu.ev _).report _ _ _ _
  have hfound := hcopy _ b 5 (hcopy s a 4 (.refl s))
  unfold identityFound
  exact ((((hfound.setF _ _).setF _ _).setF _ _).setF _ _).reportIf _ _ _ _ _

theorem identityFound_keyOk (s : State) (a b k : Bool) : (identityFound s a b k).fv fIDENT_STATUS_KEY_OK = b2n k := by
  have hb : b2n k % 2 = b2n k := by cases k <;> rfl
  unfold identityFound
  simp (disch := decide) [State.fv_setF_same, hb]

/-- The fixed entries lie in the registers of the converters. -/
theorem fixedEntries_kept (s : State) : RegsKept (fun o => o < 0x90000 ∨ 0xa0000 ≤ o) s (fixedEntries s) := by
  unfold fixedEntries
  refine (RegsKept.refl _ s).foldl fun u c hc => (RegsKept.refl _ u).foldl fun v i hi => ?_
  have := List.mem_range.mp hc
  have := List.mem_range.mp hi
  have hfree : RegsKept (fun o => o < 0x90000 ∨ 0xa0000 ≤ o) v (takeFree v).2 := .of_regs rfl
  refine hfree.setRn _ ?_
  grind

theorem bootDigests_fv (s : State) (f : Fld) : (bootDigests s).fv f = s.fv f := rfl

/-- What stays after the fixed entries and the digests. -/
theorem islandKept_lastSteps (s : State) : IslandKept s (bootDigests (fixedEntries s)) :=
  .of_isl (((Keeps.of (keeps_bootDigests _)).isl rfl).trans ((Keeps.of (keeps_fixedEntries s)).isl rfl))

/-- With no record known, the numbers go on from the newest record that was found. -/
theorem logFound_numbers {s : State} (h : s.isl.log = []) (lb ls held nc : Nat) :
    (logFound s lb ls held nc).isl.running = true ∧ (logFound s lb ls held nc).isl.boot = (lb + 1) % 2 ^ 32
      ∧ (logFound s lb ls held nc).isl.nextSeq = (ls + 1) % 2 ^ 32 := by
  simp [logFound, h]

/-- The outcome of the start of the safety island. -/
theorem islandRunning_runs {s : State} (hlog : s.isl.log = []) (c0 c1 : BankFound) (a b k : Bool) (lb ls h nc ch : Nat) :
    let t := islandRunning s c0 c1 a b k lb ls h nc ch
    t.isl.running = true ∧ t.pow.boot.island = true ∧ t.fv fGLB_BOOT_STATUS_STAGE = 2
      ∧ t.isl.boot = (lb + 1) % 2 ^ 32 ∧ t.isl.nextSeq = (ls + 1) % 2 ^ 32
      ∧ t.fv fIDENT_STATUS_KEY_OK = b2n k ∧ t.pair rSAFE_WIND_CHAL_LO rSAFE_WIND_CHAL_HI = ch % 2 ^ 64 := by
  unfold islandRunning
  dsimp only
  generalize hfound : logFound (setBoot s fun b => { b with island := true }) lb ls h nc = u
  obtain ⟨hrun, hboot, hseq⟩ : u.isl.running = true ∧ u.isl.boot = (lb + 1) % 2 ^ 32 ∧ u.isl.nextSeq = (ls + 1) % 2 ^ 32 :=
    hfound ▸ logFound_numbers (s := setBoot s _) hlog lb ls h nc
  have hpow : u.pow.boot.island = true := by
    rw [← hfound, (Keeps.of (keeps_logFound _ lb ls h nc)).pow rfl]
    rfl
  have hkept := ((islandKept_configFound u c0 c1).trans (islandKept_identityFound _ a b k)).trans (islandKept_lastSteps _)
  generalize hlast : bootDigests (fixedEntries (identityFound (configFound u c0 c1) a b k)) = v at hkept
  obtain ⟨hrun', hboot', hseq'⟩ := hkept.numbers
  have hpow' : v.pow = u.pow := by
    rw [← hlast, (Keeps.of (keeps_bootDigests _)).pow rfl, (Keeps.of (keeps_fixedEntries _)).pow rfl,
      (Keeps.of (keeps_identityFound _ a b k)).pow rfl, (Keeps.of (keeps_configFound u c0 c1)).pow rfl]
  have hkey : v.fv fIDENT_STATUS_KEY_OK = b2n k := by
    rw [← hlast, ← identityFound_keyOk (configFound u c0 c1) a b k, bootDigests_fv]
    exact (fixedEntries_kept _).fv (by decide)
  refine ⟨?_, ?_, ?_, ?_, ?_, ?_, ?_⟩ <;> unfold bootStage
  · exact hrun'.trans hrun
  · exact (congrArg (fun p : Pow => p.boot.island) hpow').trans hpow
  · exact State.fv_setF_same _ _ _ (by decide)
  · exact hboot'.trans hboot
  · exact hseq'.trans hseq
  · simp (disch := decide) [hkey]
  · simp (disch := decide) [State.pair_setPair_same]

/-- Settles O4: each of the four events of the boot takes place, as the boot's outcome is told above, event by event. -/
theorem bootFirstEvents : Obligations.BootFirstEvents := by
  refine ⟨?clocks, ?rails, ?bank, ?newer, ?none, ?island⟩
  case clocks =>
    intro s hs hlock hrail
    refine ⟨_, congrArg Host.Outcome.next (bootEv_of_boots hs (by simp [hlock, hrail]) _), ?_⟩
    simp (disch := decide) [clocksLocked, setBoot, State.fv_setF_same]
  case rails =>
    intro s sp ln pc fr hs hlock hrails
    exact ⟨_, congrArg Host.Outcome.next (bootEv_of_boots hs (by simp [hlock, hrails]) _),
      railsRecorded_recorded s sp ln pc fr⟩
  case bank =>
    intro s b0 b1 hs hrails hbank h0 h1
    obtain ⟨hvalid0, hvalid1, -, -⟩ := banksFound_known s b0 b1
    have hnew : newestBank (banksFound s b0 b1) 1 = some 0 := by simp [newestBank, hvalid0, hvalid1, h0, h1]
    obtain ⟨hpow, hrun, hone, hmajor, hev⟩ := bankChosen_of_newest hnew (by decide)
    refine ⟨_, congrArg Host.Outcome.next (bootEv_of_boots hs (by simp [hrails, hbank]) _), ?_, ?_, hrun, ?_, hmajor, ?_⟩
    · rw [hpow]
    · rw [hpow]
      exact hs.2
    · rw [hone, h0, h1]
      rfl
    · rw [hev, banksFound_event h1]
  case newer =>
    intro s b0 b1 hs hrails hbank h0 h1 hq0 hq1 hnewer
    obtain ⟨hvalid0, hvalid1, hseq0, hseq1⟩ := banksFound_known s b0 b1
    have hnew : newestBank (banksFound s b0 b1) 1 = some 1 := by
      rw [Nat.mod_eq_of_lt hq0] at hseq0
      rw [Nat.mod_eq_of_lt hq1] at hseq1
      simp [newestBank, hvalid0, hvalid1, h0, h1, hseq0, hseq1, hnewer]
    obtain ⟨hpow, hrun, hone, hmajor, -⟩ := bankChosen_of_newest hnew (by decide)
    refine ⟨_, congrArg Host.Outcome.next (bootEv_of_boots hs (by simp [hrails, hbank]) _), ?_, hrun, ?_, hmajor⟩
    · rw [hpow]
    · rw [hone, h0, h1]
      rfl
  case none =>
    intro s b0 b1 hs hrails hbank h0 h1
    obtain ⟨hvalid0, hvalid1, -, -⟩ := banksFound_known s b0 b1
    have hnone : newestBank (banksFound s b0 b1) 1 = none := by simp [newestBank, hvalid0, hvalid1, h0, h1]
    have hfails : bankChosen s b0 b1 = bootFail (banksFound s b0 b1) 0x08000102 := by
      unfold banksFound at hnone ⊢
      unfold bankChosen
      dsimp only
      rw [hnone]
    exact ⟨_, congrArg Host.Outcome.next ((bootEv_of_boots hs (by simp [hrails, hbank]) _).trans hfails),
      bootFail_failed (by decide) _⟩
  case island =>
    intro s c0 c1 a b k lb ls h nc ch hs hbank hisland hlog
    exact ⟨_, congrArg Host.Outcome.next (bootEv_of_boots hs (by simp [hbank, hisland]) _),
      islandRunning_runs hlog c0 c1 a b k lb ls h nc ch⟩

end Sys2Proof.Machine

namespace Sys2Proof.Machine

/-! ### Calibrations of the converters (R474) -/

theorem passBegin_regs (s : State) (c t : Nat) : (passBegin s c t).regs = s.regs := (Keeps.of (keeps_passBegin s c t)).regs rfl

theorem passBegin_pow (s : State) (c t : Nat) : (passBegin s c t).pow = s.pow := (Keeps.of (keeps_passBegin s c t)).pow rfl

theorem calEnded_pow (s : State) (c : Nat) (r : CalResult) : (calEnded s c r).pow = s.pow :=
  (Keeps.of (keeps_calEnded s c r)).pow rfl

@[simp] theorem calBegin_pow (s : State) (c : Nat) : (calBegin s c).pow = s.pow := rfl

theorem calBegin_regs (s : State) (c : Nat) : (calBegin s c).regs = (s.setF (fMADC_STATUS_STATE c) 1).regs := rfl

@[simp] theorem calBegin_fv (s : State) (c : Nat) (f : Fld) : (calBegin s c).fv f = (s.setF (fMADC_STATUS_STATE c) 1).fv f := rfl

/-- The registers outside the block of converter `c`. -/
def OutOfConv (c o : Nat) : Prop := ¬ irqReg o ∧ (o < 0x90000 + 0x1000 * c ∨ 0x91000 + 0x1000 * c ≤ o)

/-- The results of converter `c` lie above its status, calibration and event registers. -/
theorem clearValid_kept (s : State) (c : Nat) :
    RegsKept (fun o => o < 0x90080 + 0x1000 * c ∨ 0x91000 + 0x1000 * c ≤ o) s (clearValid s c) := by
  unfold clearValid
  refine RegsKept.foldl (RegsKept.foldl (.refl _ s) fun u i hi => .setF (.refl _ u) _ ?_) fun u i hi => .setF (.refl _ u) _ ?_
  all_goals
    have := List.mem_range.mp hi
    grind

/-- What follows a good calibration: the converter runs again. -/
def calGoes (s : State) (c : Nat) : State :=
  let s := passBegin (s.setF (fMADC_STATUS_STATE c) 2) c (s.now + convGap c)
  if c < 2 then passBegin s (1 - c) s.now else s

theorem calGoes_regs (s : State) (c : Nat) : (calGoes s c).regs = (s.setF (fMADC_STATUS_STATE c) 2).regs := by
  unfold calGoes
  dsimp only
  split <;> simp only [passBegin_regs]

/-- The state at the end of a good calibration, before the converter runs again. -/
def calTaken (s : State) (c : Nat) (r : CalResult) : State :=
  (clearValid ((((updConv s c fun x => { x with calEnd := s.now }).setF (fMADC_CAL_OFFSET c) (wordOfInt 8 r.offset)).setF
    (fMADC_CAL_GAIN c) r.gain).setF (fMADC_STATUS_CAL_OK c) 1) c).ev (fMADC_EVENT_CAL_DONE c)

/-- The state at the end of a calibration that failed. -/
def calMissed (s : State) (c : Nat) : State :=
  ((updConv s c fun x => { x with calEnd := s.now }).ev (fMADC_EVENT_CAL_FAIL c)).report 0x06 c 0x0001

theorem calEnded_eq (s : State) (c : Nat) (r : CalResult) : calEnded s c r =
    if calGood r then calGoes (calTaken s c r) c
    else if (calMissed s c).on (fMADC_STATUS_CAL_OK c) then calGoes (calMissed s c) c
    else (calMissed s c).setF (fMADC_STATUS_STATE c) 3 := by
  unfold calEnded calGoes calTaken calMissed
  rfl

theorem calEnded_kept (s : State) (c : Nat) (r : CalResult) : RegsKept (OutOfConv c) s (calEnded s c r) := by
  have hin : ∀ n, n < 0x1000 → ¬ OutOfConv c (0x90000 + 0x1000 * c + n) := by
    unfold OutOfConv
    omega
  have hirq : ∀ o, OutOfConv c o → ¬ irqReg o := fun _ ho => ho.1
  have hstatus : ¬ OutOfConv c (rMADC_STATUS c) := by have := hin 4; grind
  have hcal : ¬ OutOfConv c (rMADC_CAL c) := by have := hin 8; grind
  have hevent : ¬ OutOfConv c (rMADC_EVENT c) := by have := hin 0xc; grind
  have hstart : RegsKept (OutOfConv c) s (updConv s c fun x => { x with calEnd := s.now }) := .of_regs rfl
  have hgoes : ∀ u, RegsKept (OutOfConv c) s u → RegsKept (OutOfConv c) s (calGoes u c) := fun u hu =>
    (hu.setF 2 (f := fMADC_STATUS_STATE c) hstatus).regs (calGoes_regs u c)
  have htaken : RegsKept (OutOfConv c) s (calTaken s c r) := by
    have hset := ((hstart.setF (wordOfInt 8 r.offset) (f := fMADC_CAL_OFFSET c) hcal).setF r.gain
      (f := fMADC_CAL_GAIN c) hcal).setF 1 (f := fMADC_STATUS_CAL_OK c) hstatus
    exact (hset.trans ((clearValid_kept _ c).mono fun o ho => by have := ho.2; omega)).ev hevent hirq
  have hmissed : RegsKept (OutOfConv c) s (calMissed s c) := (hstart.ev hevent hirq).report _ _ _ _
  rw [calEnded_eq]
  exact .ite (fun _ => hgoes _ htaken) fun _ => .ite (fun _ => hgoes _ hmissed) fun _ => hmissed.setF _ hstatus

/-- A good calibration leaves the converter calibrated with its gain. -/
theorem calEnded_good {c : Nat} {r : CalResult} (hr : calGood r = true) (s : State) :
    (calEnded s c r).fv (fMADC_STATUS_CAL_OK c) = 1 ∧ (calEnded s c r).fv (fMADC_CAL_GAIN c) = r.gain := by
  have hgain : r.gain < 2 ^ 16 := by
    simp only [calGood, Bool.and_eq_true, decide_eq_true_eq] at hr
    omega
  have hread : ∀ f : Fld, (calEnded s c r).fv f = ((calTaken s c r).setF (fMADC_STATUS_STATE c) 2).fv f := fun f => by
    rw [calEnded_eq, if_pos hr]
    exact (RegsKept.of_regs (P := fun _ => True) (calGoes_regs _ c)).fv trivial
  rw [hread, hread, calTaken]
  constructor
  · simp (disch := grind [not_irqReg_iff]) only [fv_setF_of_apart, fv_ev_of_apart, (clearValid_kept _ c).fv,
      State.fv_setF_same, Nat.reducePow, Nat.one_mod]
  · simp (disch := grind [not_irqReg_iff]) only [fv_setF_of_apart, fv_ev_of_apart, (clearValid_kept _ c).fv,
      State.fv_setF_same]
    exact Nat.mod_eq_of_lt hgain

/-! ### Boot: units (R52, R56, R57, R474) -/

theorem setBoot_railUp (s : State) (g : BootDone → BootDone) (k : Nat) : railUp (setBoot s g) k = railUp s k := rfl

theorem setBoot_boot (s : State) (g : BootDone → BootDone) : (setBoot s g).pow.boot = g s.pow.boot := rfl

theorem setBoot_perst (s : State) (g : BootDone → BootDone) : (setBoot s g).pow.perst = s.pow.perst := rfl

/-- Settles O5: each event of the boot runs, and where a test fails the boot fails. -/
theorem bootUnits : Obligations.BootUnits := by
  refine ⟨?pcie, ?larder, ?larderFails, ?startup, ?startupFails, ?conv, ?convFails, ?lp5x⟩
  case pcie =>
    intro s hs hisland hpcie hrail hperst
    refine ⟨_, congrArg Host.Outcome.next (bootEv_of_boots hs (by simp [hisland, hpcie]) _), ?_⟩
    simp (disch := decide) [pcieReady, setBoot_railUp, setBoot_boot, setBoot_perst, hrail, hperst, State.fv_setF_same]
  case larder =>
    intro s stuck hs hisland hlarder hfew
    refine ⟨_, congrArg Host.Outcome.next (bootEv_of_boots hs (by simp [hisland, hlarder]) _), ?_⟩
    unfold larderPool
    generalize (stuck.map fun c => c % 393216).eraseDups = cells at hfew
    simp (disch := decide) [hfew, setBoot, hs.2, State.fv_setF_same]
    omega
  case larderFails =>
    intro s hubOk stuck hs hisland hlarder hbad
    refine ⟨_, congrArg Host.Outcome.next (bootEv_of_boots hs (by simp [hisland, hlarder]) _), ?_⟩
    unfold larderPool
    generalize (stuck.map fun c => c % 393216).eraseDups = cells at hbad
    have hnot : (hubOk && decide (cells.length ≤ 3932)) = false := by
      rcases hbad with hbad | hbad
      · simp [hbad]
      · simp [Nat.not_le.mpr hbad]
    simp only [hnot]
    exact bootFail_failed (by decide) _
  case startup =>
    intro s hs hisland hstart
    refine ⟨_, congrArg Host.Outcome.next (bootEv_of_boots hs (by simp [hisland, hstart]) _), ?_⟩
    simp (disch := decide) [startupTest, bootStage, setBoot, hs.2, State.fv_setF_same]
  case startupFails =>
    intro s hs hisland hstart
    exact ⟨_, congrArg Host.Outcome.next (bootEv_of_boots hs (by simp [hisland, hstart]) _),
      bootFail_failed (by decide) _⟩
  case conv =>
    intro s a b c hs hstart hconv ha hb hc
    refine ⟨_, congrArg Host.Outcome.next (bootEv_of_boots hs (by simp [hstart, hconv]) _), ?_⟩
    simp only [convertersCal, ha, hb, hc]
    have hpow : (setBoot s fun x => { x with convCal := true }).pow.boot.convCal = true
        ∧ (setBoot s fun x => { x with convCal := true }).pow.phase = .booting := ⟨rfl, hs.2⟩
    generalize (setBoot s fun x => { x with convCal := true }) = u at hpow
    obtain ⟨hok0, hgain0⟩ := calEnded_good (c := 0) ha u
    obtain ⟨hok1, -⟩ := calEnded_good (c := 1) hb (calEnded u 0 a)
    obtain ⟨hok10, hgain10⟩ := calEnded_good (c := 10) hc (calEnded (calEnded u 0 a) 1 b)
    have hkept1 := calEnded_kept (calEnded u 0 a) 1 b
    have hkept10 := calEnded_kept (calEnded (calEnded u 0 a) 1 b) 10 c
    simp only [Bool.not_true, Bool.or_self, Bool.false_eq_true, if_false, calEnded_pow, hpow, hok10, hgain10, true_and,
      and_true]
    refine ⟨?_, ?_, ?_⟩
    · rw [hkept10.fv (by unfold OutOfConv irqReg; decide), hkept1.fv (by unfold OutOfConv irqReg; decide), hok0]
    · rw [hkept10.fv (by unfold OutOfConv irqReg; decide), hok1]
    · rw [hkept10.fv (by unfold OutOfConv irqReg; decide), hkept1.fv (by unfold OutOfConv irqReg; decide), hgain0]
  case convFails =>
    intro s a b c hs hstart hconv ha
    refine ⟨_, congrArg Host.Outcome.next (bootEv_of_boots hs (by simp [hstart, hconv]) _), ?_⟩
    simp only [convertersCal, ha, Bool.not_false, Bool.true_or, if_true]
    exact bootFail_failed (by decide) _
  case lp5x =>
    intro s ok0 ok1 hs hisland hlp
    refine ⟨_, congrArg Host.Outcome.next (bootEv_of_boots hs (by simp [hisland, hlp]) _), ?_⟩
    cases ok0 <;> cases ok1 <;> simp (disch := decide) [stacksTrained, setBoot, State.fv_setF_same]

end Sys2Proof.Machine

namespace Sys2Proof.Machine

/-! ### Boot: tiles (R52, R55) -/

/-- The tile that is powered next is the first that is not. -/
theorem nextTile_of_first {s : State} {n : Nat} (hn : n < activeTiles s) (hoff : bitAt s.pow.boot.powered n = false)
    (hbelow : ∀ m, m < n → bitAt s.pow.boot.powered m = true) : nextTile s = some n := by
  rw [nextTile, List.find?_range_eq_some]
  simp only [List.mem_range, hn, hoff, Bool.not_false, true_and]
  exact fun m hm => by simp [hbelow m hm]

/-- The state after a tile's test, before its result is drawn. -/
def tileCounted (s : State) (n : Nat) (failed : List Nat) (fence good : Bool) : State :=
  let bad := (failed.map (fun w => w % 128)).eraseDups
  let s := setBoot s (fun b => { b with
    tested := putBits b.tested n 1 1, tadcCal := putBits b.tadcCal n 1 (b2n good),
    reduced := b.reduced || fence || !bad.isEmpty })
  let s := bad.foldl (fun s w => s.setF ⟨rTILE_WHEEL_FENCED n (w / 32), w % 32, 1⟩ 1) s
  (s.setF (fTILE_STATUS_HEALTHY n) (128 - bad.length)).setF (fGLB_TILE_WHEELS_HEALTHY n) (128 - bad.length)

/-- A tile whose dispatcher fails is fenced and its domain drains. -/
theorem tileTest_fenced (s : State) (n : Nat) (failed : List Nat) (shelfOk : Bool) (r : CalResult) :
    tileTest s n failed false shelfOk r =
      domDrain ((((calEnded (tileCounted s n failed true (calGood r)) (2 + n) r).setF (fTILE_STATUS_STATE n) 2).setF
        (fTILE_STATUS_CAUSE n) 7).setF (fGLB_TILE_WHEELS_FENCED_FAULT n) 1) (2 + n) 3 := rfl

/-- A tile without a fault is in service. -/
theorem tileTest_good {r : CalResult} (hr : calGood r = true) (s : State) (n : Nat) :
    tileTest s n [] true true r =
      (calEnded (tileCounted s n [] false true) (2 + n) r).setF (fTILE_STATUS_STATE n) 1 := by
  unfold tileTest
  simp only [hr]
  rfl

theorem tileCounted_boot (s : State) (n : Nat) (failed : List Nat) (fence good : Bool) :
    (tileCounted s n failed fence good).pow.boot = { s.pow.boot with
      tested := putBits s.pow.boot.tested n 1 1, tadcCal := putBits s.pow.boot.tadcCal n 1 (b2n good),
      reduced := s.pow.boot.reduced || fence || !((failed.map (fun w => w % 128)).eraseDups).isEmpty } := by
  unfold tileCounted
  dsimp only
  rw [State.setF_pow, State.setF_pow, foldl_keeps State.pow (fun _ _ => State.setF_pow _ _ _)]
  rfl

/-! ### Boot: the minimum service set (R56, R58) -/

theorem setF_pcieEgress (s : State) (f : Fld) (v : Nat) : pcieEgress (s.setF f v) = pcieEgress s := rfl

/-- What READY says of the service set. -/
def readyShown (s : State) : State :=
  let b := s.pow.boot
  let degraded := b.reduced || s.on fGLB_BOOT_STATUS_ONE_BANK || !s.larder.stuck.isEmpty || b.memOk != 3
  let adc := (List.range (activeTiles s)).all (fun n => bitAt b.tadcCal n)
  let up := maskOf 8 (tileUp s)
  let s := (s.setF fGLB_BOOT_STATUS_READY 1).setF fGLB_BOOT_STATUS_DEGRADED (b2n degraded)
  let s := (s.setF fGLB_BOOT_STATUS_ADC_CAL (b2n adc)).setF fGLB_BOOT_STATUS_TILES_IN_SERVICE up
  let s := (s.setF fGLB_BOOT_STATUS_MEM_IN_SERVICE b.memOk).setF fGLB_BOOT_STATUS_EGRESS_PCIE (b2n (pcieEgress s))
  let s := bootStage (s.setF fGLB_BOOT_STATUS_EGRESS_FABRIC (b2n (fabricEgress s))) 15
  let s := s.setF fMGT_ALERT_STATUS_READY 1
  if degraded then s.setF fMGT_ALERT_STATUS_DEGRADED 1 else s

/-- The phase follows, and the inventory where the host may read it. -/
def readyEntered (s : State) : State :=
  let s := { s with pow := { s.pow with phase := .ready } }
  if s.pcie.configReady then writeInventory s 2 else s

theorem bootReady_eq (s : State) : bootReady s = readyEntered (readyShown s) := by
  unfold bootReady readyEntered readyShown
  rfl

theorem readyEntered_phase (s : State) : (readyEntered s).pow.phase = .ready := by
  unfold readyEntered writeInventory
  dsimp only
  split <;> rfl

theorem readyEntered_fv (s : State) (f : Fld) : (readyEntered s).fv f = s.fv f := by
  unfold readyEntered writeInventory
  dsimp only
  split <;> rfl

theorem maskOf_succ (n : Nat) (p : Nat → Bool) : maskOf (n + 1) p = maskOf n p + b2n (p n) * 2 ^ n := by
  simp [maskOf, List.range_succ]

theorem maskOf_lt (n : Nat) (p : Nat → Bool) : maskOf n p < 2 ^ n := by
  induction n with
  | zero => simp [maskOf]
  | succ n ih =>
    rw [maskOf_succ, Nat.pow_succ]
    cases p n <;> simp [b2n] <;> omega

theorem bootReady_ready (s : State) :
    let t := bootReady s
    t.pow.phase = .ready ∧ t.fv fGLB_BOOT_STATUS_READY = 1 ∧ t.fv fGLB_BOOT_STATUS_STAGE = 15
      ∧ t.fv fGLB_BOOT_STATUS_EGRESS_PCIE = b2n (pcieEgress s)
      ∧ t.fv fGLB_BOOT_STATUS_TILES_IN_SERVICE = maskOf 8 (tileUp s) ∧ t.fv fMGT_ALERT_STATUS_READY = 1 := by
  have hb : ∀ b : Bool, b2n b % 2 = b2n b := by decide
  have hmask := Nat.mod_eq_of_lt (maskOf_lt 8 (tileUp s))
  simp only [bootReady_eq, readyEntered_phase, readyEntered_fv, true_and]
  unfold readyShown bootStage
  dsimp only
  simp -implicitDefEqProofs (disch := decide) only [State.fv_ite, fv_setF_of_apart, State.fv_setF_same, ite_self, hmask,
    setF_pcieEgress, hb, pow_one]
  trivial

/-- Settles O6: the tiles come up in turn, the test of a tile puts it in service or fences it, and the service set is
judged. -/
theorem bootTilesAndService : Obligations.BootTilesAndService := by
  refine ⟨?powered, ?good, ?fenced, ?kernels, ?kernelsFail, ?ready, ?noTile⟩
  case powered =>
    intro s n hs hstart hn8 hn hoff hbelow
    refine ⟨_, congrArg Host.Outcome.next (bootEv_of_boots hs hstart _), ?_⟩
    simp (disch := grind) [tilePowered, nextTile_of_first hn hoff hbelow, bootStage, setBoot_boot, State.fv_setF_same,
      bitAt_putBits_same]
  case good =>
    intro s n r hs hn hpow htest hr
    have hn8 : n % 8 = n := Nat.mod_eq_of_lt hn
    refine ⟨_, congrArg Host.Outcome.next (bootEv_of_boots hs (by simp [hn8, hpow, htest]) _), ?_⟩
    have hkept := calEnded_kept (tileCounted s n [] false true) (2 + n) r
    have htile : OutOfConv (2 + n) (rTILE_STATUS n) := by unfold OutOfConv irqReg; grind
    have hglb : OutOfConv (2 + n) (rGLB_TILE_WHEELS n) := by unfold OutOfConv irqReg; grind
    dsimp only
    rw [hn8, tileTest_good hr, State.setF_pow, calEnded_pow, tileCounted_boot]
    refine ⟨bitAt_putBits_same, State.fv_setF_same _ _ _ (by grind), ?_, ?_⟩
    · rw [fv_setF_of_apart (by grind), hkept.fv htile]
      simp (disch := grind) [tileCounted, State.fv_setF_same]
    · rw [fv_setF_of_apart (by grind), hkept.fv hglb]
      simp (disch := grind) [tileCounted, State.fv_setF_same]
  case fenced =>
    intro s n failed shelfOk r hs hn hpow htest
    have hn8 : n % 8 = n := Nat.mod_eq_of_lt hn
    refine ⟨_, congrArg Host.Outcome.next (bootEv_of_boots hs (by simp [hn8, hpow, htest]) _), ?_⟩
    rw [hn8, tileTest_fenced]
    simp -implicitDefEqProofs (disch := grind) [domDrain, calEnded_pow, tileCounted_boot, bitAt_putBits_same, State.fv_setF_same]
  case kernels =>
    intro s ks hs hstart htiles hk
    refine ⟨_, congrArg Host.Outcome.next (bootEv_of_boots hs (by simp [hstart, htiles, hk]) _), ?_⟩
    simp -implicitDefEqProofs (disch := decide) [kernelsLoaded, bootStage, setBoot, State.fv_setF_same]
  case kernelsFail =>
    intro s ks hs hstart htiles hk hbank
    refine ⟨_, congrArg Host.Outcome.next (bootEv_of_boots hs (by simp [hstart, htiles, hk]) _), ?_⟩
    have hcode : 0x08000103 + (bootStage s 5).fv fGLB_BOOT_STATUS_BANK * 2 ^ 16 = 0x08010103 := by
      simp -implicitDefEqProofs (disch := decide) [bootStage, hbank]
    simp only [kernelsLoaded, hcode]
    exact bootFail_failed (by decide) _
  case ready =>
    intro s n hs hk hc hl hp hpc hn hup hsensor hegress
    refine ⟨_, congrArg Host.Outcome.next (bootEv_of_boots hs (by simp [hk, hc, hl, hp, hpc]) _), ?_⟩
    have htile : (List.range 8).all (fun n => !tileUp s n) = false :=
      List.all_eq_false.mpr ⟨n, List.mem_range.mpr hn, by simp [hup]⟩
    have hready := bootReady_ready s
    rw [hegress] at hready
    simp only [serviceSet, htile, hsensor, hegress]
    exact hready
  case noTile =>
    intro s hs hk hc hl hp hpc hnone
    refine ⟨_, congrArg Host.Outcome.next (bootEv_of_boots hs (by simp [hk, hc, hl, hp, hpc]) _), ?_⟩
    have htile : (List.range 8).all (fun n => !tileUp s n) = true :=
      List.all_eq_true.mpr fun n hn => by simp [hnone n (List.mem_range.mp hn)]
    simp only [serviceSet, htile, if_true]
    exact bootFail_failed (by decide) _

end Sys2Proof.Machine

namespace Sys2Proof.Machine

/-! ### Configuration requests in any state (R54, R381) -/

/-- The link is up and the host may configure, and the dword at 0, of which the host can write no bit, holds 1: no command
leads here, but the statement speaks of every state. -/
def oddConfig : State :=
  { State.reset.setF fPCIE_LINK_STATUS_DL_ACTIVE 1 with
    pow := { State.reset.pow with hubOn := true }
    pcie := { State.reset.pcie with configReady := true, cfg := [(0, 1)] } }

/-- The read ORs what is held at 0 into Vendor ID and Device ID. -/
theorem oddConfig_reads : (configRequest oddConfig false 0 0 0).reply = ⟨.success, leBytes 4 0x88327A9D⟩ := by decide

/-- Refutes O7: the clause on a read of the dword at 0 has no premise on what the configuration space holds there, and in
`oddConfig` the read returns 0x88327A9D. -/
theorem not_linkAndConfiguration : ¬ Obligations.LinkAndConfiguration := by
  rintro ⟨-, -, -, -, -, hread, -⟩
  obtain ⟨t, hrun, hreply, -, -⟩ := hread oddConfig 0 0 rfl (by decide) rfl
  have ht : hub oddConfig (configRequest oddConfig false 0 0 0) = t := Host.Outcome.next.inj hrun
  have hbytes : (⟨.success, leBytes 4 0x88327A9D⟩ : Reply) = ⟨.success, leBytes 4 0x88327A9C⟩ := by
    rw [← oddConfig_reads, ← hreply, ← ht]
    rfl
  exact absurd hbytes (by decide)

end Sys2Proof.Machine

namespace Sys2Proof.Machine

theorem hub_of_on {s : State} (h : s.pow.hubOn = true) (t : State) : hub s t = t := by simp [hub, h]

theorem aon_of_powered {s : State} (h : s.pow.powered = true) (t : State) : aon s t = t := by simp [aon, h]

/-! ### Dial time (R102, R103, R115) -/

theorem dialSet_steps {s : State} (hidle : streamsActive s = false) (hsrc : s.fv fREGU_CTRL_SRC ≠ 1) (v : Word) :
    dialSet s v = gmacDiscard (stepDial (s.setF fREGU_CTRL_TRIM_EN (b2n (bitAt v.toNat 3)))
      (s.pair rREGU_DIAL_SET_LO rREGU_DIAL_SET_HI)) := by
  simp [dialSet, hidle, hsrc]

theorem gmacDiscard_keys (s : State) : (gmacDiscard s).ident.cur = none ∧ (gmacDiscard s).ident.prev = none := by
  unfold gmacDiscard
  split
  · simp
  · next h => simpa using h

theorem gmacDiscard_stepDial_fv {f : Fld} (hf : f.off = rREGU_CTRL) (s : State) (t : Nat) :
    (gmacDiscard (stepDial s t)).fv f = s.fv f := by
  have hirq : ¬ irqReg f.off := by rw [hf]; unfold irqReg; decide
  rw [State.fv, rn_gmacDiscard (by grind) (by grind) hirq]
  exact congrArg (bitsOf · f.lsb f.width) (rn_ev (by grind) hirq)

/-- Settles O8: each command of dial time does what its law says, and leaves dial time where the law does not step it. -/
theorem dialCommands : Obligations.DialCommands := by
  have hb : ∀ b : Bool, b2n b % 2 = b2n b := by decide
  refine ⟨?steps, ?refused, ?trim, ?badTrim, ?acquires, ?free, ?holdover⟩
  case steps =>
    intro s v hhub hidle hsrc
    refine ⟨_, congrArg Host.Outcome.next (hub_of_on hhub _), ?_⟩
    dsimp only
    rw [dialSet_steps hidle hsrc]
    refine ⟨(gmacDiscard_dial _).trans (stepDial_dial _ _), gmacDiscard_stepDial_stepped _ _, ?_, gmacDiscard_keys _⟩
    rw [gmacDiscard_stepDial_fv rfl, State.fv_setF_same _ _ _ (by decide)]
    exact hb _
  case refused =>
    intro s v hhub hbusy
    refine ⟨_, congrArg Host.Outcome.next (hub_of_on hhub _), ?_⟩
    dsimp only
    rw [dialSet_of_busy hbusy]
    exact ⟨congrArg Regu.dial (State.ev_regu s _), fv_ev_same not_irqReg_reguEvent (by decide), State.ev_ident s _⟩
  case trim =>
    intro s v hhub hlo hhi
    have hin : ¬ (signedOf 32 v.toNat < -500000 ∨ 500000 < signedOf 32 v.toNat) := by omega
    refine ⟨_, congrArg Host.Outcome.next (hub_of_on hhub _), ?_⟩
    simp only [rateTrimWrite, decide_eq_true_eq, Bool.or_eq_true, gt_iff_lt, if_neg hin]
    exact ⟨State.reg_setReg_same _ _ _, fun o ho => State.rn_setReg_other (by simpa using ho) s v, rfl⟩
  case badTrim =>
    intro s v hhub hout
    refine ⟨_, congrArg Host.Outcome.next (hub_of_on hhub _), ?_⟩
    simp only [rateTrimWrite, decide_eq_true_eq, Bool.or_eq_true, gt_iff_lt, if_pos hout]
    refine ⟨?_, fv_ev_same not_irqReg_reguEvent (by decide)⟩
    exact BitVec.eq_of_toNat_eq (rn_ev (by decide) (by unfold irqReg; decide))
  case acquires =>
    intro s v hhub hv hsrc hroot
    refine ⟨_, congrArg Host.Outcome.next (hub_of_on hhub _), ?_⟩
    simp -implicitDefEqProofs (disch := decide) [dialSource, hv, hsrc, hroot, State.fv_setF_same, State.dial]
  case free =>
    intro s v hhub hv
    refine ⟨_, congrArg Host.Outcome.next (hub_of_on hhub _), ?_⟩
    simp -implicitDefEqProofs (disch := decide) [dialSource, hv, State.fv_setF_same, State.dial]
  case holdover =>
    intro s hhub hsrc hstate
    have hacts : (decide (s.fv fREGU_CTRL_SRC = 1)
        && (decide (s.fv fREGU_STATUS_STATE = 1) || decide (s.fv fREGU_STATUS_STATE = 2))) = true := by simpa [hsrc] using hstate
    refine ⟨_, congrArg Host.Outcome.next (hub_of_on hhub _), ?_⟩
    simp -implicitDefEqProofs (disch := decide) [followHold, hacts, State.fv_setF_same, State.dial, State.report]

end Sys2Proof.Machine

namespace Sys2Proof.Machine

/-! ### Bits of words joined bit by bit -/

theorem bitAt_eq_testBit (v k : Nat) : bitAt v k = v.testBit k := by
  rw [Nat.testBit_eq_decide_div_mod_eq, bitAt]
  rfl

theorem bitAt_or (a b k : Nat) : bitAt (a ||| b) k = (bitAt a k || bitAt b k) := by simp [bitAt_eq_testBit]

theorem bitAt_and (a b k : Nat) : bitAt (a &&& b) k = (bitAt a k && bitAt b k) := by simp [bitAt_eq_testBit]

theorem bitsOf_or (a b l w : Nat) : bitsOf (a ||| b) l w = bitsOf a l w ||| bitsOf b l w := by
  simp only [bitsOf, ← Nat.shiftRight_eq_div_pow, Nat.shiftRight_or_distrib, Nat.or_mod_two_pow]

/-! ### Trigger schedules (R105 to R108) -/

@[simp] theorem sched_setSched (s : State) (p : Nat) (x : Sched) : sched (setSched s p x) p = x := by
  simp [sched, setSched, kgetD]

theorem sched_congr {s t : State} (h : t.regu = s.regu) (p : Nat) : sched t p = sched s p := by rw [sched, sched, h]

/-- The staged set stands in the registers of its schedule, outside the status bits of its control word. -/
theorem staged_setF {s : State} {p : Nat} {f : Fld} (v : Nat) (hoff : f.off = rTRIG_SCHED_CTRL p)
    (hf : f = fTRIG_SCHED_CTRL_RUN p ∨ f = fTRIG_SCHED_CTRL_ARMED p ∨ f = fTRIG_SCHED_CTRL_APPLY_PENDING p) :
    staged (s.setF f v) p = staged s p := by
  unfold staged
  simp (disch := grind) only [fv_setF_of_apart, rn_setF_other]

theorem valid_setF {x : SchedSet} {s : State} {p : Nat} {f : Fld} (v : Nat) (hoff : f.off = rTRIG_SCHED_CTRL p) (_hp : p < 32) :
    x.valid (s.setF f v) = x.valid s := by
  unfold SchedSet.valid
  simp (disch := grind) only [fv_setF_of_apart]

theorem schedFields_kept (s : State) (p : Nat) (v : Word) : RegsKept (· ≠ rTRIG_SCHED_CTRL p) s (schedFields s p v) := by
  unfold schedFields
  exact .setF (.setF (.setF (.refl _ s) _ (by simp)) _ (by simp)) _ (by simp)

/-- RUN and the other status bits stay as they are. -/
theorem schedFields_run (s : State) (p : Nat) (v : Word) :
    (schedFields s p v).fv (fTRIG_SCHED_CTRL_RUN p) = s.fv (fTRIG_SCHED_CTRL_RUN p) := by
  unfold schedFields
  simp (disch := grind) only [fv_setF_of_apart]

theorem schedFields_regu (s : State) (p : Nat) (v : Word) : (schedFields s p v).regu = s.regu := rfl

theorem schedFields_src (s : State) (p : Nat) (v : Word) :
    (staged (schedFields s p v) p).src = bitsOf v.toNat 1 3 := by
  unfold schedFields staged
  simp (disch := grind) only [fv_setF_of_apart, State.fv_setF_same]
  exact Nat.mod_eq_of_lt (bitsOf_lt _ _ _)

/-- A valid set with SRC 0 starts at once. -/
theorem schedStart_free {s : State} {p : Nat} (hsrc : (staged s p).src = 0) (hvalid : (staged s p).valid s = true) (t0 : Nat) :
    let t := schedStart s p t0
    t.fv (fTRIG_SCHED_CTRL_RUN p) = 1 ∧ (sched t p).hasEpoch = true ∧ (sched t p).epoch = Int.ofNat t0 * 256
      ∧ (sched t p).set = staged s p ∧ (sched t p).k = 0 := by
  simp only [schedStart, hvalid, hsrc, if_true]
  refine ⟨?_, ?_⟩
  · simp (disch := grind) only [fv_setF_of_apart, State.fv_setF_same]
    trivial
  · rw [sched_congr (State.setF_regu _ _ _), sched_congr (State.setF_regu _ _ _), sched_setSched]
    exact ⟨rfl, rfl, rfl, rfl⟩

theorem schedStart_invalid {s : State} {p : Nat} (hvalid : (staged s p).valid s = false) (t0 : Nat) :
    schedStart s p t0 = s.ev fREGU_EVENT_CFG_INVALID := by
  simp [schedStart, hvalid]

/-- The stamps of ILL lie outside the schedules. -/
theorem illUpdate_kept (s : State) {P : Nat → Prop} (hP : ∀ o, P o → o < rILL_TS_RISE_LO 0 ∨ rILL_TS_RISE_LO 16 ≤ o) :
    RegsKept P s (illUpdate s) := by
  unfold illUpdate
  refine (RegsKept.refl _ s).foldl fun u j hj => ?_
  have := List.mem_range.mp hj
  have hout : ∀ o, rILL_TS_RISE_LO 0 ≤ o → o < rILL_TS_RISE_LO 16 → ¬ P o := fun o hlo hhi ho => by
    have := hP o ho
    omega
  dsimp only
  refine .ite (fun _ => .refl _ u) fun _ => .ite (fun _ => .setPair (.withRest (.refl _ u)) _ ?_ ?_)
    fun _ => .setPair (.withRest (.refl _ u)) _ ?_ ?_
  all_goals exact hout _ (by grind) (by grind)

theorem illUpdate_sched (s : State) : (illUpdate s).regu.sched = s.regu.sched := by
  unfold illUpdate
  refine foldl_keeps (fun t => t.regu.sched) (fun u j => ?_) s
  dsimp only
  split
  · rfl
  · split <;> rfl

theorem schedStop_stopped {p : Nat} (hp : p < 32) (s : State) :
    let t := schedStop s p
    t.fv (fTRIG_SCHED_CTRL_RUN p) = 0 ∧ t.fv (fTRIG_SCHED_CTRL_ARMED p) = 0
      ∧ t.fv (fTRIG_SCHED_CTRL_APPLY_PENDING p) = 0 ∧ kget p t.regu.sched = none := by
  have hkept : ∀ u, RegsKept (· = rTRIG_SCHED_CTRL p) u (illUpdate u) := fun u => illUpdate_kept u fun o ho => by grind
  unfold schedStop
  dsimp only
  simp (disch := grind) only [(hkept _).fv, State.fv_mk, regsFv_regs, State.fv_setF_same, fv_setF_of_apart,
    illUpdate_sched, kget_kdel_same, Nat.zero_mod, and_self]

theorem schedCtrl_run {s : State} {p : Nat} {v : Word} (hoff : s.on (fTRIG_SCHED_CTRL_RUN p) = false) :
    schedCtrl s p (v ||| 1#32) = schedStart (schedFields s p (v ||| 1#32)) p
      (s.pair (rTRIG_START_AT_LO p) (rTRIG_START_AT_HI p)) := by
  have hrun : bitAt (v ||| 1#32).toNat 0 = true := by
    rw [BitVec.toNat_or, bitAt_or]
    simp [bitAt]
  have hat : (schedFields s p (v ||| 1#32)).pair (rTRIG_START_AT_LO p) (rTRIG_START_AT_HI p)
      = s.pair (rTRIG_START_AT_LO p) (rTRIG_START_AT_HI p) :=
    (schedFields_kept s p _).pair (by grind) (by grind)
  simp only [schedCtrl, hrun, hoff, hat, Bool.not_false, Bool.and_self, if_true]

theorem schedCtrl_stop {s : State} {p : Nat} {v : Word} (hon : s.on (fTRIG_SCHED_CTRL_RUN p) = true) :
    schedCtrl s p (v &&& 0xFFFFFFFE#32) = schedStop (schedFields s p (v &&& 0xFFFFFFFE#32)) p := by
  have hrun : bitAt (v &&& 0xFFFFFFFE#32).toNat 0 = false := by
    rw [BitVec.toNat_and, bitAt_and]
    simp [bitAt]
  simp only [schedCtrl, hrun, hon, Bool.not_false, Bool.not_true, Bool.and_self, Bool.false_eq_true, if_true, if_false]

theorem trigRose_kept (s : State) (p : Nat) : (trigRose s p).regs = s.regs ∧ (trigRose s p).regu = s.regu :=
  ⟨(Keeps.of (keeps_trigRose s p)).regs rfl, (Keeps.of (keeps_trigRose s p)).regu rfl⟩

/-- Settles O9: a schedule starts, takes a new set, computes, counts and ends its edges, and stops. -/
theorem triggerSchedules : Obligations.TriggerSchedules := by
  refine ⟨?run, ?invalid, ?clear, ?apply, ?boundary, ?compute, ?skip, ?rise, ?fall⟩
  case run =>
    intro s p v hhub hp hoff hv hvalid
    have hsrc : (staged (schedFields s p (v ||| 1#32)) p).src = 0 := by
      rw [schedFields_src, BitVec.toNat_or, bitsOf_or, hv]
      rfl
    refine ⟨_, congrArg Host.Outcome.next (hub_of_on hhub _), ?_⟩
    dsimp only
    rw [Nat.mod_eq_of_lt hp, schedCtrl_run hoff]
    exact schedStart_free hsrc hvalid _
  case invalid =>
    intro s p v hhub hp hoff hvalid
    refine ⟨_, congrArg Host.Outcome.next (hub_of_on hhub _), ?_⟩
    dsimp only
    rw [Nat.mod_eq_of_lt hp, schedCtrl_run hoff, schedStart_invalid hvalid]
    refine ⟨?_, fv_ev_same not_irqReg_reguEvent (by decide), State.ev_regu _ _⟩
    rw [fv_ev_of_apart (by grind) (by grind), schedFields_run]
    simpa [State.on] using hoff
  case clear =>
    intro s p v hhub hp hon
    refine ⟨_, congrArg Host.Outcome.next (hub_of_on hhub _), ?_⟩
    dsimp only
    rw [Nat.mod_eq_of_lt hp, schedCtrl_stop hon]
    exact schedStop_stopped hp _
  case apply =>
    intro s p v hhub hp hon hvalid
    have hon' : (schedFields s p v).on (fTRIG_SCHED_CTRL_RUN p) = true := by rw [State.on, schedFields_run]; exact hon
    refine ⟨_, congrArg Host.Outcome.next (hub_of_on hhub _), ?_⟩
    dsimp only
    rw [Nat.mod_eq_of_lt hp, schedApply, if_pos hon', if_pos hvalid]
    refine ⟨State.fv_setF_same _ _ _ (by grind), rfl, fun o ho => ?_⟩
    exact ((schedFields_kept s p v).setF _ (by simp)).rn o (by simpa using ho)
  case boundary =>
    intro s p hhub hp hon hpend hepoch hvalid
    have hstaged : staged (s.setF (fTRIG_SCHED_CTRL_APPLY_PENDING p) 0) p = staged s p :=
      staged_setF 0 rfl (.inr (.inr rfl))
    have hvalid' : (staged s p).valid (s.setF (fTRIG_SCHED_CTRL_APPLY_PENDING p) 0) = true := (valid_setF 0 rfl hp).trans hvalid
    refine ⟨_, congrArg Host.Outcome.next (hub_of_on hhub _), ?_⟩
    dsimp only
    rw [Nat.mod_eq_of_lt hp, schedBoundary]
    simp only [hon, hpend, hepoch, Bool.and_self, if_true, hstaged, hvalid', sched_setSched, and_self,
      and_true]
    exact (State.fv_setF_same s (fTRIG_SCHED_CTRL_APPLY_PENDING p) 0 (by grind))
  case compute =>
    intro s p hhub hp hon hepoch hnext hahead hfall
    refine ⟨_, congrArg Host.Outcome.next (hub_of_on hhub _), ?_⟩
    dsimp only
    rw [Nat.mod_eq_of_lt hp, schedCompute]
    simp only [hon, hepoch, hnext, hfall, Option.isNone_none, Bool.and_self, if_true, Int.not_lt.mpr hahead, decide_false,
      Bool.or_self, Bool.false_eq_true, if_false]
    refine ⟨?_, fun o ho => ?_⟩
    · rw [sched_congr (State.setPair_regu _ _ _ _), sched_setSched]
    · exact (RegsKept.setPair (P := (· ∉ [rTRIG_NEXT_EDGE_LO p, rTRIG_NEXT_EDGE_HI p])) (.of_regs rfl) _ (by simp) (by simp)).rn o ho
  case skip =>
    intro s p hhub hp hon hepoch hnext hlate
    refine ⟨_, congrArg Host.Outcome.next (hub_of_on hhub _), ?_⟩
    dsimp only
    rw [Nat.mod_eq_of_lt hp, schedCompute]
    simp only [hon, hepoch, hnext, Option.isNone_none, Bool.and_self, if_true, hlate, decide_true, Bool.true_or]
    exact ⟨(sched_congr (State.ev_regu _ _) p).trans (sched_setSched _ _ _), fv_ev_same not_irqReg_reguEvent (by decide)⟩
  case rise =>
    intro s p x hhub hp hnext
    refine ⟨_, congrArg Host.Outcome.next (hub_of_on hhub _), ?_⟩
    dsimp only
    rw [Nat.mod_eq_of_lt hp, schedRise]
    simp only [hnext, sched_setSched, true_and]
    have hrose : ∀ u, RegsKept (fun _ => True) u (trigRose u p) := fun u => .of_regs (trigRose_kept u p).1
    constructor
    · refine ((hrose _).fv trivial).trans ?_
      simp (disch := grind) only [State.fv_setRn_other, State.fv_setF_same, Nat.zero_mod]
    · refine ((hrose _).rn _ trivial).trans ?_
      simp (disch := grind) only [State.rn_setRn_same, rn_setF_other]
  case fall =>
    intro s p hhub hp hhigh
    refine ⟨_, congrArg Host.Outcome.next (hub_of_on hhub _), ?_⟩
    dsimp only
    rw [Nat.mod_eq_of_lt hp, schedFall, if_pos hhigh, sched_setSched]
    exact ⟨rfl, rfl, rfl⟩

end Sys2Proof.Machine

namespace Sys2Proof.Machine

/-! ### The event log's records (R507) -/

theorem logRec_fv {f : Fld} (h : f.off ≠ rSAFE_LOG_STATUS) (s : State) (code kind d : Nat) :
    (logRec s code kind d).fv f = s.fv f :=
  (logRec_kept (P := (· ≠ rSAFE_LOG_STATUS)) (by simp) (.refl _ s) code kind d).fv h

@[simp] theorem logRec_inbox (s : State) (code kind d : Nat) : (logRec s code kind d).isl.inbox = s.isl.inbox := by
  unfold logRec
  split <;> rfl

@[simp] theorem logRec_sokA (s : State) (code kind d : Nat) : (logRec s code kind d).isl.sokA = s.isl.sokA := by
  unfold logRec
  split <;> rfl

@[simp] theorem logRec_sok (s : State) (code kind d : Nat) : sok (logRec s code kind d) = sok s := logRec_fv (by decide) s code kind d

@[simp] theorem logRec_causes (s : State) (code kind d : Nat) :
    (logRec s code kind d).fv fSAFE_CAUSE_CAUSES = s.fv fSAFE_CAUSE_CAUSES := logRec_fv (by decide) s code kind d

/-! ### The heartbeat stops (R490, R494) -/

theorem stopSok_isl (s : State) (r : Bool) :
    (stopSok s r).isl = { s.isl with sokA := if sok s = 1 then false else s.isl.sokA } := by
  unfold stopSok
  by_cases h : sok s = 1
  · cases r <;> simp [h]
  · simp [h]

theorem stopSok_sok (s : State) (r : Bool) : sok (stopSok s r) = if sok s = 1 then 2 else sok s := by
  unfold stopSok
  by_cases h : sok s = 1
  · rw [if_pos h, if_pos h]
    cases r <;> simp -implicitDefEqProofs (disch := decide) [sok, State.fv_setF_same]
  · rw [if_neg h, if_neg h]

/-- The fields that the end of the heartbeat does not touch. -/
theorem stopSok_fv {f : Fld} (halert : f.off ≠ rMGT_ALERT_STATUS)
    (h : f.off ≠ rSAFE_STATUS ∨ f = fSAFE_STATUS_LATCHED ∨ f = fSAFE_STATUS_WIND_STATE) (s : State) (r : Bool) :
    (stopSok s r).fv f = s.fv f := by
  unfold stopSok
  split
  · cases r <;> simp (disch := grind) [fv_setF_of_apart]
  · rfl

/-- The bits of a cause. -/
def causeBits (s : State) (k : Nat) : State :=
  let t := (s.setF ⟨rSAFE_CAUSE, k, 1⟩ 1).setF ⟨rSAFE_CAUSE_SEEN, k, 1⟩ 1
  if k = 8 then t.setF fSAFE_STATUS_LATCHED 1 else t

/-- What stands before the event of a cause. -/
def causeMarked (s : State) (k : Nat) : State := stopSok (causeBits s k) (k != 8 && k != 0)

theorem causeBits_isl (s : State) (k : Nat) : (causeBits s k).isl = s.isl := by
  unfold causeBits
  dsimp only
  split <;> simp only [State.setF_isl]

theorem causeBits_fv {f : Fld} (hoff : f.off ≠ rSAFE_CAUSE ∧ f.off ≠ rSAFE_CAUSE_SEEN)
    (h : f.off ≠ rSAFE_STATUS ∨ f = fSAFE_STATUS_WIND_STATE ∨ f = fSAFE_STATUS_SOK) (s : State) (k : Nat) :
    (causeBits s k).fv f = s.fv f := by
  unfold causeBits
  dsimp only
  split <;> simp (disch := grind) [fv_setF_of_apart]

theorem setCause_eq (s : State) (k : Nat) : setCause s k =
    if bitAt (s.fv fSAFE_CAUSE_CAUSES) k then causeMarked s k else (causeMarked s k).ev fSAFE_EVENT_CAUSE_SET := by
  unfold setCause causeMarked causeBits
  rfl

theorem setCause_sok (s : State) (k : Nat) : sok (setCause s k) = if sok s = 1 then 2 else sok s := by
  have hmark : sok (causeMarked s k) = if sok s = 1 then 2 else sok s := by
    rw [causeMarked, stopSok_sok, sok, causeBits_fv (by decide) (by decide), sok]
  rw [setCause_eq, ← hmark]
  split
  · rfl
  · exact fv_ev_of_apart (by decide) (by decide) _

theorem setCause_not_running (s : State) (k : Nat) : sok (setCause s k) ≠ 1 := by
  rw [setCause_sok]
  split <;> omega

theorem setCause_isl (s : State) (k : Nat) :
    (setCause s k).isl = { s.isl with sokA := if sok s = 1 then false else s.isl.sokA } := by
  have hmark : (causeMarked s k).isl = { s.isl with sokA := if sok s = 1 then false else s.isl.sokA } := by
    rw [causeMarked, stopSok_isl, causeBits_isl, sok, causeBits_fv (by decide) (by decide), sok]
  rw [setCause_eq, ← hmark]
  split
  · rfl
  · exact State.ev_isl _ _

/-- The fields that a cause does not touch. -/
theorem setCause_fv {f : Fld} (hcause : f.off ≠ rSAFE_CAUSE ∧ f.off ≠ rSAFE_CAUSE_SEEN ∧ f.off ≠ rSAFE_EVENT
      ∧ f.off ≠ rMGT_ALERT_STATUS)
    (h : f.off ≠ rSAFE_STATUS ∨ f = fSAFE_STATUS_WIND_STATE)
    (hirq : (f.off < 0x26000 ∨ 0x26800 ≤ f.off) ∧ (f.off < 0x50000 ∨ 0x50100 ≤ f.off)) (s : State) (k : Nat) :
    (setCause s k).fv f = s.fv f := by
  have hmark : (causeMarked s k).fv f = s.fv f := by
    rw [causeMarked, stopSok_fv hcause.2.2.2 (by grind), causeBits_fv ⟨hcause.1, hcause.2.1⟩ (by grind)]
  rw [setCause_eq, ← hmark]
  split
  · rfl
  · exact fv_ev_of_apart (.inl hcause.2.2.1) hirq _

theorem setCause_set {k : Nat} (hk : k < 9) (s : State) : bitAt ((setCause s k).fv fSAFE_CAUSE_CAUSES) k = true := by
  have hmark : (causeMarked s k).fv ⟨rSAFE_CAUSE, k, 1⟩ = 1 := by
    rw [causeMarked, stopSok_fv (by simp) (.inl (by simp))]
    unfold causeBits
    dsimp only
    split <;> simp (disch := grind) [fv_setF_of_apart, State.fv_setF_same]
  rw [State.bitAt_fv hk, setCause_eq, State.on_eq, Nat.zero_add]
  split
  · rw [hmark]; rfl
  · rw [fv_ev_of_apart (by grind) (by grind), hmark]; rfl

theorem setCause_latched (s : State) : (setCause s 8).fv fSAFE_STATUS_LATCHED = 1 := by
  have hmark : (causeMarked s 8).fv fSAFE_STATUS_LATCHED = 1 := by
    rw [causeMarked, stopSok_fv (by decide) (.inr (.inl rfl)), causeBits, if_pos rfl, State.fv_setF_same _ _ _ (by decide)]
    rfl
  rw [setCause_eq, ← hmark]
  split
  · rfl
  · exact fv_ev_of_apart (by decide) (by decide) _

/-! ### Hardware faults (R492, R494) -/

/-- What stands before HW_FAULT: the first fault with its dial time. -/
def firstFault (s : State) (code : Nat) : State :=
  if s.fv ⟨rSAFE_CAUSE, 8, 1⟩ = 0 then
    (s.setRn rSAFE_FIRST_FAULT code).setPair rSAFE_FIRST_TIME_LO rSAFE_FIRST_TIME_HI s.dial else s

theorem hwFault_eq (s : State) (code : Nat) : hwFault s code = setCause (firstFault s code) 8 := rfl

theorem firstFault_sok (s : State) (code : Nat) : sok (firstFault s code) = sok s := by
  unfold firstFault sok
  split
  · simp (disch := decide) only [State.fv_setPair_other, State.fv_setRn_other]
  · rfl

theorem firstFault_isl (s : State) (code : Nat) : (firstFault s code).isl = s.isl := by
  unfold firstFault
  split <;> rfl

theorem hwFault_sok (s : State) (code : Nat) : sok (hwFault s code) = if sok s = 1 then 2 else sok s := by
  rw [hwFault_eq, setCause_sok, firstFault_sok]

theorem hwFault_isl (s : State) (code : Nat) :
    (hwFault s code).isl = { s.isl with sokA := if sok s = 1 then false else s.isl.sokA } := by
  rw [hwFault_eq, setCause_isl, firstFault_isl, firstFault_sok]

theorem hwFault_firstFault {s : State} {code : Nat} (hfirst : bitAt (s.fv fSAFE_CAUSE_CAUSES) 8 = false)
    (hcode : code < 2 ^ 32) : (hwFault s code).rn rSAFE_FIRST_FAULT = code := by
  have hzero : s.fv ⟨rSAFE_CAUSE, 8, 1⟩ = 0 := by
    rw [State.bitAt_fv (by decide), State.on_eq] at hfirst
    simpa using hfirst
  have hread : ∀ u : State, u.rn rSAFE_FIRST_FAULT = u.fv ⟨rSAFE_FIRST_FAULT, 0, 32⟩ := fun u => by
    simp only [State.fv, bitsOf, pow_zero, Nat.div_one, State.rn_mod]
  rw [hread, hwFault_eq, setCause_fv (by decide) (by decide) (by decide), ← hread, firstFault, if_pos hzero,
    State.rn_setPair_other (by decide) (by decide), State.rn_setRn_same, Nat.mod_eq_of_lt hcode]

end Sys2Proof.Machine

namespace Sys2Proof.Machine

/-! ### The safety island acts (R491, R493) -/

theorem isl_of_runs {s : State} (hpow : s.pow.powered = true) (hrun : s.isl.running = true) (t : State) : isl s t = t := by
  simp [isl, hpow, hrun]

theorem isl_same (s : State) : isl s s = s := by
  unfold isl
  split <;> rfl

theorem hub_same (s : State) : hub s s = s := by
  unfold hub
  split <;> rfl

/-- A hardware forced-low, whatever caused it. -/
theorem forcedLow_forced (s : State) (code : Nat) :
    let t := forcedLow s code
    t.isl.forced = true ∧ t.isl.sokA = false ∧ sok t = (if sok s = 1 then 2 else sok s)
      ∧ t.fv fSAFE_STATUS_LATCHED = 1 ∧ bitAt (t.fv fSAFE_CAUSE_CAUSES) 8 = true
      ∧ t.isl.inbox = s.isl.inbox ++ [(faultCode 0x05 0 code, 0)] := by
  unfold forcedLow
  generalize hlow : ({ s with isl := { s.isl with forced := true, sokA := false } } : State) = u
  have hisl : u.isl = { s.isl with forced := true, sokA := false } := by rw [← hlow]
  have hsok : sok u = sok s := by rw [← hlow]; rfl
  dsimp only
  refine ⟨?_, ?_, ?_, ?_, ?_, ?_⟩
  · rw [State.report_isl, hwFault_isl, hisl]
  · rw [State.report_isl, hwFault_isl, hisl, ite_self]
  · rw [sok, fv_report, ← sok, hwFault_sok, hsok]
  · rw [fv_report, hwFault_eq, setCause_latched]
  · rw [fv_report, hwFault_eq, setCause_set (by decide)]
  · rw [State.report_isl, hwFault_isl, hisl]

/-! ### Fault codes (R497, R498, R558) -/

theorem faultCode_fields {cls inst code : Nat} (hcls : cls < 256) (hinst : inst < 256) (hcode : code < 2 ^ 16) :
    bitsOf (faultCode cls inst code) 24 8 = cls ∧ bitsOf (faultCode cls inst code) 16 8 = inst
      ∧ bitsOf (faultCode cls inst code) 0 16 = code := by
  unfold bitsOf faultCode
  omega

/-- A code whose reaction is SAFE is taken from the inbox and stops the heartbeat. -/
theorem faultReceived_safe {s : State} {code d : Nat} (hin : s.isl.inbox.contains (code, d) = true)
    (hmem : (bitsOf code 24 8 == 0x0A && bitsOf code 0 16 == 0x11) = false)
    (hsafe : safeReaction (bitsOf code 24 8) (bitsOf code 16 8) (bitsOf code 0 16) d = true) :
    let u : State := { s with isl := { s.isl with inbox := s.isl.inbox.erase (code, d) } }
    faultReceived s code d = logRec (hwFault u code) code 2 8 := by
  simp only [faultReceived, hin, hmem, hsafe, if_true, Bool.false_and, Bool.false_eq_true, if_false, Bool.or_false]

/-- A code that neither stops the heartbeat nor belongs to a cause is logged, and may ask for a fence. -/
theorem faultReceived_fence {s : State} {code d n : Nat} (hin : s.isl.inbox.contains (code, d) = true)
    (hmem : (bitsOf code 24 8 == 0x0A && bitsOf code 0 16 == 0x11) = false)
    (hsafe : safeReaction (bitsOf code 24 8) (bitsOf code 16 8) (bitsOf code 0 16) d = false)
    (hcause : causeOfCode (bitsOf code 24 8) (bitsOf code 0 16) d = false)
    (htemp : (bitsOf code 24 8 == 0x06 && bitsOf code 0 16 == 0x3) = false)
    (hfence : fenceReaction (bitsOf code 24 8) (bitsOf code 16 8) (bitsOf code 0 16) d = some n) :
    let u := logRec { s with isl := { s.isl with inbox := s.isl.inbox.erase (code, d) } } code 0 d
    faultReceived s code d = { u with isl := { u.isl with fenceReq := putBits u.isl.fenceReq n 1 1 } } := by
  simp only [faultReceived, hin, hmem, hsafe, hcause, htemp, hfence, if_true, Bool.false_and, Bool.false_eq_true, if_false,
    Bool.or_false]

/-! ### Self-tests and the scrub (R497) -/

/-- The first fault of a wheel within a second is only kept. -/
theorem wheelFault_first {s : State} {n w : Nat} (h : kget w (tileOf s n).faults = none) :
    wheelFault s n w = setTile s n { tileOf s n with faults := kput w [s.now] (tileOf s n).faults } := by
  simp [wheelFault, kgetD, h]

/-- Settles O11: the island's own checks force the heartbeat low, its tests report what they find, and it reacts to the
codes that it receives. -/
theorem safetyChecks : Obligations.SafetyChecks := by
  refine ⟨?half, ?bad, ?forced, ?corrected, ?failed, ?clean, ?residue, ?residueOk, ?scrub, ?safe, ?fence, ?start⟩
  case half =>
    intro s us hpow hsok hlo hhi
    refine ⟨_, congrArg Host.Outcome.next (aon_of_powered hpow _), ?_⟩
    have hin : (decide (us < 400) || decide (600 < us) || !true) = false := by simp; omega
    simp only [sokHalf, hsok, hin, if_true, Bool.false_eq_true, if_false, and_self]
  case bad =>
    intro s us f hpow hsok hbad
    refine ⟨_, congrArg Host.Outcome.next (aon_of_powered hpow _), ?_⟩
    have hout : (decide (us < 400) || decide (600 < us) || !f) = true := by simp; tauto
    obtain ⟨hforced, hlow, hstat, hlatched, hcause, -⟩ := forcedLow_forced s 0x000C
    simp only [sokHalf, hsok, hout, if_true] at hstat ⊢
    exact ⟨hforced, hlow, hstat, hlatched, hcause⟩
  case forced =>
    intro s code hpow hcode hfirst
    refine ⟨_, congrArg Host.Outcome.next (aon_of_powered hpow _), ?_⟩
    dsimp only
    rw [Nat.mod_eq_of_lt hcode]
    obtain ⟨hforced, hlow, -, -, hcause, hinbox⟩ := forcedLow_forced s code
    refine ⟨hforced, hlow, hcause, ?_, hinbox⟩
    exact hwFault_firstFault (s := { s with isl := { s.isl with forced := true, sokA := false } }) hfirst
      (by unfold faultCode; omega)
  case corrected =>
    intro s hpow hrun
    exact ⟨_, congrArg Host.Outcome.next (isl_of_runs hpow hrun _), rfl, rfl⟩
  case failed =>
    intro s hpow hrun
    exact ⟨_, congrArg Host.Outcome.next (isl_of_runs hpow hrun _), rfl, rfl⟩
  case clean => exact fun s => ⟨_, congrArg Host.Outcome.next (isl_same s), rfl⟩
  case residue =>
    intro s n w hhub hn hw hup hfirst
    refine ⟨_, congrArg Host.Outcome.next (hub_of_on hhub _), ?_⟩
    dsimp only
    rw [Nat.mod_eq_of_lt hn, Nat.mod_eq_of_lt hw, residueSelfTest, if_neg (by simp [hup]),
      wheelFault_first (s := s.report 0x05 n 0x000E) hfirst]
    exact ⟨by simp [tileOf, setTile, kgetD], rfl, rfl⟩
  case residueOk => exact fun s n w => ⟨_, congrArg Host.Outcome.next (hub_same s), rfl⟩
  case scrub =>
    intro s a hhub ha hup
    refine ⟨_, congrArg Host.Outcome.next (hub_of_on hhub _), ?_⟩
    have hhit : scrubHit s ⟨2, false, 0, a⟩ =
        (({ s with memPoison := if s.memPoison.contains a then s.memPoison else s.memPoison ++ [a] } : State).bump
          (fPWR_MEM_ECC_UNCORR (a / 2 ^ 33)) |>.ev fPWR_EVENT_LP5X_UNCORR).report 0x0A (a / 2 ^ 33) 0x0011 := by
      simp -implicitDefEqProofs only [scrubHit, Nat.mod_eq_of_lt ha, hup, Bool.not_true, Bool.false_eq_true, if_false]
    dsimp only [List.foldl_cons, List.foldl_nil]
    rw [hhit]
    simp -implicitDefEqProofs only [State.report_memPoison, State.ev_memPoison, State.bump_memPoison, State.report_mem,
      State.ev_mem, State.bump_mem, State.report_isl, State.ev_isl, State.bump_isl, and_true]
    split
    · assumption
    · simp
  case safe =>
    intro s d hpow hrun hin
    refine ⟨_, congrArg Host.Outcome.next (isl_of_runs hpow hrun _), ?_⟩
    dsimp only
    rw [faultReceived_safe hin rfl rfl]
    refine ⟨?_, ?_, ?_⟩
    · rw [logRec_causes, hwFault_eq, setCause_set (by decide)]
    · rw [logRec_sok, hwFault_eq]
      exact setCause_not_running _ _
    · rw [logRec_inbox, hwFault_isl]
  case fence =>
    intro s n d hpow hrun hn hin
    refine ⟨_, congrArg Host.Outcome.next (isl_of_runs hpow hrun _), ?_⟩
    obtain ⟨hcls, hinst, hcode⟩ := faultCode_fields (cls := 0x06) (inst := n + 2) (code := 0x0001) (by omega) (by omega)
      (by omega)
    have hfence : fenceReaction 0x06 (n + 2) 0x0001 d = some n := by
      simp [fenceReaction]
      omega
    have hsafe : safeReaction 0x06 (n + 2) 0x0001 d = false := by
      simp [safeReaction]
      omega
    rw [faultReceived_fence hin (by rw [hcls, hcode]; rfl) (by rw [hcls, hinst, hcode, hsafe])
      (by rw [hcls, hcode]; simp [causeOfCode])
      (by rw [hcls, hcode]; rfl) (by rw [hcls, hinst, hcode, hfence])]
    exact ⟨bitAt_putBits_same, logRec_sok _ _ _ _⟩
  case start =>
    intro s hpow hrun hsok hready hwind hcause hforced
    refine ⟨_, congrArg Host.Outcome.next (isl_of_runs hpow hrun _), ?_⟩
    simp only [heartbeatStart, hsok, hready, hwind, hcause, hforced, beq_self_eq_true, Bool.and_self, Bool.not_false, if_true]
    exact ⟨State.fv_setF_same _ _ _ (by decide), rfl⟩

end Sys2Proof.Machine

namespace Sys2Proof.Machine

/-! ### Whole registers as fields -/

theorem State.rn_eq_fv (s : State) (o : Nat) : s.rn o = s.fv ⟨o, 0, 32⟩ := by
  simp only [State.fv, bitsOf, pow_zero, Nat.div_one, State.rn_mod]

/-- The registers of the safety island that a cause does not touch. -/
theorem setCause_rn {o : Nat} (hlo : 0x8000c ≤ o) (hhi : o < rSAFE_EVENT) (s : State) (k : Nat) :
    (setCause s k).rn o = s.rn o := by
  rw [State.rn_eq_fv, State.rn_eq_fv s]
  exact setCause_fv (by grind) (.inl (by grind)) (by grind) s k

theorem setCause_inbox (s : State) (k : Nat) : (setCause s k).isl.inbox = s.isl.inbox := by rw [setCause_isl]

/-! ### Winding (R501 to R504) -/

theorem setWind_state {w : Nat} (hw : w < 8) (s : State) : windState (setWind s w) = w := by
  unfold windState setWind
  rw [State.fv_setPair_other (by decide), State.fv_setF_same _ _ _ (by decide)]
  exact Nat.mod_eq_of_lt hw

/-- Outside RUNNING the deadline reads 0. -/
theorem setWind_due {w : Nat} (hw : w ≠ 2) (s : State) : (setWind s w).pair rSAFE_WIND_DUE_LO rSAFE_WIND_DUE_HI = 0 := by
  unfold setWind
  rw [if_neg hw, State.pair_setPair_same (by decide), Nat.zero_mod]

theorem setWind_sok (s : State) (w : Nat) : sok (setWind s w) = sok s := by
  unfold sok setWind
  rw [State.fv_setPair_other (by decide), fv_setF_of_apart (by decide)]

theorem setWind_isl (s : State) (w : Nat) : (setWind s w).isl = s.isl := rfl

theorem State.report_pair (s : State) (c i k d lo hi : Nat) : (s.report c i k d).pair lo hi = s.pair lo hi := rfl

/-- A deadline that passes in RUNNING is a lapse. -/
theorem windDeadline_lapse {s : State} (hwind : windState s = 2) (hdue : s.isl.windAt + s.isl.windPeriod * 1000000 ≤ s.dial) :
    windDeadline s = (setCause (setWind s 3) 1).report 0x05 0 0x0005 1 := by
  simp only [windDeadline, hdue, hwind, decide_true, beq_self_eq_true, if_true]

/-! ### The event log's registers (R509) -/

/-- The registers of a record that LOG_INDEX has loaded. -/
def logShown (s : State) (bs : List Byte) : State :=
  (List.range 8).foldl (fun s k => s.setRn (rSAFE_LOG_DATA k) (leAt bs (4 * k) 4)) s

theorem logShown_data {k : Nat} (hk : k < 8) (s : State) (bs : List Byte) :
    (logShown s bs).rn (rSAFE_LOG_DATA k) = leAt bs (4 * k) 4 % 2 ^ 32 := by
  unfold logShown
  refine foldl_reaches (I := fun _ => True) (Q := fun u => u.rn (rSAFE_LOG_DATA k) = _) (List.mem_range.mpr hk) trivial
    (fun _ _ _ _ => trivial) (fun u _ => State.rn_setRn_same u _ _) fun u a _ ha hq => ?_
  rw [State.rn_setRn_other (by grind), hq]

theorem logShown_kept (s : State) (bs : List Byte) : RegsKept (fun o => o < rSAFE_LOG_DATA 0) s (logShown s bs) := by
  unfold logShown
  exact (RegsKept.refl _ s).foldl fun u k _ => .setRn (.refl _ u) _ (by grind)

/-- The newest record is the one that index 0 loads. -/
theorem logIndex_newest {s : State} {r : LogRec} {l : List LogRec} (hlog : s.isl.log = r :: l)
    (hheld : 0 < s.fv fSAFE_LOG_STATUS_HELD) : logIndex s 0#32 = logShown (s.setRn rSAFE_LOG_INDEX 0) (logBytes r) := by
  have hheld' : 0 < (s.setRn rSAFE_LOG_INDEX 0).fv fSAFE_LOG_STATUS_HELD := by
    rw [State.fv_setRn_other (by decide)]
    exact hheld
  have hlog' : (s.setRn rSAFE_LOG_INDEX 0).isl.log[0]? = some r := by
    rw [State.setRn_isl, hlog]
    rfl
  have hzero : bitsOf (0#32).toNat 0 16 = 0 := rfl
  unfold logIndex
  dsimp only
  rw [hzero, if_pos hheld', hlog']
  rfl

theorem logIndex_empty {s : State} (hheld : s.fv fSAFE_LOG_STATUS_HELD = 0) (v : Word) :
    logIndex s v = logShown (s.setRn rSAFE_LOG_INDEX (bitsOf v.toNat 0 16)) [] := by
  have hheld' : (s.setRn rSAFE_LOG_INDEX (bitsOf v.toNat 0 16)).fv fSAFE_LOG_STATUS_HELD = 0 := by
    rw [State.fv_setRn_other (by decide)]
    exact hheld
  unfold logIndex
  dsimp only
  rw [hheld', if_neg (Nat.not_lt_zero _)]
  rfl

theorem logBytes_words (r : LogRec) : leAt (logBytes r) 0 4 = r.seq % 2 ^ 32 ∧ leAt (logBytes r) 4 4 = r.code % 2 ^ 32 := by
  have hbytes : ∃ rest, logBytes r = leBytes 4 r.seq ++ (leBytes 4 r.code ++ rest) := by
    unfold logBytes
    exact ⟨_, by simp only [List.append_assoc]; rfl⟩
  obtain ⟨rest, hrest⟩ := hbytes
  have hseq := length_leBytes 4 r.seq
  have hcode := length_leBytes 4 r.code
  rw [hrest, leAt, leAt, List.drop_zero, List.take_left' hseq, List.drop_left' hseq, List.take_left' hcode, leNat_leBytes,
    leNat_leBytes]
  exact ⟨rfl, rfl⟩

/-! ### The commits of the event log (R507, R529) -/

theorem commitLog_log (s : State) : (commitLog s).isl.log = s.isl.log.map (fun r => { r with committed := true }) := by
  have hisl : ((s.isl.log.reverse.filter fun r => !r.committed).foldl commitRec s).isl = s.isl :=
    foldl_keeps State.isl (fun u r => (Keeps.of (keeps_commitRec u r)).isl rfl) s
  unfold commitLog
  dsimp only
  rw [hisl]

/-- Settles O12: releases, deadlines, the safety views and the log, each by its rule. -/
theorem safetyRegistersAndLog : Obligations.SafetyRegistersAndLog := by
  refine ⟨?release, ?refused, ?lapse, ?starting, ?display, ?rearm, ?views, ?viewsKept, ?displayCv, ?commit, ?index, ?empty⟩
  case release =>
    intro s v hhub hkey hcode hcause hwind hneeded
    refine ⟨_, congrArg Host.Outcome.next (hub_of_on hhub _), ?_⟩
    have hwind' : (s.fv fSAFE_STATUS_WIND_STATE) = 2 := hwind
    simp -implicitDefEqProofs (disch := decide) [release, hkey, hcode, hcause, hneeded, startSok, windState,
      logRec_fv, sok, State.fv_setF_same, fv_setF_of_apart, hwind']
  case refused =>
    intro s v hhub hbad
    refine ⟨_, congrArg Host.Outcome.next (hub_of_on hhub _), ?_⟩
    have hrefuse : release s v = logRec (s.ev fSAFE_EVENT_RELEASE_REFUSED) (faultCode 0x05 0 0x0004) 4 0 := by
      unfold release
      refine if_neg ?_
      simp only [Bool.and_eq_true, beq_iff_eq]
      grind
    dsimp only
    rw [hrefuse]
    refine ⟨?_, ?_, ?_⟩
    · rw [logRec_fv (by decide), fv_ev_set (by decide) (by decide)]
      rfl
    · rw [logRec_sok]
      exact fv_ev_of_apart (by decide) (by decide) s
    · rw [logRec_sokA, State.ev_isl]
  case lapse =>
    intro s hpow hrun hwind hdue
    refine ⟨_, congrArg Host.Outcome.next (isl_of_runs hpow hrun _), ?_⟩
    dsimp only
    rw [windDeadline_lapse hwind hdue]
    refine ⟨?_, ?_, ?_, ?_, ?_⟩
    · rw [windState, fv_report, setCause_fv (by decide) (.inr rfl) (by decide)]
      exact setWind_state (by decide) s
    · rw [fv_report, setCause_set (by decide)]
    · rw [sok, fv_report]
      exact setCause_not_running _ 1
    · rw [State.report_pair, State.pair, setCause_rn (by decide) (by decide), setCause_rn (by decide) (by decide)]
      exact setWind_due (by decide) s
    · exact congrArg (· ++ [(faultCode 0x05 0 0x0005, 1)]) (setCause_inbox _ 1)
  case starting =>
    intro s hpow hrun hwind hdue
    refine ⟨_, congrArg Host.Outcome.next (isl_of_runs hpow hrun _), ?_⟩
    simp [windDeadline, hdue, hwind]
  case display =>
    intro s st hpow hrun hst hlate hcause
    refine ⟨_, congrArg Host.Outcome.next (isl_of_runs hpow hrun _), ?_⟩
    dsimp only
    rw [Nat.mod_eq_of_lt hst, displayExpiry, if_pos hlate, hcause]
    refine ⟨?_, ?_, ?_⟩
    · exact setCause_set (by decide) s
    · exact setCause_not_running s 4
    · exact congrArg (· ++ [(faultCode 0x05 0 0x0006, 4)]) (setCause_inbox s 4)
  case rearm =>
    intro s hpow hrun hcool
    exact ⟨tempRearm s, by simp [Machine.exec, execTempWarnRearm, hpow, hrun], by simp [tempRearm, hcool], by simp [tempRearm, hcool]⟩
  case views =>
    intro s i v hhub hi hfree
    refine ⟨_, congrArg Host.Outcome.next (hub_of_on hhub _), ?_⟩
    have hi5 : i % 5 = i := Nat.mod_eq_of_lt (by omega)
    simp only [viewsWrite, hi5, hi, if_true, hfree, ne_eq, not_true_eq_false, if_false, Bool.false_eq_true]
    exact ⟨State.reg_setReg_same _ _ _, fun o ho => State.rn_setReg_other (by simpa using ho) s v⟩
  case viewsKept =>
    intro s i v hhub hi hheld
    refine ⟨_, congrArg Host.Outcome.next (hub_of_on hhub _), ?_⟩
    have hi5 : i % 5 = i := Nat.mod_eq_of_lt (by omega)
    simp only [viewsWrite, hi5, hi, if_true, hheld, ne_eq, not_false_eq_true, Bool.false_eq_true, if_false]
    exact ⟨BitVec.eq_of_toNat_eq (rn_ev_other (by grind) (by grind) s), fv_ev_set (by decide) (by decide) s⟩
  case displayCv =>
    intro s v hhub hfree
    refine ⟨_, congrArg Host.Outcome.next (hub_of_on hhub _), ?_⟩
    have hwrite : viewsWrite s true (4 % 5) v = s.setReg rSAFE_DISPLAY_CV (v &&& 0xF#32) := by
      simp [viewsWrite, hfree]
    dsimp only
    rw [hwrite]
    exact ⟨State.reg_setReg_same _ _ _, fun o ho => State.rn_setReg_other (by simpa using ho) s _⟩
  case commit =>
    intro s hpow hrun
    exact ⟨commitLog s, by simp [Machine.exec, execLogCommit, hpow, hrun], commitLog_log s, commitLog_regs s⟩
  case index =>
    intro s r l hhub hlog hheld
    refine ⟨_, congrArg Host.Outcome.next (hub_of_on hhub _), ?_⟩
    obtain ⟨hseq, hcode⟩ := logBytes_words r
    rw [logIndex_newest hlog hheld, logShown_data (by decide), logShown_data (by decide), hseq, hcode, Nat.mod_mod,
      Nat.mod_mod]
    exact ⟨rfl, rfl⟩
  case empty =>
    intro s v hhub hheld
    refine ⟨_, congrArg Host.Outcome.next (hub_of_on hhub _), ?_⟩
    dsimp only
    rw [logIndex_empty hheld]
    refine ⟨?_, fun k hk => ?_⟩
    · rw [(logShown_kept _ _).fv (by decide)]
      have hlt := bitsOf_lt v.toNat 0 16
      rw [State.fv, State.rn_setRn_same, bitsOf, pow_zero, Nat.div_one, Nat.mod_mod_of_dvd _ (by decide)]
      exact Nat.mod_eq_of_lt hlt
    · rw [logShown_data hk]
      simp [leAt, leNat]

end Sys2Proof.Machine

namespace Sys2Proof.Machine

/-! ### Requests for a state of a domain (R538) -/

/-- A request that is refused shows its result alone. -/
theorem domRequest_refused {s : State} {d req r : Nat} {go : Bool} (hjudge : domJudge s d req = (r, go)) (hr : r ≠ 0) (hr8 : r < 8) :
    let t := domRequest s d req
    t.fv (fPWR_DOM_STATE d) = s.fv (fPWR_DOM_STATE d) ∧ t.fv (fPWR_DOM_RESULT d) = r
      ∧ t.fv fPWR_EVENT_DOMAIN_REFUSED = 1 ∧ t.pow = s.pow := by
  simp only [domRequest, hjudge, ne_eq, hr, not_false_eq_true, if_true]
  refine ⟨?_, ?_, fv_ev_set (by decide) (by decide) _, (State.ev_pow _ _).trans (State.setF_pow _ _ _)⟩
  · rw [fv_ev_of_apart (by grind) (by grind), fv_setF_of_apart (by grind)]
  · rw [fv_ev_of_apart (by grind) (by grind), State.fv_setF_same _ _ _ (by grind)]
    exact Nat.mod_eq_of_lt hr8

/-- A request that is taken, of a domain whose state the lanes do not follow. -/
theorem domRequest_drains {s : State} {d req : Nat} (hjudge : domJudge s d req = (0, true)) (hreq : req ≠ 1) :
    domRequest s d req = if d = 12 then evalPorts (domDrain (s.setF (fPWR_DOM_RESULT d) 0) d req)
      else domDrain (s.setF (fPWR_DOM_RESULT d) 0) d req := by
  simp [domRequest, hjudge, hreq]

theorem domDrain_drains (s : State) (d target : Nat) :
    let t := domDrain s d target
    kget d t.pow.domTarget = some target ∧ kget d t.pow.drainAt = some s.now ∧ t.mem = s.mem
      ∧ t.fv (fPWR_DOM_STATE d) = 1 ∧ t.fv (fPWR_DOM_RESULT d) = s.fv (fPWR_DOM_RESULT d) := by
  simp (disch := grind) [domDrain, State.fv_setF_same]

theorem domJudge_go {s : State} {d req : Nat} (hd : 10 ≤ d) (hd18 : d < 18) (hd13 : d ≠ 13) (hreq : req = 2 → d = 10 ∨ d = 11)
    (hentry : s.pow.phase ≠ .standbyEntry) (hstate : s.fv (fPWR_DOM_STATE d) = 0 ∨ s.fv (fPWR_DOM_STATE d) = 3)
    (hnew : s.fv (fPWR_DOM_STATE d) ≠ if req = 1 then 0 else req) :
    domJudge s d req = if req ≠ 1 ∧ domInUse s d = true then (1, false) else (0, true) := by
  have hcan : ¬ ((decide (d < 10) || d == 13 || decide (18 ≤ d) || (req == 2 && !(d == 10 || d == 11))) = true) := by
    simp only [Bool.or_eq_true, Bool.and_eq_true, decide_eq_true_eq, beq_iff_eq, Bool.not_eq_true', Bool.or_eq_false_iff,
      beq_eq_false_iff_ne]
    grind
  simp only [domJudge, if_neg hcan]
  generalize s.fv (fPWR_DOM_STATE d) = x at hstate hnew
  have hquiet : ¬ ((decide (x = 1) || decide (x = 4) || s.pow.phase == .standbyEntry) = true) := by
    simp [hentry]
    omega
  rw [if_neg (by omega), if_neg hquiet, if_neg hnew]
  simp

/-! ### The end of a power-down (R540, R542) -/

/-- The domain has its new state, and its clock is not measured. -/
def domSwitched (s : State) (d x : Nat) : State :=
  let s := { s.setF (fPWR_DOM_STATE d) x with pow := { s.pow with
    clamped := kdel d s.pow.clamped, domTarget := kdel d s.pow.domTarget, drainAt := kdel d s.pow.drainAt } }
  match domClock d with
  | some i => s.setRn (rPWR_CLK_MEAS i) 0
  | none => s

/-- A stack that is switched off loses its contents. -/
def domStore (s : State) (d x : Nat) : State := if (d = 10 || d = 11) && x = 3 then memClear s (d - 10) else s

/-- The lanes stop with their domain, and PCIE follows PERST_N. -/
def domFollowers (s : State) (d : Nat) : State :=
  let s := if d = 12 then lanes8.foldl (fun s m => laneStop s m) s else s
  if d = 13 then pcieWake s else s

theorem domOff_eq {s : State} {d x : Nat} (hstate : s.fv (fPWR_DOM_STATE d) = 1) (hclamped : kget d s.pow.clamped = some true)
    (hgoal : kget d s.pow.domTarget = some x) :
    domOff s d = (domFollowers (domStore (domSwitched s d x) d x) d).ev fPWR_EVENT_DOMAIN_DONE := by
  simp only [domOff, hstate, hclamped, hgoal, Option.isSome_some, decide_true, Bool.and_self, if_true, Option.getD_some]
  rfl

theorem domFollowers_kept (s : State) (d : Nat) : (domFollowers s d).pow = s.pow ∧ (domFollowers s d).mem = s.mem := by
  have hlanes : ∀ u : State, (lanes8.foldl (fun s m => laneStop s m) u).pow = u.pow
      ∧ (lanes8.foldl (fun s m => laneStop s m) u).mem = u.mem := fun u =>
    ⟨foldl_keeps State.pow (fun v m => (Keeps.of (keeps_laneStop v m)).pow rfl) u,
      foldl_keeps State.mem (fun v m => (Keeps.of (keeps_laneStop v m)).mem rfl) u⟩
  have hwake : ∀ u : State, (pcieWake u).pow = u.pow ∧ (pcieWake u).mem = u.mem := fun u =>
    ⟨(Keeps.of (keeps_pcieWake u)).pow rfl, (Keeps.of (keeps_pcieWake u)).mem rfl⟩
  unfold domFollowers
  dsimp only
  split
  · rw [(hwake _).1, (hwake _).2]
    split
    · exact hlanes s
    · exact ⟨rfl, rfl⟩
  · split
    · exact hlanes s
    · exact ⟨rfl, rfl⟩

theorem domStore_pow (s : State) (d x : Nat) : (domStore s d x).pow = s.pow := by
  unfold domStore
  split <;> rfl

theorem domSwitched_kept (s : State) (d x : Nat) :
    kget d (domSwitched s d x).pow.clamped = none ∧ (domSwitched s d x).mem = s.mem := by
  unfold domSwitched
  dsimp only
  split <;> simp

theorem domSwitched_state {d x : Nat} (hd : d < 18) (hx : x < 8) (s : State) :
    (domSwitched s d x).fv (fPWR_DOM_STATE d) = x := by
  have hset : (s.setF (fPWR_DOM_STATE d) x).fv (fPWR_DOM_STATE d) = x :=
    (State.fv_setF_same _ _ _ (by grind)).trans (Nat.mod_eq_of_lt hx)
  unfold domSwitched
  dsimp only
  split <;> simp (disch := grind) only [State.fv_setRn_other, State.fv_mk, regsFv_regs, hset]

theorem domFollowers_none {d : Nat} (h12 : d ≠ 12) (h13 : d ≠ 13) (s : State) : domFollowers s d = s := by
  simp [domFollowers, h12, h13]

theorem domStore_fv (s : State) (d x : Nat) (f : Fld) : (domStore s d x).fv f = s.fv f := by
  unfold domStore
  split <;> rfl

/-- A stack that is switched off loses its half of memory, and nothing else does. -/
theorem domStore_off {d : Nat} (hd : d = 10 ∨ d = 11) (s : State) (a : Nat) :
    memByte (domStore s d 3) a = if a / 2 ^ 33 = d - 10 then 0 else memByte s a := by
  have hoff : (decide (d = 10) || decide (d = 11)) = true := by simpa using hd
  rw [domStore, hoff, if_pos (by simp), memByte_memClear]

theorem memByte_congr {s t : State} (h : t.mem = s.mem) (a : Nat) : memByte t a = memByte s a := by
  rw [memByte, memByte, h]

/-! ### Power-up (R538, R542) -/

theorem hoistResume_kept (s : State) (d : Nat) : RegsKept (fun o => o < 0x1100000) s (hoistResume s d) := by
  unfold hoistResume setHState
  exact (RegsKept.refl _ s).foldl fun u c _ => .setF (.refl _ u) _ (by grind)

/-- The domain is up; the lanes follow theirs. -/
def domUpped (s : State) (d : Nat) : State :=
  let s := s.setF (fPWR_DOM_STATE d) 0
  if d = 12 then evalPorts (lanes8.foldl (fun s m => if laneEn s m then laneStart s m else s) s) else s

theorem domUp_eq {s : State} {d : Nat} (h : s.fv (fPWR_DOM_STATE d) = 4) :
    domUp s d = (hoistResume (domUpped s d) d).ev fPWR_EVENT_DOMAIN_DONE := by
  simp only [domUp, h, if_true]
  rfl

theorem domUpped_mem (s : State) (d : Nat) : (domUpped s d).mem = s.mem := by
  unfold domUpped
  dsimp only
  split
  · rw [(Keeps.of (keeps_evalPorts _)).mem rfl, foldl_keeps State.mem fun u m => ?_, State.setF_mem]
    split
    · exact (Keeps.of (keeps_laneStart u m)).mem rfl
    · rfl
  · rfl

/-! ### Standby (R537) -/

/-- The heartbeat has stopped and the log is committed. -/
def standbySaved (s : State) : State := commitLog (logRec (stopSok s false) 0 0 0)

/-- Every domain but AON that is ON starts down. -/
def domainsLeave (s : State) : State :=
  (List.range 17).foldl (fun s d => if domOn s (d + 1) then s.setF (fPWR_DOM_STATE (d + 1)) 1 else s) s

/-- Every domain but AON whose rails are there is OFF. -/
def domainsGone (s : State) : State :=
  (List.range 17).foldl (fun s d =>
    if s.fv (fPWR_DOM_STATE (d + 1)) = 5 then s else s.setF (fPWR_DOM_STATE (d + 1)) 3) s

theorem standbyEnter_eq (s : State) : standbyEnter s =
    let u := ((domainsLeave (standbySaved s)).setRn rPCIE_LINK_STATUS 0).setF fPWR_STATE_STATE 1
    { u with pow := { u.pow with phase := .standbyEntry, hubOn := false }, pcie := { errMsgs := u.pcie.errMsgs } } := by
  unfold standbyEnter domainsLeave standbySaved
  rfl

theorem domainsLeave_kept (s : State) : RegsKept (fun o => 0x80000 ≤ o ∧ o < 0xd0000) s (domainsLeave s) := by
  unfold domainsLeave
  exact (RegsKept.refl _ s).foldl fun u d _ => .ite (fun _ => .setF (.refl _ u) _ (by grind)) fun _ => .refl _ u

theorem domainsLeave_parts (s : State) : (domainsLeave s).isl = s.isl ∧ (domainsLeave s).mem = s.mem :=
  ⟨foldl_keeps State.isl (fun u d => by split <;> rfl) s, foldl_keeps State.mem (fun u d => by split <;> rfl) s⟩

theorem standbySaved_log (s : State) : ∀ r ∈ (standbySaved s).isl.log, r.committed = true := by
  intro r hr
  rw [standbySaved, commitLog_log] at hr
  obtain ⟨x, -, rfl⟩ := List.mem_map.mp hr
  rfl

theorem standbySaved_mem (s : State) : (standbySaved s).mem = s.mem := by
  rw [standbySaved, (Keeps.of (keeps_commitLog _)).mem rfl, (Keeps.of (keeps_logRec _ _ _ _)).mem rfl,
    (Keeps.of (keeps_stopSok _ _)).mem rfl]

theorem standbySaved_not_running (s : State) : sok (standbySaved s) ≠ 1 := by
  have hsok : sok (standbySaved s) = sok (stopSok s false) := by
    rw [standbySaved, sok, State.fv, State.rn_eq_fv, (RegsKept.of_regs (P := fun _ => True) (commitLog_regs _)).fv trivial,
      ← State.rn_eq_fv, ← State.fv, ← sok, logRec_sok]
  rw [hsok, stopSok_sok]
  split <;> omega

/-- Each domain but AON is OFF or ABSENT in the end. -/
theorem domainsGone_states {d : Nat} (hd : d < 18) (h1 : 1 ≤ d) (s : State) :
    (domainsGone s).fv (fPWR_DOM_STATE d) = 3 ∨ (domainsGone s).fv (fPWR_DOM_STATE d) = 5 := by
  unfold domainsGone
  refine foldl_reaches (n := d - 1) (I := fun _ => True)
    (Q := fun u => u.fv (fPWR_DOM_STATE d) = 3 ∨ u.fv (fPWR_DOM_STATE d) = 5) (List.mem_range.mpr (by omega)) trivial
    (fun _ _ _ _ => trivial) (fun u _ => ?_) fun u a _ ha hq => ?_
  · rw [show d - 1 + 1 = d by omega]
    split
    · next h => exact .inr h
    · exact .inl (State.fv_setF_same _ _ _ (by grind))
  · split
    · exact hq
    · rw [fv_setF_of_apart (by grind)]
      exact hq

/-! ### Clock monitors (R543, R545, R546) -/

/-- What a window leaves behind, whatever it finds. -/
def clkMeasured (s : State) (i khz : Nat) (bad : Bool) : State :=
  let s := s.setF (fPWR_CLK_MEAS_KHZ i) (satTo (2 ^ 21 - 1) khz)
  { s with pow := { s.pow with clkBad := if bad then kput i true s.pow.clkBad else kdel i s.pow.clkBad } }

/-- A window within the limits. -/
theorem clkWindow_good {s : State} {i khz ringKhz : Nat} (hon : domOn s (clkDomain i) = true) (hi : i ≠ 2)
    (href : bitAt (s.fv fPWR_CLK_STATUS_FAIL) 2 = false) (hring : clkOff ringKhz (clkNominal i) 20 = false)
    (hclk : clkOff khz (clkNominal i) 2 = false) : clkWindow s i khz ringKhz = clkMeasured s i khz false := by
  have href' : s.on ⟨rPWR_CLK_STATUS, 2, 1⟩ = false := by rw [State.bitAt_fv (by decide)] at href; exact href
  simp only [clkWindow, hon, href', hring, hclk, beq_eq_false_iff_ne.mpr hi, Bool.not_true, Bool.false_eq_true, if_false,
    Bool.or_self, Bool.and_false, Bool.false_and]
  rfl

/-- The second bad window is a failure. -/
theorem clkWindow_fails {s : State} {i khz ringKhz : Nat} (hi : i < 16) (hon : domOn s (clkDomain i) = true)
    (hring : clkOff ringKhz (clkNominal i) 20 = true) (hwas : kget i s.pow.clkBad = some true)
    (hclk : bitAt (s.fv fPWR_CLK_STATUS_FAIL) i = false) :
    ∃ x, clkWindow s i khz ringKhz = (((clkMeasured s i x true).setF ⟨rPWR_CLK_STATUS, i, 1⟩ 1).ev
      fPWR_EVENT_CLOCK_FAIL).report 0x0A (clkCode i).2 (clkCode i).1 := by
  have hclk' : s.fv ⟨rPWR_CLK_STATUS, i, 1⟩ = 0 := by
    rw [State.bitAt_fv hi, State.on_eq, Nat.zero_add] at hclk
    simpa using hclk
  have hstill : ∀ x, (clkMeasured s i x true).on ⟨rPWR_CLK_STATUS, i, 1⟩ = false := fun x => by
    rw [State.on_eq, clkMeasured]
    simp (disch := grind) [fv_setF_of_apart, hclk']
  refine ⟨if s.on ⟨rPWR_CLK_STATUS, 2, 1⟩ || i == 2 then ringKhz else khz, ?_⟩
  simp only [clkMeasured, if_true] at hstill
  simp only [clkWindow, hon, hring, hwas, Bool.not_true, Bool.false_eq_true, if_false, Bool.true_or, Option.isSome_some,
    if_true, hstill, Bool.not_false, Bool.and_self]
  rfl

/-- Settles O13: a request is judged and starts its handshake, which ends with the domain in its state; standby saves the
log; a clock fails at its second bad window. -/
theorem domainsAndClocks : Obligations.DomainsAndClocks := by
  refine ⟨?up, ?never, ?refresh, ?noRefresh, ?off, ?inUse, ?drained, ?forced, ?done, ?powered, ?standby, ?standbyNo,
    ?reached, ?window, ?clockFail⟩
  case up =>
    intro s d hhub hentry hd hd18 hd13 hstate
    refine ⟨_, congrArg Host.Outcome.next (hub_of_on hhub _), ?_⟩
    have hjudge : domJudge s d 1 = (0, true) := by
      rw [domJudge_go hd hd18 hd13 (by simp) hentry (.inr hstate) (by simp [hstate])]
      simp
    rw [Nat.mod_eq_of_lt hd18]
    simp (disch := grind) [domRequest, hjudge, State.fv_setF_same]
  case never =>
    intro s d hhub hd
    refine ⟨_, congrArg Host.Outcome.next (hub_of_on hhub _), ?_⟩
    have hjudge : domJudge s d 3 = (4, false) := by
      rw [domJudge, if_pos]
      rcases hd with hd | hd <;> simp [hd]
    obtain ⟨hstate, hresult, hev, -⟩ := domRequest_refused hjudge (by decide) (by decide)
    rw [Nat.mod_eq_of_lt (by omega : d < 18)]
    exact ⟨hstate, hresult, hev⟩
  case refresh =>
    intro s d hhub hentry hd hstate hfree
    refine ⟨_, congrArg Host.Outcome.next (hub_of_on hhub _), ?_⟩
    have hjudge : domJudge s d 2 = (0, true) := by
      rw [domJudge_go (by omega) (by omega) (by omega) (fun _ => hd) hentry (.inl hstate) (by simp [hstate])]
      simp [hfree]
    obtain ⟨htarget, hat, hmem, hdrains, hresult⟩ := domDrain_drains (s.setF (fPWR_DOM_RESULT d) 0) d 2
    rw [Nat.mod_eq_of_lt (by omega : d < 18), domRequest_drains hjudge (by decide), if_neg (by omega : ¬ d = 12)]
    exact ⟨hdrains, hresult.trans (State.fv_setF_same _ _ _ (by grind)), htarget, hat, hmem⟩
  case noRefresh =>
    intro s d hhub hd hd18
    refine ⟨_, congrArg Host.Outcome.next (hub_of_on hhub _), ?_⟩
    have hjudge : domJudge s d 2 = (4, false) := by
      rw [domJudge, if_pos]
      have h10 : (d == 10 || d == 11) = false := by simp; omega
      simp [h10]
    obtain ⟨hstate, hresult, -, -⟩ := domRequest_refused hjudge (by decide) (by decide)
    rw [Nat.mod_eq_of_lt hd18]
    exact ⟨hresult, hstate⟩
  case off =>
    intro s d hhub hentry hd hd18 hd13 hstate hfree
    refine ⟨_, congrArg Host.Outcome.next (hub_of_on hhub _), ?_⟩
    have hjudge : domJudge s d 3 = (0, true) := by
      rw [domJudge_go hd hd18 hd13 (by simp) hentry (.inl hstate) (by simp [hstate])]
      simp [hfree]
    obtain ⟨htarget, hat, hmem, hdrains, hresult⟩ := domDrain_drains (s.setF (fPWR_DOM_RESULT d) 0) d 3
    rw [Nat.mod_eq_of_lt hd18, domRequest_drains hjudge (by decide)]
    by_cases h12 : d = 12
    · rw [if_pos h12]
      have hports := Keeps.of (keeps_evalPorts (domDrain (s.setF (fPWR_DOM_RESULT d) 0) d 3))
      refine ⟨?_, ?_, (hports.mem rfl).trans hmem, fun h => absurd h12 h⟩
      · rw [hports.pow rfl, htarget]
      · rw [hports.pow rfl, hat]
        rfl
    · rw [if_neg h12]
      exact ⟨htarget, hat, hmem, fun _ => ⟨hdrains, hresult.trans (State.fv_setF_same _ _ _ (by grind))⟩⟩
  case inUse =>
    intro s d hhub hentry hd hd18 hd13 hstate huse
    refine ⟨_, congrArg Host.Outcome.next (hub_of_on hhub _), ?_⟩
    have hjudge : domJudge s d 3 = (1, false) := by
      rw [domJudge_go hd hd18 hd13 (by simp) hentry (.inl hstate) (by simp [hstate])]
      simp [huse]
    obtain ⟨hstate', hresult, hev, hpow⟩ := domRequest_refused hjudge (by decide) (by decide)
    rw [Nat.mod_eq_of_lt hd18]
    exact ⟨hstate'.trans hstate, hresult, hev, hpow⟩
  case drained =>
    intro s d hhub hd hstate hclamped hidle
    refine ⟨_, congrArg Host.Outcome.next (hub_of_on hhub _), ?_⟩
    rw [Nat.mod_eq_of_lt hd]
    simp [domDrained, draining, hstate, hclamped, hidle, clamp]
  case forced =>
    intro s d a hhub hd hstate hclamped hidle hat hlate
    refine ⟨_, congrArg Host.Outcome.next (hub_of_on hhub _), ?_⟩
    have hacts : (draining s d && !domIdle s d && decide ((kget d s.pow.drainAt).getD 0 + 2000000 ≤ s.now)) = true := by
      simp [draining, hstate, hclamped, hidle, hat, hlate]
    rw [Nat.mod_eq_of_lt hd]
    simp only [domForced, hacts, if_true]
    generalize opsForced s d = u
    refine ⟨?_, ?_, fv_ev_set (by decide) (by decide) _, ?_⟩
    · rw [State.report_pow, State.ev_pow, State.setF_pow]
      simp [clamp]
    · rw [fv_report, fv_ev_of_apart (by grind) (by grind), State.fv_setF_same _ _ _ (by grind)]
      rfl
    · rw [State.report_isl]
      simp
  case done =>
    intro s d x hhub hd hstate hclamped hgoal hx
    refine ⟨_, congrArg Host.Outcome.next (hub_of_on hhub _), ?_⟩
    obtain ⟨hclear, hmem⟩ := domSwitched_kept s d x
    obtain ⟨hpow', hmem'⟩ := domFollowers_kept (domStore (domSwitched s d x) d x) d
    have hbyte : ∀ a, memByte ((domFollowers (domStore (domSwitched s d x) d x) d).ev fPWR_EVENT_DOMAIN_DONE) a
        = memByte (domStore (domSwitched s d x) d x) a := fun a => memByte_congr ((State.ev_mem _ _).trans hmem') a
    rw [Nat.mod_eq_of_lt hd, domOff_eq hstate hclamped hgoal]
    refine ⟨?_, fv_ev_set (by decide) (by decide) _, fun h12 h13 => ?_, fun h10 h3 a => ?_, fun h11 h3 a => ?_, fun h2 => ?_⟩
    · rw [State.ev_pow, hpow', domStore_pow, hclear]
    · rw [domFollowers_none h12 h13, fv_ev_of_apart (by grind) (by grind), domStore_fv, domSwitched_state hd (by omega)]
    · subst h10 h3
      rw [hbyte, domStore_off (.inl rfl), memByte_congr hmem]
      exact if_congr (by omega) rfl rfl
    · subst h11 h3
      rw [hbyte, domStore_off (.inr rfl), memByte_congr hmem]
    · rw [State.ev_mem, hmem', domStore, if_neg (by simp [h2]), hmem]
  case powered =>
    intro s d hhub hd hstate
    refine ⟨_, congrArg Host.Outcome.next (hub_of_on hhub _), ?_⟩
    rw [Nat.mod_eq_of_lt hd, domUp_eq hstate]
    refine ⟨fv_ev_set (by decide) (by decide) _, fun h12 => ?_, ?_⟩
    · rw [fv_ev_of_apart (by grind) (by grind), (hoistResume_kept _ d).fv (by grind), domUpped, if_neg h12,
        State.fv_setF_same _ _ _ (by grind), Nat.zero_mod]
    · rw [State.ev_mem, (Keeps.of (keeps_hoistResume _ d)).mem rfl, domUpped_mem]
  case standby =>
    intro s v hhub hphase hkey hcode hfree
    refine ⟨_, congrArg Host.Outcome.next (hub_of_on hhub _), ?_⟩
    obtain ⟨hisl, hmem⟩ := domainsLeave_parts (standbySaved s)
    simp only [standbyWrite, hkey, hcode, hphase, hfree, beq_self_eq_true, Bool.and_self, if_true, Bool.false_eq_true, if_false,
      standbyEnter_eq]
    refine ⟨trivial, trivial, ?_, ?_, ?_, ?_⟩
    · simp -implicitDefEqProofs (disch := decide) only [State.fv_mk, regsFv_regs, State.fv_setF_same]
      rfl
    · simp -implicitDefEqProofs (disch := decide) only [sok, State.fv_mk, regsFv_regs, fv_setF_of_apart, State.fv_setRn_other,
        (domainsLeave_kept _).fv]
      exact standbySaved_not_running s
    · intro r hr
      exact standbySaved_log s r (hisl ▸ hr)
    · exact hmem.trans (standbySaved_mem s)
  case standbyNo =>
    intro s v hhub hphase hkey hcode hbusy
    refine ⟨_, congrArg Host.Outcome.next (hub_of_on hhub _), ?_⟩
    simp only [standbyWrite, hkey, hcode, hphase, hbusy, beq_self_eq_true, Bool.and_self, if_true]
    exact ⟨State.ev_pow _ _, fv_ev_set (by decide) (by decide) _, State.ev_isl _ _⟩
  case reached =>
    intro s hpow hphase
    refine ⟨_, congrArg Host.Outcome.next (aon_of_powered hpow _), ?_⟩
    have hreach : standbyReached s = { (domainsGone s).setF fPWR_STATE_STATE 2 with
        mem := [], memPoison := [], pow := { (domainsGone s).pow with phase := .standby } } := by
      simp only [standbyReached, hphase, beq_self_eq_true, if_true]
      rfl
    rw [hreach]
    refine ⟨rfl, ?_, rfl, fun d hd h1 => ?_⟩
    · simp -implicitDefEqProofs (disch := decide) only [State.fv_mk, regsFv_regs, State.fv_setF_same]
      rfl
    · simp (disch := grind) only [State.fv_mk, regsFv_regs, fv_setF_of_apart]
      exact domainsGone_states hd h1 s
  case window =>
    intro s i khz ringKhz hpow hi hi2 hon hkhz href hring hclk
    refine ⟨_, congrArg Host.Outcome.next (aon_of_powered hpow _), ?_⟩
    rw [Nat.mod_eq_of_lt hi, clkWindow_good hon hi2 href hring hclk]
    refine ⟨?_, by simp [clkMeasured], fun o ho => ?_⟩
    · have hsat : satTo (2 ^ 21 - 1) khz = khz := by unfold satTo; split <;> omega
      simp (disch := grind) only [clkMeasured, State.fv_mk, regsFv_regs, State.fv_setF_same, hsat]
      exact Nat.mod_eq_of_lt hkhz
    · have ho' : o ≠ (fPWR_CLK_MEAS_KHZ i).off := by simpa using ho
      rw [clkMeasured, State.rn_mk, regsRn_regs, rn_setF_other ho']
  case clockFail =>
    intro s i khz ringKhz hpow hi hon hring hwas hclk
    refine ⟨_, congrArg Host.Outcome.next (aon_of_powered hpow _), ?_⟩
    obtain ⟨x, hx⟩ := clkWindow_fails (khz := khz) hi hon hring hwas hclk
    rw [Nat.mod_eq_of_lt hi, hx]
    refine ⟨?_, ?_, ?_⟩
    · rw [State.bitAt_fv hi, State.on_eq, fv_report, Nat.zero_add, fv_ev_of_apart (by grind) (by grind),
        State.fv_setF_same _ _ _ (by grind)]
      rfl
    · rw [fv_report, fv_ev_set (by decide) (by decide)]
      rfl
    · rw [State.report_isl, State.ev_isl, State.setF_isl]
      rfl

end Sys2Proof.Machine

namespace Sys2Proof.Machine

/-! ### Two-wire controllers: the state beside the registers -/

@[simp] theorem sccSt_setScc (s : State) (n : Nat) (x : Scc) : sccSt (setScc s n x) n = x := by
  simp [sccSt, setScc, kgetD]

theorem sccSt_congr {s t : State} (h : t.scc = s.scc) (n : Nat) : sccSt t n = sccSt s n := by rw [sccSt, sccSt, h]

@[simp] theorem sccSt_setF (s : State) (f : Fld) (v n : Nat) : sccSt (s.setF f v) n = sccSt s n := rfl

@[simp] theorem sccSt_bump (s : State) (f : Fld) (n : Nat) : sccSt (s.bump f) n = sccSt s n := rfl

@[simp] theorem sccSt_ev (s : State) (f : Fld) (n : Nat) : sccSt (s.ev f) n = sccSt s n := sccSt_congr (State.ev_scc s f) n

@[simp] theorem sccSt_report (s : State) (c i k d n : Nat) : sccSt (s.report c i k d) n = sccSt s n := rfl

@[simp] theorem sccSt_reportIf (s : State) (b : Bool) (c i k d n : Nat) : sccSt (s.reportIf b c i k d) n = sccSt s n := by
  cases b <;> rfl

@[simp] theorem setScc_fv (s : State) (n : Nat) (x : Scc) (f : Fld) : (setScc s n x).fv f = s.fv f := rfl

@[simp] theorem setScc_isl (s : State) (n : Nat) (x : Scc) : (setScc s n x).isl = s.isl := rfl

@[simp] theorem setScc_bridge (s : State) (n : Nat) (x : Scc) : (setScc s n x).bridge = s.bridge := rfl

@[simp] theorem setScc_mem (s : State) (n : Nat) (x : Scc) : (setScc s n x).mem = s.mem := rfl

theorem setScc_on (s : State) (n : Nat) (x : Scc) (f : Fld) : (setScc s n x).on f = s.on f := rfl

/-- From `s` to `t` controller `n` keeps its transaction, its last result and its NACK, EN and settings, and the bridge
keeps its accesses. -/
structure TxnKept (n : Nat) (s t : State) : Prop where
  cur : (sccSt t n).cur = (sccSt s n).cur
  bridge : t.bridge = s.bridge
  fields : ∀ f, f.off = rSCC_CTRL n ∨ f = fSCC_STATUS_LAST_RESULT n ∨ f = fSCC_EVENT_NACK n → t.fv f = s.fv f

namespace TxnKept

variable {n : Nat} {s t u : State}

theorem refl (n : Nat) (s : State) : TxnKept n s s := ⟨rfl, rfl, fun _ _ => rfl⟩

theorem trans (h : TxnKept n s t) (k : TxnKept n t u) : TxnKept n s u :=
  ⟨k.cur.trans h.cur, k.bridge.trans h.bridge, fun f hf => (k.fields f hf).trans (h.fields f hf)⟩

/-- A field outside those, of another register or of the bits 7:0 of STATUS. -/
theorem setF (h : TxnKept n s t) {f : Fld} (v : Nat) (hctrl : f.off ≠ rSCC_CTRL n) (hev : f.off ≠ rSCC_EVENT n)
    (hstat : f.off = rSCC_STATUS n → f.lsb + f.width ≤ 8) : TxnKept n s (t.setF f v) := by
  refine ⟨h.cur, h.bridge, fun g hg => (fv_setF_of_apart ?_ t v).trans (h.fields g hg)⟩
  grind

theorem bump (h : TxnKept n s t) {f : Fld} (hctrl : f.off ≠ rSCC_CTRL n) (hev : f.off ≠ rSCC_EVENT n)
    (hstat : f.off = rSCC_STATUS n → f.lsb + f.width ≤ 8) : TxnKept n s (t.bump f) := h.setF _ hctrl hev hstat

theorem ev (h : TxnKept n s t) {f : Fld} (hoff : f.off = rSCC_EVENT n) (hlsb : 1 ≤ f.lsb) (hw : f.lsb + f.width ≤ 32) :
    TxnKept n s (t.ev f) := by
  refine ⟨?_, (State.ev_bridge t f).trans h.bridge, fun g hg => ?_⟩
  · rw [sccSt_ev, h.cur]
  · rw [fv_ev_of_apart (by grind) (by grind), h.fields g hg]

theorem report (h : TxnKept n s t) (c i k d : Nat) : TxnKept n s (t.report c i k d) := ⟨h.cur, h.bridge, h.fields⟩

theorem reportIf (h : TxnKept n s t) (b : Bool) (c i k d : Nat) : TxnKept n s (t.reportIf b c i k d) := by
  cases b
  · exact h
  · exact h.report c i k d

theorem setScc (h : TxnKept n s t) {x : Scc} (hx : x.cur = (sccSt t n).cur) : TxnKept n s (setScc t n x) :=
  ⟨by rw [sccSt_setScc, hx, h.cur], h.bridge, h.fields⟩

theorem setLock (h : TxnKept n s t) (v : Nat) : TxnKept n s (t.setRn (rSCC_LOCK n) v) :=
  ⟨h.cur, h.bridge, fun g hg => (State.fv_setRn_other (by grind) t v).trans (h.fields g hg)⟩

theorem ite {c : Prop} [Decidable c] {a b : State} (ha : c → TxnKept n s a) (hb : ¬ c → TxnKept n s b) :
    TxnKept n s (if c then a else b) := by
  split
  next hc => exact ha hc
  next hc => exact hb hc

theorem sccRest (h : TxnKept n s t) : TxnKept n s (sccRest t n) := by
  unfold Machine.sccRest
  exact .ite (fun _ => (h.setF _ (by grind) (by grind) (by grind)).setF _ (by grind) (by grind) (by grind)) fun _ => h

theorem grantLock (h : TxnKept n s t) : TxnKept n s (grantLock t n) := by
  unfold Machine.grantLock
  exact .ite (fun _ => sccRest (setF (setScc h (by rfl)) _ (by grind) (by grind) (by grind))) fun _ => h

theorem loseLock (h : TxnKept n s t) (broken : Bool) : TxnKept n s (loseLock t n broken) := by
  have hlost : TxnKept n s (((Machine.setScc t n { sccSt t n with ending := 0 }).setF (fSCC_LOCK_HELD n) 0).bump
      (fSCC_CNT_COUNT n 6)) :=
    bump (setF (setScc h (by rfl)) _ (by grind) (by grind) (by grind)) (by grind) (by grind) (by grind)
  unfold Machine.loseLock
  exact sccRest (.ite (fun _ => ev (setF hlost _ (by grind) (by grind) (by grind)) rfl (by simp) (by simp))
    fun _ => ev (setF hlost _ (by grind) (by grind) (by grind)) rfl (by simp) (by simp))

theorem endLock (h : TxnKept n s t) : TxnKept n s (endLock t n) := by
  unfold Machine.endLock
  exact sccRest (setLock (setScc h (by rfl)) 0)

/-- A bus check finds a line stuck. -/
theorem busStuck (h : TxnKept n s t) {c : BusCheck} (hc : c ≠ .free) (again : Bool) :
    TxnKept n s (busCheck t n c again) := by
  have hlines : ∀ a b, TxnKept n s ((t.setF (fSCC_STATUS_SCL n) a).setF (fSCC_STATUS_SDA n) b) := fun a b =>
    setF (setF h _ (by grind) (by grind) (by grind)) _ (by grind) (by grind) (by grind)
  unfold Machine.busCheck
  split
  · exact absurd rfl hc
  · dsimp only
    refine .ite (fun _ => report (.ite (fun _ => ?_) fun _ => setF ?_ _ (by grind) (by grind) (by grind)) _ _ _ _)
      fun _ => setF (setScc (setF (bump (.ite (fun _ => ?_) fun _ => ?_) ?_ ?_ ?_) _ ?_ ?_ ?_) (by rfl)) _ ?_ ?_ ?_
    · exact ev (setF (setScc (hlines _ _) (by rfl)) _ (by grind) (by grind) (by grind)) rfl (by simp) (by simp)
    · exact ev (setF (setScc (hlines _ _) (by rfl)) _ (by grind) (by grind) (by grind)) rfl (by simp) (by simp)
    · exact ev (hlines _ _) rfl (by simp) (by simp)
    · exact ev (hlines _ _) rfl (by simp) (by simp)
    all_goals grind

theorem busCheck (h : TxnKept n s t) (c : BusCheck) (again : Bool) : TxnKept n s (busCheck t n c again) := by
  by_cases hc : c = .free
  · subst hc
    unfold Machine.busCheck
    exact grantLock (reportIf (setF (setScc (setF (setF h _ (by grind) (by grind) (by grind)) _ (by grind) (by grind)
      (by grind)) (by rfl)) _ (by grind) (by grind) (by grind)) _ _ _ _ _)
  · exact busStuck h hc again

theorem startCheck (h : TxnKept n s t) (c : BusCheck) : TxnKept n s (startCheck t n c) := by
  unfold Machine.startCheck
  exact busCheck (setF (setScc h (by rfl)) _ (by grind) (by grind) (by grind)) c false

end TxnKept

/-! ### Bus checks (R129) -/

/-- Both lines are high and no lock waits: the controller is IDLE. -/
theorem busCheck_free {s : State} {n : Nat} (hask : (sccSt s n).asked = false) (again : Bool) :
    let t := busCheck s n .free again
    sccState t n = 2 ∧ (sccSt t n).waiting = false
      ∧ t.isl.inbox = s.isl.inbox ++ (if again then [(faultCode 0x0E n 0x0005, 0)] else []) := by
  unfold busCheck
  dsimp only
  generalize hidle : ((setScc ((s.setF (fSCC_STATUS_SCL n) 1).setF (fSCC_STATUS_SDA n) 1) n
    { sccSt ((s.setF (fSCC_STATUS_SCL n) 1).setF (fSCC_STATUS_SDA n) 1) n with waiting := false }).setF
    (fSCC_STATUS_STATE n) 2).reportIf again 0x0E n 0x0005 = u
  have hscc : sccSt u n = { sccSt s n with waiting := false } := by rw [← hidle]; simp
  have hstay : grantLock u n = u := by simp [grantLock, hscc, hask]
  rw [hstay, hscc]
  refine ⟨?_, rfl, ?_⟩
  · rw [sccState, ← hidle, fv_reportIf, State.fv_setF_same _ _ _ (by grind)]
    rfl
  · rw [← hidle]
    cases again
    · exact (List.append_nil _).symm
    · rfl

/-- A line is stuck at the first check: a recovery starts. -/
theorem busCheck_first {s : State} {n : Nat} {c : BusCheck} (hc : c ≠ .free) :
    let t := busCheck s n c false
    sccState t n = 1 ∧ (sccSt t n).waiting = true
      ∧ t.fv (if c = .stuckSda then fSCC_EVENT_STUCK_SDA n else fSCC_EVENT_STUCK_SCL n) = 1
      ∧ t.fv (fSPORT_XRST_PULSE_BUSY n) = 1 := by
  cases c
  · exact absurd rfl hc
  all_goals
    simp (disch := grind) [busCheck, xrstPulse, sccState, State.fv_setF_same, fv_setF_of_apart, fv_bump_of_apart]

/-- A line is stuck at the repeat: the controller is in FAULT. -/
theorem busCheck_fault {s : State} {n : Nat} {c : BusCheck} (hc : c = .stuckScl) :
    let t := busCheck s n c true
    sccState t n = 5 ∧ (sccSt t n).waiting = false ∧ t.fv (fSCC_EVENT_FAULT n) = 1
      ∧ t.isl.inbox = s.isl.inbox ++ [(faultCode 0x0E n 0x0007, 0)] := by
  subst hc
  simp only [busCheck, if_true, beq_eq_false_iff_ne.mpr (show BusCheck.stuckScl ≠ .stuckSda by decide), Bool.false_eq_true, if_false]
  generalize hfault : ((setScc ((s.setF (fSCC_STATUS_SCL n) (b2n false)).setF (fSCC_STATUS_SDA n) (b2n (!false))) n _).setF
    (fSCC_STATUS_STATE n) 5).ev (fSCC_EVENT_FAULT n) = u
  have hstate : sccState u n = 5 := by
    rw [sccState, ← hfault, fv_ev_of_apart (by grind) (by grind), State.fv_setF_same _ _ _ (by grind)]
    rfl
  have hwait : (sccSt u n).waiting = false := by rw [← hfault]; simp
  have hev : u.fv (fSCC_EVENT_FAULT n) = 1 := by
    rw [← hfault, fv_ev_set (by grind) (by grind)]
    rfl
  have hinbox : u.isl.inbox = s.isl.inbox := by rw [← hfault, State.ev_isl]; rfl
  rw [sccState, fv_report, fv_report, sccSt_report, State.report_isl]
  split
  · exact ⟨hstate, hwait, hev, by rw [hinbox]⟩
  · refine ⟨?_, hwait, ?_, ?_⟩
    · rw [fv_setF_of_apart (by grind)]
      exact hstate
    · rw [fv_setF_of_apart (by grind), hev]
    · rw [State.setF_isl, hinbox]

/-! ### Transactions (R119, R120) -/

/-- What a transaction that ends leaves at once: no transaction, and its result. -/
def txnRecorded (s : State) (n r : Nat) : State :=
  sccRest ((sccResult (setScc s n { sccSt s n with cur := none, restarts := 0, again := false }) n r).setF
    (fSCC_STATUS_BUS_BUSY n) 0) n

/-- The lock after a result. -/
def lockAfter (s : State) (n r ending : Nat) : State :=
  if s.on (fSCC_LOCK_HELD n) then
    if r = 4 || r = 5 || r = 9 then loseLock s n true
    else if ending = 1 then endLock s n
    else if ending = 2 then loseLock s n false
    else s
  else s

/-- A recovery that waited for the end of the transaction. -/
def recoverAfter (s : State) (n : Nat) (c : Option BusCheck) : State :=
  match c with
  | some c => if 2 ≤ sccState s n && sccState s n ≤ 4 then startCheck s n c else s
  | none => s

theorem endTxn_eq {s : State} {n : Nat} {x : SccTxn} (hcur : (sccSt s n).cur = some x) (r : Nat) (sent : Bool) (b : Byte) :
    endTxn s n r sent b = grantLock (recoverAfter (returnResult (lockAfter (txnRecorded s n r) n r (sccSt s n).ending)
      n x.who r sent b) n (sccSt s n).recover) n := by
  unfold endTxn
  rw [hcur]
  rfl

theorem endTxn_none {s : State} {n : Nat} (hcur : (sccSt s n).cur = none) (r : Nat) (sent : Bool) (b : Byte) :
    endTxn s n r sent b = s := by
  unfold endTxn
  rw [hcur]

theorem lockAfter_kept {n : Nat} {s t : State} (h : TxnKept n s t) (r ending : Nat) : TxnKept n s (lockAfter t n r ending) :=
  .ite (fun _ => .ite (fun _ => h.loseLock true) fun _ => .ite (fun _ => h.endLock) fun _ => .ite (fun _ => h.loseLock false)
    fun _ => h) fun _ => h

theorem recoverAfter_kept {n : Nat} {s t : State} (h : TxnKept n s t) (c : Option BusCheck) :
    TxnKept n s (recoverAfter t n c) := by
  cases c with
  | none => exact h
  | some c => exact .ite (fun _ => h.startCheck c) fun _ => h

/-- The results OK and NACK of the address. -/
theorem sccResult_first {s : State} {n r : Nat} (hr : r < 2) :
    let t := sccResult s n r
    sccSt t n = sccSt s n ∧ t.bridge = s.bridge ∧ t.fv (fSCC_STATUS_LAST_RESULT n) = r
      ∧ (r = 1 → t.fv (fSCC_EVENT_NACK n) = 1) := by
  have hset : (s.setF (fSCC_STATUS_LAST_RESULT n) r).fv (fSCC_STATUS_LAST_RESULT n) = r :=
    (State.fv_setF_same _ _ _ (by grind)).trans (Nat.mod_eq_of_lt (hr.trans (by simp)))
  have hcase : r = 0 ∨ r = 1 := by omega
  rcases hcase with rfl | rfl
  · simp only [sccResult, if_true]
    exact ⟨by rw [sccSt_bump, sccSt_setF], by rw [State.bump_bridge, State.setF_bridge],
      (fv_bump_of_apart (by grind) _).trans hset, by simp⟩
  · simp only [sccResult, one_ne_zero, if_false, decide_true, Bool.true_or, if_true]
    refine ⟨?_, ?_, ?_, fun _ => fv_ev_set (by grind) (by grind) _⟩
    · rw [sccSt_ev, sccSt_bump, sccSt_setF]
    · rw [State.ev_bridge, State.bump_bridge, State.setF_bridge]
    · rw [fv_ev_of_apart (by grind) (by grind), fv_bump_of_apart (by grind), hset]

/-- A byte of a read by ticket takes its place in the access. -/
theorem byteEnded_read {s : State} {id : Nat} {a : BridgeAcc} (hacc : kget id s.bridge.accs = some a) (hkind : a.kind = 2)
    (hlost : a.lost = false) (r : Nat) (b : Byte) :
    byteEnded s id r b = setAcc (setQueue s a.port (queueOf s a.port).tail) id
      { a with got := a.got ++ [b], fail := if a.fail = 0 then r else a.fail } := by
  simp [byteEnded, hacc, hkind, hlost]

theorem setAcc_fv (s : State) (id : Nat) (a : BridgeAcc) (f : Fld) : (setAcc s id a).fv f = s.fv f := rfl

theorem setQueue_fv {f : Fld} {m : Nat} (h : f.off ≠ rBRIDGE_PORT m) (s : State) (q : List (Nat × Nat)) :
    (setQueue s m q).fv f = s.fv f := by
  unfold setQueue
  rw [fv_setF_of_apart (.inl h), State.fv_mk, regsFv_regs]

theorem byteEnded_read_kept {s : State} {id : Nat} {a : BridgeAcc} (hacc : kget id s.bridge.accs = some a)
    (hkind : a.kind = 2) (hlost : a.lost = false) (r n : Nat) (b : Byte) (hn : n < 32) :
    let t := byteEnded s id r b
    (sccSt t n).cur = (sccSt s n).cur
      ∧ kget id t.bridge.accs = some { a with got := a.got ++ [b], fail := if a.fail = 0 then r else a.fail }
      ∧ t.fv (fSCC_STATUS_LAST_RESULT n) = s.fv (fSCC_STATUS_LAST_RESULT n)
      ∧ t.fv (fSCC_EVENT_NACK n) = s.fv (fSCC_EVENT_NACK n) := by
  rw [byteEnded_read hacc hkind hlost]
  refine ⟨rfl, by simp [setAcc], ?_, ?_⟩
  · rw [setAcc_fv, setQueue_fv (by grind)]
  · rw [setAcc_fv, setQueue_fv (by grind)]

/-- A read by ticket over the bridge gets the result of its byte. -/
theorem endTxn_read {s : State} {n id i r : Nat} {x : SccTxn} {a : BridgeAcc} (hn : n < 32) (hcur : (sccSt s n).cur = some x)
    (hwho : x.who = .bridge id i) (hacc : kget id s.bridge.accs = some a) (hkind : a.kind = 2) (hlost : a.lost = false)
    (hr : r < 2) (sent : Bool) (b : Byte) :
    let t := endTxn s n r sent b
    (sccSt t n).cur = none ∧ t.fv (fSCC_STATUS_LAST_RESULT n) = r ∧ (r = 1 → t.fv (fSCC_EVENT_NACK n) = 1)
      ∧ kget id t.bridge.accs = some { a with got := a.got ++ [b], fail := if a.fail = 0 then r else a.fail } := by
  have hrec : (sccSt (txnRecorded s n r) n).cur = none ∧ (txnRecorded s n r).bridge = s.bridge
      ∧ (txnRecorded s n r).fv (fSCC_STATUS_LAST_RESULT n) = r
      ∧ (r = 1 → (txnRecorded s n r).fv (fSCC_EVENT_NACK n) = 1) := by
    have hrest := fun v : State => ((TxnKept.refl n v).setF (f := fSCC_STATUS_BUS_BUSY n) 0 (by grind) (by grind)
      (by grind)).sccRest
    obtain ⟨hscc, hbridge', hlast, hnack⟩ := sccResult_first
      (s := setScc s n { sccSt s n with cur := none, restarts := 0, again := false }) (n := n) hr
    rw [txnRecorded, (hrest _).cur, (hrest _).bridge, (hrest _).fields _ (by simp), (hrest _).fields _ (by simp), hscc,
      hbridge', sccSt_setScc]
    exact ⟨rfl, rfl, hlast, hnack⟩
  obtain ⟨hnone, hbridge, hresult, hnack⟩ := hrec
  rw [endTxn_eq hcur, hwho]
  have hlock := lockAfter_kept (TxnKept.refl n (txnRecorded s n r)) r (sccSt s n).ending
  generalize lockAfter (txnRecorded s n r) n r (sccSt s n).ending = u at hlock
  have hacc' : kget id u.bridge.accs = some a := by rw [hlock.bridge, hbridge, hacc]
  obtain ⟨hcur', hgot, hlast, hnack'⟩ := byteEnded_read_kept hacc' hkind hlost r n b hn
  have htail := (recoverAfter_kept (TxnKept.refl n (byteEnded u id r b)) (sccSt s n).recover).grantLock
  simp only [returnResult]
  refine ⟨?_, ?_, fun h1 => ?_, ?_⟩
  · rw [htail.cur, hcur', hlock.cur, hnone]
  · rw [htail.fields _ (by simp), hlast, hlock.fields _ (by simp), hresult]
  · rw [htail.fields _ (by simp), hnack', hlock.fields _ (by simp), hnack h1]
  · rw [htail.bridge, hgot]

/-! ### Writes of CTRL (R126, R129, R132) -/

/-- A write that enables a controller whose group is up. -/
theorem sccCtrl_enables {s : State} {n : Nat} {v : Word} (hthere : s.on (fSCC_STATUS_ABSENT n) = false)
    (hoff : s.on (fSCC_CTRL_EN n) = false) (hdom : domOn s (14 + n / 8) = true) (hspeed : bitsOf (v ||| 1#32).toNat 1 2 ≠ 3)
    (begun : Bool) (c : BusCheck) :
    sccCtrl s n (v ||| 1#32) begun c = startCheck (((s.setF (fSCC_CTRL_SPEED n) (bitsOf (v ||| 1#32).toNat 1 2)).setF
      (fSCC_CTRL_ARB_RETRY n) (bitsOf (v ||| 1#32).toNat 5 4)).setF (fSCC_CTRL_EN n) 1) n c := by
  have hen : bitAt (v ||| 1#32).toNat 0 = true := by
    rw [BitVec.toNat_or, bitAt_or]
    simp [bitAt]
  simp only [sccCtrl, hthere, hoff, hdom, hen, if_neg hspeed, Bool.false_eq_true, if_false, Bool.not_true, Bool.and_false,
    if_true]

/-- The settings that such a write leaves. -/
theorem sccEnabled_fields (s : State) (n a b : Nat) (ha : a < 4) (hb : b < 16) (c : BusCheck) :
    let t := startCheck (((s.setF (fSCC_CTRL_SPEED n) a).setF (fSCC_CTRL_ARB_RETRY n) b).setF (fSCC_CTRL_EN n) 1) n c
    t.fv (fSCC_CTRL_EN n) = 1 ∧ t.fv (fSCC_CTRL_SPEED n) = a ∧ t.fv (fSCC_CTRL_ARB_RETRY n) = b := by
  have hkept := TxnKept.startCheck (.refl n (((s.setF (fSCC_CTRL_SPEED n) a).setF (fSCC_CTRL_ARB_RETRY n) b).setF
    (fSCC_CTRL_EN n) 1)) c
  dsimp only
  rw [hkept.fields _ (.inl rfl), hkept.fields _ (.inl rfl), hkept.fields _ (.inl rfl)]
  refine ⟨State.fv_setF_same _ _ _ (by grind), ?_, ?_⟩
  · simp (disch := grind) only [fv_setF_of_apart, State.fv_setF_same]
    exact Nat.mod_eq_of_lt ha
  · simp (disch := grind) only [fv_setF_of_apart, State.fv_setF_same]
    exact Nat.mod_eq_of_lt hb

/-- A word that changes no setting of an enabled controller. -/
structure SameSettings (s : State) (n : Nat) (v : Word) : Prop where
  absent : s.on (fSCC_STATUS_ABSENT n) = false
  enabled : s.on (fSCC_CTRL_EN n) = true
  known : bitsOf v.toNat 1 2 ≠ 3
  speed : bitsOf v.toNat 1 2 = s.fv (fSCC_CTRL_SPEED n)
  retry : bitsOf v.toNat 5 4 = s.fv (fSCC_CTRL_ARB_RETRY n)

/-- EN 0 ends what the controller does. -/
def sccStopped (s : State) (n : Nat) : State :=
  let s := setScc s n { sccSt s n with waiting := false, asked := false }
  let s := (s.setF (fSCC_CTRL_EN n) 0).setF (fSCC_STATUS_STATE n) 0
  if s.on (fSCC_LOCK_BROKEN n) then s else s.setF (fSCC_LOCK_ACTIVE n) 0

theorem sccStopped_off (s : State) (n : Nat) :
    let t := sccStopped s n
    t.fv (fSCC_CTRL_EN n) = 0 ∧ sccState t n = 0 ∧ (sccSt t n).cur = (sccSt s n).cur ∧ (sccSt t n).asked = false := by
  unfold sccStopped
  dsimp only
  split <;> simp (disch := grind) [sccState, State.fv_setF_same, fv_setF_of_apart]

section
variable {s : State} {n : Nat} {v : Word}

/-- A write of the settings in force to an enabled controller goes on to its commands. -/
theorem sccCtrl_same (h : SameSettings s n v) (begun : Bool) (c : BusCheck) :
    sccCtrl s n v begun c =
      if !bitAt v.toNat 0 then sccStopped (sccAbort s n begun) n
      else if bitAt v.toNat 3 then startCheck (sccAbort s n begun) n c
      else if bitAt v.toNat 4 then
        if (sccSt s n).cur.isSome then setScc s n { sccSt s n with recover := some c }
        else if sccState s n = 1 then s else startCheck s n c
      else s := by
  obtain ⟨habsent, hen, hknown, hspeed, hretry⟩ := h
  rw [hspeed] at hknown
  simp only [sccCtrl, habsent, hen, hspeed, hretry, if_neg hknown, ne_eq, not_true_eq_false, decide_false, Bool.or_self,
    Bool.false_eq_true, if_false, if_true, ite_self]
  rfl

end

/-- An abort with no transaction and no lock. -/
theorem sccAbort_idle {s : State} {n : Nat} (hcur : (sccSt s n).cur = none) (hheld : s.on (fSCC_LOCK_HELD n) = false)
    (begun : Bool) : sccAbort s n begun = setScc s n { sccSt s n with recover := none } := by
  unfold sccAbort
  dsimp only
  rw [endTxn_none (by rw [sccSt_setScc, hcur])]
  rw [setScc_on, hheld]
  rfl

theorem startCheck_free {s : State} {n : Nat} (hask : (sccSt s n).asked = false) :
    let t := startCheck s n .free
    sccState t n = 2 ∧ (sccSt t n).waiting = false := by
  have hask' : (sccSt ((setScc s n { sccSt s n with waiting := false, recover := none }).setF (fSCC_STATUS_STATE n) 1) n).asked
      = false := by rw [sccSt_setF, sccSt_setScc, hask]
  obtain ⟨hstate, hwait, -⟩ := busCheck_free hask' false
  exact ⟨hstate, hwait⟩

/-- A transaction begins on a controller that runs. -/
theorem beginTxn_busy {s : State} {n : Nat} (hstate : sccState s n = 2) (x : SccTxn) :
    let t := beginTxn s n x
    (sccSt t n).cur = some x ∧ (sccSt t n).restarts = 0 ∧ sccState t n = 3 ∧ t.mem = s.mem := by
  have hstate' : sccState (setScc s n { sccSt s n with cur := some x, restarts := 0, again := false }) n = 2 := hstate
  simp only [beginTxn, sccRest, hstate', sccSt_setScc]
  simp (disch := grind) [sccState, State.fv_setF_same]

theorem byteBegins_kept (s : State) (id : Nat) :
    (byteBegins s id).regs = s.regs ∧ (byteBegins s id).scc = s.scc ∧ (byteBegins s id).mem = s.mem := by
  unfold byteBegins
  split
  · split <;> exact ⟨rfl, rfl, rfl⟩
  · exact ⟨rfl, rfl, rfl⟩

/-- Settles O16: the bus checks, the writes of CTRL and the transactions of a controller, each by its rule. -/
theorem busControllers : Obligations.BusControllers := by
  refine ⟨?enable, ?stuck, ?groupOff, ?disable, ?reset, ?recover, ?waitFree, ?waitStuck, ?start, ?burst, ?ended, ?nack⟩
  case enable =>
    intro s n v hhub hn hthere hoff hdom hspeed hask
    refine ⟨_, congrArg Host.Outcome.next (hub_of_on hhub _), ?_⟩
    rw [Nat.mod_eq_of_lt hn, sccCtrl_enables hthere hoff hdom hspeed]
    obtain ⟨hen, hsp, hretry⟩ := sccEnabled_fields s n _ _ (bitsOf_lt (v ||| 1#32).toNat 1 2)
      (bitsOf_lt (v ||| 1#32).toNat 5 4) .free
    obtain ⟨hstate, hwait⟩ := startCheck_free (s := ((s.setF (fSCC_CTRL_SPEED n) (bitsOf (v ||| 1#32).toNat 1 2)).setF
      (fSCC_CTRL_ARB_RETRY n) (bitsOf (v ||| 1#32).toNat 5 4)).setF (fSCC_CTRL_EN n) 1) (n := n) hask
    exact ⟨hen, hstate, hsp, hretry, hwait⟩
  case stuck =>
    intro s n v hhub hn hthere hoff hdom hspeed
    refine ⟨_, congrArg Host.Outcome.next (hub_of_on hhub _), ?_⟩
    rw [Nat.mod_eq_of_lt hn, sccCtrl_enables hthere hoff hdom hspeed]
    obtain ⟨hen, -, -⟩ := sccEnabled_fields s n _ _ (bitsOf_lt (v ||| 1#32).toNat 1 2)
      (bitsOf_lt (v ||| 1#32).toNat 5 4) .stuckSda
    exact ⟨hen, busCheck_first (by decide)⟩
  case groupOff =>
    intro s n v hhub hn hthere hoff hdom hspeed
    refine ⟨_, congrArg Host.Outcome.next (hub_of_on hhub _), ?_⟩
    have hen : bitAt (v ||| 1#32).toNat 0 = true := by
      rw [BitVec.toNat_or, bitAt_or]
      simp [bitAt]
    rw [Nat.mod_eq_of_lt hn]
    simp only [sccCtrl, hthere, hoff, hdom, hen, if_neg hspeed, Bool.false_eq_true, if_false, Bool.not_false, Bool.and_self,
      if_true]
    refine ⟨?_, fv_ev_set (by grind) (by grind) _⟩
    rw [fv_ev_of_apart (by grind) (by grind)]
    simpa [State.on] using hoff
  case disable =>
    intro s n v b hhub hn hthere hon hspeed hsp hretry hcur hheld
    refine ⟨_, congrArg Host.Outcome.next (hub_of_on hhub _), ?_⟩
    have hen : bitAt (v &&& 0xFFFFFFFE#32).toNat 0 = false := by
      rw [BitVec.toNat_and, bitAt_and]
      simp [bitAt]
    rw [Nat.mod_eq_of_lt hn, sccCtrl_same ⟨hthere, hon, hspeed, hsp, hretry⟩, hen, if_pos (by rfl), sccAbort_idle hcur hheld]
    obtain ⟨hoff, hstate, hnone, hask⟩ := sccStopped_off (setScc s n { sccSt s n with recover := none }) n
    exact ⟨hoff, hstate, by rw [hnone, sccSt_setScc, hcur], hask⟩
  case reset =>
    intro s n v b hhub hn hthere hon hen hspeed hsp hretry hcur hask hheld
    refine ⟨_, congrArg Host.Outcome.next (hub_of_on hhub _), ?_⟩
    have hreset : bitAt (v ||| 8#32).toNat 3 = true := by
      rw [BitVec.toNat_or, bitAt_or]
      simp [bitAt]
    have hen1 : s.fv (fSCC_CTRL_EN n) = 1 := by
      have := State.fv_lt s (fSCC_CTRL_EN n)
      have hne : s.fv (fSCC_CTRL_EN n) ≠ 0 := by simpa [State.on] using hon
      simp only [pow_one] at this
      omega
    rw [Nat.mod_eq_of_lt hn, sccCtrl_same ⟨hthere, hon, hspeed, hsp, hretry⟩, hen, if_neg (by decide), if_pos hreset,
      sccAbort_idle hcur hheld]
    have hkept := TxnKept.startCheck (.refl n (setScc s n { sccSt s n with recover := none })) .free
    obtain ⟨hstate, hwait⟩ := startCheck_free (s := setScc s n { sccSt s n with recover := none }) (n := n)
      (by rw [sccSt_setScc, hask])
    refine ⟨?_, hstate, ?_, hwait⟩
    · rw [hkept.fields _ (.inl rfl), setScc_fv, hen1]
    · rw [hkept.cur, sccSt_setScc, hcur]
  case recover =>
    intro s n v hhub hn hthere hon hen hspeed hsp hretry hcur hstate
    refine ⟨_, congrArg Host.Outcome.next (hub_of_on hhub _), ?_⟩
    have hbit3 : bitAt ((v &&& 0xFFFFFFF7#32) ||| 0x10#32).toNat 3 = false := by
      rw [BitVec.toNat_or, bitAt_or, BitVec.toNat_and, bitAt_and]
      simp [bitAt]
    have hbit4 : bitAt ((v &&& 0xFFFFFFF7#32) ||| 0x10#32).toNat 4 = true := by
      rw [BitVec.toNat_or, bitAt_or]
      simp [bitAt]
    rw [Nat.mod_eq_of_lt hn, sccCtrl_same ⟨hthere, hon, hspeed, hsp, hretry⟩, hen, if_neg (by decide), hbit3,
      if_neg (by decide), if_pos hbit4, hcur, if_neg (by decide), hstate, if_neg (by decide)]
    exact busCheck_first (by decide)
  case waitFree =>
    intro s n hhub hn hwait hask
    refine ⟨_, congrArg Host.Outcome.next (hub_of_on hhub _), ?_⟩
    rw [Nat.mod_eq_of_lt hn, recoveryEnd, if_pos hwait]
    exact busCheck_free hask true
  case waitStuck =>
    intro s n hhub hn hwait
    refine ⟨_, congrArg Host.Outcome.next (hub_of_on hhub _), ?_⟩
    rw [Nat.mod_eq_of_lt hn, recoveryEnd, if_pos hwait]
    exact busCheck_fault rfl
  case start =>
    intro s n x id i hhub hn hcur hstate hheld hburst hlost hdue hnext hwho
    refine ⟨_, congrArg Host.Outcome.next (hub_of_on hhub _), ?_⟩
    have hquiet : (pipesOn s n).any (fun p => (dueBurst s p).isSome) = false :=
      List.any_eq_false.mpr fun p hp => by simp [hdue p hp]
    have hbegin : txnStart s n = beginTxn (byteBegins s id) n x := by
      simp [txnStart, hcur, hstate, hheld, hburst, hlost, hquiet, hnext, hwho]
    obtain ⟨hregs, hscc, hmem⟩ := byteBegins_kept s id
    have hstate' : sccState (byteBegins s id) n = 2 := by
      rw [sccState, (RegsKept.of_regs (P := fun _ => True) hregs).fv trivial]
      exact hstate
    obtain ⟨h1, h2, h3, h4⟩ := beginTxn_busy hstate' x
    rw [Nat.mod_eq_of_lt hn, hbegin]
    exact ⟨h1, h2, h3, h4.trans hmem⟩
  case burst =>
    intro s n p x hhub hn hcur hstate hheld hburst hnext
    refine ⟨_, congrArg Host.Outcome.next (hub_of_on hhub _), ?_⟩
    have hbegin : txnStart s n = beginTxn s n x := by
      simp [txnStart, hcur, hstate, hheld, hburst, hnext]
    obtain ⟨h1, -, h3, -⟩ := beginTxn_busy hstate x
    rw [Nat.mod_eq_of_lt hn, hbegin]
    exact ⟨h1, h3⟩
  case ended =>
    intro s n x id i a b hhub hn hcur hagain hwho hacc hkind hlost
    refine ⟨_, congrArg Host.Outcome.next (hub_of_on hhub _), ?_⟩
    have hend : txnEnd s n none b = endTxn s n 0 true b := by simp [txnEnd, hcur, hagain]
    obtain ⟨h1, h2, -, h4⟩ := endTxn_read (r := 0) hn hcur hwho hacc hkind hlost (by decide) true b
    rw [Nat.mod_eq_of_lt hn, hend]
    refine ⟨h1, h2, ?_⟩
    rw [h4]
    split <;> simp_all
  case nack =>
    intro s n x id i a b hhub hn hcur hagain hwho hacc hkind hlost hfail
    refine ⟨_, congrArg Host.Outcome.next (hub_of_on hhub _), ?_⟩
    have hend : txnEnd s n (some 0) b = endTxn s n 1 false 0 := by simp [txnEnd, hcur, hagain]
    obtain ⟨h1, h2, h3, h4⟩ := endTxn_read (r := 1) hn hcur hwho hacc hkind hlost (by decide) false 0
    rw [Nat.mod_eq_of_lt hn, hend]
    exact ⟨h1, h2, h3 rfl, by rw [h4, if_pos hfail]⟩

end Sys2Proof.Machine

namespace Sys2Proof.Machine

/-! ### Writes by access codes (R6) -/

theorem findRow_mem {off i j : Nat} {r : RegRow} {rs : List RegRow} (h : findRow off rs = some (r, i, j)) : r ∈ rs := by
  induction rs with
  | nil => cases h
  | cons x xs ih =>
    unfold findRow at h
    split at h
    · cases h
      exact List.mem_cons_self ..
    · exact List.mem_cons_of_mem _ (ih h)

theorem blockRows_mem {off : Nat} {r : RegRow} {bs : List (Nat × Nat × List RegRow)} (h : r ∈ blockRows off bs) :
    ∃ b ∈ bs, r ∈ b.2.2 := by
  induction bs with
  | nil => cases h
  | cons b bs ih =>
    unfold blockRows at h
    split at h
    · exact ⟨b, List.mem_cons_self .., h⟩
    · obtain ⟨c, hc, hr⟩ := ih h
      exact ⟨c, List.mem_cons_of_mem _ hc, hr⟩

/-- Two spans of bits share none. -/
abbrev RegField.Apart (f g : RegField) : Prop := f.lsb + f.width ≤ g.lsb ∨ g.lsb + g.width ≤ f.lsb


/-- The fields of every register row share no bit and lie within 32 bits. -/
theorem rows_fields : ∀ b ∈ regBlocks, ∀ r ∈ b.2.2,
    r.flds.Pairwise RegField.Apart ∧ ∀ f ∈ r.flds, f.lsb + f.width ≤ 32 := by
  decide +kernel

theorem regAt_fields {off i j : Nat} {r : RegRow} (h : regAt off = some (r, i, j)) :
    r.flds.Pairwise RegField.Apart ∧ ∀ f ∈ r.flds, f.lsb + f.width ≤ 32 := by
  obtain ⟨b, hb, hr⟩ := blockRows_mem (findRow_mem h)
  exact rows_fields b hb r hr

theorem bitAt_maskOf {n k : Nat} (hk : k < n) (p : Nat → Bool) : bitAt (maskOf n p) k = p k := by
  rw [bitAt_eq_testBit]
  induction n with
  | zero => omega
  | succ n ih =>
    rw [maskOf_succ, Nat.add_comm, Nat.mul_comm, Nat.testBit_two_pow_mul_add _ (maskOf_lt n p)]
    split
    · next hlt => exact ih hlt
    · have : k = n := by omega
      subst this
      cases p k <;> simp [b2n]

theorem maskOf_bitAt {n v : Nat} (hv : v < 2 ^ n) : maskOf n (bitAt v) = v := by
  refine Nat.eq_of_testBit_eq fun k => ?_
  by_cases hk : k < n
  · rw [← bitAt_eq_testBit, bitAt_maskOf hk, bitAt_eq_testBit]
  · have hle : 2 ^ n ≤ 2 ^ k := Nat.pow_le_pow_right (by decide) (by omega)
    rw [Nat.testBit_lt_two_pow (lt_of_lt_of_le (maskOf_lt n _) hle), Nat.testBit_lt_two_pow (lt_of_lt_of_le hv hle)]

theorem maskOf_add {n : Nat} (p q : Nat → Bool) :
    maskOf n (fun k => p k && q k) + maskOf n (fun k => p k && !q k) = maskOf n p := by
  induction n with
  | zero => rfl
  | succ n ih =>
    rw [maskOf_succ, maskOf_succ, maskOf_succ, ← ih]
    cases p n <;> cases q n <;> simp [b2n] <;> omega

/-- What a write of `x` leaves in a field that held `o`. -/
def fieldWrite (f : RegField) (o x : Nat) : Nat :=
  match f.acc with
  | .rw => x
  | .w1c => o - bitsOf (maskOf f.width (fun k => bitAt o k && bitAt x k)) 0 f.width
  | .w1s => maskOf f.width (fun k => bitAt o k || bitAt x k)
  | _ => o

theorem writeWord_cons (old v : Nat) (f : RegField) (fs : List RegField) :
    writeWord old v (f :: fs) =
      writeWord (putBits old f.lsb f.width (fieldWrite f (bitsOf old f.lsb f.width) (bitsOf v f.lsb f.width))) v fs := rfl

theorem fieldWrite_lt {f : RegField} {o x : Nat} (ho : o < 2 ^ f.width) (hx : x < 2 ^ f.width) :
    fieldWrite f o x < 2 ^ f.width := by
  unfold fieldWrite
  split
  · exact hx
  · omega
  · exact maskOf_lt _ _
  · exact ho

theorem writeWord_lt {fs : List RegField} (hfs : ∀ f ∈ fs, f.lsb + f.width ≤ 32) {old : Nat} (hold : old < 2 ^ 32) (v : Nat) :
    writeWord old v fs < 2 ^ 32 := by
  induction fs generalizing old with
  | nil => exact hold
  | cons f fs ih =>
    rw [writeWord_cons]
    exact ih (fun g hg => hfs g (List.mem_cons_of_mem _ hg)) (putBits_lt hold (hfs f (List.mem_cons_self ..)))

theorem bitsOf_writeWord_apart {fs : List RegField} {l w : Nat} (h : ∀ f ∈ fs, f.lsb + f.width ≤ l ∨ l + w ≤ f.lsb)
    (old v : Nat) : bitsOf (writeWord old v fs) l w = bitsOf old l w := by
  induction fs generalizing old with
  | nil => rfl
  | cons f fs ih =>
    rw [writeWord_cons, ih (fun g hg => h g (List.mem_cons_of_mem _ hg))]
    exact bitsOf_putBits_apart (h f (List.mem_cons_self ..))

theorem bitsOf_writeWord_field {fs : List RegField}
    (hfs : fs.Pairwise RegField.Apart) {f : RegField} (hf : f ∈ fs)
    (old v : Nat) :
    bitsOf (writeWord old v fs) f.lsb f.width = fieldWrite f (bitsOf old f.lsb f.width) (bitsOf v f.lsb f.width) := by
  induction fs generalizing old with
  | nil => cases hf
  | cons g fs ih =>
    obtain ⟨hg, htail⟩ := List.pairwise_cons.mp hfs
    rw [writeWord_cons]
    rcases List.mem_cons.mp hf with rfl | hmem
    · rw [bitsOf_writeWord_apart (fun e he => (hg e he).symm), bitsOf_putBits_same]
      exact Nat.mod_eq_of_lt (fieldWrite_lt (bitsOf_lt _ _ _) (bitsOf_lt _ _ _))
    · rw [ih htail hmem, bitsOf_putBits_apart (hg f hmem)]

/-- The registers that no event register is: the routing and the masks of interrupts, and the state of the link. -/
abbrev EventSafe (o : Nat) : Prop :=
  (o < 0x26000 ∨ 0x26800 ≤ o) ∧ (o < 0x48000 ∨ 0x50100 ≤ o) ∧ o ≠ rPCIE_LINK_STATUS

theorem srcRegs_offsets : ∀ n < 512, ∀ r ∈ srcRegs n,
    srcOf r.1 = some n ∧ r.1 ≠ r.2 ∧ EventSafe r.1 ∧ EventSafe r.2 := by
  decide +kernel

theorem EventSafe.not_irqReg {o : Nat} (h : EventSafe o) : ¬ irqReg o := by
  obtain ⟨hroute, hmask, -⟩ := h
  unfold irqReg
  omega

theorem evSrc_safe {off n : Nat} (h : evSrc off = some n) : n < 512 ∧ ¬ irqReg off := by
  obtain ⟨hsrc, hany⟩ := Option.filter_eq_some_iff.mp h
  have hn := srcOf_lt hsrc
  obtain ⟨r, hr, heq⟩ := List.any_eq_true.mp hany
  obtain ⟨-, -, hev, hen⟩ := srcRegs_offsets n hn r hr
  refine ⟨hn, ?_⟩
  rcases Bool.or_eq_true_iff.mp heq with e | e
  · exact (beq_iff_eq.mp e) ▸ hev.not_irqReg
  · exact (beq_iff_eq.mp e) ▸ hen.not_irqReg

theorem rn_irqAgain {s : State} {src o : Nat} (hs : src < 512) (ho : ¬ irqReg o) : (irqAgain s src).rn o = s.rn o := by
  unfold irqAgain
  dsimp only
  split
  · rw [rn_sendMsg ho, rn_pending hs ho]
  · rw [rn_pending hs ho]

theorem plainWrite_rn {off i j : Nat} {r : RegRow} {v : Word} (hreg : regAt off = some (r, i, j))
    (hgood : r.flds.any (fieldBad v.toNat) = false) (s : State) :
    (plainWrite s off v).rn off = writeWord (s.rn off) v.toNat r.flds := by
  have hset : (s.setRn off (writeWord (s.rn off) v.toNat r.flds)).rn off = writeWord (s.rn off) v.toNat r.flds := by
    rw [State.rn_setRn_same]
    exact Nat.mod_eq_of_lt (writeWord_lt (regAt_fields hreg).2 (s.reg off).isLt _)
  unfold plainWrite
  simp only [hreg, hgood, Bool.false_eq_true, if_false]
  split
  · next n hsrc =>
    obtain ⟨hn, hirq⟩ := evSrc_safe hsrc
    split
    · rw [rn_irqAgain hn hirq, hset]
    · rw [rn_irqEval hn hirq, hset]
  · exact hset

theorem fieldWrite_w1c {f : RegField} (hacc : f.acc = .w1c) {o x : Nat} (ho : o < 2 ^ f.width) :
    fieldWrite f o x = maskOf f.width (fun k => bitAt o k && !bitAt x k) := by
  have hsum := maskOf_add (n := f.width) (bitAt o) (bitAt x)
  rw [maskOf_bitAt ho] at hsum
  have hmask : bitsOf (maskOf f.width (fun k => bitAt o k && bitAt x k)) 0 f.width =
      maskOf f.width (fun k => bitAt o k && bitAt x k) := by
    rw [bitsOf, pow_zero, Nat.div_one]
    exact Nat.mod_eq_of_lt (maskOf_lt _ _)
  unfold fieldWrite
  rw [hacc]
  simp only [hmask]
  omega

/-- Settles O49: the new word is written field by field, the fields share no bit, and no interrupt source stands in an
event register. -/
theorem writesFollowAccessCodes : Obligations.WritesFollowAccessCodes := by
  intro s off v r i j hreg hgood
  obtain ⟨hapart, hwidth⟩ := regAt_fields hreg
  rw [plainWrite_rn hreg hgood]
  refine ⟨fun f hf => ?_, fun k _ hout => ?_⟩
  · have hfield := bitsOf_writeWord_field hapart hf (s.rn off) v.toNat
    have hold := bitsOf_lt (s.rn off) f.lsb f.width
    refine ⟨fun hacc => ?rw, fun hacc k hk => ?w1c, fun hacc k hk => ?w1s, fun hacc => ?kept⟩
    case rw => rw [hfield, fieldWrite, hacc]
    case w1c =>
      rw [← bitAt_bitsOf hk, hfield, fieldWrite_w1c hacc hold, bitAt_maskOf hk, bitAt_bitsOf hk, bitAt_bitsOf hk]
    case w1s =>
      rw [← bitAt_bitsOf hk, hfield, fieldWrite, hacc]
      simp only
      rw [bitAt_maskOf hk, bitAt_bitsOf hk, bitAt_bitsOf hk]
    case kept =>
      rw [hfield, fieldWrite]
      rcases hacc with hacc | hacc | hacc <;> rw [hacc]
  · rw [bitAt_eq_bitsOf, bitAt_eq_bitsOf, bitsOf_writeWord_apart]
    intro f hf
    rcases hout f hf with h | h <;> omega

/-! ### Events and messages (R370 to R372) -/

theorem irqOff_of_src {off src : Nat} (h : srcOf off = some src) (s : State) : irqOff s off = irqEval s src := by
  rw [irqOff, h]

/-- An event bit that is enabled makes the source pending. -/
theorem srcPending_of_bit {s : State} {src ev en k : Nat} (hmem : (ev, en) ∈ srcRegs src)
    (hev : s.on ⟨ev, k, 1⟩ = true) (hen : s.on ⟨en, k, 1⟩ = true) : srcPending s src = true := by
  have hsrc : ¬ src < 64 := fun h => by simp [srcRegs, h] at hmem
  rw [srcPending, if_neg hsrc]
  refine List.any_eq_true.mpr ⟨_, hmem, decide_eq_true fun hzero => ?_⟩
  have hbit : bitAt (s.reg ev &&& s.reg en).toNat k = true := by
    rw [BitVec.toNat_and, bitAt_and, bitAt_eq_bitsOf, bitAt_eq_bitsOf]
    exact Bool.and_eq_true_iff.mpr ⟨hev, hen⟩
  rw [hzero] at hbit
  simp [bitAt] at hbit

theorem irqEval_of_becomes {s : State} {src : Nat} (hwas : s.on (fRING_INT_ROUTE_PENDING src) = false)
    (hnow : srcPending s src = true) (hen : s.on (fRING_INT_ROUTE_EN src) = true) :
    irqEval s src = sendMsg (s.setF (fRING_INT_ROUTE_PENDING src) 1) src := by
  unfold irqEval
  simp only [hwas, hnow, hen, Bool.not_false, Bool.and_self, if_true]
  rfl

theorem irqEval_of_quiet {s : State} {src : Nat}
    (h : s.on (fRING_INT_ROUTE_PENDING src) = true ∨ s.on (fRING_INT_ROUTE_EN src) = false) :
    irqEval s src = s.setF (fRING_INT_ROUTE_PENDING src) (b2n (srcPending s src)) := by
  unfold irqEval
  rcases h with h | h <;> simp [h]

theorem sendVector_sent {s : State} {v : Nat} (hmsix : msixOn s = true) (hall : bitAt (cfgWord s 0x0B0).toNat 30 = false)
    (hmask : s.on (fMSIX_CTRL_MASK v) = false) (hup : hostUp s = true) :
    sendVector s v = { s with msgs := s.msgs ++ [v] } := by
  simp [sendVector, hmsix, hall, hmask, hup]

theorem sendVector_masked {s : State} {v : Nat} (hmsix : msixOn s = true) (hmask : s.on (fMSIX_CTRL_MASK v) = true) :
    sendVector s v = s.setF ⟨rPBA_PENDING (v / 32), v % 32, 1⟩ 1 := by
  simp [sendVector, hmsix, hmask]

theorem cfgWord_setF (s : State) (f : Fld) (v o : Nat) : cfgWord (s.setF f v) o = cfgWord s o := by
  rw [cfgWord, State.setF_pcie, cfgWord]

theorem msixOn_setF (s : State) (f : Fld) (v : Nat) : msixOn (s.setF f v) = msixOn s := by
  rw [msixOn, cfgWord_setF, msixOn]

theorem hostUp_setF {s : State} {f : Fld} (h : f.off ≠ rPCIE_LINK_STATUS) (v : Nat) : hostUp (s.setF f v) = hostUp s := by
  have hlink : (s.setF f v).on fPCIE_LINK_STATUS_DL_ACTIVE = s.on fPCIE_LINK_STATUS_DL_ACTIVE := by
    rw [State.on_eq, State.on_eq, State.fv_setF_other (Ne.symm h)]
  unfold hostUp
  rw [hlink]
  rfl

section
variable {s : State} {src ev en k : Nat} (hsrc : src < 512) (hmem : (ev, en) ∈ srcRegs src)
include hsrc hmem

theorem ev_of_src : s.ev ⟨ev, k, 1⟩ = irqEval (s.setF ⟨ev, k, 1⟩ 1) src :=
  irqOff_of_src (srcRegs_offsets src hsrc _ hmem).1 _

theorem on_ev_of_src (hk : k < 32) : (s.ev ⟨ev, k, 1⟩).on ⟨ev, k, 1⟩ = true := by
  have hsafe := (srcRegs_offsets src hsrc _ hmem).2.2.1
  rw [State.on_eq, fv_ev_same hsafe.not_irqReg (by dsimp only; omega)]
  rfl

/-- The event bit is no part of the routing. -/
theorem fv_route_setEvent {n l w : Nat} (hn : n < 512) (x : Nat) :
    (s.setF ⟨ev, k, 1⟩ x).fv ⟨rRING_INT_ROUTE n, l, w⟩ = s.fv ⟨rRING_INT_ROUTE n, l, w⟩ := by
  have hsafe := (srcRegs_offsets src hsrc _ hmem).2.2.1
  refine State.fv_setF_other ?_ s x
  show 0x26000 + 4 * n ≠ ev
  have := hsafe.1
  dsimp only at this
  omega

/-- The source has become pending and is enabled: its message goes to `sendVector`. -/
theorem ev_sends (hk : k < 32) (hen : s.on ⟨en, k, 1⟩ = true) (hwas : s.on (fRING_INT_ROUTE_PENDING src) = false)
    (hroute : s.on (fRING_INT_ROUTE_EN src) = true) :
    s.ev ⟨ev, k, 1⟩ = sendVector ((s.setF ⟨ev, k, 1⟩ 1).setF (fRING_INT_ROUTE_PENDING src) 1)
      (s.fv (fRING_INT_ROUTE_VECTOR src)) := by
  obtain ⟨-, hne, -, -⟩ := srcRegs_offsets src hsrc _ hmem
  have hbit : (s.setF ⟨ev, k, 1⟩ 1).on ⟨ev, k, 1⟩ = true := by
    rw [State.on_eq, State.fv_setF_same _ _ _ (by dsimp only; omega)]
    rfl
  have henable : (s.setF ⟨ev, k, 1⟩ 1).on ⟨en, k, 1⟩ = true := by
    rw [State.on_eq, State.fv_setF_other (Ne.symm hne)]
    exact hen
  rw [ev_of_src hsrc hmem, irqEval_of_becomes ?_ (srcPending_of_bit hmem hbit henable) ?_, sendMsg,
    State.fv_setF_apart _ _ (by dsimp only; decide) (by dsimp only; decide), fv_route_setEvent hsrc hmem hsrc]
  · rw [State.on_eq, fv_route_setEvent hsrc hmem hsrc]
    exact hwas
  · rw [State.on_eq, fv_route_setEvent hsrc hmem hsrc]
    exact hroute

/-- The mask of a vector and the link are apart from the event and from the routing. -/
theorem mask_setEvent {v : Nat} (hv : v < 2048) :
    ((s.setF ⟨ev, k, 1⟩ 1).setF (fRING_INT_ROUTE_PENDING src) 1).on (fMSIX_CTRL_MASK v) = s.on (fMSIX_CTRL_MASK v) := by
  have hsafe := (srcRegs_offsets src hsrc _ hmem).2.2.1.2.1
  rw [State.on_eq, State.on_eq, State.fv_setF_other ?_, State.fv_setF_other ?_]
  · show 0x4800c + 0x10 * v ≠ ev
    dsimp only at hsafe
    omega
  · show 0x4800c + 0x10 * v ≠ 0x26000 + 4 * src
    omega

theorem hostUp_setEvent :
    hostUp ((s.setF ⟨ev, k, 1⟩ 1).setF (fRING_INT_ROUTE_PENDING src) 1) = hostUp s := by
  rw [hostUp_setF ?_, hostUp_setF (srcRegs_offsets src hsrc _ hmem).2.2.1.2.2]
  show 0x26000 + 4 * src ≠ 0x40000
  omega
end

/-- Settles O58: the source becomes pending with the enabled bit, and its message is sent, dropped or kept by
`sendVector`. -/
theorem eventsRaiseOneMessage : Obligations.EventsRaiseOneMessage := by
  refine ⟨?sent, ?quiet, ?masked⟩
  case sent =>
    intro s src ev en k hsrc hmem hk hen hwas hroute hmsix hall hmask hup
    have hsend := ev_sends hsrc hmem hk hen hwas hroute
    have hbit := on_ev_of_src (s := s) hsrc hmem hk
    rw [sendVector_sent (by rwa [msixOn_setF, msixOn_setF]) (by rwa [cfgWord_setF, cfgWord_setF]) ((mask_setEvent hsrc hmem (vector_lt s src)).trans hmask)
      ((hostUp_setEvent hsrc hmem).trans hup)] at hsend
    refine ⟨by rw [hsend, State.setF_msgs, State.setF_msgs], ?_, hbit⟩
    rw [hsend, State.on_eq, State.fv_mk, regsFv_regs, State.fv_setF_same _ _ _ (by dsimp only; decide)]
    rfl
  case quiet =>
    intro s src ev en k hsrc hmem hk h
    refine ⟨?_, on_ev_of_src hsrc hmem hk⟩
    rw [ev_of_src hsrc hmem, irqEval_of_quiet]
    · rw [State.setF_msgs, State.setF_msgs]
    · rw [State.on_eq, State.on_eq, fv_route_setEvent hsrc hmem hsrc, fv_route_setEvent hsrc hmem hsrc]
      exact h
  case masked =>
    intro s src ev en k hsrc hmem hk hen hwas hroute hmsix hmask
    rw [ev_sends hsrc hmem hk hen hwas hroute,
      sendVector_masked (by rwa [msixOn_setF, msixOn_setF]) ((mask_setEvent hsrc hmem (vector_lt s src)).trans hmask)]
    refine ⟨by rw [State.setF_msgs, State.setF_msgs, State.setF_msgs], ?_⟩
    rw [State.on_eq, State.fv_setF_same _ _ _ (by dsimp only; omega)]
    rfl

end Sys2Proof.Machine

namespace Sys2Proof.Machine

/-! ### The mirror read in any state (R101, R136) -/

/-- MGT is active with the mirror at RESET_CAUSE, and its path holds a latch of the register before, which is no half of a
pair: no command leads here, but the statement speaks of every state. -/
def oddLatch : State :=
  { State.reset.setF fMGT_STATUS_ACTIVE 1 with
    pow := { State.reset.pow with powered := true }
    mgt := { State.reset.mgt with addr := rGLB_RESET_CAUSE }
    regu := { State.reset.regu with latchMgt := ⟨some rGLB_BOOT_FAULT, 0xFF⟩ } }

/-- The read takes the latched upper half for the register. -/
theorem oddLatch_reads :
    (mgtReadOnly oddLatch 0x11 true (.read 2) mirrorRead).reply = ⟨.success, [4, 0xFF]⟩ := by decide

theorem oddLatch_frame : (mgtFrame oddLatch 0x11 true (leBytes 4 (oddLatch.rn rGLB_RESET_CAUSE))).take 2 = [4, 1] := by
  decide

/-- Refutes O39: the clause on the mirror has no premise on the latch of the path, and in `oddLatch` the read of
RESET_CAUSE, which holds 1, sends 0xFF. -/
theorem not_managementReads : ¬ Obligations.ManagementReads := by
  rintro ⟨-, -, -, -, -, -, -, -, -, -, -, -, hmirror, -⟩
  obtain ⟨t, hrun, hreply, -, -⟩ :=
    hmirror oddLatch 2 rGLB_RESET_CAUSE ⟨rfl, by decide⟩ (by decide) rfl (by decide)
  have ht : aon oddLatch (mgtReadOnly oddLatch 0x11 true (.read 2) mirrorRead) = t := Host.Outcome.next.inj hrun
  have hbytes : (⟨.success, [4, 0xFF]⟩ : Reply) = ⟨.success, [4, 1]⟩ := by
    rw [← oddLatch_reads, ← oddLatch_frame, ← hreply, ← ht]
    rfl
  exact absurd hbytes (by decide)

end Sys2Proof.Machine

namespace Sys2Proof.Machine

/-! ### Transactions of MGT (R133 to R138) -/

theorem aon_mgtOn {s : State} (h : MgtHears s) (t : State) : aon s (mgtOn s t) = t := by
  rw [aon_of_powered h.1, mgtOn, if_pos h.2]

/-- What an error leaves: LAST_ERROR, its counter and the alert. -/
def mgtNoted (s : State) (k : Nat) : State :=
  ((if s.fv fMGT_LAST_ERROR_CODE = 0 then s.setF fMGT_ALERT_STATUS_ERROR 1 else s).setF fMGT_LAST_ERROR_CODE k).bump
    (fMGT_CNT_COUNT (k - 1))

theorem mgtError_eq (s : State) (k : Nat) :
    mgtError s k = if k = 4 then mgtNoted s k
      else (mgtNoted s k).report 0x0F 0 (if k = 5 then 3 else if k = 3 then 2 else 1) := rfl

theorem rn_mgtError (s : State) (k o : Nat) : (mgtError s k).rn o = (mgtNoted s k).rn o := by
  rw [mgtError_eq]
  split
  · rfl
  · rfl

theorem fv_mgtError (s : State) (k : Nat) (f : Fld) : (mgtError s k).fv f = (mgtNoted s k).fv f := by
  rw [State.fv, rn_mgtError, State.fv]

theorem mgtNoted_isl (s : State) (k : Nat) : (mgtNoted s k).isl = s.isl := by
  unfold mgtNoted
  rw [State.bump_isl, State.setF_isl]
  split
  · rfl
  · rfl

theorem mgtNoted_mgt (s : State) (k : Nat) : (mgtNoted s k).mgt = s.mgt := by
  unfold mgtNoted
  rw [State.bump_mgt, State.setF_mgt]
  split
  · rfl
  · rfl

theorem rn_mgtNoted {k o : Nat} (h : o ∉ [rMGT_LAST_ERROR, rMGT_CNT (k - 1), rMGT_ALERT_STATUS]) (s : State) :
    (mgtNoted s k).rn o = s.rn o := by
  simp only [List.mem_cons, List.not_mem_nil, or_false, not_or] at h
  obtain ⟨hlast, hcnt, halert⟩ := h
  unfold mgtNoted
  rw [rn_bump_other hcnt, rn_setF_other hlast]
  split
  · exact rn_setF_other halert
  · rfl

theorem mgtNoted_code {k : Nat} (h : k < 256) (s : State) : (mgtNoted s k).fv fMGT_LAST_ERROR_CODE = k := by
  unfold mgtNoted
  rw [fv_bump_of_apart (Or.inl (show 0x320010 ≠ 0x320020 + 4 * (k - 1) by omega)), State.fv_setF_same _ _ _ (by decide)]
  exact Nat.mod_eq_of_lt h

theorem mgtNoted_counter (s : State) (k : Nat) :
    (mgtNoted s k).fv (fMGT_CNT_COUNT (k - 1)) = satTo 0xFFFF (s.fv (fMGT_CNT_COUNT (k - 1)) + 1) := by
  have hold : ((if s.fv fMGT_LAST_ERROR_CODE = 0 then s.setF fMGT_ALERT_STATUS_ERROR 1 else s).setF fMGT_LAST_ERROR_CODE
      k).fv (fMGT_CNT_COUNT (k - 1)) = s.fv (fMGT_CNT_COUNT (k - 1)) := by
    rw [State.fv_setF_other (show 0x320020 + 4 * (k - 1) ≠ 0x320010 by omega)]
    split
    · exact State.fv_setF_other (show 0x320020 + 4 * (k - 1) ≠ 0x320008 by omega) s 1
    · rfl
  unfold mgtNoted
  rw [fv_bump_same (by dsimp only; decide), hold]
  rfl

theorem mgtNoted_alert {s : State} (h : s.fv fMGT_LAST_ERROR_CODE = 0) (k : Nat) :
    (mgtNoted s k).fv fMGT_ALERT_STATUS_ERROR = 1 := by
  unfold mgtNoted
  rw [if_pos h, fv_bump_of_apart (Or.inl (show 0x320008 ≠ 0x320020 + 4 * (k - 1) by omega)),
    State.fv_setF_other (by decide), State.fv_setF_same _ _ _ (by decide)]
  rfl

theorem mgtError_failed {k : Nat} (h : k < 256) (s : State) (st : RStatus) (bs : List Byte) :
    MgtFailed s ((mgtError s k).answer st bs) k := by
  refine ⟨?code, ?counter, fun hfirst => ?alert, ?inbox, ?mgt, fun o ho => ?others⟩
  case code => rw [fv_answer, fv_mgtError, mgtNoted_code h]
  case counter => rw [fv_answer, fv_mgtError, mgtNoted_counter]
  case alert => rw [fv_answer, fv_mgtError, mgtNoted_alert hfirst]
  case inbox =>
    rw [State.answer_isl, mgtError_eq]
    split
    · rw [mgtNoted_isl, List.append_nil]
    · rw [State.report_inbox, mgtNoted_isl]
  case mgt =>
    rw [State.answer_mgt, mgtError_eq]
    split
    · exact mgtNoted_mgt s k
    · exact mgtNoted_mgt s k
  case others => rw [rn_answer, rn_mgtError, rn_mgtNoted ho]

/-- A write of the right length whose PEC is right, or absent where none is required, commits. -/
theorem mgtWrite_of_bytes {s : State} {cmd : Nat} {counted : Bool} {d bytes : List Byte} {n : Nat} (hn : d.length = n)
    (hsmall : n < 256) (h : mgtBytes s cmd counted d bytes) (f : State → List Byte → State) :
    mgtWrite s cmd counted n bytes f = (f s d).answer .success [] := by
  subst hn
  unfold mgtWrite
  obtain ⟨rfl, hpec⟩ | rfl := h
  · cases counted <;> simp [hpec, Nat.mod_eq_of_lt hsmall]
  · cases counted <;> simp [Nat.mod_eq_of_lt hsmall, List.getLast?_cons]

/-- A write of a command, committed with its value. -/
theorem mgtPut_of_bytes {s : State} {cmd n v : Nat} {counted : Bool} {bytes : List Byte} (hs : MgtHears s)
    (hn : n < 256) (hv : v < 256 ^ n) (h : mgtBytes s cmd counted (leBytes n v) bytes) (f : State → Nat → State) :
    aon s (mgtPut s cmd n counted bytes false f) = (f s v).answer .success [] := by
  rw [mgtPut, aon_mgtOn hs, if_neg (by decide), mgtWrite_of_bytes (length_leBytes n v) hn h, leNat_leBytes,
    Nat.mod_eq_of_lt hv]

theorem toNat_lt_four (v : Word) : v.toNat < 256 ^ 4 := v.isLt

/-- A write to a register of W1C bits that is no event register clears the bits written 1 and changes nothing else. -/
theorem plainWrite_clears {off n i j : Nat} {r : RegRow} (hreg : regAt off = some (r, i, j)) (hsrc : evSrc off = none)
    (hacc : ∀ f ∈ r.flds, f.acc = .w1c) (hbits : ∀ k < n, ∃ f ∈ r.flds, f.lsb = k ∧ f.width = 1) (s : State) (v : Word) :
    (∀ o, o ≠ off → (plainWrite s off v).rn o = s.rn o)
      ∧ ∀ k < n, bitAt ((plainWrite s off v).rn off) k = (bitAt (s.rn off) k && !bitAt v.toNat k) := by
  have hgood : r.flds.any (fieldBad v.toNat) = false := by
    refine List.any_eq_false.mpr fun f hf => ?_
    rw [fieldBad, hacc f hf]
    exact Bool.false_ne_true
  refine ⟨fun o ho => ?_, fun k hk => ?_⟩
  · unfold plainWrite
    simp only [hreg, hgood, Bool.false_eq_true, if_false, hsrc]
    exact State.rn_setRn_other ho s _
  · obtain ⟨f, hf, rfl, hwidth⟩ := hbits k hk
    exact ((writesFollowAccessCodes s off v r i j hreg hgood).1 f hf).2.1 (hacc f hf) 0 (by omega)

/-- The causes of a reset are acknowledged bit by bit, and no other register holds them. -/
theorem resetCause_acknowledged (s : State) (v : Word) :
    SameRegsBut s ((plainWrite s rGLB_RESET_CAUSE v).answer .success []) [rGLB_RESET_CAUSE]
      ∧ ∀ k < 9, bitAt (((plainWrite s rGLB_RESET_CAUSE v).answer .success []).rn rGLB_RESET_CAUSE) k
          = (bitAt (s.rn rGLB_RESET_CAUSE) k && !bitAt v.toNat k) := by
  obtain ⟨hothers, hbits⟩ := plainWrite_clears (n := 9) (off := rGLB_RESET_CAUSE) rfl (by decide) (by decide) (by decide) s v
  simp only [SameRegsBut, rn_answer]
  exact ⟨fun o ho => hothers o (List.ne_of_not_mem_cons ho), hbits⟩

/-- An alert is cleared bit by bit, and a cause that is gone is no longer acknowledged. -/
theorem alertClear_bits (s : State) (v : Word) :
    (∀ k < 6, bitAt ((alertClear s v).rn rMGT_ALERT_STATUS) k = (bitAt (s.rn rMGT_ALERT_STATUS) k && !bitAt v.toNat k))
      ∧ ∀ k < 6, bitAt (alertClear s v).mgt.ackedBits k
          = (bitAt s.mgt.ackedBits k && bitAt ((alertClear s v).rn rMGT_ALERT_STATUS) k) := by
  obtain ⟨-, hbits⟩ := plainWrite_clears (n := 6) (off := rMGT_ALERT_STATUS) rfl (by decide) (by decide) (by decide) s v
  have hmgt : (plainWrite s rMGT_ALERT_STATUS v).mgt = s.mgt :=
    (Keeps.of (keeps_plainWrite s rMGT_ALERT_STATUS v)).mgt rfl
  unfold alertClear
  simp only [State.rn_mk, regsRn_regs, bitAt_and, hmgt]
  exact ⟨hbits, fun _ _ => trivial⟩

/-- Settles O40: a write commits through `mgtPut_of_bytes`, and every other one leaves what `mgtError_failed` says. -/
theorem managementWrites : Obligations.ManagementWrites := by
  refine ⟨?resetCause, ?alertClear, ?alertMask, ?mirrorAddr, ?mirrorCause, ?mirrorDenied, ?mirrorReset, ?config, ?short,
    ?long, ?noPec, ?badPec, ?badCount, ?broken, ?unsupported, ?scl, ?alertWins, ?alertLoses, ?noAlert⟩
  case resetCause =>
    intro s v bytes hs hbytes
    refine ⟨_, congrArg Host.Outcome.next (mgtPut_of_bytes hs (by decide) (toNat_lt_four v) hbytes _), rfl, ?_⟩
    rw [BitVec.ofNat_toNat, BitVec.setWidth_eq]
    exact resetCause_acknowledged s v
  case alertClear =>
    intro s v bytes hs hv hbytes
    refine ⟨_, congrArg Host.Outcome.next (mgtPut_of_bytes hs (by decide) hv hbytes _), rfl, ?_, ?_⟩
    · rw [rn_answer]
      have hbits := (alertClear_bits s (BitVec.ofNat 32 v)).1
      rwa [BitVec.toNat_ofNat, Nat.mod_eq_of_lt (by omega)] at hbits
    · rw [State.answer_mgt, rn_answer]
      exact (alertClear_bits s _).2
  case alertMask =>
    intro s v bytes hs hv hbytes
    refine ⟨_, congrArg Host.Outcome.next (mgtPut_of_bytes hs (by decide) hv hbytes _), rfl, ?_, fun o ho => ?_⟩
    · rw [fv_answer, State.fv_setF_same _ _ _ (by decide)]
      rfl
    · rw [rn_answer, rn_setF_other (List.ne_of_not_mem_cons ho)]
  case mirrorAddr =>
    intro s v bytes hs hbytes
    exact ⟨_, congrArg Host.Outcome.next (mgtPut_of_bytes hs (by decide) (toNat_lt_four v) hbytes _), rfl, rfl,
      fun _ _ => rfl⟩
  case mirrorCause =>
    intro s v bytes hs hbytes haddr
    refine ⟨_, congrArg Host.Outcome.next (mgtPut_of_bytes hs (by decide) (toNat_lt_four v) hbytes _), rfl, ?_⟩
    rw [mirrorWrite, if_neg (by rw [haddr]; decide), if_pos haddr, BitVec.ofNat_toNat, BitVec.setWidth_eq]
    exact resetCause_acknowledged s v
  case mirrorDenied =>
    intro s v bytes hs hbytes hcause hctrl
    refine ⟨_, congrArg Host.Outcome.next (mgtPut_of_bytes hs (by decide) (toNat_lt_four v) hbytes _), rfl, ?_⟩
    rw [mirrorWrite, if_neg hctrl, if_neg hcause]
    exact mgtError_failed (by decide) s _ _
  case mirrorReset =>
    intro s v bytes hs hbytes haddr
    refine ⟨_, congrArg Host.Outcome.next (mgtPut_of_bytes hs (by decide) (toNat_lt_four v) hbytes _), ?_⟩
    rw [mirrorWrite, if_pos haddr, BitVec.ofNat_toNat, BitVec.setWidth_eq]
  case config =>
    intro s v bytes hs hv hbytes
    refine ⟨_, congrArg Host.Outcome.next (mgtPut_of_bytes hs (by decide) hv hbytes _), rfl, ?_, fun o ho => ?_⟩
    · rw [fv_answer, State.fv_setF_same _ _ _ (by decide)]
      rfl
    · rw [rn_answer, rn_setF_other (List.ne_of_not_mem_cons ho)]
  case short =>
    intro s bytes hs hlen
    refine ⟨_, congrArg Host.Outcome.next (aon_mgtOn hs _), ?_⟩
    rw [if_neg (by decide), mgtWrite]
    simp only [Bool.false_and, Bool.false_eq_true, if_false, if_pos hlen]
    exact ⟨rfl, mgtError_failed (by decide) s _ _⟩
  case long =>
    intro s bytes hs hlen
    refine ⟨_, congrArg Host.Outcome.next (aon_mgtOn hs _), ?_⟩
    rw [if_neg (by decide), mgtWrite]
    simp only [Bool.false_and, Bool.false_eq_true, if_false, if_neg (show ¬ bytes.length < 2 by omega),
      if_pos (show 2 + 1 < bytes.length from hlen)]
    exact ⟨rfl, mgtError_failed (by decide) s _ _⟩
  case noPec =>
    intro s bytes hs hlen hpec
    refine ⟨_, congrArg Host.Outcome.next (aon_mgtOn hs _), ?_⟩
    rw [if_neg (by decide), mgtWrite]
    simp only [Bool.false_and, Bool.false_eq_true, if_false, hlen, hpec, if_true, Nat.lt_irrefl]
    exact ⟨rfl, mgtError_failed (by decide) s _ _⟩
  case badPec =>
    intro s d pec hs hlen hpec
    refine ⟨_, congrArg Host.Outcome.next (aon_mgtOn hs _), ?_⟩
    rw [if_neg (by decide), mgtWrite]
    have hfull : (d ++ [pec]).length = 3 := by simp [hlen]
    simp only [Bool.false_and, Bool.false_eq_true, if_false, hfull, Nat.reduceLT, Nat.reduceAdd, Nat.reduceSub,
      Nat.reduceEqDiff]
    have hcrc : ¬ crc8 ([mgtAddr s false, 10#8] ++ d) = pec := Ne.symm hpec
    rw [List.take_left' hlen, List.getLastD_concat, if_neg hcrc]
    exact ⟨rfl, mgtError_failed (by decide) s _ _⟩
  case badCount =>
    intro s bytes hs hne hcount
    refine ⟨_, congrArg Host.Outcome.next (aon_mgtOn hs _), ?_⟩
    rw [if_neg (by decide), mgtWrite]
    have hbad : (true && !bytes.isEmpty && (bytes.headD 0).toNat != 4) = true := by
      rw [List.isEmpty_eq_false_iff.mpr hne, bne_iff_ne.mpr hcount]
      rfl
    rw [if_pos hbad]
    exact ⟨rfl, mgtError_failed (by decide) s _ _⟩
  case broken =>
    intro s bytes hs
    refine ⟨_, congrArg Host.Outcome.next (aon_mgtOn hs _), rfl, ?_⟩
    exact mgtError_failed (by decide) s _ _
  case unsupported =>
    intro s hs
    exact ⟨_, congrArg Host.Outcome.next (aon_mgtOn hs _), rfl, mgtError_failed (by decide) s _ _⟩
  case scl =>
    intro s hs
    exact ⟨_, congrArg Host.Outcome.next (aon_mgtOn hs _), rfl, mgtError_failed (by decide) s _ _⟩
  case alertWins =>
    intro s hs hlow
    refine ⟨_, congrArg Host.Outcome.next (aon_mgtOn hs _), ?_⟩
    rw [alertResponse, if_neg (by simp [hlow]), if_pos rfl]
    refine ⟨rfl, ?_, fun _ _ => rfl⟩
    exact bne_eq_false_iff_eq.mpr (Nat.and_self _)
  case alertLoses =>
    intro s hs hlow
    refine ⟨_, congrArg Host.Outcome.next (aon_mgtOn hs _), ?_⟩
    rw [alertResponse, if_neg (by simp [hlow]), if_neg (by decide)]
    exact ⟨rfl, hlow, fun _ _ => rfl⟩
  case noAlert =>
    intro s wins hs hlow
    refine ⟨_, congrArg Host.Outcome.next (aon_mgtOn hs _), ?_⟩
    rw [alertResponse, if_pos (by simp [hlow])]
    exact ⟨rfl, rfl, fun _ _ => rfl⟩

end Sys2Proof.Machine

namespace Sys2Proof.Machine

/-! ### A counter read in any state (R101, R553) -/

/-- The hub runs, and the path of MGT holds a latch of the register before PCIE_CNT_A, which is no half of a pair: no
command leads here, but the statement speaks of every state. -/
def oddCounterLatch : State :=
  { State.reset with
    pow := { State.reset.pow with hubOn := true }
    regu := { State.reset.regu with latchMgt := ⟨some rPCIE_EVENT_EN, 0xFF⟩ } }

/-- The read takes the latched upper half for the counter. -/
theorem oddCounterLatch_reads : (readBy oddCounterLatch .mgt rPCIE_CNT_A 4).reply = ⟨.success, leBytes 4 0xFF⟩ := by
  decide

/-- Refutes O38: the clause on counters has no premise on the latch of the path, and in `oddCounterLatch` the read of
PCIE_CNT_A, which holds 0, returns 0xFF. -/
theorem not_registerAccess : ¬ Obligations.RegisterAccess := by
  rintro ⟨-, -, -, -, -, -, -, hcounter, -⟩
  obtain ⟨t, hrun, hreply, -, -⟩ := hcounter oddCounterLatch .mgt rPCIE_CNT_A ⟨rfl, fun h => by cases h⟩ (by decide)
  have ht : readBy oddCounterLatch .mgt rPCIE_CNT_A 4 = t := Host.Outcome.next.inj hrun
  have hbytes : (⟨.success, leBytes 4 0xFF⟩ : Reply) = ⟨.success, leBytes 4 0⟩ := by
    rw [← oddCounterLatch_reads, ht, hreply]
    decide
  exact absurd hbytes (by decide)

end Sys2Proof.Machine

namespace Sys2Proof.Machine

/-! ### SPDM requests (R516, R517, R526, R531) -/

theorem spdmAfter_of_le {s : State} {n : Nat} (h : n ≤ s.spdm.phase) (t : State) : spdmAfter s n t = t := if_pos h

theorem spdmChain_of_ok {s : State} (hphase : 3 ≤ s.spdm.phase) (hok : s.fv fIDENT_STATUS_CHAIN_OK = 1) (t : State) :
    spdmChain s t = t := by
  rw [spdmChain, spdmAfter_of_le hphase, State.on_eq, hok]
  rfl

theorem spdmChain_of_bad {s : State} (hphase : 3 ≤ s.spdm.phase) (hok : s.fv fIDENT_STATUS_CHAIN_OK = 0) (t : State) :
    spdmChain s t = spdmSay s (.error "Unspecified") := by
  rw [spdmChain, spdmAfter_of_le hphase, State.on_eq, hok]
  rfl

theorem inSession_of_finished {s : State} {k : Nat} {x : SpdmSession} (hx : sessionOf s k = some x)
    (hfin : x.finished = true) (t : State) : inSession s k t = t := by
  rw [inSession, hx]
  exact if_pos hfin

theorem inSession_of_none {s : State} {k : Nat} (hx : sessionOf s k = none) (t : State) :
    inSession s k t = spdmSay s (.error "InvalidSession") := by
  rw [inSession, hx]

/-! ### The identifier of a session -/

/-- The next number that no session of `s` has, from `k` on. -/
def freeSession (s : State) (k : Nat) : Nat → Nat
  | 0 => k
  | n + 1 => freeSession s (if (sessionOf s k).isSome then (k + 1) % 2 ^ 32 else k) n

theorem foldl_freeSession (s : State) (k m n : Nat) :
    (List.range' m n).foldl (fun k _ => if (sessionOf s k).isSome then (k + 1) % 2 ^ 32 else k) k = freeSession s k n := by
  induction n generalizing k m with
  | zero => rfl
  | succ n ih => exact ih _ _

theorem freeSession_of_none {s : State} {k : Nat} (h : sessionOf s k = none) (n : Nat) : freeSession s k n = k := by
  induction n with
  | zero => rfl
  | succ n ih => rw [freeSession, h]; exact ih

/-- Where the number found is in use, so is every number on the way. -/
theorem freeSession_used {s : State} {n k : Nat} (hk : k < 2 ^ 32) (h : (sessionOf s (freeSession s k n)).isSome = true) :
    ∀ i ≤ n, (sessionOf s ((k + i) % 2 ^ 32)).isSome = true := by
  induction n generalizing k with
  | zero =>
    intro i hi
    rw [Nat.le_zero.mp hi, Nat.add_zero, Nat.mod_eq_of_lt hk]
    exact h
  | succ n ih =>
    cases hused : sessionOf s k with
    | none =>
      rw [freeSession_of_none hused, hused] at h
      cases h
    | some x =>
      rw [freeSession, hused, Option.isSome_some, if_pos rfl] at h
      intro i hi
      cases i with
      | zero =>
        rw [Nat.add_zero, Nat.mod_eq_of_lt hk, hused]
        rfl
      | succ i =>
        have := ih (Nat.mod_lt _ (by decide)) h i (by omega)
        rwa [Nat.mod_add_mod, show k + 1 + i = k + (i + 1) by omega] at this

theorem mem_ids_of_sessionOf {s : State} {k : Nat} (h : (sessionOf s k).isSome = true) : k ∈ s.spdm.sessions.map (·.id) := by
  obtain ⟨x, hx, hid⟩ := List.find?_isSome.mp h
  exact List.mem_map.mpr ⟨x, hx, beq_iff_eq.mp hid⟩

/-- Five numbers in a row are more than the sessions in use, so one of them is free. -/
theorem freeSession_free {s : State} (hroom : s.spdm.sessions.length < 4) {k : Nat} (hk : k < 2 ^ 32) :
    sessionOf s (freeSession s k 5) = none := by
  cases h : sessionOf s (freeSession s k 5) with
  | none => rfl
  | some x =>
    have hused := freeSession_used hk (n := 5) (by rw [h]; rfl)
    have hnodup : ((List.range 5).map (fun i => (k + i) % 2 ^ 32)).Nodup := by
      refine List.Nodup.map_on (fun i hi j hj heq => ?_) List.nodup_range
      rw [List.mem_range] at hi hj
      omega
    have hsub : (List.range 5).map (fun i => (k + i) % 2 ^ 32) ⊆ s.spdm.sessions.map (·.id) := by
      intro a ha
      obtain ⟨i, hi, rfl⟩ := List.mem_map.mp ha
      exact mem_ids_of_sessionOf (hused i (List.mem_range.mp hi).le)
    have hlen := (hnodup.subperm hsub).length_le
    simp only [List.length_map, List.length_range] at hlen
    omega

/-- A session starts under a number not in use. -/
theorem keyExchange_eq {s : State} (hroom : s.spdm.sessions.length < 4) :
    keyExchange s = spdmSay (setSessions { s with taken := s.taken + 1 }
        (s.spdm.sessions ++ [⟨freeSession s (Config.freeNat s.taken % 2 ^ 32) 5, false⟩]))
      (.keyExchange (freeSession s (Config.freeNat s.taken % 2 ^ 32) 5)) := by
  have hfold : (List.range 5).foldl
      (fun k _ => if (sessionOf { s with taken := s.taken + 1 } k).isSome then (k + 1) % 2 ^ 32 else k)
      (Config.freeNat s.taken % 2 ^ 32) = freeSession s (Config.freeNat s.taken % 2 ^ 32) 5 := by
    rw [List.range_eq_range']
    exact foldl_freeSession s _ 0 5
  rw [← hfold, keyExchange, if_neg (by omega)]
  rfl

/-! ### The established sessions -/

theorem setSessions_count {s : State} {l : List SpdmSession} (h : l.length ≤ 4) :
    (setSessions s l).fv fIDENT_SPDM_STATUS_SESSIONS = (l.filter (fun y => y.finished)).length := by
  have hlen := List.length_filter_le (fun y : SpdmSession => y.finished) l
  unfold setSessions
  rw [State.fv_setF_same _ _ _ (by decide)]
  exact Nat.mod_eq_of_lt (show _ < 8 by omega)

theorem setSessions_regs (s : State) (l : List SpdmSession) : SameRegsBut s (setSessions s l) [rIDENT_SPDM_STATUS] := by
  intro o ho
  unfold setSessions
  rw [rn_setF_other (List.ne_of_not_mem_cons ho)]
  rfl

/-- Settles O36: each request runs once its premises let it through, and a new session has a number not in use. -/
theorem attestation : Obligations.Attestation := by
  refine ⟨?doe, ?version, ?capabilities, ?algorithms, ?early, ?digests, ?noDigests, ?certificate, ?badSlot, ?challenge,
    ?noChallenge, ?measure4, ?measure5, ?measure6, ?measure123, ?exchange, ?full, ?finish, ?badFinish, ?heartbeat,
    ?noSession, ?keyUpdate, ?endSession, ?unsupported⟩
  case doe =>
    intro s i v hs hi
    refine ⟨_, congrArg Host.Outcome.next (hostReq_of_asks hs _), ?_⟩
    simp only [List.mem_cons, List.not_mem_nil, or_false, Prod.mk.injEq] at hi
    obtain ⟨rfl, rfl⟩ | ⟨rfl, rfl⟩ | ⟨rfl, rfl⟩ := hi
    · exact ⟨rfl, rfl⟩
    · exact ⟨rfl, rfl⟩
    · exact ⟨rfl, rfl⟩
  case version =>
    intro s hs
    exact ⟨_, congrArg Host.Outcome.next (hostReq_of_asks hs _), rfl, rfl, rfl⟩
  case capabilities =>
    intro s hs hphase
    refine ⟨_, congrArg Host.Outcome.next (hostReq_of_asks hs _), ?_⟩
    rw [spdmAfter_of_le hphase]
    exact ⟨rfl, rfl, rfl⟩
  case algorithms =>
    intro s hs hphase
    refine ⟨_, congrArg Host.Outcome.next (hostReq_of_asks hs _), ?_⟩
    rw [spdmAfter_of_le hphase]
    exact ⟨rfl, rfl, rfl⟩
  case early =>
    intro s hs hphase
    refine ⟨_, congrArg Host.Outcome.next (hostReq_of_asks hs _), ?_⟩
    rw [spdmAfter, if_neg (by omega)]
    rfl
  case digests =>
    intro s hs hphase hok
    refine ⟨_, congrArg Host.Outcome.next (hostReq_of_asks hs _), ?_⟩
    rw [spdmChain_of_ok hphase hok]
    exact ⟨rfl, rfl⟩
  case noDigests =>
    intro s hs hphase hok
    refine ⟨_, congrArg Host.Outcome.next (hostReq_of_asks hs _), ?_⟩
    rw [spdmChain_of_bad hphase hok]
    rfl
  case certificate =>
    intro s off len hs hphase hok hoff
    refine ⟨_, congrArg Host.Outcome.next (hostReq_of_asks hs _), ?_⟩
    rw [spdmChain_of_ok hphase hok, getCertificate, if_neg (by simp [Nat.not_lt.mpr hoff])]
    exact ⟨rfl, rfl⟩
  case badSlot =>
    intro s slot off len hs hphase hok hslot
    refine ⟨_, congrArg Host.Outcome.next (hostReq_of_asks hs _), ?_⟩
    rw [spdmChain_of_ok hphase hok, getCertificate, if_pos (by simp [hslot])]
    exact ⟨rfl, rfl⟩
  case challenge =>
    intro s hs hphase hok
    refine ⟨_, congrArg Host.Outcome.next (hostReq_of_asks hs _), ?_⟩
    rw [spdmChain_of_ok hphase hok, spdmChallenge, if_neg (by decide)]
    exact ⟨⟨_, rfl⟩, rfl⟩
  case noChallenge =>
    intro s hs hphase hok
    refine ⟨_, congrArg Host.Outcome.next (hostReq_of_asks hs _), ?_⟩
    rw [spdmChain_of_bad hphase hok]
    rfl
  case measure4 =>
    intro s hs hphase
    refine ⟨_, congrArg Host.Outcome.next (hostReq_of_asks hs _), ?_⟩
    rw [spdmAfter_of_le hphase]
    exact ⟨rfl, rfl⟩
  case measure5 =>
    intro s hs hphase
    refine ⟨_, congrArg Host.Outcome.next (hostReq_of_asks hs _), ?_⟩
    rw [spdmAfter_of_le hphase]
    exact ⟨rfl, rfl⟩
  case measure6 =>
    intro s hs hphase
    refine ⟨_, congrArg Host.Outcome.next (hostReq_of_asks hs _), ?_⟩
    rw [spdmAfter_of_le hphase]
    exact ⟨⟨_, rfl⟩, rfl⟩
  case measure123 =>
    intro s i hs hphase hi
    refine ⟨_, congrArg Host.Outcome.next (hostReq_of_asks hs _), ?_⟩
    rw [spdmAfter_of_le hphase]
    simp only [List.mem_cons, List.not_mem_nil, or_false] at hi
    obtain rfl | rfl | rfl := hi
    · exact ⟨rfl, rfl⟩
    · exact ⟨rfl, rfl⟩
    · exact ⟨rfl, rfl⟩
  case exchange =>
    intro s hs hphase hok hroom
    refine ⟨_, congrArg Host.Outcome.next (hostReq_of_asks hs _), ?_⟩
    rw [spdmChain_of_ok hphase hok, keyExchange_eq hroom]
    exact ⟨_, freeSession_free hroom (Nat.mod_lt _ (by decide)), rfl, rfl, setSessions_regs { s with taken := s.taken + 1 } _⟩
  case full =>
    intro s hs hphase hok hfull
    refine ⟨_, congrArg Host.Outcome.next (hostReq_of_asks hs _), ?_⟩
    rw [spdmChain_of_ok hphase hok, keyExchange, if_pos hfull]
    exact ⟨rfl, rfl, rfl⟩
  case finish =>
    intro s k x hs hphase hx hfin hlen
    refine ⟨_, congrArg Host.Outcome.next (hostReq_of_asks hs _), ?_⟩
    simp only [spdmAfter_of_le hphase, finish, hx, hfin, Bool.false_eq_true, if_false, if_true]
    exact ⟨rfl, rfl, setSessions_count (by rwa [List.length_map]), setSessions_regs s _⟩
  case badFinish =>
    intro s k x hs hphase hx hfin
    refine ⟨_, congrArg Host.Outcome.next (hostReq_of_asks hs _), ?_⟩
    simp only [spdmAfter_of_le hphase, finish, hx, hfin, Bool.false_eq_true, if_false]
    exact ⟨rfl, rfl⟩
  case heartbeat =>
    intro s k x hs hx hfin
    refine ⟨_, congrArg Host.Outcome.next (hostReq_of_asks hs _), ?_⟩
    rw [inSession_of_finished hx hfin]
    exact ⟨rfl, rfl⟩
  case noSession =>
    intro s k hs hx
    refine ⟨_, congrArg Host.Outcome.next (hostReq_of_asks hs _), ?_⟩
    rw [inSession_of_none hx]
    rfl
  case keyUpdate =>
    intro s k x hs hx hfin
    refine ⟨_, congrArg Host.Outcome.next (hostReq_of_asks hs _), ?_⟩
    rw [inSession_of_finished hx hfin]
    exact ⟨rfl, rfl⟩
  case endSession =>
    intro s k x hs hx hfin hlen
    refine ⟨_, congrArg Host.Outcome.next (hostReq_of_asks hs _), ?_⟩
    rw [inSession_of_finished hx hfin]
    refine ⟨rfl, ?_, rfl, setSessions_count ((List.length_filter_le _ _).trans hlen), rfl, setSessions_regs s _⟩
    refine List.find?_eq_none.mpr fun y hy => ?_
    have hne := (List.mem_filter.mp hy).2
    simpa using hne
  case unsupported =>
    intro s hs
    exact ⟨_, congrArg Host.Outcome.next (hostReq_of_asks hs _), rfl, rfl⟩

end Sys2Proof.Machine

namespace Sys2Proof.Machine

/-! ### The registers that the completion rings use (R355, R356, R372) -/

/-- The registers of `P` are neither those of the completion rings and of RING_EVENT nor those of the interrupts. -/
def OffRings (P : Nat → Prop) : Prop := ∀ o, P o → (o < 0x20400 ∨ 0x26800 ≤ o) ∧ (o < 0x50000 ∨ 0x50100 ≤ o)

section
variable {P : Nat → Prop} {s t : State}

theorem OffRings.not_irqReg (hP : OffRings P) (o : Nat) (ho : P o) : ¬ irqReg o := by
  have := hP o ho
  unfold Machine.irqReg
  omega

theorem OffRings.not_ring (hP : OffRings P) {o : Nat} (hlo : 0x20400 ≤ o) (hhi : o < 0x26800) : ¬ P o := by
  intro ho
  have := (hP o ho).1
  omega

theorem irqEval_kept (hP : OffRings P) (h : RegsKept P s t) {src : Nat} (hsrc : src < 512) : RegsKept P s (irqEval t src) :=
  ⟨fun o ho => (rn_irqEval hsrc (hP.not_irqReg o ho)).trans (h.rn o ho)⟩

theorem setCq_kept (h : RegsKept P s t) (j : Nat) (q : Cq) : RegsKept P s (setCq t j q) := h.regs rfl

theorem hostWrite_regs (s : State) (a : Nat) (bs : List Byte) (p : Bool) : (hostWrite s a bs p).regs = s.regs :=
  (Keeps.of (keeps_hostWrite s a bs p)).regs rfl
end

/-- The head that an entry shows. -/
def cqShownHead (s : State) (e : CqEntry) : Nat :=
  if e.kind = 0 then s.fv (fCR_HEAD_INDEX e.idx) else if e.kind = 3 then 0 else s.fv (fSR_HEAD_INDEX e.idx)

/-- The write of an entry at the tail of ring `j`. -/
def cqSent (s : State) (j : Nat) (e : CqEntry) : State :=
  hostWrite s (cqBase s j + s.fv (fCQ_TAIL_INDEX j) % cqSize s j * 32)
    (cqBytes e (cqShownHead s e) (b2n (s.fv (fCQ_TAIL_INDEX j) / cqSize s j % 2 == 0)))

/-- The tail of ring `j`, of `size` entries, moves from `tail` to the next slot. -/
def cqMoved (s : State) (j tail size : Nat) : State :=
  (s.setF (fCQ_TAIL_INDEX j) ((tail + 1) % 2 ^ 16)).setF (fCQ_TAIL_PHASE j)
    (b2n ((tail + 1) % 2 ^ 16 / size % 2 == 0))

/-- The entry counts toward the message of ring `j`. -/
def cqCounted (s : State) (j : Nat) : State :=
  let q := cqOf s j
  setCq s j { q with since := q.since + 1, firstAt := some (q.firstAt.getD s.dial) }

/-- An entry is written at the tail, which moves; then its message may be due. -/
def cqPlaced (s : State) (j : Nat) (e : CqEntry) : State :=
  cqCounted (cqMoved (cqSent s j e) j (s.fv (fCQ_TAIL_INDEX j)) (cqSize s j)) j

theorem cqWrite_cases (s : State) (j : Nat) (e : CqEntry) :
    cqWrite s j e = cqSignal (cqPlaced s j e) j ∨ cqWrite s j e = cqPlaced s j e :=
  ite_eq_or_eq _ _ _

section
variable {P : Nat → Prop} {s t : State}
variable {j : Nat} (hj : j < 64)
include hj

theorem cqSignal_kept (hP : OffRings P) (h : RegsKept P s t) : RegsKept P s (cqSignal t j) := by
  have hirq := irqEval_kept (src := j) hP (setCq_kept h j { cqOf t j with due := true }) (by omega)
  refine .ite (fun _ => .setF (setCq_kept hirq j _) 0 (hP.not_ring ?_ ?_)) fun _ => hirq
  · show 0x20400 ≤ 0x26000 + 4 * j
    omega
  · show 0x26000 + 4 * j < 0x26800
    omega

theorem cqTail_not (hP : OffRings P) : ¬ P (rCQ_TAIL j) :=
  hP.not_ring (show 0x20400 ≤ 0x2040c + 0x20 * j by omega) (show 0x2040c + 0x20 * j < 0x26800 by omega)

theorem cqStatus_not (hP : OffRings P) : ¬ P (rCQ_STATUS j) :=
  hP.not_ring (show 0x20400 ≤ 0x20414 + 0x20 * j by omega) (show 0x20414 + 0x20 * j < 0x26800 by omega)

theorem cqPlaced_kept (hP : OffRings P) (h : RegsKept P s t) (e : CqEntry) : RegsKept P s (cqPlaced t j e) :=
  setCq_kept (.setF (.setF (h.regs (hostWrite_regs _ _ _ _)) _ (cqTail_not hj hP)) _ (cqTail_not hj hP)) j _

theorem cqWrite_kept (hP : OffRings P) (h : RegsKept P s t) (e : CqEntry) : RegsKept P s (cqWrite t j e) := by
  have hplaced := cqPlaced_kept hj hP h e
  obtain h | h := cqWrite_cases t j e
  · rw [h]
    exact cqSignal_kept hj hP hplaced
  · rw [h]
    exact hplaced

theorem cqTake_kept (hP : OffRings P) (h : RegsKept P s t) (e : CqEntry) : RegsKept P s (cqTake t j e).2 := by
  unfold cqTake
  dsimp only
  split
  · exact cqWrite_kept hj hP h e
  · split
    · exact .setF (setCq_kept h j _) _ (cqStatus_not hj hP)
    · refine .ev (f := fRING_EVENT_CQ_OVERFLOW) ?_ (hP.not_ring (by decide) (by decide)) hP.not_irqReg
      exact .setF (.setF (setCq_kept h j _) _ (cqStatus_not hj hP)) _ (cqStatus_not hj hP)

theorem cqFlush_kept (hP : OffRings P) (n : Nat) (h : RegsKept P s t) : RegsKept P s (cqFlush n t j) := by
  induction n generalizing t with
  | zero => exact h
  | succ n ih =>
    unfold cqFlush
    split
    · exact h
    · refine .ite (fun _ => h) fun _ => ih (cqWrite_kept hj hP (.setF (setCq_kept h j _) _ (cqStatus_not hj hP)) _)
end

section
variable {P : Nat → Prop} {s t : State}

theorem asyncTarget_lt (s : State) : s.fv fRING_ASYNC_CFG_CQ < 64 := State.fv_lt s fRING_ASYNC_CFG_CQ

theorem cqTarget_lt (s : State) (i : Nat) : s.fv (fCR_CFG_CQ i) < 64 := State.fv_lt s (fCR_CFG_CQ i)

theorem asyncLast_kept (hP : OffRings P) (h : RegsKept P s t) (e : CqEntry) : RegsKept P s (asyncLast t e) :=
  .ite (fun _ => cqTake_kept (asyncTarget_lt t) hP h e)
    fun _ => .ev h (hP.not_ring (by decide) (by decide)) hP.not_irqReg

theorem cqOverflowed_kept (hP : OffRings P) (h : RegsKept P s t) (j : Nat) : RegsKept P s (cqOverflowed t j) :=
  .ite (fun _ => h) fun _ => asyncLast_kept hP h _

theorem cqPost_kept (hP : OffRings P) {j : Nat} (hj : j < 64) (h : RegsKept P s t) (e : CqEntry) :
    RegsKept P s (cqPost t j e) := by
  refine .ite (fun _ => ?_) fun _ => .ite (fun _ => setCq_kept h j _) fun _ => h
  exact .ite (fun _ => cqOverflowed_kept hP (cqTake_kept hj hP h e) j) fun _ => cqTake_kept hj hP h e

theorem complete_kept (hP : OffRings P) (h : RegsKept P s t) (c : Cmd) (st r0 r1 r2 d : Nat) :
    RegsKept P s (complete t c st r0 r1 r2 d) :=
  .ite (fun _ => cqPost_kept hP (cqTarget_lt _ _) h.withRest _) fun _ => h

theorem asyncPost_kept (hP : OffRings P) (h : RegsKept P s t) (cause r0 r1 r2 d : Nat) :
    RegsKept P s (asyncPost t cause r0 r1 r2 d) :=
  .ite (fun _ => cqPost_kept hP (asyncTarget_lt t) h _) fun _ => .ev h (hP.not_ring (by decide) (by decide)) hP.not_irqReg

theorem flushRings_kept (hP : OffRings P) (h : RegsKept P s t) : RegsKept P s (flushRings t) :=
  h.foldl fun u _ hj => cqFlush_kept (List.mem_range.mp hj) hP 64 (.refl _ u)
end

/-! ### Configuration space stays (R381) -/

theorem irqEval_cfg (s : State) (j : Nat) : (irqEval s j).pcie.cfg = s.pcie.cfg := by
  have hsend : ∀ u : State, (sendMsg u j).pcie.cfg = u.pcie.cfg := by
    intro u
    obtain ⟨m, h⟩ := sendVector_pcie u (u.fv (fRING_INT_ROUTE_VECTOR j))
    rw [sendMsg, h]
  unfold irqEval
  dsimp only
  split
  · rw [hsend, State.setF_pcie]
  · rw [State.setF_pcie]

theorem cqSignal_cases (s : State) (j : Nat) :
    (∃ q, cqSignal s j = (setCq (irqEval (setCq s j { cqOf s j with due := true }) j) j q).setF (fRING_INT_ROUTE_PENDING j) 0)
      ∨ cqSignal s j = irqEval (setCq s j { cqOf s j with due := true }) j :=
  (ite_eq_or_eq _ _ _).imp_left fun h => ⟨_, h⟩

theorem cqSignal_cfg (s : State) (j : Nat) : (cqSignal s j).pcie.cfg = s.pcie.cfg := by
  have hirq := irqEval_cfg (setCq s j { cqOf s j with due := true }) j
  obtain ⟨q, h⟩ | h := cqSignal_cases s j
  · rw [h, State.setF_pcie]
    exact hirq
  · rw [h]
    exact hirq

theorem hostWrite_pcie (s : State) (a : Nat) (bs : List Byte) (p : Bool) : (hostWrite s a bs p).pcie = s.pcie :=
  (Keeps.of (keeps_hostWrite s a bs p)).pcie rfl

theorem cqPlaced_cfg (s : State) (j : Nat) (e : CqEntry) : (cqPlaced s j e).pcie.cfg = s.pcie.cfg :=
  congrArg Pcie.cfg (hostWrite_pcie _ _ _ _)

theorem cqWrite_cfg (s : State) (j : Nat) (e : CqEntry) : (cqWrite s j e).pcie.cfg = s.pcie.cfg := by
  obtain h | h := cqWrite_cases s j e
  · rw [h, cqSignal_cfg, cqPlaced_cfg]
  · rw [h, cqPlaced_cfg]

theorem cqFlush_cfg (n : Nat) (s : State) (j : Nat) : (cqFlush n s j).pcie.cfg = s.pcie.cfg := by
  induction n generalizing s with
  | zero => rfl
  | succ n ih =>
    unfold cqFlush
    split
    · rfl
    · split
      · rfl
      · exact (ih _).trans (cqWrite_cfg _ j _)

theorem flushRings_cfg (s : State) : (flushRings s).pcie.cfg = s.pcie.cfg := by
  unfold flushRings
  generalize List.range 64 = l
  induction l generalizing s with
  | nil => rfl
  | cons j l ih => exact (ih _).trans (cqFlush_cfg 64 s j)

/-! ### The entry of a command (R354, R357) -/

theorem irqEval_ring (s : State) (j : Nat) : (irqEval s j).ring = s.ring := (Keeps.of (keeps_irqEval s j)).ring rfl

theorem cqSignal_opened (s : State) (j : Nat) : (cqSignal s j).ring.opened = s.ring.opened := by
  have hirq := congrArg Ring.opened (irqEval_ring (setCq s j { cqOf s j with due := true }) j)
  obtain ⟨q, h⟩ | h := cqSignal_cases s j
  · rw [h, State.setF_ring]
    exact hirq
  · rw [h]
    exact hirq

theorem cqSignal_wire (s : State) (j : Nat) : (cqSignal s j).wire = s.wire := (Keeps.of (keeps_cqSignal s j)).wire rfl

/-- A ring that takes an entry at once writes it at its tail. -/
theorem cqWrite_wrote {s : State} (hup : hostUp s = true) (j : Nat) (e : CqEntry) :
    (cqWrite s j e).wire = s.wire ++ [⟨cqBase s j + s.fv (fCQ_TAIL_INDEX j) % cqSize s j * 32,
        cqBytes e (cqShownHead s e) (b2n (s.fv (fCQ_TAIL_INDEX j) / cqSize s j % 2 == 0)), false⟩]
      ∧ (cqWrite s j e).ring.opened = s.ring.opened := by
  have hsent : cqSent s j e = { s with wire := s.wire ++ [⟨cqBase s j + s.fv (fCQ_TAIL_INDEX j) % cqSize s j * 32,
      cqBytes e (cqShownHead s e) (b2n (s.fv (fCQ_TAIL_INDEX j) / cqSize s j % 2 == 0)), false⟩] } := if_pos hup
  have hwire : (cqPlaced s j e).wire = (cqSent s j e).wire := rfl
  have hopen : (cqPlaced s j e).ring.opened = (cqSent s j e).ring.opened := rfl
  obtain h | h := cqWrite_cases s j e
  · rw [h, cqSignal_wire, cqSignal_opened, hwire, hopen, hsent]
    exact ⟨rfl, rfl⟩
  · rw [h, hwire, hopen, hsent]
    exact ⟨rfl, rfl⟩

/-- From `s` to `u` nothing has changed that the completion of command `c` goes by. -/
structure RingsSame (s u : State) (c : Cmd) : Prop where
  regs : RegsKept (fun o => 0x20400 ≤ o ∧ o < 0x20c00 ∨ o = rPCIE_LINK_STATUS) s u
  target : u.fv (fCR_CFG_CQ c.ring) = s.fv (fCR_CFG_CQ c.ring)
  head : u.fv (fCR_HEAD_INDEX c.ring) = s.fv (fCR_HEAD_INDEX c.ring)
  cq : u.ring.cq = s.ring.cq
  cfg : u.pcie.cfg = s.pcie.cfg
  hub : u.pow.hubOn = s.pow.hubOn

section
variable {s u : State} {c : Cmd}

theorem RingsSame.of_regs (hregs : u.regs = s.regs) (hcq : u.ring.cq = s.ring.cq) (hcfg : u.pcie.cfg = s.pcie.cfg)
    (hhub : u.pow.hubOn = s.pow.hubOn) : RingsSame s u c :=
  ⟨.of_regs hregs, RegsKept.fv (P := fun _ => True) (.of_regs hregs) trivial,
    RegsKept.fv (P := fun _ => True) (.of_regs hregs) trivial, hcq, hcfg, hhub⟩

theorem RingsSame.hostUp (h : RingsSame s u c) : hostUp u = hostUp s := by
  have hword : ∀ o, cfgWord u o = cfgWord s o := fun o => by rw [cfgWord, h.cfg, cfgWord]
  rw [Machine.hostUp, busMaster, h.regs.on (.inr rfl), hword, hword, h.hub, Machine.hostUp, busMaster]

theorem RingsSame.fv (h : RingsSame s u c) {f : Fld} (hlo : 0x20400 ≤ f.off) (hhi : f.off < 0x20c00) : u.fv f = s.fv f :=
  h.regs.fv (.inl ⟨hlo, hhi⟩)

theorem RingsSame.cqOf {j : Nat} (h : RingsSame s u c) : cqOf u j = cqOf s j := by rw [Machine.cqOf, h.cq, Machine.cqOf]

variable {j : Nat} (hj : j < 64) (h : RingsSame s u c)
include hj h

theorem RingsSame.size : cqSize u j = cqSize s j := by
  rw [cqSize, h.fv (show 0x20400 ≤ 0x20408 + 0x20 * j by omega) (show 0x20408 + 0x20 * j < 0x20c00 by omega), cqSize]

theorem RingsSame.tail : u.fv (fCQ_TAIL_INDEX j) = s.fv (fCQ_TAIL_INDEX j) :=
  h.fv (show 0x20400 ≤ 0x2040c + 0x20 * j by omega) (show 0x2040c + 0x20 * j < 0x20c00 by omega)

theorem RingsSame.base : cqBase u j = cqBase s j :=
  h.regs.pair (.inl (show 0x20400 ≤ 0x20400 + 0x20 * j ∧ 0x20400 + 0x20 * j < 0x20c00 by omega))
    (.inl (show 0x20400 ≤ 0x20404 + 0x20 * j ∧ 0x20404 + 0x20 * j < 0x20c00 by omega))

theorem RingsSame.takes : cqTakes u j = cqTakes s j := by
  rw [cqTakes, State.on_eq, State.on_eq,
    h.fv (show 0x20400 ≤ 0x20408 + 0x20 * j by omega) (show 0x20408 + 0x20 * j < 0x20c00 by omega),
    h.fv (show 0x20400 ≤ 0x20414 + 0x20 * j by omega) (show 0x20414 + 0x20 * j < 0x20c00 by omega), cqTakes, State.on_eq,
    State.on_eq]

theorem RingsSame.full : cqFull u j = cqFull s j := by rw [cqFull, h.tail hj, h.cqOf, h.size hj, cqFull]
end

/-- Command `c` is neither open nor waiting. -/
def closed (s : State) (c : Cmd) : State :=
  { s with ring := { s.ring with
    opened := s.ring.opened.filter (fun x => x.id != c.id),
    waiting := s.ring.waiting.filter (fun x => x.id != c.id) } }

/-- The entry of command `c`. -/
def cmdEntry (c : Cmd) (st r0 r1 r2 d : Nat) : CqEntry :=
  { cid := c.cid, kind := 0, idx := c.ring, status := st, opcode := c.opcode, r0 := r0, r1 := r1, r2 := r2, detail := d,
    irq := bitAt c.flags 0 }

theorem complete_of_open {s : State} {c : Cmd} (hopen : s.ring.opened.any (fun x => x.id == c.id) = true)
    (st r0 r1 r2 d : Nat) :
    complete s c st r0 r1 r2 d = cqPost (closed s c) ((closed s c).fv (fCR_CFG_CQ c.ring)) (cmdEntry c st r0 r1 r2 d) :=
  if_pos hopen

/-- Where the completion ring of the command has room, its entry goes out at once. -/
theorem complete_wrote {s u : State} {c : Cmd} (hroom : Room s c) (h : RingsSame s u c)
    (hopen : u.ring.opened.any (fun x => x.id == c.id) = true) (st r0 r1 r2 d : Nat) :
    Wrote s (complete u c st r0 r1 r2 d) c st r0 r1 r2 d
      ∧ (complete u c st r0 r1 r2 d).ring.opened = u.ring.opened.filter (fun x => x.id != c.id) := by
  obtain ⟨htakes, hhold, hfull, hup⟩ := hroom
  have hj : s.fv (fCR_CFG_CQ c.ring) < 64 := cqTarget_lt s c.ring
  have ht : RingsSame s (closed u c) c := ⟨h.regs.withRest, h.target, h.head, h.cq, h.cfg, h.hub⟩
  have hpost : cqPost (closed u c) (s.fv (fCR_CFG_CQ c.ring)) (cmdEntry c st r0 r1 r2 d) =
      cqWrite (closed u c) (s.fv (fCR_CFG_CQ c.ring)) (cmdEntry c st r0 r1 r2 d) := by
    rw [cqPost, if_pos ((ht.takes hj).trans htakes)]
    rw [cqTake, if_pos (by rw [ht.cqOf, hhold, ht.full hj, hfull, ht.hostUp, hup]; rfl)]
    rfl
  obtain ⟨hwire, hopened⟩ := cqWrite_wrote (ht.hostUp.trans hup) (s.fv (fCR_CFG_CQ c.ring)) (cmdEntry c st r0 r1 r2 d)
  rw [complete_of_open hopen, ht.target, hpost]
  refine ⟨?_, hopened⟩
  have hhead : cqShownHead (closed u c) (cmdEntry c st r0 r1 r2 d) = s.fv (fCR_HEAD_INDEX c.ring) :=
    (if_pos rfl).trans ht.head
  rw [Wrote, hwire, List.getLast?_concat, ht.base hj, ht.tail hj, ht.size hj, hhead]
  rfl

end Sys2Proof.Machine

namespace Sys2Proof.Machine

/-! ### Link power (R380, R394) -/

theorem powerMove_moves {s : State} {a : Nat} (hlink : s.on fPCIE_LINK_STATUS_DL_ACTIVE = true) (hat : linkPower s = a)
    {c : Bool} (hc : c = true) (b : Nat) : powerMove s a b c = s.setF fPCIE_LINK_STATUS_POWER b := by
  simp [powerMove, hlink, hat, hc]

theorem powerMove_apart {s : State} {a : Nat} (hat : linkPower s ≠ a) (b : Nat) (c : Bool) : powerMove s a b c = s := by
  simp [powerMove, hat]

theorem powerMove_refused {c : Bool} (hc : c = false) (s : State) (a b : Nat) : powerMove s a b c = s := by
  simp [powerMove, hc]

theorem linkPower_setPower (s : State) {n : Nat} (h : n < 8) : linkPower (s.setF fPCIE_LINK_STATUS_POWER n) = n := by
  rw [linkPower, State.fv_setF_same _ _ _ (by decide)]
  exact Nat.mod_eq_of_lt h

theorem active_setPower {s : State} (h : s.on fPCIE_LINK_STATUS_DL_ACTIVE = true) (n : Nat) :
    (s.setF fPCIE_LINK_STATUS_POWER n).on fPCIE_LINK_STATUS_DL_ACTIVE = true := by
  rw [State.on_eq, State.fv_setF_apart _ _ (by decide) (by decide)]
  exact h

theorem regs_setPower (s : State) (n : Nat) : SameRegsBut s (s.setF fPCIE_LINK_STATUS_POWER n) [rPCIE_LINK_STATUS] :=
  fun _ ho => rn_setF_other (List.ne_of_not_mem_cons ho)

theorem l1Entry_idle {s : State} (hlink : s.on fPCIE_LINK_STATUS_DL_ACTIVE = true) (hpower : linkPower s ≤ 1)
    (hok : (l1Idle s && bitAt (cfgN s 0x080) 1) = true) :
    linkPower (l1Entry s) = 2 ∧ SameRegsBut s (l1Entry s) [rPCIE_LINK_STATUS] := by
  unfold l1Entry
  dsimp only
  rw [hok]
  have hcases : linkPower s = 0 ∨ linkPower s = 1 := by omega
  rcases hcases with h | h
  · rw [powerMove_apart (s := s) (a := 1) (by rw [h]; decide), powerMove_moves hlink h rfl]
    exact ⟨linkPower_setPower _ (by decide), regs_setPower s 2⟩
  · rw [powerMove_moves hlink h rfl, powerMove_moves (active_setPower hlink 0) (linkPower_setPower _ (by decide)) rfl]
    exact ⟨linkPower_setPower _ (by decide), fun o ho => (regs_setPower _ 2 o ho).trans (regs_setPower s 0 o ho)⟩

/-- Either substate of L1 is left for L0. -/
theorem substate_exit {s : State} (hlink : s.on fPCIE_LINK_STATUS_DL_ACTIVE = true) (h : linkPower s = 3 ∨ linkPower s = 4) :
    linkPower (powerMove (powerMove s 3 0 true) 4 0 true) = 0
      ∧ (powerMove (powerMove s 3 0 true) 4 0 true).pcie = s.pcie
      ∧ SameRegsBut s (powerMove (powerMove s 3 0 true) 4 0 true) [rPCIE_LINK_STATUS] := by
  have hzero := linkPower_setPower s (n := 0) (by decide)
  rcases h with h | h
  · rw [powerMove_moves hlink h rfl, powerMove_apart (by rw [hzero]; decide)]
    exact ⟨hzero, State.setF_pcie _ _ _, regs_setPower s 0⟩
  · rw [powerMove_apart (s := s) (a := 3) (by rw [h]; decide), powerMove_moves hlink h rfl]
    exact ⟨hzero, State.setF_pcie _ _ _, regs_setPower s 0⟩

/-- A link that narrows is in L0p at its new width. -/
theorem narrowed_reads (s : State) {w : Nat} (hw : w < 16) :
    linkPower (((s.setF fPCIE_LINK_STATUS_POWER 5).setF fPCIE_LINK_STATUS_L0P_WIDTH w).bump fPCIE_CNT_C_L0P_CHANGES) = 5
      ∧ (((s.setF fPCIE_LINK_STATUS_POWER 5).setF fPCIE_LINK_STATUS_L0P_WIDTH w).bump fPCIE_CNT_C_L0P_CHANGES).fv
          fPCIE_LINK_STATUS_L0P_WIDTH = w
      ∧ (((s.setF fPCIE_LINK_STATUS_POWER 5).setF fPCIE_LINK_STATUS_L0P_WIDTH w).bump fPCIE_CNT_C_L0P_CHANGES).fv
          fPCIE_CNT_C_L0P_CHANGES = satTo 0xFFFF (s.fv fPCIE_CNT_C_L0P_CHANGES + 1) := by
  refine ⟨?_, ?_, ?_⟩
  · rw [linkPower, fv_bump_of_apart (by decide), fv_setF_of_apart (by decide), State.fv_setF_same _ _ _ (by decide)]
    rfl
  · rw [fv_bump_of_apart (by decide), State.fv_setF_same _ _ _ (by decide)]
    exact Nat.mod_eq_of_lt hw
  · rw [fv_bump_same (by decide), fv_setF_of_apart (by decide), fv_setF_of_apart (by decide)]
    rfl

theorem widened_full (s : State) :
    let t := ((s.bump fPCIE_CNT_C_L0P_CHANGES).setF fPCIE_LINK_STATUS_POWER 0).setF fPCIE_LINK_STATUS_L0P_WIDTH 0
    linkPower t = 0 ∧ t.fv fPCIE_LINK_STATUS_L0P_WIDTH = 0
      ∧ t.fv fPCIE_CNT_C_L0P_CHANGES = satTo 0xFFFF (s.fv fPCIE_CNT_C_L0P_CHANGES + 1)
      ∧ SameRegsBut s t [rPCIE_LINK_STATUS, rPCIE_CNT_C] := by
  refine ⟨?_, ?_, ?_, fun o ho => ?_⟩
  · rw [linkPower, fv_setF_of_apart (by decide), State.fv_setF_same _ _ _ (by decide)]
    rfl
  · rw [State.fv_setF_same _ _ _ (by decide)]
    rfl
  · rw [fv_setF_of_apart (by decide), fv_setF_of_apart (by decide), fv_bump_same (by decide)]
    rfl
  · simp only [List.mem_cons, List.not_mem_nil, or_false, not_or] at ho
    rw [rn_setF_other ho.1, rn_setF_other ho.1, rn_bump_other ho.2]

theorem widened_part {s : State} (hpower : linkPower s = 5) {w : Nat} (hw : w < 16) :
    let t := (s.bump fPCIE_CNT_C_L0P_CHANGES).setF fPCIE_LINK_STATUS_L0P_WIDTH w
    linkPower t = 5 ∧ t.fv fPCIE_LINK_STATUS_L0P_WIDTH = w
      ∧ t.fv fPCIE_CNT_C_L0P_CHANGES = satTo 0xFFFF (s.fv fPCIE_CNT_C_L0P_CHANGES + 1)
      ∧ SameRegsBut s t [rPCIE_LINK_STATUS, rPCIE_CNT_C] := by
  refine ⟨?_, ?_, ?_, fun o ho => ?_⟩
  · rw [linkPower, fv_setF_of_apart (by decide), fv_bump_of_apart (by decide)]
    exact hpower
  · rw [State.fv_setF_same _ _ _ (by decide)]
    exact Nat.mod_eq_of_lt hw
  · rw [fv_setF_of_apart (by decide), fv_bump_same (by decide)]
    rfl
  · simp only [List.mem_cons, List.not_mem_nil, or_false, not_or] at ho
    rw [rn_setF_other ho.1, rn_bump_other ho.2]

/-! ### Configuration space after an event (R381, R390) -/

theorem cfgN_of_cfg {s t : State} (h : t.pcie.cfg = s.pcie.cfg) (o : Nat) : cfgN t o = cfgN s o := by
  rw [cfgN, cfgWord, h, cfgN, cfgWord]

theorem cfgN_ev (s : State) (f : Fld) (o : Nat) : cfgN (s.ev f) o = cfgN s o := cfgN_of_cfg (s.ev_cfg f) o

theorem cfgN_setF (s : State) (f : Fld) (v o : Nat) : cfgN (s.setF f v) o = cfgN s o := by
  rw [cfgN, cfgWord_setF, cfgN]

theorem cfgN_bump (s : State) (f : Fld) (o : Nat) : cfgN (s.bump f) o = cfgN s o := cfgN_setF s f _ o

theorem cfgN_report (s : State) (c i k d o : Nat) : cfgN (s.report c i k d) o = cfgN s o := rfl

theorem aerCorr_regs (s : State) (bit : Nat) : (aerCorr s bit).regs = s.regs :=
  (Keeps.of (keeps_aerCorr s bit)).regs rfl

theorem aerCorr_isl (s : State) (bit : Nat) : (aerCorr s bit).isl = s.isl :=
  (Keeps.of (keeps_aerCorr s bit)).isl rfl

theorem aerUncorr_regs (s : State) (bit : Nat) (adv : Bool) : (aerUncorr s bit adv).regs = s.regs :=
  (Keeps.of (keeps_aerUncorr s bit adv)).regs rfl

theorem aerUncorr_isl (s : State) (bit : Nat) (adv : Bool) : (aerUncorr s bit adv).isl = s.isl :=
  (Keeps.of (keeps_aerUncorr s bit adv)).isl rfl

/-- A correctable error stands in its status and in Device Status. -/
theorem aerCorr_recorded {bit : Nat} (h : bit < 32) (s : State) :
    bitAt (cfgN (aerCorr s bit) 0x110) bit = true ∧ bitAt (cfgN (aerCorr s bit) 0x078) 16 = true := by
  have hstatus : bitAt (cfgN (cfgSet (cfgSet s 0x110 bit) 0x078 16) 0x110) bit = true := by
    rw [cfgN_cfgSet_other (by decide)]
    exact bitAt_cfgSet_same h s 0x110
  have hdevice := bitAt_cfgSet_same (show 16 < 32 by decide) (cfgSet s 0x110 bit) 0x078
  obtain e | e := aerCorr_cases s bit
  · rw [e]
    exact ⟨hstatus, hdevice⟩
  · rw [e, cfgN_errMsg, cfgN_errMsg]
    exact ⟨hstatus, hdevice⟩

/-! ### D3hot and the return to D0 (R382) -/

theorem linkStatus_under : Under 0x1100000 (fun o => o = rPCIE_LINK_STATUS) := by
  rintro o rfl
  exact ⟨by decide, by unfold irqReg; decide⟩

theorem foldl_cfg {α : Type} {f : State → α → State} (hf : ∀ s a, (f s a).pcie.cfg = s.pcie.cfg) (l : List α) (s : State) :
    (l.foldl f s).pcie.cfg = s.pcie.cfg := by
  induction l generalizing s with
  | nil => rfl
  | cons a l ih => exact (ih _).trans (hf s a)

theorem freeOp_cfg (s : State) (c : Nat) (o : HoistOp) : (freeOp s c o).pcie.cfg = s.pcie.cfg := by
  unfold freeOp
  dsimp only
  rw [countTags_pcie]
  split
  · rfl
  · split <;> rfl

theorem stopLater_cfg (s : State) (st code : Nat) : (stopLater s st code).pcie.cfg = s.pcie.cfg := by
  unfold stopLater
  dsimp only
  split <;> simp [updPipe, setPipe]

theorem haltChan_cfg (s : State) (c code : Nat) : (haltChan s c code 0 0 0).pcie.cfg = s.pcie.cfg := by
  have hstop : ∀ t, t.pcie.cfg = s.pcie.cfg →
      (if c < 192 then stopLater t c (faultCode 0x15 c code) else t).pcie.cfg = s.pcie.cfg := by
    intro t ht
    split
    · exact (stopLater_cfg t c _).trans ht
    · exact ht
  unfold haltChan
  refine hstop _ ?_
  simp [setHalted, updHchan, setHchan, setHState]

theorem hoistHostReset_cfg (s : State) : (hoistHostReset s).pcie.cfg = s.pcie.cfg := by
  unfold hoistHostReset
  refine (foldl_cfg (fun t c => ?_) _ _).trans rfl
  dsimp only
  split
  · exact (haltChan_cfg _ c 9).trans (foldl_cfg (fun t o => freeOp_cfg t c o) _ t)
  · rfl

/-- The function has entered D3hot, before the channels that use the host halt. -/
def d3Set (s : State) : State := (setCfg s 0x044 3).setF fPCIE_LINK_STATUS_POWER 6

theorem d3Entry_eq (s : State) : d3Entry s =
    { hoistHostReset (d3Set s) with hoist := { (hoistHostReset (d3Set s)).hoist with waitHost := s.hoist.waitHost } } := rfl

theorem d3Entry_cfg (s : State) : cfgN (d3Entry s) 0x044 = 3 := by
  have hcfg : (d3Entry s).pcie.cfg = (d3Set s).pcie.cfg := by
    rw [d3Entry_eq]
    exact hoistHostReset_cfg _
  rw [cfgN_of_cfg hcfg, d3Set, cfgN_setF, cfgN_setCfg_same]
  rfl

theorem d3Entry_power (s : State) : linkPower (d3Entry s) = 6 := by
  have hkept := hoistHostReset_kept linkStatus_under (.refl _ (d3Set s))
  have hpower : linkPower (d3Entry s) = linkPower (d3Set s) := by
    rw [d3Entry_eq, linkPower, State.fv_mk, regsFv_regs, hkept.fv rfl, linkPower]
  rw [hpower]
  exact linkPower_setPower _ (by decide)

theorem d3Entry_off {s : State} (h : cfgN s 0x044 = 3) : hostUp s = false := by
  have hstate : (bitsOf (cfgWord s 0x044).toNat 0 2 == 3) = true := by
    rw [show (cfgWord s 0x044).toNat = 3 from h]
    rfl
  rw [hostUp, hstate]
  simp

theorem linkStatus_offRings : OffRings (fun o => o = rPCIE_LINK_STATUS) := by
  rintro o rfl
  decide

theorem d0Return_reads (s : State) : bitsOf (cfgN (d0Return s) 0x044) 0 2 = 0 ∧ linkPower (d0Return s) = 0 := by
  have hkept := flushRings_kept linkStatus_offRings (.refl _ ((setCfg s 0x044 0).setF fPCIE_LINK_STATUS_POWER 0))
  have hcfg := flushRings_cfg ((setCfg s 0x044 0).setF fPCIE_LINK_STATUS_POWER 0)
  refine ⟨?_, (hkept.fv rfl).trans (linkPower_setPower _ (by decide))⟩
  rw [d0Return, cfgN_of_cfg hcfg, cfgN_setF, cfgN_setCfg_same]
  rfl

/-- Settles O35: a link moves by `powerMove` where its guard holds, and errors are recorded by the AER lemmas. -/
theorem linkPowerAndErrors : Obligations.LinkPowerAndErrors := by
  refine ⟨?l0sEntry, ?l0sFlit, ?l0sExit, ?l1Entry, ?l1Busy, ?l1Exit, ?clkreqOff, ?clkreqOn, ?narrow, ?noNarrow, ?widen,
    ?d3, ?d0, ?recovery, ?correctable, ?corrected, ?uncorrectable, ?fatal⟩
  case l0sEntry =>
    intro s hhub hlink hpower hflit haspm
    refine ⟨_, congrArg Host.Outcome.next (hub_of_on hhub _), ?_⟩
    rw [powerMove_moves hlink hpower (by rw [hflit, haspm]; rfl)]
    exact ⟨linkPower_setPower s (by decide), regs_setPower s 1⟩
  case l0sFlit =>
    intro s hhub hflit
    refine ⟨_, congrArg Host.Outcome.next (hub_of_on hhub _), ?_⟩
    rw [powerMove_refused (by rw [hflit]; rfl)]
  case l0sExit =>
    intro s hhub hlink hpower
    refine ⟨_, congrArg Host.Outcome.next (hub_of_on hhub _), ?_⟩
    rw [powerMove_moves hlink hpower rfl]
    exact ⟨linkPower_setPower s (by decide), regs_setPower s 0⟩
  case l1Entry =>
    intro s hhub hlink hpower haspm hstream hopen hwait hbell hshadow hreads
    refine ⟨_, congrArg Host.Outcome.next (hub_of_on hhub _), l1Entry_idle hlink hpower ?_⟩
    rw [l1Idle, hstream, hopen, hwait, hbell, hshadow, hreads, haspm]
    rfl
  case l1Busy =>
    intro s hhub hbusy
    refine ⟨_, congrArg Host.Outcome.next (hub_of_on hhub _), ?_⟩
    have hidle : l1Idle s = false := by
      unfold l1Idle
      rcases hbusy with h | h | h | h | h
      · simp [h]
      · simp [h]
      · simp [h]
      · simp [h]
      · simp [h]
    unfold l1Entry
    dsimp only
    rw [powerMove_refused (by rw [hidle]; rfl), powerMove_refused (by rw [hidle]; rfl)]
  case l1Exit =>
    intro s hhub hlink hpower
    refine ⟨_, congrArg Host.Outcome.next (hub_of_on hhub _), ?_⟩
    rw [powerMove_moves hlink hpower rfl]
    exact ⟨linkPower_setPower s (by decide), regs_setPower s 0⟩
  case clkreqOff =>
    intro s hhub hlink hpower hsub
    refine ⟨_, congrArg Host.Outcome.next (hub_of_on hhub _), ?_⟩
    have hpick : (if bitAt (cfgN s 0x240) 2 then 4 else if bitAt (cfgN s 0x240) 3 then 3 else 0) =
        (if bitAt (cfgN s 0x240) 2 then 4 else 3) := by
      rcases hsub with h | h <;> simp [h]
    have hguard : (s.on fPCIE_LINK_STATUS_DL_ACTIVE && linkPower s == 2
        && (if bitAt (cfgN s 0x240) 2 then 4 else 3) != 0) = true := by
      rw [hlink, hpower]
      split <;> rfl
    unfold clkreqChange
    dsimp only
    rw [if_neg (by decide), hpick, if_pos hguard]
    refine ⟨?_, rfl, fun o ho => ?_⟩
    · rw [linkPower, State.fv_mk, regsFv_regs]
      refine linkPower_setPower s ?_
      split <;> decide
    · rw [State.rn_mk, regsRn_regs]
      exact regs_setPower s _ o ho
  case clkreqOn =>
    intro s hhub hlink hpower
    refine ⟨_, congrArg Host.Outcome.next (hub_of_on hhub _), ?_⟩
    obtain ⟨hzero, hpcie, hregs⟩ := substate_exit (s := { s with pcie := { s.pcie with clkreq := true } }) hlink hpower
    exact ⟨hzero, congrArg Pcie.clkreq hpcie, hregs⟩
  case narrow =>
    intro s w hhub hlink hpower hflit hrate hen hw hlanes
    refine ⟨_, congrArg Host.Outcome.next (hub_of_on hhub _), ?_⟩
    have hwidth : w < 16 := by
      rcases hlanes with h | ⟨h, -⟩
      · omega
      · simp only [List.mem_cons, List.not_mem_nil, or_false] at h
        omega
    have hguard : (w == 4 || ((w == 2 || w == 1) && !hostStream s)) = true := by
      rcases hlanes with h | ⟨h, hs⟩
      · simp [h]
      · simp only [List.mem_cons, List.not_mem_nil, or_false] at h
        rcases h with h | h <;> simp [h, hs]
    unfold l0pNarrow
    simp only [hpower, hlink, hflit, hrate, hen, hguard, Nat.reduceEqDiff, if_false, hw, beq_self_eq_true, Bool.true_or, Bool.and_self, decide_true, if_true]
    obtain ⟨h1, h2, h3⟩ := narrowed_reads s hwidth
    refine ⟨h1, h2, h3, fun o ho => ?_⟩
    simp only [List.mem_cons, List.not_mem_nil, or_false, not_or] at ho
    rw [rn_bump_other ho.2, rn_setF_other ho.1, rn_setF_other ho.1]
  case noNarrow =>
    intro s w hhub hno
    refine ⟨_, congrArg Host.Outcome.next (hub_of_on hhub _), ?_⟩
    unfold l0pNarrow
    rcases hno with h | h | ⟨hw, hs⟩
    · simp [h]
    · simp [h]
    · have : (w == 4) = false := beq_eq_false_iff_ne.mpr (by omega)
      simp [this, hs]
  case widen =>
    intro s w hhub hlink hpower hnow hfull hw
    refine ⟨_, congrArg Host.Outcome.next (hub_of_on hhub _), ?_⟩
    unfold l0pWiden
    simp only [hpower, hlink, hnow, hfull, beq_self_eq_true, Bool.and_self, decide_true, if_true]
    by_cases hall : w = s.fv fPCIE_LINK_STATUS_WIDTH
    · have hall' : w = (s.bump fPCIE_CNT_C_L0P_CHANGES).fv fPCIE_LINK_STATUS_WIDTH := by
        rw [fv_bump_of_apart (by decide)]
        exact hall
      rw [if_pos hall', if_pos hall, if_pos hall]
      exact widened_full s
    · have hall' : ¬ w = (s.bump fPCIE_CNT_C_L0P_CHANGES).fv fPCIE_LINK_STATUS_WIDTH := by
        rw [fv_bump_of_apart (by decide)]
        exact hall
      rw [if_neg hall', if_neg hall, if_neg hall]
      exact widened_part hpower hw
  case d3 =>
    intro s hs hstate
    refine ⟨_, congrArg Host.Outcome.next (hostReq_of_asks hs _), ?_⟩
    rw [if_neg hstate]
    exact ⟨by rw [d3Entry_cfg]; rfl, d3Entry_power s, d3Entry_off (d3Entry_cfg s), (Keeps.of (keeps_d3Entry s)).mem rfl,
      (Keeps.of (keeps_d3Entry s)).ring rfl⟩
  case d0 =>
    intro s hs hstate
    refine ⟨_, congrArg Host.Outcome.next (hostReq_of_asks hs _), ?_⟩
    rw [if_pos hstate]
    obtain ⟨hcfg, hpower⟩ := d0Return_reads s
    exact ⟨hcfg, hpower, (Keeps.of (keeps_d0Return s)).mem rfl⟩
  case recovery =>
    intro s hhub hlink
    refine ⟨_, congrArg Host.Outcome.next (hub_of_on hhub _), ?_⟩
    rw [if_pos hlink]
    exact ⟨fv_bump_same (by decide) s, fun o ho => rn_bump_other (List.ne_of_not_mem_cons ho) s⟩
  case correctable =>
    intro s e b hhub hlink he
    refine ⟨_, congrArg Host.Outcome.next (hub_of_on hhub _), ?_⟩
    rw [if_pos hlink]
    have hall : ∀ b < 32, bitAt (cfgN (aerCorr s b) 0x110) b = true ∧ bitAt (cfgN (aerCorr s b) 0x078) 16 = true
        ∧ SameRegsBut s (aerCorr s b) [] ∧ (aerCorr s b).isl = s.isl := fun b hb =>
      ⟨(aerCorr_recorded hb s).1, (aerCorr_recorded hb s).2, fun o _ => rn_congr (aerCorr_regs s b) o, aerCorr_isl s b⟩
    simp only [List.mem_cons, List.not_mem_nil, or_false, Prod.mk.injEq] at he
    rcases he with ⟨rfl, rfl⟩ | ⟨rfl, rfl⟩ | ⟨rfl, rfl⟩ | ⟨rfl, rfl⟩ | ⟨rfl, rfl⟩ <;> exact hall _ (by decide)
  case corrected =>
    intro s hhub hlink
    refine ⟨_, congrArg Host.Outcome.next (hub_of_on hhub _), ?_⟩
    rw [if_pos hlink, linkError]
    refine ⟨?_, ?_, ?_, ?_⟩
    · rw [cfgN_report, cfgN_ev]
      exact (aerCorr_recorded (by decide) _).1
    · rw [report_fv, fv_ev_set (by decide) (by decide)]
      rfl
    · rw [report_fv, fv_ev_of_apart (by decide) (by decide), State.fv, rn_congr (aerCorr_regs _ _)]
      exact fv_bump_same (by decide) s
    · rw [State.report_inbox, State.ev_isl, aerCorr_isl, State.bump_isl]
  case uncorrectable =>
    intro s m hhub hlink
    refine ⟨_, congrArg Host.Outcome.next (hub_of_on hhub _), ?_⟩
    rw [if_pos hlink, linkError]
    refine ⟨?_, ?_, ?_⟩
    · rw [cfgN_report, cfgN_ev]
      exact bitAt_aerUncorr (by decide) s false
    · rw [report_fv, fv_ev_set (by decide) (by decide)]
      rfl
    · rw [State.report_inbox, State.ev_isl, aerUncorr_isl]
  case fatal =>
    intro s e b hhub hlink he
    refine ⟨_, congrArg Host.Outcome.next (hub_of_on hhub _), ?_⟩
    rw [if_pos hlink]
    have hall : ∀ b < 32, bitAt (cfgN (aerUncorr s b false) 0x104) b = true ∧ SameRegsBut s (aerUncorr s b false) [] :=
      fun b hb => ⟨bitAt_aerUncorr hb s false, fun o _ => rn_congr (aerUncorr_regs s b false) o⟩
    simp only [List.mem_cons, List.not_mem_nil, or_false, Prod.mk.injEq] at he
    rcases he with ⟨rfl, rfl⟩ | ⟨rfl, rfl⟩ | ⟨rfl, rfl⟩ | ⟨rfl, rfl⟩ <;> exact hall _ (by decide)

end Sys2Proof.Machine

namespace Sys2Proof.Machine

/-! ### GMAC keys (R518, R520) -/

/-- EN is written. -/
def gmacEn (s : State) (v : Word) : State := s.setF fIDENT_GMAC_CTRL_EN (bitsOf v.toNat 0 1)

theorem gmacCtrl_on {v : Word} (h : bitAt v.toNat 0 = true) (s : State) :
    gmacCtrl s v = if bitAt v.toNat 1 then gmacBind (gmacEn s v) else gmacEn s v := by
  simp [gmacCtrl, gmacEn, h]

theorem gmacCtrl_off {v : Word} (h : bitAt v.toNat 0 = false) (s : State) :
    gmacCtrl s v = if bitAt v.toNat 1 then gmacBind (gmacDiscard (gmacEn s v)) else gmacDiscard (gmacEn s v) := by
  simp [gmacCtrl, gmacEn, h]

theorem bitsOf_one_of_bitAt {n k : Nat} (h : bitAt n k = true) : bitsOf n k 1 = 1 := beq_iff_eq.mp h

theorem bitsOf_one_of_not_bitAt {n k : Nat} (h : bitAt n k = false) : bitsOf n k 1 = 0 := by
  have hne := beq_eq_false_iff_ne.mp h
  unfold bitsOf
  omega

theorem gmacEn_en {v : Word} (h : bitAt v.toNat 0 = true) (s : State) : (gmacEn s v).fv fIDENT_GMAC_CTRL_EN = 1 := by
  rw [gmacEn, State.fv_setF_same _ _ _ (by decide), bitsOf_one_of_bitAt h]
  rfl

theorem gmacEn_rn {o : Nat} (h : o ≠ rIDENT_GMAC_CTRL) (s : State) (v : Word) : (gmacEn s v).rn o = s.rn o :=
  rn_setF_other h

/-- The session that a bind names is not that of EN. -/
theorem gmacEn_session (s : State) (v : Word) :
    sessionOf (gmacEn s v) ((gmacEn s v).rn rIDENT_GMAC_SESSION) = sessionOf s (s.rn rIDENT_GMAC_SESSION) := by
  rw [gmacEn_rn (by decide), sessionOf, gmacEn, State.setF_spdm, sessionOf]

/-- A new key takes the place of the one in use. -/
def gmacKeyed (s : State) : State :=
  { s with taken := s.taken + 1, ident := { s.ident with cur := some (Config.freeNat s.taken), prev := s.ident.cur } }

/-- The status follows the new key. -/
def gmacShown (s : State) : State :=
  let t := (s.setF fIDENT_GMAC_STATUS_ACTIVE 1).setF fIDENT_GMAC_STATUS_PREV_VALID (b2n s.ident.prev.isSome)
  t.setF fIDENT_GMAC_STATUS_EPOCH (t.fv fIDENT_GMAC_STATUS_EPOCH + 1)

theorem gmacBind_of_finished {s : State} {x : SpdmSession} (hx : sessionOf s (s.rn rIDENT_GMAC_SESSION) = some x)
    (hfin : x.finished = true) :
    gmacBind s = (gmacShown (gmacKeyed s)).setPair rIDENT_GMAC_FROM_LO rIDENT_GMAC_FROM_HI s.dial := by
  unfold gmacBind
  rw [hx]
  exact if_pos hfin

theorem gmacBind_refused {s : State} (h : ∀ x, sessionOf s (s.rn rIDENT_GMAC_SESSION) = some x → x.finished = false) :
    gmacBind s = s.ev fATTIC_EVENT_GMAC_REFUSED := by
  unfold gmacBind
  split
  next x hx => rw [h x hx]; rfl
  next => rfl

theorem gmacShown_fields (s : State) :
    (gmacShown s).fv fIDENT_GMAC_STATUS_ACTIVE = 1
      ∧ (gmacShown s).fv fIDENT_GMAC_STATUS_PREV_VALID = b2n s.ident.prev.isSome
      ∧ (gmacShown s).fv fIDENT_GMAC_STATUS_EPOCH = (s.fv fIDENT_GMAC_STATUS_EPOCH + 1) % 2 ^ 16 := by
  refine ⟨?_, ?_, ?_⟩
  · rw [gmacShown, fv_setF_of_apart (by decide), fv_setF_of_apart (by decide), State.fv_setF_same _ _ _ (by decide)]
    rfl
  · rw [gmacShown, fv_setF_of_apart (by decide), State.fv_setF_same _ _ _ (by decide)]
    cases s.ident.prev <;> rfl
  · rw [gmacShown, State.fv_setF_same _ _ _ (by decide), fv_setF_of_apart (by decide), fv_setF_of_apart (by decide)]

theorem gmacShown_rn {o : Nat} (h : o ≠ rIDENT_GMAC_STATUS) (s : State) : (gmacShown s).rn o = s.rn o := by
  rw [gmacShown, rn_setF_other h, rn_setF_other h, rn_setF_other h]

theorem gmacDiscard_of_key {s : State} {k : Nat} (h : s.ident.cur = some k) :
    (gmacDiscard s).fv fIDENT_GMAC_STATUS_ACTIVE = 0
      ∧ (gmacDiscard s).isl.inbox = s.isl.inbox ++ [(faultCode 0x08 0 0x0008, 0)] := by
  unfold gmacDiscard
  rw [if_pos (by rw [h]; rfl)]
  dsimp only
  refine ⟨?_, ?_⟩
  · rw [report_fv, fv_ev_of_apart (by decide) (by decide), fv_setF_of_apart (by decide), State.fv_setF_same _ _ _ (by decide)]
    rfl
  · rw [State.report_inbox, State.ev_isl, State.setF_isl, State.setF_isl]

/-! ### Banks (R522 to R525) -/

theorem bankIdx_lt {part bank : Nat} (hb : bank ≤ 1) : bankIdx part bank < 4 := by
  unfold bankIdx
  split <;> omega

theorem setBank_valid {part bank : Nat} (hb : bank ≤ 1) (s : State) (valid : Bool) (seq : Nat) :
    bankValid (setBank s part bank valid seq) part bank = valid := by
  have hidx := bankIdx_lt (part := part) hb
  rw [bankValid, State.bitAt_fv hidx, Nat.zero_add, State.on_eq, setBank,
    State.fv_setRn_other (show 0xb0000 ≠ 0xb0004 + 4 * bankIdx part bank by omega),
    State.fv_setF_same _ _ _ (by dsimp only; omega)]
  cases valid <;> rfl

theorem setBank_seq (s : State) (part bank seq : Nat) :
    bankSeq (setBank s part bank true seq) part bank = seq % 2 ^ 32 := by
  rw [bankSeq, setBank, State.rn_setRn_same]
  rfl

theorem ifSetBank_attic (n : Nat) (s : State) (part bank : Nat) :
    (if n = 0 then setBank s part bank false 0 else s).attic = s.attic := by
  split
  · exact (Keeps.of (keeps_setBank s part bank false 0)).attic rfl
  · rfl

theorem bankValid_of_status {s t : State} (h : t.fv fATTIC_STATUS_VALID = s.fv fATTIC_STATUS_VALID) (part bank : Nat) :
    bankValid t part bank = bankValid s part bank := by
  rw [bankValid, h, bankValid]

theorem configBank_valid (s : State) : (configBank s).fv fATTIC_STATUS_VALID = s.fv fATTIC_STATUS_VALID := by
  unfold configBank
  split
  · rw [fv_setF_of_apart (by decide), fv_setF_of_apart (by decide)]
  · rw [fv_setF_of_apart (by decide), fv_setF_of_apart (by decide)]

theorem configBank_rn {o : Nat} (h : o ≠ rATTIC_STATUS) (s : State) : (configBank s).rn o = s.rn o := by
  unfold configBank
  split
  · rw [rn_setF_other h, rn_setF_other h]
  · rw [rn_setF_other h, rn_setF_other h]

theorem updSeq_lt (s : State) (part : Nat) : updSeq s part < 2 ^ 32 := by
  unfold updSeq
  split
  · exact Nat.mod_lt _ (by decide)
  · decide

/-! ### A bank update (R527, R528) -/

theorem updEnd_fields (s : State) {result : Nat} (h : result < 4) :
    (updEnd s result).fv fATTIC_UPD_STATUS_STATE = 2 ∧ (updEnd s result).fv fATTIC_UPD_STATUS_RESULT = result
      ∧ (updEnd s result).fv fATTIC_EVENT_UPD_DONE = 1 := by
  unfold updEnd
  dsimp only
  refine ⟨?_, ?_, ?_⟩
  · rw [fv_ev_of_apart (by decide) (by decide), State.fv_mk, regsFv_regs, fv_setF_of_apart (by decide),
      State.fv_setF_same _ _ _ (by decide)]
    rfl
  · rw [fv_ev_of_apart (by decide) (by decide), State.fv_mk, regsFv_regs, State.fv_setF_same _ _ _ (by decide)]
    exact Nat.mod_eq_of_lt h
  · rw [fv_ev_set (by decide) (by decide)]
    rfl

theorem updEnd_attic (s : State) (result : Nat) : (updEnd s result).attic = { s.attic with upd := none } := by
  unfold updEnd
  dsimp only
  rw [State.ev_attic, State.setF_attic, State.setF_attic]

theorem updEnd_upd (s : State) (result : Nat) : (updEnd s result).attic.upd = none := by
  have hattic := updEnd_attic s result
  rw [hattic]

theorem updEnd_isl (s : State) (result : Nat) : (updEnd s result).isl = s.isl := by
  unfold updEnd
  dsimp only
  rw [State.ev_isl, State.setF_isl, State.setF_isl]

theorem updEnd_rn {o : Nat} (hstatus : o ≠ rATTIC_UPD_STATUS) (hevent : o ≠ rATTIC_EVENT) (hirq : ¬ irqReg o) (s : State)
    (result : Nat) : (updEnd s result).rn o = s.rn o := by
  unfold updEnd
  dsimp only
  rw [rn_ev hevent hirq, State.rn_mk, regsRn_regs, rn_setF_other hstatus, rn_setF_other hstatus]

/-- An update that is refused, or whose image fails, ends with RESULT 1 and its code. -/
theorem updEnd_refused (s : State) :
    (updEnd (s.report 0x08 0 0x0004) 1).fv fATTIC_UPD_STATUS_RESULT = 1
      ∧ (updEnd (s.report 0x08 0 0x0004) 1).attic = { s.attic with upd := none }
      ∧ (updEnd (s.report 0x08 0 0x0004) 1).fv fATTIC_EVENT_UPD_DONE = 1
      ∧ (updEnd (s.report 0x08 0 0x0004) 1).isl.inbox = s.isl.inbox ++ [(faultCode 0x08 0 0x0004, 0)] := by
  obtain ⟨-, hresult, hdone⟩ := updEnd_fields (s.report 0x08 0 0x0004) (result := 1) (by decide)
  refine ⟨hresult, updEnd_attic _ _, hdone, ?_⟩
  rw [updEnd_isl, State.report_inbox]

/-- An update has started in bank `bank`. -/
def updBegun (s : State) (bank : Nat) : State :=
  ((s.setRn rATTIC_UPD_STATUS 0).setF fATTIC_UPD_STATUS_STATE 1).setF fATTIC_UPD_STATUS_BANK bank

theorem updBegun_fields {bank : Nat} (h : bank ≤ 1) (s : State) :
    (updBegun s bank).fv fATTIC_UPD_STATUS_STATE = 1 ∧ (updBegun s bank).fv fATTIC_UPD_STATUS_RESULT = 0
      ∧ (updBegun s bank).fv fATTIC_UPD_STATUS_PAGES = 0 ∧ (updBegun s bank).fv fATTIC_UPD_STATUS_BANK = bank := by
  have hzero : ∀ f : Fld, f.off = rATTIC_UPD_STATUS → (s.setRn rATTIC_UPD_STATUS 0).fv f = 0 := by
    intro f hf
    rw [State.fv, hf, State.rn_setRn_same, bitsOf, Nat.zero_mod, Nat.zero_div, Nat.zero_mod]
  refine ⟨?_, ?_, ?_, ?_⟩
  · rw [updBegun, fv_setF_of_apart (by decide), State.fv_setF_same _ _ _ (by decide)]
    rfl
  · rw [updBegun, fv_setF_of_apart (by decide), fv_setF_of_apart (by decide), hzero _ rfl]
  · rw [updBegun, fv_setF_of_apart (by decide), fv_setF_of_apart (by decide), hzero _ rfl]
  · rw [updBegun, State.fv_setF_same _ _ _ (by decide)]
    exact Nat.mod_eq_of_lt (show bank < 2 by omega)

theorem updBegun_rn {o : Nat} (h : o ≠ rATTIC_UPD_STATUS) (s : State) (bank : Nat) : (updBegun s bank).rn o = s.rn o := by
  rw [updBegun, rn_setF_other h, rn_setF_other h, State.rn_setRn_other h]

theorem updTarget_le (s : State) (part : Nat) : updTarget s part ≤ 1 := by
  unfold updTarget
  split
  · omega
  · split <;> omega

/-- An erased sector reads as ones. -/
theorem atticByte_erased {s : State} {k a : Nat} (h : a / 65536 = k) : atticByte (atticErase s k) a = 0xFF := by
  have hget : kget a (atticErase s k).attic.bytes = none := by
    rw [atticErase, kget_kfilter, if_neg (by simp [h])]
  unfold atticByte
  split
  · rfl
  · rw [hget, if_pos (by rw [h]; exact List.contains_iff_mem.mpr (List.mem_cons_self ..))]

theorem atticByte_of_attic {s t : State} (hb : t.attic.bytes = s.attic.bytes) (he : t.attic.erased = s.attic.erased)
    (a : Nat) : atticByte t a = atticByte s a := by
  unfold atticByte
  rw [hb, he]

/-! ### Reading the Attic (R532) -/

theorem foldl_readData (bs : List Byte) (l : List Nat) (s : State) (o : Nat) (h : ∀ i ∈ l, o ≠ rATTIC_READ_DATA i) :
    (l.foldl (fun s i => s.setRn (rATTIC_READ_DATA i) (leAt bs (4 * i) 4)) s).rn o = s.rn o := by
  induction l generalizing s with
  | nil => rfl
  | cons i l ih =>
    rw [List.foldl_cons, ih _ fun j hj => h j (List.mem_cons_of_mem _ hj),
      State.rn_setRn_other (h i (List.mem_cons_self ..))]

theorem foldl_readData_attic (bs : List Byte) (l : List Nat) (s : State) :
    (l.foldl (fun s i => s.setRn (rATTIC_READ_DATA i) (leAt bs (4 * i) 4)) s).attic = s.attic := by
  induction l generalizing s with
  | nil => rfl
  | cons i l ih => exact ih _

theorem foldl_readData_at (bs : List Byte) {l : List Nat} (hl : l.Nodup) {i : Nat} (hi : i ∈ l) (s : State) :
    (l.foldl (fun s i => s.setRn (rATTIC_READ_DATA i) (leAt bs (4 * i) 4)) s).rn (rATTIC_READ_DATA i)
      = leAt bs (4 * i) 4 % 2 ^ 32 := by
  induction l generalizing s with
  | nil => cases hi
  | cons j l ih =>
    obtain ⟨hj, hl⟩ := List.nodup_cons.mp hl
    rw [List.foldl_cons]
    rcases List.mem_cons.mp hi with rfl | hmem
    · rw [foldl_readData, State.rn_setRn_same]
      intro k hk
      have hne : i ≠ k := fun e => hj (e ▸ hk)
      show 0xb0100 + 4 * i ≠ 0xb0100 + 4 * k
      omega
    · exact ih hl hmem _

theorem leNat_lt (bs : List Byte) : leNat bs < 256 ^ bs.length := by
  induction bs with
  | nil => decide
  | cons b bs ih =>
    have hb : b.toNat < 256 := b.isLt
    rw [leNat, List.length_cons, pow_succ]
    omega

theorem leAt_atticRead {s : State} {a k : Nat} (h : k + 4 ≤ 256) :
    leAt (atticRead s a 256) k 4 = leNat (atticRead s (a + k) 4) := by
  have hcut : ((atticRead s a 256).drop k).take 4 = atticRead s (a + k) 4 := by
    refine List.ext_getElem ?_ fun i h1 h2 => ?_
    · simp [atticRead]
      omega
    · simp [atticRead, Nat.add_assoc]
  rw [leAt, hcut]

theorem setUpd_fv (s : State) (u : AtticUpd) (f : Fld) : (setUpd s u).fv f = s.fv f := rfl

theorem setUpd_bankValid (s : State) (u : AtticUpd) (part bank : Nat) :
    bankValid (setUpd s u) part bank = bankValid s part bank := rfl

theorem setUpd_rn (s : State) (u : AtticUpd) (o : Nat) : (setUpd s u).rn o = s.rn o := rfl

theorem setUpd_bytes (s : State) (u : AtticUpd) : (setUpd s u).attic.bytes = s.attic.bytes := rfl

theorem atticProgram_fv (s : State) (a : Nat) (bs : List Byte) (f : Fld) : (atticProgram s a bs).fv f = s.fv f := rfl

theorem atticProgram_rn (s : State) (a : Nat) (bs : List Byte) (o : Nat) : (atticProgram s a bs).rn o = s.rn o := rfl

/-- The pages of the body, and then the header, which completes the bank. -/
theorem pageProgrammed_body {s : State} {u : AtticUpd} (hu : s.attic.upd = some u) (hstep : u.step = 2) :
    pageProgrammed s = setUpd ((atticProgram s (bankBase u.part u.bank + max 64 (256 * u.next))
        (memRead s (u.src + max 64 (256 * u.next))
          (min (64 + u.length) (256 * (u.next + 1)) - max 64 (256 * u.next)))).bump fATTIC_UPD_STATUS_PAGES)
      (if u.next + 1 < ceilDiv (64 + u.length) 256 then { u with next := u.next + 1 } else { u with step := 3, next := 0 }) := by
  unfold pageProgrammed
  rw [hu]
  simp only [hstep, if_true]
  split <;> rfl

/-- The header stands, and its bank is valid with its SEQ. -/
def headerWritten (s : State) (u : AtticUpd) : State :=
  setBank ((atticProgram s (bankBase u.part u.bank) (newHeader s u)).bump fATTIC_UPD_STATUS_PAGES) u.part u.bank true
    (updSeq s u.part)

theorem headerWritten_bytes (s : State) (u : AtticUpd) :
    (headerWritten s u).attic.bytes = atticPut (bankBase u.part u.bank) (newHeader s u) s.attic.bytes := by
  rw [headerWritten, (Keeps.of (keeps_setBank _ _ _ _ _)).attic rfl, State.bump_attic, atticProgram]

theorem pageProgrammed_header {s : State} {u : AtticUpd} (hu : s.attic.upd = some u) (hstep : u.step = 4) :
    pageProgrammed s = updEnd (if u.part = 0 then configBank (headerWritten s u) else headerWritten s u) 0 := by
  unfold pageProgrammed
  rw [hu]
  simp only [hstep, show ¬ (4 : Nat) = 2 by decide, if_false, if_true]
  rfl

/-- The choice of the CONFIG bank leaves every bank as it is known. -/
theorem headerEnded_bank {s : State} {part bank : Nat} (hb : bank ≤ 1) (u : State) (hu : u = configBank s ∨ u = s)
    (hvalid : bankValid s part bank = true) :
    bankValid (updEnd u 0) part bank = true ∧ bankSeq (updEnd u 0) part bank = bankSeq s part bank := by
  have hidx := bankIdx_lt (part := part) hb
  have hseq : ∀ o, o = rATTIC_SEQ (bankIdx part bank) → o ≠ rATTIC_STATUS ∧ o ≠ rATTIC_UPD_STATUS ∧ o ≠ rATTIC_EVENT
      ∧ ¬ irqReg o := by
    rintro o rfl
    show 0xb0004 + 4 * bankIdx part bank ≠ 0xb0000 ∧ 0xb0004 + 4 * bankIdx part bank ≠ 0xb0030
      ∧ 0xb0004 + 4 * bankIdx part bank ≠ 0xb0034 ∧ ¬ irqReg (0xb0004 + 4 * bankIdx part bank)
    unfold irqReg
    omega
  obtain ⟨hstatus, hupd, hevent, hirq⟩ := hseq _ rfl
  have hend : (updEnd u 0).fv fATTIC_STATUS_VALID = u.fv fATTIC_STATUS_VALID := by
    rw [State.fv, updEnd_rn (by decide) (by decide) (by unfold irqReg; decide), State.fv]
  have hu' : u.fv fATTIC_STATUS_VALID = s.fv fATTIC_STATUS_VALID ∧
      u.rn (rATTIC_SEQ (bankIdx part bank)) = s.rn (rATTIC_SEQ (bankIdx part bank)) := by
    rcases hu with rfl | rfl
    · exact ⟨configBank_valid s, configBank_rn hstatus s⟩
    · exact ⟨rfl, rfl⟩
  refine ⟨?_, ?_⟩
  · rw [bankValid_of_status (hend.trans hu'.1), hvalid]
  · rw [bankSeq, updEnd_rn hupd hevent hirq, hu'.2, bankSeq]

theorem sectorErased_eq {s : State} {u : AtticUpd} (hu : s.attic.upd = some u) (hstep : u.step = 1) :
    sectorErased s = setUpd (if u.next = 0 then
        setBank (atticErase s (bankBase u.part u.bank / 65536 + u.next)) u.part u.bank false 0
        else atticErase s (bankBase u.part u.bank / 65536 + u.next))
      (if u.next + 1 < ceilDiv (64 + u.length) 65536 then { u with next := u.next + 1 }
        else { u with step := 2, next := 0 }) := by
  unfold sectorErased
  rw [hu]
  simp only [hstep, ne_eq, not_true_eq_false, if_false]
  split <;> rfl

theorem updCtrl_started {s : State} {v : Word} (hstart : bitAt v.toNat 16 = true) (hkey : bitsOf v.toNat 0 16 = 0xA771)
    (hidle : s.fv fATTIC_UPD_STATUS_STATE ≠ 1) (hrange : lpRange s (updSrc s) (s.fv fATTIC_UPD_LEN_BYTES) = true)
    (hbody : leNat (memRead s (updSrc s + 0x0C) 4) ≤ bankSize (bitsOf v.toNat 17 1))
    (hlen : s.fv fATTIC_UPD_LEN_BYTES = round256 (64 + leNat (memRead s (updSrc s + 0x0C) 4))) :
    updCtrl s v = setUpd (updBegun s (updTarget s (bitsOf v.toNat 17 1)))
      { part := bitsOf v.toNat 17 1, bank := updTarget s (bitsOf v.toNat 17 1), src := updSrc s,
        length := leNat (memRead s (updSrc s + 0x0C) 4), step := 0, next := 0, crc := 0, header := [] } := by
  unfold updCtrl
  simp only [hstart, hkey, hidle, hrange, Bool.not_true, Bool.false_eq_true, if_false, ne_eq, not_true_eq_false,
    decide_false, Bool.or_self, Nat.not_lt.mpr hbody, ← hlen]
  rfl

theorem updCtrl_refused {s : State} {v : Word} (hstart : bitAt v.toNat 16 = true)
    (hidle : s.fv fATTIC_UPD_STATUS_STATE ≠ 1)
    (hbad : bitsOf v.toNat 0 16 ≠ 0xA771 ∨ lpRange s (updSrc s) (s.fv fATTIC_UPD_LEN_BYTES) = false
      ∨ bankSize (bitsOf v.toNat 17 1) < leNat (memRead s (updSrc s + 0x0C) 4)
      ∨ s.fv fATTIC_UPD_LEN_BYTES ≠ round256 (64 + leNat (memRead s (updSrc s + 0x0C) 4))) :
    updCtrl s v = updEnd (s.report 0x08 0 0x0004) 1 := by
  unfold updCtrl
  simp only [hstart, hidle, Bool.not_true, Bool.false_eq_true, if_false]
  split
  · rfl
  next hgood =>
    simp only [ne_eq, Bool.or_eq_true, decide_eq_true_eq, Bool.not_eq_true', not_or, not_not, Bool.not_eq_false] at hgood
    rcases hbad with h | h | h
    · exact absurd hgood.1 h
    · rw [hgood.2] at h
      cases h
    · exact if_pos (by simpa using h)

/-- Settles O37: keys by `gmacCtrl`, and an update by its steps. -/
theorem keysAndBanks : Obligations.KeysAndBanks := by
  refine ⟨?bind, ?refused, ?enable, ?disable, ?start, ?badStart, ?busy, ?checked, ?badImage, ?erased, ?page, ?header,
    ?readback, ?badReadback, ?readAddr⟩
  case bind =>
    intro s x v hhub hen hbind hx hfin hdial
    refine ⟨_, congrArg Host.Outcome.next (hub_of_on hhub _), ?_⟩
    rw [gmacCtrl_on hen, if_pos hbind, gmacBind_of_finished ((gmacEn_session s v).trans hx) hfin]
    obtain ⟨hactive, hprev, hepoch⟩ := gmacShown_fields (gmacKeyed (gmacEn s v))
    refine ⟨rfl, rfl, ?_, ?_, ?_, ?_, ?_, fun o ho => ?_⟩
    · rw [State.fv_setPair_other (by decide), hactive]
    · rw [State.fv_setPair_other (by decide), hprev]
      rfl
    · rw [State.fv_setPair_other (by decide), hepoch]
      congr 2
      rw [gmacKeyed, State.fv_mk, regsFv_regs, gmacEn, State.fv_setF_other (by decide)]
    · rw [State.pair_setPair_same (by decide)]
      exact Nat.mod_eq_of_lt hdial
    · rw [State.fv_setPair_other (by decide), State.fv, gmacShown_rn (by decide)]
      exact gmacEn_en hen s
    · simp only [List.mem_cons, List.not_mem_nil, or_false, not_or] at ho
      obtain ⟨hctrl, hstatus, hlo, hhi⟩ := ho
      rw [State.rn_setPair_other hlo hhi, gmacShown_rn hstatus, gmacKeyed, State.rn_mk, regsRn_regs, gmacEn_rn hctrl]
  case refused =>
    intro s v hhub hen hbind hx
    refine ⟨_, congrArg Host.Outcome.next (hub_of_on hhub _), ?_⟩
    rw [gmacCtrl_on hen, if_pos hbind, gmacBind_refused (by rw [gmacEn_session]; exact hx)]
    refine ⟨?_, ?_, ?_⟩
    · rw [State.ev_ident, gmacEn, State.setF_ident]
    · rw [fv_ev_set (by decide) (by decide)]
      rfl
    · rw [rn_ev_other (by decide) (by decide), gmacEn_rn (by decide)]
  case enable =>
    intro s v hhub hen hbind
    refine ⟨_, congrArg Host.Outcome.next (hub_of_on hhub _), ?_⟩
    rw [gmacCtrl_on hen, if_neg (by rw [hbind]; decide)]
    exact ⟨gmacEn_en hen s, State.setF_ident _ _ _, fun o ho => gmacEn_rn (List.ne_of_not_mem_cons ho) s v⟩
  case disable =>
    intro s v k hhub hen hbind hk
    refine ⟨_, congrArg Host.Outcome.next (hub_of_on hhub _), ?_⟩
    rw [gmacCtrl_off hen, if_neg (by rw [hbind]; decide)]
    obtain ⟨hcur, hprev⟩ := gmacDiscard_keys (gmacEn s v)
    obtain ⟨hactive, hinbox⟩ := gmacDiscard_of_key (s := gmacEn s v) (by rw [gmacEn, State.setF_ident, hk])
    refine ⟨?_, hcur, hprev, hactive, ?_⟩
    · rw [State.fv, rn_gmacDiscard (by decide) (by decide) (by unfold irqReg; decide)]
      change (gmacEn s v).fv fIDENT_GMAC_CTRL_EN = 0
      rw [gmacEn, State.fv_setF_same _ _ _ (by decide), bitsOf_one_of_not_bitAt hen]
      rfl
    · rw [hinbox, gmacEn, State.setF_isl]
  case start =>
    intro s v part body hhub hstart hpart hkey hidle hrange hbody hsize hlen hconfig
    subst hpart hbody
    refine ⟨_, congrArg Host.Outcome.next (hub_of_on hhub _), ?_⟩
    rw [updCtrl_started hstart hkey hidle hrange hsize hlen]
    obtain ⟨hstate, hresult, hpages, hbank⟩ := updBegun_fields (updTarget_le s (bitsOf v.toNat 17 1)) s
    refine ⟨hstate, hresult, hpages, hbank.trans ?_, rfl, ?_, fun o ho => ?_⟩
    · rw [updTarget, State.on_eq, hconfig]
      rfl
    · rfl
    · exact updBegun_rn (List.ne_of_not_mem_cons ho) s _
  case badStart =>
    intro s v hhub hstart hidle hbad
    refine ⟨_, congrArg Host.Outcome.next (hub_of_on hhub _), ?_⟩
    rw [updCtrl_refused hstart hidle hbad]
    obtain ⟨hresult, hattic, hdone, hinbox⟩ := updEnd_refused s
    rw [hattic]
    exact ⟨hresult, rfl, rfl, rfl, hdone, hinbox⟩
  case busy =>
    intro s v hhub hstart hbusy
    refine ⟨_, congrArg Host.Outcome.next (hub_of_on hhub _), ?_⟩
    have hctrl : updCtrl s v = (s.report 0x08 0 0x0004).setF fATTIC_UPD_STATUS_RESULT 1 := by
      simp [updCtrl, hstart, hbusy]
    rw [hctrl]
    refine ⟨?_, ?_, ?_, ?_, fun o ho => ?_⟩
    · rw [State.fv_setF_same _ _ _ (by decide)]
      rfl
    · rw [State.setF_attic, State.report_attic]
    · rw [fv_setF_of_apart (by decide), report_fv, hbusy]
    · rw [State.setF_isl, State.report_inbox]
    · rw [rn_setF_other (List.ne_of_not_mem_cons ho), rn_report]
  case checked =>
    intro s u sigOk hhub hu hstep hok
    refine ⟨_, congrArg Host.Outcome.next (hub_of_on hhub _), ?_⟩
    have hdone : imageChecked s sigOk = setUpd s { u with step := 1, header := memRead s u.src 64, crc := leAt (memRead s u.src 64) 0x1C 4 } := by
      simp [imageChecked, hu, hstep, hok]
    rw [hdone]
    exact ⟨rfl, rfl, rfl⟩
  case badImage =>
    intro s u sigOk hhub hu hstep hbad
    refine ⟨_, congrArg Host.Outcome.next (hub_of_on hhub _), ?_⟩
    have hdone : imageChecked s sigOk = updEnd (s.report 0x08 0 0x0004) 1 := by
      simp [imageChecked, hu, hstep, hbad]
    obtain ⟨hresult, hattic, hev, hinbox⟩ := updEnd_refused s
    rw [hdone]
    exact ⟨by rw [hattic], hresult, by rw [hattic], by rw [hattic], hev, hinbox⟩
  case erased =>
    intro s u k hhub hu hstep hpart hbank hnext hlen hk
    subst hk
    refine ⟨_, congrArg Host.Outcome.next (hub_of_on hhub _), ?_⟩
    rw [sectorErased_eq hu hstep]
    refine ⟨fun i hi => ?_, fun hzero => ?_, rfl⟩
    · rw [← atticByte_erased (s := s) (k := bankBase u.part u.bank / 65536 + u.next)
        (a := (bankBase u.part u.bank / 65536 + u.next) * 65536 + i) (by omega)]
      have hattic := ifSetBank_attic u.next (atticErase s (bankBase u.part u.bank / 65536 + u.next)) u.part u.bank
      exact atticByte_of_attic (congrArg Attic.bytes hattic) (congrArg Attic.erased hattic) _
    · rw [if_pos hzero, setUpd_bankValid, setBank_valid hbank]
  case page =>
    intro s u lo hi hhub hu hstep hlo hhi
    subst hlo hhi
    refine ⟨_, congrArg Host.Outcome.next (hub_of_on hhub _), ?_⟩
    rw [pageProgrammed_body hu hstep]
    refine ⟨?_, ?_, rfl, fun o ho => ?_⟩
    · rw [setUpd_bytes, State.bump_attic, atticProgram]
    · rw [setUpd_fv, fv_bump_same (by decide), atticProgram_fv]
    · rw [setUpd_rn, rn_bump_other (List.ne_of_not_mem_cons ho), atticProgram_rn]
  case header =>
    intro s u hhub hu hstep hpart hbank
    refine ⟨_, congrArg Host.Outcome.next (hub_of_on hhub _), ?_⟩
    rw [pageProgrammed_header hu hstep]
    have hchosen := ite_eq_or_eq (u.part = 0) (configBank (headerWritten s u)) (headerWritten s u)
    generalize (if u.part = 0 then configBank (headerWritten s u) else headerWritten s u) = t at hchosen ⊢
    have hattic : t.attic = (headerWritten s u).attic := by
      rcases hchosen with rfl | rfl
      · exact (Keeps.of (keeps_configBank _)).attic rfl
      · rfl
    obtain ⟨hstate, hresult, hdone⟩ := updEnd_fields t (result := 0) (by decide)
    obtain ⟨hvalid, hseq⟩ := headerEnded_bank hbank t hchosen (setBank_valid hbank _ true (updSeq s u.part))
    refine ⟨?_, ?_, hvalid, hseq.trans ?_, hresult, hstate, hdone⟩
    · rw [updEnd_attic, hattic]
      exact headerWritten_bytes s u
    · exact updEnd_upd t 0
    · rw [headerWritten, setBank_seq]
      exact Nat.mod_eq_of_lt (updSeq_lt s u.part)
  case readback =>
    intro s u hhub hu hstep hcrc
    refine ⟨_, congrArg Host.Outcome.next (hub_of_on hhub _), ?_⟩
    have hdone : readbackDone s true = setUpd s { u with step := 4 } := by
      simp [readbackDone, hu, hstep, hcrc]
    rw [hdone]
    exact ⟨rfl, rfl⟩
  case badReadback =>
    intro s u held hhub hu hstep hbad
    refine ⟨_, congrArg Host.Outcome.next (hub_of_on hhub _), ?_⟩
    have hdone : readbackDone s held = updEnd (s.report 0x08 0 0x0005) 2 := by
      rcases hbad with h | h
      · simp [readbackDone, hu, hstep, h]
      · simp [readbackDone, hu, hstep, h]
    rw [hdone]
    refine ⟨?_, (updEnd_fields _ (by decide)).2.1, ?_, ?_⟩
    · rw [updEnd_attic]
    · rw [updEnd_attic, State.report_attic]
    · rw [updEnd_isl, State.report_inbox]
  case readAddr =>
    intro s v hhub
    refine ⟨_, congrArg Host.Outcome.next (hub_of_on hhub _), ?_⟩
    have hbytes : ∀ a n, atticRead (s.setF fATTIC_READ_ADDR_ADDR (bitsOf v.toNat 8 18)) a n = atticRead s a n := fun _ _ => rfl
    unfold readAddr
    dsimp only
    rw [hbytes]
    refine ⟨?_, ?_, fun i hi => ?_⟩
    · rw [State.fv, foldl_readData]
      · exact (State.fv_setF_same s fATTIC_READ_ADDR_ADDR _ (by decide)).trans (Nat.mod_eq_of_lt (bitsOf_lt _ _ _))
      · intro i _
        show 0xb0040 ≠ 0xb0100 + 4 * i
        omega
    · rw [foldl_readData_attic, State.setF_attic]
    · rw [foldl_readData_at _ List.nodup_range (List.mem_range.mpr hi), leAt_atticRead (by omega)]
      refine Nat.mod_eq_of_lt ((leNat_lt _).trans_eq ?_)
      simp [atticRead]

end Sys2Proof.Machine

namespace Sys2Proof.Machine

/-! ### The error log (R406) -/

/-- The registers of the log, and of its place and its counter. -/
def LogRegs (o : Nat) : Prop := o = rBRIDGE_STATUS ∨ o = rBRIDGE_CNT_A ∨ 0x1200100 ≤ o ∧ o < 0x1200300

theorem logRegs_offRings : OffRings LogRegs := by
  intro o ho
  have hcases : o = 0x1200004 ∨ o = 0x1200010 ∨ 0x1200100 ≤ o ∧ o < 0x1200300 := ho
  omega

theorem logRegs_event (f : Fld) (h : f.off = rBRIDGE_EVENT) : ¬ LogRegs f.off := by
  rw [h]
  show ¬ (0x1200008 = 0x1200004 ∨ 0x1200008 = 0x1200010 ∨ 0x1200100 ≤ 0x1200008 ∧ 0x1200008 < 0x1200300)
  omega

/-- The log wraps where slot `e` is in use. -/
def logWrapped (s : State) (e : Nat) : State :=
  if s.on (fBRIDGE_ERRLOG_INFO_VALID e) then s.setF fBRIDGE_STATUS_WRAPPED 1 else s

/-- Slot `e` of the log is written. -/
def logSlot (s : State) (e addr data time info : Nat) : State :=
  (((s.setPair (rBRIDGE_ERRLOG_ADDR_LO e) (rBRIDGE_ERRLOG_ADDR_HI e) addr).setPair (rBRIDGE_ERRLOG_DATA_LO e)
    (rBRIDGE_ERRLOG_DATA_HI e) data).setPair (rBRIDGE_ERRLOG_TIME_LO e) (rBRIDGE_ERRLOG_TIME_HI e) time).setRn
    (rBRIDGE_ERRLOG_INFO e) info

/-- The next slot follows slot `e`. -/
def logNext (s : State) (e : Nat) : State :=
  (s.setF fBRIDGE_STATUS_ERRLOG_NEXT ((e + 1) % 16)).bump fBRIDGE_CNT_A_FAILED

/-- The entry is written, before anyone is told. -/
def logEntry (s : State) (kind port addr data result cause : Nat) : State :=
  let e := s.fv fBRIDGE_STATUS_ERRLOG_NEXT
  logNext (logSlot (logWrapped s e) e addr data (logWrapped s e).dial
    (kind + 4 + port % 256 * 2 ^ 8 + result % 16 * 2 ^ 16 + cause % 16 * 2 ^ 20)) e

theorem errLog_eq (s : State) (kind port addr data result cause : Nat) :
    errLog s kind port addr data result cause =
      if kind = 0 then
        asyncPost (((logEntry s kind port addr data result cause).ev fBRIDGE_EVENT_POSTED_FAIL).report 0x16 port 0x0001)
          0x81 addr (logEntry s kind port addr data result cause).dial (s.fv fBRIDGE_STATUS_ERRLOG_NEXT) port
      else if kind = 2 then
        asyncPost (((logEntry s kind port addr data result cause).ev fBRIDGE_EVENT_POSTED_FAIL).report 0x16 port 0x0003)
          0x81 addr (logEntry s kind port addr data result cause).dial (s.fv fBRIDGE_STATUS_ERRLOG_NEXT) (0x100 + port)
      else logEntry s kind port addr data result cause := rfl

theorem logWrapped_same (s : State) (e : Nat) : (logWrapped s e).isl = s.isl ∧ (logWrapped s e).regu = s.regu := by
  unfold logWrapped
  split
  · exact ⟨State.setF_isl _ _ _, State.setF_regu _ _ _⟩
  · exact ⟨rfl, rfl⟩

theorem logEntry_isl (s : State) (kind port addr data result cause : Nat) :
    (logEntry s kind port addr data result cause).isl = s.isl := by
  unfold logEntry logNext logSlot
  dsimp only
  rw [State.bump_isl, State.setF_isl, State.setRn_isl, State.setPair_isl, State.setPair_isl, State.setPair_isl,
    (logWrapped_same s _).1]

/-- Slot `e` of the log, its fields one by one. -/
theorem logSlot_reads (s : State) (e addr data time : Nat) {info : Nat} (hinfo : info < 2 ^ 32) :
    (logSlot s e addr data time info).rn (rBRIDGE_ERRLOG_INFO e) = info
      ∧ (logSlot s e addr data time info).pair (rBRIDGE_ERRLOG_ADDR_LO e) (rBRIDGE_ERRLOG_ADDR_HI e) = addr % 2 ^ 64
      ∧ (logSlot s e addr data time info).pair (rBRIDGE_ERRLOG_DATA_LO e) (rBRIDGE_ERRLOG_DATA_HI e) = data % 2 ^ 64
      ∧ (logSlot s e addr data time info).pair (rBRIDGE_ERRLOG_TIME_LO e) (rBRIDGE_ERRLOG_TIME_HI e) = time % 2 ^ 64
      ∧ ∀ o, o < 0x1200100 → (logSlot s e addr data time info).rn o = s.rn o := by
  unfold logSlot
  have hpair : ∀ (u : State) (a b lo hi v : Nat), a ≠ lo → a ≠ hi → b ≠ lo → b ≠ hi →
      (u.setPair lo hi v).pair a b = u.pair a b := fun u a b lo hi v h1 h2 h3 h4 => by
    rw [State.pair, State.rn_setPair_other h1 h2, State.rn_setPair_other h3 h4, State.pair]
  have hrn : ∀ (u : State) (a b o v : Nat), a ≠ o → b ≠ o → (u.setRn o v).pair a b = u.pair a b :=
    fun u a b o v h1 h2 => by rw [State.pair, State.rn_setRn_other h1, State.rn_setRn_other h2, State.pair]
  refine ⟨?_, ?_, ?_, ?_, fun o ho => ?_⟩
  · rw [State.rn_setRn_same]
    exact Nat.mod_eq_of_lt hinfo
  · rw [hrn _ _ _ _ _ (by grind) (by grind), hpair _ _ _ _ _ _ (by grind) (by grind) (by grind) (by grind),
      hpair _ _ _ _ _ _ (by grind) (by grind) (by grind) (by grind), State.pair_setPair_same (by grind)]
  · rw [hrn _ _ _ _ _ (by grind) (by grind), hpair _ _ _ _ _ _ (by grind) (by grind) (by grind) (by grind),
      State.pair_setPair_same (by grind)]
  · rw [hrn _ _ _ _ _ (by grind) (by grind), State.pair_setPair_same (by grind)]
  · rw [State.rn_setRn_other (by grind), State.rn_setPair_other (by grind) (by grind),
      State.rn_setPair_other (by grind) (by grind), State.rn_setPair_other (by grind) (by grind)]

theorem logNext_slot (s : State) (e : Nat) {o : Nat} (ho : 0x1200100 ≤ o) : (logNext s e).rn o = s.rn o := by
  rw [logNext, rn_bump_other (by grind), rn_setF_other (by grind)]

theorem logEntry_logged (s : State) {kind port addr data result cause : Nat} (hkind : kind < 4) (hport : port < 256)
    (hresult : result < 16) (hcause : cause < 16) :
    Logged s (logEntry s kind port addr data result cause) kind port addr data result cause := by
  unfold logEntry
  dsimp only
  rw [Nat.mod_eq_of_lt hport, Nat.mod_eq_of_lt hresult, Nat.mod_eq_of_lt hcause]
  generalize he : s.fv fBRIDGE_STATUS_ERRLOG_NEXT = e
  have hslot : e < 16 := he ▸ State.fv_lt s fBRIDGE_STATUS_ERRLOG_NEXT
  obtain ⟨hinfo, haddr, hdata, htime, hlow⟩ := logSlot_reads (logWrapped s e) e addr data (logWrapped s e).dial
    (info := kind + 4 + port * 2 ^ 8 + result * 2 ^ 16 + cause * 2 ^ 20) (by omega)
  generalize hu : logSlot (logWrapped s e) e addr data (logWrapped s e).dial
    (kind + 4 + port * 2 ^ 8 + result * 2 ^ 16 + cause * 2 ^ 20) = u at hinfo haddr hdata htime hlow ⊢
  have hfv : ∀ f : Fld, f.off < 0x1200100 → u.fv f = (logWrapped s e).fv f := fun f hf => by
    rw [State.fv, hlow _ hf, State.fv]
  have hpair : ∀ lo hi, 0x1200100 ≤ lo → 0x1200100 ≤ hi → (logNext u e).pair lo hi = u.pair lo hi := fun lo hi h1 h2 => by
    rw [State.pair, logNext_slot u e h1, logNext_slot u e h2, State.pair]
  have hdial : (logWrapped s e).dial = s.dial := congrArg Regu.dial (logWrapped_same s e).2
  unfold Logged
  rw [he]
  refine ⟨?info, ?addr, ?data, ?time, ?next, fun hvalid => ?wrapped, ?failed⟩
  case info => rw [logNext_slot u e (by grind), hinfo]
  case addr => rw [hpair _ _ (by grind) (by grind), haddr]
  case data => rw [hpair _ _ (by grind) (by grind), hdata]
  case time => rw [hpair _ _ (by grind) (by grind), htime, hdial]
  case next =>
    rw [logNext, fv_bump_of_apart (by decide), State.fv_setF_same _ _ _ (by decide)]
    exact Nat.mod_eq_of_lt (Nat.mod_lt _ (by decide))
  case wrapped =>
    rw [logNext, fv_bump_of_apart (by decide), fv_setF_of_apart (by decide), hfv _ (by decide), logWrapped,
      if_pos (by rw [State.on_eq, hvalid]; rfl), State.fv_setF_same _ _ _ (by decide)]
    rfl
  case failed =>
    rw [logNext, fv_bump_same (by decide), fv_setF_of_apart (by decide), hfv _ (by decide), logWrapped]
    split
    · rw [fv_setF_of_apart (by decide)]
      rfl
    · rfl

/-- What leaves the log alone leaves an entry logged. -/
theorem logged_kept {s t u : State} {kind port addr data result cause : Nat} (h : Logged s t kind port addr data result cause)
    (k : RegsKept LogRegs t u) : Logged s u kind port addr data result cause := by
  have he : s.fv fBRIDGE_STATUS_ERRLOG_NEXT < 16 := State.fv_lt s fBRIDGE_STATUS_ERRLOG_NEXT
  unfold Logged at h ⊢
  generalize s.fv fBRIDGE_STATUS_ERRLOG_NEXT = e at he h ⊢
  obtain ⟨hinfo, haddr, hdata, htime, hnext, hwrapped, hfailed⟩ := h
  have hslot : ∀ o, 0x1200100 + 0x20 * e ≤ o → o < 0x1200120 + 0x20 * e → LogRegs o := fun o h1 h2 =>
    .inr (.inr (by omega))
  refine ⟨(k.rn _ (hslot _ (by grind) (by grind))).trans hinfo,
    (k.pair (hslot _ (by grind) (by grind)) (hslot _ (by grind) (by grind))).trans haddr,
    (k.pair (hslot _ (by grind) (by grind)) (hslot _ (by grind) (by grind))).trans hdata,
    (k.pair (hslot _ (by grind) (by grind)) (hslot _ (by grind) (by grind))).trans htime,
    (k.fv (.inl rfl)).trans hnext, fun hv => (k.fv (.inl rfl)).trans (hwrapped hv), (k.fv (.inr (.inl rfl))).trans hfailed⟩

end Sys2Proof.Machine

namespace Sys2Proof.Machine

/-! ### Requests into the fabric (R439, R442) -/

theorem pickTag_of_free {used : Nat → Bool} {k : Nat} (h : used (k % 65536) = false) (n : Nat) :
    pickTag used n k = k % 65536 := by
  cases n with
  | zero => rfl
  | succ n => rw [pickTag, if_neg (by rw [h]; decide)]

theorem pump_reqs (n : Nat) (s : State) (k : Nat) : (pump n s k).fabric.reqs = s.fabric.reqs := by
  induction n generalizing s with
  | zero => rfl
  | succ n ih =>
    unfold pump
    dsimp only
    split
    · rfl
    · split
      · rfl
      · rw [ih]
        rfl

theorem portSend_reqs (s : State) (k : Nat) (m : FabMsg) : (portSend s k m).fabric.reqs = s.fabric.reqs := by
  rw [portSend, pumpPort, pump_reqs]
  rfl

/-- A request keeps its packet when it is launched. -/
theorem launchReq_pkt {s : State} {tag : Nat} {r : FabReq} (h : kget tag s.fabric.reqs = some r) :
    (kget tag (launchReq s tag).fabric.reqs).map (fun x => x.pkt) = some r.pkt := by
  unfold launchReq
  rw [h]
  dsimp only
  split
  · split
    · rw [h]
      rfl
    · rw [portSend_reqs, kget_kput_same]
      rfl
  · rw [h]
    rfl

/-- The packet of a new request under the next tag. -/
def reqPacket (s : State) (vc : Nat) (write : Bool) (dst addr len : Nat) (data : List Byte) (poison : Bool) : FabPacket :=
  ⟨vc, if write then 1 else 2, dst, (fabId s).getD 0, len, poison, s.fabric.nextTag, 8, 0, addr, data⟩

theorem fabRequest_of_free {s : State} (hlt : s.fabric.nextTag < 65536) (hreq : kget s.fabric.nextTag s.fabric.reqs = none)
    (hdone : kget s.fabric.nextTag s.fabric.done = none) (owner : FabOwner) (vc : Nat) (write : Bool) (dst addr len : Nat)
    (data : List Byte) (poison : Bool) :
    (fabRequest s owner vc write dst addr len data poison).1 = s.fabric.nextTag
      ∧ (kget s.fabric.nextTag (fabRequest s owner vc write dst addr len data poison).2.fabric.reqs).map (fun r => r.pkt)
          = some (reqPacket s vc write dst addr len data poison) := by
  have htag : pickTag (fun t => (kget t s.fabric.reqs).isSome || (kget t s.fabric.done).isSome) 65536 s.fabric.nextTag
      = s.fabric.nextTag := by
    rw [pickTag_of_free, Nat.mod_eq_of_lt hlt]
    rw [Nat.mod_eq_of_lt hlt, hreq, hdone]
    rfl
  unfold fabRequest
  dsimp only
  rw [htag]
  exact ⟨rfl, launchReq_pkt (r := ⟨owner, reqPacket s vc write dst addr len data poison, none, s.now⟩) (kget_kput_same _ _ _)⟩

theorem keeps_of_fabRequest (s : State) (owner : FabOwner) (vc : Nat) (write : Bool) (dst addr len : Nat)
    (data : List Byte) (poison : Bool) : Keeps 0x10000000000 s (fabRequest s owner vc write dst addr len data poison).2 :=
  Keeps.of (keeps_fabRequest s owner vc write dst addr len data poison)

/-! ### Fabric windows (R402, R403) -/

theorem winShape_good {x n : Nat} (hn : 0 < n) (hx : x % 64 + n ≤ 64) : winShapeBad x n = false := by
  rw [winShapeBad, beq_eq_false_iff_ne.mpr (by omega), decide_eq_false (by omega)]
  rfl

theorem winShape_bad {x n : Nat} (h : n = 0 ∨ 64 < x % 64 + n) : winShapeBad x n = true := by
  unfold winShapeBad
  rcases h with h | h
  · simp [h]
  · simp [h]

theorem refuseUr_regs (s : State) (write : Bool) : (refuseUr s write).regs = s.regs := (keeps_of_refuseUr s write).regs rfl

theorem refuseCa_keeps (s : State) : Keeps 0x100204 s (refuseCa s) := Keeps.of (keeps_refuseCa s)

theorem rn_refuseUr (s : State) (write : Bool) (o : Nat) : (refuseUr s write).rn o = s.rn o :=
  rn_congr (refuseUr_regs s write) o

theorem rn_refuseCa (s : State) (o : Nat) : (refuseCa s).rn o = s.rn o := rn_congr ((refuseCa_keeps s).regs rfl) o

/-- A write that a window discards is logged, and software and the island are told. -/
theorem winDiscard_logged (s : State) {w addr result cause : Nat} (bytes : List Byte) (hw : w < 256) (hresult : result < 16)
    (hcause : cause < 16) :
    Logged s (winDiscard s w addr bytes result cause) 2 w addr (leNat (bytes.take 8)) result cause
      ∧ (winDiscard s w addr bytes result cause).fv fBRIDGE_EVENT_POSTED_FAIL = 1
      ∧ (winDiscard s w addr bytes result cause).isl.inbox = s.isl.inbox ++ [(faultCode 0x16 w 0x0003, 0)] := by
  have hlog := logEntry_logged s (kind := 2) (addr := addr) (data := leNat (bytes.take 8)) (by decide) hw hresult hcause
  rw [winDiscard, errLog_eq, if_neg (by decide), if_pos rfl]
  have hisl := logEntry_isl s 2 w addr (leNat (bytes.take 8)) result cause
  generalize logEntry s 2 w addr (leNat (bytes.take 8)) result cause = u at hlog hisl ⊢
  have hev : RegsKept LogRegs u ((u.ev fBRIDGE_EVENT_POSTED_FAIL).report 0x16 w 0x0003) :=
    .report (.ev (.refl _ u) (logRegs_event _ rfl) logRegs_offRings.not_irqReg) _ _ _ _
  have hevent : OffRings (fun o => o = rBRIDGE_EVENT) := by
    rintro o rfl
    decide
  refine ⟨logged_kept hlog (asyncPost_kept logRegs_offRings hev _ _ _ _ _), ?_, ?_⟩
  · rw [(asyncPost_kept hevent (.refl _ ((u.ev fBRIDGE_EVENT_POSTED_FAIL).report 0x16 w 0x0003)) _ _ _ _ _).fv rfl, report_fv,
      fv_ev_set (by decide) (by decide)]
    rfl
  · rw [(Keeps.of (keeps_asyncPost _ _ _ _ _ _)).isl rfl, State.report_inbox, State.ev_isl, hisl]

theorem logged_of_regs {s s' t : State} {kind port addr data result cause : Nat}
    (h : Logged s' t kind port addr data result cause) (hregs : s'.regs = s.regs) (hdial : s'.regu = s.regu) :
    Logged s t kind port addr data result cause := by
  have hfv : ∀ f, s'.fv f = s.fv f := fun f => by rw [State.fv, rn_congr hregs, State.fv]
  have hd : s'.dial = s.dial := congrArg Regu.dial hdial
  unfold Logged at h ⊢
  simp only [hfv, hd] at h
  exact h

/-- What a window does with a write that it cannot send. -/
theorem winDiscard_fabric (s : State) (w addr : Nat) (bytes : List Byte) (result cause : Nat) :
    (winDiscard s w addr bytes result cause).fabric = s.fabric ∧ (winDiscard s w addr bytes result cause).bridge = s.bridge :=
  ⟨(Keeps.of (keeps_winDiscard s w addr bytes result cause)).fabric rfl,
    (Keeps.of (keeps_winDiscard s w addr bytes result cause)).bridge rfl⟩

/-- A read of a window that is answered late, or held too long, is logged. -/
theorem errLog_held (s : State) {w addr data result cause : Nat} (hw : w < 256) (hresult : result < 16) (hcause : cause < 16) :
    Logged s (errLog s 3 w addr data result cause) 3 w addr data result cause
      ∧ (errLog s 3 w addr data result cause).isl = s.isl := by
  rw [errLog_eq, if_neg (by decide), if_neg (by decide)]
  exact ⟨logEntry_logged s (by decide) hw hresult hcause, logEntry_isl s 3 w addr data result cause⟩

/-! ### BAR4 (R384) -/

theorem bar4Base_whole {s : State} (h : s.pair rPCIE_LP5X_WIN_LO rPCIE_LP5X_WIN_HI % 2 ^ bar4Log s = 0) :
    bar4Base s = (s.pair rPCIE_LP5X_WIN_LO rPCIE_LP5X_WIN_HI, s) := by
  unfold bar4Base
  dsimp only
  rw [if_pos h, Nat.div_mul_cancel (Nat.dvd_of_mod_eq_zero h)]

theorem bar4Base_part {s : State} (h : s.pair rPCIE_LP5X_WIN_LO rPCIE_LP5X_WIN_HI % 2 ^ bar4Log s ≠ 0) :
    bar4Base s = (s.pair rPCIE_LP5X_WIN_LO rPCIE_LP5X_WIN_HI / 2 ^ bar4Log s * 2 ^ bar4Log s,
      s.ev fPCIE_EVENT_CFG_INVALID) := by
  unfold bar4Base
  dsimp only
  rw [if_neg h]

theorem bar4Log_ev (s : State) (f : Fld) : bar4Log (s.ev f) = bar4Log s := by rw [bar4Log, cfgN_ev, bar4Log]

/-- The stacks in service go by the domains alone. -/
theorem lpRange_of_domains {s t : State} (h : ∀ d, t.fv (fPWR_DOM_STATE d) = s.fv (fPWR_DOM_STATE d)) (a n : Nat) :
    lpRange t a n = lpRange s a n := by
  have hstack : ∀ m, stackUp t m = stackUp s m := fun m => by rw [stackUp, domOn, h, stackUp, domOn]
  rw [lpRange, hstack, hstack, lpRange]

theorem memBad_memWrite (s : State) (a : Nat) (bs : List Byte) :
    memBad (memWrite s a bs false) a bs.length = false := by
  refine List.any_eq_false.mpr fun x hx => ?_
  have hkeep := (List.mem_filter.mp hx).2
  simp only [Bool.not_eq_true', Bool.eq_false_iff] at hkeep
  exact hkeep

theorem memBad_memWrite_poison (s : State) (a : Nat) {bs : List Byte} (h : bs ≠ []) :
    memBad (memWrite s a bs true) a bs.length = true := by
  have hlen : 0 < bs.length := List.length_pos_iff.mpr h
  refine List.any_eq_true.mpr ⟨a, ?_, by simp [hlen]⟩
  exact List.mem_append_right _ (List.mem_map.mpr ⟨0, List.mem_range.mpr hlen, rfl⟩)

/-- A write changes exactly its bytes. -/
theorem memWrite_bytes (s : State) (a : Nat) (bs : List Byte) (p : Bool) :
    (∀ i, i < bs.length → memByte (memWrite s a bs p) (a + i) = bs.getD i 0) ∧ SameMemBut s (memWrite s a bs p) a bs.length :=
  ⟨fun i hi => (memByte_memWrite_at hi).trans (by rw [List.getD_eq_getElem _ _ hi]),
    fun _ hx => memByte_memWrite_other hx⟩

theorem fv_domain_ev {f : Fld} (h : f.off = rPCIE_EVENT) (s : State) (d : Nat) :
    (s.ev f).fv (fPWR_DOM_STATE d) = s.fv (fPWR_DOM_STATE d) := by
  refine fv_ev_other ?_ ?_
  · rw [h]
    show 0xd0040 + 4 * d ≠ 0x40014
    omega
  · show ¬ irqReg (0xd0040 + 4 * d)
    unfold irqReg
    omega

theorem poisonRx_fields (s : State) :
    (poisonRx s).fv fPCIE_EVENT_POISON_RX = 1
      ∧ (poisonRx s).fv fPCIE_CNT_A_POISON_RX = satTo 0xFFFF (s.fv fPCIE_CNT_A_POISON_RX + 1)
      ∧ (poisonRx s).isl.inbox = s.isl.inbox ++ [(faultCode 0x04 0 0x0005, 0)]
      ∧ (poisonRx s).mem = s.mem ∧ ∀ d, (poisonRx s).fv (fPWR_DOM_STATE d) = s.fv (fPWR_DOM_STATE d) := by
  unfold poisonRx
  refine ⟨?_, ?_, ?_, ?_, fun d => ?_⟩
  · rw [report_fv, fv_ev_set (by decide) (by decide)]
    rfl
  · rw [report_fv, fv_ev_of_apart (by decide) (by decide), State.fv, rn_congr (aerUncorr_regs _ _ _)]
    exact fv_bump_same (by decide) s
  · rw [State.report_inbox, State.ev_isl, aerUncorr_isl, State.bump_isl]
  · rw [State.report_mem, State.ev_mem, (Keeps.of (keeps_aerUncorr _ 12 true)).mem rfl, State.bump_mem]
  · rw [report_fv, fv_domain_ev rfl, State.fv, rn_congr (aerUncorr_regs _ _ _)]
    exact State.fv_setF_other (show 0xd0040 + 4 * d ≠ 0x4001c by omega) s _

/-! ### Completions (R386, R391) -/

theorem completion_data {s : State} {k : Nat} {r : HostRead} (bs : List Byte) (hr : kget k s.pcie.reads = some r)
    (hok : r.failed = false) (hmore : r.got.length + bs.length < r.size) :
    completion s k (.data bs false) =
      { s with pcie := { s.pcie with reads := kput k { r with got := r.got ++ bs } s.pcie.reads } } := by
  have hwhole : r.whole = false := by simp [HostRead.whole, show ¬ r.size ≤ r.got.length by omega]
  unfold completion
  rw [hr]
  simp only [hok, hwhole, Bool.or_self, Bool.false_eq_true, if_false, Bool.or_false]
  unfold readEnded
  rw [kget_kput_same]
  dsimp only
  split
  · simp [HostRead.whole, show ¬ r.size ≤ r.got.length + bs.length by omega]
  · rfl

theorem completion_failed {s : State} {k c : Nat} {r : HostRead} (hr : kget k s.pcie.reads = some r)
    (howner : r.owner = .hoist c) (hok : r.failed = false) (hmore : r.got.length < r.size) :
    completion s k .unsupported =
      { s with pcie := { s.pcie with reads := kput k { r with failed := true } s.pcie.reads } } := by
  have hwhole : r.whole = false := by simp [HostRead.whole, show ¬ r.size ≤ r.got.length by omega]
  unfold completion
  rw [hr]
  simp only [hok, hwhole, Bool.or_self, Bool.false_eq_true, if_false]
  unfold readEnded
  rw [kget_kput_same]
  dsimp only
  rw [howner]

/-- A completion for a tag that no read has. -/
theorem unexpected_fields {s : State} (hhub : s.pow.hubOn = true) (hlink : s.on fPCIE_LINK_STATUS_DL_ACTIVE = true) {k : Nat}
    (hnone : kget k s.pcie.reads = none) (p : CplPiece) :
    Answers (.pcieCompletionReceived k p) s (fun t =>
      t.fv fPCIE_EVENT_UNEXPECTED_CPL = 1 ∧ t.fv fPCIE_CNT_A_UNEXPECTED = satTo 0xFFFF (s.fv fPCIE_CNT_A_UNEXPECTED + 1)
        ∧ t.isl.inbox = s.isl.inbox ++ [(faultCode 0x04 0 0x0004, 0)] ∧ t.pcie.reads = s.pcie.reads) := by
  obtain ⟨t, hexec, hcount, hevent, hinbox, hreads, -⟩ := unexpectedCompletionsAreDiscarded s k p hhub hlink
    fun r hr => by rw [hnone] at hr; cases hr
  exact ⟨t, hexec, hevent, hcount, hinbox, hreads⟩

theorem memBad_ev (s : State) (f : Fld) (a n : Nat) : memBad (s.ev f) a n = memBad s a n := by
  rw [memBad, State.ev_memPoison, memBad]

theorem memRead_ev (s : State) (f : Fld) (a n : Nat) : memRead (s.ev f) a n = memRead s a n :=
  List.map_congr_left fun i _ => memByte_congr (State.ev_mem s f) (a + i)

/-- The response to a read that was held too long. -/
theorem lateRead_fields {s : State} (u : State) (hregs : u.regs = s.regs) (hregu : u.regu = s.regu) (hisl : u.isl = s.isl)
    (hreply : u.reply = s.reply) {w addr result : Nat} (hw : w < 256) (hresult : result < 16) :
    Logged s (((errLog u 3 w addr 0 result 0).ev fBRIDGE_EVENT_LATE_RESPONSE).report 0x16 w 0x0008) 3 w addr 0 result 0
      ∧ (((errLog u 3 w addr 0 result 0).ev fBRIDGE_EVENT_LATE_RESPONSE).report 0x16 w 0x0008).fv
          fBRIDGE_EVENT_LATE_RESPONSE = 1
      ∧ (((errLog u 3 w addr 0 result 0).ev fBRIDGE_EVENT_LATE_RESPONSE).report 0x16 w 0x0008).reply = s.reply
      ∧ (((errLog u 3 w addr 0 result 0).ev fBRIDGE_EVENT_LATE_RESPONSE).report 0x16 w 0x0008).isl.inbox
          = s.isl.inbox ++ [(faultCode 0x16 w 0x0008, 0)] := by
  obtain ⟨hlog, hsame⟩ := errLog_held u (addr := addr) (data := 0) (cause := 0) hw hresult (by decide)
  have hkeeps := (Keeps.of (keeps_errLog u 3 w addr 0 result 0)).reply rfl
  generalize errLog u 3 w addr 0 result 0 = v at hlog hsame hkeeps ⊢
  refine ⟨logged_of_regs (logged_kept hlog (.report (.ev (.refl _ v) (logRegs_event _ rfl) logRegs_offRings.not_irqReg) _ _ _ _))
    hregs hregu, ?_, ?_, ?_⟩
  · rw [report_fv, fv_ev_set (by decide) (by decide)]
    rfl
  · rw [State.report_reply, State.ev_reply, hkeeps, hreply]
  · rw [State.report_inbox, State.ev_isl, hsame, hisl]

/-- A read that is held too long is aborted. -/
theorem heldRead_fields (u : State) {w : Nat} (addr : Nat) (hw : w < 256) :
    Logged u (refuseCa (((errLog u 3 w addr 0 0 3).bump fBRIDGE_CNT_B_HOLD_EXPIRED).ev fBRIDGE_EVENT_HOLD_EXPIRED)) 3 w addr
        0 0 3
      ∧ (refuseCa (((errLog u 3 w addr 0 0 3).bump fBRIDGE_CNT_B_HOLD_EXPIRED).ev fBRIDGE_EVENT_HOLD_EXPIRED)).fv
          fBRIDGE_EVENT_HOLD_EXPIRED = 1
      ∧ (refuseCa (((errLog u 3 w addr 0 0 3).bump fBRIDGE_CNT_B_HOLD_EXPIRED).ev fBRIDGE_EVENT_HOLD_EXPIRED)).isl.inbox
          = u.isl.inbox
      ∧ (refuseCa (((errLog u 3 w addr 0 0 3).bump fBRIDGE_CNT_B_HOLD_EXPIRED).ev fBRIDGE_EVENT_HOLD_EXPIRED)).bridge
          = u.bridge := by
  obtain ⟨hlog, hsame⟩ := errLog_held u (addr := addr) (data := 0) (cause := 3) hw (show 0 < 16 by decide) (by decide)
  have hbridge := (Keeps.of (keeps_errLog u 3 w addr 0 0 3)).bridge rfl
  generalize errLog u 3 w addr 0 0 3 = v at hlog hsame hbridge ⊢
  have hcount : ¬ LogRegs rBRIDGE_CNT_B := by
    show ¬ (0x1200014 = 0x1200004 ∨ 0x1200014 = 0x1200010 ∨ 0x1200100 ≤ 0x1200014 ∧ 0x1200014 < 0x1200300)
    omega
  have hkept : RegsKept LogRegs v (refuseCa ((v.bump fBRIDGE_CNT_B_HOLD_EXPIRED).ev fBRIDGE_EVENT_HOLD_EXPIRED)) :=
    .regs (.ev (.bump (.refl _ v) hcount) (logRegs_event _ rfl) logRegs_offRings.not_irqReg) ((refuseCa_keeps _).regs rfl)
  refine ⟨logged_kept hlog hkept, ?_, ?_, ?_⟩
  · rw [State.fv, rn_refuseCa]
    exact fv_ev_set (by decide) (by decide) _
  · rw [(refuseCa_keeps _).isl rfl, State.ev_isl, State.bump_isl, hsame]
  · rw [(refuseCa_keeps _).bridge rfl, State.ev_bridge, State.bump_bridge, hbridge]

/-! ### The control of a window (R404) -/

theorem outWinCtrl_ignored {s : State} {w : Nat} {v : Word} (hen : s.fv (fBRIDGE_OUT_WIN_CTRL_EN w) = 1)
    (hpeer : bitsOf v.toNat 1 6 ≠ winPeer s w) :
    winPeer (outWinCtrl s w v) w = winPeer s w ∧ (outWinCtrl s w v).fv (fBRIDGE_OUT_WIN_CTRL_EN w) = bitsOf v.toNat 0 1
      ∧ (outWinCtrl s w v).fv fBRIDGE_EVENT_WIN_IGNORED = 1
      ∧ (outWinCtrl s w v).isl.inbox = s.isl.inbox ++ [(faultCode 0x16 w 0x0007, 0)] := by
  have hctrl : outWinCtrl s w v = (((s.ev fBRIDGE_EVENT_WIN_IGNORED).report 0x16 w 0x0007).setF
      (fBRIDGE_OUT_WIN_CTRL_EN w) (bitsOf v.toNat 0 1)) := by
    unfold outWinCtrl outWinIgnored
    rw [if_pos (by rw [State.on_eq, hen]; rfl), if_pos hpeer]
  rw [hctrl]
  refine ⟨?_, ?_, ?_, ?_⟩
  · rw [winPeer, State.fv_setF_apart _ _ (by dsimp only; decide) (by dsimp only; decide), report_fv,
      fv_ev_of_apart (.inl (by grind)) (by grind), winPeer]
  · rw [State.fv_setF_same _ _ _ (by dsimp only; decide)]
    exact Nat.mod_eq_of_lt (bitsOf_lt _ _ _)
  · rw [State.fv_setF_other (by grind), report_fv, fv_ev_set (by decide) (by decide)]
    rfl
  · rw [State.setF_isl, State.report_inbox, State.ev_isl]

theorem outWinCtrl_taken {s : State} {w : Nat} {v : Word}
    (hfree : s.fv (fBRIDGE_OUT_WIN_CTRL_EN w) = 0 ∨ bitsOf v.toNat 1 6 = winPeer s w) :
    winPeer (outWinCtrl s w v) w = bitsOf v.toNat 1 6
      ∧ (outWinCtrl s w v).fv (fBRIDGE_OUT_WIN_CTRL_EN w) = bitsOf v.toNat 0 1
      ∧ SameRegsBut s (outWinCtrl s w v) [rBRIDGE_OUT_WIN_CTRL w] ∧ (outWinCtrl s w v).isl = s.isl := by
  have hset : ∀ u : State, (u.setF (fBRIDGE_OUT_WIN_CTRL_EN w) (bitsOf v.toNat 0 1)).fv (fBRIDGE_OUT_WIN_CTRL_EN w)
      = bitsOf v.toNat 0 1 := fun u => by
    rw [State.fv_setF_same _ _ _ (by dsimp only; decide)]
    exact Nat.mod_eq_of_lt (bitsOf_lt _ _ _)
  by_cases hon : s.on (fBRIDGE_OUT_WIN_CTRL_EN w) = true
  · have hpeer : bitsOf v.toNat 1 6 = winPeer s w := hfree.resolve_left fun h => by simp [State.on_eq, h] at hon
    have hctrl : outWinCtrl s w v = s.setF (fBRIDGE_OUT_WIN_CTRL_EN w) (bitsOf v.toNat 0 1) := by
      unfold outWinCtrl
      rw [if_pos hon, if_neg (not_not.mpr hpeer)]
    rw [hctrl]
    refine ⟨?_, hset s, fun o ho => rn_setF_other (List.ne_of_not_mem_cons ho), State.setF_isl _ _ _⟩
    rw [winPeer, State.fv_setF_apart _ _ (by dsimp only; decide) (by dsimp only; decide)]
    exact hpeer.symm
  · have hctrl : outWinCtrl s w v = (s.setF (fBRIDGE_OUT_WIN_CTRL_EN w) (bitsOf v.toNat 0 1)).setF
        (fBRIDGE_OUT_WIN_CTRL_PEER w) (bitsOf v.toNat 1 6) := by
      unfold outWinCtrl
      rw [if_neg hon]
    rw [hctrl]
    refine ⟨?_, ?_, fun o ho => ?_, ?_⟩
    · rw [winPeer, State.fv_setF_same _ _ _ (by dsimp only; decide)]
      exact Nat.mod_eq_of_lt (bitsOf_lt _ _ _)
    · rw [State.fv_setF_apart _ _ (by dsimp only; decide) (by dsimp only; decide), hset]
    · rw [rn_setF_other (List.ne_of_not_mem_cons ho), rn_setF_other (List.ne_of_not_mem_cons ho)]
    · rw [State.setF_isl, State.setF_isl]

/-- Settles O34: the windows send, answer or log by the lemmas above, and BAR4 and completions by theirs. -/
theorem windowsAndCompletions : Obligations.WindowsAndCompletions := by
  refine ⟨?winWrite, ?winLost, ?winOff, ?winShape, ?winRead, ?winNoRead, ?winBadRead, ?response, ?badResponse, ?late,
    ?writeFailed, ?held, ?keepsPeer, ?setsPeer, ?read, ?readPart, ?write, ?writePoison, ?writeOut, ?bar2, ?unsupported,
    ?unexpected, ?piece, ?failed⟩
  case winWrite =>
    intro s w x bytes hs hw hx hne hshape hen hreach htag hreq hdone
    refine ⟨_, congrArg Host.Outcome.next (hostReq_of_asks hs _), ?_⟩
    rw [Nat.mod_eq_of_lt hw, Nat.mod_eq_of_lt hx, winWrite, winShape_good (List.length_pos_iff.mpr hne) hshape,
      if_neg (by decide), State.on_eq, hen, if_neg (by decide), hreach, if_neg (by decide)]
    obtain ⟨hkey, hpkt⟩ := fabRequest_of_free htag hreq hdone .window 0 true (winPeer s w) (outTarget s w x) bytes.length
      bytes false
    have hkeeps := keeps_of_fabRequest s .window 0 true (winPeer s w) (outTarget s w x) bytes.length bytes false
    dsimp only
    rw [hkey]
    refine ⟨hpkt, ?_, hkeeps.reply rfl, hkeeps.isl rfl⟩
    rw [setWinWrites, kget_kput_same, hkeeps.now]
  case winLost =>
    intro s w x bytes hs hw hx hne hshape hen hreach
    refine ⟨_, congrArg Host.Outcome.next (hostReq_of_asks hs _), ?_⟩
    rw [Nat.mod_eq_of_lt hw, Nat.mod_eq_of_lt hx, winWrite, winShape_good (List.length_pos_iff.mpr hne) hshape,
      if_neg (by decide), State.on_eq, hen, if_neg (by decide), hreach, if_pos (by decide)]
    obtain ⟨hlog, hevent, hinbox⟩ := winDiscard_logged s (addr := outTarget s w x) (result := 3) (cause := 4) bytes
      (show w < 256 by omega) (by decide) (by decide)
    exact ⟨hlog, (winDiscard_fabric _ _ _ _ _ _).1, hevent, by rw [hinbox]; exact List.mem_append_right _ (List.mem_singleton_self _)⟩
  case winOff =>
    intro s w x bytes hs hw hx hne hshape hen
    refine ⟨_, congrArg Host.Outcome.next (hostReq_of_asks hs _), ?_⟩
    rw [Nat.mod_eq_of_lt hw, Nat.mod_eq_of_lt hx, winWrite, winShape_good (List.length_pos_iff.mpr hne) hshape,
      if_neg (by decide), State.on_eq, hen, if_pos (by decide)]
    obtain ⟨hlog, -, hinbox⟩ := winDiscard_logged (refuseUr s true) (addr := outTarget s w x) (result := 2) (cause := 2) bytes
      (show w < 256 by omega) (by decide) (by decide)
    refine ⟨logged_of_regs hlog (refuseUr_regs s true) ((keeps_of_refuseUr s true).regu rfl), ?_, ?_⟩
    · rw [(winDiscard_fabric _ _ _ _ _ _).1, (keeps_of_refuseUr s true).fabric rfl]
    · rw [hinbox]
      exact List.mem_append_right _ (List.mem_singleton_self _)
  case winShape =>
    intro s w x bytes hs hw hx hshape
    refine ⟨_, congrArg Host.Outcome.next (hostReq_of_asks hs _), ?_⟩
    rw [Nat.mod_eq_of_lt hx, winWrite, winShape_bad (hshape.imp_left fun h => by rw [h]; rfl), if_pos rfl]
    exact ⟨refuseUr_reply s true, (refuseUr_recorded s true).1, (keeps_of_refuseUr s true).fabric rfl,
      fun o _ => rn_refuseUr s true o⟩
  case winRead =>
    intro s w x len hs hw hx hlen hshape hen hreach htag hreq hdone
    refine ⟨_, congrArg Host.Outcome.next (hostReq_of_asks hs _), ?_⟩
    rw [Nat.mod_eq_of_lt hw, Nat.mod_eq_of_lt hx, winRead, winShape_good hlen hshape, if_neg (by decide), State.on_eq, hen,
      if_neg (by decide), hreach, if_neg (by decide)]
    obtain ⟨hkey, hpkt⟩ := fabRequest_of_free htag hreq hdone .window 0 false (winPeer s w) (outTarget s w x) len [] false
    have hkeeps := keeps_of_fabRequest s .window 0 false (winPeer s w) (outTarget s w x) len [] false
    dsimp only
    rw [hkey]
    refine ⟨hpkt, ?_, rfl⟩
    rw [State.answer_bridge, setWins, kget_kput_same, hkeeps.now]
  case winNoRead =>
    intro s w x len hs hw hx hlen hshape hen hreach
    refine ⟨_, congrArg Host.Outcome.next (hostReq_of_asks hs _), ?_⟩
    rw [Nat.mod_eq_of_lt hw, Nat.mod_eq_of_lt hx, winRead, winShape_good hlen hshape, if_neg (by decide), State.on_eq, hen,
      if_neg (by decide), hreach, if_pos (by decide)]
    exact ⟨rfl, (refuseCa_keeps s).fabric rfl, fun o _ => rn_refuseCa s o⟩
  case winBadRead =>
    intro s w x len hs hw hx hbad
    refine ⟨_, congrArg Host.Outcome.next (hostReq_of_asks hs _), ?_⟩
    have hrefused : winRead s (w % 16) (x % 0x100000) len = refuseUr s false := by
      rw [Nat.mod_eq_of_lt hw, Nat.mod_eq_of_lt hx, winRead]
      rcases hbad with h | h | h
      · rw [winShape_bad (.inl h), if_pos rfl]
      · rw [winShape_bad (.inr h), if_pos rfl]
      · split
        · rfl
        · rw [State.on_eq, h, if_pos (by decide)]
    rw [hrefused]
    exact ⟨refuseUr_reply s false, (keeps_of_refuseUr s false).fabric rfl, fun o _ => rn_refuseUr s false o⟩
  case response =>
    intro s tag h d hhub hwin hexp hdone hstatus hlen
    refine ⟨_, congrArg Host.Outcome.next (hub_of_on hhub _), ?_⟩
    rw [winResponse, hdone]
    simp only [hwin, hexp, hstatus, Bool.false_eq_true, if_false, ne_eq, not_true_eq_false]
    refine ⟨?_, rfl, rfl, fun o _ => rfl⟩
    rw [State.answer_reply, padTo, ← hlen, List.take_length, Nat.sub_self, List.replicate_zero, List.append_nil]
  case badResponse =>
    intro s tag h d hhub hwin hexp hdone hstatus
    refine ⟨_, congrArg Host.Outcome.next (hub_of_on hhub _), ?_⟩
    rw [winResponse, hdone]
    simp only [hwin, hexp, hstatus, Bool.false_eq_true, if_false, ne_eq, not_false_eq_true, if_true]
    refine ⟨rfl, ?_, fun o _ => rn_refuseCa _ o⟩
    rw [(refuseCa_keeps _).bridge rfl]
    rfl
  case late =>
    intro s tag h d hhub hwin hexp hw hdone
    refine ⟨_, congrArg Host.Outcome.next (hub_of_on hhub _), ?_⟩
    rw [winResponse, hdone]
    simp only [hwin, hexp, if_true]
    exact lateRead_fields (setWins (takeDone s tag) (kdel tag s.bridge.wins)) rfl rfl rfl rfl (by omega) (by split <;> decide)
  case writeFailed =>
    intro s tag h d hhub hnone hwin hw hdone hstatus htimeout
    refine ⟨_, congrArg Host.Outcome.next (hub_of_on hhub _), ?_⟩
    rw [winResponse, hdone]
    simp only [hnone, hwin, hstatus, htimeout, if_false]
    obtain ⟨hlog, -, hinbox⟩ := winDiscard_logged (setWinWrites (takeDone s tag) (kdel tag s.bridge.writes)) (addr := h.addr)
      (result := 1) (cause := 0) h.data (show h.win < 256 by omega) (by decide) (by decide)
    refine ⟨logged_of_regs hlog rfl rfl, ?_, ?_⟩
    · rw [hinbox]
      exact List.mem_append_right _ (List.mem_singleton_self _)
    · rw [(winDiscard_fabric _ _ _ _ _ _).2]
      rfl
  case held =>
    intro s tag h hhub hwin hexp hw hdone htime
    refine ⟨_, congrArg Host.Outcome.next (hub_of_on hhub _), ?_⟩
    rw [winExpired, hwin]
    simp only [hexp, hdone, htime, Bool.not_false, Option.isNone_none, decide_true, Bool.and_self, if_true]
    obtain ⟨hlog, hevent, hinbox, hbridge⟩ := heldRead_fields
      (setWins s (kput tag { h with expired := true } s.bridge.wins)) (w := h.win) h.addr (by omega)
    refine ⟨rfl, ?_, logged_of_regs hlog rfl rfl, hevent, hinbox⟩
    rw [hbridge, setWins, kget_kput_same]
  case keepsPeer =>
    intro s w v hhub hw hen hpeer
    refine ⟨_, congrArg Host.Outcome.next (hub_of_on hhub _), ?_⟩
    rw [Nat.mod_eq_of_lt hw]
    exact outWinCtrl_ignored hen hpeer
  case setsPeer =>
    intro s w v hhub hw hfree
    refine ⟨_, congrArg Host.Outcome.next (hub_of_on hhub _), ?_⟩
    rw [Nat.mod_eq_of_lt hw]
    exact outWinCtrl_taken hfree
  case read =>
    intro s x len a hs hwhole ha hrange
    subst ha
    refine ⟨_, congrArg Host.Outcome.next (hostReq_of_asks hs _), ?_⟩
    rw [bar4Read, bar4Base_whole hwhole]
    dsimp only
    rw [if_pos hrange]
    exact ⟨rfl, rfl, fun o _ => rfl⟩
  case readPart =>
    intro s x len a hs hpart ha hrange
    subst ha
    refine ⟨_, congrArg Host.Outcome.next (hostReq_of_asks hs _), ?_⟩
    rw [bar4Read, bar4Base_part hpart]
    dsimp only
    rw [bar4Log_ev, if_pos (by rw [lpRange_of_domains (fv_domain_ev rfl s)]; exact hrange)]
    refine ⟨?_, ?_, ?_⟩
    · rw [State.answer_reply, memBad_ev, memRead_ev]
    · rw [State.answer_mem, State.ev_mem]
    · rw [fv_answer, fv_ev_set (by decide) (by decide)]
      rfl
  case write =>
    intro s x bytes a hs hwhole ha hrange
    subst ha
    refine ⟨_, congrArg Host.Outcome.next (hostReq_of_asks hs _), ?_⟩
    rw [bar4Write, bar4Base_whole hwhole]
    dsimp only
    rw [if_neg Bool.false_ne_true, if_pos hrange]
    obtain ⟨hin, hout⟩ := memWrite_bytes s (s.pair rPCIE_LP5X_WIN_LO rPCIE_LP5X_WIN_HI + x % 2 ^ bar4Log s) bytes false
    exact ⟨hin, hout, memBad_memWrite s _ bytes, fun o _ => rfl⟩
  case writePoison =>
    intro s x bytes a hs hwhole ha hrange hne
    subst ha
    refine ⟨_, congrArg Host.Outcome.next (hostReq_of_asks hs _), ?_⟩
    obtain ⟨hevent, hcount, hinbox, hmem, hdom⟩ := poisonRx_fields s
    rw [bar4Write, bar4Base_whole hwhole]
    dsimp only
    rw [if_pos rfl, if_pos (by rw [lpRange_of_domains hdom]; exact hrange)]
    obtain ⟨hin, hout⟩ := memWrite_bytes (poisonRx s) (s.pair rPCIE_LP5X_WIN_LO rPCIE_LP5X_WIN_HI + x % 2 ^ bar4Log s) bytes true
    exact ⟨hin, fun y hy => (hout y hy).trans (memByte_congr hmem y), memBad_memWrite_poison _ _ hne, hevent, hcount, hinbox⟩
  case writeOut =>
    intro s x bytes a hs hwhole ha hrange
    subst ha
    refine ⟨_, congrArg Host.Outcome.next (hostReq_of_asks hs _), ?_⟩
    rw [bar4Write, bar4Base_whole hwhole]
    dsimp only
    rw [if_neg Bool.false_ne_true, if_neg (by rw [hrange]; decide)]
    exact ⟨(keeps_of_refuseUr s true).mem rfl, (refuseUr_recorded s true).1, fun o _ => rn_refuseUr s true o⟩
  case bar2 =>
    intro s hs
    refine ⟨_, congrArg Host.Outcome.next (hostReq_of_asks hs _), ?_, State.ev_mem s _, State.ev_ring s _⟩
    rw [fv_ev_set (by decide) (by decide)]
    rfl
  case unsupported =>
    intro s write hs
    refine ⟨_, congrArg Host.Outcome.next (hostReq_of_asks hs _), ?_⟩
    exact ⟨refuseUr_reply s write, (refuseUr_recorded s write).1, (refuseUr_recorded s write).2,
      fun o _ => rn_refuseUr s write o⟩
  case unexpected =>
    intro s k p hhub hlink hnone
    exact unexpected_fields hhub hlink hnone p
  case piece =>
    intro s k r bs hhub hlink hr hok hmore
    refine ⟨_, congrArg Host.Outcome.next (hub_of_on hhub _), ?_⟩
    rw [if_pos hlink, completion_data bs hr hok hmore]
    exact ⟨kget_kput_same _ _ _, rfl, rfl⟩
  case failed =>
    intro s k r c hhub hlink hr howner hok hmore
    refine ⟨_, congrArg Host.Outcome.next (hub_of_on hhub _), ?_⟩
    rw [if_pos hlink, completion_failed hr howner hok hmore]
    exact ⟨kget_kput_same _ _ _, rfl, rfl⟩

end Sys2Proof.Machine

namespace Sys2Proof.Machine

/-! ### The Escapement's record of a pipeline -/

@[simp] theorem escOf_setEsc (s : State) (p : Nat) (e : Esc) : escOf (setEsc s p e) p = e := by
  simp [escOf, setEsc, kgetD]

theorem escOf_congr {s t : State} (h : t.esc = s.esc) (p : Nat) : escOf t p = escOf s p := by rw [escOf, escOf, h]

@[simp] theorem escOf_ev (s : State) (f : Fld) (p : Nat) : escOf (s.ev f) p = escOf s p := escOf_congr (State.ev_esc s f) p

@[simp] theorem escOf_setF (s : State) (f : Fld) (v p : Nat) : escOf (s.setF f v) p = escOf s p := rfl

@[simp] theorem escOf_bump (s : State) (f : Fld) (p : Nat) : escOf (s.bump f) p = escOf s p := rfl

@[simp] theorem escOf_report (s : State) (c i k d p : Nat) : escOf (s.report c i k d) p = escOf s p := rfl

@[simp] theorem escOf_setEntries (s : State) (p : Nat) (l : List EscEntry) :
    escOf (setEntries s p l) p = { escOf s p with entries := l } := escOf_setEsc s p _

/-! ### Profiles (R142) -/

theorem profileLoad_started {s : State} {p : Nat} (h : started s p = true) :
    profileLoad s p = s.ev (fESCP_EVENT_CFG_IGNORED p) := if_pos h

section
variable {s : State} {p : Nat} (hstopped : started s p = false)
include hstopped

theorem profileLoad_valid (h : profileErr (stagedProfile s p) ((mapEntries s.arn p).any (fun e => decide (32 ≤ e.1))) = none) :
    profileLoad s p = (setEsc s p { escOf s p with profile := some (profileOf (stagedProfile s p)) }).setF
      (fESCP_STATUS_PROFILE_VALID p) 1 := by
  rw [profileLoad, hstopped, if_neg Bool.false_ne_true]
  simp only [h]

theorem profileLoad_invalid {o : Nat}
    (h : profileErr (stagedProfile s p) ((mapEntries s.arn p).any (fun e => decide (32 ≤ e.1))) = some o) :
    profileLoad s p = (((setEsc s p { escOf s p with profile := none }).setF (fESCP_STATUS_PROFILE_VALID p) 0).setF
      (fESCP_STATUS_PROFILE_ERR p) o).ev (fESCP_EVENT_PROFILE_INVALID p) := by
  rw [profileLoad, hstopped, if_neg Bool.false_ne_true]
  simp only [h]
end

/-! ### Failed entries (R154) -/

theorem settingsDone_esc (s : State) (c : Cmd) (st tag id submitted reached : Nat) :
    (settingsDone s c st tag id submitted reached).esc = s.esc :=
  (Keeps.of (keeps_settingsDone s c st tag id submitted reached)).esc rfl

theorem failEntry_escOf (s : State) (p id status : Nat) :
    escOf (failEntry s p id status) p =
      { escOf s p with entries := (escOf s p).entries.filter (fun x => x.id != id) } := by
  unfold failEntry
  split
  case h_1 hnone =>
    have hall : (escOf s p).entries.filter (fun x => x.id != id) = (escOf s p).entries :=
      List.filter_eq_self.mpr fun x hx => by simpa using List.find?_eq_none.mp hnone x hx
    rw [hall]
  case h_2 e _ =>
    rw [escOf_congr (settingsDone_esc _ _ _ _ _ _ _), escOf_report, escOf_ev, escOf_setEntries]

theorem failEntries_escOf (s : State) (p status : Nat) (l : List EscEntry) :
    escOf (l.foldl (fun s e => failEntry s p e.id status) s) p =
      { escOf s p with entries := (escOf s p).entries.filter (fun x => l.all (fun e => x.id != e.id)) } := by
  induction l generalizing s with
  | nil => simp
  | cons e l ih =>
    rw [List.foldl_cons, ih, failEntry_escOf]
    simp only [List.filter_filter, List.all_cons, Bool.and_comm]

/-- A flush leaves no entry and no burst that has not started. -/
theorem escFlush_escOf (s : State) (p : Nat) :
    (escOf (escFlush s p) p).entries = [] ∧ (∀ b ∈ (escOf (escFlush s p) p).bursts, b.running = true)
      ∧ (escOf (escFlush s p) p).profile = (escOf s p).profile := by
  have hnone : (escOf s p).entries.filter (fun x => (escOf s p).entries.all (fun e => x.id != e.id)) = [] := by
    refine List.filter_eq_nil_iff.mpr fun x hx hall => ?_
    simpa using List.all_eq_true.mp hall x hx
  simp only [escFlush, failAll, escOf_setEsc, failEntries_escOf, hnone, true_and, and_true]
  intro b hb
  obtain ⟨x, -, hx⟩ := List.mem_filterMap.mp hb
  split at hx
  case isTrue hrun =>
    obtain rfl := Option.some.inj hx
    exact hrun
  case isFalse => cases hx

/-! ### Bursts (R152, R153, R157) -/

theorem dueBurst_head {s : State} {p : Nat} {b : Burst} (h : dueBurst s p = some b) :
    (escOf s p).bursts.head? = some b := by
  unfold dueBurst at h
  split at h
  case h_1 x hx =>
    split at h
    · rw [hx, h]
    · cases h
  case h_2 => cases h

theorem burstStart_single {s : State} {n p : Nat} {b : Burst} {x : SccTxn} (hstate : sccState s n = 2)
    (hfree : burstOn s n = none) (hpipes : pipesOn s n = [p]) (hdue : dueBurst s p = some b) (htime : (s.dial : Int) ≤ b.latest)
    (htxn : burstTxn (setEsc s p { escOf s p with bursts := { b with running := true } :: (escOf s p).bursts.tail }) p = some x) :
    burstStart s n =
      beginTxn (setEsc s p { escOf s p with bursts := { b with running := true } :: (escOf s p).bursts.tail }) n x := by
  have htime' : decide (Int.ofNat s.dial ≤ b.latest) = true := decide_eq_true htime
  unfold burstStart
  rw [if_pos (by rw [hstate, hfree]; rfl), hpipes]
  simp only [List.filterMap_cons, List.filterMap_nil, hdue, Option.map_some, List.foldl_cons, List.foldl_nil, htime', if_true,
    htxn]

theorem beginTxn_esc (s : State) (n : Nat) (t : SccTxn) : (beginTxn s n t).esc = s.esc :=
  (Keeps.of (keeps_beginTxn s n t)).esc rfl

/-! ### Late entries (R154, R156) -/

/-- Entry `e`, late, as it is retargeted. -/
def retargeted (s : State) (p : Nat) (pr : EscProfile) (e : EscEntry) : EscEntry :=
  { e with target := max (e.target + 1) (frameNo s p + 1 + Int.ofNat (maxDelay pr e.groups)), written := [], reached := false }

/-- The registers that tell of a late entry. -/
def lateTold (s : State) (p : Nat) : State := (s.ev (fESCP_EVENT_LATE p)).report 0x10 p 0x0001

theorem frameNo_congr {s t : State} (h : t.frameNo = s.frameNo) (p : Nat) : frameNo t p = frameNo s p := by
  rw [frameNo, frameNo, h]

theorem lateTold_frameNo (s : State) (p : Nat) : frameNo (lateTold s p) p = frameNo s p :=
  frameNo_congr (State.ev_frameNo s _) p

theorem unburst_escOf (s : State) (p id : Nat) :
    (escOf (unburst s p id) p).entries = (escOf s p).entries
      ∧ ((escOf s p).bursts = [] → (escOf (unburst s p id) p).bursts = []) := by
  unfold unburst
  rw [escOf_setEsc]
  exact ⟨rfl, fun h => by rw [h]; rfl⟩

/-- The only entry of a pipeline, late, moves alone. -/
theorem lateEntry_single {s : State} {p n : Nat} {pr : EscProfile} {e : EscEntry} (hentries : (escOf s p).entries = [e])
    (hretarget : e.noRetarget = false) (hnacks : e.nacks < 3) :
    lateEntry (n + 1) s p pr e.id =
      unburst (setEsc (lateTold s p) p { escOf s p with entries := [retargeted s p pr e] }) p e.id := by
  have hframe : frameNo ((s.ev (fESCP_EVENT_LATE p)).report 0x10 p 0x0001) p = frameNo s p := lateTold_frameNo s p
  rw [lateEntry, hentries]
  simp only [List.find?_cons, beq_self_eq_true]
  rw [if_neg (by simp [hretarget]), if_neg (by omega)]
  simp only [escOf_report, escOf_ev, hentries, hframe, entriesAfter, if_true, List.filter_nil, List.any_nil, List.foldl_nil,
    List.map_cons, List.map_nil, beq_self_eq_true, Bool.true_or]
  rfl

theorem lateLedger_escOf (s : State) (p id : Nat) (t0 t1 : Int) (sent : Bool) (data : KMap (List Byte)) :
    (escOf (lateLedger s p id t0 t1 sent data) p).entries = (escOf s p).entries
      ∧ (escOf (lateLedger s p id t0 t1 sent data) p).bursts = (escOf s p).bursts := by
  unfold lateLedger
  dsimp only
  split
  · rw [escOf_congr (State.setRn_esc _ _ _), escOf_setEsc]
    exact ⟨rfl, rfl⟩
  · rw [escOf_setEsc]
    exact ⟨rfl, rfl⟩

theorem lateLedger_kept {P : Nat → Prop} {s t : State} {p : Nat} (h : RegsKept P s t) (hp : ¬ P (rESCP_LAST_ENTRY p))
    (id : Nat) (t0 t1 : Int) (sent : Bool) (data : KMap (List Byte)) : RegsKept P s (lateLedger t p id t0 t1 sent data) := by
  have hset : ∀ e, RegsKept P s (setEsc t p e) := fun e => h.regs rfl
  unfold lateLedger
  dsimp only
  split
  · exact .setRn (hset _) _ hp
  · exact hset _

/-- The pipeline whose only entry is `e`, with a late burst counted. -/
def lateCounted (s : State) (p : Nat) (e : EscEntry) : State :=
  setEsc (s.bump (fESCP_CNT_LATE p)) p { escOf s p with entries := [e] }

/-- The pipeline whose only entry `e` has moved, before its ledger. -/
def lateMoved (s : State) (p : Nat) (pr : EscProfile) (e : EscEntry) : State :=
  unburst (setEsc (lateTold (lateCounted s p e) p) p
    { escOf (lateCounted s p e) p with entries := [retargeted s p pr e] }) p e.id

theorem lateMoved_escOf (s : State) (p : Nat) (pr : EscProfile) (e : EscEntry) :
    (escOf (lateMoved s p pr e) p).entries = [retargeted s p pr e]
      ∧ ((escOf s p).bursts = [] → (escOf (lateMoved s p pr e) p).bursts = []) := by
  obtain ⟨hentries, hbursts⟩ := unburst_escOf (setEsc (lateTold (lateCounted s p e) p) p
    { escOf (lateCounted s p e) p with entries := [retargeted s p pr e] }) p e.id
  have hcounted : (escOf (lateCounted s p e) p).bursts = (escOf s p).bursts := by rw [lateCounted, escOf_setEsc]
  rw [escOf_setEsc] at hentries hbursts
  exact ⟨hentries, fun h => hbursts (hcounted.trans h)⟩

theorem lateMoved_regs (s : State) (p : Nat) (pr : EscProfile) (e : EscEntry) :
    (lateMoved s p pr e).regs = ((lateCounted s p e).ev (fESCP_EVENT_LATE p)).regs := rfl

theorem judgeLate_eq {s : State} {p : Nat} {pr : EscProfile} {b : Burst} {e : EscEntry} (hnacked : b.nacked = [])
    (hentries : (escOf s p).entries = [e]) (hid : burstEntries b = [e.id]) (hretarget : e.noRetarget = false)
    (hnacks : e.nacks < 3) :
    judgeLate s p pr b = lateLedger (lateMoved s p pr e) p e.id e.target (retargeted s p pr e).target
      (b.sent.any (fun x => x.1 == e.id)) e.data := by
  have hlate : lateEntry 17 (lateCounted s p e) p pr e.id = lateMoved s p pr e :=
    lateEntry_single (by rw [lateCounted, escOf_setEsc]) hretarget hnacks
  have hfind : (escOf (lateMoved s p pr e) p).entries.find? (fun x => x.id == e.id) = some (retargeted s p pr e) := by
    rw [(lateMoved_escOf s p pr e).1]
    simp [retargeted]
  unfold judgeLate
  simp only [hid, List.foldl_cons, List.foldl_nil, escOf_bump, hentries, List.find?_cons, beq_self_eq_true, hnacked,
    List.contains_nil, Bool.false_eq_true, if_false, List.map_cons, List.map_nil, if_true]
  show (match (escOf (lateEntry 17 (lateCounted s p e) p pr e.id) p).entries.find? (fun x => x.id == e.id) with
    | some _ => _
    | none => _) = _
  rw [hlate, hfind]
  exact congrArg (lateLedger · p e.id e.target (retargeted s p pr e).target (b.sent.any (fun x => x.1 == e.id)) e.data) hlate

/-- A late burst of the only entry, which was not refused, counts and moves the entry. -/
theorem judgeLate_single {s : State} {p : Nat} {pr : EscProfile} {b : Burst} {e : EscEntry}
    (hnacked : b.nacked = []) (hentries : (escOf s p).entries = [e]) (hbursts : (escOf s p).bursts = [])
    (hid : burstEntries b = [e.id]) (hretarget : e.noRetarget = false) (hnacks : e.nacks < 3) :
    (escOf (judgeLate s p pr b) p).bursts = [] ∧ (escOf (judgeLate s p pr b) p).entries = [retargeted s p pr e]
      ∧ (judgeLate s p pr b).fv (fESCP_EVENT_LATE p) = 1
      ∧ (judgeLate s p pr b).fv (fESCP_CNT_LATE p) = satTo 0xFFFF (s.fv (fESCP_CNT_LATE p) + 1) := by
  have hkept : RegsKept (· ≠ rESCP_LAST_ENTRY p) ((lateCounted s p e).ev (fESCP_EVENT_LATE p)) (judgeLate s p pr b) := by
    rw [judgeLate_eq hnacked hentries hid hretarget hnacks]
    exact lateLedger_kept (.of_regs (lateMoved_regs s p pr e)) (fun h => h rfl) _ _ _ _ _
  obtain ⟨hesc, hrun⟩ := lateMoved_escOf s p pr e
  refine ⟨?_, ?_, ?_, ?_⟩
  · rw [judgeLate_eq hnacked hentries hid hretarget hnacks, (lateLedger_escOf _ _ _ _ _ _ _).2, hrun hbursts]
  · rw [judgeLate_eq hnacked hentries hid hretarget hnacks, (lateLedger_escOf _ _ _ _ _ _ _).1, hesc]
  · rw [hkept.fv (by grind), fv_ev_set (by grind) (by grind)]
    rfl
  · rw [hkept.fv (by grind), fv_ev_of_apart (by grind) (by grind)]
    exact fv_bump_same (by grind) s

/-! ### Settings packets (R147, R150) -/

/-- A command that starts no longer waits. -/
def unwaiting (s : State) (c : Cmd) : State :=
  { s with ring := { s.ring with waiting := s.ring.waiting.filter (fun x => x.id != c.id) } }

theorem onCmd_starts {s : State} {c : Cmd} {op : Nat} (h : Starts s c op) (f : State → Cmd → State) :
    onCmd s op f = f (unwaiting s c) c := by
  obtain ⟨hnext, hop, -⟩ := h
  rw [onCmd, hnext]
  exact if_pos hop

theorem settings_rejected {s : State} {c : Cmd} {st : Nat} (hzero : cmdSettings.unusedZero' c = true)
    (h : settingsReject s c.payload c.len = some st) :
    cmdSettings s c = settingsDone s c st (leAt c.payload 8 4) 0 (leAt c.payload 4 4)
      (s.rn (rCMT_FSN (leAt c.payload 0 1 % 32))) := by
  rw [cmdSettings, hzero, if_neg (by decide)]
  simp only [h]

theorem settings_accepted {s : State} {c : Cmd} {pr : EscProfile} (hzero : cmdSettings.unusedZero' c = true)
    (h : settingsReject s c.payload c.len = none) (hprofile : (escOf s (leAt c.payload 0 1)).profile = some pr) :
    cmdSettings s c = acceptSettings s c (leAt c.payload 0 1) pr c.payload := by
  rw [cmdSettings, hzero, if_neg (by decide)]
  simp only [h, hprofile]

/-- The groups of a packet. -/
def packetGroups (bs : List Byte) : List Nat := (List.range 16).filter (fun g => bitAt (leAt bs 2 2) g)

/-- The entry that a packet for an exact frame becomes. -/
def packetEntry (s : State) (c : Cmd) (p : Nat) (pr : EscProfile) (bs : List Byte) : EscEntry :=
  ⟨(escOf s p).nextId, c, leAt bs 8 4, leAt bs 4 4, unwrap s p (leAt bs 4 4), unwrap s p (leAt bs 4 4),
    bitAt (leAt bs 1 1) 1, packetData pr (packetGroups bs) (bs.drop 16), 0, [], false⟩

/-- The pipeline with the packet's entry in its ledger. -/
def entryAdded (s : State) (c : Cmd) (p : Nat) (pr : EscProfile) (bs : List Byte) : State :=
  setEntries (setEsc s p { escOf s p with
    nextId := if (escOf s p).nextId = 0xFFFFFFFF then 1 else (escOf s p).nextId + 1 }) p
    ((escOf s p).entries ++ [packetEntry s c p pr bs])

/-- The transactions of the groups of a packet that frame F writes. -/
def packetJoins (s : State) (p : Nat) (pr : EscProfile) (bs : List Byte) : List BurstTxn :=
  ((packetGroups bs).filter fun g =>
    decide (unwrap s p (leAt bs 4 4) - Int.ofNat (delayOf pr g) = frameNo s p)).map fun g => .group (escOf s p).nextId g

/-- A group of a packet falls before frame F. -/
def packetBelow (s : State) (p : Nat) (pr : EscProfile) (bs : List Byte) : Bool :=
  (packetGroups bs).any fun g => decide (unwrap s p (leAt bs 4 4) - Int.ofNat (delayOf pr g) < max (frameNo s p) 0)
    && !decide (unwrap s p (leAt bs 4 4) - Int.ofNat (delayOf pr g) = frameNo s p && 0 ≤ frameNo s p)

theorem acceptSettings_exact {bs : List Byte} (hexact : bitAt (leAt bs 1 1) 0 = false) (s : State) (c : Cmd) (p : Nat)
    (pr : EscProfile) :
    acceptSettings s c p pr bs =
      if packetBelow s p pr bs || (!(packetJoins s p pr bs).isEmpty
          && decide (latestStart (entryAdded s c p pr bs) p pr (burstTxns pr (packetJoins s p pr bs)) < Int.ofNat s.dial)) then
        lateEntry 17 (entryAdded s c p pr bs) p pr (escOf s p).nextId
      else if 0 ≤ frameNo s p then addBurst (entryAdded s c p pr bs) p pr (packetJoins s p pr bs)
      else entryAdded s c p pr bs := by
  unfold acceptSettings
  simp only [hexact, Bool.false_eq_true, if_false]
  rfl

/-- A packet whose groups all fall after frame F only enters the ledger. -/
theorem acceptSettings_later {s : State} {c : Cmd} {p : Nat} {pr : EscProfile} {bs : List Byte}
    (hexact : bitAt (leAt bs 1 1) 0 = false)
    (hlater : ∀ g, g < 16 → frameNo s p < unwrap s p (leAt bs 4 4) - Int.ofNat (delayOf pr g)) (hframe : -1 ≤ frameNo s p) :
    acceptSettings s c p pr bs = entryAdded s c p pr bs := by
  have hgroup : ∀ g ∈ packetGroups bs, frameNo s p < unwrap s p (leAt bs 4 4) - Int.ofNat (delayOf pr g) := fun g hg =>
    hlater g (List.mem_range.mp (List.mem_of_mem_filter hg))
  have hjoins : packetJoins s p pr bs = [] := by
    refine List.map_eq_nil_iff.mpr (List.filter_eq_nil_iff.mpr fun g hg => ?_)
    rw [decide_eq_true_iff]
    exact (hgroup g hg).ne'
  have hbelow : packetBelow s p pr bs = false := by
    refine List.any_eq_false.mpr fun g hg => ?_
    have := hgroup g hg
    rw [decide_eq_false (by omega)]
    simp
  rw [acceptSettings_exact hexact, hjoins, hbelow, if_neg (by simp)]
  exact ite_eq_right_iff.mpr fun _ => rfl

theorem entryAdded_escOf (s : State) (c : Cmd) (p : Nat) (pr : EscProfile) (bs : List Byte) :
    (escOf (entryAdded s c p pr bs) p).entries = (escOf s p).entries ++ [packetEntry s c p pr bs] := by
  rw [entryAdded, escOf_setEntries]

/-! ### Freshness (R192, R494) -/

@[simp] theorem fresh_setFresh (s : State) (st : Nat) (f : Fresh) : fresh (setFresh s st f) st = f := by
  simp [fresh, setFresh, kgetD]

theorem fresh_congr {s t : State} (h : t.fresh = s.fresh) (st : Nat) : fresh t st = fresh s st := by rw [fresh, fresh, h]

/-- A view whose age has run out, before its registers say so. -/
def viewExpired (s : State) (st : Nat) : State :=
  setStale (setFresh s st { fresh s st with run := 0, expired := true }) st true

theorem viewExpired_fresh (s : State) (st : Nat) :
    fresh (viewExpired s st) st = { fresh s st with run := 0, expired := true, stale := true } := by
  unfold viewExpired setStale
  split
  · rw [fresh_congr (State.setF_fresh _ _ _), fresh_setFresh, fresh_setFresh]
  · rw [fresh_setFresh, fresh_setFresh]

theorem viewExpired_isl (s : State) (st : Nat) : (viewExpired s st).isl = s.isl := by
  unfold viewExpired setStale
  split <;> rfl

theorem viewExpired_stale {s : State} {st : Nat} (h : st < 128) :
    (viewExpired s st).fv (fCMT_FRESH_STATUS_STALE (st / 4) (st % 4)) = 1 := by
  unfold viewExpired setStale
  rw [if_pos h, State.fv_setF_same _ _ _ (by grind)]
  rfl

/-- The registers and the code of a violated view. -/
def viewTold (s : State) (st : Nat) : State :=
  ((((viewExpired s st).setF (fCMT_FRESH_STATUS_VIOLATED (st / 4) (st % 4)) 1).ev (evStale st)).report 0x11 (st / 4)
    (0x0100 + st % 4) (if isSafety (viewExpired s st) st then 3 else 0))

theorem violate_eq (s : State) (st : Nat) :
    violate s st = viewLost (if st < 128 then viewTold s st else viewExpired s st) st := rfl

/-- The choice of the safety views stays while a view expires. -/
def safetyViews (o : Nat) : Prop := 0x80040 ≤ o ∧ o < 0x80060

theorem safetyViews_not_irqReg (o : Nat) (h : safetyViews o) : ¬ irqReg o := by
  unfold safetyViews at h
  unfold irqReg
  omega

theorem viewExpired_kept (s : State) (st : Nat) : RegsKept safetyViews s (viewExpired s st) := by
  have hset : ∀ f, RegsKept safetyViews s (setFresh (setFresh s st { fresh s st with run := 0, expired := true }) st f) :=
    fun f => .of_regs rfl
  unfold viewExpired setStale
  refine .ite (fun _ => .setF (hset _) _ ?_) fun _ => hset _
  show ¬ (0x80040 ≤ 0x40f050 + 0x10000 * (st / 4) + 4 * (st % 4) ∧ 0x40f050 + 0x10000 * (st / 4) + 4 * (st % 4) < 0x80060)
  omega

theorem viewTold_kept (s : State) (st : Nat) : RegsKept safetyViews s (viewTold s st) := by
  refine .report (.ev (.setF (viewExpired_kept s st) _ ?_) ?_ safetyViews_not_irqReg) _ _ _ _
  · show ¬ (0x80040 ≤ 0x40f050 + 0x10000 * (st / 4) + 4 * (st % 4) ∧ 0x40f050 + 0x10000 * (st / 4) + 4 * (st % 4) < 0x80060)
    omega
  · show ¬ (0x80040 ≤ 0x40f060 + 0x10000 * (st / 4) ∧ 0x40f060 + 0x10000 * (st / 4) < 0x80060)
    omega

theorem isSafety_kept {s t : State} (h : RegsKept safetyViews s t) {st : Nat} (hst : st < 132) : isSafety t st = isSafety s st := by
  unfold isSafety
  split
  · rw [h.rn _ (show 0x80040 ≤ 0x80040 + 4 * (st / 32) ∧ 0x80040 + 4 * (st / 32) < 0x80060 by omega)]
  · rw [h.rn _ (show safetyViews 0x80050 from ⟨by decide, by decide⟩)]

/-- The loss of a safety view is a cause. -/
theorem viewLost_safety {s : State} {st : Nat} (h : isSafety s st = true) :
    ∃ l, viewLost s st = setCause { s with isl := { s.isl with staleViews := l } } 3 := ⟨_, if_pos h⟩

theorem viewLost_other {s : State} {st : Nat} (h : isSafety s st = false) : viewLost s st = s :=
  if_neg (by rw [h]; decide)

theorem viewTold_fresh (s : State) (st : Nat) : fresh (viewTold s st) st = fresh (viewExpired s st) st :=
  fresh_congr (State.ev_fresh _ _) st

theorem viewTold_stale {s : State} {st : Nat} (h : st < 128) : viewStale (viewTold s st) st = true := by
  rw [viewStale, if_pos h, State.on_eq, viewTold, report_fv, fv_ev_of_apart (by grind [evStale]) (by grind),
    fv_setF_of_apart (by grind), viewExpired_stale h]
  rfl

theorem viewStale_setCause (s : State) (k st : Nat) : viewStale (setCause s k) st = viewStale s st := by
  unfold viewStale
  rw [State.on_eq, setCause_fv (by grind) (.inl (by grind)) (by grind),
    fresh_congr ((Keeps.of (keeps_setCause s k)).fresh rfl), State.on_eq]

/-- Settles O18: profiles, settings, bursts and freshness budgets, each by its rule. -/
theorem escapementAndFreshness : Obligations.EscapementAndFreshness := by
  refine ⟨?valid, ?invalid, ?started, ?flush, ?window, ?burst, ?late, ?rejected, ?accepted, ?stale, ?safety⟩
  case valid =>
    intro s p hhub hp hstopped hok
    refine ⟨_, congrArg Host.Outcome.next (hub_of_on hhub _), ?_⟩
    dsimp only
    rw [Nat.mod_eq_of_lt hp, profileLoad_valid hstopped hok]
    refine ⟨?_, ?_⟩
    · rw [escOf_setF, escOf_setEsc]
    · rw [State.fv_setF_same _ _ _ (by grind)]
      rfl
  case invalid =>
    intro s p o hhub hp hstopped hbad
    refine ⟨_, congrArg Host.Outcome.next (hub_of_on hhub _), ?_⟩
    dsimp only
    rw [Nat.mod_eq_of_lt hp, profileLoad_invalid hstopped hbad]
    refine ⟨?_, ?_, ?_, ?_⟩
    · rw [escOf_ev, escOf_setF, escOf_setF, escOf_setEsc]
    · rw [fv_ev_of_apart (by grind) (by grind), fv_setF_of_apart (by grind), State.fv_setF_same _ _ _ (by grind)]
      rfl
    · rw [fv_ev_of_apart (by grind) (by grind), State.fv_setF_same _ _ _ (by grind)]
      rfl
    · rw [fv_ev_set (by grind) (by grind)]
      rfl
  case started =>
    intro s p hhub hp hstarted
    refine ⟨_, congrArg Host.Outcome.next (hub_of_on hhub _), ?_⟩
    dsimp only
    rw [Nat.mod_eq_of_lt hp, profileLoad_started hstarted]
    exact ⟨State.ev_esc _ _, fv_ev_set (by grind) (by grind) s⟩
  case flush =>
    intro s p hhub hp
    refine ⟨_, congrArg Host.Outcome.next (hub_of_on hhub _), ?_⟩
    dsimp only
    rw [Nat.mod_eq_of_lt hp]
    exact escFlush_escOf s p
  case window =>
    intro s p b n hhub hp hburst hscc hstate
    refine ⟨_, congrArg Host.Outcome.next (hub_of_on hhub _), ?_⟩
    dsimp only
    rw [Nat.mod_eq_of_lt hp, windowOpens, hburst]
    simp only [hscc, hstate, if_false, escOf_setEsc, decide_eq_true_eq]
    exact ⟨trivial, rfl⟩
  case burst =>
    intro s n p b x hhub hn hstate hfree hpipes hdue htime htxn
    refine ⟨_, congrArg Host.Outcome.next (hub_of_on hhub _), ?_⟩
    dsimp only
    rw [Nat.mod_eq_of_lt hn, burstStart_single hstate hfree hpipes hdue htime htxn]
    generalize hu : setEsc s p { escOf s p with bursts := { b with running := true } :: (escOf s p).bursts.tail } = u
    have hstate' : sccState u n = 2 := by rw [← hu]; exact hstate
    obtain ⟨hcur, -, hbusy, -⟩ := beginTxn_busy hstate' x
    refine ⟨hcur, hbusy, ?_⟩
    rw [escOf_congr (beginTxn_esc u n x), ← hu, escOf_setEsc]
  case late =>
    intro s p pr b e hhub hp hprofile hbursts hrunning hnacked hentries hid hretarget hnacks
    refine ⟨_, congrArg Host.Outcome.next (hub_of_on hhub _), ?_⟩
    have hpassed : latestPassed s p = judgeLate (setEsc s p { escOf s p with bursts := [] }) p pr b := by
      rw [latestPassed, hprofile, hbursts]
      simp [hrunning]
    dsimp only
    rw [Nat.mod_eq_of_lt hp, hpassed]
    exact judgeLate_single hnacked (by rw [escOf_setEsc, hentries]) (by rw [escOf_setEsc]) hid hretarget hnacks
  case rejected =>
    intro s c st hhub hstarts hroom hzero hreject
    refine ⟨_, congrArg Host.Outcome.next (hub_of_on hhub _), ?_⟩
    have hreject' : settingsReject (unwaiting s c) c.payload c.len = some st := hreject
    rw [onCmd_starts hstarts, settings_rejected hzero hreject']
    obtain ⟨hwrote, hopened⟩ := complete_wrote hroom (u := unwaiting s c) (.of_regs rfl rfl rfl rfl) hstarts.2.2 st
      (leAt c.payload 8 4 + 0 * 2 ^ 32) (leAt c.payload 4 4 + s.rn (rCMT_FSN (leAt c.payload 0 1 % 32)) * 2 ^ 32) 0 0
    refine ⟨hopened, settingsDone_esc _ _ _ _ _ _ _, ?_⟩
    rw [Nat.add_comm (_ * 2 ^ 32)]
    exact hwrote
  case accepted =>
    rintro s c _ pr hhub hstarts hzero hok rfl hprofile hexact hlater hframe
    refine ⟨_, congrArg Host.Outcome.next (hub_of_on hhub _), ?_⟩
    have hok' : settingsReject (unwaiting s c) c.payload c.len = none := hok
    have haccept : acceptSettings (unwaiting s c) c (leAt c.payload 0 1) pr c.payload = _ :=
      acceptSettings_later hexact hlater hframe
    rw [onCmd_starts hstarts, settings_accepted hzero hok' hprofile, haccept]
    refine ⟨?_, ?_, rfl⟩
    · rw [entryAdded_escOf, List.length_append]
      rfl
    · rw [entryAdded_escOf, List.getLast?_concat]
      rfl
  case stale =>
    intro s st hhub hst hover hsafe
    refine ⟨_, congrArg Host.Outcome.next (hub_of_on hhub _), ?_⟩
    have hst' : st < 132 := by omega
    have hunsafe : isSafety (viewTold s st) st = false := (isSafety_kept (viewTold_kept s st) hst').trans hsafe
    have hunsafe' : isSafety (viewExpired s st) st = false := (isSafety_kept (viewExpired_kept s st) hst').trans hsafe
    dsimp only
    rw [Nat.mod_eq_of_lt hst', budgetExpiry, if_pos hover, violate_eq, if_pos hst, viewLost_other hunsafe]
    refine ⟨viewTold_stale hst, ?_, ?_, ?_, ?_⟩
    · rw [viewTold, report_fv, fv_ev_of_apart (by grind [evStale]) (by grind), State.fv_setF_same _ _ _ (by grind)]
      rfl
    · rw [viewTold_fresh, viewExpired_fresh]
    · rw [viewTold, report_fv, fv_ev_set (by grind [evStale]) (by grind [evStale])]
      rfl
    · rw [viewTold, hunsafe', State.report_inbox, State.ev_isl, State.setF_isl, viewExpired_isl]
      rfl
  case safety =>
    intro s st hhub hst hover hsafe
    refine ⟨_, congrArg Host.Outcome.next (hub_of_on hhub _), ?_⟩
    dsimp only
    rw [Nat.mod_eq_of_lt hst, budgetExpiry, if_pos hover, violate_eq]
    have hstale : viewStale (if st < 128 then viewTold s st else viewExpired s st) st = true := by
      split
      case isTrue h => exact viewTold_stale h
      case isFalse h => rw [viewStale, if_neg h, viewExpired_fresh]
    have hkept : RegsKept safetyViews s (if st < 128 then viewTold s st else viewExpired s st) :=
      .ite (fun _ => viewTold_kept s st) fun _ => viewExpired_kept s st
    obtain ⟨l, hlost⟩ := viewLost_safety ((isSafety_kept hkept hst).trans hsafe)
    rw [hlost]
    refine ⟨?_, setCause_set (by decide) _, setCause_not_running _ 3⟩
    rw [viewStale_setCause]
    exact hstale

end Sys2Proof.Machine

namespace Sys2Proof.Machine

/-! ### The queues and groups of the Larder -/

@[simp] theorem queueOfL_setQueueL (s : State) (q : Nat) (x : LQueue) : queueOfL (setQueueL s q x) q = x := by
  simp [queueOfL, setQueueL]

@[simp] theorem groupOfL_setGroupL (s : State) (g : Nat) (x : LGroup) : groupOfL (setGroupL s g x) g = x := by
  simp [groupOfL, setGroupL]

@[simp] theorem groupOfL_setQueueL (s : State) (q : Nat) (x : LQueue) (g : Nat) :
    groupOfL (setQueueL s q x) g = groupOfL s g := rfl

@[simp] theorem queueOfL_setGroupL (s : State) (g : Nat) (x : LGroup) (q : Nat) :
    queueOfL (setGroupL s g x) q = queueOfL s q := rfl

/-- The queues, the groups and the completion order stand in `t` as in `s`. -/
structure QueuesKept (s t : State) : Prop where
  queue : t.larder.queue = s.larder.queue
  group : t.larder.group = s.larder.group
  order : t.larder.order = s.larder.order

section
variable {s t u : State}

theorem QueuesKept.of_larder (h : t.larder = s.larder) : QueuesKept s t := by
  constructor <;> rw [h]

theorem QueuesKept.trans (h : QueuesKept s t) (k : QueuesKept t u) : QueuesKept s u :=
  ⟨k.queue.trans h.queue, k.group.trans h.group, k.order.trans h.order⟩

theorem QueuesKept.queueOfL (h : QueuesKept s t) (q : Nat) : queueOfL t q = queueOfL s q := by
  rw [Machine.queueOfL, h.queue, Machine.queueOfL]

theorem QueuesKept.groupOfL (h : QueuesKept s t) (g : Nat) : groupOfL t g = groupOfL s g := by
  rw [Machine.groupOfL, h.group, Machine.groupOfL]
end

/-! ### Cells (R306, R311) -/

/-- The registers that a cell's return does not touch. -/
def OffRetired (P : Nat → Prop) : Prop := (∀ o, P o → ¬ irqReg o) ∧ ¬ P rLARDER_RETIRED ∧ ¬ P rLARDER_EVENT

theorem countRetired_larder (s : State) : (countRetired s).larder = s.larder :=
  (Keeps.of (keeps_countRetired s)).larder rfl

theorem returnCell_queues (s : State) (c : Nat) : QueuesKept s (returnCell s c) := by
  unfold returnCell retireCell
  split
  · split
    · exact ⟨rfl, rfl, rfl⟩
    · constructor <;> rw [countRetired_larder]
  · exact ⟨rfl, rfl, rfl⟩

theorem returnCells_queues (s : State) (l : List Nat) : QueuesKept s (returnCells s l) := by
  induction l generalizing s with
  | nil => exact ⟨rfl, rfl, rfl⟩
  | cons c l ih => exact (returnCell_queues s c).trans (ih _)

section
variable {P : Nat → Prop} {s t : State} (hP : OffRetired P)
include hP

theorem countRetired_kept (h : RegsKept P s t) : RegsKept P s (countRetired t) := by
  obtain ⟨hirq, hretired, hevent⟩ := hP
  have hset := h.setF (f := fLARDER_RETIRED_SERVICE) (satTo 0xFFFF t.larder.retired.length) hretired
  exact .ite (fun _ => .report (.ev hset hevent hirq) _ _ _ _) fun _ => hset

theorem returnCell_kept (h : RegsKept P s t) (c : Nat) : RegsKept P s (returnCell t c) :=
  .ite (fun _ => .ite (fun _ => h.withRest) fun _ => countRetired_kept hP h.withRest) fun _ => h

theorem returnCells_kept (h : RegsKept P s t) (l : List Nat) : RegsKept P s (returnCells t l) := by
  induction l generalizing t with
  | nil => exact h
  | cons c l ih => exact ih (returnCell_kept hP h c)
end

/-- The emptied cells of queue `q` have left it. -/
def cellsLeft (s : State) (q : Nat) : State :=
  setQueueL s q { queueOfL s q with
    cells := (queueOfL s q).cells.filter (fun c => !(emptied (queueOfL s q)).contains c) }

theorem giveBack_queues (s : State) (q : Nat) : QueuesKept (cellsLeft s q) (giveBack s q) := by
  have hcredit : ∀ n, QueuesKept (cellsLeft s q) (setCredit (cellsLeft s q) q n) := fun _ => ⟨rfl, rfl, rfl⟩
  exact (hcredit _).trans (returnCells_queues _ _)

theorem giveBack_queueOfL (s : State) (q : Nat) : ∃ cells, queueOfL (giveBack s q) q = { queueOfL s q with cells := cells } :=
  ⟨_, ((giveBack_queues s q).queueOfL q).trans (queueOfL_setQueueL _ _ _)⟩

theorem giveBack_kept {P : Nat → Prop} (hP : OffRetired P) {s t : State} (h : RegsKept P s t) {q : Nat}
    (hq : ¬ P (rLQ_CREDIT q)) : RegsKept P s (giveBack t q) :=
  returnCells_kept hP (.setF h.withRest _ hq) _

/-- The queue has taken a new tail cell. -/
def tailTaken (s : State) (q : Nat) : State :=
  setCredit (setQueueL (freeCell s).2 q { queueOfL s q with cells := (queueOfL s q).cells ++ [(freeCell s).1], tailUsed := 0 }) q
    (credit s q - 1)

theorem tailTaken_queueOfL (s : State) (q : Nat) : queueOfL (tailTaken s q) q =
    { queueOfL s q with cells := (queueOfL s q).cells ++ [(freeCell s).1], tailUsed := 0 } := queueOfL_setQueueL _ _ _

theorem roomAtTail_eq (s : State) (q : Nat) : roomAtTail s q = if needsCell s q then giveBack (tailTaken s q) q else s := rfl

/-- Making room at the tail of a queue leaves its words and its packets. -/
theorem roomAtTail_queues (s : State) (q : Nat) :
    (∃ cells used, queueOfL (roomAtTail s q) q = { queueOfL s q with cells := cells, tailUsed := used })
      ∧ (roomAtTail s q).larder.order = s.larder.order := by
  rw [roomAtTail_eq]
  split
  · obtain ⟨cells, hcells⟩ := giveBack_queueOfL (tailTaken s q) q
    refine ⟨⟨cells, 0, ?_⟩, (giveBack_queues _ q).order⟩
    rw [hcells, tailTaken_queueOfL]
  · exact ⟨⟨_, _, rfl⟩, rfl⟩

theorem roomAtTail_of_room {s : State} {q : Nat} (h : needsCell s q = false) : roomAtTail s q = s := by
  rw [roomAtTail_eq, h]
  rfl

/-! ### Words (R303, R308) -/

/-- The word that arrives at the tail of queue `q`. -/
def tailWord (x : LQueue) (data : Nat) (last poison : Bool) (tag : Option PktMeta) : LWord :=
  ⟨data, last, poison, x.cells.getLast?.getD 0, x.tailUsed, tag⟩

/-- The word is the queue's newest. -/
def wordStored (s : State) (q : Nat) (w : LWord) : State :=
  setQueueL s q { queueOfL s q with
    words := (queueOfL s q).words ++ [w], tailUsed := (queueOfL s q).tailUsed + 1, inPkt := !w.last,
    orders := if w.last then (queueOfL s q).orders ++ [s.larder.order] else (queueOfL s q).orders }

theorem wordStored_queueOfL (s : State) (q : Nat) (w : LWord) : queueOfL (wordStored s q w) q =
    { queueOfL s q with
      words := (queueOfL s q).words ++ [w], tailUsed := (queueOfL s q).tailUsed + 1, inPkt := !w.last,
      orders := if w.last then (queueOfL s q).orders ++ [s.larder.order] else (queueOfL s q).orders } := queueOfL_setQueueL _ _ _

/-- A whole packet takes its place in the completion order. -/
def packetCounted (s : State) : State := { s with larder := { s.larder with order := s.larder.order + 1 } }

section
variable {s : State} {q : Nat} (haudit : s.on (fLQ_CTRL_AUDIT q) = false) (hkeep : (queueOfL s q).discarding = false)
include haudit hkeep

theorem writeWordL_last (data : Nat) (poison : Bool) (tag : Option PktMeta) : writeWordL s q data true poison tag =
    packetCounted (wordStored (roomAtTail s q) q (tailWord (queueOfL (roomAtTail s q) q) data true poison tag)) := by
  rw [writeWordL, haudit, if_neg Bool.false_ne_true, hkeep, if_neg Bool.false_ne_true, if_pos rfl]
  rfl

theorem writeWordL_inner (data : Nat) (poison : Bool) (tag : Option PktMeta) : writeWordL s q data false poison tag =
    wordStored (roomAtTail s q) q (tailWord (queueOfL (roomAtTail s q) q) data false poison tag) := by
  rw [writeWordL, haudit, if_neg Bool.false_ne_true, hkeep, if_neg Bool.false_ne_true, if_neg Bool.false_ne_true]
  rfl

end

theorem push_accepted {s : State} {q : Nat} (h : pushRefused s q = false) (v : Nat) (last : Bool) :
    push s q v last = writeWordL s q v last false := by
  rw [push, h]
  rfl

theorem push_disabled {s : State} {q : Nat} (h : queueEn s q = false) (v : Nat) (last : Bool) :
    push s q v last =
      (((s.bump fLARDER_CNT_FLOW_PUSH_REFUSED).ev fLARDER_EVENT_PUSH_REFUSED).report 0x14 (q / 16) 0x0007) := by
  have hrefused : pushRefused s q = true := by simp [pushRefused, h]
  have hdiscard : pushDiscard s q last = s := by simp [pushDiscard, h]
  rw [push, hrefused, hdiscard]
  rfl

/-! ### Pops (R309, R310) -/

/-- The head word of queue `q` has been delivered to group `g`; `ws` are the words left. -/
def wordTaken (s : State) (g q : Nat) (w : LWord) (ws : List LWord) : State :=
  let t := giveBack (setQueueL s q { queueOfL s q with words := ws }) q
  setGroupL t g { groupOfL t g with lastWord := w.data }

/-- The packet at the head of queue `q` is gone, and group `g` has none open. -/
def packetTaken (s : State) (g q : Nat) : State :=
  closePacket (setQueueL s q { queueOfL s q with orders := (queueOfL s q).orders.drop 1 }) g

/-- The delivered word. -/
def headWord (q : Nat) (w : LWord) : GWord := ⟨w.data, w.last, w.poison, false, q, w.tag⟩

theorem deliver_word {s : State} {g q : Nat} {w : LWord} {ws : List LWord} (hcut : (groupOfL s g).cut = false)
    (hwords : (queueOfL s q).words = w :: ws) (hpoison : w.poison = false) :
    deliver s g q .none =
      (headWord q w, if w.last then packetTaken (wordTaken s g q w ws) g q else wordTaken s g q w ws) := by
  rw [deliver, hcut, if_neg Bool.false_ne_true]
  simp only [hwords]
  rw [if_neg (by decide)]
  simp only [hpoison, Bool.false_eq_true, if_false, headWord]
  split <;> rfl

theorem wordTaken_queueOfL (s : State) (g q : Nat) (w : LWord) (ws : List LWord) :
    (queueOfL (wordTaken s g q w ws) q).words = ws := by
  obtain ⟨cells, h⟩ := giveBack_queueOfL (setQueueL s q { queueOfL s q with words := ws }) q
  rw [wordTaken, queueOfL_setGroupL, h, queueOfL_setQueueL]

theorem wordTaken_groupOfL (s : State) (g q : Nat) (w : LWord) (ws : List LWord) :
    groupOfL (wordTaken s g q w ws) g = { groupOfL s g with lastWord := w.data } := by
  rw [wordTaken, groupOfL_setGroupL, (giveBack_queues _ q).groupOfL g]
  rfl

theorem packetTaken_queueOfL (s : State) (g q : Nat) : (queueOfL (packetTaken s g q) q).words = (queueOfL s q).words := by
  rw [packetTaken, closePacket, queueOfL_setGroupL, queueOfL_setQueueL]

theorem packetTaken_groupOfL (s : State) (g q : Nat) : (groupOfL (packetTaken s g q) g).opened = none := by
  rw [packetTaken, closePacket, groupOfL_setGroupL]

theorem popTag_fields (s : State) (g : Nat) (r : GWord) :
    (setPopTag s g r).fv (fLARDER_POP_TAG_END g) = b2n r.last
      ∧ (setPopTag s g r).fv (fLARDER_POP_TAG_UNDERRUN g) = b2n r.underrun := by
  have hbit : ∀ b : Bool, b2n b < 2 := by decide
  have h1 := hbit r.last
  have h2 := hbit r.poison
  have h3 := hbit r.underrun
  constructor
  · show bitsOf ((s.setRn (rLARDER_POP_TAG g) _).rn (rLARDER_POP_TAG g)) 0 1 = b2n r.last
    rw [State.rn_setRn_same, bitsOf]
    omega
  · show bitsOf ((s.setRn (rLARDER_POP_TAG g) _).rn (rLARDER_POP_TAG g)) 2 1 = b2n r.underrun
    rw [State.rn_setRn_same, bitsOf]
    omega

theorem pop_idle {s : State} {g : Nat} (h : softConsumer s g = false) (size : Nat) (e : LarderErr) :
    pop s g size e = (s.ev fLARDER_EVENT_CFG_INVALID).answer .success (leBytes size 0) := by
  rw [pop, h]
  rfl

theorem pop_word {s : State} {g : Nat} (h : softConsumer s g = true) (e : LarderErr) :
    pop s g 8 e = (setPopTag (groupRead s g e).2 g (groupRead s g e).1).answer .success (leBytes 8 (groupRead s g e).1.data) := by
  rw [pop, h]
  rfl

/-- The state of a group whose read opens queue `q`. -/
def groupOpened (s : State) (g q : Nat) : State := setGroupL s g { groupOfL s g with opened := some q }

theorem groupRead_opens {s : State} {g q : Nat} (hidle : (groupOfL s g).opened = none) (hnext : nextOpen s g = some q)
    (e : LarderErr) : groupRead s g e = deliver (groupOpened s g q) g q e := by
  rw [groupRead, hidle]
  simp only [hnext]
  rfl

/-- The state after a read of a group without a packet. -/
def groupUnderrun (s : State) (g : Nat) : State :=
  (((s.setF (fLARDER_G_STATUS_UNDERRUN g) 1).bump fLARDER_CNT_FLOW_UNDERRUN).ev fLARDER_EVENT_UNDERRUN).report 0x14 g 0x0006

theorem groupUnderrun_larder (s : State) (g : Nat) : (groupUnderrun s g).larder = s.larder := by
  rw [groupUnderrun, State.report_larder, State.ev_larder, State.bump_larder, State.setF_larder]

theorem groupRead_underrun {s : State} {g : Nat} (hidle : (groupOfL s g).opened = none) (hnext : nextOpen s g = none)
    (e : LarderErr) :
    groupRead s g e = (⟨(groupOfL s g).lastWord, false, false, true, 0, none⟩, groupUnderrun s g) := by
  have hlast : groupOfL (groupUnderrun s g) g = groupOfL s g := by
    rw [groupOfL, groupUnderrun_larder, groupOfL]
  rw [groupRead, hidle]
  simp only [hnext]
  rw [← hlast]
  rfl

/-! ### Flushes and audits (R312 to R315) -/

/-- The flushed record of a queue. -/
def flushedQueue (x : LQueue) (off : Bool) : LQueue :=
  { x with words := [], orders := [], cells := if off then [] else (x.cells.getLast?.map (fun c => [c])).getD [],
           back := x.back ++ (if off then x.cells else x.cells.dropLast), flushing := true,
           discarding := x.discarding || x.inPkt, tailUsed := if off then 0 else x.tailUsed }

theorem flushQueue_queueOfL {s : State} {q : Nat} (haudit : s.on (fLQ_CTRL_AUDIT q) = false) (off : Bool) :
    queueOfL (flushQueue s q off) q = flushedQueue (queueOfL s q) off := by
  rw [flushQueue, haudit, if_neg Bool.false_ne_true]
  exact queueOfL_setQueueL _ _ _

theorem flushQueue_fv (s : State) (q : Nat) (off : Bool) (f : Fld) : (flushQueue s q off).fv f = s.fv f := by
  unfold flushQueue
  dsimp only
  split
  · rfl
  · split <;> rfl

theorem fv_evIf_of_apart {f g : Fld}
    (h : g.off ≠ f.off ∨ f.lsb + f.width ≤ 32 ∧ (f.lsb + f.width ≤ g.lsb ∨ g.lsb + g.width ≤ f.lsb))
    (ho : (g.off < 0x26000 ∨ 0x26800 ≤ g.off) ∧ (g.off < 0x50000 ∨ 0x50100 ≤ g.off)) (s : State) (c : Bool) :
    (s.evIf c f).fv g = s.fv g := by
  cases c
  · rfl
  · exact fv_ev_of_apart h ho s

/-- A queue whose EN is cleared, before its flush. -/
def queueReleases (s : State) (q : Nat) : State :=
  setQueueL (s.setF (fLQ_CFG_EN q) 0) q { queueOfL s q with releasing := true }

theorem queueReleases_fv {f : Fld} {q : Nat} (h : f.off ≠ rLQ_CFG q) (s : State) : (queueReleases s q).fv f = s.fv f :=
  State.fv_setF_other (f := fLQ_CFG_EN q) h s 0

theorem queueReleases_en (s : State) (q : Nat) : (queueReleases s q).fv (fLQ_CFG_EN q) = 0 :=
  State.fv_setF_same s (fLQ_CFG_EN q) 0 (by dsimp only; decide)

theorem flushDone_flushing {s : State} {q : Nat} (h : (queueOfL s q).flushing = true) :
    queueOfL (flushDone s q) q = { queueOfL s q with flushing := false, back := [], releasing := false } := by
  rw [flushDone, if_pos h, (returnCells_queues _ _).queueOfL]
  exact queueOfL_setQueueL _ _ _

/-- The end of an audit that finds no bad cell: the cells of the queue go back. -/
def auditCells (s : State) (q : Nat) : State := returnCells s ((queueOfL s q).cells ++ (queueOfL s q).back)

/-- The audited record of a queue. -/
def auditedQueue (x : LQueue) : LQueue :=
  { x with cells := [], back := [], tailUsed := 0, releasing := false, flushing := false }

theorem auditDone_clean {s : State} {q : Nat} (haudit : s.on (fLQ_CTRL_AUDIT q) = true)
    (hstay : (queueOfL s q).releasing = false) :
    auditDone s q [] = (setCredit (setQueueL (auditCells s q) q (auditedQueue (queueOfL s q))) q
      ((auditCells s q).fv (fLQ_RESERVE_CELLS q))).setF (fLQ_CTRL_AUDIT q) 0 := by
  have hall : ((queueOfL s q).cells ++ (queueOfL s q).back).filter (fun c => !([] : List Nat).contains c) =
      (queueOfL s q).cells ++ (queueOfL s q).back := by simp
  rw [auditDone, if_pos haudit]
  dsimp only [List.foldl_nil]
  rw [hall, hstay]
  rfl

/-! ### Enabling (R315) -/

theorem queueEnable_accepted {s : State} {q : Nat} {v : Word} (hq : 192 ≤ q) (hv : bitAt v.toNat 0 = true)
    (hoff : queueEn s q = false) (hfree : (queueOfL s q).releasing = false) (hgroup : 192 ≤ bitsOf v.toNat 2 8)
    (hroom : memberCount s (bitsOf v.toNat 2 8) < 16) (hres : 0 < s.fv (fLQ_RESERVE_CELLS q)) :
    queueEnable s q v =
      if poolLimit s < poolReserved s + s.fv (fLQ_RESERVE_CELLS q) then s.ev fLARDER_EVENT_RESERVE_REFUSED
      else setCredit ((setQueueCfg s q v).setF (fLQ_CFG_EN q) 1) q (s.fv (fLQ_RESERVE_CELLS q)) := by
  have hbusy : queueBusy s q = false := by rw [queueBusy, hoff, hfree]; rfl
  rw [queueEnable, if_neg (by simp [hv]; omega), hoff, if_neg Bool.false_ne_true]
  dsimp only
  rw [hbusy, if_neg (by simp; omega)]

/-! ### Producers (R306, R307) -/

theorem putWord_last {s : State} {st : Nat} {k : Pkt} {n : Int} {bs : List Byte} {p : Bool} {w : Nat}
    (hbody : k.body = .stats n bs p) (hwords : k.words = [w]) (hsent : 0 < k.sent) :
    putWord s st k = dropPkt (writeWordL s st w true false none) st := by
  have htail : tailPkt s st k = (k, s) := by rw [tailPkt, hbody]
  rw [putWord, htail]
  simp [hwords, hbody, hsent.ne']

theorem producerWord_goes {s : State} {st : Nat} {k : Pkt} {ks : List Pkt} (hprod : kgetD [] st s.prod = k :: ks)
    (hen : queueEn s st = true) (hsent : 0 < k.sent) : producerWord s st = putWord s st k := by
  rw [producerWord, hprod]
  simp [hen, hsent.ne']

theorem producerWord_starves {s : State} {st : Nat} {k : Pkt} {ks : List Pkt} {n : Int} {bs : List Byte} {p : Bool}
    (hprod : kgetD [] st s.prod = k :: ks) (hen : queueEn s st = true) (hsent : k.sent = 0) (hbody : k.body = .stats n bs p)
    (hcredit : credit s st < ceilDiv bs.length 256 + 1) : producerWord s st = dropPkt (starve s st) st := by
  have hbegin : beginPkt s st k = (none, starve s st) := by
    rw [beginPkt, hbody]
    exact if_pos hcredit
  rw [producerWord, hprod]
  simp [hen, hsent, hbegin]

theorem dropPkt_prod {s : State} {st : Nat} {k : Pkt} (h : kgetD [] st s.prod = [k]) : kgetD [] st (dropPkt s st).prod = [] := by
  rw [dropPkt, h]
  simp [kgetD]

theorem starve_told (s : State) (st : Nat) :
    (starve s st).larder = s.larder ∧ (starve s st).fv fLARDER_EVENT_STARVED = 1
      ∧ (starve s st).isl.inbox = s.isl.inbox ++ [(faultCode 0x14 st 0x0005, 0)] := by
  unfold starve
  refine ⟨?_, ?_, ?_⟩
  · rw [State.report_larder, State.ev_larder, State.bump_larder]
  · rw [report_fv, fv_ev_set (by decide) (by decide)]
    rfl
  · rw [State.report_inbox, State.ev_isl, State.bump_isl]

theorem dropPkt_regs (s : State) (st : Nat) : (dropPkt s st).regs = s.regs := rfl

theorem dropPkt_queueOfL (s : State) (st q : Nat) : queueOfL (dropPkt s st) q = queueOfL s q := rfl

theorem packetCounted_queueOfL (s : State) (q : Nat) : queueOfL (packetCounted s) q = queueOfL s q := rfl

theorem wordStored_regs (s : State) (q : Nat) (w : LWord) : (packetCounted (wordStored s q w)).regs = s.regs := rfl

theorem wordStored_prod (s : State) (q : Nat) (w : LWord) : (packetCounted (wordStored s q w)).prod = s.prod := rfl

/-- A word pushed to a queue that stores it is the queue's newest, and the words before it stay. -/
theorem wordStored_words (s : State) (q data : Nat) (last poison : Bool) (tag : Option PktMeta) :
    (queueOfL (wordStored (roomAtTail s q) q (tailWord (queueOfL (roomAtTail s q) q) data last poison tag)) q).words.map
        (fun w => (w.data, w.last)) = (queueOfL s q).words.map (fun w => (w.data, w.last)) ++ [(data, last)]
      ∧ (queueOfL (wordStored (roomAtTail s q) q (tailWord (queueOfL (roomAtTail s q) q) data last poison tag)) q).inPkt = !last
      ∧ (queueOfL (wordStored (roomAtTail s q) q (tailWord (queueOfL (roomAtTail s q) q) data last poison tag)) q).orders =
        if last then (queueOfL s q).orders ++ [s.larder.order] else (queueOfL s q).orders := by
  obtain ⟨⟨cells, used, hroom⟩, horder⟩ := roomAtTail_queues s q
  rw [wordStored_queueOfL, hroom, horder]
  dsimp only [tailWord]
  rw [List.map_append]
  exact ⟨rfl, rfl, rfl⟩

/-- Settles O19: words, pops, flushes, audits and enabling, each by its rule. -/
theorem larder : Obligations.Larder := by
  refine ⟨?word, ?starved, ?push, ?refused, ?pushEnd, ?pop, ?underrun, ?notSoft, ?audit, ?flush, ?disable, ?flushDone, ?enable,
    ?poolFull⟩
  case word =>
    intro s st k w n bs p hhub hst hprod hen hsent hbody hwords hkeep haudit hroom
    refine ⟨_, congrArg Host.Outcome.next (hub_of_on hhub _), ?_⟩
    dsimp only
    rw [Nat.mod_eq_of_lt hst, producerWord_goes hprod hen hsent, putWord_last hbody hwords hsent,
      writeWordL_last haudit hkeep, roomAtTail_of_room hroom]
    rw [dropPkt_regs, wordStored_regs, dropPkt_queueOfL, packetCounted_queueOfL, wordStored_queueOfL]
    exact ⟨rfl, dropPkt_prod (by rw [wordStored_prod, hprod]), rfl, rfl⟩
  case starved =>
    intro s st k n bs p hhub hst hprod hen hsent hbody hcredit
    refine ⟨_, congrArg Host.Outcome.next (hub_of_on hhub _), ?_⟩
    dsimp only
    rw [Nat.mod_eq_of_lt hst, producerWord_starves hprod hen hsent hbody hcredit]
    have hprod' : kgetD [] st (starve s st).prod = [k] := by
      rw [show (starve s st).prod = s.prod from State.ev_prod _ _, hprod]
    obtain ⟨hlarder, hevent, hinbox⟩ := starve_told s st
    exact ⟨dropPkt_prod hprod', hlarder, hevent, hinbox⟩
  case push =>
    intro s q v hhub hlo hq hok hkeep haudit
    refine ⟨_, congrArg Host.Outcome.next (hub_of_on hhub _), ?_⟩
    dsimp only
    rw [Nat.mod_eq_of_lt hq, push_accepted hok, writeWordL_inner haudit hkeep]
    exact wordStored_words s q v.toNat false false none
  case refused =>
    intro s q v hhub hq hoff
    refine ⟨_, congrArg Host.Outcome.next (hub_of_on hhub _), ?_⟩
    dsimp only
    rw [Nat.mod_eq_of_lt hq, push_disabled hoff]
    refine ⟨?_, ?_, ?_⟩
    · rw [State.report_larder, State.ev_larder, State.bump_larder]
    · rw [report_fv, fv_ev_set (by decide) (by decide)]
      rfl
    · rw [State.report_inbox, State.ev_isl, State.bump_isl]
  case pushEnd =>
    intro s q v hhub hlo hq hok hkeep haudit
    refine ⟨_, congrArg Host.Outcome.next (hub_of_on hhub _), ?_⟩
    dsimp only
    rw [Nat.mod_eq_of_lt hq, push_accepted hok, writeWordL_last haudit hkeep]
    obtain ⟨hwords, hpkt, horders⟩ := wordStored_words s q v.toNat true false none
    exact ⟨hwords, hpkt, horders, congrArg (· + 1) (roomAtTail_queues s q).2⟩
  case pop =>
    intro s g q w ws hhub hg hsoft hidle hnext hcut hwords hpoison
    refine ⟨_, congrArg Host.Outcome.next (hub_of_on hhub _), ?_⟩
    dsimp only
    have hcut' : (groupOfL (groupOpened s g q) g).cut = false := by rw [groupOpened, groupOfL_setGroupL]; exact hcut
    have hopened : (groupOfL (groupOpened s g q) g).opened = some q := by rw [groupOpened, groupOfL_setGroupL]
    have hread := (groupRead_opens hidle hnext .none).trans (deliver_word hcut' hwords hpoison)
    rw [Nat.mod_eq_of_lt hg, pop_word hsoft, hread]
    obtain ⟨hend, hunder⟩ := popTag_fields (if w.last then packetTaken (wordTaken (groupOpened s g q) g q w ws) g q
      else wordTaken (groupOpened s g q) g q w ws) g (headWord q w)
    refine ⟨rfl, ?_, ?_, hend, hunder⟩
    · show (queueOfL (if w.last then _ else _) q).words = ws
      split
      · rw [packetTaken_queueOfL, wordTaken_queueOfL]
      · rw [wordTaken_queueOfL]
    · show (groupOfL (if w.last then _ else _) g).opened = _
      split
      · rw [packetTaken_groupOfL]
      · rw [wordTaken_groupOfL]
        exact hopened
  case underrun =>
    intro s g hhub hg hsoft hidle hnext
    refine ⟨_, congrArg Host.Outcome.next (hub_of_on hhub _), ?_⟩
    dsimp only
    rw [Nat.mod_eq_of_lt hg, pop_word hsoft, groupRead_underrun hidle hnext]
    refine ⟨rfl, groupUnderrun_larder s g, ?_, ?_, ?_⟩
    · exact (popTag_fields _ g _).2
    · rw [fv_answer, setPopTag, State.fv_setRn_other (by grind)]
      exact fv_ev_set (f := fLARDER_EVENT_UNDERRUN) (by decide) (by decide) _
    · show ((State.ev _ _).report _ _ _).isl.inbox = _
      rw [State.report_inbox, State.ev_isl, State.bump_isl, State.setF_isl]
  case notSoft =>
    intro s g size e hhub hg hsoft
    refine ⟨_, congrArg Host.Outcome.next (hub_of_on hhub _), ?_⟩
    dsimp only
    rw [Nat.mod_eq_of_lt hg, pop_idle hsoft]
    refine ⟨rfl, ?_, fv_ev_set (f := fLARDER_EVENT_CFG_INVALID) (by decide) (by decide) s⟩
    rw [State.answer_larder, State.ev_larder]
  case audit =>
    intro s q hhub hq haudit hstay
    refine ⟨_, congrArg Host.Outcome.next (hub_of_on hhub _), ?_⟩
    have hoff : OffRetired (· = rLQ_RESERVE q) := by
      refine ⟨fun o ho => ?_, ?_, ?_⟩
      · rw [ho, not_irqReg_iff]
        show (0x1020004 + 0x20 * q < 0x26000 ∨ 0x26800 ≤ 0x1020004 + 0x20 * q)
          ∧ (0x1020004 + 0x20 * q < 0x50000 ∨ 0x50100 ≤ 0x1020004 + 0x20 * q)
        omega
      · show ¬ 0x100000c = 0x1020004 + 0x20 * q
        omega
      · show ¬ 0x1000010 = 0x1020004 + 0x20 * q
        omega
    have hreserve : (auditCells s q).fv (fLQ_RESERVE_CELLS q) = s.fv (fLQ_RESERVE_CELLS q) :=
      (returnCells_kept hoff (.refl _ s) _).fv rfl
    dsimp only
    rw [Nat.mod_eq_of_lt hq, auditDone_clean haudit hstay, hreserve]
    have hqueue := queueOfL_setQueueL (auditCells s q) q (auditedQueue (queueOfL s q))
    refine ⟨?_, congrArg LQueue.cells hqueue, congrArg LQueue.flushing hqueue, ?_⟩
    · rw [State.fv_setF_same _ _ _ (by grind)]
      rfl
    · rw [credit, fv_setF_of_apart (by grind), setCredit, State.fv_setF_same _ _ _ (by grind)]
      exact Nat.mod_eq_of_lt (s.fv_lt _)
  case flush =>
    intro s q v hhub hlo hq haudit hv
    refine ⟨_, congrArg Host.Outcome.next (hub_of_on hhub _), ?_⟩
    dsimp only
    rw [Nat.mod_eq_of_lt hq, queueFlush, if_neg (by omega), if_neg Bool.false_ne_true, writeQueueCtrl,
      if_pos hv]
    generalize hu : (if bitAt v.toNat 1 then s.setF (fLQ_CTRL_BROKEN q) 0 else s) = u
    have hqueue : queueOfL u q = queueOfL s q := by rw [← hu]; split <;> rfl
    have haudit' : u.on (fLQ_CTRL_AUDIT q) = false := by
      rw [← hu, State.on_eq, State.fv_ite, fv_setF_of_apart (by grind), ite_self, ← State.on_eq, haudit]
    rw [flushQueue_queueOfL haudit', hqueue]
    exact ⟨rfl, rfl, rfl, rfl⟩
  case disable =>
    intro s q v hhub hlo hq haudit hv hen
    refine ⟨_, congrArg Host.Outcome.next (hub_of_on hhub _), ?_⟩
    dsimp only
    rw [Nat.mod_eq_of_lt hq, queueFlush, if_neg (by omega), if_pos rfl, if_neg (by rw [hv]; decide), writeCfgOff,
      if_pos hen]
    generalize hu : s.evIf (queueBusy s q && cfgDiffers s q v) fLARDER_EVENT_CFG_INVALID = u
    have haudit' : (queueReleases u q).on (fLQ_CTRL_AUDIT q) = false := by
      rw [State.on_eq, queueReleases_fv (by grind), ← hu, fv_evIf_of_apart (by grind) (by grind), ← State.on_eq, haudit]
    have hqueue : queueOfL (flushQueue (queueReleases u q) q true) q = _ := flushQueue_queueOfL haudit' true
    refine ⟨?_, ?_, congrArg LQueue.words hqueue, congrArg LQueue.cells hqueue, congrArg LQueue.flushing hqueue⟩
    · show queueEn (flushQueue (queueReleases u q) q true) q = false
      rw [queueEn, State.on_eq, flushQueue_fv, queueReleases_en]
      rfl
    · refine (congrArg LQueue.releasing hqueue).trans ?_
      exact congrArg LQueue.releasing (queueOfL_setQueueL _ q _)
  case flushDone =>
    intro s q hhub hq hflushing
    refine ⟨_, congrArg Host.Outcome.next (hub_of_on hhub _), ?_⟩
    dsimp only
    rw [Nat.mod_eq_of_lt hq, flushDone_flushing hflushing]
    exact ⟨rfl, rfl, rfl, rfl⟩
  case enable =>
    intro s q v hhub hlo hq hv hoff hfree hgroup hroom hres hfit
    refine ⟨_, congrArg Host.Outcome.next (hub_of_on hhub _), ?_⟩
    dsimp only
    rw [Nat.mod_eq_of_lt hq, queueEnable_accepted hlo hv hoff hfree hgroup hroom hres, if_neg (by omega)]
    refine ⟨?_, ?_, ?_, ?_, ?_⟩
    · rw [queueEn, State.on_eq, setCredit, fv_setF_of_apart (by grind), State.fv_setF_same _ _ _ (by grind)]
      rfl
    · rw [queueGroup, setCredit, fv_setF_of_apart (by grind), fv_setF_of_apart (by grind), setQueueCfg,
        fv_setF_of_apart (by grind), State.fv_setF_same _ _ _ (by grind)]
      exact Nat.mod_eq_of_lt (bitsOf_lt _ _ _)
    · rw [setCredit, fv_setF_of_apart (by grind), fv_setF_of_apart (by grind), setQueueCfg, State.fv_setF_same _ _ _ (by grind)]
      exact Nat.mod_eq_of_lt (bitsOf_lt _ _ _)
    · rw [credit, setCredit, State.fv_setF_same _ _ _ (by grind)]
      exact Nat.mod_eq_of_lt (s.fv_lt _)
    · rw [setCredit, State.setF_larder, State.setF_larder, setQueueCfg, State.setF_larder, State.setF_larder]
  case poolFull =>
    intro s q v hhub hlo hq hv hoff hfree hgroup hroom hres hfull
    refine ⟨_, congrArg Host.Outcome.next (hub_of_on hhub _), ?_⟩
    dsimp only
    rw [Nat.mod_eq_of_lt hq, queueEnable_accepted hlo hv hoff hfree hgroup hroom hres, if_pos hfull]
    refine ⟨?_, State.ev_larder _ _, ?_⟩
    · rw [queueEn, State.on_eq, fv_ev_of_apart (by grind) (by grind), ← State.on_eq]
      exact hoff
    · exact fv_ev_set (f := fLARDER_EVENT_RESERVE_REFUSED) (by decide) (by decide) s

end Sys2Proof.Machine

namespace Sys2Proof.Machine

/-! ### What the completion of a command leaves (R354 to R357) -/

theorem cqWrite_opened (s : State) (j : Nat) (e : CqEntry) : (cqWrite s j e).ring.opened = s.ring.opened := by
  have hsent : (cqSent s j e).ring = s.ring := (Keeps.of (keeps_hostWrite s _ _ _)).ring rfl
  have hplaced : (cqPlaced s j e).ring.opened = s.ring.opened := by
    rw [← hsent]
    rfl
  obtain h | h := cqWrite_cases s j e
  · rw [h, cqSignal_opened, hplaced]
  · rw [h, hplaced]

theorem setCq_opened (s : State) (j : Nat) (q : Cq) : (setCq s j q).ring.opened = s.ring.opened := rfl

theorem cqTake_opened (s : State) (j : Nat) (e : CqEntry) : (cqTake s j e).2.ring.opened = s.ring.opened := by
  unfold cqTake
  dsimp only
  split
  · exact cqWrite_opened s j e
  · split
    · rw [State.setF_ring, setCq_opened]
    · dsimp only
      rw [State.ev_ring, State.setF_ring, State.setF_ring, setCq_opened]

theorem cqOverflowed_opened (s : State) (j : Nat) : (cqOverflowed s j).ring.opened = s.ring.opened := by
  unfold cqOverflowed asyncLast
  split
  · rfl
  · dsimp only
    split
    · exact cqTake_opened _ _ _
    · rw [State.ev_ring]

theorem cqPost_opened (s : State) (j : Nat) (e : CqEntry) : (cqPost s j e).ring.opened = s.ring.opened := by
  unfold cqPost
  split
  · dsimp only
    split
    · rw [cqOverflowed_opened, cqTake_opened]
    · exact cqTake_opened s j e
  · split
    · exact setCq_opened _ _ _
    · rfl

/-- A command that completes is no longer open; the others are. -/
theorem complete_opened {s : State} {c : Cmd} (hopen : s.ring.opened.any (fun x => x.id == c.id) = true)
    (st r0 r1 r2 d : Nat) : (complete s c st r0 r1 r2 d).ring.opened = s.ring.opened.filter (fun x => x.id != c.id) := by
  rw [complete_of_open hopen, cqPost_opened]
  rfl

theorem complete_act (s : State) (c : Cmd) (st r0 r1 r2 d : Nat) : (complete s c st r0 r1 r2 d).act = s.act :=
  (Keeps.of (keeps_complete s c st r0 r1 r2 d)).act rfl

theorem complete_commits (s : State) (c : Cmd) (st r0 r1 r2 d : Nat) : (complete s c st r0 r1 r2 d).commits = s.commits :=
  (Keeps.of (keeps_complete s c st r0 r1 r2 d)).commits rfl

theorem complete_written (s : State) (c : Cmd) (st r0 r1 r2 d : Nat) : (complete s c st r0 r1 r2 d).written = s.written :=
  (Keeps.of (keeps_complete s c st r0 r1 r2 d)).written rfl

/-! ### Plates (R171 to R173) -/

theorem plate_badFields {s : State} {c : Cmd} (h : plateFieldsOk c = false) : cmdPlate s c = complete s c 0x04 := by
  rw [cmdPlate, h]
  rfl

section
variable {s : State} {c : Cmd} (hfields : plateFieldsOk c = true)
include hfields

theorem plate_rejected {st off : Nat} (h : plateCheck s c.payload = .error (st, off)) :
    cmdPlate s c = complete s c st 0 0 0 (off % 65536) := by
  rw [cmdPlate, hfields, if_neg (by decide)]
  simp only [h]

theorem plate_accepted {l : List PlateRec} (h : plateCheck s c.payload = .ok l) :
    cmdPlate s c = complete (l.foldl (fun s r => writeAll s (recWrites (plateTarget c.payload) r)) s) c 0x00 := by
  rw [cmdPlate, hfields, if_neg (by decide)]
  simp only [h]
end

/-- A plate that passes writes records that lie in the scope of an unlocked target. -/
theorem plateCheck_ok {s : State} {bs : List Byte} {l : List PlateRec} (h : plateCheck s bs = .ok l) :
    scopeBad s (plateTarget bs) l = none ∧ lockedTarget s (plateTarget bs) = false := by
  unfold plateCheck at h
  split at h
  case h_1 => cases h
  case h_2 =>
    dsimp only at h
    split at h
    · cases h
    · split at h
      case h_1 => cases h
      case h_2 hscope =>
        split at h
        case h_1 => cases h
        case h_2 =>
          split at h
          case isTrue => cases h
          case isFalse hlock =>
            cases h
            exact ⟨hscope, Bool.not_eq_true _ ▸ hlock⟩

theorem scopeBad_first {s : State} {t : Nat} {r : PlateRec} {l : List PlateRec} (h : scopeBad s t (r :: l) = none) :
    (recInScope s t r).1 = true := by
  unfold scopeBad at h
  dsimp only at h
  split at h
  · next hok => exact hok
  · cases h

/-! ### The registers of a pipeline's block -/

/-- A row of the blocks of the pipelines stands in each of them at the same place. -/
def RegRow.PerPipe (r : RegRow) : Prop :=
  r.s1 = 0x10000 ∧ (0x600000 ≤ r.base
    ∨ 32 ≤ r.n1 ∧ 0x400000 ≤ r.base ∧ r.base < 0x410000 ∧ r.base + r.n2 * r.s2 ≤ 0x410000)

theorem rowsPIPE_perPipe : ∀ r ∈ rowsPIPE, r.PerPipe := by
  unfold RegRow.PerPipe
  decide +kernel

section
variable {p o : Nat} (hp : p < 32) (hlo : 0x400000 ≤ o) (hhi : o < 0x410000)
include hp hlo hhi

theorem RegRow.index_perPipe {r : RegRow} (h : r.PerPipe) :
    r.index (o + 0x10000 * p) = (r.index o).map (fun x => (x.1 + p, x.2)) := by
  obtain ⟨hs1, hoff | ⟨hn1, hbase, hend, hspan⟩⟩ := h
  · rw [RegRow.index, if_pos (by omega), RegRow.index, if_pos (by omega)]
    rfl
  unfold RegRow.index
  dsimp only
  rw [hs1, if_neg (by decide : ¬ 0x10000 = 0), if_neg (by decide : ¬ 0x10000 = 0), if_neg (by decide : ¬ 0x10000 = 0),
    if_neg (by decide : ¬ 0x10000 = 0)]
  rcases Nat.lt_or_ge o r.base with hbelow | habove
  · rw [if_pos hbelow, Option.map_none]
    refine ite_eq_left_iff.mpr fun hpast => ?_
    have hone : 1 ≤ p := by omega
    have hrest : (o + 0x10000 * p - r.base) % 0x10000 = o + 0x10000 - r.base := by omega
    rw [hrest]
    refine if_neg ?_
    by_cases hz : r.s2 = 0
    · rw [if_pos hz, decide_eq_false (by omega)]
      simp
    · have hfar : ¬ (o + 0x10000 - r.base) / r.s2 < r.n2 := by
        rw [Nat.div_lt_iff_lt_mul (by omega)]
        omega
      rw [if_neg hz, if_neg hz, decide_eq_false hfar]
      simp
  · rw [if_neg (show ¬ o + 0x10000 * p < r.base by omega), if_neg (show ¬ o < r.base by omega)]
    have hquot : (o + 0x10000 * p - r.base) / 0x10000 = p := by omega
    have hquot' : (o - r.base) / 0x10000 = 0 := by omega
    have hrest : (o + 0x10000 * p - r.base) % 0x10000 = (o - r.base) % 0x10000 := by omega
    rw [hquot, hquot', hrest, decide_eq_true (show p < r.n1 by omega), decide_eq_true (show 0 < r.n1 by omega), apply_ite (Option.map _)]
    simp

theorem findRow_perPipe {rows : List RegRow} (h : ∀ r ∈ rows, r.PerPipe) :
    findRow (o + 0x10000 * p) rows = (findRow o rows).map (fun x => (x.1, x.2.1 + p, x.2.2)) := by
  induction rows with
  | nil => rfl
  | cons r rows ih =>
    obtain ⟨hr, hrows⟩ := List.forall_mem_cons.mp h
    unfold findRow
    rw [r.index_perPipe hp hlo hhi hr]
    cases r.index o with
    | none => exact ih hrows
    | some x => rfl

/-- A register of the blocks of the pipelines decodes in each of them alike. -/
theorem regAt_perPipe : regAt (o + 0x10000 * p) = (regAt o).map (fun x => (x.1, x.2.1 + p, x.2.2)) := by
  have hb : (0x400000, 0x600000, rowsPIPE) ∈ regBlocks := by
    unfold regBlocks
    simp
  rw [regAt, blockRows_of_mem regBlocks_ascending hb (by dsimp only; omega) (by dsimp only; omega), regAt,
    blockRows_of_mem regBlocks_ascending hb hlo (by dsimp only; omega)]
  exact findRow_perPipe hp hlo hhi rowsPIPE_perPipe
end

/-- The registers of a kernel slot: an ID of 16 bits, and a word. -/
theorem kslot_rows {p j : Nat} (hp : p < 32) (hj : j < 16) :
    (regAt (rKSLOT_KID p j)).map (fun x => x.1.flds) = some [rw 0 16 0]
      ∧ (regAt (rKSLOT_PARAM p j)).map (fun x => x.1.flds) = some [rw 0 32 4] := by
  have hrows : ∀ j < 16, (regAt (0x400b00 + 0x10 * j)).map (fun x => x.1.flds) = some [rw 0 16 0]
      ∧ (regAt (0x400b04 + 0x10 * j)).map (fun x => x.1.flds) = some [rw 0 32 4] := by decide +kernel
  obtain ⟨hkid, hparam⟩ := hrows j hj
  have hkid' := regAt_perPipe hp (o := 0x400b00 + 0x10 * j) (by omega) (by omega)
  have hparam' := regAt_perPipe hp (o := 0x400b04 + 0x10 * j) (by omega) (by omega)
  rw [show rKSLOT_KID p j = 0x400b00 + 0x10 * j + 0x10000 * p by unfold rKSLOT_KID; omega, hkid',
    show rKSLOT_PARAM p j = 0x400b04 + 0x10 * j + 0x10000 * p by unfold rKSLOT_PARAM; omega, hparam', Option.map_map,
    Option.map_map]
  exact ⟨hkid, hparam⟩

/-! ### Writes of shadowed registers (R6, R169) -/

theorem fieldBad_rw (v l w r : Nat) : fieldBad v (rw l w r) = false := by
  have h := bitsOf_lt v l w
  have hle : ¬ 2 ^ w - 1 < bitsOf v l w := by omega
  simp [fieldBad, rw, hle]

/-- A write of a register leaves the others. -/
theorem plainWrite_kept {P : Nat → Prop} {s t : State} (hirq : ∀ o, P o → ¬ irqReg o) {off i j : Nat} {r : RegRow} {v : Word}
    (hreg : regAt off = some (r, i, j)) (hgood : r.flds.any (fieldBad v.toNat) = false) (hoff : ¬ P off)
    (h : RegsKept P s t) : RegsKept P s (plainWrite t off v) := by
  have hset := h.setRn (writeWord (t.rn off) v.toNat r.flds) hoff
  unfold plainWrite
  simp only [hreg, hgood, Bool.false_eq_true, if_false]
  split
  · next n hsrc =>
    obtain ⟨hn, -⟩ := evSrc_safe hsrc
    exact .ite (fun _ => ⟨fun o ho => (rn_irqAgain hn (hirq o ho)).trans (hset.rn o ho)⟩)
      fun _ => ⟨fun o ho => (rn_irqEval hn (hirq o ho)).trans (hset.rn o ho)⟩
  · exact hset

/-- Writes of a register whose only field is read and written. -/
theorem plainWrite_field {off l w rst : Nat} (hreg : (regAt off).map (fun x => x.1.flds) = some [rw l w rst]) (s : State)
    (v : Word) :
    (plainWrite s off v).fv ⟨off, l, w⟩ = bitsOf v.toNat l w
      ∧ ∀ P : Nat → Prop, (∀ o, P o → ¬ irqReg o) → ¬ P off → RegsKept P s (plainWrite s off v) := by
  obtain ⟨⟨r, i, j⟩, hrow, hflds⟩ := Option.map_eq_some_iff.mp hreg
  have hflds' : r.flds = [rw l w rst] := hflds
  have hgood : r.flds.any (fieldBad v.toNat) = false := by
    rw [hflds', List.any_cons, fieldBad_rw]
    rfl
  refine ⟨?_, fun P hirq hoff => plainWrite_kept hirq hrow hgood hoff (.refl P s)⟩
  rw [State.fv]
  dsimp only
  rw [plainWrite_rn hrow hgood, hflds']
  exact bitsOf_writeWord_field (List.pairwise_singleton _ _) (List.mem_singleton_self (rw l w rst)) _ _

theorem shadowWrite_plain {s : State} {off p : Nat} (hlo : 0x400000 ≤ off) (hhi : off < 0x600000)
    (hpipe : (off - 0x400000) / 0x10000 = p) (htable : off % 0x10000 < 0x1000) (hlock : lockedTarget s p = false) (v : Word) :
    shadowWrite s off v = plainWrite s off v := by
  have hmap : mapIndex off = none := by
    rw [mapIndex, if_neg (by simp; omega), if_neg (by simp; omega)]
  have howner : ownerOf off = some p := by
    rw [ownerOf, if_pos (by simp; omega), hpipe]
  have htab : isTable off = false := by
    simp [isTable]
    omega
  have hfree : lockOf s off v = none := by
    rw [lockOf, hmap, howner]
    simp [hlock]
  rw [shadowWrite, hfree, htab]
  rfl

/-- The writes of a plate's record of a kernel slot. -/
def slotWritten (s : State) (p j kid param : Nat) : State :=
  shadowWrite (shadowWrite s (rKSLOT_KID p j) (BitVec.ofNat 32 kid)) (rKSLOT_PARAM p j) (BitVec.ofNat 32 param)

theorem slotWritten_fields {s : State} {p j kid : Nat} (hp : p < 32) (hj : j < 16) (hlock : lockedTarget s p = false)
    (hkid : kid < 65536) (param : Nat) :
    (slotWritten s p j kid param).fv (fKSLOT_KID_ID p j) = kid
      ∧ (slotWritten s p j kid param).rn (rKSLOT_PARAM p j) = param % 2 ^ 32 := by
  obtain ⟨hrow, hrow'⟩ := kslot_rows hp hj
  have hshape : rKSLOT_KID p j = 0x400b00 + 0x10000 * p + 0x10 * j ∧ rKSLOT_PARAM p j = 0x400b04 + 0x10000 * p + 0x10 * j :=
    ⟨rfl, rfl⟩
  obtain ⟨hk, hk'⟩ := hshape
  obtain ⟨hid, hkept⟩ := plainWrite_field hrow s (BitVec.ofNat 32 kid)
  have hlock' : lockedTarget (plainWrite s (rKSLOT_KID p j) (BitVec.ofNat 32 kid)) p = false := by
    rw [lockedTarget, (hkept (· = rCMT_COMMIT_STATUS p) ?irq ?off).on rfl]
    · exact hlock
    case irq =>
      rintro o rfl
      rw [not_irqReg_iff]
      grind
    case off => grind
  obtain ⟨hpar, hkept'⟩ :=
    plainWrite_field hrow' (plainWrite s (rKSLOT_KID p j) (BitVec.ofNat 32 kid)) (BitVec.ofNat 32 param)
  rw [slotWritten, shadowWrite_plain (p := p) (by omega) (by omega) (by omega) (by omega) hlock,
    shadowWrite_plain (p := p) (by omega) (by omega) (by omega) (by omega) hlock']
  refine ⟨?_, ?_⟩
  · rw [(hkept' (· = rKSLOT_KID p j) ?irq ?off).fv rfl]
    · rw [hid, BitVec.toNat_ofNat, bitsOf]
      omega
    case irq =>
      rintro o rfl
      rw [not_irqReg_iff]
      grind
    case off => grind
  · rw [State.rn_eq_fv, hpar, BitVec.toNat_ofNat, bitsOf]
    omega

end Sys2Proof.Machine

namespace Sys2Proof.Machine

/-! ### A plate with a kernel slot (R171, R172) -/

theorem slotPlate_writes {s : State} {p : Nat} (hp : p < 32) {r e : PlateRec} (hr : r.type = 3) (he : e.type = 0xFF) :
    [r, e].foldl (fun s r => writeAll s (recWrites p r)) s =
      slotWritten s p (r.addr % 256) (r.addr / 256 % 65536) (r.words.headD 0) := by
  have hslot : recWrites p r = [(rKSLOT_KID p (r.addr % 256), r.addr / 256 % 65536),
      (rKSLOT_PARAM p (r.addr % 256), r.words.headD 0)] := by
    rw [recWrites, hr]
    simp [hp]
  have hend : recWrites p e = [] := by
    rw [recWrites, he]
    rfl
  rw [List.foldl_cons, List.foldl_cons, List.foldl_nil, hslot, hend]
  rfl

theorem slotPlate_inScope {s : State} {p : Nat} (hp : p < 32) {r : PlateRec} (hr : r.type = 3)
    (h : (recInScope s p r).1 = true) : r.addr % 256 < 16 := by
  rw [recInScope, hr] at h
  simpa [hp] using h

theorem slotWritten_kept (s : State) (p j kid param : Nat) :
    (slotWritten s p j kid param).act = s.act ∧ (slotWritten s p j kid param).commits = s.commits
      ∧ (slotWritten s p j kid param).ring = s.ring := by
  have h := Keeps.of (keeps_shadowWrite (shadowWrite s (rKSLOT_KID p j) (BitVec.ofNat 32 kid)) (rKSLOT_PARAM p j)
    (BitVec.ofNat 32 param))
  have h' := Keeps.of (keeps_shadowWrite s (rKSLOT_KID p j) (BitVec.ofNat 32 kid))
  exact ⟨(h.act rfl).trans (h'.act rfl), (h.commits rfl).trans (h'.commits rfl), (h.ring rfl).trans (h'.ring rfl)⟩

/-! ### What the check of a plate reads -/

section
variable {s u : State} (hregs : u.regs = s.regs)
include hregs

theorem wordInScope_congr (t off v : Nat) : wordInScope u t off v = wordInScope s t off v := by
  have hrn : u.rn = s.rn := funext fun o => rn_congr hregs o
  rw [wordInScope, hrn, wordInScope]

theorem setRn_regs_congr (off v : Nat) : (u.setRn off v).regs = (s.setRn off v).regs := by
  rw [State.setRn, State.setReg, State.setRn, State.setReg, hregs]

theorem regWords_congr (t : Nat) (l : List (Nat × Nat)) (ok : Bool) :
    (l.foldl (fun x w => (x.1 && wordInScope x.2 t w.1 w.2, x.2.setRn w.1 w.2)) (ok, u)).1 =
        (l.foldl (fun x w => (x.1 && wordInScope x.2 t w.1 w.2, x.2.setRn w.1 w.2)) (ok, s)).1
      ∧ (l.foldl (fun x w => (x.1 && wordInScope x.2 t w.1 w.2, x.2.setRn w.1 w.2)) (ok, u)).2.regs =
        (l.foldl (fun x w => (x.1 && wordInScope x.2 t w.1 w.2, x.2.setRn w.1 w.2)) (ok, s)).2.regs := by
  induction l generalizing u s ok with
  | nil => exact ⟨rfl, hregs⟩
  | cons w l ih =>
    rw [List.foldl_cons, List.foldl_cons, wordInScope_congr hregs]
    exact ih (setRn_regs_congr hregs w.1 w.2) _

theorem recInScope_congr (t : Nat) (r : PlateRec) :
    (recInScope u t r).1 = (recInScope s t r).1 ∧ (recInScope u t r).2.regs = (recInScope s t r).2.regs := by
  unfold recInScope
  split
  · exact regWords_congr hregs t _ true
  · split <;> exact ⟨rfl, hregs⟩
  · exact ⟨rfl, hregs⟩
  · exact ⟨rfl, hregs⟩

theorem scopeBad_congr (t : Nat) (l : List PlateRec) : scopeBad u t l = scopeBad s t l := by
  induction l generalizing u s with
  | nil => rfl
  | cons r l ih =>
    obtain ⟨hok, hafter⟩ := recInScope_congr hregs t r
    unfold scopeBad
    dsimp only
    rw [hok, ih hafter]

theorem plateCheck_congr (hboot : u.pow.boot = s.pow.boot) (bs : List Byte) : plateCheck u bs = plateCheck s bs := by
  have hlib : ∀ l, libraryBad u bs l = libraryBad s bs l := fun l => by rw [libraryBad, hboot, libraryBad]
  have hlock : ∀ t, lockedTarget u t = lockedTarget s t := fun t => (RegsKept.of_regs (P := fun _ => True) hregs).on trivial
  unfold plateCheck
  split
  · rfl
  · dsimp only
    rw [scopeBad_congr hregs, hlib, hlock]
end

/-! ### The outcome of a commit (R175 to R179) -/

/-- The registers of `P` are none that the end of a commit of target `t` writes. -/
def OffCommit (P : Nat → Prop) (t : Nat) : Prop := OffRings P ∧ ¬ P (rCMT_COMMIT_STATUS t) ∧ ¬ P (rCMT_EVENT t)

/-- The commit has left the queue, and its events say how. -/
def commitTold (s : State) (c : CommitRec) (status : Nat) : State :=
  (((dropCommit s c status).evIf (status == 0x00 || status == 0x01) (fCMT_EVENT_COMMIT_DONE c.target)).evIf
    (status == 0x40 || status == 0x41) (fCMT_EVENT_COMMIT_REJECT c.target)).evIf
    (status == 0x01 || status == 0x43) (fCMT_EVENT_COMMIT_LATE c.target)

theorem endCommit_eq (s : State) (c : CommitRec) (status fsn : Nat) : endCommit s c status fsn =
    complete (commitTold s c status) c.cmd status
      ((if status ≤ 0x01 then fsn else 0) + (commitTold s c status).rn (rCMT_CONFIG_GEN c.target) * 2 ^ 32)
      ((commitTold s c status).rn (rCMT_REJECT c.target)) := rfl

section
variable {P : Nat → Prop} {s t : State} {c : CommitRec}

theorem evIf_kept (h : RegsKept P s t) {f : Fld} (hf : ¬ P f.off) (hirq : ∀ o, P o → ¬ irqReg o) (b : Bool) :
    RegsKept P s (t.evIf b f) := by
  cases b
  · exact h
  · exact h.ev hf hirq

theorem endCommit_kept (hP : OffCommit P c.target) (h : RegsKept P s t) (status fsn : Nat) :
    RegsKept P s (endCommit t c status fsn) := by
  obtain ⟨hrings, hstatus, hevent⟩ := hP
  have hirq := hrings.not_irqReg
  have hdrop : RegsKept P s (dropCommit t c status) := .setF (.setF (.setF h.withRest _ hstatus) _ hstatus) _ hstatus
  rw [endCommit_eq]
  exact complete_kept hrings (evIf_kept (evIf_kept (evIf_kept hdrop hevent hirq _) hevent hirq _) hevent hirq _) _ _ _ _ _ _

/-- What the end of a commit with `status` shows. -/
structure CommitEnded (s t : State) (c : CommitRec) (status : Nat) : Prop where
  commits : t.commits = s.commits.filter (fun x => x.cmd.id != c.cmd.id)
  locked : t.fv (fCMT_COMMIT_STATUS_LOCKED c.target) = 0
  last : t.fv (fCMT_COMMIT_STATUS_LAST_STATUS c.target) = status
  done : status = 0x00 → t.fv (fCMT_EVENT_COMMIT_DONE c.target) = 1
  reject : status = 0x40 ∨ status = 0x41 → t.fv (fCMT_EVENT_COMMIT_REJECT c.target) = 1
  late : status = 0x43 → t.fv (fCMT_EVENT_COMMIT_LATE c.target) = 1

/-- The registers of a commit are none of the completion rings. -/
theorem commitRegs_offRings (t : Nat) : OffRings (fun o => o = rCMT_COMMIT_STATUS t ∨ o = rCMT_EVENT t) := by
  rintro o (rfl | rfl) <;> grind

theorem commitTold_status {f : Fld} (hf : f.off = rCMT_COMMIT_STATUS c.target) (s : State) (status : Nat) :
    (commitTold s c status).fv f = (dropCommit s c status).fv f := by
  rw [commitTold, fv_evIf_of_apart (by grind) (by grind), fv_evIf_of_apart (by grind) (by grind),
    fv_evIf_of_apart (by grind) (by grind)]

theorem evIf_commits (s : State) (b : Bool) (f : Fld) : (s.evIf b f).commits = s.commits := by
  cases b
  · rfl
  · exact State.ev_commits s f

theorem endCommit_ended (s : State) (c : CommitRec) {status : Nat} (hstatus : status < 256) (fsn : Nat) :
    CommitEnded s (endCommit s c status fsn) c status := by
  have hkept : RegsKept (fun o => o = rCMT_COMMIT_STATUS c.target ∨ o = rCMT_EVENT c.target) (commitTold s c status)
      (endCommit s c status fsn) := by
    rw [endCommit_eq]
    exact complete_kept (commitRegs_offRings _) (.refl _ _) _ _ _ _ _ _
  have hcommits : (commitTold s c status).commits = (dropCommit s c status).commits := by
    rw [commitTold, evIf_commits, evIf_commits, evIf_commits]
  constructor
  case commits =>
    rw [endCommit_eq, complete_commits, hcommits]
    rfl
  case locked =>
    rw [hkept.fv (.inl rfl), commitTold_status rfl, dropCommit, fv_setF_of_apart (by grind),
      State.fv_setF_same _ _ _ (by dsimp only; decide)]
    rfl
  case last =>
    rw [hkept.fv (.inl rfl), commitTold_status rfl, dropCommit, State.fv_setF_same _ _ _ (by dsimp only; decide)]
    exact Nat.mod_eq_of_lt hstatus
  case done =>
    rintro rfl
    rw [hkept.fv (.inr rfl), commitTold, fv_evIf_of_apart (by grind) (by grind), fv_evIf_of_apart (by grind) (by grind)]
    exact fv_ev_set (f := fCMT_EVENT_COMMIT_DONE c.target) (by grind) (by dsimp only; decide) _
  case reject =>
    rintro (rfl | rfl) <;>
    · rw [hkept.fv (.inr rfl), commitTold, fv_evIf_of_apart (by grind) (by grind)]
      exact fv_ev_set (f := fCMT_EVENT_COMMIT_REJECT c.target) (by grind) (by dsimp only; decide) _
  case late =>
    rintro rfl
    rw [hkept.fv (.inr rfl), commitTold]
    exact fv_ev_set (f := fCMT_EVENT_COMMIT_LATE c.target) (by grind) (by dsimp only; decide) _
end

theorem endCommit_act (s : State) (c : CommitRec) (status fsn : Nat) : (endCommit s c status fsn).act = s.act :=
  (Keeps.of (keeps_endCommit s c status fsn)).act rfl

theorem endCommit_place (s : State) (c : CommitRec) (status fsn : Nat) : (endCommit s c status fsn).place = s.place :=
  (Keeps.of (keeps_endCommit s c status fsn)).place rfl

theorem offCommit_regs (t : Nat) : OffCommit (fun o => o = rCMT_REJECT t ∨ o = rCMT_CONFIG_GEN t) t := by
  refine ⟨?_, ?_, ?_⟩
  · rintro o (rfl | rfl) <;> grind
  · grind
  · grind

/-! ### The check of a commit (R175 to R179, R184) -/

/-- The registers of `P` are none of the ADMIT registers of target `t`. -/
def OffAdmit (P : Nat → Prop) (t : Nat) : Prop := ∀ o, P o → o < rCMT_ADMIT_PLACE t ∨ rCMT_FRESH_CFG t 0 ≤ o

section
variable {P : Nat → Prop} {s u : State} {t : Nat} (hP : OffAdmit P t)
include hP

theorem OffAdmit.not {o : Nat} (hlo : rCMT_ADMIT_PLACE t ≤ o) (hhi : o < rCMT_FRESH_CFG t 0) : ¬ P o := by
  intro ho
  have := hP o ho
  omega

theorem setAdmit_kept (h : RegsKept P s u) (a : Admit) : RegsKept P s (setAdmit u t a) := by
  have hreg : ∀ {o : Nat}, rCMT_ADMIT_PLACE t ≤ o → o < rCMT_FRESH_CFG t 0 → ¬ P o := fun hlo hhi => hP.not hlo hhi
  unfold setAdmit
  refine RegsKept.foldl ?_ fun v o ho => ?_
  · exact .setRn (.setRn (.setRn (.setRn (.setRn (.setRn h _ (hreg (by grind) (by grind))) _ (hreg (by grind) (by grind))) _
      (hreg (by grind) (by grind))) _ (hreg (by grind) (by grind))) _ (hreg (by grind) (by grind))) _
      (hreg (by grind) (by grind))
  · have ho' := List.mem_range.mp ho
    exact .setRn (.refl P v) _ (hreg (by grind) (by grind))
end

theorem setReject_kept {P : Nat → Prop} {s u : State} {t : Nat} (hreject : ¬ P (rCMT_REJECT t)) (h : RegsKept P s u)
    (rule detail source : Nat) : RegsKept P s (setReject u t rule detail source) := h.setRn _ hreject

/-- The check has written REJECT and the ADMIT registers. -/
def judged (s : State) (t : Nat) (a : Admit) (rule detail source : Nat) : State :=
  setReject (setAdmit s t a) t rule detail source

theorem judged_parts (s : State) (t : Nat) (a : Admit) (rule detail source : Nat) :
    Keeps 0x8 s (judged s t a rule detail source) :=
  (keeps_setReject _ t rule detail source rfl (keeps_setAdmit s t a rfl (Keeps.refl _ s)))

theorem judged_kept {P : Nat → Prop} {t : Nat} (hP : OffAdmit P t) (hreject : ¬ P (rCMT_REJECT t)) (s : State) (a : Admit) (rule detail source : Nat) :
    RegsKept P s (judged s t a rule detail source) :=
  setReject_kept hreject (setAdmit_kept hP (.refl P s) a) rule detail source

theorem judged_reject (s : State) (t : Nat) (a : Admit) (rule detail source : Nat) :
    (judged s t a rule detail source).rn (rCMT_REJECT t) =
      (rule % 65536 + detail % 256 * 65536 + source % 256 * 2 ^ 24) % 2 ^ 32 := State.rn_setRn_same _ _ _

theorem judged_runs (s : State) (t : Nat) (a : Admit) :
    targetRuns (judged s t a 0 0 0) t = targetRuns s t := by
  have hkept : RegsKept (· = rCV_ENABLE (t - 32)) s (judged s t a 0 0 0) := by
    refine judged_kept ?_ ?_ s a 0 0 0
    · rintro o rfl
      show 0x600000 + 0x10000 * (t - 32) < 0x40f014 + 0x10000 * t
        ∨ 0x40f040 + 0x10000 * t + 4 * 0 ≤ 0x600000 + 0x10000 * (t - 32)
      omega
    · show ¬ 0x40f010 + 0x10000 * t = 0x600000 + 0x10000 * (t - 32)
      omega
  rw [targetRuns, (judged_parts s t a 0 0 0).started rfl, hkept.on rfl, targetRuns]

theorem checkNext_mem {s : State} {c : CommitRec} (h : checkNext s = some c) : c ∈ s.commits := List.mem_of_find?_eq_some h

section
variable {s : State} {c : CommitRec} (hnext : checkNext s = some c)
include hnext

theorem commitCheck_inconsistent {code detail source : Nat} (h : consistency s c.target = some (code, detail, source)) :
    commitCheck s = endCommit (setAdmit (setReject s c.target code detail source) c.target {}) c 0x40 0 := by
  rw [commitCheck, hnext]
  simp only [h]

variable (hok : consistency s c.target = none)
include hok

theorem commitCheck_refused (hrule : (admitCommit s c.target).rule ≠ 0) :
    commitCheck s = endCommit (judged s c.target (admitCommit s c.target) (admitCommit s c.target).rule
      (admitCommit s c.target).detail 0) c 0x41 0 := by
  rw [commitCheck, hnext]
  simp only [hok]
  rw [if_pos hrule]
  rfl

variable (hrule : (admitCommit s c.target).rule = 0)
include hrule

theorem commitCheck_applied (hidle : targetRuns s c.target = false) :
    commitCheck s = endCommit (swapSet (judged s c.target (admitCommit s c.target) 0 0 0) c.target
      (admitCommit s c.target).place) c 0x00 0 := by
  have hidle' := (judged_runs s c.target (admitCommit s c.target)).trans hidle
  rw [commitCheck, hnext]
  simp only [hok]
  rw [if_neg (not_not_intro hrule)]
  exact if_neg (by show ¬ targetRuns (judged s c.target (admitCommit s c.target) 0 0 0) c.target = true; simp [hidle'])

theorem commitCheck_armed (hruns : targetRuns s c.target = true) :
    commitCheck s = armCommit (judged s c.target (admitCommit s c.target) 0 0 0) c (admitCommit s c.target) := by
  have hruns' := (judged_runs s c.target (admitCommit s c.target)).trans hruns
  rw [commitCheck, hnext]
  simp only [hok]
  rw [if_neg (not_not_intro hrule)]
  exact if_pos hruns'
end

/-- COMMIT takes its place in the queue, and locks its target. -/
def commitWaits (s : State) (c : Cmd) (t : Nat) : State :=
  let u := { s with commits := s.commits ++
    [({ cmd := c, target := t, fsn := c.arg0, next := bitAt c.arg1 0, noRetarget := bitAt c.arg1 1 } : CommitRec)] }
  (u.setF (fCMT_COMMIT_STATUS_STATE t) 1).setF (fCMT_COMMIT_STATUS_LOCKED t) 1

theorem cmdCommit_free {s : State} {c : Cmd} {t : Nat} (htarget : commitTarget c = some t)
    (hfree : ∀ x ∈ s.commits, x.target ≠ t) : cmdCommit s c = commitWaits s c t := by
  have hnone : s.commits.any (fun x => x.target == t) = false :=
    List.any_eq_false.mpr fun x hx => by simpa using hfree x hx
  rw [cmdCommit, htarget]
  dsimp only
  rw [hnone]
  rfl

theorem cmdCommit_busy {s : State} {c : Cmd} {t : Nat} {x : CommitRec} (htarget : commitTarget c = some t)
    (hx : x ∈ s.commits) (hxt : x.target = t) : cmdCommit s c = complete s c 0x42 := by
  have hany : s.commits.any (fun x => x.target == t) = true := List.any_eq_true.mpr ⟨x, hx, by simpa using hxt⟩
  rw [cmdCommit, htarget]
  exact if_pos hany

/-- The commit waits for frame `goal`. -/
def armedAt (s : State) (c : CommitRec) (a : Admit) (goal : Int) : State :=
  let u := { s with commits := s.commits.map (fun (x : CommitRec) =>
    if x.cmd.id = c.cmd.id then { c with armed := true, late := false, goal := goal, place := a.place } else x) }
  (u.setF (fCMT_COMMIT_STATUS_STATE c.target) 2).setRn (rCMT_COMMIT_TARGET c.target) (fsnOf goal)

theorem armCommit_next {s : State} {c : CommitRec} (h : c.next = true) (a : Admit) :
    armCommit s c a = armedAt s c a (frameNo s c.target + 1) := by
  have hlate : decide (frameNo s c.target + 1 ≤ frameNo s c.target) = false := decide_eq_false (by omega)
  rw [armCommit]
  dsimp only
  rw [if_pos h, hlate]
  rfl

theorem armCommit_late {s : State} {c : CommitRec} (hnext : c.next = false) (hretarget : c.noRetarget = true)
    (hlate : unwrap s c.target c.fsn ≤ frameNo s c.target) (a : Admit) :
    armCommit s c a = endCommit s c 0x43 (fsnOf (frameNo s c.target)) := by
  rw [armCommit, hnext]
  dsimp only
  rw [if_neg Bool.false_ne_true, decide_eq_true hlate, hretarget]
  rfl

theorem fsnOf_lt (f : Int) : fsnOf f < 2 ^ 32 := by
  have hlt := Int.emod_lt_of_pos f (show (0 : Int) < Int.ofNat (2 ^ 32) by decide)
  have hpos := Int.emod_nonneg f (show (Int.ofNat (2 ^ 32)) ≠ 0 by decide)
  rw [fsnOf, wordOfInt, Int.toNat_lt hpos]
  exact hlt

/-- An idle canvas takes the new set at once. -/
theorem swapSet_canvas {s : State} {t : Nat} (ht : 32 ≤ t) (x : Place) :
    (swapSet s t x).regs = (s.setRn (rCMT_CONFIG_GEN t) (s.rn (rCMT_CONFIG_GEN t) + 1)).regs
      ∧ (swapSet s t x).place = kput t x s.place ∧ (swapSet s t x).commits = s.commits := by
  have hplace : setPlace (copySet s t) t x = { copySet s t with place := kput t x s.place } := by
    rw [setPlace]
    exact if_neg (by omega)
  have hswap : swapSet s t x = (setPlace (copySet s t) t x).setRn (rCMT_CONFIG_GEN t)
      ((setPlace (copySet s t) t x).rn (rCMT_CONFIG_GEN t) + 1) := if_neg (by omega)
  rw [hswap, hplace]
  exact ⟨rfl, rfl, rfl⟩

end Sys2Proof.Machine

namespace Sys2Proof.Machine

/-! ### Canvases (R242 to R245) -/

@[simp] theorem canvasOf_setCanvas (s : State) (c : Nat) (x : Canvas) : canvasOf (setCanvas s c x) c = x := by
  simp [canvasOf, setCanvas, kgetD]

theorem canvasOf_congr {s t : State} (h : t.canvas = s.canvas) (c : Nat) : canvasOf t c = canvasOf s c := by
  rw [canvasOf, h, canvasOf]

theorem dial_congr {s t : State} (h : t.regu = s.regu) : t.dial = s.dial := by rw [State.dial, h, State.dial]

/-! #### Enabling -/

/-- The queues and channels of an enabled canvas have started. -/
def canvasQueues (s : State) (c : Nat) : State :=
  (canvasDemand s (actCfg s) (sourceCfg s) c).cells.foldl (fun s x => startChannel (enableQueue s x.1 x.2) x.1)
    (s.setF (fCV_ENABLE_EN c) 1)

/-- The frame numbers of an enabled canvas start again. -/
def canvasFresh (s : State) (c : Nat) : State :=
  (({ canvasQueues s c with frameNo := kdel (32 + c) (canvasQueues s c).frameNo }).setRn (rCMT_FSN (32 + c)) 0xFFFFFFFF).setRn
    (rCV_LAST_FRAME c) 0xFFFFFFFF

/-- The record of an enabled canvas. -/
def canvasNew (s : State) (c : Nat) : Canvas :=
  { enabledAt := (canvasFresh s c).dial, frames := (canvasOf (canvasFresh s c) c).frames.filter (fun f => f.ended) }

theorem canvasOn_eq (s : State) (c : Nat) :
    ∃ budget, canvasOn s c = freshStart (setCanvas (canvasFresh s c) c (canvasNew s c)) (0x80 + c) budget := ⟨_, rfl⟩

/-- The registers of the blocks of pipelines and canvases. -/
def blockRegs (o : Nat) : Prop := 0x400000 ≤ o ∧ o < 0x1000000

theorem canvasQueues_kept (s : State) (c : Nat) : RegsKept blockRegs (s.setF (fCV_ENABLE_EN c) 1) (canvasQueues s c) := by
  have hhigh : ∀ {o : Nat}, 0x1000000 ≤ o → ¬ blockRegs o := fun ho hblock => by
    unfold blockRegs at hblock
    omega
  refine (RegsKept.refl _ _).foldl fun u x _ => ?_
  have hqueue : RegsKept blockRegs u (enableQueue u x.1 x.2) :=
    .ite (fun _ => .setF (.setF (.refl _ u) _ (hhigh (by grind))) _ (hhigh (by grind)))
      fun _ => .setF (.setF (.setF (.refl _ u) _ (hhigh (by grind))) _ (hhigh (by grind))) _ (hhigh (by grind))
  exact RegsKept.withRest (.setRn (.setF (.setF hqueue _ (hhigh (by grind))) _ (hhigh (by grind))) _ (hhigh (by grind)))

theorem canvasQueues_parts (s : State) (c : Nat) : Keeps 0x4000000008 s (canvasQueues s c) := by
  unfold canvasQueues
  refine keeps_foldl (keeps_State_setF s _ _ rfl (Keeps.refl _ s)) fun u x hu => ?_
  exact keeps_startChannel _ _ rfl (keeps_enableQueue u _ _ rfl hu)

theorem canvasFresh_regu (s : State) (c : Nat) : (canvasFresh s c).regu = s.regu := by
  rw [canvasFresh, State.setRn_regu, State.setRn_regu]
  have h : (canvasQueues s c).regu = s.regu := (canvasQueues_parts s c).regu rfl
  dsimp only
  exact h

/-- Enabling a canvas sets EN, and its frames start again. -/
theorem canvasOn_fields {s : State} {c : Nat} (hc : c < 4) :
    (canvasOn s c).fv (fCV_ENABLE_EN c) = 1 ∧ (canvasOn s c).rn (rCMT_FSN (32 + c)) = 0xFFFFFFFF
      ∧ (canvasOn s c).rn (rCV_LAST_FRAME c) = 0xFFFFFFFF ∧ (canvasOn s c).frameNo = kdel (32 + c) (canvasQueues s c).frameNo
      ∧ canvasOf (canvasOn s c) c = canvasNew s c := by
  obtain ⟨budget, hon⟩ := canvasOn_eq s c
  have hparts := Keeps.of (keeps_freshStart (setCanvas (canvasFresh s c) c (canvasNew s c)) (0x80 + c) budget)
  have hregs : RegsKept blockRegs (canvasFresh s c) (canvasOn s c) := by
    rw [hon]
    have hset : ∀ u : State, u.regs = (canvasFresh s c).regs →
        RegsKept blockRegs (canvasFresh s c) (u.setF (fSAFE_DISP_STATUS_CONFIRMED (0x80 + c)) 0) := fun u hu =>
      .setF (.of_regs hu) _ fun h => by
        have : 0x400000 ≤ 0x80200 + 4 * (0x80 + c) := h.1
        omega
    unfold freshStart
    dsimp only
    rw [if_neg (by omega)]
    exact hset _ rfl
  have hfsn : blockRegs (rCMT_FSN (32 + c)) := show 0x400000 ≤ _ ∧ _ < 0x1000000 by grind
  have hlast : blockRegs (rCV_LAST_FRAME c) := show 0x400000 ≤ _ ∧ _ < 0x1000000 by grind
  have hen : blockRegs (fCV_ENABLE_EN c).off := show 0x400000 ≤ _ ∧ _ < 0x1000000 by grind
  refine ⟨?_, ?_, ?_, ?_, ?_⟩
  · rw [hregs.fv hen, canvasFresh, State.fv_setRn_other (by grind), State.fv_setRn_other (by grind), State.fv_mk, regsFv_regs,
      (canvasQueues_kept s c).fv hen, State.fv_setF_same _ _ _ (by dsimp only; decide)]
    rfl
  · rw [hregs.rn _ hfsn, canvasFresh, State.rn_setRn_other (by grind), State.rn_setRn_same]
    rfl
  · rw [hregs.rn _ hlast, canvasFresh, State.rn_setRn_same]
    rfl
  · rw [hon, hparts.frameNo rfl]
    rfl
  · rw [hon, canvasOf_congr (hparts.canvas rfl), canvasOf_setCanvas]

theorem cutCanvas_jobs (s : State) (c : Nat) :
    (cutCanvas s c).jobs = s.jobs.filter (fun j => !(j.kind == 2 && j.src == c)) := by
  unfold cutCanvas
  dsimp only
  refine foldl_keeps State.jobs (fun u n => ?_) _
  split
  · split
    · rfl
    · exact (Keeps.of (keeps_endCanvas _ c n)).jobs rfl
  · rfl

theorem freshStop_regs {st : Nat} (hst : ¬ st < 128) (s : State) : (freshStop s st).regs = s.regs := by
  unfold freshStop
  split
  · rfl
  · rfl

theorem stopCommit_kept {P : Nat → Prop} {t : Nat} (hP : OffCommit P t) (s : State) : RegsKept P s (stopCommit s t) := by
  unfold stopCommit
  split
  case h_1 c hc =>
    have htarget : c.target = t := by
      have := List.find?_some hc
      simp only [Bool.and_eq_true, beq_iff_eq] at this
      exact this.1
    exact endCommit_kept (htarget ▸ hP) (.refl P s) _ _
  case h_2 => exact .refl P s

/-- Disabling a canvas clears EN and drops its jobs. -/
theorem canvasOff_fields (s : State) (c : Nat) :
    (canvasOff s c).fv (fCV_ENABLE_EN c) = 0
      ∧ (canvasOff s c).jobs = s.jobs.filter (fun j => !(j.kind == 2 && j.src == c)) := by
  have hP : OffCommit (· = rCV_ENABLE c) (32 + c) := by
    refine ⟨?_, ?_, ?_⟩
    · rintro o rfl
      grind
    · show ¬ 0x40f000 + 0x10000 * (32 + c) = 0x600000 + 0x10000 * c
      omega
    · show ¬ 0x40f060 + 0x10000 * (32 + c) = 0x600000 + 0x10000 * c
      omega
  have hcut : (freshStop (cutCanvas (s.setF (fCV_ENABLE_EN c) 0) c) (0x80 + c)).regs = (s.setF (fCV_ENABLE_EN c) 0).regs :=
    (freshStop_regs (by omega) _).trans ((Keeps.of (keeps_cutCanvas _ c)).regs rfl)
  refine ⟨?_, ?_⟩
  · rw [canvasOff, (stopCommit_kept hP _).fv rfl, (RegsKept.of_regs (P := fun _ => True) hcut).fv trivial,
      State.fv_setF_same _ _ _ (by dsimp only; decide)]
    rfl
  · rw [canvasOff, (Keeps.of (keeps_stopCommit _ _)).jobs rfl, (Keeps.of (keeps_freshStop _ _)).jobs rfl, cutCanvas_jobs,
      State.setF_jobs]

theorem canvasEnable_on {s : State} {c : Nat} {v : Word} (hoff : s.on (fCV_ENABLE_EN c) = false)
    (hv : bitAt v.toNat 0 = true) : canvasEnable s c v = canvasOn s c := by
  rw [canvasEnable, hoff, hv]
  rfl

theorem canvasEnable_off {s : State} {c : Nat} {v : Word} (hon : s.on (fCV_ENABLE_EN c) = true)
    (hv : bitAt v.toNat 0 = false) : canvasEnable s c v = canvasOff s c := by
  rw [canvasEnable, hon, hv]
  rfl

/-! #### Frame starts -/

theorem commitAtFrame_idle {s : State} {t : Nat} (h : armedOf s t = none) (f : Int) : commitAtFrame s t f = s := by
  rw [commitAtFrame, h]

/-- The values that `g` gives for the keys of a list. -/
def kcollect {α : Type} (g : Nat → Option α) (l : List Nat) (m : KMap α) : KMap α :=
  l.foldl (fun m v =>
    match g v with
    | some x => kput v x m
    | none => m) m

theorem kget_kcollect {α : Type} (g : Nat → Option α) (l : List Nat) (m : KMap α) (v : Nat) :
    kget v (kcollect g l m) = (if v ∈ l then g v else none).or (kget v m) := by
  induction l generalizing m with
  | nil => simp [kcollect]
  | cons u l ih =>
    rw [kcollect, List.foldl_cons, ← kcollect, ih]
    rcases eq_or_ne v u with rfl | hne
    · cases hg : g v with
      | none => simp
      | some x => split <;> simp
    · cases g u <;> simp [hne, kget_kput_other hne]

/-- The latches of the views of a canvas frame. -/
def latchesOf (s : State) (rd : Cfg) (c : Nat) : KMap Latch :=
  (viewsOn rd c).foldl (fun m v =>
    match latchOf s rd c v with
    | some l => kput v l m
    | none => m) []

theorem latchesOf_eq (s : State) (rd : Cfg) (c : Nat) :
    latchesOf s rd c = kcollect (latchOf s rd c) (viewsOn rd c) [] := by
  refine congrArg (fun f => (viewsOn rd c).foldl f []) (funext fun m => funext fun v => ?_)
  cases latchOf s rd c v <;> rfl

theorem latchesOf_view {s : State} {rd : Cfg} {c v : Nat} (hv : v ∈ viewsOn rd c) :
    kget v (latchesOf s rd c) = latchOf s rd c v := by
  rw [latchesOf_eq, kget_kcollect, if_pos hv]
  exact Option.or_none

/-- The canvas has its next frame number. -/
def canvasStamped (s : State) (c : Nat) : State :=
  { s with
    frameNo := kput (32 + c) (Int.ofNat (canvasOf s c).next) s.frameNo,
    frameAt := kput (32 + c) s.dial s.frameAt }.setRn (rCMT_FSN (32 + c)) (canvasOf s c).next

/-- The frame of number `n` that starts. -/
def canvasFrame (s : State) (c n : Nat) : CvFrame :=
  { n := n, start := s.dial, cfg := frameCfg s (32 + c) none, gen := s.rn (rCMT_CONFIG_GEN (32 + c)),
    latch := latchesOf s (snapCfg (frameCfg s (32 + c) none)) c }

/-- The canvas with the frame that starts. -/
def canvasFramed (s : State) (c n : Nat) : State :=
  setCanvas s c { canvasOf s c with
    next := (n + 1) % 2 ^ 32, frames := (canvasOf s c).frames ++ [canvasFrame s c n], deferred := false }

/-- Frame `n` has started, and holds the buffers that it latched. -/
def canvasOpened (s : State) (c n : Nat) : State :=
  ((canvasFrame s c n).latch.map (fun l => l.2.stream)).foldl updHeld (canvasFramed s c n)

theorem canvasBegin_eq {s : State} {c : Nat} (h : armedOf s (32 + c) = none) :
    canvasBegin s c = canvasOpened (canvasStamped s c) c (canvasOf s c).next := by
  have hidle := commitAtFrame_idle (s := canvasStamped s c) (t := 32 + c) h (Int.ofNat (canvasOf s c).next)
  have hbegin : canvasBegin s c = canvasOpened (commitAtFrame (canvasStamped s c) (32 + c) (Int.ofNat (canvasOf s c).next)) c
      (canvasOf s c).next := rfl
  rw [hbegin, hidle]

theorem updHelds_fields (l : List Nat) (s : State) (c : Nat) :
    canvasOf (l.foldl updHeld s) c = canvasOf s c
      ∧ (l.foldl updHeld s).rn (rCMT_FSN (32 + c)) = s.rn (rCMT_FSN (32 + c)) := by
  refine ⟨canvasOf_congr (foldl_keeps State.canvas (fun u st => (Keeps.of (keeps_updHeld u st)).canvas rfl) s) c, ?_⟩
  refine (RegsKept.foldl (P := (· = rCMT_FSN (32 + c))) (.refl _ s) fun u st _ => ?_).rn _ rfl
  refine .setF (.refl _ u) _ ?_
  show ¬ 0x400250 + 0x10000 * (st / 4) + 0x80 * (st % 4) = 0x40f00c + 0x10000 * (32 + c)
  omega

section
variable {s : State} {c tile : Nat} (hen : s.on (fCV_ENABLE_EN c) = true) (hplace : (placeOf s (32 + c)).host = some tile)
  (hready : (canvasOf s c).deferred = false) (hdue : canvasDue s c = true)
include hen hplace hready hdue

theorem canvasStart_due : canvasStart s c = if canvasIdle s c then canvasBegin s c else
    ((setCanvas s c { canvasOf s c with deferred := true }).bump (fCV_CNT_DEFERRED c)).ev (fCV_EVENT_DEFERRED c) := by
  unfold canvasStart
  dsimp only
  rw [if_neg (by simp [hen, hplace]), if_neg (by simp [hready]), if_neg (by simp [hdue])]
end

/-! #### Slices -/

/-- The jobs, the dial and the frames of a canvas stand while its views are hatched. -/
theorem hatchViews_parts (s : State) (f : CvFrame) (c : Nat) (l : List Nat) :
    Keeps 0x800080308 s (l.foldl (fun s v => hatchView s f c v) s) :=
  keeps_foldl (Keeps.refl _ s) fun u v hu => keeps_hatchView u f c v rfl hu

/-- The slice's job, before its number. -/
theorem addJob_fields (s : State) (j : Job) :
    (addJob s j).nextJob = s.nextJob + 1 ∧ (addJob s j).canvas = s.canvas
      ∧ ∃ i, (addJob s j).jobs = s.jobs ++ [i] ∧ i.kind = j.kind ∧ i.src = j.src ∧ i.frame = j.frame ∧ i.k = j.k
        ∧ i.tile = j.tile := ⟨rfl, rfl, _, rfl, rfl, rfl, rfl, rfl, rfl⟩

/-- The views of the frame are hatched, and its slice is released. -/
def sliceGone (s : State) (c : Nat) (f : CvFrame) : State :=
  let u := updCvFrame ((viewsOn f.rd c).foldl (fun s v => hatchView s f c v) s) c f.n (fun g => { g with released := f.released + 1 })
  setCanvas u c { canvasOf u c with lastRelease := u.dial }

theorem sliceRelease_due {s : State} {c tile : Nat} {f : CvFrame} (pieces : Nat)
    (hfind : (canvasOf s c).frames.find? (fun f => !f.truncated && f.released < cvSlices f c) = some f)
    (hplace : (placeOf s (32 + c)).host = some tile) (hup : tileUp s tile = true)
    (htime : f.released * (cvSliceTime s f.rd c).num < (s.dial - f.start + 1) * (cvSliceTime s f.rd c).den) :
    ∃ j, sliceRelease s c pieces = addJob (sliceGone s c f) j ∧ j.kind = 2 ∧ j.src = c ∧ j.frame = Int.ofNat f.n
      ∧ j.k = f.released ∧ j.tile = tile := by
  have hgo : (!tileUp s tile || decide ((s.dial - f.start + 1) * (cvSliceTime s f.rd c).den ≤
      f.released * (cvSliceTime s f.rd c).num)) = false := by
    rw [hup, decide_eq_false (by omega)]
    rfl
  unfold sliceRelease
  rw [hfind, hplace]
  dsimp only
  rw [hgo]
  exact ⟨_, rfl, rfl, rfl, rfl, rfl, rfl⟩

theorem sliceGone_fields (s : State) (c : Nat) (f : CvFrame) :
    (sliceGone s c f).nextJob = s.nextJob ∧ (sliceGone s c f).jobs = s.jobs
      ∧ (canvasOf (sliceGone s c f) c).lastRelease = s.dial := by
  have hparts := hatchViews_parts s f c (viewsOn f.rd c)
  refine ⟨hparts.nextJob rfl, hparts.jobs rfl, ?_⟩
  rw [sliceGone, canvasOf_setCanvas]
  exact dial_congr (hparts.regu rfl)

/-- Settles O22: plates, commits and canvases, each by its rule. -/
theorem platesCommitsAndCanvases : Obligations.PlatesCommitsAndCanvases := by
  refine ⟨?plate, ?plateBad, ?plateFields, ?commit, ?commitBusy, ?inconsistent, ?refused, ?applied, ?armed, ?late, ?canvasOn,
    ?canvasOff, ?start, ?deferred, ?slice⟩
  case plate =>
    rintro s c _ r e hhub hstarts hfields hok hr he rfl hp
    refine ⟨_, congrArg Host.Outcome.next (hub_of_on hhub _), ?_⟩
    have hok' : plateCheck (unwaiting s c) c.payload = .ok [r, e] := (plateCheck_congr (u := unwaiting s c) (s := s) rfl rfl _).trans hok
    obtain ⟨hscope, hlock⟩ := plateCheck_ok hok'
    have hslot : r.addr % 256 < 16 := slotPlate_inScope hp hr (scopeBad_first hscope)
    rw [onCmd_starts hstarts, plate_accepted hfields hok', slotPlate_writes hp hr he]
    obtain ⟨hkid, hparam⟩ := slotWritten_fields (s := unwaiting s c) hp hslot hlock (kid := r.addr / 256 % 65536) (by omega)
      (r.words.headD 0)
    obtain ⟨hact, hcommits, hring⟩ := slotWritten_kept (unwaiting s c) (plateTarget c.payload) (r.addr % 256)
      (r.addr / 256 % 65536) (r.words.headD 0)
    generalize slotWritten (unwaiting s c) (plateTarget c.payload) (r.addr % 256) (r.addr / 256 % 65536) (r.words.headD 0) = u
      at hkid hparam hact hcommits hring ⊢
    have hoff : OffRings (fun o => o = rKSLOT_KID (plateTarget c.payload) (r.addr % 256)
        ∨ o = rKSLOT_PARAM (plateTarget c.payload) (r.addr % 256)) := by
      rintro o (rfl | rfl) <;> grind
    have hkept := complete_kept hoff (.refl _ u) c 0x00 0 0 0 0
    have hopen : u.ring.opened.any (fun x => x.id == c.id) = true := by rw [hring]; exact hstarts.2.2
    refine ⟨?_, ?_, ?_, ?_, ?_⟩
    · rw [Done, complete_opened hopen, hring]
      rfl
    · rw [hkept.fv (.inl rfl), hkid]
    · rw [hkept.rn _ (.inr rfl), hparam]
    · rw [complete_act, hact]
      rfl
    · rw [complete_commits, hcommits]
      rfl
  case plateBad =>
    intro s c st off hhub hstarts hroom hfields hbad
    refine ⟨_, congrArg Host.Outcome.next (hub_of_on hhub _), ?_⟩
    have hbad' : plateCheck (unwaiting s c) c.payload = .error (st, off) :=
      (plateCheck_congr (u := unwaiting s c) (s := s) rfl rfl _).trans hbad
    rw [onCmd_starts hstarts, plate_rejected hfields hbad']
    obtain ⟨hwrote, hopened⟩ := complete_wrote hroom (u := unwaiting s c) (.of_regs rfl rfl rfl rfl) hstarts.2.2 st 0 0 0
      (off % 65536)
    exact ⟨hopened, hwrote, complete_act _ _ _ _ _ _ _, complete_written _ _ _ _ _ _ _⟩
  case plateFields =>
    intro s c hhub hstarts hroom hfields
    refine ⟨_, congrArg Host.Outcome.next (hub_of_on hhub _), ?_⟩
    rw [onCmd_starts hstarts, plate_badFields hfields]
    obtain ⟨hwrote, hopened⟩ := complete_wrote hroom (u := unwaiting s c) (.of_regs rfl rfl rfl rfl) hstarts.2.2 0x04 0 0 0 0
    exact ⟨hopened, hwrote, complete_act _ _ _ _ _ _ _⟩
  case commit =>
    intro s c p hhub hstarts htarget hfree
    refine ⟨_, congrArg Host.Outcome.next (hub_of_on hhub _), ?_⟩
    rw [onCmd_starts hstarts, cmdCommit_free (s := unwaiting s c) htarget hfree]
    refine ⟨rfl, ?_, ?_, rfl, fun o ho => ?_⟩
    · rw [commitWaits, fv_setF_of_apart (by grind), State.fv_setF_same _ _ _ (by dsimp only; decide)]
      rfl
    · rw [commitWaits, State.fv_setF_same _ _ _ (by dsimp only; decide)]
      rfl
    · rw [commitWaits, rn_setF_other (List.ne_of_not_mem_cons ho), rn_setF_other (List.ne_of_not_mem_cons ho)]
      rfl
  case commitBusy =>
    intro s c p x hhub hstarts hroom htarget hx hxp
    refine ⟨_, congrArg Host.Outcome.next (hub_of_on hhub _), ?_⟩
    rw [onCmd_starts hstarts, cmdCommit_busy (s := unwaiting s c) htarget hx hxp]
    obtain ⟨hwrote, hopened⟩ := complete_wrote hroom (u := unwaiting s c) (.of_regs rfl rfl rfl rfl) hstarts.2.2 0x42 0 0 0 0
    exact ⟨hopened, hwrote, complete_commits _ _ _ _ _ _ _⟩
  case inconsistent =>
    intro s c code detail source hhub hnext ht hbroken
    refine ⟨_, congrArg Host.Outcome.next (hub_of_on hhub _), ?_⟩
    rw [commitCheck_inconsistent hnext hbroken]
    have hparts : Keeps 0x8 s (setAdmit (setReject s c.target code detail source) c.target {}) :=
      keeps_setAdmit _ _ _ rfl (keeps_setReject s _ _ _ _ rfl (Keeps.refl _ s))
    have hgen : RegsKept (· = rCMT_CONFIG_GEN c.target) s (setAdmit (setReject s c.target code detail source) c.target {}) :=
      setAdmit_kept (fun o ho => by grind) (setReject_kept (by grind) (.refl _ s) _ _ _) _
    have hreject : RegsKept (· = rCMT_REJECT c.target) (setReject s c.target code detail source)
        (setAdmit (setReject s c.target code detail source) c.target {}) := setAdmit_kept (fun o ho => by grind) (.refl _ _) _
    generalize setAdmit (setReject s c.target code detail source) c.target {} = u at hparts hgen hreject ⊢
    have hend := endCommit_ended u c (status := 0x40) (by decide) 0
    have hkept : RegsKept (fun o => o = rCMT_REJECT c.target ∨ o = rCMT_CONFIG_GEN c.target) u (endCommit u c 0x40 0) :=
      endCommit_kept (offCommit_regs c.target) (.refl _ u) _ _
    refine ⟨hend.commits.trans ?_, ?_, ?_, ?_, hend.locked, hend.last, hend.reject (.inl rfl)⟩
    · rw [hparts.commits rfl]
    · rw [endCommit_act, hparts.act rfl]
    · rw [hkept.rn _ (.inl rfl), hreject.rn _ rfl, setReject, State.rn_setRn_same]
      omega
    · rw [hkept.rn _ (.inr rfl), hgen.rn _ rfl]
  case refused =>
    intro s c hhub hnext ht hok hrule
    refine ⟨_, congrArg Host.Outcome.next (hub_of_on hhub _), ?_⟩
    rw [commitCheck_refused hnext hok hrule]
    have hparts := judged_parts s c.target (admitCommit s c.target) (admitCommit s c.target).rule (admitCommit s c.target).detail 0
    have hreject := judged_reject s c.target (admitCommit s c.target) (admitCommit s c.target).rule
      (admitCommit s c.target).detail 0
    generalize judged s c.target (admitCommit s c.target) (admitCommit s c.target).rule (admitCommit s c.target).detail 0 = u
      at hparts hreject ⊢
    have hend := endCommit_ended u c (status := 0x41) (by decide) 0
    have hkept : RegsKept (fun o => o = rCMT_REJECT c.target ∨ o = rCMT_CONFIG_GEN c.target) u (endCommit u c 0x41 0) :=
      endCommit_kept (offCommit_regs c.target) (.refl _ u) _ _
    refine ⟨hend.commits.trans ?_, ?_, ?_, hend.locked, hend.last, hend.reject (.inr rfl)⟩
    · rw [hparts.commits rfl]
    · rw [endCommit_act, hparts.act rfl]
    · rw [hkept.rn _ (.inl rfl), hreject]
      omega
  case applied =>
    intro s c hhub hnext hlo ht hok hrule hidle
    refine ⟨_, congrArg Host.Outcome.next (hub_of_on hhub _), ?_⟩
    rw [commitCheck_applied hnext hok hrule hidle]
    have hparts := judged_parts s c.target (admitCommit s c.target) 0 0 0
    have hreject := judged_reject s c.target (admitCommit s c.target) 0 0 0
    have hgen := judged_kept (P := (· = rCMT_CONFIG_GEN c.target)) (t := c.target) (fun o ho => by grind) (by grind) s
      (admitCommit s c.target) 0 0 0
    generalize judged s c.target (admitCommit s c.target) 0 0 0 = u at hparts hreject hgen ⊢
    obtain ⟨hswap, hplace, hcommits⟩ := swapSet_canvas (s := u) hlo (admitCommit s c.target).place
    have hend := endCommit_ended (swapSet u c.target (admitCommit s c.target).place) c (status := 0x00) (by decide) 0
    have hkept : RegsKept (fun o => o = rCMT_REJECT c.target ∨ o = rCMT_CONFIG_GEN c.target)
        (swapSet u c.target (admitCommit s c.target).place)
        (endCommit (swapSet u c.target (admitCommit s c.target).place) c 0x00 0) :=
      endCommit_kept (offCommit_regs c.target) (.refl _ _) _ _
    refine ⟨hend.commits.trans ?_, ?_, ?_, ?_, hend.locked, hend.last, hend.done rfl⟩
    · rw [hcommits, hparts.commits rfl]
    · rw [hkept.rn _ (.inl rfl), rn_congr hswap, State.rn_setRn_other (by grind), hreject]
      rfl
    · rw [hkept.rn _ (.inr rfl), rn_congr hswap, State.rn_setRn_same, hgen.rn _ rfl]
    · rw [placeOf, endCommit_place, hplace]
      simp [kgetD]
  case armed =>
    intro s c hhub hnext ht hok hrule hruns hc
    refine ⟨_, congrArg Host.Outcome.next (hub_of_on hhub _), ?_⟩
    rw [commitCheck_armed hnext hok hrule hruns, armCommit_next hc]
    have hparts := judged_parts s c.target (admitCommit s c.target) 0 0 0
    generalize judged s c.target (admitCommit s c.target) 0 0 0 = u at hparts ⊢
    have hframe : frameNo u c.target = frameNo s c.target := frameNo_congr (hparts.frameNo rfl) _
    rw [hframe]
    refine ⟨?_, ?_, ?_, ?_, ?_⟩
    · rw [armedAt, State.rn_setRn_same, Nat.mod_eq_of_lt (fsnOf_lt _)]
    · rw [armedAt, State.fv_setRn_other (by grind), State.fv_setF_same _ _ _ (by dsimp only; decide)]
      rfl
    · rw [armedAt, State.setRn_act, State.setF_act]
      exact hparts.act rfl
    · rw [armedAt, State.setRn_ring, State.setF_ring]
      exact hparts.ring rfl
    · rw [armedAt, State.setRn_commits, State.setF_commits]
      exact congrArg (List.map _) (hparts.commits rfl)
  case late =>
    intro s c hhub hnext ht hok hrule hruns hc hretarget hlate
    refine ⟨_, congrArg Host.Outcome.next (hub_of_on hhub _), ?_⟩
    have hparts := judged_parts s c.target (admitCommit s c.target) 0 0 0
    have hframe : frameNo (judged s c.target (admitCommit s c.target) 0 0 0) c.target = frameNo s c.target :=
      frameNo_congr (hparts.frameNo rfl) _
    have hlate' : unwrap (judged s c.target (admitCommit s c.target) 0 0 0) c.target c.fsn ≤
        frameNo (judged s c.target (admitCommit s c.target) 0 0 0) c.target := by
      rw [unwrap, hframe]
      exact hlate
    rw [commitCheck_armed hnext hok hrule hruns, armCommit_late hc hretarget hlate']
    generalize judged s c.target (admitCommit s c.target) 0 0 0 = u at hparts ⊢
    have hend := endCommit_ended u c (status := 0x43) (by decide) (fsnOf (frameNo u c.target))
    refine ⟨hend.commits.trans ?_, ?_, hend.locked, hend.last, hend.late rfl⟩
    · rw [hparts.commits rfl]
    · rw [endCommit_act, hparts.act rfl]
  case canvasOn =>
    intro s c v hhub hc hoff hv
    refine ⟨_, congrArg Host.Outcome.next (hub_of_on hhub _), ?_⟩
    dsimp only
    rw [Nat.mod_eq_of_lt hc, canvasEnable_on hoff hv]
    obtain ⟨hen, hfsn, hlast, hframe, hcanvas⟩ := canvasOn_fields (s := s) hc
    refine ⟨hen, hfsn, hlast, ?_, ?_, ?_⟩
    · rw [hframe, kget_kdel_same]
    · rw [hcanvas]
      rfl
    · rw [hcanvas]
      exact dial_congr (canvasFresh_regu s c)
  case canvasOff =>
    intro s c v hhub hc hon hv
    refine ⟨_, congrArg Host.Outcome.next (hub_of_on hhub _), ?_⟩
    dsimp only
    rw [Nat.mod_eq_of_lt hc, canvasEnable_off hon hv]
    exact canvasOff_fields s c
  case start =>
    intro s c tile hhub hc hen hplace hready hdue hidle harmed
    refine ⟨_, congrArg Host.Outcome.next (hub_of_on hhub _), ?_⟩
    dsimp only
    rw [Nat.mod_eq_of_lt hc, canvasStart_due hen hplace hready hdue, if_pos hidle, canvasBegin_eq harmed]
    obtain ⟨hcanvas, hfsn⟩ := updHelds_fields ((canvasFrame (canvasStamped s c) c (canvasOf s c).next).latch.map
      (fun l => l.2.stream)) (canvasFramed (canvasStamped s c) c (canvasOf s c).next) c
    rw [canvasOpened, hcanvas, hfsn, canvasFramed, canvasOf_setCanvas]
    refine ⟨canvasFrame (canvasStamped s c) c (canvasOf s c).next, rfl, rfl, rfl, rfl, ?_, fun v hv => latchesOf_view hv, rfl, ?_⟩
    · show (canvasStamped s c).rn (rCMT_CONFIG_GEN (32 + c)) = _
      rw [canvasStamped, State.rn_setRn_other (by grind)]
      rfl
    · exact State.rn_setRn_same _ _ _
  case deferred =>
    intro s c tile hhub hc hen hplace hready hdue hbusy
    refine ⟨_, congrArg Host.Outcome.next (hub_of_on hhub _), ?_⟩
    dsimp only
    rw [Nat.mod_eq_of_lt hc, canvasStart_due hen hplace hready hdue, if_neg (by simp [hbusy]),
      canvasOf_congr (State.ev_canvas _ _), canvasOf_congr (State.bump_canvas _ _), canvasOf_setCanvas]
    refine ⟨rfl, rfl, ?_, fv_ev_set (by grind) (by dsimp only; decide) _⟩
    rw [fv_ev_of_apart (by grind) (by grind), fv_bump_same (by dsimp only; decide)]
    rfl
  case slice =>
    intro s c pieces f tile hhub hc hplace hfind hup htime
    refine ⟨_, congrArg Host.Outcome.next (hub_of_on hhub _), ?_⟩
    dsimp only
    obtain ⟨j, hrelease, hkind, hsrc, hframe, hk, htile⟩ := sliceRelease_due pieces hfind hplace hup htime
    obtain ⟨hnext, hjobs, hlast⟩ := sliceGone_fields s c f
    obtain ⟨hnext', hcanvas, i, hjobs', hikind, hisrc, hiframe, hik, hitile⟩ := addJob_fields (sliceGone s c f) j
    rw [Nat.mod_eq_of_lt hc, hrelease]
    refine ⟨?_, ?_, i, ?_, ?_, ?_, ?_, ?_, ?_⟩
    · rw [canvasOf_congr hcanvas, hlast]
    · rw [hnext', hnext]
    · rw [hjobs', hjobs]
    · rw [hikind, hkind]
    · rw [hisrc, hsrc]
    · rw [hiframe, hframe]
    · rw [hik, hk]
    · rw [hitile, htile]

end Sys2Proof.Machine

namespace Sys2Proof.Machine

/-! ### Channels of the Hoist -/

theorem fv_congr {s t : State} (h : t.regs = s.regs) (f : Fld) : t.fv f = s.fv f :=
  (RegsKept.of_regs (P := fun _ => True) h).fv trivial

theorem pair_congr {s t : State} (h : t.regs = s.regs) (lo hi : Nat) : t.pair lo hi = s.pair lo hi :=
  (RegsKept.of_regs (P := fun _ => True) h).pair trivial trivial

@[simp] theorem hchan_setHchan (s : State) (c : Nat) (x : HChan) : hchan (setHchan s c x) c = x := by
  simp [hchan, setHchan]

@[simp] theorem hchan_updHchan (s : State) (c : Nat) (g : HChan → HChan) : hchan (updHchan s c g) c = g (hchan s c) :=
  hchan_setHchan s c _

theorem hchan_congr {s t : State} (h : t.hoist = s.hoist) (c : Nat) : hchan t c = hchan s c := by
  rw [hchan, h, hchan]

@[simp] theorem updHchan_fv (s : State) (c : Nat) (g : HChan → HChan) (f : Fld) : (updHchan s c g).fv f = s.fv f := rfl

theorem updHchan_regs (s : State) (c : Nat) (g : HChan → HChan) : (updHchan s c g).regs = s.regs := rfl

@[simp] theorem updHchan_rn (s : State) (c : Nat) (g : HChan → HChan) (o : Nat) : (updHchan s c g).rn o = s.rn o := rfl

theorem updHchan_nextTag (s : State) (c : Nat) (g : HChan → HChan) : (updHchan s c g).hoist.nextTag = s.hoist.nextTag := rfl

theorem updHchan_mem (s : State) (c : Nat) (g : HChan → HChan) : (updHchan s c g).mem = s.mem := rfl

/-! ### STATUS of a channel -/

theorem hState_lt (s : State) (c : Nat) : hState s c < 8 := s.fv_lt (fHOIST_STATUS_STATE c)

theorem hPc_lt (s : State) (c : Nat) : hPc s c < 64 := s.fv_lt (fHOIST_STATUS_PC c)

@[simp] theorem hState_setHState {st : Nat} (h : st < 8) (s : State) (c : Nat) : hState (setHState s c st) c = st := by
  rw [hState, setHState, State.fv_setF_same _ _ _ (by grind)]
  exact Nat.mod_eq_of_lt h

theorem setHState_hoist (s : State) (c st : Nat) : (setHState s c st).hoist = s.hoist := State.setF_hoist _ _ _

@[simp] theorem hPc_setHState (s : State) (c st : Nat) : hPc (setHState s c st) c = hPc s c := by
  rw [hPc, setHState, fv_setF_of_apart (by grind), hPc]

@[simp] theorem hState_hNext (s : State) (c : Nat) : hState (hNext s c) c = hState s c := by
  rw [hState, hNext, fv_setF_of_apart (by grind), hState]

@[simp] theorem hPc_hNext (s : State) (c : Nat) : hPc (hNext s c) c = (hPc s c + 1) % 48 := by
  rw [hPc, hNext, State.fv_setF_same _ _ _ (by grind)]
  show (hPc s c + 1) % 48 % 64 = (hPc s c + 1) % 48
  omega

@[simp] theorem hState_updHchan (s : State) (c i : Nat) (g : HChan → HChan) : hState (updHchan s c g) i = hState s i := rfl

@[simp] theorem hPc_updHchan (s : State) (c i : Nat) (g : HChan → HChan) : hPc (updHchan s c g) i = hPc s i := rfl

@[simp] theorem hX_updHchan (s : State) (c i k : Nat) (g : HChan → HChan) : hX (updHchan s c g) i k = hX s i k := rfl

theorem hState_congr {s t : State} (h : t.regs = s.regs) (c : Nat) : hState t c = hState s c := fv_congr h _

theorem hPc_congr {s t : State} (h : t.regs = s.regs) (c : Nat) : hPc t c = hPc s c := fv_congr h _

/-! ### X registers -/

@[simp] theorem hX_setHX (s : State) (c i v : Nat) : hX (setHX s c i v) c i = v % 2 ^ 64 :=
  State.pair_setPair_same (by grind) s v

theorem hX_lt (s : State) (c i : Nat) : hX s c i < 2 ^ 64 := by
  have hlo := s.rn_lt (rHOIST_X c (2 * i))
  have hhi := s.rn_lt (rHOIST_X c (2 * i + 1))
  rw [hX, State.pair]
  omega

@[simp] theorem hX_setHX_mod (s : State) (c i v : Nat) : hX (setHX s c i (v % 2 ^ 64)) c i = v % 2 ^ 64 := by
  rw [hX_setHX, Nat.mod_mod]

@[simp] theorem hState_setHX (s : State) (c i v : Nat) : hState (setHX s c i v) c = hState s c :=
  State.fv_setPair_other (f := fHOIST_STATUS_STATE c) (by grind) s v

@[simp] theorem hPc_setHX (s : State) (c i v : Nat) : hPc (setHX s c i v) c = hPc s c :=
  State.fv_setPair_other (f := fHOIST_STATUS_PC c) (by grind) s v

theorem setHX_kept {P : Nat → Prop} {s t : State} (h : RegsKept P s t) {c i : Nat} (v : Nat)
    (hlo : ¬ P (rHOIST_X c (2 * i))) (hhi : ¬ P (rHOIST_X c (2 * i + 1))) : RegsKept P s (setHX t c i v) :=
  h.setPair v hlo hhi

/-- What a channel's X registers read is no concern of STATUS, EVENT or the counters. -/
theorem hX_of_kept {P : Nat → Prop} {s t : State} (h : RegsKept P s t) {c i : Nat} (hlo : P (rHOIST_X c (2 * i)))
    (hhi : P (rHOIST_X c (2 * i + 1))) : hX t c i = hX s c i := h.pair hlo hhi

@[simp] theorem hX_setHState (s : State) (c st i : Nat) : hX (setHState s c st) c i = hX s c i :=
  State.pair_setF_other (f := fHOIST_STATUS_STATE c) (by grind) s st

@[simp] theorem hX_hNext (s : State) (c i : Nat) : hX (hNext s c) c i = hX s c i :=
  State.pair_setF_other (f := fHOIST_STATUS_PC c) (by grind) s _

/-! ### Tags (R333) -/

theorem countTags_hoist (s : State) (c : Nat) : (countTags s c).hoist = s.hoist := (Keeps.of (keeps_countTags s c)).hoist rfl

theorem countTags_mem (s : State) (c : Nat) : (countTags s c).mem = s.mem := (Keeps.of (keeps_countTags s c)).mem rfl

theorem countTags_kept_of {P : Nat → Prop} {s t : State} (h : RegsKept P s t) {c : Nat} (hstatus : ¬ P (rHOIST_STATUS c))
    (htags : ¬ P rHOISTG_TAGS) : RegsKept P s (countTags t c) := by
  have hset := (h.setF (f := fHOIST_STATUS_INFLIGHT c) (satTo 4096 (hchan t c).ops.length) hstatus).setF
    (f := fHOISTG_TAGS_IN_USE) (satTo 4096 (sumList (t.hoist.chan.map (fun x => x.2.ops.length)))) htags
  exact .ite (fun _ => hset.setF _ htags) fun _ => hset

/-- Counting the tags changes INFLIGHT and TAGS alone. -/
theorem countTags_fv {c : Nat} {f : Fld} (h : f.off ≠ rHOIST_STATUS c ∨ f.lsb + f.width ≤ 16) (htags : f.off ≠ rHOISTG_TAGS)
    (s : State) : (countTags s c).fv f = s.fv f := by
  have hset : ∀ n m, ((s.setF (fHOIST_STATUS_INFLIGHT c) n).setF fHOISTG_TAGS_IN_USE m).fv f = s.fv f := by
    intro n m
    rw [State.fv_setF_other (by exact htags), fv_setF_of_apart (by grind)]
  unfold countTags
  dsimp only
  split
  · rw [State.fv_setF_other (f := fHOISTG_TAGS_PEAK) htags]
    exact hset _ _
  · exact hset _ _

/-- The operation as it is in flight. -/
def opIssued (s : State) (o : HoistOp) : HoistOp := { o with tag := s.hoist.nextTag, since := s.now }

/-- The channel with one more operation in flight. -/
def opAdded (o : HoistOp) (x : HChan) : HChan := { x with ops := x.ops ++ [o] }

/-- An operation joins those in flight, before the tags are counted. -/
def opJoined (s : State) (c : Nat) (o : HoistOp) : State :=
  let u := updHchan s c (opAdded (opIssued s o))
  { u with hoist := { u.hoist with nextTag := u.hoist.nextTag + 1 } }

theorem opJoined_regs (s : State) (c : Nat) (o : HoistOp) : (opJoined s c o).regs = s.regs := rfl

theorem addOp_eq (s : State) (c : Nat) (o : HoistOp) : addOp s c o = countTags (opJoined s c o) c := rfl

theorem addOp_hchan (s : State) (c : Nat) (o : HoistOp) :
    hchan (addOp s c o) c = opAdded (opIssued s o) (hchan s c) := by
  rw [addOp_eq, hchan_congr (countTags_hoist _ c)]
  exact hchan_updHchan s c _

theorem addOp_nextTag (s : State) (c : Nat) (o : HoistOp) : (addOp s c o).hoist.nextTag = s.hoist.nextTag + 1 := by
  rw [addOp_eq, countTags_hoist]
  rfl

theorem addOp_turn (s : State) (c : Nat) (o : HoistOp) : (addOp s c o).hoist.turn = s.hoist.turn := by
  rw [addOp_eq, countTags_hoist]
  rfl

theorem addOp_fv {c : Nat} {f : Fld} (h : f.off ≠ rHOIST_STATUS c ∨ f.lsb + f.width ≤ 16) (htags : f.off ≠ rHOISTG_TAGS)
    (s : State) (o : HoistOp) : (addOp s c o).fv f = s.fv f := by
  rw [addOp_eq, countTags_fv h htags]
  rfl

theorem addOp_kept {P : Nat → Prop} {s t : State} (h : RegsKept P s t) {c : Nat} (hstatus : ¬ P (rHOIST_STATUS c))
    (htags : ¬ P rHOISTG_TAGS) (o : HoistOp) : RegsKept P s (addOp t c o) :=
  countTags_kept_of (h.regs (opJoined_regs t c o)) hstatus htags

theorem addOp_mem (s : State) (c : Nat) (o : HoistOp) : (addOp s c o).mem = s.mem := by
  rw [addOp_eq, countTags_mem]
  rfl

@[simp] theorem hState_addOp (s : State) (c : Nat) (o : HoistOp) : hState (addOp s c o) c = hState s c :=
  addOp_fv (f := fHOIST_STATUS_STATE c) (.inr (by grind)) (by grind) s o

@[simp] theorem hPc_addOp (s : State) (c : Nat) (o : HoistOp) : hPc (addOp s c o) c = hPc s c :=
  addOp_fv (f := fHOIST_STATUS_PC c) (.inr (by grind)) (by grind) s o

/-- The operations of a channel without the one whose tag is free again. -/
def opLeft (o : HoistOp) (x : HChan) : HChan := { x with ops := x.ops.filter (fun y => y.tag != o.tag) }

theorem freeOp_lp {o : HoistOp} (h : o.space = 1) (s : State) (c : Nat) :
    freeOp s c o = countTags (updHchan s c (opLeft o)) c := by
  rw [freeOp, if_neg (by omega), if_neg (by omega)]
  rfl

section
variable {o : HoistOp} (h : o.space = 1) (s : State) (c : Nat)
include h

theorem freeOp_hchan : hchan (freeOp s c o) c = opLeft o (hchan s c) := by
  rw [freeOp_lp h, hchan_congr (countTags_hoist _ c), hchan_updHchan]

theorem freeOp_fv {f : Fld} (hf : f.off ≠ rHOIST_STATUS c ∨ f.lsb + f.width ≤ 16) (htags : f.off ≠ rHOISTG_TAGS) :
    (freeOp s c o).fv f = s.fv f := by
  rw [freeOp_lp h, countTags_fv hf htags, updHchan_fv]

theorem freeOp_mem : (freeOp s c o).mem = s.mem := by
  rw [freeOp_lp h, countTags_mem]
  rfl

theorem freeOp_regsKept {P : Nat → Prop} (hstatus : ¬ P (rHOIST_STATUS c)) (htags : ¬ P rHOISTG_TAGS) :
    RegsKept P s (freeOp s c o) := by
  rw [freeOp_lp h]
  exact countTags_kept_of (.of_regs (updHchan_regs s c _)) hstatus htags

theorem hState_freeOp : hState (freeOp s c o) c = hState s c :=
  freeOp_fv h s c (f := fHOIST_STATUS_STATE c) (.inr (by grind)) (by grind)

theorem hPc_freeOp : hPc (freeOp s c o) c = hPc s c :=
  freeOp_fv h s c (f := fHOIST_STATUS_PC c) (.inr (by grind)) (by grind)

theorem hActive_freeOp : hActive (freeOp s c o) c = hActive s c := by
  rw [hActive, hState_freeOp h, hActive]
end

/-! ### Halts (R339) -/

/-- The registers of a channel that halts. -/
def haltShown (s : State) (c code space addr attempts : Nat) : State :=
  let t := (setHState s c 5).setRn (rHOIST_FAULT c) (faultCode 0x15 c code)
  (t.setRn (rHOIST_FAULT_INFO c) (hPc t c + space % 4 * 2 ^ 6 + attempts * 2 ^ 8)).setPair (rHOIST_FAULT_ADDR_LO c)
    (rHOIST_FAULT_ADDR_HI c) addr

/-- The event of a halt and the bit of the channel in HALTED. -/
def haltTold (s : State) (c : Nat) : State := setHalted (s.ev (fHOIST_EVENT_HALTED c)) c true

/-- A halted channel holds no MOVE, no LOAD and no retries. -/
def HChan.halted (x : HChan) : HChan := { x with move := none, load := none, retry := [], stopping := false }

/-- A halted channel, before a device channel's stream stops. -/
def haltDone (s : State) (c code space addr attempts : Nat) : State :=
  let t := updHchan (haltTold (haltShown s c code space addr attempts) c) c HChan.halted
  t.report 0x15 c code (if c < 192 && isSafety t c then 3 else 0)

theorem haltChan_eq {attempts : Nat} (h : attempts < 16) (s : State) (c code space addr : Nat) :
    haltChan s c code space addr attempts =
      if c < 192 then stopLater (haltDone s c code space addr attempts) c (faultCode 0x15 c code)
      else haltDone s c code space addr attempts := by
  rw [haltChan, if_pos h]
  rfl

/-- A halt of a channel adds nothing to the registers where it stops a stream. -/
theorem haltChan_regs {attempts : Nat} (h : attempts < 16) (s : State) (c code space addr : Nat) :
    (haltChan s c code space addr attempts).regs = (haltTold (haltShown s c code space addr attempts) c).regs := by
  rw [haltChan_eq h]
  split
  · rw [stopLater_regs]
    rfl
  · rfl

theorem haltTold_fv {c : Nat} {f : Fld} (hevent : f.off ≠ rHOIST_EVENT c) (hhalted : f.off ≠ rHOISTG_HALTED (c / 32))
    (hirq : (f.off < 0x26000 ∨ 0x26800 ≤ f.off) ∧ (f.off < 0x50000 ∨ 0x50100 ≤ f.off)) (s : State) :
    (haltTold s c).fv f = s.fv f := by
  rw [haltTold, setHalted, State.fv_setF_other (by exact hhalted), fv_ev_of_apart (.inl (by exact hevent)) hirq]

theorem haltTold_rn {c o : Nat} (hevent : o ≠ rHOIST_EVENT c) (hhalted : o ≠ rHOISTG_HALTED (c / 32))
    (hirq : (o < 0x26000 ∨ 0x26800 ≤ o) ∧ (o < 0x50000 ∨ 0x50100 ≤ o)) (s : State) : (haltTold s c).rn o = s.rn o := by
  rw [haltTold, setHalted, rn_setF_other (by exact hhalted), rn_ev_other (by exact hevent) hirq]

theorem haltShown_status (s : State) (c code space addr attempts : Nat) {f : Fld} (hf : f.off = rHOIST_STATUS c) :
    (haltShown s c code space addr attempts).fv f = (setHState s c 5).fv f := by
  rw [haltShown, State.fv_setPair_other (by grind), State.fv_setRn_other (by grind),
    State.fv_setRn_other (by grind)]

theorem faultCode_hoist {c : Nat} (code : Nat) : faultCode 0x15 c code < 2 ^ 32 := by
  rw [faultCode]
  omega

/-- A halted channel shows its code and the address of the fault. -/
theorem haltChan_halted {c code space addr attempts : Nat} (hc : c < 256) (h : attempts < 16) (haddr : addr < 2 ^ 64) (s : State) :
    HoistHalted (haltChan s c code space addr attempts) c code addr := by
  have hregs := haltChan_regs h s c code space addr
  have hhalted : rHOISTG_HALTED (c / 32) < 0x1140040 := by
    show 0x1140020 + 4 * (c / 32) < 0x1140040
    omega
  refine ⟨?state, ?fault, ?addr, ?event, ?bit⟩
  case state =>
    rw [hState_congr hregs, hState, haltTold_fv (by grind) (by grind) (by grind),
      haltShown_status _ _ _ _ _ _ rfl]
    exact hState_setHState (by decide) s c
  case fault =>
    rw [rn_congr hregs, haltTold_rn (by grind) (by grind) (by grind), haltShown,
      State.rn_setPair_other (by grind) (by grind), State.rn_setRn_other (by grind), State.rn_setRn_same,
      Nat.mod_eq_of_lt (faultCode_hoist code)]
  case addr =>
    have hpair : ∀ lo hi, lo = rHOIST_FAULT_ADDR_LO c → hi = rHOIST_FAULT_ADDR_HI c →
        (haltTold (haltShown s c code space addr attempts) c).pair lo hi =
          (haltShown s c code space addr attempts).pair lo hi := by
      intro lo hi hlo hhi
      rw [State.pair, haltTold_rn (by grind) (by grind) (by grind), haltTold_rn (by grind) (by grind) (by grind), State.pair]
    rw [pair_congr hregs, hpair _ _ rfl rfl, haltShown, State.pair_setPair_same (by grind), Nat.mod_eq_of_lt haddr]
  case event =>
    rw [fv_congr hregs, haltTold, setHalted, State.fv_setF_other (by grind),
      fv_ev_set (by grind) (by grind)]
    rfl
  case bit =>
    rw [fv_congr hregs, haltTold, setHalted, State.fv_setF_same _ _ _ (by grind)]
    rfl

section
variable (s : State) (c code space addr attempts : Nat)

theorem haltTold_hoist : (haltTold s c).hoist = s.hoist := by
  rw [haltTold, setHalted, State.setF_hoist, State.ev_hoist]

theorem haltShown_hoist : (haltShown s c code space addr attempts).hoist = s.hoist := by
  rw [haltShown, State.setPair_hoist, State.setRn_hoist, State.setRn_hoist, setHState, State.setF_hoist]

theorem stopLater_hoist : (stopLater s c code).hoist = s.hoist := (Keeps.of (keeps_stopLater s c code)).hoist rfl

theorem haltDone_hchan : hchan (haltDone s c code space addr attempts) c = (hchan s c).halted := by
  have h := hchan_congr ((haltTold_hoist (haltShown s c code space addr attempts) c).trans
    (haltShown_hoist s c code space addr attempts)) c
  show hchan (updHchan _ c HChan.halted) c = _
  rw [hchan_updHchan, h]

theorem haltChan_mem : (haltChan s c code space addr attempts).mem = s.mem :=
  (Keeps.of (keeps_haltChan s c code space addr attempts)).mem rfl

variable {attempts} (h : attempts < 16)
include h

theorem haltChan_hchan : hchan (haltChan s c code space addr attempts) c = (hchan s c).halted := by
  rw [haltChan_eq h]
  split
  · rw [hchan_congr (stopLater_hoist _ c _), haltDone_hchan]
  · rw [haltDone_hchan]

theorem haltChan_hPc (hc : c < 256) : hPc (haltChan s c code space addr attempts) c = hPc s c := by
  have hhalted : rHOISTG_HALTED (c / 32) < 0x1140040 := by
    show 0x1140020 + 4 * (c / 32) < 0x1140040
    omega
  rw [hPc_congr (haltChan_regs h s c code space addr), hPc, haltTold_fv (by grind) (by grind) (by grind),
    haltShown_status _ _ _ _ _ _ rfl]
  exact hPc_setHState s c 5

/-- FAULT_INFO of a halt shows the space and the attempts of the operation. -/
theorem haltChan_info (hc : c < 256) :
    (haltChan s c code space addr attempts).fv (fHOIST_FAULT_INFO_ATTEMPTS c) = attempts
      ∧ (haltChan s c code space addr attempts).fv (fHOIST_FAULT_INFO_SPACE c) = space % 4 := by
  have hhalted : rHOISTG_HALTED (c / 32) < 0x1140040 := by
    show 0x1140020 + 4 * (c / 32) < 0x1140040
    omega
  have hpc : ∀ t, hPc t c < 64 := fun t => hPc_lt t c
  have hinfo : ∀ f : Fld, f.off = rHOIST_FAULT_INFO c → (haltChan s c code space addr attempts).fv f =
      bitsOf ((hPc ((setHState s c 5).setRn (rHOIST_FAULT c) (faultCode 0x15 c code)) c + space % 4 * 2 ^ 6 + attempts * 2 ^ 8)
        % 2 ^ 32) f.lsb f.width := by
    intro f hf
    rw [fv_congr (haltChan_regs h s c code space addr), haltTold_fv (by grind) (by grind) (by grind), haltShown,
      State.fv_setPair_other (by grind), State.fv, hf, State.rn_setRn_same]
  rw [hinfo _ rfl, hinfo _ rfl]
  have hlt := hpc ((setHState s c 5).setRn (rHOIST_FAULT c) (faultCode 0x15 c code))
  generalize hPc _ c = n at hlt ⊢
  constructor <;> (dsimp only [bitsOf]; omega)
end

/-! ### What an operation leaves alone, events apart -/

/-- The registers that a statement with the exceptions `l`, and the pending state of interrupts, speaks of. -/
def ButEvents (l : List Nat) (o : Nat) : Prop := o ∉ l ∧ interruptReg o = false

theorem not_irqReg_of_interruptReg {o : Nat} (h : interruptReg o = false) : ¬ irqReg o := by
  simp only [interruptReg, rRING_INT_ROUTE, rPBA_PENDING, Bool.or_eq_false_iff, Bool.and_eq_false_iff, decide_eq_false_iff_not] at h
  unfold irqReg
  omega

theorem ButEvents.not_irqReg (l : List Nat) (o : Nat) (h : ButEvents l o) : ¬ irqReg o := not_irqReg_of_interruptReg h.2

theorem ButEvents.not_of_mem {l : List Nat} {o : Nat} (h : o ∈ l) : ¬ ButEvents l o := fun k => k.1 h

theorem RegsKept.butEvents {s t : State} {l : List Nat} (h : RegsKept (ButEvents l) s t) : SameButEvents s t l :=
  fun o ho hirq => h.rn o ⟨ho, hirq⟩

theorem RegsKept.but {s t : State} {l : List Nat} (h : RegsKept (· ∉ l) s t) : SameRegsBut s t l := h.rn

end Sys2Proof.Machine

namespace Sys2Proof.Machine

/-! ### A channel at an instruction (R322, R323) -/

section
variable {s : State} {c op a b : Nat}

theorem hoistAt_lt (h : HoistAt s c op a b) : c < 256 := h.2.1

theorem hoistAt_ge (h : HoistAt s c op a b) : 192 ≤ c := h.1

/-- A channel at an instruction runs, and holds neither a MOVE nor a LOAD. -/
theorem instrReady_running (h : instrReady s c = true) :
    hState s c = 1 ∧ (hchan s c).stopping = false ∧ (hchan s c).move = none ∧ (hchan s c).load = none := by
  simp only [instrReady, Bool.and_eq_true, decide_eq_true_eq, beq_iff_eq, Bool.not_eq_true', Option.isNone_iff_eq_none] at h
  obtain ⟨⟨⟨⟨_, hstate⟩, hstop⟩, hmove⟩, hload⟩ := h
  exact ⟨hstate, hstop, hmove, hload⟩

theorem hoistAt_running (h : HoistAt s c op a b) : hState s c = 1 := (instrReady_running h.2.2.1).1

theorem hoistAt_noMove (h : HoistAt s c op a b) : (hchan s c).move = none := (instrReady_running h.2.2.1).2.2.1

/-- At its instruction a channel does what the operation says. -/
theorem onInstr_of_at (h : HoistAt s c op a b) (f : Nat → Nat → State) : onInstr s c op f = f a b := by
  obtain ⟨_, _, hready, hok, ha, hb, hop⟩ := h
  rw [onInstr, hready, hok, ha, hb, hop, if_pos (by simp)]

/-- SIGNAL without a store asks for its event. -/
theorem hoistAt_signal (h : HoistAt s c 4 a b) (hstore : bitAt a 4 = false) : bitAt a 5 = true := by
  obtain ⟨_, _, _, hok, ha, hb, hop⟩ := h
  simp only [instrOk, ha, hb, hop, instrBad, Bool.and_eq_true, Bool.not_eq_true', Bool.or_eq_false_iff, beq_eq_false_iff_ne] at hok
  have hkind := hok.2.2
  simp only [bitAt, bitsOf, beq_eq_false_iff_ne, beq_iff_eq] at hstore hkind ⊢
  omega

end

/-! ### Operations on STATUS and the X registers (R327 to R329) -/

section
variable {P : Nat → Prop} {s t : State} {c : Nat}

theorem setHState_kept (h : RegsKept P s t) (st : Nat) (hstatus : ¬ P (rHOIST_STATUS c)) : RegsKept P s (setHState t c st) :=
  h.setF st hstatus

theorem hNext_kept (h : RegsKept P s t) (hstatus : ¬ P (rHOIST_STATUS c)) : RegsKept P s (hNext t c) := h.setF _ hstatus

theorem hX_setPc (s : State) (c v i : Nat) : hX (s.setF (fHOIST_STATUS_PC c) v) c i = hX s c i :=
  State.pair_setF_other (f := fHOIST_STATUS_PC c) (by grind) s v

theorem hPc_setPc {v : Nat} (hv : v < 64) (s : State) (c : Nat) : hPc (s.setF (fHOIST_STATUS_PC c) v) c = v := by
  rw [hPc, State.fv_setF_same _ _ _ (by grind)]
  exact Nat.mod_eq_of_lt hv

/-- The pace flag of a channel is set to `v`. -/
def setPace (s : State) (c v : Nat) : State := s.setF (fHOIST_STATUS_PACE c) v

@[simp] theorem hState_setPace (s : State) (c v : Nat) : hState (setPace s c v) c = hState s c :=
  fv_setF_of_apart (f := fHOIST_STATUS_PACE c) (by grind) s v

@[simp] theorem hPc_setPace (s : State) (c v : Nat) : hPc (setPace s c v) c = hPc s c :=
  fv_setF_of_apart (f := fHOIST_STATUS_PACE c) (by grind) s v

@[simp] theorem hX_setPace (s : State) (c v i : Nat) : hX (setPace s c v) c i = hX s c i :=
  State.pair_setF_other (f := fHOIST_STATUS_PACE c) (by grind) s v

@[simp] theorem pace_setPace {v : Nat} (hv : v < 2) (s : State) (c : Nat) : (setPace s c v).fv (fHOIST_STATUS_PACE c) = v := by
  rw [setPace, State.fv_setF_same _ _ _ (by grind)]
  exact Nat.mod_eq_of_lt hv

@[simp] theorem pace_setHState (s : State) (c st : Nat) :
    (setHState s c st).fv (fHOIST_STATUS_PACE c) = s.fv (fHOIST_STATUS_PACE c) :=
  fv_setF_of_apart (f := fHOIST_STATUS_STATE c) (by grind) s st

@[simp] theorem pace_hNext (s : State) (c : Nat) : (hNext s c).fv (fHOIST_STATUS_PACE c) = s.fv (fHOIST_STATUS_PACE c) :=
  fv_setF_of_apart (f := fHOIST_STATUS_PC c) (by grind) s _

end

/-! ### The start of a channel (R330) -/

/-- A channel that starts holds its operations alone. -/
def HChan.fresh (x : HChan) : HChan := { ops := x.ops }

/-- The registers of a channel that starts at ENTRY. -/
def runShown (s : State) (c : Nat) : State :=
  let t := (s.setF (fHOIST_STATUS_PC c) (s.fv (fHOIST_CTRL_ENTRY c))).setRn (rHOIST_FAULT c) 0
  setHalted (setHState (setPace t c 0) c 1) c false

theorem hoistRun_eq (s : State) (c : Nat) : hoistRun s c = updHchan (runShown s c) c HChan.fresh := rfl

/-- ENTRY takes its value of a write of CTRL. -/
def entrySet (s : State) (c : Nat) (v : Word) : State := s.setF (fHOIST_CTRL_ENTRY c) (bitsOf v.toNat 8 6)

theorem hoistCtrl_software {c : Nat} {v : Word} (hc : 192 ≤ c) (hentry : bitsOf v.toNat 8 6 ≤ 47) (s : State) :
    hoistCtrl s c v =
      (let was := hActive s c
       let t := entrySet s c v
       let u := if bitAt v.toNat 0 then (if was then t.ev (fHOIST_EVENT_CFG_IGNORED c) else hoistRun t c) else t
       if bitAt v.toNat 1 && was then hoistHalt u c else u) := by
  rw [hoistCtrl]
  dsimp only
  rw [if_neg (by omega), if_neg (by omega)]
  rfl

/-- A channel that issues nothing more. -/
def HChan.halting (x : HChan) : HChan := { x with stopping := true, move := none, retry := [] }

theorem hoistHalt_eq (s : State) (c : Nat) : hoistHalt s c = updHchan (setHState s c 1) c HChan.halting := rfl

/-! ### WAIT (R327) -/

/-- The channel with its last WAIT at `pc`. -/
def waitAt (pc : Nat) (x : HChan) : HChan := { x with lastWait := some pc }

/-- A channel that waits from `now` on. -/
def waitSince (now : Nat) (x : HChan) : HChan := { x with since := now }

/-- A WAIT that is not the last WAIT again starts without pace. -/
def paceJudged (s : State) (c : Nat) : State :=
  if (hchan s c).lastWait == some (hPc s c) then s else setPace s c 0

/-- The WAIT is noted. -/
def waitNoted (s : State) (c : Nat) : State := updHchan (paceJudged s c) c (waitAt (hPc (paceJudged s c) c))

/-- The registers of the Larder's queues. -/
def InQueues (o : Nat) : Prop := 0x1020000 ≤ o ∧ o < 0x1100000

theorem inQueues_cfg {q : Nat} (hq : q < 4096) : InQueues (rLQ_CFG q) ∧ InQueues (rLQ_CREDIT q) := by
  simp only [InQueues, rLQ_CFG, rLQ_CREDIT]
  omega

/-- The measure of a WAIT is about its queue alone. -/
theorem waitValue_congr {s t : State} (hlarder : t.larder = s.larder) (h : RegsKept InQueues s t) (a : Nat) :
    waitValue t a = waitValue s a := by
  obtain ⟨hcfg, hcredit⟩ := inQueues_cfg (bitsOf_lt a 6 12)
  have hqueue : ∀ q, queueOfL t q = queueOfL s q := fun q => by rw [queueOfL, hlarder, queueOfL]
  have hreg : ∀ q k, queueReg t q k = queueReg s q k := fun q k => by unfold queueReg; rw [hqueue]
  rw [waitValue, queueItem, queueEn, h.on (f := fLQ_CFG_EN _) hcfg, credit, h.fv (f := fLQ_CREDIT_CELLS _) hcredit, hreg]
  rfl

/-- The condition of a WAIT is about its queue, the channel's X registers and dial time alone. -/
theorem waitTrue_congr {s t : State} {c : Nat} (hX' : ∀ i, hX t c i = hX s c i) (hdial : t.dial = s.dial)
    (hlarder : t.larder = s.larder) (h : RegsKept InQueues s t) (a b : Nat) : waitTrue t c a b = waitTrue s c a b := by
  rw [waitTrue, waitTrue, hdial, waitValue_congr hlarder h, hX']

theorem setPace_inQueues (s : State) (c v : Nat) : RegsKept InQueues s (setPace s c v) :=
  (RegsKept.refl _ s).setF v fun h => by
    have := h.2
    simp only [rHOIST_STATUS] at this
    omega

section
variable (s : State) (c : Nat)

theorem waitTrue_setPace (v a b : Nat) : waitTrue (setPace s c v) c a b = waitTrue s c a b :=
  waitTrue_congr (hX_setPace s c v) (dial_congr (State.setF_regu _ _ _)) (State.setF_larder _ _ _) (setPace_inQueues s c v) a b

theorem waitValue_setPace (v a : Nat) : waitValue (setPace s c v) a = waitValue s a :=
  waitValue_congr (State.setF_larder _ _ _) (setPace_inQueues s c v) a

theorem paceJudged_cases : paceJudged s c = s ∨ paceJudged s c = setPace s c 0 := ite_eq_or_eq _ _ _

theorem paceJudged_hPc : hPc (paceJudged s c) c = hPc s c := by
  obtain h | h := paceJudged_cases s c
  · rw [h]
  · rw [h, hPc_setPace]

theorem waitNoted_hPc : hPc (waitNoted s c) c = hPc s c := by
  rw [waitNoted, hPc_updHchan, paceJudged_hPc]

theorem paceJudged_hoist : (paceJudged s c).hoist = s.hoist := by
  obtain h | h := paceJudged_cases s c
  · rw [h]
  · rw [h, setPace, State.setF_hoist]

theorem waitNoted_hchan : hchan (waitNoted s c) c = waitAt (hPc s c) (hchan s c) := by
  rw [waitNoted, hchan_updHchan, hchan_congr (paceJudged_hoist s c), paceJudged_hPc]

theorem waitValue_updHchan (g : HChan → HChan) (a : Nat) : waitValue (updHchan s c g) a = waitValue s a :=
  waitValue_congr rfl (.of_regs rfl) a

theorem waitTrue_updHchan (g : HChan → HChan) (a b : Nat) : waitTrue (updHchan s c g) c a b = waitTrue s c a b :=
  waitTrue_congr (hX_updHchan s c c · g) rfl rfl (.of_regs rfl) a b

theorem waitNoted_value (a : Nat) : waitValue (waitNoted s c) a = waitValue s a := by
  rw [waitNoted, waitValue_updHchan]
  obtain h | h := paceJudged_cases s c
  · rw [h]
  · rw [h, waitValue_setPace]

theorem waitNoted_true (a b : Nat) : waitTrue (waitNoted s c) c a b = waitTrue s c a b := by
  rw [waitNoted, waitTrue_updHchan]
  obtain h | h := paceJudged_cases s c
  · rw [h]
  · rw [h, waitTrue_setPace]

theorem waitNoted_now : (waitNoted s c).now = s.now := by
  show (paceJudged s c).now = _
  obtain h | h := paceJudged_cases s c
  · rw [h]
  · rw [h, setPace, State.setF_now]

variable {s c}

theorem waitNoted_pace_kept (h : (hchan s c).lastWait = some (hPc s c)) :
    (waitNoted s c).on (fHOIST_STATUS_PACE c) = s.on (fHOIST_STATUS_PACE c) := by
  rw [State.on_eq, waitNoted, updHchan_fv, paceJudged, h, if_pos (beq_self_eq_true _), ← State.on_eq]

theorem waitNoted_pace_lost (h : (hchan s c).lastWait ≠ some (hPc s c)) :
    (waitNoted s c).on (fHOIST_STATUS_PACE c) = false := by
  rw [State.on_eq, waitNoted, updHchan_fv, paceJudged, if_neg (by simpa using h), pace_setPace (by decide)]
  rfl
end

/-- The channel waits from now on. -/
def waitBegun (s : State) (c : Nat) : State := updHchan (setHState s c 2) c (waitSince s.now)

/-- What follows a WAIT that has been noted. -/
def waitJudged (s : State) (c a b : Nat) : State :=
  let paced := bitsOf a 4 2 < 2 && s.on (fHOIST_STATUS_PACE c)
  if paced && bitsOf b 32 32 < waitValue s a then hNext s c
  else
    let t := if paced then setPace s c 0 else s
    if waitTrue t c a b then waitPass t c a else waitBegun t c

theorem hoistWait_of_at {s : State} {c a b : Nat} (h : HoistAt s c 3 a b) :
    hoistWait s c = waitJudged (waitNoted s c) c a b := by
  rw [hoistWait, onInstr_of_at h]
  rfl

section
variable {s : State} {c a b : Nat}

/-- A WAIT without pace passes where its condition holds, and waits otherwise. -/
theorem waitJudged_unpaced (h : (decide (bitsOf a 4 2 < 2) && s.on (fHOIST_STATUS_PACE c)) = false) :
    waitJudged s c a b = if waitTrue s c a b then waitPass s c a else waitBegun s c := by
  rw [waitJudged]
  dsimp only
  rw [h, if_neg Bool.false_ne_true]
  rfl

theorem waitJudged_paced (hkind : bitsOf a 4 2 < 2) (hpace : s.on (fHOIST_STATUS_PACE c) = true) :
    waitJudged s c a b = if bitsOf b 32 32 < waitValue s a then hNext s c
      else if waitTrue s c a b then waitPass (setPace s c 0) c a else waitBegun (setPace s c 0) c := by
  simp [waitJudged, hkind, hpace, waitTrue_setPace]

theorem waitPass_eq (s : State) (c a : Nat) :
    waitPass s c a = hNext (setHState (if bitsOf a 4 2 < 2 then setPace s c 1 else s) c 1) c := rfl

theorem waitPass_passed (s : State) (c a : Nat) :
    hPc (waitPass s c a) c = (hPc s c + 1) % 48 ∧ hState (waitPass s c a) c = 1
      ∧ (waitPass s c a).hoist = s.hoist := by
  rw [waitPass_eq, hPc_hNext, hPc_setHState, hState_hNext, hState_setHState (by decide), hNext, State.setF_hoist, setHState,
    State.setF_hoist]
  split
  · rw [hPc_setPace, setPace, State.setF_hoist]
    exact ⟨rfl, rfl, rfl⟩
  · exact ⟨rfl, rfl, rfl⟩

theorem waitPass_pace (hkind : bitsOf a 4 2 < 2) (s : State) (c : Nat) :
    (waitPass s c a).fv (fHOIST_STATUS_PACE c) = 1 := by
  rw [waitPass_eq, pace_hNext, pace_setHState, if_pos hkind, pace_setPace (by decide)]

theorem waitBegun_waits (s : State) (c : Nat) :
    hPc (waitBegun s c) c = hPc s c ∧ hState (waitBegun s c) c = 2
      ∧ (waitBegun s c).fv (fHOIST_STATUS_PACE c) = s.fv (fHOIST_STATUS_PACE c)
      ∧ (hchan (waitBegun s c) c).since = s.now := by
  rw [waitBegun, hPc_updHchan, hPc_setHState, hState_updHchan, hState_setHState (by decide), updHchan_fv, pace_setHState,
    hchan_updHchan]
  exact ⟨rfl, rfl, rfl, rfl⟩
end

end Sys2Proof.Machine

namespace Sys2Proof.Machine

/-! ### CTRL (R330, R331) -/

theorem haltedReg_lt {c : Nat} (hc : c < 256) : 0x1140020 ≤ rHOISTG_HALTED (c / 32) ∧ rHOISTG_HALTED (c / 32) < 0x1140040 := by
  simp only [rHOISTG_HALTED]
  omega

section
variable {s : State} {c : Nat} (hc : c < 256)
include hc

theorem runShown_shown : hState (runShown s c) c = 1 ∧ hPc (runShown s c) c = s.fv (fHOIST_CTRL_ENTRY c)
      ∧ (runShown s c).rn (rHOIST_FAULT c) = 0 ∧ (runShown s c).fv (fHOIST_STATUS_PACE c) = 0
      ∧ (runShown s c).fv ⟨rHOISTG_HALTED (c / 32), c % 32, 1⟩ = 0 := by
  have hreg := haltedReg_lt hc
  have hentry : s.fv (fHOIST_CTRL_ENTRY c) < 64 := s.fv_lt (fHOIST_CTRL_ENTRY c)
  unfold runShown
  refine ⟨?_, ?_, ?_, ?_, ?_⟩
  · rw [hState, setHalted, State.fv_setF_other (by grind)]
    exact hState_setHState (by decide) _ c
  · rw [hPc, setHalted, State.fv_setF_other (by grind)]
    show hPc (setHState (setPace _ c 0) c 1) c = _
    rw [hPc_setHState, hPc_setPace, hPc, State.fv_setRn_other (by grind)]
    exact hPc_setPc hentry s c
  · rw [setHalted, rn_setF_other (by grind), setHState, rn_setF_other (by grind), setPace, rn_setF_other (by grind),
      State.rn_setRn_same]
    rfl
  · rw [setHalted, State.fv_setF_other (by grind), pace_setHState, pace_setPace (by decide)]
  · rw [setHalted, State.fv_setF_same _ _ _ (by grind)]
    rfl

end

theorem runShown_kept (s : State) (c : Nat) : RegsKept (· ∉ [rHOIST_CTRL c, rHOIST_STATUS c, rHOIST_FAULT c, rHOISTG_HALTED (c / 32)]) s (runShown s c) :=
  .setF (.setF (.setF (.setRn (.setF (.refl _ s) _ (by simp)) _ (by simp)) _ (by simp)) _ (by simp)) _ (by simp)

theorem runShown_hoist (s : State) (c : Nat) : (runShown s c).hoist = s.hoist := by
  rw [runShown, setHalted, State.setF_hoist, setHState, State.setF_hoist, setPace, State.setF_hoist, State.setRn_hoist,
    State.setF_hoist]
/-- A channel that starts runs from ENTRY with a clear record, and holds its operations alone. -/
theorem hoistRun_shown {s : State} {c : Nat} (hc : c < 256) :
    (hState (hoistRun s c) c = 1 ∧ hPc (hoistRun s c) c = s.fv (fHOIST_CTRL_ENTRY c)
      ∧ (hoistRun s c).rn (rHOIST_FAULT c) = 0 ∧ (hoistRun s c).fv (fHOIST_STATUS_PACE c) = 0
      ∧ (hoistRun s c).fv ⟨rHOISTG_HALTED (c / 32), c % 32, 1⟩ = 0) ∧ hchan (hoistRun s c) c = (hchan s c).fresh := by
  rw [hoistRun_eq, hState_updHchan, hPc_updHchan, updHchan_rn, updHchan_fv, updHchan_fv, hchan_updHchan,
    hchan_congr (runShown_hoist s c)]
  exact ⟨runShown_shown hc, rfl⟩

theorem hoistRun_kept (s : State) (c : Nat) :
    RegsKept (· ∉ [rHOIST_CTRL c, rHOIST_STATUS c, rHOIST_FAULT c, rHOISTG_HALTED (c / 32)]) s (hoistRun s c) := by
  rw [hoistRun_eq]
  exact (runShown_kept s c).regs (updHchan_regs _ c _)

theorem entrySet_entry (s : State) (c : Nat) (v : Word) : (entrySet s c v).fv (fHOIST_CTRL_ENTRY c) = bitsOf v.toNat 8 6 := by
  rw [entrySet, State.fv_setF_same _ _ _ (by grind)]
  exact Nat.mod_eq_of_lt (bitsOf_lt _ _ _)

theorem entrySet_hoist (s : State) (c : Nat) (v : Word) : (entrySet s c v).hoist = s.hoist := State.setF_hoist _ _ _

theorem entrySet_status (s : State) (c : Nat) (v : Word) {f : Fld} (hf : f.off = rHOIST_STATUS c) :
    (entrySet s c v).fv f = s.fv f := State.fv_setF_other (f := fHOIST_CTRL_ENTRY c) (by grind) s _

section
variable {c : Nat} {v : Word} (hc : 192 ≤ c) (hentry : bitsOf v.toNat 8 6 ≤ 47) {s : State}
include hc hentry

theorem hoistCtrl_start (hstart : bitAt v.toNat 0 = true) (hstop : bitAt v.toNat 1 = false) (hidle : hActive s c = false) :
    hoistCtrl s c v = hoistRun (entrySet s c v) c := by
  rw [hoistCtrl_software hc hentry, hstart, hstop, hidle]
  rfl

theorem hoistCtrl_restart (hstart : bitAt v.toNat 0 = true) (hstop : bitAt v.toNat 1 = false) (hruns : hActive s c = true) :
    hoistCtrl s c v = (entrySet s c v).ev (fHOIST_EVENT_CFG_IGNORED c) := by
  rw [hoistCtrl_software hc hentry, hstart, hstop, hruns]
  rfl

theorem hoistCtrl_stop (hstart : bitAt v.toNat 0 = false) (hstop : bitAt v.toNat 1 = true) (hruns : hActive s c = true) :
    hoistCtrl s c v = hoistHalt (entrySet s c v) c := by
  rw [hoistCtrl_software hc hentry, hstart, hstop, hruns]
  rfl
end

theorem stopDone_of_stopped {s : State} {c : Nat} (hstop : (hchan s c).stopping = true) (hops : (hchan s c).ops = []) :
    stopDone s c = setHchan (setHState s c 0) c {} := by
  rw [stopDone, hstop, hops]
  rfl

/-! ### END and LOOP (R322, R328, R329) -/

section
variable {s : State} {c a b : Nat}

theorem hoistEnd_silent (h : HoistAt s c 0 a b) (hirq : bitAt a 4 = false) : hoistEnd s c = setHState s c 4 := by
  rw [hoistEnd, onInstr_of_at h, hirq]
  rfl

theorem hoistEnd_told (h : HoistAt s c 0 a b) (hirq : bitAt a 4 = true) (hdone : writesDone s c = true) :
    hoistEnd s c = setHState (s.ev (fHOIST_EVENT_END_IRQ c)) c 4 := by
  rw [hoistEnd, onInstr_of_at h, hirq, hdone]
  rfl

/-- The counter of a LOOP after one more round. -/
def loopCount (s : State) (c a : Nat) : Nat := (hX s c (bitsOf a 4 3) + (2 ^ 64 - 1)) % 2 ^ 64

theorem hoistLoop_always (h : HoistAt s c 2 a b) (halways : bitAt a 13 = true) :
    hoistLoop s c = s.setF (fHOIST_STATUS_PC c) (bitsOf a 7 6) := by
  rw [hoistLoop, onInstr_of_at h, halways]
  rfl

/-- A LOOP that counts, with `n` rounds left. -/
def loopRound (s : State) (c a n : Nat) : State :=
  let t := setHX s c (bitsOf a 4 3) n
  if n ≠ 0 then t.setF (fHOIST_STATUS_PC c) (bitsOf a 7 6)
  else if bitAt a 14 then (if writesDone s c then hNext (t.ev (fHOIST_EVENT_COUNT_IRQ c)) c else s)
  else hNext t c

theorem hoistLoop_counts (h : HoistAt s c 2 a b) (hcount : bitAt a 13 = false) :
    hoistLoop s c = loopRound s c a (loopCount s c a) := by
  rw [hoistLoop, onInstr_of_at h, loopRound, loopCount]
  dsimp only
  rw [hcount, if_neg Bool.false_ne_true]

theorem loopRound_again {n : Nat} (h : n ≠ 0) :
    loopRound s c a n = (setHX s c (bitsOf a 4 3) n).setF (fHOIST_STATUS_PC c) (bitsOf a 7 6) := if_pos h

theorem loopRound_last (h : bitAt a 14 = false) : loopRound s c a 0 = hNext (setHX s c (bitsOf a 4 3) 0) c := by
  rw [loopRound, h]
  rfl

theorem loopAgain_shown (s : State) (c a n : Nat) :
    hX ((setHX s c (bitsOf a 4 3) n).setF (fHOIST_STATUS_PC c) (bitsOf a 7 6)) c (bitsOf a 4 3) = n % 2 ^ 64
      ∧ hPc ((setHX s c (bitsOf a 4 3) n).setF (fHOIST_STATUS_PC c) (bitsOf a 7 6)) c = bitsOf a 7 6 := by
  rw [hX_setPc, hX_setHX, hPc_setPc (bitsOf_lt _ _ _)]
  exact ⟨rfl, rfl⟩

/-- A register has been loaded, and the next instruction follows. -/
theorem loaded_shown (s : State) (c d n : Nat) :
    hX (hNext (setHX s c d n) c) c d = n % 2 ^ 64 ∧ hPc (hNext (setHX s c d n) c) c = (hPc s c + 1) % 48 := by
  rw [hX_hNext, hX_setHX, hPc_hNext, hPc_setHX]
  exact ⟨rfl, rfl⟩

/-! ### SIGNAL, LOAD and ADD (R323, R329) -/

/-- The event of a SIGNAL that asks for one, and the next instruction. -/
def signalled (s : State) (c a : Nat) : State := hNext (s.evIf (bitAt a 5) (fHOIST_EVENT_SIGNAL_IRQ c)) c

theorem signalled_told (hirq : bitAt a 5 = true) :
    signalled s c a = hNext (s.ev (fHOIST_EVENT_SIGNAL_IRQ c)) c := by
  rw [signalled, hirq]
  rfl

/-- The store of a SIGNAL to LP5X memory. -/
def signalOp (s : State) (c a : Nat) : HoistOp :=
  { tag := 0, kind := 2, space := bitsOf a 6 2, peer := bitsOf a 14 6, addr := hX s c (bitsOf a 8 3), len := 8, off := 0,
    attempts := 1, data := leBytes 8 (hX s c (bitsOf a 11 3)) }

theorem signalOp_addr (s : State) (c a : Nat) : (signalOp s c a).addr = hX s c (bitsOf a 8 3) := rfl

theorem signalOp_data (s : State) (c a : Nat) : (signalOp s c a).data = leBytes 8 (hX s c (bitsOf a 11 3)) := rfl

theorem hoistSignal_event (h : HoistAt s c 4 a b) (hstore : bitAt a 4 = false) (hdone : writesDone s c = true) :
    hoistSignal s c = signalled s c a := by
  rw [hoistSignal, onInstr_of_at h, hstore, hdone]
  rfl

theorem hoistSignal_misaligned (h : HoistAt s c 4 a b) (hstore : bitAt a 4 = true) (hodd : hX s c (bitsOf a 8 3) % 8 ≠ 0) :
    hoistSignal s c = haltChan s c 0x0002 (bitsOf a 6 2) (hX s c (bitsOf a 8 3)) 0 := by
  rw [hoistSignal, onInstr_of_at h, hstore]
  dsimp only
  rw [Bool.not_true, if_neg Bool.false_ne_true, if_pos hodd]

theorem issueOpWrite_lp {o : HoistOp} (h : o.space = 1) (s : State) (c : Nat) :
    issueOpWrite s c o = addOp (memWrite s o.addr o.data o.poison) c o := by
  rw [issueOpWrite, if_neg (by omega), if_neg (by omega)]

theorem issueOpRead_lp {o : HoistOp} (h : o.space = 1) (s : State) (c : Nat) : issueOpRead s c o = addOp s c o := by
  rw [issueOpRead, if_neg (by omega), if_neg (by omega)]

/-- A store in LP5X memory has been issued. -/
def lpStored (s : State) (c : Nat) (o : HoistOp) : State := addOp (memWrite s o.addr o.data o.poison) c o

theorem lpStored_mem (s : State) (c : Nat) (o : HoistOp) : (lpStored s c o).mem = (memWrite s o.addr o.data o.poison).mem :=
  addOp_mem _ c o

theorem lpStored_bytes (s : State) (c : Nat) (o : HoistOp) :
    (∀ i, i < o.data.length → memByte (lpStored s c o) (o.addr + i) = o.data.getD i 0)
      ∧ SameMemBut s (lpStored s c o) o.addr o.data.length := by
  constructor
  · intro i hi
    rw [memByte_congr (lpStored_mem s c o), memByte_memWrite_at hi, List.getD_eq_getElem _ _ hi]
  · intro x hx
    rw [memByte_congr (lpStored_mem s c o), memByte_memWrite_other hx]

theorem lpStored_hPc (s : State) (c : Nat) (o : HoistOp) : hPc (lpStored s c o) c = hPc s c := by
  rw [lpStored, hPc_addOp]
  rfl

theorem spaceUse_lp (s : State) (c peer addr n : Nat) (dst : Bool) : spaceUse s c 1 peer addr n dst = lpUse s addr n := rfl

theorem hoistSignal_stores (h : HoistAt s c 4 a b) (hstore : bitAt a 4 = true) (hspace : bitsOf a 6 2 = 1)
    (heven : hX s c (bitsOf a 8 3) % 8 = 0) (huse : lpUse s (hX s c (bitsOf a 8 3)) 8 = .fine) (hdone : writesDone s c = true)
    (htag : tagFree s c = true) : hoistSignal s c = signalled (lpStored s c (signalOp s c a)) c a := by
  have hissue : issueOpWrite s c (signalOp s c a) = lpStored s c (signalOp s c a) := issueOpWrite_lp hspace s c
  rw [← hissue, hoistSignal, onInstr_of_at h, hstore]
  dsimp only
  rw [Bool.not_true, if_neg Bool.false_ne_true, if_neg (not_not.mpr heven), hspace, spaceUse_lp, huse, hdone, htag, signalOp,
    hspace]
  rfl

theorem signalled_shown (s : State) (c a : Nat) :
    hPc (signalled s c a) c = (hPc s c + 1) % 48
      ∧ (bitAt a 5 = true → (signalled s c a).fv (fHOIST_EVENT_SIGNAL_IRQ c) = 1)
      ∧ (signalled s c a).mem = s.mem := by
  refine ⟨?_, fun hirq => ?_, ?_⟩
  · rw [signalled, hPc_hNext, hPc, fv_evIf_of_apart (by grind) (by grind), hPc]
  · rw [signalled, hirq, hNext, State.fv_setF_other (by grind)]
    exact fv_ev_set (f := fHOIST_EVENT_SIGNAL_IRQ c) (by grind) (by grind) s
  · rw [signalled, hNext, State.setF_mem]
    cases bitAt a 5
    · rfl
    · exact State.ev_mem _ _

theorem hoistLoad_value (h : HoistAt s c 5 a b) (hkind : bitsOf a 7 2 = 0) :
    hoistLoad s c = hNext (setHX s c (bitsOf a 4 3) b) c := by
  rw [hoistLoad, onInstr_of_at h]
  dsimp only
  rw [hkind]
  rfl

theorem hoistLoad_time (h : HoistAt s c 5 a b) (hkind : bitsOf a 7 2 = 2) (hitem : bitsOf a 20 4 = 4) :
    hoistLoad s c = hNext (setHX s c (bitsOf a 4 3) s.dial) c := by
  rw [hoistLoad, onInstr_of_at h]
  dsimp only
  rw [hkind, hitem]
  rfl

/-- The read of a LOAD. -/
def loadOp (s : State) (c a : Nat) : HoistOp :=
  { tag := 0, kind := 3, space := bitsOf a 9 2, peer := bitsOf a 14 6, addr := hX s c (bitsOf a 11 3), len := 8, off := 0,
    attempts := 1 }

/-- A channel with a LOAD of register `d` in flight. -/
def loadBegun (d : Nat) (x : HChan) : HChan := { x with load := some d }

theorem hoistLoad_reads (h : HoistAt s c 5 a b) (hkind : bitsOf a 7 2 = 1) (hspace : bitsOf a 9 2 = 1)
    (heven : hX s c (bitsOf a 11 3) % 8 = 0) (huse : lpUse s (hX s c (bitsOf a 11 3)) 8 = .fine) (hdone : writesDone s c = true)
    (htag : tagFree s c = true) : hoistLoad s c = updHchan (addOp s c (loadOp s c a)) c (loadBegun (bitsOf a 4 3)) := by
  have hissue : issueOpRead s c (loadOp s c a) = addOp s c (loadOp s c a) := issueOpRead_lp hspace s c
  rw [← hissue, hoistLoad, onInstr_of_at h]
  dsimp only
  split
  next h0 => omega
  next h2 => omega
  next =>
    rw [if_neg (not_not.mpr heven), hspace, spaceUse_lp, huse, hdone, htag, loadOp, hspace, onSpace, if_neg (by simp)]
    rfl

theorem hoistAdd_of_at (h : HoistAt s c 6 a b) :
    hoistAdd s c = hNext (setHX s c (bitsOf a 4 3)
      ((hX s c (bitsOf a 4 3) + if bitAt a 10 then hX s c (bitsOf a 7 3) else b) % 2 ^ 64)) c := by
  rw [hoistAdd, onInstr_of_at h]

/-! ### MOVE (R324 to R326) -/

/-- The MOVE that an instruction describes. -/
def moveAt (s : State) (c a b : Nat) : HoistMove :=
  { w0 := a, len := if bitAt a 16 then hX s c (bitsOf a 17 3) % 2 ^ 32 else bitsOf b 0 32, src := hX s c (bitsOf a 8 3),
    dst := hX s c (bitsOf a 11 3) }

/-- A channel that executes MOVE `m`. -/
def moveBegun (m : HoistMove) (x : HChan) : HChan := { x with move := some m }

theorem hoistMove_of_at (h : HoistAt s c 1 a b) :
    hoistMove s c =
      if moveMisaligned (moveAt s c a b) || (bitAt a 16 && 2 ^ 32 ≤ hX s c (bitsOf a 17 3)) then
        haltChan s c 0x0002 (moveSrc (moveAt s c a b)) (moveAt s c a b).src 0
      else if moveOverlap s c (moveAt s c a b) then
        haltChan s c 0x0003 (moveDst (moveAt s c a b)) (moveAt s c a b).dst 0
      else
        onSpace s c (moveSrc (moveAt s c a b)) (moveAt s c a b).src
          (spaceUse s c (moveSrc (moveAt s c a b)) (movePeer (moveAt s c a b)) (moveAt s c a b).src (moveAt s c a b).len false)
          (onSpace s c (moveDst (moveAt s c a b)) (moveAt s c a b).dst
            (spaceUse s c (moveDst (moveAt s c a b)) (movePeer (moveAt s c a b)) (moveAt s c a b).dst (moveAt s c a b).len true)
            (if (moveAt s c a b).len = 0 then moveEnd (s.setRn (rHOIST_MOVED c) 0) c (moveAt s c a b)
             else updHchan (s.setRn (rHOIST_MOVED c) 0) c (moveBegun (moveAt s c a b)))) := by
  rw [hoistMove, onInstr_of_at h]
  rfl

theorem moveAt_eq {m : HoistMove}
    (hm : m = { w0 := a, len := if bitAt a 16 then hX s c (bitsOf a 17 3) else bitsOf b 0 32, src := hX s c (bitsOf a 8 3),
                dst := hX s c (bitsOf a 11 3) }) (hlen : m.len < 2 ^ 32) :
    moveAt s c a b = m ∧ (bitAt a 16 && 2 ^ 32 ≤ hX s c (bitsOf a 17 3)) = false := by
  subst hm
  rw [moveAt]
  cases hx : bitAt a 16
  · rw [if_neg Bool.false_ne_true, if_neg Bool.false_ne_true, Bool.false_and]
    exact ⟨rfl, rfl⟩
  · simp only [hx, if_true] at hlen ⊢
    rw [Nat.mod_eq_of_lt hlen, Bool.true_and, decide_eq_false (Nat.not_le_of_lt hlen)]
    exact ⟨rfl, rfl⟩

theorem moveAt_length (hx : bitAt a 16 = false) :
    moveAt s c a b = { w0 := a, len := bitsOf b 0 32, src := hX s c (bitsOf a 8 3), dst := hX s c (bitsOf a 11 3) } := by
  rw [moveAt, hx]
  rfl

theorem hoistMove_begins {m : HoistMove} (h : HoistAt s c 1 a b) (hm : moveAt s c a b = m)
    (hshort : (bitAt a 16 && 2 ^ 32 ≤ hX s c (bitsOf a 17 3)) = false) (haligned : moveMisaligned m = false)
    (hapart : moveOverlap s c m = false) (hsrc : spaceUse s c (moveSrc m) (movePeer m) m.src m.len false = .fine)
    (hdst : spaceUse s c (moveDst m) (movePeer m) m.dst m.len true = .fine) (hlen : m.len ≠ 0) :
    hoistMove s c = updHchan (s.setRn (rHOIST_MOVED c) 0) c (moveBegun m) := by
  rw [hoistMove_of_at h, hm, hshort, haligned, hapart, hsrc, hdst]
  exact if_neg hlen

theorem hoistMove_misaligned (h : HoistAt s c 1 a b) (hodd : moveMisaligned (moveAt s c a b) = true) :
    hoistMove s c = haltChan s c 0x0002 (moveSrc (moveAt s c a b)) (moveAt s c a b).src 0 := by
  rw [hoistMove_of_at h, hodd]
  rfl

theorem hoistMove_overlaps {m : HoistMove} (h : HoistAt s c 1 a b) (hx : bitAt a 16 = false) (hm : moveAt s c a b = m)
    (haligned : moveMisaligned m = false) (hover : moveOverlap s c m = true) :
    hoistMove s c = haltChan s c 0x0003 (moveDst m) m.dst 0 := by
  rw [hoistMove_of_at h, hm, hx, haligned, hover]
  rfl

end

end Sys2Proof.Machine

namespace Sys2Proof.Machine

section
variable {s : State} {c : Nat}

theorem hoistIllegal_halts (hready : instrReady s c = true) (hbad : instrOk s c = false) :
    hoistIllegal s c = haltChan s c 0x0001 0 0 0 := by
  rw [hoistIllegal, hready, hbad]
  rfl

/-- The MOVE of a channel goes on. -/
def moveResumes (m : HoistMove) (x : HChan) : HChan := { x with move := some { m with stalled := false } }

theorem hoistPass_wait (hstate : hState s c = 2) (hruns : (hchan s c).stopping = false) (hmove : (hchan s c).move = none)
    (htrue : waitTrue s c (instr0 s c) (instr1 s c) = true) : hoistPass s c = waitPass s c (instr0 s c) := by
  rw [hoistPass, if_neg (by simp [hstate, hruns]), hmove]
  exact if_pos htrue

theorem hoistPass_stall {m : HoistMove} (hstate : hState s c = 2) (hruns : (hchan s c).stopping = false)
    (hmove : (hchan s c).move = some m) (hstall : m.stalled = true) (hcredit : 0 < credit s m.dst) :
    hoistPass s c = updHchan (setHState s c 1) c (moveResumes m) := by
  rw [hoistPass, if_neg (by simp [hstate, hruns]), hmove]
  dsimp only
  rw [hstall, if_pos rfl, if_pos (decide_eq_true hcredit)]
  rfl

theorem hoistLimit_halts (hstate : hState s c = 2) (hlimit : 0 < s.fv (fHOIST_CFG_WAIT_LIMIT_MS c))
    (hlate : (hchan s c).since + s.fv (fHOIST_CFG_WAIT_LIMIT_MS c) * 1000000 < s.now) :
    hoistLimit s c = haltChan s c 0x0008 0 0 0 := by
  rw [hoistLimit, hstate, if_pos (by simp [hlimit, hlate])]
end

/-- Settles O29: each instruction by its equation and the state of a channel after it. -/
theorem hoistInstructions : Obligations.HoistInstructions := by
  refine ⟨?start, ?restart, ?device, ?invalid, ?stop, ?stopDone, ?endSilent, ?endTold, ?move, ?moveOdd, ?moveOver, ?loopAlways,
    ?loopMore, ?loopWraps, ?loopLast, ?waitPasses, ?waitWaits, ?waitPaces, ?paced, ?paceLost, ?signal, ?signalStore, ?signalOdd,
    ?loadValue, ?loadTime, ?loadRead, ?addValue, ?addReg, ?illegal, ?passWait, ?passStall, ?limit⟩
  case start =>
    intro s c v hhub hlo hc hentry hstart hstop hidle
    refine ⟨_, congrArg Host.Outcome.next (hub_of_on hhub _), ?_⟩
    dsimp only
    rw [Nat.mod_eq_of_lt hc, hoistCtrl_start hlo hentry hstart hstop hidle]
    obtain ⟨⟨hstate, hpc, hfault, hpace, hbit⟩, hchannel⟩ := hoistRun_shown (s := entrySet s c v) hc
    rw [entrySet_entry] at hpc
    rw [hchan_congr (entrySet_hoist s c v)] at hchannel
    exact ⟨hstate, hpc, hfault, hpace, hbit, hchannel,
      (RegsKept.trans (.setF (.refl _ s) _ (by simp)) (hoistRun_kept (entrySet s c v) c)).but⟩
  case restart =>
    intro s c v hhub hlo hc hentry hstart hstop hruns
    refine ⟨_, congrArg Host.Outcome.next (hub_of_on hhub _), ?_⟩
    dsimp only
    rw [Nat.mod_eq_of_lt hc, hoistCtrl_restart hlo hentry hstart hstop hruns]
    refine ⟨?_, ?_, ?_, ?_⟩
    · exact fv_ev_set (f := fHOIST_EVENT_CFG_IGNORED c) (by grind) (by grind) _
    · rw [hState, fv_ev_of_apart (by grind) (by grind), entrySet_status s c v rfl, hState]
    · rw [hPc, fv_ev_of_apart (by grind) (by grind), entrySet_status s c v rfl, hPc]
    · rw [State.ev_hoist, entrySet_hoist]
  case device =>
    intro s c v hhub hc
    refine ⟨_, congrArg Host.Outcome.next (hub_of_on hhub _), ?_⟩
    dsimp only
    rw [Nat.mod_eq_of_lt (by omega), hoistCtrl, if_pos hc]
    exact ⟨fv_ev_set (f := fHOIST_EVENT_CFG_IGNORED c) (by grind) (by grind) s, State.ev_hoist _ _,
      (RegsKept.ev (.refl _ s) (ButEvents.not_of_mem (by simp)) (ButEvents.not_irqReg _)).butEvents⟩
  case invalid =>
    intro s c v hhub hlo hc hentry
    refine ⟨_, congrArg Host.Outcome.next (hub_of_on hhub _), ?_⟩
    dsimp only
    rw [Nat.mod_eq_of_lt hc, hoistCtrl, if_neg (by omega), if_pos hentry]
    exact ⟨fv_ev_set (f := fHOIST_EVENT_CFG_INVALID c) (by grind) (by grind) s, State.ev_hoist _ _,
      (RegsKept.ev (.refl _ s) (ButEvents.not_of_mem (by simp)) (ButEvents.not_irqReg _)).butEvents⟩
  case stop =>
    intro s c v hhub hlo hc hentry hstart hstop hruns
    refine ⟨_, congrArg Host.Outcome.next (hub_of_on hhub _), ?_⟩
    dsimp only
    rw [Nat.mod_eq_of_lt hc, hoistCtrl_stop hlo hentry hstart hstop hruns, hoistHalt_eq, hchan_updHchan, hState_updHchan,
      hState_setHState (by decide), hchan_congr ((setHState_hoist _ c 1).trans (entrySet_hoist s c v))]
    exact ⟨rfl, rfl, rfl, rfl, rfl⟩
  case stopDone =>
    intro s c hhub hc hstop hops
    refine ⟨_, congrArg Host.Outcome.next (hub_of_on hhub _), ?_⟩
    dsimp only
    rw [Nat.mod_eq_of_lt hc, stopDone_of_stopped hstop hops]
    exact ⟨hState_setHState (by decide) s c, hchan_setHchan _ c _, ((RegsKept.refl _ s).setF _ (by simp)).but⟩
  case endSilent =>
    intro s c a b hhub h hirq
    refine ⟨_, congrArg Host.Outcome.next (hub_of_on hhub _), ?_⟩
    dsimp only
    rw [Nat.mod_eq_of_lt (hoistAt_lt h), hoistEnd_silent h hirq]
    exact ⟨hState_setHState (by decide) s c, hPc_setHState s c 4, ((RegsKept.refl _ s).setF _ (by simp)).but⟩
  case endTold =>
    intro s c a b hhub h hirq hdone
    refine ⟨_, congrArg Host.Outcome.next (hub_of_on hhub _), ?_⟩
    dsimp only
    rw [Nat.mod_eq_of_lt (hoistAt_lt h), hoistEnd_told h hirq hdone]
    refine ⟨hState_setHState (by decide) _ c, ?_, ?_⟩
    · rw [setHState, State.fv_setF_other (by grind)]
      exact fv_ev_set (f := fHOIST_EVENT_END_IRQ c) (by grind) (by grind) s
    · refine RegsKept.butEvents (.setF (.ev (.refl _ s) ?_ (ButEvents.not_irqReg _)) _ ?_) <;>
        exact ButEvents.not_of_mem (by simp)
  case move =>
    intro s c a b m hhub h hm hlen haligned hapart hsrc hdst hne
    refine ⟨_, congrArg Host.Outcome.next (hub_of_on hhub _), ?_⟩
    obtain ⟨hat, hshort⟩ := moveAt_eq hm hlen
    rw [Nat.mod_eq_of_lt (hoistAt_lt h), hoistMove_begins h hat hshort haligned hapart hsrc hdst hne]
    refine ⟨?_, ?_, ?_, rfl, ((RegsKept.refl _ s).setRn _ (by simp)).but⟩
    · rw [hchan_updHchan]
      rfl
    · rw [updHchan_rn, State.rn_setRn_same]
      rfl
    · rw [hPc_updHchan, hPc, State.fv_setRn_other (by grind), hPc]
  case moveOdd =>
    intro s c a b hhub h hx hodd
    refine ⟨_, congrArg Host.Outcome.next (hub_of_on hhub _), ?_⟩
    have hbad : moveMisaligned (moveAt s c a b) = true := by
      rw [moveAt_length hx]
      simp [moveMisaligned, hodd]
    dsimp only
    rw [Nat.mod_eq_of_lt (hoistAt_lt h), hoistMove_misaligned h hbad]
    refine ⟨haltChan_halted (hoistAt_lt h) (by decide) (hX_lt _ _ _) s, ?_, haltChan_mem _ _ _ _ _ _⟩
    rw [haltChan_hchan _ _ _ _ _ (by decide)]
    rfl
  case moveOver =>
    intro s c a b m hhub h hm hx haligned hover
    refine ⟨_, congrArg Host.Outcome.next (hub_of_on hhub _), ?_⟩
    have hdst : m.dst < 2 ^ 64 := by
      rw [hm]
      exact hX_lt _ _ _
    dsimp only
    rw [Nat.mod_eq_of_lt (hoistAt_lt h), hoistMove_overlaps h hx ((moveAt_length hx).trans hm.symm) haligned hover]
    exact ⟨haltChan_halted (hoistAt_lt h) (by decide) hdst s, haltChan_mem _ _ _ _ _ _⟩
  case loopAlways =>
    intro s c a b hhub h halways
    refine ⟨_, congrArg Host.Outcome.next (hub_of_on hhub _), ?_⟩
    dsimp only
    rw [Nat.mod_eq_of_lt (hoistAt_lt h), hoistLoop_always h halways]
    exact ⟨hPc_setPc (bitsOf_lt _ _ _) s c, ((RegsKept.refl _ s).setF _ (by simp)).but⟩
  case loopMore =>
    intro s c a b n hhub h hcount hx
    refine ⟨_, congrArg Host.Outcome.next (hub_of_on hhub _), ?_⟩
    have hlt := hX_lt s c (bitsOf a 4 3)
    have hn : loopCount s c a = n + 1 := by
      rw [loopCount, hx]
      omega
    dsimp only
    rw [Nat.mod_eq_of_lt (hoistAt_lt h), hoistLoop_counts h hcount, hn, loopRound_again (by omega)]
    obtain ⟨hreg, hpc⟩ := loopAgain_shown s c a (n + 1)
    exact ⟨hreg.trans (Nat.mod_eq_of_lt (by omega)), hpc⟩
  case loopWraps =>
    intro s c a b hhub h hcount hx
    refine ⟨_, congrArg Host.Outcome.next (hub_of_on hhub _), ?_⟩
    have hn : loopCount s c a = 2 ^ 64 - 1 := by
      rw [loopCount, hx]
      omega
    dsimp only
    rw [Nat.mod_eq_of_lt (hoistAt_lt h), hoistLoop_counts h hcount, hn, loopRound_again (by omega)]
    exact loopAgain_shown s c a (2 ^ 64 - 1)
  case loopLast =>
    intro s c a b hhub h hcount hx hsilent
    refine ⟨_, congrArg Host.Outcome.next (hub_of_on hhub _), ?_⟩
    have hn : loopCount s c a = 0 := by
      rw [loopCount, hx]
      omega
    dsimp only
    rw [Nat.mod_eq_of_lt (hoistAt_lt h), hoistLoop_counts h hcount, hn, loopRound_last hsilent]
    exact loaded_shown s c (bitsOf a 4 3) 0
  case waitPasses =>
    intro s c a b hhub h hkind htrue
    refine ⟨_, congrArg Host.Outcome.next (hub_of_on hhub _), ?_⟩
    dsimp only
    rw [Nat.mod_eq_of_lt (hoistAt_lt h), hoistWait_of_at h,
      waitJudged_unpaced (by rw [decide_eq_false (by omega), Bool.false_and]), waitNoted_true, if_pos htrue]
    obtain ⟨hpc, hstate, hhoist⟩ := waitPass_passed (waitNoted s c) c a
    refine ⟨by rw [hpc, waitNoted_hPc], hstate, ?_⟩
    rw [hchan_congr hhoist, waitNoted_hchan]
    rfl
  case waitWaits =>
    intro s c a b hhub h hkind hfalse
    refine ⟨_, congrArg Host.Outcome.next (hub_of_on hhub _), ?_⟩
    dsimp only
    rw [Nat.mod_eq_of_lt (hoistAt_lt h), hoistWait_of_at h,
      waitJudged_unpaced (by rw [decide_eq_false (by omega), Bool.false_and]), waitNoted_true, hfalse,
      if_neg Bool.false_ne_true]
    obtain ⟨hpc, hstate, _, hsince⟩ := waitBegun_waits (waitNoted s c) c
    exact ⟨by rw [hpc, waitNoted_hPc], hstate, by rw [hsince, waitNoted_now]⟩
  case waitPaces =>
    intro s c a b hhub h hkind hnew htrue
    refine ⟨_, congrArg Host.Outcome.next (hub_of_on hhub _), ?_⟩
    dsimp only
    rw [Nat.mod_eq_of_lt (hoistAt_lt h), hoistWait_of_at h,
      waitJudged_unpaced (by rw [waitNoted_pace_lost hnew, Bool.and_false]), waitNoted_true, if_pos htrue]
    obtain ⟨hpc, hstate, _⟩ := waitPass_passed (waitNoted s c) c a
    exact ⟨by rw [hpc, waitNoted_hPc], hstate, waitPass_pace hkind _ c⟩
  case paced =>
    intro s c a b hhub h hkind hlast hpace hover
    refine ⟨_, congrArg Host.Outcome.next (hub_of_on hhub _), ?_⟩
    have hpaced := (waitNoted_pace_kept hlast).trans hpace
    dsimp only
    rw [Nat.mod_eq_of_lt (hoistAt_lt h), hoistWait_of_at h, waitJudged_paced hkind hpaced, waitNoted_value, if_pos hover,
      hPc_hNext, waitNoted_hPc, pace_hNext]
    refine ⟨rfl, ?_⟩
    have hlt : (waitNoted s c).fv (fHOIST_STATUS_PACE c) < 2 := State.fv_lt _ (fHOIST_STATUS_PACE c)
    rw [State.on_eq, bne_iff_ne] at hpaced
    omega
  case paceLost =>
    intro s c a b hhub h hkind hlast hpace hover hfalse
    refine ⟨_, congrArg Host.Outcome.next (hub_of_on hhub _), ?_⟩
    have hpaced := (waitNoted_pace_kept hlast).trans hpace
    dsimp only
    rw [Nat.mod_eq_of_lt (hoistAt_lt h), hoistWait_of_at h, waitJudged_paced hkind hpaced, waitNoted_value, if_neg (by omega),
      waitNoted_true, hfalse, if_neg Bool.false_ne_true]
    obtain ⟨hpc, hstate, hlost, _⟩ := waitBegun_waits (setPace (waitNoted s c) c 0) c
    exact ⟨by rw [hpc, hPc_setPace, waitNoted_hPc], hstate, by rw [hlost, pace_setPace (by decide)]⟩
  case signal =>
    intro s c a b hhub h hstore hdone
    refine ⟨_, congrArg Host.Outcome.next (hub_of_on hhub _), ?_⟩
    dsimp only
    rw [Nat.mod_eq_of_lt (hoistAt_lt h), hoistSignal_event h hstore hdone]
    have hirq := hoistAt_signal h hstore
    obtain ⟨hpc, hevent, hmem⟩ := signalled_shown s c a
    refine ⟨hevent hirq, hpc, hmem, ?_⟩
    rw [signalled_told hirq]
    refine RegsKept.butEvents (hNext_kept (.ev (.refl _ s) ?_ (ButEvents.not_irqReg _)) ?_) <;>
      exact ButEvents.not_of_mem (by simp)
  case signalStore =>
    intro s c a b addr hhub h hstore hspace haddr heven huse hdone htag
    refine ⟨_, congrArg Host.Outcome.next (hub_of_on hhub _), ?_⟩
    subst haddr
    rw [Nat.mod_eq_of_lt (hoistAt_lt h), hoistSignal_stores h hstore hspace heven huse hdone htag]
    obtain ⟨hpc, hevent, hmem⟩ := signalled_shown (lpStored s c (signalOp s c a)) c a
    obtain ⟨hbytes, hrest⟩ := lpStored_bytes s c (signalOp s c a)
    rw [signalOp_addr, signalOp_data, length_leBytes] at hbytes hrest
    refine ⟨fun i hi => ?_, fun x hx => ?_, ?_, hevent⟩
    · rw [memByte_congr hmem]
      exact hbytes i hi
    · rw [memByte_congr hmem]
      exact hrest x hx
    · rw [hpc, lpStored_hPc]
  case signalOdd =>
    intro s c a b hhub h hstore hodd
    refine ⟨_, congrArg Host.Outcome.next (hub_of_on hhub _), ?_⟩
    dsimp only
    rw [Nat.mod_eq_of_lt (hoistAt_lt h), hoistSignal_misaligned h hstore hodd]
    exact ⟨haltChan_halted (hoistAt_lt h) (by decide) (hX_lt _ _ _) s, haltChan_mem _ _ _ _ _ _⟩
  case loadValue =>
    intro s c a b hhub h hkind
    refine ⟨_, congrArg Host.Outcome.next (hub_of_on hhub _), ?_⟩
    have hb : b < 2 ^ 64 := by
      obtain ⟨_, _, _, _, _, hb, _⟩ := h
      have hlo := s.rn_lt (rHOIST_INSTR c (4 * hPc s c + 2))
      have hhi := s.rn_lt (rHOIST_INSTR c (4 * hPc s c + 3))
      rw [← hb, instr1, State.pair]
      omega
    dsimp only
    rw [Nat.mod_eq_of_lt (hoistAt_lt h), hoistLoad_value h hkind]
    obtain ⟨hreg, hpc⟩ := loaded_shown s c (bitsOf a 4 3) b
    exact ⟨hreg.trans (Nat.mod_eq_of_lt hb), hpc, rfl⟩
  case loadTime =>
    intro s c a b hhub h hkind hitem
    refine ⟨_, congrArg Host.Outcome.next (hub_of_on hhub _), ?_⟩
    dsimp only
    rw [Nat.mod_eq_of_lt (hoistAt_lt h), hoistLoad_time h hkind hitem]
    exact loaded_shown s c (bitsOf a 4 3) s.dial
  case loadRead =>
    intro s c a b addr hhub h hkind hspace haddr heven huse hdone htag
    refine ⟨_, congrArg Host.Outcome.next (hub_of_on hhub _), ?_⟩
    subst haddr
    rw [Nat.mod_eq_of_lt (hoistAt_lt h), hoistLoad_reads h hkind hspace heven huse hdone htag, hchan_updHchan, addOp_hchan,
      hPc_updHchan, hPc_addOp, updHchan_nextTag, addOp_nextTag, updHchan_mem, addOp_mem]
    refine ⟨rfl, rfl, rfl, rfl, ?_⟩
    rw [loadBegun, opAdded, List.getLast?_concat, Option.map_some, opIssued, loadOp, hspace]
  case addValue =>
    intro s c a b hhub h hkind
    refine ⟨_, congrArg Host.Outcome.next (hub_of_on hhub _), ?_⟩
    dsimp only
    rw [Nat.mod_eq_of_lt (hoistAt_lt h), hoistAdd_of_at h, hkind, if_neg Bool.false_ne_true]
    obtain ⟨hreg, hpc⟩ := loaded_shown s c (bitsOf a 4 3) ((hX s c (bitsOf a 4 3) + b) % 2 ^ 64)
    exact ⟨hreg.trans (Nat.mod_mod _ _), hpc, (hNext_kept (setHX_kept (.refl _ s) _ (by simp) (by simp)) (by simp)).but⟩
  case addReg =>
    intro s c a b hhub h hkind
    refine ⟨_, congrArg Host.Outcome.next (hub_of_on hhub _), ?_⟩
    dsimp only
    rw [Nat.mod_eq_of_lt (hoistAt_lt h), hoistAdd_of_at h, hkind, if_pos rfl]
    obtain ⟨hreg, hpc⟩ := loaded_shown s c (bitsOf a 4 3) ((hX s c (bitsOf a 4 3) + hX s c (bitsOf a 7 3)) % 2 ^ 64)
    exact ⟨hreg.trans (Nat.mod_mod _ _), hpc⟩
  case illegal =>
    intro s c hhub hc hready hbad
    refine ⟨_, congrArg Host.Outcome.next (hub_of_on hhub _), ?_⟩
    dsimp only
    rw [Nat.mod_eq_of_lt hc, hoistIllegal_halts hready hbad]
    exact ⟨haltChan_halted hc (by decide) (by decide) s, haltChan_hPc _ _ _ _ _ (by decide) hc, haltChan_mem _ _ _ _ _ _⟩
  case passWait =>
    intro s c hhub hc hstate hruns hmove htrue
    refine ⟨_, congrArg Host.Outcome.next (hub_of_on hhub _), ?_⟩
    dsimp only
    rw [Nat.mod_eq_of_lt hc, hoistPass_wait hstate hruns hmove htrue]
    obtain ⟨hpc, hstate', _⟩ := waitPass_passed s c (instr0 s c)
    exact ⟨hpc, hstate'⟩
  case passStall =>
    intro s c m hhub hc hstate hruns hmove hstall hcredit
    refine ⟨_, congrArg Host.Outcome.next (hub_of_on hhub _), ?_⟩
    dsimp only
    rw [Nat.mod_eq_of_lt hc, hoistPass_stall hstate hruns hmove hstall hcredit, hState_updHchan, hState_setHState (by decide),
      hchan_updHchan, hPc_updHchan, hPc_setHState]
    exact ⟨rfl, rfl, rfl⟩
  case limit =>
    intro s c hhub hc hstate hlimit hlate
    refine ⟨_, congrArg Host.Outcome.next (hub_of_on hhub _), ?_⟩
    dsimp only
    rw [Nat.mod_eq_of_lt hc, hoistLimit_halts hstate hlimit hlate]
    exact haltChan_halted hc (by decide) (by decide) s

end Sys2Proof.Machine

namespace Sys2Proof.Machine

/-! ### Lists in pieces -/

theorem chunksAux_flatten {α : Type} {n k : Nat} (hn : 0 < n) (l : List α) (h : l.length ≤ k) : (chunksAux n k l).flatten = l := by
  induction k generalizing l with
  | zero =>
    have hnil : l = [] := List.length_eq_zero_iff.mp (by omega)
    rw [hnil]
    rfl
  | succ k ih =>
    cases l with
    | nil => rfl
    | cons x xs =>
      have hrest : ((x :: xs).drop n).length ≤ k := by
        rw [List.length_drop]
        omega
      rw [chunksAux, List.flatten_cons, ih _ hrest, List.take_append_drop]

/-- The pieces of a list make up the list. -/
theorem chunks_flatten {α : Type} {n : Nat} (hn : 0 < n) (l : List α) : (chunks n l).flatten = l :=
  chunksAux_flatten hn l le_rfl

theorem chunksAux_even {α : Type} {n j k : Nat} (hn : 0 < n) (l : List α) (hl : l.length = n * j) (h : l.length ≤ k) :
    (chunksAux n k l).length = j ∧ ∀ w ∈ chunksAux n k l, w.length = n := by
  induction k generalizing l j with
  | zero =>
    have hj : n * j = 0 := by omega
    obtain h0 | h0 := Nat.mul_eq_zero.mp hj
    · omega
    · exact ⟨h0.symm, by simp [chunksAux]⟩
  | succ k ih =>
    cases l with
    | nil =>
      obtain h0 | h0 := Nat.mul_eq_zero.mp (hl.symm.trans List.length_nil)
      · omega
      · exact ⟨h0.symm, by simp [chunksAux]⟩
    | cons x xs =>
      cases j with
      | zero => simp at hl
      | succ j =>
        rw [Nat.mul_succ] at hl
        have hdrop : ((x :: xs).drop n).length = n * j := by
          rw [List.length_drop]
          omega
        obtain ⟨hlen, hall⟩ := ih _ hdrop (by omega)
        refine ⟨congrArg (· + 1) hlen, fun w hw => ?_⟩
        obtain hw | hw := List.mem_cons.mp hw
        · rw [hw, List.length_take]
          omega
        · exact hall w hw

/-- A list of whole pieces is cut into pieces of the one length. -/
theorem chunks_even {α : Type} {n j : Nat} (hn : 0 < n) {l : List α} (hl : l.length = n * j) :
    (chunks n l).length = j ∧ ∀ w ∈ chunks n l, w.length = n := chunksAux_even hn l hl le_rfl

theorem leBytes_leNat (bs : List Byte) : leBytes bs.length (leNat bs) = bs := by
  induction bs with
  | nil => rfl
  | cons b bs ih =>
    have hb : b.toNat < 256 := b.isLt
    rw [leNat, List.length_cons, leBytes, show (b.toNat + 256 * leNat bs) / 256 = leNat bs by omega, ih]
    congr 1
    apply BitVec.eq_of_toNat_eq
    rw [BitVec.toNat_ofNat]
    omega

/-- The words of a byte string are its bytes. -/
theorem flatMap_words {j : Nat} {bs : List Byte} (h : bs.length = 8 * j) (p : Bool) :
    ((chunks 8 bs).map (fun w => (leNat w, p))).flatMap (fun w => leBytes 8 w.1) = bs := by
  have hwords : (chunks 8 bs).map (fun w => leBytes 8 (leNat w)) = (chunks 8 bs).map id :=
    List.map_congr_left fun w hw => by
      have hlen := (chunks_even (by decide) h).2 w hw
      rw [← hlen, leBytes_leNat, id]
  rw [List.flatMap_map, List.flatMap_def, hwords, List.map_id, chunks_flatten (by decide)]

/-! ### Bytes put into memory -/

theorem memPut_append (a : Nat) (l r : List Byte) (m : List Host.Cell) :
    memPut a (l ++ r) m = memPut (a + l.length) r (memPut a l m) := by
  induction l generalizing a m with
  | nil => rfl
  | cons b l ih => rw [List.cons_append, memPut, memPut, ih, List.length_cons, Nat.add_assoc, Nat.add_comm 1]

/-- Where memory is what a write leaves, exactly the written bytes are new. -/
theorem bytes_of_memPut {s t : State} {a : Nat} {bs : List Byte} (h : t.mem = memPut a bs s.mem) :
    (∀ i, i < bs.length → memByte t (a + i) = bs.getD i 0) ∧ SameMemBut s t a bs.length := by
  obtain ⟨hat, hother⟩ := memWrite_bytes s a bs false
  have hmem : t.mem = (memWrite s a bs false).mem := h
  exact ⟨fun i hi => (memByte_congr hmem _).trans (hat i hi), fun x hx => (memByte_congr hmem x).trans (hother x hx)⟩

/-! ### The arbiter and the beats of a MOVE (R332) -/

/-- Channel `c` has had its turn at `port`. -/
def turnTaken (s : State) (port c : Nat) : State := { s with hoist := { s.hoist with turn := kput port c s.hoist.turn } }

theorem turnTaken_turn (s : State) (port c : Nat) : kget port (turnTaken s port c).hoist.turn = some c := kget_kput_same _ _ _

theorem turnTaken_hchan (s : State) (port c i : Nat) : hchan (turnTaken s port c) i = hchan s i := rfl

theorem turnTaken_regs (s : State) (port c : Nat) : (turnTaken s port c).regs = s.regs := rfl

theorem turnTaken_mem (s : State) (port c : Nat) : (turnTaken s port c).mem = s.mem := rfl

theorem turnTaken_nextTag (s : State) (port c : Nat) : (turnTaken s port c).hoist.nextTag = s.hoist.nextTag := rfl

theorem turnTaken_ready (s : State) (port c i : Nat) (m : HoistMove) :
    writeReady (turnTaken s port c) i m = writeReady s i m := rfl

theorem grantOf_range {s : State} {port c : Nat} (h : grantOf s port = some c) : 192 ≤ c ∧ c < 256 := by
  have hmem : c ∈ (List.range 64).map (fun i => 192 + i) := by
    rw [grantOf] at h
    split at h
    next x hx =>
      obtain rfl : x = c := Option.some.inj h
      exact List.mem_of_mem_filter (List.mem_of_mem_filter (List.mem_of_find?_eq_some hx))
    next => exact List.mem_of_mem_filter (List.mem_of_mem_filter (List.mem_of_head? h))
  obtain ⟨i, hi, rfl⟩ := List.mem_map.mp hmem
  have := List.mem_range.mp hi
  omega

section
variable {s : State} {port c : Nat} {m : HoistMove} {errs : List LarderErr} (hgrant : grantOf s port = some c)
  (hmove : (hchan s c).move = some m)
include hgrant hmove

theorem hoistBeat_grants : hoistBeat s port errs =
    if writePort (moveDst m) = port && writeReady s c m then writeBeat (turnTaken s port c) c m errs
    else readBeat (turnTaken s port c) c m := by
  rw [hoistBeat, hgrant]
  show (match (hchan s c).move with
    | some m => if writePort (moveDst m) = port && writeReady (turnTaken s port c) c m then
        writeBeat (turnTaken s port c) c m errs else readBeat (turnTaken s port c) c m
    | none => turnTaken s port c) = _
  rw [hmove]
  rfl

theorem hoistBeat_reads (hport : writePort (moveDst m) ≠ port) : hoistBeat s port errs = readBeat (turnTaken s port c) c m := by
  rw [hoistBeat_grants hgrant hmove, if_neg (by simp [hport])]

theorem hoistBeat_writes (hport : writePort (moveDst m) = port) (hready : writeReady s c m = true) :
    hoistBeat s port errs = writeBeat (turnTaken s port c) c m errs := by
  rw [hoistBeat_grants hgrant hmove, if_pos (by simp [hport, hready])]
end

/-- The read of the next beat. -/
def beatOp (m : HoistMove) : HoistOp :=
  { tag := 0, kind := 0, space := moveSrc m, peer := movePeer m, addr := m.src + m.asked, len := 64, off := m.asked,
    attempts := 1 }

/-- The MOVE with one more beat asked for. -/
def beatAsked (m : HoistMove) : HoistMove := { m with asked := m.asked + 64 }

theorem readBeat_lp {m : HoistMove} (h : moveSrc m = 1) (s : State) (c : Nat) :
    readBeat s c m = addOp (updHchan s c (moveBegun (beatAsked m))) c (beatOp m) := issueOpRead_lp h _ c

/-- The MOVE with the beat at hand in its part. -/
def beatRead (m : HoistMove) : HoistMove :=
  { m with part := if m.part.isEmpty then beatWords m else m.part, staged := kdel m.written m.staged }

/-- The write of the beat at hand. -/
def partOp (m : HoistMove) : HoistOp :=
  { tag := 0, kind := 1, space := moveDst m, peer := movePeer m, addr := m.dst + m.written, len := 8 * m.part.length,
    off := m.written, attempts := 1, data := m.part.flatMap (fun w => leBytes 8 w.1), poison := m.part.any (fun w => w.2) }

/-- The MOVE without words at hand. -/
def partGone (m : HoistMove) : HoistMove := { m with part := [] }

/-- The beat at hand is written to a space that is not the Larder's. -/
def partWritten (s : State) (c : Nat) (m : HoistMove) : State :=
  let t := if m.part.any (fun w => w.2) then poisonBeat s c else s
  moved (issueOpWrite t c (partOp m)) c (partGone m) (8 * m.part.length)

theorem writeBeat_staged {m : HoistMove} (hsrc : moveSrc m ≠ 2) (hdst : moveDst m ≠ 2) (s : State) (c : Nat)
    (errs : List LarderErr) : writeBeat s c m errs = partWritten s c (beatRead m) := by
  rw [writeBeat, if_neg hsrc]
  show (if (moveSrc m = 2 && _ && _ && _ : Bool) then _ else if moveDst m = 2 then _ else _) = _
  rw [if_neg (by simp [hsrc]), if_neg hdst]
  rfl

section
variable {m : HoistMove} {bs : List Byte} (hpart : m.part = []) (hstaged : kget m.written m.staged = some bs)
  (hlen : bs.length = 64) (hclean : m.poisoned.contains m.written = false)
include hpart hstaged hlen hclean

/-- A staged beat is eight words. -/
theorem beatRead_part : (beatRead m).part.length = 8 ∧ (beatRead m).part.any (fun w => w.2) = false
    ∧ (beatRead m).part.flatMap (fun w => leBytes 8 w.1) = bs := by
  have h : (beatRead m).part = (chunks 8 bs).map (fun w => (leNat w, false)) := by
    rw [beatRead, hpart]
    show beatWords m = _
    rw [beatWords, hstaged, hclean]
  have height : bs.length = 8 * 8 := hlen
  rw [h, List.length_map, (chunks_even (by decide) height).1, flatMap_words height]
  exact ⟨rfl, by simp, rfl⟩

theorem partWritten_lp (hdst : moveDst m = 1) (s : State) (c : Nat) :
    partWritten s c (beatRead m) = moved (lpStored s c (partOp (beatRead m))) c (partGone (beatRead m)) 64 := by
  obtain ⟨hcount, hbad, _⟩ := beatRead_part hpart hstaged hlen hclean
  rw [partWritten, hbad, hcount, issueOpWrite_lp (o := partOp (beatRead m)) hdst]
  rfl
end

/-- The MOVE with `n` more bytes written. -/
def HoistMove.wrote (m : HoistMove) (n : Nat) : HoistMove := { m with written := m.written + n }

section
variable {m : HoistMove} {n : Nat} (s : State) (c : Nat)

theorem moved_goesOn (hopen : m.ended = false) (hmore : m.written + n < m.len) :
    moved s c m n = updHchan (s.setRn (rHOIST_MOVED c) (m.written + n)) c (moveBegun (m.wrote n)) := by
  refine if_neg ?_
  show ¬ (decide (m.len ≤ m.written + n) || (m.ended && m.part.isEmpty)) = true
  rw [hopen, decide_eq_false (by omega), Bool.false_and, Bool.false_or]
  exact Bool.false_ne_true

theorem moved_ends (hlast : m.written + n = m.len) :
    moved s c m n = moveEnd (s.setRn (rHOIST_MOVED c) (m.written + n)) c (m.wrote n) := by
  refine if_pos ?_
  show (decide (m.len ≤ m.written + n) || (m.ended && m.part.isEmpty)) = true
  rw [decide_eq_true (by omega), Bool.true_or]
end

/-- A channel that has ended its MOVE. -/
def moveGone (x : HChan) : HChan := { x with move := none }

theorem moveEnd_dst {m : HoistMove} (hsrc : bitAt m.w0 14 = false) (hdst : bitAt m.w0 15 = true) (s : State) (c : Nat) :
    moveEnd s c m = hNext (updHchan (setHX s c (bitsOf m.w0 11 3)
      ((hX s c (bitsOf m.w0 11 3) + ceilDiv m.written 64 * 64) % 2 ^ 64)) c moveGone) c := by
  rw [moveEnd]
  dsimp only
  rw [hsrc, hdst]
  rfl

end Sys2Proof.Machine

namespace Sys2Proof.Machine

/-! ### Completions of operations in LP5X memory (R333 to R335) -/

/-- The channel has its LOAD no longer. -/
def loadGone (x : HChan) : HChan := { x with load := none }

/-- A beat that a read has brought joins the MOVE. -/
def beatStaged (o : HoistOp) (bs : List Byte) (bad : Bool) (x : HChan) : HChan :=
  { x with move := x.move.map (fun m => { m with
      staged := kput o.off bs m.staged, poisoned := if bad then o.off :: m.poisoned else m.poisoned }) }

section
variable {s : State} {tag c : Nat} {o : HoistOp}

theorem readCompletion_lp (hop : opOf s tag = some (c, o)) (hread : isRead o = true) (hspace : o.space = 1) :
    readCompletion s tag = opData (freeOp s c o) c o (memRead s o.addr o.len) (memBad s o.addr o.len) := by
  have hdata : readData s o = some (memRead s o.addr o.len, memBad s o.addr o.len) := by
    rw [readData, hspace]
    rfl
  rw [readCompletion, hop]
  dsimp only
  rw [hread, Bool.not_true, if_neg Bool.false_ne_true, hdata]

theorem opData_load {d : Nat} (hkind : o.kind = 3) (hload : (hchan s c).load = some d) (bs : List Byte) (bad : Bool) :
    opData s c o bs bad = hNext (updHchan (setHX s c d (leNat bs)) c loadGone) c := by
  rw [opData, if_pos hkind, hload]
  rfl

theorem opData_beat (hkind : o.kind = 0) (bs : List Byte) (bad : Bool) :
    opData s c o bs bad = updHchan s c (beatStaged o bs bad) := by
  rw [opData, if_neg (by omega)]
  rfl

theorem writeAck_lp (hop : opOf s tag = some (c, o)) (hwrite : isRead o = false) (hspace : o.space = 1) :
    writeAck s tag = freeOp s c o := by
  rw [writeAck, hop]
  dsimp only
  rw [hwrite, hspace, if_pos (by simp)]

/-! ### Failures and retries (R334, R335) -/

/-- The channel with one more operation that waits for its retry. -/
def retryAdded (o : HoistOp) (x : HChan) : HChan := { x with retry := x.retry ++ [o] }

/-- The channel without the retry whose time has come. -/
def retryLeft (o : HoistOp) (x : HChan) : HChan := { x with retry := x.retry.filter (fun y => y.tag != o.tag) }

theorem retries_freeOp (hspace : o.space = 1) : retries (freeOp s c o) c = retries s c := by
  rw [retries, freeOp_fv hspace s c (f := fHOIST_CFG_RETRY c) (.inl (by grind)) (by grind), retries]

section
variable (hop : opOf s tag = some (c, o)) (hspace : o.space = 1) (hruns : hActive s c = true)
  (hstays : (hchan s c).stopping = false)
include hop hspace hruns hstays

theorem errorResponse_lp : errorResponse s tag =
    if retries s c < o.attempts then haltChan (freeOp s c o) c 0x0005 o.space o.addr o.attempts
    else updHchan (takeFree (freeOp s c o)).2 c (retryAdded { o with
      since := (freeOp s c o).now + 1000 + (takeFree (freeOp s c o)).1 % 1001 }) := by
  have hfailed : opFailed s o = true := by
    rw [opFailed, hspace]
    rfl
  have hstays' : (hchan (freeOp s c o) c).stopping = false := by rw [freeOp_hchan hspace]; exact hstays
  rw [errorResponse, hop]
  dsimp only
  rw [hfailed, hActive_freeOp hspace, hruns, hstays', Bool.not_true, Bool.or_false,
    if_neg Bool.false_ne_true, if_neg Bool.false_ne_true, retries_freeOp hspace]
  rfl
end

/-- What a retry counts and reports. -/
def retryTold (s : State) (c : Nat) : State :=
  ((s.bump (fHOIST_CNT_RETRIED c)).ev (fHOIST_EVENT_RETRIED c)).report 0x15 c 0x0010

theorem hoistRetry_lp (hop : retryOf s tag = some (c, o)) (hdue : o.since ≤ s.now) (htag : tagFree s c = true)
    (hspace : o.space = 1) (hread : isRead o = true) :
    hoistRetry s tag = addOp (retryTold (updHchan s c (retryLeft o)) c) c { o with attempts := o.attempts + 1 } := by
  have hread' : isRead { o with attempts := o.attempts + 1 } = true := hread
  rw [hoistRetry, hop]
  dsimp only
  rw [if_neg (by simp [htag, hspace, Nat.not_lt.mpr hdue]), if_pos hread']
  exact issueOpRead_lp (o := { o with attempts := o.attempts + 1 }) hspace _ c

theorem retryTold_hoist (s : State) (c : Nat) : (retryTold s c).hoist = s.hoist := by
  rw [retryTold, State.report_hoist, State.ev_hoist, State.bump_hoist]

theorem retryTold_mem (s : State) (c : Nat) : (retryTold s c).mem = s.mem := by
  rw [retryTold, State.report_mem, State.ev_mem, State.bump_mem]

theorem retryTold_shown (s : State) (c : Nat) :
    (retryTold s c).fv (fHOIST_CNT_RETRIED c) = satTo 0xFFFF (s.fv (fHOIST_CNT_RETRIED c) + 1)
      ∧ (retryTold s c).fv (fHOIST_EVENT_RETRIED c) = 1 := by
  rw [retryTold, report_fv, report_fv, fv_ev_of_apart (by grind) (by grind), fv_ev_set (by grind) (by grind),
    fv_bump_same (by grind)]
  exact ⟨rfl, rfl⟩

theorem completionTimeout_lp (hop : opOf s tag = some (c, o)) (hread : isRead o = true) (hspace : o.space = 1)
    (hlate : o.since + 1000000 ≤ s.now) (hruns : hActive s c = true) :
    completionTimeout s tag = haltChan (freeOp s c o) c 0x0006 o.space o.addr o.attempts := by
  have hout : readTimedOut s o = true := by
    rw [readTimedOut, hread, hspace, Bool.true_and]
    simp only [hlate, decide_true]
  rw [completionTimeout, hop]
  dsimp only
  rw [hout, Bool.not_true, if_neg Bool.false_ne_true, if_neg (show ¬ o.space = 0 by omega), hActive_freeOp hspace, hruns, if_pos rfl]

end

end Sys2Proof.Machine

namespace Sys2Proof.Machine

/-! ### Stream movers (R340) -/

@[simp] theorem moverOf_setMover (s : State) (st : Nat) (m : Mover) : moverOf (setMover s st m) st = m := by
  simp [moverOf, setMover, kgetD]

theorem moverOf_congr {s t : State} (h : t.hoist = s.hoist) (st : Nat) : moverOf t st = moverOf s st := by
  rw [moverOf, h, moverOf]

theorem setMover_mem (s : State) (st : Nat) (m : Mover) : (setMover s st m).mem = s.mem := rfl

theorem setMover_regs (s : State) (st : Nat) (m : Mover) : (setMover s st m).regs = s.regs := rfl

theorem packetWords_mem (n : Nat) (s : State) (st : Nat) (errs : List LarderErr) : (packetWords n s st errs).2.mem = s.mem :=
  (Keeps.of (keeps_packetWords n s st errs)).mem rfl

theorem packetWords_hoist (n : Nat) (s : State) (st : Nat) (errs : List LarderErr) :
    (packetWords n s st errs).2.hoist = s.hoist := (Keeps.of (keeps_packetWords n s st errs)).hoist rfl

/-! ### A group's words leave the registers below the Larder alone -/

theorem setGroupL_regs (s : State) (g : Nat) (x : LGroup) : (setGroupL s g x).regs = s.regs := rfl

theorem setQueueL_regs (s : State) (q : Nat) (x : LQueue) : (setQueueL s q x).regs = s.regs := rfl

theorem closePacket_regs (s : State) (g : Nat) : (closePacket s g).regs = s.regs := rfl

section
variable {P : Nat → Prop} (hP : Under 0x1000000 P)
include hP

theorem Under.offRetired : OffRetired P :=
  ⟨fun o ho => Under.not_irqReg hP o ho, Under.not_of_le hP (by decide), Under.not_of_le hP (by decide)⟩

variable {s t : State}

theorem poisonedWord_kept (h : RegsKept P s t) (g : Nat) : RegsKept P s (poisonedWord t g) :=
  .report (.ev (.bump h (Under.not_of_le hP (by decide))) (Under.not_of_le hP (by decide)) (Under.not_irqReg hP)) _ _ _ _

theorem breakQueue_kept (h : RegsKept P s t) (q : Nat) : RegsKept P s (breakQueue t q) := by
  have hctrl : ¬ P (rLQ_CTRL q) := Under.not_of_le hP (show 0x1000000 ≤ 0x102001c + 0x20 * q by omega)
  have hcut : RegsKept P s (if (groupOfL t (queueGroup t q)).opened == some q then
      setGroupL t (queueGroup t q) { groupOfL t (queueGroup t q) with cut := true } else t) :=
    .ite (fun _ => h.withRest) fun _ => h
  exact .report (.setF (.setF hcut.withRest _ hctrl) _ hctrl) _ _ _ _

theorem retireCell_kept (h : RegsKept P s t) (c : Nat) : RegsKept P s (retireCell t c) :=
  .ite (fun _ => h) fun _ => countRetired_kept (Under.offRetired hP) h.withRest

theorem ownerParity_kept (h : RegsKept P s t) (c : Nat) : RegsKept P s (ownerParity t c) := by
  refine .report (retireCell_kept hP (.ev (f := fLARDER_EVENT_OWNER_PARITY) (.bump (f := fLARDER_CNT_ERR_PARITY) h ?_) ?_
    (Under.not_irqReg hP)) c) _ _ _ _ <;> exact Under.not_of_le hP (by decide)
end

/-- The error of a read is counted and reported. -/
def wordMarked (s : State) (g : Nat) (w : LWord) : LarderErr → State
  | .corrected => ((s.bump fLARDER_CNT_ECC_CORR).ev fLARDER_EVENT_CORRECTED).report 0x14 g 0x0001
  | .uncorrectable _ _ =>
    { poisonedWord s g with larder := { (poisonedWord s g).larder with retire := w.cell :: (poisonedWord s g).larder.retire } }
  | _ => if w.poison then poisonedWord s g else s

/-- The word that a read delivers. -/
def wordRead (q : Nat) (w : LWord) : LarderErr → GWord
  | .uncorrectable d l => ⟨d % 2 ^ 64, l, true, false, q, w.tag⟩
  | _ => ⟨w.data, w.last, w.poison, false, q, w.tag⟩

/-- A parity error in the owner tag of a cell that came free. -/
def ownerChecked (s : State) (e : LarderErr) (freed : List Nat) : State :=
  match e, freed with
  | .owner, c :: _ => ownerParity s c
  | _, _ => s

/-- The group's state after the word `r`, the last words `ws` of queue `x` being left. -/
def wordGone (s : State) (g q : Nat) (x : LQueue) (ws : List LWord) (r : GWord) (e : LarderErr) : State :=
  let t := setQueueL s q { x with words := ws }
  let u := ownerChecked (giveBack t q) e (emptied (queueOfL t q))
  let u := setGroupL u g { groupOfL u g with lastWord := r.data }
  if r.last then closePacket (setQueueL u q { queueOfL u q with orders := (queueOfL u q).orders.drop 1 }) g else u

theorem deliver_passes {s : State} {g q : Nat} {w : LWord} {ws : List LWord} {e : LarderErr}
    (hcut : (groupOfL s g).cut = false) (hwords : (queueOfL s q).words = w :: ws) (hlink : e ≠ .link)
    (hdescr : e ≠ .descriptor) :
    deliver s g q e = (wordRead q w e, wordGone (wordMarked s g w e) g q (queueOfL s q) ws (wordRead q w e) e) := by
  rw [deliver, hcut, if_neg Bool.false_ne_true]
  simp only [hwords]
  rw [if_neg (by simp [hlink, hdescr])]
  cases e <;> first | contradiction | exact (apply_ite (Prod.mk _) _ _ _).symm

section
variable {P : Nat → Prop} (hP : Under 0x1000000 P)
include hP
variable {s t : State}

theorem wordMarked_kept (h : RegsKept P s t) (g : Nat) (w : LWord) (e : LarderErr) : RegsKept P s (wordMarked t g w e) := by
  have hplain : RegsKept P s (if w.poison then poisonedWord t g else t) := .ite (fun _ => poisonedWord_kept hP h g) fun _ => h
  cases e
  case corrected =>
    refine .report (.ev (f := fLARDER_EVENT_CORRECTED) (.bump (f := fLARDER_CNT_ECC_CORR) h ?_) ?_ (Under.not_irqReg hP)) _ _ _ _ <;>
      exact Under.not_of_le hP (by decide)
  case uncorrectable d l => exact (poisonedWord_kept hP h g).withRest
  all_goals exact hplain

theorem ownerChecked_kept (h : RegsKept P s t) (e : LarderErr) (freed : List Nat) : RegsKept P s (ownerChecked t e freed) := by
  unfold ownerChecked
  split
  · exact ownerParity_kept hP h _
  · exact h

theorem wordGone_kept (h : RegsKept P s t) (g q : Nat) (x : LQueue) (ws : List LWord) (r : GWord) (e : LarderErr) :
    RegsKept P s (wordGone t g q x ws r e) := by
  have hcredit : ¬ P (rLQ_CREDIT q) := Under.not_of_le hP (show 0x1000000 ≤ 0x1020008 + 0x20 * q by omega)
  have hback : RegsKept P s (ownerChecked (giveBack (setQueueL t q { x with words := ws }) q) e
      (emptied (queueOfL (setQueueL t q { x with words := ws }) q))) :=
    ownerChecked_kept hP (giveBack_kept (Under.offRetired hP) (h.regs (setQueueL_regs _ _ _)) hcredit) e _
  have hgroup := fun y => hback.regs (setGroupL_regs _ g y)
  exact .ite (fun _ => ((hgroup _).regs (setQueueL_regs _ _ _)).regs (closePacket_regs _ _)) fun _ => hgroup _

theorem deliver_kept (h : RegsKept P s t) (g q : Nat) (e : LarderErr) : RegsKept P s (deliver t g q e).2 := by
  by_cases hcut : (groupOfL t g).cut = true
  · rw [deliver, if_pos hcut]
    exact h.regs (closePacket_regs t g)
  · rw [Bool.not_eq_true] at hcut
    cases hwords : (queueOfL t q).words with
    | nil =>
      rw [deliver, hcut, if_neg Bool.false_ne_true]
      simp only [hwords]
      exact h.regs (closePacket_regs t g)
    | cons w ws =>
      by_cases hbroken : e = .link ∨ e = .descriptor
      · rw [deliver, hcut, if_neg Bool.false_ne_true]
        simp only [hwords]
        rw [if_pos (by simpa using hbroken)]
        refine (breakQueue_kept hP (.ite (fun _ => ?_) fun _ => h) q).regs (closePacket_regs _ g)
        refine .ev (f := fLARDER_EVENT_LINK_PARITY) (.bump (f := fLARDER_CNT_ERR_PARITY) h ?_) ?_ (Under.not_irqReg hP) <;>
          exact Under.not_of_le hP (by decide)
      · rw [deliver_passes hcut hwords (fun he => hbroken (.inl he)) fun he => hbroken (.inr he)]
        exact wordGone_kept hP (wordMarked_kept hP h g w e) g q _ ws _ e

theorem groupRead_kept (h : RegsKept P s t) (g : Nat) (e : LarderErr) : RegsKept P s (groupRead t g e).2 := by
  unfold groupRead
  split
  · exact deliver_kept hP h g _ e
  · split
    · exact deliver_kept hP (h.regs (setGroupL_regs _ g _)) g _ e
    · refine .report (.ev (f := fLARDER_EVENT_UNDERRUN) (.bump (f := fLARDER_CNT_FLOW_UNDERRUN)
        (.setF (f := fLARDER_G_STATUS_UNDERRUN g) h _ ?_) ?_) ?_ (Under.not_irqReg hP)) _ _ _ _
      · exact Under.not_of_le hP (show 0x1000000 ≤ 0x1004004 + 0x10 * g by omega)
      · exact Under.not_of_le hP (by decide)
      · exact Under.not_of_le hP (by decide)

theorem packetWords_kept (n : Nat) (h : RegsKept P s t) (st : Nat) (errs : List LarderErr) :
    RegsKept P s (packetWords n t st errs).2 := by
  induction n generalizing t errs with
  | zero => exact h
  | succ n ih =>
    unfold packetWords
    dsimp only
    split
    · exact groupRead_kept hP h st _
    · exact ih (groupRead_kept hP h st _) _
end

end Sys2Proof.Machine

namespace Sys2Proof.Machine

/-! ### Writes of a stream mover to a frame store (R336, R340) -/

theorem wordBytes_length (l : List GWord) : (wordBytes l).length = 8 * l.length := by
  induction l with
  | nil => rfl
  | cons w l ih =>
    have h : (wordBytes (w :: l)).length = 8 + (wordBytes l).length := by
      rw [wordBytes, List.flatMap_cons, List.length_append, length_leBytes, wordBytes]
    rw [h, ih, List.length_cons]
    omega

theorem wordBytes_append (l r : List GWord) : wordBytes (l ++ r) = wordBytes l ++ wordBytes r := List.flatMap_append

/-- The state before a beat of words is written. -/
def beatChecked (s : State) (st : Nat) (b : List GWord) : State := if anyPoison b then poisonBeat s st else s

/-- One beat of a mover's words. -/
def beatMoved (st seq : Nat) (d : Dest) (x : State × Nat) (b : List GWord) : State × Nat :=
  (moverWrite (beatChecked x.1 st b) st seq d x.2 (wordBytes b) (anyPoison b), x.2 + 8 * b.length)

theorem writeWords_takes {d : Dest} (h : d.takes = true) (s : State) (st seq addr : Nat) (l : List GWord) :
    writeWords s st seq d addr l = ((chunks 8 l).foldl (beatMoved st seq d) (s, addr)).1 := if_pos h

theorem beatChecked_mem (s : State) (st : Nat) (b : List GWord) : (beatChecked s st b).mem = s.mem := by
  rw [beatChecked]
  split
  · rw [poisonBeat, State.report_mem, State.ev_mem]
  · rfl

theorem beatMoved_mem (st seq buf base : Nat) (x : State × Nat) (b : List GWord) :
    (beatMoved st seq (.store buf base) x b).1.mem = memPut x.2 (wordBytes b) x.1.mem := by
  rw [beatMoved]
  dsimp only [moverWrite]
  rw [issueOpWrite_lp rfl, addOp_mem]
  show memPut x.2 (wordBytes b) (beatChecked x.1 st b).mem = _
  rw [beatChecked_mem]

theorem beatsMoved_mem (st seq buf base : Nat) (ls : List (List GWord)) (x : State × Nat) :
    (ls.foldl (beatMoved st seq (.store buf base)) x).1.mem = memPut x.2 (wordBytes ls.flatten) x.1.mem := by
  induction ls generalizing x with
  | nil => rfl
  | cons b ls ih =>
    rw [List.foldl_cons, ih, beatMoved_mem, List.flatten_cons, wordBytes_append, memPut_append, wordBytes_length]
    rfl

/-- Words written to a frame store are bytes put into memory. -/
theorem writeWords_store_mem (s : State) (st seq buf base addr : Nat) (l : List GWord) :
    (writeWords s st seq (.store buf base) addr l).mem = memPut addr (wordBytes l) s.mem := by
  rw [writeWords_takes rfl, beatsMoved_mem, chunks_flatten (by decide)]

theorem writeWords_none (s : State) (st seq addr : Nat) (l : List GWord) : writeWords s st seq .none addr l = s :=
  if_neg Bool.false_ne_true

/-! ### Packets (R340, R267) -/

section
variable {s : State} {st : Nat} {w : LWord} {ws : List LWord} {g : PktMeta} (hstate : hState s st = 1)
  (hfull : groupEmpty s st = false) (hwords : (queueOfL s st).words = w :: ws) (htag : w.tag = some g)
include hstate hfull hwords htag

/-- A packet of a frame goes to the frame's destination. -/
theorem moverPacket_frame {q : MoverNeed} (hkind : g.kind ≠ 2) (hneed : moverNeed s st g.frame = some q) (desc : HostData)
    (errs : List LarderErr) :
    moverPacket s st desc errs = withDest s st g.frame q desc (fun s =>
      if g.kind = 0 then moveSlice s st q g errs else moveFull s st q g errs) := by
  rw [moverPacket, if_neg (by simp [hstate, hfull]), hwords]
  simp only [List.head?_cons, Option.bind_some, htag]
  rw [if_neg hkind, hneed]

/-- A statistics packet without a buffer is read and goes nowhere. -/
theorem moverPacket_unbuffered (hkind : g.kind = 2) (hring : ringReady s st = none) (desc : HostData) (errs : List LarderErr) :
    moverPacket s st desc errs = moveStats (atFrame (noBuffer s st) st g.frame .none) st errs := by
  have htake : takeRing s st (statsBytes s st) 0 desc = (.none, noBuffer s st) := by
    unfold takeRing
    rw [hring]
  rw [moverPacket, if_neg (by simp [hstate, hfull]), hwords]
  simp only [List.head?_cons, Option.bind_some, htag]
  rw [if_pos hkind, htake]
  dsimp only
  rw [moverGuard, chooseUse]
  dsimp only
  rw [hring]
  rfl
end

/-- A packet of the frame that the mover is at goes to the store that the frame has. -/
theorem withDest_store {s : State} {st : Nat} {n : Int} {q : MoverNeed} {buf b : Nat} (hframe : (moverOf s st).frame = some n)
    (hdest : (moverOf s st).dest = .store buf b) (huse : lpUse s b 64 = .fine) (desc : HostData) (f : State → State) :
    withDest s st n q desc f = f s := by
  rw [withDest, if_pos hframe, hdest, moverGuard, destUse, huse]
  rfl

/-- A slice's checksum is judged. -/
def sliceJudged (s : State) (st : Nat) (bad : Bool) : State := if bad then s.report 0x11 (st / 4) 0x0111 else s

theorem sliceJudged_mem (s : State) (st : Nat) (bad : Bool) : (sliceJudged s st bad).mem = s.mem := by
  cases bad <;> rfl

/-- A slice of one line goes to its place in the store. -/
theorem moveSlice_store {s u : State} {st : Nat} {q : MoverNeed} {g : PktMeta} {errs : List LarderErr} {buf b a n : Nat}
    {w : LWord} {ws : List LWord} {words l rest : List GWord} (hwords : (queueOfL s st).words = w :: ws)
    (hdest : (moverOf s st).dest = .store buf b) (hpacket : packetWords (ws.length + 2) s st errs = (words, u))
    (hcut : cutLines (linePlaces q st b g.lines) words = ([(a, n, l)], rest)) :
    ∃ bad m, moveSlice s st q g errs =
        setMover (sliceJudged (writeWords u st (moverOf s st).seq (.store buf b) a l) st bad) st m
      ∧ m.slices = (moverOf s st).slices + 1 ∧ m.bytes = (moverOf s st).bytes + 8 * l.length := by
  rw [moveSlice, hwords, List.length_cons, hpacket]
  dsimp only
  rw [hdest]
  dsimp only [Dest.base]
  simp only [hcut]
  exact ⟨_, _, rfl, rfl, rfl⟩

/-! ### The full hallmark (R340) -/

theorem length_padTo (n : Nat) (bs : List Byte) : (padTo n bs).length = n := by
  rw [padTo, List.length_append, List.length_take, List.length_replicate]
  omega

theorem length_patchBytes {bs new : List Byte} {off : Nat} (h : off + new.length ≤ bs.length) :
    (patchBytes bs off new).length = bs.length := by
  rw [patchBytes, List.length_append, List.length_append, List.length_take, List.length_drop]
  omega

theorem length_signed {h : List Byte} (hlen : h.length = 64) (s : State) : (signed s h).length = 64 := by
  unfold signed
  split
  · rw [length_patchBytes (by rw [List.length_map, List.length_range, hlen]), hlen]
  · rw [length_patchBytes (by rw [length_leBytes, hlen]), hlen]

/-- The words of a byte string of 64 bytes, as a mover writes them. -/
def hallmarkWords (h : List Byte) (p : Bool) (st : Nat) : List GWord :=
  (chunks 8 h).map (fun b => ⟨leNat b, false, p, false, st, none⟩)

theorem hallmarkWords_bytes {h : List Byte} (hlen : h.length = 64) (p : Bool) (st : Nat) :
    (wordBytes (hallmarkWords h p st)).length = 64 := by
  rw [wordBytes_length, hallmarkWords, List.length_map, (chunks_even (j := 8) (by decide) hlen).1]

/-- The mover goes on to the next frame, with what it has done so far and one frame more. -/
def frameMoved (m : Mover) (d : MoverDone) : Mover := { seq := m.seq + 1, done := m.done ++ [d] }

/-- The full hallmark of a frame ends the frame's record in its store. -/
theorem moveFull_store {s : State} {st : Nat} {q : MoverNeed} {g : PktMeta} {errs : List LarderErr} {buf b : Nat}
    (hdest : (moverOf s st).dest = .store buf b) :
    ∃ bs p d, moveFull s st q g errs =
        setMover (setMover (writeWords (packetWords ((queueOfL s st).words.length + 1) s st errs).2 st (moverOf s st).seq
          (.store buf b) (b + fsPitch q.rd (st / 4) (st % 4) - 64) (hallmarkWords bs p st)) st
          { seq := (moverOf s st).seq + 1, done := (moverOf s st).done }) st (frameMoved (moverOf s st) d)
      ∧ bs.length = 64 ∧ d.frame = g.frame ∧ d.dest = .store buf b := by
  rw [moveFull]
  dsimp only
  rw [hdest]
  dsimp only
  rw [if_neg (by simp), moverOf_setMover]
  refine ⟨_, _, _, rfl, ?_, rfl, rfl⟩
  refine length_signed ?_ _
  have hpad := length_padTo 64 (wordBytes (packetWords ((queueOfL s st).words.length + 1) s st errs).1)
  rw [length_patchBytes, length_patchBytes, hpad]
  · rw [length_leBytes, hpad]
    decide
  · rw [length_patchBytes, hpad, length_leBytes]
    · decide
    · rw [length_leBytes, hpad]
      decide

/-! ### Statistics without a buffer (R267, R367) -/

theorem moveStats_none {s : State} {st : Nat} {errs : List LarderErr} (hdest : (moverOf s st).dest = .none) :
    ∃ bad, moveStats s st errs =
      setMover (State.reportIf (packetWords ((queueOfL s st).words.length + 1) s st errs).2 bad 0x11 (st - 0xA0) 0x0112) st
        { seq := (moverOf s st).seq + 1, done := (moverOf s st).done } := by
  rw [moveStats]
  dsimp only
  rw [hdest]
  simp only [writeWords_none, if_true]
  exact ⟨_, rfl⟩

end Sys2Proof.Machine

namespace Sys2Proof.Machine

/-! ### Delivery (R191, R240, R267) -/

@[simp] theorem storeOf_setStore (s : State) (st : Nat) (x : FsStore) : storeOf (setStore s st x) st = x := by
  simp [storeOf, setStore, kgetD]

theorem storeOf_congr {s t : State} (h : t.fstore = s.fstore) (st : Nat) : storeOf t st = storeOf s st := by
  rw [storeOf, h, storeOf]

/-- A frame that has been delivered is no longer to be delivered. -/
def doneLeft (s : State) (st : Nat) (d : MoverDone) : State :=
  setMover s st { moverOf s st with done := (moverOf s st).done.filter (fun x => x.seq != d.seq) }

theorem doneLeft_moverOf (s : State) (st : Nat) (d : MoverDone) :
    (moverOf (doneLeft s st d) st).done = (moverOf s st).done.filter (fun x => x.seq != d.seq) := by
  rw [doneLeft, moverOf_setMover]

theorem frameDelivered_of_acked {s : State} {st : Nat} {d : MoverDone} {rest : List MoverDone}
    (hdone : (moverOf s st).done = d :: rest) (hruns : hActive s st = true) (hacked : moverAcked s st d.seq = true) :
    frameDelivered s st = deliverDone s st d := by
  rw [frameDelivered, hdone]
  dsimp only
  rw [hruns, hacked]
  rfl

/-- The entry of a statistics packet on its completion ring. -/
def statsEntry (s : State) (st : Nat) (d : MoverDone) : State :=
  streamEntry (doneLeft s st d) d.dest 2 0 d.fsn d.fs d.bytes d.slices d.flags

theorem deliverDone_stats {s : State} {st k base hm buf : Nat} {irq : Bool} {d : MoverDone} (hkind : d.kind = 2)
    (hdest : d.dest = .host k base hm buf irq false) :
    deliverDone s st d = (statsEntry s st d).setRn (rSTATS_FSN (st - 0xA0)) d.fsn := by
  rw [deliverDone, statsEntry, hdest]
  dsimp only
  rw [if_pos hkind]
  rfl

theorem statsEntry_hoist (s : State) (st : Nat) (d : MoverDone) : (statsEntry s st d).hoist = (doneLeft s st d).hoist :=
  (Keeps.of (keeps_streamEntry (doneLeft s st d) d.dest 2 0 d.fsn d.fs d.bytes d.slices d.flags)).hoist rfl

/-- The store writes the buffer no longer. -/
def storeWritten (s : State) (st buf : Nat) : State :=
  if s.fv (fOUT_FS_STATE_WRITING (st / 4) (st % 4)) = buf && (moverOf s st).frame.isNone then
    s.setF (fOUT_FS_STATE_WRITING (st / 4) (st % 4)) 7 else s

theorem storeWritten_cases (s : State) (st buf : Nat) :
    storeWritten s st buf = s.setF (fOUT_FS_STATE_WRITING (st / 4) (st % 4)) 7 ∨ storeWritten s st buf = s := ite_eq_or_eq _ _ _

theorem storeWritten_parts (s : State) (st buf : Nat) :
    (storeWritten s st buf).fstore = s.fstore ∧ (storeWritten s st buf).hoist = s.hoist ∧ (storeWritten s st buf).pipe = s.pipe := by
  obtain h | h := storeWritten_cases s st buf <;> rw [h]
  · exact ⟨rfl, rfl, rfl⟩
  · exact ⟨rfl, rfl, rfl⟩

theorem actCfg_setF {f : Fld} (h : f.off < 0x220000 ∨ 0x224000 ≤ f.off) (s : State) (v : Nat) : actCfg (s.setF f v) = actCfg s := by
  funext o
  unfold actCfg
  split
  next hport =>
    refine rn_setF_other (fun ho => ?_)
    simp only [Bool.and_eq_true, decide_eq_true_eq] at hport
    omega
  next => rfl

theorem actCfg_storeWritten (s : State) (st buf : Nat) : actCfg (storeWritten s st buf) = actCfg s := by
  obtain h | h := storeWritten_cases s st buf
  · rw [h, actCfg_setF]
    right
    show 0x224000 ≤ rOUT_FS_STATE (st / 4) (st % 4)
    simp only [rOUT_FS_STATE]
    omega
  · rw [h]

/-- The newest frame that a store holds. -/
def newestOf (st buf base : Nat) (d : MoverDone) (f : Frame) : Latch :=
  { stream := st, buf := buf, base := base, fs := d.fs, fsn := d.fsn, cfg := f.cfg }

/-- The store holds a newest frame. -/
def newestSet (s : State) (st buf : Nat) (l : Latch) : State :=
  (setStore s st { storeOf s st with newest := some l }).setF (fOUT_FS_STATE_NEWEST_GOOD (st / 4) (st % 4)) buf

theorem storeDone_good {s : State} {st buf base : Nat} {d : MoverDone} {f : Frame} (hframe : frameOf s (st / 4) d.frame = some f)
    (hgood : goodFlags d.flags = true)
    (hlayout : storeLayout f.rd (st / 4) (st % 4) = storeLayout (actCfg s) (st / 4) (st % 4)) :
    storeDone s st d buf base = newestSet (storeWritten s st buf) st buf (newestOf st buf base d f) := by
  have hframe' : frameOf (storeWritten s st buf) (st / 4) d.frame = some f := by
    rw [← hframe, frameOf, pipeOf, (storeWritten_parts s st buf).2.2, frameOf, pipeOf]
  show (match frameOf (storeWritten s st buf) (st / 4) d.frame with
    | some f => if goodFlags d.flags && storeLayout f.rd (st / 4) (st % 4) ==
        storeLayout (actCfg (storeWritten s st buf)) (st / 4) (st % 4) then
        newestSet (storeWritten s st buf) st buf (newestOf st buf base d f) else storeWritten s st buf
    | none => storeWritten s st buf) = _
  rw [hframe', actCfg_storeWritten, hgood]
  dsimp only
  rw [hlayout, Bool.true_and, beq_self_eq_true, if_pos rfl]

theorem storeDone_bad {s : State} {st : Nat} {d : MoverDone} (hbad : goodFlags d.flags = false) (buf base : Nat) :
    storeDone s st d buf base = storeWritten s st buf := by
  show (match frameOf (storeWritten s st buf) (st / 4) d.frame with
    | some f => if goodFlags d.flags && storeLayout f.rd (st / 4) (st % 4) ==
        storeLayout (actCfg (storeWritten s st buf)) (st / 4) (st % 4) then
        newestSet (storeWritten s st buf) st buf (newestOf st buf base d f) else storeWritten s st buf
    | none => storeWritten s st buf) = _
  rw [hbad]
  split <;> rfl

theorem deliverDone_store {s : State} {st buf b : Nat} {d : MoverDone} (hst : st < 128) (hkind : d.kind = 1)
    (hdest : d.dest = .store buf b) :
    deliverDone s st d = frameGone (viewDone (storeDone (doneLeft s st d) st d buf b) st d) st d.frame := by
  rw [deliverDone, hdest]
  dsimp only
  rw [if_neg (by omega), if_neg (show ¬ (Dest.store buf b).small = true from Bool.false_ne_true), if_pos hst]
  rfl

/-- What follows the end of a frame's record reaches neither the stores nor the Hoist. -/
theorem viewGone_parts (s : State) (st : Nat) (d : MoverDone) :
    (frameGone (viewDone s st d) st d.frame).fstore = s.fstore ∧ (frameGone (viewDone s st d) st d.frame).hoist = s.hoist :=
  ⟨((Keeps.of (keeps_frameGone (viewDone s st d) st d.frame)).fstore rfl).trans ((Keeps.of (keeps_viewDone s st d)).fstore rfl),
    ((Keeps.of (keeps_frameGone (viewDone s st d) st d.frame)).hoist rfl).trans ((Keeps.of (keeps_viewDone s st d)).hoist rfl)⟩

theorem newestSet_parts (s : State) (st buf : Nat) (l : Latch) :
    storeOf (newestSet s st buf l) st = { storeOf s st with newest := some l } ∧ (newestSet s st buf l).hoist = s.hoist := by
  constructor
  · rw [newestSet, storeOf_congr (State.setF_fstore _ _ _), storeOf_setStore]
  · rw [newestSet, State.setF_hoist]
    rfl

end Sys2Proof.Machine

namespace Sys2Proof.Machine

theorem partOp_data (m : HoistMove) : (partOp m).data = m.part.flatMap (fun w => leBytes 8 w.1) := rfl

theorem partOp_addr (m : HoistMove) : (partOp (beatRead m)).addr = m.dst + m.written := rfl

/-- The X registers of a channel lie apart from STATUS and TAGS. -/
theorem xReg_apart {c i : Nat} (hi : i < 8) :
    rHOIST_X c (2 * i) ∉ [rHOIST_STATUS c, rHOISTG_TAGS] ∧ rHOIST_X c (2 * i + 1) ∉ [rHOIST_STATUS c, rHOISTG_TAGS] := by
  simp only [List.mem_cons, List.not_mem_nil, or_false, not_or, rHOIST_X, rHOIST_STATUS, rHOISTG_TAGS]
  omega

theorem hX_lpStored {c i : Nat} (hi : i < 8) (s : State) (o : HoistOp) : hX (lpStored s c o) c i = hX s c i := by
  obtain ⟨hlo, hhi⟩ := xReg_apart hi
  have hkept : RegsKept (· ∉ [rHOIST_STATUS c, rHOISTG_TAGS]) (memWrite s o.addr o.data o.poison) (lpStored s c o) :=
    addOp_kept (.refl _ _) (by simp) (by simp) o
  exact hX_of_kept hkept hlo hhi

/-- A beat that has been read is put into memory at its place, and changes neither the instruction nor an X register. -/
theorem beatWritten_shown {m : HoistMove} {bs : List Byte} (hpart : m.part = []) (hstaged : kget m.written m.staged = some bs)
    (hlen : bs.length = 64) (hclean : m.poisoned.contains m.written = false) (s : State) (port c : Nat) :
    (lpStored (turnTaken s port c) c (partOp (beatRead m))).mem = memPut (m.dst + m.written) bs s.mem
      ∧ hPc (lpStored (turnTaken s port c) c (partOp (beatRead m))) c = hPc s c
      ∧ ∀ i, i < 8 → hX (lpStored (turnTaken s port c) c (partOp (beatRead m))) c i = hX s c i := by
  refine ⟨?_, ?_, fun i hi => ?_⟩
  · rw [lpStored_mem]
    show memPut (partOp (beatRead m)).addr (partOp (beatRead m)).data s.mem = _
    rw [partOp_data, (beatRead_part hpart hstaged hlen hclean).2.2, partOp_addr]
  · rw [lpStored_hPc]
    rfl
  · rw [hX_lpStored hi]
    rfl

/-- The state of a channel whose MOVE goes on after a beat. -/
theorem beatGoesOn_shown {u : State} {c n : Nat} {m : HoistMove} (hn : n < 2 ^ 32) :
    (updHchan (u.setRn (rHOIST_MOVED c) n) c (moveBegun m)).rn (rHOIST_MOVED c) = n
      ∧ (hchan (updHchan (u.setRn (rHOIST_MOVED c) n) c (moveBegun m)) c).move = some m
      ∧ hPc (updHchan (u.setRn (rHOIST_MOVED c) n) c (moveBegun m)) c = hPc u c := by
  rw [updHchan_rn, State.rn_setRn_same, Nat.mod_eq_of_lt hn, hchan_updHchan, hPc_updHchan, hPc, State.fv_setRn_other (by grind),
    hPc]
  exact ⟨rfl, rfl, rfl⟩

theorem setHX_mem (s : State) (c i v : Nat) : (setHX s c i v).mem = s.mem := State.setPair_mem _ _ _ _

theorem hNext_mem (s : State) (c : Nat) : (hNext s c).mem = s.mem := State.setF_mem _ _ _

theorem hNext_hoist (s : State) (c : Nat) : (hNext s c).hoist = s.hoist := State.setF_hoist _ _ _

/-- The state of a channel whose MOVE ends with its destination moved on. -/
def moveEnded (u : State) (c n d x : Nat) : State :=
  hNext (updHchan (setHX (u.setRn (rHOIST_MOVED c) n) c d (x % 2 ^ 64)) c moveGone) c

theorem moveEnded_shown {u : State} {c n d x : Nat} (hn : n < 2 ^ 32) :
    (moveEnded u c n d x).rn (rHOIST_MOVED c) = n ∧ (hchan (moveEnded u c n d x) c).move = none
      ∧ hPc (moveEnded u c n d x) c = (hPc u c + 1) % 48 ∧ hX (moveEnded u c n d x) c d = x % 2 ^ 64 := by
  rw [moveEnded, hPc_hNext, hPc_updHchan, hPc_setHX, hX_hNext, hX_updHchan, hX_setHX_mod]
  refine ⟨?_, ?_, ?_, rfl⟩
  · rw [hNext, rn_setF_other (by grind), updHchan_rn, setHX, State.rn_setPair_other (by grind) (by grind), State.rn_setRn_same,
      Nat.mod_eq_of_lt hn]
  · rw [hchan_congr (hNext_hoist _ c), hchan_updHchan]
    rfl
  · rw [hPc, State.fv_setRn_other (by grind), hPc]

theorem partGone_written (m : HoistMove) : (partGone (beatRead m)).written = m.written := rfl

/-- The last beat of a MOVE of whole beats ends it, its destination moved on by its length. -/
theorem moveEnd_last {m : HoistMove} (hlast : m.written + 64 = m.len) (hwhole : m.len % 64 = 0) (hkeep : bitAt m.w0 14 = false)
    (hinc : bitAt m.w0 15 = true) (u : State) (c : Nat) :
    moveEnd (u.setRn (rHOIST_MOVED c) ((partGone (beatRead m)).written + 64)) c ((partGone (beatRead m)).wrote 64) =
      moveEnded u c m.len (bitsOf m.w0 11 3) (hX u c (bitsOf m.w0 11 3) + m.len) := by
  have hceil : ceilDiv m.len 64 * 64 = m.len := by
    rw [ceilDiv, if_neg (by decide)]
    omega
  have hreg : hX (u.setRn (rHOIST_MOVED c) m.len) c (bitsOf m.w0 11 3) = hX u c (bitsOf m.w0 11 3) := by
    rw [hX, State.pair, State.rn_setRn_other (by grind), State.rn_setRn_other (by grind), hX, State.pair]
  rw [moveEnd_dst (m := (partGone (beatRead m)).wrote 64) hkeep hinc, partGone_written, hlast, moveEnded]
  show hNext (updHchan (setHX _ c (bitsOf m.w0 11 3) ((hX _ c (bitsOf m.w0 11 3) + ceilDiv (m.written + 64) 64 * 64) % 2 ^ 64))
    c moveGone) c = _
  rw [hlast, hceil, hreg]

theorem moveEnded_mem (u : State) (c n d x : Nat) : (moveEnded u c n d x).mem = u.mem := by
  rw [moveEnded, hNext_mem, updHchan_mem, setHX_mem, State.setRn_mem]

theorem beatGoesOn_mem (u : State) (c n : Nat) (g : HChan → HChan) : (updHchan (u.setRn (rHOIST_MOVED c) n) c g).mem = u.mem := by
  rw [updHchan_mem, State.setRn_mem]

theorem takeFree_parts (s : State) : (takeFree s).2.hoist = s.hoist ∧ (takeFree s).2.regs = s.regs := ⟨rfl, rfl⟩

theorem setHX_hoist (s : State) (c i v : Nat) : (setHX s c i v).hoist = s.hoist := State.setPair_hoist _ _ _ _

theorem freeOp_now {o : HoistOp} (h : o.space = 1) (s : State) (c : Nat) : (freeOp s c o).now = s.now := by
  rw [freeOp_lp h]
  exact (Keeps.of (keeps_countTags (updHchan s c (opLeft o)) c)).now

theorem atFrame_moverOf (s : State) (st : Nat) (n : Int) (d : Dest) :
    moverOf (atFrame s st n d) st = { seq := (moverOf s st).seq, done := (moverOf s st).done, frame := some n, dest := d } :=
  moverOf_setMover _ _ _

theorem atFrame_regs (s : State) (st : Nat) (n : Int) (d : Dest) : (atFrame s st n d).regs = s.regs := rfl

theorem atFrame_mem (s : State) (st : Nat) (n : Int) (d : Dest) : (atFrame s st n d).mem = s.mem := rfl

theorem reportIf_mem (s : State) (b : Bool) (c i k d : Nat) : (s.reportIf b c i k d).mem = s.mem := by cases b <;> rfl

theorem noBuffer_parts (s : State) (st : Nat) : (noBuffer s st).mem = s.mem ∧ (noBuffer s st).hoist = s.hoist :=
  ⟨(Keeps.of (keeps_noBuffer s st)).mem rfl, (Keeps.of (keeps_noBuffer s st)).hoist rfl⟩

theorem noBuffer_told (s : State) (st : Nat) : (noBuffer s st).fv fRING_EVENT_NO_BUFFER = 1 :=
  fv_ev_set (f := fRING_EVENT_NO_BUFFER) (by decide) (by decide) _

/-- Settles O30: beats, completions, retries and the packets and deliveries of the movers, each by its equation. -/
theorem hoistBeatsAndMovers : Obligations.HoistBeatsAndMovers := by
  refine ⟨?read, ?write, ?writeLast, ?idle, ?load, ?staged, ?ack, ?retryLater, ?gaveUp, ?retry, ?timeout, ?slice, ?full, ?stats,
    ?noPacket, ?statsDelivered, ?good, ?bad⟩
  case read =>
    intro s port errs c m hhub hport hgrant hmove hdst hlp hsrc
    refine ⟨_, congrArg Host.Outcome.next (hub_of_on hhub _), ?_⟩
    dsimp only
    rw [Nat.mod_eq_of_lt hport, hoistBeat_reads hgrant hmove hdst, readBeat_lp hsrc, addOp_hchan, addOp_turn, addOp_mem,
      addOp_nextTag, hchan_updHchan]
    refine ⟨rfl, turnTaken_turn s port c, rfl, rfl, ?_⟩
    rw [opAdded, List.getLast?_concat, Option.map_some, opIssued, beatOp, hsrc]
  case write =>
    intro s errs c m bs hhub hgrant hmove hdst hsrc hready hpart hstaged hlen hclean hopen hmore hshort
    refine ⟨_, congrArg Host.Outcome.next (hub_of_on hhub _), ?_⟩
    dsimp only
    have hport : writePort (moveDst m) = 2 := by rw [hdst]; rfl
    have hn : m.written + 64 < 2 ^ 32 := by omega
    rw [hoistBeat_writes hgrant hmove hport hready, writeBeat_staged hsrc (by omega), partWritten_lp hpart hstaged hlen hclean hdst,
      moved_goesOn (m := partGone (beatRead m)) _ _ hopen hmore, partGone_written]
    obtain ⟨hmem, hpc, _⟩ := beatWritten_shown hpart hstaged hlen hclean s 2 c
    generalize lpStored (turnTaken s 2 c) c (partOp (beatRead m)) = u at hmem hpc ⊢
    obtain ⟨hmoved, hchannel, hpc'⟩ := beatGoesOn_shown (u := u) (c := c) (m := (partGone (beatRead m)).wrote 64) hn
    have hput := bytes_of_memPut ((beatGoesOn_mem u c (m.written + 64) (moveBegun ((partGone (beatRead m)).wrote 64))).trans hmem)
    rw [hlen] at hput
    refine ⟨hput.1, hput.2, hmoved, ?_, hpc'.trans hpc⟩
    rw [hchannel]
    rfl
  case writeLast =>
    intro s errs c m bs hhub hgrant hmove hdst hsrc hready hpart hstaged hlen hclean hlast hwhole hshort hkeep hinc
    refine ⟨_, congrArg Host.Outcome.next (hub_of_on hhub _), ?_⟩
    dsimp only
    have hport : writePort (moveDst m) = 2 := by rw [hdst]; rfl
    rw [hoistBeat_writes hgrant hmove hport hready, writeBeat_staged hsrc (by omega), partWritten_lp hpart hstaged hlen hclean hdst,
      moved_ends (m := partGone (beatRead m)) _ _ hlast, moveEnd_last hlast hwhole hkeep hinc]
    obtain ⟨hmem, hpc, hx⟩ := beatWritten_shown hpart hstaged hlen hclean s 2 c
    generalize lpStored (turnTaken s 2 c) c (partOp (beatRead m)) = u at hmem hpc hx ⊢
    obtain ⟨hmoved, hchannel, hpc', hx'⟩ := moveEnded_shown (u := u) (c := c) (d := bitsOf m.w0 11 3)
      (x := hX u c (bitsOf m.w0 11 3) + m.len) hshort
    have hput := bytes_of_memPut ((moveEnded_mem u c m.len (bitsOf m.w0 11 3) (hX u c (bitsOf m.w0 11 3) + m.len)).trans hmem)
    rw [hlen] at hput
    refine ⟨hput.1, hput.2, hmoved, hchannel, ?_, ?_⟩
    · rw [hpc', hpc]
    · rw [hx', hx _ (bitsOf_lt _ _ _)]
  case idle =>
    intro s port errs hhub hport hgrant
    refine ⟨_, congrArg Host.Outcome.next (hub_of_on hhub _), ?_⟩
    dsimp only
    rw [Nat.mod_eq_of_lt hport, hoistBeat, hgrant]
  case load =>
    intro s tag c o d hhub hop hc hkind hspace hload hd hlen
    refine ⟨_, congrArg Host.Outcome.next (hub_of_on hhub _), ?_⟩
    dsimp only
    have hload' : (hchan (freeOp s c o) c).load = some d := by
      rw [freeOp_hchan hspace]
      exact hload
    have hbytes : leNat (memRead s o.addr 8) < 2 ^ 64 := by
      have h := leNat_lt (memRead s o.addr 8)
      rw [memRead, List.length_map, List.length_range, ← memRead] at h
      exact h
    rw [readCompletion_lp hop (by rw [isRead, hkind]; rfl) hspace, hlen, opData_load hkind hload', hX_hNext, hX_updHchan,
      hX_setHX, Nat.mod_eq_of_lt hbytes, hPc_hNext, hPc_updHchan, hPc_setHX, hPc_freeOp hspace,
      hchan_congr (hNext_hoist _ c), hchan_updHchan, hchan_congr (setHX_hoist _ c d _), freeOp_hchan hspace, hNext_mem,
      updHchan_mem, setHX_mem, freeOp_mem hspace]
    exact ⟨rfl, rfl, rfl, rfl, rfl⟩
  case staged =>
    intro s tag c o m hhub hop hc hkind hspace hmove hclean
    refine ⟨_, congrArg Host.Outcome.next (hub_of_on hhub _), ?_⟩
    dsimp only
    rw [readCompletion_lp hop (by rw [isRead, hkind]; rfl) hspace, hclean, opData_beat hkind, hchan_updHchan,
      freeOp_hchan hspace, updHchan_mem, freeOp_mem hspace]
    refine ⟨?_, rfl, rfl⟩
    rw [beatStaged, opLeft, hmove]
    rfl
  case ack =>
    intro s tag c o hhub hop hc hwrite hspace
    refine ⟨_, congrArg Host.Outcome.next (hub_of_on hhub _), ?_⟩
    dsimp only
    rw [writeAck_lp hop hwrite hspace, freeOp_hchan hspace, freeOp_mem hspace]
    exact ⟨rfl, rfl, rfl, (freeOp_regsKept hspace s c (by simp) (by simp)).but⟩
  case retryLater =>
    intro s tag c o hhub hop hc hspace hruns hstays hfew
    refine ⟨_, congrArg Host.Outcome.next (hub_of_on hhub _), ?_⟩
    dsimp only
    rw [errorResponse_lp hop hspace hruns hstays, if_neg (by omega), hchan_updHchan, hState_updHchan,
      hchan_congr (takeFree_parts _).1, hState_congr (takeFree_parts _).2, freeOp_hchan hspace, hState_freeOp hspace]
    refine ⟨rfl, ⟨_, rfl, ?_⟩, rfl⟩
    rw [freeOp_now hspace]
    omega
  case gaveUp =>
    intro s tag c o hhub hop hc hspace hruns hstays hmany hfits haddr
    refine ⟨_, congrArg Host.Outcome.next (hub_of_on hhub _), ?_⟩
    dsimp only
    rw [errorResponse_lp hop hspace hruns hstays, if_pos hmany]
    obtain ⟨hattempts, hinfo⟩ := haltChan_info (freeOp s c o) c 0x0005 o.space o.addr hfits hc
    exact ⟨haltChan_halted hc hfits haddr _, hattempts, hinfo.trans (by rw [hspace])⟩
  case retry =>
    intro s tag c o hhub hop hc hdue htag hspace hread
    refine ⟨_, congrArg Host.Outcome.next (hub_of_on hhub _), ?_⟩
    dsimp only
    obtain ⟨hcount, hevent⟩ := retryTold_shown (updHchan s c (retryLeft o)) c
    rw [hoistRetry_lp hop hdue htag hspace hread, addOp_fv (.inl (by grind)) (by grind), addOp_fv (.inl (by grind)) (by grind),
      hcount, hevent, addOp_hchan, addOp_mem, retryTold_mem, hchan_congr (retryTold_hoist _ c), hchan_updHchan]
    refine ⟨rfl, rfl, ?_, rfl, rfl⟩
    rw [opAdded, List.getLast?_concat, Option.map_some, opIssued]
  case timeout =>
    intro s tag c o hhub hop hc hread hspace hlate hruns hfits haddr
    refine ⟨_, congrArg Host.Outcome.next (hub_of_on hhub _), ?_⟩
    dsimp only
    rw [completionTimeout_lp hop hread hspace hlate hruns, haltChan_hchan _ _ _ _ _ hfits, freeOp_hchan hspace]
    exact ⟨haltChan_halted hc hfits haddr _, rfl⟩
  case slice =>
    intro s st desc errs w ws g q buf b u a n l rest words hhub hst hstate hfull hwords htag hkind hneed hframe hdest huse
      hpacket hcut
    refine ⟨_, congrArg Host.Outcome.next (hub_of_on hhub _), ?_⟩
    dsimp only
    rw [Nat.mod_eq_of_lt (by omega), moverPacket_frame hstate hfull hwords htag (by omega) hneed, withDest_store hframe hdest huse,
      if_pos hkind]
    obtain ⟨bad, m, hmoved, hslices, hcount⟩ := moveSlice_store (q := q) (g := g) hwords hdest hpacket hcut
    have hmem : u.mem = s.mem := by
      have h := packetWords_mem (ws.length + 2) s st errs
      rwa [hpacket] at h
    rw [hmoved, moverOf_setMover]
    have hput := bytes_of_memPut (s := s) (t := setMover (sliceJudged (writeWords u st (moverOf s st).seq (.store buf b) a l)
      st bad) st m) (a := a) (bs := wordBytes l) (by rw [setMover_mem, sliceJudged_mem, writeWords_store_mem, hmem])
    rw [wordBytes_length] at hput
    exact ⟨hput.1, hput.2, hslices, hcount⟩
  case full =>
    intro s st desc errs w ws g q buf b hhub hst hstate hfull hwords htag hkind hneed hframe hdest huse
    refine ⟨_, congrArg Host.Outcome.next (hub_of_on hhub _), ?_⟩
    dsimp only
    rw [Nat.mod_eq_of_lt (by omega), moverPacket_frame hstate hfull hwords htag (by omega) hneed, withDest_store hframe hdest huse,
      if_neg (by omega)]
    obtain ⟨bs, p, d, hmoved, hlen, hframe', hdest'⟩ := moveFull_store (q := q) (g := g) (errs := errs) hdest
    rw [hmoved, moverOf_setMover]
    refine ⟨?_, rfl, rfl, ?_, ?_⟩
    · have hput := bytes_of_memPut (s := s) (t := setMover (setMover (writeWords (packetWords ((queueOfL s st).words.length + 1) s
        st errs).2 st (moverOf s st).seq (.store buf b) (b + fsPitch q.rd (st / 4) (st % 4) - 64) (hallmarkWords bs p st)) st
        { seq := (moverOf s st).seq + 1, done := (moverOf s st).done }) st (frameMoved (moverOf s st) d))
        (by rw [setMover_mem, setMover_mem, writeWords_store_mem, packetWords_mem])
      rw [hallmarkWords_bytes hlen] at hput
      exact hput.2
    · rw [frameMoved, List.getLast?_concat, Option.map_some, hframe', hdest']
    · rw [frameMoved, List.length_append, List.length_singleton]
  case stats =>
    intro s st desc errs w ws g hhub hlo hhi hstate hfull hwords htag hkind hring
    refine ⟨_, congrArg Host.Outcome.next (hub_of_on hhub _), ?_⟩
    dsimp only
    rw [Nat.mod_eq_of_lt hhi, moverPacket_unbuffered hstate hfull hwords htag hkind hring]
    obtain ⟨bad, hmoved⟩ := moveStats_none (s := atFrame (noBuffer s st) st g.frame .none) (st := st) (errs := errs)
      (by rw [atFrame_moverOf])
    have hkept := packetWords_kept (P := (· = rRING_EVENT)) (fun o ho => by subst ho; exact ⟨by decide, by rw [not_irqReg_iff]; decide⟩)
      ((queueOfL (atFrame (noBuffer s st) st g.frame .none) st).words.length + 1)
      (.refl _ (atFrame (noBuffer s st) st g.frame .none)) st errs
    rw [hmoved, moverOf_setMover, atFrame_moverOf, fv_congr (setMover_regs _ st _), fv_reportIf, hkept.fv rfl,
      fv_congr (atFrame_regs _ st _ _), moverOf_congr (noBuffer_parts s st).2, setMover_mem, reportIf_mem, packetWords_mem,
      atFrame_mem, (noBuffer_parts s st).1]
    exact ⟨noBuffer_told s st, rfl, rfl, rfl⟩
  case noPacket =>
    intro s st desc errs hhub hst hempty
    refine ⟨_, congrArg Host.Outcome.next (hub_of_on hhub _), ?_⟩
    dsimp only
    rw [Nat.mod_eq_of_lt hst, moverPacket, if_pos (by simp [hempty])]
  case statsDelivered =>
    intro s st d rest k base hm buf irq hhub hlo hhi hdone hkind hdest hruns hacked hfsn
    refine ⟨_, congrArg Host.Outcome.next (hub_of_on hhub _), ?_⟩
    dsimp only
    rw [Nat.mod_eq_of_lt hhi, frameDelivered_of_acked hdone hruns hacked, deliverDone_stats hkind hdest, State.rn_setRn_same,
      Nat.mod_eq_of_lt hfsn, moverOf_congr (State.setRn_hoist _ _ _), moverOf_congr (statsEntry_hoist s st d),
      doneLeft_moverOf]
    exact ⟨rfl, rfl⟩
  case good =>
    intro s st d rest buf b f hhub hst hdone hkind hdest hruns hacked hframe hgood hlayout
    refine ⟨_, congrArg Host.Outcome.next (hub_of_on hhub _), ?_⟩
    dsimp only
    obtain ⟨hstores, hhoist⟩ := viewGone_parts (storeDone (doneLeft s st d) st d buf b) st d
    rw [Nat.mod_eq_of_lt (by omega), frameDelivered_of_acked hdone hruns hacked, deliverDone_store hst hkind hdest,
      storeOf_congr hstores, moverOf_congr hhoist, storeDone_good (s := doneLeft s st d) hframe hgood hlayout,
      (newestSet_parts _ st buf _).1, moverOf_congr ((newestSet_parts _ st buf _).2.trans (storeWritten_parts _ st buf).2.1),
      doneLeft_moverOf]
    exact ⟨rfl, rfl⟩
  case bad =>
    intro s st d rest buf b hhub hst hdone hkind hdest hruns hacked hbad
    refine ⟨_, congrArg Host.Outcome.next (hub_of_on hhub _), ?_⟩
    dsimp only
    obtain ⟨hstores, hhoist⟩ := viewGone_parts (storeDone (doneLeft s st d) st d buf b) st d
    obtain ⟨hfs, hho, _⟩ := storeWritten_parts (doneLeft s st d) st buf
    rw [Nat.mod_eq_of_lt (by omega), frameDelivered_of_acked hdone hruns hacked, deliverDone_store hst hkind hdest,
      storeOf_congr hstores, moverOf_congr hhoist, storeDone_bad hbad, storeOf_congr hfs, moverOf_congr hho, doneLeft_moverOf]
    exact ⟨rfl, rfl⟩

end Sys2Proof.Machine

namespace Sys2Proof.Machine

/-! ### Ports of the fabric -/

@[simp] theorem fabPort_setFabPort_same (s : State) (k : Nat) (x : FabPort) : fabPort (setFabPort s k x) k = x := by
  simp [fabPort, setFabPort]

theorem fabPort_setFabPort_other {j k : Nat} (h : j ≠ k) (s : State) (x : FabPort) : fabPort (setFabPort s k x) j = fabPort s j :=
  kgetD_kputD_other h _ _ _ _

@[simp] theorem fabPort_updFabPort_same (s : State) (k : Nat) (g : FabPort → FabPort) :
    fabPort (updFabPort s k g) k = g (fabPort s k) := fabPort_setFabPort_same s k _

theorem fabPort_congr {s t : State} (h : t.fabric = s.fabric) (k : Nat) : fabPort t k = fabPort s k := by
  rw [fabPort, h, fabPort]

theorem given_congr {s t : State} (h : t.fabric = s.fabric) (k : Nat) (m : FabMsg) (hs : Given s k m) : Given t k m := by
  rw [Given, fabPort_congr h, h]
  exact hs

theorem portSt_congr {s t : State} (h : t.regs = s.regs) (k : Nat) : portSt t k = portSt s k := fv_congr h _

theorem portUp_congr {s t : State} (h : t.regs = s.regs) (k : Nat) : portUp t k = portUp s k := by
  rw [portUp, portSt_congr h, portUp]

theorem setFabPort_regs (s : State) (k : Nat) (x : FabPort) : (setFabPort s k x).regs = s.regs := rfl

theorem updFabPort_regs (s : State) (k : Nat) (g : FabPort → FabPort) : (updFabPort s k g).regs = s.regs := rfl

theorem portUp_lt {s : State} {k : Nat} (h : portUp s k = true) : k < 4 := by
  simp only [portUp, Bool.and_eq_true, decide_eq_true_eq] at h
  exact h.1

theorem portUp_state {s : State} {k : Nat} (h : portUp s k = true) : portSt s k = 3 := by
  simp only [portUp, Bool.and_eq_true, beq_iff_eq] at h
  exact h.2

theorem portTalks_of_up {s : State} {k : Nat} (h : portUp s k = true) : portTalks s k = true := by
  simp [portTalks, portUp_lt h, portUp_state h]

/-! ### Messages given to a port (R436) -/

/-- What a port stands for beside the messages that go through it. -/
def FabPort.standing (x : FabPort) : FabPort :=
  { x with seq := 0, store := [], waiting := [], sinceReq := 0, ackAt := 0, dataAt := 0 }

/-- From `s` to `t` messages have gone to ports: the ports stand as they stood, what was given to them still is, and only
the ports, what has been sent and the requests have changed. -/
structure Posted (s t : State) : Prop where
  rest : ∃ p l r, t = { s with fabric := { s.fabric with port := p, sent := l, reqs := r } }
  port : ∀ j, (fabPort t j).standing = (fabPort s j).standing
  given : ∀ j m, Given s j m → Given t j m
  sent : ∀ x ∈ s.fabric.sent, x ∈ t.fabric.sent

section
variable {s t u : State}

theorem Posted.refl (s : State) : Posted s s := ⟨⟨_, _, _, rfl⟩, fun _ => rfl, fun _ _ h => h, fun _ h => h⟩

theorem Posted.trans (h : Posted s t) (k : Posted t u) : Posted s u := by
  refine ⟨?_, fun j => (k.port j).trans (h.port j), fun j m hm => k.given j m (h.given j m hm),
    fun x hx => k.sent x (h.sent x hx)⟩
  obtain ⟨p, l, r, rfl⟩ := h.rest
  obtain ⟨p', l', r', rfl⟩ := k.rest
  exact ⟨p', l', r', rfl⟩

theorem Posted.ite {c : Prop} [Decidable c] {a b : State} (ha : c → Posted s a) (hb : ¬ c → Posted s b) :
    Posted s (if c then a else b) := by
  split
  next h => exact ha h
  next h => exact hb h

theorem Posted.foldl {α : Type} {f : State → α → State} (hf : ∀ u a, Posted u (f u a)) (l : List α) (s : State) :
    Posted s (l.foldl f s) := by
  induction l generalizing s with
  | nil => exact .refl s
  | cons a l ih => exact (hf s a).trans (ih _)

theorem Posted.regs (h : Posted s t) : t.regs = s.regs := by
  obtain ⟨p, l, r, rfl⟩ := h.rest
  rfl

theorem Posted.isl (h : Posted s t) : t.isl = s.isl := by
  obtain ⟨p, l, r, rfl⟩ := h.rest
  rfl

theorem Posted.mem (h : Posted s t) : t.mem = s.mem := by
  obtain ⟨p, l, r, rfl⟩ := h.rest
  rfl

theorem Posted.wire (h : Posted s t) : t.wire = s.wire := by
  obtain ⟨p, l, r, rfl⟩ := h.rest
  rfl

theorem Posted.lane (h : Posted s t) : t.lane = s.lane := by
  obtain ⟨p, l, r, rfl⟩ := h.rest
  rfl

theorem Posted.now (h : Posted s t) : t.now = s.now := by
  obtain ⟨p, l, r, rfl⟩ := h.rest
  rfl

theorem Posted.fabric (h : Posted s t) :
    t.fabric = { s.fabric with port := t.fabric.port, sent := t.fabric.sent, reqs := t.fabric.reqs } := by
  obtain ⟨p, l, r, rfl⟩ := h.rest
  rfl

theorem Posted.hello (h : Posted s t) (j : Nat) : (fabPort t j).hello = (fabPort s j).hello := by
  change (fabPort t j).standing.hello = (fabPort s j).standing.hello
  rw [h.port j]
end

/-- A message of port `k` leaves in the next flit. -/
def flitFilled (s : State) (m : FabMsg) (x : FabPort) : FabPort :=
  { x with
    waiting := x.waiting.erase m, store := x.store ++ [(x.seq, m)], seq := (x.seq + 1) % 4096,
    sinceReq := if msgVc m = 0 then 0 else x.sinceReq + 1,
    ackAt := if x.store.isEmpty then s.now else x.ackAt, dataAt := s.now }

/-- A message of port `k` has left in a flit. -/
def flitSent (s : State) (k : Nat) (m : FabMsg) : State :=
  let t := setFabPort s k (flitFilled s m (fabPort s k))
  { t with fabric := { t.fabric with sent := t.fabric.sent ++ [(k, m)] } }

/-- A port sends nothing now. -/
def portStalls (s : State) (k : Nat) : Bool :=
  !portAwake s k || (fabPort s k).asleep != 0 || decide (256 ≤ (fabPort s k).store.length)

theorem pump_succ (n : Nat) (s : State) (k : Nat) :
    pump (n + 1) s k = if portStalls s k then s else
      match nextMsg s k with
      | none => s
      | some m => pump n (flitSent s k m) k := rfl

theorem flitSent_fabPort (s : State) (k j : Nat) (m : FabMsg) :
    fabPort (flitSent s k m) j = fabPort (setFabPort s k (flitFilled s m (fabPort s k))) j := rfl

theorem flitSent_posted (s : State) (k : Nat) (m : FabMsg) : Posted s (flitSent s k m) := by
  have hsent : ∀ y, y ∈ s.fabric.sent → y ∈ (flitSent s k m).fabric.sent := fun y hy => List.mem_append_left _ hy
  refine ⟨⟨_, _, _, rfl⟩, fun j => ?_, fun j x hx => ?_, hsent⟩
  · rw [flitSent_fabPort]
    by_cases hj : j = k
    · rw [hj, fabPort_setFabPort_same]
      rfl
    · rw [fabPort_setFabPort_other hj]
  · obtain hwait | hout := hx
    · by_cases hj : j = k
      · by_cases hm : x = m
        · right
          rw [hj, hm]
          exact List.mem_append_right _ (List.mem_singleton_self _)
        · left
          rw [flitSent_fabPort, hj, fabPort_setFabPort_same]
          exact (List.mem_erase_of_ne hm).mpr (hj ▸ hwait)
      · left
        rw [flitSent_fabPort, fabPort_setFabPort_other hj]
        exact hwait
    · exact .inr (hsent _ hout)

theorem pump_posted (n : Nat) (s : State) (k : Nat) : Posted s (pump n s k) := by
  induction n generalizing s with
  | zero => exact .refl s
  | succ n ih =>
    rw [pump_succ]
    split
    · exact .refl s
    · split
      · exact .refl s
      · exact (flitSent_posted s k _).trans (ih _)

theorem pumpPort_posted (s : State) (k : Nat) : Posted s (pumpPort s k) := pump_posted _ s k

/-- A port with one more message that waits. -/
def queuedFor (m : FabMsg) (x : FabPort) : FabPort := { x with waiting := x.waiting ++ [m] }

theorem portSend_eq (s : State) (k : Nat) (m : FabMsg) : portSend s k m = pumpPort (updFabPort s k (queuedFor m)) k := rfl

theorem queued_posted (s : State) (k : Nat) (m : FabMsg) : Posted s (updFabPort s k (queuedFor m)) := by
  refine ⟨⟨_, _, _, rfl⟩, fun j => ?_, fun j x hx => ?_, fun _ h => h⟩
  · by_cases hj : j = k
    · rw [hj, fabPort_updFabPort_same]
      rfl
    · rw [updFabPort, fabPort_setFabPort_other hj]
  · obtain hwait | hout := hx
    · left
      by_cases hj : j = k
      · rw [hj, fabPort_updFabPort_same]
        exact List.mem_append_left _ (hj ▸ hwait)
      · rw [updFabPort, fabPort_setFabPort_other hj]
        exact hwait
    · exact .inr hout

theorem portSend_posted (s : State) (k : Nat) (m : FabMsg) : Posted s (portSend s k m) :=
  (queued_posted s k m).trans (pumpPort_posted _ k)

theorem portSend_given (s : State) (k : Nat) (m : FabMsg) : Given (portSend s k m) k m := by
  refine (pumpPort_posted _ k).given k m (.inl ?_)
  rw [fabPort_updFabPort_same]
  exact List.mem_append_right _ (List.mem_singleton_self m)

/-! ### Messages to every port that is UP -/

/-- The message to one port. -/
def sendUpTo (m : FabMsg) (but : Nat) (s : State) (k : Nat) : State :=
  if portUp s k && k != but then portSend s k m else s

theorem sendUp_eq (s : State) (m : FabMsg) (but : Nat) : sendUp s m but = ports4.foldl (sendUpTo m but) s := rfl

theorem sendUpTo_posted (m : FabMsg) (but : Nat) (s : State) (k : Nat) : Posted s (sendUpTo m but s k) :=
  .ite (fun _ => portSend_posted s k m) fun _ => .refl s

theorem sendUp_posted (s : State) (m : FabMsg) (but : Nat) : Posted s (sendUp s m but) := .foldl (sendUpTo_posted m but) _ s

/-- A message to every UP port but one reaches each of them. -/
theorem sendUp_given {s : State} {j : Nat} (hup : portUp s j = true) {but : Nat} (hj : j ≠ but) (m : FabMsg) :
    Given (sendUp s m but) j m := by
  have hmem : j ∈ ports4 := List.mem_range.mpr (portUp_lt hup)
  obtain ⟨l, r, hsplit⟩ := List.append_of_mem hmem
  have hbefore := Posted.foldl (sendUpTo_posted m but) l s
  rw [sendUp_eq, hsplit, List.foldl_append, List.foldl_cons]
  refine (Posted.foldl (sendUpTo_posted m but) r _).given j m ?_
  have hup' : portUp (l.foldl (sendUpTo m but) s) j = true := (portUp_congr hbefore.regs j).trans hup
  rw [sendUpTo, hup', if_pos (by simpa using hj)]
  exact portSend_given _ j m

/-! ### Requests that are launched (R442) -/

/-- A request that goes out by port `k`. -/
def reqRouted (s : State) (tag k : Nat) (r : FabReq) : State :=
  { s with fabric := { s.fabric with reqs := kput tag { r with port := some k } s.fabric.reqs } }

theorem reqRouted_posted (s : State) (tag k : Nat) (r : FabReq) : Posted s (reqRouted s tag k r) :=
  ⟨⟨_, _, _, rfl⟩, fun _ => rfl, fun _ _ h => h, fun _ h => h⟩

theorem launchReq_posted (s : State) (tag : Nat) : Posted s (launchReq s tag) := by
  unfold launchReq
  split
  · split
    · split
      · exact .refl s
      · exact (reqRouted_posted s tag _ _).trans (portSend_posted _ _ _)
    · exact .refl s
  · exact .refl s

theorem launchHeld_posted (s : State) : Posted s (launchHeld s) := .foldl launchReq_posted _ s

theorem rerouted_posted (s : State) (l : List FabMsg) : Posted s (rerouted s l) := by
  refine .foldl (fun u m => ?_) l s
  split
  · split
    · exact portSend_posted u _ _
    · exact .refl u
  · exact .refl u

end Sys2Proof.Machine

namespace Sys2Proof.Machine

/-! ### What the election and the routes leave as it was (R445, R448) -/

/-- The two fields share no bit. -/
abbrev Fld.Beside (g f : Fld) : Prop :=
  g.off ≠ f.off ∨ f.lsb + f.width ≤ 32 ∧ (f.lsb + f.width ≤ g.lsb ∨ g.lsb + g.width ≤ f.lsb)

/-- No field of interrupt routing. -/
abbrev Fld.NoIrq (g : Fld) : Prop := (g.off < 0x26000 ∨ 0x26800 ≤ g.off) ∧ (g.off < 0x50000 ∨ 0x50100 ≤ g.off)

/-- From `s` to `t` the fields of `P` stand, with what the ports stand for, the lanes and the granted IDs; no report is lost. -/
structure FabKept (P : Fld → Prop) (s t : State) : Prop where
  fv : ∀ g, P g → t.fv g = s.fv g
  inbox : ∀ x ∈ s.isl.inbox, x ∈ t.isl.inbox
  port : ∀ j, (fabPort t j).standing = (fabPort s j).standing
  granted : t.fabric.granted = s.fabric.granted
  lane : t.lane = s.lane

section
variable {P : Fld → Prop} {s t u : State}

theorem FabKept.refl (P : Fld → Prop) (s : State) : FabKept P s s := ⟨fun _ _ => rfl, fun _ h => h, fun _ => rfl, rfl, rfl⟩

theorem FabKept.trans (h : FabKept P s t) (k : FabKept P t u) : FabKept P s u :=
  ⟨fun g hg => (k.fv g hg).trans (h.fv g hg), fun x hx => k.inbox x (h.inbox x hx), fun j => (k.port j).trans (h.port j),
    k.granted.trans h.granted, k.lane.trans h.lane⟩

theorem FabKept.mono {Q : Fld → Prop} (h : FabKept P s t) (hq : ∀ g, Q g → P g) : FabKept Q s t :=
  ⟨fun g hg => h.fv g (hq g hg), h.inbox, h.port, h.granted, h.lane⟩

theorem FabKept.on (h : FabKept P s t) {g : Fld} (hg : P g) : t.on g = s.on g := by rw [State.on_eq, h.fv g hg, State.on_eq]

theorem FabKept.hello (h : FabKept P s t) (j : Nat) : (fabPort t j).hello = (fabPort s j).hello := by
  change (fabPort t j).standing.hello = (fabPort s j).standing.hello
  rw [h.port j]

theorem FabKept.authStep (h : FabKept P s t) (j : Nat) : (fabPort t j).authStep = (fabPort s j).authStep := by
  change (fabPort t j).standing.authStep = (fabPort s j).standing.authStep
  rw [h.port j]

theorem FabKept.helloAt (h : FabKept P s t) (j : Nat) : (fabPort t j).helloAt = (fabPort s j).helloAt := by
  change (fabPort t j).standing.helloAt = (fabPort s j).standing.helloAt
  rw [h.port j]

theorem FabKept.ite {c : Prop} [Decidable c] {a b : State} (ha : c → FabKept P s a) (hb : ¬ c → FabKept P s b) :
    FabKept P s (if c then a else b) := by
  split
  next h => exact ha h
  next h => exact hb h

theorem FabKept.foldl {α : Type} {f : State → α → State} {l : List α} (hf : ∀ u, ∀ a ∈ l, FabKept P u (f u a)) (s : State) :
    FabKept P s (l.foldl f s) := by
  induction l generalizing s with
  | nil => exact .refl P s
  | cons a l ih =>
    exact (hf s a (List.mem_cons_self ..)).trans (ih (fun u b hb => hf u b (List.mem_cons_of_mem _ hb)) _)

theorem Posted.fabKept (h : Posted s t) (P : Fld → Prop) : FabKept P s t :=
  ⟨fun g _ => fv_congr h.regs g, fun _ hx => h.isl ▸ hx, h.port, by rw [h.fabric], h.lane⟩

theorem FabKept.posted (h : FabKept P s t) (k : Posted t u) : FabKept P s u := h.trans (k.fabKept P)

theorem FabKept.setF (h : FabKept P s t) {f : Fld} (v : Nat) (hf : ∀ g, P g → g.Beside f) : FabKept P s (t.setF f v) :=
  h.trans ⟨fun g hg => fv_setF_of_apart (hf g hg) t v, fun _ hx => hx, fun _ => rfl, rfl, rfl⟩

theorem FabKept.setRn (h : FabKept P s t) {off : Nat} (v : Nat) (hf : ∀ g, P g → g.off ≠ off) :
    FabKept P s (t.setRn off v) :=
  h.trans ⟨fun g hg => State.fv_setRn_other (hf g hg) t v, fun _ hx => hx, fun _ => rfl, rfl, rfl⟩

theorem FabKept.setPair (h : FabKept P s t) {lo hi : Nat} (v : Nat) (hf : ∀ g, P g → g.off ≠ lo ∧ g.off ≠ hi) :
    FabKept P s (t.setPair lo hi v) :=
  h.trans ⟨fun g hg => State.fv_setPair_other (hf g hg) t v, fun _ hx => hx, fun _ => rfl, rfl, rfl⟩

theorem FabKept.ev (h : FabKept P s t) {f : Fld} (hf : ∀ g, P g → g.Beside f ∧ g.NoIrq) : FabKept P s (t.ev f) :=
  h.trans ⟨fun g hg => fv_ev_of_apart (hf g hg).1 (hf g hg).2 t, fun _ hx => (State.ev_isl t f).symm ▸ hx,
    fun j => by rw [fabPort_congr (State.ev_fabric t f)], by rw [State.ev_fabric], State.ev_lane t f⟩

theorem FabKept.fabReport (h : FabKept P s t) (inst code : Nat) : FabKept P s (fabReport t inst code) :=
  h.trans ⟨fun _ _ => rfl, fun _ hx => List.mem_append_left _ hx, fun _ => rfl, rfl, rfl⟩

/-- A record of the fabric that has the same ports and granted IDs. -/
theorem FabKept.fabric (h : FabKept P s t) {n : Fabric} (hport : n.port = t.fabric.port) (hg : n.granted = t.fabric.granted) :
    FabKept P s { t with fabric := n } :=
  h.trans ⟨fun _ _ => rfl, fun _ hx => hx, fun j => congrArg (fun p => (kgetD {} j p).standing) hport, hg, rfl⟩

theorem FabKept.taken (h : FabKept P s t) (n : Nat) : FabKept P s { t with taken := n } :=
  h.trans ⟨fun _ _ => rfl, fun _ hx => hx, fun _ => rfl, rfl, rfl⟩
end

/-- A field that no filling of the routes and no look at STATUS writes. -/
structure Routed (g : Fld) : Prop where
  noRoute : g.off < 0x1400200 ∨ 0x1400300 ≤ g.off
  status : g.off = rFABRIC_STATUS → 3 ≤ g.lsb ∧ g.lsb + g.width ≤ 17
  port : ∀ j < 4, g.off = rFABRIC_PORT_STATUS j → g.lsb + g.width ≤ 14 ∨ 15 ≤ g.lsb

/-- A field that no election, no filling of the routes and no failover writes. -/
structure Booked (g : Fld) : Prop where
  noIrq : g.NoIrq
  noRoute : g.off < 0x1400200 ∨ 0x1400300 ≤ g.off
  noSerial : g.off ≠ rFABRIC_ROOT_SERIAL_LO ∧ g.off ≠ rFABRIC_ROOT_SERIAL_HI
  status : g.off = rFABRIC_STATUS → 4 ≤ g.lsb ∧ g.lsb + g.width ≤ 11
  event : g.off = rFABRIC_EVENT → g.lsb + g.width ≤ 3 ∨ 4 ≤ g.lsb ∧ g.lsb + g.width ≤ 5 ∨ 6 ≤ g.lsb
  port : ∀ j < 4, g.off = rFABRIC_PORT_STATUS j → g.lsb + g.width ≤ 14 ∨ 15 ≤ g.lsb

theorem Booked.routed {g : Fld} (hg : Booked g) : Routed g where
  noRoute := hg.noRoute
  status h := by
    have := hg.status h
    omega
  port := hg.port

/-- A field of STATUS beside what is looked at again. -/
theorem Routed.beside_status {g : Fld} (hg : Routed g) {f : Fld} (ho : f.off = rFABRIC_STATUS)
    (hf : f.lsb + f.width ≤ 3 ∨ 17 ≤ f.lsb ∧ f.lsb + f.width ≤ 32) : g.Beside f := by
  by_cases h : g.off = rFABRIC_STATUS
  · have := hg.status h
    right
    omega
  · left
    rwa [ho]

/-- A field of STATUS beside the ID. -/
theorem Booked.beside_status {g : Fld} (hg : Booked g) {f : Fld} (ho : f.off = rFABRIC_STATUS)
    (hf : f.lsb + f.width ≤ 4 ∨ 11 ≤ f.lsb ∧ f.lsb + f.width ≤ 32) : g.Beside f := by
  by_cases h : g.off = rFABRIC_STATUS
  · have := hg.status h
    right
    omega
  · left
    rwa [ho]

theorem Booked.beside_event {g : Fld} (hg : Booked g) {f : Fld} (ho : f.off = rFABRIC_EVENT) (hw : f.width = 1)
    (hf : f.lsb = 3 ∨ f.lsb = 5) : g.Beside f ∧ g.NoIrq := by
  refine ⟨?_, hg.noIrq⟩
  by_cases h : g.off = rFABRIC_EVENT
  · have := hg.event h
    right
    omega
  · left
    rwa [ho]

theorem Routed.beside_parent {g : Fld} (hg : Routed g) {k : Nat} (hk : k < 4) : g.Beside (fFABRIC_PORT_STATUS_PARENT k) := by
  by_cases h : g.off = rFABRIC_PORT_STATUS k
  · have := hg.port k hk h
    right
    dsimp only
    omega
  · exact .inl h

theorem Routed.not_route {g : Fld} (hg : Routed g) {d : Nat} (hd : d < 64) : g.off ≠ rFABRIC_ROUTE d := by
  have := hg.noRoute
  simp only [rFABRIC_ROUTE]
  omega

/-! ### Status, routes, failover and election -/

theorem fabState_routed (s : State) : FabKept Routed s (fabState s) :=
  (FabKept.refl _ s).setF _ fun _ hg => hg.beside_status rfl (.inl (by decide))

theorem fabState_kept (s : State) : FabKept Booked s (fabState s) := (fabState_routed s).mono fun _ => Booked.routed

theorem mem_ports4 {k : Nat} : k ∈ ports4 ↔ k < 4 := List.mem_range

theorem fabStatus_routed (s : State) : FabKept Routed s (fabStatus s) := by
  unfold fabStatus
  dsimp only
  refine .trans (t := s.setF _ _) ?_ (.foldl (fun u k hk => ?_) _)
  · exact (FabKept.refl _ s).setF _ fun _ hg => hg.beside_status rfl (.inr (by decide))
  · exact (FabKept.refl _ u).setF _ fun _ hg => hg.beside_parent (mem_ports4.mp hk)

theorem fabStatus_kept (s : State) : FabKept Booked s (fabStatus s) := (fabStatus_routed s).mono fun _ => Booked.routed

theorem fillRoute_routed (s : State) {d : Nat} (hd : d < 64) : FabKept Routed s (fillRoute s d) := by
  have hset : ∀ (t : State) (f : Fld) (v : Nat), f.off = rFABRIC_ROUTE d → FabKept Routed t (t.setF f v) := fun t f v ho =>
    (FabKept.refl _ t).setF _ fun _ hg => .inl (ho ▸ hg.not_route hd)
  unfold fillRoute
  dsimp only
  refine .trans (hset s (fFABRIC_ROUTE_LOCAL d) _ rfl) (.ite (fun _ => .ite (fun _ => ?_) fun _ => .refl _ _) fun _ => ?_)
  · exact hset _ _ _ rfl
  · exact (FabKept.refl _ _).setRn _ fun _ hg => hg.not_route hd

theorem fillRoutes_routed (s : State) : FabKept Routed s (fillRoutes s) :=
  (FabKept.foldl (fun u _ hd => fillRoute_routed u (List.mem_range.mp hd)) s).trans (fabStatus_routed _)

theorem fillRoutes_kept (s : State) : FabKept Booked s (fillRoutes s) := (fillRoutes_routed s).mono fun _ => Booked.routed

theorem failover_kept (s : State) (k : Nat) : FabKept Booked s (failover s k) := by
  refine .foldl (fun u d hd => .ite (fun _ => ?_) fun _ => .refl _ u) s
  have hroute : FabKept Booked u (u.setF (fFABRIC_ROUTE_USING_ALT d) 1) :=
    (FabKept.refl _ u).setF _ fun _ hg => .inl (hg.routed.not_route (List.mem_range.mp hd))
  exact (hroute.ev fun _ hg => hg.beside_event rfl rfl (.inr rfl)).fabReport _ _

/-- The ID of the best root, and the state that it is looked up in. -/
def rootIdFound (s : State) : Nat × State :=
  match rootIdOf s (bestKey s).2 with
  | some d => (d, s)
  | none =>
    if bestKey s = (s.fabric.rootPrio, s.pair rFABRIC_ROOT_SERIAL_LO rFABRIC_ROOT_SERIAL_HI) then
      (s.fv fFABRIC_STATUS_ROOT_ID, s)
    else ((takeFree s).1 % 64, (takeFree s).2)

/-- A new best root `b` with ID `id`. -/
def rootTaken (s : State) (b : Nat × Nat) (id : Nat) : State :=
  let s := (s.setPair rFABRIC_ROOT_SERIAL_LO rFABRIC_ROOT_SERIAL_HI b.2).setF fFABRIC_STATUS_IS_ROOT 0
  let s := { s with fabric := { s.fabric with rootPrio := b.1, rootAt := s.now, stable := false } }
  fabReport (s.ev fFABRIC_EVENT_ROOT_CHANGED) id 0x0009

theorem electRoot_eq (s : State) :
    electRoot s =
      if bestKey s = (s.fabric.rootPrio, s.pair rFABRIC_ROOT_SERIAL_LO rFABRIC_ROOT_SERIAL_HI) then
        (rootIdFound s).2.setF fFABRIC_STATUS_ROOT_ID (rootIdFound s).1
      else rootTaken ((rootIdFound s).2.setF fFABRIC_STATUS_ROOT_ID (rootIdFound s).1) (bestKey s) (rootIdFound s).1 := rfl

theorem rootIdFound_kept (s : State) : FabKept Booked s (rootIdFound s).2 := by
  unfold rootIdFound
  split
  · exact .refl _ s
  · split
    · exact .refl _ s
    · exact (FabKept.refl _ s).taken _

theorem rootTaken_kept (s : State) (b : Nat × Nat) (id : Nat) : FabKept Booked s (rootTaken s b id) := by
  have hserial := (FabKept.refl Booked s).setPair b.2 (lo := rFABRIC_ROOT_SERIAL_LO) (hi := rFABRIC_ROOT_SERIAL_HI)
    fun _ hg => hg.noSerial
  have hroot := hserial.setF (f := fFABRIC_STATUS_IS_ROOT) 0 fun _ hg => hg.beside_status rfl (.inl (by decide))
  have hrecord := hroot.fabric
    (n := { s.fabric with rootPrio := b.1, rootAt := s.now, stable := false }) rfl rfl
  exact (hrecord.ev (f := fFABRIC_EVENT_ROOT_CHANGED) fun _ hg => hg.beside_event rfl rfl (.inl rfl)).fabReport id 0x0009

theorem electRoot_kept (s : State) : FabKept Booked s (electRoot s) := by
  have hid : FabKept Booked s ((rootIdFound s).2.setF fFABRIC_STATUS_ROOT_ID (rootIdFound s).1) :=
    (rootIdFound_kept s).setF _ fun _ hg => hg.beside_status rfl (.inr (by decide))
  rw [electRoot_eq]
  exact .ite (fun _ => hid) fun _ => hid.trans (rootTaken_kept _ _ _)

/-- STATUS.STATE after it is looked at again. -/
theorem fv_fabState (s : State) : (fabState s).fv fFABRIC_STATUS_STATE =
    if !s.on fFABRIC_CFG_EN then 0 else if s.on fFABRIC_STATUS_ID_VALID then 4
      else if s.fabric.stable then 3 else if ports4.any (fun k => (fabPort s k).hello.isSome) then 2 else 1 := by
  rw [fabState, State.fv_setF_same _ _ _ (by decide), Nat.mod_eq_of_lt]
  have hw : (2 : Nat) ^ fFABRIC_STATUS_STATE.width = 8 := rfl
  rw [hw]
  repeat' split
  all_goals omega

end Sys2Proof.Machine

namespace Sys2Proof.Machine

/-! ### The conditions of training (R433) -/

/-- A register that the conditions of training read. -/
def SteadyReg (o : Nat) : Prop :=
  o = rFABRIC_CFG ∨ o = (fPWR_DOM_STATE 12).off ∨ ∃ m < 8, o = rLANE_CTRL m ∨ o = rLANE_STATUS m

theorem portLanes_lt {s : State} {k m : Nat} (h : m ∈ portLanes s k) : m < 8 := by
  unfold portLanes at h
  split at h
  · split at h
    · simp only [List.mem_cons, List.not_mem_nil, or_false] at h
      omega
    · cases h
  · split at h
    · simp only [List.mem_cons, List.not_mem_nil, or_false] at h
      omega
    · cases h
  · split at h
    · exact List.mem_range.mp h
    · cases h
  · cases h

section
variable {s t : State}

theorem portLanes_congr (h : t.fv fFABRIC_CFG_LAYOUT = s.fv fFABRIC_CFG_LAYOUT) (k : Nat) : portLanes t k = portLanes s k := by
  rw [portLanes, h, portLanes]

/-- The conditions of one lane beside the first lane of its port. -/
def laneFits (s : State) (first m : Nat) : Bool :=
  laneEn s m && s.on (fLANE_CTRL_FABRIC_EN m) && s.on (fLANE_STATUS_FREF_OK m)
    && (laneOf s m).rate == (laneOf s first).rate && (laneOf s m).precode == (laneOf s first).precode

theorem portWants_eq (s : State) (k : Nat) :
    portWants s k = (s.on fFABRIC_CFG_EN && domOn s 12 && !(portLanes s k).isEmpty
      && (portLanes s k).all (laneFits s ((portLanes s k).headD 0))) := rfl

theorem portWants_congr (h : RegsKept SteadyReg s t) (hlane : t.lane = s.lane) (k : Nat) : portWants t k = portWants s k := by
  have hcfg : ∀ f : Fld, f.off = rFABRIC_CFG → t.fv f = s.fv f := fun f hf => h.fv (.inl hf)
  have hlanes : portLanes t k = portLanes s k := portLanes_congr (hcfg _ rfl) k
  have hfits : ∀ first m, m < 8 → laneFits t first m = laneFits s first m := by
    intro first m hm
    have hctrl : SteadyReg (rLANE_CTRL m) := .inr (.inr ⟨m, hm, .inl rfl⟩)
    have hstat : SteadyReg (rLANE_STATUS m) := .inr (.inr ⟨m, hm, .inr rfl⟩)
    have hof : ∀ i, laneOf t i = laneOf s i := fun i => by rw [laneOf, hlane, laneOf]
    rw [laneFits, laneEn, h.on hctrl, h.on hctrl, h.on hstat, hof, hof, laneFits, laneEn]
  have hdom : domOn t 12 = domOn s 12 := by rw [domOn, h.fv (.inr (.inl rfl)), domOn]
  have hen : t.on fFABRIC_CFG_EN = s.on fFABRIC_CFG_EN := h.on (.inl rfl)
  have hall : (portLanes s k).all (laneFits t ((portLanes s k).headD 0))
      = (portLanes s k).all (laneFits s ((portLanes s k).headD 0)) := by
    rw [Bool.eq_iff_iff, List.all_eq_true, List.all_eq_true]
    exact forall_congr' fun m => imp_congr_right fun hm => by rw [hfits _ m (portLanes_lt hm)]
  rw [portWants_eq, hlanes, hdom, hen, hall, portWants_eq]
end

theorem SteadyReg.booked {o : Nat} (h : SteadyReg o) : Booked ⟨o, 0, 32⟩ := by
  obtain rfl | rfl | ⟨m, hm, rfl | rfl⟩ := h <;> constructor <;> grind

theorem FabKept.regsKept {s t : State} (h : FabKept Booked s t) : RegsKept SteadyReg s t :=
  ⟨fun o ho => by
    have hfv := h.fv _ ho.booked
    have hwhole : ∀ u : State, u.fv ⟨o, 0, 32⟩ = u.rn o := fun u => by
      rw [State.fv, bitsOf, pow_zero, Nat.div_one, Nat.mod_eq_of_lt (u.rn_lt o)]
    rwa [hwhole, hwhole] at hfv⟩

/-! ### Ports that start to train -/

theorem portSt_enterPort_same (s : State) (k : Nat) {st : Nat} (hst : st < 8) : portSt (enterPort s k st) k = st := by
  change (s.setF (fFABRIC_PORT_STATUS_STATE k) st).fv (fFABRIC_PORT_STATUS_STATE k) = st
  rw [State.fv_setF_same _ _ _ (by grind)]
  exact Nat.mod_eq_of_lt hst

theorem enterPort_kept (s : State) (k st : Nat) : RegsKept (· ≠ rFABRIC_PORT_STATUS k) s (enterPort s k st) :=
  ((RegsKept.refl _ s).setF st fun h => h rfl).regs rfl

theorem portStatus_inj {j k : Nat} (h : j ≠ k) : rFABRIC_PORT_STATUS j ≠ rFABRIC_PORT_STATUS k := by
  grind

theorem portSt_enterPort_other {j k : Nat} (h : j ≠ k) (s : State) (st : Nat) : portSt (enterPort s k st) j = portSt s j :=
  (enterPort_kept s k st).fv (portStatus_inj h)

theorem hello_enterPort (s : State) (k st j : Nat) : (fabPort (enterPort s k st) j).hello = (fabPort s j).hello := by
  by_cases h : j = k
  · rw [h, enterPort, fabPort_updFabPort_same]
    rfl
  · rw [enterPort, updFabPort, fabPort_setFabPort_other h]
    rfl

/-- One port that is DOWN trains while its conditions hold. -/
def trainPort (s : State) (k : Nat) : State := if portSt s k = 0 && portWants s k then enterPort s k 1 else s

theorem trainPorts_eq (s : State) : trainPorts s = ports4.foldl trainPort s := rfl

/-- A register that no port's STATUS is. -/
abbrev NoPortStatus (o : Nat) : Prop := ∀ j < 4, o ≠ rFABRIC_PORT_STATUS j

theorem trainPort_kept (s : State) {k : Nat} (hk : k < 4) : RegsKept NoPortStatus s (trainPort s k) :=
  .ite (fun _ => (enterPort_kept s k 1).mono fun _ h => h k hk) fun _ => .refl _ s

theorem trainPorts_kept (s : State) : RegsKept NoPortStatus s (trainPorts s) :=
  RegsKept.foldl (.refl _ s) fun u _ hk => trainPort_kept u (mem_ports4.mp hk)

theorem trainPorts_isl (s : State) : (trainPorts s).isl = s.isl := (Keeps.of (keeps_trainPorts s)).isl rfl

theorem hello_trainPorts (s : State) (j : Nat) : (fabPort (trainPorts s) j).hello = (fabPort s j).hello := by
  refine foldl_keeps (fun u => (fabPort u j).hello) (fun u k => ?_) s
  split
  · exact hello_enterPort u k 1 j
  · rfl

theorem trainPorts_fabric (s : State) : ∃ p, (trainPorts s).fabric = { s.fabric with port := p } := by
  have hfold : ∀ l : List Nat, ∀ u : State, ∃ p, (l.foldl trainPort u).fabric = { u.fabric with port := p } := by
    intro l
    induction l with
    | nil => exact fun u => ⟨_, rfl⟩
    | cons k l ih =>
      intro u
      have hstep : ∃ p, (trainPort u k).fabric = { u.fabric with port := p } := by
        unfold trainPort
        split
        · exact ⟨_, rfl⟩
        · exact ⟨_, rfl⟩
      obtain ⟨p, hp⟩ := hstep
      obtain ⟨q, hq⟩ := ih (trainPort u k)
      exact ⟨q, by rw [List.foldl_cons, hq, hp]⟩
  exact hfold _ s

theorem SteadyReg.noPortStatus {o : Nat} (h : SteadyReg o) : NoPortStatus o := by
  intro j hj
  obtain rfl | rfl | ⟨m, hm, rfl | rfl⟩ := h <;> grind

theorem trainPort_lane (s : State) (k : Nat) : (trainPort s k).lane = s.lane := by
  unfold trainPort
  split <;> rfl

/-- A port that is DOWN trains exactly if its conditions hold. -/
theorem portSt_trainPorts {s : State} {k : Nat} (hk : k < 4) (h : portSt s k = 0) :
    portSt (trainPorts s) k = b2n (portWants s k) := by
  rw [trainPorts_eq]
  refine foldl_reaches
    (I := fun u => (RegsKept SteadyReg s u ∧ u.lane = s.lane) ∧ (portSt u k = 0 ∨ portSt u k = b2n (portWants s k)))
    (Q := fun u => portSt u k = b2n (portWants s k))
    (mem_ports4.mpr hk) ⟨⟨.refl _ s, rfl⟩, .inl h⟩ ?keeps ?sets ?others
  case others =>
    intro u a _ ha hu
    unfold trainPort
    split
    · exact (portSt_enterPort_other (Ne.symm ha) u 1).trans hu
    · exact hu
  case sets =>
    rintro u ⟨⟨hregs, hlane⟩, hst⟩
    have hwants := portWants_congr hregs hlane k
    unfold trainPort
    split
    next hc =>
      obtain ⟨-, hw⟩ := Bool.and_eq_true_iff.mp hc
      rw [portSt_enterPort_same u k (by decide), ← hwants, hw]
      rfl
    next hc =>
      obtain h0 | h1 := hst
      · have hno : portWants s k = false := by simpa [h0, hwants] using hc
        rw [h0, hno]
        rfl
      · exact h1
  case keeps =>
    rintro u a ha ⟨⟨hregs, hlane⟩, hst⟩
    have hkept := (trainPort_kept u (mem_ports4.mp ha)).mono fun _ ho => SteadyReg.noPortStatus ho
    refine ⟨⟨hregs.trans hkept, (trainPort_lane u a).trans hlane⟩, ?_⟩
    unfold trainPort
    split
    next hc =>
      obtain ⟨-, hw⟩ := Bool.and_eq_true_iff.mp hc
      by_cases hka : k = a
      · right
        rw [← hka] at hw ⊢
        rw [portSt_enterPort_same u k (by decide), ← portWants_congr hregs hlane k, hw]
        rfl
      · rwa [portSt_enterPort_other hka]
    next => exact hst

/-! ### A port goes DOWN (R434) -/

/-- Port `k` is DOWN, and its neighbour and its link are forgotten. -/
def forgotten (s : State) (k : Nat) : State :=
  let s := (s.setF (fFABRIC_PORT_STATUS_STATE k) 0).setF (fFABRIC_PORT_STATUS_WIDTH k) 0
  let s := (s.setF (fFABRIC_PORT_STATUS_NB_ID k) 0).setF (fFABRIC_PORT_STATUS_NB_ID_VALID k) 0
  let s := s.setPair (rFABRIC_PORT_NB_SERIAL_LO k) (rFABRIC_PORT_NB_SERIAL_HI k) 0
  setFabPort s k {}

/-- The loss of port `k` is counted and reported. -/
def dropped (s : State) (k : Nat) : State :=
  fabReport (((forgotten s k).bump (fFABRIC_PORT_CNT_DOWN k)).ev fFABRIC_EVENT_PORT_DOWN) k 0x0001

/-- What is left of a port that was UP goes by other routes. -/
def unrouted (s : State) (k : Nat) : State :=
  if portSt s k = 3 then rerouted (failover (dropped s k) k) (fabPort s k).waiting else dropped s k

theorem portDrop_eq {s : State} {k : Nat} (h : portSt s k ≠ 0) :
    portDrop s k = fabState (fabStatus (electRoot (unrouted s k))) := if_neg h

theorem portDrop_kept {s : State} {k : Nat} (h : portSt s k ≠ 0) : FabKept Booked (dropped s k) (portDrop s k) := by
  have hroutes : FabKept Booked (dropped s k) (unrouted s k) :=
    .ite (fun _ => (failover_kept _ k).posted (rerouted_posted _ _)) fun _ => .refl _ _
  rw [portDrop_eq h]
  exact ((hroutes.trans (electRoot_kept _)).trans (fabStatus_kept _)).trans (fabState_kept _)

/-- The registers of a port that goes DOWN. -/
def dropRegs (k : Nat) : List Nat :=
  [rFABRIC_PORT_STATUS k, rFABRIC_PORT_NB_SERIAL_LO k, rFABRIC_PORT_NB_SERIAL_HI k, (fFABRIC_PORT_CNT_DOWN k).off, rFABRIC_EVENT]

/-- A register that a port's going DOWN leaves alone. -/
abbrev DropFree (k o : Nat) : Prop := o ∉ dropRegs k ∧ ¬ irqReg o

theorem not_dropFree {k o : Nat} (h : o ∈ dropRegs k) : ¬ DropFree k o := fun hf => hf.1 h

theorem forgotten_kept (s : State) (k : Nat) : RegsKept (DropFree k) s (forgotten s k) := by
  have hstatus : rFABRIC_PORT_STATUS k ∈ dropRegs k := by simp [dropRegs]
  have hlo : rFABRIC_PORT_NB_SERIAL_LO k ∈ dropRegs k := by simp [dropRegs]
  have hhi : rFABRIC_PORT_NB_SERIAL_HI k ∈ dropRegs k := by simp [dropRegs]
  have hstate := (RegsKept.refl (DropFree k) s).setF (f := fFABRIC_PORT_STATUS_STATE k) 0 (not_dropFree hstatus)
  have hwidth := hstate.setF (f := fFABRIC_PORT_STATUS_WIDTH k) 0 (not_dropFree hstatus)
  have hid := hwidth.setF (f := fFABRIC_PORT_STATUS_NB_ID k) 0 (not_dropFree hstatus)
  have hvalid := hid.setF (f := fFABRIC_PORT_STATUS_NB_ID_VALID k) 0 (not_dropFree hstatus)
  exact (hvalid.setPair 0 (not_dropFree hlo) (not_dropFree hhi)).regs (setFabPort_regs _ k {})

theorem dropped_kept (s : State) (k : Nat) : RegsKept (DropFree k) s (dropped s k) := by
  have hcount : (fFABRIC_PORT_CNT_DOWN k).off ∈ dropRegs k := by simp [dropRegs]
  have hevent : fFABRIC_EVENT_PORT_DOWN.off ∈ dropRegs k := by simp [dropRegs]
  exact (((forgotten_kept s k).bump (not_dropFree hcount)).ev (not_dropFree hevent) fun _ ho => ho.2).report _ _ _ _

theorem dropped_fabPort_same (s : State) (k : Nat) : fabPort (dropped s k) k = {} := by
  have hfabric : (dropped s k).fabric = (forgotten s k).fabric := by
    rw [dropped, fabReport, State.report_fabric, State.ev_fabric, State.bump_fabric]
  rw [fabPort_congr hfabric, forgotten, fabPort_setFabPort_same]

theorem dropped_fv {g : Fld} (s : State) {k : Nat} (ho : g.off ≠ rFABRIC_EVENT ∧ g.off ≠ rFABRIC_PORT_CNT k) (hi : g.NoIrq) :
    (dropped s k).fv g = (forgotten s k).fv g := by
  rw [dropped, fabReport, report_fv, fv_ev_of_apart (.inl ho.1) hi, State.bump, State.fv_setF_other ho.2]

theorem portSt_dropped (s : State) (k : Nat) : portSt (dropped s k) k = 0 := by
  rw [portSt, dropped_fv s (by grind) (by grind)]
  unfold forgotten
  dsimp only
  rw [fv_congr (setFabPort_regs _ _ _), State.fv_setPair_other (by grind), fv_setF_of_apart (by grind),
    fv_setF_of_apart (by grind), fv_setF_of_apart (by grind), State.fv_setF_same _ _ _ (by grind)]
  exact Nat.zero_mod _

theorem dropped_event (s : State) (k : Nat) : (dropped s k).fv fFABRIC_EVENT_PORT_DOWN = 1 := by
  rw [dropped, fabReport, report_fv, fv_ev_set (by decide) (by decide)]
  rfl

theorem dropped_count (s : State) (k : Nat) :
    (dropped s k).fv (fFABRIC_PORT_CNT_DOWN k) = satTo 0xFFFF (s.fv (fFABRIC_PORT_CNT_DOWN k) + 1) := by
  have hbefore : (forgotten s k).fv (fFABRIC_PORT_CNT_DOWN k) = s.fv (fFABRIC_PORT_CNT_DOWN k) := by
    unfold forgotten
    dsimp only
    rw [fv_congr (setFabPort_regs _ _ _), State.fv_setPair_other (by grind), State.fv_setF_other (by grind),
      State.fv_setF_other (by grind), State.fv_setF_other (by grind), State.fv_setF_other (by grind)]
  rw [dropped, fabReport, report_fv, fv_ev_of_apart (by grind) (by grind), fv_bump_same (by grind), hbefore]
  rfl

theorem dropped_serial (s : State) (k : Nat) :
    (dropped s k).pair (rFABRIC_PORT_NB_SERIAL_LO k) (rFABRIC_PORT_NB_SERIAL_HI k) = 0 := by
  have hcount : RegsKept (fun o => o = rFABRIC_PORT_NB_SERIAL_LO k ∨ o = rFABRIC_PORT_NB_SERIAL_HI k)
      (forgotten s k) (dropped s k) :=
    (((RegsKept.refl _ _).bump (by grind)).ev (by grind) (fun o ho => not_irqReg_iff.mpr (by grind))).report _ _ _ _
  rw [hcount.pair (.inl rfl) (.inr rfl)]
  unfold forgotten
  dsimp only
  rw [pair_congr (setFabPort_regs _ _ _), State.pair_setPair_same (by grind)]
  exact Nat.zero_mod _

theorem setFabPort_isl (s : State) (k : Nat) (x : FabPort) : (setFabPort s k x).isl = s.isl := rfl

theorem forgotten_isl (s : State) (k : Nat) : (forgotten s k).isl = s.isl := by
  unfold forgotten
  dsimp only
  rw [setFabPort_isl, State.setPair_isl, State.setF_isl, State.setF_isl, State.setF_isl, State.setF_isl]

theorem dropped_inbox (s : State) (k : Nat) : (dropped s k).isl.inbox = s.isl.inbox ++ [(faultCode 0x18 k 0x0001, 0)] := by
  rw [dropped, fabReport, State.report_inbox, State.ev_isl, State.bump_isl, forgotten_isl]

theorem SteadyReg.not_dropRegs {o k : Nat} (h : SteadyReg o) : o ∉ dropRegs k ∧ ¬ irqReg o := by
  refine ⟨?_, not_irqReg_iff.mpr h.booked.noIrq⟩
  simp only [dropRegs, List.mem_cons, List.not_mem_nil, or_false, not_or]
  obtain rfl | rfl | ⟨m, hm, rfl | rfl⟩ := h <;> grind

theorem portDrop_steady (s : State) (k : Nat) : RegsKept SteadyReg s (portDrop s k) := by
  by_cases h : portSt s k = 0
  · exact .of_regs (by rw [portDrop, if_pos h])
  · exact ((dropped_kept s k).mono fun _ ho => ho.not_dropRegs).trans (portDrop_kept h).regsKept

theorem portDrop_lane (s : State) (k : Nat) : (portDrop s k).lane = s.lane := (Keeps.of (keeps_portDrop s k)).lane rfl

theorem portState_booked {k : Nat} (hk : k < 4) : Booked (fFABRIC_PORT_STATUS_STATE k) := by
  constructor <;> grind

theorem portSt_portDrop_same {s : State} {k : Nat} (hk : k < 4) : portSt (portDrop s k) k = 0 := by
  by_cases h : portSt s k = 0
  · rwa [portDrop, if_pos h]
  · exact ((portDrop_kept h).fv _ (portState_booked hk)).trans (portSt_dropped s k)

theorem portSt_portDrop_other {s : State} {j k : Nat} (hj : j < 4) (hjk : j ≠ k) :
    portSt (portDrop s k) j = portSt s j := by
  by_cases h : portSt s k = 0
  · rw [portDrop, if_pos h]
  · have hfar : (fFABRIC_PORT_STATUS_STATE j).off ∉ dropRegs k ∧ ¬ irqReg (fFABRIC_PORT_STATUS_STATE j).off := by
      refine ⟨?_, not_irqReg_iff.mpr (portState_booked hj).noIrq⟩
      simp only [dropRegs, List.mem_cons, List.not_mem_nil, or_false, not_or]
      grind
    exact ((portDrop_kept h).fv _ (portState_booked hj)).trans ((dropped_kept s k).fv hfar)

/-- What a port that was not DOWN shows once it has gone DOWN. -/
structure WentDown (s t : State) (k : Nat) : Prop where
  state : portSt t k = b2n (portWants s k)
  event : t.fv fFABRIC_EVENT_PORT_DOWN = 1
  count : t.fv (fFABRIC_PORT_CNT_DOWN k) = satTo 0xFFFF (s.fv (fFABRIC_PORT_CNT_DOWN k) + 1)
  serial : t.pair (rFABRIC_PORT_NB_SERIAL_LO k) (rFABRIC_PORT_NB_SERIAL_HI k) = 0
  hello : (fabPort t k).hello = none
  inbox : ∀ x ∈ s.isl.inbox, x ∈ t.isl.inbox
  code : (faultCode 0x18 k 0x0001, 0) ∈ t.isl.inbox

theorem FabKept.pair {s t : State} (h : FabKept Booked s t) {lo hi : Nat} (hlo : Booked ⟨lo, 0, 32⟩) (hhi : Booked ⟨hi, 0, 32⟩) :
    t.pair lo hi = s.pair lo hi := by
  have hwhole : ∀ (u : State) (o : Nat), u.fv ⟨o, 0, 32⟩ = u.rn o := fun u o => by
    rw [State.fv, bitsOf, pow_zero, Nat.div_one, Nat.mod_eq_of_lt (u.rn_lt o)]
  rw [State.pair, ← hwhole t, ← hwhole t, h.fv _ hlo, h.fv _ hhi, hwhole, hwhole, State.pair]

theorem fabDown_wentDown {s : State} {k : Nat} (hk : k < 4) (h : portSt s k ≠ 0) : WentDown s (fabDown s k) k := by
  have hdrop := portDrop_kept h
  have htrain := trainPorts_kept (portDrop s k)
  have hisl : (fabDown s k).isl = (portDrop s k).isl := trainPorts_isl _
  refine ⟨?state, ?event, ?count, ?serial, ?hello, fun x hx => ?_, ?code⟩
  case state =>
    rw [fabDown, portSt_trainPorts hk (portSt_portDrop_same hk), portWants_congr (portDrop_steady s k) (portDrop_lane s k)]
  case event =>
    rw [fabDown, htrain.fv (by intro j hj; grind), hdrop.fv _ (by constructor <;> grind), dropped_event]
  case count =>
    rw [fabDown, htrain.fv (by intro j hj; grind), hdrop.fv _ (by constructor <;> grind), dropped_count]
  case serial =>
    rw [fabDown, htrain.pair (by intro j hj; grind) (by intro j hj; grind), hdrop.pair (by constructor <;> grind) (by constructor <;> grind),
      dropped_serial]
  case hello => rw [fabDown, hello_trainPorts, hdrop.hello, dropped_fabPort_same]
  case code =>
    rw [hisl]
    exact hdrop.inbox _ (dropped_inbox s k ▸ List.mem_append_right _ (List.mem_singleton_self _))
  · rw [hisl]
    exact hdrop.inbox x (dropped_inbox s k ▸ List.mem_append_left _ hx)

end Sys2Proof.Machine

namespace Sys2Proof.Machine

/-! ### Writes of a register all of whose fields are read and written -/

/-- A write that no field refuses. -/
theorem plainWrite_fields {off : Nat} {fs : List RegField} (hreg : (regAt off).map (fun x => x.1.flds) = some fs) {v : Word}
    (hgood : fs.any (fieldBad v.toNat) = false) (s : State) :
    (∀ f ∈ fs, f.acc = .rw → (plainWrite s off v).fv ⟨off, f.lsb, f.width⟩ = bitsOf v.toNat f.lsb f.width)
      ∧ ∀ P : Nat → Prop, (∀ o, P o → ¬ irqReg o) → ¬ P off → RegsKept P s (plainWrite s off v) := by
  obtain ⟨⟨r, i, j⟩, hrow, hflds⟩ := Option.map_eq_some_iff.mp hreg
  have hflds' : r.flds = fs := hflds
  have hgood' : r.flds.any (fieldBad v.toNat) = false := hflds' ▸ hgood
  refine ⟨fun f hf hacc => ?_, fun P hirq hoff => plainWrite_kept hirq hrow hgood' hoff (.refl P s)⟩
  rw [State.fv, plainWrite_rn hrow hgood']
  rw [bitsOf_writeWord_field (regAt_fields hrow).1 (hflds' ▸ hf), fieldWrite, hacc]

theorem evIf_true {s : State} {b : Bool} (h : b = true) (f : Fld) : s.evIf b f = s.ev f := by
  rw [h]
  rfl

/-! ### The fabric starts (R445) -/

/-- The fields of CFG. -/
def fabCfgFields : List RegField := [rwr 0 2 0 0 2, rw 2 1 0, rw 3 1 0, rw 4 1 0, rw 8 8 0x80, rwr 16 7 0x40 0 64]

theorem fabCfg_row : (regAt rFABRIC_CFG).map (fun x => x.1.flds) = some fabCfgFields := by decide +kernel

theorem fabCfg_good {n : Nat} (hlayout : bitsOf n 0 2 ≠ 3) (hid : bitsOf n 16 7 ≤ 64) : fabCfgFields.any (fieldBad n) = false := by
  have hl := bitsOf_lt n 0 2
  have hle : ¬ 2 < bitsOf n 0 2 := by omega
  have hrange : fieldBad n (rwr 0 2 0 0 2) = false := by simp [fieldBad, rwr, hle]
  have hreq : fieldBad n (rwr 16 7 0x40 0 64) = false := by simp [fieldBad, rwr, Nat.not_lt.mpr hid]
  simp [fabCfgFields, fieldBad_rw, hrange, hreq]

/-- A register that neither the training of ports nor STATUS writes. -/
abbrev FabQuiet (o : Nat) : Prop := o ≠ rFABRIC_STATUS ∧ NoPortStatus o

theorem fabStatus_quiet (s : State) : RegsKept FabQuiet s (fabStatus s) := by
  unfold fabStatus
  dsimp only
  refine .foldl ((RegsKept.refl _ s).setF _ fun h => h.1 rfl) fun u k hk => ?_
  exact (RegsKept.refl _ u).setF _ fun h => h.2 k (mem_ports4.mp hk) rfl

theorem fabState_quiet (s : State) : RegsKept FabQuiet s (fabState s) := (RegsKept.refl _ s).setF _ fun h => h.1 rfl

theorem fabState_fabric (s : State) : (fabState s).fabric = s.fabric := rfl

theorem fabStatus_fabric (s : State) : (fabStatus s).fabric = s.fabric := (Keeps.of (keeps_fabStatus s)).fabric rfl

/-- The root has priority `prio` from `now` on. -/
def rootSince (x : Fabric) (prio now : Nat) : Fabric := { x with rootPrio := prio, rootAt := now, stable := false }

/-- This device's serial as the root's. -/
def selfSerial (s : State) : State := s.setPair rFABRIC_ROOT_SERIAL_LO rFABRIC_ROOT_SERIAL_HI (serialOf s)

/-- This device as the best root that it knows. -/
def selfRoot (s : State) : State :=
  { selfSerial s with fabric := rootSince (selfSerial s).fabric ((selfSerial s).fv fFABRIC_CFG_PRIORITY) (selfSerial s).now }

theorem fabOn_eq (s : State) : fabOn s = fabState (fabStatus (trainPorts (selfRoot s))) := rfl

theorem fabOn_quiet (s : State) : RegsKept FabQuiet (selfRoot s) (fabOn s) := by
  rw [fabOn_eq]
  generalize selfRoot s = u
  have htrain := (trainPorts_kept u).mono (Q := FabQuiet) fun _ h => h.2
  exact (htrain.trans (fabStatus_quiet _)).trans (fabState_quiet _)

theorem fabOn_fabric (s : State) : ∃ p, (fabOn s).fabric = { (selfRoot s).fabric with port := p } := by
  rw [fabOn_eq]
  generalize selfRoot s = u
  obtain ⟨p, hp⟩ := trainPorts_fabric u
  exact ⟨p, by rw [fabState_fabric, fabStatus_fabric, hp]⟩

theorem pair_lt (s : State) (lo hi : Nat) : s.pair lo hi < 2 ^ 64 := by
  have hlo := s.rn_lt lo
  have hhi := s.rn_lt hi
  rw [State.pair]
  omega

theorem selfRoot_regs (s : State) : (selfRoot s).regs = (selfSerial s).regs := by rw [selfRoot]

theorem selfRoot_fabric (s : State) :
    (selfRoot s).fabric = rootSince s.fabric ((selfSerial s).fv fFABRIC_CFG_PRIORITY) s.now := by
  rw [selfRoot]
  rw [selfSerial, State.setPair_fabric, State.setPair_now]

theorem selfRoot_serial (s : State) : (selfRoot s).pair rFABRIC_ROOT_SERIAL_LO rFABRIC_ROOT_SERIAL_HI = serialOf s := by
  have hlt : serialOf s < 2 ^ 64 := pair_lt s _ _
  rw [pair_congr (selfRoot_regs s), selfSerial, State.pair_setPair_same (by decide), Nat.mod_eq_of_lt hlt]

theorem selfRoot_cfg (s : State) {f : Fld} (hf : f.off = rFABRIC_CFG) : (selfRoot s).fv f = s.fv f :=
  (fv_congr (selfRoot_regs s) f).trans (State.fv_setPair_other (by rw [hf]; decide) s _)

theorem fabOn_cfg (s : State) {f : Fld} (hf : f.off = rFABRIC_CFG) : (fabOn s).fv f = s.fv f := by
  rw [(fabOn_quiet s).fv (by rw [hf]; exact ⟨by decide, fun j _ => by grind⟩), selfRoot_cfg s hf]

theorem fabOn_serial (s : State) : (fabOn s).pair rFABRIC_ROOT_SERIAL_LO rFABRIC_ROOT_SERIAL_HI = serialOf s := by
  rw [(fabOn_quiet s).pair ⟨by decide, fun j _ => by grind⟩ ⟨by decide, fun j _ => by grind⟩, selfRoot_serial]

theorem fabOn_root (s : State) : (fabOn s).fabric.rootPrio = s.fv fFABRIC_CFG_PRIORITY ∧ (fabOn s).fabric.rootAt = s.now
    ∧ (fabOn s).fabric.stable = false := by
  obtain ⟨p, hp⟩ := fabOn_fabric s
  rw [hp, selfRoot_fabric, selfSerial, State.fv_setPair_other (by decide)]
  exact ⟨rfl, rfl, rfl⟩

/-! ### The fabric stops (R459) -/

/-- A route is forgotten. -/
def routeCleared (s : State) (d : Nat) : State :=
  if s.on (fFABRIC_ROUTE_PINNED d) then s.setF (fFABRIC_ROUTE_LOCAL d) 0 else s.setRn (rFABRIC_ROUTE d) 0

/-- Every port is DOWN. -/
def portsDropped (s : State) : State := ports4.foldl portDrop s

/-- The fabric forgets its root and the IDs that it granted. -/
def rootForgotten (x : Fabric) : Fabric := { x with rootPrio := 0, stable := false, seen := [], granted := [], t1 := none }

/-- No STATUS, no root, and no routes. -/
def statusCleared (s : State) : State :=
  (List.range 64).foldl routeCleared ((s.setRn rFABRIC_STATUS 0).setPair rFABRIC_ROOT_SERIAL_LO rFABRIC_ROOT_SERIAL_HI 0)

theorem fabOff_eq (s : State) : fabOff s =
    { statusCleared (portsDropped s) with fabric := rootForgotten (statusCleared (portsDropped s)).fabric } := rfl

theorem fabOff_regs (s : State) : (fabOff s).regs = (statusCleared (portsDropped s)).regs := rfl

/-- A register that no route is. -/
abbrev NoRoute (o : Nat) : Prop := ∀ d < 64, o ≠ rFABRIC_ROUTE d

theorem routesCleared_kept (s : State) : RegsKept NoRoute s ((List.range 64).foldl routeCleared s) := by
  refine .foldl (.refl _ s) fun u d hd => .ite (fun _ => ?_) fun _ => ?_
  · exact (RegsKept.refl _ u).setF _ fun h => h d (List.mem_range.mp hd) rfl
  · exact (RegsKept.refl _ u).setRn _ fun h => h d (List.mem_range.mp hd) rfl

theorem statusCleared_kept (s : State) {P : Nat → Prop}
    (hP : ∀ o, P o → NoRoute o ∧ o ≠ rFABRIC_STATUS ∧ o ≠ rFABRIC_ROOT_SERIAL_LO ∧ o ≠ rFABRIC_ROOT_SERIAL_HI) :
    RegsKept P s (statusCleared s) :=
  (((RegsKept.refl _ s).setRn _ fun h => (hP _ h).2.1 rfl).setPair _ (fun h => (hP _ h).2.2.1 rfl)
    fun h => (hP _ h).2.2.2 rfl).trans ((routesCleared_kept _).mono fun _ h => (hP _ h).1)

theorem statusCleared_status (s : State) : (statusCleared s).rn rFABRIC_STATUS = 0 := by
  rw [statusCleared, (routesCleared_kept _).rn _ (fun d _ => by grind), State.rn_setPair_other (by decide) (by decide), State.rn_setRn_same]
  rfl

theorem statusCleared_serial (s : State) : (statusCleared s).pair rFABRIC_ROOT_SERIAL_LO rFABRIC_ROOT_SERIAL_HI = 0 := by
  rw [statusCleared, (routesCleared_kept _).pair (fun d _ => by grind) (fun d _ => by grind), State.pair_setPair_same (by decide)]
  exact Nat.zero_mod _

theorem portsDropped_steady (s : State) : RegsKept SteadyReg s (portsDropped s) :=
  RegsKept.foldl (.refl _ s) fun u k _ => portDrop_steady u k

theorem portSt_portsDropped {s : State} {k : Nat} (hk : k < 4) : portSt (portsDropped s) k = 0 :=
  foldl_reaches (I := fun _ => True) (Q := fun u => portSt u k = 0) (mem_ports4.mpr hk) trivial (fun _ _ _ _ => trivial)
    (fun _ _ => portSt_portDrop_same hk) fun _ _ _ ha hu => (portSt_portDrop_other hk (Ne.symm ha)).trans hu

theorem fabOff_cfg {s : State} {f : Fld} (hf : f.off = rFABRIC_CFG) : (fabOff s).fv f = s.fv f := by
  rw [fv_congr (fabOff_regs s), (statusCleared_kept _ (P := (· = rFABRIC_CFG)) ?_).fv hf, (portsDropped_steady s).fv (.inl hf)]
  rintro o rfl
  exact ⟨fun d _ => by grind, by decide, by decide, by decide⟩

theorem portSt_fabOff {s : State} {k : Nat} (hk : k < 4) : portSt (fabOff s) k = 0 := by
  rw [portSt_congr (fabOff_regs s), portSt, (statusCleared_kept _ (P := (· = rFABRIC_PORT_STATUS k)) ?_).fv rfl]
  · exact portSt_portsDropped hk
  · rintro o rfl
    exact ⟨fun d _ => by grind, by grind, by grind, by grind⟩

/-! ### A write of CFG (R432, R460) -/

/-- The write would change the configuration of a running fabric. -/
def fabCfgDiffers (s : State) (n : Nat) : Bool :=
  bitsOf n 0 2 != s.fv fFABRIC_CFG_LAYOUT || bitsOf n 3 2 != bitsOf (s.rn rFABRIC_CFG) 3 2
    || bitsOf n 8 15 != bitsOf (s.rn rFABRIC_CFG) 8 15

theorem fabCfgDiffers_of_prio {s : State} {n : Nat} (h : bitsOf n 8 8 ≠ s.fv fFABRIC_CFG_PRIORITY) : fabCfgDiffers s n = true := by
  have hne : bitsOf n 8 15 ≠ bitsOf (s.rn rFABRIC_CFG) 8 15 := by
    intro heq
    refine h ?_
    have hsub : bitsOf (bitsOf n 8 15) 0 8 = bitsOf (bitsOf (s.rn rFABRIC_CFG) 8 15) 0 8 := by rw [heq]
    rwa [bitsOf_bitsOf (by decide), bitsOf_bitsOf (by decide)] at hsub
  simp [fabCfgDiffers, hne]

theorem fabricEnable_refused {s : State} {v : Word} (h : bitsOf v.toNat 0 2 = 3 ∨ 64 < bitsOf v.toNat 16 7) :
    fabricEnable s v = s.ev fFABRIC_EVENT_CFG_INVALID := by
  unfold fabricEnable
  rw [if_pos (by simpa using h)]

section
variable {s : State} {v : Word} (hlayout : bitsOf v.toNat 0 2 ≠ 3) (hid : bitsOf v.toNat 16 7 ≤ 64)
include hlayout hid

theorem fabricEnable_running (hen : s.on fFABRIC_CFG_EN = true) :
    fabricEnable s v = if bitAt v.toNat 2 then s.evIf (fabCfgDiffers s v.toNat) fFABRIC_EVENT_CFG_IGNORED
      else fabOff ((s.evIf (fabCfgDiffers s v.toNat) fFABRIC_EVENT_CFG_IGNORED).setF fFABRIC_CFG_EN 0) := by
  unfold fabricEnable
  rw [if_neg (by simp [hlayout, hid]), if_pos hen]
  rfl

theorem fabricEnable_starts (hen : s.on fFABRIC_CFG_EN = false) (hv : bitAt v.toNat 2 = true) :
    fabricEnable s v = fabOn (plainWrite s rFABRIC_CFG v) := by
  unfold fabricEnable
  rw [if_neg (by simp [hlayout, hid]), if_neg (by simp [hen])]
  exact if_pos hv

theorem serialOf_cfgWrite : serialOf (plainWrite s rFABRIC_CFG v) = serialOf s := by
  obtain ⟨-, hkept⟩ := plainWrite_fields fabCfg_row (fabCfg_good hlayout hid) s
  refine (hkept (fun o => o = rIDENT_SERIAL_LO ∨ o = rIDENT_SERIAL_HI) (fun o ho => not_irqReg_iff.mpr ?_) (by decide)).pair
    (.inl rfl) (.inr rfl)
  obtain rfl | rfl := ho <;> decide

theorem cfgWrite_field {f : RegField} (hf : f ∈ fabCfgFields) (hacc : f.acc = .rw) :
    (plainWrite s rFABRIC_CFG v).fv ⟨rFABRIC_CFG, f.lsb, f.width⟩ = bitsOf v.toNat f.lsb f.width :=
  (plainWrite_fields fabCfg_row (fabCfg_good hlayout hid) s).1 f hf hacc
end

end Sys2Proof.Machine

namespace Sys2Proof.Machine

/-! ### A port is trained (R433) -/

theorem healthyGroup_length (s : State) (k : Nat) : (healthyGroup s k).length ≤ 8 := by
  unfold healthyGroup
  dsimp only
  generalize portLanes s k = l
  cases hfind : List.find? _ _ with
  | none => exact Nat.zero_le _
  | some g =>
    have hmem := List.mem_of_find?_eq_some hfind
    simp only [List.mem_append, List.mem_map] at hmem
    obtain (⟨m, -, rfl⟩ | ⟨m, -, rfl⟩) | ⟨m, -, rfl⟩ := hmem <;> simp

/-- A port whose lanes are trained. -/
def FabPort.trained (x : FabPort) (l : List Nat) (now : Nat) : FabPort := { x with lanes := l, helloAt := now, authSent := 1 }

/-- Port `k` authenticates over the lanes `l`. -/
def authStarted (s : State) (k : Nat) (l : List Nat) : State :=
  let s := enterPort (s.setF (fFABRIC_PORT_STATUS_WIDTH k) l.length) k 2
  let s := s.setRn (rFABRIC_PORT_AUTH k) 0
  updFabPort s k (fun x => x.trained l s.now)

theorem portTrained_eq {s : State} {k : Nat} (hst : portSt s k = 1) (hl : healthyGroup s k ≠ []) :
    portTrained s k = portSend (fabState (authStarted s k (healthyGroup s k))) k (.auth 1) := by
  have hgo : ¬ (portSt s k != 1 || (healthyGroup s k).isEmpty) = true := by simp [hst, hl]
  exact if_neg hgo

theorem authStarted_port (s : State) (k : Nat) (l : List Nat) :
    (fabPort (authStarted s k l) k).lanes = l ∧ (fabPort (authStarted s k l) k).since = s.now := by
  unfold authStarted
  dsimp only
  rw [fabPort_updFabPort_same]
  refine ⟨rfl, ?_⟩
  have hport : ∀ u : State, fabPort (u.setRn (rFABRIC_PORT_AUTH k) 0) k = fabPort u k := fun _ => rfl
  rw [hport, enterPort, fabPort_updFabPort_same]
  rfl

theorem authStarted_regs (s : State) (k : Nat) (l : List Nat) : (authStarted s k l).regs
    = ((enterPort (s.setF (fFABRIC_PORT_STATUS_WIDTH k) l.length) k 2).setRn (rFABRIC_PORT_AUTH k) 0).regs := rfl

theorem portSt_authStarted (s : State) (k : Nat) (l : List Nat) : portSt (authStarted s k l) k = 2 := by
  rw [portSt_congr (authStarted_regs s k l), portSt, State.fv_setRn_other (by grind)]
  exact portSt_enterPort_same _ k (by decide)

theorem width_authStarted (s : State) (k : Nat) {l : List Nat} (hl : l.length ≤ 8) :
    (authStarted s k l).fv (fFABRIC_PORT_STATUS_WIDTH k) = l.length := by
  have hregs : (enterPort (s.setF (fFABRIC_PORT_STATUS_WIDTH k) l.length) k 2).regs
      = ((s.setF (fFABRIC_PORT_STATUS_WIDTH k) l.length).setF (fFABRIC_PORT_STATUS_STATE k) 2).regs := rfl
  rw [fv_congr (authStarted_regs s k l), State.fv_setRn_other (by grind), fv_congr hregs, fv_setF_of_apart (by grind),
    State.fv_setF_same _ _ _ (by grind)]
  exact Nat.mod_eq_of_lt (by change l.length < 16; omega)

theorem rn_fabState_other {o : Nat} (h : o ≠ rFABRIC_STATUS) (s : State) : (fabState s).rn o = s.rn o := rn_setF_other h

theorem auth_authStarted (s : State) (k : Nat) (l : List Nat) : (authStarted s k l).rn (rFABRIC_PORT_AUTH k) = 0 := by
  rw [rn_congr (authStarted_regs s k l), State.rn_setRn_same]
  rfl

theorem portSt_fabState {s : State} {k : Nat} (hk : k < 4) : portSt (fabState s) k = portSt s k :=
  (fabState_kept s).fv _ (portState_booked hk)

theorem Posted.lanes {s t : State} (h : Posted s t) (j : Nat) : (fabPort t j).lanes = (fabPort s j).lanes := by
  change (fabPort t j).standing.lanes = (fabPort s j).standing.lanes
  rw [h.port j]

theorem Posted.since {s t : State} (h : Posted s t) (j : Nat) : (fabPort t j).since = (fabPort s j).since := by
  change (fabPort t j).standing.since = (fabPort s j).standing.since
  rw [h.port j]

theorem Posted.authStep {s t : State} (h : Posted s t) (j : Nat) : (fabPort t j).authStep = (fabPort s j).authStep := by
  change (fabPort t j).standing.authStep = (fabPort s j).standing.authStep
  rw [h.port j]

/-! ### A port is UP (R444) -/

/-- Both sides have passed step 4. -/
def bothPassed (s : State) (k : Nat) : Bool :=
  portSt s k = 2 && (fabPort s k).authStep = 4 && (fabPort s k).hello.any (fun h => decide (4 ≤ h.step))

/-- Port `k` comes UP. -/
def cameUp (s : State) (k : Nat) : State :=
  (enterPort ((s.setF (fFABRIC_PORT_AUTH_RESULT k) 1).setF (fFABRIC_PORT_AUTH_REASON k) 0) k 3).ev fFABRIC_EVENT_PORT_UP

theorem tryUp_eq (s : State) (k : Nat) :
    tryUp s k = if bothPassed s k then launchHeld (pumpPort (fillRoutes (cameUp s k)) k) else s := rfl

theorem bothPassed_of {s : State} {k : Nat} {h : Hello} (hst : portSt s k = 2) (hstep : (fabPort s k).authStep = 4)
    (hhello : (fabPort s k).hello = some h) (hh : 4 ≤ h.step) : bothPassed s k = true := by
  simp [bothPassed, hst, hstep, hhello, hh]

theorem tryUp_of_not_passed {s : State} {k : Nat} (h : (fabPort s k).authStep ≠ 4) : tryUp s k = s := by
  rw [tryUp_eq, if_neg (by simp [bothPassed, h])]

theorem cameUp_routes_kept (s : State) (k : Nat) :
    FabKept Booked (cameUp s k) (launchHeld (pumpPort (fillRoutes (cameUp s k)) k)) :=
  ((fillRoutes_kept _).posted (pumpPort_posted _ k)).posted (launchHeld_posted _)

theorem cameUp_state (s : State) (k : Nat) : portSt (cameUp s k) k = 3 := by
  rw [cameUp, portSt, fv_ev_of_apart (by grind) (by grind)]
  exact portSt_enterPort_same _ k (by decide)

theorem cameUp_result (s : State) (k : Nat) : (cameUp s k).fv (fFABRIC_PORT_AUTH_RESULT k) = 1 := by
  rw [cameUp, fv_ev_of_apart (by grind) (by grind), (enterPort_kept _ k 3).fv (by grind), fv_setF_of_apart (by grind),
    State.fv_setF_same _ _ _ (by grind)]
  rfl

theorem cameUp_event (s : State) (k : Nat) : (cameUp s k).fv fFABRIC_EVENT_PORT_UP = 1 := by
  rw [cameUp, fv_ev_set (by decide) (by decide)]
  rfl

/-- A port both of whose sides have passed step 4 comes UP. -/
theorem tryUp_passed {s : State} {k : Nat} (hk : k < 4) (h : bothPassed s k = true) :
    portSt (tryUp s k) k = 3 ∧ (tryUp s k).fv fFABRIC_EVENT_PORT_UP = 1
      ∧ (tryUp s k).fv (fFABRIC_PORT_AUTH_RESULT k) = 1 := by
  have hkept := cameUp_routes_kept s k
  rw [tryUp_eq, if_pos h]
  refine ⟨?state, ?event, ?result⟩
  case state => rw [portSt, hkept.fv _ (portState_booked hk), ← portSt, cameUp_state]
  case event => rw [hkept.fv _ (by constructor <;> grind), cameUp_event]
  case result => rw [hkept.fv _ (by constructor <;> grind), cameUp_result]

theorem cameUp_fabPort (s : State) (k j : Nat) : fabPort (cameUp s k) j
    = fabPort (enterPort ((s.setF (fFABRIC_PORT_AUTH_RESULT k) 1).setF (fFABRIC_PORT_AUTH_REASON k) 0) k 3) j :=
  fabPort_congr (State.ev_fabric _ _) j

theorem hello_tryUp (s : State) (k j : Nat) : (fabPort (tryUp s k) j).hello = (fabPort s j).hello := by
  rw [tryUp_eq]
  split
  · rw [(cameUp_routes_kept s k).hello, cameUp_fabPort, hello_enterPort]
    rfl
  · rfl

theorem helloAt_enterPort (s : State) (k st j : Nat) : (fabPort (enterPort s k st) j).helloAt = (fabPort s j).helloAt := by
  by_cases h : j = k
  · rw [h, enterPort, fabPort_updFabPort_same]
    rfl
  · rw [enterPort, updFabPort, fabPort_setFabPort_other h]
    rfl

theorem helloAt_tryUp (s : State) (k j : Nat) : (fabPort (tryUp s k) j).helloAt = (fabPort s j).helloAt := by
  rw [tryUp_eq]
  split
  · rw [(cameUp_routes_kept s k).helloAt, cameUp_fabPort, helloAt_enterPort]
    rfl
  · rfl

theorem fv_tryUp {g : Fld} (hg : Booked g) {k : Nat} (hstate : g.Beside (fFABRIC_PORT_STATUS_STATE k))
    (hauth : g.off ≠ rFABRIC_PORT_AUTH k) (hevent : g.off ≠ rFABRIC_EVENT) (s : State) : (tryUp s k).fv g = s.fv g := by
  rw [tryUp_eq]
  split
  · have hregs : ∀ u : State, (enterPort u k 3).regs = (u.setF (fFABRIC_PORT_STATUS_STATE k) 3).regs := fun _ => rfl
    rw [(cameUp_routes_kept s k).fv _ hg, cameUp, fv_ev_of_apart (.inl hevent) hg.noIrq, fv_congr (hregs _),
      fv_setF_of_apart hstate, State.fv_setF_other hauth, State.fv_setF_other hauth]
  · rfl

/-! ### A failed authentication (R444) -/

/-- The port forgets what it heard and what waits. -/
def FabPort.silenced (x : FabPort) : FabPort := { x with hello := none, waiting := [], store := [] }

/-- Port `k` is HELD for `reason`. -/
def portHeld (s : State) (k reason : Nat) : State :=
  let s := (s.setF (fFABRIC_PORT_AUTH_RESULT k) 2).setF (fFABRIC_PORT_AUTH_REASON k) reason
  let s := enterPort (updFabPort s k FabPort.silenced) k 4
  fabReport (s.ev fFABRIC_EVENT_AUTH_FAIL) k 0x0003

theorem authFail_eq (s : State) (k reason : Nat) : authFail s k reason = fabState (electRoot (portHeld s k reason)) := rfl

theorem authFail_kept (s : State) (k reason : Nat) : FabKept Booked (portHeld s k reason) (authFail s k reason) := by
  rw [authFail_eq]
  exact (electRoot_kept _).trans (fabState_kept _)

/-- What a port shows whose authentication has failed. -/
structure AuthFailed (t : State) (k reason : Nat) : Prop where
  state : portSt t k = 4
  result : t.fv (fFABRIC_PORT_AUTH_RESULT k) = 2
  reason : t.fv (fFABRIC_PORT_AUTH_REASON k) = reason
  event : t.fv fFABRIC_EVENT_AUTH_FAIL = 1
  hello : (fabPort t k).hello = none
  code : (faultCode 0x18 k 0x0003, 0) ∈ t.isl.inbox

theorem portHeld_failed (s : State) (k : Nat) {reason : Nat} (hr : reason < 16) : AuthFailed (portHeld s k reason) k reason := by
  have hregs : ∀ u : State, (updFabPort u k FabPort.silenced).regs = u.regs := fun _ => rfl
  unfold portHeld
  dsimp only
  constructor
  case state =>
    rw [fabReport, portSt, report_fv, fv_ev_of_apart (by grind) (by grind)]
    exact portSt_enterPort_same _ k (by decide)
  case result =>
    rw [fabReport, report_fv, fv_ev_of_apart (by grind) (by grind), (enterPort_kept _ k 4).fv (by grind), fv_congr (hregs _),
      fv_setF_of_apart (by grind), State.fv_setF_same _ _ _ (by grind)]
    rfl
  case reason =>
    rw [fabReport, report_fv, fv_ev_of_apart (by grind) (by grind), (enterPort_kept _ k 4).fv (by grind), fv_congr (hregs _),
      State.fv_setF_same _ _ _ (by grind)]
    exact Nat.mod_eq_of_lt hr
  case event =>
    rw [fabReport, report_fv, fv_ev_set (by decide) (by decide)]
    rfl
  case hello =>
    have hfabric : ∀ u : State, (fabReport (u.ev fFABRIC_EVENT_AUTH_FAIL) k 0x0003).fabric = u.fabric :=
      fun u => State.ev_fabric u _
    rw [fabPort_congr (hfabric _), hello_enterPort, fabPort_updFabPort_same]
    rfl
  case code =>
    rw [fabReport, State.report_inbox]
    exact List.mem_append_right _ (List.mem_singleton_self _)

theorem authFail_failed {s : State} {k reason : Nat} (hk : k < 4) (hr : reason < 16) :
    AuthFailed (authFail s k reason) k reason := by
  have hkept := authFail_kept s k reason
  obtain ⟨hstate, hresult, hreason, hevent, hhello, hcode⟩ := portHeld_failed s k hr
  constructor
  case state => rw [portSt, hkept.fv _ (portState_booked hk), ← portSt, hstate]
  case result => rw [hkept.fv _ (by constructor <;> grind), hresult]
  case reason => rw [hkept.fv _ (by constructor <;> grind), hreason]
  case event => rw [hkept.fv _ (by constructor <;> grind), hevent]
  case hello => rw [hkept.hello, hhello]
  case code => exact hkept.inbox _ hcode

/-! ### Messages of the authentication -/

/-- Port `k` has passed a step. -/
def FabPort.passed (x : FabPort) (step : Nat) (m : AuthMsg) : FabPort :=
  { x with
    authStep := step, authSent := min 4 (step + 1),
    peer := (match m with
      | .start _ n => n
      | _ => x.peer) }

/-- A step is answered by the next one, and the port may come UP. -/
def stepPassed (s : State) (k step : Nat) (m : AuthMsg) : State :=
  let s := updFabPort s k (fun x => x.passed step m)
  let s := if step < 4 then portSend s k (.auth (step + 1)) else s
  tryUp s k

theorem authMessage_eq {s : State} {k : Nat} {m : AuthMsg} {step reason : Nat} (hst : portSt s k = 2)
    (hcheck : authCheck s k m = (step, reason)) (hstep : step = (fabPort s k).authStep + 1) :
    authMessage s k m = if reason ≠ 0 then authFail s k reason else stepPassed s k step m := by
  have hgo : ¬ (portSt s k != 2) = true := by simp [hst]
  unfold authMessage
  rw [if_neg hgo, hcheck]
  exact if_neg (by simp [hstep])

theorem stepPassed_next {s : State} {k step : Nat} (hstep : step < 4) (m : AuthMsg) :
    stepPassed s k step m = portSend (updFabPort s k (fun x => x.passed step m)) k (.auth (step + 1)) := by
  unfold stepPassed
  dsimp only
  rw [if_pos hstep, tryUp_of_not_passed]
  rw [(portSend_posted _ k _).authStep, fabPort_updFabPort_same]
  change step ≠ 4
  omega

theorem stepPassed_last (s : State) (k : Nat) (m : AuthMsg) :
    stepPassed s k 4 m = tryUp (updFabPort s k (fun x => x.passed 4 m)) k := rfl

end Sys2Proof.Machine

namespace Sys2Proof.Machine

/-! ### A HELLO arrives (R443, R446) -/

/-- The claim of this device is noted as seen. -/
def claimNoted (s : State) : State :=
  { s with fabric := { s.fabric with
    seqNo := s.fabric.seqNo + 1, seen := (2 * serialOf s, s.fabric.seqNo) :: s.fabric.seen } }

theorem claimId_eq (s : State) : claimId s =
    sendUp (claimNoted s) (.claim (serialOf s) s.fabric.seqNo (s.fv fFABRIC_CFG_ID_REQ)) 4 := rfl

theorem claimId_kept (P : Fld → Prop) (s : State) : FabKept P s (claimId s) := by
  rw [claimId_eq]
  have hnoted : FabKept P s (claimNoted s) := (FabKept.refl P s).fabric rfl rfl
  exact hnoted.posted (sendUp_posted _ _ 4)

/-- A field that the election and a loss of the ID leave alone. -/
abbrev FarFromId (g : Fld) : Prop := Booked g ∧ g.off ≠ rFABRIC_STATUS ∧ g.off ≠ rFABRIC_EVENT

/-- The device loses the fabric ID `d`. -/
def idLost (s : State) (d : Nat) : State :=
  fabReport (((s.setF fFABRIC_STATUS_ID_VALID 0).setF fFABRIC_STATUS_ID 0).ev fFABRIC_EVENT_ID_CHANGED) d 0x0008

theorem idLost_kept (s : State) (d : Nat) : FabKept FarFromId s (idLost s d) :=
  ((((FabKept.refl _ s).setF _ fun _ hg => .inl hg.2.1).setF _ fun _ hg => .inl hg.2.1).ev
    fun _ hg => ⟨.inl hg.2.2, hg.1.noIrq⟩).fabReport d 0x0008

theorem idConflict_kept (s : State) (h : Hello) : FabKept FarFromId s (idConflict s h) := by
  unfold idConflict
  split
  next d _ =>
    refine .ite (fun _ => ?_) fun _ => .refl _ s
    exact .ite (fun _ => (idLost_kept s d).trans (claimId_kept _ (idLost s d))) fun _ => idLost_kept s d
  next => exact .refl _ s

/-- Port `k` has heard `h`. -/
def FabPort.heard (x : FabPort) (h : Hello) (now : Nat) : FabPort := { x with hello := some h, helloAt := now }

/-- The neighbour of port `k` is the sender of `h`. -/
def neighbourKnown (s : State) (k : Nat) (h : Hello) : State :=
  let s := updFabPort s k (fun x => x.heard h s.now)
  let s := s.setPair (rFABRIC_PORT_NB_SERIAL_LO k) (rFABRIC_PORT_NB_SERIAL_HI k) h.serial
  (s.setF (fFABRIC_PORT_STATUS_NB_ID k) (h.id.getD 0)).setF (fFABRIC_PORT_STATUS_NB_ID_VALID k) (b2n h.id.isSome)

/-- The neighbour is known, and the ID and the root have been looked at again. -/
def helloTaken (s : State) (k : Nat) (h : Hello) : State := electRoot (idConflict (neighbourKnown s k h) h)

theorem helloReceived_eq {s : State} {k : Nat} (htalks : portTalks s k = true) (h : Hello) :
    helloReceived s k h = launchHeld (fabState (fillRoutes (tryUp (helloTaken s k h) k))) := by
  have hgo : ¬ (!portTalks s k) = true := by simp [htalks]
  exact if_neg hgo

theorem helloTaken_kept (s : State) (k : Nat) (h : Hello) : FabKept FarFromId (neighbourKnown s k h) (helloTaken s k h) :=
  (idConflict_kept _ h).trans ((electRoot_kept _).mono fun _ hg => hg.1)

theorem helloReceived_kept (s : State) : FabKept Booked s (launchHeld (fabState (fillRoutes s))) := by
  have hroutes := (fillRoutes_kept s).trans (fabState_kept _)
  exact hroutes.posted (launchHeld_posted _)

theorem neighbourKnown_fabPort (s : State) (k : Nat) (h : Hello) :
    fabPort (neighbourKnown s k h) k = (fabPort s k).heard h s.now := by
  have hregs : ∀ u : State, fabPort (((u.setPair (rFABRIC_PORT_NB_SERIAL_LO k) (rFABRIC_PORT_NB_SERIAL_HI k) h.serial).setF
      (fFABRIC_PORT_STATUS_NB_ID k) (h.id.getD 0)).setF (fFABRIC_PORT_STATUS_NB_ID_VALID k) (b2n h.id.isSome)) k
        = fabPort u k := fun u => rfl
  unfold neighbourKnown
  dsimp only
  rw [hregs, fabPort_updFabPort_same]

theorem neighbourKnown_serial (s : State) (k : Nat) (h : Hello) :
    (neighbourKnown s k h).pair (rFABRIC_PORT_NB_SERIAL_LO k) (rFABRIC_PORT_NB_SERIAL_HI k) = h.serial % 2 ^ 64 := by
  unfold neighbourKnown
  dsimp only
  rw [State.pair_setF_other (by grind), State.pair_setF_other (by grind), State.pair_setPair_same (by grind)]

theorem neighbourKnown_id (s : State) (k : Nat) (h : Hello) :
    (neighbourKnown s k h).fv (fFABRIC_PORT_STATUS_NB_ID k) = h.id.getD 0 % 64
      ∧ (neighbourKnown s k h).fv (fFABRIC_PORT_STATUS_NB_ID_VALID k) = b2n h.id.isSome := by
  unfold neighbourKnown
  dsimp only
  refine ⟨?_, ?_⟩
  · rw [fv_setF_of_apart (by grind), State.fv_setF_same _ _ _ (by grind)]
    rfl
  · rw [State.fv_setF_same _ _ _ (by grind)]
    cases h.id.isSome <;> rfl

theorem portSt_neighbourKnown (s : State) (k : Nat) (h : Hello) : portSt (neighbourKnown s k h) k = portSt s k := by
  unfold neighbourKnown portSt
  dsimp only
  rw [fv_setF_of_apart (by grind), fv_setF_of_apart (by grind), State.fv_setPair_other (by grind),
    fv_congr (updFabPort_regs _ _ _)]

/-- A field of the neighbour of port `k`. -/
def NbField (k : Nat) (g : Fld) : Prop :=
  g.off = rFABRIC_PORT_NB_SERIAL_LO k ∨ g.off = rFABRIC_PORT_NB_SERIAL_HI k ∨ g = fFABRIC_PORT_STATUS_NB_ID k
    ∨ g = fFABRIC_PORT_STATUS_NB_ID_VALID k

theorem NbField.booked {k : Nat} (hk : k < 4) {g : Fld} (h : NbField k g) : Booked g := by
  obtain h | h | rfl | rfl := h <;> constructor <;> grind

theorem NbField.beside {k : Nat} {g : Fld} (h : NbField k g) : g.Beside (fFABRIC_PORT_STATUS_STATE k) := by
  obtain h | h | rfl | rfl := h <;> grind

theorem NbField.apart {k : Nat} {g : Fld} (h : NbField k g) :
    g.off ≠ rFABRIC_STATUS ∧ g.off ≠ rFABRIC_EVENT ∧ g.off ≠ rFABRIC_PORT_AUTH k := by
  obtain h | h | rfl | rfl := h <;> grind

/-- What a HELLO says about the neighbour stays until the HELLO has been dealt with. -/
theorem helloReceived_neighbour {s : State} {k : Nat} (hk : k < 4) (htalks : portTalks s k = true) (h : Hello) {g : Fld}
    (hg : NbField k g) : (helloReceived s k h).fv g = (neighbourKnown s k h).fv g := by
  obtain ⟨hstatus, hevent, hauth⟩ := hg.apart
  rw [helloReceived_eq htalks, (helloReceived_kept _).fv _ (hg.booked hk), fv_tryUp (hg.booked hk) hg.beside hauth hevent,
    (helloTaken_kept s k h).fv _ ⟨hg.booked hk, hstatus, hevent⟩]

theorem fv_whole (u : State) (o : Nat) : u.fv ⟨o, 0, 32⟩ = u.rn o := by
  rw [State.fv, bitsOf, pow_zero, Nat.div_one, Nat.mod_eq_of_lt (u.rn_lt o)]

theorem helloReceived_serial {s : State} {k : Nat} (hk : k < 4) (htalks : portTalks s k = true) (h : Hello) :
    (helloReceived s k h).pair (rFABRIC_PORT_NB_SERIAL_LO k) (rFABRIC_PORT_NB_SERIAL_HI k) = h.serial % 2 ^ 64 := by
  have hlo := helloReceived_neighbour hk htalks h (g := ⟨rFABRIC_PORT_NB_SERIAL_LO k, 0, 32⟩) (.inl rfl)
  have hhi := helloReceived_neighbour hk htalks h (g := ⟨rFABRIC_PORT_NB_SERIAL_HI k, 0, 32⟩) (.inr (.inl rfl))
  rw [fv_whole, fv_whole] at hlo hhi
  rw [← neighbourKnown_serial s k h, State.pair, hlo, hhi, State.pair]

theorem helloReceived_port {s : State} {k : Nat} (htalks : portTalks s k = true) (h : Hello) :
    (fabPort (helloReceived s k h) k).hello = some h ∧ (fabPort (helloReceived s k h) k).helloAt = s.now := by
  rw [helloReceived_eq htalks, (helloReceived_kept _).hello, (helloReceived_kept _).helloAt, hello_tryUp, helloAt_tryUp,
    (helloTaken_kept s k h).hello, (helloTaken_kept s k h).helloAt, neighbourKnown_fabPort]
  exact ⟨rfl, rfl⟩

theorem bothPassed_helloTaken {s : State} {k : Nat} (hk : k < 4) (hst : portSt s k = 2) (hstep : (fabPort s k).authStep = 4)
    {h : Hello} (hh : 4 ≤ h.step) : bothPassed (helloTaken s k h) k = true := by
  have hkept := helloTaken_kept s k h
  refine bothPassed_of (h := h) ?state ?step ?hello hh
  case state =>
    rw [portSt, hkept.fv _ ⟨portState_booked hk, by grind, by grind⟩]
    exact (portSt_neighbourKnown s k h).trans hst
  case step =>
    rw [hkept.authStep, neighbourKnown_fabPort]
    exact hstep
  case hello =>
    rw [hkept.hello, neighbourKnown_fabPort]
    rfl

/-! ### A HELLO is sent (R436, R443) -/

theorem nextMsg_single {s : State} {k : Nat} {m : FabMsg} (hwait : (fabPort s k).waiting = [m]) (hstore : (fabPort s k).store = [])
    (hvc : msgVc m = 0) (hunits : msgUnits m ≤ 256) (hok : msgAllowed s k m = true) : nextMsg s k = some m := by
  have hfirst : firstOf [m] 0 = some m ∧ ∀ vc, 0 < vc → firstOf [m] vc = none := by
    refine ⟨by simp [firstOf, hvc], fun vc hpos => ?_⟩
    have hne : ¬ 0 = vc := by omega
    simp [firstOf, hvc, hne]
  have hroom : vcUsed (fabPort s k) 0 + msgUnits m ≤ vcUnits 0 := by
    rw [vcUsed, hstore]
    exact (Nat.zero_add _).le.trans hunits
  unfold nextMsg
  dsimp only
  rw [hwait]
  split <;> simp [hfirst.1, hfirst.2, hok, hroom]

/-- A message alone on an idle port leaves at once. -/
theorem portSend_idle {s : State} {k : Nat} {m : FabMsg} (hwait : (fabPort s k).waiting = []) (hstore : (fabPort s k).store = [])
    (hawake : portAwake s k = true) (hup : (fabPort s k).asleep = 0) (hvc : msgVc m = 0) (hunits : msgUnits m ≤ 256)
    (hok : msgAllowed s k m = true) : portSend s k m = flitSent (updFabPort s k (queuedFor m)) k m := by
  have hport : fabPort (updFabPort s k (queuedFor m)) k = queuedFor m (fabPort s k) := fabPort_updFabPort_same s k _
  have hqueue : (fabPort (updFabPort s k (queuedFor m)) k).waiting = [m] := by
    rw [hport]
    exact congrArg (· ++ [m]) hwait
  have hstore' : (fabPort (updFabPort s k (queuedFor m)) k).store = [] := by
    rw [hport]
    exact hstore
  have hawake' : portAwake (updFabPort s k (queuedFor m)) k = true := by
    rw [portAwake, hport]
    exact hawake
  have hasleep : (fabPort (updFabPort s k (queuedFor m)) k).asleep = 0 := by
    rw [hport]
    exact hup
  have hstall : portStalls (updFabPort s k (queuedFor m)) k = false := by
    rw [portStalls, hawake', hasleep, hstore']
    rfl
  have hok' : msgAllowed (updFabPort s k (queuedFor m)) k m = true := by
    cases m <;> exact hok
  rw [portSend_eq, pumpPort, hqueue]
  change pump (0 + 1) _ k = _
  rw [pump_succ, hstall, nextMsg_single hqueue hstore' hvc hunits hok']
  rfl

/-- The time of the last HELLO. -/
def FabPort.saidHello (x : FabPort) (now : Nat) : FabPort := { x with sentAt := some now }

theorem helloSend_eq {s : State} {k : Nat} (htalks : portTalks s k = true) (hsent : (fabPort s k).sentAt = none) :
    helloSend s k = portSend (updFabPort s k (fun x => x.saidHello s.now)) k (.hello (helloOf s k)) := by
  have hgo : (portTalks s k && (match (fabPort s k).sentAt with
      | some t => decide (t + 1000000 ≤ s.now)
      | none => true)) = true := by
    rw [htalks, hsent]
    rfl
  exact if_pos hgo

end Sys2Proof.Machine

namespace Sys2Proof.Machine

theorem onFabric_of_on {s : State} (hhub : s.pow.hubOn = true) (hdom : domOn s 12 = true) (t : State) :
    onFabric s t = .next t := by
  rw [onFabric, hub_of_on hhub, if_pos hdom]

theorem portTalks_state {s : State} {k : Nat} (h : portTalks s k = true) : portSt s k ≠ 0 := by
  simp only [portTalks, Bool.and_eq_true, Bool.or_eq_true, beq_iff_eq] at h
  omega

theorem cfgEvent_isolated (s : State) {f : Fld} (hf : f.off = rFABRIC_EVENT) :
    (s.ev f).fabric = s.fabric ∧ SameButEvents s (s.ev f) [rFABRIC_EVENT] :=
  ⟨State.ev_fabric s f,
    ((RegsKept.refl _ s).ev (ButEvents.not_of_mem (by simp [hf])) (ButEvents.not_irqReg _)).butEvents⟩

/-- What a port shows that has been given to the authentication. -/
theorem portTrained_shows {s : State} {k : Nat} (hk : k < 4) (hst : portSt s k = 1) (hl : healthyGroup s k ≠ []) :
    portSt (portTrained s k) k = 2 ∧ (portTrained s k).fv (fFABRIC_PORT_STATUS_WIDTH k) = (healthyGroup s k).length
      ∧ (fabPort (portTrained s k) k).lanes = healthyGroup s k ∧ (fabPort (portTrained s k) k).since = s.now
      ∧ (portTrained s k).rn (rFABRIC_PORT_AUTH k) = 0 ∧ Given (portTrained s k) k (.auth 1) := by
  have hsent := portSend_posted (fabState (authStarted s k (healthyGroup s k))) k (.auth 1)
  have hport : fabPort (fabState (authStarted s k (healthyGroup s k))) k = fabPort (authStarted s k (healthyGroup s k)) k :=
    fabPort_congr (fabState_fabric _) k
  obtain ⟨hlanes, hsince⟩ := authStarted_port s k (healthyGroup s k)
  rw [portTrained_eq hst hl]
  refine ⟨?state, ?width, ?lanes, ?since, ?auth, portSend_given _ _ _⟩
  case state => rw [portSt_congr hsent.regs, portSt_fabState hk, portSt_authStarted]
  case width =>
    rw [fv_congr hsent.regs, (fabState_kept _).fv _ (by constructor <;> grind), width_authStarted s k (healthyGroup_length s k)]
  case lanes => rw [hsent.lanes, hport, hlanes]
  case since => rw [hsent.since, hport, hsince]
  case auth => rw [rn_congr hsent.regs, rn_fabState_other (by grind), auth_authStarted]

theorem unlocked_port {s : State} {k m u : Nat} (hm : m ∈ (fabPort s k).lanes) (hu : (laneOf s m).unlockedAt = some u)
    (hlate : u + 1000000 < s.now) (hup : portUp s k = true) : portRetrain s k = fabDown s k := by
  have hany : ((fabPort s k).lanes.any fun m => match (laneOf s m).unlockedAt with
      | some t => decide (t + 1000000 < s.now)
      | none => false) = true :=
    List.any_eq_true.mpr ⟨m, hm, by rw [hu]; exact decide_eq_true hlate⟩
  have hgo : (portUp s k && (fabPort s k).lanes.any fun m => match (laneOf s m).unlockedAt with
      | some t => decide (t + 1000000 < s.now)
      | none => false) = true := by rw [hup, hany]; rfl
  exact if_pos hgo

theorem flitSent_parts (s : State) (k : Nat) (m : FabMsg) :
    (flitSent s k m).fabric.sent = s.fabric.sent ++ [(k, m)] ∧ (flitSent s k m).regs = s.regs
      ∧ fabPort (flitSent s k m) k = flitFilled s m (fabPort s k) :=
  ⟨rfl, rfl, by rw [flitSent_fabPort, fabPort_setFabPort_same]⟩

theorem flitFilled_parts (s : State) (m : FabMsg) (x : FabPort) :
    (flitFilled s m x).sentAt = x.sentAt ∧ (flitFilled s m x).seq = (x.seq + 1) % 4096
      ∧ (flitFilled s m x).store = x.store ++ [(x.seq, m)] := ⟨rfl, rfl, rfl⟩

theorem queuedFor_parts (m : FabMsg) (x : FabPort) :
    (queuedFor m x).sentAt = x.sentAt ∧ (queuedFor m x).seq = x.seq ∧ (queuedFor m x).store = x.store := ⟨rfl, rfl, rfl⟩

/-- The HELLO of an idle port leaves in the next flit. -/
theorem helloSend_sends {s : State} {k : Nat} (htalks : portTalks s k = true) (hsent : (fabPort s k).sentAt = none)
    (hwait : (fabPort s k).waiting = []) (hawake : portAwake s k = true) (hasleep : (fabPort s k).asleep = 0)
    (hstore : (fabPort s k).store = []) :
    (helloSend s k).fabric.sent = s.fabric.sent ++ [(k, .hello (helloOf s k))]
      ∧ (fabPort (helloSend s k) k).sentAt = some s.now ∧ (fabPort (helloSend s k) k).seq = ((fabPort s k).seq + 1) % 4096
      ∧ (fabPort (helloSend s k) k).store = [((fabPort s k).seq, .hello (helloOf s k))] ∧ (helloSend s k).regs = s.regs := by
  have hport : fabPort (updFabPort s k fun x => x.saidHello s.now) k = (fabPort s k).saidHello s.now :=
    fabPort_updFabPort_same s k _
  have hidle := portSend_idle (s := updFabPort s k fun x => x.saidHello s.now) (k := k) (m := .hello (helloOf s k))
    (by rw [hport]; exact hwait) (by rw [hport]; exact hstore) (by rw [portAwake, hport]; exact hawake)
    (by rw [hport]; exact hasleep) rfl (show 1 ≤ 256 by decide) htalks
  have hsaid : ((fabPort s k).saidHello s.now).sentAt = some s.now ∧ ((fabPort s k).saidHello s.now).seq = (fabPort s k).seq
    ∧ ((fabPort s k).saidHello s.now).store = (fabPort s k).store := ⟨rfl, rfl, rfl⟩
  have hout' : ∀ (u : State) (g : FabPort → FabPort), (updFabPort u k g).fabric.sent = u.fabric.sent := fun _ _ => rfl
  obtain ⟨hout, hregs, hthere⟩ := flitSent_parts
    (updFabPort (updFabPort s k fun x => x.saidHello s.now) k (queuedFor (.hello (helloOf s k)))) k (.hello (helloOf s k))
  rw [fabPort_updFabPort_same, hport] at hthere
  rw [helloSend_eq htalks hsent, hidle, hout, hregs, hthere, hout', hout', updFabPort_regs, updFabPort_regs]
  generalize updFabPort _ _ _ = u
  obtain ⟨hat, hseq, hkept⟩ := flitFilled_parts u (.hello (helloOf s k))
    (queuedFor (.hello (helloOf s k)) ((fabPort s k).saidHello s.now))
  obtain ⟨hat', hseq', hkept'⟩ := queuedFor_parts (.hello (helloOf s k)) ((fabPort s k).saidHello s.now)
  refine ⟨rfl, ?_, ?_, ?_, rfl⟩
  · rw [hat, hat', hsaid.1]
  · rw [hseq, hseq', hsaid.2.1]
  · rw [hkept, hkept', hseq', hsaid.2.1, hsaid.2.2, hstore]
    rfl

/-- Settles O26: the election and the routes leave alone what a port shows of itself, a port that goes DOWN trains at once if
its conditions hold, and a message alone on an idle port leaves in the next flit. -/
theorem fabricPorts : Obligations.FabricPorts := by
  refine ⟨?starts, ?invalid, ?ignored, ?stops, ?trained, ?trainingTimeout, ?retrain, ?helloSend, ?hello, ?helloUp,
    ?helloTimeout, ?authNext, ?authFails, ?authLast, ?authTimeout, ?heldExpiry⟩
  case starts =>
    intro s v hhub hdom hen hv hlayout hid
    refine ⟨_, onFabric_of_on hhub hdom _, ?_⟩
    dsimp only
    rw [fabricEnable_starts hlayout hid hen hv]
    obtain ⟨hprio, hat, hstable⟩ := fabOn_root (plainWrite s rFABRIC_CFG v)
    have hfield {f : RegField} (hf : f ∈ fabCfgFields) (hacc : f.acc = .rw) := cfgWrite_field (s := s) hlayout hid hf hacc
    refine ⟨?en, ?layout, ?prio, ?req, ?serial, ?rootPrio, ?since, hstable⟩
    case en =>
      have hbit : (plainWrite s rFABRIC_CFG v).fv fFABRIC_CFG_EN = bitsOf v.toNat 2 1 :=
        hfield (f := rw 2 1 0) (by simp [fabCfgFields]) rfl
      rw [fabOn_cfg _ rfl, hbit]
      rw [bitAt_eq_bitsOf] at hv
      have hlt := bitsOf_lt v.toNat 2 1
      simp only [bne_iff_ne, ne_eq] at hv
      omega
    case layout => rw [fabOn_cfg _ rfl]; exact hfield (f := rwr 0 2 0 0 2) (by simp [fabCfgFields]) rfl
    case prio => rw [fabOn_cfg _ rfl]; exact hfield (f := rw 8 8 0x80) (by simp [fabCfgFields]) rfl
    case req => rw [fabOn_cfg _ rfl]; exact hfield (f := rwr 16 7 0x40 0 64) (by simp [fabCfgFields]) rfl
    case serial => rw [fabOn_serial, serialOf_cfgWrite hlayout hid]
    case rootPrio => rw [hprio]; exact hfield (f := rw 8 8 0x80) (by simp [fabCfgFields]) rfl
    case since => rw [hat]; exact (Keeps.of (keeps_plainWrite s rFABRIC_CFG v)).now
  case invalid =>
    intro s v hhub hdom hbad
    refine ⟨_, onFabric_of_on hhub hdom _, ?_⟩
    dsimp only
    rw [fabricEnable_refused hbad]
    refine ⟨?_, cfgEvent_isolated s rfl⟩
    rw [fv_ev_set (by decide) (by decide)]
    rfl
  case ignored =>
    intro s v hhub hdom hen hv hlayout hid hprio
    refine ⟨_, onFabric_of_on hhub hdom _, ?_⟩
    dsimp only
    rw [fabricEnable_running hlayout hid hen, if_pos hv, evIf_true (fabCfgDiffers_of_prio hprio)]
    refine ⟨?_, cfgEvent_isolated s rfl⟩
    rw [fv_ev_set (by decide) (by decide)]
    rfl
  case stops =>
    intro s v hhub hdom hen hv hlayout hid
    refine ⟨_, onFabric_of_on hhub hdom _, ?_⟩
    dsimp only
    rw [fabricEnable_running hlayout hid hen, if_neg (by simp [hv])]
    generalize s.evIf _ _ = u
    refine ⟨?en, ?status, fun k hk => portSt_fabOff hk, ?serial, ?granted, ?stable⟩
    case en =>
      rw [fabOff_cfg rfl, State.fv_setF_same _ _ _ (by decide)]
      rfl
    case status => rw [rn_congr (fabOff_regs _), statusCleared_status]
    case serial => rw [pair_congr (fabOff_regs _), statusCleared_serial]
    case granted => rw [fabOff_eq, rootForgotten]
    case stable => rw [fabOff_eq, rootForgotten]
  case trained =>
    intro s k hhub hdom hk hst hl
    refine ⟨_, onFabric_of_on hhub hdom _, ?_⟩
    dsimp only
    rw [Nat.mod_eq_of_lt hk]
    exact portTrained_shows hk hst hl
  case trainingTimeout =>
    intro s k hhub hdom hk hst hlate
    refine ⟨_, onFabric_of_on hhub hdom _, ?_⟩
    dsimp only
    rw [Nat.mod_eq_of_lt hk, trainingTimeout, if_pos (by simp [hst, hlate])]
    have hdown := fabDown_wentDown hk (show portSt s k ≠ 0 by rw [hst]; decide)
    exact ⟨hdown.state, hdown.event, hdown.count, hdown.code⟩
  case retrain =>
    intro s k m u hhub hdom hk hup hm hu hlate
    refine ⟨_, onFabric_of_on hhub hdom _, ?_⟩
    dsimp only
    rw [Nat.mod_eq_of_lt hk, unlocked_port hm hu hlate hup]
    have hdown := fabDown_wentDown hk (portTalks_state (portTalks_of_up hup))
    exact ⟨hdown.state, hdown.event, hdown.serial, hdown.hello⟩
  case helloSend =>
    intro s k hhub hdom hk htalks hsent hwait hawake hasleep hstore
    refine ⟨_, onFabric_of_on hhub hdom _, ?_⟩
    dsimp only
    rw [Nat.mod_eq_of_lt hk]
    exact helloSend_sends htalks hsent hwait hawake hasleep hstore
  case hello =>
    intro s k h hhub hdom hk htalks
    refine ⟨_, onFabric_of_on hhub hdom _, ?_⟩
    dsimp only
    rw [Nat.mod_eq_of_lt hk]
    obtain ⟨hhello, hat⟩ := helloReceived_port htalks h
    obtain ⟨hid, hvalid⟩ := neighbourKnown_id s k h
    refine ⟨hhello, hat, helloReceived_serial hk htalks h, ?_, ?_⟩
    · rw [helloReceived_neighbour hk htalks h (.inr (.inr (.inl rfl))), hid]
    · rw [helloReceived_neighbour hk htalks h (.inr (.inr (.inr rfl))), hvalid]
  case helloUp =>
    intro s k h hhub hdom hk hst hstep hh
    refine ⟨_, onFabric_of_on hhub hdom _, ?_⟩
    dsimp only
    have htalks : portTalks s k = true := by simp [portTalks, hk, hst]
    have hkept := helloReceived_kept (tryUp (helloTaken s k h) k)
    obtain ⟨hup, hevent, hresult⟩ := tryUp_passed hk (bothPassed_helloTaken hk hst hstep hh)
    rw [Nat.mod_eq_of_lt hk, helloReceived_eq htalks]
    refine ⟨?_, ?_, ?_⟩
    · rw [portSt, hkept.fv _ (portState_booked hk), ← portSt, hup]
    · rw [hkept.fv _ (by constructor <;> grind), hevent]
    · rw [hkept.fv _ (by constructor <;> grind), hresult]
  case helloTimeout =>
    intro s k hhub hdom hk htalks hlate
    refine ⟨_, onFabric_of_on hhub hdom _, ?_⟩
    dsimp only
    rw [Nat.mod_eq_of_lt hk, helloTimeout, if_pos (by simp [htalks, hlate])]
    have hdown := fabDown_wentDown (s := fabReport s k 0x0002) hk (portTalks_state htalks)
    exact ⟨hdown.state, hdown.hello, hdown.inbox _ (List.mem_append_right _ (List.mem_singleton_self _)), hdown.code⟩
  case authNext =>
    intro s k m step hhub hdom hk hst hcheck hstep hlt
    refine ⟨_, onFabric_of_on hhub hdom _, ?_⟩
    dsimp only
    rw [Nat.mod_eq_of_lt hk, authMessage_eq hst hcheck hstep, if_neg (by decide), stepPassed_next hlt]
    have hsent := portSend_posted (updFabPort s k (fun x => x.passed step m)) k (.auth (step + 1))
    refine ⟨?_, ?_, portSend_given _ _ _⟩
    · rw [portSt_congr hsent.regs]
      exact hst
    · rw [hsent.authStep, fabPort_updFabPort_same]
      rfl
  case authFails =>
    intro s k m step reason hhub hdom hk hst hcheck hbad hlt hstep
    refine ⟨_, onFabric_of_on hhub hdom _, ?_⟩
    dsimp only
    rw [Nat.mod_eq_of_lt hk, authMessage_eq hst hcheck hstep, if_pos hbad]
    obtain ⟨hstate, hresult, hreason, hevent, hhello, hcode⟩ := authFail_failed (s := s) hk hlt
    exact ⟨hstate, hresult, hreason, hevent, hhello, hcode⟩
  case authLast =>
    intro s k h hhub hdom hk hst hstep hhello hh
    refine ⟨_, onFabric_of_on hhub hdom _, ?_⟩
    dsimp only
    rw [Nat.mod_eq_of_lt hk, authMessage_eq (reason := 0) hst rfl (by omega), if_neg (by decide), stepPassed_last]
    have hport := fabPort_updFabPort_same s k (fun x => x.passed 4 (.fin true))
    obtain ⟨hup, hevent, hresult⟩ := tryUp_passed (s := updFabPort s k (fun x => x.passed 4 (.fin true))) hk
      (bothPassed_of hst (by rw [hport]; rfl) (by rw [hport]; exact hhello) hh)
    exact ⟨hup, hresult, hevent⟩
  case authTimeout =>
    intro s k hhub hdom hk hst hlate
    refine ⟨_, onFabric_of_on hhub hdom _, ?_⟩
    dsimp only
    rw [Nat.mod_eq_of_lt hk, authTimeout, if_pos (by simp [hst, hlate])]
    have hfailed := authFail_failed (s := s) (reason := 4) hk (by decide)
    exact ⟨hfailed.state, hfailed.result, hfailed.reason⟩
  case heldExpiry =>
    intro s k hhub hdom hk hst hlate
    refine ⟨_, onFabric_of_on hhub hdom _, ?_⟩
    dsimp only
    rw [Nat.mod_eq_of_lt hk, heldExpiry, if_pos (by simp [hst, hlate])]
    have hdown := fabDown_wentDown hk (show portSt s k ≠ 0 by rw [hst]; decide)
    exact ⟨hdown.state, hdown.event⟩

end Sys2Proof.Machine

namespace Sys2Proof.Machine

/-! ### The link (R435, R436) -/

theorem fv_bumpBy_same {f : Fld} (h : f.lsb + f.width ≤ 32) (s : State) (n : Nat) :
    (s.bumpBy f n).fv f = satTo (2 ^ f.width - 1) (s.fv f + n) := by
  have hpos := Nat.two_pow_pos f.width
  have hle : satTo (2 ^ f.width - 1) (s.fv f + n) < 2 ^ f.width := by
    unfold satTo
    split <;> omega
  rw [State.bumpBy, State.fv_setF_same _ _ _ h, Nat.mod_eq_of_lt hle]

/-- The flits of the replay store from number `fseq` on. -/
theorem dropWhile_store {fseq : Nat} {m : FabMsg} {pre post : List (Nat × FabMsg)} (hpre : ∀ x ∈ pre, x.1 ≠ fseq) :
    (pre ++ [(fseq, m)] ++ post).dropWhile (fun f => f.1 != fseq) = (fseq, m) :: post := by
  rw [List.append_assoc, List.dropWhile_append_of_pos fun x hx => by simpa using hpre x hx]
  simp

theorem store_any {fseq : Nat} {m : FabMsg} {pre post : List (Nat × FabMsg)} {l : List (Nat × FabMsg)}
    (h : l = pre ++ [(fseq, m)] ++ post) : l.any (fun f => f.1 == fseq) = true := by
  simp [h]

/-- Messages have left. -/
def messagesLeft (s : State) (l : List (Nat × FabMsg)) : State :=
  { s with fabric := { s.fabric with sent := s.fabric.sent ++ l } }

theorem messagesLeft_regs (s : State) (l : List (Nat × FabMsg)) : (messagesLeft s l).regs = s.regs := rfl

theorem messagesLeft_sent (s : State) (l : List (Nat × FabMsg)) : (messagesLeft s l).fabric.sent = s.fabric.sent ++ l := rfl

theorem messagesLeft_fabPort (s : State) (l : List (Nat × FabMsg)) (k : Nat) : fabPort (messagesLeft s l) k = fabPort s k := rfl

/-- Link control flits leave in order, and nothing else changes. -/
theorem portCtl_all (k : Nat) (l : List (Nat × FabMsg)) (s : State) :
    l.foldl (fun s f => portCtl s k f.2) s = messagesLeft s (l.map fun f => (k, f.2)) := by
  induction l generalizing s with
  | nil => simp [messagesLeft]
  | cons f l ih =>
    rw [List.foldl_cons, ih]
    simp [portCtl, messagesLeft]

/-- The receiver has asked for the flit that it expects. -/
def FabPort.gapSeen (x : FabPort) : FabPort := { x with gap := true }

theorem flitBad_eq (s : State) (k : Nat) : flitBad s k = if (fabPort s k).gap then s
    else portCtl (setFabPort s k (fabPort s k).gapSeen) k (.nak (fabPort s k).expect) := rfl

theorem flitBad_port (s : State) (k : Nat) :
    (fabPort (flitBad s k) k).gap = true ∧ (fabPort (flitBad s k) k).expect = (fabPort s k).expect
      ∧ (flitBad s k).regs = s.regs := by
  rw [flitBad_eq]
  split
  next h => exact ⟨h, rfl, rfl⟩
  next h =>
    have hport : ∀ (u : State) (m : FabMsg), fabPort (portCtl u k m) k = fabPort u k := fun _ _ => rfl
    rw [hport, fabPort_setFabPort_same]
    exact ⟨rfl, rfl, rfl⟩

/-- A data flit in sequence has been taken. -/
def FabPort.flitTaken (x : FabPort) (now : Nat) : FabPort :=
  { x with
    expect := (x.expect + 1) % 4096, gap := false, dataAt := now, unacked := x.unacked + 1,
    unackedAt := if x.unacked = 0 then now else x.unackedAt }

theorem FabPort.flitTaken_parts (x : FabPort) (now : Nat) :
    (x.flitTaken now).expect = (x.expect + 1) % 4096 ∧ (x.flitTaken now).gap = false
      ∧ (x.flitTaken now).unacked = x.unacked + 1 := ⟨rfl, rfl, rfl⟩

theorem setFabPort_sent (s : State) (k : Nat) (x : FabPort) : (setFabPort s k x).fabric.sent = s.fabric.sent := rfl

section
variable {s : State} {k : Nat} (htalks : portTalks s k = true)
include htalks

theorem flitReceived_data (fseq unknown : Nat) :
    flitReceived s k true 0 fseq unknown = if fseq ≠ (fabPort s k).expect then flitBad s k
      else (setFabPort s k ((fabPort s k).flitTaken s.now)).bumpBy fFABRIC_CNT_B_DENIED unknown := by
  unfold flitReceived
  rw [if_neg (by simp [htalks]), if_neg (by decide), if_neg (by decide)]
  rfl

theorem flitReceived_broken (kind fseq unknown : Nat) :
    flitReceived s k false kind fseq unknown = flitBad (s.bump fFABRIC_CNT_A_FEC_UNCORR) k := by
  unfold flitReceived
  rw [if_neg (by simp [htalks]), if_pos (by decide)]

/-- The port has nothing left to acknowledge. -/
theorem ackSend_eq (h : (fabPort s k).unacked ≠ 0)
    (hdue : 16 ≤ (fabPort s k).unacked ∨ (fabPort s k).unackedAt + 1000 ≤ s.now) :
    ackSend s k = portCtl (updFabPort s k fun x => { x with unacked := 0 }) k
      (.ack (((fabPort s k).expect + 4095) % 4096)) := by
  have hgo : (portTalks s k && 0 < (fabPort s k).unacked
      && (16 ≤ (fabPort s k).unacked || (fabPort s k).unackedAt + 1000 ≤ s.now)) = true := by
    simp [htalks, Nat.pos_of_ne_zero h, hdue]
  exact if_pos hgo

theorem ackSend_done (h : (fabPort s k).unacked ≠ 0)
    (hdue : 16 ≤ (fabPort s k).unacked ∨ (fabPort s k).unackedAt + 1000 ≤ s.now) :
    (fabPort (ackSend s k) k).unacked = 0
      ∧ (ackSend s k).fabric.sent = s.fabric.sent ++ [(k, .ack (((fabPort s k).expect + 4095) % 4096))]
      ∧ (ackSend s k).regs = s.regs := by
  have hport : ∀ (u : State) (m : FabMsg), fabPort (portCtl u k m) k = fabPort u k := fun _ _ => rfl
  rw [ackSend_eq htalks h hdue]
  refine ⟨?_, rfl, rfl⟩
  rw [hport, fabPort_updFabPort_same]

theorem ackTimeout_eq (hstore : (fabPort s k).store ≠ []) (hlate : (fabPort s k).ackAt + 1000000 ≤ s.now) :
    ackTimeout s k = retryLimit s k := by
  have hgo : (portTalks s k && !(fabPort s k).store.isEmpty && (fabPort s k).ackAt + 1000000 ≤ s.now) = true := by
    simp [htalks, hstore, hlate]
  exact if_pos hgo
end

/-- The replay store holds what is still not acknowledged. -/
def FabPort.acked (x : FabPort) (rest : List (Nat × FabMsg)) (now : Nat) : FabPort :=
  { x with store := rest, naks := 0, ackAt := now }

/-- The flits are sent again. -/
def FabPort.replaying (x : FabPort) (now : Nat) : FabPort := { x with naks := x.naks + 1, replayed := true, dataAt := now }

theorem FabPort.replaying_parts (x : FabPort) (now : Nat) :
    (x.replaying now).naks = x.naks + 1 ∧ (x.replaying now).store = x.store := ⟨rfl, rfl⟩

section
variable {s : State} {k fseq : Nat} {m : FabMsg} {pre post : List (Nat × FabMsg)}
  (hstore : (fabPort s k).store = pre ++ [(fseq, m)] ++ post) (hpre : ∀ x ∈ pre, x.1 ≠ fseq)
include hstore hpre

theorem ackReceived_eq : ackReceived s k fseq = pumpPort (setFabPort s k ((fabPort s k).acked post s.now)) k := by
  have hrest : ((fabPort s k).store.dropWhile (fun f => f.1 != fseq)).drop 1 = post := by
    rw [hstore, dropWhile_store hpre]
    rfl
  unfold ackReceived
  dsimp only
  rw [if_pos (store_any hstore), hrest]
  rfl

/-- The port counts a replay. -/
theorem nakReceived_eq (hnaks : (fabPort s k).naks < 7) :
    nakReceived s k fseq = ((fseq, m) :: post).foldl (fun s f => portCtl s k f.2)
      (((setFabPort s k ((fabPort s k).replaying s.now)).bump (fFABRIC_PORT_CNT_REPLAYS k)).bump fFABRIC_CNT_A_REPLAYS) := by
  have hrest : (fabPort s k).store.dropWhile (fun f => f.1 != fseq) = (fseq, m) :: post := by
    rw [hstore, dropWhile_store hpre]
  unfold nakReceived
  dsimp only
  rw [if_pos (store_any hstore), if_neg (by omega), hrest]
  rfl
end

theorem nakReceived_limit {s : State} {k fseq : Nat} (hnaks : 7 ≤ (fabPort s k).naks)
    (hany : (fabPort s k).store.any (fun f => f.1 == fseq) = true) : nakReceived s k fseq = retryLimit s k := by
  unfold nakReceived
  dsimp only
  rw [if_pos hany, if_pos (by omega)]

/-- The retry limit takes a port down that was not DOWN. -/
theorem retryLimit_down {s : State} {k : Nat} (hk : k < 4) (h : portSt s k ≠ 0) :
    portSt (retryLimit s k) k = b2n (portWants s k) ∧ (faultCode 0x18 k 0x0004, 0) ∈ (retryLimit s k).isl.inbox
      ∧ (retryLimit s k).fv fFABRIC_EVENT_PORT_DOWN = 1 := by
  have hdown := fabDown_wentDown (s := fabReport s k 0x0004) hk h
  exact ⟨hdown.state, hdown.inbox _ (List.mem_append_right _ (List.mem_singleton_self _)), hdown.event⟩

end Sys2Proof.Machine

namespace Sys2Proof.Machine

/-! ### The election of a root that stays the same (R445) -/

/-- What the election looks at is the same in both states. -/
structure SameElection (s t : State) : Prop where
  state : ∀ k < 4, portSt t k = portSt s k
  hello : ∀ k, (fabPort t k).hello = (fabPort s k).hello
  prio : t.fv fFABRIC_CFG_PRIORITY = s.fv fFABRIC_CFG_PRIORITY
  serial : serialOf t = serialOf s
  rootPrio : t.fabric.rootPrio = s.fabric.rootPrio
  root : t.pair rFABRIC_ROOT_SERIAL_LO rFABRIC_ROOT_SERIAL_HI = s.pair rFABRIC_ROOT_SERIAL_LO rFABRIC_ROOT_SERIAL_HI

section
variable {s t : State}

theorem SameElection.ownKey (h : SameElection s t) : ownKey t = ownKey s := by
  rw [Machine.ownKey, h.prio, h.serial, Machine.ownKey]

/-- The better of a key and what the neighbour of port `k` announces. -/
def keyHeard (s : State) (a : Nat × Nat) (k : Nat) : Nat × Nat :=
  match (fabPort s k).hello with
  | some h => if portTalks s k && keyBetter (h.rootPrio, h.rootSerial) a then (h.rootPrio, h.rootSerial) else a
  | none => a

theorem bestKey_eq (s : State) : bestKey s = ports4.foldl (keyHeard s) (ownKey s) := rfl

theorem foldl_congr_mem {α β : Type} {f g : β → α → β} {l : List α} (h : ∀ b, ∀ a ∈ l, f b a = g b a) (b : β) :
    l.foldl f b = l.foldl g b := by
  induction l generalizing b with
  | nil => rfl
  | cons a l ih =>
    rw [List.foldl_cons, List.foldl_cons, h b a (List.mem_cons_self ..)]
    exact ih (fun c d hd => h c d (List.mem_cons_of_mem _ hd)) _

theorem SameElection.bestKey (h : SameElection s t) : bestKey t = bestKey s := by
  rw [bestKey_eq, bestKey_eq, h.ownKey]
  refine foldl_congr_mem (fun a k hk => ?_) _
  have hst : portTalks t k = portTalks s k := by rw [portTalks, h.state k (mem_ports4.mp hk), portTalks]
  rw [keyHeard, h.hello, hst, keyHeard]
end

theorem bestKey_old {s : State} (hbest : bestKey s = (s.fabric.rootPrio, s.pair rFABRIC_ROOT_SERIAL_LO rFABRIC_ROOT_SERIAL_HI)) :
    ∃ id, electRoot s = s.setF fFABRIC_STATUS_ROOT_ID id := by
  have hfound : (rootIdFound s).2 = s := by
    unfold rootIdFound
    split
    · rfl
    · rw [if_pos hbest]
  exact ⟨_, by rw [electRoot_eq, if_pos hbest, hfound]⟩

/-! ### A device takes its ID (R446) -/

/-- The ID `d` in STATUS. -/
def idShown (s : State) (d : Nat) : State := (s.setF fFABRIC_STATUS_ID d).setF fFABRIC_STATUS_ID_VALID 1

theorem takeId_eq {s : State} {d : Nat} (h : (s.on fFABRIC_CFG_ID_STRICT && s.fv fFABRIC_CFG_ID_REQ != d) = false) :
    takeId s d = launchHeld (fabState (fillRoutes (electRoot (idShown s d)))) := if_neg (by simp [h])

theorem takeId_refused {s : State} {d : Nat} (h : (s.on fFABRIC_CFG_ID_STRICT && s.fv fFABRIC_CFG_ID_REQ != d) = true) :
    takeId s d = fabReport (s.ev fFABRIC_EVENT_ID_CHANGED) d 0x0008 := if_pos h

theorem idShown_id (s : State) {d : Nat} (hd : d < 64) :
    (idShown s d).fv fFABRIC_STATUS_ID = d ∧ (idShown s d).fv fFABRIC_STATUS_ID_VALID = 1 := by
  refine ⟨?_, ?_⟩
  · rw [idShown, fv_setF_of_apart (by grind), State.fv_setF_same _ _ _ (by decide)]
    exact Nat.mod_eq_of_lt hd
  · rw [idShown, State.fv_setF_same _ _ _ (by decide)]
    rfl

theorem idBooked : Booked fFABRIC_STATUS_ID ∧ Booked fFABRIC_STATUS_ID_VALID ∧ Booked fFABRIC_CFG_EN := by
  refine ⟨?_, ?_, ?_⟩ <;> constructor <;> grind

theorem fv_launched {s : State} (f : Fld) : (launchHeld s).fv f = s.fv f := fv_congr (launchHeld_posted s).regs f

/-- The ID that a device takes is shown, and STATE 4 where the fabric is enabled. -/
theorem takeId_shown {s : State} {d : Nat} (hd : d < 64)
    (h : (s.on fFABRIC_CFG_ID_STRICT && s.fv fFABRIC_CFG_ID_REQ != d) = false) :
    (takeId s d).fv fFABRIC_STATUS_ID = d ∧ (takeId s d).fv fFABRIC_STATUS_ID_VALID = 1
      ∧ (takeId s d).fv fFABRIC_STATUS_STATE = (if s.on fFABRIC_CFG_EN then 4 else 0) := by
  obtain ⟨hid, hvalid⟩ := idShown_id s hd
  obtain ⟨bid, bvalid, ben⟩ := idBooked
  have hbefore : FabKept Booked (idShown s d) (fillRoutes (electRoot (idShown s d))) :=
    (electRoot_kept _).trans (fillRoutes_kept _)
  have hkept := hbefore.trans (fabState_kept _)
  rw [takeId_eq h, fv_launched, fv_launched, fv_launched]
  refine ⟨by rw [hkept.fv _ bid, hid], by rw [hkept.fv _ bvalid, hvalid], ?_⟩
  have hen : (idShown s d).on fFABRIC_CFG_EN = s.on fFABRIC_CFG_EN := by
    rw [State.on_eq, idShown, State.fv_setF_other (by decide), State.fv_setF_other (by decide), State.on_eq]
  have hon : (idShown s d).on fFABRIC_STATUS_ID_VALID = true := by
    rw [State.on_eq, hvalid]
    rfl
  rw [fv_fabState, hbefore.on ben, hen, hbefore.on bvalid, hon]
  cases s.on fFABRIC_CFG_EN <;> rfl

/-! ### The root grants an ID (R446) -/

/-- The fabric with `serial` as the only holder of ID `d`. -/
def idGranted (s : State) (serial d : Nat) : State :=
  { s with fabric := { s.fabric with granted := kput d serial (s.fabric.granted.filter (fun x => x.2 != serial)) } }

theorem idGranted_regs (s : State) (serial d : Nat) : (idGranted s serial d).regs = s.regs := rfl

theorem idGranted_fabric (s : State) (serial d : Nat) : (idGranted s serial d).fabric
    = { s.fabric with granted := kput d serial (s.fabric.granted.filter (fun x => x.2 != serial)) } := rfl

/-- The grant of this device is noted as seen. -/
def grantNoted (s : State) : State :=
  { s with fabric := { s.fabric with
    seqNo := s.fabric.seqNo + 1, seen := (2 * serialOf s + 1, s.fabric.seqNo) :: s.fabric.seen } }

theorem grantId_own {s : State} {req d : Nat} (h : grantFor s (serialOf s) req = some d) :
    grantId s (serialOf s) req = takeId (idGranted s (serialOf s) d) d := by
  unfold grantId
  rw [h]
  exact if_pos rfl

theorem grantId_other {s : State} {serial req d : Nat} (hser : serial ≠ serialOf s) (h : grantFor s serial req = some d) :
    grantId s serial req
      = sendUp (grantNoted (idGranted s serial d)) (.grant (serialOf s) s.fabric.seqNo serial d) 4 := by
  unfold grantId
  rw [h]
  exact if_neg hser

end Sys2Proof.Machine

namespace Sys2Proof.Machine

/-! ### The root is stable (R445) -/

/-- The root is known to be stable. -/
def stableNoted (s : State) : State := { s with fabric := { s.fabric with stable := true } }

theorem stableNoted_regs (s : State) : (stableNoted s).regs = s.regs := rfl

/-- The root's time is this device's own. -/
def rootTime (s : State) (own : Bool) : State :=
  if own && s.fv fREGU_CTRL_SRC = 1 then s.setF fREGU_STATUS_STATE 2 else s

/-- The root is stable, and is this device or not. -/
def rootSettled (s : State) (own : Bool) : State := rootTime ((stableNoted s).setF fFABRIC_STATUS_IS_ROOT (b2n own)) own

/-- A device without an ID grants itself one or claims one. -/
def idSought (s : State) (own : Bool) : State :=
  if s.on fFABRIC_STATUS_ID_VALID then s
  else if own then grantId s (serialOf s) (s.fv fFABRIC_CFG_ID_REQ) else claimId s

theorem rootStable_eq {s : State} (hen : s.on fFABRIC_CFG_EN = true) (hst : s.fabric.stable = false)
    (hlate : s.fabric.rootAt + 10000000 ≤ s.now) :
    rootStable s = fabState (fabStatus (idSought (rootSettled s (decide (bestKey s = ownKey s))) (decide (bestKey s = ownKey s)))) := by
  unfold rootStable
  rw [if_neg (by simp [hen, hst, hlate])]
  rfl

/-- A register that the root's becoming stable leaves alone. -/
abbrev RootFree (o : Nat) : Prop := o ≠ rFABRIC_STATUS ∧ o ≠ fREGU_STATUS_STATE.off

theorem rootTime_kept (s : State) (own : Bool) : RegsKept RootFree s (rootTime s own) :=
  .ite (fun _ => (RegsKept.refl _ s).setF _ fun h => h.2 rfl) fun _ => .refl _ s

theorem rootSettled_kept (s : State) (own : Bool) : RegsKept RootFree s (rootSettled s own) :=
  ((RegsKept.of_regs (stableNoted_regs s)).setF (f := fFABRIC_STATUS_IS_ROOT) _ fun h => h.1 rfl).trans (rootTime_kept _ own)

theorem rootTime_fabric (s : State) (own : Bool) : (rootTime s own).fabric = s.fabric := by
  unfold rootTime
  split <;> rfl

theorem rootSettled_fabric (s : State) (own : Bool) : (rootSettled s own).fabric = { s.fabric with stable := true } := by
  rw [rootSettled, rootTime_fabric]
  rfl

theorem rootTime_status {s : State} {own : Bool} {f : Fld} (hf : f.off = rFABRIC_STATUS) : (rootTime s own).fv f = s.fv f := by
  unfold rootTime
  split
  · rw [State.fv_setF_other (by rw [hf]; decide)]
  · rfl

theorem rootSettled_isRoot (s : State) (own : Bool) : (rootSettled s own).fv fFABRIC_STATUS_IS_ROOT = b2n own := by
  rw [rootSettled, rootTime_status rfl, State.fv_setF_same _ _ _ (by decide)]
  cases own <;> rfl

theorem rootSettled_status {s : State} {own : Bool} {f : Fld} (hf : f.off = rFABRIC_STATUS) (hid : 4 ≤ f.lsb) :
    (rootSettled s own).fv f = s.fv f := by
  have happart : f.Beside fFABRIC_STATUS_IS_ROOT := .inr ⟨by decide, .inl hid⟩
  rw [rootSettled, rootTime_status hf, fv_setF_of_apart happart, fv_congr (stableNoted_regs s)]

theorem rootFree_port (k : Nat) : RootFree (rFABRIC_PORT_STATUS k) := by
  constructor <;> grind

theorem rootFree_cfg : RootFree rFABRIC_CFG := by decide

/-- States that differ in STATUS, the state of dial time and the granted IDs elect the same root. -/
theorem SameElection.of_rootFree {s t : State} (h : RegsKept RootFree s t) (hport : t.fabric.port = s.fabric.port)
    (hprio : t.fabric.rootPrio = s.fabric.rootPrio) : SameElection s t where
  state k _ := h.fv (rootFree_port k)
  hello k := congrArg (fun p => (kgetD ({} : FabPort) k p).hello) hport
  prio := h.fv rootFree_cfg
  serial := h.pair (by decide) (by decide)
  rootPrio := hprio
  root := h.pair (by decide) (by decide)

/-! ### Whom the root grants an ID -/

theorem fabId_congr {s t : State} (hvalid : t.fv fFABRIC_STATUS_ID_VALID = s.fv fFABRIC_STATUS_ID_VALID)
    (hid : t.fv fFABRIC_STATUS_ID = s.fv fFABRIC_STATUS_ID) : fabId t = fabId s := by
  rw [fabId, State.on_eq, hvalid, hid, fabId, State.on_eq]

/-- A register that the choice of a route reads. -/
def RouteReg (o : Nat) : Prop := (∃ d < 64, o = rFABRIC_ROUTE d) ∨ ∃ k < 4, o = rFABRIC_PORT_STATUS k

theorem portUp_kept {s t : State} (h : RegsKept RouteReg s t) (k : Nat) : portUp t k = portUp s k := by
  rw [portUp, portUp]
  by_cases hk : k < 4
  · have hst : portSt t k = portSt s k := h.fv (.inr ⟨k, hk, rfl⟩)
    rw [hst]
  · simp [hk]

theorem routePort_kept {s t : State} (h : RegsKept RouteReg s t) (d : Nat) : routePort t d = routePort s d := by
  by_cases hd : d < 64
  · have hroute : ∀ f : Fld, f.off = rFABRIC_ROUTE d → t.fv f = s.fv f := fun f hf => h.fv (.inl ⟨d, hd, hf⟩)
    have hon : ∀ f : Fld, f.off = rFABRIC_ROUTE d → t.on f = s.on f := fun f hf => h.on (.inl ⟨d, hd, hf⟩)
    unfold routePort
    dsimp only
    rw [hroute _ rfl, hroute _ rfl, hon _ rfl, hon _ rfl, hon _ rfl, portUp_kept h, portUp_kept h]
  · have hnone : ∀ u : State, routePort u d = none := fun u => if_pos (Nat.le_of_not_lt hd)
    rw [hnone, hnone]

theorem idHeld_congr {s t : State} {serial d : Nat} (hgranted : t.fabric.granted = s.fabric.granted) (hid : fabId t = fabId s)
    (hserial : serialOf t = serialOf s) (hroute : routePort t d = routePort s d) : idHeld t serial d = idHeld s serial d := by
  rw [idHeld, hgranted, hid, hserial, hroute, idHeld]

theorem grantFor_free {s : State} {serial req : Nat} (hreq : req < 64) (h : idHeld s serial req = false) :
    grantFor s serial req = some req := by
  rw [grantFor, if_pos (by simp [hreq, h])]

theorem idHeld_rootSettled (s : State) (own : Bool) (serial d : Nat) :
    idHeld (rootSettled s own) serial d = idHeld s serial d := by
  have hkept := rootSettled_kept s own
  have hgranted : (rootSettled s own).fabric.granted = s.fabric.granted := by rw [rootSettled_fabric]
  have hid : fabId (rootSettled s own) = fabId s :=
    fabId_congr (rootSettled_status rfl (by decide)) (rootSettled_status rfl (by decide))
  refine idHeld_congr hgranted hid (hkept.pair (by decide) (by decide)) (routePort_kept (hkept.mono ?_) d)
  rintro o (⟨i, hi, rfl⟩ | ⟨k, -, rfl⟩)
  · constructor <;> grind
  · exact rootFree_port k

/-! ### A root grants itself its ID -/

/-- This device, as the root, has taken ID `d`. -/
def rootOwned (s : State) (d : Nat) : State := idShown (idGranted (rootSettled s true) (serialOf s) d) d

theorem idShown_kept (s : State) (d : Nat) : RegsKept RootFree s (idShown s d) :=
  ((RegsKept.refl _ s).setF d fun h => h.1 rfl).setF 1 fun h => h.1 rfl

theorem rootOwned_kept (s : State) (d : Nat) : RegsKept RootFree s (rootOwned s d) :=
  ((rootSettled_kept s true).regs (idGranted_regs _ (serialOf s) d)).trans (idShown_kept _ d)

theorem rootOwned_fabric (s : State) (d : Nat) : (rootOwned s d).fabric = { s.fabric with
    stable := true, granted := kput d (serialOf s) (s.fabric.granted.filter (fun x => x.2 != serialOf s)) } := by
  rw [rootOwned, idShown, State.setF_fabric, State.setF_fabric, idGranted_fabric, rootSettled_fabric]

theorem rootOwned_isRoot (s : State) (d : Nat) : (rootOwned s d).fv fFABRIC_STATUS_IS_ROOT = 1 := by
  rw [rootOwned, idShown, fv_setF_of_apart (by decide), fv_setF_of_apart (by decide), fv_congr (idGranted_regs _ _ _),
    rootSettled_isRoot]
  rfl

theorem rootOwned_elects {s : State} (hbest : bestKey s = ownKey s)
    (hroot : ownKey s = (s.fabric.rootPrio, s.pair rFABRIC_ROOT_SERIAL_LO rFABRIC_ROOT_SERIAL_HI)) (d : Nat) :
    ∃ id, electRoot (rootOwned s d) = (rootOwned s d).setF fFABRIC_STATUS_ROOT_ID id := by
  have hsame : SameElection s (rootOwned s d) :=
    .of_rootFree (rootOwned_kept s d) (by rw [rootOwned_fabric]) (by rw [rootOwned_fabric])
  refine bestKey_old ?_
  rw [hsame.bestKey, hsame.rootPrio, hsame.root, hbest, hroot]

/-- What a root shows that has granted itself an ID. -/
structure RootWithId (t : State) (serial d : Nat) : Prop where
  stable : t.fabric.stable = true
  isRoot : t.fv fFABRIC_STATUS_IS_ROOT = 1
  valid : t.fv fFABRIC_STATUS_ID_VALID = 1
  id : t.fv fFABRIC_STATUS_ID = d
  enabled : t.on fFABRIC_CFG_EN = true
  granted : kget d t.fabric.granted = some serial

theorem rootStatus_routed : Routed fFABRIC_STATUS_IS_ROOT ∧ Routed fFABRIC_STATUS_ID_VALID ∧ Routed fFABRIC_STATUS_ID
    ∧ Routed fFABRIC_CFG_EN := by
  refine ⟨?_, ?_, ?_, ?_⟩ <;> constructor <;> grind

theorem RootWithId.trans {s t : State} {serial d : Nat} (h : RootWithId s serial d) (k : FabKept Routed s t)
    (hst : t.fabric.stable = s.fabric.stable) : RootWithId t serial d := by
  obtain ⟨hroot, hvalid, hid, hen⟩ := rootStatus_routed
  constructor
  case stable => rw [hst, h.stable]
  case isRoot => rw [k.fv _ hroot, h.isRoot]
  case valid => rw [k.fv _ hvalid, h.valid]
  case id => rw [k.fv _ hid, h.id]
  case enabled => rw [k.on hen, h.enabled]
  case granted => rw [k.granted, h.granted]

theorem rootOwned_shows {s : State} {d : Nat} (hd : d < 64) (hen : s.on fFABRIC_CFG_EN = true) :
    RootWithId (rootOwned s d) (serialOf s) d := by
  obtain ⟨hid, hvalid⟩ := idShown_id (idGranted (rootSettled s true) (serialOf s) d) hd
  constructor
  case stable => rw [rootOwned_fabric]
  case isRoot => exact rootOwned_isRoot s d
  case valid => exact hvalid
  case id => exact hid
  case enabled => rw [(rootOwned_kept s d).on rootFree_cfg, hen]
  case granted =>
    rw [rootOwned_fabric]
    exact kget_kput_same _ _ _

theorem RootWithId.rootId {s : State} {serial d : Nat} (h : RootWithId s serial d) (id : Nat) :
    RootWithId (s.setF fFABRIC_STATUS_ROOT_ID id) serial d := by
  constructor
  case stable => exact h.stable
  case isRoot => rw [fv_setF_of_apart (by decide), h.isRoot]
  case valid => rw [fv_setF_of_apart (by decide), h.valid]
  case id => rw [fv_setF_of_apart (by decide), h.id]
  case enabled => rw [State.on_eq, State.fv_setF_other (by decide), ← State.on_eq, h.enabled]
  case granted => exact h.granted

theorem fillRoutes_fabric (s : State) : (fillRoutes s).fabric = s.fabric := (Keeps.of (keeps_fillRoutes s)).fabric rfl

theorem launched_stable (s : State) : (launchHeld s).fabric.stable = s.fabric.stable := by
  rw [(launchHeld_posted s).fabric]

/-- A root takes its own ID and stays the root. -/
theorem idSought_own {s : State} (hen : s.on fFABRIC_CFG_EN = true) (hbest : bestKey s = ownKey s)
    (hroot : ownKey s = (s.fabric.rootPrio, s.pair rFABRIC_ROOT_SERIAL_LO rFABRIC_ROOT_SERIAL_HI))
    (hvalid : s.on fFABRIC_STATUS_ID_VALID = false) (hreq : s.fv fFABRIC_CFG_ID_REQ < 64)
    (hheld : idHeld s (serialOf s) (s.fv fFABRIC_CFG_ID_REQ) = false) :
    RootWithId (idSought (rootSettled s true) true) (serialOf s) (s.fv fFABRIC_CFG_ID_REQ) := by
  have hkept := rootSettled_kept s true
  have hserial : serialOf (rootSettled s true) = serialOf s := hkept.pair (by decide) (by decide)
  have hreq' : (rootSettled s true).fv fFABRIC_CFG_ID_REQ = s.fv fFABRIC_CFG_ID_REQ := hkept.fv rootFree_cfg
  have hvalid' : ¬ (rootSettled s true).on fFABRIC_STATUS_ID_VALID = true := by
    rw [State.on_eq, rootSettled_status rfl (by decide), ← State.on_eq, hvalid]
    decide
  have hgrant : grantFor (rootSettled s true) (serialOf (rootSettled s true)) (s.fv fFABRIC_CFG_ID_REQ)
      = some (s.fv fFABRIC_CFG_ID_REQ) := grantFor_free hreq (by rw [idHeld_rootSettled, hserial, hheld])
  have hfree : ∀ u : State, u.regs = (rootSettled s true).regs →
      (u.on fFABRIC_CFG_ID_STRICT && u.fv fFABRIC_CFG_ID_REQ != s.fv fFABRIC_CFG_ID_REQ) = false := fun u hu => by
    rw [fv_congr hu, hreq']
    simp
  obtain ⟨id, helect⟩ := rootOwned_elects hbest hroot (s.fv fFABRIC_CFG_ID_REQ)
  rw [idSought, if_neg hvalid', if_pos rfl, hreq', grantId_own hgrant, takeId_eq (hfree _ (idGranted_regs _ _ _)), hserial, ← rootOwned, helect]
  have hshown := (rootOwned_shows (s := s) hreq hen).rootId id
  refine ((hshown.trans (fillRoutes_routed _) ?_).trans (fabState_routed _) ?_).trans
    ((launchHeld_posted _).fabKept Routed) (launched_stable _)
  · rw [fillRoutes_fabric]
  · rw [fabState_fabric]

end Sys2Proof.Machine

namespace Sys2Proof.Machine

/-! ### Claims and grants (R446) -/

theorem claimNoted_regs (s : State) : (claimNoted s).regs = s.regs := rfl

theorem claimId_posted (s : State) : Posted (claimNoted s) (claimId s) := by
  rw [claimId_eq]
  exact sendUp_posted _ _ 4

theorem claimId_given {s : State} {j : Nat} (hup : portUp s j = true) :
    Given (claimId s) j (.claim (serialOf s) s.fabric.seqNo (s.fv fFABRIC_CFG_ID_REQ)) := by
  have hj := portUp_lt hup
  rw [claimId_eq]
  exact sendUp_given ((portUp_congr (claimNoted_regs s) j).trans hup) (by omega) _

theorem claimId_fabric (s : State) : (claimId s).fabric.stable = s.fabric.stable ∧ (claimId s).fabric.seqNo = s.fabric.seqNo + 1 := by
  rw [(claimId_posted s).fabric]
  exact ⟨rfl, rfl⟩

theorem idSought_claims {s : State} (hvalid : s.on fFABRIC_STATUS_ID_VALID = false) : idSought s false = claimId s := by
  rw [idSought, if_neg (by simp [hvalid])]
  rfl

/-- What a device that is not the root does once the root is stable. -/
theorem rootStable_claims {s : State} {j : Nat} (hvalid : s.on fFABRIC_STATUS_ID_VALID = false) (hup : portUp s j = true) :
    (fabState (fabStatus (idSought (rootSettled s false) false))).fabric.stable = true
      ∧ (fabState (fabStatus (idSought (rootSettled s false) false))).fv fFABRIC_STATUS_IS_ROOT = 0
      ∧ (fabState (fabStatus (idSought (rootSettled s false) false))).fabric.seqNo = s.fabric.seqNo + 1
      ∧ Given (fabState (fabStatus (idSought (rootSettled s false) false))) j
          (.claim (serialOf s) s.fabric.seqNo (s.fv fFABRIC_CFG_ID_REQ)) := by
  have hkept := rootSettled_kept s false
  have hserial : serialOf (rootSettled s false) = serialOf s := hkept.pair (by decide) (by decide)
  have hreq : (rootSettled s false).fv fFABRIC_CFG_ID_REQ = s.fv fFABRIC_CFG_ID_REQ := hkept.fv rootFree_cfg
  have hvalid' : (rootSettled s false).on fFABRIC_STATUS_ID_VALID = false := by
    rw [State.on_eq, rootSettled_status rfl (by decide), ← State.on_eq, hvalid]
  have hup' : portUp (rootSettled s false) j = true := by
    have hst : portSt (rootSettled s false) j = portSt s j := hkept.fv (rootFree_port j)
    rw [portUp, hst, ← portUp, hup]
  obtain ⟨hstable, hseq⟩ := claimId_fabric (rootSettled s false)
  have hgiven := claimId_given hup'
  have hfabric : (fabState (fabStatus (claimId (rootSettled s false)))).fabric = (claimId (rootSettled s false)).fabric := by
    rw [fabState_fabric, fabStatus_fabric]
  rw [rootSettled_fabric] at hstable hseq hgiven
  rw [hserial, hreq] at hgiven
  rw [idSought_claims hvalid']
  refine ⟨by rw [hfabric, hstable], ?_, by rw [hfabric, hseq], given_congr hfabric _ _ hgiven⟩
  have hstatus := (fabStatus_routed (claimId (rootSettled s false))).trans (fabState_routed _)
  rw [hstatus.fv _ rootStatus_routed.1, fv_congr ((claimId_posted _).regs.trans (claimNoted_regs _)), rootSettled_isRoot]
  rfl

/-- A claim or a grant is noted as seen. -/
def seenNoted (s : State) (x : Nat × Nat) : State := { s with fabric := { s.fabric with seen := x :: s.fabric.seen } }

theorem seenNoted_regs (s : State) (x : Nat × Nat) : (seenNoted s x).regs = s.regs := rfl

section
variable {s : State} {k serial seq req : Nat}

theorem idClaim_seen (hseen : s.fabric.seen.contains (2 * serial, seq) = true) : idClaim s k serial seq req = s :=
  if_pos (by rw [hseen, Bool.or_true])

theorem idClaim_new (hup : portUp s k = true) (hseen : s.fabric.seen.contains (2 * serial, seq) = false) :
    idClaim s k serial seq req =
      if s.on fFABRIC_STATUS_IS_ROOT then grantId (seenNoted s (2 * serial, seq)) serial req
      else sendUp (seenNoted s (2 * serial, seq)) (.claim serial seq req) k := by
  unfold idClaim
  rw [if_neg (by rw [hup, hseen]; decide)]
  rfl
end

theorem idGrant_new {s : State} {k root seq serial d : Nat} (hup : portUp s k = true)
    (hseen : s.fabric.seen.contains (2 * root + 1, seq) = false) :
    idGrant s k root seq serial d =
      if serial = serialOf s then
        (if s.on fFABRIC_STATUS_ID_VALID then seenNoted s (2 * root + 1, seq) else takeId (seenNoted s (2 * root + 1, seq)) (d % 64))
      else sendUp (seenNoted s (2 * root + 1, seq)) (.grant root seq serial d) k := by
  unfold idGrant
  rw [if_neg (by rw [hup, hseen]; decide)]
  rfl

/-- A message that is passed on reaches every other UP port. -/
theorem passedOn {s : State} (x : Nat × Nat) {j k : Nat} (hup : portUp s j = true) (hjk : j ≠ k) (m : FabMsg) :
    Given (sendUp (seenNoted s x) m k) j m ∧ (sendUp (seenNoted s x) m k).regs = s.regs
      ∧ (sendUp (seenNoted s x) m k).fabric.granted = s.fabric.granted ∧ x ∈ (sendUp (seenNoted s x) m k).fabric.seen := by
  have hsent := sendUp_posted (seenNoted s x) m k
  refine ⟨sendUp_given ((portUp_congr (seenNoted_regs s x) j).trans hup) hjk m, hsent.regs.trans (seenNoted_regs s x), ?_, ?_⟩
  · rw [hsent.fabric]
    rfl
  · rw [hsent.fabric]
    exact List.mem_cons_self ..

theorem grantFor_seenNoted (s : State) (x : Nat × Nat) (serial req : Nat) :
    grantFor (seenNoted s x) serial req = grantFor s serial req := by
  have hheld : ∀ d, idHeld (seenNoted s x) serial d = idHeld s serial d := fun d =>
    idHeld_congr rfl (fabId_congr rfl rfl) rfl (routePort_kept (.of_regs (seenNoted_regs s x)) d)
  unfold grantFor
  simp only [hheld]

theorem grantNoted_regs (s : State) : (grantNoted s).regs = s.regs := rfl

/-- The root grants an ID to another device and tells every UP port. -/
theorem grantId_told {s : State} {serial req d j : Nat} (hser : serial ≠ serialOf s) (h : grantFor s serial req = some d)
    (hup : portUp s j = true) :
    kget d (grantId s serial req).fabric.granted = some serial
      ∧ Given (grantId s serial req) j (.grant (serialOf s) s.fabric.seqNo serial d)
      ∧ (grantId s serial req).fabric.seqNo = s.fabric.seqNo + 1 := by
  have hj := portUp_lt hup
  rw [grantId_other hser h]
  have hsent := sendUp_posted (grantNoted (idGranted s serial d)) (.grant (serialOf s) s.fabric.seqNo serial d) 4
  have hregs : (grantNoted (idGranted s serial d)).regs = s.regs := (grantNoted_regs _).trans (idGranted_regs s serial d)
  refine ⟨?_, sendUp_given ((portUp_congr hregs j).trans hup) (by omega) _, ?_⟩
  · rw [hsent.fabric]
    exact kget_kput_same _ _ _
  · rw [hsent.fabric]
    rfl

/-- Settles O27: flits, acknowledgements and replays act on one port's record, a port whose retry limit is reached goes DOWN,
and an election of the root that is known already changes nothing of what the root shows. -/
theorem fabricLinkAndElection : Obligations.FabricLinkAndElection := by
  refine ⟨?inOrder, ?gap, ?gapAgain, ?broken, ?ackFull, ?ackLate, ?acked, ?replay, ?refusals, ?silent, ?rootOwn, ?rootOther,
    ?claimPassed, ?claimGranted, ?claimSeen, ?granted, ?strict, ?grantPassed⟩
  case inOrder =>
    intro s k fseq unknown hhub hdom hk htalks hseq
    refine ⟨_, onFabric_of_on hhub hdom _, ?_⟩
    dsimp only
    obtain ⟨hexpect, hgap, hunacked⟩ := (fabPort s k).flitTaken_parts s.now
    rw [Nat.mod_eq_of_lt hk, flitReceived_data htalks, if_neg (by simp [hseq]), fabPort_congr (State.bumpBy_fabric _ _ _),
      fabPort_setFabPort_same, fv_bumpBy_same (by decide), fv_congr (setFabPort_regs _ _ _), State.bumpBy_fabric, setFabPort_sent]
    exact ⟨by rw [hexpect, hseq], hgap, hunacked, rfl, rfl⟩
  case gap =>
    intro s k fseq unknown hhub hdom hk htalks hseq hgap
    refine ⟨_, onFabric_of_on hhub hdom _, ?_⟩
    dsimp only
    rw [Nat.mod_eq_of_lt hk, flitReceived_data htalks, if_pos hseq]
    obtain ⟨hseen, hexpect, hregs⟩ := flitBad_port s k
    refine ⟨hseen, hexpect, hregs, ?_⟩
    rw [flitBad_eq, if_neg (by simp [hgap])]
    rfl
  case gapAgain =>
    intro s k fseq unknown hhub hdom hk htalks hseq hgap
    refine ⟨_, onFabric_of_on hhub hdom _, ?_⟩
    dsimp only
    rw [Nat.mod_eq_of_lt hk, flitReceived_data htalks, if_pos hseq, flitBad_eq, if_pos hgap]
  case broken =>
    intro s k kind fseq unknown hhub hdom hk htalks
    refine ⟨_, onFabric_of_on hhub hdom _, ?_⟩
    dsimp only
    rw [Nat.mod_eq_of_lt hk, flitReceived_broken htalks]
    obtain ⟨hseen, hexpect, hregs⟩ := flitBad_port (s.bump fFABRIC_CNT_A_FEC_UNCORR) k
    refine ⟨?_, hseen, by rw [hexpect, fabPort_congr (State.bump_fabric _ _)]⟩
    rw [fv_congr hregs, fv_bump_same (by decide)]
    rfl
  case ackFull =>
    intro s k hhub hdom hk htalks hfull
    refine ⟨_, onFabric_of_on hhub hdom _, ?_⟩
    dsimp only
    rw [Nat.mod_eq_of_lt hk]
    exact ackSend_done htalks (by omega) (.inl hfull)
  case ackLate =>
    intro s k hhub hdom hk htalks hone hlate
    refine ⟨_, onFabric_of_on hhub hdom _, ?_⟩
    dsimp only
    rw [Nat.mod_eq_of_lt hk]
    obtain ⟨hunacked, hsent, -⟩ := ackSend_done htalks (by omega) (.inr hlate)
    exact ⟨hunacked, hsent⟩
  case acked =>
    intro s k fseq pre m post hhub hdom hk hwait hstore hpre
    refine ⟨_, onFabric_of_on hhub hdom _, ?_⟩
    dsimp only
    have hidle : (fabPort (setFabPort s k ((fabPort s k).acked post s.now)) k).waiting = [] := by
      rw [fabPort_setFabPort_same]
      exact hwait
    rw [Nat.mod_eq_of_lt hk, ackReceived_eq hstore hpre, pumpPort, hidle, List.length_nil, pump, fabPort_setFabPort_same]
    exact ⟨rfl, rfl, rfl, rfl⟩
  case replay =>
    intro s k fseq pre m post hhub hdom hk hnaks hstore hpre
    refine ⟨_, onFabric_of_on hhub hdom _, ?_⟩
    dsimp only
    obtain ⟨hnak, hheld⟩ := (fabPort s k).replaying_parts s.now
    rw [Nat.mod_eq_of_lt hk, nakReceived_eq hstore hpre hnaks, portCtl_all, messagesLeft_fabPort,
      fabPort_congr (State.bump_fabric _ _), fabPort_congr (State.bump_fabric _ _), fabPort_setFabPort_same, messagesLeft_sent,
      State.bump_fabric, State.bump_fabric, setFabPort_sent, fv_congr (messagesLeft_regs _ _), fv_congr (messagesLeft_regs _ _)]
    refine ⟨rfl, hnak, hheld, ?_, ?_⟩
    · rw [State.bump, State.fv_setF_other (by grind), fv_bump_same (by grind), fv_congr (setFabPort_regs _ _ _)]
      rfl
    · rw [fv_bump_same (by grind), State.bump, State.fv_setF_other (by grind), fv_congr (setFabPort_regs _ _ _)]
      rfl
  case refusals =>
    intro s k fseq hhub hdom hk hst hnaks hany
    refine ⟨_, onFabric_of_on hhub hdom _, ?_⟩
    dsimp only
    rw [Nat.mod_eq_of_lt hk, nakReceived_limit hnaks hany]
    exact retryLimit_down hk hst
  case silent =>
    intro s k hhub hdom hk htalks hstore hlate
    refine ⟨_, onFabric_of_on hhub hdom _, ?_⟩
    dsimp only
    rw [Nat.mod_eq_of_lt hk, ackTimeout_eq htalks hstore hlate]
    exact retryLimit_down hk (portTalks_state htalks)
  case rootOwn =>
    intro s hhub hdom hen hst hlate hbest hroot hvalid hreq hheld
    refine ⟨_, onFabric_of_on hhub hdom _, ?_⟩
    dsimp only
    rw [rootStable_eq hen hst hlate, decide_eq_true hbest]
    have hstatus := (idSought_own hen hbest hroot hvalid hreq hheld).trans (fabStatus_routed _) (by rw [fabStatus_fabric])
    have hshown := hstatus.trans (fabState_routed _) (by rw [fabState_fabric])
    refine ⟨hshown.stable, hshown.isRoot, hshown.valid, hshown.id, ?_, hshown.granted⟩
    rw [fv_fabState, hstatus.enabled, State.on_eq, hstatus.valid]
    rfl
  case rootOther =>
    intro s j hhub hdom hen hst hlate hbest hvalid hup
    refine ⟨_, onFabric_of_on hhub hdom _, ?_⟩
    dsimp only
    rw [rootStable_eq hen hst hlate, decide_eq_false hbest]
    exact rootStable_claims hvalid hup
  case claimPassed =>
    intro s k j serial seq req hhub hdom hk hup hseen hroot hupj hjk
    refine ⟨_, onFabric_of_on hhub hdom _, ?_⟩
    dsimp only
    rw [Nat.mod_eq_of_lt hk, idClaim_new hup hseen, if_neg (by simp [hroot])]
    obtain ⟨hgiven, hregs, hgranted, hnoted⟩ := passedOn (2 * serial, seq) hupj hjk (.claim serial seq req)
    exact ⟨hgiven, hnoted, hgranted, hregs⟩
  case claimGranted =>
    intro s k j serial seq req d hhub hdom hk hup hseen hroot hser hgrant hupj
    refine ⟨_, onFabric_of_on hhub hdom _, ?_⟩
    dsimp only
    rw [Nat.mod_eq_of_lt hk, idClaim_new hup hseen, if_pos hroot]
    exact grantId_told (s := seenNoted s (2 * serial, seq)) hser (by rw [grantFor_seenNoted, hgrant])
      ((portUp_congr (seenNoted_regs s _) j).trans hupj)
  case claimSeen =>
    intro s k serial seq req hhub hdom hk hseen
    refine ⟨_, onFabric_of_on hhub hdom _, ?_⟩
    dsimp only
    rw [Nat.mod_eq_of_lt hk, idClaim_seen hseen]
  case granted =>
    intro s k root seq d hhub hdom hk hup hseen hvalid hd hstrict
    refine ⟨_, onFabric_of_on hhub hdom _, ?_⟩
    dsimp only
    rw [Nat.mod_eq_of_lt hk, idGrant_new hup hseen, if_pos rfl, if_neg (by simp [hvalid]), Nat.mod_eq_of_lt hd]
    have hloose : (seenNoted s (2 * root + 1, seq)).on fFABRIC_CFG_ID_STRICT = false := hstrict
    exact takeId_shown (s := seenNoted s (2 * root + 1, seq)) hd (by rw [hloose, Bool.false_and])
  case strict =>
    intro s k root seq d hhub hdom hk hup hseen hvalid hd hstrict hreq
    refine ⟨_, onFabric_of_on hhub hdom _, ?_⟩
    dsimp only
    rw [Nat.mod_eq_of_lt hk, idGrant_new hup hseen, if_pos rfl, if_neg (by simp [hvalid]), Nat.mod_eq_of_lt hd]
    have hrefuse : ((seenNoted s (2 * root + 1, seq)).on fFABRIC_CFG_ID_STRICT
        && (seenNoted s (2 * root + 1, seq)).fv fFABRIC_CFG_ID_REQ != d) = true := by
      have hon : (seenNoted s (2 * root + 1, seq)).on fFABRIC_CFG_ID_STRICT = true := hstrict
      have hne : (seenNoted s (2 * root + 1, seq)).fv fFABRIC_CFG_ID_REQ ≠ d := hreq
      simp [hon, hne]
    rw [takeId_refused hrefuse, fabReport, report_fv, report_fv, fv_ev_of_apart (by decide) (by decide),
      fv_ev_set (by decide) (by decide), State.report_inbox, State.ev_isl, fv_congr (seenNoted_regs s _)]
    rw [State.on_eq] at hvalid
    exact ⟨by simpa using hvalid, rfl, rfl⟩
  case grantPassed =>
    intro s k j root seq serial d hhub hdom hk hup hseen hser hupj hjk
    refine ⟨_, onFabric_of_on hhub hdom _, ?_⟩
    dsimp only
    rw [Nat.mod_eq_of_lt hk, idGrant_new hup hseen, if_neg hser]
    obtain ⟨hgiven, hregs, -, -⟩ := passedOn (2 * root + 1, seq) hupj hjk (.grant root seq serial d)
    exact ⟨hgiven, hregs⟩

end Sys2Proof.Machine

namespace Sys2Proof.Machine

/-! ### Answers (R438) -/

/-- The answer to a request. -/
def answerPacket (s : State) (q : FabPacket) (status : Nat) (data : List Byte) (poison : Bool) : FabPacket :=
  ⟨1, if q.typ = 1 then 9 else 8, q.src, (fabId s).getD 0, if status = 0 && q.typ ≠ 1 then q.len else 0, poison, q.tag, 8,
    status, 0, if status = 0 then data else []⟩

theorem fabAnswer_sent {s : State} {q : FabPacket} {k : Nat} (h : routePort s q.src = some k) (status : Nat) (data : List Byte)
    (poison : Bool) : fabAnswer s q status data poison = portSend s k (.packet (answerPacket s q status data poison)) := by
  unfold fabAnswer
  rw [h]
  rfl

theorem fabAnswer_posted (s : State) (q : FabPacket) (status : Nat) (data : List Byte) (poison : Bool) :
    Posted s (fabAnswer s q status data poison) := by
  unfold fabAnswer
  dsimp only
  split
  · exact portSend_posted _ _ _
  · exact .refl s

theorem fabAnswer_answered {s : State} {q : FabPacket} {k : Nat} (h : routePort s q.src = some k) (status : Nat)
    (data : List Byte) (poison : Bool) :
    Answered (fabAnswer s q status data poison) k q status (if status = 0 then data else []) := by
  rw [fabAnswer_sent h]
  exact ⟨_, portSend_given s k _, rfl, rfl, rfl, rfl, rfl, rfl⟩

/-- An answer that reports a failure brings no data. -/
theorem fabAnswer_failed {s : State} {q : FabPacket} {k status : Nat} (h : routePort s q.src = some k) (hst : status ≠ 0) :
    Answered (fabAnswer s q status [] false) k q status [] := by
  have := fabAnswer_answered h status [] false
  rwa [if_neg hst] at this

theorem RouteReg.far {o : Nat} (h : RouteReg o) : 0x1400040 ≤ o ∧ o < 0x1400300 := by
  obtain ⟨d, hd, rfl⟩ | ⟨k, hk, rfl⟩ := h
  · simp only [rFABRIC_ROUTE]
    omega
  · simp only [rFABRIC_PORT_STATUS]
    omega

theorem RouteReg.not_irqReg {o : Nat} (h : RouteReg o) : ¬ irqReg o := by
  have := h.far
  exact not_irqReg_iff.mpr ⟨by omega, by omega⟩

/-! ### Packets for other devices (R449) -/

/-- An asker is told that its packet has failed with `status`. -/
def refusedPacket (s : State) (p : FabPacket) (status : Nat) : State :=
  if p.typ = 1 || p.typ = 2 then fabAnswer s p status [] false else s

theorem refusedPacket_posted (s : State) (p : FabPacket) (status : Nat) : Posted s (refusedPacket s p status) :=
  .ite (fun _ => fabAnswer_posted _ _ _ _ _) fun _ => .refl s

theorem refusedPacket_answered {s : State} {p : FabPacket} {k status : Nat} (hst : status ≠ 0) (hask : p.typ = 1 ∨ p.typ = 2)
    (h : routePort s p.src = some k) : Answered (refusedPacket s p status) k p status [] := by
  rw [refusedPacket, if_pos (by simpa using hask)]
  exact fabAnswer_failed h hst

/-- The packet with one hop less. -/
def hopped (p : FabPacket) : FabPacket := { p with hops := p.hops - 1 }

section
variable {s : State} {k : Nat} {p : FabPacket} (hup : portUp s k = true) (hdst : fabId s ≠ some p.dst)
include hup hdst

theorem packetForward_dead (hhops : p.hops = 0) :
    packetForward s k p = refusedPacket (fabReport s p.dst 0x0007) p 5 := by
  unfold packetForward
  rw [if_neg (by simp [hup, hdst])]
  dsimp only
  rw [if_pos hhops]
  rfl

theorem packetForward_goes (hhops : p.hops ≠ 0) {j : Nat} (hroute : routePort s p.dst = some j) :
    packetForward s k p = portSend s j (.packet (hopped p)) := by
  unfold packetForward
  rw [if_neg (by simp [hup, hdst])]
  dsimp only
  rw [if_neg hhops, hroute]
  rfl

theorem packetForward_lost (hhops : p.hops ≠ 0) (hroute : routePort s p.dst = none) :
    packetForward s k p = refusedPacket (fabReport (s.ev fFABRIC_EVENT_UNREACHABLE) p.dst 0x0006) p 3 := by
  unfold packetForward
  rw [if_neg (by simp [hup, hdst])]
  dsimp only
  rw [if_neg hhops, hroute]
  rfl
end

theorem fabReport_regs (s : State) (inst code : Nat) : (fabReport s inst code).regs = s.regs := rfl

theorem ev_routes {f : Fld} (hf : f.off < 0x1400040) (s : State) : RegsKept RouteReg s (s.ev f) :=
  (RegsKept.refl _ s).ev (fun h => by have := h.far; omega) fun _ ho => ho.not_irqReg

/-! ### Requests through an inbound window (R450) -/

/-- A write that ends at the end of a doorbell window is shown. -/
def doorbellRung (s : State) (w : Nat) : State :=
  (s.setF ⟨rFABRIC_WIN_EVENT (w / 32), w % 32, 1⟩ 1).ev fFABRIC_EVENT_DOORBELL

theorem doorbellHit_eq (s : State) (w : Nat) (p : FabPacket) :
    doorbellHit s w p = if s.on (fFABRIC_IN_WIN_CTRL_DOORBELL w) && p.addr + p.len == winLimit s w + 1 then doorbellRung s w
      else s := rfl

theorem doorbellRung_bit (s : State) (w : Nat) : (doorbellRung s w).fv ⟨rFABRIC_WIN_EVENT (w / 32), w % 32, 1⟩ = 1
    ∧ (doorbellRung s w).fv fFABRIC_EVENT_DOORBELL = 1 := by
  have hw := Nat.mod_lt w (show 0 < 32 by decide)
  refine ⟨?_, ?_⟩
  · rw [doorbellRung, fv_ev_of_apart (by grind) (by grind), State.fv_setF_same _ _ _ (by dsimp only; omega)]
    rfl
  · rw [doorbellRung, fv_ev_set (by decide) (by decide)]
    rfl

theorem doorbellHit_routes (s : State) (w : Nat) (p : FabPacket) : RegsKept RouteReg s (doorbellHit s w p) := by
  rw [doorbellHit_eq]
  refine .ite (fun _ => RegsKept.ev ((RegsKept.refl _ s).setF _ fun h => ?_) (fun h => ?_) fun _ ho => ho.not_irqReg) fun _ => .refl _ s
  · have := h.far
    simp only [rFABRIC_WIN_EVENT] at this
    omega
  · exact absurd h.far (by decide)

theorem doorbellHit_mem (s : State) (w : Nat) (p : FabPacket) : (doorbellHit s w p).mem = s.mem := by
  rw [doorbellHit_eq]
  split
  · exact State.ev_mem _ _
  · rfl

theorem doorbellHit_wire (s : State) (w : Nat) (p : FabPacket) : (doorbellHit s w p).wire = s.wire := by
  rw [doorbellHit_eq]
  split
  · exact State.ev_wire _ _
  · rfl

section
variable {s : State} {w a : Nat} {p : FabPacket} (ha : a = winTarget s w + (p.addr - winBase s w))
include ha

/-- A request to LP5X memory that is there is served, or fails at its target. -/
theorem serveReq_lp (hspace : s.fv (fFABRIC_IN_WIN_CTRL_SPACE w) = 0) (hend : a + p.len ≤ 2 ^ 34)
    (hrange : lpRange s a p.len = true) (e : Bool) :
    serveReq s w p e = if e then fabAnswer s p 4 [] false
      else if p.typ = 1 then fabAnswer (doorbellHit (memWrite s a (p.data.take p.len) p.poison) w p) p 0 [] false
      else fabAnswer s p 0 (memRead s a p.len) (memBad s a p.len) := by
  unfold serveReq
  dsimp only
  rw [← ha, if_pos hspace, if_neg (by omega), if_neg (by simp [hrange])]

/-- A write to the host goes out on the link. -/
theorem serveReq_host (hspace : s.fv (fFABRIC_IN_WIN_CTRL_SPACE w) = 1) (hdom : domOn s 13 = true) (hup : hostUp s = true)
    (htyp : p.typ = 1) (e : Bool) :
    serveReq s w p e = fabAnswer (doorbellHit (hostData s a (p.data.take p.len) p.poison) w p) p 0 [] false := by
  unfold serveReq
  dsimp only
  rw [← ha, if_neg (by omega), if_neg (by simp [hdom]), if_neg (by simp [hup]), if_pos (by simp [htyp])]
end

theorem memWrite_regs (s : State) (a : Nat) (bs : List Byte) (poison : Bool) : (memWrite s a bs poison).regs = s.regs := rfl

/-- The window admits a request in its direction. -/
def winAdmits (s : State) (w : Nat) (p : FabPacket) : Bool :=
  srcAllowed s w p.src && s.on (if p.typ = 1 then fFABRIC_IN_WIN_CTRL_WRITE_OK w else fFABRIC_IN_WIN_CTRL_READ_OK w)

section
variable {s : State} {k : Nat} {p : FabPacket} (hup : portUp s k = true) (hdst : fabId s = some p.dst)
  (htyp : p.typ = 1 ∨ p.typ = 2)
include hup hdst htyp

theorem requestReceived_eq (e : Bool) : requestReceived s k p e = (match winFor s p.addr p.len with
    | none => fabAnswer (s.bump fFABRIC_CNT_B_NO_WINDOW) p 1 [] false
    | some w => if winAdmits s w p then serveReq s w p e else fabAnswer (s.bump fFABRIC_CNT_B_DENIED) p 2 [] false) := by
  have hgo : ¬ (!portUp s k || fabId s != some p.dst || (p.typ != 1 && p.typ != 2)) = true := by
    obtain h | h := htyp <;> simp [hup, hdst, h]
  unfold requestReceived
  rw [if_neg hgo]
  rfl

theorem requestReceived_window {w : Nat} (hwin : winFor s p.addr p.len = some w) (e : Bool) :
    requestReceived s k p e = if winAdmits s w p then serveReq s w p e
      else fabAnswer (s.bump fFABRIC_CNT_B_DENIED) p 2 [] false := by
  rw [requestReceived_eq hup hdst htyp, hwin]

theorem requestReceived_none (hwin : winFor s p.addr p.len = none) (e : Bool) :
    requestReceived s k p e = fabAnswer (s.bump fFABRIC_CNT_B_NO_WINDOW) p 1 [] false := by
  rw [requestReceived_eq hup hdst htyp, hwin]
end

/-- A counter of refused requests is one higher, and the asker is told. -/
theorem refusal_counted {s : State} {f : Fld} (hf : f.off = rFABRIC_CNT_B) (hfield : f.lsb + f.width ≤ 32) {p : FabPacket}
    {j status : Nat} (hroute : routePort s p.src = some j) (hst : status ≠ 0) :
    (fabAnswer (s.bump f) p status [] false).fv f = satTo (2 ^ f.width - 1) (s.fv f + 1)
      ∧ Answered (fabAnswer (s.bump f) p status [] false) j p status []
      ∧ (fabAnswer (s.bump f) p status [] false).mem = s.mem
      ∧ SameRegsBut s (fabAnswer (s.bump f) p status [] false) [rFABRIC_CNT_B] := by
  have hsent := fabAnswer_posted (s.bump f) p status [] false
  have hroutes : RegsKept RouteReg s (s.bump f) := (RegsKept.refl _ s).bump fun h => by
    have := h.far
    simp only [hf, rFABRIC_CNT_B] at this
    omega
  refine ⟨?_, fabAnswer_failed ((routePort_kept hroutes _).trans hroute) hst, ?_, ?_⟩
  · rw [fv_congr hsent.regs, fv_bump_same hfield]
  · rw [hsent.mem, State.bump_mem]
  · exact (((RegsKept.refl _ s).bump (by simp [hf])).regs hsent.regs).but

end Sys2Proof.Machine

namespace Sys2Proof.Machine

/-! ### Requests that end (R439, R442) -/

/-- What the requester finds. -/
def doneOf (r : FabReq) (status : Nat) (data : List Byte) (poison : Bool) : FabDone :=
  ⟨r.owner, r.pkt.dst, r.pkt.typ == 1, status, data, poison⟩

/-- The request of `tag` is over. -/
def reqOver (s : State) (tag : Nat) (d : FabDone) : State :=
  { s with fabric := { s.fabric with reqs := kdel tag s.fabric.reqs, done := kput tag d s.fabric.done } }

theorem endReq_eq {s : State} {tag : Nat} {r : FabReq} (h : kget tag s.fabric.reqs = some r) (status : Nat) (data : List Byte)
    (poison : Bool) : endReq s tag status data poison = launchHeld (reqOver s tag (doneOf r status data poison)) := by
  unfold endReq
  rw [h]
  rfl

/-- The requester finds what has come, and registers and reports are as they were. -/
theorem endReq_done {s : State} {tag : Nat} {r : FabReq} (h : kget tag s.fabric.reqs = some r) (status : Nat) (data : List Byte)
    (poison : Bool) :
    kget tag (endReq s tag status data poison).fabric.done = some (doneOf r status data poison)
      ∧ (endReq s tag status data poison).regs = s.regs ∧ (endReq s tag status data poison).isl = s.isl := by
  have hsent := launchHeld_posted (reqOver s tag (doneOf r status data poison))
  rw [endReq_eq h]
  refine ⟨?_, hsent.regs.trans rfl, hsent.isl.trans rfl⟩
  rw [hsent.fabric]
  exact kget_kput_same _ _ _

section
variable {s : State} {k : Nat} {p : FabPacket} (hup : portUp s k = true) (hdst : fabId s = some p.dst)
  (htyp : p.typ = 8 ∨ p.typ = 9)
include hup hdst htyp

theorem responseReceived_eq : responseReceived s k p = (match kget p.tag s.fabric.reqs with
    | some r =>
      if r.pkt.dst = p.src && (p.typ == 9) == (r.pkt.typ == 1) then endReq s p.tag p.status p.data p.poison
      else fabReport s p.src 0x000C
    | none => fabReport s p.src 0x000C) := by
  have hgo : ¬ (!portUp s k || fabId s != some p.dst || (p.typ != 8 && p.typ != 9)) = true := by
    obtain h | h := htyp <;> simp [hup, hdst, h]
  exact if_neg hgo

theorem responseReceived_matches {r : FabReq} (hreq : kget p.tag s.fabric.reqs = some r) (hsrc : r.pkt.dst = p.src)
    (hdir : p.typ = 9 ↔ r.pkt.typ = 1) : responseReceived s k p = endReq s p.tag p.status p.data p.poison := by
  have hsame : ((p.typ == 9) == (r.pkt.typ == 1)) = true := by
    rw [beq_iff_eq, Bool.eq_iff_iff, beq_iff_eq, beq_iff_eq]
    exact hdir
  rw [responseReceived_eq hup hdst htyp, hreq]
  dsimp only
  rw [if_pos (by simp [hsrc, hsame])]

theorem responseReceived_stray (hreq : kget p.tag s.fabric.reqs = none) : responseReceived s k p = fabReport s p.src 0x000C := by
  rw [responseReceived_eq hup hdst htyp, hreq]
end

/-- A timeout is counted and reported. -/
def timeoutTold (s : State) (dst : Nat) : State :=
  fabReport ((s.bump fFABRIC_CNT_C_TIMEOUT).ev fFABRIC_EVENT_TIMEOUT) dst 0x000C

theorem requestTimeout_eq {s : State} {tag : Nat} {r : FabReq} (hreq : kget tag s.fabric.reqs = some r)
    (hlate : r.sentAt + s.fv fFABRIC_TIMING_TIMEOUT_US * 1000 ≤ s.now) :
    requestTimeout s tag = endReq (timeoutTold s r.pkt.dst) tag 256 [] false := by
  unfold requestTimeout
  rw [hreq]
  exact if_pos hlate

theorem timeoutTold_fabric (s : State) (dst : Nat) : (timeoutTold s dst).fabric = s.fabric := by
  rw [timeoutTold, fabReport, State.report_fabric, State.ev_fabric, State.bump_fabric]

theorem timeoutTold_inbox (s : State) (dst : Nat) :
    (timeoutTold s dst).isl.inbox = s.isl.inbox ++ [(faultCode 0x18 dst 0x000C, 0)] := by
  rw [timeoutTold, fabReport, State.report_inbox, State.ev_isl, State.bump_isl]

theorem timeoutTold_fv (s : State) (dst : Nat) : (timeoutTold s dst).fv fFABRIC_EVENT_TIMEOUT = 1
    ∧ (timeoutTold s dst).fv fFABRIC_CNT_C_TIMEOUT = satTo 0xFFFF (s.fv fFABRIC_CNT_C_TIMEOUT + 1) := by
  refine ⟨?_, ?_⟩
  · rw [timeoutTold, fabReport, report_fv, fv_ev_set (by decide) (by decide)]
    rfl
  · rw [timeoutTold, fabReport, report_fv, fv_ev_of_apart (by decide) (by decide), fv_bump_same (by decide)]
    rfl

/-! ### Inbound windows (R451) -/

/-- The fields of a window's CTRL. -/
def winFields : List RegField := [rw 0 1 0, rwr 1 2 0 0 1, rw 3 1 1, rw 4 1 1, rw 5 1 0]

theorem winCtrl_row : ∀ w < 64, (regAt (rFABRIC_IN_WIN_CTRL w)).map (fun x => x.1.flds) = some winFields
    ∧ evSrc (rFABRIC_IN_WIN_CTRL w) = none := by
  decide +kernel

theorem winFields_good {n : Nat} (h : bitsOf n 1 2 < 2) : winFields.any (fieldBad n) = false := by
  have hle : ¬ 1 < bitsOf n 1 2 := by omega
  have hspace : fieldBad n (rwr 1 2 0 0 1) = false := by simp [fieldBad, rwr, hle]
  simp [winFields, fieldBad_rw, hspace]

/-- A write of a register that belongs to no interrupt source changes this register only. -/
theorem plainWrite_alone {off : Nat} {fs : List RegField} (hreg : (regAt off).map (fun x => x.1.flds) = some fs)
    (hsrc : evSrc off = none) {v : Word} (hgood : fs.any (fieldBad v.toNat) = false) (s : State) :
    SameRegsBut s (plainWrite s off v) [off] := by
  obtain ⟨⟨r, i, j⟩, hrow, hflds⟩ := Option.map_eq_some_iff.mp hreg
  have hflds' : r.flds = fs := hflds
  have hset : plainWrite s off v = s.setRn off (writeWord (s.rn off) v.toNat r.flds) := by
    unfold plainWrite
    rw [hrow]
    dsimp only
    rw [if_neg (by rw [hflds', hgood]; decide), hsrc]
  rw [hset]
  exact ((RegsKept.refl _ s).setRn _ (by simp)).but

theorem inWinCtrl_opens {s : State} {w : Nat} {v : Word} (hspace : bitsOf v.toNat 1 2 < 2) (hoff : winEn s w = false)
    (hok : winRefused s w (bitsOf v.toNat 1 2) = false) : inWinCtrl s w v = plainWrite s (rFABRIC_IN_WIN_CTRL w) v := by
  unfold inWinCtrl
  dsimp only
  rw [if_neg (by omega), if_neg (by simp [hoff]), if_neg (by simp [hok])]

theorem inWinCtrl_refuses {s : State} {w : Nat} {v : Word} (hspace : bitsOf v.toNat 1 2 < 2) (hoff : winEn s w = false)
    (hen : bitAt v.toNat 0 = true) (hbad : winRefused s w (bitsOf v.toNat 1 2) = true) :
    inWinCtrl s w v = s.ev fFABRIC_EVENT_CFG_INVALID := by
  unfold inWinCtrl
  dsimp only
  rw [if_neg (by omega), if_neg (by simp [hoff]), if_pos (by simp [hen, hbad])]

theorem inWinCtrl_closes {s : State} {w : Nat} {v : Word} (hspace : bitsOf v.toNat 1 2 < 2) (hon : winEn s w = true)
    (hen : bitAt v.toNat 0 = false) (hsame : bitsOf v.toNat 1 5 = bitsOf (s.rn (rFABRIC_IN_WIN_CTRL w)) 1 5) :
    inWinCtrl s w v = s.setF (fFABRIC_IN_WIN_CTRL_EN w) 0 := by
  unfold inWinCtrl
  dsimp only
  rw [if_neg (by omega), if_pos hon, if_neg (by simp [hen]), if_neg (by simp [hsame])]

theorem inWinCtrl_ignores {s : State} {w : Nat} {v : Word} (hspace : bitsOf v.toNat 1 2 < 2) (hon : winEn s w = true)
    (hen : bitAt v.toNat 0 = true) (hdiff : bitsOf v.toNat 1 5 ≠ bitsOf (s.rn (rFABRIC_IN_WIN_CTRL w)) 1 5) :
    inWinCtrl s w v = winIgnored s w := by
  unfold inWinCtrl
  dsimp only
  rw [if_neg (by omega), if_pos hon, if_pos hen, if_pos (by simp [hdiff])]

/-! ### Peer streams (R453) -/

@[simp] theorem peerOf_setPeer (s : State) (st : Nat) (x : Peer) : peerOf (setPeer s st x) st = x := by
  simp [peerOf, setPeer]

theorem setPeer_regs (s : State) (st : Nat) (x : Peer) : (setPeer s st x).regs = s.regs := rfl

/-- What the first read of a control block finds. -/
def blockPeer (b : List Byte) (now : Nat) : Peer :=
  { valid := true, descBase := leAt b 0 8, cplBase := leAt b 8 8, size := 2 ^ leAt b 16 1, tail := leAt b 0x12 2,
    head := leAt b 0x14 2, cplTail := leAt b 0x16 2, notify := leAt b 0x18 8, polledAt := now }

/-- What a later read of a control block finds. -/
def tailPolled (x : Peer) (b : List Byte) (now : Nat) : Peer := { x with tail := leAt b 0x12 2, polledAt := now }

theorem peerBlock_eq (s : State) (st : Nat) (b : List Byte) : peerBlock s st b =
    if !blockOk b then fabReport ((setPeer s st { polledAt := s.now }).ev fFABRIC_EVENT_PEER_BLOCK_BAD) st 0x000B
    else if (peerOf s st).valid then setPeer s st (tailPolled (peerOf s st) b s.now)
    else setPeer s st (blockPeer b s.now) := rfl

theorem peerPoll_block {s : State} {st : Nat} (hpeer : peerStream s st = true)
    (hdue : (peerOf s st).valid = false ∨ (peerOf s st).waiting ≠ 0) (b : List Byte) :
    peerPoll s st (.data b) .failed = peerBlock s st b := by
  have hgo : ¬ (!peerStream s st || ((peerOf s st).valid && (peerOf s st).waiting = 0
      && s.now < (peerOf s st).polledAt + 100000)) = true := by
    obtain h | h := hdue <;> simp [hpeer, h]
  unfold peerPoll
  dsimp only
  rw [if_neg hgo]

/-! ### Time (R455, R456) -/

/-- The exchange starts now. -/
def exchangeStarted (s : State) : State := { s with fabric := { s.fabric with t1 := some s.dial, syncAt := s.now } }

theorem timeExchange_eq {s : State} {k : Nat} (hparent : parentPort s = some k) (hup : portUp s k = true)
    (hdue : s.fabric.syncAt + s.fv fFABRIC_TIMING_SYNC_PERIOD_US * 1000 ≤ s.now) :
    timeExchange s = portSend (exchangeStarted (updFabPort s k fun x => { x with replayed := false })) k .timeReq := by
  unfold timeExchange
  rw [hparent]
  dsimp only
  rw [if_pos (by simp [hup, hdue])]
  rfl

/-- The exchange that was open is over. -/
def exchangeEnded (s : State) : State := { s with fabric := { s.fabric with t1 := none } }

/-- The round trip without the parent's turnaround. -/
def roundTrip (t1 t2 t3 t4 : Nat) : Int := (Int.ofNat t4 - Int.ofNat t1) - (Int.ofNat t3 - Int.ofNat t2)

/-- Twice the offset from the parent in picoseconds, with the asymmetry of the port taken off. -/
def twiceOffset (s : State) (k t1 t2 t3 : Nat) : Int :=
  ((Int.ofNat t2 - Int.ofNat t1) - (Int.ofNat s.dial - Int.ofNat t3)) * 1000 - signedOf 16 (s.fv (fFABRIC_PORT_ASYM_PS k))

/-- The estimate, rounded by chance where it is no whole nanosecond. -/
def offsetTaken (s : State) (n est : Int) : State :=
  let (up, s) := if n % 2000 = 0 then (0, s) else
    let (v, s) := takeFree s
    (v % 2, s)
  timeEstimate s (n / 2000 + Int.ofNat up + est)

theorem offsetTaken_whole (s : State) (n est : Int) : offsetTaken s (2000 * n) est = timeEstimate s (n + est) := by
  unfold offsetTaken
  rw [if_pos (Int.mul_emod_right 2000 n)]
  dsimp only
  rw [Int.mul_ediv_cancel_left n (by decide)]
  change timeEstimate s (n + 0 + est) = _
  rw [add_zero]

theorem timeRsp_eq {s : State} {k t1 : Nat} (h1 : s.fabric.t1 = some t1) (hparent : parentPort s = some k) (t2 t3 : Nat)
    (est : Int) :
    timeRsp s k t2 t3 est true =
      if !true || roundTrip t1 t2 t3 s.dial < 0 || 2000 < roundTrip t1 t2 t3 s.dial || (fabPort s k).replayed then exchangeEnded s
      else offsetTaken (exchangeEnded s) (twiceOffset s k t1 t2 t3) est := by
  unfold timeRsp
  rw [h1]
  dsimp only
  rw [if_neg (by simp [hparent])]
  rfl

/-! ### Sleep (R457) -/

/-- A lane is asked for state `st`. -/
def laneAsked (x : Lane) (st : Nat) (tx : Bool) : Lane := if tx then { x with reqTx := st } else { x with reqRx := st }

theorem laneOf_updLane_same (s : State) (m : Nat) (g : Lane → Lane) : laneOf (updLane s m g) m = g (laneOf s m) := by
  simp [laneOf, updLane, setLane]

theorem laneOf_updLane_other {j m : Nat} (h : j ≠ m) (s : State) (g : Lane → Lane) : laneOf (updLane s m g) j = laneOf s j :=
  kgetD_kputD_other h _ _ _ _

theorem portLanesReq_eq (s : State) (k st : Nat) (tx : Bool) :
    portLanesReq s k st tx = (fabPort s k).lanes.foldl (fun s m => updLane s m fun x => laneAsked x st tx) s := rfl

theorem portLanesReq_regs (s : State) (k st : Nat) (tx : Bool) : (portLanesReq s k st tx).regs = s.regs := by
  rw [portLanesReq_eq]
  exact foldl_keeps State.regs (fun _ _ => by rfl) s

theorem portLanesReq_fabric (s : State) (k st : Nat) (tx : Bool) : (portLanesReq s k st tx).fabric = s.fabric := by
  rw [portLanesReq_eq]
  exact foldl_keeps State.fabric (fun _ _ => by rfl) s

/-- What holds of a lane that has been asked for a state holds of every lane of the port. -/
theorem portLanesReq_asked {Q : Lane → Prop} {st : Nat} {tx : Bool} (hQ : ∀ x, Q (laneAsked x st tx)) {s : State} {k m : Nat}
    (hm : m ∈ (fabPort s k).lanes) : Q (laneOf (portLanesReq s k st tx) m) := by
  rw [portLanesReq_eq]
  refine foldl_reaches (I := fun _ => True) (Q := fun u => Q (laneOf u m)) hm trivial (fun _ _ _ _ => trivial) (fun u _ => ?_)
    fun u a _ ha hu => ?_
  · rw [laneOf_updLane_same]
    exact hQ _
  · rw [laneOf_updLane_other (Ne.symm ha)]
    exact hu

/-- The port sleeps in state `st`. -/
def FabPort.sleeping (x : FabPort) (st : Nat) : FabPort := { x with asleep := st }

/-- Port `k` tells its neighbour with `m` that it sleeps in state `st`, or that it wakes with 0. -/
def sleepTold (s : State) (k st : Nat) (m : FabMsg) : State := portCtl (setFabPort s k ((fabPort s k).sleeping st)) k m

theorem sleepTold_parts (s : State) (k st : Nat) (m : FabMsg) :
    fabPort (sleepTold s k st m) k = (fabPort s k).sleeping st ∧ (sleepTold s k st m).fabric.sent = s.fabric.sent ++ [(k, m)]
      ∧ (sleepTold s k st m).regs = s.regs := by
  have hport : ∀ u : State, fabPort (portCtl u k m) k = fabPort u k := fun _ => rfl
  refine ⟨?_, rfl, rfl⟩
  rw [sleepTold, hport, fabPort_setFabPort_same]

theorem FabPort.sleeping_parts (x : FabPort) (st : Nat) : (x.sleeping st).asleep = st ∧ (x.sleeping st).lanes = x.lanes :=
  ⟨rfl, rfl⟩

/-- How deep an idle port may sleep now. -/
def sleepDepth (s : State) (k : Nat) : Nat :=
  if s.on (fFABRIC_PORT_CTRL_DEEP_EN k)
      && (fabPort s k).dataAt + 100 * (s.fv (fFABRIC_PORT_CTRL_IDLE_US k) * 1000) ≤ s.now && !peerUses s k then 3
  else if s.on (fFABRIC_PORT_CTRL_SLEEP_EN k)
      && (fabPort s k).dataAt + s.fv (fFABRIC_PORT_CTRL_IDLE_US k) * 1000 ≤ s.now then 2
  else 0

theorem idleSleep_eq (s : State) (k : Nat) : idleSleep s k =
    if portUp s k && (fabPort s k).waiting.isEmpty && (fabPort s k).asleep < sleepDepth s k then
      portLanesReq (sleepTold s k (sleepDepth s k) (.sleep (sleepDepth s k))) k (sleepDepth s k) true
    else s := rfl

/-- An idle port without deep sleep goes to light sleep. -/
theorem idleSleep_light {s : State} {k : Nat} (hup : portUp s k = true) (hwait : (fabPort s k).waiting = [])
    (hawake : (fabPort s k).asleep = 0) (hen : s.on (fFABRIC_PORT_CTRL_SLEEP_EN k) = true)
    (hdeep : s.on (fFABRIC_PORT_CTRL_DEEP_EN k) = false)
    (hidle : (fabPort s k).dataAt + s.fv (fFABRIC_PORT_CTRL_IDLE_US k) * 1000 ≤ s.now) :
    (fabPort (idleSleep s k) k).asleep = 2 ∧ (idleSleep s k).fabric.sent = s.fabric.sent ++ [(k, .sleep 2)]
      ∧ (∀ m ∈ (fabPort s k).lanes, (laneOf (idleSleep s k) m).reqTx = 2) ∧ (idleSleep s k).regs = s.regs := by
  have hdepth : sleepDepth s k = 2 := by
    rw [sleepDepth, if_neg (by simp [hdeep]), if_pos (by simp [hen, hidle])]
  have heq : idleSleep s k = portLanesReq (sleepTold s k 2 (.sleep 2)) k 2 true := by
    rw [idleSleep_eq, hdepth, if_pos (by simp [hup, hwait, hawake])]
  obtain ⟨hport, hsent, hregs⟩ := sleepTold_parts s k 2 (.sleep 2)
  obtain ⟨hasleep, hlanes⟩ := (fabPort s k).sleeping_parts 2
  rw [heq, fabPort_congr (portLanesReq_fabric _ _ _ _), portLanesReq_fabric, portLanesReq_regs, hport]
  refine ⟨hasleep, hsent, fun m hm => ?_, hregs⟩
  exact portLanesReq_asked (Q := fun x => x.reqTx = 2) (fun _ => rfl) (by rw [hport, hlanes]; exact hm)

theorem Posted.asleep {s t : State} (h : Posted s t) (j : Nat) : (fabPort t j).asleep = (fabPort s j).asleep := by
  change (fabPort t j).standing.asleep = (fabPort s j).standing.asleep
  rw [h.port j]

/-- A sleeping port with something to send wakes. -/
theorem portWake_wakes {s : State} {k : Nat} (hasleep : (fabPort s k).asleep ≠ 0) (hwait : (fabPort s k).waiting ≠ []) :
    (fabPort (portWake s k) k).asleep = 0 ∧ (k, .wake) ∈ (portWake s k).fabric.sent
      ∧ (∀ m ∈ (fabPort s k).lanes, (laneOf (portWake s k) m).reqTx = 0) ∧ (portWake s k).regs = s.regs := by
  have heq : portWake s k = pumpPort (portLanesReq (sleepTold s k 0 .wake) k 0 true) k := by
    unfold portWake
    dsimp only
    rw [if_pos (by simp [hasleep, hwait])]
    rfl
  obtain ⟨hport, hsent, hregs⟩ := sleepTold_parts s k 0 .wake
  obtain ⟨hawake, hlanes⟩ := (fabPort s k).sleeping_parts 0
  have hpumped := pumpPort_posted (portLanesReq (sleepTold s k 0 .wake) k 0 true) k
  rw [heq]
  refine ⟨?_, ?_, fun m hm => ?_, ?_⟩
  · rw [hpumped.asleep, fabPort_congr (portLanesReq_fabric _ _ _ _), hport, hawake]
  · refine hpumped.sent _ ?_
    rw [portLanesReq_fabric, hsent]
    exact List.mem_append_right _ (List.mem_singleton_self _)
  · rw [laneOf, hpumped.lane, ← laneOf]
    exact portLanesReq_asked (Q := fun x => x.reqTx = 0) (fun _ => rfl) (by rw [hport, hlanes]; exact hm)
  · rw [hpumped.regs, portLanesReq_regs, hregs]

end Sys2Proof.Machine

namespace Sys2Proof.Machine

theorem winEn_ctrl {s : State} {w : Nat} {x : Nat} (h : s.fv (fFABRIC_IN_WIN_CTRL_EN w) = x) : winEn s w = (x != 0) := by
  rw [winEn, State.on_eq, h]

/-- What a window shows that a write of CTRL has opened. -/
theorem winOpened {s : State} {w : Nat} {v : Word} (hw : w < 64) (hspace : bitsOf v.toNat 1 2 < 2)
    (hen : bitAt v.toNat 0 = true) :
    winEn (plainWrite s (rFABRIC_IN_WIN_CTRL w) v) w = true
      ∧ (plainWrite s (rFABRIC_IN_WIN_CTRL w) v).fv (fFABRIC_IN_WIN_CTRL_SPACE w) = bitsOf v.toNat 1 2
      ∧ (plainWrite s (rFABRIC_IN_WIN_CTRL w) v).fv (fFABRIC_IN_WIN_CTRL_READ_OK w) = bitsOf v.toNat 3 1
      ∧ (plainWrite s (rFABRIC_IN_WIN_CTRL w) v).fv (fFABRIC_IN_WIN_CTRL_WRITE_OK w) = bitsOf v.toNat 4 1
      ∧ (plainWrite s (rFABRIC_IN_WIN_CTRL w) v).fv (fFABRIC_IN_WIN_CTRL_DOORBELL w) = bitsOf v.toNat 5 1
      ∧ SameRegsBut s (plainWrite s (rFABRIC_IN_WIN_CTRL w) v) [rFABRIC_IN_WIN_CTRL w] := by
  obtain ⟨hrow, hsrc⟩ := winCtrl_row w hw
  have hgood := winFields_good hspace
  obtain ⟨hfield, -⟩ := plainWrite_fields hrow hgood s
  have hbit : (plainWrite s (rFABRIC_IN_WIN_CTRL w) v).fv (fFABRIC_IN_WIN_CTRL_EN w) = bitsOf v.toNat 0 1 :=
    hfield (rw 0 1 0) (by simp [winFields]) rfl
  refine ⟨?_, hfield (rwr 1 2 0 0 1) (by simp [winFields]) rfl, hfield (rw 3 1 1) (by simp [winFields]) rfl,
    hfield (rw 4 1 1) (by simp [winFields]) rfl, hfield (rw 5 1 0) (by simp [winFields]) rfl,
    plainWrite_alone hrow hsrc hgood s⟩
  rw [winEn_ctrl hbit, ← bitAt_eq_bitsOf, hen]

section
variable {s : State} {k w a j : Nat} {p : FabPacket} (hup : portUp s k = true) (hdst : fabId s = some p.dst)
  (hwin : winFor s p.addr p.len = some w) (hsrc : srcAllowed s w p.src = true)
  (ha : a = winTarget s w + (p.addr - winBase s w)) (hroute : routePort s p.src = some j)
include hup hdst hwin hsrc ha hroute

/-- A write that the window admits stores exactly its bytes, and rings the bell of the window. -/
theorem windowWrite (htyp : p.typ = 1) (hok : s.on (fFABRIC_IN_WIN_CTRL_WRITE_OK w) = true)
    (hspace : s.fv (fFABRIC_IN_WIN_CTRL_SPACE w) = 0) (hend : a + p.len ≤ 2 ^ 34) (hrange : lpRange s a p.len = true)
    (hlen : p.data.length = p.len) :
    (∀ i, i < p.len → memByte (requestReceived s k p false) (a + i) = p.data.getD i 0)
      ∧ SameMemBut s (requestReceived s k p false) a p.len ∧ Answered (requestReceived s k p false) j p 0 []
      ∧ (s.on (fFABRIC_IN_WIN_CTRL_DOORBELL w) = true → p.addr + p.len = winLimit s w + 1 →
          (requestReceived s k p false).fv ⟨rFABRIC_WIN_EVENT (w / 32), w % 32, 1⟩ = 1
            ∧ (requestReceived s k p false).fv fFABRIC_EVENT_DOORBELL = 1) := by
  have hadmits : winAdmits s w p = true := by rw [winAdmits, hsrc, if_pos htyp, hok]; rfl
  rw [requestReceived_window hup hdst (.inl htyp) hwin, if_pos hadmits, serveReq_lp ha hspace hend hrange, if_neg (by decide),
    if_pos htyp, ← hlen, List.take_length, hlen]
  obtain ⟨hbytes, hothers⟩ := memWrite_bytes s a p.data p.poison
  rw [hlen] at hbytes hothers
  generalize hu : memWrite s a p.data p.poison = u at hbytes hothers ⊢
  have hregs : u.regs = s.regs := by rw [← hu, memWrite_regs]
  have hsent := fabAnswer_posted (doorbellHit u w p) p 0 [] false
  have hmem : ∀ x, memByte (fabAnswer (doorbellHit u w p) p 0 [] false) x = memByte u x := fun x => by
    rw [memByte, hsent.mem, doorbellHit_mem, memByte]
  have hroutes : RegsKept RouteReg s (doorbellHit u w p) := (RegsKept.of_regs hregs).trans (doorbellHit_routes u w p)
  refine ⟨fun i hi => by rw [hmem, hbytes i hi], fun x hx => by rw [hmem, hothers x hx],
    fabAnswer_answered ((routePort_kept hroutes _).trans hroute) 0 [] false, fun hbell hlast => ?_⟩
  have hrings : (u.on (fFABRIC_IN_WIN_CTRL_DOORBELL w) && p.addr + p.len == winLimit u w + 1) = true := by
    rw [State.on_eq, fv_congr hregs, ← State.on_eq, winLimit, pair_congr hregs, ← winLimit, hbell, hlast]
    simp
  obtain ⟨hbit, hevent⟩ := doorbellRung_bit u w
  rw [fv_congr hsent.regs, fv_congr hsent.regs, doorbellHit_eq, if_pos hrings]
  exact ⟨hbit, hevent⟩

/-- A write to the host goes out on the link with its data. -/
theorem windowHostWrite (htyp : p.typ = 1) (hok : s.on (fFABRIC_IN_WIN_CTRL_WRITE_OK w) = true)
    (hspace : s.fv (fFABRIC_IN_WIN_CTRL_SPACE w) = 1) (hdom : domOn s 13 = true) (hhost : hostUp s = true)
    (hclean : p.poison = false) (hlen : p.data.length = p.len) (e : Bool) :
    Answered (requestReceived s k p e) j p 0 [] ∧ (requestReceived s k p e).mem = s.mem
      ∧ (requestReceived s k p e).wire = s.wire ++ [⟨a, p.data, false⟩] := by
  have hadmits : winAdmits s w p = true := by rw [winAdmits, hsrc, if_pos htyp, hok]; rfl
  have hdata : hostData s a p.data false = { s with wire := s.wire ++ [⟨a, p.data, false⟩] } := by
    rw [hostData, Bool.false_and, if_neg (by decide), hostWrite, if_pos hhost]
  rw [requestReceived_window hup hdst (.inl htyp) hwin, if_pos hadmits, serveReq_host ha hspace hdom hhost htyp, ← hlen,
    List.take_length, hclean, hdata]
  generalize hu : ({ s with wire := s.wire ++ [⟨a, p.data, false⟩] } : State) = u
  have hregs : u.regs = s.regs := by rw [← hu]
  have hsent := fabAnswer_posted (doorbellHit u w p) p 0 [] false
  have hroutes : RegsKept RouteReg s (doorbellHit u w p) := (RegsKept.of_regs hregs).trans (doorbellHit_routes u w p)
  refine ⟨fabAnswer_answered ((routePort_kept hroutes _).trans hroute) 0 [] false, ?_, ?_⟩
  · rw [hsent.mem, doorbellHit_mem, ← hu]
  · rw [hsent.wire, doorbellHit_wire, ← hu]
end

/-- A request that the window's sources or directions shut out. -/
theorem winAdmits_denied {s : State} {w : Nat} {p : FabPacket}
    (h : srcAllowed s w p.src = false ∨ s.on (if p.typ = 1 then fFABRIC_IN_WIN_CTRL_WRITE_OK w
      else fFABRIC_IN_WIN_CTRL_READ_OK w) = false) : winAdmits s w p = false := by
  obtain h | h := h
  · rw [winAdmits, h, Bool.false_and]
  · rw [winAdmits, h, Bool.and_false]

/-- Settles O28: a packet, an answer or a request for time is only given to a port, a window serves what it admits and counts
what it does not, and each lane of a port is asked for its state. -/
theorem fabricPacketsAndWindows : Obligations.FabricPacketsAndWindows := by
  refine ⟨?passed, ?unreachable, ?dead, ?write, ?read, ?targetError, ?host, ?noWindow, ?denied, ?response, ?stray, ?timeout,
    ?opens, ?refused, ?closes, ?ignored, ?firstBlock, ?laterBlock, ?badBlock, ?exchange, ?asked, ?estimate, ?slow, ?sleeps,
    ?notice, ?wakes⟩
  case passed =>
    intro s k j p hhub hdom hk hup hdst hhops hroute
    refine ⟨_, onFabric_of_on hhub hdom _, ?_⟩
    dsimp only
    rw [Nat.mod_eq_of_lt hk, packetForward_goes hup hdst hhops hroute]
    have hsent := portSend_posted s j (.packet (hopped p))
    exact ⟨portSend_given s j _, hsent.regs, hsent.mem⟩
  case unreachable =>
    intro s k p hhub hdom hk hup hdst hhops hroute
    refine ⟨_, onFabric_of_on hhub hdom _, ?_⟩
    dsimp only
    rw [Nat.mod_eq_of_lt hk, packetForward_lost hup hdst hhops hroute]
    have hroutes : RegsKept RouteReg s (fabReport (s.ev fFABRIC_EVENT_UNREACHABLE) p.dst 0x0006) :=
      (ev_routes (f := fFABRIC_EVENT_UNREACHABLE) (by decide) s).regs (fabReport_regs _ _ _)
    have hsent := refusedPacket_posted (fabReport (s.ev fFABRIC_EVENT_UNREACHABLE) p.dst 0x0006) p 3
    refine ⟨?_, ?_, fun j _ hask hj => refusedPacket_answered (by decide) hask ((routePort_kept hroutes _).trans hj)⟩
    · rw [fv_congr hsent.regs, fabReport, report_fv, fv_ev_set (by decide) (by decide)]
      rfl
    · rw [hsent.isl, fabReport, State.report_inbox, State.ev_isl]
  case dead =>
    intro s k p hhub hdom hk hup hdst hhops
    refine ⟨_, onFabric_of_on hhub hdom _, ?_⟩
    dsimp only
    rw [Nat.mod_eq_of_lt hk, packetForward_dead hup hdst hhops]
    have hsent := refusedPacket_posted (fabReport s p.dst 0x0007) p 5
    have hroutes : RegsKept RouteReg s (fabReport s p.dst 0x0007) := .of_regs (fabReport_regs _ _ _)
    refine ⟨hsent.regs.trans (fabReport_regs _ _ _), ?_,
      fun j _ hask hj => refusedPacket_answered (by decide) hask ((routePort_kept hroutes _).trans hj)⟩
    rw [hsent.isl, fabReport, State.report_inbox]
  case write =>
    intro s k p w a j hhub hdom hk hup hdst htyp hwin hsrc hok hspace ha hend hrange hlen hroute
    refine ⟨_, onFabric_of_on hhub hdom _, ?_⟩
    dsimp only
    rw [Nat.mod_eq_of_lt hk]
    exact windowWrite hup hdst hwin hsrc ha hroute htyp hok hspace hend hrange hlen
  case read =>
    intro s k p w a j hhub hdom hk hup hdst htyp hwin hsrc hok hspace ha hend hrange hroute
    refine ⟨_, onFabric_of_on hhub hdom _, ?_⟩
    dsimp only
    have hread : ¬ p.typ = 1 := by omega
    have hadmits : winAdmits s w p = true := by rw [winAdmits, hsrc, if_neg hread, hok]; rfl
    rw [Nat.mod_eq_of_lt hk, requestReceived_window hup hdst (.inr htyp) hwin, if_pos hadmits, serveReq_lp ha hspace hend hrange,
      if_neg (by decide), if_neg hread]
    have hsent := fabAnswer_posted s p 0 (memRead s a p.len) (memBad s a p.len)
    exact ⟨fabAnswer_answered hroute 0 _ _, hsent.mem, hsent.regs⟩
  case targetError =>
    intro s k p w a j hhub hdom hk hup hdst htyp hwin hsrc hok hspace ha hend hrange hroute
    refine ⟨_, onFabric_of_on hhub hdom _, ?_⟩
    dsimp only
    have hadmits : winAdmits s w p = true := by rw [winAdmits, hsrc, if_pos htyp, hok]; rfl
    rw [Nat.mod_eq_of_lt hk, requestReceived_window hup hdst (.inl htyp) hwin, if_pos hadmits, serveReq_lp ha hspace hend hrange,
      if_pos rfl]
    have hsent := fabAnswer_posted s p 4 [] false
    exact ⟨fabAnswer_failed hroute (by decide), hsent.mem, hsent.regs⟩
  case host =>
    intro s k p w a j e hhub hdom hk hup hdst htyp hwin hsrc hok hspace ha hpcie hhost hclean hlen hroute
    refine ⟨_, onFabric_of_on hhub hdom _, ?_⟩
    dsimp only
    rw [Nat.mod_eq_of_lt hk]
    exact windowHostWrite hup hdst hwin hsrc ha hroute htyp hok hspace hpcie hhost hclean hlen e
  case noWindow =>
    intro s k p e j hhub hdom hk hup hdst htyp hwin hroute
    refine ⟨_, onFabric_of_on hhub hdom _, ?_⟩
    dsimp only
    rw [Nat.mod_eq_of_lt hk, requestReceived_none hup hdst htyp hwin]
    exact refusal_counted rfl (by decide) hroute (by decide)
  case denied =>
    intro s k p e w j hhub hdom hk hup hdst htyp hwin hdeny hroute
    refine ⟨_, onFabric_of_on hhub hdom _, ?_⟩
    dsimp only
    rw [Nat.mod_eq_of_lt hk, requestReceived_window hup hdst htyp hwin, if_neg (by rw [winAdmits_denied hdeny]; decide)]
    exact refusal_counted rfl (by decide) hroute (by decide)
  case response =>
    intro s k p r hhub hdom hk hup hdst htyp hreq hsrc hdir
    refine ⟨_, onFabric_of_on hhub hdom _, ?_⟩
    dsimp only
    rw [Nat.mod_eq_of_lt hk, responseReceived_matches hup hdst htyp hreq hsrc hdir, ← hsrc]
    exact endReq_done hreq p.status p.data p.poison
  case stray =>
    intro s k p hhub hdom hk hup hdst htyp hreq
    refine ⟨_, onFabric_of_on hhub hdom _, ?_⟩
    dsimp only
    rw [Nat.mod_eq_of_lt hk, responseReceived_stray hup hdst htyp hreq]
    exact ⟨rfl, rfl⟩
  case timeout =>
    intro s tag r hhub hdom hreq hlate
    refine ⟨_, onFabric_of_on hhub hdom _, ?_⟩
    dsimp only
    rw [requestTimeout_eq hreq hlate]
    obtain ⟨hdone, hregs, hisl⟩ := endReq_done (s := timeoutTold s r.pkt.dst) (tag := tag) (r := r)
      (by rw [timeoutTold_fabric, hreq]) 256 [] false
    obtain ⟨hevent, hcount⟩ := timeoutTold_fv s r.pkt.dst
    rw [hdone, fv_congr hregs, fv_congr hregs, hisl, timeoutTold_inbox]
    exact ⟨rfl, hevent, hcount, rfl⟩
  case opens =>
    intro s w v hhub hdom hw hspace hoff hen hok
    refine ⟨_, onFabric_of_on hhub hdom _, ?_⟩
    dsimp only
    rw [Nat.mod_eq_of_lt hw, inWinCtrl_opens hspace hoff hok]
    exact winOpened hw hspace hen
  case refused =>
    intro s w v hhub hdom hw hspace hoff hen hbad
    refine ⟨_, onFabric_of_on hhub hdom _, ?_⟩
    dsimp only
    rw [Nat.mod_eq_of_lt hw, inWinCtrl_refuses hspace hoff hen hbad]
    refine ⟨?_, (cfgEvent_isolated s rfl).2⟩
    rw [fv_ev_set (by decide) (by decide)]
    rfl
  case closes =>
    intro s w v hhub hdom hw hspace hon hen hsame
    refine ⟨_, onFabric_of_on hhub hdom _, ?_⟩
    dsimp only
    rw [Nat.mod_eq_of_lt hw, inWinCtrl_closes hspace hon hen hsame]
    refine ⟨?_, ((RegsKept.refl _ s).setF 0 (by simp)).but⟩
    rw [winEn_ctrl (State.fv_setF_same _ _ _ (by dsimp only; decide))]
    rfl
  case ignored =>
    intro s w v hhub hdom hw hspace hon hen hdiff
    refine ⟨_, onFabric_of_on hhub hdom _, ?_⟩
    dsimp only
    rw [Nat.mod_eq_of_lt hw, inWinCtrl_ignores hspace hon hen hdiff, winIgnored]
    refine ⟨?_, ?_, ?_⟩
    · rw [fabReport, report_fv, fv_ev_set (by decide) (by decide)]
      rfl
    · exact (((RegsKept.refl _ s).ev (ButEvents.not_of_mem (by simp)) (ButEvents.not_irqReg _)).report _ _ _ _).butEvents
    · rw [fabReport, State.report_inbox, State.ev_isl]
  case firstBlock =>
    intro s st b hhub hdom hst hpeer hblock hnew
    refine ⟨_, onFabric_of_on hhub hdom _, ?_⟩
    dsimp only
    rw [Nat.mod_eq_of_lt hst, peerPoll_block hpeer (.inl hnew), peerBlock_eq, if_neg (by simp [hblock]), if_neg (by simp [hnew]),
      peerOf_setPeer]
    exact ⟨rfl, setPeer_regs s st _⟩
  case laterBlock =>
    intro s st b hhub hdom hst hpeer hblock hvalid hwait
    refine ⟨_, onFabric_of_on hhub hdom _, ?_⟩
    dsimp only
    rw [Nat.mod_eq_of_lt hst, peerPoll_block hpeer (.inr hwait), peerBlock_eq, if_neg (by simp [hblock]), if_pos hvalid,
      peerOf_setPeer]
    exact ⟨rfl, setPeer_regs s st _⟩
  case badBlock =>
    intro s st b hhub hdom hst hpeer hblock hnew
    refine ⟨_, onFabric_of_on hhub hdom _, ?_⟩
    dsimp only
    rw [Nat.mod_eq_of_lt hst, peerPoll_block hpeer (.inl hnew), peerBlock_eq, if_pos (by simp [hblock])]
    refine ⟨?_, ?_, ?_⟩
    · rw [peerOf, fabReport, State.report_fabric, State.ev_fabric, ← peerOf, peerOf_setPeer]
    · rw [fabReport, report_fv, fv_ev_set (by decide) (by decide)]
      rfl
    · rw [fabReport, State.report_inbox, State.ev_isl]
      rfl
  case exchange =>
    intro s k hhub hdom hparent hup hdue
    refine ⟨_, onFabric_of_on hhub hdom _, ?_⟩
    dsimp only
    rw [timeExchange_eq hparent hup hdue]
    have hsent := portSend_posted (exchangeStarted (updFabPort s k fun x => { x with replayed := false })) k .timeReq
    refine ⟨?_, ?_, portSend_given _ k _, hsent.regs.trans rfl⟩
    · rw [hsent.fabric]
      rfl
    · rw [hsent.fabric]
      rfl
  case asked =>
    intro s k turn hhub hdom hk hup hroot
    refine ⟨_, onFabric_of_on hhub hdom _, ?_⟩
    dsimp only
    have hvalid : timeValid s = (s.fv fREGU_CTRL_SRC == 1) := by
      rw [timeValid, hroot, Bool.true_or, Bool.true_or, Bool.and_true]
    rw [Nat.mod_eq_of_lt hk, timeReq, if_pos hup]
    dsimp only
    rw [if_pos hroot, hvalid]
    exact ⟨portSend_given s k _, (portSend_posted s k _).regs⟩
  case estimate =>
    intro s k t1 t2 t3 est n hhub hdom hk h1 hparent hlow hhigh hfresh hexact
    refine ⟨_, onFabric_of_on hhub hdom _, ?_⟩
    dsimp only
    have hoffset : twiceOffset s k t1 t2 t3 = 2000 * n := hexact
    have hshort : ¬ (!true || roundTrip t1 t2 t3 s.dial < 0 || 2000 < roundTrip t1 t2 t3 s.dial || (fabPort s k).replayed) = true := by
      have h0 : ¬ roundTrip t1 t2 t3 s.dial < 0 := not_lt.mpr hlow
      have h2 : ¬ 2000 < roundTrip t1 t2 t3 s.dial := not_lt.mpr hhigh
      rw [decide_eq_false h0, decide_eq_false h2, hfresh]
      decide
    rw [Nat.mod_eq_of_lt hk, timeRsp_eq h1 hparent, if_neg hshort, hoffset, offsetTaken_whole]
    rfl
  case slow =>
    intro s k t1 t2 t3 est hhub hdom hk h1 hparent hslow
    refine ⟨_, onFabric_of_on hhub hdom _, ?_⟩
    dsimp only
    have hlong : (!true || roundTrip t1 t2 t3 s.dial < 0 || 2000 < roundTrip t1 t2 t3 s.dial || (fabPort s k).replayed) = true := by
      have h2 : 2000 < roundTrip t1 t2 t3 s.dial := hslow
      rw [decide_eq_true h2, Bool.or_true, Bool.true_or]
    rw [Nat.mod_eq_of_lt hk, timeRsp_eq h1 hparent, if_pos hlong]
    exact ⟨rfl, rfl, rfl⟩
  case sleeps =>
    intro s k hhub hdom hk hup hwait hawake hen hdeep hidle
    refine ⟨_, onFabric_of_on hhub hdom _, ?_⟩
    dsimp only
    rw [Nat.mod_eq_of_lt hk]
    exact idleSleep_light hup hwait hawake hen hdeep hidle
  case notice =>
    intro s k st hhub hdom hk hup hst
    refine ⟨_, onFabric_of_on hhub hdom _, ?_⟩
    dsimp only
    rw [Nat.mod_eq_of_lt hk, sleepNotice, if_pos (by simp [hup, hst])]
    exact ⟨fun m hm => portLanesReq_asked (Q := fun x => x.reqRx = st) (fun _ => rfl) hm, portLanesReq_fabric _ _ _ _,
      portLanesReq_regs _ _ _ _⟩
  case wakes =>
    intro s k hhub hdom hk hasleep hwait
    refine ⟨_, onFabric_of_on hhub hdom _, ?_⟩
    dsimp only
    rw [Nat.mod_eq_of_lt hk]
    exact portWake_wakes hasleep hwait

end Sys2Proof.Machine
